-- ==== Sys2Proof/Word.lean ====
section
/-!
DEFINITION. The word of the register space (R63: every register is 32 bits wide), the byte, and their plainest arithmetic.
-/
namespace Sys2Proof

/-- A register of the register space (R63). -/
abbrev Word := BitVec 32

/-- A byte of a message, a frame or a memory. -/
abbrev Byte := BitVec 8

/-- The word that holds a natural number modulo 2^32. -/
abbrev Word.ofNat (n : Nat) : Word := BitVec.ofNat 32 n

end Sys2Proof
end

