-- ==== Sys2Proof/Syntax.lean ====
section
/-!
DEFINITION. The commands of the block (one constructor of Instr per row of spec/opcode_table.json) and the types of their operands:
who asks (R85, R92), what is measured at the instant of an event, and what a message carries.
-/
namespace Sys2Proof

/-- Who makes an access (R85, R92): the host port, a Ralkiul session 0x10 + i, a built-in service, the scan program, a dispatch message (R319), the pair link. -/
inductive Initiator
  | host
  | ralkiul (i : Fin 8)
  | service
  | scanProgram
  | dispatch
  | pairLink
  deriving DecidableEq, Repr

/-- The session identifier of an initiator (R92); 0x00 means no session. -/
def Initiator.id : Initiator → Nat
  | .host => 0x01
  | .ralkiul i => 0x10 + i.val
  | .service => 0x00
  | .scanProgram => 0x00
  | .dispatch => 0x00
  | .pairLink => 0x00

/-- What the measurement bough reads at an instant (R231): currents in mA, voltages in mV; VCOIL, VAUX and the hold-up bank (Table 2-13) in units of 10 mV. -/
structure Readings where
  iString : Int := 0
  iHall : Int := 0
  vString : Int := 0
  vPlant : Int := 0
  vLink : Int := 0
  vCoil : Nat := 0
  vAux : Nat := 0
  bank : Nat := 0
  deriving DecidableEq, Repr

/-- Which partner devices of Table 1-4 that the module sees by other means than its registers are present (R29). -/
structure Partners where
  gateBoards : Bool := true
  contactorInterface : Bool := true
  shunt : Bool := true
  vcoil : Bool := true
  hall : Bool := true
  networks : Bool := true
  deriving DecidableEq, Repr

/-- The opcode byte and the three address bytes of a host port transaction (R94): whole, or cut short by the rising edge of HOST_CS_N. -/
inductive TxHead
  | whole (op : Byte) (addr : BitVec 24)
  | cut (bytes : List Byte)
  deriving DecidableEq, Repr

/-- The frames discarded for their CRC (R116) and the code and disparity errors (Table 5-8) at a ring port since a command last carried them. -/
structure PortErr where
  crc : Nat := 0
  code : Nat := 0
  deriving DecidableEq, Repr

/-- The errors at ring port A and at ring port B. -/
structure PortErrs where
  a : PortErr := {}
  b : PortErr := {}
  deriving DecidableEq, Repr

/-- The payload of a node's reply, and the errors seen at the ring ports meanwhile (R116, R118). -/
structure ReplyData where
  payload : List Byte
  errs : PortErrs := {}
  deriving DecidableEq, Repr

/-- The nodes whose NOP reply has arrived, one bit a node: at the down port and at the other port (R128). -/
structure NopAnswers where
  down : BitVec 32
  up : BitVec 32
  deriving DecidableEq, Repr

/-- A harvest under way, as its SYNC tag names it (R112, R139): its kind and its SEQ modulo 16. -/
structure HarvestTag where
  kind : Fin 4
  seq : Fin 16
  deriving DecidableEq, Repr

/-- The UDP ports of a datagram (R100): its source's and the one it is sent to. -/
structure UdpPorts where
  src : BitVec 16
  dst : BitVec 16
  deriving DecidableEq, Repr

/-- A copy of a safety message (R339): the UDP port it is sent to, and its bytes. -/
structure SafetyDatagram where
  dst : BitVec 16
  bytes : List Byte
  deriving DecidableEq, Repr

/-- A phase current input as its comparator sees it (R187): at clock t of the period, in µV. -/
structure ComparatorInput where
  t : Int
  uv : Int
  deriving DecidableEq, Repr

/-- What a frame on CLMM0 carries beside its CLAIM and HB (R353, Table 17-2): whether it followed 3 bit times of steady low and all 33 bits were valid Manchester symbols, and its CRC. -/
structure ClaimLine where
  symbols : Bool := true
  crc : BitVec 8 := 0
  deriving DecidableEq, Repr

/-- A NONCE transaction (R94, R98): the address, and how many bytes are clocked out. -/
structure NonceRead where
  addr : BitVec 24
  n : Nat
  deriving DecidableEq, Repr

/-- What wakes the module from dormant STANDBY (R52), beside the always-on timer. -/
inductive Wake
  | host | ralkiul | can (ch : Fin 4) | input | loop
  deriving DecidableEq, Repr

/-- The link a dispatch message came by (R316): an Ethernet port with the sender's address and UDP port and the port it was sent to, or a CAN channel with its identifier. -/
inductive Via
  | eth (port : Fin 2) (ip udp dst : Nat)
  | can (ch : Fin 4) (id : Nat)
  deriving DecidableEq, Repr

/-- A frame as a CAN channel receives it (Table 22-2): identifier, its format bits, DLC and data. -/
structure CanFrame where
  id : Nat
  ide : Bool := false
  rtr : Bool := false
  fdf : Bool := false
  brs : Bool := false
  esi : Bool := false
  dlc : Fin 16 := 0
  data : List Byte := []
  deriving DecidableEq, Repr

/-- The envelope of an SRD under way, as mirrored (R365): i0, 2.5 ns clocks since its ramp began, its cause, the fast one, whether the latch is to be set. -/
structure SrdSnap where
  i0 : Int := 0
  clocks : Nat := 0
  cause : Nat := 0
  fast : Bool := false
  latch : Bool := false
  deriving DecidableEq, Repr

/-- The loop snapshot of Table 17-3: the active unit's mode and contactor drive, measurements in mV and mA, limits, the state of R222, and an SRD under way. -/
structure LoopSnap where
  mode : Nat := 0
  drive : Nat := 0
  vStr : Int := 0
  vBus : Int := 0
  iStr : Int := 0
  iChg : Int := 0
  iDis : Int := 0
  iSet : Int := 0
  iCmd : Int := 0
  iTot : Int := 0
  integ : List Int := []
  rEff : List (Nat × Int) := []
  hist : List (List (Nat × Int)) := []
  shares : List Nat := []
  srd : Option SrdSnap := none
  deriving DecidableEq, Repr

/-- A mirrored item of Table 17-3: the services' items are ONTIME reads, a run's start (run number, period count, captured words), a set's entries (cell × 8 + tone, R, X), the Almanac's sequence numbers. -/
inductive Mirror
  | loop (x : LoopSnap)
  | estimator (cells : List (List Int))
  | digest (hseq crc : Nat)
  | dispatch (target setPoint : Int) (stale : Bool)
  | scan (task : Nat) (data : List Byte)
  | onTime (ms : List (Nat × Nat))
  | plan (timers : List (Nat × List Nat))
  | impedRun (run period : Nat) (cap : List (Nat × Nat))
  | impedSet (z : List (Nat × Int × Int))
  | almanac (seqs : List Nat)
  | formats (mir mirMin : Nat)
  deriving DecidableEq, Repr

/-- One quantity over a reduction window (R306): Σx, Σx², extremes, and the extremes of the samples since its peak pair was last cleared. -/
structure Reduced where
  sum : Int := 0
  sumSq : Nat := 0
  lo : Int := 0
  hi : Int := 0
  pkLo : Int := 0
  pkHi : Int := 0
  deriving DecidableEq, Repr

/-- What a start finds (Table 2-5): VAUX above 18.6 V, the string-derived supply within its range, the UNIT strap (0 unit A, 1 unit B, none open), the image slots that fail their boot check twice though their contents verify (bits 0 and 1), neither copy of the boot record valid (R489), an Almanac staging write that the loss of power cut, the engines that fail their self-test of step 6 twice. -/
structure Start where
  vaux : Bool := true
  sds : Bool := false
  strap : Option (Fin 2) := none
  badSlots : Fin 4 := 0
  noRecord : Bool := false
  torn : Bool := false
  engines : List (Fin 64) := []
  deriving DecidableEq, Repr

/-- An instruction of the test access port (R546), EXTEST with the levels its boundary register gives output pins by number. -/
inductive TapOp
  | bypass
  | idcode
  | samplePreload
  | extest (pins : List (Nat × Bool))
  | other
  deriving DecidableEq, Repr

/-- The commands and events of the block: one constructor per row of spec/opcode_table.json, with the operands its rule speaks of. -/
inductive Instr
  /-- POWER_ON_RESET (R44): VAUX or the string-derived supply is applied, or a TRANSPORT wake occurs, and the module runs the power-on sequence of Table 2-5 from step 1. -/
  | powerOnReset (i : Start)
  /-- SUPPLY_RESET (R47): An internal rail leaves its range and the module restarts from step 1. -/
  | supplyReset (i : Start)
  /-- EXTERNAL_RESET_PIN (R47): EXT_RST_N is held low for at least 10 µs and the module restarts from step 2. -/
  | externalResetPin (i : Start)
  /-- WATCHDOG_RESET (R47): The Crown's service heartbeat has been absent for 250 ms and the module restarts from step 5. -/
  | watchdogReset (i : Start)
  /-- SOFTWARE_WARM_RESET (R49): RESET.CMD is written with KEY 0xA5C3 and ACTION 0b01; the reset is taken, or refused in CONNECT, RUN or HOLD on an active or solo unit. -/
  | softwareWarmReset (who : Initiator) (key : Fin 65536) (action : Fin 4)
  /-- PAIR_FORCED_RESET (R47): A secure reset command arrives from the pair partner and the module restarts from step 5. -/
  | pairForcedReset (i : Start)
  /-- START_COMPLETE (R44): Once steps 3, 8 and 9 are complete, the module enters STANDBY, or SAFE while SAFE_LATCH is set, and records the reset kind. The outcome of steps 3 to 8 (R45): 0 each passed, 1 one failed once and passed its second attempt, 2 one failed twice. -/
  | startComplete (outcome : Fin 3)
  /-- BANK_OK (R44): The hold-up bank rises to 46 V and SUPPLY.STATUS.BANK_OK is set. -/
  | bankOk
  /-- VAUX_WARNING (R59): VAUX falls below 18.0 V; the module starts HOLD, moves the feed under R58, or stays in its mode under R39 or R556. -/
  | vauxWarning
  /-- VAUX_WARNING_RELEASE (R60): VAUX rises above 18.6 V; a HOLD ends with recovery, or VAUX_OK returns to 1. -/
  | vauxWarningRelease
  /-- HOLD_MAX_EXPIRY (R61): HOLD_MAX expires in HOLD and the module performs the fast SRD. -/
  | holdMaxExpiry
  /-- BANK_RESERVE (R61): The hold-up bank falls below 36 V, which ends a HOLD without recovery. -/
  | bankReserve
  /-- VAUX_RESET (R556): VAUX falls below 15.5 V and a supply reset is taken where it is called for. -/
  | vauxReset
  /-- MODE_REQ_TRANSPORT (R53): A request for TRANSPORT is checked and, if it is accepted, TRANSPORT entry is carried out. -/
  | modeReqTransport (who : Initiator)
  /-- MODE_REQ_STANDBY (R37): A request for STANDBY is checked; it leads to an orderly disconnect, a start abort, or the SAFE exit of R554. -/
  | modeReqStandby (who : Initiator)
  /-- SAFE_EXIT_JUDGEMENT (R554): 20 ms after the last FAULT_CLEAR reply, the module judges the loop and enters STANDBY or stays in SAFE. -/
  | safeExitJudgement
  /-- MODE_REQ_CONNECT (R241): A request for CONNECT is checked and the tracking start-up begins. -/
  | modeReqConnect (who : Initiator) (p : Partners)
  /-- MODE_REQ_RUN (R37): A request for RUN from REST is checked and taken. -/
  | modeReqRun (who : Initiator) (p : Partners)
  /-- MODE_REQ_REST (R37): A request for REST from RUN ramps i_cmd to zero, stops the gates and enters REST. -/
  | modeReqRest (who : Initiator)
  /-- MODE_REQ_SAFE_ACKNOWLEDGE (R42): TARGET 0x6 is accepted as a no-op. -/
  | modeReqSafeAcknowledge (who : Initiator)
  /-- MODE_REQ_SERVICE (R37): A secure request for SERVICE from STANDBY or SAFE is checked and taken. -/
  | modeReqService (who : Initiator)
  /-- MODE_REQ_DORMANT (R51): A request with DORMANT = 1 in STANDBY enters dormant STANDBY, or is refused in a pair. -/
  | modeReqDormant (who : Initiator)
  /-- DORMANT_WAKE (R52): A wake request arrives (chip-select, Ralkiul, CAN dominant, digital input or fault loop) and the module restarts its domains and returns to STANDBY. -/
  | dormantWake (w : Wake)
  /-- AON_TIMER_WAKE (R52): The always-on timer expires in dormant STANDBY and wakes the module. -/
  | aonTimerWake
  /-- TRANSPORT_VAUX_ARM (R55): VAUX has stayed below 5 V for 1 s in TRANSPORT and the VAUX wake is armed. -/
  | transportVauxArm
  /-- TRANSPORT_WAKE (R55): VAUX rises through 18.6 V, or the bus rises above 100 V, while a wake is armed, and a power-on reset starts. -/
  | transportWake (bus : Bool) (i : Start)
  /-- REGISTER_WRITE (R14): A write reaches a register that has no row of its own and takes effect according to its access code. -/
  | registerWrite (who : Initiator) (addr : BitVec 20) (data : BitVec 32)
  /-- STAGED_WRITE (R70): A write to a staged copy sets ownership, DIRTY and STATE STAGING, or is refused as staging-busy or frozen. -/
  | stagedWrite (who : Initiator) (page : Fin 256) (reg : Fin 512) (data : BitVec 32)
  /-- CHECK (R72): CROWN.STAGE_CTRL.CHECK starts the consistency check of the dirty pages. -/
  | checkCmd (who : Initiator) (kind task : Fin 4) (lead : Fin 65536)
  /-- CHECK_COMPLETE (R72): The check finishes and STATE becomes PASSED or FAILED, with STAGE_ERR set. -/
  | checkComplete
  /-- APPLY (R75): CROWN.STAGE_CTRL.APPLY arms an apply edge, or is refused with a CAUSE. -/
  | applyCmd (who : Initiator) (kind task : Fin 4) (lead : Fin 65536)
  /-- ABORT (R81): CROWN.STAGE_CTRL.ABORT cancels an ARMED apply with CAUSE 0xA. -/
  | abortCmd (who : Initiator) (kind task : Fin 4) (lead : Fin 65536)
  /-- DISCARD_ALL (R70): Every page's staged values are discarded and ownership ends. -/
  | discardAll (who : Initiator) (kind task : Fin 4) (lead : Fin 65536)
  /-- DISCARD (R70): A page's STAGE_CTRL.DISCARD copies its live values to its staged copy. -/
  | discardCmd (who : Initiator) (page : Fin 256)
  /-- STAGING_TIMEOUT (R70): 60 s pass without a staged write or command from the owner, and ownership ends. -/
  | stagingTimeout
  /-- APPLY_LAUNCH (R77): 2 phase-0 periods before the edge, the apply is launched; mode rules are re-evaluated and values move into the pending shadows. -/
  | applyLaunch
  /-- APPLY_LOAD_DEADLINE (R79): 1 period before the edge, an unconfirmed unit load withholds the edge and cancels the apply with CAUSE 0x7. -/
  | applyLoadDeadline (unloaded : List Nat)
  /-- APPLY_EDGE (R79): The edge pulse is sent to every unit, which moves its pending shadow into its live registers. -/
  | applyEdge
  /-- APPLY_TAKEUP_COMPLETE (R80): The last take-up completes; pages are cleaned, STATE returns to IDLE and the apply is recorded. -/
  | applyTakeupComplete
  /-- SECURE_COMMIT (R89): WORLD.COMMIT with KEY and GO checks, applies and starts writing the configuration store, or is refused. -/
  | secureCommit (who : Initiator) (key : Fin 65536)
  /-- COMMIT_STORE_COMPLETE (R89): The store write of a secure commit ends; LOCKED is set and STATE 2 or 4 is reported. -/
  | commitStoreComplete (outcome : Fin 3)
  /-- EVT_STATUS_CLEAR (R69): A W1C write clears EVT_STATUS bits, so that the next occurrence notifies again. -/
  | evtStatusClear (who : Initiator) (page : Fin 256) (mask : BitVec 32)
  /-- RETRY_CNT_CLEAR (R66): RETRY_CNT.CLR clears the page's second-attempt count. -/
  | retryCntClear (who : Initiator) (page : Fin 256)
  /-- LASTING_CLEAR (R66): LASTING.CLR clears CODE and COUNT. -/
  | lastingClear (who : Initiator) (page : Fin 256)
  /-- HOST_READ (R95): A host port READ transaction returns consecutive registers from the CD9 shadows. -/
  | hostRead (addr : BitVec 24) (n : Nat)
  /-- HOST_WRITE (R96): A host port WRITE is committed at HOST_CS_N rising if it is complete and its tag verifies, or is refused. -/
  | hostWrite (head : TxHead) (bytes : List Byte)
  /-- HOST_NONCE (R98): The NONCE opcode returns a fresh module nonce. -/
  | hostNonce (x : NonceRead)
  /-- HOST_OPEN (R98): OPEN verifies the proof and opens a secure host port session. -/
  | hostOpen (addr : BitVec 24) (bytes : List Byte)
  /-- HOST_CLOSE (R99): A tagged CLOSE ends the secure host port session. -/
  | hostClose (addr : BitVec 24) (bytes : List Byte)
  /-- HOST_SESSION_TIMEOUT (R99): 60 s pass without a tagged transaction and the secure session ends. -/
  | hostSessionTimeout
  /-- RALKIUL_OPEN (R102): A Ralkiul OPEN is answered with CHALLENGE, or with ERROR busy. -/
  | ralkiulOpen (p : Fin 2) (ip : BitVec 32) (udp : UdpPorts) (b : List Byte)
  /-- RALKIUL_PROOF (R102): A PROOF is verified, and the session opens with ACCEPT in the world whose key verified it. -/
  | ralkiulProof (p : Fin 2) (ip : BitVec 32) (udp : UdpPorts) (b : List Byte)
  /-- RALKIUL_READ (R104): A Ralkiul READ is executed and answered with READ_RESP, or answered again from stored responses. -/
  | ralkiulRead (p : Fin 2) (ip : BitVec 32) (udp : UdpPorts) (b : List Byte)
  /-- RALKIUL_WRITE (R104): A Ralkiul WRITE is executed and answered after take-up. -/
  | ralkiulWrite (p : Fin 2) (ip : BitVec 32) (udp : UdpPorts) (b : List Byte)
  /-- RALKIUL_NOTIFY_ACK (R107): A NOTIFY_ACK acknowledges the outstanding NOTIFY. -/
  | ralkiulNotifyAck (p : Fin 2) (ip : BitVec 32) (udp : UdpPorts) (b : List Byte)
  /-- RALKIUL_KEEPALIVE (R105): A KEEPALIVE is accepted and refreshes the session timeout. -/
  | ralkiulKeepalive (p : Fin 2) (ip : BitVec 32) (udp : UdpPorts) (b : List Byte)
  /-- RALKIUL_CLOSE (R105): CLOSE ends the session and its staging ownership. -/
  | ralkiulClose (p : Fin 2) (ip : BitVec 32) (udp : UdpPorts) (b : List Byte)
  /-- RALKIUL_CHALLENGE_LAPSE (R102): A CHALLENGE without a valid PROOF for 2 s lapses. -/
  | ralkiulChallengeLapse (i : Fin 8)
  /-- RALKIUL_SESSION_TIMEOUT (R105): RK_CFG.TIMEOUT seconds pass without an accepted message and the session closes. -/
  | ralkiulSessionTimeout (i : Fin 8)
  /-- NOTIFY_RETRY (R107): An unacknowledged NOTIFY is sent again after 50 ms; after three retries NOTIFY_LOST is set. -/
  | notifyRetry (i : Fin 8)
  /-- RING_PORT_LINK_DOWN (R111): A ring port's receive stream stops or loses synchronisation and the ring enters BROKEN. -/
  | ringPortLinkDown (port : Fin 2) (codeErrs : BitVec 16)
  /-- RING_PORT_SYNCHRONISED (R111): A ring port receives 3 valid IDLE sequences and is synchronised. -/
  | ringPortSynchronised (port : Fin 2)
  /-- RING_REPLY (R118): A valid node reply arrives and the first copy is accepted and acted on. -/
  | ringReply (n : Fin 32) (cmd seq : BitVec 8) (status : BitVec 4) (data : ReplyData)
  /-- RING_REPLY_TIMEOUT (R130): 50 µs pass without a valid reply; the command is retransmitted with a new SEQ, or the fault is lasting. -/
  | ringReplyTimeout (n : Fin 32) (cmd seq : BitVec 8) (errA errB : PortErr)
  /-- RING_SEQ_RELEASE (R117): A command held back for SEQ reuse is launched once its SEQ may be used. -/
  | ringSeqRelease
  /-- LINK_REPORT (R129): A node's LINK_REPORT arrives and the module enters BROKEN and locates the break. -/
  | linkReport (n : Fin 32)
  /-- KEEPALIVE (R128): The keepalive interval expires and the module sends a NOP from both ports. -/
  | keepalive
  /-- KEEPALIVE_RETURN (R128): The module's own NOP returns and NOP replies arrive, which update the ring state, heal detection and break location. -/
  | keepaliveReturn (answers : NopAnswers) (loopNs : BitVec 16) (errs : PortErrs)
  /-- KEEPALIVE_FAIL (R128): The own NOP does not return within ring time + 10 µs and counts towards BROKEN or LOST. -/
  | keepaliveFail (answers : NopAnswers) (errs : PortErrs)
  /-- ENUM_RETURN (R121): An ENUM returns on the other port; the second ENUM is sent or the NEXT values are compared. -/
  | enumReturn (next : BitVec 8)
  /-- ENUM_TIMEOUT (R121): 10 µs pass without the ENUM returning and enumeration proceeds. -/
  | enumTimeout
  /-- ECHO_RETURN (R124): An echo frame returns and the round trip is measured towards the delays and SET_OFS. -/
  | echoReturn (n : Fin 32) (side : Fin 2) (rt : BitVec 16)
  /-- DELAY_PERIOD (R124): DELAY_PERIOD seconds expire and the delays are re-measured. -/
  | delayPeriod
  /-- WAKE_SEQUENCE_RETURN (R132): The wake sequence returns on both ports and is stopped, and enumeration follows. -/
  | wakeSequenceReturn
  /-- WAKE_SEQUENCE_TIMEOUT (R132): 300 ms after it began, the wake sequence is stopped. -/
  | wakeSequenceTimeout
  /-- ENUMERATE (R137): RING.CMD.ENUMERATE re-enumerates the ring, or is refused in CONNECT, RUN and HOLD. -/
  | enumerateCmd (who : Initiator)
  /-- MEASURE (R137): RING.CMD.MEASURE re-measures all delays. -/
  | measureCmd (who : Initiator)
  /-- RING_CLR_ERR (R137): RING.CMD.CLR_ERR clears ERRA and ERRB. -/
  | ringClrErr (who : Initiator)
  /-- HARVEST_SLOT (R141): A slot's launch time arrives and the SYNC of the harvest kind is launched from both ports, or the slot is missed. -/
  | harvestSlot (r : Readings) (lag : Fin 40) (moved : Bool)
  /-- PAUSE_LAUNCH (R144): 52 µs before an aligned SYNC, the PAUSE SYNC is launched. -/
  | pauseLaunch
  /-- HARVEST_DATA (R145): A node harvest data frame arrives and is collected, or discarded for a COUNT mismatch. -/
  | harvestData (n : Fin 32) (cmd : BitVec 8) (seq : Fin 16) (port : Fin 2) (crcOk : Bool) (payload : List Byte)
  /-- HARVEST_DATA_DEADLINE (R148): At the data deadline, a RESEND is sent to each node whose frame is missing, where time permits. -/
  | harvestDataDeadline (tag : HarvestTag)
  /-- HARVEST_CLOSE (R149): The harvest closes; the record is built, pushed to its stream ring and CELLV is updated. -/
  | harvestClose (tag : HarvestTag)
  /-- T_HARVEST_DUE (R143): A T harvest falls due at T_NORM or T_FAST. -/
  | tHarvestDue
  /-- T_HARVEST_LAUNCH (R143): The T SYNC is launched at the first midpoint or spacing that qualifies. -/
  | tHarvestLaunch (r : Readings)
  /-- ONESHOT_V (R140): HARVEST.CMD.ONESHOT V takes the next slot as a V or VC harvest. -/
  | oneshotV (who : Initiator)
  /-- ONESHOT_C (R140): HARVEST.CMD.ONESHOT C adds a coarse harvest to the next slot. -/
  | oneshotC (who : Initiator)
  /-- ONESHOT_T (R159): HARVEST.CMD.ONESHOT T launches a T harvest at once. -/
  | oneshotT (who : Initiator) (r : Readings)
  /-- PLAUSIBILITY_CHECK (R153): The checks C1 to C4 are evaluated on a pushed record under the second-attempt rule. -/
  | plausibilityCheck
  /-- FREEZE (R151): CELLV.SNAP.FREEZE holds or releases every CELLV value. -/
  | freezeCmd (who : Initiator) (b : Bool)
  /-- FREEZE_EXPIRY (R151): 1 s after FREEZE was set, the module clears it. -/
  | freezeExpiry
  /-- LOOP_OPEN (R156): The loop current stays below 3 mA for 200 ns; a class H reaction follows and FAULT_READ is sent. -/
  | loopOpen (ma : BitVec 8)
  /-- LOOP_CLOSED (R156): The loop current has stayed above 6 mA for 10 ms and the loop counts as closed. -/
  | loopClosed (ma : BitVec 8)
  /-- PLAN_INTERVAL (R163): PLAN_S expires and the balancing planner runs. -/
  | planInterval
  /-- PLAN_NOW (R163): BAL.CMD.PLAN_NOW starts a plan and restarts the count. -/
  | planNow (who : Initiator)
  /-- BAL_STOP (R173): BAL.CMD.STOP sends STOP_ALL and confirms RUNNING = 0. -/
  | balStop (who : Initiator)
  /-- STOP_CONFIRM_TIMEOUT (R173): A node has not confirmed the stop within the bound; it is stopped again or left and recorded. -/
  | stopConfirmTimeout (n : Fin 32)
  /-- CLR_NFAULT (R172): BAL.CMD.CLR_NFAULT clears NFAULT, or is refused in RUN. -/
  | clrNfault (who : Initiator)
  /-- PHASE0_BOUNDARY (R76): The phase-0 period counter completes a period. -/
  | phase0Boundary
  /-- PERIOD_START (R184): A phase's period starts; its command is taken up and its edges are conditioned and placed. -/
  | periodStart (n : Fin 16)
  /-- CENTRE_TAKEUP (R182): At t_c a command is taken up that moves only the OFF edges. -/
  | centreTakeup (n : Fin 16)
  /-- CBC_TRIP (R189): A phase current comparator trips outside blanking and the phase enters its lowering or raising state. -/
  | cbcTrip (n : Fin 16) (positive : Bool) (input : ComparatorInput)
  /-- FAULT_RETURN (R192): A phase fault return is at a fault level for 10 ns; the gates turn off, the phase is latched faulted and DESAT's reaction starts. -/
  | faultReturn (n : Fin 16) (fault : Bool)
  /-- PHASE_CLR_FAULT (R192): PHASE.CMDn.CLR_FAULT clears the latched fault where permitted. -/
  | phaseClrFault (who : Initiator) (n : Fin 16)
  /-- SHED_HOLD_EXPIRY (R201): SHED_HOLD ends after a cancel and shedding is permitted again. -/
  | shedHoldExpiry
  /-- BURST_OFF_END (R197): The burst off interval count ends and the next burst starts. -/
  | burstOffEnd
  /-- INNER_SAMPLE (R209): A phase current is sampled and its inner instance is evaluated to give the next command. -/
  | innerSample (n : Fin 16) (atStart : Bool) (code : BitVec 16) (late : Bool)
  /-- OUTER_SAMPLE (R210): At every OUTER_DIV-th boundary the outer batch forms i_tot, and shed, add and burst are decided. -/
  | outerSample (r : Readings)
  /-- START_SAMPLE (R208): PER/2 before a starting phase's first period, its instance is evaluated for the first command. -/
  | startSample (n : Fin 16) (code : BitVec 16)
  /-- LOOP_PLAUS_WINDOW (R227): At the end of a WIN window, the models M1 to M3 are evaluated under the second-attempt rule. -/
  | loopPlausWindow (meanI dV : Int)
  /-- CONTACTOR_FEEDBACK (R235): A debounced feedback contact changes level and advances the sequence waiting on it. -/
  | contactorFeedback (k : Fin 6) (closed : Bool)
  /-- FB_CLOSE_TIMEOUT (R235): An energised contactor does not report closed within FB_CLOSE_MAX, so it is released for 100 ms or FB_FAULT is set. -/
  | fbCloseTimeout (k : Fin 6)
  /-- FB_REPULL (R235): After the 100 ms release, the driver is pulled in again. -/
  | fbRepull (k : Fin 6)
  /-- FB_OPEN_TIMEOUT (R235): A de-energised contactor still reports closed after FB_OPEN_MAX; it is re-read, or WELD is set. -/
  | fbOpenTimeout (k : Fin 6)
  /-- PULL_IN_END (R234): PULL_MS elapses and the driver changes to hold PWM. -/
  | pullInEnd (k : Fin 6)
  /-- COIL_OVERCURRENT (R514): A coil driver exceeds 6 A and switches off until it is next energised. -/
  | coilOvercurrent (k : Fin 6)
  /-- PRECHARGE_PEAK_WINDOW (R241): 5 ms after K3 closes, the precharge peak is checked against 0.5–1.5 × V_string / R_PRE. -/
  | prechargePeakWindow (peak : Nat)
  /-- PRECHARGE_END (R241): |I_string| has stayed at or below I_END for 5 ms; K1 and K2 are energised. -/
  | prechargeEnd (ms : Nat)
  /-- PRECHARGE_TIMEOUT (R242): The precharge has not ended within 6τ + 50 ms and the start aborts with code 4. -/
  | prechargeTimeout
  /-- START_AT (R241): TB0 reaches START_AT and tracking starts. -/
  | startAt
  /-- MEET (R241): The match has held for MATCH_T and K4 and K5 are energised. -/
  | meetHeld
  /-- MEET_TIMEOUT (R242): MEET_MAX expires without a meet or forming, and the start aborts with code 8. -/
  | meetTimeout
  /-- TRACKING_ERROR (R239): |e_trk| has stayed above ERR_V for ERR_T and the start aborts with code 7. -/
  | trackingError
  /-- FORM_AT (R240): TB0 reaches FORM_AT and the forming ramp, or the lowering ramp, starts. -/
  | formAt
  /-- FORMED (R241): The bus has held V_TGT within MATCH_V for MATCH_T and the module enters RUN. -/
  | formedHeld
  /-- RETRY_WAIT_EXPIRY (R242): RETRY_WAIT expires and the start resumes at step 2 with RETRY set. -/
  | retryWaitExpiry
  /-- DISCONNECT_WAIT_EXPIRY (R245): 100 ms after step 3 of the disconnect, K4 and K5 are de-energised unconditionally. -/
  | disconnectWaitExpiry
  /-- K6_ON (R236): CONTACT.CMD.K6_ON energises K6 where it is fitted. -/
  | k6On (who : Initiator)
  /-- K6_OFF (R236): CONTACT.CMD.K6_OFF de-energises K6. -/
  | k6Off (who : Initiator)
  /-- CLR_WELD (R235): CONTACT.CMD.CLR_WELD clears WELD where it is permitted. -/
  | clrWeld (who : Initiator)
  /-- IMPED_START (R251): IMPED.CMD.START requests an impedance run. -/
  | impedStart (who : Initiator)
  /-- IMPED_START_EVAL (R251): At the first outer sample after START, the request is refused with a code or accepted and the run sequence begins. -/
  | impedStartEval
  /-- IMPED_STOP (R255): IMPED.CMD.STOP ends the run with abort code 1 and a ramp down. -/
  | impedStop (who : Initiator)
  /-- IMPED_WINDOW_END (R254): A window of W slots ends; it is discarded or counted towards the set, and MAXDISC may abort the run. -/
  | impedWindowEnd
  /-- IMPED_CORRELATION (R258): A correlation work item processes one node's record for the run. -/
  | impedCorrelation (n : Fin 32)
  /-- IMPED_SET_CLOSE (R260): Every R correlated windows, the set closes, entries are pushed and temperatures are derived. -/
  | impedSetClose
  /-- IMPED_RAMP_END (R252): env reaches 0; the interlock is released and the run ends. -/
  | impedRampEnd
  /-- ESTIMATOR_STEP (R265): Every 100 ms of TB0, the estimator updates SoC, uncertainty, anchors and limits. -/
  | estimatorStep (more lo hi : Int) (late : Bool)
  /-- INIT (R277): ESTIM.CMD.INIT initialises every cell from its OCV where permitted. -/
  | initCmd (who : Initiator)
  /-- WRITE_NOW (R287): LEARN.CMD.WRITE_NOW writes both journals. -/
  | writeNow (who : Initiator)
  /-- RESET_CELL (R292): LEARN.CMD.RESET_CELL resets the viewed cell's Q_c and RF_c where permitted. -/
  | resetCell (who : Initiator)
  /-- LEARNED_JOURNAL_INTERVAL (R287): LEARN_H hours expire and the learned journal is written. -/
  | learnedJournalInterval
  /-- STATE_JOURNAL_INTERVAL (R287): STATE_S seconds expire and the state journal is written. -/
  | stateJournalInterval
  /-- JOURNAL_WRITE_COMPLETE (R287): A journal write finishes its verify and commits, or is abandoned. -/
  | journalWriteComplete (verified : Bool)
  /-- DEFERRED_WRITE (R288): After VAUX_OK returns, a deferred journal or counter write is made. -/
  | deferredWrite
  /-- THERMAL_UPDATE (R298): Every 100 ms, the NTC and board temperatures, cooling duties and NOR window are updated. -/
  | thermalUpdate (ntc : List (Option Nat)) (board : List Int)
  /-- TJ_READING (R302): Every 1 ms, Tj is read and the throttling stage is entered or left. -/
  | tjReading (t : Int) (sensorFault : Bool)
  /-- TACH_CHECK (R300): Every 1 s, the fan speed is checked under the second-attempt rule. -/
  | tachCheck (k : Fin 4) (pulses : Nat)
  /-- THERM_CLR_FAULT (R300): THERM.CMD.CLR_FAULT clears COOL_FAULT of an output. -/
  | thermClrFault (who : Initiator) (mask : BitVec 6)
  /-- TELEM_WINDOW_END (R306): A reduction window ends; its figures are reduced and the stream record is pushed. -/
  | telemWindowEnd (n sec ns frac : Nat) (q : List Reduced) (charge : List Nat) (clipped stepped : Bool)
  /-- PK_CLR (R308): TELEM.CMD.PK_CLR clears a quantity's peak pair. -/
  | pkClr (who : Initiator) (mask : BitVec 6)
  /-- CNT_RESET (R312): TELEM.CMD.CNT_RESET zeroes the counters where permitted and is recorded. -/
  | cntReset (who : Initiator)
  /-- COUNTER_SLOT_INTERVAL (R311): CNT_S expires and a counter slot is written. -/
  | counterSlotInterval
  /-- COUNTER_LO_READ (R310): A read of a counter's LO register latches its HI register. -/
  | counterLoRead (who : Initiator) (k : Fin 4)
  /-- CURRENT (R319): A dispatch CURRENT message is checked and its set-point accepted or refused, with a STATUS reply. -/
  | currentMsg (v : Via) (m : List Byte)
  /-- POWER (R319): A dispatch POWER message is checked and its set-point accepted or refused. -/
  | powerMsg (v : Via) (m : List Byte)
  /-- VOLTAGE (R319): A dispatch VOLTAGE message is checked and its target accepted or refused. -/
  | voltageMsg (v : Via) (m : List Byte)
  /-- MODE (R319): A dispatch MODE message is handled as CROWN.MODE_REQ. -/
  | modeMsg (v : Via) (m : List Byte) (p : Partners)
  /-- IMP_START (R319): A dispatch IMP_START message is handled as IMPED.CMD.START. -/
  | impStart (v : Via) (m : List Byte)
  /-- IMP_STOP (R319): A dispatch IMP_STOP message is handled as IMPED.CMD.STOP. -/
  | impStop (v : Via) (m : List Byte)
  /-- TAKE (R317): DISP.CMD.TAKE treats SP_KIND and SP_VALUE as a verified message. -/
  | takeCmd (who : Initiator) (p : Partners)
  /-- LIMITER_CHAIN (R321): Every 1 ms, the limiter chain forms I_CHG and I_DIS and the set-point ramps. -/
  | limiterChain
  /-- STATUS_PERIOD (R320): STAT_MS expires and a STATUS message is sent. -/
  | statusPeriod
  /-- STALE (R325): No set-point has arrived for T_STALE; STALE is raised and the target goes to 0. -/
  | staleTimer
  /-- STALE_DROP (R325): T_DROP after STALE, the STALE_ACT action is taken. -/
  | staleDrop
  /-- PROT_EVALUATION (R332): An engine-path protection of Table 16-2 is evaluated under the second-attempt rule and its reaction starts. -/
  | protEvaluation (bit : Fin 8) (v wher : Int)
  /-- ISLAND_SAMPLE (R334): Every 2.5 µs, the island samples its lanes and acts on lasting verdicts. -/
  | islandSample (iShunt iHall vString : Int) (en0 en1 : Bool)
  /-- SRD_INPUT (R336): An SRD input channel changes level; a request qualifies after 200 µs, or a discrepancy is judged. -/
  | srdInput (ch : Fin 2) (energised : Bool)
  /-- SAFE_CMD_SRD (R336): SAFE.CMD.SRD from a secure session requests an SRD. -/
  | safeCmdSrd (who : Initiator)
  /-- SAFE_CMD_TRIP (R346): SAFE.CMD.TRIP starts a hard trip. -/
  | safeCmdTrip (who : Initiator)
  /-- SRD_RAMP_END (R337): The SRD ramp ends; the enables are removed and the coils are released at near-zero current. -/
  | srdRampEnd
  /-- SRD_COIL_TIMEOUT (R337): 30 ms after step 4, the coil-feed switch releases any coil still energised. -/
  | srdCoilTimeout
  /-- SAFECLK_STOP (R335): SAFECLK stops and both gate enables de-energise. -/
  | safeclkStop
  /-- TWINNED_SAFETY_MESSAGE (R339): A twinned safety message copy arrives; a valid pair restarts the watchdog and may request an SRD or trip. -/
  | twinnedSafetyMessage (port : Fin 2) (m : SafetyDatagram)
  /-- SAFETY_WATCHDOG (R339): A source's watchdog reaches SWD_MS and an SRD with cause SNET_LOSS starts. -/
  | safetyWatchdog (n : Fin 8)
  /-- SNET_STATE_TX (R340): TX_MS expires and the module sends its STATE message on both ports. -/
  | snetStateTx
  /-- DEGRADE_GRANT (R341): A write of SNET.DEGRADE.DEG_S grants, replaces or ends the degraded permission. -/
  | degradeGrant (who : Initiator) (sec : BitVec 12)
  /-- DEGRADE_EXPIRY (R341): The degraded permission expires. -/
  | degradeExpiry
  /-- INSUL_STATE_END (R342): T_SETTLE ends; the pole voltages are measured, the state alternates and R_ISO is judged. -/
  | insulStateEnd (vp vn : Int)
  /-- HALL_DETECT_OPEN (R504): HALL_DET opens and the Hall input is treated as not fitted. -/
  | hallDetectOpen
  /-- CLAIM_FRAME_TX (R352): Every 1 µs, a claim frame is sent on every claim output, with a readback and a claim echo. -/
  | claimFrameTx (ok : Bool)
  /-- CLAIM_FRAME_RX (R353): A partner claim frame is received on CLMM0 and validated; the standby may claim or yield. -/
  | claimFrameRx (claim : BitVec 16) (hb : BitVec 8) (line : ClaimLine)
  /-- CLAIM_MONITOR_SILENCE (R363): 3 µs pass without a valid partner frame on CLMM0; the standby claims or raises MONITOR_FAULT. -/
  | claimMonitorSilence
  /-- HEARTBEAT_TX (R356): Every 10 µs, a heartbeat with READY is sent on the pair link. -/
  | heartbeatTx
  /-- HEARTBEAT_RX (R356): A partner heartbeat arrives, updating LINK_UP and PARTNER_READY. -/
  | heartbeatRx (ready : Bool) (other : Option (Fin 2))
  /-- PAIR_LINK_LOST (R356): 30 µs pass without a heartbeat and the link counts as lost. -/
  | pairLinkLost
  /-- CLAIM_ECHO_RX (R356): A partner claim echo arrives on the pair link. -/
  | claimEchoRx (claim : BitVec 16)
  /-- CLAIM_ECHO_SILENCE (R363): 3 µs pass without a valid claim echo, which may let the standby claim. -/
  | claimEchoSilence
  /-- RELINQUISH_NOTICE (R363): The partner's relinquish notice arrives on the pair link. -/
  | relinquishNotice (cause : BitVec 8)
  /-- MIRROR_SNAPSHOT (R357): A mirrored snapshot arrives at the standby and is used whole; self-tests and loss counting follow. -/
  | mirrorSnapshot (seq : BitVec 32) (m : Mirror)
  /-- PHASE0_BOUNDARY_MESSAGE (R356): The active unit's phase-0 boundary message aligns the standby's counter and PAIRDIFF. -/
  | phase0BoundaryMessage (sec : BitVec 48) (ns : BitVec 32) (dev : Int)
  /-- ISLAND_SELF_TEST (R360): Every 10 s, the safety island self-test runs. -/
  | islandSelfTest (pass : Bool)
  /-- SWITCHOVER_RESUME (R364): At the N_RESYNC-th phase-0 boundary after the claim, the gates resume and GAP clears. -/
  | switchoverResume
  /-- FORCED_RESET_SEND (R362): 10–20 ms after the takeover point, the new active unit sends a pair-forced reset. -/
  | forcedResetSend
  /-- SWITCH (R368): PAIR.CMD with KEY and SWITCH hands control to the standby, or is refused. -/
  | switchCmd (who : Initiator) (key : BitVec 16)
  /-- UNIT_B_CLAIM_WAIT (R355): 50 ms after step 10 without a partner claim, unit B claims. -/
  | unitBClaimWait
  /-- PAIR_ID_CHANGE (R510): PAIR_ID changes level after it was read; the change is recorded and ignored. -/
  | pairIdChange (level : Fin 3)
  /-- SCAN_START (R372): A task start instant arrives; inputs are latched and blocks evaluated, or the start is skipped for an overrun. -/
  | scanStart (t : Fin 4)
  /-- SCAN_PUBLISH (R372): A scan ends and publishes its outputs, markers and station OUT frames. -/
  | scanPublish (t : Fin 4)
  /-- TASK_RESTART (R374): SCAN.CMD.RESTART restarts a stopped task. -/
  | taskRestart (who : Initiator) (mask : BitVec 4)
  /-- PROG_DATA (R391): A write of SCAN.PROG_DATA writes a word to the staged program and advances ADDR. -/
  | progData (who : Initiator) (data : BitVec 32)
  /-- PROG_LIVE (R391): A read of SCAN.PROG_LIVE returns a program word and advances ADDR. -/
  | progLive (who : Initiator)
  /-- STATION_IN_FRAME (R389): A station IN frame arrives and is validated for the next latch. -/
  | stationInFrame (via : Via) (frame : List Byte)
  /-- RETAIN_INTERVAL (R378): Every 10 s, RETAIN data is written to FRAM. -/
  | retainInterval
  /-- MARKER_WRITE (R392): A host write of a marker word is taken into the next snapshot of every task. -/
  | markerWrite (who : Initiator) (k : Fin 256) (v : BitVec 32)
  /-- WORK_ITEM_COMPLETE (R403): An engine finishes an item; its result is committed if its epoch is current, and the engine takes its next item. -/
  | workItemComplete (e : Fin 64)
  /-- ITEM_TIMEOUT (R404): An item exceeds 4 × B; it is grafted and re-run, and the engine is tested. -/
  | itemTimeout (e : Fin 64) (first second : Fin 6)
  /-- RATE_INTERVAL (R405): Every 10 ms, engine rates are evaluated and laggards are marked or cleared. -/
  | rateInterval (rates : List (Nat × Nat × Nat))
  /-- TEST_ROUND (R407): An engine's rolling self-test runs and passes, or retires the engine. -/
  | testRound (e : Fin 64) (first second : Fin 6)
  /-- REJOIN_RETEST (R408): REJOIN_S expires and a retired engine is retested to rejoin. -/
  | rejoinRetest (e : Fin 64) (pass : Bool)
  /-- ECC_ERROR (R397): An SRAM read finds an ECC error; it is corrected, or retried as uncorrectable. -/
  | eccError (place : Fin 3) (e : Fin 64) (addr : BitVec 32) (kind : Fin 3)
  /-- RSEL (R401): A write of RSEL selects a stream ring and moves the cursor to the oldest entry. -/
  | rselWrite (who : Initiator) (ring : Fin 32)
  /-- ROFS (R401): A write of ROFS sets the window offset. -/
  | rofsWrite (who : Initiator) (ofs : BitVec 16)
  /-- RPOP (R401): RPOP advances the cursor by one entry. -/
  | rpopWrite (who : Initiator)
  /-- CLOCK_MONITOR_WINDOW (R418): Every 1 ms, the clock monitor checks each domain's count under the second-attempt rule. -/
  | clockMonitorWindow (hz : List Nat) (locked : Fin 8)
  /-- XSTAT_CLEAR (R427): A write of CLOCK.XSTAT clears MERGED and WAKES. -/
  | xstatClear (who : Initiator)
  /-- SET (R431): TIME.CMDn.SET steps the time base to the SET value, or is refused. -/
  | setCmd (who : Initiator) (n : Fin 4)
  /-- SHIFT (R431): TIME.CMDn.SHIFT steps the time base by SET_NS, or is refused. -/
  | shiftCmd (who : Initiator) (n : Fin 4)
  /-- SNAP (R429): TIME.CMD_SNAP.SNAP latches all four time bases. -/
  | snapCmd (who : Initiator)
  /-- NS_READ (R429): A read of TIME.NSn latches SEC_LO, SEC_HI and FRAC. -/
  | nsRead (who : Initiator) (n : Fin 4)
  /-- TB2_RATE_WRITE (R429): A write of RATE2 sets the TB2 rate, clamped to ±500 ppm. -/
  | tb2RateWrite (who : Initiator) (rate : BitVec 32)
  /-- SYNC (R434): A PTP Sync arrives and is stamped; a one-step Sync completes an exchange. -/
  | syncMsg (port : Fin 2) (l2 : Bool) (dev : Int) (m : List Byte)
  /-- FOLLOW_UP (R434): A PTP Follow_Up gives t1 and completes the offset exchange. -/
  | followUp (port : Fin 2) (l2 : Bool) (m : List Byte)
  /-- DELAY_RESP (R434): A Delay_Resp completes the end-to-end delay measurement. -/
  | delayResp (port : Fin 2) (l2 : Bool) (m : List Byte)
  /-- PDELAY_REQ (R432): A received Pdelay_Req is answered with Pdelay_Resp and its follow-up. -/
  | pdelayReq (port : Fin 2) (l2 : Bool) (dev : Int) (m : List Byte)
  /-- PDELAY_RESP (R434): A Pdelay_Resp to the module's request is received. -/
  | pdelayResp (port : Fin 2) (l2 : Bool) (dev : Int) (m : List Byte)
  /-- PDELAY_RESP_FOLLOW_UP (R434): A Pdelay_Resp_Follow_Up completes the peer delay measurement. -/
  | pdelayRespFollowUp (port : Fin 2) (l2 : Bool) (m : List Byte)
  /-- ANNOUNCE (R437): An Announce arrives and master selection is updated. -/
  | announceMsg (port : Fin 2) (l2 : Bool) (m : List Byte)
  /-- DELAY_REQ_INTERVAL (R432): The Delay_Req or Pdelay_Req interval expires and a request is sent. -/
  | delayReqInterval (i : Fin 2)
  /-- ANNOUNCE_RECEIPT_TIMEOUT (R437): announceReceiptTimeout, or 4 Sync intervals without a Sync, expires and the servo enters HOLDOVER. -/
  | announceReceiptTimeout (i : Fin 2) (sync : Bool)
  /-- TIMESTAMP_ENTRY (R440): A transmit timestamp entry is made and matched, or dropped when the queue is full. -/
  | timestampEntry (port : Fin 2) (kind : Fin 4) (i : Fin 2) (id : BitVec 16) (dev : Int)
  /-- TIMESTAMP_ENTRY_STALE (R441): An entry unmatched for 1 s is discarded. -/
  | timestampEntryStale (port : Fin 2)
  /-- ARM (R442): TCTLk.ARM = 1 arms a trigger schedule, or is refused with WRERR. -/
  | armTrigger (who : Initiator) (k : Fin 8)
  /-- DISARM_TRIGGER (R442): TCTLk.ARM = 0 ends a periodic train after the pulse in progress. -/
  | disarmTrigger (who : Initiator) (k : Fin 8)
  /-- LEADING_EDGE (R442): The time base counts through a leading edge instant and the pulse starts. -/
  | leadingEdge (k : Fin 8)
  /-- TRAILING_EDGE (R442): WIDTH_NS after the leading edge, the pulse ends. -/
  | trailingEdge (k : Fin 8)
  /-- CAPTURE_EDGE (R444): A selected edge on CAPk is stamped and queued, or dropped. -/
  | captureEdge (k : Fin 8) (rise : Bool) (held : Nat) (dev : Int)
  /-- POP (R447): CSTATk.POP removes the head stamp. -/
  | popCapture (who : Initiator) (k : Fin 8)
  /-- CAN_FRAME_RX (R450): A CAN frame is received, filtered, stamped and pushed to the receive ring. -/
  | canFrameRx (ch : Fin 4) (f : CanFrame) (c : BitVec 32)
  /-- SEND (R453): CANn.CMD.SEND copies the TX buffer into the transmit ring, or is refused. -/
  | sendCmd (who : Initiator) (ch : Fin 4)
  /-- TX_ABORT (R454): CANn.CMD.TX_ABORT discards every entry not yet on the bus. -/
  | txAbort (who : Initiator) (ch : Fin 4)
  /-- RECOVER (R455): CANn.CMD.RECOVER begins bus-off recovery and clears LASTING_BO. -/
  | recoverCmd (who : Initiator) (ch : Fin 4)
  /-- CAN_TX_COMPLETE (R454): A frame is sent successfully and its echo is pushed if requested. -/
  | canTxComplete (ch : Fin 4) (c : BitVec 32)
  /-- CAN_TX_TIMEOUT (R454): An entry is pending beyond TX_TMO and is abandoned. -/
  | canTxTimeout (ch : Fin 4) (k : Fin 4)
  /-- BUS_OFF (R455): A channel goes bus-off under the second-attempt rule. -/
  | busOff (ch : Fin 4)
  /-- BUS_OFF_RECOVERED (R455): Recovery completes after 128 × 11 recessive bits. -/
  | busOffRecovered (ch : Fin 4)
  /-- CAN_LATCH (R451): Every 80,000 counts, or after a TB0 step, a latch pair is formed. -/
  | canLatch
  /-- ALMANAC_SUBMISSION (R463): The Almanac service takes a submission from Q91, assigns its SEQ and stages it in FRAM, or drops it. -/
  | almanacSubmission
  /-- ALMANAC_MIGRATION (R464): A staged record is copied to NOR and verified, then its staging is released. -/
  | almanacMigration (pass : Bool)
  /-- COMPACTION_COMPLETE (R467): A sector compaction ends with the old sector erased as spare. -/
  | compactionComplete
  /-- LATCH (R470): EVREC.CMD.LATCH takes LHEAD and LTAIL at one instant. -/
  | latchCmd (who : Initiator)
  /-- RSEQ_SELECT (R470): A write of RSEQ_HI selects a record by SEQ, with GONE set where it is absent. -/
  | rseqSelect (who : Initiator) (hi : Word)
  /-- HEADER (R480): UPDATE.CMD.OP HEADER checks an image header and opens a transfer. -/
  | headerOp (who : Initiator)
  /-- TABLE (R480): OP TABLE takes a chunk of the block CRC table and checks its hash after the last chunk. -/
  | tableOp (who : Initiator)
  /-- BLOCK (R480): OP BLOCK takes a block quarter and checks and programs the block at quarter 3. -/
  | blockOp (who : Initiator) (fails : Fin 3)
  /-- FINISH (R480): OP FINISH reads back and re-checks the slot and sets it VERIFIED. -/
  | finishOp (who : Initiator)
  /-- UPDATE_ABORT (R481): OP ABORT ends the transfer and leaves the slot INVALID. -/
  | updateAbort (who : Initiator)
  /-- UPDATE_TRANSFER_TIMEOUT (R481): 600 s pass without an owner command and the transfer ends. -/
  | updateTransferTimeout
  /-- ACTIVATE (R482): ACTIVATE with KEY activates the VERIFIED slot immediately, arms it for the next reset, or arms it at JUB, or is refused. -/
  | activateCmd (who : Initiator) (act : Fin 4) (key : Fin 65536)
  /-- DISARM (R485): UPDATE.CMD.DISARM disarms a pending activation. -/
  | disarmCmd (who : Initiator)
  /-- CONFIRM (R486): UPDATE.CMD.CONFIRM with KEY confirms the trial image, or is refused. -/
  | confirmCmd (who : Initiator) (key : Fin 65536)
  /-- KEY_WRITE (R475): KEYSEL.WRITE stores KEYDATA in a key slot in both copies. -/
  | keyWrite (who : Initiator) (slot : Fin 4)
  /-- JUBILEE_PREPARE (R484): At JUB − 100 ms, the journals and slots are written for the activation. -/
  | jubileePrepare
  /-- JUBILEE_POINT (R484): TB0 counts through JUB and the activation is carried out, or MISSED is set. -/
  | jubileePoint (late : Bool)
  /-- CONFIRMATION (R486): Once all confirmation conditions hold, the boot record, floor and revocations are updated. -/
  | confirmation
  /-- CONFIRM_WINDOW_SAVE (R486): Every 10 s, the window count is kept in the boot record. -/
  | confirmWindowSave
  /-- CONFIRM_WINDOW_EXPIRY (R487): The confirmation window expires unconfirmed and the module falls back. -/
  | confirmWindowExpiry
  /-- CLASS_L_STORE_WRITE (R476): Within 10 ms after a class L field changes, the class L register store is written. -/
  | classLStoreWrite
  /-- GO (R544): TESTMUX.GTEST.GO starts a gate pattern test, or is refused with GRESULT. -/
  | gtestGo (who : Initiator) (phases : Fin 65536)
  /-- GSTOP (R545): TESTMUX.GTEST.GSTOP ends the test with GRESULT 7. -/
  | gstopCmd (who : Initiator)
  /-- GTEST_END (R545): DUR_MS expires and the test ends with GRESULT 0. -/
  | gtestEnd
  /-- UNLOCK (R547): TESTMUX.JTAG with KEY and UNLOCK unlocks SAMPLE/PRELOAD and EXTEST. -/
  | unlockCmd (who : Initiator) (key : Fin 65536)
  /-- RELOCK (R547): TESTMUX.JTAG.RELOCK locks the test access port. -/
  | relockCmd (who : Initiator)
  /-- UNLOCK_EXPIRY (R547): UNLOCK_MIN expires and the port locks. -/
  | unlockExpiry
  /-- SVC_TIMEOUT (R543): SVC_TMO passes without a secure access in SERVICE and a software warm reset follows. -/
  | svcTimeout
  /-- TMX_SELECT (R549): A write of SELk selects the TMX pin signal. -/
  | tmxSelect (who : Initiator) (k : Fin 4) (sel : Byte)
  /-- TAP_INSTRUCTION (R546): A test access port instruction executes, limited to BYPASS and IDCODE while locked. -/
  | tapInstruction (i : TapOp)
  /-- PRE_CHECK_REREAD (R242): 100 ms after a failed step-2 pre-check (abort code 1), the checks are re-read once and a second failure ends the start in STANDBY without retry. -/
  | preCheckReread (r : Readings)
  /-- VCOIL_LOW (R234): Every 1 ms the coil hold duty is recomputed from the measured VCOIL, and VCOIL_LOW is set or cleared against VCOIL_MIN. -/
  | vcoilLow (vCoil : BitVec 16)
  /-- DI_CHANGE (R392): A local digital input DI0–DI15 changes level and IMAGE.EVT_STATUS.DI_CHANGE is set. -/
  | diChange (di : BitVec 16)
  /-- ERROR_FRAME (R448): A CAN channel detects a bus error and the error counters, LEC, ERR_FRAMES and error-passive state are updated as ISO 11898-1 defines. -/
  | errorFrame (ch : Fin 4) (kind : Fin 7) (dataPhase : Bool) (tec erc : BitVec 8)
  /-- LINK_UP (R100): An Ethernet port's link comes up or goes down after autonegotiation, and ETHn.LINK is updated. -/
  | linkUp (p : Fin 2) (up : Bool) (speed : Fin 3) (full : Bool)
  /-- SDS_AVAIL (R530): The string-derived supply becomes available or unavailable; SDS_AVAIL and the rail feed change, with the bank carrying the rail when both sources are absent. -/
  | sdsAvail (available : Bool)
  /-- BANK_OK_LOSS (R529): The hold-up bank falls below 46 V and SUPPLY.STATUS.BANK_OK is cleared. -/
  | bankOkLoss
  /-- ARP_REQUEST (R100): An ARP request arrives on an Ethernet port and is answered. -/
  | arpRequest (p : Fin 2) (ip target : BitVec 32)
  /-- ICMP_ECHO (R100): An ICMP echo request arrives on an Ethernet port and is answered. -/
  | icmpEcho (p : Fin 2) (ip : BitVec 32) (bytes : List Byte)
  deriving DecidableEq, Repr

end Sys2Proof
end

