-- ==== Sys2Proof/Decode.lean ====
section
/-!
DEFINITION. Reading a command from a word of spec/opcode_table.json.
-/
namespace Sys2Proof

/-- The command that a word spells by the table's bits: the table gives no row any bits (every row's fields are empty), since a command reaches the block over its pins and links and not as an instruction word, so no word spells one. -/
def decodeTableWord (_nbits _w : Nat) : Option Instr := none

end Sys2Proof
end

