-- ==== Sys2Proof/Config.lean ====
section
/-!
DEFINITION. What one unit's fabrication fixes and what the spec leaves open: constants without a body, so that a claim holds whatever they are.
-/
namespace Sys2Proof

/-- The factory MAC address of Ethernet port 0 or 1 (MAC_LO and MAC_HI read "factory"). -/
opaque Config.factoryMac (port : Nat) : Nat

/-- The unit is the conformal-coated variant XSW-S512-C (R1). -/
opaque Config.coated : Bool

/-- VARIANT of CROWN.IDENT: 0x41 for XSW-S512-A, 0x43 for XSW-S512-C (R71). -/
def Config.variant : Nat := if Config.coated then 0x43 else 0x41

/-- HW_REV of CROWN.IDENT, the hardware revision (R71). -/
opaque Config.hwRev : Nat

/-- The event code within SOURCE (R459), which no chapter numbers: a free value of the source page and the kind of event. -/
opaque Config.almCode (source event : Nat) : Nat

/-- The free values a step draws, one after the other, from the counter State.free: nothing constrains them. -/
opaque Config.freeValue (n : Nat) : Nat

/-- The deviation of the stimulus from the exact expression of R250, in 2^−16 A; the model limits it to ±2 mA. -/
opaque Config.stimError (n : Nat) : Int

/-- Error of a comparator threshold of phase n in µV of its input (R187 bounds it to 2 % of full scale), notes/assumptions/86.md. -/
opaque Config.ilimError (n : Nat) (positive : Bool) : Int

/-- The RULE code of a consistency check for which no chapter gives one: of a page, for a reserved encoding (kind 0), a range (kind 1), locked settings (kind 2) or a region (kind 3). -/
opaque Config.openRule (page kind : Nat) : Nat

/-- The deviation of a computed impedance component from the exact expressions of R256, in 0.01 µΩ; the model limits it to 0.007 % of |Z|, so that |Z| is off by at most 0.01 %. -/
opaque Config.corrError (n : Nat) : Int

/-- Sign (bit 0) and payload of a NaN that a REAL operation gives, which IEEE 754 leaves open: of the operation and its operands. -/
opaque Config.nanPayload (op a b : Nat) : Nat

/-- Free value: the words of local SRAM, as (word index, value), that a run of a work item leaves written (R398; DESIGN CHOICE, notes/assumptions/88.md). -/
opaque Config.itemWrites (id epoch : Nat) : List (Nat × Word)

/-- DLEN of an Almanac record of a source and kind of event: the model fits it to an even number from 16 to 1,024. -/
opaque Config.almLen (source event : Nat) : Nat

/-- Byte k of the DATA of an Almanac record, whose layout no chapter gives: of the source, the kind of event and the values the record carries. -/
opaque Config.almByte (source event : Nat) (data : List Int) (k : Nat) : Nat

/-- The vendor code of the IDCODE, stated in the unit's delivery documents (R546). -/
opaque Config.vendorCode : Nat

/-- The commissioning key of slot 1, byte k, stated in the unit's delivery documents (R475). -/
opaque Config.commissioningKey (k : Nat) : Nat

/-- The four image-signing public keys of the OTP (R490): x and y of key k. -/
opaque Config.otpKey (k : Nat) : Nat × Nat

/-- What the nonce generator gives (R98, R102): byte k of the n-th nonce. -/
opaque Config.nonceByte (n k : Nat) : Nat

/-- The quotient of the DINTs −2^31 and −1, which no DINT holds and R380 does not state. -/
opaque Config.dintQuotient : Nat

end Sys2Proof
end

