-- ==== Sys2Proof/Machine/RegFile.lean ====
section
/-!
DEFINITION. Sparse tables (a list of index and value pairs in one canonical form, against a default value), the description of a
register (R14, Tables 0-4 and 0-5) and of a field of a register.
-/
namespace Sys2Proof.Machine

/-- The value a sparse table holds at an index: the listed one, else the default. -/
def mget {α : Type} (d : α) : List (Nat × α) → Nat → α
  | [], _ => d
  | (k', v) :: t, k => if k' = k then v else mget d t k

/-- The table without an index. -/
def mdel {α : Type} : List (Nat × α) → Nat → List (Nat × α)
  | [], _ => []
  | (k', v) :: t, k => if k' = k then mdel t k else (k', v) :: mdel t k

/-- An entry put before the first larger index. -/
def mins {α : Type} : List (Nat × α) → Nat → α → List (Nat × α)
  | [], k, v => [(k, v)]
  | (k', v') :: t, k, v => if k < k' then (k, v) :: (k', v') :: t else (k', v') :: mins t k v

/-- A write into a sparse table: an entry equal to the default is removed, every other is listed once, in rising order. -/
def mset {α : Type} [DecidableEq α] (d : α) (m : List (Nat × α)) (k : Nat) (v : α) : List (Nat × α) :=
  if v = d then mdel m k else mins (mdel m k) k v

/-- The indices of a table rise strictly. -/
def mrising {α : Type} : List (Nat × α) → Bool
  | [] => true
  | [_] => true
  | (k, _) :: (k', v') :: t => decide (k < k') && mrising ((k', v') :: t)

/-- The access codes of Table 0-4. -/
inductive Access
  | ro | rw | w1c | wo | rws
  deriving DecidableEq, Repr

/-- The survival classes of Table 0-5. -/
inductive Cls
  | V | K | S | L | E
  deriving DecidableEq, Repr

/-- One field of a register table (R14): name, lowest bit, width, access, survival class, reset value. -/
structure FieldDef where
  name : String
  lo : Nat
  width : Nat
  acc : Access
  cls : Cls
  reset : Nat
  deriving DecidableEq, Repr

/-- One register, or a group of count registers stride bytes apart, of a page. -/
structure RegDef where
  name : String
  off : Nat
  count : Nat
  stride : Nat
  fields : List FieldDef
  deriving DecidableEq, Repr

/-- The place of a field: the host address of its register, its lowest bit and its width. -/
structure Fld where
  addr : Nat
  lo : Nat
  width : Nat
  deriving DecidableEq, Repr

/-- The field lies in its 32-bit register (R63). -/
abbrev Fld.fits (f : Fld) : Prop := f.lo + f.width ≤ 32

/-- Two fields have no bit in common. -/
abbrev Fld.apart (f g : Fld) : Prop := f.addr ≠ g.addr ∨ f.lo + f.width ≤ g.lo ∨ g.lo + g.width ≤ f.lo

/-- The value of a field in a word. -/
def Fld.get (f : Fld) (w : Word) : Nat := w.toNat / 2 ^ f.lo % 2 ^ f.width

/-- A word with a field replaced (modulo the field's width). -/
def Fld.put (f : Fld) (w : Word) (n : Nat) : Word :=
  Word.ofNat (w.toNat - f.get w * 2 ^ f.lo + n % 2 ^ f.width * 2 ^ f.lo)

/-- The page of a host address (R63). -/
def pageOf (addr : Nat) : Nat := addr / 4096 % 256

/-- The offset of a host address in its page (R63). -/
def offOf (addr : Nat) : Nat := addr % 4096

/-- The bits of the fields that satisfy a property, as a mask. -/
def fieldMask (p : FieldDef → Bool) : List FieldDef → Nat
  | [] => 0
  | f :: t => (if p f then (2 ^ f.width - 1) * 2 ^ f.lo else 0) ||| fieldMask p t

/-- The reset word of a register: each field at its Reset value, reserved bits 0 (R14, R15). -/
def fieldsReset : List FieldDef → Nat
  | [] => 0
  | f :: t => f.reset % 2 ^ f.width * 2 ^ f.lo + fieldsReset t

/-- The register of a group list that lies at an offset. -/
def findReg (regs : List RegDef) (off : Nat) : Option RegDef :=
  regs.find? fun r => r.off ≤ off && (off - r.off) % r.stride == 0 && decide ((off - r.off) / r.stride < r.count)

/-- Saturation of a counter field at its maximum (R17). -/
def satCount (width n : Nat) : Nat := if n < 2 ^ width then n else 2 ^ width - 1

/-- Two's-complement reading of a field of a given width. -/
def signedOf (width n : Nat) : Int := if n < 2 ^ (width - 1) then (n : Int) else (n : Int) - 2 ^ width

/-- Two's-complement encoding of an integer in a field of a given width. -/
def encodeSigned (width : Nat) (i : Int) : Nat := (i % 2 ^ width).toNat

/-- An integer limited to the range of a two's-complement field. -/
def satSigned (width : Nat) (i : Int) : Int :=
  if i < -(2 ^ (width - 1)) then -(2 ^ (width - 1)) else if i > 2 ^ (width - 1) - 1 then 2 ^ (width - 1) - 1 else i

/-- An integer limited to the range of an unsigned field. -/
def satUnsigned (width : Nat) (i : Int) : Nat := if i < 0 then 0 else if i.toNat < 2 ^ width then i.toNat else 2 ^ width - 1

end Sys2Proof.Machine
end

