-- ==== Sys2Proof/Machine/Fields.lean ====
section
/-!
DEFINITION. Names for the register fields of the chapters' tables, PAGE_REG_FIELD: the address of the register and the place of the field in it.
A page with several instances (BOUGH, CAN, ETH) takes the instance first, a repeated register its index last. A.PAGE_REG is the register's address.
-/
namespace Sys2Proof.Machine

abbrev A.CROWN_STATUS : Nat := 0x0000C
abbrev F.CROWN_STATUS_MISSING : Fld := ⟨0x0000C, 0, 8⟩
abbrev A.CROWN_STAGE_CTRL : Nat := 0x00020
abbrev F.CROWN_STAGE_CTRL_CHECK : Fld := ⟨0x00020, 0, 1⟩
abbrev F.CROWN_STAGE_CTRL_APPLY : Fld := ⟨0x00020, 1, 1⟩
abbrev F.CROWN_STAGE_CTRL_ABORT : Fld := ⟨0x00020, 2, 1⟩
abbrev F.CROWN_STAGE_CTRL_DISCARD_ALL : Fld := ⟨0x00020, 3, 1⟩
abbrev F.CROWN_STAGE_CTRL_STATE : Fld := ⟨0x00020, 4, 3⟩
abbrev F.CROWN_STAGE_CTRL_EDGE_KIND : Fld := ⟨0x00020, 8, 2⟩
abbrev F.CROWN_STAGE_CTRL_TASK : Fld := ⟨0x00020, 10, 2⟩
abbrev F.CROWN_STAGE_CTRL_PWM_LEAD : Fld := ⟨0x00020, 16, 16⟩
abbrev A.CROWN_STAGE_ERR : Nat := 0x00024
abbrev F.CROWN_STAGE_ERR_RULE : Fld := ⟨0x00024, 0, 16⟩
abbrev F.CROWN_STAGE_ERR_PAGE : Fld := ⟨0x00024, 16, 8⟩
abbrev F.CROWN_STAGE_ERR_CAUSE : Fld := ⟨0x00024, 24, 4⟩
abbrev A.CROWN_IDENT : Nat := 0x00040
abbrev F.CROWN_IDENT_VARIANT : Fld := ⟨0x00040, 0, 8⟩
abbrev F.CROWN_IDENT_HW_REV : Fld := ⟨0x00040, 8, 8⟩
abbrev F.CROWN_IDENT_PRODUCT : Fld := ⟨0x00040, 16, 16⟩
abbrev A.CROWN_MODE_REQ : Nat := 0x00060
abbrev F.CROWN_MODE_REQ_TARGET : Fld := ⟨0x00060, 0, 4⟩
abbrev F.CROWN_MODE_REQ_DORMANT : Fld := ⟨0x00060, 4, 1⟩
abbrev A.CROWN_MODE : Nat := 0x00064
abbrev F.CROWN_MODE_MODE : Fld := ⟨0x00064, 0, 4⟩
abbrev F.CROWN_MODE_PREV : Fld := ⟨0x00064, 4, 4⟩
abbrev F.CROWN_MODE_REQ_RESULT : Fld := ⟨0x00064, 8, 4⟩
abbrev F.CROWN_MODE_DORMANT : Fld := ⟨0x00064, 12, 1⟩
abbrev F.CROWN_MODE_SAFE_LATCH : Fld := ⟨0x00064, 16, 1⟩
abbrev F.CROWN_MODE_SAFE_CAUSE : Fld := ⟨0x00064, 24, 8⟩
abbrev A.CROWN_STAGE_OWNER : Nat := 0x00068
abbrev F.CROWN_STAGE_OWNER_SESSION : Fld := ⟨0x00068, 0, 8⟩
abbrev F.CROWN_STAGE_OWNER_SECURE : Fld := ⟨0x00068, 8, 1⟩
abbrev A.CROWN_APPLY_AT_NS : Nat := 0x0006C
abbrev F.CROWN_APPLY_AT_NS_NS : Fld := ⟨0x0006C, 0, 32⟩
abbrev A.CROWN_APPLY_AT_SL : Nat := 0x00070
abbrev F.CROWN_APPLY_AT_SL_SEC_LO : Fld := ⟨0x00070, 0, 32⟩
abbrev A.CROWN_APPLY_AT_SH : Nat := 0x00074
abbrev F.CROWN_APPLY_AT_SH_SEC_HI : Fld := ⟨0x00074, 0, 16⟩
abbrev A.WORLD_PAGE_SEC (n : Nat) : Nat := 0x01040 + 0x4 * n
abbrev F.WORLD_PAGE_SEC_ATTR0 (n : Nat) : Fld := ⟨0x01040 + 0x4 * n, 0, 2⟩
abbrev F.WORLD_PAGE_SEC_ATTR1 (n : Nat) : Fld := ⟨0x01040 + 0x4 * n, 2, 2⟩
abbrev F.WORLD_PAGE_SEC_ATTR2 (n : Nat) : Fld := ⟨0x01040 + 0x4 * n, 4, 2⟩
abbrev F.WORLD_PAGE_SEC_ATTR3 (n : Nat) : Fld := ⟨0x01040 + 0x4 * n, 6, 2⟩
abbrev F.WORLD_PAGE_SEC_ATTR4 (n : Nat) : Fld := ⟨0x01040 + 0x4 * n, 8, 2⟩
abbrev F.WORLD_PAGE_SEC_ATTR5 (n : Nat) : Fld := ⟨0x01040 + 0x4 * n, 10, 2⟩
abbrev F.WORLD_PAGE_SEC_ATTR6 (n : Nat) : Fld := ⟨0x01040 + 0x4 * n, 12, 2⟩
abbrev F.WORLD_PAGE_SEC_ATTR7 (n : Nat) : Fld := ⟨0x01040 + 0x4 * n, 14, 2⟩
abbrev F.WORLD_PAGE_SEC_ATTR8 (n : Nat) : Fld := ⟨0x01040 + 0x4 * n, 16, 2⟩
abbrev F.WORLD_PAGE_SEC_ATTR9 (n : Nat) : Fld := ⟨0x01040 + 0x4 * n, 18, 2⟩
abbrev F.WORLD_PAGE_SEC_ATTR10 (n : Nat) : Fld := ⟨0x01040 + 0x4 * n, 20, 2⟩
abbrev F.WORLD_PAGE_SEC_ATTR11 (n : Nat) : Fld := ⟨0x01040 + 0x4 * n, 22, 2⟩
abbrev F.WORLD_PAGE_SEC_ATTR12 (n : Nat) : Fld := ⟨0x01040 + 0x4 * n, 24, 2⟩
abbrev F.WORLD_PAGE_SEC_ATTR13 (n : Nat) : Fld := ⟨0x01040 + 0x4 * n, 26, 2⟩
abbrev F.WORLD_PAGE_SEC_ATTR14 (n : Nat) : Fld := ⟨0x01040 + 0x4 * n, 28, 2⟩
abbrev F.WORLD_PAGE_SEC_ATTR15 (n : Nat) : Fld := ⟨0x01040 + 0x4 * n, 30, 2⟩
abbrev A.WORLD_BASE (n : Nat) : Nat := 0x01080 + 0x8 * n
abbrev F.WORLD_BASE_MEM (n : Nat) : Fld := ⟨0x01080 + 0x8 * n, 0, 4⟩
abbrev F.WORLD_BASE_START (n : Nat) : Fld := ⟨0x01080 + 0x8 * n, 12, 18⟩
abbrev A.WORLD_SPAN (n : Nat) : Nat := 0x01084 + 0x8 * n
abbrev F.WORLD_SPAN_SIZE (n : Nat) : Fld := ⟨0x01084 + 0x8 * n, 0, 15⟩
abbrev F.WORLD_SPAN_ATTR (n : Nat) : Fld := ⟨0x01084 + 0x8 * n, 16, 2⟩
abbrev A.WORLD_COMMIT : Nat := 0x01100
abbrev F.WORLD_COMMIT_KEY : Fld := ⟨0x01100, 0, 16⟩
abbrev F.WORLD_COMMIT_GO : Fld := ⟨0x01100, 16, 1⟩
abbrev A.WORLD_COMMIT_STAT : Nat := 0x01104
abbrev F.WORLD_COMMIT_STAT_STATE : Fld := ⟨0x01104, 0, 3⟩
abbrev F.WORLD_COMMIT_STAT_LOCKED : Fld := ⟨0x01104, 3, 1⟩
abbrev F.WORLD_COMMIT_STAT_COUNT : Fld := ⟨0x01104, 16, 16⟩
abbrev A.WORLD_XW_COUNT : Nat := 0x01108
abbrev F.WORLD_XW_COUNT_COUNT : Fld := ⟨0x01108, 0, 32⟩
abbrev A.WORLD_XW_LAST : Nat := 0x0110C
abbrev F.WORLD_XW_LAST_ADDR : Fld := ⟨0x0110C, 0, 20⟩
abbrev F.WORLD_XW_LAST_WRITE : Fld := ⟨0x0110C, 20, 1⟩
abbrev F.WORLD_XW_LAST_SESSION : Fld := ⟨0x0110C, 24, 8⟩
abbrev A.SUPPLY_STATUS : Nat := 0x0200C
abbrev F.SUPPLY_STATUS_VAUX_OK : Fld := ⟨0x0200C, 0, 1⟩
abbrev F.SUPPLY_STATUS_BANK_OK : Fld := ⟨0x0200C, 1, 1⟩
abbrev F.SUPPLY_STATUS_BANK_RESERVE : Fld := ⟨0x0200C, 2, 1⟩
abbrev F.SUPPLY_STATUS_SDS_AVAIL : Fld := ⟨0x0200C, 3, 1⟩
abbrev F.SUPPLY_STATUS_SDS_ACTIVE : Fld := ⟨0x0200C, 4, 1⟩
abbrev F.SUPPLY_STATUS_HOLD_ACTIVE : Fld := ⟨0x0200C, 5, 1⟩
abbrev A.SUPPLY_HOLD_CFG : Nat := 0x02040
abbrev F.SUPPLY_HOLD_CFG_HOLD_MAX : Fld := ⟨0x02040, 0, 6⟩
abbrev F.SUPPLY_HOLD_CFG_SDS_EN : Fld := ⟨0x02040, 8, 1⟩
abbrev A.SUPPLY_VOLTS : Nat := 0x02044
abbrev F.SUPPLY_VOLTS_VAUX : Fld := ⟨0x02044, 0, 16⟩
abbrev F.SUPPLY_VOLTS_BANK : Fld := ⟨0x02044, 16, 16⟩
abbrev A.RESET_CAUSE : Nat := 0x03040
abbrev F.RESET_CAUSE_KIND : Fld := ⟨0x03040, 0, 3⟩
abbrev F.RESET_CAUSE_FROM_HOLD : Fld := ⟨0x03040, 3, 1⟩
abbrev F.RESET_CAUSE_FROM_TRANSPORT : Fld := ⟨0x03040, 4, 1⟩
abbrev F.RESET_CAUSE_REFUSED : Fld := ⟨0x03040, 5, 1⟩
abbrev F.RESET_CAUSE_COUNT : Fld := ⟨0x03040, 16, 16⟩
abbrev A.RESET_CMD : Nat := 0x03044
abbrev F.RESET_CMD_KEY : Fld := ⟨0x03044, 0, 16⟩
abbrev F.RESET_CMD_ACTION : Fld := ⟨0x03044, 16, 2⟩
abbrev A.CLOCK_STATUS : Nat := 0x0400C
abbrev F.CLOCK_STATUS_RUN : Fld := ⟨0x0400C, 0, 14⟩
abbrev F.CLOCK_STATUS_LOCK : Fld := ⟨0x0400C, 16, 3⟩
abbrev F.CLOCK_STATUS_CD10_DIV2 : Fld := ⟨0x0400C, 19, 1⟩
abbrev A.CLOCK_CFG : Nat := 0x04040
abbrev F.CLOCK_CFG_AON_WAKE_S : Fld := ⟨0x04040, 0, 16⟩
abbrev F.CLOCK_CFG_MON_PCT : Fld := ⟨0x04040, 16, 3⟩
abbrev A.CLOCK_WAKE : Nat := 0x04044
abbrev F.CLOCK_WAKE_CAUSE : Fld := ⟨0x04044, 0, 4⟩
abbrev A.CLOCK_XSTAT : Nat := 0x04048
abbrev F.CLOCK_XSTAT_MERGED : Fld := ⟨0x04048, 0, 16⟩
abbrev F.CLOCK_XSTAT_WAKES : Fld := ⟨0x04048, 16, 16⟩
abbrev A.CLOCK_MONFAIL : Nat := 0x0404C
abbrev F.CLOCK_MONFAIL_DOMAINS : Fld := ⟨0x0404C, 0, 14⟩
abbrev A.CLOCK_FREQ (n : Nat) : Nat := 0x04080 + 0x4 * n
abbrev F.CLOCK_FREQ_HZ (n : Nat) : Fld := ⟨0x04080 + 0x4 * n, 0, 32⟩
abbrev A.HOST_CFG : Nat := 0x05040
abbrev F.HOST_CFG_NS_OPEN : Fld := ⟨0x05040, 0, 1⟩
abbrev F.HOST_CFG_IRQ_EN : Fld := ⟨0x05040, 1, 1⟩
abbrev A.HOST_SESS : Nat := 0x05044
abbrev F.HOST_SESS_SECURE : Fld := ⟨0x05044, 0, 1⟩
abbrev A.HOST_SEQ : Nat := 0x05048
abbrev F.HOST_SEQ_SEQ : Fld := ⟨0x05048, 0, 32⟩
abbrev A.HOST_LAST_ERR : Nat := 0x0504C
abbrev F.HOST_LAST_ERR_CODE : Fld := ⟨0x0504C, 0, 8⟩
abbrev F.HOST_LAST_ERR_ADDR : Fld := ⟨0x0504C, 8, 20⟩
abbrev A.HOST_EVT_SUM (n : Nat) : Nat := 0x05060 + 0x4 * n
abbrev F.HOST_EVT_SUM_PAGES (n : Nat) : Fld := ⟨0x05060 + 0x4 * n, 0, 32⟩
abbrev A.BOUGH_STATUS (c : Nat) : Nat := 0x0800C + 0x1000 * c
abbrev F.BOUGH_STATUS_IN_SERVICE (c : Nat) : Fld := ⟨0x0800C + 0x1000 * c, 0, 8⟩
abbrev F.BOUGH_STATUS_LAGGARD (c : Nat) : Fld := ⟨0x0800C + 0x1000 * c, 8, 8⟩
abbrev F.BOUGH_STATUS_RETIRED (c : Nat) : Fld := ⟨0x0800C + 0x1000 * c, 16, 8⟩
abbrev F.BOUGH_STATUS_PERMANENT (c : Nat) : Fld := ⟨0x0800C + 0x1000 * c, 24, 8⟩
abbrev A.BOUGH_ENG_0 (c : Nat) (n : Nat) : Nat := 0x08040 + 0x1000 * c + 0x10 * n
abbrev F.BOUGH_ENG_0_STATE (c : Nat) (n : Nat) : Fld := ⟨0x08040 + 0x1000 * c + 0x10 * n, 0, 3⟩
abbrev F.BOUGH_ENG_0_DEPTH (c : Nat) (n : Nat) : Fld := ⟨0x08040 + 0x1000 * c + 0x10 * n, 8, 8⟩
abbrev F.BOUGH_ENG_0_RATE (c : Nat) (n : Nat) : Fld := ⟨0x08040 + 0x1000 * c + 0x10 * n, 16, 16⟩
abbrev A.BOUGH_ENG_4 (c : Nat) (n : Nat) : Nat := 0x08044 + 0x1000 * c + 0x10 * n
abbrev F.BOUGH_ENG_4_ITEMS (c : Nat) (n : Nat) : Fld := ⟨0x08044 + 0x1000 * c + 0x10 * n, 0, 32⟩
abbrev A.BOUGH_ENG_8 (c : Nat) (n : Nat) : Nat := 0x08048 + 0x1000 * c + 0x10 * n
abbrev F.BOUGH_ENG_8_LAG_RUN (c : Nat) (n : Nat) : Fld := ⟨0x08048 + 0x1000 * c + 0x10 * n, 0, 16⟩
abbrev F.BOUGH_ENG_8_TIMEOUTS (c : Nat) (n : Nat) : Fld := ⟨0x08048 + 0x1000 * c + 0x10 * n, 16, 16⟩
abbrev A.BOUGH_ENG_C (c : Nat) (n : Nat) : Nat := 0x0804C + 0x1000 * c + 0x10 * n
abbrev F.BOUGH_ENG_C_RETIRES (c : Nat) (n : Nat) : Fld := ⟨0x0804C + 0x1000 * c + 0x10 * n, 0, 8⟩
abbrev F.BOUGH_ENG_C_LAST_FAIL (c : Nat) (n : Nat) : Fld := ⟨0x0804C + 0x1000 * c + 0x10 * n, 8, 8⟩
abbrev F.BOUGH_ENG_C_TESTS (c : Nat) (n : Nat) : Fld := ⟨0x0804C + 0x1000 * c + 0x10 * n, 16, 16⟩
abbrev A.BOUGH_ECC (c : Nat) : Nat := 0x080C0 + 0x1000 * c
abbrev F.BOUGH_ECC_CE (c : Nat) : Fld := ⟨0x080C0 + 0x1000 * c, 0, 16⟩
abbrev F.BOUGH_ECC_UE (c : Nat) : Fld := ⟨0x080C0 + 0x1000 * c, 16, 16⟩
abbrev A.BOUGH_MEDIAN (c : Nat) : Nat := 0x080C4 + 0x1000 * c
abbrev F.BOUGH_MEDIAN_MEDIAN (c : Nat) : Fld := ⟨0x080C4 + 0x1000 * c, 0, 16⟩
abbrev A.SCHED_STATUS : Nat := 0x1000C
abbrev F.SCHED_STATUS_IN_SERVICE : Fld := ⟨0x1000C, 0, 7⟩
abbrev F.SCHED_STATUS_LAGGARDS : Fld := ⟨0x1000C, 8, 6⟩
abbrev F.SCHED_STATUS_OUT : Fld := ⟨0x1000C, 16, 6⟩
abbrev F.SCHED_STATUS_CROWN_ENG : Fld := ⟨0x1000C, 24, 6⟩
abbrev A.SCHED_CFG : Nat := 0x10040
abbrev F.SCHED_CFG_TEST_S : Fld := ⟨0x10040, 0, 6⟩
abbrev F.SCHED_CFG_REJOIN_S : Fld := ⟨0x10040, 8, 12⟩
abbrev F.SCHED_CFG_RETIRE_MAX : Fld := ⟨0x10040, 24, 4⟩
abbrev A.SCHED_GRAFTS : Nat := 0x10044
abbrev F.SCHED_GRAFTS_COUNT : Fld := ⟨0x10044, 0, 32⟩
abbrev A.SCHED_STEALS : Nat := 0x10048
abbrev F.SCHED_STEALS_LOCAL : Fld := ⟨0x10048, 0, 16⟩
abbrev F.SCHED_STEALS_REMOTE : Fld := ⟨0x10048, 16, 16⟩
abbrev A.SCHED_STALE : Nat := 0x1004C
abbrev F.SCHED_STALE_COUNT : Fld := ⟨0x1004C, 0, 32⟩
abbrev A.SCHED_TMO : Nat := 0x10050
abbrev F.SCHED_TMO_ITEM_TMO : Fld := ⟨0x10050, 0, 16⟩
abbrev F.SCHED_TMO_SA_VOID : Fld := ⟨0x10050, 16, 16⟩
abbrev A.SCHED_CROWN_ECC : Nat := 0x10054
abbrev F.SCHED_CROWN_ECC_CE : Fld := ⟨0x10054, 0, 16⟩
abbrev F.SCHED_CROWN_ECC_UE : Fld := ⟨0x10054, 16, 16⟩
abbrev A.SCHED_LANE (n : Nat) : Nat := 0x10060 + 0x4 * n
abbrev F.SCHED_LANE_WAITING (n : Nat) : Fld := ⟨0x10060 + 0x4 * n, 0, 16⟩
abbrev F.SCHED_LANE_PEAK (n : Nat) : Fld := ⟨0x10060 + 0x4 * n, 16, 16⟩
abbrev A.QUEUE_QCFG (n : Nat) : Nat := 0x11040 + 0x4 * n
abbrev F.QUEUE_QCFG_SIZE_KIB (n : Nat) : Fld := ⟨0x11040 + 0x4 * n, 0, 13⟩
abbrev F.QUEUE_QCFG_HOLD (n : Nat) : Fld := ⟨0x11040 + 0x4 * n, 16, 1⟩
abbrev A.QUEUE_QSTAT (n : Nat) : Nat := 0x11100 + 0x4 * n
abbrev F.QUEUE_QSTAT_FILL (n : Nat) : Fld := ⟨0x11100 + 0x4 * n, 0, 16⟩
abbrev F.QUEUE_QSTAT_PEAK (n : Nat) : Fld := ⟨0x11100 + 0x4 * n, 16, 16⟩
abbrev A.QUEUE_DROP (n : Nat) : Nat := 0x11300 + 0x4 * n
abbrev F.QUEUE_DROP_DROPPED (n : Nat) : Fld := ⟨0x11300 + 0x4 * n, 0, 32⟩
abbrev A.QREAD_RSEL : Nat := 0x12040
abbrev F.QREAD_RSEL_RING : Fld := ⟨0x12040, 0, 5⟩
abbrev A.QREAD_ROFS : Nat := 0x12044
abbrev F.QREAD_ROFS_OFS : Fld := ⟨0x12044, 0, 16⟩
abbrev A.QREAD_RPOP : Nat := 0x12048
abbrev F.QREAD_RPOP_POP : Fld := ⟨0x12048, 0, 1⟩
abbrev A.QREAD_RESEQ : Nat := 0x1204C
abbrev F.QREAD_RESEQ_ESEQ : Fld := ⟨0x1204C, 0, 32⟩
abbrev A.QREAD_RSTAT : Nat := 0x12050
abbrev F.QREAD_RSTAT_LEN : Fld := ⟨0x12050, 0, 16⟩
abbrev F.QREAD_RSTAT_VALID : Fld := ⟨0x12050, 16, 1⟩
abbrev F.QREAD_RSTAT_OVERRUN : Fld := ⟨0x12050, 17, 1⟩
abbrev F.QREAD_RSTAT_TORN : Fld := ⟨0x12050, 18, 1⟩
abbrev A.QREAD_RLOST : Nat := 0x12054
abbrev F.QREAD_RLOST_LOST : Fld := ⟨0x12054, 0, 32⟩
abbrev A.QREAD_WIN (n : Nat) : Nat := 0x12400 + 0x4 * n
abbrev F.QREAD_WIN_DATA (n : Nat) : Fld := ⟨0x12400 + 0x4 * n, 0, 32⟩
abbrev A.RING_STATUS : Nat := 0x1800C
abbrev F.RING_STATUS_STATE : Fld := ⟨0x1800C, 0, 3⟩
abbrev F.RING_STATUS_DOWN_PORT : Fld := ⟨0x1800C, 3, 1⟩
abbrev F.RING_STATUS_LINK_A : Fld := ⟨0x1800C, 4, 1⟩
abbrev F.RING_STATUS_LINK_B : Fld := ⟨0x1800C, 5, 1⟩
abbrev F.RING_STATUS_FOUND : Fld := ⟨0x1800C, 8, 6⟩
abbrev F.RING_STATUS_BREAK_LO : Fld := ⟨0x1800C, 16, 6⟩
abbrev F.RING_STATUS_BREAK_HI : Fld := ⟨0x1800C, 24, 6⟩
abbrev F.RING_STATUS_FOREIGN : Fld := ⟨0x1800C, 30, 1⟩
abbrev F.RING_STATUS_CONFLICT : Fld := ⟨0x1800C, 31, 1⟩
abbrev A.RING_CMD : Nat := 0x18040
abbrev F.RING_CMD_ENUMERATE : Fld := ⟨0x18040, 0, 1⟩
abbrev F.RING_CMD_MEASURE : Fld := ⟨0x18040, 1, 1⟩
abbrev F.RING_CMD_CLR_ERR : Fld := ⟨0x18040, 2, 1⟩
abbrev A.RING_CFG : Nat := 0x18044
abbrev F.RING_CFG_NODE_COUNT : Fld := ⟨0x18044, 0, 6⟩
abbrev F.RING_CFG_TOPOLOGY : Fld := ⟨0x18044, 8, 1⟩
abbrev F.RING_CFG_KEEPALIVE_MS : Fld := ⟨0x18044, 16, 7⟩
abbrev F.RING_CFG_DELAY_PERIOD : Fld := ⟨0x18044, 24, 4⟩
abbrev A.RING_TIME : Nat := 0x18048
abbrev F.RING_TIME_LOOP_NS : Fld := ⟨0x18048, 0, 16⟩
abbrev F.RING_TIME_APERTURE_C : Fld := ⟨0x18048, 16, 16⟩
abbrev A.RING_ERRA : Nat := 0x18050
abbrev F.RING_ERRA_CRC_ERR : Fld := ⟨0x18050, 0, 16⟩
abbrev F.RING_ERRA_CODE_ERR : Fld := ⟨0x18050, 16, 16⟩
abbrev A.RING_ERRB : Nat := 0x18054
abbrev F.RING_ERRB_ALL : Fld := ⟨0x18054, 0, 32⟩
abbrev A.RING_DELAY (n : Nat) : Nat := 0x18080 + 0x4 * n
abbrev F.RING_DELAY_D_DOWN (n : Nat) : Fld := ⟨0x18080 + 0x4 * n, 0, 16⟩
abbrev F.RING_DELAY_D_UP (n : Nat) : Fld := ⟨0x18080 + 0x4 * n, 16, 16⟩
abbrev A.RING_NODEID (n : Nat) : Nat := 0x18100 + 0x4 * n
abbrev F.RING_NODEID_TYPE (n : Nat) : Fld := ⟨0x18100 + 0x4 * n, 0, 8⟩
abbrev F.RING_NODEID_CELLS (n : Nat) : Fld := ⟨0x18100 + 0x4 * n, 8, 5⟩
abbrev F.RING_NODEID_FW_VER (n : Nat) : Fld := ⟨0x18100 + 0x4 * n, 16, 16⟩
abbrev A.HARVEST_STATUS : Nat := 0x1900C
abbrev F.HARVEST_STATUS_RUNNING : Fld := ⟨0x1900C, 0, 1⟩
abbrev F.HARVEST_STATUS_LAST_KIND : Fld := ⟨0x1900C, 1, 3⟩
abbrev F.HARVEST_STATUS_FAST_T : Fld := ⟨0x1900C, 4, 1⟩
abbrev F.HARVEST_STATUS_PARTIAL : Fld := ⟨0x1900C, 5, 1⟩
abbrev A.HARVEST_CMD : Nat := 0x19040
abbrev F.HARVEST_CMD_ONESHOT : Fld := ⟨0x19040, 0, 3⟩
abbrev A.HARVEST_CFG : Nat := 0x19044
abbrev F.HARVEST_CFG_DIV : Fld := ⟨0x19044, 0, 16⟩
abbrev F.HARVEST_CFG_V_EN : Fld := ⟨0x19044, 16, 1⟩
abbrev F.HARVEST_CFG_C_EN : Fld := ⟨0x19044, 17, 1⟩
abbrev F.HARVEST_CFG_C_EVERY : Fld := ⟨0x19044, 18, 8⟩
abbrev A.HARVEST_POINT : Nat := 0x19048
abbrev F.HARVEST_POINT_POINT : Fld := ⟨0x19048, 0, 16⟩
abbrev A.HARVEST_TCFG : Nat := 0x1904C
abbrev F.HARVEST_TCFG_T_NORM : Fld := ⟨0x1904C, 0, 8⟩
abbrev F.HARVEST_TCFG_T_FAST : Fld := ⟨0x1904C, 8, 8⟩
abbrev F.HARVEST_TCFG_NEAR_K : Fld := ⟨0x1904C, 16, 8⟩
abbrev A.HARVEST_SEQ : Nat := 0x19050
abbrev F.HARVEST_SEQ_HSEQ : Fld := ⟨0x19050, 0, 32⟩
abbrev A.HARVEST_APER : Nat := 0x19054
abbrev F.HARVEST_APER_NS : Fld := ⟨0x19054, 0, 32⟩
abbrev A.HARVEST_STAT : Nat := 0x19060
abbrev F.HARVEST_STAT_PARTIAL_CNT : Fld := ⟨0x19060, 0, 16⟩
abbrev F.HARVEST_STAT_MISSED : Fld := ⟨0x19060, 16, 16⟩
abbrev A.HARVEST_STAT2 : Nat := 0x19064
abbrev F.HARVEST_STAT2_RESENT : Fld := ⟨0x19064, 0, 16⟩
abbrev F.HARVEST_STAT2_DROPPED : Fld := ⟨0x19064, 16, 16⟩
abbrev A.CELLV_SNAP : Nat := 0x1A040
abbrev F.CELLV_SNAP_FREEZE : Fld := ⟨0x1A040, 0, 1⟩
abbrev A.CELLV_SEQ : Nat := 0x1A044
abbrev F.CELLV_SEQ_HSEQ : Fld := ⟨0x1A044, 0, 32⟩
abbrev A.CELLV_V (n : Nat) : Nat := 0x1A080 + 0x4 * n
abbrev F.CELLV_V_CELL_LO (n : Nat) : Fld := ⟨0x1A080 + 0x4 * n, 0, 16⟩
abbrev F.CELLV_V_CELL_HI (n : Nat) : Fld := ⟨0x1A080 + 0x4 * n, 16, 16⟩
abbrev A.CELLV_STACK (n : Nat) : Nat := 0x1A480 + 0x4 * n
abbrev F.CELLV_STACK_NODE_LO (n : Nat) : Fld := ⟨0x1A480 + 0x4 * n, 0, 16⟩
abbrev F.CELLV_STACK_NODE_HI (n : Nat) : Fld := ⟨0x1A480 + 0x4 * n, 16, 16⟩
abbrev A.CELLV_STRING : Nat := 0x1A4C0
abbrev F.CELLV_STRING_V_STRING : Fld := ⟨0x1A4C0, 0, 32⟩
abbrev A.CELLV_BUS : Nat := 0x1A4C4
abbrev F.CELLV_BUS_V_BUS : Fld := ⟨0x1A4C4, 0, 32⟩
abbrev A.CELLV_CURRENT : Nat := 0x1A4C8
abbrev F.CELLV_CURRENT_I_STRING : Fld := ⟨0x1A4C8, 0, 32⟩
abbrev A.NODE_STATUS : Nat := 0x1B00C
abbrev F.NODE_STATUS_LOOP_CLOSED : Fld := ⟨0x1B00C, 0, 1⟩
abbrev F.NODE_STATUS_BYPASS : Fld := ⟨0x1B00C, 1, 1⟩
abbrev F.NODE_STATUS_LOOP_MA : Fld := ⟨0x1B00C, 8, 8⟩
abbrev A.NODE_NCFG (n : Nat) : Nat := 0x1B040 + 0x4 * n
abbrev F.NODE_NCFG_CELLS (n : Nat) : Fld := ⟨0x1B040 + 0x4 * n, 0, 5⟩
abbrev F.NODE_NCFG_TCH (n : Nat) : Fld := ⟨0x1B040 + 0x4 * n, 8, 4⟩
abbrev A.NODE_THR : Nat := 0x1B0C0
abbrev F.NODE_THR_OV_MV : Fld := ⟨0x1B0C0, 0, 16⟩
abbrev F.NODE_THR_UV_MV : Fld := ⟨0x1B0C0, 16, 16⟩
abbrev A.NODE_THR2 : Nat := 0x1B0C4
abbrev F.NODE_THR2_DEGLITCH_US : Fld := ⟨0x1B0C4, 0, 8⟩
abbrev A.NODE_TEMP (n : Nat) : Nat := 0x1B100 + 0x4 * n
abbrev F.NODE_TEMP_ENTRY_LO (n : Nat) : Fld := ⟨0x1B100 + 0x4 * n, 0, 16⟩
abbrev F.NODE_TEMP_ENTRY_HI (n : Nat) : Fld := ⟨0x1B100 + 0x4 * n, 16, 16⟩
abbrev A.NODE_NSTAT (n : Nat) : Nat := 0x1B400 + 0x4 * n
abbrev F.NODE_NSTAT_CAUSE (n : Nat) : Fld := ⟨0x1B400 + 0x4 * n, 0, 3⟩
abbrev F.NODE_NSTAT_THR_OK (n : Nat) : Fld := ⟨0x1B400 + 0x4 * n, 8, 1⟩
abbrev F.NODE_NSTAT_UNSUSPENDED (n : Nat) : Fld := ⟨0x1B400 + 0x4 * n, 9, 1⟩
abbrev F.NODE_NSTAT_MISSING (n : Nat) : Fld := ⟨0x1B400 + 0x4 * n, 10, 1⟩
abbrev F.NODE_NSTAT_COUNT_ERR (n : Nat) : Fld := ⟨0x1B400 + 0x4 * n, 11, 1⟩
abbrev A.PLAUS_STATUS : Nat := 0x1C00C
abbrev F.PLAUS_STATUS_PENDING : Fld := ⟨0x1C00C, 0, 4⟩
abbrev F.PLAUS_STATUS_LASTING : Fld := ⟨0x1C00C, 4, 4⟩
abbrev F.PLAUS_STATUS_SUSPECT_PATH : Fld := ⟨0x1C00C, 8, 2⟩
abbrev A.PLAUS_CFG : Nat := 0x1C040
abbrev F.PLAUS_CFG_M_CELL : Fld := ⟨0x1C040, 0, 8⟩
abbrev F.PLAUS_CFG_M_NODE : Fld := ⟨0x1C040, 8, 8⟩
abbrev F.PLAUS_CFG_M_STRING : Fld := ⟨0x1C040, 16, 16⟩
abbrev A.PLAUS_R_PATH : Nat := 0x1C044
abbrev F.PLAUS_R_PATH_R_PATH : Fld := ⟨0x1C044, 0, 20⟩
abbrev A.PLAUS_REACT : Nat := 0x1C048
abbrev F.PLAUS_REACT_C : Fld := ⟨0x1C048, 0, 8⟩
abbrev A.PLAUS_SUSPECT (n : Nat) : Nat := 0x1C080 + 0x4 * n
abbrev F.PLAUS_SUSPECT_CELLS (n : Nat) : Fld := ⟨0x1C080 + 0x4 * n, 0, 32⟩
abbrev A.PLAUS_NSUSP : Nat := 0x1C0C0
abbrev F.PLAUS_NSUSP_NODES : Fld := ⟨0x1C0C0, 0, 32⟩
abbrev A.PLAUS_LAST : Nat := 0x1C0C4
abbrev F.PLAUS_LAST_INDEX : Fld := ⟨0x1C0C4, 0, 9⟩
abbrev F.PLAUS_LAST_CHECK : Fld := ⟨0x1C0C4, 12, 3⟩
abbrev F.PLAUS_LAST_DIFF : Fld := ⟨0x1C0C4, 16, 16⟩
abbrev A.BAL_STATUS : Nat := 0x1D00C
abbrev F.BAL_STATUS_ACTIVE : Fld := ⟨0x1D00C, 0, 1⟩
abbrev F.BAL_STATUS_YIELDED : Fld := ⟨0x1D00C, 1, 1⟩
abbrev F.BAL_STATUS_BLEEDING : Fld := ⟨0x1D00C, 8, 8⟩
abbrev A.BAL_CMD : Nat := 0x1D040
abbrev F.BAL_CMD_PLAN_NOW : Fld := ⟨0x1D040, 0, 1⟩
abbrev F.BAL_CMD_STOP : Fld := ⟨0x1D040, 1, 1⟩
abbrev F.BAL_CMD_CLR_NFAULT : Fld := ⟨0x1D040, 2, 1⟩
abbrev A.BAL_CFG : Nat := 0x1D044
abbrev F.BAL_CFG_EN : Fld := ⟨0x1D044, 0, 1⟩
abbrev F.BAL_CFG_RUN_EN : Fld := ⟨0x1D044, 1, 1⟩
abbrev F.BAL_CFG_IMP_YIELD : Fld := ⟨0x1D044, 2, 1⟩
abbrev F.BAL_CFG_MAX_PER_NODE : Fld := ⟨0x1D044, 8, 4⟩
abbrev F.BAL_CFG_TLIM : Fld := ⟨0x1D044, 16, 7⟩
abbrev A.BAL_PLAN : Nat := 0x1D048
abbrev F.BAL_PLAN_PLAN_S : Fld := ⟨0x1D048, 0, 12⟩
abbrev F.BAL_PLAN_DEADBAND : Fld := ⟨0x1D048, 16, 16⟩
abbrev A.BAL_RBLEED : Nat := 0x1D04C
abbrev F.BAL_RBLEED_RBLEED : Fld := ⟨0x1D04C, 0, 16⟩
abbrev A.BAL_LIMITS : Nat := 0x1D050
abbrev F.BAL_LIMITS_VMIN_MV : Fld := ⟨0x1D050, 0, 16⟩
abbrev F.BAL_LIMITS_T_CELL_MAX : Fld := ⟨0x1D050, 16, 8⟩
abbrev A.BAL_NFAULT : Nat := 0x1D054
abbrev F.BAL_NFAULT_NODES : Fld := ⟨0x1D054, 0, 32⟩
abbrev A.BAL_PLANS : Nat := 0x1D058
abbrev F.BAL_PLANS_COUNT : Fld := ⟨0x1D058, 0, 32⟩
abbrev A.BAL_RUN (n : Nat) : Nat := 0x1D080 + 0x4 * n
abbrev F.BAL_RUN_CELLS (n : Nat) : Fld := ⟨0x1D080 + 0x4 * n, 0, 32⟩
abbrev A.BAL_EXCL (n : Nat) : Nat := 0x1D0C0 + 0x4 * n
abbrev F.BAL_EXCL_CELLS (n : Nat) : Fld := ⟨0x1D0C0 + 0x4 * n, 0, 32⟩
abbrev A.BAL_ONTIME (n : Nat) : Nat := 0x1D400 + 0x4 * n
abbrev F.BAL_ONTIME_CELL_LO (n : Nat) : Fld := ⟨0x1D400 + 0x4 * n, 0, 16⟩
abbrev F.BAL_ONTIME_CELL_HI (n : Nat) : Fld := ⟨0x1D400 + 0x4 * n, 16, 16⟩
abbrev A.PSTAGE_STATUS : Nat := 0x2000C
abbrev F.PSTAGE_STATUS_N_ON : Fld := ⟨0x2000C, 0, 5⟩
abbrev F.PSTAGE_STATUS_SHEDDING : Fld := ⟨0x2000C, 5, 1⟩
abbrev F.PSTAGE_STATUS_SHED_LOCK : Fld := ⟨0x2000C, 6, 1⟩
abbrev F.PSTAGE_STATUS_LIGHT : Fld := ⟨0x2000C, 7, 2⟩
abbrev F.PSTAGE_STATUS_IMP_LOCK : Fld := ⟨0x2000C, 9, 1⟩
abbrev F.PSTAGE_STATUS_GATES_LIVE : Fld := ⟨0x2000C, 10, 1⟩
abbrev A.PSTAGE_PERIOD : Nat := 0x20044
abbrev F.PSTAGE_PERIOD_PER : Fld := ⟨0x20044, 0, 16⟩
abbrev A.PSTAGE_PHEN : Nat := 0x20048
abbrev F.PSTAGE_PHEN_EN : Fld := ⟨0x20048, 0, 16⟩
abbrev F.PSTAGE_PHEN_TYPE : Fld := ⟨0x20048, 16, 16⟩
abbrev A.PSTAGE_RATING : Nat := 0x2004C
abbrev F.PSTAGE_RATING_RATING_KW : Fld := ⟨0x2004C, 0, 10⟩
abbrev A.PSTAGE_SHED : Nat := 0x20050
abbrev F.PSTAGE_SHED_SHED_EN : Fld := ⟨0x20050, 0, 1⟩
abbrev F.PSTAGE_SHED_N_MIN : Fld := ⟨0x20050, 8, 5⟩
abbrev F.PSTAGE_SHED_SHED_RAMP : Fld := ⟨0x20050, 16, 6⟩
abbrev A.PSTAGE_SHED_I : Nat := 0x20054
abbrev F.PSTAGE_SHED_I_I_SHED : Fld := ⟨0x20054, 0, 16⟩
abbrev F.PSTAGE_SHED_I_I_ADD : Fld := ⟨0x20054, 16, 16⟩
abbrev A.PSTAGE_SHED_T : Nat := 0x20058
abbrev F.PSTAGE_SHED_T_T_SHED : Fld := ⟨0x20058, 0, 16⟩
abbrev F.PSTAGE_SHED_T_SHED_HOLD : Fld := ⟨0x20058, 16, 16⟩
abbrev A.PSTAGE_LIGHT : Nat := 0x2005C
abbrev F.PSTAGE_LIGHT_MODE : Fld := ⟨0x2005C, 0, 2⟩
abbrev F.PSTAGE_LIGHT_I_DCM : Fld := ⟨0x2005C, 2, 14⟩
abbrev F.PSTAGE_LIGHT_T_SKIP : Fld := ⟨0x2005C, 16, 10⟩
abbrev A.PSTAGE_BURST : Nat := 0x20060
abbrev F.PSTAGE_BURST_I : Fld := ⟨0x20060, 0, 16⟩
abbrev F.PSTAGE_BURST_ON : Fld := ⟨0x20060, 16, 12⟩
abbrev A.PSTAGE_BURST_TH : Nat := 0x20064
abbrev F.PSTAGE_BURST_TH_ENTER : Fld := ⟨0x20064, 0, 16⟩
abbrev F.PSTAGE_BURST_TH_EXIT : Fld := ⟨0x20064, 16, 16⟩
abbrev A.PSTAGE_CBC : Nat := 0x20068
abbrev F.PSTAGE_CBC_CBC_N : Fld := ⟨0x20068, 0, 8⟩
abbrev F.PSTAGE_CBC_DESAT_REACT : Fld := ⟨0x20068, 8, 2⟩
abbrev A.PSTAGE_RUNMASK : Nat := 0x2006C
abbrev F.PSTAGE_RUNMASK_RUN : Fld := ⟨0x2006C, 0, 16⟩
abbrev F.PSTAGE_RUNMASK_FAULTMASK : Fld := ⟨0x2006C, 16, 16⟩
abbrev A.PSTAGE_SHEDCNT : Nat := 0x20070
abbrev F.PSTAGE_SHEDCNT_SHEDS : Fld := ⟨0x20070, 0, 16⟩
abbrev F.PSTAGE_SHEDCNT_CANCELS : Fld := ⟨0x20070, 16, 16⟩
abbrev A.PHASE_CFG (n : Nat) : Nat := 0x21040 + 0x20 * n
abbrev F.PHASE_CFG_DT_LH (n : Nat) : Fld := ⟨0x21040 + 0x20 * n, 0, 14⟩
abbrev F.PHASE_CFG_DT_HL (n : Nat) : Fld := ⟨0x21040 + 0x20 * n, 16, 14⟩
abbrev A.PHASE_PULSE (n : Nat) : Nat := 0x21044 + 0x20 * n
abbrev F.PHASE_PULSE_T_MIN (n : Nat) : Fld := ⟨0x21044 + 0x20 * n, 0, 10⟩
abbrev F.PHASE_PULSE_BLANK (n : Nat) : Fld := ⟨0x21044 + 0x20 * n, 16, 10⟩
abbrev A.PHASE_REFRESH (n : Nat) : Nat := 0x21048 + 0x20 * n
abbrev F.PHASE_REFRESH_REFRESH_N (n : Nat) : Fld := ⟨0x21048 + 0x20 * n, 0, 8⟩
abbrev F.PHASE_REFRESH_T_REFRESH (n : Nat) : Fld := ⟨0x21048 + 0x20 * n, 16, 10⟩
abbrev A.PHASE_ILIM (n : Nat) : Nat := 0x2104C + 0x20 * n
abbrev F.PHASE_ILIM_POS (n : Nat) : Fld := ⟨0x2104C + 0x20 * n, 0, 10⟩
abbrev F.PHASE_ILIM_NEG (n : Nat) : Fld := ⟨0x2104C + 0x20 * n, 16, 10⟩
abbrev A.PHASE_ISCALE (n : Nat) : Nat := 0x21050 + 0x20 * n
abbrev F.PHASE_ISCALE_SCALE (n : Nat) : Fld := ⟨0x21050 + 0x20 * n, 0, 16⟩
abbrev A.PHASE_STAT (n : Nat) : Nat := 0x21054 + 0x20 * n
abbrev F.PHASE_STAT_STATE (n : Nat) : Fld := ⟨0x21054 + 0x20 * n, 0, 2⟩
abbrev F.PHASE_STAT_SKIPPING (n : Nat) : Fld := ⟨0x21054 + 0x20 * n, 2, 1⟩
abbrev F.PHASE_STAT_CBC_POS (n : Nat) : Fld := ⟨0x21054 + 0x20 * n, 3, 1⟩
abbrev F.PHASE_STAT_CBC_NEG (n : Nat) : Fld := ⟨0x21054 + 0x20 * n, 4, 1⟩
abbrev F.PHASE_STAT_FLT_OK (n : Nat) : Fld := ⟨0x21054 + 0x20 * n, 5, 1⟩
abbrev F.PHASE_STAT_OFFSET (n : Nat) : Fld := ⟨0x21054 + 0x20 * n, 16, 16⟩
abbrev A.PHASE_COUNT (n : Nat) : Nat := 0x21058 + 0x20 * n
abbrev F.PHASE_COUNT_CBC (n : Nat) : Fld := ⟨0x21058 + 0x20 * n, 0, 16⟩
abbrev F.PHASE_COUNT_SKIP (n : Nat) : Fld := ⟨0x21058 + 0x20 * n, 16, 16⟩
abbrev A.PHASE_CMD (n : Nat) : Nat := 0x2105C + 0x20 * n
abbrev F.PHASE_CMD_CLR_FAULT (n : Nat) : Fld := ⟨0x2105C + 0x20 * n, 0, 1⟩
abbrev A.LOOP_STATUS : Nat := 0x2200C
abbrev F.LOOP_STATUS_EVAL : Fld := ⟨0x2200C, 0, 1⟩
abbrev F.LOOP_STATUS_SOURCE : Fld := ⟨0x2200C, 1, 2⟩
abbrev F.LOOP_STATUS_RAMPING : Fld := ⟨0x2200C, 3, 1⟩
abbrev F.LOOP_STATUS_AT_HI : Fld := ⟨0x2200C, 4, 1⟩
abbrev F.LOOP_STATUS_AT_LO : Fld := ⟨0x2200C, 5, 1⟩
abbrev F.LOOP_STATUS_PL_LASTING : Fld := ⟨0x2200C, 8, 3⟩
abbrev F.LOOP_STATUS_PL_PENDING : Fld := ⟨0x2200C, 11, 3⟩
abbrev A.LOOP_CFG : Nat := 0x22040
abbrev F.LOOP_CFG_SOURCE : Fld := ⟨0x22040, 0, 2⟩
abbrev F.LOOP_CFG_OUTER_DIV : Fld := ⟨0x22040, 4, 8⟩
abbrev F.LOOP_CFG_INNER_2X : Fld := ⟨0x22040, 12, 1⟩
abbrev F.LOOP_CFG_PLAUS_EN : Fld := ⟨0x22040, 13, 1⟩
abbrev A.LOOP_ILIM : Nat := 0x22044
abbrev F.LOOP_ILIM_I_TOT_MAX : Fld := ⟨0x22044, 0, 16⟩
abbrev A.LOOP_VLIM : Nat := 0x22048
abbrev F.LOOP_VLIM_V_STR_MAX : Fld := ⟨0x22048, 0, 16⟩
abbrev F.LOOP_VLIM_V_STR_MIN : Fld := ⟨0x22048, 16, 16⟩
abbrev A.LOOP_VBUS : Nat := 0x2204C
abbrev F.LOOP_VBUS_V_BUS_MAX : Fld := ⟨0x2204C, 0, 16⟩
abbrev A.LOOP_CBUS : Nat := 0x22050
abbrev F.LOOP_CBUS_C_BUS : Fld := ⟨0x22050, 0, 20⟩
abbrev A.LOOP_PLAUS : Nat := 0x22054
abbrev F.LOOP_PLAUS_WIN : Fld := ⟨0x22054, 0, 8⟩
abbrev F.LOOP_PLAUS_TOL_PCT : Fld := ⟨0x22054, 8, 8⟩
abbrev F.LOOP_PLAUS_TOL_A : Fld := ⟨0x22054, 16, 8⟩
abbrev F.LOOP_PLAUS_TOL_V : Fld := ⟨0x22054, 24, 8⟩
abbrev A.LOOP_PREACT : Nat := 0x22058
abbrev F.LOOP_PREACT_M : Fld := ⟨0x22058, 0, 6⟩
abbrev A.LOOP_LIND (n : Nat) : Nat := 0x22060 + 0x4 * n
abbrev F.LOOP_LIND_L_LO (n : Nat) : Fld := ⟨0x22060 + 0x4 * n, 0, 16⟩
abbrev F.LOOP_LIND_L_HI (n : Nat) : Fld := ⟨0x22060 + 0x4 * n, 16, 16⟩
abbrev A.LOOP_ISET : Nat := 0x22080
abbrev F.LOOP_ISET_I_SET : Fld := ⟨0x22080, 0, 32⟩
abbrev A.LOOP_IHI : Nat := 0x22084
abbrev F.LOOP_IHI_I_HI : Fld := ⟨0x22084, 0, 32⟩
abbrev A.LOOP_ILO : Nat := 0x22088
abbrev F.LOOP_ILO_I_LO : Fld := ⟨0x22088, 0, 32⟩
abbrev A.LOOP_ITOT : Nat := 0x2208C
abbrev F.LOOP_ITOT_I_TOT : Fld := ⟨0x2208C, 0, 32⟩
abbrev A.LOOP_STIM : Nat := 0x22090
abbrev F.LOOP_STIM_STIM : Fld := ⟨0x22090, 0, 32⟩
abbrev A.LOOP_LATE : Nat := 0x22094
abbrev F.LOOP_LATE_COUNT : Fld := ⟨0x22094, 0, 16⟩
abbrev A.LOOP_PLAST : Nat := 0x22098
abbrev F.LOOP_PLAST_MODEL : Fld := ⟨0x22098, 0, 2⟩
abbrev F.LOOP_PLAST_PHASE : Fld := ⟨0x22098, 4, 4⟩
abbrev F.LOOP_PLAST_RESID : Fld := ⟨0x22098, 16, 16⟩
abbrev A.LOOP_ICFG (n : Nat) : Nat := 0x22100 + 0x40 * n
abbrev F.LOOP_ICFG_EN (n : Nat) : Fld := ⟨0x22100 + 0x40 * n, 0, 1⟩
abbrev F.LOOP_ICFG_TYPE (n : Nat) : Fld := ⟨0x22100 + 0x40 * n, 1, 1⟩
abbrev F.LOOP_ICFG_FF (n : Nat) : Fld := ⟨0x22100 + 0x40 * n, 2, 1⟩
abbrev A.LOOP_K0 (n : Nat) : Nat := 0x22104 + 0x40 * n
abbrev F.LOOP_K0_K (n : Nat) : Fld := ⟨0x22104 + 0x40 * n, 0, 32⟩
abbrev A.LOOP_K1 (n : Nat) : Nat := 0x22108 + 0x40 * n
abbrev F.LOOP_K1_K (n : Nat) : Fld := ⟨0x22108 + 0x40 * n, 0, 32⟩
abbrev A.LOOP_K2 (n : Nat) : Nat := 0x2210C + 0x40 * n
abbrev F.LOOP_K2_K (n : Nat) : Fld := ⟨0x2210C + 0x40 * n, 0, 32⟩
abbrev A.LOOP_K3 (n : Nat) : Nat := 0x22110 + 0x40 * n
abbrev F.LOOP_K3_K (n : Nat) : Fld := ⟨0x22110 + 0x40 * n, 0, 32⟩
abbrev A.LOOP_K4 (n : Nat) : Nat := 0x22114 + 0x40 * n
abbrev F.LOOP_K4_K (n : Nat) : Fld := ⟨0x22114 + 0x40 * n, 0, 32⟩
abbrev A.LOOP_K5 (n : Nat) : Nat := 0x22118 + 0x40 * n
abbrev F.LOOP_K5_K (n : Nat) : Fld := ⟨0x22118 + 0x40 * n, 0, 32⟩
abbrev A.LOOP_SHIFTA (n : Nat) : Nat := 0x2211C + 0x40 * n
abbrev F.LOOP_SHIFTA_SH0 (n : Nat) : Fld := ⟨0x2211C + 0x40 * n, 0, 6⟩
abbrev F.LOOP_SHIFTA_SH1 (n : Nat) : Fld := ⟨0x2211C + 0x40 * n, 8, 6⟩
abbrev F.LOOP_SHIFTA_SH2 (n : Nat) : Fld := ⟨0x2211C + 0x40 * n, 16, 6⟩
abbrev F.LOOP_SHIFTA_SH3 (n : Nat) : Fld := ⟨0x2211C + 0x40 * n, 24, 6⟩
abbrev A.LOOP_SHIFTB (n : Nat) : Nat := 0x22120 + 0x40 * n
abbrev F.LOOP_SHIFTB_SH4 (n : Nat) : Fld := ⟨0x22120 + 0x40 * n, 0, 6⟩
abbrev F.LOOP_SHIFTB_SH5 (n : Nat) : Fld := ⟨0x22120 + 0x40 * n, 8, 6⟩
abbrev A.LOOP_OMIN (n : Nat) : Nat := 0x22124 + 0x40 * n
abbrev F.LOOP_OMIN_OMIN (n : Nat) : Fld := ⟨0x22124 + 0x40 * n, 0, 32⟩
abbrev A.LOOP_OMAX (n : Nat) : Nat := 0x22128 + 0x40 * n
abbrev F.LOOP_OMAX_OMAX (n : Nat) : Fld := ⟨0x22128 + 0x40 * n, 0, 32⟩
abbrev A.LOOP_RAMP (n : Nat) : Nat := 0x2212C + 0x40 * n
abbrev F.LOOP_RAMP_RAMP (n : Nat) : Fld := ⟨0x2212C + 0x40 * n, 0, 32⟩
abbrev A.LOOP_ISLO (n : Nat) : Nat := 0x22130 + 0x40 * n
abbrev F.LOOP_ISLO_IS_LO (n : Nat) : Fld := ⟨0x22130 + 0x40 * n, 0, 32⟩
abbrev A.LOOP_ISHI (n : Nat) : Nat := 0x22134 + 0x40 * n
abbrev F.LOOP_ISHI_IS_HI (n : Nat) : Fld := ⟨0x22134 + 0x40 * n, 0, 16⟩
abbrev A.LOOP_OUT (n : Nat) : Nat := 0x22138 + 0x40 * n
abbrev F.LOOP_OUT_OUT (n : Nat) : Fld := ⟨0x22138 + 0x40 * n, 0, 32⟩
abbrev A.LOOP_ISTAT (n : Nat) : Nat := 0x2213C + 0x40 * n
abbrev F.LOOP_ISTAT_SAT (n : Nat) : Fld := ⟨0x2213C + 0x40 * n, 0, 2⟩
abbrev F.LOOP_ISTAT_FROZEN (n : Nat) : Fld := ⟨0x2213C + 0x40 * n, 2, 1⟩
abbrev F.LOOP_ISTAT_ACTIVE (n : Nat) : Fld := ⟨0x2213C + 0x40 * n, 3, 1⟩
abbrev F.LOOP_ISTAT_SATCNT (n : Nat) : Fld := ⟨0x2213C + 0x40 * n, 16, 16⟩
abbrev A.TRACK_STATUS : Nat := 0x2300C
abbrev F.TRACK_STATUS_STEP : Fld := ⟨0x2300C, 0, 4⟩
abbrev F.TRACK_STATUS_RETRY : Fld := ⟨0x2300C, 4, 1⟩
abbrev F.TRACK_STATUS_MATCHED : Fld := ⟨0x2300C, 5, 1⟩
abbrev F.TRACK_STATUS_FORMING : Fld := ⟨0x2300C, 6, 1⟩
abbrev F.TRACK_STATUS_ABORT : Fld := ⟨0x2300C, 8, 4⟩
abbrev A.TRACK_CFG : Nat := 0x23040
abbrev F.TRACK_CFG_LAW : Fld := ⟨0x23040, 0, 1⟩
abbrev F.TRACK_CFG_START_TB : Fld := ⟨0x23040, 1, 1⟩
abbrev F.TRACK_CFG_FORM_EN : Fld := ⟨0x23040, 2, 1⟩
abbrev F.TRACK_CFG_SHUT_EN : Fld := ⟨0x23040, 3, 1⟩
abbrev A.TRACK_MATCH : Nat := 0x23044
abbrev F.TRACK_MATCH_MATCH_V : Fld := ⟨0x23044, 0, 10⟩
abbrev F.TRACK_MATCH_MATCH_T : Fld := ⟨0x23044, 16, 10⟩
abbrev A.TRACK_ERR : Nat := 0x23048
abbrev F.TRACK_ERR_ERR_V : Fld := ⟨0x23048, 0, 16⟩
abbrev F.TRACK_ERR_ERR_T : Fld := ⟨0x23048, 16, 16⟩
abbrev A.TRACK_TIMES : Nat := 0x2304C
abbrev F.TRACK_TIMES_T_TRACK : Fld := ⟨0x2304C, 0, 16⟩
abbrev F.TRACK_TIMES_MEET_MAX : Fld := ⟨0x2304C, 16, 16⟩
abbrev A.TRACK_PRE : Nat := 0x23050
abbrev F.TRACK_PRE_R_PRE : Fld := ⟨0x23050, 0, 16⟩
abbrev F.TRACK_PRE_C_STR : Fld := ⟨0x23050, 16, 16⟩
abbrev A.TRACK_PRE2 : Nat := 0x23054
abbrev F.TRACK_PRE2_I_END : Fld := ⟨0x23054, 0, 16⟩
abbrev F.TRACK_PRE2_RETRY_WAIT : Fld := ⟨0x23054, 16, 16⟩
abbrev A.TRACK_START_AT_NS : Nat := 0x23058
abbrev F.TRACK_START_AT_NS_NS : Fld := ⟨0x23058, 0, 32⟩
abbrev A.TRACK_START_AT_SEC_LO : Nat := 0x2305C
abbrev F.TRACK_START_AT_SEC_LO_SEC_LO : Fld := ⟨0x2305C, 0, 32⟩
abbrev A.TRACK_START_AT_SEC_HI : Nat := 0x23060
abbrev F.TRACK_START_AT_SEC_HI_SEC_HI : Fld := ⟨0x23060, 0, 16⟩
abbrev A.TRACK_FORM_AT_NS : Nat := 0x23064
abbrev F.TRACK_FORM_AT_NS_NS : Fld := ⟨0x23064, 0, 32⟩
abbrev A.TRACK_FORM_AT_SEC_LO : Nat := 0x23068
abbrev F.TRACK_FORM_AT_SEC_LO_SEC_LO : Fld := ⟨0x23068, 0, 32⟩
abbrev A.TRACK_FORM_AT_SEC_HI : Nat := 0x2306C
abbrev F.TRACK_FORM_AT_SEC_HI_SEC_HI : Fld := ⟨0x2306C, 0, 16⟩
abbrev A.TRACK_FORM : Nat := 0x23070
abbrev F.TRACK_FORM_V_TGT : Fld := ⟨0x23070, 0, 16⟩
abbrev F.TRACK_FORM_T_FORM : Fld := ⟨0x23070, 16, 16⟩
abbrev A.TRACK_DROOP : Nat := 0x23074
abbrev F.TRACK_DROOP_DROOP : Fld := ⟨0x23074, 0, 16⟩
abbrev A.TRACK_SHUT : Nat := 0x23078
abbrev F.TRACK_SHUT_V_SHUT : Fld := ⟨0x23078, 0, 16⟩
abbrev A.TRACK_VLINK : Nat := 0x23080
abbrev F.TRACK_VLINK_V_LINK : Fld := ⟨0x23080, 0, 32⟩
abbrev A.TRACK_VPLANT : Nat := 0x23084
abbrev F.TRACK_VPLANT_V_PLANT : Fld := ⟨0x23084, 0, 32⟩
abbrev A.TRACK_REF : Nat := 0x23088
abbrev F.TRACK_REF_R18 : Fld := ⟨0x23088, 0, 32⟩
abbrev A.TRACK_ERRV : Nat := 0x2308C
abbrev F.TRACK_ERRV_E_TRK : Fld := ⟨0x2308C, 0, 32⟩
abbrev A.TRACK_STARTS : Nat := 0x23090
abbrev F.TRACK_STARTS_STARTS : Fld := ⟨0x23090, 0, 16⟩
abbrev F.TRACK_STARTS_ABORTS : Fld := ⟨0x23090, 16, 16⟩
abbrev A.TRACK_PRECHG : Nat := 0x23094
abbrev F.TRACK_PRECHG_T_PRE : Fld := ⟨0x23094, 0, 16⟩
abbrev F.TRACK_PRECHG_I_PEAK : Fld := ⟨0x23094, 16, 16⟩
abbrev A.CONTACT_STATUS : Nat := 0x2400C
abbrev F.CONTACT_STATUS_DRIVE : Fld := ⟨0x2400C, 0, 6⟩
abbrev F.CONTACT_STATUS_FB : Fld := ⟨0x2400C, 8, 6⟩
abbrev F.CONTACT_STATUS_WELD : Fld := ⟨0x2400C, 16, 6⟩
abbrev F.CONTACT_STATUS_FB_FAULT : Fld := ⟨0x2400C, 24, 6⟩
abbrev F.CONTACT_STATUS_VCOIL_LOW : Fld := ⟨0x2400C, 30, 1⟩
abbrev A.CONTACT_CMD : Nat := 0x24040
abbrev F.CONTACT_CMD_K6_ON : Fld := ⟨0x24040, 0, 1⟩
abbrev F.CONTACT_CMD_K6_OFF : Fld := ⟨0x24040, 1, 1⟩
abbrev F.CONTACT_CMD_CLR_WELD : Fld := ⟨0x24040, 2, 1⟩
abbrev A.CONTACT_CFG : Nat := 0x24044
abbrev F.CONTACT_CFG_FITTED : Fld := ⟨0x24044, 0, 6⟩
abbrev F.CONTACT_CFG_FB_INV : Fld := ⟨0x24044, 8, 6⟩
abbrev F.CONTACT_CFG_VCOIL_MIN : Fld := ⟨0x24044, 16, 16⟩
abbrev A.CONTACT_COIL (n : Nat) : Nat := 0x24048 + 0x4 * n
abbrev F.CONTACT_COIL_PULL_MS (n : Nat) : Fld := ⟨0x24048 + 0x4 * n, 0, 10⟩
abbrev F.CONTACT_COIL_HOLD_V (n : Nat) : Fld := ⟨0x24048 + 0x4 * n, 16, 8⟩
abbrev A.CONTACT_FBT : Nat := 0x24060
abbrev F.CONTACT_FBT_FB_CLOSE_MAX : Fld := ⟨0x24060, 0, 8⟩
abbrev F.CONTACT_FBT_FB_OPEN_MAX : Fld := ⟨0x24060, 8, 8⟩
abbrev F.CONTACT_FBT_DEBOUNCE : Fld := ⟨0x24060, 16, 8⟩
abbrev A.CONTACT_OPEN : Nat := 0x24064
abbrev F.CONTACT_OPEN_I_OPEN : Fld := ⟨0x24064, 0, 16⟩
abbrev A.CONTACT_VCOIL : Nat := 0x24068
abbrev F.CONTACT_VCOIL_VCOIL : Fld := ⟨0x24068, 0, 16⟩
abbrev A.CONTACT_OPS (n : Nat) : Nat := 0x24080 + 0x4 * n
abbrev F.CONTACT_OPS_CLOSES (n : Nat) : Fld := ⟨0x24080 + 0x4 * n, 0, 16⟩
abbrev F.CONTACT_OPS_LOADED_OPENS (n : Nat) : Fld := ⟨0x24080 + 0x4 * n, 16, 16⟩
abbrev A.TELEM_STATUS : Nat := 0x2500C
abbrev F.TELEM_STATUS_CNT_GAP : Fld := ⟨0x2500C, 0, 1⟩
abbrev F.TELEM_STATUS_OVERRANGE : Fld := ⟨0x2500C, 1, 1⟩
abbrev A.TELEM_CMD : Nat := 0x25040
abbrev F.TELEM_CMD_PK_CLR : Fld := ⟨0x25040, 0, 6⟩
abbrev F.TELEM_CMD_CNT_RESET : Fld := ⟨0x25040, 8, 1⟩
abbrev A.TELEM_CFG : Nat := 0x25044
abbrev F.TELEM_CFG_WIN_MS : Fld := ⟨0x25044, 0, 10⟩
abbrev F.TELEM_CFG_STREAM_EN : Fld := ⟨0x25044, 12, 1⟩
abbrev F.TELEM_CFG_CNT_S : Fld := ⟨0x25044, 16, 6⟩
abbrev A.TELEM_SEQ : Nat := 0x25048
abbrev F.TELEM_SEQ_SEQ : Fld := ⟨0x25048, 0, 32⟩
abbrev A.TELEM_STAT : Nat := 0x2504C
abbrev F.TELEM_STAT_DROPPED : Fld := ⟨0x2504C, 0, 32⟩
abbrev A.TELEM_MEAN (n : Nat) : Nat := 0x25080 + 0x20 * n
abbrev F.TELEM_MEAN_MEAN (n : Nat) : Fld := ⟨0x25080 + 0x20 * n, 0, 32⟩
abbrev A.TELEM_RMS (n : Nat) : Nat := 0x25084 + 0x20 * n
abbrev F.TELEM_RMS_RMS (n : Nat) : Fld := ⟨0x25084 + 0x20 * n, 0, 32⟩
abbrev A.TELEM_MIN (n : Nat) : Nat := 0x25088 + 0x20 * n
abbrev F.TELEM_MIN_MIN (n : Nat) : Fld := ⟨0x25088 + 0x20 * n, 0, 32⟩
abbrev A.TELEM_MAX (n : Nat) : Nat := 0x2508C + 0x20 * n
abbrev F.TELEM_MAX_MAX (n : Nat) : Fld := ⟨0x2508C + 0x20 * n, 0, 32⟩
abbrev A.TELEM_PKMAX (n : Nat) : Nat := 0x25090 + 0x20 * n
abbrev F.TELEM_PKMAX_PK_MAX (n : Nat) : Fld := ⟨0x25090 + 0x20 * n, 0, 32⟩
abbrev A.TELEM_PKMIN (n : Nat) : Nat := 0x25094 + 0x20 * n
abbrev F.TELEM_PKMIN_PK_MIN (n : Nat) : Fld := ⟨0x25094 + 0x20 * n, 0, 32⟩
abbrev A.TELEM_QIN_LO : Nat := 0x25180
abbrev F.TELEM_QIN_LO_Q_IN : Fld := ⟨0x25180, 0, 32⟩
abbrev A.TELEM_QIN_HI : Nat := 0x25184
abbrev F.TELEM_QIN_HI_Q_IN : Fld := ⟨0x25184, 0, 32⟩
abbrev A.TELEM_QOUT_LO : Nat := 0x25188
abbrev F.TELEM_QOUT_LO_Q_OUT : Fld := ⟨0x25188, 0, 32⟩
abbrev A.TELEM_QOUT_HI : Nat := 0x2518C
abbrev F.TELEM_QOUT_HI_Q_OUT : Fld := ⟨0x2518C, 0, 32⟩
abbrev A.TELEM_EIN_LO : Nat := 0x25190
abbrev F.TELEM_EIN_LO_E_IN : Fld := ⟨0x25190, 0, 32⟩
abbrev A.TELEM_EIN_HI : Nat := 0x25194
abbrev F.TELEM_EIN_HI_E_IN : Fld := ⟨0x25194, 0, 32⟩
abbrev A.TELEM_EOUT_LO : Nat := 0x25198
abbrev F.TELEM_EOUT_LO_E_OUT : Fld := ⟨0x25198, 0, 32⟩
abbrev A.TELEM_EOUT_HI : Nat := 0x2519C
abbrev F.TELEM_EOUT_HI_E_OUT : Fld := ⟨0x2519C, 0, 32⟩
abbrev A.IMPED_STATUS : Nat := 0x2600C
abbrev F.IMPED_STATUS_STATE : Fld := ⟨0x2600C, 0, 3⟩
abbrev F.IMPED_STATUS_REFUSE : Fld := ⟨0x2600C, 4, 4⟩
abbrev F.IMPED_STATUS_ABORT : Fld := ⟨0x2600C, 8, 4⟩
abbrev F.IMPED_STATUS_INTERRUPTED : Fld := ⟨0x2600C, 12, 1⟩
abbrev F.IMPED_STATUS_ENTRY_LOST : Fld := ⟨0x2600C, 13, 1⟩
abbrev F.IMPED_STATUS_CONSEC : Fld := ⟨0x2600C, 16, 8⟩
abbrev A.IMPED_CMD : Nat := 0x26040
abbrev F.IMPED_CMD_START : Fld := ⟨0x26040, 0, 1⟩
abbrev F.IMPED_CMD_STOP : Fld := ⟨0x26040, 1, 1⟩
abbrev A.IMPED_CFG : Nat := 0x26044
abbrev F.IMPED_CFG_EN : Fld := ⟨0x26044, 0, 1⟩
abbrev F.IMPED_CFG_CONT : Fld := ⟨0x26044, 1, 1⟩
abbrev F.IMPED_CFG_K : Fld := ⟨0x26044, 4, 4⟩
abbrev F.IMPED_CFG_R : Fld := ⟨0x26044, 8, 8⟩
abbrev F.IMPED_CFG_RAMP_MS : Fld := ⟨0x26044, 16, 10⟩
abbrev A.IMPED_WIN : Nat := 0x26048
abbrev F.IMPED_WIN_W : Fld := ⟨0x26048, 0, 16⟩
abbrev F.IMPED_WIN_MAXDISC : Fld := ⟨0x26048, 16, 8⟩
abbrev A.IMPED_TONE (n : Nat) : Nat := 0x26050 + 0x4 * n
abbrev F.IMPED_TONE_M (n : Nat) : Fld := ⟨0x26050 + 0x4 * n, 0, 16⟩
abbrev F.IMPED_TONE_AMP (n : Nat) : Fld := ⟨0x26050 + 0x4 * n, 16, 16⟩
abbrev A.IMPED_RATE : Nat := 0x26070
abbrev F.IMPED_RATE_I_RATED : Fld := ⟨0x26070, 0, 16⟩
abbrev A.IMPED_LIM : Nat := 0x26074
abbrev F.IMPED_LIM_DI_MAX : Fld := ⟨0x26074, 0, 16⟩
abbrev F.IMPED_LIM_MIN_I : Fld := ⟨0x26074, 16, 16⟩
abbrev A.IMPED_TCFG : Nat := 0x26078
abbrev F.IMPED_TCFG_T_EN : Fld := ⟨0x26078, 0, 1⟩
abbrev F.IMPED_TCFG_REF_TONE : Fld := ⟨0x26078, 4, 3⟩
abbrev F.IMPED_TCFG_NPTS : Fld := ⟨0x26078, 8, 5⟩
abbrev F.IMPED_TCFG_U_MAX_PCT : Fld := ⟨0x26078, 16, 8⟩
abbrev F.IMPED_TCFG_T_DIFF_MAX : Fld := ⟨0x26078, 24, 8⟩
abbrev A.IMPED_TTAB (n : Nat) : Nat := 0x26080 + 0x4 * n
abbrev F.IMPED_TTAB_PHASE (n : Nat) : Fld := ⟨0x26080 + 0x4 * n, 0, 16⟩
abbrev F.IMPED_TTAB_TEMP (n : Nat) : Fld := ⟨0x26080 + 0x4 * n, 16, 16⟩
abbrev A.IMPED_VIEW : Nat := 0x260C0
abbrev F.IMPED_VIEW_CELL : Fld := ⟨0x260C0, 0, 9⟩
abbrev F.IMPED_VIEW_TONE : Fld := ⟨0x260C0, 16, 3⟩
abbrev A.IMPED_VZRE : Nat := 0x260C4
abbrev F.IMPED_VZRE_ZRE : Fld := ⟨0x260C4, 0, 32⟩
abbrev A.IMPED_VZIM : Nat := 0x260C8
abbrev F.IMPED_VZIM_ZIM : Fld := ⟨0x260C8, 0, 32⟩
abbrev A.IMPED_VZU : Nat := 0x260CC
abbrev F.IMPED_VZU_U : Fld := ⟨0x260CC, 0, 16⟩
abbrev F.IMPED_VZU_ZFLAGS : Fld := ⟨0x260CC, 16, 8⟩
abbrev F.IMPED_VZU_NWIN : Fld := ⟨0x260CC, 24, 8⟩
abbrev A.IMPED_FREQ (n : Nat) : Nat := 0x260E0 + 0x4 * n
abbrev F.IMPED_FREQ_F (n : Nat) : Fld := ⟨0x260E0 + 0x4 * n, 0, 32⟩
abbrev A.IMPED_RUNS : Nat := 0x26100
abbrev F.IMPED_RUNS_STARTED : Fld := ⟨0x26100, 0, 16⟩
abbrev F.IMPED_RUNS_ABORTED : Fld := ⟨0x26100, 16, 16⟩
abbrev A.IMPED_SETS : Nat := 0x26104
abbrev F.IMPED_SETS_SETS : Fld := ⟨0x26104, 0, 32⟩
abbrev A.IMPED_DISC : Nat := 0x26108
abbrev F.IMPED_DISC_WINDOWS : Fld := ⟨0x26108, 0, 16⟩
abbrev F.IMPED_DISC_CLIPPED : Fld := ⟨0x26108, 16, 16⟩
abbrev A.IMPED_SEQ : Nat := 0x2610C
abbrev F.IMPED_SEQ_RUN : Fld := ⟨0x2610C, 0, 16⟩
abbrev F.IMPED_SEQ_SET : Fld := ⟨0x2610C, 16, 16⟩
abbrev A.IMPED_TEMP (n : Nat) : Nat := 0x26400 + 0x4 * n
abbrev F.IMPED_TEMP_CELL_LO (n : Nat) : Fld := ⟨0x26400 + 0x4 * n, 0, 16⟩
abbrev F.IMPED_TEMP_CELL_HI (n : Nat) : Fld := ⟨0x26400 + 0x4 * n, 16, 16⟩
abbrev A.ESTIM_STATUS : Nat := 0x2800C
abbrev F.ESTIM_STATUS_RUNNING : Fld := ⟨0x2800C, 0, 1⟩
abbrev F.ESTIM_STATUS_OCV_REQ : Fld := ⟨0x2800C, 1, 1⟩
abbrev F.ESTIM_STATUS_OVERDUE : Fld := ⟨0x2800C, 2, 1⟩
abbrev F.ESTIM_STATUS_BLIND : Fld := ⟨0x2800C, 3, 1⟩
abbrev F.ESTIM_STATUS_REST : Fld := ⟨0x2800C, 4, 1⟩
abbrev F.ESTIM_STATUS_QREST : Fld := ⟨0x2800C, 5, 1⟩
abbrev F.ESTIM_STATUS_VALID_CNT : Fld := ⟨0x2800C, 16, 10⟩
abbrev A.ESTIM_CMD : Nat := 0x28040
abbrev F.ESTIM_CMD_INIT : Fld := ⟨0x28040, 0, 1⟩
abbrev A.ESTIM_CFG : Nat := 0x28044
abbrev F.ESTIM_CFG_EN : Fld := ⟨0x28044, 0, 1⟩
abbrev F.ESTIM_CFG_Q_NOM : Fld := ⟨0x28044, 16, 16⟩
abbrev A.ESTIM_VWIN : Nat := 0x28048
abbrev F.ESTIM_VWIN_VMIN_CELL : Fld := ⟨0x28048, 0, 16⟩
abbrev F.ESTIM_VWIN_VMAX_CELL : Fld := ⟨0x28048, 16, 16⟩
abbrev A.ESTIM_REST : Nat := 0x2804C
abbrev F.ESTIM_REST_I_REST : Fld := ⟨0x2804C, 0, 16⟩
abbrev F.ESTIM_REST_T_REST : Fld := ⟨0x2804C, 16, 16⟩
abbrev A.ESTIM_QREST : Nat := 0x28050
abbrev F.ESTIM_QREST_I_QREST : Fld := ⟨0x28050, 0, 16⟩
abbrev F.ESTIM_QREST_T_QREST : Fld := ⟨0x28050, 16, 16⟩
abbrev A.ESTIM_UNC : Nat := 0x28054
abbrev F.ESTIM_UNC_U_ANCHOR_MAX : Fld := ⟨0x28054, 0, 8⟩
abbrev F.ESTIM_UNC_U_OVERDUE : Fld := ⟨0x28054, 8, 8⟩
abbrev F.ESTIM_UNC_U_VALID : Fld := ⟨0x28054, 16, 8⟩
abbrev F.ESTIM_UNC_E_CAP : Fld := ⟨0x28054, 24, 8⟩
abbrev A.ESTIM_OCVERR : Nat := 0x28058
abbrev F.ESTIM_OCVERR_E_OCV : Fld := ⟨0x28058, 0, 8⟩
abbrev F.ESTIM_OCVERR_RERR : Fld := ⟨0x28058, 8, 8⟩
abbrev F.ESTIM_OCVERR_QR_MV : Fld := ⟨0x28058, 16, 8⟩
abbrev F.ESTIM_OCVERR_BLEED_ERR : Fld := ⟨0x28058, 24, 8⟩
abbrev A.ESTIM_OVERDUE : Nat := 0x2805C
abbrev F.ESTIM_OVERDUE_T_OVERDUE : Fld := ⟨0x2805C, 0, 8⟩
abbrev F.ESTIM_OVERDUE_IMP_AGE : Fld := ⟨0x2805C, 16, 16⟩
abbrev A.ESTIM_HGAIN : Nat := 0x28060
abbrev F.ESTIM_HGAIN_HG2 : Fld := ⟨0x28060, 0, 16⟩
abbrev F.ESTIM_HGAIN_HG10 : Fld := ⟨0x28060, 16, 16⟩
abbrev A.ESTIM_HGAIN2 : Nat := 0x28064
abbrev F.ESTIM_HGAIN2_HG60 : Fld := ⟨0x28064, 0, 16⟩
abbrev A.ESTIM_SOC1 : Nat := 0x28080
abbrev F.ESTIM_SOC1_SOC_STR : Fld := ⟨0x28080, 0, 16⟩
abbrev F.ESTIM_SOC1_SOC_MIN : Fld := ⟨0x28080, 16, 16⟩
abbrev A.ESTIM_SOC2 : Nat := 0x28084
abbrev F.ESTIM_SOC2_SOC_MAX : Fld := ⟨0x28084, 0, 16⟩
abbrev F.ESTIM_SOC2_SOC_MEAN : Fld := ⟨0x28084, 16, 16⟩
abbrev A.ESTIM_UNCMAX : Nat := 0x28088
abbrev F.ESTIM_UNCMAX_U_MAX : Fld := ⟨0x28088, 0, 16⟩
abbrev A.ESTIM_SOH : Nat := 0x2808C
abbrev F.ESTIM_SOH_SOH : Fld := ⟨0x2808C, 0, 16⟩
abbrev A.ESTIM_AGE : Nat := 0x28090
abbrev F.ESTIM_AGE_ANCHOR_AGE : Fld := ⟨0x28090, 0, 32⟩
abbrev A.ESTIM_ILIM (n : Nat) : Nat := 0x280A0 + 0x4 * n
abbrev F.ESTIM_ILIM_I_CHG (n : Nat) : Fld := ⟨0x280A0 + 0x4 * n, 0, 16⟩
abbrev F.ESTIM_ILIM_I_DIS (n : Nat) : Fld := ⟨0x280A0 + 0x4 * n, 16, 16⟩
abbrev A.ESTIM_PLIM (n : Nat) : Nat := 0x280AC + 0x4 * n
abbrev F.ESTIM_PLIM_P_CHG (n : Nat) : Fld := ⟨0x280AC + 0x4 * n, 0, 16⟩
abbrev F.ESTIM_PLIM_P_DIS (n : Nat) : Fld := ⟨0x280AC + 0x4 * n, 16, 16⟩
abbrev A.ESTIM_ANCHORS : Nat := 0x280BC
abbrev F.ESTIM_ANCHORS_FULL : Fld := ⟨0x280BC, 0, 16⟩
abbrev F.ESTIM_ANCHORS_QUASI : Fld := ⟨0x280BC, 16, 16⟩
abbrev A.ESTIM_VIEW : Nat := 0x280C0
abbrev F.ESTIM_VIEW_CELL : Fld := ⟨0x280C0, 0, 9⟩
abbrev A.ESTIM_VSOC : Nat := 0x280C4
abbrev F.ESTIM_VSOC_SOC : Fld := ⟨0x280C4, 0, 32⟩
abbrev A.ESTIM_VUNC : Nat := 0x280C8
abbrev F.ESTIM_VUNC_U : Fld := ⟨0x280C8, 0, 16⟩
abbrev F.ESTIM_VUNC_T : Fld := ⟨0x280C8, 16, 16⟩
abbrev A.ESTIM_VFLAGS : Nat := 0x280CC
abbrev F.ESTIM_VFLAGS_FLAGS : Fld := ⟨0x280CC, 0, 6⟩
abbrev A.ESTIM_VAGE : Nat := 0x280D0
abbrev F.ESTIM_VAGE_AGE : Fld := ⟨0x280D0, 0, 32⟩
abbrev A.ESTIM_SOC (n : Nat) : Nat := 0x28400 + 0x4 * n
abbrev F.ESTIM_SOC_CELL_LO (n : Nat) : Fld := ⟨0x28400 + 0x4 * n, 0, 16⟩
abbrev F.ESTIM_SOC_CELL_HI (n : Nat) : Fld := ⟨0x28400 + 0x4 * n, 16, 16⟩
abbrev A.ETAB_TBP (n : Nat) : Nat := 0x29040 + 0x4 * n
abbrev F.ETAB_TBP_T_EVEN (n : Nat) : Fld := ⟨0x29040 + 0x4 * n, 0, 16⟩
abbrev F.ETAB_TBP_T_ODD (n : Nat) : Fld := ⟨0x29040 + 0x4 * n, 16, 16⟩
abbrev A.ETAB_RBP (n : Nat) : Nat := 0x29050 + 0x4 * n
abbrev F.ETAB_RBP_RATE_EVEN (n : Nat) : Fld := ⟨0x29050 + 0x4 * n, 0, 16⟩
abbrev F.ETAB_RBP_RATE_ODD (n : Nat) : Fld := ⟨0x29050 + 0x4 * n, 16, 16⟩
abbrev A.ETAB_OCV (n : Nat) : Nat := 0x29100 + 0x4 * n
abbrev F.ETAB_OCV_EVEN (n : Nat) : Fld := ⟨0x29100 + 0x4 * n, 0, 16⟩
abbrev F.ETAB_OCV_ODD (n : Nat) : Fld := ⟨0x29100 + 0x4 * n, 16, 16⟩
abbrev A.ETAB_CAPEFF (n : Nat) : Nat := 0x29540 + 0x4 * n
abbrev F.ETAB_CAPEFF_F_CAP (n : Nat) : Fld := ⟨0x29540 + 0x4 * n, 0, 16⟩
abbrev F.ETAB_CAPEFF_F_EFF (n : Nat) : Fld := ⟨0x29540 + 0x4 * n, 16, 16⟩
abbrev A.ETAB_RES (n : Nat) : Nat := 0x29600 + 0x4 * n
abbrev F.ETAB_RES_EVEN (n : Nat) : Fld := ⟨0x29600 + 0x4 * n, 0, 16⟩
abbrev F.ETAB_RES_ODD (n : Nat) : Fld := ⟨0x29600 + 0x4 * n, 16, 16⟩
abbrev A.LEARN_STATUS : Nat := 0x2A00C
abbrev F.LEARN_STATUS_JBUSY : Fld := ⟨0x2A00C, 0, 1⟩
abbrev F.LEARN_STATUS_DEFERRED : Fld := ⟨0x2A00C, 1, 1⟩
abbrev A.LEARN_CMD : Nat := 0x2A040
abbrev F.LEARN_CMD_WRITE_NOW : Fld := ⟨0x2A040, 0, 1⟩
abbrev F.LEARN_CMD_RESET_CELL : Fld := ⟨0x2A040, 1, 1⟩
abbrev A.LEARN_CFG : Nat := 0x2A044
abbrev F.LEARN_CFG_LEARN_H : Fld := ⟨0x2A044, 0, 5⟩
abbrev F.LEARN_CFG_STATE_S : Fld := ⟨0x2A044, 8, 6⟩
abbrev F.LEARN_CFG_BUDGET_US : Fld := ⟨0x2A044, 16, 16⟩
abbrev A.LEARN_GAIN : Nat := 0x2A048
abbrev F.LEARN_GAIN_G_CAP : Fld := ⟨0x2A048, 0, 8⟩
abbrev F.LEARN_GAIN_G_RES : Fld := ⟨0x2A048, 8, 8⟩
abbrev F.LEARN_GAIN_CAP_STEP : Fld := ⟨0x2A048, 16, 8⟩
abbrev F.LEARN_GAIN_RF_STEP : Fld := ⟨0x2A048, 24, 8⟩
abbrev A.LEARN_LCFG : Nat := 0x2A04C
abbrev F.LEARN_LCFG_U_LEARN : Fld := ⟨0x2A04C, 0, 8⟩
abbrev F.LEARN_LCFG_DSOC_MIN : Fld := ⟨0x2A04C, 8, 8⟩
abbrev F.LEARN_LCFG_RES_TONE : Fld := ⟨0x2A04C, 16, 3⟩
abbrev A.LEARN_SEQ_L : Nat := 0x2A050
abbrev F.LEARN_SEQ_L_SEQ : Fld := ⟨0x2A050, 0, 32⟩
abbrev A.LEARN_SEQ_S : Nat := 0x2A054
abbrev F.LEARN_SEQ_S_SEQ : Fld := ⟨0x2A054, 0, 32⟩
abbrev A.LEARN_JSTAT : Nat := 0x2A058
abbrev F.LEARN_JSTAT_WRITES : Fld := ⟨0x2A058, 0, 16⟩
abbrev F.LEARN_JSTAT_ABANDONS : Fld := ⟨0x2A058, 16, 16⟩
abbrev A.LEARN_VIEW : Nat := 0x2A0C0
abbrev F.LEARN_VIEW_CELL : Fld := ⟨0x2A0C0, 0, 9⟩
abbrev A.LEARN_VRF : Nat := 0x2A0C4
abbrev F.LEARN_VRF_RF : Fld := ⟨0x2A0C4, 0, 16⟩
abbrev F.LEARN_VRF_SOH : Fld := ⟨0x2A0C4, 16, 16⟩
abbrev A.LEARN_VCNT : Nat := 0x2A0C8
abbrev F.LEARN_VCNT_CAP_UPD : Fld := ⟨0x2A0C8, 0, 16⟩
abbrev F.LEARN_VCNT_RF_UPD : Fld := ⟨0x2A0C8, 16, 16⟩
abbrev A.LEARN_CAP (n : Nat) : Nat := 0x2A400 + 0x4 * n
abbrev F.LEARN_CAP_CELL_LO (n : Nat) : Fld := ⟨0x2A400 + 0x4 * n, 0, 16⟩
abbrev F.LEARN_CAP_CELL_HI (n : Nat) : Fld := ⟨0x2A400 + 0x4 * n, 16, 16⟩
abbrev A.THERM_STATUS : Nat := 0x2C00C
abbrev F.THERM_STATUS_STAGE : Fld := ⟨0x2C00C, 0, 2⟩
abbrev F.THERM_STATUS_NOR_OK : Fld := ⟨0x2C00C, 2, 1⟩
abbrev F.THERM_STATUS_CHG_OK : Fld := ⟨0x2C00C, 3, 1⟩
abbrev F.THERM_STATUS_DIS_OK : Fld := ⟨0x2C00C, 4, 1⟩
abbrev F.THERM_STATUS_T_BLIND : Fld := ⟨0x2C00C, 5, 1⟩
abbrev F.THERM_STATUS_COOL_FAULT : Fld := ⟨0x2C00C, 8, 6⟩
abbrev A.THERM_CMD : Nat := 0x2C040
abbrev F.THERM_CMD_CLR_FAULT : Fld := ⟨0x2C040, 0, 6⟩
abbrev A.THERM_WIN : Nat := 0x2C044
abbrev F.THERM_WIN_CHG_LO : Fld := ⟨0x2C044, 0, 8⟩
abbrev F.THERM_WIN_CHG_HI : Fld := ⟨0x2C044, 8, 8⟩
abbrev F.THERM_WIN_DIS_LO : Fld := ⟨0x2C044, 16, 8⟩
abbrev F.THERM_WIN_DIS_HI : Fld := ⟨0x2C044, 24, 8⟩
abbrev A.THERM_DERATE : Nat := 0x2C048
abbrev F.THERM_DERATE_DERATE_K : Fld := ⟨0x2C048, 0, 8⟩
abbrev F.THERM_DERATE_HYST_K : Fld := ⟨0x2C048, 8, 8⟩
abbrev F.THERM_DERATE_PS_START : Fld := ⟨0x2C048, 16, 8⟩
abbrev F.THERM_DERATE_PS_END : Fld := ⟨0x2C048, 24, 8⟩
abbrev A.THERM_FAIL : Nat := 0x2C04C
abbrev F.THERM_FAIL_FAIL_DERATE : Fld := ⟨0x2C04C, 0, 16⟩
abbrev A.THERM_FACT : Nat := 0x2C050
abbrev F.THERM_FACT_F_CHG : Fld := ⟨0x2C050, 0, 16⟩
abbrev F.THERM_FACT_F_DIS : Fld := ⟨0x2C050, 16, 16⟩
abbrev A.THERM_TCELL : Nat := 0x2C054
abbrev F.THERM_TCELL_T_HOT : Fld := ⟨0x2C054, 0, 16⟩
abbrev F.THERM_TCELL_T_COLD : Fld := ⟨0x2C054, 16, 16⟩
abbrev A.THERM_TJ : Nat := 0x2C058
abbrev F.THERM_TJ_TJ : Fld := ⟨0x2C058, 0, 16⟩
abbrev A.THERM_BOARD : Nat := 0x2C05C
abbrev F.THERM_BOARD_BT0 : Fld := ⟨0x2C05C, 0, 16⟩
abbrev F.THERM_BOARD_BT1 : Fld := ⟨0x2C05C, 16, 16⟩
abbrev A.THERM_BOARD2 : Nat := 0x2C060
abbrev F.THERM_BOARD2_BT2 : Fld := ⟨0x2C060, 0, 16⟩
abbrev F.THERM_BOARD2_BT3 : Fld := ⟨0x2C060, 16, 16⟩
abbrev A.THERM_NTCCFG (n : Nat) : Nat := 0x2C080 + 0x4 * n
abbrev F.THERM_NTCCFG_R25 (n : Nat) : Fld := ⟨0x2C080 + 0x4 * n, 0, 16⟩
abbrev F.THERM_NTCCFG_B (n : Nat) : Fld := ⟨0x2C080 + 0x4 * n, 16, 16⟩
abbrev A.THERM_NTCROLE : Nat := 0x2C0C0
abbrev F.THERM_NTCROLE_ROLE0 : Fld := ⟨0x2C0C0, 0, 2⟩
abbrev F.THERM_NTCROLE_ROLE1 : Fld := ⟨0x2C0C0, 2, 2⟩
abbrev F.THERM_NTCROLE_ROLE2 : Fld := ⟨0x2C0C0, 4, 2⟩
abbrev F.THERM_NTCROLE_ROLE3 : Fld := ⟨0x2C0C0, 6, 2⟩
abbrev F.THERM_NTCROLE_ROLE4 : Fld := ⟨0x2C0C0, 8, 2⟩
abbrev F.THERM_NTCROLE_ROLE5 : Fld := ⟨0x2C0C0, 10, 2⟩
abbrev F.THERM_NTCROLE_ROLE6 : Fld := ⟨0x2C0C0, 12, 2⟩
abbrev F.THERM_NTCROLE_ROLE7 : Fld := ⟨0x2C0C0, 14, 2⟩
abbrev F.THERM_NTCROLE_ROLE8 : Fld := ⟨0x2C0C0, 16, 2⟩
abbrev F.THERM_NTCROLE_ROLE9 : Fld := ⟨0x2C0C0, 18, 2⟩
abbrev F.THERM_NTCROLE_ROLE10 : Fld := ⟨0x2C0C0, 20, 2⟩
abbrev F.THERM_NTCROLE_ROLE11 : Fld := ⟨0x2C0C0, 22, 2⟩
abbrev F.THERM_NTCROLE_ROLE12 : Fld := ⟨0x2C0C0, 24, 2⟩
abbrev F.THERM_NTCROLE_ROLE13 : Fld := ⟨0x2C0C0, 26, 2⟩
abbrev F.THERM_NTCROLE_ROLE14 : Fld := ⟨0x2C0C0, 28, 2⟩
abbrev F.THERM_NTCROLE_ROLE15 : Fld := ⟨0x2C0C0, 30, 2⟩
abbrev A.THERM_NTCT (n : Nat) : Nat := 0x2C0C4 + 0x4 * n
abbrev F.THERM_NTCT_T_EVEN (n : Nat) : Fld := ⟨0x2C0C4 + 0x4 * n, 0, 16⟩
abbrev F.THERM_NTCT_T_ODD (n : Nat) : Fld := ⟨0x2C0C4 + 0x4 * n, 16, 16⟩
abbrev A.THERM_COOL_0 (n : Nat) : Nat := 0x2C100 + 0x10 * n
abbrev F.THERM_COOL_0_SRC (n : Nat) : Fld := ⟨0x2C100 + 0x10 * n, 0, 5⟩
abbrev F.THERM_COOL_0_DUTY_MIN (n : Nat) : Fld := ⟨0x2C100 + 0x10 * n, 8, 7⟩
abbrev A.THERM_COOL_4 (n : Nat) : Nat := 0x2C104 + 0x10 * n
abbrev F.THERM_COOL_4_T_START (n : Nat) : Fld := ⟨0x2C104 + 0x10 * n, 0, 16⟩
abbrev F.THERM_COOL_4_T_FULL (n : Nat) : Fld := ⟨0x2C104 + 0x10 * n, 16, 16⟩
abbrev A.THERM_COOL_8 (n : Nat) : Nat := 0x2C108 + 0x10 * n
abbrev F.THERM_COOL_8_RPM_FULL (n : Nat) : Fld := ⟨0x2C108 + 0x10 * n, 0, 16⟩
abbrev F.THERM_COOL_8_PPR (n : Nat) : Fld := ⟨0x2C108 + 0x10 * n, 16, 3⟩
abbrev F.THERM_COOL_8_REACT (n : Nat) : Fld := ⟨0x2C108 + 0x10 * n, 20, 2⟩
abbrev F.THERM_COOL_8_TACH_MIN_PCT (n : Nat) : Fld := ⟨0x2C108 + 0x10 * n, 24, 8⟩
abbrev A.THERM_COOL_C (n : Nat) : Nat := 0x2C10C + 0x10 * n
abbrev F.THERM_COOL_C_OVERRIDE (n : Nat) : Fld := ⟨0x2C10C + 0x10 * n, 0, 7⟩
abbrev F.THERM_COOL_C_DUTY (n : Nat) : Fld := ⟨0x2C10C + 0x10 * n, 8, 7⟩
abbrev F.THERM_COOL_C_RPM (n : Nat) : Fld := ⟨0x2C10C + 0x10 * n, 16, 16⟩
abbrev A.PROT_STATUS : Nat := 0x3000C
abbrev F.PROT_STATUS_L_ACTIVE : Fld := ⟨0x3000C, 0, 1⟩
abbrev F.PROT_STATUS_S_ACTIVE : Fld := ⟨0x3000C, 1, 1⟩
abbrev F.PROT_STATUS_H_ACTIVE : Fld := ⟨0x3000C, 2, 1⟩
abbrev A.PROT_CFG : Nat := 0x30040
abbrev F.PROT_CFG_EN : Fld := ⟨0x30040, 0, 1⟩
abbrev F.PROT_CFG_CBC_REACT : Fld := ⟨0x30040, 1, 2⟩
abbrev F.PROT_CFG_HALL_REACT : Fld := ⟨0x30040, 3, 2⟩
abbrev F.PROT_CFG_UT_REACT : Fld := ⟨0x30040, 5, 2⟩
abbrev F.PROT_CFG_L_FACT : Fld := ⟨0x30040, 16, 16⟩
abbrev A.PROT_CELLV : Nat := 0x30044
abbrev F.PROT_CELLV_CELL_OV_MV : Fld := ⟨0x30044, 0, 16⟩
abbrev F.PROT_CELLV_CELL_UV_MV : Fld := ⟨0x30044, 16, 16⟩
abbrev A.PROT_CELLT : Nat := 0x30048
abbrev F.PROT_CELLT_CELL_OT : Fld := ⟨0x30048, 0, 8⟩
abbrev F.PROT_CELLT_CELL_UT : Fld := ⟨0x30048, 8, 8⟩
abbrev A.PROT_BUS : Nat := 0x3004C
abbrev F.PROT_BUS_BUS_OV : Fld := ⟨0x3004C, 0, 16⟩
abbrev A.PROT_OCW : Nat := 0x30050
abbrev F.PROT_OCW_I_WARN : Fld := ⟨0x30050, 0, 16⟩
abbrev F.PROT_OCW_T_WARN : Fld := ⟨0x30050, 16, 16⟩
abbrev A.PROT_HALL : Nat := 0x30054
abbrev F.PROT_HALL_HALL_TOL : Fld := ⟨0x30054, 0, 16⟩
abbrev A.PROT_ACTIVE : Nat := 0x30060
abbrev F.PROT_ACTIVE_BITS : Fld := ⟨0x30060, 0, 9⟩
abbrev A.SAFE_STATUS : Nat := 0x3100C
abbrev F.SAFE_STATUS_EN0 : Fld := ⟨0x3100C, 0, 1⟩
abbrev F.SAFE_STATUS_EN1 : Fld := ⟨0x3100C, 1, 1⟩
abbrev F.SAFE_STATUS_SRD_ACTIVE : Fld := ⟨0x3100C, 2, 1⟩
abbrev F.SAFE_STATUS_SRD_STEP : Fld := ⟨0x3100C, 3, 3⟩
abbrev F.SAFE_STATUS_COIL_FEED : Fld := ⟨0x3100C, 6, 1⟩
abbrev F.SAFE_STATUS_IN0 : Fld := ⟨0x3100C, 7, 1⟩
abbrev F.SAFE_STATUS_IN1 : Fld := ⟨0x3100C, 8, 1⟩
abbrev F.SAFE_STATUS_SRD_CAUSE : Fld := ⟨0x3100C, 16, 8⟩
abbrev A.SAFE_CMD : Nat := 0x31040
abbrev F.SAFE_CMD_SRD : Fld := ⟨0x31040, 0, 1⟩
abbrev F.SAFE_CMD_TRIP : Fld := ⟨0x31040, 1, 1⟩
abbrev A.SAFE_CFG : Nat := 0x31044
abbrev F.SAFE_CFG_DIVERSE : Fld := ⟨0x31044, 0, 1⟩
abbrev A.SAFE_SRD : Nat := 0x31048
abbrev F.SAFE_SRD_T_SRD : Fld := ⟨0x31048, 0, 9⟩
abbrev F.SAFE_SRD_ENV_TOL : Fld := ⟨0x31048, 16, 16⟩
abbrev A.SAFE_OC : Nat := 0x3104C
abbrev F.SAFE_OC_OC_TRIP : Fld := ⟨0x3104C, 0, 16⟩
abbrev A.SAFE_OV : Nat := 0x31050
abbrev F.SAFE_OV_STR_OV : Fld := ⟨0x31050, 0, 16⟩
abbrev A.SAFE_INPUT : Nat := 0x31054
abbrev F.SAFE_INPUT_DISC_MS : Fld := ⟨0x31054, 0, 9⟩
abbrev A.SAFE_I0 : Nat := 0x31060
abbrev F.SAFE_I0_I0 : Fld := ⟨0x31060, 0, 32⟩
abbrev A.SAFE_COUNTS : Nat := 0x31064
abbrev F.SAFE_COUNTS_SRDS : Fld := ⟨0x31064, 0, 16⟩
abbrev F.SAFE_COUNTS_TRIPS : Fld := ⟨0x31064, 16, 16⟩
abbrev A.SNET_STATUS : Nat := 0x3200C
abbrev F.SNET_STATUS_PAIR_OK : Fld := ⟨0x3200C, 0, 8⟩
abbrev F.SNET_STATUS_DEGRADED : Fld := ⟨0x3200C, 8, 1⟩
abbrev A.SNET_CFG : Nat := 0x32040
abbrev F.SNET_CFG_OWN_ID : Fld := ⟨0x32040, 0, 16⟩
abbrev F.SNET_CFG_SKEW_MS : Fld := ⟨0x32040, 16, 5⟩
abbrev F.SNET_CFG_AGE_CHK : Fld := ⟨0x32040, 21, 1⟩
abbrev F.SNET_CFG_TX_MS : Fld := ⟨0x32040, 24, 7⟩
abbrev A.SNET_PORT : Nat := 0x32044
abbrev F.SNET_PORT_UDP_PORT : Fld := ⟨0x32044, 0, 16⟩
abbrev A.SNET_DST0 : Nat := 0x32048
abbrev F.SNET_DST0_IP : Fld := ⟨0x32048, 0, 32⟩
abbrev A.SNET_DST1 : Nat := 0x3204C
abbrev F.SNET_DST1_IP : Fld := ⟨0x3204C, 0, 32⟩
abbrev A.SNET_DEGRADE : Nat := 0x32050
abbrev F.SNET_DEGRADE_DEG_S : Fld := ⟨0x32050, 0, 12⟩
abbrev A.SNET_DEGLEFT : Nat := 0x32054
abbrev F.SNET_DEGLEFT_LEFT : Fld := ⟨0x32054, 0, 12⟩
abbrev A.SNET_COUNTS : Nat := 0x32058
abbrev F.SNET_COUNTS_MISMATCH : Fld := ⟨0x32058, 0, 16⟩
abbrev F.SNET_COUNTS_SINGLES : Fld := ⟨0x32058, 16, 16⟩
abbrev A.SNET_SRC_0 (n : Nat) : Nat := 0x32080 + 0x8 * n
abbrev F.SNET_SRC_0_ID (n : Nat) : Fld := ⟨0x32080 + 0x8 * n, 0, 16⟩
abbrev F.SNET_SRC_0_EN (n : Nat) : Fld := ⟨0x32080 + 0x8 * n, 16, 1⟩
abbrev F.SNET_SRC_0_ACT_SRD (n : Nat) : Fld := ⟨0x32080 + 0x8 * n, 17, 1⟩
abbrev F.SNET_SRC_0_ACT_TRIP (n : Nat) : Fld := ⟨0x32080 + 0x8 * n, 18, 1⟩
abbrev A.SNET_SRC_4 (n : Nat) : Nat := 0x32084 + 0x8 * n
abbrev F.SNET_SRC_4_SWD_MS (n : Nat) : Fld := ⟨0x32084 + 0x8 * n, 0, 14⟩
abbrev A.INSUL_STATUS : Nat := 0x3300C
abbrev F.INSUL_STATUS_VALID : Fld := ⟨0x3300C, 0, 1⟩
abbrev F.INSUL_STATUS_INJECTING : Fld := ⟨0x3300C, 1, 1⟩
abbrev F.INSUL_STATUS_STATE_B : Fld := ⟨0x3300C, 2, 1⟩
abbrev F.INSUL_STATUS_NO_MEAS : Fld := ⟨0x3300C, 3, 1⟩
abbrev F.INSUL_STATUS_WARN : Fld := ⟨0x3300C, 4, 1⟩
abbrev F.INSUL_STATUS_FAULT : Fld := ⟨0x3300C, 5, 1⟩
abbrev A.INSUL_CFG : Nat := 0x33040
abbrev F.INSUL_CFG_EN : Fld := ⟨0x33040, 0, 1⟩
abbrev F.INSUL_CFG_BUS_MODE : Fld := ⟨0x33040, 1, 1⟩
abbrev F.INSUL_CFG_FAULT_REACT : Fld := ⟨0x33040, 2, 2⟩
abbrev F.INSUL_CFG_T_SETTLE : Fld := ⟨0x33040, 8, 6⟩
abbrev A.INSUL_THR : Nat := 0x33044
abbrev F.INSUL_THR_R_WARN : Fld := ⟨0x33044, 0, 16⟩
abbrev F.INSUL_THR_R_FAULT : Fld := ⟨0x33044, 16, 16⟩
abbrev A.INSUL_RES : Nat := 0x33080
abbrev F.INSUL_RES_R_P : Fld := ⟨0x33080, 0, 16⟩
abbrev F.INSUL_RES_R_N : Fld := ⟨0x33080, 16, 16⟩
abbrev A.INSUL_RISO : Nat := 0x33084
abbrev F.INSUL_RISO_R_ISO : Fld := ⟨0x33084, 0, 16⟩
abbrev A.INSUL_CYCLES : Nat := 0x33088
abbrev F.INSUL_CYCLES_COUNT : Fld := ⟨0x33088, 0, 32⟩
abbrev A.DISP_STATUS : Nat := 0x3400C
abbrev F.DISP_STATUS_STALE : Fld := ⟨0x3400C, 0, 1⟩
abbrev F.DISP_STATUS_HORIZON : Fld := ⟨0x3400C, 1, 4⟩
abbrev F.DISP_STATUS_RESULT : Fld := ⟨0x3400C, 8, 8⟩
abbrev A.DISP_CMD : Nat := 0x34040
abbrev F.DISP_CMD_TAKE : Fld := ⟨0x34040, 0, 1⟩
abbrev A.DISP_CFG : Nat := 0x34044
abbrev F.DISP_CFG_SRC : Fld := ⟨0x34044, 0, 2⟩
abbrev F.DISP_CFG_AUTH : Fld := ⟨0x34044, 2, 1⟩
abbrev F.DISP_CFG_STALE_ACT : Fld := ⟨0x34044, 4, 2⟩
abbrev F.DISP_CFG_STAT_MS : Fld := ⟨0x34044, 8, 8⟩
abbrev F.DISP_CFG_UNIT_ADDR : Fld := ⟨0x34044, 16, 16⟩
abbrev A.DISP_NET : Nat := 0x34048
abbrev F.DISP_NET_UDP_PORT : Fld := ⟨0x34048, 0, 16⟩
abbrev F.DISP_NET_ETH_EN : Fld := ⟨0x34048, 16, 2⟩
abbrev A.DISP_CAN : Nat := 0x3404C
abbrev F.DISP_CAN_CH : Fld := ⟨0x3404C, 0, 2⟩
abbrev A.DISP_CANRX : Nat := 0x34050
abbrev F.DISP_CANRX_ID_RX : Fld := ⟨0x34050, 0, 29⟩
abbrev A.DISP_CANTX : Nat := 0x34054
abbrev F.DISP_CANTX_ID_TX : Fld := ⟨0x34054, 0, 29⟩
abbrev A.DISP_STALE : Nat := 0x34058
abbrev F.DISP_STALE_T_STALE : Fld := ⟨0x34058, 0, 16⟩
abbrev F.DISP_STALE_T_DROP : Fld := ⟨0x34058, 16, 16⟩
abbrev A.DISP_RAMP : Nat := 0x3405C
abbrev F.DISP_RAMP_UP : Fld := ⟨0x3405C, 0, 16⟩
abbrev F.DISP_RAMP_DOWN : Fld := ⟨0x3405C, 16, 16⟩
abbrev A.DISP_RAMPP : Nat := 0x34060
abbrev F.DISP_RAMPP_P_UP : Fld := ⟨0x34060, 0, 16⟩
abbrev F.DISP_RAMPP_P_DOWN : Fld := ⟨0x34060, 16, 16⟩
abbrev A.DISP_LIM : Nat := 0x34064
abbrev F.DISP_LIM_I_CHG_MAX : Fld := ⟨0x34064, 0, 16⟩
abbrev F.DISP_LIM_I_DIS_MAX : Fld := ⟨0x34064, 16, 16⟩
abbrev A.DISP_SOCW : Nat := 0x34068
abbrev F.DISP_SOCW_SOC_HI : Fld := ⟨0x34068, 0, 16⟩
abbrev F.DISP_SOCW_SOC_LO : Fld := ⟨0x34068, 16, 16⟩
abbrev A.DISP_SOCB : Nat := 0x3406C
abbrev F.DISP_SOCB_SOC_BAND : Fld := ⟨0x3406C, 0, 16⟩
abbrev A.DISP_AGE : Nat := 0x34070
abbrev F.DISP_AGE_AGE_MS : Fld := ⟨0x34070, 0, 16⟩
abbrev A.DISP_SP_KIND : Nat := 0x34080
abbrev F.DISP_SP_KIND_KIND : Fld := ⟨0x34080, 0, 8⟩
abbrev A.DISP_SP_VALUE : Nat := 0x34084
abbrev F.DISP_SP_VALUE_VALUE : Fld := ⟨0x34084, 0, 32⟩
abbrev A.DISP_ICHG : Nat := 0x340A0
abbrev F.DISP_ICHG_I_CHG : Fld := ⟨0x340A0, 0, 32⟩
abbrev A.DISP_IDIS : Nat := 0x340A4
abbrev F.DISP_IDIS_I_DIS : Fld := ⟨0x340A4, 0, 32⟩
abbrev A.DISP_TARGET : Nat := 0x340A8
abbrev F.DISP_TARGET_TARGET : Fld := ⟨0x340A8, 0, 32⟩
abbrev A.DISP_SETP : Nat := 0x340AC
abbrev F.DISP_SETP_SETP : Fld := ⟨0x340AC, 0, 32⟩
abbrev A.DISP_LASTSEQ : Nat := 0x340B0
abbrev F.DISP_LASTSEQ_SEQ : Fld := ⟨0x340B0, 0, 32⟩
abbrev A.DISP_COUNTS : Nat := 0x340B4
abbrev F.DISP_COUNTS_ACCEPTED : Fld := ⟨0x340B4, 0, 16⟩
abbrev F.DISP_COUNTS_REFUSED : Fld := ⟨0x340B4, 16, 16⟩
abbrev A.DISP_COUNTS2 : Nat := 0x340B8
abbrev F.DISP_COUNTS2_DISCARDED : Fld := ⟨0x340B8, 0, 16⟩
abbrev F.DISP_COUNTS2_STALES : Fld := ⟨0x340B8, 16, 16⟩
abbrev A.PAIR_STATUS : Nat := 0x3800C
abbrev F.PAIR_STATUS_ROLE : Fld := ⟨0x3800C, 0, 2⟩
abbrev F.PAIR_STATUS_UNIT : Fld := ⟨0x3800C, 2, 1⟩
abbrev F.PAIR_STATUS_LINK_UP : Fld := ⟨0x3800C, 3, 1⟩
abbrev F.PAIR_STATUS_READY : Fld := ⟨0x3800C, 4, 1⟩
abbrev F.PAIR_STATUS_PARTNER_READY : Fld := ⟨0x3800C, 5, 1⟩
abbrev F.PAIR_STATUS_GAP : Fld := ⟨0x3800C, 6, 1⟩
abbrev F.PAIR_STATUS_SW_RESULT : Fld := ⟨0x3800C, 8, 3⟩
abbrev A.PAIR_CMD : Nat := 0x38040
abbrev F.PAIR_CMD_KEY : Fld := ⟨0x38040, 0, 16⟩
abbrev F.PAIR_CMD_SWITCH : Fld := ⟨0x38040, 16, 1⟩
abbrev A.PAIR_CFG : Nat := 0x38044
abbrev F.PAIR_CFG_PAIRED : Fld := ⟨0x38044, 0, 1⟩
abbrev F.PAIR_CFG_N_RESYNC : Fld := ⟨0x38044, 4, 4⟩
abbrev F.PAIR_CFG_FRESET_EN : Fld := ⟨0x38044, 8, 1⟩
abbrev F.PAIR_CFG_MIRROR_KIB : Fld := ⟨0x38044, 16, 9⟩
abbrev A.PAIR_TOL : Nat := 0x38048
abbrev F.PAIR_TOL_I_TOL : Fld := ⟨0x38048, 0, 16⟩
abbrev F.PAIR_TOL_V_TOL : Fld := ⟨0x38048, 16, 16⟩
abbrev A.PAIR_HEALTH : Nat := 0x3804C
abbrev F.PAIR_HEALTH_CHECKS : Fld := ⟨0x3804C, 0, 8⟩
abbrev F.PAIR_HEALTH_PENDING : Fld := ⟨0x3804C, 8, 8⟩
abbrev A.PAIR_MIRROR : Nat := 0x38050
abbrev F.PAIR_MIRROR_LOOP_AGE : Fld := ⟨0x38050, 0, 16⟩
abbrev F.PAIR_MIRROR_LOST : Fld := ⟨0x38050, 16, 16⟩
abbrev A.PAIR_LASTSW : Nat := 0x38054
abbrev F.PAIR_LASTSW_CAUSE : Fld := ⟨0x38054, 0, 8⟩
abbrev F.PAIR_LASTSW_GAP_US : Fld := ⟨0x38054, 16, 16⟩
abbrev A.PAIR_SWITCHES : Nat := 0x38058
abbrev F.PAIR_SWITCHES_TAKEOVERS : Fld := ⟨0x38058, 0, 16⟩
abbrev F.PAIR_SWITCHES_RELINQS : Fld := ⟨0x38058, 16, 16⟩
abbrev A.CLAIM_STATUS : Nat := 0x3900C
abbrev F.CLAIM_STATUS_OWN : Fld := ⟨0x3900C, 0, 16⟩
abbrev F.CLAIM_STATUS_PARTNER : Fld := ⟨0x3900C, 16, 16⟩
abbrev A.CLAIM_GEN : Nat := 0x39040
abbrev F.CLAIM_GEN_G : Fld := ⟨0x39040, 0, 15⟩
abbrev A.CLAIM_MON : Nat := 0x39044
abbrev F.CLAIM_MON_PRESENT : Fld := ⟨0x39044, 0, 1⟩
abbrev F.CLAIM_MON_LINK_FAULT : Fld := ⟨0x39044, 1, 1⟩
abbrev F.CLAIM_MON_HB : Fld := ⟨0x39044, 8, 8⟩
abbrev A.CLAIM_ERRS : Nat := 0x39048
abbrev F.CLAIM_ERRS_CRC_ERR : Fld := ⟨0x39048, 0, 16⟩
abbrev F.CLAIM_ERRS_HB_ERR : Fld := ⟨0x39048, 16, 16⟩
abbrev A.CLAIM_READBACK : Nat := 0x3904C
abbrev F.CLAIM_READBACK_MISMATCH : Fld := ⟨0x3904C, 0, 16⟩
abbrev A.SCAN_STATUS : Nat := 0x4000C
abbrev F.SCAN_STATUS_RUNNING : Fld := ⟨0x4000C, 0, 4⟩
abbrev F.SCAN_STATUS_SUSPENDED : Fld := ⟨0x4000C, 4, 4⟩
abbrev F.SCAN_STATUS_STOPPED : Fld := ⟨0x4000C, 8, 4⟩
abbrev A.SCAN_CMD : Nat := 0x40040
abbrev F.SCAN_CMD_RESTART : Fld := ⟨0x40040, 0, 4⟩
abbrev A.SCAN_CFG : Nat := 0x40044
abbrev F.SCAN_CFG_EN : Fld := ⟨0x40044, 0, 1⟩
abbrev A.SCAN_TCFG (n : Nat) : Nat := 0x40050 + 0x10 * n
abbrev F.SCAN_TCFG_EN (n : Nat) : Fld := ⟨0x40050 + 0x10 * n, 0, 1⟩
abbrev F.SCAN_TCFG_WD_REACT (n : Nat) : Fld := ⟨0x40050 + 0x10 * n, 1, 1⟩
abbrev F.SCAN_TCFG_WD_N (n : Nat) : Fld := ⟨0x40050 + 0x10 * n, 8, 8⟩
abbrev F.SCAN_TCFG_OFFSET_MS (n : Nat) : Fld := ⟨0x40050 + 0x10 * n, 16, 16⟩
abbrev A.SCAN_PERIOD (n : Nat) : Nat := 0x40054 + 0x10 * n
abbrev F.SCAN_PERIOD_PERIOD_MS (n : Nat) : Fld := ⟨0x40054 + 0x10 * n, 0, 16⟩
abbrev A.SCAN_TDUR (n : Nat) : Nat := 0x40058 + 0x10 * n
abbrev F.SCAN_TDUR_LAST_US (n : Nat) : Fld := ⟨0x40058 + 0x10 * n, 0, 32⟩
abbrev A.SCAN_TCNT (n : Nat) : Nat := 0x4005C + 0x10 * n
abbrev F.SCAN_TCNT_OVERRUNS (n : Nat) : Fld := ⟨0x4005C + 0x10 * n, 0, 16⟩
abbrev F.SCAN_TCNT_SKIPPED (n : Nat) : Fld := ⟨0x4005C + 0x10 * n, 16, 16⟩
abbrev A.SCAN_COST (n : Nat) : Nat := 0x40090 + 0x4 * n
abbrev F.SCAN_COST_COST (n : Nat) : Fld := ⟨0x40090 + 0x4 * n, 0, 32⟩
abbrev A.SCAN_MAXDUR (n : Nat) : Nat := 0x400A0 + 0x4 * n
abbrev F.SCAN_MAXDUR_MAX_US (n : Nat) : Fld := ⟨0x400A0 + 0x4 * n, 0, 32⟩
abbrev A.SCAN_PROG_ADDR : Nat := 0x400C0
abbrev F.SCAN_PROG_ADDR_ADDR : Fld := ⟨0x400C0, 0, 19⟩
abbrev A.SCAN_PROG_DATA : Nat := 0x400C4
abbrev F.SCAN_PROG_DATA_DATA : Fld := ⟨0x400C4, 0, 32⟩
abbrev A.SCAN_PROG_LIVE : Nat := 0x400C8
abbrev F.SCAN_PROG_LIVE_DATA : Fld := ⟨0x400C8, 0, 32⟩
abbrev A.SCAN_PERR : Nat := 0x400CC
abbrev F.SCAN_PERR_BLOCK : Fld := ⟨0x400CC, 0, 12⟩
abbrev F.SCAN_PERR_TASK : Fld := ⟨0x400CC, 12, 2⟩
abbrev F.SCAN_PERR_CODE : Fld := ⟨0x400CC, 16, 8⟩
abbrev A.SCAN_INSTUSE : Nat := 0x400D0
abbrev F.SCAN_INSTUSE_BYTES : Fld := ⟨0x400D0, 0, 22⟩
abbrev A.SCAN_MIRUSE : Nat := 0x400D4
abbrev F.SCAN_MIRUSE_BYTES : Fld := ⟨0x400D4, 0, 19⟩
abbrev A.IMAGE_DI : Nat := 0x41040
abbrev F.IMAGE_DI_DI : Fld := ⟨0x41040, 0, 16⟩
abbrev A.IMAGE_DO : Nat := 0x41044
abbrev F.IMAGE_DO_DO : Fld := ⟨0x41044, 0, 8⟩
abbrev A.IMAGE_STQ : Nat := 0x41048
abbrev F.IMAGE_STQ_QUAL : Fld := ⟨0x41048, 0, 32⟩
abbrev A.IMAGE_UNDEL : Nat := 0x4104C
abbrev F.IMAGE_UNDEL_UNDELIVERED : Fld := ⟨0x4104C, 0, 32⟩
abbrev A.IMAGE_SVIEW : Nat := 0x41050
abbrev F.IMAGE_SVIEW_STATION : Fld := ⟨0x41050, 0, 5⟩
abbrev A.IMAGE_SIN (n : Nat) : Nat := 0x41060 + 0x4 * n
abbrev F.IMAGE_SIN_IN (n : Nat) : Fld := ⟨0x41060 + 0x4 * n, 0, 32⟩
abbrev A.IMAGE_SOUT (n : Nat) : Nat := 0x41080 + 0x4 * n
abbrev F.IMAGE_SOUT_OUT (n : Nat) : Fld := ⟨0x41080 + 0x4 * n, 0, 32⟩
abbrev A.IMAGE_M (n : Nat) : Nat := 0x41400 + 0x4 * n
abbrev F.IMAGE_M_M (n : Nat) : Fld := ⟨0x41400 + 0x4 * n, 0, 32⟩
abbrev A.STATION_CFG : Nat := 0x42040
abbrev F.STATION_CFG_UDP_PORT : Fld := ⟨0x42040, 0, 16⟩
abbrev A.STATION_SCFG (n : Nat) : Nat := 0x42080 + 0x20 * n
abbrev F.STATION_SCFG_EN (n : Nat) : Fld := ⟨0x42080 + 0x20 * n, 0, 1⟩
abbrev F.STATION_SCFG_LINK (n : Nat) : Fld := ⟨0x42080 + 0x20 * n, 1, 2⟩
abbrev F.STATION_SCFG_CH (n : Nat) : Fld := ⟨0x42080 + 0x20 * n, 3, 2⟩
abbrev F.STATION_SCFG_TASK (n : Nat) : Fld := ⟨0x42080 + 0x20 * n, 6, 2⟩
abbrev F.STATION_SCFG_NIN (n : Nat) : Fld := ⟨0x42080 + 0x20 * n, 8, 6⟩
abbrev F.STATION_SCFG_NOUT (n : Nat) : Fld := ⟨0x42080 + 0x20 * n, 16, 6⟩
abbrev F.STATION_SCFG_SUBST (n : Nat) : Fld := ⟨0x42080 + 0x20 * n, 24, 2⟩
abbrev F.STATION_SCFG_AUTH (n : Nat) : Fld := ⟨0x42080 + 0x20 * n, 26, 1⟩
abbrev A.STATION_SADDR (n : Nat) : Nat := 0x42084 + 0x20 * n
abbrev F.STATION_SADDR_ADDR (n : Nat) : Fld := ⟨0x42084 + 0x20 * n, 0, 32⟩
abbrev A.STATION_STIME (n : Nat) : Nat := 0x42088 + 0x20 * n
abbrev F.STATION_STIME_TIMEOUT_MS (n : Nat) : Fld := ⟨0x42088 + 0x20 * n, 0, 16⟩
abbrev F.STATION_STIME_WD_MS (n : Nat) : Fld := ⟨0x42088 + 0x20 * n, 16, 16⟩
abbrev A.STATION_SSTAT (n : Nat) : Nat := 0x4208C + 0x20 * n
abbrev F.STATION_SSTAT_QUAL (n : Nat) : Fld := ⟨0x4208C + 0x20 * n, 0, 1⟩
abbrev F.STATION_SSTAT_UNDELIVERED (n : Nat) : Fld := ⟨0x4208C + 0x20 * n, 1, 1⟩
abbrev F.STATION_SSTAT_AGE_MS (n : Nat) : Fld := ⟨0x4208C + 0x20 * n, 16, 16⟩
abbrev A.STATION_SCNT (n : Nat) : Nat := 0x42090 + 0x20 * n
abbrev F.STATION_SCNT_IN_OK (n : Nat) : Fld := ⟨0x42090 + 0x20 * n, 0, 16⟩
abbrev F.STATION_SCNT_IN_ERR (n : Nat) : Fld := ⟨0x42090 + 0x20 * n, 16, 16⟩
abbrev A.STATION_SLOST (n : Nat) : Nat := 0x42094 + 0x20 * n
abbrev F.STATION_SLOST_LOSSES (n : Nat) : Fld := ⟨0x42094 + 0x20 * n, 0, 16⟩
abbrev A.TIME_NS (n : Nat) : Nat := 0x48040 + 0x20 * n
abbrev F.TIME_NS_NS (n : Nat) : Fld := ⟨0x48040 + 0x20 * n, 0, 32⟩
abbrev A.TIME_SLO (n : Nat) : Nat := 0x48044 + 0x20 * n
abbrev F.TIME_SLO_SEC_LO (n : Nat) : Fld := ⟨0x48044 + 0x20 * n, 0, 32⟩
abbrev A.TIME_SHI (n : Nat) : Nat := 0x48048 + 0x20 * n
abbrev F.TIME_SHI_SEC_HI (n : Nat) : Fld := ⟨0x48048 + 0x20 * n, 0, 16⟩
abbrev F.TIME_SHI_FRAC (n : Nat) : Fld := ⟨0x48048 + 0x20 * n, 16, 16⟩
abbrev A.TIME_RATE (n : Nat) : Nat := 0x4804C + 0x20 * n
abbrev F.TIME_RATE_RATE (n : Nat) : Fld := ⟨0x4804C + 0x20 * n, 0, 32⟩
abbrev A.TIME_SETNS (n : Nat) : Nat := 0x48050 + 0x20 * n
abbrev F.TIME_SETNS_SET_NS (n : Nat) : Fld := ⟨0x48050 + 0x20 * n, 0, 32⟩
abbrev A.TIME_SETSL (n : Nat) : Nat := 0x48054 + 0x20 * n
abbrev F.TIME_SETSL_SET_SLO (n : Nat) : Fld := ⟨0x48054 + 0x20 * n, 0, 32⟩
abbrev A.TIME_SETSH (n : Nat) : Nat := 0x48058 + 0x20 * n
abbrev F.TIME_SETSH_SET_SHI (n : Nat) : Fld := ⟨0x48058 + 0x20 * n, 0, 16⟩
abbrev A.TIME_CMD (n : Nat) : Nat := 0x4805C + 0x20 * n
abbrev F.TIME_CMD_SET (n : Nat) : Fld := ⟨0x4805C + 0x20 * n, 0, 1⟩
abbrev F.TIME_CMD_SHIFT (n : Nat) : Fld := ⟨0x4805C + 0x20 * n, 1, 1⟩
abbrev F.TIME_CMD_SYNCED (n : Nat) : Fld := ⟨0x4805C + 0x20 * n, 8, 1⟩
abbrev F.TIME_CMD_REFUSED (n : Nat) : Fld := ⟨0x4805C + 0x20 * n, 9, 1⟩
abbrev F.TIME_CMD_STEPS (n : Nat) : Fld := ⟨0x4805C + 0x20 * n, 16, 16⟩
abbrev A.TIME_CMD_SNAP : Nat := 0x480C0
abbrev F.TIME_CMD_SNAP_SNAP : Fld := ⟨0x480C0, 0, 1⟩
abbrev A.TIME_SNAP_NS (n : Nat) : Nat := 0x480D0 + 0x10 * n
abbrev F.TIME_SNAP_NS_NS (n : Nat) : Fld := ⟨0x480D0 + 0x10 * n, 0, 32⟩
abbrev A.TIME_SNAP_SEC_LO (n : Nat) : Nat := 0x480D4 + 0x10 * n
abbrev F.TIME_SNAP_SEC_LO_SEC_LO (n : Nat) : Fld := ⟨0x480D4 + 0x10 * n, 0, 32⟩
abbrev A.TIME_SNAP_HI (n : Nat) : Nat := 0x480D8 + 0x10 * n
abbrev F.TIME_SNAP_HI_SEC_HI (n : Nat) : Fld := ⟨0x480D8 + 0x10 * n, 0, 16⟩
abbrev F.TIME_SNAP_HI_FRAC (n : Nat) : Fld := ⟨0x480D8 + 0x10 * n, 16, 16⟩
abbrev A.TIME_PAIRDIFF : Nat := 0x48110
abbrev F.TIME_PAIRDIFF_DIFF : Fld := ⟨0x48110, 0, 32⟩
abbrev A.PTP_CFG (n : Nat) : Nat := 0x49040 + 0x80 * n
abbrev F.PTP_CFG_EN (n : Nat) : Fld := ⟨0x49040 + 0x80 * n, 0, 1⟩
abbrev F.PTP_CFG_PROFILE (n : Nat) : Fld := ⟨0x49040 + 0x80 * n, 1, 1⟩
abbrev F.PTP_CFG_PORT (n : Nat) : Fld := ⟨0x49040 + 0x80 * n, 2, 1⟩
abbrev F.PTP_CFG_STEP_MODE (n : Nat) : Fld := ⟨0x49040 + 0x80 * n, 3, 2⟩
abbrev F.PTP_CFG_FALLBACK (n : Nat) : Fld := ⟨0x49040 + 0x80 * n, 5, 1⟩
abbrev F.PTP_CFG_AMT_EN (n : Nat) : Fld := ⟨0x49040 + 0x80 * n, 6, 1⟩
abbrev F.PTP_CFG_DOMAIN (n : Nat) : Fld := ⟨0x49040 + 0x80 * n, 8, 8⟩
abbrev F.PTP_CFG_ANN_TMO (n : Nat) : Fld := ⟨0x49040 + 0x80 * n, 16, 4⟩
abbrev F.PTP_CFG_PD_AVG (n : Nat) : Fld := ⟨0x49040 + 0x80 * n, 24, 4⟩
abbrev F.PTP_CFG_LOG_PDELAY (n : Nat) : Fld := ⟨0x49040 + 0x80 * n, 28, 4⟩
abbrev A.PTP_SERVO (n : Nat) : Nat := 0x49044 + 0x80 * n
abbrev F.PTP_SERVO_KP (n : Nat) : Fld := ⟨0x49044 + 0x80 * n, 0, 16⟩
abbrev F.PTP_SERVO_KI (n : Nat) : Fld := ⟨0x49044 + 0x80 * n, 16, 16⟩
abbrev A.PTP_LIM (n : Nat) : Nat := 0x49048 + 0x80 * n
abbrev F.PTP_LIM_MAX_PPM (n : Nat) : Fld := ⟨0x49048 + 0x80 * n, 0, 16⟩
abbrev F.PTP_LIM_LOCK_NS (n : Nat) : Fld := ⟨0x49048 + 0x80 * n, 16, 16⟩
abbrev A.PTP_STEP (n : Nat) : Nat := 0x4904C + 0x80 * n
abbrev F.PTP_STEP_STEP_NS (n : Nat) : Fld := ⟨0x4904C + 0x80 * n, 0, 32⟩
abbrev A.PTP_OUT (n : Nat) : Nat := 0x49050 + 0x80 * n
abbrev F.PTP_OUT_OUTLIER_NS (n : Nat) : Fld := ⟨0x49050 + 0x80 * n, 0, 16⟩
abbrev F.PTP_OUT_ASYM_NS (n : Nat) : Fld := ⟨0x49050 + 0x80 * n, 16, 16⟩
abbrev A.PTP_AMT0_LO (n : Nat) : Nat := 0x49054 + 0x80 * n
abbrev F.PTP_AMT0_LO_ID_LO (n : Nat) : Fld := ⟨0x49054 + 0x80 * n, 0, 32⟩
abbrev A.PTP_AMT0_HI (n : Nat) : Nat := 0x49058 + 0x80 * n
abbrev F.PTP_AMT0_HI_ID_HI (n : Nat) : Fld := ⟨0x49058 + 0x80 * n, 0, 32⟩
abbrev A.PTP_AMT1_LO (n : Nat) : Nat := 0x4905C + 0x80 * n
abbrev F.PTP_AMT1_LO_ID_LO (n : Nat) : Fld := ⟨0x4905C + 0x80 * n, 0, 32⟩
abbrev A.PTP_AMT1_HI (n : Nat) : Nat := 0x49060 + 0x80 * n
abbrev F.PTP_AMT1_HI_ID_HI (n : Nat) : Fld := ⟨0x49060 + 0x80 * n, 0, 32⟩
abbrev A.PTP_AMT2_LO (n : Nat) : Nat := 0x49064 + 0x80 * n
abbrev F.PTP_AMT2_LO_ID_LO (n : Nat) : Fld := ⟨0x49064 + 0x80 * n, 0, 32⟩
abbrev A.PTP_AMT2_HI (n : Nat) : Nat := 0x49068 + 0x80 * n
abbrev F.PTP_AMT2_HI_ID_HI (n : Nat) : Fld := ⟨0x49068 + 0x80 * n, 0, 32⟩
abbrev A.PTP_AMT3_LO (n : Nat) : Nat := 0x4906C + 0x80 * n
abbrev F.PTP_AMT3_LO_ID_LO (n : Nat) : Fld := ⟨0x4906C + 0x80 * n, 0, 32⟩
abbrev A.PTP_AMT3_HI (n : Nat) : Nat := 0x49070 + 0x80 * n
abbrev F.PTP_AMT3_HI_ID_HI (n : Nat) : Fld := ⟨0x49070 + 0x80 * n, 0, 32⟩
abbrev A.PTP_STATE (n : Nat) : Nat := 0x49080 + 0x80 * n
abbrev F.PTP_STATE_PORT_STATE (n : Nat) : Fld := ⟨0x49080 + 0x80 * n, 0, 4⟩
abbrev F.PTP_STATE_SERVO (n : Nat) : Fld := ⟨0x49080 + 0x80 * n, 4, 2⟩
abbrev F.PTP_STATE_FB_ACTIVE (n : Nat) : Fld := ⟨0x49080 + 0x80 * n, 6, 1⟩
abbrev F.PTP_STATE_TFLAGS (n : Nat) : Fld := ⟨0x49080 + 0x80 * n, 8, 4⟩
abbrev F.PTP_STATE_UTC_OFFSET (n : Nat) : Fld := ⟨0x49080 + 0x80 * n, 16, 16⟩
abbrev A.PTP_OFFS (n : Nat) : Nat := 0x49084 + 0x80 * n
abbrev F.PTP_OFFS_OFFSET (n : Nat) : Fld := ⟨0x49084 + 0x80 * n, 0, 32⟩
abbrev A.PTP_MPD (n : Nat) : Nat := 0x49088 + 0x80 * n
abbrev F.PTP_MPD_DELAY (n : Nat) : Fld := ⟨0x49088 + 0x80 * n, 0, 32⟩
abbrev A.PTP_RATE (n : Nat) : Nat := 0x4908C + 0x80 * n
abbrev F.PTP_RATE_RATE (n : Nat) : Fld := ⟨0x4908C + 0x80 * n, 0, 32⟩
abbrev A.PTP_GM_LO (n : Nat) : Nat := 0x49090 + 0x80 * n
abbrev F.PTP_GM_LO_GM_LO (n : Nat) : Fld := ⟨0x49090 + 0x80 * n, 0, 32⟩
abbrev A.PTP_GM_HI (n : Nat) : Nat := 0x49094 + 0x80 * n
abbrev F.PTP_GM_HI_GM_HI (n : Nat) : Fld := ⟨0x49094 + 0x80 * n, 0, 32⟩
abbrev A.PTP_CNT (n : Nat) : Nat := 0x49098 + 0x80 * n
abbrev F.PTP_CNT_SYNC_RX (n : Nat) : Fld := ⟨0x49098 + 0x80 * n, 0, 16⟩
abbrev F.PTP_CNT_OUTLIERS (n : Nat) : Fld := ⟨0x49098 + 0x80 * n, 16, 16⟩
abbrev A.PTP_CNT2 (n : Nat) : Nat := 0x4909C + 0x80 * n
abbrev F.PTP_CNT2_ABANDONED (n : Nat) : Fld := ⟨0x4909C + 0x80 * n, 0, 16⟩
abbrev F.PTP_CNT2_LOCK_LOSSES (n : Nat) : Fld := ⟨0x4909C + 0x80 * n, 16, 16⟩
abbrev A.PTP_TXQ_0 (n : Nat) : Nat := 0x49140 + 0x20 * n
abbrev F.PTP_TXQ_0_FILL (n : Nat) : Fld := ⟨0x49140 + 0x20 * n, 0, 5⟩
abbrev F.PTP_TXQ_0_PEAK (n : Nat) : Fld := ⟨0x49140 + 0x20 * n, 8, 5⟩
abbrev F.PTP_TXQ_0_DROPS (n : Nat) : Fld := ⟨0x49140 + 0x20 * n, 16, 16⟩
abbrev A.PTP_TXQ_4 (n : Nat) : Nat := 0x49144 + 0x20 * n
abbrev F.PTP_TXQ_4_STALE (n : Nat) : Fld := ⟨0x49144 + 0x20 * n, 0, 16⟩
abbrev A.PTP_TXCFG (n : Nat) : Nat := 0x49148 + 0x20 * n
abbrev F.PTP_TXCFG_SNET_TS (n : Nat) : Fld := ⟨0x49148 + 0x20 * n, 0, 1⟩
abbrev A.PTP_LAST0 (n : Nat) : Nat := 0x4914C + 0x20 * n
abbrev F.PTP_LAST0_ENTRY (n : Nat) : Fld := ⟨0x4914C + 0x20 * n, 0, 32⟩
abbrev A.PTP_LAST1 (n : Nat) : Nat := 0x49150 + 0x20 * n
abbrev F.PTP_LAST1_ENTRY (n : Nat) : Fld := ⟨0x49150 + 0x20 * n, 0, 32⟩
abbrev A.PTP_LAST2 (n : Nat) : Nat := 0x49154 + 0x20 * n
abbrev F.PTP_LAST2_ENTRY (n : Nat) : Fld := ⟨0x49154 + 0x20 * n, 0, 32⟩
abbrev A.PTP_LAST3 (n : Nat) : Nat := 0x49158 + 0x20 * n
abbrev F.PTP_LAST3_ENTRY (n : Nat) : Fld := ⟨0x49158 + 0x20 * n, 0, 32⟩
abbrev A.TRIG_TCFG (n : Nat) : Nat := 0x4A040 + 0x20 * n
abbrev F.TRIG_TCFG_TB (n : Nat) : Fld := ⟨0x4A040 + 0x20 * n, 0, 2⟩
abbrev F.TRIG_TCFG_PERIODIC (n : Nat) : Fld := ⟨0x4A040 + 0x20 * n, 2, 1⟩
abbrev F.TRIG_TCFG_INVERT (n : Nat) : Fld := ⟨0x4A040 + 0x20 * n, 3, 1⟩
abbrev F.TRIG_TCFG_CLAIM_ONLY (n : Nat) : Fld := ⟨0x4A040 + 0x20 * n, 4, 1⟩
abbrev A.TRIG_TCTL (n : Nat) : Nat := 0x4A044 + 0x20 * n
abbrev F.TRIG_TCTL_ARM (n : Nat) : Fld := ⟨0x4A044 + 0x20 * n, 0, 1⟩
abbrev F.TRIG_TCTL_STAT (n : Nat) : Fld := ⟨0x4A044 + 0x20 * n, 8, 4⟩
abbrev A.TRIG_TSTART_NS (n : Nat) : Nat := 0x4A048 + 0x20 * n
abbrev F.TRIG_TSTART_NS_NS (n : Nat) : Fld := ⟨0x4A048 + 0x20 * n, 0, 32⟩
abbrev A.TRIG_TSTART_SEC_LO (n : Nat) : Nat := 0x4A04C + 0x20 * n
abbrev F.TRIG_TSTART_SEC_LO_SEC_LO (n : Nat) : Fld := ⟨0x4A04C + 0x20 * n, 0, 32⟩
abbrev A.TRIG_TSTART_SEC_HI (n : Nat) : Nat := 0x4A050 + 0x20 * n
abbrev F.TRIG_TSTART_SEC_HI_SEC_HI (n : Nat) : Fld := ⟨0x4A050 + 0x20 * n, 0, 16⟩
abbrev A.TRIG_TPER (n : Nat) : Nat := 0x4A054 + 0x20 * n
abbrev F.TRIG_TPER_PERIOD_NS (n : Nat) : Fld := ⟨0x4A054 + 0x20 * n, 0, 32⟩
abbrev A.TRIG_TWID (n : Nat) : Nat := 0x4A058 + 0x20 * n
abbrev F.TRIG_TWID_WIDTH_NS (n : Nat) : Fld := ⟨0x4A058 + 0x20 * n, 0, 32⟩
abbrev A.TRIG_TCNT (n : Nat) : Nat := 0x4A05C + 0x20 * n
abbrev F.TRIG_TCNT_EDGES (n : Nat) : Fld := ⟨0x4A05C + 0x20 * n, 0, 16⟩
abbrev F.TRIG_TCNT_MISSED (n : Nat) : Fld := ⟨0x4A05C + 0x20 * n, 16, 16⟩
abbrev A.TRIG_CCFG (n : Nat) : Nat := 0x4A140 + 0x20 * n
abbrev F.TRIG_CCFG_TB (n : Nat) : Fld := ⟨0x4A140 + 0x20 * n, 0, 2⟩
abbrev F.TRIG_CCFG_EDGE (n : Nat) : Fld := ⟨0x4A140 + 0x20 * n, 2, 2⟩
abbrev F.TRIG_CCFG_DEGLITCH (n : Nat) : Fld := ⟨0x4A140 + 0x20 * n, 8, 8⟩
abbrev A.TRIG_CSTAT (n : Nat) : Nat := 0x4A144 + 0x20 * n
abbrev F.TRIG_CSTAT_FILL (n : Nat) : Fld := ⟨0x4A144 + 0x20 * n, 0, 4⟩
abbrev F.TRIG_CSTAT_OVF (n : Nat) : Fld := ⟨0x4A144 + 0x20 * n, 4, 1⟩
abbrev F.TRIG_CSTAT_HEAD_RISE (n : Nat) : Fld := ⟨0x4A144 + 0x20 * n, 5, 1⟩
abbrev F.TRIG_CSTAT_POP (n : Nat) : Fld := ⟨0x4A144 + 0x20 * n, 8, 1⟩
abbrev A.TRIG_CHEADk_NS (n : Nat) : Nat := 0x4A148 + 0x20 * n
abbrev F.TRIG_CHEADk_NS_NS (n : Nat) : Fld := ⟨0x4A148 + 0x20 * n, 0, 32⟩
abbrev A.TRIG_CHEADk_SEC_LO (n : Nat) : Nat := 0x4A14C + 0x20 * n
abbrev F.TRIG_CHEADk_SEC_LO_SEC_LO (n : Nat) : Fld := ⟨0x4A14C + 0x20 * n, 0, 32⟩
abbrev A.TRIG_CHEADk_SEC_HI (n : Nat) : Nat := 0x4A150 + 0x20 * n
abbrev F.TRIG_CHEADk_SEC_HI_SEC_HI (n : Nat) : Fld := ⟨0x4A150 + 0x20 * n, 0, 16⟩
abbrev A.TRIG_CCNT (n : Nat) : Nat := 0x4A154 + 0x20 * n
abbrev F.TRIG_CCNT_CAPTURED (n : Nat) : Fld := ⟨0x4A154 + 0x20 * n, 0, 16⟩
abbrev F.TRIG_CCNT_DROPPED (n : Nat) : Fld := ⟨0x4A154 + 0x20 * n, 16, 16⟩
abbrev A.CAN_STATUS (c : Nat) : Nat := 0x5000C + 0x1000 * c
abbrev F.CAN_STATUS_STATE (c : Nat) : Fld := ⟨0x5000C + 0x1000 * c, 0, 2⟩
abbrev F.CAN_STATUS_RESTRICTED (c : Nat) : Fld := ⟨0x5000C + 0x1000 * c, 2, 1⟩
abbrev F.CAN_STATUS_SLEEP (c : Nat) : Fld := ⟨0x5000C + 0x1000 * c, 3, 1⟩
abbrev F.CAN_STATUS_LASTING_BO (c : Nat) : Fld := ⟨0x5000C + 0x1000 * c, 4, 1⟩
abbrev A.CAN_CMD (c : Nat) : Nat := 0x50040 + 0x1000 * c
abbrev F.CAN_CMD_RECOVER (c : Nat) : Fld := ⟨0x50040 + 0x1000 * c, 0, 1⟩
abbrev F.CAN_CMD_TX_ABORT (c : Nat) : Fld := ⟨0x50040 + 0x1000 * c, 1, 1⟩
abbrev F.CAN_CMD_SEND (c : Nat) : Fld := ⟨0x50040 + 0x1000 * c, 2, 1⟩
abbrev A.CAN_CFG (c : Nat) : Nat := 0x50044 + 0x1000 * c
abbrev F.CAN_CFG_EN (c : Nat) : Fld := ⟨0x50044 + 0x1000 * c, 0, 1⟩
abbrev F.CAN_CFG_ROM (c : Nat) : Fld := ⟨0x50044 + 0x1000 * c, 1, 1⟩
abbrev F.CAN_CFG_AUTO_RECOVER (c : Nat) : Fld := ⟨0x50044 + 0x1000 * c, 2, 1⟩
abbrev F.CAN_CFG_SLEEP_EN (c : Nat) : Fld := ⟨0x50044 + 0x1000 * c, 3, 1⟩
abbrev F.CAN_CFG_FD_EN (c : Nat) : Fld := ⟨0x50044 + 0x1000 * c, 4, 1⟩
abbrev F.CAN_CFG_TDC_EN (c : Nat) : Fld := ⟨0x50044 + 0x1000 * c, 5, 1⟩
abbrev F.CAN_CFG_TERM (c : Nat) : Fld := ⟨0x50044 + 0x1000 * c, 6, 1⟩
abbrev F.CAN_CFG_TDC_OFS (c : Nat) : Fld := ⟨0x50044 + 0x1000 * c, 8, 7⟩
abbrev F.CAN_CFG_TX_TMO (c : Nat) : Fld := ⟨0x50044 + 0x1000 * c, 16, 16⟩
abbrev A.CAN_NBT (c : Nat) : Nat := 0x50048 + 0x1000 * c
abbrev F.CAN_NBT_BRP (c : Nat) : Fld := ⟨0x50048 + 0x1000 * c, 0, 9⟩
abbrev F.CAN_NBT_TSEG1 (c : Nat) : Fld := ⟨0x50048 + 0x1000 * c, 16, 9⟩
abbrev A.CAN_NBT2 (c : Nat) : Nat := 0x5004C + 0x1000 * c
abbrev F.CAN_NBT2_TSEG2 (c : Nat) : Fld := ⟨0x5004C + 0x1000 * c, 0, 8⟩
abbrev F.CAN_NBT2_SJW (c : Nat) : Fld := ⟨0x5004C + 0x1000 * c, 8, 8⟩
abbrev A.CAN_DBT (c : Nat) : Nat := 0x50050 + 0x1000 * c
abbrev F.CAN_DBT_BRP (c : Nat) : Fld := ⟨0x50050 + 0x1000 * c, 0, 6⟩
abbrev F.CAN_DBT_TSEG1 (c : Nat) : Fld := ⟨0x50050 + 0x1000 * c, 8, 6⟩
abbrev F.CAN_DBT_TSEG2 (c : Nat) : Fld := ⟨0x50050 + 0x1000 * c, 16, 5⟩
abbrev F.CAN_DBT_SJW (c : Nat) : Fld := ⟨0x50050 + 0x1000 * c, 24, 5⟩
abbrev A.CAN_ERRCNT (c : Nat) : Nat := 0x50054 + 0x1000 * c
abbrev F.CAN_ERRCNT_TEC (c : Nat) : Fld := ⟨0x50054 + 0x1000 * c, 0, 8⟩
abbrev F.CAN_ERRCNT_REC (c : Nat) : Fld := ⟨0x50054 + 0x1000 * c, 8, 8⟩
abbrev F.CAN_ERRCNT_RP (c : Nat) : Fld := ⟨0x50054 + 0x1000 * c, 16, 1⟩
abbrev A.CAN_LATCH (c : Nat) : Nat := 0x50058 + 0x1000 * c
abbrev F.CAN_LATCH_C_L (c : Nat) : Fld := ⟨0x50058 + 0x1000 * c, 0, 32⟩
abbrev A.CAN_LATCH_NS (c : Nat) : Nat := 0x5005C + 0x1000 * c
abbrev F.CAN_LATCH_NS_NS (c : Nat) : Fld := ⟨0x5005C + 0x1000 * c, 0, 32⟩
abbrev A.CAN_LATCH_SEC_LO (c : Nat) : Nat := 0x50060 + 0x1000 * c
abbrev F.CAN_LATCH_SEC_LO_SEC_LO (c : Nat) : Fld := ⟨0x50060 + 0x1000 * c, 0, 32⟩
abbrev A.CAN_LATCH_SEC_HI (c : Nat) : Nat := 0x50064 + 0x1000 * c
abbrev F.CAN_LATCH_SEC_HI_SEC_HI (c : Nat) : Fld := ⟨0x50064 + 0x1000 * c, 0, 16⟩
abbrev A.CAN_CNT (c : Nat) : Nat := 0x50068 + 0x1000 * c
abbrev F.CAN_CNT_CNT (c : Nat) : Fld := ⟨0x50068 + 0x1000 * c, 0, 32⟩
abbrev A.CAN_FRMCNT (c : Nat) : Nat := 0x50070 + 0x1000 * c
abbrev F.CAN_FRMCNT_RX (c : Nat) : Fld := ⟨0x50070 + 0x1000 * c, 0, 16⟩
abbrev F.CAN_FRMCNT_TX (c : Nat) : Fld := ⟨0x50070 + 0x1000 * c, 16, 16⟩
abbrev A.CAN_ERRS (c : Nat) : Nat := 0x50074 + 0x1000 * c
abbrev F.CAN_ERRS_BUS_OFFS (c : Nat) : Fld := ⟨0x50074 + 0x1000 * c, 0, 16⟩
abbrev F.CAN_ERRS_TX_ABANDON (c : Nat) : Fld := ⟨0x50074 + 0x1000 * c, 16, 16⟩
abbrev A.CAN_ERRS2 (c : Nat) : Nat := 0x50078 + 0x1000 * c
abbrev F.CAN_ERRS2_RX_DROP (c : Nat) : Fld := ⟨0x50078 + 0x1000 * c, 0, 16⟩
abbrev F.CAN_ERRS2_ERR_FRAMES (c : Nat) : Fld := ⟨0x50078 + 0x1000 * c, 16, 16⟩
abbrev A.CAN_LEC (c : Nat) : Nat := 0x5007C + 0x1000 * c
abbrev F.CAN_LEC_LEC (c : Nat) : Fld := ⟨0x5007C + 0x1000 * c, 0, 3⟩
abbrev F.CAN_LEC_DLEC (c : Nat) : Fld := ⟨0x5007C + 0x1000 * c, 8, 3⟩
abbrev A.CAN_FLT_0 (c : Nat) (n : Nat) : Nat := 0x50080 + 0x1000 * c + 0x8 * n
abbrev F.CAN_FLT_0_ID (c : Nat) (n : Nat) : Fld := ⟨0x50080 + 0x1000 * c + 0x8 * n, 0, 29⟩
abbrev F.CAN_FLT_0_IDE (c : Nat) (n : Nat) : Fld := ⟨0x50080 + 0x1000 * c + 0x8 * n, 29, 1⟩
abbrev F.CAN_FLT_0_EN (c : Nat) (n : Nat) : Fld := ⟨0x50080 + 0x1000 * c + 0x8 * n, 31, 1⟩
abbrev A.CAN_FLT_4 (c : Nat) (n : Nat) : Nat := 0x50084 + 0x1000 * c + 0x8 * n
abbrev F.CAN_FLT_4_MASK (c : Nat) (n : Nat) : Fld := ⟨0x50084 + 0x1000 * c + 0x8 * n, 0, 29⟩
abbrev A.CAN_TXID (c : Nat) : Nat := 0x50100 + 0x1000 * c
abbrev F.CAN_TXID_ID (c : Nat) : Fld := ⟨0x50100 + 0x1000 * c, 0, 29⟩
abbrev F.CAN_TXID_IDE (c : Nat) : Fld := ⟨0x50100 + 0x1000 * c, 29, 1⟩
abbrev A.CAN_TXCTL (c : Nat) : Nat := 0x50104 + 0x1000 * c
abbrev F.CAN_TXCTL_LEN (c : Nat) : Fld := ⟨0x50104 + 0x1000 * c, 0, 7⟩
abbrev F.CAN_TXCTL_FDF (c : Nat) : Fld := ⟨0x50104 + 0x1000 * c, 8, 1⟩
abbrev F.CAN_TXCTL_BRS (c : Nat) : Fld := ⟨0x50104 + 0x1000 * c, 9, 1⟩
abbrev F.CAN_TXCTL_ECHO (c : Nat) : Fld := ⟨0x50104 + 0x1000 * c, 10, 1⟩
abbrev A.CAN_TXDATA (c : Nat) (n : Nat) : Nat := 0x50140 + 0x1000 * c + 0x4 * n
abbrev F.CAN_TXDATA_DATA (c : Nat) (n : Nat) : Fld := ⟨0x50140 + 0x1000 * c + 0x4 * n, 0, 32⟩
abbrev A.ETH_MAC_LO (c : Nat) : Nat := 0x58040 + 0x1000 * c
abbrev F.ETH_MAC_LO_MAC (c : Nat) : Fld := ⟨0x58040 + 0x1000 * c, 0, 32⟩
abbrev A.ETH_MAC_HI (c : Nat) : Nat := 0x58044 + 0x1000 * c
abbrev F.ETH_MAC_HI_MAC (c : Nat) : Fld := ⟨0x58044 + 0x1000 * c, 0, 16⟩
abbrev A.ETH_IPV4 (c : Nat) : Nat := 0x58048 + 0x1000 * c
abbrev F.ETH_IPV4_ADDR (c : Nat) : Fld := ⟨0x58048 + 0x1000 * c, 0, 32⟩
abbrev A.ETH_NETMASK (c : Nat) : Nat := 0x5804C + 0x1000 * c
abbrev F.ETH_NETMASK_MASK (c : Nat) : Fld := ⟨0x5804C + 0x1000 * c, 0, 32⟩
abbrev A.ETH_GATEWAY (c : Nat) : Nat := 0x58050 + 0x1000 * c
abbrev F.ETH_GATEWAY_GW (c : Nat) : Fld := ⟨0x58050 + 0x1000 * c, 0, 32⟩
abbrev A.ETH_RK_CFG (c : Nat) : Nat := 0x58054 + 0x1000 * c
abbrev F.ETH_RK_CFG_UDP_PORT (c : Nat) : Fld := ⟨0x58054 + 0x1000 * c, 0, 16⟩
abbrev F.ETH_RK_CFG_RK_EN (c : Nat) : Fld := ⟨0x58054 + 0x1000 * c, 16, 1⟩
abbrev F.ETH_RK_CFG_TIMEOUT (c : Nat) : Fld := ⟨0x58054 + 0x1000 * c, 24, 8⟩
abbrev A.ETH_LINK (c : Nat) : Nat := 0x58058 + 0x1000 * c
abbrev F.ETH_LINK_SPEED (c : Nat) : Fld := ⟨0x58058 + 0x1000 * c, 0, 2⟩
abbrev F.ETH_LINK_UP (c : Nat) : Fld := ⟨0x58058 + 0x1000 * c, 2, 1⟩
abbrev F.ETH_LINK_FULL (c : Nat) : Fld := ⟨0x58058 + 0x1000 * c, 3, 1⟩
abbrev A.ETH_RK_STAT (c : Nat) : Nat := 0x5805C + 0x1000 * c
abbrev F.ETH_RK_STAT_OPEN (c : Nat) : Fld := ⟨0x5805C + 0x1000 * c, 0, 4⟩
abbrev F.ETH_RK_STAT_NOTIFY_LOST (c : Nat) : Fld := ⟨0x5805C + 0x1000 * c, 4, 1⟩
abbrev F.ETH_RK_STAT_DROPPED (c : Nat) : Fld := ⟨0x5805C + 0x1000 * c, 16, 16⟩
abbrev A.NVM_STATUS : Nat := 0x6000C
abbrev F.NVM_STATUS_NOR0_OK : Fld := ⟨0x6000C, 0, 1⟩
abbrev F.NVM_STATUS_NOR1_OK : Fld := ⟨0x6000C, 1, 1⟩
abbrev F.NVM_STATUS_FRAM_OK : Fld := ⟨0x6000C, 2, 1⟩
abbrev F.NVM_STATUS_CFG_VALID : Fld := ⟨0x6000C, 3, 1⟩
abbrev F.NVM_STATUS_MIGRATED : Fld := ⟨0x6000C, 4, 1⟩
abbrev F.NVM_STATUS_BUSY : Fld := ⟨0x6000C, 5, 1⟩
abbrev A.NVM_CSTORE : Nat := 0x60040
abbrev F.NVM_CSTORE_SLOT : Fld := ⟨0x60040, 0, 2⟩
abbrev F.NVM_CSTORE_PINNED : Fld := ⟨0x60040, 2, 1⟩
abbrev A.NVM_CSEQ : Nat := 0x60044
abbrev F.NVM_CSEQ_SEQ : Fld := ⟨0x60044, 0, 32⟩
abbrev A.NVM_WEAR : Nat := 0x60048
abbrev F.NVM_WEAR_ERASES : Fld := ⟨0x60048, 0, 32⟩
abbrev A.NVM_RETIRED : Nat := 0x6004C
abbrev F.NVM_RETIRED_SECTORS : Fld := ⟨0x6004C, 0, 16⟩
abbrev A.NVM_FORMATS : Nat := 0x60050
abbrev F.NVM_FORMATS_CFG : Fld := ⟨0x60050, 0, 8⟩
abbrev F.NVM_FORMATS_LJ : Fld := ⟨0x60050, 8, 8⟩
abbrev F.NVM_FORMATS_SJ : Fld := ⟨0x60050, 16, 8⟩
abbrev F.NVM_FORMATS_CNT : Fld := ⟨0x60050, 24, 8⟩
abbrev A.NVM_FORMATS2 : Nat := 0x60054
abbrev F.NVM_FORMATS2_RET : Fld := ⟨0x60054, 0, 8⟩
abbrev F.NVM_FORMATS2_LREG : Fld := ⟨0x60054, 8, 8⟩
abbrev A.EVREC_STATUS : Nat := 0x6100C
abbrev F.EVREC_STATUS_FULL : Fld := ⟨0x6100C, 0, 1⟩
abbrev F.EVREC_STATUS_POLICY : Fld := ⟨0x6100C, 1, 1⟩
abbrev F.EVREC_STATUS_MIGRATING : Fld := ⟨0x6100C, 2, 1⟩
abbrev F.EVREC_STATUS_PAUSED : Fld := ⟨0x6100C, 3, 1⟩
abbrev F.EVREC_STATUS_STAGE_FULL : Fld := ⟨0x6100C, 4, 1⟩
abbrev A.EVREC_CFG : Nat := 0x61040
abbrev F.EVREC_CFG_POLICY : Fld := ⟨0x61040, 0, 1⟩
abbrev F.EVREC_CFG_NOTIFY_SEV : Fld := ⟨0x61040, 8, 3⟩
abbrev A.EVREC_HEAD_LO : Nat := 0x61044
abbrev F.EVREC_HEAD_LO_SEQ : Fld := ⟨0x61044, 0, 32⟩
abbrev A.EVREC_HEAD_HI : Nat := 0x61048
abbrev F.EVREC_HEAD_HI_SEQ : Fld := ⟨0x61048, 0, 32⟩
abbrev A.EVREC_TAIL_LO : Nat := 0x6104C
abbrev F.EVREC_TAIL_LO_SEQ : Fld := ⟨0x6104C, 0, 32⟩
abbrev A.EVREC_TAIL_HI : Nat := 0x61050
abbrev F.EVREC_TAIL_HI_SEQ : Fld := ⟨0x61050, 0, 32⟩
abbrev A.EVREC_USED : Nat := 0x61054
abbrev F.EVREC_USED_BYTES : Fld := ⟨0x61054, 0, 25⟩
abbrev A.EVREC_STAGED : Nat := 0x61058
abbrev F.EVREC_STAGED_BYTES : Fld := ⟨0x61058, 0, 21⟩
abbrev A.EVREC_DROPS (n : Nat) : Nat := 0x61060 + 0x4 * n
abbrev F.EVREC_DROPS_SEV_EVEN (n : Nat) : Fld := ⟨0x61060 + 0x4 * n, 0, 16⟩
abbrev F.EVREC_DROPS_SEV_ODD (n : Nat) : Fld := ⟨0x61060 + 0x4 * n, 16, 16⟩
abbrev A.EVREC_DISPL : Nat := 0x61070
abbrev F.EVREC_DISPL_COUNT : Fld := ⟨0x61070, 0, 32⟩
abbrev A.EVREC_RESERVE : Nat := 0x61074
abbrev F.EVREC_RESERVE_LEFT : Fld := ⟨0x61074, 0, 16⟩
abbrev A.EVREC_CMD : Nat := 0x61080
abbrev F.EVREC_CMD_LATCH : Fld := ⟨0x61080, 0, 1⟩
abbrev A.EVREC_LHEAD_LO : Nat := 0x61084
abbrev F.EVREC_LHEAD_LO_SEQ : Fld := ⟨0x61084, 0, 32⟩
abbrev A.EVREC_LHEAD_HI : Nat := 0x61088
abbrev F.EVREC_LHEAD_HI_SEQ : Fld := ⟨0x61088, 0, 32⟩
abbrev A.EVREC_LTAIL_LO : Nat := 0x6108C
abbrev F.EVREC_LTAIL_LO_SEQ : Fld := ⟨0x6108C, 0, 32⟩
abbrev A.EVREC_LTAIL_HI : Nat := 0x61090
abbrev F.EVREC_LTAIL_HI_SEQ : Fld := ⟨0x61090, 0, 32⟩
abbrev A.EVREC_RSEQ_LO : Nat := 0x61094
abbrev F.EVREC_RSEQ_LO_SEQ : Fld := ⟨0x61094, 0, 32⟩
abbrev A.EVREC_RSEQ_HI : Nat := 0x61098
abbrev F.EVREC_RSEQ_HI_SEQ : Fld := ⟨0x61098, 0, 32⟩
abbrev A.EVREC_FSEQ_LO : Nat := 0x6109C
abbrev F.EVREC_FSEQ_LO_SEQ : Fld := ⟨0x6109C, 0, 32⟩
abbrev A.EVREC_FSEQ_HI : Nat := 0x610A0
abbrev F.EVREC_FSEQ_HI_SEQ : Fld := ⟨0x610A0, 0, 32⟩
abbrev A.EVREC_RSTAT : Nat := 0x610A4
abbrev F.EVREC_RSTAT_SIZE : Fld := ⟨0x610A4, 0, 11⟩
abbrev F.EVREC_RSTAT_FOUND : Fld := ⟨0x610A4, 16, 1⟩
abbrev F.EVREC_RSTAT_GONE : Fld := ⟨0x610A4, 17, 1⟩
abbrev F.EVREC_RSTAT_TORN : Fld := ⟨0x610A4, 18, 1⟩
abbrev F.EVREC_RSTAT_MASKED : Fld := ⟨0x610A4, 19, 1⟩
abbrev A.EVREC_WIN (n : Nat) : Nat := 0x61300 + 0x4 * n
abbrev F.EVREC_WIN_DATA (n : Nat) : Fld := ⟨0x61300 + 0x4 * n, 0, 32⟩
abbrev A.UPDATE_STATUS : Nat := 0x6200C
abbrev F.UPDATE_STATUS_STATE : Fld := ⟨0x6200C, 0, 4⟩
abbrev F.UPDATE_STATUS_RESULT : Fld := ⟨0x6200C, 4, 4⟩
abbrev F.UPDATE_STATUS_TRIAL : Fld := ⟨0x6200C, 8, 1⟩
abbrev F.UPDATE_STATUS_FELL_BACK : Fld := ⟨0x6200C, 9, 1⟩
abbrev F.UPDATE_STATUS_LATE : Fld := ⟨0x6200C, 10, 1⟩
abbrev F.UPDATE_STATUS_MISSED : Fld := ⟨0x6200C, 11, 1⟩
abbrev F.UPDATE_STATUS_BUSY : Fld := ⟨0x6200C, 12, 1⟩
abbrev F.UPDATE_STATUS_OWNER : Fld := ⟨0x6200C, 16, 8⟩
abbrev A.UPDATE_CMD : Nat := 0x62040
abbrev F.UPDATE_CMD_OP : Fld := ⟨0x62040, 0, 3⟩
abbrev F.UPDATE_CMD_ACTIVATE : Fld := ⟨0x62040, 4, 1⟩
abbrev F.UPDATE_CMD_DISARM : Fld := ⟨0x62040, 5, 1⟩
abbrev F.UPDATE_CMD_CONFIRM : Fld := ⟨0x62040, 6, 1⟩
abbrev F.UPDATE_CMD_ACT_MODE : Fld := ⟨0x62040, 8, 2⟩
abbrev F.UPDATE_CMD_KEY : Fld := ⟨0x62040, 16, 16⟩
abbrev A.UPDATE_ADDR : Nat := 0x62044
abbrev F.UPDATE_ADDR_INDEX : Fld := ⟨0x62044, 0, 13⟩
abbrev F.UPDATE_ADDR_QUARTER : Fld := ⟨0x62044, 16, 2⟩
abbrev A.UPDATE_JUB_NS : Nat := 0x62048
abbrev F.UPDATE_JUB_NS_NS : Fld := ⟨0x62048, 0, 32⟩
abbrev A.UPDATE_JUB_SEC_LO : Nat := 0x6204C
abbrev F.UPDATE_JUB_SEC_LO_SEC_LO : Fld := ⟨0x6204C, 0, 32⟩
abbrev A.UPDATE_JUB_SEC_HI : Nat := 0x62050
abbrev F.UPDATE_JUB_SEC_HI_SEC_HI : Fld := ⟨0x62050, 0, 16⟩
abbrev A.UPDATE_CFG : Nat := 0x62054
abbrev F.UPDATE_CFG_CONFIRM_S : Fld := ⟨0x62054, 0, 12⟩
abbrev F.UPDATE_CFG_HOST_CONFIRM : Fld := ⟨0x62054, 16, 1⟩
abbrev A.UPDATE_SLOT (n : Nat) : Nat := 0x62058 + 0x4 * n
abbrev F.UPDATE_SLOT_STATE (n : Nat) : Fld := ⟨0x62058 + 0x4 * n, 0, 3⟩
abbrev F.UPDATE_SLOT_SVN (n : Nat) : Fld := ⟨0x62058 + 0x4 * n, 8, 8⟩
abbrev F.UPDATE_SLOT_MAJ_MIN (n : Nat) : Fld := ⟨0x62058 + 0x4 * n, 16, 16⟩
abbrev A.UPDATE_VER (n : Nat) : Nat := 0x62060 + 0x4 * n
abbrev F.UPDATE_VER_PATCH (n : Nat) : Fld := ⟨0x62060 + 0x4 * n, 0, 16⟩
abbrev A.UPDATE_BUILD (n : Nat) : Nat := 0x62068 + 0x4 * n
abbrev F.UPDATE_BUILD_BUILD (n : Nat) : Fld := ⟨0x62068 + 0x4 * n, 0, 32⟩
abbrev A.UPDATE_WINDOW : Nat := 0x62070
abbrev F.UPDATE_WINDOW_LEFT : Fld := ⟨0x62070, 0, 12⟩
abbrev A.UPDATE_OTP : Nat := 0x62074
abbrev F.UPDATE_OTP_FLOOR : Fld := ⟨0x62074, 0, 8⟩
abbrev F.UPDATE_OTP_REVOKED : Fld := ⟨0x62074, 8, 4⟩
abbrev A.UPDATE_BLOCKS : Nat := 0x62078
abbrev F.UPDATE_BLOCKS_RECEIVED : Fld := ⟨0x62078, 0, 13⟩
abbrev F.UPDATE_BLOCKS_EXPECTED : Fld := ⟨0x62078, 16, 13⟩
abbrev A.UPDATE_KEYSEL : Nat := 0x6207C
abbrev F.UPDATE_KEYSEL_SLOT : Fld := ⟨0x6207C, 0, 2⟩
abbrev F.UPDATE_KEYSEL_WRITE : Fld := ⟨0x6207C, 8, 1⟩
abbrev A.UPDATE_KEYDATA (n : Nat) : Nat := 0x62080 + 0x4 * n
abbrev F.UPDATE_KEYDATA_KEY (n : Nat) : Fld := ⟨0x62080 + 0x4 * n, 0, 32⟩
abbrev A.UPDATE_WIN (n : Nat) : Nat := 0x62400 + 0x4 * n
abbrev F.UPDATE_WIN_DATA (n : Nat) : Fld := ⟨0x62400 + 0x4 * n, 0, 32⟩
abbrev A.TESTMUX_STATUS : Nat := 0x7000C
abbrev F.TESTMUX_STATUS_JTAG_OPEN : Fld := ⟨0x7000C, 0, 1⟩
abbrev F.TESTMUX_STATUS_GTEST : Fld := ⟨0x7000C, 1, 1⟩
abbrev F.TESTMUX_STATUS_GRESULT : Fld := ⟨0x7000C, 4, 4⟩
abbrev A.TESTMUX_JTAG : Nat := 0x70040
abbrev F.TESTMUX_JTAG_KEY : Fld := ⟨0x70040, 0, 16⟩
abbrev F.TESTMUX_JTAG_UNLOCK : Fld := ⟨0x70040, 16, 1⟩
abbrev F.TESTMUX_JTAG_RELOCK : Fld := ⟨0x70040, 17, 1⟩
abbrev A.TESTMUX_JTAGCFG : Nat := 0x70044
abbrev F.TESTMUX_JTAGCFG_UNLOCK_MIN : Fld := ⟨0x70044, 0, 8⟩
abbrev A.TESTMUX_SVC : Nat := 0x70048
abbrev F.TESTMUX_SVC_SVC_TMO : Fld := ⟨0x70048, 0, 8⟩
abbrev A.TESTMUX_SEL (n : Nat) : Nat := 0x70050 + 0x4 * n
abbrev F.TESTMUX_SEL_SEL (n : Nat) : Fld := ⟨0x70050 + 0x4 * n, 0, 8⟩
abbrev A.TESTMUX_GTEST : Nat := 0x70060
abbrev F.TESTMUX_GTEST_PHASES : Fld := ⟨0x70060, 0, 16⟩
abbrev F.TESTMUX_GTEST_GO : Fld := ⟨0x70060, 16, 1⟩
abbrev F.TESTMUX_GTEST_GSTOP : Fld := ⟨0x70060, 17, 1⟩
abbrev A.TESTMUX_GTEST2 : Nat := 0x70064
abbrev F.TESTMUX_GTEST2_DUTY : Fld := ⟨0x70064, 0, 8⟩
abbrev F.TESTMUX_GTEST2_DUR_MS : Fld := ⟨0x70064, 16, 16⟩

end Sys2Proof.Machine
end

