-- ==== Sys2Proof/Machine/RegTable.lean ====
section
/-!
DEFINITION. The register map of R551 and of the register tables of every chapter of spec/: for each assigned page, its registers
beyond the common header with their fields (bit position, width, access code of Table 0-4, reset value and survival class of Table 0-5).
One entry stands for a repeated group (count registers, stride bytes apart).
-/
namespace Sys2Proof.Machine.RegTable
open Sys2Proof.Machine

/-- The registers of the CROWN page (R70, R71, R42, R43). -/
def pageCROWN : List RegDef :=
 [⟨"STATUS", 0x00C, 1, 4, [⟨"MISSING", 0, 8, .ro, .V, 0⟩]⟩,
  ⟨"STAGE_CTRL", 0x020, 1, 4, [⟨"CHECK", 0, 1, .wo, .V, 0⟩, ⟨"APPLY", 1, 1, .wo, .V, 0⟩, ⟨"ABORT", 2, 1, .wo, .V, 0⟩, ⟨"DISCARD_ALL", 3, 1, .wo, .V, 0⟩, ⟨"STATE", 4, 3, .ro, .V, 0⟩, ⟨"EDGE_KIND", 8, 2, .rw, .V, 0⟩, ⟨"TASK", 10, 2, .rw, .V, 0⟩, ⟨"PWM_LEAD", 16, 16, .rw, .V, 3⟩]⟩,
  ⟨"STAGE_ERR", 0x024, 1, 4, [⟨"RULE", 0, 16, .ro, .V, 0⟩, ⟨"PAGE", 16, 8, .ro, .V, 0⟩, ⟨"CAUSE", 24, 4, .ro, .V, 0⟩]⟩,
  ⟨"IDENT", 0x040, 1, 4, [⟨"VARIANT", 0, 8, .ro, .V, Config.variant⟩, ⟨"HW_REV", 8, 8, .ro, .V, Config.hwRev⟩, ⟨"PRODUCT", 16, 16, .ro, .V, 1298⟩]⟩,
  ⟨"MODE_REQ", 0x060, 1, 4, [⟨"TARGET", 0, 4, .wo, .V, 0⟩, ⟨"DORMANT", 4, 1, .wo, .V, 0⟩]⟩,
  ⟨"MODE", 0x064, 1, 4, [⟨"MODE", 0, 4, .ro, .V, 1⟩, ⟨"PREV", 4, 4, .ro, .V, 1⟩, ⟨"REQ_RESULT", 8, 4, .ro, .V, 0⟩, ⟨"DORMANT", 12, 1, .ro, .V, 0⟩, ⟨"SAFE_LATCH", 16, 1, .ro, .L, 0⟩, ⟨"SAFE_CAUSE", 24, 8, .ro, .L, 0⟩]⟩,
  ⟨"STAGE_OWNER", 0x068, 1, 4, [⟨"SESSION", 0, 8, .ro, .V, 0⟩, ⟨"SECURE", 8, 1, .ro, .V, 0⟩]⟩,
  ⟨"APPLY_AT_NS", 0x06C, 1, 4, [⟨"NS", 0, 32, .rw, .V, 0⟩]⟩,
  ⟨"APPLY_AT_SL", 0x070, 1, 4, [⟨"SEC_LO", 0, 32, .rw, .V, 0⟩]⟩,
  ⟨"APPLY_AT_SH", 0x074, 1, 4, [⟨"SEC_HI", 0, 16, .rw, .V, 0⟩]⟩]

/-- The registers of the WORLD page (R86, R88). -/
def pageWORLD : List RegDef :=
 [⟨"PAGE_SEC", 0x040, 1, 4, [⟨"ATTR0", 0, 2, .ro, .S, 0⟩, ⟨"ATTR1", 2, 2, .ro, .S, 2⟩, ⟨"ATTR2", 4, 2, .ro, .S, 0⟩, ⟨"ATTR3", 6, 2, .ro, .S, 0⟩, ⟨"ATTR4", 8, 2, .rws, .S, 1⟩, ⟨"ATTR5", 10, 2, .rws, .S, 1⟩, ⟨"ATTR6", 12, 2, .ro, .S, 2⟩, ⟨"ATTR7", 14, 2, .ro, .S, 2⟩, ⟨"ATTR8", 16, 2, .rws, .S, 1⟩, ⟨"ATTR9", 18, 2, .rws, .S, 1⟩, ⟨"ATTR10", 20, 2, .rws, .S, 1⟩, ⟨"ATTR11", 22, 2, .rws, .S, 1⟩, ⟨"ATTR12", 24, 2, .rws, .S, 1⟩, ⟨"ATTR13", 26, 2, .rws, .S, 1⟩, ⟨"ATTR14", 28, 2, .rws, .S, 1⟩, ⟨"ATTR15", 30, 2, .rws, .S, 1⟩]⟩,
  ⟨"PAGE_SEC", 0x044, 1, 4, [⟨"ATTR0", 0, 2, .rws, .S, 1⟩, ⟨"ATTR1", 2, 2, .rws, .S, 1⟩, ⟨"ATTR2", 4, 2, .rws, .S, 1⟩, ⟨"ATTR3", 6, 2, .ro, .S, 2⟩, ⟨"ATTR4", 8, 2, .ro, .S, 2⟩, ⟨"ATTR5", 10, 2, .ro, .S, 2⟩, ⟨"ATTR6", 12, 2, .ro, .S, 2⟩, ⟨"ATTR7", 14, 2, .ro, .S, 2⟩, ⟨"ATTR8", 16, 2, .rws, .S, 1⟩, ⟨"ATTR9", 18, 2, .rws, .S, 1⟩, ⟨"ATTR10", 20, 2, .rws, .S, 1⟩, ⟨"ATTR11", 22, 2, .rws, .S, 1⟩, ⟨"ATTR12", 24, 2, .rws, .S, 1⟩, ⟨"ATTR13", 26, 2, .rws, .S, 1⟩, ⟨"ATTR14", 28, 2, .ro, .S, 2⟩, ⟨"ATTR15", 30, 2, .ro, .S, 2⟩]⟩,
  ⟨"PAGE_SEC", 0x048, 1, 4, [⟨"ATTR0", 0, 2, .rws, .S, 1⟩, ⟨"ATTR1", 2, 2, .rws, .S, 1⟩, ⟨"ATTR2", 4, 2, .rws, .S, 1⟩, ⟨"ATTR3", 6, 2, .rws, .S, 1⟩, ⟨"ATTR4", 8, 2, .rws, .S, 1⟩, ⟨"ATTR5", 10, 2, .rws, .S, 1⟩, ⟨"ATTR6", 12, 2, .rws, .S, 1⟩, ⟨"ATTR7", 14, 2, .ro, .S, 2⟩, ⟨"ATTR8", 16, 2, .rws, .S, 1⟩, ⟨"ATTR9", 18, 2, .rws, .S, 1⟩, ⟨"ATTR10", 20, 2, .rws, .S, 1⟩, ⟨"ATTR11", 22, 2, .ro, .S, 2⟩, ⟨"ATTR12", 24, 2, .rws, .S, 1⟩, ⟨"ATTR13", 26, 2, .ro, .S, 2⟩, ⟨"ATTR14", 28, 2, .ro, .S, 2⟩, ⟨"ATTR15", 30, 2, .ro, .S, 2⟩]⟩,
  ⟨"PAGE_SEC", 0x04C, 1, 4, [⟨"ATTR0", 0, 2, .rws, .S, 1⟩, ⟨"ATTR1", 2, 2, .ro, .S, 2⟩, ⟨"ATTR2", 4, 2, .ro, .S, 2⟩, ⟨"ATTR3", 6, 2, .rws, .S, 1⟩, ⟨"ATTR4", 8, 2, .rws, .S, 1⟩, ⟨"ATTR5", 10, 2, .ro, .S, 2⟩, ⟨"ATTR6", 12, 2, .ro, .S, 2⟩, ⟨"ATTR7", 14, 2, .ro, .S, 2⟩, ⟨"ATTR8", 16, 2, .ro, .S, 2⟩, ⟨"ATTR9", 18, 2, .ro, .S, 2⟩, ⟨"ATTR10", 20, 2, .ro, .S, 2⟩, ⟨"ATTR11", 22, 2, .ro, .S, 2⟩, ⟨"ATTR12", 24, 2, .ro, .S, 2⟩, ⟨"ATTR13", 26, 2, .ro, .S, 2⟩, ⟨"ATTR14", 28, 2, .ro, .S, 2⟩, ⟨"ATTR15", 30, 2, .ro, .S, 2⟩]⟩,
  ⟨"PAGE_SEC", 0x050, 1, 4, [⟨"ATTR0", 0, 2, .rws, .S, 1⟩, ⟨"ATTR1", 2, 2, .rws, .S, 1⟩, ⟨"ATTR2", 4, 2, .rws, .S, 1⟩, ⟨"ATTR3", 6, 2, .ro, .S, 2⟩, ⟨"ATTR4", 8, 2, .ro, .S, 2⟩, ⟨"ATTR5", 10, 2, .ro, .S, 2⟩, ⟨"ATTR6", 12, 2, .ro, .S, 2⟩, ⟨"ATTR7", 14, 2, .ro, .S, 2⟩, ⟨"ATTR8", 16, 2, .rws, .S, 1⟩, ⟨"ATTR9", 18, 2, .rws, .S, 1⟩, ⟨"ATTR10", 20, 2, .rws, .S, 1⟩, ⟨"ATTR11", 22, 2, .ro, .S, 2⟩, ⟨"ATTR12", 24, 2, .ro, .S, 2⟩, ⟨"ATTR13", 26, 2, .ro, .S, 2⟩, ⟨"ATTR14", 28, 2, .ro, .S, 2⟩, ⟨"ATTR15", 30, 2, .ro, .S, 2⟩]⟩,
  ⟨"PAGE_SEC", 0x054, 1, 4, [⟨"ATTR0", 0, 2, .rws, .S, 1⟩, ⟨"ATTR1", 2, 2, .rws, .S, 1⟩, ⟨"ATTR2", 4, 2, .rws, .S, 1⟩, ⟨"ATTR3", 6, 2, .rws, .S, 1⟩, ⟨"ATTR4", 8, 2, .ro, .S, 2⟩, ⟨"ATTR5", 10, 2, .ro, .S, 2⟩, ⟨"ATTR6", 12, 2, .ro, .S, 2⟩, ⟨"ATTR7", 14, 2, .ro, .S, 2⟩, ⟨"ATTR8", 16, 2, .rws, .S, 1⟩, ⟨"ATTR9", 18, 2, .rws, .S, 1⟩, ⟨"ATTR10", 20, 2, .ro, .S, 2⟩, ⟨"ATTR11", 22, 2, .ro, .S, 2⟩, ⟨"ATTR12", 24, 2, .ro, .S, 2⟩, ⟨"ATTR13", 26, 2, .ro, .S, 2⟩, ⟨"ATTR14", 28, 2, .ro, .S, 2⟩, ⟨"ATTR15", 30, 2, .ro, .S, 2⟩]⟩,
  ⟨"PAGE_SEC", 0x058, 1, 4, [⟨"ATTR0", 0, 2, .rws, .S, 1⟩, ⟨"ATTR1", 2, 2, .rws, .S, 1⟩, ⟨"ATTR2", 4, 2, .ro, .S, 2⟩, ⟨"ATTR3", 6, 2, .ro, .S, 2⟩, ⟨"ATTR4", 8, 2, .ro, .S, 2⟩, ⟨"ATTR5", 10, 2, .ro, .S, 2⟩, ⟨"ATTR6", 12, 2, .ro, .S, 2⟩, ⟨"ATTR7", 14, 2, .ro, .S, 2⟩, ⟨"ATTR8", 16, 2, .ro, .S, 2⟩, ⟨"ATTR9", 18, 2, .ro, .S, 2⟩, ⟨"ATTR10", 20, 2, .ro, .S, 2⟩, ⟨"ATTR11", 22, 2, .ro, .S, 2⟩, ⟨"ATTR12", 24, 2, .ro, .S, 2⟩, ⟨"ATTR13", 26, 2, .ro, .S, 2⟩, ⟨"ATTR14", 28, 2, .ro, .S, 2⟩, ⟨"ATTR15", 30, 2, .ro, .S, 2⟩]⟩,
  ⟨"PAGE_SEC", 0x05C, 9, 4, [⟨"ATTR0", 0, 2, .ro, .S, 2⟩, ⟨"ATTR1", 2, 2, .ro, .S, 2⟩, ⟨"ATTR2", 4, 2, .ro, .S, 2⟩, ⟨"ATTR3", 6, 2, .ro, .S, 2⟩, ⟨"ATTR4", 8, 2, .ro, .S, 2⟩, ⟨"ATTR5", 10, 2, .ro, .S, 2⟩, ⟨"ATTR6", 12, 2, .ro, .S, 2⟩, ⟨"ATTR7", 14, 2, .ro, .S, 2⟩, ⟨"ATTR8", 16, 2, .ro, .S, 2⟩, ⟨"ATTR9", 18, 2, .ro, .S, 2⟩, ⟨"ATTR10", 20, 2, .ro, .S, 2⟩, ⟨"ATTR11", 22, 2, .ro, .S, 2⟩, ⟨"ATTR12", 24, 2, .ro, .S, 2⟩, ⟨"ATTR13", 26, 2, .ro, .S, 2⟩, ⟨"ATTR14", 28, 2, .ro, .S, 2⟩, ⟨"ATTR15", 30, 2, .ro, .S, 2⟩]⟩,
  ⟨"BASE", 0x080, 16, 8, [⟨"MEM", 0, 4, .rws, .S, 0⟩, ⟨"START", 12, 18, .rws, .S, 0⟩]⟩,
  ⟨"SPAN", 0x084, 16, 8, [⟨"SIZE", 0, 15, .rws, .S, 0⟩, ⟨"ATTR", 16, 2, .rws, .S, 2⟩]⟩,
  ⟨"COMMIT", 0x100, 1, 4, [⟨"KEY", 0, 16, .wo, .V, 0⟩, ⟨"GO", 16, 1, .wo, .V, 0⟩]⟩,
  ⟨"COMMIT_STAT", 0x104, 1, 4, [⟨"STATE", 0, 3, .ro, .V, 0⟩, ⟨"LOCKED", 3, 1, .ro, .L, 0⟩, ⟨"COUNT", 16, 16, .ro, .L, 0⟩]⟩,
  ⟨"XW_COUNT", 0x108, 1, 4, [⟨"COUNT", 0, 32, .ro, .K, 0⟩]⟩,
  ⟨"XW_LAST", 0x10C, 1, 4, [⟨"ADDR", 0, 20, .ro, .V, 0⟩, ⟨"WRITE", 20, 1, .ro, .V, 0⟩, ⟨"SESSION", 24, 8, .ro, .V, 0⟩]⟩]

/-- The registers of the SUPPLY page (R556). -/
def pageSUPPLY : List RegDef :=
 [⟨"STATUS", 0x00C, 1, 4, [⟨"VAUX_OK", 0, 1, .ro, .V, 0⟩, ⟨"BANK_OK", 1, 1, .ro, .V, 0⟩, ⟨"BANK_RESERVE", 2, 1, .ro, .V, 0⟩, ⟨"SDS_AVAIL", 3, 1, .ro, .V, 0⟩, ⟨"SDS_ACTIVE", 4, 1, .ro, .V, 0⟩, ⟨"HOLD_ACTIVE", 5, 1, .ro, .V, 0⟩]⟩,
  ⟨"HOLD_CFG", 0x040, 1, 4, [⟨"HOLD_MAX", 0, 6, .rws, .S, 20⟩, ⟨"SDS_EN", 8, 1, .rws, .S, 0⟩]⟩,
  ⟨"VOLTS", 0x044, 1, 4, [⟨"VAUX", 0, 16, .ro, .V, 0⟩, ⟨"BANK", 16, 16, .ro, .V, 0⟩]⟩]

/-- The registers of the RESET page (R50). -/
def pageRESET : List RegDef :=
 [⟨"CAUSE", 0x040, 1, 4, [⟨"KIND", 0, 3, .ro, .V, 0⟩, ⟨"FROM_HOLD", 3, 1, .ro, .V, 0⟩, ⟨"FROM_TRANSPORT", 4, 1, .ro, .V, 0⟩, ⟨"REFUSED", 5, 1, .w1c, .V, 0⟩, ⟨"COUNT", 16, 16, .ro, .K, 0⟩]⟩,
  ⟨"CMD", 0x044, 1, 4, [⟨"KEY", 0, 16, .wo, .V, 0⟩, ⟨"ACTION", 16, 2, .wo, .V, 0⟩]⟩]

/-- The registers of the CLOCK page (R427). -/
def pageCLOCK : List RegDef :=
 [⟨"STATUS", 0x00C, 1, 4, [⟨"RUN", 0, 14, .ro, .V, 0⟩, ⟨"LOCK", 16, 3, .ro, .V, 0⟩, ⟨"CD10_DIV2", 19, 1, .ro, .V, 0⟩]⟩,
  ⟨"CFG", 0x040, 1, 4, [⟨"AON_WAKE_S", 0, 16, .rws, .S, 0⟩, ⟨"MON_PCT", 16, 3, .rws, .S, 1⟩]⟩,
  ⟨"WAKE", 0x044, 1, 4, [⟨"CAUSE", 0, 4, .ro, .V, 0⟩]⟩,
  ⟨"XSTAT", 0x048, 1, 4, [⟨"MERGED", 0, 16, .ro, .K, 0⟩, ⟨"WAKES", 16, 16, .ro, .K, 0⟩]⟩,
  ⟨"MONFAIL", 0x04C, 1, 4, [⟨"DOMAINS", 0, 14, .ro, .V, 0⟩]⟩,
  ⟨"FREQ", 0x080, 14, 4, [⟨"HZ", 0, 32, .ro, .V, 0⟩]⟩]

/-- The registers of the HOST page (R108). -/
def pageHOST : List RegDef :=
 [⟨"CFG", 0x040, 1, 4, [⟨"NS_OPEN", 0, 1, .rws, .S, 1⟩, ⟨"IRQ_EN", 1, 1, .rws, .S, 0⟩]⟩,
  ⟨"SESS", 0x044, 1, 4, [⟨"SECURE", 0, 1, .ro, .V, 0⟩]⟩,
  ⟨"SEQ", 0x048, 1, 4, [⟨"SEQ", 0, 32, .ro, .V, 0⟩]⟩,
  ⟨"LAST_ERR", 0x04C, 1, 4, [⟨"CODE", 0, 8, .ro, .V, 0⟩, ⟨"ADDR", 8, 20, .ro, .V, 0⟩]⟩,
  ⟨"EVT_SUM", 0x060, 8, 4, [⟨"PAGES", 0, 32, .ro, .V, 0⟩]⟩]

/-- The registers of the BOUGH page (R413). -/
def pageBOUGH : List RegDef :=
 [⟨"STATUS", 0x00C, 1, 4, [⟨"IN_SERVICE", 0, 8, .ro, .V, 0⟩, ⟨"LAGGARD", 8, 8, .ro, .V, 0⟩, ⟨"RETIRED", 16, 8, .ro, .V, 0⟩, ⟨"PERMANENT", 24, 8, .ro, .K, 0⟩]⟩,
  ⟨"ENG_0", 0x040, 8, 16, [⟨"STATE", 0, 3, .ro, .V, 0⟩, ⟨"DEPTH", 8, 8, .ro, .V, 0⟩, ⟨"RATE", 16, 16, .ro, .V, 0⟩]⟩,
  ⟨"ENG_4", 0x044, 8, 16, [⟨"ITEMS", 0, 32, .ro, .K, 0⟩]⟩,
  ⟨"ENG_8", 0x048, 8, 16, [⟨"LAG_RUN", 0, 16, .ro, .V, 0⟩, ⟨"TIMEOUTS", 16, 16, .ro, .K, 0⟩]⟩,
  ⟨"ENG_C", 0x04C, 8, 16, [⟨"RETIRES", 0, 8, .ro, .K, 0⟩, ⟨"LAST_FAIL", 8, 8, .ro, .V, 0⟩, ⟨"TESTS", 16, 16, .ro, .K, 0⟩]⟩,
  ⟨"ECC", 0x0C0, 1, 4, [⟨"CE", 0, 16, .ro, .K, 0⟩, ⟨"UE", 16, 16, .ro, .K, 0⟩]⟩,
  ⟨"MEDIAN", 0x0C4, 1, 4, [⟨"MEDIAN", 0, 16, .ro, .V, 0⟩]⟩]

/-- The registers of the SCHED page (R414). -/
def pageSCHED : List RegDef :=
 [⟨"STATUS", 0x00C, 1, 4, [⟨"IN_SERVICE", 0, 7, .ro, .V, 0⟩, ⟨"LAGGARDS", 8, 6, .ro, .V, 0⟩, ⟨"OUT", 16, 6, .ro, .V, 0⟩, ⟨"CROWN_ENG", 24, 6, .ro, .V, 0⟩]⟩,
  ⟨"CFG", 0x040, 1, 4, [⟨"TEST_S", 0, 6, .rws, .S, 10⟩, ⟨"REJOIN_S", 8, 12, .rws, .S, 60⟩, ⟨"RETIRE_MAX", 24, 4, .rws, .S, 3⟩]⟩,
  ⟨"GRAFTS", 0x044, 1, 4, [⟨"COUNT", 0, 32, .ro, .K, 0⟩]⟩,
  ⟨"STEALS", 0x048, 1, 4, [⟨"LOCAL", 0, 16, .ro, .K, 0⟩, ⟨"REMOTE", 16, 16, .ro, .K, 0⟩]⟩,
  ⟨"STALE", 0x04C, 1, 4, [⟨"COUNT", 0, 32, .ro, .K, 0⟩]⟩,
  ⟨"TMO", 0x050, 1, 4, [⟨"ITEM_TMO", 0, 16, .ro, .K, 0⟩, ⟨"SA_VOID", 16, 16, .ro, .K, 0⟩]⟩,
  ⟨"CROWN_ECC", 0x054, 1, 4, [⟨"CE", 0, 16, .ro, .K, 0⟩, ⟨"UE", 16, 16, .ro, .K, 0⟩]⟩,
  ⟨"LANE", 0x060, 7, 4, [⟨"WAITING", 0, 16, .ro, .V, 0⟩, ⟨"PEAK", 16, 16, .ro, .K, 0⟩]⟩]

/-- The registers of the QUEUE page (R415). -/
def pageQUEUE : List RegDef :=
 [⟨"QCFG", 0x040, 1, 4, [⟨"SIZE_KIB", 0, 13, .rws, .S, 1024⟩, ⟨"HOLD", 16, 1, .rws, .S, 0⟩]⟩,
  ⟨"QCFG", 0x044, 1, 4, [⟨"SIZE_KIB", 0, 13, .rws, .S, 512⟩, ⟨"HOLD", 16, 1, .rws, .S, 0⟩]⟩,
  ⟨"QCFG", 0x048, 1, 4, [⟨"SIZE_KIB", 0, 13, .rws, .S, 64⟩, ⟨"HOLD", 16, 1, .rws, .S, 1⟩]⟩,
  ⟨"QCFG", 0x04C, 1, 4, [⟨"SIZE_KIB", 0, 13, .rws, .S, 512⟩, ⟨"HOLD", 16, 1, .rws, .S, 0⟩]⟩,
  ⟨"QCFG", 0x050, 4, 4, [⟨"SIZE_KIB", 0, 13, .rws, .S, 64⟩, ⟨"HOLD", 16, 1, .rws, .S, 0⟩]⟩,
  ⟨"QCFG", 0x060, 4, 4, [⟨"SIZE_KIB", 0, 13, .rws, .S, 32⟩, ⟨"HOLD", 16, 1, .rws, .S, 0⟩]⟩,
  ⟨"QCFG", 0x070, 1, 4, [⟨"SIZE_KIB", 0, 13, .rws, .S, 256⟩, ⟨"HOLD", 16, 1, .rws, .S, 0⟩]⟩,
  ⟨"QCFG", 0x074, 1, 4, [⟨"SIZE_KIB", 0, 13, .rws, .S, 64⟩, ⟨"HOLD", 16, 1, .rws, .S, 0⟩]⟩,
  ⟨"QCFG", 0x078, 18, 4, [⟨"SIZE_KIB", 0, 13, .rws, .S, 0⟩, ⟨"HOLD", 16, 1, .rws, .S, 0⟩]⟩,
  ⟨"QSTAT", 0x100, 128, 4, [⟨"FILL", 0, 16, .ro, .V, 0⟩, ⟨"PEAK", 16, 16, .ro, .K, 0⟩]⟩,
  ⟨"DROP", 0x300, 32, 4, [⟨"DROPPED", 0, 32, .ro, .K, 0⟩]⟩]

/-- The registers of the QUEUE2 page (R416). -/
def pageQUEUE2 : List RegDef :=
 [⟨"RSEL", 0x040, 1, 4, [⟨"RING", 0, 5, .rw, .V, 0⟩]⟩,
  ⟨"ROFS", 0x044, 1, 4, [⟨"OFS", 0, 16, .rw, .V, 0⟩]⟩,
  ⟨"RPOP", 0x048, 1, 4, [⟨"POP", 0, 1, .wo, .V, 0⟩]⟩,
  ⟨"RESEQ", 0x04C, 1, 4, [⟨"ESEQ", 0, 32, .ro, .V, 0⟩]⟩,
  ⟨"RSTAT", 0x050, 1, 4, [⟨"LEN", 0, 16, .ro, .V, 0⟩, ⟨"VALID", 16, 1, .ro, .V, 0⟩, ⟨"OVERRUN", 17, 1, .w1c, .V, 0⟩, ⟨"TORN", 18, 1, .w1c, .V, 0⟩]⟩,
  ⟨"RLOST", 0x054, 1, 4, [⟨"LOST", 0, 32, .ro, .K, 0⟩]⟩,
  ⟨"WIN", 0x400, 256, 4, [⟨"DATA", 0, 32, .ro, .V, 0⟩]⟩]

/-- The registers of the RING page (R137). -/
def pageRING : List RegDef :=
 [⟨"STATUS", 0x00C, 1, 4, [⟨"STATE", 0, 3, .ro, .V, 0⟩, ⟨"DOWN_PORT", 3, 1, .ro, .V, 0⟩, ⟨"LINK_A", 4, 1, .ro, .V, 0⟩, ⟨"LINK_B", 5, 1, .ro, .V, 0⟩, ⟨"FOUND", 8, 6, .ro, .V, 0⟩, ⟨"BREAK_LO", 16, 6, .ro, .V, 63⟩, ⟨"BREAK_HI", 24, 6, .ro, .V, 63⟩, ⟨"FOREIGN", 30, 1, .ro, .V, 0⟩, ⟨"CONFLICT", 31, 1, .ro, .V, 0⟩]⟩,
  ⟨"CMD", 0x040, 1, 4, [⟨"ENUMERATE", 0, 1, .wo, .V, 0⟩, ⟨"MEASURE", 1, 1, .wo, .V, 0⟩, ⟨"CLR_ERR", 2, 1, .wo, .V, 0⟩]⟩,
  ⟨"CFG", 0x044, 1, 4, [⟨"NODE_COUNT", 0, 6, .rws, .S, 1⟩, ⟨"TOPOLOGY", 8, 1, .rws, .S, 0⟩, ⟨"KEEPALIVE_MS", 16, 7, .rws, .S, 10⟩, ⟨"DELAY_PERIOD", 24, 4, .rws, .S, 10⟩]⟩,
  ⟨"TIME", 0x048, 1, 4, [⟨"LOOP_NS", 0, 16, .ro, .V, 0⟩, ⟨"APERTURE_C", 16, 16, .ro, .V, 0⟩]⟩,
  ⟨"ERRA", 0x050, 1, 4, [⟨"CRC_ERR", 0, 16, .ro, .K, 0⟩, ⟨"CODE_ERR", 16, 16, .ro, .K, 0⟩]⟩,
  ⟨"ERRB", 0x054, 1, 4, [⟨"ALL", 0, 32, .ro, .K, 0⟩]⟩,
  ⟨"DELAY", 0x080, 32, 4, [⟨"D_DOWN", 0, 16, .ro, .V, 65535⟩, ⟨"D_UP", 16, 16, .ro, .V, 65535⟩]⟩,
  ⟨"NODEID", 0x100, 32, 4, [⟨"TYPE", 0, 8, .ro, .V, 0⟩, ⟨"CELLS", 8, 5, .ro, .V, 0⟩, ⟨"FW_VER", 16, 16, .ro, .V, 0⟩]⟩]

/-- The registers of the HARVEST page (R159). -/
def pageHARVEST : List RegDef :=
 [⟨"STATUS", 0x00C, 1, 4, [⟨"RUNNING", 0, 1, .ro, .V, 0⟩, ⟨"LAST_KIND", 1, 3, .ro, .V, 0⟩, ⟨"FAST_T", 4, 1, .ro, .V, 0⟩, ⟨"PARTIAL", 5, 1, .ro, .V, 0⟩]⟩,
  ⟨"CMD", 0x040, 1, 4, [⟨"ONESHOT", 0, 3, .wo, .V, 0⟩]⟩,
  ⟨"CFG", 0x044, 1, 4, [⟨"DIV", 0, 16, .rws, .S, 10⟩, ⟨"V_EN", 16, 1, .rws, .S, 1⟩, ⟨"C_EN", 17, 1, .rws, .S, 1⟩, ⟨"C_EVERY", 18, 8, .rws, .S, 4⟩]⟩,
  ⟨"POINT", 0x048, 1, 4, [⟨"POINT", 0, 16, .rws, .S, 0⟩]⟩,
  ⟨"TCFG", 0x04C, 1, 4, [⟨"T_NORM", 0, 8, .rws, .S, 10⟩, ⟨"T_FAST", 8, 8, .rws, .S, 1⟩, ⟨"NEAR_K", 16, 8, .rws, .S, 5⟩]⟩,
  ⟨"SEQ", 0x050, 1, 4, [⟨"HSEQ", 0, 32, .ro, .K, 0⟩]⟩,
  ⟨"APER", 0x054, 1, 4, [⟨"NS", 0, 32, .ro, .V, 0⟩]⟩,
  ⟨"STAT", 0x060, 1, 4, [⟨"PARTIAL_CNT", 0, 16, .ro, .K, 0⟩, ⟨"MISSED", 16, 16, .ro, .K, 0⟩]⟩,
  ⟨"STAT2", 0x064, 1, 4, [⟨"RESENT", 0, 16, .ro, .K, 0⟩, ⟨"DROPPED", 16, 16, .ro, .K, 0⟩]⟩]

/-- The registers of the CELLV page (R160). -/
def pageCELLV : List RegDef :=
 [⟨"SNAP", 0x040, 1, 4, [⟨"FREEZE", 0, 1, .rw, .V, 0⟩]⟩,
  ⟨"SEQ", 0x044, 1, 4, [⟨"HSEQ", 0, 32, .ro, .V, 0⟩]⟩,
  ⟨"V", 0x080, 256, 4, [⟨"CELL_LO", 0, 16, .ro, .V, 65535⟩, ⟨"CELL_HI", 16, 16, .ro, .V, 65535⟩]⟩,
  ⟨"STACK", 0x480, 16, 4, [⟨"NODE_LO", 0, 16, .ro, .V, 65535⟩, ⟨"NODE_HI", 16, 16, .ro, .V, 65535⟩]⟩,
  ⟨"STRING", 0x4C0, 1, 4, [⟨"V_STRING", 0, 32, .ro, .V, 0⟩]⟩,
  ⟨"BUS", 0x4C4, 1, 4, [⟨"V_BUS", 0, 32, .ro, .V, 0⟩]⟩,
  ⟨"CURRENT", 0x4C8, 1, 4, [⟨"I_STRING", 0, 32, .ro, .V, 0⟩]⟩]

/-- The registers of the NODE page (R161). -/
def pageNODE : List RegDef :=
 [⟨"STATUS", 0x00C, 1, 4, [⟨"LOOP_CLOSED", 0, 1, .ro, .V, 0⟩, ⟨"BYPASS", 1, 1, .ro, .V, 0⟩, ⟨"LOOP_MA", 8, 8, .ro, .V, 0⟩]⟩,
  ⟨"NCFG", 0x040, 32, 4, [⟨"CELLS", 0, 5, .rws, .S, 16⟩, ⟨"TCH", 8, 4, .rws, .S, 8⟩]⟩,
  ⟨"THR", 0x0C0, 1, 4, [⟨"OV_MV", 0, 16, .rws, .S, 4250⟩, ⟨"UV_MV", 16, 16, .rws, .S, 2500⟩]⟩,
  ⟨"THR2", 0x0C4, 1, 4, [⟨"DEGLITCH_US", 0, 8, .rws, .S, 10⟩]⟩,
  ⟨"TEMP", 0x100, 144, 4, [⟨"ENTRY_LO", 0, 16, .ro, .V, 32768⟩, ⟨"ENTRY_HI", 16, 16, .ro, .V, 32768⟩]⟩,
  ⟨"NSTAT", 0x400, 32, 4, [⟨"CAUSE", 0, 3, .ro, .V, 0⟩, ⟨"THR_OK", 8, 1, .ro, .V, 0⟩, ⟨"UNSUSPENDED", 9, 1, .ro, .V, 0⟩, ⟨"MISSING", 10, 1, .ro, .V, 0⟩, ⟨"COUNT_ERR", 11, 1, .ro, .V, 0⟩]⟩]

/-- The registers of the PLAUS page (R162). -/
def pagePLAUS : List RegDef :=
 [⟨"STATUS", 0x00C, 1, 4, [⟨"PENDING", 0, 4, .ro, .V, 0⟩, ⟨"LASTING", 4, 4, .ro, .V, 0⟩, ⟨"SUSPECT_PATH", 8, 2, .ro, .V, 0⟩]⟩,
  ⟨"CFG", 0x040, 1, 4, [⟨"M_CELL", 0, 8, .rws, .S, 20⟩, ⟨"M_NODE", 8, 8, .rws, .S, 10⟩, ⟨"M_STRING", 16, 16, .rws, .S, 50⟩]⟩,
  ⟨"R_PATH", 0x044, 1, 4, [⟨"R_PATH", 0, 20, .rws, .S, 0⟩]⟩,
  ⟨"REACT", 0x048, 1, 4, [⟨"C", 0, 8, .rws, .S, 37⟩]⟩,
  ⟨"SUSPECT", 0x080, 16, 4, [⟨"CELLS", 0, 32, .ro, .V, 0⟩]⟩,
  ⟨"NSUSP", 0x0C0, 1, 4, [⟨"NODES", 0, 32, .ro, .V, 0⟩]⟩,
  ⟨"LAST", 0x0C4, 1, 4, [⟨"INDEX", 0, 9, .ro, .V, 0⟩, ⟨"CHECK", 12, 3, .ro, .V, 0⟩, ⟨"DIFF", 16, 16, .ro, .V, 0⟩]⟩]

/-- The registers of the BAL page (R175). -/
def pageBAL : List RegDef :=
 [⟨"STATUS", 0x00C, 1, 4, [⟨"ACTIVE", 0, 1, .ro, .V, 0⟩, ⟨"YIELDED", 1, 1, .ro, .V, 0⟩, ⟨"BLEEDING", 8, 8, .ro, .V, 0⟩]⟩,
  ⟨"CMD", 0x040, 1, 4, [⟨"PLAN_NOW", 0, 1, .wo, .V, 0⟩, ⟨"STOP", 1, 1, .wo, .V, 0⟩, ⟨"CLR_NFAULT", 2, 1, .wo, .V, 0⟩]⟩,
  ⟨"CFG", 0x044, 1, 4, [⟨"EN", 0, 1, .rws, .S, 0⟩, ⟨"RUN_EN", 1, 1, .rws, .S, 1⟩, ⟨"IMP_YIELD", 2, 1, .rws, .S, 1⟩, ⟨"MAX_PER_NODE", 8, 4, .rws, .S, 8⟩, ⟨"TLIM", 16, 7, .rws, .S, 85⟩]⟩,
  ⟨"PLAN", 0x048, 1, 4, [⟨"PLAN_S", 0, 12, .rws, .S, 600⟩, ⟨"DEADBAND", 16, 16, .rws, .S, 5⟩]⟩,
  ⟨"RBLEED", 0x04C, 1, 4, [⟨"RBLEED", 0, 16, .rws, .S, 0⟩]⟩,
  ⟨"LIMITS", 0x050, 1, 4, [⟨"VMIN_MV", 0, 16, .rws, .S, 3000⟩, ⟨"T_CELL_MAX", 16, 8, .rws, .S, 50⟩]⟩,
  ⟨"NFAULT", 0x054, 1, 4, [⟨"NODES", 0, 32, .ro, .K, 0⟩]⟩,
  ⟨"PLANS", 0x058, 1, 4, [⟨"COUNT", 0, 32, .ro, .K, 0⟩]⟩,
  ⟨"RUN", 0x080, 16, 4, [⟨"CELLS", 0, 32, .ro, .V, 0⟩]⟩,
  ⟨"EXCL", 0x0C0, 16, 4, [⟨"CELLS", 0, 32, .ro, .V, 0⟩]⟩,
  ⟨"ONTIME", 0x400, 256, 4, [⟨"CELL_LO", 0, 16, .ro, .V, 0⟩, ⟨"CELL_HI", 16, 16, .ro, .V, 0⟩]⟩]

/-- The registers of the PSTAGE page (R203). -/
def pagePSTAGE : List RegDef :=
 [⟨"STATUS", 0x00C, 1, 4, [⟨"N_ON", 0, 5, .ro, .V, 0⟩, ⟨"SHEDDING", 5, 1, .ro, .V, 0⟩, ⟨"SHED_LOCK", 6, 1, .ro, .V, 0⟩, ⟨"LIGHT", 7, 2, .ro, .V, 0⟩, ⟨"IMP_LOCK", 9, 1, .ro, .V, 0⟩, ⟨"GATES_LIVE", 10, 1, .ro, .V, 0⟩]⟩,
  ⟨"PERIOD", 0x044, 1, 4, [⟨"PER", 0, 16, .rws, .S, 10000⟩]⟩,
  ⟨"PHEN", 0x048, 1, 4, [⟨"EN", 0, 16, .rws, .S, 1⟩, ⟨"TYPE", 16, 16, .rws, .S, 0⟩]⟩,
  ⟨"RATING", 0x04C, 1, 4, [⟨"RATING_KW", 0, 10, .rws, .S, 0⟩]⟩,
  ⟨"SHED", 0x050, 1, 4, [⟨"SHED_EN", 0, 1, .rws, .S, 1⟩, ⟨"N_MIN", 8, 5, .rws, .S, 1⟩, ⟨"SHED_RAMP", 16, 6, .rws, .S, 8⟩]⟩,
  ⟨"SHED_I", 0x054, 1, 4, [⟨"I_SHED", 0, 16, .rws, .S, 200⟩, ⟨"I_ADD", 16, 16, .rws, .S, 250⟩]⟩,
  ⟨"SHED_T", 0x058, 1, 4, [⟨"T_SHED", 0, 16, .rws, .S, 50⟩, ⟨"SHED_HOLD", 16, 16, .rws, .S, 200⟩]⟩,
  ⟨"LIGHT", 0x05C, 1, 4, [⟨"MODE", 0, 2, .rws, .S, 0⟩, ⟨"I_DCM", 2, 14, .rws, .S, 0⟩, ⟨"T_SKIP", 16, 10, .rws, .S, 40⟩]⟩,
  ⟨"BURST", 0x060, 1, 4, [⟨"I", 0, 16, .rws, .S, 0⟩, ⟨"ON", 16, 12, .rws, .S, 4⟩]⟩,
  ⟨"BURST_TH", 0x064, 1, 4, [⟨"ENTER", 0, 16, .rws, .S, 0⟩, ⟨"EXIT", 16, 16, .rws, .S, 0⟩]⟩,
  ⟨"CBC", 0x068, 1, 4, [⟨"CBC_N", 0, 8, .rws, .S, 16⟩, ⟨"DESAT_REACT", 8, 2, .rws, .S, 2⟩]⟩,
  ⟨"RUNMASK", 0x06C, 1, 4, [⟨"RUN", 0, 16, .ro, .V, 0⟩, ⟨"FAULTMASK", 16, 16, .ro, .V, 0⟩]⟩,
  ⟨"SHEDCNT", 0x070, 1, 4, [⟨"SHEDS", 0, 16, .ro, .K, 0⟩, ⟨"CANCELS", 16, 16, .ro, .K, 0⟩]⟩]

/-- The registers of the PHASE page (R204). -/
def pagePHASE : List RegDef :=
 [⟨"CFG", 0x040, 16, 32, [⟨"DT_LH", 0, 14, .rws, .S, 1280⟩, ⟨"DT_HL", 16, 14, .rws, .S, 1280⟩]⟩,
  ⟨"PULSE", 0x044, 16, 32, [⟨"T_MIN", 0, 10, .rws, .S, 40⟩, ⟨"BLANK", 16, 10, .rws, .S, 80⟩]⟩,
  ⟨"REFRESH", 0x048, 16, 32, [⟨"REFRESH_N", 0, 8, .rws, .S, 0⟩, ⟨"T_REFRESH", 16, 10, .rws, .S, 80⟩]⟩,
  ⟨"ILIM", 0x04C, 16, 32, [⟨"POS", 0, 10, .rws, .S, 0⟩, ⟨"NEG", 16, 10, .rws, .S, 0⟩]⟩,
  ⟨"ISCALE", 0x050, 16, 32, [⟨"SCALE", 0, 16, .rws, .S, 0⟩]⟩,
  ⟨"STAT", 0x054, 16, 32, [⟨"STATE", 0, 2, .ro, .V, 0⟩, ⟨"SKIPPING", 2, 1, .ro, .V, 0⟩, ⟨"CBC_POS", 3, 1, .ro, .V, 0⟩, ⟨"CBC_NEG", 4, 1, .ro, .V, 0⟩, ⟨"FLT_OK", 5, 1, .ro, .V, 0⟩, ⟨"OFFSET", 16, 16, .ro, .V, 0⟩]⟩,
  ⟨"COUNT", 0x058, 16, 32, [⟨"CBC", 0, 16, .ro, .K, 0⟩, ⟨"SKIP", 16, 16, .ro, .K, 0⟩]⟩,
  ⟨"CMD", 0x05C, 16, 32, [⟨"CLR_FAULT", 0, 1, .wo, .V, 0⟩]⟩]

/-- The registers of the LOOP page (R229, R230). -/
def pageLOOP_0 : List RegDef :=
 [⟨"STATUS", 0x00C, 1, 4, [⟨"EVAL", 0, 1, .ro, .V, 0⟩, ⟨"SOURCE", 1, 2, .ro, .V, 0⟩, ⟨"RAMPING", 3, 1, .ro, .V, 0⟩, ⟨"AT_HI", 4, 1, .ro, .V, 0⟩, ⟨"AT_LO", 5, 1, .ro, .V, 0⟩, ⟨"PL_LASTING", 8, 3, .ro, .V, 0⟩, ⟨"PL_PENDING", 11, 3, .ro, .V, 0⟩]⟩,
  ⟨"CFG", 0x040, 1, 4, [⟨"SOURCE", 0, 2, .rws, .S, 0⟩, ⟨"OUTER_DIV", 4, 8, .rws, .S, 2⟩, ⟨"INNER_2X", 12, 1, .rws, .S, 1⟩, ⟨"PLAUS_EN", 13, 1, .rws, .S, 1⟩]⟩,
  ⟨"ILIM", 0x044, 1, 4, [⟨"I_TOT_MAX", 0, 16, .rws, .S, 6000⟩]⟩,
  ⟨"VLIM", 0x048, 1, 4, [⟨"V_STR_MAX", 0, 16, .rws, .S, 16000⟩, ⟨"V_STR_MIN", 16, 16, .rws, .S, 0⟩]⟩,
  ⟨"VBUS", 0x04C, 1, 4, [⟨"V_BUS_MAX", 0, 16, .rws, .S, 16000⟩]⟩,
  ⟨"CBUS", 0x050, 1, 4, [⟨"C_BUS", 0, 20, .rws, .S, 0⟩]⟩,
  ⟨"PLAUS", 0x054, 1, 4, [⟨"WIN", 0, 8, .rws, .S, 16⟩, ⟨"TOL_PCT", 8, 8, .rws, .S, 5⟩, ⟨"TOL_A", 16, 8, .rws, .S, 20⟩, ⟨"TOL_V", 24, 8, .rws, .S, 20⟩]⟩,
  ⟨"PREACT", 0x058, 1, 4, [⟨"M", 0, 6, .rws, .S, 25⟩]⟩,
  ⟨"LIND", 0x060, 8, 4, [⟨"L_LO", 0, 16, .rws, .S, 0⟩, ⟨"L_HI", 16, 16, .rws, .S, 0⟩]⟩,
  ⟨"ISET", 0x080, 1, 4, [⟨"I_SET", 0, 32, .ro, .V, 0⟩]⟩,
  ⟨"IHI", 0x084, 1, 4, [⟨"I_HI", 0, 32, .ro, .V, 0⟩]⟩,
  ⟨"ILO", 0x088, 1, 4, [⟨"I_LO", 0, 32, .ro, .V, 0⟩]⟩,
  ⟨"ITOT", 0x08C, 1, 4, [⟨"I_TOT", 0, 32, .ro, .V, 0⟩]⟩,
  ⟨"STIM", 0x090, 1, 4, [⟨"STIM", 0, 32, .ro, .V, 0⟩]⟩,
  ⟨"LATE", 0x094, 1, 4, [⟨"COUNT", 0, 16, .ro, .K, 0⟩]⟩,
  ⟨"PLAST", 0x098, 1, 4, [⟨"MODEL", 0, 2, .ro, .V, 0⟩, ⟨"PHASE", 4, 4, .ro, .V, 0⟩, ⟨"RESID", 16, 16, .ro, .V, 0⟩]⟩,
  ⟨"ICFG", 0x100, 16, 64, [⟨"EN", 0, 1, .rws, .S, 1⟩, ⟨"TYPE", 1, 1, .rws, .S, 0⟩, ⟨"FF", 2, 1, .rws, .S, 0⟩]⟩,
  ⟨"ICFG", 0x500, 1, 64, [⟨"EN", 0, 1, .rws, .S, 1⟩, ⟨"TYPE", 1, 1, .rws, .S, 0⟩, ⟨"FF", 2, 1, .rws, .S, 1⟩]⟩,
  ⟨"ICFG", 0x540, 1, 64, [⟨"EN", 0, 1, .rws, .S, 0⟩, ⟨"TYPE", 1, 1, .rws, .S, 0⟩, ⟨"FF", 2, 1, .rws, .S, 0⟩]⟩,
  ⟨"ICFG", 0x580, 4, 64, [⟨"EN", 0, 1, .rws, .S, 1⟩, ⟨"TYPE", 1, 1, .rws, .S, 0⟩, ⟨"FF", 2, 1, .rws, .S, 0⟩]⟩,
  ⟨"ICFG", 0x680, 2, 64, [⟨"EN", 0, 1, .rws, .S, 0⟩, ⟨"TYPE", 1, 1, .rws, .S, 0⟩, ⟨"FF", 2, 1, .rws, .S, 0⟩]⟩,
  ⟨"K0", 0x104, 24, 64, [⟨"K", 0, 32, .rws, .S, 0⟩]⟩,
  ⟨"K1", 0x108, 24, 64, [⟨"K", 0, 32, .rws, .S, 0⟩]⟩,
  ⟨"K2", 0x10C, 24, 64, [⟨"K", 0, 32, .rws, .S, 0⟩]⟩]

def pageLOOP_1 : List RegDef :=
 [⟨"K3", 0x110, 24, 64, [⟨"K", 0, 32, .rws, .S, 0⟩]⟩,
  ⟨"K4", 0x114, 24, 64, [⟨"K", 0, 32, .rws, .S, 0⟩]⟩,
  ⟨"K5", 0x118, 24, 64, [⟨"K", 0, 32, .rws, .S, 0⟩]⟩,
  ⟨"SHIFTA", 0x11C, 24, 64, [⟨"SH0", 0, 6, .rws, .S, 0⟩, ⟨"SH1", 8, 6, .rws, .S, 0⟩, ⟨"SH2", 16, 6, .rws, .S, 0⟩, ⟨"SH3", 24, 6, .rws, .S, 0⟩]⟩,
  ⟨"SHIFTB", 0x120, 24, 64, [⟨"SH4", 0, 6, .rws, .S, 0⟩, ⟨"SH5", 8, 6, .rws, .S, 0⟩]⟩,
  ⟨"OMIN", 0x124, 24, 64, [⟨"OMIN", 0, 32, .rws, .S, 2147483648⟩]⟩,
  ⟨"OMAX", 0x128, 24, 64, [⟨"OMAX", 0, 32, .rws, .S, 2147483647⟩]⟩,
  ⟨"RAMP", 0x12C, 24, 64, [⟨"RAMP", 0, 32, .rws, .S, 0⟩]⟩,
  ⟨"ISLO", 0x130, 24, 64, [⟨"IS_LO", 0, 32, .ro, .V, 0⟩]⟩,
  ⟨"ISHI", 0x134, 24, 64, [⟨"IS_HI", 0, 16, .ro, .V, 0⟩]⟩,
  ⟨"OUT", 0x138, 24, 64, [⟨"OUT", 0, 32, .ro, .V, 0⟩]⟩,
  ⟨"ISTAT", 0x13C, 24, 64, [⟨"SAT", 0, 2, .ro, .V, 0⟩, ⟨"FROZEN", 2, 1, .ro, .V, 0⟩, ⟨"ACTIVE", 3, 1, .ro, .V, 0⟩, ⟨"SATCNT", 16, 16, .ro, .K, 0⟩]⟩]

def pageLOOP : List RegDef := pageLOOP_0 ++ pageLOOP_1

/-- The registers of the TRACK page (R246). -/
def pageTRACK : List RegDef :=
 [⟨"STATUS", 0x00C, 1, 4, [⟨"STEP", 0, 4, .ro, .V, 0⟩, ⟨"RETRY", 4, 1, .ro, .V, 0⟩, ⟨"MATCHED", 5, 1, .ro, .V, 0⟩, ⟨"FORMING", 6, 1, .ro, .V, 0⟩, ⟨"ABORT", 8, 4, .ro, .V, 0⟩]⟩,
  ⟨"CFG", 0x040, 1, 4, [⟨"LAW", 0, 1, .rws, .S, 0⟩, ⟨"START_TB", 1, 1, .rws, .S, 0⟩, ⟨"FORM_EN", 2, 1, .rws, .S, 0⟩, ⟨"SHUT_EN", 3, 1, .rws, .S, 0⟩]⟩,
  ⟨"MATCH", 0x044, 1, 4, [⟨"MATCH_V", 0, 10, .rws, .S, 50⟩, ⟨"MATCH_T", 16, 10, .rws, .S, 10⟩]⟩,
  ⟨"ERR", 0x048, 1, 4, [⟨"ERR_V", 0, 16, .rws, .S, 500⟩, ⟨"ERR_T", 16, 16, .rws, .S, 20⟩]⟩,
  ⟨"TIMES", 0x04C, 1, 4, [⟨"T_TRACK", 0, 16, .rws, .S, 200⟩, ⟨"MEET_MAX", 16, 16, .rws, .S, 100⟩]⟩,
  ⟨"PRE", 0x050, 1, 4, [⟨"R_PRE", 0, 16, .rws, .S, 0⟩, ⟨"C_STR", 16, 16, .rws, .S, 0⟩]⟩,
  ⟨"PRE2", 0x054, 1, 4, [⟨"I_END", 0, 16, .rws, .S, 20⟩, ⟨"RETRY_WAIT", 16, 16, .rws, .S, 1000⟩]⟩,
  ⟨"START_AT_NS", 0x058, 1, 4, [⟨"NS", 0, 32, .rw, .V, 0⟩]⟩,
  ⟨"START_AT_SEC_LO", 0x05C, 1, 4, [⟨"SEC_LO", 0, 32, .rw, .V, 0⟩]⟩,
  ⟨"START_AT_SEC_HI", 0x060, 1, 4, [⟨"SEC_HI", 0, 16, .rw, .V, 0⟩]⟩,
  ⟨"FORM_AT_NS", 0x064, 1, 4, [⟨"NS", 0, 32, .rw, .V, 0⟩]⟩,
  ⟨"FORM_AT_SEC_LO", 0x068, 1, 4, [⟨"SEC_LO", 0, 32, .rw, .V, 0⟩]⟩,
  ⟨"FORM_AT_SEC_HI", 0x06C, 1, 4, [⟨"SEC_HI", 0, 16, .rw, .V, 0⟩]⟩,
  ⟨"FORM", 0x070, 1, 4, [⟨"V_TGT", 0, 16, .rws, .S, 0⟩, ⟨"T_FORM", 16, 16, .rws, .S, 1000⟩]⟩,
  ⟨"DROOP", 0x074, 1, 4, [⟨"DROOP", 0, 16, .rws, .S, 0⟩]⟩,
  ⟨"SHUT", 0x078, 1, 4, [⟨"V_SHUT", 0, 16, .rws, .S, 0⟩]⟩,
  ⟨"VLINK", 0x080, 1, 4, [⟨"V_LINK", 0, 32, .ro, .V, 0⟩]⟩,
  ⟨"VPLANT", 0x084, 1, 4, [⟨"V_PLANT", 0, 32, .ro, .V, 0⟩]⟩,
  ⟨"REF", 0x088, 1, 4, [⟨"R18", 0, 32, .ro, .V, 0⟩]⟩,
  ⟨"ERRV", 0x08C, 1, 4, [⟨"E_TRK", 0, 32, .ro, .V, 0⟩]⟩,
  ⟨"STARTS", 0x090, 1, 4, [⟨"STARTS", 0, 16, .ro, .K, 0⟩, ⟨"ABORTS", 16, 16, .ro, .K, 0⟩]⟩,
  ⟨"PRECHG", 0x094, 1, 4, [⟨"T_PRE", 0, 16, .ro, .V, 0⟩, ⟨"I_PEAK", 16, 16, .ro, .V, 0⟩]⟩]

/-- The registers of the CONTACT page (R247). -/
def pageCONTACT : List RegDef :=
 [⟨"STATUS", 0x00C, 1, 4, [⟨"DRIVE", 0, 6, .ro, .V, 0⟩, ⟨"FB", 8, 6, .ro, .V, 0⟩, ⟨"WELD", 16, 6, .ro, .L, 0⟩, ⟨"FB_FAULT", 24, 6, .ro, .V, 0⟩, ⟨"VCOIL_LOW", 30, 1, .ro, .V, 0⟩]⟩,
  ⟨"CMD", 0x040, 1, 4, [⟨"K6_ON", 0, 1, .wo, .V, 0⟩, ⟨"K6_OFF", 1, 1, .wo, .V, 0⟩, ⟨"CLR_WELD", 2, 1, .wo, .V, 0⟩]⟩,
  ⟨"CFG", 0x044, 1, 4, [⟨"FITTED", 0, 6, .rws, .S, 31⟩, ⟨"FB_INV", 8, 6, .rws, .S, 0⟩, ⟨"VCOIL_MIN", 16, 16, .rws, .S, 1800⟩]⟩,
  ⟨"COIL", 0x048, 6, 4, [⟨"PULL_MS", 0, 10, .rws, .S, 100⟩, ⟨"HOLD_V", 16, 8, .rws, .S, 60⟩]⟩,
  ⟨"FBT", 0x060, 1, 4, [⟨"FB_CLOSE_MAX", 0, 8, .rws, .S, 50⟩, ⟨"FB_OPEN_MAX", 8, 8, .rws, .S, 50⟩, ⟨"DEBOUNCE", 16, 8, .rws, .S, 5⟩]⟩,
  ⟨"OPEN", 0x064, 1, 4, [⟨"I_OPEN", 0, 16, .rws, .S, 50⟩]⟩,
  ⟨"VCOIL", 0x068, 1, 4, [⟨"VCOIL", 0, 16, .ro, .V, 0⟩]⟩,
  ⟨"OPS", 0x080, 6, 4, [⟨"CLOSES", 0, 16, .ro, .L, 0⟩, ⟨"LOADED_OPENS", 16, 16, .ro, .L, 0⟩]⟩]

/-- The registers of the TELEM page (R314). -/
def pageTELEM : List RegDef :=
 [⟨"STATUS", 0x00C, 1, 4, [⟨"CNT_GAP", 0, 1, .ro, .V, 0⟩, ⟨"OVERRANGE", 1, 1, .ro, .V, 0⟩]⟩,
  ⟨"CMD", 0x040, 1, 4, [⟨"PK_CLR", 0, 6, .wo, .V, 0⟩, ⟨"CNT_RESET", 8, 1, .wo, .V, 0⟩]⟩,
  ⟨"CFG", 0x044, 1, 4, [⟨"WIN_MS", 0, 10, .rws, .S, 100⟩, ⟨"STREAM_EN", 12, 1, .rws, .S, 0⟩, ⟨"CNT_S", 16, 6, .rws, .S, 10⟩]⟩,
  ⟨"SEQ", 0x048, 1, 4, [⟨"SEQ", 0, 32, .ro, .V, 0⟩]⟩,
  ⟨"STAT", 0x04C, 1, 4, [⟨"DROPPED", 0, 32, .ro, .K, 0⟩]⟩,
  ⟨"MEAN", 0x080, 6, 32, [⟨"MEAN", 0, 32, .ro, .V, 0⟩]⟩,
  ⟨"RMS", 0x084, 6, 32, [⟨"RMS", 0, 32, .ro, .V, 0⟩]⟩,
  ⟨"MIN", 0x088, 6, 32, [⟨"MIN", 0, 32, .ro, .V, 0⟩]⟩,
  ⟨"MAX", 0x08C, 6, 32, [⟨"MAX", 0, 32, .ro, .V, 0⟩]⟩,
  ⟨"PKMAX", 0x090, 6, 32, [⟨"PK_MAX", 0, 32, .ro, .K, 2147483648⟩]⟩,
  ⟨"PKMIN", 0x094, 6, 32, [⟨"PK_MIN", 0, 32, .ro, .K, 2147483647⟩]⟩,
  ⟨"QIN_LO", 0x180, 1, 4, [⟨"Q_IN", 0, 32, .ro, .L, 0⟩]⟩,
  ⟨"QIN_HI", 0x184, 1, 4, [⟨"Q_IN", 0, 32, .ro, .L, 0⟩]⟩,
  ⟨"QOUT_LO", 0x188, 1, 4, [⟨"Q_OUT", 0, 32, .ro, .L, 0⟩]⟩,
  ⟨"QOUT_HI", 0x18C, 1, 4, [⟨"Q_OUT", 0, 32, .ro, .L, 0⟩]⟩,
  ⟨"EIN_LO", 0x190, 1, 4, [⟨"E_IN", 0, 32, .ro, .L, 0⟩]⟩,
  ⟨"EIN_HI", 0x194, 1, 4, [⟨"E_IN", 0, 32, .ro, .L, 0⟩]⟩,
  ⟨"EOUT_LO", 0x198, 1, 4, [⟨"E_OUT", 0, 32, .ro, .L, 0⟩]⟩,
  ⟨"EOUT_HI", 0x19C, 1, 4, [⟨"E_OUT", 0, 32, .ro, .L, 0⟩]⟩]

/-- The registers of the IMPED page (R264). -/
def pageIMPED : List RegDef :=
 [⟨"STATUS", 0x00C, 1, 4, [⟨"STATE", 0, 3, .ro, .V, 0⟩, ⟨"REFUSE", 4, 4, .ro, .V, 0⟩, ⟨"ABORT", 8, 4, .ro, .V, 0⟩, ⟨"INTERRUPTED", 12, 1, .ro, .V, 0⟩, ⟨"ENTRY_LOST", 13, 1, .w1c, .V, 0⟩, ⟨"CONSEC", 16, 8, .ro, .V, 0⟩]⟩,
  ⟨"CMD", 0x040, 1, 4, [⟨"START", 0, 1, .wo, .V, 0⟩, ⟨"STOP", 1, 1, .wo, .V, 0⟩]⟩,
  ⟨"CFG", 0x044, 1, 4, [⟨"EN", 0, 1, .rws, .S, 0⟩, ⟨"CONT", 1, 1, .rws, .S, 0⟩, ⟨"K", 4, 4, .rws, .S, 1⟩, ⟨"R", 8, 8, .rws, .S, 3⟩, ⟨"RAMP_MS", 16, 10, .rws, .S, 100⟩]⟩,
  ⟨"WIN", 0x048, 1, 4, [⟨"W", 0, 16, .rws, .S, 4000⟩, ⟨"MAXDISC", 16, 8, .rws, .S, 8⟩]⟩,
  ⟨"TONE", 0x050, 8, 4, [⟨"M", 0, 16, .rws, .S, 0⟩, ⟨"AMP", 16, 16, .rws, .S, 0⟩]⟩,
  ⟨"RATE", 0x070, 1, 4, [⟨"I_RATED", 0, 16, .rws, .S, 0⟩]⟩,
  ⟨"LIM", 0x074, 1, 4, [⟨"DI_MAX", 0, 16, .rws, .S, 50⟩, ⟨"MIN_I", 16, 16, .rws, .S, 25⟩]⟩,
  ⟨"TCFG", 0x078, 1, 4, [⟨"T_EN", 0, 1, .rws, .S, 0⟩, ⟨"REF_TONE", 4, 3, .rws, .S, 0⟩, ⟨"NPTS", 8, 5, .rws, .S, 2⟩, ⟨"U_MAX_PCT", 16, 8, .rws, .S, 5⟩, ⟨"T_DIFF_MAX", 24, 8, .rws, .S, 10⟩]⟩,
  ⟨"TTAB", 0x080, 16, 4, [⟨"PHASE", 0, 16, .rws, .S, 0⟩, ⟨"TEMP", 16, 16, .rws, .S, 0⟩]⟩,
  ⟨"VIEW", 0x0C0, 1, 4, [⟨"CELL", 0, 9, .rw, .V, 0⟩, ⟨"TONE", 16, 3, .rw, .V, 0⟩]⟩,
  ⟨"VZRE", 0x0C4, 1, 4, [⟨"ZRE", 0, 32, .ro, .V, 0⟩]⟩,
  ⟨"VZIM", 0x0C8, 1, 4, [⟨"ZIM", 0, 32, .ro, .V, 0⟩]⟩,
  ⟨"VZU", 0x0CC, 1, 4, [⟨"U", 0, 16, .ro, .V, 65535⟩, ⟨"ZFLAGS", 16, 8, .ro, .V, 2⟩, ⟨"NWIN", 24, 8, .ro, .V, 0⟩]⟩,
  ⟨"FREQ", 0x0E0, 8, 4, [⟨"F", 0, 32, .ro, .V, 0⟩]⟩,
  ⟨"RUNS", 0x100, 1, 4, [⟨"STARTED", 0, 16, .ro, .K, 0⟩, ⟨"ABORTED", 16, 16, .ro, .K, 0⟩]⟩,
  ⟨"SETS", 0x104, 1, 4, [⟨"SETS", 0, 32, .ro, .K, 0⟩]⟩,
  ⟨"DISC", 0x108, 1, 4, [⟨"WINDOWS", 0, 16, .ro, .K, 0⟩, ⟨"CLIPPED", 16, 16, .ro, .K, 0⟩]⟩,
  ⟨"SEQ", 0x10C, 1, 4, [⟨"RUN", 0, 16, .ro, .V, 0⟩, ⟨"SET", 16, 16, .ro, .V, 0⟩]⟩,
  ⟨"TEMP", 0x400, 256, 4, [⟨"CELL_LO", 0, 16, .ro, .V, 32768⟩, ⟨"CELL_HI", 16, 16, .ro, .V, 32768⟩]⟩]

/-- The registers of the ESTIM page (R290). -/
def pageESTIM_0 : List RegDef :=
 [⟨"STATUS", 0x00C, 1, 4, [⟨"RUNNING", 0, 1, .ro, .V, 0⟩, ⟨"OCV_REQ", 1, 1, .ro, .V, 0⟩, ⟨"OVERDUE", 2, 1, .ro, .V, 0⟩, ⟨"BLIND", 3, 1, .ro, .V, 0⟩, ⟨"REST", 4, 1, .ro, .V, 0⟩, ⟨"QREST", 5, 1, .ro, .V, 0⟩, ⟨"VALID_CNT", 16, 10, .ro, .V, 0⟩]⟩,
  ⟨"CMD", 0x040, 1, 4, [⟨"INIT", 0, 1, .wo, .V, 0⟩]⟩,
  ⟨"CFG", 0x044, 1, 4, [⟨"EN", 0, 1, .rws, .S, 0⟩, ⟨"Q_NOM", 16, 16, .rws, .S, 0⟩]⟩,
  ⟨"VWIN", 0x048, 1, 4, [⟨"VMIN_CELL", 0, 16, .rws, .S, 2500⟩, ⟨"VMAX_CELL", 16, 16, .rws, .S, 3650⟩]⟩,
  ⟨"REST", 0x04C, 1, 4, [⟨"I_REST", 0, 16, .rws, .S, 50⟩, ⟨"T_REST", 16, 16, .rws, .S, 1800⟩]⟩,
  ⟨"QREST", 0x050, 1, 4, [⟨"I_QREST", 0, 16, .rws, .S, 100⟩, ⟨"T_QREST", 16, 16, .rws, .S, 300⟩]⟩,
  ⟨"UNC", 0x054, 1, 4, [⟨"U_ANCHOR_MAX", 0, 8, .rws, .S, 30⟩, ⟨"U_OVERDUE", 8, 8, .rws, .S, 50⟩, ⟨"U_VALID", 16, 8, .rws, .S, 100⟩, ⟨"E_CAP", 24, 8, .rws, .S, 30⟩]⟩,
  ⟨"OCVERR", 0x058, 1, 4, [⟨"E_OCV", 0, 8, .rws, .S, 50⟩, ⟨"RERR", 8, 8, .rws, .S, 20⟩, ⟨"QR_MV", 16, 8, .rws, .S, 3⟩, ⟨"BLEED_ERR", 24, 8, .rws, .S, 5⟩]⟩,
  ⟨"OVERDUE", 0x05C, 1, 4, [⟨"T_OVERDUE", 0, 8, .rws, .S, 7⟩, ⟨"IMP_AGE", 16, 16, .rws, .S, 600⟩]⟩,
  ⟨"HGAIN", 0x060, 1, 4, [⟨"HG2", 0, 16, .rws, .S, 4096⟩, ⟨"HG10", 16, 16, .rws, .S, 6144⟩]⟩,
  ⟨"HGAIN2", 0x064, 1, 4, [⟨"HG60", 0, 16, .rws, .S, 10240⟩]⟩,
  ⟨"SOC1", 0x080, 1, 4, [⟨"SOC_STR", 0, 16, .ro, .V, 65535⟩, ⟨"SOC_MIN", 16, 16, .ro, .V, 65535⟩]⟩,
  ⟨"SOC2", 0x084, 1, 4, [⟨"SOC_MAX", 0, 16, .ro, .V, 65535⟩, ⟨"SOC_MEAN", 16, 16, .ro, .V, 65535⟩]⟩,
  ⟨"UNCMAX", 0x088, 1, 4, [⟨"U_MAX", 0, 16, .ro, .V, 65535⟩]⟩,
  ⟨"SOH", 0x08C, 1, 4, [⟨"SOH", 0, 16, .ro, .V, 10000⟩]⟩,
  ⟨"AGE", 0x090, 1, 4, [⟨"ANCHOR_AGE", 0, 32, .ro, .V, 0⟩]⟩,
  ⟨"ILIM", 0x0A0, 3, 4, [⟨"I_CHG", 0, 16, .ro, .V, 0⟩, ⟨"I_DIS", 16, 16, .ro, .V, 0⟩]⟩,
  ⟨"PLIM", 0x0AC, 3, 4, [⟨"P_CHG", 0, 16, .ro, .V, 0⟩, ⟨"P_DIS", 16, 16, .ro, .V, 0⟩]⟩,
  ⟨"ANCHORS", 0x0BC, 1, 4, [⟨"FULL", 0, 16, .ro, .K, 0⟩, ⟨"QUASI", 16, 16, .ro, .K, 0⟩]⟩,
  ⟨"VIEW", 0x0C0, 1, 4, [⟨"CELL", 0, 9, .rw, .V, 0⟩]⟩,
  ⟨"VSOC", 0x0C4, 1, 4, [⟨"SOC", 0, 32, .ro, .V, 0⟩]⟩,
  ⟨"VUNC", 0x0C8, 1, 4, [⟨"U", 0, 16, .ro, .V, 65535⟩, ⟨"T", 16, 16, .ro, .V, 32768⟩]⟩,
  ⟨"VFLAGS", 0x0CC, 1, 4, [⟨"FLAGS", 0, 6, .ro, .V, 0⟩]⟩,
  ⟨"VAGE", 0x0D0, 1, 4, [⟨"AGE", 0, 32, .ro, .V, 0⟩]⟩]

def pageESTIM_1 : List RegDef :=
 [⟨"SOC", 0x400, 256, 4, [⟨"CELL_LO", 0, 16, .ro, .L, 65535⟩, ⟨"CELL_HI", 16, 16, .ro, .L, 65535⟩]⟩]

def pageESTIM : List RegDef := pageESTIM_0 ++ pageESTIM_1

/-- The OCV curves of ETAB (Table 12-3): of the 17 words of a curve the last holds s = 32 alone. -/
def pageETAB_OCV : List RegDef :=
 (List.range 16).map (fun m => ⟨"OCV", 0x100 + 4 * m, 16, 0x44, [⟨"EVEN", 0, 16, .rws, .S, 0⟩, ⟨"ODD", 16, 16, .rws, .S, 0⟩]⟩)
  ++ [⟨"OCV", 0x140, 16, 0x44, [⟨"EVEN", 0, 16, .rws, .S, 0⟩]⟩]

/-- The registers of the ETAB page (R291). -/
def pageETAB : List RegDef := pageETAB_OCV ++
 [⟨"TBP", 0x040, 1, 4, [⟨"T_EVEN", 0, 16, .rws, .S, 65336⟩, ⟨"T_ODD", 16, 16, .rws, .S, 65436⟩]⟩,
  ⟨"TBP", 0x044, 1, 4, [⟨"T_EVEN", 0, 16, .rws, .S, 0⟩, ⟨"T_ODD", 16, 16, .rws, .S, 100⟩]⟩,
  ⟨"TBP", 0x048, 1, 4, [⟨"T_EVEN", 0, 16, .rws, .S, 200⟩, ⟨"T_ODD", 16, 16, .rws, .S, 300⟩]⟩,
  ⟨"TBP", 0x04C, 1, 4, [⟨"T_EVEN", 0, 16, .rws, .S, 450⟩, ⟨"T_ODD", 16, 16, .rws, .S, 600⟩]⟩,
  ⟨"RBP", 0x050, 1, 4, [⟨"RATE_EVEN", 0, 16, .rws, .S, 0⟩, ⟨"RATE_ODD", 16, 16, .rws, .S, 20⟩]⟩,
  ⟨"RBP", 0x054, 1, 4, [⟨"RATE_EVEN", 0, 16, .rws, .S, 50⟩, ⟨"RATE_ODD", 16, 16, .rws, .S, 100⟩]⟩,
  ⟨"RBP", 0x058, 1, 4, [⟨"RATE_EVEN", 0, 16, .rws, .S, 150⟩, ⟨"RATE_ODD", 16, 16, .rws, .S, 200⟩]⟩,
  ⟨"CAPEFF", 0x540, 48, 4, [⟨"F_CAP", 0, 16, .rws, .S, 16384⟩, ⟨"F_EFF", 16, 16, .rws, .S, 16384⟩]⟩,
  ⟨"RES", 0x600, 44, 4, [⟨"EVEN", 0, 16, .rws, .S, 0⟩, ⟨"ODD", 16, 16, .rws, .S, 0⟩]⟩]

/-- The registers of the LEARN page (R292). -/
def pageLEARN : List RegDef :=
 [⟨"STATUS", 0x00C, 1, 4, [⟨"JBUSY", 0, 1, .ro, .V, 0⟩, ⟨"DEFERRED", 1, 1, .ro, .V, 0⟩]⟩,
  ⟨"CMD", 0x040, 1, 4, [⟨"WRITE_NOW", 0, 1, .wo, .V, 0⟩, ⟨"RESET_CELL", 1, 1, .wo, .V, 0⟩]⟩,
  ⟨"CFG", 0x044, 1, 4, [⟨"LEARN_H", 0, 5, .rws, .S, 6⟩, ⟨"STATE_S", 8, 6, .rws, .S, 10⟩, ⟨"BUDGET_US", 16, 16, .rws, .S, 2000⟩]⟩,
  ⟨"GAIN", 0x048, 1, 4, [⟨"G_CAP", 0, 8, .rws, .S, 64⟩, ⟨"G_RES", 8, 8, .rws, .S, 32⟩, ⟨"CAP_STEP", 16, 8, .rws, .S, 20⟩, ⟨"RF_STEP", 24, 8, .rws, .S, 50⟩]⟩,
  ⟨"LCFG", 0x04C, 1, 4, [⟨"U_LEARN", 0, 8, .rws, .S, 10⟩, ⟨"DSOC_MIN", 8, 8, .rws, .S, 30⟩, ⟨"RES_TONE", 16, 3, .rws, .S, 0⟩]⟩,
  ⟨"SEQ_L", 0x050, 1, 4, [⟨"SEQ", 0, 32, .ro, .L, 0⟩]⟩,
  ⟨"SEQ_S", 0x054, 1, 4, [⟨"SEQ", 0, 32, .ro, .L, 0⟩]⟩,
  ⟨"JSTAT", 0x058, 1, 4, [⟨"WRITES", 0, 16, .ro, .K, 0⟩, ⟨"ABANDONS", 16, 16, .ro, .K, 0⟩]⟩,
  ⟨"VIEW", 0x0C0, 1, 4, [⟨"CELL", 0, 9, .rw, .V, 0⟩]⟩,
  ⟨"VRF", 0x0C4, 1, 4, [⟨"RF", 0, 16, .ro, .L, 4096⟩, ⟨"SOH", 16, 16, .ro, .V, 10000⟩]⟩,
  ⟨"VCNT", 0x0C8, 1, 4, [⟨"CAP_UPD", 0, 16, .ro, .L, 0⟩, ⟨"RF_UPD", 16, 16, .ro, .L, 0⟩]⟩,
  ⟨"CAP", 0x400, 256, 4, [⟨"CELL_LO", 0, 16, .ro, .L, 0⟩, ⟨"CELL_HI", 16, 16, .ro, .L, 0⟩]⟩]

/-- The registers of the THERM page (R304). -/
def pageTHERM : List RegDef :=
 [⟨"STATUS", 0x00C, 1, 4, [⟨"STAGE", 0, 2, .ro, .V, 0⟩, ⟨"NOR_OK", 2, 1, .ro, .V, 0⟩, ⟨"CHG_OK", 3, 1, .ro, .V, 0⟩, ⟨"DIS_OK", 4, 1, .ro, .V, 0⟩, ⟨"T_BLIND", 5, 1, .ro, .V, 0⟩, ⟨"COOL_FAULT", 8, 6, .ro, .V, 0⟩]⟩,
  ⟨"CMD", 0x040, 1, 4, [⟨"CLR_FAULT", 0, 6, .wo, .V, 0⟩]⟩,
  ⟨"WIN", 0x044, 1, 4, [⟨"CHG_LO", 0, 8, .rws, .S, 0⟩, ⟨"CHG_HI", 8, 8, .rws, .S, 55⟩, ⟨"DIS_LO", 16, 8, .rws, .S, 236⟩, ⟨"DIS_HI", 24, 8, .rws, .S, 60⟩]⟩,
  ⟨"DERATE", 0x048, 1, 4, [⟨"DERATE_K", 0, 8, .rws, .S, 5⟩, ⟨"HYST_K", 8, 8, .rws, .S, 2⟩, ⟨"PS_START", 16, 8, .rws, .S, 90⟩, ⟨"PS_END", 24, 8, .rws, .S, 105⟩]⟩,
  ⟨"FAIL", 0x04C, 1, 4, [⟨"FAIL_DERATE", 0, 16, .rws, .S, 32768⟩]⟩,
  ⟨"FACT", 0x050, 1, 4, [⟨"F_CHG", 0, 16, .ro, .V, 0⟩, ⟨"F_DIS", 16, 16, .ro, .V, 0⟩]⟩,
  ⟨"TCELL", 0x054, 1, 4, [⟨"T_HOT", 0, 16, .ro, .V, 32768⟩, ⟨"T_COLD", 16, 16, .ro, .V, 32768⟩]⟩,
  ⟨"TJ", 0x058, 1, 4, [⟨"TJ", 0, 16, .ro, .V, 0⟩]⟩,
  ⟨"BOARD", 0x05C, 1, 4, [⟨"BT0", 0, 16, .ro, .V, 32768⟩, ⟨"BT1", 16, 16, .ro, .V, 32768⟩]⟩,
  ⟨"BOARD2", 0x060, 1, 4, [⟨"BT2", 0, 16, .ro, .V, 32768⟩, ⟨"BT3", 16, 16, .ro, .V, 32768⟩]⟩,
  ⟨"NTCCFG", 0x080, 16, 4, [⟨"R25", 0, 16, .rws, .S, 1000⟩, ⟨"B", 16, 16, .rws, .S, 0⟩]⟩,
  ⟨"NTCROLE", 0x0C0, 1, 4, [⟨"ROLE0", 0, 2, .rws, .S, 0⟩, ⟨"ROLE1", 2, 2, .rws, .S, 0⟩, ⟨"ROLE2", 4, 2, .rws, .S, 0⟩, ⟨"ROLE3", 6, 2, .rws, .S, 0⟩, ⟨"ROLE4", 8, 2, .rws, .S, 0⟩, ⟨"ROLE5", 10, 2, .rws, .S, 0⟩, ⟨"ROLE6", 12, 2, .rws, .S, 0⟩, ⟨"ROLE7", 14, 2, .rws, .S, 0⟩, ⟨"ROLE8", 16, 2, .rws, .S, 0⟩, ⟨"ROLE9", 18, 2, .rws, .S, 0⟩, ⟨"ROLE10", 20, 2, .rws, .S, 0⟩, ⟨"ROLE11", 22, 2, .rws, .S, 0⟩, ⟨"ROLE12", 24, 2, .rws, .S, 0⟩, ⟨"ROLE13", 26, 2, .rws, .S, 0⟩, ⟨"ROLE14", 28, 2, .rws, .S, 0⟩, ⟨"ROLE15", 30, 2, .rws, .S, 0⟩]⟩,
  ⟨"NTCT", 0x0C4, 8, 4, [⟨"T_EVEN", 0, 16, .ro, .V, 32768⟩, ⟨"T_ODD", 16, 16, .ro, .V, 32768⟩]⟩,
  ⟨"COOL_0", 0x100, 6, 16, [⟨"SRC", 0, 5, .rws, .S, 18⟩, ⟨"DUTY_MIN", 8, 7, .rws, .S, 20⟩]⟩,
  ⟨"COOL_4", 0x104, 6, 16, [⟨"T_START", 0, 16, .rws, .S, 300⟩, ⟨"T_FULL", 16, 16, .rws, .S, 450⟩]⟩,
  ⟨"COOL_8", 0x108, 6, 16, [⟨"RPM_FULL", 0, 16, .rws, .S, 0⟩, ⟨"PPR", 16, 3, .rws, .S, 2⟩, ⟨"REACT", 20, 2, .rws, .S, 0⟩, ⟨"TACH_MIN_PCT", 24, 8, .rws, .S, 70⟩]⟩,
  ⟨"COOL_C", 0x10C, 6, 16, [⟨"OVERRIDE", 0, 7, .rw, .V, 0⟩, ⟨"DUTY", 8, 7, .ro, .V, 0⟩, ⟨"RPM", 16, 16, .ro, .V, 0⟩]⟩]

/-- The registers of the PROT page (R345). -/
def pagePROT : List RegDef :=
 [⟨"STATUS", 0x00C, 1, 4, [⟨"L_ACTIVE", 0, 1, .ro, .V, 0⟩, ⟨"S_ACTIVE", 1, 1, .ro, .V, 0⟩, ⟨"H_ACTIVE", 2, 1, .ro, .V, 0⟩]⟩,
  ⟨"CFG", 0x040, 1, 4, [⟨"EN", 0, 1, .rws, .S, 1⟩, ⟨"CBC_REACT", 1, 2, .rws, .S, 1⟩, ⟨"HALL_REACT", 3, 2, .rws, .S, 0⟩, ⟨"UT_REACT", 5, 2, .rws, .S, 0⟩, ⟨"L_FACT", 16, 16, .rws, .S, 32768⟩]⟩,
  ⟨"CELLV", 0x044, 1, 4, [⟨"CELL_OV_MV", 0, 16, .rws, .S, 4200⟩, ⟨"CELL_UV_MV", 16, 16, .rws, .S, 2600⟩]⟩,
  ⟨"CELLT", 0x048, 1, 4, [⟨"CELL_OT", 0, 8, .rws, .S, 60⟩, ⟨"CELL_UT", 8, 8, .rws, .S, 226⟩]⟩,
  ⟨"BUS", 0x04C, 1, 4, [⟨"BUS_OV", 0, 16, .rws, .S, 16000⟩]⟩,
  ⟨"OCW", 0x050, 1, 4, [⟨"I_WARN", 0, 16, .rws, .S, 5500⟩, ⟨"T_WARN", 16, 16, .rws, .S, 1000⟩]⟩,
  ⟨"HALL", 0x054, 1, 4, [⟨"HALL_TOL", 0, 16, .rws, .S, 100⟩]⟩,
  ⟨"ACTIVE", 0x060, 1, 4, [⟨"BITS", 0, 9, .ro, .V, 0⟩]⟩]

/-- The registers of the SAFE page (R346). -/
def pageSAFE : List RegDef :=
 [⟨"STATUS", 0x00C, 1, 4, [⟨"EN0", 0, 1, .ro, .V, 0⟩, ⟨"EN1", 1, 1, .ro, .V, 0⟩, ⟨"SRD_ACTIVE", 2, 1, .ro, .V, 0⟩, ⟨"SRD_STEP", 3, 3, .ro, .V, 0⟩, ⟨"COIL_FEED", 6, 1, .ro, .V, 0⟩, ⟨"IN0", 7, 1, .ro, .V, 0⟩, ⟨"IN1", 8, 1, .ro, .V, 0⟩, ⟨"SRD_CAUSE", 16, 8, .ro, .V, 0⟩]⟩,
  ⟨"CMD", 0x040, 1, 4, [⟨"SRD", 0, 1, .wo, .V, 0⟩, ⟨"TRIP", 1, 1, .wo, .V, 0⟩]⟩,
  ⟨"CFG", 0x044, 1, 4, [⟨"DIVERSE", 0, 1, .rws, .S, 0⟩]⟩,
  ⟨"SRD", 0x048, 1, 4, [⟨"T_SRD", 0, 9, .rws, .S, 100⟩, ⟨"ENV_TOL", 16, 16, .rws, .S, 300⟩]⟩,
  ⟨"OC", 0x04C, 1, 4, [⟨"OC_TRIP", 0, 16, .rws, .S, 6000⟩]⟩,
  ⟨"OV", 0x050, 1, 4, [⟨"STR_OV", 0, 16, .rws, .S, 16000⟩]⟩,
  ⟨"INPUT", 0x054, 1, 4, [⟨"DISC_MS", 0, 9, .rws, .S, 100⟩]⟩,
  ⟨"I0", 0x060, 1, 4, [⟨"I0", 0, 32, .ro, .V, 0⟩]⟩,
  ⟨"COUNTS", 0x064, 1, 4, [⟨"SRDS", 0, 16, .ro, .K, 0⟩, ⟨"TRIPS", 16, 16, .ro, .K, 0⟩]⟩]

/-- The registers of the SNET page (R347). -/
def pageSNET : List RegDef :=
 [⟨"STATUS", 0x00C, 1, 4, [⟨"PAIR_OK", 0, 8, .ro, .V, 0⟩, ⟨"DEGRADED", 8, 1, .ro, .V, 0⟩]⟩,
  ⟨"CFG", 0x040, 1, 4, [⟨"OWN_ID", 0, 16, .rws, .S, 0⟩, ⟨"SKEW_MS", 16, 5, .rws, .S, 5⟩, ⟨"AGE_CHK", 21, 1, .rws, .S, 0⟩, ⟨"TX_MS", 24, 7, .rws, .S, 10⟩]⟩,
  ⟨"PORT", 0x044, 1, 4, [⟨"UDP_PORT", 0, 16, .rws, .S, 21325⟩]⟩,
  ⟨"DST0", 0x048, 1, 4, [⟨"IP", 0, 32, .rws, .S, 0⟩]⟩,
  ⟨"DST1", 0x04C, 1, 4, [⟨"IP", 0, 32, .rws, .S, 0⟩]⟩,
  ⟨"DEGRADE", 0x050, 1, 4, [⟨"DEG_S", 0, 12, .rw, .V, 0⟩]⟩,
  ⟨"DEGLEFT", 0x054, 1, 4, [⟨"LEFT", 0, 12, .ro, .V, 0⟩]⟩,
  ⟨"COUNTS", 0x058, 1, 4, [⟨"MISMATCH", 0, 16, .ro, .K, 0⟩, ⟨"SINGLES", 16, 16, .ro, .K, 0⟩]⟩,
  ⟨"SRC_0", 0x080, 8, 8, [⟨"ID", 0, 16, .rws, .S, 0⟩, ⟨"EN", 16, 1, .rws, .S, 0⟩, ⟨"ACT_SRD", 17, 1, .rws, .S, 1⟩, ⟨"ACT_TRIP", 18, 1, .rws, .S, 0⟩]⟩,
  ⟨"SRC_4", 0x084, 8, 8, [⟨"SWD_MS", 0, 14, .rws, .S, 100⟩]⟩]

/-- The registers of the INSUL page (R348). -/
def pageINSUL : List RegDef :=
 [⟨"STATUS", 0x00C, 1, 4, [⟨"VALID", 0, 1, .ro, .V, 0⟩, ⟨"INJECTING", 1, 1, .ro, .V, 0⟩, ⟨"STATE_B", 2, 1, .ro, .V, 0⟩, ⟨"NO_MEAS", 3, 1, .ro, .V, 0⟩, ⟨"WARN", 4, 1, .ro, .V, 0⟩, ⟨"FAULT", 5, 1, .ro, .V, 0⟩]⟩,
  ⟨"CFG", 0x040, 1, 4, [⟨"EN", 0, 1, .rws, .S, 1⟩, ⟨"BUS_MODE", 1, 1, .rws, .S, 0⟩, ⟨"FAULT_REACT", 2, 2, .rws, .S, 1⟩, ⟨"T_SETTLE", 8, 6, .rws, .S, 5⟩]⟩,
  ⟨"THR", 0x044, 1, 4, [⟨"R_WARN", 0, 16, .rws, .S, 500⟩, ⟨"R_FAULT", 16, 16, .rws, .S, 100⟩]⟩,
  ⟨"RES", 0x080, 1, 4, [⟨"R_P", 0, 16, .ro, .V, 65535⟩, ⟨"R_N", 16, 16, .ro, .V, 65535⟩]⟩,
  ⟨"RISO", 0x084, 1, 4, [⟨"R_ISO", 0, 16, .ro, .V, 65535⟩]⟩,
  ⟨"CYCLES", 0x088, 1, 4, [⟨"COUNT", 0, 32, .ro, .K, 0⟩]⟩]

/-- The registers of the DISP page (R327). -/
def pageDISP : List RegDef :=
 [⟨"STATUS", 0x00C, 1, 4, [⟨"STALE", 0, 1, .ro, .V, 0⟩, ⟨"HORIZON", 1, 4, .ro, .V, 0⟩, ⟨"RESULT", 8, 8, .ro, .V, 0⟩]⟩,
  ⟨"CMD", 0x040, 1, 4, [⟨"TAKE", 0, 1, .wo, .V, 0⟩]⟩,
  ⟨"CFG", 0x044, 1, 4, [⟨"SRC", 0, 2, .rws, .S, 0⟩, ⟨"AUTH", 2, 1, .rws, .S, 1⟩, ⟨"STALE_ACT", 4, 2, .rws, .S, 0⟩, ⟨"STAT_MS", 8, 8, .rws, .S, 10⟩, ⟨"UNIT_ADDR", 16, 16, .rws, .S, 1⟩]⟩,
  ⟨"NET", 0x048, 1, 4, [⟨"UDP_PORT", 0, 16, .rws, .S, 17488⟩, ⟨"ETH_EN", 16, 2, .rws, .S, 0⟩]⟩,
  ⟨"CAN", 0x04C, 1, 4, [⟨"CH", 0, 2, .rws, .S, 0⟩]⟩,
  ⟨"CANRX", 0x050, 1, 4, [⟨"ID_RX", 0, 29, .rws, .S, 0⟩]⟩,
  ⟨"CANTX", 0x054, 1, 4, [⟨"ID_TX", 0, 29, .rws, .S, 0⟩]⟩,
  ⟨"STALE", 0x058, 1, 4, [⟨"T_STALE", 0, 16, .rws, .S, 2000⟩, ⟨"T_DROP", 16, 16, .rws, .S, 30⟩]⟩,
  ⟨"RAMP", 0x05C, 1, 4, [⟨"UP", 0, 16, .rws, .S, 100⟩, ⟨"DOWN", 16, 16, .rws, .S, 100⟩]⟩,
  ⟨"RAMPP", 0x060, 1, 4, [⟨"P_UP", 0, 16, .rws, .S, 100⟩, ⟨"P_DOWN", 16, 16, .rws, .S, 100⟩]⟩,
  ⟨"LIM", 0x064, 1, 4, [⟨"I_CHG_MAX", 0, 16, .rws, .S, 6000⟩, ⟨"I_DIS_MAX", 16, 16, .rws, .S, 6000⟩]⟩,
  ⟨"SOCW", 0x068, 1, 4, [⟨"SOC_HI", 0, 16, .rws, .S, 9500⟩, ⟨"SOC_LO", 16, 16, .rws, .S, 500⟩]⟩,
  ⟨"SOCB", 0x06C, 1, 4, [⟨"SOC_BAND", 0, 16, .rws, .S, 400⟩]⟩,
  ⟨"AGE", 0x070, 1, 4, [⟨"AGE_MS", 0, 16, .rws, .S, 0⟩]⟩,
  ⟨"SP_KIND", 0x080, 1, 4, [⟨"KIND", 0, 8, .rw, .V, 0⟩]⟩,
  ⟨"SP_VALUE", 0x084, 1, 4, [⟨"VALUE", 0, 32, .rw, .V, 0⟩]⟩,
  ⟨"ICHG", 0x0A0, 1, 4, [⟨"I_CHG", 0, 32, .ro, .V, 0⟩]⟩,
  ⟨"IDIS", 0x0A4, 1, 4, [⟨"I_DIS", 0, 32, .ro, .V, 0⟩]⟩,
  ⟨"TARGET", 0x0A8, 1, 4, [⟨"TARGET", 0, 32, .ro, .V, 0⟩]⟩,
  ⟨"SETP", 0x0AC, 1, 4, [⟨"SETP", 0, 32, .ro, .V, 0⟩]⟩,
  ⟨"LASTSEQ", 0x0B0, 1, 4, [⟨"SEQ", 0, 32, .ro, .V, 0⟩]⟩,
  ⟨"COUNTS", 0x0B4, 1, 4, [⟨"ACCEPTED", 0, 16, .ro, .K, 0⟩, ⟨"REFUSED", 16, 16, .ro, .K, 0⟩]⟩,
  ⟨"COUNTS2", 0x0B8, 1, 4, [⟨"DISCARDED", 0, 16, .ro, .K, 0⟩, ⟨"STALES", 16, 16, .ro, .K, 0⟩]⟩]

/-- The registers of the PAIR page (R369). -/
def pagePAIR : List RegDef :=
 [⟨"STATUS", 0x00C, 1, 4, [⟨"ROLE", 0, 2, .ro, .V, 0⟩, ⟨"UNIT", 2, 1, .ro, .V, 0⟩, ⟨"LINK_UP", 3, 1, .ro, .V, 0⟩, ⟨"READY", 4, 1, .ro, .V, 0⟩, ⟨"PARTNER_READY", 5, 1, .ro, .V, 0⟩, ⟨"GAP", 6, 1, .ro, .V, 0⟩, ⟨"SW_RESULT", 8, 3, .ro, .V, 0⟩]⟩,
  ⟨"CMD", 0x040, 1, 4, [⟨"KEY", 0, 16, .wo, .V, 0⟩, ⟨"SWITCH", 16, 1, .wo, .V, 0⟩]⟩,
  ⟨"CFG", 0x044, 1, 4, [⟨"PAIRED", 0, 1, .rws, .S, 0⟩, ⟨"N_RESYNC", 4, 4, .rws, .S, 3⟩, ⟨"FRESET_EN", 8, 1, .rws, .S, 1⟩, ⟨"MIRROR_KIB", 16, 9, .rws, .S, 0⟩]⟩,
  ⟨"TOL", 0x048, 1, 4, [⟨"I_TOL", 0, 16, .rws, .S, 20⟩, ⟨"V_TOL", 16, 16, .rws, .S, 40⟩]⟩,
  ⟨"HEALTH", 0x04C, 1, 4, [⟨"CHECKS", 0, 8, .ro, .V, 0⟩, ⟨"PENDING", 8, 8, .ro, .V, 0⟩]⟩,
  ⟨"MIRROR", 0x050, 1, 4, [⟨"LOOP_AGE", 0, 16, .ro, .V, 65535⟩, ⟨"LOST", 16, 16, .ro, .K, 0⟩]⟩,
  ⟨"LASTSW", 0x054, 1, 4, [⟨"CAUSE", 0, 8, .ro, .L, 0⟩, ⟨"GAP_US", 16, 16, .ro, .L, 0⟩]⟩,
  ⟨"SWITCHES", 0x058, 1, 4, [⟨"TAKEOVERS", 0, 16, .ro, .L, 0⟩, ⟨"RELINQS", 16, 16, .ro, .L, 0⟩]⟩]

/-- The registers of the CLAIM page (R370). -/
def pageCLAIM : List RegDef :=
 [⟨"STATUS", 0x00C, 1, 4, [⟨"OWN", 0, 16, .ro, .V, 0⟩, ⟨"PARTNER", 16, 16, .ro, .V, 0⟩]⟩,
  ⟨"GEN", 0x040, 1, 4, [⟨"G", 0, 15, .ro, .L, 0⟩]⟩,
  ⟨"MON", 0x044, 1, 4, [⟨"PRESENT", 0, 1, .ro, .V, 0⟩, ⟨"LINK_FAULT", 1, 1, .ro, .V, 0⟩, ⟨"HB", 8, 8, .ro, .V, 0⟩]⟩,
  ⟨"ERRS", 0x048, 1, 4, [⟨"CRC_ERR", 0, 16, .ro, .K, 0⟩, ⟨"HB_ERR", 16, 16, .ro, .K, 0⟩]⟩,
  ⟨"READBACK", 0x04C, 1, 4, [⟨"MISMATCH", 0, 16, .ro, .K, 0⟩]⟩]

/-- The registers of the SCAN page (R391). -/
def pageSCAN : List RegDef :=
 [⟨"STATUS", 0x00C, 1, 4, [⟨"RUNNING", 0, 4, .ro, .V, 0⟩, ⟨"SUSPENDED", 4, 4, .ro, .V, 0⟩, ⟨"STOPPED", 8, 4, .ro, .V, 0⟩]⟩,
  ⟨"CMD", 0x040, 1, 4, [⟨"RESTART", 0, 4, .wo, .V, 0⟩]⟩,
  ⟨"CFG", 0x044, 1, 4, [⟨"EN", 0, 1, .rws, .S, 0⟩]⟩,
  ⟨"TCFG", 0x050, 4, 16, [⟨"EN", 0, 1, .rws, .S, 0⟩, ⟨"WD_REACT", 1, 1, .rws, .S, 0⟩, ⟨"WD_N", 8, 8, .rws, .S, 3⟩, ⟨"OFFSET_MS", 16, 16, .rws, .S, 0⟩]⟩,
  ⟨"PERIOD", 0x054, 4, 16, [⟨"PERIOD_MS", 0, 16, .rws, .S, 100⟩]⟩,
  ⟨"TDUR", 0x058, 4, 16, [⟨"LAST_US", 0, 32, .ro, .V, 0⟩]⟩,
  ⟨"TCNT", 0x05C, 4, 16, [⟨"OVERRUNS", 0, 16, .ro, .K, 0⟩, ⟨"SKIPPED", 16, 16, .ro, .K, 0⟩]⟩,
  ⟨"COST", 0x090, 4, 4, [⟨"COST", 0, 32, .ro, .V, 0⟩]⟩,
  ⟨"MAXDUR", 0x0A0, 4, 4, [⟨"MAX_US", 0, 32, .ro, .K, 0⟩]⟩,
  ⟨"PROG_ADDR", 0x0C0, 1, 4, [⟨"ADDR", 0, 19, .rw, .V, 0⟩]⟩,
  ⟨"PROG_DATA", 0x0C4, 1, 4, [⟨"DATA", 0, 32, .wo, .V, 0⟩]⟩,
  ⟨"PROG_LIVE", 0x0C8, 1, 4, [⟨"DATA", 0, 32, .ro, .V, 0⟩]⟩,
  ⟨"PERR", 0x0CC, 1, 4, [⟨"BLOCK", 0, 12, .ro, .V, 0⟩, ⟨"TASK", 12, 2, .ro, .V, 0⟩, ⟨"CODE", 16, 8, .ro, .V, 0⟩]⟩,
  ⟨"INSTUSE", 0x0D0, 1, 4, [⟨"BYTES", 0, 22, .ro, .V, 0⟩]⟩,
  ⟨"MIRUSE", 0x0D4, 1, 4, [⟨"BYTES", 0, 19, .ro, .V, 0⟩]⟩]

/-- The registers of the IMAGE page (R392). -/
def pageIMAGE : List RegDef :=
 [⟨"DI", 0x040, 1, 4, [⟨"DI", 0, 16, .ro, .V, 0⟩]⟩,
  ⟨"DO", 0x044, 1, 4, [⟨"DO", 0, 8, .ro, .V, 0⟩]⟩,
  ⟨"STQ", 0x048, 1, 4, [⟨"QUAL", 0, 32, .ro, .V, 0⟩]⟩,
  ⟨"UNDEL", 0x04C, 1, 4, [⟨"UNDELIVERED", 0, 32, .ro, .V, 0⟩]⟩,
  ⟨"SVIEW", 0x050, 1, 4, [⟨"STATION", 0, 5, .rw, .V, 0⟩]⟩,
  ⟨"SIN", 0x060, 8, 4, [⟨"IN", 0, 32, .ro, .V, 0⟩]⟩,
  ⟨"SOUT", 0x080, 8, 4, [⟨"OUT", 0, 32, .ro, .V, 0⟩]⟩,
  ⟨"M", 0x400, 256, 4, [⟨"M", 0, 32, .rw, .K, 0⟩]⟩]

/-- The registers of the STATION page (R393). -/
def pageSTATION : List RegDef :=
 [⟨"CFG", 0x040, 1, 4, [⟨"UDP_PORT", 0, 16, .rws, .S, 21332⟩]⟩,
  ⟨"SCFG", 0x080, 32, 32, [⟨"EN", 0, 1, .rws, .S, 0⟩, ⟨"LINK", 1, 2, .rws, .S, 0⟩, ⟨"CH", 3, 2, .rws, .S, 0⟩, ⟨"TASK", 6, 2, .rws, .S, 0⟩, ⟨"NIN", 8, 6, .rws, .S, 0⟩, ⟨"NOUT", 16, 6, .rws, .S, 0⟩, ⟨"SUBST", 24, 2, .rws, .S, 0⟩, ⟨"AUTH", 26, 1, .rws, .S, 0⟩]⟩,
  ⟨"SADDR", 0x084, 32, 32, [⟨"ADDR", 0, 32, .rws, .S, 0⟩]⟩,
  ⟨"STIME", 0x088, 32, 32, [⟨"TIMEOUT_MS", 0, 16, .rws, .S, 30⟩, ⟨"WD_MS", 16, 16, .rws, .S, 100⟩]⟩,
  ⟨"SSTAT", 0x08C, 32, 32, [⟨"QUAL", 0, 1, .ro, .V, 0⟩, ⟨"UNDELIVERED", 1, 1, .ro, .V, 0⟩, ⟨"AGE_MS", 16, 16, .ro, .V, 65535⟩]⟩,
  ⟨"SCNT", 0x090, 32, 32, [⟨"IN_OK", 0, 16, .ro, .K, 0⟩, ⟨"IN_ERR", 16, 16, .ro, .K, 0⟩]⟩,
  ⟨"SLOST", 0x094, 32, 32, [⟨"LOSSES", 0, 16, .ro, .K, 0⟩]⟩]

/-- The registers of the TIME page (R445). -/
def pageTIME : List RegDef :=
 [⟨"NS", 0x040, 4, 32, [⟨"NS", 0, 32, .ro, .K, 0⟩]⟩,
  ⟨"SLO", 0x044, 4, 32, [⟨"SEC_LO", 0, 32, .ro, .K, 0⟩]⟩,
  ⟨"SHI", 0x048, 4, 32, [⟨"SEC_HI", 0, 16, .ro, .K, 0⟩, ⟨"FRAC", 16, 16, .ro, .K, 0⟩]⟩,
  ⟨"RATE", 0x04C, 2, 32, [⟨"RATE", 0, 32, .ro, .K, 0⟩]⟩,
  ⟨"RATE", 0x08C, 1, 32, [⟨"RATE", 0, 32, .rw, .K, 0⟩]⟩,
  ⟨"RATE", 0x0AC, 1, 32, [⟨"RATE", 0, 32, .ro, .K, 0⟩]⟩,
  ⟨"SETNS", 0x050, 4, 32, [⟨"SET_NS", 0, 32, .rw, .V, 0⟩]⟩,
  ⟨"SETSL", 0x054, 4, 32, [⟨"SET_SLO", 0, 32, .rw, .V, 0⟩]⟩,
  ⟨"SETSH", 0x058, 4, 32, [⟨"SET_SHI", 0, 16, .rw, .V, 0⟩]⟩,
  ⟨"CMD", 0x05C, 4, 32, [⟨"SET", 0, 1, .wo, .V, 0⟩, ⟨"SHIFT", 1, 1, .wo, .V, 0⟩, ⟨"SYNCED", 8, 1, .ro, .K, 0⟩, ⟨"REFUSED", 9, 1, .ro, .V, 0⟩, ⟨"STEPS", 16, 16, .ro, .K, 0⟩]⟩,
  ⟨"CMD_SNAP", 0x0C0, 1, 4, [⟨"SNAP", 0, 1, .wo, .V, 0⟩]⟩,
  ⟨"SNAP_NS", 0x0D0, 4, 16, [⟨"NS", 0, 32, .ro, .V, 0⟩]⟩,
  ⟨"SNAP_SEC_LO", 0x0D4, 4, 16, [⟨"SEC_LO", 0, 32, .ro, .V, 0⟩]⟩,
  ⟨"SNAP_HI", 0x0D8, 4, 16, [⟨"SEC_HI", 0, 16, .ro, .V, 0⟩, ⟨"FRAC", 16, 16, .ro, .V, 0⟩]⟩,
  ⟨"PAIRDIFF", 0x110, 1, 4, [⟨"DIFF", 0, 32, .ro, .V, 0⟩]⟩]

/-- The registers of the PTP page (R446). -/
def pagePTP_0 : List RegDef :=
 [⟨"CFG", 0x040, 1, 128, [⟨"EN", 0, 1, .rws, .S, 0⟩, ⟨"PROFILE", 1, 1, .rws, .S, 0⟩, ⟨"PORT", 2, 1, .rws, .S, 0⟩, ⟨"STEP_MODE", 3, 2, .rws, .S, 1⟩, ⟨"FALLBACK", 5, 1, .rws, .S, 0⟩, ⟨"AMT_EN", 6, 1, .rws, .S, 0⟩, ⟨"DOMAIN", 8, 8, .rws, .S, 0⟩, ⟨"ANN_TMO", 16, 4, .rws, .S, 3⟩, ⟨"PD_AVG", 24, 4, .rws, .S, 4⟩, ⟨"LOG_PDELAY", 28, 4, .rws, .S, 0⟩]⟩,
  ⟨"CFG", 0x0C0, 1, 128, [⟨"EN", 0, 1, .rws, .S, 0⟩, ⟨"PROFILE", 1, 1, .rws, .S, 0⟩, ⟨"PORT", 2, 1, .rws, .S, 1⟩, ⟨"STEP_MODE", 3, 2, .rws, .S, 1⟩, ⟨"FALLBACK", 5, 1, .rws, .S, 0⟩, ⟨"AMT_EN", 6, 1, .rws, .S, 0⟩, ⟨"DOMAIN", 8, 8, .rws, .S, 0⟩, ⟨"ANN_TMO", 16, 4, .rws, .S, 3⟩, ⟨"PD_AVG", 24, 4, .rws, .S, 4⟩, ⟨"LOG_PDELAY", 28, 4, .rws, .S, 0⟩]⟩,
  ⟨"SERVO", 0x044, 2, 128, [⟨"KP", 0, 16, .rws, .S, 32768⟩, ⟨"KI", 16, 16, .rws, .S, 8192⟩]⟩,
  ⟨"LIM", 0x048, 2, 128, [⟨"MAX_PPM", 0, 16, .rws, .S, 200⟩, ⟨"LOCK_NS", 16, 16, .rws, .S, 100⟩]⟩,
  ⟨"STEP", 0x04C, 2, 128, [⟨"STEP_NS", 0, 32, .rws, .S, 20000⟩]⟩,
  ⟨"OUT", 0x050, 2, 128, [⟨"OUTLIER_NS", 0, 16, .rws, .S, 1000⟩, ⟨"ASYM_NS", 16, 16, .rws, .S, 0⟩]⟩,
  ⟨"AMT0_LO", 0x054, 2, 128, [⟨"ID_LO", 0, 32, .rws, .S, 0⟩]⟩,
  ⟨"AMT0_HI", 0x058, 2, 128, [⟨"ID_HI", 0, 32, .rws, .S, 0⟩]⟩,
  ⟨"AMT1_LO", 0x05C, 2, 128, [⟨"ID_LO", 0, 32, .rws, .S, 0⟩]⟩,
  ⟨"AMT1_HI", 0x060, 2, 128, [⟨"ID_HI", 0, 32, .rws, .S, 0⟩]⟩,
  ⟨"AMT2_LO", 0x064, 2, 128, [⟨"ID_LO", 0, 32, .rws, .S, 0⟩]⟩,
  ⟨"AMT2_HI", 0x068, 2, 128, [⟨"ID_HI", 0, 32, .rws, .S, 0⟩]⟩,
  ⟨"AMT3_LO", 0x06C, 2, 128, [⟨"ID_LO", 0, 32, .rws, .S, 0⟩]⟩,
  ⟨"AMT3_HI", 0x070, 2, 128, [⟨"ID_HI", 0, 32, .rws, .S, 0⟩]⟩,
  ⟨"STATE", 0x080, 2, 128, [⟨"PORT_STATE", 0, 4, .ro, .V, 3⟩, ⟨"SERVO", 4, 2, .ro, .V, 0⟩, ⟨"FB_ACTIVE", 6, 1, .ro, .V, 0⟩, ⟨"TFLAGS", 8, 4, .ro, .V, 0⟩, ⟨"UTC_OFFSET", 16, 16, .ro, .V, 0⟩]⟩,
  ⟨"OFFS", 0x084, 2, 128, [⟨"OFFSET", 0, 32, .ro, .V, 0⟩]⟩,
  ⟨"MPD", 0x088, 2, 128, [⟨"DELAY", 0, 32, .ro, .V, 0⟩]⟩,
  ⟨"RATE", 0x08C, 2, 128, [⟨"RATE", 0, 32, .ro, .V, 0⟩]⟩,
  ⟨"GM_LO", 0x090, 2, 128, [⟨"GM_LO", 0, 32, .ro, .V, 0⟩]⟩,
  ⟨"GM_HI", 0x094, 2, 128, [⟨"GM_HI", 0, 32, .ro, .V, 0⟩]⟩,
  ⟨"CNT", 0x098, 2, 128, [⟨"SYNC_RX", 0, 16, .ro, .K, 0⟩, ⟨"OUTLIERS", 16, 16, .ro, .K, 0⟩]⟩,
  ⟨"CNT2", 0x09C, 2, 128, [⟨"ABANDONED", 0, 16, .ro, .K, 0⟩, ⟨"LOCK_LOSSES", 16, 16, .ro, .K, 0⟩]⟩,
  ⟨"TXQ_0", 0x140, 2, 32, [⟨"FILL", 0, 5, .ro, .V, 0⟩, ⟨"PEAK", 8, 5, .ro, .K, 0⟩, ⟨"DROPS", 16, 16, .ro, .K, 0⟩]⟩,
  ⟨"TXQ_4", 0x144, 2, 32, [⟨"STALE", 0, 16, .ro, .K, 0⟩]⟩]

def pagePTP_1 : List RegDef :=
 [⟨"TXCFG", 0x148, 2, 32, [⟨"SNET_TS", 0, 1, .rws, .S, 0⟩]⟩,
  ⟨"LAST0", 0x14C, 2, 32, [⟨"ENTRY", 0, 32, .ro, .V, 0⟩]⟩,
  ⟨"LAST1", 0x150, 2, 32, [⟨"ENTRY", 0, 32, .ro, .V, 0⟩]⟩,
  ⟨"LAST2", 0x154, 2, 32, [⟨"ENTRY", 0, 32, .ro, .V, 0⟩]⟩,
  ⟨"LAST3", 0x158, 2, 32, [⟨"ENTRY", 0, 32, .ro, .V, 0⟩]⟩]

def pagePTP : List RegDef := pagePTP_0 ++ pagePTP_1

/-- The registers of the TRIG page (R447). -/
def pageTRIG : List RegDef :=
 [⟨"TCFG", 0x040, 8, 32, [⟨"TB", 0, 2, .rws, .S, 0⟩, ⟨"PERIODIC", 2, 1, .rws, .S, 0⟩, ⟨"INVERT", 3, 1, .rws, .S, 0⟩, ⟨"CLAIM_ONLY", 4, 1, .rws, .S, 0⟩]⟩,
  ⟨"TCTL", 0x044, 8, 32, [⟨"ARM", 0, 1, .rw, .V, 0⟩, ⟨"STAT", 8, 4, .ro, .V, 0⟩]⟩,
  ⟨"TSTART_NS", 0x048, 8, 32, [⟨"NS", 0, 32, .rw, .V, 0⟩]⟩,
  ⟨"TSTART_SEC_LO", 0x04C, 8, 32, [⟨"SEC_LO", 0, 32, .rw, .V, 0⟩]⟩,
  ⟨"TSTART_SEC_HI", 0x050, 8, 32, [⟨"SEC_HI", 0, 16, .rw, .V, 0⟩]⟩,
  ⟨"TPER", 0x054, 8, 32, [⟨"PERIOD_NS", 0, 32, .rw, .V, 0⟩]⟩,
  ⟨"TWID", 0x058, 8, 32, [⟨"WIDTH_NS", 0, 32, .rw, .V, 0⟩]⟩,
  ⟨"TCNT", 0x05C, 8, 32, [⟨"EDGES", 0, 16, .ro, .K, 0⟩, ⟨"MISSED", 16, 16, .ro, .K, 0⟩]⟩,
  ⟨"CCFG", 0x140, 8, 32, [⟨"TB", 0, 2, .rws, .S, 0⟩, ⟨"EDGE", 2, 2, .rws, .S, 0⟩, ⟨"DEGLITCH", 8, 8, .rws, .S, 0⟩]⟩,
  ⟨"CSTAT", 0x144, 8, 32, [⟨"FILL", 0, 4, .ro, .V, 0⟩, ⟨"OVF", 4, 1, .w1c, .V, 0⟩, ⟨"HEAD_RISE", 5, 1, .ro, .V, 0⟩, ⟨"POP", 8, 1, .wo, .V, 0⟩]⟩,
  ⟨"CHEADk_NS", 0x148, 8, 32, [⟨"NS", 0, 32, .ro, .V, 0⟩]⟩,
  ⟨"CHEADk_SEC_LO", 0x14C, 8, 32, [⟨"SEC_LO", 0, 32, .ro, .V, 0⟩]⟩,
  ⟨"CHEADk_SEC_HI", 0x150, 8, 32, [⟨"SEC_HI", 0, 16, .ro, .V, 0⟩]⟩,
  ⟨"CCNT", 0x154, 8, 32, [⟨"CAPTURED", 0, 16, .ro, .K, 0⟩, ⟨"DROPPED", 16, 16, .ro, .K, 0⟩]⟩]

/-- The registers of the CAN page (R458). -/
def pageCAN : List RegDef :=
 [⟨"STATUS", 0x00C, 1, 4, [⟨"STATE", 0, 2, .ro, .V, 3⟩, ⟨"RESTRICTED", 2, 1, .ro, .V, 0⟩, ⟨"SLEEP", 3, 1, .ro, .V, 0⟩, ⟨"LASTING_BO", 4, 1, .ro, .V, 0⟩]⟩,
  ⟨"CMD", 0x040, 1, 4, [⟨"RECOVER", 0, 1, .wo, .V, 0⟩, ⟨"TX_ABORT", 1, 1, .wo, .V, 0⟩, ⟨"SEND", 2, 1, .wo, .V, 0⟩]⟩,
  ⟨"CFG", 0x044, 1, 4, [⟨"EN", 0, 1, .rws, .S, 0⟩, ⟨"ROM", 1, 1, .rws, .S, 0⟩, ⟨"AUTO_RECOVER", 2, 1, .rws, .S, 1⟩, ⟨"SLEEP_EN", 3, 1, .rws, .S, 1⟩, ⟨"FD_EN", 4, 1, .rws, .S, 1⟩, ⟨"TDC_EN", 5, 1, .rws, .S, 1⟩, ⟨"TERM", 6, 1, .rws, .S, 0⟩, ⟨"TDC_OFS", 8, 7, .rws, .S, 30⟩, ⟨"TX_TMO", 16, 16, .rws, .S, 0⟩]⟩,
  ⟨"NBT", 0x048, 1, 4, [⟨"BRP", 0, 9, .rws, .S, 2⟩, ⟨"TSEG1", 16, 9, .rws, .S, 63⟩]⟩,
  ⟨"NBT2", 0x04C, 1, 4, [⟨"TSEG2", 0, 8, .rws, .S, 16⟩, ⟨"SJW", 8, 8, .rws, .S, 16⟩]⟩,
  ⟨"DBT", 0x050, 1, 4, [⟨"BRP", 0, 6, .rws, .S, 1⟩, ⟨"TSEG1", 8, 6, .rws, .S, 29⟩, ⟨"TSEG2", 16, 5, .rws, .S, 10⟩, ⟨"SJW", 24, 5, .rws, .S, 10⟩]⟩,
  ⟨"ERRCNT", 0x054, 1, 4, [⟨"TEC", 0, 8, .ro, .V, 0⟩, ⟨"REC", 8, 8, .ro, .V, 0⟩, ⟨"RP", 16, 1, .ro, .V, 0⟩]⟩,
  ⟨"LATCH", 0x058, 1, 4, [⟨"C_L", 0, 32, .ro, .V, 0⟩]⟩,
  ⟨"LATCH_NS", 0x05C, 1, 4, [⟨"NS", 0, 32, .ro, .V, 0⟩]⟩,
  ⟨"LATCH_SEC_LO", 0x060, 1, 4, [⟨"SEC_LO", 0, 32, .ro, .V, 0⟩]⟩,
  ⟨"LATCH_SEC_HI", 0x064, 1, 4, [⟨"SEC_HI", 0, 16, .ro, .V, 0⟩]⟩,
  ⟨"CNT", 0x068, 1, 4, [⟨"CNT", 0, 32, .ro, .V, 0⟩]⟩,
  ⟨"FRMCNT", 0x070, 1, 4, [⟨"RX", 0, 16, .ro, .K, 0⟩, ⟨"TX", 16, 16, .ro, .K, 0⟩]⟩,
  ⟨"ERRS", 0x074, 1, 4, [⟨"BUS_OFFS", 0, 16, .ro, .K, 0⟩, ⟨"TX_ABANDON", 16, 16, .ro, .K, 0⟩]⟩,
  ⟨"ERRS2", 0x078, 1, 4, [⟨"RX_DROP", 0, 16, .ro, .K, 0⟩, ⟨"ERR_FRAMES", 16, 16, .ro, .K, 0⟩]⟩,
  ⟨"LEC", 0x07C, 1, 4, [⟨"LEC", 0, 3, .ro, .V, 0⟩, ⟨"DLEC", 8, 3, .ro, .V, 0⟩]⟩,
  ⟨"FLT_0", 0x080, 16, 8, [⟨"ID", 0, 29, .rws, .S, 0⟩, ⟨"IDE", 29, 1, .rws, .S, 0⟩, ⟨"EN", 31, 1, .rws, .S, 0⟩]⟩,
  ⟨"FLT_4", 0x084, 16, 8, [⟨"MASK", 0, 29, .rws, .S, 0⟩]⟩,
  ⟨"TXID", 0x100, 1, 4, [⟨"ID", 0, 29, .rw, .V, 0⟩, ⟨"IDE", 29, 1, .rw, .V, 0⟩]⟩,
  ⟨"TXCTL", 0x104, 1, 4, [⟨"LEN", 0, 7, .rw, .V, 0⟩, ⟨"FDF", 8, 1, .rw, .V, 0⟩, ⟨"BRS", 9, 1, .rw, .V, 0⟩, ⟨"ECHO", 10, 1, .rw, .V, 0⟩]⟩,
  ⟨"TXDATA", 0x140, 16, 4, [⟨"DATA", 0, 32, .rw, .V, 0⟩]⟩]

/-- The registers of the ETH page (R108). -/
def pageETH (inst : Nat) : List RegDef :=
 [⟨"MAC_LO", 0x040, 1, 4, [⟨"MAC", 0, 32, .ro, .V, (Config.factoryMac inst % 2 ^ 32)⟩]⟩,
  ⟨"MAC_HI", 0x044, 1, 4, [⟨"MAC", 0, 16, .ro, .V, (Config.factoryMac inst / 2 ^ 32)⟩]⟩,
  ⟨"IPV4", 0x048, 1, 4, [⟨"ADDR", 0, 32, .rws, .S, 0⟩]⟩,
  ⟨"NETMASK", 0x04C, 1, 4, [⟨"MASK", 0, 32, .rws, .S, 0⟩]⟩,
  ⟨"GATEWAY", 0x050, 1, 4, [⟨"GW", 0, 32, .rws, .S, 0⟩]⟩,
  ⟨"RK_CFG", 0x054, 1, 4, [⟨"UDP_PORT", 0, 16, .rws, .S, 19282⟩, ⟨"RK_EN", 16, 1, .rws, .S, 0⟩, ⟨"TIMEOUT", 24, 8, .rws, .S, 30⟩]⟩,
  ⟨"LINK", 0x058, 1, 4, [⟨"SPEED", 0, 2, .ro, .V, 0⟩, ⟨"UP", 2, 1, .ro, .V, 0⟩, ⟨"FULL", 3, 1, .ro, .V, 0⟩]⟩,
  ⟨"RK_STAT", 0x05C, 1, 4, [⟨"OPEN", 0, 4, .ro, .V, 0⟩, ⟨"NOTIFY_LOST", 4, 1, .w1c, .V, 0⟩, ⟨"DROPPED", 16, 16, .ro, .K, 0⟩]⟩]

/-- The registers of the NVM page (R492). -/
def pageNVM : List RegDef :=
 [⟨"STATUS", 0x00C, 1, 4, [⟨"NOR0_OK", 0, 1, .ro, .V, 0⟩, ⟨"NOR1_OK", 1, 1, .ro, .V, 0⟩, ⟨"FRAM_OK", 2, 1, .ro, .V, 0⟩, ⟨"CFG_VALID", 3, 1, .ro, .V, 0⟩, ⟨"MIGRATED", 4, 1, .ro, .V, 0⟩, ⟨"BUSY", 5, 1, .ro, .V, 0⟩]⟩,
  ⟨"CSTORE", 0x040, 1, 4, [⟨"SLOT", 0, 2, .ro, .V, 0⟩, ⟨"PINNED", 2, 1, .ro, .V, 0⟩]⟩,
  ⟨"CSEQ", 0x044, 1, 4, [⟨"SEQ", 0, 32, .ro, .V, 0⟩]⟩,
  ⟨"WEAR", 0x048, 1, 4, [⟨"ERASES", 0, 32, .ro, .L, 0⟩]⟩,
  ⟨"RETIRED", 0x04C, 1, 4, [⟨"SECTORS", 0, 16, .ro, .L, 0⟩]⟩,
  ⟨"FORMATS", 0x050, 1, 4, [⟨"CFG", 0, 8, .ro, .V, 0⟩, ⟨"LJ", 8, 8, .ro, .V, 0⟩, ⟨"SJ", 16, 8, .ro, .V, 0⟩, ⟨"CNT", 24, 8, .ro, .V, 0⟩]⟩,
  ⟨"FORMATS2", 0x054, 1, 4, [⟨"RET", 0, 8, .ro, .V, 0⟩, ⟨"LREG", 8, 8, .ro, .V, 0⟩]⟩]

/-- The registers of the EVREC page (R472). -/
def pageEVREC : List RegDef :=
 [⟨"STATUS", 0x00C, 1, 4, [⟨"FULL", 0, 1, .ro, .V, 0⟩, ⟨"POLICY", 1, 1, .ro, .V, 1⟩, ⟨"MIGRATING", 2, 1, .ro, .V, 0⟩, ⟨"PAUSED", 3, 1, .ro, .V, 0⟩, ⟨"STAGE_FULL", 4, 1, .ro, .V, 0⟩]⟩,
  ⟨"CFG", 0x040, 1, 4, [⟨"POLICY", 0, 1, .rws, .S, 1⟩, ⟨"NOTIFY_SEV", 8, 3, .rws, .S, 5⟩]⟩,
  ⟨"HEAD_LO", 0x044, 1, 4, [⟨"SEQ", 0, 32, .ro, .E, 0⟩]⟩,
  ⟨"HEAD_HI", 0x048, 1, 4, [⟨"SEQ", 0, 32, .ro, .E, 0⟩]⟩,
  ⟨"TAIL_LO", 0x04C, 1, 4, [⟨"SEQ", 0, 32, .ro, .E, 0⟩]⟩,
  ⟨"TAIL_HI", 0x050, 1, 4, [⟨"SEQ", 0, 32, .ro, .E, 0⟩]⟩,
  ⟨"USED", 0x054, 1, 4, [⟨"BYTES", 0, 25, .ro, .E, 0⟩]⟩,
  ⟨"STAGED", 0x058, 1, 4, [⟨"BYTES", 0, 21, .ro, .V, 0⟩]⟩,
  ⟨"DROPS", 0x060, 4, 4, [⟨"SEV_EVEN", 0, 16, .ro, .E, 0⟩, ⟨"SEV_ODD", 16, 16, .ro, .E, 0⟩]⟩,
  ⟨"DISPL", 0x070, 1, 4, [⟨"COUNT", 0, 32, .ro, .E, 0⟩]⟩,
  ⟨"RESERVE", 0x074, 1, 4, [⟨"LEFT", 0, 16, .ro, .E, 0⟩]⟩,
  ⟨"CMD", 0x080, 1, 4, [⟨"LATCH", 0, 1, .wo, .V, 0⟩]⟩,
  ⟨"LHEAD_LO", 0x084, 1, 4, [⟨"SEQ", 0, 32, .ro, .V, 0⟩]⟩,
  ⟨"LHEAD_HI", 0x088, 1, 4, [⟨"SEQ", 0, 32, .ro, .V, 0⟩]⟩,
  ⟨"LTAIL_LO", 0x08C, 1, 4, [⟨"SEQ", 0, 32, .ro, .V, 0⟩]⟩,
  ⟨"LTAIL_HI", 0x090, 1, 4, [⟨"SEQ", 0, 32, .ro, .V, 0⟩]⟩,
  ⟨"RSEQ_LO", 0x094, 1, 4, [⟨"SEQ", 0, 32, .rw, .V, 0⟩]⟩,
  ⟨"RSEQ_HI", 0x098, 1, 4, [⟨"SEQ", 0, 32, .rw, .V, 0⟩]⟩,
  ⟨"FSEQ_LO", 0x09C, 1, 4, [⟨"SEQ", 0, 32, .ro, .V, 0⟩]⟩,
  ⟨"FSEQ_HI", 0x0A0, 1, 4, [⟨"SEQ", 0, 32, .ro, .V, 0⟩]⟩,
  ⟨"RSTAT", 0x0A4, 1, 4, [⟨"SIZE", 0, 11, .ro, .V, 0⟩, ⟨"FOUND", 16, 1, .ro, .V, 0⟩, ⟨"GONE", 17, 1, .ro, .V, 0⟩, ⟨"TORN", 18, 1, .w1c, .V, 0⟩, ⟨"MASKED", 19, 1, .ro, .V, 0⟩]⟩,
  ⟨"WIN", 0x300, 263, 4, [⟨"DATA", 0, 32, .ro, .V, 0⟩]⟩]

/-- The registers of the UPDATE page (R493). -/
def pageUPDATE : List RegDef :=
 [⟨"STATUS", 0x00C, 1, 4, [⟨"STATE", 0, 4, .ro, .V, 0⟩, ⟨"RESULT", 4, 4, .ro, .V, 0⟩, ⟨"TRIAL", 8, 1, .ro, .V, 0⟩, ⟨"FELL_BACK", 9, 1, .ro, .V, 0⟩, ⟨"LATE", 10, 1, .ro, .V, 0⟩, ⟨"MISSED", 11, 1, .w1c, .V, 0⟩, ⟨"BUSY", 12, 1, .ro, .V, 0⟩, ⟨"OWNER", 16, 8, .ro, .V, 0⟩]⟩,
  ⟨"CMD", 0x040, 1, 4, [⟨"OP", 0, 3, .wo, .V, 0⟩, ⟨"ACTIVATE", 4, 1, .wo, .V, 0⟩, ⟨"DISARM", 5, 1, .wo, .V, 0⟩, ⟨"CONFIRM", 6, 1, .wo, .V, 0⟩, ⟨"ACT_MODE", 8, 2, .wo, .V, 0⟩, ⟨"KEY", 16, 16, .wo, .V, 0⟩]⟩,
  ⟨"ADDR", 0x044, 1, 4, [⟨"INDEX", 0, 13, .rw, .V, 0⟩, ⟨"QUARTER", 16, 2, .rw, .V, 0⟩]⟩,
  ⟨"JUB_NS", 0x048, 1, 4, [⟨"NS", 0, 32, .rw, .V, 0⟩]⟩,
  ⟨"JUB_SEC_LO", 0x04C, 1, 4, [⟨"SEC_LO", 0, 32, .rw, .V, 0⟩]⟩,
  ⟨"JUB_SEC_HI", 0x050, 1, 4, [⟨"SEC_HI", 0, 16, .rw, .V, 0⟩]⟩,
  ⟨"CFG", 0x054, 1, 4, [⟨"CONFIRM_S", 0, 12, .rws, .S, 600⟩, ⟨"HOST_CONFIRM", 16, 1, .rws, .S, 0⟩]⟩,
  ⟨"SLOT", 0x058, 2, 4, [⟨"STATE", 0, 3, .ro, .L, 0⟩, ⟨"SVN", 8, 8, .ro, .L, 0⟩, ⟨"MAJ_MIN", 16, 16, .ro, .L, 0⟩]⟩,
  ⟨"VER", 0x060, 2, 4, [⟨"PATCH", 0, 16, .ro, .L, 0⟩]⟩,
  ⟨"BUILD", 0x068, 2, 4, [⟨"BUILD", 0, 32, .ro, .L, 0⟩]⟩,
  ⟨"WINDOW", 0x070, 1, 4, [⟨"LEFT", 0, 12, .ro, .V, 0⟩]⟩,
  ⟨"OTP", 0x074, 1, 4, [⟨"FLOOR", 0, 8, .ro, .E, 0⟩, ⟨"REVOKED", 8, 4, .ro, .E, 0⟩]⟩,
  ⟨"BLOCKS", 0x078, 1, 4, [⟨"RECEIVED", 0, 13, .ro, .V, 0⟩, ⟨"EXPECTED", 16, 13, .ro, .V, 0⟩]⟩,
  ⟨"KEYSEL", 0x07C, 1, 4, [⟨"SLOT", 0, 2, .rw, .V, 0⟩, ⟨"WRITE", 8, 1, .wo, .V, 0⟩]⟩,
  ⟨"KEYDATA", 0x080, 8, 4, [⟨"KEY", 0, 32, .wo, .V, 0⟩]⟩,
  ⟨"WIN", 0x400, 256, 4, [⟨"DATA", 0, 32, .wo, .V, 0⟩]⟩]

/-- The registers of the TESTMUX page (R550). -/
def pageTESTMUX : List RegDef :=
 [⟨"STATUS", 0x00C, 1, 4, [⟨"JTAG_OPEN", 0, 1, .ro, .V, 0⟩, ⟨"GTEST", 1, 1, .ro, .V, 0⟩, ⟨"GRESULT", 4, 4, .ro, .V, 0⟩]⟩,
  ⟨"JTAG", 0x040, 1, 4, [⟨"KEY", 0, 16, .wo, .V, 0⟩, ⟨"UNLOCK", 16, 1, .wo, .V, 0⟩, ⟨"RELOCK", 17, 1, .wo, .V, 0⟩]⟩,
  ⟨"JTAGCFG", 0x044, 1, 4, [⟨"UNLOCK_MIN", 0, 8, .rws, .S, 30⟩]⟩,
  ⟨"SVC", 0x048, 1, 4, [⟨"SVC_TMO", 0, 8, .rws, .S, 60⟩]⟩,
  ⟨"SEL", 0x050, 4, 4, [⟨"SEL", 0, 8, .rw, .V, 0⟩]⟩,
  ⟨"GTEST", 0x060, 1, 4, [⟨"PHASES", 0, 16, .rw, .V, 0⟩, ⟨"GO", 16, 1, .wo, .V, 0⟩, ⟨"GSTOP", 17, 1, .wo, .V, 0⟩]⟩,
  ⟨"GTEST2", 0x064, 1, 4, [⟨"DUTY", 0, 8, .rw, .V, 128⟩, ⟨"DUR_MS", 16, 16, .rw, .V, 100⟩]⟩]

/-- The registers beyond the header of each assigned page (Table 28-1). -/
def pageRegs (page : Nat) : List RegDef :=
  match page with
  | 0x00 => pageCROWN
  | 0x01 => pageWORLD
  | 0x02 => pageSUPPLY
  | 0x03 => pageRESET
  | 0x04 => pageCLOCK
  | 0x05 => pageHOST
  | 0x08 => pageBOUGH
  | 0x09 => pageBOUGH
  | 0x0A => pageBOUGH
  | 0x0B => pageBOUGH
  | 0x0C => pageBOUGH
  | 0x0D => pageBOUGH
  | 0x0E => pageBOUGH
  | 0x0F => pageBOUGH
  | 0x10 => pageSCHED
  | 0x11 => pageQUEUE
  | 0x12 => pageQUEUE2
  | 0x18 => pageRING
  | 0x19 => pageHARVEST
  | 0x1A => pageCELLV
  | 0x1B => pageNODE
  | 0x1C => pagePLAUS
  | 0x1D => pageBAL
  | 0x20 => pagePSTAGE
  | 0x21 => pagePHASE
  | 0x22 => pageLOOP
  | 0x23 => pageTRACK
  | 0x24 => pageCONTACT
  | 0x25 => pageTELEM
  | 0x26 => pageIMPED
  | 0x28 => pageESTIM
  | 0x29 => pageETAB
  | 0x2A => pageLEARN
  | 0x2C => pageTHERM
  | 0x30 => pagePROT
  | 0x31 => pageSAFE
  | 0x32 => pageSNET
  | 0x33 => pageINSUL
  | 0x34 => pageDISP
  | 0x38 => pagePAIR
  | 0x39 => pageCLAIM
  | 0x40 => pageSCAN
  | 0x41 => pageIMAGE
  | 0x42 => pageSTATION
  | 0x48 => pageTIME
  | 0x49 => pagePTP
  | 0x4A => pageTRIG
  | 0x50 => pageCAN
  | 0x51 => pageCAN
  | 0x52 => pageCAN
  | 0x53 => pageCAN
  | 0x58 => pageETH 0
  | 0x59 => pageETH 1
  | 0x60 => pageNVM
  | 0x61 => pageEVREC
  | 0x62 => pageUPDATE
  | 0x70 => pageTESTMUX
  | _ => []

/-- The assigned pages of Table 3-1 (R64). -/
def assignedPages : List Nat :=
  [0x00, 0x01, 0x02, 0x03, 0x04, 0x05, 0x08, 0x09, 0x0A, 0x0B, 0x0C, 0x0D, 0x0E, 0x0F, 0x10, 0x11, 0x12, 0x18, 0x19, 0x1A, 0x1B, 0x1C, 0x1D, 0x20, 0x21, 0x22, 0x23, 0x24, 0x25, 0x26, 0x28, 0x29, 0x2A, 0x2C, 0x30, 0x31, 0x32, 0x33, 0x34, 0x38, 0x39, 0x40, 0x41, 0x42, 0x48, 0x49, 0x4A, 0x50, 0x51, 0x52, 0x53, 0x58, 0x59, 0x60, 0x61, 0x62, 0x70]

/-- The fixed open pages of R84. -/
def fixedOpen : List Nat := [0x00, 0x02, 0x03]

/-- The fixed secure pages of Table 3-1. -/
def fixedSecure : List Nat := [0x01, 0x31, 0x32, 0x38, 0x39, 0x62, 0x70]

end Sys2Proof.Machine.RegTable
end

