-- ==== Sys2Proof/Machine/State.lean ====
section
/-!
DEFINITION. The state of the block as plain data: the register file (live, staged and pending-shadow copies), the state the chapters
give the units beside their registers, what has been sent, and the queue of waiting commands. State.reset is the module right after a
power-on reset of a new unit, at step 1 of Table 2-5.
-/
namespace Sys2Proof.Machine
open Sys2Proof

/-- A fault stop: the block has none, because every command has an effect by the spec (safe: nothing is cut short). -/
inductive Fault
  deriving DecidableEq, Repr

/-- Why a command has no meaning. -/
inductive Refusal
  /-- Raised by an arm of exec for a command this model gives no meaning yet (safe: the run stops). -/
  | notModelled (mnemonic : String)
  deriving DecidableEq, Repr

/-- The eight modes of Table 2-1. -/
inductive Mode
  | transport | standby | connect | run | rest | hold | safe | service
  deriving DecidableEq, Repr

/-- The reset kinds of Table 2-6. -/
inductive ResetKind
  | powerOn | supply | externalPin | watchdog | softwareWarm | pairForced | updateActivation
  deriving DecidableEq, Repr

/-- The reaction classes of Table 16-1. -/
inductive RClass
  | W | L | S | H
  deriving DecidableEq, Repr

/-- What an active protection condition (R328) is about. -/
inductive Cond
  | prot (bit : Nat) | plaus (check : Nat) | loopPlaus (model : Nat) | bypass | weld (k : Nat) | phaseFault (n : Nat)
  | cooling (k : Nat) | tjStage3 | loopOpen | overCurrent | overVoltage | srdInput | srdDisc | envelope | gateReadback
  | clockCross | clockPll | safeClk | snetLoss (n : Nat) | belowMin | scanWatchdog (task : Nat) | islandTest
  deriving DecidableEq, Repr

/-- What an Almanac record is about (R459: its CODE, which the spec does not number). -/
inductive Ev
  | none | notification | reaction | conditionEnd | loadedOpen | weld | srdRequest | hardTrip | srdEnd | safeEntry
  | applyCancelled | relinquished | takeover | envelope | desat | precharge | startLasting | triggerRefused | dipDuringSrd | sdsMove
  | dipInSafe | holdRecovery | holdEnd | crossWorld | authFailure | applied | safeAcknowledged | startRecord | plausLasting | dipRecord
  | transportEntry | fbFault | transientPass | protection | islandOc | islandOv | gateReadback | safeClk | srdDisc | snetLoss
  | snetRequest | snetMismatch | degrade | hallOpen | insulFault | protEnd | clockFault | tj | engineFault | eccUe
  | sramEcc | belowMin | ringCrc | loopNodes | loopWiring | loopBypass | thrWrite | balStop | plausibility | loopOpened
  | cellReset | journalVerify | coolingFault | cntReset | timeStep | ptpLock | clockMon | canBusOff | pairHealth | pairConflict
  | pairIdChange | mirrorLost | linkFault | islandTest | scanWatchdog | canLasting | policyChange | sectorRetired | keyWritten | jubileeMissed
  | activation | confirmed | fallback | bootReplaced | norVerify | jtagUnlocked | svcTimeout | lateCommand | genExhausted
  deriving DecidableEq, Repr

/-- A submission to the Almanac waiting in Q91 (R463). -/
structure Sub where
  sev : Nat
  source : Nat
  ev : Ev
  secure : Bool
  shadow : Bool
  nosync : Bool
  sameEngine : Bool
  sec : Nat
  ns : Nat
  data : List Int
  deriving DecidableEq, Repr

/-- A time base: TB seconds, nanoseconds and fraction (16 bits seen, 32 further bits kept below them). -/
structure TimeBase where
  sec : Nat := 0
  ns : Nat := 0
  frac : Nat := 0
  deriving DecidableEq, Repr

/-- Something the block puts on one of its links. -/
inductive Out
  /-- a mirrored snapshot on the pair link with its sequence number (Table 17-3) -/
  | mirror (seq : Nat) (m : Mirror)
  /-- a claim frame on every claim output: its 33 bits from START on, the first sent the most significant (R352); its echo on the pair link, CLAIM and HB (R356) -/
  | claim (frame : Nat)
  | echo (number hb : Nat)
  /-- a heartbeat on the pair link with READY and the unit bit, none for an open strap -/
  | heartbeat (ready : Bool) (unit : Option Nat)
  /-- the relinquish notice with its cause, the pair-forced reset, a phase-0 boundary with TB0 -/
  | relinquish (cause : Nat)
  | forcedReset
  | boundary (tb0 : TimeBase)
  /-- a UDP datagram on Ethernet port eth -/
  | udp (eth ip port : Nat) (bytes : List Byte)
  /-- a ring frame from port A (0) or B (1): the bytes between SOF and EOF -/
  | ring (port : Nat) (bytes : List Byte)
  /-- a SYNC from both ports: KIND and SEQ of its tag character (R112) -/
  | sync (port tag : Nat)
  /-- the wake sequence on both ports begins or ends -/
  | wake (begins : Bool)
  /-- a PTP message on an Ethernet port: transport IEEE 802.3 or UDP -/
  | ptp (eth : Nat) (l2 : Bool) (bytes : List Byte)
  /-- a CAN frame on a channel: the entry of Table 22-2 -/
  | can (ch : Nat) (bytes : List Byte)
  /-- an ARP reply to an address on an Ethernet port, an ICMP echo reply with the bytes of its request (R100) -/
  | arp (eth ip : Nat)
  | icmp (eth ip : Nat) (bytes : List Byte)
  deriving DecidableEq, Repr

/-- Where the start sequence of Table 2-5 stands (R44, R45, R55). -/
inductive StartPhase
  | unpowered | transport | starting | bootLoader | complete
  deriving DecidableEq, Repr

/-- A transition under way (R40, R54, R245, R554). -/
inductive Transition
  | none | restRamp | disconnect | safeExit | transport
  deriving DecidableEq, Repr

/-- The Crown beside its registers: the start, a transition under way, HOLD and the fast SRD, a reset held off by an apply (R82). -/
structure Crown where
  phase : StartPhase := .starting
  /-- steps 5 to 7 of Table 2-5 carried out; the ring started; too few engines passed step 8, or a step failed twice (R45) -/
  booted : Bool := false
  ringStarted : Bool := false
  startFailed : Bool := false
  /-- the transition under way, and who asked for it (R38) -/
  trans : Transition := .none
  transWho : Initiator := .service
  /-- CONNECT to RUN fell due while an apply was LAUNCHED (R82) -/
  runDue : Bool := false
  /-- the nodes whose FAULT_CLEAR reply is still awaited (R554 step 3) -/
  clearAwait : List Nat := []
  /-- a reset held off until the take-up is complete, with what its start finds (R82) -/
  heldReset : Option (ResetKind × Start) := none
  /-- TB0 milliseconds at HOLD entry, for the duration of the dip (R60) -/
  holdStart : Nat := 0
  /-- wake arms of TRANSPORT (R55) -/
  vauxArmed : Bool := false
  busArmed : Bool := false
  /-- the module's input switch, open in TRANSPORT (R54) -/
  inputOpen : Bool := false
  /-- SDS_IN within its input range (R530), whether enabled or not -/
  sdsIn : Bool := false
  /-- VAUX below 15.5 V (R556) -/
  vauxLow : Bool := false
  /-- a fast SRD has ended in SAFE with VAUX below 15.5 V: the supply reset of Table 2-10 step 5 is due -/
  fromHold : Bool := false
  deriving DecidableEq, Repr

/-- Staging beside its registers (R70 to R82). -/
structure Staging where
  /-- the verdict of the check that runs is void (R74) -/
  voided : Bool := false
  /-- mode and page set at the take-up of the check (R72) -/
  checkMode : Mode := .standby
  /-- failing rules found at the take-up: page, rule, word, cause (R73) -/
  verdict : List (Nat × Nat × Nat × Nat) := []
  /-- phase-0 boundaries left to the launch of an armed apply, for EDGE_KIND 0b00 -/
  lead : Nat := 0
  /-- EDGE_KIND and TASK of the armed apply, its TB0 edge time in ns (R75) -/
  kind : Nat := 0
  task : Nat := 0
  at0 : Int := 0
  /-- pages applied by the launched apply -/
  pages : List Nat := []
  /-- units that have not confirmed their pending shadow (R79) -/
  unloaded : List Nat := []
  /-- the edge has been sent and take-up is not complete (R80) -/
  takeUp : Bool := false
  /-- the 60 s count of the owner is suspended (R70) -/
  suspended : Bool := false
  /-- secure commit: session that commits, step of R89, 0 when none -/
  commitStep : Nat := 0
  commitBy : Initiator := .service
  deriving DecidableEq, Repr

/-- A Ralkiul session (R101 to R107). -/
structure RkSession where
  /-- 0 free, 1 challenged, 2 open -/
  openState : Nat := 0
  /-- world, key and both nonces of the session (R102) -/
  secure : Bool := false
  key : List Byte := []
  clientNonce : List Byte := []
  moduleNonce : List Byte := []
  /-- SEQ last received and last sent (R101) -/
  lastSeq : Nat := 0
  txSeq : Nat := 0
  /-- the last four REQ_IDs and their responses, newest first (R103) -/
  stored : List (Nat × List Byte) := []
  /-- source address, UDP port and Ethernet port of the PROOF -/
  address : Nat := 0
  udpPort : Nat := 0
  eth : Nat := 0
  /-- whether events are notified (R107) -/
  subscribed : Bool := false
  /-- pages whose events wait for the next NOTIFY, the NOTIFY that waits for its acknowledgement, how often it was sent again (R107) -/
  notifyPages : List Nat := []
  outstanding : Option (List (Nat × Nat)) := none
  notifyTries : Nat := 0
  deriving DecidableEq, Repr

/-- A write that waits for a stopped clock domain to run again (R424): its initiator, the register, the data, and of the last word of a Ralkiul WRITE the session, REQ_ID and count of the response that follows it (R104). -/
structure HeldWrite where
  who : Initiator
  addr : Nat
  data : Nat
  answer : Option (Nat × Nat × Nat) := none
  deriving DecidableEq, Repr

/-- The host port beside its registers (R93 to R99), and the limits of cross-world and authentication records (R91, R99). -/
structure HostPort where
  nonce : Option (List Byte) := none
  /-- TB3 ns at which the nonce was given -/
  nonceAt : Nat := 0
  /-- key of the open session (R98) -/
  key : List Byte := []
  /-- ERR of the status word: result of the previous transaction -/
  err : Nat := 0
  /-- status word shifted out in the latest transaction (Table 4-2) -/
  status : Nat := 0
  /-- second of the last cross-world record per session, and accesses not recorded since -/
  xwSec : List (Nat × Nat) := []
  xwSkipped : List (Nat × Nat) := []
  /-- second of the last record of a failed authentication per session, and failures not recorded since (R99) -/
  authSec : List (Nat × Nat) := []
  authSkipped : List (Nat × Nat) := []
  /-- writes not yet taken up by their register's clock domain (PEND of Table 4-2), oldest first -/
  held : List HeldWrite := []
  deriving DecidableEq, Repr

/-- A ring command launched or to be launched (Table 5-3): node or address, CMD, SEQ, payload, whether it is a second attempt (R130), and for an ECHO the port it leaves by (0 down port, 1 the other). -/
structure RingCmd where
  node : Nat
  cmd : Nat
  seq : Nat := 0
  payload : List Byte := []
  second : Bool := false
  port : Option Nat := none
  deriving DecidableEq, Repr

/-- The ring beside its registers (chapter 5), as the unit that originates keeps it. -/
structure Ring where
  /-- last SEQ given, and the TB3 nanosecond of the last launch of each SEQ (R117) -/
  seq : Nat := 255
  seqAt : List (Nat × Nat) := []
  /-- commands held back (R117), commands whose reply is awaited (R118, R130), commands of the sequence under way not yet launched -/
  held : List RingCmd := []
  wait : List RingCmd := []
  todo : List RingCmd := []
  /-- step of an enumeration or re-measurement: 0 none, 1 first ENUM out, 2 second ENUM out, 3 IDENT, 4 FAULT_READ, 5 THR_READ, 6 ECHO, 7 SET_OFS, 8 a keepalive of a BROKEN ring is to show who is reached before the ECHOs -/
  stage : Nat := 0
  /-- the sequence is an enumeration -/
  full : Bool := false
  /-- node counts the two ENUMs of an enumeration brought back (R121) -/
  enum1 : Option Nat := none
  enum2 : Option Nat := none
  /-- nodes that answered IDENT in this enumeration, those of them that are N16 -/
  ident : Nat := 0
  found : Nat := 0
  /-- nodes whose last IDENT gave another TYPE (R3, R122) -/
  foreign : Nat := 0
  /-- per node × 2 + port: echoes returned and sum of their round trips in ns (R124) -/
  echo : List (Nat × (Nat × Nat)) := []
  /-- per node × 2 + port: one-way delay in force, in 1/8 ns -/
  delay : List (Nat × Nat) := []
  /-- a delay shifted in this measurement -/
  shifted : Bool := false
  /-- a re-measurement waits for the next keepalive result -/
  measureDue : Bool := false
  /-- OFS_DOWN and OFS_UP last given to each node (R126), 0xFFFF where never measured -/
  ofs : List (Nat × (Nat × Nat)) := []
  /-- nodes whose NOP reply arrived at the down port and at the other port for the last keepalive -/
  down : Nat := 0
  up : Nat := 0
  /-- a keepalive has ended since origination started, so that those masks hold -/
  heard : Bool := false
  /-- a keepalive is out; runs of keepalives that returned with every node from both ports, that returned with a node silent, that failed, that no node answered -/
  nopOut : Bool := false
  goodRun : Nat := 0
  silentRun : Nat := 0
  failRun : Nat := 0
  deafRun : Nat := 0
  /-- nodes whose thresholds differ from NODE (R136), nodes whose write has failed once (R135) -/
  thrBad : Nat := 0
  thrRetry : Nat := 0
  /-- nodes still to answer the FAULT_READ of an open loop, what was read (node, CAUSE, CELL, TB0 ms), loop current at the opening (R157) -/
  loopRead : Option (List Nat) := none
  loopFound : List (Nat × Nat × Nat × Int) := []
  loopMa : Nat := 0
  /-- a changed NODE_COUNT is to be enumerated at the next mode that permits it (R137) -/
  reEnum : Bool := false
  deriving DecidableEq, Repr

/-- A harvest launched and not closed (R141 to R149). -/
structure Capture where
  hseq : Nat
  /-- SEQ of the SYNC, KIND -/
  seq : Nat
  kind : Nat
  /-- TB0 time and TB3 nanosecond of t0 + C, phase-0 period count at it -/
  sec : Nat
  ns : Nat
  frac : Nat
  at3 : Nat
  period : Nat
  /-- its aperture target, TB3 ns; no later slot was scheduled to carry an aligned harvest (R148) -/
  target : Nat
  noNext : Bool := false
  vStr : Int
  vBus : Int
  iStr : Int
  broken : Bool
  imped : Bool
  resent : Bool := false
  /-- nodes sent a RESEND -/
  asked : List Nat := []
  /-- payload delivered per node × 2 (0x80, 0x82) or node × 2 + 1 (0x81) -/
  got : List (Nat × List Byte) := []
  /-- frames of node × 2 (+ 1) whose copy failed once, with the port it came by -/
  failed : List (Nat × Nat) := []
  deriving DecidableEq, Repr

/-- A harvest record as the services read it (Table 6-4): codes by string cell (precise, coarse), by node (stack), by entry (temperature). -/
structure Record where
  ring : Nat
  eseq : Nat
  hseq : Nat
  kind : Nat
  vp : List Nat
  vc : List Nat
  vs : List Nat
  missing : Nat
  /-- phase-0 period count, aperture in TB0, ring BROKEN -/
  period : Nat
  sec : Nat
  ns : Nat
  frac : Nat
  broken : Bool
  /-- NS and SEC of the aperture in TB0 milliseconds, TB3 nanoseconds -/
  ms : Nat
  at3 : Nat
  vStr : Int
  iStr : Int
  deriving DecidableEq, Repr

/-- The harvest engine beside its registers (chapter 6). -/
structure Harvest where
  /-- last SEQ of a SYNC, HSEQ of the next harvest (R139) -/
  seq : Nat := 15
  hseq : Nat := 0
  /-- slots since the last one that carried a coarse harvest (R140) -/
  since : Nat := 0
  /-- phase-0 periods since the boundary that began the slot -/
  slotP : Nat := 0
  /-- ONESHOT requests that wait, by kind (R141) -/
  oneV : Bool := false
  oneC : Bool := false
  oneT : Bool := false
  /-- a failed C1 or C2 asks for an early VC (R154) -/
  early : Bool := false
  /-- harvests in progress -/
  captures : List Capture := []
  /-- a T harvest is due; T harvests in a row far from every limit (R143) -/
  tDue : Bool := false
  farRun : Nat := 0
  /-- records that wait for their plausibility check -/
  checks : List Record := []
  /-- latest values that records carried, as CELLV shows them without FREEZE: precise, coarse and status (R151) -/
  vp : List Nat := []
  vc : List Nat := []
  vs : List Nat := []
  /-- TB3 ns of the aperture of the latest V or VC record, and of the latest valid code per cell -/
  vAt : Nat := 0
  /-- string current of that record; TB3 ns of the latest T harvest -/
  vI : Int := 0
  tAt : Option Nat := none
  seenAt : List (Nat × Nat) := []
  /-- first failures that await their second attempt: check (1–4) × 1000 + index; consecutive passes per lasting check; lasting checks found, by index -/
  pend : List Nat := []
  passes : List (Nat × Nat) := []
  bad : List Nat := []
  /-- checks (bits 0–3 for C1–C4) that failed at their latest evaluation -/
  failNow : Nat := 0
  /-- second failures of the record under evaluation whose reactions are due: check, index, difference -/
  verdicts : List (Nat × Nat × Int) := []
  /-- first attempts of LOOP_BYPASS (R158): cells beyond the comparator thresholds, 1000 for a node's CAUSE -/
  bypass1 : List Nat := []
  deriving DecidableEq, Repr

/-- Balancing beside its registers (chapter 7). -/
structure Bal where
  /-- BAL_STAT replies awaited by a plan, and by a stop (with nodes stopped once again) -/
  planWait : Option (List Nat) := none
  stopWait : List Nat := []
  stopAgain : List Nat := []
  /-- the latest plan: the timers in s of each node's cells (R166, Table 17-3) -/
  plan : List (Nat × List Nat) := []
  /-- ONTIME last read of each cell in ms, nodes enumerated since their last read (R169) -/
  onMs : List (Nat × Nat) := []
  renewed : Nat := 0
  /-- nodes with RUNNING ≠ 0 at the last read -/
  running : Nat := 0
  /-- nodes UNSUSPENDED once (R172) -/
  unsusp : Nat := 0
  /-- on-time read while the cell had no valid precise code, in ms per cell: its charge is reported with the next read that finds one -/
  bled : List (Nat × Nat) := []
  /-- a node given up unconfirmed by the stop under way (R173) -/
  stopLost : Bool := false
  /-- configured nodes that have not confirmed RUNNING = 0 since the last stop (R259) -/
  running0 : List Nat := []
  /-- a plan is due when the sequence under way, or the HOLD, ends (Table 7-3) -/
  replanDue : Bool := false
  deriving DecidableEq, Repr

/-- The gate edges of one leg in a period, in units of 156.25 ps from the phase-0 boundary (R181 to R184). -/
structure Leg where
  /-- the high side conducts through the period (R184 step 1) -/
  held : Bool := false
  /-- the high side has an ON edge in the period (R184 step 3), ON and the on-time of R181 -/
  pulsed : Bool := false
  on : Int := 0
  tOn : Nat := 0
  /-- intervals of the period in which the leg is on its high and on its low side, dead times counted to the side that turns on (Table 8-3) -/
  high : List (Int × Int) := []
  low : List (Int × Int) := []
  deriving DecidableEq, Repr

/-- A phase controller beside its registers (chapter 8) and its inner instance's freeze (R219). -/
structure Phase where
  /-- command in force (uQ1.15), and those delivered for the next period start and for t_c -/
  u : Nat := 0
  uStart : Option Nat := none
  uCentre : Option Nat := none
  /-- starts switching at its next period boundary -/
  starting : Bool := false
  /-- new interleaving offset and switching period, to be taken at the next period boundary (R186); change of offset in force -/
  newOffset : Option (Nat × Nat) := none
  delta : Int := 0
  /-- switching period in force in CD0 clocks (R178), 0 before the first period -/
  per : Nat := 0
  /-- the two legs in the period (R181) -/
  legA : Leg := {}
  legB : Leg := {}
  /-- start and centre t_c of the period in units, after the phase-0 boundary it belongs to; gate edges before it that may still blank (R188) -/
  pStart : Int := 0
  tC : Int := 0
  past : List Int := []
  /-- periods for which a leg has been held on since its last refresh (R184) -/
  refreshCnt : Nat := 0
  /-- residual of energising operation (R196) -/
  residual : Nat := 0
  /-- trips of the period (R189): bit 0 by the positive, bit 1 by the negative comparator; consecutive tripped periods -/
  cbc : Nat := 0
  tripRun : Nat := 0
  /-- shed ramp period m of step 2 of Table 8-4 -/
  shedM : Option Nat := none
  /-- a cancelled shed ramps the share back (R201) -/
  shedBack : Bool := false
  /-- periods for which the instance stays frozen (R219) -/
  freeze : Nat := 0
  /-- window of M1: excluded, sum of T·v_L, current at its start and last current (2^-16 A) -/
  excluded : Bool := true
  sumVt : Int := 0
  iFirst : Option Int := none
  iLast : Int := 0
  iStart : Int := 0
  /-- commands not ready in a row (Table 17-5 code 0x06) -/
  lateRun : Nat := 0
  deriving DecidableEq, Repr

/-- The power stage beside its registers (chapter 8). -/
structure Pwm where
  phases : List (Nat × Phase) := []
  /-- the gates stop at the next phase-0 boundary, and what follows -/
  stopNext : Bool := false
  /-- offsets are to be spread anew at the next phase-0 boundary -/
  respread : Bool := false
  /-- CD0 clocks for which the shed condition has held since the first sample that met it; burst condition likewise -/
  shedLow : Option Nat := none
  burstLow : Option Nat := none
  /-- burst: periods left of the burst or the off interval, I_dem at its start -/
  burstLeft : Nat := 0
  burstOff : Nat := 0
  /-- a burst ends, or begins, at the next phase-0 boundary (R197) -/
  burstExit : Bool := false
  burstStart : Bool := false
  /-- I_dem of the last outer sample (2^-16 A) -/
  iDem : Int := 0
  /-- interlock asked for (taken at the next phase-0 boundary) -/
  lockNext : Bool := false
  /-- phase-0 period count (R76, Table 6-4), TB3 ns of the last phase-0 boundary -/
  p0 : Nat := 0
  p0At : Nat := 0
  /-- phase-0 periods since OUTER_DIV last ended -/
  outerCnt : Nat := 0
  deriving DecidableEq, Repr

/-- The loop engine beside its registers (chapter 9). Signals are sQ15.16. -/
structure Loop where
  /-- r_eff of instances 16 to 18 (R220) -/
  rEff : List (Nat × Int) := []
  /-- references that start their ramp from the measured value at the next evaluation -/
  rampFrom : List Nat := []
  /-- presets to an output, taken at the next evaluation (R221) -/
  presets : List (Nat × Int) := []
  /-- histories of instances 22 and 23 (R215) -/
  e1 : List (Nat × Int) := []
  e2 : List (Nat × Int) := []
  o1 : List (Nat × Int) := []
  o2 : List (Nat × Int) := []
  /-- measurements of the latest outer sample -/
  vStr : Int := 0
  vBus : Int := 0
  /-- i_cmd and the error of instance 16 at the latest outer sample -/
  iCmd : Int := 0
  e16 : Int := 0
  /-- i_set at HOLD entry (R59) -/
  held : Int := 0
  /-- CD0 clocks since the ramp start of an SRD (R337) -/
  srdClocks : Option Nat := none
  /-- the conflict was raised at this sample -/
  conflict : Bool := false
  /-- plausibility windows: consecutive passes per model, phase of the M1 check -/
  passes : List (Nat × Nat) := []
  /-- sums of M2 and M3 over the window, periods summed, exclusion -/
  sumBus : Int := 0
  sumStr : Int := 0
  excluded : Bool := true
  deriving DecidableEq, Repr

/-- A coil driver of X12 (R234, R235). -/
structure Coil where
  /-- 0 off, 1 pull-in, 2 hold, 3 released for 100 ms before the second attempt -/
  phase : Nat := 0
  /-- closes tried of the present close -/
  attempt : Nat := 0
  /-- the close waits for VCOIL (R234) -/
  waiting : Bool := false
  /-- an open feedback is awaited; second reading under way -/
  opening : Bool := false
  reread : Bool := false
  /-- switched off by over-current until energised anew (R514) -/
  tripped : Bool := false
  /-- hold duty in 1/65536 (R234) -/
  duty : Nat := 0
  deriving DecidableEq, Repr

/-- How a start abort ends (R242, Table 10-3). -/
inductive AbortEnd
  | retry | standby
  deriving DecidableEq, Repr

/-- The tracking start and the orderly disconnect beside their registers (R238 to R245). -/
structure Track where
  coils : List (Nat × Coil) := []
  /-- the pre-checks are to be read again once (code 1) -/
  preReread : Bool := false
  /-- a retried abort has occurred in this start (R242) -/
  retried : Bool := false
  /-- RETRY_WAIT runs -/
  waiting : Bool := false
  /-- instance 18 follows r18 since t_s; CD0 clocks since t_s, or since t_f of a forming or lowering ramp -/
  tracking : Bool := false
  clocks : Nat := 0
  /-- V_link at t_s, V_plant at the feedback closing, V_plant at the lowering request (mV) -/
  vLink0 : Int := 0
  vClose : Int := 0
  vLower0 : Int := 0
  /-- the forming ramp, or the lowering ramp, runs -/
  forming : Bool := false
  /-- step of Table 10-4, 0 none; 6 the bus is to be lowered first, 7 it is being lowered -/
  disc : Nat := 0
  /-- an abort under way with its code and end: waits for the gates to stop (1), for K4 and K5 to open (2), for K1, K2 and K3 to open (3) -/
  aborting : Nat := 0
  abortCode : Nat := 0
  abortEnd : AbortEnd := .standby
  /-- START_AT is awaited in step 7 -/
  awaitStart : Bool := false
  /-- the condition that ends step 4, 8 or 10 has been met (a HOLD holds the step after it, R243) -/
  ended : Bool := false
  /-- the precharge peak lay outside its bounds in HOLD: the abort waits for the recovery (R59, R243) -/
  peakBad : Bool := false
  /-- TB3 instant in ns at which step 4 began (T_PRE of Table 10-5) -/
  preAt : Nat := 0
  /-- a wait of the sequence (a re-read of step 2, RETRY_WAIT, the 100 ms of Table 10-4 step 3) ended in HOLD: what follows it moves contactors and comes at the recovery (R59) -/
  waitDue : Bool := false
  /-- the levels of the feedback inputs of K1–K6 (bit k − 1), before FB_INV; they lie outside the module and survive its resets -/
  pins : Nat := 0
  deriving DecidableEq, Repr

/-- One tone of a cell in the latest result set (Table 11-4). -/
structure Tone where
  re : Int := 0
  im : Int := 0
  u : Nat := 0xFFFF
  flags : Nat := 2
  nwin : Nat := 0
  deriving DecidableEq, Repr

/-- A record of a run that waits for correlation: the record, its UNSUSPENDED nodes, the nodes correlated. -/
structure RunRecord where
  r : Record
  unsusp : List Nat
  done : List Nat
  deriving DecidableEq, Repr

/-- An impedance run beside its registers (chapter 11). -/
structure Imped where
  /-- START taken up, judged at the next outer sample (R251) -/
  startPending : Bool := false
  /-- accepted: waits for the interlock (1), for the start boundary (2) -/
  startStep : Nat := 0
  /-- configuration words captured at the start (R248) -/
  cap : List (Nat × Word) := []
  /-- count of phase-0 periods since the start boundary (R250), and the period count at it -/
  p : Nat := 0
  startP0 : Nat := 0
  /-- RUNS.STARTED at the run's start -/
  run : Nat := 0
  /-- envelope in CD0 clocks, 0 to RAMP_MS × 400,000 -/
  env : Nat := 0
  /-- the interlock is taken again after an add (R253) -/
  relock : Bool := false
  /-- window in progress; it is to be discarded (R254); least and greatest i_set in it -/
  win : Nat := 0
  bad : Bool := false
  iSetMin : Option Int := none
  iSetMax : Option Int := none
  /-- correlated windows of the open set, windows discarded while it is open, its number -/
  good : List Nat := []
  disc : Nat := 0
  set : Nat := 0
  /-- a set that waits to be closed: its windows, windows discarded, whether it is the last -/
  closing : Option (List Nat × Nat × Bool) := none
  /-- the run ended by abort: what is open is to be published as a last set (R255) -/
  lastSet : Bool := false
  /-- records of the run that wait for correlation -/
  recs : List RunRecord := []
  /-- accumulators of a window × 1024 + cell (1023 the string current): samples, Σx, Σn·x, then Σx·cos and −Σx·sin of each tone in 2^−30 -/
  acc : List (Nat × List Int) := []
  /-- per window: aperture of the last record correlated (seconds, nanoseconds, fraction), whether one of its records was taken with the ring BROKEN -/
  ends : List (Nat × ((Nat × Nat × Nat) × Bool)) := []
  /-- the run has been aborted (R255) -/
  aborted : Bool := false
  /-- R259: nodes whose BAL_STAT is awaited at the start and at the close of a set, on-times at the start, cells that bled in the open set, in the one that follows a set waiting to be closed -/
  startWait : List Nat := []
  closeWait : List Nat := []
  on0 : List (Nat × Nat) := []
  bled : List Nat := []
  bledNext : List Nat := []
  /-- tones of the latest set, at cell × 8 + tone -/
  latest : List (Nat × Tone) := []
  deriving DecidableEq, Repr

/-- The state of one cell (chapter 12). SoC in sQ7.24 %, uncertainty in 0.001 %, charge and throughput in nC, bleed charge in mC. -/
structure Cell where
  init : Bool := false
  valid : Bool := false
  noAnchor : Bool := false
  soc : Int := 0
  /-- U_c of the last step, and at the anchor U_a, SoC_a, TB3 ns t_a, throughput Θ_a, bleed charge since -/
  u : Nat := 0
  uA : Nat := 0
  socA : Int := 0
  tA : Int := 0
  thA : Nat := 0
  bleedQ : Nat := 0
  /-- branch: 0 mean, 1 charge, 2 discharge (R272) -/
  branch : Nat := 0
  /-- SoC_ocv of the last anchor fit to learn from, and Σ 100 × q_c / F_CAP since (nC, R280) -/
  ocvA : Option Int := none
  sumN : Int := 0
  /-- resistance factor uQ4.12, updates of capacity and resistance, RF at the last journal write -/
  rf : Nat := 0x1000
  capUpd : Nat := 0
  rfUpd : Nat := 0
  rfWritten : Nat := 0x1000
  /-- T_c of the last step (0.1 °C, none T_NONE), whether from impedance -/
  temp : Option Int := none
  tempImp : Bool := false
  deriving DecidableEq, Repr

/-- A journal slot (R286): its bytes, and the bytes of its commit record. -/
structure JSlot where
  bytes : List Byte := []
  commit : List Byte := []
  deriving DecidableEq, Repr

/-- The estimator and the journals beside their registers (chapter 12). -/
structure Est where
  cells : List (Nat × Cell) := []
  /-- charge counter and TB3 ns at the previous step (R265, R266), none before the first -/
  lastQ : Option Int := none
  lastAt : Nat := 0
  /-- TB0 has stepped back since the previous step (R266) -/
  back : Bool := false
  /-- throughput Θ in nC (R269) -/
  theta : Nat := 0
  /-- TB3 durations in ns: significant charge and discharge current, rest and quasi-rest; anchors made in the present rest -/
  sigChg : Nat := 0
  sigDis : Nat := 0
  restFor : Nat := 0
  qrestFor : Nat := 0
  restMade : Nat := 0
  qrestMade : Nat := 0
  /-- an anchor awaits the record of a requested V harvest: 1 rest, 2 quasi-rest (R276) -/
  anchorDue : Nat := 0
  /-- TB3 ns of that request -/
  dueAt : Nat := 0
  /-- END of the latest impedance set in TB0 ms, internal temperatures of its cells -/
  impEnd : Option Int := none
  impTemp : List (Nat × Int) := []
  /-- bleed charge to be taken in the next step, in mC per cell -/
  bleed : List (Nat × Nat) := []
  /-- the journals: slots 0 and 1 of the learned (l) and the state journal (st) -/
  l : List (Nat × JSlot) := []
  st : List (Nat × JSlot) := []
  /-- a write under way: journal (0 learned, 1 state), slot, REASON; writes that wait -/
  writing : Option (Nat × Nat × Nat) := none
  waiting : List (Nat × Nat) := []
  deferred : List (Nat × Nat) := []
  verifyFailed : Bool := false
  /-- TB3 ns at which the write began, CD10 divided then (R288, R425) -/
  writeAt : Nat := 0
  writeHalf : Bool := false
  deriving DecidableEq, Repr

/-- One cooling output beside its registers (R298 to R300). -/
structure Cool where
  /-- curve duty in % -/
  duty : Nat := 0
  /-- duty computed for the output in %; a standby holds its outputs off (R299) -/
  out : Nat := 0
  /-- 100 ms updates for which that duty has been unchanged -/
  steady : Nat := 0
  /-- the check failed once: TB3 ns of the failure -/
  failedAt : Option Nat := none
  /-- CLR_FAULT written: a passing check clears the fault -/
  clearing : Bool := false
  deriving DecidableEq, Repr

/-- Thermal management beside its registers (chapter 13). -/
structure Therm where
  cool : List (Nat × Cool) := []
  /-- TB3 ns since when BT0 has lain within −28 to +83 °C -/
  norSince : Option Nat := none
  /-- BT0 has been read since reset -/
  norSeen : Bool := false
  /-- last reading was at or above the threshold of stage 3 -/
  hot3 : Bool := false
  /-- TB3 ns from which the second below the threshold of the stage counts -/
  stageAt : Nat := 0
  below : Option Nat := none
  /-- consecutive discards per NTC channel (R522) -/
  discards : List (Nat × Nat) := []
  deriving DecidableEq, Repr

/-- Telemetry beside its registers (chapter 14). -/
structure Tele where
  /-- accumulators in nC and pJ (R309), internal net charge in nC -/
  qIn : Nat := 0
  qOut : Nat := 0
  eIn : Nat := 0
  eOut : Nat := 0
  net : Int := 0
  /-- windows since reset (SEQ of the next) -/
  seq : Nat := 0
  /-- the window in progress overlaps HOLD; its length in ms, none before the first (R307) -/
  hold : Bool := false
  winMs : Option Nat := none
  /-- latched HI registers of Q_IN, Q_OUT, E_IN, E_OUT (R310) -/
  latched : List (Nat × Nat) := []
  /-- the two FRAM counter slots (R311), a write deferred -/
  slots : List (Nat × List Byte) := []
  deferred : Bool := false
  deriving DecidableEq, Repr

/-- Dispatch beside its registers (chapter 15). -/
structure Disp where
  /-- the target was set by an accepted message or TAKE since the last reset (R324) -/
  targetSet : Bool := false
  /-- an accepted set-point that becomes the target at the next outer sample (R320) -/
  newTarget : Option Int := none
  /-- the millisecond evaluations, newest in bit 0, at which i_cmd exceeded a horizon limit, and how many of them (R322): H10_CHG, H60_CHG, H10_DIS, H60_DIS -/
  hist : List (Nat × Nat) := []
  count : List (Nat × Nat) := []
  /-- last accepted SEQ of each source: 1 Ethernet, 2 CAN FD (R318) -/
  lastSeq : List (Nat × Nat) := []
  /-- low 16 bits of the last processed SEQ, and DETAIL of its result -/
  ackSeq : Nat := 0
  detail : Nat := 0
  /-- Ethernet port, address and UDP port of the last accepted message -/
  peer : Option (Nat × Nat × Nat) := none
  /-- SEQ of the next message sent; the IMP_STARTs whose result is awaited, each with the link to answer on and its SEQ where it came as a message -/
  txSeq : Nat := 0
  impWait : List (Option (Via × Nat)) := []
  deriving DecidableEq, Repr

/-- A safe ramp-down in progress (R337, Table 16-4). -/
structure Srd where
  /-- the fast SRD of Table 2-10 -/
  fast : Bool := false
  /-- the latch is to be set at SAFE (Table 16-1), with the event and its source page -/
  latch : Bool := false
  src : Nat := 0x31
  ev : Ev := .none
  /-- a hard trip has taken over -/
  trip : Bool := false
  /-- first sample outside the envelope (step 3) -/
  violated : Bool := false
  /-- island samples since the ramp start -/
  samples : Nat := 0
  deriving DecidableEq, Repr

/-- A copy of a twinned safety message that waits for its twin (R339). -/
structure SafetyCopy where
  port : Nat := 0
  bytes : List Byte := []
  /-- TB3 instant of its arrival in ns -/
  arrived : Nat := 0
  deriving DecidableEq, Repr

/-- One source of the safety network (R339 to R341). -/
structure Source where
  lastSeq : Option Nat := none
  copy : Option SafetyCopy := none
  /-- SEQ of a failed comparison whose second attempt is awaited (R340) -/
  mismatch : Option Nat := none
  deriving DecidableEq, Repr

/-- Protection, the safety island, the safety network and the insulation monitor beside their registers. -/
structure Prot where
  /-- Table 16-2: the checks that failed once, by bit and place: the cell of bits 0 and 1, the phase of bit 7 (R332) -/
  pending : List (Nat × Int) := []
  /-- the places of a lasting verdict whose check has not passed twice running, with the passes so far (R332) -/
  held : List ((Nat × Int) × Nat) := []
  /-- Table 16-3: supervisions that failed at the last sample -/
  islandPending : List Cond := []
  /-- the active conditions (R328) -/
  conds : List (Cond × RClass) := []
  /-- the SRD under way (R334) -/
  srd : Option Srd := none
  /-- the island commands both gate enables on (R335) -/
  enableCmd : Bool := false
  /-- TB3 instants in ns at which the SRD input channels last became energised (R336) -/
  inChange0 : Nat := 0
  inChange1 : Nat := 0
  /-- both SRD input channels have been de-energised since the discrepancy (R336) -/
  bothOff : Bool := true
  /-- SAFECLK runs -/
  safeClk : Bool := true
  /-- the last S or H event with its source page (CAUSE of Table 16-5) -/
  lastSH : Option (Nat × Ev) := none
  /-- the safety sources by number (R339), SEQ of the next message sent -/
  sources : List (Nat × Source) := []
  txSeq : Nat := 0
  /-- the Hall sensor reads as fitted (R504) -/
  hall : Bool := true
  /-- TB3 instant in ns at which a degraded permission ends (R341) -/
  degradeEnd : Nat := 0
  /-- insulation monitor: pole voltages of state A in mV, first failing cycle -/
  insVpA : Int := 0
  insVnA : Int := 0
  insFirst : Bool := false
  /-- cycles in a row at which an INSUL fault verdict's check passed (R332) -/
  insPasses : Nat := 0
  deriving DecidableEq, Repr

/-- The redundant pair beside its registers (chapter 17). -/
structure Pair where
  /-- heartbeat count of the next claim frame; a readback mismatch awaits its second attempt -/
  hb : Nat := 0
  readback : Bool := false
  /-- HB of the last valid partner frame, none after an absence; claim of the partner's echoes, none while silent; a relinquish notice and its cause -/
  rxHb : Option Nat := none
  echo : Option Nat := none
  notice : Option Nat := none
  /-- GEN_EXHAUSTED has been found at a claim-link check (Table 17-5) -/
  exhausted : Bool := false
  /-- highest partner generation seen; unit B waits 50 ms at step 10 (R355) -/
  partnerGen : Nat := 0
  waiting : Bool := false
  /-- the strap reads open; the partner reports the same unit bit -/
  openStrap : Bool := false
  sameUnit : Bool := false
  /-- SEQ of the next snapshot sent and of the last received, per item -/
  txSeq : List (Nat × Nat) := []
  rxSeq : List (Nat × Nat) := []
  /-- the last loop snapshot and its arrival on TB3 in ns; the last of the other items -/
  loop : Option LoopSnap := none
  loopAt : Nat := 0
  /-- the latest of the other mirrored items: estimator cells, scan data by task, Almanac numbers (Table 17-3) -/
  cells : List (List Int) := []
  scanData : List (Nat × List Byte) := []
  almSeqs : List Nat := []
  /-- no mirror format that both units accept (R491) -/
  noMir : Bool := false
  /-- passes in a row per lasting check of Table 17-4 -/
  passes : List (Nat × Nat) := []
  /-- TB3 ns at t0 of a switch-over; it will resume (a gap is open); a forced reset of the partner is due -/
  t0 : Nat := 0
  resume : Bool := false
  freset : Bool := false
  /-- digests of the own records: HSEQ and CRC, newest first -/
  digests : List (Nat × Nat) := []
  deriving DecidableEq, Repr

/-- A task of the scan engine (R371 to R381): the section of the program in effect, instance data by BLOCK_ID (type, bytes), variables, the scan in progress with its start on TB3 in ns and what it will publish (item → mask and value, R372), starts skipped in a row, a stop at the end of the scan in progress. -/
structure ScanTask where
  sect : List Byte := []
  inst : List (Nat × (Nat × List Byte)) := []
  vars : List (Nat × Word) := []
  busy : Bool := false
  startAt : Nat := 0
  newInst : List (Nat × (Nat × List Byte)) := []
  newVars : List (Nat × Word) := []
  writes : List (Nat × (Nat × Nat)) := []
  skips : Nat := 0
  stopping : Bool := false
  /-- TCFGn as the scan in progress took it at its start (R552) -/
  tcfg : Word := 0
  deriving DecidableEq, Repr

/-- A remote station (R386 to R390): newest valid IN frame (inputs, arrival on TB3 in ns), highest OUT SEQ echoed, SEQ of the last OUT frame, SEQ of the first that carried the present outputs, inputs as last latched, inputs as last latched in good quality. -/
structure Station where
  good : Option (List Byte × Nat) := none
  echo : Nat := 0
  seq : Nat := 0
  imgSeq : Nat := 0
  sent : List Byte := []
  latched : List Byte := []
  held : List Byte := []
  deriving DecidableEq, Repr

/-- The scan engine beside its registers (chapter 18). -/
structure Scan where
  /-- a write of the RETAIN data deferred -/
  retainLate : Bool := false
  /-- events that the next scan start of a task presents: task, page, bit (R377) -/
  events : List (Nat × (Nat × Nat)) := []
  /-- scan tasks and stations by number -/
  tasks : List (Nat × ScanTask) := []
  stations : List (Nat × Station) := []
  /-- configuration words, by address, that a station goes on using until it takes up those an apply put in force (R552) -/
  inUse : List (Nat × List (Nat × Word)) := []
  /-- output image words (area 2), marker words 256 and above -/
  out : List (Nat × Word) := []
  markers : List (Nat × Word) := []
  /-- words of the program buffer staged and not applied (R70); of the program in the pending shadow of a launched apply -/
  staged : List (Nat × Word) := []
  shadow : Option (List Byte) := none
  deriving DecidableEq, Repr
/-- An entry of a stream ring (R400): its ESEQ and bytes; the built-in consumer has finished with it; the host port reader has popped it. -/
structure Entry where
  eseq : Nat
  bytes : List Byte
  used : Bool
  popped : Bool
  deriving DecidableEq, Repr

/-- A stream ring (R400): entries that are not overwritten, oldest first, and the ESEQ of the next. -/
structure StreamRing where
  entries : List Entry := []
  next : Nat := 0
  deriving DecidableEq, Repr

/-- A work item (R402, R403): lane, deque it lies in, engine that runs it, epoch, length in operations, world, task of the scan engine it belongs to. -/
structure Item where
  id : Nat
  lane : Nat
  owner : Nat
  runner : Option Nat
  epoch : Nat
  pinned : Bool
  ops : Nat
  secure : Bool
  task : Option Nat
  deriving DecidableEq, Repr

/-- The 64 KiB local SRAM of a branch engine (R398): its words that are not 0, by word index; those that a secure item wrote and nothing has cleared since. -/
structure LocalSram where
  words : List (Nat × Word) := []
  secret : List Nat := []
  deriving DecidableEq, Repr

/-- The branch engines and the stream rings beside their registers (chapter 19). -/
structure Engines where
  /-- work items known, number of the next (R394) -/
  items : List Item := []
  nextItem : Nat := 0
  /-- what each engine runs: item and the epoch it started with (R403) -/
  run : List (Nat × (Nat × Nat)) := []
  /-- steals within a group of eight engines and from other groups, from which SCHED.STEALS shows multiples of 1,024 -/
  stealsLocal : Nat := 0
  stealsRemote : Nat := 0
  /-- stream rings by number (R400) -/
  rings : List (Nat × StreamRing) := []
  /-- local SRAM of each engine -/
  sram : List (Nat × LocalSram) := []
  /-- ESEQ of each session's cursor (R401) -/
  cursor : List (Nat × Nat) := []
  deriving DecidableEq, Repr

/-- A trigger output beside its registers (R442): index of the next leading edge, a pulse in progress, the train ends after it. -/
structure Trig where
  j : Nat := 0
  high : Bool := false
  ending : Bool := false
  deriving DecidableEq, Repr

/-- A foreign master of IEEE 1588-2019: source port identity, data set in order of comparison, stepsRemoved, log interval, arrival of the last two Announces in TB3 ns, UTC offset, flags. -/
structure Foreign where
  src : Nat
  set : List Nat
  steps : Nat
  interval : Int
  last : Nat
  before : Option Nat
  utc : Nat
  flags : Nat
  deriving DecidableEq, Repr

/-- A PTP instance beside its registers (R434 to R438). Stamps are in 2^−16 ns, each with the step count of its time base. -/
structure Ptp where
  foreign : List Foreign := []
  master : Option Nat := none
  /-- a two-step Sync that waits for its Follow_Up: sequenceId, t2, correction -/
  sync : Option (Nat × Int × Int) := none
  /-- the last completed Sync: t1, t2, c_s, step count; its offset waits for the first delay -/
  last : Option (Int × Int × Int × Nat) := none
  due : Bool := false
  /-- first Sync of an acquisition: t1, t2, step count; the acquisition is done -/
  acq : Option (Int × Int × Nat) := none
  acquired : Bool := false
  /-- arrival of the latest Sync -/
  prevT2 : Option Int := none
  /-- I in 2^−32 ppb -/
  integ : Int := 0
  /-- filtered delay -/
  delay : Option Int := none
  /-- LOCKED has been reached; updates in a row within LOCK_NS; an outlier awaits its second attempt -/
  wasLocked : Bool := false
  run : Nat := 0
  outlier : Bool := false
  /-- Delay_Req out: sequenceId of the next, of the one out, its departure (stamp, step count), what its Delay_Resp brought (t4, correction) -/
  seq : Nat := 0
  req : Option Nat := none
  gone : Option (Int × Nat) := none
  resp : Option (Int × Int) := none
  /-- Pdelay_Resp received: t4p, step count, t2p, correction -/
  presp : Option (Int × Nat × Int × Int) := none
  /-- Pdelay_Resp sent and waiting for its entry: sequenceId, requester, t2, correction of the request -/
  answer : Option (Nat × Nat × Int × Int) := none
  deriving DecidableEq, Repr

/-- A transmit timestamp entry (Table 21-3). -/
structure TxStamp where
  kind : Nat
  inst : Nat
  id : Nat
  time : TimeBase
  deriving DecidableEq, Repr

/-- The clock monitor, the time services and the timed pins beside their registers (chapters 20 and 21). -/
structure Times where
  /-- domains whose count failed once (R418) -/
  clkPend : Nat := 0
  /-- steps of each time base since reset -/
  steps : List (Nat × Nat) := []
  /-- triggers by number (R442) -/
  trigs : List (Nat × Trig) := []
  /-- stamps queued per capture input: rising, time -/
  caps : List (Nat × List (Bool × TimeBase)) := []
  /-- PTP instances by number, transmit stamp entries that wait by port (Table 21-3) -/
  ptp : List (Nat × Ptp) := []
  txq : List (Nat × List TxStamp) := []
  deriving DecidableEq, Repr

/-- A CAN channel beside its registers (chapter 22). -/
structure CanCh where
  /-- the next received entry carries LOST_BEFORE -/
  lost : Bool := false
  /-- a bus-off has occurred and no frame has completed without error since (R455); recovery under way -/
  failed : Bool := false
  recovering : Bool := false
  /-- the channel integrates since this count of CD8 (R449) -/
  integ : Option Nat := none
  deriving DecidableEq, Repr

/-- The CAN channels' common counter and its latch pairs (R451). -/
structure Can where
  ch : List (Nat × CanCh) := []
  /-- the counter of CD8 in half nanoseconds -/
  half : Nat := 0
  /-- latch pairs, newest first: counter, TB0, counter at the step of TB0 that the latch follows -/
  pairs : List (Nat × TimeBase × Option Nat) := []
  /-- a step of TB0 awaits its latch: the counter at the step -/
  stepAt : Option Nat := none
  deriving DecidableEq, Repr

/-- A record of the Almanac that is present (R463 to R467): its bytes, severity, whether it lies in the 16 KiB reserve, the NOR sector that holds it (none while only staged), failed NOR verifies. -/
structure AlmRec where
  seq : Nat
  bytes : List Byte
  sev : Nat
  reserve : Bool := false
  sector : Option Nat := none
  fails : Nat := 0
  deriving DecidableEq, Repr

/-- A NOR sector of the Almanac: bytes written since its erase, bytes of them displaced, retired. -/
structure AlmSector where
  id : Nat
  written : Nat := 0
  dead : Nat := 0
  retired : Bool := false
  deriving DecidableEq, Repr

/-- The Almanac beside its registers (chapter 23): records present in SEQ order, sectors in order of their opening, the SEQ of the next record, displaced SEQs not yet reclaimed, what each session's window shows, what R465 found. -/
structure Alm where
  recs : List AlmRec := []
  sectors : List AlmSector := []
  next : Nat := 1
  displaced : List (Nat × Nat) := []
  view : List (Nat × List Byte) := []
  skipped : Option Nat := none
  recovered : Nat := 0
  deriving DecidableEq, Repr
/-- Contents of an image slot (R479): header, block CRC table, body blocks of 4,096 bytes. -/
structure ImageSlot where
  header : List Byte := []
  table : List Byte := []
  blocks : List (Nat × List Byte) := []
  deriving DecidableEq, Repr

/-- A complete entry of the configuration store (R477): class S words and the program object. -/
structure CfgEntry where
  seq : Nat
  format : Nat := 1
  values : List (Nat × Word)
  program : List Byte
  deriving DecidableEq, Repr

/-- The boot record (R483, R485 to R487). -/
structure Boot where
  /-- BOOT (0 slot A, 1 slot B), PREV, a slot to boot at the next reset -/
  slot : Nat := 0
  prev : Option Nat := none
  pendingSlot : Option Nat := none
  trial : Bool := false
  /-- the trial image has not completed a start -/
  first : Bool := false
  /-- ceiling: highest SEQ of a configuration entry that may be loaded; pinned entry slot -/
  ceiling : Option Nat := none
  pinned : Option Nat := none
  /-- seconds of the confirmation window used -/
  used : Nat := 0
  /-- the last activation was late; the last start followed a fallback -/
  late : Bool := false
  fellBack : Bool := false
  deriving DecidableEq, Repr

/-- The migration backup (R488): slots of the items converted, with their formats before. -/
structure Backup where
  l : List (Nat × JSlot) := []
  st : List (Nat × JSlot) := []
  counters : List (Nat × List Byte) := []
  retain : List (Nat × (Nat × List Byte)) := []
  lregs : List (Nat × (Nat × List (Nat × Word))) := []
  /-- item and its former format -/
  items : List (Nat × Nat) := []
  deriving DecidableEq, Repr

/-- The non-volatile stores and the update beside their registers (chapter 24). -/
structure Nvm where
  images : List (Nat × ImageSlot) := []
  /-- complete entries of the configuration store by entry slot (R477) -/
  entries : List (Nat × CfgEntry) := []
  /-- program object in force (R379) -/
  program : List Byte := []
  /-- class L register store: SEQ and words of the two slots (R476) -/
  lregs : List (Nat × (Nat × List (Nat × Word))) := []
  /-- RETAIN data: SEQ and bytes of the two slots (R378) -/
  retain : List (Nat × (Nat × List Byte)) := []
  /-- keys of slots 0 to 3 written in service (R475); a key that waits for the NOR window -/
  keys : List (Nat × List Byte) := []
  keyWait : Option (Nat × List Byte) := none
  /-- the boot record -/
  boot : Boot := {}
  /-- the migration backup (R488) -/
  backup : Option Backup := none
  /-- formats stored (1 where not listed): 0 CFG, 1 LJ, 2 SJ, 3 CNT, 4 RET, 5 LREG -/
  stored : List (Nat × Nat) := []
  /-- erase counts of NOR sectors: image slot × 1,024 + sector of the slot; 2,048 + 32 × entry slot + sector -/
  erases : List (Nat × Nat) := []
  /-- transfer: chunks of the table received, blocks programmed, quarters of the block under way, blocks whose first verify failed, last command of the owner in TB3 ns -/
  chunks : List Nat := []
  blocks : List Nat := []
  part : List (Nat × List Byte) := []
  partBlock : Nat := 0
  lastCmd : Nat := 0
  /-- ACT_MODE of an armed activation (1, 2), stores written for it, a HOLD delays it; an activation waits for an apply, a commit or a disconnect -/
  armed : Nat := 0
  prepared : Bool := false
  delayed : Bool := false
  actWait : Bool := false
  /-- confirmation: step 10 of the first start reached without a lasting failure, a converted configuration entry to be written, newest journal SEQs at that start, the host's CONFIRM -/
  startOk : Bool := false
  convert : Bool := false
  lBase : Nat := 0
  sBase : Nat := 0
  hostOk : Bool := false
  /-- a fallback is held off (R487) -/
  fallDue : Bool := false
  deriving DecidableEq, Repr
/-- Service and test access beside its registers (chapter 27). -/
structure Tmx where
  /-- the gate test switches from the next phase-0 boundary -/
  startNext : Bool := false
  /-- the gate test ends at the next phase-0 boundary -/
  stopNext : Bool := false
  /-- instruction of the test access port, the value it shifts out, pins that follow the boundary register (R546 to R548) -/
  instr : TapOp := .bypass
  tdo : Nat := 0
  forced : List (Nat × Bool) := []
  deriving DecidableEq, Repr

/-- The state of the block. Registers are held by host address; a banked register (R92, R401, R470) of session i at its address + i × 2^20. -/
structure State where
  /-- live registers, listed where they differ from their reset word -/
  regs : List (Nat × Word) := []
  /-- staged copies (R70), listed where staged since the last apply or discard -/
  staged : List (Nat × Word) := []
  /-- values in the pending shadows of a launched apply (R77) -/
  shadow : List (Nat × Word) := []
  /-- commands that wait, first in first out -/
  pending : List Instr := []
  /-- what the block has sent on its links, oldest first -/
  out : List Out := []
  /-- counter from which free values are drawn (the model's own) -/
  free : Nat := 0
  /-- result of the last register access (Table 4-5) and the value of the last register read -/
  accErr : Nat := 0
  readData : List Word := []
  /-- latest readings of the measurement bough -/
  meas : Readings := {}
  /-- time bases TB0 to TB3 (R428) -/
  tb : List (Nat × TimeBase) := []
  /-- the state of modes and starts, and of staging, beside the registers -/
  crown : Crown := {}
  stg : Staging := {}
  /-- submissions waiting in Q91 (R463) -/
  q91 : List Sub := []
  /-- the state of a unit beside its registers, one part for each; its structure says what the part holds -/
  pwm : Pwm := {}
  loop : Loop := {}
  track : Track := {}
  prot : Prot := {}
  host : HostPort := {}
  rk : List (Nat × RkSession) := []
  scan : Scan := {}
  imp : Imped := {}
  est : Est := {}
  tmx : Tmx := {}
  disp : Disp := {}
  eng : Engines := {}
  ringSt : Ring := {}
  harv : Harvest := {}
  bal : Bal := {}
  therm : Therm := {}
  tele : Tele := {}
  nvm : Nvm := {}
  time : Times := {}
  can : Can := {}
  pair : Pair := {}
  alm : Alm := {}
  deriving DecidableEq, Repr

/-- The module right after a power-on reset, at step 1 of Table 2-5: every register at its reset value, nothing staged, no command waiting. -/
def State.reset : State := {}

end Sys2Proof.Machine
end

