-- ==== Sys2Proof/Machine/Ops.lean ====
section
/-!
DEFINITION. The named operations over the register file, the modes, the events, the Almanac and the links that every family shares.
-/
namespace Sys2Proof.Machine
open Sys2Proof

/-! ## The register file -/

/-- The level of the unit that serves a page (R68). -/
def pageLevel (page : Nat) : Nat :=
  if [0x22, 0x19, 0x48, 0x49, 0x4A, 0x31, 0x32].contains page then 3
  else if [0x08, 0x09, 0x0A, 0x0B, 0x0C, 0x0D, 0x0E, 0x0F, 0x20, 0x21, 0x23, 0x24, 0x18, 0x1A, 0x1B, 0x1C, 0x1D, 0x25, 0x33,
      0x05, 0x58, 0x59, 0x50, 0x51, 0x52, 0x53].contains page then 4
  else 5

/-- A page of Table 3-1 (R64). -/
def assigned (page : Nat) : Bool := RegTable.assignedPages.contains page

/-- The category of a page (R84): 0 fixed open, 1 configurable, 2 fixed secure or reserved. -/
def pageCategory (page : Nat) : Nat :=
  if RegTable.fixedOpen.contains page then 0
  else if RegTable.fixedSecure.contains page || !assigned page then 2
  else 1

/-- The event bits a page defines (the EVT_STATUS lists of the subject chapters). -/
def evtMask (page : Nat) : Nat :=
  match page with
  | 0x04 => 0xF | 0x08 | 0x09 | 0x0A | 0x0B | 0x0C | 0x0D | 0x0E | 0x0F => 0x3F
  | 0x10 => 0xF | 0x11 | 0x12 | 0x1A => 0x1 | 0x18 => 0xFF | 0x19 => 0x3F | 0x1B => 0x1F | 0x1C => 0x7 | 0x1D => 0x1F
  | 0x20 => 0x7F | 0x21 => 0xFFFFFFFF | 0x22 => 0xFF | 0x23 => 0x1FF | 0x24 => 0x3F | 0x25 => 0x1F | 0x26 => 0x7F
  | 0x28 => 0x3F | 0x2A => 0x3F | 0x2C => 0xFF | 0x30 => 0x1FF01FF | 0x31 => 0x3F | 0x32 => 0x1F | 0x33 => 0xF | 0x34 => 0x3F
  | 0x38 => 0xFF | 0x39 => 0x1F | 0x40 => 0x1FF | 0x41 => 0x1 | 0x42 => 0x7 | 0x48 => 0xFF | 0x49 => 0x3FF | 0x4A => 0xFFFFFFFF
  | 0x50 | 0x51 | 0x52 | 0x53 => 0x1FF | 0x60 => 0xF | 0x61 => 0x3F | 0x62 => 0xFF | 0x70 => 0x1F
  | _ => 0

/-- The runs of event bits of a page, as lowest bit and width. -/
def evtRuns (page : Nat) : List (Nat × Nat) :=
  if page = 0x30 then [(0, 9), (16, 9)] else if evtMask page = 0 then [] else [(0, Nat.log2 (evtMask page) + 1)]

/-- The event bits of a page as fields of EVT_STATUS or EVT_ENABLE; the other bits are reserved (R15, R66). -/
def evtFields (page : Nat) (acc : Access) (cls : Cls) : List FieldDef :=
  (evtRuns page).map fun (lo, width) => ⟨"EVENTS", lo, width, acc, cls, 0⟩

/-- The header registers of an assigned page (Tables 3-2 to 3-5) with their reset values. -/
def headerRegs (page : Nat) : List RegDef :=
  [⟨"PAGE_ID", 0x000, 1, 4, [⟨"PAGE", 0, 8, .ro, .V, page⟩, ⟨"LEVEL", 8, 8, .ro, .V, pageLevel page⟩, ⟨"PRODUCT", 16, 16, .ro, .V, 0x0512⟩]⟩,
   ⟨"PAGE_VER", 0x004, 1, 4, [⟨"MINOR", 0, 8, .ro, .V, 0⟩, ⟨"MAJOR", 8, 8, .ro, .V, 1⟩]⟩,
   ⟨"EVT_STATUS", 0x010, 1, 4, evtFields page .w1c .V⟩,
   ⟨"EVT_ENABLE", 0x014, 1, 4, evtFields page .rws .S⟩,
   ⟨"EVT_ROUTE", 0x018, 1, 4, [⟨"IRQ", 0, 1, .rws, .S, 0⟩, ⟨"NOTIFY", 1, 1, .rws, .S, 0⟩, ⟨"SCAN", 2, 1, .rws, .S, 0⟩, ⟨"ALMANAC", 3, 1, .rws, .S, 0⟩]⟩,
   ⟨"WORLD_ATTR", 0x01C, 1, 4, [⟨"ATTR", 0, 2, .ro, .V, pageCategory page⟩, ⟨"FIXED", 2, 1, .ro, .V, if pageCategory page = 1 then 0 else 1⟩,
      ⟨"LOCKED", 3, 1, .ro, .V, 0⟩, ⟨"PENDING", 4, 1, .ro, .V, 0⟩]⟩,
   ⟨"STAGE_CTRL", 0x020, 1, 4, [⟨"DIRTY", 0, 1, .ro, .V, 0⟩, ⟨"DISCARD", 1, 1, .wo, .V, 0⟩, ⟨"FROZEN", 2, 1, .ro, .V, 0⟩]⟩,
   ⟨"STAGE_ERR", 0x024, 1, 4, [⟨"RULE", 0, 16, .ro, .V, 0⟩, ⟨"WORD", 16, 9, .ro, .V, 0⟩, ⟨"CAUSE", 28, 4, .ro, .V, 0⟩]⟩,
   ⟨"RETRY_CNT", 0x028, 1, 4, [⟨"COUNT", 0, 16, .ro, .K, 0⟩, ⟨"CLR", 31, 1, .wo, .V, 0⟩]⟩,
   ⟨"LASTING", 0x02C, 1, 4, [⟨"CODE", 0, 16, .ro, .K, 0⟩, ⟨"COUNT", 16, 8, .ro, .K, 0⟩, ⟨"CLR", 31, 1, .wo, .V, 0⟩]⟩]

/-- The register at a host address of the register space, none where the address is undefined (R63, R65). A page's own definition of a header offset governs (CROWN). -/
def regAt (addr : Nat) : Option RegDef :=
  if assigned (pageOf addr) then
    match findReg (RegTable.pageRegs (pageOf addr)) (offOf addr) with
    | some r => some r
    | none => findReg (headerRegs (pageOf addr)) (offOf addr)
  else none

/-- The reset word of a register (the Reset column), 0 where nothing is defined. -/
def resetWord (addr : Nat) : Word :=
  match regAt (addr % 2 ^ 20) with
  | some r => Word.ofNat (fieldsReset r.fields)
  | none => 0

/-- The live word of a register. -/
def State.word (s : State) (addr : Nat) : Word := mget (resetWord addr) s.regs addr

/-- A state with the live word of a register replaced. -/
def State.setWord (s : State) (addr : Nat) (w : Word) : State := { s with regs := mset (resetWord addr) s.regs addr w }

/-- The value of a field in the live registers. -/
def State.rd (s : State) (f : Fld) : Nat := f.get (s.word f.addr)

/-- A state with a field of the live registers replaced. -/
def State.wr (s : State) (f : Fld) (n : Nat) : State := s.setWord f.addr (f.put (s.word f.addr) n)

/-- A configuration field of a station as the station uses it (R552): of the words it still holds from before an apply, else of those in force. -/
def State.rdStation (s : State) (n : Nat) (f : Fld) : Nat :=
  match s.scan.inUse.find? (·.1 == n) with
  | some (_, l) => f.get (mget (s.word f.addr) l f.addr)
  | none => s.rd f

/-- A field read as a two's-complement number. -/
def State.rdI (s : State) (f : Fld) : Int := signedOf f.width (s.rd f)

/-- A field written as a two's-complement number, limited to its range. -/
def State.wrI (s : State) (f : Fld) (i : Int) : State := s.wr f (encodeSigned f.width (satSigned f.width i))

/-- A flag field. -/
def State.on (s : State) (f : Fld) : Bool := s.rd f != 0

/-- A flag field written. -/
def State.wrB (s : State) (f : Fld) (b : Bool) : State := s.wr f (if b then 1 else 0)

/-- A counter field raised, saturating (R17). -/
def State.bump (s : State) (f : Fld) (n : Nat := 1) : State := s.wr f (satCount f.width (s.rd f + n))

/-- One bit of a mask field. -/
def State.bit (s : State) (f : Fld) (k : Nat) : Bool := (s.rd f).testBit k

/-- One bit of a mask field written. -/
def State.wrBit (s : State) (f : Fld) (k : Nat) (b : Bool) : State :=
  s.wr f (if b then s.rd f ||| 2 ^ k else s.rd f - (if (s.rd f).testBit k then 2 ^ k else 0))

/-- The field of bits n to n + w − 1 of a register of a page. -/
def pageFld (page off lo width : Nat) : Fld := ⟨page * 4096 + off, lo, width⟩

/-! ## Sparse tables of the units -/

/-- One phase controller. -/
def State.phase (s : State) (n : Nat) : Phase := mget {} s.pwm.phases n

/-- A state with one phase controller replaced. -/
def State.setPhase (s : State) (n : Nat) (p : Phase) : State := { s with pwm := { s.pwm with phases := mset {} s.pwm.phases n p } }

/-- One coil driver, K1 to K6. -/
def State.coil (s : State) (k : Nat) : Coil := mget {} s.track.coils k

/-- A state with one coil driver replaced. -/
def State.setCoil (s : State) (k : Nat) (c : Coil) : State := { s with track := { s.track with coils := mset {} s.track.coils k c } }

/-- One time base. -/
def State.timeBase (s : State) (n : Nat) : TimeBase := mget {} s.tb n

/-- TB0 in nanoseconds. -/
def State.tb0 (s : State) : Int := (s.timeBase 0).sec * 1000000000 + (s.timeBase 0).ns

/-! ## Modes -/

/-- The mode an encoding of CROWN.MODE names (Table 2-4). -/
def Mode.ofCode : Nat → Mode
  | 0 => .transport | 1 => .standby | 2 => .connect | 3 => .run | 4 => .rest | 5 => .hold | 6 => .safe | _ => .service

/-- The encoding of a mode (Table 2-4). -/
def Mode.code : Mode → Nat
  | .transport => 0 | .standby => 1 | .connect => 2 | .run => 3 | .rest => 4 | .hold => 5 | .safe => 6 | .service => 7

/-- The mode of the module. -/
def State.mode (s : State) : Mode := Mode.ofCode (s.rd F.CROWN_MODE_MODE)

/-- The mode that governs the converter: in HOLD the mode before it (Table 2-1). -/
def State.effMode (s : State) : Mode := if s.mode = .hold then Mode.ofCode (s.rd F.CROWN_MODE_PREV) else s.mode

/-- A change of mode: PREV takes the mode left (Table 2-4). -/
def State.setMode (s : State) (m : Mode) : State := (s.wr F.CROWN_MODE_PREV s.mode.code).wr F.CROWN_MODE_MODE m.code

/-! ## Almanac, events, links -/

/-- A record handed to the Almanac (R463): it waits in Q91 with the TB0 time of its event (R461). SECURE is set, because the built-in services act in the secure world (R85). -/
def State.record (s : State) (sev source : Nat) (ev : Ev) (data : List Int := []) (same : Bool := false) : State :=
  { s with q91 := s.q91 ++ [{ sev := sev, source := source, ev := ev, secure := true, shadow := s.rd F.PAIR_STATUS_ROLE == 2,
                              nosync := s.rd (F.TIME_CMD_SYNCED 0) == 0, sameEngine := same,
                              sec := (s.timeBase 0).sec, ns := (s.timeBase 0).ns, data := data }] }

/-- A page's EVT_STATUS as a field. -/
def evtStatus (page : Nat) : Fld := pageFld page 0x010 0 32

/-- The attribute in force of a page (R84, R86). -/
def State.attr (s : State) (page : Nat) : Nat :=
  s.rd ⟨0x01040 + 4 * (page / 16), 2 * (page % 16), 2⟩

/-- A notification of a page's event (R69): NOTIFY marks every subscribed session that may receive it (for an event banked to a session, that session alone: R416), SCAN presents it to the scan engine, ALMANAC records it. -/
def State.notify (s : State) (page bit : Nat) (session : Option Nat := none) : State :=
  let route := s.rd (pageFld page 0x018 0 4)
  let s := if route.testBit 1 then
      { s with rk := s.rk.map fun (i, x) => (i, if x.subscribed && x.openState == 2 && (s.attr page == 0 || x.secure) && session.all (· == 0x10 + i)
                                                then { x with notifyPages := x.notifyPages.eraseDups.filter (· != page) ++ [page],
                                                                notifyTries := if x.outstanding.isNone then 0 else x.notifyTries } else x) } else s
  let s := if route.testBit 2 then { s with scan := { s.scan with events := s.scan.events ++ ((List.range 4).map fun t => (t, (page, bit))).filter fun e => !s.scan.events.contains e } } else s
  if route.testBit 3 then s.record 2 page .notification [(bit : Int)] else s

/-- An event bit of a page set (R69): a notification is raised when the bit changes from 0 to 1 while it is enabled. -/
def State.raise (s : State) (page bit : Nat) : State :=
  if s.bit (evtStatus page) bit then s
  else
    let s' := s.wrBit (evtStatus page) bit true
    if s.bit (pageFld page 0x014 0 32) bit then s'.notify page bit else s'

/-- A field of a register banked per session (R92): the copy of session i lies at the address of the register plus i × 2^20. -/
def Fld.bank (f : Fld) (session : Nat) : Fld := { f with addr := f.addr + session * 2 ^ 20 }

/-- An event of a page whose EVT_STATUS and EVT_ENABLE are banked (R416) set for one session. -/
def State.raiseBank (s : State) (session page bit : Nat) : State :=
  if s.bit ((evtStatus page).bank session) bit then s
  else
    let s' := s.wrBit ((evtStatus page).bank session) bit true
    if s.bit ((pageFld page 0x014 0 32).bank session) bit then s'.notify page bit (some session) else s'

/-- Something put on a link. -/
def State.send (s : State) (o : Out) : State := { s with out := s.out ++ [o] }

/-- The place of a mirrored item among the items of Table 17-3. -/
def mirrorItem : Mirror → Nat
  | .loop _ => 0 | .estimator _ => 1 | .digest .. => 2 | .dispatch .. => 3 | .onTime _ => 4 | .impedRun .. => 5 | .impedSet _ => 6 | .almanac _ => 7
  | .scan t _ => 8 + t
  | .formats .. => 12
  | .plan _ => 13

/-- The active unit mirrors an item over the pair link with its next sequence number (R357). -/
def State.mirror (s : State) (m : Mirror) : State :=
  if s.rd F.PAIR_STATUS_ROLE == 1 && s.on F.PAIR_STATUS_LINK_UP then
    let k := mirrorItem m
    let q := mget 0 s.pair.txSeq k
    { s with pair := { s.pair with txSeq := mset 0 s.pair.txSeq k ((q + 1) % 2 ^ 32) } }.send (.mirror q m)
  else s

/-- A second-attempt pass of a page (R410): RETRY_CNT counts it and the Almanac records it at severity 1. -/
def State.retryPass (s : State) (page : Nat) : State := (s.bump (pageFld page 0x028 0 16)).record 1 page .transientPass

/-- A pending check voided (R412). -/
def State.voidCheck (s : State) (n : Nat := 1) : State := s.bump F.SCHED_TMO_SA_VOID n

/-- The code of an Almanac event that a 16-bit register holds (R460). -/
def evCode (source : Nat) (ev : Ev) : Nat := Config.almCode source ev.ctorIdx % 65536

/-- A lasting fault of a page: LASTING takes its code and counts it (Table 3-4). -/
def State.lasting (s : State) (page : Nat) (code : Nat) : State := (s.wr (pageFld page 0x02C 0 16) code).bump (pageFld page 0x02C 16 8)

/-- A lasting verdict without a reaction class, so of class W (R410): LASTING, and a record at severity 3. -/
def State.lastingW (s : State) (page : Nat) (ev : Ev) (data : List Int := []) (same : Bool := false) : State :=
  (s.lasting page (evCode page ev)).record 3 page ev data same

/-- A free value of the model: the next of the sequence that nothing constrains. -/
def State.drawFree (s : State) : Nat × State := (Config.freeValue s.free, { s with free := s.free + 1 })

/-- The 16-bit fraction of a nanosecond that a time base shows. -/
def TimeBase.frac16 (t : TimeBase) : Nat := t.frac / 2 ^ 32

/-- Whether an initiator acts in the secure world (R85). -/
def State.secureOf (s : State) : Initiator → Bool
  | .host => s.on F.HOST_SESS_SECURE
  | .ralkiul i => (mget {} s.rk i.val).secure
  | .service => true
  | .scanProgram => false
  | .dispatch => false
  | .pairLink => true

/-- A field as captured at the start of the latest run (R248), in force before any. -/
def State.capRd (s : State) (f : Fld) : Nat :=
  match s.imp.cap.find? (·.1 == f.addr) with
  | some (_, w) => f.get w
  | none => s.rd f

/-- An armed activation disarmed; the slot stays VERIFIED (R485). -/
def State.disarm (s : State) : State :=
  let s := if s.nvm.armed != 0 then s.wr F.UPDATE_STATUS_STATE 5 else s
  { s with nvm := { s.nvm with armed := 0, prepared := false, delayed := false, boot := { s.nvm.boot with pendingSlot := none } } }

/-- An erase of a NOR sector counted (NVM.WEAR). -/
def State.erase (s : State) (sector : Nat) : State :=
  let n := mget 0 s.nvm.erases sector + 1
  let s := { s with nvm := { s.nvm with erases := mset 0 s.nvm.erases sector n } }
  if n > s.rd F.NVM_WEAR_ERASES then s.wr F.NVM_WEAR_ERASES (satCount 32 n) else s

/-! ## Cooling outputs -/

/-- One cooling output. -/
def State.cool (s : State) (k : Nat) : Cool := mget {} s.therm.cool k

/-- A state with one cooling output replaced. -/
def State.setCool (s : State) (k : Nat) (c : Cool) : State := { s with therm := { s.therm with cool := mset {} s.therm.cool k c } }

/-- The cooling outputs driven with their computed duty by the unit that holds the claim, solo included, from step 10 of Table 2-5 on and outside TRANSPORT; else held off as in Table 1-5 (R299, R30). -/
def State.driveCool (s : State) : State :=
  let on := s.crown.phase == .complete && s.mode != .transport && (s.rd F.PAIR_STATUS_ROLE == 0 || s.rd F.PAIR_STATUS_ROLE == 1)
  (List.range 6).foldl (fun (s : State) k => s.wr (F.THERM_COOL_C_DUTY k) (if on then (s.cool k).out else 0)) s

/-! ## CAN channels at a change of their state -/

/-- The CD8 counter (R451), counting every 12.5 ns. -/
def State.cd8 (s : State) : Nat := s.can.half / 25 % 2 ^ 32

/-- One channel. -/
def State.canCh (s : State) (c : Nat) : CanCh := mget {} s.can.ch c

/-- A state with one channel replaced. -/
def State.setCanCh (s : State) (c : Nat) (x : CanCh) : State := { s with can := { s.can with ch := mset {} s.can.ch c x } }

/-- An enabled channel that is not bus-off begins to integrate: STATE 3 until 11 consecutive recessive bits have passed (R449). -/
def State.canIntegrate (s : State) (c : Nat) : State :=
  if s.on (F.CAN_CFG_EN c) && s.rd (F.CAN_STATUS_STATE c) != 2 then
    (s.wr (F.CAN_STATUS_STATE c) 3).setCanCh c { s.canCh c with integ := some s.cd8 }
  else s

/-- The module is supplied and out of TRANSPORT, so that its ports answer. -/
def State.portsLive (s : State) : Bool := s.mode != .transport && s.crown.phase != .unpowered && s.crown.phase != .transport

/-- IP runs on an Ethernet port: its link is up and it has an address (Table 4-7). -/
def State.ipUp (s : State) (p : Nat) : Bool := s.portsLive && s.on (F.ETH_LINK_UP p) && s.rd (F.ETH_IPV4_ADDR p) != 0

/-- LASTSEQ: the last accepted SEQ of the source in force, 0 where none has been accepted (Table 15-3). -/
def State.showLastSeq (s : State) : State := s.wr F.DISP_LASTSEQ_SEQ (mget 0 s.disp.lastSeq (s.rd F.DISP_CFG_SRC))

/-- Engine e is in service, laggards included. -/
def State.inService (s : State) (e : Nat) : Bool := s.bit (F.BOUGH_STATUS_IN_SERVICE (e / 8)) (e % 8)

/-- The engines in service. -/
def State.serving (s : State) : List Nat := (List.range 64).filter s.inService

/-- A lasting verdict of a check on the branch engines carries SAME_ENGINE where no other engine was in service (R411). -/
def State.sameEngine (s : State) : Bool := decide (s.serving.length ≤ 1)

end Sys2Proof.Machine
end

