-- ==== Sys2Proof/Machine/Access.lean ====
section
/-!
DEFINITION. Access to the register space: the world check and its records (R84 to R91), and the plain effect of a write on the fields of a
live register (Table 0-4).
-/
namespace Sys2Proof.Machine
open Sys2Proof

/-- The module's monotonic time in nanoseconds: TB3 (R428). -/
def State.mono (s : State) : Nat := (s.timeBase 3).sec * 1000000000 + (s.timeBase 3).ns

/-- A cross-world access (R90, R91): counted, shown, recorded at severity 5 at most once per second and session, with the accesses not recorded since. -/
def State.crossWorld (s : State) (who : Initiator) (addr : Nat) (write : Bool) : State :=
  let s := (((s.bump F.WORLD_XW_COUNT_COUNT).wr F.WORLD_XW_LAST_ADDR addr).wrB F.WORLD_XW_LAST_WRITE write).wr F.WORLD_XW_LAST_SESSION who.id
  let now := s.mono
  let skipped := mget 0 s.host.xwSkipped who.id
  match s.host.xwSec.find? (·.1 == who.id) with
  | some (_, t) =>
    if now < t + 1000000000 then { s with host := { s.host with xwSkipped := mset 0 s.host.xwSkipped who.id (skipped + 1) } }
    else { s.record 5 0x01 .crossWorld [who.id, addr, if write then 1 else 0, skipped] with
           host := { s.host with xwSec := mins (mdel s.host.xwSec who.id) who.id now, xwSkipped := mset 0 s.host.xwSkipped who.id 0 } }
  | none => { s.record 5 0x01 .crossWorld [who.id, addr, if write then 1 else 0, skipped] with
              host := { s.host with xwSec := mins s.host.xwSec who.id now, xwSkipped := mset 0 s.host.xwSkipped who.id 0 } }

/-- A failed authentication (R99): recorded at severity 5, at most once per second and session, with the failures not recorded since, as in R91. -/
def State.authFailed (s : State) (session : Nat) : State :=
  let now := s.mono
  let skipped := mget 0 s.host.authSkipped session
  let full : State := { s.record 5 0x05 .authFailure [session, skipped] with
                host := { s.host with authSec := mins (mdel s.host.authSec session) session now, authSkipped := mset 0 s.host.authSkipped session 0 } }
  match s.host.authSec.find? (·.1 == session) with
  | some (_, t) =>
    if now < t + 1000000000 then { s with host := { s.host with authSkipped := mset 0 s.host.authSkipped session (skipped + 1) } } else full
  | none => full

/-- The address at which an initiator's copy of a register lies (R92): every register of the QREAD page but EVT_ROUTE (R416) and those of EVREC from 0x080 (R472) are banked per session. -/
def bankAddr (who : Initiator) (a : Nat) : Nat :=
  if (pageOf a == 0x12 && offOf a != 0x018) || (pageOf a == 0x61 && offOf a ≥ 0x080 && offOf a < 0x800) then a + who.id * 2 ^ 20 else a

/-- A write of a register waits for its clock domain (R424): the registers of PSTAGE, PHASE, LOOP (CD0) and TELEM (CD1) in dormant STANDBY, in which those domains are stopped (Table 20-1). Which page lies in which domain is read from R205, R185 and R308 (DEDUCED, notes/assumptions/75.md). -/
def State.crossingStopped (s : State) (a : Nat) : Bool :=
  s.on F.CROWN_MODE_DORMANT && [0x20, 0x21, 0x22, 0x25].contains (pageOf a) && (offOf a == 0x010 || (decide (offOf a ≥ 0x040) && decide (offOf a < 0x800)))

/-- A write towards its register: held while the register's clock domain is stopped, or behind one that is held for the same page (R424), else made. -/
def State.crossing (s : State) (who : Initiator) (a data : Nat) (k : State → State) : State :=
  if s.crossingStopped a || s.host.held.any (fun h => pageOf h.addr == pageOf a) then
    { s with host := { s.host with held := s.host.held ++ [{ who := who, addr := a, data := data }] } }
  else k s

/-- Whether an initiator may access a page (R85, R86): ATTR 0b00 either world, 0b01 secure write, 0b10 secure only. -/
def State.worldPermits (s : State) (who : Initiator) (page : Nat) (write : Bool) : Bool :=
  s.secureOf who || s.attr page == 0 || (s.attr page == 1 && !write)

/-- The boot loader accepts only an update (R45): of the writes, those to UPDATE; the others are refused as frozen (DESIGN CHOICE, notes/assumptions/74.md). -/
def State.bootBars (s : State) (addr : Nat) (write : Bool) : Bool := s.crown.phase == .bootLoader && write && pageOf addr != 0x62

/-- The result code of Table 4-5 that bars an access before it is looked at: 0 when none does. -/
def State.barred (s : State) (who : Initiator) (addr : Nat) (write : Bool) : Nat :=
  if !assigned (pageOf addr) then 0x01
  else if s.bootBars addr write then 0x04
  else if addr % 4 ≠ 0 then 0x05
  else match who with
    | .host => if !s.secureOf who && !s.on F.HOST_CFG_NS_OPEN then 0x06 else if s.worldPermits who (pageOf addr) write then 0x00 else 0x02
    | .ralkiul i => if (mget {} s.rk i.val).openState ≠ 2 then 0x07 else if s.worldPermits who (pageOf addr) write then 0x00 else 0x02
    | _ => if s.worldPermits who (pageOf addr) write then 0x00 else 0x02

/-- The result of an access left where its initiator reads it (R108): HOST.LAST_ERR keeps the last non-zero result of the host port. -/
def State.result (s : State) (who : Initiator) (addr code : Nat) : State :=
  let s := { s with accErr := code }
  match who with
  | .host =>
    let s := { s with host := { s.host with err := code } }
    if code = 0 then s else (s.wr F.HOST_LAST_ERR_CODE code).wr F.HOST_LAST_ERR_ADDR addr
  | _ => s

/-- A refused access: the result code, and the cross-world account where the world forbids it (R90). -/
def State.refuseAccess (s : State) (who : Initiator) (addr : Nat) (write : Bool) (code : Nat) : State :=
  let s := s.result who addr code
  if code = 0x02 then s.crossWorld who addr write else s

/-- A write to a register by an initiator: refused by page, session or world (R65, R90, R97), else the effect. -/
def State.asWrite (s : State) (who : Initiator) (addr : Nat) (k : State → State) : State :=
  let code := s.barred who addr true
  if code = 0 then k (s.result who addr 0) else s.refuseAccess who addr true code

/-- A read of a register by an initiator, with the side effect the register gives it. -/
def State.asRead (s : State) (who : Initiator) (addr : Nat) (k : State → State) : State :=
  let code := s.barred who addr false
  if code = 0 then k (s.result who addr 0) else { s.refuseAccess who addr false code with readData := [0] }

/-- The new value of one field under a write of a word to the live register (Table 0-4): RW takes the value, W1C clears the bits written 1, every other access code keeps it. -/
def fieldWrite (f : FieldDef) (old : Word) (data : Nat) : Nat :=
  let fl : Fld := ⟨0, f.lo, f.width⟩
  let o := fl.get old
  let d := data / 2 ^ f.lo % 2 ^ f.width
  match f.acc with
  | .rw => d
  | .w1c => o - (o &&& d)
  | _ => o

/-- A word after a write of data to the live register of a definition. -/
def regWrite (fs : List FieldDef) (old : Word) (data : Nat) : Word :=
  fs.foldl (fun w f => (⟨0, f.lo, f.width⟩ : Fld).put w (fieldWrite f old data)) old

/-- A write of data to a live register: only its RW and W1C fields change (R14, R15). -/
def State.writeFields (s : State) (addr data : Nat) : State :=
  match regAt addr with
  | some r => s.setWord addr (regWrite r.fields (s.word addr) data)
  | none => s

/-- What a read of a field returns: 0 for a WO field (Table 0-4). -/
def readMask (fs : List FieldDef) : Nat := fieldMask (fun f => f.acc != .wo) fs

end Sys2Proof.Machine
end

