-- ==== Sys2Proof/Machine/Crypto.lean ====
section
/-!
DEFINITION. Byte strings, the check codes of R116 and R459, and the hash, the message code and the signature check that the links and the
update use (HMAC-SHA-256; ECDSA P-256 of FIPS 186-4, R478).
-/
namespace Sys2Proof.Machine
open Sys2Proof

/-! ## Bytes -/

/-- The byte that holds a number modulo 256. -/
def byte (n : Nat) : Byte := BitVec.ofNat 8 n

/-- A number as n bytes, most significant first (R12: links). -/
def be : Nat → Nat → List Byte
  | 0, _ => []
  | n + 1, x => byte (x / 256 ^ n) :: be n x

/-- A number as n bytes, least significant first (R12: memories and registers). -/
def le : Nat → Nat → List Byte
  | 0, _ => []
  | n + 1, x => byte x :: le n (x / 256)

/-- A two's-complement number as n bytes, most significant first. -/
def beI (n : Nat) (x : Int) : List Byte := be n (x % 256 ^ n).toNat

/-- A two's-complement number as n bytes, least significant first. -/
def leI (n : Nat) (x : Int) : List Byte := le n (x % 256 ^ n).toNat

/-- The number that bytes spell, most significant first. -/
def ofBe (l : List Byte) : Nat := l.foldl (fun a b => a * 256 + b.toNat) 0

/-- The number that bytes spell, least significant first. -/
def ofLe (l : List Byte) : Nat := l.foldr (fun b a => b.toNat + a * 256) 0

/-- The number in n bytes at an offset, most significant first; bytes beyond the end read 0. -/
def beAt (l : List Byte) (off n : Nat) : Nat := ofBe (((List.range n).map fun i => (l[off + i]?).getD 0))

/-- The number in n bytes at an offset, least significant first. -/
def leAt (l : List Byte) (off n : Nat) : Nat := ofLe (((List.range n).map fun i => (l[off + i]?).getD 0))

/-- A two's-complement number in n bytes at an offset, most significant first. -/
def beIAt (l : List Byte) (off n : Nat) : Int := let x := beAt l off n; if 2 * x < 256 ^ n then (x : Int) else (x : Int) - 256 ^ n

/-- The bytes of an ASCII text. -/
def ascii (t : String) : List Byte := t.toList.map fun c => byte c.toNat

/-! ## Check codes -/

/-- One step of a most-significant-first CRC of width w. -/
def crcStep (w poly : Nat) (r : Nat) (_ : Nat) : Nat :=
  if r.testBit (w - 1) then (2 * r % 2 ^ w) ^^^ poly else 2 * r % 2 ^ w

/-- A most-significant-first CRC of width w. -/
def crcMsb (w poly init : Nat) (l : List Byte) : Nat :=
  l.foldl (fun r b => (List.range 8).foldl (crcStep w poly) (r ^^^ (b.toNat * 2 ^ (w - 8)))) init

/-- HCRC: polynomial 0x2F, initial 0xFF, final XOR 0xFF (R116). -/
def crc8 (l : List Byte) : Nat := crcMsb 8 0x2F 0xFF l ^^^ 0xFF

/-- CRC-16 of the Almanac: polynomial 0x1021, initial 0xFFFF (R459). -/
def crc16 (l : List Byte) : Nat := crcMsb 16 0x1021 0xFFFF l

/-- CRC-32C, reflected, initial and final XOR 0xFFFF_FFFF (R116); 0x82F6_3B78 is the polynomial 0x1EDC_6F41 reflected. -/
def crc32c (l : List Byte) : Nat :=
  l.foldl (fun r b => (List.range 8).foldl (fun r _ => if r % 2 = 1 then (r / 2) ^^^ 0x82F63B78 else r / 2) (r ^^^ b.toNat)) 0xFFFFFFFF ^^^ 0xFFFFFFFF

/-! ## SHA-256 and HMAC -/

/-- The round constants of SHA-256. -/
def shaK : List Nat :=
  [0x428A2F98, 0x71374491, 0xB5C0FBCF, 0xE9B5DBA5, 0x3956C25B, 0x59F111F1, 0x923F82A4, 0xAB1C5ED5,
   0xD807AA98, 0x12835B01, 0x243185BE, 0x550C7DC3, 0x72BE5D74, 0x80DEB1FE, 0x9BDC06A7, 0xC19BF174,
   0xE49B69C1, 0xEFBE4786, 0x0FC19DC6, 0x240CA1CC, 0x2DE92C6F, 0x4A7484AA, 0x5CB0A9DC, 0x76F988DA,
   0x983E5152, 0xA831C66D, 0xB00327C8, 0xBF597FC7, 0xC6E00BF3, 0xD5A79147, 0x06CA6351, 0x14292967,
   0x27B70A85, 0x2E1B2138, 0x4D2C6DFC, 0x53380D13, 0x650A7354, 0x766A0ABB, 0x81C2C92E, 0x92722C85,
   0xA2BFE8A1, 0xA81A664B, 0xC24B8B70, 0xC76C51A3, 0xD192E819, 0xD6990624, 0xF40E3585, 0x106AA070,
   0x19A4C116, 0x1E376C08, 0x2748774C, 0x34B0BCB5, 0x391C0CB3, 0x4ED8AA4A, 0x5B9CCA4F, 0x682E6FF3,
   0x748F82EE, 0x78A5636F, 0x84C87814, 0x8CC70208, 0x90BEFFFA, 0xA4506CEB, 0xBEF9A3F7, 0xC67178F2]

/-- The initial hash of SHA-256. -/
def shaInit : List Nat := [0x6A09E667, 0xBB67AE85, 0x3C6EF372, 0xA54FF53A, 0x510E527F, 0x9B05688C, 0x1F83D9AB, 0x5BE0CD19]

/-- Right rotation of a 32-bit number. -/
def rotr32 (x n : Nat) : Nat := (x / 2 ^ n) ||| (x * 2 ^ (32 - n) % 2 ^ 32)

/-- The message schedule of a block, newest word first, from its sixteen words newest first. -/
def shaSchedule : Nat → List Nat → List Nat
  | 0, w => w
  | n + 1, w =>
    let a := w.getD 14 0
    let b := w.getD 1 0
    let s0 := rotr32 a 7 ^^^ rotr32 a 18 ^^^ (a / 8)
    let s1 := rotr32 b 17 ^^^ rotr32 b 19 ^^^ (b / 1024)
    shaSchedule n (((w.getD 15 0 + s0 + w.getD 6 0 + s1) % 2 ^ 32) :: w)

/-- One round of SHA-256 on the eight working numbers. -/
def shaRound (h : List Nat) (kw : Nat × Nat) : List Nat :=
  match h with
  | [a, b, c, d, e, f, g, x] =>
    let t1 := (x + (rotr32 e 6 ^^^ rotr32 e 11 ^^^ rotr32 e 25) + ((e &&& f) ^^^ ((2 ^ 32 - 1 - e) &&& g)) + kw.1 + kw.2) % 2 ^ 32
    let t2 := ((rotr32 a 2 ^^^ rotr32 a 13 ^^^ rotr32 a 22) + ((a &&& b) ^^^ (a &&& c) ^^^ (b &&& c))) % 2 ^ 32
    [(t1 + t2) % 2 ^ 32, a, b, c, (d + t1) % 2 ^ 32, e, f, g]
  | _ => h

/-- The hash after a block of sixteen words. -/
def shaBlock (h w : List Nat) : List Nat :=
  let ws := (shaSchedule 48 w.reverse).reverse
  (h.zip ((shaK.zip ws).foldl shaRound h)).map fun (a, b) => (a + b) % 2 ^ 32

/-- The first n blocks of 64 bytes hashed in order. -/
def shaBlocks : Nat → List Nat → List Byte → List Nat
  | 0, h, _ => h
  | n + 1, h, l => shaBlocks n (shaBlock h ((List.range 16).map fun i => beAt l (4 * i) 4)) (l.drop 64)

/-- SHA-256. -/
def sha256 (l : List Byte) : List Byte :=
  let pad := (119 - l.length % 64) % 64
  let m := l ++ [0x80] ++ List.replicate pad 0 ++ be 8 (8 * l.length)
  (shaBlocks (m.length / 64) shaInit m).flatMap (be 4)

/-- HMAC-SHA-256. -/
def hmac (key l : List Byte) : List Byte :=
  let k := if key.length > 64 then sha256 key else key
  let k := k ++ List.replicate (64 - k.length) 0
  sha256 (k.map (· ^^^ 0x5C) ++ sha256 (k.map (· ^^^ 0x36) ++ l))

/-- HMAC-SHA-256 truncated to n bytes. -/
def tag (n : Nat) (key l : List Byte) : List Byte := (hmac key l).take n

/-! ## ECDSA P-256 (FIPS 186-4) -/

/-- The field prime of P-256. -/
def p256P : Nat := 0xFFFFFFFF00000001000000000000000000000000FFFFFFFFFFFFFFFFFFFFFFFF

/-- The group order of P-256. -/
def p256N : Nat := 0xFFFFFFFF00000000FFFFFFFFFFFFFFFFBCE6FAADA7179E84F3B9CAC2FC632551

/-- The coefficient b of P-256. -/
def p256B : Nat := 0x5AC635D8AA3A93E7B3EBBD55769886BC651D06B0CC53B0F63BCE3C3E27D2604B

/-- The base point of P-256. -/
def p256G : Nat × Nat :=
  (0x6B17D1F2E12C4247F8BCE6E563A440F277037D812DEB33A0F4A13945D898C296, 0x4FE342E2FE1A7F9B8EE7EB4A7C0F9E162BCE33576B315ECECBB6406837BF51F5)

/-- b^e modulo m, over the bits of e that the fuel covers. -/
def powMod (m : Nat) : Nat → Nat → Nat → Nat
  | 0, _, _ => 1
  | k + 1, b, e => let r := powMod m k (b * b % m) (e / 2); if e % 2 = 1 then b * r % m else r

/-- The inverse of a number modulo a 256-bit prime. -/
def invMod (m x : Nat) : Nat := powMod m 256 (x % m) (m - 2)

/-- The sum of two points of P-256; none is the point at infinity. -/
def p256Add : Option (Nat × Nat) → Option (Nat × Nat) → Option (Nat × Nat)
  | none, q => q
  | q, none => q
  | some (x1, y1), some (x2, y2) =>
    if x1 = x2 ∧ (y1 + y2) % p256P = 0 then none
    else
      let l := if x1 = x2 then (3 * x1 * x1 + p256P - 3) * invMod p256P (2 * y1) % p256P
        else (y2 + p256P - y1) * invMod p256P (x2 + p256P - x1) % p256P
      let x := (l * l + 2 * p256P - x1 - x2) % p256P
      some (x, (l * (x1 + p256P - x) + p256P - y1) % p256P)

/-- k times a point, over the bits of k that the fuel covers. -/
def p256Mul : Nat → Nat → Option (Nat × Nat) → Option (Nat × Nat)
  | 0, _, _ => none
  | f + 1, k, q => let r := p256Mul f (k / 2) (p256Add q q); if k % 2 = 1 then p256Add q r else r

/-- Whether r and s sign the message under a public key (FIPS 186-4). -/
def ecdsaVerify (qx qy r s : Nat) (msg : List Byte) : Bool :=
  let onCurve := qx < p256P && qy < p256P && (qy * qy) % p256P == (qx * qx * qx + (p256P - 3) * qx + p256B) % p256P
  if onCurve && 0 < r && r < p256N && 0 < s && s < p256N then
    let w := invMod p256N s
    let u1 := ofBe (sha256 msg) * w % p256N
    let u2 := r * w % p256N
    match p256Add (p256Mul 256 u1 (some p256G)) (p256Mul 256 u2 (some (qx, qy))) with
    | some (x, _) => x % p256N == r
    | none => false
  else false

end Sys2Proof.Machine
end

