-- ==== Sys2Proof/Machine/Queues.lean ====
section
/-!
DEFINITION. The stream rings of R399 to R401 and the work items and deques of R402 and R403 as operations.
-/
namespace Sys2Proof.Machine
open Sys2Proof

/-! ## Stream rings -/

/-- The stream ring of queue q. -/
def State.ring (s : State) (q : Nat) : StreamRing := mget {} s.eng.rings q

/-- A state with one stream ring replaced. -/
def State.setRing (s : State) (q : Nat) (r : StreamRing) : State := { s with eng := { s.eng with rings := mset {} s.eng.rings q r } }

/-- Bytes an entry occupies with its header (R400). -/
def Entry.size (e : Entry) : Nat := e.bytes.length + 8

/-- Bytes of entries. -/
def entryBytes (l : List Entry) : Nat := (l.map Entry.size).foldl (· + ·) 0

/-- The space of an entry is released (R400): the built-in consumer has finished, and with HOLD the host port reader has popped it. -/
def State.released (s : State) (q : Nat) (e : Entry) : Bool := e.used && (e.popped || !s.on (F.QUEUE_QCFG_HOLD (q - 96)))

/-- A FILL and its PEAK (Table 19-6). -/
def State.setFill (s : State) (q n : Nat) : State :=
  let s := s.wr (F.QUEUE_QSTAT_FILL q) (satCount 16 n)
  if n > s.rd (F.QUEUE_QSTAT_PEAK q) then s.wr (F.QUEUE_QSTAT_PEAK q) (satCount 16 n) else s

/-- FILL of a stream ring: entries that wait for release. -/
def State.refill (s : State) (q : Nat) : State :=
  s.setFill q ((s.ring q).entries.filter fun e => !s.released q e).length

/-- Entries from the oldest on that are overwritten until the rest fits in a size. -/
def overwrite (size : Nat) : List Entry → List Entry
  | [] => []
  | e :: t => if entryBytes (e :: t) ≤ size then e :: t else overwrite size t

/-- The sessions that read a ring. -/
def State.readersOf (s : State) (q : Nat) : List Nat :=
  (s.eng.cursor.map (·.1)).filter fun i => s.rd (F.QREAD_RSEL_RING.bank i) == q - 96

/-- A cursor whose entry has been overwritten before it was popped (R401): OVERRUN, TORN where the window showed it, RLOST, and the cursor at the oldest entry present. -/
def State.overrun (s : State) (q i : Nat) : State :=
  let c := mget 0 s.eng.cursor i
  match (s.ring q).entries with
  | [] => s
  | e :: _ =>
    if (s.ring q).entries.any (·.eseq == c) || c == (s.ring q).next then s
    else
      let s := ((s.wrB (F.QREAD_RSTAT_OVERRUN.bank i) true).wrB (F.QREAD_RSTAT_TORN.bank i) true).bump (F.QREAD_RLOST_LOST.bank i) ((e.eseq + 2 ^ 32 - c) % 2 ^ 32)
      let s := s.raiseBank i 0x12 0
      { s with eng := { s.eng with cursor := mins (mdel s.eng.cursor i) i e.eseq } }

/-- An entry pushed to a stream ring (R400): refused, dropped and counted where it would overwrite space not yet released. The result tells whether it was taken. -/
def State.push (s : State) (q : Nat) (bytes : List Byte) (used : Bool) : State × Bool :=
  let r := s.ring q
  let size := s.rd (F.QUEUE_QCFG_SIZE_KIB (q - 96)) * 1024
  let e : Entry := { eseq := r.next, bytes := bytes, used := used, popped := false }
  let held := entryBytes (r.entries.dropWhile fun x => s.released q x)
  if held + e.size > size then ((s.bump (F.QUEUE_DROP_DROPPED (q - 96))).raise 0x11 0, false)
  else
    let s := s.setRing q { entries := overwrite size (r.entries ++ [e]), next := (r.next + 1) % 2 ^ 32 }
    (((s.readersOf q).foldl (fun s i => s.overrun q i) s).refill q, true)

/-- The built-in consumer of a ring finishes with an entry. -/
def State.consume (s : State) (q eseq : Nat) : State :=
  let r := s.ring q
  (s.setRing q { r with entries := r.entries.map fun e => if e.eseq = eseq then { e with used := true } else e }).refill q

/-- The entry at a session's cursor, none where there is none yet. -/
def State.atCursor (s : State) (i : Nat) : Option Entry :=
  match s.eng.cursor.find? (·.1 == i) with
  | some (_, c) => (s.ring (96 + s.rd (F.QREAD_RSEL_RING.bank i))).entries.find? (·.eseq == c)
  | none => none

/-- The cursor of a session moves to the oldest entry present of a ring, or to the next one to come. -/
def State.selectRing (s : State) (i ring : Nat) : State :=
  let r := s.ring (96 + ring)
  let c := match r.entries with
    | [] => r.next
    | e :: _ => e.eseq
  { s.wr (F.QREAD_RSEL_RING.bank i) ring with eng := { s.eng with cursor := mins (mdel s.eng.cursor i) i c } }

/-- The cursor of a session advances by one entry and OFS returns to 0; a pop by the host port releases the entry where HOLD holds it. -/
def State.popEntry (s : State) (i : Nat) : State :=
  match s.atCursor i with
  | none => s.wr (F.QREAD_ROFS_OFS.bank i) 0
  | some e =>
    let q := 96 + s.rd (F.QREAD_RSEL_RING.bank i)
    let r := s.ring q
    let s := if i = 1 then
        (s.setRing q { r with entries := r.entries.map fun x => if x.eseq = e.eseq then { x with popped := true } else x }).refill q
      else s
    { s.wr (F.QREAD_ROFS_OFS.bank i) 0 with eng := { s.eng with cursor := mins (mdel s.eng.cursor i) i ((e.eseq + 1) % 2 ^ 32) } }

/-- A word of an entry: bytes 4k to 4k + 3, least significant first, 0 beyond its length (R401). -/
def entryWord (bytes : List Byte) (k : Nat) : Word := Word.ofNat (leAt bytes (4 * k) 4)

/-! ## Engines in service -/

/-- State of engine e: 0 in service, 1 laggard, 2 retired, 3 permanent, 4 testing. -/
def State.engState (s : State) (e : Nat) : Nat := s.rd (F.BOUGH_ENG_0_STATE (e / 8) (e % 8))

/-- Engine e carries the laggard mark. -/
def State.isLaggard (s : State) (e : Nat) : Bool := s.bit (F.BOUGH_STATUS_LAGGARD (e / 8)) (e % 8)

/-- Whether engine e runs nothing. -/
def State.idle (s : State) (e : Nat) : Bool := !(s.eng.run.any (·.1 == e))

/-- Items that wait in the deque of engine e. -/
def State.deque (s : State) (e : Nat) : List Item := s.eng.items.filter fun i => i.owner == e && i.runner.isNone

/-- DEPTH and FILL of every deque, WAITING and PEAK of every lane. -/
def State.refreshDeques (s : State) : State :=
  let s := (List.range 64).foldl (fun s e => let n := (s.deque e).length
    ((s.wr (F.BOUGH_ENG_0_DEPTH (e / 8) (e % 8)) (satCount 8 n)).setFill e n)) s
  (List.range 7).foldl (fun s j =>
    let n := (s.eng.items.filter fun i => i.lane == j && i.runner.isNone).length
    let s := s.wr (F.SCHED_LANE_WAITING j) (satCount 16 n)
    if n > s.rd (F.SCHED_LANE_PEAK j) then s.wr (F.SCHED_LANE_PEAK j) (satCount 16 n) else s) s

/-- The engine of a list with the deepest deque in a lane among its unpinned items, the lowest-numbered where depths are equal. -/
def State.deepest (s : State) (lane : Nat) (l : List Nat) : Option Nat :=
  (l.foldl (fun (b : Option Nat × Nat) e =>
    let n := ((s.deque e).filter fun i => i.lane == lane && !i.pinned).length
    if n > b.2 then (some e, n) else b) (none, 0)).1

/-- The item engine e finds in a lane (R402): the head of its own deque, then the tail of a deque of its bough, then of boughs b + 1, b + 2 and onwards; a laggard steals only while its deque is empty. -/
def State.findItem (s : State) (e lane : Nat) : Option Item :=
  match (s.deque e).find? (·.lane == lane) with
  | some i => some i
  | none =>
    if s.isLaggard e && !(s.deque e).isEmpty then none
    else
      let bough (b : Nat) : List Nat := ((List.range 8).map fun k => 8 * (b % 8) + k).filter (· != e)
      ((List.range 8).map fun d => bough (e / 8 + d)).findSome? fun l =>
        match s.deepest lane l with
        | some v => ((s.deque v).filter fun i => i.lane == lane && !i.pinned).getLast?
        | none => none

/-- A graft counted: the item's epoch rises by one and it lies with another engine (R403). -/
def State.graft (s : State) (id target : Nat) : State :=
  { s.bump F.SCHED_GRAFTS_COUNT with eng := { s.eng with items := s.eng.items.map fun i =>
      if i.id = id then { i with owner := target, runner := none, epoch := (i.epoch + 1) % 2 ^ 32 } else i } }

/-- The local SRAM of an engine that starts an item (R398): before a non-secure item every word that a secure item wrote is cleared; what the item writes is a free value. -/
def LocalSram.start (m : LocalSram) (secure : Bool) (writes : List (Nat × Word)) : LocalSram :=
  let w := writes.filter fun x => decide (x.1 < 16384)
  let kept := if secure then m.words else m.secret.foldl (fun l k => mset 0 l k 0) m.words
  { words := w.foldl (fun l x => mset 0 l x.1 x.2) kept, secret := if secure then m.secret ++ (w.map (·.1)).filter (fun k => !m.secret.contains k) else [] }

/-- The local SRAM of engine e takes a new content. -/
def State.setSram (s : State) (e : Nat) (m : LocalSram) : State := { s with eng := { s.eng with sram := mset {} s.eng.sram e m } }

/-- An idle engine in service takes its next item (R402); one that lay with another engine is stolen. -/
def State.takeItem (s : State) (e : Nat) : State :=
  if !s.inService e || !s.idle e then s
  else match (List.range 7).findSome? (s.findItem e) with
    | none => s
    | some i =>
      let s := if i.owner = e then s
        else
          let s := s.graft i.id e
          let s := if i.owner / 8 = e / 8 then { s with eng := { s.eng with stealsLocal := s.eng.stealsLocal + 1 } }
            else { s with eng := { s.eng with stealsRemote := s.eng.stealsRemote + 1 } }
          (s.wr F.SCHED_STEALS_LOCAL (s.eng.stealsLocal / 1024)).wr F.SCHED_STEALS_REMOTE (s.eng.stealsRemote / 1024)
      let ep := if i.owner = e then i.epoch else (i.epoch + 1) % 2 ^ 32
      let s := s.setSram e ((mget {} s.eng.sram e).start i.secure (Config.itemWrites i.id ep))
      { s with eng := { s.eng with items := s.eng.items.map (fun x => if x.id = i.id then { x with runner := some e } else x),
                                   run := s.eng.run ++ [(e, (i.id, ep))] } }

/-- Every idle engine takes an item while one waits for it, the lowest-numbered first. -/
def State.wakeEngines (s : State) : State := ((List.range 64).foldl (fun s e => s.takeItem e) s).refreshDeques

/-- The engine in service of a list with the shallowest deque, the lowest-numbered where depths are equal; a laggard only while its deque is empty. -/
def State.shallowest (s : State) (l : List Nat) : Option Nat :=
  ((l.filter fun e => s.inService e && (!s.isLaggard e || (s.deque e).isEmpty)).foldl (fun (b : Option (Nat × Nat)) e =>
    let n := (s.deque e).length
    match b with
    | none => some (e, n)
    | some (_, m) => if n < m then some (e, n) else b) none).map (·.1)

/-- A work item placed with epoch 0 in the shallowest deque (R403), and the engines that wake on it. -/
def State.placeItem (s : State) (lane ops : Nat) (secure : Bool) (task : Option Nat := none) : State :=
  let e := (s.shallowest (List.range 64)).getD (s.rd F.SCHED_STATUS_CROWN_ENG)
  { s with eng := { s.eng with nextItem := s.eng.nextItem + 1, items := s.eng.items ++
      [{ id := s.eng.nextItem, lane := lane, owner := e, runner := none, epoch := 0, pinned := false, ops := ops, secure := secure, task := task }] } }

/-- Where a grafted item goes: the shallowest deque of the same bough, else of the module. -/
def State.graftTarget (s : State) (e : Nat) : Nat :=
  let others := (List.range 64).filter (· != e)
  (s.shallowest (others.filter fun x => x / 8 == e / 8)).getD ((s.shallowest others).getD e)

/-- Items moved away from engine e: those of a list are grafted one after the other. -/
def State.graftAway (s : State) (e : Nat) (ids : List Nat) : State := ids.foldl (fun s id => s.graft id (s.graftTarget e)) s

end Sys2Proof.Machine
end

