-- ==== Sys2Proof/Machine/Almanac.lean ====
section
/-!
DEFINITION. The Almanac service (chapter 23): the bytes of a record, what is displaced or dropped when the Almanac is full, staging,
migration to NOR, compaction, recovery at start, and the banked readers.
-/
namespace Sys2Proof.Machine
open Sys2Proof

/-! ## Records -/

/-- DLEN of a record: even, 16 to 1,024 (R459). -/
def almDlen (source : Nat) (ev : Ev) : Nat := 16 + 2 * (Config.almLen source ev.ctorIdx % 505)

/-- The size of a record with DLEN data bytes (R459). -/
def recSize (dlen : Nat) : Nat := 24 + 4 * ((dlen + 2 + 3) / 4)

/-- SEVFL of Table 23-1. -/
def Sub.sevfl (x : Sub) : Nat :=
  x.sev % 8 + (if x.secure then 8 else 0) + (if x.shadow then 16 else 0) + (if x.nosync then 32 else 0) + (if x.sameEngine then 64 else 0)

/-- The size of the record of a submission. -/
def Sub.size (x : Sub) : Nat := recSize (almDlen x.source x.ev)

/-- The bytes of a record (Table 23-1), its CRC over every preceding byte. -/
def Sub.bytes (x : Sub) (seq : Nat) : List Byte :=
  let dlen := almDlen x.source x.ev
  let b := le 8 seq ++ le 6 x.sec ++ le 4 x.ns ++ le 2 dlen ++ [byte x.sevfl, byte x.source] ++ le 2 (evCode x.source x.ev)
    ++ ((List.range dlen).map fun k => byte (Config.almByte x.source x.ev.ctorIdx x.data k))
  let b := b ++ List.replicate (x.size - 2 - b.length) 0
  b ++ le 2 (crc16 b)

/-- DLEN of a stored record. -/
def AlmRec.dlen (r : AlmRec) : Nat := leAt r.bytes 18 2

/-- SECURE of a stored record. -/
def recSecure (b : List Byte) : Bool := (leAt b 20 1).testBit 3

/-! ## Space -/

/-- Bytes of the records that satisfy a property. -/
def State.almBytes (s : State) (p : AlmRec → Bool) : Nat := (s.alm.recs.filter p).foldl (fun a r => a + r.bytes.length) 0

/-- The bytes of the record sectors: 254 of 64 KiB without the retired ones' unwritten part (R464, R466). -/
def Alm.area (a : Alm) : Nat := 16646144 - (a.sectors.filter (·.retired)).foldl (fun n x => n + (65536 - x.written)) 0

/-- Bytes for ordinary records: the record sectors without the reserve of 16 KiB (R466). -/
def State.almCapacity (s : State) : Nat := s.alm.area - 16384

/-- The remaining space of the Almanac: what no present record outside the reserve takes, staged ones included. -/
def State.almLeft (s : State) : Nat := s.almCapacity - s.almBytes fun r => !r.reserve

/-- The remaining space of FRAM staging, 1 MiB (R463). -/
def State.stageLeft (s : State) : Nat := 1048576 - s.almBytes (·.sector.isNone)

/-- A record of a severity displaces an ordinary record of strictly lower severity (R466). -/
def displaceable (sev : Nat) (r : AlmRec) : Bool := decide (r.sev < sev) && !r.reserve

/-- The oldest of some records, in SEQ order, until their bytes reach a need; none where all together do not (R466). -/
def victims : Nat → List AlmRec → Option (List AlmRec)
  | 0, _ => some []
  | _ + 1, [] => none
  | n + 1, r :: t => (victims (n + 1 - r.bytes.length) t).map (r :: ·)

/-- RESERVE: policy-change records that still fit in the 16 KiB reserve (R468). -/
def State.reserveLeft (s : State) : Nat := (16384 - s.almBytes (·.reserve)) / recSize (almDlen 0x61 .policyChange)

/-- A 64-bit SEQ in a pair of registers. -/
def State.wr64 (s : State) (lo hi : Fld) (n : Nat) : State := (s.wr lo n).wr hi (n / 2 ^ 32)

/-- The SEQ that a pair of registers holds. -/
def State.rd64 (s : State) (lo hi : Fld) : Nat := s.rd lo + 2 ^ 32 * s.rd hi

/-- Migration pauses (R464): in HOLD, while VAUX_OK = 0 and while NOR_OK = 0. -/
def State.almPaused (s : State) : Bool := s.mode == .hold || !s.on F.SUPPLY_STATUS_VAUX_OK || !s.on F.THERM_STATUS_NOR_OK

/-- Records of the staging that wait for NOR: those that have not failed verify twice (R464). -/
def State.toMigrate (s : State) : List AlmRec := s.alm.recs.filter fun r => r.sector.isNone && decide (r.fails < 2)

/-- The registers of EVREC that follow from the records present (Table 23-3). FULL and STAGE_FULL raise their events as they become 1. -/
def State.almRegs (s : State) : State :=
  let s := match s.alm.recs with
    | [] => s.wr64 F.EVREC_HEAD_LO_SEQ F.EVREC_HEAD_HI_SEQ 0
    | r :: _ => s.wr64 F.EVREC_HEAD_LO_SEQ F.EVREC_HEAD_HI_SEQ r.seq
  let staged := s.almBytes (·.sector.isNone)
  let s := (s.wr F.EVREC_USED_BYTES (s.almBytes (·.sector.isSome))).wr F.EVREC_STAGED_BYTES staged
  let s := (s.wrB F.EVREC_STATUS_MIGRATING (!s.toMigrate.isEmpty)).setFill 108 s.toMigrate.length
  let s := s.wr F.EVREC_RESERVE_LEFT (satCount 16 s.reserveLeft)
  let full := decide (s.almLeft < 44)
  let was := s.on F.EVREC_STATUS_FULL
  let s := s.wrB F.EVREC_STATUS_FULL full
  let s := if full && !was then s.raise 0x61 1 else s
  let full := decide (s.stageLeft < 44)
  let was := s.on F.EVREC_STATUS_STAGE_FULL
  let s := s.wrB F.EVREC_STATUS_STAGE_FULL full
  if full && !was then s.raise 0x61 4 else s

/-- The sessions that may read: the host port and the eight of Ralkiul (R92). -/
def sessions : List Nat := 0x01 :: (List.range 8).map (0x10 + ·)

/-- A record displaced (R467): gone at once; its NOR bytes wait for compaction; DISPL counts it; a window that shows it is torn (R470). -/
def State.displace (s : State) (r : AlmRec) : State :=
  let alm := { s.alm with recs := s.alm.recs.filter (·.seq != r.seq) }
  let alm := match r.sector with
    | none => alm
    | some k => { alm with sectors := alm.sectors.map (fun (x : AlmSector) => if x.id = k then { x with dead := x.dead + r.bytes.length } else x),
                           displaced := alm.displaced ++ [(r.seq, k)] }
  let s := ({ s with alm := alm }.bump F.EVREC_DISPL_COUNT).raise 0x61 3
  sessions.foldl (fun s i =>
    if s.on (F.EVREC_RSTAT_FOUND.bank i) && s.rd64 (F.EVREC_FSEQ_LO_SEQ.bank i) (F.EVREC_FSEQ_HI_SEQ.bank i) == r.seq
    then s.wrB (F.EVREC_RSTAT_TORN.bank i) true else s) s

/-- A submission dropped (R466): counted for its severity, without a SEQ. -/
def State.almDrop (s : State) (sev : Nat) : State :=
  (s.bump (if sev % 2 = 0 then F.EVREC_DROPS_SEV_EVEN (sev / 2) else F.EVREC_DROPS_SEV_ODD (sev / 2))).raise 0x61 2

/-- The records a submission displaces, none where it is dropped (R466): for the Almanac's space, then for that of FRAM staging. A policy-change record lies in the reserve, displaces nothing and is never dropped (R468). -/
def State.makeRoom (s : State) (x : Sub) : Option (List AlmRec) :=
  if x.ev = .policyChange then some []
  else
    let pool := if s.on F.EVREC_STATUS_POLICY then s.alm.recs.filter (displaceable x.sev) else []
    match victims (x.size - s.almLeft) pool with
    | none => none
    | some v =>
      let freed := (v.filter (·.sector.isNone)).foldl (fun a r => a + r.bytes.length) 0
      (victims (x.size - s.stageLeft - freed) (pool.filter fun r => r.sector.isNone && !v.contains r)).map (v ++ ·)

/-- A submission accepted (R461, R463): SEQ assigned, the record staged, TAIL, the events RECORD and POLICY_CHANGE, the sequence numbers mirrored (Table 17-3). -/
def State.almAccept (s : State) (x : Sub) : State :=
  let q := s.alm.next
  let r : AlmRec := { seq := q, bytes := x.bytes q, sev := x.sev, reserve := x.ev == .policyChange }
  let s := { s with alm := { s.alm with next := q + 1, recs := s.alm.recs ++ [r] } }
  let s := s.wr64 F.EVREC_TAIL_LO_SEQ F.EVREC_TAIL_HI_SEQ q
  let s := if s.rd F.EVREC_CFG_NOTIFY_SEV ≤ x.sev then s.raise 0x61 0 else s
  let s := if x.ev = .policyChange then s.raise 0x61 5 else s
  s.mirror (.almanac [q])

/-- The Almanac service takes a submission from Q91 (R463). -/
def State.almTake (s : State) : State :=
  match s.q91 with
  | [] => s
  | x :: rest =>
    let s := ({ s.setFill 91 s.q91.length with q91 := rest } : State).setFill 91 rest.length
    (match s.makeRoom x with
    | none => s.almDrop x.sev
    | some v => (v.foldl State.displace s).almAccept x).almRegs

/-- The service takes every submission that waits, as a reset that the module itself takes lets it. -/
def State.almDrain (s : State) : State := (List.range s.q91.length).foldl (fun s _ => s.almTake) s

/-! ## Migration and compaction -/

/-- The sector that takes the next record: the newest while it has unwritten space, else a new one. -/
def Alm.openSector (a : Alm) : Alm :=
  match a.sectors.getLast? with
  | some x => if x.written < 65536 && !x.retired then a else { a with sectors := a.sectors ++ [{ id := a.sectors.length }] }
  | none => { a with sectors := [{ id := 0 }] }

/-- Bytes written in NOR since their sectors' erase. -/
def Alm.written (a : Alm) : Nat := a.sectors.foldl (fun n x => n + x.written) 0

/-- One record changed in place. -/
def Alm.update (a : Alm) (seq : Nat) (f : AlmRec → AlmRec) : Alm := { a with recs := a.recs.map fun r => if r.seq = seq then f r else r }

/-- The staged record with the lowest SEQ copied to NOR and read back (R464); it waits where no erased space is left until a compaction completes. A second failed verify retires the sector. -/
def State.almMigrate (s : State) (pass : Bool) : State :=
  match s.toMigrate with
  | [] => s
  | r :: _ =>
    if s.almPaused || decide (s.alm.written + r.bytes.length > s.alm.area) then s
    else
      let a := s.alm.openSector
      let k := (a.sectors.getLast?.map (·.id)).getD 0
      if pass then
        let a := { a with sectors := a.sectors.map fun (x : AlmSector) => if x.id = k then { x with written := x.written + r.bytes.length } else x }
        let s := { s with alm := a.update r.seq fun (r : AlmRec) => { r with sector := some k } }
        (if r.fails = 1 then s.retryPass 0x61 else s).almRegs
      else if r.fails = 0 then { s with alm := a.update r.seq fun (r : AlmRec) => { r with fails := 1 } }
      else
        let a := { a with sectors := a.sectors.map fun (x : AlmSector) => if x.id = k then { x with retired := true } else x }
        let s := { s with alm := a.update r.seq fun (r : AlmRec) => { r with fails := 2 } }
        let s := ((s.bump F.NVM_RETIRED_SECTORS).raise 0x60 0).raise 0x60 1
        ((s.lasting 0x61 (evCode 0x61 .sectorRetired)).record 6 0x61 .sectorRetired [(k : Int)]).almRegs

/-- A compaction of the oldest sector that holds displaced records completes (R467): its live records lie in what was the spare sector, the old sector is erased. -/
def State.almCompact (s : State) : State :=
  match s.alm.sectors.find? fun x => decide (x.dead > 0) && !x.retired with
  | none => s
  | some x =>
    if s.almPaused then s
    else
      let y : AlmSector := { x with written := x.written - x.dead, dead := 0 }
      { s with alm := { s.alm with sectors := s.alm.sectors.map fun (z : AlmSector) => if z.id = x.id then y else z,
                                   displaced := s.alm.displaced.filter (·.2 != x.id) } }.erase (4096 + x.id) |>.almRegs

/-! ## Recovery -/

/-- The Almanac recovered at step 7 of Table 2-5 (R465): submissions in Q91 are lost; a staging write that the loss of power cut has used its SEQ, which is skipped. -/
def State.almRecover (s : State) (torn : Bool) : State :=
  let a := s.alm
  let cut := torn && !s.q91.isEmpty
  let a := { a with next := if cut then a.next + 1 else a.next, skipped := if cut then some a.next else none,
                    recovered := (a.recs.filter (·.sector.isNone)).length, view := [] }
  { s with alm := a, q91 := [] }.almRegs

/-- The start record of R44 at step 10: the reset kind, the SEQ skipped where there was one, the staged records recovered (R465). -/
def State.startRecord (s : State) : State :=
  s.record 0 0x03 .startRecord [(s.rd F.RESET_CAUSE_KIND : Int), ((s.alm.skipped.getD 0 : Nat) : Int), (s.alm.recovered : Int)]

/-! ## Readers -/

/-- LATCH (R470): the oldest and newest SEQ present, at one instant, in the session's bank. -/
def State.almLatch (s : State) (i : Nat) : State :=
  let newest := ((s.alm.recs.getLast?).map (·.seq)).getD 0
  let oldest := ((s.alm.recs.head?).map (·.seq)).getD 0
  (s.wr64 (F.EVREC_LHEAD_LO_SEQ.bank i) (F.EVREC_LHEAD_HI_SEQ.bank i) oldest).wr64 (F.EVREC_LTAIL_LO_SEQ.bank i) (F.EVREC_LTAIL_HI_SEQ.bank i) newest

/-- A write of RSEQ_HI selects (R470): the record with that SEQ, else the next present one up to LTAIL with GONE set. -/
def State.almSelect (s : State) (i data : Nat) : State :=
  let s := s.wr (F.EVREC_RSEQ_HI_SEQ.bank i) data
  let q := s.rd64 (F.EVREC_RSEQ_LO_SEQ.bank i) (F.EVREC_RSEQ_HI_SEQ.bank i)
  let tail := s.rd64 (F.EVREC_LTAIL_LO_SEQ.bank i) (F.EVREC_LTAIL_HI_SEQ.bank i)
  let exact := s.alm.recs.find? (·.seq == q)
  let r := match exact with
    | some r => some r
    | none => s.alm.recs.find? fun r => decide (q < r.seq) && decide (r.seq ≤ tail)
  let s := (s.wrB (F.EVREC_RSTAT_GONE.bank i) exact.isNone).wrB (F.EVREC_RSTAT_FOUND.bank i) r.isSome
  match r with
  | none =>
    { (s.wr64 (F.EVREC_FSEQ_LO_SEQ.bank i) (F.EVREC_FSEQ_HI_SEQ.bank i) 0).wr (F.EVREC_RSTAT_SIZE.bank i) 0 with
      alm := { s.alm with view := mset [] s.alm.view i [] } }
  | some r =>
    { (s.wr64 (F.EVREC_FSEQ_LO_SEQ.bank i) (F.EVREC_FSEQ_HI_SEQ.bank i) r.seq).wr (F.EVREC_RSTAT_SIZE.bank i) r.bytes.length with
      alm := { s.alm with view := mset [] s.alm.view i r.bytes } }

/-- DATA of the record shown is masked for a non-secure session (R470). -/
def State.almMasked (s : State) (who : Initiator) : Bool :=
  let b := mget [] s.alm.view who.id
  !b.isEmpty && recSecure b && !s.secureOf who

/-- The bytes a session's window shows. -/
def State.almWindow (s : State) (who : Initiator) : List Byte :=
  let b := mget [] s.alm.view who.id
  if s.almMasked who then b.take 24 ++ List.replicate (leAt b 18 2) 0 ++ b.drop (24 + leAt b 18 2) else b

/-- A write of EVREC.CMD. -/
def State.evrecCmd (s : State) (who : Initiator) (data : Nat) : State := if data % 2 = 1 then s.almLatch who.id else s

end Sys2Proof.Machine
end

