-- ==== Sys2Proof/Machine/AlmFam.lean ====
section
/-!
DEFINITION. The commands of the Almanac (chapter 23).
-/
namespace Sys2Proof.Machine
open Sys2Proof

/-- ALMANAC_SUBMISSION (R463, R466): the service takes a submission from Q91. -/
def execAlmanacSubmission (s : State) : Host.Outcome State Fault Refusal := .next s.almTake

/-- ALMANAC_MIGRATION (R464): a staged record copied to NOR; pass tells whether its copy verifies. -/
def execAlmanacMigration (pass : Bool) (s : State) : Host.Outcome State Fault Refusal := .next (s.almMigrate pass)

/-- COMPACTION_COMPLETE (R467): a sector compaction ends. -/
def execCompactionComplete (s : State) : Host.Outcome State Fault Refusal := .next s.almCompact

/-- LATCH (R470): a write of EVREC.CMD.LATCH. -/
def execLatchCmd (who : Initiator) (s : State) : Host.Outcome State Fault Refusal :=
  .next (s.asWrite who A.EVREC_CMD fun s => s.evrecCmd who 1)

/-- RSEQ_SELECT (R470): a write of RSEQ_HI selects a record. -/
def execRseqSelect (who : Initiator) (hi : Word) (s : State) : Host.Outcome State Fault Refusal :=
  .next (s.asWrite who A.EVREC_RSEQ_HI fun s => s.almSelect who.id hi.toNat)

end Sys2Proof.Machine
end

