-- ==== Sys2Proof/Machine/Lookup.lean ====
section
/-!
DEFINITION. The estimator's tables and their interpolation (R269 to R272), in integers: weights uQ0.16, intermediate values with eight
fractional bits, voltages in nV, states of charge in sQ7.24 %.
-/
namespace Sys2Proof.Machine
open Sys2Proof

/-- A quotient rounded to nearest, halves away from zero; 0 over 0. -/
def roundAway (a b : Int) : Int := if a < 0 then -((2 * -a + b) / (2 * b)) else (2 * a + b) / (2 * b)

/-- Largest natural number whose square is at most n (bitwise, k bits still to try). -/
def isqrtFrom : Nat → Nat → Nat → Nat
  | 0, _, r => r
  | k + 1, n, r => if (r + 2 ^ k) * (r + 2 ^ k) ≤ n then isqrtFrom k n (r + 2 ^ k) else isqrtFrom k n r

/-- The integer square root, for arguments below 2^256. -/
def isqrt (n : Nat) : Nat := isqrtFrom 128 n 0

/-- The square root rounded to nearest. -/
def isqrtNear (n : Nat) : Nat := (isqrt (4 * n) + 1) / 2

/-- The lookup of R269 of an argument num / den among breakpoints: index and weight in units of 2^−16. -/
def lookup (xs : List Int) (num : Int) (den : Nat) : Nat × Nat :=
  let d : Int := den
  let x (i : Nat) : Int := (xs[i]?).getD 0 * d
  let n := xs.length
  if num ≤ x 0 then (0, 0)
  else if num ≥ x (n - 1) then (n - 2, 65536)
  else
    let i := ((List.range (n - 1)).filter fun k => decide (x k ≤ num)).length - 1
    let w := x (i + 1) - x i
    (i, ((2 * 65536 * (num - x i) + w) / (2 * w)).toNat)

/-- v_i + w × (v_(i+1) − v_i) with eight fractional bits. -/
def mix8 (a b : Int) (w : Nat) : Int := roundAway ((a * 65536 + w * (b - a)) * 256) 65536

/-- The value of a two-axis table (R269): first along the second axis at the two enclosing temperatures, then along temperature. -/
def surface (f : Nat → Nat → Int) (t a : Nat × Nat) : Int :=
  let lo := mix8 (f t.1 a.1) (f t.1 (a.1 + 1)) a.2
  let hi := mix8 (f (t.1 + 1) a.1) (f (t.1 + 1) (a.1 + 1)) a.2
  roundAway (lo * 65536 + t.2 * (hi - lo)) (65536 * 256)

/-- Temperature breakpoints (Table 12-3). -/
def State.tempPoints (s : State) : List Int :=
  (List.range 8).map fun i => s.rdI (if i % 2 = 0 then F.ETAB_TBP_T_EVEN (i / 2) else F.ETAB_TBP_T_ODD (i / 2))

/-- Rate breakpoints in 0.01 C. -/
def State.ratePoints (s : State) : List Int :=
  (List.range 6).map fun i => (s.rd (if i % 2 = 0 then F.ETAB_RBP_RATE_EVEN (i / 2) else F.ETAB_RBP_RATE_ODD (i / 2)) : Int)

/-- Lookup of a cell temperature; T_NONE uses the coldest breakpoint (R267). -/
def State.tempLook (s : State) (t : Option Int) : Nat × Nat :=
  match t with
  | some x => lookup s.tempPoints x 1
  | none => (0, 0)

/-- OCV point s of branch b at temperature t, 100 µV. -/
def State.ocvPoint (s : State) (b t k : Nat) : Int :=
  let i := 17 * (8 * b + t) + k / 2
  (s.rd (if k % 2 = 0 then F.ETAB_OCV_EVEN i else F.ETAB_OCV_ODD i) : Int)

/-- R_TAB at temperature t and point k, µΩ. -/
def State.resPoint (s : State) (t k : Nat) : Int :=
  let i := 11 * t + k
  (s.rd (if i % 2 = 0 then F.ETAB_RES_EVEN (i / 2) else F.ETAB_RES_ODD (i / 2)) : Int)

/-- F_CAP in 2^−14. -/
def State.fCap (s : State) (t r : Nat × Nat) : Int := surface (fun i j => (s.rd (F.ETAB_CAPEFF_F_CAP (6 * i + j)) : Int)) t r

/-- F_EFF in 2^−14. -/
def State.fEff (s : State) (t r : Nat × Nat) : Int := surface (fun i j => (s.rd (F.ETAB_CAPEFF_F_EFF (6 * i + j)) : Int)) t r

/-- One percent in sQ7.24. -/
def pct : Int := 2 ^ 24

/-- R_TAB in µΩ at a state of charge. -/
def State.rTab (s : State) (t : Nat × Nat) (soc : Int) : Int :=
  surface s.resPoint t (lookup ((List.range 11).map fun (k : Nat) => (k : Int) * 10 * pct) soc 1)

/-- OCV of a branch in nV at a state of charge (R283). -/
def State.ocvAt (s : State) (b : Nat) (t : Nat × Nat) (soc : Int) : Int :=
  surface (s.ocvPoint b) t (lookup ((List.range 33).map fun (k : Nat) => (k : Int) * 52428800) soc 1) * 100000

/-- The 33-point curve of a branch at a temperature (R271), nV. -/
def State.ocvCurve (s : State) (b : Nat) (t : Nat × Nat) : List Int :=
  (List.range 33).map fun k => roundAway (s.ocvPoint b t.1 k * 65536 + t.2 * (s.ocvPoint b (t.1 + 1) k - s.ocvPoint b t.1 k)) 65536 * 100000

/-- A state of charge found from a voltage: SoC_ocv, rise of the segment in nV per 3.125 %, half the difference of the branches (mean branch only). -/
structure OcvFix where
  soc : Int
  rise : Int
  half : Int
  deriving DecidableEq, Repr

/-- R271 and R272: the state of charge of a voltage in nV on branch 0 (mean), 1 (charge) or 2 (discharge); none where V lies outside the curve. -/
def State.ocvFind (s : State) (branch : Nat) (t : Nat × Nat) (v : Int) : Option OcvFix :=
  let chg := s.ocvCurve 0 t
  let dis := s.ocvCurve 1 t
  let curve := if branch = 1 then chg else if branch = 2 then dis else (chg.zip dis).map fun (a, b) => (a + b) / 2
  let c (k : Nat) : Int := (curve[k]?).getD 0
  let gap (k : Nat) : Int := (chg[k]?).getD 0 - (dis[k]?).getD 0
  if v < c 0 || v > c 32 then none
  else
    let k := ((List.range 32).filter fun i => decide (c i ≤ v)).length - 1
    let rise := c (k + 1) - c k
    if rise ≤ 0 then none
    else some { soc := k * 52428800 + roundAway (52428800 * (v - c k)) rise, rise := rise,
                half := if branch = 0 then (gap k + (gap (k + 1) - gap k) * (v - c k) / rise) / 2 else 0 }

end Sys2Proof.Machine
end

