-- ==== Sys2Proof/Machine/Pwm.lean ====
section
/-!
DEFINITION. The power stage of chapter 8 as operations: interleaving, gate edges, the running phases, gate enables and stops.
-/
namespace Sys2Proof.Machine
open Sys2Proof

/-- The sixteen phases. -/
def phases : List Nat := List.range 16

/-- The running phases in ascending order (R185). -/
def State.running (s : State) : List Nat := phases.filter fun n => s.bit F.PSTAGE_RUNMASK_RUN n

/-- N_on (R185). -/
def State.nOn (s : State) : Nat := s.running.length

/-- A phase is a four-switch buck-boost (R176). -/
def State.buckBoost (s : State) (n : Nat) : Bool := s.bit F.PSTAGE_PHEN_TYPE n

/-- The set of running phases replaced, N_ON with it. -/
def State.setRunning (s : State) (n : Nat) (b : Bool) : State :=
  let s := s.wrBit F.PSTAGE_RUNMASK_RUN n b
  s.wr F.PSTAGE_STATUS_N_ON s.nOn

/-- The unit may drive its outputs: solo or active role (Table 17-1; R194). -/
def State.claimHeld (s : State) : Bool := s.rd F.PAIR_STATUS_ROLE == 0 || s.rd F.PAIR_STATUS_ROLE == 1

/-- Both gate enables are energised. -/
def State.enablesOn (s : State) : Bool := s.on F.SAFE_STATUS_EN0 && s.on F.SAFE_STATUS_EN1

/-- GATES_LIVE recomputed (R194): the mode drives gates, the enables are energised, the claim is held, a phase runs. -/
def State.refreshGates (s : State) : State :=
  s.wrB F.PSTAGE_STATUS_GATES_LIVE
    ((s.effMode == .connect || s.effMode == .run || (s.mode == .service && s.on F.TESTMUX_STATUS_GTEST)) && s.enablesOn && s.claimHeld && s.nOn != 0)

/-- The interleaving offset of rank j of N_on running phases, in CD0 clocks, halves rounded up (R185). -/
def interleave (j per n : Nat) : Nat := (2 * j * per + n) / (2 * n)

/-- New offsets for every running phase, to be taken with the period in PSTAGE at each one's next period boundary (R178, R186). -/
def State.spread (s : State) : State :=
  let run := s.running
  (run.zip (List.range run.length)).foldl
    (fun s (n, j) => s.setPhase n { s.phase n with newOffset := some (interleave j (s.rd F.PSTAGE_PERIOD_PER) run.length, s.rd F.PSTAGE_PERIOD_PER) }) s

/-- Phases start switching: every enabled one of a set that is not faulted, with its offset in place. -/
def State.startSome (s : State) (which : Nat → Bool) : State :=
  let per := s.rd F.PSTAGE_PERIOD_PER
  let s := phases.foldl (fun s n =>
    if s.bit F.PSTAGE_PHEN_EN n && s.rd (F.PHASE_STAT_STATE n) != 3 && which n then
      ((s.wr (F.PHASE_STAT_STATE n) 1).setRunning n true).setPhase n { starting := true, per := per }
    else s) s
  let s := { s with pwm := { s.pwm with shedLow := none, burstLow := none, burstLeft := 0, burstOff := 0, outerCnt := 0 } }
  let run := s.running
  ((run.zip (List.range run.length)).foldl
    (fun s (n, j) => s.wr (F.PHASE_STAT_OFFSET n) (interleave j per run.length)) s).refreshGates

/-- All phases start switching (Table 10-2 step 7). -/
def State.startPhases (s : State) : State := s.startSome fun _ => true

/-- Every gate driven to off: no phase runs, a faulted one stays faulted (R194); a window of the models M2 and M3 that contains it is not evaluated (R227). -/
def State.gatesOff (s : State) : State :=
  let s := phases.foldl (fun s n =>
    let s := if s.rd (F.PHASE_STAT_STATE n) = 3 then s else s.wr (F.PHASE_STAT_STATE n) 0
    (s.wrB (F.PHASE_STAT_SKIPPING n) false).setPhase n {}) s
  let s := (s.wr F.PSTAGE_RUNMASK_RUN 0).wr F.PSTAGE_STATUS_N_ON 0
  let s := ((s.wrB F.PSTAGE_STATUS_SHEDDING false).wr F.PSTAGE_STATUS_LIGHT 0).wrB F.PSTAGE_STATUS_GATES_LIVE false
  { s with pwm := { s.pwm with stopNext := false, respread := false, shedLow := none, burstLow := none, burstLeft := 0, burstOff := 0, burstExit := false, burstStart := false },
           loop := { s.loop with excluded := true } }

/-- No S or H condition is active (R335, R328). -/
def State.noSH (s : State) : Bool := s.prot.conds.all fun x => x.2 != .S && x.2 != .H

/-- The island energises both gate enables at the request of a sequence, while it may (R335). -/
def State.askEnables (s : State) : State :=
  let ok := s.prot.safeClk && s.prot.srd.isNone && s.noSH
  let s := { s with prot := { s.prot with enableCmd := ok } }
  ((s.wrB F.SAFE_STATUS_EN0 ok).wrB F.SAFE_STATUS_EN1 ok).refreshGates

/-- Both gate enables de-energised. -/
def State.dropEnables (s : State) : State :=
  let s := { s with prot := { s.prot with enableCmd := false } }
  ((s.wrB F.SAFE_STATUS_EN0 false).wrB F.SAFE_STATUS_EN1 false).refreshGates

/-! ## Gate edges -/

/-- A duty d (uQ1.15) as on-time in a period of P units, halves rounded up (R181, R196). -/
def onTime (d p : Nat) : Nat := (2 * d * p + 32768) / 65536

/-- Leg A's duty from the command (Table 8-2). -/
def dutyA (u : Nat) : Nat := min u 32768

/-- Leg B's duty from the command of a four-switch buck-boost (Table 8-2). -/
def dutyB (u : Nat) : Nat := min (65536 - u) 32768

/-- What conditions a leg in a period: P, the dead times, T_MIN and T_REFRESH in units; the start, centre and end of the period. -/
structure Period where
  p : Nat
  dtLH : Nat
  dtHL : Nat
  tMin : Nat
  tRef : Nat
  start : Int
  tC : Int
  stop : Int
  deriving DecidableEq, Repr

/-- A held leg (R184 step 1), in a period with a refresh or without one. -/
def heldLeg (x : Period) (refresh : Bool) : Leg :=
  let a := x.start + x.dtHL + x.tRef
  { held := true, pulsed := true, on := x.start, tOn := x.p, high := [(if refresh then a else x.start, x.stop)], low := if refresh then [(x.start, a)] else [] }

/-- T_on of a leg duty after step 2 of R184. -/
def legOn (x : Period) (d : Nat) : Nat :=
  let t0 := onTime d x.p
  (if (x.p : Int) - t0 - x.dtHL < x.tMin then (x.p : Int) - x.dtHL - x.tMin else (t0 : Int)).toNat

/-- A switching leg in a period (R181, R184 steps 2 and 3), ON not before onMin (R186). -/
def pulsedLeg (x : Period) (d : Nat) (onMin : Int) : Leg :=
  let t := legOn x d
  let on := max (x.tC - (t / 2 : Nat)) onMin
  let off := x.tC - (t / 2 : Nat) + t
  if (t : Int) - x.dtLH < x.tMin ∨ off ≤ on then { tOn := t, on := on, low := [(x.start, x.stop)] }
  else { pulsed := true, on := on, tOn := t, high := [(on, off)], low := [(x.start, on), (off, x.stop)] }

/-- An OFF edge moved at t_c (R182): the period's on-time becomes T_on of the new command, OFF not earlier than t_c + 1 unit; no ON edge moves or is added. -/
def moveOff (x : Period) (tNew : Nat) (l : Leg) : Leg :=
  if l.held || !l.pulsed then l
  else
    let off := min (max (x.tC + tNew - (l.tOn / 2 : Nat)) (x.tC + 1)) x.stop
    { l with high := [(l.on, off)], low := (x.start, l.on) :: if off < x.stop then [(off, x.stop)] else [] }

/-- The part of a list of intervals before an instant. -/
def cutAt (t : Int) (l : List (Int × Int)) : List (Int × Int) := l.filterMap fun (a, b) => if a < t then some (a, min b t) else none

/-- A side that conducts from an instant to the end of the period. -/
def holdFrom (t stop : Int) (l : List (Int × Int)) : List (Int × Int) :=
  let c := cutAt t l
  match c.getLast? with
  | some (a, b) => if b = t then c.dropLast ++ [(a, stop)] else c ++ [(t, stop)]
  | none => [(t, stop)]

/-- A leg turned to its high or its low side at an instant, for the rest of the period (R189). -/
def turnLeg (high : Bool) (t stop : Int) (l : Leg) : Leg :=
  if high then { l with held := false, high := holdFrom t stop l.high, low := cutAt t l.low }
  else { l with held := false, high := cutAt t l.high, low := holdFrom t stop l.low }

/-- The gate edges of a leg within a period (Table 8-3): each change of side turns one gate off and, a dead time later, the other on. -/
def Leg.edges (x : Period) (l : Leg) : List Int :=
  (l.high.flatMap fun (a, b) => (if a > x.start then [a, a + x.dtLH] else []) ++ (if b < x.stop then [b, b + x.dtHL] else []))
    ++ l.low.flatMap fun (a, b) => (if a > x.start then [a] else []) ++ (if b < x.stop then [b] else [])

/-- The edges at a period start where a leg changes sides there. -/
def joinEdges (x : Period) (oldStop : Int) (old new : Leg) : List Int :=
  let ends (l : List (Int × Int)) : Bool := l.any fun (_, b) => b ≥ oldStop
  let begins (l : List (Int × Int)) : Bool := l.any fun (a, _) => a ≤ x.start
  (if ends old.high == begins new.high then [] else [x.start, x.start + (if begins new.high then x.dtLH else x.dtHL)])
    ++ if ends old.low == begins new.low then [] else [x.start]

/-- The on-time of a leg's high side in the period as driven (R227: the actual on-time fractions, trips and refreshes included). -/
def Leg.onTotal (l : Leg) : Int := (l.high.map fun (a, b) => b - a).foldl (· + ·) 0

/-- The phase's share S_n of i_tot in units of 2^−16 (R218); the standby's shadow takes the mirrored one (R222). -/
def State.share (s : State) (n : Nat) : Nat :=
  let run := s.running
  if s.rd F.PAIR_STATUS_ROLE == 2 then s.pair.loop.elim 0 fun x => (x.shares[n]?).getD 0
  else if !run.contains n then 0
  else
    let base (l : List Nat) (tot k : Nat) : Nat := tot / l.length + (if l.head? = some k then tot % l.length else 0)
    match run.find? fun k => s.rd (F.PHASE_STAT_STATE k) == 2 with
    | none => base run 65536 n
    | some k =>
      let ramp := s.rd F.PSTAGE_SHED_SHED_RAMP
      let m := (s.phase k).shedM.getD 0
      let sk := (2 * base run 65536 k * (ramp - m) + ramp) / (2 * max ramp 1)
      if n = k then sk else base (run.filter (· != k)) (65536 - sk) n

/-- A share of |I_dem| lies below f/10 of the threshold I_DCM (0.1 A); I_dem in 2^−16 A (R196). -/
def State.shareBelow (s : State) (n num den : Nat) : Bool :=
  decide (s.pwm.iDem * (s.share n : Int) * 10 * den < (s.rd F.PSTAGE_LIGHT_I_DCM : Int) * 65536 * 65536 * num)

/-- Pulse skipping may act on a phase (R195, R198). -/
def State.skipAllowed (s : State) : Bool :=
  s.rd F.PSTAGE_LIGHT_MODE == 1 && s.rd F.PSTAGE_STATUS_LIGHT < 2 && s.nOn == s.rd F.PSTAGE_SHED_N_MIN && !s.on F.PSTAGE_STATUS_IMP_LOCK

/-- LIGHT of PSTAGE.STATUS while no burst runs: 1 while a phase is in energising operation. -/
def State.refreshLight (s : State) : State :=
  if s.rd F.PSTAGE_STATUS_LIGHT < 2 then s.wr F.PSTAGE_STATUS_LIGHT (if phases.any fun n => s.on (F.PHASE_STAT_SKIPPING n) then 1 else 0) else s

/-- The switching period a phase runs with (R178). -/
def State.perOf (s : State) (n : Nat) : Nat := if (s.phase n).per = 0 then s.rd F.PSTAGE_PERIOD_PER else (s.phase n).per

/-- The present period of a phase. -/
def State.period (s : State) (n : Nat) : Period :=
  let ph := s.phase n
  { p := 16 * s.perOf n, dtLH := s.rd (F.PHASE_CFG_DT_LH n), dtHL := s.rd (F.PHASE_CFG_DT_HL n), tMin := 16 * s.rd (F.PHASE_PULSE_T_MIN n),
    tRef := 16 * s.rd (F.PHASE_REFRESH_T_REFRESH n), start := ph.pStart, tC := ph.tC, stop := ph.tC + 8 * s.perOf n }

/-- The reference of a phase is negative. -/
def State.drawsDown (s : State) (n : Nat) : Bool := decide (s.rdI F.LOOP_ITOT_I_TOT < 0) && s.share n != 0

/-- The leg of a phase in energising operation whose gate is pulsed (R196): leg A, or leg B of a buck-boost in the boost region, where leg A is held on; the regions are those of the feed-forward ratio (DEDUCED, notes/assumptions/86.md). -/
def State.energisesB (s : State) (n : Nat) : Bool := s.buckBoost n && decide (s.loop.vBus > s.loop.vStr)

/-- The energising gate is the high side of its leg: a raising gate for a positive reference, a lowering one for a negative (R196, Table 8-1). -/
def State.energisesHigh (s : State) (n : Nat) : Bool := if s.buckBoost n && !s.energisesB n then s.drawsDown n else !s.drawsDown n

/-- The leg whose gate is pulsed in energising operation. -/
def State.energisingLeg (s : State) (n : Nat) : Leg := if s.energisesB n then (s.phase n).legB else (s.phase n).legA

/-- The on-time fraction of the energising gate in a phase's last period, sQ15.16, negative for a lowering gate as the reference is (Table 9-5, R225). -/
def State.lastFraction (s : State) (n : Nat) : Int :=
  let p : Int := max (16 * s.perOf n) 1
  let on := (s.energisingLeg n).onTotal
  let x := (2 * (if s.energisesHigh n then on else p - on) * 65536 + p) / (2 * p)
  if s.drawsDown n then -x else x

/-- The legs of a period of energising operation: one gate pulsed for t units about t_c, or not at all, a held leg of a buck-boost, every other gate off (R196). -/
def State.energisingLegs (s : State) (n : Nat) (x : Period) (t : Nat) (refresh : Bool) : Leg × Leg :=
  let iv := if t = 0 then [] else [(x.tC - (t / 2 : Nat), x.tC - (t / 2 : Nat) + t)]
  let l : Leg := if s.energisesHigh n then { high := iv } else { low := iv }
  if !s.buckBoost n then (l, {}) else if s.energisesB n then (heldLeg x refresh, l) else (l, heldLeg x refresh)

/-- A phase controller computes the edges of the period that starts (R181, R184, R186, R196). -/
def State.computeEdges (s : State) (n : Nat) : State :=
  let old := s.period n
  let ph := s.phase n
  let per := s.perOf n
  let tC : Int := 16 * s.rd (F.PHASE_STAT_OFFSET n) + 8 * per
  let x := { old with start := tC - 8 * per - 16 * ph.delta, tC := tC, stop := tC + 8 * per }
  let shift := old.stop - x.start
  let bb := s.buckBoost n
  let skip := s.on (F.PHASE_STAT_SKIPPING n)
  let rn := s.rd (F.PHASE_REFRESH_REFRESH_N n)
  let holdA := bb && (if skip then s.energisesB n else dutyA ph.u == 32768)
  let holdB := bb && (if skip then !s.energisesB n else dutyB ph.u == 32768)
  let held := holdA || holdB
  let cnt := if held && rn != 0 then ph.refreshCnt + 1 else 0
  let fire := held && rn != 0 && cnt == rn
  let te := min (onTime ph.u x.p) (x.p / 2) + ph.residual
  let idle := skip && te < 16 * s.rd F.PSTAGE_LIGHT_T_SKIP
  let onMin (l : Leg) : Int := match l.high.getLast? with
    | some (_, b) => if ph.delta < 0 then b - shift + x.dtHL + x.tMin else x.start
    | none => x.start
  let legs : Leg × Leg :=
    if skip then s.energisingLegs n x (if idle then 0 else min te (x.p / 2)) fire
    else (if holdA then heldLeg x fire else pulsedLeg x (dutyA ph.u) (onMin ph.legA),
          if !bb then {} else if holdB then heldLeg x fire else pulsedLeg x (dutyB ph.u) (onMin ph.legB))
  let past := (((ph.legA.edges old ++ ph.legB.edges old).map (· - shift)) ++ joinEdges x (old.stop) ph.legA legs.1 ++ joinEdges x old.stop ph.legB legs.2)
  let s := if idle then s.bump (F.PHASE_COUNT_SKIP n) else s
  s.setPhase n { ph with pStart := x.start, tC := tC, legA := legs.1, legB := legs.2, past := past, refreshCnt := if fire then 0 else cnt,
                         residual := if idle then te else if skip then 0 else ph.residual }

/-- Whether an instant lies in a phase's blanking: within BLANK CD0 clocks after one of its gate edges (R188). -/
def State.blanked (s : State) (n : Nat) (t : Int) : Bool :=
  let ph := s.phase n
  let x := s.period n
  (ph.past ++ ph.legA.edges x ++ ph.legB.edges x).any fun e => decide (e ≤ t) && decide (t < e + 16 * s.rd (F.PHASE_PULSE_BLANK n))

/-- A comparator sees its input, in µV, beyond its threshold POS or NEG × 2.0 V / 1,023, which errs by at most 2 % of full scale (R187). -/
def State.overLimit (s : State) (n : Nat) (positive : Bool) (uv : Int) : Bool :=
  let err := max (-40000) (min 40000 (Config.ilimError n positive))
  if positive then decide ((uv - err) * 1023 > (s.rd (F.PHASE_ILIM_POS n) : Int) * 2000000)
  else decide ((-uv - err) * 1023 > (s.rd (F.PHASE_ILIM_NEG n) : Int) * 2000000)

end Sys2Proof.Machine
end

