-- ==== Sys2Proof/Machine/LoopEngine.lean ====
section
/-!
DEFINITION. The loop engine of chapter 9: its fixed-point arithmetic, the evaluation of an instance, presets and freezes, and the
command a phase receives.
-/
namespace Sys2Proof.Machine
open Sys2Proof

/-- Rounding with halves towards +∞ of a quotient with a positive divisor (R212, R217). -/
def roundDiv (a b : Int) : Int := (2 * a + b) / (2 * b)

/-- A product term: the shift by SH with rounding, saturated to s48 (R213). -/
def rndShift (x : Int) (sh : Nat) : Int := satSigned 48 (if sh = 0 then x else (x + 2 ^ (sh - 1)) / 2 ^ sh)

/-- Clamping between two bounds, the lower first. -/
def clampI (x lo hi : Int) : Int := if x < lo then lo else if x > hi then hi else x

/-- A quantity in thousandths of its unit (mA, mV, W) as sQ15.16 of A, V or kW (R212). -/
def toQ (milli : Int) : Int := satSigned 32 (roundDiv (milli * 65536) 1000)

/-- A quantity in tenths of its unit as sQ15.16. -/
def tenthToQ (x : Int) : Int := satSigned 32 (roundDiv (x * 65536) 10)

/-- A phase current from its ADC code (±2.0 V over ±32,768) and SCALE in 0.01 A/V, as sQ15.16 A (R187, Table 9-2). -/
def phaseCurrent (code : Int) (scale : Nat) : Int := satSigned 32 (roundDiv (code * scale * 4) 100)

/-- The integrator state of an instance, s48 with 32 fractional bits (R214). -/
def State.integ (s : State) (k : Nat) : Int := signedOf 48 (s.rd (F.LOOP_ISLO_IS_LO k) + 2 ^ 32 * s.rd (F.LOOP_ISHI_IS_HI k))

/-- The integrator state written. -/
def State.setInteg (s : State) (k : Nat) (x : Int) : State :=
  let w := encodeSigned 48 (satSigned 48 x)
  (s.wr (F.LOOP_ISLO_IS_LO k) (w % 2 ^ 32)).wr (F.LOOP_ISHI_IS_HI k) (w / 2 ^ 32)

/-- Coefficient Kj of an instance. -/
def State.coef (s : State) (k j : Nat) : Int :=
  s.rdI ⟨0x22104 + 0x40 * k + 4 * j, 0, 32⟩

/-- Shift SHj of an instance. -/
def State.shiftOf (s : State) (k j : Nat) : Nat :=
  if j < 4 then s.rd ⟨0x2211C + 0x40 * k, 8 * j, 6⟩ else s.rd ⟨0x22120 + 0x40 * k, 8 * (j - 4), 6⟩

/-- OMIN of an instance. -/
def State.oMin (s : State) (k : Nat) : Int := s.rdI (F.LOOP_OMIN_OMIN k)

/-- OMAX of an instance. -/
def State.oMax (s : State) (k : Nat) : Int := s.rdI (F.LOOP_OMAX_OMAX k)

/-- The instance is enabled (R206). -/
def State.instOn (s : State) (k : Nat) : Bool := s.on (F.LOOP_ICFG_EN k)

/-- The last output of an instance. -/
def State.instOut (s : State) (k : Nat) : Int := s.rdI (F.LOOP_OUT_OUT k)

/-- The instances. -/
def instances : List Nat := List.range 24

/-- Every instance frozen or released (Table 9-5, gates held off). -/
def State.freezeAll (s : State) (b : Bool) : State := instances.foldl (fun s k => s.wrB (F.LOOP_ISTAT_FROZEN k) b) s

/-- A preset to an output, taken at the instance's next evaluation (R221). -/
def State.presetTo (s : State) (k : Nat) (x : Int) : State := { s with loop := { s.loop with presets := mset 0 s.loop.presets k x, } }

/-- The histories of the auxiliary filters cleared (R215). -/
def State.clearHistories (s : State) : State := { s with loop := { s.loop with e1 := [], e2 := [], o1 := [], o2 := [] } }

/-- The interlock of an impedance run released, with the histories of 22 and 23 (R198, R226). -/
def State.releaseLock (s : State) : State := (s.wrB F.PSTAGE_STATUS_IMP_LOCK false).clearHistories

/-- Entry into CONNECT or RUN from STANDBY, REST or SAFE (Table 9-5): integrators and histories cleared, 16 and 18 ramp from their measured value. -/
def State.presetEntry (s : State) : State :=
  let s := (instances.foldl (fun s k => s.setInteg k 0) s).clearHistories
  let s := { s with loop := { s.loop with rampFrom := [16, 18], presets := [], srdClocks := none } }
  ((s.freezeAll false).wrB F.LOOP_STATUS_EVAL true)

/-- The command of an instance (R214) from its error sign, r_eff and y: IS and the flags of ISTAT move, the output answers. The conversion of R217 may set the saturation of an inner instance: it is given as a function of the output. -/
def State.evalPI (s : State) (k : Nat) (flip : Bool) (rEff y : Int) (conv : Int → Int := fun _ => 0) (freeze : Bool := false) : Int × State :=
  let e := satSigned 32 (if flip then y - rEff else rEff - y)
  let p := rndShift (s.coef k 0 * e) (s.shiftOf k 0)
  let di := rndShift (s.coef k 1 * e) (s.shiftOf k 1)
  let f := if 16 ≤ k ∧ k ≤ 18 ∧ s.on (F.LOOP_ICFG_FF k) = true then rndShift (s.coef k 5 * rEff) (s.shiftOf k 5) else 0
  let lo := s.oMin k
  let hi := s.oMax k
  let isIn := match s.loop.presets.find? (·.1 == k) with
    | some (_, x) => clampI ((x - p - f) * 65536) (lo * 65536) (hi * 65536)
    | none => s.integ k
  let preset := s.loop.presets.any (·.1 == k)
  let v := p + rndShift isIn 16 + f
  let o := clampI v lo hi
  let sat1 : Int := if v > hi then 1 else if v < lo then -1 else 0
  let c := conv o
  let sat := if c != 0 then c else sat1
  let frozen := s.on (F.LOOP_ISTAT_FROZEN k) || freeze
  let isOut := if frozen || preset || (sat == 1 && decide (di > 0)) || (sat == -1 && decide (di < 0)) then isIn
    else clampI (isIn + di) (lo * 65536) (hi * 65536)
  let s := (s.setInteg k isOut).wrI (F.LOOP_OUT_OUT k) o
  let s := (s.wr (F.LOOP_ISTAT_SAT k) (if sat = 1 then 1 else if sat = -1 then 2 else 0)).wrB (F.LOOP_ISTAT_ACTIVE k) true
  let s := if sat != 0 then s.bump (F.LOOP_ISTAT_SATCNT k) else s
  (o, { s with loop := { s.loop with presets := mdel s.loop.presets k } })

/-- A 2P2Z instance (R215): its histories shift, its clamped output answers. -/
def State.eval2P2Z (s : State) (k : Nat) (e : Int) : Int × State :=
  let l := s.loop
  let t := rndShift (s.coef k 0 * e) (s.shiftOf k 0) + rndShift (s.coef k 1 * mget 0 l.e1 k) (s.shiftOf k 1)
    + rndShift (s.coef k 2 * mget 0 l.e2 k) (s.shiftOf k 2)
    - rndShift (s.coef k 3 * mget 0 l.o1 k) (s.shiftOf k 3) - rndShift (s.coef k 4 * mget 0 l.o2 k) (s.shiftOf k 4)
  let o := clampI t (s.oMin k) (s.oMax k)
  let s := { s with loop := { l with e2 := mset 0 l.e2 k (mget 0 l.e1 k), e1 := mset 0 l.e1 k e,
                                     o2 := mset 0 l.o2 k (mget 0 l.o1 k), o1 := mset 0 l.o1 k o } }
  (o, (s.wrI (F.LOOP_OUT_OUT k) o).wrB (F.LOOP_ISTAT_ACTIVE k) true)

/-- The ramped reference of instance 16, 17 or 18 (R220). -/
def State.rampRef (s : State) (k : Nat) (r y : Int) : Int × State :=
  let cur := mget 0 s.loop.rEff k
  let ramp : Int := s.rd (F.LOOP_RAMP_RAMP k)
  let next := if s.loop.rampFrom.contains k then y
    else if ramp = 0 then r
    else if r > cur then min r (cur + ramp) else max r (cur - ramp)
  (next, { s with loop := { s.loop with rEff := mset 0 s.loop.rEff k next, rampFrom := s.loop.rampFrom.filter (· != k) } })

/-- The feed-forward ratio of a phase (R217 step 1), sQ15.16. -/
def feedForward (bb : Bool) (vStr vBus : Int) : Int :=
  let q (a b : Int) : Int := if b < 10 * 65536 then 0 else roundDiv (a * 65536) b
  if !bb then q vStr vBus
  else if vBus ≤ vStr then q vBus vStr
  else if vBus < 10 * 65536 then 0 else 2 * 65536 - q vStr vBus

/-- The unclamped command u_s of R217 step 2. -/
def commandSum (bb : Bool) (uff v : Int) : Int := if bb then uff - v else uff + v

/-- The saturation a command clamp counts as (R217 step 3): in the direction of the v that caused it. -/
def commandSat (bb : Bool) (us : Int) : Int :=
  let hi : Int := if bb then 131070 else 65536
  if us > hi then (if bb then -1 else 1) else if us < 0 then (if bb then 1 else -1) else 0

/-- The uQ1.15 command from u_s (R217 steps 3 and 4). -/
def commandOf (bb : Bool) (us : Int) : Nat := ((clampI us 0 (if bb then 131070 else 65536) + 1) / 2).toNat

/-- The inner reference of a phase (R218). -/
def State.innerRef (s : State) (n : Nat) : Int := rndShift (s.rdI F.LOOP_ITOT_I_TOT * (s.share n : Int)) 16

/-- An inner evaluation in synchronous operation: the instance of phase n against its current y gives the command u. -/
def State.evalInner (s : State) (n : Nat) (y : Int) : Nat × State :=
  let bb := s.buckBoost n
  let uff := feedForward bb s.loop.vStr s.loop.vBus
  if s.instOn n then
    let (o, s) := s.evalPI n false (s.innerRef n) y (fun o => commandSat bb (commandSum bb uff o)) (decide ((s.phase n).freeze > 0))
    (commandOf bb (commandSum bb uff o), s)
  else (commandOf bb uff, s)

/-- An inner evaluation in energising operation (R225): u_ff is 0, the output is the on-time fraction with the sign of the reference. -/
def State.evalEnergising (s : State) (n : Nat) (y : Int) : Nat × State :=
  if s.instOn n then
    let r := s.innerRef n
    let neg := s.drawsDown n
    let us (o : Int) : Int := if neg then -o else o
    let (o, s) := s.evalPI n false r y (fun o => if us o > 65536 then (if neg then -1 else 1) else if us o < 0 then (if neg then 1 else -1) else 0)
      (decide ((s.phase n).freeze > 0))
    (commandOf false (us o), s)
  else (0, s)

/-- The dispatch set-point in force in sQ15.16 of its kind's unit (mA, W and mV are thousandths of A, kW and V). -/
def State.setPoint (s : State) : Int := toQ (s.rdI F.DISP_SETP_SETP)

end Sys2Proof.Machine
end

