-- ==== Sys2Proof/Machine/Program.lean ====
section
/-!
DEFINITION. The program object of the scan engine (R379 to R383, Tables 18-1 to 18-4): its sections, blocks and operands as read from
its bytes, the program errors of SCAN.PERR, and what a program uses.
-/
namespace Sys2Proof.Machine
open Sys2Proof

/-- What a pin of a block takes: BOOL, the numeric type of FLAGS, DINT, any. -/
inductive Pin
  | b | n | d | any
  deriving DecidableEq, Repr

/-- What a block type requires (Table 18-4): its input pins after EN, how many inputs of the last kind may follow, output pins, parameters, instance bytes, cost. -/
structure Sig where
  ins : List Pin
  more : Nat := 0
  outs : List Pin
  npar : Nat := 0
  inst : Nat := 0
  cost : Nat
  deriving DecidableEq, Repr

/-- The block types of Table 18-4, none for a code it does not list. -/
def blockSig (typ : Nat) : Option Sig :=
  match typ with
  | 0x0001 | 0x0002 => some { ins := [.b, .b], more := 14, outs := [.b], cost := 40 }
  | 0x0003 => some { ins := [.b, .b], outs := [.b], cost := 40 }
  | 0x0004 => some { ins := [.b], outs := [.b], cost := 30 }
  | 0x0010 => some { ins := [.any], outs := [.any], cost := 30 }
  | 0x0011 | 0x0012 | 0x0013 | 0x0014 => some { ins := [.n, .n], outs := [.n], cost := 60 }
  | 0x0015 => some { ins := [.n, .n, .n], outs := [.n], cost := 60 }
  | 0x0016 => some { ins := [.b, .n, .n], outs := [.n], cost := 50 }
  | 0x0017 => some { ins := [.n, .n], outs := [.b, .b, .b], cost := 60 }
  | 0x0018 => some { ins := [.any], outs := [.n], cost := 60 }
  | 0x0020 | 0x0021 => some { ins := [.b], outs := [.b], inst := 4, cost := 50 }
  | 0x0022 | 0x0023 => some { ins := [.b, .b], outs := [.b], inst := 4, cost := 50 }
  | 0x0030 | 0x0031 | 0x0032 => some { ins := [.b, .d], outs := [.b, .d], inst := 16, cost := 120 }
  | 0x0040 | 0x0041 => some { ins := [.b, .b, .d], outs := [.b, .d], inst := 8, cost := 80 }
  | 0x0042 => some { ins := [.b, .b, .b, .b, .d], outs := [.b, .b, .d], inst := 12, cost := 100 }
  | 0x0050 => some { ins := [], outs := [.d, .d], npar := 1, inst := 4, cost := 400 }
  | 0x0051 => some { ins := [.b, .d], outs := [.d], npar := 1, inst := 8, cost := 400 }
  | 0x0052 => some { ins := [], outs := [.b, .d], npar := 2, cost := 80 }
  | 0x0060 => some { ins := [], outs := [.b, .b, .d], npar := 1, cost := 60 }
  | _ => none

/-- A block record (Table 18-3). -/
structure Block where
  typ : Nat
  id : Nat
  flags : Nat
  ins : List Nat
  outs : List Nat
  pars : List Nat
  deriving DecidableEq, Repr

/-- FLAGS [0], [1], [2] and the numeric type. -/
def Block.mirrored (b : Block) : Bool := b.flags.testBit 0
def Block.retained (b : Block) : Bool := b.flags.testBit 1
def Block.enPin (b : Block) : Bool := b.flags.testBit 2
def Block.real (b : Block) : Bool := b.flags / 64 % 4 == 1

/-- AREA, BIT and INDEX of an operand word. -/
def opArea (w : Nat) : Nat := w / 2 ^ 29 % 8
def opBit (w : Nat) : Nat := w / 2 ^ 24 % 32
def opIndex (w : Nat) : Nat := w % 2 ^ 24

/-- Words of an object from an offset. -/
def wordsAt (l : List Byte) (off n : Nat) : List Nat := (List.range n).map fun k => leAt l (off + 4 * k) 4

/-- Block records read from a list of bytes, with the bytes left; none where the bytes end too soon. -/
def parseBlocks : Nat → List Byte → Option (List Block × List Byte)
  | 0, l => some ([], l)
  | n + 1, l =>
    let nin := leAt l 5 1
    let nout := leAt l 6 1
    let npar := leAt l 7 1
    let len := 8 + 4 * (nin + nout + npar)
    if l.length < len then none
    else match parseBlocks n (l.drop len) with
      | none => none
      | some (bs, rest) =>
        some ({ typ := leAt l 0 2, id := leAt l 2 2, flags := leAt l 4 1, ins := wordsAt l 8 nin, outs := wordsAt l (8 + 4 * nin) nout,
                pars := wordsAt l (8 + 4 * (nin + nout)) npar } :: bs, rest)

/-- A task section (Table 18-2). -/
structure Sect where
  nvars : Nat := 0
  consts : List Nat := []
  blocks : List Block := []
  deriving DecidableEq, Repr

/-- A section read from its first byte on, with the bytes left. -/
def parseSect (l : List Byte) : Option (Sect × List Byte) :=
  let nconst := leAt l 2 2
  if l.length < 8 + 4 * nconst then none
  else match parseBlocks (leAt l 0 2) (l.drop (8 + 4 * nconst)) with
    | none => none
    | some (bs, rest) => some ({ nvars := leAt l 4 4, consts := wordsAt l 8 nconst, blocks := bs }, rest)

/-- The bytes of task t's section in an object, none where it has no section. -/
def sectBytes (p : List Byte) (t : Nat) : List Byte :=
  let off := leAt p (8 + 4 * t) 4
  if p.length < 32 || off = 0 then []
  else match parseSect (p.drop off) with
    | none => []
    | some (_, rest) => (p.drop off).take (p.length - off - rest.length)

/-- A section read back from its bytes. -/
def sectOf (l : List Byte) : Sect := if l.isEmpty then {} else ((parseSect l).map (·.1)).getD {}

/-- The header, LENGTH and CRC of an object (R379); an empty object holds no program. -/
def headerOk (p : List Byte) : Bool :=
  p.isEmpty ||
  p.length ≥ 32 && leAt p 0 4 == 0x5343414E && leAt p 4 1 == 1 && leAt p 5 1 == 0 && decide (leAt p 6 2 ≤ 32) && leAt p 24 4 == p.length
  && p.length ≥ 32 + 36 * leAt p 6 2 && leAt p 28 4 == crc32c (p.take 28 ++ le 4 0 ++ p.drop 32)
  && (List.range 4).all fun t =>
    let off := leAt p (8 + 4 * t) 4
    off == 0 || off % 4 == 0 && decide (off ≥ 32 + 36 * leAt p 6 2) && match parseSect (p.drop off) with
      | none => false
      | some (x, _) => decide (x.nvars ≤ 65536) && decide (x.consts.length ≤ 4096)

/-- The sections of the four tasks. -/
def sections (p : List Byte) : List Sect := (List.range 4).map fun t => sectOf (sectBytes p t)

/-- The substitute inputs of a station in the object (SUBST 2), none without a descriptor. -/
def descriptor (p : List Byte) (n : Nat) : Option (List Byte) :=
  ((List.range (leAt p 6 2)).find? fun k => leAt p (32 + 36 * k) 1 == n).map fun k => (p.drop (36 + 36 * k)).take 32

/-- Words of an area in a section (Table 18-1). -/
def areaWords (x : Sect) (area : Nat) : Nat :=
  match area with
  | 0 => x.nvars | 1 => 264 | 2 => 264 | 3 => 16384 | 4 => x.consts.length | _ => 0

/-- The pins of a block's inputs, EN first where it has it. -/
def Block.inPins (b : Block) (g : Sig) : List Pin :=
  (if b.enPin then [.b] else []) ++ g.ins ++ List.replicate (b.ins.length - g.ins.length - if b.enPin then 1 else 0) (g.ins.getLast?.getD .b)

/-- A type that a pin gives an operand: 0 BOOL, 1 DINT, 2 REAL, none for a pin of any type. -/
def Pin.typ (p : Pin) (real : Bool) : Option Nat :=
  match p with
  | .b => some 0 | .n => some (if real then 2 else 1) | .d => some 1 | .any => none

/-- What the blocks of a section write, operand word and type (R380). -/
def writtenTypes (x : Sect) : List (Nat × Nat) :=
  x.blocks.flatMap fun b =>
    match blockSig b.typ with
    | none => []
    | some g => (b.outs.zip g.outs).filterMap fun (w, p) => (p.typ b.real).map fun t => (w, t)

/-- The program error of a block in its section, 0 for none: the lowest code that applies. -/
def blockError (x : Sect) (wt : List (Nat × Nat)) (before : List Nat) (b : Block) : Nat :=
  match blockSig b.typ with
  | none => 1
  | some g =>
    let nin := g.ins.length + if b.enPin then 1 else 0
    if !(decide (nin ≤ b.ins.length) && decide (b.ins.length ≤ nin + g.more) && b.outs.length == g.outs.length && b.pars.length == g.npar) then 2
    else if (b.ins ++ b.outs).any fun w => decide (opIndex w ≥ areaWords x (opArea w)) then 3
    else
      let misbit (w : Nat) (p : Pin) : Bool := opBit w != 0 && (opArea w == 0 || opArea w == 4 || (p != .b && p != .any))
      let pins := b.ins.zip (b.inPins g)
      let bad := pins.any (fun (w, p) => misbit w p) || (b.outs.zip g.outs).any (fun (w, p) => misbit w p)
        || pins.any (fun (w, p) => match p.typ b.real with
            | none => false
            | some t => opArea w ≤ 3 && wt.any fun (v, t') => v == w && t' != t && (opArea w == 0 || t' != 0))
        || decide (b.flags / 64 % 4 ≥ 2)
      if bad then 4
      else if b.outs.any fun w => opArea w == 1 || opArea w == 4 then 5
      else if before.contains b.id then 6
      else if b.flags / 8 % 8 ≠ 0 then 7 else 0

/-- The first failing block of a section: index and code. -/
def firstError (x : Sect) (wt : List (Nat × Nat)) : Nat → List Nat → List Block → Option (Nat × Nat)
  | _, _, [] => none
  | k, before, b :: t =>
    let c := blockError x wt before b
    if c = 0 then firstError x wt (k + 1) (b.id :: before) t else some (k, c)

/-- PERR of an object: block, task, code; none where it is valid (R379). -/
def programError (p : List Byte) : Option (Nat × Nat × Nat) :=
  if p.isEmpty then none
  else if !headerOk p then some (0, 0, 7)
  else (List.range 4).findSome? fun t =>
    let x := sectOf (sectBytes p t)
    (firstError x (writtenTypes x) 0 [] x.blocks).map fun (k, c) => (k, t, c)

/-- Instance bytes of a block. -/
def Block.instLen (b : Block) : Nat := match blockSig b.typ with
  | some g => g.inst
  | none => 0

/-- Operations per evaluation of a section (Table 18-4). -/
def sectCost (x : Sect) : Nat := x.blocks.foldl (fun a b => a + match blockSig b.typ with | some g => g.cost | none => 0) 0

/-- Instance bytes of the blocks of a section that satisfy a property. -/
def sectBytesOf (x : Sect) (p : Block → Bool) : Nat := (x.blocks.filter p).foldl (fun a b => a + b.instLen) 0

/-- Instance and variable bytes of the sections (INSTUSE), instance bytes marked MIRROR (MIRUSE), marked RETAIN. -/
def instUse (l : List Sect) : Nat := l.foldl (fun a x => a + sectBytesOf x (fun _ => true) + 4 * x.nvars) 0
def mirUse (l : List Sect) : Nat := l.foldl (fun a x => a + sectBytesOf x Block.mirrored) 0
def retainUse (l : List Sect) : Nat := l.foldl (fun a x => a + sectBytesOf x Block.retained) 0

/-- The items of R376 that an output operand writes: bits of word 0 of the output image (0 to 31), its station output bytes (from 1,000), marker words (from 10,000). -/
def itemsOf (p : Pin) (w : Nat) : List Nat :=
  let i := opIndex w
  let bool := p == .b || (p == .any && opBit w != 0)
  if opArea w = 3 then [10000 + i]
  else if opArea w = 2 then
    if i = 0 then if bool then [opBit w] else List.range 32
    else if bool then [1000 + 4 * i + opBit w / 8] else (List.range 4).map fun k => 1000 + 4 * i + k
  else []

/-- The items that a section writes. -/
def sectItems (x : Sect) : List Nat :=
  x.blocks.flatMap fun b => match blockSig b.typ with
    | none => []
    | some g => (b.outs.zip g.outs).flatMap fun (w, p) => itemsOf p w

/-- Two tasks write one item (rule 0x0003). -/
def sharedItem (l : List Sect) : Bool :=
  let items := l.map fun x => (sectItems x).eraseDups
  (List.range 4).any fun a => (List.range 4).any fun b => decide (a < b) && ((items[a]?).getD []).any fun i => ((items[b]?).getD []).contains i

/-- COST, INSTUSE and MIRUSE of the program in force (Table 18-6). -/
def State.showProgram (s : State) : State :=
  let xs := sections s.nvm.program
  let s := (xs.zip (List.range 4)).foldl (fun (s : State) (x : Sect × Nat) => s.wr (F.SCAN_COST_COST x.2) (sectCost x.1)) s
  (s.wr F.SCAN_INSTUSE_BYTES (instUse xs)).wr F.SCAN_MIRUSE_BYTES (mirUse xs)

/-! ## Instance data -/

/-- A task of the scan engine. -/
def State.task (s : State) (t : Nat) : ScanTask := mget {} s.scan.tasks t

/-- A state with one task replaced. -/
def State.setTask (s : State) (t : Nat) (x : ScanTask) : State := { s with scan := { s.scan with tasks := mset {} s.scan.tasks t x } }

/-- The instance bytes of a block among those kept, zeroed where BLOCK_ID and TYPE match none (R381). -/
def instOf (kept : List (Nat × (Nat × List Byte))) (b : Block) : List Byte :=
  match kept.find? fun e => e.1 == b.id && e.2.1 == b.typ with
  | some (_, (_, bytes)) => bytes
  | none => List.replicate b.instLen 0

/-- The instance data of the blocks of a task that satisfy a property, as stored or mirrored: BLOCK_ID, TYPE and bytes of each, in network order. -/
def ScanTask.image (x : ScanTask) (p : Block → Bool) : List Byte :=
  ((sectOf x.sect).blocks.filter p).flatMap fun b => le 2 b.id ++ le 2 b.typ ++ le 4 b.instLen ++ instOf x.inst b

/-- Instance data read back from such an image. -/
def readImage : Nat → List Byte → List (Nat × (Nat × List Byte))
  | 0, _ => []
  | n + 1, l =>
    if l.length < 8 then []
    else
      let k := leAt l 4 4
      (leAt l 0 2, (leAt l 2 2, (l.drop 8).take k)) :: readImage n (l.drop (8 + k))

/-- Instance data taken up by a task over what it holds. -/
def ScanTask.takeImage (x : ScanTask) (l : List Byte) : ScanTask :=
  { x with inst := (readImage l.length l).foldl (fun m (e : Nat × (Nat × List Byte)) => mins (mdel m e.1) e.1 e.2) x.inst }

/-- The RETAIN data of the four tasks (R378): the length of each task's part, then the part. -/
def State.retainBytes (s : State) : List Byte :=
  (List.range 4).flatMap fun t => let i := (s.task t).image Block.retained
    le 4 i.length ++ i

/-- RETAIN data taken up from a slot. -/
def State.takeRetain (s : State) (l : List Byte) : State :=
  ((List.range 4).foldl (fun (r : State × List Byte) t =>
    let n := leAt r.2 0 4
    (r.1.setTask t ((r.1.task t).takeImage ((r.2.drop 4).take n)), r.2.drop (4 + n))) (s, l)).1

/-! ## Outputs of a task -/

/-- The local outputs that a task owns (R376), as a mask of DO. -/
def State.ownedOutputs (s : State) (t : Nat) : Nat :=
  ((sectItems (sectOf (s.task t).sect)).filter (· < 8)).eraseDups.foldl (fun m i => m ||| 2 ^ i) 0

/-- The local outputs of a task turn off (R374, R375): their image values and what is driven. -/
def State.taskOff (s : State) (t : Nat) : State :=
  let m := s.ownedOutputs t
  let w := mget (0 : Word) s.scan.out 0
  let s := { s with scan := { s.scan with out := mset 0 s.scan.out 0 (w &&& ~~~(Word.ofNat m)) } }
  s.wr F.IMAGE_DO_DO ((List.range 8).foldl (fun d k => if m.testBit k && d.testBit k then d - 2 ^ k else d) (s.rd F.IMAGE_DO_DO))

/-- Every task stops at the end of its scan in progress (R375): at SERVICE entry and at a TRANSPORT request. -/
def State.haltTasks (s : State) : State :=
  (List.range 4).foldl (fun (s : State) t => if (s.task t).busy then s.setTask t { s.task t with stopping := true } else s.taskOff t) s

end Sys2Proof.Machine
end

