-- ==== Sys2Proof/Machine/Journal.lean ====
section
/-!
DEFINITION. The string's cells by number (R151), and the learned and the state journal (R286 to R289) as operations over their slots.
-/
namespace Sys2Proof.Machine
open Sys2Proof

/-! ## Images -/

/-- An image slot, 0 A, 1 B. -/
def State.image (s : State) (k : Nat) : ImageSlot := mget {} s.nvm.images k

/-- A format of an image: 0 CFG, 1 LJ, 2 SJ, 3 CNT, 4 RET, 5 LREG, 6 MIR, 7 ALM; the delivered image, whose header the model does not hold, has 1 throughout. -/
def ImageSlot.format (x : ImageSlot) (k : Nat) : Nat := if x.header.isEmpty then 1 else leAt x.header (20 + k) 1

/-- The lowest MIR that an image also accepts (Table 24-5). -/
def ImageSlot.mirMin (x : ImageSlot) : Nat := if x.header.isEmpty then 1 else leAt x.header 28 1

/-- The running image. -/
def State.runImage (s : State) : ImageSlot := s.image (s.nvm.boot.slot % 2)

/-! ## Cells and times -/

/-- CELLS of node n. -/
def State.cellsOf (s : State) (n : Nat) : Nat := s.rd (F.NODE_NCFG_CELLS n)

/-- The string number of cell 0 of node n: cells are numbered in node address order (R151). -/
def State.cellBase (s : State) (n : Nat) : Nat := (List.range n).foldl (fun a k => a + s.cellsOf k) 0

/-- The string cell count (R26). -/
def State.cellCount (s : State) : Nat := s.cellBase (min (s.rd F.RING_CFG_NODE_COUNT) 32)

/-- The node of a string cell and its index there. -/
def State.cellNode (s : State) (c : Nat) : Nat × Nat :=
  (List.range 32).foldl (fun (r : Nat × Nat) n => if s.cellBase n ≤ c then (n, c - s.cellBase n) else r) (0, c)

/-- One cell of the estimator. -/
def State.cell (s : State) (c : Nat) : Cell := mget {} s.est.cells c

/-- A state with one cell replaced. -/
def State.setCell (s : State) (c : Nat) (x : Cell) : State := { s with est := { s.est with cells := mset {} s.est.cells c x } }

/-- A time base's 96 bits as carried on a link, most significant byte first (R12, R13): seconds, nanoseconds, fraction. -/
def State.timeBytes (s : State) (n : Nat) : List Byte :=
  let t := s.timeBase n
  be 6 t.sec ++ be 4 t.ns ++ be 2 t.frac16

/-- Half of a pair of 16-bit fields at consecutive words: value 2k in the low half of word k, value 2k + 1 in the high half. -/
def pairFld (lo hi : Nat → Fld) (i : Nat) : Fld := if i % 2 = 0 then lo (i / 2) else hi (i / 2)

/-- The register that shows Q_c of a cell in 0.01 A·h, 0 for Q_NOM. -/
def capFld (c : Nat) : Fld := pairFld F.LEARN_CAP_CELL_LO F.LEARN_CAP_CELL_HI c

/-- Q_c of a cell in 0.01 A·h (R273). -/
def State.capOf (s : State) (c : Nat) : Nat := if s.rd (capFld c) = 0 then s.rd F.ESTIM_CFG_Q_NOM else s.rd (capFld c)

/-! ## Slots -/

/-- The slots of journal j: 0 learned, 1 state. -/
def State.slots (s : State) (j : Nat) : List (Nat × JSlot) := if j = 0 then s.est.l else s.est.st

/-- A state with one slot of a journal replaced. -/
def State.setSlot (s : State) (j k : Nat) (x : JSlot) : State :=
  if j = 0 then { s with est := { s.est with l := mset {} s.est.l k x } } else { s with est := { s.est with st := mset {} s.est.st k x } }

/-- The SEQ of a slot with a commit record whose CRC verifies (R286). -/
def JSlot.committed (x : JSlot) : Option Nat :=
  if x.commit.length = 16 && leAt x.commit 12 4 == crc32c (x.commit.take 12) then some (leAt x.commit 0 4) else none

/-- A complete slot (R289): commit record verified, its SEQ, LENGTH and SLOT_CRC match the slot, and the slot's own CRC verifies. -/
def JSlot.complete (x : JSlot) : Bool :=
  x.committed.isSome && x.bytes.length ≥ 36 && leAt x.commit 0 4 == leAt x.bytes 4 4 && leAt x.commit 4 4 == leAt x.bytes 24 4
  && leAt x.commit 8 4 == leAt x.bytes (x.bytes.length - 4) 4 && leAt x.bytes 24 4 + 36 == x.bytes.length
  && crc32c (x.bytes.take (x.bytes.length - 4)) == leAt x.bytes (x.bytes.length - 4) 4

/-- The slot to write next (R287): the one whose commit record is invalid, else the one with the lower SEQ. -/
def State.slotToWrite (s : State) (j : Nat) : Nat :=
  match (mget ({} : JSlot) (s.slots j) 0).committed, (mget ({} : JSlot) (s.slots j) 1).committed with
  | none, _ => 0
  | _, none => 1
  | some a, some b => if b < a then 1 else 0

/-- The newest committed SEQ of a journal, 0 with none. -/
def State.newestSeq (s : State) (j : Nat) : Nat :=
  max ((mget ({} : JSlot) (s.slots j) 0).committed.getD 0) ((mget ({} : JSlot) (s.slots j) 1).committed.getD 0)

/-- Payload of the learned journal (Table 12-1). -/
def State.learnedPayload (s : State) : List Byte :=
  le 8 (s.est.theta / 3600000000) ++ le 8 0 ++ (List.range s.cellCount).flatMap fun c =>
    le 2 (s.rd (capFld c)) ++ le 2 (s.cell c).rf ++ le 2 (s.cell c).capUpd ++ le 2 (s.cell c).rfUpd

/-- Size of the state journal's string part. -/
def statePart (n : Nat) : Nat := max 32 ((8 + (n + 3) / 4 + 7) / 8 * 8)

/-- Payload of the state journal (Table 12-1): throughput, branches, then per cell SoC_c, U_a, SoC_a, t_a and Θ_a. -/
def State.statePayload (s : State) : List Byte :=
  let n := s.cellCount
  let br := (List.range ((n + 3) / 4)).map fun k =>
    byte ((List.range 4).foldl (fun a i => a + (s.cell (4 * k + i)).branch * 4 ^ i) 0)
  let part := le 8 (s.est.theta / 3600000000) ++ br
  part ++ List.replicate (statePart n - part.length) 0 ++ (List.range n).flatMap fun c =>
    let x := s.cell c
    let tA : Int := (s.timeBase 0).sec - ((s.mono : Int) - x.tA) / 1000000000
    leI 4 x.soc ++ le 2 (satCount 16 x.uA) ++ leI 2 (x.socA * 100 / 2 ^ 24) ++ leI 4 tA ++ le 4 (x.thA / 36000000000)

/-- The bytes of a slot to be written with a REASON (Table 12-1). -/
def State.slotBytes (s : State) (j reason : Nat) : List Byte :=
  let p := if j = 0 then s.learnedPayload else s.statePayload
  let b := le 2 (if j = 0 then 0x4A4C else 0x4A53) ++ [byte (mget 1 s.nvm.stored (1 + j)), byte reason] ++ le 4 (s.newestSeq j + 1) ++ (s.timeBytes 0).reverse
    ++ le 2 s.cellCount ++ le 2 0 ++ le 4 p.length ++ le 4 0 ++ p
  b ++ le 4 (crc32c b)

/-! ## Writes -/

/-- Steps 1 and 2 of a write (R287): the slot's commit record is invalidated and the slot written. -/
def State.beginWrite (s : State) (j reason : Nat) : State :=
  let k := s.slotToWrite j
  let b := s.slotBytes j reason
  let s := s.setSlot j k { bytes := b, commit := [] }
  { s.wrB F.LEARN_STATUS_JBUSY true with est := { s.est with writing := some (j, k, reason), writeAt := s.mono, writeHalf := s.on F.CLOCK_STATUS_CD10_DIV2, verifyFailed := false } }

/-- No journal write starts while VAUX_OK = 0 or in HOLD (R288). -/
def State.journalHeld (s : State) : Bool := !s.on F.SUPPLY_STATUS_VAUX_OK || s.mode == .hold

/-- A journal write falls due (R287, R288): begun, queued behind the write under way, or deferred. -/
def State.journal (s : State) (j reason : Nat) : State :=
  if s.journalHeld then
    { (s.wrB F.LEARN_STATUS_DEFERRED true).raise 0x2A 4 with
      est := { s.est with deferred := s.est.deferred.filter (·.1 != j) ++ [(j, 7)] } }
  else if s.est.writing.isSome then { s with est := { s.est with waiting := s.est.waiting.filter (·.1 != j) ++ [(j, reason)] } }
  else s.beginWrite j reason

/-- Both journals fall due, the learned one first. -/
def State.journalBoth (s : State) (reason : Nat) : State := (s.journal 0 reason).journal 1 reason

/-- The reported counters Q_IN, Q_OUT in µC, E_IN and E_OUT in mJ (Table 14-2). -/
def State.counters (s : State) : List Nat := [s.tele.qIn / 1000, s.tele.qOut / 1000, s.tele.eIn / 1000000000, s.tele.eOut / 1000000000]

/-- A counter slot is valid: its CRC verifies (R311). -/
def slotValid (b : List Byte) : Bool := b.length == 40 && crc32c (b.take 36) == leAt b 36 4

/-- The SEQ of a counter slot, 0 where it is not valid. -/
def slotSeq (b : List Byte) : Nat := if slotValid b then leAt b 0 4 else 0

/-- A counter slot written (R311): the older of the two, or a write deferred while none may start. -/
def State.counterSlot (s : State) : State :=
  if s.journalHeld then { s with tele := { s.tele with deferred := true } }
  else
    let a := mget [] s.tele.slots 0
    let b := mget [] s.tele.slots 1
    let k := if slotSeq a ≤ slotSeq b then 0 else 1
    let body := le 4 (max (slotSeq a) (slotSeq b) + 1) ++ s.counters.flatMap (le 8)
    { s with tele := { s.tele with deferred := false, slots := mset [] s.tele.slots k (body ++ le 4 (crc32c body)) } }

/-- The RETAIN data written to the older slot of its pair (R378), or the write deferred while none may start. -/
def State.retainSlot (s : State) : State :=
  if s.journalHeld then { s with scan := { s.scan with retainLate := true } }
  else
    let a := (mget (0, []) s.nvm.retain 0).1
    let b := (mget (0, []) s.nvm.retain 1).1
    let k := if a ≤ b then 0 else 1
    { s with nvm := { s.nvm with retain := mset (0, []) s.nvm.retain k (max a b + 1, s.retainBytes) }, scan := { s.scan with retainLate := false } }

/-- The RETAIN data restored from the newer slot (R378, R289). -/
def State.restoreRetain (s : State) : State :=
  let a := mget (0, []) s.nvm.retain 0
  let b := mget (0, []) s.nvm.retain 1
  s.takeRetain (if a.1 < b.1 then b.2 else a.2)

/-- What is stored at an entry into STANDBY or SAFE (REASON 3) or TRANSPORT (4): both journals, a counter slot and, at 3, the RETAIN data (R287, R311, R378). -/
def State.entryStore (s : State) (reason : Nat) : State :=
  let s := (s.journalBoth reason).counterSlot
  if reason = 3 then s.retainSlot else s

/-- The write under way ends; the next one that waits begins. -/
def State.endWrite (s : State) : State :=
  let s := { s with est := { s.est with writing := none } }.wrB F.LEARN_STATUS_JBUSY false
  match s.est.waiting with
  | [] => s
  | (j, r) :: t => { s with est := { s.est with waiting := t } }.journal j r

/-- A write abandoned before its commit record (R287, R288). -/
def State.abandonWrite (s : State) : State := ((s.bump F.LEARN_JSTAT_ABANDONS).raise 0x2A 3).endWrite

/-- Step 4 of a write (R287): the commit record, the newest SEQ, WRITTEN. -/
def State.commitWrite (s : State) : State :=
  match s.est.writing with
  | none => s
  | some (j, k, _) =>
    let b := (mget ({} : JSlot) (s.slots j) k).bytes
    let c := le 4 (leAt b 4 4) ++ le 4 (leAt b 24 4) ++ le 4 (leAt b (b.length - 4) 4)
    let s := s.setSlot j k { bytes := b, commit := c ++ le 4 (crc32c c) }
    let s := s.wr (if j = 0 then F.LEARN_SEQ_L_SEQ else F.LEARN_SEQ_S_SEQ) (leAt b 4 4)
    let s := if j = 0 then { s with est := { s.est with cells := s.est.cells.map fun (c, x) => (c, { x with rfWritten := x.rf }) } } else s
    ((s.bump F.LEARN_JSTAT_WRITES).raise 0x2A 2).endWrite

/-- Time left for a write in µs, at the FRAM write rate of 40 MB/s, halved where CD10 was divided when the write began (R288, R425, Table 24-3). -/
def State.writeLeft (s : State) : Nat :=
  match s.est.writing with
  | none => 0
  | some (j, k, _) =>
    let n := (mget ({} : JSlot) (s.slots j) k).bytes.length
    let rate := if s.est.writeHalf then 20 else 40
    (n - rate * (s.mono - s.est.writeAt) / 1000 + rate - 1) / rate

/-- VAUX_OK falls, or HOLD begins, during a write (R288): it runs on only within BUDGET_US. -/
def State.dipInWrite (s : State) : State :=
  if s.est.writing.isSome && decide (s.writeLeft > s.rd F.LEARN_CFG_BUDGET_US) then
    { s with est := { s.est with waiting := [], deferred := s.est.deferred ++ s.est.waiting.map fun (x : Nat × Nat) => (x.1, 7) } }.abandonWrite
  else s

/-! ## Restoring -/

/-- The complete slot of a journal with the highest SEQ (R289). -/
def State.bestSlot (s : State) (j : Nat) : Option JSlot :=
  ((s.slots j).map (·.2)).foldl (fun (b : Option JSlot) x =>
    if x.complete then match b with
      | none => some x
      | some y => if leAt y.bytes 4 4 < leAt x.bytes 4 4 then some x else b
    else b) none

/-- Q_c and RF_c taken from the learned journal. -/
def State.restoreLearned (s : State) : State :=
  match s.bestSlot 0 with
  | none => s.raise 0x2A 5
  | some x =>
    let n := leAt x.bytes 20 2
    let s := { s with est := { s.est with theta := leAt x.bytes 32 8 * 3600000000 } }
    (List.range n).foldl (fun s c =>
      let o := 48 + 8 * c
      let s := s.wr (capFld c) (leAt x.bytes o 2)
      s.setCell c { s.cell c with rf := leAt x.bytes (o + 2) 2, rfWritten := leAt x.bytes (o + 2) 2, capUpd := leAt x.bytes (o + 4) 2, rfUpd := leAt x.bytes (o + 6) 2 }) s

/-- SoC_c and the anchor state taken from the state journal, U_a raised by 100 × 600 A × (STATE_S + 1 s) / (3,600 × Q_c) (R289). -/
def State.restoreState (s : State) : State :=
  match s.bestSlot 1 with
  | none => s.raise 0x2A 5
  | some x =>
    let b := x.bytes
    let n := leAt b 20 2
    let sec := leAt b 14 6
    let s := { s with est := { s.est with theta := leAt b 32 8 * 3600000000 } }
    (List.range n).foldl (fun s c =>
      let o := 32 + statePart n + 16 * c
      let q := max (s.capOf c) 1
      let add := (100 * 600 * (s.rd F.LEARN_CFG_STATE_S + 1) * 1000 * 100 + 3600 * q - 1) / (3600 * q)
      let br := leAt b (40 + c / 4) 1 / 4 ^ (c % 4) % 4
      let age : Int := ((sec % 2 ^ 32 : Nat) : Int) - leAt b (o + 8) 4
      let x := { s.cell c with init := true, soc := signedOf 32 (leAt b o 4), uA := leAt b (o + 4) 2 + add }
      s.setCell c { x with
        socA := signedOf 16 (leAt b (o + 6) 2) * 2 ^ 24 / 100,
        tA := (s.mono : Int) - age * 1000000000, thA := leAt b (o + 12) 4 * 36000000000, branch := br, bleedQ := 0 }) s

end Sys2Proof.Machine
end

