-- ==== Sys2Proof/Machine/RingOps.lean ====
section
/-!
DEFINITION. The ring as operations: frames (R115, R116), SEQ values and copies (R117), the exchange with the nodes (R130), and the
balancing stop (R173), which a change of mode sends.
-/
namespace Sys2Proof.Machine
open Sys2Proof

/-! ## Frames -/

/-- The bytes of a ring frame between SOF and EOF (R115, R116): a header of five bytes, HCRC, and with a payload the payload and its CRC-32C. -/
def ringFrame (dir rsp addr cmd seq origin status : Nat) (payload : List Byte) : List Byte :=
  let h := [byte (dir * 128 + rsp * 64 + addr), byte cmd, byte seq, byte (origin * 128 + status), byte payload.length]
  let h6 := h ++ [byte (crc8 h)]
  if payload.isEmpty then h6 else h6 ++ payload ++ be 4 (crc32c (h6 ++ payload))

/-- Broadcast address, and the address of ENUM (Table 5-3). -/
def broadcast : Nat := 0x3E
def unaddressed : Nat := 0x3F

/-- The unit originates on the ring (Table 5-6: STATE other than OFF). -/
def State.originates (s : State) : Bool := s.rd F.RING_STATUS_STATE != 0

/-- The unit bit: unit A where PAIRED is 0 (R510). -/
def State.unitBit (s : State) : Nat := if s.on F.PAIR_CFG_PAIRED then s.rd F.PAIR_STATUS_UNIT else 0

/-- The down port (R113): port A, or port B on unit B of a pair. -/
def State.downPort (s : State) : Nat := if s.on F.RING_CFG_TOPOLOGY && s.on F.PAIR_STATUS_UNIT then 1 else 0

/-- The configured node addresses. -/
def State.nodes (s : State) : List Nat := List.range (min (s.rd F.RING_CFG_NODE_COUNT) 32)

/-- A frame put on one port: DIR 0 from the down port, 1 from the other; ORIGIN 1 for unit B of a pair, 0 for unit A and solo (Table 5-3). -/
def State.sendFrame (s : State) (side : Nat) (c : RingCmd) : State :=
  let port := if side = 0 then s.downPort else 1 - s.downPort
  s.send (.ring port (ringFrame side 0 c.node c.cmd c.seq s.unitBit 0 c.payload))

/-- The frames of a command: both ports, or for ENUM and ECHO the one it is sent from (R117). -/
def State.emitCmd (s : State) (c : RingCmd) : State :=
  match c.port with
  | some p => s.sendFrame p c
  | none => (s.sendFrame 0 c).sendFrame 1 c

/-- A command whose reply the module awaits: every addressed one but RESEND (R119, R130). -/
def RingCmd.replies (c : RingCmd) : Bool := c.node < 32 && c.cmd != 0x06

/-- The next SEQ may be used (R117): its last use lies at least 2 ms back. -/
def State.seqFree (s : State) : Bool :=
  match s.ringSt.seqAt.find? (·.1 == (s.ringSt.seq + 1) % 256) with
  | some (_, t) => decide (s.mono ≥ t + 2000000)
  | none => true

/-- A command launched with the next SEQ. -/
def State.launchCmd (s : State) (c : RingCmd) : State :=
  let q := (s.ringSt.seq + 1) % 256
  let c := { c with seq := q }
  let s := s.emitCmd c
  { s with ringSt := { s.ringSt with seq := q, seqAt := mins (mdel s.ringSt.seqAt q) q s.mono,
                                     wait := if c.replies then s.ringSt.wait ++ [c] else s.ringSt.wait } }

/-- A command given to the ring: launched, or held back behind those that wait for their SEQ (R117). -/
def State.sendCmd (s : State) (c : RingCmd) : State :=
  if !s.originates then s
  else if s.ringSt.held.isEmpty && s.seqFree then s.launchCmd c
  else { s with ringSt := { s.ringSt with held := s.ringSt.held ++ [c] } }

/-- A command to a node or to every node. -/
def State.ringCmd (s : State) (node cmd : Nat) (payload : List Byte := []) : State :=
  s.sendCmd { node := node, cmd := cmd, payload := payload }

/-- Nodes that answered the last keepalive from either port (R129). -/
def State.answering (s : State) : List Nat := s.nodes.filter fun n => s.ringSt.down.testBit n || s.ringSt.up.testBit n

/-- The answering nodes that are N16: a foreign one takes part in no harvest and gets no balancing command (R3). -/
def State.balNodes (s : State) : List Nat := s.answering.filter fun n => !s.ringSt.foreign.testBit n

/-- Origination stops (R114; Table 5-6, OFF). -/
def State.stopRing (s : State) : State :=
  { (s.wr F.RING_STATUS_STATE 0).wr F.RING_TIME_LOOP_NS 0 with
    ringSt := { s.ringSt with wait := [], held := [], todo := [], stage := 0, nopOut := false, heard := false } }

/-! ## The balancing stop -/

/-- The first four bytes of a BAL_SET (Table 7-1). -/
def State.balHeader (s : State) (stopAll : Bool) : List Byte :=
  [byte (if stopAll then 1 else 0), byte (s.rd F.BAL_CFG_TLIM), byte (s.rd F.BAL_CFG_MAX_PER_NODE), 0]

/-- A stop (R173), from step 10 of Table 2-5 on (R30): a broadcast BAL_SET with STOP_ALL, then a BAL_STAT to every reachable node that is to confirm RUNNING = 0. -/
def State.balStop (s : State) : State :=
  if !s.originates || s.crown.phase != .complete then s
  else
    let s := (s.ringCmd broadcast 0x10 (s.balHeader true))
    let l := s.balNodes
    let s := l.foldl (fun s n => s.ringCmd n 0x11) s
    let s := { s with bal := { s.bal with stopWait := l, stopAgain := [], stopLost := false, running0 := s.nodes, planWait := none, replanDue := false } }
    if l.isEmpty then s.raise 0x1D 1 else s

/-- The stop of balancing on leaving RUN or REST for STANDBY, SAFE or SERVICE (Table 7-3). -/
def State.leaveBal (s : State) : State := if s.effMode == .run || s.effMode == .rest then s.balStop else s

end Sys2Proof.Machine
end

