-- ==== Sys2Proof/Machine/BalOps.lean ====
section
/-!
DEFINITION. The balancing planner (R163 to R166) and what a BAL_STAT reply does (R168, R169, R173), as operations.
-/
namespace Sys2Proof.Machine
open Sys2Proof

/-- A precise or coarse code carries a value (Table 6-3). -/
def codeValid (c : Nat) : Bool := decide (c ≤ 0xFFEF)

/-- A temperature code carries a value (Table 6-3): signed 0.1 °C within −400 to +1,250. -/
def tempValid (i : Int) : Bool := decide (-400 ≤ i) && decide (i ≤ 1250)

/-- Temperature entry j of node n from the latest T harvest (Table 6-8). -/
def State.tempEntry (s : State) (n j : Nat) : Int := signedOf 16 (s.rd (pairFld F.NODE_TEMP_ENTRY_LO F.NODE_TEMP_ENTRY_HI (9 * n + j)))

/-- The valid cell sensor entries of a node. -/
def State.sensors (s : State) (n : Nat) : List Int := ((List.range 8).map fun j => s.tempEntry n j).filter tempValid

/-- The latest precise code of a cell, 0xFFFF where none. -/
def State.precise (s : State) (c : Nat) : Nat := (s.harv.vp[c]?).getD 0xFFFF

/-- A bit of an array of 32-bit mask registers. -/
def maskBit (f : Nat → Fld) (s : State) (i : Nat) : Bool := s.bit (f (i / 32)) (i % 32)

/-- A bit of an array of 32-bit mask registers written. -/
def setMaskBit (f : Nat → Fld) (s : State) (i : Nat) (b : Bool) : State := s.wrBit (f (i / 32)) (i % 32) b

/-- Converter clocks of a harvest slot: DIV × the phase-0 period (R140). -/
def State.slotClocks (s : State) : Nat := s.rd F.HARVEST_CFG_DIV * s.rd F.PSTAGE_PERIOD_PER

/-- Clocks between two aligned harvests in force, 0 when none run (f_aligned of R165). -/
def State.alignedClocks (s : State) : Nat :=
  if s.on F.HARVEST_CFG_V_EN && s.effMode != .standby && s.effMode != .service then s.slotClocks
  else if s.on F.HARVEST_CFG_C_EN && s.effMode != .service then s.slotClocks * s.rd F.HARVEST_CFG_C_EVERY
  else 0

/-- A cell is eligible for bleeding (R164). -/
def State.eligible (s : State) (c : Nat) : Bool :=
  let n := (s.cellNode c).1
  let v := s.precise c
  (s.cell c).valid && codeValid v && decide (v ≥ s.rd F.BAL_LIMITS_VMIN_MV * 10) && !maskBit F.PLAUS_SUSPECT_CELLS s c && !s.bit F.PLAUS_NSUSP_NODES n
  && s.balNodes.contains n && !s.bit F.BAL_NFAULT_NODES n
  && ((List.range 9).all fun j => !tempValid (s.tempEntry n j) || decide (s.tempEntry n j ≤ (s.rd F.BAL_LIMITS_T_CELL_MAX : Int) * 10))

/-- The timer of a cell in s (R165), from its excess over soc_ref in sQ7.24 %: ceil(charge / (i_b × duty)), at most 65,535, 0 within the deadband. -/
def State.balTimer (s : State) (c : Nat) (excess : Int) : Nat :=
  if excess * 100 ≤ (s.rd F.BAL_PLAN_DEADBAND : Int) * 2 ^ 24 then 0
  else
    let p := s.alignedClocks
    let (num, den) := if p = 0 then (1, 1) else (p, p - 22800)
    let d := 2 ^ 24 * 10000 * s.precise c * den
    if d = 0 then 65535 else min 65535 ((excess.toNat * s.capOf c * 3600 * s.rd F.BAL_RBLEED_RBLEED * 2000 * num + d - 1) / d)

/-- Of the cells of one parity on a node, those kept (R165): the MAX_PER_NODE with the largest excess, the lower index first where equal. -/
def keepLargest (n : Nat) (l : List (Nat × Int × Nat)) : List Nat :=
  ((l.mergeSort fun (a : Nat × Int × Nat) b => decide (a.2.1 > b.2.1) || (a.2.1 == b.2.1 && a.1 ≤ b.1)).take n).map (·.1)

/-- The plan of one node: the timers of its cells in order (R165, R166). -/
def State.nodePlan (s : State) (ref : Option Int) (n : Nat) : List Nat :=
  let base := s.cellBase n
  let raw := (List.range (s.cellsOf n)).map fun i =>
    let c := base + i
    match ref with
    | some r => if s.eligible c then (i, (s.cell c).soc - r, s.balTimer c ((s.cell c).soc - r)) else (i, 0, 0)
    | none => (i, 0, 0)
  let on := raw.filter fun (_, _, t) => t != 0
  let keep := keepLargest (s.rd F.BAL_CFG_MAX_PER_NODE) (on.filter fun (i, _) => i % 2 == 0) ++ keepLargest (s.rd F.BAL_CFG_MAX_PER_NODE) (on.filter fun (i, _) => i % 2 == 1)
  raw.map fun (i, _, t) => if keep.contains i then t else 0

/-- The plan computed and sent (R165, R166): EXCL, one BAL_SET per reachable node, PLANS, PLANNED. -/
def State.sendPlan (s : State) : State :=
  let cells := List.range s.cellCount
  let ref := (cells.filter s.eligible).foldl (fun (m : Option Int) c => some (min (m.getD (s.cell c).soc) (s.cell c).soc)) none
  let plans := s.balNodes.map fun n => (n, s.nodePlan ref n)
  let excl := cells.map fun c => (c, !s.eligible c)
  let newly := excl.any fun (c, x) => x && !maskBit F.BAL_EXCL_CELLS s c
  let s := excl.foldl (fun s (c, x) => setMaskBit F.BAL_EXCL_CELLS s c x) s
  let s := if newly then s.raise 0x1D 3 else s
  let s := plans.foldl (fun s (n, t) => s.ringCmd n 0x10 (s.balHeader false ++ t.flatMap (be 2))) s
  let s := { s with bal := { s.bal with plan := plans } }
  ((s.bump F.BAL_PLANS_COUNT).raise 0x1D 0).mirror (.plan plans)

/-- The planner may run by itself (R163): RUN or REST with EN, in RUN only with RUN_EN, not while it yields to an impedance run. -/
def State.planAllowed (s : State) : Bool :=
  s.on F.BAL_CFG_EN && (s.mode == .rest || (s.mode == .run && s.on F.BAL_CFG_RUN_EN)) && !s.on F.BAL_STATUS_YIELDED && s.originates

/-- A plan begins (R166): BAL_STAT read from every reachable node, the plan follows on the last reply. -/
def State.planBegin (s : State) : State :=
  let l := s.balNodes
  let s := { s with bal := { s.bal with replanDue := false } }
  let s := l.foldl (fun s n => s.ringCmd n 0x11) { s with bal := { s.bal with planWait := some l } }
  if l.isEmpty then { s with bal := { s.bal with planWait := none } }.sendPlan else s

/-- A new plan called for by an event of Table 7-3. -/
def State.replan (s : State) : State := if s.planAllowed then s.planBegin else s

/-- A state with balancing's own state changed. -/
def State.modBal (s : State) (f : Bal → Bal) : State := { s with bal := f s.bal }

/-- A plan that had to wait for the end of a sequence of the ring or of HOLD (Table 7-3). -/
def State.replanIfDue (s : State) : State := if s.bal.replanDue then (s.modBal fun b => { b with replanDue := false }).replan else s

/-- A plan under way may still be sent (R163): one that the planner may run by itself, or one of SERVICE. -/
def State.planGoes (s : State) : Bool := s.planAllowed || (s.mode == .service && s.on F.BAL_CFG_EN && s.originates)

/-- A node's BAL_STAT is no longer awaited by a plan; with the last one the plan is sent, or dropped where the planner no longer runs. -/
def State.planGot (s : State) (n : Nat) : State :=
  match s.bal.planWait with
  | none => s
  | some l =>
    if l.contains n then
      let l := l.filter (· != n)
      if l.isEmpty then
        let s := { s with bal := { s.bal with planWait := none } }
        if s.planGoes then s.sendPlan else s
      else { s with bal := { s.bal with planWait := some l } }
    else s

/-- A node confirms a stop (R173): STOPPED with the last one, where no node was given up unconfirmed. -/
def State.stopGot (s : State) (n : Nat) : State :=
  if s.bal.stopWait.contains n then
    let l := s.bal.stopWait.filter (· != n)
    let s := { s with bal := { s.bal with stopWait := l } }
    if l.isEmpty && !s.bal.stopLost then s.raise 0x1D 1 else s
  else s

/-- The on-time of one cell taken from a read (R169): entered in ONTIME, and its charge reported to the estimator (R273: ONTIME × V / RBLEED), with the next valid precise code where the latest is none. -/
def State.takeOnTime (s : State) (renewed : Bool) (c new : Nat) : State :=
  let old := mget 0 s.bal.onMs c
  let diff := if renewed && new < old then new else (new + 2 ^ 32 - old) % 2 ^ 32
  let s := { s with bal := { s.bal with onMs := mset 0 s.bal.onMs c new } }
  let s := s.wr (pairFld F.BAL_ONTIME_CELL_LO F.BAL_ONTIME_CELL_HI c) (satCount 16 (diff / 1000))
  let r := s.rd F.BAL_RBLEED_RBLEED
  let owed := mget 0 s.bal.bled c + diff
  if r = 0 then s
  else if !codeValid (s.precise c) then { s with bal := { s.bal with bled := mset 0 s.bal.bled c owed } }
  else
    let q := owed * s.precise c / (r * 1000)
    let s := { s with bal := { s.bal with bled := mset 0 s.bal.bled c 0 } }
    if q = 0 then s else { s with est := { s.est with bleed := mset 0 s.est.bleed c (mget 0 s.est.bleed c + q) } }

/-- What a BAL_STAT read says of bleeding during a set of an impedance run (R259): a cell that runs at the start or the close, or whose on-time grew between. -/
def State.bledRead (s : State) (n run : Nat) : State :=
  let cells := (List.range (s.cellsOf n)).map fun i => (s.cellBase n + i, run.testBit i)
  let now (c : Nat) : Nat := mget 0 s.bal.onMs c
  let s := if s.imp.closeWait.contains n then
      { s with imp := { s.imp with closeWait := s.imp.closeWait.filter (· != n),
                                   bled := s.imp.bled ++ (cells.filter fun (c, r) => r || now c != mget 0 s.imp.on0 c).map (·.1) } } else s
  if s.imp.startWait.contains n then
    let runs := (cells.filter (·.2)).map (·.1)
    { s with imp := { s.imp with startWait := s.imp.startWait.filter (· != n), on0 := cells.foldl (fun m (c, _) => mset 0 m c (now c)) s.imp.on0,
                                 bled := if s.imp.closing.isNone then s.imp.bled ++ runs else s.imp.bled,
                                 bledNext := if s.imp.closing.isNone then s.imp.bledNext else s.imp.bledNext ++ runs } }
  else s

/-- A BAL_STAT reply (Table 7-2): RUN, BLEEDING, THERM_STOP, the on-times; then the plan or the stop that awaits it. -/
def State.balStat (s : State) (n : Nat) (p : List Byte) : State :=
  let run := beAt p 0 2
  let st := beAt p 2 1
  let cells := min (s.cellsOf n) ((p.length - 4) / 6)
  let base := s.cellBase n
  let renewed := s.bal.renewed.testBit n
  let s := (List.range cells).foldl (fun s i =>
    (setMaskBit F.BAL_RUN_CELLS s (base + i) (run.testBit i)).takeOnTime renewed (base + i) (beAt p (6 + 6 * i) 4)) s
  let setBit (m : Nat) (b : Bool) : Nat := if b then m ||| 2 ^ n else m - (if m.testBit n then 2 ^ n else 0)
  let s := { s with bal := { s.bal with renewed := setBit s.bal.renewed false, running := setBit s.bal.running (run != 0) } }
  let s := if run = 0 then { s with bal := { s.bal with running0 := s.bal.running0.filter (· != n) } } else s
  let s := s.wr F.BAL_STATUS_BLEEDING ((List.range 32).filter s.bal.running.testBit).length
  let s := if st.testBit 1 then s.raise 0x1D 4 else s
  let s := s.bledRead n run
  let s := if run = 0 then s.stopGot n else s
  (s.planGot n).mirror (.onTime s.bal.onMs)

end Sys2Proof.Machine
end

