-- ==== Sys2Proof/Machine/Contact.lean ====
section
/-!
DEFINITION. The coil drivers and feedbacks of R234 to R237 as operations. A contactor is named by k = 1–6 (K1–K6).
-/
namespace Sys2Proof.Machine
open Sys2Proof

/-- The feedback of Kk reports closed. -/
def State.fbClosed (s : State) (k : Nat) : Bool := s.bit F.CONTACT_STATUS_FB (k - 1)

/-- The driver of Kk is energised. -/
def State.driven (s : State) (k : Nat) : Bool := s.bit F.CONTACT_STATUS_DRIVE (k - 1)

/-- The feedbacks of K1–K5 all report open. -/
def State.allOpen (s : State) : Bool := [1, 2, 3, 4, 5].all fun k => !s.fbClosed k

/-- The opening of K1–K5 is over: each reports open, or its weld is a lasting finding (R235, R337 step 6). -/
def State.settled (s : State) : Bool := [1, 2, 3, 4, 5].all fun k => !s.fbClosed k || s.bit F.CONTACT_STATUS_WELD (k - 1)

/-- |I_string| lies above CONTACT.OPEN.I_OPEN (0.1 A). -/
def State.loaded (s : State) : Bool := decide (s.meas.iString.natAbs > s.rd F.CONTACT_OPEN_I_OPEN * 100)

/-- Hold duty HOLD_V / VCOIL, limited to 100 %, in 1/65536 (R234). -/
def holdDuty (holdV vCoil : Nat) : Nat := if vCoil = 0 then 65536 else min 65536 (holdV * 10 * 65536 / vCoil)

/-- VCOIL as measured (10 mV): VCOIL_LOW shows it below VCOIL_MIN (Table 10-6). -/
def State.takeVcoil (s : State) (v : Nat) : State :=
  let low := decide (v < s.rd F.CONTACT_CFG_VCOIL_MIN)
  let was := s.on F.CONTACT_STATUS_VCOIL_LOW
  let s := (s.wr F.CONTACT_VCOIL_VCOIL v).wrB F.CONTACT_STATUS_VCOIL_LOW low
  if low && !was then s.raise 0x24 5 else s

/-- A coil energised: full VCOIL for PULL_MS; a close waits while VCOIL lies below VCOIL_MIN (R234). -/
def State.energise (s : State) (k : Nat) (attempt : Nat := 1) : State :=
  if s.rd F.CONTACT_VCOIL_VCOIL < s.rd F.CONTACT_CFG_VCOIL_MIN then s.setCoil k { s.coil k with waiting := true, attempt := attempt }
  else (s.wrBit F.CONTACT_STATUS_DRIVE (k - 1) true).setCoil k { phase := 1, attempt := attempt }

/-- An opened contactor is counted in LOADED_OPENS and raises LOADED_OPEN while |I_string| exceeds I_OPEN (R237). -/
def State.countLoaded (s : State) (k : Nat) : State :=
  if s.fbClosed k && s.loaded then (s.bump (F.CONTACT_OPS_LOADED_OPENS (k - 1))).raise 0x24 4 else s

/-- A coil de-energised; a contactor that was driven and reports closed is then expected to open (R235). -/
def State.release (s : State) (k : Nat) : State :=
  if s.driven k then
    let s := s.countLoaded k
    (s.wrBit F.CONTACT_STATUS_DRIVE (k - 1) false).setCoil k { opening := s.fbClosed k }
  else s.setCoil k { s.coil k with phase := 0, waiting := false }

/-- Several coils de-energised. -/
def State.releaseAll (s : State) (ks : List Nat) : State := ks.foldl State.release s

/-- The coil-feed switch of the island opened: every coil of K1–K5 releases, whatever its driver commands (R335). -/
def State.cutFeed (s : State) : State := (s.wrB F.SAFE_STATUS_COIL_FEED false).releaseAll [1, 2, 3, 4, 5]

end Sys2Proof.Machine
end

