-- ==== Sys2Proof/Machine/React.lean ====
section
/-!
DEFINITION. The reactions of chapter 16 as operations: conditions, class W, L, S and H, the safe ramp-down, the hard trip and SAFE entry,
with what they end: an apply (R81), an impedance run (Table 11-3), a gate test (R545), control in a pair (R361).
-/
namespace Sys2Proof.Machine
open Sys2Proof

/-! ## What a reaction ends -/

/-- The lowest page with a staged value, 0 when none. -/
def State.lowestDirty (s : State) : Nat := (s.staged.map fun (a, _) => pageOf a).foldl min (if s.scan.staged.isEmpty then 255 else 0x40)

/-- An ARMED or LAUNCHED apply is cancelled with a cause (R81, R77): the staged values stay staged. A secure commit whose apply it was ends with STATE 3; R89 gives no STATE for that (DESIGN CHOICE, notes/assumptions/19.md). -/
def State.cancelApply (s : State) (cause : Nat) : State :=
  let st := s.rd F.CROWN_STAGE_CTRL_STATE
  if (st == 5 || st == 6) && !s.stg.takeUp then
    let s := s.wr F.CROWN_STAGE_CTRL_STATE (if cause == 4 then 4 else 3)
    let s := ((s.wr F.CROWN_STAGE_ERR_CAUSE cause).wr F.CROWN_STAGE_ERR_PAGE (if s.staged.isEmpty && s.scan.staged.isEmpty then 0 else s.lowestDirty)).wr F.CROWN_STAGE_ERR_RULE 0
    let s := if s.stg.commitStep == 2 then { s with stg := { s.stg with commitStep := 0 } }.wr F.WORLD_COMMIT_STAT_STATE 3 else s
    { s with shadow := [], stg := { s.stg with suspended := false, lead := 0, unloaded := [] } }
  else s

/-- The stimulus ends (R226, R255, Table 11-2 step 7): interlock released, a yielded balancing plans anew. -/
def State.endStimulus (s : State) : State :=
  let s := ((s.wr F.IMPED_STATUS_STATE 0).releaseLock).wr F.LOOP_STIM_STIM 0
  let y := s.on F.BAL_STATUS_YIELDED
  let s := s.wrB F.BAL_STATUS_YIELDED false
  let s := { s with imp := { s.imp with startStep := 0, env := 0, p := 0, relock := false }, pwm := { s.pwm with lockNext := false } }
  if y then s.replan else s

/-- The open window discarded (R254): counted, INTERRUPTED, DISCARD. -/
def State.discardWindow (s : State) : State :=
  let s := (((s.bump F.IMPED_DISC_WINDOWS).wrB F.IMPED_STATUS_INTERRUPTED true).raise 0x26 4).bump F.IMPED_STATUS_CONSEC
  { s with imp := { s.imp with disc := s.imp.disc + 1, acc := s.imp.acc.filter fun (k, _) => k / 1024 != s.imp.win } }

/-- A run ends by abort (R255): the code, ABORTED, the count, unless it was aborted before; codes 2 and 3 end the stimulus at once, the others ramp it down. -/
def State.abortRun (s : State) (code : Nat) : State :=
  let st := s.rd F.IMPED_STATUS_STATE
  if st == 1 || st == 2 || s.imp.startStep != 0 || (st == 3 && (code == 2 || code == 3)) then
    let s := if s.imp.aborted then s else ((s.wr F.IMPED_STATUS_ABORT code).raise 0x26 3).bump F.IMPED_RUNS_ABORTED
    let s := { s with imp := { s.imp with aborted := true, lastSet := s.imp.lastSet || st == 2 } }
    if code == 2 || code == 3 || s.imp.startStep != 0 then s.endStimulus else s.wr F.IMPED_STATUS_STATE 3
  else s

/-- HOLD entry discards the open window and aborts the run (R254, Table 11-3). -/
def State.holdRun (s : State) : State :=
  (if s.rd F.IMPED_STATUS_STATE == 1 || s.rd F.IMPED_STATUS_STATE == 2 then s.discardWindow else s).abortRun 2

/-- A gate test ends with a result (R545): GTEST_DONE for 0, GTEST_ABORT otherwise; atOnce removes gates and enables now, else at the next phase-0 boundary. -/
def State.endGateTest (s : State) (result : Nat) (atOnce : Bool) : State :=
  if s.on F.TESTMUX_STATUS_GTEST && (atOnce || !s.tmx.stopNext) then
    let s := (s.wr F.TESTMUX_STATUS_GRESULT result).raise 0x70 (if result == 0 then 2 else 3)
    if atOnce then { (s.gatesOff.wrB F.TESTMUX_STATUS_GTEST false).dropEnables with tmx := { s.tmx with startNext := false, stopNext := false } }
    else { s with tmx := { s.tmx with stopNext := true } }
  else s

/-- What ends a gate test beside S and H events (R545): a feedback of K1–K5 reporting closed, |V_link| above 50 V. -/
def State.watchTest (s : State) : State :=
  if !s.on F.TESTMUX_STATUS_GTEST then s
  else if [1, 2, 3, 4, 5].any s.fbClosed then s.endGateTest 9 false
  else if s.meas.vLink.natAbs > 50000 then s.endGateTest 10 false else s

/-- The test access port locks (R547). -/
def State.lockPort (s : State) : State :=
  if s.on F.TESTMUX_STATUS_JTAG_OPEN then
    { (s.wrB F.TESTMUX_STATUS_JTAG_OPEN false).raise 0x70 1 with tmx := { s.tmx with instr := .bypass, forced := [] } }
  else s

/-! ## Conditions -/

/-- L_ACTIVE, S_ACTIVE and H_ACTIVE of PROT.STATUS (Table 16-7). -/
def State.refreshActive (s : State) : State :=
  let has (c : RClass) : Bool := s.prot.conds.any fun (x : Cond × RClass) => x.2 == c
  ((s.wrB F.PROT_STATUS_L_ACTIVE (has .L)).wrB F.PROT_STATUS_S_ACTIVE (has .S)).wrB F.PROT_STATUS_H_ACTIVE (has .H)

/-- The coil-feed switch closes when the module is not in SAFE and no S or H condition is active, once the start is complete (R335). -/
def State.closeFeed (s : State) : State :=
  if s.crown.phase == .complete && s.mode != .safe && s.noSH && !s.prot.srd.isSome then s.wrB F.SAFE_STATUS_COIL_FEED true else s

/-- A condition becomes active in a class (R328). -/
def State.addCond (s : State) (c : Cond) (r : RClass) : State :=
  { s with prot := { s.prot with conds := (s.prot.conds.filter fun (x : Cond × RClass) => x.1 != c) ++ [(c, r)] } }.refreshActive

/-- A condition ends: the check that found it passes again (R328). -/
def State.clearCond (s : State) (c : Cond) : State :=
  if s.prot.conds.any fun (x : Cond × RClass) => x.1 == c then
    { s with prot := { s.prot with conds := s.prot.conds.filter fun (x : Cond × RClass) => x.1 != c } }.refreshActive.closeFeed
  else s

/-- A condition is active. -/
def State.hasCond (s : State) (c : Cond) : Bool := s.prot.conds.any fun (x : Cond × RClass) => x.1 == c

/-! ## SAFE, the safe ramp-down, the hard trip -/

/-- The SAFE latch set with the low byte of the code of its event, as recorded for its source page (R41, Table 2-4). -/
def State.setLatch (s : State) (source : Nat) (ev : Ev) : State :=
  ((s.wrB F.CROWN_MODE_SAFE_LATCH true).wr F.CROWN_MODE_SAFE_CAUSE (evCode source ev % 256)).lockPort

/-- The loop engine stops evaluating (Table 9-4); pending plausibility checks are voided (R412). -/
def State.loopOff (s : State) : State :=
  let pend := s.rd F.LOOP_STATUS_PL_PENDING
  let s := if pend == 0 then s else (s.wr F.LOOP_STATUS_PL_PENDING 0).voidCheck (pend % 2 + pend / 2 % 2 + pend / 4 % 2)
  instances.foldl (fun s k => s.wrB (F.LOOP_ISTAT_ACTIVE k) false) ((s.wrB F.LOOP_STATUS_EVAL false).wrB F.LOOP_STATUS_RAMPING false)

/-- Step 4 of Table 10-2 ends other than by PRECHARGE_END: T_PRE takes its duration in ms. -/
def State.notePre (s : State) : State :=
  if s.rd F.TRACK_STATUS_STEP == 4 && s.track.aborting == 0 then s.wr F.TRACK_PRECHG_T_PRE (satCount 16 ((s.mono - s.track.preAt) / 1000000)) else s

/-- The sequence of a start or of a disconnect ends where it stands (R244): STEP 0, nothing of it under way. -/
def State.endSequence (s : State) : State :=
  let s := ((s.wr F.TRACK_STATUS_STEP 0).wrB F.TRACK_STATUS_FORMING false).wrB F.TRACK_STATUS_RETRY false
  { s with track := { s.track with preReread := false, retried := false, waiting := false, tracking := false, forming := false, aborting := 0, disc := 0,
                                   awaitStart := false, ended := false, peakBad := false, waitDue := false },
           crown := { s.crown with runDue := false, trans := .none } }

/-- A start in progress is dropped: STEP 0 and the abort code (Table 10-3). -/
def State.dropStart (s : State) (code : Nat) : State :=
  let s := if s.rd F.TRACK_STATUS_STEP != 0 || s.track.waiting then
      ((s.notePre.wr F.TRACK_STATUS_ABORT code).bump F.TRACK_STARTS_ABORTS).raise 0x23 4 else s
  s.endSequence

/-- The module enters SAFE (Table 2-2, Table 16-4 step 6); the latch as Table 16-1 calls for it, with the event and its source page. The end of a fast SRD is recorded (Table 2-10 step 4); its step 5 is due where VAUX lies below 15.5 V. -/
def State.enterSafe (s : State) (latch : Bool) (src : Nat) (ev : Ev) : State :=
  let s := ((s.leaveBal.gatesOff.dropEnables.loopOff).dropStart 10).setMode .safe
  let s := ((s.wrB F.SAFE_STATUS_SRD_ACTIVE false).wr F.SAFE_STATUS_SRD_STEP 0).raise 0x31 1
  let s := (s.wrB F.SUPPLY_STATUS_HOLD_ACTIVE false)
  let fast := match s.prot.srd with
    | some d => d.fast
    | none => false
  let s := if fast then s.record 6 0x02 .holdEnd else s
  let s := { s with crown := { s.crown with fromHold := fast && s.crown.vauxLow } }
  let s := if latch then s.setLatch src ev else s
  { s with prot := { s.prot with srd := none }, loop := { s.loop with srdClocks := none } }.entryStore 3

/-- The coils are released at near-zero current (Table 16-4 step 5): K4 and K5, then K1, K2 and K3; SAFE follows when the feedbacks report open. -/
def State.srdRelease (s : State) : State :=
  match s.prot.srd with
  | none => s
  | some d =>
    let s := s.wr F.SAFE_STATUS_SRD_STEP 5
    let s := if s.loaded then s else s.releaseAll [4, 5, 1, 2, 3]
    if s.settled then s.enterSafe d.latch d.src d.ev else s

/-- Both enables removed at the ramp's end (step 4), and step 5 begun. -/
def State.srdRampEnd (s : State) : State :=
  match s.prot.srd with
  | none => s
  | some _ =>
    let s := ((s.gatesOff.dropEnables.freezeAll true).loopOff).wr F.SAFE_STATUS_SRD_STEP 4
    s.srdRelease

/-- What an SRD and a hard trip end on their start: an apply (R81), a start (code 10), an impedance run (code 2). -/
def State.endForStop (s : State) : State :=
  let s := s.cancelApply 9
  let s := s.abortRun 2
  if s.rd F.TRACK_STATUS_STEP != 0 || s.track.waiting || s.track.disc != 0 || s.crown.trans != .none then s.dropStart 10 else s

/-- A unit of a pair that is not in control keeps the mode it shadows (R359, R362): its island acts on its own outputs alone (R331). -/
def State.shadows (s : State) : Bool := decide (2 ≤ s.rd F.PAIR_STATUS_ROLE)

/-- An SRD begins (Table 16-4 step 1) with a cause of R346; latch where the cause is a lasting fault. In STANDBY and SERVICE nothing but the record happens, in SAFE the latch is set where it is called for (R330); a further one during an SRD neither restarts nor lengthens the ramp (R331), one during a hard trip is recorded as a lower trigger (R38). A unit of a pair that is not in control keeps the mode it shadows (DEDUCED, notes/assumptions/44.md). -/
def State.startSrd (s : State) (cause : Nat) (latch : Bool) (src : Nat) (ev : Ev) (fast : Bool := false) : State :=
  match s.mode with
  | .transport | .standby => s
  | .service => s.endGateTest 8 false
  | .safe => if latch then s.setLatch src ev else s
  | _ =>
    if s.shadows then s
    else if s.prot.srd.any (·.trip) then s.record 3 0x31 .triggerRefused [cause]
    else if s.prot.srd.isSome then s
    else
      let eff := s.effMode
      let s := s.endForStop
      let s := (((s.wrB F.SAFE_STATUS_SRD_ACTIVE true).wr F.SAFE_STATUS_SRD_STEP 1).wr F.SAFE_STATUS_SRD_CAUSE cause).wrI F.SAFE_I0_I0 (toQ s.meas.iString)
      let s := (s.bump F.SAFE_COUNTS_SRDS).raise 0x31 0
      let s := { s with prot := { s.prot with srd := some { fast := fast, latch := latch, src := src, ev := ev } }, loop := { s.loop with srdClocks := none } }
      if eff == .rest || eff == .standby || !s.loaded then s.srdRampEnd else s.wr F.SAFE_STATUS_SRD_STEP 2

/-- What a hard trip does by mode (R346): in STANDBY and SERVICE nothing further, the coil feed closing again where no condition holds it open (R335), in SAFE the latch, else the way into SAFE once the contactors are open; the latch is the first trip's. -/
def State.tripMode (s : State) (src : Nat) (ev : Ev) : State :=
  match s.mode with
  | .standby | .service => s.closeFeed
  | .safe => s.setLatch src ev
  | _ =>
    if s.shadows then s.closeFeed
    else
    let s := s.endForStop.loopOff
    let s := (s.wrB F.SAFE_STATUS_SRD_ACTIVE true).wr F.SAFE_STATUS_SRD_STEP 5
    let d : Srd := match s.prot.srd with
      | some d => if d.trip then d else { fast := d.fast, trip := true, latch := true, src := src, ev := ev }
      | none => { trip := true, latch := true, src := src, ev := ev }
    let s := { s with prot := { s.prot with srd := some d } }
    if s.settled then s.enterSafe true d.src d.ev else s

/-- A hard trip (R338): both gate enables removed, the coil-feed switch opened, no wait for near-zero current; SAFE with the latch once the feedbacks report open. -/
def State.hardTrip (s : State) (src : Nat) (ev : Ev) : State :=
  if s.mode = .transport then s
  else
    let s := (s.endGateTest 8 true).gatesOff.dropEnables.freezeAll true
    let s := ((s.wr F.SAFE_STATUS_SRD_CAUSE 9).bump F.SAFE_COUNTS_TRIPS).raise 0x31 2
    (s.cutFeed.cancelApply 9).tripMode src ev

/-- The last S or H event of the module, for the CAUSE of its safety messages (Table 16-5). -/
def State.noteSH (s : State) (source : Nat) (ev : Ev) : State := { s with prot := { s.prot with lastSH := some (source, ev) } }

/-- The action of a reaction class (Table 16-1) for an event of a source page: the record, and the SRD of a lasting fault or the hard trip. -/
def State.react (s : State) (r : RClass) (source : Nat) (ev : Ev) (data : List Int := []) (cause : Nat := 7) (same : Bool := false) : State :=
  match r with
  | .W => s.record 3 source ev data same
  | .L => s.record 4 source ev data same
  | .S => ((s.record 6 source ev data same).noteSH source ev).startSrd cause true source ev
  | .H => ((s.record 7 source ev data same).noteSH source ev).hardTrip source ev

/-- A class encoded as 0b00 W, 0b01 L, 0b10 S, 0b11 H. -/
def RClass.ofCode : Nat → RClass
  | 0 => .W | 1 => .L | 2 => .S | _ => .H

/-- An SRD by request (R328: the latch is not set for a request). -/
def State.requestSrd (s : State) (cause : Nat) (ev : Ev) (data : List Int := []) : State :=
  ((s.record 6 0x31 ev data).noteSH 0x31 ev).startSrd cause false 0x31 ev

/-! ## Control in a pair -/

/-- A unit that was active gives its claim up for a role (R361, R355, R365): gates off and instances frozen, an impedance run ended, an ARMED apply cancelled, a start or a disconnect left to the new active unit (R244), the digital and cooling outputs off, the ring no longer originated (R114). -/
def State.giveUpClaim (s : State) (role : Nat) : State :=
  let s := ((s.gatesOff.freezeAll true).dropEnables).abortRun 3
  let s := if s.rd F.CROWN_STAGE_CTRL_STATE == 5 then s.cancelApply 0xB else s
  let s := ((s.endSequence.wr F.CLAIM_STATUS_OWN 0).wr F.PAIR_STATUS_ROLE role).wr F.IMAGE_DO_DO 0
  s.stopRing.driveCool

/-- The active unit relinquishes for a cause of Table 17-5 while the partner is READY (R361), else the cause takes its reaction. -/
def State.relinquishOr (s : State) (cause : Nat) (otherwise : State → State) : State :=
  if s.rd F.PAIR_STATUS_ROLE == 1 && s.on F.PAIR_STATUS_PARTNER_READY && s.on F.PAIR_STATUS_LINK_UP then
    let s := (s.giveUpClaim 3).wr F.PAIR_LASTSW_CAUSE cause
    let s := ((s.bump F.PAIR_SWITCHES_RELINQS).raise 0x38 1).wrB F.PAIR_STATUS_READY false
    let s := { s with pair := { s.pair with t0 := s.mono, freset := false } }.send (.relinquish cause)
    s.record 6 0x38 .relinquished (cause :: s.pair.almSeqs.map fun (n : Nat) => (n : Int))
  else otherwise s

end Sys2Proof.Machine
end

