-- ==== Sys2Proof/Machine/TimeOps.lean ====
section
/-!
DEFINITION. The four time bases as operations (R428 to R431): their value, a step and what it does to triggers (R443), to the CAN latch
(R451), to an armed apply (R78) and to the PTP servo.
-/
namespace Sys2Proof.Machine
open Sys2Proof

/-- A time base as one number, in 2^−48 ns (R429). -/
def TimeBase.total (t : TimeBase) : Nat := (t.sec * 1000000000 + t.ns) * 2 ^ 48 + t.frac

/-- The time base of a number of 2^−48 ns; seconds wrap at 2^48 (R13). -/
def TimeBase.ofTotal (x : Int) : TimeBase :=
  let n := (x % (2 ^ 96 * 1000000000)).toNat
  { sec := n / 2 ^ 48 / 1000000000, ns := n / 2 ^ 48 % 1000000000, frac := n % 2 ^ 48 }

/-- A time base in 2^−16 ns, as a stamp holds it (R13). -/
def TimeBase.stamp (t : TimeBase) : Int := ((t.sec * 1000000000 + t.ns) * 65536 + t.frac16 : Nat)

/-- A time base in whole nanoseconds. -/
def TimeBase.nanos (t : TimeBase) : Int := ((t.sec * 1000000000 + t.ns : Nat) : Int)

/-- A state with one time base replaced. -/
def State.setTimeBase (s : State) (n : Nat) (t : TimeBase) : State := { s with tb := mset {} s.tb n t }

/-- The increment of a time base at a CD7 clock, in 2^−48 ns: 4 ns × (1 + RATE × 10^−9), RATE in sQ19.12 ppb, rounded (R429). -/
def tickIncrement (rate : Int) : Int := 4 * 2 ^ 48 + roundDiv (4 * rate * 2 ^ 36) 1000000000

/-- One CD7 clock of a time base. -/
def State.tickBase (s : State) (n : Nat) : State :=
  let t := s.timeBase n
  let inc := tickIncrement (if n = 3 then 0 else s.rdI (F.TIME_RATE_RATE n))
  s.setTimeBase n (TimeBase.ofTotal (t.total + inc))

/-- SYNCED becomes 1 (R430). -/
def State.setSynced (s : State) (n : Nat) : State :=
  if s.on (F.TIME_CMD_SYNCED n) then s else (s.wrB (F.TIME_CMD_SYNCED n) true).raise 0x48 (4 + n)

/-- A clock domain runs (Table 20-1): all stopped in TRANSPORT and unpowered, CD0 to CD3, CD6 and CD10 in dormant STANDBY, CD2 and CD3 without their port; CD9 by its update clock; CD12 while TCK runs, which the test access alone knows. -/
def State.clockRuns (s : State) (d : Nat) : Bool :=
  if s.mode == .transport || s.crown.phase == .unpowered || s.crown.phase == .transport then false
  else if [0, 1, 6, 10].contains d then !s.on F.CROWN_MODE_DORMANT
  else if d = 2 then !s.on F.CROWN_MODE_DORMANT && s.on F.RING_STATUS_LINK_A
  else if d = 3 then !s.on F.CROWN_MODE_DORMANT && s.on F.RING_STATUS_LINK_B
  else if d = 12 then false
  else if d = 13 then s.prot.safeClk
  else d ≤ 13

/-- RUN of CLOCK.STATUS. -/
def State.clockRun (s : State) : Nat := (List.range 14).foldl (fun a d => if s.clockRuns d then a + 2 ^ d else a) 0

/-! ## Triggers -/

/-- One trigger. -/
def State.trig (s : State) (k : Nat) : Trig := mget {} s.time.trigs k

/-- A state with one trigger replaced. -/
def State.setTrig (s : State) (k : Nat) (t : Trig) : State := { s with time := { s.time with trigs := mset {} s.time.trigs k t } }

/-- START of a trigger in nanoseconds. -/
def State.trigStart (s : State) (k : Nat) : Int :=
  ((s.rd (F.TRIG_TSTART_SEC_LO_SEC_LO k) + 2 ^ 32 * s.rd (F.TRIG_TSTART_SEC_HI_SEC_HI k)) * 1000000000 + s.rd (F.TRIG_TSTART_NS_NS k) : Nat)

/-- The instant of leading edge j (R442). -/
def State.edgeAt (s : State) (k j : Nat) : Int := s.trigStart k + j * s.rd (F.TRIG_TPER_PERIOD_NS k)

/-- Whether a trigger is armed: bit 0 of STAT. -/
def State.armed (s : State) (k : Nat) : Bool := s.bit (F.TRIG_TCTL_STAT k) 0

/-- The output is driven: with CLAIM_ONLY only by the unit that holds the claim (R442). -/
def State.trigDrives (s : State) (k : Nat) : Bool := !s.on (F.TRIG_TCFG_CLAIM_ONLY k) || s.rd F.PAIR_STATUS_ROLE == 0 || s.rd F.PAIR_STATUS_ROLE == 1

/-- The level at a TRIG pin: the pulse, inverted with INVERT; none where the unit holds the output undriven (R442). -/
def State.trigLevel (s : State) (k : Nat) : Option Bool := if s.trigDrives k then some ((s.trig k).high != s.on (F.TRIG_TCFG_INVERT k)) else none

/-- A leading edge: it is counted and the pulse begins. -/
def State.leadingEdge (s : State) (k : Nat) : State :=
  let t := s.trig k
  let s := s.setTrig k { t with j := t.j + 1, high := true }
  if s.trigDrives k then s.bump (F.TRIG_TCNT_EDGES k) else s

/-- An armed schedule ends: ARMED clears, TRIG_DONE. -/
def State.trigDone (s : State) (k : Nat) : State := ((s.wrBit (F.TRIG_TCTL_STAT k) 0 false).setTrig k {}).raise 0x4A k

/-- How many leading edges of a train from index j on lie at or before an instant. -/
def State.edgesBy (s : State) (k j : Nat) (now : Int) : Nat :=
  let d := now - s.edgeAt k j
  if d < 0 then 0 else (d / max 1 (s.rd (F.TRIG_TPER_PERIOD_NS k))).toNat + 1

/-- A forward step over leading edges (R443): a train skips and counts them, a single pulse fires late. -/
def State.trigStepped (s : State) (n : Nat) (now : Int) (k : Nat) : State :=
  let t := s.trig k
  if !s.armed k || s.rd (F.TRIG_TCFG_TB k) != n then s
  else if s.on (F.TRIG_TCFG_PERIODIC k) then
    let m := if t.ending then 0 else s.edgesBy k t.j now
    (s.setTrig k { t with j := t.j + m }).bump (F.TRIG_TCNT_MISSED k) m
  else if t.j == 0 && decide (s.trigStart k ≤ now) then ((s.wrBit (F.TRIG_TCTL_STAT k) 1 true).raise 0x4A (24 + k)).leadingEdge k
  else s

/-! ## Steps -/

/-- A PTP instance. -/
def State.ptp (s : State) (i : Nat) : Ptp := mget {} s.time.ptp i

/-- A state with one PTP instance replaced. -/
def State.setPtp (s : State) (i : Nat) (p : Ptp) : State := { s with time := { s.time with ptp := mset {} s.time.ptp i p } }

/-- Steps of a time base since reset. -/
def State.stepsOf (s : State) (n : Nat) : Nat := mget 0 s.time.steps n

/-- The TB0 instant in ns at which an apply armed for a TB0 time is launched: APPLY_AT less two phase-0 periods of 2.5 ns clocks (R77). -/
def State.launchAt (s : State) : Int :=
  s.stg.at0 - (s.rd F.PSTAGE_PERIOD_PER * 5 : Nat)

/-- A step carries TB0 past the launch instant without counting through it: the apply is cancelled with CAUSE 0x7 (R78). -/
def State.applyStepped (s : State) (old new : Int) : State :=
  if s.rd F.CROWN_STAGE_CTRL_STATE == 5 && s.stg.kind == 1 && decide (old < s.launchAt) && decide (s.launchAt < new)
  then s.cancelApply 7 else s

/-- A step of a time base (R431): counted, STEP, recorded with its signed size in ns, and its effects. -/
def State.stepBase (s : State) (n : Nat) (t : TimeBase) : State :=
  let old := s.timeBase n
  let d := t.stamp - old.stamp
  let s := (((s.setTimeBase n t).bump (F.TIME_CMD_STEPS n)).raise 0x48 n).record 3 0x48 .timeStep [n, roundDiv d 65536]
  let p := s.ptp n
  let s := { s with time := { s.time with steps := mset 0 s.time.steps n (s.stepsOf n + 1) } }
  let s := if n < 2 then s.setPtp n { p with prevT2 := p.prevT2.map (· + d), acq := none } else s
  let s := if n = 0 && decide (d < 0) then { s with est := { s.est with back := true } } else s
  let s := if n = 0 then { s.applyStepped old.nanos t.nanos with can := { s.can with stepAt := some (s.can.stepAt.getD s.cd8) } } else s
  if d > 0 then (List.range 8).foldl (fun s k => s.trigStepped n t.nanos k) s else s

/-- A write of CMDn (R431): the step, or the refusal with REFUSED and, for a non-secure session and TB0, the world error. -/
def State.timeCmd (s : State) (who : Initiator) (n data : Nat) : State :=
  let set := data.testBit 0
  let shift := data.testBit 1
  if !set && !shift then s
  else if n = 0 ∧ s.secureOf who = false then ((s.wrB (F.TIME_CMD_REFUSED n) true).refuseAccess who (A.TIME_CMD n) true 0x02)
  else if n = 3 || (set && shift) || (n < 2 && s.on (F.PTP_CFG_EN n)) then s.wrB (F.TIME_CMD_REFUSED n) true
  else
    let s := s.wrB (F.TIME_CMD_REFUSED n) false
    if set then
      let sec := s.rd (F.TIME_SETSL_SET_SLO n) + 2 ^ 32 * s.rd (F.TIME_SETSH_SET_SHI n)
      (s.stepBase n (TimeBase.ofTotal (((sec * 1000000000 + s.rd (F.TIME_SETNS_SET_NS n)) * 2 ^ 48 : Nat)))).setSynced n
    else s.stepBase n (TimeBase.ofTotal ((s.timeBase n).total + s.rdI (F.TIME_SETNS_SET_NS n) * 2 ^ 48))

/-- A read of NSn latches the rest of the time base (R429). -/
def State.nsRead (s : State) (n : Nat) : State :=
  let t := s.timeBase n
  let s := ((s.wr (F.TIME_NS_NS n) t.ns).wr (F.TIME_SLO_SEC_LO n) t.sec).wr (F.TIME_SHI_SEC_HI n) (t.sec / 2 ^ 32)
  { s.wr (F.TIME_SHI_FRAC n) t.frac16 with readData := [Word.ofNat t.ns] }

/-- SNAP (R429): all four time bases at one clock. -/
def State.snap (s : State) : State :=
  (List.range 4).foldl (fun s n =>
    let t := s.timeBase n
    (((s.wr (F.TIME_SNAP_NS_NS n) t.ns).wr (F.TIME_SNAP_SEC_LO_SEC_LO n) t.sec).wr (F.TIME_SNAP_HI_SEC_HI n) (t.sec / 2 ^ 32)).wr (F.TIME_SNAP_HI_FRAC n) t.frac16) s

/-- RATE limited to ±500 ppm (R429). -/
def clampRate (r : Int) : Int := clampI r (-2048000000) 2048000000

/-- ARM (R442): the schedule armed, or refused with WRERR; in the past, PAST or the first edge of the train that lies ahead. -/
def State.armTrigger (s : State) (k : Nat) : State :=
  let per := s.rd (F.TRIG_TPER_PERIOD_NS k)
  let wid := s.rd (F.TRIG_TWID_WIDTH_NS k)
  let train := s.on (F.TRIG_TCFG_PERIODIC k)
  if s.armed k then s
  else if (train && (per < 1000 || wid < 8 || wid + 8 > per)) || wid < 8 then s.wrBit (F.TRIG_TCTL_STAT k) 3 true
  else
    let now := (s.timeBase (s.rd (F.TRIG_TCFG_TB k))).nanos
    let s := (s.wr (F.TRIG_TCTL_STAT k) 1).setTrig k {}
    if train then s.setTrig k { j := s.edgesBy k 0 now }
    else if s.trigStart k ≤ now then (s.wr (F.TRIG_TCTL_STAT k) 4).raise 0x4A (24 + k)
    else s

/-- ARM written 0 (R442): a train ends after any pulse in progress. -/
def State.disarmTrigger (s : State) (k : Nat) : State :=
  if s.armed k && s.on (F.TRIG_TCFG_PERIODIC k) then
    if (s.trig k).high then s.setTrig k { s.trig k with ending := true } else s.trigDone k
  else s

/-- A write to a schedule register, START, PERIOD_NS or WIDTH_NS (R442): while ARMED it has no effect and sets WRERR. -/
def State.trigSchedule (s : State) (a data : Nat) : State :=
  let k := (a - A.TRIG_TCFG 0) / 0x20
  if s.armed k then s.wrBit (F.TRIG_TCTL_STAT k) 3 true else s.writeFields a data

/-- Whether a register belongs to the schedule of a trigger: TSTART, TPER, TWID (Table 21-6). -/
def isSchedule (a : Nat) : Bool := decide (A.TRIG_TCFG 0 ≤ a) && decide (a < A.TRIG_CCFG 0) && decide (8 ≤ (a - A.TRIG_TCFG 0) % 0x20) && decide ((a - A.TRIG_TCFG 0) % 0x20 < 0x1C)

/-- A write of TCTLk. -/
def State.trigCtl (s : State) (k data : Nat) : State :=
  let s := s.wr (F.TRIG_TCTL_ARM k) (data % 2)
  if data % 2 = 1 then s.armTrigger k else s.disarmTrigger k

/-! ## Captures -/

/-- The stamps queued at a capture input. -/
def State.stamps (s : State) (k : Nat) : List (Bool × TimeBase) := mget [] s.time.caps k

/-- The queue of a capture input replaced, with FILL, HEAD_RISE and the head stamp (0 where it is empty). -/
def State.setStamps (s : State) (k : Nat) (l : List (Bool × TimeBase)) : State :=
  let s := { s with time := { s.time with caps := mset [] s.time.caps k l } }
  let (rise, t) := l.headD (false, {})
  let s := (s.wr (F.TRIG_CSTAT_FILL k) l.length).wrB (F.TRIG_CSTAT_HEAD_RISE k) rise
  ((s.wr (F.TRIG_CHEADk_NS_NS k) t.ns).wr (F.TRIG_CHEADk_SEC_LO_SEC_LO k) t.sec).wr (F.TRIG_CHEADk_SEC_HI_SEC_HI k) (t.sec / 2 ^ 32)

/-- A captured edge (R444): queued, or dropped where the queue of 8 is full. -/
def State.captureEdge (s : State) (k : Nat) (rise : Bool) (t : TimeBase) : State :=
  let l := s.stamps k
  if l.length ≥ 8 then ((s.bump (F.TRIG_CCNT_DROPPED k)).wrB (F.TRIG_CSTAT_OVF k) true).raise 0x4A (16 + k)
  else ((s.setStamps k (l ++ [(rise, t)])).bump (F.TRIG_CCNT_CAPTURED k)).raise 0x4A (8 + k)

end Sys2Proof.Machine
end

