-- ==== Sys2Proof/Machine/CanOps.lean ====
section
/-!
DEFINITION. The CAN FD channels as operations (chapter 22): roles and sleep, filters, start-of-frame times, the receive and transmit rings.
-/
namespace Sys2Proof.Machine
open Sys2Proof

/-- A channel is in restricted operation (R456). -/
def State.canRestricted (s : State) (c : Nat) : Bool := s.on (F.CAN_CFG_ROM c) || s.rd F.PAIR_STATUS_ROLE == 2 || s.rd F.PAIR_STATUS_ROLE == 3

/-- A channel sleeps (R457). -/
def State.canSleeps (s : State) (c : Nat) : Bool := s.on F.CROWN_MODE_DORMANT && s.on (F.CAN_CFG_EN c) && s.on (F.CAN_CFG_SLEEP_EN c)

/-- A channel receives: enabled, awake, not bus-off, outside TRANSPORT. -/
def State.canListens (s : State) (c : Nat) : Bool :=
  s.on (F.CAN_CFG_EN c) && !s.canSleeps c && decide (s.rd (F.CAN_STATUS_STATE c) < 2) && s.portsLive

/-- The receive and the transmit ring of a channel (Table 19-2). -/
def rxRing (c : Nat) : Nat := 100 + c
/-- The transmit ring of a channel. -/
def txRing (c : Nat) : Nat := 104 + c

/-- Data bytes of a DLC (ISO 11898-1). -/
def dlcLen (fdf : Bool) (dlc : Nat) : Nat :=
  if dlc ≤ 8 then dlc else if !fdf then 8 else [12, 16, 20, 24, 32, 48, 64].getD (dlc - 9) 64

/-- The DLC of a permitted length; none where the length is not permitted (Table 22-1). -/
def lenDlc (fdf : Bool) (len : Nat) : Option Nat :=
  if len ≤ 8 then some len
  else if !fdf then none
  else match [12, 16, 20, 24, 32, 48, 64].findIdx? (· == len) with
    | some k => some (9 + k)
    | none => none

/-- Bytes padded with 0 to a multiple of 4. -/
def pad4 (l : List Byte) : List Byte := l ++ List.replicate ((4 - l.length % 4) % 4) 0

/-- Exactly n bytes of a list, 0 beyond its end. -/
def fit (n : Nat) (l : List Byte) : List Byte := (l ++ List.replicate n 0).take n

/-! ## Start-of-frame times -/

/-- The signed difference of two counts of 32 bits. -/
def countDiff (a b : Nat) : Int := signedOf 32 ((a + 2 ^ 32 - b % 2 ^ 32) % 2 ^ 32)

/-- A channel that integrates takes part in traffic again at count c, 11 nominal bit times after it began, error active or passive as its counters say (R449; that the bus is recessive meanwhile: DESIGN CHOICE, notes/assumptions/56.md). -/
def State.canIntegrated (s : State) (ch c : Nat) : State :=
  match (s.canCh ch).integ with
  | none => s
  | some c0 =>
    let bit := s.rd (F.CAN_NBT_BRP ch) * (1 + s.rd (F.CAN_NBT_TSEG1 ch) + s.rd (F.CAN_NBT2_TSEG2 ch))
    if s.rd (F.CAN_STATUS_STATE ch) != 3 || !s.on (F.CAN_CFG_EN ch) || s.canSleeps ch || decide (countDiff c c0 < (11 * bit : Nat)) then s
    else (s.setCanCh ch { s.canCh ch with integ := none }).wr (F.CAN_STATUS_STATE ch)
      (if s.rd (F.CAN_ERRCNT_TEC ch) > 127 || s.rd (F.CAN_ERRCNT_REC ch) > 127 then 1 else 0)

/-- The latch pair that maps a stamp, and whether it follows a step the stamp lies behind (R452): the newest pair first. -/
def pairFor (c : Nat) : List (Nat × TimeBase × Option Nat) → (Nat × TimeBase × Bool)
  | [] => (0, {}, false)
  | (cl, tl, st) :: t =>
    let stepped := match st with
      | some x => decide (0 ≤ countDiff c x)
      | none => false
    if 0 ≤ countDiff c cl then (cl, tl, false)
    else if stepped then (cl, tl, true)
    else match t with
      | [] => (cl, tl, false)
      | _ :: _ => pairFor c t

/-- The pairs that map stamps: while a step awaits its latch, one formed now. -/
def State.pairsNow (s : State) : List (Nat × TimeBase × Option Nat) :=
  match s.can.stepAt with
  | some x => (s.cd8, s.timeBase 0, some x) :: s.can.pairs
  | none => s.can.pairs

/-- TB0 at a stamp (R452): T_L − 8 ns + (C − C_L) × 12.5 ns × (1 + RATE0 × 10^−9), rounded to 2^−16 ns, and STEPPED. -/
def State.canTime (s : State) (c : Nat) : TimeBase × Bool :=
  let (cl, tl, stepped) := pairFor c s.pairsNow
  let d := roundAway (countDiff c cl * 819200 * (4096000000000 + s.rdI (F.TIME_RATE_RATE 0))) 4096000000000
  (TimeBase.ofTotal ((tl.stamp - 8 * 65536 + d) * 2 ^ 32), stepped)

/-! ## Receive ring -/

/-- The lowest matching filter (R450): 0 to 15, 0x1E dispatch, 0x1F a station. -/
def State.canFilter (s : State) (c : Nat) (f : CanFrame) : Option Nat :=
  match (List.range 16).find? fun k => s.on (F.CAN_FLT_0_EN c k) && s.on (F.CAN_FLT_0_IDE c k) == f.ide
      && (f.id ^^^ s.rd (F.CAN_FLT_0_ID c k)) &&& s.rd (F.CAN_FLT_4_MASK c k) == 0 with
  | some k => some k
  | none =>
    if f.ide && s.rd F.DISP_CAN_CH == c && f.id == s.rd F.DISP_CANRX_ID_RX then some 0x1E
    else if f.ide && (List.range 32).any (fun n => s.rdStation n (F.STATION_SCFG_EN n) == 1 && s.rdStation n (F.STATION_SCFG_LINK n) == 0 && s.rdStation n (F.STATION_SCFG_CH n) == c
        && f.id == s.rdStation n (F.STATION_SADDR_ADDR n) % 2 ^ 29 + 1) then some 0x1F
    else none

/-- Word 0 of an entry: identifier, a base identifier in [10:0], IDE, RTR (Table 22-2). -/
def idWord (id : Nat) (ide rtr : Bool) : Nat := id % (if ide then 2 ^ 29 else 2 ^ 11) + (if ide then 2 ^ 29 else 0) + (if rtr then 2 ^ 30 else 0)

/-- CTL of an entry. -/
def ctlByte (dlc : Nat) (fdf brs esi echo : Bool) : Nat :=
  dlc % 16 + (if fdf then 16 else 0) + (if brs then 32 else 0) + (if esi then 64 else 0) + (if echo then 128 else 0)

/-- An entry pushed to the receive ring (R450): head is bytes 0 to 5, c the stamp; only a received frame counts as delivered, not an echo. -/
def State.canDeliver (s : State) (ch : Nat) (head : List Byte) (filter c : Nat) (data : List Byte) (echo : Bool) : State :=
  let x := s.canCh ch
  let (t, stepped) := s.canTime c
  let flags := (if stepped then 1 else 0) + (if s.on (F.TIME_CMD_SYNCED 0) then 0 else 2) + (if x.lost then 4 else 0)
  let bytes := head ++ [byte filter, byte flags] ++ le 4 c ++ le 2 t.frac16 ++ le 4 t.ns ++ le 6 t.sec ++ pad4 data
  let (s, ok) := s.push (rxRing ch) bytes true
  if ok then
    let s := s.setCanCh ch { x with lost := false }
    if echo then s else (s.wr (F.CAN_FRMCNT_RX ch) (s.rd (F.CAN_FRMCNT_RX ch) + 1)).raise (0x50 + ch) 0
  else ((s.setCanCh ch { x with lost := true }).bump (F.CAN_ERRS2_RX_DROP ch)).raise (0x50 + ch) 4

/-- A frame completed without error: the second attempt after a bus-off passes (R455). -/
def State.canGood (s : State) (ch : Nat) : State :=
  let x := s.canCh ch
  if x.failed then (s.setCanCh ch { x with failed := false }).retryPass (0x50 + ch) else s

/-- Error active or passive by the counters. -/
def State.canConfine (s : State) (ch : Nat) : State :=
  let st := s.rd (F.CAN_STATUS_STATE ch)
  let s := s.wrB (F.CAN_ERRCNT_RP ch) (decide (s.rd (F.CAN_ERRCNT_REC ch) > 127))
  if st ≥ 2 then s
  else if s.rd (F.CAN_ERRCNT_TEC ch) > 127 || s.rd (F.CAN_ERRCNT_REC ch) > 127 then
    let s := s.wr (F.CAN_STATUS_STATE ch) 1
    if st = 0 then s.raise (0x50 + ch) 2 else s
  else s.wr (F.CAN_STATUS_STATE ch) 0

/-- The receive error counter after a good reception (ISO 11898-1): less 1; from above 127 to a value of 119 to 127, which the standard leaves open. -/
def State.recDown (s : State) (ch : Nat) : State :=
  let r := s.rd (F.CAN_ERRCNT_REC ch)
  if s.canRestricted ch then s
  else if r > 127 then
    let (v, s) := s.drawFree
    (s.wr (F.CAN_ERRCNT_REC ch) (119 + v % 9)).canConfine ch
  else (s.wr (F.CAN_ERRCNT_REC ch) (r - 1)).canConfine ch

/-! ## Transmit ring -/

/-- The entries in arbitration: up to four from the head of the transmit ring (R454). -/
def State.canArb (s : State) (ch : Nat) : List Entry := ((s.ring (txRing ch)).entries.filter fun e => !e.used).take 4

/-- The order of arbitration of an entry: the lower wins. -/
def arbKey (e : Entry) : Nat :=
  let w := leAt e.bytes 0 4
  if w.testBit 29 then w % 2 ^ 29 / 2 ^ 18 * 2 ^ 19 + 2 ^ 18 + w % 2 ^ 18 else w % 2 ^ 11 * 2 ^ 19

/-- The entry that wins arbitration, entries with equal identifiers in ring order. -/
def arbWinner (l : List Entry) : Option Entry :=
  l.foldl (fun a e => match a with | none => some e | some b => if arbKey e < arbKey b then some e else a) none

/-- A ring has room for an entry of n bytes. -/
def State.ringRoom (s : State) (q n : Nat) : Bool :=
  decide (entryBytes ((s.ring q).entries.dropWhile fun x => s.released q x) + n + 8 ≤ s.rd (F.QUEUE_QCFG_SIZE_KIB (q - 96)) * 1024)

/-- A channel may send: enabled and outside restricted operation (R453, R456). -/
def State.canSends (s : State) (ch : Nat) : Bool := s.on (F.CAN_CFG_EN ch) && !s.canRestricted ch

/-- A transmit entry (R453). -/
def txEntry (id : Nat) (ide fdf brs echo : Bool) (dlc : Nat) (data : List Byte) : List Byte :=
  le 4 (idWord id ide false) ++ [byte (ctlByte dlc fdf brs false echo), byte data.length, 0, 0] ++ pad4 data

/-- A built-in service sends 64 bytes in an FD frame with a 29-bit identifier. -/
def State.canService (s : State) (ch id : Nat) (data : List Byte) : State :=
  let e := txEntry id true true true false 15 (fit 64 data)
  if s.canSends ch && s.on (F.CAN_CFG_FD_EN ch) && s.ringRoom (txRing ch) e.length then (s.push (txRing ch) e false).1 else s

/-- SEND (R453): the TX buffer copied to the transmit ring, or refused with TX_REFUSED. -/
def State.canSend (s : State) (ch : Nat) : State :=
  let len := s.rd (F.CAN_TXCTL_LEN ch)
  let fdf := s.on (F.CAN_TXCTL_FDF ch)
  let brs := s.on (F.CAN_TXCTL_BRS ch)
  let data := ((List.range 16).flatMap fun j => le 4 (s.rd (F.CAN_TXDATA_DATA ch j))).take len
  match lenDlc fdf len with
  | none => s.raise (0x50 + ch) 8
  | some dlc =>
    let e := txEntry (s.rd (F.CAN_TXID_ID ch)) (s.on (F.CAN_TXID_IDE ch)) fdf brs (s.on (F.CAN_TXCTL_ECHO ch)) dlc data
    if ((brs || fdf) && !s.on (F.CAN_CFG_FD_EN ch)) || !s.canSends ch || !s.ringRoom (txRing ch) e.length then s.raise (0x50 + ch) 8
    else (s.push (txRing ch) e false).1

/-- TX_ABORT (R454): every entry not yet on the bus is discarded. -/
def State.canAbort (s : State) (ch : Nat) : State :=
  ((s.ring (txRing ch)).entries.filter fun e => !e.used).foldl (fun s e => s.consume (txRing ch) e.eseq) s

/-- RECOVER (R455): recovery begins, LASTING_BO clears; after a lasting verdict the next bus-off is a first attempt again. -/
def State.canRecover (s : State) (ch : Nat) : State :=
  if s.rd (F.CAN_STATUS_STATE ch) = 2 then
    let x := s.canCh ch
    (s.setCanCh ch { x with recovering := true, failed := x.failed && !s.on (F.CAN_STATUS_LASTING_BO ch) }).wrB (F.CAN_STATUS_LASTING_BO ch) false
  else s.wrB (F.CAN_STATUS_LASTING_BO ch) false

/-- A write of CMD: RECOVER, TX_ABORT, SEND. -/
def State.canCmd (s : State) (ch data : Nat) : State :=
  let s := if data.testBit 0 then s.canRecover ch else s
  let s := if data.testBit 1 then s.canAbort ch else s
  if data.testBit 2 then s.canSend ch else s

/-- A channel takes up EN: its counters start at 0 and, where enabled, it integrates (R449); disabled, STATE 3 and a pending bus-off voided (R412). -/
def State.canEnable (s : State) (ch : Nat) : State :=
  let s := if (s.canCh ch).failed && !s.on (F.CAN_CFG_EN ch) then (s.setCanCh ch { s.canCh ch with failed := false }).voidCheck else s
  ((((s.wr (F.CAN_STATUS_STATE ch) 3).wr (F.CAN_ERRCNT_TEC ch) 0).wr (F.CAN_ERRCNT_REC ch) 0).setCanCh ch { s.canCh ch with recovering := false, integ := none }).canIntegrate ch

end Sys2Proof.Machine
end

