-- ==== Sys2Proof/Machine/CanFam.lean ====
section
/-!
DEFINITION. The meanings of the CAN commands (chapter 22).
-/
namespace Sys2Proof.Machine
open Sys2Proof

/-- CAN_FRAME_RX (R450): a frame received on a channel, its start of frame stamped c; an FD frame only where FD_EN permits it (Table 22-3). -/
def execCanFrameRx (ch : Fin 4) (f : CanFrame) (c : BitVec 32) (s : State) : Host.Outcome State Fault Refusal :=
  let s := s.canIntegrated ch.val c.toNat
  if s.canListens ch.val && (!f.fdf || s.on (F.CAN_CFG_FD_EN ch.val)) then
    let s := (s.canGood ch.val).recDown ch.val
    match s.canFilter ch.val f with
    | some k =>
      let data := if f.rtr then [] else fit (dlcLen f.fdf f.dlc.val) f.data
      .next (s.canDeliver ch.val (le 4 (idWord f.id f.ide f.rtr) ++ [byte (ctlByte f.dlc.val f.fdf f.brs f.esi false), byte data.length]) k c.toNat data false)
    | none => .next s
  else .next s

/-- SEND (R453). -/
def execSendCmd (who : Initiator) (ch : Fin 4) (s : State) : Host.Outcome State Fault Refusal :=
  .next (s.asWrite who (A.CAN_CMD ch.val) fun s => s.canCmd ch.val 4)

/-- TX_ABORT (R454). -/
def execTxAbort (who : Initiator) (ch : Fin 4) (s : State) : Host.Outcome State Fault Refusal :=
  .next (s.asWrite who (A.CAN_CMD ch.val) fun s => s.canCmd ch.val 2)

/-- RECOVER (R455). -/
def execRecoverCmd (who : Initiator) (ch : Fin 4) (s : State) : Host.Outcome State Fault Refusal :=
  .next (s.asWrite who (A.CAN_CMD ch.val) fun s => s.canCmd ch.val 1)

/-- An entry as sent: an FD frame of an error passive channel carries ESI (R448). -/
def State.sentBytes (s : State) (ch : Nat) (b : List Byte) : List Byte :=
  let ctl := beAt b 4 1
  if ctl.testBit 4 && s.rd (F.CAN_STATUS_STATE ch) == 1 then b.take 4 ++ [byte (ctl ||| 64)] ++ b.drop 5 else b

/-- CAN_TX_COMPLETE (R454): the entry that wins arbitration has been sent, its start of frame stamped c; an echo is delivered where it asks for one. -/
def execCanTxComplete (ch : Fin 4) (c : BitVec 32) (s : State) : Host.Outcome State Fault Refusal :=
  let s := s.canIntegrated ch.val c.toNat
  if s.canListens ch.val && s.canSends ch.val then
    match arbWinner (s.canArb ch.val) with
    | none => .next s
    | some e =>
      let sent := s.sentBytes ch.val e.bytes
      let s := (s.send (.can ch.val sent)).consume (txRing ch.val) e.eseq
      let s := s.wr (F.CAN_FRMCNT_TX ch.val) (s.rd (F.CAN_FRMCNT_TX ch.val) + 1)
      let s := ((s.canGood ch.val).wr (F.CAN_ERRCNT_TEC ch.val) (s.rd (F.CAN_ERRCNT_TEC ch.val) - 1)).canConfine ch.val
      if (beAt e.bytes 4 1).testBit 7 then .next (s.canDeliver ch.val (sent.take 6) 0 c.toNat ((e.bytes.drop 8).take (beAt e.bytes 5 1)) true)
      else .next s
  else .next s

/-- CAN_TX_TIMEOUT (R454): the k-th entry in arbitration has been pending for TX_TMO. -/
def execCanTxTimeout (ch : Fin 4) (k : Fin 4) (s : State) : Host.Outcome State Fault Refusal :=
  match (s.canArb ch.val)[k.val]? with
  | some e =>
    if s.rd (F.CAN_CFG_TX_TMO ch.val) = 0 ∨ s.portsLive = false then .next s
    else .next (((s.consume (txRing ch.val) e.eseq).bump (F.CAN_ERRS_TX_ABANDON ch.val)).raise (0x50 + ch.val) 5)
  | none => .next s

/-- BUS_OFF (R455): a first one recovers by itself with AUTO_RECOVER; one more before a good frame is lasting. -/
def execBusOff (ch : Fin 4) (s : State) : Host.Outcome State Fault Refusal :=
  if s.canListens ch.val && !s.canRestricted ch.val then
    let x := s.canCh ch.val
    let s := (((s.bump (F.CAN_ERRS_BUS_OFFS ch.val)).raise (0x50 + ch.val) 1).wr (F.CAN_STATUS_STATE ch.val) 2).wr (F.CAN_ERRCNT_TEC ch.val) 255
    if x.failed then
      .next ((((s.setCanCh ch.val { x with recovering := false }).wrB (F.CAN_STATUS_LASTING_BO ch.val) true).raise (0x50 + ch.val) 7).lastingW (0x50 + ch.val) .canBusOff [])
    else .next (s.setCanCh ch.val { x with failed := true, recovering := s.on (F.CAN_CFG_AUTO_RECOVER ch.val) })
  else .next s

/-- BUS_OFF_RECOVERED (R455): 128 occurrences of 11 recessive bits. -/
def execBusOffRecovered (ch : Fin 4) (s : State) : Host.Outcome State Fault Refusal :=
  let x := s.canCh ch.val
  if s.rd (F.CAN_STATUS_STATE ch.val) = 2 ∧ x.recovering then
    .next ((((((s.setCanCh ch.val { x with recovering := false }).wr (F.CAN_STATUS_STATE ch.val) 0).wr (F.CAN_ERRCNT_TEC ch.val) 0).wr (F.CAN_ERRCNT_REC ch.val) 0).wrB (F.CAN_ERRCNT_RP ch.val) false).raise (0x50 + ch.val) 3)
  else .next s

/-- The latch pairs still in reach of a 32-bit difference. -/
def State.latchNow (s : State) : State :=
  let c := s.cd8
  let t := s.timeBase 0
  let old := s.can.pairs.filter fun (x : Nat × TimeBase × Option Nat) => decide (0 ≤ countDiff c x.1)
  let s := { s with can := { s.can with pairs := (c, t, s.can.stepAt) :: old, stepAt := none } }
  [0, 1, 2, 3].foldl (fun s ch => (((s.wr (F.CAN_LATCH_C_L ch) c).wr (F.CAN_LATCH_NS_NS ch) t.ns).wr (F.CAN_LATCH_SEC_LO_SEC_LO ch) t.sec).wr (F.CAN_LATCH_SEC_HI_SEC_HI ch) (t.sec / 2 ^ 32)) s

/-- CAN_LATCH (R451): every 80,000 counts, and at once after a step of TB0. -/
def execCanLatch (s : State) : Host.Outcome State Fault Refusal := if s.portsLive then .next s.latchNow else .next s

/-- ERROR_FRAME (R448): an error detected on a channel: its kind (Table 22-3), the phase, and the error counters the standard gives. -/
def execErrorFrame (ch : Fin 4) (kind : Fin 7) (dataPhase : Bool) (tec erc : BitVec 8) (s : State) : Host.Outcome State Fault Refusal :=
  if s.canListens ch.val then
    let s := s.bump (F.CAN_ERRS2_ERR_FRAMES ch.val)
    let s := s.wr (if dataPhase then F.CAN_LEC_DLEC ch.val else F.CAN_LEC_LEC ch.val) kind.val
    if s.canRestricted ch.val then .next s
    else .next (((s.wr (F.CAN_ERRCNT_TEC ch.val) tec.toNat).wr (F.CAN_ERRCNT_REC ch.val) erc.toNat).canConfine ch.val)
  else .next s

end Sys2Proof.Machine
end

