-- ==== Sys2Proof/Machine/ChecksPower.lean ====
section
/-!
DEFINITION. The consistency rules of the converter pages (PSTAGE, PHASE, LOOP, TRACK, CONTACT) and the system limits of CROWN, each as
the list of its failures; a request for CONNECT evaluates the same rules on the values in force (R555).
-/
namespace Sys2Proof.Machine
open Sys2Proof

/-- A failing rule: RULE, WORD (live offset / 4 of its register, 0 for none) and CAUSE (Tables 3-5 and 3-8). -/
abbrev Failure := Nat × Nat × Nat

/-- A field as a check reads it: staged where staged values are to be judged, else in force (R72, R555). -/
def State.vw (s : State) (st : Bool) (f : Fld) : Nat := f.get (if st then mget (s.word f.addr) s.staged f.addr else s.word f.addr)

/-- The same as a two's-complement number. -/
def State.vwI (s : State) (st : Bool) (f : Fld) : Int := signedOf f.width (s.vw st f)

/-- The WORD of a field's register. -/
def Fld.wordNo (f : Fld) : Nat := offOf f.addr / 4

/-- A rule tied to a field's register fails where the condition holds. -/
def failIf (bad : Bool) (rule : Nat) (f : Fld) (cause : Nat) : List Failure := if bad then [(rule, f.wordNo, cause)] else []

/-- A rule tied to no single register. -/
def failAll (bad : Bool) (rule cause : Nat) : List Failure := if bad then [(rule, 0, cause)] else []

/-- Fields outside their range (CAUSE 0x3). -/
def State.outside (s : State) (st : Bool) (rule : Nat) (l : List (Fld × Nat × Nat)) : List Failure :=
  l.flatMap fun (f, lo, hi) => failIf (s.vw st f < lo || s.vw st f > hi) rule f 3

/-- Signed fields outside their range (CAUSE 0x3). -/
def State.outsideI (s : State) (st : Bool) (rule : Nat) (l : List (Fld × Int × Int)) : List Failure :=
  l.flatMap fun (f, lo, hi) => failIf (decide (s.vwI st f < lo) || decide (s.vwI st f > hi)) rule f 3

/-- The RULE of a reserved encoding of a page, for which no chapter gives a code (R16). -/
def reservedRule (page : Nat) : Nat := Config.openRule page 0 % 65536

/-- The RULE of a range of a page that its chapter lists without a code. -/
def rangeRule (page : Nat) : Nat := Config.openRule page 1 % 65536

/-- Fields with an encoding above the greatest that its table lists (CAUSE 0x2, R16). -/
def State.reserved (s : State) (st : Bool) (page : Nat) (l : List (Fld × Nat)) : List Failure :=
  l.flatMap fun (f, hi) => failIf (s.vw st f > hi) (reservedRule page) f 2

/-- A staged field differs from the value in force. -/
def State.changes (s : State) (f : Fld) : Bool := s.vw true f != s.rd f

/-- The modes in which hardware settings may change: STANDBY, SAFE and SERVICE. -/
def Mode.settled (m : Mode) : Bool := m == .standby || m == .safe || m == .service

/-- Phases enabled. -/
def State.enabledPhases (s : State) (st : Bool) : Nat := ((List.range 16).filter fun n => (s.vw st F.PSTAGE_PHEN_EN).testBit n).length

/-- PSTAGE rules (R203). -/
def State.checkPSTAGE (s : State) (st : Bool) (m : Mode) : List Failure :=
  let v := s.vw st
  let en := s.enabledPhases st
  failIf (v F.PSTAGE_SHED_N_MIN == 0 || v F.PSTAGE_SHED_N_MIN > en) 0x0001 F.PSTAGE_SHED_N_MIN 3
  ++ failIf (10 * v F.PSTAGE_SHED_I_I_ADD < 11 * v F.PSTAGE_SHED_I_I_SHED) 0x0002 F.PSTAGE_SHED_I_I_ADD 1
  ++ failIf (v F.PSTAGE_RATING_RATING_KW == 0 && en != 0) 0x0003 F.PSTAGE_RATING_RATING_KW 3
  ++ failIf (v F.PSTAGE_LIGHT_MODE == 2 && v F.PSTAGE_BURST_I < v F.PSTAGE_BURST_TH_EXIT) 0x0004 F.PSTAGE_BURST_I 1
  ++ failIf (v F.PSTAGE_LIGHT_MODE == 2 && v F.PSTAGE_BURST_TH_EXIT ≤ v F.PSTAGE_BURST_TH_ENTER) 0x0004 F.PSTAGE_BURST_TH_EXIT 1
  ++ failIf (st && (s.changes F.PSTAGE_PHEN_EN || s.changes F.PSTAGE_PHEN_TYPE) && !m.settled) 0x0005 F.PSTAGE_PHEN_EN 4
  ++ failIf (v F.PSTAGE_LIGHT_MODE == 1 && (v F.PSTAGE_LIGHT_T_SKIP < 8 || v F.PSTAGE_LIGHT_T_SKIP > 800 || v F.PSTAGE_LIGHT_I_DCM == 0)) 0x0006 F.PSTAGE_LIGHT_MODE 3
  ++ failIf (v F.PSTAGE_CBC_CBC_N == 0 || v F.PSTAGE_CBC_DESAT_REACT < 2) 0x0007 F.PSTAGE_CBC_CBC_N 3
  ++ s.outside st (rangeRule 0x20) [(F.PSTAGE_SHED_SHED_RAMP, 1, 63), (F.PSTAGE_SHED_T_T_SHED, 1, 10000), (F.PSTAGE_SHED_T_SHED_HOLD, 1, 6000), (F.PSTAGE_BURST_ON, 1, 4095)]
  ++ s.reserved st 0x20 [(F.PSTAGE_LIGHT_MODE, 2)]

/-- PHASE rules (R204), for each phase with WORD naming its register. -/
def State.checkPHASE (s : State) (st : Bool) : List Failure :=
  let v := s.vw st
  (List.range 16).flatMap fun n =>
    let en := (v F.PSTAGE_PHEN_EN).testBit n
    let bb := (v F.PSTAGE_PHEN_TYPE).testBit n
    s.outside st 0x0001 [(F.PHASE_CFG_DT_LH n, 64, 12800), (F.PHASE_CFG_DT_HL n, 64, 12800)]
    ++ s.outside st 0x0002 [(F.PHASE_PULSE_T_MIN n, 8, 800), (F.PHASE_PULSE_BLANK n, 0, 400)]
    ++ (if en then failIf (v (F.PHASE_ILIM_POS n) == 0 || v (F.PHASE_ILIM_NEG n) == 0) 0x0003 (F.PHASE_ILIM_POS n) 3
          ++ failIf (v (F.PHASE_ISCALE_SCALE n) == 0) 0x0003 (F.PHASE_ISCALE_SCALE n) 3 else [])
    ++ failIf (v (F.PHASE_REFRESH_REFRESH_N n) != 0 && (!bb || v (F.PHASE_REFRESH_T_REFRESH n) < 40 || v (F.PHASE_REFRESH_T_REFRESH n) > 800)) 0x0004 (F.PHASE_REFRESH_REFRESH_N n) 1
    ++ failIf (v (F.PHASE_CFG_DT_LH n) + v (F.PHASE_CFG_DT_HL n) + 32 * v (F.PHASE_PULSE_T_MIN n) > 4 * v F.PSTAGE_PERIOD_PER) 0x0005 (F.PHASE_CFG_DT_LH n) 1

/-- LOOP rules (R211, R213, R215, R229). -/
def State.checkLOOP (s : State) (st : Bool) : List Failure :=
  let v := s.vw st
  let vI := s.vwI st
  let od := v F.LOOP_CFG_OUTER_DIV
  let per := v F.PSTAGE_PERIOD_PER
  let nOuter := ([16, 17, 18, 19, 20, 21, 22, 23].filter fun k => v (F.LOOP_ICFG_EN k) != 0).length
  let m := if v F.LOOP_CFG_INNER_2X != 0 then 2 else 1
  failIf (per * od < 20000) 0x0001 F.LOOP_CFG_OUTER_DIV 3
  ++ failAll (50 * (s.enabledPhases st * m * od + nOuter) > per * od) 0x0002 1
  ++ (List.range 24).flatMap (fun k =>
    failIf (v (F.LOOP_SHIFTA_SH0 k) > 47 || v (F.LOOP_SHIFTA_SH1 k) > 47 || v (F.LOOP_SHIFTA_SH2 k) > 47 || v (F.LOOP_SHIFTA_SH3 k) > 47) 0x0003 (F.LOOP_SHIFTA_SH0 k) 3
    ++ failIf (v (F.LOOP_SHIFTB_SH4 k) > 47 || v (F.LOOP_SHIFTB_SH5 k) > 47) 0x0003 (F.LOOP_SHIFTB_SH4 k) 3
    ++ failIf (decide (vI (F.LOOP_OMIN_OMIN k) ≥ vI (F.LOOP_OMAX_OMAX k))) 0x0004 (F.LOOP_OMIN_OMIN k) 3
    ++ failIf (v (F.LOOP_ICFG_TYPE k) == 1 && k < 22) 0x0007 (F.LOOP_ICFG_TYPE k) 1)
  ++ (if v F.LOOP_CFG_PLAUS_EN != 0 then
        failIf (v F.LOOP_CBUS_C_BUS == 0) 0x0005 F.LOOP_CBUS_C_BUS 3
        ++ (List.range 16).flatMap fun n =>
          let f := if n % 2 = 0 then F.LOOP_LIND_L_LO (n / 2) else F.LOOP_LIND_L_HI (n / 2)
          failIf ((v F.PSTAGE_PHEN_EN).testBit n && v f == 0) 0x0005 f 3
      else [])
  ++ s.outside st 0x0006 [(F.LOOP_ILIM_I_TOT_MAX, 1, 6000), (F.LOOP_VBUS_V_BUS_MAX, 1, 65535)]
  ++ failIf (v F.LOOP_VLIM_V_STR_MIN ≥ v F.LOOP_VLIM_V_STR_MAX) 0x0006 F.LOOP_VLIM_V_STR_MAX 3
  ++ s.outside st 0x0008 [(F.LOOP_PLAUS_WIN, 8, 255), (F.LOOP_PLAUS_TOL_PCT, 1, 50), (F.LOOP_PLAUS_TOL_A, 1, 255), (F.LOOP_PLAUS_TOL_V, 1, 255)]
  ++ failIf ((v F.LOOP_CFG_SOURCE == 1 && v (F.LOOP_ICFG_EN 17) == 0) || (v F.LOOP_CFG_SOURCE == 2 && v (F.LOOP_ICFG_EN 18) == 0)) 0x0009 F.LOOP_CFG_SOURCE 1
  ++ s.reserved st 0x22 [(F.LOOP_CFG_SOURCE, 2), (⟨A.LOOP_PREACT, 0, 2⟩, 2), (⟨A.LOOP_PREACT, 2, 2⟩, 2), (⟨A.LOOP_PREACT, 4, 2⟩, 2)]

/-- TRACK rules (R246). -/
def State.checkTRACK (s : State) (st : Bool) : List Failure :=
  let v := s.vw st
  s.outside st 0x0001 [(F.TRACK_MATCH_MATCH_V, 1, 500), (F.TRACK_MATCH_MATCH_T, 1, 1000), (F.TRACK_ERR_ERR_V, 10, 16000), (F.TRACK_ERR_ERR_T, 1, 1000),
    (F.TRACK_TIMES_T_TRACK, 10, 60000), (F.TRACK_TIMES_MEET_MAX, 1, 6000), (F.TRACK_PRE_R_PRE, 1, 65535), (F.TRACK_PRE_C_STR, 1, 65535),
    (F.TRACK_PRE2_I_END, 1, 1000), (F.TRACK_PRE2_RETRY_WAIT, 100, 10000), (F.TRACK_FORM_T_FORM, 10, 60000)]
  ++ failIf (v F.TRACK_CFG_START_TB == 1 && v F.TRACK_CFG_LAW == 0) 0x0002 F.TRACK_CFG_START_TB 1
  ++ failIf (v F.TRACK_CFG_FORM_EN == 1 && (v F.TRACK_FORM_V_TGT < 1000 || v F.TRACK_FORM_V_TGT > 16000 || v F.TRACK_FORM_V_TGT > v F.LOOP_VBUS_V_BUS_MAX)) 0x0003 F.TRACK_FORM_V_TGT 1
  ++ failIf (v F.TRACK_PRE_R_PRE * v F.TRACK_PRE_C_STR > 2000000) 0x0004 F.TRACK_PRE_R_PRE 3
  ++ failIf (v F.TRACK_CFG_SHUT_EN == 1 && v F.TRACK_SHUT_V_SHUT > v F.TRACK_FORM_V_TGT) 0x0005 F.TRACK_SHUT_V_SHUT 1

/-- CONTACT rules (R247). -/
def State.checkCONTACT (s : State) (st : Bool) (m : Mode) : List Failure :=
  let v := s.vw st
  failIf (v F.CONTACT_CFG_FITTED % 32 != 31) 0x0001 F.CONTACT_CFG_FITTED 3
  ++ s.outside st 0x0002 ((List.range 6).flatMap (fun k => [(F.CONTACT_COIL_PULL_MS k, 20, 1000), (F.CONTACT_COIL_HOLD_V k, 10, 240)])
    ++ [(F.CONTACT_FBT_FB_CLOSE_MAX, 5, 250), (F.CONTACT_FBT_FB_OPEN_MAX, 5, 250), (F.CONTACT_FBT_DEBOUNCE, 1, 50), (F.CONTACT_OPEN_I_OPEN, 1, 1000)])
  ++ failIf (st && (s.changes F.CONTACT_CFG_FITTED || s.changes F.CONTACT_CFG_FB_INV) && !m.settled) 0x0003 F.CONTACT_CFG_FITTED 4

/-- Cells of the configured nodes 1 … NODE_COUNT. -/
def State.stringCells (s : State) (st : Bool) : Nat :=
  ((List.range (s.vw st F.RING_CFG_NODE_COUNT)).map fun n => s.vw st (F.NODE_NCFG_CELLS n)).foldl (· + ·) 0

/-- The system limits of Table 3-9, judged where a page they rest on is staged (R24, R73). -/
def State.checkCROWN (s : State) (st : Bool) (dirty : Nat → Bool) : List Failure :=
  let v := s.vw st
  let n := v F.RING_CFG_NODE_COUNT
  let cells := s.stringCells st
  failAll (dirty 0x18 && (n < 1 || n > 32)) 0x0001 3
  ++ failAll (dirty 0x1B && (List.range 32).any fun k => v (F.NODE_NCFG_CELLS k) < 8 || v (F.NODE_NCFG_CELLS k) > 16) 0x0002 3
  ++ failAll ((dirty 0x18 || dirty 0x1B) && (cells < 8 || cells > 512)) 0x0003 3
  ++ failAll ((dirty 0x18 || dirty 0x1B || dirty 0x28) && v F.ESTIM_VWIN_VMAX_CELL * cells > 1600000) 0x0004 3
  ++ failAll (dirty 0x20 && s.enabledPhases st == 0) 0x0005 3
  ++ failAll (dirty 0x20 && (v F.PSTAGE_PERIOD_PER < 2667 || v F.PSTAGE_PERIOD_PER > 40000)) 0x0006 3
  ++ failAll (dirty 0x20 && v F.PSTAGE_RATING_RATING_KW > 500) 0x0007 3

/-- The values in force of the converter pages pass their rules, and instance 18 is enabled (R555). -/
def State.valuesPass (s : State) : Bool :=
  ((s.checkPSTAGE false s.mode).isEmpty && (s.checkPHASE false).isEmpty && (s.checkLOOP false).isEmpty && (s.checkTRACK false).isEmpty
    && (s.checkCONTACT false s.mode).isEmpty) && s.on (F.LOOP_ICFG_EN 18)

end Sys2Proof.Machine
end

