-- ==== Sys2Proof/Machine/RingFam.lean ====
section
/-!
DEFINITION. The ring of the unit that originates (chapter 5): enumeration, delay measurement, ring states, node faults and thresholds, and
the meanings of the ring and balancing commands (chapters 5 and 7).
-/
namespace Sys2Proof.Machine
open Sys2Proof

/-! ## Sequences: enumeration and delay measurement -/

/-- The mask of a list of nodes. -/
def nodeMask (l : List Nat) : Nat := (List.range 32).foldl (fun a n => if l.contains n then a + 2 ^ n else a) 0

/-- A node's bit in a mask set or cleared. -/
def putBit (m n : Nat) (b : Bool) : Nat := if b then m ||| 2 ^ n else m - (if m.testBit n then 2 ^ n else 0)

/-- Modes in which the module writes thresholds and RING.CMD.ENUMERATE is permitted (R136, R137). -/
def State.ringFree (s : State) : Bool := s.mode == .standby || s.mode == .safe || s.mode == .service

/-- A state with the ring's own state changed. -/
def State.modRing (s : State) (f : Ring → Ring) : State := { s with ringSt := f s.ringSt }

/-- An ENUM from one port (R121): NEXT and STEP. -/
def State.sendEnum (s : State) (side next step : Nat) : State :=
  s.sendCmd { node := unaddressed, cmd := 0x01, payload := [byte next, byte step], port := some side }

/-- The addresses that hold a node after an enumeration's ENUMs: the configured ones, and those that the first ENUM counted beyond them (R121). -/
def State.addressed (s : State) : List Nat := List.range (min 32 (max (s.rd F.RING_CFG_NODE_COUNT) (s.ringSt.enum1.getD 0)))

/-- Nodes a port reaches (R124, R129): in BROKEN those whose last NOP reply arrived there, else every node found or configured. -/
def State.reaches (s : State) (side n : Nat) : Bool :=
  if s.rd F.RING_STATUS_STATE == 4 then (if side = 0 then s.ringSt.down else s.ringSt.up).testBit n
  else if s.ringSt.full then s.ringSt.ident.testBit n
  else s.ringSt.down.testBit n || s.ringSt.up.testBit n

/-- The commands of a step of the sequence: IDENT to every address, then FAULT_READ and THR_READ to the nodes that answered (R122, R134, R136), ECHO for every node and port that reaches it (R124). -/
def State.stageCmds (s : State) (stage : Nat) : List RingCmd :=
  let found := s.nodes.filter s.ringSt.ident.testBit
  match stage with
  | 3 => s.addressed.map fun n => { node := n, cmd := 0x02 }
  | 4 => found.map fun n => { node := n, cmd := 0x30 }
  | 5 => found.map fun n => { node := n, cmd := 0x22 }
  | 6 => s.nodes.flatMap fun n => ([0, 1].filter fun p => s.reaches p n).map fun p => { node := n, cmd := 0x03, port := some p }
  | _ => []

/-- The command code of a step. -/
def stageCode (stage : Nat) : Nat := match stage with | 3 => 0x02 | 4 => 0x30 | 5 => 0x22 | 6 => 0x03 | 7 => 0x04 | _ => 0

/-- A delay in ns as DELAYn shows it, from 1/8 ns. -/
def delayNs (d : Nat) : Nat := min 0xFFFE ((d + 4) / 8)

/-- The field of DELAYn for a side. -/
def delayFld (side n : Nat) : Fld := if side = 0 then F.RING_DELAY_D_DOWN n else F.RING_DELAY_D_UP n

/-- The delay of node n from a side taken from 16 echoes (R124): d = (mean − 256 ns) / 2; a change of more than 8 ns raises DELAY_SHIFT. A side without its echoes is unreachable. -/
def State.takeDelay (s : State) (side n : Nat) : State :=
  let k := 2 * n + side
  let (cnt, sum) := mget (0, 0) s.ringSt.echo k
  if cnt < 16 then s.wr (delayFld side n) 0xFFFF
  else
    let d := (sum - 4096) / 4
    match s.ringSt.delay.find? (·.1 == k) with
    | none => (s.modRing fun r => { r with delay := mins r.delay k d, shifted := true }).wr (delayFld side n) (delayNs d)
    | some (_, old) =>
      if (if d < old then old - d else d - old) > 64 then
        ((s.modRing fun r => { r with delay := mins (mdel r.delay k) k d, shifted := true }).raise 0x18 5).wr (delayFld side n) (delayNs d)
      else s.wr (delayFld side n) (delayNs old)

/-- The delays in force of the sides that reach their node, in 1/8 ns. -/
def State.reachedDelays (s : State) : List Nat :=
  s.ringSt.delay.filterMap fun (k, d) => if s.rd (delayFld (k % 2) (k / 2)) != 0xFFFF then some d else none

/-- The common delay C (R126): the largest d plus 400 ns, rounded up to a multiple of 40 ns; 0 while no delay is measured to any node, for which R126 gives no C (DESIGN CHOICE, notes/assumptions/84.md). -/
def State.commonDelay (s : State) : Nat :=
  match s.reachedDelays with
  | [] => 0
  | l => 40 * ((l.foldl max 0 + 3200 + 319) / 320)

/-- An offset in units of 4 ns, ties away from zero: C − d with d in 1/8 ns. -/
def offsetUnits (c d : Nat) : Nat := (8 * c - d + 16) / 32

/-- The offsets of node n (R126): of a side that does not reach it the last one, 0xFFFF where never measured. -/
def State.offsets (s : State) (c n : Nat) : Nat × Nat :=
  let old := mget (0xFFFF, 0xFFFF) s.ringSt.ofs n
  let one (side dflt : Nat) : Nat :=
    if s.rd (delayFld side n) == 0xFFFF then dflt
    else match s.ringSt.delay.find? (·.1 == 2 * n + side) with
      | some (_, d) => offsetUnits c d
      | none => dflt
  (one 0 old.1, one 1 old.2)

/-- Step 7: SET_OFS to every node a side reaches, with C in force from here (R126). -/
def State.setOffsets (s : State) : State :=
  let c := s.commonDelay
  let l := s.nodes.filter fun n => s.rd (delayFld 0 n) != 0xFFFF || s.rd (delayFld 1 n) != 0xFFFF
  let ofs := l.map fun n => (n, s.offsets c n)
  let s := (s.wr F.RING_TIME_APERTURE_C c).modRing fun r => { r with ofs := ofs.foldl (fun m (n, o) => mset (0xFFFF, 0xFFFF) m n o) r.ofs }
  s.modRing fun r => { r with stage := 7, todo := ofs.map fun (n, o) => { node := n, cmd := 0x04, payload := be 2 o.1 ++ be 2 o.2 } }

/-! ## Thresholds -/

/-- The six bytes of the configured thresholds (Table 5-4, THR_STAGE). -/
def State.thrBytes (s : State) : List Byte :=
  be 2 (s.rd F.NODE_THR_OV_MV) ++ be 2 (s.rd F.NODE_THR_UV_MV) ++ [byte (s.rd F.NODE_THR2_DEGLITCH_US), 0]

/-- The thresholds of a node written (R135): THR_STAGE, then THR_COMMIT with the CRC of the staged bytes. -/
def State.writeThr (s : State) (n : Nat) : State :=
  (s.ringCmd n 0x20 s.thrBytes).ringCmd n 0x21 (be 4 (crc32c s.thrBytes))

/-- The thresholds of every node that differs written, in the modes that permit it (R136). -/
def State.writeThresholds (s : State) : State :=
  if s.ringFree then (s.nodes.filter s.ringSt.thrBad.testBit).foldl (fun s n => s.writeThr n) s else s

/-- A threshold write whose reply does not match (R135): retried once, then lasting. -/
def State.thrFails (s : State) (n : Nat) : State :=
  if s.ringSt.thrRetry.testBit n then (s.modRing fun r => { r with thrRetry := putBit r.thrRetry n false }).lastingW 0x1B .thrWrite [n]
  else
    let s := s.modRing fun r => { r with thrRetry := putBit r.thrRetry n true }
    if s.ringFree then s.writeThr n else s

/-! ## The course of a sequence -/

/-- The end of a sequence: for an enumeration ENUM_DONE, the balancing reads and the threshold writes it calls for; at a start, step 8 ends. -/
def State.sequenceDone (s : State) : State :=
  let full := s.ringSt.full
  let s := s.modRing fun r => { r with stage := 0, full := false, todo := [] }
  if full then
    let s := { (s.raise 0x18 2) with crown := { s.crown with ringStarted := true }, bal := { s.bal with renewed := s.bal.renewed ||| s.ringSt.ident } }
    (if s.crown.phase == .complete then s.writeThresholds else s).replan
  else s.replanIfDue

/-- The next command of the sequence is launched, or its next step begins (R121 to R126). -/
def State.advanceSeq : Nat → State → State
  | 0, s => s
  | fuel + 1, s =>
    match s.ringSt.todo with
    | c :: t => (s.modRing fun r => { r with todo := t }).sendCmd c
    | [] =>
      let busy := (s.ringSt.wait ++ s.ringSt.held).any fun c => c.cmd == stageCode s.ringSt.stage
      if busy then s
      else match s.ringSt.stage with
        | 3 =>
          let s := s.wr F.RING_STATUS_FOUND ((List.range 32).filter s.ringSt.found.testBit).length
          State.advanceSeq fuel (s.modRing fun r => { r with stage := 4, todo := s.stageCmds 4 })
        | 4 => State.advanceSeq fuel (s.modRing fun r => { r with stage := 5, todo := s.stageCmds 5 })
        | 5 =>
          if s.rd F.RING_STATUS_STATE == 4 && !s.ringSt.heard then s.modRing fun r => { r with stage := 8 }
          else State.advanceSeq fuel (s.modRing fun r => { r with stage := 6, echo := [], shifted := false, todo := s.stageCmds 6 })
        | 6 =>
          let s := s.nodes.foldl (fun s n => (s.takeDelay 0 n).takeDelay 1 n) s
          if s.ringSt.full || s.ringSt.shifted || s.commonDelay != s.rd F.RING_TIME_APERTURE_C then State.advanceSeq fuel s.setOffsets else s.sequenceDone
        | 7 => s.sequenceDone
        | _ => s

/-- The sequence goes on after an exchange of its own. -/
def State.goOn (s : State) : State := if s.ringSt.stage ≥ 3 then State.advanceSeq 8 s else s

/-- A delay measurement begins (R124): at once, or after the sequence under way. -/
def State.measure (s : State) : State :=
  if !s.originates then s
  else if s.ringSt.stage != 0 then s.modRing fun r => { r with measureDue := true }
  else (s.modRing fun r => { r with stage := 6, full := false, echo := [], shifted := false, measureDue := false, todo := s.stageCmds 6 }).goOn

/-- The ring enters BROKEN (Table 5-6): BREAK, the ring time void, the harvests in progress marked (R149), the delays to be measured anew once the keepalives show who is reached. -/
def State.enterBroken (s : State) : State :=
  if s.rd F.RING_STATUS_STATE == 4 || s.rd F.RING_STATUS_STATE < 2 then s
  else
    let s := ((s.wr F.RING_STATUS_STATE 4).wr F.RING_TIME_LOOP_NS 0).raise 0x18 0
    let s := { s with harv := { s.harv with captures := s.harv.captures.map fun (c : Capture) => { c with broken := true } } }
    s.modRing fun r => { r with measureDue := true, goodRun := 0, silentRun := 0, deafRun := 0 }

/-- An enumeration begins (R121): ENUM from the down port with NEXT 0 and STEP +1. In ENUMERATING, a port link that is down makes the ring BROKEN at once. CONFLICT and FOREIGN clear here, and are set again by what the enumeration finds; Table 5-8 says only "while reported" and "while present" (DESIGN CHOICE, notes/assumptions/82.md). -/
def State.enumerate (s : State) : State :=
  if !s.originates then s
  else
    let s := (s.wrB F.RING_STATUS_CONFLICT false).wrB F.RING_STATUS_FOREIGN false
    let s := s.modRing fun r => { r with stage := 1, full := true, todo := [], enum1 := none, enum2 := none, ident := 0, found := 0, reEnum := false,
                                         wait := r.wait.filter fun c => c.cmd != 0x02 && c.cmd != 0x03 && c.cmd != 0x04 && c.cmd != 0x22 }
    let s := s.sendEnum 0 0 1
    if s.rd F.RING_STATUS_STATE == 2 && !(s.on F.RING_STATUS_LINK_A && s.on F.RING_STATUS_LINK_B) then s.enterBroken else s

/-- Origination starts with the wake sequence (R132): at step 8 of a start and at the return from dormant STANDBY. -/
def State.startRing (s : State) : State :=
  ((s.wr F.RING_STATUS_STATE 1).modRing fun r => { r with wait := [], held := [], todo := [], stage := 0, heard := false }).send (.wake true)

/-- The wake sequence ends and enumeration begins (Table 5-6). -/
def State.wakeDone (s : State) : State :=
  if s.rd F.RING_STATUS_STATE == 1 then ((s.send (.wake false)).wr F.RING_STATUS_STATE 2).enumerate else s

/-! ## Enumeration steps -/

/-- An address conflict (R121). -/
def State.conflict (s : State) : State := (s.wrB F.RING_STATUS_CONFLICT true).raise 0x18 7

/-- Step 3 of an enumeration: both returned NEXT values are compared with those of an intact ring; IDENT follows (R122). -/
def State.enumCompare (s : State) : State :=
  let n := s.rd F.RING_CFG_NODE_COUNT
  let s := match s.ringSt.enum1, s.ringSt.enum2 with
    | some a, some b => if a != n || b != 0xFF then s.conflict else s
    | _, _ => s
  (s.modRing fun r => { r with stage := 3, todo := s.stageCmds 3 }).goOn

/-- An ENUM has returned with NEXT, or 10 µs have passed (R121): the second is sent, or the values are compared. In ENUMERATING an ENUM that does not return makes the ring BROKEN. -/
def State.enumStep (s : State) (next : Option Nat) : State :=
  let s := if next.isNone && s.rd F.RING_STATUS_STATE == 2 then s.enterBroken else s
  match s.ringSt.stage with
  | 1 => (s.modRing fun r => { r with stage := 2, enum1 := next }).sendEnum 1 (s.rd F.RING_CFG_NODE_COUNT - 1) 255
  | 2 => (s.modRing fun r => { r with enum2 := next }).enumCompare
  | _ => s

/-! ## Ring states -/

/-- BREAK_LO and BREAK_HI while BROKEN (R129, Table 5-7). -/
def State.locate (s : State) : State :=
  let lo := (s.nodes.filter s.ringSt.down.testBit).getLast?.getD 0x3F
  let hi := (s.nodes.find? s.ringSt.up.testBit).getD 0x3F
  (s.wr F.RING_STATUS_BREAK_LO lo).wr F.RING_STATUS_BREAK_HI hi

/-- The ring enters INTACT (Table 5-6): HEALED where it returns from BROKEN or LOST, the ring time measured (R125, R131), the delays measured anew as on every change of state (R124). -/
def State.enterIntact (s : State) : State :=
  let heal := s.rd F.RING_STATUS_STATE == 4 || s.rd F.RING_STATUS_STATE == 5
  let s := ((s.wr F.RING_STATUS_STATE 3).wr F.RING_STATUS_BREAK_LO 0x3F).wr F.RING_STATUS_BREAK_HI 0x3F
  (if heal then s.raise 0x18 1 else s).modRing fun r => { r with measureDue := true }

/-- The checks C1 to C4 that a list of check items names, as bits 0 to 3 (PLAUS.STATUS). -/
def plausMask (l : List Nat) : Nat := [1, 2, 3, 4].foldl (fun a k => if l.any (fun id => id / 1000 == k) then a + 2 ^ (k - 1) else a) 0

/-- A node lost from the ring: the pending checks C1 of its cells, C2 and UNSUSPENDED of the node are voided (R412). -/
def State.voidNode (s : State) (n : Nat) : State :=
  let gone (id : Nat) : Bool := id == 2000 + n || (decide (1000 + s.cellBase n ≤ id) && decide (id < 1000 + s.cellBase n + s.cellsOf n) && decide (id < 2000))
  let un := s.bal.unsusp.testBit n
  let k := (s.harv.pend.filter gone).length + (if un then 1 else 0)
  if k = 0 then s
  else
    let left := s.harv.pend.filter (!gone ·)
    ({ s with harv := { s.harv with pend := left }, bal := { s.bal with unsusp := if un then s.bal.unsusp - 2 ^ n else s.bal.unsusp } }.wr
      F.PLAUS_STATUS_PENDING (plausMask left)).voidCheck k

/-- The answers of a keepalive (Table 5-6): no answer twice in a row makes the ring LOST, an answer ends LOST; NODE_LOST where a configured node answers from neither port (Table 5-9); nodes that answer again are read and planned for (Table 7-3), after the sequence under way. BREAK_LO and BREAK_HI, which R129 gives for BROKEN, keep their last values in LOST and OFF (DESIGN CHOICE, notes/assumptions/83.md). -/
def State.takeAnswers (s : State) (down up : Nat) : State :=
  let before := s.answering
  let s := s.modRing fun r => { r with nopOut := false, down := down, up := up, heard := true }
  let none' := s.answering.isEmpty
  let s := s.modRing fun r => { r with deafRun := if none' then min 2 (r.deafRun + 1) else 0 }
  let st := s.rd F.RING_STATUS_STATE
  let settled := st == 3 || st == 4 || (st == 2 && s.ringSt.stage == 0)
  let s := if none' && s.ringSt.deafRun ≥ 2 && settled then
      let s := if st == 5 then s else (((s.wr F.RING_STATUS_STATE 5).wr F.RING_TIME_LOOP_NS 0).raise 0x18 0).modRing fun r => { r with measureDue := true }
      s.abortRun 5
    else if st == 5 && !none' then s.enterBroken else s
  let s := if s.answering.length < s.nodes.length && (settled || st == 5) then s.raise 0x18 3 else s
  let s := (before.filter (!s.answering.contains ·)).foldl (fun (s : State) n => s.voidNode n) s
  let back := s.answering.any fun n => !before.contains n
  if !back then s else if s.ringSt.stage == 0 then s.replan else s.modBal fun b => { b with replanDue := true }

/-- After a keepalive: a BROKEN ring is located, the ECHOs of an enumeration that waited for its answers follow, a measurement that waits begins. -/
def State.afterKeepalive (s : State) : State :=
  let s := if s.rd F.RING_STATUS_STATE == 4 then s.locate else s
  if s.ringSt.stage == 8 then (s.modRing fun r => { r with stage := 6, echo := [], shifted := false, todo := s.stageCmds 6 }).goOn
  else if s.ringSt.measureDue && s.ringSt.stage == 0 && s.rd F.RING_STATUS_STATE ≥ 3 then s.measure else s

/-! ## Replies -/

/-- A FAULT_READ after an opened loop has ended for node n (R157), answered with what it found or not; the last one ends in the record of the nodes, or of a wiring fault. -/
def State.loopGot (s : State) (n : Nat) (found : List (Nat × Nat × Nat × Int)) : State :=
  match s.ringSt.loopRead with
  | none => s
  | some l =>
    if l.contains n then
      let s := s.modRing fun r => { r with loopRead := some (l.filter (· != n)), loopFound := r.loopFound ++ found }
      if (l.filter (· != n)).isEmpty then
        let f := s.ringSt.loopFound
        let s := if f.isEmpty then s.record 7 0x1B .loopWiring [s.ringSt.loopMa]
          else s.record 7 0x1B .loopNodes (f.flatMap fun (n, c, k, t) => [(n : Int), c, k, t])
        s.modRing fun r => { r with loopRead := none, loopFound := [] }
      else s
    else s

/-- A node's CAUSE read (R134); the reads after an opened loop end in their records (R157). -/
def State.takeCause (s : State) (n cause cell last : Nat) : State :=
  let t : Int := (s.timeBase 0).sec * 1000 + (s.timeBase 0).ns / 1000000 - last
  (s.wr (F.NODE_NSTAT_CAUSE n) cause).loopGot n (if cause = 0 then [] else [(n, cause, cell, t)])

/-- A node no longer has to answer the FAULT_CLEAR of a SAFE exit (R554). -/
def State.clearGot (s : State) (n : Nat) : State := { s with crown := { s.crown with clearAwait := s.crown.clearAwait.filter (· != n) } }

/-- An IDENT reply (R122): TYPE, CELLS and FW_VER; a type other than 0x16 is foreign. -/
def State.takeIdent (s : State) (n : Nat) (p : List Byte) : State :=
  let s := ((s.wr (F.RING_NODEID_TYPE n) (beAt p 0 1)).wr (F.RING_NODEID_CELLS n) (beAt p 1 1)).wr (F.RING_NODEID_FW_VER n) (beAt p 2 2)
  let n16 := beAt p 0 1 == 0x16
  let s := s.modRing fun r => { r with ident := putBit r.ident n true, found := putBit r.found n n16, foreign := putBit r.foreign n (!n16) }
  if n16 then s else (s.wrB F.RING_STATUS_FOREIGN true).raise 0x18 4

/-- A THR_READ reply (R136): THR_OK, and a difference that asks for a write. -/
def State.takeThr (s : State) (n : Nat) (p : List Byte) : State :=
  let ok := p.take 5 == s.thrBytes.take 5 && beAt p 6 1 == 1
  let s := (s.wrB (F.NODE_NSTAT_THR_OK n) ok).modRing fun r => { r with thrBad := putBit r.thrBad n (!ok) }
  if ok then s else s.raise 0x1B 3

/-- A node treated as not answering for an exchange (R130). -/
def State.noAnswer (s : State) (c : RingCmd) : State :=
  let n := c.node
  match c.cmd with
  | 0x11 => s.planGot n
  | 0x21 => s.thrFails n
  | 0x22 => s.modRing fun r => { r with thrBad := putBit r.thrBad n true }
  | 0x30 => s.loopGot n []
  | 0x31 => s.clearGot n
  | _ => s

/-- What a valid reply to a command does. A STATUS that Table 5-4 gives the command no meaning for (unknown command, bad length, busy), and a BAL_STAT reply too short for its header, count as no answer for the exchange: the spec does not say what the module does with them (DESIGN CHOICE, notes/assumptions/81.md). -/
def State.actReply (s : State) (c : RingCmd) (status : Nat) (p : List Byte) : State :=
  let n := c.node
  match c.cmd with
  | 0x02 => if status = 3 then s.conflict else if status = 0 then s.takeIdent n p else s.noAnswer c
  | 0x11 => if status = 0 ∧ p.length ≥ 4 then s.balStat n p else s.noAnswer c
  | 0x20 => if status = 0 then s else s.thrFails n
  | 0x21 =>
    if status = 0 && p.take 5 == s.thrBytes.take 5 then
      let s := if s.ringSt.thrRetry.testBit n then s.retryPass 0x1B else s
      s.modRing fun r => { r with thrBad := putBit r.thrBad n false, thrRetry := putBit r.thrRetry n false }
    else s.thrFails n
  | 0x22 => if status = 0 then s.takeThr n p else s.noAnswer c
  | 0x30 => if status = 0 then s.takeCause n (beAt p 0 1 % 8) (beAt p 1 1) (beAt p 2 4) else s.noAnswer c
  | 0x31 => if status = 0 ∨ status = 3 then (s.wr (F.NODE_NSTAT_CAUSE n) (beAt p 0 1 % 8)).clearGot n else s.noAnswer c
  | _ => s

/-- The commands of the sequence under way end with its code. -/
def State.afterExchange (s : State) (c : RingCmd) : State := if c.cmd = stageCode s.ringSt.stage then s.goOn else s

/-! ## Commands: ports and exchanges -/

/-- The errors that a command carries counted at their ports (R116, Table 5-8). -/
def State.countErrs (s : State) (e : PortErrs) : State :=
  (((s.bump F.RING_ERRA_CRC_ERR e.a.crc).bump F.RING_ERRA_CODE_ERR e.a.code).bump ⟨A.RING_ERRB, 0, 16⟩ e.b.crc).bump ⟨A.RING_ERRB, 16, 16⟩ e.b.code

/-- RING_PORT_LINK_DOWN (R111): a port's receive stream stops or loses synchronisation, with the code and disparity errors seen; an originating unit enters BROKEN. -/
def execRingPortLinkDown (port : Fin 2) (codeErrs : BitVec 16) (s : State) : Host.Outcome State Fault Refusal :=
  let s := s.wrB (if port.val = 0 then F.RING_STATUS_LINK_A else F.RING_STATUS_LINK_B) false
  let s := s.bump (if port.val = 0 then F.RING_ERRA_CODE_ERR else ⟨A.RING_ERRB, 16, 16⟩) codeErrs.toNat
  .next (if s.rd F.RING_STATUS_STATE == 5 then s else s.enterBroken)

/-- RING_PORT_SYNCHRONISED (R111): 3 consecutive valid IDLE sequences. -/
def execRingPortSynchronised (port : Fin 2) (s : State) : Host.Outcome State Fault Refusal :=
  .next (s.wrB (if port.val = 0 then F.RING_STATUS_LINK_A else F.RING_STATUS_LINK_B) true)

/-- RING_REPLY (R118): the first valid copy of a reply, matched by node, CMD and SEQ, is accepted and acted on; an address conflict is also reported unasked (R121). -/
def execRingReply (n : Fin 32) (cmd seq : BitVec 8) (status : BitVec 4) (data : ReplyData) (s : State) : Host.Outcome State Fault Refusal :=
  let s := s.countErrs data.errs
  match s.ringSt.wait.find? fun c => c.node == n.val && c.cmd == cmd.toNat && c.seq == seq.toNat with
  | some c =>
    let s := s.modRing fun r => { r with wait := r.wait.filter fun x => !(x.node == c.node && x.cmd == c.cmd && x.seq == c.seq) }
    let s := if c.second then s.retryPass 0x18 else s
    .next ((s.actReply c status.toNat data.payload).afterExchange c)
  | none => if cmd = 0x02 ∧ status = 3 ∧ s.originates then .next s.conflict else .next s

/-- The ports of a lasting ring fault (R130), port A in bit 0, port B in bit 1: those that discarded a frame of the exchange, where none did the port or ports it was sent by (DESIGN CHOICE, notes/assumptions/85.md). -/
def State.faultPorts (s : State) (c : RingCmd) (e : PortErrs) : Nat :=
  let seen := (if e.a.crc > 0 then 1 else 0) + (if e.b.crc > 0 then 2 else 0)
  if seen ≠ 0 then seen
  else match c.port with
    | some side => if (side = 0) = (s.downPort = 0) then 1 else 2
    | none => 3

/-- CRC_LASTING of a command (R130). -/
def State.crcFault (s : State) (c : RingCmd) (e : PortErrs) : State := (s.raise 0x18 6).lastingW 0x18 .ringCrc [c.node, s.faultPorts c e]

/-- RING_REPLY_TIMEOUT (R130): 50 µs without a valid reply, with the frames discarded meanwhile at port A and B; the command is sent again with a new SEQ, a second failure is lasting. -/
def execRingReplyTimeout (n : Fin 32) (cmd seq : BitVec 8) (errA errB : PortErr) (s : State) : Host.Outcome State Fault Refusal :=
  let s := s.countErrs ⟨errA, errB⟩
  match s.ringSt.wait.find? fun c => c.node == n.val && c.cmd == cmd.toNat && c.seq == seq.toNat with
  | some c =>
    let s := s.modRing fun r => { r with wait := r.wait.filter fun x => !(x.node == c.node && x.cmd == c.cmd && x.seq == c.seq) }
    if c.second then .next (((s.crcFault c ⟨errA, errB⟩).noAnswer c).afterExchange c)
    else .next (s.sendCmd { c with second := true })
  | none => .next s

/-- RING_SEQ_RELEASE (R117): a command held back is launched once its SEQ may be used. -/
def execRingSeqRelease (s : State) : Host.Outcome State Fault Refusal :=
  match s.ringSt.held with
  | [] => .next s
  | c :: t => if s.seqFree then .next ((s.modRing fun r => { r with held := t }).launchCmd c) else .next s

/-! ## Commands: states of the ring -/

/-- LINK_REPORT (R129): a node with an address has lost a receive link; the module enters BROKEN and locates the break. -/
def execLinkReport (n : Fin 32) (s : State) : Host.Outcome State Fault Refusal :=
  if s.originates && s.nodes.contains n.val then
    let s := if s.rd F.RING_STATUS_STATE == 5 then s else s.enterBroken
    .next (if s.rd F.RING_STATUS_STATE == 4 then s.locate else s)
  else .next s

/-- KEEPALIVE (R128): the module sends a NOP from both ports. -/
def execKeepalive (s : State) : Host.Outcome State Fault Refusal :=
  if s.rd F.RING_STATUS_STATE ≥ 2 then .next ((s.ringCmd broadcast 0x50).modRing fun r => { r with nopOut := true }) else .next s

/-- KEEPALIVE_RETURN (R128, R131): the own NOP has returned both ways after a ring time in ns, with the nodes whose NOP reply arrived at the down port and at the other port. -/
def execKeepaliveReturn (answers : NopAnswers) (loopNs : BitVec 16) (errs : PortErrs) (s : State) : Host.Outcome State Fault Refusal :=
  let s := s.countErrs errs
  if !s.ringSt.nopOut then .next s
  else
    let s := s.takeAnswers answers.down.toNat answers.up.toNat
    let both := s.nodes.all fun n => s.ringSt.down.testBit n && s.ringSt.up.testBit n
    let silent := s.nodes.any fun n => !s.answering.contains n
    let s := s.modRing fun r => { r with failRun := 0, goodRun := if both then min 3 (r.goodRun + 1) else 0, silentRun := if silent then r.silentRun + 1 else 0 }
    let st := s.rd F.RING_STATUS_STATE
    let s := if s.ringSt.goodRun ≥ 3 && (st == 4 || st == 5 || (st == 2 && s.ringSt.stage == 0)) then s.enterIntact else s
    let s := if s.rd F.RING_STATUS_STATE == 3 then s.wr F.RING_TIME_LOOP_NS loopNs.toNat else s
    let s := if s.ringSt.silentRun ≥ 3 && s.ringSt.stage == 0 && s.mode != .transport && !s.on F.CROWN_MODE_DORMANT then (s.modRing fun r => { r with silentRun := 0 }).enumerate else s
    .next s.afterKeepalive

/-- KEEPALIVE_FAIL (R128): the own NOP has not returned within the ring time + 10 µs; a second failure in succession is a break. -/
def execKeepaliveFail (answers : NopAnswers) (errs : PortErrs) (s : State) : Host.Outcome State Fault Refusal :=
  let s := s.countErrs errs
  if !s.ringSt.nopOut then .next s
  else
    let s := s.takeAnswers answers.down.toNat answers.up.toNat
    let s := s.modRing fun r => { r with goodRun := 0, silentRun := 0, failRun := min 2 (r.failRun + 1) }
    let st := s.rd F.RING_STATUS_STATE
    let s := if s.ringSt.failRun ≥ 2 && (st == 3 || (st == 2 && s.ringSt.stage == 0)) then s.enterBroken else s
    .next s.afterKeepalive

/-- ENUM_RETURN (R121): the ENUM under way returns on the other port with a NEXT. -/
def execEnumReturn (next : BitVec 8) (s : State) : Host.Outcome State Fault Refusal := .next (s.enumStep (some next.toNat))

/-- ENUM_TIMEOUT (R121): 10 µs pass without the ENUM returning. -/
def execEnumTimeout (s : State) : Host.Outcome State Fault Refusal := .next (s.enumStep none)

/-- ECHO_RETURN (R124): the echo of an ECHO sent from a side (0 down port, 1 other) to node n returns after a round trip of rt × 4 ns; 16 of them give a delay. -/
def execEchoReturn (n : Fin 32) (side : Fin 2) (rt : BitVec 16) (s : State) : Host.Outcome State Fault Refusal :=
  match s.ringSt.wait.find? fun c => c.node == n.val && c.cmd == 0x03 && c.port == some side.val with
  | none => .next s
  | some c =>
    let k := 2 * n.val + side.val
    let (cnt, sum) := mget (0, 0) s.ringSt.echo k
    let s := s.modRing fun r => { r with wait := r.wait.filter fun x => !(x.cmd == 0x03 && x.seq == c.seq), echo := mset (0, 0) r.echo k (cnt + 1, sum + 4 * rt.toNat) }
    let s := if c.second then s.retryPass 0x18 else s
    if cnt + 1 < 16 then .next (s.sendCmd { node := n.val, cmd := 0x03, port := some side.val }) else .next (s.afterExchange c)

/-- DELAY_PERIOD (R124): DELAY_PERIOD seconds have passed and the delays are measured anew. -/
def execDelayPeriod (s : State) : Host.Outcome State Fault Refusal := if s.rd F.RING_STATUS_STATE == 3 || s.rd F.RING_STATUS_STATE == 4 then .next s.measure else .next s

/-- WAKE_SEQUENCE_RETURN (R132): the wake sequence returns on both ports and is stopped. -/
def execWakeSequenceReturn (s : State) : Host.Outcome State Fault Refusal := .next s.wakeDone

/-- WAKE_SEQUENCE_TIMEOUT (R132): 300 ms after it began, the wake sequence is stopped. -/
def execWakeSequenceTimeout (s : State) : Host.Outcome State Fault Refusal := .next s.wakeDone

/-! ## Commands: registers of RING and BAL -/

/-- RING.CMD.ENUMERATE: refused in CONNECT, RUN and HOLD. -/
def State.cmdEnumerate (s : State) : State := if s.mode == .connect || s.mode == .run || s.mode == .hold then s else s.enumerate

/-- ENUMERATE (R137). -/
def execEnumerateCmd (who : Initiator) (s : State) : Host.Outcome State Fault Refusal := .next (s.asWrite who A.RING_CMD fun s => s.cmdEnumerate)

/-- MEASURE (R137): every delay is measured anew. -/
def execMeasureCmd (who : Initiator) (s : State) : Host.Outcome State Fault Refusal := .next (s.asWrite who A.RING_CMD fun s => s.measure)

/-- RING.CMD.CLR_ERR: ERRA and ERRB cleared. -/
def State.ringClear (s : State) : State := (s.setWord A.RING_ERRA 0).setWord A.RING_ERRB 0

/-- CLR_ERR (R137). -/
def execRingClrErr (who : Initiator) (s : State) : Host.Outcome State Fault Refusal := .next (s.asWrite who A.RING_CMD fun s => s.ringClear)

/-- PLAN_INTERVAL (R163): PLAN_S has passed and the planner runs where it may. -/
def execPlanInterval (s : State) : Host.Outcome State Fault Refusal := .next s.replan

/-- BAL.CMD.PLAN_NOW (R163): a plan at once where the planner may run; in SERVICE only from a secure session. -/
def State.planNow (s : State) (who : Initiator) : State :=
  if s.planAllowed || (s.mode == .service && s.on F.BAL_CFG_EN && s.secureOf who && s.originates) then s.planBegin else s

/-- PLAN_NOW (R163). -/
def execPlanNow (who : Initiator) (s : State) : Host.Outcome State Fault Refusal := .next (s.asWrite who A.BAL_CMD fun s => s.planNow who)

/-- BAL_STOP (R173): BAL.CMD.STOP stops every node. -/
def execBalStop (who : Initiator) (s : State) : Host.Outcome State Fault Refusal := .next (s.asWrite who A.BAL_CMD fun s => s.balStop)

/-- STOP_CONFIRM_TIMEOUT (R173): a node has not confirmed the stop; it is stopped again, then left to its silence timer and recorded. -/
def execStopConfirmTimeout (n : Fin 32) (s : State) : Host.Outcome State Fault Refusal :=
  if !s.bal.stopWait.contains n.val then .next s
  else if s.bal.stopAgain.contains n.val then
    .next ((s.modBal fun b => { b with stopWait := b.stopWait.filter (· != n.val), stopLost := true }).lastingW 0x1D .balStop [n.val])
  else .next ((({ s with bal := { s.bal with stopAgain := s.bal.stopAgain ++ [n.val] } }).ringCmd n.val 0x10 (s.balHeader true)).ringCmd n.val 0x11)

/-- BAL.CMD.CLR_NFAULT: refused in RUN. -/
def State.clearNfault (s : State) : State := if s.mode == .run then s else s.wr F.BAL_NFAULT_NODES 0

/-- CLR_NFAULT (R172). -/
def execClrNfault (who : Initiator) (s : State) : Host.Outcome State Fault Refusal := .next (s.asWrite who A.BAL_CMD fun s => s.clearNfault)

end Sys2Proof.Machine
end

