-- ==== Sys2Proof/Machine/TrackOps.lean ====
section
/-!
DEFINITION. The tracking start (Tables 10-2 and 10-3), its aborts and the orderly disconnect (Table 10-4) as operations.
-/
namespace Sys2Proof.Machine
open Sys2Proof

/-- STEP of Table 10-2. -/
def State.startStep (s : State) : Nat := s.rd F.TRACK_STATUS_STEP

/-- A step of Table 10-2 begins. -/
def State.toStep (s : State) (n : Nat) : State := { s.wr F.TRACK_STATUS_STEP n with track := { s.track with ended := false } }

/-- The start no longer runs: its flags and STEP are cleared. -/
def State.startOver (s : State) : State :=
  let s := ((s.toStep 0).wrB F.TRACK_STATUS_FORMING false).wrB F.TRACK_STATUS_MATCHED false
  { s with track := { s.track with preReread := false, waiting := false, tracking := false, forming := false, aborting := 0, awaitStart := false, peakBad := false, waitDue := false } }

/-- A start ends in STANDBY with every contactor open (R242, Table 2-2). -/
def State.startToStandby (s : State) : State :=
  let s := ((s.startOver.dropEnables.loopOff).wrB F.TRACK_STATUS_RETRY false).setMode .standby
  { s with track := { s.track with retried := false } }.entryStore 3

/-- The last part of an abort (R242 item 5), every contactor open: ABORT raised and the code recorded; a retried code waits for its second attempt once, a second abort of a retried code is lasting. -/
def State.abortEnds (s : State) : State :=
  let code := s.track.abortCode
  let s := ((s.wr F.TRACK_STATUS_ABORT code).bump F.TRACK_STARTS_ABORTS).raise 0x23 4
  match s.track.abortEnd with
  | .standby => s.startToStandby
  | .retry =>
    if s.track.retried then (((s.lasting 0x23 code).raise 0x23 6).record 3 0x23 .startLasting [code]).startToStandby
    else
      let s := s.startOver
      { s with track := { s.track with retried := true, waiting := true } }

/-- K1, K2 and K3 opened (R242 item 4); the abort ends when they report open. -/
def State.abortFinish (s : State) : State :=
  let s := s.releaseAll [1, 2, 3]
  let s := { s with track := { s.track with aborting := 3 } }
  if s.fbClosed 1 || s.fbClosed 2 || s.fbClosed 3 then s else s.abortEnds

/-- K4 and K5 de-energised when |I_string| ≤ I_OPEN, or unconditionally (R242 item 3, Table 10-4 step 3); the abort goes on when both report open. -/
def State.abortBus (s : State) (always : Bool) : State :=
  if !always && s.loaded && (s.driven 4 || s.driven 5 || s.fbClosed 4 || s.fbClosed 5) then s
  else
    let s := s.releaseAll [4, 5]
    if s.fbClosed 4 || s.fbClosed 5 then s else s.abortFinish

/-- The gates have stopped: the enables are de-energised, then K4 and K5, where closed, open at near-zero current (R242 items 2 and 3). -/
def State.abortOpen (s : State) : State :=
  { s.dropEnables with track := { s.track with aborting := 2, tracking := false, forming := false } }.abortBus false

/-- A start abort (R242): the gates stop at the next phase-0 boundary, then the contactors open. -/
def State.abortStart (s : State) (code : Nat) (e : AbortEnd) : State :=
  if s.mode = .connect ∧ s.track.aborting = 0 then
    let s := s.notePre
    let s := { s with track := { s.track with abortCode := code, abortEnd := e, aborting := 1, awaitStart := false } }
    let s := if code == 3 then s.release 3 else s
    if s.nOn != 0 then { s with pwm := { s.pwm with stopNext := true } } else s.abortOpen
  else s

/-- Pre-checks of step 2 hold (Table 10-2): feedbacks open, VCOIL, V_string, V_link, I_string. -/
def State.preChecks (s : State) : Bool :=
  s.allOpen && decide (s.rd F.CONTACT_VCOIL_VCOIL ≥ s.rd F.CONTACT_CFG_VCOIL_MIN)
    && decide (100000 ≤ s.meas.vString) && decide (s.meas.vString ≤ 1600000) && decide (s.meas.vLink ≤ 50000) && !s.loaded

/-- A WELD of Kk is lasting (R235): WELD set, a class S event; a start in progress ends with code 2. -/
def State.weldFound (s : State) (k : Nat) : State :=
  let s := ((s.wrBit F.CONTACT_STATUS_WELD (k - 1) true).raise 0x24 3).addCond (.weld k) .S
  let s := s.lasting 0x24 (evCode 0x24 .weld)
  let s := if s.mode = .connect then s.dropStart 2 else s
  s.react .S 0x24 .weld [k]

/-- Step 2 (Table 10-2): K3 is energised when the pre-checks hold; a first failure is read again after 100 ms, a second ends in STANDBY. -/
def State.preCheckStep (s : State) : State :=
  if s.rd F.CONTACT_STATUS_WELD != 0 then (s.dropStart 2).react .S 0x24 .weld []
  else if s.preChecks then ({ s with track := { s.track with preReread := false } }.toStep 3).energise 3
  else if s.track.preReread then ({ s with track := { s.track with preReread := false } }).abortStart 1 .standby
  else { s with track := { s.track with preReread := true } }

/-- Step 1 (Table 10-2): CONNECT is entered, STARTS counts, and the pre-checks follow. -/
def State.startBegin (s : State) : State :=
  let s := ((s.setMode .connect).presetEntry).freezeAll true
  let s := (((s.toStep 1).bump F.TRACK_STARTS_STARTS).raise 0x23 0).wrB F.TRACK_STATUS_RETRY false
  let s := { s with track := { s.track with retried := false, preReread := false, disc := 0, clocks := 0 } }
  (s.toStep 2).preCheckStep

/-- A TB0 time held in three registers NS, SEC_LO, SEC_HI, in nanoseconds. -/
def State.atTime (s : State) (ns lo hi : Nat) : Int :=
  ((s.rd ⟨lo, 0, 32⟩ + 2 ^ 32 * s.rd ⟨hi, 0, 16⟩ : Nat) : Int) * 1000000000 + s.rd ⟨ns, 0, 32⟩

/-- TRACK.START_AT in nanoseconds of TB0. -/
def State.startAt (s : State) : Int := s.atTime A.TRACK_START_AT_NS A.TRACK_START_AT_SEC_LO A.TRACK_START_AT_SEC_HI

/-- TRACK.FORM_AT in nanoseconds of TB0. -/
def State.formAt (s : State) : Int := s.atTime A.TRACK_FORM_AT_NS A.TRACK_FORM_AT_SEC_LO A.TRACK_FORM_AT_SEC_HI

/-- Step 7 (Table 10-2): the gate enables are energised, the phases switch, instance 18 ramps from its measured value; the meet of step 8 begins. -/
def State.startTracking (s : State) : State :=
  let s := (s.askEnables.startPhases).freezeAll false
  let s := { s with track := { s.track with tracking := true, awaitStart := false, clocks := 0, vLink0 := s.meas.vLink },
                    loop := { s.loop with rampFrom := [16, 18] } }
  s.toStep 8

/-- Step 7 reached: tracking starts at once, or waits for a START_AT that lies ahead (code 6 otherwise). -/
def State.step7 (s : State) : State :=
  let s := s.toStep 7
  if s.on F.TRACK_CFG_START_TB then
    if s.startAt > s.tb0 then { s with track := { s.track with awaitStart := true } } else s.abortStart 6 .standby
  else s.startTracking

/-- Entry into RUN (R324): the set-point in force starts from 0; a target that nothing has set is 0, or V_plant for SOURCE 2, whose target passes unramped. -/
def State.enterRun (s : State) : State :=
  let src := s.rd F.LOOP_CFG_SOURCE
  let s := if s.disp.targetSet then s else s.wrI F.DISP_TARGET_TARGET (if src == 2 then s.meas.vPlant else 0)
  let s := (s.setMode .run).wr F.LOOP_STATUS_SOURCE src
  let s := if s.on F.BAL_CFG_EN && !s.on F.BAL_CFG_RUN_EN then s.balStop else s
  s.wrI F.DISP_SETP_SETP (if src == 2 then s.rdI F.DISP_TARGET_TARGET else 0)

/-- K4 and K5 are driven and report closed: outside the start and the gate test the converter is driven only then (R23). -/
def State.busHeld (s : State) : Bool := [4, 5].all fun k => s.driven k && s.fbClosed k

/-- In RUN the gates stop at once where K4 or K5 no longer holds closed (R23); the instances freeze, an impedance run is aborted (Table 11-3 code 3), and the module stays in RUN (DESIGN CHOICE, notes/assumptions/71.md). -/
def State.watchBus (s : State) : State :=
  if s.effMode == .run && !s.busHeld && s.nOn != 0 then (s.gatesOff.freezeAll true).abortRun 3 else s

/-- CONNECT to RUN (Table 10-2 step 11): held until the last take-up while an apply is LAUNCHED (R82); the source instance is preset to the output of instance 18 (Table 9-5). -/
def State.toRun (s : State) : State :=
  if s.rd F.CROWN_STAGE_CTRL_STATE == 6 then { s.toStep 11 with crown := { s.crown with runDue := true } }
  else
    let src := s.rd F.LOOP_CFG_SOURCE
    let o18 := s.instOut 18
    let s := if s.track.retried then s.retryPass 0x23 else s
    let s := (s.startOver.wrB F.TRACK_STATUS_RETRY false).enterRun
    let s := { s with crown := { s.crown with runDue := false }, track := { s.track with retried := false } }.clearHistories
    (if src == 1 then { s.presetTo 17 o18 with loop := { (s.presetTo 17 o18).loop with rampFrom := [17] } } else s).watchBus

/-- Steps 9 to 11 (Table 10-2): both bus feedbacks report closed. -/
def State.busClosed (s : State) : State :=
  let s := s.raise 0x23 3
  let s := { s with track := { s.track with vClose := s.meas.vPlant } }
  if s.on F.TRACK_CFG_FORM_EN then
    if s.formAt > s.tb0 then (s.toStep 10).wrB F.TRACK_STATUS_FORMING true else s.abortStart 6 .standby
  else (s.toStep 11).toRun

/-- Step 5 of Table 10-4: the enables de-energised, STANDBY, DISCONNECTED. -/
def State.disconnectEnd (s : State) : State :=
  let s := ((s.leaveBal.dropEnables.loopOff).setMode .standby).raise 0x23 8
  { s with track := { s.track with disc := 0, tracking := false, forming := false, waitDue := false }, crown := { s.crown with trans := .none } }.entryStore 3

/-- Step 4 of Table 10-4: K1 and K2 de-energised, K3 with them where a start lost with its claim left it closed (R244); step 5 follows when they report open. -/
def State.disconnect4 (s : State) : State :=
  let s := s.releaseAll [1, 2, 3]
  let s := { s with track := { s.track with disc := 4 } }
  if s.fbClosed 1 || s.fbClosed 2 || s.fbClosed 3 then s else s.disconnectEnd

/-- Step 3 of Table 10-4: K4 and K5 de-energised when |I_string| ≤ I_OPEN, or unconditionally. -/
def State.disconnect3 (s : State) (always : Bool) : State :=
  if !always && s.loaded then s
  else
    let s := s.releaseAll [4, 5]
    if s.fbClosed 4 || s.fbClosed 5 then s else s.disconnect4

/-- Step 1 of Table 10-4 begins the current ramp: i_set is taken to 0; in REST the contactors open at once. -/
def State.disconnectRamp (s : State) : State :=
  let s := { s with crown := { s.crown with trans := .disconnect }, track := { s.track with disc := 2, forming := false } }.wrB F.TRACK_STATUS_FORMING false
  if s.nOn == 0 then { s with track := { s.track with disc := 3 } }.disconnect3 false else s

/-- An orderly disconnect begins (R245), an impedance run aborted (Table 11-3), with the bus lowered first where SHUT_EN and a later FORM_AT ask for it. -/
def State.disconnectBegin (s : State) : State :=
  let s := s.abortRun 2
  let s := { s with crown := { s.crown with trans := .disconnect } }
  if s.on F.TRACK_CFG_SHUT_EN && decide (s.formAt > s.tb0) && s.mode == .run then { s with track := { s.track with disc := 6 } }
  else s.disconnectRamp

/-- What follows a stop of the gates that a sequence asked for: REST entry, step 3 of the disconnect, or the contactors of a start abort. In HOLD no mode but the previous one follows and no contactor moves, so it waits for the recovery (R37, R59, R243). -/
def State.gatesStopped (s : State) : State :=
  if s.mode = .hold then s
  else if s.track.aborting == 1 then s.loopOff.abortOpen
  else match s.crown.trans with
    | .restRamp => { (s.loopOff.setMode .rest) with crown := { s.crown with trans := .none } }
    | .disconnect => if s.track.disc == 2 then { s.loopOff with track := { s.track with disc := 3 } }.disconnect3 false else s
    | _ => s

/-- The gates stop at a phase-0 boundary. -/
def State.afterGateStop (s : State) : State := s.gatesOff.gatesStopped

end Sys2Proof.Machine
end

