-- ==== Sys2Proof/Machine/ModeOps.lean ====
section
/-!
DEFINITION. Mode requests as operations (R37 to R43, R51 to R55, R554, R555): the order of evaluation, and what an accepted one starts.
-/
namespace Sys2Proof.Machine
open Sys2Proof

/-- The mandatory partners of Table 1-4 that are missing: 1 a node (or an address conflict or a node beyond NODE_COUNT, R121, R122), 2 gate-driver boards (every enabled phase without a latched fault, R192), 3 contactor interface, 4 shunt, 5 Hall sensor, 6 VCOIL, 7 Ethernet networks, 8 the string-derived supply of a black start (no VAUX). The order of the bits of CROWN.STATUS.MISSING is that of the table (notes/assumptions/72.md). -/
def State.missingPartners (s : State) (p : Partners) : List Nat :=
  let nodes := (s.nodes.all fun n => s.answering.contains n && s.ringSt.found.testBit n) && s.rd F.RING_STATUS_FOUND == s.rd F.RING_CFG_NODE_COUNT
    && !s.on F.RING_STATUS_CONFLICT
  let boards := p.gateBoards && phases.all fun n => !s.bit F.PSTAGE_PHEN_EN n || (s.rd (F.PHASE_STAT_STATE n) != 3 && !s.bit F.PSTAGE_RUNMASK_FAULTMASK n)
  let row (ok : Bool) (k : Nat) : List Nat := if ok then [] else [k]
  row nodes 1 ++ row boards 2 ++ row p.contactorInterface 3 ++ row p.shunt 4 ++ row (p.hall || !s.on F.SAFE_CFG_DIVERSE) 5
    ++ row p.vcoil 6 ++ row (p.networks || !((List.range 8).any fun n => s.on (F.SNET_SRC_0_EN n))) 7
    ++ row (s.on F.SUPPLY_STATUS_VAUX_OK || s.crown.sdsIn) 8

/-- A transition, a start or a higher trigger is under way (R38, R40). -/
def State.moving (s : State) : Bool :=
  s.crown.trans != .none || s.track.disc != 0 || s.track.aborting != 0 || s.prot.srd.isSome || s.crown.phase != .complete

/-- A request cannot be taken: something is under way, or an apply is LAUNCHED (R38, R40, R82). -/
def State.underWay (s : State) : Bool := s.moving || s.rd F.CROWN_STAGE_CTRL_STATE == 6

/-- The transitions of Table 2-2 that a request may start. -/
def requestable (src dst : Mode) : Bool :=
  match src, dst with
  | .standby, .connect | .connect, .standby | .run, .rest | .rest, .run | .run, .standby | .rest, .standby | .safe, .standby
  | .standby, .service | .safe, .service | .standby, .transport => true
  | _, _ => false

/-- The conditions of a start (Table 2-2, R136, R147, R235, R486, R555) beyond the partners. -/
def State.startAllowed (s : State) : Bool :=
  s.rd F.CONTACT_STATUS_WELD == 0 && s.on F.SUPPLY_STATUS_BANK_OK && s.noSH && s.valuesPass && s.ringSt.thrBad == 0
    && (s.nodes.all fun n => s.rd (F.RING_NODEID_CELLS n) == s.cellsOf n) && !s.on F.UPDATE_STATUS_TRIAL

/-- No S or H condition is active beside the open fault loop (R554 step 1). -/
def State.noSHButLoop (s : State) : Bool := s.prot.conds.all fun x => x.1 == .loopOpen || (x.2 != .S && x.2 != .H)

/-- The unit takes mode requests itself: solo or active (R359, R362). -/
def State.inControl (s : State) : Bool := s.rd F.PAIR_STATUS_ROLE == 0 || s.rd F.PAIR_STATUS_ROLE == 1

/-- No write of learned values is under way, queued or deferred (R53, R54). -/
def State.journalsDone (s : State) : Bool := s.est.writing.isNone && s.est.waiting.isEmpty && s.est.deferred.isEmpty && !s.tele.deferred

/-- The result code of a request (R40): the first rule that applies. -/
def State.requestResult (s : State) (who : Initiator) (dst : Mode) (dormant : Bool) (p : Partners) : Nat :=
  let m := s.mode
  if (dst == .transport || dst == .service) && !s.secureOf who then 4
  else if m == .hold then 5
  else if s.underWay then 1
  else if dormant && dst == .standby && m == .standby then (if s.on F.PAIR_CFG_PAIRED || !s.inControl then 3 else 0)
  else if !requestable m dst then 1
  else if !s.inControl then 3
  else match dst with
    | .connect => if !(s.missingPartners p).isEmpty then 2 else if s.startAllowed then 0 else 3
    | .run => if !(s.missingPartners p).isEmpty then 2 else if s.startAllowed && s.busHeld && s.fbClosed 1 && s.fbClosed 2 then 0 else 3
    | .standby => if m == .safe && !s.noSHButLoop then 3 else 0
    | .service => if s.allOpen then 0 else 3
    | .transport => if s.allOpen && !s.fbClosed 6 && decide (s.meas.vPlant < 50000) && s.journalsDone then 0 else 3
    | _ => 0

/-- Steps 1 and 2 of R54: the journals and counters fall due and the entry is recorded, the tasks stop (R375); the transition is under way until they are written. -/
def State.transportBegin (s : State) : State :=
  let s := ((s.entryStore 4).record 4 0x00 .transportEntry []).haltTasks
  { s with crown := { s.crown with trans := .transport } }

/-- Steps 3 and 4 of R54, once the journals are written: DEEP_SLEEP to every node, the input switch, TRANSPORT. -/
def State.enterTransport (s : State) : State :=
  let s := { s with crown := { s.crown with trans := .none } }
  let s := (s.ringCmd broadcast 0x41 [0x7D, 0x5E]).stopRing
  let s := (s.setMode .transport).driveCool
  { s with crown := { s.crown with inputOpen := true, vauxArmed := false, busArmed := true } }

/-- Dormant STANDBY (R51): the ring falls silent, the converter domains stop. -/
def State.enterDormant (s : State) : State :=
  let s := (s.stopRing.wrB F.CROWN_MODE_DORMANT true).wrB F.HARVEST_STATUS_RUNNING false
  { s with harv := { s.harv with captures := [] } }

/-- The SAFE exit (R554 step 2): FAULT_CLEAR to every reachable node; REQ_RESULT keeps its value. -/
def State.safeExitBegin (s : State) (who : Initiator) : State :=
  let l := s.answering
  let s := { s with crown := { s.crown with trans := .safeExit, transWho := who, clearAwait := l } }
  l.foldl (fun s n => s.ringCmd n 0x31) s

/-- REST to RUN (Table 2-2): phases switch again under the preset of Table 9-5. -/
def State.restToRun (s : State) : State := ((s.presetEntry.askEnables.startPhases).freezeAll false).enterRun

/-- RUN to REST (Table 2-2): an impedance run aborted (Table 11-3), i_set taken to 0 and i_cmd ramped; without a switching phase REST is entered at once. -/
def State.restBegin (s : State) : State :=
  let s := s.abortRun 2
  if s.nOn == 0 then s.loopOff.setMode .rest else { s with crown := { s.crown with trans := .restRamp } }

/-- An accepted request carried out. -/
def State.takeRequest (s : State) (who : Initiator) (dst : Mode) (dormant : Bool) : State :=
  match s.mode, dst with
  | .standby, .standby => if dormant then s.enterDormant else s
  | .standby, .connect => s.startBegin
  | .connect, .standby => s.abortStart 9 .standby
  | .run, .rest => s.restBegin
  | .rest, .run => s.restToRun
  | .run, .standby => s.disconnectBegin
  | .rest, .standby => s.disconnectBegin
  | .safe, .standby => s.safeExitBegin who
  | _, .service => (s.leaveBal.setMode .service).haltTasks
  | .standby, .transport => if s.transportBegin.journalsDone then s.transportBegin.enterTransport else s.transportBegin
  | _, _ => s

/-- A mode request (R37, R40): the result in REQ_RESULT, the partners missing for CONNECT and RUN in CROWN.STATUS (R29; the places of its bits are the model's, notes/assumptions/72.md), a refusal for the world recorded as a cross-world attempt (R43), a request below a higher trigger recorded at severity 3 (R38). -/
def State.modeRequest (s : State) (who : Initiator) (dst : Mode) (dormant : Bool) (p : Partners) : State :=
  let code := s.requestResult who dst dormant p
  let s := if code = 4 then s.crossWorld who A.CROWN_MODE_REQ true else s
  let s := if code != 0 && code != 4 && (s.mode == .hold || s.prot.srd.isSome) then s.record 3 0x00 .triggerRefused [dst.code] else s
  let s := if dst == .connect || dst == .run then s.wr F.CROWN_STATUS_MISSING ((s.missingPartners p).foldl (fun m k => m ||| 2 ^ (k - 1)) 0) else s
  if code != 0 then s.wr F.CROWN_MODE_REQ_RESULT code
  else
    let s := if dst == .connect && s.nvm.armed == 1 then { s with nvm := { s.nvm with armed := 0, boot := { s.nvm.boot with pendingSlot := none } } }.wr F.UPDATE_STATUS_STATE 5 else s
    if s.mode == .safe && dst == .standby then s.takeRequest who dst dormant
    else (s.wr F.CROWN_MODE_REQ_RESULT 0).takeRequest who dst dormant

/-- A write of CROWN.MODE_REQ: TARGET 0x6 is a no-op (Table 2-3), a reserved target is a transition that Table 2-2 does not permit, and below a higher trigger recorded as one (R38). -/
def State.modeReqWrite (s : State) (who : Initiator) (target : Nat) (dormant : Bool) (p : Partners) : State :=
  if target = 6 then s.wr F.CROWN_MODE_REQ_RESULT 0
  else if target = 5 ∨ target > 7 then
    let s := if s.mode == .hold || s.prot.srd.isSome then s.record 3 0x00 .triggerRefused [target] else s
    s.wr F.CROWN_MODE_REQ_RESULT (if s.mode == .hold then 5 else 1)
  else s.modeRequest who (Mode.ofCode target) dormant p

/-- The SAFE exit judged (R554 step 3). -/
def State.judgeSafeExit (s : State) : State :=
  let ok := s.on F.NODE_STATUS_LOOP_CLOSED && s.noSH && s.mode == .safe
  let who := s.crown.transWho
  let s := { s with crown := { s.crown with trans := .none, clearAwait := [] } }
  if ok then
    let s := if s.on F.CROWN_MODE_SAFE_LATCH then s.record 5 0x00 .safeAcknowledged [who.id, s.rd F.CROWN_MODE_SAFE_CAUSE] else s
    (((s.wrB F.CROWN_MODE_SAFE_LATCH false).setMode .standby).wr F.CROWN_MODE_REQ_RESULT 0).closeFeed.entryStore 3
  else s.wr F.CROWN_MODE_REQ_RESULT 3

/-- The module wakes from dormant STANDBY (R52, R423) for a cause of CLOCK.WAKE: its domains run, the ring is woken and enumerated, the CAN channels that slept integrate (R457). -/
def State.wakeDormant (s : State) (cause : Nat) : State :=
  if s.on F.CROWN_MODE_DORMANT then
    let s := (List.range 4).foldl (fun (s : State) c => if s.on (F.CAN_CFG_SLEEP_EN c) then s.canIntegrate c else s) s
    ((((s.wrB F.CROWN_MODE_DORMANT false).wr F.CLOCK_WAKE_CAUSE cause).bump F.CLOCK_XSTAT_WAKES).raise 0x04 0).startRing
  else s

end Sys2Proof.Machine
end

