-- ==== Sys2Proof/Machine/DispOps.lean ====
section
/-!
DEFINITION. Dispatch as operations (chapter 15): a message's checks, its result and its STATUS, the limiter chain and the ramps.
-/
namespace Sys2Proof.Machine
open Sys2Proof

/-- The key in a slot of the key area (R475). -/
def State.key (s : State) (slot : Nat) : List Byte :=
  match s.nvm.keys.find? (·.1 == slot) with
  | some (_, k) => k
  | none => if slot = 1 then (List.range 32).map fun k => byte (Config.commissioningKey k) else List.replicate 32 0

/-- A tag of n bytes verifies under the key of a slot; an unprovisioned (zero) key verifies nothing (R475). -/
def State.tagOk (s : State) (slot n : Nat) (body t : List Byte) : Bool := (s.key slot).any (· != 0) && t == tag n (s.key slot) body

/-! ## Answers -/

/-- The 20 bytes of a STATUS body (Table 15-2). -/
def State.statusBody (s : State) : List Byte :=
  let flag (b : Bool) (k : Nat) : Nat := if b then 2 ^ k else 0
  let fl := flag (s.on F.ESTIM_STATUS_OCV_REQ) 0 + flag (s.on F.DISP_STATUS_STALE) 1 + flag (s.on F.THERM_STATUS_CHG_OK) 2 + flag (s.on F.THERM_STATUS_DIS_OK) 3
    + flag (s.on F.CROWN_MODE_SAFE_LATCH) 4 + flag (s.on F.ESTIM_STATUS_BLIND) 5 + flag (s.rd F.IMPED_STATUS_STATE != 0) 6
  let tenth (x : Int) : Nat := (roundDiv (x * 10) 65536).toNat
  [byte s.mode.code, byte fl] ++ be 2 (s.rd F.ESTIM_SOC1_SOC_STR) ++ be 2 (tenth (s.rdI F.DISP_ICHG_I_CHG)) ++ be 2 (tenth (s.rdI F.DISP_IDIS_I_DIS))
    ++ be 2 (s.rd (F.ESTIM_PLIM_P_CHG 1)) ++ be 2 (s.rd (F.ESTIM_PLIM_P_DIS 1)) ++ be 2 (s.rd (F.ESTIM_PLIM_P_CHG 2)) ++ be 2 (s.rd (F.ESTIM_PLIM_P_DIS 2))
    ++ be 2 s.disp.ackSeq ++ [byte (s.rd F.DISP_STATUS_RESULT), byte s.disp.detail]

/-- A STATUS message (Table 15-1). -/
def State.statusMessage (s : State) : List Byte :=
  let b := be 2 0x4450 ++ [0x01, 0x80] ++ be 2 (s.rd F.DISP_CFG_UNIT_ADDR) ++ [if s.disp.txSeq == 0 then 1 else 0, 0] ++ be 4 s.disp.txSeq ++ s.timeBytes 0 ++ s.statusBody
  let b := b ++ be 4 (crc32c b)
  b ++ (if s.on F.DISP_CFG_AUTH then tag 16 (s.key 2) b else List.replicate 16 0)

/-- A STATUS sent on a link: only by the unit that holds the claim (R320). -/
def State.sendStatus (s : State) (v : Via) : State :=
  if s.rd F.PAIR_STATUS_ROLE == 0 || s.rd F.PAIR_STATUS_ROLE == 1 then
    let m := s.statusMessage
    let s := { s with disp := { s.disp with txSeq := (s.disp.txSeq + 1) % 2 ^ 32 } }
    match v with
    | .eth p ip udp _ => s.send (.udp p.val ip udp m)
    | .can ch _ => s.canService ch.val (s.rd F.DISP_CANTX_ID_TX) m
  else s

/-- A message processed with a result and DETAIL (R319): counted, shown, answered on its link where it came by one. -/
def State.dispDone (s : State) (v : Option Via) (result detail : Nat) : State :=
  let s := { s.wr F.DISP_STATUS_RESULT result with disp := { s.disp with detail := detail } }
  let s := if result = 0 then (s.bump F.DISP_COUNTS_ACCEPTED).raise 0x34 0 else (s.bump F.DISP_COUNTS_REFUSED).raise 0x34 1
  match v with
  | some v => s.sendStatus v
  | none => s

/-- The source a link is: 1 Ethernet, 2 CAN FD. -/
def viaSource : Via → Nat
  | .eth .. => 1
  | .can .. => 2

/-- The last accepted SEQ of a source, shown for the source in force, and the peer of an accepted Ethernet message. -/
def State.dispSeq (s : State) (v : Via) (seq : Nat) : State :=
  let s := { s with disp := { s.disp with lastSeq := mins (mdel s.disp.lastSeq (viaSource v)) (viaSource v) seq,
                                          peer := match v with | .eth p ip udp _ => some (p.val, ip, udp) | .can .. => s.disp.peer } }
  s.showLastSeq

/-! ## Set-points -/

/-- The set-point kinds by source (Table 15-2), and the range of a value. -/
def State.inRange (s : State) (kind : Nat) (v : Int) : Bool :=
  match kind with
  | 1 => decide (-600000 ≤ v) && decide (v ≤ 600000)
  | 2 => decide (-500000000 ≤ v) && decide (v ≤ 500000000)
  | _ => decide (100000 ≤ v) && decide (v ≤ (s.rd F.LOOP_VBUS_V_BUS_MAX * 100 : Nat))

/-- The result of a set-point (R319): kind against SOURCE, then range. -/
def State.setPointResult (s : State) (kind : Nat) (v : Int) : Nat :=
  if kind != s.rd F.LOOP_CFG_SOURCE + 1 then 1 else if s.inRange kind v then 0 else 2

/-- A set-point accepted (R320, R325): it is the target from the next outer sample on; STALE ends with FRESH. -/
def State.takeSetPoint (s : State) (v : Int) : State :=
  let s := { s with disp := { s.disp with newTarget := some v } }
  if s.on F.DISP_STATUS_STALE then (s.wrB F.DISP_STATUS_STALE false).raise 0x34 3 else s

/-- The result code of a MODE request before it is carried out (R37, R40). -/
def State.modeCode (s : State) (target : Nat) (p : Partners) : Nat :=
  if target = 6 then 0
  else if target = 5 ∨ target > 7 then (if s.mode == .hold then 5 else 1)
  else s.requestResult .dispatch (Mode.ofCode target) false p

/-- What a processed message does, by kind (R319), with its result and DETAIL; an IMP_START is answered once it has been evaluated. A KIND that no row towards the module names is refused with result 1 (DESIGN CHOICE, notes/assumptions/43.md). -/
def State.dispAct (s : State) (v : Option Via) (seq kind : Nat) (value : Int) (p : Partners) : State :=
  match kind with
  | 0x01 | 0x02 | 0x03 =>
    let r := s.setPointResult kind value
    (if r = 0 then s.takeSetPoint value else s).dispDone v r 0
  | 0x10 =>
    let t := (value % 16).toNat
    let r := s.modeCode t p
    (s.modeReqWrite .dispatch t false p).dispDone v (if r = 0 then 0 else 3) r
  | 0x11 => { s with imp := { s.imp with startPending := true }, disp := { s.disp with impWait := s.disp.impWait ++ [v.map fun v => (v, seq)] } }
  | 0x12 => (s.abortRun 1).dispDone v 0 0
  | _ => s.dispDone v 1 0

/-- The evaluation of the IMP_STARTs awaited is known: each one's result (R319). -/
def State.impStartJudged (s : State) (code : Nat) : State :=
  s.disp.impWait.foldl (fun (s : State) w =>
    let s := match w with
      | some (v, seq) => if code = 0 then s.dispSeq v seq else s
      | none => s
    s.dispDone (w.map (·.1)) (if code = 0 then 0 else 3) code) { s with disp := { s.disp with impWait := [] } }

/-! ## Messages -/

/-- A message reaches dispatch (R316): by a port of ETH_EN that runs IP to UDP_PORT, or in an FD frame on the channel and identifier of dispatch, 64 bytes long. -/
def State.dispReaches (s : State) (v : Via) (m : List Byte) : Bool :=
  m.length == 64 && match v with
  | .eth p _ _ dst => s.ipUp p.val && s.bit F.DISP_NET_ETH_EN p.val && dst == s.rd F.DISP_NET_UDP_PORT
  | .can ch id => s.canListens ch.val && s.on (F.CAN_CFG_FD_EN ch.val) && s.rd F.DISP_CAN_CH == ch.val && id == s.rd F.DISP_CANRX_ID_RX

/-- A message is discarded (R318). -/
def State.dispDiscards (s : State) (v : Via) (m : List Byte) : Bool :=
  let unit := beAt m 4 2
  let last := s.disp.lastSeq.find? (·.1 == (viaSource v))
  beAt m 0 2 != 0x4450 || beAt m 2 1 != 1 || beAt m 44 4 != crc32c (m.take 44) || (unit != s.rd F.DISP_CFG_UNIT_ADDR && unit != 0xFFFF)
    || (s.on F.DISP_CFG_AUTH && !s.tagOk 2 16 (m.take 48) (m.drop 48))
    || (match last with
        | some (_, q) => decide (beAt m 8 4 ≤ q) && !(beAt m 6 1).testBit 0
        | none => false)

/-- TIME of a message lies more than AGE_MS before TB0 (R319). -/
def State.tooOld (s : State) (m : List Byte) : Bool :=
  let age := s.rd F.DISP_AGE_AGE_MS
  let t : Int := (beAt m 12 6 * 1000000000 + beAt m 18 4 : Nat)
  age != 0 && decide (t + (age * 1000000 : Nat) < s.tb0)

/-- The kinds of Table 15-2 towards the module. -/
def dispKinds : List Nat := [0x01, 0x02, 0x03, 0x10, 0x11, 0x12]

/-- A message received on a link as the row of a kind (R318 to R320): what is discarded counts whatever its KIND; a sound message whose KIND belongs to another row has no effect here. -/
def State.dispMessage (s : State) (v : Via) (kind : Nat) (m : List Byte) (p : Partners) : State :=
  let k := beAt m 3 1
  if !s.dispReaches v m then s
  else if s.dispDiscards v m then s.bump F.DISP_COUNTS2_DISCARDED
  else if k != kind && dispKinds.elem k then s
  else
    let seq := beAt m 8 4
    let s := { s with disp := { s.disp with ackSeq := seq % 65536 } }
    let value := beIAt m 24 4
    let setPoint := k == 1 || k == 2 || k == 3
    if s.tooOld m then s.dispDone (some v) 4 0
    else if setPoint && s.rd F.DISP_CFG_SRC != viaSource v then s.dispDone (some v) 5 0
    else
      let ok := if setPoint then s.setPointResult k value == 0 else if k == 0x10 then s.modeCode (value % 16).toNat p == 0 else k == 0x12
      (if ok then s.dispSeq v seq else s).dispAct (some v) seq k value p

/-! ## Limiter chain -/

/-- One horizon (R322): a millisecond in which i_cmd exceeded its limit or not; engaged at need milliseconds of the last size, released after size without one. -/
def State.horizonStep (s : State) (k size need : Nat) (above : Bool) : State :=
  let h := mget 0 s.disp.hist k
  let b := if above then 1 else 0
  let out := if h.testBit (size - 1) then 1 else 0
  let n := mget 0 s.disp.count k + b - out
  let s := { s with disp := { s.disp with hist := mset 0 s.disp.hist k ((h * 2 + b) % 2 ^ size), count := mset 0 s.disp.count k n } }
  let on := s.bit F.DISP_STATUS_HORIZON k
  if !on && decide (need ≤ n) then (s.wrBit F.DISP_STATUS_HORIZON k true).raise 0x34 4
  else if on && n == 0 then s.wrBit F.DISP_STATUS_HORIZON k false else s

/-- The four horizons at a millisecond, from i_cmd in sQ15.16 A, 0 while the loop engine forms none. -/
def State.horizons (s : State) : State :=
  let i := if s.on F.LOOP_STATUS_EVAL then s.loop.iCmd else 0
  let beyond (lim : Nat) (x : Int) : Bool := decide (x * 10 > (lim * 65536 : Nat))
  let s := s.horizonStep 0 10000 2000 (beyond (s.rd (F.ESTIM_ILIM_I_CHG 1)) i)
  let s := s.horizonStep 1 60000 10000 (beyond (s.rd (F.ESTIM_ILIM_I_CHG 2)) i)
  let s := s.horizonStep 2 10000 2000 (beyond (s.rd (F.ESTIM_ILIM_I_DIS 1)) (-i))
  s.horizonStep 3 60000 10000 (beyond (s.rd (F.ESTIM_ILIM_I_DIS 2)) (-i))

/-- The limit of a direction in 0.1 A (R321): estimator limits of 2, 10 and 60 s, factor in 1/65536, window (num of band), configured and power limit. -/
def chainLimit (l2 l10 l60 : Nat) (h10 h60 : Bool) (f num band iMax pMax : Nat) : Nat :=
  let l := if h10 then min l2 l10 else l2
  let l := if h60 then min l l60 else l
  min (min (l * f * num / (65536 * band)) iMax) (min pMax 6000)

/-- P_MAX / max(V_string, 100 V) in 0.1 A, rounded down. -/
def State.powerLimit (s : State) : Nat :=
  min 500 (s.rd F.PSTAGE_RATING_RATING_KW) * 10000000 / (max s.meas.vString 100000).toNat

/-- F_d in 1/65536 (R295; 0xFFFF is exactly 1.0), times PROT.CFG.L_FACT and rounded down to the LSB while any class L condition is active (R329). -/
def State.chainFactor (s : State) (factor : Nat) : Nat :=
  let f := if factor = 0xFFFF then 65536 else factor
  if s.on F.PROT_STATUS_L_ACTIVE then f * s.rd F.PROT_CFG_L_FACT / 65536 else f

/-- The limiter chain (R321, R329). -/
def State.limiters (s : State) : State :=
  let band := max 1 (s.rd F.DISP_SOCB_SOC_BAND)
  let wC := min band (s.rd F.DISP_SOCW_SOC_HI - s.rd F.ESTIM_SOC2_SOC_MAX)
  let wD := min band (s.rd F.ESTIM_SOC1_SOC_MIN - s.rd F.DISP_SOCW_SOC_LO)
  let h (k : Nat) : Bool := s.bit F.DISP_STATUS_HORIZON k
  let c := chainLimit (s.rd (F.ESTIM_ILIM_I_CHG 0)) (s.rd (F.ESTIM_ILIM_I_CHG 1)) (s.rd (F.ESTIM_ILIM_I_CHG 2)) (h 0) (h 1)
    (s.chainFactor (s.rd F.THERM_FACT_F_CHG)) wC band (s.rd F.DISP_LIM_I_CHG_MAX) s.powerLimit
  let d := chainLimit (s.rd (F.ESTIM_ILIM_I_DIS 0)) (s.rd (F.ESTIM_ILIM_I_DIS 1)) (s.rd (F.ESTIM_ILIM_I_DIS 2)) (h 2) (h 3)
    (s.chainFactor (s.rd F.THERM_FACT_F_DIS)) wD band (s.rd F.DISP_LIM_I_DIS_MAX) s.powerLimit
  (s.wrI F.DISP_ICHG_I_CHG (tenthToQ c)).wrI F.DISP_IDIS_I_DIS (tenthToQ d)

/-- One millisecond of a set-point's ramp (R324): away from zero by at most up, towards it by at most down, through zero. -/
def rampStep (cur target : Int) (up down : Nat) : Int :=
  if cur = target then cur
  else if 0 ≤ cur ∧ cur < target then min target (cur + up)
  else if cur ≤ 0 ∧ target < cur then max target (cur - up)
  else if 0 < cur then max (max target 0) (cur - down)
  else min (min target 0) (cur + down)

/-- The set-point in force moves (R324): kept in HOLD, 0 outside RUN, ramped for current and power. -/
def State.rampSetPoint (s : State) : State :=
  match s.mode with
  | .hold => s
  | .run =>
    let src := s.rd F.LOOP_STATUS_SOURCE
    let cur := s.rdI F.DISP_SETP_SETP
    let tgt := s.rdI F.DISP_TARGET_TARGET
    if src == 2 then s
    else if src == 1 then s.wrI F.DISP_SETP_SETP (rampStep cur tgt (s.rd F.DISP_RAMPP_P_UP) (s.rd F.DISP_RAMPP_P_DOWN))
    else s.wrI F.DISP_SETP_SETP (rampStep cur tgt (s.rd F.DISP_RAMP_UP) (s.rd F.DISP_RAMP_DOWN))
  | _ => s.wr F.DISP_SETP_SETP 0

end Sys2Proof.Machine
end

