-- ==== Sys2Proof/Machine/DispFam.lean ====
section
/-!
DEFINITION. The meanings of the dispatch commands (chapter 15). A message comes with the link it came by and its 64 bytes; the partners
are those the module would see at a mode request.
-/
namespace Sys2Proof.Machine
open Sys2Proof

/-- CURRENT (R319). -/
def execCurrentMsg (v : Via) (m : List Byte) (s : State) : Host.Outcome State Fault Refusal := .next (s.dispMessage v 0x01 m {})

/-- POWER (R319). -/
def execPowerMsg (v : Via) (m : List Byte) (s : State) : Host.Outcome State Fault Refusal := .next (s.dispMessage v 0x02 m {})

/-- VOLTAGE (R319). -/
def execVoltageMsg (v : Via) (m : List Byte) (s : State) : Host.Outcome State Fault Refusal := .next (s.dispMessage v 0x03 m {})

/-- MODE (R319): handled as CROWN.MODE_REQ, in the non-secure world. -/
def execModeMsg (v : Via) (m : List Byte) (p : Partners) (s : State) : Host.Outcome State Fault Refusal := .next (s.dispMessage v 0x10 m p)

/-- IMP_START (R319): handled as IMPED.CMD.START; answered once R251 has evaluated it. -/
def execImpStart (v : Via) (m : List Byte) (s : State) : Host.Outcome State Fault Refusal := .next (s.dispMessage v 0x11 m {})

/-- IMP_STOP (R319). -/
def execImpStop (v : Via) (m : List Byte) (s : State) : Host.Outcome State Fault Refusal := .next (s.dispMessage v 0x12 m {})

/-- TAKE as an operation (R317): SP_KIND and SP_VALUE as a message with a verified tag; a set-point is refused with 5 unless SRC is 0. -/
def State.dispTake (s : State) (p : Partners) : State :=
  let kind := s.rd F.DISP_SP_KIND_KIND
  if kind ≤ 3 && kind != 0 && s.rd F.DISP_CFG_SRC != 0 then s.dispDone none 5 0
  else s.dispAct none 0 kind (s.rdI F.DISP_SP_VALUE_VALUE) p

/-- TAKE (R317). -/
def execTakeCmd (who : Initiator) (p : Partners) (s : State) : Host.Outcome State Fault Refusal :=
  .next (s.asWrite who A.DISP_CMD fun s => s.dispTake p)

/-- LIMITER_CHAIN (R321 to R324): every 1 ms; its output is held in HOLD. -/
def execLimiterChain (s : State) : Host.Outcome State Fault Refusal :=
  if s.mode == .transport || s.mode == .hold then .next s
  else
    let s := s.horizons.limiters.rampSetPoint
    .next (s.mirror (.dispatch (s.rdI F.DISP_TARGET_TARGET) (s.rdI F.DISP_SETP_SETP) (s.on F.DISP_STATUS_STALE)))

/-- STATUS_PERIOD (R320): a STATUS on the source in force, to the address of the last accepted message. -/
def execStatusPeriod (s : State) : Host.Outcome State Fault Refusal :=
  match s.rd F.DISP_CFG_SRC, s.disp.peer with
  | 1, some (p, ip, udp) => .next (s.sendStatus (.eth (if p = 0 then 0 else 1) ip udp 0))
  | 2, _ => .next (s.sendStatus (.can (Fin.ofNat 4 (s.rd F.DISP_CAN_CH)) 0))
  | _, _ => .next s

/-- STALE (R325): no accepted set-point for T_STALE in RUN. -/
def execStaleTimer (s : State) : Host.Outcome State Fault Refusal :=
  if s.mode == .run && s.rd F.DISP_STALE_T_STALE != 0 && !s.on F.DISP_STATUS_STALE then
    let s := ((s.wrB F.DISP_STATUS_STALE true).bump F.DISP_COUNTS2_STALES).raise 0x34 2
    .next (if s.rd F.LOOP_STATUS_SOURCE == 2 then s else { s.wr F.DISP_TARGET_TARGET 0 with disp := { s.disp with newTarget := none } })
  else .next s

/-- STALE_DROP (R325): T_DROP after STALE, the action of STALE_ACT as if the request had been accepted, by the unit that holds the claim. -/
def execStaleDrop (s : State) : Host.Outcome State Fault Refusal :=
  if s.mode == .run && s.on F.DISP_STATUS_STALE && s.inControl && !s.moving then
    match s.rd F.DISP_CFG_STALE_ACT with
    | 1 => .next (s.raise 0x34 5).restBegin
    | 2 => .next (s.raise 0x34 5).disconnectBegin
    | _ => .next s
  else .next s

end Sys2Proof.Machine
end

