-- ==== Sys2Proof/Machine/Health.lean ====
section
/-!
DEFINITION. The standby's self-test (R360, Table 17-4): one check judged under the second-attempt rule, READY, the health of the engines.
-/
namespace Sys2Proof.Machine
open Sys2Proof

/-- The unit may not send a non-zero claim (R511). -/
def State.claimBarred (s : State) : Bool := s.on F.PAIR_CFG_PAIRED && (s.pair.openStrap || s.pair.sameUnit)

/-- The generation of the next claim (R351): one above the higher of the stored one and that of the partner's last claim; none from 0x7FFF on. -/
def State.nextGen (s : State) : Nat := max (s.rd F.CLAIM_GEN_G) s.pair.partnerGen + 1

/-- READY (R360): able to claim (R349, R351, R511), every HEALTH bit 0, the link up, a valid non-zero partner claim, a loop snapshot of at most two outer periods, no LINK_FAULT, a mirror format that both units accept (R491). -/
def State.readyNow (s : State) : Bool :=
  s.rd F.PAIR_STATUS_ROLE == 2 && !s.claimBarred && !s.pair.noMir && decide (s.nextGen < 0x7FFF) && s.rd F.PAIR_HEALTH_CHECKS == 0 && s.on F.PAIR_STATUS_LINK_UP && s.on F.CLAIM_MON_PRESENT && s.rd F.CLAIM_STATUS_PARTNER != 0
    && s.pair.loop.isSome && decide (s.mono ≤ s.pair.loopAt + 5 * s.rd F.LOOP_CFG_OUTER_DIV * s.rd F.PSTAGE_PERIOD_PER) && !s.on F.CLAIM_MON_LINK_FAULT

/-- READY put to a value, with its event where it changes. -/
def State.setReady (s : State) (b : Bool) : State :=
  if s.on F.PAIR_STATUS_READY == b then s else (s.wrB F.PAIR_STATUS_READY b).raise 0x38 (if b then 3 else 2)

/-- READY follows its conditions. -/
def State.refreshReady (s : State) : State := if s.rd F.PAIR_STATUS_ROLE == 2 then s.setReady s.readyNow else s

/-- The standby's pending checks are voided as it leaves its role (R412). -/
def State.voidHealth (s : State) : State :=
  let n := ((List.range 16).filter fun k => s.bit F.PAIR_HEALTH_PENDING k).length
  if n = 0 then s else (s.wr F.PAIR_HEALTH_PENDING 0).voidCheck n

/-- A check of Table 17-4 evaluated by the standby: pending, transient or lasting; a lasting one clears after 16 passes in a row. -/
def State.healthJudge (s : State) (k : Nat) (fails : Bool) : State :=
  let passes (s : State) (n : Nat) : State := { s with pair := { s.pair with passes := mset 0 s.pair.passes k n } }
  if s.rd F.PAIR_STATUS_ROLE != 2 then s
  else if s.bit F.PAIR_HEALTH_CHECKS k then
    let n := mget 0 s.pair.passes k + 1
    if fails then passes s 0
    else if n ≥ 16 then ((passes s 0).wrBit F.PAIR_HEALTH_CHECKS k false).refreshReady
    else passes s n
  else if s.bit F.PAIR_HEALTH_PENDING k then
    let s := s.wrBit F.PAIR_HEALTH_PENDING k false
    if fails then ((s.wrBit F.PAIR_HEALTH_CHECKS k true).setReady false).lastingW 0x38 .pairHealth [k] else s.retryPass 0x38
  else if fails then s.wrBit F.PAIR_HEALTH_PENDING k true else s

end Sys2Proof.Machine
end

