-- ==== Sys2Proof/Machine/Engines.lean ====
section
/-!
DEFINITION. The branch engines: retirement and return, laggards, SRAM errors (chapter 19), and the meanings of their commands.
-/
namespace Sys2Proof.Machine
open Sys2Proof

/-! ## Engines leave and enter service -/

/-- The counts of SCHED.STATUS. -/
def State.countEngines (s : State) : State :=
  let n := s.serving.length
  let lag := ((List.range 64).filter s.isLaggard).length
  let out := ((List.range 64).filter fun e => s.bit (F.BOUGH_STATUS_RETIRED (e / 8)) (e % 8) || s.bit (F.BOUGH_STATUS_PERMANENT (e / 8)) (e % 8)).length
  ((s.wr F.SCHED_STATUS_IN_SERVICE n).wr F.SCHED_STATUS_LAGGARDS (min lag 63)).wr F.SCHED_STATUS_OUT (min out 63)

/-- The Crown service moves off an engine that left service (R396): to the next engine of B0 in service, else the lowest-numbered in service. -/
def State.moveCrown (s : State) : State :=
  let e := s.rd F.SCHED_STATUS_CROWN_ENG
  if s.inService e then s
  else match ((List.range 8).find? s.inService).orElse fun _ => s.serving.head? with
    | some t => (s.bump F.SCHED_GRAFTS_COUNT).wr F.SCHED_STATUS_CROWN_ENG t
    | none => s

/-- Fewer than 56 engines in service (R409): a lasting fault; relinquish cause 0x02 beside a READY partner, else class S with the SAFE latch. -/
def State.judgeEngines (s : State) : State :=
  if s.rd F.SCHED_STATUS_IN_SERVICE < 56 then
    if s.hasCond .belowMin then s
    else
      let s := ((s.raise 0x10 0).lasting 0x10 (evCode 0x10 .belowMin)).addCond .belowMin .S
      s.relinquishOr 2 fun s => s.react .S 0x10 .belowMin [s.rd F.SCHED_STATUS_IN_SERVICE]
  else s.clearCond .belowMin

/-- Engine e leaves service (R407): its items and its running item are grafted away, its local SRAM is cleared, the laggard mark ends; permanent at once, or at the RETIRE_MAX-th retirement (R408). -/
def State.retire (s : State) (e fail : Nat) (atOnce : Bool) : State :=
  let b := e / 8
  let k := e % 8
  let ids := (s.eng.items.filter fun i => i.owner == e || i.runner == some e).map (·.id)
  let s := (s.bump (F.BOUGH_ENG_C_RETIRES b k)).wr (F.BOUGH_ENG_C_LAST_FAIL b k) fail
  let perm := atOnce || decide (s.rd (F.BOUGH_ENG_C_RETIRES b k) ≥ s.rd F.SCHED_CFG_RETIRE_MAX)
  let s := ((s.wrBit (F.BOUGH_STATUS_IN_SERVICE b) k false).wrBit (F.BOUGH_STATUS_LAGGARD b) k false).wr (F.BOUGH_ENG_8_LAG_RUN b k) 0
  let s := if perm then s.wrBit (F.BOUGH_STATUS_PERMANENT b) k true else s.wrBit (F.BOUGH_STATUS_RETIRED b) k true
  let s := (s.wr (F.BOUGH_ENG_0_STATE b k) (if perm then 3 else 2)).raise (8 + b) 2
  let s := s.lastingW (8 + b) .engineFault [e, fail] s.sameEngine
  let s := { s with eng := { s.eng with run := s.eng.run.filter (·.1 != e) } }.setSram e {}
  (((s.graftAway e ids).countEngines.moveCrown).wakeEngines).judgeEngines

/-- One self-test of engine e with its retest (R407): a pass at the first attempt, a pass at the retest, or retirement. -/
def State.testEngine (s : State) (e : Nat) (first second : Nat) : State :=
  let tests := F.BOUGH_ENG_C_TESTS (e / 8) (e % 8)
  if first = 0 then s.bump tests
  else if second = 0 then (s.bump tests).retryPass (8 + e / 8)
  else s.retire e second false

/-- Engine e enters service with its start or its rejoin. -/
def State.enterService (s : State) (e : Nat) : State :=
  let s := ((s.wrBit (F.BOUGH_STATUS_IN_SERVICE (e / 8)) (e % 8) true).wrBit (F.BOUGH_STATUS_RETIRED (e / 8)) (e % 8) false)
  (s.wr (F.BOUGH_ENG_0_STATE (e / 8) (e % 8)) 0).wr (F.BOUGH_ENG_8_LAG_RUN (e / 8) (e % 8)) 0

/-! ## Commands -/

/-- WORK_ITEM_COMPLETE (R403, R402): the result of engine e's item is committed where the epoch it started with is current, else discarded as stale; the engine takes its next item. -/
def execWorkItemComplete (e : Fin 64) (s : State) : Host.Outcome State Fault Refusal :=
  match s.eng.run.find? (·.1 == e.val) with
  | none => .next s
  | some (_, (id, ep)) =>
    let s := { s with eng := { s.eng with run := s.eng.run.filter (·.1 != e.val) } }
    let s := if s.eng.items.any fun i => i.id == id && i.epoch == ep then
        { s with eng := { s.eng with items := s.eng.items.filter (·.id != id) } }.bump (F.BOUGH_ENG_4_ITEMS (e.val / 8) (e.val % 8))
      else (s.bump F.SCHED_STALE_COUNT).raise 0x10 2
    .next ((s.takeItem e.val).refreshDeques)

/-- ITEM_TIMEOUT (R404): the item is grafted and re-run, ITEM_TMO counted and raised, and the engine tested at once; first and second are the failed test of each attempt, 0 for a pass. -/
def execItemTimeout (e : Fin 64) (first second : Fin 6) (s : State) : Host.Outcome State Fault Refusal :=
  match s.eng.run.find? (·.1 == e.val) with
  | none => .next s
  | some (_, (id, ep)) =>
    if s.eng.items.any fun i => i.id == id && i.epoch == ep then
      let s := s.graft id (s.graftTarget e.val)
      let s := ((s.bump F.SCHED_TMO_ITEM_TMO).bump (F.BOUGH_ENG_8_TIMEOUTS (e.val / 8) (e.val % 8))).raise 0x10 1
      .next ((s.wakeEngines).testEngine e.val first.val second.val)
    else .next s

/-- The rate of an engine in M operations/s from its operations and busy µs of an interval. -/
def rateOf (ops busy : Nat) : Nat := ops / busy

/-- The lower of the two middle values, or the middle one, of a list in rising order. -/
def lowerMedian (l : List Nat) : Nat := ((l.mergeSort (· ≤ ·))[(l.length - 1) / 2]?).getD 0

/-- The rates evaluated in an interval for bough b: engines in service that were busy for at least 1 ms. -/
def State.evaluated (s : State) (rates : List (Nat × Nat × Nat)) (b : Nat) : List (Nat × Nat) :=
  (rates.filter fun (e, _, busy) => e / 8 == b && e < 64 && s.inService e && decide (busy ≥ 1000)).map fun (e, ops, busy) => (e, rateOf ops busy)

/-- The marking of a laggard (R405): items beyond the first of its deque are grafted to the other engines of its bough. -/
def State.markLaggard (s : State) (e : Nat) : State :=
  let s := ((s.wrBit (F.BOUGH_STATUS_LAGGARD (e / 8)) (e % 8) true).wr (F.BOUGH_ENG_0_STATE (e / 8) (e % 8)) 1).raise (8 + e / 8) 0
  let extra := ((s.deque e).drop 1).map (·.id)
  (s.wr (F.BOUGH_ENG_8_LAG_RUN (e / 8) (e % 8)) 0).graftAway e extra

/-- The verdict of one evaluated engine against the bough median (R405). -/
def State.judgeRate (s : State) (median : Nat) (x : Nat × Nat) : State :=
  let (e, r) := x
  let run := F.BOUGH_ENG_8_LAG_RUN (e / 8) (e % 8)
  if s.isLaggard e then
    if r * 100 ≥ 80 * median then
      if s.rd run + 1 ≥ 100 then
        (((s.wrBit (F.BOUGH_STATUS_LAGGARD (e / 8)) (e % 8) false).wr (F.BOUGH_ENG_0_STATE (e / 8) (e % 8)) 0).wr run 0).raise (8 + e / 8) 1
      else s.bump run
    else s.wr run 0
  else if r * 100 < 60 * median then
    if s.rd run + 1 ≥ 100 then s.markLaggard e else s.bump run
  else s.wr run 0

/-- RATE_INTERVAL (R405): the rates of a 10 ms interval, as (engine, operations completed, busy µs). -/
def execRateInterval (rates : List (Nat × Nat × Nat)) (s : State) : Host.Outcome State Fault Refusal :=
  let s := (List.range 8).foldl (fun s b =>
    let ev := s.evaluated rates b
    let s := ev.foldl (fun s (e, r) => s.wr (F.BOUGH_ENG_0_RATE b (e % 8)) (satCount 16 r)) s
    let pool := (ev.filter fun (e, _) => !s.isLaggard e).map (·.2)
    if pool.isEmpty then s
    else
      let m := lowerMedian pool
      let s := s.wr (F.BOUGH_MEDIAN_MEDIAN b) (satCount 16 m)
      if pool.length < 3 then s else ev.foldl (fun s x => s.judgeRate m x) s) s
  .next ((s.countEngines).wakeEngines)

/-- TEST_ROUND (R407): the rolling self-test of engine e, with the failed test of each attempt, 0 for a pass; a standby in RUN judges its engines at the end of each round (Table 17-4 bit 5). -/
def execTestRound (e : Fin 64) (first second : Fin 6) (s : State) : Host.Outcome State Fault Refusal :=
  let s := if s.inService e.val then s.testEngine e.val first.val second.val else s
  .next (if e.val = 63 && s.mode == .run then s.healthJudge 5 (decide (s.serving.length < 56)) else s)

/-- REJOIN_RETEST (R408): a retired, not permanent, engine that passes both attempts of its retest rejoins. -/
def execRejoinRetest (e : Fin 64) (pass : Bool) (s : State) : Host.Outcome State Fault Refusal :=
  if s.engState e.val = 2 && pass then
    let s := ((s.enterService e.val).bump (F.BOUGH_ENG_C_TESTS (e.val / 8) (e.val % 8))).raise (8 + e.val / 8) 3
    .next (((s.countEngines).wakeEngines).judgeEngines)
  else .next s

/-- The second lasting uncorrectable error in bough or crown SRAM since power-on (R397). -/
def State.ueTotal (s : State) : Nat :=
  (List.range 8).foldl (fun n b => n + s.rd (F.BOUGH_ECC_UE b)) (s.rd F.SCHED_CROWN_ECC_UE)

/-- ECC_ERROR (R397): in the SRAM of a place (0 local of engine e, 1 of e's bough, 2 crown) at an address, read by engine e; kind 0 corrected, 1 uncorrectable but correct at the re-read, 2 lasting. -/
def execEccError (place : Fin 3) (e : Fin 64) (addr : BitVec 32) (kind : Fin 3) (s : State) : Host.Outcome State Fault Refusal :=
  let b := e.val / 8
  let page := if place.val = 2 then 0x10 else 8 + b
  match kind.val with
  | 0 => if place.val = 2 then .next (s.bump F.SCHED_CROWN_ECC_CE) else .next ((s.bump (F.BOUGH_ECC_CE b)).raise (8 + b) 4)
  | 1 => .next (s.retryPass page)
  | _ =>
    if place.val = 0 then .next (if s.inService e.val then s.retire e.val 5 true else s)
    else
      let s := match s.eng.run.find? (·.1 == e.val) with
        | some (_, (id, _)) => ({ s with eng := { s.eng with run := s.eng.run.filter (·.1 != e.val), items := s.eng.items.filter (·.id != id) } }.takeItem e.val).refreshDeques
        | none => s
      let s := if place.val = 2 then (s.bump F.SCHED_CROWN_ECC_UE).raise 0x10 3 else (s.bump (F.BOUGH_ECC_UE b)).raise (8 + b) 5
      let s := (s.lasting page (evCode page .eccUe))
      if Nat.ble 2 s.ueTotal then .next ((s.record 6 page .eccUe [addr.toNat]).relinquishOr 3 fun s => (s.noteSH page .eccUe).startSrd 7 true page .eccUe)
      else .next (s.record 6 page .eccUe [addr.toNat])

/-- RSEL (R401): a session selects a stream ring; its cursor moves to the oldest entry present. -/
def execRselWrite (who : Initiator) (ring : Fin 32) (s : State) : Host.Outcome State Fault Refusal :=
  .next (s.asWrite who A.QREAD_RSEL fun s => s.selectRing who.id ring.val)

/-- ROFS (R401): a session sets the first entry word its window shows. -/
def execRofsWrite (who : Initiator) (ofs : BitVec 16) (s : State) : Host.Outcome State Fault Refusal :=
  .next (s.asWrite who A.QREAD_ROFS fun s => s.wr (F.QREAD_ROFS_OFS.bank who.id) ofs.toNat)

/-- RPOP (R401): a session's cursor advances by one entry. -/
def execRpopWrite (who : Initiator) (s : State) : Host.Outcome State Fault Refusal :=
  .next (s.asWrite who A.QREAD_RPOP fun s => s.popEntry who.id)

end Sys2Proof.Machine
end

