-- ==== Sys2Proof/Machine/HarvestOps.lean ====
section
/-!
DEFINITION. Harvests as operations: the kind of the next slot (R140), SYNC launch (R139, R141), frames (R145 to R147), the record (R149,
R150) and what takes its values (R151), UNSUSPENDED (R172) and the period of T harvests (R143).
-/
namespace Sys2Proof.Machine
open Sys2Proof

/-- A time base some nanoseconds later. -/
def TimeBase.addNs (t : TimeBase) (n : Nat) : TimeBase := { t with sec := t.sec + (t.ns + n) / 1000000000, ns := (t.ns + n) % 1000000000 }

/-- The ring carries harvests: INTACT or BROKEN (R142); the standby builds its records from the frames it forwards (R150, R359). -/
def State.ringUsable (s : State) : Bool := s.rd F.RING_STATUS_STATE == 3 || s.rd F.RING_STATUS_STATE == 4 || s.rd F.PAIR_STATUS_ROLE == 2

/-- Slots are formed: the start is complete, not in TRANSPORT, not dormant (R140). -/
def State.slotsRun (s : State) : Bool := s.crown.phase == .complete && s.mode != .transport && !s.on F.CROWN_MODE_DORMANT

/-- The slot that follows `since` slots after the last regular coarse one is the early one of a failed C1 or C2 (R154): the first at which slot period × C_EVERY would be 1 ms. -/
def State.earlySlot (s : State) (since : Nat) : Bool := s.harv.early && decide ((since + 1) * s.slotClocks ≥ 400000)

/-- The kind of the slot that follows `since` slots after the last regular coarse one (R140, R154), none where it carries no harvest. -/
def State.kindAfter (s : State) (since : Nat) (oneV oneC : Bool) : Option Nat :=
  let m := s.effMode
  let early := s.earlySlot since
  let v := oneV || early || (s.on F.HARVEST_CFG_V_EN && m != .standby && m != .service)
  let c := oneC || early || (s.on F.HARVEST_CFG_C_EN && m != .service && decide (since + 1 ≥ s.rd F.HARVEST_CFG_C_EVERY))
  if !s.slotsRun then none
  else match v, c with
    | true, true => some 3
    | true, false => some 0
    | false, true => some 1
    | false, false => none

/-- The kind of the next slot. -/
def State.slotKind (s : State) : Option Nat := s.kindAfter s.harv.since s.harv.oneV s.harv.oneC

/-- The tag character of a SYNC (R112): DIR, KIND, SEQ. -/
def syncTag (dir kind seq : Nat) : Nat := dir * 128 + kind * 16 + seq

/-- A SYNC launched from both ports: the next harvest sequence number modulo 16 (R139, R112), DIR 0 from the down port; the standby only counts it (R114). -/
def State.launchSync (s : State) (kind : Nat) : State :=
  let q := (s.harv.seq + 1) % 16
  let s := { s with harv := { s.harv with seq := q } }
  if s.rd F.PAIR_STATUS_ROLE == 2 then s
  else (s.send (.sync s.downPort (syncTag 0 kind q))).send (.sync (1 - s.downPort) (syncTag 1 kind q))

/-- A run holds, here or in the partner (R263): the records carry IMPED (R252). -/
def State.inRun (s : State) : Bool := let st := s.rd F.IMPED_STATUS_STATE; st != 0

/-- Slots from a slot on until the next that carries an aligned harvest, none within 256. -/
def State.slotsAhead (s : State) : Option Nat :=
  (List.range 256).findSome? fun k => if (s.kindAfter (s.harv.since + k) (k == 0 && s.harv.oneV) (k == 0 && s.harv.oneC)).isSome then some (k + 1) else none

/-- The phase-0 boundaries from a launch to its aperture, C ns later (R140, R150). An aligned launch lies C − `lag` before a target POINT after its slot's boundary; a T launch lies anywhere in its period. -/
def State.periodsAhead (s : State) (kind c lag : Nat) : Nat :=
  let p := max (5 * s.rd F.PSTAGE_PERIOD_PER) 1
  if kind = 2 then (2 * (s.mono + c - s.pwm.p0At)) / p
  else (2 * (c - lag) - 5 * s.rd F.HARVEST_POINT_POINT + p - 1) / p

/-- A harvest launched (R141): the aperture lies C after the launch and `lag` ns after the target, its own samples are the readings. -/
def State.launchHarvest (s : State) (kind lag : Nat) (r : Readings) : State :=
  let s := s.launchSync kind
  let c := s.rd F.RING_TIME_APERTURE_C
  let t := (s.timeBase 0).addNs c
  let cap : Capture := { hseq := s.harv.hseq, seq := s.harv.seq, kind := kind, sec := t.sec, ns := t.ns, frac := t.frac, at3 := s.mono + c,
                         period := (s.pwm.p0 + s.periodsAhead kind c lag) % 2 ^ 32, target := s.mono + c - lag, noNext := s.slotsAhead.isNone,
                         vStr := r.vString, vBus := r.vPlant, iStr := r.iString, broken := s.rd F.RING_STATUS_STATE == 4, imped := s.inRun }
  { s with harv := { s.harv with hseq := (s.harv.hseq + 1) % 2 ^ 32, captures := s.harv.captures ++ [cap] } }

/-- A T harvest launched where one is due or requested and the ring is usable (R143, R159). -/
def State.launchT (s : State) (r : Readings) : State :=
  if s.slotsRun && s.ringUsable then { s with harv := { s.harv with tDue := false, oneT := false } }.launchHarvest 2 0 r else s

/-- A missed slot or an empty harvest counted (R142, R149); within an impedance run it discards the window (R254). -/
def State.missSlot (s : State) : State :=
  let s := (s.bump F.HARVEST_STAT_MISSED).raise 0x19 2
  if s.inRun then { s with imp := { s.imp with bad := true } } else s

/-- The harvest in progress whose SYNC carried a KIND and a SEQ. -/
def State.capture (s : State) (kind seq : Nat) : Option Capture := s.harv.captures.find? fun c => c.kind == kind && c.seq == seq

/-- A frame's CMD belongs to a harvest of a kind (Table 6-1). -/
def frameFits (kind cmd : Nat) : Bool := if kind = 2 then cmd == 0x82 else (cmd == 0x80 && kind != 1) || (cmd == 0x81 && kind != 0)

/-- The harvest in progress that a data frame belongs to (R145): by SEQ and CMD, and in a valid frame by the KIND of the tag it copies. -/
def State.captureOf (s : State) (cmd seq : Nat) (tag : Option Nat) : Option Capture :=
  s.harv.captures.find? fun c => c.seq == seq && frameFits c.kind cmd && tag.all fun t => t / 16 % 8 == c.kind

/-- A harvest in progress replaced. -/
def State.setCapture (s : State) (c : Capture) : State :=
  { s with harv := { s.harv with captures := s.harv.captures.map fun x => if x.kind = c.kind ∧ x.seq = c.seq then c else x } }

/-- The frames of a kind that node n is to deliver, as keys of Capture.got. -/
def frameKeys (kind n : Nat) : List Nat :=
  match kind with
  | 1 => [2 * n + 1]
  | 3 => [2 * n, 2 * n + 1]
  | _ => [2 * n]

/-- A node has delivered every frame of a harvest. -/
def Capture.has (c : Capture) (n : Nat) : Bool := (frameKeys c.kind n).all fun k => c.got.any (·.1 == k)

/-- The configured nodes that have not delivered. -/
def State.missing (s : State) (c : Capture) : List Nat := s.nodes.filter fun n => !c.has n

/-- The ports of a lasting fault of node n's frames, port A in bit 0, port B in bit 1: those whose copy failed, both where none came (DESIGN CHOICE, notes/assumptions/85.md). -/
def failedPorts (failed : List (Nat × Nat)) (n : Nat) : Nat :=
  let m := (failed.filter fun x => x.1 / 2 == n).foldl (fun a x => a ||| 2 ^ x.2) 0
  if m = 0 then 3 else m

/-- A lasting ring CRC fault (R130): CRC_LASTING, LASTING, and its record with node and ports. -/
def State.crcLasting (s : State) (node ports : Nat) : State := (s.raise 0x18 6).lastingW 0x18 .ringCrc [node, ports]

/-- The value count a node's frame is to carry (R147): CELLS, or its temperature channels and the board entry. -/
def State.wantCount (s : State) (kind n : Nat) : Nat := if kind = 2 then s.rd (F.NODE_NCFG_TCH n) + 1 else s.cellsOf n

/-- A frame with a valid CRC and count taken in (R145): its FLAGS, a second attempt that passes. -/
def State.takeFrame (s : State) (c : Capture) (n key : Nat) (p : List Byte) : State :=
  let fl := beAt p 1 1
  let s := (s.wrB (F.NODE_NSTAT_UNSUSPENDED n) (fl / 2 % 2 == 1)).wrB (F.NODE_NSTAT_COUNT_ERR n) false
  let retry := c.failed.any (·.1 == key) || c.asked.contains n
  let s := if retry then s.retryPass 0x18 else s
  s.setCapture { c with got := c.got ++ [(key, p)], failed := c.failed.filter (·.1 != key), resent := c.resent || c.asked.contains n }

/-- A copy that fails (R130, R147): the other direction's copy is the second attempt, or the answer to a RESEND was; a second failure is lasting. -/
def State.frameFails (s : State) (c : Capture) (n key port : Nat) : State :=
  let failed := c.failed ++ [(key, port)]
  if c.failed.any (·.1 == key) || c.asked.contains n then (s.setCapture { c with failed := c.failed.filter (·.1 != key) }).crcLasting n (failedPorts failed n)
  else s.setCapture { c with failed := failed }

/-- The data deadline of a kind in ns after the aperture (R148). -/
def dataDeadline (kind : Nat) : Nat := if kind = 0 then 160000 else if kind = 2 then 5000000 else 220000

/-- TB3 ns of the aperture target of the next slot that carries an aligned harvest, none where no slot does (R140, R142): a harvest already launched for it, or the slot found from the slot count and the periods since the last phase-0 boundary. -/
def State.nextTarget (s : State) (c : Capture) : Option Nat :=
  match s.harv.captures.find? fun x => x.kind != 2 && decide (x.target > c.target) with
  | some x => some x.target
  | none =>
    let first := s.pwm.p0At + ((s.rd F.HARVEST_CFG_DIV - s.harv.slotP) * s.rd F.PSTAGE_PERIOD_PER + s.rd F.HARVEST_POINT_POINT) * 5 / 2
    let launched := decide (s.mono + s.rd F.RING_TIME_APERTURE_C ≥ first)
    s.slotsAhead.map fun k => first + (if launched then k else k - 1) * s.slotClocks * 5 / 2

/-- The close time, TB3 ns (R148): 50 ms after the aperture, or 10 µs before the next aligned target where that comes first and a slot was scheduled at the aperture. -/
def State.closeAt (s : State) (c : Capture) : Nat :=
  let last := c.at3 + 50000000
  if c.kind = 2 || c.noNext then last
  else match s.nextTarget c with
    | none => last
    | some t => min last (t - 10000)

/-! ## The record -/

/-- Value i of a frame, 16 bits, from an offset. -/
def frameVal (p : Option (List Byte)) (off i dflt : Nat) : Nat :=
  match p with
  | some b => if off + 2 * i + 2 ≤ b.length then beAt b (off + 2 * i) 2 else dflt
  | none => dflt

/-- The frame of a key. -/
def Capture.frame (c : Capture) (key : Nat) : Option (List Byte) := (c.got.find? (·.1 == key)).map (·.2)

/-- The nine temperature entries of a node (Table 6-2, R145): TCH channels, then entry 8; the others without data. -/
def State.tempVals (s : State) (c : Capture) (n : Nat) : List Nat :=
  let p := c.frame (2 * n)
  let tch := s.rd (F.NODE_NCFG_TCH n)
  (List.range 9).map fun j => if j < tch then frameVal p 4 j 0x8000 else if j = 8 then frameVal p 4 tch 0x8000 else 0x8000

/-- The values of a node's block (Table 6-4). -/
def State.blockVals (s : State) (c : Capture) (n : Nat) : List Nat :=
  let cells := List.range (s.cellsOf n)
  let vp := cells.map fun i => frameVal (c.frame (2 * n)) 4 i 0xFFFF
  let co := frameVal (c.frame (2 * n + 1)) 4 0 0xFFFF :: cells.map fun i => frameVal (c.frame (2 * n + 1)) 6 i 0xFFFF
  match c.kind with
  | 0 => vp
  | 1 => co
  | 2 => s.tempVals c n
  | _ => vp ++ co

/-- FLAGS of a node's frame (Table 6-2). -/
def Capture.flags (c : Capture) (n : Nat) : Nat := (frameKeys c.kind n).foldl (fun a k => a ||| (c.frame k).elim 0 fun p => beAt p 1 1) 0

/-- A node's block of the record, padded with 0xFFFF to a multiple of four bytes. -/
def State.block (s : State) (c : Capture) (n : Nat) : List Byte :=
  let b := [byte n, byte (c.flags n), byte (if c.kind = 2 then 9 else s.cellsOf n), 0] ++ (s.blockVals c n).flatMap (le 2)
  if b.length % 4 = 2 then b ++ [255, 255] else b

/-- The digest of a record (Table 17-3): mirrored by the active unit, kept by the standby for its self-test. -/
def State.digest (s : State) (c : Capture) : State :=
  let crc := crc32c (s.nodes.flatMap fun n => s.block c n)
  let s := { s with pair := { s.pair with digests := ((c.hseq, crc) :: s.pair.digests).take 16 } }
  s.mirror (.digest c.hseq crc)

/-- The bytes of the harvest record (Table 6-4). -/
def State.recordBytes (s : State) (c : Capture) : List Byte :=
  let miss := s.missing c
  let unsusp := s.nodes.any fun n => c.flags n / 2 % 2 == 1
  let bit (b : Bool) (k : Nat) : Nat := if b then 2 ^ k else 0
  let fl := bit (!miss.isEmpty) 0 + bit c.broken 1 + bit unsusp 2 + bit c.resent 3 + bit c.imped 4
  let blocks := s.nodes.flatMap fun n => s.block c n
  le 4 c.hseq ++ [byte c.kind, byte fl, byte (if c.broken then s.rd F.RING_STATUS_BREAK_LO else 0x3F), byte (if c.broken then s.rd F.RING_STATUS_BREAK_HI else 0x3F)]
    ++ le 2 (c.frac / 2 ^ 32) ++ le 4 c.ns ++ le 6 c.sec ++ le 4 (miss.foldl (fun a n => a + 2 ^ n) 0) ++ le 4 c.period
    ++ leI 4 c.vStr ++ leI 4 c.vBus ++ leI 4 c.iStr ++ le 2 s.nodes.length ++ le 2 (48 + blocks.length) ++ le 4 0 ++ blocks

/-- The record as the services read it. -/
def State.record6 (s : State) (c : Capture) (ring eseq : Nat) : Record :=
  let cells (f : Nat → Nat → Nat) : List Nat := s.nodes.flatMap fun n => (List.range (s.cellsOf n)).map (f n)
  { ring := ring, eseq := eseq, hseq := c.hseq, kind := c.kind,
    vp := if c.kind = 0 || c.kind = 3 then cells fun n i => frameVal (c.frame (2 * n)) 4 i 0xFFFF else [],
    vc := if c.kind = 1 || c.kind = 3 then cells fun n i => frameVal (c.frame (2 * n + 1)) 6 i 0xFFFF else [],
    vs := if c.kind = 1 || c.kind = 3 then s.nodes.map fun n => frameVal (c.frame (2 * n + 1)) 4 0 0xFFFF else [],
    missing := (s.missing c).foldl (fun a n => a + 2 ^ n) 0, period := c.period, sec := c.sec, ns := c.ns, frac := c.frac, broken := c.broken, ms := c.sec * 1000 + c.ns / 1000000, at3 := c.at3, vStr := c.vStr, iStr := c.iStr }

/-- CELLV takes the values a V, C or VC record carries, unless frozen (R151). -/
def State.showCells (s : State) (r : Record) (c : Capture) : State :=
  if s.on F.CELLV_SNAP_FREEZE then s
  else
    let s := (r.vp.zipIdx).foldl (fun s (v, i) => s.wr (pairFld F.CELLV_V_CELL_LO F.CELLV_V_CELL_HI i) v) s
    let s := (r.vs.zipIdx).foldl (fun s (v, i) => s.wr (pairFld F.CELLV_STACK_NODE_LO F.CELLV_STACK_NODE_HI i) v) s
    let s := (((s.wrI F.CELLV_STRING_V_STRING c.vStr).wrI F.CELLV_BUS_V_BUS c.vBus).wrI F.CELLV_CURRENT_I_STRING c.iStr).wr F.CELLV_SEQ_HSEQ c.hseq
    s.raise 0x1A 0

/-- The latest values the services use, and when each cell last had a valid code (R284). -/
def State.keepRecord (s : State) (r : Record) : State :=
  let seen := (List.range (max r.vp.length r.vc.length)).filter fun i => codeValid ((r.vp[i]?).getD 0xFFFF) || codeValid ((r.vc[i]?).getD 0xFFFF)
  let h := { s.harv with vp := if r.vp.isEmpty then s.harv.vp else r.vp, vc := if r.vc.isEmpty then s.harv.vc else r.vc,
                         vs := if r.vs.isEmpty then s.harv.vs else r.vs, vAt := if r.vp.isEmpty then s.harv.vAt else r.at3, vI := if r.vp.isEmpty then s.harv.vI else r.iStr,
                         tAt := if r.kind = 2 then some r.at3 else s.harv.tAt,
                         seenAt := seen.foldl (fun m i => mset 0 m i r.at3) s.harv.seenAt }
  { s with harv := h }

/-- A node that reports UNSUSPENDED (R172): pending at the first aligned record; at the second lasting: STOP_ALL to the node, NFAULT, NODE_FAULT. -/
def State.judgeSuspension (s : State) (c : Capture) : State :=
  s.nodes.foldl (fun s n =>
    if !c.got.any (·.1 / 2 == n) then s
    else
      let first := s.bal.unsusp.testBit n
      if c.flags n / 2 % 2 == 1 then
        if s.bit F.BAL_NFAULT_NODES n then s
        else if first then
          let s := { s with bal := { s.bal with unsusp := s.bal.unsusp - 2 ^ n } }.ringCmd n 0x10 (s.balHeader true)
          ((s.wrBit F.BAL_NFAULT_NODES n true).raise 0x1D 2).lastingW 0x1D .balStop [n] s.sameEngine
        else { s with bal := { s.bal with unsusp := s.bal.unsusp ||| 2 ^ n } }
      else if first then { s with bal := { s.bal with unsusp := s.bal.unsusp - 2 ^ n } }.retryPass 0x1D
      else s) s

/-- The cell temperature limits of THERM and PROT in °C (R143). -/
def State.cellLimits (s : State) : List Int :=
  [s.rdI F.THERM_WIN_CHG_LO, s.rdI F.THERM_WIN_CHG_HI, s.rdI F.THERM_WIN_DIS_LO, s.rdI F.THERM_WIN_DIS_HI, s.rdI F.PROT_CELLT_CELL_OT, s.rdI F.PROT_CELLT_CELL_UT]

/-- The period of T harvests after a T record (R143): T_FAST with a cell sensor within NEAR_K of a limit, T_NORM after ten harvests beyond NEAR_K + 2 K. -/
def State.judgePeriod (s : State) : State :=
  let near : Int := s.rd F.HARVEST_TCFG_NEAR_K
  let all := s.nodes.flatMap s.sensors
  let within (k : Int) : Bool := all.any fun t => s.cellLimits.any fun l => decide ((t - 10 * l).natAbs ≤ (10 * k).natAbs)
  if within near then
    let s := if s.on F.HARVEST_STATUS_FAST_T then s else (s.wrB F.HARVEST_STATUS_FAST_T true).raise 0x19 3
    { s with harv := { s.harv with farRun := 0 } }
  else if s.on F.HARVEST_STATUS_FAST_T then
    if within (near + 2) then { s with harv := { s.harv with farRun := 0 } }
    else if s.harv.farRun + 1 ≥ 10 then { s.wrB F.HARVEST_STATUS_FAST_T false with harv := { s.harv with farRun := 0 } }
    else { s with harv := { s.harv with farRun := s.harv.farRun + 1 } }
  else s

/-- The temperature entries of a T record (Table 6-8); a cell sensor above T_CELL_MAX calls for a new plan (Table 7-3). -/
def State.takeTemps (s : State) (c : Capture) : State :=
  let hot (s : State) (n : Nat) : Bool := (s.sensors n).any fun t => decide (t > (s.rd F.BAL_LIMITS_T_CELL_MAX : Int) * 10)
  let before := s.nodes.filter (hot s)
  let s := s.nodes.foldl (fun s n => ((s.tempVals c n).zipIdx).foldl (fun s (v, j) =>
    s.wr (pairFld F.NODE_TEMP_ENTRY_LO F.NODE_TEMP_ENTRY_HI (9 * n + j)) v) s) s
  let s := s.judgePeriod
  if s.nodes.any fun n => hot s n && !before.contains n then s.replan else s

end Sys2Proof.Machine
end

