-- ==== Sys2Proof/Machine/HarvestFam.lean ====
section
/-!
DEFINITION. The meanings of the harvest commands (chapter 6): slots, frames, closing, temperature harvests, plausibility, the fault loop.
-/
namespace Sys2Proof.Machine
open Sys2Proof

/-! ## Slots and launches -/

/-- The coarse count goes on by a slot (R140): it restarts at the C_EVERY-th slot, and at the early slot of R154; a ONESHOT C leaves it alone. -/
def State.countSlot (s : State) : State :=
  let early := s.earlySlot s.harv.since
  let restart := early || decide (s.harv.since + 1 ≥ s.rd F.HARVEST_CFG_C_EVERY)
  { s with harv := { s.harv with since := if restart then 0 else s.harv.since + 1, early := s.harv.early && !early } }

/-- HARVEST_SLOT (R140 to R142): a slot's launch falls due, `lag` ns from its aperture target to t0 + C; a slot that carries no harvest only counts, one without a usable ring or with a moved C is missed. -/
def execHarvestSlot (r : Readings) (lag : Fin 40) (moved : Bool) (s : State) : Host.Outcome State Fault Refusal :=
  if !s.slotsRun then .next s
  else
    let s := s.wrB F.HARVEST_STATUS_RUNNING true
    match s.slotKind with
    | none => .next s.countSlot
    | some k =>
      let s := s.countSlot
      if !s.ringUsable || moved then .next s.missSlot
      else .next ({ s with harv := { s.harv with oneV := false, oneC := false } }.launchHarvest k lag.val r)

/-- PAUSE_LAUNCH (R144): 52 µs before an aligned harvest's SYNC its PAUSE SYNC is launched. -/
def execPauseLaunch (s : State) : Host.Outcome State Fault Refusal :=
  if s.slotKind.isSome && s.ringUsable then .next (s.launchSync 7) else .next s

/-- HARVEST_DATA (R145 to R147, R130): a node's frame (CMD 0x80 to 0x82) of the harvest with a SEQ arrives at a port, with or without a valid CRC; the first valid copy is collected, one with a wrong COUNT counts as a CRC failure. -/
def execHarvestData (n : Fin 32) (cmd : BitVec 8) (seq : Fin 16) (port : Fin 2) (crcOk : Bool) (payload : List Byte) (s : State) : Host.Outcome State Fault Refusal :=
  let s := if crcOk then s else s.bump (if port.val = 0 then F.RING_ERRA_CRC_ERR else ⟨A.RING_ERRB, 0, 16⟩)
  match s.captureOf cmd.toNat seq.val (if crcOk then some (beAt payload 0 1) else none) with
  | none => .next s
  | some c =>
    let key := 2 * n.val + (if cmd = 0x81 then 1 else 0)
    if !s.nodes.contains n.val || s.ringSt.foreign.testBit n.val || c.got.any (fun x => x.1 == key) then .next s
    else if !crcOk then .next (s.frameFails c n.val key port.val)
    else if beAt payload 2 1 ≠ s.wantCount c.kind n.val then
      .next (((s.wrB (F.NODE_NSTAT_COUNT_ERR n.val) true).raise 0x1B 4).frameFails c n.val key port.val)
    else .next (s.takeFrame c n.val key payload)

/-- HARVEST_DATA_DEADLINE (R148): one RESEND to each node whose frame is missing, where the close time lies at least 30 µs later; a failed copy that can have no RESEND is a lasting fault. -/
def execHarvestDataDeadline (tag : HarvestTag) (s : State) : Host.Outcome State Fault Refusal :=
  match s.capture tag.kind.val tag.seq.val with
  | none => .next s
  | some c =>
    let late := (s.missing c).filter fun n => !s.ringSt.foreign.testBit n
    if s.closeAt c ≥ c.at3 + dataDeadline c.kind + 30000 then
      let s := s.setCapture { c with asked := c.asked ++ late.filter fun n => !c.asked.contains n }
      .next ((late.filter fun n => !c.asked.contains n).foldl (fun s n => s.ringCmd n 0x06 [byte c.seq]) s)
    else
      let bad := late.filter fun n => c.failed.any (·.1 / 2 == n)
      .next (bad.foldl (fun s n => s.crcLasting n (failedPorts c.failed n)) (s.setCapture { c with failed := [] }))

/-- HARVEST_CLOSE (R149 to R151): the record is built, pushed and shown; a harvest with no node data counts as missed. -/
def execHarvestClose (tag : HarvestTag) (s : State) : Host.Outcome State Fault Refusal :=
  match s.capture tag.kind.val tag.seq.val with
  | none => .next s
  | some c =>
    let miss := s.missing c
    let lost := miss.filter fun n => c.asked.contains n || c.failed.any (·.1 / 2 == n)
    let s := lost.foldl (fun s n => s.crcLasting n (failedPorts c.failed n)) s
    let s := s.nodes.foldl (fun s n => s.wrB (F.NODE_NSTAT_MISSING n) (miss.contains n)) s
    let bytes := s.recordBytes c
    let s := { s with harv := { s.harv with captures := s.harv.captures.filter fun x => !(x.kind == c.kind && x.seq == c.seq) } }
    if c.got.isEmpty then .next s.missSlot
    else
      let q := if c.kind = 0 || c.kind = 2 then 96 else 97
      let eseq := (s.ring q).next
      let r := s.record6 c q eseq
      let (s, taken) := (s.digest c).push q bytes false
      let s := ((s.wr F.HARVEST_STATUS_LAST_KIND c.kind).wrB F.HARVEST_STATUS_PARTIAL (!miss.isEmpty)).wr F.HARVEST_SEQ_HSEQ c.hseq
      let s := s.wr F.HARVEST_APER_NS c.ns
      let s := if miss.isEmpty then (if c.resent then s.bump F.HARVEST_STAT2_RESENT else s) else (s.bump F.HARVEST_STAT_PARTIAL_CNT).raise 0x19 1
      let s := if s.nodes.any fun n => c.flags n / 2 % 2 == 1 then s.raise 0x19 4 else s
      let s := if taken then { s.raise 0x19 0 with harv := { s.harv with checks := s.harv.checks ++ [r] } }
        else { (s.bump F.HARVEST_STAT2_DROPPED).raise 0x19 5 with imp := { s.imp with bad := s.imp.bad || (c.imped && c.kind != 2) } }
      let s := { s with harv := { (s.keepRecord r).harv with checks := s.harv.checks } }
      let s := if taken && c.imped && (c.kind == 0 || c.kind == 3) then { s with imp := { s.imp with recs := s.imp.recs ++ [{ r := r, unsusp := s.nodes.filter fun n => c.flags n / 2 % 2 == 1, done := [] }] } } else s
      if c.kind = 2 then .next (s.takeTemps c) else .next ((s.showCells r c).judgeSuspension c)

/-! ## Temperature harvests and requests -/

/-- T_HARVEST_DUE (R143): a T harvest falls due, in every mode in which harvests run by themselves. -/
def execTHarvestDue (s : State) : Host.Outcome State Fault Refusal :=
  if s.slotsRun && s.mode != .service then .next { s with harv := { s.harv with tDue := true } } else .next s

/-- T_HARVEST_LAUNCH (R143): the T SYNC of a due harvest at its midpoint or spaced instant, or of a requested one that waits for the ring. -/
def execTHarvestLaunch (r : Readings) (s : State) : Host.Outcome State Fault Refusal := if s.harv.tDue || s.harv.oneT then .next (s.launchT r) else .next s

/-- A ONESHOT of HARVEST.CMD (Table 6-6): refused in TRANSPORT, held before step 10 of a start; T is launched at once. An aligned harvest before its aperture then has a next slot (R148). -/
def State.oneshot (s : State) (bits : Nat) (r : Readings) : State :=
  if s.mode == .transport then s
  else
    let s := { s with harv := { s.harv with oneV := s.harv.oneV || bits.testBit 0, oneC := s.harv.oneC || bits.testBit 1, oneT := s.harv.oneT || bits.testBit 2,
                                            captures := if bits % 4 = 0 then s.harv.captures else s.harv.captures.map fun c => if c.at3 > s.mono then { c with noNext := false } else c } }
    if bits.testBit 2 then s.launchT r else s

/-- ONESHOT_V (R140): HARVEST.CMD.ONESHOT V takes the next slot as V, or as VC where it carries a coarse harvest. -/
def execOneshotV (who : Initiator) (s : State) : Host.Outcome State Fault Refusal := .next (s.asWrite who A.HARVEST_CMD fun s => s.oneshot 1 s.meas)

/-- ONESHOT_C (R140): HARVEST.CMD.ONESHOT C adds a coarse harvest to the next slot. -/
def execOneshotC (who : Initiator) (s : State) : Host.Outcome State Fault Refusal := .next (s.asWrite who A.HARVEST_CMD fun s => s.oneshot 2 s.meas)

/-- ONESHOT_T (R159): HARVEST.CMD.ONESHOT T launches a T harvest at once, with the readings at its aperture. -/
def execOneshotT (who : Initiator) (r : Readings) (s : State) : Host.Outcome State Fault Refusal := .next (s.asWrite who A.HARVEST_CMD fun s => s.oneshot 4 r)

/-- CELLV.SNAP.FREEZE written (R151). -/
def State.freezeCells (s : State) (b : Bool) : State := s.wrB F.CELLV_SNAP_FREEZE b

/-- FREEZE (R151): CELLV.SNAP.FREEZE holds or releases every CELLV value. -/
def execFreezeCmd (who : Initiator) (b : Bool) (s : State) : Host.Outcome State Fault Refusal := .next (s.asWrite who A.CELLV_SNAP fun s => s.freezeCells b)

/-- FREEZE_EXPIRY (R151): 1 s after it was set, the module clears FREEZE. -/
def execFreezeExpiry (s : State) : Host.Outcome State Fault Refusal := .next (s.freezeCells false)

/-! ## Plausibility -/

/-- e_p of a string cell in 0.1 mV (Table 6-5): 2.0 mV where its node board reads outside −20 to +65 °C. -/
def State.precErr (s : State) (c : Nat) : Int :=
  let t := s.tempEntry (s.cellNode c).1 8
  if tempValid t && (decide (t < -200) || decide (t > 650)) then 20 else 8

/-- A sum of integers. -/
def isum (l : List Int) : Int := l.foldl (· + ·) 0

/-- One evaluation of a check: index, whether it passes, signed difference as LAST shows it. -/
abbrev Eval := Nat × Bool × Int

/-- C1 of every cell with both codes valid (Table 6-5), in 0.1 mV. -/
def State.evalC1 (s : State) (r : Record) : List Eval :=
  ((r.vp.zip r.vc).zipIdx.filter fun ((a, b), _) => codeValid a && codeValid b).map fun ((a, b), i) =>
    let d : Int := (a : Int) - 20 * b
    (i, decide (20 * d.natAbs ≤ (20 * s.precErr i + b + 400 + 20 * s.rd F.PLAUS_CFG_M_CELL).toNat), d.tdiv 10)

/-- C2 of every node with every code valid. -/
def State.evalC2 (s : State) (r : Record) : List Eval :=
  (s.nodes.zipIdx).filterMap fun (n, k) =>
    let cells := (List.range (s.cellsOf n)).map fun i => s.cellBase n + i
    let vp := cells.map fun c => (r.vp[c]?).getD 0xFFFF
    let st := (r.vs[k]?).getD 0xFFFF
    if vp.all codeValid && codeValid st then
      let d : Int := isum (vp.map fun (v : Nat) => (v : Int)) - 20 * st
      some (n, decide (20 * d.natAbs ≤ (20 * isum (cells.map s.precErr) + st + 400 + 200 * s.rd F.PLAUS_CFG_M_NODE).toNat), d.tdiv 10)
    else none

/-- C3 or C4 (Table 6-5) in nV: the sum of the codes plus I × R_PATH against the module's own string voltage. -/
def State.evalString (s : State) (r : Record) (sumNv errNv : Int) : Eval :=
  let v := r.vStr * 1000000
  let d := sumNv + r.iStr * s.rd F.PLAUS_R_PATH_R_PATH - v
  let eMod := max (v.tdiv 1000) 100000000
  (0, decide ((d.natAbs : Int) ≤ errNv + eMod + (s.rd F.PLAUS_CFG_M_STRING : Int) * 10000000), d.tdiv 100000000)

/-- The evaluations of check k (1–4) on a record (R153): on the kinds that carry its inputs, C3 and C4 not on a PARTIAL record. -/
def State.evalCheck (s : State) (r : Record) (k : Nat) : List Eval :=
  let full := r.missing == 0
  match k with
  | 1 => if r.kind = 3 then s.evalC1 r else []
  | 2 => if r.kind = 3 then s.evalC2 r else []
  | 3 => if (r.kind = 0 || r.kind = 3) && full && r.vp.all codeValid then
      [s.evalString r (isum (r.vp.map fun (v : Nat) => (v : Int) * 100000)) (isum ((List.range r.vp.length).map s.precErr) * 100000)] else []
  | _ => if (r.kind = 1 || r.kind = 3) && full && r.vs.all codeValid then
      let sv := isum (r.vs.map fun (v : Nat) => (v : Int) * 2000000)
      [s.evalString r sv (sv / 400 + (s.nodes.length : Int) * 2000000)] else []

/-- The bit of a check's item in SUSPECT or NSUSP. -/
def State.setSuspect (s : State) (k i : Nat) (b : Bool) : State :=
  match k with
  | 1 => setMaskBit F.PLAUS_SUSPECT_CELLS s i b
  | 2 => s.wrBit F.PLAUS_NSUSP_NODES i b
  | _ => s

/-- A second failure (R154): the suspect bit, LASTING, its condition, its reaction due; a new C1 or C2 verdict calls for a new plan. -/
def State.plausLasts (s : State) (k i : Nat) (d : Int) : State :=
  let id := 1000 * k + i
  let s := { s with harv := { s.harv with pend := s.harv.pend.filter (· != id), bad := s.harv.bad ++ [id], verdicts := s.harv.verdicts ++ [(k, i, d)] } }
  let s := ((s.setSuspect k i true).raise 0x1C 1).lasting 0x1C (evCode 0x1C .plausibility)
  let s := s.addCond (.plaus id) (RClass.ofCode (s.rd F.PLAUS_REACT_C / 4 ^ (k - 1) % 4))
  if k ≤ 2 then s.replan else s

/-- The second-attempt rule on one evaluation (R154, R155). -/
def State.plausJudge (s : State) (k : Nat) (e : Eval) : State :=
  let (i, pass, d) := e
  let id := 1000 * k + i
  let h := s.harv
  if pass then
    let s := if h.pend.contains id then ({ s with harv := { h with pend := h.pend.filter (· != id) } }.retryPass 0x1C).raise 0x1C 0 else s
    if s.harv.bad.contains id then
      let n := mget 0 s.harv.passes id + 1
      let cls := RClass.ofCode (s.rd F.PLAUS_REACT_C / 4 ^ (k - 1) % 4)
      if n ≥ 16 && (cls == .W || cls == .L) then
        let s := { s with harv := { s.harv with bad := s.harv.bad.filter (· != id), passes := mset 0 s.harv.passes id 0 } }
        ((s.setSuspect k i false).clearCond (.plaus id)).raise 0x1C 2
      else { s with harv := { s.harv with passes := mset 0 s.harv.passes id (min n 16) } }
    else s
  else
    let s := ((s.wr F.PLAUS_LAST_INDEX i).wr F.PLAUS_LAST_CHECK k).wrI F.PLAUS_LAST_DIFF d
    let s := { s with harv := { s.harv with failNow := s.harv.failNow ||| 2 ^ (k - 1), passes := mset 0 s.harv.passes id 0,
                                            early := s.harv.early || (decide (k ≤ 2) && s.on F.HARVEST_CFG_C_EN) } }
    if s.harv.bad.contains id then s
    else if s.harv.pend.contains id then s.plausLasts k i d
    else { s with harv := { s.harv with pend := s.harv.pend ++ [id] } }

/-- One check evaluated on a record. -/
def State.plausCheck (s : State) (r : Record) (k : Nat) : State :=
  let l := s.evalCheck r k
  if l.isEmpty then s
  else
    let s := { s with harv := { s.harv with failNow := s.harv.failNow - (if s.harv.failNow.testBit (k - 1) then 2 ^ (k - 1) else 0) } }
    l.foldl (fun s e => s.plausJudge k e) s

/-- PENDING, LASTING and SUSPECT_PATH of PLAUS.STATUS (R155). -/
def State.plausStatus (s : State) : State :=
  let has (l : List Nat) (k : Nat) : Bool := l.any fun id => id / 1000 == k
  let s := (s.wr F.PLAUS_STATUS_PENDING (plausMask s.harv.pend)).wr F.PLAUS_STATUS_LASTING (plausMask s.harv.bad)
  let passes (k : Nat) : Bool := !s.harv.failNow.testBit (k - 1)
  let c3 := has s.harv.bad 3
  let c4 := has s.harv.bad 4
  s.wr F.PLAUS_STATUS_SUSPECT_PATH (if c3 && c4 && passes 1 && passes 2 then 2 else if c3 && passes 4 then 1 else if c4 && passes 3 then 3 else 0)

/-- What speaks for a bypassed loop (R158): while it reads closed, a node's CAUSE (1000), or a precise code 10 mV beyond a threshold (its cell), on a record without precise codes as on the last one that carried them. -/
def State.bypassSigns (s : State) (r : Record) : List Nat :=
  if !s.on F.NODE_STATUS_LOOP_CLOSED then []
  else
    let ov := (s.rd F.NODE_THR_OV_MV + 10) * 10
    let uv : Int := ((s.rd F.NODE_THR_UV_MV : Int) - 10) * 10
    (if s.nodes.any fun n => s.rd (F.NODE_NSTAT_CAUSE n) != 0 then [1000] else [])
      ++ (if r.vp.isEmpty then s.harv.bypass1.filter (· != 1000)
          else (r.vp.zipIdx.filter fun (v, _) => codeValid v && (decide (v > ov) || decide ((v : Int) < uv))).map (·.2))

/-- LOOP_BYPASS under the second-attempt rule (R158): lasting it is a class S event. The CAUSE case is judged at every record taken up, the codes at those that carry them (DEDUCED, notes/assumptions/77.md). -/
def State.bypassCheck (s : State) (r : Record) : State :=
  let now := s.bypassSigns r
  let twice := now.any fun x => (x == 1000 || !r.vp.isEmpty) && s.harv.bypass1.contains x
  let was := !s.harv.bypass1.isEmpty
  let s := { s with harv := { s.harv with bypass1 := now } }
  if twice then
    if s.hasCond .bypass then s
    else (((s.wrB F.NODE_STATUS_BYPASS true).raise 0x1B 2).lasting 0x1B (evCode 0x1B .loopBypass)).addCond .bypass .S |>.react .S 0x1B .loopBypass [] 7 s.sameEngine
  else if now.isEmpty then
    let s := if was && !s.hasCond .bypass then s.retryPass 0x1B else s
    (s.wrB F.NODE_STATUS_BYPASS false).clearCond .bypass
  else s

/-- The reactions of a record's second failures; an active unit whose own measurement path is the suspect relinquishes instead (R361, cause 0x05). -/
def State.plausReact (s : State) : State :=
  let l := s.harv.verdicts
  let active := s.rd F.PAIR_STATUS_ROLE == 1
  { s with harv := { s.harv with verdicts := [] } } |> fun (s : State) => l.foldl (fun (s : State) (x : Nat × Nat × Int) =>
    let react (s : State) : State := s.react (RClass.ofCode (s.rd F.PLAUS_REACT_C / 4 ^ (x.1 - 1) % 4)) 0x1C .plausibility [(x.1 : Int), (x.2.1 : Int), x.2.2] 7 s.sameEngine
    if x.1 ≥ 3 && active && s.rd F.PLAUS_STATUS_SUSPECT_PATH == 2 then (if s.rd F.PAIR_STATUS_ROLE == 3 then s else s.relinquishOr 5 react)
    else react s) s

/-- PLAUSIBILITY_CHECK (R153, R154, R158): the oldest pushed record that waits is evaluated; its ring entry is then free of its built-in consumer, unless an impedance run still needs it (R258). -/
def execPlausibilityCheck (s : State) : Host.Outcome State Fault Refusal :=
  match s.harv.checks with
  | [] => .next s
  | r :: t =>
    let s := { s with harv := { s.harv with checks := t } }
    let s := if s.imp.recs.any fun x => x.r.ring == r.ring && x.r.eseq == r.eseq then s else s.consume r.ring r.eseq
    if r.kind = 2 then .next (s.bypassCheck r)
    else .next (([1, 2, 3, 4].foldl (fun s k => s.plausCheck r k) s).plausStatus.plausReact.bypassCheck r)

/-! ## The cell fault loop -/

/-- LOOP_OPEN (R156, R157): the loop counts as open at a current in mA: class H, and FAULT_READ to every node. -/
def execLoopOpen (ma : BitVec 8) (s : State) : Host.Outcome State Fault Refusal :=
  let s := (s.wrB F.NODE_STATUS_LOOP_CLOSED false).wr F.NODE_STATUS_LOOP_MA ma.toNat
  if s.hasCond .loopOpen || s.mode == .transport then .next s
  else
    let s := ((s.raise 0x1B 0).addCond .loopOpen .H).react .H 0x1B .loopOpened [ma.toNat]
    let s := { s with ringSt := { s.ringSt with loopRead := if s.originates then some s.nodes else none, loopFound := [], loopMa := ma.toNat } }
    .next (s.nodes.foldl (fun s n => s.ringCmd n 0x30) s)

/-- LOOP_CLOSED (R156): the current has stayed above 6 mA for 10 ms. -/
def execLoopClosed (ma : BitVec 8) (s : State) : Host.Outcome State Fault Refusal :=
  let s := s.wr F.NODE_STATUS_LOOP_MA ma.toNat
  if s.on F.NODE_STATUS_LOOP_CLOSED then .next s
  else .next (((s.wrB F.NODE_STATUS_LOOP_CLOSED true).raise 0x1B 1).clearCond .loopOpen)

end Sys2Proof.Machine
end

