-- ==== Sys2Proof/Machine/EstOps.lean ====
section
/-!
DEFINITION. The estimator as operations: cell temperature and voltage (R267, R268), counting and uncertainty (R273, R275), anchors
(R276), learning (R280, R281), published figures (R274, R278, R282 to R284) and the current factors (R294 to R296).
-/
namespace Sys2Proof.Machine
open Sys2Proof

/-- The cells of the string by number. -/
def State.cellList (s : State) : List Nat := List.range s.cellCount

/-! ## Inputs of a step -/

/-- The hottest of some temperatures. -/
def hottest (l : List Int) : Option Int := l.foldl (fun (m : Option Int) t => some (max (m.getD t) t)) none

/-- T_c of a cell (R267) and whether it comes from the latest impedance set. -/
def State.cellTemp (s : State) (c : Nat) : Option Int × Bool :=
  let fresh := match s.est.impEnd with
    | some e => decide (s.tb0 / 1000000 - e ≤ s.rd F.ESTIM_OVERDUE_IMP_AGE * 1000)
    | none => false
  match (if fresh then (s.est.impTemp.find? (·.1 == c)) else none) with
  | some (_, t) => (some t, true)
  | none =>
    let (n, i) := s.cellNode c
    let own := s.tempEntry n (i * s.rd (F.NODE_NCFG_TCH n) / max (s.cellsOf n) 1)
    let board := s.tempEntry n 8
    (if s.rd (F.NODE_NCFG_TCH n) ≠ 0 ∧ tempValid own then some own
     else match hottest (s.sensors n) with
       | some t => some t
       | none => if tempValid board then some board else none, false)

/-- The voltage of a cell in nV with its error e_p (R268): the precise code, or the coarse one while the precise path is suspect. -/
def State.cellVolt (s : State) (c : Nat) : Option (Int × Int) :=
  if s.rd F.PLAUS_STATUS_SUSPECT_PATH = 1 then
    let v := (s.harv.vc[c]?).getD 0xFFFF
    if codeValid v then some (v * 2000000, v * 5000 + 2000000) else none
  else if codeValid (s.precise c) then some (s.precise c * 100000, s.precErr c * 100000)
  else none

/-- A lasting C1 or C2 verdict bars a cell from anchors (R268). -/
def State.barredCell (s : State) (c : Nat) : Bool := maskBit F.PLAUS_SUSPECT_CELLS s c || s.bit F.PLAUS_NSUSP_NODES (s.cellNode c).1

/-- |I × R_c| in nV at a current in mA (R275). -/
def State.dropOf (s : State) (x : Cell) (ma : Int) : Int := roundAway (ma * (x.rf : Int) * s.rTab (s.tempLook x.temp) x.soc) 4096

/-! ## Counting and uncertainty -/

/-- U_c of a cell in 0.001 % (R275). -/
def State.uncertainty (s : State) (c : Nat) (x : Cell) : Nat :=
  let charge : Int := ((s.est.theta : Int) - x.thA) / 1000 + ((s.mono : Int) - x.tA) / 50 + (s.rd F.ESTIM_OCVERR_BLEED_ERR * x.bleedQ * 10000 : Nat)
  let cap := s.capOf c
  (x.uA + roundAway charge (360000 * cap) + roundAway (s.rd F.ESTIM_UNC_E_CAP * (x.soc - x.socA).natAbs) (2 ^ 24)).toNat

/-- The counted state of one cell after a step with charge dq in nC (R273): SoC_c, Σ 100 × q_c / F_CAP and the bleed charge. -/
def State.countCell (s : State) (c : Nat) (dq : Int) (rate : Nat × Nat) (x : Cell) : Cell :=
  let t := s.tempLook x.temp
  let f := s.fCap t rate
  let qb := mget 0 s.est.bleed c
  let q := (if dq > 0 then roundAway (dq * s.fEff t rate) 16384 else dq) - qb * 1000000
  let d := roundAway (2 ^ 24 * 100 * q * 16384) (36 * s.capOf c * f * 1000000000)
  { x with soc := if x.init then clampI (x.soc + d) (-5 * pct) (105 * pct) else x.soc,
           sumN := x.sumN + roundAway (100 * q * 16384) f, bleedQ := x.bleedQ + qb }

/-! ## Anchors and learning -/

/-- SoC_ocv of a cell and U_ocv in 0.001 % (R275, R276), from the latest record. -/
def State.ocvOf (s : State) (c : Nat) (quasi : Bool) : Option (Int × Nat) :=
  let x := s.cell c
  match s.cellVolt c with
  | none => none
  | some (v, ep) =>
    let drop := s.dropOf x s.harv.vI
    let eV := ep + s.rd F.ESTIM_OCVERR_E_OCV * 100000
      + (if quasi then roundAway (s.rd F.ESTIM_OCVERR_RERR * drop.natAbs) 100 + s.rd F.ESTIM_OCVERR_QR_MV * 1000000 else 0)
    match s.ocvFind x.branch (s.tempLook x.temp) (if quasi then v - drop else v) with
    | none => none
    | some f => some (f.soc, (roundAway ((eV + f.half) * 3125) f.rise).toNat)

/-- A change limited to ± a share in thousandths of a value. -/
def stepLimit (change value share : Int) : Int := clampI change (-(value * share / 1000)) (value * share / 1000)

/-- Capacity learning at an anchor fit for it (R280). -/
def State.learnCap (s : State) (c : Nat) (soc : Int) : State :=
  let x := s.cell c
  match x.ocvA with
  | none => s.setCell c { x with ocvA := some soc, sumN := 0 }
  | some a =>
    let ds := soc - a
    if ds.natAbs < s.rd F.LEARN_LCFG_DSOC_MIN * 2 ^ 24 then s
    else
      let q := s.capOf c
      let meas := if ds < 0 then roundAway (-x.sumN * 2 ^ 24) (36 * ds.natAbs * 10000000) else roundAway (x.sumN * 2 ^ 24) (36 * ds.natAbs * 10000000)
      let new := q + stepLimit (roundAway (s.rd F.LEARN_GAIN_G_CAP * (meas - q)) 256) q (s.rd F.LEARN_GAIN_CAP_STEP)
      let s := s.wr (capFld c) (max (satUnsigned 16 new) 1)
      let s := s.setCell c { x with ocvA := some soc, sumN := 0, capUpd := satCount 16 (x.capUpd + 1) }
      (s.raise 0x2A 0).journalBoth 1

/-- An anchor of one cell (R276, R277): the blend of the counted state with the state from the voltage; a cell not yet initialised takes the latter. init: every cell with a fix takes it. -/
def State.anchorCell (s : State) (c : Nat) (quasi init : Bool) : Option State :=
  let x := s.cell c
  if s.barredCell c && !init then none
  else match s.ocvOf c quasi with
    | none => none
    | some (soc, uo) =>
      if !init && decide (uo > s.rd F.ESTIM_UNC_U_ANCHOR_MAX * 100) then none
      else
        let u := s.uncertainty c x
        let whole := init || !x.init
        let den := u * u + uo * uo
        let new := if whole || den = 0 then soc else x.soc + roundAway ((u * u : Nat) * (soc - x.soc)) den
        let uA := if whole then uo else if den = 0 then 0 else isqrtNear ((u * u * (uo * uo) + den / 2) / den)
        let s := s.setCell c { x with init := true, soc := new, socA := new, uA := uA, tA := s.mono, thA := s.est.theta, bleedQ := 0 }
        some (if !init && decide (uo ≤ s.rd F.LEARN_LCFG_U_LEARN * 100) then s.learnCap c soc else s)

/-- Anchors of every cell that may be anchored (R276): the count of the kind, ANCHORED. -/
def State.anchorAll (s : State) (quasi : Bool) : State :=
  let (s, any) := s.cellList.foldl (fun (r : State × Bool) c => match r.1.anchorCell c quasi false with
    | some s => (s, true)
    | none => r) (s, false)
  if any then (s.bump (if quasi then F.ESTIM_ANCHORS_QUASI else F.ESTIM_ANCHORS_FULL)).raise 0x28 0 else s

/-- The resistance factor of a cell after an impedance result Re Z in 0.01 µΩ (R281). -/
def State.learnRf (s : State) (c : Nat) (reZ : Int) : State :=
  let x := s.cell c
  let r := s.rTab (s.tempLook x.temp) x.soc
  if r ≤ 0 then s
  else
    let meas := roundAway (reZ * 4096) (100 * r)
    let new := (x.rf : Int) + stepLimit (roundAway (s.rd F.LEARN_GAIN_G_RES * (meas - x.rf)) 256) x.rf (s.rd F.LEARN_GAIN_RF_STEP)
    (s.setCell c { x with rf := satUnsigned 16 new, rfUpd := satCount 16 (x.rfUpd + 1) }).raise 0x2A 1

/-- A cell's RF has moved by 1 % since the last journal write (R287). -/
def State.rfMoved (s : State) : Bool := s.cellList.any fun c => decide (((s.cell c).rf - (s.cell c).rfWritten : Int).natAbs * 100 ≥ (s.cell c).rfWritten)

/-! ## Published figures -/

/-- A state of charge in 0.01 %, clamped to 0–100 % (R273). -/
def socShown (x : Int) : Nat := (roundAway (clampI x 0 (100 * pct) * 100) pct).toNat

/-- A cell's health in 0.01 % (R282). -/
def State.cellHealth (s : State) (c : Nat) : Nat :=
  let h := s.capOf c * 10000 / max (s.rd F.ESTIM_CFG_Q_NOM) 1
  min h (min 10000 (10000 * 4096 / max (s.cell c).rf 1))

/-- Current limit in mA: a quotient rounded down and limited to 0–600 A; no limit from a resistance of 0. -/
def limitMa (num den : Int) : Int := if den ≤ 0 then (if num ≤ 0 then 0 else 600000) else clampI (num / den) 0 600000

/-- R_h of a cell in 2^−24 µΩ (R283). -/
def State.resOf (s : State) (x : Cell) (hg : Nat) : Int := (x.rf : Int) * s.rTab (s.tempLook x.temp) x.soc * hg

/-- The limits of one cell for a horizon of h seconds in mA, charge and discharge (R283). -/
def State.cellLimit (s : State) (rate : Nat × Nat) (h hg c : Nat) : Int × Int :=
  let x := s.cell c
  let t := s.tempLook x.temp
  let r := s.resOf x hg
  let cap : Int := s.capOf c
  let u : Int := (x.u : Int) * pct
  let dis := min (limitMa ((s.ocvAt 1 t x.soc - s.rd F.ESTIM_VWIN_VMIN_CELL * 1000000) * 2 ^ 24) r)
    (limitMa (36 * cap * s.fCap t rate * (1000 * x.soc - u)) (16384 * 100 * h * pct))
  let chg := min (limitMa ((s.rd F.ESTIM_VWIN_VMAX_CELL * 1000000 - s.ocvAt 0 t x.soc) * 2 ^ 24) r)
    (limitMa (36 * cap * (100000 * pct - 1000 * x.soc - u) * 16384) (100 * h * s.fEff t rate * pct))
  (chg, dis)

/-- The limits and powers of one horizon (R283, R284). -/
def State.horizon (s : State) (rate : Nat × Nat) (blocked : Bool) (k h hg : Nat) : State :=
  let cells := s.cellList
  let l := if blocked || cells.isEmpty then (0, 0) else cells.foldl (fun (m : Int × Int) c =>
    let (a, b) := s.cellLimit rate h hg c
    (min m.1 a, min m.2 b)) (600000, 600000)
  let sumV (b : Nat) : Int := isum (cells.map fun c => s.ocvAt b (s.tempLook (s.cell c).temp) (s.cell c).soc)
  let sumR : Int := isum (cells.map fun c => s.resOf (s.cell c) hg)
  let pDis := l.2 * (sumV 1 - l.2 * sumR / 2 ^ 24)
  let pChg := l.1 * (sumV 0 + l.1 * sumR / 2 ^ 24)
  let p (x : Int) : Nat := if blocked then 0 else satUnsigned 16 (roundAway x (10 ^ 14))
  (((s.wr (F.ESTIM_ILIM_I_CHG k) (l.1 / 100).toNat).wr (F.ESTIM_ILIM_I_DIS k) (l.2 / 100).toNat).wr (F.ESTIM_PLIM_P_CHG k) (p pChg)).wr (F.ESTIM_PLIM_P_DIS k) (p pDis)

/-- All limits and powers (R283): horizons of 2 s, 10 s and 60 s. -/
def State.limits (s : State) (rate : Nat × Nat) (blocked : Bool) : State :=
  ((s.horizon rate blocked 0 2 (s.rd F.ESTIM_HGAIN_HG2)).horizon rate blocked 1 10 (s.rd F.ESTIM_HGAIN_HG10)).horizon rate blocked 2 60 (s.rd F.ESTIM_HGAIN2_HG60)

/-- The cell registers and the string figures (R274, R278, R282). -/
def State.publishSoc (s : State) : State :=
  let valid := s.cellList.filter fun c => (s.cell c).valid
  let s := s.cellList.foldl (fun s c => s.wr (pairFld F.ESTIM_SOC_CELL_LO F.ESTIM_SOC_CELL_HI c)
    (if (s.cell c).valid then socShown (s.cell c).soc else 0xFFFF)) s
  let s := s.wr F.ESTIM_STATUS_VALID_CNT valid.length
  let s := s.wr F.ESTIM_SOH_SOH (s.cellList.foldl (fun m c => min m (s.cellHealth c)) 10000)
  let age (c : Nat) : Nat := ((s.mono : Int) - (s.cell c).tA).toNat / 1000000000
  let s := s.wr F.ESTIM_AGE_ANCHOR_AGE ((s.cellList.filter fun c => (s.cell c).init).foldl (fun m c => max m (age c)) 0)
  let socs := valid.map fun c => clampI (s.cell c).soc 0 (100 * pct)
  match socs with
  | [] => ((((s.wr F.ESTIM_SOC1_SOC_STR 0xFFFF).wr F.ESTIM_SOC1_SOC_MIN 0xFFFF).wr F.ESTIM_SOC2_SOC_MAX 0xFFFF).wr F.ESTIM_SOC2_SOC_MEAN 0xFFFF).wr F.ESTIM_UNCMAX_U_MAX 0xFFFF
  | a :: _ =>
    let lo := socs.foldl min a
    let hi := socs.foldl max a
    let den := lo + 100 * pct - hi
    let str := if den = 0 then 0 else (roundAway (10000 * lo) den).toNat
    let u := valid.foldl (fun m c => max m (s.cell c).u) 0
    let s := (((s.wr F.ESTIM_SOC1_SOC_STR str).wr F.ESTIM_SOC1_SOC_MIN (socShown lo)).wr F.ESTIM_SOC2_SOC_MAX (socShown hi)).wr F.ESTIM_SOC2_SOC_MEAN (socShown (roundAway (isum (valid.map fun c => (s.cell c).soc)) socs.length))
    s.wr F.ESTIM_UNCMAX_U_MAX (min ((u + 5) / 10) 0xFFFF)

/-- REF_OVERDUE and OCV_REQ (R278). -/
def State.judgeOverdue (s : State) : State :=
  let due := s.cellList.any fun c =>
    let x := s.cell c
    x.valid && (decide (x.u ≥ s.rd F.ESTIM_UNC_U_OVERDUE * 100) || decide ((s.mono : Int) - x.tA ≥ s.rd F.ESTIM_OVERDUE_T_OVERDUE * 86400 * 1000000000))
  let s := if due && !s.on F.ESTIM_STATUS_OVERDUE then (s.raise 0x28 1).raise 0x28 2 else s
  (s.wrB F.ESTIM_STATUS_OVERDUE due).wrB F.ESTIM_STATUS_OCV_REQ due

/-- VALID of every cell (R277); a cell that loses it raises INVALID. -/
def State.judgeValid (s : State) : State :=
  s.cellList.foldl (fun s c =>
    let x := s.cell c
    let u := s.uncertainty c x
    let v := x.init && decide (u ≤ s.rd F.ESTIM_UNC_U_VALID * 100)
    let s := if x.valid && !v then s.raise 0x28 4 else s
    s.setCell c { x with u := u, valid := v, noAnchor := s.barredCell c }) s

/-- A configured cell has had no valid code for 1 s (R284): LIMIT_BLIND. -/
def State.judgeBlind (s : State) : State :=
  let blind := s.cellList.any fun c => decide (s.mono > mget 0 s.harv.seenAt c + 1000000000)
  let s := if blind && !s.on F.ESTIM_STATUS_BLIND then s.raise 0x28 3 else s
  s.wrB F.ESTIM_STATUS_BLIND blind

/-! ## Current derating -/

/-- clamp(num / den, 0, 1) as a pair of natural numbers. -/
def ratio01 (num den : Int) : Nat × Nat := if den ≤ 0 then (if num ≥ 0 then (1, 1) else (0, 1)) else ((clampI num 0 den).toNat, den.toNat)

/-- The smaller of two shares. -/
def minShare (a b : Nat × Nat) : Nat × Nat := if a.1 * b.2 ≤ b.1 * a.2 then a else b

/-- NTC channel n of X14 in 0.1 °C, or its code. -/
def State.ntc (s : State) (n : Nat) : Int := s.rdI (if n % 2 = 0 then F.THERM_NTCT_T_EVEN (n / 2) else F.THERM_NTCT_T_ODD (n / 2))

/-- The codes of an NTC channel (R294, Table 6-3). -/
def ntcOpen : Int := 0x7FFF
def ntcShort : Int := 0x7FFE
def noData : Int := -0x8000

/-- A temperature code other than open, short or no data. -/
def readable (t : Int) : Bool := t != ntcOpen && t != ntcShort && t != noData

/-- f_ps of R295. -/
def State.factorPs (s : State) : Nat × Nat :=
  let role1 := (List.range 16).filter fun n => s.rd ⟨A.THERM_NTCROLE, 2 * n, 2⟩ == 1
  if role1.any fun n => s.ntc n == ntcOpen || s.ntc n == ntcShort then (0, 1)
  else ((role1.map s.ntc).filter readable).foldl (fun m t =>
    minShare m (ratio01 (10 * (s.rd F.THERM_DERATE_PS_END : Int) - t) (10 * ((s.rd F.THERM_DERATE_PS_END : Int) - s.rd F.THERM_DERATE_PS_START)))) (1, 1)

/-- A share coded uQ0.16, in 2^−16; 0xFFFF is 1.0 (R295). -/
def uq16 (x : Nat) : Nat := if x = 0xFFFF then 65536 else x

/-- f_fan of R295 in 2^−16: FAIL_DERATE with a lasting cooling fault of reaction L. -/
def State.factorFan (s : State) : Nat :=
  if (List.range 6).any fun k => s.bit F.THERM_STATUS_COOL_FAULT k && s.rd (F.THERM_COOL_8_REACT k) == 1 then uq16 (s.rd F.THERM_FAIL_FAIL_DERATE) else 65536

/-- A product of shares with f_fan, rounded down to 2^−16, 1.0 coded 0xFFFF. -/
def factorOf (a b : Nat × Nat) (fan : Nat) : Nat := min 0xFFFF (a.1 * b.1 * fan / max (a.2 * b.2) 1)

/-- One direction of R296: permitted again after the hysteresis, decided afresh after a blind interval. -/
def State.window (s : State) (ok : Fld) (ev : Nat) (fresh : Bool) (hot cold lo hi : Int) : State × (Nat × Nat) :=
  let hyst : Int := 10 * s.rd F.THERM_DERATE_HYST_K
  let out := decide (hot ≥ 10 * hi) || decide (cold ≤ 10 * lo)
  let wasOk := fresh || s.on ok
  let now := !out && (wasOk || (decide (hot ≤ 10 * hi - hyst) && decide (cold ≥ 10 * lo + hyst)))
  let s := if wasOk && !now then s.raise 0x2C ev else s
  let d : Int := 10 * s.rd F.THERM_DERATE_DERATE_K
  (s.wrB ok now, if now then minShare (ratio01 (10 * hi - hot) d) (ratio01 (cold - 10 * lo) d) else (0, 1))

/-- T_hot and T_cold of R293, none where invalid. -/
def State.hotCold (s : State) : Option (Int × Int) :=
  let l := s.cellList.filterMap fun c => (s.cell c).temp
  let recent := match s.harv.tAt with
    | some t => decide (s.mono ≤ t + 3 * s.rd F.HARVEST_TCFG_T_NORM * 1000000000)
    | none => false
  match l with
  | [] => none
  | a :: _ => if recent then some (l.foldl max a, l.foldl min a) else none

/-- The current factors of a step (R294 to R296). -/
def State.derate (s : State) : State :=
  let fresh := s.rdI F.THERM_TCELL_T_HOT == noData
  match s.hotCold with
  | none =>
    let s := if s.on F.THERM_STATUS_T_BLIND then s else s.raise 0x2C 6
    let s := (((s.wrB F.THERM_STATUS_T_BLIND true).wrB F.THERM_STATUS_CHG_OK false).wrB F.THERM_STATUS_DIS_OK false).wrI F.THERM_TCELL_T_HOT noData
    ((s.wrI F.THERM_TCELL_T_COLD noData).wr F.THERM_FACT_F_CHG 0).wr F.THERM_FACT_F_DIS 0
  | some (hot, cold) =>
    let (s, chg) := s.window F.THERM_STATUS_CHG_OK 2 fresh hot cold (s.rdI F.THERM_WIN_CHG_LO) (s.rdI F.THERM_WIN_CHG_HI)
    let (s, dis) := s.window F.THERM_STATUS_DIS_OK 7 fresh hot cold (s.rdI F.THERM_WIN_DIS_LO) (s.rdI F.THERM_WIN_DIS_HI)
    let s := ((s.wrB F.THERM_STATUS_T_BLIND false).wrI F.THERM_TCELL_T_HOT hot).wrI F.THERM_TCELL_T_COLD cold
    (s.wr F.THERM_FACT_F_CHG (factorOf chg s.factorPs s.factorFan)).wr F.THERM_FACT_F_DIS (factorOf dis s.factorPs s.factorFan)

end Sys2Proof.Machine
end

