-- ==== Sys2Proof/Machine/EstFam.lean ====
section
/-!
DEFINITION. The meanings of the estimator and journal commands (chapter 12).
-/
namespace Sys2Proof.Machine
open Sys2Proof

/-- Rest and significant current over an interval of dt ns in which the string current lay between lo and hi mA (R272, R276). -/
def State.timeCurrents (s : State) (dt : Nat) (lo hi : Int) : State :=
  let iRest : Int := 10 * s.rd F.ESTIM_REST_I_REST
  let iq : Int := 100 * s.rd F.ESTIM_QREST_I_QREST
  let rest := decide (-iRest ≤ lo) && decide (hi ≤ iRest)
  let quasi := decide (-iq ≤ lo) && decide (hi ≤ iq)
  let e := s.est
  let restFor := if rest then e.restFor + dt else 0
  let full := decide (restFor ≥ s.rd F.ESTIM_REST_T_REST * 1000000000)
  let qFor := if quasi then e.qrestFor + dt else 0
  let chg := if lo > iRest then e.sigChg + dt else 0
  let dis := if hi < -iRest then e.sigDis + dt else 0
  let s := { s with est := { e with restFor := restFor, qrestFor := qFor, restMade := if rest then e.restMade else 0, qrestMade := if quasi then e.qrestMade else 0,
                                    sigChg := chg, sigDis := dis } }
  let s := (s.wrB F.ESTIM_STATUS_REST full).wrB F.ESTIM_STATUS_QREST (!full && decide (qFor ≥ s.rd F.ESTIM_QREST_T_QREST * 1000000000))
  if chg ≥ 60000000000 then s.cellList.foldl (fun s c => s.setCell c { s.cell c with branch := 1 }) s
  else if dis ≥ 60000000000 then s.cellList.foldl (fun s c => s.setCell c { s.cell c with branch := 2 }) s
  else s

/-- The kind of anchor that falls due (R276): 1 full rest, 2 quasi-rest, 0 none. -/
def State.anchorKind (s : State) : Nat :=
  if s.on F.ESTIM_STATUS_REST then (if s.est.restFor ≥ (s.est.restMade + 1) * s.rd F.ESTIM_REST_T_REST * 1000000000 then 1 else 0)
  else if s.on F.ESTIM_STATUS_QREST then (if s.est.qrestFor ≥ (s.est.qrestMade + 1) * s.rd F.ESTIM_QREST_T_QREST * 1000000000 then 2 else 0)
  else 0

/-- Anchors that fall due (R276): from the latest record, in STANDBY and SERVICE from the record of a V harvest requested for them. -/
def State.anchorsDue (s : State) : State :=
  let k := s.anchorKind
  let s := if k == 1 then { s with est := { s.est with restMade := s.est.restMade + 1 } }
    else if k == 2 then { s with est := { s.est with qrestMade := s.est.qrestMade + 1 } } else s
  let asked := s.est.anchorDue
  let s := if asked != 0 && decide (s.harv.vAt > s.est.dueAt) then { s with est := { s.est with anchorDue := 0 } }.anchorAll (asked == 2) else s
  if k == 0 then s
  else if s.mode == .standby || s.mode == .service then ({ s with est := { s.est with anchorDue := k, dueAt := s.mono } }).oneshot 1 s.meas
  else s.anchorAll (k == 2)

/-- The estimator's state as the active unit mirrors it (R285). -/
def State.estMirror (s : State) : State :=
  s.mirror (.estimator (s.cellList.map fun c =>
    let x := s.cell c
    [x.soc, x.uA, x.socA, (s.mono : Int) - x.tA, (s.est.theta : Int) - x.thA, x.bleedQ, s.capOf c, x.rf, x.branch, if x.init then 1 else 0]))

/-- Steps run (R265): EN, in every mode except TRANSPORT and dormant STANDBY. -/
def State.stepsRun (s : State) : Bool := s.on F.ESTIM_CFG_EN && s.mode != .transport && !s.on F.CROWN_MODE_DORMANT && s.crown.phase == .complete

/-- No estimator: no valid cell, every limit 0 (R265); cells that lose VALID raise INVALID (R277). -/
def State.estOff (s : State) : State :=
  let s := if s.est.cells.any fun (x : Nat × Cell) => x.2.valid then s.raise 0x28 4 else s
  let s := { s with est := { s.est with cells := s.est.cells.map (fun (x : Nat × Cell) => (x.1, { x.2 with valid := false })) } }
  ((s.wrB F.ESTIM_STATUS_RUNNING false).publishSoc).limits (0, 0) true

/-- ESTIMATOR_STEP (R265 to R285): `more` nC have been counted since the last telemetry window, the string current lay between lo and hi mA since the previous step; a step that is late only says so, and the next covers both intervals; after a backward step of TB0 no step runs within 50 ms of the previous one (R266). -/
def execEstimatorStep (more lo hi : Int) (late : Bool) (s : State) : Host.Outcome State Fault Refusal :=
  if !s.stepsRun then .next (if s.on F.ESTIM_CFG_EN then s.wrB F.ESTIM_STATUS_RUNNING false else s.estOff)
  else if s.est.back && s.est.lastQ.isSome && decide (s.mono < s.est.lastAt + 50000000) then .next s
  else if late then .next (s.raise 0x28 5)
  else
    let s := s.wrB F.ESTIM_STATUS_RUNNING true
    let q := s.tele.net + more
    let dq := match s.est.lastQ with
      | some p => q - p
      | none => 0
    let dt := if s.est.lastQ.isSome then s.mono - s.est.lastAt else 0
    let rate := if dt * s.rd F.ESTIM_CFG_Q_NOM = 0 then (0, 0) else lookup s.ratePoints (dq.natAbs * 10000) (dt * s.rd F.ESTIM_CFG_Q_NOM)
    let s := { s with est := { s.est with lastQ := some q, lastAt := s.mono, back := false, theta := s.est.theta + dq.natAbs } }
    let s := s.cellList.foldl (fun s c =>
      let (t, imp) := s.cellTemp c
      s.setCell c (s.countCell c dq rate { s.cell c with temp := t, tempImp := imp })) s
    let s := { s with est := { s.est with bleed := [] } }
    let s := ((s.timeCurrents dt lo hi).anchorsDue).judgeValid
    let s := (s.publishSoc.judgeOverdue).judgeBlind
    let blocked := s.on F.ESTIM_STATUS_BLIND || s.cellList.any fun c => !(s.cell c).valid
    .next ((s.limits rate blocked).derate.estMirror)

/-- ESTIM.CMD.INIT (R277): every cell takes SoC_ocv and U_ocv, in STANDBY, REST and SAFE with |I_string| ≤ I_REST. -/
def State.initCells (s : State) : State :=
  let ok := s.mode == .standby || s.mode == .rest || s.mode == .safe
  if ok && decide (s.meas.iString.natAbs ≤ 10 * s.rd F.ESTIM_REST_I_REST) then
    s.cellList.foldl (fun s c => (s.anchorCell c false true).getD s) s
  else s

/-- INIT (R277): a write of ESTIM.CMD.INIT. -/
def execInitCmd (who : Initiator) (s : State) : Host.Outcome State Fault Refusal := .next (s.asWrite who A.ESTIM_CMD fun s => s.initCells)

/-- WRITE_NOW (R287): LEARN.CMD.WRITE_NOW writes both journals. -/
def execWriteNow (who : Initiator) (s : State) : Host.Outcome State Fault Refusal := .next (s.asWrite who A.LEARN_CMD fun s => s.journalBoth 6)

/-- LEARN.CMD.RESET_CELL (R292): the cell in VIEW takes Q_c 0 and RF_c 1.0; only for a secure session in STANDBY or SERVICE. -/
def State.resetCell (s : State) (who : Initiator) : State :=
  if s.secureOf who && (s.mode == .standby || s.mode == .service) then
    let c := s.rd F.LEARN_VIEW_CELL
    let s := (s.wr (capFld c) 0).setCell c { s.cell c with rf := 0x1000 }
    (s.record 2 0x2A .cellReset [c]).journal 0 6
  else s

/-- RESET_CELL (R292). -/
def execResetCell (who : Initiator) (s : State) : Host.Outcome State Fault Refusal := .next (s.asWrite who A.LEARN_CMD fun s => s.resetCell who)

/-- LEARNED_JOURNAL_INTERVAL (R287): every LEARN_H hours. -/
def execLearnedJournalInterval (s : State) : Host.Outcome State Fault Refusal := .next (s.journal 0 0)

/-- STATE_JOURNAL_INTERVAL (R287): every STATE_S seconds. -/
def execStateJournalInterval (s : State) : Host.Outcome State Fault Refusal := .next (s.journal 1 0)

/-- JOURNAL_WRITE_COMPLETE (R287): the slot written has been read back; a verify that fails is tried once more, a second failure is lasting. -/
def execJournalWriteComplete (verified : Bool) (s : State) : Host.Outcome State Fault Refusal :=
  match s.est.writing with
  | none => .next s
  | some _ =>
    if verified then .next ((if s.est.verifyFailed then s.retryPass 0x2A else s).commitWrite)
    else if s.est.verifyFailed then .next ((s.lastingW 0x2A .journalVerify).abandonWrite)
    else .next { s with est := { s.est with verifyFailed := true } }

/-- Deferred journal writes made (R288), with REASON 7. -/
def State.deferredJournals (s : State) : State :=
  let l := s.est.deferred
  let s := { s with est := { s.est with deferred := [] } }.wrB F.LEARN_STATUS_DEFERRED false
  l.foldl (fun s (x : Nat × Nat) => s.journal x.1 x.2) s

end Sys2Proof.Machine
end

