-- ==== Sys2Proof/Machine/Stimulus.lean ====
section
/-!
DEFINITION. The impedance stimulus of R250: exact phase arithmetic, a sine in fixed point, and the deviation the spec allows.
-/
namespace Sys2Proof.Machine
open Sys2Proof

/-- sin of a quarter-turn fraction z / 2^30 of π/2, in units of 2^−30 (six terms of its series). -/
def sinQuarter (z : Int) : Int :=
  let t := z * 1686629713 / 2 ^ 30
  let t2 := t * t / 2 ^ 30
  let one : Int := 2 ^ 30
  let a := one - t2 / 110
  let a := one - t2 * a / 2 ^ 30 / 72
  let a := one - t2 * a / 2 ^ 30 / 42
  let a := one - t2 * a / 2 ^ 30 / 20
  let a := one - t2 * a / 2 ^ 30 / 6
  t * a / 2 ^ 30

/-- sin of an angle in units of 2^−32 turns, in units of 2^−30. -/
def sinTurn (x : Int) : Int :=
  let x := x % 2 ^ 32
  let q := x / 2 ^ 30
  let z := x % 2 ^ 30
  if q = 0 then sinQuarter z else if q = 1 then sinQuarter (2 ^ 30 - z) else if q = 2 then -sinQuarter z else -sinQuarter (2 ^ 30 - z)

/-- W × DIV of the run. -/
def State.runPeriods (s : State) : Nat := s.capRd F.IMPED_WIN_W * s.capRd F.HARVEST_CFG_DIV

/-- ΣA_k·sin(…) of R250 at period count p, in units of 2^−30 × 0.01 A. -/
def State.toneSum (s : State) (p : Nat) : Int :=
  let wd := s.runPeriods
  let kk := s.capRd F.IMPED_CFG_K
  ((List.range kk).map fun k =>
    let q := s.capRd (F.IMPED_TONE_M k) * p % (max wd 1)
    let x : Int := (q * 2 ^ 32 / max wd 1 : Nat) - ((k * (k + 1) * 2 ^ 31 / max kk 1 : Nat) : Int)
    (s.capRd (F.IMPED_TONE_AMP k) : Int) * sinTurn x).foldl (· + ·) 0

/-- The stimulus at an outer sample, sQ15.16 A: env × ΣA_k·sin, with a deviation of at most 2 mA (131 LSB) that the spec leaves open (R250). -/
def State.stimNow (s : State) : Int :=
  let st := s.rd F.IMPED_STATUS_STATE
  if st == 1 || st == 2 || st == 3 then
    let full := s.capRd F.IMPED_CFG_RAMP_MS * 400000
    let exact := roundDiv (s.toneSum s.imp.p * s.imp.env * 65536) (max full 1 * 100 * 2 ^ 30)
    exact + clampI (Config.stimError (s.imp.p % max s.runPeriods 1)) (-130) 130
  else 0

end Sys2Proof.Machine
end

