-- ==== Sys2Proof/Machine/ImpedOps.lean ====
section
/-!
DEFINITION. The correlation of impedance runs (R256 to R259), result sets (R260) and internal temperatures (R261, R262), as operations in
exact integer arithmetic over the codes.
-/
namespace Sys2Proof.Machine
open Sys2Proof

/-- The tones of the run. -/
def State.tones (s : State) : List Nat := List.range (s.capRd F.IMPED_CFG_K)

/-- W of the run. -/
def State.winSlots (s : State) : Nat := s.capRd F.IMPED_WIN_W

/-- cos and −sin of the phase of m cycles per w slots at slot n, in 2^−30. -/
def refWave (w m n : Nat) : Int × Int :=
  let x : Int := (m * n % max w 1 * 2 ^ 32 / max w 1 : Nat)
  (sinTurn (x + 2 ^ 30), -sinTurn x)

/-- One sample added to an accumulator (R256): the slot index n within its window. -/
def State.accAdd (s : State) (key n : Nat) (v : Int) : State :=
  let w := s.winSlots
  let old := mget [] s.imp.acc key
  let add := [1, v, n * v] ++ s.tones.flatMap fun k =>
    let (c, m) := refWave w (s.capRd (F.IMPED_TONE_M k)) n
    [v * c, v * m]
  { s with imp := { s.imp with acc := mset [] s.imp.acc key (if old.isEmpty then add else List.zipWith (· + ·) old add) } }

/-- The slot of the run that a record's aperture lies in; a launch may precede the boundary that begins its slot (R141). -/
def State.runSlot (s : State) (r : Record) : Nat :=
  let p := (r.period + 2 ^ 32 - s.imp.startP0) % 2 ^ 32
  let early := decide (s.capRd F.HARVEST_POINT_POINT * 5 / 2 < s.rd F.RING_TIME_APERTURE_C)
  (if early then p + 1 else p) / max (s.capRd F.HARVEST_CFG_DIV) 1

/-- The node of a record correlated (R257, R258): every cell of it with a valid code; the string current with the string's first node. -/
def State.correlate (s : State) (x : RunRecord) (n : Nat) : State :=
  let w := max s.winSlots 1
  let i := s.runSlot x.r
  if i / w = 0 then s
  else
    let s := if s.nodes.head? == some n then s.accAdd (i / w * 1024 + 1023) (i % w) x.r.iStr else s
    if x.unsusp.contains n || x.r.missing.testBit n then s
    else (List.range (s.cellsOf n)).foldl (fun s j =>
      let c := s.cellBase n + j
      let v := (x.r.vp[c]?).getD 0xFFFF
      if codeValid v then s.accAdd (i / w * 1024 + c) (i % w) v else s) s

/-- A record whose every node has been correlated leaves the queue; its ring entry is free unless its plausibility check still waits. -/
def State.recordDone (s : State) (x : RunRecord) : State :=
  let i := s.runSlot x.r / max s.winSlots 1
  let s := { s with imp := { s.imp with recs := s.imp.recs.filter fun y => y.r.eseq != x.r.eseq || y.r.ring != x.r.ring,
                                        ends := (s.imp.ends.filter (·.1 != i)) ++ [(i, (x.r.sec, x.r.ns, x.r.frac), x.r.broken || s.imp.ends.any fun e => e.1 == i && e.2.2)] } }
  if s.harv.checks.any fun y => y.ring == x.r.ring && y.eseq == x.r.eseq then s else s.consume x.r.ring x.r.eseq

/-! ## Results -/

/-- A phasor in W/2 × 2^30 units from an accumulator, the least-squares line removed in closed form (R256). -/
def phasor (w m : Nat) (a : List Int) (k : Nat) : Int × Int :=
  let g (i : Nat) : Int := (a[i]?).getD 0
  let d := 2 * g 2 - ((w : Int) - 1) * g 1
  let h : Int := (m * 2 ^ 31 / max w 1 : Nat)
  let q : Int := (w : Int) * w - 1
  (g (3 + 2 * k) + 2 ^ 30 * 3 * d / q, g (4 + 2 * k) - 2 ^ 30 * 3 * d * sinTurn (h + 2 ^ 30) / (q * sinTurn h))

/-- The phasors (X, I) of a cell and tone over the windows of a set used for the cell: those with W samples (R257). -/
def State.phasors (s : State) (wins : List Nat) (c k : Nat) : List ((Int × Int) × (Int × Int)) :=
  let w := s.winSlots
  let m := s.capRd (F.IMPED_TONE_M k)
  wins.filterMap fun r =>
    let a := mget [] s.imp.acc (r * 1024 + c)
    let b := mget [] s.imp.acc (r * 1024 + 1023)
    if a.head? == some (w : Int) && b.head? == some (w : Int) then some (phasor w m a k, phasor w m b k) else none

/-- The mean |I_r,k| of a set lies below MIN_I (R260, LOW_STIM). -/
def State.lowStim (s : State) (wins : List Nat) (k : Nat) : Bool :=
  let w := s.winSlots
  let l := wins.map fun r => phasor w (s.capRd (F.IMPED_TONE_M k)) (mget [] s.imp.acc (r * 1024 + 1023)) k
  let mags := (l.map fun (a, b) => isqrt (a * a + b * b).natAbs).foldl (· + ·) 0
  decide (2 * mags < s.capRd F.IMPED_LIM_MIN_I * 10 * w * 2 ^ 30 * l.length)

/-- 100 µV per mA in 0.01 µΩ. -/
def ohmScale : Int := 10 ^ 7

/-- The share of |Z| by which the arithmetic may err (R256). -/
def arithError (n : Nat) (z : Int) : Int := clampI (Config.corrError n) (-(z.natAbs * 7 / 100000 : Nat)) (z.natAbs * 7 / 100000 : Nat)

/-- Z_k and U_k of a cell over its windows (R256, R260), with its flags. -/
def State.toneOf (s : State) (wins : List Nat) (c k : Nat) : Tone :=
  let l := s.phasors wins c k
  let low := s.lowStim wins k
  let sus := s.barredCell c
  let bled := s.imp.bled.contains c
  let bit (b : Bool) (i : Nat) : Nat := if b then 2 ^ i else 0
  let base := bit low 2 + bit bled 3 + bit sus 4
  if l.isEmpty then { flags := 2 + base }
  else
    let den := isum (l.map fun (_, i) => i.1 * i.1 + i.2 * i.2)
    let i0 := s.free + 16 * c + 2 * k
    let re := if den = 0 then (Config.freeValue i0 : Int) else roundAway (isum (l.map fun (x, i) => x.1 * i.1 + x.2 * i.2) * ohmScale) den + arithError i0 (roundAway (isum (l.map fun (x, i) => x.1 * i.1 + x.2 * i.2) * ohmScale) den)
    let im := if den = 0 then (Config.freeValue (i0 + 1) : Int) else roundAway (isum (l.map fun (x, i) => x.2 * i.1 - x.1 * i.2) * ohmScale) den + arithError (i0 + 1) (roundAway (isum (l.map fun (x, i) => x.2 * i.1 - x.1 * i.2) * ohmScale) den)
    let n := l.length
    let devs := l.map fun (x, i) =>
      let d := i.1 * i.1 + i.2 * i.2
      let a := roundAway ((x.1 * i.1 + x.2 * i.2) * ohmScale * 256) d - 256 * re
      let b := roundAway ((x.2 * i.1 - x.1 * i.2) * ohmScale * 256) d - 256 * im
      a * a + b * b
    let u := if n < 2 then 0xFFFF else min 0xFFFF ((isqrtNear ((isum devs).natAbs / (n * (n - 1))) + 128) / 256)
    let sat := satSigned 32 re != re || satSigned 32 im != im
    { re := satSigned 32 re, im := satSigned 32 im, u := u, nwin := min n 255,
      flags := bit (!low && !sus && !sat) 0 + base + bit sat 5 + bit (n == 1) 6 }

/-- Whether the angle of (re, im), im ≥ 0, is at least m − 0.5 in 0.01°. -/
def angleAtLeast (re im : Int) (m : Nat) : Bool :=
  let b : Int := (2 * (m : Int) - 1) * 2 ^ 32 / 72000
  decide (sinTurn (b + 2 ^ 30) * im - sinTurn b * re ≥ 0)

/-- Binary search for the angle, k bits to try. -/
def angleFrom (re im : Int) : Nat → Nat → Nat
  | 0, m => m
  | k + 1, m => if m + 2 ^ k ≤ 18000 && angleAtLeast re im (m + 2 ^ k) then angleFrom re im k (m + 2 ^ k) else angleFrom re im k m

/-- atan2(im, re) in 0.01°, rounded (R261). -/
def angleOf (re im : Int) : Int := if im ≥ 0 then angleFrom re im 15 0 else -(angleFrom re (-im) 15 0 : Int)

/-- Linear interpolation between two points of TTAB. -/
def tabBetween (p0 t0 p1 t1 x : Int) : Int := if p1 > p0 then t0 + roundAway ((t1 - t0) * (x - p0)) (p1 - p0) else t0 + roundAway ((t1 - t0) * (p0 - x)) (p0 - p1)

/-- The temperature of a phase (R261) and whether it lies outside the table. -/
def State.tabTemp (s : State) (x : Int) : Int × Bool :=
  let n := s.capRd F.IMPED_TCFG_NPTS
  let p (i : Nat) : Int := signedOf 16 (s.capRd (F.IMPED_TTAB_PHASE i))
  let t (i : Nat) : Int := signedOf 16 (s.capRd (F.IMPED_TTAB_TEMP i))
  let inside (i : Nat) : Bool := decide (min (p i) (p (i + 1)) ≤ x) && decide (x ≤ max (p i) (p (i + 1)))
  match (List.range (n - 1)).find? inside with
  | some i => (tabBetween (p i) (t i) (p (i + 1)) (t (i + 1)) x, false)
  | none => (if (x - p 0).natAbs ≤ (x - p (n - 1)).natAbs then t 0 else t (n - 1), true)

/-- The internal temperature of a cell (R261, R262) with its TFLAGS. -/
def State.cellInternal (s : State) (c : Nat) (z : Tone) : Int × Nat :=
  if s.capRd F.IMPED_TCFG_T_EN = 0 || z.nwin = 0 then (noData, 0)
  else
    let (t, out) := s.tabTemp (angleOf z.re z.im)
    let z2 := (z.re * z.re + z.im * z.im).natAbs
    let pctMax := s.capRd F.IMPED_TCFG_U_MAX_PCT
    let sure := !z.flags.testBit 6 && decide (10000 * z.u * z.u ≤ pctMax * pctMax * z2)
    let sound := z.flags.testBit 0 && !z.flags.testBit 3 && !out
    let near := s.sensors (s.cellNode c).1
    let dis := !near.isEmpty && near.all fun x => decide ((x - t).natAbs > s.capRd F.IMPED_TCFG_T_DIFF_MAX * 10)
    let bit (b : Bool) (i : Nat) : Nat := if b then 2 ^ i else 0
    (t, bit (sound && sure) 0 + bit out 1 + bit dis 2 + bit (sound && !sure) 3)

/-- The bytes of a cell in a result entry. -/
def cellBytes (tones : List Tone) (temp : Int × Nat) : List Byte :=
  (tones.flatMap fun z => leI 4 z.re ++ leI 4 z.im ++ le 2 z.u ++ [byte z.flags, byte z.nwin]) ++ leI 2 temp.1 ++ [byte temp.2, 0]

/-- A frequency in µHz (R248). -/
def State.freqOf (s : State) (k : Nat) : Nat :=
  (roundAway (s.capRd (F.IMPED_TONE_M k) * 400000000000000 : Nat) (max (s.capRd F.PSTAGE_PERIOD_PER * s.runPeriods) 1 : Nat)).toNat

/-- The mean I_r,k of a set, real and imaginary, in mA (Table 11-4). -/
def State.meanPhasor (s : State) (wins : List Nat) (k : Nat) : Int × Int :=
  let w := s.winSlots
  let l := wins.map fun r => phasor w (s.capRd (F.IMPED_TONE_M k)) (mget [] s.imp.acc (r * 1024 + 1023)) k
  let den : Int := (w * max l.length 1 * 2 ^ 30 : Nat)
  (roundAway (2 * isum (l.map (·.1))) den, roundAway (2 * isum (l.map (·.2))) den)

/-- The result of one set (R260): what every cell gives, the entries, the registers, what the estimator takes. -/
def State.closeSet (s : State) (wins : List Nat) (disc : Nat) (last : Bool) : State :=
  let cells := s.cellList
  let tones := cells.map fun c => (c, s.tones.map fun k => s.toneOf wins c k)
  let ref := s.capRd F.IMPED_TCFG_REF_TONE
  let temps := tones.map fun (c, z) => (c, s.cellInternal c ((z[ref]?).getD {}))
  let shadow := s.rd F.IMPED_STATUS_STATE == 4 || s.rd F.PAIR_STATUS_ROLE == 2
  let sum := isum (wins.map fun r => ((mget [] s.imp.acc (r * 1024 + 1023))[1]?).getD 0)
  let mean := roundAway sum (100 * (max (s.winSlots * wins.length) 1 : Nat))
  let partSet := tones.any fun (_, z) => z.any fun x => x.nwin < wins.length
  let bit (b : Bool) (i : Nat) : Nat := if b then 2 ^ i else 0
  let lastWin := wins.foldl max 0
  let (sec, ns, frac) := match s.imp.ends.find? (·.1 == lastWin) with
    | some (_, t, _) => t
    | none => (0, 0, 0)
  let broken := s.imp.ends.any fun e => e.1 ≤ lastWin && e.2.2
  let head (n : Nat) : List Byte := le 2 s.imp.run ++ le 2 s.imp.set
    ++ [byte n, byte (s.cellsOf n), byte s.tones.length, byte (bit last 0 + bit shadow 1 + bit broken 2 + bit partSet 3)]
    ++ le 2 (frac / 2 ^ 32) ++ le 4 ns ++ le 6 sec ++ le 2 wins.length ++ le 2 disc ++ leI 2 mean ++ [0, 0, 0, 0, 0, 0]
    ++ s.tones.flatMap fun k => le 4 (s.freqOf k) ++ leI 4 (s.meanPhasor wins k).1 ++ leI 4 (s.meanPhasor wins k).2
  let body (n : Nat) : List Byte := (List.range (s.cellsOf n)).flatMap fun i =>
    let c := s.cellBase n + i
    cellBytes ((tones[c]?).elim [] (·.2)) ((temps[c]?).elim (noData, 0) (·.2))
  let entries := s.nodes.map fun n => head n ++ body n
  let s := entries.foldl (fun s e =>
    let (s, taken) := s.push 99 e false
    if taken then s else s.wrB F.IMPED_STATUS_ENTRY_LOST true) s
  let s := (List.range 512).foldl (fun (s : State) c => s.wrI (pairFld F.IMPED_TEMP_CELL_LO F.IMPED_TEMP_CELL_HI c) (match temps[c]? with
    | some (_, t, f) => if f.testBit 0 then t else noData
    | none => noData)) s
  let s := if temps.any fun ((_, _, f) : Nat × Int × Nat) => f.testBit 2 then s.raise 0x26 6 else s
  let latest := tones.flatMap fun (c, z) => z.zipIdx.map fun (x, k) => (8 * c + k, x)
  let s := { s with free := s.free + 16 * cells.length,
                    imp := { s.imp with latest := latest, set := (s.imp.set + 1) % 65536, closing := none,
                                        bled := if s.on F.BAL_CFG_IMP_YIELD then s.imp.bled else s.imp.bledNext, bledNext := [],
                                        ends := s.imp.ends.filter (·.1 > lastWin), acc := s.imp.acc.filter fun (key, _) => !wins.contains (key / 1024) },
                    est := { s.est with impEnd := some ((sec * 1000 + ns / 1000000 : Nat) : Int),
                                        impTemp := (temps.filter fun ((_, _, f) : Nat × Int × Nat) => f.testBit 0).map fun ((c, t, _) : Nat × Int × Nat) => (c, t) } }
  let s := ((s.wr F.IMPED_SEQ_RUN s.imp.run).wr F.IMPED_SEQ_SET (s.imp.set + 65535)).bump F.IMPED_SETS_SETS
  let k := s.rd F.LEARN_LCFG_RES_TONE
  let s := tones.foldl (fun s (c, z) => match z[k]? with
    | some x => if x.flags.testBit 0 && !x.flags.testBit 3 then s.learnRf c x.re else s
    | none => s) s
  let s := if s.rfMoved then s.journalBoth 2 else s
  (s.raise 0x26 1).mirror (.impedSet (latest.map fun (k, z) => (k, z.re, z.im)))

/-- A set that waits to be closed is closed; after an abort, what the open set holds is published as the last set (R255). -/
def State.closeWaiting (s : State) : State :=
  match s.imp.closing with
  | some (wins, disc, last) => s.closeSet wins disc (last || (s.imp.lastSet && s.imp.good.isEmpty))
  | none =>
    if s.imp.lastSet then
      let s' := { s with imp := { s.imp with lastSet := false, good := [], disc := 0 } }
      if s.imp.good.isEmpty then s' else s'.closeSet s.imp.good s.imp.disc true
    else s

/-- What is left of the run before: its sets closed, the ring entries of its records free (DESIGN CHOICE, notes/assumptions/38.md). -/
def State.clearRun (s : State) : State :=
  let s := s.closeWaiting.closeWaiting
  let l := s.imp.recs
  let s := { s with imp := { s.imp with recs := [], acc := [], ends := [], startWait := [], closeWait := [], on0 := [], bled := [], bledNext := [], win := 0, bad := false,
                                        good := [], disc := 0, set := 0, closing := none, lastSet := false, aborted := false } }
  l.foldl (fun (s : State) x => if s.harv.checks.any fun y => y.ring == x.r.ring && y.eseq == x.r.eseq then s else s.consume x.r.ring x.r.eseq) s

/-- FREQk: the frequencies in force (R248). -/
def State.showFreqs (s : State) : State :=
  (List.range 8).foldl (fun (s : State) k => s.wr (F.IMPED_FREQ_F k) (if k < s.capRd F.IMPED_CFG_K then s.freqOf k else 0)) s

end Sys2Proof.Machine
end

