-- ==== Sys2Proof/Machine/ImpedFam.lean ====
section
/-!
DEFINITION. The meanings of the impedance commands (chapter 11).
-/
namespace Sys2Proof.Machine
open Sys2Proof

/-- IMPED.CMD.START taken up (R251). -/
def State.impedStart (s : State) : State := { s with imp := { s.imp with startPending := true } }

/-- IMPED_START (R251): IMPED.CMD.START requests an impedance run. -/
def execImpedStart (who : Initiator) (s : State) : Host.Outcome State Fault Refusal := .next (s.asWrite who A.IMPED_CMD fun s => s.impedStart)

/-- ΣA_k of the configured tones in sQ15.16 A. -/
def State.ampSum (s : State) : Int :=
  roundDiv (((List.range (s.rd F.IMPED_CFG_K)).map fun k => s.rd (F.IMPED_TONE_AMP k)).foldl (· + ·) 0 * 65536 : Nat) 100

/-- The refusal code of Table 11-1: the lowest row that holds, 0 for none. -/
def State.impedRefusal (s : State) : Nat :=
  let ring := s.rd F.RING_STATUS_STATE
  let st := s.rd F.CROWN_STAGE_CTRL_STATE
  let hi := s.rdI F.LOOP_IHI_I_HI
  let lo := s.rdI F.LOOP_ILO_I_LO
  if s.mode != .run then 1
  else if s.rd F.PAIR_STATUS_ROLE == 2 then 2
  else if !s.on F.IMPED_CFG_EN then 3
  else if s.rd F.IMPED_STATUS_STATE != 0 || s.imp.startStep != 0 then 4
  else if !s.on F.HARVEST_CFG_V_EN || (ring != 3 && ring != 4) then 5
  else if st == 5 || st == 6 then 6
  else if s.rd F.LOOP_STATUS_SOURCE == 2 then 7
  else if hi - s.loop.iCmd < s.ampSum || s.loop.iCmd - lo < s.ampSum then 8
  else if s.loop.conflict || s.prot.srd.isSome then 9
  else 0

/-- The configuration captured at the start (R248): every IMPED configuration word, PER, DIV, POINT and OUTER_DIV. -/
def State.captureRun (s : State) : State :=
  let addrs := [A.IMPED_CFG, A.IMPED_WIN, A.IMPED_RATE, A.IMPED_LIM, A.IMPED_TCFG, A.PSTAGE_PERIOD, A.HARVEST_CFG, A.HARVEST_POINT, A.LOOP_CFG]
    ++ (List.range 8).map (fun k => (F.IMPED_TONE_M k).addr) ++ (List.range 16).map (fun k => (F.IMPED_TTAB_PHASE k).addr)
  { s with imp := { s.imp with cap := addrs.map fun a => (a, s.word a) } }.showFreqs

/-- IMPED_START_EVAL (R251, Table 11-2 step 1): at the first outer sample after START the request is refused with a code, or accepted. -/
def execImpedStartEval (s : State) : Host.Outcome State Fault Refusal :=
  if !s.imp.startPending then .next s
  else
    let s := { s with imp := { s.imp with startPending := false } }
    let code := s.impedRefusal
    let s := s.wr F.IMPED_STATUS_REFUSE code
    let s := s.impStartJudged code
    if code != 0 then .next (s.raise 0x26 2)
    else
      let s := s.clearRun.captureRun
      let s := ((s.bump F.IMPED_RUNS_STARTED).raise 0x26 0).wr F.IMPED_STATUS_CONSEC 0
      .next { s with pwm := { s.pwm with lockNext := true },
                     imp := { s.imp with startStep := 1, run := s.rd F.IMPED_RUNS_STARTED } }

/-- IMPED_STOP (R255): abort code 1, the stimulus ramps down. -/
def execImpedStop (who : Initiator) (s : State) : Host.Outcome State Fault Refusal := .next (s.asWrite who A.IMPED_CMD fun s => s.abortRun 1)

/-- BAL_STAT read from every node at the start of a set, at the close of one, or both (R259). -/
def State.readBleeding (s : State) (start close : Bool) : State :=
  if s.on F.BAL_CFG_IMP_YIELD then s
  else
    let l := s.answering
    let s := l.foldl (fun s n => s.ringCmd n 0x11) s
    { s with imp := { s.imp with startWait := if start then l else s.imp.startWait, closeWait := if close then l else s.imp.closeWait } }

/-- Cells of the nodes that have not confirmed RUNNING = 0 when window 1 begins (R259). -/
def State.bledAtStart (s : State) : State :=
  if s.on F.BAL_CFG_IMP_YIELD then
    { s with imp := { s.imp with bled := s.bal.running0.flatMap fun n => (List.range (s.cellsOf n)).map fun i => s.cellBase n + i } }
  else s.readBleeding true false

/-- A window to be discarded (R254): a cause noted in it, or a spread of i_set above DI_MAX. -/
def State.windowBad (s : State) : Bool :=
  s.imp.bad || match s.imp.iSetMin, s.imp.iSetMax with
    | some a, some b => decide (b - a > tenthToQ (s.capRd F.IMPED_LIM_DI_MAX))
    | _, _ => false

/-- A window that counts towards the set; the R-th ends it, and without CONT the stimulus ramps down (Table 11-2 steps 5 and 6), and a shadow run is over. -/
def State.windowGood (s : State) : State :=
  let s := (s.wrB F.IMPED_STATUS_INTERRUPTED false).wr F.IMPED_STATUS_CONSEC 0
  if s.imp.win = 0 then s
  else
    let good := s.imp.good ++ [s.imp.win]
    if good.length < s.capRd F.IMPED_CFG_R then { s with imp := { s.imp with good := good } }
    else
      let cont := s.capRd F.IMPED_CFG_CONT == 1
      let s := { s with imp := { s.imp with good := [], disc := 0, closing := some (good, s.imp.disc, !cont) } }.readBleeding cont true
      if cont then s
      else match s.rd F.IMPED_STATUS_STATE with
        | 2 => s.wr F.IMPED_STATUS_STATE 3
        | 4 => s.wr F.IMPED_STATUS_STATE 0
        | _ => s

/-- A discarded window (R254); the MAXDISC-th in a row aborts the run with code 4. -/
def State.windowDiscarded (s : State) : State :=
  let s := s.discardWindow
  if s.rd F.IMPED_STATUS_STATE != 4 && s.rd F.IMPED_STATUS_CONSEC ≥ s.capRd F.IMPED_WIN_MAXDISC then s.abortRun 4 else s

/-- IMPED_WINDOW_END (R252, R254): W slots have passed; the window is discarded or counted, and the next begins. -/
def execImpedWindowEnd (s : State) : Host.Outcome State Fault Refusal :=
  let st := s.rd F.IMPED_STATUS_STATE
  if st == 1 || st == 2 || st == 4 then
    let first := s.imp.win == 0
    let s := if st == 1 then s.wr F.IMPED_STATUS_STATE 2 else s
    let s := if first then s.bledAtStart else s
    let s := if s.windowBad then s.windowDiscarded else s.windowGood
    .next { s with imp := { s.imp with win := s.imp.win + 1, bad := false, iSetMin := none, iSetMax := none } }
  else .next s

/-- IMPED_CORRELATION (R258): the work item of node n for the oldest record of the run that it has not processed. -/
def execImpedCorrelation (n : Fin 32) (s : State) : Host.Outcome State Fault Refusal :=
  match s.imp.recs.find? fun x => !x.done.contains n.val with
  | none => .next s
  | some x =>
    if !s.nodes.contains n.val then .next s
    else
      let s := s.correlate x n.val
      let y := { x with done := x.done ++ [n.val] }
      if s.nodes.all y.done.contains then .next (s.recordDone x)
      else .next { s with imp := { s.imp with recs := s.imp.recs.map fun z => if z.r.eseq = x.r.eseq ∧ z.r.ring = x.r.ring then y else z } }

/-- IMPED_SET_CLOSE (R260, R255): the set that waits is closed; after an abort, what the open set holds is published as the last set. -/
def execImpedSetClose (s : State) : Host.Outcome State Fault Refusal := .next s.closeWaiting

/-- IMPED_RAMP_END (R252 step 7): the first outer sample with env = 0 after a ramp down. -/
def execImpedRampEnd (s : State) : Host.Outcome State Fault Refusal :=
  if s.rd F.IMPED_STATUS_STATE == 3 && s.imp.env == 0 then .next (s.endStimulus.raise 0x26 5) else .next s

end Sys2Proof.Machine
end

