-- ==== Sys2Proof/Machine/ModeFam.lean ====
section
/-!
DEFINITION. The meanings of the mode commands (chapter 2): a request per target, the SAFE exit, the wake from dormant STANDBY.
-/
namespace Sys2Proof.Machine
open Sys2Proof

/-- MODE_REQ_TRANSPORT (R53, R54). -/
def execModeReqTransport (who : Initiator) (s : State) : Host.Outcome State Fault Refusal :=
  .next (s.asWrite who A.CROWN_MODE_REQ fun s => s.modeRequest who .transport false {})

/-- MODE_REQ_STANDBY (R37, R245, R242, R554): an orderly disconnect, a start abort or the SAFE exit. -/
def execModeReqStandby (who : Initiator) (s : State) : Host.Outcome State Fault Refusal :=
  .next (s.asWrite who A.CROWN_MODE_REQ fun s => s.modeRequest who .standby false {})

/-- SAFE_EXIT_JUDGEMENT (R554 step 3): 20 ms after the last FAULT_CLEAR reply. -/
def execSafeExitJudgement (s : State) : Host.Outcome State Fault Refusal :=
  if s.crown.trans == .safeExit && s.crown.clearAwait.isEmpty then .next s.judgeSafeExit else .next s

/-- MODE_REQ_CONNECT (R241): the partners the module sees at the request are given. -/
def execModeReqConnect (who : Initiator) (p : Partners) (s : State) : Host.Outcome State Fault Refusal :=
  .next (s.asWrite who A.CROWN_MODE_REQ fun s => s.modeRequest who .connect false p)

/-- MODE_REQ_RUN (R37): from REST. -/
def execModeReqRun (who : Initiator) (p : Partners) (s : State) : Host.Outcome State Fault Refusal :=
  .next (s.asWrite who A.CROWN_MODE_REQ fun s => s.modeRequest who .run false p)

/-- MODE_REQ_REST (R37): from RUN. -/
def execModeReqRest (who : Initiator) (s : State) : Host.Outcome State Fault Refusal :=
  .next (s.asWrite who A.CROWN_MODE_REQ fun s => s.modeRequest who .rest false {})

/-- MODE_REQ_SAFE_ACKNOWLEDGE (Table 2-3): accepted as a no-op. -/
def execModeReqSafeAcknowledge (who : Initiator) (s : State) : Host.Outcome State Fault Refusal :=
  .next (s.asWrite who A.CROWN_MODE_REQ fun s => s.modeReqWrite who 6 false {})

/-- MODE_REQ_SERVICE (R37): a secure request from STANDBY or SAFE with the contactors open by feedback. -/
def execModeReqService (who : Initiator) (s : State) : Host.Outcome State Fault Refusal :=
  .next (s.asWrite who A.CROWN_MODE_REQ fun s => s.modeRequest who .service false {})

/-- MODE_REQ_DORMANT (R51): TARGET 0x1 with DORMANT. -/
def execModeReqDormant (who : Initiator) (s : State) : Host.Outcome State Fault Refusal :=
  .next (s.asWrite who A.CROWN_MODE_REQ fun s => s.modeRequest who .standby true {})

/-- The CLOCK.WAKE cause of a wake request. -/
def wakeCause : Wake → Nat
  | .host => 1 | .ralkiul => 2 | .can _ => 3 | .input => 4 | .loop => 5

/-- DORMANT_WAKE (R52): host chip-select, a Ralkiul message, a CAN dominant edge of at least 5 µs on a sleeping channel (R457), an edge on a digital input, or the fault loop opening. -/
def execDormantWake (w : Wake) (s : State) : Host.Outcome State Fault Refusal :=
  match w with
  | .can ch =>
    if s.on F.CROWN_MODE_DORMANT && s.on (F.CAN_CFG_EN ch.val) && s.on (F.CAN_CFG_SLEEP_EN ch.val) then .next ((s.raise (0x50 + ch.val) 6).wakeDormant 3) else .next s
  | w => .next (s.wakeDormant (wakeCause w))

/-- AON_TIMER_WAKE (R52, R418): the always-on timer, where an interval is set and CD11 has no lasting verdict. -/
def execAonTimerWake (s : State) : Host.Outcome State Fault Refusal :=
  if s.rd F.CLOCK_CFG_AON_WAKE_S != 0 && !s.bit F.CLOCK_MONFAIL_DOMAINS 11 then .next (s.wakeDormant 6) else .next s

end Sys2Proof.Machine
end

