-- ==== Sys2Proof/Machine/Power.lean ====
section
/-!
DEFINITION. The meanings of the power-stage commands (chapter 8): the phase-0 boundary, period starts, the centre take-up, trips, fault
returns and the shedding and burst timers.
-/
namespace Sys2Proof.Machine
open Sys2Proof

/-! ## Periods -/

/-- The finished period of a phase enters the sums of the plausibility models (R227). -/
def State.accumulate (s : State) (n : Nat) : State :=
  let ph := s.phase n
  let p : Int := 16 * s.perOf n
  let bb := s.buckBoost n
  let onA := ph.legA.onTotal
  let onB := ph.legB.onTotal
  let vt := if bb then onB * s.loop.vBus - onA * s.loop.vStr else onA * s.loop.vBus - p * s.loop.vStr
  let qBus := (if bb then onB else onA) * ph.iStart
  let qStr := (if bb then onA else p) * ph.iStart
  let s := s.setPhase n { ph with sumVt := ph.sumVt + vt }
  { s with loop := { s.loop with sumBus := s.loop.sumBus + qBus, sumStr := s.loop.sumStr + qStr } }

/-- A phase stops at a period boundary: its gates off, N_on lower by one (Table 8-4 step 3). -/
def State.stopPhase (s : State) (n : Nat) : State :=
  let s := (((s.wr (F.PHASE_STAT_STATE n) 0).wrB (F.PHASE_STAT_SKIPPING n) false).setRunning n false).setPhase n {}
  { s with pwm := { s.pwm with respread := true }, loop := { s.loop with excluded := true } }.refreshGates

/-- The ramp of a shed at the phase's period start (Table 8-4 steps 2 and 3, R201). -/
def State.shedStep (s : State) (n : Nat) : State :=
  let ph := s.phase n
  if ph.shedBack then ((s.wr (F.PHASE_STAT_STATE n) 1).setPhase n { ph with shedBack := false, shedM := none, excluded := true })
  else if s.rd (F.PHASE_STAT_STATE n) == 2 then
    let m := ph.shedM.getD 0 + 1
    if m > s.rd F.PSTAGE_SHED_SHED_RAMP then
      (((s.stopPhase n).wrB F.PSTAGE_STATUS_SHEDDING false).bump F.PSTAGE_SHEDCNT_SHEDS).raise 0x20 0
    else s.setPhase n { ph with shedM := some m, excluded := true }
  else s

/-- A phase starts or resumes at its first period boundary (R199, R208). -/
def State.beginPhase (s : State) (n : Nat) : State :=
  let ph := s.phase n
  if ph.starting then
    let already := s.bit F.PSTAGE_RUNMASK_RUN n
    let s := ((s.wr (F.PHASE_STAT_STATE n) 1).setRunning n true).setPhase n { ph with starting := false, excluded := true }
    if already then s.refreshGates
    else { s with pwm := { s.pwm with respread := true, lockNext := s.pwm.lockNext || s.imp.relock } }.refreshGates
  else s

/-- The new offset and period of a transition period (R178, R186): the change reduced into (−PER/2, +PER/2]; a change of PER clears the residual (R196). -/
def State.takeOffset (s : State) (n : Nat) : State :=
  let ph := s.phase n
  match ph.newOffset with
  | none => s.setPhase n { ph with delta := 0 }
  | some (o, per) =>
    let d := ((o : Int) - s.rd (F.PHASE_STAT_OFFSET n)) % (per : Int)
    let d := if 2 * d > per then d - per else d
    (s.wr (F.PHASE_STAT_OFFSET n) o).setPhase n { ph with newOffset := none, delta := d, per := per, residual := if per = s.perOf n then ph.residual else 0 }

/-- Entry into and exit from energising operation at a period start (R196, Table 9-5). -/
def State.takeLight (s : State) (n : Nat) : State :=
  let ph := s.phase n
  if s.on (F.PHASE_STAT_SKIPPING n) then
    if !s.skipAllowed || !s.shareBelow n 11 10 then
      (((s.wrB (F.PHASE_STAT_SKIPPING n) false).setPhase n { ph with residual := 0, excluded := true }).setInteg n 0).refreshLight
    else s
  else if s.skipAllowed && s.shareBelow n 1 1 then
    (((s.wrB (F.PHASE_STAT_SKIPPING n) true).setPhase n { ph with residual := 0, excluded := true }).presetTo n (s.lastFraction n)).refreshLight
  else s

/-- The trips of the finished period shown (Table 8-6), and the count of consecutive tripped periods and the freeze of the instance carried on (R190, R219). -/
def State.closePeriod (s : State) (n : Nat) : State :=
  let ph := s.phase n
  let s := (s.wrB (F.PHASE_STAT_CBC_POS n) (ph.cbc.testBit 0)).wrB (F.PHASE_STAT_CBC_NEG n) (ph.cbc.testBit 1)
  s.setPhase n { ph with cbc := 0, tripRun := if ph.cbc = 0 then 0 else ph.tripRun, freeze := ph.freeze - 1 }

/-- A phase's period starts (R180 to R186, R189): the finished period is accounted, a shed ramp, an offset and a light-load change are taken up, the delivered command comes into force and the edges are placed. In a burst off interval every gate stays off. -/
def State.periodStart (s : State) (n : Nat) : State :=
  if !s.bit F.PSTAGE_RUNMASK_RUN n && !(s.phase n).starting then s
  else if s.rd F.PSTAGE_STATUS_LIGHT == 3 then
    let s := s.closePeriod n
    s.setPhase n { s.phase n with legA := {}, legB := {} }
  else
    let s := if (s.phase n).starting then s else s.accumulate n
    let s := ((s.beginPhase n).shedStep n).closePeriod n
    if !s.bit F.PSTAGE_RUNMASK_RUN n then s
    else
      let ph := s.phase n
      let s := s.setPhase n { ph with u := ph.uStart.getD ph.u, uStart := none, uCentre := none }
      ((s.takeOffset n).takeLight n).computeEdges n

/-- PERIOD_START. -/
def execPeriodStart (n : Fin 16) (s : State) : Host.Outcome State Fault Refusal := .next (s.periodStart n.val)

/-- CENTRE_TAKEUP (R182): the command delivered for t_c comes into force and moves only the OFF edges; after a trip in the period it has no effect (R189). -/
def execCentreTakeup (n : Fin 16) (s : State) : Host.Outcome State Fault Refusal :=
  let ph := s.phase n.val
  match ph.uCentre with
  | none => .next s
  | some u =>
    if ph.cbc ≠ 0 || !s.bit F.PSTAGE_RUNMASK_RUN n.val || s.on (F.PHASE_STAT_SKIPPING n.val) then .next (s.setPhase n.val { ph with uCentre := none })
    else
      let x := s.period n.val
      let bb := s.buckBoost n.val
      let tOn (d : Nat) : Nat := if bb && d == 32768 then x.p else legOn x d
      .next (s.setPhase n.val { ph with u := u, uCentre := none, legA := moveOff x (tOn (dutyA u)) ph.legA,
                                        legB := if bb then moveOff x (tOn (dutyB u)) ph.legB else ph.legB })

/-! ## Trips and fault returns -/

/-- CBC_TRIP (R187 to R190): a comparator that sees its input beyond the threshold outside blanking puts the phase into its lowering state (positive) or its raising state (negative) for the rest of the period; in energising operation the pulse ends with it. -/
def execCbcTrip (n : Fin 16) (positive : Bool) (input : ComparatorInput) (s : State) : Host.Outcome State Fault Refusal :=
  let k := n.val
  let ph := s.phase k
  if !s.bit F.PSTAGE_RUNMASK_RUN k || s.blanked k input.t || !s.overLimit k positive input.uv then .next s
  else
    let x := s.period k
    let bb := s.buckBoost k
    let first := ph.cbc = 0
    let run := if first then ph.tripRun + 1 else ph.tripRun
    let s := if first then s.bump (F.PHASE_COUNT_CBC k) else s
    let s := s.wrB (if positive then F.PHASE_STAT_CBC_POS k else F.PHASE_STAT_CBC_NEG k) true
    let s := s.setPhase k { ph with cbc := ph.cbc ||| (if positive then 1 else 2), tripRun := run, residual := 0, uCentre := none, freeze := 2,
                                    legA := turnLeg (if bb then positive else !positive) input.t x.stop ph.legA,
                                    legB := if bb then turnLeg (!positive) input.t x.stop ph.legB else ph.legB }
    let s := if s.rd F.IMPED_STATUS_STATE = 1 ∨ s.rd F.IMPED_STATUS_STATE = 2 then { s with imp := { s.imp with bad := true } } else s
    .next (if first && run == s.rd F.PSTAGE_CBC_CBC_N then (s.raise 0x20 6).raise 0x21 (16 + k) else s)

/-- FAULT_RETURN (R192): a fault level turns every gate of the phase off and latches it faulted, with the class of DESAT_REACT; the idle level is reported in FLT_OK. -/
def execFaultReturn (n : Fin 16) (fault : Bool) (s : State) : Host.Outcome State Fault Refusal :=
  let k := n.val
  if !fault then .next ((s.wrB (F.PHASE_STAT_FLT_OK k) true).clearCond (.phaseFault k))
  else
    let shed := s.rd (F.PHASE_STAT_STATE k) == 2
    let s := (((s.wrB (F.PHASE_STAT_FLT_OK k) false).wr (F.PHASE_STAT_STATE k) 3).wrBit F.PSTAGE_RUNMASK_FAULTMASK k true).setRunning k false
    let s := (s.wrB (F.PHASE_STAT_SKIPPING k) false).setPhase k {}
    let s := if shed then s.wrB F.PSTAGE_STATUS_SHEDDING false else s
    let s := { s.refreshLight with loop := { s.loop with excluded := true } }.refreshGates
    let s := (s.raise 0x20 5).raise 0x21 k
    let s := if s.on F.TESTMUX_STATUS_GTEST then s.endGateTest 8 true else s
    let cls := RClass.ofCode (s.rd F.PSTAGE_CBC_DESAT_REACT)
    .next (((s.addCond (.phaseFault k) cls).lasting 0x20 (evCode 0x20 .desat)).react cls 0x20 .desat [k])

/-- PHASE_CLR_FAULT (R192): in STANDBY, SAFE or SERVICE, while the return reads no fault, the latched fault clears. -/
def State.phaseClear (s : State) (k : Nat) : State :=
  if (s.mode = .standby ∨ s.mode = .safe ∨ s.mode = .service) ∧ s.on (F.PHASE_STAT_FLT_OK k) ∧ s.rd (F.PHASE_STAT_STATE k) = 3 then
    ((s.wr (F.PHASE_STAT_STATE k) 0).wrBit F.PSTAGE_RUNMASK_FAULTMASK k false).clearCond (.phaseFault k)
  else s

/-- PHASE_CLR_FAULT: CLR_FAULT of PHASE.CMDn is written 1. -/
def execPhaseClrFault (who : Initiator) (n : Fin 16) (s : State) : Host.Outcome State Fault Refusal :=
  .next (s.asWrite who (A.PHASE_CMD n.val) fun s => s.crossing who (A.PHASE_CMD n.val) 1 fun s => s.phaseClear n.val)

/-! ## Boundaries and timers -/

/-- A shed in progress is cancelled (R201): the phase returns to its full share at its next period boundary, SHED_CANCEL is raised and counted; lock says whether a lockout follows. -/
def State.cancelShed (s : State) (lock : Bool) : State :=
  match s.running.find? fun n => s.rd (F.PHASE_STAT_STATE n) == 2 with
  | none => s
  | some n =>
    let s := (s.setPhase n { s.phase n with shedBack := true }).wrB F.PSTAGE_STATUS_SHEDDING false
    let s := (s.bump F.PSTAGE_SHEDCNT_CANCELS).raise 0x20 2
    if lock then s.wrB F.PSTAGE_STATUS_SHED_LOCK true else s

/-- The gates of the running phases start again after a burst off interval (R197, R208); within a burst they go on. -/
def State.restartPhases (s : State) : State :=
  if s.rd F.PSTAGE_STATUS_LIGHT == 3 then s.running.foldl (fun s n => s.setPhase n { s.phase n with starting := true, excluded := true }) s else s

/-- Normal switching resumes after a burst (R197); instance 16 is preset to i_cmd and ramps from its measured value (Table 9-5). -/
def State.leaveBurst (s : State) : State :=
  let s := (s.restartPhases.wr F.PSTAGE_STATUS_LIGHT 0).raise 0x20 4
  let s := { s with pwm := { s.pwm with burstLeft := 0, burstOff := 0, burstExit := false, burstStart := false } }
  let s := s.wrB (F.LOOP_ISTAT_FROZEN 16) false
  let s := (List.range 16).foldl (fun s k => s.wrB (F.LOOP_ISTAT_FROZEN k) false) s
  { s.presetTo 16 s.loop.iCmd with loop := { (s.presetTo 16 s.loop.iCmd).loop with rampFrom := s.loop.rampFrom ++ [16] } }

/-- Length of the off interval (R197): ceil(ON × (I / I_dem − 1)) periods, at most 4,095. -/
def burstOffLength (on : Nat) (i : Int) (iDem : Int) : Nat :=
  if iDem ≤ 0 then 4095 else min 4095 ((-((-((on : Int) * (i - iDem))) / iDem)).toNat)

/-- A burst starts at a phase-0 boundary (R197). -/
def State.burstBegin (s : State) : State :=
  let i := tenthToQ (s.rd F.PSTAGE_BURST_I)
  let s := s.restartPhases.wr F.PSTAGE_STATUS_LIGHT 2
  let s := { s with pwm := { s.pwm with burstStart := false, burstLeft := s.rd F.PSTAGE_BURST_ON,
                                        burstOff := burstOffLength (s.rd F.PSTAGE_BURST_ON) i s.pwm.iDem } }
  let s := (List.range 16).foldl (fun s k => s.wrB (F.LOOP_ISTAT_FROZEN k) false) s
  s.wrB (F.LOOP_ISTAT_FROZEN 16) true

/-- A burst off interval begins (R197): every gate off, the inner instances frozen and not evaluated (Table 9-5), the windows that contain it not judged (R227). -/
def State.burstRest (s : State) : State :=
  let s := { s.wr F.PSTAGE_STATUS_LIGHT 3 with loop := { s.loop with excluded := true } }
  let s := s.running.foldl (fun s n => s.setPhase n { s.phase n with legA := {}, legB := {}, excluded := true }) s
  (List.range 16).foldl (fun s k => (s.wrB (F.LOOP_ISTAT_FROZEN k) true).wrB (F.LOOP_ISTAT_ACTIVE k) false) s

/-- The burst count at a phase-0 boundary (R197). -/
def State.burstBoundary (s : State) : State :=
  if s.pwm.burstExit then s.leaveBurst
  else if s.pwm.burstStart then s.burstBegin
  else if s.rd F.PSTAGE_STATUS_LIGHT == 2 then
    let left := s.pwm.burstLeft - 1
    let s := { s with pwm := { s.pwm with burstLeft := left } }
    if left = 0 then
      if s.pwm.burstOff = 0 then s.burstBegin else s.burstRest
    else s
  else if s.rd F.PSTAGE_STATUS_LIGHT == 3 then { s with pwm := { s.pwm with burstOff := s.pwm.burstOff - 1 } }
  else s

/-- The interlock of an impedance run is taken (R198): a shed is cancelled without a lockout, a burst ends or does not begin, balancing yields (Table 11-2 step 2). -/
def State.takeInterlock (s : State) : State :=
  let s := (s.wrB F.PSTAGE_STATUS_IMP_LOCK true).cancelShed false
  let s := if s.rd F.PSTAGE_STATUS_LIGHT ≥ 2 then s.leaveBurst else s
  let s := if s.imp.startStep == 1 && s.on F.BAL_CFG_IMP_YIELD then s.balStop.wrB F.BAL_STATUS_YIELDED true else s
  { s with pwm := { s.pwm with lockNext := false, burstStart := false }, imp := { s.imp with startStep := if s.imp.startStep = 1 then 2 else s.imp.startStep, relock := false } }

/-- A phase-0 boundary begins a slot every DIV periods (R140); the first one at least a period after the interlock is the start boundary of a run (Table 11-2 step 3). -/
def State.slotBoundary (s : State) : State :=
  let q := s.harv.slotP + 1
  if q < s.rd F.HARVEST_CFG_DIV then { s with harv := { s.harv with slotP := q } }
  else
    let s := { s with harv := { s.harv with slotP := 0 } }
    if s.imp.startStep = 2 then
      let s := { s.wr F.IMPED_STATUS_STATE 1 with imp := { s.imp with startStep := 0, p := 0, startP0 := s.pwm.p0, env := 0, win := 0, bad := false, iSetMin := none, iSetMax := none } }
      s.mirror (.impedRun s.imp.run s.imp.startP0 (s.imp.cap.map fun (a, w) => (a, w.toNat)))
    else s

/-- The gate test starts or ends at a phase-0 boundary (R545). -/
def State.testBoundary (s : State) : State :=
  if s.tmx.stopNext then
    { (s.gatesOff.wrB F.TESTMUX_STATUS_GTEST false).dropEnables with tmx := { s.tmx with stopNext := false, startNext := false } }
  else if s.tmx.startNext then
    let named := phases.filter fun n => s.bit F.TESTMUX_GTEST_PHASES n
    let s := { s with tmx := { s.tmx with startNext := false } }
    let per := s.rd F.PSTAGE_PERIOD_PER
    ((named.zip (List.range named.length)).foldl (fun s (n, j) =>
      (((s.wr (F.PHASE_STAT_STATE n) 1).setRunning n true).wr (F.PHASE_STAT_OFFSET n) (interleave j per named.length)).setPhase n
        { per := per, u := s.rd F.TESTMUX_GTEST2_DUTY * 128 }) s).refreshGates
  else s

/-- PHASE0_BOUNDARY (R76, R185, R197, R200, R242, R245, R250, R356, R545): the phase-0 period counter completes a period. -/
def execPhase0Boundary (s : State) : Host.Outcome State Fault Refusal :=
  let st := s.rd F.IMPED_STATUS_STATE
  let s := { s with stg := { s.stg with lead := s.stg.lead - 1 }, pwm := { s.pwm with outerCnt := s.pwm.outerCnt + 1, p0 := (s.pwm.p0 + 1) % 2 ^ 32, p0At := s.mono },
                    imp := { s.imp with p := if st == 1 || st == 2 || st == 3 then s.imp.p + 1 else s.imp.p } }
  let s := s.slotBoundary
  let s := if s.pwm.stopNext then s.afterGateStop else s
  let s := if s.pwm.lockNext then s.takeInterlock else s
  let s := if s.pwm.respread then { s.spread with pwm := { s.spread.pwm with respread := false } } else s
  let s := s.burstBoundary.testBoundary
  .next (if s.rd F.PAIR_STATUS_ROLE == 1 && s.on F.PAIR_STATUS_LINK_UP then s.send (.boundary (s.timeBase 0)) else s)

/-- SHED_HOLD_EXPIRY (R201): the lockout after a cancel ends. -/
def execShedHoldExpiry (s : State) : Host.Outcome State Fault Refusal := .next (s.wrB F.PSTAGE_STATUS_SHED_LOCK false)

/-- BURST_OFF_END (R197): the off interval has counted down and the next burst starts. -/
def execBurstOffEnd (s : State) : Host.Outcome State Fault Refusal :=
  if s.rd F.PSTAGE_STATUS_LIGHT = 3 ∧ s.pwm.burstOff = 0 then .next s.burstBegin else .next s

end Sys2Proof.Machine
end

