-- ==== Sys2Proof/Machine/LoopFam.lean ====
section
/-!
DEFINITION. The meanings of the loop-engine commands (chapter 9): inner, outer and start samples and the plausibility window; with the
shed, add and burst decisions an outer sample takes (chapter 8), the references of a start (chapter 10) and the stimulus (chapter 11).
-/
namespace Sys2Proof.Machine
open Sys2Proof

/-! ## Inner samples -/

/-- The engine evaluates phase n's instance now (Table 9-4): it evaluates, the phase runs or is about to start, no burst off interval; the standby evaluates in shadow the phases with a mirrored share (R222). -/
def State.evaluates (s : State) (n : Nat) : Bool :=
  s.on F.LOOP_STATUS_EVAL && s.rd F.PSTAGE_STATUS_LIGHT != 3 && (s.bit F.PSTAGE_RUNMASK_RUN n || (s.phase n).starting || (s.rd F.PAIR_STATUS_ROLE == 2 && s.share n != 0))

/-- One inner evaluation from a phase current: the command and the state after it. -/
def State.evalPhase (s : State) (n : Nat) (y : Int) : Nat × State :=
  if s.on (F.PHASE_STAT_SKIPPING n) then s.evalEnergising n y else s.evalInner n y

/-- INNER_SAMPLE (R208, R209, R225): the sample at the period start gives the command for t_c, the sample at t_c the one for the next period start; with INNER_2X = 0 only the latter, in energising operation only the former. A late command is dropped, counted and raised; two in a row of one phase make an active unit relinquish (R361, cause 0x06). -/
def execInnerSample (n : Fin 16) (atStart : Bool) (code : BitVec 16) (late : Bool) (s : State) : Host.Outcome State Fault Refusal :=
  let k := n.val
  let y := phaseCurrent code.toInt (s.rd (F.PHASE_ISCALE_SCALE k))
  let s := if atStart then
      let ph := s.phase k
      s.setPhase k { ph with iStart := y, iLast := y, iFirst := some (ph.iFirst.getD y) }
    else s
  let skip := s.on (F.PHASE_STAT_SKIPPING k)
  let wanted := if skip then atStart else !atStart || s.on F.LOOP_CFG_INNER_2X
  if !s.evaluates k || !wanted then .next s
  else
    let (u, s) := s.evalPhase k y
    let ph := s.phase k
    if late then
      let s := ((s.bump F.LOOP_LATE_COUNT).raise 0x22 7).setPhase k { ph with lateRun := ph.lateRun + 1 }
      .next (if ph.lateRun = 1 && s.rd F.PAIR_STATUS_ROLE == 1 then s.relinquishOr 6 fun s => s.react .S 0x22 .lateCommand [k] else s)
    else if skip || !atStart then .next (s.setPhase k { ph with uStart := some u, lateRun := 0 })
    else .next (s.setPhase k { ph with uCentre := some u, lateRun := 0 })

/-- START_SAMPLE (R208): the evaluation PER / 2 before a phase's first period start, also one that follows a burst off interval; its share is formed with the phase among the running ones. -/
def execStartSample (n : Fin 16) (code : BitVec 16) (s : State) : Host.Outcome State Fault Refusal :=
  let k := n.val
  if !s.on F.LOOP_STATUS_EVAL || !((s.phase k).starting || (s.rd F.PSTAGE_STATUS_LIGHT == 3 && s.bit F.PSTAGE_RUNMASK_RUN k)) then .next s
  else
    let mask := s.rd F.PSTAGE_RUNMASK_RUN
    let (u, s) := (s.wrBit F.PSTAGE_RUNMASK_RUN k true).evalInner k (phaseCurrent code.toInt (s.rd (F.PHASE_ISCALE_SCALE k)))
    let s := s.wr F.PSTAGE_RUNMASK_RUN mask
    .next (s.setPhase k { s.phase k with uStart := some u })

/-! ## Outer samples: measurements and references -/

/-- CD0 clocks between two outer samples (R208). -/
def State.outerClocks (s : State) : Nat := s.rd F.LOOP_CFG_OUTER_DIV * s.rd F.PSTAGE_PERIOD_PER

/-- V_link serves as V_bus while K4 or K5 is reported open (R232). -/
def State.busOpen (s : State) : Bool := !s.fbClosed 4 || !s.fbClosed 5

/-- The measurements of an outer sample taken into the state and its registers (R208, R231, R232, Table 2-13). -/
def State.takeReadings (s : State) (r : Readings) : State :=
  let s := { s with meas := r }
  let s := ((s.wrI F.TRACK_VLINK_V_LINK r.vLink).wrI F.TRACK_VPLANT_V_PLANT r.vPlant).takeVcoil (satCount 16 r.vCoil)
  let s := (s.wr F.SUPPLY_VOLTS_VAUX (satCount 16 r.vAux)).wr F.SUPPLY_VOLTS_BANK (satCount 16 r.bank)
  { s with loop := { s.loop with vStr := toQ r.vString, vBus := toQ (if s.busOpen then r.vLink else r.vPlant) } }

/-- clamp(clocks / ms, 0, 1) × x, rounded (R238, R240, R245). -/
def ratio (x : Int) (clocks ms : Nat) : Int := roundDiv (x * (min clocks (ms * 400000) : Nat)) (max (ms * 400000) 1 : Nat)

/-- DROOP × o18: mΩ times A, in sQ15.16 V (R240). -/
def State.droop (s : State) : Int := roundDiv ((s.rd F.TRACK_DROOP_DROOP : Int) * s.instOut 18) 1000

/-- The reference r18 of instance 18 in sQ15.16 V (R238, R240, R245; in RUN the dispatch set-point). Before tracking it is the measurement itself. -/
def State.refBus (s : State) : Int :=
  let t := s.track
  if t.disc == 7 then toQ t.vLower0 + ratio (tenthToQ (s.rd F.TRACK_SHUT_V_SHUT) - toQ t.vLower0) t.clocks (s.rd F.TRACK_FORM_T_FORM) - s.droop
  else if s.effMode == .connect then
    if t.forming then toQ t.vClose + ratio (tenthToQ (s.rd F.TRACK_FORM_V_TGT) - toQ t.vClose) t.clocks (s.rd F.TRACK_FORM_T_FORM) - s.droop
    else if t.tracking then
      if s.on F.TRACK_CFG_LAW then toQ t.vLink0 + ratio (toQ s.meas.vPlant - toQ t.vLink0) t.clocks (s.rd F.TRACK_TIMES_T_TRACK)
      else toQ s.meas.vPlant
    else s.loop.vBus
  else s.setPoint

/-- An outer instance's output where it is enabled, evaluated without a reference ramp. -/
def State.evalBound (s : State) (k : Nat) (flip : Bool) (r y : Int) (other : Int) : Int × State :=
  if s.instOn k then s.evalPI k flip r y else (other, s)

/-- The bus is being lowered by instance 18 (R245), where it is enabled. -/
def State.lowers (s : State) : Bool := s.track.disc == 7 && s.instOn 18

/-- The source instance of the mode evaluated (R206, Table 9-4), instance 18 also while it lowers the bus (R245): its output as i_set, or the dispatch current set-point. -/
def State.evalSource (s : State) : Int × State :=
  let src := s.rd F.LOOP_STATUS_SOURCE
  let i := toQ s.meas.iString
  if s.effMode == .connect || src == 2 || s.lowers then
    let r := s.refBus
    let s := s.wrI F.TRACK_REF_R18 r
    if s.instOn 18 then
      let (re, s) := s.rampRef 18 r s.loop.vBus
      let s := s.wrI F.TRACK_ERRV_E_TRK (re - s.loop.vBus)
      s.evalPI 18 true re s.loop.vBus
    else (0, s)
  else if src == 1 then
    if s.instOn 17 then
      let y := satSigned 32 (roundDiv (s.loop.vStr * i) 65536000)
      let (re, s) := s.rampRef 17 s.setPoint y
      s.evalPI 17 false re y
    else (0, s)
  else (s.setPoint, s)

/-- The envelope of an SRD on i_set (Table 16-4 step 2): i0 falling linearly to 0 over T_SRD, 10 ms for a fast one. -/
def State.srdEnvelope (s : State) (d : Srd) : Int :=
  let t := (if d.fast then 10 else s.rd F.SAFE_SRD_T_SRD) * 400000
  roundDiv (s.rdI F.SAFE_I0_I0 * ((t - s.loop.srdClocks.getD 0 : Nat) : Int)) (max t 1 : Nat)

/-- i_set of the outer sample (R207, Table 9-4): 0 during the current ramp of REST or a disconnect, the envelope during an SRD, the frozen one in HOLD; a shadow evaluation takes the mirrored one it is given. -/
def State.setCurrent (s : State) (given : Option Int := none) : Int × State :=
  let (x, s) := s.evalSource
  let rampDown := s.crown.trans == .restRamp || (s.crown.trans == .disconnect && s.track.disc == 2)
  let x := match s.prot.srd with
    | some d => if d.trip then x else s.srdEnvelope d
    | none => if rampDown then 0 else if s.mode == .hold then s.loop.held else x
  (given.getD x, s)

/-! ## Outer samples: the total current reference -/

/-- The i_tot clamp (R207), in sQ15.16. -/
def State.iTotMax (s : State) : Int := tenthToQ (s.rd F.LOOP_ILIM_I_TOT_MAX)

/-- Instances 16, 22 and 23 evaluated for i_cmd: the sum before its clamp (R207, R216, R226). -/
def State.evalTotal (s : State) (iCmd : Int) : Int × State :=
  let y := toQ s.meas.iString
  let (re, s) := if s.instOn 16 then s.rampRef 16 iCmd y else (iCmd, s)
  let e := satSigned 32 (re - y)
  let lock := s.on F.PSTAGE_STATUS_IMP_LOCK
  let aux (s : State) (k : Nat) : Int × State :=
    if !s.instOn k then (0, s)
    else if lock then (0, (s.wrI (F.LOOP_OUT_OUT k) 0).wrB (F.LOOP_ISTAT_ACTIVE k) true)
    else if s.rd (F.LOOP_ICFG_TYPE k) == 1 then s.eval2P2Z k e
    else s.evalPI k false e 0
  let (o22, s) := aux s 22
  let (o23, s) := aux s 23
  let m := s.iTotMax
  let conv (o : Int) : Int := if o + o22 + o23 > m then 1 else if o + o22 + o23 < -m then -1 else 0
  let (o16, s) := if s.instOn 16 then s.evalPI 16 false re y conv else (0, s)
  (o16 + o22 + o23, { s with loop := { s.loop with e16 := e } })

/-- RAMPING and RAMP_DONE (R220): a reference in use still differs from its r. -/
def State.refreshRamping (s : State) (refs : List (Nat × Int)) : State :=
  let now := refs.any fun (k, r) => s.instOn k && mget 0 s.loop.rEff k != r
  let was := s.on F.LOOP_STATUS_RAMPING
  let s := s.wrB F.LOOP_STATUS_RAMPING now
  if was && !now then s.raise 0x22 3 else s

/-- The references that ramp in the present mode. -/
def State.rampRefs (s : State) (iCmd : Int) : List (Nat × Int) :=
  let src := s.rd F.LOOP_STATUS_SOURCE
  (16, iCmd) :: (if s.effMode == .connect || src == 2 || s.lowers then [(18, s.rdI F.TRACK_REF_R18)] else if src == 1 then [(17, s.setPoint)] else [])

/-- The limits i_hi and i_lo (R207): instances 19, 20 and 21 with the limits of the dispatch chain, i_hi first in a conflict. -/
def State.evalLimits (s : State) : Int × Int × Bool × State :=
  let big : Int := 2 ^ 31
  let (o19, s) := s.evalBound 19 false (tenthToQ (s.rd F.LOOP_VLIM_V_STR_MAX)) s.loop.vStr big
  let (o20, s) := s.evalBound 20 false (tenthToQ (s.rd F.LOOP_VLIM_V_STR_MIN)) s.loop.vStr (-big)
  let (o21, s) := s.evalBound 21 true (tenthToQ (s.rd F.LOOP_VBUS_V_BUS_MAX)) s.loop.vBus (-big)
  let hi := min (s.rdI F.DISP_ICHG_I_CHG) o19
  let lo := max (-(s.rdI F.DISP_IDIS_I_DIS)) (max o20 o21)
  if lo > hi then (hi, hi, true, s.raise 0x22 2) else (hi, lo, false, s)

/-- What an impedance run notes of an outer sample (R254): clipping, the extremes of i_set. -/
def State.noteRun (s : State) (clipped : Bool) (iSet : Int) : State :=
  let st := s.rd F.IMPED_STATUS_STATE
  if st == 1 || st == 2 then
    let s := if clipped then s.bump F.IMPED_DISC_CLIPPED else s
    { s with imp := { s.imp with bad := s.imp.bad || clipped, iSetMin := some (min iSet (s.imp.iSetMin.getD iSet)), iSetMax := some (max iSet (s.imp.iSetMax.getD iSet)) } }
  else s

/-- The envelope of the stimulus (R250): it rises with the phase-0 periods since the start boundary, and falls at the same rate in RAMP_DOWN. -/
def State.envelope (s : State) : State :=
  let st := s.rd F.IMPED_STATUS_STATE
  let full := s.capRd F.IMPED_CFG_RAMP_MS * 400000
  { s with imp := { s.imp with env := if st == 1 || st == 2 then min full (s.imp.p * s.rd F.PSTAGE_PERIOD_PER) else s.imp.env - s.outerClocks } }

/-- ACTIVE of the instances (Table 9-8): cleared where one is not evaluated any more, its phase stopped, its source changed or its EN cleared. -/
def State.settleActive (s : State) : State :=
  let src := s.rd F.LOOP_STATUS_SOURCE
  let bus := s.effMode == .connect || src == 2 || s.lowers
  let on (k : Nat) : Bool := s.instOn k && (if k < 16 then s.evaluates k else if k = 17 then src == 1 && !bus else if k = 18 then bus else true)
  instances.foldl (fun s k => if on k then s else s.wrB (F.LOOP_ISTAT_ACTIVE k) false) s

/-- The evaluation chain of R207 at an outer sample, with an i_set given to it where it is evaluated in shadow. -/
def State.chain (s : State) (given : Option Int := none) : State :=
  let s := s.envelope
  let stim := s.stimNow
  let (iSet, s) := s.setCurrent given
  let (hi, lo, conflict, s) := s.evalLimits
  let i1 := clampI iSet lo hi
  let iCmd := clampI (i1 + stim) lo hi
  let (sum, s) := s.evalTotal iCmd
  let m := s.iTotMax
  let burst := s.rd F.PSTAGE_STATUS_LIGHT ≥ 2
  let tot := if burst then clampI ((if iCmd < 0 then -1 else 1) * tenthToQ (s.rd F.PSTAGE_BURST_I)) (-m) m else clampI sum (-m) m
  let s := ((((s.wrI F.LOOP_ISET_I_SET iSet).wrI F.LOOP_IHI_I_HI hi).wrI F.LOOP_ILO_I_LO lo).wrI F.LOOP_ITOT_I_TOT tot).wrI F.LOOP_STIM_STIM stim
  let atHi := iCmd == hi && hi < iSet + stim
  let atLo := iCmd == lo && lo > iSet + stim
  let s := (s.wrB F.LOOP_STATUS_AT_HI atHi).wrB F.LOOP_STATUS_AT_LO atLo
  let s := if atHi then s.raise 0x22 0 else s
  let s := if atLo then s.raise 0x22 1 else s
  let s := s.noteRun (iCmd != i1 + stim || (!burst && tot != sum)) iSet
  let s := { s with loop := { s.loop with iCmd := iCmd, conflict := conflict },
                    pwm := { s.pwm with iDem := if burst then iCmd.natAbs else tot.natAbs } }
  (s.refreshRamping (s.rampRefs iCmd)).settleActive

/-! ## Outer samples: phases, light load and transitions -/

/-- The lowest-indexed enabled phase that neither runs, starts nor is faulted (R199). -/
def State.addCandidate (s : State) : Option Nat :=
  phases.find? fun n => s.bit F.PSTAGE_PHEN_EN n && !s.bit F.PSTAGE_RUNMASK_RUN n && !(s.phase n).starting && s.rd (F.PHASE_STAT_STATE n) != 3

/-- A phase is added (R199): its integrator takes the mean of the running inner instances (Table 9-5); an interlock is released for it (R253). -/
def State.addPhase (s : State) (n : Nat) : State :=
  let run := s.running
  let sum := (run.map fun k => s.integ k).foldl (· + ·) 0
  let s := s.setInteg n (if run.isEmpty then 0 else Int.tdiv sum run.length)
  let s := (s.setPhase n { s.phase n with starting := true, excluded := true }).raise 0x20 1
  let s := { s with loop := { s.loop with excluded := true } }
  if s.on F.PSTAGE_STATUS_IMP_LOCK then { s.releaseLock with imp := { s.imp with relock := true, bad := true } } else s

/-- A shed begins with the highest-indexed running phase (R199, Table 8-4 step 1). -/
def State.beginShed (s : State) : State :=
  match s.running.getLast? with
  | none => s
  | some n => ((s.wr (F.PHASE_STAT_STATE n) 2).setPhase n { s.phase n with shedM := none, shedBack := false }).wrB F.PSTAGE_STATUS_SHEDDING true

/-- How long a condition has held at an outer sample, in CD0 clocks since the first sample that met it. -/
def State.heldFor (s : State) (holds : Bool) (since : Option Nat) : Option Nat :=
  if holds then some (since.elim 0 (· + s.outerClocks)) else none

/-- Shedding and adding at an outer sample (R199, R201). -/
def State.shedding (s : State) : State :=
  let n : Int := s.nOn
  let keep (s : State) (x : Option Nat) : State := { s with pwm := { s.pwm with shedLow := x } }
  if !s.on F.PSTAGE_SHED_SHED_EN || n == 0 then keep s none
  else
    let iAdd := tenthToQ (s.rd F.PSTAGE_SHED_I_I_ADD)
    let iShed := tenthToQ (s.rd F.PSTAGE_SHED_I_I_SHED)
    let d := s.pwm.iDem
    if s.on F.PSTAGE_STATUS_SHEDDING then (if d > (n - 1) * iAdd then s.cancelShed true else s)
    else match (if d > n * iAdd then s.addCandidate else none) with
      | some k => keep (s.addPhase k) none
      | none =>
        let low := s.heldFor (decide (d < (n - 1) * iShed)) s.pwm.shedLow
        if low.any (fun t => decide (t ≥ s.rd F.PSTAGE_SHED_T_T_SHED * 400000)) && s.nOn > s.rd F.PSTAGE_SHED_N_MIN && !s.on F.PSTAGE_STATUS_SHED_LOCK && !s.on F.PSTAGE_STATUS_IMP_LOCK
        then keep s.beginShed none else keep s low

/-- Entry into and end of burst mode at an outer sample (R195, R197, R198); a mode other than 2 ends it too. -/
def State.bursting (s : State) : State :=
  let d := s.pwm.iDem
  let two := s.rd F.PSTAGE_LIGHT_MODE == 2
  if s.rd F.PSTAGE_STATUS_LIGHT ≥ 2 then
    if d ≥ tenthToQ (s.rd F.PSTAGE_BURST_TH_EXIT) || !two then { s with pwm := { s.pwm with burstExit := true } } else s
  else
    let low := s.heldFor (two && s.nOn != 0 && s.nOn == s.rd F.PSTAGE_SHED_N_MIN && !s.on F.PSTAGE_STATUS_IMP_LOCK && d < tenthToQ (s.rd F.PSTAGE_BURST_TH_ENTER)) s.pwm.burstLow
    if low.any (fun t => decide (t ≥ 4000000)) && !s.pwm.burstStart then { s with pwm := { s.pwm with burstLow := none, burstStart := true } }.raise 0x20 3
    else { s with pwm := { s.pwm with burstLow := low } }

/-- The match condition of step 8 (Table 10-2): V_plant 100–1,600 V and |V_link − V_plant| ≤ MATCH_V. -/
def State.matchNow (s : State) : Bool :=
  decide (100000 ≤ s.meas.vPlant) && decide (s.meas.vPlant ≤ 1600000) && decide ((s.meas.vLink - s.meas.vPlant).natAbs ≤ s.rd F.TRACK_MATCH_MATCH_V * 100)

/-- Where the current ramp has ended the gates stop at the next phase-0 boundary (Table 10-4 step 2); where the lowering has reached V_SHUT the current ramp begins (R245). -/
def State.rampEnds (s : State) : State :=
  let ramping := s.crown.trans == .restRamp || (s.crown.trans == .disconnect && s.track.disc == 2)
  let at0 := if s.instOn 16 then mget 0 s.loop.rEff 16 == 0 else s.loop.iCmd == 0
  if ramping && at0 then { s with pwm := { s.pwm with stopNext := true } }
  else if s.track.disc == 7 && s.track.clocks ≥ s.rd F.TRACK_FORM_T_FORM * 400000 then s.disconnectRamp
  else s

/-- Time passes between two outer samples for the laws of a start, which HOLD does not suspend (R238, R240, R243), and for the envelope of an SRD. -/
def State.advance (s : State) : State :=
  let dt := s.outerClocks
  let started := s.prot.srd.isSome && s.rd F.SAFE_STATUS_SRD_STEP ≥ 2
  { s with track := { s.track with clocks := if s.track.tracking || s.track.forming || s.track.disc == 7 then s.track.clocks + dt else s.track.clocks },
           loop := { s.loop with srdClocks := if started then some (match s.loop.srdClocks with | none => 0 | some c => c + dt) else none } }

/-- The SRD ramp begins at the first outer sample after step 1 (step 3 of SRD_STEP while the island compares). -/
def State.srdStep (s : State) : State :=
  if s.rd F.SAFE_STATUS_SRD_STEP == 2 then s.wr F.SAFE_STATUS_SRD_STEP 3 else s

/-- What the active unit passes to the pair link at an outer sample (R222, Table 17-3). -/
def State.mirrorLoop (s : State) : State :=
  let l := s.loop
  s.mirror (.loop {
    mode := s.mode.code, drive := s.rd F.CONTACT_STATUS_DRIVE, vStr := s.meas.vString, vBus := s.meas.vPlant, iStr := s.meas.iString,
    iChg := s.rdI F.DISP_ICHG_I_CHG, iDis := s.rdI F.DISP_IDIS_I_DIS, iSet := s.rdI F.LOOP_ISET_I_SET, iCmd := l.iCmd, iTot := s.rdI F.LOOP_ITOT_I_TOT,
    integ := instances.map s.integ, rEff := l.rEff, hist := [l.e1, l.e2, l.o1, l.o2], shares := phases.map s.share,
    srd := match s.prot.srd with
      | some d => if d.trip then none else some { i0 := s.rdI F.SAFE_I0_I0, clocks := l.srdClocks.getD 0, cause := s.rd F.SAFE_STATUS_SRD_CAUSE, fast := d.fast, latch := d.latch }
      | none => none })

/-- A wait for near-zero current that the sample may end: step 3 of a disconnect, an abort's contactors, step 5 of an SRD. -/
def State.nearZero (s : State) : State :=
  let s := if s.track.disc == 3 && s.mode != .hold then s.disconnect3 false else s
  let s := if s.track.aborting == 2 && s.mode != .hold then s.abortBus false else s
  if s.rd F.SAFE_STATUS_SRD_STEP == 5 && s.prot.srd.any fun d => !d.trip then s.srdRelease else s

/-- An accepted dispatch set-point becomes the target (R320); one received in HOLD waits for the recovery (R59). -/
def State.takeTarget (s : State) : State :=
  match s.disp.newTarget, s.mode with
  | none, _ => s
  | some _, .hold => s
  | some x, _ =>
    let s := { s.wrI F.DISP_TARGET_TARGET x with disp := { s.disp with newTarget := none, targetSet := true } }
    if s.mode == .run && s.rd F.LOOP_STATUS_SOURCE == 2 then s.wrI F.DISP_SETP_SETP x else s

/-- OUTER_SAMPLE (R207, R208, R210, R222): the measurements are taken, the batch is evaluated, the power stage sheds, adds or bursts, and a ramp or a wait that the sample ends goes on. -/
def execOuterSample (r : Readings) (s : State) : Host.Outcome State Fault Refusal :=
  let s := ({ s with pwm := { s.pwm with outerCnt := 0 } }.takeReadings r).watchTest.takeTarget
  let s := s.advance.nearZero
  let s := s.wrB F.TRACK_STATUS_MATCHED (s.track.tracking && s.rd F.TRACK_STATUS_STEP == 8 && s.matchNow)
  if s.on F.LOOP_STATUS_EVAL then .next ((((s.srdStep.chain).shedding.bursting).rampEnds).mirrorLoop) else .next s.mirrorLoop

/-! ## Feedback plausibility -/

/-- Inductance of a phase in 0.1 µH (LOOP.LIND). -/
def State.inductance (s : State) (n : Nat) : Nat := if n % 2 = 0 then s.rd (F.LOOP_LIND_L_LO (n / 2)) else s.rd (F.LOOP_LIND_L_HI (n / 2))

/-- Units of 156.25 ps in a window. -/
def State.winUnits (s : State) : Int := s.rd F.LOOP_PLAUS_WIN * (16 * s.rd F.PSTAGE_PERIOD_PER)

/-- Model M1 of one phase: the residual of Δi in 2^−16 A × (640 L), and its bound in the same unit; none where excluded. -/
def State.modelM1 (s : State) (n : Nat) : Option (Int × Int) :=
  let ph := s.phase n
  match ph.iFirst with
  | none => none
  | some i0 =>
    if ph.excluded || s.on (F.PHASE_STAT_SKIPPING n) then none
    else
      let l : Int := s.inductance n
      some ((ph.iLast - i0) * l * 640 - ph.sumVt,
            s.rd F.LOOP_PLAUS_TOL_A * 65536 * l * 64 + s.winUnits * s.rd F.LOOP_PLAUS_TOL_V * 65536)

/-- The verdict of the three models on a window: none where a model is not evaluated, else its failure with phase and residual (0.1 A or 0.1 V), 0 for a pass. -/
def State.judgeWindow (s : State) (meanI dV : Int) : List (Option (Bool × Nat × Int)) :=
  let conn := s.effMode == .connect
  let m1s := s.running.filterMap fun n => (s.modelM1 n).map fun x => (n, x)
  let m1 := if m1s.isEmpty then none
    else match m1s.find? fun (_, r, b) => decide ((r.natAbs : Int) > b) with
      | some (n, r, _) => some (true, n, Int.tdiv (r * 10) (max (s.inductance n) 1 * 640 * 65536 : Nat))
      | none => some (false, 0, 0)
  let c : Int := s.rd F.LOOP_CBUS_C_BUS
  let pct : Int := s.rd F.LOOP_PLAUS_TOL_PCT
  let r2 := toQ dV * c * 640000 + s.loop.sumBus * 100
  let m2 := if conn && !s.fbClosed 4 && !s.fbClosed 5 && !s.loop.excluded then
      some (decide ((r2.natAbs : Int) > pct * s.loop.sumBus.natAbs + 2 * 65536 * c * 640000), 0, Int.tdiv (r2 * 10) (max c 1 * 640000 * 65536))
    else none
  let wp := s.winUnits
  let i := toQ meanI
  let r3 := i * wp - s.loop.sumStr
  let m3 := if s.nOn ≥ 1 && !s.loop.excluded then
      some (decide ((r3.natAbs : Int) * 100 > ((s.nOn : Int) * s.rd F.LOOP_PLAUS_TOL_A * 655360 + pct * i.natAbs) * wp), 0, Int.tdiv (r3 * 10) (max wp 1 * 65536))
    else none
  [m1, m2, m3]

/-- One model's outcome under the second-attempt rule (R228). -/
def State.modelOutcome (s : State) (m : Nat) (v : Option (Bool × Nat × Int)) : State :=
  match v with
  | none => s
  | some (failed, phase, resid) =>
    let pend := s.bit F.LOOP_STATUS_PL_PENDING m
    let last := s.bit F.LOOP_STATUS_PL_LASTING m
    let cls := RClass.ofCode (s.rd F.LOOP_PREACT_M / 4 ^ m % 4)
    let zero := { s with loop := { s.loop with passes := mset 0 s.loop.passes m 0 } }
    if last then
      if failed then zero
      else
        let k := mget 0 s.loop.passes m + 1
        if k ≥ 16 && (cls == .W || cls == .L) then
          ((zero.wrBit F.LOOP_STATUS_PL_LASTING m false).raise 0x22 6).clearCond (.loopPlaus m)
        else { s with loop := { s.loop with passes := mset 0 s.loop.passes m k } }
    else if failed && pend then
      let s := (zero.wrBit F.LOOP_STATUS_PL_PENDING m false).wrBit F.LOOP_STATUS_PL_LASTING m true
      let s := ((s.wr F.LOOP_PLAST_MODEL (m + 1)).wr F.LOOP_PLAST_PHASE phase).wrI F.LOOP_PLAST_RESID resid
      let s := ((s.raise 0x22 5).lasting 0x22 (evCode 0x22 .plausLasting)).addCond (.loopPlaus m) cls
      let react (s : State) : State := s.react cls 0x22 .plausLasting [m + 1, phase, resid] 7 s.sameEngine
      if cls == .S then s.relinquishOr 5 react else react s
    else if failed then s.wrBit F.LOOP_STATUS_PL_PENDING m true
    else if pend then ((s.wrBit F.LOOP_STATUS_PL_PENDING m false).retryPass 0x22).raise 0x22 4
    else s

/-- A new window begins: the sums are cleared, an exclusion lasts only while its cause does. -/
def State.newWindow (s : State) : State :=
  let off := s.rd F.PSTAGE_STATUS_LIGHT == 3
  let s := phases.foldl (fun s n =>
    let ph := s.phase n
    if s.bit F.PSTAGE_RUNMASK_RUN n then
      s.setPhase n { ph with sumVt := 0, iFirst := some ph.iLast, excluded := s.on (F.PHASE_STAT_SKIPPING n) || off || s.rd (F.PHASE_STAT_STATE n) != 1 }
    else s) s
  { s with loop := { s.loop with sumBus := 0, sumStr := 0, excluded := off || s.nOn == 0 || !s.on F.PSTAGE_STATUS_GATES_LIVE } }

/-- LOOP_PLAUS_WINDOW (R227, R228): a window of WIN phase-0 periods ends; meanI is the mean I_string in mA over it, dV the change of the bus voltage in mV. -/
def execLoopPlausWindow (meanI dV : Int) (s : State) : Host.Outcome State Fault Refusal :=
  if s.on F.LOOP_CFG_PLAUS_EN && (s.effMode == .connect || s.effMode == .run) then
    let vs := s.judgeWindow meanI dV
    .next (((vs.zip [0, 1, 2]).foldl (fun s (v, m) => s.modelOutcome m v) s).newWindow)
  else .next s.newWindow

end Sys2Proof.Machine
end

