-- ==== Sys2Proof/Machine/PairOps.lean ====
section
/-!
DEFINITION. The redundant pair as operations (chapter 17): claims, roles at the start, mirrored items, switch-over.
-/
namespace Sys2Proof.Machine
open Sys2Proof

/-! ## Claims -/

/-- A strap conflict (R511): recorded; a unit without a claim enters SAFE with the latch. -/
def State.pairConflict (s : State) : State :=
  let s := s.record 6 0x38 .pairConflict [s.rd F.CLAIM_STATUS_OWN]
  if s.rd F.CLAIM_STATUS_OWN != 0 then s
  else
    let s := s.setLatch 0x38 .pairConflict
    if s.mode == .standby || s.mode == .service then s.setMode .safe else s

/-- A first non-zero claim (R351): one generation above the higher of the stored one and the partner's, none from 0x7FFF on. -/
def State.takeClaim (s : State) : State × Bool :=
  let g := s.nextGen
  if s.claimBarred then (s, false)
  else if g ≥ 0x7FFF then ((s.raise 0x39 4).setReady false, false)
  else
    let s := if g ≥ 0x7530 then s.raise 0x39 3 else s
    ((s.wr F.CLAIM_GEN_G g).wr F.CLAIM_STATUS_OWN (2 * g + s.unitBit), true)

/-- A start in the standby role (R289): the cells take their state from mirroring, not from the state journal. -/
def State.startStandby (s : State) : State :=
  { s.wr F.PAIR_STATUS_ROLE 2 with est := { s.est with cells := s.est.cells.map fun (x : Nat × Cell) =>
    (x.1, { rf := x.2.rf, rfWritten := x.2.rfWritten, capUpd := x.2.capUpd, rfUpd := x.2.rfUpd }) } }

/-- The role at step 10 of Table 2-5 (R34, R355): solo claims at once, unit A where no partner claim is present; unit B waits. -/
def State.pairStart (s : State) : State :=
  if !s.on F.PAIR_CFG_PAIRED then (s.wr F.PAIR_STATUS_ROLE 0).takeClaim.1
  else if s.claimBarred then s.startStandby.pairConflict
  else if s.on F.CLAIM_MON_PRESENT && s.rd F.CLAIM_STATUS_PARTNER != 0 then s.startStandby
  else if s.unitBit = 0 then
    let (s, ok) := s.takeClaim
    s.wr F.PAIR_STATUS_ROLE (if ok then 1 else 2)
  else { s.wr F.PAIR_STATUS_ROLE 2 with pair := { s.pair with waiting := true } }

/-! ## Mirrored items -/

/-- The loop state of a snapshot loaded (R222). -/
def State.loadLoop (s : State) (x : LoopSnap) : State :=
  let s := (x.integ.zipIdx).foldl (fun (s : State) ((v, k) : Int × Nat) => s.setInteg k v) s
  let h (k : Nat) : List (Nat × Int) := (x.hist[k]?).getD []
  { (s.wrI F.LOOP_ISET_I_SET x.iSet).wrI F.LOOP_ITOT_I_TOT x.iTot with
    loop := { s.loop with iCmd := x.iCmd, rEff := x.rEff, e1 := h 0, e2 := h 1, o1 := h 2, o2 := h 3 } }

/-- The readings a snapshot mirrors. -/
def snapReadings (x : LoopSnap) : Readings := { iString := x.iStr, vString := x.vStr, vPlant := x.vBus, vLink := x.vBus }

/-- The shadow evaluation of a snapshot from the one before it gives the same i_cmd, i_tot and outputs (Table 17-4 bit 0). -/
def State.shadowAgrees (s : State) (old x : LoopSnap) : Bool :=
  let t := (((s.loadLoop old).takeReadings (snapReadings x)).wrI F.DISP_ICHG_I_CHG x.iChg).wrI F.DISP_IDIS_I_DIS x.iDis
  let t := t.chain (some x.iSet)
  t.loop.iCmd == x.iCmd && t.rdI F.LOOP_ITOT_I_TOT == x.iTot && ((List.range 8).all fun k => t.integ (16 + k) == (x.integ[16 + k]?).getD 0)

/-- The standby holds the active unit's mode (R359): its shadow evaluates in CONNECT and RUN, from the presets of an entry into them (Table 9-5). -/
def State.followMode (s : State) (m : Mode) : State :=
  if s.mode == m then s
  else
    let before := s.effMode
    let s := s.setMode m
    if m = .hold || s.effMode == before then s
    else if m = .connect || (m = .run && before != .connect) then (s.presetEntry).wr F.LOOP_STATUS_SOURCE (s.rd F.LOOP_CFG_SOURCE)
    else if m = .run then s.clearHistories.wr F.LOOP_STATUS_SOURCE (s.rd F.LOOP_CFG_SOURCE)
    else s.loopOff

/-- The standby drives a coil as the active unit does, at hold duty (R359). -/
def State.followCoil (s : State) (k : Nat) (driven : Bool) : State :=
  if s.driven k == driven then s
  else (s.wrBit F.CONTACT_STATUS_DRIVE (k - 1) driven).setCoil k
    (if driven then { phase := 2, duty := holdDuty (s.rd (F.CONTACT_COIL_HOLD_V (k - 1))) (s.rd F.CONTACT_VCOIL_VCOIL) } else {})

/-- A loop snapshot at the standby (R357, R359, R360): the checks, the mode and the coil drive followed, the snapshot kept. -/
def State.gotLoop (s : State) (x : LoopSnap) : State :=
  let run := x.mode == 3
  let s := match s.pair.loop with
    | some old => if run then s.healthJudge 0 (!s.shadowAgrees old x) else s
    | none => s
  let off (a b : Int) (tol : Nat) : Bool := decide ((a - b).natAbs > tol * 100)
  let s := if run then (s.healthJudge 1 (off s.meas.iString x.iStr (s.rd F.PAIR_TOL_I_TOL))).healthJudge 2
      (off s.meas.vString x.vStr (s.rd F.PAIR_TOL_V_TOL) || off s.meas.vPlant x.vBus (s.rd F.PAIR_TOL_V_TOL)) else s
  let s := s.followMode (Mode.ofCode x.mode)
  let s := [1, 2, 3, 4, 5, 6].foldl (fun (s : State) k => s.followCoil k (x.drive.testBit (k - 1))) s
  { s with pair := { s.pair with loop := some x, loopAt := s.mono } }.refreshReady

/-- The estimator's state of a cell as mirrored (R285): SoC, U_a, SoC_a, age, Θ − Θ_a, bleed charge, Q_c, RF_c, branch. -/
def State.loadCell (s : State) (c : Nat) (v : List Int) : State :=
  let g (k : Nat) : Int := (v[k]?).getD 0
  (s.setCell c { s.cell c with soc := g 0, uA := (g 1).toNat, socA := g 2, tA := (s.mono : Int) - g 3, thA := ((s.est.theta : Int) - g 4).toNat,
                               bleedQ := (g 5).toNat, rf := (g 7).toNat, branch := (g 8).toNat, init := g 9 != 0 }).wr (capFld c) (g 6).toNat

/-- A snapshot of the estimator: the check (Table 17-4 bit 4: 0.05 % of SoC), then it is loaded. -/
def State.gotCells (s : State) (cells : List (List Int)) : State :=
  let bad := (cells.zipIdx).any fun (v, c) => decide (((s.cell c).soc - (v[0]?).getD 0).natAbs > 838860)
  let s := if s.mode == .run then s.healthJudge 4 bad else s
  let s := (cells.zipIdx).foldl (fun (s : State) ((v, c) : List Int × Nat) => s.loadCell c v) s
  { s with pair := { s.pair with cells := cells } }

/-- A set's entries agree within 1 % of |Z| (Table 17-4 bit 7). -/
def State.setAgrees (s : State) (z : List (Nat × Int × Int)) : Bool :=
  z.all fun (k, re, im) =>
    let own := mget {} s.imp.latest k
    decide (10000 * ((own.re - re) * (own.re - re) + (own.im - im) * (own.im - im)) ≤ re * re + im * im)

/-- The standby takes the HSEQ of a digest for its own numbering (R139). Where no record or harvest of its own has that number, the latest record it built is the one the digest names, and its numbers shift by the difference (DEDUCED, notes/assumptions/76.md). -/
def State.takeNumber (s : State) (h : Nat) : State :=
  if s.rd F.PAIR_STATUS_ROLE != 2 || s.pair.digests.any (·.1 == h) || s.harv.captures.any (·.hseq == h) then s
  else
    let last := match s.pair.digests with
      | (k, _) :: _ => k
      | [] => (s.harv.hseq + 2 ^ 32 - 1 - s.harv.captures.length) % 2 ^ 32
    let mv (k : Nat) : Nat := (k + 2 ^ 32 + h - last) % 2 ^ 32
    { s.wr F.HARVEST_SEQ_HSEQ (mv (s.rd F.HARVEST_SEQ_HSEQ)) with
      harv := { s.harv with hseq := mv s.harv.hseq, captures := s.harv.captures.map fun c => { c with hseq := mv c.hseq } },
      pair := { s.pair with digests := s.pair.digests.map fun (k, x) => (mv k, x) } }

/-- The partner's MIR and MIR_MIN (R491): the higher format that both accept is used; without one MIRROR_FAULT and READY cleared. -/
def State.gotFormats (s : State) (mir low : Nat) : State :=
  let none := decide (min mir (s.runImage.format 6) < max low s.runImage.mirMin)
  let t := { s with pair := { s.pair with noMir := none } }
  (if none then t.raise 0x38 5 else t).refreshReady

/-- A mirrored item taken by the standby (Table 17-3); MIR and MIR_MIN as the link comes up (DESIGN CHOICE, notes/assumptions/92.md). -/
def State.gotMirror (s : State) : Mirror → State
  | .loop x => s.gotLoop x
  | .estimator cells => s.gotCells cells
  | .digest h crc =>
    let s := s.takeNumber h
    match s.pair.digests.find? (·.1 == h) with
    | some (_, own) => if s.mode == .run then s.healthJudge 3 (own != crc) else s
    | none => s
  | .dispatch t p stale =>
    let s := ((s.wrI F.DISP_TARGET_TARGET t).wrI F.DISP_SETP_SETP p).wrB F.DISP_STATUS_STALE stale
    { s with disp := { s.disp with targetSet := s.disp.targetSet || t != 0 } }
  | .scan t d => { s with pair := { s.pair with scanData := mset [] s.pair.scanData t d } }
  | .onTime ms => { s with bal := { s.bal with onMs := ms } }
  | .plan timers => { s with bal := { s.bal with plan := timers } }
  | .impedRun run p0 cap =>
    let s := s.clearRun.wr F.IMPED_STATUS_STATE 4
    { s with imp := { s.imp with cap := cap.map fun (a, w) => (a, Word.ofNat w), run := run, startP0 := p0 } }.showFreqs
  | .impedSet z => if s.mode == .run && !s.imp.latest.isEmpty then s.healthJudge 7 (!s.setAgrees z) else s
  | .almanac q => { s with pair := { s.pair with almSeqs := q } }
  | .formats mir low => s.gotFormats mir low

/-- A snapshot received with its sequence number (R357): one lost before it is a first failure that passes, two or more are lasting; without the snapshot before it a loop snapshot is not compared. -/
def State.mirrored (s : State) (q : Nat) (m : Mirror) : State :=
  let k := mirrorItem m
  let gap := match s.pair.rxSeq.find? (·.1 == k) with
    | some (_, last) => (q + 2 ^ 32 - last - 1) % 2 ^ 32
    | none => 0
  let s := { s with pair := { s.pair with rxSeq := mins (mdel s.pair.rxSeq k) k q } }
  let s := if gap ≠ 0 && k = 0 then { s with pair := { s.pair with loop := none } } else s
  let s := if gap = 0 then s
    else if gap = 1 then (s.bump F.PAIR_MIRROR_LOST).retryPass 0x38
    else ((s.bump F.PAIR_MIRROR_LOST gap).raise 0x38 5).lastingW 0x38 .mirrorLost [k, gap]
  s.gotMirror m

/-! ## Switch-over -/

/-- The ring ports change from forwarding to originating (R114, Table 17-6 step 5): the nodes keep their addresses; delays and offsets are measured from this unit's ports (R124), and the keepalives then decide the state (Table 5-6). -/
def State.originate (s : State) : State :=
  if s.mode == .transport then s
  else
    let all := s.nodes.foldl (fun a n => a ||| 2 ^ n) 0
    ((s.wr F.RING_STATUS_STATE 2).modRing fun r =>
      { r with wait := [], held := [], todo := [], stage := 0, full := false, down := all, up := all, ident := all, found := all, goodRun := 0, silentRun := 0, failRun := 0, deafRun := 0 }).measure

/-- This unit takes the ring over: from forwarding, or a ring not yet started. -/
def State.takeRing (s : State) : State := if s.crown.ringStarted then s.originate else s.startRing

/-- PAIRED as an apply sets it (R349): without it the unit is solo and holds a claim; with it a unit that holds a claim is active, with its unit bit, another one standby. A relinquished unit stays so until its next reset. The step between the two is not described (DESIGN CHOICE, notes/assumptions/46.md). -/
def State.takePaired (s : State) : State :=
  if s.rd F.PAIR_STATUS_ROLE == 3 then s
  else if !s.on F.PAIR_CFG_PAIRED then
    let s := s.wr F.PAIR_STATUS_ROLE 0
    if s.rd F.CLAIM_STATUS_OWN != 0 then s else s.takeClaim.1.takeRing
  else if s.claimBarred then ((s.giveUpClaim 2).wr F.PAIR_STATUS_ROLE 2).pairConflict
  else if s.rd F.CLAIM_STATUS_OWN != 0 then (s.wr F.PAIR_STATUS_ROLE 1).wr F.CLAIM_STATUS_OWN (2 * s.rd F.CLAIM_GEN_G + s.unitBit)
  else s.wr F.PAIR_STATUS_ROLE 2

/-- The contactors of a start lost with its claim (R244): gates stopped, K4 and K5 opened at near-zero current, STANDBY. -/
def State.takeoverConnect (s : State) : State :=
  let s := (((s.gatesOff.dropEnables).loopOff).wr F.TRACK_STATUS_STEP 0)
  { s with crown := { s.crown with trans := .disconnect, runDue := false }, track := { s.track with disc := 3, waiting := false, tracking := false, forming := false, aborting := 0 } }.disconnect3 false

/-- A takeover without READY (R366): the contactors open at near-zero current as in Table 16-4 from step 5, cause 7, and SAFE with the latch. -/
def State.takeoverUnready (s : State) : State :=
  let s := ((s.gatesOff.loopOff).wrB F.SAFE_STATUS_SRD_ACTIVE true).wr F.SAFE_STATUS_SRD_CAUSE 7
  { s with prot := { s.prot with srd := some { latch := true, src := 0x38, ev := .takeover } } }.srdRelease

/-- The standby claims (R363 to R366, Table 17-6 steps 3 to 5). -/
def State.takeover (s : State) (absence : Bool) : State :=
  if s.rd F.PAIR_STATUS_ROLE != 2 || s.pair.waiting || !s.on F.PAIR_CFG_PAIRED then s
  else
    let ready := s.on F.PAIR_STATUS_READY
    let (s, ok) := s.takeClaim
    if !ok then s
    else
      let cause := s.pair.notice.getD (if absence then 0x10 else 0)
      let s := (((s.voidHealth.wr F.PAIR_STATUS_ROLE 1).wrB F.PAIR_STATUS_READY false).wr F.PAIR_LASTSW_CAUSE cause).bump F.PAIR_SWITCHES_TAKEOVERS
      let s := (s.raise 0x38 0).record 6 0x38 .takeover ((cause : Int) :: s.pair.almSeqs.map fun (n : Nat) => (n : Int))
      let s := { s with pair := { s.pair with notice := none, t0 := s.mono, resume := false, freset := true } }
      let s := s.abortRun 3
      let s := if s.rd F.IMPED_STATUS_STATE == 4 then s.wr F.IMPED_STATUS_STATE 0 else s
      let s := if s.rd F.CROWN_STAGE_CTRL_STATE == 5 then s.cancelApply 0xB else s
      let s := (List.range 4).foldl (fun (s : State) c => if s.on (F.CAN_CFG_ROM c) then s else s.canIntegrate c) s.originate
      let s := (s.wr F.IMAGE_DO_DO (mget (0 : Word) s.scan.out 0).toNat).driveCool
      let s := s.pair.scanData.foldl (fun s (e : Nat × List Byte) => s.setTask e.1 ((s.task e.1).takeImage e.2)) s
      if !ready then s.takeoverUnready
      else
        let s := match s.pair.loop with
          | some x => s.loadLoop x
          | none => s
        match s.mode with
        | .connect => s.takeoverConnect
        | .run | .rest | .hold =>
          let s := (s.wrB F.PAIR_STATUS_GAP true).freezeAll true
          let s := State.replan { s with pair := { s.pair with resume := true } }
          if s.mode == .hold then s.modBal fun b => { b with replanDue := true } else s
        | _ => s

/-- An SRD that the old active unit had under way goes on from its mirrored envelope (R365), with the time since the snapshot; this unit's island supervises the rest (DEDUCED, notes/assumptions/91.md). -/
def State.adoptSrd (s : State) : State :=
  match s.prot.srd, s.pair.loop.bind (·.srd) with
  | none, some m =>
    let c := m.clocks + (s.mono - s.pair.loopAt) * 2 / 5
    let s := s.endForStop
    let s := (((s.wrB F.SAFE_STATUS_SRD_ACTIVE true).wr F.SAFE_STATUS_SRD_STEP 2).wr F.SAFE_STATUS_SRD_CAUSE m.cause).wrI F.SAFE_I0_I0 m.i0
    let s := { s with prot := { s.prot with srd := some { fast := m.fast, latch := m.latch, src := 0x38, ev := .takeover, samples := c / 1000 } },
                      loop := { s.loop with srdClocks := some c } }
    if s.effMode == .rest || !s.loaded then s.srdRampEnd else s
  | _, _ => s

/-- This unit's own supply keeps it out of HOLD (R58, R365): VAUX, or the string-derived supply in its place. -/
def State.supplied (s : State) : Bool := s.on F.SUPPLY_STATUS_VAUX_OK || s.on F.SUPPLY_STATUS_SDS_ACTIVE

/-- Step 6 of Table 17-6: the gates resume and instance 16 ramps from the measured current towards the mirrored i_cmd, but for an SRD, during which the enables stay off (R335); HOLD by the own supply; GAP ends. -/
def State.resumeGates (s : State) : State :=
  if !s.pair.resume then s
  else
    let s := { (s.wrB F.PAIR_STATUS_GAP false).wr F.PAIR_LASTSW_GAP_US (satCount 16 ((s.mono - s.pair.t0) / 1000)) with pair := { s.pair with resume := false } }
    let s := if s.mode == .hold && s.supplied then (s.setMode (Mode.ofCode (s.rd F.CROWN_MODE_PREV))).replanIfDue else s
    let s := s.adoptSrd
    if s.effMode == .run then
      let s := (s.freezeAll false).wrB F.LOOP_STATUS_EVAL true
      let s := { s with loop := { s.loop with rampFrom := s.loop.rampFrom.filter (· != 16) ++ [16] } }
      if s.prot.srd.isSome then s else s.askEnables.startSome fun n => s.pair.loop.all fun x => x.shares.isEmpty || (x.shares[n]?).getD 0 != 0
    else s

/-- A write of PAIR.CMD (R368): the claim handed to the standby, or the refusal. -/
def State.pairCmd (s : State) (data : Nat) : State :=
  if !data.testBit 16 then s
  else
    let code := if s.rd F.PAIR_STATUS_ROLE != 1 then 1
      else if !s.on F.PAIR_STATUS_PARTNER_READY || !s.on F.PAIR_STATUS_LINK_UP then 2
      else if s.mode == .connect || s.mode == .hold || s.prot.srd.isSome || s.rd F.CROWN_STAGE_CTRL_STATE == 6 then 3
      else if data % 65536 != 0x5A3C then 4 else 0
    let s := s.wr F.PAIR_STATUS_SW_RESULT code
    if code = 0 then s.relinquishOr 1 id else s.raise 0x38 7

end Sys2Proof.Machine
end

