-- ==== Sys2Proof/Machine/TrackFam.lean ====
section
/-!
DEFINITION. The meanings of the start, disconnect and contactor commands (chapter 10, R514). Contactor Kk is operand k − 1.
-/
namespace Sys2Proof.Machine
open Sys2Proof

/-- The start goes on where the condition of its present step is met (Table 10-2); in HOLD no contactor changes state, so it waits for the recovery (R59, R243). -/
def State.advanceStart (s : State) : State :=
  if s.mode ≠ .connect ∨ s.track.aborting ≠ 0 then s
  else match s.startStep with
    | 3 => if s.fbClosed 3 then let t := s.toStep 4
      { t with track := { t.track with preAt := t.mono, peakBad := false } } else s
    | 4 => if s.track.ended then ((s.energise 1).energise 2).toStep 5 else s
    | 5 => if s.fbClosed 1 && s.fbClosed 2 then (s.release 3).toStep 6 else s
    | 6 => if s.fbClosed 3 then s else s.step7
    | 8 => if s.track.ended then ((s.energise 4).energise 5).toStep 9 else s
    | 9 => if s.fbClosed 4 && s.fbClosed 5 then s.busClosed else s
    | 10 => if s.track.ended then (s.toStep 11).toRun else s
    | _ => s

/-- What waits for open feedbacks goes on: an abort, the steps of a disconnect, the last step of an SRD or a hard trip. In HOLD only an SRD or a hard trip moves contactors (R59). -/
def State.advanceOpen (s : State) : State :=
  match s.prot.srd with
  | some d => if s.rd F.SAFE_STATUS_SRD_STEP == 5 && s.settled then s.enterSafe d.latch d.src d.ev else s
  | none =>
    if s.mode = .hold then s
    else if s.track.aborting == 3 && !s.fbClosed 1 && !s.fbClosed 2 && !s.fbClosed 3 then s.abortEnds
    else if s.track.aborting == 2 && !s.fbClosed 4 && !s.fbClosed 5 then s.abortFinish
    else if s.track.disc == 3 && !s.fbClosed 4 && !s.fbClosed 5 then s.disconnect4
    else if s.track.disc == 4 && !s.fbClosed 1 && !s.fbClosed 2 && !s.fbClosed 3 then s.disconnectEnd
    else s

/-- The feedback of Kk reports closed or open (R235). A close that needed its second attempt, or an opening its second reading, counts as a pass; a close without a drive follows the opening path; an energised contactor that drops out comes under the closing check again (R534); K4 or K5 open in RUN stops the gates (R23). -/
def State.feedback (s : State) (n : Nat) (closed : Bool) : State :=
  if s.fbClosed n = closed then s
  else
    let c := s.coil n
    let s := s.wrBit F.CONTACT_STATUS_FB (n - 1) closed
    if closed then
      if s.driven n then
        let s := ((s.bump (F.CONTACT_OPS_CLOSES (n - 1))).raise 0x24 0).wrBit F.CONTACT_STATUS_FB_FAULT (n - 1) false
        let s := if c.attempt = 2 then s.retryPass 0x24 else s
        (s.setCoil n { c with attempt := 0 }).advanceStart.watchTest
      else ((s.raise 0x24 0).setCoil n { c with opening := true, reread := false }).watchTest
    else
      let s := s.raise 0x24 1
      let s := if c.reread then s.retryPass 0x24 else s
      let c := if s.driven n then { c with attempt := 1 } else c
      (s.setCoil n { c with opening := false, reread := false }).watchBus.advanceStart.advanceOpen

/-- The feedbacks as their inputs stand, inverted where FB_INV is set (R235). -/
def State.readPins (s : State) : State :=
  [1, 2, 3, 4, 5, 6].foldl (fun (s : State) n => s.feedback n (s.track.pins.testBit (n - 1) != s.bit F.CONTACT_CFG_FB_INV (n - 1))) s

/-- CONTACTOR_FEEDBACK (R235): the feedback input of Kk has been stable at a level for DEBOUNCE; it is inverted where FB_INV is set. -/
def execContactorFeedback (k : Fin 6) (level : Bool) (s : State) : Host.Outcome State Fault Refusal :=
  let p := s.track.pins
  let s := { s with track := { s.track with pins := if level then p ||| 2 ^ k.val else p - (if p.testBit k.val then 2 ^ k.val else 0) } }
  .next (s.feedback (k.val + 1) (level != s.bit F.CONTACT_CFG_FB_INV k.val))

/-- A lasting closing failure (R235): FB_FAULT; a start that waits for this contactor aborts with code 5. -/
def State.closeFailed (s : State) (n : Nat) : State :=
  let s := (((s.wrBit F.CONTACT_STATUS_FB_FAULT (n - 1) true).raise 0x24 2).lasting 0x24 (evCode 0x24 .fbFault)).record 3 0x24 .fbFault [n]
  let s := (s.wrBit F.CONTACT_STATUS_DRIVE (n - 1) false).setCoil n {}
  let waits := match s.startStep with | 3 => n == 3 | 5 => n == 1 || n == 2 | 9 => n == 4 || n == 5 | _ => false
  if waits then s.abortStart 5 .retry else s

/-- FB_CLOSE_TIMEOUT (R235): an energised contactor has not reported closed within FB_CLOSE_MAX: released for 100 ms once, then lasting. In HOLD the bounds of a start are suspended (R243). -/
def execFbCloseTimeout (k : Fin 6) (s : State) : Host.Outcome State Fault Refusal :=
  let n := k.val + 1
  let c := s.coil n
  if s.mode = .hold ∨ s.fbClosed n ∨ c.attempt = 0 ∨ ¬ (c.phase = 1 ∨ c.phase = 2) then .next s
  else if c.attempt = 1 then .next ((s.wrBit F.CONTACT_STATUS_DRIVE k.val false).setCoil n { phase := 3, attempt := 1 })
  else .next (s.closeFailed n)

/-- FB_REPULL (R235): after the 100 ms release the driver is pulled in again; in HOLD it waits for the recovery (R59). -/
def execFbRepull (k : Fin 6) (s : State) : Host.Outcome State Fault Refusal :=
  let n := k.val + 1
  if (s.coil n).phase ≠ 3 then .next s
  else if s.mode = .hold then .next (s.setCoil n { attempt := 2, waiting := true })
  else .next (s.energise n 2)

/-- FB_OPEN_TIMEOUT (R235): a de-energised contactor still reports closed: read again once, then WELD. In HOLD the bound of step 6 of a start is suspended (R243). -/
def execFbOpenTimeout (k : Fin 6) (s : State) : Host.Outcome State Fault Refusal :=
  let n := k.val + 1
  let c := s.coil n
  if !c.opening || s.driven n || !s.fbClosed n || (s.mode == .hold && s.startStep == 6 && n == 3) then .next s
  else if !c.reread then .next (s.setCoil n { c with reread := true })
  else .next ((s.setCoil n { c with opening := false, reread := false }).weldFound n).advanceOpen

/-- PULL_IN_END (R234): PULL_MS has elapsed and the driver changes to hold PWM. -/
def execPullInEnd (k : Fin 6) (s : State) : Host.Outcome State Fault Refusal :=
  let n := k.val + 1
  let c := s.coil n
  if c.phase = 1 then .next (s.setCoil n { c with phase := 2, duty := holdDuty (s.rd (F.CONTACT_COIL_HOLD_V k.val)) (s.rd F.CONTACT_VCOIL_VCOIL) }) else .next s

/-- COIL_OVERCURRENT (R514): the driver switches off and stays off until it is energised anew; a pending closing check then fails; in RUN the gates stop with K4 or K5 (R23). -/
def execCoilOvercurrent (k : Fin 6) (s : State) : Host.Outcome State Fault Refusal :=
  let n := k.val + 1
  let c := s.coil n
  if s.driven n then .next (((s.countLoaded n).wrBit F.CONTACT_STATUS_DRIVE k.val false).setCoil n { c with tripped := true, opening := s.fbClosed n }).watchBus else .next s

/-- VCOIL_LOW (R234): every 1 ms VCOIL is measured (10 mV); VCOIL_LOW follows VCOIL_MIN, every hold duty is recomputed, and a close that waited for VCOIL starts. -/
def execVcoilLow (vCoil : BitVec 16) (s : State) : Host.Outcome State Fault Refusal :=
  let s := s.takeVcoil vCoil.toNat
  let low := s.on F.CONTACT_STATUS_VCOIL_LOW
  .next ([1, 2, 3, 4, 5, 6].foldl (fun s n =>
    let c := s.coil n
    if c.phase = 2 then s.setCoil n { c with duty := holdDuty (s.rd (F.CONTACT_COIL_HOLD_V (n - 1))) vCoil.toNat }
    else if c.waiting && !low && s.mode != .hold then s.energise n c.attempt else s) s)

/-! ## The start -/

/-- PRE_CHECK_REREAD (R242): the pre-checks are read again 100 ms after their first failure; in HOLD what follows waits for the recovery (R59). -/
def execPreCheckReread (r : Readings) (s : State) : Host.Outcome State Fault Refusal :=
  if s.effMode ≠ .connect ∨ s.startStep ≠ 2 ∨ s.track.preReread = false then .next s
  else if s.mode = .hold then .next { s with meas := r, track := { s.track with waitDue := true } }
  else .next { s with meas := r }.preCheckStep

/-- PRECHARGE_PEAK_WINDOW (R241): 5 ms after K3 closes the peak current (mA) must lie in 0.5–1.5 × V_string / R_PRE, else the start aborts with code 3; in HOLD, where K3 may not open, at the recovery (R243). -/
def execPrechargePeakWindow (peak : Nat) (s : State) : Host.Outcome State Fault Refusal :=
  if s.effMode = .connect ∧ s.startStep = 4 ∧ s.track.aborting = 0 then
    let s := s.wr F.TRACK_PRECHG_I_PEAK (satCount 16 (peak / 100))
    let x : Int := peak * s.rd F.TRACK_PRE_R_PRE
    if 5 * s.meas.vString ≤ x ∧ x ≤ 15 * s.meas.vString then .next s
    else if s.mode = .hold then .next { s with track := { s.track with peakBad := true } }
    else .next (s.abortStart 3 .retry)
  else .next s

/-- PRECHARGE_END (R241): |I_string| has stayed at or below I_END for 5 ms, ms after K3 closed; K1 and K2 are energised. -/
def execPrechargeEnd (ms : Nat) (s : State) : Host.Outcome State Fault Refusal :=
  if s.effMode = .connect ∧ s.startStep = 4 ∧ s.track.aborting = 0 then
    let s := (s.wr F.TRACK_PRECHG_T_PRE (satCount 16 ms)).raise 0x23 1
    .next { s with track := { s.track with ended := true } }.advanceStart
  else .next s

/-- PRECHARGE_TIMEOUT (R242): the precharge has not ended within 6 τ + 50 ms: code 4. -/
def execPrechargeTimeout (s : State) : Host.Outcome State Fault Refusal :=
  if s.mode = .connect ∧ s.startStep = 4 then .next (s.abortStart 4 .retry) else .next s

/-- START_AT (R241): TB0 reaches START_AT and tracking starts. -/
def execStartAt (s : State) : Host.Outcome State Fault Refusal :=
  if s.effMode = .connect ∧ s.startStep = 7 ∧ s.track.awaitStart = true ∧ s.track.aborting = 0 then .next s.startTracking else .next s

/-- MEET (R241): the match has held for MATCH_T; K4 and K5 are energised. -/
def execMeetHeld (s : State) : Host.Outcome State Fault Refusal :=
  if s.effMode = .connect ∧ s.startStep = 8 ∧ s.track.aborting = 0 then
    .next { s.raise 0x23 2 with track := { s.track with ended := true } }.advanceStart
  else .next s

/-- MEET_TIMEOUT (R242): no meet, or no forming, within MEET_MAX: code 8. -/
def execMeetTimeout (s : State) : Host.Outcome State Fault Refusal :=
  if s.mode = .connect ∧ (s.startStep = 8 ∨ s.startStep = 10) then .next (s.abortStart 8 .retry) else .next s

/-- TRACKING_ERROR (R239): |e_trk| has stayed above ERR_V for ERR_T: code 7. -/
def execTrackingError (s : State) : Host.Outcome State Fault Refusal :=
  if s.mode = .connect ∧ (s.startStep = 8 ∨ s.startStep = 10) then .next (s.abortStart 7 .retry) else .next s

/-- FORM_AT (R240, R245): TB0 reaches FORM_AT: the forming ramp of step 10, or the lowering ramp of a disconnect, starts; instance 18 then takes over as at a change of SOURCE (DEDUCED, notes/assumptions/87.md). -/
def execFormAt (s : State) : Host.Outcome State Fault Refusal :=
  if s.effMode = .connect ∧ s.startStep = 10 ∧ s.track.aborting = 0 then
    .next { s with track := { s.track with forming := true, clocks := 0 } }
  else if s.track.disc = 6 then
    let s := { s.wrB F.TRACK_STATUS_FORMING true with track := { s.track with disc := 7, clocks := 0, vLower0 := s.meas.vPlant } }
    .next (if s.rd F.LOOP_STATUS_SOURCE = 2 then s
      else { s.presetTo 18 (s.rdI F.LOOP_ISET_I_SET) with loop := { (s.presetTo 18 (s.rdI F.LOOP_ISET_I_SET)).loop with rampFrom := s.loop.rampFrom.filter (· != 18) ++ [18] } })
  else .next s

/-- FORMED (R241): V_plant has held V_TGT within MATCH_V for MATCH_T; the module enters RUN. -/
def execFormedHeld (s : State) : Host.Outcome State Fault Refusal :=
  if s.effMode = .connect ∧ s.startStep = 10 ∧ s.track.forming = true ∧ s.track.aborting = 0 then
    .next { s.raise 0x23 7 with track := { s.track with ended := true } }.advanceStart
  else .next s

/-- The start resumes at step 2 with RETRY set (R242). -/
def State.startAgain (s : State) : State :=
  let s := (s.wrB F.TRACK_STATUS_RETRY true).raise 0x23 5
  let s := { s with track := { s.track with waiting := false, preReread := false } }
  ((s.presetEntry.freezeAll true).toStep 2).preCheckStep

/-- RETRY_WAIT_EXPIRY (R242): the second attempt begins; in HOLD it waits for the recovery (R59). -/
def execRetryWaitExpiry (s : State) : Host.Outcome State Fault Refusal :=
  if s.effMode ≠ .connect ∨ s.track.waiting = false then .next s
  else if s.mode = .hold then .next { s with track := { s.track with waitDue := true } }
  else .next s.startAgain

/-- The 100 ms wait of Table 10-4 step 3 ends for a disconnect or a start abort (R242, R245): K4 and K5 are de-energised unconditionally, in HOLD at the recovery (R59). -/
def State.waitOver (s : State) : State :=
  if s.track.disc ≠ 3 ∧ s.track.aborting ≠ 2 then s
  else if s.mode = .hold then { s with track := { s.track with waitDue := true } }
  else if s.track.aborting = 2 then s.abortBus true else s.disconnect3 true

/-- DISCONNECT_WAIT_EXPIRY (R245): 100 ms after step 3 of Table 10-4 began. -/
def execDisconnectWaitExpiry (s : State) : Host.Outcome State Fault Refusal := .next s.waitOver

/-- HOLD has ended with recovery: what waited in a start or a disconnect goes on (R60, R243). -/
def State.resumeSequence (s : State) : State :=
  let s := if s.track.peakBad then { s with track := { s.track with peakBad := false } }.abortStart 3 .retry else s
  let s := if s.nOn == 0 then s.gatesStopped else s
  let s := if !s.track.waitDue then s
    else
      let s := { s with track := { s.track with waitDue := false } }
      if s.mode == .connect && s.track.waiting then s.startAgain
      else if s.mode == .connect && s.startStep == 2 && s.track.preReread then s.preCheckStep
      else s.waitOver
  let s := s.advanceStart.advanceOpen
  if s.crown.runDue && s.mode == .connect && s.rd F.CROWN_STAGE_CTRL_STATE != 6 then s.toRun else s

/-! ## CONTACT.CMD -/

/-- K6 is switched by its commands alone, in any mode except TRANSPORT, where it is fitted (R236); before step 10 of Table 2-5 its driver stays off (R30, R44). -/
def State.k6Switch (s : State) (on : Bool) : State :=
  if s.crown.phase = .complete ∧ s.mode ≠ .transport ∧ s.bit F.CONTACT_CFG_FITTED 5 then (if on then s.energise 6 else s.release 6) else s

/-- K6_ON. -/
def execK6On (who : Initiator) (s : State) : Host.Outcome State Fault Refusal := .next (s.asWrite who A.CONTACT_CMD fun s => s.k6Switch true)

/-- K6_OFF. -/
def execK6Off (who : Initiator) (s : State) : Host.Outcome State Fault Refusal := .next (s.asWrite who A.CONTACT_CMD fun s => s.k6Switch false)

/-- CLR_WELD in STANDBY, SAFE or SERVICE clears the WELD of every contactor that reports open (R235). -/
def State.clearWeld (s : State) : State :=
  if s.mode = .standby ∨ s.mode = .safe ∨ s.mode = .service then
    [1, 2, 3, 4, 5, 6].foldl (fun s k =>
      if s.bit F.CONTACT_STATUS_WELD (k - 1) && !s.fbClosed k then (s.wrBit F.CONTACT_STATUS_WELD (k - 1) false).clearCond (.weld k) else s) s
  else s

/-- CLR_WELD. -/
def execClrWeld (who : Initiator) (s : State) : Host.Outcome State Fault Refusal := .next (s.asWrite who A.CONTACT_CMD State.clearWeld)

end Sys2Proof.Machine
end

