-- ==== Sys2Proof/Machine/ProtFam.lean ====
section
/-!
DEFINITION. The meanings of the protection commands (chapter 16): the engine-path protections, the safety island, the safe ramp-down, the
safety network and the insulation monitor.
-/
namespace Sys2Proof.Machine
open Sys2Proof

/-! ## Engine-path protections -/

/-- A measured value fails a protection of Table 16-2: cell code and V_plant in mV, temperatures in 0.1 °C, currents in mA, CBC as a flag. -/
def State.protFails (s : State) (bit : Nat) (v : Int) : Bool :=
  match bit with
  | 0 => decide (v > s.rd F.PROT_CELLV_CELL_OV_MV)
  | 1 => decide (v < s.rd F.PROT_CELLV_CELL_UV_MV)
  | 2 => decide (v ≥ 10 * s.rdI F.PROT_CELLT_CELL_OT)
  | 3 => decide (v ≤ 10 * s.rdI F.PROT_CELLT_CELL_UT)
  | 4 => decide (v > 100 * (s.rd F.PROT_BUS_BUS_OV : Int))
  | 5 => decide (v > 100 * (s.rd F.PROT_OCW_I_WARN : Int))
  | 6 => !s.prot.hall || decide (v.natAbs > 100 * s.rd F.PROT_HALL_HALL_TOL)
  | _ => v != 0

/-- The reaction class of a protection (Table 16-2). -/
def State.protClass (s : State) (bit : Nat) : RClass :=
  match bit with
  | 3 => RClass.ofCode (s.rd F.PROT_CFG_UT_REACT)
  | 5 => .L
  | 6 => RClass.ofCode (s.rd F.PROT_CFG_HALL_REACT)
  | 7 => RClass.ofCode (s.rd F.PROT_CFG_CBC_REACT)
  | 8 => RClass.ofCode (s.rd F.INSUL_CFG_FAULT_REACT)
  | _ => .S

/-- A protection's lasting verdict (R332): its bit, its event, its code and its reaction. -/
def State.protLasting (s : State) (bit : Nat) (data : List Int) : State :=
  let c := s.protClass bit
  let s := ((s.wrBit F.PROT_ACTIVE_BITS bit true).raise 0x30 bit).lasting 0x30 (evCode 0x30 .protection)
  (s.addCond (.prot bit) c).react c 0x30 .protection ((bit : Int) :: data) 7 s.sameEngine

/-- A protection's bit clears (R332, R345). -/
def State.protClear (s : State) (bit : Nat) : State :=
  ((s.wrBit F.PROT_ACTIVE_BITS bit false).raise 0x30 (16 + bit)).clearCond (.prot bit)

/-- The place that a check of Table 16-2 looks at: the cell of bits 0 and 1 and the phase of bit 7 have a second attempt of their own. -/
def protPlace (bit : Nat) (wher : Int) : Nat × Int := (bit, if bit = 0 ∨ bit = 1 ∨ bit = 7 then wher else 0)

/-- The passes of a place with a lasting verdict. -/
def State.protPasses (s : State) (k : Nat × Int) : Option Nat := (s.prot.held.find? (·.1 == k)).map (·.2)

/-- A place held by a lasting verdict with its passes, or no longer (none). -/
def State.protHold (s : State) (k : Nat × Int) (n : Option Nat) : State :=
  let l := s.prot.held.filter (·.1 != k)
  { s with prot := { s.prot with held := match n with | some n => l ++ [(k, n)] | none => l } }

/-- A check of a place waits for its second attempt, or no longer. -/
def State.protPend (s : State) (k : Nat × Int) (b : Bool) : State :=
  { s with prot := { s.prot with pending := s.prot.pending.filter (· != k) ++ (if b then [k] else []) } }

/-- One evaluation of a protection at a place under the second-attempt rule (R332, R410); the bit clears when every place with a verdict has passed twice running. -/
def State.protJudge (s : State) (bit : Nat) (k : Nat × Int) (fails : Bool) (data : List Int) : State :=
  match s.protPasses k with
  | some n =>
    if fails then s.protHold k (some 0)
    else if n + 1 < 2 then s.protHold k (some (n + 1))
    else
      let s := s.protHold k none
      if s.prot.held.any (·.1.1 == bit) then s else s.protClear bit
  | none =>
    if s.prot.pending.contains k then
      if fails then ((s.protPend k false).protHold k (some 0)).protLasting bit data else (s.protPend k false).retryPass 0x30
    else if fails then s.protPend k true else s

/-- PROT_EVALUATION (R332): a protection of Table 16-2 is evaluated on its value (protFails); wher names the cell, the phase or what else it was found on. HALL_DIFF is evaluated with the Hall input fitted, or as failing while it is required and reads open (R504). -/
def execProtEvaluation (bit : Fin 8) (v wher : Int) (s : State) : Host.Outcome State Fault Refusal :=
  let b := bit.val
  if !s.on F.PROT_CFG_EN || s.mode == .transport || (b == 6 && !s.prot.hall && !s.on F.SAFE_CFG_DIVERSE) then .next s
  else .next (s.protJudge b (protPlace b wher) (s.protFails b v) [wher, v])

/-- HALL_DETECT_OPEN (R504): the Hall input is treated as not fitted; where it is not required, a pending HALL_DIFF is voided (R412). -/
def execHallDetectOpen (s : State) : Host.Outcome State Fault Refusal :=
  let s := { s with prot := { s.prot with hall := false } }
  .next (if s.on F.SAFE_CFG_DIVERSE || !s.prot.pending.contains (6, 0) then s else (s.protPend (6, 0) false).voidCheck)

/-! ## The safety island -/

/-- One island supervision under the second-attempt rule (R334), with its lasting reaction. -/
def State.islandJudge (s : State) (c : Cond) (fails : Bool) (cls : RClass) (lasting : State → State) : State :=
  let pend (s : State) (b : Bool) : State :=
    { s with prot := { s.prot with islandPending := (s.prot.islandPending.filter (· != c)) ++ (if b then [c] else []) } }
  if s.hasCond c then (if fails then s else s.clearCond c)
  else if s.prot.islandPending.contains c then
    if fails then lasting ((pend s false).addCond c cls) else (pend s false).retryPass 0x31
  else if fails then pend s true else s

/-- The envelope of an SRD is exceeded (R337): |I| above B(t), in 2^−16 A, t counted in island samples of 2.5 µs. -/
def State.outsideEnvelope (s : State) (d : Srd) (i : Int) : Bool :=
  let t : Nat := (if d.fast then 10 else s.rd F.SAFE_SRD_T_SRD) * 400
  decide ((toQ i).natAbs * t > (s.rdI F.SAFE_I0_I0).natAbs * (t - d.samples) + (tenthToQ (s.rd F.SAFE_SRD_ENV_TOL)).natAbs * t)

/-- The envelope check of an SRD's ramp (Table 16-4 step 3): two violating samples in a row make it a hard trip. -/
def State.envelopeCheck (s : State) (i : Int) : State :=
  match s.prot.srd with
  | some d =>
    if s.rd F.SAFE_STATUS_SRD_STEP = 3 ∧ d.trip = false then
      let out := s.outsideEnvelope d i
      let put (v : Bool) : State := { s with prot := { s.prot with srd := some { d with samples := d.samples + 1, violated := v } } }
      if out && d.violated then
        let s := ((put true).raise 0x31 3).lasting 0x31 (evCode 0x31 .envelope)
        s.react .H 0x31 .envelope [i]
      else if d.violated && !out then (put false).retryPass 0x31
      else put out
    else s
  | none => s

/-- The two gate enables as read back (Table 16-8). -/
def State.readEnables (s : State) (en0 en1 : Bool) : State :=
  if s.on F.SAFE_STATUS_EN0 == en0 && s.on F.SAFE_STATUS_EN1 == en1 then s else ((s.wrB F.SAFE_STATUS_EN0 en0).wrB F.SAFE_STATUS_EN1 en1).refreshGates

/-- ISLAND_SAMPLE (R334, R337): shunt and Hall lane in mA, V_string in mV, and the readback of the two gate enables, every 2.5 µs. -/
def execIslandSample (iShunt iHall vString : Int) (en0 en1 : Bool) (s : State) : Host.Outcome State Fault Refusal :=
  if s.mode = .transport then .next s
  else
    let s := s.readEnables en0 en1
    let trip := s.rd F.SAFE_OC_OC_TRIP * 100
    let oc := decide (iShunt.natAbs > trip) || (s.on F.SAFE_CFG_DIVERSE && s.prot.hall && decide (iHall.natAbs > trip))
    let react (cls : RClass) (ev : Ev) (data : List Int) (cause : Nat) (s : State) : State :=
      (s.lasting 0x31 (evCode 0x31 ev)).react cls 0x31 ev data cause
    let s := s.islandJudge .overCurrent oc .H (react .H .islandOc [iShunt, iHall] 9)
    let s := s.islandJudge .gateReadback (en0 != s.prot.enableCmd || en1 != s.prot.enableCmd) .H (react .H .gateReadback [] 9)
    let s := s.islandJudge .overVoltage (decide (vString > 100 * (s.rd F.SAFE_OV_STR_OV : Int))) .S (react .S .islandOv [vString] 5)
    .next (s.envelopeCheck iShunt)

/-- A request of the SRD inputs is present (R336). -/
def State.srdRequested (s : State) : State := (s.addCond .srdInput .S).requestSrd 1 .srdRequest

/-- Both channels are energised (R336): within DISC_MS of each other the request ends, and a discrepancy since which both were de-energised; else the discrepancy is lasting. -/
def State.srdBothOn (s : State) : State :=
  let d := (s.prot.inChange0 - s.prot.inChange1) + (s.prot.inChange1 - s.prot.inChange0)
  if s.hasCond .srdDisc && !s.prot.bothOff then s
  else if d ≤ s.rd F.SAFE_INPUT_DISC_MS * 1000000 then (s.clearCond .srdDisc).clearCond .srdInput
  else
    let s := { s with prot := { s.prot with bothOff := false } }
    if s.hasCond .srdDisc then s
    else (((s.raise 0x31 4).lasting 0x31 (evCode 0x31 .srdDisc)).record 6 0x31 .srdDisc).addCond .srdDisc .S

/-- SRD_INPUT (R336): an SRD input channel has been at a new level for 200 µs: de-energised it is a request; both energised end it. -/
def execSrdInput (ch : Fin 2) (energised : Bool) (s : State) : Host.Outcome State Fault Refusal :=
  if s.mode = .transport then .next s
  else
    let f := if ch = 0 then F.SAFE_STATUS_IN0 else F.SAFE_STATUS_IN1
    let was := s.on f
    let s := s.wrB f energised
    if energised then
      let s := if was then s else if ch = 0 then { s with prot := { s.prot with inChange0 := s.mono } } else { s with prot := { s.prot with inChange1 := s.mono } }
      if s.on F.SAFE_STATUS_IN0 && s.on F.SAFE_STATUS_IN1 then .next s.srdBothOn else .next s
    else
      let s := if s.on F.SAFE_STATUS_IN0 || s.on F.SAFE_STATUS_IN1 then s else { s with prot := { s.prot with bothOff := true } }
      .next s.srdRequested

/-- SAFE.CMD.SRD written 1 (R336). -/
def State.cmdSrd (s : State) : State := s.requestSrd 2 .srdRequest

/-- SAFE.CMD.TRIP written 1 (R346). -/
def State.cmdTrip (s : State) : State := ((s.record 7 0x31 .hardTrip).noteSH 0x31 .hardTrip).hardTrip 0x31 .hardTrip

/-- SAFE_CMD_SRD: a request equal to an input request. -/
def execSafeCmdSrd (who : Initiator) (s : State) : Host.Outcome State Fault Refusal := .next (s.asWrite who A.SAFE_CMD State.cmdSrd)

/-- SAFE_CMD_TRIP: a hard trip. -/
def execSafeCmdTrip (who : Initiator) (s : State) : Host.Outcome State Fault Refusal := .next (s.asWrite who A.SAFE_CMD State.cmdTrip)

/-- SRD_RAMP_END (Table 16-4 steps 4 and 5). -/
def execSrdRampEnd (s : State) : Host.Outcome State Fault Refusal :=
  let step := s.rd F.SAFE_STATUS_SRD_STEP
  if s.prot.srd.any (fun d => !d.trip) ∧ (step = 2 ∨ step = 3) then .next s.srdRampEnd else .next s

/-- SRD_COIL_TIMEOUT (Table 16-4 step 5): 30 ms after step 4 the coil-feed switch releases any coil still energised. -/
def execSrdCoilTimeout (s : State) : Host.Outcome State Fault Refusal :=
  if s.prot.srd.isSome ∧ s.rd F.SAFE_STATUS_SRD_STEP = 5 ∧ [1, 2, 3, 4, 5].any s.driven then .next s.cutFeed.advanceOpen else .next s

/-- SAFECLK_STOP (R335): both enables de-energise whatever the island's logic state; a class H event. -/
def execSafeclkStop (s : State) : Host.Outcome State Fault Refusal :=
  let s := ({ s with prot := { s.prot with safeClk := false } }.dropEnables).raise 0x31 5
  .next ((s.addCond .safeClk .H).react .H 0x31 .clockFault)

/-! ## Safety network -/

/-- The source block whose ID a message names, enabled (R339). -/
def State.snetSource (s : State) (id : Nat) : Option Nat :=
  (List.range 8).find? fun n => s.on (F.SNET_SRC_0_EN n) && s.rd (F.SNET_SRC_0_ID n) == id

/-- A copy meets every condition of R339 but the twin conditions: its source block. -/
def State.copyValid (s : State) (m : List Byte) : Option Nat :=
  if m.length = 32 ∧ beAt m 0 2 = 0x534D ∧ beAt m 2 1 = 0x01 ∧ crc32c (m.take 28) = beAt m 28 4 then
    match s.snetSource (beAt m 4 2) with
    | none => none
    | some n =>
      let seqOk := match (mget {} s.prot.sources n).lastSeq with
        | none => true
        | some l => let d := (beAt m 8 4 + 2 ^ 32 - l) % 2 ^ 32; decide (1 ≤ d) && decide (d ≤ 2 ^ 31)
      let destOk := beAt m 6 2 == s.rd F.SNET_CFG_OWN_ID || beAt m 6 2 == 0xFFFF
      let t : Int := beAt m 12 6 * 1000000000 + beAt m 18 4
      let ageOk := !s.on F.SNET_CFG_AGE_CHK || decide ((t - s.tb0).natAbs ≤ s.rd (F.SNET_SRC_4_SWD_MS n) * 1000000)
      if seqOk && destOk && ageOk then some n else none
  else none

/-- A source's state replaced. -/
def State.setSource (s : State) (n : Nat) (x : Source) : State := { s with prot := { s.prot with sources := mset {} s.prot.sources n x } }

/-- A valid pair (R339, R340): the watchdog restarts, a request of the source is acted on where the source may. -/
def State.validPair (s : State) (n : Nat) (m : List Byte) : State :=
  let src := mget {} s.prot.sources n
  let s := if src.mismatch.isSome then s.retryPass 0x32 else s
  let s := (s.setSource n { lastSeq := some (beAt m 8 4) }).wrBit F.SNET_STATUS_PAIR_OK n true
  let s := s.clearCond (.snetLoss n)
  let fl := beAt m 24 1
  if fl.testBit 1 && s.on (F.SNET_SRC_0_ACT_TRIP n) then
    (((s.raise 0x32 4).record 7 0x32 .snetRequest [n]).noteSH 0x32 .snetRequest).hardTrip 0x32 .snetRequest
  else if fl.testBit 0 && s.on (F.SNET_SRC_0_ACT_SRD n) then (s.raise 0x32 4).requestSrd 4 .snetRequest [n]
  else s

/-- Copies of one SEQ differ (R340): a failed comparison; one of another SEQ after it is lasting. -/
def State.twinsDiffer (s : State) (n : Nat) (m : List Byte) : State :=
  let src := mget {} s.prot.sources n
  let q := beAt m 8 4
  let second := src.mismatch.any (· != q)
  let s := s.setSource n { src with copy := none, mismatch := if second then none else some q }
  if second then
    (((s.bump F.SNET_COUNTS_MISMATCH).raise 0x32 1).lasting 0x32 (evCode 0x32 .snetMismatch)).record 3 0x32 .snetMismatch [n]
  else s

/-- TWINNED_SAFETY_MESSAGE (R339 to R341): one copy, a datagram to a UDP port, arrives on an Ethernet port that runs IP at TB3 = now; only SNET.PORT is the island's. -/
def execTwinnedSafetyMessage (port : Fin 2) (m : SafetyDatagram) (s : State) : Host.Outcome State Fault Refusal :=
  match (if s.ipUp port.val && m.dst.toNat == s.rd F.SNET_PORT_UDP_PORT then s.copyValid m.bytes else none) with
  | none => .next s
  | some n =>
    let src := mget {} s.prot.sources n
    let fresh : SafetyCopy := { port := port.val, bytes := m.bytes, arrived := s.mono }
    let store (s : State) : State := s.setSource n { mget {} s.prot.sources n with copy := some fresh }
    match src.copy with
    | some c =>
      if c.port ≠ port.val ∧ beAt c.bytes 8 4 = beAt m.bytes 8 4 ∧ s.mono ≤ c.arrived + s.rd F.SNET_CFG_SKEW_MS * 1000000 then
        if c.bytes = m.bytes then .next (s.validPair n m.bytes) else .next (s.twinsDiffer n m.bytes)
      else
        let s := s.bump F.SNET_COUNTS_SINGLES
        .next (if s.on F.SNET_STATUS_DEGRADED then s.validPair n m.bytes else store s)
    | none => if s.on F.SNET_STATUS_DEGRADED then .next (s.validPair n m.bytes) else .next (store s)

/-- Copies whose twin has not come within SKEW_MS are dropped and counted (R339, Table 16-9). -/
def State.dropSingles (s : State) : State :=
  (List.range 8).foldl (fun (s : State) n =>
    let x := mget {} s.prot.sources n
    if x.copy.any (fun c => decide (c.arrived + s.rd F.SNET_CFG_SKEW_MS * 1000000 < s.mono)) then (s.setSource n { x with copy := none }).bump F.SNET_COUNTS_SINGLES else s) s

/-- A source is configured anew (R339): neither SEQ nor copies of it, no watchdog running; its loss ends where it is no longer supervised (DESIGN CHOICE, notes/assumptions/44.md). -/
def State.snetReset (s : State) (n : Nat) : State :=
  let s := (s.setSource n {}).wrBit F.SNET_STATUS_PAIR_OK n false
  if s.on (F.SNET_SRC_0_EN n) then s else s.clearCond (.snetLoss n)

/-- SAFETY_WATCHDOG (R339): source n's watchdog reaches SWD_MS, once until a valid pair restarts it. -/
def execSafetyWatchdog (n : Fin 8) (s : State) : Host.Outcome State Fault Refusal :=
  if s.on (F.SNET_SRC_0_EN n.val) && s.mode != .transport && !s.hasCond (.snetLoss n.val) then
    let s := (s.wrBit F.SNET_STATUS_PAIR_OK n.val false).raise 0x32 0
    .next ((s.addCond (.snetLoss n.val) .S).requestSrd 3 .snetLoss [n.val])
  else .next s

/-- The module's own STATE message (Table 16-5, R340). -/
def State.stateMessage (s : State) : List Byte :=
  let flags := (if s.mode == .safe then 4 else 0) + (if s.on F.SNET_STATUS_DEGRADED then 8 else 0) + (if s.on F.SAFE_STATUS_SRD_ACTIVE then 16 else 0)
  let cause := match s.prot.lastSH with | some (src, ev) => evCode src ev | none => 0
  let m := be 2 0x534D ++ be 1 1 ++ be 1 1 ++ be 2 (s.rd F.SNET_CFG_OWN_ID) ++ be 2 0xFFFF ++ be 4 s.prot.txSeq ++ s.timeBytes 0
    ++ be 1 flags ++ be 1 s.mode.code ++ be 2 cause
  m ++ be 4 (crc32c m)

/-- SNET_STATE_TX (R340): TX_MS expires and the STATE message goes out on each port with a destination. -/
def execSnetStateTx (s : State) : Host.Outcome State Fault Refusal :=
  let s := { s with prot := { s.prot with txSeq := (s.prot.txSeq + 1) % 2 ^ 32 } }
  let m := s.stateMessage
  let port := s.rd F.SNET_PORT_UDP_PORT
  let one (s : State) (eth : Nat) (f : Fld) : State := if s.rd f == 0 || !s.ipUp eth then s else s.send (.udp eth (s.rd f) port m)
  .next (one (one s 0 F.SNET_DST0_IP) 1 F.SNET_DST1_IP)

/-- The degraded permission ends (R341). -/
def State.endDegrade (s : State) : State :=
  if s.on F.SNET_STATUS_DEGRADED then
    { (((s.wrB F.SNET_STATUS_DEGRADED false).wr F.SNET_DEGLEFT_LEFT 0).raise 0x32 3).record 5 0x32 .degrade [0] with prot := { s.prot with degradeEnd := 0 } }
  else s

/-- DEG_S written (R341): 0 ends the permission, 1–3,600 grants it anew, recorded at severity 5. -/
def State.writeDegrade (s : State) (sec : Nat) : State :=
  if sec > 3600 then s
  else
    let s := s.wr F.SNET_DEGRADE_DEG_S sec
    if sec = 0 then s.endDegrade
    else
      let s := (((s.wrB F.SNET_STATUS_DEGRADED true).wr F.SNET_DEGLEFT_LEFT sec).raise 0x32 2).record 5 0x32 .degrade [sec]
      { s with prot := { s.prot with degradeEnd := s.mono + sec * 1000000000 } }

/-- DEGRADE_GRANT. -/
def execDegradeGrant (who : Initiator) (sec : BitVec 12) (s : State) : Host.Outcome State Fault Refusal :=
  .next (s.asWrite who A.SNET_DEGRADE fun s => s.writeDegrade sec.toNat)

/-- DEGRADE_EXPIRY (R341). -/
def execDegradeExpiry (s : State) : Host.Outcome State Fault Refusal := .next s.endDegrade

/-! ## Insulation monitor -/

/-- A resistance num / den in kΩ as a field shows it: 0xFFFF above 65,534 kΩ or where none results (Table 16-10). -/
def kOhm (num den : Int) : Nat := if den ≤ 0 || num < 0 || num / den > 65534 then 0xFFFF else (num / den).toNat

/-- The monitor may measure (R342). -/
def State.insulAllowed (s : State) : Bool :=
  s.on F.INSUL_CFG_EN && decide (s.meas.vString ≥ 100000) && (s.on F.INSUL_CFG_BUS_MODE || !s.fbClosed 4 || !s.fbClosed 5) && s.claimHeld

/-- The verdict of a cycle (R342): WARN and the FAULT of two consecutive cycles, PROT bit 8. -/
def State.insulJudge (s : State) (rIso : Nat) : State :=
  let warn := decide (rIso < s.rd F.INSUL_THR_R_WARN)
  let s := if warn && !s.on F.INSUL_STATUS_WARN then s.raise 0x33 1 else s
  let s := s.wrB F.INSUL_STATUS_WARN warn
  let low := decide (rIso < s.rd F.INSUL_THR_R_FAULT)
  let first := s.prot.insFirst
  let s := { s with prot := { s.prot with insFirst := low } }
  let passes (s : State) (n : Nat) : State := { s with prot := { s.prot with insPasses := n } }
  if s.on F.INSUL_STATUS_FAULT then
    if low then
      let s := passes s 0
      if s.on F.PROT_CFG_EN && !s.bit F.PROT_ACTIVE_BITS 8 then s.protLasting 8 [rIso] else s
    else if s.prot.insPasses + 1 < 2 then passes s (s.prot.insPasses + 1)
    else
      let s := passes ((s.wrB F.INSUL_STATUS_FAULT false).raise 0x33 3) 0
      if s.bit F.PROT_ACTIVE_BITS 8 then s.protClear 8 else s
  else if low && first then
    let s := (s.wrB F.INSUL_STATUS_FAULT true).raise 0x33 2
    if s.on F.PROT_CFG_EN then s.protLasting 8 [rIso] else s
  else if first && !low then s.retryPass 0x33
  else s

/-- A complete cycle (R342): R_P, R_N and R_ISO from the pole voltages of both states (mV magnitudes), the 10 MΩ sense network per pole of this unit, and of the partner in a pair, removed. -/
def State.insulCycle (s : State) (pB nB : Int) : State :=
  let pA := s.prot.insVpA
  let nA := s.prot.insVnA
  let d := pB * nA - pA * nB
  let units : Int := if s.on F.PAIR_CFG_PAIRED then 2 else 1
  let res (g : Int) : Nat := kOhm (4000000 * d) (10000 * g - 400 * units * d)
  let gp := (nA + pA) * nB
  let gn := pA * (pB + nB)
  let rIso := kOhm (4000000 * d) (10000 * (gp + gn) - 2 * 400 * units * d)
  let s := ((s.wr F.INSUL_RES_R_P (res gp)).wr F.INSUL_RES_R_N (res gn)).wr F.INSUL_RISO_R_ISO rIso
  let s := ((s.bump F.INSUL_CYCLES_COUNT).wrB F.INSUL_STATUS_VALID true).raise 0x33 0
  s.insulJudge rIso

/-- The monitor does not measure: NO_MEAS, the injection resistor disconnected, the last verdict kept (R342). -/
def State.insulOff (s : State) : State :=
  ((s.wrB F.INSUL_STATUS_NO_MEAS true).wrB F.INSUL_STATUS_INJECTING false).wrB F.INSUL_STATUS_STATE_B false

/-- INSUL_STATE_END (R342): T_SETTLE ends with the poles at vp and vn mV to PE; state A is followed by state B, state B closes the cycle. -/
def execInsulStateEnd (vp vn : Int) (s : State) : Host.Outcome State Fault Refusal :=
  if s.insulAllowed then
    let s := (s.wrB F.INSUL_STATUS_NO_MEAS false).wrB F.INSUL_STATUS_INJECTING true
    if s.on F.INSUL_STATUS_STATE_B then .next ((s.wrB F.INSUL_STATUS_STATE_B false).insulCycle vp vn.natAbs)
    else .next { s.wrB F.INSUL_STATUS_STATE_B true with prot := { s.prot with insVpA := vp, insVnA := vn.natAbs } }
  else
    .next s.insulOff

end Sys2Proof.Machine
end

