-- ==== Sys2Proof/Machine/PtpOps.lean ====
section
/-!
DEFINITION. PTP as operations (R432 to R441): the fields of a message, master selection, the delay and offset exchanges, the servo,
the transmit timestamp queues.
-/
namespace Sys2Proof.Machine
open Sys2Proof

/-! ## Messages (IEEE 1588-2019, PRESUMED where the spec names only the standard) -/

/-- messageType. -/
def ptpType (m : List Byte) : Nat := beAt m 0 1 % 16
/-- The correctionField, in 2^−16 ns. -/
def ptpCorr (m : List Byte) : Int := beIAt m 8 8
/-- sourcePortIdentity. -/
def ptpSrc (m : List Byte) : Nat := beAt m 20 10
/-- sequenceId. -/
def ptpSeq (m : List Byte) : Nat := beAt m 30 2
/-- logMessageInterval. -/
def ptpLog (m : List Byte) : Int := beIAt m 33 1
/-- A Timestamp of 48 bits of seconds and 32 of nanoseconds, in 2^−16 ns. -/
def ptpTime (m : List Byte) (off : Nat) : Int := ((beAt m off 6 * 1000000000 + beAt m (off + 6) 4) * 65536 : Nat)

/-- A port carries the messages of a profile: its link is up, and for UDP over IPv4 it has an address (Table 21-2). -/
def State.ptpUp (s : State) (port : Nat) (l2 : Bool) : Bool :=
  s.portsLive && s.on (F.ETH_LINK_UP port) && (l2 || s.rd (F.ETH_IPV4_ADDR port) != 0)

/-- An instance takes a message: enabled, on its port, transport and domain, of the type and length wanted, version 2. -/
def State.ptpTakes (s : State) (i : Nat) (port : Nat) (l2 : Bool) (ty len : Nat) (m : List Byte) : Bool :=
  s.ptpUp port l2 && s.on (F.PTP_CFG_EN i) && s.rd (F.PTP_CFG_PORT i) == port && s.on (F.PTP_CFG_PROFILE i) == l2 && decide (len ≤ m.length)
    && ptpType m == ty && beAt m 1 1 % 16 == 2 && beAt m 4 1 == s.rd (F.PTP_CFG_DOMAIN i)

/-- The module's port identity on an Ethernet port: the MAC address as an EUI-64, port number 1. -/
def ownPort (port : Nat) : Nat :=
  let mac := Config.factoryMac port % 2 ^ 48
  (mac / 2 ^ 24 * 2 ^ 40 + 0xFFFE * 2 ^ 24 + mac % 2 ^ 24) * 65536 + 1

/-- A message of the module: header of 34 bytes and body. -/
def ptpMessage (ty domain flags : Nat) (corr : Int) (src seq : Nat) (body : List Byte) : List Byte :=
  [byte ty, 0x12] ++ be 2 (34 + body.length) ++ [byte domain, 0, byte flags, 0] ++ beI 8 corr ++ be 4 0 ++ be 10 src ++ be 2 seq ++ [0, 0x7F] ++ body

/-- A stamp as a Timestamp. -/
def stampBytes (t : Int) : List Byte := be 6 ((t / 65536).toNat / 1000000000) ++ be 4 ((t / 65536).toNat % 1000000000)

/-- The stamp error of a port in ns, by the speed of its link (R433). -/
def State.stampError (s : State) (port : Nat) : Int :=
  match s.rd (F.ETH_LINK_SPEED port) with | 0 => 80 | 1 => 16 | _ => 8

/-- The deviation of a stamp taken at a port, within its stamp error. -/
def State.stampDev (s : State) (port : Nat) (dev : Int) : Int := clampI dev (-s.stampError port) (s.stampError port)

/-- The value of an instance's time base at the message timestamp point of its port, dev ns off within the stamp error (R433), in 2^−16 ns. -/
def State.stampAt (s : State) (n : Nat) (dev : Int) : Int := (s.timeBase n).stamp + s.stampDev (s.rd (F.PTP_CFG_PORT n)) dev * 65536

/-! ## Servo -/

/-- A rate of an instance in 2^−32 ppb put in force: rounded to sQ19.12 with halves away from zero. -/
def State.setRate (s : State) (i : Nat) (r : Int) : State :=
  let q := clampRate (roundAway r (2 ^ 20))
  (s.wrI (F.PTP_RATE_RATE i) q).wrI (F.TIME_RATE_RATE i) q

/-- The limit M of an instance in 2^−32 ppb (R436). -/
def State.rateLimit (s : State) (i : Nat) : Int := s.rd (F.PTP_LIM_MAX_PPM i) * 1000 * 2 ^ 32

/-- SERVO of an instance. -/
def State.servo (s : State) (i : Nat) : Nat := s.rd (F.PTP_STATE_SERVO i)

/-- The servo locks after 16 updates in a row within LOCK_NS (R437). -/
def State.lockCount (s : State) (i : Nat) (theta : Int) : State :=
  let p := s.ptp i
  let run := if theta.natAbs ≤ s.rd (F.PTP_LIM_LOCK_NS i) * 65536 then p.run + 1 else 0
  let s := s.setPtp i { p with run := run }
  if s.servo i == 1 && decide (16 ≤ run) then
    (((((s.wr (F.PTP_STATE_SERVO i) 2).wr (F.PTP_STATE_PORT_STATE i) 9).raise 0x49 (4 * i)).setPtp i { p with run := run, wasLocked := true }).setSynced i)
  else s

/-- R436 steps 2 and 3 for an offset θ and an interval Ts, both in 2^−16 ns. -/
def State.servoTake (s : State) (i : Nat) (theta ts : Int) : State :=
  let p := s.ptp i
  let mode := s.rd (F.PTP_CFG_STEP_MODE i)
  if theta.natAbs > s.rd (F.PTP_STEP_STEP_NS i) * 65536 && (mode == 2 || (mode == 1 && !p.wasLocked)) then
    let s := (s.stepBase i (TimeBase.ofTotal ((s.timeBase i).total - theta * 2 ^ 32))).raise 0x49 (4 * i + 3)
    (s.setPtp i { s.ptp i with run := 0 }).setRate i (-p.integ)
  else if ts ≤ 0 then s
  else
    let m := s.rateLimit i
    let di := roundAway (s.rd (F.PTP_SERVO_KI i) * theta * 1000000000 * 65536) ts.toNat
    let dp := roundAway (s.rd (F.PTP_SERVO_KP i) * theta * 1000000000 * 65536) ts.toNat
    let ik := clampI (p.integ + di) (-m) m
    let raw := -(dp + ik)
    let r := clampI raw (-m) m
    let keep := (decide (raw < r) && decide (di > 0)) || (decide (raw > r) && decide (di < 0))
    ((s.setPtp i { p with integ := if keep then p.integ else ik }).setRate i r).lockCount i theta

/-- Fallback of TB0 on TB1 at an accepted update of instance 1 (R438). -/
def State.fallback (s : State) (ts : Int) : State :=
  if s.on (F.PTP_CFG_FALLBACK 0) && s.servo 0 == 3 && s.servo 1 == 2 then
    let s := if s.on (F.PTP_STATE_FB_ACTIVE 0) then s else (s.wrB (F.PTP_STATE_FB_ACTIVE 0) true).raise 0x49 9
    let theta := (s.timeBase 0).stamp - (s.timeBase 1).stamp
    (s.wrI (F.PTP_OFFS_OFFSET 0) (roundAway theta 65536)).servoTake 0 theta ts
  else s

/-- A Sync is accepted: counted; a fallback of instance 0 ends (R438). -/
def State.syncAccepted (s : State) (i : Nat) (t2 : Int) : State :=
  let s := (s.bump (F.PTP_CNT_SYNC_RX i)).setPtp i { s.ptp i with prevT2 := some t2 }
  if i = 0 then s.wrB (F.PTP_STATE_FB_ACTIVE 0) false else s

/-- An offset θ of a Sync received at t2 (R435, R436). -/
def State.offset (s : State) (i : Nat) (theta t2 : Int) : State :=
  let p := s.ptp i
  let ts := t2 - p.prevT2.getD t2
  let s := s.wrI (F.PTP_OFFS_OFFSET i) (roundAway theta 65536)
  let out := s.servo i == 2 && decide (theta.natAbs > s.rd (F.PTP_OUT_OUTLIER_NS i) * 65536)
  let take (s : State) : State :=
    let s := (s.syncAccepted i t2).servoTake i theta ts
    if i = 1 then s.fallback ts else s
  if out && !p.outlier then s.setPtp i { p with outlier := true }
  else if out then
    let s := ((((s.setPtp i { p with outlier := false, run := 0 }).wr (F.PTP_STATE_SERVO i) 1).wr (F.PTP_STATE_PORT_STATE i) 8).bump (F.PTP_CNT2_LOCK_LOSSES i)).raise 0x49 (4 * i + 1)
    take (s.lastingW 0x49 .ptpLock [i, roundAway theta 65536])
  else if p.outlier then take ((((s.setPtp i { p with outlier := false }).retryPass 0x49)).bump (F.PTP_CNT_OUTLIERS i))
  else take s

/-- The offset of the last completed Sync (R434), where the delay is known. -/
def State.offsetOfLast (s : State) (i : Nat) : State :=
  let p := s.ptp i
  match p.last, p.delay with
  | some (t1, t2, cs, _), some d =>
    (s.setPtp i { p with due := false }).offset i (t2 - t1 - cs - d - s.rdI (F.PTP_OUT_ASYM_NS i) * 65536) t2
  | _, _ => s.setPtp i { p with due := true }

/-- Acquisition (R436 step 1): two Syncs without a step between them. -/
def State.acquire (s : State) (i : Nat) (t1 t2 : Int) : State :=
  let p := s.ptp i
  let n := s.stepsOf i
  let first : State := (s.syncAccepted i t2)
  match p.acq with
  | some (t1a, t2a, na) =>
    if na = n ∧ t1 > t1a then
      let m := s.rateLimit i
      let x := roundAway (1000000000 * 2 ^ 32 * ((t2 - t2a) - (t1 - t1a))) (t1 - t1a).toNat - s.rdI (F.TIME_RATE_RATE i) * 2 ^ 20
      let integ := clampI x (-m) m
      (first.setPtp i { first.ptp i with acq := none, acquired := true, integ := integ }).setRate i (-integ)
    else first.setPtp i { first.ptp i with acq := some (t1, t2, n) }
  | none => first.setPtp i { first.ptp i with acq := some (t1, t2, n) }

/-- A Sync exchange is complete: t1, t2 and c_s (R434, R437). -/
def State.syncDone (s : State) (i : Nat) (t1 t2 cs : Int) : State :=
  let s := if s.servo i == 3 then ((s.wr (F.PTP_STATE_SERVO i) 1).wr (F.PTP_STATE_PORT_STATE i) 8).setPtp i { s.ptp i with run := 0 } else s
  let p := s.ptp i
  let s := s.setPtp i { p with sync := none, last := some (t1, t2, cs, s.stepsOf i) }
  if s.servo i == 0 then s
  else if p.acquired then s.offsetOfLast i else s.acquire i t1 t2

/-- A delay d of an exchange (R434): discarded where negative, else filtered; an offset that waited for the first one follows. -/
def State.delayDone (s : State) (i : Nat) (d : Int) : State :=
  if d < 0 then s
  else
    let p := s.ptp i
    let f := match p.delay with
      | none => d
      | some x => x + roundAway (d - x) (2 ^ s.rd (F.PTP_CFG_PD_AVG i))
    let s := (s.setPtp i { p with delay := some f }).wr (F.PTP_MPD_DELAY i) (satUnsigned 32 (roundAway f 65536))
    if p.due then s.offsetOfLast i else s

/-- An exchange is abandoned (R434). -/
def State.abandon (s : State) (i : Nat) : State :=
  (s.setPtp i { s.ptp i with req := none, gone := none, resp := none, presp := none }).bump (F.PTP_CNT2_ABANDONED i)

/-- The end-to-end exchange, once t3 and the Delay_Resp are both there. -/
def State.e2eDone (s : State) (i : Nat) : State :=
  let p := s.ptp i
  match p.gone, p.resp, p.last with
  | some (t3, n3), some (t4, cd), some (t1, t2, cs, n2) =>
    if n2 = n3 then (s.setPtp i { p with req := none, gone := none, resp := none }).delayDone i (roundAway ((t2 - t1 - cs) + (t4 - t3 - cd)) 2)
    else s.abandon i
  | _, _, _ => s

/-- The peer exchange, with t3p − t2p and c_p complete. -/
def State.peerDone (s : State) (i : Nat) (t4p : Int) (n4 : Nat) (turn cp : Int) : State :=
  let p := s.ptp i
  match p.gone with
  | some (t1p, n1) =>
    if n1 = n4 then (s.setPtp i { p with req := none, gone := none, presp := none }).delayDone i (roundAway ((t4p - t1p) - turn - cp) 2)
    else s.abandon i
  | none => s

/-! ## Master selection -/

/-- A foreign master is better than another (default BMCA): by data set, or for one grandmaster by steps and source. -/
def Foreign.better (a b : Foreign) : Bool :=
  if a.set.getLast? == b.set.getLast? then decide (a.steps < b.steps) || (a.steps == b.steps && decide (a.src < b.src))
  else decide (a.set < b.set)

/-- A foreign master is qualified: two Announces within four announce intervals. -/
def Foreign.qualified (f : Foreign) : Bool :=
  match f.before with
  | some t => decide ((f.last - t) * 2 ^ 20 ≤ 4 * 1000000000 * 2 ^ (20 + f.interval).toNat)
  | none => false

/-- The best qualified foreign master. -/
def bestForeign (l : List Foreign) : Option Foreign :=
  (l.filter Foreign.qualified).foldl (fun a f => match a with | none => some f | some b => if f.better b then some f else a) none

/-- An acceptable master (AMT_EN): its clockIdentity is listed. -/
def State.acceptable (s : State) (i src : Nat) : Bool :=
  let id (lo hi : Nat → Fld) : Nat := s.rd (lo i) + 2 ^ 32 * s.rd (hi i)
  let l := [id F.PTP_AMT0_LO_ID_LO F.PTP_AMT0_HI_ID_HI, id F.PTP_AMT1_LO_ID_LO F.PTP_AMT1_HI_ID_HI, id F.PTP_AMT2_LO_ID_LO F.PTP_AMT2_HI_ID_HI, id F.PTP_AMT3_LO_ID_LO F.PTP_AMT3_HI_ID_HI]
  !s.on (F.PTP_CFG_AMT_EN i) || (src / 65536 != 0 && l.contains (src / 65536))

/-- The foreign master that an Announce describes. -/
def foreignOf (m : List Byte) (now : Nat) (before : Option Nat) : Foreign :=
  { src := ptpSrc m, set := [beAt m 47 1, beAt m 48 1, beAt m 49 1, beAt m 50 2, beAt m 52 1, beAt m 53 8], steps := beAt m 61 2,
    interval := ptpLog m, last := now, before := before, utc := beAt m 44 2, flags := beAt m 7 1 }

/-- A master is selected (R437): the servo leaves IDLE or HOLDOVER for ACQUIRING, after HOLDOVER without repeating acquisition; a master that stayed selected through a loss of its Syncs does so with its next Sync. -/
def State.selectMaster (s : State) (i : Nat) (f : Foreign) : State :=
  let gm := f.set.getLast?.getD 0
  let bit (a b : Nat) : Nat := if f.flags.testBit a then 2 ^ b else 0
  let s := ((s.wr (F.PTP_GM_LO_GM_LO i) gm).wr (F.PTP_GM_HI_GM_HI i) (gm / 2 ^ 32)).wr (F.PTP_STATE_UTC_OFFSET i) f.utc
  let s := s.wr (F.PTP_STATE_TFLAGS i) (bit 3 0 + bit 2 1 + bit 0 2 + bit 1 3)
  let p := s.ptp i
  let s := if p.master == some f.src then s else s.setPtp i { p with master := some f.src, sync := none }
  match s.servo i with
  | 0 => (((s.wr (F.PTP_STATE_SERVO i) 1).wr (F.PTP_STATE_PORT_STATE i) 8).setPtp i { s.ptp i with acq := none, acquired := false, run := 0 })
  | 3 => if p.master == some f.src then s else (((s.wr (F.PTP_STATE_SERVO i) 1).wr (F.PTP_STATE_PORT_STATE i) 8).setPtp i { s.ptp i with acquired := true, run := 0 })
  | _ => s

/-- An Announce for an instance. -/
def State.announced (s : State) (i : Nat) (m : List Byte) : State :=
  let p := s.ptp i
  let src := ptpSrc m
  if beAt m 61 2 ≥ 255 || src == ownPort (s.rd (F.PTP_CFG_PORT i)) || !s.acceptable i src then s
  else
    let old := p.foreign.find? (·.src == src)
    let l := p.foreign.filter (·.src != src) ++ [foreignOf m s.mono (old.map (·.last))]
    let s := s.setPtp i { p with foreign := l }
    match bestForeign (l.filter fun f => s.acceptable i f.src) with
    | some f => s.selectMaster i f
    | none => s

/-- HOLDOVER (R437): RATE stays at −I of the last update; a pending outlier is voided (R412). -/
def State.holdover (s : State) (i : Nat) : State :=
  let p := s.ptp i
  if s.servo i == 1 || s.servo i == 2 then
    let s := if s.servo i == 2 then s.raise 0x49 (4 * i + 1) else s
    let s := (s.wr (F.PTP_STATE_SERVO i) 3).raise 0x49 (4 * i + 2)
    let s := if p.outlier then s.voidCheck else s
    let s := s.setPtp i { p with run := 0, outlier := false, acquired := true, acq := none }
    if p.acquired then s.setRate i (-p.integ) else s
  else s

/-- EN of an instance changed at a take-up: enabled, it listens; disabled, it is idle (R437), a pending outlier voided (R412). -/
def State.ptpEnable (s : State) (i : Nat) (en : Bool) : State :=
  let s := if (s.ptp i).outlier then s.voidCheck else s
  ((((s.setPtp i {}).wr (F.PTP_STATE_PORT_STATE i) (if en then 4 else 3)).wr (F.PTP_STATE_SERVO i) 0).wrB (F.PTP_STATE_FB_ACTIVE i) false)

/-! ## Transmit timestamp queues -/

/-- The queue of a port. -/
def State.txq (s : State) (p : Nat) : List TxStamp := mget [] s.time.txq p

/-- The queue of a port replaced, with FILL and PEAK. -/
def State.setTxq (s : State) (p : Nat) (l : List TxStamp) : State :=
  let s := { s with time := { s.time with txq := mset [] s.time.txq p l } }
  let s := s.wr (F.PTP_TXQ_0_FILL p) l.length
  if l.length > s.rd (F.PTP_TXQ_0_PEAK p) then s.wr (F.PTP_TXQ_0_PEAK p) l.length else s

/-- The sixteen bytes of an entry (Table 21-3). -/
def TxStamp.bytes (e : TxStamp) : List Byte := [byte e.kind, byte e.inst] ++ le 2 e.id ++ le 2 e.time.frac16 ++ le 4 e.time.ns ++ le 6 e.time.sec

/-- LASTp shows an entry. -/
def State.showStamp (s : State) (p : Nat) (e : TxStamp) : State :=
  let w (k : Nat) : Nat := leAt e.bytes (4 * k) 4
  (((s.wr (F.PTP_LAST0_ENTRY p) (w 0)).wr (F.PTP_LAST1_ENTRY p) (w 1)).wr (F.PTP_LAST2_ENTRY p) (w 2)).wr (F.PTP_LAST3_ENTRY p) (w 3)

/-- The PTP service waits for an entry. -/
def State.awaits (s : State) (e : TxStamp) : Bool :=
  let p := s.ptp e.inst
  match e.kind with
  | 1 => p.req == some e.id && p.gone.isNone && !s.on (F.PTP_CFG_PROFILE e.inst)
  | 2 => p.req == some e.id && p.gone.isNone && s.on (F.PTP_CFG_PROFILE e.inst)
  | 3 => match p.answer with
    | some (q, _, _, _) => q == e.id
    | none => false
  | _ => false

/-- The PTP service takes a matching entry (R441): t3 or t1p, or the follow-up of a Pdelay_Resp. -/
def State.takeStamp (s : State) (port : Nat) (e : TxStamp) : State :=
  let i := e.inst
  let p := s.ptp i
  match e.kind with
  | 1 => (s.setPtp i { p with gone := some (e.time.stamp, s.stepsOf i) }).e2eDone i
  | 2 => s.setPtp i { p with gone := some (e.time.stamp, s.stepsOf i) }
  | _ => match p.answer with
    | some (q, who, t2, c) =>
      let t3 := e.time.stamp
      let frac := t3 % 65536 - t2 % 65536
      (s.setPtp i { p with answer := none }).send
        (.ptp port true (ptpMessage 0xA (s.rd (F.PTP_CFG_DOMAIN i)) 0 (c + frac) (ownPort port) q (stampBytes t3 ++ be 10 who)))
    | none => s

/-- An entry for a message a port has sent (R440, R441): matched, kept, or dropped where the queue is full, which abandons its exchange. -/
def State.pushStamp (s : State) (port : Nat) (e : TxStamp) : State :=
  let l := s.txq port
  if l.length ≥ 16 then
    let s := (s.bump (F.PTP_TXQ_0_DROPS port)).raise 0x49 8
    if s.awaits e then (if e.kind = 3 then s.setPtp e.inst { s.ptp e.inst with answer := none } else s.abandon e.inst) else s
  else
    let s := (s.setTxq port (l ++ [e])).showStamp port e
    if s.awaits e then (s.setTxq port l).takeStamp port e else s

end Sys2Proof.Machine
end

