-- ==== Sys2Proof/Machine/Image.lean ====
section
/-!
DEFINITION. Image slots and their checks (R478 to R480, R489), the class L register store (R476), the configuration store (R477) and the
migration of formats (R488).
-/
namespace Sys2Proof.Machine
open Sys2Proof

/-! ## Fields of a class -/

/-- A word with the fields that satisfy a property taken from another word. -/
def mergeFields (p : FieldDef → Bool) (fs : List FieldDef) (base other : Word) : Word :=
  fs.foldl (fun w f => if p f then let fl : Fld := ⟨0, f.lo, f.width⟩; fl.put w (fl.get other) else w) base

/-- Fields of a class. -/
def ofClass (c : Cls) (f : FieldDef) : Bool := f.cls == c

/-- The live registers of some pages, banked copies included, in the fields that satisfy a property, every other field at its reset value; those at reset are not listed. -/
def State.classWords (s : State) (page : Nat → Bool) (p : FieldDef → Bool) : List (Nat × Word) :=
  s.regs.filterMap fun (a, w) =>
    if page (pageOf a) then match regAt a with
      | none => none
      | some r => let w' := mergeFields p r.fields (resetWord a) w
        if w' = resetWord a then none else some (a, w')
    else none

/-- Listed words taken up in the fields that satisfy a property. -/
def State.takeWords (s : State) (p : FieldDef → Bool) (l : List (Nat × Word)) : State :=
  l.foldl (fun s (a, w) => match regAt a with
    | none => s
    | some r => s.setWord a (mergeFields p r.fields (s.word a) w)) s

/-! ## Stores -/

/-- Pages whose class L fields have a store of their own: counters, estimator and its journals, claim generation, NOR and boot record. -/
def ownStore (page : Nat) : Bool := [0x25, 0x28, 0x2A, 0x39, 0x60, 0x62].contains page

/-- The class L register store written (R476): the slot with the lower SEQ. -/
def State.storeLregs (s : State) : State :=
  let a := (mget (0, []) s.nvm.lregs 0).1
  let b := (mget (0, []) s.nvm.lregs 1).1
  let k := if a ≤ b then 0 else 1
  { s with nvm := { s.nvm with lregs := mset (0, []) s.nvm.lregs k (max a b + 1, s.classWords (fun p => !ownStore p) (ofClass .L)) } }

/-- The newer slot of a pair of slots with a SEQ. -/
def newerSlot {α : Type} (l : List (Nat × (Nat × List α))) : List α :=
  let a := mget (0, []) l 0
  let b := mget (0, []) l 1
  if a.1 < b.1 then b.2 else a.2

/-- The SEQ of the entry in a slot, 0 where it holds none. -/
def Nvm.seqOf (n : Nvm) (k : Nat) : Nat := ((n.entries.find? fun x => x.1 == k).map fun x => x.2.seq).getD 0

/-- The entry slot that a new configuration entry takes: the lowest SEQ among the slots not pinned (R477). -/
def Nvm.entrySlot (n : Nvm) : Nat :=
  let free := (List.range 3).filter fun k => n.boot.pinned != some k
  free.foldl (fun b k => if n.seqOf k < n.seqOf b then k else b) (free.headD 0)

/-- The SEQ of the next configuration entry. -/
def Nvm.entrySeq (n : Nvm) : Nat := n.entries.foldl (fun a (_, e) => max a e.seq) 0 + 1

/-- The configuration store shown (Table 24-8). -/
def State.showEntry (s : State) (slot seq : Nat) : State :=
  ((s.wr F.NVM_CSTORE_SLOT slot).wrB F.NVM_CSTORE_PINNED s.nvm.boot.pinned.isSome).wr F.NVM_CSEQ_SEQ seq

/-- The values in force written as one entry of a format (R477): sectors erased, entry written and verified, commit record; it is then the entry in force. -/
def State.storeEntry (s : State) (format : Nat) : State :=
  let k := s.nvm.entrySlot
  let e : CfgEntry := { seq := s.nvm.entrySeq, format := format, values := s.classWords (fun _ => true) (ofClass .S), program := s.nvm.program }
  let len := 16 + 8 * e.values.length + e.program.length + 20
  let s := (List.range ((len + 65535) / 65536)).foldl (fun s i => s.erase (2048 + 32 * k + i)) s
  ({ s with nvm := { s.nvm with entries := mins (mdel s.nvm.entries k) k e, stored := mset 1 s.nvm.stored 0 format } }.wr F.NVM_FORMATS_CFG format).showEntry k e.seq

/-- The complete entry with the highest SEQ at or below the ceiling whose FORMAT the image reads (R477, R488). -/
def Nvm.bestEntry (n : Nvm) (format : Nat) : Option (Nat × CfgEntry) :=
  n.entries.foldl (fun (b : Option (Nat × CfgEntry)) x =>
    let ok := decide (x.2.format ≤ format) && match n.boot.ceiling with
      | some c => decide (x.2.seq ≤ c)
      | none => true
    if ok then match b with
      | none => some x
      | some y => if y.2.seq < x.2.seq then some x else b
    else b) none

/-! ## Images -/

/-- A state with one image slot replaced. -/
def State.setImage (s : State) (k : Nat) (x : ImageSlot) : State := { s with nvm := { s.nvm with images := mset {} s.nvm.images k x } }

/-- The slot that does not run. -/
def State.otherSlot (s : State) : Nat := 1 - s.nvm.boot.slot % 2

/-- The format of the running image. -/
def State.imgFormat (s : State) (k : Nat) : Nat := s.runImage.format k

/-- The format an item is stored in. -/
def State.storedFormat (s : State) (k : Nat) : Nat := mget 1 s.nvm.stored k

/-- Checks 1 to 7 of R480 on a header, the code of Table 24-6 at the first failure, 0 where all pass. -/
def State.headerCheck (s : State) (h : List Byte) : Nat :=
  let f (o : Nat) : Nat := leAt h o 1
  let len := leAt h 32 4
  if leAt h 0 4 ≠ 0x49575358 || f 4 ≠ 1 then 2
  else if f 5 ≠ 1 || leAt h 6 2 ≠ 0x0512 || !(f 8).testBit (if Config.variant = 0x43 then 1 else 0) then 3
  else if Config.hwRev % 256 < f 9 || f 10 < Config.hwRev % 256 then 4
  else if len < 1 || len > 33292288 || leAt h 36 4 ≠ (len + 4095) / 4096 then 10
  else if f 11 < s.rd F.UPDATE_OTP_FLOOR then 5
  else if f 27 ≠ 1 || (List.range 6).any fun k => decide (f (20 + k) < s.storedFormat k) then 7
  else
    let key := f 29
    let q := Config.otpKey key
    if key > 3 || s.bit F.UPDATE_OTP_REVOKED key || (f 30).testBit key
      || !ecdsaVerify q.1 q.2 (ofBe ((h.drop 192).take 32)) (ofBe ((h.drop 224).take 32)) (h.take 192) then 6
    else 0

/-- BLOCKS of a header. -/
def hdrBlocks (h : List Byte) : Nat := leAt h 36 4

/-- A block as its CRC is computed (R479): the bytes of the body, zeros past LENGTH. -/
def blockPadded (h : List Byte) (k : Nat) (b : List Byte) : List Byte :=
  let n := min 4096 (leAt h 32 4 - 4096 * k)
  b.take n ++ List.replicate (4096 - min n b.length) 0

/-- A block matches its entry of the table (R480). -/
def blockOk (x : ImageSlot) (k : Nat) (b : List Byte) : Bool := crc32c (blockPadded x.header k b) == leAt x.table (4 * k) 4

/-- The whole slot checked as at FINISH (R480, stage 4). -/
def State.slotCheck (s : State) (x : ImageSlot) : Bool :=
  s.headerCheck x.header == 0 && sha256 (x.table.take (4 * hdrBlocks x.header)) == (x.header.drop 40).take 32
  && (List.range (hdrBlocks x.header)).all fun k => blockOk x k (mget [] x.blocks k)

/-- The registers of a slot take the version of its header (Table 24-9). -/
def State.showSlot (s : State) (k : Nat) : State :=
  let h := (s.image k).header
  if h.isEmpty then s
  else (((s.wr (F.UPDATE_SLOT_SVN k) (leAt h 11 1)).wr (F.UPDATE_SLOT_MAJ_MIN k) (leAt h 12 1 * 256 + leAt h 13 1)).wr (F.UPDATE_VER_PATCH k) (leAt h 14 2)).wr
    (F.UPDATE_BUILD_BUILD k) (leAt h 16 4)

/-! ## Migration -/

/-- A journal slot with another FORMAT and SEQ, its CRCs and commit record formed anew. -/
def JSlot.renew (x : JSlot) (format seq : Nat) : JSlot :=
  let b := x.bytes.take 2 ++ [byte format] ++ (x.bytes.drop 3).take 1 ++ le 4 seq ++ (x.bytes.drop 8).take (x.bytes.length - 12)
  let b := b ++ le 4 (crc32c b)
  let c := le 4 seq ++ le 4 (leAt b 24 4) ++ le 4 (leAt b (b.length - 4) 4)
  { bytes := b, commit := c ++ le 4 (crc32c c) }

/-- The newest content of journal j among some slots written as a new slot with the next SEQ and a FORMAT. -/
def State.renewJournal (s : State) (j : Nat) (slots : List (Nat × JSlot)) (format : Nat) : State :=
  let best := (slots.map (·.2)).foldl (fun (b : Option JSlot) x => if x.complete then match b with
    | none => some x
    | some y => if leAt y.bytes 4 4 < leAt x.bytes 4 4 then some x else b
    else b) none
  match best with
  | none => s
  | some x => s.setSlot j (s.slotToWrite j) (x.renew format (s.newestSeq j + 1))

/-- The newest content of a slot pair written as a new slot with the next SEQ. -/
def renewPair {α : Type} [DecidableEq α] (now old : List (Nat × (Nat × List α))) : List (Nat × (Nat × List α)) :=
  let a := (mget (0, []) now 0).1
  let b := (mget (0, []) now 1).1
  mset (0, []) now (if a ≤ b then 0 else 1) (max a b + 1, newerSlot old)

/-- The newest counter slot of some written as a new slot with the next SEQ. -/
def renewCounters (now old : List (Nat × List Byte)) : List (Nat × List Byte) :=
  let a := mget [] now 0
  let b := mget [] now 1
  let o := mget [] old 0
  let p := mget [] old 1
  let x := if slotSeq o < slotSeq p then p else o
  let body := le 4 (max (slotSeq a) (slotSeq b) + 1) ++ (x.drop 4).take 32
  if slotValid x then mset [] now (if slotSeq a ≤ slotSeq b then 0 else 1) (body ++ le 4 (crc32c body)) else now

/-- An item written anew from slots of a backup, in a format: 1 LJ, 2 SJ, 3 CNT, 4 RET, 5 LREG. -/
def State.renewItem (s : State) (b : Backup) (k format : Nat) : State :=
  let s := { s with nvm := { s.nvm with stored := mset 1 s.nvm.stored k format } }
  match k with
  | 1 => s.renewJournal 0 b.l format
  | 2 => s.renewJournal 1 b.st format
  | 3 => { s with tele := { s.tele with slots := renewCounters s.tele.slots b.counters } }
  | 4 => { s with nvm := { s.nvm with retain := renewPair s.nvm.retain b.retain } }
  | 5 => { s with nvm := { s.nvm with lregs := renewPair s.nvm.lregs b.lregs } }
  | _ => s

/-- The FRAM items whose FORMAT is lower than the image's, copied into the backup and converted (R488). -/
def State.migrateFram (s : State) : State :=
  let items := (List.range 5).filterMap fun i => let k := i + 1
    if s.storedFormat k < s.imgFormat k then some (k, s.storedFormat k) else none
  if items.isEmpty then s
  else
    let b : Backup := { l := s.est.l, st := s.est.st, counters := s.tele.slots, retain := s.nvm.retain, lregs := s.nvm.lregs, items := items }
    let s := { s with nvm := { s.nvm with backup := some b } }
    let s := items.foldl (fun s (x : Nat × Nat) => s.renewItem b x.1 (s.imgFormat x.1)) s
    (s.wrB F.NVM_STATUS_MIGRATED true).raise 0x60 2

/-- The migration backup restored into FRAM (R487 step 2). -/
def State.restoreBackup (s : State) : State :=
  match s.nvm.backup with
  | none => s
  | some b =>
    let s := b.items.foldl (fun s (x : Nat × Nat) => s.renewItem b x.1 x.2) s
    { s with nvm := { s.nvm with backup := none } }

end Sys2Proof.Machine
end

