-- ==== Sys2Proof/Machine/ThermFam.lean ====
section
/-!
DEFINITION. The meanings of the thermal commands (chapter 13): NTC channels and cooling outputs, the NOR window, throttling, tachometers.
-/
namespace Sys2Proof.Machine
open Sys2Proof

/-! ## NTC channels -/

/-- Fraction bits of log2 of m / 2^60 in [1, 2), k of them. -/
def log2Bits : Nat → Nat → Nat → Nat
  | 0, _, acc => acc
  | k + 1, m, acc =>
    let q := m * m / 2 ^ 60
    if q ≥ 2 ^ 61 then log2Bits k (q / 2) (2 * acc + 1) else log2Bits k q (2 * acc)

/-- The natural logarithm of n ≥ 1 in units of 2^−40. -/
def ln40 (n : Nat) : Int :=
  let k := Nat.log2 n
  ((k * 2 ^ 40 + log2Bits 40 (n * 2 ^ 60 / 2 ^ k) 0) * 762123384786 / 2 ^ 40 : Nat)

/-- The code of an NTC channel of a resistance in mΩ (R294, R522): open above 4 MΩ, short below 20 Ω, else 0.1 °C limited to −40 to +150 °C. -/
def ntcCode (mOhm r25 b : Nat) : Int :=
  if mOhm > 4000000000 then ntcOpen
  else if mOhm < 20000 then ntcShort
  else
    let l := ln40 mOhm - ln40 (max r25 1 * 10000)
    let den : Int := 100 * (b : Int) * 2 ^ 40 + 29815 * l
    if den ≤ 0 then 1500 else clampI (roundAway (2 * 10 * b * 29815 * 2 ^ 40 - 5463 * den) (2 * den)) (-400) 1500

/-- The measurement of NTC channel n (R293, R522): a discarded reading keeps the previous one, the third in a row reads open; B = 0 disables the channel. -/
def State.takeNtc (s : State) (n : Nat) (r : Option Nat) : State :=
  let f := if n % 2 = 0 then F.THERM_NTCT_T_EVEN (n / 2) else F.THERM_NTCT_T_ODD (n / 2)
  let b := s.rd (F.THERM_NTCCFG_B n)
  if b = 0 then s.wrI f noData
  else match r with
    | some m => ({ s with therm := { s.therm with discards := mset 0 s.therm.discards n 0 } }).wrI f (ntcCode m (s.rd (F.THERM_NTCCFG_R25 n)) b)
    | none =>
      let k := min (mget 0 s.therm.discards n + 1) 3
      let s := { s with therm := { s.therm with discards := mset 0 s.therm.discards n k } }
      if k = 3 then s.wrI f ntcOpen else s

/-! ## Cooling outputs -/

/-- The board temperatures BT0 to BT3. -/
def State.boards (s : State) : List Int := [s.rdI F.THERM_BOARD_BT0, s.rdI F.THERM_BOARD_BT1, s.rdI F.THERM_BOARD2_BT2, s.rdI F.THERM_BOARD2_BT3]

/-- The demand of a source (R298), none where it is invalid. -/
def State.coolSource (s : State) (src : Nat) : Option Int :=
  if src < 16 then (if readable (s.ntc src) then some (s.ntc src) else none)
  else if src = 16 then (if s.rdI F.THERM_TCELL_T_HOT = noData then none else some (s.rdI F.THERM_TCELL_T_HOT))
  else if src = 17 then hottest (s.boards.filter fun t => t != noData)
  else none

/-- The curve duty of output k (R298). -/
def State.curveDuty (s : State) (k : Nat) : Nat :=
  if s.rd (F.THERM_COOL_0_SRC k) = 18 then 0
  else match s.coolSource (s.rd (F.THERM_COOL_0_SRC k)) with
    | none => 100
    | some t =>
      let a := s.rdI (F.THERM_COOL_4_T_START k)
      let b := s.rdI (F.THERM_COOL_4_T_FULL k)
      if t ≥ b then 100
      else if t < a - 10 * (s.rd F.THERM_DERATE_HYST_K : Int) then 0
      else if t < a then (s.cool k).duty
      else (s.rd (F.THERM_COOL_0_DUTY_MIN k) + roundDiv ((100 - (s.rd (F.THERM_COOL_0_DUTY_MIN k) : Int)) * (t - a)) (b - a)).toNat

/-- The duty of one output computed (R298 to R300): the curve, OVERRIDE, 100 % while a lasting fault stands; how long it has been unchanged. -/
def State.updateCool (s : State) (k : Nat) : State :=
  let d := s.curveDuty k
  let out := if s.bit F.THERM_STATUS_COOL_FAULT k then 100 else max d (min (s.rd (F.THERM_COOL_C_OVERRIDE k)) 100)
  let c := s.cool k
  s.setCool k { c with duty := d, out := out, steady := if out = c.out then min (c.steady + 1) 50 else 0 }

/-! ## The NOR window -/

/-- The NOR programming window after a reading of BT0 (R301). -/
def State.norWindow (s : State) : State :=
  let t := s.rdI F.THERM_BOARD_BT0
  let valid := t != noData
  let inside := valid && decide (-300 ≤ t) && decide (t ≤ 850)
  let near := valid && decide (-280 ≤ t) && decide (t ≤ 830)
  let s := { s with therm := { s.therm with norSince := if near then some (s.therm.norSince.getD s.mono) else none } }
  if s.on F.THERM_STATUS_NOR_OK then (if inside then s else (s.wrB F.THERM_STATUS_NOR_OK false).raise 0x2C 3)
  else
    let opens := if s.therm.norSeen then (match s.therm.norSince with
      | some t0 => decide (s.mono ≥ t0 + 10000000000)
      | none => false) else inside
    let s := if valid then { s with therm := { s.therm with norSeen := true } } else s
    if opens then (s.wrB F.THERM_STATUS_NOR_OK true).raise 0x2C 4 else s

/-- THERMAL_UPDATE (R293, R294, R298, R299, R301): the resistance of each NTC channel in mΩ (none: discarded) and the board temperatures in 0.1 °C (−0x8000: sensor fault). -/
def execThermalUpdate (ntc : List (Option Nat)) (board : List Int) (s : State) : Host.Outcome State Fault Refusal :=
  if s.mode == .transport then .next s
  else
    let s := (ntc.take 16).zipIdx.foldl (fun s (r, n) => s.takeNtc n r) s
    let b (i : Nat) : Int := (board[i]?).getD noData
    let s := (((s.wrI F.THERM_BOARD_BT0 (b 0)).wrI F.THERM_BOARD_BT1 (b 1)).wrI F.THERM_BOARD2_BT2 (b 2)).wrI F.THERM_BOARD2_BT3 (b 3)
    .next ((List.range 6).foldl (fun s k => s.updateCool k) s).driveCool.norWindow

/-! ## Throttling -/

/-- Entry threshold of a stage in 0.1 °C (Table 13-1). -/
def stageAtTemp (n : Nat) : Int := 1000 + 100 * n

/-- A change of stage (Table 13-1): CD10 divided and T2 and T3 suspended from stage 2 on (R303, R425), its entry instant, and from when the second below its threshold counts. -/
def State.toStage (s : State) (n : Nat) (t : Int) : State :=
  let div := decide (n ≥ 2)
  let s := if s.on F.CLOCK_STATUS_CD10_DIV2 == div then s else (s.wrB F.CLOCK_STATUS_CD10_DIV2 div).raise 0x04 3
  let s := s.wr F.SCAN_STATUS_SUSPENDED (if div then 0xC else 0)
  { s.wr F.THERM_STATUS_STAGE n with therm := { s.therm with stageAt := s.mono, below := if t < stageAtTemp n - 50 then some s.mono else none } }

/-- TJ_READING (R302): Tj in 0.1 °C; stage 3 only at the second reading in a row, a fall-back of one stage after 1 s more than 5 K below the threshold. -/
def execTjReading (t : Int) (sensorFault : Bool) (s : State) : Host.Outcome State Fault Refusal :=
  if s.mode == .transport then .next s
  else
    let t := if sensorFault then 1300 else t
    let st := s.rd F.THERM_STATUS_STAGE
    let s := s.wrI F.THERM_TJ_TJ t
    let hot := decide (t ≥ 1300)
    let twice := hot && s.therm.hot3
    let s := { s with therm := { s.therm with hot3 := hot } }
    let up := if twice then 3 else if t ≥ 1200 then 2 else if t ≥ 1100 then 1 else 0
    if up > st then
      let s := (s.toStage up t).raise 0x2C 0
      .next (if up = 3 then (s.addCond .tjStage3 .S).react .S 0x2C .tj [t] else s)
    else
      let below := if t < stageAtTemp st - 50 then some (s.therm.below.getD s.mono) else none
      let s := { s with therm := { s.therm with below := below } }
      match below with
      | some b =>
        if st > 0 && decide (s.mono ≥ max b s.therm.stageAt + 1000000000) then
          let s := (s.toStage (st - 1) t).raise 0x2C 1
          .next (if st = 3 then s.clearCond .tjStage3 else s)
        else .next s
      | none => .next s

/-! ## Fan supervision -/

/-- A lasting fault of a cooling output (R300). -/
def State.coolLasts (s : State) (k : Nat) : State :=
  let cls := if s.rd (F.THERM_COOL_8_REACT k) = 1 then RClass.L else .W
  let s := ((s.wrBit F.THERM_STATUS_COOL_FAULT k true).raise 0x2C 5).lasting 0x2C (evCode 0x2C .coolingFault)
  (s.addCond (.cooling k) cls).react cls 0x2C .coolingFault [k] 7 s.sameEngine

/-- The fan check judged (R300). -/
def State.judgeFan (s : State) (k : Nat) (pass : Bool) : State :=
  let c := s.cool k
  if s.bit F.THERM_STATUS_COOL_FAULT k then
    if pass && c.clearing then ((s.setCool k { c with clearing := false, failedAt := none }).wrBit F.THERM_STATUS_COOL_FAULT k false).clearCond (.cooling k) else s
  else match c.failedAt with
    | none => if pass then s else s.setCool k { c with failedAt := some s.mono }
    | some t =>
      if s.mono < t + 5000000000 then s
      else
        let s := s.setCool k { c with failedAt := none }
        if pass then s.retryPass 0x2C else s.coolLasts k

/-- TACH_CHECK (R300): the pulses of fan k in the last second; its speed, and the check of a supervised output whose duty has been steady for 5 s. The speed is held to the curve duty d of R298, to 100 % while a fault drives the output so (DEDUCED, notes/assumptions/90.md). -/
def execTachCheck (k : Fin 4) (pulses : Nat) (s : State) : Host.Outcome State Fault Refusal :=
  let ppr := max (s.rd (F.THERM_COOL_8_PPR k.val)) 1
  let rpm := pulses * 60 / ppr
  let s := s.wr (F.THERM_COOL_C_RPM k.val) (min rpm 0xFFFF)
  let full := s.rd (F.THERM_COOL_8_RPM_FULL k.val)
  let d := if s.bit F.THERM_STATUS_COOL_FAULT k.val then 100 else (s.cool k.val).duty
  if full = 0 || s.mode == .transport || (s.cool k.val).steady < 50 || (s.cool k.val).out < 20 then .next s
  else .next (s.judgeFan k.val (decide (rpm * 10000 ≥ s.rd (F.THERM_COOL_8_TACH_MIN_PCT k.val) * d * full)))

/-- THERM.CMD.CLR_FAULT (R300): COOL_FAULT of the outputs written 1 clears at their next passing check. -/
def State.clearCool (s : State) (mask : Nat) : State :=
  (List.range 6).foldl (fun s k => if mask.testBit k && s.bit F.THERM_STATUS_COOL_FAULT k then s.setCool k { s.cool k with clearing := true } else s) s

/-- THERM_CLR_FAULT (R300). -/
def execThermClrFault (who : Initiator) (mask : BitVec 6) (s : State) : Host.Outcome State Fault Refusal :=
  .next (s.asWrite who A.THERM_CMD fun s => s.clearCool mask.toNat)

end Sys2Proof.Machine
end

