-- ==== Sys2Proof/Machine/TelemFam.lean ====
section
/-!
DEFINITION. The meanings of the telemetry commands (chapter 14), and the deferred writes of R288 and R311.
-/
namespace Sys2Proof.Machine
open Sys2Proof

/-- The 64-bit counters in their registers. -/
def State.showCounters (s : State) : State :=
  s.counters.zipIdx.foldl (fun s (v, k) => (s.wr ⟨A.TELEM_QIN_LO + 8 * k, 0, 32⟩ (v % 2 ^ 32)).wr ⟨A.TELEM_QIN_LO + 8 * k + 4, 0, 32⟩ (v / 2 ^ 32)) s

/-- The figures of one quantity (R306, R308): MEAN, RMS, MIN, MAX and the peak pair. -/
def State.reduce (s : State) (n q : Nat) (x : Reduced) : State :=
  let s := s.wrI (F.TELEM_MEAN_MEAN q) (roundAway x.sum n)
  let s := s.wr (F.TELEM_RMS_RMS q) ((isqrt (4 * x.sumSq / max n 1) + 1) / 2)
  let s := (s.wrI (F.TELEM_MIN_MIN q) x.lo).wrI (F.TELEM_MAX_MAX q) x.hi
  (s.wrI (F.TELEM_PKMAX_PK_MAX q) (max (s.rdI (F.TELEM_PKMAX_PK_MAX q)) x.pkHi)).wrI (F.TELEM_PKMIN_PK_MIN q) (min (s.rdI (F.TELEM_PKMIN_PK_MIN q)) x.pkLo)

/-- The stream record of a window (Table 14-3). -/
def State.teleRecord (s : State) (n sec ns frac winMs : Nat) (stepped clipped hold : Bool) : List Byte :=
  let bit (b : Bool) (k : Nat) : Nat := if b then 2 ^ k else 0
  let fl := bit stepped 0 + bit (s.rd F.PAIR_STATUS_ROLE == 2) 1 + bit hold 2 + bit clipped 3 + bit (s.on F.TELEM_STATUS_CNT_GAP) 4
  let q := (List.range 6).flatMap fun k => le 4 (s.rd (F.TELEM_MEAN_MEAN k)) ++ le 4 (s.rd (F.TELEM_RMS_RMS k)) ++ le 4 (s.rd (F.TELEM_MIN_MIN k)) ++ le 4 (s.rd (F.TELEM_MAX_MAX k))
  le 4 s.tele.seq ++ [byte fl, 0] ++ le 2 winMs ++ le 2 frac ++ le 4 ns ++ le 6 sec ++ le 4 n ++ q ++ s.counters.flatMap (le 8)
    ++ leI 2 (s.rdI F.THERM_TCELL_T_HOT) ++ leI 2 (s.rdI F.THERM_TCELL_T_COLD) ++ leI 2 (s.rdI F.THERM_TJ_TJ)
    ++ leI 2 ((hottest (s.boards.filter fun t => t != noData)).getD noData)

/-- TELEM_WINDOW_END (R306 to R309, R313): a window of n samples that began at a TB0 time ends: its sums, the charge in nC and energy in pJ it adds to Q_IN, Q_OUT, E_IN and E_OUT, whether a sample was at full scale and whether a step of TB0 ended it. I_HALL is 0 where no Hall sensor is fitted (Table 14-1). -/
def execTelemWindowEnd (n sec ns frac : Nat) (q : List Reduced) (charge : List Nat) (clipped stepped : Bool) (s : State) : Host.Outcome State Fault Refusal :=
  if s.mode == .transport || s.on F.CROWN_MODE_DORMANT || n = 0 then .next s
  else
    let add (i : Nat) : Nat := (charge[i]?).getD 0
    let t := s.tele
    let len := t.winMs.getD (s.rd F.TELEM_CFG_WIN_MS)
    let s := { s with tele := { t with qIn := t.qIn + add 0, qOut := t.qOut + add 1, eIn := t.eIn + add 2, eOut := t.eOut + add 3, net := t.net + add 0 - add 1 } }
    let s := (q.take 6).zipIdx.foldl (fun s (x, k) => s.reduce n k (if k = 4 && !s.prot.hall then {} else x)) s.showCounters
    let s := ((s.wrB F.TELEM_STATUS_OVERRANGE clipped).wr F.TELEM_SEQ_SEQ t.seq).raise 0x25 0
    let s := if clipped then s.raise 0x25 2 else s
    let s := if stepped then s.raise 0x25 4 else s
    let s := if s.on F.TELEM_CFG_STREAM_EN then
        let (s', taken) := s.push 98 (s.teleRecord n sec ns frac len stepped clipped (t.hold || s.mode == .hold)) true
        if taken then s' else (s'.bump F.TELEM_STAT_DROPPED).raise 0x25 1
      else s
    let new := s.rd F.TELEM_CFG_WIN_MS
    let len := if stepped || (ns + len * 1000000) % (max new 1 * 1000000) = 0 then new else len
    .next { s with tele := { s.tele with seq := (t.seq + 1) % 2 ^ 32, hold := s.mode == .hold, winMs := some len } }

/-- The peak pairs of the quantities in a mask cleared (R308). -/
def State.clearPeaks (s : State) (mask : Nat) : State :=
  (List.range 6).foldl (fun s q => if mask.testBit q then (s.wr (F.TELEM_PKMAX_PK_MAX q) 0x80000000).wr (F.TELEM_PKMIN_PK_MIN q) 0x7FFFFFFF else s) s

/-- PK_CLR (R308): a write of TELEM.CMD.PK_CLR. -/
def execPkClr (who : Initiator) (mask : BitVec 6) (s : State) : Host.Outcome State Fault Refusal := .next (s.asWrite who A.TELEM_CMD fun s => s.crossing who A.TELEM_CMD mask.toNat fun s => s.clearPeaks mask.toNat)

/-- TELEM.CMD.CNT_RESET (R312): recorded in every case; only a secure session in STANDBY or SERVICE zeroes the counters. -/
def State.cntReset (s : State) (who : Initiator) : State :=
  let ok := s.secureOf who && (s.mode == .standby || s.mode == .service)
  let s := s.record 5 0x25 .cntReset ([(if ok then 1 else 0), (who.id : Int)] ++ s.counters.map fun (v : Nat) => (v : Int))
  if ok then { s with tele := { s.tele with qIn := 0, qOut := 0, eIn := 0, eOut := 0 } }.showCounters.counterSlot else s

/-- CNT_RESET (R312). -/
def execCntReset (who : Initiator) (s : State) : Host.Outcome State Fault Refusal := .next (s.asWrite who A.TELEM_CMD fun s => s.crossing who A.TELEM_CMD 256 fun s => s.cntReset who)

/-- COUNTER_SLOT_INTERVAL (R311): every CNT_S seconds. -/
def execCounterSlotInterval (s : State) : Host.Outcome State Fault Refusal := .next s.counterSlot

/-- A read of a counter's LO register latches its HI register (R310). -/
def State.readCounterLo (s : State) (k : Nat) : State :=
  { s with tele := { s.tele with latched := mset 0 s.tele.latched k (s.rd ⟨A.TELEM_QIN_LO + 8 * k + 4, 0, 32⟩) }, readData := [s.word (A.TELEM_QIN_LO + 8 * k)] }

/-- COUNTER_LO_READ (R310): of Q_IN, Q_OUT, E_IN or E_OUT. -/
def execCounterLoRead (who : Initiator) (k : Fin 4) (s : State) : Host.Outcome State Fault Refusal :=
  .next (s.asRead who (A.TELEM_QIN_LO + 8 * k.val) fun s => s.readCounterLo k.val)

/-- The newest valid counter slot restored (R311, Table 2-5 step 7): CNT_GAP in every case, the net charge from 0. -/
def State.restoreCounters (s : State) : State :=
  let a := mget [] s.tele.slots 0
  let b := mget [] s.tele.slots 1
  let x := if slotSeq a < slotSeq b then b else a
  let g (k : Nat) : Nat := if slotValid x then leAt x (4 + 8 * k) 8 else 0
  let s := { s with tele := { s.tele with qIn := g 0 * 1000, qOut := g 1 * 1000, eIn := g 2 * 1000000000, eOut := g 3 * 1000000000, net := 0 } }
  (s.showCounters.wrB F.TELEM_STATUS_CNT_GAP true).raise 0x25 3

/-- DEFERRED_WRITE (R288, R311, R378): once VAUX_OK has returned, the deferred journal, counter and RETAIN writes are made. -/
def execDeferredWrite (s : State) : Host.Outcome State Fault Refusal :=
  if s.journalHeld then .next s
  else
    let s := s.deferredJournals
    let s := if s.tele.deferred then s.counterSlot else s
    .next (if s.scan.retainLate then s.retainSlot else s)

end Sys2Proof.Machine
end

