-- ==== Sys2Proof/Machine/Boot.lean ====
section
/-!
DEFINITION. A reset and the start that follows it (Table 2-5 steps 1 to 8, R44 to R50, R56): what survives, which image boots (R489), its
fallback (R487), and what is loaded and started.
-/
namespace Sys2Proof.Machine
open Sys2Proof

/-- KIND of Table 2-7. -/
def ResetKind.code : ResetKind → Nat
  | .powerOn => 0 | .supply => 1 | .externalPin => 2 | .watchdog => 3 | .softwareWarm => 4 | .pairForced => 5 | .updateActivation => 6

/-- The kinds that restart from step 5 (Table 2-6), which keep class K and which COUNT counts. -/
def ResetKind.warm : ResetKind → Bool
  | .watchdog | .softwareWarm | .pairForced => true
  | _ => false

/-- The kinds that restart from step 1 (Table 2-6). -/
def ResetKind.cold : ResetKind → Bool
  | .powerOn | .supply => true
  | _ => false

/-! ## Boot record -/

/-- The entry in force: its slot and SEQ, none where the factory defaults govern. -/
def State.entryInForce (s : State) : Option (Nat × Nat) :=
  if s.on F.NVM_STATUS_CFG_VALID then some (s.rd F.NVM_CSTORE_SLOT, s.rd F.NVM_CSEQ_SEQ) else none

/-- Step 4 of Table 24-7: the record with both versions; BOOT names the new slot in TRIAL, PREV the old one, the ceiling is the entry in force, which is pinned. -/
def State.bootNew (s : State) (k : Nat) (entry : Option (Nat × Nat)) : State :=
  let b := s.nvm.boot
  let ver (n : Nat) : List Int := [((s.rd (F.UPDATE_SLOT_MAJ_MIN n) : Nat) : Int), ((s.rd (F.UPDATE_VER_PATCH n) : Nat) : Int), ((s.rd (F.UPDATE_BUILD_BUILD n) : Nat) : Int)]
  let s := (s.record 5 0x62 .activation (ver (b.slot % 2) ++ ver k)).wr (F.UPDATE_SLOT_STATE k) 3
  let ceiling : Nat := match entry with
    | some (_, q) => q
    | none => 0
  { s with nvm := { s.nvm with startOk := false, hostOk := false, backup := none,
                               boot := { slot := k, prev := some (b.slot % 2), trial := true, first := true, ceiling := some ceiling,
                                         pinned := entry.map (·.1), late := b.late } } }

/-- Steps 1 and 2 of a fallback (R487): recorded, the backup restored, the trial slot REJECTED, BOOT back at PREV with the ceiling kept; the pin is released (R488). -/
def State.fallbackStore (s : State) : State :=
  let b := s.nvm.boot
  let s := (s.record 6 0x62 .fallback [(b.slot : Int)]).restoreBackup
  let s := s.wr (F.UPDATE_SLOT_STATE (b.slot % 2)) 6
  { s with nvm := { s.nvm with startOk := false, hostOk := false, fallDue := false,
                               boot := { slot := b.prev.getD 0, ceiling := b.ceiling, fellBack := true } } }

/-- A slot passes its boot check (R489): its contents verify, the delivered image's included, and no read of it failed twice. -/
def State.bootable (s : State) (bad : Fin 4) (k : Nat) : Bool :=
  !(bad.val.testBit k) && s.rd (F.UPDATE_SLOT_STATE k) != 1 && s.rd (F.UPDATE_SLOT_STATE k) != 6 && ((s.image k).header.isEmpty || s.slotCheck (s.image k))

/-- The rank of a slot where no boot record is valid (R489): the higher SVN, then the higher version. -/
def State.slotRank (s : State) (k : Nat) : Nat :=
  ((s.rd (F.UPDATE_SLOT_SVN k) * 2 ^ 16 + s.rd (F.UPDATE_SLOT_MAJ_MIN k)) * 2 ^ 16 + s.rd (F.UPDATE_VER_PATCH k)) * 2 ^ 32 + s.rd (F.UPDATE_BUILD_BUILD k)

/-- The slot booted where neither copy of the boot record is valid (R489): of those that pass the one of the higher rank. -/
def State.bootBest (s : State) (bad : Fin 4) : Option Nat :=
  if s.bootable bad 0 && (!s.bootable bad 1 || decide (s.slotRank 1 ≤ s.slotRank 0)) then some 0
  else if s.bootable bad 1 then some 1 else none

/-- Step 5 of Table 2-5 (R489): the slot named BOOT, or a previous slot that passes, or without a boot record the better one that passes; else the module remains in its boot loader (R45). A trial slot that fails has fallen back before. -/
def State.bootSelect (s : State) (bad : Fin 4) (noRecord : Bool) : State :=
  let k := s.nvm.boot.slot % 2
  if noRecord then match s.bootBest bad with
    | some j => { s with nvm := { s.nvm with boot := { slot := j } } }
    | none => { s with crown := { s.crown with phase := .bootLoader } }
  else if s.bootable bad k then s
  else if s.rd (F.UPDATE_SLOT_STATE (1 - k)) == 5 && s.bootable bad (1 - k) then
    let s := (s.record 6 0x62 .bootReplaced [(k : Int)]).wr (F.UPDATE_SLOT_STATE (1 - k)) 4
    let s := s.wr (F.UPDATE_SLOT_STATE k) 1
    { s with nvm := { s.nvm with boot := { s.nvm.boot with slot := 1 - k } } }
  else { s with crown := { s.crown with phase := .bootLoader } }

/-- The running slot shown (R486, R489): CURRENT unless in TRIAL; a CURRENT slot whose SVN is above the floor raises it. -/
def State.showBoot (s : State) : State :=
  let b := s.nvm.boot
  let k := b.slot % 2
  let s := if b.trial then s else s.wr (F.UPDATE_SLOT_STATE k) 4
  let s := if !b.trial && decide (s.rd F.UPDATE_OTP_FLOOR < s.rd (F.UPDATE_SLOT_SVN k)) then s.wr F.UPDATE_OTP_FLOOR (s.rd (F.UPDATE_SLOT_SVN k)) else s
  let s := ((s.wrB F.UPDATE_STATUS_TRIAL b.trial).wrB F.UPDATE_STATUS_FELL_BACK b.fellBack).wrB F.UPDATE_STATUS_LATE b.late
  let s := if b.fellBack then s.raise 0x62 5 else s
  { s with nvm := { s.nvm with boot := { b with late := false, fellBack := false } } }

/-! ## Loading -/

/-- The class S values and the program loaded from the configuration store (Table 2-5 step 7, R477), or the factory defaults with CFG_DEFAULT. -/
def State.loadConfig (s : State) : State :=
  let s := ((s.wrB F.NVM_STATUS_NOR0_OK true).wrB F.NVM_STATUS_NOR1_OK true).wrB F.NVM_STATUS_FRAM_OK true
  match s.nvm.bestEntry (s.imgFormat 0) with
  | none => { (s.wrB F.NVM_STATUS_CFG_VALID false).raise 0x60 3 with nvm := { s.nvm with program := [] } }
  | some (k, e) =>
    let s := (s.takeWords (ofClass .S) e.values).wrB F.NVM_STATUS_CFG_VALID true
    let low := decide (e.format < s.imgFormat 0)
    let s := if low then (s.wrB F.NVM_STATUS_MIGRATED true).raise 0x60 2 else s
    { s with nvm := { s.nvm with program := e.program, convert := low, stored := mset 1 s.nvm.stored 0 e.format } }.showEntry k e.seq

/-- What the loaded configuration sets at once: the Almanac's policy in force, what the program uses, the phase-0 period, the feedbacks as their inputs stand. -/
def State.showConfig (s : State) : State :=
  let s := (s.wr F.EVREC_STATUS_POLICY (s.rd F.EVREC_CFG_POLICY)).showProgram
  let fb := (s.track.pins ^^^ s.rd F.CONTACT_CFG_FB_INV) % 64
  s.wr F.CONTACT_STATUS_FB fb

/-- An item is read only where its FORMAT is not higher than the image's (R488). -/
def State.readable (s : State) (k : Nat) : Bool := decide (s.storedFormat k ≤ s.imgFormat k)

/-- FORMATS and FORMATS2 show the stored formats (Table 24-8). -/
def State.showFormats (s : State) : State :=
  let s := ((s.wr F.NVM_FORMATS_CFG (s.storedFormat 0)).wr F.NVM_FORMATS_LJ (s.storedFormat 1)).wr F.NVM_FORMATS_SJ (s.storedFormat 2)
  ((s.wr F.NVM_FORMATS_CNT (s.storedFormat 3)).wr F.NVM_FORMATS2_RET (s.storedFormat 4)).wr F.NVM_FORMATS2_LREG (s.storedFormat 5)

/-- Step 7 of Table 2-5: migrations of a first start, class L, the journals, the counters and the RETAIN data restored. -/
def State.loadStores (s : State) : State :=
  let s := if s.nvm.boot.first then s.migrateFram else s
  let s := if s.nvm.boot.first then { s with nvm := { s.nvm with lBase := s.newestSeq 0, sBase := s.newestSeq 1 } } else s
  let s := s.showFormats
  let s := if s.readable 5 then s.takeWords (ofClass .L) (newerSlot s.nvm.lregs) else s
  let s := if s.readable 1 then s.restoreLearned else s
  let s := if s.readable 2 then s.restoreState else s
  let s := if s.readable 3 then s.restoreCounters else s
  if s.readable 4 then s.restoreRetain else s

/-- Step 6 of Table 2-5: every engine not permanently out enters service, but for those that fail twice, which are retired; fewer than 56 fail the step (R45, R409). -/
def State.startEngines (s : State) (failing : List Nat) : State :=
  let s := (List.range 64).foldl (fun (s : State) e =>
    if s.bit (F.BOUGH_STATUS_PERMANENT (e / 8)) (e % 8) then s.wr (F.BOUGH_ENG_0_STATE (e / 8) (e % 8)) 3
    else if failing.contains e then
      ((s.bump (F.BOUGH_ENG_C_RETIRES (e / 8) (e % 8))).wrBit (F.BOUGH_STATUS_RETIRED (e / 8)) (e % 8) true).wr (F.BOUGH_ENG_0_STATE (e / 8) (e % 8)) 2
    else s.enterService e) s
  let s := s.countEngines.moveCrown
  { s with crown := { s.crown with startFailed := decide (s.rd F.SCHED_STATUS_IN_SERVICE < 56) } }

/-- SUPPLY.STATUS at a start: as the supplies are found at one from step 1, else as it was. -/
def State.startSupply (s old : State) (cold : Bool) (i : Start) : State :=
  if cold then
    { (s.wrB F.SUPPLY_STATUS_VAUX_OK i.vaux).wrB F.SUPPLY_STATUS_SDS_ACTIVE (i.sds && !i.vaux) with crown := { s.crown with sdsIn := i.sds } }
  else
    let s := ((s.wrB F.SUPPLY_STATUS_VAUX_OK (old.on F.SUPPLY_STATUS_VAUX_OK)).wrB F.SUPPLY_STATUS_BANK_OK (old.on F.SUPPLY_STATUS_BANK_OK)).wrB
      F.SUPPLY_STATUS_BANK_RESERVE (old.on F.SUPPLY_STATUS_BANK_RESERVE)
    { s.wrB F.SUPPLY_STATUS_SDS_ACTIVE (old.on F.SUPPLY_STATUS_SDS_ACTIVE) with crown := { s.crown with sdsIn := old.crown.sdsIn, vauxLow := old.crown.vauxLow } }

/-- SDS_AVAIL (Table 2-11): within its range and enabled. -/
def State.showSds (s : State) : State := s.wrB F.SUPPLY_STATUS_SDS_AVAIL (s.crown.sdsIn && s.on F.SUPPLY_HOLD_CFG_SDS_EN)

/-- RESET.CAUSE (Table 2-7): FROM_HOLD for a reset taken in HOLD, and for the supply reset of Table 2-10 step 5. -/
def State.startCause (s : State) (old : State) (kind : ResetKind) : State :=
  let s := (s.wr F.RESET_CAUSE_KIND kind.code).wrB F.RESET_CAUSE_FROM_HOLD (old.mode == .hold || (kind == .supply && old.crown.fromHold))
  let s := s.wrB F.RESET_CAUSE_FROM_TRANSPORT (kind == .powerOn && old.mode == .transport)
  if kind.warm then s.bump F.RESET_CAUSE_COUNT else s

/-- The unit strap, read at step 2 of Table 2-5; a restart from step 5 keeps it. -/
def State.startStrap (s old : State) (warm : Bool) (i : Start) : State :=
  if warm then { s.wr F.PAIR_STATUS_UNIT (old.rd F.PAIR_STATUS_UNIT) with pair := { s.pair with openStrap := old.pair.openStrap } }
  else match i.strap with
    | some u => s.wr F.PAIR_STATUS_UNIT u.val
    | none => { s with pair := { s.pair with openStrap := true } }

/-- The claim monitor sees the partner's claim as before: it lies on the wires, not in the module (R34). -/
def State.startMonitor (s old : State) : State :=
  (s.wrB F.CLAIM_MON_PRESENT (old.on F.CLAIM_MON_PRESENT)).wr F.CLAIM_STATUS_PARTNER (old.rd F.CLAIM_STATUS_PARTNER)

/-- The unit starts while its partner holds a valid claim, so in the standby role (R34). -/
def State.partnerClaims (s : State) : Bool := s.on F.PAIR_CFG_PAIRED && s.on F.CLAIM_MON_PRESENT && s.rd F.CLAIM_STATUS_PARTNER != 0

/-- What a reset leaves beside the stores (R56, Table 2-9): class E registers, class K with a restart from step 5, and the class L registers that have a store of their own; the time bases are class K (R430), the scan engine's instance data too (R378). -/
def State.survive (s : State) (kind : ResetKind) : State :=
  let warm := kind.warm
  let regs := s.classWords (fun _ => true) fun f => f.cls == .E || (warm && f.cls == .K)
  let own := s.classWords (fun p => p == 0x39 || p == 0x60 || p == 0x62) (ofClass .L)
  let seqs := s.classWords (· == 0x2A) fun f => f.cls == .L && f.name == "SEQ"
  let keepTask (x : ScanTask) : ScanTask := { sect := x.sect, inst := x.inst, vars := x.vars }
  let n := s.nvm
  let nvm : Nvm := { images := n.images, entries := n.entries, lregs := n.lregs, retain := n.retain, keys := n.keys, boot := n.boot, backup := n.backup,
                     stored := n.stored, erases := n.erases, startOk := n.startOk, lBase := n.lBase, sBase := n.sBase }
  let t : State := {
    regs := regs, pending := s.pending, out := s.out, free := s.free, meas := s.meas, q91 := s.q91, nvm := nvm, alm := s.alm,
    tb := if warm then s.tb else [], est := { l := s.est.l, st := s.est.st }, tele := { slots := s.tele.slots }, prot := { hall := s.prot.hall }, track := { pins := s.track.pins }, harv := { hseq := if warm then s.harv.hseq else 0 },
    scan := if warm then { tasks := s.scan.tasks.map (fun (i, x) => (i, keepTask x)), markers := s.scan.markers } else {} }
  (t.takeWords (ofClass .L) own).takeWords (ofClass .L) seqs

/-- The stages of a start after its reset up to step 8 (Table 2-5, R489): the image, the configuration, the stores, the engines, the ring. -/
def State.startUp (s : State) (i : Start) : State :=
  let s := s.bootSelect i.badSlots i.noRecord
  if s.crown.phase = .bootLoader then s
  else
    let s := s.showBoot
    let s := (s.startEngines (i.engines.map (·.val))).loadConfig.showConfig.loadStores
    let s := if s.on F.CROWN_MODE_SAFE_LATCH then s.wr F.CROWN_MODE_MODE 6 else s
    let s := if s.partnerClaims then s.showSds else s.showSds.startRing
    { s with crown := { s.crown with booted := true } }

/-- A reset of a kind up to step 4 of its start (R47 to R50, R56): what survives, RESET.CAUSE, the supplies and the strap, the Almanac recovered, a slot under transfer INVALID (R481), a slot armed for the next reset (R485). -/
def State.resetTo (s : State) (kind : ResetKind) (i : Start) : State :=
  let t := (((((s.survive kind).startCause s kind).startSupply s kind.cold i).startStrap s kind.warm i).startMonitor s).almRecover i.torn
  let st := s.rd F.UPDATE_STATUS_STATE
  let t := if st ≥ 1 && st ≤ 4 then t.wr (F.UPDATE_SLOT_STATE s.otherSlot) 1 else t
  match s.nvm.boot.pendingSlot with
  | some k => t.bootNew k s.entryInForce
  | none => t

/-- A trial image that a watchdog reset ends, or whose slot fails its boot checks twice (R487, R489). -/
def State.trialEnds (s t : State) (kind : ResetKind) (i : Start) : Bool :=
  (kind == .watchdog && s.nvm.boot.trial) || (t.nvm.boot.trial && !i.noRecord && !t.bootable i.badSlots (t.nvm.boot.slot % 2))

/-- A degraded permission ends with any reset, which the Almanac records (R341). -/
def State.degradeLost (s : State) : State := if s.on F.SNET_STATUS_DEGRADED then s.record 5 0x32 .degrade [0] else s

/-- A reset of a kind and the start that follows up to step 8 of Table 2-5; a trial image that falls back at it takes an update activation reset (R487 step 3). -/
def State.restart (s : State) (kind : ResetKind) (i : Start) : State :=
  let s := s.degradeLost
  let t := s.resetTo kind i
  (if s.trialEnds t kind i then t.fallbackStore.almDrain.resetTo .updateActivation i else t).startUp i

/-- What a start finds in a reset that the module takes itself (a software warm reset, an update activation or fallback, the supply reset of a low VAUX, a service timeout): the supplies and the strap as they stand, no image slot, staging write or engine that fails anew. The spec does not say what such a start finds (DESIGN CHOICE, notes/assumptions/73.md). -/
def State.startNow (s : State) : Start :=
  { vaux := s.on F.SUPPLY_STATUS_VAUX_OK, sds := s.crown.sdsIn,
    strap := if s.pair.openStrap then none else if s.on F.PAIR_STATUS_UNIT then some 1 else some 0 }

/-- A reset is held off from the apply edge until the last take-up (R82); it is taken at the end of take-up. -/
def State.resetOr (s : State) (kind : ResetKind) (i : Start) : State :=
  if s.stg.takeUp then { s with crown := { s.crown with heldReset := some (kind, i) } } else s.restart kind i

/-- The reset that an update activation or a fallback takes (R483 step 5, R487 step 3). -/
def State.updateReset (s : State) : State := s.almDrain.resetOr .updateActivation s.startNow

end Sys2Proof.Machine
end

