-- ==== Sys2Proof/Machine/UpdateOps.lean ====
section
/-!
DEFINITION. The field update (chapter 24): transfer, activation, confirmation and fallback as operations, and the key area.
-/
namespace Sys2Proof.Machine
open Sys2Proof

/-- RESULT of a command of UPDATE; REFUSED where it is not 0 (Table 24-6). -/
def State.updResult (s : State) (code : Nat) : State :=
  let s := s.wr F.UPDATE_STATUS_RESULT code
  if code = 0 then s else s.raise 0x62 2

/-- The transfer ends; the slot is left INVALID (R481). -/
def State.endTransfer (s : State) : State :=
  let s := (((s.wr F.UPDATE_STATUS_STATE 0).wr F.UPDATE_STATUS_OWNER 0).wr (F.UPDATE_SLOT_STATE s.otherSlot) 1).wr F.UPDATE_BLOCKS_RECEIVED 0
  { s.wr F.UPDATE_BLOCKS_EXPECTED 0 with nvm := { s.nvm with chunks := [], blocks := [], part := [], partBlock := 0 } }

/-- A transfer is under way. -/
def State.transferring (s : State) : Bool := s.rd F.UPDATE_STATUS_STATE ≥ 1 && s.rd F.UPDATE_STATUS_STATE ≤ 4

/-- n bytes of the transfer window. -/
def State.updWindow (s : State) (n : Nat) : List Byte := (List.range ((n + 3) / 4)).flatMap fun k => le 4 (s.word (A.UPDATE_WIN k)).toNat

/-- A command from a session other than the owner of a transfer is answered with code 1 (R480). -/
def State.notOwner (s : State) (who : Initiator) : Bool := s.transferring && s.rd F.UPDATE_STATUS_OWNER != who.id

/-- The owner's command noted for the 600 s of R481. -/
def State.ownerActs (s : State) : State := { s with nvm := { s.nvm with lastCmd := s.mono } }

/-- NOR programming pauses (R481): in HOLD, while VAUX_OK = 0, while NOR_OK = 0. -/
def State.norPaused (s : State) : Bool := s.almPaused

/-- The modes in which a transfer may run (R481). -/
def State.transferMode (s : State) : Bool := s.mode != .transport && !s.on F.CROWN_MODE_DORMANT

/-- OP HEADER (R480 stage 1, R481). -/
def State.opHeader (s : State) (who : Initiator) : State :=
  if s.notOwner who then s.updResult 1
  else if s.on F.UPDATE_STATUS_TRIAL || s.nvm.armed != 0 || s.nvm.boot.pendingSlot.isSome || s.nvm.actWait || !s.transferMode then s.updResult 11
  else
    let h := s.updWindow 256
    let s := s.ownerActs
    let c := s.headerCheck h
    if c ≠ 0 then s.updResult c
    else
      let k := s.otherSlot
      let s := (s.endTransfer.setImage k { header := h }).erase (1024 * k)
      let s := ((s.wr F.UPDATE_STATUS_STATE 1).wr F.UPDATE_STATUS_OWNER who.id).wr F.UPDATE_BLOCKS_EXPECTED (hdrBlocks h)
      (s.updResult 0).raise 0x62 0

/-- OP TABLE (R480 stage 2): a chunk of 256 entries; the hash is compared once every chunk has come. -/
def State.opTable (s : State) (who : Initiator) : State :=
  if s.notOwner who then s.updResult 1
  else if s.rd F.UPDATE_STATUS_STATE != 1 || !s.transferMode then s.updResult 11
  else
    let s := s.ownerActs
    let k := s.otherSlot
    let x := s.image k
    let n := hdrBlocks x.header
    let c := s.rd F.UPDATE_ADDR_INDEX
    let total := (n + 255) / 256
    if c ≥ total then s.updResult 10
    else
      let size := 4 * n
      let t := x.table ++ List.replicate (size - x.table.length) 0
      let part := (s.updWindow 1024).take (min 1024 (size - 1024 * c))
      let x := { x with table := t.take (1024 * c) ++ part ++ t.drop (1024 * c + part.length) }
      let chunks := if s.nvm.chunks.contains c then s.nvm.chunks else c :: s.nvm.chunks
      let s := { s.setImage k x with nvm := { (s.setImage k x).nvm with chunks := chunks } }
      if chunks.length < total then s.updResult 0
      else if sha256 x.table == (x.header.drop 40).take 32 then (s.wr F.UPDATE_STATUS_STATE 2).updResult 0
      else { s with nvm := { s.nvm with chunks := [] } }.updResult 9

/-- Programming of a matching block (R480 stage 3): its sector erased before its first program, the block verified under the second-attempt rule; fails counts the failed verifies. -/
def State.programBlock (s : State) (k : Nat) (b : List Byte) (fails : Fin 3) : State :=
  let slot := s.otherSlot
  let sector := (32768 + 4096 * k) / 65536
  let fresh := sector ≠ 0 && !(s.nvm.blocks.any fun j => (32768 + 4096 * j) / 65536 == sector)
  let s := if fresh then s.erase (1024 * slot + sector) else s
  if fails = 2 then
    let s := (s.lasting 0x60 (evCode 0x60 .norVerify)).record 3 0x60 .norVerify [(slot : Int), (k : Int)]
    (s.raise 0x60 0).endTransfer.updResult 13
  else
    let s := if fails = 1 then s.retryPass 0x60 else s
    let x := s.image slot
    let s := s.setImage slot { x with blocks := mins (mdel x.blocks k) k b }
    let s := { s with nvm := { s.nvm with blocks := k :: s.nvm.blocks } }
    (s.wr F.UPDATE_BLOCKS_RECEIVED s.nvm.blocks.length).updResult 0

/-- OP BLOCK (R480 stage 3, R481). -/
def State.opBlock (s : State) (who : Initiator) (fails : Fin 3) : State :=
  let st := s.rd F.UPDATE_STATUS_STATE
  if s.notOwner who then s.updResult 1
  else if !(st == 2 || st == 3) || !s.transferMode then s.updResult 11
  else if s.norPaused then s.ownerActs.updResult 12
  else
    let s := s.ownerActs
    let x := s.image s.otherSlot
    let k := s.rd F.UPDATE_ADDR_INDEX
    let q := s.rd F.UPDATE_ADDR_QUARTER
    if k ≥ hdrBlocks x.header then s.updResult 10
    else
      let old := if s.nvm.partBlock = k then s.nvm.part else []
      let part := mins (mdel old q) q (s.updWindow 1024)
      let s := { s.wr F.UPDATE_STATUS_STATE 3 with nvm := { s.nvm with part := part, partBlock := k } }
      if q < 3 then s.updResult 0
      else if part.length < 4 then s.updResult 10
      else
        let b := part.flatMap (·.2)
        let s := { s with nvm := { s.nvm with part := [] } }
        if !blockOk x k b then s.updResult 8
        else if s.nvm.blocks.contains k then s.updResult 0
        else s.programBlock k (blockPadded x.header k b) fails

/-- OP FINISH (R480 stage 4): accepted once every block is programmed; the whole slot checked, then VERIFIED. -/
def State.opFinish (s : State) (who : Initiator) : State :=
  let k := s.otherSlot
  let x := s.image k
  if s.notOwner who then s.updResult 1
  else if s.rd F.UPDATE_STATUS_STATE != 3 || s.nvm.blocks.length < hdrBlocks x.header || !s.transferMode then s.updResult 11
  else
    let s := s.ownerActs
    if !s.slotCheck x then s.updResult 9
    else
      let s := ((s.wr (F.UPDATE_SLOT_STATE k) 2).showSlot k).wr F.UPDATE_STATUS_STATE 5
      ((s.wr F.UPDATE_STATUS_OWNER 0).updResult 0).raise 0x62 1

/-- OP ABORT (R481). -/
def State.opAbort (s : State) (who : Initiator) : State :=
  if s.notOwner who then s.updResult 1
  else if !s.transferring then s.updResult 11
  else s.endTransfer.updResult 0

/-! ## Activation -/

/-- The unit may activate at once (R482): standby or relinquished in any mode, else in STANDBY, SAFE, SERVICE and REST. -/
def State.mayActivate (s : State) : Bool :=
  s.rd F.PAIR_STATUS_ROLE ≥ 2 || match s.mode with
    | .standby | .safe | .service | .rest => true
    | _ => false

/-- Both journals written and committed at once with a REASON. -/
def State.flushJournals (s : State) (reason : Nat) : State :=
  let s := (s.commitWrite.commitWrite).commitWrite
  (((s.journal 0 reason).commitWrite).journal 1 reason).commitWrite

/-- Step 3 of Table 24-7: the journals with REASON 5, counter, RETAIN and class L slots. -/
def State.storeAll (s : State) : State := (((s.flushJournals 5).counterSlot).retainSlot).storeLregs

/-- The slot that an activation starts. -/
def State.activateNow (s : State) : State :=
  let s := if s.nvm.prepared then s else s.storeAll
  (s.bootNew s.otherSlot s.entryInForce).updateReset

/-- Steps 1 and 2 of Table 24-7: a LAUNCHED apply or a secure commit is awaited, in REST the disconnect is carried out first (R483). -/
def State.activateStart (s : State) : State :=
  let solo := s.rd F.PAIR_STATUS_ROLE < 2
  if s.rd F.CROWN_STAGE_CTRL_STATE == 6 || s.stg.takeUp || s.stg.commitStep != 0 then { s with nvm := { s.nvm with actWait := true } }
  else if solo && s.mode == .rest then
    if s.crown.trans = .disconnect then { s with nvm := { s.nvm with actWait := true } }
    else { s with nvm := { s.nvm with actWait := true }, crown := { s.crown with trans := .disconnect }, track := { s.track with disc := 3, forming := false } }.disconnect3 false
  else { s with nvm := { s.nvm with actWait := false } }.activateNow

/-- JUB in nanoseconds. -/
def State.jub (s : State) : Int :=
  ((s.rd F.UPDATE_JUB_SEC_LO_SEC_LO + 2 ^ 32 * s.rd F.UPDATE_JUB_SEC_HI_SEC_HI) * 1000000000 + s.rd F.UPDATE_JUB_NS_NS : Nat)

/-- ACTIVATE (R482 to R485) with its ACT_MODE. -/
def State.activate (s : State) (act : Nat) : State :=
  if s.rd (F.UPDATE_SLOT_STATE s.otherSlot) != 2 || s.transferring || s.nvm.armed != 0 || s.nvm.actWait then s.updResult 11
  else match act with
    | 0 => if s.mayActivate then (s.updResult 0).activateStart else s.updResult 14
    | 1 =>
      if s.rd F.PAIR_STATUS_ROLE ≥ 2 || s.mode == .standby || s.mode == .safe || s.mode == .service then
        { (s.updResult 0).wr F.UPDATE_STATUS_STATE 6 with nvm := { s.nvm with armed := 1, boot := { s.nvm.boot with pendingSlot := some s.otherSlot } } }
      else s.updResult 14
    | 2 =>
      if s.on (F.TIME_CMD_SYNCED 0) && decide (s.jub ≥ s.tb0 + 10000000000) && decide (s.jub ≤ s.tb0 + 2592000000000000) then
        { (s.updResult 0).wr F.UPDATE_STATUS_STATE 6 with nvm := { s.nvm with armed := 2, prepared := false, delayed := false } }
      else s.updResult 15
    | _ => s.updResult 14

/-- The instant JUB of an armed Jubilee activation (R484): carried out where permitted, delayed by a HOLD, else MISSED. -/
def State.jubilee (s : State) (late : Bool) : State :=
  if s.nvm.armed != 2 then s
  else if s.mode = .hold then { s with nvm := { s.nvm with delayed := true } }
  else if s.mayActivate then
    let s := { s with nvm := { s.nvm with armed := 0, delayed := false, boot := { s.nvm.boot with late := late } } }
    (s.wrB F.UPDATE_STATUS_LATE late).activateStart
  else ((((s.disarm).wrB F.UPDATE_STATUS_MISSED true).raise 0x62 6).record 5 0x62 .jubileeMissed)

/-! ## Confirmation -/

/-- The conditions of R486 but for the host's. -/
def State.confirmable (s : State) : Bool :=
  s.nvm.boot.trial && s.nvm.startOk && !s.nvm.convert && decide (s.newestSeq 0 > s.nvm.lBase) && decide (s.newestSeq 1 > s.nvm.sBase)

/-- The image confirms (R486): boot record CURRENT without ceiling, backup and pin released, floor and revocations, the record; the previous slot becomes PREVIOUS, or INVALID where its SVN lies below the floor. -/
def State.confirm (s : State) : State :=
  let k := s.nvm.boot.slot % 2
  let h := (s.image k).header
  let s := s.wr (F.UPDATE_SLOT_STATE k) 4
  let s := { s with nvm := { s.nvm with backup := none, hostOk := false, startOk := false,
                                         boot := { s.nvm.boot with prev := none, trial := false, first := false, ceiling := none, pinned := none, used := 0 } } }
  let s := ((s.wrB F.UPDATE_STATUS_TRIAL false).wr F.UPDATE_WINDOW_LEFT 0).wrB F.NVM_CSTORE_PINNED false
  let s := if s.rd F.UPDATE_OTP_FLOOR < leAt h 11 1 then s.wr F.UPDATE_OTP_FLOOR (leAt h 11 1) else s
  let s := s.wr F.UPDATE_OTP_REVOKED (s.rd F.UPDATE_OTP_REVOKED ||| leAt h 30 1 % 16)
  let s := (s.record 5 0x62 .confirmed [(k : Int)]).raise 0x62 4
  s.wr (F.UPDATE_SLOT_STATE (1 - k)) (if s.rd (F.UPDATE_SLOT_SVN (1 - k)) < s.rd F.UPDATE_OTP_FLOOR then 1 else 5)

/-- A fallback falls due (R487): held off while the unit is active in CONNECT, RUN or HOLD, and from an apply edge to the last take-up (R82). -/
def State.updFallback (s : State) : State :=
  if !s.nvm.boot.trial then s
  else if s.stg.takeUp || (s.rd F.PAIR_STATUS_ROLE < 2 && (s.mode == .connect || s.mode == .run || s.mode == .hold)) then { s with nvm := { s.nvm with fallDue := true } }
  else s.fallbackStore.updateReset

/-- WINDOW.LEFT (R486). -/
def State.showWindow (s : State) : State :=
  s.wr F.UPDATE_WINDOW_LEFT (if s.nvm.boot.trial then s.rd F.UPDATE_CFG_CONFIRM_S - s.nvm.boot.used else 0)

/-! ## Keys and commands -/

/-- A key stored in both copies, recorded and reported (R475). -/
def State.storeKey (s : State) (slot : Nat) (key : List Byte) : State :=
  let s := (s.record 5 0x62 .keyWritten [(slot : Int)]).raise 0x62 7
  { s with nvm := { s.nvm with keys := mins (mdel s.nvm.keys slot) slot key, keyWait := none } }

/-- A write of KEYSEL (R475): SLOT, and with WRITE = 1 KEYDATA stored in it; the write waits for the NOR window. -/
def State.keySel (s : State) (data : Nat) : State :=
  let s := s.wr F.UPDATE_KEYSEL_SLOT data
  if !data.testBit 8 then s
  else
    let key := (List.range 8).flatMap fun j => le 4 (s.word (A.UPDATE_KEYDATA j)).toNat
    let slot := data % 4
    if s.norPaused then { s with nvm := { s.nvm with keyWait := some (slot, key) } } else s.storeKey slot key

/-- A write of UPDATE.CMD (Table 24-9): one of OP, ACTIVATE, DISARM and CONFIRM acts, the first of them in this order. -/
def State.updateCmd (s : State) (who : Initiator) (data : Nat) (fails : Fin 3) : State :=
  match data % 8 with
  | 1 => s.opHeader who
  | 2 => s.opTable who
  | 3 => s.opBlock who fails
  | 4 => s.opFinish who
  | 5 => s.opAbort who
  | _ =>
    let key := data / 2 ^ 16 % 2 ^ 16 == 0x3CA5
    if data.testBit 4 then (if key then s.activate (data / 256 % 4) else s)
    else if data.testBit 5 then (if s.nvm.armed != 0 then s.disarm.updResult 0 else s.updResult 11)
    else if data.testBit 6 then
      if !key then s
      else if s.confirmable then { s.updResult 0 with nvm := { s.nvm with hostOk := true } } else s.updResult 11
    else s

end Sys2Proof.Machine
end

