-- ==== Sys2Proof/Machine/SupplyFam.lean ====
section
/-!
DEFINITION. Start, resets and supply dips (chapter 2): the reset kinds, the end of a start, HOLD and what ends it, TRANSPORT's wake, and
the commands of chapters 25 and 26 that act on the supplies.
-/
namespace Sys2Proof.Machine
open Sys2Proof

/-! ## Resets -/

/-- A write of RESET.CMD (R49, Table 2-8): the software warm reset, or its refusal in CONNECT, RUN and HOLD on a solo or active unit. -/
def State.resetCmd (s : State) (data : Nat) : State :=
  if data % 2 ^ 16 != 0xA5C3 || data / 2 ^ 16 % 4 != 1 then s
  else if s.rd F.PAIR_STATUS_ROLE < 2 && (s.mode == .connect || s.mode == .run || s.mode == .hold) then s.wrB F.RESET_CAUSE_REFUSED true
  else s.resetOr .softwareWarm s.startNow

/-- The units that the end of a start switches on (Table 2-5 step 10): CAN channels and PTP instances that are enabled. -/
def State.startUnits (s : State) : State :=
  let s := (List.range 4).foldl (fun (s : State) c => if s.on (F.CAN_CFG_EN c) then s.canEnable c else s) s
  (List.range 2).foldl (fun (s : State) i => if s.on (F.PTP_CFG_EN i) then s.ptpEnable i true else s) s

/-- Steps 3, 8 and 9 of Table 2-5 are complete: the self-tests and the ring's enumeration ended, the bank full. -/
def State.startReady (s : State) : Bool :=
  s.crown.phase == .starting && s.crown.booted && (if s.crown.ringStarted then s.ringSt.stage == 0 else s.partnerClaims) && s.on F.SUPPLY_STATUS_BANK_OK

/-- Step 10 of Table 2-5: STANDBY, or SAFE while the latch is set; role, start record, enabled units, the stores of an entry into STANDBY or SAFE (R287, R311, R378), thresholds; a start in a new image is reported, and counts for its confirmation (R486). -/
def State.startEnds (s : State) : State :=
  let s := { s with crown := { s.crown with phase := .complete } }
  let s := s.startRecord.startUnits
  let s := if s.on F.CROWN_MODE_SAFE_LATCH then s.wr F.CROWN_MODE_MODE 6 else s.wr F.CROWN_MODE_MODE 1
  let s := s.pairStart.closeFeed.entryStore 3
  let s := if s.rd F.PAIR_STATUS_ROLE == 2 then s.stopRing else s
  let s := s.writeThresholds
  let s := if s.harv.oneT then s.launchT s.meas else s
  if s.nvm.boot.first then
    ({ s.raise 0x62 3 with nvm := { s.nvm with startOk := true, boot := { s.nvm.boot with first := false } } }.showWindow)
  else s.showWindow

/-- A start of which a step has failed twice (R45): SAFE with the latch and the stores of its entry, host port and Ralkiul running, the role as after any start (R34); a first start of a trial image falls back (R487). -/
def State.startFails (s : State) : State :=
  let s := (s.lasting 0x00 (evCode 0x00 .startLasting)).record 6 0x00 .startLasting [(s.rd F.RESET_CAUSE_KIND : Int)]
  let s := s.setLatch 0x00 .startLasting
  let s := { s with crown := { s.crown with phase := .complete, startFailed := true } }
  let s := ((s.startRecord).wr F.CROWN_MODE_MODE 6).pairStart.entryStore 3
  if s.nvm.boot.first then s.updFallback else s

/-- POWER_ON_RESET (R44): VAUX or the string-derived supply applied. -/
def execPowerOnReset (i : Start) (s : State) : Host.Outcome State Fault Refusal := .next (s.restart .powerOn i)

/-- SUPPLY_RESET (R47): an internal rail leaves its range. -/
def execSupplyReset (i : Start) (s : State) : Host.Outcome State Fault Refusal := .next (s.restart .supply i)

/-- EXTERNAL_RESET_PIN (R47): EXT_RST_N held low for at least 10 µs. -/
def execExternalResetPin (i : Start) (s : State) : Host.Outcome State Fault Refusal := .next (s.resetOr .externalPin i)

/-- WATCHDOG_RESET (R47): the Crown's service heartbeat absent for 250 ms. -/
def execWatchdogReset (i : Start) (s : State) : Host.Outcome State Fault Refusal := .next (s.resetOr .watchdog i)

/-- SOFTWARE_WARM_RESET (R49): a write of RESET.CMD. -/
def execSoftwareWarmReset (who : Initiator) (key : Fin 65536) (action : Fin 4) (s : State) : Host.Outcome State Fault Refusal :=
  .next (s.asWrite who A.RESET_CMD fun s => s.resetCmd (key.val + 2 ^ 16 * action.val))

/-- PAIR_FORCED_RESET (R47): a secure reset command from the pair partner. -/
def execPairForcedReset (i : Start) (s : State) : Host.Outcome State Fault Refusal :=
  .next (if s.on F.PAIR_CFG_PAIRED then s.resetOr .pairForced i else s)

/-- START_COMPLETE (R44, R45): steps 3, 8 and 9 complete, or a step failed twice; a step that passed its second attempt is counted and recorded (R410). A ring left silent for a partner's claim that has since ended is started now (R34, step 8). The outcome is an operand: 0 every step passed, 1 a step failed once, 2 a step failed twice (DESIGN CHOICE, notes/assumptions/69.md). -/
def execStartComplete (outcome : Fin 3) (s : State) : Host.Outcome State Fault Refusal :=
  let s := if s.crown.phase == .starting && !s.crown.booted then s.startUp s.startNow else s
  .next (if s.crown.phase != .starting then s
    else if outcome = 2 || s.crown.startFailed then s.startFails
    else
      let s := if s.crown.booted && !s.crown.ringStarted && !s.partnerClaims then s.startRing else s
      if s.startReady then (if outcome = 1 then s.retryPass 0x00 else s).startEnds else s)

/-! ## Supplies -/

/-- BANK_OK (R44): the hold-up bank rises to 46 V. -/
def execBankOk (s : State) : Host.Outcome State Fault Refusal :=
  .next ((s.wrB F.SUPPLY_STATUS_BANK_OK true).wrB F.SUPPLY_STATUS_BANK_RESERVE false)

/-- BANK_OK_LOSS (R529): the hold-up bank falls below 46 V. -/
def execBankOkLoss (s : State) : Host.Outcome State Fault Refusal := .next (s.wrB F.SUPPLY_STATUS_BANK_OK false)

/-- SDS_AVAIL (R530): SDS_IN enters or leaves its range; while it feeds the rail its loss leaves the bank alone. -/
def execSdsAvail (available : Bool) (s : State) : Host.Outcome State Fault Refusal :=
  let s := { s with crown := { s.crown with sdsIn := available } }.showSds
  let s := if s.crown.phase == .starting && !s.on F.SUPPLY_STATUS_VAUX_OK then s.wrB F.SUPPLY_STATUS_SDS_ACTIVE available else s
  .next (if available then s else s.wrB F.SUPPLY_STATUS_SDS_ACTIVE false)

/-- HOLD begins (R59): an apply not yet at its edge is cancelled (R81), PREV keeps the mode, a run ends (Table 11-3 code 2), a plan being prepared is given up, i_set is frozen (Table 9-4), the dip's start is noted. -/
def State.enterHold (s : State) : State :=
  let s := ((s.cancelApply 8).setMode .hold).holdRun
  { s.wrB F.SUPPLY_STATUS_HOLD_ACTIVE true with
    crown := { s.crown with holdStart := (s.mono / 1000000) }, bal := { s.bal with planWait := none },
    loop := { s.loop with held := s.rdI F.LOOP_ISET_I_SET }, tele := { s.tele with hold := true } }

/-- VAUX_WARNING (R38, R39, R58, R59, R556): VAUX falls below 18.0 V. During an SRD the dip is recorded at severity 4, during a hard trip as a lower trigger at severity 3, whether the feed moves or not. -/
def execVauxWarning (s : State) : Host.Outcome State Fault Refusal :=
  let s := (s.wrB F.SUPPLY_STATUS_VAUX_OK false).dipInWrite
  let sds := s.on F.SUPPLY_HOLD_CFG_SDS_EN && s.on F.SUPPLY_STATUS_SDS_AVAIL
  .next (
    if s.mode = .transport || s.crown.phase != .complete then s
    else
    let s := if sds then (s.wrB F.SUPPLY_STATUS_SDS_ACTIVE true).record 3 0x02 .sdsMove else s
    if s.prot.srd.any (·.trip) then s.record 3 0x02 .triggerRefused
    else if s.prot.srd.isSome then s.record 4 0x02 .dipDuringSrd
    else if sds then s
    else match s.mode with
      | .safe | .service => s.record 3 0x02 .dipInSafe
      | .hold | .transport => s
      | .standby | .connect | .run | .rest => if s.rd F.PAIR_STATUS_ROLE ≥ 2 then s else s.enterHold)

/-- What the mode before a HOLD takes up again at the recovery (R60, R243): the sequence of a start or a disconnect. -/
def State.recover (old : State) : State :=
  let s := old.replanIfDue
  if s.effMode == .connect || s.crown.trans != .none || s.track.disc != 0 then s.resumeSequence else s

/-- What waited for VAUX_OK (R288, R311, R378, R484): deferred journal, counter and RETAIN writes, a delayed activation. -/
def State.afterDip (s : State) : State :=
  let s := s.deferredJournals
  let s := if s.tele.deferred then s.counterSlot else s
  let s := if s.scan.retainLate then s.retainSlot else s
  if s.nvm.delayed then s.jubilee true else s

/-- VAUX_WARNING_RELEASE (R60, R62): VAUX rises above 18.6 V; a HOLD that no SRD has taken over ends with recovery. -/
def execVauxWarningRelease (s : State) : Host.Outcome State Fault Refusal :=
  let s := (s.wrB F.SUPPLY_STATUS_VAUX_OK true).wrB F.SUPPLY_STATUS_SDS_ACTIVE false
  let s := { s with crown := { s.crown with vauxLow := false } }
  let s := if s.mode = .hold && s.prot.srd.isNone then
      let s := (s.setMode (Mode.ofCode (s.rd F.CROWN_MODE_PREV))).wrB F.SUPPLY_STATUS_HOLD_ACTIVE false
      (s.record 4 0x02 .holdRecovery [(s.mono / 1000000 : Int) - s.crown.holdStart]).recover
    else s
  .next (if s.mode = .hold || s.mode = .transport then s else s.afterDip)

/-- HOLD ends without recovery (R61): the fast SRD of Table 2-10. -/
def State.holdEnds (s : State) : State := if s.mode = .hold then s.startSrd 8 false 0x02 .holdEnd true else s

/-- HOLD_MAX_EXPIRY (R61). -/
def execHoldMaxExpiry (s : State) : Host.Outcome State Fault Refusal := .next s.holdEnds

/-- BANK_RESERVE (R61): the bank falls below 36 V. -/
def execBankReserve (s : State) : Host.Outcome State Fault Refusal :=
  .next ((s.wrB F.SUPPLY_STATUS_BANK_RESERVE true).wrB F.SUPPLY_STATUS_BANK_OK false).holdEnds

/-- The supply reset with VAUX below 15.5 V (R556, Table 2-10 step 5): in SAFE and SERVICE, while no other source feeds the rail. -/
def State.lowReset (s : State) : State :=
  if s.crown.vauxLow && (s.mode == .safe || s.mode == .service) && !s.on F.SUPPLY_STATUS_SDS_ACTIVE && s.crown.phase == .complete then
    s.almDrain.restart .supply { s.startNow with vaux := false }
  else s

/-- VAUX_RESET (R556): VAUX falls below 15.5 V. -/
def execVauxReset (s : State) : Host.Outcome State Fault Refusal :=
  .next { s with crown := { s.crown with vauxLow := true } }.lowReset

/-! ## TRANSPORT -/

/-- TRANSPORT_VAUX_ARM (R55): VAUX below 5 V for 1 s arms the VAUX wake. -/
def execTransportVauxArm (s : State) : Host.Outcome State Fault Refusal :=
  .next (if s.mode = .transport then { s with crown := { s.crown with vauxArmed := true } } else s)

/-- TRANSPORT_WAKE (R55): VAUX rises through 18.6 V, or the bus above 100 V, while that wake is armed; a power-on reset. -/
def execTransportWake (bus : Bool) (i : Start) (s : State) : Host.Outcome State Fault Refusal :=
  .next (if s.mode = .transport && (if bus then s.crown.busArmed else s.crown.vauxArmed) then s.restart .powerOn i else s)

end Sys2Proof.Machine
end

