-- ==== Sys2Proof/Machine/PairFam.lean ====
section
/-!
DEFINITION. The meanings of the pair commands (chapter 17).
-/
namespace Sys2Proof.Machine
open Sys2Proof

/-- The CRC of a claim frame (Table 17-2): over CLAIM [15:8], CLAIM [7:0] and HB. -/
def claimCrc (claim hb : Nat) : Nat := crc8 [byte (claim / 256), byte claim, byte hb]

/-- The 33 bits of a claim frame (Table 17-2): START, CLAIM, HB, CRC. -/
def claimFrame (claim hb : Nat) : Nat := 2 ^ 32 + claim % 65536 * 2 ^ 16 + hb % 256 * 2 ^ 8 + claimCrc claim hb

/-- A claim-link check of an active unit whose generation has reached 0x7FFF (R351, Table 17-5 code 0x08): once, GEN_EXHAUSTED, and the claim given up beside a READY partner. -/
def State.genCheck (s : State) : State :=
  if s.pair.exhausted || s.rd F.PAIR_STATUS_ROLE != 1 || decide (s.rd F.CLAIM_GEN_G < 0x7FFF) then s
  else ({ s with pair := { s.pair with exhausted := true } }.raise 0x39 4).relinquishOr 8 fun s => s.react .W 0x39 .genExhausted

/-- CLAIM_FRAME_TX (R352, R354): a claim frame on every claim output from step 10 on, with its echo; ok tells whether every readback matches. -/
def execClaimFrameTx (ok : Bool) (s : State) : Host.Outcome State Fault Refusal :=
  if s.crown.phase != .complete || s.mode == .transport then .next s
  else
    let n := s.rd F.CLAIM_STATUS_OWN
    let s := (({ s with pair := { s.pair with hb := (s.pair.hb + 1) % 256 } }.send (.claim (claimFrame n s.pair.hb))).send (.echo n s.pair.hb)).genCheck
    let first (b : Bool) : State := { s with pair := { s.pair with readback := b } }
    if s.on F.CLAIM_MON_LINK_FAULT then .next s
    else if ok then .next (if s.pair.readback then ((first false).bump F.CLAIM_READBACK_MISMATCH).retryPass 0x39 else s)
    else if !s.pair.readback then .next (first true)
    else
      let s := ((((first false).wrB F.CLAIM_MON_LINK_FAULT true).raise 0x39 2).lasting 0x39 (evCode 0x39 .linkFault)).refreshReady
      if s.rd F.PAIR_STATUS_ROLE == 1 then .next (s.relinquishOr 4 fun s => s.react .H 0x39 .linkFault [] 9)
      else .next (s.record 3 0x39 .linkFault)

/-- What the claim a valid partner frame carries means (R353, R355, R363). -/
def State.partnerClaim (s : State) (claim : Nat) : State :=
  let before := s.rd F.CLAIM_STATUS_PARTNER
  let s := s.wr F.CLAIM_STATUS_PARTNER claim
  let s := { s with pair := { s.pair with partnerGen := if claim = 0 then s.pair.partnerGen else claim / 2 } }
  if claim != 0 then
    let s := { s with pair := { s.pair with waiting := false } }
    if s.rd F.PAIR_STATUS_ROLE == 1 && decide (claim > s.rd F.CLAIM_STATUS_OWN) then
      (s.giveUpClaim 2).refreshReady
    else s.refreshReady
  else if before != 0 then s.takeover false else s.refreshReady

/-- CLAIM_FRAME_RX (R353): a frame on CLMM0, valid where its symbols, its CRC, its unit bit and its HB are. -/
def execClaimFrameRx (claim : BitVec 16) (hb : BitVec 8) (line : ClaimLine) (s : State) : Host.Outcome State Fault Refusal :=
  let n := claim.toNat
  if !s.on F.PAIR_CFG_PAIRED then .next s
  else if !(line.symbols && line.crc.toNat == claimCrc n hb.toNat) then .next (s.bump F.CLAIM_ERRS_CRC_ERR)
  else if n != 0 && n % 2 == s.unitBit then .next s
  else if s.pair.rxHb.any fun p => (p + 1) % 256 != hb.toNat then .next (s.bump F.CLAIM_ERRS_HB_ERR)
  else
    let s := if s.on F.CLAIM_MON_PRESENT then s else (s.wrB F.CLAIM_MON_PRESENT true).raise 0x39 1
    let s := { s.wr F.CLAIM_MON_HB hb.toNat with pair := { s.pair with rxHb := some hb.toNat } }
    .next (s.partnerClaim n)

/-- Claim echoes of a non-zero partner claim go on (R363). -/
def State.echoes (s : State) : Bool := match s.pair.echo with | some c => c != 0 | none => false

/-- CLAIM_MONITOR_SILENCE (R363): 3 µs without a valid partner frame on CLMM0. -/
def execClaimMonitorSilence (s : State) : Host.Outcome State Fault Refusal :=
  if !s.on F.CLAIM_MON_PRESENT then .next s
  else
    let s := { (s.wrB F.CLAIM_MON_PRESENT false).raise 0x39 0 with pair := { s.pair with rxHb := none } }
    if s.rd F.PAIR_STATUS_ROLE != 2 then .next s
    else if s.pair.echo.isNone || s.pair.notice.isSome then .next (s.takeover s.pair.notice.isNone)
    else if s.echoes then .next ((s.raise 0x38 6).setReady false)
    else .next s.refreshReady

/-- HEARTBEAT_TX (R356): every 10 µs from step 4 on, with READY. -/
def execHeartbeatTx (s : State) : Host.Outcome State Fault Refusal :=
  if s.mode == .transport || !s.on F.PAIR_CFG_PAIRED then .next s
  else
    let s := s.refreshReady
    .next (s.send (.heartbeat (s.on F.PAIR_STATUS_READY) (if s.pair.openStrap then none else some (s.rd F.PAIR_STATUS_UNIT))))

/-- HEARTBEAT_RX (R356, R511): the partner's READY and the unit it reports. -/
def execHeartbeatRx (ready : Bool) (other : Option (Fin 2)) (s : State) : Host.Outcome State Fault Refusal :=
  if !s.on F.PAIR_CFG_PAIRED then .next s
  else
    let same := other == some (if s.rd F.PAIR_STATUS_UNIT = 0 then 0 else 1) && !s.pair.openStrap
    let newly := same && !s.pair.sameUnit
    let up := s.on F.PAIR_STATUS_LINK_UP
    let s := { (s.wrB F.PAIR_STATUS_LINK_UP true).wrB F.PAIR_STATUS_PARTNER_READY ready with pair := { s.pair with sameUnit := s.pair.sameUnit || same } }
    let s := if up then s else s.mirror (.formats (s.runImage.format 6) s.runImage.mirMin)
    let s := s.refreshReady
    if newly && s.crown.phase == .complete then .next s.pairConflict else .next s

/-- PAIR_LINK_LOST (R356): 30 µs without a heartbeat. -/
def execPairLinkLost (s : State) : Host.Outcome State Fault Refusal :=
  if s.on F.PAIR_STATUS_LINK_UP then .next (((s.wrB F.PAIR_STATUS_LINK_UP false).wrB F.PAIR_STATUS_PARTNER_READY false).raise 0x38 4).refreshReady else .next s

/-- CLAIM_ECHO_RX (R356). -/
def execClaimEchoRx (claim : BitVec 16) (s : State) : Host.Outcome State Fault Refusal :=
  .next { s with pair := { s.pair with echo := some claim.toNat } }

/-- CLAIM_ECHO_SILENCE (R363): 3 µs without a valid echo. -/
def execClaimEchoSilence (s : State) : Host.Outcome State Fault Refusal :=
  let s := { s with pair := { s.pair with echo := none } }
  if s.on F.CLAIM_MON_PRESENT then .next s else .next (s.takeover s.pair.notice.isNone)

/-- RELINQUISH_NOTICE (R363): the partner's notice with its cause. -/
def execRelinquishNotice (cause : BitVec 8) (s : State) : Host.Outcome State Fault Refusal :=
  let s := { s with pair := { s.pair with notice := some cause.toNat } }
  if s.on F.CLAIM_MON_PRESENT then .next s else .next (s.takeover false)

/-- MIRROR_SNAPSHOT (R357): a snapshot with its sequence number and a valid CRC, at the standby. -/
def execMirrorSnapshot (seq : BitVec 32) (m : Mirror) (s : State) : Host.Outcome State Fault Refusal :=
  if s.rd F.PAIR_STATUS_ROLE == 2 then .next (s.mirrored seq.toNat m) else .next s

/-- PHASE0_BOUNDARY_MESSAGE (R356, R439): the active unit's boundary with its TB0; PAIRDIFF is the own TB0 less it, dev ns off, at most 20. -/
def execPhase0BoundaryMessage (sec : BitVec 48) (ns : BitVec 32) (dev : Int) (s : State) : Host.Outcome State Fault Refusal :=
  if s.rd F.PAIR_STATUS_ROLE == 2 then
    .next (s.wrI F.TIME_PAIRDIFF_DIFF (s.tb0 - (sec.toNat * 1000000000 + ns.toNat : Nat) + clampI dev (-20) 20))
  else .next s

/-- ISLAND_SELF_TEST (R360, R361): the island's self-test every 10 s, and 1 s after a first failure. -/
def execIslandSelfTest (pass : Bool) (s : State) : Host.Outcome State Fault Refusal :=
  if s.mode == .transport then .next s
  else if s.rd F.PAIR_STATUS_ROLE == 2 then .next (s.healthJudge 6 (!pass))
  else .next (s.islandJudge .islandTest (!pass) .H fun s =>
    (s.lasting 0x31 (evCode 0x31 .islandTest)).relinquishOr 7 fun s => s.react .H 0x31 .islandTest [] 9)

/-- The unit that has become active applies its own supply state (R365): in HOLD, or on entering it, by its own VAUX alone. -/
def State.ownSupply (s : State) : State :=
  match s.mode with
  | .run | .rest => if s.supplied || s.prot.srd.isSome then s else s.enterHold
  | .hold => { s.wrB F.SUPPLY_STATUS_HOLD_ACTIVE true with crown := { s.crown with holdStart := s.mono / 1000000 } }
  | _ => s

/-- SWITCHOVER_RESUME (Table 17-6 step 6): the N_RESYNC-th phase-0 boundary after the claim. -/
def execSwitchoverResume (s : State) : Host.Outcome State Fault Refusal := .next (if s.pair.resume then s.resumeGates.ownSupply else s)

/-- FORCED_RESET_SEND (R362): once the switch-over has reached its point, to a partner that holds no claim. -/
def execForcedResetSend (s : State) : Host.Outcome State Fault Refusal :=
  if s.pair.freset && s.on F.PAIR_CFG_FRESET_EN && s.rd F.PAIR_STATUS_ROLE == 1 && s.rd F.CLAIM_STATUS_OWN != 0 && !s.pair.resume && s.mode != .connect
      && !(s.on F.CLAIM_MON_PRESENT && s.rd F.CLAIM_STATUS_PARTNER != 0) then
    .next ({ s with pair := { s.pair with freset := false } }.send .forcedReset)
  else .next s

/-- SWITCH (R368): a write of PAIR.CMD with SWITCH and a KEY. -/
def execSwitchCmd (who : Initiator) (key : BitVec 16) (s : State) : Host.Outcome State Fault Refusal :=
  .next (s.asWrite who A.PAIR_CMD fun s => s.pairCmd (65536 + key.toNat))

/-- UNIT_B_CLAIM_WAIT (R355): 50 ms without a valid non-zero partner claim; unit B claims and originates on the ring (R114). -/
def execUnitBClaimWait (s : State) : Host.Outcome State Fault Refusal :=
  if s.pair.waiting && s.crown.phase == .complete then
    let s := { s with pair := { s.pair with waiting := false } }
    let (s, ok) := s.takeClaim
    .next (if ok then (s.wr F.PAIR_STATUS_ROLE 1).takeRing else s)
  else .next s

/-- PAIR_ID_CHANGE (R510): recorded and without effect. -/
def execPairIdChange (level : Fin 3) (s : State) : Host.Outcome State Fault Refusal := .next (s.record 5 0x38 .pairIdChange [level.val])

end Sys2Proof.Machine
end

