-- ==== Sys2Proof/Machine/ChecksCells.lean ====
section
/-!
DEFINITION. The consistency rules of the pages that measure and estimate: RING, HARVEST, NODE, PLAUS, BAL, TELEM, IMPED, ESTIM, ETAB,
LEARN, THERM, each as the list of its failures.
-/
namespace Sys2Proof.Machine
open Sys2Proof

/-- Strictly rising. -/
def ascending : List Int → Bool
  | [] => true
  | [_] => true
  | a :: b :: t => decide (a < b) && ascending (b :: t)

/-- RING rules (R137). -/
def State.checkRING (s : State) : List Failure :=
  let v := s.vw true
  s.outside true 0x0001 [(F.RING_CFG_KEEPALIVE_MS, 1, 100)]
  ++ s.outside true 0x0002 [(F.RING_CFG_DELAY_PERIOD, 1, 15)]
  ++ failIf (v F.RING_CFG_TOPOLOGY == 1 && v F.PAIR_CFG_PAIRED == 0) 0x0003 F.RING_CFG_TOPOLOGY 1

/-- HARVEST rules (R159): the slot is DIV phase-0 periods of PER clocks of 2.5 ns. -/
def State.checkHARVEST (s : State) : List Failure :=
  let v := s.vw true
  let slot := v F.HARVEST_CFG_DIV * v F.PSTAGE_PERIOD_PER
  failIf (slot < 100000) 0x0001 F.HARVEST_CFG_DIV 3
  ++ failIf (v F.HARVEST_CFG_C_EN == 1 && slot * v F.HARVEST_CFG_C_EVERY < 400000) 0x0002 F.HARVEST_CFG_C_EVERY 3
  ++ failIf (v F.HARVEST_POINT_POINT ≥ v F.PSTAGE_PERIOD_PER) 0x0003 F.HARVEST_POINT_POINT 3
  ++ failIf (v F.HARVEST_TCFG_T_NORM == 0 || v F.HARVEST_TCFG_T_FAST == 0 || v F.HARVEST_TCFG_T_FAST > v F.HARVEST_TCFG_T_NORM) 0x0004 F.HARVEST_TCFG_T_NORM 3
  ++ s.outside true (rangeRule 0x19) [(F.HARVEST_CFG_DIV, 1, 65535), (F.HARVEST_CFG_C_EVERY, 1, 255), (F.HARVEST_TCFG_T_NORM, 0, 100), (F.HARVEST_TCFG_NEAR_K, 1, 50)]

/-- NODE rules (R161): thresholds and separation of R135. -/
def State.checkNODE (s : State) (m : Mode) : List Failure :=
  let v := s.vw true
  s.outside true 0x0001 [(F.NODE_THR_OV_MV, 2000, 5000), (F.NODE_THR_UV_MV, 500, 4000)]
  ++ failIf (v F.NODE_THR_OV_MV < v F.NODE_THR_UV_MV + 500) 0x0001 F.NODE_THR_OV_MV 3
  ++ s.outside true 0x0002 [(F.NODE_THR2_DEGLITCH_US, 1, 100)]
  ++ (List.range 32).flatMap fun n =>
    s.outside true 0x0003 [(F.NODE_NCFG_TCH n, 0, 8)]
    ++ failIf (s.changes (F.NODE_NCFG_CELLS n) && !m.settled) 0x0004 (F.NODE_NCFG_CELLS n) 4

/-- PLAUS rules (R162). -/
def State.checkPLAUS (s : State) : List Failure :=
  failIf (s.vw true F.PLAUS_R_PATH_R_PATH * 600 > 10000000) 0x0001 F.PLAUS_R_PATH_R_PATH 3
  ++ s.reserved true 0x1C ((List.range 4).map fun k => (⟨A.PLAUS_REACT, 2 * k, 2⟩, 2))

/-- BAL rules (R175). -/
def State.checkBAL (s : State) : List Failure :=
  let v := s.vw true
  let r := v F.BAL_RBLEED_RBLEED
  failIf ((r != 0 && 10 * v F.NODE_THR_OV_MV > 150 * r) || (r == 0 && v F.BAL_CFG_EN == 1)) 0x0001 F.BAL_RBLEED_RBLEED 3
  ++ s.outside true 0x0002 [(F.BAL_PLAN_PLAN_S, 10, 3600)]
  ++ s.outside true 0x0003 [(F.BAL_CFG_MAX_PER_NODE, 1, 8), (F.BAL_CFG_TLIM, 40, 100)]

/-- TELEM rules (R314). -/
def State.checkTELEM (s : State) : List Failure :=
  let w := s.vw true F.TELEM_CFG_WIN_MS
  failIf (w < 1 || w > 1000 || 1000 % w != 0) 0x0001 F.TELEM_CFG_WIN_MS 3 ++ s.outside true 0x0002 [(F.TELEM_CFG_CNT_S, 1, 60)]

/-- A staged change of a configuration that a run has captured (IMPED rule 0x0007). -/
def State.changesRun (s : State) : Bool :=
  s.changes F.PSTAGE_PERIOD_PER || [A.HARVEST_CFG, A.HARVEST_POINT].any (fun a => mget (s.word a) s.staged a != s.word a)
    || s.changes F.LOOP_CFG_OUTER_DIV || s.changes F.LOOP_CFG_SOURCE

/-- IMPED rule 0x0007 (R264), mode-dependent: judged with a change of the registers it names. -/
def State.checkRunChange (s : State) : List Failure := failAll (s.changesRun && s.rd F.IMPED_STATUS_STATE != 0) 0x0007 4

/-- IMPED rules 0x0001 to 0x0006 (R249, R261, R264). -/
def State.checkIMPED (s : State) : List Failure :=
  let v := s.vw true
  let k := v F.IMPED_CFG_K
  let tones := List.range (min k 8)
  let m (j : Nat) : Nat := v (F.IMPED_TONE_M j)
  let win := v F.IMPED_WIN_W * v F.HARVEST_CFG_DIV
  let per := v F.PSTAGE_PERIOD_PER
  let od := v F.LOOP_CFG_OUTER_DIV
  let n := v F.IMPED_TCFG_NPTS
  let temps := (List.range n).map fun j => s.vwI true (F.IMPED_TTAB_TEMP j)
  let phases := (List.range n).map fun j => s.vwI true (F.IMPED_TTAB_PHASE j)
  s.outside true 0x0001 [(F.IMPED_CFG_K, 1, 8), (F.IMPED_CFG_R, 1, 255), (F.IMPED_WIN_W, 64, 65535), (F.IMPED_CFG_RAMP_MS, 10, 1000),
    (F.IMPED_WIN_MAXDISC, 1, 255), (F.IMPED_RATE_I_RATED, 1, 6000), (F.IMPED_LIM_DI_MAX, 1, 6000), (F.IMPED_LIM_MIN_I, 1, 2000)]
  ++ s.outside true (rangeRule 0x26) [(F.IMPED_TCFG_U_MAX_PCT, 1, 100), (F.IMPED_TCFG_T_DIFF_MAX, 1, 100)]
  ++ if v F.IMPED_CFG_EN == 0 then [] else
    s.outside true 0x0002 (tones.map fun j => (F.IMPED_TONE_AMP j, 50, 2000))
    ++ failAll (2 * (tones.map fun j => v (F.IMPED_TONE_AMP j)).foldl (· + ·) 0 > v F.IMPED_RATE_I_RATED) 0x0002 3
    ++ tones.flatMap (fun j => failIf (2 * m j ≥ v F.IMPED_WIN_W) 0x0003 (F.IMPED_TONE_M j) 1)
    ++ failAll (tones.any fun i => tones.any fun j => i != j && (m i == m j || m i == 2 * m j || m i == 3 * m j)) 0x0003 1
    ++ tones.flatMap (fun j => failIf (m j * 4000000000 < win * per || m j * 400000000 > 1600 * (win * per) || 8 * od * m j > win) 0x0004 (F.IMPED_TONE_M j) 1)
    ++ failAll (win % od != 0) 0x0004 1
    ++ failIf (v F.IMPED_CFG_RAMP_MS * 400000 > win * per) 0x0005 F.IMPED_CFG_RAMP_MS 1
    ++ failIf (v F.IMPED_TCFG_T_EN == 1 && (n < 2 || n > 16 || v F.IMPED_TCFG_REF_TONE ≥ k || !ascending temps
        || !(ascending phases || ascending phases.reverse))) 0x0006 F.IMPED_TCFG_T_EN 1

/-- ESTIM rules (R290). -/
def State.checkESTIM (s : State) : List Failure :=
  let v := s.vw true
  s.outside true 0x0001 [(F.ESTIM_VWIN_VMIN_CELL, 500, 5000), (F.ESTIM_VWIN_VMAX_CELL, 500, 5000), (F.ESTIM_REST_I_REST, 1, 1000), (F.ESTIM_REST_T_REST, 60, 14400),
    (F.ESTIM_QREST_I_QREST, 1, 1000), (F.ESTIM_QREST_T_QREST, 30, 3600), (F.ESTIM_UNC_U_ANCHOR_MAX, 1, 255), (F.ESTIM_UNC_U_OVERDUE, 1, 255),
    (F.ESTIM_UNC_U_VALID, 1, 255), (F.ESTIM_UNC_E_CAP, 1, 255), (F.ESTIM_OCVERR_E_OCV, 1, 255), (F.ESTIM_OCVERR_RERR, 1, 100),
    (F.ESTIM_OCVERR_BLEED_ERR, 1, 100), (F.ESTIM_OVERDUE_T_OVERDUE, 1, 90), (F.ESTIM_OVERDUE_IMP_AGE, 10, 65535)]
  ++ failIf (v F.ESTIM_VWIN_VMIN_CELL ≥ v F.ESTIM_VWIN_VMAX_CELL) 0x0002 F.ESTIM_VWIN_VMIN_CELL 1
  ++ failIf (v F.ESTIM_HGAIN_HG2 < 0x1000 || v F.ESTIM_HGAIN_HG2 ≥ v F.ESTIM_HGAIN_HG10 || v F.ESTIM_HGAIN_HG10 ≥ v F.ESTIM_HGAIN2_HG60) 0x0003 F.ESTIM_HGAIN_HG2 1
  ++ failIf (v F.ESTIM_CFG_EN == 1 && v F.ESTIM_CFG_Q_NOM == 0) 0x0004 F.ESTIM_CFG_Q_NOM 3

/-- ETAB rules (R291); branch 0 holds the charge curve. -/
def State.checkETAB (s : State) : List Failure :=
  let v := s.vw true
  let en := v F.ESTIM_CFG_EN == 1
  let ocv (b t k : Nat) : Nat := let i := 17 * (8 * b + t) + k / 2
    v (if k % 2 = 0 then F.ETAB_OCV_EVEN i else F.ETAB_OCV_ODD i)
  let temps := (List.range 8).map fun i => s.vwI true (if i % 2 = 0 then F.ETAB_TBP_T_EVEN (i / 2) else F.ETAB_TBP_T_ODD (i / 2))
  let rates := (List.range 6).map fun i => (v (if i % 2 = 0 then F.ETAB_RBP_RATE_EVEN (i / 2) else F.ETAB_RBP_RATE_ODD (i / 2)) : Int)
  failIf (!ascending temps) 0x0001 (F.ETAB_TBP_T_EVEN 0) 1
  ++ failIf (!ascending rates) 0x0001 (F.ETAB_RBP_RATE_EVEN 0) 1
  ++ (if en then (List.range 8).flatMap fun t =>
        failIf (!ascending ((List.range 33).map fun k => (ocv 0 t k : Int)) || (List.range 33).any fun k => decide (ocv 0 t k < ocv 1 t k)) 0x0002 (F.ETAB_OCV_EVEN (17 * t)) 1
        ++ failIf (!ascending ((List.range 33).map fun k => (ocv 1 t k : Int))) 0x0002 (F.ETAB_OCV_EVEN (17 * (8 + t))) 1
      else [])
  ++ (List.range 48).flatMap (fun i => failIf (v (F.ETAB_CAPEFF_F_CAP i) == 0 || v (F.ETAB_CAPEFF_F_EFF i) == 0 || v (F.ETAB_CAPEFF_F_EFF i) > 0x4000) 0x0003 (F.ETAB_CAPEFF_F_CAP i) 3)
  ++ (if en then (List.range 44).flatMap fun i => failIf (v (F.ETAB_RES_EVEN i) == 0 || v (F.ETAB_RES_ODD i) == 0) 0x0004 (F.ETAB_RES_EVEN i) 3 else [])

/-- LEARN rules (R292). -/
def State.checkLEARN (s : State) : List Failure :=
  s.outside true 0x0001 [(F.LEARN_CFG_LEARN_H, 1, 24), (F.LEARN_CFG_STATE_S, 1, 60), (F.LEARN_CFG_BUDGET_US, 100, 10000), (F.LEARN_GAIN_G_CAP, 1, 255),
    (F.LEARN_GAIN_G_RES, 1, 255), (F.LEARN_GAIN_CAP_STEP, 1, 255), (F.LEARN_GAIN_RF_STEP, 1, 255), (F.LEARN_LCFG_U_LEARN, 1, 255),
    (F.LEARN_LCFG_DSOC_MIN, 10, 100)]

/-- The two bits of an NTC channel in THERM.NTCROLE. -/
def ntcRole (n : Nat) : Fld := ⟨A.THERM_NTCROLE, 2 * n, 2⟩

/-- THERM rules (R304). -/
def State.checkTHERM (s : State) : List Failure :=
  let v := s.vw true
  let vI := s.vwI true
  s.outsideI true 0x0001 [(F.THERM_WIN_CHG_LO, -40, 80), (F.THERM_WIN_CHG_HI, -40, 80), (F.THERM_WIN_DIS_LO, -40, 80), (F.THERM_WIN_DIS_HI, -40, 80)]
  ++ s.outside true 0x0001 [(F.THERM_DERATE_DERATE_K, 1, 30), (F.THERM_DERATE_HYST_K, 1, 10), (F.THERM_DERATE_PS_START, 20, 150), (F.THERM_DERATE_PS_END, 20, 150)]
  ++ (List.range 16).flatMap (fun n => s.outside true 0x0001 [(F.THERM_NTCCFG_R25 n, 1, 65535)]
      ++ failIf (v (F.THERM_NTCCFG_B n) != 0 && (v (F.THERM_NTCCFG_B n) < 1000 || v (F.THERM_NTCCFG_B n) > 6000)) 0x0001 (F.THERM_NTCCFG_B n) 3
      ++ failIf (v (ntcRole n) == 1 && v (F.THERM_NTCCFG_B n) == 0) 0x0005 (ntcRole n) 1)
  ++ (List.range 6).flatMap (fun k => s.outside true 0x0001 [(F.THERM_COOL_0_SRC k, 0, 18), (F.THERM_COOL_0_DUTY_MIN k, 0, 100), (F.THERM_COOL_8_PPR k, 1, 4),
        (F.THERM_COOL_8_TACH_MIN_PCT k, 10, 100)]
      ++ failIf (k ≥ 4 && v (F.THERM_COOL_8_RPM_FULL k) != 0) 0x0001 (F.THERM_COOL_8_RPM_FULL k) 3
      ++ failIf (v (F.THERM_COOL_0_SRC k) != 18 && decide (vI (F.THERM_COOL_4_T_START k) ≥ vI (F.THERM_COOL_4_T_FULL k))) 0x0003 (F.THERM_COOL_4_T_START k) 1
      ++ failIf (v (F.THERM_COOL_0_SRC k) < 16 && v (F.THERM_NTCCFG_B (v (F.THERM_COOL_0_SRC k))) == 0) 0x0005 (F.THERM_COOL_0_SRC k) 1)
  ++ failIf (decide (vI F.THERM_WIN_CHG_LO + 2 * (v F.THERM_DERATE_DERATE_K : Int) ≥ vI F.THERM_WIN_CHG_HI)
      || decide (vI F.THERM_WIN_DIS_LO + 2 * (v F.THERM_DERATE_DERATE_K : Int) ≥ vI F.THERM_WIN_DIS_HI)) 0x0002 F.THERM_WIN_CHG_LO 1
  ++ failIf (v F.THERM_DERATE_PS_START ≥ v F.THERM_DERATE_PS_END) 0x0004 F.THERM_DERATE_PS_START 1
  ++ s.reserved true 0x2C ((List.range 16).map (fun n => (ntcRole n, 1)) ++ (List.range 6).map fun k => (F.THERM_COOL_8_REACT k, 1))

end Sys2Proof.Machine
end

