-- ==== Sys2Proof/Machine/ChecksRest.lean ====
section
/-!
DEFINITION. The consistency rules of the remaining pages, and the check of all dirty pages (R72, R73).
-/
namespace Sys2Proof.Machine
open Sys2Proof

/-! ## The program that a check judges -/

/-- A word of the staged program buffer at a byte address: the staged one, else of the program in force. -/
def State.bufWord (s : State) (a : Nat) : Nat :=
  match s.scan.staged.find? (·.1 == a) with
  | some (_, w) => w.toNat
  | none => leAt s.nvm.program a 4

/-- The program object in the staged buffer: as many bytes as its LENGTH says, at most 512 KiB; a header of zeros holds no program. -/
def State.stagedProgram (s : State) : List Byte :=
  let n := max 32 (min (s.bufWord 24) (2 ^ 19))
  if (List.range 8).all fun k => s.bufWord (4 * k) == 0 then []
  else ((List.range ((n + 3) / 4)).flatMap fun k => le 4 (s.bufWord (4 * k))).take n

/-- The program that a check judges. -/
def State.checkedProgram (s : State) : List Byte := if s.scan.staged.isEmpty then s.nvm.program else s.stagedProgram

/-! ## Rules page by page -/

/-- SUPPLY: HOLD_MAX 5 to 40 ms (Table 2-9). -/
def State.checkSUPPLY (s : State) : List Failure := s.outside true (rangeRule 0x02) [(F.SUPPLY_HOLD_CFG_HOLD_MAX, 5, 40)]

/-- Size of a memory of a region descriptor in units of 4 KiB (Table 3-10, R395, R473). -/
def memUnits (mem : Nat) : Nat := if mem = 0 then 4096 else if mem ≤ 8 then 256 else if mem ≤ 10 then 16384 else 1024

/-- WORLD rules (R87, R88): locked settings, reserved encodings, regions beyond their memory or over a key area (boot loader and key area of either NOR device). -/
def State.checkWORLD (s : State) : List Failure :=
  let v := s.vw true
  failAll (s.on F.WORLD_COMMIT_STAT_LOCKED && s.stg.commitStep == 0) (Config.openRule 0x01 2 % 65536) 5
  ++ s.reserved true 0x01 ((List.range 16).flatMap fun k => (List.range 16).map fun j => (⟨0x01040 + 4 * k, 2 * j, 2⟩, 2))
  ++ (List.range 16).flatMap fun n =>
    let mem := v (F.WORLD_BASE_MEM n)
    let start := v (F.WORLD_BASE_START n)
    let size := v (F.WORLD_SPAN_SIZE n)
    s.reserved true 0x01 [(F.WORLD_BASE_MEM n, 0xB), (F.WORLD_SPAN_ATTR n, 2)]
    ++ s.outside true (rangeRule 0x01) [(F.WORLD_SPAN_SIZE n, 0, 16384)]
    ++ failIf (size != 0 && (start + size > memUnits mem || ((mem == 9 || mem == 10) && start < 0x110))) (Config.openRule 0x01 3 % 65536) (F.WORLD_BASE_START n) 3

/-- CLOCK rule 0x0001 (R427). -/
def State.checkCLOCK (s : State) : List Failure := s.outside true 0x0001 [(F.CLOCK_CFG_MON_PCT, 1, 5)]

/-- ETHn: TIMEOUT 1 to 255 s (Table 4-6). -/
def State.checkETH (s : State) (n : Nat) : List Failure := s.outside true (rangeRule (0x58 + n)) [(F.ETH_RK_CFG_TIMEOUT n, 1, 255)]

/-- SCHED rule 0x0001 (R414). -/
def State.checkSCHED (s : State) : List Failure :=
  s.outside true 0x0001 [(F.SCHED_CFG_TEST_S, 1, 60), (F.SCHED_CFG_REJOIN_S, 10, 3600), (F.SCHED_CFG_RETIRE_MAX, 1, 15)]

/-- QUEUE rules (R415): Q96 to Q109 are assigned (Table 19-2). -/
def State.checkQUEUE (s : State) (m : Mode) : List Failure :=
  let v (r : Nat) : Nat := s.vw true (F.QUEUE_QCFG_SIZE_KIB r)
  let sizes := [4, 8, 16, 32, 64, 128, 256, 512, 1024, 2048, 4096]
  (List.range 32).flatMap (fun r =>
    failIf (if r < 14 then !sizes.contains (v r) else v r != 0) 0x0001 (F.QUEUE_QCFG_SIZE_KIB r) 3
    ++ failIf (s.changes (F.QUEUE_QCFG_SIZE_KIB r) && !m.settled) 0x0003 (F.QUEUE_QCFG_SIZE_KIB r) 4)
  ++ failAll (((List.range 32).map v).foldl (· + ·) 0 > 4096) 0x0002 3

/-- DISP rules (R327). -/
def State.checkDISP (s : State) : List Failure :=
  let v := s.vw true
  s.outside true 0x0001 [(F.DISP_CFG_STAT_MS, 1, 255), (F.DISP_CFG_UNIT_ADDR, 0, 0xFFFE), (F.DISP_STALE_T_STALE, 0, 60000), (F.DISP_STALE_T_DROP, 1, 3600),
    (F.DISP_RAMP_UP, 1, 65535), (F.DISP_RAMP_DOWN, 1, 65535), (F.DISP_RAMPP_P_UP, 1, 65535), (F.DISP_RAMPP_P_DOWN, 1, 65535),
    (F.DISP_LIM_I_CHG_MAX, 0, 6000), (F.DISP_LIM_I_DIS_MAX, 0, 6000), (F.DISP_SOCW_SOC_HI, 0, 10000), (F.DISP_SOCW_SOC_LO, 0, 10000),
    (F.DISP_SOCB_SOC_BAND, 1, 5000), (F.DISP_AGE_AGE_MS, 0, 60000)]
  ++ s.reserved true 0x34 [(F.DISP_CFG_SRC, 2), (F.DISP_CFG_STALE_ACT, 2)]
  ++ failIf (v F.DISP_STALE_T_STALE == 0 && v F.DISP_CFG_SRC != 0) 0x0002 F.DISP_STALE_T_STALE 1
  ++ failIf (v F.DISP_SOCW_SOC_LO + 2 * v F.DISP_SOCB_SOC_BAND ≥ v F.DISP_SOCW_SOC_HI) 0x0003 F.DISP_SOCW_SOC_HI 1

/-- PROT rules (R333, R345); the Hall input is fitted while HALL_DET is closed (R504). -/
def State.checkPROT (s : State) : List Failure :=
  let v := s.vw true
  s.outside true 0x0001 [(F.PROT_CELLV_CELL_OV_MV, 2000, 5000), (F.PROT_CELLV_CELL_UV_MV, 500, 4000), (F.PROT_BUS_BUS_OV, 1000, 16000),
    (F.PROT_OCW_I_WARN, 100, 6000), (F.PROT_OCW_T_WARN, 10, 60000), (F.PROT_HALL_HALL_TOL, 10, 1000)]
  ++ s.outsideI true 0x0001 [(F.PROT_CELLT_CELL_OT, 20, 100), (F.PROT_CELLT_CELL_UT, -40, 20)]
  ++ s.reserved true 0x30 [(F.PROT_CFG_CBC_REACT, 2), (F.PROT_CFG_HALL_REACT, 2), (F.PROT_CFG_UT_REACT, 2)]
  ++ failIf (v F.PROT_CELLV_CELL_OV_MV ≥ v F.NODE_THR_OV_MV || v F.PROT_CELLV_CELL_UV_MV ≤ v F.NODE_THR_UV_MV) 0x0002 F.PROT_CELLV_CELL_OV_MV 1
  ++ failIf (v F.PROT_BUS_BUS_OV < v F.LOOP_VBUS_V_BUS_MAX) 0x0003 F.PROT_BUS_BUS_OV 1
  ++ failIf (v F.PROT_CFG_HALL_REACT == 2 && !s.prot.hall) 0x0004 F.PROT_CFG_HALL_REACT 1

/-- SAFE rules (R346). -/
def State.checkSAFE (s : State) : List Failure :=
  let v := s.vw true
  s.outside true 0x0001 [(F.SAFE_SRD_T_SRD, 10, 500), (F.SAFE_SRD_ENV_TOL, 10, 6000), (F.SAFE_OC_OC_TRIP, 100, 6000), (F.SAFE_OV_STR_OV, 1000, 16000),
    (F.SAFE_INPUT_DISC_MS, 10, 500)]
  ++ failIf (v F.SAFE_CFG_DIVERSE == 1 && !s.prot.hall) 0x0002 F.SAFE_CFG_DIVERSE 1
  ++ failIf (v F.SAFE_OV_STR_OV < v F.LOOP_VLIM_V_STR_MAX) 0x0003 F.SAFE_OV_STR_OV 1

/-- SNET rules (R347). -/
def State.checkSNET (s : State) : List Failure :=
  let v := s.vw true
  let en := (List.range 8).filter fun k => v (F.SNET_SRC_0_EN k) == 1
  s.outside true 0x0001 [(F.SNET_CFG_SKEW_MS, 1, 20), (F.SNET_CFG_TX_MS, 1, 100)]
  ++ (List.range 8).flatMap (fun k => s.outside true 0x0001 [(F.SNET_SRC_4_SWD_MS k, 10, 10000)])
  ++ failAll (en.any fun a => (en.any fun b => decide (a < b) && v (F.SNET_SRC_0_ID a) == v (F.SNET_SRC_0_ID b))
      || decide (v F.SNET_CFG_SKEW_MS ≥ v (F.SNET_SRC_4_SWD_MS a))) 0x0002 1

/-- INSUL rules (R348). -/
def State.checkINSUL (s : State) : List Failure :=
  s.outside true 0x0001 [(F.INSUL_CFG_T_SETTLE, 1, 60), (F.INSUL_THR_R_WARN, 20, 10000), (F.INSUL_THR_R_FAULT, 20, 10000)]
  ++ s.reserved true 0x33 [(F.INSUL_CFG_FAULT_REACT, 2)]
  ++ failIf (s.vw true F.INSUL_THR_R_FAULT ≥ s.vw true F.INSUL_THR_R_WARN) 0x0002 F.INSUL_THR_R_FAULT 1

/-- Whether a sum of fractions exceeds a limit: Σ num / den > limit, the denominators at least 1. -/
def fractionsExceed (l : List (Nat × Nat)) (limit : Nat) : Bool :=
  let q := l.foldl (fun (a : Nat × Nat) x => (a.1 * max 1 x.2 + x.1 * a.2, a.2 * max 1 x.2)) (0, 1)
  decide (q.1 > limit * q.2)

/-- PAIR rules (R358, R369): the mirror traffic in bytes per second. -/
def State.checkPAIR (s : State) (m : Mode) : List Failure :=
  let v := s.vw true
  let marked := ((sections s.checkedProgram).zip (List.range 4)).map fun (x, t) => (1000 * sectBytesOf x Block.mirrored, v (F.SCAN_PERIOD_PERIOD_MS t))
  s.outside true 0x0001 [(F.PAIR_CFG_N_RESYNC, 2, 8), (F.PAIR_TOL_I_TOL, 1, 1000), (F.PAIR_TOL_V_TOL, 1, 1000)]
  ++ failAll (fractionsExceed ((1280 * 400000000, v F.PSTAGE_PERIOD_PER * v F.LOOP_CFG_OUTER_DIV) :: (245760, 1) :: marked) 200000000) 0x0002 1
  ++ failIf (v F.PAIR_CFG_MIRROR_KIB > 256) 0x0003 F.PAIR_CFG_MIRROR_KIB 3
  ++ failIf (s.changes F.PAIR_CFG_PAIRED && !m.settled) 0x0004 F.PAIR_CFG_PAIRED 4

/-- SCAN rules (R391). -/
def State.checkSCAN (s : State) : List Failure :=
  let v := s.vw true
  let p := s.checkedProgram
  let xs := sections p
  let costs := (xs.zip (List.range 4)).map fun (x, t) => (sectCost x, v (F.SCAN_PERIOD_PERIOD_MS t))
  (List.range 4).flatMap (fun t => s.outside true 0x0001 [(F.SCAN_TCFG_WD_N t, 1, 255), (F.SCAN_PERIOD_PERIOD_MS t, 1, 60000)]
    ++ failIf (v (F.SCAN_TCFG_OFFSET_MS t) ≥ v (F.SCAN_PERIOD_PERIOD_MS t)) 0x0001 (F.SCAN_TCFG_OFFSET_MS t) 3)
  ++ failAll (programError p).isSome 0x0002 1
  ++ failAll (sharedItem xs) 0x0003 1
  ++ failAll (costs.any (fun (c, d) => decide (c > 70000 * d)) || fractionsExceed costs 280000) 0x0004 1
  ++ failAll (instUse xs > 2 ^ 21 || xs.any fun x => decide (x.blocks.length > 4096)) 0x0005 3
  ++ failAll (mirUse xs > 1024 * v F.PAIR_CFG_MIRROR_KIB) 0x0006 1
  ++ failAll (retainUse xs > 16384) 0x0007 3

/-- STATION rules (R393). -/
def State.checkSTATION (s : State) : List Failure :=
  let v := s.vw true
  let p := s.checkedProgram
  let en := (List.range 32).filter fun n => v (F.STATION_SCFG_EN n) == 1
  let link (n : Nat) : Nat × Nat := (v (F.STATION_SCFG_LINK n), if v (F.STATION_SCFG_LINK n) = 0 then v (F.STATION_SCFG_CH n) else 0)
  (List.range 32).flatMap (fun n => s.outside true 0x0001 [(F.STATION_SCFG_NIN n, 0, 32), (F.STATION_SCFG_NOUT n, 0, 32), (F.STATION_STIME_TIMEOUT_MS n, 1, 10000),
      (F.STATION_STIME_WD_MS n, 10, 60000)]
    ++ s.reserved true 0x42 [(F.STATION_SCFG_LINK n, 2), (F.STATION_SCFG_SUBST n, 2)])
  ++ failAll (en.any fun a => en.any fun b => decide (a < b) && link a == link b && v (F.STATION_SADDR_ADDR a) == v (F.STATION_SADDR_ADDR b)) 0x0002 1
  ++ en.flatMap fun n => failIf (v (F.SCAN_TCFG_EN (v (F.STATION_SCFG_TASK n))) == 0 || (v (F.STATION_SCFG_SUBST n) == 2 && (descriptor p n).isNone))
      0x0003 (F.STATION_SCFG_EN n) 1

/-- PTP rules (R446). -/
def State.checkPTP (s : State) : List Failure :=
  let v := s.vw true
  (List.range 2).flatMap (fun i =>
    s.outside true 0x0001 [(F.PTP_CFG_ANN_TMO i, 2, 10), (F.PTP_CFG_PD_AVG i, 0, 8), (F.PTP_LIM_MAX_PPM i, 1, 500), (F.PTP_LIM_LOCK_NS i, 1, 65535),
      (F.PTP_STEP_STEP_NS i, 100, 1000000000), (F.PTP_OUT_OUTLIER_NS i, 4, 65535)]
    ++ s.outsideI true 0x0001 [(F.PTP_CFG_LOG_PDELAY i, -3, 4)]
    ++ s.reserved true 0x49 [(F.PTP_CFG_STEP_MODE i, 2)]
    ++ failIf (v (F.PTP_OUT_OUTLIER_NS i) < 4 * v (F.PTP_LIM_LOCK_NS i)) 0x0003 (F.PTP_OUT_OUTLIER_NS i) 1
    ++ failIf (v (F.PTP_CFG_EN i) == 1 && v (F.PTP_CFG_PROFILE i) == 0 && v (F.ETH_IPV4_ADDR (v (F.PTP_CFG_PORT i))) == 0) 0x0005 (F.PTP_CFG_PROFILE i) 1)
  ++ failAll (v (F.PTP_CFG_EN 0) == 1 && v (F.PTP_CFG_EN 1) == 1 && v (F.PTP_CFG_PORT 0) == v (F.PTP_CFG_PORT 1)
      && v (F.PTP_CFG_PROFILE 0) == v (F.PTP_CFG_PROFILE 1) && v (F.PTP_CFG_DOMAIN 0) == v (F.PTP_CFG_DOMAIN 1)) 0x0002 1
  ++ failIf (v (F.PTP_CFG_FALLBACK 0) == 1 && v (F.PTP_CFG_EN 1) == 0) 0x0004 (F.PTP_CFG_FALLBACK 0) 1

/-- TRIG rule 0x0001 (R447). -/
def State.checkTRIG (s : State) : List Failure :=
  (List.range 8).flatMap fun k => failIf (s.armed k && mget (s.word (A.TRIG_TCFG k)) s.staged (A.TRIG_TCFG k) != s.word (A.TRIG_TCFG k)) 0x0001 (F.TRIG_TCFG_TB k) 4

/-- CANc rules (R458): a bit lasts BRP × (1 + TSEG1 + TSEG2) periods of 80 MHz (R449). -/
def State.checkCAN (s : State) (c : Nat) : List Failure :=
  let v := s.vw true
  let nom := v (F.CAN_NBT_BRP c) * (1 + v (F.CAN_NBT_TSEG1 c) + v (F.CAN_NBT2_TSEG2 c))
  let dat := v (F.CAN_DBT_BRP c) * (1 + v (F.CAN_DBT_TSEG1 c) + v (F.CAN_DBT_TSEG2 c))
  let fd := v (F.CAN_CFG_FD_EN c) == 1
  s.outside true 0x0001 [(F.CAN_CFG_TX_TMO c, 0, 60000), (F.CAN_NBT_BRP c, 1, 256), (F.CAN_NBT_TSEG1 c, 2, 256), (F.CAN_NBT2_TSEG2 c, 1, 128),
    (F.CAN_NBT2_SJW c, 1, min 128 (v (F.CAN_NBT2_TSEG2 c))), (F.CAN_DBT_BRP c, 1, 32), (F.CAN_DBT_TSEG1 c, 1, 32), (F.CAN_DBT_TSEG2 c, 1, 16),
    (F.CAN_DBT_SJW c, 1, min 16 (v (F.CAN_DBT_TSEG2 c)))]
  ++ failAll (nom < 80 || (fd && (dat < 16 || dat > nom))) 0x0002 3
  ++ failIf (fd && v (F.CAN_CFG_TDC_EN c) == 0 && dat < 80) 0x0003 (F.CAN_CFG_TDC_EN c) 1
  ++ failIf (v (F.CAN_CFG_EN c) == 0 && ((v F.DISP_CFG_SRC == 2 && v F.DISP_CAN_CH == c)
      || (List.range 32).any fun n => v (F.STATION_SCFG_EN n) == 1 && v (F.STATION_SCFG_LINK n) == 0 && v (F.STATION_SCFG_CH n) == c)) 0x0004 (F.CAN_CFG_EN c) 1

/-- EVREC rules (R466, R472). -/
def State.checkEVREC (s : State) : List Failure :=
  failIf (s.changes F.EVREC_CFG_POLICY && !s.on F.CROWN_STAGE_OWNER_SECURE) 0x0002 F.EVREC_CFG_POLICY 5
  ++ failIf (s.changes F.EVREC_CFG_POLICY && s.reserveLeft == 0) 0x0003 F.EVREC_CFG_POLICY 1

/-- UPDATE rule 0x0001 (R493). -/
def State.checkUPDATE (s : State) : List Failure := s.outside true 0x0001 [(F.UPDATE_CFG_CONFIRM_S, 60, 3600)]

/-- TESTMUX rule 0x0001 (R550). -/
def State.checkTESTMUX (s : State) : List Failure := s.outside true 0x0001 [(F.TESTMUX_JTAGCFG_UNLOCK_MIN, 1, 240), (F.TESTMUX_SVC_SVC_TMO, 5, 240)]

/-! ## The check -/

/-- A page with a staged value (DIRTY). -/
def State.dirty (s : State) (page : Nat) : Bool := s.staged.any (fun x => pageOf x.1 == page) || (page == 0x40 && !s.scan.staged.isEmpty)

/-- The failures of one page's rules. -/
def State.checkPage (s : State) (m : Mode) (page : Nat) : List Failure :=
  match page with
  | 0x00 => s.checkCROWN true s.dirty
  | 0x01 => s.checkWORLD | 0x02 => s.checkSUPPLY | 0x04 => s.checkCLOCK | 0x10 => s.checkSCHED | 0x11 => s.checkQUEUE m
  | 0x18 => s.checkRING | 0x19 => s.checkHARVEST | 0x1B => s.checkNODE m | 0x1C => s.checkPLAUS | 0x1D => s.checkBAL
  | 0x20 => s.checkPSTAGE true m | 0x21 => s.checkPHASE true | 0x22 => s.checkLOOP true | 0x23 => s.checkTRACK true | 0x24 => s.checkCONTACT true m
  | 0x25 => s.checkTELEM | 0x26 => s.checkIMPED ++ s.checkRunChange | 0x28 => s.checkESTIM | 0x29 => s.checkETAB | 0x2A => s.checkLEARN | 0x2C => s.checkTHERM
  | 0x30 => s.checkPROT | 0x31 => s.checkSAFE | 0x32 => s.checkSNET | 0x33 => s.checkINSUL | 0x34 => s.checkDISP | 0x38 => s.checkPAIR m
  | 0x40 => s.checkSCAN | 0x42 => s.checkSTATION | 0x49 => s.checkPTP | 0x4A => s.checkTRIG
  | 0x50 => s.checkCAN 0 | 0x51 => s.checkCAN 1 | 0x52 => s.checkCAN 2 | 0x53 => s.checkCAN 3 | 0x58 => s.checkETH 0 | 0x59 => s.checkETH 1
  | 0x61 => s.checkEVREC | 0x62 => s.checkUPDATE | 0x70 => s.checkTESTMUX
  | _ => []

/-- A failure comes before another (R73): the lowest WORD first, those tied to no register after them in order of RULE. -/
def Failure.before (a b : Failure) : Bool :=
  if a.2.1 == 0 then b.2.1 == 0 && decide (a.1 < b.1)
  else b.2.1 == 0 || decide (a.2.1 < b.2.1) || (a.2.1 == b.2.1 && decide (a.1 < b.1))

/-- The first failing rule of a page. -/
def firstFailure : List Failure → Option Failure
  | [] => none
  | a :: t => match firstFailure t with
    | none => some a
    | some b => if Failure.before b a then some b else some a

/-- The first failing rule of every failing page, in page order: page, RULE, WORD, CAUSE (R72, R73). CROWN's limits are judged where a page they rest on is dirty. -/
def State.failures (s : State) (m : Mode) : List (Nat × Nat × Nat × Nat) :=
  RegTable.assignedPages.filterMap fun p =>
    if p == 0 || s.dirty p then (firstFailure (s.checkPage m p)).map fun f => (p, f.1, f.2.1, f.2.2) else none

/-- The mode-dependent rules at launch (R77): those whose failure has CAUSE 0x4. -/
def State.launchFailures (s : State) : List (Nat × Nat × Nat × Nat) :=
  RegTable.assignedPages.filterMap fun p =>
    if s.dirty p then (firstFailure ((s.checkPage s.mode p).filter fun f => f.2.2 == 4)).map fun f => (p, f.1, f.2.1, f.2.2) else none

end Sys2Proof.Machine
end

