-- ==== Sys2Proof/Machine/Staging.lean ====
section
/-!
DEFINITION. Staging, the check, the apply and the secure commit (chapter 3) as operations.
-/
namespace Sys2Proof.Machine
open Sys2Proof

/-! ## Ownership -/

/-- STATE of CROWN.STAGE_CTRL (Table 3-6): 0 IDLE, 1 STAGING, 2 CHECKING, 3 PASSED, 4 FAILED, 5 ARMED, 6 LAUNCHED. -/
def State.stage (s : State) : Nat := s.rd F.CROWN_STAGE_CTRL_STATE

/-- The result of a staged write before it is made (R70, R77): frozen from ARMED until the end of take-up, busy while another session owns staging or where the initiator is no session (R92). -/
def State.stageCode (s : State) (who : Initiator) : Nat :=
  if s.stage ≥ 5 then 0x04
  else if who.id = 0 || (s.rd F.CROWN_STAGE_OWNER_SESSION != 0 && s.rd F.CROWN_STAGE_OWNER_SESSION != who.id) then 0x03 else 0

/-- The session becomes the owner of staging (R70). -/
def State.own (s : State) (who : Initiator) : State :=
  (s.wr F.CROWN_STAGE_OWNER_SESSION who.id).wrB F.CROWN_STAGE_OWNER_SECURE (s.secureOf who)

/-- CROWN.STAGE_ERR (Table 3-7). -/
def State.stageErr (s : State) (page rule cause : Nat) : State :=
  ((s.wr F.CROWN_STAGE_ERR_PAGE page).wr F.CROWN_STAGE_ERR_RULE rule).wr F.CROWN_STAGE_ERR_CAUSE cause

/-- A secure commit ends without its store write (R89): STATE 3. -/
def State.commitRefused (s : State) : State := { s with stg := { s.stg with commitStep := 0 } }.wr F.WORLD_COMMIT_STAT_STATE 3

/-- Ownership ends (R70): every staged copy equals its live value, STATE is IDLE. -/
def State.endOwnership (s : State) : State :=
  let s := ((s.wr F.CROWN_STAGE_OWNER_SESSION 0).wrB F.CROWN_STAGE_OWNER_SECURE false).wr F.CROWN_STAGE_CTRL_STATE 0
  { s with staged := [], shadow := [], scan := { s.scan with staged := [], shadow := none },
           stg := { s.stg with voided := true, verdict := [], lead := 0, pages := [], unloaded := [], takeUp := false, suspended := false } }

/-- Ownership ends otherwise than by an applied edge: a secure commit at its check ends with it. -/
def State.dropStaging (s : State) : State :=
  let c := s.stg.commitStep
  let s := s.endOwnership
  if c == 1 || c == 2 then s.commitRefused else s

/-- A session that owns staging closes or times out (R105): its ownership ends as the 60 s limit of R70 would end it, so not from ARMED to the end of take-up, where that count stands; R105 says nothing more of a close in that span (DESIGN CHOICE, notes/assumptions/79.md). -/
def State.ownerGone (s : State) (session : Nat) : State :=
  if s.rd F.CROWN_STAGE_OWNER_SESSION == session && session != 0 && !s.stg.suspended then s.dropStaging else s

/-! ## Staged writes -/

/-- STATE after an accepted staged write (R70, R74): STAGING, a running check is void. -/
def State.stagedNow (s : State) (who : Initiator) : State :=
  let s := if s.stage = 0 then s.own who else s
  let s := if s.stage = 2 then { s with stg := { s.stg with voided := true } } else s
  s.wr F.CROWN_STAGE_CTRL_STATE 1

/-- The staged copy of a register at its live address. -/
def State.stagedWord (s : State) (a : Nat) : Word := mget (s.word a) s.staged a

/-- A register has configuration fields. -/
def rwsReg (a : Nat) : Bool := match regAt a with
  | some r => r.fields.any fun f => f.acc == .rws
  | none => false

/-- The RWS fields of a word taken from another. -/
def rwsMerge (a : Nat) (base new : Word) : Word := match regAt a with
  | some r => mergeFields (fun f => f.acc == .rws) r.fields base new
  | none => base

/-- A word staged for the register at live address a, in the session's bank where the register is banked: its RWS fields alone change. -/
def State.stageWord (s : State) (who : Initiator) (addr data : Nat) : State :=
  let a := bankAddr who addr
  if rwsReg a then
    { s.stagedNow who with staged := mins (mdel s.staged a) a (rwsMerge a (s.stagedWord a) (Word.ofNat data)) }
  else s

/-- A word staged for the program buffer at ADDR, which advances by 4 (Table 18-6). -/
def State.progWord (s : State) (who : Initiator) (data : Nat) : State :=
  let a := s.rd F.SCAN_PROG_ADDR_ADDR / 4 * 4
  let s := s.stagedNow who
  { s with scan := { s.scan with staged := mins (mdel s.scan.staged a) a (Word.ofNat data) } }.wr F.SCAN_PROG_ADDR_ADDR (a + 4)

/-- DISCARD of a page (Table 3-5). -/
def State.discardPage (s : State) (page : Nat) : State :=
  { s with staged := s.staged.filter fun x => pageOf x.1 != page,
           scan := { s.scan with staged := if page = 0x40 then [] else s.scan.staged } }

/-! ## The check -/

/-- SCAN.PERR of the program that the check judged (R379). -/
def State.reportProgram (s : State) : State :=
  let p := if s.dirty 0x40 then (programError s.checkedProgram).getD (0, 0, 0) else (0, 0, 0)
  ((s.wr F.SCAN_PERR_BLOCK p.1).wr F.SCAN_PERR_TASK p.2.1).wr F.SCAN_PERR_CODE p.2.2

/-- STAGE_ERR of every page and of CROWN after a check (R73). -/
def State.report (s : State) (l : List (Nat × Nat × Nat × Nat)) : State :=
  let s := RegTable.assignedPages.foldl (fun (s : State) p => if p = 0 then s else s.setWord (p * 4096 + 0x024) 0) s
  let s := l.foldl (fun (s : State) (x : Nat × Nat × Nat × Nat) =>
    if x.1 = 0 then s else ((s.wr (pageFld x.1 0x024 0 16) x.2.1).wr (pageFld x.1 0x024 16 9) x.2.2.1).wr (pageFld x.1 0x024 28 4) x.2.2.2) s
  match l with
  | [] => s.stageErr 0 0 0
  | (p, r, _, c) :: _ => s.stageErr p r c

/-- A check starts (R72): the rules as the values and the mode stand. -/
def State.startCheck (s : State) : State :=
  { s.wr F.CROWN_STAGE_CTRL_STATE 2 with stg := { s.stg with voided := false, checkMode := s.mode, verdict := s.failures s.mode } }

/-- CHECK (R72): accepted in STAGING, PASSED and FAILED; in IDLE the session becomes the owner and the check has passed. -/
def State.check (s : State) (who : Initiator) : State :=
  match s.stage with
  | 0 => (((s.own who).report []).wr F.CROWN_STAGE_CTRL_STATE 3)
  | 1 | 3 | 4 => s.startCheck
  | _ => s

/-! ## The apply -/

/-- CD0 is stopped: in dormant STANDBY and during the return from it (R52, R75). -/
def State.cd0Stopped (s : State) : Bool := !s.clockRuns 0

/-- A task's scans are being started (SCAN.STATUS.RUNNING): enabled, the start complete, not in SERVICE or TRANSPORT nor on the way there, not stopped, not suspended. -/
def State.taskRuns (s : State) (t : Nat) : Bool :=
  s.crown.phase == .complete && s.mode != .service && s.mode != .transport && s.crown.trans != .transport && !s.on F.CROWN_MODE_DORMANT && s.on F.SCAN_CFG_EN && s.on (F.SCAN_TCFG_EN t)
    && !s.bit F.SCAN_STATUS_STOPPED t && !s.bit F.SCAN_STATUS_SUSPENDED t && !(s.task t).stopping

/-- APPLY_AT as a TB0 time in ns. -/
def State.applyAt (s : State) : Int :=
  ((s.rd F.CROWN_APPLY_AT_SL_SEC_LO + 2 ^ 32 * s.rd F.CROWN_APPLY_AT_SH_SEC_HI) * 1000000000 + s.rd F.CROWN_APPLY_AT_NS_NS : Nat)

/-- The WORLD settings are locked against an apply (R88): after the first secure commit only a secure commit changes them. -/
def State.worldLocked (s : State) : Bool := s.on F.WORLD_COMMIT_STAT_LOCKED && s.dirty 0x01 && s.stg.commitStep == 0

/-- CAUSE with which an APPLY is refused, 0 where it arms (R75, R88). -/
def State.applyCause (s : State) (kind task lead : Nat) : Nat :=
  if s.stage ≠ 3 then 6
  else if s.mode = .hold || s.cd0Stopped then 4
  else if s.worldLocked then 5
  else match kind with
    | 0 => if lead < 3 then 7 else 0
    | 1 =>
      let d := s.applyAt - s.tb0
      if 2 * d < 15 * (s.rd F.PSTAGE_PERIOD_PER : Int) || d > 86400000000000 then 7 else 0
    | 2 => if s.taskRuns task then 0 else 4
    | _ => 2

/-- An apply armed (R75). -/
def State.arm (s : State) (kind task lead : Nat) : State :=
  { s.wr F.CROWN_STAGE_CTRL_STATE 5 with
    stg := { s.stg with kind := kind, task := task, lead := lead, at0 := s.applyAt, suspended := true, unloaded := [], takeUp := false } }

/-- APPLY (R75): armed, or its CAUSE in CROWN.STAGE_ERR. -/
def State.apply (s : State) (kind task lead : Nat) : State :=
  let c := s.applyCause kind task lead
  if c = 0 then s.arm kind task lead else s.stageErr 0 0 c

/-- The result of a write of CROWN.STAGE_CTRL before it is made, by the command that acts (R70, R77). -/
def State.ctrlCode (s : State) (who : Initiator) (data : Nat) : Nat :=
  let owner := s.rd F.CROWN_STAGE_OWNER_SESSION
  if data.testBit 3 then
    if s.stage ≥ 5 then 0x04 else if owner != 0 && owner != who.id && !s.secureOf who then 0x03 else 0
  else if data % 8 = 0 then 0
  else if who.id = 0 || (owner != 0 && owner != who.id) then 0x03 else 0

/-- A write of CROWN.STAGE_CTRL (R553): the parameters as written, then DISCARD_ALL, ABORT, APPLY or CHECK, the highest of those set. -/
def State.stageCtrl (s : State) (who : Initiator) (data : Nat) : State :=
  let c := s.ctrlCode who data
  if c ≠ 0 then s.refuseAccess who A.CROWN_STAGE_CTRL true c
  else
    let kind := data / 2 ^ 8 % 4
    let task := data / 2 ^ 10 % 4
    let lead := data / 2 ^ 16 % 2 ^ 16
    let s := ((s.wr F.CROWN_STAGE_CTRL_EDGE_KIND kind).wr F.CROWN_STAGE_CTRL_TASK task).wr F.CROWN_STAGE_CTRL_PWM_LEAD lead
    if data.testBit 3 then s.dropStaging
    else if data.testBit 2 then (if s.stage = 5 then s.cancelApply 0xA else s)
    else if data.testBit 1 then s.apply kind task lead
    else if data.testBit 0 then s.check who else s

/-- The data of a write of CROWN.STAGE_CTRL. -/
def ctrlData (cmd : Nat) (kind task : Fin 4) (lead : Fin 65536) : Nat := cmd + 2 ^ 8 * kind.val + 2 ^ 10 * task.val + 2 ^ 16 * lead.val

/-- A write of a page's STAGE_CTRL: DISCARD by the owner (Table 3-5). -/
def State.discardWrite (s : State) (who : Initiator) (page data : Nat) : State :=
  if data.testBit 1 then
    let c := s.stageCode who
    if c ≠ 0 then s.refuseAccess who (page * 4096 + 0x020) true c else s.discardPage page
  else s

/-! ## Launch and edge -/

/-- The launch (R77): the mode-dependent rules, an SRD or a hard trip in progress, then the staged values cross into the pending shadows. -/
def State.launch (s : State) : State :=
  if s.stage ≠ 5 then s
  else if s.prot.srd.isSome then s.cancelApply 9
  else match s.launchFailures with
    | [] =>
      { s.wr F.CROWN_STAGE_CTRL_STATE 6 with
        shadow := s.staged, scan := { s.scan with shadow := if s.scan.staged.isEmpty then none else some s.stagedProgram },
        stg := { s.stg with pages := RegTable.assignedPages.filter s.dirty } }
    | l => (s.cancelApply 4).report l

/-- An apply edge sets PROT.CFG.EN to 0 (R332): pending checks are voided, every active bit clears with its condition and is recorded. -/
def State.protOff (s : State) : State :=
  let s := { s.voidCheck s.prot.pending.length with prot := { s.prot with pending := [], held := [] } }
  (List.range 9).foldl (fun (s : State) b => if s.bit F.PROT_ACTIVE_BITS b then (s.protClear b).record 3 0x30 .protEnd [(b : Int)] else s) s

/-- The target and the set-point in force as if no target had been set (R324). -/
def State.dropTarget (s : State) : State :=
  let v : Int := if s.effMode == .run && s.rd F.LOOP_CFG_SOURCE == 2 then s.meas.vPlant else 0
  { (s.wrI F.DISP_TARGET_TARGET v).wrI F.DISP_SETP_SETP v with disp := { s.disp with targetSet := false, newTarget := none } }

/-- What the units of the cells, the power stage and protection take up at the edge beside their registers. -/
def State.takeUpStage (s old : State) : State :=
  let moved (f : Fld) : Bool := s.rd f != old.rd f
  -- R142: the next phase-0 boundary begins a slot; the close times of harvests in progress are counted to it (R148)
  let s := if moved F.HARVEST_CFG_DIV || moved F.HARVEST_POINT_POINT || moved F.HARVEST_CFG_C_EVERY || moved F.PSTAGE_PERIOD_PER
    then { s with harv := { s.harv with slotP := s.rd F.HARVEST_CFG_DIV - 1, since := 0, captures := s.harv.captures.map fun c => { c with noNext := false } } } else s
  -- R76, R186: running phases take a new period at their own boundaries
  let s := if moved F.PSTAGE_PERIOD_PER && !s.running.isEmpty then { s with pwm := { s.pwm with respread := true } } else s
  -- R137
  let s := if moved F.RING_CFG_NODE_COUNT then
      (if s.mode == .connect || s.mode == .run || s.mode == .hold then
        (s.modRing fun r => { r with reEnum := true }).wr F.RING_STATUS_FOUND (s.nodes.filter s.ringSt.found.testBit).length else s.cmdEnumerate) else s
  -- R136
  let s := if moved F.NODE_THR_OV_MV || moved F.NODE_THR_UV_MV || moved F.NODE_THR2_DEGLITCH_US then
      (s.modRing fun r => { r with thrBad := s.nodes.foldl (fun m n => m ||| 2 ^ n) r.thrBad }).writeThresholds else s
  -- Table 7-3
  let s := if (moved F.BAL_CFG_EN && !s.on F.BAL_CFG_EN) || (s.effMode == .run && moved F.BAL_CFG_RUN_EN && !s.on F.BAL_CFG_RUN_EN) then s.balStop else s
  -- R332
  let s := if moved F.PROT_CFG_EN && !s.on F.PROT_CFG_EN then s.protOff else s
  s

/-- What the loop engine, dispatch, the pair and the island take up at the edge beside their registers. -/
def State.takeUpSources (s old : State) : State :=
  let moved (f : Fld) : Bool := s.rd f != old.rd f
  -- R324: a target of another kind is none of the new source's (DESIGN CHOICE, notes/assumptions/43.md); Table 15-3: LASTSEQ is the source's in force
  let s := if moved F.LOOP_CFG_SOURCE then s.dropTarget else s
  let s := if moved F.DISP_CFG_SRC then s.showLastSeq else s
  -- R349
  let s := if moved F.PAIR_CFG_PAIRED then s.takePaired else s
  -- R342
  let s := if moved F.INSUL_CFG_EN && !s.on F.INSUL_CFG_EN then s.insulOff else s
  -- R339: a source configured anew has neither SEQ nor copies, and its loss ends with its supervision
  let s := (List.range 8).foldl (fun (s : State) n => if moved (F.SNET_SRC_0_EN n) || moved (F.SNET_SRC_0_ID n) then s.snetReset n else s) s
  -- Table 9-5
  let s := [19, 20, 21].foldl (fun (s : State) k => if s.instOn k && !old.instOn k then s.presetTo k (if k = 19 then s.oMax k else s.oMin k) else s) s
  let s := if s.effMode == .run && moved F.LOOP_CFG_SOURCE then
      let src := s.rd F.LOOP_CFG_SOURCE
      let s := s.wr F.LOOP_STATUS_SOURCE src
      if src = 0 then s
      else let s := s.presetTo (16 + src) (s.rdI F.LOOP_ISET_I_SET)
        { s with loop := { s.loop with rampFrom := s.loop.rampFrom.filter (· != 16 + src) ++ [16 + src] } }
    else s
  s

/-- What the queues, the field connections, the contactors and the supplies take up at the edge beside their registers. -/
def State.takeUpLinks (s old : State) : State :=
  let moved (f : Fld) : Bool := s.rd f != old.rd f
  -- R400
  let s := (List.range 14).foldl (fun (s : State) r => if moved (F.QUEUE_QCFG_HOLD r) then s.refill (96 + r) else s) s
  -- R449, R434
  let s := (List.range 4).foldl (fun (s : State) c => 
    if moved (F.CAN_CFG_EN c) then s.canEnable c
    else if [F.CAN_NBT_BRP c, F.CAN_NBT_TSEG1 c, F.CAN_NBT2_TSEG2 c, F.CAN_NBT2_SJW c, F.CAN_DBT_BRP c, F.CAN_DBT_TSEG1 c, F.CAN_DBT_TSEG2 c, F.CAN_DBT_SJW c,
      F.CAN_CFG_FD_EN c, F.CAN_CFG_ROM c].any moved then s.canIntegrate c else s) s
  let s := (List.range 2).foldl (fun (s : State) i => if moved (F.PTP_CFG_EN i) then s.ptpEnable i (s.on (F.PTP_CFG_EN i)) else s) s
  -- R438
  let s := if s.on (F.PTP_CFG_FALLBACK 0) then s else s.wrB (F.PTP_STATE_FB_ACTIVE 0) false
  -- R236, R235
  let s := if moved F.CONTACT_CFG_FITTED && !s.bit F.CONTACT_CFG_FITTED 5 then s.release 6 else s
  let s := if moved F.CONTACT_CFG_FB_INV then s.readPins else s
  -- R58, R486
  let s := (if moved F.SUPPLY_HOLD_CFG_SDS_EN then s.showSds else s)
  if moved F.UPDATE_CFG_CONFIRM_S then s.showWindow else s

/-- What the change of a field in force gives the units: the effects of a take-up that its chapters name, from the state before to the state after. -/
def State.takeUpUnits (s old : State) : State := ((s.takeUpStage old).takeUpSources old).takeUpLinks old

/-- The banks of a page's event registers: one per session on the QREAD page (R416). -/
def evtBanks (page : Nat) : List (Option Nat) := if page = 0x12 then (0x01 :: (List.range 8).map (0x10 + ·)).map some else [none]

/-- Events that an applied EVT_ENABLE enables while their bit is already set (R69). -/
def State.takeUpEvents (s old : State) : State :=
  s.stg.pages.foldl (fun (s : State) p =>
    (evtBanks p).foldl (fun (s : State) (i : Option Nat) =>
      let en (s : State) : Nat := s.rd ((pageFld p 0x014 0 32).bank (i.getD 0))
      (List.range 32).foldl (fun (s : State) b =>
        if (en s).testBit b && !(en old).testBit b && s.bit ((evtStatus p).bank (i.getD 0)) b then s.notify p b i else s) s) s) s

/-- The policy of the Almanac changes with the apply (R468): recorded with the old and the new policy and the session. -/
def State.takeUpPolicy (s old : State) : State :=
  if s.rd F.EVREC_CFG_POLICY != old.rd F.EVREC_CFG_POLICY then
    (s.record 5 0x61 .policyChange [(old.rd F.EVREC_CFG_POLICY : Int), (s.rd F.EVREC_CFG_POLICY : Int), (s.rd F.CROWN_STAGE_OWNER_SESSION : Int)]).wr
      F.EVREC_STATUS_POLICY (s.rd F.EVREC_CFG_POLICY)
  else s

/-- The program in the pending shadow comes into force (R381: each task takes its network at its first scan start). -/
def State.takeUpProgram (s : State) : State :=
  match s.scan.shadow with
  | some p =>
    let s : State := { s with nvm := { s.nvm with program := p }, scan := { s.scan with shadow := none } }
    s.showProgram.raise 0x40 8
  | none => s

/-- The stations whose configuration an apply changed keep the words they use until they take up the new ones (R552). -/
def State.holdStations (s old : State) : State :=
  (List.range 32).foldl (fun (s : State) n =>
    let l := [(F.STATION_SCFG_EN n).addr, (F.STATION_SADDR_ADDR n).addr, (F.STATION_STIME_TIMEOUT_MS n).addr, F.STATION_CFG_UDP_PORT.addr]
    if (s.scan.inUse.any (·.1 == n)) || l.all (fun a => s.word a == old.word a) then s
    else { s with scan := { s.scan with inUse := s.scan.inUse ++ [(n, l.map fun a => (a, old.word a))] } }) s

/-- The edge (R79): every unit moves its pending shadow into its live registers; APPLY_AT holds the TB0 time of the edge. -/
def State.edge (s : State) : State :=
  let t := s.timeBase 0
  let s := ((s.wr F.CROWN_APPLY_AT_NS_NS t.ns).wr F.CROWN_APPLY_AT_SL_SEC_LO t.sec).wr F.CROWN_APPLY_AT_SH_SEC_HI (t.sec / 2 ^ 32)
  let old := s
  let s := s.shadow.foldl (fun (s : State) (x : Nat × Word) => s.setWord x.1 (rwsMerge x.1 (s.word x.1) x.2)) s
  let s := { s with shadow := [], stg := { s.stg with takeUp := true } }
  ((((s.takeUpProgram.holdStations old).takeUpUnits old).takeUpEvents old).takeUpPolicy old)

/-- What waited for the end of take-up (R82): CONNECT to RUN, a reset held off. -/
def State.afterTakeUp (s : State) : State :=
  let s := if s.crown.runDue then { s with crown := { s.crown with runDue := false } }.toRun else s
  match s.crown.heldReset with
  | some (k, i) => { s with crown := { s.crown with heldReset := none } }.restart k i
  | none => s

/-- The last take-up is complete (R80): recorded with the applied pages, staged copies equal to live values, STATE IDLE, ownership ended. -/
def State.takeUpDone (s : State) : State :=
  let s := s.record 2 0x00 .applied (s.stg.pages.map fun (p : Nat) => (p : Int))
  let c := s.stg.commitStep
  let s := s.endOwnership
  let s := if c == 2 then { s with stg := { s.stg with commitStep := 3 } } else s
  s.afterTakeUp

/-! ## Secure commit -/

/-- A secure commit is refused (R89). -/
def State.commitBarred (s : State) (who : Initiator) : Bool :=
  let owner := s.rd F.CROWN_STAGE_OWNER_SESSION
  s.stage ≥ 5 || (owner != 0 && owner != who.id) || s.mode == .hold || s.cd0Stopped || !s.on F.THERM_STATUS_NOR_OK

/-- Step 2 of a secure commit: EDGE_KIND 0b00 with PWM_LEAD 3, where an apply may be armed. -/
def State.commitApply (s : State) : State :=
  if s.applyCause 0 0 3 = 0 then { s.arm 0 0 3 with stg := { (s.arm 0 0 3).stg with commitStep := 2 } } else s.commitRefused

/-- Step 2 of a secure commit (R89): after a check that passed the values are applied. -/
def State.commitGo (s : State) : State := if s.stage = 3 then s.commitApply else s

/-- A write of WORLD.COMMIT (R89): step 1 checks all dirty pages, anew where an ordinary check is under way. -/
def State.commitWrite89 (s : State) (who : Initiator) (data : Nat) : State :=
  if data % 2 ^ 16 != 0x5C3A || !data.testBit 16 || s.stg.commitStep != 0 then s
  else if who.id = 0 || s.commitBarred who then s.wr F.WORLD_COMMIT_STAT_STATE 3
  else
    let s := { s.wr F.WORLD_COMMIT_STAT_STATE 1 with stg := { s.stg with commitStep := 1, commitBy := who } }
    (if s.stage = 2 then s.startCheck else s.check who).commitGo

/-- The check ends (R72): its verdict stands unless a later staged write voided it; a secure commit goes on or ends with it. -/
def State.checkDone (s : State) : State :=
  if s.stage ≠ 2 then (if s.stg.commitStep = 1 && s.stage ≠ 3 then s.commitRefused else s)
  else
    let s := (s.reportProgram.report s.stg.verdict).wr F.CROWN_STAGE_CTRL_STATE (if s.stg.verdict.isEmpty then 3 else 4)
    if s.stg.commitStep = 1 then (if s.stage = 3 then s.commitApply else s.commitRefused) else s

/-- The store write of a secure commit ends (R89): 0 the entry is complete, 1 a write failed twice, 2 the NOR window closed. -/
def State.commitStored (s : State) (outcome : Nat) : State :=
  if s.stg.commitStep ≠ 3 then s
  else
    let s := { s with stg := { s.stg with commitStep := 0 } }
    match outcome with
    | 0 => ((((s.storeEntry (s.imgFormat 0)).wrB F.WORLD_COMMIT_STAT_LOCKED true).bump F.WORLD_COMMIT_STAT_COUNT).wr F.WORLD_COMMIT_STAT_STATE 2)
    | 1 => (s.lastingW 0x60 .norVerify).wr F.WORLD_COMMIT_STAT_STATE 4
    | _ => s.wr F.WORLD_COMMIT_STAT_STATE 4

end Sys2Proof.Machine
end

