-- ==== Sys2Proof/Machine/StageFam.lean ====
section
/-!
DEFINITION. The commands of staging, the apply and the secure commit (chapter 3).
-/
namespace Sys2Proof.Machine
open Sys2Proof

/-- STAGED_WRITE (R70): a word written to the staged copy of the register at live address a. -/
def State.stagedWrite (s : State) (who : Initiator) (a data : Nat) : State :=
  let c := s.stageCode who
  if c ≠ 0 then s.refuseAccess who (a + 0x800) true c else s.stageWord who a data

/-- STAGED_WRITE (R70, R74, R77): a write at live offset + 0x800, the offset given as the word number of the register in its page. -/
def execStagedWrite (who : Initiator) (page : Fin 256) (reg : Fin 512) (data : BitVec 32) (s : State) : Host.Outcome State Fault Refusal :=
  .next (s.asWrite who (page.val * 4096 + 0x800 + 4 * reg.val) fun s => s.stagedWrite who (page.val * 4096 + 4 * reg.val) data.toNat)

/-- CHECK (R72, R553): a write of CROWN.STAGE_CTRL with CHECK and the edge parameters. -/
def execCheckCmd (who : Initiator) (kind task : Fin 4) (lead : Fin 65536) (s : State) : Host.Outcome State Fault Refusal :=
  .next (s.asWrite who A.CROWN_STAGE_CTRL fun s => s.stageCtrl who (ctrlData 1 kind task lead))

/-- CHECK_COMPLETE (R72, R73). -/
def execCheckComplete (s : State) : Host.Outcome State Fault Refusal := .next s.checkDone

/-- APPLY (R75): a write of CROWN.STAGE_CTRL with APPLY and the edge parameters. -/
def execApplyCmd (who : Initiator) (kind task : Fin 4) (lead : Fin 65536) (s : State) : Host.Outcome State Fault Refusal :=
  .next (s.asWrite who A.CROWN_STAGE_CTRL fun s => s.stageCtrl who (ctrlData 2 kind task lead))

/-- ABORT (R81). -/
def execAbortCmd (who : Initiator) (kind task : Fin 4) (lead : Fin 65536) (s : State) : Host.Outcome State Fault Refusal :=
  .next (s.asWrite who A.CROWN_STAGE_CTRL fun s => s.stageCtrl who (ctrlData 4 kind task lead))

/-- DISCARD_ALL (R70). -/
def execDiscardAll (who : Initiator) (kind task : Fin 4) (lead : Fin 65536) (s : State) : Host.Outcome State Fault Refusal :=
  .next (s.asWrite who A.CROWN_STAGE_CTRL fun s => s.stageCtrl who (ctrlData 8 kind task lead))

/-- DISCARD (R70, Table 3-5): DISCARD of the STAGE_CTRL of a page other than CROWN. -/
def execDiscardCmd (who : Initiator) (page : Fin 256) (s : State) : Host.Outcome State Fault Refusal :=
  .next (s.asWrite who (page.val * 4096 + 0x020) fun s => if page.val = 0 then s else s.discardWrite who page.val 2)

/-- STAGING_TIMEOUT (R70): 60 s without a staged write or command from the owner; the count stands from ARMED to the end of take-up. -/
def execStagingTimeout (s : State) : Host.Outcome State Fault Refusal :=
  .next (if s.rd F.CROWN_STAGE_OWNER_SESSION != 0 && !s.stg.suspended then s.dropStaging else s)

/-- APPLY_LAUNCH (R77): two phase-0 periods before the edge. -/
def execApplyLaunch (s : State) : Host.Outcome State Fault Refusal := .next s.launch

/-- A CONNECT to RUN transition that fell due while an apply was LAUNCHED takes place once the apply is cancelled (R82). -/
def State.releaseRun (s : State) : State := if s.crown.runDue && s.mode == .connect then s.toRun else s

/-- APPLY_LOAD_DEADLINE (R79): one phase-0 period before the edge; the pages whose units have not confirmed their pending shadow. -/
def execApplyLoadDeadline (unloaded : List Nat) (s : State) : Host.Outcome State Fault Refusal :=
  .next (if s.stage = 6 && !s.stg.takeUp && !unloaded.isEmpty then ({ s with stg := { s.stg with unloaded := unloaded } }.cancelApply 7).releaseRun else s)

/-- APPLY_EDGE (R79). -/
def execApplyEdge (s : State) : Host.Outcome State Fault Refusal := .next (if s.stage = 6 && !s.stg.takeUp then s.edge else s)

/-- APPLY_TAKEUP_COMPLETE (R80, R82). -/
def execApplyTakeupComplete (s : State) : Host.Outcome State Fault Refusal := .next (if s.stg.takeUp then s.takeUpDone else s)

/-- SECURE_COMMIT (R89): a write of WORLD.COMMIT with KEY and GO. -/
def execSecureCommit (who : Initiator) (key : Fin 65536) (s : State) : Host.Outcome State Fault Refusal :=
  .next (s.asWrite who A.WORLD_COMMIT fun s => s.commitWrite89 who (2 ^ 16 + key.val))

/-- COMMIT_STORE_COMPLETE (R89): 0 complete and verified, 1 failed twice, 2 stopped by the NOR window. -/
def execCommitStoreComplete (outcome : Fin 3) (s : State) : Host.Outcome State Fault Refusal := .next (s.commitStored outcome.val)

/-- EVT_STATUS_CLEAR (R69): a W1C write of a page's EVT_STATUS. -/
def execEvtStatusClear (who : Initiator) (page : Fin 256) (mask : BitVec 32) (s : State) : Host.Outcome State Fault Refusal :=
  let a := page.val * 4096 + 0x010
  .next (s.asWrite who a fun s => s.crossing who a mask.toNat fun s => s.setWord (bankAddr who a) (s.word (bankAddr who a) &&& ~~~mask))

/-- A write of RETRY_CNT: CLR clears COUNT (Table 3-4). -/
def State.retryCntWrite (s : State) (page data : Nat) : State := if data.testBit 31 then s.wr (pageFld page 0x028 0 16) 0 else s

/-- A write of LASTING: CLR clears CODE and COUNT (Table 3-4). -/
def State.lastingWrite (s : State) (page data : Nat) : State :=
  if data.testBit 31 then (s.wr (pageFld page 0x02C 0 16) 0).wr (pageFld page 0x02C 16 8) 0 else s

/-- RETRY_CNT_CLEAR (R66). -/
def execRetryCntClear (who : Initiator) (page : Fin 256) (s : State) : Host.Outcome State Fault Refusal :=
  .next (s.asWrite who (page.val * 4096 + 0x028) fun s => s.retryCntWrite page.val (2 ^ 31))

/-- LASTING_CLEAR (R66). -/
def execLastingClear (who : Initiator) (page : Fin 256) (s : State) : Host.Outcome State Fault Refusal :=
  .next (s.asWrite who (page.val * 4096 + 0x02C) fun s => s.lastingWrite page.val (2 ^ 31))

end Sys2Proof.Machine
end

