-- ==== Sys2Proof/Machine/TestFam.lean ====
section
/-!
DEFINITION. Service and test access (chapter 27): the gate pattern test, the test access port, the test multiplexer pins, and their commands.
-/
namespace Sys2Proof.Machine
open Sys2Proof

/-! ## Gate pattern test -/

/-- A phase may be tested (R544): enabled, not faulted, SCALE, POS and NEG not 0 in the values in force. -/
def State.testable (s : State) (n : Nat) : Bool :=
  s.bit F.PSTAGE_PHEN_EN n && s.rd (F.PHASE_STAT_STATE n) != 3 && s.rd (F.PHASE_ISCALE_SCALE n) != 0
    && s.rd (F.PHASE_ILIM_POS n) != 0 && s.rd (F.PHASE_ILIM_NEG n) != 0

/-- GRESULT of a refusal (R544), 0 where the test may start. -/
def State.testRefusal (s : State) : Nat :=
  let duty := s.rd F.TESTMUX_GTEST2_DUTY
  let dur := s.rd F.TESTMUX_GTEST2_DUR_MS
  if s.mode ≠ .service then 1
  else if [1, 2, 3, 4, 5].any s.fbClosed then 2
  else if s.meas.vLink.natAbs > 50000 then 3
  else if duty < 16 || duty > 240 || dur < 1 || dur > 10000 then 4
  else if (List.range 16).any fun n => s.bit F.TESTMUX_GTEST_PHASES n && !s.testable n then 5
  else if !s.noSH then 6 else 0

/-- GO (R544, R545): the enables are energised, the phases switch from the next phase-0 boundary. -/
def State.testGo (s : State) : State :=
  if s.on F.TESTMUX_STATUS_GTEST then s
  else
    let r := s.testRefusal
    let s := s.wr F.TESTMUX_STATUS_GRESULT r
    if r ≠ 0 then s
    else { (s.wrB F.TESTMUX_STATUS_GTEST true).askEnables with tmx := { s.tmx with startNext := true, stopNext := false } }

/-- A write of TESTMUX.GTEST: PHASES, then GO or GSTOP. -/
def State.gtestWrite (s : State) (data : Nat) : State :=
  let s := if s.on F.TESTMUX_STATUS_GTEST then s else s.wr F.TESTMUX_GTEST_PHASES data
  let s := if data.testBit 17 then s.endGateTest 7 false else s
  if data.testBit 16 then s.testGo else s

/-! ## Test access port -/

/-- A write of TESTMUX.JTAG (R547): UNLOCK with its KEY in SERVICE, or RELOCK. -/
def State.jtagWrite (s : State) (data : Nat) : State :=
  if data.testBit 17 then s.lockPort
  else if data.testBit 16 && data % 2 ^ 16 == 0xC35A && s.mode == .service then
    ((s.wrB F.TESTMUX_STATUS_JTAG_OPEN true).raise 0x70 0).record 5 0x70 .jtagUnlocked
  else s

/-- The IDCODE (R546). -/
def idcode : Nat := 2 ^ 28 * (Config.hwRev % 16) + 2 ^ 12 * 0x0512 + 2 * (Config.vendorCode % 2 ^ 11) + 1

/-- An instruction of the port (R546, R547): while locked only BYPASS and IDCODE, every other acts as BYPASS. -/
def State.tap (s : State) (i : TapOp) : State :=
  let op (i : TapOp) (tdo : Nat) (pins : List (Nat × Bool)) (s : State) : State := { s with tmx := { s.tmx with instr := i, tdo := tdo, forced := pins } }
  match i with
  | .idcode => op .idcode idcode [] s
  | .samplePreload =>
    if s.on F.TESTMUX_STATUS_JTAG_OPEN then let (v, s) := s.drawFree
      op .samplePreload v [] s
    else op .bypass 0 [] s
  | .extest pins =>
    if s.on F.TESTMUX_STATUS_JTAG_OPEN then let (v, s) := s.drawFree
      op (.extest pins) v pins s
    else op .bypass 0 [] s
  | .bypass | .other => op .bypass 0 [] s

/-! ## Test multiplexer pins -/

/-- Whether Table 27-1 lists a selection code. -/
def tmxListed (sel : Nat) : Bool := sel ≤ 9 || (sel ≥ 0x10 && sel ≤ 0x2F)

/-- The code of the signal that pin TMXk drives (R549): low outside SERVICE and for a code that is not listed. -/
def State.tmxSignal (s : State) (k : Nat) : Nat :=
  let sel := s.rd (F.TESTMUX_SEL_SEL k)
  if s.mode = .service && tmxListed sel then sel else 0

/-! ## Commands -/

/-- GO (R544): a write of TESTMUX.GTEST.GO with PHASES. -/
def execGtestGo (who : Initiator) (phases : Fin 65536) (s : State) : Host.Outcome State Fault Refusal :=
  .next (s.asWrite who A.TESTMUX_GTEST fun s => s.gtestWrite (65536 + phases.val))

/-- GSTOP (R545): a write of TESTMUX.GTEST.GSTOP. -/
def execGstopCmd (who : Initiator) (s : State) : Host.Outcome State Fault Refusal :=
  .next (s.asWrite who A.TESTMUX_GTEST fun s => s.endGateTest 7 false)

/-- GTEST_END (R545): DUR_MS expires. -/
def execGtestEnd (s : State) : Host.Outcome State Fault Refusal := .next (s.endGateTest 0 false)

/-- UNLOCK (R547): a write of TESTMUX.JTAG with KEY and UNLOCK. -/
def execUnlockCmd (who : Initiator) (key : Fin 65536) (s : State) : Host.Outcome State Fault Refusal :=
  .next (s.asWrite who A.TESTMUX_JTAG fun s => s.jtagWrite (65536 + key.val))

/-- RELOCK (R547): a write of TESTMUX.JTAG.RELOCK. -/
def execRelockCmd (who : Initiator) (s : State) : Host.Outcome State Fault Refusal :=
  .next (s.asWrite who A.TESTMUX_JTAG fun s => s.jtagWrite (2 ^ 17))

/-- UNLOCK_EXPIRY (R547): UNLOCK_MIN expires. -/
def execUnlockExpiry (s : State) : Host.Outcome State Fault Refusal := .next s.lockPort

/-- SVC_TIMEOUT (R543): no secure access for SVC_TMO minutes in SERVICE; recorded, and a software warm reset. -/
def execSvcTimeout (s : State) : Host.Outcome State Fault Refusal :=
  .next (if s.mode = .service then (((s.record 5 0x70 .svcTimeout).raise 0x70 4).almDrain).resetOr .softwareWarm s.startNow else s)

/-- TMX_SELECT (R549): a write of SELk. -/
def execTmxSelect (who : Initiator) (k : Fin 4) (sel : Byte) (s : State) : Host.Outcome State Fault Refusal :=
  .next (s.asWrite who (A.TESTMUX_SEL k.val) fun s => s.wr (F.TESTMUX_SEL_SEL k.val) sel.toNat)

/-- TAP_INSTRUCTION (R546). -/
def execTapInstruction (i : TapOp) (s : State) : Host.Outcome State Fault Refusal := .next (s.tap i)

end Sys2Proof.Machine
end

