-- ==== Sys2Proof/Machine/TimeFam.lean ====
section
/-!
DEFINITION. The meanings of the clock commands (chapter 20) and of the commands of the time bases and the timed pins (chapter 21).
-/
namespace Sys2Proof.Machine
open Sys2Proof

/-! ## Clocks -/

/-- The clock monitor checks a domain: those of PLL0, PLL1 and PLL2 but CD9, and CD11 (R418). -/
def monitored : List Nat := [0, 1, 4, 5, 6, 7, 8, 10, 11]

/-- Three times the nominal frequency of a domain in Hz (Table 20-1). -/
def nominal3 (div2 : Bool) (d : Nat) : Nat :=
  match d with
  | 0 => 1200000000 | 1 => 300000000 | 4 | 5 => 375000000 | 6 => 937500000 | 7 => 750000000 | 8 => 240000000
  | 10 => if div2 then 200000000 else 400000000
  | _ => 98304

/-- The PLL that feeds a domain (Table 20-1). -/
def pllOf (d : Nat) : Option Nat := if d = 11 then none else if d = 6 then some 2 else if d = 4 ∨ d = 5 ∨ d = 7 then some 1 else some 0

/-- One domain judged over a window (R418); one that has stopped is not checked, and its pending check is voided (R412). The condition of a lasting verdict on a PLL domain ends when every such domain passes again (R328); CD11 stays out of use. -/
def State.judgeClock (s : State) (hz : List Nat) (locked : Nat) (d : Nat) : State :=
  let f := hz.getD d 0
  let nom := nominal3 (s.on F.CLOCK_STATUS_CD10_DIV2) d
  let dev := (3 * f - nom) + (nom - 3 * f)
  let bad := decide (dev * 100 > s.rd F.CLOCK_CFG_MON_PCT * nom) || (match pllOf d with | some p => !locked.testBit p | none => false)
  let pend (s : State) (b : Bool) : State :=
    { s with time := { s.time with clkPend := (s.time.clkPend ||| 2 ^ d) - (if b then 0 else 2 ^ d) } }
  if !s.clockRuns d then (if s.time.clkPend.testBit d then (pend s false).voidCheck else s)
  else if s.bit F.CLOCK_MONFAIL_DOMAINS d then
    if bad || d = 11 then s
    else
      let s := s.wrBit F.CLOCK_MONFAIL_DOMAINS d false
      if monitored.any fun k => k != 11 && s.bit F.CLOCK_MONFAIL_DOMAINS k then s else s.clearCond .clockPll
  else if !bad then (if s.time.clkPend.testBit d then (pend s false).retryPass 0x04 else s)
  else if !s.time.clkPend.testBit d then pend s true
  else
    let s := ((pend s false).wrBit F.CLOCK_MONFAIL_DOMAINS d true).raise 0x04 1
    if d = 11 then s.lastingW 0x04 .clockMon [d, f]
    else
      let s := (s.lasting 0x04 (evCode 0x04 .clockMon)).raise 0x31 5
      s.relinquishOr 7 fun s => (s.addCond .clockPll .H).react .H 0x04 .clockMon [d, f] 9

/-- The island's clock cross-check (Table 16-3): SAFECLK more than 2 % off CD7 over a window of 1 ms, which CD13 counts as f Hz of CD7; the next window is its second attempt. -/
def State.crossCheck (s : State) (f : Nat) : State :=
  let dev := (f - 250000000) + (250000000 - f)
  if !s.clockRuns 7 || !s.clockRuns 13 then s
  else s.islandJudge .clockCross (decide (dev * 100 > 2 * 250000000)) .H fun s =>
    ((s.lasting 0x31 (evCode 0x31 .clockFault)).raise 0x31 5).relinquishOr 7 fun s => s.react .H 0x31 .clockFault [f] 9

/-- CLOCK_MONITOR_WINDOW (R418, Table 16-3): the frequencies measured over the window in Hz, by domain, and which PLLs report lock. -/
def execClockMonitorWindow (hz : List Nat) (locked : Fin 8) (s : State) : Host.Outcome State Fault Refusal :=
  let s := (List.range 14).foldl (fun s d => s.wr (F.CLOCK_FREQ_HZ d) (if s.clockRuns d || d = 9 || d = 12 then hz.getD d 0 else 0)) s
  let s := s.wr F.CLOCK_STATUS_LOCK locked.val
  .next ((monitored.foldl (fun s d => s.judgeClock hz locked.val d) s).crossCheck (hz.getD 7 0))

/-- Any write of XSTAT clears MERGED and WAKES (Table 20-3). -/
def State.clearXstat (s : State) : State := (s.wr F.CLOCK_XSTAT_MERGED 0).wr F.CLOCK_XSTAT_WAKES 0

/-- XSTAT_CLEAR. -/
def execXstatClear (who : Initiator) (s : State) : Host.Outcome State Fault Refusal := .next (s.asWrite who A.CLOCK_XSTAT State.clearXstat)

/-! ## Time bases -/

/-- SET (R431). -/
def execSetCmd (who : Initiator) (n : Fin 4) (s : State) : Host.Outcome State Fault Refusal :=
  .next (s.asWrite who (A.TIME_CMD n.val) fun s => s.timeCmd who n.val 1)

/-- SHIFT (R431). -/
def execShiftCmd (who : Initiator) (n : Fin 4) (s : State) : Host.Outcome State Fault Refusal :=
  .next (s.asWrite who (A.TIME_CMD n.val) fun s => s.timeCmd who n.val 2)

/-- SNAP (R429). -/
def execSnapCmd (who : Initiator) (s : State) : Host.Outcome State Fault Refusal := .next (s.asWrite who A.TIME_CMD_SNAP State.snap)

/-- NS_READ (R429). -/
def execNsRead (who : Initiator) (n : Fin 4) (s : State) : Host.Outcome State Fault Refusal :=
  .next (s.asRead who (A.TIME_NS n.val) fun s => s.nsRead n.val)

/-- A write of RATE2 (R429). -/
def State.writeRate2 (s : State) (data : Nat) : State := s.wrI (F.TIME_RATE_RATE 2) (clampRate (signedOf 32 (data % 2 ^ 32)))

/-- TB2_RATE_WRITE (R429). -/
def execTb2RateWrite (who : Initiator) (rate : BitVec 32) (s : State) : Host.Outcome State Fault Refusal :=
  .next (s.asWrite who (A.TIME_RATE 2) fun s => s.writeRate2 rate.toNat)

/-! ## Triggers and captures -/

/-- ARM (R442). -/
def execArmTrigger (who : Initiator) (k : Fin 8) (s : State) : Host.Outcome State Fault Refusal :=
  .next (s.asWrite who (A.TRIG_TCTL k.val) fun s => s.trigCtl k.val 1)

/-- DISARM_TRIGGER (R442). -/
def execDisarmTrigger (who : Initiator) (k : Fin 8) (s : State) : Host.Outcome State Fault Refusal :=
  .next (s.asWrite who (A.TRIG_TCTL k.val) fun s => s.trigCtl k.val 0)

/-- LEADING_EDGE (R442): the time base counts through the next leading edge instant. -/
def execLeadingEdge (k : Fin 8) (s : State) : Host.Outcome State Fault Refusal :=
  let t := s.trig k.val
  if s.armed k.val && !t.high && !t.ending && (s.on (F.TRIG_TCFG_PERIODIC k.val) || t.j == 0) then .next (s.leadingEdge k.val) else .next s

/-- TRAILING_EDGE (R442). -/
def execTrailingEdge (k : Fin 8) (s : State) : Host.Outcome State Fault Refusal :=
  let t := s.trig k.val
  if s.armed k.val && t.high then
    if !s.on (F.TRIG_TCFG_PERIODIC k.val) || t.ending then .next (s.trigDone k.val) else .next (s.setTrig k.val { t with high := false })
  else .next s

/-- CAPTURE_EDGE (R444): an edge at CAPk that held its level for held ns; dev is the deviation of the stamp in ns, at most 5. -/
def execCaptureEdge (k : Fin 8) (rise : Bool) (held : Nat) (dev : Int) (s : State) : Host.Outcome State Fault Refusal :=
  let sel := s.rd (F.TRIG_CCFG_EDGE k.val)
  if (if rise then sel.testBit 0 else sel.testBit 1) && decide (held ≥ 4 * s.rd (F.TRIG_CCFG_DEGLITCH k.val)) then
    let t := s.timeBase (s.rd (F.TRIG_CCFG_TB k.val))
    .next (s.captureEdge k.val rise (TimeBase.ofTotal (t.total + clampI dev (-5) 5 * 2 ^ 48)))
  else .next s

/-- POP (R447): the head stamp is removed. -/
def State.popStamp (s : State) (k : Nat) : State := s.setStamps k (s.stamps k).tail

/-- POP of a capture input. -/
def execPopCapture (who : Initiator) (k : Fin 8) (s : State) : Host.Outcome State Fault Refusal :=
  .next (s.asWrite who (A.TRIG_CSTAT k.val) fun s => s.popStamp k.val)

end Sys2Proof.Machine
end

