-- ==== Sys2Proof/Machine/UpdateFam.lean ====
section
/-!
DEFINITION. The commands of non-volatile memory and field update (chapter 24).
-/
namespace Sys2Proof.Machine
open Sys2Proof

/-- HEADER (R480): a write of OP HEADER. -/
def execHeaderOp (who : Initiator) (s : State) : Host.Outcome State Fault Refusal :=
  .next (s.asWrite who A.UPDATE_CMD fun s => s.updateCmd who 1 0)

/-- TABLE (R480): a write of OP TABLE. -/
def execTableOp (who : Initiator) (s : State) : Host.Outcome State Fault Refusal :=
  .next (s.asWrite who A.UPDATE_CMD fun s => s.updateCmd who 2 0)

/-- BLOCK (R480): a write of OP BLOCK; fails counts the failed verifies of a block it programs. -/
def execBlockOp (who : Initiator) (fails : Fin 3) (s : State) : Host.Outcome State Fault Refusal :=
  .next (s.asWrite who A.UPDATE_CMD fun s => s.updateCmd who 3 fails)

/-- FINISH (R480): a write of OP FINISH. -/
def execFinishOp (who : Initiator) (s : State) : Host.Outcome State Fault Refusal :=
  .next (s.asWrite who A.UPDATE_CMD fun s => s.updateCmd who 4 0)

/-- UPDATE_ABORT (R481): a write of OP ABORT. -/
def execUpdateAbort (who : Initiator) (s : State) : Host.Outcome State Fault Refusal :=
  .next (s.asWrite who A.UPDATE_CMD fun s => s.updateCmd who 5 0)

/-- UPDATE_TRANSFER_TIMEOUT (R481): 600 s without a command from the owner. -/
def execUpdateTransferTimeout (s : State) : Host.Outcome State Fault Refusal := .next (if s.transferring then s.endTransfer else s)

/-- ACTIVATE (R482): a write of UPDATE.CMD with ACTIVATE, ACT_MODE and KEY. -/
def execActivateCmd (who : Initiator) (act : Fin 4) (key : Fin 65536) (s : State) : Host.Outcome State Fault Refusal :=
  .next (s.asWrite who A.UPDATE_CMD fun s => s.updateCmd who (0x10 + 256 * act.val + 65536 * key.val) 0)

/-- DISARM (R485): a write of UPDATE.CMD.DISARM. -/
def execDisarmCmd (who : Initiator) (s : State) : Host.Outcome State Fault Refusal :=
  .next (s.asWrite who A.UPDATE_CMD fun s => s.updateCmd who 0x20 0)

/-- CONFIRM (R486): a write of UPDATE.CMD.CONFIRM with KEY. -/
def execConfirmCmd (who : Initiator) (key : Fin 65536) (s : State) : Host.Outcome State Fault Refusal :=
  .next (s.asWrite who A.UPDATE_CMD fun s => s.updateCmd who (0x40 + 65536 * key.val) 0)

/-- KEY_WRITE (R475): a write of KEYSEL with WRITE = 1. -/
def execKeyWrite (who : Initiator) (slot : Fin 4) (s : State) : Host.Outcome State Fault Refusal :=
  .next (s.asWrite who A.UPDATE_KEYSEL fun s => s.keySel (0x100 + slot.val))

/-- JUBILEE_PREPARE (R484): at JUB − 100 ms, step 3 of Table 24-7. -/
def execJubileePrepare (s : State) : Host.Outcome State Fault Refusal :=
  .next (if s.nvm.armed = 2 && !s.nvm.prepared then { s.storeAll with nvm := { s.storeAll.nvm with prepared := true } } else s)

/-- JUBILEE_POINT (R484): TB0 counts through JUB, or steps over it (late). -/
def execJubileePoint (late : Bool) (s : State) : Host.Outcome State Fault Refusal := .next (s.jubilee late)

/-- CONFIRMATION (R486): once all the conditions hold. -/
def execConfirmation (s : State) : Host.Outcome State Fault Refusal :=
  .next (if s.confirmable && (!s.on F.UPDATE_CFG_HOST_CONFIRM || s.nvm.hostOk) then s.confirm else s)

/-- CONFIRM_WINDOW_SAVE (R486): every 10 s the count is kept in the boot record. -/
def execConfirmWindowSave (s : State) : Host.Outcome State Fault Refusal :=
  .next (if s.nvm.boot.trial then { s with nvm := { s.nvm with boot := { s.nvm.boot with used := s.nvm.boot.used + 10 } } }.showWindow else s)

/-- CONFIRM_WINDOW_EXPIRY (R487): the window expires unconfirmed. -/
def execConfirmWindowExpiry (s : State) : Host.Outcome State Fault Refusal := .next s.updFallback

/-- CLASS_L_STORE_WRITE (R476): the class L register store is written. -/
def execClassLStoreWrite (s : State) : Host.Outcome State Fault Refusal := .next s.storeLregs

end Sys2Proof.Machine
end

