-- ==== Sys2Proof/Machine/Router.lean ====
section
/-!
DEFINITION. A write and a read of any register by address (R14, R63 to R66, Table 0-4): what bars it, what a write does at each register
that has a command of its own, what a read returns where the value is not held as a word of the register file.
-/
namespace Sys2Proof.Machine
open Sys2Proof

/-- The place of an address in a group of count registers stride bytes apart. -/
def groupIdx (a base stride count : Nat) : Option Nat :=
  if base ≤ a ∧ (a - base) % stride = 0 ∧ (a - base) / stride < count then some ((a - base) / stride) else none

/-! ## Writes -/

/-- The result that bars a write before it is made: page, session, world, alignment (R65, R90, R97), staging ownership and the frozen state (R70, R77), a staged offset of the scan program (R385). -/
def State.writeCode (s : State) (who : Initiator) (a data : Nat) : Nat :=
  let c := s.barred who a true
  if c ≠ 0 then c
  else if offOf a ≥ 0x800 then (if who = .scanProgram then 0x05 else if rwsReg (a - 0x800) then s.stageCode who else 0)
  else if a = A.CROWN_STAGE_CTRL then s.ctrlCode who data
  else if offOf a = 0x020 && data.testBit 1 then s.stageCode who
  else if a = A.SCAN_PROG_DATA then s.stageCode who
  else 0

/-- SCAN.CMD (R374): a stopped task's scans start again, its watchdog's condition ends. -/
def State.restartTasks (s : State) (mask : Nat) : State :=
  (List.range 4).foldl (fun (s : State) t =>
    if mask.testBit t && s.bit F.SCAN_STATUS_STOPPED t then
      ((s.wrBit F.SCAN_STATUS_STOPPED t false).setTask t { s.task t with skips := 0 }).clearCond (.scanWatchdog t)
    else s) s

/-- A command bit of a write: the command where it is set. -/
def cmdBit (data k : Nat) (f : State → State) (s : State) : State := if data.testBit k then f s else s

/-- Writes of the Crown, fabric and time pages that have a meaning beside their fields. -/
def State.writeCore (s : State) (who : Initiator) (a data : Nat) : State :=
  if a = A.CROWN_STAGE_CTRL then s.stageCtrl who data
  else if a = A.CROWN_MODE_REQ then s.modeReqWrite who (data % 16) (data.testBit 4) {}
  else if a = A.RESET_CMD then s.resetCmd data
  else if a = A.WORLD_COMMIT then s.commitWrite89 who data
  else if a = A.CLOCK_XSTAT then s.clearXstat
  else if a = A.QREAD_RSEL then s.selectRing who.id (data % 32)
  else if a = A.QREAD_RPOP then cmdBit data 0 (fun s => s.popEntry who.id) s
  else if a = A.TIME_CMD_SNAP then cmdBit data 0 State.snap s
  else if a = A.TIME_RATE 2 then s.writeRate2 data
  else if a = A.EVREC_CMD then s.evrecCmd who data
  else if a = A.EVREC_RSEQ_HI then s.almSelect who.id data
  else if a = A.UPDATE_CMD then s.updateCmd who data 0
  else if a = A.UPDATE_KEYSEL then s.keySel data
  else if a = A.TESTMUX_GTEST then s.gtestWrite data
  else if a = A.TESTMUX_JTAG then s.jtagWrite data
  else if isSchedule a then s.trigSchedule a data
  else match groupIdx a (A.TIME_CMD 0) 0x20 4, groupIdx a (A.TRIG_TCTL 0) 0x20 8, groupIdx a (A.TRIG_CSTAT 0) 0x20 8, groupIdx a (A.CAN_CMD 0) 0x1000 4 with
    | some n, _, _, _ => s.timeCmd who n data
    | _, some k, _, _ => s.trigCtl k data
    | _, _, some k, _ => cmdBit data 8 (fun s => s.popStamp k) (s.writeFields a data)
    | _, _, _, some c => s.canCmd c data
    | _, _, _, _ => s.writeFields a data

/-- Writes of the string, converter and service pages that have a meaning beside their fields; the bits of a command register act in bit order. -/
def State.writeWork (s : State) (who : Initiator) (a data : Nat) : State :=
  if a = A.RING_CMD then cmdBit data 2 State.ringClear (cmdBit data 1 State.measure (cmdBit data 0 State.cmdEnumerate s))
  else if a = A.HARVEST_CMD then s.oneshot (data % 8) s.meas
  else if a = A.CELLV_SNAP then s.freezeCells (data.testBit 0)
  else if a = A.BAL_CMD then cmdBit data 2 State.clearNfault (cmdBit data 1 State.balStop (cmdBit data 0 (fun s => s.planNow who) s))
  else if a = A.CONTACT_CMD then cmdBit data 2 State.clearWeld (cmdBit data 1 (fun s => s.k6Switch false) (cmdBit data 0 (fun s => s.k6Switch true) s))
  else if a = A.IMPED_CMD then cmdBit data 1 (fun s => s.abortRun 1) (cmdBit data 0 State.impedStart s)
  else if a = A.ESTIM_CMD then cmdBit data 0 State.initCells s
  else if a = A.LEARN_CMD then cmdBit data 1 (fun s => s.resetCell who) (cmdBit data 0 (fun s => s.journalBoth 6) s)
  else if a = A.THERM_CMD then s.clearCool (data % 64)
  else if a = A.TELEM_CMD then cmdBit data 8 (fun s => s.cntReset who) (if data % 64 = 0 then s else s.clearPeaks (data % 64))
  else if a = A.DISP_CMD then cmdBit data 0 (fun s => s.dispTake {}) s
  else if a = A.SAFE_CMD then cmdBit data 1 State.cmdTrip (cmdBit data 0 State.cmdSrd s)
  else if a = A.SNET_DEGRADE then s.writeDegrade (data % 4096)
  else if a = A.PAIR_CMD then s.pairCmd data
  else if a = A.SCAN_CMD then s.restartTasks data
  else if a = A.SCAN_PROG_DATA then s.progWord who data
  else match groupIdx a (A.PHASE_CMD 0) 0x20 16 with
    | some n => cmdBit data 0 (fun s => s.phaseClear n) s
    | none => s.writeFields a data

/-- The effect of a write that nothing bars: staged offsets (R70), the page header (Tables 3-2 to 3-5), the pages' own registers. -/
def State.writeEffect (s : State) (who : Initiator) (a data : Nat) : State :=
  if offOf a ≥ 0x800 then s.stageWord who (a - 0x800) data
  else if offOf a = 0x028 then s.retryCntWrite (pageOf a) data
  else if offOf a = 0x02C then s.lastingWrite (pageOf a) data
  else if offOf a = 0x020 && pageOf a ≠ 0 then (if data.testBit 1 then s.discardPage (pageOf a) else s)
  else if a ≠ bankAddr who a && a ≠ A.QREAD_RSEL && a ≠ A.QREAD_RPOP && a ≠ A.EVREC_CMD && a ≠ A.EVREC_RSEQ_HI then
    match regAt a with
    | some r => s.setWord (bankAddr who a) (regWrite r.fields (s.word (bankAddr who a)) data)
    | none => s
  else if [0x00, 0x01, 0x03, 0x04, 0x12, 0x48, 0x4A, 0x50, 0x51, 0x52, 0x53, 0x61, 0x62, 0x70].contains (pageOf a) then s.writeCore who a data
  else s.writeWork who a data

/-- A write of a register by an initiator (R14): refused with its result code, or made. -/
def State.writeReg (s : State) (who : Initiator) (a data : Nat) : State :=
  let c := s.writeCode who a data
  if c ≠ 0 then s.refuseAccess who a true c else (s.result who a 0).crossing who a data fun s => s.writeEffect who a data

/-- REGISTER_WRITE (R14): a write reaches a register and takes effect by its access code and its command bits. -/
def execRegisterWrite (who : Initiator) (addr : BitVec 20) (data : BitVec 32) (s : State) : Host.Outcome State Fault Refusal :=
  .next (s.writeReg who addr.toNat data.toNat)

/-! ## Reads -/

/-- The pages that assert HOST_IRQ_N (R106): an event set, enabled and routed to IRQ, of the QREAD page in the host port session's bank (R416); a page that is not open only with a secure host port session. -/
def State.irqPage (s : State) (page : Nat) : Bool :=
  let i := if page = 0x12 then 1 else 0
  s.on (pageFld page 0x018 0 1) && (s.rd ((evtStatus page).bank i) &&& s.rd ((pageFld page 0x014 0 32).bank i)) != 0 && (s.attr page == 0 || s.on F.HOST_SESS_SECURE)

/-- The pages that assert HOST_IRQ_N among those of Table 3-1. -/
def State.irqPages (s : State) : List Nat := RegTable.assignedPages.filter s.irqPage

/-- HOST_IRQ_N is asserted (R106). -/
def State.hostIrq (s : State) : Bool := s.on F.HOST_CFG_IRQ_EN && !s.irqPages.isEmpty

/-- One bit of a station's quality in the process image, of an enabled station (R389). -/
def State.stationGood (s : State) (n : Nat) : Bool := s.rdStation n (F.STATION_SCFG_EN n) == 1 && s.on (F.STATION_SSTAT_QUAL n)

/-- A mask of the numbers below a bound that satisfy a property. -/
def maskOf (bound : Nat) (p : Nat → Bool) : Nat := (List.range bound).foldl (fun m k => if p k then m + 2 ^ k else m) 0

/-- Word k of station n's inputs as last latched. -/
def State.stationIn (s : State) (n k : Nat) : Nat := leAt (mget ({} : Station) s.scan.stations n).latched (4 * k) 4

/-- A flag at a bit. -/
def flagAt (b : Bool) (k : Nat) : Nat := if b then 2 ^ k else 0

/-- Fields of a register that a read computes: the bits below are replaced in the word held. -/
def overlay (w : Word) (lo width n : Nat) : Word := (⟨0, lo, width⟩ : Fld).put w n

/-- WORLD_ATTR and STAGE_CTRL of a page (Tables 3-3 and 3-5). -/
def State.readHeader (s : State) (a : Nat) (w : Word) : Word :=
  let p := pageOf a
  if offOf a = 0x01C then
    let f : Fld := ⟨0x01040 + 4 * (p / 16), 2 * (p % 16), 2⟩
    overlay (overlay (overlay w 0 2 (s.attr p)) 3 1 (s.rd F.WORLD_COMMIT_STAT_LOCKED)) 4 1 (if f.get (s.stagedWord f.addr) = s.attr p then 0 else 1)
  else if offOf a = 0x020 && p ≠ 0 then overlay (overlay w 0 1 (flagAt (s.dirty p) 0)) 2 1 (flagAt (decide (s.stage ≥ 5)) 0)
  else w

/-- The estimator's, learning's and impedance views of a cell (R290, R292, R264). -/
def State.readView (s : State) (a : Nat) (w : Word) : Word :=
  let c := s.rd F.ESTIM_VIEW_CELL
  let x := s.cell c
  let l := s.rd F.LEARN_VIEW_CELL
  let z := mget ({} : Tone) s.imp.latest (8 * s.rd F.IMPED_VIEW_CELL + s.rd F.IMPED_VIEW_TONE)
  if a = A.ESTIM_VSOC then Word.ofNat (encodeSigned 32 x.soc)
  else if a = A.ESTIM_VUNC then
    Word.ofNat ((if x.init then satCount 16 ((x.u + 5) / 10) else 0xFFFF) + 65536 * encodeSigned 16 (x.temp.getD (-32768)))
  else if a = A.ESTIM_VFLAGS then
    Word.ofNat (flagAt x.valid 0 + flagAt x.init 1 + flagAt x.tempImp 2 + flagAt (x.init && x.temp.isNone) 3 + flagAt x.noAnchor 4 + flagAt (x.branch == 1) 5)
  else if a = A.ESTIM_VAGE then Word.ofNat (if x.init then satUnsigned 32 (((s.mono : Int) - x.tA) / 1000000000) else 0)
  else if a = A.LEARN_VRF then Word.ofNat ((s.cell l).rf % 65536 + 65536 * (s.cellHealth l % 65536))
  else if a = A.LEARN_VCNT then Word.ofNat (satCount 16 (s.cell l).capUpd + 65536 * satCount 16 (s.cell l).rfUpd)
  else if a = A.IMPED_VZRE then Word.ofNat (encodeSigned 32 z.re)
  else if a = A.IMPED_VZIM then Word.ofNat (encodeSigned 32 z.im)
  else if a = A.IMPED_VZU then Word.ofNat (z.u % 65536 + 65536 * (z.flags % 256) + 16777216 * (z.nwin % 256))
  else w

/-- The readers' windows: a stream ring's entry at the cursor (R401), an Almanac record (R470). -/
def State.readWindow (s : State) (who : Initiator) (a : Nat) (w : Word) : Word :=
  if a = A.QREAD_RESEQ then match s.atCursor who.id with
    | some e => Word.ofNat e.eseq
    | none => 0
  else if a = A.QREAD_RSTAT then match s.atCursor who.id with
    | some e => overlay (overlay w 0 16 e.bytes.length) 16 1 1
    | none => w
  else match groupIdx a (A.QREAD_WIN 0) 4 256, groupIdx a (A.EVREC_WIN 0) 4 263 with
    | some k, _ => match s.atCursor who.id with
      | some e => entryWord e.bytes (s.rd (F.QREAD_ROFS_OFS.bank who.id) + k)
      | none => 0
    | _, some k => entryWord (s.almWindow who) k
    | _, _ => if a = A.EVREC_RSTAT then overlay w 19 1 (flagAt (s.almMasked who) 0) else w

/-- The process image as the host reads it (Table 18-7). -/
def State.readProcess (s : State) (a : Nat) (w : Word) : Word :=
  let n := s.rd F.IMAGE_SVIEW_STATION
  if a = A.IMAGE_STQ then Word.ofNat (maskOf 32 s.stationGood)
  else if a = A.IMAGE_UNDEL then Word.ofNat (maskOf 32 fun n => s.on (F.STATION_SSTAT_UNDELIVERED n))
  else match groupIdx a (A.IMAGE_SIN 0) 4 8, groupIdx a (A.IMAGE_SOUT 0) 4 8 with
    | some k, _ => Word.ofNat (s.stationIn n k)
    | _, some k => mget 0 s.scan.out (8 + 8 * n + k)
    | _, _ => w

/-- CELLV, and the SoC of a cell, beyond the string's cells and nodes reads 0xFFFF (R151, Table 12-2). -/
def State.readCells (s : State) (a : Nat) (w : Word) : Word :=
  let shade (k bound : Nat) : Word :=
    let w := if 2 * k < bound then w else overlay w 0 16 0xFFFF
    if 2 * k + 1 < bound then w else overlay w 16 16 0xFFFF
  match groupIdx a (A.CELLV_V 0) 4 256, groupIdx a (A.CELLV_STACK 0) 4 16, groupIdx a (A.ESTIM_SOC 0) 4 256 with
  | some k, _, _ => shade k s.cellCount
  | _, some k, _ => shade k s.nodes.length
  | _, _, some k => shade k s.cellCount
  | _, _, _ => w

/-- Single registers whose value follows from the state of their unit. EVT_SUM names the pages with an event set, enabled and routed to IRQ also while HOST.CFG.IRQ_EN is 0, when the output is released (R106, Table 4-6: DESIGN CHOICE, notes/assumptions/80.md). -/
def State.readUnit (s : State) (a : Nat) (w : Word) : Word :=
  if a = A.CLOCK_STATUS then overlay w 0 14 s.clockRun
  else if a = A.RING_STATUS then overlay w 3 1 s.downPort
  else if a = A.BAL_STATUS then overlay w 0 1 (flagAt s.planAllowed 0)
  else if pageOf a = 0x1A then s.readCells a w
  else if a = A.SNET_DEGLEFT then overlay w 0 12 (if s.on F.SNET_STATUS_DEGRADED then (s.prot.degradeEnd - s.mono + 999999999) / 1000000000 else 0)
  else if a = A.PAIR_MIRROR then overlay w 0 16 (if s.pair.loop.isSome then satCount 16 ((s.mono - s.pair.loopAt) / 1000) else 0xFFFF)
  else if a = A.EVREC_RESERVE then overlay w 0 16 (satCount 16 s.reserveLeft)
  else if a = A.EVREC_STATUS then overlay w 3 1 (flagAt s.almPaused 0)
  else if a = A.QUEUE_QSTAT 91 then (F.QUEUE_QSTAT_FILL 91).put w (satCount 16 s.q91.length)
  else if a = A.SCAN_STATUS then overlay w 0 4 (maskOf 4 s.taskRuns)
  else if a = A.SCAN_PROG_LIVE then Word.ofNat (leAt s.nvm.program (s.rd F.SCAN_PROG_ADDR_ADDR / 4 * 4) 4)
  else if a = A.TIME_CMD 3 then (F.TIME_CMD_SYNCED 3).put w 1
  else match groupIdx a (A.HOST_EVT_SUM 0) 4 8, groupIdx a (A.TELEM_QIN_LO + 4) 8 4, groupIdx a (A.CAN_STATUS 0) 0x1000 4, groupIdx a (A.CAN_CNT 0) 0x1000 4 with
    | some k, _, _, _ => Word.ofNat (maskOf 32 fun j => s.irqPages.contains (32 * k + j))
    | _, some k, _, _ => Word.ofNat (mget 0 s.tele.latched k)
    | _, _, some c, _ => overlay (overlay w 2 1 (flagAt (s.canRestricted c) 0)) 3 1 (flagAt (s.canSleeps c) 0)
    | _, _, _, some _ => Word.ofNat (s.can.half / 25 % 2 ^ 32)
    | _, _, _, _ => w

/-- What a register reads as (Table 0-4): its fields but for WO ones, staged copies at their offset, the values its unit computes. -/
def State.readValue (s : State) (who : Initiator) (a : Nat) : Word :=
  if offOf a ≥ 0x800 then
    match regAt (a - 0x800) with
    | some r => s.stagedWord (bankAddr who (a - 0x800)) &&& Word.ofNat (fieldMask (fun f => f.acc == .rws) r.fields)
    | none => 0
  else match regAt a with
    | none => 0
    | some r =>
      let w := s.word (bankAddr who a)
      let w := s.readHeader a w
      let w := match pageOf a with
        | 0x28 => s.readCells a (s.readView a w)
        | 0x2A | 0x26 => s.readView a w
        | 0x12 | 0x61 => s.readUnit a (s.readWindow who a w)
        | 0x41 => s.readProcess a w
        | _ => s.readUnit a w
      w &&& Word.ofNat (readMask r.fields)

/-- What a read does beside returning its value: NSn latches the time base (R429), a counter's LO register its HI register (R310), PROG_LIVE moves ADDR on (Table 18-6). -/
def State.readEffect (s : State) (a : Nat) : State :=
  match groupIdx a (A.TIME_NS 0) 0x20 4, groupIdx a A.TELEM_QIN_LO 8 4 with
  | some n, _ => s.nsRead n
  | _, some k => s.readCounterLo k
  | _, _ => if a = A.SCAN_PROG_LIVE then s.wr F.SCAN_PROG_ADDR_ADDR (s.rd F.SCAN_PROG_ADDR_ADDR / 4 * 4 + 4) else s

/-- The result that bars a read. -/
def State.readCode (s : State) (who : Initiator) (a : Nat) : Nat :=
  let c := s.barred who a false
  if c ≠ 0 then c else if offOf a ≥ 0x800 && who = .scanProgram then 0x05 else 0

/-- A read of a register by an initiator: its value in readData, 0 where it is refused (R65, R90). -/
def State.readReg (s : State) (who : Initiator) (a : Nat) : State :=
  let c := s.readCode who a
  if c ≠ 0 then { s.refuseAccess who a false c with readData := [0] }
  else
    let s := s.result who a 0
    let t := s.readEffect a
    { t with readData := [if a = A.SCAN_PROG_LIVE then s.readValue who a else t.readValue who a] }

end Sys2Proof.Machine
end

