-- ==== Sys2Proof/Machine/HostFam.lean ====
section
/-!
DEFINITION. The host port and the Ralkiul register protocol (chapter 4) as operations, and the commands of that chapter.
-/
namespace Sys2Proof.Machine
open Sys2Proof

/-! ## Transactions over consecutive registers -/

/-- Words read from consecutive registers (R95): 0 and the bad-address code beyond the page, 0 where the access is refused; the first result other than OK. -/
def State.readWords (who : Initiator) (start : Nat) : Nat → Nat → State → State × List Word × Nat
  | 0, _, s => (s, [], 0)
  | n + 1, k, s =>
    let a := start + 4 * k
    let (s, w, c) := if offOf start + 4 * k ≥ 4096 then (s, (0 : Word), 0x05) else
      let t := s.readReg who a
      (t, t.readData.headD 0, t.accErr)
    let (s, l, c') := State.readWords who start n (k + 1) s
    (s, w :: l, if c ≠ 0 then c else c')

/-- The result that bars a write of words to consecutive registers (R96): judged for all before any is written, with the address of the word that bars it. -/
def State.writesCode (s : State) (who : Initiator) (start : Nat) (data : List Nat) : Option (Nat × Nat) :=
  data.zipIdx.findSome? fun (d, k) =>
    let a := start + 4 * k
    let c := if offOf start + 4 * k ≥ 4096 then 0x05 else s.writeCode who a d
    if c = 0 then none else some (a, c)

/-- Words written to consecutive registers in order; the first result other than OK that a register itself gives. -/
def State.writeWords (who : Initiator) (start : Nat) : List Nat → Nat → State → State × Nat
  | [], _, s => (s, 0)
  | d :: t, k, s =>
    let s := (s.result who (start + 4 * k) 0).crossing who (start + 4 * k) d fun s => s.writeEffect who (start + 4 * k) d
    let c := s.accErr
    let (s, c') := State.writeWords who start t (k + 1) s
    (s, if c ≠ 0 then c else c')

/-- A write of words to consecutive registers: every word or none (R96). -/
def State.writeAll (s : State) (who : Initiator) (start : Nat) (data : List Nat) : State × Nat :=
  match s.writesCode who start data with
  | some (a, c) => (s.refuseAccess who a true c, c)
  | none => State.writeWords who start data 0 s

/-- Words of a list of bytes, most significant byte first (R93, R101). -/
def beWords : Nat → List Byte → List Nat
  | 0, _ => []
  | n + 1, l => beAt l 0 4 :: beWords n (l.drop 4)

/-! ## Host port -/

/-- PEND (Table 4-2): a write of the host port has not yet been taken up by its register's clock domain; towards a domain that runs it is taken up with its transaction. -/
def State.hostPend (s : State) : Bool := s.host.held.any fun h => h.who == .host

/-- The status word (Table 4-2). -/
def State.statusWord (s : State) : Nat := flagAt (s.on F.HOST_SESS_SECURE) 15 + flagAt s.hostPend 14 + flagAt s.hostIrq 13 + s.host.err % 256

/-- A transaction begins: the status word is shifted out (R94). -/
def State.hostBegin (s : State) : State := { s with host := { s.host with status := s.statusWord }, readData := [] }

/-- The result of a transaction with the address it names (Table 4-6). -/
def State.hostEnd (s : State) (addr code : Nat) : State := s.result .host (addr % 2 ^ 20) code

/-- The result of a malformed or misaligned address (R94), 0 for a sound one. -/
def addrCode (addr : Nat) : Nat := if addr ≥ 2 ^ 20 then 0x08 else if addr % 4 ≠ 0 then 0x05 else 0

/-- HOST_READ (R94, R95): n words read while HOST_CS_N stays low. -/
def execHostRead (addr : BitVec 24) (n : Nat) (s : State) : Host.Outcome State Fault Refusal :=
  let s := s.hostBegin
  let a := addr.toNat
  if addrCode a ≠ 0 then .next (s.hostEnd a (addrCode a))
  else if n = 0 then .next (s.hostEnd a 0x08)
  else
    let (s, l, c) := State.readWords .host a n 0 s
    .next { s.hostEnd a c with readData := l }

/-- The bytes that a tag of the secure host port session covers (R98). -/
def State.hostTagged (s : State) (op addr : Nat) (rest : List Byte) : List Byte := be 4 (s.rd F.HOST_SEQ_SEQ) ++ [byte op] ++ be 3 addr ++ rest

/-- A tag verifies under the session key. -/
def State.hostTagOk (s : State) (op addr : Nat) (rest t : List Byte) : Bool := t == tag 16 s.host.key (s.hostTagged op addr rest)

/-- A failed proof or tag (R99). -/
def State.hostAuthFail (s : State) (addr : Nat) : State := (s.hostEnd addr 0x06).authFailed 0x01

/-- A WRITE with its address and the bytes after it, as received up to the rising edge of HOST_CS_N (R96 to R98). A WRITE whose tag verifies advances SEQ, also where it is then refused; R98 does not say whether such a transaction is accepted (DESIGN CHOICE, notes/assumptions/21.md). -/
def State.hostWrite (s : State) (a : Nat) (bytes : List Byte) : State :=
  let n := leAt bytes 0 1
  let secure := s.on F.HOST_SESS_SECURE
  if addrCode a ≠ 0 then s.hostEnd a (addrCode a)
  else if n = 0 ∨ n > 64 ∨ bytes.length ≠ 1 + 4 * n + (if secure then 16 else 0) then s.hostEnd a 0x08
  else if secure && !s.hostTagOk 0x02 a (bytes.take (1 + 4 * n)) (bytes.drop (1 + 4 * n)) then s.hostAuthFail a
  else
    let s := if secure then s.wr F.HOST_SEQ_SEQ (s.rd F.HOST_SEQ_SEQ + 1) else s
    let (s, c) := s.writeAll .host a (beWords n (bytes.drop 1))
    s.hostEnd a c

/-- HOST_WRITE (R94, R96 to R98). The command also carries the transactions that no row of the table names: another opcode, or fewer than four bytes; they have no effect but ERR 0x08. -/
def execHostWrite (head : TxHead) (bytes : List Byte) (s : State) : Host.Outcome State Fault Refusal :=
  let s := s.hostBegin
  match head with
  | .cut _ => .next (s.hostEnd 0 0x08)
  | .whole op addr => .next (if op ≠ 0x02 then s.hostEnd addr.toNat 0x08 else s.hostWrite addr.toNat bytes)

/-- A fresh nonce (R98, R102). -/
def State.freshNonce (s : State) : List Byte × State :=
  ((List.range 16).map fun k => byte (Config.nonceByte s.free k), { s with free := s.free + 1 })

/-- HOST_NONCE (R98): the module nonce returned, kept for one OPEN; n bytes are clocked out, and a transaction that ends before the sixteenth has no effect (R94). -/
def execHostNonce (x : NonceRead) (s : State) : Host.Outcome State Fault Refusal :=
  let s := s.hostBegin
  if x.addr.toNat ≠ 0 then .next (s.hostEnd x.addr.toNat (if addrCode x.addr.toNat = 0 then 0x08 else addrCode x.addr.toNat))
  else if x.n < 16 then .next (s.hostEnd 0 0x08)
  else
    let (b, s) := s.freshNonce
    .next { s.hostEnd 0 0 with host := { (s.hostEnd 0 0).host with nonce := some b, nonceAt := s.mono }, readData := (beWords 4 b).map Word.ofNat }

/-- HOST_OPEN (R98): host nonce and proof; the module nonce serves one OPEN, for at most 10 s. Any address that is a multiple of 4 is taken, since Table 4-3 fixes the address for NONCE only (DESIGN CHOICE, notes/assumptions/21.md). -/
def execHostOpen (addr : BitVec 24) (bytes : List Byte) (s : State) : Host.Outcome State Fault Refusal :=
  let s := s.hostBegin
  let a := addr.toNat
  if addrCode a ≠ 0 then .next (s.hostEnd a (addrCode a))
  else if bytes.length ≠ 32 then .next (s.hostEnd a 0x08)
  else
    let hn := bytes.take 16
    let old := s.host.nonce
    let fresh := decide (s.mono ≤ s.host.nonceAt + 10000000000)
    let s := { s with host := { s.host with nonce := none } }
    match old with
    | none => .next (s.hostAuthFail a)
    | some mn =>
      if fresh && s.tagOk 1 16 (ascii "XSWH" ++ mn ++ hn) (bytes.drop 16) then
        let s := { s with host := { s.host with key := hmac (s.key 1) (hn ++ mn) } }
        .next (((s.wrB F.HOST_SESS_SECURE true).wr F.HOST_SEQ_SEQ 1).hostEnd a 0)
      else .next (s.hostAuthFail a)

/-- The secure host port session ends (R99). -/
def State.hostSessionEnd (s : State) : State := { (s.wrB F.HOST_SESS_SECURE false).wr F.HOST_SEQ_SEQ 0 with host := { s.host with key := [] } }

/-- HOST_CLOSE (R99): a tagged CLOSE. -/
def execHostClose (addr : BitVec 24) (bytes : List Byte) (s : State) : Host.Outcome State Fault Refusal :=
  let s := s.hostBegin
  let a := addr.toNat
  if addrCode a ≠ 0 then .next (s.hostEnd a (addrCode a))
  else if bytes.length ≠ 16 then .next (s.hostEnd a 0x08)
  else if !s.on F.HOST_SESS_SECURE then .next (s.hostEnd a 0x07)
  else if !s.hostTagOk 0x32 a [] bytes then .next (s.hostAuthFail a)
  else .next (s.hostSessionEnd.hostEnd a 0)

/-- HOST_SESSION_TIMEOUT (R99): 60 s without a tagged transaction. -/
def execHostSessionTimeout (s : State) : Host.Outcome State Fault Refusal := .next (if s.on F.HOST_SESS_SECURE then s.hostSessionEnd else s)

/-! ## Ethernet ports -/

/-- LINK_UP (R100): a link comes up with its speed (0 10, 1 100, 2 1,000 Mbit/s) and duplex, or goes down; 1000BASE-T is full duplex only. -/
def execLinkUp (p : Fin 2) (up : Bool) (speed : Fin 3) (full : Bool) (s : State) : Host.Outcome State Fault Refusal :=
  if s.portsLive then
    .next (((s.wrB (F.ETH_LINK_UP p.val) up).wr (F.ETH_LINK_SPEED p.val) (if up then speed.val else 0)).wrB (F.ETH_LINK_FULL p.val) (up && (full || speed.val = 2)))
  else .next s

/-- ARP_REQUEST (R100): a request for the port's own address is answered to the asking address. -/
def execArpRequest (p : Fin 2) (ip target : BitVec 32) (s : State) : Host.Outcome State Fault Refusal :=
  .next (if s.ipUp p.val && s.rd (F.ETH_IPV4_ADDR p.val) == target.toNat then s.send (.arp p.val ip.toNat) else s)

/-- ICMP_ECHO (R100): an echo request to the port is answered with its bytes. -/
def execIcmpEcho (p : Fin 2) (ip : BitVec 32) (bytes : List Byte) (s : State) : Host.Outcome State Fault Refusal :=
  .next (if s.ipUp p.val then s.send (.icmp p.val ip.toNat bytes) else s)

/-! ## Ralkiul -/

/-- One Ralkiul session. -/
def State.rkSession (s : State) (i : Nat) : RkSession := mget {} s.rk i

/-- A state with one Ralkiul session replaced. -/
def State.setRk (s : State) (i : Nat) (x : RkSession) : State := { s with rk := mset {} s.rk i x }

/-- RK_STAT.OPEN of both ports: sessions open across both. -/
def State.showRk (s : State) : State :=
  let n := ((List.range 8).filter fun i => (s.rkSession i).openState == 2).length
  (s.wr (F.ETH_RK_STAT_OPEN 0) n).wr (F.ETH_RK_STAT_OPEN 1) n

/-- A message of Table 4-4 before its tag. -/
def rkMessage (typ session flags seq req : Nat) (payload : List Byte) : List Byte :=
  be 2 0x524B ++ [1, byte typ, byte session, byte flags] ++ be 2 payload.length ++ be 4 seq ++ be 4 req ++ payload

/-- A message sent in session i, tagged with its key (zero before it has one), with the session's next SEQ. It leaves by the Ethernet port of the PROOF, also where the request came by the other port; R103 does not name the port of a response (DESIGN CHOICE, notes/assumptions/78.md). -/
def State.rkSend (s : State) (i typ req : Nat) (payload : List Byte) : State :=
  let x := s.rkSession i
  let m := rkMessage typ (0x10 + i) 0 ((x.txSeq + 1) % 2 ^ 32) req payload
  let t := if x.key.isEmpty then List.replicate 16 (0 : Byte) else tag 16 x.key m
  (s.setRk i { x with txSeq := (x.txSeq + 1) % 2 ^ 32 }).send (.udp x.eth x.address x.udpPort (m ++ t))

/-- A discarded message (R101). -/
def State.rkDrop (s : State) (p : Nat) : State := s.bump (F.ETH_RK_STAT_DROPPED p)

/-- The payload of a message. -/
def rkPayload (b : List Byte) : List Byte := (b.drop 16).take (b.length - 32)

/-- The tag of a message. -/
def rkTag (b : List Byte) : List Byte := b.drop (b.length - 16)

/-- The bytes that the tag covers. -/
def rkBody (b : List Byte) : List Byte := b.take (b.length - 16)

/-- MAGIC, VERSION and LENGTH of a datagram (R101). -/
def rkSound (b : List Byte) : Bool :=
  b.length ≥ 32 && beAt b 0 2 == 0x524B && beAt b 2 1 == 1 && beAt b 6 2 == b.length - 32 && decide (beAt b 6 2 ≤ 1030)

/-- SESSION and TAG of a message within a session are good (R101): an open session, the tag of its key. -/
def State.rkKnown (s : State) (b : List Byte) : Bool :=
  let x := s.rkSession (beAt b 4 1 - 0x10)
  decide (beAt b 4 1 ≥ 0x10) && decide (beAt b 4 1 < 0x18) && x.openState == 2 && rkTag b == tag 16 x.key (rkBody b)

/-- A Ralkiul message received on port p for UDP port dst: nothing on a port that does not run Ralkiul there (R100), discarded and counted where it is not sound (R101), else handled. A message of a TYPE that is not the row's has no effect beside that count. -/
def State.rkReceive (s : State) (p typ dst : Nat) (b : List Byte) (k : State → State) : State :=
  if !(s.ipUp p && s.on (F.ETH_RK_CFG_RK_EN p) && s.rd (F.ETH_RK_CFG_UDP_PORT p) == dst) then s
  else if !rkSound b then s.rkDrop p
  else if beAt b 3 1 ≠ typ then (if beAt b 3 1 = 0x01 || beAt b 3 1 = 0x03 || s.rkKnown b then s else s.rkDrop p)
  else k s

/-- RALKIUL_OPEN (R102): answered with CHALLENGE, or with ERROR and the busy code where no session is free. -/
def execRalkiulOpen (p : Fin 2) (ip : BitVec 32) (udp : UdpPorts) (b : List Byte) (s : State) : Host.Outcome State Fault Refusal :=
  .next (s.rkReceive p.val 0x01 udp.dst.toNat b fun s =>
    let error (code : Nat) (s : State) : State :=
      s.send (.udp p.val ip.toNat udp.src.toNat (rkMessage 0x3F 0 0 0 (beAt b 12 4) [byte code, 0, 0, 0] ++ List.replicate 16 (0 : Byte)))
    if beAt b 4 1 ≠ 0 || (rkTag b).any (· != 0) then s.rkDrop p.val
    else if (rkPayload b).length ≠ 16 then error 0x08 s
    else match (List.range 8).find? fun i => (s.rkSession i).openState == 0 with
      | none => error 0x09 s
      | some i =>
        let (mn, s) := s.freshNonce
        (s.setRk i { openState := 1, clientNonce := rkPayload b, moduleNonce := mn, address := ip.toNat, udpPort := udp.src.toNat, eth := p.val }).rkSend i 0x02 (beAt b 12 4) mn)

/-- RALKIUL_PROOF (R102): the world whose key verifies it opens the session. Of "both nonces" the client's comes first (DESIGN CHOICE, notes/assumptions/78.md). -/
def execRalkiulProof (p : Fin 2) (ip : BitVec 32) (udp : UdpPorts) (b : List Byte) (s : State) : Host.Outcome State Fault Refusal :=
  .next (s.rkReceive p.val 0x03 udp.dst.toNat b fun s =>
    let i := beAt b 4 1 - 0x10
    let x := s.rkSession i
    let world := beAt b 16 1
    if beAt b 4 1 < 0x10 || i ≥ 8 || x.openState ≠ 1 then s.rkDrop p.val
    else if world > 1 || (rkPayload b).drop 1 ≠ x.clientNonce ++ x.moduleNonce || !s.tagOk world 16 (rkBody b) (rkTag b) then s.rkDrop p.val
    else
      let y : RkSession := { openState := 2, secure := world == 1, key := hmac (s.key world) (x.clientNonce ++ x.moduleNonce), lastSeq := beAt b 8 4, txSeq := x.txSeq,
                             address := ip.toNat, udpPort := udp.src.toNat, eth := p.val, subscribed := (beAt b 5 1).testBit 0 }
      ((s.setRk i y).rkSend i 0x04 (beAt b 12 4) []).showRk)

/-- A message within a session (R101, R103): discarded and counted with an unknown session or a failed tag, not accepted from another source or with a SEQ that is not above the last, else its SEQ is taken and it is handled. -/
def State.rkInSession (s : State) (p typ ip port dst : Nat) (b : List Byte) (k : Fin 8 → State → State) : State :=
  s.rkReceive p typ dst b fun s =>
    let i := beAt b 4 1 - 0x10
    let x := s.rkSession i
    if h : i < 8 then
      if !s.rkKnown b then s.rkDrop p
      else if x.address ≠ ip || x.udpPort ≠ port || beAt b 8 4 ≤ x.lastSeq then s
      else k ⟨i, h⟩ (s.setRk i { x with lastSeq := beAt b 8 4 })
    else s.rkDrop p

/-- A response made, kept with its REQ_ID among the last four (R103), and sent. -/
def State.rkRespond (s : State) (i typ req : Nat) (payload : List Byte) : State :=
  let x := s.rkSession i
  (s.setRk i { x with stored := ((req, byte typ :: payload) :: x.stored).take 4 }).rkSend i typ req payload

/-- A request handled once: one whose REQ_ID matches a kept response is answered with it again (R103). -/
def State.rkOnce (s : State) (i : Fin 8) (req : Nat) (k : State → State) : State :=
  match (s.rkSession i.val).stored.find? (·.1 == req) with
  | some (_, typ :: payload) => s.rkSend i.val typ.toNat req payload
  | _ => if s.host.held.any (fun h => h.answer.any fun x => x.1 == i.val && x.2.1 == req) then s else k s

/-- The response of a WRITE whose last word is held follows its take-up (R104). -/
def State.answerLater (s : State) (i req n : Nat) : State :=
  { s with host := { s.host with held := s.host.held.dropLast ++ (s.host.held.getLast?.map fun h => { h with answer := some (i, req, n) }).toList } }

/-- The payload of a response (Table 4-4). -/
def rkResult (code n : Nat) (words : List Word) : List Byte := [byte code, 0] ++ be 2 n ++ words.flatMap fun w => be 4 w.toNat

/-- RALKIUL_READ (R103, R104). -/
def execRalkiulRead (p : Fin 2) (ip : BitVec 32) (udp : UdpPorts) (b : List Byte) (s : State) : Host.Outcome State Fault Refusal :=
  .next (s.rkInSession p.val 0x10 ip.toNat udp.src.toNat udp.dst.toNat b fun i s =>
    let a := beAt b 16 4
    let n := beAt b 20 2
    s.rkOnce i (beAt b 12 4) fun s =>
      if (rkPayload b).length ≠ 6 || n = 0 || n > 256 then s.rkRespond i.val 0x11 (beAt b 12 4) (rkResult 0x08 0 [])
      else if a ≥ 2 ^ 20 || a % 4 ≠ 0 then s.rkRespond i.val 0x11 (beAt b 12 4) (rkResult 0x05 0 [])
      else
        let (s, l, c) := State.readWords (.ralkiul i) a n 0 s
        s.rkRespond i.val 0x11 (beAt b 12 4) (rkResult c n l))

/-- RALKIUL_WRITE (R103, R104): every word or none; answered after take-up, unless the session has ended with the reset that the write itself took (R105). -/
def execRalkiulWrite (p : Fin 2) (ip : BitVec 32) (udp : UdpPorts) (b : List Byte) (s : State) : Host.Outcome State Fault Refusal :=
  .next (s.rkInSession p.val 0x12 ip.toNat udp.src.toNat udp.dst.toNat b fun i s =>
    let a := beAt b 16 4
    let n := beAt b 20 2
    s.rkOnce i (beAt b 12 4) fun s =>
      if n = 0 || n > 256 || (rkPayload b).length ≠ 6 + 4 * n then s.rkRespond i.val 0x13 (beAt b 12 4) (rkResult 0x08 0 [])
      else if a ≥ 2 ^ 20 || a % 4 ≠ 0 then s.rkRespond i.val 0x13 (beAt b 12 4) (rkResult 0x05 0 [])
      else
        let waiting := s.host.held.length
        let (s, c) := s.writeAll (.ralkiul i) a (beWords n (b.drop 22))
        if s.host.held.length > waiting then s.answerLater i.val (beAt b 12 4) n
        else if (s.rkSession i.val).openState ≠ 2 then s
        else s.rkRespond i.val 0x13 (beAt b 12 4) (rkResult c (if c = 0 then n else 0) []))

/-- RALKIUL_NOTIFY_ACK (R107): the outstanding NOTIFY is acknowledged. -/
def execRalkiulNotifyAck (p : Fin 2) (ip : BitVec 32) (udp : UdpPorts) (b : List Byte) (s : State) : Host.Outcome State Fault Refusal :=
  .next (s.rkInSession p.val 0x21 ip.toNat udp.src.toNat udp.dst.toNat b fun i s => s.setRk i.val { s.rkSession i.val with outstanding := none, notifyTries := 0 })

/-- RALKIUL_KEEPALIVE (R105): accepted, which refreshes the session's timeout. -/
def execRalkiulKeepalive (p : Fin 2) (ip : BitVec 32) (udp : UdpPorts) (b : List Byte) (s : State) : Host.Outcome State Fault Refusal :=
  .next (s.rkInSession p.val 0x30 ip.toNat udp.src.toNat udp.dst.toNat b fun _ s => s)

/-- A session closes (R105), and with it its staging ownership. -/
def State.rkClose (s : State) (i : Nat) : State := ((s.setRk i {}).showRk).ownerGone (0x10 + i)

/-- RALKIUL_CLOSE (R105). -/
def execRalkiulClose (p : Fin 2) (ip : BitVec 32) (udp : UdpPorts) (b : List Byte) (s : State) : Host.Outcome State Fault Refusal :=
  .next (s.rkInSession p.val 0x31 ip.toNat udp.src.toNat udp.dst.toNat b fun i s => s.rkClose i.val)

/-- RALKIUL_CHALLENGE_LAPSE (R102): 2 s without a valid PROOF. -/
def execRalkiulChallengeLapse (i : Fin 8) (s : State) : Host.Outcome State Fault Refusal :=
  .next (if (s.rkSession i.val).openState = 1 then s.setRk i.val {} else s)

/-- RALKIUL_SESSION_TIMEOUT (R105): TIMEOUT seconds without an accepted message. -/
def execRalkiulSessionTimeout (i : Fin 8) (s : State) : Host.Outcome State Fault Refusal :=
  .next (if (s.rkSession i.val).openState = 2 then s.rkClose i.val else s)

/-! ## Writes that waited for their clock domain -/

/-- The writes held for stopped domains are taken up, once these run, in the order of their arrival, and answered (R424, R104). -/
def State.takeHeld (s : State) : State :=
  if s.on F.CROWN_MODE_DORMANT then s
  else s.host.held.foldl (fun (s : State) h =>
    let s := s.writeEffect h.who h.addr h.data
    match h.answer with
    | some (i, req, n) => if (s.rkSession i).openState = 2 then s.rkRespond i 0x13 req (rkResult 0 n []) else s
    | none => s) { s with host := { s.host with held := [] } }

/-! ## NOTIFY -/

/-- The payload of a NOTIFY: page and EVT_STATUS pairs (R107). -/
def notifyBytes (l : List (Nat × Nat)) : List Byte := l.flatMap fun (p, e) => byte p :: be 4 e

/-- A NOTIFY sent for the events that wait, where none is unacknowledged; after NOTIFY_LOST only a new event sends again (R107). -/
def State.notifySend (s : State) (i : Nat) : State :=
  let x := s.rkSession i
  if x.openState = 2 && x.outstanding.isNone && !x.notifyPages.isEmpty && x.notifyTries = 0 then
    let l := x.notifyPages.map fun p => (p, s.rd ((evtStatus p).bank (if p = 0x12 then 0x10 + i else 0)))
    (s.setRk i { x with outstanding := some l, notifyPages := [] }).rkSend i 0x20 0 (notifyBytes l)
  else s

/-- NOTIFY_RETRY (R107): sent again after 50 ms, at most three times, then NOTIFY_LOST. -/
def execNotifyRetry (i : Fin 8) (s : State) : Host.Outcome State Fault Refusal :=
  let x := s.rkSession i.val
  match x.outstanding with
  | none => .next s
  | some l =>
    if x.notifyTries < 3 then .next ((s.setRk i.val { x with notifyTries := x.notifyTries + 1 }).rkSend i.val 0x20 0 (notifyBytes l))
    else .next ((s.setRk i.val { x with outstanding := none, notifyTries := 4 }).wrB (F.ETH_RK_STAT_NOTIFY_LOST x.eth) true)

end Sys2Proof.Machine
end

