-- ==== Sys2Proof/Machine/PtpFam.lean ====
section
/-!
DEFINITION. The meanings of the PTP commands (chapter 21). A message comes with its Ethernet port, its transport (l2: IEEE 802.3) and the
deviation of its receive stamp in ns; each instance that takes the message acts on it.
-/
namespace Sys2Proof.Machine
open Sys2Proof

/-- An effect on each instance that takes a message. -/
def State.eachTaker (s : State) (port : Nat) (l2 : Bool) (ty len : Nat) (m : List Byte) (f : State → Nat → State) : State :=
  [0, 1].foldl (fun s i => if s.ptpTakes i port l2 ty len m then f s i else s) s

/-- A Sync for an instance (R434): from the selected master, at an interval it accepts; two-step ones wait for the Follow_Up. -/
def State.ptpSync (s : State) (dev : Int) (m : List Byte) (i : Nat) : State :=
  let p := s.ptp i
  let t2 := s.stampAt i dev
  if p.master != some (ptpSrc m) || ptpLog m < -7 || ptpLog m > 1 then s
  else if (beAt m 6 1).testBit 1 then s.setPtp i { p with sync := some (ptpSeq m, t2, ptpCorr m) }
  else s.syncDone i (ptpTime m 34) t2 (ptpCorr m)

/-- SYNC (R434). -/
def execSyncMsg (port : Fin 2) (l2 : Bool) (dev : Int) (m : List Byte) (s : State) : Host.Outcome State Fault Refusal :=
  .next (s.eachTaker port.val l2 0 44 m fun s i => s.ptpSync dev m i)

/-- A Follow_Up for an instance. -/
def State.ptpFollow (s : State) (m : List Byte) (i : Nat) : State :=
  let p := s.ptp i
  match p.sync with
  | some (q, t2, c) => if q == ptpSeq m && p.master == some (ptpSrc m) then s.syncDone i (ptpTime m 34) t2 (c + ptpCorr m) else s
  | none => s

/-- FOLLOW_UP (R434). -/
def execFollowUp (port : Fin 2) (l2 : Bool) (m : List Byte) (s : State) : Host.Outcome State Fault Refusal :=
  .next (s.eachTaker port.val l2 8 44 m fun s i => s.ptpFollow m i)

/-- A Delay_Resp for an instance: to the request that is out, from the selected master. -/
def State.ptpDelayResp (s : State) (port : Nat) (m : List Byte) (i : Nat) : State :=
  let p := s.ptp i
  if p.req == some (ptpSeq m) && beAt m 44 10 == ownPort port && p.master == some (ptpSrc m) then
    (s.setPtp i { p with resp := some (ptpTime m 34, ptpCorr m) }).e2eDone i
  else s

/-- DELAY_RESP (R434). -/
def execDelayResp (port : Fin 2) (l2 : Bool) (m : List Byte) (s : State) : Host.Outcome State Fault Refusal :=
  .next (s.eachTaker port.val l2 9 54 m fun s i => s.ptpDelayResp port.val m i)

/-- A Pdelay_Req for an instance of the power utility profile: answered, the follow-up waits for its transmit timestamp. -/
def State.ptpPdelayReq (s : State) (port : Nat) (l2 : Bool) (dev : Int) (m : List Byte) (i : Nat) : State :=
  let t2 := s.stampAt i dev
  if !l2 then s
  else
    (s.setPtp i { s.ptp i with answer := some (ptpSeq m, ptpSrc m, t2, ptpCorr m) }).send
      (.ptp port true (ptpMessage 3 (s.rd (F.PTP_CFG_DOMAIN i)) 2 0 (ownPort port) (ptpSeq m) (stampBytes t2 ++ be 10 (ptpSrc m))))

/-- PDELAY_REQ (R432). -/
def execPdelayReq (port : Fin 2) (l2 : Bool) (dev : Int) (m : List Byte) (s : State) : Host.Outcome State Fault Refusal :=
  .next (s.eachTaker port.val l2 2 54 m fun s i => s.ptpPdelayReq port.val l2 dev m i)

/-- A Pdelay_Resp for an instance: a two-step one waits for its follow-up. -/
def State.ptpPdelayResp (s : State) (port : Nat) (dev : Int) (m : List Byte) (i : Nat) : State :=
  let p := s.ptp i
  let t4 := s.stampAt i dev
  if p.req != some (ptpSeq m) || beAt m 44 10 != ownPort port then s
  else if (beAt m 6 1).testBit 1 then s.setPtp i { p with presp := some (t4, s.stepsOf i, ptpTime m 34, ptpCorr m) }
  else s.peerDone i t4 (s.stepsOf i) 0 (ptpCorr m)

/-- PDELAY_RESP (R434). -/
def execPdelayResp (port : Fin 2) (l2 : Bool) (dev : Int) (m : List Byte) (s : State) : Host.Outcome State Fault Refusal :=
  .next (s.eachTaker port.val l2 3 54 m fun s i => s.ptpPdelayResp port.val dev m i)

/-- A Pdelay_Resp_Follow_Up for an instance. -/
def State.ptpPdelayFollow (s : State) (port : Nat) (m : List Byte) (i : Nat) : State :=
  let p := s.ptp i
  match p.presp with
  | some (t4, n4, t2p, c) =>
    if p.req == some (ptpSeq m) && beAt m 44 10 == ownPort port then s.peerDone i t4 n4 (ptpTime m 34 - t2p) (c + ptpCorr m) else s
  | none => s

/-- PDELAY_RESP_FOLLOW_UP (R434). -/
def execPdelayRespFollowUp (port : Fin 2) (l2 : Bool) (m : List Byte) (s : State) : Host.Outcome State Fault Refusal :=
  .next (s.eachTaker port.val l2 10 54 m fun s i => s.ptpPdelayFollow port.val m i)

/-- ANNOUNCE (R437). -/
def execAnnounceMsg (port : Fin 2) (l2 : Bool) (m : List Byte) (s : State) : Host.Outcome State Fault Refusal :=
  .next (s.eachTaker port.val l2 11 64 m fun s i => s.announced i m)

/-- A delay request of an instance (R432): Delay_Req to a selected master, or Pdelay_Req. -/
def State.sendDelayReq (s : State) (i : Nat) : State :=
  let p := s.ptp i
  let peer := s.on (F.PTP_CFG_PROFILE i)
  let port := s.rd (F.PTP_CFG_PORT i)
  if !s.on (F.PTP_CFG_EN i) || !s.ptpUp port peer || (!peer && p.master.isNone) then s
  else
    let q := p.seq
    (s.setPtp i { p with seq := (q + 1) % 65536, req := some q, gone := none, resp := none, presp := none }).send
      (.ptp port peer (ptpMessage (if peer then 2 else 1) (s.rd (F.PTP_CFG_DOMAIN i)) 0 0 (ownPort port) q (List.replicate (if peer then 20 else 10) 0)))

/-- DELAY_REQ_INTERVAL (R432). -/
def execDelayReqInterval (i : Fin 2) (s : State) : Host.Outcome State Fault Refusal := .next (s.sendDelayReq i.val)

/-- ANNOUNCE_RECEIPT_TIMEOUT (R437): announceReceiptTimeout, which drops the master, or (sync) four Sync intervals without an accepted Sync. -/
def execAnnounceReceiptTimeout (i : Fin 2) (sync : Bool) (s : State) : Host.Outcome State Fault Refusal :=
  if !s.on (F.PTP_CFG_EN i.val) then .next s
  else
    let s := s.holdover i.val
    if sync then .next s
    else .next ((s.setPtp i.val { s.ptp i.val with foreign := [], master := none, sync := none }).wr (F.PTP_STATE_PORT_STATE i.val) 4)

/-- The KIND of a transmit timestamp entry: Delay_Req, Pdelay_Req, Pdelay_Resp, safety STATE message. -/
def stampKind (k : Fin 4) : Nat := if k.val = 3 then 0x10 else k.val + 1

/-- TIMESTAMP_ENTRY (R440): the port has sent a PTP event message of an instance, or with SNET_TS a safety STATE message, dev ns from its stamp within the stamp error of the port. -/
def execTimestampEntry (port : Fin 2) (kind : Fin 4) (i : Fin 2) (id : BitVec 16) (dev : Int) (s : State) : Host.Outcome State Fault Refusal :=
  let k := stampKind kind
  let n := if k = 0x10 then 0 else i.val
  if s.ptpUp port.val true = false ∨ (k = 0x10 ∧ s.on (F.PTP_TXCFG_SNET_TS port.val) = false) then .next s
  else
    let t := TimeBase.ofTotal ((s.timeBase n).total + s.stampDev port.val dev * 2 ^ 48)
    .next (s.pushStamp port.val { kind := k, inst := n, id := id.toNat, time := t })

/-- TIMESTAMP_ENTRY_STALE (R441): the oldest entry of a queue has lain unmatched for 1 s. -/
def execTimestampEntryStale (port : Fin 2) (s : State) : Host.Outcome State Fault Refusal :=
  match s.txq port.val with
  | [] => .next s
  | _ :: t => .next ((s.setTxq port.val t).bump (F.PTP_TXQ_4_STALE port.val))

end Sys2Proof.Machine
end

