-- ==== Sys2Proof/Machine/Real32.lean ====
section
/-!
DEFINITION. IEEE 754 binary32 arithmetic with round to nearest, ties to even, on the 32-bit words that hold REAL operands (R380).
-/
namespace Sys2Proof.Machine
open Sys2Proof

/-- A REAL: a NaN, an infinity, or ±m × 2^e. -/
inductive Real32
  | nan
  | inf (neg : Bool)
  | fin (neg : Bool) (m : Nat) (e : Int)
  deriving DecidableEq, Repr

/-- The REAL a word holds. -/
def Real32.ofBits (w : Nat) : Real32 :=
  let neg := w.testBit 31
  let ex : Nat := w / 2 ^ 23 % 256
  let fr : Nat := w % 2 ^ 23
  if ex = 255 then if fr = 0 then .inf neg else .nan
  else if ex = 0 then .fin neg fr (-149) else .fin neg (2 ^ 23 + fr) ((ex : Int) - 150)

/-- The bits below the sign of ±m × 2^e, rounded to nearest even; rest tells that the exact magnitude lies above m × 2^e by less than 2^e. -/
def Real32.roundBits (m : Nat) (e : Int) (rest : Bool) : Nat :=
  if m = 0 then 0
  else
    let top : Int := e + Nat.log2 m
    let lsb : Int := max (top - 23) (-149)
    let sh := lsb - e
    let q := if sh ≤ 0 then m * 2 ^ (-sh).toNat else m / 2 ^ sh.toNat
    let r := if sh ≤ 0 then 0 else m % 2 ^ sh.toNat
    let half := if sh ≤ 0 then 1 else 2 ^ (sh.toNat - 1)
    let up := if sh ≤ 0 then false else r > half || r == half && (rest || q % 2 == 1)
    let q := if up then q + 1 else q
    let bits := if q < 2 ^ 23 then q else ((lsb + 150).toNat - 1) * 2 ^ 23 + q
    min bits (255 * 2 ^ 23)

/-- The word of ±m × 2^e rounded. -/
def Real32.pack (neg : Bool) (m : Nat) (e : Int) (rest : Bool := false) : Nat :=
  (if neg then 2 ^ 31 else 0) + Real32.roundBits m e rest

/-- The word of an infinity. -/
def Real32.infBits (neg : Bool) : Nat := (if neg then 2 ^ 31 else 0) + 0x7F800000

/-- A quiet NaN: IEEE 754 leaves its sign and payload open, so they are a free value of the operation and its operands. -/
def Real32.nanBits (op a b : Nat) : Nat :=
  let x := Config.nanPayload op a b
  (if x % 2 = 1 then 2 ^ 31 else 0) + 0x7FC00000 + x / 2 % 2 ^ 22

/-- A finite REAL as a signed mantissa. -/
def Real32.signed (neg : Bool) (m : Nat) : Int := if neg then -(m : Int) else m

/-- A word with the sign changed. -/
def Real32.negate (w : Nat) : Nat := if w.testBit 31 then w - 2 ^ 31 else w + 2 ^ 31

/-- Sum of two REALs; an exact 0 from operands of unlike sign is +0. -/
def Real32.add (a b : Nat) : Nat :=
  match Real32.ofBits a, Real32.ofBits b with
  | .nan, _ | _, .nan => Real32.nanBits 0 a b
  | .inf x, .inf y => if x = y then Real32.infBits x else Real32.nanBits 0 a b
  | .inf x, _ => Real32.infBits x
  | _, .inf y => Real32.infBits y
  | .fin n1 m1 e1, .fin n2 m2 e2 =>
    let e := min e1 e2
    let v := Real32.signed n1 (m1 * 2 ^ (e1 - e).toNat) + Real32.signed n2 (m2 * 2 ^ (e2 - e).toNat)
    if v = 0 then (if n1 && n2 then 2 ^ 31 else 0) else Real32.pack (decide (v < 0)) v.natAbs e

/-- Difference of two REALs. -/
def Real32.sub (a b : Nat) : Nat :=
  match Real32.ofBits a, Real32.ofBits b with
  | .nan, _ | _, .nan => Real32.nanBits 1 a b
  | .inf x, .inf y => if x = y then Real32.nanBits 1 a b else Real32.infBits x
  | _, _ => Real32.add a (Real32.negate b)

/-- Product of two REALs. -/
def Real32.mul (a b : Nat) : Nat :=
  match Real32.ofBits a, Real32.ofBits b with
  | .nan, _ | _, .nan => Real32.nanBits 2 a b
  | .inf x, .inf y => Real32.infBits (x != y)
  | .inf x, .fin y m _ | .fin y m _, .inf x => if m = 0 then Real32.nanBits 2 a b else Real32.infBits (x != y)
  | .fin n1 m1 e1, .fin n2 m2 e2 => Real32.pack (n1 != n2) (m1 * m2) (e1 + e2)

/-- Quotient of two REALs: a division by 0 gives an infinity, 0 / 0 a NaN (R380). -/
def Real32.div (a b : Nat) : Nat :=
  match Real32.ofBits a, Real32.ofBits b with
  | .nan, _ | _, .nan => Real32.nanBits 3 a b
  | .inf _, .inf _ => Real32.nanBits 3 a b
  | .inf x, .fin y _ _ => Real32.infBits (x != y)
  | .fin x _ _, .inf y => if x != y then 2 ^ 31 else 0
  | .fin n1 m1 e1, .fin n2 m2 e2 =>
    if m2 = 0 then if m1 = 0 then Real32.nanBits 3 a b else Real32.infBits (n1 != n2)
    else
      let n := m1 * 2 ^ 64
      Real32.pack (n1 != n2) (n / m2) (e1 - e2 - 64) (n % m2 != 0)

/-- The order of two REALs, none where one is a NaN. -/
def Real32.cmp (a b : Nat) : Option Ordering :=
  match Real32.ofBits a, Real32.ofBits b with
  | .nan, _ | _, .nan => none
  | .inf x, .inf y => some (if x = y then .eq else if x then .lt else .gt)
  | .inf x, _ => some (if x then .lt else .gt)
  | _, .inf y => some (if y then .gt else .lt)
  | .fin n1 m1 e1, .fin n2 m2 e2 =>
    let e := min e1 e2
    some (compare (Real32.signed n1 (m1 * 2 ^ (e1 - e).toNat)) (Real32.signed n2 (m2 * 2 ^ (e2 - e).toNat)))

/-- A DINT as a REAL. -/
def Real32.ofInt (i : Int) : Nat := Real32.pack (decide (i < 0)) i.natAbs 0

/-- A REAL as a DINT: rounded to nearest even and saturated; a NaN gives 0 (R380). -/
def Real32.toInt (a : Nat) : Int :=
  let sat (i : Int) : Int := if i < -(2 ^ 31) then -(2 ^ 31) else if i > 2 ^ 31 - 1 then 2 ^ 31 - 1 else i
  match Real32.ofBits a with
  | .nan => 0
  | .inf neg => if neg then -(2 ^ 31) else 2 ^ 31 - 1
  | .fin neg m e =>
    if e ≥ 0 then sat (Real32.signed neg (m * 2 ^ e.toNat))
    else
      let d := 2 ^ (-e).toNat
      let q := m / d
      let r := m % d
      let q := if 2 * r > d || 2 * r == d && q % 2 == 1 then q + 1 else q
      sat (Real32.signed neg q)

end Sys2Proof.Machine
end

