-- ==== Sys2Proof/Machine/ScanOps.lean ====
section
/-!
DEFINITION. The scan engine as operations (chapter 18): operands of the process image, the block types of Table 18-4, a scan's latch,
evaluation and publication, station frames.
-/
namespace Sys2Proof.Machine
open Sys2Proof

/-! ## Operands -/

/-- A scan under evaluation (R382): the state as it stands, instance data, variables and image writes of the task so far (area × 2^24 + index → mask and value). -/
structure ScanEval where
  st : State
  inst : List (Nat × (Nat × List Byte)) := []
  vars : List (Nat × Word) := []
  writes : List (Nat × (Nat × Nat)) := []
  deriving DecidableEq, Repr

/-- What a scan latches (R372): the state at its start, its task and section, "now" on TB3 in ns, the events it presents. -/
structure ScanLatch where
  st : State
  task : Nat
  sect : Sect
  now : Nat
  events : List (Nat × Nat)
  deriving DecidableEq, Repr

/-- A word of the input image (Table 18-1). -/
def State.inputWord (s : State) (i : Nat) : Nat :=
  if i = 0 then s.rd F.IMAGE_DI_DI
  else if i = 1 then maskOf 32 s.stationGood
  else if i < 8 then 0
  else s.stationIn ((i - 8) / 8) ((i - 8) % 8)

/-- A marker word: words 0 to 255 lie in IMAGE.M. -/
def State.marker (s : State) (i : Nat) : Nat := if i < 256 then s.rd (F.IMAGE_M_M i) else (mget (0 : Word) s.scan.markers i).toNat

/-- A marker word written. -/
def State.setMarker (s : State) (i v : Nat) : State :=
  if i < 256 then s.wr (F.IMAGE_M_M i) v else { s with scan := { s.scan with markers := mset 0 s.scan.markers i (Word.ofNat v) } }

/-- The word of an area as a block reads it: what the scan has latched, under what its own blocks have written. -/
def ScanEval.word (e : ScanEval) (l : ScanLatch) (area i : Nat) : Nat :=
  let base := match area with
    | 0 => (mget (0 : Word) e.vars i).toNat
    | 1 => l.st.inputWord i
    | 2 => (mget (0 : Word) l.st.scan.out i).toNat
    | 3 => l.st.marker i
    | _ => (l.sect.consts[i]?).getD 0
  let (m, v) := mget (0, 0) e.writes (area * 2 ^ 24 + i)
  (base - (base &&& m)) ||| (v &&& m)

/-- An operand read as a word, and as a BOOL: a bit in areas 1 to 3, else the value 0 or 1. -/
def ScanEval.num (e : ScanEval) (l : ScanLatch) (w : Nat) : Nat := e.word l (opArea w) (opIndex w)
def ScanEval.bool (e : ScanEval) (l : ScanLatch) (w : Nat) : Bool :=
  if opArea w = 1 ∨ opArea w = 2 ∨ opArea w = 3 then (e.num l w).testBit (opBit w) else e.num l w != 0

/-- An operand read as a DINT. -/
def ScanEval.dint (e : ScanEval) (l : ScanLatch) (w : Nat) : Int := signedOf 32 (e.num l w)

/-- A word written: a variable at once, an image word with the mask of what is published (R376). -/
def ScanEval.put (e : ScanEval) (area i mask v : Nat) : ScanEval :=
  if area = 0 then { e with vars := mset 0 e.vars i (Word.ofNat v) }
  else
    let k := area * 2 ^ 24 + i
    let (m, x) := mget (0, 0) e.writes k
    let keep := mask ||| m
    { e with writes := mset (0, 0) e.writes k (keep, (x - (x &&& mask)) ||| (v &&& mask)) }

/-- A word operand written. -/
def ScanEval.putNum (e : ScanEval) (w v : Nat) : ScanEval := e.put (opArea w) (opIndex w) (2 ^ 32 - 1) (v % 2 ^ 32)

/-- A DINT operand written. -/
def ScanEval.putInt (e : ScanEval) (w : Nat) (v : Int) : ScanEval := e.putNum w (encodeSigned 32 (satSigned 32 v))

/-- What is published with a BOOL output: the bit of output word 0, the byte of a station output word, the whole marker word (R376). -/
def publishMask (area i bit : Nat) : Nat :=
  if area = 2 then if i = 0 then 2 ^ bit else 255 * 2 ^ (bit / 8 * 8) else 2 ^ 32 - 1

/-- A BOOL operand written. -/
def ScanEval.putBool (e : ScanEval) (l : ScanLatch) (w : Nat) (b : Bool) : ScanEval :=
  let a := opArea w
  let i := opIndex w
  if a = 0 then e.put 0 i 0 (if b then 1 else 0)
  else
    let old := e.word l a i
    let v := if b then old ||| 2 ^ opBit w else old - (old &&& 2 ^ opBit w)
    e.put a i (publishMask a i (opBit w)) v

/-- Instance data of a block written. -/
def ScanEval.keep (e : ScanEval) (b : Block) (bytes : List Byte) : ScanEval := { e with inst := mins (mdel e.inst b.id) b.id (b.typ, bytes) }

/-! ## Block types -/

/-- Numeric operations of the types 0x0011 to 0x0014 on words: DINT saturating with a division by 0 giving 0 (R380), REAL as IEEE 754. A quotient is truncated towards 0 as IEC 61131-3 gives it. -/
def arith (real : Bool) (typ a b : Nat) : Nat :=
  let x := signedOf 32 a
  let y := signedOf 32 b
  let dint (v : Int) : Nat := encodeSigned 32 (satSigned 32 v)
  match real, typ with
  | false, 0x0011 => dint (x + y)
  | false, 0x0012 => dint (x - y)
  | false, 0x0013 => dint (x * y)
  | false, _ => if y = 0 then 0 else if x = -(2 ^ 31) ∧ y = -1 then Config.dintQuotient % 2 ^ 32 else dint (x.tdiv y)
  | true, 0x0011 => Real32.add a b
  | true, 0x0012 => Real32.sub a b
  | true, 0x0013 => Real32.mul a b
  | true, _ => Real32.div a b

/-- The order of two numeric words, none with a NaN. -/
def numCmp (real : Bool) (a b : Nat) : Option Ordering := if real then Real32.cmp a b else some (compare (signedOf 32 a) (signedOf 32 b))

/-- LIMIT: the lesser of MX and the greater of MN and IN; with a NaN the result is open. -/
def limitNum (real : Bool) (mn x mx : Nat) : Nat :=
  let pick (keep : Ordering) (a b : Nat) : Nat := if numCmp real a b = some keep then b else a
  if real && [mn, x, mx].any (fun v => (Real32.cmp v v).isNone) then Real32.nanBits 4 x (mn ^^^ mx)
  else
    let lo := pick .lt x mn
    pick .gt lo mx

/-- One evaluation of TON, TOF or TP (R384) from the instance bytes, IN and PT at now: the bytes, Q and ET. -/
def timerStep (typ : Nat) (inst : List Byte) (input : Bool) (pt : Int) (now : Nat) : List Byte × Bool × Int :=
  let fl := leAt inst 12 4
  let was := fl.testBit 0
  let running := fl.testBit 2
  let start := leAt inst 0 8
  let mk (start : Nat) (running q : Bool) (et : Int) : List Byte × Bool × Int :=
    (le 8 start ++ leI 4 et ++ le 4 (flagAt input 0 + flagAt q 1 + flagAt running 2), q, et)
  let et (start : Nat) : Int := min (((now - start) / 1000000 : Nat) : Int) pt
  match typ with
  | 0x0030 =>
    if input then
      let start := if running then start else now
      mk start true (decide (et start ≥ pt)) (et start)
    else mk start false false 0
  | 0x0031 =>
    if input then mk start false true 0
    else if running || was then
      let start := if running then start else now
      mk start true (decide (et start < pt)) (et start)
    else mk start false false 0
  | _ =>
    if running || (input && !was) then
      let start := if running then start else now
      if decide (et start ≥ pt) && !input then mk start false false 0
      else mk start true (decide (et start < pt)) (et start)
    else mk start false false 0

/-- A count up, held at 2^31 − 1, and down, held at −2^31 (R384). -/
def countUp (v : Int) : Int := if v < 2 ^ 31 - 1 then v + 1 else v
def countDown (v : Int) : Int := if v > -(2 ^ 31) then v - 1 else v

/-- A register address of REG_RD and REG_WR: an address beyond the register space or at a staged offset gives STATUS 0x05 (R385). -/
def regOperand (a : Nat) : Bool := decide (a < 2 ^ 20) && decide (offOf a < 0x800)

/-- Gate and trigger blocks: AND, OR, XOR, NOT, R_TRIG, F_TRIG, SR, RS. The old value M or Q1 gives Q and the new one. -/
def logicStep (typ : Nat) (old : Bool) (x : List Bool) : Bool × Bool :=
  let a := x.headD false
  let b := (x[1]?).getD false
  match typ with
  | 0x0001 => (x.all id, old)
  | 0x0002 => (x.any id, old)
  | 0x0003 => (a != b, old)
  | 0x0004 => (!a, old)
  | 0x0020 => (a && !old, a)
  | 0x0021 => (!a && !old, !a)
  | 0x0022 => let q := a || (!b && old); (q, q)
  | _ => let q := !b && (a || old); (q, q)

/-- A counter block: CV and the input flags of the previous evaluation give the new ones. -/
def counterStep (typ : Nat) (cv : Int) (last : Nat) (x : List Bool) (pv : Int) : Int × Nat :=
  let b (k : Nat) : Bool := (x[k]?).getD false
  let edge (k : Nat) : Bool := b k && !last.testBit k
  match typ with
  | 0x0040 => (if b 1 then 0 else if edge 0 then countUp cv else cv, flagAt (b 0) 0)
  | 0x0041 => (if b 1 then pv else if edge 0 then countDown cv else cv, flagAt (b 0) 0)
  | _ =>
    (if b 2 then 0 else if b 3 then pv
      else if edge 0 && edge 1 then cv else if edge 0 then countUp cv else if edge 1 then countDown cv else cv, flagAt (b 0) 0 + flagAt (b 1) 1)

/-- MOVE and CONV of one operand: a BOOL where a bit of an image word is addressed, else a word. -/
def ScanEval.move (e : ScanEval) (l : ScanLatch) (b : Block) (src dst : Nat) : ScanEval :=
  if b.typ = 0x0010 then
    if opBit src ≠ 0 ∨ opBit dst ≠ 0 then e.putBool l dst (e.bool l src) else e.putNum dst (e.num l src)
  else
    let v := if opBit src ≠ 0 then (if e.bool l src then 1 else 0) else e.num l src
    if b.real then e.putNum dst (Real32.ofInt (signedOf 32 v))
    else e.putInt dst (if opBit src ≠ 0 then (v : Int) else Real32.toInt v)

/-- REG_RD and REG_WR (R385), in the non-secure world under session 0x00. -/
def ScanEval.register (e : ScanEval) (l : ScanLatch) (b : Block) (ins outs : List Nat) : ScanEval :=
  let a := b.pars.headD 0
  let o (k : Nat) : Nat := (outs[k]?).getD 0
  let inst := instOf e.inst b
  if b.typ = 0x0050 then
    let t := if regOperand a then e.st.readReg .scanProgram a else { e.st with accErr := 0x05, readData := [0] }
    let e := ({ e with st := t }.keep b (le 4 t.accErr))
    (e.putNum (o 0) (t.readData.headD 0).toNat).putNum (o 1) t.accErr
  else
    let req := e.bool l (ins.headD 0)
    let rise := req && leAt inst 0 4 == 0
    let t := if rise then (if regOperand a then e.st.writeReg .scanProgram a (e.num l ((ins[1]?).getD 0)) else { e.st with accErr := 0x05 }) else e.st
    let status := if rise then t.accErr else leAt inst 4 4
    let e := ({ e with st := t }.keep b (le 4 (flagAt req 0) ++ le 4 status))
    e.putNum (o 0) status

/-- ST_STAT: the station's quality, UNDELIVERED and age at the last latch; of a number that names no station all three are open. -/
def ScanEval.station (e : ScanEval) (l : ScanLatch) (n : Nat) (outs : List Nat) : ScanEval :=
  let o (k : Nat) : Nat := (outs[k]?).getD 0
  if n < 32 then
    ((e.putBool l (o 0) (l.st.stationGood n)).putBool l (o 1) (l.st.on (F.STATION_SSTAT_UNDELIVERED n))).putNum (o 2) (l.st.rd (F.STATION_SSTAT_AGE_MS n))
  else
    let (v, s) := e.st.drawFree
    (({ e with st := s }.putBool l (o 0) (v.testBit 0)).putBool l (o 1) (v.testBit 1)).putNum (o 2) (v / 4)

/-- EVT_IN (R377): the events of a page among those the scan presents. -/
def ScanLatch.bits (l : ScanLatch) (page mask : Nat) : Nat := maskOf 32 fun k => mask.testBit k && l.events.contains (page, k)

/-- One block evaluated (R380, R383, R384): with EN it is left as it is where EN is FALSE. -/
def ScanEval.block (l : ScanLatch) (e : ScanEval) (b : Block) : ScanEval :=
  let ins := if b.enPin then b.ins.tail else b.ins
  let i (k : Nat) : Nat := (ins[k]?).getD 0
  let o (k : Nat) : Nat := (b.outs[k]?).getD 0
  let bools := ins.map (e.bool l)
  let inst := instOf e.inst b
  if b.enPin && !e.bool l (b.ins.headD 0) then e
  else match b.typ with
    | 0x0001 | 0x0002 | 0x0003 | 0x0004 => e.putBool l (o 0) (logicStep b.typ false bools).1
    | 0x0020 | 0x0021 | 0x0022 | 0x0023 =>
      let r := logicStep b.typ (leAt inst 0 4 != 0) bools
      (e.keep b (le 4 (flagAt r.2 0))).putBool l (o 0) r.1
    | 0x0010 | 0x0018 => e.move l b (i 0) (o 0)
    | 0x0011 | 0x0012 | 0x0013 | 0x0014 => e.putNum (o 0) (arith b.real b.typ (e.num l (i 0)) (e.num l (i 1)))
    | 0x0015 => e.putNum (o 0) (limitNum b.real (e.num l (i 0)) (e.num l (i 1)) (e.num l (i 2)))
    | 0x0016 => e.putNum (o 0) (e.num l (if e.bool l (i 0) then i 2 else i 1))
    | 0x0017 =>
      let c := numCmp b.real (e.num l (i 0)) (e.num l (i 1))
      ((e.putBool l (o 0) (c == some .gt)).putBool l (o 1) (c == some .eq)).putBool l (o 2) (c == some .lt)
    | 0x0030 | 0x0031 | 0x0032 =>
      let r := timerStep b.typ inst (e.bool l (i 0)) (e.dint l (i 1)) l.now
      ((e.keep b r.1).putBool l (o 0) r.2.1).putInt (o 1) r.2.2
    | 0x0040 | 0x0041 =>
      let pv := e.dint l (i 2)
      let r := counterStep b.typ (signedOf 32 (leAt inst 0 4)) (leAt inst 4 4) bools pv
      ((e.keep b (leI 4 r.1 ++ le 4 r.2)).putBool l (o 0) (if b.typ = 0x0040 then decide (r.1 ≥ pv) else decide (r.1 ≤ 0))).putInt (o 1) r.1
    | 0x0042 =>
      let pv := e.dint l (i 4)
      let r := counterStep b.typ (signedOf 32 (leAt inst 0 4)) (leAt inst 4 4) bools pv
      (((e.keep b (leI 4 r.1 ++ le 4 r.2 ++ le 4 0)).putBool l (o 0) (decide (r.1 ≥ pv))).putBool l (o 1) (decide (r.1 ≤ 0))).putInt (o 2) r.1
    | 0x0050 | 0x0051 => e.register l b ins b.outs
    | 0x0052 =>
      let m := l.bits ((b.pars[0]?).getD 0) ((b.pars[1]?).getD 0)
      (e.putBool l (o 0) (m != 0)).putNum (o 1) m
    | 0x0060 => e.station l ((b.pars[0]?).getD 0) b.outs
    | _ => e

/-! ## Scan -/

/-- The unit drives its local outputs and sends OUT frames (R390): solo, or holding the claim. -/
def State.drives (s : State) : Bool := s.inControl

/-- The substitute inputs of a lost station (R389). -/
def State.substitute (s : State) (n : Nat) (x : Station) : List Byte :=
  match s.rdStation n (F.STATION_SCFG_SUBST n) with
  | 1 => []
  | 2 => (descriptor s.nvm.program n).getD []
  | _ => x.held

/-- One station latched at a scan start (R389, R390): quality by the age of its newest valid frame, inputs or their substitute, LOST and RETURNED. -/
def State.latchStation (s : State) (n : Nat) : State :=
  let x := mget ({} : Station) s.scan.stations n
  let age : Option Nat := x.good.map fun g => s.mono - g.2
  let good := s.drives && (match age with
    | some a => decide (a ≤ s.rdStation n (F.STATION_STIME_TIMEOUT_MS n) * 1000000)
    | none => false)
  let data := if good then (x.good.map (·.1)).getD [] else s.substitute n x
  let s := { s with scan := { s.scan with stations := mset {} s.scan.stations n { x with latched := data, held := if good then data else x.held } } }
  let was := s.on (F.STATION_SSTAT_QUAL n)
  let s := (s.wrB (F.STATION_SSTAT_QUAL n) good).wr (F.STATION_SSTAT_AGE_MS n) (match age with
    | some a => satCount 16 (a / 1000000)
    | none => 0xFFFF)
  if was && !good then (s.bump (F.STATION_SLOST_LOSSES n)).raise 0x42 0
  else if !was && good then s.raise 0x42 1 else s

/-- The stations of a task. -/
def State.stationsOf (s : State) (t : Nat) : List Nat := (List.range 32).filter fun n => s.rdStation n (F.STATION_SCFG_EN n) == 1 && s.rdStation n (F.STATION_SCFG_TASK n) == t

/-- The task whose publish lets a station take up its configuration in force (R552): its task there where it is enabled there, else the one it still serves (DEDUCED, notes/assumptions/89.md). -/
def State.renewTask (s : State) (n : Nat) : Nat :=
  if s.on (F.STATION_SCFG_EN n) then s.rd (F.STATION_SCFG_TASK n) else s.rdStation n (F.STATION_SCFG_TASK n)

/-- A station no longer enabled: no frame, no quality, nothing undelivered. -/
def State.dropStation (s : State) (n : Nat) : State :=
  let was := s.on (F.STATION_SSTAT_QUAL n)
  let s := { s with scan := { s.scan with stations := mset {} s.scan.stations n {} } }
  let s := ((s.wrB (F.STATION_SSTAT_QUAL n) false).wrB (F.STATION_SSTAT_UNDELIVERED n) false).wr (F.STATION_SSTAT_AGE_MS n) 0xFFFF
  if was then (s.bump (F.STATION_SLOST_LOSSES n)).raise 0x42 0 else s

/-- A publish of a task (R552): its stations take up their configuration in force, for the OUT frames that follow; one disabled there is dropped. -/
def State.renewStations (s : State) (t : Nat) : State :=
  let l := s.scan.inUse.filter fun x => s.renewTask x.1 == t
  let s := { s with scan := { s.scan with inUse := s.scan.inUse.filter fun x => s.renewTask x.1 != t } }
  l.foldl (fun (s : State) x => if s.on (F.STATION_SCFG_EN x.1) then s else s.dropStation x.1) s

/-- The task takes the network in force (R381): instance data kept by BLOCK_ID and TYPE, variables where NVARS is unchanged. -/
def State.takeNetwork (s : State) (t : Nat) : State :=
  let new := sectBytes s.nvm.program t
  let x := s.task t
  if new = x.sect then s
  else
    let sect := sectOf new
    s.setTask t { x with sect := new, inst := sect.blocks.foldl (fun m (b : Block) => mins (mdel m b.id) b.id (b.typ, instOf x.inst b)) [],
                         vars := if sect.nvars = (sectOf x.sect).nvars then x.vars else [] }

/-- Latch and evaluation of a scan (R372): what it will publish is kept with the task; a reset that a REG_WR takes ends it. -/
def State.runScan (s : State) (t : Nat) : State :=
  let s := s.takeNetwork t
  let s := (s.stationsOf t).foldl (fun (s : State) n => s.latchStation n) s
  let ev := (s.scan.events.filter (·.1 == t)).map (·.2)
  let s := { s with scan := { s.scan with events := s.scan.events.filter (·.1 != t) } }
  let x := s.task t
  let s := s.setTask t { x with busy := true, startAt := s.mono, skips := 0, tcfg := s.word (F.SCAN_TCFG_EN t).addr }
  let l : ScanLatch := { st := s, task := t, sect := sectOf x.sect, now := s.mono, events := ev }
  let e := l.sect.blocks.foldl (fun (e : ScanEval) b => e.block l b) { st := s, inst := x.inst, vars := x.vars }
  if e.st.crown.phase = .complete then e.st.setTask t { e.st.task t with newInst := e.inst, newVars := e.vars, writes := e.writes } else e.st

/-- The task watchdog (R374): the task stops at once, its scan is discarded, its outputs turn off, its reaction is taken. -/
def State.taskWatchdog (s : State) (t : Nat) : State :=
  let s := (s.setTask t { s.task t with busy := false, newInst := [], newVars := [], writes := [], stopping := false }).wrBit F.SCAN_STATUS_STOPPED t true
  let s := (s.taskOff t).raise 0x40 (4 + t)
  if (F.SCAN_TCFG_WD_REACT t).get (s.task t).tcfg = 1 then ((s.addCond (.scanWatchdog t) .S).lasting 0x40 (evCode 0x40 .scanWatchdog)).react .S 0x40 .scanWatchdog [t]
  else s.lastingW 0x40 .scanWatchdog [t]

/-- A start instant whose task has not published (R374): OVERRUN, the start skipped, an apply armed for it cancelled, the watchdog after WD_N in a row. -/
def State.skipStart (s : State) (t : Nat) : State :=
  let s := ((s.bump (F.SCAN_TCNT_OVERRUNS t)).bump (F.SCAN_TCNT_SKIPPED t)).raise 0x40 t
  let s := if s.stage ≥ 5 && !s.stg.takeUp && s.stg.kind == 2 && s.stg.task == t then s.cancelApply 7 else s
  let n := (s.task t).skips + 1
  let s := s.setTask t { s.task t with skips := n }
  if n ≥ (F.SCAN_TCFG_WD_N t).get (s.task t).tcfg then s.taskWatchdog t else s

/-! ## Station frames -/

/-- The output words of a station as 32 bytes, those beyond NOUT 0. -/
def State.stationOut (s : State) (n : Nat) : List Byte :=
  let b := (List.range 8).flatMap fun k => le 4 (mget (0 : Word) s.scan.out (8 + 8 * n + k)).toNat
  let m := s.rdStation n (F.STATION_SCFG_NOUT n)
  b.take m ++ List.replicate (32 - m) 0

/-- A station frame with its CRC and its TAG (Table 18-5). -/
def State.stationFrame (s : State) (n typ wd seq echo : Nat) (data : List Byte) : List Byte :=
  let head := be 2 0x5354 ++ [1, byte typ, byte n, byte (if s.rd F.PAIR_STATUS_UNIT = 1 && s.on F.PAIR_CFG_PAIRED then 1 else 0)] ++ be 2 wd ++ be 4 seq ++ be 4 echo ++ data
  let body := head ++ be 4 (crc32c head)
  body ++ if s.rdStation n (F.STATION_SCFG_AUTH n) == 1 then tag 12 (s.key 3) body else List.replicate 12 0

/-- UNDELIVERED (R387). -/
def State.showDelivery (s : State) (n : Nat) : State :=
  let x := mget ({} : Station) s.scan.stations n
  s.wrB (F.STATION_SSTAT_UNDELIVERED n) (decide (x.echo < x.imgSeq))

/-- An OUT frame sent to a station (R386, R387): the whole image in force. -/
def State.sendStation (s : State) (n : Nat) : State :=
  let x := mget ({} : Station) s.scan.stations n
  let data := s.stationOut n
  let seq := (x.seq + 1) % 2 ^ 32
  let x := { x with seq := seq, imgSeq := if x.seq != 0 && x.sent == data then x.imgSeq else seq, sent := data }
  let s := { s with scan := { s.scan with stations := mset {} s.scan.stations n x } }
  let f := s.stationFrame n 1 (s.rdStation n (F.STATION_STIME_WD_MS n)) seq 0 data
  let s := match s.rdStation n (F.STATION_SCFG_LINK n) with
    | 0 => s.canService (s.rdStation n (F.STATION_SCFG_CH n)) (s.rdStation n (F.STATION_SADDR_ADDR n) % 2 ^ 29) f
    | k => if s.ipUp (k - 1) then s.send (.udp (k - 1) (s.rdStation n (F.STATION_SADDR_ADDR n)) (s.rdStation n F.STATION_CFG_UDP_PORT) f) else s
  s.showDelivery n

/-- What a scan wrote becomes the image (R372). -/
def State.publishWrites (s : State) (l : List (Nat × (Nat × Nat))) : State :=
  l.foldl (fun (s : State) (e : Nat × (Nat × Nat)) =>
    let i := e.1 % 2 ^ 24
    let m := e.2.1
    let mix (old : Nat) : Nat := (old - (old &&& m)) ||| (e.2.2 &&& m)
    if e.1 / 2 ^ 24 = 2 then { s with scan := { s.scan with out := mset 0 s.scan.out i (Word.ofNat (mix (mget (0 : Word) s.scan.out i).toNat)) } }
    else s.setMarker i (mix (s.marker i))) s

/-- The local outputs driven from the image (R390), where the unit drives them. -/
def State.driveOutputs (s : State) : State := if s.drives then s.wr F.IMAGE_DO_DO (mget (0 : Word) s.scan.out 0).toNat else s

/-- The end of a scan (R372, R375): published with its duration, mirrored, station frames sent; a task that was to stop turns its outputs off. -/
def State.publishScan (s : State) (t : Nat) : State :=
  let x := s.task t
  let us := (s.mono - x.startAt) / 1000
  let s := s.setTask t { x with busy := false, inst := x.newInst, vars := x.newVars, newInst := [], newVars := [], writes := [], stopping := false }
  let s := (s.publishWrites x.writes).driveOutputs
  let s := s.wr (F.SCAN_TDUR_LAST_US t) (satCount 32 us)
  let s := if us > s.rd (F.SCAN_MAXDUR_MAX_US t) then s.wr (F.SCAN_MAXDUR_MAX_US t) (satCount 32 us) else s
  let s := (s.mirror (.scan t ((s.task t).image Block.mirrored))).renewStations t
  if x.stopping then s.taskOff t
  else if s.drives then (s.stationsOf t).foldl (fun (s : State) n => s.sendStation n) s else s

/-- The station that an IN frame on a link addresses (R386). -/
def State.stationAt (s : State) (via : Via) : Option Nat :=
  (List.range 32).find? fun n => s.rdStation n (F.STATION_SCFG_EN n) == 1 && match via with
    | .can ch id => s.canListens ch.val && s.on (F.CAN_CFG_FD_EN ch.val) && s.rdStation n (F.STATION_SCFG_LINK n) == 0 && s.rdStation n (F.STATION_SCFG_CH n) == ch.val && id == s.rdStation n (F.STATION_SADDR_ADDR n) % 2 ^ 29 + 1
    | .eth port ip _ dst => s.rdStation n (F.STATION_SCFG_LINK n) == port.val + 1 && s.ipUp port.val && ip == s.rdStation n (F.STATION_SADDR_ADDR n) && dst == s.rdStation n F.STATION_CFG_UDP_PORT

/-- An IN frame is valid for station n (R386). -/
def State.stationValid (s : State) (n : Nat) (f : List Byte) : Bool :=
  f.length == 64 && beAt f 0 2 == 0x5354 && beAt f 2 1 == 1 && beAt f 3 1 == 2 && beAt f 4 1 == n && beAt f 48 4 == crc32c (f.take 48)
    && (s.rdStation n (F.STATION_SCFG_AUTH n) == 0 || s.tagOk 3 12 (f.take 52) (f.drop 52))

/-- An IN frame taken for station n, or discarded and counted; only an ECHO of a SEQ that this unit has sent tells what the station applied of it (R387). -/
def State.takeStation (s : State) (n : Nat) (f : List Byte) : State :=
  if s.stationValid n f then
    let x := mget ({} : Station) s.scan.stations n
    let m := s.rdStation n (F.STATION_SCFG_NIN n)
    let data := ((f.drop 16).take m) ++ List.replicate (32 - m) 0
    let e := beAt f 12 4
    let x := { x with good := some (data, s.mono), echo := if e ≤ x.seq then max x.echo e else x.echo }
    ({ s with scan := { s.scan with stations := mset {} s.scan.stations n x } }.bump (F.STATION_SCNT_IN_OK n)).showDelivery n
  else (s.bump (F.STATION_SCNT_IN_ERR n)).raise 0x42 2

end Sys2Proof.Machine
end

