-- ==== Sys2Proof/Machine/ScanFam.lean ====
section
/-!
DEFINITION. The commands of the scan engine (chapter 18).
-/
namespace Sys2Proof.Machine
open Sys2Proof

/-- SCAN_START (R371, R372, R374): the start instant of a task whose scans are being started. -/
def execScanStart (t : Fin 4) (s : State) : Host.Outcome State Fault Refusal :=
  .next (if !s.taskRuns t.val then s else if (s.task t.val).busy then s.skipStart t.val else s.runScan t.val)

/-- SCAN_PUBLISH (R372): the scan in progress ends. -/
def execScanPublish (t : Fin 4) (s : State) : Host.Outcome State Fault Refusal := .next (if (s.task t.val).busy then s.publishScan t.val else s)

/-- TASK_RESTART (R374): a write of SCAN.CMD. -/
def execTaskRestart (who : Initiator) (mask : BitVec 4) (s : State) : Host.Outcome State Fault Refusal :=
  .next (s.asWrite who A.SCAN_CMD fun s => s.restartTasks mask.toNat)

/-- PROG_DATA (Table 18-6, R70): a word of the staged program. -/
def execProgData (who : Initiator) (data : BitVec 32) (s : State) : Host.Outcome State Fault Refusal :=
  .next (s.writeReg who A.SCAN_PROG_DATA data.toNat)

/-- PROG_LIVE (Table 18-6): a word of the program in force. -/
def execProgLive (who : Initiator) (s : State) : Host.Outcome State Fault Refusal := .next (s.readReg who A.SCAN_PROG_LIVE)

/-- A frame received for a station on Ethernet passes through Q109 (Table 19-2), whose built-in consumer takes it at once; where the ring refuses it, it is dropped (R400). -/
def State.stationFrameIn (s : State) (via : Via) (n : Nat) (frame : List Byte) : State :=
  match via with
  | .can .. => s.takeStation n frame
  | .eth .. =>
    let (s, ok) := s.push 109 frame true
    if ok then s.takeStation n frame else s

/-- STATION_IN_FRAME (R386, R389): a frame from a remote station. -/
def execStationInFrame (via : Via) (frame : List Byte) (s : State) : Host.Outcome State Fault Refusal :=
  .next (if s.mode == .transport then s else match s.stationAt via with
    | some n => s.stationFrameIn via n frame
    | none => s)

/-- RETAIN_INTERVAL (R378): every 10 s. -/
def execRetainInterval (s : State) : Host.Outcome State Fault Refusal := .next (if s.mode == .transport then s else s.retainSlot)

/-- MARKER_WRITE (R392): a write of a marker word, taken into the next snapshot of every task. -/
def execMarkerWrite (who : Initiator) (k : Fin 256) (v : BitVec 32) (s : State) : Host.Outcome State Fault Refusal :=
  .next (s.asWrite who (A.IMAGE_M k.val) fun s => s.wr (F.IMAGE_M_M k.val) v.toNat)

/-- DI_CHANGE (R392): the local inputs as they now stand. -/
def execDiChange (di : BitVec 16) (s : State) : Host.Outcome State Fault Refusal :=
  .next (if s.mode == .transport || s.rd F.IMAGE_DI_DI == di.toNat then s else (s.wr F.IMAGE_DI_DI di.toNat).raise 0x41 0)

end Sys2Proof.Machine
end

