-- ==== Sys2Proof/Machine/Dispatch.lean ====
section
/-!
DEFINITION. The meaning of each command: one arm per constructor of Instr, each one call of that command's own meaning.
-/
namespace Sys2Proof.Machine
open Sys2Proof

/-- The effect of a command on everything but the queue. -/
def exec (i : Instr) (s : State) : Host.Outcome State Fault Refusal :=
  match i with
  | .powerOnReset i0 => Sys2Proof.Machine.execPowerOnReset i0 s
  | .supplyReset i0 => Sys2Proof.Machine.execSupplyReset i0 s
  | .externalResetPin i0 => Sys2Proof.Machine.execExternalResetPin i0 s
  | .watchdogReset i0 => Sys2Proof.Machine.execWatchdogReset i0 s
  | .softwareWarmReset who key action => Sys2Proof.Machine.execSoftwareWarmReset who key action s
  | .pairForcedReset i0 => Sys2Proof.Machine.execPairForcedReset i0 s
  | .startComplete failed => Sys2Proof.Machine.execStartComplete failed s
  | .bankOk => Sys2Proof.Machine.execBankOk s
  | .vauxWarning => Sys2Proof.Machine.execVauxWarning s
  | .vauxWarningRelease => Sys2Proof.Machine.execVauxWarningRelease s
  | .holdMaxExpiry => Sys2Proof.Machine.execHoldMaxExpiry s
  | .bankReserve => Sys2Proof.Machine.execBankReserve s
  | .vauxReset => Sys2Proof.Machine.execVauxReset s
  | .modeReqTransport who => Sys2Proof.Machine.execModeReqTransport who s
  | .modeReqStandby who => Sys2Proof.Machine.execModeReqStandby who s
  | .safeExitJudgement => Sys2Proof.Machine.execSafeExitJudgement s
  | .modeReqConnect who p => Sys2Proof.Machine.execModeReqConnect who p s
  | .modeReqRun who p => Sys2Proof.Machine.execModeReqRun who p s
  | .modeReqRest who => Sys2Proof.Machine.execModeReqRest who s
  | .modeReqSafeAcknowledge who => Sys2Proof.Machine.execModeReqSafeAcknowledge who s
  | .modeReqService who => Sys2Proof.Machine.execModeReqService who s
  | .modeReqDormant who => Sys2Proof.Machine.execModeReqDormant who s
  | .dormantWake w => Sys2Proof.Machine.execDormantWake w s
  | .aonTimerWake => Sys2Proof.Machine.execAonTimerWake s
  | .transportVauxArm => Sys2Proof.Machine.execTransportVauxArm s
  | .transportWake bus i0 => Sys2Proof.Machine.execTransportWake bus i0 s
  | .registerWrite who addr data => Sys2Proof.Machine.execRegisterWrite who addr data s
  | .stagedWrite who page reg data => Sys2Proof.Machine.execStagedWrite who page reg data s
  | .checkCmd who kind task lead => Sys2Proof.Machine.execCheckCmd who kind task lead s
  | .checkComplete => Sys2Proof.Machine.execCheckComplete s
  | .applyCmd who kind task lead => Sys2Proof.Machine.execApplyCmd who kind task lead s
  | .abortCmd who kind task lead => Sys2Proof.Machine.execAbortCmd who kind task lead s
  | .discardAll who kind task lead => Sys2Proof.Machine.execDiscardAll who kind task lead s
  | .discardCmd who page => Sys2Proof.Machine.execDiscardCmd who page s
  | .stagingTimeout => Sys2Proof.Machine.execStagingTimeout s
  | .applyLaunch => Sys2Proof.Machine.execApplyLaunch s
  | .applyLoadDeadline unloaded => Sys2Proof.Machine.execApplyLoadDeadline unloaded s
  | .applyEdge => Sys2Proof.Machine.execApplyEdge s
  | .applyTakeupComplete => Sys2Proof.Machine.execApplyTakeupComplete s
  | .secureCommit who key => Sys2Proof.Machine.execSecureCommit who key s
  | .commitStoreComplete outcome => Sys2Proof.Machine.execCommitStoreComplete outcome s
  | .evtStatusClear who page mask => Sys2Proof.Machine.execEvtStatusClear who page mask s
  | .retryCntClear who page => Sys2Proof.Machine.execRetryCntClear who page s
  | .lastingClear who page => Sys2Proof.Machine.execLastingClear who page s
  | .hostRead addr n => Sys2Proof.Machine.execHostRead addr n s
  | .hostWrite head bytes => Sys2Proof.Machine.execHostWrite head bytes s
  | .hostNonce x => Sys2Proof.Machine.execHostNonce x s
  | .hostOpen addr bytes => Sys2Proof.Machine.execHostOpen addr bytes s
  | .hostClose addr bytes => Sys2Proof.Machine.execHostClose addr bytes s
  | .hostSessionTimeout => Sys2Proof.Machine.execHostSessionTimeout s
  | .ralkiulOpen p ip udp b => Sys2Proof.Machine.execRalkiulOpen p ip udp b s
  | .ralkiulProof p ip udp b => Sys2Proof.Machine.execRalkiulProof p ip udp b s
  | .ralkiulRead p ip udp b => Sys2Proof.Machine.execRalkiulRead p ip udp b s
  | .ralkiulWrite p ip udp b => Sys2Proof.Machine.execRalkiulWrite p ip udp b s
  | .ralkiulNotifyAck p ip udp b => Sys2Proof.Machine.execRalkiulNotifyAck p ip udp b s
  | .ralkiulKeepalive p ip udp b => Sys2Proof.Machine.execRalkiulKeepalive p ip udp b s
  | .ralkiulClose p ip udp b => Sys2Proof.Machine.execRalkiulClose p ip udp b s
  | .ralkiulChallengeLapse i0 => Sys2Proof.Machine.execRalkiulChallengeLapse i0 s
  | .ralkiulSessionTimeout i0 => Sys2Proof.Machine.execRalkiulSessionTimeout i0 s
  | .notifyRetry i0 => Sys2Proof.Machine.execNotifyRetry i0 s
  | .ringPortLinkDown port codeErrs => Sys2Proof.Machine.execRingPortLinkDown port codeErrs s
  | .ringPortSynchronised port => Sys2Proof.Machine.execRingPortSynchronised port s
  | .ringReply n cmd seq status data => Sys2Proof.Machine.execRingReply n cmd seq status data s
  | .ringReplyTimeout n cmd seq errA errB => Sys2Proof.Machine.execRingReplyTimeout n cmd seq errA errB s
  | .ringSeqRelease => Sys2Proof.Machine.execRingSeqRelease s
  | .linkReport n => Sys2Proof.Machine.execLinkReport n s
  | .keepalive => Sys2Proof.Machine.execKeepalive s
  | .keepaliveReturn answers loopNs errs => Sys2Proof.Machine.execKeepaliveReturn answers loopNs errs s
  | .keepaliveFail answers errs => Sys2Proof.Machine.execKeepaliveFail answers errs s
  | .enumReturn next => Sys2Proof.Machine.execEnumReturn next s
  | .enumTimeout => Sys2Proof.Machine.execEnumTimeout s
  | .echoReturn n side rt => Sys2Proof.Machine.execEchoReturn n side rt s
  | .delayPeriod => Sys2Proof.Machine.execDelayPeriod s
  | .wakeSequenceReturn => Sys2Proof.Machine.execWakeSequenceReturn s
  | .wakeSequenceTimeout => Sys2Proof.Machine.execWakeSequenceTimeout s
  | .enumerateCmd who => Sys2Proof.Machine.execEnumerateCmd who s
  | .measureCmd who => Sys2Proof.Machine.execMeasureCmd who s
  | .ringClrErr who => Sys2Proof.Machine.execRingClrErr who s
  | .harvestSlot r lag moved => Sys2Proof.Machine.execHarvestSlot r lag moved s
  | .pauseLaunch => Sys2Proof.Machine.execPauseLaunch s
  | .harvestData n cmd seq port crcOk payload => Sys2Proof.Machine.execHarvestData n cmd seq port crcOk payload s
  | .harvestDataDeadline tag => Sys2Proof.Machine.execHarvestDataDeadline tag s
  | .harvestClose tag => Sys2Proof.Machine.execHarvestClose tag s
  | .tHarvestDue => Sys2Proof.Machine.execTHarvestDue s
  | .tHarvestLaunch r => Sys2Proof.Machine.execTHarvestLaunch r s
  | .oneshotV who => Sys2Proof.Machine.execOneshotV who s
  | .oneshotC who => Sys2Proof.Machine.execOneshotC who s
  | .oneshotT who r => Sys2Proof.Machine.execOneshotT who r s
  | .plausibilityCheck => Sys2Proof.Machine.execPlausibilityCheck s
  | .freezeCmd who b => Sys2Proof.Machine.execFreezeCmd who b s
  | .freezeExpiry => Sys2Proof.Machine.execFreezeExpiry s
  | .loopOpen ma => Sys2Proof.Machine.execLoopOpen ma s
  | .loopClosed ma => Sys2Proof.Machine.execLoopClosed ma s
  | .planInterval => Sys2Proof.Machine.execPlanInterval s
  | .planNow who => Sys2Proof.Machine.execPlanNow who s
  | .balStop who => Sys2Proof.Machine.execBalStop who s
  | .stopConfirmTimeout n => Sys2Proof.Machine.execStopConfirmTimeout n s
  | .clrNfault who => Sys2Proof.Machine.execClrNfault who s
  | .phase0Boundary => Sys2Proof.Machine.execPhase0Boundary s
  | .periodStart n => Sys2Proof.Machine.execPeriodStart n s
  | .centreTakeup n => Sys2Proof.Machine.execCentreTakeup n s
  | .cbcTrip n positive input => Sys2Proof.Machine.execCbcTrip n positive input s
  | .faultReturn n fault => Sys2Proof.Machine.execFaultReturn n fault s
  | .phaseClrFault who n => Sys2Proof.Machine.execPhaseClrFault who n s
  | .shedHoldExpiry => Sys2Proof.Machine.execShedHoldExpiry s
  | .burstOffEnd => Sys2Proof.Machine.execBurstOffEnd s
  | .innerSample n atStart code late => Sys2Proof.Machine.execInnerSample n atStart code late s
  | .outerSample r => Sys2Proof.Machine.execOuterSample r s
  | .startSample n code => Sys2Proof.Machine.execStartSample n code s
  | .loopPlausWindow meanI dV => Sys2Proof.Machine.execLoopPlausWindow meanI dV s
  | .contactorFeedback k closed => Sys2Proof.Machine.execContactorFeedback k closed s
  | .fbCloseTimeout k => Sys2Proof.Machine.execFbCloseTimeout k s
  | .fbRepull k => Sys2Proof.Machine.execFbRepull k s
  | .fbOpenTimeout k => Sys2Proof.Machine.execFbOpenTimeout k s
  | .pullInEnd k => Sys2Proof.Machine.execPullInEnd k s
  | .coilOvercurrent k => Sys2Proof.Machine.execCoilOvercurrent k s
  | .prechargePeakWindow peak => Sys2Proof.Machine.execPrechargePeakWindow peak s
  | .prechargeEnd ms => Sys2Proof.Machine.execPrechargeEnd ms s
  | .prechargeTimeout => Sys2Proof.Machine.execPrechargeTimeout s
  | .startAt => Sys2Proof.Machine.execStartAt s
  | .meetHeld => Sys2Proof.Machine.execMeetHeld s
  | .meetTimeout => Sys2Proof.Machine.execMeetTimeout s
  | .trackingError => Sys2Proof.Machine.execTrackingError s
  | .formAt => Sys2Proof.Machine.execFormAt s
  | .formedHeld => Sys2Proof.Machine.execFormedHeld s
  | .retryWaitExpiry => Sys2Proof.Machine.execRetryWaitExpiry s
  | .disconnectWaitExpiry => Sys2Proof.Machine.execDisconnectWaitExpiry s
  | .k6On who => Sys2Proof.Machine.execK6On who s
  | .k6Off who => Sys2Proof.Machine.execK6Off who s
  | .clrWeld who => Sys2Proof.Machine.execClrWeld who s
  | .impedStart who => Sys2Proof.Machine.execImpedStart who s
  | .impedStartEval => Sys2Proof.Machine.execImpedStartEval s
  | .impedStop who => Sys2Proof.Machine.execImpedStop who s
  | .impedWindowEnd => Sys2Proof.Machine.execImpedWindowEnd s
  | .impedCorrelation n => Sys2Proof.Machine.execImpedCorrelation n s
  | .impedSetClose => Sys2Proof.Machine.execImpedSetClose s
  | .impedRampEnd => Sys2Proof.Machine.execImpedRampEnd s
  | .estimatorStep more lo hi late => Sys2Proof.Machine.execEstimatorStep more lo hi late s
  | .initCmd who => Sys2Proof.Machine.execInitCmd who s
  | .writeNow who => Sys2Proof.Machine.execWriteNow who s
  | .resetCell who => Sys2Proof.Machine.execResetCell who s
  | .learnedJournalInterval => Sys2Proof.Machine.execLearnedJournalInterval s
  | .stateJournalInterval => Sys2Proof.Machine.execStateJournalInterval s
  | .journalWriteComplete verified => Sys2Proof.Machine.execJournalWriteComplete verified s
  | .deferredWrite => Sys2Proof.Machine.execDeferredWrite s
  | .thermalUpdate ntc board => Sys2Proof.Machine.execThermalUpdate ntc board s
  | .tjReading t sensorFault => Sys2Proof.Machine.execTjReading t sensorFault s
  | .tachCheck k pulses => Sys2Proof.Machine.execTachCheck k pulses s
  | .thermClrFault who mask => Sys2Proof.Machine.execThermClrFault who mask s
  | .telemWindowEnd n sec ns frac q charge clipped stepped => Sys2Proof.Machine.execTelemWindowEnd n sec ns frac q charge clipped stepped s
  | .pkClr who mask => Sys2Proof.Machine.execPkClr who mask s
  | .cntReset who => Sys2Proof.Machine.execCntReset who s
  | .counterSlotInterval => Sys2Proof.Machine.execCounterSlotInterval s
  | .counterLoRead who k => Sys2Proof.Machine.execCounterLoRead who k s
  | .currentMsg v m => Sys2Proof.Machine.execCurrentMsg v m s
  | .powerMsg v m => Sys2Proof.Machine.execPowerMsg v m s
  | .voltageMsg v m => Sys2Proof.Machine.execVoltageMsg v m s
  | .modeMsg v m p => Sys2Proof.Machine.execModeMsg v m p s
  | .impStart v m => Sys2Proof.Machine.execImpStart v m s
  | .impStop v m => Sys2Proof.Machine.execImpStop v m s
  | .takeCmd who p => Sys2Proof.Machine.execTakeCmd who p s
  | .limiterChain => Sys2Proof.Machine.execLimiterChain s
  | .statusPeriod => Sys2Proof.Machine.execStatusPeriod s
  | .staleTimer => Sys2Proof.Machine.execStaleTimer s
  | .staleDrop => Sys2Proof.Machine.execStaleDrop s
  | .protEvaluation bit v wher => Sys2Proof.Machine.execProtEvaluation bit v wher s
  | .islandSample iShunt iHall vString en0 en1 => Sys2Proof.Machine.execIslandSample iShunt iHall vString en0 en1 s
  | .srdInput ch energised => Sys2Proof.Machine.execSrdInput ch energised s
  | .safeCmdSrd who => Sys2Proof.Machine.execSafeCmdSrd who s
  | .safeCmdTrip who => Sys2Proof.Machine.execSafeCmdTrip who s
  | .srdRampEnd => Sys2Proof.Machine.execSrdRampEnd s
  | .srdCoilTimeout => Sys2Proof.Machine.execSrdCoilTimeout s
  | .safeclkStop => Sys2Proof.Machine.execSafeclkStop s
  | .twinnedSafetyMessage port m => Sys2Proof.Machine.execTwinnedSafetyMessage port m s
  | .safetyWatchdog n => Sys2Proof.Machine.execSafetyWatchdog n s
  | .snetStateTx => Sys2Proof.Machine.execSnetStateTx s
  | .degradeGrant who sec => Sys2Proof.Machine.execDegradeGrant who sec s
  | .degradeExpiry => Sys2Proof.Machine.execDegradeExpiry s
  | .insulStateEnd vp vn => Sys2Proof.Machine.execInsulStateEnd vp vn s
  | .hallDetectOpen => Sys2Proof.Machine.execHallDetectOpen s
  | .claimFrameTx ok => Sys2Proof.Machine.execClaimFrameTx ok s
  | .claimFrameRx claim hb coded => Sys2Proof.Machine.execClaimFrameRx claim hb coded s
  | .claimMonitorSilence => Sys2Proof.Machine.execClaimMonitorSilence s
  | .heartbeatTx => Sys2Proof.Machine.execHeartbeatTx s
  | .heartbeatRx ready other => Sys2Proof.Machine.execHeartbeatRx ready other s
  | .pairLinkLost => Sys2Proof.Machine.execPairLinkLost s
  | .claimEchoRx claim => Sys2Proof.Machine.execClaimEchoRx claim s
  | .claimEchoSilence => Sys2Proof.Machine.execClaimEchoSilence s
  | .relinquishNotice cause => Sys2Proof.Machine.execRelinquishNotice cause s
  | .mirrorSnapshot seq m => Sys2Proof.Machine.execMirrorSnapshot seq m s
  | .phase0BoundaryMessage sec ns dev => Sys2Proof.Machine.execPhase0BoundaryMessage sec ns dev s
  | .islandSelfTest pass => Sys2Proof.Machine.execIslandSelfTest pass s
  | .switchoverResume => Sys2Proof.Machine.execSwitchoverResume s
  | .forcedResetSend => Sys2Proof.Machine.execForcedResetSend s
  | .switchCmd who key => Sys2Proof.Machine.execSwitchCmd who key s
  | .unitBClaimWait => Sys2Proof.Machine.execUnitBClaimWait s
  | .pairIdChange level => Sys2Proof.Machine.execPairIdChange level s
  | .scanStart t => Sys2Proof.Machine.execScanStart t s
  | .scanPublish t => Sys2Proof.Machine.execScanPublish t s
  | .taskRestart who mask => Sys2Proof.Machine.execTaskRestart who mask s
  | .progData who data => Sys2Proof.Machine.execProgData who data s
  | .progLive who => Sys2Proof.Machine.execProgLive who s
  | .stationInFrame via frame => Sys2Proof.Machine.execStationInFrame via frame s
  | .retainInterval => Sys2Proof.Machine.execRetainInterval s
  | .markerWrite who k v => Sys2Proof.Machine.execMarkerWrite who k v s
  | .workItemComplete e => Sys2Proof.Machine.execWorkItemComplete e s
  | .itemTimeout e first second => Sys2Proof.Machine.execItemTimeout e first second s
  | .rateInterval rates => Sys2Proof.Machine.execRateInterval rates s
  | .testRound e first second => Sys2Proof.Machine.execTestRound e first second s
  | .rejoinRetest e pass => Sys2Proof.Machine.execRejoinRetest e pass s
  | .eccError place e addr kind => Sys2Proof.Machine.execEccError place e addr kind s
  | .rselWrite who ring => Sys2Proof.Machine.execRselWrite who ring s
  | .rofsWrite who ofs => Sys2Proof.Machine.execRofsWrite who ofs s
  | .rpopWrite who => Sys2Proof.Machine.execRpopWrite who s
  | .clockMonitorWindow hz locked => Sys2Proof.Machine.execClockMonitorWindow hz locked s
  | .xstatClear who => Sys2Proof.Machine.execXstatClear who s
  | .setCmd who n => Sys2Proof.Machine.execSetCmd who n s
  | .shiftCmd who n => Sys2Proof.Machine.execShiftCmd who n s
  | .snapCmd who => Sys2Proof.Machine.execSnapCmd who s
  | .nsRead who n => Sys2Proof.Machine.execNsRead who n s
  | .tb2RateWrite who rate => Sys2Proof.Machine.execTb2RateWrite who rate s
  | .syncMsg port l2 dev m => Sys2Proof.Machine.execSyncMsg port l2 dev m s
  | .followUp port l2 m => Sys2Proof.Machine.execFollowUp port l2 m s
  | .delayResp port l2 m => Sys2Proof.Machine.execDelayResp port l2 m s
  | .pdelayReq port l2 dev m => Sys2Proof.Machine.execPdelayReq port l2 dev m s
  | .pdelayResp port l2 dev m => Sys2Proof.Machine.execPdelayResp port l2 dev m s
  | .pdelayRespFollowUp port l2 m => Sys2Proof.Machine.execPdelayRespFollowUp port l2 m s
  | .announceMsg port l2 m => Sys2Proof.Machine.execAnnounceMsg port l2 m s
  | .delayReqInterval i0 => Sys2Proof.Machine.execDelayReqInterval i0 s
  | .announceReceiptTimeout i0 sync => Sys2Proof.Machine.execAnnounceReceiptTimeout i0 sync s
  | .timestampEntry port kind i0 id dev => Sys2Proof.Machine.execTimestampEntry port kind i0 id dev s
  | .timestampEntryStale port => Sys2Proof.Machine.execTimestampEntryStale port s
  | .armTrigger who k => Sys2Proof.Machine.execArmTrigger who k s
  | .disarmTrigger who k => Sys2Proof.Machine.execDisarmTrigger who k s
  | .leadingEdge k => Sys2Proof.Machine.execLeadingEdge k s
  | .trailingEdge k => Sys2Proof.Machine.execTrailingEdge k s
  | .captureEdge k rise held dev => Sys2Proof.Machine.execCaptureEdge k rise held dev s
  | .popCapture who k => Sys2Proof.Machine.execPopCapture who k s
  | .canFrameRx ch f c => Sys2Proof.Machine.execCanFrameRx ch f c s
  | .sendCmd who ch => Sys2Proof.Machine.execSendCmd who ch s
  | .txAbort who ch => Sys2Proof.Machine.execTxAbort who ch s
  | .recoverCmd who ch => Sys2Proof.Machine.execRecoverCmd who ch s
  | .canTxComplete ch c => Sys2Proof.Machine.execCanTxComplete ch c s
  | .canTxTimeout ch k => Sys2Proof.Machine.execCanTxTimeout ch k s
  | .busOff ch => Sys2Proof.Machine.execBusOff ch s
  | .busOffRecovered ch => Sys2Proof.Machine.execBusOffRecovered ch s
  | .canLatch => Sys2Proof.Machine.execCanLatch s
  | .almanacSubmission => Sys2Proof.Machine.execAlmanacSubmission s
  | .almanacMigration pass => Sys2Proof.Machine.execAlmanacMigration pass s
  | .compactionComplete => Sys2Proof.Machine.execCompactionComplete s
  | .latchCmd who => Sys2Proof.Machine.execLatchCmd who s
  | .rseqSelect who hi => Sys2Proof.Machine.execRseqSelect who hi s
  | .headerOp who => Sys2Proof.Machine.execHeaderOp who s
  | .tableOp who => Sys2Proof.Machine.execTableOp who s
  | .blockOp who fails => Sys2Proof.Machine.execBlockOp who fails s
  | .finishOp who => Sys2Proof.Machine.execFinishOp who s
  | .updateAbort who => Sys2Proof.Machine.execUpdateAbort who s
  | .updateTransferTimeout => Sys2Proof.Machine.execUpdateTransferTimeout s
  | .activateCmd who act key => Sys2Proof.Machine.execActivateCmd who act key s
  | .disarmCmd who => Sys2Proof.Machine.execDisarmCmd who s
  | .confirmCmd who key => Sys2Proof.Machine.execConfirmCmd who key s
  | .keyWrite who slot => Sys2Proof.Machine.execKeyWrite who slot s
  | .jubileePrepare => Sys2Proof.Machine.execJubileePrepare s
  | .jubileePoint late => Sys2Proof.Machine.execJubileePoint late s
  | .confirmation => Sys2Proof.Machine.execConfirmation s
  | .confirmWindowSave => Sys2Proof.Machine.execConfirmWindowSave s
  | .confirmWindowExpiry => Sys2Proof.Machine.execConfirmWindowExpiry s
  | .classLStoreWrite => Sys2Proof.Machine.execClassLStoreWrite s
  | .gtestGo who phases => Sys2Proof.Machine.execGtestGo who phases s
  | .gstopCmd who => Sys2Proof.Machine.execGstopCmd who s
  | .gtestEnd => Sys2Proof.Machine.execGtestEnd s
  | .unlockCmd who key => Sys2Proof.Machine.execUnlockCmd who key s
  | .relockCmd who => Sys2Proof.Machine.execRelockCmd who s
  | .unlockExpiry => Sys2Proof.Machine.execUnlockExpiry s
  | .svcTimeout => Sys2Proof.Machine.execSvcTimeout s
  | .tmxSelect who k sel => Sys2Proof.Machine.execTmxSelect who k sel s
  | .tapInstruction i0 => Sys2Proof.Machine.execTapInstruction i0 s
  | .preCheckReread r => Sys2Proof.Machine.execPreCheckReread r s
  | .vcoilLow vCoil => Sys2Proof.Machine.execVcoilLow vCoil s
  | .diChange di => Sys2Proof.Machine.execDiChange di s
  | .errorFrame ch kind dataPhase tec erc => Sys2Proof.Machine.execErrorFrame ch kind dataPhase tec erc s
  | .linkUp p up speed full => Sys2Proof.Machine.execLinkUp p up speed full s
  | .sdsAvail available => Sys2Proof.Machine.execSdsAvail available s
  | .bankOkLoss => Sys2Proof.Machine.execBankOkLoss s
  | .arpRequest p ip target => Sys2Proof.Machine.execArpRequest p ip target s
  | .icmpEcho p ip bytes => Sys2Proof.Machine.execIcmpEcho p ip bytes s

end Sys2Proof.Machine
end

