-- ==== Sys2Proof/Machine/Ticks.lean ====
section
/-!
DEFINITION. What the block does by itself, with no command waiting: one clock of CD7, which every time base counts (R429), and the work that a
command left for when its condition is met (DESIGN CHOICE, notes/assumptions/3.md).
-/
namespace Sys2Proof.Machine
open Sys2Proof

/-- The common counter of CD8 over one CD7 clock of 4 ns, in half nanoseconds modulo 2^32 counts of 12.5 ns (R451). -/
def State.tickCan (s : State) : State :=
  let s := { s with can := { s.can with half := (s.can.half + 8) % (25 * 2 ^ 32) } }
  (List.range 4).foldl (fun (s : State) ch => s.canIntegrated ch s.cd8) s

/-- An activation that waited for an apply, a commit or a disconnect (R483). -/
def State.settleActivation (s : State) : State :=
  if s.nvm.actWait && s.crown.trans == .none && s.track.disc == 0 then s.activateStart else s

/-- A fallback held off until the module has left CONNECT, RUN and HOLD (R487). -/
def State.settleFallback (s : State) : State :=
  if s.nvm.fallDue && s.mode != .connect && s.mode != .run && s.mode != .hold then s.updFallback else s

/-- A key that waited for the NOR window (R301, R475), and a converted configuration entry (R488). -/
def State.settleStores (s : State) : State :=
  if s.norPaused then s
  else
    let s := match s.nvm.keyWait with
      | some (k, b) => s.storeKey k b
      | none => s
    if s.nvm.convert then let s := s.storeEntry (s.imgFormat 0)
      { s with nvm := { s.nvm with convert := false } }
    else s

/-- TRANSPORT entry goes on once the journals are written (R54), at an idle clock (DESIGN CHOICE, notes/assumptions/70.md). -/
def State.settleTransport (s : State) : State :=
  if s.crown.trans == .transport && s.mode == .standby && s.journalsDone then s.enterTransport else s

/-- A re-enumeration that waited for a mode that permits it (R137). -/
def State.settleRing (s : State) : State := if s.ringSt.reEnum then s.cmdEnumerate else s

/-- NOTIFYs for the events that wait (R107). -/
def State.settleNotify (s : State) : State := (List.range 8).foldl (fun (s : State) i => s.notifySend i) s

/-- One clock with no command waiting; in TRANSPORT and unpowered nothing runs. -/
def State.tick (s : State) : State :=
  if s.portsLive then
    let s := ((List.range 4).foldl (fun (s : State) n => s.tickBase n) s).tickCan
    (s.dropSingles.takeHeld.settleTransport.lowReset.settleActivation.settleFallback.settleStores.settleRing).settleNotify
  else s

end Sys2Proof.Machine
end

