-- ==== Sys2Proof/Safety.lean ====
section
/-!
DEFINITION. What counts as a safe run, in the terms the claims use.
-/
namespace Sys2Proof.Machine
open Sys2Proof

/-- A state from which the next step goes on. -/
def State.goesOn (s : State) : Prop := ∃ t, step s = .next t

/-- The register file is in canonical form: addresses rise strictly and no register is listed at its reset word, so that equal register files are equal data. -/
def regsCanonical (l : List (Nat × Word)) : Prop := mrising l = true ∧ ∀ e ∈ l, e.2 ≠ resetWord e.1

/-- The state keeps its canonical form. -/
def State.canonical (s : State) : Prop := regsCanonical s.regs

/-- The parts of the state beside the queue of commands. -/
inductive Part
  | regs | staged | shadow | out | free | accErr | readData | meas | tb | crown | stg | q91 | pwm | loop | track | prot | host | rk | scan | imp | est | tmx | disp | eng | ringSt | harv | bal | therm | tele | nvm | time | can | pair | alm
  deriving DecidableEq, Repr

/-- State t differs from state s in the parts listed in T only; the queue is the same, and a canonical register file has stayed canonical. -/
structure Within (T : List Part) (s t : State) : Prop where
  pending : t.pending = s.pending
  canon : regsCanonical s.regs → regsCanonical t.regs
  regs : Part.regs ∉ T → t.regs = s.regs
  staged : Part.staged ∉ T → t.staged = s.staged
  shadow : Part.shadow ∉ T → t.shadow = s.shadow
  out : Part.out ∉ T → t.out = s.out
  free : Part.free ∉ T → t.free = s.free
  accErr : Part.accErr ∉ T → t.accErr = s.accErr
  readData : Part.readData ∉ T → t.readData = s.readData
  meas : Part.meas ∉ T → t.meas = s.meas
  tb : Part.tb ∉ T → t.tb = s.tb
  crown : Part.crown ∉ T → t.crown = s.crown
  stg : Part.stg ∉ T → t.stg = s.stg
  q91 : Part.q91 ∉ T → t.q91 = s.q91
  pwm : Part.pwm ∉ T → t.pwm = s.pwm
  loop : Part.loop ∉ T → t.loop = s.loop
  track : Part.track ∉ T → t.track = s.track
  prot : Part.prot ∉ T → t.prot = s.prot
  host : Part.host ∉ T → t.host = s.host
  rk : Part.rk ∉ T → t.rk = s.rk
  scan : Part.scan ∉ T → t.scan = s.scan
  imp : Part.imp ∉ T → t.imp = s.imp
  est : Part.est ∉ T → t.est = s.est
  tmx : Part.tmx ∉ T → t.tmx = s.tmx
  disp : Part.disp ∉ T → t.disp = s.disp
  eng : Part.eng ∉ T → t.eng = s.eng
  ringSt : Part.ringSt ∉ T → t.ringSt = s.ringSt
  harv : Part.harv ∉ T → t.harv = s.harv
  bal : Part.bal ∉ T → t.bal = s.bal
  therm : Part.therm ∉ T → t.therm = s.therm
  tele : Part.tele ∉ T → t.tele = s.tele
  nvm : Part.nvm ∉ T → t.nvm = s.nvm
  time : Part.time ∉ T → t.time = s.time
  can : Part.can ∉ T → t.can = s.can
  pair : Part.pair ∉ T → t.pair = s.pair
  alm : Part.alm ∉ T → t.alm = s.alm

/-- A command runs to a next state of which a property holds. -/
def Gives (c : Instr) (s : State) (P : State → Prop) : Prop := ∃ t, exec c s = .next t ∧ P t

/-- No field of any live register that lies apart from the fields listed differs between the two states. -/
def OnlyFields (l : List Fld) (s t : State) : Prop := ∀ g, (∀ f ∈ l, f.apart g) → t.rd g = s.rd g

/-- The time bases run on over a reset: one of a warm kind (Table 2-6) at which no trial image falls back. -/
def State.keepsTime (s : State) (k : ResetKind) (i : Start) : Bool := k.warm && !s.degradeLost.trialEnds (s.degradeLost.resetTo k i) k i

/-- What no store keeps but the class K harvest number and the contactor feedback pins is as at reset, and the start has run to step 8 of Table 2-5 or stands in the boot loader. -/
structure Restarted (t : State) : Prop where
  staged : t.staged = []
  shadow : t.shadow = []
  stg : t.stg = {}
  loop : t.loop = {}
  track : t.track = { pins := t.track.pins }
  host : t.host = {}
  imp : t.imp = {}
  tmx : t.tmx = {}
  disp : t.disp = {}
  eng : t.eng = {}
  harv : t.harv = { hseq := t.harv.hseq }
  bal : t.bal = {}
  therm : t.therm = {}
  time : t.time = {}
  can : t.can = {}
  conds : t.prot.conds = []
  booted : t.crown.booted = true ∨ t.crown.phase = .bootLoader

/-- The modes that a safe ramp-down or a hard trip leads to SAFE (Table 2-2, R37); TRANSPORT, STANDBY and SERVICE it leaves as they are. -/
def Mode.canStop : Mode → Bool
  | .transport | .standby | .service => false
  | _ => true

/-- The unit can be stopped: its mode is none of STANDBY, TRANSPORT and SERVICE, and it keeps no mode of its partner's (R359). -/
def State.canStop (s : State) : Bool := s.mode.canStop && !s.shadows

/-- A stop of the converter is under way or has ended in SAFE. -/
def Stopping (t : State) : Prop := t.prot.srd.isSome = true ∨ t.mode = .safe

/-- The commands of which no effect is a change of mode (Table 2-2, R37). -/
def keepsMode : Instr → Bool
  | .bankOk .. | .dormantWake .. | .aonTimerWake .. | .transportVauxArm .. | .stagedWrite .. | .discardCmd .. | .stagingTimeout ..
    | .commitStoreComplete .. | .retryCntClear .. | .lastingClear .. | .hostNonce .. | .hostOpen .. | .hostClose .. | .hostSessionTimeout ..
    | .ralkiulOpen .. | .ralkiulProof .. | .ralkiulNotifyAck .. | .ralkiulKeepalive .. | .ralkiulClose .. | .ralkiulChallengeLapse ..
    | .ralkiulSessionTimeout .. | .notifyRetry .. | .ringPortLinkDown .. | .ringPortSynchronised .. | .ringReply .. | .ringReplyTimeout ..
    | .ringSeqRelease .. | .linkReport .. | .keepalive .. | .keepaliveReturn .. | .keepaliveFail .. | .enumReturn .. | .enumTimeout ..
    | .echoReturn .. | .delayPeriod .. | .wakeSequenceReturn .. | .wakeSequenceTimeout .. | .enumerateCmd .. | .measureCmd .. | .harvestSlot ..
    | .pauseLaunch .. | .harvestData .. | .harvestDataDeadline .. | .harvestClose .. | .tHarvestDue .. | .tHarvestLaunch .. | .oneshotV ..
    | .oneshotC .. | .oneshotT .. | .freezeCmd .. | .freezeExpiry .. | .loopClosed .. | .planInterval .. | .planNow .. | .balStop ..
    | .stopConfirmTimeout .. | .clrNfault .. | .periodStart .. | .centreTakeup .. | .cbcTrip .. | .phaseClrFault .. | .shedHoldExpiry ..
    | .burstOffEnd .. | .startSample .. | .fbRepull .. | .pullInEnd .. | .coilOvercurrent .. | .startAt .. | .formAt .. | .k6On .. | .k6Off ..
    | .clrWeld .. | .impedStart .. | .impedStartEval .. | .impedStop .. | .impedWindowEnd .. | .impedCorrelation .. | .impedSetClose ..
    | .impedRampEnd .. | .writeNow .. | .learnedJournalInterval .. | .stateJournalInterval .. | .journalWriteComplete .. | .deferredWrite ..
    | .thermClrFault .. | .telemWindowEnd .. | .pkClr .. | .cntReset .. | .counterSlotInterval .. | .counterLoRead .. | .limiterChain ..
    | .statusPeriod .. | .staleTimer .. | .snetStateTx .. | .degradeGrant .. | .degradeExpiry .. | .hallDetectOpen .. | .heartbeatTx ..
    | .pairLinkLost .. | .claimEchoRx .. | .phase0BoundaryMessage .. | .forcedResetSend .. | .switchCmd .. | .unitBClaimWait .. | .pairIdChange ..
    | .scanPublish .. | .taskRestart .. | .progLive .. | .stationInFrame .. | .retainInterval .. | .markerWrite .. | .workItemComplete ..
    | .rselWrite .. | .rofsWrite .. | .rpopWrite .. | .xstatClear .. | .setCmd .. | .shiftCmd .. | .snapCmd .. | .nsRead .. | .tb2RateWrite ..
    | .syncMsg .. | .followUp .. | .delayResp .. | .pdelayReq .. | .pdelayResp .. | .pdelayRespFollowUp .. | .announceMsg .. | .delayReqInterval ..
    | .announceReceiptTimeout .. | .timestampEntry .. | .timestampEntryStale .. | .armTrigger .. | .disarmTrigger .. | .leadingEdge ..
    | .trailingEdge .. | .captureEdge .. | .popCapture .. | .canFrameRx .. | .sendCmd .. | .txAbort .. | .recoverCmd .. | .canTxComplete ..
    | .canTxTimeout .. | .busOff .. | .busOffRecovered .. | .canLatch .. | .almanacSubmission .. | .almanacMigration .. | .compactionComplete ..
    | .latchCmd .. | .rseqSelect .. | .updateTransferTimeout .. | .keyWrite .. | .jubileePrepare .. | .confirmation .. | .confirmWindowSave ..
    | .classLStoreWrite .. | .gtestGo .. | .gstopCmd .. | .gtestEnd .. | .unlockCmd .. | .relockCmd .. | .unlockExpiry .. | .tmxSelect ..
    | .tapInstruction .. | .vcoilLow .. | .diChange .. | .errorFrame .. | .linkUp .. | .sdsAvail .. | .bankOkLoss .. | .arpRequest .. | .icmpEcho .. => true
  | .powerOnReset .. | .supplyReset .. | .externalResetPin .. | .watchdogReset .. | .softwareWarmReset .. | .pairForcedReset .. | .startComplete ..
    | .vauxWarning .. | .vauxWarningRelease .. | .holdMaxExpiry .. | .bankReserve .. | .vauxReset .. | .modeReqTransport .. | .modeReqStandby ..
    | .safeExitJudgement .. | .modeReqConnect .. | .modeReqRun .. | .modeReqRest .. | .modeReqSafeAcknowledge .. | .modeReqService ..
    | .modeReqDormant .. | .transportWake .. | .registerWrite .. | .checkCmd .. | .checkComplete .. | .applyCmd .. | .abortCmd .. | .discardAll ..
    | .applyLaunch .. | .applyLoadDeadline .. | .applyEdge .. | .applyTakeupComplete .. | .secureCommit .. | .evtStatusClear .. | .hostRead ..
    | .hostWrite .. | .ralkiulRead .. | .ralkiulWrite .. | .ringClrErr .. | .plausibilityCheck .. | .loopOpen .. | .phase0Boundary ..
    | .faultReturn .. | .innerSample .. | .outerSample .. | .loopPlausWindow .. | .contactorFeedback .. | .fbCloseTimeout .. | .fbOpenTimeout ..
    | .prechargePeakWindow .. | .prechargeEnd .. | .prechargeTimeout .. | .meetHeld .. | .meetTimeout .. | .trackingError .. | .formedHeld ..
    | .retryWaitExpiry .. | .disconnectWaitExpiry .. | .estimatorStep .. | .initCmd .. | .resetCell .. | .thermalUpdate .. | .tjReading ..
    | .tachCheck .. | .currentMsg .. | .powerMsg .. | .voltageMsg .. | .modeMsg .. | .impStart .. | .impStop .. | .takeCmd .. | .staleDrop ..
    | .protEvaluation .. | .islandSample .. | .srdInput .. | .safeCmdSrd .. | .safeCmdTrip .. | .srdRampEnd .. | .srdCoilTimeout .. | .safeclkStop ..
    | .twinnedSafetyMessage .. | .safetyWatchdog .. | .insulStateEnd .. | .claimFrameTx .. | .claimFrameRx .. | .claimMonitorSilence ..
    | .heartbeatRx .. | .claimEchoSilence .. | .relinquishNotice .. | .mirrorSnapshot .. | .islandSelfTest .. | .switchoverResume .. | .scanStart ..
    | .progData .. | .itemTimeout .. | .rateInterval .. | .testRound .. | .rejoinRetest .. | .eccError .. | .clockMonitorWindow .. | .headerOp ..
    | .tableOp .. | .blockOp .. | .finishOp .. | .updateAbort .. | .activateCmd .. | .disarmCmd .. | .confirmCmd .. | .jubileePoint ..
    | .confirmWindowExpiry .. | .svcTimeout .. | .preCheckReread .. => false

/-- The parts of the state that a command may change; every other part it leaves as it is (the frame of the command). -/
def touches : Instr → List Part
  | .bankOk .. | .ringPortSynchronised .. | .freezeExpiry .. | .shedHoldExpiry .. | .phase0BoundaryMessage .. | .linkUp .. | .bankOkLoss .. =>
    [.regs]
  | .transportVauxArm .. =>
    [.crown]
  | .ralkiulChallengeLapse .. =>
    [.rk]
  | .tHarvestDue .. =>
    [.harv]
  | .centreTakeup .. =>
    [.pwm]
  | .pullInEnd .. =>
    [.track]
  | .counterSlotInterval .. =>
    [.tele]
  | .claimEchoRx .. =>
    [.pair]
  | .pairIdChange .. =>
    [.q91]
  | .classLStoreWrite .. =>
    [.nvm]
  | .arpRequest .. | .icmpEcho .. =>
    [.out]
  | .checkComplete .. =>
    [.regs, .stg]
  | .hostSessionTimeout .. =>
    [.regs, .host]
  | .ralkiulNotifyAck .. | .ralkiulKeepalive .. =>
    [.regs, .rk]
  | .ringSeqRelease .. | .keepalive .. =>
    [.out, .ringSt]
  | .pauseLaunch .. | .tHarvestLaunch .. =>
    [.out, .harv]
  | .burstOffEnd .. =>
    [.regs, .pwm]
  | .fbRepull .. =>
    [.regs, .track]
  | .snetStateTx .. =>
    [.out, .prot]
  | .hallDetectOpen .. =>
    [.regs, .prot]
  | .forcedResetSend .. =>
    [.out, .pair]
  | .retainInterval .. =>
    [.scan, .nvm]
  | .pdelayReq .. | .delayReqInterval .. =>
    [.out, .time]
  | .announceMsg .. | .timestampEntryStale .. | .leadingEdge .. =>
    [.regs, .time]
  | .canLatch .. =>
    [.regs, .can]
  | .updateTransferTimeout .. | .confirmWindowSave .. =>
    [.regs, .nvm]
  | .tapInstruction .. =>
    [.free, .tmx]
  | .sdsAvail .. =>
    [.regs, .crown]
  | .ralkiulProof .. | .notifyRetry .. =>
    [.regs, .out, .rk]
  | .startSample .. =>
    [.regs, .pwm, .loop]
  | .formAt .. =>
    [.regs, .loop, .track]
  | .impedCorrelation .. =>
    [.regs, .imp, .eng]
  | .applyLaunch .. =>
    [.regs, .shadow, .stg, .scan]
  | .commitStoreComplete .. =>
    [.regs, .stg, .q91, .nvm]
  | .evtStatusClear .. | .retryCntClear .. | .lastingClear .. | .ringClrErr .. | .freezeCmd .. | .clrNfault .. | .pkClr .. | .markerWrite ..
    | .rofsWrite .. | .xstatClear .. | .snapCmd .. | .tb2RateWrite .. | .latchCmd .. | .tmxSelect .. =>
    [.regs, .accErr, .q91, .host]
  | .ralkiulOpen .. =>
    [.regs, .out, .free, .rk]
  | .pairLinkLost .. | .diChange .. | .errorFrame .. =>
    [.regs, .q91, .rk, .scan]
  | .stagingTimeout .. =>
    [.regs, .staged, .shadow, .stg, .scan]
  | .secureCommit .. =>
    [.regs, .accErr, .stg, .q91, .host]
  | .hostNonce .. =>
    [.regs, .free, .accErr, .readData, .host]
  | .hostOpen .. | .hostClose .. | .nsRead .. =>
    [.regs, .accErr, .readData, .q91, .host]
  | .harvestData .. =>
    [.regs, .q91, .rk, .scan, .harv]
  | .loopClosed .. | .degradeExpiry .. =>
    [.regs, .q91, .prot, .rk, .scan]
  | .stopConfirmTimeout .. =>
    [.regs, .out, .q91, .ringSt, .bal]
  | .phaseClrFault .. | .clrWeld .. =>
    [.regs, .accErr, .q91, .prot, .host]
  | .startAt .. =>
    [.regs, .pwm, .loop, .track, .prot]
  | .impedStart .. =>
    [.regs, .accErr, .q91, .host, .imp]
  | .learnedJournalInterval .. | .stateJournalInterval .. | .journalWriteComplete .. =>
    [.regs, .q91, .rk, .scan, .est]
  | .thermalUpdate .. =>
    [.regs, .q91, .rk, .scan, .therm]
  | .thermClrFault .. =>
    [.regs, .accErr, .q91, .host, .therm]
  | .cntReset .. =>
    [.regs, .accErr, .q91, .host, .tele]
  | .staleTimer .. =>
    [.regs, .q91, .rk, .scan, .disp]
  | .heartbeatTx .. =>
    [.regs, .out, .q91, .rk, .scan]
  | .stationInFrame .. | .workItemComplete .. | .rateInterval .. | .canTxTimeout .. =>
    [.regs, .q91, .rk, .scan, .eng]
  | .rselWrite .. | .rpopWrite .. =>
    [.regs, .accErr, .q91, .host, .eng]
  | .announceReceiptTimeout .. | .trailingEdge .. | .captureEdge .. =>
    [.regs, .q91, .rk, .scan, .time]
  | .popCapture .. =>
    [.regs, .accErr, .q91, .host, .time]
  | .busOff .. | .busOffRecovered .. =>
    [.regs, .q91, .rk, .scan, .can]
  | .almanacMigration .. =>
    [.regs, .q91, .rk, .scan, .alm]
  | .rseqSelect .. =>
    [.regs, .accErr, .q91, .host, .alm]
  | .confirmation .. =>
    [.regs, .q91, .rk, .scan, .nvm]
  | .unlockExpiry .. =>
    [.regs, .q91, .rk, .scan, .tmx]
  | .vcoilLow .. =>
    [.regs, .q91, .track, .rk, .scan]
  | .stagedWrite .. =>
    [.regs, .staged, .accErr, .stg, .q91, .host]
  | .discardCmd .. =>
    [.regs, .staged, .accErr, .q91, .host, .scan]
  | .hostRead .. | .counterLoRead .. | .progLive .. =>
    [.regs, .accErr, .readData, .q91, .host, .tele]
  | .ralkiulClose .. | .ralkiulSessionTimeout .. =>
    [.regs, .staged, .shadow, .stg, .rk, .scan]
  | .ringPortLinkDown .. | .linkReport .. =>
    [.regs, .q91, .rk, .scan, .ringSt, .harv]
  | .oneshotV .. | .oneshotC .. | .oneshotT .. =>
    [.regs, .out, .accErr, .q91, .host, .harv]
  | .periodStart .. =>
    [.regs, .q91, .pwm, .loop, .rk, .scan]
  | .cbcTrip .. =>
    [.regs, .q91, .pwm, .rk, .scan, .imp]
  | .telemWindowEnd .. =>
    [.regs, .q91, .rk, .scan, .eng, .tele]
  | .taskRestart .. =>
    [.regs, .accErr, .q91, .prot, .host, .scan]
  | .compactionComplete .. =>
    [.regs, .q91, .rk, .scan, .nvm, .alm]
  | .dormantWake .. | .aonTimerWake .. =>
    [.regs, .out, .q91, .rk, .scan, .ringSt, .can]
  | .wakeSequenceReturn .. | .wakeSequenceTimeout .. | .harvestDataDeadline .. =>
    [.regs, .out, .q91, .rk, .scan, .ringSt, .harv]
  | .harvestSlot .. =>
    [.regs, .out, .q91, .rk, .scan, .imp, .harv]
  | .k6On .. | .k6Off .. =>
    [.regs, .accErr, .q91, .track, .host, .rk, .scan]
  | .initCmd .. | .writeNow .. | .resetCell .. =>
    [.regs, .accErr, .q91, .host, .rk, .scan, .est]
  | .deferredWrite .. | .jubileePrepare .. =>
    [.regs, .q91, .rk, .scan, .est, .tele, .nvm]
  | .limiterChain .. =>
    [.regs, .out, .q91, .rk, .scan, .disp, .pair]
  | .statusPeriod .. =>
    [.regs, .out, .q91, .rk, .scan, .disp, .eng]
  | .degradeGrant .. =>
    [.regs, .accErr, .q91, .prot, .host, .rk, .scan]
  | .heartbeatRx .. =>
    [.regs, .out, .q91, .rk, .scan, .tmx, .pair]
  | .scanPublish .. =>
    [.regs, .out, .q91, .rk, .scan, .eng, .pair]
  | .armTrigger .. | .disarmTrigger .. =>
    [.regs, .accErr, .q91, .host, .rk, .scan, .time]
  | .canFrameRx .. =>
    [.regs, .free, .q91, .rk, .scan, .eng, .can]
  | .canTxComplete .. =>
    [.regs, .out, .q91, .rk, .scan, .eng, .can]
  | .almanacSubmission .. =>
    [.regs, .out, .q91, .rk, .scan, .pair, .alm]
  | .keyWrite .. =>
    [.regs, .accErr, .q91, .host, .rk, .scan, .nvm]
  | .unlockCmd .. | .relockCmd .. =>
    [.regs, .accErr, .q91, .host, .rk, .scan, .tmx]
  | .safeExitJudgement .. =>
    [.regs, .crown, .q91, .rk, .scan, .est, .tele, .nvm]
  | .checkCmd .. | .applyCmd .. | .abortCmd .. | .discardAll .. =>
    [.regs, .staged, .shadow, .accErr, .stg, .q91, .host, .scan]
  | .ralkiulRead .. =>
    [.regs, .out, .accErr, .readData, .q91, .host, .rk, .tele]
  | .planInterval .. =>
    [.regs, .out, .q91, .rk, .scan, .ringSt, .bal, .pair]
  | .estimatorStep .. =>
    [.regs, .out, .q91, .rk, .scan, .est, .harv, .pair]
  | .sendCmd .. | .txAbort .. | .recoverCmd .. =>
    [.regs, .accErr, .q91, .host, .rk, .scan, .eng, .can]
  | .gtestEnd .. =>
    [.regs, .q91, .pwm, .loop, .prot, .rk, .scan, .tmx]
  | .ringReplyTimeout .. | .echoReturn .. | .delayPeriod .. | .unitBClaimWait .. =>
    [.regs, .out, .crown, .q91, .rk, .scan, .ringSt, .bal, .pair]
  | .enumerateCmd .. =>
    [.regs, .out, .accErr, .q91, .host, .rk, .scan, .ringSt, .harv]
  | .balStop .. =>
    [.regs, .out, .accErr, .q91, .host, .rk, .scan, .ringSt, .bal]
  | .enumReturn .. | .enumTimeout .. =>
    [.regs, .out, .crown, .q91, .rk, .scan, .ringSt, .harv, .bal, .pair]
  | .planNow .. =>
    [.regs, .out, .accErr, .q91, .host, .rk, .scan, .ringSt, .bal, .pair]
  | .fbCloseTimeout .. | .prechargePeakWindow .. | .prechargeTimeout .. | .meetTimeout .. | .trackingError .. =>
    [.regs, .q91, .pwm, .track, .prot, .rk, .scan, .est, .tele, .nvm]
  | .impedSetClose .. =>
    [.regs, .out, .free, .q91, .rk, .scan, .imp, .est, .eng, .pair]
  | .syncMsg .. | .followUp .. | .delayResp .. | .pdelayResp .. | .pdelayRespFollowUp .. =>
    [.regs, .shadow, .tb, .stg, .q91, .rk, .scan, .est, .time, .can]
  | .gtestGo .. | .gstopCmd .. =>
    [.regs, .accErr, .q91, .pwm, .loop, .prot, .host, .rk, .scan, .tmx]
  | .ringReply .. =>
    [.regs, .out, .crown, .q91, .rk, .scan, .imp, .est, .ringSt, .bal, .pair]
  | .measureCmd .. =>
    [.regs, .out, .accErr, .crown, .q91, .host, .rk, .scan, .ringSt, .bal, .pair]
  | .harvestClose .. =>
    [.regs, .out, .q91, .rk, .scan, .imp, .eng, .ringSt, .harv, .bal, .pair]
  | .impedWindowEnd .. | .impedRampEnd .. =>
    [.regs, .out, .q91, .pwm, .loop, .rk, .scan, .imp, .ringSt, .bal, .pair]
  | .timestampEntry .. =>
    [.regs, .shadow, .out, .tb, .stg, .q91, .rk, .scan, .est, .time, .can]
  | .coilOvercurrent .. =>
    [.regs, .out, .q91, .pwm, .loop, .track, .rk, .scan, .imp, .ringSt, .bal, .pair]
  | .impedStartEval .. =>
    [.regs, .out, .free, .q91, .pwm, .rk, .scan, .imp, .est, .disp, .eng, .pair]
  | .setCmd .. | .shiftCmd .. =>
    [.regs, .shadow, .accErr, .tb, .stg, .q91, .host, .rk, .scan, .est, .time, .can]
  | .keepaliveReturn .. | .keepaliveFail .. =>
    [.regs, .out, .crown, .q91, .pwm, .loop, .rk, .scan, .imp, .ringSt, .harv, .bal, .pair]
  | .disconnectWaitExpiry .. =>
    [.regs, .out, .crown, .q91, .track, .prot, .rk, .scan, .est, .ringSt, .bal, .tele, .nvm]
  | .impedStop .. =>
    [.regs, .out, .accErr, .q91, .pwm, .loop, .host, .rk, .scan, .imp, .ringSt, .bal, .pair]
  | .applyLoadDeadline .. =>
    [.regs, .shadow, .out, .crown, .stg, .q91, .pwm, .loop, .track, .rk, .scan, .imp, .ringSt, .bal, .pair]
  | .mirrorSnapshot .. =>
    [.regs, .out, .free, .q91, .loop, .track, .rk, .scan, .imp, .est, .disp, .eng, .harv, .bal, .pair]
  | .vauxWarning .. =>
    [.regs, .shadow, .out, .crown, .stg, .q91, .pwm, .loop, .rk, .scan, .imp, .est, .ringSt, .bal, .tele, .pair]
  | .srdRampEnd .. | .srdCoilTimeout .. =>
    [.regs, .out, .crown, .q91, .pwm, .loop, .track, .prot, .rk, .scan, .est, .tmx, .ringSt, .bal, .tele, .nvm]
  | .prechargeEnd .. | .meetHeld .. | .formedHeld .. | .staleDrop .. =>
    [.regs, .out, .crown, .q91, .pwm, .loop, .track, .prot, .rk, .scan, .imp, .est, .ringSt, .bal, .tele, .nvm, .pair]
  | .contactorFeedback .. =>
    [.regs, .out, .crown, .q91, .pwm, .loop, .track, .prot, .rk, .scan, .imp, .est, .tmx, .ringSt, .bal, .tele, .nvm, .pair]
  | .switchCmd .. =>
    [.regs, .shadow, .out, .accErr, .crown, .stg, .q91, .pwm, .loop, .track, .prot, .host, .rk, .scan, .imp, .ringSt, .bal, .pair]
  | .holdMaxExpiry .. | .bankReserve .. | .loopOpen .. | .faultReturn .. | .innerSample .. | .loopPlausWindow .. | .fbOpenTimeout ..
    | .retryWaitExpiry .. | .protEvaluation .. | .islandSample .. | .srdInput .. | .safeclkStop .. | .twinnedSafetyMessage ..
    | .safetyWatchdog .. | .insulStateEnd .. | .claimFrameTx .. | .islandSelfTest .. | .switchoverResume .. =>
    [.regs, .shadow, .out, .crown, .stg, .q91, .pwm, .loop, .track, .prot, .rk, .scan, .imp, .est, .tmx, .ringSt, .bal, .tele, .nvm, .pair]
  | .phase0Boundary .. =>
    [.regs, .out, .crown, .stg, .q91, .pwm, .loop, .track, .prot, .rk, .scan, .imp, .est, .tmx, .ringSt, .harv, .bal, .tele, .nvm, .pair]
  | .outerSample .. =>
    [.regs, .out, .meas, .crown, .q91, .pwm, .loop, .track, .prot, .rk, .scan, .imp, .est, .tmx, .disp, .ringSt, .bal, .tele, .nvm, .pair]
  | .tjReading .. | .tachCheck .. =>
    [.regs, .shadow, .out, .crown, .stg, .q91, .pwm, .loop, .track, .prot, .rk, .scan, .imp, .est, .tmx, .ringSt, .bal, .therm, .tele, .nvm, .pair]
  | .claimFrameRx .. | .claimMonitorSilence .. | .claimEchoSilence .. | .relinquishNotice .. =>
    [.regs, .shadow, .out, .crown, .stg, .q91, .pwm, .loop, .track, .prot, .rk, .scan, .imp, .est, .tmx, .ringSt, .bal, .tele, .nvm, .can, .pair]
  | .itemTimeout .. | .testRound .. | .rejoinRetest .. | .eccError .. =>
    [.regs, .shadow, .out, .crown, .stg, .q91, .pwm, .loop, .track, .prot, .rk, .scan, .imp, .est, .tmx, .eng, .ringSt, .bal, .tele, .nvm, .pair]
  | .clockMonitorWindow .. =>
    [.regs, .shadow, .out, .crown, .stg, .q91, .pwm, .loop, .track, .prot, .rk, .scan, .imp, .est, .tmx, .ringSt, .bal, .tele, .nvm, .time, .pair]
  | .preCheckReread .. =>
    [.regs, .shadow, .out, .meas, .crown, .stg, .q91, .pwm, .loop, .track, .prot, .rk, .scan, .imp, .est, .tmx, .ringSt, .bal, .tele, .nvm, .pair]
  | .plausibilityCheck .. =>
    [.regs, .shadow, .out, .crown, .stg, .q91, .pwm, .loop, .track, .prot, .rk, .scan, .imp, .est, .tmx, .eng, .ringSt, .harv, .bal, .tele, .nvm, .pair]
  | .safeCmdSrd .. | .safeCmdTrip .. =>
    [.regs, .shadow, .out, .accErr, .crown, .stg, .q91, .pwm, .loop, .track, .prot, .host, .rk, .scan, .imp, .est, .tmx, .ringSt, .bal, .tele, .nvm, .pair]
  | .modeReqTransport .. | .modeReqStandby .. | .modeReqConnect .. | .modeReqRun .. | .modeReqRest .. | .modeReqSafeAcknowledge ..
    | .modeReqService .. | .modeReqDormant .. =>
    [.regs, .shadow, .out, .accErr, .crown, .stg, .q91, .pwm, .loop, .track, .prot, .host, .rk, .scan, .imp, .est, .tmx, .ringSt, .harv, .bal, .tele, .nvm, .pair]
  | .applyEdge .. =>
    [.regs, .shadow, .out, .crown, .stg, .q91, .pwm, .loop, .track, .prot, .rk, .scan, .imp, .est, .tmx, .disp, .ringSt, .harv, .bal, .tele, .nvm, .time, .can, .pair]
  | .currentMsg .. | .powerMsg .. | .voltageMsg .. | .modeMsg .. | .impStart .. | .impStop .. =>
    [.regs, .shadow, .out, .crown, .stg, .q91, .pwm, .loop, .track, .prot, .host, .rk, .scan, .imp, .est, .tmx, .disp, .eng, .ringSt, .harv, .bal, .tele, .nvm, .pair]
  | .takeCmd .. =>
    [.regs, .shadow, .out, .accErr, .crown, .stg, .q91, .pwm, .loop, .track, .prot, .host, .rk, .scan, .imp, .est, .tmx, .disp, .eng, .ringSt, .harv, .bal, .tele, .nvm, .pair]
  | .powerOnReset .. | .supplyReset .. | .externalResetPin .. | .watchdogReset .. | .softwareWarmReset .. | .pairForcedReset ..
    | .startComplete .. | .vauxWarningRelease .. | .vauxReset .. | .transportWake .. | .registerWrite .. | .applyTakeupComplete ..
    | .hostWrite .. | .ralkiulWrite .. | .progData .. | .headerOp .. | .tableOp .. | .blockOp .. | .finishOp .. | .updateAbort ..
    | .activateCmd .. | .disarmCmd .. | .confirmCmd .. | .jubileePoint .. | .confirmWindowExpiry .. | .svcTimeout .. =>
    [.regs, .staged, .shadow, .out, .accErr, .readData, .tb, .crown, .stg, .q91, .pwm, .loop, .track, .prot, .host, .rk, .scan, .imp, .est, .tmx, .disp, .eng, .ringSt, .harv, .bal, .therm, .tele, .nvm, .time, .can, .pair, .alm]
  | .scanStart .. =>
    [.regs, .staged, .shadow, .out, .free, .accErr, .readData, .tb, .crown, .stg, .q91, .pwm, .loop, .track, .prot, .host, .rk, .scan, .imp, .est, .tmx, .disp, .eng, .ringSt, .harv, .bal, .therm, .tele, .nvm, .time, .can, .pair, .alm]

end Sys2Proof.Machine
end

