-- ==== Sys2Proof/Certificates/Slice0/Obligations.lean ====
section
/-!
DEFINITION. The statements about the model: each names the commands it speaks of, the conditions on state and operands under which each answers a next state, and what that state holds.
-/
open Sys2Proof Sys2Proof.Machine

/-- A step of a state with a command at the front of its queue is exec of that command on the state with the rest of the queue. Rests on the model's
  choices in the log entries 4 (notes/assumptions). -/
def Obligations.StepRunsFront : Prop :=
  ∀ (c : Instr) (rest : List Instr) (s : State), step { s with pending := c :: rest } = exec c { s with pending := rest }

/-- With no command waiting a step is one clock of the block by itself, which the model calls tick; no row of the opcode table has bits, so no word
  decodes to a command and putting a word in front leaves the state as it is. Rests on the model's choices in the log entries 3, 5
  (notes/assumptions). -/
def Obligations.IdleStepAndWords : Prop :=
  (∀ s : State, s.pending = [] → step s = .next s.tick) ∧
  ∀ (nbits w : Nat) (s : State), decodeTableWord nbits w = none ∧ s.withFetchWord nbits w = s

/-- The state after reset keeps the canonical form, its queue is empty, nothing is staged or sent, the mode field reads STANDBY, its reset value, and
  every register reads as its reset word; each assigned page reads layout version 1.0. Rests on the model's choices in the log entries 1, 6
  (notes/assumptions). -/
def Obligations.ResetState : Prop :=
  State.reset.canonical ∧ State.reset.pending = [] ∧ State.reset.staged = [] ∧ State.reset.shadow = [] ∧ State.reset.out = [] ∧ State.reset.mode = .standby ∧
  (∀ a : Nat, State.reset.word a = resetWord a) ∧
  ∀ p : Fin 256, assigned p.val = true → State.reset.rd (pageFld p.val 0x004 8 8) = 1 ∧ State.reset.rd (pageFld p.val 0x004 0 8) = 0

/-- From every state whose register file is in canonical form (addresses strictly rising, nothing listed at its reset word), a step that answers a
  next state, of a command or of the idle clock, gives one whose register file is in canonical form. Rests on the model's choices in the log entries
  6 (notes/assumptions). -/
def Obligations.CanonicalKept : Prop :=
  ∀ s t : State, s.canonical → step s = .next t → t.canonical

/-- Every command with every operand, from every state, answers a next state that differs from the old one in the parts of the state its frame
  (touches) lists and in no other, with the queue unchanged and a canonical register file still canonical. Rests on the model's choices in the log
  entries 2 (notes/assumptions). -/
def Obligations.EveryCommandFramed : Prop :=
  ∀ (c : Instr) (s : State), Gives c s (Within (touches c) s)

/-- None of the commands for which keepsMode answers true changes CROWN.MODE, whatever the state and the operands. Rests on the model's choices in
  the log entries 2 (notes/assumptions). -/
def Obligations.ModeKept : Prop :=
  ∀ (c : Instr) (s t : State), keepsMode c = true → exec c s = .next t → t.mode = s.mode

/-- Each clause under the conditions it writes: a power-on, supply, external or watchdog reset, a software warm reset, a pair-forced reset of a
  paired unit, an armed wake from TRANSPORT, and VAUX below its reset level in SAFE or SERVICE each leave a state that Restarted describes; the time
  bases are at reset after the power-on, supply, external and VAUX resets and the wake, and after the watchdog, software and pair-forced ones kept
  where keepsTime holds, else at reset. During a take-up an external or watchdog reset is kept for its end and no register changes. A software warm
  reset of a solo or active unit in CONNECT, RUN or HOLD sets RESET.CAUSE.REFUSED and changes no other field. Rests on the model's choices in the log
  entries 2, 26, 28, 73 (notes/assumptions). -/
def Obligations.ResetsClear : Prop :=
  (∀ (i : Start) (s : State), Gives (.powerOnReset i) s fun t => Restarted t ∧ t.tb = []) ∧
  (∀ (i : Start) (s : State), Gives (.supplyReset i) s fun t => Restarted t ∧ t.tb = []) ∧
  (∀ (i : Start) (s : State), s.stg.takeUp = false → Gives (.externalResetPin i) s fun t => Restarted t ∧ t.tb = []) ∧
  (∀ (i : Start) (s : State), s.stg.takeUp = false → Gives (.watchdogReset i) s fun t => Restarted t ∧ t.tb = if s.keepsTime .watchdog i then s.tb
    else []) ∧
  (∀ (who : Initiator) (s : State), s.barred who A.RESET_CMD true = 0 → s.stg.takeUp = false → (2 ≤ s.rd F.PAIR_STATUS_ROLE ∨ (s.mode ≠ .connect ∧
    s.mode ≠ .run ∧ s.mode ≠ .hold)) → Gives (.softwareWarmReset who 0xA5C3 1) s fun t => Restarted t ∧ t.tb = if s.keepsTime .softwareWarm
    s.startNow then s.tb else []) ∧
  (∀ (i : Start) (s : State), s.on F.PAIR_CFG_PAIRED = true → s.stg.takeUp = false → Gives (.pairForcedReset i) s fun t => Restarted t ∧ t.tb = if
    s.keepsTime .pairForced i then s.tb else []) ∧
  (∀ (i : Start) (s : State), s.mode = .transport → s.crown.vauxArmed = true → Gives (.transportWake false i) s fun t => Restarted t ∧ t.tb = []) ∧
  (∀ (i : Start) (s : State), s.mode = .transport → s.crown.busArmed = true → Gives (.transportWake true i) s fun t => Restarted t ∧ t.tb = []) ∧
  (∀ (s : State), (s.mode = .safe ∨ s.mode = .service) → s.crown.phase = .complete → s.on F.SUPPLY_STATUS_SDS_ACTIVE = false → Gives .vauxReset s fun
    t => Restarted t ∧ t.tb = []) ∧
  (∀ (i : Start) (s : State), s.stg.takeUp = true → Gives (.externalResetPin i) s fun t => t.crown.heldReset = some (.externalPin, i) ∧ t.regs =
    s.regs) ∧
  (∀ (i : Start) (s : State), s.stg.takeUp = true → Gives (.watchdogReset i) s fun t => t.crown.heldReset = some (.watchdog, i) ∧ t.regs = s.regs) ∧
  (∀ (who : Initiator) (s : State), s.barred who A.RESET_CMD true = 0 → s.rd F.PAIR_STATUS_ROLE < 2 → (s.mode = .connect ∨ s.mode = .run ∨ s.mode =
    .hold) → Gives (.softwareWarmReset who 0xA5C3 1) s fun t => t.rd F.RESET_CAUSE_REFUSED = 1 ∧ OnlyFields [F.RESET_CAUSE_REFUSED] s t)

/-- Each clause under the conditions it writes: the hold-up bank and the string-derived supply show in SUPPLY.STATUS, which alone changes; VAUX arms
  its wake in TRANSPORT; VAUX below its reset level outside SAFE and SERVICE is noted and changes no register. A dip without another source takes
  STANDBY, CONNECT, RUN or REST of a solo or active unit into HOLD with PREV and HOLD_ACTIVE; with the string-derived supply enabled and available
  that supply takes over and the mode stays. The return of VAUX in HOLD shows VAUX_OK and leads out of HOLD, and to the mode in PREV where no
  transition or disconnect was under way and that mode is not CONNECT. HOLD_MAX and the bank's reserve in HOLD of a unit in control have a stop under
  way; outside HOLD the reserve only shows. Rests on the model's choices in the log entries 2, 27 (notes/assumptions). -/
def Obligations.HoldAndSupplies : Prop :=
  (∀ (s : State), Gives .bankOk s fun t => t.rd F.SUPPLY_STATUS_BANK_OK = 1 ∧ t.rd F.SUPPLY_STATUS_BANK_RESERVE = 0 ∧ OnlyFields
    [F.SUPPLY_STATUS_BANK_OK, F.SUPPLY_STATUS_BANK_RESERVE] s t) ∧
  (∀ (s : State), Gives .bankOkLoss s fun t => t.rd F.SUPPLY_STATUS_BANK_OK = 0 ∧ OnlyFields [F.SUPPLY_STATUS_BANK_OK] s t) ∧
  (∀ (b : Bool) (s : State), Gives (.sdsAvail b) s fun t => t.rd F.SUPPLY_STATUS_SDS_AVAIL = (if b && s.on F.SUPPLY_HOLD_CFG_SDS_EN then 1 else 0) ∧
    t.crown.sdsIn = b ∧ (b = false → t.rd F.SUPPLY_STATUS_SDS_ACTIVE = 0) ∧ OnlyFields [F.SUPPLY_STATUS_SDS_AVAIL, F.SUPPLY_STATUS_SDS_ACTIVE] s t) ∧
  (∀ (s : State), s.mode = .transport → Gives .transportVauxArm s fun t => t.crown.vauxArmed = true ∧ t.regs = s.regs) ∧
  (∀ (s : State), s.mode ≠ .safe → s.mode ≠ .service → Gives .vauxReset s fun t => t.crown.vauxLow = true ∧ t.regs = s.regs) ∧
  (∀ (s : State), s.crown.phase = .complete → (s.on F.SUPPLY_HOLD_CFG_SDS_EN && s.on F.SUPPLY_STATUS_SDS_AVAIL) = false → s.prot.srd = none → s.rd
    F.PAIR_STATUS_ROLE < 2 → (s.mode = .standby ∨ s.mode = .connect ∨ s.mode = .run ∨ s.mode = .rest) → Gives .vauxWarning s fun t => t.mode = .hold
    ∧ t.rd F.CROWN_MODE_PREV = s.mode.code ∧ t.rd F.SUPPLY_STATUS_HOLD_ACTIVE = 1 ∧ t.tele.hold = true) ∧
  (∀ (s : State), s.crown.phase = .complete → s.mode ≠ .transport → s.on F.SUPPLY_HOLD_CFG_SDS_EN = true → s.on F.SUPPLY_STATUS_SDS_AVAIL = true →
    Gives .vauxWarning s fun t => t.rd F.SUPPLY_STATUS_SDS_ACTIVE = 1 ∧ t.mode = s.mode) ∧
  (∀ (s : State), s.mode = .hold → s.prot.srd = none → s.nvm.delayed = false → s.crown.trans = .none → s.track.disc = 0 → s.rd F.CROWN_MODE_PREV ≠ 2
    → Gives .vauxWarningRelease s fun t => t.mode = Mode.ofCode (s.rd F.CROWN_MODE_PREV) ∧ t.rd F.SUPPLY_STATUS_HOLD_ACTIVE = 0 ∧ t.rd
    F.SUPPLY_STATUS_VAUX_OK = 1 ∧ t.crown.vauxLow = false) ∧
  (∀ (s : State), s.mode = .hold → s.prot.srd = none → s.nvm.delayed = false → s.rd F.CROWN_MODE_PREV ≠ 5 → Gives .vauxWarningRelease s fun t =>
    t.mode ≠ .hold ∧ t.rd F.SUPPLY_STATUS_VAUX_OK = 1 ∧ t.crown.vauxLow = false) ∧
  (∀ (s : State), s.mode = .hold → s.shadows = false → s.prot.srd = none → Gives .holdMaxExpiry s fun t => Stopping t) ∧
  (∀ (s : State), s.mode = .hold → s.shadows = false → s.prot.srd = none → Gives .bankReserve s fun t => Stopping t) ∧
  (∀ (s : State), s.mode ≠ .hold → Gives .bankReserve s fun t => t.rd F.SUPPLY_STATUS_BANK_RESERVE = 1 ∧ t.rd F.SUPPLY_STATUS_BANK_OK = 0 ∧
    OnlyFields [F.SUPPLY_STATUS_BANK_OK, F.SUPPLY_STATUS_BANK_RESERVE] s t)

/-- Each clause under the conditions it writes: START_COMPLETE in the phase starting, of a start whose steps 1 to 8 are done and that is ready with
  its claim not barred, completes the start in SAFE where SAFE_LATCH is set and else in STANDBY; the outcome 1, a step that failed once, also counts
  in CROWN's RETRY_CNT. The outcome 2, a step that failed twice, completes a start that is not the first one in SAFE with SAFE_LATCH set and the
  failure noted. That a start step's outcome comes as an operand is the model's choice. Rests on the model's choices in the log entries 2, 26, 69
  (notes/assumptions). -/
def Obligations.StartEnds : Prop :=
  (∀ (s : State), s.crown.phase = .starting → s.crown.booted = true → s.crown.startFailed = false → s.startReady = true → s.claimBarred = false →
    Gives (.startComplete 0) s fun t => t.crown.phase = .complete ∧ t.mode = if s.on F.CROWN_MODE_SAFE_LATCH then .safe else .standby) ∧
  (∀ (s : State), s.crown.phase = .starting → s.crown.booted = true → s.crown.startFailed = false → s.startReady = true → s.claimBarred = false →
    Gives (.startComplete 1) s fun t => t.crown.phase = .complete ∧ (t.mode = if s.on F.CROWN_MODE_SAFE_LATCH then .safe else .standby) ∧ t.rd
    (pageFld 0 0x028 0 16) = satCount 16 (s.rd (pageFld 0 0x028 0 16) + 1)) ∧
  (∀ (s : State), s.crown.phase = .starting → s.crown.booted = true → s.nvm.boot.first = false → Gives (.startComplete 2) s fun t => t.crown.phase =
    .complete ∧ t.crown.startFailed = true ∧ t.mode = .safe ∧ t.on F.CROWN_MODE_SAFE_LATCH = true)

/-- Each clause under the conditions it writes: TRANSPORT from a secure session in STANDBY is entered with the input switch open once the journals
  are done and else waits in STANDBY; STANDBY begins the disconnect from RUN and the exit from SAFE; CONNECT enters CONNECT at step 3 or with the
  pre-checks to be read again; RUN from REST with the bus held enters RUN; REST from RUN is entered with no phase running and else ramps first;
  SERVICE from a secure session enters SERVICE; dormant STANDBY of a unit without a partner sets DORMANT and ends the open harvests and ring waits;
  SAFE_ACKNOWLEDGE reads result 0 and changes no other field. SERVICE from the non-secure world reads result 4, REST in HOLD result 5, and REST with
  a transition under way result 1, each with the mode as it was. Rests on the model's choices in the log entries 2, 10, 25, 70, 72
  (notes/assumptions). -/
def Obligations.ModeRequests : Prop :=
  (∀ (who : Initiator) (s : State), s.barred who A.CROWN_MODE_REQ true = 0 → s.secureOf who = true → s.mode = .standby → s.underWay = false →
    s.inControl = true → s.allOpen = true → s.fbClosed 6 = false → s.meas.vPlant < 50000 → s.est.writing = none → s.est.waiting = [] → s.est.deferred
    = [] → s.tele.deferred = false → Gives (.modeReqTransport who) s fun t => if s.transportBegin.journalsDone then t.mode = .transport ∧
    t.crown.inputOpen = true ∧ t.crown.busArmed = true ∧ t.crown.vauxArmed = false else t.crown.trans = .transport ∧ t.mode = .standby ∧
    t.crown.inputOpen = s.crown.inputOpen) ∧
  (∀ (who : Initiator) (s : State), s.barred who A.CROWN_MODE_REQ true = 0 → s.mode = .run → s.underWay = false → s.inControl = true → s.nOn ≠ 0 →
    Gives (.modeReqStandby who) s fun t => t.crown.trans = .disconnect ∧ t.track.disc ≠ 0 ∧ t.mode = .run ∧ t.rd F.CROWN_MODE_REQ_RESULT = 0) ∧
  (∀ (who : Initiator) (s : State), s.barred who A.CROWN_MODE_REQ true = 0 → s.mode = .safe → s.underWay = false → s.inControl = true → s.noSHButLoop
    = true → Gives (.modeReqStandby who) s fun t => t.crown.trans = .safeExit ∧ t.crown.transWho = who ∧ t.crown.clearAwait = s.answering ∧ t.mode =
    .safe) ∧
  (∀ (who : Initiator) (p : Partners) (s : State), s.barred who A.CROWN_MODE_REQ true = 0 → s.mode = .standby → s.underWay = false → s.inControl =
    true → s.missingPartners p = [] → s.startAllowed = true → s.nvm.armed ≠ 1 → s.rd F.CONTACT_STATUS_WELD = 0 → Gives (.modeReqConnect who p) s fun
    t => t.mode = .connect ∧ (t.rd F.TRACK_STATUS_STEP = 3 ∨ t.track.preReread = true)) ∧
  (∀ (who : Initiator) (p : Partners) (s : State), s.barred who A.CROWN_MODE_REQ true = 0 → s.mode = .rest → s.underWay = false → s.inControl = true
    → s.missingPartners p = [] → s.startAllowed = true → s.busHeld = true → s.fbClosed 1 = true → s.fbClosed 2 = true → Gives (.modeReqRun who p) s
    fun t => t.mode = .run) ∧
  (∀ (who : Initiator) (s : State), s.barred who A.CROWN_MODE_REQ true = 0 → s.mode = .run → s.underWay = false → s.inControl = true → Gives
    (.modeReqRest who) s fun t => if s.nOn = 0 then t.mode = .rest else t.crown.trans = .restRamp ∧ t.mode = .run) ∧
  (∀ (who : Initiator) (s : State), s.barred who A.CROWN_MODE_REQ true = 0 → Gives (.modeReqSafeAcknowledge who) s fun t => t.rd
    F.CROWN_MODE_REQ_RESULT = 0 ∧ OnlyFields [F.CROWN_MODE_REQ_RESULT] s t) ∧
  (∀ (who : Initiator) (s : State), s.barred who A.CROWN_MODE_REQ true = 0 → s.secureOf who = true → (s.mode = .standby ∨ s.mode = .safe) →
    s.underWay = false → s.inControl = true → s.allOpen = true → Gives (.modeReqService who) s fun t => t.mode = .service ∧ t.rd
    F.CROWN_MODE_REQ_RESULT = 0) ∧
  (∀ (who : Initiator) (s : State), s.barred who A.CROWN_MODE_REQ true = 0 → s.mode = .standby → s.underWay = false → s.inControl = true → s.on
    F.PAIR_CFG_PAIRED = false → Gives (.modeReqDormant who) s fun t => t.rd F.CROWN_MODE_DORMANT = 1 ∧ t.mode = .standby ∧ t.harv.captures = [] ∧
    t.ringSt.wait = []) ∧
  (∀ (who : Initiator) (s : State), s.barred who A.CROWN_MODE_REQ true = 0 → s.secureOf who = false → Gives (.modeReqService who) s fun t => t.rd
    F.CROWN_MODE_REQ_RESULT = 4 ∧ t.mode = s.mode) ∧
  (∀ (who : Initiator) (s : State), s.barred who A.CROWN_MODE_REQ true = 0 → s.mode = .hold → Gives (.modeReqRest who) s fun t => t.rd
    F.CROWN_MODE_REQ_RESULT = 5 ∧ t.mode = .hold) ∧
  (∀ (who : Initiator) (s : State), s.barred who A.CROWN_MODE_REQ true = 0 → s.mode ≠ .hold → s.underWay = true → Gives (.modeReqRest who) s fun t =>
    t.rd F.CROWN_MODE_REQ_RESULT = 1 ∧ t.mode = s.mode)

/-- Each clause under the conditions it writes: in the exit from SAFE with no node still asked, the judgement with the fault loop closed and no
  condition of class S or H leads to STANDBY with SAFE_LATCH clear, and with the loop open keeps the mode, reads result 3 and ends the transition. A
  wake request of a dormant module, one by a CAN channel only with EN and SLEEP_EN, and the AON timer where it is set and its clock has not failed
  clear DORMANT, show their cause in WAKE_CAUSE and put the ring into WAKING. Rests on the model's choices in the log entries 2, 64, 65
  (notes/assumptions). -/
def Obligations.SafeExitAndWake : Prop :=
  (∀ (s : State), s.crown.trans = .safeExit → s.crown.clearAwait = [] → s.on F.NODE_STATUS_LOOP_CLOSED = true → s.noSH = true → s.mode = .safe →
    Gives .safeExitJudgement s fun t => t.mode = .standby ∧ t.rd F.CROWN_MODE_SAFE_LATCH = 0 ∧ t.crown.trans = .none) ∧
  (∀ (s : State), s.crown.trans = .safeExit → s.crown.clearAwait = [] → s.on F.NODE_STATUS_LOOP_CLOSED = false → Gives .safeExitJudgement s fun t =>
    t.mode = s.mode ∧ t.rd F.CROWN_MODE_REQ_RESULT = 3 ∧ t.crown.trans = .none) ∧
  (∀ (w : Wake) (s : State), s.on F.CROWN_MODE_DORMANT = true → (∀ ch, w ≠ .can ch) → Gives (.dormantWake w) s fun t => t.rd F.CROWN_MODE_DORMANT = 0
    ∧ t.rd F.CLOCK_WAKE_CAUSE = wakeCause w ∧ t.rd F.RING_STATUS_STATE = 1) ∧
  (∀ (ch : Fin 4) (s : State), s.on F.CROWN_MODE_DORMANT = true → s.on (F.CAN_CFG_EN ch.val) = true → s.on (F.CAN_CFG_SLEEP_EN ch.val) = true → Gives
    (.dormantWake (.can ch)) s fun t => t.rd F.CROWN_MODE_DORMANT = 0 ∧ t.rd F.CLOCK_WAKE_CAUSE = 3 ∧ t.rd F.RING_STATUS_STATE = 1) ∧
  (∀ (s : State), s.on F.CROWN_MODE_DORMANT = true → s.rd F.CLOCK_CFG_AON_WAKE_S ≠ 0 → s.bit F.CLOCK_MONFAIL_DOMAINS 11 = false → Gives .aonTimerWake
    s fun t => t.rd F.CROWN_MODE_DORMANT = 0 ∧ t.rd F.CLOCK_WAKE_CAUSE = 6 ∧ t.rd F.RING_STATUS_STATE = 1)

/-- Each clause under the conditions it writes: a staged write below STATE ARMED by the owner or, with no owner, by any session, of a register with
  RWS fields, merges those fields into the staged word, makes STATE STAGING, from STATE IDLE makes the writer the owner, and changes no live field
  but CROWN's STATE and OWNER fields. By a party that cannot own or under another owner it answers result 0x03, and from ARMED on result 0x04, with
  nothing staged. DISCARD by such a session of a page other than 0x00 drops the staged words of that page and changes no register. Rests on the
  model's choices in the log entries 2, 8, 16, 20 (notes/assumptions). -/
def Obligations.StagedWrites : Prop :=
  (∀ (who : Initiator) (page : Fin 256) (reg : Fin 512) (data : BitVec 32) (s : State), s.barred who (page.val * 4096 + 0x800 + 4 * reg.val) true = 0
    → s.stage < 5 → who.id ≠ 0 → (s.rd F.CROWN_STAGE_OWNER_SESSION = 0 ∨ s.rd F.CROWN_STAGE_OWNER_SESSION = who.id) → rwsReg (page.val * 4096 + 4 *
    reg.val) = true → Gives (.stagedWrite who page reg data) s fun t => t.stagedWord (page.val * 4096 + 4 * reg.val) = rwsMerge (page.val * 4096 + 4
    * reg.val) (s.stagedWord (page.val * 4096 + 4 * reg.val)) (Word.ofNat data.toNat) ∧ t.stage = 1 ∧ (s.stage = 0 → t.rd F.CROWN_STAGE_OWNER_SESSION
    = who.id) ∧ OnlyFields [F.CROWN_STAGE_CTRL_STATE, F.CROWN_STAGE_OWNER_SESSION, F.CROWN_STAGE_OWNER_SECURE] s t) ∧
  (∀ (who : Initiator) (page : Fin 256) (reg : Fin 512) (data : BitVec 32) (s : State), s.barred who (page.val * 4096 + 0x800 + 4 * reg.val) true = 0
    → s.stage < 5 → (who.id = 0 ∨ (s.rd F.CROWN_STAGE_OWNER_SESSION ≠ 0 ∧ s.rd F.CROWN_STAGE_OWNER_SESSION ≠ who.id)) → Gives (.stagedWrite who page
    reg data) s fun t => t.accErr = 0x03 ∧ t.staged = s.staged) ∧
  (∀ (who : Initiator) (page : Fin 256) (reg : Fin 512) (data : BitVec 32) (s : State), s.barred who (page.val * 4096 + 0x800 + 4 * reg.val) true = 0
    → 5 ≤ s.stage → Gives (.stagedWrite who page reg data) s fun t => t.accErr = 0x04 ∧ t.staged = s.staged) ∧
  (∀ (who : Initiator) (page : Fin 256) (s : State), s.barred who (page.val * 4096 + 0x020) true = 0 → page.val ≠ 0 → s.stage < 5 → who.id ≠ 0 →
    (s.rd F.CROWN_STAGE_OWNER_SESSION = 0 ∨ s.rd F.CROWN_STAGE_OWNER_SESSION = who.id) → Gives (.discardCmd who page) s fun t => t.staged =
    s.staged.filter (fun x => pageOf x.1 != page.val) ∧ t.regs = s.regs)

/-- Each clause under the conditions it writes: CHECK by the owner, or by any session with no owner, takes STAGING to CHECKING with the mode and
  PWM_LEAD noted, and with nothing staged IDLE to PASSED with the writer as owner; the end of a check outside a commit leads to PASSED where its
  verdict is empty, else to FAILED. APPLY at once (kind 0) takes PASSED to ARMED outside HOLD with CD0 running and a lead of at least 3; in any other
  STATE APPLY shows CAUSE 6 and keeps STATE. ABORT in ARMED takes STATE to PASSED with CAUSE 0xA and no pending shadow, keeping the staged words.
  DISCARD_ALL below ARMED, and the timeout of an owner whose count is not suspended, leave STATE IDLE, no owner and nothing staged. Rests on the
  model's choices in the log entries 2, 17, 18, 20 (notes/assumptions). -/
def Obligations.StagingCommands : Prop :=
  (∀ (who : Initiator) (kind task : Fin 4) (lead : Fin 65536) (s : State), s.barred who A.CROWN_STAGE_CTRL true = 0 → who.id ≠ 0 → (s.rd
    F.CROWN_STAGE_OWNER_SESSION = 0 ∨ s.rd F.CROWN_STAGE_OWNER_SESSION = who.id) → s.stage = 1 → Gives (.checkCmd who kind task lead) s fun t =>
    t.stage = 2 ∧ t.stg.checkMode = s.mode ∧ t.stg.voided = false ∧ t.staged = s.staged ∧ t.rd F.CROWN_STAGE_CTRL_PWM_LEAD = lead.val) ∧
  (∀ (who : Initiator) (kind task : Fin 4) (lead : Fin 65536) (s : State), s.barred who A.CROWN_STAGE_CTRL true = 0 → who.id ≠ 0 → (s.rd
    F.CROWN_STAGE_OWNER_SESSION = 0 ∨ s.rd F.CROWN_STAGE_OWNER_SESSION = who.id) → s.stage = 0 → Gives (.checkCmd who kind task lead) s fun t =>
    t.stage = 3 ∧ t.rd F.CROWN_STAGE_OWNER_SESSION = who.id) ∧
  (∀ (s : State), s.stage = 2 → s.stg.commitStep = 0 → Gives .checkComplete s fun t => t.stage = if s.stg.verdict = [] then 3 else 4) ∧
  (∀ (who : Initiator) (task : Fin 4) (lead : Fin 65536) (s : State), s.barred who A.CROWN_STAGE_CTRL true = 0 → who.id ≠ 0 → (s.rd
    F.CROWN_STAGE_OWNER_SESSION = 0 ∨ s.rd F.CROWN_STAGE_OWNER_SESSION = who.id) → s.stage = 3 → s.mode ≠ .hold → s.cd0Stopped = false → 3 ≤ lead.val
    → Gives (.applyCmd who 0 task lead) s fun t => t.stage = 5 ∧ t.stg.lead = lead.val ∧ t.stg.suspended = true ∧ t.staged = s.staged) ∧
  (∀ (who : Initiator) (kind task : Fin 4) (lead : Fin 65536) (s : State), s.barred who A.CROWN_STAGE_CTRL true = 0 → who.id ≠ 0 → (s.rd
    F.CROWN_STAGE_OWNER_SESSION = 0 ∨ s.rd F.CROWN_STAGE_OWNER_SESSION = who.id) → s.stage ≠ 3 → Gives (.applyCmd who kind task lead) s fun t => t.rd
    F.CROWN_STAGE_ERR_CAUSE = 6 ∧ t.stage = s.stage) ∧
  (∀ (who : Initiator) (kind task : Fin 4) (lead : Fin 65536) (s : State), s.barred who A.CROWN_STAGE_CTRL true = 0 → who.id ≠ 0 → (s.rd
    F.CROWN_STAGE_OWNER_SESSION = 0 ∨ s.rd F.CROWN_STAGE_OWNER_SESSION = who.id) → s.stage = 5 → s.stg.takeUp = false → Gives (.abortCmd who kind
    task lead) s fun t => t.stage = 3 ∧ t.rd F.CROWN_STAGE_ERR_CAUSE = 0xA ∧ t.shadow = [] ∧ t.staged = s.staged) ∧
  (∀ (who : Initiator) (kind task : Fin 4) (lead : Fin 65536) (s : State), s.barred who A.CROWN_STAGE_CTRL true = 0 → (s.rd
    F.CROWN_STAGE_OWNER_SESSION = 0 ∨ s.rd F.CROWN_STAGE_OWNER_SESSION = who.id) → s.stage < 5 → Gives (.discardAll who kind task lead) s fun t =>
    t.stage = 0 ∧ t.rd F.CROWN_STAGE_OWNER_SESSION = 0 ∧ t.staged = []) ∧
  (∀ (s : State), s.rd F.CROWN_STAGE_OWNER_SESSION ≠ 0 → s.stg.suspended = false → Gives .stagingTimeout s fun t => t.stage = 0 ∧ t.rd
    F.CROWN_STAGE_OWNER_SESSION = 0 ∧ t.staged = [])

/-- Each clause under the conditions it writes: APPLY_LAUNCH in ARMED with no SRD and no unit failing at launch makes STATE LAUNCHED and the pending
  shadows the staged words, which stay; with an SRD in progress it makes STATE PASSED with CAUSE 9 and no shadow. APPLY_LOAD_DEADLINE in LAUNCHED,
  before the take-up, with a unit that has not confirmed its load makes STATE PASSED with CAUSE 7, no shadow and the staged words kept. APPLY_EDGE in
  LAUNCHED leaves the shadows empty, the take-up begun, and nanoseconds and low seconds of TB0 in APPLY_AT. APPLY_TAKEUP_COMPLETE with no reset and
  no entry into RUN held back leaves STATE IDLE, no owner, nothing staged and no take-up. Rests on the model's choices in the log entries 2, 18, 28
  (notes/assumptions). -/
def Obligations.ApplySequence : Prop :=
  (∀ (s : State), s.stage = 5 → s.prot.srd = none → s.launchFailures = [] → Gives .applyLaunch s fun t => t.stage = 6 ∧ t.shadow = s.staged ∧
    t.staged = s.staged) ∧
  (∀ (s : State), s.stage = 5 → s.prot.srd ≠ none → s.stg.takeUp = false → Gives .applyLaunch s fun t => t.stage = 3 ∧ t.rd F.CROWN_STAGE_ERR_CAUSE =
    9 ∧ t.shadow = []) ∧
  (∀ (unloaded : List Nat) (s : State), s.stage = 6 → s.stg.takeUp = false → unloaded ≠ [] → Gives (.applyLoadDeadline unloaded) s fun t => t.stage =
    3 ∧ t.rd F.CROWN_STAGE_ERR_CAUSE = 7 ∧ t.shadow = [] ∧ t.staged = s.staged) ∧
  (∀ (s : State), s.stage = 6 → s.stg.takeUp = false → Gives .applyEdge s fun t => t.shadow = [] ∧ t.stg.takeUp = true ∧ t.rd F.CROWN_APPLY_AT_NS_NS
    = (s.timeBase 0).ns ∧ t.rd F.CROWN_APPLY_AT_SL_SEC_LO = (s.timeBase 0).sec % 2 ^ 32) ∧
  (∀ (s : State), s.stg.takeUp = true → s.crown.heldReset = none → s.crown.runDue = false → Gives .applyTakeupComplete s fun t => t.stage = 0 ∧ t.rd
    F.CROWN_STAGE_OWNER_SESSION = 0 ∧ t.staged = [] ∧ t.stg.takeUp = false)

/-- Each clause under the conditions it writes: at APPLY_EDGE in LAUNCHED, before the take-up, with one word in the pending shadows, of a register
  with RWS fields, the live word of that register is the old one with its RWS fields replaced by those of the shadow. Rests on the model's choices in
  the log entries 2, 28 (notes/assumptions). -/
def Obligations.AppliedValueInForce : Prop :=
  ∀ (a : Nat) (x : Word) (s : State), s.stage = 6 → s.stg.takeUp = false → s.shadow = [(a, x)] → rwsReg a = true → Gives .applyEdge s fun t => t.word
    a = rwsMerge a (s.word a) x

/-- Each clause under the conditions it writes: SECURE_COMMIT with its key by a party that can own staging, not barred, with no commit under way and
  STATE STAGING, begins step 1: COMMIT_STAT.STATE 1 and the check under way; barred, it shows STATE 3, changes no other field and keeps the staged
  words. At the end of the store entry in step 3 the outcome 0 shows STATE 2 and LOCKED and counts one commit, the outcomes 1 and 2 show STATE 4 (2
  changes no other field); the commit is over in all three. Rests on the model's choices in the log entries 2, 19 (notes/assumptions). -/
def Obligations.SecureCommit : Prop :=
  (∀ (who : Initiator) (s : State), s.barred who A.WORLD_COMMIT true = 0 → who.id ≠ 0 → s.stg.commitStep = 0 → s.commitBarred who = false → s.stage =
    1 → Gives (.secureCommit who 0x5C3A) s fun t => t.stg.commitStep = 1 ∧ t.stg.commitBy = who ∧ t.rd F.WORLD_COMMIT_STAT_STATE = 1 ∧ t.stage = 2) ∧
  (∀ (who : Initiator) (s : State), s.barred who A.WORLD_COMMIT true = 0 → s.stg.commitStep = 0 → s.commitBarred who = true → Gives (.secureCommit
    who 0x5C3A) s fun t => t.rd F.WORLD_COMMIT_STAT_STATE = 3 ∧ OnlyFields [F.WORLD_COMMIT_STAT_STATE] s t ∧ t.staged = s.staged) ∧
  (∀ (s : State), s.stg.commitStep = 3 → Gives (.commitStoreComplete 0) s fun t => t.stg.commitStep = 0 ∧ t.rd F.WORLD_COMMIT_STAT_STATE = 2 ∧ t.rd
    F.WORLD_COMMIT_STAT_LOCKED = 1 ∧ t.rd F.WORLD_COMMIT_STAT_COUNT = satCount F.WORLD_COMMIT_STAT_COUNT.width (s.rd F.WORLD_COMMIT_STAT_COUNT + 1)) ∧
  (∀ (s : State), s.stg.commitStep = 3 → Gives (.commitStoreComplete 1) s fun t => t.stg.commitStep = 0 ∧ t.rd F.WORLD_COMMIT_STAT_STATE = 4) ∧
  (∀ (s : State), s.stg.commitStep = 3 → Gives (.commitStoreComplete 2) s fun t => t.stg.commitStep = 0 ∧ t.rd F.WORLD_COMMIT_STAT_STATE = 4 ∧
    OnlyFields [F.WORLD_COMMIT_STAT_STATE] s t)

/-- Each clause under the conditions it writes: a REGISTER_WRITE that no check refuses and that waits for no other changes the RW fields of
  ESTIM.VIEW or IMPED.VIEW and no other field, clears the bits of ESTIM's EVT_STATUS written 1 and no other, and of HOST.CFG, whose fields are RWS,
  changes neither a live field nor a staged word. By a party other than the host, on a reserved page it answers 0x01 with no register, staged word or
  submission, and where the world bars it 0x02 with the XW registers showing it and no other field changed. EVT_STATUS of a page other than 0x12,
  RETRY_CNT and LASTING are cleared of what the write names, and no other field changes. Rests on the model's choices in the log entries 2, 7, 9, 75
  (notes/assumptions). -/
def Obligations.RegisterWrites : Prop :=
  (∀ (who : Initiator) (d : BitVec 32) (s : State), s.writeCode who A.ESTIM_VIEW d.toNat = 0 → (s.host.held.any fun h => pageOf h.addr == 0x28) =
    false → Gives (.registerWrite who 0x280C0 d) s fun t => t.rd F.ESTIM_VIEW_CELL = d.toNat % 512 ∧ OnlyFields [F.ESTIM_VIEW_CELL] s t) ∧
  (∀ (who : Initiator) (d : BitVec 32) (s : State), s.writeCode who A.IMPED_VIEW d.toNat = 0 → (s.host.held.any fun h => pageOf h.addr == 0x26) =
    false → Gives (.registerWrite who 0x260C0 d) s fun t => t.rd F.IMPED_VIEW_CELL = d.toNat % 512 ∧ t.rd F.IMPED_VIEW_TONE = d.toNat / 65536 % 8 ∧
    OnlyFields [F.IMPED_VIEW_CELL, F.IMPED_VIEW_TONE] s t) ∧
  (∀ (who : Initiator) (d : BitVec 32) (s : State), s.writeCode who 0x28010 d.toNat = 0 → (s.host.held.any fun h => pageOf h.addr == 0x28) = false →
    Gives (.registerWrite who 0x28010 d) s fun t => t.rd (pageFld 0x28 0x010 0 6) = s.rd (pageFld 0x28 0x010 0 6) &&& (63 - d.toNat % 64) ∧
    OnlyFields [pageFld 0x28 0x010 0 6] s t) ∧
  (∀ (who : Initiator) (d : BitVec 32) (s : State), s.writeCode who A.HOST_CFG d.toNat = 0 → who ≠ .host → (s.host.held.any fun h => pageOf h.addr ==
    0x05) = false → Gives (.registerWrite who 0x05040 d) s fun t => OnlyFields [] s t ∧ t.staged = s.staged) ∧
  (∀ (who : Initiator) (addr : BitVec 20) (d : BitVec 32) (s : State), assigned (pageOf addr.toNat) = false → who ≠ .host → Gives (.registerWrite who
    addr d) s fun t => t.accErr = 0x01 ∧ t.regs = s.regs ∧ t.staged = s.staged ∧ t.q91 = s.q91) ∧
  (∀ (who : Initiator) (addr : BitVec 20) (d : BitVec 32) (s : State), s.barred who addr.toNat true = 0x02 → who ≠ .host → Gives (.registerWrite who
    addr d) s fun t => t.accErr = 0x02 ∧ t.rd F.WORLD_XW_LAST_ADDR = addr.toNat ∧ t.rd F.WORLD_XW_LAST_WRITE = 1 ∧ t.rd F.WORLD_XW_LAST_SESSION =
    who.id ∧ OnlyFields [F.WORLD_XW_COUNT_COUNT, F.WORLD_XW_LAST_ADDR, F.WORLD_XW_LAST_WRITE, F.WORLD_XW_LAST_SESSION] s t ∧ t.staged = s.staged) ∧
  (∀ (who : Initiator) (page : Fin 256) (mask : BitVec 32) (s : State), s.barred who (page.val * 4096 + 0x010) true = 0 → page.val ≠ 0x12 →
    s.crossingStopped (page.val * 4096 + 0x010) = false → (s.host.held.any fun h => pageOf h.addr == page.val) = false → Gives (.evtStatusClear who
    page mask) s fun t => t.word (page.val * 4096 + 0x010) = s.word (page.val * 4096 + 0x010) &&& ~~~mask ∧ OnlyFields [evtStatus page.val] s t) ∧
  (∀ (who : Initiator) (page : Fin 256) (s : State), s.barred who (page.val * 4096 + 0x028) true = 0 → Gives (.retryCntClear who page) s fun t =>
    t.rd (pageFld page.val 0x028 0 16) = 0 ∧ OnlyFields [pageFld page.val 0x028 0 16] s t) ∧
  (∀ (who : Initiator) (page : Fin 256) (s : State), s.barred who (page.val * 4096 + 0x02C) true = 0 → Gives (.lastingClear who page) s fun t => t.rd
    (pageFld page.val 0x02C 0 16) = 0 ∧ t.rd (pageFld page.val 0x02C 16 8) = 0 ∧ OnlyFields [pageFld page.val 0x02C 0 16, pageFld page.val 0x02C 16
    8] s t)

/-- Each clause under the conditions it writes: A HOST_READ leaves the status word as it stood before it. Of an address below 2^20 that is a multiple
  of 4 it answers as many words as it asks for; one word of a live register that is not barred, other than PROG_LIVE, is the value the register reads
  as, with ERR 0, a barred one is 0 with the result that bars it in ERR. Another address answers no word, with its code in ERR and no register
  changed but HOST.LAST_ERR. A HOST_WRITE of one or two words puts them into the register at its address and the next (ESTIM.VIEW and the APPLY_AT
  registers stand for the RW registers) and no other, with ERR 0; in a secure session a verified tag also adds 1 to SEQ. Where one of its words is
  barred none is written and ERR holds the result of that word; a word for a clock domain that is stopped is kept with PEND. A transaction cut short
  in its head, of another opcode, of a length that its count does not give, or with a wrong tag in a secure session writes nothing and leaves ERR
  0x08 or 0x06. Rests on the model's choices in the log entries 2, 21, 75 (notes/assumptions). -/
def Obligations.HostPort : Prop :=
  (∀ (addr : BitVec 24) (s : State), addrCode addr.toNat = 0 → s.barred .host addr.toNat false = 0 → addr.toNat % 4096 < 0x800 → addr.toNat ≠
    A.SCAN_PROG_LIVE → Gives (.hostRead addr 1) s fun t => t.readData = [t.readValue .host addr.toNat] ∧ t.host.err = 0 ∧ t.host.status =
    s.statusWord) ∧
  (∀ (addr : BitVec 24) (s : State), addrCode addr.toNat = 0 → s.barred .host addr.toNat false ≠ 0 → Gives (.hostRead addr 1) s fun t => t.readData =
    [0] ∧ t.host.err = s.barred .host addr.toNat false ∧ t.host.status = s.statusWord) ∧
  (∀ (addr : BitVec 24) (n : Nat) (s : State), addrCode addr.toNat = 0 → n ≠ 0 → Gives (.hostRead addr n) s fun t => t.readData.length = n ∧
    t.host.status = s.statusWord) ∧
  (∀ (addr : BitVec 24) (n : Nat) (s : State), addrCode addr.toNat ≠ 0 → Gives (.hostRead addr n) s fun t => t.readData = [] ∧ t.host.err = addrCode
    addr.toNat ∧ t.host.status = s.statusWord ∧ OnlyFields [F.HOST_LAST_ERR_CODE, F.HOST_LAST_ERR_ADDR] s t) ∧
  (∀ (b3 b2 b1 b0 : Byte) (s : State), s.on F.HOST_SESS_SECURE = false → s.writeCode .host A.ESTIM_VIEW (beAt [b3, b2, b1, b0] 0 4) = 0 →
    (s.host.held.any fun h => pageOf h.addr == 0x28) = false → Gives (.hostWrite (.whole 0x02 0x280C0) [1, b3, b2, b1, b0]) s fun t => t.rd
    F.ESTIM_VIEW_CELL = beAt [b3, b2, b1, b0] 0 4 % 512 ∧ t.host.err = 0 ∧ t.host.status = s.statusWord ∧ OnlyFields [F.ESTIM_VIEW_CELL] s t) ∧
  (∀ (b3 b2 b1 b0 c3 c2 c1 c0 : Byte) (s : State), s.on F.HOST_SESS_SECURE = false → s.writesCode .host A.CROWN_APPLY_AT_NS [beAt [b3, b2, b1, b0] 0
    4, beAt [c3, c2, c1, c0] 0 4] = none → (s.host.held.any fun h => pageOf h.addr == 0x00) = false → Gives (.hostWrite (.whole 0x02 0x0006C) [2, b3,
    b2, b1, b0, c3, c2, c1, c0]) s fun t => t.rd F.CROWN_APPLY_AT_NS_NS = beAt [b3, b2, b1, b0] 0 4 ∧ t.rd F.CROWN_APPLY_AT_SL_SEC_LO = beAt [c3, c2,
    c1, c0] 0 4 ∧ t.host.err = 0 ∧ OnlyFields [F.CROWN_APPLY_AT_NS_NS, F.CROWN_APPLY_AT_SL_SEC_LO] s t) ∧
  (∀ (b3 b2 b1 b0 : Byte) (tg : List Byte) (s : State), s.on F.HOST_SESS_SECURE = true → tg.length = 16 → s.hostTagOk 0x02 0x280C0 [1, b3, b2, b1,
    b0] tg = true → s.writeCode .host A.ESTIM_VIEW (beAt [b3, b2, b1, b0] 0 4) = 0 → (s.host.held.any fun h => pageOf h.addr == 0x28) = false → Gives
    (.hostWrite (.whole 0x02 0x280C0) (1 :: b3 :: b2 :: b1 :: b0 :: tg)) s fun t => t.rd F.ESTIM_VIEW_CELL = beAt [b3, b2, b1, b0] 0 4 % 512 ∧ t.rd
    F.HOST_SEQ_SEQ = (s.rd F.HOST_SEQ_SEQ + 1) % 2 ^ 32 ∧ t.host.err = 0 ∧ OnlyFields [F.ESTIM_VIEW_CELL, F.HOST_SEQ_SEQ] s t) ∧
  (∀ (addr : BitVec 24) (bytes : List Byte) (c : Nat × Nat) (s : State), addrCode addr.toNat = 0 → 1 ≤ leAt bytes 0 1 → leAt bytes 0 1 ≤ 64 →
    bytes.length = 1 + 4 * leAt bytes 0 1 → s.on F.HOST_SESS_SECURE = false → s.writesCode .host addr.toNat (beWords (leAt bytes 0 1) (bytes.drop 1))
    = some c → Gives (.hostWrite (.whole 0x02 addr) bytes) s fun t => t.host.err = c.2 ∧ t.staged = s.staged ∧ t.nvm = s.nvm ∧ t.scan = s.scan ∧
    t.host.held = s.host.held ∧ OnlyFields [F.HOST_LAST_ERR_CODE, F.HOST_LAST_ERR_ADDR, F.WORLD_XW_COUNT_COUNT, F.WORLD_XW_LAST_ADDR,
    F.WORLD_XW_LAST_WRITE, F.WORLD_XW_LAST_SESSION] s t) ∧
  (∀ (addr : BitVec 24) (b3 b2 b1 b0 : Byte) (s : State), addrCode addr.toNat = 0 → s.on F.HOST_SESS_SECURE = false → s.writesCode .host addr.toNat
    [beAt [b3, b2, b1, b0] 0 4] = none → s.crossingStopped addr.toNat = true → Gives (.hostWrite (.whole 0x02 addr) [1, b3, b2, b1, b0]) s fun t =>
    t.host.held = s.host.held ++ [{ who := .host, addr := addr.toNat, data := beAt [b3, b2, b1, b0] 0 4 }] ∧ t.hostPend = true ∧ t.host.err = 0 ∧
    t.staged = s.staged ∧ OnlyFields [] s t) ∧
  (∀ (addr : BitVec 24) (bytes : List Byte) (s : State), addrCode addr.toNat = 0 → (leAt bytes 0 1 = 0 ∨ 64 < leAt bytes 0 1 ∨ bytes.length ≠ 1 + 4 *
    leAt bytes 0 1 + (if s.on F.HOST_SESS_SECURE then 16 else 0)) → Gives (.hostWrite (.whole 0x02 addr) bytes) s fun t => t.host.err = 0x08 ∧
    OnlyFields [F.HOST_LAST_ERR_CODE, F.HOST_LAST_ERR_ADDR] s t ∧ t.staged = s.staged ∧ t.host.held = s.host.held) ∧
  (∀ (op : Byte) (addr : BitVec 24) (bytes : List Byte) (s : State), op ≠ 0x02 → Gives (.hostWrite (.whole op addr) bytes) s fun t => t.host.err =
    0x08 ∧ OnlyFields [F.HOST_LAST_ERR_CODE, F.HOST_LAST_ERR_ADDR] s t ∧ t.staged = s.staged ∧ t.host.held = s.host.held) ∧
  (∀ (h bytes : List Byte) (s : State), Gives (.hostWrite (.cut h) bytes) s fun t => t.host.err = 0x08 ∧ OnlyFields [F.HOST_LAST_ERR_CODE,
    F.HOST_LAST_ERR_ADDR] s t ∧ t.staged = s.staged ∧ t.host.held = s.host.held) ∧
  (∀ (addr : BitVec 24) (bytes : List Byte) (s : State), addrCode addr.toNat ≠ 0 → Gives (.hostWrite (.whole 0x02 addr) bytes) s fun t => t.host.err
    = addrCode addr.toNat ∧ OnlyFields [F.HOST_LAST_ERR_CODE, F.HOST_LAST_ERR_ADDR] s t ∧ t.staged = s.staged ∧ t.host.held = s.host.held) ∧
  (∀ (addr : BitVec 24) (bytes : List Byte) (s : State), addrCode addr.toNat = 0 → s.on F.HOST_SESS_SECURE = true → 1 ≤ leAt bytes 0 1 → leAt bytes 0
    1 ≤ 64 → bytes.length = 17 + 4 * leAt bytes 0 1 → s.hostTagOk 2 addr.toNat (bytes.take (1 + 4 * leAt bytes 0 1)) (bytes.drop (1 + 4 * leAt bytes
    0 1)) = false → Gives (.hostWrite (.whole 0x02 addr) bytes) s fun t => t.host.err = 0x06 ∧ OnlyFields [F.HOST_LAST_ERR_CODE,
    F.HOST_LAST_ERR_ADDR] s t ∧ t.staged = s.staged ∧ t.rd F.HOST_SEQ_SEQ = s.rd F.HOST_SEQ_SEQ)

/-- Each clause under the conditions it writes: NONCE read whole at address 0 keeps and answers the 16 bytes of a fresh free value with their time.
  OPEN at address 0, of 32 bytes, within 10 s of a nonce whose proof under the host key agrees, sets SESS.SECURE and SEQ 1, uses the nonce up,
  derives the session key, answers ERR 0 and changes no other field; with no nonce held it answers ERR 0x06 and leaves SECURE. CLOSE at address 0
  with a verified tag in a session, and the session timeout, clear SECURE, SEQ and the key and change no other field. Rests on the model's choices in
  the log entries 2, 21, 60 (notes/assumptions). -/
def Obligations.HostSessions : Prop :=
  (∀ (s : State), Gives (.hostNonce { addr := 0, n := 16 }) s fun t => t.host.nonce = some ((List.range 16).map fun k => byte (Config.nonceByte
    s.free k)) ∧ t.host.nonceAt = s.mono ∧ t.readData = (beWords 4 ((List.range 16).map fun k => byte (Config.nonceByte s.free k))).map Word.ofNat ∧
    t.free = s.free + 1 ∧ t.regs = s.regs) ∧
  (∀ (bytes : List Byte) (s : State), bytes.length = 32 → s.host.nonce ≠ none → s.mono ≤ s.host.nonceAt + 10000000000 → s.tagOk 1 16 (ascii "XSWH" ++
    s.host.nonce.getD [] ++ bytes.take 16) (bytes.drop 16) = true → Gives (.hostOpen 0 bytes) s fun t => t.rd F.HOST_SESS_SECURE = 1 ∧ t.rd
    F.HOST_SEQ_SEQ = 1 ∧ t.host.nonce = none ∧ t.host.key = hmac (s.key 1) (bytes.take 16 ++ s.host.nonce.getD []) ∧ t.host.err = 0 ∧ OnlyFields
    [F.HOST_SESS_SECURE, F.HOST_SEQ_SEQ] s t) ∧
  (∀ (bytes : List Byte) (s : State), bytes.length = 32 → s.host.nonce = none → Gives (.hostOpen 0 bytes) s fun t => t.host.err = 0x06 ∧ t.rd
    F.HOST_SESS_SECURE = s.rd F.HOST_SESS_SECURE) ∧
  (∀ (bytes : List Byte) (s : State), bytes.length = 16 → s.on F.HOST_SESS_SECURE = true → s.hostTagOk 0x32 0 [] bytes = true → Gives (.hostClose 0
    bytes) s fun t => t.rd F.HOST_SESS_SECURE = 0 ∧ t.rd F.HOST_SEQ_SEQ = 0 ∧ t.host.key = [] ∧ t.host.err = 0 ∧ OnlyFields [F.HOST_SESS_SECURE,
    F.HOST_SEQ_SEQ] s t) ∧
  (∀ (s : State), s.on F.HOST_SESS_SECURE = true → Gives .hostSessionTimeout s fun t => t.rd F.HOST_SESS_SECURE = 0 ∧ t.rd F.HOST_SEQ_SEQ = 0 ∧
    t.host.key = [] ∧ OnlyFields [F.HOST_SESS_SECURE, F.HOST_SEQ_SEQ] s t)

/-- Each clause under the conditions it writes: LINK_UP of a live port shows UP, SPEED and FULL as given at 100 Mbit/s, full duplex at 1,000 Mbit/s,
  and zeros when the link is down. An ARP request for the port's own address is answered to its sender, and an ICMP echo request with its own bytes;
  neither changes a register. Rests on the model's choices in the log entries 2, 23 (notes/assumptions). -/
def Obligations.EthernetPorts : Prop :=
  (∀ (p : Fin 2) (full : Bool) (s : State), s.portsLive = true → Gives (.linkUp p true 1 full) s fun t => t.rd (F.ETH_LINK_UP p.val) = 1 ∧ t.rd
    (F.ETH_LINK_SPEED p.val) = 1 ∧ t.rd (F.ETH_LINK_FULL p.val) = (if full then 1 else 0) ∧ OnlyFields [F.ETH_LINK_UP p.val, F.ETH_LINK_SPEED p.val,
    F.ETH_LINK_FULL p.val] s t) ∧
  (∀ (p : Fin 2) (full : Bool) (s : State), s.portsLive = true → Gives (.linkUp p true 2 full) s fun t => t.rd (F.ETH_LINK_UP p.val) = 1 ∧ t.rd
    (F.ETH_LINK_SPEED p.val) = 2 ∧ t.rd (F.ETH_LINK_FULL p.val) = 1) ∧
  (∀ (p : Fin 2) (speed : Fin 3) (full : Bool) (s : State), s.portsLive = true → Gives (.linkUp p false speed full) s fun t => t.rd (F.ETH_LINK_UP
    p.val) = 0 ∧ t.rd (F.ETH_LINK_SPEED p.val) = 0 ∧ t.rd (F.ETH_LINK_FULL p.val) = 0) ∧
  (∀ (p : Fin 2) (ip target : BitVec 32) (s : State), s.ipUp p.val = true → s.rd (F.ETH_IPV4_ADDR p.val) = target.toNat → Gives (.arpRequest p ip
    target) s fun t => t.out = s.out ++ [.arp p.val ip.toNat] ∧ t.regs = s.regs) ∧
  (∀ (p : Fin 2) (ip : BitVec 32) (bytes : List Byte) (s : State), s.ipUp p.val = true → Gives (.icmpEcho p ip bytes) s fun t => t.out = s.out ++
    [.icmp p.val ip.toNat bytes] ∧ t.regs = s.regs)

/-- Each clause under the conditions it writes: at the port's RALKIUL address a sound OPEN takes the first free session with its client nonce and
  sends one message; a PROOF of both nonces under a world key opens that session with its world, SEQ and key; and in an open session a tagged message
  from the session's address and port with a higher SEQ: NOTIFY_ACK ends the outstanding NOTIFY, KEEPALIVE takes its SEQ and changes nothing else of
  the session, CLOSE frees it. The lapse of a challenge and the timeout free their session. CLOSE and the timeout, where the session owns no staging,
  change only the OPEN counts. A NOTIFY outstanding is sent again at a retry below the third, and at the next one is given up with NOTIFY_LOST. Rests
  on the model's choices in the log entries 2, 22, 60, 78, 79 (notes/assumptions). -/
def Obligations.RalkiulSessions : Prop :=
  (∀ (p : Fin 2) (ip : BitVec 32) (udp : UdpPorts) (b : List Byte) (i : Fin 8) (s : State), s.ipUp p.val = true → s.on (F.ETH_RK_CFG_RK_EN p.val) =
    true → s.rd (F.ETH_RK_CFG_UDP_PORT p.val) = udp.dst.toNat → rkSound b = true → beAt b 3 1 = 0x01 → beAt b 4 1 = 0 → (rkTag b).any (· != 0) =
    false → (rkPayload b).length = 16 → ((List.range 8).find? fun i => (s.rkSession i).openState == 0) = some i.val → Gives (.ralkiulOpen p ip udp b)
    s fun t => (t.rkSession i.val).openState = 1 ∧ (t.rkSession i.val).clientNonce = rkPayload b ∧ t.free = s.free + 1 ∧ t.out.length = s.out.length
    + 1 ∧ t.regs = s.regs) ∧
  (∀ (p : Fin 2) (ip : BitVec 32) (udp : UdpPorts) (b : List Byte) (i : Fin 8) (s : State), s.ipUp p.val = true → s.on (F.ETH_RK_CFG_RK_EN p.val) =
    true → s.rd (F.ETH_RK_CFG_UDP_PORT p.val) = udp.dst.toNat → rkSound b = true → beAt b 3 1 = 0x03 → beAt b 4 1 = 0x10 + i.val → (s.rkSession
    i.val).openState = 1 → beAt b 16 1 ≤ 1 → (rkPayload b).drop 1 = (s.rkSession i.val).clientNonce ++ (s.rkSession i.val).moduleNonce → s.tagOk
    (beAt b 16 1) 16 (rkBody b) (rkTag b) = true → Gives (.ralkiulProof p ip udp b) s fun t => (t.rkSession i.val).openState = 2 ∧ (t.rkSession
    i.val).secure = (beAt b 16 1 == 1) ∧ (t.rkSession i.val).lastSeq = beAt b 8 4 ∧ (t.rkSession i.val).key = hmac (s.key (beAt b 16 1))
    ((s.rkSession i.val).clientNonce ++ (s.rkSession i.val).moduleNonce) ∧ OnlyFields [F.ETH_RK_STAT_OPEN 0, F.ETH_RK_STAT_OPEN 1] s t) ∧
  (∀ (p : Fin 2) (ip : BitVec 32) (udp : UdpPorts) (b : List Byte) (i : Fin 8) (s : State), s.ipUp p.val = true → s.on (F.ETH_RK_CFG_RK_EN p.val) =
    true → s.rd (F.ETH_RK_CFG_UDP_PORT p.val) = udp.dst.toNat → rkSound b = true → beAt b 3 1 = 0x21 → beAt b 4 1 = 0x10 + i.val → (s.rkSession
    i.val).openState = 2 → rkTag b = tag 16 (s.rkSession i.val).key (rkBody b) → (s.rkSession i.val).address = ip.toNat → (s.rkSession i.val).udpPort
    = udp.src.toNat → (s.rkSession i.val).lastSeq < beAt b 8 4 → Gives (.ralkiulNotifyAck p ip udp b) s fun t => (t.rkSession i.val).outstanding =
    none ∧ (t.rkSession i.val).notifyTries = 0 ∧ (t.rkSession i.val).lastSeq = beAt b 8 4 ∧ t.regs = s.regs) ∧
  (∀ (p : Fin 2) (ip : BitVec 32) (udp : UdpPorts) (b : List Byte) (i : Fin 8) (s : State), s.ipUp p.val = true → s.on (F.ETH_RK_CFG_RK_EN p.val) =
    true → s.rd (F.ETH_RK_CFG_UDP_PORT p.val) = udp.dst.toNat → rkSound b = true → beAt b 3 1 = 0x30 → beAt b 4 1 = 0x10 + i.val → (s.rkSession
    i.val).openState = 2 → rkTag b = tag 16 (s.rkSession i.val).key (rkBody b) → (s.rkSession i.val).address = ip.toNat → (s.rkSession i.val).udpPort
    = udp.src.toNat → (s.rkSession i.val).lastSeq < beAt b 8 4 → Gives (.ralkiulKeepalive p ip udp b) s fun t => t.rkSession i.val =
    { s.rkSession i.val with lastSeq := beAt b 8 4 } ∧ t.regs = s.regs) ∧
  (∀ (p : Fin 2) (ip : BitVec 32) (udp : UdpPorts) (b : List Byte) (i : Fin 8) (s : State), s.ipUp p.val = true → s.on (F.ETH_RK_CFG_RK_EN p.val) =
    true → s.rd (F.ETH_RK_CFG_UDP_PORT p.val) = udp.dst.toNat → rkSound b = true → beAt b 3 1 = 0x31 → beAt b 4 1 = 0x10 + i.val → (s.rkSession
    i.val).openState = 2 → rkTag b = tag 16 (s.rkSession i.val).key (rkBody b) → (s.rkSession i.val).address = ip.toNat → (s.rkSession i.val).udpPort
    = udp.src.toNat → (s.rkSession i.val).lastSeq < beAt b 8 4 → Gives (.ralkiulClose p ip udp b) s fun t => t.rkSession i.val = {} ∧ (s.rd
    F.CROWN_STAGE_OWNER_SESSION ≠ 0x10 + i.val → OnlyFields [F.ETH_RK_STAT_OPEN 0, F.ETH_RK_STAT_OPEN 1] s t)) ∧
  (∀ (i : Fin 8) (s : State), (s.rkSession i.val).openState = 1 → Gives (.ralkiulChallengeLapse i) s fun t => t.rkSession i.val = {} ∧ t.regs =
    s.regs) ∧
  (∀ (i : Fin 8) (s : State), (s.rkSession i.val).openState = 2 → Gives (.ralkiulSessionTimeout i) s fun t => t.rkSession i.val = {} ∧ (s.rd
    F.CROWN_STAGE_OWNER_SESSION ≠ 0x10 + i.val → OnlyFields [F.ETH_RK_STAT_OPEN 0, F.ETH_RK_STAT_OPEN 1] s t)) ∧
  (∀ (i : Fin 8) (s : State), (s.rkSession i.val).outstanding ≠ none → (s.rkSession i.val).notifyTries < 3 → Gives (.notifyRetry i) s fun t =>
    (t.rkSession i.val).notifyTries = (s.rkSession i.val).notifyTries + 1 ∧ t.out.length = s.out.length + 1 ∧ t.regs = s.regs) ∧
  (∀ (i : Fin 8) (s : State), (s.rkSession i.val).outstanding ≠ none → 3 ≤ (s.rkSession i.val).notifyTries → Gives (.notifyRetry i) s fun t =>
    (t.rkSession i.val).outstanding = none ∧ t.rd (F.ETH_RK_STAT_NOTIFY_LOST (s.rkSession i.val).eth) = 1 ∧ OnlyFields [F.ETH_RK_STAT_NOTIFY_LOST
    (s.rkSession i.val).eth] s t)

/-- Each clause under the conditions it writes: in an open session a sound tagged message from its address and port with a higher SEQ and a REQ_ID
  not kept: a READ of one word of a live register other than PROG_LIVE that nothing bars keeps a response of result 0 with the value the register
  reads as; a barred one keeps the code that bars it and a 0. A WRITE of one word to ESTIM.VIEW that is not refused keeps the response of result 0
  and count 1 and changes that field alone; a refused WRITE of one word keeps its code and count 0, with no staged word and nothing in non-volatile
  memory changed. A WRITE whose REQ_ID is kept sends one message and changes no register. Rests on the model's choices in the log entries 2, 22
  (notes/assumptions). -/
def Obligations.RalkiulTransactions : Prop :=
  (∀ (p : Fin 2) (ip : BitVec 32) (udp : UdpPorts) (b : List Byte) (i : Fin 8) (s : State), s.ipUp p.val = true → s.on (F.ETH_RK_CFG_RK_EN p.val) =
    true → s.rd (F.ETH_RK_CFG_UDP_PORT p.val) = udp.dst.toNat → rkSound b = true → beAt b 3 1 = 0x10 → beAt b 4 1 = 0x10 + i.val → (s.rkSession
    i.val).openState = 2 → rkTag b = tag 16 (s.rkSession i.val).key (rkBody b) → (s.rkSession i.val).address = ip.toNat → (s.rkSession i.val).udpPort
    = udp.src.toNat → (s.rkSession i.val).lastSeq < beAt b 8 4 → ((s.rkSession i.val).stored.find? fun x => x.1 == beAt b 12 4) = none → (rkPayload
    b).length = 6 → beAt b 20 2 = 1 → beAt b 16 4 < 2 ^ 20 → s.barred (.ralkiul i) (beAt b 16 4) false = 0 → beAt b 16 4 % 4096 < 0x800 → beAt b 16 4
    ≠ A.SCAN_PROG_LIVE → Gives (.ralkiulRead p ip udp b) s fun t => ((t.rkSession i.val).stored.head?) = some (beAt b 12 4, 0x11 :: rkResult 0 1
    [t.readValue (.ralkiul i) (beAt b 16 4)])) ∧
  (∀ (p : Fin 2) (ip : BitVec 32) (udp : UdpPorts) (b : List Byte) (i : Fin 8) (s : State), s.ipUp p.val = true → s.on (F.ETH_RK_CFG_RK_EN p.val) =
    true → s.rd (F.ETH_RK_CFG_UDP_PORT p.val) = udp.dst.toNat → rkSound b = true → beAt b 3 1 = 0x10 → beAt b 4 1 = 0x10 + i.val → (s.rkSession
    i.val).openState = 2 → rkTag b = tag 16 (s.rkSession i.val).key (rkBody b) → (s.rkSession i.val).address = ip.toNat → (s.rkSession i.val).udpPort
    = udp.src.toNat → (s.rkSession i.val).lastSeq < beAt b 8 4 → ((s.rkSession i.val).stored.find? fun x => x.1 == beAt b 12 4) = none → (rkPayload
    b).length = 6 → beAt b 20 2 = 1 → beAt b 16 4 < 2 ^ 20 → beAt b 16 4 % 4 = 0 → s.barred (.ralkiul i) (beAt b 16 4) false ≠ 0 → Gives
    (.ralkiulRead p ip udp b) s fun t => ((t.rkSession i.val).stored.head?) = some (beAt b 12 4, 0x11 :: rkResult (s.barred (.ralkiul i) (beAt b 16
    4) false) 1 [0])) ∧
  (∀ (p : Fin 2) (ip : BitVec 32) (udp : UdpPorts) (b : List Byte) (i : Fin 8) (s : State), s.ipUp p.val = true → s.on (F.ETH_RK_CFG_RK_EN p.val) =
    true → s.rd (F.ETH_RK_CFG_UDP_PORT p.val) = udp.dst.toNat → rkSound b = true → beAt b 3 1 = 0x12 → beAt b 4 1 = 0x10 + i.val → (s.rkSession
    i.val).openState = 2 → rkTag b = tag 16 (s.rkSession i.val).key (rkBody b) → (s.rkSession i.val).address = ip.toNat → (s.rkSession i.val).udpPort
    = udp.src.toNat → (s.rkSession i.val).lastSeq < beAt b 8 4 → ((s.rkSession i.val).stored.find? fun x => x.1 == beAt b 12 4) = none → (rkPayload
    b).length = 10 → beAt b 20 2 = 1 → beAt b 16 4 = A.ESTIM_VIEW → s.writeCode (.ralkiul i) (beAt b 16 4) (beAt b 22 4) = 0 → (s.host.held.any fun h
    => pageOf h.addr == 0x28) = false → Gives (.ralkiulWrite p ip udp b) s fun t => ((t.rkSession i.val).stored.head?) = some (beAt b 12 4, 0x13 ::
    rkResult 0 1 []) ∧ t.rd F.ESTIM_VIEW_CELL = beAt b 22 4 % 512 ∧ OnlyFields [F.ESTIM_VIEW_CELL] s t) ∧
  (∀ (p : Fin 2) (ip : BitVec 32) (udp : UdpPorts) (b : List Byte) (i : Fin 8) (s : State), s.ipUp p.val = true → s.on (F.ETH_RK_CFG_RK_EN p.val) =
    true → s.rd (F.ETH_RK_CFG_UDP_PORT p.val) = udp.dst.toNat → rkSound b = true → beAt b 3 1 = 0x12 → beAt b 4 1 = 0x10 + i.val → (s.rkSession
    i.val).openState = 2 → rkTag b = tag 16 (s.rkSession i.val).key (rkBody b) → (s.rkSession i.val).address = ip.toNat → (s.rkSession i.val).udpPort
    = udp.src.toNat → (s.rkSession i.val).lastSeq < beAt b 8 4 → ((s.rkSession i.val).stored.find? fun x => x.1 == beAt b 12 4) = none → (rkPayload
    b).length = 10 → beAt b 20 2 = 1 → beAt b 16 4 < 2 ^ 20 → beAt b 16 4 % 4 = 0 → s.writeCode (.ralkiul i) (beAt b 16 4) (beAt b 22 4) ≠ 0 → Gives
    (.ralkiulWrite p ip udp b) s fun t => ((t.rkSession i.val).stored.head?) = some (beAt b 12 4, 0x13 :: rkResult (s.writeCode (.ralkiul i) (beAt b
    16 4) (beAt b 22 4)) 0 []) ∧ t.staged = s.staged ∧ t.nvm = s.nvm) ∧
  (∀ (p : Fin 2) (ip : BitVec 32) (udp : UdpPorts) (b : List Byte) (i : Fin 8) (s : State), s.ipUp p.val = true → s.on (F.ETH_RK_CFG_RK_EN p.val) =
    true → s.rd (F.ETH_RK_CFG_UDP_PORT p.val) = udp.dst.toNat → rkSound b = true → beAt b 3 1 = 0x12 → beAt b 4 1 = 0x10 + i.val → (s.rkSession
    i.val).openState = 2 → rkTag b = tag 16 (s.rkSession i.val).key (rkBody b) → (s.rkSession i.val).address = ip.toNat → (s.rkSession i.val).udpPort
    = udp.src.toNat → (s.rkSession i.val).lastSeq < beAt b 8 4 → ((s.rkSession i.val).stored.find? fun x => x.1 == beAt b 12 4) = some (beAt b 12 4,
    [0x13, 0]) → Gives (.ralkiulWrite p ip udp b) s fun t => t.regs = s.regs ∧ t.out.length = s.out.length + 1)

/-- Each clause under the conditions it writes: the loss of a port link in INTACT leads to BROKEN with LOOP_NS 0 and a delay measurement due; in OFF
  or WAKING it changes the link bit and not STATE. A link report by a configured node in INTACT leads to BROKEN with a measurement due and BREAK_LO
  and BREAK_HI from the last answers. A keepalive that fails in INTACT after one that failed, with node 0 among its answers on the down port, leads
  to BROKEN with its answers kept. A port that synchronises shows its link bit and changes no other field. Rests on the model's choices in the log
  entries 2, 29, 83 (notes/assumptions). -/
def Obligations.RingBreaks : Prop :=
  (∀ (p : Fin 2) (errs : BitVec 16) (s : State), s.rd F.RING_STATUS_STATE = 3 → Gives (.ringPortLinkDown p errs) s fun t => t.rd F.RING_STATUS_STATE
    = 4 ∧ t.rd (if p.val = 0 then F.RING_STATUS_LINK_A else F.RING_STATUS_LINK_B) = 0 ∧ t.rd F.RING_TIME_LOOP_NS = 0 ∧ t.ringSt.measureDue = true) ∧
  (∀ (p : Fin 2) (errs : BitVec 16) (s : State), s.rd F.RING_STATUS_STATE < 2 → Gives (.ringPortLinkDown p errs) s fun t => t.rd F.RING_STATUS_STATE
    = s.rd F.RING_STATUS_STATE ∧ t.rd (if p.val = 0 then F.RING_STATUS_LINK_A else F.RING_STATUS_LINK_B) = 0 ∧ t.ringSt = s.ringSt) ∧
  (∀ (p : Fin 2) (s : State), Gives (.ringPortSynchronised p) s fun t => t.rd (if p.val = 0 then F.RING_STATUS_LINK_A else F.RING_STATUS_LINK_B) = 1
    ∧ OnlyFields [(if p.val = 0 then F.RING_STATUS_LINK_A else F.RING_STATUS_LINK_B)] s t) ∧
  (∀ (n : Fin 32) (s : State), s.rd F.RING_STATUS_STATE = 3 → n.val ∈ s.nodes → Gives (.linkReport n) s fun t => t.rd F.RING_STATUS_STATE = 4 ∧
    t.ringSt.measureDue = true ∧ t.rd F.RING_STATUS_BREAK_LO = ((s.nodes.filter s.ringSt.down.testBit).getLast?.getD 0x3F) ∧ t.rd
    F.RING_STATUS_BREAK_HI = ((s.nodes.find? s.ringSt.up.testBit).getD 0x3F)) ∧
  (∀ (answers : NopAnswers) (errs : PortErrs) (s : State), s.ringSt.nopOut = true → s.rd F.RING_STATUS_STATE = 3 → 1 ≤ s.ringSt.failRun → s.rd
    F.RING_CFG_NODE_COUNT ≠ 0 → answers.down.toNat.testBit 0 = true → Gives (.keepaliveFail answers errs) s fun t => t.rd F.RING_STATUS_STATE = 4 ∧
    t.ringSt.nopOut = false ∧ t.ringSt.down = answers.down.toNat ∧ t.ringSt.up = answers.up.toNat)

/-- Each clause under the conditions it writes: the first valid reply to IDENT, outside stage 3 of an enumeration, shows TYPE, CELLS and FW_VER, to
  FAULT_READ the CAUSE of its node, and ends the wait of its command; an IDENT reply of STATUS 3 that answers none sets CONFLICT with its event. The
  first timeout of a command that expects a reply, with nothing held and a SEQ free, sends it again with the next SEQ; the second one of an IDENT
  outside stage 3 is a lasting fault and ends its wait. RING_SEQ_RELEASE with a SEQ free launches the first held command with the next SEQ. A
  keepalive of a ring that is awake puts a NOP out, and one that returns from every node in INTACT shows LOOP_NS, keeps the answers and ends the run
  of failures. Rests on the model's choices in the log entries 2, 29, 30, 81 (notes/assumptions). -/
def Obligations.RingExchanges : Prop :=
  (∀ (n : Fin 32) (seq : BitVec 8) (data : ReplyData) (c : RingCmd) (s : State), s.ringSt.wait.find? (fun c => c.node == n.val && c.cmd == 2 && c.seq
    == seq.toNat) = some c → c.second = false → s.ringSt.stage ≠ 3 → Gives (.ringReply n 0x02 seq 0 data) s fun t => t.rd (F.RING_NODEID_TYPE n.val)
    = beAt data.payload 0 1 ∧ t.rd (F.RING_NODEID_CELLS n.val) = beAt data.payload 1 1 % 2 ^ (F.RING_NODEID_CELLS n.val).width ∧ t.rd
    (F.RING_NODEID_FW_VER n.val) = beAt data.payload 2 2 ∧ t.ringSt.wait = (s.ringSt.wait.filter fun x => !(x.node == c.node && x.cmd == c.cmd &&
    x.seq == c.seq))) ∧
  (∀ (n : Fin 32) (seq : BitVec 8) (status : BitVec 4) (data : ReplyData) (c : RingCmd) (s : State), s.ringSt.wait.find? (fun c => c.node == n.val &&
    c.cmd == 0x31 && c.seq == seq.toNat) = some c → c.second = false → (status = 0 ∨ status = 3) → Gives (.ringReply n 0x31 seq status data) s fun t
    => t.rd (F.NODE_NSTAT_CAUSE n.val) = beAt data.payload 0 1 % 8 ∧ t.crown.clearAwait = s.crown.clearAwait.filter (· != n.val) ∧ t.ringSt.wait =
    (s.ringSt.wait.filter fun x => !(x.node == c.node && x.cmd == c.cmd && x.seq == c.seq)) ∧ OnlyFields [F.NODE_NSTAT_CAUSE n.val, ⟨A.RING_ERRA, 0,
    32⟩, ⟨A.RING_ERRB, 0, 32⟩] s t) ∧
  (∀ (n : Fin 32) (seq : BitVec 8) (data : ReplyData) (s : State), s.originates = true → s.ringSt.wait.find? (fun c => c.node == n.val && c.cmd ==
    0x02 && c.seq == seq.toNat) = none → Gives (.ringReply n 0x02 seq 3 data) s fun t => t.rd F.RING_STATUS_CONFLICT = 1 ∧ t.bit (evtStatus 0x18) 7 =
    true ∧ OnlyFields [F.RING_STATUS_CONFLICT, evtStatus 0x18, ⟨A.RING_ERRA, 0, 32⟩, ⟨A.RING_ERRB, 0, 32⟩] s t) ∧
  (∀ (n : Fin 32) (cmd seq : BitVec 8) (ea eb : PortErr) (c : RingCmd) (s : State), s.ringSt.wait.find? (fun c => c.node == n.val && c.cmd ==
    cmd.toNat && c.seq == seq.toNat) = some c → c.second = false → c.replies = true → s.originates = true → s.ringSt.held = [] → s.seqFree = true →
    Gives (.ringReplyTimeout n cmd seq ea eb) s fun t => t.ringSt.wait = ((s.ringSt.wait.filter fun x => !(x.node == c.node && x.cmd == c.cmd &&
    x.seq == c.seq))) ++ [{ c with second := true, seq := (s.ringSt.seq + 1) % 256 }] ∧ t.ringSt.seq = (s.ringSt.seq + 1) % 256) ∧
  (∀ (n : Fin 32) (seq : BitVec 8) (ea eb : PortErr) (c : RingCmd) (s : State), s.ringSt.wait.find? (fun c => c.node == n.val && c.cmd == 0x02 &&
    c.seq == seq.toNat) = some c → c.second = true → s.ringSt.stage ≠ 3 → Gives (.ringReplyTimeout n 0x02 seq ea eb) s fun t => t.rd (pageFld 0x18
    0x02C 0 16) = evCode 0x18 .ringCrc ∧ t.bit (evtStatus 0x18) 6 = true ∧ t.ringSt.wait = (s.ringSt.wait.filter fun x => !(x.node == c.node && x.cmd
    == c.cmd && x.seq == c.seq))) ∧
  (∀ (s : State), s.ringSt.held ≠ [] → s.seqFree = true → Gives .ringSeqRelease s fun t => t.ringSt.held = s.ringSt.held.tail ∧ t.ringSt.seq =
    (s.ringSt.seq + 1) % 256 ∧ t.regs = s.regs) ∧
  (∀ (s : State), 2 ≤ s.rd F.RING_STATUS_STATE → Gives .keepalive s fun t => t.ringSt.nopOut = true ∧ t.regs = s.regs) ∧
  (∀ (answers : NopAnswers) (ns : BitVec 16) (errs : PortErrs) (s : State), s.ringSt.nopOut = true → s.rd F.RING_STATUS_STATE = 3 → s.nodes ≠ [] → (∀
    n ∈ s.nodes, answers.down.toNat.testBit n = true ∧ answers.up.toNat.testBit n = true) → Gives (.keepaliveReturn answers ns errs) s fun t => t.rd
    F.RING_STATUS_STATE = 3 ∧ t.rd F.RING_TIME_LOOP_NS = ns.toNat ∧ t.ringSt.nopOut = false ∧ t.ringSt.down = answers.down.toNat ∧ t.ringSt.up =
    answers.up.toNat ∧ t.ringSt.failRun = 0)

/-- Each clause under the conditions it writes: the return of the wake sequence in WAKING with both links up leads to ENUMERATING, its timeout with
  port A's link down to BROKEN, and both begin a full enumeration. ENUMERATE of a unit that originates begins one outside CONNECT, RUN and HOLD, with
  CONFLICT and FOREIGN clear, and inside them, from a party other than the host, changes nothing of the ring. The first ENUM's return is kept and its
  timeout in ENUMERATING leads to BROKEN; both go on to the second. An ECHO that returns below the sixteenth adds one echo and its time. MEASURE and
  the delay period on an idle INTACT ring begin a delay measurement. CLR_ERR clears the counts of both ports and no other field. When CONFLICT and
  FOREIGN clear is the model's choice. Rests on the model's choices in the log entries 2, 29, 30, 82 (notes/assumptions). -/
def Obligations.RingEnumeration : Prop :=
  (∀ (s : State), s.rd F.RING_STATUS_STATE = 1 → s.on F.RING_STATUS_LINK_A = true → s.on F.RING_STATUS_LINK_B = true → Gives .wakeSequenceReturn s
    fun t => t.rd F.RING_STATUS_STATE = 2 ∧ t.ringSt.stage = 1 ∧ t.ringSt.full = true ∧ t.ringSt.ident = 0) ∧
  (∀ (s : State), s.rd F.RING_STATUS_STATE = 1 → s.on F.RING_STATUS_LINK_A = false → Gives .wakeSequenceTimeout s fun t => t.rd F.RING_STATUS_STATE =
    4 ∧ t.ringSt.stage = 1 ∧ t.ringSt.full = true ∧ t.ringSt.ident = 0) ∧
  (∀ (who : Initiator) (s : State), s.barred who A.RING_CMD true = 0 → s.mode ≠ .connect → s.mode ≠ .run → s.mode ≠ .hold → s.originates = true →
    Gives (.enumerateCmd who) s fun t => t.ringSt.stage = 1 ∧ t.ringSt.full = true ∧ t.ringSt.ident = 0 ∧ t.rd F.RING_STATUS_CONFLICT = 0 ∧ t.rd
    F.RING_STATUS_FOREIGN = 0) ∧
  (∀ (who : Initiator) (s : State), s.barred who A.RING_CMD true = 0 → who ≠ .host → (s.mode = .connect ∨ s.mode = .run ∨ s.mode = .hold) → Gives
    (.enumerateCmd who) s fun t => t.ringSt = s.ringSt ∧ t.regs = s.regs ∧ t.out = s.out) ∧
  (∀ (next : BitVec 8) (s : State), s.ringSt.stage = 1 → Gives (.enumReturn next) s fun t => t.ringSt.stage = 2 ∧ t.ringSt.enum1 = some next.toNat ∧
    t.regs = s.regs) ∧
  (∀ (s : State), s.ringSt.stage = 1 → s.rd F.RING_STATUS_STATE = 2 → Gives .enumTimeout s fun t => t.ringSt.stage = 2 ∧ t.ringSt.enum1 = none ∧ t.rd
    F.RING_STATUS_STATE = 4) ∧
  (∀ (n : Fin 32) (side : Fin 2) (rt : BitVec 16) (c : RingCmd) (s : State), s.ringSt.wait.find? (fun c => c.node == n.val && c.cmd == 0x03 && c.port
    == some side.val) = some c → c.second = false → (mget (0, 0) s.ringSt.echo (2 * n.val + side.val)).1 < 15 → Gives (.echoReturn n side rt) s fun t
    => t.ringSt.echo = mset (0, 0) s.ringSt.echo (2 * n.val + side.val) ((mget (0, 0) s.ringSt.echo (2 * n.val + side.val)).1 + 1, (mget (0, 0)
    s.ringSt.echo (2 * n.val + side.val)).2 + 4 * rt.toNat) ∧ t.regs = s.regs) ∧
  (∀ (s : State), s.rd F.RING_STATUS_STATE = 3 → s.ringSt.stage = 0 → s.rd F.RING_CFG_NODE_COUNT ≠ 0 → s.ringSt.down.testBit 0 = true → Gives
    .delayPeriod s fun t => t.ringSt.stage = 6 ∧ t.ringSt.full = false ∧ t.ringSt.echo = [] ∧ t.ringSt.measureDue = false) ∧
  (∀ (who : Initiator) (s : State), s.barred who A.RING_CMD true = 0 → s.rd F.RING_STATUS_STATE = 3 → s.ringSt.stage = 0 → s.rd F.RING_CFG_NODE_COUNT
    ≠ 0 → s.ringSt.down.testBit 0 = true → Gives (.measureCmd who) s fun t => t.ringSt.stage = 6 ∧ t.ringSt.full = false ∧ t.ringSt.echo = [] ∧
    t.ringSt.measureDue = false) ∧
  (∀ (who : Initiator) (s : State), s.barred who A.RING_CMD true = 0 → Gives (.ringClrErr who) s fun t => t.word A.RING_ERRA = 0 ∧ t.word A.RING_ERRB
    = 0 ∧ OnlyFields [⟨A.RING_ERRA, 0, 32⟩, ⟨A.RING_ERRB, 0, 32⟩] s t)

/-- Each clause under the conditions it writes: A slot that carries no harvest only counts towards the next coarse one. One that carries a harvest on
  a usable ring with an unmoved common delay takes the next sequence number and opens a capture of its kind, and a unit that is not the standby
  launches the two SYNCs; on a ring not usable or with a moved common delay it counts as missed. The pause SYNC goes out with KIND 7 before such a
  slot; a T harvest that is due or requested is marked and launched. Rests on the model's choices in the log entries 2, 31, 76 (notes/assumptions). -/
def Obligations.HarvestSlots : Prop :=
  (∀ (r : Readings) (lag : Fin 40) (moved : Bool) (s : State), s.slotsRun = true → s.slotKind = none → Gives (.harvestSlot r lag moved) s fun t =>
    t.harv = { s.harv with since := if s.harv.since + 1 ≥ s.rd F.HARVEST_CFG_C_EVERY then 0 else s.harv.since + 1 } ∧ t.rd F.HARVEST_STATUS_RUNNING =
    1 ∧ t.out = s.out ∧ OnlyFields [F.HARVEST_STATUS_RUNNING] s t) ∧
  (∀ (r : Readings) (lag : Fin 40) (k : Nat) (s : State), s.slotsRun = true → s.slotKind = some k → s.ringUsable = true → s.rd F.PAIR_STATUS_ROLE ≠ 2
    → Gives (.harvestSlot r lag false) s fun t => t.harv.seq = (s.harv.seq + 1) % 16 ∧ t.harv.hseq = (s.harv.hseq + 1) % 2 ^ 32 ∧
    t.harv.captures.length = s.harv.captures.length + 1 ∧ (t.harv.captures.getLast?.map fun x => (x.hseq, x.seq, x.kind)) = some (s.harv.hseq,
    (s.harv.seq + 1) % 16, k) ∧ t.out = s.out ++ [.sync s.downPort (syncTag 0 k ((s.harv.seq + 1) % 16)), .sync (1 - s.downPort) (syncTag 1 k
    ((s.harv.seq + 1) % 16))] ∧ t.harv.oneV = false ∧ t.harv.oneC = false ∧ OnlyFields [F.HARVEST_STATUS_RUNNING] s t) ∧
  (∀ (r : Readings) (lag : Fin 40) (k : Nat) (s : State), s.slotsRun = true → s.slotKind = some k → s.rd F.PAIR_STATUS_ROLE = 2 → Gives (.harvestSlot
    r lag false) s fun t => t.harv.seq = (s.harv.seq + 1) % 16 ∧ (t.harv.captures.getLast?.map fun x => (x.hseq, x.seq, x.kind)) = some (s.harv.hseq,
    (s.harv.seq + 1) % 16, k) ∧ t.out = s.out ∧ OnlyFields [F.HARVEST_STATUS_RUNNING] s t) ∧
  (∀ (r : Readings) (lag : Fin 40) (moved : Bool) (k : Nat) (s : State), s.slotsRun = true → s.slotKind = some k → (s.ringUsable = false ∨ moved =
    true) → Gives (.harvestSlot r lag moved) s fun t => t.rd F.HARVEST_STAT_MISSED = satCount F.HARVEST_STAT_MISSED.width (s.rd F.HARVEST_STAT_MISSED
    + 1) ∧ t.bit (evtStatus 0x19) 2 = true ∧ t.harv.captures = s.harv.captures ∧ OnlyFields [F.HARVEST_STATUS_RUNNING, F.HARVEST_STAT_MISSED,
    evtStatus 0x19] s t) ∧
  (∀ (s : State), s.slotKind.isSome = true → s.ringUsable = true → s.rd F.PAIR_STATUS_ROLE ≠ 2 → Gives .pauseLaunch s fun t => t.harv =
    { s.harv with seq := (s.harv.seq + 1) % 16 } ∧ t.out = s.out ++ [.sync s.downPort (syncTag 0 7 ((s.harv.seq + 1) % 16)), .sync (1 - s.downPort)
    (syncTag 1 7 ((s.harv.seq + 1) % 16))] ∧ t.regs = s.regs) ∧
  (∀ (s : State), s.slotsRun = true → s.mode ≠ .service → Gives .tHarvestDue s fun t => t.harv = { s.harv with tDue := true } ∧ t.regs = s.regs) ∧
  (∀ (r : Readings) (s : State), (s.harv.tDue = true ∨ s.harv.oneT = true) → s.slotsRun = true → s.ringUsable = true → Gives (.tHarvestLaunch r) s
    fun t => t.harv.tDue = false ∧ t.harv.oneT = false ∧ t.harv.seq = (s.harv.seq + 1) % 16 ∧ t.harv.hseq = (s.harv.hseq + 1) % 2 ^ 32 ∧
    (t.harv.captures.getLast?.map fun x => (x.hseq, x.seq, x.kind)) = some (s.harv.hseq, (s.harv.seq + 1) % 16, 2) ∧ t.regs = s.regs)

/-- Each clause under the conditions it writes: ONESHOT V and C mark the next slot and give the harvests before their aperture a next slot; ONESHOT T
  launches a temperature harvest at once where slots run on a usable ring, and waits where they do not; FREEZE sets and its expiry clears the freeze
  of CELLV. Rests on the model's choices in the log entries 2, 31 (notes/assumptions). -/
def Obligations.HarvestRequests : Prop :=
  (∀ (who : Initiator) (s : State), s.barred who A.HARVEST_CMD true = 0 → s.mode ≠ .transport → Gives (.oneshotV who) s fun t => t.harv =
    { s.harv with oneV := true, captures := s.harv.captures.map fun c => if c.at3 > s.mono then { c with noNext := false } else c } ∧ OnlyFields [] s
    t) ∧
  (∀ (who : Initiator) (s : State), s.barred who A.HARVEST_CMD true = 0 → s.mode ≠ .transport → Gives (.oneshotC who) s fun t => t.harv =
    { s.harv with oneC := true, captures := s.harv.captures.map fun c => if c.at3 > s.mono then { c with noNext := false } else c } ∧ OnlyFields [] s
    t) ∧
  (∀ (who : Initiator) (r : Readings) (s : State), s.barred who A.HARVEST_CMD true = 0 → s.slotsRun = true → s.ringUsable = true → Gives (.oneshotT
    who r) s fun t => t.harv.oneT = false ∧ t.harv.seq = (s.harv.seq + 1) % 16 ∧ (t.harv.captures.getLast?.map fun x => (x.hseq, x.seq, x.kind)) =
    some (s.harv.hseq, (s.harv.seq + 1) % 16, 2) ∧ OnlyFields [] s t) ∧
  (∀ (who : Initiator) (r : Readings) (s : State), s.barred who A.HARVEST_CMD true = 0 → s.slotsRun = false → s.mode ≠ .transport → Gives (.oneshotT
    who r) s fun t => t.harv = { s.harv with oneT := true } ∧ OnlyFields [] s t) ∧
  (∀ (who : Initiator) (b : Bool) (s : State), s.barred who A.CELLV_SNAP true = 0 → Gives (.freezeCmd who b) s fun t => t.rd F.CELLV_SNAP_FREEZE =
    (if b then 1 else 0) ∧ OnlyFields [F.CELLV_SNAP_FREEZE] s t) ∧
  (∀ (s : State), Gives .freezeExpiry s fun t => t.rd F.CELLV_SNAP_FREEZE = 0 ∧ OnlyFields [F.CELLV_SNAP_FREEZE] s t)

/-- Each clause under the conditions it writes: A frame of a known node with a valid CRC and count joins the harvest of its SEQ, CMD and KIND and
  shows its UNSUSPENDED flag; a copy that fails its CRC, the first of its frame, is remembered with its port. At the deadline the nodes missing are
  asked again where the close lies 30 us later. The close takes the capture out: with data it shows the number, kind and completeness of the record,
  without data it counts as missed. Rests on the model's choices in the log entries 2, 31 (notes/assumptions). -/
def Obligations.HarvestFrames : Prop :=
  (∀ (n : Fin 32) (cmd : BitVec 8) (seq : Fin 16) (port : Fin 2) (payload : List Byte) (c : Capture) (s : State), s.captureOf cmd.toNat seq.val (some
    (beAt payload 0 1)) = some c → n.val ∈ s.nodes → s.ringSt.foreign.testBit n.val = false → (c.got.any fun x => x.1 == (2 * n.val + if cmd = 0x81
    then 1 else 0)) = false → beAt payload 2 1 = s.wantCount c.kind n.val → Gives (.harvestData n cmd seq port true payload) s fun t =>
    t.harv.captures = (s.harv.captures.map fun x => if x.kind = c.kind ∧ x.seq = c.seq then
    { c with got := c.got ++ [((2 * n.val + if cmd = 0x81 then 1 else 0), payload)], failed := c.failed.filter (·.1 != (2 * n.val + if cmd = 0x81 then 1 else 0)), resent := c.resent || c.asked.contains n.val }
    else x) ∧ t.rd (F.NODE_NSTAT_UNSUSPENDED n.val) = beAt payload 1 1 / 2 % 2 ∧ t.rd (F.NODE_NSTAT_COUNT_ERR n.val) = 0) ∧
  (∀ (n : Fin 32) (cmd : BitVec 8) (seq : Fin 16) (port : Fin 2) (payload : List Byte) (c : Capture) (s : State), s.captureOf cmd.toNat seq.val none
    = some c → n.val ∈ s.nodes → s.ringSt.foreign.testBit n.val = false → (c.got.any fun x => x.1 == (2 * n.val + if cmd = 0x81 then 1 else 0)) =
    false → (c.failed.any fun x => x.1 == (2 * n.val + if cmd = 0x81 then 1 else 0)) = false → c.asked.contains n.val = false → Gives (.harvestData n
    cmd seq port false payload) s fun t => t.harv.captures = (s.harv.captures.map fun x => if x.kind = c.kind ∧ x.seq = c.seq then
    { c with failed := c.failed ++ [((2 * n.val + if cmd = 0x81 then 1 else 0), port.val)] } else x) ∧ OnlyFields [F.RING_ERRA_CRC_ERR, ⟨A.RING_ERRB,
    0, 16⟩] s t) ∧
  (∀ (tag : HarvestTag) (c : Capture) (s : State), s.capture tag.kind.val tag.seq.val = some c → c.at3 + dataDeadline c.kind + 30000 ≤ s.closeAt c →
    Gives (.harvestDataDeadline tag) s fun t => t.harv.captures = (s.harv.captures.map fun x => if x.kind = c.kind ∧ x.seq = c.seq then
    { c with asked := c.asked ++ ((s.missing c).filter fun n => !s.ringSt.foreign.testBit n).filter fun n => !c.asked.contains n } else x) ∧ t.regs =
    s.regs) ∧
  (∀ (tag : HarvestTag) (c : Capture) (s : State), s.capture tag.kind.val tag.seq.val = some c → c.got ≠ [] → Gives (.harvestClose tag) s fun t =>
    t.harv.captures = s.harv.captures.filter (fun x => !(x.kind == c.kind && x.seq == c.seq)) ∧ t.rd F.HARVEST_SEQ_HSEQ = c.hseq % 2 ^ 32 ∧ t.rd
    F.HARVEST_STATUS_LAST_KIND = c.kind % 2 ^ F.HARVEST_STATUS_LAST_KIND.width ∧ t.rd F.HARVEST_STATUS_PARTIAL = (if (s.missing c).isEmpty then 0
    else 1)) ∧
  (∀ (tag : HarvestTag) (c : Capture) (s : State), s.capture tag.kind.val tag.seq.val = some c → c.got = [] → Gives (.harvestClose tag) s fun t =>
    t.harv.captures = s.harv.captures.filter (fun x => !(x.kind == c.kind && x.seq == c.seq)) ∧ t.rd F.HARVEST_STAT_MISSED = satCount
    F.HARVEST_STAT_MISSED.width (s.rd F.HARVEST_STAT_MISSED + 1) ∧ t.rd F.HARVEST_SEQ_HSEQ = s.rd F.HARVEST_SEQ_HSEQ)

/-- Each clause under the conditions it writes: PLAUSIBILITY_CHECK with a record waiting takes the oldest one out of the queue. An item judged
  failing that is neither pending nor bad becomes pending with its check in PLAUS.LAST, a pending one becomes bad and is PLAUS's lasting fault.
  LOOP_OPEN shows the loop open with its current, in a unit that can stop with a stop under way and in TRANSPORT with no other field and no condition
  changed; LOOP_CLOSED of an open loop shows it closed with its current and event and ends the condition. Rests on the model's choices in the log
  entries 2, 32, 77 (notes/assumptions). -/
def Obligations.PlausibilityAndLoop : Prop :=
  (∀ (s : State), s.harv.checks ≠ [] → Gives .plausibilityCheck s fun t => t.harv.checks = s.harv.checks.tail) ∧
  (∀ (s : State) (k i : Nat) (d : Int), s.harv.bad.contains (1000 * k + i) = false → s.harv.pend.contains (1000 * k + i) = false → (s.plausJudge k
    (i, false, d)).harv.pend = s.harv.pend ++ [1000 * k + i] ∧ (s.plausJudge k (i, false, d)).rd F.PLAUS_LAST_CHECK = k % 2 ^
    F.PLAUS_LAST_CHECK.width) ∧
  (∀ (s : State) (k i : Nat) (d : Int), s.harv.bad.contains (1000 * k + i) = false → s.harv.pend.contains (1000 * k + i) = true → (s.plausJudge k (i,
    false, d)).harv.bad = s.harv.bad ++ [1000 * k + i] ∧ (s.plausJudge k (i, false, d)).rd (pageFld 0x1C 0x02C 0 16) = evCode 0x1C .plausibility) ∧
  (∀ (ma : BitVec 8) (s : State), s.hasCond .loopOpen = false → s.canStop = true → Gives (.loopOpen ma) s fun t => Stopping t ∧ t.rd
    F.NODE_STATUS_LOOP_CLOSED = 0 ∧ t.rd F.NODE_STATUS_LOOP_MA = ma.toNat) ∧
  (∀ (ma : BitVec 8) (s : State), s.mode = .transport → Gives (.loopOpen ma) s fun t => t.rd F.NODE_STATUS_LOOP_CLOSED = 0 ∧ t.rd
    F.NODE_STATUS_LOOP_MA = ma.toNat ∧ OnlyFields [F.NODE_STATUS_LOOP_CLOSED, F.NODE_STATUS_LOOP_MA] s t ∧ t.prot = s.prot) ∧
  (∀ (ma : BitVec 8) (s : State), s.on F.NODE_STATUS_LOOP_CLOSED = false → Gives (.loopClosed ma) s fun t => t.rd F.NODE_STATUS_LOOP_CLOSED = 1 ∧
    t.rd F.NODE_STATUS_LOOP_MA = ma.toNat ∧ t.bit (evtStatus 0x1B) 1 = true ∧ t.hasCond .loopOpen = false)

/-- Each clause under the conditions it writes: Where the planner may run, PLAN_INTERVAL and PLAN_NOW ask every known node that answers for its
  BAL_STAT, and count a plan at once where none answers; in SERVICE PLAN_NOW does so for a secure session alone, in STANDBY it has no effect. From
  the end of the start on, BAL_STOP awaits the confirmation of every such node; a node that does not confirm is sent the stop once more, then given
  up with a lasting fault. CLR_NFAULT clears the node faults outside RUN and has no effect in RUN. Rests on the model's choices in the log entries 2,
  33 (notes/assumptions). -/
def Obligations.Balancing : Prop :=
  (∀ (s : State), s.planAllowed = true → s.balNodes ≠ [] → Gives .planInterval s fun t => t.bal =
    { s.bal with planWait := some s.balNodes, replanDue := false } ∧ t.regs = s.regs) ∧
  (∀ (s : State), s.planAllowed = true → s.balNodes = [] → Gives .planInterval s fun t => t.bal.planWait = none ∧ t.rd F.BAL_PLANS_COUNT = satCount
    F.BAL_PLANS_COUNT.width (s.rd F.BAL_PLANS_COUNT + 1)) ∧
  (∀ (who : Initiator) (s : State), s.barred who A.BAL_CMD true = 0 → s.planAllowed = true → s.balNodes ≠ [] → Gives (.planNow who) s fun t => t.bal
    = { s.bal with planWait := some s.balNodes, replanDue := false } ∧ OnlyFields [] s t) ∧
  (∀ (who : Initiator) (s : State), s.barred who A.BAL_CMD true = 0 → s.mode = .service → s.on F.BAL_CFG_EN = true → s.secureOf who = true →
    s.originates = true → s.balNodes ≠ [] → Gives (.planNow who) s fun t => t.bal = { s.bal with planWait := some s.balNodes, replanDue := false } ∧
    OnlyFields [] s t) ∧
  (∀ (who : Initiator) (s : State), s.barred who A.BAL_CMD true = 0 → s.mode = .service → s.secureOf who = false → Gives (.planNow who) s fun t =>
    t.bal = s.bal ∧ OnlyFields [] s t ∧ t.out = s.out) ∧
  (∀ (who : Initiator) (s : State), s.barred who A.BAL_CMD true = 0 → s.mode = .standby → Gives (.planNow who) s fun t => t.bal = s.bal ∧ OnlyFields
    [] s t ∧ t.out = s.out) ∧
  (∀ (who : Initiator) (s : State), s.barred who A.BAL_CMD true = 0 → s.originates = true → s.crown.phase = .complete → Gives (.balStop who) s fun t
    => t.bal = { s.bal with stopWait := s.balNodes, stopAgain := [], stopLost := false, running0 := s.nodes, planWait := none, replanDue := false } ∧
    OnlyFields [evtStatus 0x1D] s t) ∧
  (∀ (n : Fin 32) (s : State), s.bal.stopWait.contains n.val = true → s.bal.stopAgain.contains n.val = false → Gives (.stopConfirmTimeout n) s fun t
    => t.bal = { s.bal with stopAgain := s.bal.stopAgain ++ [n.val] } ∧ t.regs = s.regs) ∧
  (∀ (n : Fin 32) (s : State), s.bal.stopWait.contains n.val = true → s.bal.stopAgain.contains n.val = true → Gives (.stopConfirmTimeout n) s fun t
    => t.bal = { s.bal with stopWait := s.bal.stopWait.filter (· != n.val), stopLost := true } ∧ t.rd (pageFld 0x1D 0x02C 0 16) = evCode 0x1D
    .balStop ∧ OnlyFields [pageFld 0x1D 0x02C 0 16, pageFld 0x1D 0x02C 16 8] s t) ∧
  (∀ (who : Initiator) (s : State), s.barred who A.BAL_CMD true = 0 → s.mode ≠ .run → Gives (.clrNfault who) s fun t => t.rd F.BAL_NFAULT_NODES = 0 ∧
    OnlyFields [F.BAL_NFAULT_NODES] s t) ∧
  (∀ (who : Initiator) (s : State), s.barred who A.BAL_CMD true = 0 → s.mode = .run → who ≠ .host → Gives (.clrNfault who) s fun t => t.regs = s.regs)

/-- Each clause under the conditions it writes: A phase-0 boundary counts a period of the phase-0 counter. A running phase outside a burst off
  interval takes the command delivered for its period start into force there and shows which comparators tripped in the period before; in the off
  interval its gates stay off. A command delivered for the centre comes into force there, or after a trip lapses. A comparator input beyond its
  threshold outside blanking trips the phase: the command for the centre lapses, the trip shows and the first of a period counts. A fault return
  latches the phase as faulted with a lasting fault and its condition; the idle return is shown and CLR_FAULT then clears the latch in STANDBY, SAFE
  and SERVICE. The lockout of shedding ends when its hold expires, and a burst off interval that has counted down ends in the next burst. Rests on
  the model's choices in the log entries 2, 34, 86 (notes/assumptions). -/
def Obligations.PowerStage : Prop :=
  (∀ (s : State), Gives .phase0Boundary s fun t => t.pwm.p0 = (s.pwm.p0 + 1) % 2 ^ 32 ∧ t.pwm.p0At = s.mono ∧ t.pwm.outerCnt = s.pwm.outerCnt + 1 ∧
    t.stg.lead = s.stg.lead - 1) ∧
  (∀ (n : Fin 16) (s : State), s.bit F.PSTAGE_RUNMASK_RUN n.val = true → s.rd F.PSTAGE_STATUS_LIGHT ≠ 3 → s.rd (F.PHASE_STAT_STATE n.val) ≠ 2 →
    (s.phase n.val).shedBack = false → Gives (.periodStart n) s fun t => (t.phase n.val).u = (s.phase n.val).uStart.getD (s.phase n.val).u ∧ (t.phase
    n.val).uStart = none ∧ (t.phase n.val).uCentre = none ∧ (t.phase n.val).cbc = 0 ∧ t.rd (F.PHASE_STAT_CBC_POS n.val) = (if (s.phase
    n.val).cbc.testBit 0 then 1 else 0) ∧ t.rd (F.PHASE_STAT_CBC_NEG n.val) = (if (s.phase n.val).cbc.testBit 1 then 1 else 0)) ∧
  (∀ (n : Fin 16) (s : State), s.bit F.PSTAGE_RUNMASK_RUN n.val = true → s.rd F.PSTAGE_STATUS_LIGHT = 3 → Gives (.periodStart n) s fun t => (t.phase
    n.val).legA = {} ∧ (t.phase n.val).legB = {} ∧ (t.phase n.val).u = (s.phase n.val).u) ∧
  (∀ (n : Fin 16) (s : State), s.bit F.PSTAGE_RUNMASK_RUN n.val = false → (s.phase n.val).starting = false → Gives (.periodStart n) s fun t => t.pwm
    = s.pwm ∧ t.regs = s.regs) ∧
  (∀ (n : Fin 16) (u : Nat) (s : State), (s.phase n.val).uCentre = some u → (s.phase n.val).cbc = 0 → s.bit F.PSTAGE_RUNMASK_RUN n.val = true → s.on
    (F.PHASE_STAT_SKIPPING n.val) = false → Gives (.centreTakeup n) s fun t => (t.phase n.val).u = u ∧ (t.phase n.val).uCentre = none ∧ t.regs =
    s.regs) ∧
  (∀ (n : Fin 16) (u : Nat) (s : State), (s.phase n.val).uCentre = some u → (s.phase n.val).cbc ≠ 0 → Gives (.centreTakeup n) s fun t => t.phase
    n.val = { s.phase n.val with uCentre := none } ∧ t.regs = s.regs) ∧
  (∀ (n : Fin 16) (positive : Bool) (input : ComparatorInput) (s : State), s.bit F.PSTAGE_RUNMASK_RUN n.val = true → s.blanked n.val input.t = false
    → s.overLimit n.val positive input.uv = true → Gives (.cbcTrip n positive input) s fun t => (t.phase n.val).cbc = (s.phase n.val).cbc ||| (if
    positive then 1 else 2) ∧ (t.phase n.val).uCentre = none ∧ (t.phase n.val).freeze = 2 ∧ (t.phase n.val).residual = 0 ∧ t.rd (if positive then
    F.PHASE_STAT_CBC_POS n.val else F.PHASE_STAT_CBC_NEG n.val) = 1 ∧ ((s.phase n.val).cbc = 0 → (t.phase n.val).tripRun = (s.phase n.val).tripRun +
    1 ∧ t.rd (F.PHASE_COUNT_CBC n.val) = satCount (F.PHASE_COUNT_CBC n.val).width (s.rd (F.PHASE_COUNT_CBC n.val) + 1))) ∧
  (∀ (n : Fin 16) (positive : Bool) (input : ComparatorInput) (s : State), (s.bit F.PSTAGE_RUNMASK_RUN n.val = false ∨ s.blanked n.val input.t = true
    ∨ s.overLimit n.val positive input.uv = false) → Gives (.cbcTrip n positive input) s fun t => t = s) ∧
  (∀ (n : Fin 16) (s : State), Gives (.faultReturn n false) s fun t => t.rd (F.PHASE_STAT_FLT_OK n.val) = 1 ∧ t.hasCond (.phaseFault n.val) = false ∧
    (s.hasCond (.phaseFault n.val) = false → OnlyFields [F.PHASE_STAT_FLT_OK n.val] s t)) ∧
  (∀ (n : Fin 16) (s : State), Gives (.faultReturn n true) s fun t => t.rd (F.PHASE_STAT_FLT_OK n.val) = 0 ∧ t.bit F.PSTAGE_RUNMASK_FAULTMASK n.val =
    true ∧ t.hasCond (.phaseFault n.val) = true ∧ t.rd (pageFld 0x20 0x02C 0 16) = evCode 0x20 .desat) ∧
  (∀ (who : Initiator) (n : Fin 16) (s : State), s.barred who (A.PHASE_CMD n.val) true = 0 → s.crossingStopped (A.PHASE_CMD n.val) = false →
    (s.host.held.any fun h => pageOf h.addr == pageOf (A.PHASE_CMD n.val)) = false → (s.mode = .standby ∨ s.mode = .safe ∨ s.mode = .service) → s.on
    (F.PHASE_STAT_FLT_OK n.val) = true → s.rd (F.PHASE_STAT_STATE n.val) = 3 → Gives (.phaseClrFault who n) s fun t => t.rd (F.PHASE_STAT_STATE
    n.val) = 0 ∧ t.bit F.PSTAGE_RUNMASK_FAULTMASK n.val = false ∧ t.hasCond (.phaseFault n.val) = false) ∧
  (∀ (s : State), Gives .shedHoldExpiry s fun t => t.rd F.PSTAGE_STATUS_SHED_LOCK = 0 ∧ OnlyFields [F.PSTAGE_STATUS_SHED_LOCK] s t) ∧
  (∀ (s : State), s.rd F.PSTAGE_STATUS_LIGHT = 3 → s.pwm.burstOff = 0 → Gives .burstOffEnd s fun t => t.rd F.PSTAGE_STATUS_LIGHT = 2 ∧
    t.pwm.burstLeft = s.rd F.PSTAGE_BURST_ON ∧ t.pwm.burstStart = false)

/-- Each clause under the conditions it writes: An outer sample takes the measurements and restarts the outer count; while the loop evaluates,
  outside an SRD, a disconnect ramp and an abort ramp, the total current reference it leaves lies within I_TOT_MAX on both sides. An inner sample of
  a phase that the loop evaluates delivers a command: at the centre for the next period start, at the period start for the centre with INNER_2X, in
  energising operation at the period start for the next one; a late command is dropped, counted and raised. The start sample of a phase about to
  start, or to restart after a burst off interval, delivers its first command and leaves the phases that run as they are. A plausibility window ends
  with its sums at zero. Rests on the model's choices in the log entries 2, 36 (notes/assumptions). -/
def Obligations.LoopSamples : Prop :=
  (∀ (r : Readings) (s : State), s.on F.LOOP_STATUS_EVAL = false → Gives (.outerSample r) s fun t => t.meas = r ∧ t.loop.vStr = toQ r.vString ∧
    t.pwm.outerCnt = 0) ∧
  (∀ (r : Readings) (s : State), s.on F.LOOP_STATUS_EVAL = true → s.prot.srd = none → s.track.disc ≠ 3 → s.track.aborting ≠ 2 → Gives (.outerSample
    r) s fun t => t.meas = r ∧ t.pwm.outerCnt = 0 ∧ -s.iTotMax ≤ t.rdI F.LOOP_ITOT_I_TOT ∧ t.rdI F.LOOP_ITOT_I_TOT ≤ s.iTotMax) ∧
  (∀ (n : Fin 16) (code : BitVec 16) (s : State), s.evaluates n.val = true → s.on (F.PHASE_STAT_SKIPPING n.val) = false → s.on F.LOOP_CFG_INNER_2X =
    true → Gives (.innerSample n true code false) s fun t => (t.phase n.val).iStart = phaseCurrent code.toInt (s.rd (F.PHASE_ISCALE_SCALE n.val)) ∧
    (t.phase n.val).uCentre.isSome = true ∧ (t.phase n.val).lateRun = 0) ∧
  (∀ (n : Fin 16) (code : BitVec 16) (s : State), s.evaluates n.val = true → s.on (F.PHASE_STAT_SKIPPING n.val) = false → Gives (.innerSample n false
    code false) s fun t => (t.phase n.val).uStart.isSome = true ∧ (t.phase n.val).lateRun = 0) ∧
  (∀ (n : Fin 16) (code : BitVec 16) (s : State), s.evaluates n.val = true → s.on (F.PHASE_STAT_SKIPPING n.val) = true → Gives (.innerSample n true
    code false) s fun t => (t.phase n.val).iStart = phaseCurrent code.toInt (s.rd (F.PHASE_ISCALE_SCALE n.val)) ∧ (t.phase n.val).uStart.isSome =
    true ∧ (t.phase n.val).lateRun = 0) ∧
  (∀ (n : Fin 16) (code : BitVec 16) (s : State), s.evaluates n.val = true → s.on (F.PHASE_STAT_SKIPPING n.val) = false → (s.phase n.val).lateRun ≠ 1
    → Gives (.innerSample n false code true) s fun t => (t.phase n.val).uStart = (s.phase n.val).uStart ∧ (t.phase n.val).lateRun = (s.phase
    n.val).lateRun + 1 ∧ t.rd F.LOOP_LATE_COUNT = satCount F.LOOP_LATE_COUNT.width (s.rd F.LOOP_LATE_COUNT + 1) ∧ t.bit (evtStatus 0x22) 7 = true) ∧
  (∀ (n : Fin 16) (code : BitVec 16) (s : State), s.on F.LOOP_STATUS_EVAL = true → (s.phase n.val).starting = true ∨ (s.rd F.PSTAGE_STATUS_LIGHT = 3
    ∧ s.bit F.PSTAGE_RUNMASK_RUN n.val = true) → Gives (.startSample n code) s fun t => (t.phase n.val).uStart.isSome = true ∧ t.rd
    F.PSTAGE_RUNMASK_RUN = s.rd F.PSTAGE_RUNMASK_RUN) ∧
  (∀ (i v : Int) (s : State), Gives (.loopPlausWindow i v) s fun t => t.loop.sumBus = 0 ∧ t.loop.sumStr = 0)

/-- Each clause under the conditions it writes: A stable feedback input shows its level, inverted where FB_INV is set, and a driven contactor that
  then closes outside CONNECT counts a close. Outside HOLD a driven contactor that has not closed is released, after the release pulled in a second
  time or made to wait for VCOIL, and at its second failure a lasting fault without drive; one that has not opened is read again, and at the second
  reading is a weld, with which a mode that can stop has its stop under way. Pull-in ends in the hold duty, an overcurrent takes the drive away, and
  the measured VCOIL is shown against VCOIL_MIN. From step 10 on, outside TRANSPORT and where K6 is fitted, K6_ON and K6_OFF switch it, elsewhere
  K6_ON does nothing. CLR_WELD clears the welds of contactors that all report open in STANDBY, SAFE and SERVICE. Rests on the model's choices in the
  log entries 2, 37 (notes/assumptions). -/
def Obligations.Contactors : Prop :=
  (∀ (k : Fin 6) (level : Bool) (s : State), Gives (.contactorFeedback k level) s fun t => t.fbClosed (k.val + 1) = (level != s.bit
    F.CONTACT_CFG_FB_INV k.val) ∧ t.track.pins.testBit k.val = level) ∧
  (∀ (k : Fin 6) (level : Bool) (s : State), s.fbClosed (k.val + 1) = false → s.driven (k.val + 1) = true → s.mode ≠ .connect → (level != s.bit
    F.CONTACT_CFG_FB_INV k.val) = true → Gives (.contactorFeedback k level) s fun t => t.fbClosed (k.val + 1) = true ∧ t.rd (F.CONTACT_OPS_CLOSES
    k.val) = satCount (F.CONTACT_OPS_CLOSES k.val).width (s.rd (F.CONTACT_OPS_CLOSES k.val) + 1) ∧ (t.coil (k.val + 1)).attempt = 0) ∧
  (∀ (k : Fin 6) (s : State), s.mode ≠ .hold → s.fbClosed (k.val + 1) = false → (s.coil (k.val + 1)).attempt = 1 → (s.coil (k.val + 1)).phase = 1 ∨
    (s.coil (k.val + 1)).phase = 2 → Gives (.fbCloseTimeout k) s fun t => t.driven (k.val + 1) = false ∧ t.coil (k.val + 1) =
    { phase := 3, attempt := 1 } ∧ OnlyFields [F.CONTACT_STATUS_DRIVE] s t) ∧
  (∀ (k : Fin 6) (s : State), s.mode ≠ .hold → s.fbClosed (k.val + 1) = false → (s.coil (k.val + 1)).attempt = 2 → (s.coil (k.val + 1)).phase = 1 ∨
    (s.coil (k.val + 1)).phase = 2 → Gives (.fbCloseTimeout k) s fun t => t.bit F.CONTACT_STATUS_FB_FAULT k.val = true ∧ t.driven (k.val + 1) = false
    ∧ t.rd (pageFld 0x24 0x02C 0 16) = evCode 0x24 .fbFault) ∧
  (∀ (k : Fin 6) (s : State), (s.coil (k.val + 1)).phase = 3 → s.mode ≠ .hold → s.rd F.CONTACT_CFG_VCOIL_MIN ≤ s.rd F.CONTACT_VCOIL_VCOIL → Gives
    (.fbRepull k) s fun t => t.driven (k.val + 1) = true ∧ t.coil (k.val + 1) = { phase := 1, attempt := 2 } ∧ OnlyFields [F.CONTACT_STATUS_DRIVE] s
    t) ∧
  (∀ (k : Fin 6) (s : State), (s.coil (k.val + 1)).phase = 3 → s.mode ≠ .hold → ¬ (s.rd F.CONTACT_CFG_VCOIL_MIN ≤ s.rd F.CONTACT_VCOIL_VCOIL) → Gives
    (.fbRepull k) s fun t => t.coil (k.val + 1) = { s.coil (k.val + 1) with waiting := true, attempt := 2 } ∧ t.regs = s.regs) ∧
  (∀ (k : Fin 6) (s : State), (s.coil (k.val + 1)).opening = true → (s.coil (k.val + 1)).reread = false → s.driven (k.val + 1) = false → s.fbClosed
    (k.val + 1) = true → Gives (.fbOpenTimeout k) s fun t => t.coil (k.val + 1) = { s.coil (k.val + 1) with reread := true } ∧ t.regs = s.regs) ∧
  (∀ (k : Fin 6) (s : State), (s.coil (k.val + 1)).opening = true → (s.coil (k.val + 1)).reread = true → s.driven (k.val + 1) = false → s.fbClosed
    (k.val + 1) = true → s.canStop = true → Gives (.fbOpenTimeout k) s fun t => t.bit F.CONTACT_STATUS_WELD k.val = true ∧ Stopping t) ∧
  (∀ (k : Fin 6) (s : State), (s.coil (k.val + 1)).phase = 1 → Gives (.pullInEnd k) s fun t => t.coil (k.val + 1) =
    { s.coil (k.val + 1) with phase := 2, duty := holdDuty (s.rd (F.CONTACT_COIL_HOLD_V k.val)) (s.rd F.CONTACT_VCOIL_VCOIL) } ∧ t.regs = s.regs) ∧
  (∀ (k : Fin 6) (s : State), s.driven (k.val + 1) = true → Gives (.coilOvercurrent k) s fun t => t.driven (k.val + 1) = false ∧ t.coil (k.val + 1) =
    { s.coil (k.val + 1) with tripped := true, opening := s.fbClosed (k.val + 1) }) ∧
  (∀ (v : BitVec 16) (s : State), Gives (.vcoilLow v) s fun t => t.rd F.CONTACT_VCOIL_VCOIL = v.toNat ∧ t.rd F.CONTACT_STATUS_VCOIL_LOW = (if v.toNat
    < s.rd F.CONTACT_CFG_VCOIL_MIN then 1 else 0)) ∧
  (∀ (who : Initiator) (s : State), s.barred who A.CONTACT_CMD true = 0 → s.crown.phase = .complete → s.mode ≠ .transport → s.bit
    F.CONTACT_CFG_FITTED 5 = true → s.rd F.CONTACT_CFG_VCOIL_MIN ≤ s.rd F.CONTACT_VCOIL_VCOIL → Gives (.k6On who) s fun t => t.driven 6 = true ∧
    t.coil 6 = { phase := 1, attempt := 1 } ∧ OnlyFields [F.CONTACT_STATUS_DRIVE] s t) ∧
  (∀ (who : Initiator) (s : State), s.barred who A.CONTACT_CMD true = 0 → (s.crown.phase ≠ .complete ∨ s.mode = .transport ∨ s.bit
    F.CONTACT_CFG_FITTED 5 = false) → Gives (.k6On who) s fun t => OnlyFields [] s t ∧ t.track = s.track) ∧
  (∀ (who : Initiator) (s : State), s.barred who A.CONTACT_CMD true = 0 → s.crown.phase = .complete → s.mode ≠ .transport → s.bit
    F.CONTACT_CFG_FITTED 5 = true → s.driven 6 = true → Gives (.k6Off who) s fun t => t.driven 6 = false ∧ t.coil 6 = { opening := s.fbClosed 6 }) ∧
  (∀ (who : Initiator) (s : State), s.barred who A.CONTACT_CMD true = 0 → (s.mode = .standby ∨ s.mode = .safe ∨ s.mode = .service) → s.rd
    F.CONTACT_STATUS_FB = 0 → Gives (.clrWeld who) s fun t => ∀ k : Fin 6, t.bit F.CONTACT_STATUS_WELD k.val = false)

/-- Each clause under the conditions it writes: In CONNECT with no abort under way: pre-checks read again lead to step 3 with K3 driven, or abort
  with code 1; a precharge peak within its bounds is shown, one outside them aborts with code 3; the end of precharge leads to step 5 with K1 and K2
  driven, its timeout aborts with code 4; START_AT starts tracking in step 8; the meet leads to step 9 with K4 and K5 driven; a missed meet or
  forming aborts with code 8, a tracking error with code 7; FORM_AT starts forming, and formed leads to RUN while no apply is LAUNCHED. The retry
  wait ends in the second attempt. In a disconnect FORM_AT starts the lowering ramp, and the wait of its step 3 ends with K4 and K5 not driven. Rests
  on the model's choices in the log entries 2, 37 (notes/assumptions). -/
def Obligations.StartSteps : Prop :=
  (∀ (r : Readings) (s : State), s.mode = .connect → s.startStep = 2 → s.track.preReread = true → s.rd F.CONTACT_STATUS_WELD = 0 →
    ({ s with meas := r } : State).preChecks = true → Gives (.preCheckReread r) s fun t => t.startStep = 3 ∧ t.track.preReread = false ∧ t.driven 3 =
    true ∧ t.meas = r) ∧
  (∀ (r : Readings) (s : State), s.mode = .connect → s.startStep = 2 → s.track.preReread = true → s.rd F.CONTACT_STATUS_WELD = 0 →
    ({ s with meas := r } : State).preChecks = false → s.track.aborting = 0 → Gives (.preCheckReread r) s fun t => t.track.abortCode = 1 ∧
    t.track.awaitStart = false) ∧
  (∀ (peak : Nat) (s : State), s.mode = .connect → s.startStep = 4 → 5 * s.meas.vString ≤ peak * s.rd F.TRACK_PRE_R_PRE → (peak * s.rd
    F.TRACK_PRE_R_PRE : Int) ≤ 15 * s.meas.vString → Gives (.prechargePeakWindow peak) s fun t => t.rd F.TRACK_PRECHG_I_PEAK = satCount 16 (peak /
    100) ∧ t.track = s.track ∧ OnlyFields [F.TRACK_PRECHG_I_PEAK] s t) ∧
  (∀ (peak : Nat) (s : State), s.mode = .connect → s.startStep = 4 → s.track.aborting = 0 → (peak * s.rd F.TRACK_PRE_R_PRE : Int) < 5 *
    s.meas.vString ∨ 15 * s.meas.vString < peak * s.rd F.TRACK_PRE_R_PRE → Gives (.prechargePeakWindow peak) s fun t => t.track.abortCode = 3 ∧
    t.track.awaitStart = false) ∧
  (∀ (ms : Nat) (s : State), s.mode = .connect → s.startStep = 4 → s.track.aborting = 0 → s.rd F.CONTACT_CFG_VCOIL_MIN ≤ s.rd F.CONTACT_VCOIL_VCOIL →
    Gives (.prechargeEnd ms) s fun t => t.startStep = 5 ∧ t.driven 1 = true ∧ t.driven 2 = true ∧ t.rd F.TRACK_PRECHG_T_PRE = satCount 16 ms) ∧
  (∀ (s : State), s.mode = .connect → s.startStep = 4 → s.track.aborting = 0 → Gives .prechargeTimeout s fun t => t.track.abortCode = 4 ∧
    t.track.awaitStart = false) ∧
  (∀ (s : State), s.effMode = .connect → s.startStep = 7 → s.track.awaitStart = true → s.track.aborting = 0 → Gives .startAt s fun t => t.startStep =
    8 ∧ t.track.tracking = true ∧ t.track.awaitStart = false ∧ t.track.vLink0 = s.meas.vLink) ∧
  (∀ (s : State), s.mode = .connect → s.startStep = 8 → s.track.aborting = 0 → s.rd F.CONTACT_CFG_VCOIL_MIN ≤ s.rd F.CONTACT_VCOIL_VCOIL → Gives
    .meetHeld s fun t => t.startStep = 9 ∧ t.driven 4 = true ∧ t.driven 5 = true ∧ t.bit (evtStatus 0x23) 2 = true) ∧
  (∀ (s : State), s.mode = .connect → (s.startStep = 8 ∨ s.startStep = 10) → s.track.aborting = 0 → Gives .meetTimeout s fun t => t.track.abortCode =
    8 ∧ t.track.awaitStart = false) ∧
  (∀ (s : State), s.mode = .connect → (s.startStep = 8 ∨ s.startStep = 10) → s.track.aborting = 0 → Gives .trackingError s fun t => t.track.abortCode
    = 7 ∧ t.track.awaitStart = false) ∧
  (∀ (s : State), s.effMode = .connect → s.startStep = 10 → s.track.aborting = 0 → Gives .formAt s fun t => t.track.forming = true ∧ t.track.clocks =
    0 ∧ t.regs = s.regs) ∧
  (∀ (s : State), s.mode = .run → s.track.disc = 6 → Gives .formAt s fun t => t.track.disc = 7 ∧ t.track.vLower0 = s.meas.vPlant ∧ t.track.clocks = 0
    ∧ t.rd F.TRACK_STATUS_FORMING = 1 ∧ OnlyFields [F.TRACK_STATUS_FORMING] s t) ∧
  (∀ (s : State), s.mode = .connect → s.startStep = 10 → s.track.forming = true → s.track.aborting = 0 → s.rd F.CROWN_STAGE_CTRL_STATE ≠ 6 → Gives
    .formedHeld s fun t => t.mode = .run ∧ t.startStep = 0 ∧ t.track.forming = false) ∧
  (∀ (s : State), s.mode = .connect → s.track.waiting = true → s.rd F.CONTACT_STATUS_WELD = 0 → Gives .retryWaitExpiry s fun t => t.rd
    F.TRACK_STATUS_RETRY = 1 ∧ t.track.waiting = false ∧ (t.startStep = 3 ∨ t.track.preReread = true)) ∧
  (∀ (s : State), s.track.disc = 3 → s.mode ≠ .hold → Gives .disconnectWaitExpiry s fun t => t.driven 4 = false ∧ t.driven 5 = false)

/-- Each clause under the conditions it writes: IMPED_START marks a start for the next outer sample and changes no register; that evaluation refuses
  it with its code in REFUSE and event 2, or accepts it: REFUSE 0, start step 1, set 0, the interlock asked for and the start counted. STOP of a run
  in RAMP_UP or RUN outside a start and not aborted before shows STATE 3 and ABORT 1 and counts it. A window end counts the window, shows whether it
  was interrupted and clears its notes. A correlation of a configured node marks the first record that lacks it, and where it was the last node takes
  the record out. The close of a waiting set counts the set with event 1. The end of the ramp with the envelope at 0 shows STATE 0, STIM 0 and no
  interlock, with event 5. Rests on the model's choices in the log entries 2, 38 (notes/assumptions). -/
def Obligations.ImpedanceRuns : Prop :=
  (∀ (who : Initiator) (s : State), s.barred who A.IMPED_CMD true = 0 → Gives (.impedStart who) s fun t => t.imp =
    { s.imp with startPending := true } ∧ OnlyFields [] s t) ∧
  (∀ (s : State), s.imp.startPending = true → s.impedRefusal ≠ 0 → Gives .impedStartEval s fun t => t.imp.startPending = false ∧ t.rd
    F.IMPED_STATUS_REFUSE = s.impedRefusal ∧ t.imp.startStep = s.imp.startStep ∧ t.bit (evtStatus 0x26) 2 = true) ∧
  (∀ (s : State), s.imp.startPending = true → s.impedRefusal = 0 → Gives .impedStartEval s fun t => t.imp.startPending = false ∧ t.rd
    F.IMPED_STATUS_REFUSE = 0 ∧ t.imp.startStep = 1 ∧ t.pwm.lockNext = true ∧ t.imp.set = 0 ∧ t.rd F.IMPED_RUNS_STARTED = satCount
    F.IMPED_RUNS_STARTED.width (s.rd F.IMPED_RUNS_STARTED + 1)) ∧
  (∀ (who : Initiator) (s : State), s.barred who A.IMPED_CMD true = 0 → (s.rd F.IMPED_STATUS_STATE = 1 ∨ s.rd F.IMPED_STATUS_STATE = 2) →
    s.imp.startStep = 0 → s.imp.aborted = false → Gives (.impedStop who) s fun t => t.rd F.IMPED_STATUS_STATE = 3 ∧ t.rd F.IMPED_STATUS_ABORT = 1 ∧
    t.rd F.IMPED_RUNS_ABORTED = satCount F.IMPED_RUNS_ABORTED.width (s.rd F.IMPED_RUNS_ABORTED + 1)) ∧
  (∀ (s : State), (s.rd F.IMPED_STATUS_STATE = 1 ∨ s.rd F.IMPED_STATUS_STATE = 2 ∨ s.rd F.IMPED_STATUS_STATE = 4) → Gives .impedWindowEnd s fun t =>
    t.imp.win = s.imp.win + 1 ∧ t.imp.bad = false ∧ t.imp.iSetMin = none ∧ t.imp.iSetMax = none ∧ t.rd F.IMPED_STATUS_INTERRUPTED = (if s.windowBad
    then 1 else 0)) ∧
  (∀ (n : Fin 32) (x : RunRecord) (s : State), (s.imp.recs.find? fun y => !y.done.contains n.val) = some x → n.val ∈ s.nodes → s.nodes.all (x.done ++
    [n.val]).contains = false → Gives (.impedCorrelation n) s fun t => t.imp.recs = (s.imp.recs.map fun z => if z.r.eseq = x.r.eseq ∧ z.r.ring =
    x.r.ring then { x with done := x.done ++ [n.val] } else z) ∧ t.regs = s.regs) ∧
  (∀ (n : Fin 32) (x : RunRecord) (s : State), (s.imp.recs.find? fun y => !y.done.contains n.val) = some x → n.val ∈ s.nodes → s.nodes.all (x.done ++
    [n.val]).contains = true → Gives (.impedCorrelation n) s fun t => t.imp.recs = s.imp.recs.filter fun y => y.r.eseq != x.r.eseq || y.r.ring !=
    x.r.ring) ∧
  (∀ (s : State), s.imp.closing ≠ none → Gives .impedSetClose s fun t => t.imp.closing = none ∧ t.imp.set = (s.imp.set + 1) % 65536 ∧ t.bit
    (evtStatus 0x26) 1 = true ∧ t.rd F.IMPED_SETS_SETS = satCount F.IMPED_SETS_SETS.width (s.rd F.IMPED_SETS_SETS + 1)) ∧
  (∀ (s : State), s.rd F.IMPED_STATUS_STATE = 3 → s.imp.env = 0 → Gives .impedRampEnd s fun t => t.rd F.IMPED_STATUS_STATE = 0 ∧ t.rd
    F.PSTAGE_STATUS_IMP_LOCK = 0 ∧ t.rd F.LOOP_STIM_STIM = 0 ∧ t.imp.startStep = 0 ∧ t.bit (evtStatus 0x26) 5 = true)

/-- Each clause under the conditions it writes: a step with EN 0 shows RUNNING 0 and no valid cell; where steps run and TB0 has not stepped back, a
  late one raises event 5 and changes no estimate; another one takes the charge up to now as its new base and shows RUNNING. INIT in STANDBY, REST or
  SAFE with the string current within I_REST anchors every cell, in RUN it changes nothing. WRITE_NOW and the two intervals, with no write held back
  or in progress, begin the write of their journal with JBUSY; while writes are held the state journal is deferred. A verified write with none
  waiting ends it and counts, the first failed verify only is noted, the second abandons the write and counts. DEFERRED_WRITE with writes allowed
  leaves nothing deferred. RESET_CELL by a secure session in STANDBY or SERVICE puts the viewed cell's resistance factor to 1.0 and its capacity to
  0, by another it changes nothing. Rests on the model's choices in the log entries 2, 24, 39, 40 (notes/assumptions). -/
def Obligations.EstimatorAndJournals : Prop :=
  (∀ (more lo hi : Int) (late : Bool) (s : State), s.stepsRun = false → s.on F.ESTIM_CFG_EN = false → Gives (.estimatorStep more lo hi late) s fun t
    => t.rd F.ESTIM_STATUS_RUNNING = 0 ∧ t.est.lastQ = s.est.lastQ ∧ t.rd F.ESTIM_STATUS_VALID_CNT = 0) ∧
  (∀ (more lo hi : Int) (s : State), s.stepsRun = true → s.est.back = false → Gives (.estimatorStep more lo hi true) s fun t => t.est = s.est ∧ t.bit
    (evtStatus 0x28) 5 = true ∧ OnlyFields [evtStatus 0x28] s t) ∧
  (∀ (more lo hi : Int) (s : State), s.stepsRun = true → s.est.back = false → Gives (.estimatorStep more lo hi false) s fun t => t.est.lastQ = some
    (s.tele.net + more) ∧ t.est.lastAt = s.mono ∧ t.est.bleed = [] ∧ t.rd F.ESTIM_STATUS_RUNNING = 1) ∧
  (∀ (who : Initiator) (s : State), s.barred who A.ESTIM_CMD true = 0 → (s.mode = .standby ∨ s.mode = .rest ∨ s.mode = .safe) → s.meas.iString.natAbs
    ≤ 10 * s.rd F.ESTIM_REST_I_REST → Gives (.initCmd who) s fun t => t.est.cells = (s.cellList.foldl (fun u c => (u.anchorCell c false true).getD u)
    s).est.cells ∧ OnlyFields [] s t) ∧
  (∀ (who : Initiator) (s : State), s.barred who A.ESTIM_CMD true = 0 → s.mode = .run → Gives (.initCmd who) s fun t => t.est = s.est ∧ OnlyFields []
    s t) ∧
  (∀ (who : Initiator) (s : State), s.barred who A.LEARN_CMD true = 0 → s.journalHeld = false → s.est.writing = none → Gives (.writeNow who) s fun t
    => t.est.writing = some (0, s.slotToWrite 0, 6) ∧ t.rd F.LEARN_STATUS_JBUSY = 1 ∧ t.est.waiting = s.est.waiting.filter (·.1 != 1) ++ [(1, 6)]) ∧
  (∀ (who : Initiator) (s : State), s.barred who A.LEARN_CMD true = 0 → s.secureOf who = true → (s.mode = .standby ∨ s.mode = .service) → Gives
    (.resetCell who) s fun t => (t.cell (s.rd F.LEARN_VIEW_CELL)).rf = 0x1000 ∧ t.rd (capFld (s.rd F.LEARN_VIEW_CELL)) = 0) ∧
  (∀ (who : Initiator) (s : State), s.barred who A.LEARN_CMD true = 0 → s.secureOf who = false → Gives (.resetCell who) s fun t => t.est = s.est ∧
    OnlyFields [] s t) ∧
  (∀ (s : State), s.journalHeld = false → s.est.writing = none → Gives .learnedJournalInterval s fun t => t.est.writing = some (0, s.slotToWrite 0,
    0) ∧ t.rd F.LEARN_STATUS_JBUSY = 1 ∧ OnlyFields [F.LEARN_STATUS_JBUSY] s t) ∧
  (∀ (s : State), s.journalHeld = false → s.est.writing = none → Gives .stateJournalInterval s fun t => t.est.writing = some (1, s.slotToWrite 1, 0)
    ∧ t.rd F.LEARN_STATUS_JBUSY = 1 ∧ OnlyFields [F.LEARN_STATUS_JBUSY] s t) ∧
  (∀ (s : State), s.journalHeld = true → Gives .stateJournalInterval s fun t => t.est =
    { s.est with deferred := s.est.deferred.filter (·.1 != 1) ++ [(1, 7)] } ∧ t.rd F.LEARN_STATUS_DEFERRED = 1) ∧
  (∀ (s : State), s.est.writing ≠ none → s.est.waiting = [] → Gives (.journalWriteComplete true) s fun t => t.est.writing = none ∧ t.rd
    F.LEARN_STATUS_JBUSY = 0 ∧ t.rd F.LEARN_JSTAT_WRITES = satCount F.LEARN_JSTAT_WRITES.width (s.rd F.LEARN_JSTAT_WRITES + 1)) ∧
  (∀ (s : State), s.est.writing ≠ none → s.est.verifyFailed = false → Gives (.journalWriteComplete false) s fun t => t.est =
    { s.est with verifyFailed := true } ∧ t.regs = s.regs) ∧
  (∀ (s : State), s.est.writing ≠ none → s.est.waiting = [] → s.est.verifyFailed = true → Gives (.journalWriteComplete false) s fun t =>
    t.est.writing = none ∧ t.rd F.LEARN_STATUS_JBUSY = 0 ∧ t.rd F.LEARN_JSTAT_ABANDONS = satCount F.LEARN_JSTAT_ABANDONS.width (s.rd
    F.LEARN_JSTAT_ABANDONS + 1)) ∧
  (∀ (s : State), s.journalHeld = false → Gives .deferredWrite s fun t => t.est.deferred = [] ∧ t.tele.deferred = false ∧ t.rd
    F.LEARN_STATUS_DEFERRED = 0)

/-- Each clause under the conditions it writes: a thermal update outside TRANSPORT shows the first board temperature and computes 100 % for an output
  with a lasting fault, driven in a solo or active unit whose start is complete and else held at 0. A Tj reading of 120 to below 130 degrees below
  stage 2 leads to stage 2 with CD10 divided and T2 and T3 suspended; the second one of at least 130 degrees in a row in a unit that can stop leads
  to stage 3 with its condition and a stop under way; one below 100 degrees in stage 0 shows Tj and changes no other field. TACH_CHECK shows pulses
  times 60 over PPR, at most 0xFFFF. CLR_FAULT marks the faults it names as clearing and changes no register. Rests on the model's choices in the log
  entries 2, 41, 90 (notes/assumptions). -/
def Obligations.Thermal : Prop :=
  (∀ (ntc : List (Option Nat)) (board : List Int) (s : State), s.mode ≠ .transport → Gives (.thermalUpdate ntc board) s fun t => t.rdI
    F.THERM_BOARD_BT0 = satSigned 16 ((board[0]?).getD noData) ∧ (∀ k : Fin 6, s.bit F.THERM_STATUS_COOL_FAULT k.val = true → (t.cool k.val).out =
    100 ∧ t.rd (F.THERM_COOL_C_DUTY k.val) = if s.crown.phase = .complete ∧ s.rd F.PAIR_STATUS_ROLE < 2 then 100 else 0)) ∧
  (∀ (tj : Int) (s : State), s.mode ≠ .transport → 1200 ≤ tj → tj < 1300 → s.rd F.THERM_STATUS_STAGE < 2 → Gives (.tjReading tj false) s fun t =>
    t.rd F.THERM_STATUS_STAGE = 2 ∧ t.rd F.CLOCK_STATUS_CD10_DIV2 = 1 ∧ t.rd F.SCAN_STATUS_SUSPENDED = 0xC ∧ t.rdI F.THERM_TJ_TJ = tj ∧ t.therm.hot3
    = false) ∧
  (∀ (tj : Int) (s : State), s.canStop = true → 1300 ≤ tj → s.therm.hot3 = true → s.rd F.THERM_STATUS_STAGE < 3 → Gives (.tjReading tj false) s fun t
    => Stopping t ∧ t.rd F.THERM_STATUS_STAGE = 3 ∧ t.hasCond .tjStage3 = true) ∧
  (∀ (tj : Int) (s : State), s.mode ≠ .transport → tj < 1000 → s.rd F.THERM_STATUS_STAGE = 0 → Gives (.tjReading tj false) s fun t => t.rd
    F.THERM_STATUS_STAGE = 0 ∧ t.rdI F.THERM_TJ_TJ = satSigned 16 tj ∧ OnlyFields [F.THERM_TJ_TJ] s t) ∧
  (∀ (k : Fin 4) (n : Nat) (s : State), Gives (.tachCheck k n) s fun t => t.rd (F.THERM_COOL_C_RPM k.val) = min (n * 60 / max (s.rd
    (F.THERM_COOL_8_PPR k.val)) 1) 0xFFFF) ∧
  (∀ (who : Initiator) (m : BitVec 6) (s : State), s.barred who A.THERM_CMD true = 0 → Gives (.thermClrFault who m) s fun t => (∀ k : Fin 6,
    m.toNat.testBit k.val = true → s.bit F.THERM_STATUS_COOL_FAULT k.val = true → (t.cool k.val).clearing = true) ∧ OnlyFields [] s t)

/-- Each clause under the conditions it writes: the end of a window with samples, outside TRANSPORT and dormant STANDBY, adds the charges and
  energies it brings to the four counters, advances the sequence number, which SEQ shows, and shows OVERRANGE. PK_CLR, where its clock runs and no
  write waits, puts the peak pairs it names to their empty values; with its clock stopped it waits and changes nothing. CNT_RESET records itself, and
  by a secure session in STANDBY or SERVICE zeroes the counters, by the non-secure world changes nothing. COUNTER_SLOT_INTERVAL writes the slot with
  the lower number, numbered one above both, or notes that the write is deferred. A read of a counter's LO answers its word and latches its HI word,
  and changes no other field. Rests on the model's choices in the log entries 2, 42, 75 (notes/assumptions). -/
def Obligations.Telemetry : Prop :=
  (∀ (n sec ns frac : Nat) (q : List Reduced) (ch : List Nat) (clipped stepped : Bool) (s : State), s.mode ≠ .transport → s.on F.CROWN_MODE_DORMANT =
    false → n ≠ 0 → Gives (.telemWindowEnd n sec ns frac q ch clipped stepped) s fun t => t.tele.seq = (s.tele.seq + 1) % 2 ^ 32 ∧ t.tele.qIn =
    s.tele.qIn + (ch[0]?).getD 0 ∧ t.tele.qOut = s.tele.qOut + (ch[1]?).getD 0 ∧ t.tele.eIn = s.tele.eIn + (ch[2]?).getD 0 ∧ t.tele.eOut =
    s.tele.eOut + (ch[3]?).getD 0 ∧ t.rd F.TELEM_SEQ_SEQ = s.tele.seq % 2 ^ 32 ∧ t.rd F.TELEM_STATUS_OVERRANGE = (if clipped then 1 else 0)) ∧
  (∀ (who : Initiator) (m : BitVec 6) (s : State), s.barred who A.TELEM_CMD true = 0 → s.crossingStopped A.TELEM_CMD = false → (s.host.held.any fun h
    => pageOf h.addr == pageOf A.TELEM_CMD) = false → Gives (.pkClr who m) s fun t => (∀ k : Fin 6, m.toNat.testBit k.val = true → t.rd
    (F.TELEM_PKMAX_PK_MAX k.val) = 0x80000000 ∧ t.rd (F.TELEM_PKMIN_PK_MIN k.val) = 0x7FFFFFFF) ∧ t.tele = s.tele) ∧
  (∀ (who : Initiator) (s : State), s.barred who A.TELEM_CMD true = 0 → s.crossingStopped A.TELEM_CMD = false → (s.host.held.any fun h => pageOf
    h.addr == pageOf A.TELEM_CMD) = false → s.secureOf who = true → (s.mode = .standby ∨ s.mode = .service) → Gives (.cntReset who) s fun t =>
    t.tele.qIn = 0 ∧ t.tele.qOut = 0 ∧ t.tele.eIn = 0 ∧ t.tele.eOut = 0 ∧ t.q91.length = s.q91.length + 1) ∧
  (∀ (who : Initiator) (m : BitVec 6) (s : State), s.barred who A.TELEM_CMD true = 0 → s.crossingStopped A.TELEM_CMD = true → Gives (.pkClr who m) s
    fun t => t.host.held = s.host.held ++ [{ who := who, addr := A.TELEM_CMD, data := m.toNat }] ∧ t.tele = s.tele ∧ OnlyFields [] s t) ∧
  (∀ (who : Initiator) (s : State), s.barred who A.TELEM_CMD true = 0 → s.crossingStopped A.TELEM_CMD = false → (s.host.held.any fun h => pageOf
    h.addr == pageOf A.TELEM_CMD) = false → s.secureOf who = false → Gives (.cntReset who) s fun t => t.tele = s.tele ∧ t.q91.length = s.q91.length +
    1 ∧ OnlyFields [] s t) ∧
  (∀ (s : State), s.journalHeld = false → Gives .counterSlotInterval s fun t => t.tele.deferred = false ∧ (mget [] t.tele.slots (if slotSeq (mget []
    s.tele.slots 0) ≤ slotSeq (mget [] s.tele.slots 1) then 0 else 1)).take 36 = le 4 (max (slotSeq (mget [] s.tele.slots 0)) (slotSeq (mget []
    s.tele.slots 1)) + 1) ++ s.counters.flatMap (le 8)) ∧
  (∀ (s : State), s.journalHeld = true → Gives .counterSlotInterval s fun t => t.tele = { s.tele with deferred := true }) ∧
  (∀ (who : Initiator) (k : Fin 4) (s : State), s.barred who (A.TELEM_QIN_LO + 8 * k.val) false = 0 → Gives (.counterLoRead who k) s fun t =>
    t.readData = [s.word (A.TELEM_QIN_LO + 8 * k.val)] ∧ t.tele =
    { s.tele with latched := mset 0 s.tele.latched k.val (s.rd ⟨A.TELEM_QIN_LO + 8 * k.val + 4, 0, 32⟩) } ∧ OnlyFields [] s t)

/-- Each clause under the conditions it writes: a set-point message of current, power or voltage from the configured source that reaches the module,
  is not discarded and not too old, and whose result is 0, is the next target, ends STALE, shows result 0 and counts as accepted; a current one with
  another result keeps the target, shows it and counts as refused; a discarded one only counts as discarded. A MODE message that asks for REST in RUN
  with no phase running enters REST with result 0; IMP_START marks a start of an impedance run and waits to answer; IMP_STOP of a run in RUN shows
  STATE 3 with ABORT 1 and result 0. TAKE of a current set-point from the registers with result 0 makes it the next target. Rests on the model's
  choices in the log entries 2, 43 (notes/assumptions). -/
def Obligations.DispatchMessages : Prop :=
  (∀ (v : Via) (m : List Byte) (s : State), s.dispReaches v m = true → beAt m 3 1 = 0x01 → s.dispDiscards v m = false → s.tooOld m = false → s.rd
    F.DISP_CFG_SRC = viaSource v → s.setPointResult 1 (beIAt m 24 4) = 0 → Gives (.currentMsg v m) s fun t => t.disp.newTarget = some (beIAt m 24 4)
    ∧ t.rd F.DISP_STATUS_RESULT = 0 ∧ t.rd F.DISP_STATUS_STALE = 0 ∧ t.rd F.DISP_COUNTS_ACCEPTED = satCount F.DISP_COUNTS_ACCEPTED.width (s.rd
    F.DISP_COUNTS_ACCEPTED + 1)) ∧
  (∀ (v : Via) (m : List Byte) (s : State), s.dispReaches v m = true → beAt m 3 1 = 0x02 → s.dispDiscards v m = false → s.tooOld m = false → s.rd
    F.DISP_CFG_SRC = viaSource v → s.setPointResult 2 (beIAt m 24 4) = 0 → Gives (.powerMsg v m) s fun t => t.disp.newTarget = some (beIAt m 24 4) ∧
    t.rd F.DISP_STATUS_RESULT = 0 ∧ t.rd F.DISP_STATUS_STALE = 0 ∧ t.rd F.DISP_COUNTS_ACCEPTED = satCount F.DISP_COUNTS_ACCEPTED.width (s.rd
    F.DISP_COUNTS_ACCEPTED + 1)) ∧
  (∀ (v : Via) (m : List Byte) (s : State), s.dispReaches v m = true → beAt m 3 1 = 0x03 → s.dispDiscards v m = false → s.tooOld m = false → s.rd
    F.DISP_CFG_SRC = viaSource v → s.setPointResult 3 (beIAt m 24 4) = 0 → Gives (.voltageMsg v m) s fun t => t.disp.newTarget = some (beIAt m 24 4)
    ∧ t.rd F.DISP_STATUS_RESULT = 0 ∧ t.rd F.DISP_STATUS_STALE = 0 ∧ t.rd F.DISP_COUNTS_ACCEPTED = satCount F.DISP_COUNTS_ACCEPTED.width (s.rd
    F.DISP_COUNTS_ACCEPTED + 1)) ∧
  (∀ (v : Via) (m : List Byte) (s : State), s.dispReaches v m = true → beAt m 3 1 = 0x01 → s.dispDiscards v m = false → s.tooOld m = false → s.rd
    F.DISP_CFG_SRC = viaSource v → s.setPointResult 1 (beIAt m 24 4) ≠ 0 → Gives (.currentMsg v m) s fun t => t.disp.newTarget = s.disp.newTarget ∧
    t.rd F.DISP_STATUS_RESULT = s.setPointResult 1 (beIAt m 24 4) ∧ t.rd F.DISP_COUNTS_REFUSED = satCount F.DISP_COUNTS_REFUSED.width (s.rd
    F.DISP_COUNTS_REFUSED + 1)) ∧
  (∀ (v : Via) (m : List Byte) (s : State), s.dispReaches v m = true → beAt m 3 1 = 1 → s.dispDiscards v m = true → Gives (.currentMsg v m) s fun t
    => t.rd F.DISP_COUNTS2_DISCARDED = satCount F.DISP_COUNTS2_DISCARDED.width (s.rd F.DISP_COUNTS2_DISCARDED + 1) ∧ OnlyFields
    [F.DISP_COUNTS2_DISCARDED] s t ∧ t.disp = s.disp) ∧
  (∀ (v : Via) (m : List Byte) (p : Partners) (s : State), s.dispReaches v m = true → beAt m 3 1 = 0x10 → s.dispDiscards v m = false → s.tooOld m =
    false → beIAt m 24 4 % 16 = 4 → s.modeCode 4 p = 0 → s.mode = .run → s.nOn = 0 → Gives (.modeMsg v m p) s fun t => t.mode = .rest ∧ t.rd
    F.DISP_STATUS_RESULT = 0 ∧ t.rd F.DISP_COUNTS_ACCEPTED = satCount F.DISP_COUNTS_ACCEPTED.width (s.rd F.DISP_COUNTS_ACCEPTED + 1)) ∧
  (∀ (v : Via) (m : List Byte) (s : State), s.dispReaches v m = true → beAt m 3 1 = 0x11 → s.dispDiscards v m = false → s.tooOld m = false → Gives
    (.impStart v m) s fun t => t.imp = { s.imp with startPending := true } ∧ t.disp.impWait = s.disp.impWait ++ [some (v, beAt m 8 4)]) ∧
  (∀ (v : Via) (m : List Byte) (s : State), s.dispReaches v m = true → beAt m 3 1 = 0x12 → s.dispDiscards v m = false → s.tooOld m = false → s.rd
    F.IMPED_STATUS_STATE = 2 → s.imp.startStep = 0 → s.imp.aborted = false → Gives (.impStop v m) s fun t => t.rd F.IMPED_STATUS_STATE = 3 ∧ t.rd
    F.IMPED_STATUS_ABORT = 1 ∧ t.rd F.DISP_STATUS_RESULT = 0) ∧
  (∀ (who : Initiator) (p : Partners) (s : State), s.barred who A.DISP_CMD true = 0 → s.rd F.DISP_SP_KIND_KIND = 1 → s.rd F.DISP_CFG_SRC = 0 →
    s.setPointResult 1 (s.rdI F.DISP_SP_VALUE_VALUE) = 0 → Gives (.takeCmd who p) s fun t => t.disp.newTarget = some (s.rdI F.DISP_SP_VALUE_VALUE) ∧
    t.rd F.DISP_STATUS_RESULT = 0)

/-- Each clause under the conditions it writes: the limiter chain with a current source in RUN moves SETP towards TARGET by one ramp step, outside
  RUN, HOLD and TRANSPORT makes it 0, in HOLD changes no register. STATUS_PERIOD on a CAN source of a solo or active unit takes the next sequence
  number. The stale timer in RUN with T_STALE set and STALE clear sets STALE with its event and count, and with a source other than voltage makes
  TARGET 0. STALE_DROP with STALE_ACT 1 in RUN with nothing under way raises its event and goes to REST, at once with no phase running and else by
  the ramp. Rests on the model's choices in the log entries 2, 43 (notes/assumptions). -/
def Obligations.DispatchCourse : Prop :=
  (∀ (s : State), s.mode = .run → s.rd F.LOOP_STATUS_SOURCE = 0 → Gives .limiterChain s fun t => t.rdI F.DISP_SETP_SETP = satSigned 32 (rampStep
    (s.rdI F.DISP_SETP_SETP) (s.rdI F.DISP_TARGET_TARGET) (s.rd F.DISP_RAMP_UP) (s.rd F.DISP_RAMP_DOWN))) ∧
  (∀ (s : State), s.mode ≠ .run → s.mode ≠ .hold → s.mode ≠ .transport → Gives .limiterChain s fun t => t.rd F.DISP_SETP_SETP = 0) ∧
  (∀ (s : State), s.mode = .hold → Gives .limiterChain s fun t => t.regs = s.regs) ∧
  (∀ (s : State), s.rd F.DISP_CFG_SRC = 2 → s.rd F.PAIR_STATUS_ROLE < 2 → Gives .statusPeriod s fun t => t.disp.txSeq = (s.disp.txSeq + 1) % 2 ^ 32) ∧
  (∀ (s : State), s.mode = .run → s.rd F.DISP_STALE_T_STALE ≠ 0 → s.on F.DISP_STATUS_STALE = false → Gives .staleTimer s fun t => t.rd
    F.DISP_STATUS_STALE = 1 ∧ t.bit (evtStatus 0x34) 2 = true ∧ (s.rd F.LOOP_STATUS_SOURCE ≠ 2 → t.rd F.DISP_TARGET_TARGET = 0 ∧ t.disp.newTarget =
    none) ∧ t.rd F.DISP_COUNTS2_STALES = satCount F.DISP_COUNTS2_STALES.width (s.rd F.DISP_COUNTS2_STALES + 1)) ∧
  (∀ (s : State), s.mode = .run → s.on F.DISP_STATUS_STALE = true → s.underWay = false → s.rd F.DISP_CFG_STALE_ACT = 1 → Gives .staleDrop s fun t =>
    t.bit (evtStatus 0x34) 5 = true ∧ (if s.nOn = 0 then t.mode = .rest else t.crown.trans = .restRamp ∧ t.mode = .run))

/-- Each clause under the conditions it writes: with EN outside TRANSPORT, for a protection other than bit 6, per place: a failing evaluation of one
  with no verdict makes it pending and changes no register; failing while pending it becomes active with its condition and PROT's lasting fault, and
  of class S in a unit that can stop has a stop under way; a passing evaluation of the last place with a verdict, after another pass, clears its bit
  and condition with its event. HALL_DETECT_OPEN with no check of the sensor pending notes the detection as not fitted and changes no register. Rests
  on the model's choices in the log entries 2, 44, 63 (notes/assumptions). -/
def Obligations.EngineProtections : Prop :=
  (∀ (bit : Fin 8) (v w : Int) (s : State), s.on F.PROT_CFG_EN = true → s.mode ≠ .transport → bit.val ≠ 6 → s.protPasses (protPlace bit.val w) = none
    → s.prot.pending.contains (protPlace bit.val w) = false → s.protFails bit.val v = true → Gives (.protEvaluation bit v w) s fun t => t.prot =
    { s.prot with pending := (s.prot.pending.filter (· != protPlace bit.val w)) ++ [protPlace bit.val w] } ∧ t.regs = s.regs) ∧
  (∀ (bit : Fin 8) (v w : Int) (s : State), s.on F.PROT_CFG_EN = true → s.mode ≠ .transport → bit.val ≠ 6 → s.protPasses (protPlace bit.val w) = none
    → s.prot.pending.contains (protPlace bit.val w) = true → s.protFails bit.val v = true → Gives (.protEvaluation bit v w) s fun t => t.bit
    F.PROT_ACTIVE_BITS bit.val = true ∧ t.hasCond (.prot bit.val) = true ∧ t.rd (pageFld 0x30 0x02C 0 16) = evCode 0x30 .protection) ∧
  (∀ (bit : Fin 8) (v w : Int) (s : State), s.on F.PROT_CFG_EN = true → s.canStop = true → bit.val ≠ 6 → s.protPasses (protPlace bit.val w) = none →
    s.prot.pending.contains (protPlace bit.val w) = true → s.protFails bit.val v = true → s.protClass bit.val = .S → Gives (.protEvaluation bit v w)
    s fun t => Stopping t) ∧
  (∀ (bit : Fin 8) (v w : Int) (n : Nat) (s : State), s.on F.PROT_CFG_EN = true → s.mode ≠ .transport → bit.val ≠ 6 → s.protPasses (protPlace bit.val
    w) = some n → 1 ≤ n → (s.prot.held.filter (·.1 != protPlace bit.val w)).any (·.1.1 == bit.val) = false → s.protFails bit.val v = false → Gives
    (.protEvaluation bit v w) s fun t => t.bit F.PROT_ACTIVE_BITS bit.val = false ∧ t.bit (evtStatus 0x30) (16 + bit.val) = true ∧ t.hasCond (.prot
    bit.val) = false) ∧
  (∀ (s : State), s.prot.pending.contains (6, 0) = false → Gives .hallDetectOpen s fun t => t.prot = { s.prot with hall := false } ∧ t.regs = s.regs)

/-- Each clause under the conditions it writes: an island current beyond OC_TRIP is pending at its first sample and has a stop under way with its
  condition at the second; so has a gate-enable readback that differs at its second sample. A de-energised SRD input, SAFE.CMD.SRD and TRIP, and the
  loss of the safety clock have a stop under way in a unit that can stop. An SRD input that is energised while the other is not shows its own bit
  alone; energised again with both at the same instant, after both were off, it ends its conditions. The end of the SRD ramp in step 2 or 3 has both
  enables off and the loop not evaluating; the coil bound in step 5 removes the coil feed, with no K1 to K5 driven. Rests on the model's choices in
  the log entries 2, 44 (notes/assumptions). -/
def Obligations.SafetyIsland : Prop :=
  (∀ (a b v : Int) (e0 e1 : Bool) (s : State), s.mode ≠ .transport → s.hasCond .overCurrent = false → s.prot.islandPending.contains .overCurrent =
    false → s.rd F.SAFE_OC_OC_TRIP * 100 < a.natAbs → Gives (.islandSample a b v e0 e1) s fun t => t.prot.islandPending.contains .overCurrent = true) ∧
  (∀ (a b v : Int) (e0 e1 : Bool) (s : State), s.canStop = true → s.hasCond .overCurrent = false → s.prot.islandPending.contains .overCurrent = true
    → s.rd F.SAFE_OC_OC_TRIP * 100 < a.natAbs → Gives (.islandSample a b v e0 e1) s fun t => Stopping t ∧ t.hasCond .overCurrent = true) ∧
  (∀ (a b v : Int) (e0 e1 : Bool) (s : State), s.canStop = true → s.hasCond .gateReadback = false → s.prot.islandPending = [.gateReadback] → a.natAbs
    ≤ s.rd F.SAFE_OC_OC_TRIP * 100 → s.on F.SAFE_CFG_DIVERSE = false → s.hasCond .overCurrent = false → (e0 != s.prot.enableCmd) = true → Gives
    (.islandSample a b v e0 e1) s fun t => Stopping t ∧ t.hasCond .gateReadback = true) ∧
  (∀ (ch : Fin 2) (s : State), s.canStop = true → Gives (.srdInput ch false) s fun t => Stopping t ∧ t.hasCond .srdInput = true) ∧
  (∀ (ch : Fin 2) (s : State), s.mode ≠ .transport → (s.on (if ch = 0 then F.SAFE_STATUS_IN1 else F.SAFE_STATUS_IN0)) = false → Gives (.srdInput ch
    true) s fun t => t.rd (if ch = 0 then F.SAFE_STATUS_IN0 else F.SAFE_STATUS_IN1) = 1 ∧ OnlyFields [if ch = 0 then F.SAFE_STATUS_IN0 else
    F.SAFE_STATUS_IN1] s t) ∧
  (∀ (s : State), s.mode ≠ .transport → s.prot.bothOff = true → s.on F.SAFE_STATUS_IN0 = true → s.on F.SAFE_STATUS_IN1 = true → s.prot.inChange0 =
    s.prot.inChange1 → Gives (.srdInput 0 true) s fun t => t.hasCond .srdInput = false ∧ t.hasCond .srdDisc = false) ∧
  (∀ (who : Initiator) (s : State), s.barred who A.SAFE_CMD true = 0 → s.canStop = true → Gives (.safeCmdSrd who) s fun t => Stopping t) ∧
  (∀ (who : Initiator) (s : State), s.barred who A.SAFE_CMD true = 0 → s.canStop = true → Gives (.safeCmdTrip who) s fun t => Stopping t) ∧
  (∀ (s : State), (s.prot.srd.any fun d => !d.trip) = true → (s.rd F.SAFE_STATUS_SRD_STEP = 2 ∨ s.rd F.SAFE_STATUS_SRD_STEP = 3) → Gives .srdRampEnd
    s fun t => Stopping t ∧ t.rd F.SAFE_STATUS_EN0 = 0 ∧ t.rd F.SAFE_STATUS_EN1 = 0 ∧ t.rd F.LOOP_STATUS_EVAL = 0) ∧
  (∀ (s : State), s.prot.srd.isSome = true → s.rd F.SAFE_STATUS_SRD_STEP = 5 → [1, 2, 3, 4, 5].any s.driven = true → Gives .srdCoilTimeout s fun t =>
    t.rd F.SAFE_STATUS_COIL_FEED = 0 ∧ [1, 2, 3, 4, 5].any t.driven = false ∧ Stopping t) ∧
  (∀ (s : State), s.canStop = true → Gives .safeclkStop s fun t => Stopping t ∧ t.prot.safeClk = false ∧ t.hasCond .safeClk = true)

/-- Each clause under the conditions it writes: a valid first copy to SNET.PORT outside degraded operation on a port with its network up waits for
  its twin and changes no register; an equal twin on the other port within the skew is a valid pair: with no flags it keeps its SEQ, shows PAIR_OK
  and ends the source's loss, and with the SRD flag and not the trip flag, of a source with ACT_SRD in a unit that can stop, it has a stop under way.
  A datagram to another UDP port, on a port without its network, or an invalid one changes nothing. The watchdog of an enabled source not lost
  before, in such a unit, has a stop under way, PAIR_OK clear and its loss as a condition. A STATE message takes the next number. DEGRADE for 1 to
  3,600 s shows DEGRADED with its end, and the expiry clears it, each with its event. Rests on the model's choices in the log entries 2, 45
  (notes/assumptions). -/
def Obligations.SafetyNetwork : Prop :=
  (∀ (p : Fin 2) (m : SafetyDatagram) (k : Nat) (s : State), m.dst.toNat = s.rd F.SNET_PORT_UDP_PORT → s.ipUp p.val = true → s.copyValid m.bytes =
    some k → (mget {} s.prot.sources k).copy = none → s.on F.SNET_STATUS_DEGRADED = false → Gives (.twinnedSafetyMessage p m) s fun t => (mget {}
    t.prot.sources k).copy = some { port := p.val, bytes := m.bytes, arrived := s.mono } ∧ t.regs = s.regs ∧ t.out = s.out) ∧
  (∀ (p : Fin 2) (m : SafetyDatagram) (k : Nat) (c : SafetyCopy) (s : State), m.dst.toNat = s.rd F.SNET_PORT_UDP_PORT → s.ipUp p.val = true →
    s.copyValid m.bytes = some k → (mget {} s.prot.sources k).copy = some c → c.port ≠ p.val → c.bytes = m.bytes → s.mono ≤ c.arrived + s.rd
    F.SNET_CFG_SKEW_MS * 1000000 → beAt m.bytes 24 1 = 0 → Gives (.twinnedSafetyMessage p m) s fun t => mget {} t.prot.sources k =
    { lastSeq := some (beAt m.bytes 8 4) } ∧ t.bit F.SNET_STATUS_PAIR_OK k = true ∧ t.hasCond (.snetLoss k) = false) ∧
  (∀ (p : Fin 2) (m : SafetyDatagram) (k : Nat) (c : SafetyCopy) (s : State), m.dst.toNat = s.rd F.SNET_PORT_UDP_PORT → s.ipUp p.val = true →
    s.copyValid m.bytes = some k → (mget {} s.prot.sources k).copy = some c → c.port ≠ p.val → c.bytes = m.bytes → s.mono ≤ c.arrived + s.rd
    F.SNET_CFG_SKEW_MS * 1000000 → (beAt m.bytes 24 1).testBit 0 = true → (beAt m.bytes 24 1).testBit 1 = false → s.on (F.SNET_SRC_0_ACT_SRD k) =
    true → s.canStop = true → Gives (.twinnedSafetyMessage p m) s fun t => Stopping t) ∧
  (∀ (p : Fin 2) (m : SafetyDatagram) (s : State), (m.dst.toNat ≠ s.rd F.SNET_PORT_UDP_PORT ∨ s.ipUp p.val = false ∨ s.copyValid m.bytes = none) →
    Gives (.twinnedSafetyMessage p m) s fun t => t = s) ∧
  (∀ (n : Fin 8) (s : State), s.on (F.SNET_SRC_0_EN n.val) = true → s.hasCond (.snetLoss n.val) = false → s.canStop = true → Gives (.safetyWatchdog
    n) s fun t => Stopping t ∧ t.bit F.SNET_STATUS_PAIR_OK n.val = false ∧ t.hasCond (.snetLoss n.val) = true) ∧
  (∀ (s : State), Gives .snetStateTx s fun t => t.prot = { s.prot with txSeq := (s.prot.txSeq + 1) % 2 ^ 32 } ∧ t.regs = s.regs) ∧
  (∀ (who : Initiator) (sec : BitVec 12) (s : State), s.barred who A.SNET_DEGRADE true = 0 → 1 ≤ sec.toNat → sec.toNat ≤ 3600 → Gives (.degradeGrant
    who sec) s fun t => t.rd F.SNET_STATUS_DEGRADED = 1 ∧ t.rd F.SNET_DEGRADE_DEG_S = sec.toNat ∧ t.prot.degradeEnd = s.mono + sec.toNat * 1000000000
    ∧ t.bit (evtStatus 0x32) 2 = true) ∧
  (∀ (s : State), s.on F.SNET_STATUS_DEGRADED = true → Gives .degradeExpiry s fun t => t.rd F.SNET_STATUS_DEGRADED = 0 ∧ t.rd F.SNET_DEGLEFT_LEFT = 0
    ∧ t.prot.degradeEnd = 0 ∧ t.bit (evtStatus 0x32) 3 = true)

/-- Each clause under the conditions it writes: where the monitor may measure, the end of state A keeps the pole voltages and shows state B and
  INJECTING, and the end of state B shows VALID results, counts the cycle and raises event 0; where it may not, STATUS shows NO_MEAS with no
  injection, and no other field changes. Rests on the model's choices in the log entries 2, 44 (notes/assumptions). -/
def Obligations.InsulationMonitor : Prop :=
  (∀ (p n : Int) (s : State), s.insulAllowed = true → s.on F.INSUL_STATUS_STATE_B = false → Gives (.insulStateEnd p n) s fun t => t.prot =
    { s.prot with insVpA := p, insVnA := n.natAbs } ∧ t.rd F.INSUL_STATUS_STATE_B = 1 ∧ t.rd F.INSUL_STATUS_INJECTING = 1 ∧ t.rd
    F.INSUL_STATUS_NO_MEAS = 0 ∧ OnlyFields [F.INSUL_STATUS_STATE_B, F.INSUL_STATUS_INJECTING, F.INSUL_STATUS_NO_MEAS] s t) ∧
  (∀ (p n : Int) (s : State), s.insulAllowed = true → s.on F.INSUL_STATUS_STATE_B = true → Gives (.insulStateEnd p n) s fun t => t.rd
    F.INSUL_STATUS_STATE_B = 0 ∧ t.rd F.INSUL_STATUS_VALID = 1 ∧ t.rd F.INSUL_CYCLES_COUNT = satCount F.INSUL_CYCLES_COUNT.width (s.rd
    F.INSUL_CYCLES_COUNT + 1) ∧ t.bit (evtStatus 0x33) 0 = true) ∧
  (∀ (p n : Int) (s : State), s.insulAllowed = false → Gives (.insulStateEnd p n) s fun t => t.rd F.INSUL_STATUS_NO_MEAS = 1 ∧ t.rd
    F.INSUL_STATUS_INJECTING = 0 ∧ t.rd F.INSUL_STATUS_STATE_B = 0 ∧ OnlyFields [F.INSUL_STATUS_STATE_B, F.INSUL_STATUS_INJECTING,
    F.INSUL_STATUS_NO_MEAS] s t)

/-- Each clause under the conditions it writes: a claim frame and its echo go out with the claim, the next heartbeat and the CRC; the first failing
  readback is noted, the second shows LINK_FAULT, with a stop under way in an active unit without a READY partner and relinquishing to a READY one
  with cause 4; at generation 0x7FFF an active unit relinquishes so, with cause 8. Received: a frame with a CRC error, and one of claim 0 whose
  heartbeat does not follow, only count; a claim 0 with the next heartbeat shows it and keeps ROLE; a higher claim of the other unit takes the role
  of an active unit, with outputs 0; one with the own unit's bit changes nothing. A heartbeat goes out with READY and the unit; a received one shows
  LINK_UP and PARTNER_READY; the loss of the link clears both with its event. An echo is kept; a notice is kept while the monitor sees the claim; a
  change of PAIR_ID is recorded and changes no register. Rests on the model's choices in the log entries 2, 46, 92 (notes/assumptions). -/
def Obligations.PairClaims : Prop :=
  (∀ (s : State), s.crown.phase = .complete → s.mode ≠ .transport → s.rd F.CLAIM_GEN_G < 0x7FFF → s.on F.CLAIM_MON_LINK_FAULT = false →
    s.pair.readback = false → Gives (.claimFrameTx true) s fun t => t.pair.hb = (s.pair.hb + 1) % 256 ∧ t.out = s.out ++ [.claim (claimFrame (s.rd
    F.CLAIM_STATUS_OWN) s.pair.hb), .echo (s.rd F.CLAIM_STATUS_OWN) s.pair.hb] ∧ t.regs = s.regs) ∧
  (∀ (s : State), s.crown.phase = .complete → s.mode ≠ .transport → s.rd F.CLAIM_GEN_G < 0x7FFF → s.on F.CLAIM_MON_LINK_FAULT = false →
    s.pair.readback = false → Gives (.claimFrameTx false) s fun t => t.pair.readback = true ∧ t.regs = s.regs) ∧
  (∀ (s : State), s.crown.phase = .complete → s.rd F.CLAIM_GEN_G < 0x7FFF → s.on F.CLAIM_MON_LINK_FAULT = false → s.pair.readback = true → s.rd
    F.PAIR_STATUS_ROLE = 1 → (s.on F.PAIR_STATUS_PARTNER_READY && s.on F.PAIR_STATUS_LINK_UP) = false → s.canStop = true → Gives (.claimFrameTx
    false) s fun t => t.rd F.CLAIM_MON_LINK_FAULT = 1 ∧ Stopping t) ∧
  (∀ (s : State), s.crown.phase = .complete → s.mode ≠ .transport → s.rd F.CLAIM_GEN_G < 0x7FFF → s.on F.CLAIM_MON_LINK_FAULT = false →
    s.pair.readback = true → s.rd F.PAIR_STATUS_ROLE = 1 → s.on F.PAIR_STATUS_PARTNER_READY = true → s.on F.PAIR_STATUS_LINK_UP = true → Gives
    (.claimFrameTx false) s fun t => t.rd F.CLAIM_MON_LINK_FAULT = 1 ∧ t.rd F.PAIR_STATUS_ROLE = 3 ∧ t.rd F.CLAIM_STATUS_OWN = 0 ∧ t.rd
    F.PAIR_LASTSW_CAUSE = 4) ∧
  (∀ (ok : Bool) (s : State), s.crown.phase = .complete → s.mode ≠ .transport → s.rd F.CLAIM_GEN_G = 0x7FFF → s.pair.exhausted = false → s.rd
    F.PAIR_STATUS_ROLE = 1 → s.on F.PAIR_STATUS_PARTNER_READY = true → s.on F.PAIR_STATUS_LINK_UP = true → Gives (.claimFrameTx ok) s fun t => t.rd
    F.PAIR_STATUS_ROLE = 3 ∧ t.rd F.CLAIM_STATUS_OWN = 0 ∧ (ok = true → t.rd F.PAIR_LASTSW_CAUSE = 8)) ∧
  (∀ (claim : BitVec 16) (hb : BitVec 8) (line : ClaimLine) (s : State), s.on F.PAIR_CFG_PAIRED = true → (line.symbols && line.crc.toNat == claimCrc
    claim.toNat hb.toNat) = false → Gives (.claimFrameRx claim hb line) s fun t => t.rd F.CLAIM_ERRS_CRC_ERR = satCount F.CLAIM_ERRS_CRC_ERR.width
    (s.rd F.CLAIM_ERRS_CRC_ERR + 1) ∧ OnlyFields [F.CLAIM_ERRS_CRC_ERR] s t) ∧
  (∀ (hb : BitVec 8) (line : ClaimLine) (s : State), s.on F.PAIR_CFG_PAIRED = true → line.symbols = true → line.crc.toNat = claimCrc 0 hb.toNat →
    (s.pair.rxHb.any fun p => (p + 1) % 256 != hb.toNat) = false → s.on F.CLAIM_MON_PRESENT = true → s.rd F.CLAIM_STATUS_PARTNER = 0 → Gives
    (.claimFrameRx 0 hb line) s fun t => t.rd F.CLAIM_MON_HB = hb.toNat ∧ t.rd F.CLAIM_STATUS_PARTNER = 0 ∧ t.pair.rxHb = some hb.toNat ∧ t.rd
    F.PAIR_STATUS_ROLE = s.rd F.PAIR_STATUS_ROLE) ∧
  (∀ (claim : BitVec 16) (hb : BitVec 8) (line : ClaimLine) (s : State), s.on F.PAIR_CFG_PAIRED = true → line.symbols = true → line.crc.toNat =
    claimCrc claim.toNat hb.toNat → s.pair.rxHb.any (fun p => (p + 1) % 256 != hb.toNat) = true → claim = 0 → Gives (.claimFrameRx claim hb line) s
    fun t => t.rd F.CLAIM_ERRS_HB_ERR = satCount F.CLAIM_ERRS_HB_ERR.width (s.rd F.CLAIM_ERRS_HB_ERR + 1) ∧ OnlyFields [F.CLAIM_ERRS_HB_ERR] s t) ∧
  (∀ (claim : BitVec 16) (hb : BitVec 8) (line : ClaimLine) (s : State), s.on F.PAIR_CFG_PAIRED = true → line.symbols = true → line.crc.toNat =
    claimCrc claim.toNat hb.toNat → (s.pair.rxHb.any fun p => (p + 1) % 256 != hb.toNat) = false → s.rd F.PAIR_STATUS_ROLE = 1 → s.rd
    F.CLAIM_STATUS_OWN < claim.toNat → claim.toNat % 2 ≠ s.unitBit → Gives (.claimFrameRx claim hb line) s fun t => t.rd F.CLAIM_STATUS_PARTNER =
    claim.toNat ∧ t.rd F.PAIR_STATUS_ROLE = 2 ∧ t.rd F.CLAIM_STATUS_OWN = 0 ∧ t.rd F.IMAGE_DO_DO = 0) ∧
  (∀ (claim : BitVec 16) (hb : BitVec 8) (line : ClaimLine) (s : State), s.on F.PAIR_CFG_PAIRED = true → line.symbols = true → line.crc.toNat =
    claimCrc claim.toNat hb.toNat → claim.toNat ≠ 0 → claim.toNat % 2 = s.unitBit → Gives (.claimFrameRx claim hb line) s fun t => t = s) ∧
  (∀ (s : State), s.mode ≠ .transport → s.on F.PAIR_CFG_PAIRED = true → Gives .heartbeatTx s fun t => t.out = s.out ++ [.heartbeat (t.on
    F.PAIR_STATUS_READY) (if s.pair.openStrap then none else some (s.rd F.PAIR_STATUS_UNIT))] ∧ t.pair = s.pair) ∧
  (∀ (ready : Bool) (s : State), s.on F.PAIR_CFG_PAIRED = true → s.pair.sameUnit = false → Gives (.heartbeatRx ready none) s fun t => t.rd
    F.PAIR_STATUS_LINK_UP = 1 ∧ t.rd F.PAIR_STATUS_PARTNER_READY = (if ready then 1 else 0) ∧ t.pair.sameUnit = false ∧ (s.on F.PAIR_STATUS_LINK_UP =
    true → t.pair = s.pair)) ∧
  (∀ (s : State), s.on F.PAIR_STATUS_LINK_UP = true → Gives .pairLinkLost s fun t => t.rd F.PAIR_STATUS_LINK_UP = 0 ∧ t.rd
    F.PAIR_STATUS_PARTNER_READY = 0 ∧ t.bit (evtStatus 0x38) 4 = true ∧ t.pair = s.pair) ∧
  (∀ (claim : BitVec 16) (s : State), Gives (.claimEchoRx claim) s fun t => t.pair = { s.pair with echo := some claim.toNat } ∧ t.regs = s.regs) ∧
  (∀ (cause : BitVec 8) (s : State), s.on F.CLAIM_MON_PRESENT = true → Gives (.relinquishNotice cause) s fun t => t.pair =
    { s.pair with notice := some cause.toNat } ∧ t.regs = s.regs) ∧
  (∀ (level : Fin 3) (s : State), Gives (.pairIdChange level) s fun t => t.q91.length = s.q91.length + 1 ∧ t.regs = s.regs ∧ t.pair = s.pair)

/-- Each clause under the conditions it writes: a standby in STANDBY, READY and not barred, that misses claim and echo or is given notice while the
  claim is missing, claims one generation above the highest known with its cause; other units note the silence with its event; an echo lost while the
  claim is seen is only forgotten. Unit B after its wait claims so, or where barred only ends the wait. SWITCHOVER_RESUME, with no SRD to take over
  and the unit supplied, ends GAP with its length, and in RUN has the loop evaluate and instance 16 ramp. A forced reset asked for is sent once.
  SWITCH with its key to a READY partner hands the claim over with cause 1; in a unit that is not active it shows code 1. A standby takes a first
  dispatch snapshot and the Almanac's sequence numbers, and shows the partner's phase-0 difference; another unit takes no snapshot. A failed island
  self-test is pending once and then, in a solo unit that can stop, has a stop under way. Rests on the model's choices in the log entries 2, 46, 91
  (notes/assumptions). -/
def Obligations.PairSwitchOver : Prop :=
  (∀ (s : State), s.on F.CLAIM_MON_PRESENT = true → s.rd F.PAIR_STATUS_ROLE = 2 → s.pair.echo = none → s.pair.waiting = false → s.on
    F.PAIR_CFG_PAIRED = true → s.claimBarred = false → max (s.rd F.CLAIM_GEN_G) s.pair.partnerGen < 0x7FFE → s.mode = .standby → s.on
    F.PAIR_STATUS_READY = true → Gives .claimMonitorSilence s fun t => t.rd F.CLAIM_MON_PRESENT = 0 ∧ t.pair.rxHb = none ∧ t.rd F.CLAIM_STATUS_OWN =
    2 * (max (s.rd F.CLAIM_GEN_G) s.pair.partnerGen + 1) + s.unitBit ∧ t.rd F.PAIR_STATUS_ROLE = 1 ∧ t.rd F.PAIR_LASTSW_CAUSE = (s.pair.notice.getD
    0x10)) ∧
  (∀ (s : State), s.on F.CLAIM_MON_PRESENT = true → s.rd F.PAIR_STATUS_ROLE ≠ 2 → Gives .claimMonitorSilence s fun t => t.rd F.CLAIM_MON_PRESENT = 0
    ∧ t.bit (evtStatus 0x39) 0 = true ∧ t.pair = { s.pair with rxHb := none }) ∧
  (∀ (s : State), s.on F.CLAIM_MON_PRESENT = true → Gives .claimEchoSilence s fun t => t.pair = { s.pair with echo := none } ∧ t.regs = s.regs) ∧
  (∀ (s : State), s.on F.CLAIM_MON_PRESENT = false → s.rd F.PAIR_STATUS_ROLE = 2 → s.pair.waiting = false → s.on F.PAIR_CFG_PAIRED = true →
    s.claimBarred = false → max (s.rd F.CLAIM_GEN_G) s.pair.partnerGen < 0x7FFE → s.mode = .standby → s.on F.PAIR_STATUS_READY = true → Gives
    .claimEchoSilence s fun t => t.pair.echo = none ∧ t.pair.freset = true ∧ t.rd F.CLAIM_STATUS_OWN = 2 * (max (s.rd F.CLAIM_GEN_G)
    s.pair.partnerGen + 1) + s.unitBit ∧ t.rd F.PAIR_STATUS_ROLE = 1 ∧ t.rd F.PAIR_LASTSW_CAUSE = (s.pair.notice.getD 0x10) ∧ t.rd
    F.PAIR_SWITCHES_TAKEOVERS = satCount F.PAIR_SWITCHES_TAKEOVERS.width (s.rd F.PAIR_SWITCHES_TAKEOVERS + 1)) ∧
  (∀ (cause : BitVec 8) (s : State), s.on F.CLAIM_MON_PRESENT = false → s.rd F.PAIR_STATUS_ROLE = 2 → s.pair.waiting = false → s.on F.PAIR_CFG_PAIRED
    = true → s.claimBarred = false → max (s.rd F.CLAIM_GEN_G) s.pair.partnerGen < 0x7FFE → s.mode = .standby → s.on F.PAIR_STATUS_READY = true →
    Gives (.relinquishNotice cause) s fun t => t.rd F.CLAIM_STATUS_OWN = 2 * (max (s.rd F.CLAIM_GEN_G) s.pair.partnerGen + 1) + s.unitBit ∧ t.rd
    F.PAIR_STATUS_ROLE = 1 ∧ t.rd F.PAIR_LASTSW_CAUSE = cause.toNat ∧ t.pair.notice = none) ∧
  (∀ (s : State), s.pair.waiting = true → s.crown.phase = .complete → s.claimBarred = false → max (s.rd F.CLAIM_GEN_G) s.pair.partnerGen < 0x7FFE →
    Gives .unitBClaimWait s fun t => t.pair.waiting = false ∧ t.rd F.CLAIM_STATUS_OWN = 2 * (max (s.rd F.CLAIM_GEN_G) s.pair.partnerGen + 1) +
    s.unitBit ∧ t.rd F.PAIR_STATUS_ROLE = 1) ∧
  (∀ (s : State), s.pair.waiting = true → s.crown.phase = .complete → s.claimBarred = true → Gives .unitBClaimWait s fun t => t.pair.waiting = false
    ∧ t.regs = s.regs) ∧
  (∀ (s : State), s.pair.resume = true → s.effMode ≠ .run → s.mode ≠ .hold → s.supplied = true → (s.pair.loop.bind (·.srd)) = none → Gives
    .switchoverResume s fun t => t.pair.resume = false ∧ t.rd F.PAIR_STATUS_GAP = 0 ∧ t.rd F.PAIR_LASTSW_GAP_US = satCount 16 ((s.mono - s.pair.t0) /
    1000) ∧ OnlyFields [F.PAIR_STATUS_GAP, F.PAIR_LASTSW_GAP_US] s t) ∧
  (∀ (s : State), s.pair.resume = true → s.mode = .run → s.supplied = true → (s.pair.loop.bind (·.srd)) = none → Gives .switchoverResume s fun t =>
    t.pair.resume = false ∧ t.rd F.PAIR_STATUS_GAP = 0 ∧ t.rd F.LOOP_STATUS_EVAL = 1 ∧ t.loop.rampFrom.contains 16 = true) ∧
  (∀ (s : State), s.pair.freset = true → s.on F.PAIR_CFG_FRESET_EN = true → s.rd F.PAIR_STATUS_ROLE = 1 → s.rd F.CLAIM_STATUS_OWN ≠ 0 → s.pair.resume
    = false → s.mode ≠ .connect → s.on F.CLAIM_MON_PRESENT = false → Gives .forcedResetSend s fun t => t.pair = { s.pair with freset := false } ∧
    t.out = s.out ++ [.forcedReset] ∧ t.regs = s.regs) ∧
  (∀ (who : Initiator) (s : State), s.barred who A.PAIR_CMD true = 0 → s.rd F.PAIR_STATUS_ROLE = 1 → s.on F.PAIR_STATUS_PARTNER_READY = true → s.on
    F.PAIR_STATUS_LINK_UP = true → s.mode ≠ .connect → s.mode ≠ .hold → s.prot.srd = none → s.rd F.CROWN_STAGE_CTRL_STATE ≠ 6 → Gives (.switchCmd who
    0x5A3C) s fun t => t.rd F.PAIR_STATUS_SW_RESULT = 0 ∧ t.rd F.PAIR_STATUS_ROLE = 3 ∧ t.rd F.CLAIM_STATUS_OWN = 0 ∧ t.rd F.PAIR_LASTSW_CAUSE = 1 ∧
    t.rd F.PAIR_SWITCHES_RELINQS = satCount F.PAIR_SWITCHES_RELINQS.width (s.rd F.PAIR_SWITCHES_RELINQS + 1)) ∧
  (∀ (who : Initiator) (key : BitVec 16) (s : State), s.barred who A.PAIR_CMD true = 0 → s.rd F.PAIR_STATUS_ROLE ≠ 1 → Gives (.switchCmd who key) s
    fun t => t.rd F.PAIR_STATUS_SW_RESULT = 1 ∧ t.rd F.PAIR_STATUS_ROLE = s.rd F.PAIR_STATUS_ROLE ∧ t.bit (evtStatus 0x38) 7 = true ∧ t.pair = s.pair) ∧
  (∀ (seq : BitVec 32) (target setPoint : Int) (stale : Bool) (s : State), s.rd F.PAIR_STATUS_ROLE = 2 → s.pair.rxSeq = [] → Gives (.mirrorSnapshot
    seq (.dispatch target setPoint stale)) s fun t => t.rdI F.DISP_TARGET_TARGET = satSigned 32 target ∧ t.rdI F.DISP_SETP_SETP = satSigned 32
    setPoint ∧ t.rd F.DISP_STATUS_STALE = (if stale then 1 else 0) ∧ t.pair.rxSeq = [(3, seq.toNat)]) ∧
  (∀ (seq : BitVec 32) (seqs : List Nat) (s : State), s.rd F.PAIR_STATUS_ROLE = 2 → s.pair.rxSeq = [] → Gives (.mirrorSnapshot seq (.almanac seqs)) s
    fun t => t.pair.almSeqs = seqs ∧ t.regs = s.regs) ∧
  (∀ (seq : BitVec 32) (m : Mirror) (s : State), s.rd F.PAIR_STATUS_ROLE ≠ 2 → Gives (.mirrorSnapshot seq m) s fun t => t = s) ∧
  (∀ (sec : BitVec 48) (ns : BitVec 32) (dev : Int) (s : State), s.rd F.PAIR_STATUS_ROLE = 2 → Gives (.phase0BoundaryMessage sec ns dev) s fun t =>
    t.rdI F.TIME_PAIRDIFF_DIFF = satSigned 32 (s.tb0 - (sec.toNat * 1000000000 + ns.toNat : Nat) + clampI dev (-20) 20) ∧ OnlyFields
    [F.TIME_PAIRDIFF_DIFF] s t) ∧
  (∀ (s : State), s.mode ≠ .transport → s.rd F.PAIR_STATUS_ROLE ≠ 2 → s.hasCond .islandTest = false → s.prot.islandPending.contains .islandTest =
    false → Gives (.islandSelfTest false) s fun t => t.prot.islandPending.contains .islandTest = true ∧ t.regs = s.regs) ∧
  (∀ (s : State), s.canStop = true → s.rd F.PAIR_STATUS_ROLE = 0 → s.hasCond .islandTest = false → s.prot.islandPending.contains .islandTest = true →
    Gives (.islandSelfTest false) s fun t => Stopping t ∧ t.hasCond .islandTest = true)

/-- Each clause under the conditions it writes: a start while the scan runs, below its watchdog, is skipped and counts; one of an idle task latches
  its network (where it holds no block of the types 0x50 and 0x51, with outputs and markers as they were) and makes it busy. A publish ends the scan
  with the new instances and variables and shows its duration. TASK_RESTART clears STOPPED of its tasks. PROG_DATA, not by the host, stages its word
  at ADDR and PROG_LIVE answers the word there, and ADDR moves on by 4. A valid IN frame of a station on a CAN channel counts and is its last good
  data, another counts as an error with its event; one over Ethernet goes through its ring, and without room counts nowhere else. RETAIN_INTERVAL
  writes the older slot, numbered one above both, or is noted as late while writes are held. A marker write and a changed input word show their
  value. Rests on the model's choices in the log entries 2, 47, 48, 49, 89 (notes/assumptions). -/
def Obligations.ScanTasks : Prop :=
  (∀ (n : Fin 4) (s : State), s.taskRuns n.val = true → (s.task n.val).busy = true → (s.task n.val).skips + 1 < (F.SCAN_TCFG_WD_N n.val).get (s.task
    n.val).tcfg → s.stage < 5 → Gives (.scanStart n) s fun t => (t.task n.val).skips = (s.task n.val).skips + 1 ∧ (t.task n.val).busy = true ∧ t.rd
    (F.SCAN_TCNT_OVERRUNS n.val) = satCount (F.SCAN_TCNT_OVERRUNS n.val).width (s.rd (F.SCAN_TCNT_OVERRUNS n.val) + 1) ∧ t.rd (F.SCAN_TCNT_SKIPPED
    n.val) = satCount (F.SCAN_TCNT_SKIPPED n.val).width (s.rd (F.SCAN_TCNT_SKIPPED n.val) + 1)) ∧
  (∀ (n : Fin 4) (s : State), s.taskRuns n.val = true → (s.task n.val).busy = false → ((sectOf (sectBytes s.nvm.program n.val)).blocks.all fun b =>
    b.typ != 0x50 && b.typ != 0x51) = true → Gives (.scanStart n) s fun t => (t.task n.val).busy = true ∧ (t.task n.val).startAt = s.mono ∧ (t.task
    n.val).skips = 0 ∧ (t.task n.val).sect = sectBytes s.nvm.program n.val ∧ t.scan.out = s.scan.out ∧ t.scan.markers = s.scan.markers) ∧
  (∀ (n : Fin 4) (s : State), (s.task n.val).busy = true → (s.task n.val).stopping = false → Gives (.scanPublish n) s fun t => (t.task n.val).busy =
    false ∧ (t.task n.val).inst = (s.task n.val).newInst ∧ (t.task n.val).vars = (s.task n.val).newVars ∧ t.rd (F.SCAN_TDUR_LAST_US n.val) = satCount
    32 ((s.mono - (s.task n.val).startAt) / 1000)) ∧
  (∀ (who : Initiator) (mask : BitVec 4) (s : State), s.barred who A.SCAN_CMD true = 0 → Gives (.taskRestart who mask) s fun t => ∀ k : Fin 4,
    mask.toNat.testBit k.val = true → t.bit F.SCAN_STATUS_STOPPED k.val = false) ∧
  (∀ (who : Initiator) (data : BitVec 32) (s : State), s.writeCode who A.SCAN_PROG_DATA data.toNat = 0 → who ≠ .host → Gives (.progData who data) s
    fun t => mget (0 : Word) t.scan.staged (s.rd F.SCAN_PROG_ADDR_ADDR / 4 * 4) = Word.ofNat data.toNat ∧ t.rd F.SCAN_PROG_ADDR_ADDR = (s.rd
    F.SCAN_PROG_ADDR_ADDR / 4 * 4 + 4) % 2 ^ 19) ∧
  (∀ (who : Initiator) (s : State), s.readCode who A.SCAN_PROG_LIVE = 0 → Gives (.progLive who) s fun t => t.readData = [Word.ofNat (leAt
    s.nvm.program (s.rd F.SCAN_PROG_ADDR_ADDR / 4 * 4) 4)] ∧ t.rd F.SCAN_PROG_ADDR_ADDR = (s.rd F.SCAN_PROG_ADDR_ADDR / 4 * 4 + 4) % 2 ^ 19 ∧
    OnlyFields [F.SCAN_PROG_ADDR_ADDR] s t) ∧
  (∀ (ch : Fin 4) (id : Nat) (frame : List Byte) (n : Nat) (s : State), s.mode ≠ .transport → s.stationAt (.can ch id) = some n → s.stationValid n
    frame = false → Gives (.stationInFrame (.can ch id) frame) s fun t => t.rd (F.STATION_SCNT_IN_ERR n) = satCount (F.STATION_SCNT_IN_ERR n).width
    (s.rd (F.STATION_SCNT_IN_ERR n) + 1) ∧ t.bit (evtStatus 0x42) 2 = true) ∧
  (∀ (ch : Fin 4) (id : Nat) (frame : List Byte) (n : Nat) (s : State), s.mode ≠ .transport → s.stationAt (.can ch id) = some n → s.stationValid n
    frame = true → Gives (.stationInFrame (.can ch id) frame) s fun t => t.rd (F.STATION_SCNT_IN_OK n) = satCount (F.STATION_SCNT_IN_OK n).width
    (s.rd (F.STATION_SCNT_IN_OK n) + 1) ∧ (mget {} t.scan.stations n).good = some ((frame.drop 16).take (s.rdStation n (F.STATION_SCFG_NIN n)) ++
    List.replicate (32 - s.rdStation n (F.STATION_SCFG_NIN n)) 0, s.mono)) ∧
  (∀ (port : Fin 2) (ip udp dst : Nat) (frame : List Byte) (n : Nat) (s : State), s.mode ≠ .transport → s.stationAt (.eth port ip udp dst) = some n →
    (s.push 109 frame true).2 = true → s.stationValid n frame = false → Gives (.stationInFrame (.eth port ip udp dst) frame) s fun t => t.rd
    (F.STATION_SCNT_IN_ERR n) = satCount (F.STATION_SCNT_IN_ERR n).width (s.rd (F.STATION_SCNT_IN_ERR n) + 1) ∧ t.bit (evtStatus 0x42) 2 = true ∧
    (t.ring 109).next = ((s.ring 109).next + 1) % 2 ^ 32) ∧
  (∀ (port : Fin 2) (ip udp dst : Nat) (frame : List Byte) (n : Nat) (s : State), s.mode ≠ .transport → s.stationAt (.eth port ip udp dst) = some n →
    (s.push 109 frame true).2 = false → Gives (.stationInFrame (.eth port ip udp dst) frame) s fun t => t.rd (F.STATION_SCNT_IN_ERR n) = s.rd
    (F.STATION_SCNT_IN_ERR n) ∧ t.rd (F.STATION_SCNT_IN_OK n) = s.rd (F.STATION_SCNT_IN_OK n) ∧ t.rd (F.QUEUE_DROP_DROPPED 13) = satCount
    (F.QUEUE_DROP_DROPPED 13).width (s.rd (F.QUEUE_DROP_DROPPED 13) + 1) ∧ t.scan = s.scan) ∧
  (∀ (s : State), s.mode ≠ .transport → s.journalHeld = false → Gives .retainInterval s fun t => (mget (0, []) t.nvm.retain (if (mget (0, [])
    s.nvm.retain 0).1 ≤ (mget (0, []) s.nvm.retain 1).1 then 0 else 1)) = (max (mget (0, []) s.nvm.retain 0).1 (mget (0, []) s.nvm.retain 1).1 + 1,
    s.retainBytes)) ∧
  (∀ (s : State), s.mode ≠ .transport → s.journalHeld = true → Gives .retainInterval s fun t => t.scan = { s.scan with retainLate := true } ∧ t.nvm =
    s.nvm) ∧
  (∀ (who : Initiator) (k : Fin 256) (v : BitVec 32) (s : State), s.barred who (A.IMAGE_M k.val) true = 0 → Gives (.markerWrite who k v) s fun t =>
    t.rd (F.IMAGE_M_M k.val) = v.toNat ∧ OnlyFields [F.IMAGE_M_M k.val] s t) ∧
  (∀ (di : BitVec 16) (s : State), s.mode ≠ .transport → s.rd F.IMAGE_DI_DI ≠ di.toNat → Gives (.diChange di) s fun t => t.rd F.IMAGE_DI_DI =
    di.toNat ∧ t.bit (evtStatus 0x41) 0 = true)

/-- Each clause under the conditions it writes: an item that completes with its current epoch leaves the items and counts for its engine, a stale one
  counts as stale. A timeout whose engine then passes its test counts as timeout and test and leaves the engine in service. A rate interval shows the
  engines in service. A passed self-test of an engine other than 63 counts; one that fails twice takes the engine out of service with its last
  failure; a retest passed returns it to service, a failed one changes nothing. A corrected ECC error counts at its place; a lasting one in an
  engine's SRAM takes the engine out of service; a further uncorrectable one in CROWN's, of a solo unit that can stop with no item running, has a
  stop under way. A session that selects a ring stands at its oldest or next entry; its offset is its own; a pop moves it to the entry after and its
  offset to 0. Rests on the model's choices in the log entries 2, 50, 51 (notes/assumptions). -/
def Obligations.BranchEngines : Prop :=
  (∀ (e : Fin 64) (x : Nat × (Nat × Nat)) (s : State), (s.eng.run.find? (·.1 == e.val)) = some x → (s.eng.items.any fun i => i.id == x.2.1 && i.epoch
    == x.2.2) = true → Gives (.workItemComplete e) s fun t => t.eng.items.any (·.id == x.2.1) = false ∧ t.rd (F.BOUGH_ENG_4_ITEMS (e.val / 8) (e.val
    % 8)) = satCount (F.BOUGH_ENG_4_ITEMS (e.val / 8) (e.val % 8)).width (s.rd (F.BOUGH_ENG_4_ITEMS (e.val / 8) (e.val % 8)) + 1)) ∧
  (∀ (e : Fin 64) (x : Nat × (Nat × Nat)) (s : State), (s.eng.run.find? (·.1 == e.val)) = some x → (s.eng.items.any fun i => i.id == x.2.1 && i.epoch
    == x.2.2) = false → Gives (.workItemComplete e) s fun t => t.rd F.SCHED_STALE_COUNT = satCount F.SCHED_STALE_COUNT.width (s.rd
    F.SCHED_STALE_COUNT + 1) ∧ t.bit (evtStatus 0x10) 2 = true) ∧
  (∀ (e : Fin 64) (x : Nat × (Nat × Nat)) (s : State), (s.eng.run.find? (·.1 == e.val)) = some x → (s.eng.items.any fun i => i.id == x.2.1 && i.epoch
    == x.2.2) = true → Gives (.itemTimeout e 0 0) s fun t => t.rd F.SCHED_TMO_ITEM_TMO = satCount F.SCHED_TMO_ITEM_TMO.width (s.rd
    F.SCHED_TMO_ITEM_TMO + 1) ∧ t.rd (F.BOUGH_ENG_8_TIMEOUTS (e.val / 8) (e.val % 8)) = satCount (F.BOUGH_ENG_8_TIMEOUTS (e.val / 8) (e.val %
    8)).width (s.rd (F.BOUGH_ENG_8_TIMEOUTS (e.val / 8) (e.val % 8)) + 1) ∧ t.rd (F.BOUGH_ENG_C_TESTS (e.val / 8) (e.val % 8)) = satCount
    (F.BOUGH_ENG_C_TESTS (e.val / 8) (e.val % 8)).width (s.rd (F.BOUGH_ENG_C_TESTS (e.val / 8) (e.val % 8)) + 1) ∧ t.inService e.val = s.inService
    e.val ∧ t.bit (evtStatus 0x10) 1 = true) ∧
  (∀ (rates : List (Nat × Nat × Nat)) (s : State), Gives (.rateInterval rates) s fun t => t.rd F.SCHED_STATUS_IN_SERVICE = min s.serving.length 127 ∧
    t.serving = s.serving) ∧
  (∀ (e : Fin 64) (s : State), e.val ≠ 63 → s.inService e.val = true → Gives (.testRound e 0 0) s fun t => t.rd (F.BOUGH_ENG_C_TESTS (e.val / 8)
    (e.val % 8)) = satCount (F.BOUGH_ENG_C_TESTS (e.val / 8) (e.val % 8)).width (s.rd (F.BOUGH_ENG_C_TESTS (e.val / 8) (e.val % 8)) + 1) ∧ OnlyFields
    [F.BOUGH_ENG_C_TESTS (e.val / 8) (e.val % 8)] s t) ∧
  (∀ (e : Fin 64) (first second : Fin 6) (s : State), s.inService e.val = true → first.val ≠ 0 → second.val ≠ 0 → Gives (.testRound e first second) s
    fun t => t.inService e.val = false ∧ t.rd (F.BOUGH_ENG_C_LAST_FAIL (e.val / 8) (e.val % 8)) = second.val ∧ t.rd (F.BOUGH_ENG_C_RETIRES (e.val /
    8) (e.val % 8)) = satCount (F.BOUGH_ENG_C_RETIRES (e.val / 8) (e.val % 8)).width (s.rd (F.BOUGH_ENG_C_RETIRES (e.val / 8) (e.val % 8)) + 1)) ∧
  (∀ (e : Fin 64) (s : State), s.engState e.val = 2 → Gives (.rejoinRetest e true) s fun t => t.inService e.val = true ∧ t.engState e.val = 0 ∧ t.bit
    (evtStatus (8 + e.val / 8)) 3 = true ∧ t.rd (F.BOUGH_ENG_C_TESTS (e.val / 8) (e.val % 8)) = satCount (F.BOUGH_ENG_C_TESTS (e.val / 8) (e.val %
    8)).width (s.rd (F.BOUGH_ENG_C_TESTS (e.val / 8) (e.val % 8)) + 1)) ∧
  (∀ (e : Fin 64) (s : State), Gives (.rejoinRetest e false) s fun t => t = s) ∧
  (∀ (e : Fin 64) (addr : BitVec 32) (s : State), Gives (.eccError 2 e addr 0) s fun t => t.rd F.SCHED_CROWN_ECC_CE = satCount
    F.SCHED_CROWN_ECC_CE.width (s.rd F.SCHED_CROWN_ECC_CE + 1) ∧ OnlyFields [F.SCHED_CROWN_ECC_CE] s t) ∧
  (∀ (place : Fin 3) (e : Fin 64) (addr : BitVec 32) (s : State), place.val ≠ 2 → Gives (.eccError place e addr 0) s fun t => t.rd (F.BOUGH_ECC_CE
    (e.val / 8)) = satCount (F.BOUGH_ECC_CE (e.val / 8)).width (s.rd (F.BOUGH_ECC_CE (e.val / 8)) + 1) ∧ t.bit (evtStatus (8 + e.val / 8)) 4 = true) ∧
  (∀ (e : Fin 64) (addr : BitVec 32) (s : State), s.inService e.val = true → Gives (.eccError 0 e addr 2) s fun t => t.inService e.val = false ∧
    t.bit (F.BOUGH_STATUS_PERMANENT (e.val / 8)) (e.val % 8) = true ∧ t.engState e.val = 3) ∧
  (∀ (e : Fin 64) (addr : BitVec 32) (s : State), s.canStop = true → s.rd F.PAIR_STATUS_ROLE = 0 → s.eng.run = [] → 1 ≤ s.rd F.SCHED_CROWN_ECC_UE →
    Gives (.eccError 2 e addr 2) s fun t => Stopping t ∧ t.rd F.SCHED_CROWN_ECC_UE = satCount F.SCHED_CROWN_ECC_UE.width (s.rd F.SCHED_CROWN_ECC_UE +
    1)) ∧
  (∀ (who : Initiator) (ring : Fin 32) (s : State), s.barred who A.QREAD_RSEL true = 0 → Gives (.rselWrite who ring) s fun t => t.rd
    (F.QREAD_RSEL_RING.bank who.id) = ring.val ∧ t.eng.rings = s.eng.rings ∧ t.eng.cursor.find? (·.1 == who.id) = some (who.id, match (s.ring (96 +
    ring.val)).entries with | [] => (s.ring (96 + ring.val)).next | x :: _ => x.eseq)) ∧
  (∀ (who : Initiator) (ofs : BitVec 16) (s : State), s.barred who A.QREAD_ROFS true = 0 → who ≠ .host → Gives (.rofsWrite who ofs) s fun t => t.rd
    (F.QREAD_ROFS_OFS.bank who.id) = ofs.toNat ∧ OnlyFields [F.QREAD_ROFS_OFS.bank who.id] s t ∧ t.eng = s.eng) ∧
  (∀ (who : Initiator) (x : Entry) (s : State), s.barred who A.QREAD_RPOP true = 0 → s.atCursor who.id = some x → Gives (.rpopWrite who) s fun t =>
    t.rd (F.QREAD_ROFS_OFS.bank who.id) = 0 ∧ t.eng.cursor.find? (·.1 == who.id) = some (who.id, x.eseq + 1))

/-- Each clause under the conditions it writes: a clock window shows the locks and the frequency of each running domain; with no check pending, no
  domain failed and the cross-check in order no domain newly fails and the mode and conditions stay; a second zero count of CD11 marks it as failed
  with its event, with no condition; one of CD4, in a solo unit that can stop, has a stop under way. A write of XSTAT clears it alone. SET puts its
  registers into TB0, TB1 or TB2, TB0 for a secure session, and not into TB0 or TB1 while PTP governs it; SHIFT adds its signed nanoseconds so; each
  counts a step; for TB3, or TB1 under PTP, SET is refused and the time bases stay. SNAP shows all four time bases; a read of NS answers it and
  latches the rest; the rate of TB2 is kept within 500 ppm. Rests on the model's choices in the log entries 2, 52, 53 (notes/assumptions). -/
def Obligations.ClocksAndTimeBases : Prop :=
  (∀ (hz : List Nat) (locked : Fin 8) (s : State), Gives (.clockMonitorWindow hz locked) s fun t => t.rd F.CLOCK_STATUS_LOCK = locked.val ∧ ∀ d : Fin
    14, s.clockRuns d.val = true → t.rd (F.CLOCK_FREQ_HZ d.val) = hz.getD d.val 0 % 2 ^ 32) ∧
  (∀ (hz : List Nat) (locked : Fin 8) (s : State), s.time.clkPend = 0 → s.rd F.CLOCK_MONFAIL_DOMAINS = 0 → hz.getD 7 0 = 250000000 → s.hasCond
    .clockCross = false → s.prot.islandPending.contains .clockCross = false → Gives (.clockMonitorWindow hz locked) s fun t => t.rd
    F.CLOCK_MONFAIL_DOMAINS = s.rd F.CLOCK_MONFAIL_DOMAINS ∧ t.mode = s.mode ∧ t.prot = s.prot) ∧
  (∀ (hz : List Nat) (locked : Fin 8) (s : State), s.time.clkPend = 2 ^ 11 → s.clockRuns 11 = true → s.rd F.CLOCK_MONFAIL_DOMAINS = 0 → hz.getD 7 0 =
    250000000 → s.hasCond .clockCross = false → s.prot.islandPending.contains .clockCross = false → s.rd F.CLOCK_CFG_MON_PCT < 100 → hz.getD 11 0 = 0
    → Gives (.clockMonitorWindow hz locked) s fun t => t.bit F.CLOCK_MONFAIL_DOMAINS 11 = true ∧ t.bit (evtStatus 0x04) 1 = true ∧ t.prot = s.prot) ∧
  (∀ (hz : List Nat) (locked : Fin 8) (s : State), s.time.clkPend = 2 ^ 4 → s.clockRuns 4 = true → s.bit F.CLOCK_MONFAIL_DOMAINS 4 = false → s.rd
    F.CLOCK_CFG_MON_PCT < 100 → hz.getD 4 0 = 0 → s.canStop = true → s.rd F.PAIR_STATUS_ROLE = 0 → Gives (.clockMonitorWindow hz locked) s fun t =>
    t.bit F.CLOCK_MONFAIL_DOMAINS 4 = true ∧ Stopping t) ∧
  (∀ (who : Initiator) (s : State), s.barred who A.CLOCK_XSTAT true = 0 → who ≠ .host → Gives (.xstatClear who) s fun t => t.rd F.CLOCK_XSTAT_MERGED
    = 0 ∧ t.rd F.CLOCK_XSTAT_WAKES = 0 ∧ OnlyFields [F.CLOCK_XSTAT_MERGED, F.CLOCK_XSTAT_WAKES] s t) ∧
  (∀ (who : Initiator) (n : Fin 4) (s : State), s.barred who (A.TIME_CMD n.val) true = 0 → n.val ≠ 3 → n.val = 0 → s.secureOf who = true → n.val < 2
    → s.on (F.PTP_CFG_EN n.val) = false → Gives (.setCmd who n) s fun t => t.timeBase n.val = TimeBase.ofTotal ((((s.rd (F.TIME_SETSL_SET_SLO n.val)
    + 2 ^ 32 * s.rd (F.TIME_SETSH_SET_SHI n.val)) * 1000000000 + s.rd (F.TIME_SETNS_SET_NS n.val)) * 2 ^ 48 : Nat)) ∧ t.rd (F.TIME_CMD_REFUSED n.val)
    = 0 ∧ t.rd (F.TIME_CMD_SYNCED n.val) = 1 ∧ t.rd (F.TIME_CMD_STEPS n.val) = satCount (F.TIME_CMD_STEPS n.val).width (s.rd (F.TIME_CMD_STEPS n.val)
    + 1) ∧ t.bit (evtStatus 0x48) n.val = true) ∧
  (∀ (who : Initiator) (n : Fin 4) (s : State), s.barred who (A.TIME_CMD n.val) true = 0 → (n.val = 3 ∨ n.val = 1 ∧ s.on (F.PTP_CFG_EN 1) = true) →
    Gives (.setCmd who n) s fun t => t.rd (F.TIME_CMD_REFUSED n.val) = 1 ∧ t.tb = s.tb) ∧
  (∀ (who : Initiator) (n : Fin 4) (s : State), s.barred who (A.TIME_CMD n.val) true = 0 → n.val ≠ 3 → n.val = 0 → s.secureOf who = true → n.val < 2
    → s.on (F.PTP_CFG_EN n.val) = false → Gives (.shiftCmd who n) s fun t => t.timeBase n.val = TimeBase.ofTotal ((s.timeBase n.val).total + s.rdI
    (F.TIME_SETNS_SET_NS n.val) * 2 ^ 48) ∧ t.rd (F.TIME_CMD_REFUSED n.val) = 0 ∧ t.rd (F.TIME_CMD_STEPS n.val) = satCount (F.TIME_CMD_STEPS
    n.val).width (s.rd (F.TIME_CMD_STEPS n.val) + 1)) ∧
  (∀ (who : Initiator) (s : State), s.barred who A.TIME_CMD_SNAP true = 0 → Gives (.snapCmd who) s fun t => ∀ n : Fin 4, t.rd (F.TIME_SNAP_NS_NS
    n.val) = (s.timeBase n.val).ns % 2 ^ 32 ∧ t.rd (F.TIME_SNAP_SEC_LO_SEC_LO n.val) = (s.timeBase n.val).sec % 2 ^ 32 ∧ t.rd (F.TIME_SNAP_HI_SEC_HI
    n.val) = (s.timeBase n.val).sec / 2 ^ 32 % 2 ^ 16 ∧ t.rd (F.TIME_SNAP_HI_FRAC n.val) = (s.timeBase n.val).frac16 % 2 ^ 16) ∧
  (∀ (who : Initiator) (n : Fin 4) (s : State), s.barred who (A.TIME_NS n.val) false = 0 → Gives (.nsRead who n) s fun t => t.readData = [Word.ofNat
    (s.timeBase n.val).ns] ∧ t.rd (F.TIME_SLO_SEC_LO n.val) = (s.timeBase n.val).sec % 2 ^ 32 ∧ t.rd (F.TIME_SHI_SEC_HI n.val) = (s.timeBase
    n.val).sec / 2 ^ 32 % 2 ^ 16 ∧ t.rd (F.TIME_SHI_FRAC n.val) = (s.timeBase n.val).frac16 % 2 ^ 16 ∧ t.tb = s.tb) ∧
  (∀ (who : Initiator) (rate : BitVec 32) (s : State), s.barred who (A.TIME_RATE 2) true = 0 → who ≠ .host → Gives (.tb2RateWrite who rate) s fun t
    => t.rdI (F.TIME_RATE_RATE 2) = clampI rate.toInt (-2048000000) 2048000000 ∧ OnlyFields [F.TIME_RATE_RATE 2] s t)

/-- Each clause under the conditions it writes: ARM of an idle periodic trigger within the limits shows ARMED and stands at the first edge to come; a
  width below 8 ns is refused with WRERR; a single pulse whose time has passed shows PAST with its event and stays idle. DISARM between pulses ends a
  train with its event, and in a pulse lets it end. A leading edge of an armed trigger raises its output state and counts where the trigger drives; a
  trailing edge ends a single pulse, or an ending train, with its event, and else only lowers it. A capture edge that is selected and outlasts the
  deglitch is queued with its stamp, FILL, count and event, or with a full queue dropped, counted and shown by OVF; one too short changes nothing.
  POP removes the head. Rests on the model's choices in the log entries 2, 57 (notes/assumptions). -/
def Obligations.TriggersAndCaptures : Prop :=
  (∀ (who : Initiator) (k : Fin 8) (s : State), s.barred who (A.TRIG_TCTL k.val) true = 0 → s.armed k.val = false → s.on (F.TRIG_TCFG_PERIODIC k.val)
    = true → 1000 ≤ s.rd (F.TRIG_TPER_PERIOD_NS k.val) → 8 ≤ s.rd (F.TRIG_TWID_WIDTH_NS k.val) → s.rd (F.TRIG_TWID_WIDTH_NS k.val) + 8 ≤ s.rd
    (F.TRIG_TPER_PERIOD_NS k.val) → Gives (.armTrigger who k) s fun t => t.rd (F.TRIG_TCTL_STAT k.val) = 1 ∧ t.rd (F.TRIG_TCTL_ARM k.val) = 1 ∧
    t.trig k.val = { j := s.edgesBy k.val 0 (s.timeBase (s.rd (F.TRIG_TCFG_TB k.val))).nanos }) ∧
  (∀ (who : Initiator) (k : Fin 8) (s : State), s.barred who (A.TRIG_TCTL k.val) true = 0 → s.armed k.val = false → s.rd (F.TRIG_TWID_WIDTH_NS k.val)
    < 8 → Gives (.armTrigger who k) s fun t => t.bit (F.TRIG_TCTL_STAT k.val) 3 = true ∧ t.armed k.val = false ∧ t.time = s.time) ∧
  (∀ (who : Initiator) (k : Fin 8) (s : State), s.barred who (A.TRIG_TCTL k.val) true = 0 → s.armed k.val = false → s.on (F.TRIG_TCFG_PERIODIC k.val)
    = false → 8 ≤ s.rd (F.TRIG_TWID_WIDTH_NS k.val) → s.trigStart k.val ≤ (s.timeBase (s.rd (F.TRIG_TCFG_TB k.val))).nanos → Gives (.armTrigger who
    k) s fun t => t.rd (F.TRIG_TCTL_STAT k.val) = 4 ∧ t.bit (evtStatus 0x4A) (24 + k.val) = true) ∧
  (∀ (who : Initiator) (k : Fin 8) (s : State), s.barred who (A.TRIG_TCTL k.val) true = 0 → s.armed k.val = true → s.on (F.TRIG_TCFG_PERIODIC k.val)
    = true → (s.trig k.val).high = false → Gives (.disarmTrigger who k) s fun t => t.armed k.val = false ∧ t.trig k.val = {} ∧ t.bit (evtStatus 0x4A)
    k.val = true) ∧
  (∀ (who : Initiator) (k : Fin 8) (s : State), s.barred who (A.TRIG_TCTL k.val) true = 0 → s.armed k.val = true → s.on (F.TRIG_TCFG_PERIODIC k.val)
    = true → (s.trig k.val).high = true → Gives (.disarmTrigger who k) s fun t => t.trig k.val = { s.trig k.val with ending := true } ∧ t.armed k.val
    = true) ∧
  (∀ (k : Fin 8) (s : State), s.armed k.val = true → (s.trig k.val).high = false → (s.trig k.val).ending = false → (s.on (F.TRIG_TCFG_PERIODIC k.val)
    = true ∨ (s.trig k.val).j = 0) → Gives (.leadingEdge k) s fun t => t.trig k.val = { s.trig k.val with j := (s.trig k.val).j + 1, high := true } ∧
    t.rd (F.TRIG_TCNT_EDGES k.val) = (if s.trigDrives k.val then satCount (F.TRIG_TCNT_EDGES k.val).width (s.rd (F.TRIG_TCNT_EDGES k.val) + 1) else
    s.rd (F.TRIG_TCNT_EDGES k.val)) ∧ OnlyFields [F.TRIG_TCNT_EDGES k.val] s t) ∧
  (∀ (k : Fin 8) (s : State), s.armed k.val = true → (s.trig k.val).high = true → (s.on (F.TRIG_TCFG_PERIODIC k.val) = false ∨ (s.trig k.val).ending
    = true) → Gives (.trailingEdge k) s fun t => t.armed k.val = false ∧ t.trig k.val = {} ∧ t.bit (evtStatus 0x4A) k.val = true) ∧
  (∀ (k : Fin 8) (s : State), s.armed k.val = true → (s.trig k.val).high = true → s.on (F.TRIG_TCFG_PERIODIC k.val) = true → (s.trig k.val).ending =
    false → Gives (.trailingEdge k) s fun t => t.trig k.val = { s.trig k.val with high := false } ∧ t.regs = s.regs) ∧
  (∀ (k : Fin 8) (held : Nat) (dev : Int) (s : State), (s.rd (F.TRIG_CCFG_EDGE k.val)).testBit 0 = true → 4 * s.rd (F.TRIG_CCFG_DEGLITCH k.val) ≤
    held → (s.stamps k.val).length < 8 → Gives (.captureEdge k true held dev) s fun t => t.stamps k.val = s.stamps k.val ++ [(true, TimeBase.ofTotal
    ((s.timeBase (s.rd (F.TRIG_CCFG_TB k.val))).total + clampI dev (-5) 5 * 2 ^ 48))] ∧ t.rd (F.TRIG_CSTAT_FILL k.val) = (s.stamps k.val).length + 1
    ∧ t.rd (F.TRIG_CCNT_CAPTURED k.val) = satCount (F.TRIG_CCNT_CAPTURED k.val).width (s.rd (F.TRIG_CCNT_CAPTURED k.val) + 1) ∧ t.bit (evtStatus
    0x4A) (8 + k.val) = true) ∧
  (∀ (k : Fin 8) (held : Nat) (dev : Int) (s : State), (s.rd (F.TRIG_CCFG_EDGE k.val)).testBit 1 = true → 4 * s.rd (F.TRIG_CCFG_DEGLITCH k.val) ≤
    held → 8 ≤ (s.stamps k.val).length → Gives (.captureEdge k false held dev) s fun t => t.time = s.time ∧ t.rd (F.TRIG_CSTAT_OVF k.val) = 1 ∧ t.rd
    (F.TRIG_CCNT_DROPPED k.val) = satCount (F.TRIG_CCNT_DROPPED k.val).width (s.rd (F.TRIG_CCNT_DROPPED k.val) + 1) ∧ t.bit (evtStatus 0x4A) (16 +
    k.val) = true) ∧
  (∀ (k : Fin 8) (held : Nat) (rise : Bool) (dev : Int) (s : State), held < 4 * s.rd (F.TRIG_CCFG_DEGLITCH k.val) → Gives (.captureEdge k rise held
    dev) s fun t => t = s) ∧
  (∀ (who : Initiator) (k : Fin 8) (s : State), s.barred who (A.TRIG_CSTAT k.val) true = 0 → Gives (.popCapture who k) s fun t => t.stamps k.val =
    (s.stamps k.val).tail ∧ t.rd (F.TRIG_CSTAT_FILL k.val) = (s.stamps k.val).tail.length % 16)

/-- Each clause under the conditions it writes: for a message that one instance takes and the other does not, from its master: a two-step Sync is
  kept; a first one-step Sync while acquiring begins the acquisition and counts; a Follow_Up of the kept Sync is taken, and with a delay known and no
  outlier shows the offset the clause computes and counts. A Delay_Resp to the own request that completes an exchange gives, as the first, the delay
  computed, shown in MPD; a negative one is discarded; one whose time base stepped in between is abandoned and counts. A Pdelay_Req on layer 2 is
  kept and answered; a two-step Pdelay_Resp is kept, and its Follow_Up gives, as the first, the delay computed. Rests on the model's choices in the
  log entries 2, 54, 55 (notes/assumptions). -/
def Obligations.PtpExchanges : Prop :=
  (∀ (port : Fin 2) (l2 : Bool) (dev : Int) (m : List Byte) (i : Nat) (s : State), i < 2 → s.ptpTakes i port.val l2 0 44 m = true → s.ptpTakes (1 -
    i) port.val l2 0 44 m = false → (s.ptp i).master = some (ptpSrc m) → -7 ≤ ptpLog m → ptpLog m ≤ 1 → (beAt m 6 1).testBit 1 = true → Gives
    (.syncMsg port l2 dev m) s fun t => t.ptp i = { s.ptp i with sync := some (ptpSeq m, s.stampAt i dev, ptpCorr m) } ∧ t.regs = s.regs) ∧
  (∀ (port : Fin 2) (l2 : Bool) (dev : Int) (m : List Byte) (i : Nat) (s : State), i < 2 → s.ptpTakes i port.val l2 0 44 m = true → s.ptpTakes (1 -
    i) port.val l2 0 44 m = false → (s.ptp i).master = some (ptpSrc m) → -7 ≤ ptpLog m → ptpLog m ≤ 1 → (beAt m 6 1).testBit 1 = false → s.servo i =
    1 → (s.ptp i).acquired = false → (s.ptp i).acq = none → Gives (.syncMsg port l2 dev m) s fun t => (t.ptp i).acq = some (ptpTime m 34, s.stampAt i
    dev, s.stepsOf i) ∧ (t.ptp i).last = some (ptpTime m 34, s.stampAt i dev, ptpCorr m, s.stepsOf i) ∧ t.rd (F.PTP_CNT_SYNC_RX i) = satCount
    (F.PTP_CNT_SYNC_RX i).width (s.rd (F.PTP_CNT_SYNC_RX i) + 1)) ∧
  (∀ (port : Fin 2) (l2 : Bool) (m : List Byte) (i : Nat) (q : Nat × Int × Int) (s : State), i < 2 → s.ptpTakes i port.val l2 8 44 m = true →
    s.ptpTakes (1 - i) port.val l2 8 44 m = false → (s.ptp i).master = some (ptpSrc m) → (s.ptp i).sync = some q → q.1 = ptpSeq m → s.servo i = 0 →
    Gives (.followUp port l2 m) s fun t => t.ptp i =
    { s.ptp i with sync := none, last := some (ptpTime m 34, q.2.1, q.2.2 + ptpCorr m, s.stepsOf i) } ∧ t.regs = s.regs) ∧
  (∀ (port : Fin 2) (l2 : Bool) (m : List Byte) (i : Nat) (q : Nat × Int × Int) (d : Int) (s : State), i < 2 → s.ptpTakes i port.val l2 8 44 m = true
    → s.ptpTakes (1 - i) port.val l2 8 44 m = false → (s.ptp i).master = some (ptpSrc m) → (s.ptp i).sync = some q → q.1 = ptpSeq m → s.servo i = 1 →
    (s.ptp i).acquired = true → (s.ptp i).outlier = false → (s.ptp i).delay = some d → Gives (.followUp port l2 m) s fun t => t.rdI
    (F.PTP_OFFS_OFFSET i) = satSigned 32 (roundAway (q.2.1 - ptpTime m 34 - (q.2.2 + ptpCorr m) - d - s.rdI (F.PTP_OUT_ASYM_NS i) * 65536) 65536) ∧
    t.rd (F.PTP_CNT_SYNC_RX i) = satCount (F.PTP_CNT_SYNC_RX i).width (s.rd (F.PTP_CNT_SYNC_RX i) + 1)) ∧
  (∀ (port : Fin 2) (l2 : Bool) (m : List Byte) (i : Nat) (a : Int × Nat) (b : Int × Int × Int × Nat) (s : State), i < 2 → s.ptpTakes i port.val l2 9
    54 m = true → s.ptpTakes (1 - i) port.val l2 9 54 m = false → (s.ptp i).master = some (ptpSrc m) → (s.ptp i).req = some (ptpSeq m) → beAt m 44 10
    = ownPort port.val → (s.ptp i).gone = some a → (s.ptp i).last = some b → b.2.2.2 = a.2 → (s.ptp i).delay = none → (s.ptp i).due = false → 0 ≤
    roundAway ((b.2.1 - b.1 - b.2.2.1) + (ptpTime m 34 - a.1 - ptpCorr m)) 2 → Gives (.delayResp port l2 m) s fun t => (t.ptp i).delay = some
    (roundAway ((b.2.1 - b.1 - b.2.2.1) + (ptpTime m 34 - a.1 - ptpCorr m)) 2) ∧ t.rd (F.PTP_MPD_DELAY i) = satUnsigned 32 (roundAway (roundAway
    ((b.2.1 - b.1 - b.2.2.1) + (ptpTime m 34 - a.1 - ptpCorr m)) 2) 65536) ∧ (t.ptp i).req = none ∧ (t.ptp i).gone = none) ∧
  (∀ (port : Fin 2) (l2 : Bool) (m : List Byte) (i : Nat) (a : Int × Nat) (b : Int × Int × Int × Nat) (s : State), i < 2 → s.ptpTakes i port.val l2 9
    54 m = true → s.ptpTakes (1 - i) port.val l2 9 54 m = false → (s.ptp i).master = some (ptpSrc m) → (s.ptp i).req = some (ptpSeq m) → beAt m 44 10
    = ownPort port.val → (s.ptp i).gone = some a → (s.ptp i).last = some b → b.2.2.2 = a.2 → roundAway ((b.2.1 - b.1 - b.2.2.1) + (ptpTime m 34 - a.1
    - ptpCorr m)) 2 < 0 → Gives (.delayResp port l2 m) s fun t => t.ptp i = { s.ptp i with req := none, gone := none, resp := none } ∧ t.regs =
    s.regs) ∧
  (∀ (port : Fin 2) (l2 : Bool) (m : List Byte) (i : Nat) (a : Int × Nat) (b : Int × Int × Int × Nat) (s : State), i < 2 → s.ptpTakes i port.val l2 9
    54 m = true → s.ptpTakes (1 - i) port.val l2 9 54 m = false → (s.ptp i).master = some (ptpSrc m) → (s.ptp i).req = some (ptpSeq m) → beAt m 44 10
    = ownPort port.val → (s.ptp i).gone = some a → (s.ptp i).last = some b → b.2.2.2 ≠ a.2 → Gives (.delayResp port l2 m) s fun t => (t.ptp i).delay
    = (s.ptp i).delay ∧ (t.ptp i).req = none ∧ t.rd (F.PTP_CNT2_ABANDONED i) = satCount (F.PTP_CNT2_ABANDONED i).width (s.rd (F.PTP_CNT2_ABANDONED i)
    + 1) ∧ OnlyFields [F.PTP_CNT2_ABANDONED i] s t) ∧
  (∀ (port : Fin 2) (dev : Int) (m : List Byte) (i : Nat) (s : State), i < 2 → s.ptpTakes i port.val true 2 54 m = true → s.ptpTakes (1 - i) port.val
    true 2 54 m = false → Gives (.pdelayReq port true dev m) s fun t => t.ptp i =
    { s.ptp i with answer := some (ptpSeq m, ptpSrc m, s.stampAt i dev, ptpCorr m) } ∧ t.out = s.out ++ [.ptp port.val true (ptpMessage 3 (s.rd
    (F.PTP_CFG_DOMAIN i)) 2 0 (ownPort port.val) (ptpSeq m) (stampBytes (s.stampAt i dev) ++ be 10 (ptpSrc m)))] ∧ t.regs = s.regs) ∧
  (∀ (port : Fin 2) (l2 : Bool) (dev : Int) (m : List Byte) (i : Nat) (s : State), i < 2 → s.ptpTakes i port.val l2 3 54 m = true → s.ptpTakes (1 -
    i) port.val l2 3 54 m = false → (s.ptp i).req = some (ptpSeq m) → beAt m 44 10 = ownPort port.val → (beAt m 6 1).testBit 1 = true → Gives
    (.pdelayResp port l2 dev m) s fun t => t.ptp i = { s.ptp i with presp := some (s.stampAt i dev, s.stepsOf i, ptpTime m 34, ptpCorr m) } ∧ t.regs
    = s.regs) ∧
  (∀ (port : Fin 2) (l2 : Bool) (m : List Byte) (i : Nat) (x : Int × Nat × Int × Int) (a : Int × Nat) (s : State), i < 2 → s.ptpTakes i port.val l2
    10 54 m = true → s.ptpTakes (1 - i) port.val l2 10 54 m = false → (s.ptp i).req = some (ptpSeq m) → beAt m 44 10 = ownPort port.val → (s.ptp
    i).presp = some x → (s.ptp i).gone = some a → a.2 = x.2.1 → (s.ptp i).delay = none → (s.ptp i).due = false → 0 ≤ roundAway (x.1 - a.1 - (ptpTime
    m 34 - x.2.2.1) - (x.2.2.2 + ptpCorr m)) 2 → Gives (.pdelayRespFollowUp port l2 m) s fun t => (t.ptp i).delay = some (roundAway (x.1 - a.1 -
    (ptpTime m 34 - x.2.2.1) - (x.2.2.2 + ptpCorr m)) 2) ∧ (t.ptp i).presp = none ∧ t.rd (F.PTP_MPD_DELAY i) = satUnsigned 32 (roundAway (roundAway
    (x.1 - a.1 - (ptpTime m 34 - x.2.2.1) - (x.2.2.2 + ptpCorr m)) 2) 65536))

/-- Each clause under the conditions it writes: for an Announce that one instance takes and the other does not, acceptable and not its own: the first
  one of a clock is noted, and one that qualifies the only known clock makes it the master, with the servo acquiring, the port state and the
  grandmaster shown. The delay request interval of an enabled instance whose port is up sends a request with the next SEQ. The Announce receipt
  timeout of an enabled instance leaves no master, port state 4 and a synchronised servo in holdover; the loss of Sync takes such a servo to holdover
  and the master stays. On a port that is up a transmit timestamp of the request outstanding is taken and not queued; one without is queued, or with
  a full queue dropped and counted; a stale entry at the head is removed and counted. Rests on the model's choices in the log entries 2, 54, 55
  (notes/assumptions). -/
def Obligations.PtpCourse : Prop :=
  (∀ (port : Fin 2) (l2 : Bool) (m : List Byte) (i : Nat) (s : State), i < 2 → s.ptpTakes i port.val l2 11 64 m = true → s.ptpTakes (1 - i) port.val
    l2 11 64 m = false → beAt m 61 2 < 255 → ptpSrc m ≠ ownPort (s.rd (F.PTP_CFG_PORT i)) → s.acceptable i (ptpSrc m) = true → (s.ptp i).foreign = []
    → Gives (.announceMsg port l2 m) s fun t => t.ptp i = { s.ptp i with foreign := [foreignOf m s.mono none] } ∧ t.regs = s.regs) ∧
  (∀ (port : Fin 2) (l2 : Bool) (m : List Byte) (i : Nat) (f : Foreign) (s : State), i < 2 → s.ptpTakes i port.val l2 11 64 m = true → s.ptpTakes (1
    - i) port.val l2 11 64 m = false → beAt m 61 2 < 255 → ptpSrc m ≠ ownPort (s.rd (F.PTP_CFG_PORT i)) → s.acceptable i (ptpSrc m) = true → (s.ptp
    i).foreign = [f] → f.src = ptpSrc m → (foreignOf m s.mono (some f.last)).qualified = true → s.servo i = 0 → Gives (.announceMsg port l2 m) s fun
    t => (t.ptp i).master = some (ptpSrc m) ∧ t.servo i = 1 ∧ t.rd (F.PTP_STATE_PORT_STATE i) = 8 ∧ t.rd (F.PTP_GM_LO_GM_LO i) = beAt m 53 8 % 2 ^ 32
    ∧ t.rd (F.PTP_STATE_UTC_OFFSET i) = beAt m 44 2) ∧
  (∀ (i : Fin 2) (s : State), s.on (F.PTP_CFG_EN i.val) = true → s.on (F.PTP_CFG_PROFILE i.val) = false → s.ptpUp (s.rd (F.PTP_CFG_PORT i.val)) false
    = true → (s.ptp i.val).master ≠ none → Gives (.delayReqInterval i) s fun t => t.ptp i.val =
    { s.ptp i.val with seq := ((s.ptp i.val).seq + 1) % 65536, req := some (s.ptp i.val).seq, gone := none, resp := none, presp := none } ∧
    t.out.length = s.out.length + 1 ∧ t.regs = s.regs) ∧
  (∀ (i : Fin 2) (s : State), s.on (F.PTP_CFG_EN i.val) = true → s.on (F.PTP_CFG_PROFILE i.val) = true → s.ptpUp (s.rd (F.PTP_CFG_PORT i.val)) true =
    true → Gives (.delayReqInterval i) s fun t => t.ptp i.val =
    { s.ptp i.val with seq := ((s.ptp i.val).seq + 1) % 65536, req := some (s.ptp i.val).seq, gone := none, resp := none, presp := none } ∧ t.out =
    s.out ++ [.ptp (s.rd (F.PTP_CFG_PORT i.val)) true (ptpMessage 2 (s.rd (F.PTP_CFG_DOMAIN i.val)) 0 0 (ownPort (s.rd (F.PTP_CFG_PORT i.val)))
    (s.ptp i.val).seq (List.replicate 20 0))] ∧ t.regs = s.regs) ∧
  (∀ (i : Fin 2) (s : State), s.on (F.PTP_CFG_EN i.val) = true → Gives (.announceReceiptTimeout i false) s fun t => (t.ptp i.val).master = none ∧
    (t.ptp i.val).foreign = [] ∧ t.rd (F.PTP_STATE_PORT_STATE i.val) = 4 ∧ (s.servo i.val = 2 → t.servo i.val = 3)) ∧
  (∀ (i : Fin 2) (s : State), s.on (F.PTP_CFG_EN i.val) = true → s.servo i.val = 2 → Gives (.announceReceiptTimeout i true) s fun t => t.servo i.val
    = 3 ∧ (t.ptp i.val).master = (s.ptp i.val).master ∧ t.bit (evtStatus 0x49) (4 * i.val + 2) = true) ∧
  (∀ (port i : Fin 2) (id : BitVec 16) (dev : Int) (s : State), s.ptpUp port.val true = true → (s.txq port.val).length < 16 → (s.ptp i.val).req =
    some id.toNat → (s.ptp i.val).gone = none → (s.ptp i.val).resp = none → s.on (F.PTP_CFG_PROFILE i.val) = false → Gives (.timestampEntry port 0 i
    id dev) s fun t => (t.ptp i.val).gone = some ((TimeBase.ofTotal ((s.timeBase i.val).total + s.stampDev port.val dev * 2 ^ 48)).stamp, s.stepsOf
    i.val) ∧ t.txq port.val = s.txq port.val ∧ t.rd (F.PTP_TXQ_0_FILL port.val) = (s.txq port.val).length) ∧
  (∀ (port i : Fin 2) (id : BitVec 16) (dev : Int) (s : State), s.ptpUp port.val true = true → (s.txq port.val).length < 16 → (s.ptp i.val).req =
    none → Gives (.timestampEntry port 0 i id dev) s fun t => (t.txq port.val).length = (s.txq port.val).length + 1 ∧ t.rd (F.PTP_TXQ_0_FILL
    port.val) = (s.txq port.val).length + 1 ∧ t.ptp i.val = s.ptp i.val) ∧
  (∀ (port i : Fin 2) (id : BitVec 16) (dev : Int) (s : State), s.ptpUp port.val true = true → 16 ≤ (s.txq port.val).length → (s.ptp i.val).req =
    none → Gives (.timestampEntry port 0 i id dev) s fun t => t.time = s.time ∧ t.rd (F.PTP_TXQ_0_DROPS port.val) = satCount (F.PTP_TXQ_0_DROPS
    port.val).width (s.rd (F.PTP_TXQ_0_DROPS port.val) + 1) ∧ t.bit (evtStatus 0x49) 8 = true) ∧
  (∀ (port : Fin 2) (x : TxStamp) (l : List TxStamp) (s : State), s.txq port.val = x :: l → l.length < 32 → Gives (.timestampEntryStale port) s fun t
    => t.txq port.val = l ∧ t.rd (F.PTP_TXQ_0_FILL port.val) = l.length ∧ t.rd (F.PTP_TXQ_4_STALE port.val) = satCount (F.PTP_TXQ_4_STALE
    port.val).width (s.rd (F.PTP_TXQ_4_STALE port.val) + 1))

/-- Each clause under the conditions it writes: on a listening channel a received frame that no filter takes changes neither rings nor the count; one
  taken with an empty ring of some size is queued and counts with its event; one without room is dropped and counts. SEND of a classic frame with
  room on an empty ring queues the TX buffer; with a bad length, or on a channel that does not send, it raises TX_REFUSED and queues nothing.
  TX_ABORT leaves nothing to send and the ring's entries in place; a completion of the only entry, not asking for an echo, sends it and counts; the
  pending limit gives an entry up and counts. An error frame shows its kind and counts. A first bus-off is noted and counts, a second one is lasting;
  RECOVER begins the recovery, and the recovered channel is error active with counts 0, with its event. The latch, where the ports are live, shows
  the common counter and TB0 on every channel. Rests on the model's choices in the log entries 2, 55, 56 (notes/assumptions). -/
def Obligations.CanChannels : Prop :=
  (∀ (ch : Fin 4) (f : CanFrame) (c : BitVec 32) (s : State), s.canListens ch.val = true → s.canFilter ch.val f = none → Gives (.canFrameRx ch f c) s
    fun t => t.eng = s.eng ∧ t.rd (F.CAN_FRMCNT_RX ch.val) = s.rd (F.CAN_FRMCNT_RX ch.val)) ∧
  (∀ (ch : Fin 4) (f : CanFrame) (c : BitVec 32) (k : Nat) (s : State), s.canListens ch.val = true → f.fdf = true → s.on (F.CAN_CFG_FD_EN ch.val) =
    true → s.canFilter ch.val f = some k → (s.ring (rxRing ch.val)).entries = [] → 1 ≤ s.rd (F.QUEUE_QCFG_SIZE_KIB (4 + ch.val)) → Gives (.canFrameRx
    ch f c) s fun t => (t.ring (rxRing ch.val)).entries.length = 1 ∧ t.rd (F.CAN_FRMCNT_RX ch.val) = (s.rd (F.CAN_FRMCNT_RX ch.val) + 1) % 2 ^ 16 ∧
    t.bit (evtStatus (0x50 + ch.val)) 0 = true) ∧
  (∀ (ch : Fin 4) (f : CanFrame) (c : BitVec 32) (k : Nat) (s : State), s.canListens ch.val = true → f.fdf = true → s.on (F.CAN_CFG_FD_EN ch.val) =
    true → s.canFilter ch.val f = some k → s.rd (F.QUEUE_QCFG_SIZE_KIB (4 + ch.val)) * 1024 < entryBytes ((s.ring (rxRing ch.val)).entries.dropWhile
    fun x => s.released (rxRing ch.val) x) → Gives (.canFrameRx ch f c) s fun t => t.eng = s.eng ∧ (t.canCh ch.val).lost = true ∧ t.rd
    (F.CAN_ERRS2_RX_DROP ch.val) = satCount (F.CAN_ERRS2_RX_DROP ch.val).width (s.rd (F.CAN_ERRS2_RX_DROP ch.val) + 1) ∧ t.bit (evtStatus (0x50 +
    ch.val)) 4 = true) ∧
  (∀ (who : Initiator) (ch : Fin 4) (s : State), s.barred who (A.CAN_CMD ch.val) true = 0 → s.canSends ch.val = true → s.rd (F.CAN_TXCTL_LEN ch.val)
    ≤ 8 → s.on (F.CAN_TXCTL_FDF ch.val) = false → s.on (F.CAN_TXCTL_BRS ch.val) = false → (s.ring (txRing ch.val)).entries = [] → 1 ≤ s.rd
    (F.QUEUE_QCFG_SIZE_KIB (8 + ch.val)) → Gives (.sendCmd who ch) s fun t => (t.ring (txRing ch.val)).entries =
    [{ eseq := (s.ring (txRing ch.val)).next, bytes := txEntry (s.rd (F.CAN_TXID_ID ch.val)) (s.on (F.CAN_TXID_IDE ch.val)) false false (s.on (F.CAN_TXCTL_ECHO ch.val)) (s.rd (F.CAN_TXCTL_LEN ch.val)) (((List.range 16).flatMap fun j => le 4 (s.rd (F.CAN_TXDATA_DATA ch.val j))).take (s.rd (F.CAN_TXCTL_LEN ch.val))), used := false, popped := false }]) ∧
  (∀ (who : Initiator) (ch : Fin 4) (s : State), s.barred who (A.CAN_CMD ch.val) true = 0 → (lenDlc (s.on (F.CAN_TXCTL_FDF ch.val)) (s.rd
    (F.CAN_TXCTL_LEN ch.val)) = none ∨ s.canSends ch.val = false) → Gives (.sendCmd who ch) s fun t => t.bit (evtStatus (0x50 + ch.val)) 8 = true ∧
    t.eng = s.eng) ∧
  (∀ (who : Initiator) (ch : Fin 4) (s : State), s.barred who (A.CAN_CMD ch.val) true = 0 → Gives (.txAbort who ch) s fun t => t.canArb ch.val = [] ∧
    (t.ring (txRing ch.val)).entries.length = (s.ring (txRing ch.val)).entries.length) ∧
  (∀ (ch : Fin 4) (c : BitVec 32) (x : Entry) (s : State), s.canListens ch.val = true → s.canSends ch.val = true → (s.ring (txRing ch.val)).entries =
    [x] → x.used = false → (beAt x.bytes 4 1).testBit 7 = false → Gives (.canTxComplete ch c) s fun t => t.out = s.out ++ [.can ch.val x.bytes] ∧
    (t.ring (txRing ch.val)).entries = [{ x with used := true }] ∧ t.rd (F.CAN_FRMCNT_TX ch.val) = (s.rd (F.CAN_FRMCNT_TX ch.val) + 1) % 2 ^ 16) ∧
  (∀ (ch k : Fin 4) (x : Entry) (s : State), s.portsLive = true → (s.canArb ch.val)[k.val]? = some x → s.rd (F.CAN_CFG_TX_TMO ch.val) ≠ 0 → Gives
    (.canTxTimeout ch k) s fun t => (t.ring (txRing ch.val)).entries = ((s.ring (txRing ch.val)).entries.map fun y => if y.eseq = x.eseq then
    { y with used := true } else y) ∧ t.rd (F.CAN_ERRS_TX_ABANDON ch.val) = satCount (F.CAN_ERRS_TX_ABANDON ch.val).width (s.rd
    (F.CAN_ERRS_TX_ABANDON ch.val) + 1) ∧ t.bit (evtStatus (0x50 + ch.val)) 5 = true) ∧
  (∀ (ch : Fin 4) (kind : Fin 7) (tec erc : BitVec 8) (s : State), s.canListens ch.val = true → Gives (.errorFrame ch kind false tec erc) s fun t =>
    t.rd (F.CAN_LEC_LEC ch.val) = kind.val ∧ t.rd (F.CAN_ERRS2_ERR_FRAMES ch.val) = satCount (F.CAN_ERRS2_ERR_FRAMES ch.val).width (s.rd
    (F.CAN_ERRS2_ERR_FRAMES ch.val) + 1) ∧ (s.canRestricted ch.val = false → t.rd (F.CAN_ERRCNT_TEC ch.val) = tec.toNat ∧ t.rd (F.CAN_ERRCNT_REC
    ch.val) = erc.toNat)) ∧
  (∀ (ch : Fin 4) (s : State), s.canListens ch.val = true → s.canRestricted ch.val = false → (s.canCh ch.val).failed = false → Gives (.busOff ch) s
    fun t => t.rd (F.CAN_STATUS_STATE ch.val) = 2 ∧ (t.canCh ch.val).failed = true ∧ (t.canCh ch.val).recovering = s.on (F.CAN_CFG_AUTO_RECOVER
    ch.val) ∧ t.rd (F.CAN_ERRS_BUS_OFFS ch.val) = satCount (F.CAN_ERRS_BUS_OFFS ch.val).width (s.rd (F.CAN_ERRS_BUS_OFFS ch.val) + 1) ∧ t.rd
    (F.CAN_STATUS_LASTING_BO ch.val) = s.rd (F.CAN_STATUS_LASTING_BO ch.val)) ∧
  (∀ (ch : Fin 4) (s : State), s.canListens ch.val = true → s.canRestricted ch.val = false → (s.canCh ch.val).failed = true → Gives (.busOff ch) s
    fun t => t.rd (F.CAN_STATUS_STATE ch.val) = 2 ∧ t.rd (F.CAN_STATUS_LASTING_BO ch.val) = 1 ∧ (t.canCh ch.val).recovering = false ∧ t.bit
    (evtStatus (0x50 + ch.val)) 7 = true) ∧
  (∀ (who : Initiator) (ch : Fin 4) (s : State), s.barred who (A.CAN_CMD ch.val) true = 0 → s.rd (F.CAN_STATUS_STATE ch.val) = 2 → Gives (.recoverCmd
    who ch) s fun t => (t.canCh ch.val).recovering = true ∧ t.rd (F.CAN_STATUS_LASTING_BO ch.val) = 0 ∧ t.rd (F.CAN_STATUS_STATE ch.val) = 2) ∧
  (∀ (ch : Fin 4) (s : State), s.rd (F.CAN_STATUS_STATE ch.val) = 2 → (s.canCh ch.val).recovering = true → Gives (.busOffRecovered ch) s fun t =>
    t.rd (F.CAN_STATUS_STATE ch.val) = 0 ∧ t.rd (F.CAN_ERRCNT_TEC ch.val) = 0 ∧ t.rd (F.CAN_ERRCNT_REC ch.val) = 0 ∧ (t.canCh ch.val).recovering =
    false ∧ t.bit (evtStatus (0x50 + ch.val)) 3 = true) ∧
  (∀ (s : State), s.portsLive = true → Gives .canLatch s fun t => (∀ ch : Fin 4, t.rd (F.CAN_LATCH_C_L ch.val) = s.cd8 ∧ t.rd (F.CAN_LATCH_NS_NS
    ch.val) = (s.timeBase 0).ns % 2 ^ 32 ∧ t.rd (F.CAN_LATCH_SEC_LO_SEC_LO ch.val) = (s.timeBase 0).sec % 2 ^ 32) ∧ t.can.stepAt = none)

/-- Each clause under the conditions it writes: a submission that finds room takes the next SEQ, behind the records present, and TAIL shows it; one
  of a severity below 8 that finds none is dropped, counts and takes no SEQ. The migration of the first staged record, where the open sector has room
  for it, puts a verified one into a sector; the first failed verify is noted, the second retires the sector, which counts and is recorded. A
  compaction reclaims the displaced bytes of its sector and keeps the records. LATCH shows the oldest and newest SEQ in the session's bank; a
  selection of a SEQ that is present shows its record, and with no record shows GONE. Rests on the model's choices in the log entries 2, 13, 58
  (notes/assumptions). -/
def Obligations.Almanac : Prop :=
  (∀ (x : Sub) (l : List Sub) (s : State), s.q91 = x :: l → s.makeRoom x = some [] → Gives .almanacSubmission s fun t => t.q91 = l ∧ t.alm.next =
    s.alm.next + 1 ∧ t.alm.recs = s.alm.recs ++ [{ seq := s.alm.next, bytes := x.bytes s.alm.next, sev := x.sev, reserve := x.ev == .policyChange }]
    ∧ t.rd F.EVREC_TAIL_LO_SEQ = s.alm.next % 2 ^ 32 ∧ t.rd F.EVREC_TAIL_HI_SEQ = s.alm.next / 2 ^ 32 % 2 ^ 32) ∧
  (∀ (x : Sub) (l : List Sub) (s : State), s.q91 = x :: l → s.makeRoom x = none → x.sev < 8 → Gives .almanacSubmission s fun t => t.q91 = l ∧ t.alm =
    s.alm ∧ t.bit (evtStatus 0x61) 2 = true ∧ (x.sev % 2 = 0 → t.rd (F.EVREC_DROPS_SEV_EVEN (x.sev / 2)) = satCount (F.EVREC_DROPS_SEV_EVEN (x.sev /
    2)).width (s.rd (F.EVREC_DROPS_SEV_EVEN (x.sev / 2)) + 1)) ∧ (x.sev % 2 = 1 → t.rd (F.EVREC_DROPS_SEV_ODD (x.sev / 2)) = satCount
    (F.EVREC_DROPS_SEV_ODD (x.sev / 2)).width (s.rd (F.EVREC_DROPS_SEV_ODD (x.sev / 2)) + 1))) ∧
  (∀ (r : AlmRec) (l : List AlmRec) (s : State), s.toMigrate = r :: l → s.almPaused = false → s.alm.written + r.bytes.length ≤ 16646144 → Gives
    (.almanacMigration true) s fun t => t.alm.recs = s.alm.recs.map (fun y => if y.seq = r.seq then
    { y with sector := some ((s.alm.openSector.sectors.getLast?.map (·.id)).getD 0) } else y) ∧ t.alm.next = s.alm.next ∧ t.mode = s.mode) ∧
  (∀ (r : AlmRec) (l : List AlmRec) (s : State), s.toMigrate = r :: l → s.almPaused = false → s.alm.written + r.bytes.length ≤ 16646144 → r.fails = 0
    → Gives (.almanacMigration false) s fun t => t.alm.recs = s.alm.recs.map (fun y => if y.seq = r.seq then { y with fails := 1 } else y) ∧ t.regs =
    s.regs) ∧
  (∀ (r : AlmRec) (l : List AlmRec) (s : State), s.toMigrate = r :: l → s.almPaused = false → s.alm.written + r.bytes.length ≤ 16646144 → r.fails = 1
    → Gives (.almanacMigration false) s fun t => t.alm.recs = s.alm.recs.map (fun y => if y.seq = r.seq then { y with fails := 2 } else y) ∧ t.rd
    F.NVM_RETIRED_SECTORS = satCount F.NVM_RETIRED_SECTORS.width (s.rd F.NVM_RETIRED_SECTORS + 1) ∧ t.bit (evtStatus 0x60) 0 = true ∧ t.q91.length =
    s.q91.length + 1) ∧
  (∀ (x : AlmSector) (s : State), (s.alm.sectors.find? fun y => decide (y.dead > 0) && !y.retired) = some x → s.almPaused = false → Gives
    .compactionComplete s fun t => t.alm.recs = s.alm.recs ∧ t.alm.displaced = s.alm.displaced.filter (·.2 != x.id) ∧ t.alm.sectors =
    s.alm.sectors.map fun y => if y.id = x.id then { x with written := x.written - x.dead, dead := 0 } else y) ∧
  (∀ (who : Initiator) (s : State), s.barred who A.EVREC_CMD true = 0 → Gives (.latchCmd who) s fun t => t.rd64 (F.EVREC_LHEAD_LO_SEQ.bank who.id)
    (F.EVREC_LHEAD_HI_SEQ.bank who.id) = ((s.alm.recs.head?).map (·.seq)).getD 0 % 2 ^ 64 ∧ t.rd64 (F.EVREC_LTAIL_LO_SEQ.bank who.id)
    (F.EVREC_LTAIL_HI_SEQ.bank who.id) = ((s.alm.recs.getLast?).map (·.seq)).getD 0 % 2 ^ 64 ∧ t.alm = s.alm) ∧
  (∀ (who : Initiator) (hi : Word) (r : AlmRec) (s : State), s.barred who A.EVREC_RSEQ_HI true = 0 → (s.alm.recs.find? (·.seq == s.rd
    (F.EVREC_RSEQ_LO_SEQ.bank who.id) + 2 ^ 32 * hi.toNat)) = some r → Gives (.rseqSelect who hi) s fun t => t.rd (F.EVREC_RSTAT_FOUND.bank who.id) =
    1 ∧ t.rd (F.EVREC_RSTAT_GONE.bank who.id) = 0 ∧ mget [] t.alm.view who.id = r.bytes ∧ t.rd64 (F.EVREC_FSEQ_LO_SEQ.bank who.id)
    (F.EVREC_FSEQ_HI_SEQ.bank who.id) = r.seq % 2 ^ 64) ∧
  (∀ (who : Initiator) (hi : Word) (s : State), s.barred who A.EVREC_RSEQ_HI true = 0 → s.alm.recs = [] → Gives (.rseqSelect who hi) s fun t => t.rd
    (F.EVREC_RSTAT_FOUND.bank who.id) = 0 ∧ t.rd (F.EVREC_RSTAT_GONE.bank who.id) = 1 ∧ mget [] t.alm.view who.id = [] ∧ t.rd
    (F.EVREC_RSTAT_SIZE.bank who.id) = 0)

/-- Each clause under the conditions it writes: by the owner where an update may be transferred: HEADER shows the code of its checks and begins the
  transfer where it is 0; a TABLE of one chunk is kept and takes STATE to 2 where its hash agrees, a first chunk of several is kept; a BLOCK quarter
  below the last is kept with RESULT 0 and STATE 3, and the last one of four answers 0 and is kept where the block agrees with its entry, else 8;
  FINISH with every block present leads to STATE 5 and a verified slot where the slot check holds, else RESULT 9; ABORT and the timeout leave STATE
  0, no owner and the slot INVALID. A BLOCK by another than the owner shows RESULT 1 and changes nothing in non-volatile memory. Rests on the model's
  choices in the log entries 2, 59, 60 (notes/assumptions). -/
def Obligations.UpdateTransfer : Prop :=
  (∀ (who : Initiator) (s : State), s.barred who A.UPDATE_CMD true = 0 → s.notOwner who = false → s.rd F.UPDATE_STATUS_TRIAL = 0 → s.nvm.armed = 0 →
    s.nvm.actWait = false → s.nvm.boot.pendingSlot = none → s.transferMode = true → Gives (.headerOp who) s fun t => t.rd F.UPDATE_STATUS_RESULT =
    s.headerCheck (s.updWindow 256) % 16 ∧ t.rd F.UPDATE_STATUS_STATE = (if s.headerCheck (s.updWindow 256) = 0 then 1 else s.rd
    F.UPDATE_STATUS_STATE) ∧ (t.image s.otherSlot) = (if s.headerCheck (s.updWindow 256) = 0 then { header := (s.updWindow 256) } else s.image
    s.otherSlot) ∧ t.rd F.UPDATE_STATUS_OWNER = (if s.headerCheck (s.updWindow 256) = 0 then who.id else s.rd F.UPDATE_STATUS_OWNER)) ∧
  (∀ (who : Initiator) (s : State), s.barred who A.UPDATE_CMD true = 0 → s.notOwner who = false → s.rd F.UPDATE_STATUS_STATE = 1 → s.transferMode =
    true → s.rd F.UPDATE_ADDR_INDEX = 0 → 1 ≤ hdrBlocks (s.image s.otherSlot).header → hdrBlocks (s.image s.otherSlot).header ≤ 256 → (s.image
    s.otherSlot).table = [] → s.nvm.chunks = [] → Gives (.tableOp who) s fun t => t.rd F.UPDATE_STATUS_STATE = (if sha256 ((s.updWindow 1024).take (4
    * hdrBlocks (s.image s.otherSlot).header)) == ((s.image s.otherSlot).header.drop 40).take 32 then 2 else 1) ∧ (t.image s.otherSlot).table =
    (s.updWindow 1024).take (4 * hdrBlocks (s.image s.otherSlot).header) ∧ (t.rd F.UPDATE_STATUS_RESULT = 0 ↔ t.rd F.UPDATE_STATUS_STATE = 2)) ∧
  (∀ (who : Initiator) (s : State), s.barred who A.UPDATE_CMD true = 0 → s.notOwner who = false → s.rd F.UPDATE_STATUS_STATE = 1 → s.transferMode =
    true → s.rd F.UPDATE_ADDR_INDEX = 0 → 257 ≤ hdrBlocks (s.image s.otherSlot).header → s.nvm.chunks = [] → Gives (.tableOp who) s fun t => t.rd
    F.UPDATE_STATUS_RESULT = 0 ∧ t.nvm.chunks = [0] ∧ t.rd F.UPDATE_STATUS_STATE = 1) ∧
  (∀ (who : Initiator) (fails : Fin 3) (s : State), s.barred who A.UPDATE_CMD true = 0 → s.notOwner who = false → (s.rd F.UPDATE_STATUS_STATE = 2 ∨
    s.rd F.UPDATE_STATUS_STATE = 3) → s.transferMode = true → s.norPaused = false → (s.rd F.UPDATE_ADDR_INDEX) < hdrBlocks (s.image
    s.otherSlot).header → (s.rd F.UPDATE_ADDR_QUARTER) < 3 → Gives (.blockOp who fails) s fun t => t.rd F.UPDATE_STATUS_RESULT = 0 ∧ t.rd
    F.UPDATE_STATUS_STATE = 3 ∧ t.nvm.partBlock = (s.rd F.UPDATE_ADDR_INDEX) ∧ t.nvm.part.find? (·.1 == (s.rd F.UPDATE_ADDR_QUARTER)) = some ((s.rd
    F.UPDATE_ADDR_QUARTER), s.updWindow 1024)) ∧
  (∀ (who : Initiator) (s : State), s.barred who A.UPDATE_CMD true = 0 → s.notOwner who = false → s.rd F.UPDATE_STATUS_STATE = 3 → s.transferMode =
    true → s.norPaused = false → (s.rd F.UPDATE_ADDR_INDEX) < hdrBlocks (s.image s.otherSlot).header → (s.rd F.UPDATE_ADDR_QUARTER) = 3 →
    s.nvm.partBlock = (s.rd F.UPDATE_ADDR_INDEX) → (mins (mdel s.nvm.part (s.rd F.UPDATE_ADDR_QUARTER)) (s.rd F.UPDATE_ADDR_QUARTER) (s.updWindow
    1024)).length = 4 → s.nvm.blocks.contains (s.rd F.UPDATE_ADDR_INDEX) = false → Gives (.blockOp who 0) s fun t => t.rd F.UPDATE_STATUS_RESULT =
    (if blockOk (s.image s.otherSlot) (s.rd F.UPDATE_ADDR_INDEX) ((mins (mdel s.nvm.part (s.rd F.UPDATE_ADDR_QUARTER)) (s.rd F.UPDATE_ADDR_QUARTER)
    (s.updWindow 1024)).flatMap (·.2)) then 0 else 8) ∧ t.nvm.part = [] ∧ t.nvm.blocks = (if blockOk (s.image s.otherSlot) (s.rd F.UPDATE_ADDR_INDEX)
    ((mins (mdel s.nvm.part (s.rd F.UPDATE_ADDR_QUARTER)) (s.rd F.UPDATE_ADDR_QUARTER) (s.updWindow 1024)).flatMap (·.2)) then (s.rd
    F.UPDATE_ADDR_INDEX) :: s.nvm.blocks else s.nvm.blocks)) ∧
  (∀ (who : Initiator) (s : State), s.barred who A.UPDATE_CMD true = 0 → s.notOwner who = false → s.rd F.UPDATE_STATUS_STATE = 3 → s.transferMode =
    true → hdrBlocks (s.image s.otherSlot).header ≤ s.nvm.blocks.length → Gives (.finishOp who) s fun t => t.rd F.UPDATE_STATUS_STATE = (if
    s.slotCheck (s.image s.otherSlot) then 5 else 3) ∧ t.rd F.UPDATE_STATUS_RESULT = (if s.slotCheck (s.image s.otherSlot) then 0 else 9) ∧ t.rd
    (F.UPDATE_SLOT_STATE s.otherSlot) = (if s.slotCheck (s.image s.otherSlot) then 2 else s.rd (F.UPDATE_SLOT_STATE s.otherSlot))) ∧
  (∀ (who : Initiator) (s : State), s.barred who A.UPDATE_CMD true = 0 → s.notOwner who = false → s.transferring = true → Gives (.updateAbort who) s
    fun t => t.rd F.UPDATE_STATUS_STATE = 0 ∧ t.rd F.UPDATE_STATUS_OWNER = 0 ∧ t.rd (F.UPDATE_SLOT_STATE s.otherSlot) = 1 ∧ t.rd
    F.UPDATE_STATUS_RESULT = 0 ∧ t.rd F.UPDATE_BLOCKS_RECEIVED = 0) ∧
  (∀ (who : Initiator) (fails : Fin 3) (s : State), s.barred who A.UPDATE_CMD true = 0 → s.notOwner who = true → Gives (.blockOp who fails) s fun t
    => t.rd F.UPDATE_STATUS_RESULT = 1 ∧ t.bit (evtStatus 0x62) 2 = true ∧ t.nvm = s.nvm) ∧
  (∀ (s : State), s.transferring = true → Gives .updateTransferTimeout s fun t => t.rd F.UPDATE_STATUS_STATE = 0 ∧ t.rd F.UPDATE_STATUS_OWNER = 0 ∧
    t.rd (F.UPDATE_SLOT_STATE s.otherSlot) = 1 ∧ t.nvm.chunks = [] ∧ t.nvm.blocks = [])

/-- Each clause under the conditions it writes: ACTIVATE at once of a verified slot, with no transfer and nothing armed, in STANDBY, SAFE or SERVICE
  with no apply or commit under way leaves a restarted state with the time bases at reset; where the module may not activate it shows RESULT 14; for
  the next reset or at a Jubilee time within its limits it arms with STATE 6; with a wrong key it does nothing. DISARM disarms, or with nothing armed
  shows 11; CONFIRM of a confirmable trial notes the host's word. KEY is stored, or waits while NOR is paused. The Jubilee prepares; at its point in
  HOLD it is delayed, where the module may not activate it is missed, and in STANDBY, SAFE or SERVICE the module restarts. A confirmed trial keeps
  its slot; the window is saved in steps of 10 s; its end falls back with a restart in STANDBY, SAFE or REST, and waits during a take-up and in
  CONNECT, RUN and HOLD of a solo or active unit. CLASS_L_STORE_WRITE writes the older slot, numbered one above both. Rests on the model's choices in
  the log entries 2, 59, 73 (notes/assumptions). -/
def Obligations.UpdateActivation : Prop :=
  (∀ (who : Initiator) (s : State), s.barred who A.UPDATE_CMD true = 0 → s.rd (F.UPDATE_SLOT_STATE s.otherSlot) = 2 → s.transferring = false →
    s.nvm.armed = 0 → s.nvm.actWait = false → s.rd F.CROWN_STAGE_CTRL_STATE ≠ 6 → s.stg.takeUp = false → s.stg.commitStep = 0 → (s.mode = .standby ∨
    s.mode = .safe ∨ s.mode = .service) → Gives (.activateCmd who 0 0x3CA5) s fun t => Restarted t ∧ t.tb = []) ∧
  (∀ (who : Initiator) (s : State), s.barred who A.UPDATE_CMD true = 0 → s.rd (F.UPDATE_SLOT_STATE s.otherSlot) = 2 → s.transferring = false →
    s.nvm.armed = 0 → s.nvm.actWait = false → s.mayActivate = false → Gives (.activateCmd who 0 0x3CA5) s fun t => t.rd F.UPDATE_STATUS_RESULT = 14 ∧
    t.nvm = s.nvm ∧ t.mode = s.mode) ∧
  (∀ (who : Initiator) (s : State), s.barred who A.UPDATE_CMD true = 0 → s.rd (F.UPDATE_SLOT_STATE s.otherSlot) = 2 → s.transferring = false →
    s.nvm.armed = 0 → s.nvm.actWait = false → (2 ≤ s.rd F.PAIR_STATUS_ROLE ∨ s.mode = .standby ∨ s.mode = .safe ∨ s.mode = .service) → Gives
    (.activateCmd who 1 0x3CA5) s fun t => t.rd F.UPDATE_STATUS_RESULT = 0 ∧ t.rd F.UPDATE_STATUS_STATE = 6 ∧ t.nvm.armed = 1 ∧
    t.nvm.boot.pendingSlot = some s.otherSlot ∧ t.mode = s.mode) ∧
  (∀ (who : Initiator) (s : State), s.barred who A.UPDATE_CMD true = 0 → s.rd (F.UPDATE_SLOT_STATE s.otherSlot) = 2 → s.transferring = false →
    s.nvm.armed = 0 → s.nvm.actWait = false → s.on (F.TIME_CMD_SYNCED 0) = true → s.tb0 + 10000000000 ≤ s.jub → s.jub ≤ s.tb0 + 2592000000000000 →
    Gives (.activateCmd who 2 0x3CA5) s fun t => t.rd F.UPDATE_STATUS_RESULT = 0 ∧ t.rd F.UPDATE_STATUS_STATE = 6 ∧ t.nvm.armed = 2 ∧ t.nvm.prepared
    = false) ∧
  (∀ (who : Initiator) (act : Fin 4) (key : Fin 65536) (s : State), s.barred who A.UPDATE_CMD true = 0 → key.val ≠ 0x3CA5 → Gives (.activateCmd who
    act key) s fun t => t.nvm = s.nvm ∧ OnlyFields [F.HOST_LAST_ERR_CODE, F.HOST_LAST_ERR_ADDR] s t) ∧
  (∀ (who : Initiator) (s : State), s.barred who A.UPDATE_CMD true = 0 → s.nvm.armed ≠ 0 → Gives (.disarmCmd who) s fun t => t.nvm.armed = 0 ∧
    t.nvm.prepared = false ∧ t.nvm.boot.pendingSlot = none ∧ t.rd F.UPDATE_STATUS_STATE = 5 ∧ t.rd F.UPDATE_STATUS_RESULT = 0) ∧
  (∀ (who : Initiator) (s : State), s.barred who A.UPDATE_CMD true = 0 → s.nvm.armed = 0 → Gives (.disarmCmd who) s fun t => t.nvm = s.nvm ∧ t.rd
    F.UPDATE_STATUS_RESULT = 11) ∧
  (∀ (who : Initiator) (s : State), s.barred who A.UPDATE_CMD true = 0 → s.confirmable = true → Gives (.confirmCmd who 0x3CA5) s fun t => t.nvm =
    { s.nvm with hostOk := true } ∧ t.rd F.UPDATE_STATUS_RESULT = 0) ∧
  (∀ (who : Initiator) (slot : Fin 4) (s : State), s.barred who A.UPDATE_KEYSEL true = 0 → s.norPaused = false → Gives (.keyWrite who slot) s fun t
    => t.nvm.keys.find? (·.1 == slot.val) = some (slot.val, (List.range 8).flatMap fun j => le 4 (s.word (A.UPDATE_KEYDATA j)).toNat) ∧ t.nvm.keyWait
    = none ∧ t.rd F.UPDATE_KEYSEL_SLOT = slot.val ∧ t.bit (evtStatus 0x62) 7 = true) ∧
  (∀ (who : Initiator) (slot : Fin 4) (s : State), s.barred who A.UPDATE_KEYSEL true = 0 → s.norPaused = true → Gives (.keyWrite who slot) s fun t =>
    t.nvm = { s.nvm with keyWait := some (slot.val, (List.range 8).flatMap fun j => le 4 (s.word (A.UPDATE_KEYDATA j)).toNat) }) ∧
  (∀ (s : State), s.nvm.armed = 2 → s.nvm.prepared = false → Gives .jubileePrepare s fun t => t.nvm.prepared = true ∧ t.nvm.armed = 2 ∧ t.mode =
    s.mode) ∧
  (∀ (late : Bool) (s : State), s.nvm.armed = 2 → s.mode = .hold → Gives (.jubileePoint late) s fun t => t.nvm = { s.nvm with delayed := true } ∧
    t.regs = s.regs) ∧
  (∀ (late : Bool) (s : State), s.nvm.armed = 2 → s.mode ≠ .hold → s.mayActivate = false → Gives (.jubileePoint late) s fun t => t.nvm.armed = 0 ∧
    t.rd F.UPDATE_STATUS_MISSED = 1 ∧ t.rd F.UPDATE_STATUS_STATE = 5 ∧ t.bit (evtStatus 0x62) 6 = true) ∧
  (∀ (late : Bool) (s : State), s.nvm.armed = 2 → (s.mode = .standby ∨ s.mode = .safe ∨ s.mode = .service) → s.rd F.CROWN_STAGE_CTRL_STATE ≠ 6 →
    s.stg.takeUp = false → s.stg.commitStep = 0 → Gives (.jubileePoint late) s fun t => Restarted t ∧ t.tb = []) ∧
  (∀ (s : State), s.confirmable = true → s.on F.UPDATE_CFG_HOST_CONFIRM = false → Gives .confirmation s fun t => t.nvm.boot.trial = false ∧
    t.nvm.backup = none ∧ t.nvm.boot.slot = s.nvm.boot.slot ∧ t.rd F.UPDATE_STATUS_TRIAL = 0 ∧ t.rd (F.UPDATE_SLOT_STATE (s.nvm.boot.slot % 2)) = 4 ∧
    t.bit (evtStatus 0x62) 4 = true) ∧
  (∀ (s : State), s.nvm.boot.trial = true → Gives .confirmWindowSave s fun t => t.nvm.boot = { s.nvm.boot with used := s.nvm.boot.used + 10 } ∧ t.rd
    F.UPDATE_WINDOW_LEFT = (s.rd F.UPDATE_CFG_CONFIRM_S - (s.nvm.boot.used + 10)) % 2 ^ F.UPDATE_WINDOW_LEFT.width) ∧
  (∀ (s : State), s.nvm.boot.trial = true → (s.stg.takeUp = true ∨ s.rd F.PAIR_STATUS_ROLE < 2 ∧ (s.mode = .connect ∨ s.mode = .run ∨ s.mode =
    .hold)) → Gives .confirmWindowExpiry s fun t => t.nvm = { s.nvm with fallDue := true } ∧ t.regs = s.regs) ∧
  (∀ (s : State), s.nvm.boot.trial = true → (s.mode = .standby ∨ s.mode = .safe ∨ s.mode = .rest) → s.stg.takeUp = false → Gives .confirmWindowExpiry
    s fun t => Restarted t ∧ t.tb = []) ∧
  (∀ (s : State), Gives .classLStoreWrite s fun t => t.nvm =
    { s.nvm with lregs := mset (0, []) s.nvm.lregs (if (mget (0, []) s.nvm.lregs 0).1 ≤ (mget (0, []) s.nvm.lregs 1).1 then 0 else 1) (max (mget (0, []) s.nvm.lregs 0).1 (mget (0, []) s.nvm.lregs 1).1 + 1, s.classWords (fun p => !ownStore p) (ofClass .L)) })

/-- Each clause under the conditions it writes: GTEST_GO with no test running starts one where nothing refuses it, else shows why; GSTOP and the end
  of its duration mark the test to stop at the next phase-0 boundary with result 7 or 0 and their event. UNLOCK with its key in SERVICE opens the
  port, with an event and a record; elsewhere or with another key it changes neither lock nor port. RELOCK and the expiry close it and put BYPASS in.
  The service timeout restarts the module, its time bases kept where no image is on trial or pending, or during a take-up waits. A test output
  selects its signal. IDCODE is always read; with the port locked every other instruction acts as BYPASS, and open EXTEST drives its pins, its
  captured bits a free value. Rests on the model's choices in the log entries 2, 12, 35, 62, 73 (notes/assumptions). -/
def Obligations.TestAccess : Prop :=
  (∀ (who : Initiator) (phases : Fin 65536) (s : State), s.barred who A.TESTMUX_GTEST true = 0 → s.on F.TESTMUX_STATUS_GTEST = false → (s.wr
    F.TESTMUX_GTEST_PHASES phases.val).testRefusal = 0 → Gives (.gtestGo who phases) s fun t => t.rd F.TESTMUX_STATUS_GTEST = 1 ∧ t.rd
    F.TESTMUX_STATUS_GRESULT = 0 ∧ t.rd F.TESTMUX_GTEST_PHASES = phases.val ∧ t.tmx.startNext = true ∧ t.tmx.stopNext = false ∧ t.mode = s.mode) ∧
  (∀ (who : Initiator) (phases : Fin 65536) (s : State), s.barred who A.TESTMUX_GTEST true = 0 → s.on F.TESTMUX_STATUS_GTEST = false → (s.wr
    F.TESTMUX_GTEST_PHASES phases.val).testRefusal ≠ 0 → Gives (.gtestGo who phases) s fun t => t.rd F.TESTMUX_STATUS_GTEST = 0 ∧ t.rd
    F.TESTMUX_STATUS_GRESULT = (s.wr F.TESTMUX_GTEST_PHASES phases.val).testRefusal ∧ t.tmx = s.tmx ∧ t.pwm = s.pwm) ∧
  (∀ (who : Initiator) (s : State), s.barred who A.TESTMUX_GTEST true = 0 → s.on F.TESTMUX_STATUS_GTEST = true → s.tmx.stopNext = false → Gives
    (.gstopCmd who) s fun t => t.tmx = { s.tmx with stopNext := true } ∧ t.rd F.TESTMUX_STATUS_GRESULT = 7 ∧ t.bit (evtStatus 0x70) 3 = true) ∧
  (∀ (s : State), s.on F.TESTMUX_STATUS_GTEST = true → s.tmx.stopNext = false → Gives .gtestEnd s fun t => t.tmx = { s.tmx with stopNext := true } ∧
    t.rd F.TESTMUX_STATUS_GRESULT = 0 ∧ t.bit (evtStatus 0x70) 2 = true) ∧
  (∀ (who : Initiator) (s : State), s.barred who A.TESTMUX_JTAG true = 0 → s.mode = .service → Gives (.unlockCmd who 0xC35A) s fun t => t.rd
    F.TESTMUX_STATUS_JTAG_OPEN = 1 ∧ t.bit (evtStatus 0x70) 0 = true ∧ s.q91.length < t.q91.length) ∧
  (∀ (who : Initiator) (key : Fin 65536) (s : State), s.barred who A.TESTMUX_JTAG true = 0 → (key.val ≠ 0xC35A ∨ s.mode ≠ .service) → Gives
    (.unlockCmd who key) s fun t => t.rd F.TESTMUX_STATUS_JTAG_OPEN = s.rd F.TESTMUX_STATUS_JTAG_OPEN ∧ t.tmx = s.tmx ∧ t.q91 = s.q91) ∧
  (∀ (who : Initiator) (s : State), s.barred who A.TESTMUX_JTAG true = 0 → s.on F.TESTMUX_STATUS_JTAG_OPEN = true → Gives (.relockCmd who) s fun t =>
    t.rd F.TESTMUX_STATUS_JTAG_OPEN = 0 ∧ t.tmx = { s.tmx with instr := .bypass, forced := [] } ∧ t.bit (evtStatus 0x70) 1 = true) ∧
  (∀ (s : State), s.on F.TESTMUX_STATUS_JTAG_OPEN = true → Gives .unlockExpiry s fun t => t.rd F.TESTMUX_STATUS_JTAG_OPEN = 0 ∧ t.tmx =
    { s.tmx with instr := .bypass, forced := [] }) ∧
  (∀ (s : State), s.mode = .service → s.stg.takeUp = false → Gives .svcTimeout s fun t => Restarted t ∧ (s.nvm.boot.trial = false →
    s.nvm.boot.pendingSlot = none → t.tb = s.tb)) ∧
  (∀ (s : State), s.mode = .service → s.stg.takeUp = true → Gives .svcTimeout s fun t => t.crown.heldReset = some (.softwareWarm, s.startNow) ∧
    t.mode = .service) ∧
  (∀ (who : Initiator) (k : Fin 4) (sel : Byte) (s : State), s.barred who (A.TESTMUX_SEL k.val) true = 0 → Gives (.tmxSelect who k sel) s fun t =>
    t.rd (F.TESTMUX_SEL_SEL k.val) = sel.toNat ∧ OnlyFields [F.TESTMUX_SEL_SEL k.val] s t) ∧
  (∀ (s : State), Gives (.tapInstruction .idcode) s fun t => t.tmx = { s.tmx with instr := .idcode, tdo := idcode, forced := [] } ∧ t.regs = s.regs) ∧
  (∀ (i : TapOp) (s : State), s.on F.TESTMUX_STATUS_JTAG_OPEN = false → i ≠ .idcode → Gives (.tapInstruction i) s fun t => t.tmx =
    { s.tmx with instr := .bypass, tdo := 0, forced := [] } ∧ t.regs = s.regs ∧ t.free = s.free) ∧
  (∀ (pins : List (Nat × Bool)) (s : State), s.on F.TESTMUX_STATUS_JTAG_OPEN = true → Gives (.tapInstruction (.extest pins)) s fun t => t.tmx =
    { s.tmx with instr := .extest pins, tdo := Config.freeValue s.free, forced := pins } ∧ t.free = s.free + 1)

/-- A read of a register on a page absent from Table 3-1 answers 0 and a write of one changes nothing but the result it leaves, both with the
  no-such-page error 0x01, for every initiator in either world and whether the offset is live or staged; neither is handed to the Almanac. Formalises
  R65. -/
def Obligations.ReservedPagesReadZero : Prop :=
  (∀ (who : Initiator) (addr : BitVec 20) (data : BitVec 32) (s : State), assigned (pageOf addr.toNat) = false → Gives (.registerWrite who addr data)
    s fun t => t.accErr = 0x01 ∧ (who = .host → t.host.err = 0x01) ∧ OnlyFields [F.HOST_LAST_ERR_CODE, F.HOST_LAST_ERR_ADDR] s t ∧ t.staged =
    s.staged ∧ t.scan = s.scan ∧ t.nvm = s.nvm ∧ t.q91 = s.q91) ∧
  (∀ (who : Initiator) (page : Fin 256) (reg : Fin 512) (data : BitVec 32) (s : State), assigned page.val = false → Gives (.stagedWrite who page reg
    data) s fun t => t.accErr = 0x01 ∧ (who = .host → t.host.err = 0x01) ∧ OnlyFields [F.HOST_LAST_ERR_CODE, F.HOST_LAST_ERR_ADDR] s t ∧ t.staged =
    s.staged ∧ t.scan = s.scan ∧ t.nvm = s.nvm ∧ t.q91 = s.q91) ∧
  (∀ (addr : BitVec 24) (s : State), assigned (pageOf addr.toNat) = false → addr.toNat < 2 ^ 20 → addr.toNat % 4 = 0 → Gives (.hostRead addr 1) s fun
    t => t.readData = [0] ∧ t.host.err = 0x01 ∧ OnlyFields [F.HOST_LAST_ERR_CODE, F.HOST_LAST_ERR_ADDR] s t ∧ t.staged = s.staged ∧ t.scan = s.scan ∧
    t.nvm = s.nvm ∧ t.q91 = s.q91) ∧
  (∀ (who : Initiator) (a : Nat) (s : State), assigned (pageOf a) = false → (s.readReg who a).readData = [0] ∧ (s.readReg who a).accErr = 0x01 ∧
    OnlyFields [F.HOST_LAST_ERR_CODE, F.HOST_LAST_ERR_ADDR] s (s.readReg who a) ∧ (s.readReg who a).q91 = s.q91)

/-- A staged write that is accepted in STATE CHECKING, PASSED or FAILED leaves STATE STAGING, and the end of a check that was running leaves it
  there: its verdict, whatever it is, is void. Formalises R74. -/
def Obligations.StagedWriteVoidsCheck : Prop :=
  ∀ (who : Initiator) (page : Fin 256) (reg : Fin 512) (data : BitVec 32) (s : State), s.barred who (page.val * 4096 + 0x800 + 4 * reg.val) true = 0
    → (s.stage = 2 ∨ s.stage = 3 ∨ s.stage = 4) → who.id ≠ 0 → (s.rd F.CROWN_STAGE_OWNER_SESSION = 0 ∨ s.rd F.CROWN_STAGE_OWNER_SESSION = who.id) →
    rwsReg (page.val * 4096 + 4 * reg.val) = true → Gives (.stagedWrite who page reg data) s fun t => t.accErr = 0 ∧ t.stage = 1 ∧ Gives
    .checkComplete t fun u => u.stage = 1

/-- A request for TRANSPORT or SERVICE from the non-secure world is refused with result code 4 in every mode, HOLD included, and accounted for as a
  cross-world attempt: shown in the XW registers and recorded at severity 5, or counted towards the next record where the session has one within the
  last second (R91). Formalises R43. -/
def Obligations.ForeignWorldRequests : Prop :=
  (∀ (who : Initiator) (s : State), s.barred who A.CROWN_MODE_REQ true = 0 → s.secureOf who = false → (match s.host.xwSec.find? (·.1 == who.id) with
    | some e => decide (e.2 + 1000000000 ≤ s.mono) | none => true) = true → Gives (.modeReqTransport who) s fun t => t.rd F.CROWN_MODE_REQ_RESULT = 4
    ∧ t.mode = s.mode ∧ t.q91.dropLast = s.q91 ∧ (t.q91.getLast?.map fun r => (r.sev, r.source, r.ev)) = some (5, 0x01, .crossWorld) ∧ t.rd
    F.WORLD_XW_LAST_ADDR = A.CROWN_MODE_REQ ∧ t.rd F.WORLD_XW_LAST_WRITE = 1 ∧ t.rd F.WORLD_XW_LAST_SESSION = who.id) ∧
  (∀ (who : Initiator) (s : State), s.barred who A.CROWN_MODE_REQ true = 0 → s.secureOf who = false → (match s.host.xwSec.find? (·.1 == who.id) with
    | some e => decide (e.2 + 1000000000 ≤ s.mono) | none => true) = true → Gives (.modeReqService who) s fun t => t.rd F.CROWN_MODE_REQ_RESULT = 4 ∧
    t.mode = s.mode ∧ t.q91.dropLast = s.q91 ∧ (t.q91.getLast?.map fun r => (r.sev, r.source, r.ev)) = some (5, 0x01, .crossWorld) ∧ t.rd
    F.WORLD_XW_LAST_ADDR = A.CROWN_MODE_REQ ∧ t.rd F.WORLD_XW_LAST_WRITE = 1 ∧ t.rd F.WORLD_XW_LAST_SESSION = who.id) ∧
  (∀ (who : Initiator) (s : State), s.barred who A.CROWN_MODE_REQ true = 0 → s.secureOf who = false → (match s.host.xwSec.find? (·.1 == who.id) with
    | some e => decide (e.2 + 1000000000 ≤ s.mono) | none => true) = false → Gives (.modeReqTransport who) s fun t => t.rd F.CROWN_MODE_REQ_RESULT =
    4 ∧ t.mode = s.mode ∧ t.q91 = s.q91 ∧ mget 0 t.host.xwSkipped who.id = mget 0 s.host.xwSkipped who.id + 1 ∧ t.rd F.WORLD_XW_LAST_ADDR =
    A.CROWN_MODE_REQ ∧ t.rd F.WORLD_XW_LAST_WRITE = 1 ∧ t.rd F.WORLD_XW_LAST_SESSION = who.id) ∧
  (∀ (who : Initiator) (s : State), s.barred who A.CROWN_MODE_REQ true = 0 → s.secureOf who = false → (match s.host.xwSec.find? (·.1 == who.id) with
    | some e => decide (e.2 + 1000000000 ≤ s.mono) | none => true) = false → Gives (.modeReqService who) s fun t => t.rd F.CROWN_MODE_REQ_RESULT = 4
    ∧ t.mode = s.mode ∧ t.q91 = s.q91 ∧ mget 0 t.host.xwSkipped who.id = mget 0 s.host.xwSkipped who.id + 1 ∧ t.rd F.WORLD_XW_LAST_ADDR =
    A.CROWN_MODE_REQ ∧ t.rd F.WORLD_XW_LAST_WRITE = 1 ∧ t.rd F.WORLD_XW_LAST_SESSION = who.id)
end

