-- ==== Sys2Proof/Laws/Table.lean ====
section
/-!
SUPPORT. Laws of the sparse tables: what a read gives after a write, and that a write keeps the canonical form.
-/
set_option Elab.async false
set_option linter.unusedSimpArgs false
set_option linter.unusedVariables false
set_option linter.unusedTactic false
set_option linter.unreachableTactic false
namespace Sys2Proof.Machine
open Sys2Proof

variable {α : Type}

theorem mget_mdel (d : α) (m : List (Nat × α)) (k j : Nat) : mget d (mdel m k) j = if k = j then d else mget d m j := by
  induction m with
  | nil => simp [mdel, mget]
  | cons e t ih =>
    obtain ⟨a, v⟩ := e
    by_cases hak : a = k
    · simp only [mdel, mget, if_pos hak, ih]
      subst hak
      split <;> rfl
    · simp only [mdel, mget, if_neg hak, ih]
      by_cases haj : a = j
      · simp only [if_pos haj, if_neg (show ¬ k = j by omega)]
      · simp only [if_neg haj]

theorem mget_mins_same (d : α) (m : List (Nat × α)) (k : Nat) (v : α) (h : ∀ e ∈ m, e.1 ≠ k) : mget d (mins m k v) k = v := by
  induction m with
  | nil => simp [mins, mget]
  | cons e t ih =>
    obtain ⟨a, w⟩ := e
    have ha : a ≠ k := h _ (List.mem_cons_self ..)
    simp only [mins]
    split
    · simp [mget]
    · simp only [mget, if_neg ha]
      exact ih fun e he => h e (List.mem_cons_of_mem _ he)

theorem mget_mins_other (d : α) (m : List (Nat × α)) (k j : Nat) (v : α) (h : k ≠ j) : mget d (mins m k v) j = mget d m j := by
  induction m with
  | nil => simp [mins, mget, h]
  | cons e t ih =>
    obtain ⟨a, w⟩ := e
    simp only [mins]
    split
    · simp [mget, h]
    · simp only [mget, ih]

theorem mdel_ne (m : List (Nat × α)) (k : Nat) : ∀ e ∈ mdel m k, e.1 ≠ k := by
  induction m with
  | nil => simp [mdel]
  | cons e t ih =>
    obtain ⟨a, w⟩ := e
    simp only [mdel]
    split
    · exact ih
    · intro e he
      rcases List.mem_cons.1 he with rfl | he
      · assumption
      · exact ih e he

/-- A read after a write of a sparse table: the value written at its index, every other index as before. -/
theorem mget_mset [DecidableEq α] (d : α) (m : List (Nat × α)) (k : Nat) (v : α) (j : Nat) :
    mget d (mset d m k v) j = if k = j then v else mget d m j := by
  unfold mset
  by_cases hv : v = d
  · rw [if_pos hv, mget_mdel, hv]
  · simp only [if_neg hv]
    by_cases hk : k = j
    · subst hk
      simp only [if_true]
      exact mget_mins_same d _ k v (mdel_ne m k)
    · simp only [if_neg hk]
      rw [mget_mins_other d _ k j v hk, mget_mdel, if_neg hk]

/-- A write leaves every other index, whatever an unlisted index reads as there. -/
theorem mget_mset_ne [DecidableEq α] (d d' : α) (m : List (Nat × α)) {k j : Nat} (v : α) (h : k ≠ j) :
    mget d' (mset d m k v) j = mget d' m j := by
  unfold mset
  split
  · rw [mget_mdel, if_neg h]
  · rw [mget_mins_other d' _ k j v h, mget_mdel, if_neg h]

theorem mrising_iff (m : List (Nat × α)) : mrising m = true ↔ m.Pairwise (fun a b => a.1 < b.1) := by
  induction m with
  | nil => simp [mrising]
  | cons e t ih =>
    obtain ⟨a, v⟩ := e
    cases t with
    | nil => simp [mrising]
    | cons e' t =>
      obtain ⟨b, w⟩ := e'
      simp only [mrising, Bool.and_eq_true, decide_eq_true_eq, ih, List.pairwise_cons]
      constructor
      · rintro ⟨hab, hb, ht⟩
        refine ⟨?_, hb, ht⟩
        intro x hx
        rcases List.mem_cons.1 hx with rfl | hx
        · exact hab
        · exact lt_trans hab (hb x hx)
      · rintro ⟨ha, hb, ht⟩
        exact ⟨ha _ (List.mem_cons_self ..), hb, ht⟩

theorem mem_mdel {m : List (Nat × α)} {k : Nat} {e : Nat × α} (h : e ∈ mdel m k) : e ∈ m := by
  induction m with
  | nil => simp [mdel] at h
  | cons e' t ih =>
    obtain ⟨a, w⟩ := e'
    simp only [mdel] at h
    split at h
    · exact List.mem_cons_of_mem _ (ih h)
    · rcases List.mem_cons.1 h with rfl | h
      · exact List.mem_cons_self ..
      · exact List.mem_cons_of_mem _ (ih h)

theorem mem_mins {m : List (Nat × α)} {k : Nat} {v : α} {e : Nat × α} (h : e ∈ mins m k v) : e = (k, v) ∨ e ∈ m := by
  induction m with
  | nil => simpa [mins] using h
  | cons e' t ih =>
    obtain ⟨a, w⟩ := e'
    simp only [mins] at h
    split at h
    · rcases List.mem_cons.1 h with rfl | h
      · exact .inl rfl
      · exact .inr h
    · rcases List.mem_cons.1 h with rfl | h
      · exact .inr (List.mem_cons_self ..)
      · rcases ih h with rfl | h
        · exact .inl rfl
        · exact .inr (List.mem_cons_of_mem _ h)

theorem mdel_pairwise {m : List (Nat × α)} (k : Nat) (h : m.Pairwise fun a b => a.1 < b.1) : (mdel m k).Pairwise fun a b => a.1 < b.1 := by
  induction m with
  | nil => simp [mdel]
  | cons e t ih =>
    obtain ⟨a, w⟩ := e
    have h' := List.pairwise_cons.1 h
    simp only [mdel]
    split
    · exact ih h'.2
    · exact List.pairwise_cons.2 ⟨fun x hx => h'.1 x (mem_mdel hx), ih h'.2⟩

theorem mins_pairwise {m : List (Nat × α)} {k : Nat} {v : α} (hk : ∀ e ∈ m, e.1 ≠ k) (h : m.Pairwise fun a b => a.1 < b.1) :
    (mins m k v).Pairwise fun a b => a.1 < b.1 := by
  induction m with
  | nil => simp [mins]
  | cons e t ih =>
    obtain ⟨a, w⟩ := e
    have h' := List.pairwise_cons.1 h
    simp only [mins]
    split
    case isTrue hlt =>
      refine List.pairwise_cons.2 ⟨fun x hx => ?_, h⟩
      rcases List.mem_cons.1 hx with rfl | hx
      · exact hlt
      · exact lt_trans hlt (h'.1 x hx)
    case isFalse hge =>
      refine List.pairwise_cons.2 ⟨fun x hx => ?_, ih (fun e he => hk e (List.mem_cons_of_mem _ he)) h'.2⟩
      rcases mem_mins hx with rfl | hx
      · have := hk _ (List.mem_cons_self ..)
        show a < k
        have hne : a ≠ k := this
        omega
      · exact h'.1 x hx

/-- A write keeps the indices of a sparse table rising. -/
theorem mset_rising [DecidableEq α] (d : α) (m : List (Nat × α)) (k : Nat) (v : α) (h : mrising m = true) : mrising (mset d m k v) = true := by
  rw [mrising_iff] at h ⊢
  unfold mset
  split
  · exact mdel_pairwise k h
  · exact mins_pairwise (mdel_ne m k) (mdel_pairwise k h)

/-- What a write lists: the entry written, which differs from the default, or an entry listed before. -/
theorem mem_mset [DecidableEq α] {d : α} {m : List (Nat × α)} {k : Nat} {v : α} {e : Nat × α} (h : e ∈ mset d m k v) : (e = (k, v) ∧ v ≠ d) ∨ e ∈ m := by
  unfold mset at h
  split at h
  · exact .inr (mem_mdel h)
  case isFalse hv =>
    rcases mem_mins h with rfl | h
    · exact .inl ⟨rfl, hv⟩
    · exact .inr (mem_mdel h)

end Sys2Proof.Machine
end

