-- ==== Sys2Proof/Laws/Fields.lean ====
section
/-!
SUPPORT. Laws of register fields: what a field reads after a write of a field, and what the plain operations leave of every part of the state.
-/
set_option Elab.async false
set_option linter.unusedSimpArgs false
set_option linter.unusedVariables false
set_option linter.unusedTactic false
set_option linter.unreachableTactic false
namespace Sys2Proof.Machine
open Sys2Proof

theorem nat_field_split (w lo wd : Nat) : w = 2 ^ (lo + wd) * (w / 2 ^ (lo + wd)) + (2 ^ lo * (w / 2 ^ lo % 2 ^ wd) + w % 2 ^ lo) := by
  have h1 := Nat.div_add_mod w (2 ^ lo)
  have h2 := Nat.div_add_mod (w / 2 ^ lo) (2 ^ wd)
  rw [Nat.div_div_eq_div_mul, ← Nat.pow_add] at h2
  have h3 : 2 ^ lo * (w / 2 ^ lo) = 2 ^ lo * (2 ^ wd * (w / 2 ^ (lo + wd))) + 2 ^ lo * (w / 2 ^ lo % 2 ^ wd) := by
    rw [← Nat.mul_add, h2]
  rw [← Nat.mul_assoc, ← Nat.pow_add] at h3
  omega

theorem nat_field_lt (lo wd a b : Nat) (ha : a < 2 ^ wd) (hb : b < 2 ^ lo) : 2 ^ lo * a + b < 2 ^ (lo + wd) := by
  have : 2 ^ lo * a + 2 ^ lo ≤ 2 ^ lo * 2 ^ wd := by
    rw [← Nat.mul_succ]
    exact Nat.mul_le_mul_left _ ha
  rw [Nat.pow_add]
  omega

/-- A field replaced, as a sum of what lies above, in and below it. -/
theorem nat_field_put (w lo wd n : Nat) : w - w / 2 ^ lo % 2 ^ wd * 2 ^ lo + n % 2 ^ wd * 2 ^ lo =
    2 ^ (lo + wd) * (w / 2 ^ (lo + wd)) + (2 ^ lo * (n % 2 ^ wd) + w % 2 ^ lo) := by
  have h := nat_field_split w lo wd
  have e1 : w / 2 ^ lo % 2 ^ wd * 2 ^ lo = 2 ^ lo * (w / 2 ^ lo % 2 ^ wd) := Nat.mul_comm ..
  have e2 : n % 2 ^ wd * 2 ^ lo = 2 ^ lo * (n % 2 ^ wd) := Nat.mul_comm ..
  omega

theorem nat_put_testBit (w lo wd n j : Nat) : (2 ^ (lo + wd) * (w / 2 ^ (lo + wd)) + (2 ^ lo * (n % 2 ^ wd) + w % 2 ^ lo)).testBit j =
    if lo ≤ j ∧ j < lo + wd then n.testBit (j - lo) else w.testBit j := by
  have hb : w % 2 ^ lo < 2 ^ lo := Nat.mod_lt _ (Nat.two_pow_pos lo)
  have ha : n % 2 ^ wd < 2 ^ wd := Nat.mod_lt _ (Nat.two_pow_pos wd)
  rw [Nat.testBit_two_pow_mul_add _ (nat_field_lt lo wd _ _ ha hb), Nat.testBit_two_pow_mul_add _ hb]
  by_cases h1 : j < lo
  · have h2 : j < lo + wd := by omega
    simp [h1, h2, Nat.testBit_mod_two_pow, show ¬ lo ≤ j by omega]
  · by_cases h2 : j < lo + wd
    · simp [h1, h2, Nat.testBit_mod_two_pow, show lo ≤ j by omega, show j - lo < wd by omega]
    · simp [h2, Nat.testBit_div_two_pow]
      congr 1
      omega

theorem nat_put_lt (w lo wd n k : Nat) (hw : w < 2 ^ k) (hf : lo + wd ≤ k) :
    2 ^ (lo + wd) * (w / 2 ^ (lo + wd)) + (2 ^ lo * (n % 2 ^ wd) + w % 2 ^ lo) < 2 ^ k := by
  apply Nat.lt_pow_two_of_testBit
  intro j hj
  rw [nat_put_testBit]
  rw [if_neg (by omega)]
  exact Nat.testBit_lt_two_pow (lt_of_lt_of_le hw (Nat.pow_le_pow_right (by decide) hj))

theorem Fld.put_testBit (f : Fld) (w : Word) (n j : Nat) (hf : f.fits) : (f.put w n).toNat.testBit j =
    if f.lo ≤ j ∧ j < f.lo + f.width then n.testBit (j - f.lo) else w.toNat.testBit j := by
  have h : (f.put w n).toNat = 2 ^ (f.lo + f.width) * (w.toNat / 2 ^ (f.lo + f.width)) + (2 ^ f.lo * (n % 2 ^ f.width) + w.toNat % 2 ^ f.lo) := by
    unfold Fld.put Fld.get
    rw [nat_field_put]
    show (BitVec.ofNat 32 _).toNat = _
    rw [BitVec.toNat_ofNat]
    exact Nat.mod_eq_of_lt (nat_put_lt _ _ _ _ 32 w.isLt hf)
  rw [h, nat_put_testBit]

theorem Fld.get_testBit (f : Fld) (w : Word) (j : Nat) : (f.get w).testBit j = (decide (j < f.width) && w.toNat.testBit (f.lo + j)) := by
  unfold Fld.get
  rw [Nat.testBit_mod_two_pow, Nat.testBit_div_two_pow, Nat.add_comm]

/-- A field reads what was last written to it, modulo its width. -/
theorem Fld.get_put (f : Fld) (w : Word) (n : Nat) (hf : f.fits) : f.get (f.put w n) = n % 2 ^ f.width := by
  apply Nat.eq_of_testBit_eq
  intro j
  rw [Fld.get_testBit, Fld.put_testBit f w n _ hf, Nat.testBit_mod_two_pow]
  by_cases h : j < f.width
  · simp [h]
  · simp [h]

/-- A write of a field leaves the bits of every field apart from it in the same register. -/
theorem Fld.get_put_apart (f g : Fld) (w : Word) (n : Nat) (hf : f.fits) (h : f.lo + f.width ≤ g.lo ∨ g.lo + g.width ≤ f.lo) :
    g.get (f.put w n) = g.get w := by
  apply Nat.eq_of_testBit_eq
  intro j
  rw [Fld.get_testBit, Fld.get_testBit, Fld.put_testBit f w n _ hf]
  by_cases hj : j < g.width
  · rw [if_neg (by omega)]
  · simp [hj]

theorem State.word_setWord (s : State) (a b : Nat) (w : Word) : (s.setWord a w).word b = if a = b then w else s.word b := by
  unfold State.word State.setWord
  dsimp only
  by_cases h : a = b
  · subst h
    rw [mget_mset]
  · rw [mget_mset_ne _ _ _ _ h, if_neg h]

@[simp] theorem State.word_setWord_same (s : State) (a : Nat) (w : Word) : (s.setWord a w).word a = w := by
  rw [State.word_setWord, if_pos rfl]

theorem State.word_setWord_ne (s : State) {a b : Nat} (w : Word) (h : a ≠ b) : (s.setWord a w).word b = s.word b := by
  rw [State.word_setWord, if_neg h]

/-- A field reads what was written to it. -/
theorem State.rd_wr (s : State) (f : Fld) (n : Nat) (hf : f.fits) : (s.wr f n).rd f = n % 2 ^ f.width := by
  unfold State.rd State.wr
  rw [State.word_setWord_same, Fld.get_put f _ n hf]

/-- A write of a field leaves every field apart from it. -/
theorem State.rd_wr_apart (s : State) (f g : Fld) (n : Nat) (hf : f.fits) (h : f.apart g) : (s.wr f n).rd g = s.rd g := by
  unfold State.rd State.wr
  by_cases ha : f.addr = g.addr
  · rw [← ha, State.word_setWord_same]
    exact Fld.get_put_apart f g _ n hf (h.resolve_left fun n => n ha)
  · rw [State.word_setWord_ne s _ ha]

/-- A write of a field leaves every other register. -/
theorem State.word_wr_ne (s : State) (f : Fld) (n a : Nat) (h : f.addr ≠ a) : (s.wr f n).word a = s.word a :=
  State.word_setWord_ne s _ h

end Sys2Proof.Machine
end

