-- ==== Sys2Proof/Laws/RdIs.lean ====
section
/-!
SUPPORT. How operations that leave a register field combine. RdIs f v s says that field f reads v in s.
-/
set_option Elab.async false
set_option linter.unusedSimpArgs false
set_option linter.unusedVariables false
set_option linter.unusedTactic false
set_option linter.unreachableTactic false
namespace Sys2Proof.Machine
open Sys2Proof

/-- Field f reads v. -/
def RdIs (f : Fld) (v : Nat) (s : State) : Prop := s.rd f = v

/-- A write of field f cannot change what g reads: another register, or bits apart in the same one. -/
abbrev Fld.clear (f g : Fld) : Prop := f.addr ≠ g.addr ∨ (f.lo + f.width ≤ 32 ∧ (f.lo + f.width ≤ g.lo ∨ g.lo + g.width ≤ f.lo))

variable {G : Fld} {v0 : Nat}

theorem State.wr_rdIs {s : State} {f : Fld} {n : Nat} (c : f.clear G) (h : RdIs G v0 s) : RdIs G v0 (s.wr f n) := by
  unfold RdIs
  rcases c with c | ⟨hf, c⟩
  · exact (congrArg G.get (State.word_setWord_ne s _ c)).trans h
  · exact (State.rd_wr_apart s f G n hf (.inr c)).trans h

theorem State.wrB_rdIs {s : State} {f : Fld} {b : Bool} (c : f.clear G) (h : RdIs G v0 s) : RdIs G v0 (s.wrB f b) := State.wr_rdIs c h

theorem State.wrI_rdIs {s : State} {f : Fld} {i : Int} (c : f.clear G) (h : RdIs G v0 s) : RdIs G v0 (s.wrI f i) := State.wr_rdIs c h

theorem State.bump_rdIs {s : State} {f : Fld} {n : Nat} (c : f.clear G) (h : RdIs G v0 s) : RdIs G v0 (s.bump f n) := State.wr_rdIs c h

theorem State.wrBit_rdIs {s : State} {f : Fld} {k : Nat} {b : Bool} (c : f.clear G) (h : RdIs G v0 s) : RdIs G v0 (s.wrBit f k b) :=
  State.wr_rdIs c h

theorem rdIs_ite {c : Prop} [Decidable c] {a b : State} (ha : RdIs G v0 a) (hb : RdIs G v0 b) : RdIs G v0 (if c then a else b) := by
  split <;> assumption

theorem rdIs_out_ite {c : Prop} [Decidable c] {a b : Host.Outcome State Fault Refusal} (ha : ∃ t, a = .next t ∧ RdIs G v0 t)
    (hb : ∃ t, b = .next t ∧ RdIs G v0 t) : ∃ t, (if c then a else b) = .next t ∧ RdIs G v0 t := by
  split <;> assumption

theorem rdIs_foldl {α : Type} {f : State → α → State} {s : State} {l : List α} (h : RdIs G v0 s)
    (hf : ∀ t x, RdIs G v0 t → RdIs G v0 (f t x)) : RdIs G v0 (l.foldl f s) := by
  induction l generalizing s with
  | nil => exact h
  | cons a t ih => exact ih (hf _ _ h)

theorem rdIs_foldl_fst {α β : Type} {f : State × β → α → State × β} {s : State × β} {l : List α} (h : RdIs G v0 s.1)
    (hf : ∀ t x, RdIs G v0 t.1 → RdIs G v0 (f t x).1) : RdIs G v0 (l.foldl f s).1 := by
  induction l generalizing s with
  | nil => exact h
  | cons a t ih => exact ih (hf _ _ h)

theorem rdIs_foldl_st {α : Type} {f : ScanEval → α → ScanEval} {s : ScanEval} {l : List α} (h : RdIs G v0 s.st)
    (hf : ∀ t x, RdIs G v0 t.st → RdIs G v0 (f t x).st) : RdIs G v0 (l.foldl f s).st := by
  induction l generalizing s with
  | nil => exact h
  | cons a t ih => exact ih (hf _ _ h)

theorem rdIs_opt_some {s : State} (h : RdIs G v0 s) : ∀ t, some s = some t → RdIs G v0 t := by
  intro t e; cases e; exact h

theorem rdIs_opt_none : ∀ t, (none : Option State) = some t → RdIs G v0 t := by
  intro t e; cases e

theorem rdIs_opt_ite {c : Prop} [Decidable c] {a b : Option State} (ha : ∀ t, a = some t → RdIs G v0 t) (hb : ∀ t, b = some t → RdIs G v0 t) :
    ∀ t, (if c then a else b) = some t → RdIs G v0 t := by
  split <;> assumption

theorem rdIs_of_eq {a b : State} (e : a = b) (h : RdIs G v0 a) : RdIs G v0 b := e ▸ h

theorem rdIs_of_fst {β : Type} {p : State × β} {a : State} {b : β} (e : p = (a, b)) (h : RdIs G v0 p.1) : RdIs G v0 a := by
  subst e; exact h

theorem rdIs_of_snd {β : Type} {p : β × State} {a : State} {b : β} (e : p = (b, a)) (h : RdIs G v0 p.2) : RdIs G v0 a := by
  subst e; exact h

theorem rdIs_of_snd2 {β γ : Type} {p : β × γ × State} {a : State} {b : β} {c : γ} (e : p = (b, c, a)) (h : RdIs G v0 p.2.2) : RdIs G v0 a := by
  subst e; exact h

theorem rdIs_of_snd3 {β γ δ : Type} {p : β × γ × δ × State} {a : State} {b : β} {c : γ} {d : δ} (e : p = (b, c, d, a))
    (h : RdIs G v0 p.2.2.2) : RdIs G v0 a := by
  subst e; exact h

theorem rdIs_of_some {o : Option State} {a : State} (e : o = some a) (h : ∀ t, o = some t → RdIs G v0 t) : RdIs G v0 a := h a e

/-- A record update that keeps the registers. -/
theorem rdIs_upd {s : State} (h : RdIs G v0 s)
    {a1 : List (Nat × Word)} {a2 : List (Nat × Word)} {a3 : List Instr} {a4 : List Out} {a5 : Nat} {a6 : Nat} {a7 : List Word} {a8 : Readings} {a9 : List (Nat × TimeBase)} {a10 : Crown} {a11 : Staging} {a12 : List Sub} {a13 : Pwm} {a14 : Loop} {a15 : Track} {a16 : Prot} {a17 : HostPort} {a18 : List (Nat × RkSession)} {a19 : Scan} {a20 : Imped} {a21 : Est} {a22 : Tmx} {a23 : Disp} {a24 : Engines} {a25 : Ring} {a26 : Harvest} {a27 : Bal} {a28 : Therm} {a29 : Tele} {a30 : Nvm} {a31 : Times} {a32 : Can} {a33 : Pair} {a34 : Alm} :
    RdIs G v0 (State.mk s.regs a1 a2 a3 a4 a5 a6 a7 a8 a9 a10 a11 a12 a13 a14 a15 a16 a17 a18 a19 a20 a21 a22 a23 a24 a25 a26 a27 a28 a29 a30 a31 a32 a33 a34) := h

end Sys2Proof.Machine
end

