-- ==== Sys2Proof/Laws/Mode.lean ====
section
/-!
SUPPORT. What leaves CROWN.MODE.MODE as it is: one lemma for each operation and each command that changes no mode.
-/
set_option Elab.async false
set_option linter.unusedSimpArgs false
set_option linter.unusedVariables false
set_option linter.unusedTactic false
set_option linter.unreachableTactic false
namespace Sys2Proof.Machine
open Sys2Proof

variable {v0 : Nat}

theorem State.setCanCh_mode {s : State} {c : ℕ} {x : CanCh} (h0' : RdIs F.CROWN_MODE_MODE v0 s) : RdIs F.CROWN_MODE_MODE v0 (State.setCanCh s c x) := by
  unfold State.setCanCh
  exact rdIs_upd h0'

theorem State.canIntegrate_mode {s : State} {c : ℕ} (h0' : RdIs F.CROWN_MODE_MODE v0 s) : RdIs F.CROWN_MODE_MODE v0 (State.canIntegrate s c) := by
  unfold State.canIntegrate
  refine rdIs_ite ?_ ?_
  · refine State.setCanCh_mode ?_
    refine State.wr_rdIs ?_ ?_
    · (refine .inl ?_; simp only [evtStatus, pageFld, Fld.bank, F.CAN_STATUS_STATE]; omega)
    · exact h0'
  · exact h0'

theorem State.drawFree_mode {s : State} (h0' : RdIs F.CROWN_MODE_MODE v0 s) : RdIs F.CROWN_MODE_MODE v0 (State.drawFree s).2 := by
  unfold State.drawFree
  dsimp only
  exact rdIs_upd h0'

theorem State.driveCool_mode {s : State} (h0' : RdIs F.CROWN_MODE_MODE v0 s) : RdIs F.CROWN_MODE_MODE v0 (State.driveCool s) := by
  unfold State.driveCool
  extract_lets s1
  clear_value s1
  refine rdIs_foldl ?_ ?_
  · exact h0'
  · intro s2 x3 h4
    refine State.wr_rdIs ?_ ?_
    · (refine .inl ?_; simp only [evtStatus, pageFld, Fld.bank, F.THERM_COOL_C_DUTY]; omega)
    · exact h4

theorem State.erase_mode {s : State} {sector : ℕ} (h0' : RdIs F.CROWN_MODE_MODE v0 s) : RdIs F.CROWN_MODE_MODE v0 (State.erase s sector) := by
  unfold State.erase
  extract_lets s1 s2
  rename_i s3
  have h4 : RdIs F.CROWN_MODE_MODE v0 s3 := by
    unfold s3
    exact rdIs_upd h0'
  clear_value s1 s2 s3
  refine rdIs_ite ?_ ?_
  · refine State.wr_rdIs ?_ ?_
    · decide
    · exact h4
  · exact h4

theorem State.lasting_mode {s : State} {page : ℕ} {code : ℕ} (h0' : RdIs F.CROWN_MODE_MODE v0 s) : RdIs F.CROWN_MODE_MODE v0 (State.lasting s page code) := by
  unfold State.lasting
  refine State.bump_rdIs ?_ ?_
  · (refine .inl ?_; simp only [evtStatus, pageFld, Fld.bank]; omega)
  · refine State.wr_rdIs ?_ ?_
    · (refine .inl ?_; simp only [evtStatus, pageFld, Fld.bank]; omega)
    · exact h0'

theorem State.record_mode {s : State} {sev : ℕ} {source : ℕ} {ev : Ev} {data : optParam (List ℤ) []} {same : optParam Bool false} (h0' : RdIs F.CROWN_MODE_MODE v0 s) : RdIs F.CROWN_MODE_MODE v0 (State.record s sev source ev data same) := by
  unfold State.record
  exact rdIs_upd h0'

theorem State.lastingW_mode {s : State} {page : ℕ} {ev : Ev} {data : optParam (List ℤ) []} {same : optParam Bool false} (h0' : RdIs F.CROWN_MODE_MODE v0 s) : RdIs F.CROWN_MODE_MODE v0 (State.lastingW s page ev data same) := by
  unfold State.lastingW
  refine State.record_mode ?_
  refine State.lasting_mode ?_
  exact h0'

theorem State.send_mode {s : State} {o : Out} (h0' : RdIs F.CROWN_MODE_MODE v0 s) : RdIs F.CROWN_MODE_MODE v0 (State.send s o) := by
  unfold State.send
  exact rdIs_upd h0'

theorem State.mirror_mode {s : State} {m : Mirror} (h0' : RdIs F.CROWN_MODE_MODE v0 s) : RdIs F.CROWN_MODE_MODE v0 (State.mirror s m) := by
  unfold State.mirror
  refine rdIs_ite ?_ ?_
  · extract_lets s1 s2
    rename_i x3
    clear_value s1 s2 x3
    refine State.send_mode ?_
    exact rdIs_upd h0'
  · exact h0'

theorem State.notify_mode {s : State} {page : ℕ} {bit : ℕ} {session : optParam (Option ℕ) none} (h0' : RdIs F.CROWN_MODE_MODE v0 s) : RdIs F.CROWN_MODE_MODE v0 (State.notify s page bit session) := by
  unfold State.notify
  extract_lets s1 s2 s3
  rename_i s4
  have h5 : RdIs F.CROWN_MODE_MODE v0 s2 := by
    unfold s2
    refine rdIs_ite ?_ ?_
    · exact rdIs_upd h0'
    · exact h0'
  have h6 : RdIs F.CROWN_MODE_MODE v0 s4 := by
    unfold s4
    refine rdIs_ite ?_ ?_
    · exact rdIs_upd h5
    · exact h5
  clear_value s1 s2 s3 s4
  refine rdIs_ite ?_ ?_
  · refine State.record_mode ?_
    exact h6
  · exact h6

theorem State.raise_mode {s : State} {page : ℕ} {bit : ℕ} (h0' : RdIs F.CROWN_MODE_MODE v0 s) : RdIs F.CROWN_MODE_MODE v0 (State.raise s page bit) := by
  unfold State.raise
  refine rdIs_ite ?_ ?_
  · exact h0'
  · extract_lets s1
    have h2 : RdIs F.CROWN_MODE_MODE v0 s1 := by
      unfold s1
      refine State.wrBit_rdIs ?_ ?_
      · (refine .inl ?_; simp only [evtStatus, pageFld, Fld.bank]; omega)
      · exact h0'
    clear_value s1
    refine rdIs_ite ?_ ?_
    · refine State.notify_mode ?_
      exact h2
    · exact h2

theorem State.raiseBank_mode {s : State} {session : ℕ} {page : ℕ} {bit : ℕ} (h0' : RdIs F.CROWN_MODE_MODE v0 s) : RdIs F.CROWN_MODE_MODE v0 (State.raiseBank s session page bit) := by
  unfold State.raiseBank
  refine rdIs_ite ?_ ?_
  · exact h0'
  · extract_lets s1
    have h2 : RdIs F.CROWN_MODE_MODE v0 s1 := by
      unfold s1
      refine State.wrBit_rdIs ?_ ?_
      · (refine .inl ?_; simp only [evtStatus, pageFld, Fld.bank]; omega)
      · exact h0'
    clear_value s1
    refine rdIs_ite ?_ ?_
    · refine State.notify_mode ?_
      exact h2
    · exact h2

theorem State.retryPass_mode {s : State} {page : ℕ} (h0' : RdIs F.CROWN_MODE_MODE v0 s) : RdIs F.CROWN_MODE_MODE v0 (State.retryPass s page) := by
  unfold State.retryPass
  refine State.record_mode ?_
  refine State.bump_rdIs ?_ ?_
  · (refine .inl ?_; simp only [evtStatus, pageFld, Fld.bank]; omega)
  · exact h0'

theorem State.setCoil_mode {s : State} {k : ℕ} {c : Coil} (h0' : RdIs F.CROWN_MODE_MODE v0 s) : RdIs F.CROWN_MODE_MODE v0 (State.setCoil s k c) := by
  unfold State.setCoil
  exact rdIs_upd h0'

theorem State.setCool_mode {s : State} {k : ℕ} {c : Cool} (h0' : RdIs F.CROWN_MODE_MODE v0 s) : RdIs F.CROWN_MODE_MODE v0 (State.setCool s k c) := by
  unfold State.setCool
  exact rdIs_upd h0'

theorem State.setPhase_mode {s : State} {n : ℕ} {p : Phase} (h0' : RdIs F.CROWN_MODE_MODE v0 s) : RdIs F.CROWN_MODE_MODE v0 (State.setPhase s n p) := by
  unfold State.setPhase
  exact rdIs_upd h0'

theorem State.showLastSeq_mode {s : State} (h0' : RdIs F.CROWN_MODE_MODE v0 s) : RdIs F.CROWN_MODE_MODE v0 (State.showLastSeq s) := by
  unfold State.showLastSeq
  refine State.wr_rdIs ?_ ?_
  · decide
  · exact h0'

theorem State.voidCheck_mode {s : State} {n : optParam ℕ 1} (h0' : RdIs F.CROWN_MODE_MODE v0 s) : RdIs F.CROWN_MODE_MODE v0 (State.voidCheck s n) := by
  unfold State.voidCheck
  refine State.bump_rdIs ?_ ?_
  · decide
  · exact h0'

theorem State.result_mode {s : State} {who : Initiator} {addr : ℕ} {code : ℕ} (h0' : RdIs F.CROWN_MODE_MODE v0 s) : RdIs F.CROWN_MODE_MODE v0 (State.result s who addr code) := by
  unfold State.result
  extract_lets s1
  rename_i x2 s3
  have h4 : RdIs F.CROWN_MODE_MODE v0 s1 := by
    unfold s1
    exact rdIs_upd h0'
  have h5 : RdIs F.CROWN_MODE_MODE v0 s3 := by
    unfold s3
    exact rdIs_upd h4
  clear_value s1 x2 s3
  split
  · rename_i x6
    refine rdIs_ite ?_ ?_
    · exact h5
    · refine State.wr_rdIs ?_ ?_
      · decide
      · refine State.wr_rdIs ?_ ?_
        · decide
        · exact h5
  · rename_i x7 e8
    exact h4

theorem State.crossWorld_mode {s : State} {who : Initiator} {addr : ℕ} {write : Bool} (h0' : RdIs F.CROWN_MODE_MODE v0 s) : RdIs F.CROWN_MODE_MODE v0 (State.crossWorld s who addr write) := by
  unfold State.crossWorld
  extract_lets s1 s2 s3
  rename_i x4 s5
  have h6 : RdIs F.CROWN_MODE_MODE v0 s1 := by
    unfold s1
    refine State.wr_rdIs ?_ ?_
    · decide
    · refine State.wrB_rdIs ?_ ?_
      · decide
      · refine State.wr_rdIs ?_ ?_
        · decide
        · refine State.bump_rdIs ?_ ?_
          · decide
          · exact h0'
  have h7 : RdIs F.CROWN_MODE_MODE v0 s5 := by
    unfold s5
    refine State.record_mode ?_
    exact h6
  clear_value s1 s2 s3 x4 s5
  split
  · rename_i x8 x9 x10 e11
    refine rdIs_ite ?_ ?_
    · exact rdIs_upd h6
    · exact rdIs_upd h7
  · rename_i x12 e13
    exact rdIs_upd h7

theorem State.refuseAccess_mode {s : State} {who : Initiator} {addr : ℕ} {write : Bool} {code : ℕ} (h0' : RdIs F.CROWN_MODE_MODE v0 s) : RdIs F.CROWN_MODE_MODE v0 (State.refuseAccess s who addr write code) := by
  unfold State.refuseAccess
  extract_lets s1
  have h2 : RdIs F.CROWN_MODE_MODE v0 s1 := by
    unfold s1
    refine State.result_mode ?_
    exact h0'
  clear_value s1
  refine rdIs_ite ?_ ?_
  · refine State.crossWorld_mode ?_
    exact h2
  · exact h2

theorem State.asRead_mode {s : State} {who : Initiator} {addr : ℕ} {k : State → State} (h0' : RdIs F.CROWN_MODE_MODE v0 s) (h3' : ∀ a0, RdIs F.CROWN_MODE_MODE v0 a0 → RdIs F.CROWN_MODE_MODE v0 (k a0)) : RdIs F.CROWN_MODE_MODE v0 (State.asRead s who addr k) := by
  unfold State.asRead
  extract_lets s1
  rename_i s2
  have h3 : RdIs F.CROWN_MODE_MODE v0 s2 := by
    unfold s2
    refine State.refuseAccess_mode ?_
    exact h0'
  clear_value s1 s2
  refine rdIs_ite ?_ ?_
  · apply h3'
    refine State.result_mode ?_
    exact h0'
  · exact rdIs_upd h3

theorem State.asWrite_mode {s : State} {who : Initiator} {addr : ℕ} {k : State → State} (h0' : RdIs F.CROWN_MODE_MODE v0 s) (h3' : ∀ a0, RdIs F.CROWN_MODE_MODE v0 a0 → RdIs F.CROWN_MODE_MODE v0 (k a0)) : RdIs F.CROWN_MODE_MODE v0 (State.asWrite s who addr k) := by
  unfold State.asWrite
  extract_lets s1
  clear_value s1
  refine rdIs_ite ?_ ?_
  · apply h3'
    refine State.result_mode ?_
    exact h0'
  · refine State.refuseAccess_mode ?_
    exact h0'

theorem State.authFailed_mode {s : State} {session : ℕ} (h0' : RdIs F.CROWN_MODE_MODE v0 s) : RdIs F.CROWN_MODE_MODE v0 (State.authFailed s session) := by
  unfold State.authFailed
  extract_lets s1 s2 s3
  rename_i x4 s5
  have h6 : RdIs F.CROWN_MODE_MODE v0 s3 := by
    unfold s3
    refine State.record_mode ?_
    exact h0'
  have h7 : RdIs F.CROWN_MODE_MODE v0 s5 := by
    unfold s5
    exact rdIs_upd h6
  clear_value s1 s2 s3 x4 s5
  split
  · rename_i x8 x9 x10 e11
    refine rdIs_ite ?_ ?_
    · exact rdIs_upd h0'
    · exact h7
  · rename_i x12 e13
    exact h7

theorem State.crossing_mode {s : State} {who : Initiator} {a : ℕ} {data : ℕ} {k : State → State} (h0' : RdIs F.CROWN_MODE_MODE v0 s) (h4' : ∀ a0, RdIs F.CROWN_MODE_MODE v0 a0 → RdIs F.CROWN_MODE_MODE v0 (k a0)) : RdIs F.CROWN_MODE_MODE v0 (State.crossing s who a data k) := by
  unfold State.crossing
  refine rdIs_ite ?_ ?_
  · exact rdIs_upd h0'
  · apply h4'
    exact h0'

theorem State.setFill_mode {s : State} {q' : ℕ} {n : ℕ} (h0' : RdIs F.CROWN_MODE_MODE v0 s) : RdIs F.CROWN_MODE_MODE v0 (State.setFill s q' n) := by
  unfold State.setFill
  extract_lets s1
  have h2 : RdIs F.CROWN_MODE_MODE v0 s1 := by
    unfold s1
    refine State.wr_rdIs ?_ ?_
    · (refine .inl ?_; simp only [evtStatus, pageFld, Fld.bank, F.QUEUE_QSTAT_FILL]; omega)
    · exact h0'
  clear_value s1
  refine rdIs_ite ?_ ?_
  · refine State.wr_rdIs ?_ ?_
    · (refine .inl ?_; simp only [evtStatus, pageFld, Fld.bank, F.QUEUE_QSTAT_PEAK]; omega)
    · exact h2
  · exact h2

theorem State.refill_mode {s : State} {q' : ℕ} (h0' : RdIs F.CROWN_MODE_MODE v0 s) : RdIs F.CROWN_MODE_MODE v0 (State.refill s q') := by
  unfold State.refill
  refine State.setFill_mode ?_
  exact h0'

theorem State.setRing_mode {s : State} {q' : ℕ} {r : StreamRing} (h0' : RdIs F.CROWN_MODE_MODE v0 s) : RdIs F.CROWN_MODE_MODE v0 (State.setRing s q' r) := by
  unfold State.setRing
  exact rdIs_upd h0'

theorem State.consume_mode {s : State} {q' : ℕ} {eseq : ℕ} (h0' : RdIs F.CROWN_MODE_MODE v0 s) : RdIs F.CROWN_MODE_MODE v0 (State.consume s q' eseq) := by
  unfold State.consume
  extract_lets s1
  clear_value s1
  refine State.refill_mode ?_
  refine State.setRing_mode ?_
  exact h0'

theorem State.graft_mode {s : State} {id : ℕ} {target : ℕ} (h0' : RdIs F.CROWN_MODE_MODE v0 s) : RdIs F.CROWN_MODE_MODE v0 (State.graft s id target) := by
  unfold State.graft
  extract_lets s1
  rename_i x2
  have h3 : RdIs F.CROWN_MODE_MODE v0 s1 := by
    unfold s1
    refine State.bump_rdIs ?_ ?_
    · decide
    · exact h0'
  clear_value s1 x2
  exact rdIs_upd h3

theorem State.overrun_mode {s : State} {q' : ℕ} {i : ℕ} (h0' : RdIs F.CROWN_MODE_MODE v0 s) : RdIs F.CROWN_MODE_MODE v0 (State.overrun s q' i) := by
  unfold State.overrun
  extract_lets s1
  clear_value s1
  split
  · rename_i x2 e3
    exact h0'
  · rename_i x4 x5 x6 e7
    refine rdIs_ite ?_ ?_
    · exact h0'
    · extract_lets s8 s9
      rename_i x10
      have h11 : RdIs F.CROWN_MODE_MODE v0 s8 := by
        unfold s8
        refine State.bump_rdIs ?_ ?_
        · (refine .inl ?_; simp only [evtStatus, pageFld, Fld.bank, F.QREAD_RLOST_LOST]; omega)
        · refine State.wrB_rdIs ?_ ?_
          · (refine .inl ?_; simp only [evtStatus, pageFld, Fld.bank, F.QREAD_RSTAT_TORN]; omega)
          · refine State.wrB_rdIs ?_ ?_
            · (refine .inl ?_; simp only [evtStatus, pageFld, Fld.bank, F.QREAD_RSTAT_OVERRUN]; omega)
            · exact h0'
      have h12 : RdIs F.CROWN_MODE_MODE v0 s9 := by
        unfold s9
        refine State.raiseBank_mode ?_
        exact h11
      clear_value s8 s9 x10
      exact rdIs_upd h12

theorem State.popEntry_mode {s : State} {i : ℕ} (h0' : RdIs F.CROWN_MODE_MODE v0 s) : RdIs F.CROWN_MODE_MODE v0 (State.popEntry s i) := by
  unfold State.popEntry
  split
  · rename_i x1 e2
    refine State.wr_rdIs ?_ ?_
    · (refine .inl ?_; simp only [evtStatus, pageFld, Fld.bank, F.QREAD_ROFS_OFS]; omega)
    · exact h0'
  · rename_i x3 x4 e5
    extract_lets s6 s7 s8 s9
    rename_i x10
    have h11 : RdIs F.CROWN_MODE_MODE v0 s8 := by
      unfold s8
      refine rdIs_ite ?_ ?_
      · refine State.refill_mode ?_
        refine State.setRing_mode ?_
        exact h0'
      · exact h0'
    have h12 : RdIs F.CROWN_MODE_MODE v0 s9 := by
      unfold s9
      refine State.wr_rdIs ?_ ?_
      · (refine .inl ?_; simp only [evtStatus, pageFld, Fld.bank, F.QREAD_ROFS_OFS]; omega)
      · exact h11
    clear_value s6 s7 s8 s9 x10
    exact rdIs_upd h12

theorem State.push_mode {s : State} {q' : ℕ} {bytes : List Byte} {used : Bool} (h0' : RdIs F.CROWN_MODE_MODE v0 s) : RdIs F.CROWN_MODE_MODE v0 (State.push s q' bytes used).1 := by
  unfold State.push
  extract_lets s1 s2 s3 s4
  rename_i s5
  have h6 : RdIs F.CROWN_MODE_MODE v0 s5 := by
    unfold s5
    refine State.setRing_mode ?_
    exact h0'
  clear_value s1 s2 s3 s4 s5
  split
  · rename_i e7
    dsimp only
    refine State.raise_mode ?_
    refine State.bump_rdIs ?_ ?_
    · (refine .inl ?_; simp only [evtStatus, pageFld, Fld.bank, F.QUEUE_DROP_DROPPED]; omega)
    · exact h0'
  · rename_i e8
    dsimp only
    refine State.refill_mode ?_
    refine rdIs_foldl ?_ ?_
    · exact h6
    · intro s9 x10 h11
      refine State.overrun_mode ?_
      exact h11

theorem State.refreshDeques_mode {s : State} (h0' : RdIs F.CROWN_MODE_MODE v0 s) : RdIs F.CROWN_MODE_MODE v0 (State.refreshDeques s) := by
  unfold State.refreshDeques
  extract_lets s1
  have h2 : RdIs F.CROWN_MODE_MODE v0 s1 := by
    unfold s1
    refine rdIs_foldl ?_ ?_
    · exact h0'
    · intro s3 x4 h5
      extract_lets s6
      clear_value s6
      refine State.setFill_mode ?_
      refine State.wr_rdIs ?_ ?_
      · (refine .inl ?_; simp only [evtStatus, pageFld, Fld.bank, F.BOUGH_ENG_0_DEPTH]; omega)
      · exact h5
  clear_value s1
  refine rdIs_foldl ?_ ?_
  · exact h2
  · intro s7 x8 h9
    extract_lets s10 s11
    have h12 : RdIs F.CROWN_MODE_MODE v0 s11 := by
      unfold s11
      refine State.wr_rdIs ?_ ?_
      · (refine .inl ?_; simp only [evtStatus, pageFld, Fld.bank, F.SCHED_LANE_WAITING]; omega)
      · exact h9
    clear_value s10 s11
    refine rdIs_ite ?_ ?_
    · refine State.wr_rdIs ?_ ?_
      · (refine .inl ?_; simp only [evtStatus, pageFld, Fld.bank, F.SCHED_LANE_PEAK]; omega)
      · exact h12
    · exact h12

theorem State.selectRing_mode {s : State} {i : ℕ} {ring : ℕ} (h0' : RdIs F.CROWN_MODE_MODE v0 s) : RdIs F.CROWN_MODE_MODE v0 (State.selectRing s i ring) := by
  unfold State.selectRing
  extract_lets s1 s2 s3
  rename_i x4
  have h5 : RdIs F.CROWN_MODE_MODE v0 s3 := by
    unfold s3
    refine State.wr_rdIs ?_ ?_
    · (refine .inl ?_; simp only [evtStatus, pageFld, Fld.bank, F.QREAD_RSEL_RING]; omega)
    · exact h0'
  clear_value s1 s2 s3 x4
  exact rdIs_upd h5

theorem State.setSram_mode {s : State} {e : ℕ} {m : LocalSram} (h0' : RdIs F.CROWN_MODE_MODE v0 s) : RdIs F.CROWN_MODE_MODE v0 (State.setSram s e m) := by
  unfold State.setSram
  exact rdIs_upd h0'

theorem State.takeItem_mode {s : State} {e : ℕ} (h0' : RdIs F.CROWN_MODE_MODE v0 s) : RdIs F.CROWN_MODE_MODE v0 (State.takeItem s e) := by
  unfold State.takeItem
  refine rdIs_ite ?_ ?_
  · exact h0'
  · split
    · rename_i x1 e2
      exact h0'
    · rename_i x3 x4 e5
      extract_lets s6 s7 s8
      rename_i s9 x10 s11 x12
      have h13 : RdIs F.CROWN_MODE_MODE v0 s6 := by
        unfold s6
        refine State.graft_mode ?_
        exact h0'
      have h14 : RdIs F.CROWN_MODE_MODE v0 s8 := by
        unfold s8
        refine rdIs_ite ?_ ?_
        · exact rdIs_upd h13
        · exact rdIs_upd h13
      have h15 : RdIs F.CROWN_MODE_MODE v0 s9 := by
        unfold s9
        refine rdIs_ite ?_ ?_
        · exact h0'
        · refine State.wr_rdIs ?_ ?_
          · decide
          · refine State.wr_rdIs ?_ ?_
            · decide
            · exact h14
      have h16 : RdIs F.CROWN_MODE_MODE v0 s11 := by
        unfold s11
        refine State.setSram_mode ?_
        exact h15
      clear_value s6 s7 s8 s9 x10 s11 x12
      exact rdIs_upd h16

theorem State.wr64_mode {s : State} {lo : Fld} {hi : Fld} {n : ℕ} (c0' : (hi).clear F.CROWN_MODE_MODE) (c1' : (lo).clear F.CROWN_MODE_MODE) (h0' : RdIs F.CROWN_MODE_MODE v0 s) : RdIs F.CROWN_MODE_MODE v0 (State.wr64 s lo hi n) := by
  unfold State.wr64
  refine State.wr_rdIs ?_ ?_
  · assumption
  · refine State.wr_rdIs ?_ ?_
    · assumption
    · exact h0'

theorem State.almAccept_mode {s : State} {x : Sub} (h0' : RdIs F.CROWN_MODE_MODE v0 s) : RdIs F.CROWN_MODE_MODE v0 (State.almAccept s x) := by
  unfold State.almAccept
  extract_lets s1 s2 s3 s4 s5 s6
  rename_i s7
  have h8 : RdIs F.CROWN_MODE_MODE v0 s4 := by
    unfold s4
    exact rdIs_upd h0'
  have h9 : RdIs F.CROWN_MODE_MODE v0 s5 := by
    unfold s5
    refine State.wr64_mode ?_ ?_ ?_
    · decide
    · decide
    · exact h8
  have h10 : RdIs F.CROWN_MODE_MODE v0 s6 := by
    unfold s6
    refine rdIs_ite ?_ ?_
    · refine State.raise_mode ?_
      exact h9
    · exact h9
  have h11 : RdIs F.CROWN_MODE_MODE v0 s7 := by
    unfold s7
    refine rdIs_ite ?_ ?_
    · refine State.raise_mode ?_
      exact h10
    · exact h10
  clear_value s1 s2 s3 s4 s5 s6 s7
  refine State.mirror_mode ?_
  exact h11

theorem State.almRegs_mode {s : State} (h0' : RdIs F.CROWN_MODE_MODE v0 s) : RdIs F.CROWN_MODE_MODE v0 (State.almRegs s) := by
  unfold State.almRegs
  extract_lets s1 s2 s3 s4 s5 s6 s7 s8 s9 s10 s11 s12
  have h13 : RdIs F.CROWN_MODE_MODE v0 s1 := by
    unfold s1
    split
    · rename_i x14 e15
      refine State.wr64_mode ?_ ?_ ?_
      · decide
      · decide
      · exact h0'
    · rename_i x16 x17 x18 e19
      refine State.wr64_mode ?_ ?_ ?_
      · decide
      · decide
      · exact h0'
  have h20 : RdIs F.CROWN_MODE_MODE v0 s3 := by
    unfold s3
    refine State.wr_rdIs ?_ ?_
    · decide
    · refine State.wr_rdIs ?_ ?_
      · decide
      · exact h13
  have h21 : RdIs F.CROWN_MODE_MODE v0 s4 := by
    unfold s4
    refine State.setFill_mode ?_
    refine State.wrB_rdIs ?_ ?_
    · decide
    · exact h20
  have h22 : RdIs F.CROWN_MODE_MODE v0 s5 := by
    unfold s5
    refine State.wr_rdIs ?_ ?_
    · decide
    · exact h21
  have h23 : RdIs F.CROWN_MODE_MODE v0 s8 := by
    unfold s8
    refine State.wrB_rdIs ?_ ?_
    · decide
    · exact h22
  have h24 : RdIs F.CROWN_MODE_MODE v0 s9 := by
    unfold s9
    refine rdIs_ite ?_ ?_
    · refine State.raise_mode ?_
      exact h23
    · exact h23
  have h25 : RdIs F.CROWN_MODE_MODE v0 s12 := by
    unfold s12
    refine State.wrB_rdIs ?_ ?_
    · decide
    · exact h24
  clear_value s1 s2 s3 s4 s5 s6 s7 s8 s9 s10 s11 s12
  refine rdIs_ite ?_ ?_
  · refine State.raise_mode ?_
    exact h25
  · exact h25

theorem State.almCompact_mode {s : State} (h0' : RdIs F.CROWN_MODE_MODE v0 s) : RdIs F.CROWN_MODE_MODE v0 (State.almCompact s) := by
  unfold State.almCompact
  split
  · rename_i x1 e2
    exact h0'
  · rename_i x3 x4 e5
    refine rdIs_ite ?_ ?_
    · exact h0'
    · extract_lets s6
      rename_i x7
      clear_value s6 x7
      refine State.almRegs_mode ?_
      refine State.erase_mode ?_
      exact rdIs_upd h0'

theorem State.almDrop_mode {s : State} {sev : ℕ} (h0' : RdIs F.CROWN_MODE_MODE v0 s) : RdIs F.CROWN_MODE_MODE v0 (State.almDrop s sev) := by
  unfold State.almDrop
  refine State.raise_mode ?_
  refine State.bump_rdIs ?_ ?_
  · (split <;> (refine .inl ?_; simp only [evtStatus, pageFld, Fld.bank, F.EVREC_DROPS_SEV_EVEN, F.EVREC_DROPS_SEV_ODD]; omega))
  · exact h0'

theorem State.displace_mode {s : State} {r : AlmRec} (h0' : RdIs F.CROWN_MODE_MODE v0 s) : RdIs F.CROWN_MODE_MODE v0 (State.displace s r) := by
  unfold State.displace
  extract_lets s1 s2 s3
  rename_i s4
  have h5 : RdIs F.CROWN_MODE_MODE v0 s4 := by
    unfold s4
    refine State.raise_mode ?_
    refine State.bump_rdIs ?_ ?_
    · decide
    · exact rdIs_upd h0'
  clear_value s1 s2 s3 s4
  refine rdIs_foldl ?_ ?_
  · exact h5
  · intro s6 x7 h8
    refine rdIs_ite ?_ ?_
    · refine State.wrB_rdIs ?_ ?_
      · (refine .inl ?_; simp only [evtStatus, pageFld, Fld.bank, F.EVREC_RSTAT_TORN]; omega)
      · exact h8
    · exact h8

theorem State.almTake_mode {s : State} (h0' : RdIs F.CROWN_MODE_MODE v0 s) : RdIs F.CROWN_MODE_MODE v0 (State.almTake s) := by
  unfold State.almTake
  split
  · rename_i x1 e2
    exact h0'
  · rename_i x3 x4 x5 e6
    extract_lets s7
    rename_i s8
    have h9 : RdIs F.CROWN_MODE_MODE v0 s7 := by
      unfold s7
      refine State.setFill_mode ?_
      exact h0'
    have h10 : RdIs F.CROWN_MODE_MODE v0 s8 := by
      unfold s8
      refine State.setFill_mode ?_
      exact rdIs_upd h9
    clear_value s7 s8
    refine State.almRegs_mode ?_
    split
    · rename_i x11 e12
      refine State.almDrop_mode ?_
      exact h10
    · rename_i x13 x14 e15
      refine State.almAccept_mode ?_
      refine rdIs_foldl ?_ ?_
      · exact h10
      · intro s16 x17 h18
        refine State.displace_mode ?_
        exact h18

theorem State.almLatch_mode {s : State} {i : ℕ} (h0' : RdIs F.CROWN_MODE_MODE v0 s) : RdIs F.CROWN_MODE_MODE v0 (State.almLatch s i) := by
  unfold State.almLatch
  extract_lets s1 s2
  clear_value s1 s2
  refine State.wr64_mode ?_ ?_ ?_
  · (refine .inl ?_; simp only [evtStatus, pageFld, Fld.bank, F.EVREC_LTAIL_HI_SEQ]; omega)
  · (refine .inl ?_; simp only [evtStatus, pageFld, Fld.bank, F.EVREC_LTAIL_LO_SEQ]; omega)
  · refine State.wr64_mode ?_ ?_ ?_
    · (refine .inl ?_; simp only [evtStatus, pageFld, Fld.bank, F.EVREC_LHEAD_HI_SEQ]; omega)
    · (refine .inl ?_; simp only [evtStatus, pageFld, Fld.bank, F.EVREC_LHEAD_LO_SEQ]; omega)
    · exact h0'

theorem State.almMigrate_mode {s : State} {pass : Bool} (h0' : RdIs F.CROWN_MODE_MODE v0 s) : RdIs F.CROWN_MODE_MODE v0 (State.almMigrate s pass) := by
  unfold State.almMigrate
  split
  · rename_i x1 e2
    exact h0'
  · rename_i x3 x4 x5 e6
    refine rdIs_ite ?_ ?_
    · exact h0'
    · extract_lets s7 s8
      rename_i x9 s10 x11 s12 s13
      have h14 : RdIs F.CROWN_MODE_MODE v0 s10 := by
        unfold s10
        exact rdIs_upd h0'
      have h15 : RdIs F.CROWN_MODE_MODE v0 s12 := by
        unfold s12
        exact rdIs_upd h0'
      have h16 : RdIs F.CROWN_MODE_MODE v0 s13 := by
        unfold s13
        refine State.raise_mode ?_
        refine State.raise_mode ?_
        refine State.bump_rdIs ?_ ?_
        · decide
        · exact h15
      clear_value s7 s8 x9 s10 x11 s12 s13
      refine rdIs_ite ?_ ?_
      · refine State.almRegs_mode ?_
        refine rdIs_ite ?_ ?_
        · refine State.retryPass_mode ?_
          exact h14
        · exact h14
      · refine rdIs_ite ?_ ?_
        · exact rdIs_upd h0'
        · refine State.almRegs_mode ?_
          refine State.record_mode ?_
          refine State.lasting_mode ?_
          exact h16

theorem State.almSelect_mode {s : State} {i : ℕ} {data : ℕ} (h0' : RdIs F.CROWN_MODE_MODE v0 s) : RdIs F.CROWN_MODE_MODE v0 (State.almSelect s i data) := by
  unfold State.almSelect
  extract_lets s1 s2 s3 s4 s5 s6
  rename_i s7 x8
  have h9 : RdIs F.CROWN_MODE_MODE v0 s1 := by
    unfold s1
    refine State.wr_rdIs ?_ ?_
    · (refine .inl ?_; simp only [evtStatus, pageFld, Fld.bank, F.EVREC_RSEQ_HI_SEQ]; omega)
    · exact h0'
  have h10 : RdIs F.CROWN_MODE_MODE v0 s6 := by
    unfold s6
    refine State.wrB_rdIs ?_ ?_
    · (refine .inl ?_; simp only [evtStatus, pageFld, Fld.bank, F.EVREC_RSTAT_FOUND]; omega)
    · refine State.wrB_rdIs ?_ ?_
      · (refine .inl ?_; simp only [evtStatus, pageFld, Fld.bank, F.EVREC_RSTAT_GONE]; omega)
      · exact h9
  have h11 : RdIs F.CROWN_MODE_MODE v0 s7 := by
    unfold s7
    refine State.wr_rdIs ?_ ?_
    · (refine .inl ?_; simp only [evtStatus, pageFld, Fld.bank, F.EVREC_RSTAT_SIZE]; omega)
    · refine State.wr64_mode ?_ ?_ ?_
      · (refine .inl ?_; simp only [evtStatus, pageFld, Fld.bank, F.EVREC_FSEQ_HI_SEQ]; omega)
      · (refine .inl ?_; simp only [evtStatus, pageFld, Fld.bank, F.EVREC_FSEQ_LO_SEQ]; omega)
      · exact h10
  clear_value s1 s2 s3 s4 s5 s6 s7 x8
  split
  · rename_i x12
    exact rdIs_upd h11
  · rename_i x13 x14
    extract_lets s15
    have h16 : RdIs F.CROWN_MODE_MODE v0 s15 := by
      unfold s15
      refine State.wr_rdIs ?_ ?_
      · (refine .inl ?_; simp only [evtStatus, pageFld, Fld.bank, F.EVREC_RSTAT_SIZE]; omega)
      · refine State.wr64_mode ?_ ?_ ?_
        · (refine .inl ?_; simp only [evtStatus, pageFld, Fld.bank, F.EVREC_FSEQ_HI_SEQ]; omega)
        · (refine .inl ?_; simp only [evtStatus, pageFld, Fld.bank, F.EVREC_FSEQ_LO_SEQ]; omega)
        · exact h10
    clear_value s15
    exact rdIs_upd h16

theorem State.evrecCmd_mode {s : State} {who : Initiator} {data : ℕ} (h0' : RdIs F.CROWN_MODE_MODE v0 s) : RdIs F.CROWN_MODE_MODE v0 (State.evrecCmd s who data) := by
  unfold State.evrecCmd
  refine rdIs_ite ?_ ?_
  · refine State.almLatch_mode ?_
    exact h0'
  · exact h0'

theorem execAlmanacMigration_mode {pass : Bool} {s : State} (h1' : RdIs F.CROWN_MODE_MODE v0 s) : ∃ u', (execAlmanacMigration pass s) = .next u' ∧ RdIs F.CROWN_MODE_MODE v0 u' := by
  unfold execAlmanacMigration
  refine ⟨_, rfl, ?_⟩
  refine State.almMigrate_mode ?_
  exact h1'

theorem execAlmanacSubmission_mode {s : State} (h0' : RdIs F.CROWN_MODE_MODE v0 s) : ∃ u', (execAlmanacSubmission s) = .next u' ∧ RdIs F.CROWN_MODE_MODE v0 u' := by
  unfold execAlmanacSubmission
  refine ⟨_, rfl, ?_⟩
  refine State.almTake_mode ?_
  exact h0'

theorem execCompactionComplete_mode {s : State} (h0' : RdIs F.CROWN_MODE_MODE v0 s) : ∃ u', (execCompactionComplete s) = .next u' ∧ RdIs F.CROWN_MODE_MODE v0 u' := by
  unfold execCompactionComplete
  refine ⟨_, rfl, ?_⟩
  refine State.almCompact_mode ?_
  exact h0'

theorem execLatchCmd_mode {who : Initiator} {s : State} (h1' : RdIs F.CROWN_MODE_MODE v0 s) : ∃ u', (execLatchCmd who s) = .next u' ∧ RdIs F.CROWN_MODE_MODE v0 u' := by
  unfold execLatchCmd
  refine ⟨_, rfl, ?_⟩
  refine State.asWrite_mode ?_ ?_
  · exact h1'
  · intro s1 h2
    refine State.evrecCmd_mode ?_
    exact h2

theorem execRseqSelect_mode {who : Initiator} {hi : Word} {s : State} (h2' : RdIs F.CROWN_MODE_MODE v0 s) : ∃ u', (execRseqSelect who hi s) = .next u' ∧ RdIs F.CROWN_MODE_MODE v0 u' := by
  unfold execRseqSelect
  refine ⟨_, rfl, ?_⟩
  refine State.asWrite_mode ?_ ?_
  · exact h2'
  · intro s1 h2
    refine State.almSelect_mode ?_
    exact h2

theorem State.refreshGates_mode {s : State} (h0' : RdIs F.CROWN_MODE_MODE v0 s) : RdIs F.CROWN_MODE_MODE v0 (State.refreshGates s) := by
  unfold State.refreshGates
  refine State.wrB_rdIs ?_ ?_
  · decide
  · exact h0'

theorem State.askEnables_mode {s : State} (h0' : RdIs F.CROWN_MODE_MODE v0 s) : RdIs F.CROWN_MODE_MODE v0 (State.askEnables s) := by
  unfold State.askEnables
  extract_lets s1 s2
  rename_i s3
  have h4 : RdIs F.CROWN_MODE_MODE v0 s3 := by
    unfold s3
    exact rdIs_upd h0'
  clear_value s1 s2 s3
  refine State.refreshGates_mode ?_
  refine State.wrB_rdIs ?_ ?_
  · decide
  · refine State.wrB_rdIs ?_ ?_
    · decide
    · exact h4

theorem State.computeEdges_mode {s : State} {n : ℕ} (h0' : RdIs F.CROWN_MODE_MODE v0 s) : RdIs F.CROWN_MODE_MODE v0 (State.computeEdges s n) := by
  unfold State.computeEdges
  extract_lets s1 s2 s3 s4 s5 s6 s7 s8 s9 s10 s11 s12 s13 s14 s15 s16 s17 s18 s19 s20
  clear_value s17
  have h21 : RdIs F.CROWN_MODE_MODE v0 s20 := by
    unfold s20
    refine rdIs_ite ?_ ?_
    · refine State.bump_rdIs ?_ ?_
      · (refine .inl ?_; simp only [evtStatus, pageFld, Fld.bank, F.PHASE_COUNT_SKIP]; omega)
      · exact h0'
    · exact h0'
  clear_value s1 s2 s3 s4 s5 s6 s7 s8 s9 s10 s11 s12 s13 s14 s15 s16 s18 s19 s20
  refine State.setPhase_mode ?_
  exact h21

theorem State.dropEnables_mode {s : State} (h0' : RdIs F.CROWN_MODE_MODE v0 s) : RdIs F.CROWN_MODE_MODE v0 (State.dropEnables s) := by
  unfold State.dropEnables
  extract_lets s1
  rename_i s2
  have h3 : RdIs F.CROWN_MODE_MODE v0 s2 := by
    unfold s2
    exact rdIs_upd h0'
  clear_value s1 s2
  refine State.refreshGates_mode ?_
  refine State.wrB_rdIs ?_ ?_
  · decide
  · refine State.wrB_rdIs ?_ ?_
    · decide
    · exact h3

theorem State.gatesOff_mode {s : State} (h0' : RdIs F.CROWN_MODE_MODE v0 s) : RdIs F.CROWN_MODE_MODE v0 (State.gatesOff s) := by
  unfold State.gatesOff
  extract_lets s1 s2 s3
  rename_i x4 x5
  have h6 : RdIs F.CROWN_MODE_MODE v0 s1 := by
    unfold s1
    refine rdIs_foldl ?_ ?_
    · exact h0'
    · intro s7 x8 h9
      extract_lets s10
      have h11 : RdIs F.CROWN_MODE_MODE v0 s10 := by
        unfold s10
        refine rdIs_ite ?_ ?_
        · exact h9
        · refine State.wr_rdIs ?_ ?_
          · (refine .inl ?_; simp only [evtStatus, pageFld, Fld.bank, F.PHASE_STAT_STATE]; omega)
          · exact h9
      clear_value s10
      refine State.setPhase_mode ?_
      refine State.wrB_rdIs ?_ ?_
      · (refine .inl ?_; simp only [evtStatus, pageFld, Fld.bank, F.PHASE_STAT_SKIPPING]; omega)
      · exact h11
  have h12 : RdIs F.CROWN_MODE_MODE v0 s2 := by
    unfold s2
    refine State.wr_rdIs ?_ ?_
    · decide
    · refine State.wr_rdIs ?_ ?_
      · decide
      · exact h6
  have h13 : RdIs F.CROWN_MODE_MODE v0 s3 := by
    unfold s3
    refine State.wrB_rdIs ?_ ?_
    · decide
    · refine State.wr_rdIs ?_ ?_
      · decide
      · refine State.wrB_rdIs ?_ ?_
        · decide
        · exact h12
  clear_value s1 s2 s3 x4 x5
  exact rdIs_upd h13

theorem State.refreshLight_mode {s : State} (h0' : RdIs F.CROWN_MODE_MODE v0 s) : RdIs F.CROWN_MODE_MODE v0 (State.refreshLight s) := by
  unfold State.refreshLight
  refine rdIs_ite ?_ ?_
  · refine State.wr_rdIs ?_ ?_
    · decide
    · exact h0'
  · exact h0'

theorem State.setRunning_mode {s : State} {n : ℕ} {b : Bool} (h0' : RdIs F.CROWN_MODE_MODE v0 s) : RdIs F.CROWN_MODE_MODE v0 (State.setRunning s n b) := by
  unfold State.setRunning
  extract_lets s1
  have h2 : RdIs F.CROWN_MODE_MODE v0 s1 := by
    unfold s1
    refine State.wrBit_rdIs ?_ ?_
    · decide
    · exact h0'
  clear_value s1
  refine State.wr_rdIs ?_ ?_
  · decide
  · exact h2

theorem State.startSome_mode {s : State} {which : ℕ → Bool} (h0' : RdIs F.CROWN_MODE_MODE v0 s) : RdIs F.CROWN_MODE_MODE v0 (State.startSome s which) := by
  unfold State.startSome
  extract_lets s1 s2 s3 s4
  rename_i x5
  have h6 : RdIs F.CROWN_MODE_MODE v0 s2 := by
    unfold s2
    refine rdIs_foldl ?_ ?_
    · exact h0'
    · intro s7 x8 h9
      refine rdIs_ite ?_ ?_
      · refine State.setPhase_mode ?_
        refine State.setRunning_mode ?_
        refine State.wr_rdIs ?_ ?_
        · (refine .inl ?_; simp only [evtStatus, pageFld, Fld.bank, F.PHASE_STAT_STATE]; omega)
        · exact h9
      · exact h9
  have h10 : RdIs F.CROWN_MODE_MODE v0 s4 := by
    unfold s4
    exact rdIs_upd h6
  clear_value s1 s2 s3 s4 x5
  refine State.refreshGates_mode ?_
  refine rdIs_foldl ?_ ?_
  · exact h10
  · intro s11 x12 h13
    split
    rename_i x14 x15 x16
    refine State.wr_rdIs ?_ ?_
    · (refine .inl ?_; simp only [evtStatus, pageFld, Fld.bank, F.PHASE_STAT_OFFSET]; omega)
    · exact h13

theorem State.startPhases_mode {s : State} (h0' : RdIs F.CROWN_MODE_MODE v0 s) : RdIs F.CROWN_MODE_MODE v0 (State.startPhases s) := by
  unfold State.startPhases
  refine State.startSome_mode ?_
  exact h0'

theorem State.clearHistories_mode {s : State} (h0' : RdIs F.CROWN_MODE_MODE v0 s) : RdIs F.CROWN_MODE_MODE v0 (State.clearHistories s) := by
  unfold State.clearHistories
  exact rdIs_upd h0'

theorem State.setInteg_mode {s : State} {k : ℕ} {x : ℤ} (h0' : RdIs F.CROWN_MODE_MODE v0 s) : RdIs F.CROWN_MODE_MODE v0 (State.setInteg s k x) := by
  unfold State.setInteg
  extract_lets s1
  clear_value s1
  refine State.wr_rdIs ?_ ?_
  · (refine .inl ?_; simp only [evtStatus, pageFld, Fld.bank, F.LOOP_ISHI_IS_HI]; omega)
  · refine State.wr_rdIs ?_ ?_
    · (refine .inl ?_; simp only [evtStatus, pageFld, Fld.bank, F.LOOP_ISLO_IS_LO]; omega)
    · exact h0'

theorem State.evalPI_mode {s : State} {k : ℕ} {flip : Bool} {rEff : ℤ} {y : ℤ} {conv : optParam (ℤ → ℤ) fun x => 0} {freeze : optParam Bool false} (h0' : RdIs F.CROWN_MODE_MODE v0 s) : RdIs F.CROWN_MODE_MODE v0 (State.evalPI s k flip rEff y conv freeze).2 := by
  unfold State.evalPI
  extract_lets s1 s2 s3 s4 s5 s6 s7 s8 s9 s10 s11 s12 s13 s14 s15 s16 s17 s18
  rename_i x19
  have h20 : RdIs F.CROWN_MODE_MODE v0 s16 := by
    unfold s16
    refine State.wrI_rdIs ?_ ?_
    · (refine .inl ?_; simp only [evtStatus, pageFld, Fld.bank, F.LOOP_OUT_OUT]; omega)
    · refine State.setInteg_mode ?_
      exact h0'
  have h21 : RdIs F.CROWN_MODE_MODE v0 s17 := by
    unfold s17
    refine State.wrB_rdIs ?_ ?_
    · (refine .inl ?_; simp only [evtStatus, pageFld, Fld.bank, F.LOOP_ISTAT_ACTIVE]; omega)
    · refine State.wr_rdIs ?_ ?_
      · (refine .inl ?_; simp only [evtStatus, pageFld, Fld.bank, F.LOOP_ISTAT_SAT]; omega)
      · exact h20
  have h22 : RdIs F.CROWN_MODE_MODE v0 s18 := by
    unfold s18
    refine rdIs_ite ?_ ?_
    · refine State.bump_rdIs ?_ ?_
      · (refine .inl ?_; simp only [evtStatus, pageFld, Fld.bank, F.LOOP_ISTAT_SATCNT]; omega)
      · exact h21
    · exact h21
  clear_value s1 s2 s3 s4 s5 s6 s7 s8 s9 s10 s11 s12 s13 s14 s15 s16 s17 s18 x19
  dsimp only
  exact rdIs_upd h22

theorem State.evalInner_mode {s : State} {n : ℕ} {y : ℤ} (h0' : RdIs F.CROWN_MODE_MODE v0 s) : RdIs F.CROWN_MODE_MODE v0 (State.evalInner s n y).2 := by
  unfold State.evalInner
  extract_lets s1 s2
  clear_value s1 s2
  split
  · rename_i e3
    split
    rename_i s4 x5 s6 e7
    have h8 : RdIs F.CROWN_MODE_MODE v0 s6 := by
      refine rdIs_of_snd e7 ?_
      refine State.evalPI_mode ?_
      exact h0'
    dsimp only
    exact h8
  · rename_i e9
    dsimp only
    exact h0'

theorem State.freezeAll_mode {s : State} {b : Bool} (h0' : RdIs F.CROWN_MODE_MODE v0 s) : RdIs F.CROWN_MODE_MODE v0 (State.freezeAll s b) := by
  unfold State.freezeAll
  refine rdIs_foldl ?_ ?_
  · exact h0'
  · intro s1 x2 h3
    refine State.wrB_rdIs ?_ ?_
    · (refine .inl ?_; simp only [evtStatus, pageFld, Fld.bank, F.LOOP_ISTAT_FROZEN]; omega)
    · exact h3

theorem State.presetTo_mode {s : State} {k : ℕ} {x : ℤ} (h0' : RdIs F.CROWN_MODE_MODE v0 s) : RdIs F.CROWN_MODE_MODE v0 (State.presetTo s k x) := by
  unfold State.presetTo
  exact rdIs_upd h0'

theorem State.releaseLock_mode {s : State} (h0' : RdIs F.CROWN_MODE_MODE v0 s) : RdIs F.CROWN_MODE_MODE v0 (State.releaseLock s) := by
  unfold State.releaseLock
  refine State.clearHistories_mode ?_
  refine State.wrB_rdIs ?_ ?_
  · decide
  · exact h0'

theorem State.countLoaded_mode {s : State} {k : ℕ} (h0' : RdIs F.CROWN_MODE_MODE v0 s) : RdIs F.CROWN_MODE_MODE v0 (State.countLoaded s k) := by
  unfold State.countLoaded
  refine rdIs_ite ?_ ?_
  · refine State.raise_mode ?_
    refine State.bump_rdIs ?_ ?_
    · (refine .inl ?_; simp only [evtStatus, pageFld, Fld.bank, F.CONTACT_OPS_LOADED_OPENS]; omega)
    · exact h0'
  · exact h0'

theorem State.release_mode {s : State} {k : ℕ} (h0' : RdIs F.CROWN_MODE_MODE v0 s) : RdIs F.CROWN_MODE_MODE v0 (State.release s k) := by
  unfold State.release
  refine rdIs_ite ?_ ?_
  · extract_lets s1
    have h2 : RdIs F.CROWN_MODE_MODE v0 s1 := by
      unfold s1
      refine State.countLoaded_mode ?_
      exact h0'
    clear_value s1
    refine State.setCoil_mode ?_
    refine State.wrBit_rdIs ?_ ?_
    · decide
    · exact h2
  · refine State.setCoil_mode ?_
    exact h0'

theorem State.releaseAll_mode {s : State} {ks : List ℕ} (h0' : RdIs F.CROWN_MODE_MODE v0 s) : RdIs F.CROWN_MODE_MODE v0 (State.releaseAll s ks) := by
  unfold State.releaseAll
  refine rdIs_foldl ?_ ?_
  · exact h0'
  · intro s1 x2 h3
    refine State.release_mode ?_
    exact h3

theorem State.cutFeed_mode {s : State} (h0' : RdIs F.CROWN_MODE_MODE v0 s) : RdIs F.CROWN_MODE_MODE v0 (State.cutFeed s) := by
  unfold State.cutFeed
  refine State.releaseAll_mode ?_
  refine State.wrB_rdIs ?_ ?_
  · decide
  · exact h0'

theorem State.energise_mode {s : State} {k : ℕ} {attempt : optParam ℕ 1} (h0' : RdIs F.CROWN_MODE_MODE v0 s) : RdIs F.CROWN_MODE_MODE v0 (State.energise s k attempt) := by
  unfold State.energise
  refine rdIs_ite ?_ ?_
  · refine State.setCoil_mode ?_
    exact h0'
  · refine State.setCoil_mode ?_
    refine State.wrBit_rdIs ?_ ?_
    · decide
    · exact h0'

theorem State.takeVcoil_mode {s : State} {v : ℕ} (h0' : RdIs F.CROWN_MODE_MODE v0 s) : RdIs F.CROWN_MODE_MODE v0 (State.takeVcoil s v) := by
  unfold State.takeVcoil
  extract_lets s1 s2 s3
  have h4 : RdIs F.CROWN_MODE_MODE v0 s3 := by
    unfold s3
    refine State.wrB_rdIs ?_ ?_
    · decide
    · refine State.wr_rdIs ?_ ?_
      · decide
      · exact h0'
  clear_value s1 s2 s3
  refine rdIs_ite ?_ ?_
  · refine State.raise_mode ?_
    exact h4
  · exact h4

theorem State.sendFrame_mode {s : State} {side : ℕ} {c : RingCmd} (h0' : RdIs F.CROWN_MODE_MODE v0 s) : RdIs F.CROWN_MODE_MODE v0 (State.sendFrame s side c) := by
  unfold State.sendFrame
  extract_lets s1
  clear_value s1
  refine State.send_mode ?_
  exact h0'

theorem State.emitCmd_mode {s : State} {c : RingCmd} (h0' : RdIs F.CROWN_MODE_MODE v0 s) : RdIs F.CROWN_MODE_MODE v0 (State.emitCmd s c) := by
  unfold State.emitCmd
  split
  · rename_i x1 x2 e3
    refine State.sendFrame_mode ?_
    exact h0'
  · rename_i x4 e5
    refine State.sendFrame_mode ?_
    refine State.sendFrame_mode ?_
    exact h0'

theorem State.launchCmd_mode {s : State} {c : RingCmd} (h0' : RdIs F.CROWN_MODE_MODE v0 s) : RdIs F.CROWN_MODE_MODE v0 (State.launchCmd s c) := by
  unfold State.launchCmd
  extract_lets s1 s2 s3
  rename_i x4
  have h5 : RdIs F.CROWN_MODE_MODE v0 s3 := by
    unfold s3
    refine State.emitCmd_mode ?_
    exact h0'
  clear_value s1 s2 s3 x4
  exact rdIs_upd h5

theorem State.sendCmd_mode {s : State} {c : RingCmd} (h0' : RdIs F.CROWN_MODE_MODE v0 s) : RdIs F.CROWN_MODE_MODE v0 (State.sendCmd s c) := by
  unfold State.sendCmd
  refine rdIs_ite ?_ ?_
  · exact h0'
  · refine rdIs_ite ?_ ?_
    · refine State.launchCmd_mode ?_
      exact h0'
    · exact rdIs_upd h0'

theorem State.ringCmd_mode {s : State} {node : ℕ} {cmd : ℕ} {payload : optParam (List Byte) []} (h0' : RdIs F.CROWN_MODE_MODE v0 s) : RdIs F.CROWN_MODE_MODE v0 (State.ringCmd s node cmd payload) := by
  unfold State.ringCmd
  refine State.sendCmd_mode ?_
  exact h0'

theorem State.balStop_mode {s : State} (h0' : RdIs F.CROWN_MODE_MODE v0 s) : RdIs F.CROWN_MODE_MODE v0 (State.balStop s) := by
  unfold State.balStop
  refine rdIs_ite ?_ ?_
  · exact h0'
  · extract_lets s1 s2 s3 s4
    rename_i s5
    have h6 : RdIs F.CROWN_MODE_MODE v0 s1 := by
      unfold s1
      refine State.ringCmd_mode ?_
      exact h0'
    have h7 : RdIs F.CROWN_MODE_MODE v0 s3 := by
      unfold s3
      refine rdIs_foldl ?_ ?_
      · exact h6
      · intro s8 x9 h10
        refine State.ringCmd_mode ?_
        exact h10
    have h11 : RdIs F.CROWN_MODE_MODE v0 s5 := by
      unfold s5
      exact rdIs_upd h7
    clear_value s1 s2 s3 s4 s5
    refine rdIs_ite ?_ ?_
    · refine State.raise_mode ?_
      exact h11
    · exact h11

theorem State.stopRing_mode {s : State} (h0' : RdIs F.CROWN_MODE_MODE v0 s) : RdIs F.CROWN_MODE_MODE v0 (State.stopRing s) := by
  unfold State.stopRing
  extract_lets s1
  rename_i x2
  have h3 : RdIs F.CROWN_MODE_MODE v0 s1 := by
    unfold s1
    refine State.wr_rdIs ?_ ?_
    · decide
    · refine State.wr_rdIs ?_ ?_
      · decide
      · exact h0'
  clear_value s1 x2
  exact rdIs_upd h3

theorem State.setTask_mode {s : State} {t : ℕ} {x : ScanTask} (h0' : RdIs F.CROWN_MODE_MODE v0 s) : RdIs F.CROWN_MODE_MODE v0 (State.setTask s t x) := by
  unfold State.setTask
  exact rdIs_upd h0'

theorem State.taskOff_mode {s : State} {t : ℕ} (h0' : RdIs F.CROWN_MODE_MODE v0 s) : RdIs F.CROWN_MODE_MODE v0 (State.taskOff s t) := by
  unfold State.taskOff
  extract_lets s1 s2 s3
  rename_i s4
  have h5 : RdIs F.CROWN_MODE_MODE v0 s4 := by
    unfold s4
    exact rdIs_upd h0'
  clear_value s1 s2 s3 s4
  refine State.wr_rdIs ?_ ?_
  · decide
  · exact h5

theorem State.setSlot_mode {s : State} {j : ℕ} {k : ℕ} {x : JSlot} (h0' : RdIs F.CROWN_MODE_MODE v0 s) : RdIs F.CROWN_MODE_MODE v0 (State.setSlot s j k x) := by
  unfold State.setSlot
  refine rdIs_ite ?_ ?_
  · exact rdIs_upd h0'
  · exact rdIs_upd h0'

theorem State.beginWrite_mode {s : State} {j : ℕ} {reason : ℕ} (h0' : RdIs F.CROWN_MODE_MODE v0 s) : RdIs F.CROWN_MODE_MODE v0 (State.beginWrite s j reason) := by
  unfold State.beginWrite
  extract_lets s1 s2 s3 s4
  rename_i x5
  have h6 : RdIs F.CROWN_MODE_MODE v0 s3 := by
    unfold s3
    refine State.setSlot_mode ?_
    exact h0'
  have h7 : RdIs F.CROWN_MODE_MODE v0 s4 := by
    unfold s4
    refine State.wrB_rdIs ?_ ?_
    · decide
    · exact h6
  clear_value s1 s2 s3 s4 x5
  exact rdIs_upd h7

theorem State.journal_mode {s : State} {j : ℕ} {reason : ℕ} (h0' : RdIs F.CROWN_MODE_MODE v0 s) : RdIs F.CROWN_MODE_MODE v0 (State.journal s j reason) := by
  unfold State.journal
  refine rdIs_ite ?_ ?_
  · extract_lets s1
    rename_i x2
    have h3 : RdIs F.CROWN_MODE_MODE v0 s1 := by
      unfold s1
      refine State.raise_mode ?_
      refine State.wrB_rdIs ?_ ?_
      · decide
      · exact h0'
    clear_value s1 x2
    exact rdIs_upd h3
  · refine rdIs_ite ?_ ?_
    · exact rdIs_upd h0'
    · refine State.beginWrite_mode ?_
      exact h0'

theorem State.endWrite_mode {s : State} (h0' : RdIs F.CROWN_MODE_MODE v0 s) : RdIs F.CROWN_MODE_MODE v0 (State.endWrite s) := by
  unfold State.endWrite
  extract_lets s1
  rename_i s2 x3
  have h4 : RdIs F.CROWN_MODE_MODE v0 s2 := by
    unfold s2
    refine State.wrB_rdIs ?_ ?_
    · decide
    · exact rdIs_upd h0'
  clear_value s1 s2 x3
  split
  · rename_i x5 e6
    exact h4
  · rename_i x7 x8 x9 x10 e11
    refine State.journal_mode ?_
    exact rdIs_upd h4

theorem State.abandonWrite_mode {s : State} (h0' : RdIs F.CROWN_MODE_MODE v0 s) : RdIs F.CROWN_MODE_MODE v0 (State.abandonWrite s) := by
  unfold State.abandonWrite
  refine State.endWrite_mode ?_
  refine State.raise_mode ?_
  refine State.bump_rdIs ?_ ?_
  · decide
  · exact h0'

theorem State.commitWrite_mode {s : State} (h0' : RdIs F.CROWN_MODE_MODE v0 s) : RdIs F.CROWN_MODE_MODE v0 (State.commitWrite s) := by
  unfold State.commitWrite
  split
  · rename_i x1 e2
    exact h0'
  · rename_i x3 x4 x5 x6 e7
    extract_lets s8 s9 s10 s11 s12
    rename_i s13
    have h14 : RdIs F.CROWN_MODE_MODE v0 s10 := by
      unfold s10
      refine State.setSlot_mode ?_
      exact h0'
    have h15 : RdIs F.CROWN_MODE_MODE v0 s11 := by
      unfold s11
      refine State.wr_rdIs ?_ ?_
      · (split <;> (refine .inl ?_; simp only [evtStatus, pageFld, Fld.bank, F.LEARN_SEQ_L_SEQ, F.LEARN_SEQ_S_SEQ]; omega))
      · exact h14
    have h16 : RdIs F.CROWN_MODE_MODE v0 s13 := by
      unfold s13
      refine rdIs_ite ?_ ?_
      · exact rdIs_upd h15
      · exact h15
    clear_value s8 s9 s10 s11 s12 s13
    refine State.endWrite_mode ?_
    refine State.raise_mode ?_
    refine State.bump_rdIs ?_ ?_
    · decide
    · exact h16

theorem State.counterSlot_mode {s : State} (h0' : RdIs F.CROWN_MODE_MODE v0 s) : RdIs F.CROWN_MODE_MODE v0 (State.counterSlot s) := by
  unfold State.counterSlot
  refine rdIs_ite ?_ ?_
  · exact rdIs_upd h0'
  · extract_lets s1 s2 s3 s4
    rename_i x5
    clear_value s1 s2 s3 s4 x5
    exact rdIs_upd h0'

theorem State.journalBoth_mode {s : State} {reason : ℕ} (h0' : RdIs F.CROWN_MODE_MODE v0 s) : RdIs F.CROWN_MODE_MODE v0 (State.journalBoth s reason) := by
  unfold State.journalBoth
  refine State.journal_mode ?_
  refine State.journal_mode ?_
  exact h0'

theorem State.retainSlot_mode {s : State} (h0' : RdIs F.CROWN_MODE_MODE v0 s) : RdIs F.CROWN_MODE_MODE v0 (State.retainSlot s) := by
  unfold State.retainSlot
  refine rdIs_ite ?_ ?_
  · exact rdIs_upd h0'
  · extract_lets s1 s2 s3
    rename_i x4 x5
    clear_value s1 s2 s3 x4 x5
    exact rdIs_upd h0'

theorem State.entryStore_mode {s : State} {reason : ℕ} (h0' : RdIs F.CROWN_MODE_MODE v0 s) : RdIs F.CROWN_MODE_MODE v0 (State.entryStore s reason) := by
  unfold State.entryStore
  extract_lets s1
  have h2 : RdIs F.CROWN_MODE_MODE v0 s1 := by
    unfold s1
    refine State.counterSlot_mode ?_
    refine State.journalBoth_mode ?_
    exact h0'
  clear_value s1
  refine rdIs_ite ?_ ?_
  · refine State.retainSlot_mode ?_
    exact h2
  · exact h2

theorem State.setCell_mode {s : State} {c : ℕ} {x : Cell} (h0' : RdIs F.CROWN_MODE_MODE v0 s) : RdIs F.CROWN_MODE_MODE v0 (State.setCell s c x) := by
  unfold State.setCell
  exact rdIs_upd h0'

theorem setMaskBit_mode {f : ℕ → Fld} {s : State} {i : ℕ} {b : Bool} (c0' : (f (i / 32)).clear F.CROWN_MODE_MODE) (h1' : RdIs F.CROWN_MODE_MODE v0 s) : RdIs F.CROWN_MODE_MODE v0 (setMaskBit f s i b) := by
  unfold setMaskBit
  refine State.wrBit_rdIs ?_ ?_
  · assumption
  · exact h1'

theorem State.takeOnTime_mode {s : State} {renewed : Bool} {c : ℕ} {new : ℕ} (h0' : RdIs F.CROWN_MODE_MODE v0 s) : RdIs F.CROWN_MODE_MODE v0 (State.takeOnTime s renewed c new) := by
  unfold State.takeOnTime
  extract_lets s1 s2 s3 s4 s5 s6
  rename_i x7 x8 x9 s10 x11
  have h12 : RdIs F.CROWN_MODE_MODE v0 s4 := by
    unfold s4
    exact rdIs_upd h0'
  have h13 : RdIs F.CROWN_MODE_MODE v0 s5 := by
    unfold s5
    refine State.wr_rdIs ?_ ?_
    · (refine .inl ?_; simp only [evtStatus, pageFld, Fld.bank, pairFld, F.BAL_ONTIME_CELL_LO, F.BAL_ONTIME_CELL_HI]; split <;> dsimp only <;> omega)
    · exact h12
  have h14 : RdIs F.CROWN_MODE_MODE v0 s10 := by
    unfold s10
    exact rdIs_upd h13
  clear_value s1 s2 s3 s4 s5 s6 x7 x8 x9 s10 x11
  refine rdIs_ite ?_ ?_
  · exact h13
  · refine rdIs_ite ?_ ?_
    · exact rdIs_upd h13
    · refine rdIs_ite ?_ ?_
      · exact h14
      · exact rdIs_upd h14

theorem State.bledRead_mode {s : State} {n : ℕ} {run : ℕ} (h0' : RdIs F.CROWN_MODE_MODE v0 s) : RdIs F.CROWN_MODE_MODE v0 (State.bledRead s n run) := by
  unfold State.bledRead
  extract_lets s1 s2 s3
  rename_i s4 x5 x6
  clear_value s2
  have h7 : RdIs F.CROWN_MODE_MODE v0 s4 := by
    unfold s4
    refine rdIs_ite ?_ ?_
    · exact rdIs_upd h0'
    · exact h0'
  clear_value s1 s3 s4 x5 x6
  refine rdIs_ite ?_ ?_
  · exact rdIs_upd h7
  · exact h7

theorem State.stopGot_mode {s : State} {n : ℕ} (h0' : RdIs F.CROWN_MODE_MODE v0 s) : RdIs F.CROWN_MODE_MODE v0 (State.stopGot s n) := by
  unfold State.stopGot
  refine rdIs_ite ?_ ?_
  · extract_lets s1 s2
    rename_i s3
    have h4 : RdIs F.CROWN_MODE_MODE v0 s3 := by
      unfold s3
      exact rdIs_upd h0'
    clear_value s1 s2 s3
    refine rdIs_ite ?_ ?_
    · refine State.raise_mode ?_
      exact h4
    · exact h4
  · exact h0'

theorem State.sendPlan_mode {s : State} (h0' : RdIs F.CROWN_MODE_MODE v0 s) : RdIs F.CROWN_MODE_MODE v0 (State.sendPlan s) := by
  unfold State.sendPlan
  extract_lets s1 s2 s3 s4 s5 s6 s7 s8 s9
  rename_i s10
  have h11 : RdIs F.CROWN_MODE_MODE v0 s6 := by
    unfold s6
    refine rdIs_foldl ?_ ?_
    · exact h0'
    · intro s12 x13 h14
      split
      rename_i x15 x16 x17
      refine setMaskBit_mode ?_ ?_
      · (refine .inl ?_; simp only [evtStatus, pageFld, Fld.bank, F.BAL_EXCL_CELLS]; omega)
      · exact h14
  have h18 : RdIs F.CROWN_MODE_MODE v0 s7 := by
    unfold s7
    refine rdIs_ite ?_ ?_
    · refine State.raise_mode ?_
      exact h11
    · exact h11
  have h19 : RdIs F.CROWN_MODE_MODE v0 s8 := by
    unfold s8
    refine rdIs_foldl ?_ ?_
    · exact h18
    · intro s20 x21 h22
      split
      rename_i x23 x24 x25
      refine State.ringCmd_mode ?_
      exact h22
  have h26 : RdIs F.CROWN_MODE_MODE v0 s10 := by
    unfold s10
    exact rdIs_upd h19
  clear_value s1 s2 s3 s4 s5 s6 s7 s8 s9 s10
  refine State.mirror_mode ?_
  refine State.raise_mode ?_
  refine State.bump_rdIs ?_ ?_
  · decide
  · exact h26

theorem State.planGot_mode {s : State} {n : ℕ} (h0' : RdIs F.CROWN_MODE_MODE v0 s) : RdIs F.CROWN_MODE_MODE v0 (State.planGot s n) := by
  unfold State.planGot
  split
  · rename_i x1 e2
    exact h0'
  · rename_i x3 x4 e5
    refine rdIs_ite ?_ ?_
    · extract_lets s6
      rename_i x7 s8
      have h9 : RdIs F.CROWN_MODE_MODE v0 s8 := by
        unfold s8
        exact rdIs_upd h0'
      clear_value s6 x7 s8
      refine rdIs_ite ?_ ?_
      · refine rdIs_ite ?_ ?_
        · refine State.sendPlan_mode ?_
          exact h9
        · exact h9
      · exact rdIs_upd h0'
    · exact h0'

theorem State.balStat_mode {s : State} {n : ℕ} {p : List Byte} (h0' : RdIs F.CROWN_MODE_MODE v0 s) : RdIs F.CROWN_MODE_MODE v0 (State.balStat s n p) := by
  unfold State.balStat
  extract_lets s1 s2 s3 s4 s5 s6 s7 s8 s9 s10 s11 s12 s13
  rename_i s14 s15
  have h16 : RdIs F.CROWN_MODE_MODE v0 s6 := by
    unfold s6
    refine rdIs_foldl ?_ ?_
    · exact h0'
    · intro s17 x18 h19
      refine State.takeOnTime_mode ?_
      refine setMaskBit_mode ?_ ?_
      · (refine .inl ?_; simp only [evtStatus, pageFld, Fld.bank, F.BAL_RUN_CELLS]; omega)
      · exact h19
  clear_value s7
  have h20 : RdIs F.CROWN_MODE_MODE v0 s9 := by
    unfold s9
    exact rdIs_upd h16
  have h21 : RdIs F.CROWN_MODE_MODE v0 s11 := by
    unfold s11
    refine rdIs_ite ?_ ?_
    · exact rdIs_upd h20
    · exact h20
  have h22 : RdIs F.CROWN_MODE_MODE v0 s12 := by
    unfold s12
    refine State.wr_rdIs ?_ ?_
    · decide
    · exact h21
  have h23 : RdIs F.CROWN_MODE_MODE v0 s13 := by
    unfold s13
    refine rdIs_ite ?_ ?_
    · refine State.raise_mode ?_
      exact h22
    · exact h22
  have h24 : RdIs F.CROWN_MODE_MODE v0 s14 := by
    unfold s14
    refine State.bledRead_mode ?_
    exact h23
  have h25 : RdIs F.CROWN_MODE_MODE v0 s15 := by
    unfold s15
    refine rdIs_ite ?_ ?_
    · refine State.stopGot_mode ?_
      exact h24
    · exact h24
  clear_value s1 s2 s3 s4 s5 s6 s8 s9 s10 s11 s12 s13 s14 s15
  refine State.mirror_mode ?_
  refine State.planGot_mode ?_
  exact h25

theorem State.modBal_mode {s : State} {f : Bal → Bal} (h0' : RdIs F.CROWN_MODE_MODE v0 s) : RdIs F.CROWN_MODE_MODE v0 (State.modBal s f) := by
  unfold State.modBal
  exact rdIs_upd h0'

theorem State.planBegin_mode {s : State} (h0' : RdIs F.CROWN_MODE_MODE v0 s) : RdIs F.CROWN_MODE_MODE v0 (State.planBegin s) := by
  unfold State.planBegin
  extract_lets s1 s2 s3
  rename_i x4 s5 x6
  have h7 : RdIs F.CROWN_MODE_MODE v0 s3 := by
    unfold s3
    exact rdIs_upd h0'
  have h8 : RdIs F.CROWN_MODE_MODE v0 s5 := by
    unfold s5
    refine rdIs_foldl ?_ ?_
    · exact rdIs_upd h7
    · intro s9 x10 h11
      refine State.ringCmd_mode ?_
      exact h11
  clear_value s1 s2 s3 x4 s5 x6
  refine rdIs_ite ?_ ?_
  · refine State.sendPlan_mode ?_
    exact rdIs_upd h8
  · exact h8

theorem State.replan_mode {s : State} (h0' : RdIs F.CROWN_MODE_MODE v0 s) : RdIs F.CROWN_MODE_MODE v0 (State.replan s) := by
  unfold State.replan
  refine rdIs_ite ?_ ?_
  · refine State.planBegin_mode ?_
    exact h0'
  · exact h0'

theorem State.replanIfDue_mode {s : State} (h0' : RdIs F.CROWN_MODE_MODE v0 s) : RdIs F.CROWN_MODE_MODE v0 (State.replanIfDue s) := by
  unfold State.replanIfDue
  refine rdIs_ite ?_ ?_
  · refine State.replan_mode ?_
    refine State.modBal_mode ?_
    exact h0'
  · exact h0'

theorem State.endStimulus_mode {s : State} (h0' : RdIs F.CROWN_MODE_MODE v0 s) : RdIs F.CROWN_MODE_MODE v0 (State.endStimulus s) := by
  unfold State.endStimulus
  extract_lets s1 s2 s3 s4
  rename_i x5 s6
  have h7 : RdIs F.CROWN_MODE_MODE v0 s1 := by
    unfold s1
    refine State.wr_rdIs ?_ ?_
    · decide
    · refine State.releaseLock_mode ?_
      refine State.wr_rdIs ?_ ?_
      · decide
      · exact h0'
  have h8 : RdIs F.CROWN_MODE_MODE v0 s3 := by
    unfold s3
    refine State.wrB_rdIs ?_ ?_
    · decide
    · exact h7
  have h9 : RdIs F.CROWN_MODE_MODE v0 s6 := by
    unfold s6
    exact rdIs_upd h8
  clear_value s1 s2 s3 s4 x5 s6
  refine rdIs_ite ?_ ?_
  · refine State.replan_mode ?_
    exact h9
  · exact h9

theorem State.abortRun_mode {s : State} {code : ℕ} (h0' : RdIs F.CROWN_MODE_MODE v0 s) : RdIs F.CROWN_MODE_MODE v0 (State.abortRun s code) := by
  unfold State.abortRun
  extract_lets s1
  rename_i s2 x3 s4
  have h5 : RdIs F.CROWN_MODE_MODE v0 s2 := by
    unfold s2
    refine rdIs_ite ?_ ?_
    · exact h0'
    · refine State.bump_rdIs ?_ ?_
      · decide
      · refine State.raise_mode ?_
        refine State.wr_rdIs ?_ ?_
        · decide
        · exact h0'
  have h6 : RdIs F.CROWN_MODE_MODE v0 s4 := by
    unfold s4
    exact rdIs_upd h5
  clear_value s1 s2 x3 s4
  refine rdIs_ite ?_ ?_
  · refine rdIs_ite ?_ ?_
    · refine State.endStimulus_mode ?_
      exact h6
    · refine State.wr_rdIs ?_ ?_
      · decide
      · exact h6
  · exact h0'

theorem State.refreshActive_mode {s : State} (h0' : RdIs F.CROWN_MODE_MODE v0 s) : RdIs F.CROWN_MODE_MODE v0 (State.refreshActive s) := by
  unfold State.refreshActive
  extract_lets s1
  clear_value s1
  refine State.wrB_rdIs ?_ ?_
  · decide
  · refine State.wrB_rdIs ?_ ?_
    · decide
    · refine State.wrB_rdIs ?_ ?_
      · decide
      · exact h0'

theorem State.cancelApply_mode {s : State} {cause : ℕ} (h0' : RdIs F.CROWN_MODE_MODE v0 s) : RdIs F.CROWN_MODE_MODE v0 (State.cancelApply s cause) := by
  unfold State.cancelApply
  extract_lets s1
  rename_i s2 s3 x4 s5 x6
  have h7 : RdIs F.CROWN_MODE_MODE v0 s2 := by
    unfold s2
    refine State.wr_rdIs ?_ ?_
    · decide
    · exact h0'
  have h8 : RdIs F.CROWN_MODE_MODE v0 s3 := by
    unfold s3
    refine State.wr_rdIs ?_ ?_
    · decide
    · refine State.wr_rdIs ?_ ?_
      · decide
      · refine State.wr_rdIs ?_ ?_
        · decide
        · exact h7
  have h9 : RdIs F.CROWN_MODE_MODE v0 s5 := by
    unfold s5
    refine rdIs_ite ?_ ?_
    · refine State.wr_rdIs ?_ ?_
      · decide
      · exact rdIs_upd h8
    · exact h8
  clear_value s1 s2 s3 x4 s5 x6
  refine rdIs_ite ?_ ?_
  · exact rdIs_upd h9
  · exact h0'

theorem State.closeFeed_mode {s : State} (h0' : RdIs F.CROWN_MODE_MODE v0 s) : RdIs F.CROWN_MODE_MODE v0 (State.closeFeed s) := by
  unfold State.closeFeed
  refine rdIs_ite ?_ ?_
  · refine State.wrB_rdIs ?_ ?_
    · decide
    · exact h0'
  · exact h0'

theorem State.clearCond_mode {s : State} {c : Cond} (h0' : RdIs F.CROWN_MODE_MODE v0 s) : RdIs F.CROWN_MODE_MODE v0 (State.clearCond s c) := by
  unfold State.clearCond
  refine rdIs_ite ?_ ?_
  · refine State.closeFeed_mode ?_
    refine State.refreshActive_mode ?_
    exact rdIs_upd h0'
  · exact h0'

theorem State.discardWindow_mode {s : State} (h0' : RdIs F.CROWN_MODE_MODE v0 s) : RdIs F.CROWN_MODE_MODE v0 (State.discardWindow s) := by
  unfold State.discardWindow
  extract_lets s1
  rename_i x2
  have h3 : RdIs F.CROWN_MODE_MODE v0 s1 := by
    unfold s1
    refine State.bump_rdIs ?_ ?_
    · decide
    · refine State.raise_mode ?_
      refine State.wrB_rdIs ?_ ?_
      · decide
      · refine State.bump_rdIs ?_ ?_
        · decide
        · exact h0'
  clear_value s1 x2
  exact rdIs_upd h3

theorem State.endSequence_mode {s : State} (h0' : RdIs F.CROWN_MODE_MODE v0 s) : RdIs F.CROWN_MODE_MODE v0 (State.endSequence s) := by
  unfold State.endSequence
  extract_lets s1
  rename_i x2 x3
  have h4 : RdIs F.CROWN_MODE_MODE v0 s1 := by
    unfold s1
    refine State.wrB_rdIs ?_ ?_
    · decide
    · refine State.wrB_rdIs ?_ ?_
      · decide
      · refine State.wr_rdIs ?_ ?_
        · decide
        · exact h0'
  clear_value s1 x2 x3
  exact rdIs_upd h4

theorem State.endGateTest_mode {s : State} {result : ℕ} {atOnce : Bool} (h0' : RdIs F.CROWN_MODE_MODE v0 s) : RdIs F.CROWN_MODE_MODE v0 (State.endGateTest s result atOnce) := by
  unfold State.endGateTest
  refine rdIs_ite ?_ ?_
  · extract_lets s1
    rename_i s2 x3
    have h4 : RdIs F.CROWN_MODE_MODE v0 s1 := by
      unfold s1
      refine State.raise_mode ?_
      refine State.wr_rdIs ?_ ?_
      · decide
      · exact h0'
    have h5 : RdIs F.CROWN_MODE_MODE v0 s2 := by
      unfold s2
      refine State.dropEnables_mode ?_
      refine State.wrB_rdIs ?_ ?_
      · decide
      · refine State.gatesOff_mode ?_
        exact h4
    clear_value s1 s2 x3
    refine rdIs_ite ?_ ?_
    · exact rdIs_upd h5
    · exact rdIs_upd h4
  · exact h0'

theorem State.lockPort_mode {s : State} (h0' : RdIs F.CROWN_MODE_MODE v0 s) : RdIs F.CROWN_MODE_MODE v0 (State.lockPort s) := by
  unfold State.lockPort
  refine rdIs_ite ?_ ?_
  · extract_lets s1
    rename_i x2
    have h3 : RdIs F.CROWN_MODE_MODE v0 s1 := by
      unfold s1
      refine State.raise_mode ?_
      refine State.wrB_rdIs ?_ ?_
      · decide
      · exact h0'
    clear_value s1 x2
    exact rdIs_upd h3
  · exact h0'

theorem State.setLatch_mode {s : State} {source : ℕ} {ev : Ev} (h0' : RdIs F.CROWN_MODE_MODE v0 s) : RdIs F.CROWN_MODE_MODE v0 (State.setLatch s source ev) := by
  unfold State.setLatch
  refine State.lockPort_mode ?_
  refine State.wr_rdIs ?_ ?_
  · decide
  · refine State.wrB_rdIs ?_ ?_
    · decide
    · exact h0'

theorem State.giveUpClaim_mode {s : State} {role : ℕ} (h0' : RdIs F.CROWN_MODE_MODE v0 s) : RdIs F.CROWN_MODE_MODE v0 (State.giveUpClaim s role) := by
  unfold State.giveUpClaim
  extract_lets s1 s2 s3
  have h4 : RdIs F.CROWN_MODE_MODE v0 s1 := by
    unfold s1
    refine State.abortRun_mode ?_
    refine State.dropEnables_mode ?_
    refine State.freezeAll_mode ?_
    refine State.gatesOff_mode ?_
    exact h0'
  have h5 : RdIs F.CROWN_MODE_MODE v0 s2 := by
    unfold s2
    refine rdIs_ite ?_ ?_
    · refine State.cancelApply_mode ?_
      exact h4
    · exact h4
  have h6 : RdIs F.CROWN_MODE_MODE v0 s3 := by
    unfold s3
    refine State.wr_rdIs ?_ ?_
    · decide
    · refine State.wr_rdIs ?_ ?_
      · decide
      · refine State.wr_rdIs ?_ ?_
        · decide
        · refine State.endSequence_mode ?_
          exact h5
  clear_value s1 s2 s3
  refine State.driveCool_mode ?_
  refine State.stopRing_mode ?_
  exact h6

theorem State.noteSH_mode {s : State} {source : ℕ} {ev : Ev} (h0' : RdIs F.CROWN_MODE_MODE v0 s) : RdIs F.CROWN_MODE_MODE v0 (State.noteSH s source ev) := by
  unfold State.noteSH
  exact rdIs_upd h0'

theorem State.relinquishOr_mode {s : State} {cause : ℕ} {otherwise : State → State} (h0' : RdIs F.CROWN_MODE_MODE v0 s) (h2' : ∀ a0, RdIs F.CROWN_MODE_MODE v0 a0 → RdIs F.CROWN_MODE_MODE v0 (otherwise a0)) : RdIs F.CROWN_MODE_MODE v0 (State.relinquishOr s cause otherwise) := by
  unfold State.relinquishOr
  refine rdIs_ite ?_ ?_
  · extract_lets s1 s2 s3
    rename_i s4
    have h5 : RdIs F.CROWN_MODE_MODE v0 s1 := by
      unfold s1
      refine State.wr_rdIs ?_ ?_
      · decide
      · refine State.giveUpClaim_mode ?_
        exact h0'
    have h6 : RdIs F.CROWN_MODE_MODE v0 s2 := by
      unfold s2
      refine State.wrB_rdIs ?_ ?_
      · decide
      · refine State.raise_mode ?_
        refine State.bump_rdIs ?_ ?_
        · decide
        · exact h5
    have h7 : RdIs F.CROWN_MODE_MODE v0 s4 := by
      unfold s4
      refine State.send_mode ?_
      exact rdIs_upd h6
    clear_value s1 s2 s3 s4
    refine State.record_mode ?_
    exact h7
  · apply h2'
    exact h0'

theorem State.applyStepped_mode {s : State} {old : ℤ} {new : ℤ} (h0' : RdIs F.CROWN_MODE_MODE v0 s) : RdIs F.CROWN_MODE_MODE v0 (State.applyStepped s old new) := by
  unfold State.applyStepped
  refine rdIs_ite ?_ ?_
  · refine State.cancelApply_mode ?_
    exact h0'
  · exact h0'

theorem State.setTrig_mode {s : State} {k : ℕ} {t : Trig} (h0' : RdIs F.CROWN_MODE_MODE v0 s) : RdIs F.CROWN_MODE_MODE v0 (State.setTrig s k t) := by
  unfold State.setTrig
  exact rdIs_upd h0'

theorem State.armTrigger_mode {s : State} {k : ℕ} (h0' : RdIs F.CROWN_MODE_MODE v0 s) : RdIs F.CROWN_MODE_MODE v0 (State.armTrigger s k) := by
  unfold State.armTrigger
  extract_lets s1 s2 s3
  rename_i x4 s5
  have h6 : RdIs F.CROWN_MODE_MODE v0 s5 := by
    unfold s5
    refine State.setTrig_mode ?_
    refine State.wr_rdIs ?_ ?_
    · (refine .inl ?_; simp only [evtStatus, pageFld, Fld.bank, F.TRIG_TCTL_STAT]; omega)
    · exact h0'
  clear_value s1 s2 s3 x4 s5
  refine rdIs_ite ?_ ?_
  · exact h0'
  · refine rdIs_ite ?_ ?_
    · refine State.wrBit_rdIs ?_ ?_
      · (refine .inl ?_; simp only [evtStatus, pageFld, Fld.bank, F.TRIG_TCTL_STAT]; omega)
      · exact h0'
    · refine rdIs_ite ?_ ?_
      · refine State.setTrig_mode ?_
        exact h6
      · refine rdIs_ite ?_ ?_
        · refine State.raise_mode ?_
          refine State.wr_rdIs ?_ ?_
          · (refine .inl ?_; simp only [evtStatus, pageFld, Fld.bank, F.TRIG_TCTL_STAT]; omega)
          · exact h6
        · exact h6

theorem State.setStamps_mode {s : State} {k : ℕ} {l : List (Bool × TimeBase)} (h0' : RdIs F.CROWN_MODE_MODE v0 s) : RdIs F.CROWN_MODE_MODE v0 (State.setStamps s k l) := by
  unfold State.setStamps
  extract_lets s1
  rename_i s2
  have h3 : RdIs F.CROWN_MODE_MODE v0 s2 := by
    unfold s2
    exact rdIs_upd h0'
  clear_value s1 s2
  split
  rename_i x4 x5 x6 e7
  extract_lets s8
  have h9 : RdIs F.CROWN_MODE_MODE v0 s8 := by
    unfold s8
    refine State.wrB_rdIs ?_ ?_
    · (refine .inl ?_; simp only [evtStatus, pageFld, Fld.bank, F.TRIG_CSTAT_HEAD_RISE]; omega)
    · refine State.wr_rdIs ?_ ?_
      · (refine .inl ?_; simp only [evtStatus, pageFld, Fld.bank, F.TRIG_CSTAT_FILL]; omega)
      · exact h3
  clear_value s8
  refine State.wr_rdIs ?_ ?_
  · (refine .inl ?_; simp only [evtStatus, pageFld, Fld.bank, F.TRIG_CHEADk_SEC_HI_SEC_HI]; omega)
  · refine State.wr_rdIs ?_ ?_
    · (refine .inl ?_; simp only [evtStatus, pageFld, Fld.bank, F.TRIG_CHEADk_SEC_LO_SEC_LO]; omega)
    · refine State.wr_rdIs ?_ ?_
      · (refine .inl ?_; simp only [evtStatus, pageFld, Fld.bank, F.TRIG_CHEADk_NS_NS]; omega)
      · exact h9

theorem State.captureEdge_mode {s : State} {k : ℕ} {rise : Bool} {t : TimeBase} (h0' : RdIs F.CROWN_MODE_MODE v0 s) : RdIs F.CROWN_MODE_MODE v0 (State.captureEdge s k rise t) := by
  unfold State.captureEdge
  extract_lets s1
  clear_value s1
  refine rdIs_ite ?_ ?_
  · refine State.raise_mode ?_
    refine State.wrB_rdIs ?_ ?_
    · (refine .inl ?_; simp only [evtStatus, pageFld, Fld.bank, F.TRIG_CSTAT_OVF]; omega)
    · refine State.bump_rdIs ?_ ?_
      · (refine .inl ?_; simp only [evtStatus, pageFld, Fld.bank, F.TRIG_CCNT_DROPPED]; omega)
      · exact h0'
  · refine State.raise_mode ?_
    refine State.bump_rdIs ?_ ?_
    · (refine .inl ?_; simp only [evtStatus, pageFld, Fld.bank, F.TRIG_CCNT_CAPTURED]; omega)
    · refine State.setStamps_mode ?_
      exact h0'

theorem State.trigDone_mode {s : State} {k : ℕ} (h0' : RdIs F.CROWN_MODE_MODE v0 s) : RdIs F.CROWN_MODE_MODE v0 (State.trigDone s k) := by
  unfold State.trigDone
  refine State.raise_mode ?_
  refine State.setTrig_mode ?_
  refine State.wrBit_rdIs ?_ ?_
  · (refine .inl ?_; simp only [evtStatus, pageFld, Fld.bank, F.TRIG_TCTL_STAT]; omega)
  · exact h0'

theorem State.disarmTrigger_mode {s : State} {k : ℕ} (h0' : RdIs F.CROWN_MODE_MODE v0 s) : RdIs F.CROWN_MODE_MODE v0 (State.disarmTrigger s k) := by
  unfold State.disarmTrigger
  refine rdIs_ite ?_ ?_
  · refine rdIs_ite ?_ ?_
    · refine State.setTrig_mode ?_
      exact h0'
    · refine State.trigDone_mode ?_
      exact h0'
  · exact h0'

theorem State.leadingEdge_mode {s : State} {k : ℕ} (h0' : RdIs F.CROWN_MODE_MODE v0 s) : RdIs F.CROWN_MODE_MODE v0 (State.leadingEdge s k) := by
  unfold State.leadingEdge
  extract_lets s1 s2
  have h3 : RdIs F.CROWN_MODE_MODE v0 s2 := by
    unfold s2
    refine State.setTrig_mode ?_
    exact h0'
  clear_value s1 s2
  refine rdIs_ite ?_ ?_
  · refine State.bump_rdIs ?_ ?_
    · (refine .inl ?_; simp only [evtStatus, pageFld, Fld.bank, F.TRIG_TCNT_EDGES]; omega)
    · exact h3
  · exact h3

theorem State.nsRead_mode {s : State} {n : ℕ} (h0' : RdIs F.CROWN_MODE_MODE v0 s) : RdIs F.CROWN_MODE_MODE v0 (State.nsRead s n) := by
  unfold State.nsRead
  extract_lets s1 s2 s3
  have h4 : RdIs F.CROWN_MODE_MODE v0 s2 := by
    unfold s2
    refine State.wr_rdIs ?_ ?_
    · (refine .inl ?_; simp only [evtStatus, pageFld, Fld.bank, F.TIME_SHI_SEC_HI]; omega)
    · refine State.wr_rdIs ?_ ?_
      · (refine .inl ?_; simp only [evtStatus, pageFld, Fld.bank, F.TIME_SLO_SEC_LO]; omega)
      · refine State.wr_rdIs ?_ ?_
        · (refine .inl ?_; simp only [evtStatus, pageFld, Fld.bank, F.TIME_NS_NS]; omega)
        · exact h0'
  have h5 : RdIs F.CROWN_MODE_MODE v0 s3 := by
    unfold s3
    refine State.wr_rdIs ?_ ?_
    · (refine .inl ?_; simp only [evtStatus, pageFld, Fld.bank, F.TIME_SHI_FRAC]; omega)
    · exact h4
  clear_value s1 s2 s3
  exact rdIs_upd h5

theorem State.setPtp_mode {s : State} {i : ℕ} {p : Ptp} (h0' : RdIs F.CROWN_MODE_MODE v0 s) : RdIs F.CROWN_MODE_MODE v0 (State.setPtp s i p) := by
  unfold State.setPtp
  exact rdIs_upd h0'

theorem State.setSynced_mode {s : State} {n : ℕ} (h0' : RdIs F.CROWN_MODE_MODE v0 s) : RdIs F.CROWN_MODE_MODE v0 (State.setSynced s n) := by
  unfold State.setSynced
  refine rdIs_ite ?_ ?_
  · exact h0'
  · refine State.raise_mode ?_
    refine State.wrB_rdIs ?_ ?_
    · (refine .inl ?_; simp only [evtStatus, pageFld, Fld.bank, F.TIME_CMD_SYNCED]; omega)
    · exact h0'

theorem State.setTimeBase_mode {s : State} {n : ℕ} {t : TimeBase} (h0' : RdIs F.CROWN_MODE_MODE v0 s) : RdIs F.CROWN_MODE_MODE v0 (State.setTimeBase s n t) := by
  unfold State.setTimeBase
  exact rdIs_upd h0'

theorem State.snap_mode {s : State} (h0' : RdIs F.CROWN_MODE_MODE v0 s) : RdIs F.CROWN_MODE_MODE v0 (State.snap s) := by
  unfold State.snap
  refine rdIs_foldl ?_ ?_
  · exact h0'
  · intro s1 x2 h3
    extract_lets s4
    clear_value s4
    refine State.wr_rdIs ?_ ?_
    · (refine .inl ?_; simp only [evtStatus, pageFld, Fld.bank, F.TIME_SNAP_HI_FRAC]; omega)
    · refine State.wr_rdIs ?_ ?_
      · (refine .inl ?_; simp only [evtStatus, pageFld, Fld.bank, F.TIME_SNAP_HI_SEC_HI]; omega)
      · refine State.wr_rdIs ?_ ?_
        · (refine .inl ?_; simp only [evtStatus, pageFld, Fld.bank, F.TIME_SNAP_SEC_LO_SEC_LO]; omega)
        · refine State.wr_rdIs ?_ ?_
          · (refine .inl ?_; simp only [evtStatus, pageFld, Fld.bank, F.TIME_SNAP_NS_NS]; omega)
          · exact h3

theorem State.trigStepped_mode {s : State} {n : ℕ} {now : ℤ} {k : ℕ} (h0' : RdIs F.CROWN_MODE_MODE v0 s) : RdIs F.CROWN_MODE_MODE v0 (State.trigStepped s n now k) := by
  unfold State.trigStepped
  extract_lets s1
  rename_i x2
  clear_value s1 x2
  refine rdIs_ite ?_ ?_
  · exact h0'
  · refine rdIs_ite ?_ ?_
    · refine State.bump_rdIs ?_ ?_
      · (refine .inl ?_; simp only [evtStatus, pageFld, Fld.bank, F.TRIG_TCNT_MISSED]; omega)
      · refine State.setTrig_mode ?_
        exact h0'
    · refine rdIs_ite ?_ ?_
      · refine State.leadingEdge_mode ?_
        refine State.raise_mode ?_
        refine State.wrBit_rdIs ?_ ?_
        · (refine .inl ?_; simp only [evtStatus, pageFld, Fld.bank, F.TRIG_TCTL_STAT]; omega)
        · exact h0'
      · exact h0'

theorem State.stepBase_mode {s : State} {n : ℕ} {t : TimeBase} (h0' : RdIs F.CROWN_MODE_MODE v0 s) : RdIs F.CROWN_MODE_MODE v0 (State.stepBase s n t) := by
  unfold State.stepBase
  extract_lets s1 s2 s3 s4 s5 s6 s7 s8
  rename_i s9 s10 x11 s12
  have h13 : RdIs F.CROWN_MODE_MODE v0 s3 := by
    unfold s3
    refine State.record_mode ?_
    refine State.raise_mode ?_
    refine State.bump_rdIs ?_ ?_
    · (refine .inl ?_; simp only [evtStatus, pageFld, Fld.bank, F.TIME_CMD_STEPS]; omega)
    · refine State.setTimeBase_mode ?_
      exact h0'
  have h14 : RdIs F.CROWN_MODE_MODE v0 s6 := by
    unfold s6
    exact rdIs_upd h13
  have h15 : RdIs F.CROWN_MODE_MODE v0 s7 := by
    unfold s7
    refine rdIs_ite ?_ ?_
    · refine State.setPtp_mode ?_
      exact h14
    · exact h14
  have h16 : RdIs F.CROWN_MODE_MODE v0 s9 := by
    unfold s9
    refine rdIs_ite ?_ ?_
    · exact rdIs_upd h15
    · exact h15
  have h17 : RdIs F.CROWN_MODE_MODE v0 s10 := by
    unfold s10
    refine State.applyStepped_mode ?_
    exact h16
  have h18 : RdIs F.CROWN_MODE_MODE v0 s12 := by
    unfold s12
    refine rdIs_ite ?_ ?_
    · exact rdIs_upd h17
    · exact h16
  clear_value s1 s2 s3 s4 s5 s6 s7 s8 s9 s10 x11 s12
  refine rdIs_ite ?_ ?_
  · refine rdIs_foldl ?_ ?_
    · exact h18
    · intro s19 x20 h21
      refine State.trigStepped_mode ?_
      exact h21
  · exact h18

theorem State.timeCmd_mode {s : State} {who : Initiator} {n : ℕ} {data : ℕ} (h0' : RdIs F.CROWN_MODE_MODE v0 s) : RdIs F.CROWN_MODE_MODE v0 (State.timeCmd s who n data) := by
  unfold State.timeCmd
  extract_lets s1 s2
  rename_i s3 x4
  have h5 : RdIs F.CROWN_MODE_MODE v0 s3 := by
    unfold s3
    refine State.wrB_rdIs ?_ ?_
    · (refine .inl ?_; simp only [evtStatus, pageFld, Fld.bank, F.TIME_CMD_REFUSED]; omega)
    · exact h0'
  clear_value s1 s2 s3 x4
  refine rdIs_ite ?_ ?_
  · exact h0'
  · refine rdIs_ite ?_ ?_
    · refine State.refuseAccess_mode ?_
      refine State.wrB_rdIs ?_ ?_
      · (refine .inl ?_; simp only [evtStatus, pageFld, Fld.bank, F.TIME_CMD_REFUSED]; omega)
      · exact h0'
    · refine rdIs_ite ?_ ?_
      · refine State.wrB_rdIs ?_ ?_
        · (refine .inl ?_; simp only [evtStatus, pageFld, Fld.bank, F.TIME_CMD_REFUSED]; omega)
        · exact h0'
      · refine rdIs_ite ?_ ?_
        · refine State.setSynced_mode ?_
          refine State.stepBase_mode ?_
          exact h5
        · refine State.stepBase_mode ?_
          exact h5

theorem State.trigCtl_mode {s : State} {k : ℕ} {data : ℕ} (h0' : RdIs F.CROWN_MODE_MODE v0 s) : RdIs F.CROWN_MODE_MODE v0 (State.trigCtl s k data) := by
  unfold State.trigCtl
  extract_lets s1
  have h2 : RdIs F.CROWN_MODE_MODE v0 s1 := by
    unfold s1
    refine State.wr_rdIs ?_ ?_
    · (refine .inl ?_; simp only [evtStatus, pageFld, Fld.bank, F.TRIG_TCTL_ARM]; omega)
    · exact h0'
  clear_value s1
  refine rdIs_ite ?_ ?_
  · refine State.armTrigger_mode ?_
    exact h2
  · refine State.disarmTrigger_mode ?_
    exact h2

theorem State.canAbort_mode {s : State} {ch : ℕ} (h0' : RdIs F.CROWN_MODE_MODE v0 s) : RdIs F.CROWN_MODE_MODE v0 (State.canAbort s ch) := by
  unfold State.canAbort
  refine rdIs_foldl ?_ ?_
  · exact h0'
  · intro s1 x2 h3
    refine State.consume_mode ?_
    exact h3

theorem State.canRecover_mode {s : State} {ch : ℕ} (h0' : RdIs F.CROWN_MODE_MODE v0 s) : RdIs F.CROWN_MODE_MODE v0 (State.canRecover s ch) := by
  unfold State.canRecover
  refine rdIs_ite ?_ ?_
  · extract_lets s1
    clear_value s1
    refine State.wrB_rdIs ?_ ?_
    · (refine .inl ?_; simp only [evtStatus, pageFld, Fld.bank, F.CAN_STATUS_LASTING_BO]; omega)
    · refine State.setCanCh_mode ?_
      exact h0'
  · refine State.wrB_rdIs ?_ ?_
    · (refine .inl ?_; simp only [evtStatus, pageFld, Fld.bank, F.CAN_STATUS_LASTING_BO]; omega)
    · exact h0'

theorem State.canSend_mode {s : State} {ch : ℕ} (h0' : RdIs F.CROWN_MODE_MODE v0 s) : RdIs F.CROWN_MODE_MODE v0 (State.canSend s ch) := by
  unfold State.canSend
  extract_lets s1 s2 s3 s4
  clear_value s1 s2 s3 s4
  split
  · rename_i x5 e6
    refine State.raise_mode ?_
    exact h0'
  · rename_i x7 x8 e9
    extract_lets s10
    clear_value s10
    refine rdIs_ite ?_ ?_
    · refine State.raise_mode ?_
      exact h0'
    · refine State.push_mode ?_
      exact h0'

theorem State.canCmd_mode {s : State} {ch : ℕ} {data : ℕ} (h0' : RdIs F.CROWN_MODE_MODE v0 s) : RdIs F.CROWN_MODE_MODE v0 (State.canCmd s ch data) := by
  unfold State.canCmd
  extract_lets s1 s2
  have h3 : RdIs F.CROWN_MODE_MODE v0 s1 := by
    unfold s1
    refine rdIs_ite ?_ ?_
    · refine State.canRecover_mode ?_
      exact h0'
    · exact h0'
  have h4 : RdIs F.CROWN_MODE_MODE v0 s2 := by
    unfold s2
    refine rdIs_ite ?_ ?_
    · refine State.canAbort_mode ?_
      exact h3
    · exact h3
  clear_value s1 s2
  refine rdIs_ite ?_ ?_
  · refine State.canSend_mode ?_
    exact h4
  · exact h4

theorem State.canConfine_mode {s : State} {ch : ℕ} (h0' : RdIs F.CROWN_MODE_MODE v0 s) : RdIs F.CROWN_MODE_MODE v0 (State.canConfine s ch) := by
  unfold State.canConfine
  extract_lets s1 s2
  rename_i s3
  have h4 : RdIs F.CROWN_MODE_MODE v0 s2 := by
    unfold s2
    refine State.wrB_rdIs ?_ ?_
    · (refine .inl ?_; simp only [evtStatus, pageFld, Fld.bank, F.CAN_ERRCNT_RP]; omega)
    · exact h0'
  have h5 : RdIs F.CROWN_MODE_MODE v0 s3 := by
    unfold s3
    refine State.wr_rdIs ?_ ?_
    · (refine .inl ?_; simp only [evtStatus, pageFld, Fld.bank, F.CAN_STATUS_STATE]; omega)
    · exact h4
  clear_value s1 s2 s3
  refine rdIs_ite ?_ ?_
  · exact h4
  · refine rdIs_ite ?_ ?_
    · refine rdIs_ite ?_ ?_
      · refine State.raise_mode ?_
        exact h5
      · exact h5
    · refine State.wr_rdIs ?_ ?_
      · (refine .inl ?_; simp only [evtStatus, pageFld, Fld.bank, F.CAN_STATUS_STATE]; omega)
      · exact h4

theorem State.canDeliver_mode {s : State} {ch : ℕ} {head : List Byte} {filter : ℕ} {c : ℕ} {data : List Byte} {echo : Bool} (h0' : RdIs F.CROWN_MODE_MODE v0 s) : RdIs F.CROWN_MODE_MODE v0 (State.canDeliver s ch head filter c data echo) := by
  unfold State.canDeliver
  extract_lets s1
  clear_value s1
  split
  rename_i x2 x3 x4 e5
  extract_lets s6 s7
  clear_value s6 s7
  split
  rename_i s8 s9 x10 e11
  have h12 : RdIs F.CROWN_MODE_MODE v0 s9 := by
    refine rdIs_of_fst e11 ?_
    refine State.push_mode ?_
    exact h0'
  refine rdIs_ite ?_ ?_
  · extract_lets s13
    have h14 : RdIs F.CROWN_MODE_MODE v0 s13 := by
      unfold s13
      refine State.setCanCh_mode ?_
      exact h12
    clear_value s13
    refine rdIs_ite ?_ ?_
    · exact h14
    · refine State.raise_mode ?_
      refine State.wr_rdIs ?_ ?_
      · (refine .inl ?_; simp only [evtStatus, pageFld, Fld.bank, F.CAN_FRMCNT_RX]; omega)
      · exact h14
  · refine State.raise_mode ?_
    refine State.bump_rdIs ?_ ?_
    · (refine .inl ?_; simp only [evtStatus, pageFld, Fld.bank, F.CAN_ERRS2_RX_DROP]; omega)
    · refine State.setCanCh_mode ?_
      exact h12

theorem State.canGood_mode {s : State} {ch : ℕ} (h0' : RdIs F.CROWN_MODE_MODE v0 s) : RdIs F.CROWN_MODE_MODE v0 (State.canGood s ch) := by
  unfold State.canGood
  extract_lets s1
  clear_value s1
  refine rdIs_ite ?_ ?_
  · refine State.retryPass_mode ?_
    refine State.setCanCh_mode ?_
    exact h0'
  · exact h0'

theorem State.canIntegrated_mode {s : State} {ch : ℕ} {c : ℕ} (h0' : RdIs F.CROWN_MODE_MODE v0 s) : RdIs F.CROWN_MODE_MODE v0 (State.canIntegrated s ch c) := by
  unfold State.canIntegrated
  split
  · rename_i x1 e2
    exact h0'
  · rename_i x3 x4 e5
    extract_lets s6
    rename_i x7
    clear_value s6 x7
    refine rdIs_ite ?_ ?_
    · exact h0'
    · refine State.wr_rdIs ?_ ?_
      · (refine .inl ?_; simp only [evtStatus, pageFld, Fld.bank, F.CAN_STATUS_STATE]; omega)
      · refine State.setCanCh_mode ?_
        exact h0'

theorem State.canService_mode {s : State} {ch : ℕ} {id : ℕ} {data : List Byte} (h0' : RdIs F.CROWN_MODE_MODE v0 s) : RdIs F.CROWN_MODE_MODE v0 (State.canService s ch id data) := by
  unfold State.canService
  extract_lets s1
  clear_value s1
  refine rdIs_ite ?_ ?_
  · refine State.push_mode ?_
    exact h0'
  · exact h0'

theorem State.recDown_mode {s : State} {ch : ℕ} (h0' : RdIs F.CROWN_MODE_MODE v0 s) : RdIs F.CROWN_MODE_MODE v0 (State.recDown s ch) := by
  unfold State.recDown
  extract_lets s1
  clear_value s1
  refine rdIs_ite ?_ ?_
  · exact h0'
  · refine rdIs_ite ?_ ?_
    · split
      rename_i s2 x3 s4 e5
      have h6 : RdIs F.CROWN_MODE_MODE v0 s4 := by
        refine rdIs_of_snd e5 ?_
        refine State.drawFree_mode ?_
        exact h0'
      refine State.canConfine_mode ?_
      refine State.wr_rdIs ?_ ?_
      · (refine .inl ?_; simp only [evtStatus, pageFld, Fld.bank, F.CAN_ERRCNT_REC]; omega)
      · exact h6
    · refine State.canConfine_mode ?_
      refine State.wr_rdIs ?_ ?_
      · (refine .inl ?_; simp only [evtStatus, pageFld, Fld.bank, F.CAN_ERRCNT_REC]; omega)
      · exact h0'

theorem execBusOff_mode {ch : Fin 4} {s : State} (h1' : RdIs F.CROWN_MODE_MODE v0 s) : ∃ u', (execBusOff ch s) = .next u' ∧ RdIs F.CROWN_MODE_MODE v0 u' := by
  unfold execBusOff
  refine rdIs_out_ite ?_ ?_
  · extract_lets s1 s2
    have h3 : RdIs F.CROWN_MODE_MODE v0 s2 := by
      unfold s2
      refine State.wr_rdIs ?_ ?_
      · (refine .inl ?_; simp only [evtStatus, pageFld, Fld.bank, F.CAN_ERRCNT_TEC]; omega)
      · refine State.wr_rdIs ?_ ?_
        · (refine .inl ?_; simp only [evtStatus, pageFld, Fld.bank, F.CAN_STATUS_STATE]; omega)
        · refine State.raise_mode ?_
          refine State.bump_rdIs ?_ ?_
          · (refine .inl ?_; simp only [evtStatus, pageFld, Fld.bank, F.CAN_ERRS_BUS_OFFS]; omega)
          · exact h1'
    clear_value s1 s2
    refine rdIs_out_ite ?_ ?_
    · refine ⟨_, rfl, ?_⟩
      refine State.lastingW_mode ?_
      refine State.raise_mode ?_
      refine State.wrB_rdIs ?_ ?_
      · (refine .inl ?_; simp only [evtStatus, pageFld, Fld.bank, F.CAN_STATUS_LASTING_BO]; omega)
      · refine State.setCanCh_mode ?_
        exact h3
    · refine ⟨_, rfl, ?_⟩
      refine State.setCanCh_mode ?_
      exact h3
  · refine ⟨_, rfl, ?_⟩
    exact h1'

theorem execBusOffRecovered_mode {ch : Fin 4} {s : State} (h1' : RdIs F.CROWN_MODE_MODE v0 s) : ∃ u', (execBusOffRecovered ch s) = .next u' ∧ RdIs F.CROWN_MODE_MODE v0 u' := by
  unfold execBusOffRecovered
  extract_lets s1
  clear_value s1
  refine rdIs_out_ite ?_ ?_
  · refine ⟨_, rfl, ?_⟩
    refine State.raise_mode ?_
    refine State.wrB_rdIs ?_ ?_
    · (refine .inl ?_; simp only [evtStatus, pageFld, Fld.bank, F.CAN_ERRCNT_RP]; omega)
    · refine State.wr_rdIs ?_ ?_
      · (refine .inl ?_; simp only [evtStatus, pageFld, Fld.bank, F.CAN_ERRCNT_REC]; omega)
      · refine State.wr_rdIs ?_ ?_
        · (refine .inl ?_; simp only [evtStatus, pageFld, Fld.bank, F.CAN_ERRCNT_TEC]; omega)
        · refine State.wr_rdIs ?_ ?_
          · (refine .inl ?_; simp only [evtStatus, pageFld, Fld.bank, F.CAN_STATUS_STATE]; omega)
          · refine State.setCanCh_mode ?_
            exact h1'
  · refine ⟨_, rfl, ?_⟩
    exact h1'

theorem execCanFrameRx_mode {ch : Fin 4} {f : CanFrame} {c : BitVec 32} {s : State} (h3' : RdIs F.CROWN_MODE_MODE v0 s) : ∃ u', (execCanFrameRx ch f c s) = .next u' ∧ RdIs F.CROWN_MODE_MODE v0 u' := by
  unfold execCanFrameRx
  extract_lets s1
  rename_i s2 x3
  have h4 : RdIs F.CROWN_MODE_MODE v0 s1 := by
    unfold s1
    refine State.canIntegrated_mode ?_
    exact h3'
  have h5 : RdIs F.CROWN_MODE_MODE v0 s2 := by
    unfold s2
    refine State.recDown_mode ?_
    refine State.canGood_mode ?_
    exact h4
  clear_value s1 s2 x3
  refine rdIs_out_ite ?_ ?_
  · split
    · rename_i x6 x7 e8
      refine ⟨_, rfl, ?_⟩
      refine State.canDeliver_mode ?_
      exact h5
    · rename_i x9 e10
      refine ⟨_, rfl, ?_⟩
      exact h5
  · refine ⟨_, rfl, ?_⟩
    exact h4

theorem State.latchNow_mode {s : State} (h0' : RdIs F.CROWN_MODE_MODE v0 s) : RdIs F.CROWN_MODE_MODE v0 (State.latchNow s) := by
  unfold State.latchNow
  extract_lets s1 s2 s3 s4
  rename_i s5
  have h6 : RdIs F.CROWN_MODE_MODE v0 s5 := by
    unfold s5
    exact rdIs_upd h0'
  clear_value s1 s2 s3 s4 s5
  refine rdIs_foldl ?_ ?_
  · exact h6
  · intro s7 x8 h9
    refine State.wr_rdIs ?_ ?_
    · (refine .inl ?_; simp only [evtStatus, pageFld, Fld.bank, F.CAN_LATCH_SEC_HI_SEC_HI]; omega)
    · refine State.wr_rdIs ?_ ?_
      · (refine .inl ?_; simp only [evtStatus, pageFld, Fld.bank, F.CAN_LATCH_SEC_LO_SEC_LO]; omega)
      · refine State.wr_rdIs ?_ ?_
        · (refine .inl ?_; simp only [evtStatus, pageFld, Fld.bank, F.CAN_LATCH_NS_NS]; omega)
        · refine State.wr_rdIs ?_ ?_
          · (refine .inl ?_; simp only [evtStatus, pageFld, Fld.bank, F.CAN_LATCH_C_L]; omega)
          · exact h9

theorem execCanLatch_mode {s : State} (h0' : RdIs F.CROWN_MODE_MODE v0 s) : ∃ u', (execCanLatch s) = .next u' ∧ RdIs F.CROWN_MODE_MODE v0 u' := by
  unfold execCanLatch
  refine rdIs_out_ite ?_ ?_
  · refine ⟨_, rfl, ?_⟩
    refine State.latchNow_mode ?_
    exact h0'
  · refine ⟨_, rfl, ?_⟩
    exact h0'

theorem execCanTxComplete_mode {ch : Fin 4} {c : BitVec 32} {s : State} (h2' : RdIs F.CROWN_MODE_MODE v0 s) : ∃ u', (execCanTxComplete ch c s) = .next u' ∧ RdIs F.CROWN_MODE_MODE v0 u' := by
  unfold execCanTxComplete
  extract_lets s1
  have h2 : RdIs F.CROWN_MODE_MODE v0 s1 := by
    unfold s1
    refine State.canIntegrated_mode ?_
    exact h2'
  clear_value s1
  refine rdIs_out_ite ?_ ?_
  · split
    · rename_i x3 e4
      refine ⟨_, rfl, ?_⟩
      exact h2
    · rename_i x5 x6 e7
      extract_lets s8 s9 s10 s11
      have h12 : RdIs F.CROWN_MODE_MODE v0 s9 := by
        unfold s9
        refine State.consume_mode ?_
        refine State.send_mode ?_
        exact h2
      have h13 : RdIs F.CROWN_MODE_MODE v0 s10 := by
        unfold s10
        refine State.wr_rdIs ?_ ?_
        · (refine .inl ?_; simp only [evtStatus, pageFld, Fld.bank, F.CAN_FRMCNT_TX]; omega)
        · exact h12
      have h14 : RdIs F.CROWN_MODE_MODE v0 s11 := by
        unfold s11
        refine State.canConfine_mode ?_
        refine State.wr_rdIs ?_ ?_
        · (refine .inl ?_; simp only [evtStatus, pageFld, Fld.bank, F.CAN_ERRCNT_TEC]; omega)
        · refine State.canGood_mode ?_
          exact h13
      clear_value s8 s9 s10 s11
      refine rdIs_out_ite ?_ ?_
      · refine ⟨_, rfl, ?_⟩
        refine State.canDeliver_mode ?_
        exact h14
      · refine ⟨_, rfl, ?_⟩
        exact h14
  · refine ⟨_, rfl, ?_⟩
    exact h2

theorem execCanTxTimeout_mode {ch : Fin 4} {k : Fin 4} {s : State} (h2' : RdIs F.CROWN_MODE_MODE v0 s) : ∃ u', (execCanTxTimeout ch k s) = .next u' ∧ RdIs F.CROWN_MODE_MODE v0 u' := by
  unfold execCanTxTimeout
  split
  · rename_i x1 x2 e3
    refine rdIs_out_ite ?_ ?_
    · refine ⟨_, rfl, ?_⟩
      exact h2'
    · refine ⟨_, rfl, ?_⟩
      refine State.raise_mode ?_
      refine State.bump_rdIs ?_ ?_
      · (refine .inl ?_; simp only [evtStatus, pageFld, Fld.bank, F.CAN_ERRS_TX_ABANDON]; omega)
      · refine State.consume_mode ?_
        exact h2'
  · rename_i x4 e5
    refine ⟨_, rfl, ?_⟩
    exact h2'

theorem execErrorFrame_mode {ch : Fin 4} {kind : Fin 7} {dataPhase : Bool} {tec : BitVec 8} {erc : BitVec 8} {s : State} (h5' : RdIs F.CROWN_MODE_MODE v0 s) : ∃ u', (execErrorFrame ch kind dataPhase tec erc s) = .next u' ∧ RdIs F.CROWN_MODE_MODE v0 u' := by
  unfold execErrorFrame
  refine rdIs_out_ite ?_ ?_
  · extract_lets s1 s2
    have h3 : RdIs F.CROWN_MODE_MODE v0 s1 := by
      unfold s1
      refine State.bump_rdIs ?_ ?_
      · (refine .inl ?_; simp only [evtStatus, pageFld, Fld.bank, F.CAN_ERRS2_ERR_FRAMES]; omega)
      · exact h5'
    have h4 : RdIs F.CROWN_MODE_MODE v0 s2 := by
      unfold s2
      refine State.wr_rdIs ?_ ?_
      · (split <;> (refine .inl ?_; simp only [evtStatus, pageFld, Fld.bank, F.CAN_LEC_DLEC, F.CAN_LEC_LEC]; omega))
      · exact h3
    clear_value s1 s2
    refine rdIs_out_ite ?_ ?_
    · refine ⟨_, rfl, ?_⟩
      exact h4
    · refine ⟨_, rfl, ?_⟩
      refine State.canConfine_mode ?_
      refine State.wr_rdIs ?_ ?_
      · (refine .inl ?_; simp only [evtStatus, pageFld, Fld.bank, F.CAN_ERRCNT_REC]; omega)
      · refine State.wr_rdIs ?_ ?_
        · (refine .inl ?_; simp only [evtStatus, pageFld, Fld.bank, F.CAN_ERRCNT_TEC]; omega)
        · exact h4
  · refine ⟨_, rfl, ?_⟩
    exact h5'

theorem execRecoverCmd_mode {who : Initiator} {ch : Fin 4} {s : State} (h2' : RdIs F.CROWN_MODE_MODE v0 s) : ∃ u', (execRecoverCmd who ch s) = .next u' ∧ RdIs F.CROWN_MODE_MODE v0 u' := by
  unfold execRecoverCmd
  refine ⟨_, rfl, ?_⟩
  refine State.asWrite_mode ?_ ?_
  · exact h2'
  · intro s1 h2
    refine State.canCmd_mode ?_
    exact h2

theorem execSendCmd_mode {who : Initiator} {ch : Fin 4} {s : State} (h2' : RdIs F.CROWN_MODE_MODE v0 s) : ∃ u', (execSendCmd who ch s) = .next u' ∧ RdIs F.CROWN_MODE_MODE v0 u' := by
  unfold execSendCmd
  refine ⟨_, rfl, ?_⟩
  refine State.asWrite_mode ?_ ?_
  · exact h2'
  · intro s1 h2
    refine State.canCmd_mode ?_
    exact h2

theorem execTxAbort_mode {who : Initiator} {ch : Fin 4} {s : State} (h2' : RdIs F.CROWN_MODE_MODE v0 s) : ∃ u', (execTxAbort who ch s) = .next u' ∧ RdIs F.CROWN_MODE_MODE v0 u' := by
  unfold execTxAbort
  refine ⟨_, rfl, ?_⟩
  refine State.asWrite_mode ?_ ?_
  · exact h2'
  · intro s1 h2
    refine State.canCmd_mode ?_
    exact h2

theorem State.toStep_mode {s : State} {n : ℕ} (h0' : RdIs F.CROWN_MODE_MODE v0 s) : RdIs F.CROWN_MODE_MODE v0 (State.toStep s n) := by
  unfold State.toStep
  extract_lets s1
  rename_i x2
  have h3 : RdIs F.CROWN_MODE_MODE v0 s1 := by
    unfold s1
    refine State.wr_rdIs ?_ ?_
    · decide
    · exact h0'
  clear_value s1 x2
  exact rdIs_upd h3

theorem State.watchBus_mode {s : State} (h0' : RdIs F.CROWN_MODE_MODE v0 s) : RdIs F.CROWN_MODE_MODE v0 (State.watchBus s) := by
  unfold State.watchBus
  refine rdIs_ite ?_ ?_
  · refine State.abortRun_mode ?_
    refine State.freezeAll_mode ?_
    refine State.gatesOff_mode ?_
    exact h0'
  · exact h0'

theorem State.startTracking_mode {s : State} (h0' : RdIs F.CROWN_MODE_MODE v0 s) : RdIs F.CROWN_MODE_MODE v0 (State.startTracking s) := by
  unfold State.startTracking
  extract_lets s1 s2
  rename_i x3 s4
  have h5 : RdIs F.CROWN_MODE_MODE v0 s1 := by
    unfold s1
    refine State.freezeAll_mode ?_
    refine State.startPhases_mode ?_
    refine State.askEnables_mode ?_
    exact h0'
  have h6 : RdIs F.CROWN_MODE_MODE v0 s4 := by
    unfold s4
    exact rdIs_upd h5
  clear_value s1 s2 x3 s4
  refine State.toStep_mode ?_
  exact h6

theorem execBalStop_mode {who : Initiator} {s : State} (h1' : RdIs F.CROWN_MODE_MODE v0 s) : ∃ u', (execBalStop who s) = .next u' ∧ RdIs F.CROWN_MODE_MODE v0 u' := by
  unfold execBalStop
  refine ⟨_, rfl, ?_⟩
  refine State.asWrite_mode ?_ ?_
  · exact h1'
  · intro s1 h2
    refine State.balStop_mode ?_
    exact h2

theorem State.clearNfault_mode {s : State} (h0' : RdIs F.CROWN_MODE_MODE v0 s) : RdIs F.CROWN_MODE_MODE v0 (State.clearNfault s) := by
  unfold State.clearNfault
  refine rdIs_ite ?_ ?_
  · exact h0'
  · refine State.wr_rdIs ?_ ?_
    · decide
    · exact h0'

theorem execClrNfault_mode {who : Initiator} {s : State} (h1' : RdIs F.CROWN_MODE_MODE v0 s) : ∃ u', (execClrNfault who s) = .next u' ∧ RdIs F.CROWN_MODE_MODE v0 u' := by
  unfold execClrNfault
  refine ⟨_, rfl, ?_⟩
  refine State.asWrite_mode ?_ ?_
  · exact h1'
  · intro s1 h2
    refine State.clearNfault_mode ?_
    exact h2

theorem State.modRing_mode {s : State} {f : Ring → Ring} (h0' : RdIs F.CROWN_MODE_MODE v0 s) : RdIs F.CROWN_MODE_MODE v0 (State.modRing s f) := by
  unfold State.modRing
  exact rdIs_upd h0'

theorem State.takeDelay_mode {s : State} {side : ℕ} {n : ℕ} (h0' : RdIs F.CROWN_MODE_MODE v0 s) : RdIs F.CROWN_MODE_MODE v0 (State.takeDelay s side n) := by
  unfold State.takeDelay
  extract_lets s1
  clear_value s1
  split
  rename_i x2 x3 x4 e5
  refine rdIs_ite ?_ ?_
  · refine State.wr_rdIs ?_ ?_
    · (refine .inl ?_; simp only [evtStatus, pageFld, Fld.bank, delayFld]; split <;> dsimp only <;> omega)
    · exact h0'
  · extract_lets s6
    clear_value s6
    split
    · rename_i x7 e8
      refine State.wr_rdIs ?_ ?_
      · (refine .inl ?_; simp only [evtStatus, pageFld, Fld.bank, delayFld]; split <;> dsimp only <;> omega)
      · refine State.modRing_mode ?_
        exact h0'
    · rename_i x9 x10 x11 e12
      refine rdIs_ite ?_ ?_
      · refine State.wr_rdIs ?_ ?_
        · (refine .inl ?_; simp only [evtStatus, pageFld, Fld.bank, delayFld]; split <;> dsimp only <;> omega)
        · refine State.raise_mode ?_
          refine State.modRing_mode ?_
          exact h0'
      · refine State.wr_rdIs ?_ ?_
        · (refine .inl ?_; simp only [evtStatus, pageFld, Fld.bank, delayFld]; split <;> dsimp only <;> omega)
        · exact h0'

theorem State.setOffsets_mode {s : State} (h0' : RdIs F.CROWN_MODE_MODE v0 s) : RdIs F.CROWN_MODE_MODE v0 (State.setOffsets s) := by
  unfold State.setOffsets
  extract_lets s1 s2 s3 s4
  have h5 : RdIs F.CROWN_MODE_MODE v0 s4 := by
    unfold s4
    refine State.modRing_mode ?_
    refine State.wr_rdIs ?_ ?_
    · decide
    · exact h0'
  clear_value s1 s2 s3 s4
  refine State.modRing_mode ?_
  exact h5

theorem State.writeThr_mode {s : State} {n : ℕ} (h0' : RdIs F.CROWN_MODE_MODE v0 s) : RdIs F.CROWN_MODE_MODE v0 (State.writeThr s n) := by
  unfold State.writeThr
  refine State.ringCmd_mode ?_
  refine State.ringCmd_mode ?_
  exact h0'

theorem State.writeThresholds_mode {s : State} (h0' : RdIs F.CROWN_MODE_MODE v0 s) : RdIs F.CROWN_MODE_MODE v0 (State.writeThresholds s) := by
  unfold State.writeThresholds
  refine rdIs_ite ?_ ?_
  · refine rdIs_foldl ?_ ?_
    · exact h0'
    · intro s1 x2 h3
      refine State.writeThr_mode ?_
      exact h3
  · exact h0'

theorem State.sequenceDone_mode {s : State} (h0' : RdIs F.CROWN_MODE_MODE v0 s) : RdIs F.CROWN_MODE_MODE v0 (State.sequenceDone s) := by
  unfold State.sequenceDone
  extract_lets s1 s2
  rename_i s3 x4 x5 s6
  have h7 : RdIs F.CROWN_MODE_MODE v0 s2 := by
    unfold s2
    refine State.modRing_mode ?_
    exact h0'
  have h8 : RdIs F.CROWN_MODE_MODE v0 s3 := by
    unfold s3
    refine State.raise_mode ?_
    exact h7
  have h9 : RdIs F.CROWN_MODE_MODE v0 s6 := by
    unfold s6
    exact rdIs_upd h8
  clear_value s1 s2 s3 x4 x5 s6
  refine rdIs_ite ?_ ?_
  · refine State.replan_mode ?_
    refine rdIs_ite ?_ ?_
    · refine State.writeThresholds_mode ?_
      exact h9
    · exact h9
  · refine State.replanIfDue_mode ?_
    exact h7

theorem State.advanceSeq_mode {fuel : ℕ} {s : State} (h0' : RdIs F.CROWN_MODE_MODE v0 s) : RdIs F.CROWN_MODE_MODE v0 (State.advanceSeq fuel s) := by
  induction fuel generalizing s with
  | zero => exact h0'
  | succ n ih =>
    simp only [State.advanceSeq]
    split
    · exact State.sendCmd_mode (State.modRing_mode h0')
    · refine rdIs_ite h0' ?_
      split
      · exact ih (State.modRing_mode (State.wr_rdIs (by decide) h0'))
      · exact ih (State.modRing_mode h0')
      · exact rdIs_ite (State.modRing_mode h0') (ih (State.modRing_mode h0'))
      · refine rdIs_ite (ih (State.setOffsets_mode ?_)) (State.sequenceDone_mode ?_)
        all_goals exact rdIs_foldl h0' fun t x ht => State.takeDelay_mode (State.takeDelay_mode ht)
      · exact State.sequenceDone_mode h0'
      · exact h0'

theorem State.goOn_mode {s : State} (h0' : RdIs F.CROWN_MODE_MODE v0 s) : RdIs F.CROWN_MODE_MODE v0 (State.goOn s) := by
  unfold State.goOn
  refine rdIs_ite ?_ ?_
  · refine State.advanceSeq_mode ?_
    exact h0'
  · exact h0'

theorem State.measure_mode {s : State} (h0' : RdIs F.CROWN_MODE_MODE v0 s) : RdIs F.CROWN_MODE_MODE v0 (State.measure s) := by
  unfold State.measure
  refine rdIs_ite ?_ ?_
  · exact h0'
  · refine rdIs_ite ?_ ?_
    · refine State.modRing_mode ?_
      exact h0'
    · refine State.goOn_mode ?_
      refine State.modRing_mode ?_
      exact h0'

theorem execDelayPeriod_mode {s : State} (h0' : RdIs F.CROWN_MODE_MODE v0 s) : ∃ u', (execDelayPeriod s) = .next u' ∧ RdIs F.CROWN_MODE_MODE v0 u' := by
  unfold execDelayPeriod
  refine rdIs_out_ite ?_ ?_
  · refine ⟨_, rfl, ?_⟩
    refine State.measure_mode ?_
    exact h0'
  · refine ⟨_, rfl, ?_⟩
    exact h0'

theorem State.afterExchange_mode {s : State} {c : RingCmd} (h0' : RdIs F.CROWN_MODE_MODE v0 s) : RdIs F.CROWN_MODE_MODE v0 (State.afterExchange s c) := by
  unfold State.afterExchange
  refine rdIs_ite ?_ ?_
  · refine State.goOn_mode ?_
    exact h0'
  · exact h0'

theorem execEchoReturn_mode {n : Fin 32} {side : Fin 2} {rt : BitVec 16} {s : State} (h3' : RdIs F.CROWN_MODE_MODE v0 s) : ∃ u', (execEchoReturn n side rt s) = .next u' ∧ RdIs F.CROWN_MODE_MODE v0 u' := by
  unfold execEchoReturn
  split
  · rename_i x1 e2
    refine ⟨_, rfl, ?_⟩
    exact h3'
  · rename_i x3 x4 e5
    extract_lets s6
    clear_value s6
    split
    rename_i x7 x8 x9 e10
    extract_lets s11 s12
    have h13 : RdIs F.CROWN_MODE_MODE v0 s11 := by
      unfold s11
      refine State.modRing_mode ?_
      exact h3'
    have h14 : RdIs F.CROWN_MODE_MODE v0 s12 := by
      unfold s12
      refine rdIs_ite ?_ ?_
      · refine State.retryPass_mode ?_
        exact h13
      · exact h13
    clear_value s11 s12
    refine rdIs_out_ite ?_ ?_
    · refine ⟨_, rfl, ?_⟩
      refine State.sendCmd_mode ?_
      exact h14
    · refine ⟨_, rfl, ?_⟩
      refine State.afterExchange_mode ?_
      exact h14

theorem State.enterBroken_mode {s : State} (h0' : RdIs F.CROWN_MODE_MODE v0 s) : RdIs F.CROWN_MODE_MODE v0 (State.enterBroken s) := by
  unfold State.enterBroken
  refine rdIs_ite ?_ ?_
  · exact h0'
  · extract_lets s1 s2
    rename_i s3
    have h4 : RdIs F.CROWN_MODE_MODE v0 s1 := by
      unfold s1
      refine State.raise_mode ?_
      refine State.wr_rdIs ?_ ?_
      · decide
      · refine State.wr_rdIs ?_ ?_
        · decide
        · exact h0'
    have h5 : RdIs F.CROWN_MODE_MODE v0 s3 := by
      unfold s3
      exact rdIs_upd h4
    clear_value s1 s2 s3
    refine State.modRing_mode ?_
    exact h5

theorem State.sendEnum_mode {s : State} {side : ℕ} {next : ℕ} {step : ℕ} (h0' : RdIs F.CROWN_MODE_MODE v0 s) : RdIs F.CROWN_MODE_MODE v0 (State.sendEnum s side next step) := by
  unfold State.sendEnum
  refine State.sendCmd_mode ?_
  exact h0'

theorem State.conflict_mode {s : State} (h0' : RdIs F.CROWN_MODE_MODE v0 s) : RdIs F.CROWN_MODE_MODE v0 (State.conflict s) := by
  unfold State.conflict
  refine State.raise_mode ?_
  refine State.wrB_rdIs ?_ ?_
  · decide
  · exact h0'

theorem State.enumCompare_mode {s : State} (h0' : RdIs F.CROWN_MODE_MODE v0 s) : RdIs F.CROWN_MODE_MODE v0 (State.enumCompare s) := by
  unfold State.enumCompare
  extract_lets s1 s2
  have h3 : RdIs F.CROWN_MODE_MODE v0 s2 := by
    unfold s2
    split
    · rename_i x4 x5 x6 x7 e8 e9
      refine rdIs_ite ?_ ?_
      · refine State.conflict_mode ?_
        exact h0'
      · exact h0'
    · rename_i x10 x11 e12
      exact h0'
  clear_value s1 s2
  refine State.goOn_mode ?_
  refine State.modRing_mode ?_
  exact h3

theorem State.enumStep_mode {s : State} {next : Option ℕ} (h0' : RdIs F.CROWN_MODE_MODE v0 s) : RdIs F.CROWN_MODE_MODE v0 (State.enumStep s next) := by
  unfold State.enumStep
  extract_lets s1
  have h2 : RdIs F.CROWN_MODE_MODE v0 s1 := by
    unfold s1
    refine rdIs_ite ?_ ?_
    · refine State.enterBroken_mode ?_
      exact h0'
    · exact h0'
  clear_value s1
  split
  · rename_i x3 e4
    refine State.sendEnum_mode ?_
    refine State.modRing_mode ?_
    exact h2
  · rename_i x5 e6
    refine State.enumCompare_mode ?_
    refine State.modRing_mode ?_
    exact h2
  · rename_i x7 e8 e9
    exact h2

theorem execEnumReturn_mode {next : BitVec 8} {s : State} (h1' : RdIs F.CROWN_MODE_MODE v0 s) : ∃ u', (execEnumReturn next s) = .next u' ∧ RdIs F.CROWN_MODE_MODE v0 u' := by
  unfold execEnumReturn
  refine ⟨_, rfl, ?_⟩
  refine State.enumStep_mode ?_
  exact h1'

theorem execEnumTimeout_mode {s : State} (h0' : RdIs F.CROWN_MODE_MODE v0 s) : ∃ u', (execEnumTimeout s) = .next u' ∧ RdIs F.CROWN_MODE_MODE v0 u' := by
  unfold execEnumTimeout
  refine ⟨_, rfl, ?_⟩
  refine State.enumStep_mode ?_
  exact h0'

theorem State.enumerate_mode {s : State} (h0' : RdIs F.CROWN_MODE_MODE v0 s) : RdIs F.CROWN_MODE_MODE v0 (State.enumerate s) := by
  unfold State.enumerate
  refine rdIs_ite ?_ ?_
  · exact h0'
  · extract_lets s1 s2 s3
    have h4 : RdIs F.CROWN_MODE_MODE v0 s1 := by
      unfold s1
      refine State.wrB_rdIs ?_ ?_
      · decide
      · refine State.wrB_rdIs ?_ ?_
        · decide
        · exact h0'
    have h5 : RdIs F.CROWN_MODE_MODE v0 s2 := by
      unfold s2
      refine State.modRing_mode ?_
      exact h4
    have h6 : RdIs F.CROWN_MODE_MODE v0 s3 := by
      unfold s3
      refine State.sendEnum_mode ?_
      exact h5
    clear_value s1 s2 s3
    refine rdIs_ite ?_ ?_
    · refine State.enterBroken_mode ?_
      exact h6
    · exact h6

theorem State.cmdEnumerate_mode {s : State} (h0' : RdIs F.CROWN_MODE_MODE v0 s) : RdIs F.CROWN_MODE_MODE v0 (State.cmdEnumerate s) := by
  unfold State.cmdEnumerate
  refine rdIs_ite ?_ ?_
  · exact h0'
  · refine State.enumerate_mode ?_
    exact h0'

theorem execEnumerateCmd_mode {who : Initiator} {s : State} (h1' : RdIs F.CROWN_MODE_MODE v0 s) : ∃ u', (execEnumerateCmd who s) = .next u' ∧ RdIs F.CROWN_MODE_MODE v0 u' := by
  unfold execEnumerateCmd
  refine ⟨_, rfl, ?_⟩
  refine State.asWrite_mode ?_ ?_
  · exact h1'
  · intro s1 h2
    refine State.cmdEnumerate_mode ?_
    exact h2

theorem execKeepalive_mode {s : State} (h0' : RdIs F.CROWN_MODE_MODE v0 s) : ∃ u', (execKeepalive s) = .next u' ∧ RdIs F.CROWN_MODE_MODE v0 u' := by
  unfold execKeepalive
  refine rdIs_out_ite ?_ ?_
  · refine ⟨_, rfl, ?_⟩
    refine State.modRing_mode ?_
    refine State.ringCmd_mode ?_
    exact h0'
  · refine ⟨_, rfl, ?_⟩
    exact h0'

theorem State.countErrs_mode {s : State} {e : PortErrs} (h0' : RdIs F.CROWN_MODE_MODE v0 s) : RdIs F.CROWN_MODE_MODE v0 (State.countErrs s e) := by
  unfold State.countErrs
  refine State.bump_rdIs ?_ ?_
  · decide
  · refine State.bump_rdIs ?_ ?_
    · decide
    · refine State.bump_rdIs ?_ ?_
      · decide
      · refine State.bump_rdIs ?_ ?_
        · decide
        · exact h0'

theorem State.voidNode_mode {s : State} {n : ℕ} (h0' : RdIs F.CROWN_MODE_MODE v0 s) : RdIs F.CROWN_MODE_MODE v0 (State.voidNode s n) := by
  unfold State.voidNode
  extract_lets s1 s2 s3
  rename_i x4 x5 x6
  clear_value s1
  clear_value s2 s3 x4 x5 x6
  refine rdIs_ite ?_ ?_
  · exact h0'
  · refine State.voidCheck_mode ?_
    refine State.wr_rdIs ?_ ?_
    · decide
    · exact rdIs_upd h0'

theorem State.takeAnswers_mode {s : State} {down : ℕ} {up : ℕ} (h0' : RdIs F.CROWN_MODE_MODE v0 s) : RdIs F.CROWN_MODE_MODE v0 (State.takeAnswers s down up) := by
  unfold State.takeAnswers
  extract_lets s1 s2 s3 s4 s5 s6 s7 s8 s9 s10
  rename_i x11
  have h12 : RdIs F.CROWN_MODE_MODE v0 s2 := by
    unfold s2
    refine State.modRing_mode ?_
    exact h0'
  have h13 : RdIs F.CROWN_MODE_MODE v0 s4 := by
    unfold s4
    refine State.modRing_mode ?_
    exact h12
  have h14 : RdIs F.CROWN_MODE_MODE v0 s7 := by
    unfold s7
    refine rdIs_ite ?_ ?_
    · exact h13
    · refine State.modRing_mode ?_
      refine State.raise_mode ?_
      refine State.wr_rdIs ?_ ?_
      · decide
      · refine State.wr_rdIs ?_ ?_
        · decide
        · exact h13
  have h15 : RdIs F.CROWN_MODE_MODE v0 s8 := by
    unfold s8
    refine rdIs_ite ?_ ?_
    · refine State.abortRun_mode ?_
      exact h14
    · refine rdIs_ite ?_ ?_
      · refine State.enterBroken_mode ?_
        exact h13
      · exact h13
  have h16 : RdIs F.CROWN_MODE_MODE v0 s9 := by
    unfold s9
    refine rdIs_ite ?_ ?_
    · refine State.raise_mode ?_
      exact h15
    · exact h15
  have h17 : RdIs F.CROWN_MODE_MODE v0 s10 := by
    unfold s10
    refine rdIs_foldl ?_ ?_
    · exact h16
    · intro s18 x19 h20
      refine State.voidNode_mode ?_
      exact h20
  clear_value s1 s2 s3 s4 s5 s6 s7 s8 s9 s10 x11
  refine rdIs_ite ?_ ?_
  · exact h17
  · refine rdIs_ite ?_ ?_
    · refine State.replan_mode ?_
      exact h17
    · refine State.modBal_mode ?_
      exact h17

theorem State.locate_mode {s : State} (h0' : RdIs F.CROWN_MODE_MODE v0 s) : RdIs F.CROWN_MODE_MODE v0 (State.locate s) := by
  unfold State.locate
  extract_lets s1 s2
  clear_value s1 s2
  refine State.wr_rdIs ?_ ?_
  · decide
  · refine State.wr_rdIs ?_ ?_
    · decide
    · exact h0'

theorem State.afterKeepalive_mode {s : State} (h0' : RdIs F.CROWN_MODE_MODE v0 s) : RdIs F.CROWN_MODE_MODE v0 (State.afterKeepalive s) := by
  unfold State.afterKeepalive
  extract_lets s1
  have h2 : RdIs F.CROWN_MODE_MODE v0 s1 := by
    unfold s1
    refine rdIs_ite ?_ ?_
    · refine State.locate_mode ?_
      exact h0'
    · exact h0'
  clear_value s1
  refine rdIs_ite ?_ ?_
  · refine State.goOn_mode ?_
    refine State.modRing_mode ?_
    exact h2
  · refine rdIs_ite ?_ ?_
    · refine State.measure_mode ?_
      exact h2
    · exact h2

theorem execKeepaliveFail_mode {answers : NopAnswers} {errs : PortErrs} {s : State} (h2' : RdIs F.CROWN_MODE_MODE v0 s) : ∃ u', (execKeepaliveFail answers errs s) = .next u' ∧ RdIs F.CROWN_MODE_MODE v0 u' := by
  unfold execKeepaliveFail
  extract_lets s1
  rename_i s2 s3 x4 s5
  have h6 : RdIs F.CROWN_MODE_MODE v0 s1 := by
    unfold s1
    refine State.countErrs_mode ?_
    exact h2'
  have h7 : RdIs F.CROWN_MODE_MODE v0 s2 := by
    unfold s2
    refine State.takeAnswers_mode ?_
    exact h6
  have h8 : RdIs F.CROWN_MODE_MODE v0 s3 := by
    unfold s3
    refine State.modRing_mode ?_
    exact h7
  have h9 : RdIs F.CROWN_MODE_MODE v0 s5 := by
    unfold s5
    refine rdIs_ite ?_ ?_
    · refine State.enterBroken_mode ?_
      exact h8
    · exact h8
  clear_value s1 s2 s3 x4 s5
  refine rdIs_out_ite ?_ ?_
  · refine ⟨_, rfl, ?_⟩
    exact h6
  · refine ⟨_, rfl, ?_⟩
    refine State.afterKeepalive_mode ?_
    exact h9

theorem State.enterIntact_mode {s : State} (h0' : RdIs F.CROWN_MODE_MODE v0 s) : RdIs F.CROWN_MODE_MODE v0 (State.enterIntact s) := by
  unfold State.enterIntact
  extract_lets s1 s2
  have h3 : RdIs F.CROWN_MODE_MODE v0 s2 := by
    unfold s2
    refine State.wr_rdIs ?_ ?_
    · decide
    · refine State.wr_rdIs ?_ ?_
      · decide
      · refine State.wr_rdIs ?_ ?_
        · decide
        · exact h0'
  clear_value s1 s2
  refine State.modRing_mode ?_
  refine rdIs_ite ?_ ?_
  · refine State.raise_mode ?_
    exact h3
  · exact h3

theorem execKeepaliveReturn_mode {answers : NopAnswers} {loopNs : BitVec 16} {errs : PortErrs} {s : State} (h3' : RdIs F.CROWN_MODE_MODE v0 s) : ∃ u', (execKeepaliveReturn answers loopNs errs s) = .next u' ∧ RdIs F.CROWN_MODE_MODE v0 u' := by
  unfold execKeepaliveReturn
  extract_lets s1
  rename_i s2 x3 x4 s5 x6 s7 s8 s9
  have h10 : RdIs F.CROWN_MODE_MODE v0 s1 := by
    unfold s1
    refine State.countErrs_mode ?_
    exact h3'
  have h11 : RdIs F.CROWN_MODE_MODE v0 s2 := by
    unfold s2
    refine State.takeAnswers_mode ?_
    exact h10
  have h12 : RdIs F.CROWN_MODE_MODE v0 s5 := by
    unfold s5
    refine State.modRing_mode ?_
    exact h11
  have h13 : RdIs F.CROWN_MODE_MODE v0 s7 := by
    unfold s7
    refine rdIs_ite ?_ ?_
    · refine State.enterIntact_mode ?_
      exact h12
    · exact h12
  have h14 : RdIs F.CROWN_MODE_MODE v0 s8 := by
    unfold s8
    refine rdIs_ite ?_ ?_
    · refine State.wr_rdIs ?_ ?_
      · decide
      · exact h13
    · exact h13
  have h15 : RdIs F.CROWN_MODE_MODE v0 s9 := by
    unfold s9
    refine rdIs_ite ?_ ?_
    · refine State.enumerate_mode ?_
      refine State.modRing_mode ?_
      exact h14
    · exact h14
  clear_value s1 s2 x3 x4 s5 x6 s7 s8 s9
  refine rdIs_out_ite ?_ ?_
  · refine ⟨_, rfl, ?_⟩
    exact h10
  · refine ⟨_, rfl, ?_⟩
    refine State.afterKeepalive_mode ?_
    exact h15

theorem execLinkReport_mode {n : Fin 32} {s : State} (h1' : RdIs F.CROWN_MODE_MODE v0 s) : ∃ u', (execLinkReport n s) = .next u' ∧ RdIs F.CROWN_MODE_MODE v0 u' := by
  unfold execLinkReport
  refine rdIs_out_ite ?_ ?_
  · extract_lets s1
    have h2 : RdIs F.CROWN_MODE_MODE v0 s1 := by
      unfold s1
      refine rdIs_ite ?_ ?_
      · exact h1'
      · refine State.enterBroken_mode ?_
        exact h1'
    clear_value s1
    refine ⟨_, rfl, ?_⟩
    refine rdIs_ite ?_ ?_
    · refine State.locate_mode ?_
      exact h2
    · exact h2
  · refine ⟨_, rfl, ?_⟩
    exact h1'

theorem execMeasureCmd_mode {who : Initiator} {s : State} (h1' : RdIs F.CROWN_MODE_MODE v0 s) : ∃ u', (execMeasureCmd who s) = .next u' ∧ RdIs F.CROWN_MODE_MODE v0 u' := by
  unfold execMeasureCmd
  refine ⟨_, rfl, ?_⟩
  refine State.asWrite_mode ?_ ?_
  · exact h1'
  · intro s1 h2
    refine State.measure_mode ?_
    exact h2

theorem execPlanInterval_mode {s : State} (h0' : RdIs F.CROWN_MODE_MODE v0 s) : ∃ u', (execPlanInterval s) = .next u' ∧ RdIs F.CROWN_MODE_MODE v0 u' := by
  unfold execPlanInterval
  refine ⟨_, rfl, ?_⟩
  refine State.replan_mode ?_
  exact h0'

theorem State.planNow_mode {s : State} {who : Initiator} (h0' : RdIs F.CROWN_MODE_MODE v0 s) : RdIs F.CROWN_MODE_MODE v0 (State.planNow s who) := by
  unfold State.planNow
  refine rdIs_ite ?_ ?_
  · refine State.planBegin_mode ?_
    exact h0'
  · exact h0'

theorem execPlanNow_mode {who : Initiator} {s : State} (h1' : RdIs F.CROWN_MODE_MODE v0 s) : ∃ u', (execPlanNow who s) = .next u' ∧ RdIs F.CROWN_MODE_MODE v0 u' := by
  unfold execPlanNow
  refine ⟨_, rfl, ?_⟩
  refine State.asWrite_mode ?_ ?_
  · exact h1'
  · intro s1 h2
    refine State.planNow_mode ?_
    exact h2

theorem execRingPortLinkDown_mode {port : Fin 2} {codeErrs : BitVec 16} {s : State} (h2' : RdIs F.CROWN_MODE_MODE v0 s) : ∃ u', (execRingPortLinkDown port codeErrs s) = .next u' ∧ RdIs F.CROWN_MODE_MODE v0 u' := by
  unfold execRingPortLinkDown
  extract_lets s1 s2
  have h3 : RdIs F.CROWN_MODE_MODE v0 s1 := by
    unfold s1
    refine State.wrB_rdIs ?_ ?_
    · (split <;> (refine .inl ?_; simp only [evtStatus, pageFld, Fld.bank, F.RING_STATUS_LINK_A, F.RING_STATUS_LINK_B]; omega))
    · exact h2'
  have h4 : RdIs F.CROWN_MODE_MODE v0 s2 := by
    unfold s2
    refine State.bump_rdIs ?_ ?_
    · (split <;> (refine .inl ?_; simp only [evtStatus, pageFld, Fld.bank, F.RING_ERRA_CODE_ERR, A.RING_ERRB]; omega))
    · exact h3
  clear_value s1 s2
  refine ⟨_, rfl, ?_⟩
  refine rdIs_ite ?_ ?_
  · exact h4
  · refine State.enterBroken_mode ?_
    exact h4

theorem execRingPortSynchronised_mode {port : Fin 2} {s : State} (h1' : RdIs F.CROWN_MODE_MODE v0 s) : ∃ u', (execRingPortSynchronised port s) = .next u' ∧ RdIs F.CROWN_MODE_MODE v0 u' := by
  unfold execRingPortSynchronised
  refine ⟨_, rfl, ?_⟩
  refine State.wrB_rdIs ?_ ?_
  · (split <;> (refine .inl ?_; simp only [evtStatus, pageFld, Fld.bank, F.RING_STATUS_LINK_A, F.RING_STATUS_LINK_B]; omega))
  · exact h1'

theorem State.takeIdent_mode {s : State} {n : ℕ} {p : List Byte} (h0' : RdIs F.CROWN_MODE_MODE v0 s) : RdIs F.CROWN_MODE_MODE v0 (State.takeIdent s n p) := by
  unfold State.takeIdent
  extract_lets s1 s2 s3
  have h4 : RdIs F.CROWN_MODE_MODE v0 s1 := by
    unfold s1
    refine State.wr_rdIs ?_ ?_
    · (refine .inl ?_; simp only [evtStatus, pageFld, Fld.bank, F.RING_NODEID_FW_VER]; omega)
    · refine State.wr_rdIs ?_ ?_
      · (refine .inl ?_; simp only [evtStatus, pageFld, Fld.bank, F.RING_NODEID_CELLS]; omega)
      · refine State.wr_rdIs ?_ ?_
        · (refine .inl ?_; simp only [evtStatus, pageFld, Fld.bank, F.RING_NODEID_TYPE]; omega)
        · exact h0'
  have h5 : RdIs F.CROWN_MODE_MODE v0 s3 := by
    unfold s3
    refine State.modRing_mode ?_
    exact h4
  clear_value s1 s2 s3
  refine rdIs_ite ?_ ?_
  · exact h5
  · refine State.raise_mode ?_
    refine State.wrB_rdIs ?_ ?_
    · decide
    · exact h5

theorem State.thrFails_mode {s : State} {n : ℕ} (h0' : RdIs F.CROWN_MODE_MODE v0 s) : RdIs F.CROWN_MODE_MODE v0 (State.thrFails s n) := by
  unfold State.thrFails
  refine rdIs_ite ?_ ?_
  · refine State.lastingW_mode ?_
    refine State.modRing_mode ?_
    exact h0'
  · extract_lets s1
    have h2 : RdIs F.CROWN_MODE_MODE v0 s1 := by
      unfold s1
      refine State.modRing_mode ?_
      exact h0'
    clear_value s1
    refine rdIs_ite ?_ ?_
    · refine State.writeThr_mode ?_
      exact h2
    · exact h2

theorem State.loopGot_mode {s : State} {n : ℕ} {found : List (ℕ × ℕ × ℕ × ℤ)} (h0' : RdIs F.CROWN_MODE_MODE v0 s) : RdIs F.CROWN_MODE_MODE v0 (State.loopGot s n found) := by
  unfold State.loopGot
  split
  · rename_i x1 e2
    exact h0'
  · rename_i x3 x4 e5
    refine rdIs_ite ?_ ?_
    · extract_lets s6
      rename_i x7 s8
      have h9 : RdIs F.CROWN_MODE_MODE v0 s6 := by
        unfold s6
        refine State.modRing_mode ?_
        exact h0'
      have h10 : RdIs F.CROWN_MODE_MODE v0 s8 := by
        unfold s8
        refine rdIs_ite ?_ ?_
        · refine State.record_mode ?_
          exact h9
        · refine State.record_mode ?_
          exact h9
      clear_value s6 x7 s8
      refine rdIs_ite ?_ ?_
      · refine State.modRing_mode ?_
        exact h10
      · exact h9
    · exact h0'

theorem State.clearGot_mode {s : State} {n : ℕ} (h0' : RdIs F.CROWN_MODE_MODE v0 s) : RdIs F.CROWN_MODE_MODE v0 (State.clearGot s n) := by
  unfold State.clearGot
  exact rdIs_upd h0'

theorem State.noAnswer_mode {s : State} {c : RingCmd} (h0' : RdIs F.CROWN_MODE_MODE v0 s) : RdIs F.CROWN_MODE_MODE v0 (State.noAnswer s c) := by
  unfold State.noAnswer
  extract_lets s1
  clear_value s1
  split
  · rename_i x2 e3
    refine State.planGot_mode ?_
    exact h0'
  · rename_i x4 e5
    refine State.thrFails_mode ?_
    exact h0'
  · rename_i x6 e7
    refine State.modRing_mode ?_
    exact h0'
  · rename_i x8 e9
    refine State.loopGot_mode ?_
    exact h0'
  · rename_i x10 e11
    refine State.clearGot_mode ?_
    exact h0'
  · rename_i x12 e13 e14 e15 e16 e17
    exact h0'

theorem State.takeThr_mode {s : State} {n : ℕ} {p : List Byte} (h0' : RdIs F.CROWN_MODE_MODE v0 s) : RdIs F.CROWN_MODE_MODE v0 (State.takeThr s n p) := by
  unfold State.takeThr
  extract_lets s1 s2
  have h3 : RdIs F.CROWN_MODE_MODE v0 s2 := by
    unfold s2
    refine State.modRing_mode ?_
    refine State.wrB_rdIs ?_ ?_
    · (refine .inl ?_; simp only [evtStatus, pageFld, Fld.bank, F.NODE_NSTAT_THR_OK]; omega)
    · exact h0'
  clear_value s1 s2
  refine rdIs_ite ?_ ?_
  · exact h3
  · refine State.raise_mode ?_
    exact h3

theorem State.takeCause_mode {s : State} {n : ℕ} {cause : ℕ} {cell : ℕ} {last : ℕ} (h0' : RdIs F.CROWN_MODE_MODE v0 s) : RdIs F.CROWN_MODE_MODE v0 (State.takeCause s n cause cell last) := by
  unfold State.takeCause
  extract_lets s1
  clear_value s1
  refine State.loopGot_mode ?_
  refine State.wr_rdIs ?_ ?_
  · (refine .inl ?_; simp only [evtStatus, pageFld, Fld.bank, F.NODE_NSTAT_CAUSE]; omega)
  · exact h0'

theorem State.actReply_mode {s : State} {c : RingCmd} {status : ℕ} {p : List Byte} (h0' : RdIs F.CROWN_MODE_MODE v0 s) : RdIs F.CROWN_MODE_MODE v0 (State.actReply s c status p) := by
  unfold State.actReply
  extract_lets s1
  rename_i s2
  have h3 : RdIs F.CROWN_MODE_MODE v0 s2 := by
    unfold s2
    refine rdIs_ite ?_ ?_
    · refine State.retryPass_mode ?_
      exact h0'
    · exact h0'
  clear_value s1 s2
  split
  · rename_i x4 e5
    refine rdIs_ite ?_ ?_
    · refine State.conflict_mode ?_
      exact h0'
    · refine rdIs_ite ?_ ?_
      · refine State.takeIdent_mode ?_
        exact h0'
      · refine State.noAnswer_mode ?_
        exact h0'
  · rename_i x6 e7
    refine rdIs_ite ?_ ?_
    · refine State.balStat_mode ?_
      exact h0'
    · refine State.noAnswer_mode ?_
      exact h0'
  · rename_i x8 e9
    refine rdIs_ite ?_ ?_
    · exact h0'
    · refine State.thrFails_mode ?_
      exact h0'
  · rename_i x10 e11
    refine rdIs_ite ?_ ?_
    · refine State.modRing_mode ?_
      exact h3
    · refine State.thrFails_mode ?_
      exact h0'
  · rename_i x12 e13
    refine rdIs_ite ?_ ?_
    · refine State.takeThr_mode ?_
      exact h0'
    · refine State.noAnswer_mode ?_
      exact h0'
  · rename_i x14 e15
    refine rdIs_ite ?_ ?_
    · refine State.takeCause_mode ?_
      exact h0'
    · refine State.noAnswer_mode ?_
      exact h0'
  · rename_i x16 e17
    refine rdIs_ite ?_ ?_
    · refine State.clearGot_mode ?_
      refine State.wr_rdIs ?_ ?_
      · (refine .inl ?_; simp only [evtStatus, pageFld, Fld.bank, F.NODE_NSTAT_CAUSE]; omega)
      · exact h0'
    · refine State.noAnswer_mode ?_
      exact h0'
  · rename_i x18 e19 e20 e21 e22 e23 e24 e25
    exact h0'

theorem execRingReply_mode {n : Fin 32} {cmd : BitVec 8} {seq : BitVec 8} {status : BitVec 4} {data : ReplyData} {s : State} (h5' : RdIs F.CROWN_MODE_MODE v0 s) : ∃ u', (execRingReply n cmd seq status data s) = .next u' ∧ RdIs F.CROWN_MODE_MODE v0 u' := by
  unfold execRingReply
  extract_lets s1
  have h2 : RdIs F.CROWN_MODE_MODE v0 s1 := by
    unfold s1
    refine State.countErrs_mode ?_
    exact h5'
  clear_value s1
  split
  · rename_i x3 x4 e5
    extract_lets s6 s7
    have h8 : RdIs F.CROWN_MODE_MODE v0 s6 := by
      unfold s6
      refine State.modRing_mode ?_
      exact h2
    have h9 : RdIs F.CROWN_MODE_MODE v0 s7 := by
      unfold s7
      refine rdIs_ite ?_ ?_
      · refine State.retryPass_mode ?_
        exact h8
      · exact h8
    clear_value s6 s7
    refine ⟨_, rfl, ?_⟩
    refine State.afterExchange_mode ?_
    refine State.actReply_mode ?_
    exact h9
  · rename_i x10 e11
    refine rdIs_out_ite ?_ ?_
    · refine ⟨_, rfl, ?_⟩
      refine State.conflict_mode ?_
      exact h2
    · refine ⟨_, rfl, ?_⟩
      exact h2

theorem State.crcFault_mode {s : State} {c : RingCmd} {e : PortErrs} (h0' : RdIs F.CROWN_MODE_MODE v0 s) : RdIs F.CROWN_MODE_MODE v0 (State.crcFault s c e) := by
  unfold State.crcFault
  refine State.lastingW_mode ?_
  refine State.raise_mode ?_
  exact h0'

theorem execRingReplyTimeout_mode {n : Fin 32} {cmd : BitVec 8} {seq : BitVec 8} {errA : PortErr} {errB : PortErr} {s : State} (h5' : RdIs F.CROWN_MODE_MODE v0 s) : ∃ u', (execRingReplyTimeout n cmd seq errA errB s) = .next u' ∧ RdIs F.CROWN_MODE_MODE v0 u' := by
  unfold execRingReplyTimeout
  extract_lets s1
  have h2 : RdIs F.CROWN_MODE_MODE v0 s1 := by
    unfold s1
    refine State.countErrs_mode ?_
    exact h5'
  clear_value s1
  split
  · rename_i x3 x4 e5
    extract_lets s6
    have h7 : RdIs F.CROWN_MODE_MODE v0 s6 := by
      unfold s6
      refine State.modRing_mode ?_
      exact h2
    clear_value s6
    refine rdIs_out_ite ?_ ?_
    · refine ⟨_, rfl, ?_⟩
      refine State.afterExchange_mode ?_
      refine State.noAnswer_mode ?_
      refine State.crcFault_mode ?_
      exact h7
    · refine ⟨_, rfl, ?_⟩
      refine State.sendCmd_mode ?_
      exact h7
  · rename_i x8 e9
    refine ⟨_, rfl, ?_⟩
    exact h2

theorem execRingSeqRelease_mode {s : State} (h0' : RdIs F.CROWN_MODE_MODE v0 s) : ∃ u', (execRingSeqRelease s) = .next u' ∧ RdIs F.CROWN_MODE_MODE v0 u' := by
  unfold execRingSeqRelease
  split
  · rename_i x1 e2
    refine ⟨_, rfl, ?_⟩
    exact h0'
  · rename_i x3 x4 x5 e6
    refine rdIs_out_ite ?_ ?_
    · refine ⟨_, rfl, ?_⟩
      refine State.launchCmd_mode ?_
      refine State.modRing_mode ?_
      exact h0'
    · refine ⟨_, rfl, ?_⟩
      exact h0'

theorem execStopConfirmTimeout_mode {n : Fin 32} {s : State} (h1' : RdIs F.CROWN_MODE_MODE v0 s) : ∃ u', (execStopConfirmTimeout n s) = .next u' ∧ RdIs F.CROWN_MODE_MODE v0 u' := by
  unfold execStopConfirmTimeout
  refine rdIs_out_ite ?_ ?_
  · refine ⟨_, rfl, ?_⟩
    exact h1'
  · refine rdIs_out_ite ?_ ?_
    · refine ⟨_, rfl, ?_⟩
      refine State.lastingW_mode ?_
      refine State.modBal_mode ?_
      exact h1'
    · refine ⟨_, rfl, ?_⟩
      refine State.ringCmd_mode ?_
      refine State.ringCmd_mode ?_
      exact rdIs_upd h1'

theorem State.wakeDone_mode {s : State} (h0' : RdIs F.CROWN_MODE_MODE v0 s) : RdIs F.CROWN_MODE_MODE v0 (State.wakeDone s) := by
  unfold State.wakeDone
  refine rdIs_ite ?_ ?_
  · refine State.enumerate_mode ?_
    refine State.wr_rdIs ?_ ?_
    · decide
    · refine State.send_mode ?_
      exact h0'
  · exact h0'

theorem execWakeSequenceReturn_mode {s : State} (h0' : RdIs F.CROWN_MODE_MODE v0 s) : ∃ u', (execWakeSequenceReturn s) = .next u' ∧ RdIs F.CROWN_MODE_MODE v0 u' := by
  unfold execWakeSequenceReturn
  refine ⟨_, rfl, ?_⟩
  refine State.wakeDone_mode ?_
  exact h0'

theorem execWakeSequenceTimeout_mode {s : State} (h0' : RdIs F.CROWN_MODE_MODE v0 s) : ∃ u', (execWakeSequenceTimeout s) = .next u' ∧ RdIs F.CROWN_MODE_MODE v0 u' := by
  unfold execWakeSequenceTimeout
  refine ⟨_, rfl, ?_⟩
  refine State.wakeDone_mode ?_
  exact h0'

theorem State.startRing_mode {s : State} (h0' : RdIs F.CROWN_MODE_MODE v0 s) : RdIs F.CROWN_MODE_MODE v0 (State.startRing s) := by
  unfold State.startRing
  refine State.send_mode ?_
  refine State.modRing_mode ?_
  refine State.wr_rdIs ?_ ?_
  · decide
  · exact h0'

theorem State.wakeDormant_mode {s : State} {cause : ℕ} (h0' : RdIs F.CROWN_MODE_MODE v0 s) : RdIs F.CROWN_MODE_MODE v0 (State.wakeDormant s cause) := by
  unfold State.wakeDormant
  refine rdIs_ite ?_ ?_
  · extract_lets s1
    have h2 : RdIs F.CROWN_MODE_MODE v0 s1 := by
      unfold s1
      refine rdIs_foldl ?_ ?_
      · exact h0'
      · intro s3 x4 h5
        refine rdIs_ite ?_ ?_
        · refine State.canIntegrate_mode ?_
          exact h5
        · exact h5
    clear_value s1
    refine State.startRing_mode ?_
    refine State.raise_mode ?_
    refine State.bump_rdIs ?_ ?_
    · decide
    · refine State.wr_rdIs ?_ ?_
      · decide
      · refine State.wrB_rdIs ?_ ?_
        · decide
        · exact h2
  · exact h0'

theorem State.sendStatus_mode {s : State} {v : Via} (h0' : RdIs F.CROWN_MODE_MODE v0 s) : RdIs F.CROWN_MODE_MODE v0 (State.sendStatus s v) := by
  unfold State.sendStatus
  refine rdIs_ite ?_ ?_
  · extract_lets s1 s2
    rename_i s3
    have h4 : RdIs F.CROWN_MODE_MODE v0 s3 := by
      unfold s3
      exact rdIs_upd h0'
    clear_value s1 s2 s3
    split
    · rename_i x5 x6 x7 x8 x9
      refine State.send_mode ?_
      exact h4
    · rename_i x10 x11 x12
      refine State.canService_mode ?_
      exact h4
  · exact h0'

theorem State.dispDone_mode {s : State} {v : Option Via} {result : ℕ} {detail : ℕ} (h0' : RdIs F.CROWN_MODE_MODE v0 s) : RdIs F.CROWN_MODE_MODE v0 (State.dispDone s v result detail) := by
  unfold State.dispDone
  extract_lets s1 s2
  rename_i s3 s4
  have h5 : RdIs F.CROWN_MODE_MODE v0 s1 := by
    unfold s1
    refine State.wr_rdIs ?_ ?_
    · decide
    · exact h0'
  have h6 : RdIs F.CROWN_MODE_MODE v0 s3 := by
    unfold s3
    exact rdIs_upd h5
  have h7 : RdIs F.CROWN_MODE_MODE v0 s4 := by
    unfold s4
    refine rdIs_ite ?_ ?_
    · refine State.raise_mode ?_
      refine State.bump_rdIs ?_ ?_
      · decide
      · exact h6
    · refine State.raise_mode ?_
      refine State.bump_rdIs ?_ ?_
      · decide
      · exact h6
  clear_value s1 s2 s3 s4
  split
  · rename_i x8 x9
    refine State.sendStatus_mode ?_
    exact h7
  · rename_i x10
    exact h7

theorem State.dispSeq_mode {s : State} {v : Via} {seq : ℕ} (h0' : RdIs F.CROWN_MODE_MODE v0 s) : RdIs F.CROWN_MODE_MODE v0 (State.dispSeq s v seq) := by
  unfold State.dispSeq
  extract_lets s1
  rename_i s2
  have h3 : RdIs F.CROWN_MODE_MODE v0 s2 := by
    unfold s2
    exact rdIs_upd h0'
  clear_value s1 s2
  refine State.showLastSeq_mode ?_
  exact h3

theorem State.horizonStep_mode {s : State} {k : ℕ} {size : ℕ} {need : ℕ} {above : Bool} (h0' : RdIs F.CROWN_MODE_MODE v0 s) : RdIs F.CROWN_MODE_MODE v0 (State.horizonStep s k size need above) := by
  unfold State.horizonStep
  extract_lets s1 s2 s3 s4 s5 s6
  rename_i x7
  have h8 : RdIs F.CROWN_MODE_MODE v0 s6 := by
    unfold s6
    exact rdIs_upd h0'
  clear_value s1 s2 s3 s4 s5 s6 x7
  refine rdIs_ite ?_ ?_
  · refine State.raise_mode ?_
    refine State.wrBit_rdIs ?_ ?_
    · decide
    · exact h8
  · refine rdIs_ite ?_ ?_
    · refine State.wrBit_rdIs ?_ ?_
      · decide
      · exact h8
    · exact h8

theorem State.horizons_mode {s : State} (h0' : RdIs F.CROWN_MODE_MODE v0 s) : RdIs F.CROWN_MODE_MODE v0 (State.horizons s) := by
  unfold State.horizons
  extract_lets s1 s2 s3 s4 s5
  clear_value s2
  have h6 : RdIs F.CROWN_MODE_MODE v0 s3 := by
    unfold s3
    refine State.horizonStep_mode ?_
    exact h0'
  have h7 : RdIs F.CROWN_MODE_MODE v0 s4 := by
    unfold s4
    refine State.horizonStep_mode ?_
    exact h6
  have h8 : RdIs F.CROWN_MODE_MODE v0 s5 := by
    unfold s5
    refine State.horizonStep_mode ?_
    exact h7
  clear_value s1 s3 s4 s5
  refine State.horizonStep_mode ?_
  exact h8

theorem State.impStartJudged_mode {s : State} {code : ℕ} (h0' : RdIs F.CROWN_MODE_MODE v0 s) : RdIs F.CROWN_MODE_MODE v0 (State.impStartJudged s code) := by
  unfold State.impStartJudged
  refine rdIs_foldl ?_ ?_
  · exact rdIs_upd h0'
  · intro s1 x2 h3
    extract_lets s4
    have h5 : RdIs F.CROWN_MODE_MODE v0 s4 := by
      unfold s4
      split
      · rename_i x6 x7 x8
        refine rdIs_ite ?_ ?_
        · refine State.dispSeq_mode ?_
          exact h3
        · exact h3
      · rename_i x9
        exact h3
    clear_value s4
    refine State.dispDone_mode ?_
    exact h5

theorem State.limiters_mode {s : State} (h0' : RdIs F.CROWN_MODE_MODE v0 s) : RdIs F.CROWN_MODE_MODE v0 (State.limiters s) := by
  unfold State.limiters
  extract_lets s1 s2 s3 s4 s5 s6
  clear_value s4
  clear_value s1 s2 s3 s5 s6
  refine State.wrI_rdIs ?_ ?_
  · decide
  · refine State.wrI_rdIs ?_ ?_
    · decide
    · exact h0'

theorem State.rampSetPoint_mode {s : State} (h0' : RdIs F.CROWN_MODE_MODE v0 s) : RdIs F.CROWN_MODE_MODE v0 (State.rampSetPoint s) := by
  unfold State.rampSetPoint
  split
  · rename_i x1 e2
    exact h0'
  · rename_i x3 e4
    extract_lets s5 s6 s7
    clear_value s5 s6 s7
    refine rdIs_ite ?_ ?_
    · exact h0'
    · refine rdIs_ite ?_ ?_
      · refine State.wrI_rdIs ?_ ?_
        · decide
        · exact h0'
      · refine State.wrI_rdIs ?_ ?_
        · decide
        · exact h0'
  · rename_i x8 e9 e10
    refine State.wr_rdIs ?_ ?_
    · decide
    · exact h0'

theorem execLimiterChain_mode {s : State} (h0' : RdIs F.CROWN_MODE_MODE v0 s) : ∃ u', (execLimiterChain s) = .next u' ∧ RdIs F.CROWN_MODE_MODE v0 u' := by
  unfold execLimiterChain
  refine rdIs_out_ite ?_ ?_
  · refine ⟨_, rfl, ?_⟩
    exact h0'
  · extract_lets s1
    have h2 : RdIs F.CROWN_MODE_MODE v0 s1 := by
      unfold s1
      refine State.rampSetPoint_mode ?_
      refine State.limiters_mode ?_
      refine State.horizons_mode ?_
      exact h0'
    clear_value s1
    refine ⟨_, rfl, ?_⟩
    refine State.mirror_mode ?_
    exact h2

theorem execStaleTimer_mode {s : State} (h0' : RdIs F.CROWN_MODE_MODE v0 s) : ∃ u', (execStaleTimer s) = .next u' ∧ RdIs F.CROWN_MODE_MODE v0 u' := by
  unfold execStaleTimer
  refine rdIs_out_ite ?_ ?_
  · extract_lets s1
    rename_i s2 x3
    have h4 : RdIs F.CROWN_MODE_MODE v0 s1 := by
      unfold s1
      refine State.raise_mode ?_
      refine State.bump_rdIs ?_ ?_
      · decide
      · refine State.wrB_rdIs ?_ ?_
        · decide
        · exact h0'
    have h5 : RdIs F.CROWN_MODE_MODE v0 s2 := by
      unfold s2
      refine State.wr_rdIs ?_ ?_
      · decide
      · exact h4
    clear_value s1 s2 x3
    refine ⟨_, rfl, ?_⟩
    refine rdIs_ite ?_ ?_
    · exact h4
    · exact rdIs_upd h5
  · refine ⟨_, rfl, ?_⟩
    exact h0'

theorem execStatusPeriod_mode {s : State} (h0' : RdIs F.CROWN_MODE_MODE v0 s) : ∃ u', (execStatusPeriod s) = .next u' ∧ RdIs F.CROWN_MODE_MODE v0 u' := by
  unfold execStatusPeriod
  split
  · rename_i x1 x2 x3 x4 x5 e6 e7
    refine ⟨_, rfl, ?_⟩
    refine State.sendStatus_mode ?_
    exact h0'
  · rename_i x8 x9 e10
    refine ⟨_, rfl, ?_⟩
    refine State.sendStatus_mode ?_
    exact h0'
  · rename_i x11 x12 e13 e14
    refine ⟨_, rfl, ?_⟩
    exact h0'

theorem State.setReady_mode {s : State} {b : Bool} (h0' : RdIs F.CROWN_MODE_MODE v0 s) : RdIs F.CROWN_MODE_MODE v0 (State.setReady s b) := by
  unfold State.setReady
  refine rdIs_ite ?_ ?_
  · exact h0'
  · refine State.raise_mode ?_
    refine State.wrB_rdIs ?_ ?_
    · decide
    · exact h0'

theorem State.refreshReady_mode {s : State} (h0' : RdIs F.CROWN_MODE_MODE v0 s) : RdIs F.CROWN_MODE_MODE v0 (State.refreshReady s) := by
  unfold State.refreshReady
  refine rdIs_ite ?_ ?_
  · refine State.setReady_mode ?_
    exact h0'
  · exact h0'

theorem execRofsWrite_mode {who : Initiator} {ofs : BitVec 16} {s : State} (h2' : RdIs F.CROWN_MODE_MODE v0 s) : ∃ u', (execRofsWrite who ofs s) = .next u' ∧ RdIs F.CROWN_MODE_MODE v0 u' := by
  unfold execRofsWrite
  refine ⟨_, rfl, ?_⟩
  refine State.asWrite_mode ?_ ?_
  · exact h2'
  · intro s1 h2
    refine State.wr_rdIs ?_ ?_
    · (refine .inl ?_; simp only [evtStatus, pageFld, Fld.bank, F.QREAD_ROFS_OFS]; omega)
    · exact h2

theorem execRpopWrite_mode {who : Initiator} {s : State} (h1' : RdIs F.CROWN_MODE_MODE v0 s) : ∃ u', (execRpopWrite who s) = .next u' ∧ RdIs F.CROWN_MODE_MODE v0 u' := by
  unfold execRpopWrite
  refine ⟨_, rfl, ?_⟩
  refine State.asWrite_mode ?_ ?_
  · exact h1'
  · intro s1 h2
    refine State.popEntry_mode ?_
    exact h2

theorem execRselWrite_mode {who : Initiator} {ring : Fin 32} {s : State} (h2' : RdIs F.CROWN_MODE_MODE v0 s) : ∃ u', (execRselWrite who ring s) = .next u' ∧ RdIs F.CROWN_MODE_MODE v0 u' := by
  unfold execRselWrite
  refine ⟨_, rfl, ?_⟩
  refine State.asWrite_mode ?_ ?_
  · exact h2'
  · intro s1 h2
    refine State.selectRing_mode ?_
    exact h2

theorem execWorkItemComplete_mode {e : Fin 64} {s : State} (h1' : RdIs F.CROWN_MODE_MODE v0 s) : ∃ u', (execWorkItemComplete e s) = .next u' ∧ RdIs F.CROWN_MODE_MODE v0 u' := by
  unfold execWorkItemComplete
  split
  · rename_i x1 e2
    refine ⟨_, rfl, ?_⟩
    exact h1'
  · rename_i x3 x4 x5 x6 e7
    extract_lets s8 s9
    rename_i x10 s11
    have h12 : RdIs F.CROWN_MODE_MODE v0 s9 := by
      unfold s9
      exact rdIs_upd h1'
    have h13 : RdIs F.CROWN_MODE_MODE v0 s11 := by
      unfold s11
      refine rdIs_ite ?_ ?_
      · refine State.bump_rdIs ?_ ?_
        · (refine .inl ?_; simp only [evtStatus, pageFld, Fld.bank, F.BOUGH_ENG_4_ITEMS]; omega)
        · exact rdIs_upd h12
      · refine State.raise_mode ?_
        refine State.bump_rdIs ?_ ?_
        · decide
        · exact h12
    clear_value s8 s9 x10 s11
    refine ⟨_, rfl, ?_⟩
    refine State.refreshDeques_mode ?_
    refine State.takeItem_mode ?_
    exact h13

theorem State.crcLasting_mode {s : State} {node : ℕ} {ports : ℕ} (h0' : RdIs F.CROWN_MODE_MODE v0 s) : RdIs F.CROWN_MODE_MODE v0 (State.crcLasting s node ports) := by
  unfold State.crcLasting
  refine State.lastingW_mode ?_
  refine State.raise_mode ?_
  exact h0'

theorem State.digest_mode {s : State} {c : Capture} (h0' : RdIs F.CROWN_MODE_MODE v0 s) : RdIs F.CROWN_MODE_MODE v0 (State.digest s c) := by
  unfold State.digest
  extract_lets s1 s2
  rename_i s3
  have h4 : RdIs F.CROWN_MODE_MODE v0 s3 := by
    unfold s3
    exact rdIs_upd h0'
  clear_value s1 s2 s3
  refine State.mirror_mode ?_
  exact h4

theorem State.setCapture_mode {s : State} {c : Capture} (h0' : RdIs F.CROWN_MODE_MODE v0 s) : RdIs F.CROWN_MODE_MODE v0 (State.setCapture s c) := by
  unfold State.setCapture
  exact rdIs_upd h0'

theorem State.frameFails_mode {s : State} {c : Capture} {n : ℕ} {key : ℕ} {port : ℕ} (h0' : RdIs F.CROWN_MODE_MODE v0 s) : RdIs F.CROWN_MODE_MODE v0 (State.frameFails s c n key port) := by
  unfold State.frameFails
  extract_lets s1
  clear_value s1
  refine rdIs_ite ?_ ?_
  · refine State.crcLasting_mode ?_
    refine State.setCapture_mode ?_
    exact h0'
  · refine State.setCapture_mode ?_
    exact h0'

theorem State.judgePeriod_mode {s : State} (h0' : RdIs F.CROWN_MODE_MODE v0 s) : RdIs F.CROWN_MODE_MODE v0 (State.judgePeriod s) := by
  unfold State.judgePeriod
  extract_lets s1 s2 s3
  rename_i s4 x5 x6 s7
  clear_value s3
  have h8 : RdIs F.CROWN_MODE_MODE v0 s4 := by
    unfold s4
    refine rdIs_ite ?_ ?_
    · exact h0'
    · refine State.raise_mode ?_
      refine State.wrB_rdIs ?_ ?_
      · decide
      · exact h0'
  have h9 : RdIs F.CROWN_MODE_MODE v0 s7 := by
    unfold s7
    refine State.wrB_rdIs ?_ ?_
    · decide
    · exact h0'
  clear_value s1 s2 s4 x5 x6 s7
  refine rdIs_ite ?_ ?_
  · exact rdIs_upd h8
  · refine rdIs_ite ?_ ?_
    · refine rdIs_ite ?_ ?_
      · exact rdIs_upd h0'
      · refine rdIs_ite ?_ ?_
        · exact rdIs_upd h9
        · exact rdIs_upd h0'
    · exact h0'

theorem State.judgeSuspension_mode {s : State} {c : Capture} (h0' : RdIs F.CROWN_MODE_MODE v0 s) : RdIs F.CROWN_MODE_MODE v0 (State.judgeSuspension s c) := by
  unfold State.judgeSuspension
  refine rdIs_foldl ?_ ?_
  · exact h0'
  · intro s1 x2 h3
    refine rdIs_ite ?_ ?_
    · exact h3
    · extract_lets s4
      rename_i x5 s6
      have h7 : RdIs F.CROWN_MODE_MODE v0 s6 := by
        unfold s6
        refine State.ringCmd_mode ?_
        exact rdIs_upd h3
      clear_value s4 x5 s6
      refine rdIs_ite ?_ ?_
      · refine rdIs_ite ?_ ?_
        · exact h3
        · refine rdIs_ite ?_ ?_
          · refine State.lastingW_mode ?_
            refine State.raise_mode ?_
            refine State.wrBit_rdIs ?_ ?_
            · decide
            · exact h7
          · exact rdIs_upd h3
      · refine rdIs_ite ?_ ?_
        · refine State.retryPass_mode ?_
          exact rdIs_upd h3
        · exact h3

theorem State.launchSync_mode {s : State} {kind : ℕ} (h0' : RdIs F.CROWN_MODE_MODE v0 s) : RdIs F.CROWN_MODE_MODE v0 (State.launchSync s kind) := by
  unfold State.launchSync
  extract_lets s1 s2
  rename_i s3
  have h4 : RdIs F.CROWN_MODE_MODE v0 s3 := by
    unfold s3
    exact rdIs_upd h0'
  clear_value s1 s2 s3
  refine rdIs_ite ?_ ?_
  · exact h4
  · refine State.send_mode ?_
    refine State.send_mode ?_
    exact h4

theorem State.launchHarvest_mode {s : State} {kind : ℕ} {lag : ℕ} {r : Readings} (h0' : RdIs F.CROWN_MODE_MODE v0 s) : RdIs F.CROWN_MODE_MODE v0 (State.launchHarvest s kind lag r) := by
  unfold State.launchHarvest
  extract_lets s1 s2 s3 s4
  rename_i x5
  have h6 : RdIs F.CROWN_MODE_MODE v0 s1 := by
    unfold s1
    refine State.launchSync_mode ?_
    exact h0'
  clear_value s1 s2 s3 s4 x5
  exact rdIs_upd h6

theorem State.launchT_mode {s : State} {r : Readings} (h0' : RdIs F.CROWN_MODE_MODE v0 s) : RdIs F.CROWN_MODE_MODE v0 (State.launchT s r) := by
  unfold State.launchT
  refine rdIs_ite ?_ ?_
  · refine State.launchHarvest_mode ?_
    exact rdIs_upd h0'
  · exact h0'

theorem State.missSlot_mode {s : State} (h0' : RdIs F.CROWN_MODE_MODE v0 s) : RdIs F.CROWN_MODE_MODE v0 (State.missSlot s) := by
  unfold State.missSlot
  extract_lets s1
  rename_i x2
  have h3 : RdIs F.CROWN_MODE_MODE v0 s1 := by
    unfold s1
    refine State.raise_mode ?_
    refine State.bump_rdIs ?_ ?_
    · decide
    · exact h0'
  clear_value s1 x2
  refine rdIs_ite ?_ ?_
  · exact rdIs_upd h3
  · exact h3

theorem State.showCells_mode {s : State} {r : Record} {c : Capture} (h0' : RdIs F.CROWN_MODE_MODE v0 s) : RdIs F.CROWN_MODE_MODE v0 (State.showCells s r c) := by
  unfold State.showCells
  refine rdIs_ite ?_ ?_
  · exact h0'
  · extract_lets s1 s2 s3
    have h4 : RdIs F.CROWN_MODE_MODE v0 s1 := by
      unfold s1
      refine rdIs_foldl ?_ ?_
      · exact h0'
      · intro s5 x6 h7
        split
        rename_i x8 x9 x10
        refine State.wr_rdIs ?_ ?_
        · (refine .inl ?_; simp only [evtStatus, pageFld, Fld.bank, pairFld, F.CELLV_V_CELL_LO, F.CELLV_V_CELL_HI]; split <;> dsimp only <;> omega)
        · exact h7
    have h11 : RdIs F.CROWN_MODE_MODE v0 s2 := by
      unfold s2
      refine rdIs_foldl ?_ ?_
      · exact h4
      · intro s12 x13 h14
        split
        rename_i x15 x16 x17
        refine State.wr_rdIs ?_ ?_
        · (refine .inl ?_; simp only [evtStatus, pageFld, Fld.bank, pairFld, F.CELLV_STACK_NODE_LO, F.CELLV_STACK_NODE_HI]; split <;> dsimp only <;> omega)
        · exact h14
    have h18 : RdIs F.CROWN_MODE_MODE v0 s3 := by
      unfold s3
      refine State.wr_rdIs ?_ ?_
      · decide
      · refine State.wrI_rdIs ?_ ?_
        · decide
        · refine State.wrI_rdIs ?_ ?_
          · decide
          · refine State.wrI_rdIs ?_ ?_
            · decide
            · exact h11
    clear_value s1 s2 s3
    refine State.raise_mode ?_
    exact h18

theorem State.takeFrame_mode {s : State} {c : Capture} {n : ℕ} {key : ℕ} {p : List Byte} (h0' : RdIs F.CROWN_MODE_MODE v0 s) : RdIs F.CROWN_MODE_MODE v0 (State.takeFrame s c n key p) := by
  unfold State.takeFrame
  extract_lets s1 s2 s3 s4
  have h5 : RdIs F.CROWN_MODE_MODE v0 s2 := by
    unfold s2
    refine State.wrB_rdIs ?_ ?_
    · (refine .inl ?_; simp only [evtStatus, pageFld, Fld.bank, F.NODE_NSTAT_COUNT_ERR]; omega)
    · refine State.wrB_rdIs ?_ ?_
      · (refine .inl ?_; simp only [evtStatus, pageFld, Fld.bank, F.NODE_NSTAT_UNSUSPENDED]; omega)
      · exact h0'
  have h6 : RdIs F.CROWN_MODE_MODE v0 s4 := by
    unfold s4
    refine rdIs_ite ?_ ?_
    · refine State.retryPass_mode ?_
      exact h5
    · exact h5
  clear_value s1 s2 s3 s4
  refine State.setCapture_mode ?_
  exact h6

theorem State.takeTemps_mode {s : State} {c : Capture} (h0' : RdIs F.CROWN_MODE_MODE v0 s) : RdIs F.CROWN_MODE_MODE v0 (State.takeTemps s c) := by
  unfold State.takeTemps
  extract_lets s1 s2 s3 s4
  clear_value s1
  have h5 : RdIs F.CROWN_MODE_MODE v0 s3 := by
    unfold s3
    refine rdIs_foldl ?_ ?_
    · exact h0'
    · intro s6 x7 h8
      refine rdIs_foldl ?_ ?_
      · exact h8
      · intro s9 x10 h11
        split
        rename_i x12 x13 x14
        refine State.wr_rdIs ?_ ?_
        · (refine .inl ?_; simp only [evtStatus, pageFld, Fld.bank, pairFld, F.NODE_TEMP_ENTRY_LO, F.NODE_TEMP_ENTRY_HI]; split <;> dsimp only <;> omega)
        · exact h11
  have h15 : RdIs F.CROWN_MODE_MODE v0 s4 := by
    unfold s4
    refine State.judgePeriod_mode ?_
    exact h5
  clear_value s2 s3 s4
  refine rdIs_ite ?_ ?_
  · refine State.replan_mode ?_
    exact h15
  · exact h15

theorem State.freezeCells_mode {s : State} {b : Bool} (h0' : RdIs F.CROWN_MODE_MODE v0 s) : RdIs F.CROWN_MODE_MODE v0 (State.freezeCells s b) := by
  unfold State.freezeCells
  refine State.wrB_rdIs ?_ ?_
  · decide
  · exact h0'

theorem execFreezeCmd_mode {who : Initiator} {b : Bool} {s : State} (h2' : RdIs F.CROWN_MODE_MODE v0 s) : ∃ u', (execFreezeCmd who b s) = .next u' ∧ RdIs F.CROWN_MODE_MODE v0 u' := by
  unfold execFreezeCmd
  refine ⟨_, rfl, ?_⟩
  refine State.asWrite_mode ?_ ?_
  · exact h2'
  · intro s1 h2
    refine State.freezeCells_mode ?_
    exact h2

theorem execFreezeExpiry_mode {s : State} (h0' : RdIs F.CROWN_MODE_MODE v0 s) : ∃ u', (execFreezeExpiry s) = .next u' ∧ RdIs F.CROWN_MODE_MODE v0 u' := by
  unfold execFreezeExpiry
  refine ⟨_, rfl, ?_⟩
  refine State.freezeCells_mode ?_
  exact h0'

theorem execHarvestClose_mode {tag : HarvestTag} {s : State} (h1' : RdIs F.CROWN_MODE_MODE v0 s) : ∃ u', (execHarvestClose tag s) = .next u' ∧ RdIs F.CROWN_MODE_MODE v0 u' := by
  unfold execHarvestClose
  split
  · rename_i x1 e2
    refine ⟨_, rfl, ?_⟩
    exact h1'
  · rename_i x3 x4 e5
    extract_lets s6 s7 s8 s9 s10 s11
    rename_i s12 x13 x14 x15
    have h16 : RdIs F.CROWN_MODE_MODE v0 s8 := by
      unfold s8
      refine rdIs_foldl ?_ ?_
      · exact h1'
      · intro s17 x18 h19
        refine State.crcLasting_mode ?_
        exact h19
    have h20 : RdIs F.CROWN_MODE_MODE v0 s9 := by
      unfold s9
      refine rdIs_foldl ?_ ?_
      · exact h16
      · intro s21 x22 h23
        refine State.wrB_rdIs ?_ ?_
        · (refine .inl ?_; simp only [evtStatus, pageFld, Fld.bank, F.NODE_NSTAT_MISSING]; omega)
        · exact h23
    have h24 : RdIs F.CROWN_MODE_MODE v0 s12 := by
      unfold s12
      exact rdIs_upd h20
    clear_value s6 s7 s8 s9 s10 s11 s12 x13 x14 x15
    refine rdIs_out_ite ?_ ?_
    · refine ⟨_, rfl, ?_⟩
      refine State.missSlot_mode ?_
      exact h24
    · split
      rename_i s25 s26 x27 e28
      have h29 : RdIs F.CROWN_MODE_MODE v0 s26 := by
        refine rdIs_of_fst e28 ?_
        refine State.push_mode ?_
        refine State.digest_mode ?_
        exact h24
      extract_lets s30 s31 s32 s33 s34 s35 s36
      rename_i x37 s38 x39 s40 x41 s42
      have h43 : RdIs F.CROWN_MODE_MODE v0 s30 := by
        unfold s30
        refine State.wr_rdIs ?_ ?_
        · decide
        · refine State.wrB_rdIs ?_ ?_
          · decide
          · refine State.wr_rdIs ?_ ?_
            · decide
            · exact h29
      have h44 : RdIs F.CROWN_MODE_MODE v0 s31 := by
        unfold s31
        refine State.wr_rdIs ?_ ?_
        · decide
        · exact h43
      have h45 : RdIs F.CROWN_MODE_MODE v0 s32 := by
        unfold s32
        refine rdIs_ite ?_ ?_
        · refine rdIs_ite ?_ ?_
          · refine State.bump_rdIs ?_ ?_
            · decide
            · exact h44
          · exact h44
        · refine State.raise_mode ?_
          refine State.bump_rdIs ?_ ?_
          · decide
          · exact h44
      have h46 : RdIs F.CROWN_MODE_MODE v0 s33 := by
        unfold s33
        refine rdIs_ite ?_ ?_
        · refine State.raise_mode ?_
          exact h45
        · exact h45
      have h47 : RdIs F.CROWN_MODE_MODE v0 s34 := by
        unfold s34
        refine State.raise_mode ?_
        exact h46
      have h48 : RdIs F.CROWN_MODE_MODE v0 s36 := by
        unfold s36
        refine State.raise_mode ?_
        refine State.bump_rdIs ?_ ?_
        · decide
        · exact h46
      have h49 : RdIs F.CROWN_MODE_MODE v0 s38 := by
        unfold s38
        refine rdIs_ite ?_ ?_
        · exact rdIs_upd h47
        · exact rdIs_upd h48
      have h50 : RdIs F.CROWN_MODE_MODE v0 s40 := by
        unfold s40
        exact rdIs_upd h49
      have h51 : RdIs F.CROWN_MODE_MODE v0 s42 := by
        unfold s42
        refine rdIs_ite ?_ ?_
        · exact rdIs_upd h50
        · exact h50
      clear_value s30 s31 s32 s33 s34 s35 s36 x37 s38 x39 s40 x41 s42
      refine rdIs_out_ite ?_ ?_
      · refine ⟨_, rfl, ?_⟩
        refine State.takeTemps_mode ?_
        exact h51
      · refine ⟨_, rfl, ?_⟩
        refine State.judgeSuspension_mode ?_
        refine State.showCells_mode ?_
        exact h51

theorem execHarvestData_mode {n : Fin 32} {cmd : BitVec 8} {seq : Fin 16} {port : Fin 2} {crcOk : Bool} {payload : List Byte} {s : State} (h6' : RdIs F.CROWN_MODE_MODE v0 s) : ∃ u', (execHarvestData n cmd seq port crcOk payload s) = .next u' ∧ RdIs F.CROWN_MODE_MODE v0 u' := by
  unfold execHarvestData
  extract_lets s1
  rename_i x2
  have h3 : RdIs F.CROWN_MODE_MODE v0 s1 := by
    unfold s1
    refine rdIs_ite ?_ ?_
    · exact h6'
    · refine State.bump_rdIs ?_ ?_
      · (split <;> (refine .inl ?_; simp only [evtStatus, pageFld, Fld.bank, F.RING_ERRA_CRC_ERR, A.RING_ERRB]; omega))
      · exact h6'
  clear_value s1 x2
  split
  · rename_i x4 e5
    refine ⟨_, rfl, ?_⟩
    exact h3
  · rename_i x6 x7 e8
    refine rdIs_out_ite ?_ ?_
    · refine ⟨_, rfl, ?_⟩
      exact h3
    · refine rdIs_out_ite ?_ ?_
      · refine ⟨_, rfl, ?_⟩
        refine State.frameFails_mode ?_
        exact h3
      · refine rdIs_out_ite ?_ ?_
        · refine ⟨_, rfl, ?_⟩
          refine State.frameFails_mode ?_
          refine State.raise_mode ?_
          refine State.wrB_rdIs ?_ ?_
          · (refine .inl ?_; simp only [evtStatus, pageFld, Fld.bank, F.NODE_NSTAT_COUNT_ERR]; omega)
          · exact h3
        · refine ⟨_, rfl, ?_⟩
          refine State.takeFrame_mode ?_
          exact h3

theorem execHarvestDataDeadline_mode {tag : HarvestTag} {s : State} (h1' : RdIs F.CROWN_MODE_MODE v0 s) : ∃ u', (execHarvestDataDeadline tag s) = .next u' ∧ RdIs F.CROWN_MODE_MODE v0 u' := by
  unfold execHarvestDataDeadline
  split
  · rename_i x1 e2
    refine ⟨_, rfl, ?_⟩
    exact h1'
  · rename_i x3 x4 e5
    extract_lets s6
    rename_i s7 x8
    have h9 : RdIs F.CROWN_MODE_MODE v0 s7 := by
      unfold s7
      refine State.setCapture_mode ?_
      exact h1'
    clear_value s6 s7 x8
    refine rdIs_out_ite ?_ ?_
    · refine ⟨_, rfl, ?_⟩
      refine rdIs_foldl ?_ ?_
      · exact h9
      · intro s10 x11 h12
        refine State.ringCmd_mode ?_
        exact h12
    · refine ⟨_, rfl, ?_⟩
      refine rdIs_foldl ?_ ?_
      · refine State.setCapture_mode ?_
        exact h1'
      · intro s13 x14 h15
        refine State.crcLasting_mode ?_
        exact h15

theorem State.countSlot_mode {s : State} (h0' : RdIs F.CROWN_MODE_MODE v0 s) : RdIs F.CROWN_MODE_MODE v0 (State.countSlot s) := by
  unfold State.countSlot
  extract_lets s1 s2
  rename_i x3
  clear_value s1 s2 x3
  exact rdIs_upd h0'

theorem execHarvestSlot_mode {r : Readings} {lag : Fin 40} {moved : Bool} {s : State} (h3' : RdIs F.CROWN_MODE_MODE v0 s) : ∃ u', (execHarvestSlot r lag moved s) = .next u' ∧ RdIs F.CROWN_MODE_MODE v0 u' := by
  unfold execHarvestSlot
  refine rdIs_out_ite ?_ ?_
  · refine ⟨_, rfl, ?_⟩
    exact h3'
  · extract_lets s1
    rename_i s2 x3
    have h4 : RdIs F.CROWN_MODE_MODE v0 s1 := by
      unfold s1
      refine State.wrB_rdIs ?_ ?_
      · decide
      · exact h3'
    have h5 : RdIs F.CROWN_MODE_MODE v0 s2 := by
      unfold s2
      refine State.countSlot_mode ?_
      exact h4
    clear_value s1 s2 x3
    split
    · rename_i x6 e7
      refine ⟨_, rfl, ?_⟩
      refine State.countSlot_mode ?_
      exact h4
    · rename_i x8 x9 e10
      refine rdIs_out_ite ?_ ?_
      · refine ⟨_, rfl, ?_⟩
        refine State.missSlot_mode ?_
        exact h5
      · refine ⟨_, rfl, ?_⟩
        refine State.launchHarvest_mode ?_
        exact rdIs_upd h5

theorem execLoopClosed_mode {ma : BitVec 8} {s : State} (h1' : RdIs F.CROWN_MODE_MODE v0 s) : ∃ u', (execLoopClosed ma s) = .next u' ∧ RdIs F.CROWN_MODE_MODE v0 u' := by
  unfold execLoopClosed
  extract_lets s1
  have h2 : RdIs F.CROWN_MODE_MODE v0 s1 := by
    unfold s1
    refine State.wr_rdIs ?_ ?_
    · decide
    · exact h1'
  clear_value s1
  refine rdIs_out_ite ?_ ?_
  · refine ⟨_, rfl, ?_⟩
    exact h2
  · refine ⟨_, rfl, ?_⟩
    refine State.clearCond_mode ?_
    refine State.raise_mode ?_
    refine State.wrB_rdIs ?_ ?_
    · decide
    · exact h2

theorem State.oneshot_mode {s : State} {bits : ℕ} {r : Readings} (h0' : RdIs F.CROWN_MODE_MODE v0 s) : RdIs F.CROWN_MODE_MODE v0 (State.oneshot s bits r) := by
  unfold State.oneshot
  refine rdIs_ite ?_ ?_
  · exact h0'
  · extract_lets s1
    rename_i s2
    have h3 : RdIs F.CROWN_MODE_MODE v0 s2 := by
      unfold s2
      exact rdIs_upd h0'
    clear_value s1 s2
    refine rdIs_ite ?_ ?_
    · refine State.launchT_mode ?_
      exact h3
    · exact h3

theorem execOneshotC_mode {who : Initiator} {s : State} (h1' : RdIs F.CROWN_MODE_MODE v0 s) : ∃ u', (execOneshotC who s) = .next u' ∧ RdIs F.CROWN_MODE_MODE v0 u' := by
  unfold execOneshotC
  refine ⟨_, rfl, ?_⟩
  refine State.asWrite_mode ?_ ?_
  · exact h1'
  · intro s1 h2
    refine State.oneshot_mode ?_
    exact h2

theorem execOneshotT_mode {who : Initiator} {r : Readings} {s : State} (h2' : RdIs F.CROWN_MODE_MODE v0 s) : ∃ u', (execOneshotT who r s) = .next u' ∧ RdIs F.CROWN_MODE_MODE v0 u' := by
  unfold execOneshotT
  refine ⟨_, rfl, ?_⟩
  refine State.asWrite_mode ?_ ?_
  · exact h2'
  · intro s1 h2
    refine State.oneshot_mode ?_
    exact h2

theorem execOneshotV_mode {who : Initiator} {s : State} (h1' : RdIs F.CROWN_MODE_MODE v0 s) : ∃ u', (execOneshotV who s) = .next u' ∧ RdIs F.CROWN_MODE_MODE v0 u' := by
  unfold execOneshotV
  refine ⟨_, rfl, ?_⟩
  refine State.asWrite_mode ?_ ?_
  · exact h1'
  · intro s1 h2
    refine State.oneshot_mode ?_
    exact h2

theorem execPauseLaunch_mode {s : State} (h0' : RdIs F.CROWN_MODE_MODE v0 s) : ∃ u', (execPauseLaunch s) = .next u' ∧ RdIs F.CROWN_MODE_MODE v0 u' := by
  unfold execPauseLaunch
  refine rdIs_out_ite ?_ ?_
  · refine ⟨_, rfl, ?_⟩
    refine State.launchSync_mode ?_
    exact h0'
  · refine ⟨_, rfl, ?_⟩
    exact h0'

theorem execTHarvestDue_mode {s : State} (h0' : RdIs F.CROWN_MODE_MODE v0 s) : ∃ u', (execTHarvestDue s) = .next u' ∧ RdIs F.CROWN_MODE_MODE v0 u' := by
  unfold execTHarvestDue
  refine rdIs_out_ite ?_ ?_
  · refine ⟨_, rfl, ?_⟩
    exact rdIs_upd h0'
  · refine ⟨_, rfl, ?_⟩
    exact h0'

theorem execTHarvestLaunch_mode {r : Readings} {s : State} (h1' : RdIs F.CROWN_MODE_MODE v0 s) : ∃ u', (execTHarvestLaunch r s) = .next u' ∧ RdIs F.CROWN_MODE_MODE v0 u' := by
  unfold execTHarvestLaunch
  refine rdIs_out_ite ?_ ?_
  · refine ⟨_, rfl, ?_⟩
    refine State.launchT_mode ?_
    exact h1'
  · refine ⟨_, rfl, ?_⟩
    exact h1'

theorem State.learnRf_mode {s : State} {c : ℕ} {reZ : ℤ} (h0' : RdIs F.CROWN_MODE_MODE v0 s) : RdIs F.CROWN_MODE_MODE v0 (State.learnRf s c reZ) := by
  unfold State.learnRf
  extract_lets s1 s2
  rename_i x3 x4
  clear_value s1 s2 x3 x4
  refine rdIs_ite ?_ ?_
  · exact h0'
  · refine State.raise_mode ?_
    refine State.setCell_mode ?_
    exact h0'

theorem execJournalWriteComplete_mode {verified : Bool} {s : State} (h1' : RdIs F.CROWN_MODE_MODE v0 s) : ∃ u', (execJournalWriteComplete verified s) = .next u' ∧ RdIs F.CROWN_MODE_MODE v0 u' := by
  unfold execJournalWriteComplete
  split
  · rename_i x1 e2
    refine ⟨_, rfl, ?_⟩
    exact h1'
  · rename_i x3 x4 e5
    refine rdIs_out_ite ?_ ?_
    · refine ⟨_, rfl, ?_⟩
      refine State.commitWrite_mode ?_
      refine rdIs_ite ?_ ?_
      · refine State.retryPass_mode ?_
        exact h1'
      · exact h1'
    · refine rdIs_out_ite ?_ ?_
      · refine ⟨_, rfl, ?_⟩
        refine State.abandonWrite_mode ?_
        refine State.lastingW_mode ?_
        exact h1'
      · refine ⟨_, rfl, ?_⟩
        exact rdIs_upd h1'

theorem execLearnedJournalInterval_mode {s : State} (h0' : RdIs F.CROWN_MODE_MODE v0 s) : ∃ u', (execLearnedJournalInterval s) = .next u' ∧ RdIs F.CROWN_MODE_MODE v0 u' := by
  unfold execLearnedJournalInterval
  refine ⟨_, rfl, ?_⟩
  refine State.journal_mode ?_
  exact h0'

theorem execStateJournalInterval_mode {s : State} (h0' : RdIs F.CROWN_MODE_MODE v0 s) : ∃ u', (execStateJournalInterval s) = .next u' ∧ RdIs F.CROWN_MODE_MODE v0 u' := by
  unfold execStateJournalInterval
  refine ⟨_, rfl, ?_⟩
  refine State.journal_mode ?_
  exact h0'

theorem execWriteNow_mode {who : Initiator} {s : State} (h1' : RdIs F.CROWN_MODE_MODE v0 s) : ∃ u', (execWriteNow who s) = .next u' ∧ RdIs F.CROWN_MODE_MODE v0 u' := by
  unfold execWriteNow
  refine ⟨_, rfl, ?_⟩
  refine State.asWrite_mode ?_ ?_
  · exact h1'
  · intro s1 h2
    refine State.journalBoth_mode ?_
    exact h2

theorem State.deferredJournals_mode {s : State} (h0' : RdIs F.CROWN_MODE_MODE v0 s) : RdIs F.CROWN_MODE_MODE v0 (State.deferredJournals s) := by
  unfold State.deferredJournals
  extract_lets s1 s2
  rename_i s3
  have h4 : RdIs F.CROWN_MODE_MODE v0 s3 := by
    unfold s3
    refine State.wrB_rdIs ?_ ?_
    · decide
    · exact rdIs_upd h0'
  clear_value s1 s2 s3
  refine rdIs_foldl ?_ ?_
  · exact h4
  · intro s5 x6 h7
    refine State.journal_mode ?_
    exact h7

theorem State.showEntry_mode {s : State} {slot : ℕ} {seq : ℕ} (h0' : RdIs F.CROWN_MODE_MODE v0 s) : RdIs F.CROWN_MODE_MODE v0 (State.showEntry s slot seq) := by
  unfold State.showEntry
  refine State.wr_rdIs ?_ ?_
  · decide
  · refine State.wrB_rdIs ?_ ?_
    · decide
    · refine State.wr_rdIs ?_ ?_
      · decide
      · exact h0'

theorem State.storeEntry_mode {s : State} {format : ℕ} (h0' : RdIs F.CROWN_MODE_MODE v0 s) : RdIs F.CROWN_MODE_MODE v0 (State.storeEntry s format) := by
  unfold State.storeEntry
  extract_lets s1 s2 s3 s4
  rename_i x5
  have h6 : RdIs F.CROWN_MODE_MODE v0 s4 := by
    unfold s4
    refine rdIs_foldl ?_ ?_
    · exact h0'
    · intro s7 x8 h9
      refine State.erase_mode ?_
      exact h9
  clear_value s1 s2 s3 s4 x5
  refine State.showEntry_mode ?_
  refine State.wr_rdIs ?_ ?_
  · decide
  · exact rdIs_upd h6

theorem State.storeLregs_mode {s : State} (h0' : RdIs F.CROWN_MODE_MODE v0 s) : RdIs F.CROWN_MODE_MODE v0 (State.storeLregs s) := by
  unfold State.storeLregs
  extract_lets s1 s2 s3
  rename_i x4
  clear_value s1 s2 s3 x4
  exact rdIs_upd h0'

theorem State.clearCool_mode {s : State} {mask : ℕ} (h0' : RdIs F.CROWN_MODE_MODE v0 s) : RdIs F.CROWN_MODE_MODE v0 (State.clearCool s mask) := by
  unfold State.clearCool
  refine rdIs_foldl ?_ ?_
  · exact h0'
  · intro s1 x2 h3
    refine rdIs_ite ?_ ?_
    · refine State.setCool_mode ?_
      exact h3
    · exact h3

theorem execThermClrFault_mode {who : Initiator} {mask : BitVec 6} {s : State} (h2' : RdIs F.CROWN_MODE_MODE v0 s) : ∃ u', (execThermClrFault who mask s) = .next u' ∧ RdIs F.CROWN_MODE_MODE v0 u' := by
  unfold execThermClrFault
  refine ⟨_, rfl, ?_⟩
  refine State.asWrite_mode ?_ ?_
  · exact h2'
  · intro s1 h2
    refine State.clearCool_mode ?_
    exact h2

theorem State.showCounters_mode {s : State} (h0' : RdIs F.CROWN_MODE_MODE v0 s) : RdIs F.CROWN_MODE_MODE v0 (State.showCounters s) := by
  unfold State.showCounters
  refine rdIs_foldl ?_ ?_
  · exact h0'
  · intro s1 x2 h3
    split
    rename_i x4 x5 x6
    refine State.wr_rdIs ?_ ?_
    · (refine .inl ?_; simp only [evtStatus, pageFld, Fld.bank, A.TELEM_QIN_LO]; omega)
    · refine State.wr_rdIs ?_ ?_
      · (refine .inl ?_; simp only [evtStatus, pageFld, Fld.bank, A.TELEM_QIN_LO]; omega)
      · exact h3

theorem State.cntReset_mode {s : State} {who : Initiator} (h0' : RdIs F.CROWN_MODE_MODE v0 s) : RdIs F.CROWN_MODE_MODE v0 (State.cntReset s who) := by
  unfold State.cntReset
  extract_lets s1 s2
  rename_i x3
  have h4 : RdIs F.CROWN_MODE_MODE v0 s2 := by
    unfold s2
    refine State.record_mode ?_
    exact h0'
  clear_value s1 s2 x3
  refine rdIs_ite ?_ ?_
  · refine State.counterSlot_mode ?_
    refine State.showCounters_mode ?_
    exact rdIs_upd h4
  · exact h4

theorem execCntReset_mode {who : Initiator} {s : State} (h1' : RdIs F.CROWN_MODE_MODE v0 s) : ∃ u', (execCntReset who s) = .next u' ∧ RdIs F.CROWN_MODE_MODE v0 u' := by
  unfold execCntReset
  refine ⟨_, rfl, ?_⟩
  refine State.asWrite_mode ?_ ?_
  · exact h1'
  · intro s1 h2
    refine State.crossing_mode ?_ ?_
    · exact h2
    · intro s3 h4
      refine State.cntReset_mode ?_
      exact h4

theorem State.readCounterLo_mode {s : State} {k : ℕ} (h0' : RdIs F.CROWN_MODE_MODE v0 s) : RdIs F.CROWN_MODE_MODE v0 (State.readCounterLo s k) := by
  unfold State.readCounterLo
  exact rdIs_upd h0'

theorem execCounterLoRead_mode {who : Initiator} {k : Fin 4} {s : State} (h2' : RdIs F.CROWN_MODE_MODE v0 s) : ∃ u', (execCounterLoRead who k s) = .next u' ∧ RdIs F.CROWN_MODE_MODE v0 u' := by
  unfold execCounterLoRead
  refine ⟨_, rfl, ?_⟩
  refine State.asRead_mode ?_ ?_
  · exact h2'
  · intro s1 h2
    refine State.readCounterLo_mode ?_
    exact h2

theorem execCounterSlotInterval_mode {s : State} (h0' : RdIs F.CROWN_MODE_MODE v0 s) : ∃ u', (execCounterSlotInterval s) = .next u' ∧ RdIs F.CROWN_MODE_MODE v0 u' := by
  unfold execCounterSlotInterval
  refine ⟨_, rfl, ?_⟩
  refine State.counterSlot_mode ?_
  exact h0'

theorem execDeferredWrite_mode {s : State} (h0' : RdIs F.CROWN_MODE_MODE v0 s) : ∃ u', (execDeferredWrite s) = .next u' ∧ RdIs F.CROWN_MODE_MODE v0 u' := by
  unfold execDeferredWrite
  refine rdIs_out_ite ?_ ?_
  · refine ⟨_, rfl, ?_⟩
    exact h0'
  · extract_lets s1 s2
    have h3 : RdIs F.CROWN_MODE_MODE v0 s1 := by
      unfold s1
      refine State.deferredJournals_mode ?_
      exact h0'
    have h4 : RdIs F.CROWN_MODE_MODE v0 s2 := by
      unfold s2
      refine rdIs_ite ?_ ?_
      · refine State.counterSlot_mode ?_
        exact h3
      · exact h3
    clear_value s1 s2
    refine ⟨_, rfl, ?_⟩
    refine rdIs_ite ?_ ?_
    · refine State.retainSlot_mode ?_
      exact h4
    · exact h4

theorem State.clearPeaks_mode {s : State} {mask : ℕ} (h0' : RdIs F.CROWN_MODE_MODE v0 s) : RdIs F.CROWN_MODE_MODE v0 (State.clearPeaks s mask) := by
  unfold State.clearPeaks
  refine rdIs_foldl ?_ ?_
  · exact h0'
  · intro s1 x2 h3
    refine rdIs_ite ?_ ?_
    · refine State.wr_rdIs ?_ ?_
      · (refine .inl ?_; simp only [evtStatus, pageFld, Fld.bank, F.TELEM_PKMIN_PK_MIN]; omega)
      · refine State.wr_rdIs ?_ ?_
        · (refine .inl ?_; simp only [evtStatus, pageFld, Fld.bank, F.TELEM_PKMAX_PK_MAX]; omega)
        · exact h3
    · exact h3

theorem execPkClr_mode {who : Initiator} {mask : BitVec 6} {s : State} (h2' : RdIs F.CROWN_MODE_MODE v0 s) : ∃ u', (execPkClr who mask s) = .next u' ∧ RdIs F.CROWN_MODE_MODE v0 u' := by
  unfold execPkClr
  refine ⟨_, rfl, ?_⟩
  refine State.asWrite_mode ?_ ?_
  · exact h2'
  · intro s1 h2
    refine State.crossing_mode ?_ ?_
    · exact h2
    · intro s3 h4
      refine State.clearPeaks_mode ?_
      exact h4

theorem State.reduce_mode {s : State} {n : ℕ} {q' : ℕ} {x : Reduced} (h0' : RdIs F.CROWN_MODE_MODE v0 s) : RdIs F.CROWN_MODE_MODE v0 (State.reduce s n q' x) := by
  unfold State.reduce
  extract_lets s1 s2 s3
  have h4 : RdIs F.CROWN_MODE_MODE v0 s1 := by
    unfold s1
    refine State.wrI_rdIs ?_ ?_
    · (refine .inl ?_; simp only [evtStatus, pageFld, Fld.bank, F.TELEM_MEAN_MEAN]; omega)
    · exact h0'
  have h5 : RdIs F.CROWN_MODE_MODE v0 s2 := by
    unfold s2
    refine State.wr_rdIs ?_ ?_
    · (refine .inl ?_; simp only [evtStatus, pageFld, Fld.bank, F.TELEM_RMS_RMS]; omega)
    · exact h4
  have h6 : RdIs F.CROWN_MODE_MODE v0 s3 := by
    unfold s3
    refine State.wrI_rdIs ?_ ?_
    · (refine .inl ?_; simp only [evtStatus, pageFld, Fld.bank, F.TELEM_MAX_MAX]; omega)
    · refine State.wrI_rdIs ?_ ?_
      · (refine .inl ?_; simp only [evtStatus, pageFld, Fld.bank, F.TELEM_MIN_MIN]; omega)
      · exact h5
  clear_value s1 s2 s3
  refine State.wrI_rdIs ?_ ?_
  · (refine .inl ?_; simp only [evtStatus, pageFld, Fld.bank, F.TELEM_PKMIN_PK_MIN]; omega)
  · refine State.wrI_rdIs ?_ ?_
    · (refine .inl ?_; simp only [evtStatus, pageFld, Fld.bank, F.TELEM_PKMAX_PK_MAX]; omega)
    · exact h6

theorem execTelemWindowEnd_mode {n : ℕ} {sec : ℕ} {ns : ℕ} {frac : ℕ} {q' : List Reduced} {charge : List ℕ} {clipped : Bool} {stepped : Bool} {s : State} (h8' : RdIs F.CROWN_MODE_MODE v0 s) : ∃ u', (execTelemWindowEnd n sec ns frac q' charge clipped stepped s) = .next u' ∧ RdIs F.CROWN_MODE_MODE v0 u' := by
  unfold execTelemWindowEnd
  refine rdIs_out_ite ?_ ?_
  · refine ⟨_, rfl, ?_⟩
    exact h8'
  · extract_lets s1 s2 s3 s4 s5 s6 s7 s8 s9 s10 s11
    rename_i x12
    clear_value s1
    have h13 : RdIs F.CROWN_MODE_MODE v0 s4 := by
      unfold s4
      exact rdIs_upd h8'
    have h14 : RdIs F.CROWN_MODE_MODE v0 s5 := by
      unfold s5
      refine rdIs_foldl ?_ ?_
      · refine State.showCounters_mode ?_
        exact h13
      · intro s15 x16 h17
        split
        rename_i x18 x19 x20
        refine State.reduce_mode ?_
        exact h17
    have h21 : RdIs F.CROWN_MODE_MODE v0 s6 := by
      unfold s6
      refine State.raise_mode ?_
      refine State.wr_rdIs ?_ ?_
      · decide
      · refine State.wrB_rdIs ?_ ?_
        · decide
        · exact h14
    have h22 : RdIs F.CROWN_MODE_MODE v0 s7 := by
      unfold s7
      refine rdIs_ite ?_ ?_
      · refine State.raise_mode ?_
        exact h21
      · exact h21
    have h23 : RdIs F.CROWN_MODE_MODE v0 s8 := by
      unfold s8
      refine rdIs_ite ?_ ?_
      · refine State.raise_mode ?_
        exact h22
      · exact h22
    have h24 : RdIs F.CROWN_MODE_MODE v0 s9 := by
      unfold s9
      refine rdIs_ite ?_ ?_
      · split
        rename_i s25 s26 x27 e28
        have h29 : RdIs F.CROWN_MODE_MODE v0 s26 := by
          refine rdIs_of_fst e28 ?_
          refine State.push_mode ?_
          exact h23
        refine rdIs_ite ?_ ?_
        · exact h29
        · refine State.raise_mode ?_
          refine State.bump_rdIs ?_ ?_
          · decide
          · exact h29
      · exact h23
    clear_value s2 s3 s4 s5 s6 s7 s8 s9 s10 s11 x12
    refine ⟨_, rfl, ?_⟩
    exact rdIs_upd h24

theorem State.restartPhases_mode {s : State} (h0' : RdIs F.CROWN_MODE_MODE v0 s) : RdIs F.CROWN_MODE_MODE v0 (State.restartPhases s) := by
  unfold State.restartPhases
  refine rdIs_ite ?_ ?_
  · refine rdIs_foldl ?_ ?_
    · exact h0'
    · intro s1 x2 h3
      refine State.setPhase_mode ?_
      exact h3
  · exact h0'

theorem State.burstBegin_mode {s : State} (h0' : RdIs F.CROWN_MODE_MODE v0 s) : RdIs F.CROWN_MODE_MODE v0 (State.burstBegin s) := by
  unfold State.burstBegin
  extract_lets s1 s2 s3 s4
  rename_i s5
  have h6 : RdIs F.CROWN_MODE_MODE v0 s2 := by
    unfold s2
    refine State.wr_rdIs ?_ ?_
    · decide
    · refine State.restartPhases_mode ?_
      exact h0'
  have h7 : RdIs F.CROWN_MODE_MODE v0 s4 := by
    unfold s4
    exact rdIs_upd h6
  have h8 : RdIs F.CROWN_MODE_MODE v0 s5 := by
    unfold s5
    refine rdIs_foldl ?_ ?_
    · exact h7
    · intro s9 x10 h11
      refine State.wrB_rdIs ?_ ?_
      · (refine .inl ?_; simp only [evtStatus, pageFld, Fld.bank, F.LOOP_ISTAT_FROZEN]; omega)
      · exact h11
  clear_value s1 s2 s3 s4 s5
  refine State.wrB_rdIs ?_ ?_
  · decide
  · exact h8

theorem execBurstOffEnd_mode {s : State} (h0' : RdIs F.CROWN_MODE_MODE v0 s) : ∃ u', (execBurstOffEnd s) = .next u' ∧ RdIs F.CROWN_MODE_MODE v0 u' := by
  unfold execBurstOffEnd
  refine rdIs_out_ite ?_ ?_
  · refine ⟨_, rfl, ?_⟩
    refine State.burstBegin_mode ?_
    exact h0'
  · refine ⟨_, rfl, ?_⟩
    exact h0'

theorem execCbcTrip_mode {n : Fin 16} {positive : Bool} {input : ComparatorInput} {s : State} (h3' : RdIs F.CROWN_MODE_MODE v0 s) : ∃ u', (execCbcTrip n positive input s) = .next u' ∧ RdIs F.CROWN_MODE_MODE v0 u' := by
  unfold execCbcTrip
  extract_lets s1 s2
  rename_i x3 x4 x5 x6 s7 s8 s9 x10 s11
  have h12 : RdIs F.CROWN_MODE_MODE v0 s7 := by
    unfold s7
    refine rdIs_ite ?_ ?_
    · refine State.bump_rdIs ?_ ?_
      · (refine .inl ?_; simp only [evtStatus, pageFld, Fld.bank, F.PHASE_COUNT_CBC]; omega)
      · exact h3'
    · exact h3'
  have h13 : RdIs F.CROWN_MODE_MODE v0 s8 := by
    unfold s8
    refine State.wrB_rdIs ?_ ?_
    · (split <;> (refine .inl ?_; simp only [evtStatus, pageFld, Fld.bank, F.PHASE_STAT_CBC_POS, F.PHASE_STAT_CBC_NEG]; omega))
    · exact h12
  have h14 : RdIs F.CROWN_MODE_MODE v0 s9 := by
    unfold s9
    refine State.setPhase_mode ?_
    exact h13
  have h15 : RdIs F.CROWN_MODE_MODE v0 s11 := by
    unfold s11
    refine rdIs_ite ?_ ?_
    · exact rdIs_upd h14
    · exact h14
  clear_value s1 s2 x3 x4 x6 s7 s8 s9 x10 s11
  refine rdIs_out_ite ?_ ?_
  · refine ⟨_, rfl, ?_⟩
    exact h3'
  · refine ⟨_, rfl, ?_⟩
    refine rdIs_ite ?_ ?_
    · refine State.raise_mode ?_
      refine State.raise_mode ?_
      exact h15
    · exact h15

theorem execCentreTakeup_mode {n : Fin 16} {s : State} (h1' : RdIs F.CROWN_MODE_MODE v0 s) : ∃ u', (execCentreTakeup n s) = .next u' ∧ RdIs F.CROWN_MODE_MODE v0 u' := by
  unfold execCentreTakeup
  extract_lets s1
  rename_i x2 x3 x4
  clear_value x4
  clear_value s1 x2 x3
  split
  · rename_i x5 e6
    refine ⟨_, rfl, ?_⟩
    exact h1'
  · rename_i x7 x8 e9
    refine rdIs_out_ite ?_ ?_
    · refine ⟨_, rfl, ?_⟩
      refine State.setPhase_mode ?_
      exact h1'
    · refine ⟨_, rfl, ?_⟩
      refine State.setPhase_mode ?_
      exact h1'

theorem State.closePeriod_mode {s : State} {n : ℕ} (h0' : RdIs F.CROWN_MODE_MODE v0 s) : RdIs F.CROWN_MODE_MODE v0 (State.closePeriod s n) := by
  unfold State.closePeriod
  extract_lets s1 s2
  have h3 : RdIs F.CROWN_MODE_MODE v0 s2 := by
    unfold s2
    refine State.wrB_rdIs ?_ ?_
    · (refine .inl ?_; simp only [evtStatus, pageFld, Fld.bank, F.PHASE_STAT_CBC_NEG]; omega)
    · refine State.wrB_rdIs ?_ ?_
      · (refine .inl ?_; simp only [evtStatus, pageFld, Fld.bank, F.PHASE_STAT_CBC_POS]; omega)
      · exact h0'
  clear_value s1 s2
  refine State.setPhase_mode ?_
  exact h3

theorem State.accumulate_mode {s : State} {n : ℕ} (h0' : RdIs F.CROWN_MODE_MODE v0 s) : RdIs F.CROWN_MODE_MODE v0 (State.accumulate s n) := by
  unfold State.accumulate
  extract_lets s1 s2 s3 s4 s5 s6 s7 s8 s9
  rename_i x10
  have h11 : RdIs F.CROWN_MODE_MODE v0 s9 := by
    unfold s9
    refine State.setPhase_mode ?_
    exact h0'
  clear_value s1 s2 s3 s4 s5 s6 s7 s8 s9 x10
  exact rdIs_upd h11

theorem State.stopPhase_mode {s : State} {n : ℕ} (h0' : RdIs F.CROWN_MODE_MODE v0 s) : RdIs F.CROWN_MODE_MODE v0 (State.stopPhase s n) := by
  unfold State.stopPhase
  extract_lets s1
  rename_i x2 x3
  have h4 : RdIs F.CROWN_MODE_MODE v0 s1 := by
    unfold s1
    refine State.setPhase_mode ?_
    refine State.setRunning_mode ?_
    refine State.wrB_rdIs ?_ ?_
    · (refine .inl ?_; simp only [evtStatus, pageFld, Fld.bank, F.PHASE_STAT_SKIPPING]; omega)
    · refine State.wr_rdIs ?_ ?_
      · (refine .inl ?_; simp only [evtStatus, pageFld, Fld.bank, F.PHASE_STAT_STATE]; omega)
      · exact h0'
  clear_value s1 x2 x3
  refine State.refreshGates_mode ?_
  exact rdIs_upd h4

theorem State.shedStep_mode {s : State} {n : ℕ} (h0' : RdIs F.CROWN_MODE_MODE v0 s) : RdIs F.CROWN_MODE_MODE v0 (State.shedStep s n) := by
  unfold State.shedStep
  extract_lets s1
  rename_i x2
  clear_value s1 x2
  refine rdIs_ite ?_ ?_
  · refine State.setPhase_mode ?_
    refine State.wr_rdIs ?_ ?_
    · (refine .inl ?_; simp only [evtStatus, pageFld, Fld.bank, F.PHASE_STAT_STATE]; omega)
    · exact h0'
  · refine rdIs_ite ?_ ?_
    · refine rdIs_ite ?_ ?_
      · refine State.raise_mode ?_
        refine State.bump_rdIs ?_ ?_
        · decide
        · refine State.wrB_rdIs ?_ ?_
          · decide
          · refine State.stopPhase_mode ?_
            exact h0'
      · refine State.setPhase_mode ?_
        exact h0'
    · exact h0'

theorem State.beginPhase_mode {s : State} {n : ℕ} (h0' : RdIs F.CROWN_MODE_MODE v0 s) : RdIs F.CROWN_MODE_MODE v0 (State.beginPhase s n) := by
  unfold State.beginPhase
  extract_lets s1
  rename_i x2 s3 x4
  have h5 : RdIs F.CROWN_MODE_MODE v0 s3 := by
    unfold s3
    refine State.setPhase_mode ?_
    refine State.setRunning_mode ?_
    refine State.wr_rdIs ?_ ?_
    · (refine .inl ?_; simp only [evtStatus, pageFld, Fld.bank, F.PHASE_STAT_STATE]; omega)
    · exact h0'
  clear_value s1 x2 s3 x4
  refine rdIs_ite ?_ ?_
  · refine rdIs_ite ?_ ?_
    · refine State.refreshGates_mode ?_
      exact h5
    · refine State.refreshGates_mode ?_
      exact rdIs_upd h5
  · exact h0'

theorem State.takeLight_mode {s : State} {n : ℕ} (h0' : RdIs F.CROWN_MODE_MODE v0 s) : RdIs F.CROWN_MODE_MODE v0 (State.takeLight s n) := by
  unfold State.takeLight
  extract_lets s1
  clear_value s1
  refine rdIs_ite ?_ ?_
  · refine rdIs_ite ?_ ?_
    · refine State.refreshLight_mode ?_
      refine State.setInteg_mode ?_
      refine State.setPhase_mode ?_
      refine State.wrB_rdIs ?_ ?_
      · (refine .inl ?_; simp only [evtStatus, pageFld, Fld.bank, F.PHASE_STAT_SKIPPING]; omega)
      · exact h0'
    · exact h0'
  · refine rdIs_ite ?_ ?_
    · refine State.refreshLight_mode ?_
      refine State.presetTo_mode ?_
      refine State.setPhase_mode ?_
      refine State.wrB_rdIs ?_ ?_
      · (refine .inl ?_; simp only [evtStatus, pageFld, Fld.bank, F.PHASE_STAT_SKIPPING]; omega)
      · exact h0'
    · exact h0'

theorem State.takeOffset_mode {s : State} {n : ℕ} (h0' : RdIs F.CROWN_MODE_MODE v0 s) : RdIs F.CROWN_MODE_MODE v0 (State.takeOffset s n) := by
  unfold State.takeOffset
  extract_lets s1
  clear_value s1
  split
  · rename_i x2 e3
    refine State.setPhase_mode ?_
    exact h0'
  · rename_i x4 x5 x6 e7
    extract_lets s8 s9
    clear_value s8 s9
    refine State.setPhase_mode ?_
    refine State.wr_rdIs ?_ ?_
    · (refine .inl ?_; simp only [evtStatus, pageFld, Fld.bank, F.PHASE_STAT_OFFSET]; omega)
    · exact h0'

theorem State.periodStart_mode {s : State} {n : ℕ} (h0' : RdIs F.CROWN_MODE_MODE v0 s) : RdIs F.CROWN_MODE_MODE v0 (State.periodStart s n) := by
  unfold State.periodStart
  refine rdIs_ite ?_ ?_
  · exact h0'
  · refine rdIs_ite ?_ ?_
    · extract_lets s1
      rename_i x2
      have h3 : RdIs F.CROWN_MODE_MODE v0 s1 := by
        unfold s1
        refine State.closePeriod_mode ?_
        exact h0'
      clear_value s1 x2
      refine State.setPhase_mode ?_
      exact h3
    · extract_lets s4 s5
      rename_i x6 s7
      have h8 : RdIs F.CROWN_MODE_MODE v0 s4 := by
        unfold s4
        refine rdIs_ite ?_ ?_
        · exact h0'
        · refine State.accumulate_mode ?_
          exact h0'
      have h9 : RdIs F.CROWN_MODE_MODE v0 s5 := by
        unfold s5
        refine State.closePeriod_mode ?_
        refine State.shedStep_mode ?_
        refine State.beginPhase_mode ?_
        exact h8
      have h10 : RdIs F.CROWN_MODE_MODE v0 s7 := by
        unfold s7
        refine State.setPhase_mode ?_
        exact h9
      clear_value s4 s5 x6 s7
      refine rdIs_ite ?_ ?_
      · exact h9
      · refine State.computeEdges_mode ?_
        refine State.takeLight_mode ?_
        refine State.takeOffset_mode ?_
        exact h10

theorem execPeriodStart_mode {n : Fin 16} {s : State} (h1' : RdIs F.CROWN_MODE_MODE v0 s) : ∃ u', (execPeriodStart n s) = .next u' ∧ RdIs F.CROWN_MODE_MODE v0 u' := by
  unfold execPeriodStart
  refine ⟨_, rfl, ?_⟩
  refine State.periodStart_mode ?_
  exact h1'

theorem State.phaseClear_mode {s : State} {k : ℕ} (h0' : RdIs F.CROWN_MODE_MODE v0 s) : RdIs F.CROWN_MODE_MODE v0 (State.phaseClear s k) := by
  unfold State.phaseClear
  refine rdIs_ite ?_ ?_
  · refine State.clearCond_mode ?_
    refine State.wrBit_rdIs ?_ ?_
    · decide
    · refine State.wr_rdIs ?_ ?_
      · (refine .inl ?_; simp only [evtStatus, pageFld, Fld.bank, F.PHASE_STAT_STATE]; omega)
      · exact h0'
  · exact h0'

theorem execPhaseClrFault_mode {who : Initiator} {n : Fin 16} {s : State} (h2' : RdIs F.CROWN_MODE_MODE v0 s) : ∃ u', (execPhaseClrFault who n s) = .next u' ∧ RdIs F.CROWN_MODE_MODE v0 u' := by
  unfold execPhaseClrFault
  refine ⟨_, rfl, ?_⟩
  refine State.asWrite_mode ?_ ?_
  · exact h2'
  · intro s1 h2
    refine State.crossing_mode ?_ ?_
    · exact h2
    · intro s3 h4
      refine State.phaseClear_mode ?_
      exact h4

theorem execShedHoldExpiry_mode {s : State} (h0' : RdIs F.CROWN_MODE_MODE v0 s) : ∃ u', (execShedHoldExpiry s) = .next u' ∧ RdIs F.CROWN_MODE_MODE v0 u' := by
  unfold execShedHoldExpiry
  refine ⟨_, rfl, ?_⟩
  refine State.wrB_rdIs ?_ ?_
  · decide
  · exact h0'

theorem execStartSample_mode {n : Fin 16} {code : BitVec 16} {s : State} (h2' : RdIs F.CROWN_MODE_MODE v0 s) : ∃ u', (execStartSample n code s) = .next u' ∧ RdIs F.CROWN_MODE_MODE v0 u' := by
  unfold execStartSample
  extract_lets s1
  rename_i x2
  clear_value s1 x2
  refine rdIs_out_ite ?_ ?_
  · refine ⟨_, rfl, ?_⟩
    exact h2'
  · split
    rename_i s3 x4 s5 e6
    have h7 : RdIs F.CROWN_MODE_MODE v0 s5 := by
      refine rdIs_of_snd e6 ?_
      refine State.evalInner_mode ?_
      refine State.wrBit_rdIs ?_ ?_
      · decide
      · exact h2'
    extract_lets s8
    rename_i x9
    have h10 : RdIs F.CROWN_MODE_MODE v0 s8 := by
      unfold s8
      refine State.wr_rdIs ?_ ?_
      · decide
      · exact h7
    clear_value s8 x9
    refine ⟨_, rfl, ?_⟩
    refine State.setPhase_mode ?_
    exact h10

theorem State.accAdd_mode {s : State} {key : ℕ} {n : ℕ} {v : ℤ} (h0' : RdIs F.CROWN_MODE_MODE v0 s) : RdIs F.CROWN_MODE_MODE v0 (State.accAdd s key n v) := by
  unfold State.accAdd
  extract_lets s1 s2 s3
  rename_i x4
  clear_value s1 s2 s3 x4
  exact rdIs_upd h0'

theorem State.closeSet_mode {s : State} {wins : List ℕ} {disc : ℕ} {last : Bool} (h0' : RdIs F.CROWN_MODE_MODE v0 s) : RdIs F.CROWN_MODE_MODE v0 (State.closeSet s wins disc last) := by
  unfold State.closeSet
  extract_lets s1 s2 s3 s4 s5 s6 s7 s8 s9 s10
  rename_i x11 x12 x13
  clear_value s9
  clear_value x12
  clear_value s1 s2 s3 s4 s5 s6 s7 s8 s10 x11 x13
  split
  rename_i x14 x15 x16 x17 e18
  extract_lets s19 s20 s21 s22 s23 s24 s25 s26 s27 s28
  rename_i s29 s30
  clear_value s19
  have h31 : RdIs F.CROWN_MODE_MODE v0 s21 := by
    unfold s21
    refine rdIs_foldl ?_ ?_
    · exact h0'
    · intro s32 x33 h34
      split
      rename_i s35 s36 x37 e38
      have h39 : RdIs F.CROWN_MODE_MODE v0 s36 := by
        refine rdIs_of_fst e38 ?_
        refine State.push_mode ?_
        exact h34
      refine rdIs_ite ?_ ?_
      · exact h39
      · refine State.wrB_rdIs ?_ ?_
        · decide
        · exact h39
  have h40 : RdIs F.CROWN_MODE_MODE v0 s22 := by
    unfold s22
    refine rdIs_foldl ?_ ?_
    · exact h31
    · intro s41 x42 h43
      refine State.wrI_rdIs ?_ ?_
      · (refine .inl ?_; simp only [evtStatus, pageFld, Fld.bank, pairFld, F.IMPED_TEMP_CELL_LO, F.IMPED_TEMP_CELL_HI]; split <;> dsimp only <;> omega)
      · exact h43
  have h44 : RdIs F.CROWN_MODE_MODE v0 s23 := by
    unfold s23
    refine rdIs_ite ?_ ?_
    · refine State.raise_mode ?_
      exact h40
    · exact h40
  have h45 : RdIs F.CROWN_MODE_MODE v0 s26 := by
    unfold s26
    exact rdIs_upd h44
  have h46 : RdIs F.CROWN_MODE_MODE v0 s27 := by
    unfold s27
    refine State.bump_rdIs ?_ ?_
    · decide
    · refine State.wr_rdIs ?_ ?_
      · decide
      · refine State.wr_rdIs ?_ ?_
        · decide
        · exact h45
  have h47 : RdIs F.CROWN_MODE_MODE v0 s29 := by
    unfold s29
    refine rdIs_foldl ?_ ?_
    · exact h46
    · intro s48 x49 h50
      split
      rename_i x51 x52 x53
      split
      · rename_i x54 x55 e56
        refine rdIs_ite ?_ ?_
        · refine State.learnRf_mode ?_
          exact h50
        · exact h50
      · rename_i x57 e58
        exact h50
  have h59 : RdIs F.CROWN_MODE_MODE v0 s30 := by
    unfold s30
    refine rdIs_ite ?_ ?_
    · refine State.journalBoth_mode ?_
      exact h47
    · exact h47
  clear_value s20 s21 s22 s23 s24 s25 s26 s27 s28 s29 s30
  refine State.mirror_mode ?_
  refine State.raise_mode ?_
  exact h59

theorem State.closeWaiting_mode {s : State} (h0' : RdIs F.CROWN_MODE_MODE v0 s) : RdIs F.CROWN_MODE_MODE v0 (State.closeWaiting s) := by
  unfold State.closeWaiting
  split
  · rename_i x1 x2 x3 x4 e5
    refine State.closeSet_mode ?_
    exact h0'
  · rename_i x6 e7
    refine rdIs_ite ?_ ?_
    · extract_lets s8
      rename_i s9
      have h10 : RdIs F.CROWN_MODE_MODE v0 s9 := by
        unfold s9
        exact rdIs_upd h0'
      clear_value s8 s9
      refine rdIs_ite ?_ ?_
      · exact h10
      · refine State.closeSet_mode ?_
        exact h10
    · exact h0'

theorem State.clearRun_mode {s : State} (h0' : RdIs F.CROWN_MODE_MODE v0 s) : RdIs F.CROWN_MODE_MODE v0 (State.clearRun s) := by
  unfold State.clearRun
  extract_lets s1 s2 s3
  rename_i s4
  have h5 : RdIs F.CROWN_MODE_MODE v0 s1 := by
    unfold s1
    refine State.closeWaiting_mode ?_
    refine State.closeWaiting_mode ?_
    exact h0'
  have h6 : RdIs F.CROWN_MODE_MODE v0 s4 := by
    unfold s4
    exact rdIs_upd h5
  clear_value s1 s2 s3 s4
  refine rdIs_foldl ?_ ?_
  · exact h6
  · intro s7 x8 h9
    refine rdIs_ite ?_ ?_
    · exact h9
    · refine State.consume_mode ?_
      exact h9

theorem State.correlate_mode {s : State} {x : RunRecord} {n : ℕ} (h0' : RdIs F.CROWN_MODE_MODE v0 s) : RdIs F.CROWN_MODE_MODE v0 (State.correlate s x n) := by
  unfold State.correlate
  extract_lets s1 s2
  rename_i s3
  have h4 : RdIs F.CROWN_MODE_MODE v0 s3 := by
    unfold s3
    refine rdIs_ite ?_ ?_
    · refine State.accAdd_mode ?_
      exact h0'
    · exact h0'
  clear_value s1 s2 s3
  refine rdIs_ite ?_ ?_
  · exact h0'
  · refine rdIs_ite ?_ ?_
    · exact h4
    · refine rdIs_foldl ?_ ?_
      · exact h4
      · intro s5 x6 h7
        extract_lets s8 s9
        clear_value s8 s9
        refine rdIs_ite ?_ ?_
        · refine State.accAdd_mode ?_
          exact h7
        · exact h7

theorem State.recordDone_mode {s : State} {x : RunRecord} (h0' : RdIs F.CROWN_MODE_MODE v0 s) : RdIs F.CROWN_MODE_MODE v0 (State.recordDone s x) := by
  unfold State.recordDone
  extract_lets s1 s2
  rename_i s3
  have h4 : RdIs F.CROWN_MODE_MODE v0 s3 := by
    unfold s3
    exact rdIs_upd h0'
  clear_value s1 s2 s3
  refine rdIs_ite ?_ ?_
  · exact h4
  · refine State.consume_mode ?_
    exact h4

theorem State.showFreqs_mode {s : State} (h0' : RdIs F.CROWN_MODE_MODE v0 s) : RdIs F.CROWN_MODE_MODE v0 (State.showFreqs s) := by
  unfold State.showFreqs
  refine rdIs_foldl ?_ ?_
  · exact h0'
  · intro s1 x2 h3
    refine State.wr_rdIs ?_ ?_
    · (refine .inl ?_; simp only [evtStatus, pageFld, Fld.bank, F.IMPED_FREQ_F]; omega)
    · exact h3

theorem State.originate_mode {s : State} (h0' : RdIs F.CROWN_MODE_MODE v0 s) : RdIs F.CROWN_MODE_MODE v0 (State.originate s) := by
  unfold State.originate
  refine rdIs_ite ?_ ?_
  · exact h0'
  · extract_lets s1
    clear_value s1
    refine State.measure_mode ?_
    refine State.modRing_mode ?_
    refine State.wr_rdIs ?_ ?_
    · decide
    · exact h0'

theorem State.pairCmd_mode {s : State} {data : ℕ} (h0' : RdIs F.CROWN_MODE_MODE v0 s) : RdIs F.CROWN_MODE_MODE v0 (State.pairCmd s data) := by
  unfold State.pairCmd
  refine rdIs_ite ?_ ?_
  · exact h0'
  · extract_lets s1 s2
    have h3 : RdIs F.CROWN_MODE_MODE v0 s2 := by
      unfold s2
      refine State.wr_rdIs ?_ ?_
      · decide
      · exact h0'
    clear_value s1 s2
    refine rdIs_ite ?_ ?_
    · refine State.relinquishOr_mode ?_ ?_
      · exact h3
      · intro s4 h5
        dsimp only [id]
        exact h5
    · refine State.raise_mode ?_
      exact h3

theorem State.takeClaim_mode {s : State} (h0' : RdIs F.CROWN_MODE_MODE v0 s) : RdIs F.CROWN_MODE_MODE v0 (State.takeClaim s).1 := by
  unfold State.takeClaim
  extract_lets s1
  rename_i s2
  have h3 : RdIs F.CROWN_MODE_MODE v0 s2 := by
    unfold s2
    refine rdIs_ite ?_ ?_
    · refine State.raise_mode ?_
      exact h0'
    · exact h0'
  clear_value s1 s2
  split
  · rename_i e4
    dsimp only
    exact h0'
  · rename_i e5
    split
    · rename_i e6
      dsimp only
      refine State.setReady_mode ?_
      refine State.raise_mode ?_
      exact h0'
    · rename_i e7
      dsimp only
      refine State.wr_rdIs ?_ ?_
      · decide
      · refine State.wr_rdIs ?_ ?_
        · decide
        · exact h3

theorem State.takeRing_mode {s : State} (h0' : RdIs F.CROWN_MODE_MODE v0 s) : RdIs F.CROWN_MODE_MODE v0 (State.takeRing s) := by
  unfold State.takeRing
  refine rdIs_ite ?_ ?_
  · refine State.originate_mode ?_
    exact h0'
  · refine State.startRing_mode ?_
    exact h0'

theorem State.showSds_mode {s : State} (h0' : RdIs F.CROWN_MODE_MODE v0 s) : RdIs F.CROWN_MODE_MODE v0 (State.showSds s) := by
  unfold State.showSds
  refine State.wrB_rdIs ?_ ?_
  · decide
  · exact h0'

theorem State.flushJournals_mode {s : State} {reason : ℕ} (h0' : RdIs F.CROWN_MODE_MODE v0 s) : RdIs F.CROWN_MODE_MODE v0 (State.flushJournals s reason) := by
  unfold State.flushJournals
  extract_lets s1
  have h2 : RdIs F.CROWN_MODE_MODE v0 s1 := by
    unfold s1
    refine State.commitWrite_mode ?_
    refine State.commitWrite_mode ?_
    refine State.commitWrite_mode ?_
    exact h0'
  clear_value s1
  refine State.commitWrite_mode ?_
  refine State.journal_mode ?_
  refine State.commitWrite_mode ?_
  refine State.journal_mode ?_
  exact h2

theorem State.storeAll_mode {s : State} (h0' : RdIs F.CROWN_MODE_MODE v0 s) : RdIs F.CROWN_MODE_MODE v0 (State.storeAll s) := by
  unfold State.storeAll
  refine State.storeLregs_mode ?_
  refine State.retainSlot_mode ?_
  refine State.counterSlot_mode ?_
  refine State.flushJournals_mode ?_
  exact h0'

theorem State.confirm_mode {s : State} (h0' : RdIs F.CROWN_MODE_MODE v0 s) : RdIs F.CROWN_MODE_MODE v0 (State.confirm s) := by
  unfold State.confirm
  extract_lets s1 s2 s3 s4 s5 s6 s7 s8
  rename_i s9 s10
  have h11 : RdIs F.CROWN_MODE_MODE v0 s3 := by
    unfold s3
    refine State.wr_rdIs ?_ ?_
    · (refine .inl ?_; simp only [evtStatus, pageFld, Fld.bank, F.UPDATE_SLOT_STATE]; omega)
    · exact h0'
  have h12 : RdIs F.CROWN_MODE_MODE v0 s6 := by
    unfold s6
    exact rdIs_upd h11
  have h13 : RdIs F.CROWN_MODE_MODE v0 s7 := by
    unfold s7
    refine State.wrB_rdIs ?_ ?_
    · decide
    · refine State.wr_rdIs ?_ ?_
      · decide
      · refine State.wrB_rdIs ?_ ?_
        · decide
        · exact h12
  have h14 : RdIs F.CROWN_MODE_MODE v0 s8 := by
    unfold s8
    refine rdIs_ite ?_ ?_
    · refine State.wr_rdIs ?_ ?_
      · decide
      · exact h13
    · exact h13
  have h15 : RdIs F.CROWN_MODE_MODE v0 s9 := by
    unfold s9
    refine State.wr_rdIs ?_ ?_
    · decide
    · exact h14
  have h16 : RdIs F.CROWN_MODE_MODE v0 s10 := by
    unfold s10
    refine State.raise_mode ?_
    refine State.record_mode ?_
    exact h15
  clear_value s1 s2 s3 s4 s5 s6 s7 s8 s9 s10
  refine State.wr_rdIs ?_ ?_
  · (refine .inl ?_; simp only [evtStatus, pageFld, Fld.bank, F.UPDATE_SLOT_STATE]; omega)
  · exact h16

theorem State.endTransfer_mode {s : State} (h0' : RdIs F.CROWN_MODE_MODE v0 s) : RdIs F.CROWN_MODE_MODE v0 (State.endTransfer s) := by
  unfold State.endTransfer
  extract_lets s1 s2
  rename_i x3
  have h4 : RdIs F.CROWN_MODE_MODE v0 s1 := by
    unfold s1
    refine State.wr_rdIs ?_ ?_
    · decide
    · refine State.wr_rdIs ?_ ?_
      · (refine .inl ?_; simp only [evtStatus, pageFld, Fld.bank, F.UPDATE_SLOT_STATE, State.otherSlot]; omega)
      · refine State.wr_rdIs ?_ ?_
        · decide
        · refine State.wr_rdIs ?_ ?_
          · decide
          · exact h0'
  have h5 : RdIs F.CROWN_MODE_MODE v0 s2 := by
    unfold s2
    refine State.wr_rdIs ?_ ?_
    · decide
    · exact h4
  clear_value s1 s2 x3
  exact rdIs_upd h5

theorem State.storeKey_mode {s : State} {slot : ℕ} {key : List Byte} (h0' : RdIs F.CROWN_MODE_MODE v0 s) : RdIs F.CROWN_MODE_MODE v0 (State.storeKey s slot key) := by
  unfold State.storeKey
  extract_lets s1
  rename_i x2
  have h3 : RdIs F.CROWN_MODE_MODE v0 s1 := by
    unfold s1
    refine State.raise_mode ?_
    refine State.record_mode ?_
    exact h0'
  clear_value s1 x2
  exact rdIs_upd h3

theorem State.keySel_mode {s : State} {data : ℕ} (h0' : RdIs F.CROWN_MODE_MODE v0 s) : RdIs F.CROWN_MODE_MODE v0 (State.keySel s data) := by
  unfold State.keySel
  extract_lets s1
  rename_i x2 x3 x4
  have h5 : RdIs F.CROWN_MODE_MODE v0 s1 := by
    unfold s1
    refine State.wr_rdIs ?_ ?_
    · decide
    · exact h0'
  clear_value s1 x2 x3 x4
  refine rdIs_ite ?_ ?_
  · exact h5
  · refine rdIs_ite ?_ ?_
    · exact rdIs_upd h5
    · refine State.storeKey_mode ?_
      exact h5

theorem State.showWindow_mode {s : State} (h0' : RdIs F.CROWN_MODE_MODE v0 s) : RdIs F.CROWN_MODE_MODE v0 (State.showWindow s) := by
  unfold State.showWindow
  refine State.wr_rdIs ?_ ?_
  · decide
  · exact h0'

theorem State.abandon_mode {s : State} {i : ℕ} (h0' : RdIs F.CROWN_MODE_MODE v0 s) : RdIs F.CROWN_MODE_MODE v0 (State.abandon s i) := by
  unfold State.abandon
  refine State.bump_rdIs ?_ ?_
  · (refine .inl ?_; simp only [evtStatus, pageFld, Fld.bank, F.PTP_CNT2_ABANDONED]; omega)
  · refine State.setPtp_mode ?_
    exact h0'

theorem State.syncAccepted_mode {s : State} {i : ℕ} {t2 : ℤ} (h0' : RdIs F.CROWN_MODE_MODE v0 s) : RdIs F.CROWN_MODE_MODE v0 (State.syncAccepted s i t2) := by
  unfold State.syncAccepted
  extract_lets s1
  rename_i s2
  have h3 : RdIs F.CROWN_MODE_MODE v0 s2 := by
    unfold s2
    refine State.setPtp_mode ?_
    refine State.bump_rdIs ?_ ?_
    · (refine .inl ?_; simp only [evtStatus, pageFld, Fld.bank, F.PTP_CNT_SYNC_RX]; omega)
    · exact h0'
  clear_value s1 s2
  refine rdIs_ite ?_ ?_
  · refine State.wrB_rdIs ?_ ?_
    · decide
    · exact h3
  · exact h3

theorem State.setRate_mode {s : State} {i : ℕ} {r : ℤ} (h0' : RdIs F.CROWN_MODE_MODE v0 s) : RdIs F.CROWN_MODE_MODE v0 (State.setRate s i r) := by
  unfold State.setRate
  extract_lets s1
  clear_value s1
  refine State.wrI_rdIs ?_ ?_
  · (refine .inl ?_; simp only [evtStatus, pageFld, Fld.bank, F.TIME_RATE_RATE]; omega)
  · refine State.wrI_rdIs ?_ ?_
    · (refine .inl ?_; simp only [evtStatus, pageFld, Fld.bank, F.PTP_RATE_RATE]; omega)
    · exact h0'

theorem State.acquire_mode {s : State} {i : ℕ} {t1 : ℤ} {t2 : ℤ} (h0' : RdIs F.CROWN_MODE_MODE v0 s) : RdIs F.CROWN_MODE_MODE v0 (State.acquire s i t1 t2) := by
  unfold State.acquire
  extract_lets s1 s2 s3
  rename_i x4 x5
  have h6 : RdIs F.CROWN_MODE_MODE v0 s3 := by
    unfold s3
    refine State.syncAccepted_mode ?_
    exact h0'
  clear_value s1 s2 s3 x4 x5
  split
  · rename_i x7 x8 x9 x10 e11
    refine rdIs_ite ?_ ?_
    · extract_lets s12 s13
      clear_value s12 s13
      refine State.setRate_mode ?_
      refine State.setPtp_mode ?_
      exact h6
    · refine State.setPtp_mode ?_
      exact h6
  · rename_i x14 e15
    refine State.setPtp_mode ?_
    exact h6

theorem State.selectMaster_mode {s : State} {i : ℕ} {f : Foreign} (h0' : RdIs F.CROWN_MODE_MODE v0 s) : RdIs F.CROWN_MODE_MODE v0 (State.selectMaster s i f) := by
  unfold State.selectMaster
  extract_lets s1 s2 s3 s4 s5 s6
  rename_i x7
  clear_value s2
  have h8 : RdIs F.CROWN_MODE_MODE v0 s3 := by
    unfold s3
    refine State.wr_rdIs ?_ ?_
    · (refine .inl ?_; simp only [evtStatus, pageFld, Fld.bank, F.PTP_STATE_UTC_OFFSET]; omega)
    · refine State.wr_rdIs ?_ ?_
      · (refine .inl ?_; simp only [evtStatus, pageFld, Fld.bank, F.PTP_GM_HI_GM_HI]; omega)
      · refine State.wr_rdIs ?_ ?_
        · (refine .inl ?_; simp only [evtStatus, pageFld, Fld.bank, F.PTP_GM_LO_GM_LO]; omega)
        · exact h0'
  have h9 : RdIs F.CROWN_MODE_MODE v0 s4 := by
    unfold s4
    refine State.wr_rdIs ?_ ?_
    · (refine .inl ?_; simp only [evtStatus, pageFld, Fld.bank, F.PTP_STATE_TFLAGS]; omega)
    · exact h8
  have h10 : RdIs F.CROWN_MODE_MODE v0 s6 := by
    unfold s6
    refine rdIs_ite ?_ ?_
    · exact h9
    · refine State.setPtp_mode ?_
      exact h9
  clear_value s1 s3 s4 s5 s6 x7
  split
  · rename_i x11 e12
    refine State.setPtp_mode ?_
    refine State.wr_rdIs ?_ ?_
    · (refine .inl ?_; simp only [evtStatus, pageFld, Fld.bank, F.PTP_STATE_PORT_STATE]; omega)
    · refine State.wr_rdIs ?_ ?_
      · (refine .inl ?_; simp only [evtStatus, pageFld, Fld.bank, F.PTP_STATE_SERVO]; omega)
      · exact h10
  · rename_i x13 e14
    refine rdIs_ite ?_ ?_
    · exact h10
    · refine State.setPtp_mode ?_
      refine State.wr_rdIs ?_ ?_
      · (refine .inl ?_; simp only [evtStatus, pageFld, Fld.bank, F.PTP_STATE_PORT_STATE]; omega)
      · refine State.wr_rdIs ?_ ?_
        · (refine .inl ?_; simp only [evtStatus, pageFld, Fld.bank, F.PTP_STATE_SERVO]; omega)
        · exact h10
  · rename_i x15 e16 e17
    exact h10

theorem State.announced_mode {s : State} {i : ℕ} {m : List Byte} (h0' : RdIs F.CROWN_MODE_MODE v0 s) : RdIs F.CROWN_MODE_MODE v0 (State.announced s i m) := by
  unfold State.announced
  extract_lets s1 s2
  rename_i x3 x4 s5
  have h6 : RdIs F.CROWN_MODE_MODE v0 s5 := by
    unfold s5
    refine State.setPtp_mode ?_
    exact h0'
  clear_value s1 s2 x3 x4 s5
  refine rdIs_ite ?_ ?_
  · exact h0'
  · split
    · rename_i x7 x8 e9
      refine State.selectMaster_mode ?_
      exact h6
    · rename_i x10 e11
      exact h6

theorem State.lockCount_mode {s : State} {i : ℕ} {theta : ℤ} (h0' : RdIs F.CROWN_MODE_MODE v0 s) : RdIs F.CROWN_MODE_MODE v0 (State.lockCount s i theta) := by
  unfold State.lockCount
  extract_lets s1 s2 s3
  have h4 : RdIs F.CROWN_MODE_MODE v0 s3 := by
    unfold s3
    refine State.setPtp_mode ?_
    exact h0'
  clear_value s1 s2 s3
  refine rdIs_ite ?_ ?_
  · refine State.setSynced_mode ?_
    refine State.setPtp_mode ?_
    refine State.raise_mode ?_
    refine State.wr_rdIs ?_ ?_
    · (refine .inl ?_; simp only [evtStatus, pageFld, Fld.bank, F.PTP_STATE_PORT_STATE]; omega)
    · refine State.wr_rdIs ?_ ?_
      · (refine .inl ?_; simp only [evtStatus, pageFld, Fld.bank, F.PTP_STATE_SERVO]; omega)
      · exact h4
  · exact h4

theorem State.servoTake_mode {s : State} {i : ℕ} {theta : ℤ} {ts : ℤ} (h0' : RdIs F.CROWN_MODE_MODE v0 s) : RdIs F.CROWN_MODE_MODE v0 (State.servoTake s i theta ts) := by
  unfold State.servoTake
  extract_lets s1 s2
  rename_i s3 x4 x5 x6 x7 x8 x9 x10 x11
  have h12 : RdIs F.CROWN_MODE_MODE v0 s3 := by
    unfold s3
    refine State.raise_mode ?_
    refine State.stepBase_mode ?_
    exact h0'
  clear_value s1 s2 s3 x4 x5 x6 x7 x8 x9 x10 x11
  refine rdIs_ite ?_ ?_
  · refine State.setRate_mode ?_
    refine State.setPtp_mode ?_
    exact h12
  · refine rdIs_ite ?_ ?_
    · exact h0'
    · refine State.lockCount_mode ?_
      refine State.setRate_mode ?_
      refine State.setPtp_mode ?_
      exact h0'

theorem State.fallback_mode {s : State} {ts : ℤ} (h0' : RdIs F.CROWN_MODE_MODE v0 s) : RdIs F.CROWN_MODE_MODE v0 (State.fallback s ts) := by
  unfold State.fallback
  refine rdIs_ite ?_ ?_
  · extract_lets s1 s2
    have h3 : RdIs F.CROWN_MODE_MODE v0 s1 := by
      unfold s1
      refine rdIs_ite ?_ ?_
      · exact h0'
      · refine State.raise_mode ?_
        refine State.wrB_rdIs ?_ ?_
        · decide
        · exact h0'
    clear_value s1 s2
    refine State.servoTake_mode ?_
    refine State.wrI_rdIs ?_ ?_
    · decide
    · exact h3
  · exact h0'

theorem State.offset_mode {s : State} {i : ℕ} {theta : ℤ} {t2 : ℤ} (h0' : RdIs F.CROWN_MODE_MODE v0 s) : RdIs F.CROWN_MODE_MODE v0 (State.offset s i theta t2) := by
  unfold State.offset
  extract_lets s1 s2 s3 s4 s5
  rename_i s6
  have h7 : RdIs F.CROWN_MODE_MODE v0 s3 := by
    unfold s3
    refine State.wrI_rdIs ?_ ?_
    · (refine .inl ?_; simp only [evtStatus, pageFld, Fld.bank, F.PTP_OFFS_OFFSET]; omega)
    · exact h0'
  have h8 : ∀ a0, RdIs F.CROWN_MODE_MODE v0 a0 → RdIs F.CROWN_MODE_MODE v0 (s5 a0) := by
    intro s9 h10
    unfold s5
    beta_reduce
    extract_lets s11
    have h12 : RdIs F.CROWN_MODE_MODE v0 s11 := by
      unfold s11
      refine State.servoTake_mode ?_
      refine State.syncAccepted_mode ?_
      exact h10
    clear_value s11
    refine rdIs_ite ?_ ?_
    · refine State.fallback_mode ?_
      exact h12
    · exact h12
  clear_value s5
  have h13 : RdIs F.CROWN_MODE_MODE v0 s6 := by
    unfold s6
    refine State.raise_mode ?_
    refine State.bump_rdIs ?_ ?_
    · (refine .inl ?_; simp only [evtStatus, pageFld, Fld.bank, F.PTP_CNT2_LOCK_LOSSES]; omega)
    · refine State.wr_rdIs ?_ ?_
      · (refine .inl ?_; simp only [evtStatus, pageFld, Fld.bank, F.PTP_STATE_PORT_STATE]; omega)
      · refine State.wr_rdIs ?_ ?_
        · (refine .inl ?_; simp only [evtStatus, pageFld, Fld.bank, F.PTP_STATE_SERVO]; omega)
        · refine State.setPtp_mode ?_
          exact h7
  clear_value s1 s2 s3 s4 s6
  refine rdIs_ite ?_ ?_
  · refine State.setPtp_mode ?_
    exact h7
  · refine rdIs_ite ?_ ?_
    · apply h8
      refine State.lastingW_mode ?_
      exact h13
    · refine rdIs_ite ?_ ?_
      · apply h8
        refine State.bump_rdIs ?_ ?_
        · (refine .inl ?_; simp only [evtStatus, pageFld, Fld.bank, F.PTP_CNT_OUTLIERS]; omega)
        · refine State.retryPass_mode ?_
          refine State.setPtp_mode ?_
          exact h7
      · apply h8
        exact h7

theorem State.offsetOfLast_mode {s : State} {i : ℕ} (h0' : RdIs F.CROWN_MODE_MODE v0 s) : RdIs F.CROWN_MODE_MODE v0 (State.offsetOfLast s i) := by
  unfold State.offsetOfLast
  extract_lets s1
  clear_value s1
  split
  · rename_i x2 x3 x4 x5 x6 x7 x8 e9 e10
    refine State.offset_mode ?_
    refine State.setPtp_mode ?_
    exact h0'
  · rename_i x11 x12 e13
    refine State.setPtp_mode ?_
    exact h0'

theorem State.delayDone_mode {s : State} {i : ℕ} {d : ℤ} (h0' : RdIs F.CROWN_MODE_MODE v0 s) : RdIs F.CROWN_MODE_MODE v0 (State.delayDone s i d) := by
  unfold State.delayDone
  refine rdIs_ite ?_ ?_
  · exact h0'
  · extract_lets s1 s2 s3
    have h4 : RdIs F.CROWN_MODE_MODE v0 s3 := by
      unfold s3
      refine State.wr_rdIs ?_ ?_
      · (refine .inl ?_; simp only [evtStatus, pageFld, Fld.bank, F.PTP_MPD_DELAY]; omega)
      · refine State.setPtp_mode ?_
        exact h0'
    clear_value s1 s2 s3
    refine rdIs_ite ?_ ?_
    · refine State.offsetOfLast_mode ?_
      exact h4
    · exact h4

theorem State.e2eDone_mode {s : State} {i : ℕ} (h0' : RdIs F.CROWN_MODE_MODE v0 s) : RdIs F.CROWN_MODE_MODE v0 (State.e2eDone s i) := by
  unfold State.e2eDone
  extract_lets s1
  clear_value s1
  split
  · rename_i x2 x3 x4 x5 x6 x7 x8 x9 x10 x11 x12 e13 e14 e15
    refine rdIs_ite ?_ ?_
    · refine State.delayDone_mode ?_
      refine State.setPtp_mode ?_
      exact h0'
    · refine State.abandon_mode ?_
      exact h0'
  · rename_i x16 x17 x18 e19
    exact h0'

theorem State.holdover_mode {s : State} {i : ℕ} (h0' : RdIs F.CROWN_MODE_MODE v0 s) : RdIs F.CROWN_MODE_MODE v0 (State.holdover s i) := by
  unfold State.holdover
  extract_lets s1
  rename_i s2 s3 s4 s5
  have h6 : RdIs F.CROWN_MODE_MODE v0 s2 := by
    unfold s2
    refine rdIs_ite ?_ ?_
    · refine State.raise_mode ?_
      exact h0'
    · exact h0'
  have h7 : RdIs F.CROWN_MODE_MODE v0 s3 := by
    unfold s3
    refine State.raise_mode ?_
    refine State.wr_rdIs ?_ ?_
    · (refine .inl ?_; simp only [evtStatus, pageFld, Fld.bank, F.PTP_STATE_SERVO]; omega)
    · exact h6
  have h8 : RdIs F.CROWN_MODE_MODE v0 s4 := by
    unfold s4
    refine rdIs_ite ?_ ?_
    · refine State.voidCheck_mode ?_
      exact h7
    · exact h7
  have h9 : RdIs F.CROWN_MODE_MODE v0 s5 := by
    unfold s5
    refine State.setPtp_mode ?_
    exact h8
  clear_value s1 s2 s3 s4 s5
  refine rdIs_ite ?_ ?_
  · refine rdIs_ite ?_ ?_
    · refine State.setRate_mode ?_
      exact h9
    · exact h9
  · exact h0'

theorem State.peerDone_mode {s : State} {i : ℕ} {t4p : ℤ} {n4 : ℕ} {turn : ℤ} {cp : ℤ} (h0' : RdIs F.CROWN_MODE_MODE v0 s) : RdIs F.CROWN_MODE_MODE v0 (State.peerDone s i t4p n4 turn cp) := by
  unfold State.peerDone
  extract_lets s1
  clear_value s1
  split
  · rename_i x2 x3 x4 e5
    refine rdIs_ite ?_ ?_
    · refine State.delayDone_mode ?_
      refine State.setPtp_mode ?_
      exact h0'
    · refine State.abandon_mode ?_
      exact h0'
  · rename_i x6 e7
    exact h0'

theorem State.showStamp_mode {s : State} {p : ℕ} {e : TxStamp} (h0' : RdIs F.CROWN_MODE_MODE v0 s) : RdIs F.CROWN_MODE_MODE v0 (State.showStamp s p e) := by
  unfold State.showStamp
  extract_lets s1
  clear_value s1
  refine State.wr_rdIs ?_ ?_
  · (refine .inl ?_; simp only [evtStatus, pageFld, Fld.bank, F.PTP_LAST3_ENTRY]; omega)
  · refine State.wr_rdIs ?_ ?_
    · (refine .inl ?_; simp only [evtStatus, pageFld, Fld.bank, F.PTP_LAST2_ENTRY]; omega)
    · refine State.wr_rdIs ?_ ?_
      · (refine .inl ?_; simp only [evtStatus, pageFld, Fld.bank, F.PTP_LAST1_ENTRY]; omega)
      · refine State.wr_rdIs ?_ ?_
        · (refine .inl ?_; simp only [evtStatus, pageFld, Fld.bank, F.PTP_LAST0_ENTRY]; omega)
        · exact h0'

theorem State.setTxq_mode {s : State} {p : ℕ} {l : List TxStamp} (h0' : RdIs F.CROWN_MODE_MODE v0 s) : RdIs F.CROWN_MODE_MODE v0 (State.setTxq s p l) := by
  unfold State.setTxq
  extract_lets s1 s2
  rename_i s3
  have h4 : RdIs F.CROWN_MODE_MODE v0 s2 := by
    unfold s2
    exact rdIs_upd h0'
  have h5 : RdIs F.CROWN_MODE_MODE v0 s3 := by
    unfold s3
    refine State.wr_rdIs ?_ ?_
    · (refine .inl ?_; simp only [evtStatus, pageFld, Fld.bank, F.PTP_TXQ_0_FILL]; omega)
    · exact h4
  clear_value s1 s2 s3
  refine rdIs_ite ?_ ?_
  · refine State.wr_rdIs ?_ ?_
    · (refine .inl ?_; simp only [evtStatus, pageFld, Fld.bank, F.PTP_TXQ_0_PEAK]; omega)
    · exact h5
  · exact h5

theorem State.takeStamp_mode {s : State} {port : ℕ} {e : TxStamp} (h0' : RdIs F.CROWN_MODE_MODE v0 s) : RdIs F.CROWN_MODE_MODE v0 (State.takeStamp s port e) := by
  unfold State.takeStamp
  extract_lets s1 s2
  rename_i x3
  clear_value s1 s2 x3
  split
  · rename_i x4 e5
    refine State.e2eDone_mode ?_
    refine State.setPtp_mode ?_
    exact h0'
  · rename_i x6 e7
    refine State.setPtp_mode ?_
    exact h0'
  · rename_i x8 e9 e10
    split
    · rename_i x11 x12 x13 x14 x15 e16
      extract_lets s17
      clear_value s17
      refine State.send_mode ?_
      refine State.setPtp_mode ?_
      exact h0'
    · rename_i x18 e19
      exact h0'

theorem State.pushStamp_mode {s : State} {port : ℕ} {e : TxStamp} (h0' : RdIs F.CROWN_MODE_MODE v0 s) : RdIs F.CROWN_MODE_MODE v0 (State.pushStamp s port e) := by
  unfold State.pushStamp
  extract_lets s1
  rename_i s2 x3 s4
  have h5 : RdIs F.CROWN_MODE_MODE v0 s2 := by
    unfold s2
    refine State.raise_mode ?_
    refine State.bump_rdIs ?_ ?_
    · (refine .inl ?_; simp only [evtStatus, pageFld, Fld.bank, F.PTP_TXQ_0_DROPS]; omega)
    · exact h0'
  have h6 : RdIs F.CROWN_MODE_MODE v0 s4 := by
    unfold s4
    refine State.showStamp_mode ?_
    refine State.setTxq_mode ?_
    exact h0'
  clear_value s1 s2 x3 s4
  refine rdIs_ite ?_ ?_
  · refine rdIs_ite ?_ ?_
    · refine rdIs_ite ?_ ?_
      · refine State.setPtp_mode ?_
        exact h5
      · refine State.abandon_mode ?_
        exact h5
    · exact h5
  · refine rdIs_ite ?_ ?_
    · refine State.takeStamp_mode ?_
      refine State.setTxq_mode ?_
      exact h6
    · exact h6

theorem State.syncDone_mode {s : State} {i : ℕ} {t1 : ℤ} {t2 : ℤ} {cs : ℤ} (h0' : RdIs F.CROWN_MODE_MODE v0 s) : RdIs F.CROWN_MODE_MODE v0 (State.syncDone s i t1 t2 cs) := by
  unfold State.syncDone
  extract_lets s1 s2 s3
  rename_i s4
  have h5 : RdIs F.CROWN_MODE_MODE v0 s2 := by
    unfold s2
    refine rdIs_ite ?_ ?_
    · refine State.setPtp_mode ?_
      refine State.wr_rdIs ?_ ?_
      · (refine .inl ?_; simp only [evtStatus, pageFld, Fld.bank, F.PTP_STATE_PORT_STATE]; omega)
      · refine State.wr_rdIs ?_ ?_
        · (refine .inl ?_; simp only [evtStatus, pageFld, Fld.bank, F.PTP_STATE_SERVO]; omega)
        · exact h0'
    · exact h0'
  have h6 : RdIs F.CROWN_MODE_MODE v0 s4 := by
    unfold s4
    refine State.setPtp_mode ?_
    exact h5
  clear_value s1 s2 s3 s4
  refine rdIs_ite ?_ ?_
  · exact h6
  · refine rdIs_ite ?_ ?_
    · refine State.offsetOfLast_mode ?_
      exact h6
    · refine State.acquire_mode ?_
      exact h6

theorem State.clearWeld_mode {s : State} (h0' : RdIs F.CROWN_MODE_MODE v0 s) : RdIs F.CROWN_MODE_MODE v0 (State.clearWeld s) := by
  unfold State.clearWeld
  refine rdIs_ite ?_ ?_
  · refine rdIs_foldl ?_ ?_
    · exact h0'
    · intro s1 x2 h3
      refine rdIs_ite ?_ ?_
      · refine State.clearCond_mode ?_
        refine State.wrBit_rdIs ?_ ?_
        · decide
        · exact h3
      · exact h3
  · exact h0'

theorem execClrWeld_mode {who : Initiator} {s : State} (h1' : RdIs F.CROWN_MODE_MODE v0 s) : ∃ u', (execClrWeld who s) = .next u' ∧ RdIs F.CROWN_MODE_MODE v0 u' := by
  unfold execClrWeld
  refine ⟨_, rfl, ?_⟩
  refine State.asWrite_mode ?_ ?_
  · exact h1'
  · intro s1 h2
    refine State.clearWeld_mode ?_
    exact h2

theorem execCoilOvercurrent_mode {k : Fin 6} {s : State} (h1' : RdIs F.CROWN_MODE_MODE v0 s) : ∃ u', (execCoilOvercurrent k s) = .next u' ∧ RdIs F.CROWN_MODE_MODE v0 u' := by
  unfold execCoilOvercurrent
  extract_lets s1 s2
  clear_value s1 s2
  refine rdIs_out_ite ?_ ?_
  · refine ⟨_, rfl, ?_⟩
    refine State.watchBus_mode ?_
    refine State.setCoil_mode ?_
    refine State.wrBit_rdIs ?_ ?_
    · decide
    · refine State.countLoaded_mode ?_
      exact h1'
  · refine ⟨_, rfl, ?_⟩
    exact h1'

theorem execFbRepull_mode {k : Fin 6} {s : State} (h1' : RdIs F.CROWN_MODE_MODE v0 s) : ∃ u', (execFbRepull k s) = .next u' ∧ RdIs F.CROWN_MODE_MODE v0 u' := by
  unfold execFbRepull
  extract_lets s1
  clear_value s1
  refine rdIs_out_ite ?_ ?_
  · refine ⟨_, rfl, ?_⟩
    exact h1'
  · refine rdIs_out_ite ?_ ?_
    · refine ⟨_, rfl, ?_⟩
      refine State.setCoil_mode ?_
      exact h1'
    · refine ⟨_, rfl, ?_⟩
      refine State.energise_mode ?_
      exact h1'

theorem execFormAt_mode {s : State} (h0' : RdIs F.CROWN_MODE_MODE v0 s) : ∃ u', (execFormAt s) = .next u' ∧ RdIs F.CROWN_MODE_MODE v0 u' := by
  unfold execFormAt
  refine rdIs_out_ite ?_ ?_
  · refine ⟨_, rfl, ?_⟩
    exact rdIs_upd h0'
  · refine rdIs_out_ite ?_ ?_
    · extract_lets s1
      rename_i x2 s3 s4 x5
      have h6 : RdIs F.CROWN_MODE_MODE v0 s1 := by
        unfold s1
        refine State.wrB_rdIs ?_ ?_
        · decide
        · exact h0'
      have h7 : RdIs F.CROWN_MODE_MODE v0 s3 := by
        unfold s3
        exact rdIs_upd h6
      have h8 : RdIs F.CROWN_MODE_MODE v0 s4 := by
        unfold s4
        refine State.presetTo_mode ?_
        exact h7
      clear_value x5
      clear_value s4
      clear_value x2
      refine ⟨_, rfl, ?_⟩
      refine rdIs_ite ?_ ?_
      · exact h7
      · exact rdIs_upd h8
    · refine ⟨_, rfl, ?_⟩
      exact h0'

theorem State.k6Switch_mode {s : State} {on : Bool} (h0' : RdIs F.CROWN_MODE_MODE v0 s) : RdIs F.CROWN_MODE_MODE v0 (State.k6Switch s on) := by
  unfold State.k6Switch
  refine rdIs_ite ?_ ?_
  · refine rdIs_ite ?_ ?_
    · refine State.energise_mode ?_
      exact h0'
    · refine State.release_mode ?_
      exact h0'
  · exact h0'

theorem execK6Off_mode {who : Initiator} {s : State} (h1' : RdIs F.CROWN_MODE_MODE v0 s) : ∃ u', (execK6Off who s) = .next u' ∧ RdIs F.CROWN_MODE_MODE v0 u' := by
  unfold execK6Off
  refine ⟨_, rfl, ?_⟩
  refine State.asWrite_mode ?_ ?_
  · exact h1'
  · intro s1 h2
    refine State.k6Switch_mode ?_
    exact h2

theorem execK6On_mode {who : Initiator} {s : State} (h1' : RdIs F.CROWN_MODE_MODE v0 s) : ∃ u', (execK6On who s) = .next u' ∧ RdIs F.CROWN_MODE_MODE v0 u' := by
  unfold execK6On
  refine ⟨_, rfl, ?_⟩
  refine State.asWrite_mode ?_ ?_
  · exact h1'
  · intro s1 h2
    refine State.k6Switch_mode ?_
    exact h2

theorem execPullInEnd_mode {k : Fin 6} {s : State} (h1' : RdIs F.CROWN_MODE_MODE v0 s) : ∃ u', (execPullInEnd k s) = .next u' ∧ RdIs F.CROWN_MODE_MODE v0 u' := by
  unfold execPullInEnd
  extract_lets s1 s2
  clear_value s1 s2
  refine rdIs_out_ite ?_ ?_
  · refine ⟨_, rfl, ?_⟩
    refine State.setCoil_mode ?_
    exact h1'
  · refine ⟨_, rfl, ?_⟩
    exact h1'

theorem execStartAt_mode {s : State} (h0' : RdIs F.CROWN_MODE_MODE v0 s) : ∃ u', (execStartAt s) = .next u' ∧ RdIs F.CROWN_MODE_MODE v0 u' := by
  unfold execStartAt
  refine rdIs_out_ite ?_ ?_
  · refine ⟨_, rfl, ?_⟩
    refine State.startTracking_mode ?_
    exact h0'
  · refine ⟨_, rfl, ?_⟩
    exact h0'

theorem execVcoilLow_mode {vCoil : BitVec 16} {s : State} (h1' : RdIs F.CROWN_MODE_MODE v0 s) : ∃ u', (execVcoilLow vCoil s) = .next u' ∧ RdIs F.CROWN_MODE_MODE v0 u' := by
  unfold execVcoilLow
  extract_lets s1 s2
  have h3 : RdIs F.CROWN_MODE_MODE v0 s1 := by
    unfold s1
    refine State.takeVcoil_mode ?_
    exact h1'
  clear_value s1 s2
  refine ⟨_, rfl, ?_⟩
  refine rdIs_foldl ?_ ?_
  · exact h3
  · intro s4 x5 h6
    extract_lets s7
    clear_value s7
    refine rdIs_ite ?_ ?_
    · refine State.setCoil_mode ?_
      exact h6
    · refine rdIs_ite ?_ ?_
      · refine State.energise_mode ?_
        exact h6
      · exact h6

theorem execBankOk_mode {s : State} (h0' : RdIs F.CROWN_MODE_MODE v0 s) : ∃ u', (execBankOk s) = .next u' ∧ RdIs F.CROWN_MODE_MODE v0 u' := by
  unfold execBankOk
  refine ⟨_, rfl, ?_⟩
  refine State.wrB_rdIs ?_ ?_
  · decide
  · refine State.wrB_rdIs ?_ ?_
    · decide
    · exact h0'

theorem execBankOkLoss_mode {s : State} (h0' : RdIs F.CROWN_MODE_MODE v0 s) : ∃ u', (execBankOkLoss s) = .next u' ∧ RdIs F.CROWN_MODE_MODE v0 u' := by
  unfold execBankOkLoss
  refine ⟨_, rfl, ?_⟩
  refine State.wrB_rdIs ?_ ?_
  · decide
  · exact h0'

theorem execSdsAvail_mode {available : Bool} {s : State} (h1' : RdIs F.CROWN_MODE_MODE v0 s) : ∃ u', (execSdsAvail available s) = .next u' ∧ RdIs F.CROWN_MODE_MODE v0 u' := by
  unfold execSdsAvail
  extract_lets s1 s2
  rename_i s3
  have h4 : RdIs F.CROWN_MODE_MODE v0 s2 := by
    unfold s2
    refine State.showSds_mode ?_
    exact rdIs_upd h1'
  have h5 : RdIs F.CROWN_MODE_MODE v0 s3 := by
    unfold s3
    refine rdIs_ite ?_ ?_
    · refine State.wrB_rdIs ?_ ?_
      · decide
      · exact h4
    · exact h4
  clear_value s1 s2 s3
  refine ⟨_, rfl, ?_⟩
  refine rdIs_ite ?_ ?_
  · exact h5
  · refine State.wrB_rdIs ?_ ?_
    · decide
    · exact h5

theorem execTransportVauxArm_mode {s : State} (h0' : RdIs F.CROWN_MODE_MODE v0 s) : ∃ u', (execTransportVauxArm s) = .next u' ∧ RdIs F.CROWN_MODE_MODE v0 u' := by
  unfold execTransportVauxArm
  refine ⟨_, rfl, ?_⟩
  refine rdIs_ite ?_ ?_
  · exact rdIs_upd h0'
  · exact h0'

theorem State.endDegrade_mode {s : State} (h0' : RdIs F.CROWN_MODE_MODE v0 s) : RdIs F.CROWN_MODE_MODE v0 (State.endDegrade s) := by
  unfold State.endDegrade
  refine rdIs_ite ?_ ?_
  · extract_lets s1
    rename_i x2
    have h3 : RdIs F.CROWN_MODE_MODE v0 s1 := by
      unfold s1
      refine State.record_mode ?_
      refine State.raise_mode ?_
      refine State.wr_rdIs ?_ ?_
      · decide
      · refine State.wrB_rdIs ?_ ?_
        · decide
        · exact h0'
    clear_value s1 x2
    exact rdIs_upd h3
  · exact h0'

theorem execDegradeExpiry_mode {s : State} (h0' : RdIs F.CROWN_MODE_MODE v0 s) : ∃ u', (execDegradeExpiry s) = .next u' ∧ RdIs F.CROWN_MODE_MODE v0 u' := by
  unfold execDegradeExpiry
  refine ⟨_, rfl, ?_⟩
  refine State.endDegrade_mode ?_
  exact h0'

theorem State.writeDegrade_mode {s : State} {sec : ℕ} (h0' : RdIs F.CROWN_MODE_MODE v0 s) : RdIs F.CROWN_MODE_MODE v0 (State.writeDegrade s sec) := by
  unfold State.writeDegrade
  refine rdIs_ite ?_ ?_
  · exact h0'
  · extract_lets s1
    rename_i s2 x3
    have h4 : RdIs F.CROWN_MODE_MODE v0 s1 := by
      unfold s1
      refine State.wr_rdIs ?_ ?_
      · decide
      · exact h0'
    have h5 : RdIs F.CROWN_MODE_MODE v0 s2 := by
      unfold s2
      refine State.record_mode ?_
      refine State.raise_mode ?_
      refine State.wr_rdIs ?_ ?_
      · decide
      · refine State.wrB_rdIs ?_ ?_
        · decide
        · exact h4
    clear_value s1 s2 x3
    refine rdIs_ite ?_ ?_
    · refine State.endDegrade_mode ?_
      exact h4
    · exact rdIs_upd h5

theorem execDegradeGrant_mode {who : Initiator} {sec : BitVec 12} {s : State} (h2' : RdIs F.CROWN_MODE_MODE v0 s) : ∃ u', (execDegradeGrant who sec s) = .next u' ∧ RdIs F.CROWN_MODE_MODE v0 u' := by
  unfold execDegradeGrant
  refine ⟨_, rfl, ?_⟩
  refine State.asWrite_mode ?_ ?_
  · exact h2'
  · intro s1 h2
    refine State.writeDegrade_mode ?_
    exact h2

theorem State.protPend_mode {s : State} {k : ℕ × ℤ} {b : Bool} (h0' : RdIs F.CROWN_MODE_MODE v0 s) : RdIs F.CROWN_MODE_MODE v0 (State.protPend s k b) := by
  unfold State.protPend
  exact rdIs_upd h0'

theorem execHallDetectOpen_mode {s : State} (h0' : RdIs F.CROWN_MODE_MODE v0 s) : ∃ u', (execHallDetectOpen s) = .next u' ∧ RdIs F.CROWN_MODE_MODE v0 u' := by
  unfold execHallDetectOpen
  extract_lets s1
  rename_i s2
  have h3 : RdIs F.CROWN_MODE_MODE v0 s2 := by
    unfold s2
    exact rdIs_upd h0'
  clear_value s1 s2
  refine ⟨_, rfl, ?_⟩
  refine rdIs_ite ?_ ?_
  · exact h3
  · refine State.voidCheck_mode ?_
    refine State.protPend_mode ?_
    exact h3

theorem execSnetStateTx_mode {s : State} (h0' : RdIs F.CROWN_MODE_MODE v0 s) : ∃ u', (execSnetStateTx s) = .next u' ∧ RdIs F.CROWN_MODE_MODE v0 u' := by
  unfold execSnetStateTx
  extract_lets s1 s2 s3 s4
  rename_i x5
  have h6 : RdIs F.CROWN_MODE_MODE v0 s2 := by
    unfold s2
    exact rdIs_upd h0'
  have h7 : ∀ a0 a1 a2, RdIs F.CROWN_MODE_MODE v0 a0 → RdIs F.CROWN_MODE_MODE v0 (x5 a0 a1 a2) := by
    intro s8 x9 x10 h11
    unfold x5
    beta_reduce
    refine rdIs_ite ?_ ?_
    · exact h11
    · refine State.send_mode ?_
      exact h11
  clear_value x5
  clear_value s1 s2 s3 s4
  refine ⟨_, rfl, ?_⟩
  apply h7
  apply h7
  exact h6

theorem State.own_mode {s : State} {who : Initiator} (h0' : RdIs F.CROWN_MODE_MODE v0 s) : RdIs F.CROWN_MODE_MODE v0 (State.own s who) := by
  unfold State.own
  refine State.wrB_rdIs ?_ ?_
  · decide
  · refine State.wr_rdIs ?_ ?_
    · decide
    · exact h0'

theorem State.commitRefused_mode {s : State} (h0' : RdIs F.CROWN_MODE_MODE v0 s) : RdIs F.CROWN_MODE_MODE v0 (State.commitRefused s) := by
  unfold State.commitRefused
  refine State.wr_rdIs ?_ ?_
  · decide
  · exact rdIs_upd h0'

theorem State.commitStored_mode {s : State} {outcome : ℕ} (h0' : RdIs F.CROWN_MODE_MODE v0 s) : RdIs F.CROWN_MODE_MODE v0 (State.commitStored s outcome) := by
  unfold State.commitStored
  refine rdIs_ite ?_ ?_
  · exact h0'
  · extract_lets s1
    rename_i s2
    have h3 : RdIs F.CROWN_MODE_MODE v0 s2 := by
      unfold s2
      exact rdIs_upd h0'
    clear_value s1 s2
    split
    · rename_i x4
      refine State.wr_rdIs ?_ ?_
      · decide
      · refine State.bump_rdIs ?_ ?_
        · decide
        · refine State.wrB_rdIs ?_ ?_
          · decide
          · refine State.storeEntry_mode ?_
            exact h3
    · rename_i x5
      refine State.wr_rdIs ?_ ?_
      · decide
      · refine State.lastingW_mode ?_
        exact h3
    · rename_i x6 e7 e8
      refine State.wr_rdIs ?_ ?_
      · decide
      · exact h3

theorem State.discardPage_mode {s : State} {page : ℕ} (h0' : RdIs F.CROWN_MODE_MODE v0 s) : RdIs F.CROWN_MODE_MODE v0 (State.discardPage s page) := by
  unfold State.discardPage
  exact rdIs_upd h0'

theorem State.discardWrite_mode {s : State} {who : Initiator} {page : ℕ} {data : ℕ} (h0' : RdIs F.CROWN_MODE_MODE v0 s) : RdIs F.CROWN_MODE_MODE v0 (State.discardWrite s who page data) := by
  unfold State.discardWrite
  refine rdIs_ite ?_ ?_
  · extract_lets s1
    clear_value s1
    refine rdIs_ite ?_ ?_
    · refine State.refuseAccess_mode ?_
      exact h0'
    · refine State.discardPage_mode ?_
      exact h0'
  · exact h0'

theorem State.endOwnership_mode {s : State} (h0' : RdIs F.CROWN_MODE_MODE v0 s) : RdIs F.CROWN_MODE_MODE v0 (State.endOwnership s) := by
  unfold State.endOwnership
  extract_lets s1
  rename_i x2 x3
  have h4 : RdIs F.CROWN_MODE_MODE v0 s1 := by
    unfold s1
    refine State.wr_rdIs ?_ ?_
    · decide
    · refine State.wrB_rdIs ?_ ?_
      · decide
      · refine State.wr_rdIs ?_ ?_
        · decide
        · exact h0'
  clear_value s1 x2 x3
  exact rdIs_upd h4

theorem State.dropStaging_mode {s : State} (h0' : RdIs F.CROWN_MODE_MODE v0 s) : RdIs F.CROWN_MODE_MODE v0 (State.dropStaging s) := by
  unfold State.dropStaging
  extract_lets s1 s2
  have h3 : RdIs F.CROWN_MODE_MODE v0 s2 := by
    unfold s2
    refine State.endOwnership_mode ?_
    exact h0'
  clear_value s1 s2
  refine rdIs_ite ?_ ?_
  · refine State.commitRefused_mode ?_
    exact h3
  · exact h3

theorem State.ownerGone_mode {s : State} {session : ℕ} (h0' : RdIs F.CROWN_MODE_MODE v0 s) : RdIs F.CROWN_MODE_MODE v0 (State.ownerGone s session) := by
  unfold State.ownerGone
  refine rdIs_ite ?_ ?_
  · refine State.dropStaging_mode ?_
    exact h0'
  · exact h0'

theorem State.stagedNow_mode {s : State} {who : Initiator} (h0' : RdIs F.CROWN_MODE_MODE v0 s) : RdIs F.CROWN_MODE_MODE v0 (State.stagedNow s who) := by
  unfold State.stagedNow
  extract_lets s1 s2
  rename_i s3
  have h4 : RdIs F.CROWN_MODE_MODE v0 s1 := by
    unfold s1
    refine rdIs_ite ?_ ?_
    · refine State.own_mode ?_
      exact h0'
    · exact h0'
  have h5 : RdIs F.CROWN_MODE_MODE v0 s3 := by
    unfold s3
    refine rdIs_ite ?_ ?_
    · exact rdIs_upd h4
    · exact h4
  clear_value s1 s2 s3
  refine State.wr_rdIs ?_ ?_
  · decide
  · exact h5

theorem State.stageWord_mode {s : State} {who : Initiator} {addr : ℕ} {data : ℕ} (h0' : RdIs F.CROWN_MODE_MODE v0 s) : RdIs F.CROWN_MODE_MODE v0 (State.stageWord s who addr data) := by
  unfold State.stageWord
  extract_lets s1
  rename_i s2
  have h3 : RdIs F.CROWN_MODE_MODE v0 s2 := by
    unfold s2
    refine State.stagedNow_mode ?_
    exact h0'
  clear_value s1 s2
  refine rdIs_ite ?_ ?_
  · exact rdIs_upd h3
  · exact h0'

theorem execCommitStoreComplete_mode {outcome : Fin 3} {s : State} (h1' : RdIs F.CROWN_MODE_MODE v0 s) : ∃ u', (execCommitStoreComplete outcome s) = .next u' ∧ RdIs F.CROWN_MODE_MODE v0 u' := by
  unfold execCommitStoreComplete
  refine ⟨_, rfl, ?_⟩
  refine State.commitStored_mode ?_
  exact h1'

theorem execDiscardCmd_mode {who : Initiator} {page : Fin 256} {s : State} (h2' : RdIs F.CROWN_MODE_MODE v0 s) : ∃ u', (execDiscardCmd who page s) = .next u' ∧ RdIs F.CROWN_MODE_MODE v0 u' := by
  unfold execDiscardCmd
  refine ⟨_, rfl, ?_⟩
  refine State.asWrite_mode ?_ ?_
  · exact h2'
  · intro s1 h2
    refine rdIs_ite ?_ ?_
    · exact h2
    · refine State.discardWrite_mode ?_
      exact h2

theorem State.lastingWrite_mode {s : State} {page : ℕ} {data : ℕ} (h0' : RdIs F.CROWN_MODE_MODE v0 s) : RdIs F.CROWN_MODE_MODE v0 (State.lastingWrite s page data) := by
  unfold State.lastingWrite
  refine rdIs_ite ?_ ?_
  · refine State.wr_rdIs ?_ ?_
    · (refine .inl ?_; simp only [evtStatus, pageFld, Fld.bank]; omega)
    · refine State.wr_rdIs ?_ ?_
      · (refine .inl ?_; simp only [evtStatus, pageFld, Fld.bank]; omega)
      · exact h0'
  · exact h0'

theorem execLastingClear_mode {who : Initiator} {page : Fin 256} {s : State} (h2' : RdIs F.CROWN_MODE_MODE v0 s) : ∃ u', (execLastingClear who page s) = .next u' ∧ RdIs F.CROWN_MODE_MODE v0 u' := by
  unfold execLastingClear
  refine ⟨_, rfl, ?_⟩
  refine State.asWrite_mode ?_ ?_
  · exact h2'
  · intro s1 h2
    refine State.lastingWrite_mode ?_
    exact h2

theorem State.retryCntWrite_mode {s : State} {page : ℕ} {data : ℕ} (h0' : RdIs F.CROWN_MODE_MODE v0 s) : RdIs F.CROWN_MODE_MODE v0 (State.retryCntWrite s page data) := by
  unfold State.retryCntWrite
  refine rdIs_ite ?_ ?_
  · refine State.wr_rdIs ?_ ?_
    · (refine .inl ?_; simp only [evtStatus, pageFld, Fld.bank]; omega)
    · exact h0'
  · exact h0'

theorem execRetryCntClear_mode {who : Initiator} {page : Fin 256} {s : State} (h2' : RdIs F.CROWN_MODE_MODE v0 s) : ∃ u', (execRetryCntClear who page s) = .next u' ∧ RdIs F.CROWN_MODE_MODE v0 u' := by
  unfold execRetryCntClear
  refine ⟨_, rfl, ?_⟩
  refine State.asWrite_mode ?_ ?_
  · exact h2'
  · intro s1 h2
    refine State.retryCntWrite_mode ?_
    exact h2

theorem State.stagedWrite_mode {s : State} {who : Initiator} {a : ℕ} {data : ℕ} (h0' : RdIs F.CROWN_MODE_MODE v0 s) : RdIs F.CROWN_MODE_MODE v0 (State.stagedWrite s who a data) := by
  unfold State.stagedWrite
  extract_lets s1
  clear_value s1
  refine rdIs_ite ?_ ?_
  · refine State.refuseAccess_mode ?_
    exact h0'
  · refine State.stageWord_mode ?_
    exact h0'

theorem execStagedWrite_mode {who : Initiator} {page : Fin 256} {reg : Fin 512} {data : BitVec 32} {s : State} (h4' : RdIs F.CROWN_MODE_MODE v0 s) : ∃ u', (execStagedWrite who page reg data s) = .next u' ∧ RdIs F.CROWN_MODE_MODE v0 u' := by
  unfold execStagedWrite
  refine ⟨_, rfl, ?_⟩
  refine State.asWrite_mode ?_ ?_
  · exact h4'
  · intro s1 h2
    refine State.stagedWrite_mode ?_
    exact h2

theorem execStagingTimeout_mode {s : State} (h0' : RdIs F.CROWN_MODE_MODE v0 s) : ∃ u', (execStagingTimeout s) = .next u' ∧ RdIs F.CROWN_MODE_MODE v0 u' := by
  unfold execStagingTimeout
  refine ⟨_, rfl, ?_⟩
  refine rdIs_ite ?_ ?_
  · refine State.dropStaging_mode ?_
    exact h0'
  · exact h0'

theorem execImpedCorrelation_mode {n : Fin 32} {s : State} (h1' : RdIs F.CROWN_MODE_MODE v0 s) : ∃ u', (execImpedCorrelation n s) = .next u' ∧ RdIs F.CROWN_MODE_MODE v0 u' := by
  unfold execImpedCorrelation
  split
  · rename_i x1 e2
    refine ⟨_, rfl, ?_⟩
    exact h1'
  · rename_i x3 x4 e5
    refine rdIs_out_ite ?_ ?_
    · refine ⟨_, rfl, ?_⟩
      exact h1'
    · extract_lets s6 s7
      rename_i x8
      have h9 : RdIs F.CROWN_MODE_MODE v0 s6 := by
        unfold s6
        refine State.correlate_mode ?_
        exact h1'
      clear_value s6 s7 x8
      refine rdIs_out_ite ?_ ?_
      · refine ⟨_, rfl, ?_⟩
        refine State.recordDone_mode ?_
        exact h9
      · refine ⟨_, rfl, ?_⟩
        exact rdIs_upd h9

theorem execImpedRampEnd_mode {s : State} (h0' : RdIs F.CROWN_MODE_MODE v0 s) : ∃ u', (execImpedRampEnd s) = .next u' ∧ RdIs F.CROWN_MODE_MODE v0 u' := by
  unfold execImpedRampEnd
  refine rdIs_out_ite ?_ ?_
  · refine ⟨_, rfl, ?_⟩
    refine State.raise_mode ?_
    refine State.endStimulus_mode ?_
    exact h0'
  · refine ⟨_, rfl, ?_⟩
    exact h0'

theorem execImpedSetClose_mode {s : State} (h0' : RdIs F.CROWN_MODE_MODE v0 s) : ∃ u', (execImpedSetClose s) = .next u' ∧ RdIs F.CROWN_MODE_MODE v0 u' := by
  unfold execImpedSetClose
  refine ⟨_, rfl, ?_⟩
  refine State.closeWaiting_mode ?_
  exact h0'

theorem State.impedStart_mode {s : State} (h0' : RdIs F.CROWN_MODE_MODE v0 s) : RdIs F.CROWN_MODE_MODE v0 (State.impedStart s) := by
  unfold State.impedStart
  exact rdIs_upd h0'

theorem execImpedStart_mode {who : Initiator} {s : State} (h1' : RdIs F.CROWN_MODE_MODE v0 s) : ∃ u', (execImpedStart who s) = .next u' ∧ RdIs F.CROWN_MODE_MODE v0 u' := by
  unfold execImpedStart
  refine ⟨_, rfl, ?_⟩
  refine State.asWrite_mode ?_ ?_
  · exact h1'
  · intro s1 h2
    refine State.impedStart_mode ?_
    exact h2

theorem State.captureRun_mode {s : State} (h0' : RdIs F.CROWN_MODE_MODE v0 s) : RdIs F.CROWN_MODE_MODE v0 (State.captureRun s) := by
  unfold State.captureRun
  extract_lets s1
  rename_i x2
  clear_value s1 x2
  refine State.showFreqs_mode ?_
  exact rdIs_upd h0'

theorem execImpedStartEval_mode {s : State} (h0' : RdIs F.CROWN_MODE_MODE v0 s) : ∃ u', (execImpedStartEval s) = .next u' ∧ RdIs F.CROWN_MODE_MODE v0 u' := by
  unfold execImpedStartEval
  refine rdIs_out_ite ?_ ?_
  · refine ⟨_, rfl, ?_⟩
    exact h0'
  · extract_lets s1 s2 s3 s4
    rename_i s5 s6 s7 x8 x9
    have h10 : RdIs F.CROWN_MODE_MODE v0 s2 := by
      unfold s2
      exact rdIs_upd h0'
    have h11 : RdIs F.CROWN_MODE_MODE v0 s4 := by
      unfold s4
      refine State.wr_rdIs ?_ ?_
      · decide
      · exact h10
    have h12 : RdIs F.CROWN_MODE_MODE v0 s5 := by
      unfold s5
      refine State.impStartJudged_mode ?_
      exact h11
    have h13 : RdIs F.CROWN_MODE_MODE v0 s6 := by
      unfold s6
      refine State.captureRun_mode ?_
      refine State.clearRun_mode ?_
      exact h12
    have h14 : RdIs F.CROWN_MODE_MODE v0 s7 := by
      unfold s7
      refine State.wr_rdIs ?_ ?_
      · decide
      · refine State.raise_mode ?_
        refine State.bump_rdIs ?_ ?_
        · decide
        · exact h13
    clear_value s1 s2 s3 s4 s5 s6 s7 x8 x9
    refine rdIs_out_ite ?_ ?_
    · refine ⟨_, rfl, ?_⟩
      refine State.raise_mode ?_
      exact h12
    · refine ⟨_, rfl, ?_⟩
      exact rdIs_upd h14

theorem execImpedStop_mode {who : Initiator} {s : State} (h1' : RdIs F.CROWN_MODE_MODE v0 s) : ∃ u', (execImpedStop who s) = .next u' ∧ RdIs F.CROWN_MODE_MODE v0 u' := by
  unfold execImpedStop
  refine ⟨_, rfl, ?_⟩
  refine State.asWrite_mode ?_ ?_
  · exact h1'
  · intro s1 h2
    refine State.abortRun_mode ?_
    exact h2

theorem State.readBleeding_mode {s : State} {start : Bool} {close : Bool} (h0' : RdIs F.CROWN_MODE_MODE v0 s) : RdIs F.CROWN_MODE_MODE v0 (State.readBleeding s start close) := by
  unfold State.readBleeding
  refine rdIs_ite ?_ ?_
  · exact h0'
  · extract_lets s1 s2
    rename_i x3
    have h4 : RdIs F.CROWN_MODE_MODE v0 s2 := by
      unfold s2
      refine rdIs_foldl ?_ ?_
      · exact h0'
      · intro s5 x6 h7
        refine State.ringCmd_mode ?_
        exact h7
    clear_value s1 s2 x3
    exact rdIs_upd h4

theorem State.bledAtStart_mode {s : State} (h0' : RdIs F.CROWN_MODE_MODE v0 s) : RdIs F.CROWN_MODE_MODE v0 (State.bledAtStart s) := by
  unfold State.bledAtStart
  refine rdIs_ite ?_ ?_
  · exact rdIs_upd h0'
  · refine State.readBleeding_mode ?_
    exact h0'

theorem State.windowDiscarded_mode {s : State} (h0' : RdIs F.CROWN_MODE_MODE v0 s) : RdIs F.CROWN_MODE_MODE v0 (State.windowDiscarded s) := by
  unfold State.windowDiscarded
  extract_lets s1
  have h2 : RdIs F.CROWN_MODE_MODE v0 s1 := by
    unfold s1
    refine State.discardWindow_mode ?_
    exact h0'
  clear_value s1
  refine rdIs_ite ?_ ?_
  · refine State.abortRun_mode ?_
    exact h2
  · exact h2

theorem State.windowGood_mode {s : State} (h0' : RdIs F.CROWN_MODE_MODE v0 s) : RdIs F.CROWN_MODE_MODE v0 (State.windowGood s) := by
  unfold State.windowGood
  extract_lets s1
  rename_i x2 x3 x4 s5
  have h6 : RdIs F.CROWN_MODE_MODE v0 s1 := by
    unfold s1
    refine State.wr_rdIs ?_ ?_
    · decide
    · refine State.wrB_rdIs ?_ ?_
      · decide
      · exact h0'
  have h7 : RdIs F.CROWN_MODE_MODE v0 s5 := by
    unfold s5
    refine State.readBleeding_mode ?_
    exact rdIs_upd h6
  clear_value s1 x2 x3 x4 s5
  refine rdIs_ite ?_ ?_
  · exact h6
  · refine rdIs_ite ?_ ?_
    · exact rdIs_upd h6
    · refine rdIs_ite ?_ ?_
      · exact h7
      · split
        · rename_i x8 e9
          refine State.wr_rdIs ?_ ?_
          · decide
          · exact h7
        · rename_i x10 e11
          refine State.wr_rdIs ?_ ?_
          · decide
          · exact h7
        · rename_i x12 e13 e14
          exact h7

theorem execImpedWindowEnd_mode {s : State} (h0' : RdIs F.CROWN_MODE_MODE v0 s) : ∃ u', (execImpedWindowEnd s) = .next u' ∧ RdIs F.CROWN_MODE_MODE v0 u' := by
  unfold execImpedWindowEnd
  extract_lets s1
  rename_i x2 s3 s4 s5 x6
  have h7 : RdIs F.CROWN_MODE_MODE v0 s3 := by
    unfold s3
    refine rdIs_ite ?_ ?_
    · refine State.wr_rdIs ?_ ?_
      · decide
      · exact h0'
    · exact h0'
  have h8 : RdIs F.CROWN_MODE_MODE v0 s4 := by
    unfold s4
    refine rdIs_ite ?_ ?_
    · refine State.bledAtStart_mode ?_
      exact h7
    · exact h7
  have h9 : RdIs F.CROWN_MODE_MODE v0 s5 := by
    unfold s5
    refine rdIs_ite ?_ ?_
    · refine State.windowDiscarded_mode ?_
      exact h8
    · refine State.windowGood_mode ?_
      exact h8
  clear_value s1 x2 s3 s4 s5 x6
  refine rdIs_out_ite ?_ ?_
  · refine ⟨_, rfl, ?_⟩
    exact rdIs_upd h9
  · refine ⟨_, rfl, ?_⟩
    exact h0'

theorem execAonTimerWake_mode {s : State} (h0' : RdIs F.CROWN_MODE_MODE v0 s) : ∃ u', (execAonTimerWake s) = .next u' ∧ RdIs F.CROWN_MODE_MODE v0 u' := by
  unfold execAonTimerWake
  refine rdIs_out_ite ?_ ?_
  · refine ⟨_, rfl, ?_⟩
    refine State.wakeDormant_mode ?_
    exact h0'
  · refine ⟨_, rfl, ?_⟩
    exact h0'

theorem execDormantWake_mode {w : Wake} {s : State} (h1' : RdIs F.CROWN_MODE_MODE v0 s) : ∃ u', (execDormantWake w s) = .next u' ∧ RdIs F.CROWN_MODE_MODE v0 u' := by
  unfold execDormantWake
  split
  · rename_i x1 x2
    refine rdIs_out_ite ?_ ?_
    · refine ⟨_, rfl, ?_⟩
      refine State.wakeDormant_mode ?_
      refine State.raise_mode ?_
      exact h1'
    · refine ⟨_, rfl, ?_⟩
      exact h1'
  · rename_i x3 e4
    refine ⟨_, rfl, ?_⟩
    refine State.wakeDormant_mode ?_
    exact h1'

theorem execClaimEchoRx_mode {claim : BitVec 16} {s : State} (h1' : RdIs F.CROWN_MODE_MODE v0 s) : ∃ u', (execClaimEchoRx claim s) = .next u' ∧ RdIs F.CROWN_MODE_MODE v0 u' := by
  unfold execClaimEchoRx
  refine ⟨_, rfl, ?_⟩
  exact rdIs_upd h1'

theorem execForcedResetSend_mode {s : State} (h0' : RdIs F.CROWN_MODE_MODE v0 s) : ∃ u', (execForcedResetSend s) = .next u' ∧ RdIs F.CROWN_MODE_MODE v0 u' := by
  unfold execForcedResetSend
  refine rdIs_out_ite ?_ ?_
  · refine ⟨_, rfl, ?_⟩
    refine State.send_mode ?_
    exact rdIs_upd h0'
  · refine ⟨_, rfl, ?_⟩
    exact h0'

theorem execHeartbeatTx_mode {s : State} (h0' : RdIs F.CROWN_MODE_MODE v0 s) : ∃ u', (execHeartbeatTx s) = .next u' ∧ RdIs F.CROWN_MODE_MODE v0 u' := by
  unfold execHeartbeatTx
  refine rdIs_out_ite ?_ ?_
  · refine ⟨_, rfl, ?_⟩
    exact h0'
  · extract_lets s1
    have h2 : RdIs F.CROWN_MODE_MODE v0 s1 := by
      unfold s1
      refine State.refreshReady_mode ?_
      exact h0'
    clear_value s1
    refine ⟨_, rfl, ?_⟩
    refine State.send_mode ?_
    exact h2

theorem execPairIdChange_mode {level : Fin 3} {s : State} (h1' : RdIs F.CROWN_MODE_MODE v0 s) : ∃ u', (execPairIdChange level s) = .next u' ∧ RdIs F.CROWN_MODE_MODE v0 u' := by
  unfold execPairIdChange
  refine ⟨_, rfl, ?_⟩
  refine State.record_mode ?_
  exact h1'

theorem execPairLinkLost_mode {s : State} (h0' : RdIs F.CROWN_MODE_MODE v0 s) : ∃ u', (execPairLinkLost s) = .next u' ∧ RdIs F.CROWN_MODE_MODE v0 u' := by
  unfold execPairLinkLost
  refine rdIs_out_ite ?_ ?_
  · refine ⟨_, rfl, ?_⟩
    refine State.refreshReady_mode ?_
    refine State.raise_mode ?_
    refine State.wrB_rdIs ?_ ?_
    · decide
    · refine State.wrB_rdIs ?_ ?_
      · decide
      · exact h0'
  · refine ⟨_, rfl, ?_⟩
    exact h0'

theorem execPhase0BoundaryMessage_mode {sec : BitVec 48} {ns : BitVec 32} {dev : ℤ} {s : State} (h3' : RdIs F.CROWN_MODE_MODE v0 s) : ∃ u', (execPhase0BoundaryMessage sec ns dev s) = .next u' ∧ RdIs F.CROWN_MODE_MODE v0 u' := by
  unfold execPhase0BoundaryMessage
  refine rdIs_out_ite ?_ ?_
  · refine ⟨_, rfl, ?_⟩
    refine State.wrI_rdIs ?_ ?_
    · decide
    · exact h3'
  · refine ⟨_, rfl, ?_⟩
    exact h3'

theorem execSwitchCmd_mode {who : Initiator} {key : BitVec 16} {s : State} (h2' : RdIs F.CROWN_MODE_MODE v0 s) : ∃ u', (execSwitchCmd who key s) = .next u' ∧ RdIs F.CROWN_MODE_MODE v0 u' := by
  unfold execSwitchCmd
  refine ⟨_, rfl, ?_⟩
  refine State.asWrite_mode ?_ ?_
  · exact h2'
  · intro s1 h2
    refine State.pairCmd_mode ?_
    exact h2

theorem execUnitBClaimWait_mode {s : State} (h0' : RdIs F.CROWN_MODE_MODE v0 s) : ∃ u', (execUnitBClaimWait s) = .next u' ∧ RdIs F.CROWN_MODE_MODE v0 u' := by
  unfold execUnitBClaimWait
  refine rdIs_out_ite ?_ ?_
  · extract_lets s1
    rename_i s2
    have h3 : RdIs F.CROWN_MODE_MODE v0 s2 := by
      unfold s2
      exact rdIs_upd h0'
    clear_value s1 s2
    split
    rename_i s4 s5 x6 e7
    have h8 : RdIs F.CROWN_MODE_MODE v0 s5 := by
      refine rdIs_of_fst e7 ?_
      refine State.takeClaim_mode ?_
      exact h3
    refine ⟨_, rfl, ?_⟩
    refine rdIs_ite ?_ ?_
    · refine State.takeRing_mode ?_
      refine State.wr_rdIs ?_ ?_
      · decide
      · exact h8
    · exact h8
  · refine ⟨_, rfl, ?_⟩
    exact h0'

theorem execGstopCmd_mode {who : Initiator} {s : State} (h1' : RdIs F.CROWN_MODE_MODE v0 s) : ∃ u', (execGstopCmd who s) = .next u' ∧ RdIs F.CROWN_MODE_MODE v0 u' := by
  unfold execGstopCmd
  refine ⟨_, rfl, ?_⟩
  refine State.asWrite_mode ?_ ?_
  · exact h1'
  · intro s1 h2
    refine State.endGateTest_mode ?_
    exact h2

theorem execGtestEnd_mode {s : State} (h0' : RdIs F.CROWN_MODE_MODE v0 s) : ∃ u', (execGtestEnd s) = .next u' ∧ RdIs F.CROWN_MODE_MODE v0 u' := by
  unfold execGtestEnd
  refine ⟨_, rfl, ?_⟩
  refine State.endGateTest_mode ?_
  exact h0'

theorem State.testGo_mode {s : State} (h0' : RdIs F.CROWN_MODE_MODE v0 s) : RdIs F.CROWN_MODE_MODE v0 (State.testGo s) := by
  unfold State.testGo
  refine rdIs_ite ?_ ?_
  · exact h0'
  · extract_lets s1 s2
    rename_i s3 x4
    have h5 : RdIs F.CROWN_MODE_MODE v0 s2 := by
      unfold s2
      refine State.wr_rdIs ?_ ?_
      · decide
      · exact h0'
    have h6 : RdIs F.CROWN_MODE_MODE v0 s3 := by
      unfold s3
      refine State.askEnables_mode ?_
      refine State.wrB_rdIs ?_ ?_
      · decide
      · exact h5
    clear_value s1 s2 s3 x4
    refine rdIs_ite ?_ ?_
    · exact h5
    · exact rdIs_upd h6

theorem State.gtestWrite_mode {s : State} {data : ℕ} (h0' : RdIs F.CROWN_MODE_MODE v0 s) : RdIs F.CROWN_MODE_MODE v0 (State.gtestWrite s data) := by
  unfold State.gtestWrite
  extract_lets s1 s2
  have h3 : RdIs F.CROWN_MODE_MODE v0 s1 := by
    unfold s1
    refine rdIs_ite ?_ ?_
    · exact h0'
    · refine State.wr_rdIs ?_ ?_
      · decide
      · exact h0'
  have h4 : RdIs F.CROWN_MODE_MODE v0 s2 := by
    unfold s2
    refine rdIs_ite ?_ ?_
    · refine State.endGateTest_mode ?_
      exact h3
    · exact h3
  clear_value s1 s2
  refine rdIs_ite ?_ ?_
  · refine State.testGo_mode ?_
    exact h4
  · exact h4

theorem execGtestGo_mode {who : Initiator} {phases : Fin 65536} {s : State} (h2' : RdIs F.CROWN_MODE_MODE v0 s) : ∃ u', (execGtestGo who phases s) = .next u' ∧ RdIs F.CROWN_MODE_MODE v0 u' := by
  unfold execGtestGo
  refine ⟨_, rfl, ?_⟩
  refine State.asWrite_mode ?_ ?_
  · exact h2'
  · intro s1 h2
    refine State.gtestWrite_mode ?_
    exact h2

theorem State.jtagWrite_mode {s : State} {data : ℕ} (h0' : RdIs F.CROWN_MODE_MODE v0 s) : RdIs F.CROWN_MODE_MODE v0 (State.jtagWrite s data) := by
  unfold State.jtagWrite
  refine rdIs_ite ?_ ?_
  · refine State.lockPort_mode ?_
    exact h0'
  · refine rdIs_ite ?_ ?_
    · refine State.record_mode ?_
      refine State.raise_mode ?_
      refine State.wrB_rdIs ?_ ?_
      · decide
      · exact h0'
    · exact h0'

theorem execRelockCmd_mode {who : Initiator} {s : State} (h1' : RdIs F.CROWN_MODE_MODE v0 s) : ∃ u', (execRelockCmd who s) = .next u' ∧ RdIs F.CROWN_MODE_MODE v0 u' := by
  unfold execRelockCmd
  refine ⟨_, rfl, ?_⟩
  refine State.asWrite_mode ?_ ?_
  · exact h1'
  · intro s1 h2
    refine State.jtagWrite_mode ?_
    exact h2

theorem State.tap_mode {s : State} {i : TapOp} (h0' : RdIs F.CROWN_MODE_MODE v0 s) : RdIs F.CROWN_MODE_MODE v0 (State.tap s i) := by
  unfold State.tap
  extract_lets s1
  have h2 : ∀ a0 a1 a2 a3, RdIs F.CROWN_MODE_MODE v0 a3 → RdIs F.CROWN_MODE_MODE v0 (s1 a0 a1 a2 a3) := by
    intro x3 x4 x5 s6 h7
    unfold s1
    beta_reduce
    exact rdIs_upd h7
  clear_value s1
  split
  · rename_i x8
    apply h2
    exact h0'
  · rename_i x9
    refine rdIs_ite ?_ ?_
    · split
      rename_i s10 x11 s12 e13
      have h14 : RdIs F.CROWN_MODE_MODE v0 s12 := by
        refine rdIs_of_snd e13 ?_
        refine State.drawFree_mode ?_
        exact h0'
      apply h2
      exact h14
    · apply h2
      exact h0'
  · rename_i x15 x16
    refine rdIs_ite ?_ ?_
    · split
      rename_i s17 x18 s19 e20
      have h21 : RdIs F.CROWN_MODE_MODE v0 s19 := by
        refine rdIs_of_snd e20 ?_
        refine State.drawFree_mode ?_
        exact h0'
      apply h2
      exact h21
    · apply h2
      exact h0'
  · rename_i x22
    apply h2
    exact h0'
  · rename_i x23
    apply h2
    exact h0'

theorem execTapInstruction_mode {i : TapOp} {s : State} (h1' : RdIs F.CROWN_MODE_MODE v0 s) : ∃ u', (execTapInstruction i s) = .next u' ∧ RdIs F.CROWN_MODE_MODE v0 u' := by
  unfold execTapInstruction
  refine ⟨_, rfl, ?_⟩
  refine State.tap_mode ?_
  exact h1'

theorem execTmxSelect_mode {who : Initiator} {k : Fin 4} {sel : Byte} {s : State} (h3' : RdIs F.CROWN_MODE_MODE v0 s) : ∃ u', (execTmxSelect who k sel s) = .next u' ∧ RdIs F.CROWN_MODE_MODE v0 u' := by
  unfold execTmxSelect
  refine ⟨_, rfl, ?_⟩
  refine State.asWrite_mode ?_ ?_
  · exact h3'
  · intro s1 h2
    refine State.wr_rdIs ?_ ?_
    · (refine .inl ?_; simp only [evtStatus, pageFld, Fld.bank, F.TESTMUX_SEL_SEL]; omega)
    · exact h2

theorem execUnlockCmd_mode {who : Initiator} {key : Fin 65536} {s : State} (h2' : RdIs F.CROWN_MODE_MODE v0 s) : ∃ u', (execUnlockCmd who key s) = .next u' ∧ RdIs F.CROWN_MODE_MODE v0 u' := by
  unfold execUnlockCmd
  refine ⟨_, rfl, ?_⟩
  refine State.asWrite_mode ?_ ?_
  · exact h2'
  · intro s1 h2
    refine State.jtagWrite_mode ?_
    exact h2

theorem execUnlockExpiry_mode {s : State} (h0' : RdIs F.CROWN_MODE_MODE v0 s) : ∃ u', (execUnlockExpiry s) = .next u' ∧ RdIs F.CROWN_MODE_MODE v0 u' := by
  unfold execUnlockExpiry
  refine ⟨_, rfl, ?_⟩
  refine State.lockPort_mode ?_
  exact h0'

theorem execArmTrigger_mode {who : Initiator} {k : Fin 8} {s : State} (h2' : RdIs F.CROWN_MODE_MODE v0 s) : ∃ u', (execArmTrigger who k s) = .next u' ∧ RdIs F.CROWN_MODE_MODE v0 u' := by
  unfold execArmTrigger
  refine ⟨_, rfl, ?_⟩
  refine State.asWrite_mode ?_ ?_
  · exact h2'
  · intro s1 h2
    refine State.trigCtl_mode ?_
    exact h2

theorem execCaptureEdge_mode {k : Fin 8} {rise : Bool} {held : ℕ} {dev : ℤ} {s : State} (h4' : RdIs F.CROWN_MODE_MODE v0 s) : ∃ u', (execCaptureEdge k rise held dev s) = .next u' ∧ RdIs F.CROWN_MODE_MODE v0 u' := by
  unfold execCaptureEdge
  extract_lets s1
  rename_i x2
  clear_value s1 x2
  refine rdIs_out_ite ?_ ?_
  · refine ⟨_, rfl, ?_⟩
    refine State.captureEdge_mode ?_
    exact h4'
  · refine ⟨_, rfl, ?_⟩
    exact h4'

theorem execDisarmTrigger_mode {who : Initiator} {k : Fin 8} {s : State} (h2' : RdIs F.CROWN_MODE_MODE v0 s) : ∃ u', (execDisarmTrigger who k s) = .next u' ∧ RdIs F.CROWN_MODE_MODE v0 u' := by
  unfold execDisarmTrigger
  refine ⟨_, rfl, ?_⟩
  refine State.asWrite_mode ?_ ?_
  · exact h2'
  · intro s1 h2
    refine State.trigCtl_mode ?_
    exact h2

theorem execLeadingEdge_mode {k : Fin 8} {s : State} (h1' : RdIs F.CROWN_MODE_MODE v0 s) : ∃ u', (execLeadingEdge k s) = .next u' ∧ RdIs F.CROWN_MODE_MODE v0 u' := by
  unfold execLeadingEdge
  extract_lets s1
  clear_value s1
  refine rdIs_out_ite ?_ ?_
  · refine ⟨_, rfl, ?_⟩
    refine State.leadingEdge_mode ?_
    exact h1'
  · refine ⟨_, rfl, ?_⟩
    exact h1'

theorem execNsRead_mode {who : Initiator} {n : Fin 4} {s : State} (h2' : RdIs F.CROWN_MODE_MODE v0 s) : ∃ u', (execNsRead who n s) = .next u' ∧ RdIs F.CROWN_MODE_MODE v0 u' := by
  unfold execNsRead
  refine ⟨_, rfl, ?_⟩
  refine State.asRead_mode ?_ ?_
  · exact h2'
  · intro s1 h2
    refine State.nsRead_mode ?_
    exact h2

theorem State.popStamp_mode {s : State} {k : ℕ} (h0' : RdIs F.CROWN_MODE_MODE v0 s) : RdIs F.CROWN_MODE_MODE v0 (State.popStamp s k) := by
  unfold State.popStamp
  refine State.setStamps_mode ?_
  exact h0'

theorem execPopCapture_mode {who : Initiator} {k : Fin 8} {s : State} (h2' : RdIs F.CROWN_MODE_MODE v0 s) : ∃ u', (execPopCapture who k s) = .next u' ∧ RdIs F.CROWN_MODE_MODE v0 u' := by
  unfold execPopCapture
  refine ⟨_, rfl, ?_⟩
  refine State.asWrite_mode ?_ ?_
  · exact h2'
  · intro s1 h2
    refine State.popStamp_mode ?_
    exact h2

theorem execSetCmd_mode {who : Initiator} {n : Fin 4} {s : State} (h2' : RdIs F.CROWN_MODE_MODE v0 s) : ∃ u', (execSetCmd who n s) = .next u' ∧ RdIs F.CROWN_MODE_MODE v0 u' := by
  unfold execSetCmd
  refine ⟨_, rfl, ?_⟩
  refine State.asWrite_mode ?_ ?_
  · exact h2'
  · intro s1 h2
    refine State.timeCmd_mode ?_
    exact h2

theorem execShiftCmd_mode {who : Initiator} {n : Fin 4} {s : State} (h2' : RdIs F.CROWN_MODE_MODE v0 s) : ∃ u', (execShiftCmd who n s) = .next u' ∧ RdIs F.CROWN_MODE_MODE v0 u' := by
  unfold execShiftCmd
  refine ⟨_, rfl, ?_⟩
  refine State.asWrite_mode ?_ ?_
  · exact h2'
  · intro s1 h2
    refine State.timeCmd_mode ?_
    exact h2

theorem execSnapCmd_mode {who : Initiator} {s : State} (h1' : RdIs F.CROWN_MODE_MODE v0 s) : ∃ u', (execSnapCmd who s) = .next u' ∧ RdIs F.CROWN_MODE_MODE v0 u' := by
  unfold execSnapCmd
  refine ⟨_, rfl, ?_⟩
  refine State.asWrite_mode ?_ ?_
  · exact h1'
  · intro s1 h2
    refine State.snap_mode ?_
    exact h2

theorem State.writeRate2_mode {s : State} {data : ℕ} (h0' : RdIs F.CROWN_MODE_MODE v0 s) : RdIs F.CROWN_MODE_MODE v0 (State.writeRate2 s data) := by
  unfold State.writeRate2
  refine State.wrI_rdIs ?_ ?_
  · decide
  · exact h0'

theorem execTb2RateWrite_mode {who : Initiator} {rate : BitVec 32} {s : State} (h2' : RdIs F.CROWN_MODE_MODE v0 s) : ∃ u', (execTb2RateWrite who rate s) = .next u' ∧ RdIs F.CROWN_MODE_MODE v0 u' := by
  unfold execTb2RateWrite
  refine ⟨_, rfl, ?_⟩
  refine State.asWrite_mode ?_ ?_
  · exact h2'
  · intro s1 h2
    refine State.writeRate2_mode ?_
    exact h2

theorem execTrailingEdge_mode {k : Fin 8} {s : State} (h1' : RdIs F.CROWN_MODE_MODE v0 s) : ∃ u', (execTrailingEdge k s) = .next u' ∧ RdIs F.CROWN_MODE_MODE v0 u' := by
  unfold execTrailingEdge
  extract_lets s1
  clear_value s1
  refine rdIs_out_ite ?_ ?_
  · refine rdIs_out_ite ?_ ?_
    · refine ⟨_, rfl, ?_⟩
      refine State.trigDone_mode ?_
      exact h1'
    · refine ⟨_, rfl, ?_⟩
      refine State.setTrig_mode ?_
      exact h1'
  · refine ⟨_, rfl, ?_⟩
    exact h1'

theorem State.clearXstat_mode {s : State} (h0' : RdIs F.CROWN_MODE_MODE v0 s) : RdIs F.CROWN_MODE_MODE v0 (State.clearXstat s) := by
  unfold State.clearXstat
  refine State.wr_rdIs ?_ ?_
  · decide
  · refine State.wr_rdIs ?_ ?_
    · decide
    · exact h0'

theorem execXstatClear_mode {who : Initiator} {s : State} (h1' : RdIs F.CROWN_MODE_MODE v0 s) : ∃ u', (execXstatClear who s) = .next u' ∧ RdIs F.CROWN_MODE_MODE v0 u' := by
  unfold execXstatClear
  refine ⟨_, rfl, ?_⟩
  refine State.asWrite_mode ?_ ?_
  · exact h1'
  · intro s1 h2
    refine State.clearXstat_mode ?_
    exact h2

theorem execClassLStoreWrite_mode {s : State} (h0' : RdIs F.CROWN_MODE_MODE v0 s) : ∃ u', (execClassLStoreWrite s) = .next u' ∧ RdIs F.CROWN_MODE_MODE v0 u' := by
  unfold execClassLStoreWrite
  refine ⟨_, rfl, ?_⟩
  refine State.storeLregs_mode ?_
  exact h0'

theorem execConfirmWindowSave_mode {s : State} (h0' : RdIs F.CROWN_MODE_MODE v0 s) : ∃ u', (execConfirmWindowSave s) = .next u' ∧ RdIs F.CROWN_MODE_MODE v0 u' := by
  unfold execConfirmWindowSave
  refine ⟨_, rfl, ?_⟩
  refine rdIs_ite ?_ ?_
  · refine State.showWindow_mode ?_
    exact rdIs_upd h0'
  · exact h0'

theorem execConfirmation_mode {s : State} (h0' : RdIs F.CROWN_MODE_MODE v0 s) : ∃ u', (execConfirmation s) = .next u' ∧ RdIs F.CROWN_MODE_MODE v0 u' := by
  unfold execConfirmation
  refine ⟨_, rfl, ?_⟩
  refine rdIs_ite ?_ ?_
  · refine State.confirm_mode ?_
    exact h0'
  · exact h0'

theorem execJubileePrepare_mode {s : State} (h0' : RdIs F.CROWN_MODE_MODE v0 s) : ∃ u', (execJubileePrepare s) = .next u' ∧ RdIs F.CROWN_MODE_MODE v0 u' := by
  unfold execJubileePrepare
  refine ⟨_, rfl, ?_⟩
  refine rdIs_ite ?_ ?_
  · extract_lets s1
    rename_i x2
    have h3 : RdIs F.CROWN_MODE_MODE v0 s1 := by
      unfold s1
      refine State.storeAll_mode ?_
      exact h0'
    clear_value s1 x2
    exact rdIs_upd h3
  · exact h0'

theorem execKeyWrite_mode {who : Initiator} {slot : Fin 4} {s : State} (h2' : RdIs F.CROWN_MODE_MODE v0 s) : ∃ u', (execKeyWrite who slot s) = .next u' ∧ RdIs F.CROWN_MODE_MODE v0 u' := by
  unfold execKeyWrite
  refine ⟨_, rfl, ?_⟩
  refine State.asWrite_mode ?_ ?_
  · exact h2'
  · intro s1 h2
    refine State.keySel_mode ?_
    exact h2

theorem execUpdateTransferTimeout_mode {s : State} (h0' : RdIs F.CROWN_MODE_MODE v0 s) : ∃ u', (execUpdateTransferTimeout s) = .next u' ∧ RdIs F.CROWN_MODE_MODE v0 u' := by
  unfold execUpdateTransferTimeout
  refine ⟨_, rfl, ?_⟩
  refine rdIs_ite ?_ ?_
  · refine State.endTransfer_mode ?_
    exact h0'
  · exact h0'

theorem State.restartTasks_mode {s : State} {mask : ℕ} (h0' : RdIs F.CROWN_MODE_MODE v0 s) : RdIs F.CROWN_MODE_MODE v0 (State.restartTasks s mask) := by
  unfold State.restartTasks
  refine rdIs_foldl ?_ ?_
  · exact h0'
  · intro s1 x2 h3
    refine rdIs_ite ?_ ?_
    · refine State.clearCond_mode ?_
      refine State.setTask_mode ?_
      refine State.wrBit_rdIs ?_ ?_
      · decide
      · exact h3
    · exact h3

theorem State.readEffect_mode {s : State} {a : ℕ} (h0' : RdIs F.CROWN_MODE_MODE v0 s) : RdIs F.CROWN_MODE_MODE v0 (State.readEffect s a) := by
  unfold State.readEffect
  split
  · rename_i x1 x2 x3 e4
    refine State.nsRead_mode ?_
    exact h0'
  · rename_i x5 x6 x7 e8 e9
    refine State.readCounterLo_mode ?_
    exact h0'
  · rename_i x10 x11 e12 e13
    refine rdIs_ite ?_ ?_
    · refine State.wr_rdIs ?_ ?_
      · decide
      · exact h0'
    · exact h0'

theorem State.readReg_mode {s : State} {who : Initiator} {a : ℕ} (h0' : RdIs F.CROWN_MODE_MODE v0 s) : RdIs F.CROWN_MODE_MODE v0 (State.readReg s who a) := by
  unfold State.readReg
  extract_lets s1
  rename_i s2 s3 s4
  have h5 : RdIs F.CROWN_MODE_MODE v0 s2 := by
    unfold s2
    refine State.refuseAccess_mode ?_
    exact h0'
  have h6 : RdIs F.CROWN_MODE_MODE v0 s3 := by
    unfold s3
    refine State.result_mode ?_
    exact h0'
  have h7 : RdIs F.CROWN_MODE_MODE v0 s4 := by
    unfold s4
    refine State.readEffect_mode ?_
    exact h6
  clear_value s1 s2 s3 s4
  refine rdIs_ite ?_ ?_
  · exact rdIs_upd h5
  · exact rdIs_upd h7

theorem execArpRequest_mode {p : Fin 2} {ip : BitVec 32} {target : BitVec 32} {s : State} (h3' : RdIs F.CROWN_MODE_MODE v0 s) : ∃ u', (execArpRequest p ip target s) = .next u' ∧ RdIs F.CROWN_MODE_MODE v0 u' := by
  unfold execArpRequest
  refine ⟨_, rfl, ?_⟩
  refine rdIs_ite ?_ ?_
  · refine State.send_mode ?_
    exact h3'
  · exact h3'

theorem State.hostBegin_mode {s : State} (h0' : RdIs F.CROWN_MODE_MODE v0 s) : RdIs F.CROWN_MODE_MODE v0 (State.hostBegin s) := by
  unfold State.hostBegin
  exact rdIs_upd h0'

theorem State.hostEnd_mode {s : State} {addr : ℕ} {code : ℕ} (h0' : RdIs F.CROWN_MODE_MODE v0 s) : RdIs F.CROWN_MODE_MODE v0 (State.hostEnd s addr code) := by
  unfold State.hostEnd
  refine State.result_mode ?_
  exact h0'

theorem State.hostAuthFail_mode {s : State} {addr : ℕ} (h0' : RdIs F.CROWN_MODE_MODE v0 s) : RdIs F.CROWN_MODE_MODE v0 (State.hostAuthFail s addr) := by
  unfold State.hostAuthFail
  refine State.authFailed_mode ?_
  refine State.hostEnd_mode ?_
  exact h0'

theorem State.hostSessionEnd_mode {s : State} (h0' : RdIs F.CROWN_MODE_MODE v0 s) : RdIs F.CROWN_MODE_MODE v0 (State.hostSessionEnd s) := by
  unfold State.hostSessionEnd
  extract_lets s1
  rename_i x2
  have h3 : RdIs F.CROWN_MODE_MODE v0 s1 := by
    unfold s1
    refine State.wr_rdIs ?_ ?_
    · decide
    · refine State.wrB_rdIs ?_ ?_
      · decide
      · exact h0'
  clear_value s1 x2
  exact rdIs_upd h3

theorem execHostClose_mode {addr : BitVec 24} {bytes : List Byte} {s : State} (h2' : RdIs F.CROWN_MODE_MODE v0 s) : ∃ u', (execHostClose addr bytes s) = .next u' ∧ RdIs F.CROWN_MODE_MODE v0 u' := by
  unfold execHostClose
  extract_lets s1 s2
  have h3 : RdIs F.CROWN_MODE_MODE v0 s1 := by
    unfold s1
    refine State.hostBegin_mode ?_
    exact h2'
  clear_value s1 s2
  refine rdIs_out_ite ?_ ?_
  · refine ⟨_, rfl, ?_⟩
    refine State.hostEnd_mode ?_
    exact h3
  · refine rdIs_out_ite ?_ ?_
    · refine ⟨_, rfl, ?_⟩
      refine State.hostEnd_mode ?_
      exact h3
    · refine rdIs_out_ite ?_ ?_
      · refine ⟨_, rfl, ?_⟩
        refine State.hostEnd_mode ?_
        exact h3
      · refine rdIs_out_ite ?_ ?_
        · refine ⟨_, rfl, ?_⟩
          refine State.hostAuthFail_mode ?_
          exact h3
        · refine ⟨_, rfl, ?_⟩
          refine State.hostEnd_mode ?_
          refine State.hostSessionEnd_mode ?_
          exact h3

theorem State.freshNonce_mode {s : State} (h0' : RdIs F.CROWN_MODE_MODE v0 s) : RdIs F.CROWN_MODE_MODE v0 (State.freshNonce s).2 := by
  unfold State.freshNonce
  dsimp only
  exact rdIs_upd h0'

theorem execHostNonce_mode {x : NonceRead} {s : State} (h1' : RdIs F.CROWN_MODE_MODE v0 s) : ∃ u', (execHostNonce x s) = .next u' ∧ RdIs F.CROWN_MODE_MODE v0 u' := by
  unfold execHostNonce
  extract_lets s1
  have h2 : RdIs F.CROWN_MODE_MODE v0 s1 := by
    unfold s1
    refine State.hostBegin_mode ?_
    exact h1'
  clear_value s1
  refine rdIs_out_ite ?_ ?_
  · refine ⟨_, rfl, ?_⟩
    refine State.hostEnd_mode ?_
    exact h2
  · refine rdIs_out_ite ?_ ?_
    · refine ⟨_, rfl, ?_⟩
      refine State.hostEnd_mode ?_
      exact h2
    · split
      rename_i s3 x4 s5 e6
      have h7 : RdIs F.CROWN_MODE_MODE v0 s5 := by
        refine rdIs_of_snd e6 ?_
        refine State.freshNonce_mode ?_
        exact h2
      refine ⟨_, rfl, ?_⟩
      extract_lets s8
      rename_i x9
      have h10 : RdIs F.CROWN_MODE_MODE v0 s8 := by
        unfold s8
        refine State.hostEnd_mode ?_
        exact h7
      clear_value s8 x9
      exact rdIs_upd h10

theorem execHostOpen_mode {addr : BitVec 24} {bytes : List Byte} {s : State} (h2' : RdIs F.CROWN_MODE_MODE v0 s) : ∃ u', (execHostOpen addr bytes s) = .next u' ∧ RdIs F.CROWN_MODE_MODE v0 u' := by
  unfold execHostOpen
  extract_lets s1 s2
  rename_i x3 x4 x5 x6 s7 x8
  have h9 : RdIs F.CROWN_MODE_MODE v0 s1 := by
    unfold s1
    refine State.hostBegin_mode ?_
    exact h2'
  have h10 : RdIs F.CROWN_MODE_MODE v0 s7 := by
    unfold s7
    exact rdIs_upd h9
  clear_value s1 s2 x3 x4 x5 x6 s7 x8
  refine rdIs_out_ite ?_ ?_
  · refine ⟨_, rfl, ?_⟩
    refine State.hostEnd_mode ?_
    exact h9
  · refine rdIs_out_ite ?_ ?_
    · refine ⟨_, rfl, ?_⟩
      refine State.hostEnd_mode ?_
      exact h9
    · split
      · rename_i x11
        refine ⟨_, rfl, ?_⟩
        refine State.hostAuthFail_mode ?_
        exact h10
      · rename_i x12 x13
        refine rdIs_out_ite ?_ ?_
        · extract_lets s14
          have h15 : RdIs F.CROWN_MODE_MODE v0 s14 := by
            unfold s14
            exact rdIs_upd h10
          clear_value s14
          refine ⟨_, rfl, ?_⟩
          refine State.hostEnd_mode ?_
          refine State.wr_rdIs ?_ ?_
          · decide
          · refine State.wrB_rdIs ?_ ?_
            · decide
            · exact h15
        · refine ⟨_, rfl, ?_⟩
          refine State.hostAuthFail_mode ?_
          exact h10

theorem execHostSessionTimeout_mode {s : State} (h0' : RdIs F.CROWN_MODE_MODE v0 s) : ∃ u', (execHostSessionTimeout s) = .next u' ∧ RdIs F.CROWN_MODE_MODE v0 u' := by
  unfold execHostSessionTimeout
  refine ⟨_, rfl, ?_⟩
  refine rdIs_ite ?_ ?_
  · refine State.hostSessionEnd_mode ?_
    exact h0'
  · exact h0'

theorem execIcmpEcho_mode {p : Fin 2} {ip : BitVec 32} {bytes : List Byte} {s : State} (h3' : RdIs F.CROWN_MODE_MODE v0 s) : ∃ u', (execIcmpEcho p ip bytes s) = .next u' ∧ RdIs F.CROWN_MODE_MODE v0 u' := by
  unfold execIcmpEcho
  refine ⟨_, rfl, ?_⟩
  refine rdIs_ite ?_ ?_
  · refine State.send_mode ?_
    exact h3'
  · exact h3'

theorem execLinkUp_mode {p : Fin 2} {up : Bool} {speed : Fin 3} {full : Bool} {s : State} (h4' : RdIs F.CROWN_MODE_MODE v0 s) : ∃ u', (execLinkUp p up speed full s) = .next u' ∧ RdIs F.CROWN_MODE_MODE v0 u' := by
  unfold execLinkUp
  refine rdIs_out_ite ?_ ?_
  · refine ⟨_, rfl, ?_⟩
    refine State.wrB_rdIs ?_ ?_
    · (refine .inl ?_; simp only [evtStatus, pageFld, Fld.bank, F.ETH_LINK_FULL]; omega)
    · refine State.wr_rdIs ?_ ?_
      · (refine .inl ?_; simp only [evtStatus, pageFld, Fld.bank, F.ETH_LINK_SPEED]; omega)
      · refine State.wrB_rdIs ?_ ?_
        · (refine .inl ?_; simp only [evtStatus, pageFld, Fld.bank, F.ETH_LINK_UP]; omega)
        · exact h4'
  · refine ⟨_, rfl, ?_⟩
    exact h4'

theorem State.setRk_mode {s : State} {i : ℕ} {x : RkSession} (h0' : RdIs F.CROWN_MODE_MODE v0 s) : RdIs F.CROWN_MODE_MODE v0 (State.setRk s i x) := by
  unfold State.setRk
  exact rdIs_upd h0'

theorem State.rkSend_mode {s : State} {i : ℕ} {typ : ℕ} {req : ℕ} {payload : List Byte} (h0' : RdIs F.CROWN_MODE_MODE v0 s) : RdIs F.CROWN_MODE_MODE v0 (State.rkSend s i typ req payload) := by
  unfold State.rkSend
  extract_lets s1 s2 s3
  clear_value s1 s2 s3
  refine State.send_mode ?_
  refine State.setRk_mode ?_
  exact h0'

theorem execNotifyRetry_mode {i : Fin 8} {s : State} (h1' : RdIs F.CROWN_MODE_MODE v0 s) : ∃ u', (execNotifyRetry i s) = .next u' ∧ RdIs F.CROWN_MODE_MODE v0 u' := by
  unfold execNotifyRetry
  extract_lets s1
  clear_value s1
  split
  · rename_i x2 e3
    refine ⟨_, rfl, ?_⟩
    exact h1'
  · rename_i x4 x5 e6
    refine rdIs_out_ite ?_ ?_
    · refine ⟨_, rfl, ?_⟩
      refine State.rkSend_mode ?_
      refine State.setRk_mode ?_
      exact h1'
    · refine ⟨_, rfl, ?_⟩
      refine State.wrB_rdIs ?_ ?_
      · (refine .inl ?_; simp only [evtStatus, pageFld, Fld.bank, F.ETH_RK_STAT_NOTIFY_LOST, RkSession.eth]; omega)
      · refine State.setRk_mode ?_
        exact h1'

theorem execRalkiulChallengeLapse_mode {i : Fin 8} {s : State} (h1' : RdIs F.CROWN_MODE_MODE v0 s) : ∃ u', (execRalkiulChallengeLapse i s) = .next u' ∧ RdIs F.CROWN_MODE_MODE v0 u' := by
  unfold execRalkiulChallengeLapse
  refine ⟨_, rfl, ?_⟩
  refine rdIs_ite ?_ ?_
  · refine State.setRk_mode ?_
    exact h1'
  · exact h1'

theorem State.rkDrop_mode {s : State} {p : ℕ} (h0' : RdIs F.CROWN_MODE_MODE v0 s) : RdIs F.CROWN_MODE_MODE v0 (State.rkDrop s p) := by
  unfold State.rkDrop
  refine State.bump_rdIs ?_ ?_
  · (refine .inl ?_; simp only [evtStatus, pageFld, Fld.bank, F.ETH_RK_STAT_DROPPED]; omega)
  · exact h0'

theorem State.rkReceive_mode {s : State} {p : ℕ} {typ : ℕ} {dst : ℕ} {b : List Byte} {k : State → State} (h0' : RdIs F.CROWN_MODE_MODE v0 s) (h5' : ∀ a0, RdIs F.CROWN_MODE_MODE v0 a0 → RdIs F.CROWN_MODE_MODE v0 (k a0)) : RdIs F.CROWN_MODE_MODE v0 (State.rkReceive s p typ dst b k) := by
  unfold State.rkReceive
  refine rdIs_ite ?_ ?_
  · exact h0'
  · refine rdIs_ite ?_ ?_
    · refine State.rkDrop_mode ?_
      exact h0'
    · refine rdIs_ite ?_ ?_
      · refine rdIs_ite ?_ ?_
        · exact h0'
        · refine State.rkDrop_mode ?_
          exact h0'
      · apply h5'
        exact h0'

theorem State.rkInSession_mode {s : State} {p : ℕ} {typ : ℕ} {ip : ℕ} {port : ℕ} {dst : ℕ} {b : List Byte} {k : Fin 8 → State → State} (h0' : RdIs F.CROWN_MODE_MODE v0 s) (h7' : ∀ a0 a1, RdIs F.CROWN_MODE_MODE v0 a1 → RdIs F.CROWN_MODE_MODE v0 (k a0 a1)) : RdIs F.CROWN_MODE_MODE v0 (State.rkInSession s p typ ip port dst b k) := by
  unfold State.rkInSession
  refine State.rkReceive_mode ?_ ?_
  · exact h0'
  · intro s1 h2
    extract_lets s3 s4
    clear_value s3 s4
    split
    · rename_i e5
      refine rdIs_ite ?_ ?_
      · refine State.rkDrop_mode ?_
        exact h2
      · refine rdIs_ite ?_ ?_
        · exact h2
        · apply h7'
          refine State.setRk_mode ?_
          exact h2
    · rename_i e6
      refine State.rkDrop_mode ?_
      exact h2

theorem State.showRk_mode {s : State} (h0' : RdIs F.CROWN_MODE_MODE v0 s) : RdIs F.CROWN_MODE_MODE v0 (State.showRk s) := by
  unfold State.showRk
  extract_lets s1
  clear_value s1
  refine State.wr_rdIs ?_ ?_
  · decide
  · refine State.wr_rdIs ?_ ?_
    · decide
    · exact h0'

theorem State.rkClose_mode {s : State} {i : ℕ} (h0' : RdIs F.CROWN_MODE_MODE v0 s) : RdIs F.CROWN_MODE_MODE v0 (State.rkClose s i) := by
  unfold State.rkClose
  refine State.ownerGone_mode ?_
  refine State.showRk_mode ?_
  refine State.setRk_mode ?_
  exact h0'

theorem execRalkiulClose_mode {p : Fin 2} {ip : BitVec 32} {udp : UdpPorts} {b : List Byte} {s : State} (h4' : RdIs F.CROWN_MODE_MODE v0 s) : ∃ u', (execRalkiulClose p ip udp b s) = .next u' ∧ RdIs F.CROWN_MODE_MODE v0 u' := by
  unfold execRalkiulClose
  refine ⟨_, rfl, ?_⟩
  refine State.rkInSession_mode ?_ ?_
  · exact h4'
  · intro x1 s2 h3
    refine State.rkClose_mode ?_
    exact h3

theorem execRalkiulKeepalive_mode {p : Fin 2} {ip : BitVec 32} {udp : UdpPorts} {b : List Byte} {s : State} (h4' : RdIs F.CROWN_MODE_MODE v0 s) : ∃ u', (execRalkiulKeepalive p ip udp b s) = .next u' ∧ RdIs F.CROWN_MODE_MODE v0 u' := by
  unfold execRalkiulKeepalive
  refine ⟨_, rfl, ?_⟩
  refine State.rkInSession_mode ?_ ?_
  · exact h4'
  · intro x1 s2 h3
    exact h3

theorem execRalkiulNotifyAck_mode {p : Fin 2} {ip : BitVec 32} {udp : UdpPorts} {b : List Byte} {s : State} (h4' : RdIs F.CROWN_MODE_MODE v0 s) : ∃ u', (execRalkiulNotifyAck p ip udp b s) = .next u' ∧ RdIs F.CROWN_MODE_MODE v0 u' := by
  unfold execRalkiulNotifyAck
  refine ⟨_, rfl, ?_⟩
  refine State.rkInSession_mode ?_ ?_
  · exact h4'
  · intro x1 s2 h3
    refine State.setRk_mode ?_
    exact h3

theorem execRalkiulOpen_mode {p : Fin 2} {ip : BitVec 32} {udp : UdpPorts} {b : List Byte} {s : State} (h4' : RdIs F.CROWN_MODE_MODE v0 s) : ∃ u', (execRalkiulOpen p ip udp b s) = .next u' ∧ RdIs F.CROWN_MODE_MODE v0 u' := by
  unfold execRalkiulOpen
  refine ⟨_, rfl, ?_⟩
  refine State.rkReceive_mode ?_ ?_
  · exact h4'
  · intro s1 h2
    extract_lets s3
    have h4 : ∀ a0 a1, RdIs F.CROWN_MODE_MODE v0 a1 → RdIs F.CROWN_MODE_MODE v0 (s3 a0 a1) := by
      intro x5 s6 h7
      unfold s3
      beta_reduce
      refine State.send_mode ?_
      exact h7
    clear_value s3
    refine rdIs_ite ?_ ?_
    · refine State.rkDrop_mode ?_
      exact h2
    · refine rdIs_ite ?_ ?_
      · apply h4
        exact h2
      · split
        · rename_i x8 e9
          apply h4
          exact h2
        · rename_i x10 x11 e12
          split
          rename_i s13 x14 s15 e16
          have h17 : RdIs F.CROWN_MODE_MODE v0 s15 := by
            refine rdIs_of_snd e16 ?_
            refine State.freshNonce_mode ?_
            exact h2
          refine State.rkSend_mode ?_
          refine State.setRk_mode ?_
          exact h17

theorem execRalkiulProof_mode {p : Fin 2} {ip : BitVec 32} {udp : UdpPorts} {b : List Byte} {s : State} (h4' : RdIs F.CROWN_MODE_MODE v0 s) : ∃ u', (execRalkiulProof p ip udp b s) = .next u' ∧ RdIs F.CROWN_MODE_MODE v0 u' := by
  unfold execRalkiulProof
  refine ⟨_, rfl, ?_⟩
  refine State.rkReceive_mode ?_ ?_
  · exact h4'
  · intro s1 h2
    extract_lets s3 s4 s5
    rename_i x6
    clear_value s3 s4 s5 x6
    refine rdIs_ite ?_ ?_
    · refine State.rkDrop_mode ?_
      exact h2
    · refine rdIs_ite ?_ ?_
      · refine State.rkDrop_mode ?_
        exact h2
      · refine State.showRk_mode ?_
        refine State.rkSend_mode ?_
        refine State.setRk_mode ?_
        exact h2

theorem execRalkiulSessionTimeout_mode {i : Fin 8} {s : State} (h1' : RdIs F.CROWN_MODE_MODE v0 s) : ∃ u', (execRalkiulSessionTimeout i s) = .next u' ∧ RdIs F.CROWN_MODE_MODE v0 u' := by
  unfold execRalkiulSessionTimeout
  refine ⟨_, rfl, ?_⟩
  refine rdIs_ite ?_ ?_
  · refine State.rkClose_mode ?_
    exact h1'
  · exact h1'

theorem State.eachTaker_mode {s : State} {port : ℕ} {l2 : Bool} {ty : ℕ} {len : ℕ} {m : List Byte} {f : State → ℕ → State} (h0' : RdIs F.CROWN_MODE_MODE v0 s) (h6' : ∀ a0 a1, RdIs F.CROWN_MODE_MODE v0 a0 → RdIs F.CROWN_MODE_MODE v0 (f a0 a1)) : RdIs F.CROWN_MODE_MODE v0 (State.eachTaker s port l2 ty len m f) := by
  unfold State.eachTaker
  refine rdIs_foldl ?_ ?_
  · exact h0'
  · intro s1 x2 h3
    refine rdIs_ite ?_ ?_
    · apply h6'
      exact h3
    · exact h3

theorem execAnnounceMsg_mode {port : Fin 2} {l2 : Bool} {m : List Byte} {s : State} (h3' : RdIs F.CROWN_MODE_MODE v0 s) : ∃ u', (execAnnounceMsg port l2 m s) = .next u' ∧ RdIs F.CROWN_MODE_MODE v0 u' := by
  unfold execAnnounceMsg
  refine ⟨_, rfl, ?_⟩
  refine State.eachTaker_mode ?_ ?_
  · exact h3'
  · intro s1 x2 h3
    refine State.announced_mode ?_
    exact h3

theorem execAnnounceReceiptTimeout_mode {i : Fin 2} {sync : Bool} {s : State} (h2' : RdIs F.CROWN_MODE_MODE v0 s) : ∃ u', (execAnnounceReceiptTimeout i sync s) = .next u' ∧ RdIs F.CROWN_MODE_MODE v0 u' := by
  unfold execAnnounceReceiptTimeout
  refine rdIs_out_ite ?_ ?_
  · refine ⟨_, rfl, ?_⟩
    exact h2'
  · extract_lets s1
    rename_i x2
    have h3 : RdIs F.CROWN_MODE_MODE v0 s1 := by
      unfold s1
      refine State.holdover_mode ?_
      exact h2'
    clear_value s1 x2
    refine rdIs_out_ite ?_ ?_
    · refine ⟨_, rfl, ?_⟩
      exact h3
    · refine ⟨_, rfl, ?_⟩
      refine State.wr_rdIs ?_ ?_
      · (refine .inl ?_; simp only [evtStatus, pageFld, Fld.bank, F.PTP_STATE_PORT_STATE]; omega)
      · refine State.setPtp_mode ?_
        exact h3

theorem State.sendDelayReq_mode {s : State} {i : ℕ} (h0' : RdIs F.CROWN_MODE_MODE v0 s) : RdIs F.CROWN_MODE_MODE v0 (State.sendDelayReq s i) := by
  unfold State.sendDelayReq
  extract_lets s1 s2 s3
  rename_i x4
  clear_value s1 s2 s3 x4
  refine rdIs_ite ?_ ?_
  · exact h0'
  · refine State.send_mode ?_
    refine State.setPtp_mode ?_
    exact h0'

theorem execDelayReqInterval_mode {i : Fin 2} {s : State} (h1' : RdIs F.CROWN_MODE_MODE v0 s) : ∃ u', (execDelayReqInterval i s) = .next u' ∧ RdIs F.CROWN_MODE_MODE v0 u' := by
  unfold execDelayReqInterval
  refine ⟨_, rfl, ?_⟩
  refine State.sendDelayReq_mode ?_
  exact h1'

theorem State.ptpDelayResp_mode {s : State} {port : ℕ} {m : List Byte} {i : ℕ} (h0' : RdIs F.CROWN_MODE_MODE v0 s) : RdIs F.CROWN_MODE_MODE v0 (State.ptpDelayResp s port m i) := by
  unfold State.ptpDelayResp
  extract_lets s1
  clear_value s1
  refine rdIs_ite ?_ ?_
  · refine State.e2eDone_mode ?_
    refine State.setPtp_mode ?_
    exact h0'
  · exact h0'

theorem execDelayResp_mode {port : Fin 2} {l2 : Bool} {m : List Byte} {s : State} (h3' : RdIs F.CROWN_MODE_MODE v0 s) : ∃ u', (execDelayResp port l2 m s) = .next u' ∧ RdIs F.CROWN_MODE_MODE v0 u' := by
  unfold execDelayResp
  refine ⟨_, rfl, ?_⟩
  refine State.eachTaker_mode ?_ ?_
  · exact h3'
  · intro s1 x2 h3
    refine State.ptpDelayResp_mode ?_
    exact h3

theorem State.ptpFollow_mode {s : State} {m : List Byte} {i : ℕ} (h0' : RdIs F.CROWN_MODE_MODE v0 s) : RdIs F.CROWN_MODE_MODE v0 (State.ptpFollow s m i) := by
  unfold State.ptpFollow
  extract_lets s1
  clear_value s1
  split
  · rename_i x2 x3 x4 x5 e6
    refine rdIs_ite ?_ ?_
    · refine State.syncDone_mode ?_
      exact h0'
    · exact h0'
  · rename_i x7 e8
    exact h0'

theorem execFollowUp_mode {port : Fin 2} {l2 : Bool} {m : List Byte} {s : State} (h3' : RdIs F.CROWN_MODE_MODE v0 s) : ∃ u', (execFollowUp port l2 m s) = .next u' ∧ RdIs F.CROWN_MODE_MODE v0 u' := by
  unfold execFollowUp
  refine ⟨_, rfl, ?_⟩
  refine State.eachTaker_mode ?_ ?_
  · exact h3'
  · intro s1 x2 h3
    refine State.ptpFollow_mode ?_
    exact h3

theorem State.ptpPdelayReq_mode {s : State} {port : ℕ} {l2 : Bool} {dev : ℤ} {m : List Byte} {i : ℕ} (h0' : RdIs F.CROWN_MODE_MODE v0 s) : RdIs F.CROWN_MODE_MODE v0 (State.ptpPdelayReq s port l2 dev m i) := by
  unfold State.ptpPdelayReq
  extract_lets s1
  rename_i x2
  clear_value s1 x2
  refine rdIs_ite ?_ ?_
  · exact h0'
  · refine State.send_mode ?_
    refine State.setPtp_mode ?_
    exact h0'

theorem execPdelayReq_mode {port : Fin 2} {l2 : Bool} {dev : ℤ} {m : List Byte} {s : State} (h4' : RdIs F.CROWN_MODE_MODE v0 s) : ∃ u', (execPdelayReq port l2 dev m s) = .next u' ∧ RdIs F.CROWN_MODE_MODE v0 u' := by
  unfold execPdelayReq
  refine ⟨_, rfl, ?_⟩
  refine State.eachTaker_mode ?_ ?_
  · exact h4'
  · intro s1 x2 h3
    refine State.ptpPdelayReq_mode ?_
    exact h3

theorem State.ptpPdelayResp_mode {s : State} {port : ℕ} {dev : ℤ} {m : List Byte} {i : ℕ} (h0' : RdIs F.CROWN_MODE_MODE v0 s) : RdIs F.CROWN_MODE_MODE v0 (State.ptpPdelayResp s port dev m i) := by
  unfold State.ptpPdelayResp
  extract_lets s1 s2
  clear_value s1 s2
  refine rdIs_ite ?_ ?_
  · exact h0'
  · refine rdIs_ite ?_ ?_
    · refine State.setPtp_mode ?_
      exact h0'
    · refine State.peerDone_mode ?_
      exact h0'

theorem execPdelayResp_mode {port : Fin 2} {l2 : Bool} {dev : ℤ} {m : List Byte} {s : State} (h4' : RdIs F.CROWN_MODE_MODE v0 s) : ∃ u', (execPdelayResp port l2 dev m s) = .next u' ∧ RdIs F.CROWN_MODE_MODE v0 u' := by
  unfold execPdelayResp
  refine ⟨_, rfl, ?_⟩
  refine State.eachTaker_mode ?_ ?_
  · exact h4'
  · intro s1 x2 h3
    refine State.ptpPdelayResp_mode ?_
    exact h3

theorem State.ptpPdelayFollow_mode {s : State} {port : ℕ} {m : List Byte} {i : ℕ} (h0' : RdIs F.CROWN_MODE_MODE v0 s) : RdIs F.CROWN_MODE_MODE v0 (State.ptpPdelayFollow s port m i) := by
  unfold State.ptpPdelayFollow
  extract_lets s1
  clear_value s1
  split
  · rename_i x2 x3 x4 x5 x6 e7
    refine rdIs_ite ?_ ?_
    · refine State.peerDone_mode ?_
      exact h0'
    · exact h0'
  · rename_i x8 e9
    exact h0'

theorem execPdelayRespFollowUp_mode {port : Fin 2} {l2 : Bool} {m : List Byte} {s : State} (h3' : RdIs F.CROWN_MODE_MODE v0 s) : ∃ u', (execPdelayRespFollowUp port l2 m s) = .next u' ∧ RdIs F.CROWN_MODE_MODE v0 u' := by
  unfold execPdelayRespFollowUp
  refine ⟨_, rfl, ?_⟩
  refine State.eachTaker_mode ?_ ?_
  · exact h3'
  · intro s1 x2 h3
    refine State.ptpPdelayFollow_mode ?_
    exact h3

theorem State.ptpSync_mode {s : State} {dev : ℤ} {m : List Byte} {i : ℕ} (h0' : RdIs F.CROWN_MODE_MODE v0 s) : RdIs F.CROWN_MODE_MODE v0 (State.ptpSync s dev m i) := by
  unfold State.ptpSync
  extract_lets s1 s2
  clear_value s1 s2
  refine rdIs_ite ?_ ?_
  · exact h0'
  · refine rdIs_ite ?_ ?_
    · refine State.setPtp_mode ?_
      exact h0'
    · refine State.syncDone_mode ?_
      exact h0'

theorem execSyncMsg_mode {port : Fin 2} {l2 : Bool} {dev : ℤ} {m : List Byte} {s : State} (h4' : RdIs F.CROWN_MODE_MODE v0 s) : ∃ u', (execSyncMsg port l2 dev m s) = .next u' ∧ RdIs F.CROWN_MODE_MODE v0 u' := by
  unfold execSyncMsg
  refine ⟨_, rfl, ?_⟩
  refine State.eachTaker_mode ?_ ?_
  · exact h4'
  · intro s1 x2 h3
    refine State.ptpSync_mode ?_
    exact h3

theorem execTimestampEntry_mode {port : Fin 2} {kind : Fin 4} {i : Fin 2} {id : BitVec 16} {dev : ℤ} {s : State} (h5' : RdIs F.CROWN_MODE_MODE v0 s) : ∃ u', (execTimestampEntry port kind i id dev s) = .next u' ∧ RdIs F.CROWN_MODE_MODE v0 u' := by
  unfold execTimestampEntry
  extract_lets s1 s2
  rename_i x3
  clear_value s1 s2 x3
  refine rdIs_out_ite ?_ ?_
  · refine ⟨_, rfl, ?_⟩
    exact h5'
  · refine ⟨_, rfl, ?_⟩
    refine State.pushStamp_mode ?_
    exact h5'

theorem execTimestampEntryStale_mode {port : Fin 2} {s : State} (h1' : RdIs F.CROWN_MODE_MODE v0 s) : ∃ u', (execTimestampEntryStale port s) = .next u' ∧ RdIs F.CROWN_MODE_MODE v0 u' := by
  unfold execTimestampEntryStale
  split
  · rename_i x1 e2
    refine ⟨_, rfl, ?_⟩
    exact h1'
  · rename_i x3 x4 x5 e6
    refine ⟨_, rfl, ?_⟩
    refine State.bump_rdIs ?_ ?_
    · (refine .inl ?_; simp only [evtStatus, pageFld, Fld.bank, F.PTP_TXQ_4_STALE]; omega)
    · refine State.setTxq_mode ?_
      exact h1'

theorem State.driveOutputs_mode {s : State} (h0' : RdIs F.CROWN_MODE_MODE v0 s) : RdIs F.CROWN_MODE_MODE v0 (State.driveOutputs s) := by
  unfold State.driveOutputs
  refine rdIs_ite ?_ ?_
  · refine State.wr_rdIs ?_ ?_
    · decide
    · exact h0'
  · exact h0'

theorem State.dropStation_mode {s : State} {n : ℕ} (h0' : RdIs F.CROWN_MODE_MODE v0 s) : RdIs F.CROWN_MODE_MODE v0 (State.dropStation s n) := by
  unfold State.dropStation
  extract_lets s1 s2 s3
  rename_i s4
  have h5 : RdIs F.CROWN_MODE_MODE v0 s3 := by
    unfold s3
    exact rdIs_upd h0'
  have h6 : RdIs F.CROWN_MODE_MODE v0 s4 := by
    unfold s4
    refine State.wr_rdIs ?_ ?_
    · (refine .inl ?_; simp only [evtStatus, pageFld, Fld.bank, F.STATION_SSTAT_AGE_MS]; omega)
    · refine State.wrB_rdIs ?_ ?_
      · (refine .inl ?_; simp only [evtStatus, pageFld, Fld.bank, F.STATION_SSTAT_UNDELIVERED]; omega)
      · refine State.wrB_rdIs ?_ ?_
        · (refine .inl ?_; simp only [evtStatus, pageFld, Fld.bank, F.STATION_SSTAT_QUAL]; omega)
        · exact h5
  clear_value s1 s2 s3 s4
  refine rdIs_ite ?_ ?_
  · refine State.raise_mode ?_
    refine State.bump_rdIs ?_ ?_
    · (refine .inl ?_; simp only [evtStatus, pageFld, Fld.bank, F.STATION_SLOST_LOSSES]; omega)
    · exact h6
  · exact h6

theorem State.setMarker_mode {s : State} {i : ℕ} {v : ℕ} (h0' : RdIs F.CROWN_MODE_MODE v0 s) : RdIs F.CROWN_MODE_MODE v0 (State.setMarker s i v) := by
  unfold State.setMarker
  refine rdIs_ite ?_ ?_
  · refine State.wr_rdIs ?_ ?_
    · (refine .inl ?_; simp only [evtStatus, pageFld, Fld.bank, F.IMAGE_M_M]; omega)
    · exact h0'
  · exact rdIs_upd h0'

theorem State.publishWrites_mode {s : State} {l : List (ℕ × ℕ × ℕ)} (h0' : RdIs F.CROWN_MODE_MODE v0 s) : RdIs F.CROWN_MODE_MODE v0 (State.publishWrites s l) := by
  unfold State.publishWrites
  refine rdIs_foldl ?_ ?_
  · exact h0'
  · intro s1 x2 h3
    extract_lets s4 s5 s6
    rename_i x7
    clear_value s6
    clear_value s4 s5 x7
    refine rdIs_ite ?_ ?_
    · exact rdIs_upd h3
    · refine State.setMarker_mode ?_
      exact h3

theorem State.renewStations_mode {s : State} {t : ℕ} (h0' : RdIs F.CROWN_MODE_MODE v0 s) : RdIs F.CROWN_MODE_MODE v0 (State.renewStations s t) := by
  unfold State.renewStations
  extract_lets s1 s2
  rename_i s3
  have h4 : RdIs F.CROWN_MODE_MODE v0 s3 := by
    unfold s3
    exact rdIs_upd h0'
  clear_value s1 s2 s3
  refine rdIs_foldl ?_ ?_
  · exact h4
  · intro s5 x6 h7
    refine rdIs_ite ?_ ?_
    · exact h7
    · refine State.dropStation_mode ?_
      exact h7

theorem State.showDelivery_mode {s : State} {n : ℕ} (h0' : RdIs F.CROWN_MODE_MODE v0 s) : RdIs F.CROWN_MODE_MODE v0 (State.showDelivery s n) := by
  unfold State.showDelivery
  extract_lets s1
  clear_value s1
  refine State.wrB_rdIs ?_ ?_
  · (refine .inl ?_; simp only [evtStatus, pageFld, Fld.bank, F.STATION_SSTAT_UNDELIVERED]; omega)
  · exact h0'

theorem State.sendStation_mode {s : State} {n : ℕ} (h0' : RdIs F.CROWN_MODE_MODE v0 s) : RdIs F.CROWN_MODE_MODE v0 (State.sendStation s n) := by
  unfold State.sendStation
  extract_lets s1 s2 s3 s4 s5 s6 s7
  rename_i s8
  have h9 : RdIs F.CROWN_MODE_MODE v0 s6 := by
    unfold s6
    exact rdIs_upd h0'
  have h10 : RdIs F.CROWN_MODE_MODE v0 s8 := by
    unfold s8
    split
    · rename_i x11 e12
      refine State.canService_mode ?_
      exact h9
    · rename_i x13 e14
      refine rdIs_ite ?_ ?_
      · refine State.send_mode ?_
        exact h9
      · exact h9
  clear_value s1 s2 s3 s4 s5 s6 s7 s8
  refine State.showDelivery_mode ?_
  exact h10

theorem State.publishScan_mode {s : State} {t : ℕ} (h0' : RdIs F.CROWN_MODE_MODE v0 s) : RdIs F.CROWN_MODE_MODE v0 (State.publishScan s t) := by
  unfold State.publishScan
  extract_lets s1 s2 s3 s4 s5 s6 s7
  have h8 : RdIs F.CROWN_MODE_MODE v0 s3 := by
    unfold s3
    refine State.setTask_mode ?_
    exact h0'
  have h9 : RdIs F.CROWN_MODE_MODE v0 s4 := by
    unfold s4
    refine State.driveOutputs_mode ?_
    refine State.publishWrites_mode ?_
    exact h8
  have h10 : RdIs F.CROWN_MODE_MODE v0 s5 := by
    unfold s5
    refine State.wr_rdIs ?_ ?_
    · (refine .inl ?_; simp only [evtStatus, pageFld, Fld.bank, F.SCAN_TDUR_LAST_US]; omega)
    · exact h9
  have h11 : RdIs F.CROWN_MODE_MODE v0 s6 := by
    unfold s6
    refine rdIs_ite ?_ ?_
    · refine State.wr_rdIs ?_ ?_
      · (refine .inl ?_; simp only [evtStatus, pageFld, Fld.bank, F.SCAN_MAXDUR_MAX_US]; omega)
      · exact h10
    · exact h10
  have h12 : RdIs F.CROWN_MODE_MODE v0 s7 := by
    unfold s7
    refine State.renewStations_mode ?_
    refine State.mirror_mode ?_
    exact h11
  clear_value s1 s2 s3 s4 s5 s6 s7
  refine rdIs_ite ?_ ?_
  · refine State.taskOff_mode ?_
    exact h12
  · refine rdIs_ite ?_ ?_
    · refine rdIs_foldl ?_ ?_
      · exact h12
      · intro s13 x14 h15
        refine State.sendStation_mode ?_
        exact h15
    · exact h12

theorem State.takeStation_mode {s : State} {n : ℕ} {f : List Byte} (h0' : RdIs F.CROWN_MODE_MODE v0 s) : RdIs F.CROWN_MODE_MODE v0 (State.takeStation s n f) := by
  unfold State.takeStation
  refine rdIs_ite ?_ ?_
  · extract_lets s1 s2 s3 s4 s5
    rename_i x6
    clear_value s1 s2 s3 s4 s5 x6
    refine State.showDelivery_mode ?_
    refine State.bump_rdIs ?_ ?_
    · (refine .inl ?_; simp only [evtStatus, pageFld, Fld.bank, F.STATION_SCNT_IN_OK]; omega)
    · exact rdIs_upd h0'
  · refine State.raise_mode ?_
    refine State.bump_rdIs ?_ ?_
    · (refine .inl ?_; simp only [evtStatus, pageFld, Fld.bank, F.STATION_SCNT_IN_ERR]; omega)
    · exact h0'

theorem execDiChange_mode {di : BitVec 16} {s : State} (h1' : RdIs F.CROWN_MODE_MODE v0 s) : ∃ u', (execDiChange di s) = .next u' ∧ RdIs F.CROWN_MODE_MODE v0 u' := by
  unfold execDiChange
  refine ⟨_, rfl, ?_⟩
  refine rdIs_ite ?_ ?_
  · exact h1'
  · refine State.raise_mode ?_
    refine State.wr_rdIs ?_ ?_
    · decide
    · exact h1'

theorem execMarkerWrite_mode {who : Initiator} {k : Fin 256} {v : BitVec 32} {s : State} (h3' : RdIs F.CROWN_MODE_MODE v0 s) : ∃ u', (execMarkerWrite who k v s) = .next u' ∧ RdIs F.CROWN_MODE_MODE v0 u' := by
  unfold execMarkerWrite
  refine ⟨_, rfl, ?_⟩
  refine State.asWrite_mode ?_ ?_
  · exact h3'
  · intro s1 h2
    refine State.wr_rdIs ?_ ?_
    · (refine .inl ?_; simp only [evtStatus, pageFld, Fld.bank, F.IMAGE_M_M]; omega)
    · exact h2

theorem execProgLive_mode {who : Initiator} {s : State} (h1' : RdIs F.CROWN_MODE_MODE v0 s) : ∃ u', (execProgLive who s) = .next u' ∧ RdIs F.CROWN_MODE_MODE v0 u' := by
  unfold execProgLive
  refine ⟨_, rfl, ?_⟩
  refine State.readReg_mode ?_
  exact h1'

theorem execRetainInterval_mode {s : State} (h0' : RdIs F.CROWN_MODE_MODE v0 s) : ∃ u', (execRetainInterval s) = .next u' ∧ RdIs F.CROWN_MODE_MODE v0 u' := by
  unfold execRetainInterval
  refine ⟨_, rfl, ?_⟩
  refine rdIs_ite ?_ ?_
  · exact h0'
  · refine State.retainSlot_mode ?_
    exact h0'

theorem execScanPublish_mode {t : Fin 4} {s : State} (h1' : RdIs F.CROWN_MODE_MODE v0 s) : ∃ u', (execScanPublish t s) = .next u' ∧ RdIs F.CROWN_MODE_MODE v0 u' := by
  unfold execScanPublish
  refine ⟨_, rfl, ?_⟩
  refine rdIs_ite ?_ ?_
  · refine State.publishScan_mode ?_
    exact h1'
  · exact h1'

theorem State.stationFrameIn_mode {s : State} {via : Via} {n : ℕ} {frame : List Byte} (h0' : RdIs F.CROWN_MODE_MODE v0 s) : RdIs F.CROWN_MODE_MODE v0 (State.stationFrameIn s via n frame) := by
  unfold State.stationFrameIn
  split
  · rename_i x1 x2 x3
    refine State.takeStation_mode ?_
    exact h0'
  · rename_i x4 x5 x6 x7 x8
    split
    rename_i s9 s10 x11 e12
    have h13 : RdIs F.CROWN_MODE_MODE v0 s10 := by
      refine rdIs_of_fst e12 ?_
      refine State.push_mode ?_
      exact h0'
    refine rdIs_ite ?_ ?_
    · refine State.takeStation_mode ?_
      exact h13
    · exact h13

theorem execStationInFrame_mode {via : Via} {frame : List Byte} {s : State} (h2' : RdIs F.CROWN_MODE_MODE v0 s) : ∃ u', (execStationInFrame via frame s) = .next u' ∧ RdIs F.CROWN_MODE_MODE v0 u' := by
  unfold execStationInFrame
  refine ⟨_, rfl, ?_⟩
  refine rdIs_ite ?_ ?_
  · exact h2'
  · split
    · rename_i x1 x2 e3
      refine State.stationFrameIn_mode ?_
      exact h2'
    · rename_i x4 e5
      exact h2'

theorem execTaskRestart_mode {who : Initiator} {mask : BitVec 4} {s : State} (h2' : RdIs F.CROWN_MODE_MODE v0 s) : ∃ u', (execTaskRestart who mask s) = .next u' ∧ RdIs F.CROWN_MODE_MODE v0 u' := by
  unfold execTaskRestart
  refine ⟨_, rfl, ?_⟩
  refine State.asWrite_mode ?_ ?_
  · exact h2'
  · intro s1 h2
    refine State.restartTasks_mode ?_
    exact h2

end Sys2Proof.Machine
end

