-- ==== Sys2Proof/Laws/Role.lean ====
section
/-!
SUPPORT. What leaves PAIR.STATUS.ROLE as it is: one lemma for each operation of a hard trip before its change of mode.
-/
set_option Elab.async false
set_option linter.unusedSimpArgs false
set_option linter.unusedVariables false
set_option linter.unusedTactic false
set_option linter.unreachableTactic false
namespace Sys2Proof.Machine
open Sys2Proof

variable {v0 : Nat}

theorem State.record_role {s : State} {sev : ℕ} {source : ℕ} {ev : Ev} {data : optParam (List ℤ) []} {same : optParam Bool false} (h0' : RdIs F.PAIR_STATUS_ROLE v0 s) : RdIs F.PAIR_STATUS_ROLE v0 (State.record s sev source ev data same) := by
  unfold State.record
  exact rdIs_upd h0'

theorem State.notify_role {s : State} {page : ℕ} {bit : ℕ} {session : optParam (Option ℕ) none} (h0' : RdIs F.PAIR_STATUS_ROLE v0 s) : RdIs F.PAIR_STATUS_ROLE v0 (State.notify s page bit session) := by
  unfold State.notify
  extract_lets s1 s2 s3
  rename_i s4
  have h5 : RdIs F.PAIR_STATUS_ROLE v0 s2 := by
    unfold s2
    refine rdIs_ite ?_ ?_
    · exact rdIs_upd h0'
    · exact h0'
  have h6 : RdIs F.PAIR_STATUS_ROLE v0 s4 := by
    unfold s4
    refine rdIs_ite ?_ ?_
    · exact rdIs_upd h5
    · exact h5
  clear_value s1 s2 s3 s4
  refine rdIs_ite ?_ ?_
  · refine State.record_role ?_
    exact h6
  · exact h6

theorem State.raise_role {s : State} {page : ℕ} {bit : ℕ} (h0' : RdIs F.PAIR_STATUS_ROLE v0 s) : RdIs F.PAIR_STATUS_ROLE v0 (State.raise s page bit) := by
  unfold State.raise
  refine rdIs_ite ?_ ?_
  · exact h0'
  · extract_lets s1
    have h2 : RdIs F.PAIR_STATUS_ROLE v0 s1 := by
      unfold s1
      refine State.wrBit_rdIs ?_ ?_
      · (refine .inl ?_; simp only [evtStatus, pageFld, Fld.bank]; omega)
      · exact h0'
    clear_value s1
    refine rdIs_ite ?_ ?_
    · refine State.notify_role ?_
      exact h2
    · exact h2

theorem State.setPhase_role {s : State} {n : ℕ} {p : Phase} (h0' : RdIs F.PAIR_STATUS_ROLE v0 s) : RdIs F.PAIR_STATUS_ROLE v0 (State.setPhase s n p) := by
  unfold State.setPhase
  exact rdIs_upd h0'

theorem State.refreshGates_role {s : State} (h0' : RdIs F.PAIR_STATUS_ROLE v0 s) : RdIs F.PAIR_STATUS_ROLE v0 (State.refreshGates s) := by
  unfold State.refreshGates
  refine State.wrB_rdIs ?_ ?_
  · decide
  · exact h0'

theorem State.dropEnables_role {s : State} (h0' : RdIs F.PAIR_STATUS_ROLE v0 s) : RdIs F.PAIR_STATUS_ROLE v0 (State.dropEnables s) := by
  unfold State.dropEnables
  extract_lets s1
  rename_i s2
  have h3 : RdIs F.PAIR_STATUS_ROLE v0 s2 := by
    unfold s2
    exact rdIs_upd h0'
  clear_value s1 s2
  refine State.refreshGates_role ?_
  refine State.wrB_rdIs ?_ ?_
  · decide
  · refine State.wrB_rdIs ?_ ?_
    · decide
    · exact h3

theorem State.gatesOff_role {s : State} (h0' : RdIs F.PAIR_STATUS_ROLE v0 s) : RdIs F.PAIR_STATUS_ROLE v0 (State.gatesOff s) := by
  unfold State.gatesOff
  extract_lets s1 s2 s3
  rename_i x4 x5
  have h6 : RdIs F.PAIR_STATUS_ROLE v0 s1 := by
    unfold s1
    refine rdIs_foldl ?_ ?_
    · exact h0'
    · intro s7 x8 h9
      extract_lets s10
      have h11 : RdIs F.PAIR_STATUS_ROLE v0 s10 := by
        unfold s10
        refine rdIs_ite ?_ ?_
        · exact h9
        · refine State.wr_rdIs ?_ ?_
          · (refine .inl ?_; simp only [evtStatus, pageFld, Fld.bank, F.PHASE_STAT_STATE]; omega)
          · exact h9
      clear_value s10
      refine State.setPhase_role ?_
      refine State.wrB_rdIs ?_ ?_
      · (refine .inl ?_; simp only [evtStatus, pageFld, Fld.bank, F.PHASE_STAT_SKIPPING]; omega)
      · exact h11
  have h12 : RdIs F.PAIR_STATUS_ROLE v0 s2 := by
    unfold s2
    refine State.wr_rdIs ?_ ?_
    · decide
    · refine State.wr_rdIs ?_ ?_
      · decide
      · exact h6
  have h13 : RdIs F.PAIR_STATUS_ROLE v0 s3 := by
    unfold s3
    refine State.wrB_rdIs ?_ ?_
    · decide
    · refine State.wr_rdIs ?_ ?_
      · decide
      · refine State.wrB_rdIs ?_ ?_
        · decide
        · exact h12
  clear_value s1 s2 s3 x4 x5
  exact rdIs_upd h13

theorem State.freezeAll_role {s : State} {b : Bool} (h0' : RdIs F.PAIR_STATUS_ROLE v0 s) : RdIs F.PAIR_STATUS_ROLE v0 (State.freezeAll s b) := by
  unfold State.freezeAll
  refine rdIs_foldl ?_ ?_
  · exact h0'
  · intro s1 x2 h3
    refine State.wrB_rdIs ?_ ?_
    · (refine .inl ?_; simp only [evtStatus, pageFld, Fld.bank, F.LOOP_ISTAT_FROZEN]; omega)
    · exact h3

theorem State.cancelApply_role {s : State} {cause : ℕ} (h0' : RdIs F.PAIR_STATUS_ROLE v0 s) : RdIs F.PAIR_STATUS_ROLE v0 (State.cancelApply s cause) := by
  unfold State.cancelApply
  extract_lets s1
  rename_i s2 s3 x4 s5 x6
  have h7 : RdIs F.PAIR_STATUS_ROLE v0 s2 := by
    unfold s2
    refine State.wr_rdIs ?_ ?_
    · decide
    · exact h0'
  have h8 : RdIs F.PAIR_STATUS_ROLE v0 s3 := by
    unfold s3
    refine State.wr_rdIs ?_ ?_
    · decide
    · refine State.wr_rdIs ?_ ?_
      · decide
      · refine State.wr_rdIs ?_ ?_
        · decide
        · exact h7
  have h9 : RdIs F.PAIR_STATUS_ROLE v0 s5 := by
    unfold s5
    refine rdIs_ite ?_ ?_
    · refine State.wr_rdIs ?_ ?_
      · decide
      · exact rdIs_upd h8
    · exact h8
  clear_value s1 s2 s3 x4 s5 x6
  refine rdIs_ite ?_ ?_
  · exact rdIs_upd h9
  · exact h0'

theorem State.endGateTest_role {s : State} {result : ℕ} {atOnce : Bool} (h0' : RdIs F.PAIR_STATUS_ROLE v0 s) : RdIs F.PAIR_STATUS_ROLE v0 (State.endGateTest s result atOnce) := by
  unfold State.endGateTest
  refine rdIs_ite ?_ ?_
  · extract_lets s1
    rename_i s2 x3
    have h4 : RdIs F.PAIR_STATUS_ROLE v0 s1 := by
      unfold s1
      refine State.raise_role ?_
      refine State.wr_rdIs ?_ ?_
      · decide
      · exact h0'
    have h5 : RdIs F.PAIR_STATUS_ROLE v0 s2 := by
      unfold s2
      refine State.dropEnables_role ?_
      refine State.wrB_rdIs ?_ ?_
      · decide
      · refine State.gatesOff_role ?_
        exact h4
    clear_value s1 s2 x3
    refine rdIs_ite ?_ ?_
    · exact rdIs_upd h5
    · exact rdIs_upd h4
  · exact h0'

theorem State.release_role {s : State} {k : ℕ} (hk : k ≤ 6) (h0' : RdIs F.PAIR_STATUS_ROLE v0 s) : RdIs F.PAIR_STATUS_ROLE v0 (State.release s k) := by
  unfold State.release
  refine rdIs_ite ?_ (rdIs_upd h0')
  refine rdIs_upd (State.wrBit_rdIs (by decide) ?_)
  unfold State.countLoaded
  refine rdIs_ite (State.raise_role (State.bump_rdIs (.inl ?_) h0')) h0'
  simp only [F.CONTACT_OPS_LOADED_OPENS, F.PAIR_STATUS_ROLE]
  omega

theorem State.cutFeed_role {s : State} (h0' : RdIs F.PAIR_STATUS_ROLE v0 s) : RdIs F.PAIR_STATUS_ROLE v0 (State.cutFeed s) := by
  unfold State.cutFeed State.releaseAll
  simp only [List.foldl]
  refine State.release_role (by decide) (State.release_role (by decide) (State.release_role (by decide) (State.release_role (by decide)
    (State.release_role (by decide) ?_))))
  exact State.wrB_rdIs (by decide) h0'

end Sys2Proof.Machine
end

