-- ==== Sys2Proof/Laws/State.lean ====
section
/-!
SUPPORT. What each plain operation leaves of each part of the state, once and for all: field updates, register writes, events, records, links and the
admission of an access.
-/
set_option Elab.async false
set_option linter.unusedSimpArgs false
set_option linter.unusedVariables false
set_option linter.unusedTactic false
set_option linter.unreachableTactic false
namespace Sys2Proof.Machine
open Sys2Proof

/-! ## Registers after an update of another part -/

@[simp] theorem State.rd_upd_staged (s : State) (f : Fld) (x) : ({ s with staged := x } : State).rd f = s.rd f := rfl
@[simp] theorem State.rd_upd_shadow (s : State) (f : Fld) (x) : ({ s with shadow := x } : State).rd f = s.rd f := rfl
@[simp] theorem State.rd_upd_pending (s : State) (f : Fld) (x) : ({ s with pending := x } : State).rd f = s.rd f := rfl
@[simp] theorem State.rd_upd_out (s : State) (f : Fld) (x) : ({ s with out := x } : State).rd f = s.rd f := rfl
@[simp] theorem State.rd_upd_free (s : State) (f : Fld) (x) : ({ s with free := x } : State).rd f = s.rd f := rfl
@[simp] theorem State.rd_upd_accErr (s : State) (f : Fld) (x) : ({ s with accErr := x } : State).rd f = s.rd f := rfl
@[simp] theorem State.rd_upd_readData (s : State) (f : Fld) (x) : ({ s with readData := x } : State).rd f = s.rd f := rfl
@[simp] theorem State.rd_upd_meas (s : State) (f : Fld) (x) : ({ s with meas := x } : State).rd f = s.rd f := rfl
@[simp] theorem State.rd_upd_tb (s : State) (f : Fld) (x) : ({ s with tb := x } : State).rd f = s.rd f := rfl
@[simp] theorem State.rd_upd_crown (s : State) (f : Fld) (x) : ({ s with crown := x } : State).rd f = s.rd f := rfl
@[simp] theorem State.rd_upd_stg (s : State) (f : Fld) (x) : ({ s with stg := x } : State).rd f = s.rd f := rfl
@[simp] theorem State.rd_upd_q91 (s : State) (f : Fld) (x) : ({ s with q91 := x } : State).rd f = s.rd f := rfl
@[simp] theorem State.rd_upd_pwm (s : State) (f : Fld) (x) : ({ s with pwm := x } : State).rd f = s.rd f := rfl
@[simp] theorem State.rd_upd_loop (s : State) (f : Fld) (x) : ({ s with loop := x } : State).rd f = s.rd f := rfl
@[simp] theorem State.rd_upd_track (s : State) (f : Fld) (x) : ({ s with track := x } : State).rd f = s.rd f := rfl
@[simp] theorem State.rd_upd_prot (s : State) (f : Fld) (x) : ({ s with prot := x } : State).rd f = s.rd f := rfl
@[simp] theorem State.rd_upd_host (s : State) (f : Fld) (x) : ({ s with host := x } : State).rd f = s.rd f := rfl
@[simp] theorem State.rd_upd_rk (s : State) (f : Fld) (x) : ({ s with rk := x } : State).rd f = s.rd f := rfl
@[simp] theorem State.rd_upd_scan (s : State) (f : Fld) (x) : ({ s with scan := x } : State).rd f = s.rd f := rfl
@[simp] theorem State.rd_upd_imp (s : State) (f : Fld) (x) : ({ s with imp := x } : State).rd f = s.rd f := rfl
@[simp] theorem State.rd_upd_est (s : State) (f : Fld) (x) : ({ s with est := x } : State).rd f = s.rd f := rfl
@[simp] theorem State.rd_upd_tmx (s : State) (f : Fld) (x) : ({ s with tmx := x } : State).rd f = s.rd f := rfl
@[simp] theorem State.rd_upd_disp (s : State) (f : Fld) (x) : ({ s with disp := x } : State).rd f = s.rd f := rfl
@[simp] theorem State.rd_upd_eng (s : State) (f : Fld) (x) : ({ s with eng := x } : State).rd f = s.rd f := rfl
@[simp] theorem State.rd_upd_ringSt (s : State) (f : Fld) (x) : ({ s with ringSt := x } : State).rd f = s.rd f := rfl
@[simp] theorem State.rd_upd_harv (s : State) (f : Fld) (x) : ({ s with harv := x } : State).rd f = s.rd f := rfl
@[simp] theorem State.rd_upd_bal (s : State) (f : Fld) (x) : ({ s with bal := x } : State).rd f = s.rd f := rfl
@[simp] theorem State.rd_upd_therm (s : State) (f : Fld) (x) : ({ s with therm := x } : State).rd f = s.rd f := rfl
@[simp] theorem State.rd_upd_tele (s : State) (f : Fld) (x) : ({ s with tele := x } : State).rd f = s.rd f := rfl
@[simp] theorem State.rd_upd_nvm (s : State) (f : Fld) (x) : ({ s with nvm := x } : State).rd f = s.rd f := rfl
@[simp] theorem State.rd_upd_time (s : State) (f : Fld) (x) : ({ s with time := x } : State).rd f = s.rd f := rfl
@[simp] theorem State.rd_upd_can (s : State) (f : Fld) (x) : ({ s with can := x } : State).rd f = s.rd f := rfl
@[simp] theorem State.rd_upd_pair (s : State) (f : Fld) (x) : ({ s with pair := x } : State).rd f = s.rd f := rfl
@[simp] theorem State.rd_upd_alm (s : State) (f : Fld) (x) : ({ s with alm := x } : State).rd f = s.rd f := rfl

/-! ## Projections of a state written out, so that no proof unfolds a record update -/

section
variable (regs : List (Nat × Word))
  (staged : List (Nat × Word))
  (shadow : List (Nat × Word))
  (pending : List Instr)
  (out : List Out)
  (free : Nat)
  (accErr : Nat)
  (readData : List Word)
  (meas : Readings)
  (tb : List (Nat × TimeBase))
  (crown : Crown)
  (stg : Staging)
  (q91 : List Sub)
  (pwm : Pwm)
  (loop : Loop)
  (track : Track)
  (prot : Prot)
  (host : HostPort)
  (rk : List (Nat × RkSession))
  (scan : Scan)
  (imp : Imped)
  (est : Est)
  (tmx : Tmx)
  (disp : Disp)
  (eng : Engines)
  (ringSt : Ring)
  (harv : Harvest)
  (bal : Bal)
  (therm : Therm)
  (tele : Tele)
  (nvm : Nvm)
  (time : Times)
  (can : Can)
  (pair : Pair)
  (alm : Alm)
@[simp] theorem State.mk_regs : (State.mk regs staged shadow pending out free accErr readData meas tb crown stg q91 pwm loop track prot host rk scan imp est tmx disp eng ringSt harv bal therm tele nvm time can pair alm).regs = regs := rfl
@[simp] theorem State.mk_staged : (State.mk regs staged shadow pending out free accErr readData meas tb crown stg q91 pwm loop track prot host rk scan imp est tmx disp eng ringSt harv bal therm tele nvm time can pair alm).staged = staged := rfl
@[simp] theorem State.mk_shadow : (State.mk regs staged shadow pending out free accErr readData meas tb crown stg q91 pwm loop track prot host rk scan imp est tmx disp eng ringSt harv bal therm tele nvm time can pair alm).shadow = shadow := rfl
@[simp] theorem State.mk_pending : (State.mk regs staged shadow pending out free accErr readData meas tb crown stg q91 pwm loop track prot host rk scan imp est tmx disp eng ringSt harv bal therm tele nvm time can pair alm).pending = pending := rfl
@[simp] theorem State.mk_out : (State.mk regs staged shadow pending out free accErr readData meas tb crown stg q91 pwm loop track prot host rk scan imp est tmx disp eng ringSt harv bal therm tele nvm time can pair alm).out = out := rfl
@[simp] theorem State.mk_free : (State.mk regs staged shadow pending out free accErr readData meas tb crown stg q91 pwm loop track prot host rk scan imp est tmx disp eng ringSt harv bal therm tele nvm time can pair alm).free = free := rfl
@[simp] theorem State.mk_accErr : (State.mk regs staged shadow pending out free accErr readData meas tb crown stg q91 pwm loop track prot host rk scan imp est tmx disp eng ringSt harv bal therm tele nvm time can pair alm).accErr = accErr := rfl
@[simp] theorem State.mk_readData : (State.mk regs staged shadow pending out free accErr readData meas tb crown stg q91 pwm loop track prot host rk scan imp est tmx disp eng ringSt harv bal therm tele nvm time can pair alm).readData = readData := rfl
@[simp] theorem State.mk_meas : (State.mk regs staged shadow pending out free accErr readData meas tb crown stg q91 pwm loop track prot host rk scan imp est tmx disp eng ringSt harv bal therm tele nvm time can pair alm).meas = meas := rfl
@[simp] theorem State.mk_tb : (State.mk regs staged shadow pending out free accErr readData meas tb crown stg q91 pwm loop track prot host rk scan imp est tmx disp eng ringSt harv bal therm tele nvm time can pair alm).tb = tb := rfl
@[simp] theorem State.mk_crown : (State.mk regs staged shadow pending out free accErr readData meas tb crown stg q91 pwm loop track prot host rk scan imp est tmx disp eng ringSt harv bal therm tele nvm time can pair alm).crown = crown := rfl
@[simp] theorem State.mk_stg : (State.mk regs staged shadow pending out free accErr readData meas tb crown stg q91 pwm loop track prot host rk scan imp est tmx disp eng ringSt harv bal therm tele nvm time can pair alm).stg = stg := rfl
@[simp] theorem State.mk_q91 : (State.mk regs staged shadow pending out free accErr readData meas tb crown stg q91 pwm loop track prot host rk scan imp est tmx disp eng ringSt harv bal therm tele nvm time can pair alm).q91 = q91 := rfl
@[simp] theorem State.mk_pwm : (State.mk regs staged shadow pending out free accErr readData meas tb crown stg q91 pwm loop track prot host rk scan imp est tmx disp eng ringSt harv bal therm tele nvm time can pair alm).pwm = pwm := rfl
@[simp] theorem State.mk_loop : (State.mk regs staged shadow pending out free accErr readData meas tb crown stg q91 pwm loop track prot host rk scan imp est tmx disp eng ringSt harv bal therm tele nvm time can pair alm).loop = loop := rfl
@[simp] theorem State.mk_track : (State.mk regs staged shadow pending out free accErr readData meas tb crown stg q91 pwm loop track prot host rk scan imp est tmx disp eng ringSt harv bal therm tele nvm time can pair alm).track = track := rfl
@[simp] theorem State.mk_prot : (State.mk regs staged shadow pending out free accErr readData meas tb crown stg q91 pwm loop track prot host rk scan imp est tmx disp eng ringSt harv bal therm tele nvm time can pair alm).prot = prot := rfl
@[simp] theorem State.mk_host : (State.mk regs staged shadow pending out free accErr readData meas tb crown stg q91 pwm loop track prot host rk scan imp est tmx disp eng ringSt harv bal therm tele nvm time can pair alm).host = host := rfl
@[simp] theorem State.mk_rk : (State.mk regs staged shadow pending out free accErr readData meas tb crown stg q91 pwm loop track prot host rk scan imp est tmx disp eng ringSt harv bal therm tele nvm time can pair alm).rk = rk := rfl
@[simp] theorem State.mk_scan : (State.mk regs staged shadow pending out free accErr readData meas tb crown stg q91 pwm loop track prot host rk scan imp est tmx disp eng ringSt harv bal therm tele nvm time can pair alm).scan = scan := rfl
@[simp] theorem State.mk_imp : (State.mk regs staged shadow pending out free accErr readData meas tb crown stg q91 pwm loop track prot host rk scan imp est tmx disp eng ringSt harv bal therm tele nvm time can pair alm).imp = imp := rfl
@[simp] theorem State.mk_est : (State.mk regs staged shadow pending out free accErr readData meas tb crown stg q91 pwm loop track prot host rk scan imp est tmx disp eng ringSt harv bal therm tele nvm time can pair alm).est = est := rfl
@[simp] theorem State.mk_tmx : (State.mk regs staged shadow pending out free accErr readData meas tb crown stg q91 pwm loop track prot host rk scan imp est tmx disp eng ringSt harv bal therm tele nvm time can pair alm).tmx = tmx := rfl
@[simp] theorem State.mk_disp : (State.mk regs staged shadow pending out free accErr readData meas tb crown stg q91 pwm loop track prot host rk scan imp est tmx disp eng ringSt harv bal therm tele nvm time can pair alm).disp = disp := rfl
@[simp] theorem State.mk_eng : (State.mk regs staged shadow pending out free accErr readData meas tb crown stg q91 pwm loop track prot host rk scan imp est tmx disp eng ringSt harv bal therm tele nvm time can pair alm).eng = eng := rfl
@[simp] theorem State.mk_ringSt : (State.mk regs staged shadow pending out free accErr readData meas tb crown stg q91 pwm loop track prot host rk scan imp est tmx disp eng ringSt harv bal therm tele nvm time can pair alm).ringSt = ringSt := rfl
@[simp] theorem State.mk_harv : (State.mk regs staged shadow pending out free accErr readData meas tb crown stg q91 pwm loop track prot host rk scan imp est tmx disp eng ringSt harv bal therm tele nvm time can pair alm).harv = harv := rfl
@[simp] theorem State.mk_bal : (State.mk regs staged shadow pending out free accErr readData meas tb crown stg q91 pwm loop track prot host rk scan imp est tmx disp eng ringSt harv bal therm tele nvm time can pair alm).bal = bal := rfl
@[simp] theorem State.mk_therm : (State.mk regs staged shadow pending out free accErr readData meas tb crown stg q91 pwm loop track prot host rk scan imp est tmx disp eng ringSt harv bal therm tele nvm time can pair alm).therm = therm := rfl
@[simp] theorem State.mk_tele : (State.mk regs staged shadow pending out free accErr readData meas tb crown stg q91 pwm loop track prot host rk scan imp est tmx disp eng ringSt harv bal therm tele nvm time can pair alm).tele = tele := rfl
@[simp] theorem State.mk_nvm : (State.mk regs staged shadow pending out free accErr readData meas tb crown stg q91 pwm loop track prot host rk scan imp est tmx disp eng ringSt harv bal therm tele nvm time can pair alm).nvm = nvm := rfl
@[simp] theorem State.mk_time : (State.mk regs staged shadow pending out free accErr readData meas tb crown stg q91 pwm loop track prot host rk scan imp est tmx disp eng ringSt harv bal therm tele nvm time can pair alm).time = time := rfl
@[simp] theorem State.mk_can : (State.mk regs staged shadow pending out free accErr readData meas tb crown stg q91 pwm loop track prot host rk scan imp est tmx disp eng ringSt harv bal therm tele nvm time can pair alm).can = can := rfl
@[simp] theorem State.mk_pair : (State.mk regs staged shadow pending out free accErr readData meas tb crown stg q91 pwm loop track prot host rk scan imp est tmx disp eng ringSt harv bal therm tele nvm time can pair alm).pair = pair := rfl
@[simp] theorem State.mk_alm : (State.mk regs staged shadow pending out free accErr readData meas tb crown stg q91 pwm loop track prot host rk scan imp est tmx disp eng ringSt harv bal therm tele nvm time can pair alm).alm = alm := rfl
end


/-- States with the same registers read the same. -/
theorem State.rd_regs {s t : State} (h : t.regs = s.regs) (f : Fld) : t.rd f = s.rd f := by simp only [State.rd, State.word, h]

/-! ## Parts after a register write -/

@[simp] theorem State.wr_staged (s : State) (f : Fld) (n : Nat) : (s.wr f n).staged = s.staged := rfl
@[simp] theorem State.wr_shadow (s : State) (f : Fld) (n : Nat) : (s.wr f n).shadow = s.shadow := rfl
@[simp] theorem State.wr_pending (s : State) (f : Fld) (n : Nat) : (s.wr f n).pending = s.pending := rfl
@[simp] theorem State.wr_out (s : State) (f : Fld) (n : Nat) : (s.wr f n).out = s.out := rfl
@[simp] theorem State.wr_free (s : State) (f : Fld) (n : Nat) : (s.wr f n).free = s.free := rfl
@[simp] theorem State.wr_accErr (s : State) (f : Fld) (n : Nat) : (s.wr f n).accErr = s.accErr := rfl
@[simp] theorem State.wr_readData (s : State) (f : Fld) (n : Nat) : (s.wr f n).readData = s.readData := rfl
@[simp] theorem State.wr_meas (s : State) (f : Fld) (n : Nat) : (s.wr f n).meas = s.meas := rfl
@[simp] theorem State.wr_tb (s : State) (f : Fld) (n : Nat) : (s.wr f n).tb = s.tb := rfl
@[simp] theorem State.wr_crown (s : State) (f : Fld) (n : Nat) : (s.wr f n).crown = s.crown := rfl
@[simp] theorem State.wr_stg (s : State) (f : Fld) (n : Nat) : (s.wr f n).stg = s.stg := rfl
@[simp] theorem State.wr_q91 (s : State) (f : Fld) (n : Nat) : (s.wr f n).q91 = s.q91 := rfl
@[simp] theorem State.wr_pwm (s : State) (f : Fld) (n : Nat) : (s.wr f n).pwm = s.pwm := rfl
@[simp] theorem State.wr_loop (s : State) (f : Fld) (n : Nat) : (s.wr f n).loop = s.loop := rfl
@[simp] theorem State.wr_track (s : State) (f : Fld) (n : Nat) : (s.wr f n).track = s.track := rfl
@[simp] theorem State.wr_prot (s : State) (f : Fld) (n : Nat) : (s.wr f n).prot = s.prot := rfl
@[simp] theorem State.wr_host (s : State) (f : Fld) (n : Nat) : (s.wr f n).host = s.host := rfl
@[simp] theorem State.wr_rk (s : State) (f : Fld) (n : Nat) : (s.wr f n).rk = s.rk := rfl
@[simp] theorem State.wr_scan (s : State) (f : Fld) (n : Nat) : (s.wr f n).scan = s.scan := rfl
@[simp] theorem State.wr_imp (s : State) (f : Fld) (n : Nat) : (s.wr f n).imp = s.imp := rfl
@[simp] theorem State.wr_est (s : State) (f : Fld) (n : Nat) : (s.wr f n).est = s.est := rfl
@[simp] theorem State.wr_tmx (s : State) (f : Fld) (n : Nat) : (s.wr f n).tmx = s.tmx := rfl
@[simp] theorem State.wr_disp (s : State) (f : Fld) (n : Nat) : (s.wr f n).disp = s.disp := rfl
@[simp] theorem State.wr_eng (s : State) (f : Fld) (n : Nat) : (s.wr f n).eng = s.eng := rfl
@[simp] theorem State.wr_ringSt (s : State) (f : Fld) (n : Nat) : (s.wr f n).ringSt = s.ringSt := rfl
@[simp] theorem State.wr_harv (s : State) (f : Fld) (n : Nat) : (s.wr f n).harv = s.harv := rfl
@[simp] theorem State.wr_bal (s : State) (f : Fld) (n : Nat) : (s.wr f n).bal = s.bal := rfl
@[simp] theorem State.wr_therm (s : State) (f : Fld) (n : Nat) : (s.wr f n).therm = s.therm := rfl
@[simp] theorem State.wr_tele (s : State) (f : Fld) (n : Nat) : (s.wr f n).tele = s.tele := rfl
@[simp] theorem State.wr_nvm (s : State) (f : Fld) (n : Nat) : (s.wr f n).nvm = s.nvm := rfl
@[simp] theorem State.wr_time (s : State) (f : Fld) (n : Nat) : (s.wr f n).time = s.time := rfl
@[simp] theorem State.wr_can (s : State) (f : Fld) (n : Nat) : (s.wr f n).can = s.can := rfl
@[simp] theorem State.wr_pair (s : State) (f : Fld) (n : Nat) : (s.wr f n).pair = s.pair := rfl
@[simp] theorem State.wr_alm (s : State) (f : Fld) (n : Nat) : (s.wr f n).alm = s.alm := rfl
@[simp] theorem State.wrB_staged (s : State) (f : Fld) (b : Bool) : (s.wrB f b).staged = s.staged := rfl
@[simp] theorem State.wrB_shadow (s : State) (f : Fld) (b : Bool) : (s.wrB f b).shadow = s.shadow := rfl
@[simp] theorem State.wrB_pending (s : State) (f : Fld) (b : Bool) : (s.wrB f b).pending = s.pending := rfl
@[simp] theorem State.wrB_out (s : State) (f : Fld) (b : Bool) : (s.wrB f b).out = s.out := rfl
@[simp] theorem State.wrB_free (s : State) (f : Fld) (b : Bool) : (s.wrB f b).free = s.free := rfl
@[simp] theorem State.wrB_accErr (s : State) (f : Fld) (b : Bool) : (s.wrB f b).accErr = s.accErr := rfl
@[simp] theorem State.wrB_readData (s : State) (f : Fld) (b : Bool) : (s.wrB f b).readData = s.readData := rfl
@[simp] theorem State.wrB_meas (s : State) (f : Fld) (b : Bool) : (s.wrB f b).meas = s.meas := rfl
@[simp] theorem State.wrB_tb (s : State) (f : Fld) (b : Bool) : (s.wrB f b).tb = s.tb := rfl
@[simp] theorem State.wrB_crown (s : State) (f : Fld) (b : Bool) : (s.wrB f b).crown = s.crown := rfl
@[simp] theorem State.wrB_stg (s : State) (f : Fld) (b : Bool) : (s.wrB f b).stg = s.stg := rfl
@[simp] theorem State.wrB_q91 (s : State) (f : Fld) (b : Bool) : (s.wrB f b).q91 = s.q91 := rfl
@[simp] theorem State.wrB_pwm (s : State) (f : Fld) (b : Bool) : (s.wrB f b).pwm = s.pwm := rfl
@[simp] theorem State.wrB_loop (s : State) (f : Fld) (b : Bool) : (s.wrB f b).loop = s.loop := rfl
@[simp] theorem State.wrB_track (s : State) (f : Fld) (b : Bool) : (s.wrB f b).track = s.track := rfl
@[simp] theorem State.wrB_prot (s : State) (f : Fld) (b : Bool) : (s.wrB f b).prot = s.prot := rfl
@[simp] theorem State.wrB_host (s : State) (f : Fld) (b : Bool) : (s.wrB f b).host = s.host := rfl
@[simp] theorem State.wrB_rk (s : State) (f : Fld) (b : Bool) : (s.wrB f b).rk = s.rk := rfl
@[simp] theorem State.wrB_scan (s : State) (f : Fld) (b : Bool) : (s.wrB f b).scan = s.scan := rfl
@[simp] theorem State.wrB_imp (s : State) (f : Fld) (b : Bool) : (s.wrB f b).imp = s.imp := rfl
@[simp] theorem State.wrB_est (s : State) (f : Fld) (b : Bool) : (s.wrB f b).est = s.est := rfl
@[simp] theorem State.wrB_tmx (s : State) (f : Fld) (b : Bool) : (s.wrB f b).tmx = s.tmx := rfl
@[simp] theorem State.wrB_disp (s : State) (f : Fld) (b : Bool) : (s.wrB f b).disp = s.disp := rfl
@[simp] theorem State.wrB_eng (s : State) (f : Fld) (b : Bool) : (s.wrB f b).eng = s.eng := rfl
@[simp] theorem State.wrB_ringSt (s : State) (f : Fld) (b : Bool) : (s.wrB f b).ringSt = s.ringSt := rfl
@[simp] theorem State.wrB_harv (s : State) (f : Fld) (b : Bool) : (s.wrB f b).harv = s.harv := rfl
@[simp] theorem State.wrB_bal (s : State) (f : Fld) (b : Bool) : (s.wrB f b).bal = s.bal := rfl
@[simp] theorem State.wrB_therm (s : State) (f : Fld) (b : Bool) : (s.wrB f b).therm = s.therm := rfl
@[simp] theorem State.wrB_tele (s : State) (f : Fld) (b : Bool) : (s.wrB f b).tele = s.tele := rfl
@[simp] theorem State.wrB_nvm (s : State) (f : Fld) (b : Bool) : (s.wrB f b).nvm = s.nvm := rfl
@[simp] theorem State.wrB_time (s : State) (f : Fld) (b : Bool) : (s.wrB f b).time = s.time := rfl
@[simp] theorem State.wrB_can (s : State) (f : Fld) (b : Bool) : (s.wrB f b).can = s.can := rfl
@[simp] theorem State.wrB_pair (s : State) (f : Fld) (b : Bool) : (s.wrB f b).pair = s.pair := rfl
@[simp] theorem State.wrB_alm (s : State) (f : Fld) (b : Bool) : (s.wrB f b).alm = s.alm := rfl
@[simp] theorem State.bump_staged (s : State) (f : Fld) (n : Nat) : (s.bump f n).staged = s.staged := rfl
@[simp] theorem State.bump_shadow (s : State) (f : Fld) (n : Nat) : (s.bump f n).shadow = s.shadow := rfl
@[simp] theorem State.bump_pending (s : State) (f : Fld) (n : Nat) : (s.bump f n).pending = s.pending := rfl
@[simp] theorem State.bump_out (s : State) (f : Fld) (n : Nat) : (s.bump f n).out = s.out := rfl
@[simp] theorem State.bump_free (s : State) (f : Fld) (n : Nat) : (s.bump f n).free = s.free := rfl
@[simp] theorem State.bump_accErr (s : State) (f : Fld) (n : Nat) : (s.bump f n).accErr = s.accErr := rfl
@[simp] theorem State.bump_readData (s : State) (f : Fld) (n : Nat) : (s.bump f n).readData = s.readData := rfl
@[simp] theorem State.bump_meas (s : State) (f : Fld) (n : Nat) : (s.bump f n).meas = s.meas := rfl
@[simp] theorem State.bump_tb (s : State) (f : Fld) (n : Nat) : (s.bump f n).tb = s.tb := rfl
@[simp] theorem State.bump_crown (s : State) (f : Fld) (n : Nat) : (s.bump f n).crown = s.crown := rfl
@[simp] theorem State.bump_stg (s : State) (f : Fld) (n : Nat) : (s.bump f n).stg = s.stg := rfl
@[simp] theorem State.bump_q91 (s : State) (f : Fld) (n : Nat) : (s.bump f n).q91 = s.q91 := rfl
@[simp] theorem State.bump_pwm (s : State) (f : Fld) (n : Nat) : (s.bump f n).pwm = s.pwm := rfl
@[simp] theorem State.bump_loop (s : State) (f : Fld) (n : Nat) : (s.bump f n).loop = s.loop := rfl
@[simp] theorem State.bump_track (s : State) (f : Fld) (n : Nat) : (s.bump f n).track = s.track := rfl
@[simp] theorem State.bump_prot (s : State) (f : Fld) (n : Nat) : (s.bump f n).prot = s.prot := rfl
@[simp] theorem State.bump_host (s : State) (f : Fld) (n : Nat) : (s.bump f n).host = s.host := rfl
@[simp] theorem State.bump_rk (s : State) (f : Fld) (n : Nat) : (s.bump f n).rk = s.rk := rfl
@[simp] theorem State.bump_scan (s : State) (f : Fld) (n : Nat) : (s.bump f n).scan = s.scan := rfl
@[simp] theorem State.bump_imp (s : State) (f : Fld) (n : Nat) : (s.bump f n).imp = s.imp := rfl
@[simp] theorem State.bump_est (s : State) (f : Fld) (n : Nat) : (s.bump f n).est = s.est := rfl
@[simp] theorem State.bump_tmx (s : State) (f : Fld) (n : Nat) : (s.bump f n).tmx = s.tmx := rfl
@[simp] theorem State.bump_disp (s : State) (f : Fld) (n : Nat) : (s.bump f n).disp = s.disp := rfl
@[simp] theorem State.bump_eng (s : State) (f : Fld) (n : Nat) : (s.bump f n).eng = s.eng := rfl
@[simp] theorem State.bump_ringSt (s : State) (f : Fld) (n : Nat) : (s.bump f n).ringSt = s.ringSt := rfl
@[simp] theorem State.bump_harv (s : State) (f : Fld) (n : Nat) : (s.bump f n).harv = s.harv := rfl
@[simp] theorem State.bump_bal (s : State) (f : Fld) (n : Nat) : (s.bump f n).bal = s.bal := rfl
@[simp] theorem State.bump_therm (s : State) (f : Fld) (n : Nat) : (s.bump f n).therm = s.therm := rfl
@[simp] theorem State.bump_tele (s : State) (f : Fld) (n : Nat) : (s.bump f n).tele = s.tele := rfl
@[simp] theorem State.bump_nvm (s : State) (f : Fld) (n : Nat) : (s.bump f n).nvm = s.nvm := rfl
@[simp] theorem State.bump_time (s : State) (f : Fld) (n : Nat) : (s.bump f n).time = s.time := rfl
@[simp] theorem State.bump_can (s : State) (f : Fld) (n : Nat) : (s.bump f n).can = s.can := rfl
@[simp] theorem State.bump_pair (s : State) (f : Fld) (n : Nat) : (s.bump f n).pair = s.pair := rfl
@[simp] theorem State.bump_alm (s : State) (f : Fld) (n : Nat) : (s.bump f n).alm = s.alm := rfl
@[simp] theorem State.setMode_staged (s : State) (m : Mode) : (s.setMode m).staged = s.staged := rfl
@[simp] theorem State.setMode_shadow (s : State) (m : Mode) : (s.setMode m).shadow = s.shadow := rfl
@[simp] theorem State.setMode_pending (s : State) (m : Mode) : (s.setMode m).pending = s.pending := rfl
@[simp] theorem State.setMode_out (s : State) (m : Mode) : (s.setMode m).out = s.out := rfl
@[simp] theorem State.setMode_free (s : State) (m : Mode) : (s.setMode m).free = s.free := rfl
@[simp] theorem State.setMode_accErr (s : State) (m : Mode) : (s.setMode m).accErr = s.accErr := rfl
@[simp] theorem State.setMode_readData (s : State) (m : Mode) : (s.setMode m).readData = s.readData := rfl
@[simp] theorem State.setMode_meas (s : State) (m : Mode) : (s.setMode m).meas = s.meas := rfl
@[simp] theorem State.setMode_tb (s : State) (m : Mode) : (s.setMode m).tb = s.tb := rfl
@[simp] theorem State.setMode_crown (s : State) (m : Mode) : (s.setMode m).crown = s.crown := rfl
@[simp] theorem State.setMode_stg (s : State) (m : Mode) : (s.setMode m).stg = s.stg := rfl
@[simp] theorem State.setMode_q91 (s : State) (m : Mode) : (s.setMode m).q91 = s.q91 := rfl
@[simp] theorem State.setMode_pwm (s : State) (m : Mode) : (s.setMode m).pwm = s.pwm := rfl
@[simp] theorem State.setMode_loop (s : State) (m : Mode) : (s.setMode m).loop = s.loop := rfl
@[simp] theorem State.setMode_track (s : State) (m : Mode) : (s.setMode m).track = s.track := rfl
@[simp] theorem State.setMode_prot (s : State) (m : Mode) : (s.setMode m).prot = s.prot := rfl
@[simp] theorem State.setMode_host (s : State) (m : Mode) : (s.setMode m).host = s.host := rfl
@[simp] theorem State.setMode_rk (s : State) (m : Mode) : (s.setMode m).rk = s.rk := rfl
@[simp] theorem State.setMode_scan (s : State) (m : Mode) : (s.setMode m).scan = s.scan := rfl
@[simp] theorem State.setMode_imp (s : State) (m : Mode) : (s.setMode m).imp = s.imp := rfl
@[simp] theorem State.setMode_est (s : State) (m : Mode) : (s.setMode m).est = s.est := rfl
@[simp] theorem State.setMode_tmx (s : State) (m : Mode) : (s.setMode m).tmx = s.tmx := rfl
@[simp] theorem State.setMode_disp (s : State) (m : Mode) : (s.setMode m).disp = s.disp := rfl
@[simp] theorem State.setMode_eng (s : State) (m : Mode) : (s.setMode m).eng = s.eng := rfl
@[simp] theorem State.setMode_ringSt (s : State) (m : Mode) : (s.setMode m).ringSt = s.ringSt := rfl
@[simp] theorem State.setMode_harv (s : State) (m : Mode) : (s.setMode m).harv = s.harv := rfl
@[simp] theorem State.setMode_bal (s : State) (m : Mode) : (s.setMode m).bal = s.bal := rfl
@[simp] theorem State.setMode_therm (s : State) (m : Mode) : (s.setMode m).therm = s.therm := rfl
@[simp] theorem State.setMode_tele (s : State) (m : Mode) : (s.setMode m).tele = s.tele := rfl
@[simp] theorem State.setMode_nvm (s : State) (m : Mode) : (s.setMode m).nvm = s.nvm := rfl
@[simp] theorem State.setMode_time (s : State) (m : Mode) : (s.setMode m).time = s.time := rfl
@[simp] theorem State.setMode_can (s : State) (m : Mode) : (s.setMode m).can = s.can := rfl
@[simp] theorem State.setMode_pair (s : State) (m : Mode) : (s.setMode m).pair = s.pair := rfl
@[simp] theorem State.setMode_alm (s : State) (m : Mode) : (s.setMode m).alm = s.alm := rfl

/-! ## Parts after a record, a message, an event -/

@[simp] theorem State.record_regs (s : State) (sev src : Nat) (ev : Ev) (l : List Int) (b : Bool) : (s.record sev src ev l b).regs = s.regs := rfl
@[simp] theorem State.record_staged (s : State) (sev src : Nat) (ev : Ev) (l : List Int) (b : Bool) : (s.record sev src ev l b).staged = s.staged := rfl
@[simp] theorem State.record_shadow (s : State) (sev src : Nat) (ev : Ev) (l : List Int) (b : Bool) : (s.record sev src ev l b).shadow = s.shadow := rfl
@[simp] theorem State.record_pending (s : State) (sev src : Nat) (ev : Ev) (l : List Int) (b : Bool) : (s.record sev src ev l b).pending = s.pending := rfl
@[simp] theorem State.record_out (s : State) (sev src : Nat) (ev : Ev) (l : List Int) (b : Bool) : (s.record sev src ev l b).out = s.out := rfl
@[simp] theorem State.record_free (s : State) (sev src : Nat) (ev : Ev) (l : List Int) (b : Bool) : (s.record sev src ev l b).free = s.free := rfl
@[simp] theorem State.record_accErr (s : State) (sev src : Nat) (ev : Ev) (l : List Int) (b : Bool) : (s.record sev src ev l b).accErr = s.accErr := rfl
@[simp] theorem State.record_readData (s : State) (sev src : Nat) (ev : Ev) (l : List Int) (b : Bool) : (s.record sev src ev l b).readData = s.readData := rfl
@[simp] theorem State.record_meas (s : State) (sev src : Nat) (ev : Ev) (l : List Int) (b : Bool) : (s.record sev src ev l b).meas = s.meas := rfl
@[simp] theorem State.record_tb (s : State) (sev src : Nat) (ev : Ev) (l : List Int) (b : Bool) : (s.record sev src ev l b).tb = s.tb := rfl
@[simp] theorem State.record_crown (s : State) (sev src : Nat) (ev : Ev) (l : List Int) (b : Bool) : (s.record sev src ev l b).crown = s.crown := rfl
@[simp] theorem State.record_stg (s : State) (sev src : Nat) (ev : Ev) (l : List Int) (b : Bool) : (s.record sev src ev l b).stg = s.stg := rfl
@[simp] theorem State.record_pwm (s : State) (sev src : Nat) (ev : Ev) (l : List Int) (b : Bool) : (s.record sev src ev l b).pwm = s.pwm := rfl
@[simp] theorem State.record_loop (s : State) (sev src : Nat) (ev : Ev) (l : List Int) (b : Bool) : (s.record sev src ev l b).loop = s.loop := rfl
@[simp] theorem State.record_track (s : State) (sev src : Nat) (ev : Ev) (l : List Int) (b : Bool) : (s.record sev src ev l b).track = s.track := rfl
@[simp] theorem State.record_prot (s : State) (sev src : Nat) (ev : Ev) (l : List Int) (b : Bool) : (s.record sev src ev l b).prot = s.prot := rfl
@[simp] theorem State.record_host (s : State) (sev src : Nat) (ev : Ev) (l : List Int) (b : Bool) : (s.record sev src ev l b).host = s.host := rfl
@[simp] theorem State.record_rk (s : State) (sev src : Nat) (ev : Ev) (l : List Int) (b : Bool) : (s.record sev src ev l b).rk = s.rk := rfl
@[simp] theorem State.record_scan (s : State) (sev src : Nat) (ev : Ev) (l : List Int) (b : Bool) : (s.record sev src ev l b).scan = s.scan := rfl
@[simp] theorem State.record_imp (s : State) (sev src : Nat) (ev : Ev) (l : List Int) (b : Bool) : (s.record sev src ev l b).imp = s.imp := rfl
@[simp] theorem State.record_est (s : State) (sev src : Nat) (ev : Ev) (l : List Int) (b : Bool) : (s.record sev src ev l b).est = s.est := rfl
@[simp] theorem State.record_tmx (s : State) (sev src : Nat) (ev : Ev) (l : List Int) (b : Bool) : (s.record sev src ev l b).tmx = s.tmx := rfl
@[simp] theorem State.record_disp (s : State) (sev src : Nat) (ev : Ev) (l : List Int) (b : Bool) : (s.record sev src ev l b).disp = s.disp := rfl
@[simp] theorem State.record_eng (s : State) (sev src : Nat) (ev : Ev) (l : List Int) (b : Bool) : (s.record sev src ev l b).eng = s.eng := rfl
@[simp] theorem State.record_ringSt (s : State) (sev src : Nat) (ev : Ev) (l : List Int) (b : Bool) : (s.record sev src ev l b).ringSt = s.ringSt := rfl
@[simp] theorem State.record_harv (s : State) (sev src : Nat) (ev : Ev) (l : List Int) (b : Bool) : (s.record sev src ev l b).harv = s.harv := rfl
@[simp] theorem State.record_bal (s : State) (sev src : Nat) (ev : Ev) (l : List Int) (b : Bool) : (s.record sev src ev l b).bal = s.bal := rfl
@[simp] theorem State.record_therm (s : State) (sev src : Nat) (ev : Ev) (l : List Int) (b : Bool) : (s.record sev src ev l b).therm = s.therm := rfl
@[simp] theorem State.record_tele (s : State) (sev src : Nat) (ev : Ev) (l : List Int) (b : Bool) : (s.record sev src ev l b).tele = s.tele := rfl
@[simp] theorem State.record_nvm (s : State) (sev src : Nat) (ev : Ev) (l : List Int) (b : Bool) : (s.record sev src ev l b).nvm = s.nvm := rfl
@[simp] theorem State.record_time (s : State) (sev src : Nat) (ev : Ev) (l : List Int) (b : Bool) : (s.record sev src ev l b).time = s.time := rfl
@[simp] theorem State.record_can (s : State) (sev src : Nat) (ev : Ev) (l : List Int) (b : Bool) : (s.record sev src ev l b).can = s.can := rfl
@[simp] theorem State.record_pair (s : State) (sev src : Nat) (ev : Ev) (l : List Int) (b : Bool) : (s.record sev src ev l b).pair = s.pair := rfl
@[simp] theorem State.record_alm (s : State) (sev src : Nat) (ev : Ev) (l : List Int) (b : Bool) : (s.record sev src ev l b).alm = s.alm := rfl
@[simp] theorem State.send_regs (s : State) (o : Out) : (s.send o).regs = s.regs := rfl
@[simp] theorem State.send_staged (s : State) (o : Out) : (s.send o).staged = s.staged := rfl
@[simp] theorem State.send_shadow (s : State) (o : Out) : (s.send o).shadow = s.shadow := rfl
@[simp] theorem State.send_pending (s : State) (o : Out) : (s.send o).pending = s.pending := rfl
@[simp] theorem State.send_free (s : State) (o : Out) : (s.send o).free = s.free := rfl
@[simp] theorem State.send_accErr (s : State) (o : Out) : (s.send o).accErr = s.accErr := rfl
@[simp] theorem State.send_readData (s : State) (o : Out) : (s.send o).readData = s.readData := rfl
@[simp] theorem State.send_meas (s : State) (o : Out) : (s.send o).meas = s.meas := rfl
@[simp] theorem State.send_tb (s : State) (o : Out) : (s.send o).tb = s.tb := rfl
@[simp] theorem State.send_crown (s : State) (o : Out) : (s.send o).crown = s.crown := rfl
@[simp] theorem State.send_stg (s : State) (o : Out) : (s.send o).stg = s.stg := rfl
@[simp] theorem State.send_q91 (s : State) (o : Out) : (s.send o).q91 = s.q91 := rfl
@[simp] theorem State.send_pwm (s : State) (o : Out) : (s.send o).pwm = s.pwm := rfl
@[simp] theorem State.send_loop (s : State) (o : Out) : (s.send o).loop = s.loop := rfl
@[simp] theorem State.send_track (s : State) (o : Out) : (s.send o).track = s.track := rfl
@[simp] theorem State.send_prot (s : State) (o : Out) : (s.send o).prot = s.prot := rfl
@[simp] theorem State.send_host (s : State) (o : Out) : (s.send o).host = s.host := rfl
@[simp] theorem State.send_rk (s : State) (o : Out) : (s.send o).rk = s.rk := rfl
@[simp] theorem State.send_scan (s : State) (o : Out) : (s.send o).scan = s.scan := rfl
@[simp] theorem State.send_imp (s : State) (o : Out) : (s.send o).imp = s.imp := rfl
@[simp] theorem State.send_est (s : State) (o : Out) : (s.send o).est = s.est := rfl
@[simp] theorem State.send_tmx (s : State) (o : Out) : (s.send o).tmx = s.tmx := rfl
@[simp] theorem State.send_disp (s : State) (o : Out) : (s.send o).disp = s.disp := rfl
@[simp] theorem State.send_eng (s : State) (o : Out) : (s.send o).eng = s.eng := rfl
@[simp] theorem State.send_ringSt (s : State) (o : Out) : (s.send o).ringSt = s.ringSt := rfl
@[simp] theorem State.send_harv (s : State) (o : Out) : (s.send o).harv = s.harv := rfl
@[simp] theorem State.send_bal (s : State) (o : Out) : (s.send o).bal = s.bal := rfl
@[simp] theorem State.send_therm (s : State) (o : Out) : (s.send o).therm = s.therm := rfl
@[simp] theorem State.send_tele (s : State) (o : Out) : (s.send o).tele = s.tele := rfl
@[simp] theorem State.send_nvm (s : State) (o : Out) : (s.send o).nvm = s.nvm := rfl
@[simp] theorem State.send_time (s : State) (o : Out) : (s.send o).time = s.time := rfl
@[simp] theorem State.send_can (s : State) (o : Out) : (s.send o).can = s.can := rfl
@[simp] theorem State.send_pair (s : State) (o : Out) : (s.send o).pair = s.pair := rfl
@[simp] theorem State.send_alm (s : State) (o : Out) : (s.send o).alm = s.alm := rfl

@[simp] theorem State.rd_record (s : State) (f : Fld) (sev src : Nat) (ev : Ev) (l : List Int) (b : Bool) : (s.record sev src ev l b).rd f = s.rd f := rfl

@[simp] theorem State.rd_send (s : State) (f : Fld) (o : Out) : (s.send o).rd f = s.rd f := rfl

@[simp] theorem State.notify_regs (s : State) (page bit : Nat) : (s.notify page bit).regs = s.regs := by
  simp only [State.notify]; split <;> split <;> split <;> rfl
@[simp] theorem State.notify_staged (s : State) (page bit : Nat) : (s.notify page bit).staged = s.staged := by
  simp only [State.notify]; split <;> split <;> split <;> rfl
@[simp] theorem State.notify_shadow (s : State) (page bit : Nat) : (s.notify page bit).shadow = s.shadow := by
  simp only [State.notify]; split <;> split <;> split <;> rfl
@[simp] theorem State.notify_pending (s : State) (page bit : Nat) : (s.notify page bit).pending = s.pending := by
  simp only [State.notify]; split <;> split <;> split <;> rfl
@[simp] theorem State.notify_out (s : State) (page bit : Nat) : (s.notify page bit).out = s.out := by
  simp only [State.notify]; split <;> split <;> split <;> rfl
@[simp] theorem State.notify_free (s : State) (page bit : Nat) : (s.notify page bit).free = s.free := by
  simp only [State.notify]; split <;> split <;> split <;> rfl
@[simp] theorem State.notify_accErr (s : State) (page bit : Nat) : (s.notify page bit).accErr = s.accErr := by
  simp only [State.notify]; split <;> split <;> split <;> rfl
@[simp] theorem State.notify_readData (s : State) (page bit : Nat) : (s.notify page bit).readData = s.readData := by
  simp only [State.notify]; split <;> split <;> split <;> rfl
@[simp] theorem State.notify_meas (s : State) (page bit : Nat) : (s.notify page bit).meas = s.meas := by
  simp only [State.notify]; split <;> split <;> split <;> rfl
@[simp] theorem State.notify_tb (s : State) (page bit : Nat) : (s.notify page bit).tb = s.tb := by
  simp only [State.notify]; split <;> split <;> split <;> rfl
@[simp] theorem State.notify_crown (s : State) (page bit : Nat) : (s.notify page bit).crown = s.crown := by
  simp only [State.notify]; split <;> split <;> split <;> rfl
@[simp] theorem State.notify_stg (s : State) (page bit : Nat) : (s.notify page bit).stg = s.stg := by
  simp only [State.notify]; split <;> split <;> split <;> rfl
@[simp] theorem State.notify_pwm (s : State) (page bit : Nat) : (s.notify page bit).pwm = s.pwm := by
  simp only [State.notify]; split <;> split <;> split <;> rfl
@[simp] theorem State.notify_loop (s : State) (page bit : Nat) : (s.notify page bit).loop = s.loop := by
  simp only [State.notify]; split <;> split <;> split <;> rfl
@[simp] theorem State.notify_track (s : State) (page bit : Nat) : (s.notify page bit).track = s.track := by
  simp only [State.notify]; split <;> split <;> split <;> rfl
@[simp] theorem State.notify_prot (s : State) (page bit : Nat) : (s.notify page bit).prot = s.prot := by
  simp only [State.notify]; split <;> split <;> split <;> rfl
@[simp] theorem State.notify_host (s : State) (page bit : Nat) : (s.notify page bit).host = s.host := by
  simp only [State.notify]; split <;> split <;> split <;> rfl
@[simp] theorem State.notify_imp (s : State) (page bit : Nat) : (s.notify page bit).imp = s.imp := by
  simp only [State.notify]; split <;> split <;> split <;> rfl
@[simp] theorem State.notify_est (s : State) (page bit : Nat) : (s.notify page bit).est = s.est := by
  simp only [State.notify]; split <;> split <;> split <;> rfl
@[simp] theorem State.notify_tmx (s : State) (page bit : Nat) : (s.notify page bit).tmx = s.tmx := by
  simp only [State.notify]; split <;> split <;> split <;> rfl
@[simp] theorem State.notify_disp (s : State) (page bit : Nat) : (s.notify page bit).disp = s.disp := by
  simp only [State.notify]; split <;> split <;> split <;> rfl
@[simp] theorem State.notify_eng (s : State) (page bit : Nat) : (s.notify page bit).eng = s.eng := by
  simp only [State.notify]; split <;> split <;> split <;> rfl
@[simp] theorem State.notify_ringSt (s : State) (page bit : Nat) : (s.notify page bit).ringSt = s.ringSt := by
  simp only [State.notify]; split <;> split <;> split <;> rfl
@[simp] theorem State.notify_harv (s : State) (page bit : Nat) : (s.notify page bit).harv = s.harv := by
  simp only [State.notify]; split <;> split <;> split <;> rfl
@[simp] theorem State.notify_bal (s : State) (page bit : Nat) : (s.notify page bit).bal = s.bal := by
  simp only [State.notify]; split <;> split <;> split <;> rfl
@[simp] theorem State.notify_therm (s : State) (page bit : Nat) : (s.notify page bit).therm = s.therm := by
  simp only [State.notify]; split <;> split <;> split <;> rfl
@[simp] theorem State.notify_tele (s : State) (page bit : Nat) : (s.notify page bit).tele = s.tele := by
  simp only [State.notify]; split <;> split <;> split <;> rfl
@[simp] theorem State.notify_nvm (s : State) (page bit : Nat) : (s.notify page bit).nvm = s.nvm := by
  simp only [State.notify]; split <;> split <;> split <;> rfl
@[simp] theorem State.notify_time (s : State) (page bit : Nat) : (s.notify page bit).time = s.time := by
  simp only [State.notify]; split <;> split <;> split <;> rfl
@[simp] theorem State.notify_can (s : State) (page bit : Nat) : (s.notify page bit).can = s.can := by
  simp only [State.notify]; split <;> split <;> split <;> rfl
@[simp] theorem State.notify_pair (s : State) (page bit : Nat) : (s.notify page bit).pair = s.pair := by
  simp only [State.notify]; split <;> split <;> split <;> rfl
@[simp] theorem State.notify_alm (s : State) (page bit : Nat) : (s.notify page bit).alm = s.alm := by
  simp only [State.notify]; split <;> split <;> split <;> rfl

@[simp] theorem State.rd_notify (s : State) (f : Fld) (page bit : Nat) : (s.notify page bit).rd f = s.rd f := by
  simp only [State.rd, State.word, State.notify_regs]

@[simp] theorem State.raise_staged (s : State) (page bit : Nat) : (s.raise page bit).staged = s.staged := by
  simp only [State.raise]; split
  · rfl
  · split
    · rw [State.notify_staged]; rfl
    · rfl
@[simp] theorem State.raise_shadow (s : State) (page bit : Nat) : (s.raise page bit).shadow = s.shadow := by
  simp only [State.raise]; split
  · rfl
  · split
    · rw [State.notify_shadow]; rfl
    · rfl
@[simp] theorem State.raise_pending (s : State) (page bit : Nat) : (s.raise page bit).pending = s.pending := by
  simp only [State.raise]; split
  · rfl
  · split
    · rw [State.notify_pending]; rfl
    · rfl
@[simp] theorem State.raise_out (s : State) (page bit : Nat) : (s.raise page bit).out = s.out := by
  simp only [State.raise]; split
  · rfl
  · split
    · rw [State.notify_out]; rfl
    · rfl
@[simp] theorem State.raise_free (s : State) (page bit : Nat) : (s.raise page bit).free = s.free := by
  simp only [State.raise]; split
  · rfl
  · split
    · rw [State.notify_free]; rfl
    · rfl
@[simp] theorem State.raise_accErr (s : State) (page bit : Nat) : (s.raise page bit).accErr = s.accErr := by
  simp only [State.raise]; split
  · rfl
  · split
    · rw [State.notify_accErr]; rfl
    · rfl
@[simp] theorem State.raise_readData (s : State) (page bit : Nat) : (s.raise page bit).readData = s.readData := by
  simp only [State.raise]; split
  · rfl
  · split
    · rw [State.notify_readData]; rfl
    · rfl
@[simp] theorem State.raise_meas (s : State) (page bit : Nat) : (s.raise page bit).meas = s.meas := by
  simp only [State.raise]; split
  · rfl
  · split
    · rw [State.notify_meas]; rfl
    · rfl
@[simp] theorem State.raise_tb (s : State) (page bit : Nat) : (s.raise page bit).tb = s.tb := by
  simp only [State.raise]; split
  · rfl
  · split
    · rw [State.notify_tb]; rfl
    · rfl
@[simp] theorem State.raise_crown (s : State) (page bit : Nat) : (s.raise page bit).crown = s.crown := by
  simp only [State.raise]; split
  · rfl
  · split
    · rw [State.notify_crown]; rfl
    · rfl
@[simp] theorem State.raise_stg (s : State) (page bit : Nat) : (s.raise page bit).stg = s.stg := by
  simp only [State.raise]; split
  · rfl
  · split
    · rw [State.notify_stg]; rfl
    · rfl
@[simp] theorem State.raise_pwm (s : State) (page bit : Nat) : (s.raise page bit).pwm = s.pwm := by
  simp only [State.raise]; split
  · rfl
  · split
    · rw [State.notify_pwm]; rfl
    · rfl
@[simp] theorem State.raise_loop (s : State) (page bit : Nat) : (s.raise page bit).loop = s.loop := by
  simp only [State.raise]; split
  · rfl
  · split
    · rw [State.notify_loop]; rfl
    · rfl
@[simp] theorem State.raise_track (s : State) (page bit : Nat) : (s.raise page bit).track = s.track := by
  simp only [State.raise]; split
  · rfl
  · split
    · rw [State.notify_track]; rfl
    · rfl
@[simp] theorem State.raise_prot (s : State) (page bit : Nat) : (s.raise page bit).prot = s.prot := by
  simp only [State.raise]; split
  · rfl
  · split
    · rw [State.notify_prot]; rfl
    · rfl
@[simp] theorem State.raise_host (s : State) (page bit : Nat) : (s.raise page bit).host = s.host := by
  simp only [State.raise]; split
  · rfl
  · split
    · rw [State.notify_host]; rfl
    · rfl
@[simp] theorem State.raise_imp (s : State) (page bit : Nat) : (s.raise page bit).imp = s.imp := by
  simp only [State.raise]; split
  · rfl
  · split
    · rw [State.notify_imp]; rfl
    · rfl
@[simp] theorem State.raise_est (s : State) (page bit : Nat) : (s.raise page bit).est = s.est := by
  simp only [State.raise]; split
  · rfl
  · split
    · rw [State.notify_est]; rfl
    · rfl
@[simp] theorem State.raise_tmx (s : State) (page bit : Nat) : (s.raise page bit).tmx = s.tmx := by
  simp only [State.raise]; split
  · rfl
  · split
    · rw [State.notify_tmx]; rfl
    · rfl
@[simp] theorem State.raise_disp (s : State) (page bit : Nat) : (s.raise page bit).disp = s.disp := by
  simp only [State.raise]; split
  · rfl
  · split
    · rw [State.notify_disp]; rfl
    · rfl
@[simp] theorem State.raise_eng (s : State) (page bit : Nat) : (s.raise page bit).eng = s.eng := by
  simp only [State.raise]; split
  · rfl
  · split
    · rw [State.notify_eng]; rfl
    · rfl
@[simp] theorem State.raise_ringSt (s : State) (page bit : Nat) : (s.raise page bit).ringSt = s.ringSt := by
  simp only [State.raise]; split
  · rfl
  · split
    · rw [State.notify_ringSt]; rfl
    · rfl
@[simp] theorem State.raise_harv (s : State) (page bit : Nat) : (s.raise page bit).harv = s.harv := by
  simp only [State.raise]; split
  · rfl
  · split
    · rw [State.notify_harv]; rfl
    · rfl
@[simp] theorem State.raise_bal (s : State) (page bit : Nat) : (s.raise page bit).bal = s.bal := by
  simp only [State.raise]; split
  · rfl
  · split
    · rw [State.notify_bal]; rfl
    · rfl
@[simp] theorem State.raise_therm (s : State) (page bit : Nat) : (s.raise page bit).therm = s.therm := by
  simp only [State.raise]; split
  · rfl
  · split
    · rw [State.notify_therm]; rfl
    · rfl
@[simp] theorem State.raise_tele (s : State) (page bit : Nat) : (s.raise page bit).tele = s.tele := by
  simp only [State.raise]; split
  · rfl
  · split
    · rw [State.notify_tele]; rfl
    · rfl
@[simp] theorem State.raise_nvm (s : State) (page bit : Nat) : (s.raise page bit).nvm = s.nvm := by
  simp only [State.raise]; split
  · rfl
  · split
    · rw [State.notify_nvm]; rfl
    · rfl
@[simp] theorem State.raise_time (s : State) (page bit : Nat) : (s.raise page bit).time = s.time := by
  simp only [State.raise]; split
  · rfl
  · split
    · rw [State.notify_time]; rfl
    · rfl
@[simp] theorem State.raise_can (s : State) (page bit : Nat) : (s.raise page bit).can = s.can := by
  simp only [State.raise]; split
  · rfl
  · split
    · rw [State.notify_can]; rfl
    · rfl
@[simp] theorem State.raise_pair (s : State) (page bit : Nat) : (s.raise page bit).pair = s.pair := by
  simp only [State.raise]; split
  · rfl
  · split
    · rw [State.notify_pair]; rfl
    · rfl
@[simp] theorem State.raise_alm (s : State) (page bit : Nat) : (s.raise page bit).alm = s.alm := by
  simp only [State.raise]; split
  · rfl
  · split
    · rw [State.notify_alm]; rfl
    · rfl

/-- An event changes no field but those of its page's EVT_STATUS (R69). -/
theorem State.rd_raise (s : State) (f : Fld) (page bit : Nat) (h : (evtStatus page).apart f) : (s.raise page bit).rd f = s.rd f := by
  have e : ∀ b, (s.wrBit (evtStatus page) bit b).rd f = s.rd f := fun b => State.rd_wr_apart _ _ _ _ (by simp [Fld.fits, evtStatus, pageFld]) h
  simp only [State.raise]
  split
  · rfl
  · split
    · rw [State.rd_notify, e]
    · rw [e]

/-! ## Fields after a register write -/

theorem State.rd_wrB (s : State) (f : Fld) (b : Bool) (hf : f.fits) (hw : f.width ≠ 0) : (s.wrB f b).rd f = if b then 1 else 0 := by
  rw [State.wrB, State.rd_wr _ _ _ hf]
  have : 1 < 2 ^ f.width := Nat.one_lt_two_pow hw
  cases b <;> simp [Nat.mod_eq_of_lt this]

theorem State.rd_wrB_apart (s : State) (f g : Fld) (b : Bool) (hf : f.fits) (h : f.apart g) : (s.wrB f b).rd g = s.rd g := State.rd_wr_apart _ _ _ _ hf h

theorem State.rd_bump (s : State) (f : Fld) (n : Nat) (hf : f.fits) : (s.bump f n).rd f = satCount f.width (s.rd f + n) := by
  rw [State.bump, State.rd_wr _ _ _ hf]
  apply Nat.mod_eq_of_lt
  have : 0 < 2 ^ f.width := Nat.two_pow_pos _
  simp only [satCount]
  split <;> omega

theorem State.rd_bump_apart (s : State) (f g : Fld) (n : Nat) (hf : f.fits) (h : f.apart g) : (s.bump f n).rd g = s.rd g := State.rd_wr_apart _ _ _ _ hf h

theorem State.rd_wrI_apart (s : State) (f g : Fld) (n : Int) (hf : f.fits) (h : f.apart g) : (s.wrI f n).rd g = s.rd g := State.rd_wr_apart _ _ _ _ hf h

theorem State.rd_wrBit_apart (s : State) (f g : Fld) (k : Nat) (b : Bool) (hf : f.fits) (h : f.apart g) : (s.wrBit f k b).rd g = s.rd g := State.rd_wr_apart _ _ _ _ hf h

theorem State.rd_lt (s : State) (f : Fld) : s.rd f < 2 ^ f.width := Nat.mod_lt _ (Nat.two_pow_pos _)

/-- A bit of a mask after it was written. -/
theorem State.bit_wrBit (s : State) (f : Fld) (k : Nat) (b : Bool) (hf : f.fits) (hk : k < f.width) : (s.wrBit f k b).bit f k = b := by
  have h1 : 2 ^ k < 2 ^ f.width := Nat.pow_lt_pow_right (by omega) hk
  simp only [State.bit, State.wrBit]
  rw [State.rd_wr _ _ _ hf, Nat.testBit_mod_two_pow]
  cases b with
  | true => simp [hk]
  | false =>
    simp only [hk, decide_true, Bool.true_and, Bool.false_eq_true, if_false]
    split
    · rename_i h
      have : s.rd f = 2 ^ k + (s.rd f - 2 ^ k) := by
        have := Nat.ge_two_pow_of_testBit h
        omega
      rw [this, Nat.testBit_two_pow_add_eq] at h
      simpa using h
    · rename_i h
      simpa using h

theorem State.mode_setMode (s : State) (m : Mode) : (s.setMode m).mode = m := by
  rw [State.mode, State.setMode, State.rd_wr _ _ _ (by decide)]
  cases m <;> rfl

/-! ## Admission of an access -/

/-- An access that nothing bars is made. -/
theorem State.asWrite_ok (s : State) (who : Initiator) (addr : Nat) (k : State → State) (h : s.barred who addr true = 0) :
    s.asWrite who addr k = k (s.result who addr 0) := by
  simp [State.asWrite, h]

theorem State.asRead_ok (s : State) (who : Initiator) (addr : Nat) (k : State → State) (h : s.barred who addr false = 0) :
    s.asRead who addr k = k (s.result who addr 0) := by
  simp [State.asRead, h]

/-- An access that succeeds leaves its result and nothing else. -/
theorem State.result_ok (s : State) (who : Initiator) (addr : Nat) :
    s.result who addr 0 = { s with accErr := 0, host := if who = .host then { s.host with err := 0 } else s.host } := by
  cases who <;> rfl

@[simp] theorem State.rd_result (s : State) (who : Initiator) (addr : Nat) (f : Fld) : (s.result who addr 0).rd f = s.rd f := by
  rw [State.result_ok]
  rfl

@[simp] theorem State.result_regs (s : State) (who : Initiator) (addr : Nat) : (s.result who addr 0).regs = s.regs := by rw [State.result_ok]
@[simp] theorem State.result_staged (s : State) (who : Initiator) (addr : Nat) : (s.result who addr 0).staged = s.staged := by rw [State.result_ok]
@[simp] theorem State.result_shadow (s : State) (who : Initiator) (addr : Nat) : (s.result who addr 0).shadow = s.shadow := by rw [State.result_ok]
@[simp] theorem State.result_pending (s : State) (who : Initiator) (addr : Nat) : (s.result who addr 0).pending = s.pending := by rw [State.result_ok]
@[simp] theorem State.result_out (s : State) (who : Initiator) (addr : Nat) : (s.result who addr 0).out = s.out := by rw [State.result_ok]
@[simp] theorem State.result_free (s : State) (who : Initiator) (addr : Nat) : (s.result who addr 0).free = s.free := by rw [State.result_ok]
@[simp] theorem State.result_readData (s : State) (who : Initiator) (addr : Nat) : (s.result who addr 0).readData = s.readData := by rw [State.result_ok]
@[simp] theorem State.result_meas (s : State) (who : Initiator) (addr : Nat) : (s.result who addr 0).meas = s.meas := by rw [State.result_ok]
@[simp] theorem State.result_tb (s : State) (who : Initiator) (addr : Nat) : (s.result who addr 0).tb = s.tb := by rw [State.result_ok]
@[simp] theorem State.result_crown (s : State) (who : Initiator) (addr : Nat) : (s.result who addr 0).crown = s.crown := by rw [State.result_ok]
@[simp] theorem State.result_stg (s : State) (who : Initiator) (addr : Nat) : (s.result who addr 0).stg = s.stg := by rw [State.result_ok]
@[simp] theorem State.result_q91 (s : State) (who : Initiator) (addr : Nat) : (s.result who addr 0).q91 = s.q91 := by rw [State.result_ok]
@[simp] theorem State.result_pwm (s : State) (who : Initiator) (addr : Nat) : (s.result who addr 0).pwm = s.pwm := by rw [State.result_ok]
@[simp] theorem State.result_loop (s : State) (who : Initiator) (addr : Nat) : (s.result who addr 0).loop = s.loop := by rw [State.result_ok]
@[simp] theorem State.result_track (s : State) (who : Initiator) (addr : Nat) : (s.result who addr 0).track = s.track := by rw [State.result_ok]
@[simp] theorem State.result_prot (s : State) (who : Initiator) (addr : Nat) : (s.result who addr 0).prot = s.prot := by rw [State.result_ok]
@[simp] theorem State.result_rk (s : State) (who : Initiator) (addr : Nat) : (s.result who addr 0).rk = s.rk := by rw [State.result_ok]
@[simp] theorem State.result_scan (s : State) (who : Initiator) (addr : Nat) : (s.result who addr 0).scan = s.scan := by rw [State.result_ok]
@[simp] theorem State.result_imp (s : State) (who : Initiator) (addr : Nat) : (s.result who addr 0).imp = s.imp := by rw [State.result_ok]
@[simp] theorem State.result_est (s : State) (who : Initiator) (addr : Nat) : (s.result who addr 0).est = s.est := by rw [State.result_ok]
@[simp] theorem State.result_tmx (s : State) (who : Initiator) (addr : Nat) : (s.result who addr 0).tmx = s.tmx := by rw [State.result_ok]
@[simp] theorem State.result_disp (s : State) (who : Initiator) (addr : Nat) : (s.result who addr 0).disp = s.disp := by rw [State.result_ok]
@[simp] theorem State.result_eng (s : State) (who : Initiator) (addr : Nat) : (s.result who addr 0).eng = s.eng := by rw [State.result_ok]
@[simp] theorem State.result_ringSt (s : State) (who : Initiator) (addr : Nat) : (s.result who addr 0).ringSt = s.ringSt := by rw [State.result_ok]
@[simp] theorem State.result_harv (s : State) (who : Initiator) (addr : Nat) : (s.result who addr 0).harv = s.harv := by rw [State.result_ok]
@[simp] theorem State.result_bal (s : State) (who : Initiator) (addr : Nat) : (s.result who addr 0).bal = s.bal := by rw [State.result_ok]
@[simp] theorem State.result_therm (s : State) (who : Initiator) (addr : Nat) : (s.result who addr 0).therm = s.therm := by rw [State.result_ok]
@[simp] theorem State.result_tele (s : State) (who : Initiator) (addr : Nat) : (s.result who addr 0).tele = s.tele := by rw [State.result_ok]
@[simp] theorem State.result_nvm (s : State) (who : Initiator) (addr : Nat) : (s.result who addr 0).nvm = s.nvm := by rw [State.result_ok]
@[simp] theorem State.result_time (s : State) (who : Initiator) (addr : Nat) : (s.result who addr 0).time = s.time := by rw [State.result_ok]
@[simp] theorem State.result_can (s : State) (who : Initiator) (addr : Nat) : (s.result who addr 0).can = s.can := by rw [State.result_ok]
@[simp] theorem State.result_pair (s : State) (who : Initiator) (addr : Nat) : (s.result who addr 0).pair = s.pair := by rw [State.result_ok]
@[simp] theorem State.result_alm (s : State) (who : Initiator) (addr : Nat) : (s.result who addr 0).alm = s.alm := by rw [State.result_ok]
@[simp] theorem State.result_accErr (s : State) (who : Initiator) (addr code : Nat) : (s.result who addr code).accErr = code := by
  cases who <;> simp [State.result]
  split <;> rfl

end Sys2Proof.Machine
end

