-- ==== Sys2Proof/Laws/Within.lean ====
section
/-!
SUPPORT. How changes within some parts of the state combine. Laws/Within1.lean and the files after it say once, for each operation and each
meaning, which parts it can change, that it leaves the queue of commands, and that it keeps a canonical register file canonical.
-/
set_option Elab.async false
set_option linter.unusedSimpArgs false
set_option linter.unusedVariables false
set_option linter.unusedTactic false
set_option linter.unreachableTactic false
namespace Sys2Proof.Machine
open Sys2Proof

variable {T : List Part} {s0 : State}

theorem Within.rfl {s : State} : Within T s s := by constructor <;> intros <;> first | rfl | assumption

theorem within_ite {c : Prop} [Decidable c] {a b : State} (ha : Within T s0 a) (hb : Within T s0 b) : Within T s0 (if c then a else b) := by
  split <;> assumption

theorem out_ite {c : Prop} [Decidable c] {a b : Host.Outcome State Fault Refusal} (ha : ∃ t, a = .next t ∧ Within T s0 t)
    (hb : ∃ t, b = .next t ∧ Within T s0 t) : ∃ t, (if c then a else b) = .next t ∧ Within T s0 t := by
  split <;> assumption

theorem within_foldl {α : Type} {f : State → α → State} {s : State} {l : List α} (h : Within T s0 s)
    (hf : ∀ t x, Within T s0 t → Within T s0 (f t x)) : Within T s0 (l.foldl f s) := by
  induction l generalizing s with
  | nil => exact h
  | cons a t ih => exact ih (hf _ _ h)

theorem within_foldl_fst {α β : Type} {f : State × β → α → State × β} {s : State × β} {l : List α} (h : Within T s0 s.1)
    (hf : ∀ t x, Within T s0 t.1 → Within T s0 (f t x).1) : Within T s0 (l.foldl f s).1 := by
  induction l generalizing s with
  | nil => exact h
  | cons a t ih => exact ih (hf _ _ h)

theorem within_foldl_st {α : Type} {f : ScanEval → α → ScanEval} {s : ScanEval} {l : List α} (h : Within T s0 s.st)
    (hf : ∀ t x, Within T s0 t.st → Within T s0 (f t x).st) : Within T s0 (l.foldl f s).st := by
  induction l generalizing s with
  | nil => exact h
  | cons a t ih => exact ih (hf _ _ h)

theorem opt_some {s : State} (h : Within T s0 s) : ∀ t, some s = some t → Within T s0 t := by
  intro t e; cases e; exact h

theorem opt_none : ∀ t, (none : Option State) = some t → Within T s0 t := by
  intro t e; cases e

theorem opt_ite {c : Prop} [Decidable c] {a b : Option State} (ha : ∀ t, a = some t → Within T s0 t) (hb : ∀ t, b = some t → Within T s0 t) :
    ∀ t, (if c then a else b) = some t → Within T s0 t := by
  split <;> assumption

theorem within_of_eq {a b : State} (e : a = b) (h : Within T s0 a) : Within T s0 b := e ▸ h

theorem within_of_fst {β : Type} {p : State × β} {a : State} {b : β} (e : p = (a, b)) (h : Within T s0 p.1) : Within T s0 a := by
  subst e; exact h

theorem within_of_snd {β : Type} {p : β × State} {a : State} {b : β} (e : p = (b, a)) (h : Within T s0 p.2) : Within T s0 a := by
  subst e; exact h

theorem within_of_snd2 {β γ : Type} {p : β × γ × State} {a : State} {b : β} {c : γ} (e : p = (b, c, a)) (h : Within T s0 p.2.2) : Within T s0 a := by
  subst e; exact h

theorem within_of_snd3 {β γ δ : Type} {p : β × γ × δ × State} {a : State} {b : β} {c : γ} {d : δ} (e : p = (b, c, d, a))
    (h : Within T s0 p.2.2.2) : Within T s0 a := by
  subst e; exact h

theorem within_of_some {o : Option State} {a : State} (e : o = some a) (h : ∀ t, o = some t → Within T s0 t) : Within T s0 a := h a e

/-- A record update: the parts that it changes are in T. -/
theorem within_upd {s : State} (h : Within T s0 s)
    {a1 : List (Nat × Word)} {a2 : List (Nat × Word)} {a4 : List Out} {a5 : Nat} {a6 : Nat} {a7 : List Word} {a8 : Readings} {a9 : List (Nat × TimeBase)} {a10 : Crown} {a11 : Staging} {a12 : List Sub} {a13 : Pwm} {a14 : Loop} {a15 : Track} {a16 : Prot} {a17 : HostPort} {a18 : List (Nat × RkSession)} {a19 : Scan} {a20 : Imped} {a21 : Est} {a22 : Tmx} {a23 : Disp} {a24 : Engines} {a25 : Ring} {a26 : Harvest} {a27 : Bal} {a28 : Therm} {a29 : Tele} {a30 : Nvm} {a31 : Times} {a32 : Can} {a33 : Pair} {a34 : Alm}
    (staged : Part.staged ∈ T ∨ a1 = s.staged := by exact .inr rfl)
    (shadow : Part.shadow ∈ T ∨ a2 = s.shadow := by exact .inr rfl)
    (out : Part.out ∈ T ∨ a4 = s.out := by exact .inr rfl)
    (free : Part.free ∈ T ∨ a5 = s.free := by exact .inr rfl)
    (accErr : Part.accErr ∈ T ∨ a6 = s.accErr := by exact .inr rfl)
    (readData : Part.readData ∈ T ∨ a7 = s.readData := by exact .inr rfl)
    (meas : Part.meas ∈ T ∨ a8 = s.meas := by exact .inr rfl)
    (tb : Part.tb ∈ T ∨ a9 = s.tb := by exact .inr rfl)
    (crown : Part.crown ∈ T ∨ a10 = s.crown := by exact .inr rfl)
    (stg : Part.stg ∈ T ∨ a11 = s.stg := by exact .inr rfl)
    (q91 : Part.q91 ∈ T ∨ a12 = s.q91 := by exact .inr rfl)
    (pwm : Part.pwm ∈ T ∨ a13 = s.pwm := by exact .inr rfl)
    (loop : Part.loop ∈ T ∨ a14 = s.loop := by exact .inr rfl)
    (track : Part.track ∈ T ∨ a15 = s.track := by exact .inr rfl)
    (prot : Part.prot ∈ T ∨ a16 = s.prot := by exact .inr rfl)
    (host : Part.host ∈ T ∨ a17 = s.host := by exact .inr rfl)
    (rk : Part.rk ∈ T ∨ a18 = s.rk := by exact .inr rfl)
    (scan : Part.scan ∈ T ∨ a19 = s.scan := by exact .inr rfl)
    (imp : Part.imp ∈ T ∨ a20 = s.imp := by exact .inr rfl)
    (est : Part.est ∈ T ∨ a21 = s.est := by exact .inr rfl)
    (tmx : Part.tmx ∈ T ∨ a22 = s.tmx := by exact .inr rfl)
    (disp : Part.disp ∈ T ∨ a23 = s.disp := by exact .inr rfl)
    (eng : Part.eng ∈ T ∨ a24 = s.eng := by exact .inr rfl)
    (ringSt : Part.ringSt ∈ T ∨ a25 = s.ringSt := by exact .inr rfl)
    (harv : Part.harv ∈ T ∨ a26 = s.harv := by exact .inr rfl)
    (bal : Part.bal ∈ T ∨ a27 = s.bal := by exact .inr rfl)
    (therm : Part.therm ∈ T ∨ a28 = s.therm := by exact .inr rfl)
    (tele : Part.tele ∈ T ∨ a29 = s.tele := by exact .inr rfl)
    (nvm : Part.nvm ∈ T ∨ a30 = s.nvm := by exact .inr rfl)
    (time : Part.time ∈ T ∨ a31 = s.time := by exact .inr rfl)
    (can : Part.can ∈ T ∨ a32 = s.can := by exact .inr rfl)
    (pair : Part.pair ∈ T ∨ a33 = s.pair := by exact .inr rfl)
    (alm : Part.alm ∈ T ∨ a34 = s.alm := by exact .inr rfl) :
    Within T s0 (State.mk s.regs a1 a2 s.pending a4 a5 a6 a7 a8 a9 a10 a11 a12 a13 a14 a15 a16 a17 a18 a19 a20 a21 a22 a23 a24 a25 a26 a27 a28 a29 a30 a31 a32 a33 a34) :=
  { pending := h.pending
    canon := h.canon
    regs := h.regs
    staged := fun n => staged.elim (fun x => absurd x n) fun e => e.trans (h.staged n)
    shadow := fun n => shadow.elim (fun x => absurd x n) fun e => e.trans (h.shadow n)
    out := fun n => out.elim (fun x => absurd x n) fun e => e.trans (h.out n)
    free := fun n => free.elim (fun x => absurd x n) fun e => e.trans (h.free n)
    accErr := fun n => accErr.elim (fun x => absurd x n) fun e => e.trans (h.accErr n)
    readData := fun n => readData.elim (fun x => absurd x n) fun e => e.trans (h.readData n)
    meas := fun n => meas.elim (fun x => absurd x n) fun e => e.trans (h.meas n)
    tb := fun n => tb.elim (fun x => absurd x n) fun e => e.trans (h.tb n)
    crown := fun n => crown.elim (fun x => absurd x n) fun e => e.trans (h.crown n)
    stg := fun n => stg.elim (fun x => absurd x n) fun e => e.trans (h.stg n)
    q91 := fun n => q91.elim (fun x => absurd x n) fun e => e.trans (h.q91 n)
    pwm := fun n => pwm.elim (fun x => absurd x n) fun e => e.trans (h.pwm n)
    loop := fun n => loop.elim (fun x => absurd x n) fun e => e.trans (h.loop n)
    track := fun n => track.elim (fun x => absurd x n) fun e => e.trans (h.track n)
    prot := fun n => prot.elim (fun x => absurd x n) fun e => e.trans (h.prot n)
    host := fun n => host.elim (fun x => absurd x n) fun e => e.trans (h.host n)
    rk := fun n => rk.elim (fun x => absurd x n) fun e => e.trans (h.rk n)
    scan := fun n => scan.elim (fun x => absurd x n) fun e => e.trans (h.scan n)
    imp := fun n => imp.elim (fun x => absurd x n) fun e => e.trans (h.imp n)
    est := fun n => est.elim (fun x => absurd x n) fun e => e.trans (h.est n)
    tmx := fun n => tmx.elim (fun x => absurd x n) fun e => e.trans (h.tmx n)
    disp := fun n => disp.elim (fun x => absurd x n) fun e => e.trans (h.disp n)
    eng := fun n => eng.elim (fun x => absurd x n) fun e => e.trans (h.eng n)
    ringSt := fun n => ringSt.elim (fun x => absurd x n) fun e => e.trans (h.ringSt n)
    harv := fun n => harv.elim (fun x => absurd x n) fun e => e.trans (h.harv n)
    bal := fun n => bal.elim (fun x => absurd x n) fun e => e.trans (h.bal n)
    therm := fun n => therm.elim (fun x => absurd x n) fun e => e.trans (h.therm n)
    tele := fun n => tele.elim (fun x => absurd x n) fun e => e.trans (h.tele n)
    nvm := fun n => nvm.elim (fun x => absurd x n) fun e => e.trans (h.nvm n)
    time := fun n => time.elim (fun x => absurd x n) fun e => e.trans (h.time n)
    can := fun n => can.elim (fun x => absurd x n) fun e => e.trans (h.can n)
    pair := fun n => pair.elim (fun x => absurd x n) fun e => e.trans (h.pair n)
    alm := fun n => alm.elim (fun x => absurd x n) fun e => e.trans (h.alm n) }

theorem regsCanonical_mset {l : List (Nat × Word)} (a : Nat) (w : Word) (h : regsCanonical l) : regsCanonical (mset (resetWord a) l a w) := by
  refine ⟨mset_rising _ _ _ _ h.1, fun e he => ?_⟩
  rcases mem_mset he with ⟨rfl, hv⟩ | he
  · exact hv
  · exact h.2 e he

theorem State.setWord_within {s : State} {a : Nat} {w : Word} (pregs : .regs ∈ T) (h : Within T s0 s) : Within T s0 (s.setWord a w) :=
  { h with
    canon := fun c => regsCanonical_mset a w (h.canon c)
    regs := fun n => absurd pregs n }

end Sys2Proof.Machine
end

