-- ==== Sys2Proof/Laws/Within1.lean ====
section
/-!
SUPPORT. The parts of the state that each operation can change: Ops, Access, Queues, Almanac, AlmFam, Pwm, LoopEngine, Contact, RingOps, Program, Journal, BalOps, React.
-/
set_option Elab.async false
set_option linter.unusedSimpArgs false
set_option linter.unusedVariables false
set_option linter.unusedTactic false
set_option linter.unreachableTactic false
namespace Sys2Proof.Machine
open Sys2Proof

variable {T : List Part} {s0 : State}

/-! ## Ops -/

theorem State.wr_within {s : State} {f : Fld} {n : ℕ} (pregs : Part.regs ∈ T) (h0' : Within T s0 s) : Within T s0 (State.wr s f n) := by
  unfold State.wr
  refine State.setWord_within pregs ?_
  exact h0'

theorem State.bump_within {s : State} {f : Fld} {n : optParam ℕ 1} (pregs : Part.regs ∈ T) (h0' : Within T s0 s) : Within T s0 (State.bump s f n) := by
  unfold State.bump
  refine State.wr_within pregs ?_
  exact h0'

theorem State.setCanCh_within {s : State} {c : ℕ} {x : CanCh} (pcan : Part.can ∈ T) (h0' : Within T s0 s) : Within T s0 (State.setCanCh s c x) := by
  unfold State.setCanCh
  exact within_upd h0' (can := .inl pcan)

theorem State.canIntegrate_within {s : State} {c : ℕ} (pregs : Part.regs ∈ T) (pcan : Part.can ∈ T) (h0' : Within T s0 s) : Within T s0 (State.canIntegrate s c) := by
  unfold State.canIntegrate
  refine within_ite ?_ ?_
  · refine State.setCanCh_within pcan ?_
    refine State.wr_within pregs ?_
    exact h0'
  · exact h0'

theorem State.disarm_within {s : State} (pregs : Part.regs ∈ T) (pnvm : Part.nvm ∈ T) (h0' : Within T s0 s) : Within T s0 (State.disarm s) := by
  unfold State.disarm
  extract_lets s1
  rename_i x2 x3
  have h4 : Within T s0 s1 := by
    unfold s1
    refine within_ite ?_ ?_
    · refine State.wr_within pregs ?_
      exact h0'
    · exact h0'
  clear_value s1 x2 x3
  exact within_upd h4 (nvm := .inl pnvm)

theorem State.drawFree_within {s : State} (pfree : Part.free ∈ T) (h0' : Within T s0 s) : Within T s0 (State.drawFree s).2 := by
  unfold State.drawFree
  dsimp only
  exact within_upd h0' (free := .inl pfree)

theorem State.driveCool_within {s : State} (pregs : Part.regs ∈ T) (h0' : Within T s0 s) : Within T s0 (State.driveCool s) := by
  unfold State.driveCool
  extract_lets s1
  clear_value s1
  refine within_foldl ?_ ?_
  · exact h0'
  · intro s2 x3 h4
    refine State.wr_within pregs ?_
    exact h4

theorem State.erase_within {s : State} {sector : ℕ} (pregs : Part.regs ∈ T) (pnvm : Part.nvm ∈ T) (h0' : Within T s0 s) : Within T s0 (State.erase s sector) := by
  unfold State.erase
  extract_lets s1 s2
  rename_i s3
  have h4 : Within T s0 s3 := by
    unfold s3
    exact within_upd h0' (nvm := .inl pnvm)
  clear_value s1 s2 s3
  refine within_ite ?_ ?_
  · refine State.wr_within pregs ?_
    exact h4
  · exact h4

theorem State.lasting_within {s : State} {page : ℕ} {code : ℕ} (pregs : Part.regs ∈ T) (h0' : Within T s0 s) : Within T s0 (State.lasting s page code) := by
  unfold State.lasting
  refine State.bump_within pregs ?_
  refine State.wr_within pregs ?_
  exact h0'

theorem State.record_within {s : State} {sev : ℕ} {source : ℕ} {ev : Ev} {data : optParam (List ℤ) []} {same : optParam Bool false} (pq91 : Part.q91 ∈ T) (h0' : Within T s0 s) : Within T s0 (State.record s sev source ev data same) := by
  unfold State.record
  exact within_upd h0' (q91 := .inl pq91)

theorem State.lastingW_within {s : State} {page : ℕ} {ev : Ev} {data : optParam (List ℤ) []} {same : optParam Bool false} (pregs : Part.regs ∈ T) (pq91 : Part.q91 ∈ T) (h0' : Within T s0 s) : Within T s0 (State.lastingW s page ev data same) := by
  unfold State.lastingW
  refine State.record_within pq91 ?_
  refine State.lasting_within pregs ?_
  exact h0'

theorem State.send_within {s : State} {o : Out} (pout : Part.out ∈ T) (h0' : Within T s0 s) : Within T s0 (State.send s o) := by
  unfold State.send
  exact within_upd h0' (out := .inl pout)

theorem State.mirror_within {s : State} {m : Mirror} (pout : Part.out ∈ T) (ppair : Part.pair ∈ T) (h0' : Within T s0 s) : Within T s0 (State.mirror s m) := by
  unfold State.mirror
  refine within_ite ?_ ?_
  · extract_lets s1 s2
    rename_i x3
    clear_value s1 s2 x3
    refine State.send_within pout ?_
    exact within_upd h0' (pair := .inl ppair)
  · exact h0'

theorem State.notify_within {s : State} {page : ℕ} {bit : ℕ} {session : optParam (Option ℕ) none} (pq91 : Part.q91 ∈ T) (prk : Part.rk ∈ T) (pscan : Part.scan ∈ T) (h0' : Within T s0 s) : Within T s0 (State.notify s page bit session) := by
  unfold State.notify
  extract_lets s1 s2 s3
  rename_i s4
  have h5 : Within T s0 s2 := by
    unfold s2
    refine within_ite ?_ ?_
    · exact within_upd h0' (rk := .inl prk)
    · exact h0'
  have h6 : Within T s0 s4 := by
    unfold s4
    refine within_ite ?_ ?_
    · exact within_upd h5 (scan := .inl pscan)
    · exact h5
  clear_value s1 s2 s3 s4
  refine within_ite ?_ ?_
  · refine State.record_within pq91 ?_
    exact h6
  · exact h6

theorem State.wrBit_within {s : State} {f : Fld} {k : ℕ} {b : Bool} (pregs : Part.regs ∈ T) (h0' : Within T s0 s) : Within T s0 (State.wrBit s f k b) := by
  unfold State.wrBit
  refine State.wr_within pregs ?_
  exact h0'

theorem State.raise_within {s : State} {page : ℕ} {bit : ℕ} (pregs : Part.regs ∈ T) (pq91 : Part.q91 ∈ T) (prk : Part.rk ∈ T) (pscan : Part.scan ∈ T) (h0' : Within T s0 s) : Within T s0 (State.raise s page bit) := by
  unfold State.raise
  refine within_ite ?_ ?_
  · exact h0'
  · extract_lets s1
    have h2 : Within T s0 s1 := by
      unfold s1
      refine State.wrBit_within pregs ?_
      exact h0'
    clear_value s1
    refine within_ite ?_ ?_
    · refine State.notify_within pq91 prk pscan ?_
      exact h2
    · exact h2

theorem State.raiseBank_within {s : State} {session : ℕ} {page : ℕ} {bit : ℕ} (pregs : Part.regs ∈ T) (pq91 : Part.q91 ∈ T) (prk : Part.rk ∈ T) (pscan : Part.scan ∈ T) (h0' : Within T s0 s) : Within T s0 (State.raiseBank s session page bit) := by
  unfold State.raiseBank
  refine within_ite ?_ ?_
  · exact h0'
  · extract_lets s1
    have h2 : Within T s0 s1 := by
      unfold s1
      refine State.wrBit_within pregs ?_
      exact h0'
    clear_value s1
    refine within_ite ?_ ?_
    · refine State.notify_within pq91 prk pscan ?_
      exact h2
    · exact h2

theorem State.retryPass_within {s : State} {page : ℕ} (pregs : Part.regs ∈ T) (pq91 : Part.q91 ∈ T) (h0' : Within T s0 s) : Within T s0 (State.retryPass s page) := by
  unfold State.retryPass
  refine State.record_within pq91 ?_
  refine State.bump_within pregs ?_
  exact h0'

theorem State.setCoil_within {s : State} {k : ℕ} {c : Coil} (ptrack : Part.track ∈ T) (h0' : Within T s0 s) : Within T s0 (State.setCoil s k c) := by
  unfold State.setCoil
  exact within_upd h0' (track := .inl ptrack)

theorem State.setCool_within {s : State} {k : ℕ} {c : Cool} (ptherm : Part.therm ∈ T) (h0' : Within T s0 s) : Within T s0 (State.setCool s k c) := by
  unfold State.setCool
  exact within_upd h0' (therm := .inl ptherm)

theorem State.setMode_within {s : State} {m : Mode} (pregs : Part.regs ∈ T) (h0' : Within T s0 s) : Within T s0 (State.setMode s m) := by
  unfold State.setMode
  refine State.wr_within pregs ?_
  refine State.wr_within pregs ?_
  exact h0'

theorem State.setPhase_within {s : State} {n : ℕ} {p : Phase} (ppwm : Part.pwm ∈ T) (h0' : Within T s0 s) : Within T s0 (State.setPhase s n p) := by
  unfold State.setPhase
  exact within_upd h0' (pwm := .inl ppwm)

theorem State.showLastSeq_within {s : State} (pregs : Part.regs ∈ T) (h0' : Within T s0 s) : Within T s0 (State.showLastSeq s) := by
  unfold State.showLastSeq
  refine State.wr_within pregs ?_
  exact h0'

theorem State.voidCheck_within {s : State} {n : optParam ℕ 1} (pregs : Part.regs ∈ T) (h0' : Within T s0 s) : Within T s0 (State.voidCheck s n) := by
  unfold State.voidCheck
  refine State.bump_within pregs ?_
  exact h0'

theorem State.wrB_within {s : State} {f : Fld} {b : Bool} (pregs : Part.regs ∈ T) (h0' : Within T s0 s) : Within T s0 (State.wrB s f b) := by
  unfold State.wrB
  refine State.wr_within pregs ?_
  exact h0'

theorem State.wrI_within {s : State} {f : Fld} {i : ℤ} (pregs : Part.regs ∈ T) (h0' : Within T s0 s) : Within T s0 (State.wrI s f i) := by
  unfold State.wrI
  refine State.wr_within pregs ?_
  exact h0'

/-! ## Access -/

theorem State.result_within {s : State} {who : Initiator} {addr : ℕ} {code : ℕ} (pregs : Part.regs ∈ T) (paccErr : Part.accErr ∈ T) (phost : Part.host ∈ T) (h0' : Within T s0 s) : Within T s0 (State.result s who addr code) := by
  unfold State.result
  extract_lets s1
  rename_i x2 s3
  have h4 : Within T s0 s1 := by
    unfold s1
    exact within_upd h0' (accErr := .inl paccErr)
  have h5 : Within T s0 s3 := by
    unfold s3
    exact within_upd h4 (host := .inl phost)
  clear_value s1 x2 s3
  split
  · rename_i x6
    refine within_ite ?_ ?_
    · exact h5
    · refine State.wr_within pregs ?_
      refine State.wr_within pregs ?_
      exact h5
  · rename_i x7 e8
    exact h4

theorem State.crossWorld_within {s : State} {who : Initiator} {addr : ℕ} {write : Bool} (pregs : Part.regs ∈ T) (pq91 : Part.q91 ∈ T) (phost : Part.host ∈ T) (h0' : Within T s0 s) : Within T s0 (State.crossWorld s who addr write) := by
  unfold State.crossWorld
  extract_lets s1 s2 s3
  rename_i x4 s5
  have h6 : Within T s0 s1 := by
    unfold s1
    refine State.wr_within pregs ?_
    refine State.wrB_within pregs ?_
    refine State.wr_within pregs ?_
    refine State.bump_within pregs ?_
    exact h0'
  have h7 : Within T s0 s5 := by
    unfold s5
    refine State.record_within pq91 ?_
    exact h6
  clear_value s1 s2 s3 x4 s5
  split
  · rename_i x8 x9 x10 e11
    refine within_ite ?_ ?_
    · exact within_upd h6 (host := .inl phost)
    · exact within_upd h7 (host := .inl phost)
  · rename_i x12 e13
    exact within_upd h7 (host := .inl phost)

theorem State.refuseAccess_within {s : State} {who : Initiator} {addr : ℕ} {write : Bool} {code : ℕ} (pregs : Part.regs ∈ T) (paccErr : Part.accErr ∈ T) (pq91 : Part.q91 ∈ T) (phost : Part.host ∈ T) (h0' : Within T s0 s) : Within T s0 (State.refuseAccess s who addr write code) := by
  unfold State.refuseAccess
  extract_lets s1
  have h2 : Within T s0 s1 := by
    unfold s1
    refine State.result_within pregs paccErr phost ?_
    exact h0'
  clear_value s1
  refine within_ite ?_ ?_
  · refine State.crossWorld_within pregs pq91 phost ?_
    exact h2
  · exact h2

theorem State.asRead_within {s : State} {who : Initiator} {addr : ℕ} {k : State → State} (pregs : Part.regs ∈ T) (paccErr : Part.accErr ∈ T) (preadData : Part.readData ∈ T) (pq91 : Part.q91 ∈ T) (phost : Part.host ∈ T) (h0' : Within T s0 s) (h3' : ∀ a0, Within T s0 a0 → Within T s0 (k a0)) : Within T s0 (State.asRead s who addr k) := by
  unfold State.asRead
  extract_lets s1
  rename_i s2
  have h3 : Within T s0 s2 := by
    unfold s2
    refine State.refuseAccess_within pregs paccErr pq91 phost ?_
    exact h0'
  clear_value s1 s2
  refine within_ite ?_ ?_
  · apply h3'
    refine State.result_within pregs paccErr phost ?_
    exact h0'
  · exact within_upd h3 (readData := .inl preadData)

theorem State.asWrite_within {s : State} {who : Initiator} {addr : ℕ} {k : State → State} (pregs : Part.regs ∈ T) (paccErr : Part.accErr ∈ T) (pq91 : Part.q91 ∈ T) (phost : Part.host ∈ T) (h0' : Within T s0 s) (h3' : ∀ a0, Within T s0 a0 → Within T s0 (k a0)) : Within T s0 (State.asWrite s who addr k) := by
  unfold State.asWrite
  extract_lets s1
  clear_value s1
  refine within_ite ?_ ?_
  · apply h3'
    refine State.result_within pregs paccErr phost ?_
    exact h0'
  · refine State.refuseAccess_within pregs paccErr pq91 phost ?_
    exact h0'

theorem State.authFailed_within {s : State} {session : ℕ} (pq91 : Part.q91 ∈ T) (phost : Part.host ∈ T) (h0' : Within T s0 s) : Within T s0 (State.authFailed s session) := by
  unfold State.authFailed
  extract_lets s1 s2 s3
  rename_i x4 s5
  have h6 : Within T s0 s3 := by
    unfold s3
    refine State.record_within pq91 ?_
    exact h0'
  have h7 : Within T s0 s5 := by
    unfold s5
    exact within_upd h6 (host := .inl phost)
  clear_value s1 s2 s3 x4 s5
  split
  · rename_i x8 x9 x10 e11
    refine within_ite ?_ ?_
    · exact within_upd h0' (host := .inl phost)
    · exact h7
  · rename_i x12 e13
    exact h7

theorem State.crossing_within {s : State} {who : Initiator} {a : ℕ} {data : ℕ} {k : State → State} (phost : Part.host ∈ T) (h0' : Within T s0 s) (h4' : ∀ a0, Within T s0 a0 → Within T s0 (k a0)) : Within T s0 (State.crossing s who a data k) := by
  unfold State.crossing
  refine within_ite ?_ ?_
  · exact within_upd h0' (host := .inl phost)
  · apply h4'
    exact h0'

theorem State.writeFields_within {s : State} {addr : ℕ} {data : ℕ} (pregs : Part.regs ∈ T) (h0' : Within T s0 s) : Within T s0 (State.writeFields s addr data) := by
  unfold State.writeFields
  split
  · rename_i x1 x2 e3
    refine State.setWord_within pregs ?_
    exact h0'
  · rename_i x4 e5
    exact h0'

/-! ## Queues -/

theorem State.setFill_within {s : State} {q : ℕ} {n : ℕ} (pregs : Part.regs ∈ T) (h0' : Within T s0 s) : Within T s0 (State.setFill s q n) := by
  unfold State.setFill
  extract_lets s1
  have h2 : Within T s0 s1 := by
    unfold s1
    refine State.wr_within pregs ?_
    exact h0'
  clear_value s1
  refine within_ite ?_ ?_
  · refine State.wr_within pregs ?_
    exact h2
  · exact h2

theorem State.refill_within {s : State} {q : ℕ} (pregs : Part.regs ∈ T) (h0' : Within T s0 s) : Within T s0 (State.refill s q) := by
  unfold State.refill
  refine State.setFill_within pregs ?_
  exact h0'

theorem State.setRing_within {s : State} {q : ℕ} {r : StreamRing} (peng : Part.eng ∈ T) (h0' : Within T s0 s) : Within T s0 (State.setRing s q r) := by
  unfold State.setRing
  exact within_upd h0' (eng := .inl peng)

theorem State.consume_within {s : State} {q : ℕ} {eseq : ℕ} (pregs : Part.regs ∈ T) (peng : Part.eng ∈ T) (h0' : Within T s0 s) : Within T s0 (State.consume s q eseq) := by
  unfold State.consume
  extract_lets s1
  clear_value s1
  refine State.refill_within pregs ?_
  refine State.setRing_within peng ?_
  exact h0'

theorem State.graft_within {s : State} {id : ℕ} {target : ℕ} (pregs : Part.regs ∈ T) (peng : Part.eng ∈ T) (h0' : Within T s0 s) : Within T s0 (State.graft s id target) := by
  unfold State.graft
  extract_lets s1
  rename_i x2
  have h3 : Within T s0 s1 := by
    unfold s1
    refine State.bump_within pregs ?_
    exact h0'
  clear_value s1 x2
  exact within_upd h3 (eng := .inl peng)

theorem State.graftAway_within {s : State} {e : ℕ} {ids : List ℕ} (pregs : Part.regs ∈ T) (peng : Part.eng ∈ T) (h0' : Within T s0 s) : Within T s0 (State.graftAway s e ids) := by
  unfold State.graftAway
  refine within_foldl ?_ ?_
  · exact h0'
  · intro s1 x2 h3
    refine State.graft_within pregs peng ?_
    exact h3

theorem State.overrun_within {s : State} {q : ℕ} {i : ℕ} (pregs : Part.regs ∈ T) (pq91 : Part.q91 ∈ T) (prk : Part.rk ∈ T) (pscan : Part.scan ∈ T) (peng : Part.eng ∈ T) (h0' : Within T s0 s) : Within T s0 (State.overrun s q i) := by
  unfold State.overrun
  extract_lets s1
  clear_value s1
  split
  · rename_i x2 e3
    exact h0'
  · rename_i x4 x5 x6 e7
    refine within_ite ?_ ?_
    · exact h0'
    · extract_lets s8 s9
      rename_i x10
      have h11 : Within T s0 s8 := by
        unfold s8
        refine State.bump_within pregs ?_
        refine State.wrB_within pregs ?_
        refine State.wrB_within pregs ?_
        exact h0'
      have h12 : Within T s0 s9 := by
        unfold s9
        refine State.raiseBank_within pregs pq91 prk pscan ?_
        exact h11
      clear_value s8 s9 x10
      exact within_upd h12 (eng := .inl peng)

theorem State.placeItem_within {s : State} {lane : ℕ} {ops : ℕ} {secure : Bool} {task : optParam (Option ℕ) none} (peng : Part.eng ∈ T) (h0' : Within T s0 s) : Within T s0 (State.placeItem s lane ops secure task) := by
  unfold State.placeItem
  extract_lets s1
  rename_i x2
  clear_value s1 x2
  exact within_upd h0' (eng := .inl peng)

theorem State.popEntry_within {s : State} {i : ℕ} (pregs : Part.regs ∈ T) (peng : Part.eng ∈ T) (h0' : Within T s0 s) : Within T s0 (State.popEntry s i) := by
  unfold State.popEntry
  split
  · rename_i x1 e2
    refine State.wr_within pregs ?_
    exact h0'
  · rename_i x3 x4 e5
    extract_lets s6 s7 s8 s9
    rename_i x10
    have h11 : Within T s0 s8 := by
      unfold s8
      refine within_ite ?_ ?_
      · refine State.refill_within pregs ?_
        refine State.setRing_within peng ?_
        exact h0'
      · exact h0'
    have h12 : Within T s0 s9 := by
      unfold s9
      refine State.wr_within pregs ?_
      exact h11
    clear_value s6 s7 s8 s9 x10
    exact within_upd h12 (eng := .inl peng)

theorem State.push_within {s : State} {q : ℕ} {bytes : List Byte} {used : Bool} (pregs : Part.regs ∈ T) (pq91 : Part.q91 ∈ T) (prk : Part.rk ∈ T) (pscan : Part.scan ∈ T) (peng : Part.eng ∈ T) (h0' : Within T s0 s) : Within T s0 (State.push s q bytes used).1 := by
  unfold State.push
  extract_lets s1 s2 s3 s4
  rename_i s5
  have h6 : Within T s0 s5 := by
    unfold s5
    refine State.setRing_within peng ?_
    exact h0'
  clear_value s1 s2 s3 s4 s5
  split
  · rename_i e7
    dsimp only
    refine State.raise_within pregs pq91 prk pscan ?_
    refine State.bump_within pregs ?_
    exact h0'
  · rename_i e8
    dsimp only
    refine State.refill_within pregs ?_
    refine within_foldl ?_ ?_
    · exact h6
    · intro s9 x10 h11
      refine State.overrun_within pregs pq91 prk pscan peng ?_
      exact h11

theorem State.refreshDeques_within {s : State} (pregs : Part.regs ∈ T) (h0' : Within T s0 s) : Within T s0 (State.refreshDeques s) := by
  unfold State.refreshDeques
  extract_lets s1
  have h2 : Within T s0 s1 := by
    unfold s1
    refine within_foldl ?_ ?_
    · exact h0'
    · intro s3 x4 h5
      extract_lets s6
      clear_value s6
      refine State.setFill_within pregs ?_
      refine State.wr_within pregs ?_
      exact h5
  clear_value s1
  refine within_foldl ?_ ?_
  · exact h2
  · intro s7 x8 h9
    extract_lets s10 s11
    have h12 : Within T s0 s11 := by
      unfold s11
      refine State.wr_within pregs ?_
      exact h9
    clear_value s10 s11
    refine within_ite ?_ ?_
    · refine State.wr_within pregs ?_
      exact h12
    · exact h12

theorem State.selectRing_within {s : State} {i : ℕ} {ring : ℕ} (pregs : Part.regs ∈ T) (peng : Part.eng ∈ T) (h0' : Within T s0 s) : Within T s0 (State.selectRing s i ring) := by
  unfold State.selectRing
  extract_lets s1 s2 s3
  rename_i x4
  have h5 : Within T s0 s3 := by
    unfold s3
    refine State.wr_within pregs ?_
    exact h0'
  clear_value s1 s2 s3 x4
  exact within_upd h5 (eng := .inl peng)

theorem State.setSram_within {s : State} {e : ℕ} {m : LocalSram} (peng : Part.eng ∈ T) (h0' : Within T s0 s) : Within T s0 (State.setSram s e m) := by
  unfold State.setSram
  exact within_upd h0' (eng := .inl peng)

theorem State.takeItem_within {s : State} {e : ℕ} (pregs : Part.regs ∈ T) (peng : Part.eng ∈ T) (h0' : Within T s0 s) : Within T s0 (State.takeItem s e) := by
  unfold State.takeItem
  refine within_ite ?_ ?_
  · exact h0'
  · split
    · rename_i x1 e2
      exact h0'
    · rename_i x3 x4 e5
      extract_lets s6 s7 s8
      rename_i s9 x10 s11 x12
      have h13 : Within T s0 s6 := by
        unfold s6
        refine State.graft_within pregs peng ?_
        exact h0'
      have h14 : Within T s0 s8 := by
        unfold s8
        refine within_ite ?_ ?_
        · exact within_upd h13 (eng := .inl peng)
        · exact within_upd h13 (eng := .inl peng)
      have h15 : Within T s0 s9 := by
        unfold s9
        refine within_ite ?_ ?_
        · exact h0'
        · refine State.wr_within pregs ?_
          refine State.wr_within pregs ?_
          exact h14
      have h16 : Within T s0 s11 := by
        unfold s11
        refine State.setSram_within peng ?_
        exact h15
      clear_value s6 s7 s8 s9 x10 s11 x12
      exact within_upd h16 (eng := .inl peng)

theorem State.wakeEngines_within {s : State} (pregs : Part.regs ∈ T) (peng : Part.eng ∈ T) (h0' : Within T s0 s) : Within T s0 (State.wakeEngines s) := by
  unfold State.wakeEngines
  refine State.refreshDeques_within pregs ?_
  refine within_foldl ?_ ?_
  · exact h0'
  · intro s1 x2 h3
    refine State.takeItem_within pregs peng ?_
    exact h3

/-! ## Almanac -/

theorem State.wr64_within {s : State} {lo : Fld} {hi : Fld} {n : ℕ} (pregs : Part.regs ∈ T) (h0' : Within T s0 s) : Within T s0 (State.wr64 s lo hi n) := by
  unfold State.wr64
  refine State.wr_within pregs ?_
  refine State.wr_within pregs ?_
  exact h0'

theorem State.almAccept_within {s : State} {x : Sub} (pregs : Part.regs ∈ T) (pout : Part.out ∈ T) (pq91 : Part.q91 ∈ T) (prk : Part.rk ∈ T) (pscan : Part.scan ∈ T) (ppair : Part.pair ∈ T) (palm : Part.alm ∈ T) (h0' : Within T s0 s) : Within T s0 (State.almAccept s x) := by
  unfold State.almAccept
  extract_lets s1 s2 s3 s4 s5 s6
  rename_i s7
  have h8 : Within T s0 s4 := by
    unfold s4
    exact within_upd h0' (alm := .inl palm)
  have h9 : Within T s0 s5 := by
    unfold s5
    refine State.wr64_within pregs ?_
    exact h8
  have h10 : Within T s0 s6 := by
    unfold s6
    refine within_ite ?_ ?_
    · refine State.raise_within pregs pq91 prk pscan ?_
      exact h9
    · exact h9
  have h11 : Within T s0 s7 := by
    unfold s7
    refine within_ite ?_ ?_
    · refine State.raise_within pregs pq91 prk pscan ?_
      exact h10
    · exact h10
  clear_value s1 s2 s3 s4 s5 s6 s7
  refine State.mirror_within pout ppair ?_
  exact h11

theorem State.almRegs_within {s : State} (pregs : Part.regs ∈ T) (pq91 : Part.q91 ∈ T) (prk : Part.rk ∈ T) (pscan : Part.scan ∈ T) (h0' : Within T s0 s) : Within T s0 (State.almRegs s) := by
  unfold State.almRegs
  extract_lets s1 s2 s3 s4 s5 s6 s7 s8 s9 s10 s11 s12
  have h13 : Within T s0 s1 := by
    unfold s1
    split
    · rename_i x14 e15
      refine State.wr64_within pregs ?_
      exact h0'
    · rename_i x16 x17 x18 e19
      refine State.wr64_within pregs ?_
      exact h0'
  have h20 : Within T s0 s3 := by
    unfold s3
    refine State.wr_within pregs ?_
    refine State.wr_within pregs ?_
    exact h13
  have h21 : Within T s0 s4 := by
    unfold s4
    refine State.setFill_within pregs ?_
    refine State.wrB_within pregs ?_
    exact h20
  have h22 : Within T s0 s5 := by
    unfold s5
    refine State.wr_within pregs ?_
    exact h21
  have h23 : Within T s0 s8 := by
    unfold s8
    refine State.wrB_within pregs ?_
    exact h22
  have h24 : Within T s0 s9 := by
    unfold s9
    refine within_ite ?_ ?_
    · refine State.raise_within pregs pq91 prk pscan ?_
      exact h23
    · exact h23
  have h25 : Within T s0 s12 := by
    unfold s12
    refine State.wrB_within pregs ?_
    exact h24
  clear_value s1 s2 s3 s4 s5 s6 s7 s8 s9 s10 s11 s12
  refine within_ite ?_ ?_
  · refine State.raise_within pregs pq91 prk pscan ?_
    exact h25
  · exact h25

theorem State.almCompact_within {s : State} (pregs : Part.regs ∈ T) (pq91 : Part.q91 ∈ T) (prk : Part.rk ∈ T) (pscan : Part.scan ∈ T) (pnvm : Part.nvm ∈ T) (palm : Part.alm ∈ T) (h0' : Within T s0 s) : Within T s0 (State.almCompact s) := by
  unfold State.almCompact
  split
  · rename_i x1 e2
    exact h0'
  · rename_i x3 x4 e5
    refine within_ite ?_ ?_
    · exact h0'
    · extract_lets s6
      rename_i x7
      clear_value s6 x7
      refine State.almRegs_within pregs pq91 prk pscan ?_
      refine State.erase_within pregs pnvm ?_
      exact within_upd h0' (alm := .inl palm)

theorem State.almDrop_within {s : State} {sev : ℕ} (pregs : Part.regs ∈ T) (pq91 : Part.q91 ∈ T) (prk : Part.rk ∈ T) (pscan : Part.scan ∈ T) (h0' : Within T s0 s) : Within T s0 (State.almDrop s sev) := by
  unfold State.almDrop
  refine State.raise_within pregs pq91 prk pscan ?_
  refine State.bump_within pregs ?_
  exact h0'

theorem State.displace_within {s : State} {r : AlmRec} (pregs : Part.regs ∈ T) (pq91 : Part.q91 ∈ T) (prk : Part.rk ∈ T) (pscan : Part.scan ∈ T) (palm : Part.alm ∈ T) (h0' : Within T s0 s) : Within T s0 (State.displace s r) := by
  unfold State.displace
  extract_lets s1 s2 s3
  rename_i s4
  have h5 : Within T s0 s4 := by
    unfold s4
    refine State.raise_within pregs pq91 prk pscan ?_
    refine State.bump_within pregs ?_
    exact within_upd h0' (alm := .inl palm)
  clear_value s1 s2 s3 s4
  refine within_foldl ?_ ?_
  · exact h5
  · intro s6 x7 h8
    refine within_ite ?_ ?_
    · refine State.wrB_within pregs ?_
      exact h8
    · exact h8

theorem State.almTake_within {s : State} (pregs : Part.regs ∈ T) (pout : Part.out ∈ T) (pq91 : Part.q91 ∈ T) (prk : Part.rk ∈ T) (pscan : Part.scan ∈ T) (ppair : Part.pair ∈ T) (palm : Part.alm ∈ T) (h0' : Within T s0 s) : Within T s0 (State.almTake s) := by
  unfold State.almTake
  split
  · rename_i x1 e2
    exact h0'
  · rename_i x3 x4 x5 e6
    extract_lets s7
    rename_i s8
    have h9 : Within T s0 s7 := by
      unfold s7
      refine State.setFill_within pregs ?_
      exact h0'
    have h10 : Within T s0 s8 := by
      unfold s8
      refine State.setFill_within pregs ?_
      exact within_upd h9 (q91 := .inl pq91)
    clear_value s7 s8
    refine State.almRegs_within pregs pq91 prk pscan ?_
    split
    · rename_i x11 e12
      refine State.almDrop_within pregs pq91 prk pscan ?_
      exact h10
    · rename_i x13 x14 e15
      refine State.almAccept_within pregs pout pq91 prk pscan ppair palm ?_
      refine within_foldl ?_ ?_
      · exact h10
      · intro s16 x17 h18
        refine State.displace_within pregs pq91 prk pscan palm ?_
        exact h18

theorem State.almDrain_within {s : State} (pregs : Part.regs ∈ T) (pout : Part.out ∈ T) (pq91 : Part.q91 ∈ T) (prk : Part.rk ∈ T) (pscan : Part.scan ∈ T) (ppair : Part.pair ∈ T) (palm : Part.alm ∈ T) (h0' : Within T s0 s) : Within T s0 (State.almDrain s) := by
  unfold State.almDrain
  refine within_foldl ?_ ?_
  · exact h0'
  · intro s1 x2 h3
    refine State.almTake_within pregs pout pq91 prk pscan ppair palm ?_
    exact h3

theorem State.almLatch_within {s : State} {i : ℕ} (pregs : Part.regs ∈ T) (h0' : Within T s0 s) : Within T s0 (State.almLatch s i) := by
  unfold State.almLatch
  extract_lets s1 s2
  clear_value s1 s2
  refine State.wr64_within pregs ?_
  refine State.wr64_within pregs ?_
  exact h0'

theorem State.almMigrate_within {s : State} {pass : Bool} (pregs : Part.regs ∈ T) (pq91 : Part.q91 ∈ T) (prk : Part.rk ∈ T) (pscan : Part.scan ∈ T) (palm : Part.alm ∈ T) (h0' : Within T s0 s) : Within T s0 (State.almMigrate s pass) := by
  unfold State.almMigrate
  split
  · rename_i x1 e2
    exact h0'
  · rename_i x3 x4 x5 e6
    refine within_ite ?_ ?_
    · exact h0'
    · extract_lets s7 s8
      rename_i x9 s10 x11 s12 s13
      have h14 : Within T s0 s10 := by
        unfold s10
        exact within_upd h0' (alm := .inl palm)
      have h15 : Within T s0 s12 := by
        unfold s12
        exact within_upd h0' (alm := .inl palm)
      have h16 : Within T s0 s13 := by
        unfold s13
        refine State.raise_within pregs pq91 prk pscan ?_
        refine State.raise_within pregs pq91 prk pscan ?_
        refine State.bump_within pregs ?_
        exact h15
      clear_value s7 s8 x9 s10 x11 s12 s13
      refine within_ite ?_ ?_
      · refine State.almRegs_within pregs pq91 prk pscan ?_
        refine within_ite ?_ ?_
        · refine State.retryPass_within pregs pq91 ?_
          exact h14
        · exact h14
      · refine within_ite ?_ ?_
        · exact within_upd h0' (alm := .inl palm)
        · refine State.almRegs_within pregs pq91 prk pscan ?_
          refine State.record_within pq91 ?_
          refine State.lasting_within pregs ?_
          exact h16

theorem State.almRecover_within {s : State} {torn : Bool} (pregs : Part.regs ∈ T) (pq91 : Part.q91 ∈ T) (prk : Part.rk ∈ T) (pscan : Part.scan ∈ T) (palm : Part.alm ∈ T) (h0' : Within T s0 s) : Within T s0 (State.almRecover s torn) := by
  unfold State.almRecover
  extract_lets s1 s2 s3
  clear_value s1 s2 s3
  refine State.almRegs_within pregs pq91 prk pscan ?_
  exact within_upd h0' (q91 := .inl pq91) (alm := .inl palm)

theorem State.almSelect_within {s : State} {i : ℕ} {data : ℕ} (pregs : Part.regs ∈ T) (palm : Part.alm ∈ T) (h0' : Within T s0 s) : Within T s0 (State.almSelect s i data) := by
  unfold State.almSelect
  extract_lets s1 s2 s3 s4 s5 s6
  rename_i s7 x8
  have h9 : Within T s0 s1 := by
    unfold s1
    refine State.wr_within pregs ?_
    exact h0'
  have h10 : Within T s0 s6 := by
    unfold s6
    refine State.wrB_within pregs ?_
    refine State.wrB_within pregs ?_
    exact h9
  have h11 : Within T s0 s7 := by
    unfold s7
    refine State.wr_within pregs ?_
    refine State.wr64_within pregs ?_
    exact h10
  clear_value s1 s2 s3 s4 s5 s6 s7 x8
  split
  · rename_i x12
    exact within_upd h11 (alm := .inl palm)
  · rename_i x13 x14
    extract_lets s15
    have h16 : Within T s0 s15 := by
      unfold s15
      refine State.wr_within pregs ?_
      refine State.wr64_within pregs ?_
      exact h10
    clear_value s15
    exact within_upd h16 (alm := .inl palm)

theorem State.evrecCmd_within {s : State} {who : Initiator} {data : ℕ} (pregs : Part.regs ∈ T) (h0' : Within T s0 s) : Within T s0 (State.evrecCmd s who data) := by
  unfold State.evrecCmd
  refine within_ite ?_ ?_
  · refine State.almLatch_within pregs ?_
    exact h0'
  · exact h0'

theorem State.startRecord_within {s : State} (pq91 : Part.q91 ∈ T) (h0' : Within T s0 s) : Within T s0 (State.startRecord s) := by
  unfold State.startRecord
  refine State.record_within pq91 ?_
  exact h0'

/-! ## AlmFam -/

theorem execAlmanacMigration_within {pass : Bool} {s : State} (pregs : Part.regs ∈ T) (pq91 : Part.q91 ∈ T) (prk : Part.rk ∈ T) (pscan : Part.scan ∈ T) (palm : Part.alm ∈ T) (h1' : Within T s0 s) : ∃ u', (execAlmanacMigration pass s) = .next u' ∧ Within T s0 u' := by
  unfold execAlmanacMigration
  refine ⟨_, rfl, ?_⟩
  refine State.almMigrate_within pregs pq91 prk pscan palm ?_
  exact h1'

theorem execAlmanacSubmission_within {s : State} (pregs : Part.regs ∈ T) (pout : Part.out ∈ T) (pq91 : Part.q91 ∈ T) (prk : Part.rk ∈ T) (pscan : Part.scan ∈ T) (ppair : Part.pair ∈ T) (palm : Part.alm ∈ T) (h0' : Within T s0 s) : ∃ u', (execAlmanacSubmission s) = .next u' ∧ Within T s0 u' := by
  unfold execAlmanacSubmission
  refine ⟨_, rfl, ?_⟩
  refine State.almTake_within pregs pout pq91 prk pscan ppair palm ?_
  exact h0'

theorem execCompactionComplete_within {s : State} (pregs : Part.regs ∈ T) (pq91 : Part.q91 ∈ T) (prk : Part.rk ∈ T) (pscan : Part.scan ∈ T) (pnvm : Part.nvm ∈ T) (palm : Part.alm ∈ T) (h0' : Within T s0 s) : ∃ u', (execCompactionComplete s) = .next u' ∧ Within T s0 u' := by
  unfold execCompactionComplete
  refine ⟨_, rfl, ?_⟩
  refine State.almCompact_within pregs pq91 prk pscan pnvm palm ?_
  exact h0'

theorem execLatchCmd_within {who : Initiator} {s : State} (pregs : Part.regs ∈ T) (paccErr : Part.accErr ∈ T) (pq91 : Part.q91 ∈ T) (phost : Part.host ∈ T) (h1' : Within T s0 s) : ∃ u', (execLatchCmd who s) = .next u' ∧ Within T s0 u' := by
  unfold execLatchCmd
  refine ⟨_, rfl, ?_⟩
  refine State.asWrite_within pregs paccErr pq91 phost ?_ ?_
  · exact h1'
  · intro s1 h2
    refine State.evrecCmd_within pregs ?_
    exact h2

theorem execRseqSelect_within {who : Initiator} {hi : Word} {s : State} (pregs : Part.regs ∈ T) (paccErr : Part.accErr ∈ T) (pq91 : Part.q91 ∈ T) (phost : Part.host ∈ T) (palm : Part.alm ∈ T) (h2' : Within T s0 s) : ∃ u', (execRseqSelect who hi s) = .next u' ∧ Within T s0 u' := by
  unfold execRseqSelect
  refine ⟨_, rfl, ?_⟩
  refine State.asWrite_within pregs paccErr pq91 phost ?_ ?_
  · exact h2'
  · intro s1 h2
    refine State.almSelect_within pregs palm ?_
    exact h2

/-! ## Pwm -/

theorem State.refreshGates_within {s : State} (pregs : Part.regs ∈ T) (h0' : Within T s0 s) : Within T s0 (State.refreshGates s) := by
  unfold State.refreshGates
  refine State.wrB_within pregs ?_
  exact h0'

theorem State.askEnables_within {s : State} (pregs : Part.regs ∈ T) (pprot : Part.prot ∈ T) (h0' : Within T s0 s) : Within T s0 (State.askEnables s) := by
  unfold State.askEnables
  extract_lets s1 s2
  rename_i s3
  have h4 : Within T s0 s3 := by
    unfold s3
    exact within_upd h0' (prot := .inl pprot)
  clear_value s1 s2 s3
  refine State.refreshGates_within pregs ?_
  refine State.wrB_within pregs ?_
  refine State.wrB_within pregs ?_
  exact h4

theorem State.computeEdges_within {s : State} {n : ℕ} (pregs : Part.regs ∈ T) (ppwm : Part.pwm ∈ T) (h0' : Within T s0 s) : Within T s0 (State.computeEdges s n) := by
  unfold State.computeEdges
  extract_lets s1 s2 s3 s4 s5 s6 s7 s8 s9 s10 s11 s12 s13 s14 s15 s16 s17 s18 s19 s20
  clear_value s17
  have h21 : Within T s0 s20 := by
    unfold s20
    refine within_ite ?_ ?_
    · refine State.bump_within pregs ?_
      exact h0'
    · exact h0'
  clear_value s1 s2 s3 s4 s5 s6 s7 s8 s9 s10 s11 s12 s13 s14 s15 s16 s18 s19 s20
  refine State.setPhase_within ppwm ?_
  exact h21

theorem State.dropEnables_within {s : State} (pregs : Part.regs ∈ T) (pprot : Part.prot ∈ T) (h0' : Within T s0 s) : Within T s0 (State.dropEnables s) := by
  unfold State.dropEnables
  extract_lets s1
  rename_i s2
  have h3 : Within T s0 s2 := by
    unfold s2
    exact within_upd h0' (prot := .inl pprot)
  clear_value s1 s2
  refine State.refreshGates_within pregs ?_
  refine State.wrB_within pregs ?_
  refine State.wrB_within pregs ?_
  exact h3

theorem State.gatesOff_within {s : State} (pregs : Part.regs ∈ T) (ppwm : Part.pwm ∈ T) (ploop : Part.loop ∈ T) (h0' : Within T s0 s) : Within T s0 (State.gatesOff s) := by
  unfold State.gatesOff
  extract_lets s1 s2 s3
  rename_i x4 x5
  have h6 : Within T s0 s1 := by
    unfold s1
    refine within_foldl ?_ ?_
    · exact h0'
    · intro s7 x8 h9
      extract_lets s10
      have h11 : Within T s0 s10 := by
        unfold s10
        refine within_ite ?_ ?_
        · exact h9
        · refine State.wr_within pregs ?_
          exact h9
      clear_value s10
      refine State.setPhase_within ppwm ?_
      refine State.wrB_within pregs ?_
      exact h11
  have h12 : Within T s0 s2 := by
    unfold s2
    refine State.wr_within pregs ?_
    refine State.wr_within pregs ?_
    exact h6
  have h13 : Within T s0 s3 := by
    unfold s3
    refine State.wrB_within pregs ?_
    refine State.wr_within pregs ?_
    refine State.wrB_within pregs ?_
    exact h12
  clear_value s1 s2 s3 x4 x5
  exact within_upd h13 (pwm := .inl ppwm) (loop := .inl ploop)

theorem State.refreshLight_within {s : State} (pregs : Part.regs ∈ T) (h0' : Within T s0 s) : Within T s0 (State.refreshLight s) := by
  unfold State.refreshLight
  refine within_ite ?_ ?_
  · refine State.wr_within pregs ?_
    exact h0'
  · exact h0'

theorem State.setRunning_within {s : State} {n : ℕ} {b : Bool} (pregs : Part.regs ∈ T) (h0' : Within T s0 s) : Within T s0 (State.setRunning s n b) := by
  unfold State.setRunning
  extract_lets s1
  have h2 : Within T s0 s1 := by
    unfold s1
    refine State.wrBit_within pregs ?_
    exact h0'
  clear_value s1
  refine State.wr_within pregs ?_
  exact h2

theorem State.spread_within {s : State} (ppwm : Part.pwm ∈ T) (h0' : Within T s0 s) : Within T s0 (State.spread s) := by
  unfold State.spread
  extract_lets s1
  clear_value s1
  refine within_foldl ?_ ?_
  · exact h0'
  · intro s2 x3 h4
    split
    rename_i x5 x6 x7
    refine State.setPhase_within ppwm ?_
    exact h4

theorem State.startSome_within {s : State} {which : ℕ → Bool} (pregs : Part.regs ∈ T) (ppwm : Part.pwm ∈ T) (h0' : Within T s0 s) : Within T s0 (State.startSome s which) := by
  unfold State.startSome
  extract_lets s1 s2 s3 s4
  rename_i x5
  have h6 : Within T s0 s2 := by
    unfold s2
    refine within_foldl ?_ ?_
    · exact h0'
    · intro s7 x8 h9
      refine within_ite ?_ ?_
      · refine State.setPhase_within ppwm ?_
        refine State.setRunning_within pregs ?_
        refine State.wr_within pregs ?_
        exact h9
      · exact h9
  have h10 : Within T s0 s4 := by
    unfold s4
    exact within_upd h6 (pwm := .inl ppwm)
  clear_value s1 s2 s3 s4 x5
  refine State.refreshGates_within pregs ?_
  refine within_foldl ?_ ?_
  · exact h10
  · intro s11 x12 h13
    split
    rename_i x14 x15 x16
    refine State.wr_within pregs ?_
    exact h13

theorem State.startPhases_within {s : State} (pregs : Part.regs ∈ T) (ppwm : Part.pwm ∈ T) (h0' : Within T s0 s) : Within T s0 (State.startPhases s) := by
  unfold State.startPhases
  refine State.startSome_within pregs ppwm ?_
  exact h0'

/-! ## LoopEngine -/

theorem State.clearHistories_within {s : State} (ploop : Part.loop ∈ T) (h0' : Within T s0 s) : Within T s0 (State.clearHistories s) := by
  unfold State.clearHistories
  exact within_upd h0' (loop := .inl ploop)

theorem State.eval2P2Z_within {s : State} {k : ℕ} {e : ℤ} (pregs : Part.regs ∈ T) (ploop : Part.loop ∈ T) (h0' : Within T s0 s) : Within T s0 (State.eval2P2Z s k e).2 := by
  unfold State.eval2P2Z
  extract_lets s1 s2 s3 s4
  have h5 : Within T s0 s4 := by
    unfold s4
    exact within_upd h0' (loop := .inl ploop)
  clear_value s1 s2 s3 s4
  dsimp only
  refine State.wrB_within pregs ?_
  refine State.wrI_within pregs ?_
  exact h5

theorem State.setInteg_within {s : State} {k : ℕ} {x : ℤ} (pregs : Part.regs ∈ T) (h0' : Within T s0 s) : Within T s0 (State.setInteg s k x) := by
  unfold State.setInteg
  extract_lets s1
  clear_value s1
  refine State.wr_within pregs ?_
  refine State.wr_within pregs ?_
  exact h0'

theorem State.evalPI_within {s : State} {k : ℕ} {flip : Bool} {rEff : ℤ} {y : ℤ} {conv : optParam (ℤ → ℤ) fun x => 0} {freeze : optParam Bool false} (pregs : Part.regs ∈ T) (ploop : Part.loop ∈ T) (h0' : Within T s0 s) : Within T s0 (State.evalPI s k flip rEff y conv freeze).2 := by
  unfold State.evalPI
  extract_lets s1 s2 s3 s4 s5 s6 s7 s8 s9 s10 s11 s12 s13 s14 s15 s16 s17 s18
  rename_i x19
  have h20 : Within T s0 s16 := by
    unfold s16
    refine State.wrI_within pregs ?_
    refine State.setInteg_within pregs ?_
    exact h0'
  have h21 : Within T s0 s17 := by
    unfold s17
    refine State.wrB_within pregs ?_
    refine State.wr_within pregs ?_
    exact h20
  have h22 : Within T s0 s18 := by
    unfold s18
    refine within_ite ?_ ?_
    · refine State.bump_within pregs ?_
      exact h21
    · exact h21
  clear_value s1 s2 s3 s4 s5 s6 s7 s8 s9 s10 s11 s12 s13 s14 s15 s16 s17 s18 x19
  dsimp only
  exact within_upd h22 (loop := .inl ploop)

theorem State.evalEnergising_within {s : State} {n : ℕ} {y : ℤ} (pregs : Part.regs ∈ T) (ploop : Part.loop ∈ T) (h0' : Within T s0 s) : Within T s0 (State.evalEnergising s n y).2 := by
  unfold State.evalEnergising
  split
  · rename_i e1
    extract_lets s2 s3 s4
    clear_value s4
    clear_value s2 s3
    split
    rename_i s5 x6 s7 e8
    have h9 : Within T s0 s7 := by
      refine within_of_snd e8 ?_
      refine State.evalPI_within pregs ploop ?_
      exact h0'
    dsimp only
    exact h9
  · rename_i e10
    dsimp only
    exact h0'

theorem State.evalInner_within {s : State} {n : ℕ} {y : ℤ} (pregs : Part.regs ∈ T) (ploop : Part.loop ∈ T) (h0' : Within T s0 s) : Within T s0 (State.evalInner s n y).2 := by
  unfold State.evalInner
  extract_lets s1 s2
  clear_value s1 s2
  split
  · rename_i e3
    split
    rename_i s4 x5 s6 e7
    have h8 : Within T s0 s6 := by
      refine within_of_snd e7 ?_
      refine State.evalPI_within pregs ploop ?_
      exact h0'
    dsimp only
    exact h8
  · rename_i e9
    dsimp only
    exact h0'

theorem State.freezeAll_within {s : State} {b : Bool} (pregs : Part.regs ∈ T) (h0' : Within T s0 s) : Within T s0 (State.freezeAll s b) := by
  unfold State.freezeAll
  refine within_foldl ?_ ?_
  · exact h0'
  · intro s1 x2 h3
    refine State.wrB_within pregs ?_
    exact h3

theorem State.presetEntry_within {s : State} (pregs : Part.regs ∈ T) (ploop : Part.loop ∈ T) (h0' : Within T s0 s) : Within T s0 (State.presetEntry s) := by
  unfold State.presetEntry
  extract_lets s1 s2
  rename_i s3
  have h4 : Within T s0 s1 := by
    unfold s1
    refine State.clearHistories_within ploop ?_
    refine within_foldl ?_ ?_
    · exact h0'
    · intro s5 x6 h7
      refine State.setInteg_within pregs ?_
      exact h7
  have h8 : Within T s0 s3 := by
    unfold s3
    exact within_upd h4 (loop := .inl ploop)
  clear_value s1 s2 s3
  refine State.wrB_within pregs ?_
  refine State.freezeAll_within pregs ?_
  exact h8

theorem State.presetTo_within {s : State} {k : ℕ} {x : ℤ} (ploop : Part.loop ∈ T) (h0' : Within T s0 s) : Within T s0 (State.presetTo s k x) := by
  unfold State.presetTo
  exact within_upd h0' (loop := .inl ploop)

theorem State.rampRef_within {s : State} {k : ℕ} {r : ℤ} {y : ℤ} (ploop : Part.loop ∈ T) (h0' : Within T s0 s) : Within T s0 (State.rampRef s k r y).2 := by
  unfold State.rampRef
  extract_lets s1 s2 s3
  rename_i x4
  clear_value s1 s2 s3 x4
  dsimp only
  exact within_upd h0' (loop := .inl ploop)

theorem State.releaseLock_within {s : State} (pregs : Part.regs ∈ T) (ploop : Part.loop ∈ T) (h0' : Within T s0 s) : Within T s0 (State.releaseLock s) := by
  unfold State.releaseLock
  refine State.clearHistories_within ploop ?_
  refine State.wrB_within pregs ?_
  exact h0'

/-! ## Contact -/

theorem State.countLoaded_within {s : State} {k : ℕ} (pregs : Part.regs ∈ T) (pq91 : Part.q91 ∈ T) (prk : Part.rk ∈ T) (pscan : Part.scan ∈ T) (h0' : Within T s0 s) : Within T s0 (State.countLoaded s k) := by
  unfold State.countLoaded
  refine within_ite ?_ ?_
  · refine State.raise_within pregs pq91 prk pscan ?_
    refine State.bump_within pregs ?_
    exact h0'
  · exact h0'

theorem State.release_within {s : State} {k : ℕ} (pregs : Part.regs ∈ T) (pq91 : Part.q91 ∈ T) (ptrack : Part.track ∈ T) (prk : Part.rk ∈ T) (pscan : Part.scan ∈ T) (h0' : Within T s0 s) : Within T s0 (State.release s k) := by
  unfold State.release
  refine within_ite ?_ ?_
  · extract_lets s1
    have h2 : Within T s0 s1 := by
      unfold s1
      refine State.countLoaded_within pregs pq91 prk pscan ?_
      exact h0'
    clear_value s1
    refine State.setCoil_within ptrack ?_
    refine State.wrBit_within pregs ?_
    exact h2
  · refine State.setCoil_within ptrack ?_
    exact h0'

theorem State.releaseAll_within {s : State} {ks : List ℕ} (pregs : Part.regs ∈ T) (pq91 : Part.q91 ∈ T) (ptrack : Part.track ∈ T) (prk : Part.rk ∈ T) (pscan : Part.scan ∈ T) (h0' : Within T s0 s) : Within T s0 (State.releaseAll s ks) := by
  unfold State.releaseAll
  refine within_foldl ?_ ?_
  · exact h0'
  · intro s1 x2 h3
    refine State.release_within pregs pq91 ptrack prk pscan ?_
    exact h3

theorem State.cutFeed_within {s : State} (pregs : Part.regs ∈ T) (pq91 : Part.q91 ∈ T) (ptrack : Part.track ∈ T) (prk : Part.rk ∈ T) (pscan : Part.scan ∈ T) (h0' : Within T s0 s) : Within T s0 (State.cutFeed s) := by
  unfold State.cutFeed
  refine State.releaseAll_within pregs pq91 ptrack prk pscan ?_
  refine State.wrB_within pregs ?_
  exact h0'

theorem State.energise_within {s : State} {k : ℕ} {attempt : optParam ℕ 1} (pregs : Part.regs ∈ T) (ptrack : Part.track ∈ T) (h0' : Within T s0 s) : Within T s0 (State.energise s k attempt) := by
  unfold State.energise
  refine within_ite ?_ ?_
  · refine State.setCoil_within ptrack ?_
    exact h0'
  · refine State.setCoil_within ptrack ?_
    refine State.wrBit_within pregs ?_
    exact h0'

theorem State.takeVcoil_within {s : State} {v : ℕ} (pregs : Part.regs ∈ T) (pq91 : Part.q91 ∈ T) (prk : Part.rk ∈ T) (pscan : Part.scan ∈ T) (h0' : Within T s0 s) : Within T s0 (State.takeVcoil s v) := by
  unfold State.takeVcoil
  extract_lets s1 s2 s3
  have h4 : Within T s0 s3 := by
    unfold s3
    refine State.wrB_within pregs ?_
    refine State.wr_within pregs ?_
    exact h0'
  clear_value s1 s2 s3
  refine within_ite ?_ ?_
  · refine State.raise_within pregs pq91 prk pscan ?_
    exact h4
  · exact h4

/-! ## RingOps -/

theorem State.sendFrame_within {s : State} {side : ℕ} {c : RingCmd} (pout : Part.out ∈ T) (h0' : Within T s0 s) : Within T s0 (State.sendFrame s side c) := by
  unfold State.sendFrame
  extract_lets s1
  clear_value s1
  refine State.send_within pout ?_
  exact h0'

theorem State.emitCmd_within {s : State} {c : RingCmd} (pout : Part.out ∈ T) (h0' : Within T s0 s) : Within T s0 (State.emitCmd s c) := by
  unfold State.emitCmd
  split
  · rename_i x1 x2 e3
    refine State.sendFrame_within pout ?_
    exact h0'
  · rename_i x4 e5
    refine State.sendFrame_within pout ?_
    refine State.sendFrame_within pout ?_
    exact h0'

theorem State.launchCmd_within {s : State} {c : RingCmd} (pout : Part.out ∈ T) (pringSt : Part.ringSt ∈ T) (h0' : Within T s0 s) : Within T s0 (State.launchCmd s c) := by
  unfold State.launchCmd
  extract_lets s1 s2 s3
  rename_i x4
  have h5 : Within T s0 s3 := by
    unfold s3
    refine State.emitCmd_within pout ?_
    exact h0'
  clear_value s1 s2 s3 x4
  exact within_upd h5 (ringSt := .inl pringSt)

theorem State.sendCmd_within {s : State} {c : RingCmd} (pout : Part.out ∈ T) (pringSt : Part.ringSt ∈ T) (h0' : Within T s0 s) : Within T s0 (State.sendCmd s c) := by
  unfold State.sendCmd
  refine within_ite ?_ ?_
  · exact h0'
  · refine within_ite ?_ ?_
    · refine State.launchCmd_within pout pringSt ?_
      exact h0'
    · exact within_upd h0' (ringSt := .inl pringSt)

theorem State.ringCmd_within {s : State} {node : ℕ} {cmd : ℕ} {payload : optParam (List Byte) []} (pout : Part.out ∈ T) (pringSt : Part.ringSt ∈ T) (h0' : Within T s0 s) : Within T s0 (State.ringCmd s node cmd payload) := by
  unfold State.ringCmd
  refine State.sendCmd_within pout pringSt ?_
  exact h0'

theorem State.balStop_within {s : State} (pregs : Part.regs ∈ T) (pout : Part.out ∈ T) (pq91 : Part.q91 ∈ T) (prk : Part.rk ∈ T) (pscan : Part.scan ∈ T) (pringSt : Part.ringSt ∈ T) (pbal : Part.bal ∈ T) (h0' : Within T s0 s) : Within T s0 (State.balStop s) := by
  unfold State.balStop
  refine within_ite ?_ ?_
  · exact h0'
  · extract_lets s1 s2 s3 s4
    rename_i s5
    have h6 : Within T s0 s1 := by
      unfold s1
      refine State.ringCmd_within pout pringSt ?_
      exact h0'
    have h7 : Within T s0 s3 := by
      unfold s3
      refine within_foldl ?_ ?_
      · exact h6
      · intro s8 x9 h10
        refine State.ringCmd_within pout pringSt ?_
        exact h10
    have h11 : Within T s0 s5 := by
      unfold s5
      exact within_upd h7 (bal := .inl pbal)
    clear_value s1 s2 s3 s4 s5
    refine within_ite ?_ ?_
    · refine State.raise_within pregs pq91 prk pscan ?_
      exact h11
    · exact h11

theorem State.leaveBal_within {s : State} (pregs : Part.regs ∈ T) (pout : Part.out ∈ T) (pq91 : Part.q91 ∈ T) (prk : Part.rk ∈ T) (pscan : Part.scan ∈ T) (pringSt : Part.ringSt ∈ T) (pbal : Part.bal ∈ T) (h0' : Within T s0 s) : Within T s0 (State.leaveBal s) := by
  unfold State.leaveBal
  refine within_ite ?_ ?_
  · refine State.balStop_within pregs pout pq91 prk pscan pringSt pbal ?_
    exact h0'
  · exact h0'

theorem State.stopRing_within {s : State} (pregs : Part.regs ∈ T) (pringSt : Part.ringSt ∈ T) (h0' : Within T s0 s) : Within T s0 (State.stopRing s) := by
  unfold State.stopRing
  extract_lets s1
  rename_i x2
  have h3 : Within T s0 s1 := by
    unfold s1
    refine State.wr_within pregs ?_
    refine State.wr_within pregs ?_
    exact h0'
  clear_value s1 x2
  exact within_upd h3 (ringSt := .inl pringSt)

/-! ## Program -/

theorem State.setTask_within {s : State} {t : ℕ} {x : ScanTask} (pscan : Part.scan ∈ T) (h0' : Within T s0 s) : Within T s0 (State.setTask s t x) := by
  unfold State.setTask
  exact within_upd h0' (scan := .inl pscan)

theorem State.taskOff_within {s : State} {t : ℕ} (pregs : Part.regs ∈ T) (pscan : Part.scan ∈ T) (h0' : Within T s0 s) : Within T s0 (State.taskOff s t) := by
  unfold State.taskOff
  extract_lets s1 s2 s3
  rename_i s4
  have h5 : Within T s0 s4 := by
    unfold s4
    exact within_upd h0' (scan := .inl pscan)
  clear_value s1 s2 s3 s4
  refine State.wr_within pregs ?_
  exact h5

theorem State.haltTasks_within {s : State} (pregs : Part.regs ∈ T) (pscan : Part.scan ∈ T) (h0' : Within T s0 s) : Within T s0 (State.haltTasks s) := by
  unfold State.haltTasks
  refine within_foldl ?_ ?_
  · exact h0'
  · intro s1 x2 h3
    refine within_ite ?_ ?_
    · refine State.setTask_within pscan ?_
      exact h3
    · refine State.taskOff_within pregs pscan ?_
      exact h3

theorem State.showProgram_within {s : State} (pregs : Part.regs ∈ T) (h0' : Within T s0 s) : Within T s0 (State.showProgram s) := by
  unfold State.showProgram
  extract_lets s1 s2
  have h3 : Within T s0 s2 := by
    unfold s2
    refine within_foldl ?_ ?_
    · exact h0'
    · intro s4 x5 h6
      refine State.wr_within pregs ?_
      exact h6
  clear_value s1 s2
  refine State.wr_within pregs ?_
  refine State.wr_within pregs ?_
  exact h3

theorem State.takeRetain_within {s : State} {l : List Byte} (pscan : Part.scan ∈ T) (h0' : Within T s0 s) : Within T s0 (State.takeRetain s l) := by
  unfold State.takeRetain
  refine within_foldl_fst ?_ ?_
  · dsimp only
    exact h0'
  · intro s1 x2 h3
    extract_lets s4
    clear_value s4
    dsimp only
    refine State.setTask_within pscan ?_
    exact h3

/-! ## Journal -/

theorem State.setSlot_within {s : State} {j : ℕ} {k : ℕ} {x : JSlot} (pest : Part.est ∈ T) (h0' : Within T s0 s) : Within T s0 (State.setSlot s j k x) := by
  unfold State.setSlot
  refine within_ite ?_ ?_
  · exact within_upd h0' (est := .inl pest)
  · exact within_upd h0' (est := .inl pest)

theorem State.beginWrite_within {s : State} {j : ℕ} {reason : ℕ} (pregs : Part.regs ∈ T) (pest : Part.est ∈ T) (h0' : Within T s0 s) : Within T s0 (State.beginWrite s j reason) := by
  unfold State.beginWrite
  extract_lets s1 s2 s3 s4
  rename_i x5
  have h6 : Within T s0 s3 := by
    unfold s3
    refine State.setSlot_within pest ?_
    exact h0'
  have h7 : Within T s0 s4 := by
    unfold s4
    refine State.wrB_within pregs ?_
    exact h6
  clear_value s1 s2 s3 s4 x5
  exact within_upd h7 (est := .inl pest)

theorem State.journal_within {s : State} {j : ℕ} {reason : ℕ} (pregs : Part.regs ∈ T) (pq91 : Part.q91 ∈ T) (prk : Part.rk ∈ T) (pscan : Part.scan ∈ T) (pest : Part.est ∈ T) (h0' : Within T s0 s) : Within T s0 (State.journal s j reason) := by
  unfold State.journal
  refine within_ite ?_ ?_
  · extract_lets s1
    rename_i x2
    have h3 : Within T s0 s1 := by
      unfold s1
      refine State.raise_within pregs pq91 prk pscan ?_
      refine State.wrB_within pregs ?_
      exact h0'
    clear_value s1 x2
    exact within_upd h3 (est := .inl pest)
  · refine within_ite ?_ ?_
    · exact within_upd h0' (est := .inl pest)
    · refine State.beginWrite_within pregs pest ?_
      exact h0'

theorem State.endWrite_within {s : State} (pregs : Part.regs ∈ T) (pq91 : Part.q91 ∈ T) (prk : Part.rk ∈ T) (pscan : Part.scan ∈ T) (pest : Part.est ∈ T) (h0' : Within T s0 s) : Within T s0 (State.endWrite s) := by
  unfold State.endWrite
  extract_lets s1
  rename_i s2 x3
  have h4 : Within T s0 s2 := by
    unfold s2
    refine State.wrB_within pregs ?_
    exact within_upd h0' (est := .inl pest)
  clear_value s1 s2 x3
  split
  · rename_i x5 e6
    exact h4
  · rename_i x7 x8 x9 x10 e11
    refine State.journal_within pregs pq91 prk pscan pest ?_
    exact within_upd h4 (est := .inl pest)

theorem State.abandonWrite_within {s : State} (pregs : Part.regs ∈ T) (pq91 : Part.q91 ∈ T) (prk : Part.rk ∈ T) (pscan : Part.scan ∈ T) (pest : Part.est ∈ T) (h0' : Within T s0 s) : Within T s0 (State.abandonWrite s) := by
  unfold State.abandonWrite
  refine State.endWrite_within pregs pq91 prk pscan pest ?_
  refine State.raise_within pregs pq91 prk pscan ?_
  refine State.bump_within pregs ?_
  exact h0'

theorem State.commitWrite_within {s : State} (pregs : Part.regs ∈ T) (pq91 : Part.q91 ∈ T) (prk : Part.rk ∈ T) (pscan : Part.scan ∈ T) (pest : Part.est ∈ T) (h0' : Within T s0 s) : Within T s0 (State.commitWrite s) := by
  unfold State.commitWrite
  split
  · rename_i x1 e2
    exact h0'
  · rename_i x3 x4 x5 x6 e7
    extract_lets s8 s9 s10 s11 s12
    rename_i s13
    have h14 : Within T s0 s10 := by
      unfold s10
      refine State.setSlot_within pest ?_
      exact h0'
    have h15 : Within T s0 s11 := by
      unfold s11
      refine State.wr_within pregs ?_
      exact h14
    have h16 : Within T s0 s13 := by
      unfold s13
      refine within_ite ?_ ?_
      · exact within_upd h15 (est := .inl pest)
      · exact h15
    clear_value s8 s9 s10 s11 s12 s13
    refine State.endWrite_within pregs pq91 prk pscan pest ?_
    refine State.raise_within pregs pq91 prk pscan ?_
    refine State.bump_within pregs ?_
    exact h16

theorem State.counterSlot_within {s : State} (ptele : Part.tele ∈ T) (h0' : Within T s0 s) : Within T s0 (State.counterSlot s) := by
  unfold State.counterSlot
  refine within_ite ?_ ?_
  · exact within_upd h0' (tele := .inl ptele)
  · extract_lets s1 s2 s3 s4
    rename_i x5
    clear_value s1 s2 s3 s4 x5
    exact within_upd h0' (tele := .inl ptele)

theorem State.dipInWrite_within {s : State} (pregs : Part.regs ∈ T) (pq91 : Part.q91 ∈ T) (prk : Part.rk ∈ T) (pscan : Part.scan ∈ T) (pest : Part.est ∈ T) (h0' : Within T s0 s) : Within T s0 (State.dipInWrite s) := by
  unfold State.dipInWrite
  refine within_ite ?_ ?_
  · refine State.abandonWrite_within pregs pq91 prk pscan pest ?_
    exact within_upd h0' (est := .inl pest)
  · exact h0'

theorem State.journalBoth_within {s : State} {reason : ℕ} (pregs : Part.regs ∈ T) (pq91 : Part.q91 ∈ T) (prk : Part.rk ∈ T) (pscan : Part.scan ∈ T) (pest : Part.est ∈ T) (h0' : Within T s0 s) : Within T s0 (State.journalBoth s reason) := by
  unfold State.journalBoth
  refine State.journal_within pregs pq91 prk pscan pest ?_
  refine State.journal_within pregs pq91 prk pscan pest ?_
  exact h0'

theorem State.retainSlot_within {s : State} (pscan : Part.scan ∈ T) (pnvm : Part.nvm ∈ T) (h0' : Within T s0 s) : Within T s0 (State.retainSlot s) := by
  unfold State.retainSlot
  refine within_ite ?_ ?_
  · exact within_upd h0' (scan := .inl pscan)
  · extract_lets s1 s2 s3
    rename_i x4 x5
    clear_value s1 s2 s3 x4 x5
    exact within_upd h0' (scan := .inl pscan) (nvm := .inl pnvm)

theorem State.entryStore_within {s : State} {reason : ℕ} (pregs : Part.regs ∈ T) (pq91 : Part.q91 ∈ T) (prk : Part.rk ∈ T) (pscan : Part.scan ∈ T) (pest : Part.est ∈ T) (ptele : Part.tele ∈ T) (pnvm : Part.nvm ∈ T) (h0' : Within T s0 s) : Within T s0 (State.entryStore s reason) := by
  unfold State.entryStore
  extract_lets s1
  have h2 : Within T s0 s1 := by
    unfold s1
    refine State.counterSlot_within ptele ?_
    refine State.journalBoth_within pregs pq91 prk pscan pest ?_
    exact h0'
  clear_value s1
  refine within_ite ?_ ?_
  · refine State.retainSlot_within pscan pnvm ?_
    exact h2
  · exact h2

theorem State.setCell_within {s : State} {c : ℕ} {x : Cell} (pest : Part.est ∈ T) (h0' : Within T s0 s) : Within T s0 (State.setCell s c x) := by
  unfold State.setCell
  exact within_upd h0' (est := .inl pest)

theorem State.restoreLearned_within {s : State} (pregs : Part.regs ∈ T) (pq91 : Part.q91 ∈ T) (prk : Part.rk ∈ T) (pscan : Part.scan ∈ T) (pest : Part.est ∈ T) (h0' : Within T s0 s) : Within T s0 (State.restoreLearned s) := by
  unfold State.restoreLearned
  split
  · rename_i x1 e2
    refine State.raise_within pregs pq91 prk pscan ?_
    exact h0'
  · rename_i x3 x4 e5
    extract_lets s6 s7
    rename_i s8
    have h9 : Within T s0 s8 := by
      unfold s8
      exact within_upd h0' (est := .inl pest)
    clear_value s6 s7 s8
    refine within_foldl ?_ ?_
    · exact h9
    · intro s10 x11 h12
      extract_lets s13 s14
      rename_i x15
      have h16 : Within T s0 s14 := by
        unfold s14
        refine State.wr_within pregs ?_
        exact h12
      clear_value s13 s14 x15
      refine State.setCell_within pest ?_
      exact h16

theorem State.restoreRetain_within {s : State} (pscan : Part.scan ∈ T) (h0' : Within T s0 s) : Within T s0 (State.restoreRetain s) := by
  unfold State.restoreRetain
  extract_lets s1 s2
  clear_value s1 s2
  refine State.takeRetain_within pscan ?_
  exact h0'

theorem State.restoreState_within {s : State} (pregs : Part.regs ∈ T) (pq91 : Part.q91 ∈ T) (prk : Part.rk ∈ T) (pscan : Part.scan ∈ T) (pest : Part.est ∈ T) (h0' : Within T s0 s) : Within T s0 (State.restoreState s) := by
  unfold State.restoreState
  split
  · rename_i x1 e2
    refine State.raise_within pregs pq91 prk pscan ?_
    exact h0'
  · rename_i x3 x4 e5
    extract_lets s6 s7 s8 s9
    rename_i s10
    have h11 : Within T s0 s10 := by
      unfold s10
      exact within_upd h0' (est := .inl pest)
    clear_value s6 s7 s8 s9 s10
    refine within_foldl ?_ ?_
    · exact h11
    · intro s12 x13 h14
      extract_lets s15 s16 s17 s18 s19 s20
      rename_i x21
      clear_value s15 s16 s17 s18 s19 s20 x21
      refine State.setCell_within pest ?_
      exact h14

/-! ## BalOps -/

theorem setMaskBit_within {f : ℕ → Fld} {s : State} {i : ℕ} {b : Bool} (pregs : Part.regs ∈ T) (h1' : Within T s0 s) : Within T s0 (setMaskBit f s i b) := by
  unfold setMaskBit
  refine State.wrBit_within pregs ?_
  exact h1'

theorem State.takeOnTime_within {s : State} {renewed : Bool} {c : ℕ} {new : ℕ} (pregs : Part.regs ∈ T) (pest : Part.est ∈ T) (pbal : Part.bal ∈ T) (h0' : Within T s0 s) : Within T s0 (State.takeOnTime s renewed c new) := by
  unfold State.takeOnTime
  extract_lets s1 s2 s3 s4 s5 s6
  rename_i x7 x8 x9 s10 x11
  have h12 : Within T s0 s4 := by
    unfold s4
    exact within_upd h0' (bal := .inl pbal)
  have h13 : Within T s0 s5 := by
    unfold s5
    refine State.wr_within pregs ?_
    exact h12
  have h14 : Within T s0 s10 := by
    unfold s10
    exact within_upd h13 (bal := .inl pbal)
  clear_value s1 s2 s3 s4 s5 s6 x7 x8 x9 s10 x11
  refine within_ite ?_ ?_
  · exact h13
  · refine within_ite ?_ ?_
    · exact within_upd h13 (bal := .inl pbal)
    · refine within_ite ?_ ?_
      · exact h14
      · exact within_upd h14 (est := .inl pest)

theorem State.bledRead_within {s : State} {n : ℕ} {run : ℕ} (pimp : Part.imp ∈ T) (h0' : Within T s0 s) : Within T s0 (State.bledRead s n run) := by
  unfold State.bledRead
  extract_lets s1 s2 s3
  rename_i s4 x5 x6
  clear_value s2
  have h7 : Within T s0 s4 := by
    unfold s4
    refine within_ite ?_ ?_
    · exact within_upd h0' (imp := .inl pimp)
    · exact h0'
  clear_value s1 s3 s4 x5 x6
  refine within_ite ?_ ?_
  · exact within_upd h7 (imp := .inl pimp)
  · exact h7

theorem State.stopGot_within {s : State} {n : ℕ} (pregs : Part.regs ∈ T) (pq91 : Part.q91 ∈ T) (prk : Part.rk ∈ T) (pscan : Part.scan ∈ T) (pbal : Part.bal ∈ T) (h0' : Within T s0 s) : Within T s0 (State.stopGot s n) := by
  unfold State.stopGot
  refine within_ite ?_ ?_
  · extract_lets s1 s2
    rename_i s3
    have h4 : Within T s0 s3 := by
      unfold s3
      exact within_upd h0' (bal := .inl pbal)
    clear_value s1 s2 s3
    refine within_ite ?_ ?_
    · refine State.raise_within pregs pq91 prk pscan ?_
      exact h4
    · exact h4
  · exact h0'

theorem State.sendPlan_within {s : State} (pregs : Part.regs ∈ T) (pout : Part.out ∈ T) (pq91 : Part.q91 ∈ T) (prk : Part.rk ∈ T) (pscan : Part.scan ∈ T) (pringSt : Part.ringSt ∈ T) (pbal : Part.bal ∈ T) (ppair : Part.pair ∈ T) (h0' : Within T s0 s) : Within T s0 (State.sendPlan s) := by
  unfold State.sendPlan
  extract_lets s1 s2 s3 s4 s5 s6 s7 s8 s9
  rename_i s10
  have h11 : Within T s0 s6 := by
    unfold s6
    refine within_foldl ?_ ?_
    · exact h0'
    · intro s12 x13 h14
      split
      rename_i x15 x16 x17
      refine setMaskBit_within pregs ?_
      exact h14
  have h18 : Within T s0 s7 := by
    unfold s7
    refine within_ite ?_ ?_
    · refine State.raise_within pregs pq91 prk pscan ?_
      exact h11
    · exact h11
  have h19 : Within T s0 s8 := by
    unfold s8
    refine within_foldl ?_ ?_
    · exact h18
    · intro s20 x21 h22
      split
      rename_i x23 x24 x25
      refine State.ringCmd_within pout pringSt ?_
      exact h22
  have h26 : Within T s0 s10 := by
    unfold s10
    exact within_upd h19 (bal := .inl pbal)
  clear_value s1 s2 s3 s4 s5 s6 s7 s8 s9 s10
  refine State.mirror_within pout ppair ?_
  refine State.raise_within pregs pq91 prk pscan ?_
  refine State.bump_within pregs ?_
  exact h26

theorem State.planGot_within {s : State} {n : ℕ} (pregs : Part.regs ∈ T) (pout : Part.out ∈ T) (pq91 : Part.q91 ∈ T) (prk : Part.rk ∈ T) (pscan : Part.scan ∈ T) (pringSt : Part.ringSt ∈ T) (pbal : Part.bal ∈ T) (ppair : Part.pair ∈ T) (h0' : Within T s0 s) : Within T s0 (State.planGot s n) := by
  unfold State.planGot
  split
  · rename_i x1 e2
    exact h0'
  · rename_i x3 x4 e5
    refine within_ite ?_ ?_
    · extract_lets s6
      rename_i x7 s8
      have h9 : Within T s0 s8 := by
        unfold s8
        exact within_upd h0' (bal := .inl pbal)
      clear_value s6 x7 s8
      refine within_ite ?_ ?_
      · refine within_ite ?_ ?_
        · refine State.sendPlan_within pregs pout pq91 prk pscan pringSt pbal ppair ?_
          exact h9
        · exact h9
      · exact within_upd h0' (bal := .inl pbal)
    · exact h0'

theorem State.balStat_within {s : State} {n : ℕ} {p : List Byte} (pregs : Part.regs ∈ T) (pout : Part.out ∈ T) (pq91 : Part.q91 ∈ T) (prk : Part.rk ∈ T) (pscan : Part.scan ∈ T) (pimp : Part.imp ∈ T) (pest : Part.est ∈ T) (pringSt : Part.ringSt ∈ T) (pbal : Part.bal ∈ T) (ppair : Part.pair ∈ T) (h0' : Within T s0 s) : Within T s0 (State.balStat s n p) := by
  unfold State.balStat
  extract_lets s1 s2 s3 s4 s5 s6 s7 s8 s9 s10 s11 s12 s13
  rename_i s14 s15
  have h16 : Within T s0 s6 := by
    unfold s6
    refine within_foldl ?_ ?_
    · exact h0'
    · intro s17 x18 h19
      refine State.takeOnTime_within pregs pest pbal ?_
      refine setMaskBit_within pregs ?_
      exact h19
  clear_value s7
  have h20 : Within T s0 s9 := by
    unfold s9
    exact within_upd h16 (bal := .inl pbal)
  have h21 : Within T s0 s11 := by
    unfold s11
    refine within_ite ?_ ?_
    · exact within_upd h20 (bal := .inl pbal)
    · exact h20
  have h22 : Within T s0 s12 := by
    unfold s12
    refine State.wr_within pregs ?_
    exact h21
  have h23 : Within T s0 s13 := by
    unfold s13
    refine within_ite ?_ ?_
    · refine State.raise_within pregs pq91 prk pscan ?_
      exact h22
    · exact h22
  have h24 : Within T s0 s14 := by
    unfold s14
    refine State.bledRead_within pimp ?_
    exact h23
  have h25 : Within T s0 s15 := by
    unfold s15
    refine within_ite ?_ ?_
    · refine State.stopGot_within pregs pq91 prk pscan pbal ?_
      exact h24
    · exact h24
  clear_value s1 s2 s3 s4 s5 s6 s8 s9 s10 s11 s12 s13 s14 s15
  refine State.mirror_within pout ppair ?_
  refine State.planGot_within pregs pout pq91 prk pscan pringSt pbal ppair ?_
  exact h25

theorem State.modBal_within {s : State} {f : Bal → Bal} (pbal : Part.bal ∈ T) (h0' : Within T s0 s) : Within T s0 (State.modBal s f) := by
  unfold State.modBal
  exact within_upd h0' (bal := .inl pbal)

theorem State.planBegin_within {s : State} (pregs : Part.regs ∈ T) (pout : Part.out ∈ T) (pq91 : Part.q91 ∈ T) (prk : Part.rk ∈ T) (pscan : Part.scan ∈ T) (pringSt : Part.ringSt ∈ T) (pbal : Part.bal ∈ T) (ppair : Part.pair ∈ T) (h0' : Within T s0 s) : Within T s0 (State.planBegin s) := by
  unfold State.planBegin
  extract_lets s1 s2 s3
  rename_i x4 s5 x6
  have h7 : Within T s0 s3 := by
    unfold s3
    exact within_upd h0' (bal := .inl pbal)
  have h8 : Within T s0 s5 := by
    unfold s5
    refine within_foldl ?_ ?_
    · exact within_upd h7 (bal := .inl pbal)
    · intro s9 x10 h11
      refine State.ringCmd_within pout pringSt ?_
      exact h11
  clear_value s1 s2 s3 x4 s5 x6
  refine within_ite ?_ ?_
  · refine State.sendPlan_within pregs pout pq91 prk pscan pringSt pbal ppair ?_
    exact within_upd h8 (bal := .inl pbal)
  · exact h8

theorem State.replan_within {s : State} (pregs : Part.regs ∈ T) (pout : Part.out ∈ T) (pq91 : Part.q91 ∈ T) (prk : Part.rk ∈ T) (pscan : Part.scan ∈ T) (pringSt : Part.ringSt ∈ T) (pbal : Part.bal ∈ T) (ppair : Part.pair ∈ T) (h0' : Within T s0 s) : Within T s0 (State.replan s) := by
  unfold State.replan
  refine within_ite ?_ ?_
  · refine State.planBegin_within pregs pout pq91 prk pscan pringSt pbal ppair ?_
    exact h0'
  · exact h0'

theorem State.replanIfDue_within {s : State} (pregs : Part.regs ∈ T) (pout : Part.out ∈ T) (pq91 : Part.q91 ∈ T) (prk : Part.rk ∈ T) (pscan : Part.scan ∈ T) (pringSt : Part.ringSt ∈ T) (pbal : Part.bal ∈ T) (ppair : Part.pair ∈ T) (h0' : Within T s0 s) : Within T s0 (State.replanIfDue s) := by
  unfold State.replanIfDue
  refine within_ite ?_ ?_
  · refine State.replan_within pregs pout pq91 prk pscan pringSt pbal ppair ?_
    refine State.modBal_within pbal ?_
    exact h0'
  · exact h0'

/-! ## React -/

theorem State.endStimulus_within {s : State} (pregs : Part.regs ∈ T) (pout : Part.out ∈ T) (pq91 : Part.q91 ∈ T) (ppwm : Part.pwm ∈ T) (ploop : Part.loop ∈ T) (prk : Part.rk ∈ T) (pscan : Part.scan ∈ T) (pimp : Part.imp ∈ T) (pringSt : Part.ringSt ∈ T) (pbal : Part.bal ∈ T) (ppair : Part.pair ∈ T) (h0' : Within T s0 s) : Within T s0 (State.endStimulus s) := by
  unfold State.endStimulus
  extract_lets s1 s2 s3 s4
  rename_i x5 s6
  have h7 : Within T s0 s1 := by
    unfold s1
    refine State.wr_within pregs ?_
    refine State.releaseLock_within pregs ploop ?_
    refine State.wr_within pregs ?_
    exact h0'
  have h8 : Within T s0 s3 := by
    unfold s3
    refine State.wrB_within pregs ?_
    exact h7
  have h9 : Within T s0 s6 := by
    unfold s6
    exact within_upd h8 (pwm := .inl ppwm) (imp := .inl pimp)
  clear_value s1 s2 s3 s4 x5 s6
  refine within_ite ?_ ?_
  · refine State.replan_within pregs pout pq91 prk pscan pringSt pbal ppair ?_
    exact h9
  · exact h9

theorem State.abortRun_within {s : State} {code : ℕ} (pregs : Part.regs ∈ T) (pout : Part.out ∈ T) (pq91 : Part.q91 ∈ T) (ppwm : Part.pwm ∈ T) (ploop : Part.loop ∈ T) (prk : Part.rk ∈ T) (pscan : Part.scan ∈ T) (pimp : Part.imp ∈ T) (pringSt : Part.ringSt ∈ T) (pbal : Part.bal ∈ T) (ppair : Part.pair ∈ T) (h0' : Within T s0 s) : Within T s0 (State.abortRun s code) := by
  unfold State.abortRun
  extract_lets s1
  rename_i s2 x3 s4
  have h5 : Within T s0 s2 := by
    unfold s2
    refine within_ite ?_ ?_
    · exact h0'
    · refine State.bump_within pregs ?_
      refine State.raise_within pregs pq91 prk pscan ?_
      refine State.wr_within pregs ?_
      exact h0'
  have h6 : Within T s0 s4 := by
    unfold s4
    exact within_upd h5 (imp := .inl pimp)
  clear_value s1 s2 x3 s4
  refine within_ite ?_ ?_
  · refine within_ite ?_ ?_
    · refine State.endStimulus_within pregs pout pq91 ppwm ploop prk pscan pimp pringSt pbal ppair ?_
      exact h6
    · refine State.wr_within pregs ?_
      exact h6
  · exact h0'

theorem State.refreshActive_within {s : State} (pregs : Part.regs ∈ T) (h0' : Within T s0 s) : Within T s0 (State.refreshActive s) := by
  unfold State.refreshActive
  extract_lets s1
  clear_value s1
  refine State.wrB_within pregs ?_
  refine State.wrB_within pregs ?_
  refine State.wrB_within pregs ?_
  exact h0'

theorem State.addCond_within {s : State} {c : Cond} {r : RClass} (pregs : Part.regs ∈ T) (pprot : Part.prot ∈ T) (h0' : Within T s0 s) : Within T s0 (State.addCond s c r) := by
  unfold State.addCond
  refine State.refreshActive_within pregs ?_
  exact within_upd h0' (prot := .inl pprot)

theorem State.cancelApply_within {s : State} {cause : ℕ} (pregs : Part.regs ∈ T) (pshadow : Part.shadow ∈ T) (pstg : Part.stg ∈ T) (h0' : Within T s0 s) : Within T s0 (State.cancelApply s cause) := by
  unfold State.cancelApply
  extract_lets s1
  rename_i s2 s3 x4 s5 x6
  have h7 : Within T s0 s2 := by
    unfold s2
    refine State.wr_within pregs ?_
    exact h0'
  have h8 : Within T s0 s3 := by
    unfold s3
    refine State.wr_within pregs ?_
    refine State.wr_within pregs ?_
    refine State.wr_within pregs ?_
    exact h7
  have h9 : Within T s0 s5 := by
    unfold s5
    refine within_ite ?_ ?_
    · refine State.wr_within pregs ?_
      exact within_upd h8 (stg := .inl pstg)
    · exact h8
  clear_value s1 s2 s3 x4 s5 x6
  refine within_ite ?_ ?_
  · exact within_upd h9 (shadow := .inl pshadow) (stg := .inl pstg)
  · exact h0'

theorem State.closeFeed_within {s : State} (pregs : Part.regs ∈ T) (h0' : Within T s0 s) : Within T s0 (State.closeFeed s) := by
  unfold State.closeFeed
  refine within_ite ?_ ?_
  · refine State.wrB_within pregs ?_
    exact h0'
  · exact h0'

theorem State.clearCond_within {s : State} {c : Cond} (pregs : Part.regs ∈ T) (pprot : Part.prot ∈ T) (h0' : Within T s0 s) : Within T s0 (State.clearCond s c) := by
  unfold State.clearCond
  refine within_ite ?_ ?_
  · refine State.closeFeed_within pregs ?_
    refine State.refreshActive_within pregs ?_
    exact within_upd h0' (prot := .inl pprot)
  · exact h0'

theorem State.discardWindow_within {s : State} (pregs : Part.regs ∈ T) (pq91 : Part.q91 ∈ T) (prk : Part.rk ∈ T) (pscan : Part.scan ∈ T) (pimp : Part.imp ∈ T) (h0' : Within T s0 s) : Within T s0 (State.discardWindow s) := by
  unfold State.discardWindow
  extract_lets s1
  rename_i x2
  have h3 : Within T s0 s1 := by
    unfold s1
    refine State.bump_within pregs ?_
    refine State.raise_within pregs pq91 prk pscan ?_
    refine State.wrB_within pregs ?_
    refine State.bump_within pregs ?_
    exact h0'
  clear_value s1 x2
  exact within_upd h3 (imp := .inl pimp)

theorem State.notePre_within {s : State} (pregs : Part.regs ∈ T) (h0' : Within T s0 s) : Within T s0 (State.notePre s) := by
  unfold State.notePre
  refine within_ite ?_ ?_
  · refine State.wr_within pregs ?_
    exact h0'
  · exact h0'

theorem State.endSequence_within {s : State} (pregs : Part.regs ∈ T) (pcrown : Part.crown ∈ T) (ptrack : Part.track ∈ T) (h0' : Within T s0 s) : Within T s0 (State.endSequence s) := by
  unfold State.endSequence
  extract_lets s1
  rename_i x2 x3
  have h4 : Within T s0 s1 := by
    unfold s1
    refine State.wrB_within pregs ?_
    refine State.wrB_within pregs ?_
    refine State.wr_within pregs ?_
    exact h0'
  clear_value s1 x2 x3
  exact within_upd h4 (crown := .inl pcrown) (track := .inl ptrack)

theorem State.dropStart_within {s : State} {code : ℕ} (pregs : Part.regs ∈ T) (pcrown : Part.crown ∈ T) (pq91 : Part.q91 ∈ T) (ptrack : Part.track ∈ T) (prk : Part.rk ∈ T) (pscan : Part.scan ∈ T) (h0' : Within T s0 s) : Within T s0 (State.dropStart s code) := by
  unfold State.dropStart
  extract_lets s1
  have h2 : Within T s0 s1 := by
    unfold s1
    refine within_ite ?_ ?_
    · refine State.raise_within pregs pq91 prk pscan ?_
      refine State.bump_within pregs ?_
      refine State.wr_within pregs ?_
      refine State.notePre_within pregs ?_
      exact h0'
    · exact h0'
  clear_value s1
  refine State.endSequence_within pregs pcrown ptrack ?_
  exact h2

theorem State.endForStop_within {s : State} (pregs : Part.regs ∈ T) (pshadow : Part.shadow ∈ T) (pout : Part.out ∈ T) (pcrown : Part.crown ∈ T) (pstg : Part.stg ∈ T) (pq91 : Part.q91 ∈ T) (ppwm : Part.pwm ∈ T) (ploop : Part.loop ∈ T) (ptrack : Part.track ∈ T) (prk : Part.rk ∈ T) (pscan : Part.scan ∈ T) (pimp : Part.imp ∈ T) (pringSt : Part.ringSt ∈ T) (pbal : Part.bal ∈ T) (ppair : Part.pair ∈ T) (h0' : Within T s0 s) : Within T s0 (State.endForStop s) := by
  unfold State.endForStop
  extract_lets s1 s2
  have h3 : Within T s0 s1 := by
    unfold s1
    refine State.cancelApply_within pregs pshadow pstg ?_
    exact h0'
  have h4 : Within T s0 s2 := by
    unfold s2
    refine State.abortRun_within pregs pout pq91 ppwm ploop prk pscan pimp pringSt pbal ppair ?_
    exact h3
  clear_value s1 s2
  refine within_ite ?_ ?_
  · refine State.dropStart_within pregs pcrown pq91 ptrack prk pscan ?_
    exact h4
  · exact h4

theorem State.endGateTest_within {s : State} {result : ℕ} {atOnce : Bool} (pregs : Part.regs ∈ T) (pq91 : Part.q91 ∈ T) (ppwm : Part.pwm ∈ T) (ploop : Part.loop ∈ T) (pprot : Part.prot ∈ T) (prk : Part.rk ∈ T) (pscan : Part.scan ∈ T) (ptmx : Part.tmx ∈ T) (h0' : Within T s0 s) : Within T s0 (State.endGateTest s result atOnce) := by
  unfold State.endGateTest
  refine within_ite ?_ ?_
  · extract_lets s1
    rename_i s2 x3
    have h4 : Within T s0 s1 := by
      unfold s1
      refine State.raise_within pregs pq91 prk pscan ?_
      refine State.wr_within pregs ?_
      exact h0'
    have h5 : Within T s0 s2 := by
      unfold s2
      refine State.dropEnables_within pregs pprot ?_
      refine State.wrB_within pregs ?_
      refine State.gatesOff_within pregs ppwm ploop ?_
      exact h4
    clear_value s1 s2 x3
    refine within_ite ?_ ?_
    · exact within_upd h5 (tmx := .inl ptmx)
    · exact within_upd h4 (tmx := .inl ptmx)
  · exact h0'

theorem State.loopOff_within {s : State} (pregs : Part.regs ∈ T) (h0' : Within T s0 s) : Within T s0 (State.loopOff s) := by
  unfold State.loopOff
  extract_lets s1 s2
  have h3 : Within T s0 s2 := by
    unfold s2
    refine within_ite ?_ ?_
    · exact h0'
    · refine State.voidCheck_within pregs ?_
      refine State.wr_within pregs ?_
      exact h0'
  clear_value s1 s2
  refine within_foldl ?_ ?_
  · refine State.wrB_within pregs ?_
    refine State.wrB_within pregs ?_
    exact h3
  · intro s4 x5 h6
    refine State.wrB_within pregs ?_
    exact h6

theorem State.lockPort_within {s : State} (pregs : Part.regs ∈ T) (pq91 : Part.q91 ∈ T) (prk : Part.rk ∈ T) (pscan : Part.scan ∈ T) (ptmx : Part.tmx ∈ T) (h0' : Within T s0 s) : Within T s0 (State.lockPort s) := by
  unfold State.lockPort
  refine within_ite ?_ ?_
  · extract_lets s1
    rename_i x2
    have h3 : Within T s0 s1 := by
      unfold s1
      refine State.raise_within pregs pq91 prk pscan ?_
      refine State.wrB_within pregs ?_
      exact h0'
    clear_value s1 x2
    exact within_upd h3 (tmx := .inl ptmx)
  · exact h0'

theorem State.setLatch_within {s : State} {source : ℕ} {ev : Ev} (pregs : Part.regs ∈ T) (pq91 : Part.q91 ∈ T) (prk : Part.rk ∈ T) (pscan : Part.scan ∈ T) (ptmx : Part.tmx ∈ T) (h0' : Within T s0 s) : Within T s0 (State.setLatch s source ev) := by
  unfold State.setLatch
  refine State.lockPort_within pregs pq91 prk pscan ptmx ?_
  refine State.wr_within pregs ?_
  refine State.wrB_within pregs ?_
  exact h0'

theorem State.enterSafe_within {s : State} {latch : Bool} {src : ℕ} {ev : Ev} (pregs : Part.regs ∈ T) (pout : Part.out ∈ T) (pcrown : Part.crown ∈ T) (pq91 : Part.q91 ∈ T) (ppwm : Part.pwm ∈ T) (ploop : Part.loop ∈ T) (ptrack : Part.track ∈ T) (pprot : Part.prot ∈ T) (prk : Part.rk ∈ T) (pscan : Part.scan ∈ T) (pest : Part.est ∈ T) (ptmx : Part.tmx ∈ T) (pringSt : Part.ringSt ∈ T) (pbal : Part.bal ∈ T) (ptele : Part.tele ∈ T) (pnvm : Part.nvm ∈ T) (h0' : Within T s0 s) : Within T s0 (State.enterSafe s latch src ev) := by
  unfold State.enterSafe
  extract_lets s1 s2 s3 s4 s5 s6 s7
  rename_i s8 x9 x10
  have h11 : Within T s0 s1 := by
    unfold s1
    refine State.setMode_within pregs ?_
    refine State.dropStart_within pregs pcrown pq91 ptrack prk pscan ?_
    refine State.loopOff_within pregs ?_
    refine State.dropEnables_within pregs pprot ?_
    refine State.gatesOff_within pregs ppwm ploop ?_
    refine State.leaveBal_within pregs pout pq91 prk pscan pringSt pbal ?_
    exact h0'
  have h12 : Within T s0 s2 := by
    unfold s2
    refine State.raise_within pregs pq91 prk pscan ?_
    refine State.wr_within pregs ?_
    refine State.wrB_within pregs ?_
    exact h11
  have h13 : Within T s0 s3 := by
    unfold s3
    refine State.wrB_within pregs ?_
    exact h12
  have h14 : Within T s0 s5 := by
    unfold s5
    refine within_ite ?_ ?_
    · refine State.record_within pq91 ?_
      exact h13
    · exact h13
  have h15 : Within T s0 s7 := by
    unfold s7
    exact within_upd h14 (crown := .inl pcrown)
  have h16 : Within T s0 s8 := by
    unfold s8
    refine within_ite ?_ ?_
    · refine State.setLatch_within pregs pq91 prk pscan ptmx ?_
      exact h15
    · exact h15
  clear_value s1 s2 s3 s4 s5 s6 s7 s8 x9 x10
  refine State.entryStore_within pregs pq91 prk pscan pest ptele pnvm ?_
  exact within_upd h16 (loop := .inl ploop) (prot := .inl pprot)

theorem State.giveUpClaim_within {s : State} {role : ℕ} (pregs : Part.regs ∈ T) (pshadow : Part.shadow ∈ T) (pout : Part.out ∈ T) (pcrown : Part.crown ∈ T) (pstg : Part.stg ∈ T) (pq91 : Part.q91 ∈ T) (ppwm : Part.pwm ∈ T) (ploop : Part.loop ∈ T) (ptrack : Part.track ∈ T) (pprot : Part.prot ∈ T) (prk : Part.rk ∈ T) (pscan : Part.scan ∈ T) (pimp : Part.imp ∈ T) (pringSt : Part.ringSt ∈ T) (pbal : Part.bal ∈ T) (ppair : Part.pair ∈ T) (h0' : Within T s0 s) : Within T s0 (State.giveUpClaim s role) := by
  unfold State.giveUpClaim
  extract_lets s1 s2 s3
  have h4 : Within T s0 s1 := by
    unfold s1
    refine State.abortRun_within pregs pout pq91 ppwm ploop prk pscan pimp pringSt pbal ppair ?_
    refine State.dropEnables_within pregs pprot ?_
    refine State.freezeAll_within pregs ?_
    refine State.gatesOff_within pregs ppwm ploop ?_
    exact h0'
  have h5 : Within T s0 s2 := by
    unfold s2
    refine within_ite ?_ ?_
    · refine State.cancelApply_within pregs pshadow pstg ?_
      exact h4
    · exact h4
  have h6 : Within T s0 s3 := by
    unfold s3
    refine State.wr_within pregs ?_
    refine State.wr_within pregs ?_
    refine State.wr_within pregs ?_
    refine State.endSequence_within pregs pcrown ptrack ?_
    exact h5
  clear_value s1 s2 s3
  refine State.driveCool_within pregs ?_
  refine State.stopRing_within pregs pringSt ?_
  exact h6

theorem State.tripMode_within {s : State} {src : ℕ} {ev : Ev} (pregs : Part.regs ∈ T) (pshadow : Part.shadow ∈ T) (pout : Part.out ∈ T) (pcrown : Part.crown ∈ T) (pstg : Part.stg ∈ T) (pq91 : Part.q91 ∈ T) (ppwm : Part.pwm ∈ T) (ploop : Part.loop ∈ T) (ptrack : Part.track ∈ T) (pprot : Part.prot ∈ T) (prk : Part.rk ∈ T) (pscan : Part.scan ∈ T) (pimp : Part.imp ∈ T) (pest : Part.est ∈ T) (ptmx : Part.tmx ∈ T) (pringSt : Part.ringSt ∈ T) (pbal : Part.bal ∈ T) (ptele : Part.tele ∈ T) (pnvm : Part.nvm ∈ T) (ppair : Part.pair ∈ T) (h0' : Within T s0 s) : Within T s0 (State.tripMode s src ev) := by
  unfold State.tripMode
  split
  · rename_i x1 e2
    refine State.closeFeed_within pregs ?_
    exact h0'
  · rename_i x3 e4
    refine State.closeFeed_within pregs ?_
    exact h0'
  · rename_i x5 e6
    refine State.setLatch_within pregs pq91 prk pscan ptmx ?_
    exact h0'
  · rename_i x7 e8 e9 e10
    refine within_ite ?_ ?_
    · refine State.closeFeed_within pregs ?_
      exact h0'
    · extract_lets s11 s12 s13 s14
      rename_i s15
      have h16 : Within T s0 s11 := by
        unfold s11
        refine State.loopOff_within pregs ?_
        refine State.endForStop_within pregs pshadow pout pcrown pstg pq91 ppwm ploop ptrack prk pscan pimp pringSt pbal ppair ?_
        exact h0'
      have h17 : Within T s0 s12 := by
        unfold s12
        refine State.wr_within pregs ?_
        refine State.wrB_within pregs ?_
        exact h16
      have h18 : Within T s0 s15 := by
        unfold s15
        exact within_upd h17 (prot := .inl pprot)
      clear_value s11 s12 s13 s14 s15
      refine within_ite ?_ ?_
      · refine State.enterSafe_within pregs pout pcrown pq91 ppwm ploop ptrack pprot prk pscan pest ptmx pringSt pbal ptele pnvm ?_
        exact h18
      · exact h18

theorem State.hardTrip_within {s : State} {src : ℕ} {ev : Ev} (pregs : Part.regs ∈ T) (pshadow : Part.shadow ∈ T) (pout : Part.out ∈ T) (pcrown : Part.crown ∈ T) (pstg : Part.stg ∈ T) (pq91 : Part.q91 ∈ T) (ppwm : Part.pwm ∈ T) (ploop : Part.loop ∈ T) (ptrack : Part.track ∈ T) (pprot : Part.prot ∈ T) (prk : Part.rk ∈ T) (pscan : Part.scan ∈ T) (pimp : Part.imp ∈ T) (pest : Part.est ∈ T) (ptmx : Part.tmx ∈ T) (pringSt : Part.ringSt ∈ T) (pbal : Part.bal ∈ T) (ptele : Part.tele ∈ T) (pnvm : Part.nvm ∈ T) (ppair : Part.pair ∈ T) (h0' : Within T s0 s) : Within T s0 (State.hardTrip s src ev) := by
  unfold State.hardTrip
  refine within_ite ?_ ?_
  · exact h0'
  · extract_lets s1 s2
    have h3 : Within T s0 s1 := by
      unfold s1
      refine State.freezeAll_within pregs ?_
      refine State.dropEnables_within pregs pprot ?_
      refine State.gatesOff_within pregs ppwm ploop ?_
      refine State.endGateTest_within pregs pq91 ppwm ploop pprot prk pscan ptmx ?_
      exact h0'
    have h4 : Within T s0 s2 := by
      unfold s2
      refine State.raise_within pregs pq91 prk pscan ?_
      refine State.bump_within pregs ?_
      refine State.wr_within pregs ?_
      exact h3
    clear_value s1 s2
    refine State.tripMode_within pregs pshadow pout pcrown pstg pq91 ppwm ploop ptrack pprot prk pscan pimp pest ptmx pringSt pbal ptele pnvm ppair ?_
    refine State.cancelApply_within pregs pshadow pstg ?_
    refine State.cutFeed_within pregs pq91 ptrack prk pscan ?_
    exact h4

theorem State.holdRun_within {s : State} (pregs : Part.regs ∈ T) (pout : Part.out ∈ T) (pq91 : Part.q91 ∈ T) (ppwm : Part.pwm ∈ T) (ploop : Part.loop ∈ T) (prk : Part.rk ∈ T) (pscan : Part.scan ∈ T) (pimp : Part.imp ∈ T) (pringSt : Part.ringSt ∈ T) (pbal : Part.bal ∈ T) (ppair : Part.pair ∈ T) (h0' : Within T s0 s) : Within T s0 (State.holdRun s) := by
  unfold State.holdRun
  refine State.abortRun_within pregs pout pq91 ppwm ploop prk pscan pimp pringSt pbal ppair ?_
  refine within_ite ?_ ?_
  · refine State.discardWindow_within pregs pq91 prk pscan pimp ?_
    exact h0'
  · exact h0'

theorem State.noteSH_within {s : State} {source : ℕ} {ev : Ev} (pprot : Part.prot ∈ T) (h0' : Within T s0 s) : Within T s0 (State.noteSH s source ev) := by
  unfold State.noteSH
  exact within_upd h0' (prot := .inl pprot)

theorem State.srdRelease_within {s : State} (pregs : Part.regs ∈ T) (pout : Part.out ∈ T) (pcrown : Part.crown ∈ T) (pq91 : Part.q91 ∈ T) (ppwm : Part.pwm ∈ T) (ploop : Part.loop ∈ T) (ptrack : Part.track ∈ T) (pprot : Part.prot ∈ T) (prk : Part.rk ∈ T) (pscan : Part.scan ∈ T) (pest : Part.est ∈ T) (ptmx : Part.tmx ∈ T) (pringSt : Part.ringSt ∈ T) (pbal : Part.bal ∈ T) (ptele : Part.tele ∈ T) (pnvm : Part.nvm ∈ T) (h0' : Within T s0 s) : Within T s0 (State.srdRelease s) := by
  unfold State.srdRelease
  split
  · rename_i x1 e2
    exact h0'
  · rename_i x3 x4 e5
    extract_lets s6 s7
    have h8 : Within T s0 s6 := by
      unfold s6
      refine State.wr_within pregs ?_
      exact h0'
    have h9 : Within T s0 s7 := by
      unfold s7
      refine within_ite ?_ ?_
      · exact h8
      · refine State.releaseAll_within pregs pq91 ptrack prk pscan ?_
        exact h8
    clear_value s6 s7
    refine within_ite ?_ ?_
    · refine State.enterSafe_within pregs pout pcrown pq91 ppwm ploop ptrack pprot prk pscan pest ptmx pringSt pbal ptele pnvm ?_
      exact h9
    · exact h9

theorem State.srdRampEnd_within {s : State} (pregs : Part.regs ∈ T) (pout : Part.out ∈ T) (pcrown : Part.crown ∈ T) (pq91 : Part.q91 ∈ T) (ppwm : Part.pwm ∈ T) (ploop : Part.loop ∈ T) (ptrack : Part.track ∈ T) (pprot : Part.prot ∈ T) (prk : Part.rk ∈ T) (pscan : Part.scan ∈ T) (pest : Part.est ∈ T) (ptmx : Part.tmx ∈ T) (pringSt : Part.ringSt ∈ T) (pbal : Part.bal ∈ T) (ptele : Part.tele ∈ T) (pnvm : Part.nvm ∈ T) (h0' : Within T s0 s) : Within T s0 (State.srdRampEnd s) := by
  unfold State.srdRampEnd
  split
  · rename_i x1 e2
    exact h0'
  · rename_i x3 x4 e5
    extract_lets s6
    have h7 : Within T s0 s6 := by
      unfold s6
      refine State.wr_within pregs ?_
      refine State.loopOff_within pregs ?_
      refine State.freezeAll_within pregs ?_
      refine State.dropEnables_within pregs pprot ?_
      refine State.gatesOff_within pregs ppwm ploop ?_
      exact h0'
    clear_value s6
    refine State.srdRelease_within pregs pout pcrown pq91 ppwm ploop ptrack pprot prk pscan pest ptmx pringSt pbal ptele pnvm ?_
    exact h7

theorem State.startSrd_within {s : State} {cause : ℕ} {latch : Bool} {src : ℕ} {ev : Ev} {fast : optParam Bool false} (pregs : Part.regs ∈ T) (pshadow : Part.shadow ∈ T) (pout : Part.out ∈ T) (pcrown : Part.crown ∈ T) (pstg : Part.stg ∈ T) (pq91 : Part.q91 ∈ T) (ppwm : Part.pwm ∈ T) (ploop : Part.loop ∈ T) (ptrack : Part.track ∈ T) (pprot : Part.prot ∈ T) (prk : Part.rk ∈ T) (pscan : Part.scan ∈ T) (pimp : Part.imp ∈ T) (pest : Part.est ∈ T) (ptmx : Part.tmx ∈ T) (pringSt : Part.ringSt ∈ T) (pbal : Part.bal ∈ T) (ptele : Part.tele ∈ T) (pnvm : Part.nvm ∈ T) (ppair : Part.pair ∈ T) (h0' : Within T s0 s) : Within T s0 (State.startSrd s cause latch src ev fast) := by
  unfold State.startSrd
  split
  · rename_i x1 e2
    exact h0'
  · rename_i x3 e4
    exact h0'
  · rename_i x5 e6
    refine State.endGateTest_within pregs pq91 ppwm ploop pprot prk pscan ptmx ?_
    exact h0'
  · rename_i x7 e8
    refine within_ite ?_ ?_
    · refine State.setLatch_within pregs pq91 prk pscan ptmx ?_
      exact h0'
    · exact h0'
  · rename_i x9 e10 e11 e12 e13
    refine within_ite ?_ ?_
    · exact h0'
    · refine within_ite ?_ ?_
      · refine State.record_within pq91 ?_
        exact h0'
      · refine within_ite ?_ ?_
        · exact h0'
        · extract_lets s14 s15 s16 s17 s18
          rename_i x19 s20
          have h21 : Within T s0 s15 := by
            unfold s15
            refine State.endForStop_within pregs pshadow pout pcrown pstg pq91 ppwm ploop ptrack prk pscan pimp pringSt pbal ppair ?_
            exact h0'
          have h22 : Within T s0 s16 := by
            unfold s16
            refine State.wrI_within pregs ?_
            refine State.wr_within pregs ?_
            refine State.wr_within pregs ?_
            refine State.wrB_within pregs ?_
            exact h21
          have h23 : Within T s0 s17 := by
            unfold s17
            refine State.raise_within pregs pq91 prk pscan ?_
            refine State.bump_within pregs ?_
            exact h22
          have h24 : Within T s0 s20 := by
            unfold s20
            exact within_upd h23 (loop := .inl ploop) (prot := .inl pprot)
          clear_value s14 s15 s16 s17 s18 x19 s20
          refine within_ite ?_ ?_
          · refine State.srdRampEnd_within pregs pout pcrown pq91 ppwm ploop ptrack pprot prk pscan pest ptmx pringSt pbal ptele pnvm ?_
            exact h24
          · refine State.wr_within pregs ?_
            exact h24

theorem State.react_within {s : State} {r : RClass} {source : ℕ} {ev : Ev} {data : optParam (List ℤ) []} {cause : optParam ℕ 7} {same : optParam Bool false} (pregs : Part.regs ∈ T) (pshadow : Part.shadow ∈ T) (pout : Part.out ∈ T) (pcrown : Part.crown ∈ T) (pstg : Part.stg ∈ T) (pq91 : Part.q91 ∈ T) (ppwm : Part.pwm ∈ T) (ploop : Part.loop ∈ T) (ptrack : Part.track ∈ T) (pprot : Part.prot ∈ T) (prk : Part.rk ∈ T) (pscan : Part.scan ∈ T) (pimp : Part.imp ∈ T) (pest : Part.est ∈ T) (ptmx : Part.tmx ∈ T) (pringSt : Part.ringSt ∈ T) (pbal : Part.bal ∈ T) (ptele : Part.tele ∈ T) (pnvm : Part.nvm ∈ T) (ppair : Part.pair ∈ T) (h0' : Within T s0 s) : Within T s0 (State.react s r source ev data cause same) := by
  unfold State.react
  split
  · rename_i x1
    refine State.record_within pq91 ?_
    exact h0'
  · rename_i x2
    refine State.record_within pq91 ?_
    exact h0'
  · rename_i x3
    refine State.startSrd_within pregs pshadow pout pcrown pstg pq91 ppwm ploop ptrack pprot prk pscan pimp pest ptmx pringSt pbal ptele pnvm ppair ?_
    refine State.noteSH_within pprot ?_
    refine State.record_within pq91 ?_
    exact h0'
  · rename_i x4
    refine State.hardTrip_within pregs pshadow pout pcrown pstg pq91 ppwm ploop ptrack pprot prk pscan pimp pest ptmx pringSt pbal ptele pnvm ppair ?_
    refine State.noteSH_within pprot ?_
    refine State.record_within pq91 ?_
    exact h0'

theorem State.relinquishOr_within {s : State} {cause : ℕ} {otherwise : State → State} (pregs : Part.regs ∈ T) (pshadow : Part.shadow ∈ T) (pout : Part.out ∈ T) (pcrown : Part.crown ∈ T) (pstg : Part.stg ∈ T) (pq91 : Part.q91 ∈ T) (ppwm : Part.pwm ∈ T) (ploop : Part.loop ∈ T) (ptrack : Part.track ∈ T) (pprot : Part.prot ∈ T) (prk : Part.rk ∈ T) (pscan : Part.scan ∈ T) (pimp : Part.imp ∈ T) (pringSt : Part.ringSt ∈ T) (pbal : Part.bal ∈ T) (ppair : Part.pair ∈ T) (h0' : Within T s0 s) (h2' : ∀ a0, Within T s0 a0 → Within T s0 (otherwise a0)) : Within T s0 (State.relinquishOr s cause otherwise) := by
  unfold State.relinquishOr
  refine within_ite ?_ ?_
  · extract_lets s1 s2 s3
    rename_i s4
    have h5 : Within T s0 s1 := by
      unfold s1
      refine State.wr_within pregs ?_
      refine State.giveUpClaim_within pregs pshadow pout pcrown pstg pq91 ppwm ploop ptrack pprot prk pscan pimp pringSt pbal ppair ?_
      exact h0'
    have h6 : Within T s0 s2 := by
      unfold s2
      refine State.wrB_within pregs ?_
      refine State.raise_within pregs pq91 prk pscan ?_
      refine State.bump_within pregs ?_
      exact h5
    have h7 : Within T s0 s4 := by
      unfold s4
      refine State.send_within pout ?_
      exact within_upd h6 (pair := .inl ppair)
    clear_value s1 s2 s3 s4
    refine State.record_within pq91 ?_
    exact h7
  · apply h2'
    exact h0'

theorem State.requestSrd_within {s : State} {cause : ℕ} {ev : Ev} {data : optParam (List ℤ) []} (pregs : Part.regs ∈ T) (pshadow : Part.shadow ∈ T) (pout : Part.out ∈ T) (pcrown : Part.crown ∈ T) (pstg : Part.stg ∈ T) (pq91 : Part.q91 ∈ T) (ppwm : Part.pwm ∈ T) (ploop : Part.loop ∈ T) (ptrack : Part.track ∈ T) (pprot : Part.prot ∈ T) (prk : Part.rk ∈ T) (pscan : Part.scan ∈ T) (pimp : Part.imp ∈ T) (pest : Part.est ∈ T) (ptmx : Part.tmx ∈ T) (pringSt : Part.ringSt ∈ T) (pbal : Part.bal ∈ T) (ptele : Part.tele ∈ T) (pnvm : Part.nvm ∈ T) (ppair : Part.pair ∈ T) (h0' : Within T s0 s) : Within T s0 (State.requestSrd s cause ev data) := by
  unfold State.requestSrd
  refine State.startSrd_within pregs pshadow pout pcrown pstg pq91 ppwm ploop ptrack pprot prk pscan pimp pest ptmx pringSt pbal ptele pnvm ppair ?_
  refine State.noteSH_within pprot ?_
  refine State.record_within pq91 ?_
  exact h0'

theorem State.watchTest_within {s : State} (pregs : Part.regs ∈ T) (pq91 : Part.q91 ∈ T) (ppwm : Part.pwm ∈ T) (ploop : Part.loop ∈ T) (pprot : Part.prot ∈ T) (prk : Part.rk ∈ T) (pscan : Part.scan ∈ T) (ptmx : Part.tmx ∈ T) (h0' : Within T s0 s) : Within T s0 (State.watchTest s) := by
  unfold State.watchTest
  refine within_ite ?_ ?_
  · exact h0'
  · refine within_ite ?_ ?_
    · refine State.endGateTest_within pregs pq91 ppwm ploop pprot prk pscan ptmx ?_
      exact h0'
    · refine within_ite ?_ ?_
      · refine State.endGateTest_within pregs pq91 ppwm ploop pprot prk pscan ptmx ?_
        exact h0'
      · exact h0'

end Sys2Proof.Machine
end

