-- ==== Sys2Proof/Laws/Within2.lean ====
section
/-!
SUPPORT. The parts of the state that each operation can change: TimeOps, CanOps, CanFam, TrackOps, RingFam.
-/
set_option Elab.async false
set_option linter.unusedSimpArgs false
set_option linter.unusedVariables false
set_option linter.unusedTactic false
set_option linter.unreachableTactic false
namespace Sys2Proof.Machine
open Sys2Proof

variable {T : List Part} {s0 : State}

/-! ## TimeOps -/

theorem State.applyStepped_within {s : State} {old : ℤ} {new : ℤ} (pregs : Part.regs ∈ T) (pshadow : Part.shadow ∈ T) (pstg : Part.stg ∈ T) (h0' : Within T s0 s) : Within T s0 (State.applyStepped s old new) := by
  unfold State.applyStepped
  refine within_ite ?_ ?_
  · refine State.cancelApply_within pregs pshadow pstg ?_
    exact h0'
  · exact h0'

theorem State.setTrig_within {s : State} {k : ℕ} {t : Trig} (ptime : Part.time ∈ T) (h0' : Within T s0 s) : Within T s0 (State.setTrig s k t) := by
  unfold State.setTrig
  exact within_upd h0' (time := .inl ptime)

theorem State.armTrigger_within {s : State} {k : ℕ} (pregs : Part.regs ∈ T) (pq91 : Part.q91 ∈ T) (prk : Part.rk ∈ T) (pscan : Part.scan ∈ T) (ptime : Part.time ∈ T) (h0' : Within T s0 s) : Within T s0 (State.armTrigger s k) := by
  unfold State.armTrigger
  extract_lets s1 s2 s3
  rename_i x4 s5
  have h6 : Within T s0 s5 := by
    unfold s5
    refine State.setTrig_within ptime ?_
    refine State.wr_within pregs ?_
    exact h0'
  clear_value s1 s2 s3 x4 s5
  refine within_ite ?_ ?_
  · exact h0'
  · refine within_ite ?_ ?_
    · refine State.wrBit_within pregs ?_
      exact h0'
    · refine within_ite ?_ ?_
      · refine State.setTrig_within ptime ?_
        exact h6
      · refine within_ite ?_ ?_
        · refine State.raise_within pregs pq91 prk pscan ?_
          refine State.wr_within pregs ?_
          exact h6
        · exact h6

theorem State.setStamps_within {s : State} {k : ℕ} {l : List (Bool × TimeBase)} (pregs : Part.regs ∈ T) (ptime : Part.time ∈ T) (h0' : Within T s0 s) : Within T s0 (State.setStamps s k l) := by
  unfold State.setStamps
  extract_lets s1
  rename_i s2
  have h3 : Within T s0 s2 := by
    unfold s2
    exact within_upd h0' (time := .inl ptime)
  clear_value s1 s2
  split
  rename_i x4 x5 x6 e7
  extract_lets s8
  have h9 : Within T s0 s8 := by
    unfold s8
    refine State.wrB_within pregs ?_
    refine State.wr_within pregs ?_
    exact h3
  clear_value s8
  refine State.wr_within pregs ?_
  refine State.wr_within pregs ?_
  refine State.wr_within pregs ?_
  exact h9

theorem State.captureEdge_within {s : State} {k : ℕ} {rise : Bool} {t : TimeBase} (pregs : Part.regs ∈ T) (pq91 : Part.q91 ∈ T) (prk : Part.rk ∈ T) (pscan : Part.scan ∈ T) (ptime : Part.time ∈ T) (h0' : Within T s0 s) : Within T s0 (State.captureEdge s k rise t) := by
  unfold State.captureEdge
  extract_lets s1
  clear_value s1
  refine within_ite ?_ ?_
  · refine State.raise_within pregs pq91 prk pscan ?_
    refine State.wrB_within pregs ?_
    refine State.bump_within pregs ?_
    exact h0'
  · refine State.raise_within pregs pq91 prk pscan ?_
    refine State.bump_within pregs ?_
    refine State.setStamps_within pregs ptime ?_
    exact h0'

theorem State.trigDone_within {s : State} {k : ℕ} (pregs : Part.regs ∈ T) (pq91 : Part.q91 ∈ T) (prk : Part.rk ∈ T) (pscan : Part.scan ∈ T) (ptime : Part.time ∈ T) (h0' : Within T s0 s) : Within T s0 (State.trigDone s k) := by
  unfold State.trigDone
  refine State.raise_within pregs pq91 prk pscan ?_
  refine State.setTrig_within ptime ?_
  refine State.wrBit_within pregs ?_
  exact h0'

theorem State.disarmTrigger_within {s : State} {k : ℕ} (pregs : Part.regs ∈ T) (pq91 : Part.q91 ∈ T) (prk : Part.rk ∈ T) (pscan : Part.scan ∈ T) (ptime : Part.time ∈ T) (h0' : Within T s0 s) : Within T s0 (State.disarmTrigger s k) := by
  unfold State.disarmTrigger
  refine within_ite ?_ ?_
  · refine within_ite ?_ ?_
    · refine State.setTrig_within ptime ?_
      exact h0'
    · refine State.trigDone_within pregs pq91 prk pscan ptime ?_
      exact h0'
  · exact h0'

theorem State.leadingEdge_within {s : State} {k : ℕ} (pregs : Part.regs ∈ T) (ptime : Part.time ∈ T) (h0' : Within T s0 s) : Within T s0 (State.leadingEdge s k) := by
  unfold State.leadingEdge
  extract_lets s1 s2
  have h3 : Within T s0 s2 := by
    unfold s2
    refine State.setTrig_within ptime ?_
    exact h0'
  clear_value s1 s2
  refine within_ite ?_ ?_
  · refine State.bump_within pregs ?_
    exact h3
  · exact h3

theorem State.nsRead_within {s : State} {n : ℕ} (pregs : Part.regs ∈ T) (preadData : Part.readData ∈ T) (h0' : Within T s0 s) : Within T s0 (State.nsRead s n) := by
  unfold State.nsRead
  extract_lets s1 s2 s3
  have h4 : Within T s0 s2 := by
    unfold s2
    refine State.wr_within pregs ?_
    refine State.wr_within pregs ?_
    refine State.wr_within pregs ?_
    exact h0'
  have h5 : Within T s0 s3 := by
    unfold s3
    refine State.wr_within pregs ?_
    exact h4
  clear_value s1 s2 s3
  exact within_upd h5 (readData := .inl preadData)

theorem State.setPtp_within {s : State} {i : ℕ} {p : Ptp} (ptime : Part.time ∈ T) (h0' : Within T s0 s) : Within T s0 (State.setPtp s i p) := by
  unfold State.setPtp
  exact within_upd h0' (time := .inl ptime)

theorem State.setSynced_within {s : State} {n : ℕ} (pregs : Part.regs ∈ T) (pq91 : Part.q91 ∈ T) (prk : Part.rk ∈ T) (pscan : Part.scan ∈ T) (h0' : Within T s0 s) : Within T s0 (State.setSynced s n) := by
  unfold State.setSynced
  refine within_ite ?_ ?_
  · exact h0'
  · refine State.raise_within pregs pq91 prk pscan ?_
    refine State.wrB_within pregs ?_
    exact h0'

theorem State.setTimeBase_within {s : State} {n : ℕ} {t : TimeBase} (ptb : Part.tb ∈ T) (h0' : Within T s0 s) : Within T s0 (State.setTimeBase s n t) := by
  unfold State.setTimeBase
  exact within_upd h0' (tb := .inl ptb)

theorem State.snap_within {s : State} (pregs : Part.regs ∈ T) (h0' : Within T s0 s) : Within T s0 (State.snap s) := by
  unfold State.snap
  refine within_foldl ?_ ?_
  · exact h0'
  · intro s1 x2 h3
    extract_lets s4
    clear_value s4
    refine State.wr_within pregs ?_
    refine State.wr_within pregs ?_
    refine State.wr_within pregs ?_
    refine State.wr_within pregs ?_
    exact h3

theorem State.trigStepped_within {s : State} {n : ℕ} {now : ℤ} {k : ℕ} (pregs : Part.regs ∈ T) (pq91 : Part.q91 ∈ T) (prk : Part.rk ∈ T) (pscan : Part.scan ∈ T) (ptime : Part.time ∈ T) (h0' : Within T s0 s) : Within T s0 (State.trigStepped s n now k) := by
  unfold State.trigStepped
  extract_lets s1
  rename_i x2
  clear_value s1 x2
  refine within_ite ?_ ?_
  · exact h0'
  · refine within_ite ?_ ?_
    · refine State.bump_within pregs ?_
      refine State.setTrig_within ptime ?_
      exact h0'
    · refine within_ite ?_ ?_
      · refine State.leadingEdge_within pregs ptime ?_
        refine State.raise_within pregs pq91 prk pscan ?_
        refine State.wrBit_within pregs ?_
        exact h0'
      · exact h0'

theorem State.stepBase_within {s : State} {n : ℕ} {t : TimeBase} (pregs : Part.regs ∈ T) (pshadow : Part.shadow ∈ T) (ptb : Part.tb ∈ T) (pstg : Part.stg ∈ T) (pq91 : Part.q91 ∈ T) (prk : Part.rk ∈ T) (pscan : Part.scan ∈ T) (pest : Part.est ∈ T) (ptime : Part.time ∈ T) (pcan : Part.can ∈ T) (h0' : Within T s0 s) : Within T s0 (State.stepBase s n t) := by
  unfold State.stepBase
  extract_lets s1 s2 s3 s4 s5 s6 s7 s8
  rename_i s9 s10 x11 s12
  have h13 : Within T s0 s3 := by
    unfold s3
    refine State.record_within pq91 ?_
    refine State.raise_within pregs pq91 prk pscan ?_
    refine State.bump_within pregs ?_
    refine State.setTimeBase_within ptb ?_
    exact h0'
  have h14 : Within T s0 s6 := by
    unfold s6
    exact within_upd h13 (time := .inl ptime)
  have h15 : Within T s0 s7 := by
    unfold s7
    refine within_ite ?_ ?_
    · refine State.setPtp_within ptime ?_
      exact h14
    · exact h14
  have h16 : Within T s0 s9 := by
    unfold s9
    refine within_ite ?_ ?_
    · exact within_upd h15 (est := .inl pest)
    · exact h15
  have h17 : Within T s0 s10 := by
    unfold s10
    refine State.applyStepped_within pregs pshadow pstg ?_
    exact h16
  have h18 : Within T s0 s12 := by
    unfold s12
    refine within_ite ?_ ?_
    · exact within_upd h17 (can := .inl pcan)
    · exact h16
  clear_value s1 s2 s3 s4 s5 s6 s7 s8 s9 s10 x11 s12
  refine within_ite ?_ ?_
  · refine within_foldl ?_ ?_
    · exact h18
    · intro s19 x20 h21
      refine State.trigStepped_within pregs pq91 prk pscan ptime ?_
      exact h21
  · exact h18

theorem State.tickBase_within {s : State} {n : ℕ} (ptb : Part.tb ∈ T) (h0' : Within T s0 s) : Within T s0 (State.tickBase s n) := by
  unfold State.tickBase
  extract_lets s1 s2
  clear_value s1 s2
  refine State.setTimeBase_within ptb ?_
  exact h0'

theorem State.timeCmd_within {s : State} {who : Initiator} {n : ℕ} {data : ℕ} (pregs : Part.regs ∈ T) (pshadow : Part.shadow ∈ T) (paccErr : Part.accErr ∈ T) (ptb : Part.tb ∈ T) (pstg : Part.stg ∈ T) (pq91 : Part.q91 ∈ T) (phost : Part.host ∈ T) (prk : Part.rk ∈ T) (pscan : Part.scan ∈ T) (pest : Part.est ∈ T) (ptime : Part.time ∈ T) (pcan : Part.can ∈ T) (h0' : Within T s0 s) : Within T s0 (State.timeCmd s who n data) := by
  unfold State.timeCmd
  extract_lets s1 s2
  rename_i s3 x4
  have h5 : Within T s0 s3 := by
    unfold s3
    refine State.wrB_within pregs ?_
    exact h0'
  clear_value s1 s2 s3 x4
  refine within_ite ?_ ?_
  · exact h0'
  · refine within_ite ?_ ?_
    · refine State.refuseAccess_within pregs paccErr pq91 phost ?_
      refine State.wrB_within pregs ?_
      exact h0'
    · refine within_ite ?_ ?_
      · refine State.wrB_within pregs ?_
        exact h0'
      · refine within_ite ?_ ?_
        · refine State.setSynced_within pregs pq91 prk pscan ?_
          refine State.stepBase_within pregs pshadow ptb pstg pq91 prk pscan pest ptime pcan ?_
          exact h5
        · refine State.stepBase_within pregs pshadow ptb pstg pq91 prk pscan pest ptime pcan ?_
          exact h5

theorem State.trigCtl_within {s : State} {k : ℕ} {data : ℕ} (pregs : Part.regs ∈ T) (pq91 : Part.q91 ∈ T) (prk : Part.rk ∈ T) (pscan : Part.scan ∈ T) (ptime : Part.time ∈ T) (h0' : Within T s0 s) : Within T s0 (State.trigCtl s k data) := by
  unfold State.trigCtl
  extract_lets s1
  have h2 : Within T s0 s1 := by
    unfold s1
    refine State.wr_within pregs ?_
    exact h0'
  clear_value s1
  refine within_ite ?_ ?_
  · refine State.armTrigger_within pregs pq91 prk pscan ptime ?_
    exact h2
  · refine State.disarmTrigger_within pregs pq91 prk pscan ptime ?_
    exact h2

theorem State.trigSchedule_within {s : State} {a : ℕ} {data : ℕ} (pregs : Part.regs ∈ T) (h0' : Within T s0 s) : Within T s0 (State.trigSchedule s a data) := by
  unfold State.trigSchedule
  extract_lets s1
  clear_value s1
  refine within_ite ?_ ?_
  · refine State.wrBit_within pregs ?_
    exact h0'
  · refine State.writeFields_within pregs ?_
    exact h0'

/-! ## CanOps -/

theorem State.canAbort_within {s : State} {ch : ℕ} (pregs : Part.regs ∈ T) (peng : Part.eng ∈ T) (h0' : Within T s0 s) : Within T s0 (State.canAbort s ch) := by
  unfold State.canAbort
  refine within_foldl ?_ ?_
  · exact h0'
  · intro s1 x2 h3
    refine State.consume_within pregs peng ?_
    exact h3

theorem State.canRecover_within {s : State} {ch : ℕ} (pregs : Part.regs ∈ T) (pcan : Part.can ∈ T) (h0' : Within T s0 s) : Within T s0 (State.canRecover s ch) := by
  unfold State.canRecover
  refine within_ite ?_ ?_
  · extract_lets s1
    clear_value s1
    refine State.wrB_within pregs ?_
    refine State.setCanCh_within pcan ?_
    exact h0'
  · refine State.wrB_within pregs ?_
    exact h0'

theorem State.canSend_within {s : State} {ch : ℕ} (pregs : Part.regs ∈ T) (pq91 : Part.q91 ∈ T) (prk : Part.rk ∈ T) (pscan : Part.scan ∈ T) (peng : Part.eng ∈ T) (h0' : Within T s0 s) : Within T s0 (State.canSend s ch) := by
  unfold State.canSend
  extract_lets s1 s2 s3 s4
  clear_value s1 s2 s3 s4
  split
  · rename_i x5 e6
    refine State.raise_within pregs pq91 prk pscan ?_
    exact h0'
  · rename_i x7 x8 e9
    extract_lets s10
    clear_value s10
    refine within_ite ?_ ?_
    · refine State.raise_within pregs pq91 prk pscan ?_
      exact h0'
    · refine State.push_within pregs pq91 prk pscan peng ?_
      exact h0'

theorem State.canCmd_within {s : State} {ch : ℕ} {data : ℕ} (pregs : Part.regs ∈ T) (pq91 : Part.q91 ∈ T) (prk : Part.rk ∈ T) (pscan : Part.scan ∈ T) (peng : Part.eng ∈ T) (pcan : Part.can ∈ T) (h0' : Within T s0 s) : Within T s0 (State.canCmd s ch data) := by
  unfold State.canCmd
  extract_lets s1 s2
  have h3 : Within T s0 s1 := by
    unfold s1
    refine within_ite ?_ ?_
    · refine State.canRecover_within pregs pcan ?_
      exact h0'
    · exact h0'
  have h4 : Within T s0 s2 := by
    unfold s2
    refine within_ite ?_ ?_
    · refine State.canAbort_within pregs peng ?_
      exact h3
    · exact h3
  clear_value s1 s2
  refine within_ite ?_ ?_
  · refine State.canSend_within pregs pq91 prk pscan peng ?_
    exact h4
  · exact h4

theorem State.canConfine_within {s : State} {ch : ℕ} (pregs : Part.regs ∈ T) (pq91 : Part.q91 ∈ T) (prk : Part.rk ∈ T) (pscan : Part.scan ∈ T) (h0' : Within T s0 s) : Within T s0 (State.canConfine s ch) := by
  unfold State.canConfine
  extract_lets s1 s2
  rename_i s3
  have h4 : Within T s0 s2 := by
    unfold s2
    refine State.wrB_within pregs ?_
    exact h0'
  have h5 : Within T s0 s3 := by
    unfold s3
    refine State.wr_within pregs ?_
    exact h4
  clear_value s1 s2 s3
  refine within_ite ?_ ?_
  · exact h4
  · refine within_ite ?_ ?_
    · refine within_ite ?_ ?_
      · refine State.raise_within pregs pq91 prk pscan ?_
        exact h5
      · exact h5
    · refine State.wr_within pregs ?_
      exact h4

theorem State.canDeliver_within {s : State} {ch : ℕ} {head : List Byte} {filter : ℕ} {c : ℕ} {data : List Byte} {echo : Bool} (pregs : Part.regs ∈ T) (pq91 : Part.q91 ∈ T) (prk : Part.rk ∈ T) (pscan : Part.scan ∈ T) (peng : Part.eng ∈ T) (pcan : Part.can ∈ T) (h0' : Within T s0 s) : Within T s0 (State.canDeliver s ch head filter c data echo) := by
  unfold State.canDeliver
  extract_lets s1
  clear_value s1
  split
  rename_i x2 x3 x4 e5
  extract_lets s6 s7
  clear_value s6 s7
  split
  rename_i s8 s9 x10 e11
  have h12 : Within T s0 s9 := by
    refine within_of_fst e11 ?_
    refine State.push_within pregs pq91 prk pscan peng ?_
    exact h0'
  refine within_ite ?_ ?_
  · extract_lets s13
    have h14 : Within T s0 s13 := by
      unfold s13
      refine State.setCanCh_within pcan ?_
      exact h12
    clear_value s13
    refine within_ite ?_ ?_
    · exact h14
    · refine State.raise_within pregs pq91 prk pscan ?_
      refine State.wr_within pregs ?_
      exact h14
  · refine State.raise_within pregs pq91 prk pscan ?_
    refine State.bump_within pregs ?_
    refine State.setCanCh_within pcan ?_
    exact h12

theorem State.canEnable_within {s : State} {ch : ℕ} (pregs : Part.regs ∈ T) (pcan : Part.can ∈ T) (h0' : Within T s0 s) : Within T s0 (State.canEnable s ch) := by
  unfold State.canEnable
  extract_lets s1
  rename_i s2 x3
  have h4 : Within T s0 s2 := by
    unfold s2
    refine within_ite ?_ ?_
    · refine State.voidCheck_within pregs ?_
      refine State.setCanCh_within pcan ?_
      exact h0'
    · exact h0'
  clear_value s1 s2 x3
  refine State.canIntegrate_within pregs pcan ?_
  refine State.setCanCh_within pcan ?_
  refine State.wr_within pregs ?_
  refine State.wr_within pregs ?_
  refine State.wr_within pregs ?_
  exact h4

theorem State.canGood_within {s : State} {ch : ℕ} (pregs : Part.regs ∈ T) (pq91 : Part.q91 ∈ T) (pcan : Part.can ∈ T) (h0' : Within T s0 s) : Within T s0 (State.canGood s ch) := by
  unfold State.canGood
  extract_lets s1
  clear_value s1
  refine within_ite ?_ ?_
  · refine State.retryPass_within pregs pq91 ?_
    refine State.setCanCh_within pcan ?_
    exact h0'
  · exact h0'

theorem State.canIntegrated_within {s : State} {ch : ℕ} {c : ℕ} (pregs : Part.regs ∈ T) (pcan : Part.can ∈ T) (h0' : Within T s0 s) : Within T s0 (State.canIntegrated s ch c) := by
  unfold State.canIntegrated
  split
  · rename_i x1 e2
    exact h0'
  · rename_i x3 x4 e5
    extract_lets s6
    rename_i x7
    clear_value s6 x7
    refine within_ite ?_ ?_
    · exact h0'
    · refine State.wr_within pregs ?_
      refine State.setCanCh_within pcan ?_
      exact h0'

theorem State.canService_within {s : State} {ch : ℕ} {id : ℕ} {data : List Byte} (pregs : Part.regs ∈ T) (pq91 : Part.q91 ∈ T) (prk : Part.rk ∈ T) (pscan : Part.scan ∈ T) (peng : Part.eng ∈ T) (h0' : Within T s0 s) : Within T s0 (State.canService s ch id data) := by
  unfold State.canService
  extract_lets s1
  clear_value s1
  refine within_ite ?_ ?_
  · refine State.push_within pregs pq91 prk pscan peng ?_
    exact h0'
  · exact h0'

theorem State.recDown_within {s : State} {ch : ℕ} (pregs : Part.regs ∈ T) (pfree : Part.free ∈ T) (pq91 : Part.q91 ∈ T) (prk : Part.rk ∈ T) (pscan : Part.scan ∈ T) (h0' : Within T s0 s) : Within T s0 (State.recDown s ch) := by
  unfold State.recDown
  extract_lets s1
  clear_value s1
  refine within_ite ?_ ?_
  · exact h0'
  · refine within_ite ?_ ?_
    · split
      rename_i s2 x3 s4 e5
      have h6 : Within T s0 s4 := by
        refine within_of_snd e5 ?_
        refine State.drawFree_within pfree ?_
        exact h0'
      refine State.canConfine_within pregs pq91 prk pscan ?_
      refine State.wr_within pregs ?_
      exact h6
    · refine State.canConfine_within pregs pq91 prk pscan ?_
      refine State.wr_within pregs ?_
      exact h0'

/-! ## CanFam -/

theorem execBusOff_within {ch : Fin 4} {s : State} (pregs : Part.regs ∈ T) (pq91 : Part.q91 ∈ T) (prk : Part.rk ∈ T) (pscan : Part.scan ∈ T) (pcan : Part.can ∈ T) (h1' : Within T s0 s) : ∃ u', (execBusOff ch s) = .next u' ∧ Within T s0 u' := by
  unfold execBusOff
  refine out_ite ?_ ?_
  · extract_lets s1 s2
    have h3 : Within T s0 s2 := by
      unfold s2
      refine State.wr_within pregs ?_
      refine State.wr_within pregs ?_
      refine State.raise_within pregs pq91 prk pscan ?_
      refine State.bump_within pregs ?_
      exact h1'
    clear_value s1 s2
    refine out_ite ?_ ?_
    · refine ⟨_, rfl, ?_⟩
      refine State.lastingW_within pregs pq91 ?_
      refine State.raise_within pregs pq91 prk pscan ?_
      refine State.wrB_within pregs ?_
      refine State.setCanCh_within pcan ?_
      exact h3
    · refine ⟨_, rfl, ?_⟩
      refine State.setCanCh_within pcan ?_
      exact h3
  · refine ⟨_, rfl, ?_⟩
    exact h1'

theorem execBusOffRecovered_within {ch : Fin 4} {s : State} (pregs : Part.regs ∈ T) (pq91 : Part.q91 ∈ T) (prk : Part.rk ∈ T) (pscan : Part.scan ∈ T) (pcan : Part.can ∈ T) (h1' : Within T s0 s) : ∃ u', (execBusOffRecovered ch s) = .next u' ∧ Within T s0 u' := by
  unfold execBusOffRecovered
  extract_lets s1
  clear_value s1
  refine out_ite ?_ ?_
  · refine ⟨_, rfl, ?_⟩
    refine State.raise_within pregs pq91 prk pscan ?_
    refine State.wrB_within pregs ?_
    refine State.wr_within pregs ?_
    refine State.wr_within pregs ?_
    refine State.wr_within pregs ?_
    refine State.setCanCh_within pcan ?_
    exact h1'
  · refine ⟨_, rfl, ?_⟩
    exact h1'

theorem execCanFrameRx_within {ch : Fin 4} {f : CanFrame} {c : BitVec 32} {s : State} (pregs : Part.regs ∈ T) (pfree : Part.free ∈ T) (pq91 : Part.q91 ∈ T) (prk : Part.rk ∈ T) (pscan : Part.scan ∈ T) (peng : Part.eng ∈ T) (pcan : Part.can ∈ T) (h3' : Within T s0 s) : ∃ u', (execCanFrameRx ch f c s) = .next u' ∧ Within T s0 u' := by
  unfold execCanFrameRx
  extract_lets s1
  rename_i s2 x3
  have h4 : Within T s0 s1 := by
    unfold s1
    refine State.canIntegrated_within pregs pcan ?_
    exact h3'
  have h5 : Within T s0 s2 := by
    unfold s2
    refine State.recDown_within pregs pfree pq91 prk pscan ?_
    refine State.canGood_within pregs pq91 pcan ?_
    exact h4
  clear_value s1 s2 x3
  refine out_ite ?_ ?_
  · split
    · rename_i x6 x7 e8
      refine ⟨_, rfl, ?_⟩
      refine State.canDeliver_within pregs pq91 prk pscan peng pcan ?_
      exact h5
    · rename_i x9 e10
      refine ⟨_, rfl, ?_⟩
      exact h5
  · refine ⟨_, rfl, ?_⟩
    exact h4

theorem State.latchNow_within {s : State} (pregs : Part.regs ∈ T) (pcan : Part.can ∈ T) (h0' : Within T s0 s) : Within T s0 (State.latchNow s) := by
  unfold State.latchNow
  extract_lets s1 s2 s3 s4
  rename_i s5
  have h6 : Within T s0 s5 := by
    unfold s5
    exact within_upd h0' (can := .inl pcan)
  clear_value s1 s2 s3 s4 s5
  refine within_foldl ?_ ?_
  · exact h6
  · intro s7 x8 h9
    refine State.wr_within pregs ?_
    refine State.wr_within pregs ?_
    refine State.wr_within pregs ?_
    refine State.wr_within pregs ?_
    exact h9

theorem execCanLatch_within {s : State} (pregs : Part.regs ∈ T) (pcan : Part.can ∈ T) (h0' : Within T s0 s) : ∃ u', (execCanLatch s) = .next u' ∧ Within T s0 u' := by
  unfold execCanLatch
  refine out_ite ?_ ?_
  · refine ⟨_, rfl, ?_⟩
    refine State.latchNow_within pregs pcan ?_
    exact h0'
  · refine ⟨_, rfl, ?_⟩
    exact h0'

theorem execCanTxComplete_within {ch : Fin 4} {c : BitVec 32} {s : State} (pregs : Part.regs ∈ T) (pout : Part.out ∈ T) (pq91 : Part.q91 ∈ T) (prk : Part.rk ∈ T) (pscan : Part.scan ∈ T) (peng : Part.eng ∈ T) (pcan : Part.can ∈ T) (h2' : Within T s0 s) : ∃ u', (execCanTxComplete ch c s) = .next u' ∧ Within T s0 u' := by
  unfold execCanTxComplete
  extract_lets s1
  have h2 : Within T s0 s1 := by
    unfold s1
    refine State.canIntegrated_within pregs pcan ?_
    exact h2'
  clear_value s1
  refine out_ite ?_ ?_
  · split
    · rename_i x3 e4
      refine ⟨_, rfl, ?_⟩
      exact h2
    · rename_i x5 x6 e7
      extract_lets s8 s9 s10 s11
      have h12 : Within T s0 s9 := by
        unfold s9
        refine State.consume_within pregs peng ?_
        refine State.send_within pout ?_
        exact h2
      have h13 : Within T s0 s10 := by
        unfold s10
        refine State.wr_within pregs ?_
        exact h12
      have h14 : Within T s0 s11 := by
        unfold s11
        refine State.canConfine_within pregs pq91 prk pscan ?_
        refine State.wr_within pregs ?_
        refine State.canGood_within pregs pq91 pcan ?_
        exact h13
      clear_value s8 s9 s10 s11
      refine out_ite ?_ ?_
      · refine ⟨_, rfl, ?_⟩
        refine State.canDeliver_within pregs pq91 prk pscan peng pcan ?_
        exact h14
      · refine ⟨_, rfl, ?_⟩
        exact h14
  · refine ⟨_, rfl, ?_⟩
    exact h2

theorem execCanTxTimeout_within {ch : Fin 4} {k : Fin 4} {s : State} (pregs : Part.regs ∈ T) (pq91 : Part.q91 ∈ T) (prk : Part.rk ∈ T) (pscan : Part.scan ∈ T) (peng : Part.eng ∈ T) (h2' : Within T s0 s) : ∃ u', (execCanTxTimeout ch k s) = .next u' ∧ Within T s0 u' := by
  unfold execCanTxTimeout
  split
  · rename_i x1 x2 e3
    refine out_ite ?_ ?_
    · refine ⟨_, rfl, ?_⟩
      exact h2'
    · refine ⟨_, rfl, ?_⟩
      refine State.raise_within pregs pq91 prk pscan ?_
      refine State.bump_within pregs ?_
      refine State.consume_within pregs peng ?_
      exact h2'
  · rename_i x4 e5
    refine ⟨_, rfl, ?_⟩
    exact h2'

theorem execErrorFrame_within {ch : Fin 4} {kind : Fin 7} {dataPhase : Bool} {tec : BitVec 8} {erc : BitVec 8} {s : State} (pregs : Part.regs ∈ T) (pq91 : Part.q91 ∈ T) (prk : Part.rk ∈ T) (pscan : Part.scan ∈ T) (h5' : Within T s0 s) : ∃ u', (execErrorFrame ch kind dataPhase tec erc s) = .next u' ∧ Within T s0 u' := by
  unfold execErrorFrame
  refine out_ite ?_ ?_
  · extract_lets s1 s2
    have h3 : Within T s0 s1 := by
      unfold s1
      refine State.bump_within pregs ?_
      exact h5'
    have h4 : Within T s0 s2 := by
      unfold s2
      refine State.wr_within pregs ?_
      exact h3
    clear_value s1 s2
    refine out_ite ?_ ?_
    · refine ⟨_, rfl, ?_⟩
      exact h4
    · refine ⟨_, rfl, ?_⟩
      refine State.canConfine_within pregs pq91 prk pscan ?_
      refine State.wr_within pregs ?_
      refine State.wr_within pregs ?_
      exact h4
  · refine ⟨_, rfl, ?_⟩
    exact h5'

theorem execRecoverCmd_within {who : Initiator} {ch : Fin 4} {s : State} (pregs : Part.regs ∈ T) (paccErr : Part.accErr ∈ T) (pq91 : Part.q91 ∈ T) (phost : Part.host ∈ T) (prk : Part.rk ∈ T) (pscan : Part.scan ∈ T) (peng : Part.eng ∈ T) (pcan : Part.can ∈ T) (h2' : Within T s0 s) : ∃ u', (execRecoverCmd who ch s) = .next u' ∧ Within T s0 u' := by
  unfold execRecoverCmd
  refine ⟨_, rfl, ?_⟩
  refine State.asWrite_within pregs paccErr pq91 phost ?_ ?_
  · exact h2'
  · intro s1 h2
    refine State.canCmd_within pregs pq91 prk pscan peng pcan ?_
    exact h2

theorem execSendCmd_within {who : Initiator} {ch : Fin 4} {s : State} (pregs : Part.regs ∈ T) (paccErr : Part.accErr ∈ T) (pq91 : Part.q91 ∈ T) (phost : Part.host ∈ T) (prk : Part.rk ∈ T) (pscan : Part.scan ∈ T) (peng : Part.eng ∈ T) (pcan : Part.can ∈ T) (h2' : Within T s0 s) : ∃ u', (execSendCmd who ch s) = .next u' ∧ Within T s0 u' := by
  unfold execSendCmd
  refine ⟨_, rfl, ?_⟩
  refine State.asWrite_within pregs paccErr pq91 phost ?_ ?_
  · exact h2'
  · intro s1 h2
    refine State.canCmd_within pregs pq91 prk pscan peng pcan ?_
    exact h2

theorem execTxAbort_within {who : Initiator} {ch : Fin 4} {s : State} (pregs : Part.regs ∈ T) (paccErr : Part.accErr ∈ T) (pq91 : Part.q91 ∈ T) (phost : Part.host ∈ T) (prk : Part.rk ∈ T) (pscan : Part.scan ∈ T) (peng : Part.eng ∈ T) (pcan : Part.can ∈ T) (h2' : Within T s0 s) : ∃ u', (execTxAbort who ch s) = .next u' ∧ Within T s0 u' := by
  unfold execTxAbort
  refine ⟨_, rfl, ?_⟩
  refine State.asWrite_within pregs paccErr pq91 phost ?_ ?_
  · exact h2'
  · intro s1 h2
    refine State.canCmd_within pregs pq91 prk pscan peng pcan ?_
    exact h2

/-! ## TrackOps -/

theorem State.toStep_within {s : State} {n : ℕ} (pregs : Part.regs ∈ T) (ptrack : Part.track ∈ T) (h0' : Within T s0 s) : Within T s0 (State.toStep s n) := by
  unfold State.toStep
  extract_lets s1
  rename_i x2
  have h3 : Within T s0 s1 := by
    unfold s1
    refine State.wr_within pregs ?_
    exact h0'
  clear_value s1 x2
  exact within_upd h3 (track := .inl ptrack)

theorem State.startOver_within {s : State} (pregs : Part.regs ∈ T) (ptrack : Part.track ∈ T) (h0' : Within T s0 s) : Within T s0 (State.startOver s) := by
  unfold State.startOver
  extract_lets s1
  rename_i x2
  have h3 : Within T s0 s1 := by
    unfold s1
    refine State.wrB_within pregs ?_
    refine State.wrB_within pregs ?_
    refine State.toStep_within pregs ptrack ?_
    exact h0'
  clear_value s1 x2
  exact within_upd h3 (track := .inl ptrack)

theorem State.startToStandby_within {s : State} (pregs : Part.regs ∈ T) (pq91 : Part.q91 ∈ T) (ptrack : Part.track ∈ T) (pprot : Part.prot ∈ T) (prk : Part.rk ∈ T) (pscan : Part.scan ∈ T) (pest : Part.est ∈ T) (ptele : Part.tele ∈ T) (pnvm : Part.nvm ∈ T) (h0' : Within T s0 s) : Within T s0 (State.startToStandby s) := by
  unfold State.startToStandby
  extract_lets s1
  rename_i x2
  have h3 : Within T s0 s1 := by
    unfold s1
    refine State.setMode_within pregs ?_
    refine State.wrB_within pregs ?_
    refine State.loopOff_within pregs ?_
    refine State.dropEnables_within pregs pprot ?_
    refine State.startOver_within pregs ptrack ?_
    exact h0'
  clear_value s1 x2
  refine State.entryStore_within pregs pq91 prk pscan pest ptele pnvm ?_
  exact within_upd h3 (track := .inl ptrack)

theorem State.abortEnds_within {s : State} (pregs : Part.regs ∈ T) (pq91 : Part.q91 ∈ T) (ptrack : Part.track ∈ T) (pprot : Part.prot ∈ T) (prk : Part.rk ∈ T) (pscan : Part.scan ∈ T) (pest : Part.est ∈ T) (ptele : Part.tele ∈ T) (pnvm : Part.nvm ∈ T) (h0' : Within T s0 s) : Within T s0 (State.abortEnds s) := by
  unfold State.abortEnds
  extract_lets s1 s2
  rename_i s3 x4
  have h5 : Within T s0 s2 := by
    unfold s2
    refine State.raise_within pregs pq91 prk pscan ?_
    refine State.bump_within pregs ?_
    refine State.wr_within pregs ?_
    exact h0'
  have h6 : Within T s0 s3 := by
    unfold s3
    refine State.startOver_within pregs ptrack ?_
    exact h5
  clear_value s1 s2 s3 x4
  split
  · rename_i x7 e8
    refine State.startToStandby_within pregs pq91 ptrack pprot prk pscan pest ptele pnvm ?_
    exact h5
  · rename_i x9 e10
    refine within_ite ?_ ?_
    · refine State.startToStandby_within pregs pq91 ptrack pprot prk pscan pest ptele pnvm ?_
      refine State.record_within pq91 ?_
      refine State.raise_within pregs pq91 prk pscan ?_
      refine State.lasting_within pregs ?_
      exact h5
    · exact within_upd h6 (track := .inl ptrack)

theorem State.abortFinish_within {s : State} (pregs : Part.regs ∈ T) (pq91 : Part.q91 ∈ T) (ptrack : Part.track ∈ T) (pprot : Part.prot ∈ T) (prk : Part.rk ∈ T) (pscan : Part.scan ∈ T) (pest : Part.est ∈ T) (ptele : Part.tele ∈ T) (pnvm : Part.nvm ∈ T) (h0' : Within T s0 s) : Within T s0 (State.abortFinish s) := by
  unfold State.abortFinish
  extract_lets s1 s2
  rename_i s3
  have h4 : Within T s0 s1 := by
    unfold s1
    refine State.releaseAll_within pregs pq91 ptrack prk pscan ?_
    exact h0'
  have h5 : Within T s0 s3 := by
    unfold s3
    exact within_upd h4 (track := .inl ptrack)
  clear_value s1 s2 s3
  refine within_ite ?_ ?_
  · exact h5
  · refine State.abortEnds_within pregs pq91 ptrack pprot prk pscan pest ptele pnvm ?_
    exact h5

theorem State.abortBus_within {s : State} {always : Bool} (pregs : Part.regs ∈ T) (pq91 : Part.q91 ∈ T) (ptrack : Part.track ∈ T) (pprot : Part.prot ∈ T) (prk : Part.rk ∈ T) (pscan : Part.scan ∈ T) (pest : Part.est ∈ T) (ptele : Part.tele ∈ T) (pnvm : Part.nvm ∈ T) (h0' : Within T s0 s) : Within T s0 (State.abortBus s always) := by
  unfold State.abortBus
  refine within_ite ?_ ?_
  · exact h0'
  · extract_lets s1
    have h2 : Within T s0 s1 := by
      unfold s1
      refine State.releaseAll_within pregs pq91 ptrack prk pscan ?_
      exact h0'
    clear_value s1
    refine within_ite ?_ ?_
    · exact h2
    · refine State.abortFinish_within pregs pq91 ptrack pprot prk pscan pest ptele pnvm ?_
      exact h2

theorem State.abortOpen_within {s : State} (pregs : Part.regs ∈ T) (pq91 : Part.q91 ∈ T) (ptrack : Part.track ∈ T) (pprot : Part.prot ∈ T) (prk : Part.rk ∈ T) (pscan : Part.scan ∈ T) (pest : Part.est ∈ T) (ptele : Part.tele ∈ T) (pnvm : Part.nvm ∈ T) (h0' : Within T s0 s) : Within T s0 (State.abortOpen s) := by
  unfold State.abortOpen
  refine State.abortBus_within pregs pq91 ptrack pprot prk pscan pest ptele pnvm ?_
  extract_lets s1
  rename_i x2
  have h3 : Within T s0 s1 := by
    unfold s1
    refine State.dropEnables_within pregs pprot ?_
    exact h0'
  clear_value s1 x2
  exact within_upd h3 (track := .inl ptrack)

theorem State.abortStart_within {s : State} {code : ℕ} {e : AbortEnd} (pregs : Part.regs ∈ T) (pq91 : Part.q91 ∈ T) (ppwm : Part.pwm ∈ T) (ptrack : Part.track ∈ T) (pprot : Part.prot ∈ T) (prk : Part.rk ∈ T) (pscan : Part.scan ∈ T) (pest : Part.est ∈ T) (ptele : Part.tele ∈ T) (pnvm : Part.nvm ∈ T) (h0' : Within T s0 s) : Within T s0 (State.abortStart s code e) := by
  unfold State.abortStart
  refine within_ite ?_ ?_
  · extract_lets s1 s2 s3
    rename_i s4 x5
    have h6 : Within T s0 s1 := by
      unfold s1
      refine State.notePre_within pregs ?_
      exact h0'
    have h7 : Within T s0 s3 := by
      unfold s3
      exact within_upd h6 (track := .inl ptrack)
    have h8 : Within T s0 s4 := by
      unfold s4
      refine within_ite ?_ ?_
      · refine State.release_within pregs pq91 ptrack prk pscan ?_
        exact h7
      · exact h7
    clear_value s1 s2 s3 s4 x5
    refine within_ite ?_ ?_
    · exact within_upd h8 (pwm := .inl ppwm)
    · refine State.abortOpen_within pregs pq91 ptrack pprot prk pscan pest ptele pnvm ?_
      exact h8
  · exact h0'

theorem State.disconnectEnd_within {s : State} (pregs : Part.regs ∈ T) (pout : Part.out ∈ T) (pcrown : Part.crown ∈ T) (pq91 : Part.q91 ∈ T) (ptrack : Part.track ∈ T) (pprot : Part.prot ∈ T) (prk : Part.rk ∈ T) (pscan : Part.scan ∈ T) (pest : Part.est ∈ T) (pringSt : Part.ringSt ∈ T) (pbal : Part.bal ∈ T) (ptele : Part.tele ∈ T) (pnvm : Part.nvm ∈ T) (h0' : Within T s0 s) : Within T s0 (State.disconnectEnd s) := by
  unfold State.disconnectEnd
  extract_lets s1
  rename_i x2 x3
  have h4 : Within T s0 s1 := by
    unfold s1
    refine State.raise_within pregs pq91 prk pscan ?_
    refine State.setMode_within pregs ?_
    refine State.loopOff_within pregs ?_
    refine State.dropEnables_within pregs pprot ?_
    refine State.leaveBal_within pregs pout pq91 prk pscan pringSt pbal ?_
    exact h0'
  clear_value s1 x2 x3
  refine State.entryStore_within pregs pq91 prk pscan pest ptele pnvm ?_
  exact within_upd h4 (crown := .inl pcrown) (track := .inl ptrack)

theorem State.disconnect4_within {s : State} (pregs : Part.regs ∈ T) (pout : Part.out ∈ T) (pcrown : Part.crown ∈ T) (pq91 : Part.q91 ∈ T) (ptrack : Part.track ∈ T) (pprot : Part.prot ∈ T) (prk : Part.rk ∈ T) (pscan : Part.scan ∈ T) (pest : Part.est ∈ T) (pringSt : Part.ringSt ∈ T) (pbal : Part.bal ∈ T) (ptele : Part.tele ∈ T) (pnvm : Part.nvm ∈ T) (h0' : Within T s0 s) : Within T s0 (State.disconnect4 s) := by
  unfold State.disconnect4
  extract_lets s1 s2
  rename_i s3
  have h4 : Within T s0 s1 := by
    unfold s1
    refine State.releaseAll_within pregs pq91 ptrack prk pscan ?_
    exact h0'
  have h5 : Within T s0 s3 := by
    unfold s3
    exact within_upd h4 (track := .inl ptrack)
  clear_value s1 s2 s3
  refine within_ite ?_ ?_
  · exact h5
  · refine State.disconnectEnd_within pregs pout pcrown pq91 ptrack pprot prk pscan pest pringSt pbal ptele pnvm ?_
    exact h5

theorem State.disconnect3_within {s : State} {always : Bool} (pregs : Part.regs ∈ T) (pout : Part.out ∈ T) (pcrown : Part.crown ∈ T) (pq91 : Part.q91 ∈ T) (ptrack : Part.track ∈ T) (pprot : Part.prot ∈ T) (prk : Part.rk ∈ T) (pscan : Part.scan ∈ T) (pest : Part.est ∈ T) (pringSt : Part.ringSt ∈ T) (pbal : Part.bal ∈ T) (ptele : Part.tele ∈ T) (pnvm : Part.nvm ∈ T) (h0' : Within T s0 s) : Within T s0 (State.disconnect3 s always) := by
  unfold State.disconnect3
  refine within_ite ?_ ?_
  · exact h0'
  · extract_lets s1
    have h2 : Within T s0 s1 := by
      unfold s1
      refine State.releaseAll_within pregs pq91 ptrack prk pscan ?_
      exact h0'
    clear_value s1
    refine within_ite ?_ ?_
    · exact h2
    · refine State.disconnect4_within pregs pout pcrown pq91 ptrack pprot prk pscan pest pringSt pbal ptele pnvm ?_
      exact h2

theorem State.gatesStopped_within {s : State} (pregs : Part.regs ∈ T) (pout : Part.out ∈ T) (pcrown : Part.crown ∈ T) (pq91 : Part.q91 ∈ T) (ptrack : Part.track ∈ T) (pprot : Part.prot ∈ T) (prk : Part.rk ∈ T) (pscan : Part.scan ∈ T) (pest : Part.est ∈ T) (pringSt : Part.ringSt ∈ T) (pbal : Part.bal ∈ T) (ptele : Part.tele ∈ T) (pnvm : Part.nvm ∈ T) (h0' : Within T s0 s) : Within T s0 (State.gatesStopped s) := by
  unfold State.gatesStopped
  refine within_ite ?_ ?_
  · exact h0'
  · refine within_ite ?_ ?_
    · refine State.abortOpen_within pregs pq91 ptrack pprot prk pscan pest ptele pnvm ?_
      refine State.loopOff_within pregs ?_
      exact h0'
    · split
      · rename_i x1 e2
        extract_lets s3
        rename_i x4
        have h5 : Within T s0 s3 := by
          unfold s3
          refine State.setMode_within pregs ?_
          refine State.loopOff_within pregs ?_
          exact h0'
        clear_value s3 x4
        exact within_upd h5 (crown := .inl pcrown)
      · rename_i x6 e7
        refine within_ite ?_ ?_
        · refine State.disconnect3_within pregs pout pcrown pq91 ptrack pprot prk pscan pest pringSt pbal ptele pnvm ?_
          extract_lets s8
          rename_i x9
          have h10 : Within T s0 s8 := by
            unfold s8
            refine State.loopOff_within pregs ?_
            exact h0'
          clear_value s8 x9
          exact within_upd h10 (track := .inl ptrack)
        · exact h0'
      · rename_i x11 e12 e13
        exact h0'

theorem State.afterGateStop_within {s : State} (pregs : Part.regs ∈ T) (pout : Part.out ∈ T) (pcrown : Part.crown ∈ T) (pq91 : Part.q91 ∈ T) (ppwm : Part.pwm ∈ T) (ploop : Part.loop ∈ T) (ptrack : Part.track ∈ T) (pprot : Part.prot ∈ T) (prk : Part.rk ∈ T) (pscan : Part.scan ∈ T) (pest : Part.est ∈ T) (pringSt : Part.ringSt ∈ T) (pbal : Part.bal ∈ T) (ptele : Part.tele ∈ T) (pnvm : Part.nvm ∈ T) (h0' : Within T s0 s) : Within T s0 (State.afterGateStop s) := by
  unfold State.afterGateStop
  refine State.gatesStopped_within pregs pout pcrown pq91 ptrack pprot prk pscan pest pringSt pbal ptele pnvm ?_
  refine State.gatesOff_within pregs ppwm ploop ?_
  exact h0'

theorem State.enterRun_within {s : State} (pregs : Part.regs ∈ T) (pout : Part.out ∈ T) (pq91 : Part.q91 ∈ T) (prk : Part.rk ∈ T) (pscan : Part.scan ∈ T) (pringSt : Part.ringSt ∈ T) (pbal : Part.bal ∈ T) (h0' : Within T s0 s) : Within T s0 (State.enterRun s) := by
  unfold State.enterRun
  extract_lets s1 s2 s3 s4
  have h5 : Within T s0 s2 := by
    unfold s2
    refine within_ite ?_ ?_
    · exact h0'
    · refine State.wrI_within pregs ?_
      exact h0'
  have h6 : Within T s0 s3 := by
    unfold s3
    refine State.wr_within pregs ?_
    refine State.setMode_within pregs ?_
    exact h5
  have h7 : Within T s0 s4 := by
    unfold s4
    refine within_ite ?_ ?_
    · refine State.balStop_within pregs pout pq91 prk pscan pringSt pbal ?_
      exact h6
    · exact h6
  clear_value s1 s2 s3 s4
  refine State.wrI_within pregs ?_
  exact h7

theorem State.watchBus_within {s : State} (pregs : Part.regs ∈ T) (pout : Part.out ∈ T) (pq91 : Part.q91 ∈ T) (ppwm : Part.pwm ∈ T) (ploop : Part.loop ∈ T) (prk : Part.rk ∈ T) (pscan : Part.scan ∈ T) (pimp : Part.imp ∈ T) (pringSt : Part.ringSt ∈ T) (pbal : Part.bal ∈ T) (ppair : Part.pair ∈ T) (h0' : Within T s0 s) : Within T s0 (State.watchBus s) := by
  unfold State.watchBus
  refine within_ite ?_ ?_
  · refine State.abortRun_within pregs pout pq91 ppwm ploop prk pscan pimp pringSt pbal ppair ?_
    refine State.freezeAll_within pregs ?_
    refine State.gatesOff_within pregs ppwm ploop ?_
    exact h0'
  · exact h0'

theorem State.toRun_within {s : State} (pregs : Part.regs ∈ T) (pout : Part.out ∈ T) (pcrown : Part.crown ∈ T) (pq91 : Part.q91 ∈ T) (ppwm : Part.pwm ∈ T) (ploop : Part.loop ∈ T) (ptrack : Part.track ∈ T) (prk : Part.rk ∈ T) (pscan : Part.scan ∈ T) (pimp : Part.imp ∈ T) (pringSt : Part.ringSt ∈ T) (pbal : Part.bal ∈ T) (ppair : Part.pair ∈ T) (h0' : Within T s0 s) : Within T s0 (State.toRun s) := by
  unfold State.toRun
  refine within_ite ?_ ?_
  · extract_lets s1
    rename_i x2
    have h3 : Within T s0 s1 := by
      unfold s1
      refine State.toStep_within pregs ptrack ?_
      exact h0'
    clear_value s1 x2
    exact within_upd h3 (crown := .inl pcrown)
  · extract_lets s4 s5 s6 s7 s8
    rename_i x9 s10 s11 x12
    have h13 : Within T s0 s6 := by
      unfold s6
      refine within_ite ?_ ?_
      · refine State.retryPass_within pregs pq91 ?_
        exact h0'
      · exact h0'
    have h14 : Within T s0 s7 := by
      unfold s7
      refine State.enterRun_within pregs pout pq91 prk pscan pringSt pbal ?_
      refine State.wrB_within pregs ?_
      refine State.startOver_within pregs ptrack ?_
      exact h13
    have h15 : Within T s0 s10 := by
      unfold s10
      refine State.clearHistories_within ploop ?_
      exact within_upd h14 (crown := .inl pcrown) (track := .inl ptrack)
    have h16 : Within T s0 s11 := by
      unfold s11
      refine State.presetTo_within ploop ?_
      exact h15
    clear_value s4 s5 s6 s7 s8 x9 s10 s11 x12
    refine State.watchBus_within pregs pout pq91 ppwm ploop prk pscan pimp pringSt pbal ppair ?_
    refine within_ite ?_ ?_
    · exact within_upd h16 (loop := .inl ploop)
    · exact h15

theorem State.busClosed_within {s : State} (pregs : Part.regs ∈ T) (pout : Part.out ∈ T) (pcrown : Part.crown ∈ T) (pq91 : Part.q91 ∈ T) (ppwm : Part.pwm ∈ T) (ploop : Part.loop ∈ T) (ptrack : Part.track ∈ T) (pprot : Part.prot ∈ T) (prk : Part.rk ∈ T) (pscan : Part.scan ∈ T) (pimp : Part.imp ∈ T) (pest : Part.est ∈ T) (pringSt : Part.ringSt ∈ T) (pbal : Part.bal ∈ T) (ptele : Part.tele ∈ T) (pnvm : Part.nvm ∈ T) (ppair : Part.pair ∈ T) (h0' : Within T s0 s) : Within T s0 (State.busClosed s) := by
  unfold State.busClosed
  extract_lets s1 s2
  rename_i s3
  have h4 : Within T s0 s1 := by
    unfold s1
    refine State.raise_within pregs pq91 prk pscan ?_
    exact h0'
  have h5 : Within T s0 s3 := by
    unfold s3
    exact within_upd h4 (track := .inl ptrack)
  clear_value s1 s2 s3
  refine within_ite ?_ ?_
  · refine within_ite ?_ ?_
    · refine State.wrB_within pregs ?_
      refine State.toStep_within pregs ptrack ?_
      exact h5
    · refine State.abortStart_within pregs pq91 ppwm ptrack pprot prk pscan pest ptele pnvm ?_
      exact h5
  · refine State.toRun_within pregs pout pcrown pq91 ppwm ploop ptrack prk pscan pimp pringSt pbal ppair ?_
    refine State.toStep_within pregs ptrack ?_
    exact h5

theorem State.disconnectRamp_within {s : State} (pregs : Part.regs ∈ T) (pout : Part.out ∈ T) (pcrown : Part.crown ∈ T) (pq91 : Part.q91 ∈ T) (ptrack : Part.track ∈ T) (pprot : Part.prot ∈ T) (prk : Part.rk ∈ T) (pscan : Part.scan ∈ T) (pest : Part.est ∈ T) (pringSt : Part.ringSt ∈ T) (pbal : Part.bal ∈ T) (ptele : Part.tele ∈ T) (pnvm : Part.nvm ∈ T) (h0' : Within T s0 s) : Within T s0 (State.disconnectRamp s) := by
  unfold State.disconnectRamp
  extract_lets s1
  rename_i x2 s3 x4
  have h5 : Within T s0 s3 := by
    unfold s3
    refine State.wrB_within pregs ?_
    exact within_upd h0' (crown := .inl pcrown) (track := .inl ptrack)
  clear_value s1 x2 s3 x4
  refine within_ite ?_ ?_
  · refine State.disconnect3_within pregs pout pcrown pq91 ptrack pprot prk pscan pest pringSt pbal ptele pnvm ?_
    exact within_upd h5 (track := .inl ptrack)
  · exact h5

theorem State.disconnectBegin_within {s : State} (pregs : Part.regs ∈ T) (pout : Part.out ∈ T) (pcrown : Part.crown ∈ T) (pq91 : Part.q91 ∈ T) (ppwm : Part.pwm ∈ T) (ploop : Part.loop ∈ T) (ptrack : Part.track ∈ T) (pprot : Part.prot ∈ T) (prk : Part.rk ∈ T) (pscan : Part.scan ∈ T) (pimp : Part.imp ∈ T) (pest : Part.est ∈ T) (pringSt : Part.ringSt ∈ T) (pbal : Part.bal ∈ T) (ptele : Part.tele ∈ T) (pnvm : Part.nvm ∈ T) (ppair : Part.pair ∈ T) (h0' : Within T s0 s) : Within T s0 (State.disconnectBegin s) := by
  unfold State.disconnectBegin
  extract_lets s1 s2
  rename_i s3 x4
  have h5 : Within T s0 s1 := by
    unfold s1
    refine State.abortRun_within pregs pout pq91 ppwm ploop prk pscan pimp pringSt pbal ppair ?_
    exact h0'
  have h6 : Within T s0 s3 := by
    unfold s3
    exact within_upd h5 (crown := .inl pcrown)
  clear_value x4
  clear_value s2
  refine within_ite ?_ ?_
  · exact within_upd h6 (track := .inl ptrack)
  · refine State.disconnectRamp_within pregs pout pcrown pq91 ptrack pprot prk pscan pest pringSt pbal ptele pnvm ?_
    exact h6

theorem State.preCheckStep_within {s : State} (pregs : Part.regs ∈ T) (pshadow : Part.shadow ∈ T) (pout : Part.out ∈ T) (pcrown : Part.crown ∈ T) (pstg : Part.stg ∈ T) (pq91 : Part.q91 ∈ T) (ppwm : Part.pwm ∈ T) (ploop : Part.loop ∈ T) (ptrack : Part.track ∈ T) (pprot : Part.prot ∈ T) (prk : Part.rk ∈ T) (pscan : Part.scan ∈ T) (pimp : Part.imp ∈ T) (pest : Part.est ∈ T) (ptmx : Part.tmx ∈ T) (pringSt : Part.ringSt ∈ T) (pbal : Part.bal ∈ T) (ptele : Part.tele ∈ T) (pnvm : Part.nvm ∈ T) (ppair : Part.pair ∈ T) (h0' : Within T s0 s) : Within T s0 (State.preCheckStep s) := by
  unfold State.preCheckStep
  refine within_ite ?_ ?_
  · refine State.react_within pregs pshadow pout pcrown pstg pq91 ppwm ploop ptrack pprot prk pscan pimp pest ptmx pringSt pbal ptele pnvm ppair ?_
    refine State.dropStart_within pregs pcrown pq91 ptrack prk pscan ?_
    exact h0'
  · refine within_ite ?_ ?_
    · refine State.energise_within pregs ptrack ?_
      refine State.toStep_within pregs ptrack ?_
      exact within_upd h0' (track := .inl ptrack)
    · refine within_ite ?_ ?_
      · refine State.abortStart_within pregs pq91 ppwm ptrack pprot prk pscan pest ptele pnvm ?_
        exact within_upd h0' (track := .inl ptrack)
      · exact within_upd h0' (track := .inl ptrack)

theorem State.startBegin_within {s : State} (pregs : Part.regs ∈ T) (pshadow : Part.shadow ∈ T) (pout : Part.out ∈ T) (pcrown : Part.crown ∈ T) (pstg : Part.stg ∈ T) (pq91 : Part.q91 ∈ T) (ppwm : Part.pwm ∈ T) (ploop : Part.loop ∈ T) (ptrack : Part.track ∈ T) (pprot : Part.prot ∈ T) (prk : Part.rk ∈ T) (pscan : Part.scan ∈ T) (pimp : Part.imp ∈ T) (pest : Part.est ∈ T) (ptmx : Part.tmx ∈ T) (pringSt : Part.ringSt ∈ T) (pbal : Part.bal ∈ T) (ptele : Part.tele ∈ T) (pnvm : Part.nvm ∈ T) (ppair : Part.pair ∈ T) (h0' : Within T s0 s) : Within T s0 (State.startBegin s) := by
  unfold State.startBegin
  extract_lets s1 s2 s3
  rename_i s4
  have h5 : Within T s0 s1 := by
    unfold s1
    refine State.freezeAll_within pregs ?_
    refine State.presetEntry_within pregs ploop ?_
    refine State.setMode_within pregs ?_
    exact h0'
  have h6 : Within T s0 s2 := by
    unfold s2
    refine State.wrB_within pregs ?_
    refine State.raise_within pregs pq91 prk pscan ?_
    refine State.bump_within pregs ?_
    refine State.toStep_within pregs ptrack ?_
    exact h5
  have h7 : Within T s0 s4 := by
    unfold s4
    exact within_upd h6 (track := .inl ptrack)
  clear_value s1 s2 s3 s4
  refine State.preCheckStep_within pregs pshadow pout pcrown pstg pq91 ppwm ploop ptrack pprot prk pscan pimp pest ptmx pringSt pbal ptele pnvm ppair ?_
  refine State.toStep_within pregs ptrack ?_
  exact h7

theorem State.startTracking_within {s : State} (pregs : Part.regs ∈ T) (ppwm : Part.pwm ∈ T) (ploop : Part.loop ∈ T) (ptrack : Part.track ∈ T) (pprot : Part.prot ∈ T) (h0' : Within T s0 s) : Within T s0 (State.startTracking s) := by
  unfold State.startTracking
  extract_lets s1 s2
  rename_i x3 s4
  have h5 : Within T s0 s1 := by
    unfold s1
    refine State.freezeAll_within pregs ?_
    refine State.startPhases_within pregs ppwm ?_
    refine State.askEnables_within pregs pprot ?_
    exact h0'
  have h6 : Within T s0 s4 := by
    unfold s4
    exact within_upd h5 (loop := .inl ploop) (track := .inl ptrack)
  clear_value s1 s2 x3 s4
  refine State.toStep_within pregs ptrack ?_
  exact h6

theorem State.step7_within {s : State} (pregs : Part.regs ∈ T) (pq91 : Part.q91 ∈ T) (ppwm : Part.pwm ∈ T) (ploop : Part.loop ∈ T) (ptrack : Part.track ∈ T) (pprot : Part.prot ∈ T) (prk : Part.rk ∈ T) (pscan : Part.scan ∈ T) (pest : Part.est ∈ T) (ptele : Part.tele ∈ T) (pnvm : Part.nvm ∈ T) (h0' : Within T s0 s) : Within T s0 (State.step7 s) := by
  unfold State.step7
  extract_lets s1
  rename_i x2
  have h3 : Within T s0 s1 := by
    unfold s1
    refine State.toStep_within pregs ptrack ?_
    exact h0'
  clear_value s1 x2
  refine within_ite ?_ ?_
  · refine within_ite ?_ ?_
    · exact within_upd h3 (track := .inl ptrack)
    · refine State.abortStart_within pregs pq91 ppwm ptrack pprot prk pscan pest ptele pnvm ?_
      exact h3
  · refine State.startTracking_within pregs ppwm ploop ptrack pprot ?_
    exact h3

theorem State.weldFound_within {s : State} {k : ℕ} (pregs : Part.regs ∈ T) (pshadow : Part.shadow ∈ T) (pout : Part.out ∈ T) (pcrown : Part.crown ∈ T) (pstg : Part.stg ∈ T) (pq91 : Part.q91 ∈ T) (ppwm : Part.pwm ∈ T) (ploop : Part.loop ∈ T) (ptrack : Part.track ∈ T) (pprot : Part.prot ∈ T) (prk : Part.rk ∈ T) (pscan : Part.scan ∈ T) (pimp : Part.imp ∈ T) (pest : Part.est ∈ T) (ptmx : Part.tmx ∈ T) (pringSt : Part.ringSt ∈ T) (pbal : Part.bal ∈ T) (ptele : Part.tele ∈ T) (pnvm : Part.nvm ∈ T) (ppair : Part.pair ∈ T) (h0' : Within T s0 s) : Within T s0 (State.weldFound s k) := by
  unfold State.weldFound
  extract_lets s1 s2 s3
  have h4 : Within T s0 s1 := by
    unfold s1
    refine State.addCond_within pregs pprot ?_
    refine State.raise_within pregs pq91 prk pscan ?_
    refine State.wrBit_within pregs ?_
    exact h0'
  have h5 : Within T s0 s2 := by
    unfold s2
    refine State.lasting_within pregs ?_
    exact h4
  have h6 : Within T s0 s3 := by
    unfold s3
    refine within_ite ?_ ?_
    · refine State.dropStart_within pregs pcrown pq91 ptrack prk pscan ?_
      exact h5
    · exact h5
  clear_value s1 s2 s3
  refine State.react_within pregs pshadow pout pcrown pstg pq91 ppwm ploop ptrack pprot prk pscan pimp pest ptmx pringSt pbal ptele pnvm ppair ?_
  exact h6

/-! ## RingFam -/

theorem execBalStop_within {who : Initiator} {s : State} (pregs : Part.regs ∈ T) (pout : Part.out ∈ T) (paccErr : Part.accErr ∈ T) (pq91 : Part.q91 ∈ T) (phost : Part.host ∈ T) (prk : Part.rk ∈ T) (pscan : Part.scan ∈ T) (pringSt : Part.ringSt ∈ T) (pbal : Part.bal ∈ T) (h1' : Within T s0 s) : ∃ u', (execBalStop who s) = .next u' ∧ Within T s0 u' := by
  unfold execBalStop
  refine ⟨_, rfl, ?_⟩
  refine State.asWrite_within pregs paccErr pq91 phost ?_ ?_
  · exact h1'
  · intro s1 h2
    refine State.balStop_within pregs pout pq91 prk pscan pringSt pbal ?_
    exact h2

theorem State.clearNfault_within {s : State} (pregs : Part.regs ∈ T) (h0' : Within T s0 s) : Within T s0 (State.clearNfault s) := by
  unfold State.clearNfault
  refine within_ite ?_ ?_
  · exact h0'
  · refine State.wr_within pregs ?_
    exact h0'

theorem execClrNfault_within {who : Initiator} {s : State} (pregs : Part.regs ∈ T) (paccErr : Part.accErr ∈ T) (pq91 : Part.q91 ∈ T) (phost : Part.host ∈ T) (h1' : Within T s0 s) : ∃ u', (execClrNfault who s) = .next u' ∧ Within T s0 u' := by
  unfold execClrNfault
  refine ⟨_, rfl, ?_⟩
  refine State.asWrite_within pregs paccErr pq91 phost ?_ ?_
  · exact h1'
  · intro s1 h2
    refine State.clearNfault_within pregs ?_
    exact h2

theorem State.modRing_within {s : State} {f : Ring → Ring} (pringSt : Part.ringSt ∈ T) (h0' : Within T s0 s) : Within T s0 (State.modRing s f) := by
  unfold State.modRing
  exact within_upd h0' (ringSt := .inl pringSt)

theorem State.takeDelay_within {s : State} {side : ℕ} {n : ℕ} (pregs : Part.regs ∈ T) (pq91 : Part.q91 ∈ T) (prk : Part.rk ∈ T) (pscan : Part.scan ∈ T) (pringSt : Part.ringSt ∈ T) (h0' : Within T s0 s) : Within T s0 (State.takeDelay s side n) := by
  unfold State.takeDelay
  extract_lets s1
  clear_value s1
  split
  rename_i x2 x3 x4 e5
  refine within_ite ?_ ?_
  · refine State.wr_within pregs ?_
    exact h0'
  · extract_lets s6
    clear_value s6
    split
    · rename_i x7 e8
      refine State.wr_within pregs ?_
      refine State.modRing_within pringSt ?_
      exact h0'
    · rename_i x9 x10 x11 e12
      refine within_ite ?_ ?_
      · refine State.wr_within pregs ?_
        refine State.raise_within pregs pq91 prk pscan ?_
        refine State.modRing_within pringSt ?_
        exact h0'
      · refine State.wr_within pregs ?_
        exact h0'

theorem State.setOffsets_within {s : State} (pregs : Part.regs ∈ T) (pringSt : Part.ringSt ∈ T) (h0' : Within T s0 s) : Within T s0 (State.setOffsets s) := by
  unfold State.setOffsets
  extract_lets s1 s2 s3 s4
  have h5 : Within T s0 s4 := by
    unfold s4
    refine State.modRing_within pringSt ?_
    refine State.wr_within pregs ?_
    exact h0'
  clear_value s1 s2 s3 s4
  refine State.modRing_within pringSt ?_
  exact h5

theorem State.writeThr_within {s : State} {n : ℕ} (pout : Part.out ∈ T) (pringSt : Part.ringSt ∈ T) (h0' : Within T s0 s) : Within T s0 (State.writeThr s n) := by
  unfold State.writeThr
  refine State.ringCmd_within pout pringSt ?_
  refine State.ringCmd_within pout pringSt ?_
  exact h0'

theorem State.writeThresholds_within {s : State} (pout : Part.out ∈ T) (pringSt : Part.ringSt ∈ T) (h0' : Within T s0 s) : Within T s0 (State.writeThresholds s) := by
  unfold State.writeThresholds
  refine within_ite ?_ ?_
  · refine within_foldl ?_ ?_
    · exact h0'
    · intro s1 x2 h3
      refine State.writeThr_within pout pringSt ?_
      exact h3
  · exact h0'

theorem State.sequenceDone_within {s : State} (pregs : Part.regs ∈ T) (pout : Part.out ∈ T) (pcrown : Part.crown ∈ T) (pq91 : Part.q91 ∈ T) (prk : Part.rk ∈ T) (pscan : Part.scan ∈ T) (pringSt : Part.ringSt ∈ T) (pbal : Part.bal ∈ T) (ppair : Part.pair ∈ T) (h0' : Within T s0 s) : Within T s0 (State.sequenceDone s) := by
  unfold State.sequenceDone
  extract_lets s1 s2
  rename_i s3 x4 x5 s6
  have h7 : Within T s0 s2 := by
    unfold s2
    refine State.modRing_within pringSt ?_
    exact h0'
  have h8 : Within T s0 s3 := by
    unfold s3
    refine State.raise_within pregs pq91 prk pscan ?_
    exact h7
  have h9 : Within T s0 s6 := by
    unfold s6
    exact within_upd h8 (crown := .inl pcrown) (bal := .inl pbal)
  clear_value s1 s2 s3 x4 x5 s6
  refine within_ite ?_ ?_
  · refine State.replan_within pregs pout pq91 prk pscan pringSt pbal ppair ?_
    refine within_ite ?_ ?_
    · refine State.writeThresholds_within pout pringSt ?_
      exact h9
    · exact h9
  · refine State.replanIfDue_within pregs pout pq91 prk pscan pringSt pbal ppair ?_
    exact h7

theorem State.advanceSeq_within {fuel : ℕ} {s : State} (pregs : Part.regs ∈ T) (pout : Part.out ∈ T) (pcrown : Part.crown ∈ T) (pq91 : Part.q91 ∈ T) (prk : Part.rk ∈ T) (pscan : Part.scan ∈ T) (pringSt : Part.ringSt ∈ T) (pbal : Part.bal ∈ T) (ppair : Part.pair ∈ T) (h0' : Within T s0 s) : Within T s0 (State.advanceSeq fuel s) := by
  induction fuel generalizing s with
  | zero => exact h0'
  | succ n ih =>
    simp only [State.advanceSeq]
    split
    · exact State.sendCmd_within pout pringSt (State.modRing_within pringSt h0')
    · refine within_ite h0' ?_
      split
      · exact ih (State.modRing_within pringSt (State.wr_within pregs h0'))
      · exact ih (State.modRing_within pringSt h0')
      · refine within_ite (State.modRing_within pringSt h0') (ih (State.modRing_within pringSt h0'))
      · refine within_ite (ih (State.setOffsets_within pregs pringSt ?_)) (State.sequenceDone_within pregs pout pcrown pq91 prk pscan pringSt pbal ppair ?_)
        all_goals exact within_foldl h0' fun t x ht => State.takeDelay_within pregs pq91 prk pscan pringSt (State.takeDelay_within pregs pq91 prk pscan pringSt ht)
      · exact State.sequenceDone_within pregs pout pcrown pq91 prk pscan pringSt pbal ppair h0'
      · exact h0'

theorem State.goOn_within {s : State} (pregs : Part.regs ∈ T) (pout : Part.out ∈ T) (pcrown : Part.crown ∈ T) (pq91 : Part.q91 ∈ T) (prk : Part.rk ∈ T) (pscan : Part.scan ∈ T) (pringSt : Part.ringSt ∈ T) (pbal : Part.bal ∈ T) (ppair : Part.pair ∈ T) (h0' : Within T s0 s) : Within T s0 (State.goOn s) := by
  unfold State.goOn
  refine within_ite ?_ ?_
  · refine State.advanceSeq_within pregs pout pcrown pq91 prk pscan pringSt pbal ppair ?_
    exact h0'
  · exact h0'

theorem State.measure_within {s : State} (pregs : Part.regs ∈ T) (pout : Part.out ∈ T) (pcrown : Part.crown ∈ T) (pq91 : Part.q91 ∈ T) (prk : Part.rk ∈ T) (pscan : Part.scan ∈ T) (pringSt : Part.ringSt ∈ T) (pbal : Part.bal ∈ T) (ppair : Part.pair ∈ T) (h0' : Within T s0 s) : Within T s0 (State.measure s) := by
  unfold State.measure
  refine within_ite ?_ ?_
  · exact h0'
  · refine within_ite ?_ ?_
    · refine State.modRing_within pringSt ?_
      exact h0'
    · refine State.goOn_within pregs pout pcrown pq91 prk pscan pringSt pbal ppair ?_
      refine State.modRing_within pringSt ?_
      exact h0'

theorem execDelayPeriod_within {s : State} (pregs : Part.regs ∈ T) (pout : Part.out ∈ T) (pcrown : Part.crown ∈ T) (pq91 : Part.q91 ∈ T) (prk : Part.rk ∈ T) (pscan : Part.scan ∈ T) (pringSt : Part.ringSt ∈ T) (pbal : Part.bal ∈ T) (ppair : Part.pair ∈ T) (h0' : Within T s0 s) : ∃ u', (execDelayPeriod s) = .next u' ∧ Within T s0 u' := by
  unfold execDelayPeriod
  refine out_ite ?_ ?_
  · refine ⟨_, rfl, ?_⟩
    refine State.measure_within pregs pout pcrown pq91 prk pscan pringSt pbal ppair ?_
    exact h0'
  · refine ⟨_, rfl, ?_⟩
    exact h0'

theorem State.afterExchange_within {s : State} {c : RingCmd} (pregs : Part.regs ∈ T) (pout : Part.out ∈ T) (pcrown : Part.crown ∈ T) (pq91 : Part.q91 ∈ T) (prk : Part.rk ∈ T) (pscan : Part.scan ∈ T) (pringSt : Part.ringSt ∈ T) (pbal : Part.bal ∈ T) (ppair : Part.pair ∈ T) (h0' : Within T s0 s) : Within T s0 (State.afterExchange s c) := by
  unfold State.afterExchange
  refine within_ite ?_ ?_
  · refine State.goOn_within pregs pout pcrown pq91 prk pscan pringSt pbal ppair ?_
    exact h0'
  · exact h0'

theorem execEchoReturn_within {n : Fin 32} {side : Fin 2} {rt : BitVec 16} {s : State} (pregs : Part.regs ∈ T) (pout : Part.out ∈ T) (pcrown : Part.crown ∈ T) (pq91 : Part.q91 ∈ T) (prk : Part.rk ∈ T) (pscan : Part.scan ∈ T) (pringSt : Part.ringSt ∈ T) (pbal : Part.bal ∈ T) (ppair : Part.pair ∈ T) (h3' : Within T s0 s) : ∃ u', (execEchoReturn n side rt s) = .next u' ∧ Within T s0 u' := by
  unfold execEchoReturn
  split
  · rename_i x1 e2
    refine ⟨_, rfl, ?_⟩
    exact h3'
  · rename_i x3 x4 e5
    extract_lets s6
    clear_value s6
    split
    rename_i x7 x8 x9 e10
    extract_lets s11 s12
    have h13 : Within T s0 s11 := by
      unfold s11
      refine State.modRing_within pringSt ?_
      exact h3'
    have h14 : Within T s0 s12 := by
      unfold s12
      refine within_ite ?_ ?_
      · refine State.retryPass_within pregs pq91 ?_
        exact h13
      · exact h13
    clear_value s11 s12
    refine out_ite ?_ ?_
    · refine ⟨_, rfl, ?_⟩
      refine State.sendCmd_within pout pringSt ?_
      exact h14
    · refine ⟨_, rfl, ?_⟩
      refine State.afterExchange_within pregs pout pcrown pq91 prk pscan pringSt pbal ppair ?_
      exact h14

theorem State.enterBroken_within {s : State} (pregs : Part.regs ∈ T) (pq91 : Part.q91 ∈ T) (prk : Part.rk ∈ T) (pscan : Part.scan ∈ T) (pringSt : Part.ringSt ∈ T) (pharv : Part.harv ∈ T) (h0' : Within T s0 s) : Within T s0 (State.enterBroken s) := by
  unfold State.enterBroken
  refine within_ite ?_ ?_
  · exact h0'
  · extract_lets s1 s2
    rename_i s3
    have h4 : Within T s0 s1 := by
      unfold s1
      refine State.raise_within pregs pq91 prk pscan ?_
      refine State.wr_within pregs ?_
      refine State.wr_within pregs ?_
      exact h0'
    have h5 : Within T s0 s3 := by
      unfold s3
      exact within_upd h4 (harv := .inl pharv)
    clear_value s1 s2 s3
    refine State.modRing_within pringSt ?_
    exact h5

theorem State.sendEnum_within {s : State} {side : ℕ} {next : ℕ} {step : ℕ} (pout : Part.out ∈ T) (pringSt : Part.ringSt ∈ T) (h0' : Within T s0 s) : Within T s0 (State.sendEnum s side next step) := by
  unfold State.sendEnum
  refine State.sendCmd_within pout pringSt ?_
  exact h0'

theorem State.conflict_within {s : State} (pregs : Part.regs ∈ T) (pq91 : Part.q91 ∈ T) (prk : Part.rk ∈ T) (pscan : Part.scan ∈ T) (h0' : Within T s0 s) : Within T s0 (State.conflict s) := by
  unfold State.conflict
  refine State.raise_within pregs pq91 prk pscan ?_
  refine State.wrB_within pregs ?_
  exact h0'

theorem State.enumCompare_within {s : State} (pregs : Part.regs ∈ T) (pout : Part.out ∈ T) (pcrown : Part.crown ∈ T) (pq91 : Part.q91 ∈ T) (prk : Part.rk ∈ T) (pscan : Part.scan ∈ T) (pringSt : Part.ringSt ∈ T) (pbal : Part.bal ∈ T) (ppair : Part.pair ∈ T) (h0' : Within T s0 s) : Within T s0 (State.enumCompare s) := by
  unfold State.enumCompare
  extract_lets s1 s2
  have h3 : Within T s0 s2 := by
    unfold s2
    split
    · rename_i x4 x5 x6 x7 e8 e9
      refine within_ite ?_ ?_
      · refine State.conflict_within pregs pq91 prk pscan ?_
        exact h0'
      · exact h0'
    · rename_i x10 x11 e12
      exact h0'
  clear_value s1 s2
  refine State.goOn_within pregs pout pcrown pq91 prk pscan pringSt pbal ppair ?_
  refine State.modRing_within pringSt ?_
  exact h3

theorem State.enumStep_within {s : State} {next : Option ℕ} (pregs : Part.regs ∈ T) (pout : Part.out ∈ T) (pcrown : Part.crown ∈ T) (pq91 : Part.q91 ∈ T) (prk : Part.rk ∈ T) (pscan : Part.scan ∈ T) (pringSt : Part.ringSt ∈ T) (pharv : Part.harv ∈ T) (pbal : Part.bal ∈ T) (ppair : Part.pair ∈ T) (h0' : Within T s0 s) : Within T s0 (State.enumStep s next) := by
  unfold State.enumStep
  extract_lets s1
  have h2 : Within T s0 s1 := by
    unfold s1
    refine within_ite ?_ ?_
    · refine State.enterBroken_within pregs pq91 prk pscan pringSt pharv ?_
      exact h0'
    · exact h0'
  clear_value s1
  split
  · rename_i x3 e4
    refine State.sendEnum_within pout pringSt ?_
    refine State.modRing_within pringSt ?_
    exact h2
  · rename_i x5 e6
    refine State.enumCompare_within pregs pout pcrown pq91 prk pscan pringSt pbal ppair ?_
    refine State.modRing_within pringSt ?_
    exact h2
  · rename_i x7 e8 e9
    exact h2

theorem execEnumReturn_within {next : BitVec 8} {s : State} (pregs : Part.regs ∈ T) (pout : Part.out ∈ T) (pcrown : Part.crown ∈ T) (pq91 : Part.q91 ∈ T) (prk : Part.rk ∈ T) (pscan : Part.scan ∈ T) (pringSt : Part.ringSt ∈ T) (pharv : Part.harv ∈ T) (pbal : Part.bal ∈ T) (ppair : Part.pair ∈ T) (h1' : Within T s0 s) : ∃ u', (execEnumReturn next s) = .next u' ∧ Within T s0 u' := by
  unfold execEnumReturn
  refine ⟨_, rfl, ?_⟩
  refine State.enumStep_within pregs pout pcrown pq91 prk pscan pringSt pharv pbal ppair ?_
  exact h1'

theorem execEnumTimeout_within {s : State} (pregs : Part.regs ∈ T) (pout : Part.out ∈ T) (pcrown : Part.crown ∈ T) (pq91 : Part.q91 ∈ T) (prk : Part.rk ∈ T) (pscan : Part.scan ∈ T) (pringSt : Part.ringSt ∈ T) (pharv : Part.harv ∈ T) (pbal : Part.bal ∈ T) (ppair : Part.pair ∈ T) (h0' : Within T s0 s) : ∃ u', (execEnumTimeout s) = .next u' ∧ Within T s0 u' := by
  unfold execEnumTimeout
  refine ⟨_, rfl, ?_⟩
  refine State.enumStep_within pregs pout pcrown pq91 prk pscan pringSt pharv pbal ppair ?_
  exact h0'

theorem State.enumerate_within {s : State} (pregs : Part.regs ∈ T) (pout : Part.out ∈ T) (pq91 : Part.q91 ∈ T) (prk : Part.rk ∈ T) (pscan : Part.scan ∈ T) (pringSt : Part.ringSt ∈ T) (pharv : Part.harv ∈ T) (h0' : Within T s0 s) : Within T s0 (State.enumerate s) := by
  unfold State.enumerate
  refine within_ite ?_ ?_
  · exact h0'
  · extract_lets s1 s2 s3
    have h4 : Within T s0 s1 := by
      unfold s1
      refine State.wrB_within pregs ?_
      refine State.wrB_within pregs ?_
      exact h0'
    have h5 : Within T s0 s2 := by
      unfold s2
      refine State.modRing_within pringSt ?_
      exact h4
    have h6 : Within T s0 s3 := by
      unfold s3
      refine State.sendEnum_within pout pringSt ?_
      exact h5
    clear_value s1 s2 s3
    refine within_ite ?_ ?_
    · refine State.enterBroken_within pregs pq91 prk pscan pringSt pharv ?_
      exact h6
    · exact h6

theorem State.cmdEnumerate_within {s : State} (pregs : Part.regs ∈ T) (pout : Part.out ∈ T) (pq91 : Part.q91 ∈ T) (prk : Part.rk ∈ T) (pscan : Part.scan ∈ T) (pringSt : Part.ringSt ∈ T) (pharv : Part.harv ∈ T) (h0' : Within T s0 s) : Within T s0 (State.cmdEnumerate s) := by
  unfold State.cmdEnumerate
  refine within_ite ?_ ?_
  · exact h0'
  · refine State.enumerate_within pregs pout pq91 prk pscan pringSt pharv ?_
    exact h0'

theorem execEnumerateCmd_within {who : Initiator} {s : State} (pregs : Part.regs ∈ T) (pout : Part.out ∈ T) (paccErr : Part.accErr ∈ T) (pq91 : Part.q91 ∈ T) (phost : Part.host ∈ T) (prk : Part.rk ∈ T) (pscan : Part.scan ∈ T) (pringSt : Part.ringSt ∈ T) (pharv : Part.harv ∈ T) (h1' : Within T s0 s) : ∃ u', (execEnumerateCmd who s) = .next u' ∧ Within T s0 u' := by
  unfold execEnumerateCmd
  refine ⟨_, rfl, ?_⟩
  refine State.asWrite_within pregs paccErr pq91 phost ?_ ?_
  · exact h1'
  · intro s1 h2
    refine State.cmdEnumerate_within pregs pout pq91 prk pscan pringSt pharv ?_
    exact h2

theorem execKeepalive_within {s : State} (pout : Part.out ∈ T) (pringSt : Part.ringSt ∈ T) (h0' : Within T s0 s) : ∃ u', (execKeepalive s) = .next u' ∧ Within T s0 u' := by
  unfold execKeepalive
  refine out_ite ?_ ?_
  · refine ⟨_, rfl, ?_⟩
    refine State.modRing_within pringSt ?_
    refine State.ringCmd_within pout pringSt ?_
    exact h0'
  · refine ⟨_, rfl, ?_⟩
    exact h0'

theorem State.countErrs_within {s : State} {e : PortErrs} (pregs : Part.regs ∈ T) (h0' : Within T s0 s) : Within T s0 (State.countErrs s e) := by
  unfold State.countErrs
  refine State.bump_within pregs ?_
  refine State.bump_within pregs ?_
  refine State.bump_within pregs ?_
  refine State.bump_within pregs ?_
  exact h0'

theorem State.voidNode_within {s : State} {n : ℕ} (pregs : Part.regs ∈ T) (pharv : Part.harv ∈ T) (pbal : Part.bal ∈ T) (h0' : Within T s0 s) : Within T s0 (State.voidNode s n) := by
  unfold State.voidNode
  extract_lets s1 s2 s3
  rename_i x4 x5 x6
  clear_value s1
  clear_value s2 s3 x4 x5 x6
  refine within_ite ?_ ?_
  · exact h0'
  · refine State.voidCheck_within pregs ?_
    refine State.wr_within pregs ?_
    exact within_upd h0' (harv := .inl pharv) (bal := .inl pbal)

theorem State.takeAnswers_within {s : State} {down : ℕ} {up : ℕ} (pregs : Part.regs ∈ T) (pout : Part.out ∈ T) (pq91 : Part.q91 ∈ T) (ppwm : Part.pwm ∈ T) (ploop : Part.loop ∈ T) (prk : Part.rk ∈ T) (pscan : Part.scan ∈ T) (pimp : Part.imp ∈ T) (pringSt : Part.ringSt ∈ T) (pharv : Part.harv ∈ T) (pbal : Part.bal ∈ T) (ppair : Part.pair ∈ T) (h0' : Within T s0 s) : Within T s0 (State.takeAnswers s down up) := by
  unfold State.takeAnswers
  extract_lets s1 s2 s3 s4 s5 s6 s7 s8 s9 s10
  rename_i x11
  have h12 : Within T s0 s2 := by
    unfold s2
    refine State.modRing_within pringSt ?_
    exact h0'
  have h13 : Within T s0 s4 := by
    unfold s4
    refine State.modRing_within pringSt ?_
    exact h12
  have h14 : Within T s0 s7 := by
    unfold s7
    refine within_ite ?_ ?_
    · exact h13
    · refine State.modRing_within pringSt ?_
      refine State.raise_within pregs pq91 prk pscan ?_
      refine State.wr_within pregs ?_
      refine State.wr_within pregs ?_
      exact h13
  have h15 : Within T s0 s8 := by
    unfold s8
    refine within_ite ?_ ?_
    · refine State.abortRun_within pregs pout pq91 ppwm ploop prk pscan pimp pringSt pbal ppair ?_
      exact h14
    · refine within_ite ?_ ?_
      · refine State.enterBroken_within pregs pq91 prk pscan pringSt pharv ?_
        exact h13
      · exact h13
  have h16 : Within T s0 s9 := by
    unfold s9
    refine within_ite ?_ ?_
    · refine State.raise_within pregs pq91 prk pscan ?_
      exact h15
    · exact h15
  have h17 : Within T s0 s10 := by
    unfold s10
    refine within_foldl ?_ ?_
    · exact h16
    · intro s18 x19 h20
      refine State.voidNode_within pregs pharv pbal ?_
      exact h20
  clear_value s1 s2 s3 s4 s5 s6 s7 s8 s9 s10 x11
  refine within_ite ?_ ?_
  · exact h17
  · refine within_ite ?_ ?_
    · refine State.replan_within pregs pout pq91 prk pscan pringSt pbal ppair ?_
      exact h17
    · refine State.modBal_within pbal ?_
      exact h17

theorem State.locate_within {s : State} (pregs : Part.regs ∈ T) (h0' : Within T s0 s) : Within T s0 (State.locate s) := by
  unfold State.locate
  extract_lets s1 s2
  clear_value s1 s2
  refine State.wr_within pregs ?_
  refine State.wr_within pregs ?_
  exact h0'

theorem State.afterKeepalive_within {s : State} (pregs : Part.regs ∈ T) (pout : Part.out ∈ T) (pcrown : Part.crown ∈ T) (pq91 : Part.q91 ∈ T) (prk : Part.rk ∈ T) (pscan : Part.scan ∈ T) (pringSt : Part.ringSt ∈ T) (pbal : Part.bal ∈ T) (ppair : Part.pair ∈ T) (h0' : Within T s0 s) : Within T s0 (State.afterKeepalive s) := by
  unfold State.afterKeepalive
  extract_lets s1
  have h2 : Within T s0 s1 := by
    unfold s1
    refine within_ite ?_ ?_
    · refine State.locate_within pregs ?_
      exact h0'
    · exact h0'
  clear_value s1
  refine within_ite ?_ ?_
  · refine State.goOn_within pregs pout pcrown pq91 prk pscan pringSt pbal ppair ?_
    refine State.modRing_within pringSt ?_
    exact h2
  · refine within_ite ?_ ?_
    · refine State.measure_within pregs pout pcrown pq91 prk pscan pringSt pbal ppair ?_
      exact h2
    · exact h2

theorem execKeepaliveFail_within {answers : NopAnswers} {errs : PortErrs} {s : State} (pregs : Part.regs ∈ T) (pout : Part.out ∈ T) (pcrown : Part.crown ∈ T) (pq91 : Part.q91 ∈ T) (ppwm : Part.pwm ∈ T) (ploop : Part.loop ∈ T) (prk : Part.rk ∈ T) (pscan : Part.scan ∈ T) (pimp : Part.imp ∈ T) (pringSt : Part.ringSt ∈ T) (pharv : Part.harv ∈ T) (pbal : Part.bal ∈ T) (ppair : Part.pair ∈ T) (h2' : Within T s0 s) : ∃ u', (execKeepaliveFail answers errs s) = .next u' ∧ Within T s0 u' := by
  unfold execKeepaliveFail
  extract_lets s1
  rename_i s2 s3 x4 s5
  have h6 : Within T s0 s1 := by
    unfold s1
    refine State.countErrs_within pregs ?_
    exact h2'
  have h7 : Within T s0 s2 := by
    unfold s2
    refine State.takeAnswers_within pregs pout pq91 ppwm ploop prk pscan pimp pringSt pharv pbal ppair ?_
    exact h6
  have h8 : Within T s0 s3 := by
    unfold s3
    refine State.modRing_within pringSt ?_
    exact h7
  have h9 : Within T s0 s5 := by
    unfold s5
    refine within_ite ?_ ?_
    · refine State.enterBroken_within pregs pq91 prk pscan pringSt pharv ?_
      exact h8
    · exact h8
  clear_value s1 s2 s3 x4 s5
  refine out_ite ?_ ?_
  · refine ⟨_, rfl, ?_⟩
    exact h6
  · refine ⟨_, rfl, ?_⟩
    refine State.afterKeepalive_within pregs pout pcrown pq91 prk pscan pringSt pbal ppair ?_
    exact h9

theorem State.enterIntact_within {s : State} (pregs : Part.regs ∈ T) (pq91 : Part.q91 ∈ T) (prk : Part.rk ∈ T) (pscan : Part.scan ∈ T) (pringSt : Part.ringSt ∈ T) (h0' : Within T s0 s) : Within T s0 (State.enterIntact s) := by
  unfold State.enterIntact
  extract_lets s1 s2
  have h3 : Within T s0 s2 := by
    unfold s2
    refine State.wr_within pregs ?_
    refine State.wr_within pregs ?_
    refine State.wr_within pregs ?_
    exact h0'
  clear_value s1 s2
  refine State.modRing_within pringSt ?_
  refine within_ite ?_ ?_
  · refine State.raise_within pregs pq91 prk pscan ?_
    exact h3
  · exact h3

theorem execKeepaliveReturn_within {answers : NopAnswers} {loopNs : BitVec 16} {errs : PortErrs} {s : State} (pregs : Part.regs ∈ T) (pout : Part.out ∈ T) (pcrown : Part.crown ∈ T) (pq91 : Part.q91 ∈ T) (ppwm : Part.pwm ∈ T) (ploop : Part.loop ∈ T) (prk : Part.rk ∈ T) (pscan : Part.scan ∈ T) (pimp : Part.imp ∈ T) (pringSt : Part.ringSt ∈ T) (pharv : Part.harv ∈ T) (pbal : Part.bal ∈ T) (ppair : Part.pair ∈ T) (h3' : Within T s0 s) : ∃ u', (execKeepaliveReturn answers loopNs errs s) = .next u' ∧ Within T s0 u' := by
  unfold execKeepaliveReturn
  extract_lets s1
  rename_i s2 x3 x4 s5 x6 s7 s8 s9
  have h10 : Within T s0 s1 := by
    unfold s1
    refine State.countErrs_within pregs ?_
    exact h3'
  have h11 : Within T s0 s2 := by
    unfold s2
    refine State.takeAnswers_within pregs pout pq91 ppwm ploop prk pscan pimp pringSt pharv pbal ppair ?_
    exact h10
  have h12 : Within T s0 s5 := by
    unfold s5
    refine State.modRing_within pringSt ?_
    exact h11
  have h13 : Within T s0 s7 := by
    unfold s7
    refine within_ite ?_ ?_
    · refine State.enterIntact_within pregs pq91 prk pscan pringSt ?_
      exact h12
    · exact h12
  have h14 : Within T s0 s8 := by
    unfold s8
    refine within_ite ?_ ?_
    · refine State.wr_within pregs ?_
      exact h13
    · exact h13
  have h15 : Within T s0 s9 := by
    unfold s9
    refine within_ite ?_ ?_
    · refine State.enumerate_within pregs pout pq91 prk pscan pringSt pharv ?_
      refine State.modRing_within pringSt ?_
      exact h14
    · exact h14
  clear_value s1 s2 x3 x4 s5 x6 s7 s8 s9
  refine out_ite ?_ ?_
  · refine ⟨_, rfl, ?_⟩
    exact h10
  · refine ⟨_, rfl, ?_⟩
    refine State.afterKeepalive_within pregs pout pcrown pq91 prk pscan pringSt pbal ppair ?_
    exact h15

theorem execLinkReport_within {n : Fin 32} {s : State} (pregs : Part.regs ∈ T) (pq91 : Part.q91 ∈ T) (prk : Part.rk ∈ T) (pscan : Part.scan ∈ T) (pringSt : Part.ringSt ∈ T) (pharv : Part.harv ∈ T) (h1' : Within T s0 s) : ∃ u', (execLinkReport n s) = .next u' ∧ Within T s0 u' := by
  unfold execLinkReport
  refine out_ite ?_ ?_
  · extract_lets s1
    have h2 : Within T s0 s1 := by
      unfold s1
      refine within_ite ?_ ?_
      · exact h1'
      · refine State.enterBroken_within pregs pq91 prk pscan pringSt pharv ?_
        exact h1'
    clear_value s1
    refine ⟨_, rfl, ?_⟩
    refine within_ite ?_ ?_
    · refine State.locate_within pregs ?_
      exact h2
    · exact h2
  · refine ⟨_, rfl, ?_⟩
    exact h1'

theorem execMeasureCmd_within {who : Initiator} {s : State} (pregs : Part.regs ∈ T) (pout : Part.out ∈ T) (paccErr : Part.accErr ∈ T) (pcrown : Part.crown ∈ T) (pq91 : Part.q91 ∈ T) (phost : Part.host ∈ T) (prk : Part.rk ∈ T) (pscan : Part.scan ∈ T) (pringSt : Part.ringSt ∈ T) (pbal : Part.bal ∈ T) (ppair : Part.pair ∈ T) (h1' : Within T s0 s) : ∃ u', (execMeasureCmd who s) = .next u' ∧ Within T s0 u' := by
  unfold execMeasureCmd
  refine ⟨_, rfl, ?_⟩
  refine State.asWrite_within pregs paccErr pq91 phost ?_ ?_
  · exact h1'
  · intro s1 h2
    refine State.measure_within pregs pout pcrown pq91 prk pscan pringSt pbal ppair ?_
    exact h2

theorem execPlanInterval_within {s : State} (pregs : Part.regs ∈ T) (pout : Part.out ∈ T) (pq91 : Part.q91 ∈ T) (prk : Part.rk ∈ T) (pscan : Part.scan ∈ T) (pringSt : Part.ringSt ∈ T) (pbal : Part.bal ∈ T) (ppair : Part.pair ∈ T) (h0' : Within T s0 s) : ∃ u', (execPlanInterval s) = .next u' ∧ Within T s0 u' := by
  unfold execPlanInterval
  refine ⟨_, rfl, ?_⟩
  refine State.replan_within pregs pout pq91 prk pscan pringSt pbal ppair ?_
  exact h0'

theorem State.planNow_within {s : State} {who : Initiator} (pregs : Part.regs ∈ T) (pout : Part.out ∈ T) (pq91 : Part.q91 ∈ T) (prk : Part.rk ∈ T) (pscan : Part.scan ∈ T) (pringSt : Part.ringSt ∈ T) (pbal : Part.bal ∈ T) (ppair : Part.pair ∈ T) (h0' : Within T s0 s) : Within T s0 (State.planNow s who) := by
  unfold State.planNow
  refine within_ite ?_ ?_
  · refine State.planBegin_within pregs pout pq91 prk pscan pringSt pbal ppair ?_
    exact h0'
  · exact h0'

theorem execPlanNow_within {who : Initiator} {s : State} (pregs : Part.regs ∈ T) (pout : Part.out ∈ T) (paccErr : Part.accErr ∈ T) (pq91 : Part.q91 ∈ T) (phost : Part.host ∈ T) (prk : Part.rk ∈ T) (pscan : Part.scan ∈ T) (pringSt : Part.ringSt ∈ T) (pbal : Part.bal ∈ T) (ppair : Part.pair ∈ T) (h1' : Within T s0 s) : ∃ u', (execPlanNow who s) = .next u' ∧ Within T s0 u' := by
  unfold execPlanNow
  refine ⟨_, rfl, ?_⟩
  refine State.asWrite_within pregs paccErr pq91 phost ?_ ?_
  · exact h1'
  · intro s1 h2
    refine State.planNow_within pregs pout pq91 prk pscan pringSt pbal ppair ?_
    exact h2

theorem State.ringClear_within {s : State} (pregs : Part.regs ∈ T) (h0' : Within T s0 s) : Within T s0 (State.ringClear s) := by
  unfold State.ringClear
  refine State.setWord_within pregs ?_
  refine State.setWord_within pregs ?_
  exact h0'

theorem execRingClrErr_within {who : Initiator} {s : State} (pregs : Part.regs ∈ T) (paccErr : Part.accErr ∈ T) (pq91 : Part.q91 ∈ T) (phost : Part.host ∈ T) (h1' : Within T s0 s) : ∃ u', (execRingClrErr who s) = .next u' ∧ Within T s0 u' := by
  unfold execRingClrErr
  refine ⟨_, rfl, ?_⟩
  refine State.asWrite_within pregs paccErr pq91 phost ?_ ?_
  · exact h1'
  · intro s1 h2
    refine State.ringClear_within pregs ?_
    exact h2

theorem execRingPortLinkDown_within {port : Fin 2} {codeErrs : BitVec 16} {s : State} (pregs : Part.regs ∈ T) (pq91 : Part.q91 ∈ T) (prk : Part.rk ∈ T) (pscan : Part.scan ∈ T) (pringSt : Part.ringSt ∈ T) (pharv : Part.harv ∈ T) (h2' : Within T s0 s) : ∃ u', (execRingPortLinkDown port codeErrs s) = .next u' ∧ Within T s0 u' := by
  unfold execRingPortLinkDown
  extract_lets s1 s2
  have h3 : Within T s0 s1 := by
    unfold s1
    refine State.wrB_within pregs ?_
    exact h2'
  have h4 : Within T s0 s2 := by
    unfold s2
    refine State.bump_within pregs ?_
    exact h3
  clear_value s1 s2
  refine ⟨_, rfl, ?_⟩
  refine within_ite ?_ ?_
  · exact h4
  · refine State.enterBroken_within pregs pq91 prk pscan pringSt pharv ?_
    exact h4

theorem execRingPortSynchronised_within {port : Fin 2} {s : State} (pregs : Part.regs ∈ T) (h1' : Within T s0 s) : ∃ u', (execRingPortSynchronised port s) = .next u' ∧ Within T s0 u' := by
  unfold execRingPortSynchronised
  refine ⟨_, rfl, ?_⟩
  refine State.wrB_within pregs ?_
  exact h1'

theorem State.takeIdent_within {s : State} {n : ℕ} {p : List Byte} (pregs : Part.regs ∈ T) (pq91 : Part.q91 ∈ T) (prk : Part.rk ∈ T) (pscan : Part.scan ∈ T) (pringSt : Part.ringSt ∈ T) (h0' : Within T s0 s) : Within T s0 (State.takeIdent s n p) := by
  unfold State.takeIdent
  extract_lets s1 s2 s3
  have h4 : Within T s0 s1 := by
    unfold s1
    refine State.wr_within pregs ?_
    refine State.wr_within pregs ?_
    refine State.wr_within pregs ?_
    exact h0'
  have h5 : Within T s0 s3 := by
    unfold s3
    refine State.modRing_within pringSt ?_
    exact h4
  clear_value s1 s2 s3
  refine within_ite ?_ ?_
  · exact h5
  · refine State.raise_within pregs pq91 prk pscan ?_
    refine State.wrB_within pregs ?_
    exact h5

theorem State.thrFails_within {s : State} {n : ℕ} (pregs : Part.regs ∈ T) (pout : Part.out ∈ T) (pq91 : Part.q91 ∈ T) (pringSt : Part.ringSt ∈ T) (h0' : Within T s0 s) : Within T s0 (State.thrFails s n) := by
  unfold State.thrFails
  refine within_ite ?_ ?_
  · refine State.lastingW_within pregs pq91 ?_
    refine State.modRing_within pringSt ?_
    exact h0'
  · extract_lets s1
    have h2 : Within T s0 s1 := by
      unfold s1
      refine State.modRing_within pringSt ?_
      exact h0'
    clear_value s1
    refine within_ite ?_ ?_
    · refine State.writeThr_within pout pringSt ?_
      exact h2
    · exact h2

theorem State.loopGot_within {s : State} {n : ℕ} {found : List (ℕ × ℕ × ℕ × ℤ)} (pq91 : Part.q91 ∈ T) (pringSt : Part.ringSt ∈ T) (h0' : Within T s0 s) : Within T s0 (State.loopGot s n found) := by
  unfold State.loopGot
  split
  · rename_i x1 e2
    exact h0'
  · rename_i x3 x4 e5
    refine within_ite ?_ ?_
    · extract_lets s6
      rename_i x7 s8
      have h9 : Within T s0 s6 := by
        unfold s6
        refine State.modRing_within pringSt ?_
        exact h0'
      have h10 : Within T s0 s8 := by
        unfold s8
        refine within_ite ?_ ?_
        · refine State.record_within pq91 ?_
          exact h9
        · refine State.record_within pq91 ?_
          exact h9
      clear_value s6 x7 s8
      refine within_ite ?_ ?_
      · refine State.modRing_within pringSt ?_
        exact h10
      · exact h9
    · exact h0'

theorem State.clearGot_within {s : State} {n : ℕ} (pcrown : Part.crown ∈ T) (h0' : Within T s0 s) : Within T s0 (State.clearGot s n) := by
  unfold State.clearGot
  exact within_upd h0' (crown := .inl pcrown)

theorem State.noAnswer_within {s : State} {c : RingCmd} (pregs : Part.regs ∈ T) (pout : Part.out ∈ T) (pcrown : Part.crown ∈ T) (pq91 : Part.q91 ∈ T) (prk : Part.rk ∈ T) (pscan : Part.scan ∈ T) (pringSt : Part.ringSt ∈ T) (pbal : Part.bal ∈ T) (ppair : Part.pair ∈ T) (h0' : Within T s0 s) : Within T s0 (State.noAnswer s c) := by
  unfold State.noAnswer
  extract_lets s1
  clear_value s1
  split
  · rename_i x2 e3
    refine State.planGot_within pregs pout pq91 prk pscan pringSt pbal ppair ?_
    exact h0'
  · rename_i x4 e5
    refine State.thrFails_within pregs pout pq91 pringSt ?_
    exact h0'
  · rename_i x6 e7
    refine State.modRing_within pringSt ?_
    exact h0'
  · rename_i x8 e9
    refine State.loopGot_within pq91 pringSt ?_
    exact h0'
  · rename_i x10 e11
    refine State.clearGot_within pcrown ?_
    exact h0'
  · rename_i x12 e13 e14 e15 e16 e17
    exact h0'

theorem State.takeThr_within {s : State} {n : ℕ} {p : List Byte} (pregs : Part.regs ∈ T) (pq91 : Part.q91 ∈ T) (prk : Part.rk ∈ T) (pscan : Part.scan ∈ T) (pringSt : Part.ringSt ∈ T) (h0' : Within T s0 s) : Within T s0 (State.takeThr s n p) := by
  unfold State.takeThr
  extract_lets s1 s2
  have h3 : Within T s0 s2 := by
    unfold s2
    refine State.modRing_within pringSt ?_
    refine State.wrB_within pregs ?_
    exact h0'
  clear_value s1 s2
  refine within_ite ?_ ?_
  · exact h3
  · refine State.raise_within pregs pq91 prk pscan ?_
    exact h3

theorem State.takeCause_within {s : State} {n : ℕ} {cause : ℕ} {cell : ℕ} {last : ℕ} (pregs : Part.regs ∈ T) (pq91 : Part.q91 ∈ T) (pringSt : Part.ringSt ∈ T) (h0' : Within T s0 s) : Within T s0 (State.takeCause s n cause cell last) := by
  unfold State.takeCause
  extract_lets s1
  clear_value s1
  refine State.loopGot_within pq91 pringSt ?_
  refine State.wr_within pregs ?_
  exact h0'

theorem State.actReply_within {s : State} {c : RingCmd} {status : ℕ} {p : List Byte} (pregs : Part.regs ∈ T) (pout : Part.out ∈ T) (pcrown : Part.crown ∈ T) (pq91 : Part.q91 ∈ T) (prk : Part.rk ∈ T) (pscan : Part.scan ∈ T) (pimp : Part.imp ∈ T) (pest : Part.est ∈ T) (pringSt : Part.ringSt ∈ T) (pbal : Part.bal ∈ T) (ppair : Part.pair ∈ T) (h0' : Within T s0 s) : Within T s0 (State.actReply s c status p) := by
  unfold State.actReply
  extract_lets s1
  rename_i s2
  have h3 : Within T s0 s2 := by
    unfold s2
    refine within_ite ?_ ?_
    · refine State.retryPass_within pregs pq91 ?_
      exact h0'
    · exact h0'
  clear_value s1 s2
  split
  · rename_i x4 e5
    refine within_ite ?_ ?_
    · refine State.conflict_within pregs pq91 prk pscan ?_
      exact h0'
    · refine within_ite ?_ ?_
      · refine State.takeIdent_within pregs pq91 prk pscan pringSt ?_
        exact h0'
      · refine State.noAnswer_within pregs pout pcrown pq91 prk pscan pringSt pbal ppair ?_
        exact h0'
  · rename_i x6 e7
    refine within_ite ?_ ?_
    · refine State.balStat_within pregs pout pq91 prk pscan pimp pest pringSt pbal ppair ?_
      exact h0'
    · refine State.noAnswer_within pregs pout pcrown pq91 prk pscan pringSt pbal ppair ?_
      exact h0'
  · rename_i x8 e9
    refine within_ite ?_ ?_
    · exact h0'
    · refine State.thrFails_within pregs pout pq91 pringSt ?_
      exact h0'
  · rename_i x10 e11
    refine within_ite ?_ ?_
    · refine State.modRing_within pringSt ?_
      exact h3
    · refine State.thrFails_within pregs pout pq91 pringSt ?_
      exact h0'
  · rename_i x12 e13
    refine within_ite ?_ ?_
    · refine State.takeThr_within pregs pq91 prk pscan pringSt ?_
      exact h0'
    · refine State.noAnswer_within pregs pout pcrown pq91 prk pscan pringSt pbal ppair ?_
      exact h0'
  · rename_i x14 e15
    refine within_ite ?_ ?_
    · refine State.takeCause_within pregs pq91 pringSt ?_
      exact h0'
    · refine State.noAnswer_within pregs pout pcrown pq91 prk pscan pringSt pbal ppair ?_
      exact h0'
  · rename_i x16 e17
    refine within_ite ?_ ?_
    · refine State.clearGot_within pcrown ?_
      refine State.wr_within pregs ?_
      exact h0'
    · refine State.noAnswer_within pregs pout pcrown pq91 prk pscan pringSt pbal ppair ?_
      exact h0'
  · rename_i x18 e19 e20 e21 e22 e23 e24 e25
    exact h0'

theorem execRingReply_within {n : Fin 32} {cmd : BitVec 8} {seq : BitVec 8} {status : BitVec 4} {data : ReplyData} {s : State} (pregs : Part.regs ∈ T) (pout : Part.out ∈ T) (pcrown : Part.crown ∈ T) (pq91 : Part.q91 ∈ T) (prk : Part.rk ∈ T) (pscan : Part.scan ∈ T) (pimp : Part.imp ∈ T) (pest : Part.est ∈ T) (pringSt : Part.ringSt ∈ T) (pbal : Part.bal ∈ T) (ppair : Part.pair ∈ T) (h5' : Within T s0 s) : ∃ u', (execRingReply n cmd seq status data s) = .next u' ∧ Within T s0 u' := by
  unfold execRingReply
  extract_lets s1
  have h2 : Within T s0 s1 := by
    unfold s1
    refine State.countErrs_within pregs ?_
    exact h5'
  clear_value s1
  split
  · rename_i x3 x4 e5
    extract_lets s6 s7
    have h8 : Within T s0 s6 := by
      unfold s6
      refine State.modRing_within pringSt ?_
      exact h2
    have h9 : Within T s0 s7 := by
      unfold s7
      refine within_ite ?_ ?_
      · refine State.retryPass_within pregs pq91 ?_
        exact h8
      · exact h8
    clear_value s6 s7
    refine ⟨_, rfl, ?_⟩
    refine State.afterExchange_within pregs pout pcrown pq91 prk pscan pringSt pbal ppair ?_
    refine State.actReply_within pregs pout pcrown pq91 prk pscan pimp pest pringSt pbal ppair ?_
    exact h9
  · rename_i x10 e11
    refine out_ite ?_ ?_
    · refine ⟨_, rfl, ?_⟩
      refine State.conflict_within pregs pq91 prk pscan ?_
      exact h2
    · refine ⟨_, rfl, ?_⟩
      exact h2

theorem State.crcFault_within {s : State} {c : RingCmd} {e : PortErrs} (pregs : Part.regs ∈ T) (pq91 : Part.q91 ∈ T) (prk : Part.rk ∈ T) (pscan : Part.scan ∈ T) (h0' : Within T s0 s) : Within T s0 (State.crcFault s c e) := by
  unfold State.crcFault
  refine State.lastingW_within pregs pq91 ?_
  refine State.raise_within pregs pq91 prk pscan ?_
  exact h0'

theorem execRingReplyTimeout_within {n : Fin 32} {cmd : BitVec 8} {seq : BitVec 8} {errA : PortErr} {errB : PortErr} {s : State} (pregs : Part.regs ∈ T) (pout : Part.out ∈ T) (pcrown : Part.crown ∈ T) (pq91 : Part.q91 ∈ T) (prk : Part.rk ∈ T) (pscan : Part.scan ∈ T) (pringSt : Part.ringSt ∈ T) (pbal : Part.bal ∈ T) (ppair : Part.pair ∈ T) (h5' : Within T s0 s) : ∃ u', (execRingReplyTimeout n cmd seq errA errB s) = .next u' ∧ Within T s0 u' := by
  unfold execRingReplyTimeout
  extract_lets s1
  have h2 : Within T s0 s1 := by
    unfold s1
    refine State.countErrs_within pregs ?_
    exact h5'
  clear_value s1
  split
  · rename_i x3 x4 e5
    extract_lets s6
    have h7 : Within T s0 s6 := by
      unfold s6
      refine State.modRing_within pringSt ?_
      exact h2
    clear_value s6
    refine out_ite ?_ ?_
    · refine ⟨_, rfl, ?_⟩
      refine State.afterExchange_within pregs pout pcrown pq91 prk pscan pringSt pbal ppair ?_
      refine State.noAnswer_within pregs pout pcrown pq91 prk pscan pringSt pbal ppair ?_
      refine State.crcFault_within pregs pq91 prk pscan ?_
      exact h7
    · refine ⟨_, rfl, ?_⟩
      refine State.sendCmd_within pout pringSt ?_
      exact h7
  · rename_i x8 e9
    refine ⟨_, rfl, ?_⟩
    exact h2

theorem execRingSeqRelease_within {s : State} (pout : Part.out ∈ T) (pringSt : Part.ringSt ∈ T) (h0' : Within T s0 s) : ∃ u', (execRingSeqRelease s) = .next u' ∧ Within T s0 u' := by
  unfold execRingSeqRelease
  split
  · rename_i x1 e2
    refine ⟨_, rfl, ?_⟩
    exact h0'
  · rename_i x3 x4 x5 e6
    refine out_ite ?_ ?_
    · refine ⟨_, rfl, ?_⟩
      refine State.launchCmd_within pout pringSt ?_
      refine State.modRing_within pringSt ?_
      exact h0'
    · refine ⟨_, rfl, ?_⟩
      exact h0'

theorem execStopConfirmTimeout_within {n : Fin 32} {s : State} (pregs : Part.regs ∈ T) (pout : Part.out ∈ T) (pq91 : Part.q91 ∈ T) (pringSt : Part.ringSt ∈ T) (pbal : Part.bal ∈ T) (h1' : Within T s0 s) : ∃ u', (execStopConfirmTimeout n s) = .next u' ∧ Within T s0 u' := by
  unfold execStopConfirmTimeout
  refine out_ite ?_ ?_
  · refine ⟨_, rfl, ?_⟩
    exact h1'
  · refine out_ite ?_ ?_
    · refine ⟨_, rfl, ?_⟩
      refine State.lastingW_within pregs pq91 ?_
      refine State.modBal_within pbal ?_
      exact h1'
    · refine ⟨_, rfl, ?_⟩
      refine State.ringCmd_within pout pringSt ?_
      refine State.ringCmd_within pout pringSt ?_
      exact within_upd h1' (bal := .inl pbal)

theorem State.wakeDone_within {s : State} (pregs : Part.regs ∈ T) (pout : Part.out ∈ T) (pq91 : Part.q91 ∈ T) (prk : Part.rk ∈ T) (pscan : Part.scan ∈ T) (pringSt : Part.ringSt ∈ T) (pharv : Part.harv ∈ T) (h0' : Within T s0 s) : Within T s0 (State.wakeDone s) := by
  unfold State.wakeDone
  refine within_ite ?_ ?_
  · refine State.enumerate_within pregs pout pq91 prk pscan pringSt pharv ?_
    refine State.wr_within pregs ?_
    refine State.send_within pout ?_
    exact h0'
  · exact h0'

theorem execWakeSequenceReturn_within {s : State} (pregs : Part.regs ∈ T) (pout : Part.out ∈ T) (pq91 : Part.q91 ∈ T) (prk : Part.rk ∈ T) (pscan : Part.scan ∈ T) (pringSt : Part.ringSt ∈ T) (pharv : Part.harv ∈ T) (h0' : Within T s0 s) : ∃ u', (execWakeSequenceReturn s) = .next u' ∧ Within T s0 u' := by
  unfold execWakeSequenceReturn
  refine ⟨_, rfl, ?_⟩
  refine State.wakeDone_within pregs pout pq91 prk pscan pringSt pharv ?_
  exact h0'

theorem execWakeSequenceTimeout_within {s : State} (pregs : Part.regs ∈ T) (pout : Part.out ∈ T) (pq91 : Part.q91 ∈ T) (prk : Part.rk ∈ T) (pscan : Part.scan ∈ T) (pringSt : Part.ringSt ∈ T) (pharv : Part.harv ∈ T) (h0' : Within T s0 s) : ∃ u', (execWakeSequenceTimeout s) = .next u' ∧ Within T s0 u' := by
  unfold execWakeSequenceTimeout
  refine ⟨_, rfl, ?_⟩
  refine State.wakeDone_within pregs pout pq91 prk pscan pringSt pharv ?_
  exact h0'

theorem State.startRing_within {s : State} (pregs : Part.regs ∈ T) (pout : Part.out ∈ T) (pringSt : Part.ringSt ∈ T) (h0' : Within T s0 s) : Within T s0 (State.startRing s) := by
  unfold State.startRing
  refine State.send_within pout ?_
  refine State.modRing_within pringSt ?_
  refine State.wr_within pregs ?_
  exact h0'

end Sys2Proof.Machine
end

