-- ==== Sys2Proof/Laws/Within3.lean ====
section
/-!
SUPPORT. The parts of the state that each operation can change: ModeOps, DispOps, DispFam, Health, Engines, HarvestOps, HarvestFam.
-/
set_option Elab.async false
set_option linter.unusedSimpArgs false
set_option linter.unusedVariables false
set_option linter.unusedTactic false
set_option linter.unreachableTactic false
namespace Sys2Proof.Machine
open Sys2Proof

variable {T : List Part} {s0 : State}

/-! ## ModeOps -/

theorem State.enterDormant_within {s : State} (pregs : Part.regs ∈ T) (pringSt : Part.ringSt ∈ T) (pharv : Part.harv ∈ T) (h0' : Within T s0 s) : Within T s0 (State.enterDormant s) := by
  unfold State.enterDormant
  extract_lets s1
  rename_i x2
  have h3 : Within T s0 s1 := by
    unfold s1
    refine State.wrB_within pregs ?_
    refine State.wrB_within pregs ?_
    refine State.stopRing_within pregs pringSt ?_
    exact h0'
  clear_value s1 x2
  exact within_upd h3 (harv := .inl pharv)

theorem State.enterTransport_within {s : State} (pregs : Part.regs ∈ T) (pout : Part.out ∈ T) (pcrown : Part.crown ∈ T) (pringSt : Part.ringSt ∈ T) (h0' : Within T s0 s) : Within T s0 (State.enterTransport s) := by
  unfold State.enterTransport
  extract_lets s1 s2 s3
  rename_i s4 x5
  have h6 : Within T s0 s2 := by
    unfold s2
    exact within_upd h0' (crown := .inl pcrown)
  have h7 : Within T s0 s3 := by
    unfold s3
    refine State.stopRing_within pregs pringSt ?_
    refine State.ringCmd_within pout pringSt ?_
    exact h6
  have h8 : Within T s0 s4 := by
    unfold s4
    refine State.driveCool_within pregs ?_
    refine State.setMode_within pregs ?_
    exact h7
  clear_value s1 s2 s3 s4 x5
  exact within_upd h8 (crown := .inl pcrown)

theorem State.judgeSafeExit_within {s : State} (pregs : Part.regs ∈ T) (pcrown : Part.crown ∈ T) (pq91 : Part.q91 ∈ T) (prk : Part.rk ∈ T) (pscan : Part.scan ∈ T) (pest : Part.est ∈ T) (ptele : Part.tele ∈ T) (pnvm : Part.nvm ∈ T) (h0' : Within T s0 s) : Within T s0 (State.judgeSafeExit s) := by
  unfold State.judgeSafeExit
  extract_lets s1 s2 s3
  rename_i s4 s5
  have h6 : Within T s0 s4 := by
    unfold s4
    exact within_upd h0' (crown := .inl pcrown)
  have h7 : Within T s0 s5 := by
    unfold s5
    refine within_ite ?_ ?_
    · refine State.record_within pq91 ?_
      exact h6
    · exact h6
  clear_value s1 s2 s3 s4 s5
  refine within_ite ?_ ?_
  · refine State.entryStore_within pregs pq91 prk pscan pest ptele pnvm ?_
    refine State.closeFeed_within pregs ?_
    refine State.wr_within pregs ?_
    refine State.setMode_within pregs ?_
    refine State.wrB_within pregs ?_
    exact h7
  · refine State.wr_within pregs ?_
    exact h6

theorem State.restBegin_within {s : State} (pregs : Part.regs ∈ T) (pout : Part.out ∈ T) (pcrown : Part.crown ∈ T) (pq91 : Part.q91 ∈ T) (ppwm : Part.pwm ∈ T) (ploop : Part.loop ∈ T) (prk : Part.rk ∈ T) (pscan : Part.scan ∈ T) (pimp : Part.imp ∈ T) (pringSt : Part.ringSt ∈ T) (pbal : Part.bal ∈ T) (ppair : Part.pair ∈ T) (h0' : Within T s0 s) : Within T s0 (State.restBegin s) := by
  unfold State.restBegin
  extract_lets s1
  rename_i x2
  have h3 : Within T s0 s1 := by
    unfold s1
    refine State.abortRun_within pregs pout pq91 ppwm ploop prk pscan pimp pringSt pbal ppair ?_
    exact h0'
  clear_value s1 x2
  refine within_ite ?_ ?_
  · refine State.setMode_within pregs ?_
    refine State.loopOff_within pregs ?_
    exact h3
  · exact within_upd h3 (crown := .inl pcrown)

theorem State.restToRun_within {s : State} (pregs : Part.regs ∈ T) (pout : Part.out ∈ T) (pq91 : Part.q91 ∈ T) (ppwm : Part.pwm ∈ T) (ploop : Part.loop ∈ T) (pprot : Part.prot ∈ T) (prk : Part.rk ∈ T) (pscan : Part.scan ∈ T) (pringSt : Part.ringSt ∈ T) (pbal : Part.bal ∈ T) (h0' : Within T s0 s) : Within T s0 (State.restToRun s) := by
  unfold State.restToRun
  refine State.enterRun_within pregs pout pq91 prk pscan pringSt pbal ?_
  refine State.freezeAll_within pregs ?_
  refine State.startPhases_within pregs ppwm ?_
  refine State.askEnables_within pregs pprot ?_
  refine State.presetEntry_within pregs ploop ?_
  exact h0'

theorem State.safeExitBegin_within {s : State} {who : Initiator} (pout : Part.out ∈ T) (pcrown : Part.crown ∈ T) (pringSt : Part.ringSt ∈ T) (h0' : Within T s0 s) : Within T s0 (State.safeExitBegin s who) := by
  unfold State.safeExitBegin
  extract_lets s1 s2
  rename_i s3
  have h4 : Within T s0 s3 := by
    unfold s3
    exact within_upd h0' (crown := .inl pcrown)
  clear_value s1 s2 s3
  refine within_foldl ?_ ?_
  · exact h4
  · intro s5 x6 h7
    refine State.ringCmd_within pout pringSt ?_
    exact h7

theorem State.transportBegin_within {s : State} (pregs : Part.regs ∈ T) (pcrown : Part.crown ∈ T) (pq91 : Part.q91 ∈ T) (prk : Part.rk ∈ T) (pscan : Part.scan ∈ T) (pest : Part.est ∈ T) (ptele : Part.tele ∈ T) (pnvm : Part.nvm ∈ T) (h0' : Within T s0 s) : Within T s0 (State.transportBegin s) := by
  unfold State.transportBegin
  extract_lets s1
  rename_i x2
  have h3 : Within T s0 s1 := by
    unfold s1
    refine State.haltTasks_within pregs pscan ?_
    refine State.record_within pq91 ?_
    refine State.entryStore_within pregs pq91 prk pscan pest ptele pnvm ?_
    exact h0'
  clear_value s1 x2
  exact within_upd h3 (crown := .inl pcrown)

theorem State.takeRequest_within {s : State} {who : Initiator} {dst : Mode} {dormant : Bool} (pregs : Part.regs ∈ T) (pshadow : Part.shadow ∈ T) (pout : Part.out ∈ T) (pcrown : Part.crown ∈ T) (pstg : Part.stg ∈ T) (pq91 : Part.q91 ∈ T) (ppwm : Part.pwm ∈ T) (ploop : Part.loop ∈ T) (ptrack : Part.track ∈ T) (pprot : Part.prot ∈ T) (prk : Part.rk ∈ T) (pscan : Part.scan ∈ T) (pimp : Part.imp ∈ T) (pest : Part.est ∈ T) (ptmx : Part.tmx ∈ T) (pringSt : Part.ringSt ∈ T) (pharv : Part.harv ∈ T) (pbal : Part.bal ∈ T) (ptele : Part.tele ∈ T) (pnvm : Part.nvm ∈ T) (ppair : Part.pair ∈ T) (h0' : Within T s0 s) : Within T s0 (State.takeRequest s who dst dormant) := by
  unfold State.takeRequest
  split
  · rename_i x1 x2 e3
    refine within_ite ?_ ?_
    · refine State.enterDormant_within pregs pringSt pharv ?_
      exact h0'
    · exact h0'
  · rename_i x4 x5 e6
    refine State.startBegin_within pregs pshadow pout pcrown pstg pq91 ppwm ploop ptrack pprot prk pscan pimp pest ptmx pringSt pbal ptele pnvm ppair ?_
    exact h0'
  · rename_i x7 x8 e9
    refine State.abortStart_within pregs pq91 ppwm ptrack pprot prk pscan pest ptele pnvm ?_
    exact h0'
  · rename_i x10 x11 e12
    refine State.restBegin_within pregs pout pcrown pq91 ppwm ploop prk pscan pimp pringSt pbal ppair ?_
    exact h0'
  · rename_i x13 x14 e15
    refine State.restToRun_within pregs pout pq91 ppwm ploop pprot prk pscan pringSt pbal ?_
    exact h0'
  · rename_i x16 x17 e18
    refine State.disconnectBegin_within pregs pout pcrown pq91 ppwm ploop ptrack pprot prk pscan pimp pest pringSt pbal ptele pnvm ppair ?_
    exact h0'
  · rename_i x19 x20 e21
    refine State.disconnectBegin_within pregs pout pcrown pq91 ppwm ploop ptrack pprot prk pscan pimp pest pringSt pbal ptele pnvm ppair ?_
    exact h0'
  · rename_i x22 x23 e24
    refine State.safeExitBegin_within pout pcrown pringSt ?_
    exact h0'
  · rename_i x25 x26
    refine State.haltTasks_within pregs pscan ?_
    refine State.setMode_within pregs ?_
    refine State.leaveBal_within pregs pout pq91 prk pscan pringSt pbal ?_
    exact h0'
  · rename_i x27 x28 e29
    refine within_ite ?_ ?_
    · refine State.enterTransport_within pregs pout pcrown pringSt ?_
      refine State.transportBegin_within pregs pcrown pq91 prk pscan pest ptele pnvm ?_
      exact h0'
    · refine State.transportBegin_within pregs pcrown pq91 prk pscan pest ptele pnvm ?_
      exact h0'
  · rename_i x30 x31 x32 e33 e34 e35 e36 e37 e38 e39 e40 e41 e42
    exact h0'

theorem State.modeRequest_within {s : State} {who : Initiator} {dst : Mode} {dormant : Bool} {p : Partners} (pregs : Part.regs ∈ T) (pshadow : Part.shadow ∈ T) (pout : Part.out ∈ T) (pcrown : Part.crown ∈ T) (pstg : Part.stg ∈ T) (pq91 : Part.q91 ∈ T) (ppwm : Part.pwm ∈ T) (ploop : Part.loop ∈ T) (ptrack : Part.track ∈ T) (pprot : Part.prot ∈ T) (phost : Part.host ∈ T) (prk : Part.rk ∈ T) (pscan : Part.scan ∈ T) (pimp : Part.imp ∈ T) (pest : Part.est ∈ T) (ptmx : Part.tmx ∈ T) (pringSt : Part.ringSt ∈ T) (pharv : Part.harv ∈ T) (pbal : Part.bal ∈ T) (ptele : Part.tele ∈ T) (pnvm : Part.nvm ∈ T) (ppair : Part.pair ∈ T) (h0' : Within T s0 s) : Within T s0 (State.modeRequest s who dst dormant p) := by
  unfold State.modeRequest
  extract_lets s1 s2 s3 s4
  rename_i x5 x6 s7
  have h8 : Within T s0 s2 := by
    unfold s2
    refine within_ite ?_ ?_
    · refine State.crossWorld_within pregs pq91 phost ?_
      exact h0'
    · exact h0'
  have h9 : Within T s0 s3 := by
    unfold s3
    refine within_ite ?_ ?_
    · refine State.record_within pq91 ?_
      exact h8
    · exact h8
  have h10 : Within T s0 s4 := by
    unfold s4
    refine within_ite ?_ ?_
    · refine State.wr_within pregs ?_
      exact h9
    · exact h9
  have h11 : Within T s0 s7 := by
    unfold s7
    refine within_ite ?_ ?_
    · refine State.wr_within pregs ?_
      exact within_upd h10 (nvm := .inl pnvm)
    · exact h10
  clear_value s1 s2 s3 s4 x5 x6 s7
  refine within_ite ?_ ?_
  · refine State.wr_within pregs ?_
    exact h10
  · refine within_ite ?_ ?_
    · refine State.takeRequest_within pregs pshadow pout pcrown pstg pq91 ppwm ploop ptrack pprot prk pscan pimp pest ptmx pringSt pharv pbal ptele pnvm ppair ?_
      exact h11
    · refine State.takeRequest_within pregs pshadow pout pcrown pstg pq91 ppwm ploop ptrack pprot prk pscan pimp pest ptmx pringSt pharv pbal ptele pnvm ppair ?_
      refine State.wr_within pregs ?_
      exact h11

theorem State.modeReqWrite_within {s : State} {who : Initiator} {target : ℕ} {dormant : Bool} {p : Partners} (pregs : Part.regs ∈ T) (pshadow : Part.shadow ∈ T) (pout : Part.out ∈ T) (pcrown : Part.crown ∈ T) (pstg : Part.stg ∈ T) (pq91 : Part.q91 ∈ T) (ppwm : Part.pwm ∈ T) (ploop : Part.loop ∈ T) (ptrack : Part.track ∈ T) (pprot : Part.prot ∈ T) (phost : Part.host ∈ T) (prk : Part.rk ∈ T) (pscan : Part.scan ∈ T) (pimp : Part.imp ∈ T) (pest : Part.est ∈ T) (ptmx : Part.tmx ∈ T) (pringSt : Part.ringSt ∈ T) (pharv : Part.harv ∈ T) (pbal : Part.bal ∈ T) (ptele : Part.tele ∈ T) (pnvm : Part.nvm ∈ T) (ppair : Part.pair ∈ T) (h0' : Within T s0 s) : Within T s0 (State.modeReqWrite s who target dormant p) := by
  unfold State.modeReqWrite
  refine within_ite ?_ ?_
  · refine State.wr_within pregs ?_
    exact h0'
  · refine within_ite ?_ ?_
    · extract_lets s1
      have h2 : Within T s0 s1 := by
        unfold s1
        refine within_ite ?_ ?_
        · refine State.record_within pq91 ?_
          exact h0'
        · exact h0'
      clear_value s1
      refine State.wr_within pregs ?_
      exact h2
    · refine State.modeRequest_within pregs pshadow pout pcrown pstg pq91 ppwm ploop ptrack pprot phost prk pscan pimp pest ptmx pringSt pharv pbal ptele pnvm ppair ?_
      exact h0'

theorem State.wakeDormant_within {s : State} {cause : ℕ} (pregs : Part.regs ∈ T) (pout : Part.out ∈ T) (pq91 : Part.q91 ∈ T) (prk : Part.rk ∈ T) (pscan : Part.scan ∈ T) (pringSt : Part.ringSt ∈ T) (pcan : Part.can ∈ T) (h0' : Within T s0 s) : Within T s0 (State.wakeDormant s cause) := by
  unfold State.wakeDormant
  refine within_ite ?_ ?_
  · extract_lets s1
    have h2 : Within T s0 s1 := by
      unfold s1
      refine within_foldl ?_ ?_
      · exact h0'
      · intro s3 x4 h5
        refine within_ite ?_ ?_
        · refine State.canIntegrate_within pregs pcan ?_
          exact h5
        · exact h5
    clear_value s1
    refine State.startRing_within pregs pout pringSt ?_
    refine State.raise_within pregs pq91 prk pscan ?_
    refine State.bump_within pregs ?_
    refine State.wr_within pregs ?_
    refine State.wrB_within pregs ?_
    exact h2
  · exact h0'

/-! ## DispOps -/

theorem State.sendStatus_within {s : State} {v : Via} (pregs : Part.regs ∈ T) (pout : Part.out ∈ T) (pq91 : Part.q91 ∈ T) (prk : Part.rk ∈ T) (pscan : Part.scan ∈ T) (pdisp : Part.disp ∈ T) (peng : Part.eng ∈ T) (h0' : Within T s0 s) : Within T s0 (State.sendStatus s v) := by
  unfold State.sendStatus
  refine within_ite ?_ ?_
  · extract_lets s1 s2
    rename_i s3
    have h4 : Within T s0 s3 := by
      unfold s3
      exact within_upd h0' (disp := .inl pdisp)
    clear_value s1 s2 s3
    split
    · rename_i x5 x6 x7 x8 x9
      refine State.send_within pout ?_
      exact h4
    · rename_i x10 x11 x12
      refine State.canService_within pregs pq91 prk pscan peng ?_
      exact h4
  · exact h0'

theorem State.dispDone_within {s : State} {v : Option Via} {result : ℕ} {detail : ℕ} (pregs : Part.regs ∈ T) (pout : Part.out ∈ T) (pq91 : Part.q91 ∈ T) (prk : Part.rk ∈ T) (pscan : Part.scan ∈ T) (pdisp : Part.disp ∈ T) (peng : Part.eng ∈ T) (h0' : Within T s0 s) : Within T s0 (State.dispDone s v result detail) := by
  unfold State.dispDone
  extract_lets s1 s2
  rename_i s3 s4
  have h5 : Within T s0 s1 := by
    unfold s1
    refine State.wr_within pregs ?_
    exact h0'
  have h6 : Within T s0 s3 := by
    unfold s3
    exact within_upd h5 (disp := .inl pdisp)
  have h7 : Within T s0 s4 := by
    unfold s4
    refine within_ite ?_ ?_
    · refine State.raise_within pregs pq91 prk pscan ?_
      refine State.bump_within pregs ?_
      exact h6
    · refine State.raise_within pregs pq91 prk pscan ?_
      refine State.bump_within pregs ?_
      exact h6
  clear_value s1 s2 s3 s4
  split
  · rename_i x8 x9
    refine State.sendStatus_within pregs pout pq91 prk pscan pdisp peng ?_
    exact h7
  · rename_i x10
    exact h7

theorem State.takeSetPoint_within {s : State} {v : ℤ} (pregs : Part.regs ∈ T) (pq91 : Part.q91 ∈ T) (prk : Part.rk ∈ T) (pscan : Part.scan ∈ T) (pdisp : Part.disp ∈ T) (h0' : Within T s0 s) : Within T s0 (State.takeSetPoint s v) := by
  unfold State.takeSetPoint
  extract_lets s1
  rename_i s2
  have h3 : Within T s0 s2 := by
    unfold s2
    exact within_upd h0' (disp := .inl pdisp)
  clear_value s1 s2
  refine within_ite ?_ ?_
  · refine State.raise_within pregs pq91 prk pscan ?_
    refine State.wrB_within pregs ?_
    exact h3
  · exact h3

theorem State.dispAct_within {s : State} {v : Option Via} {seq : ℕ} {kind : ℕ} {value : ℤ} {p : Partners} (pregs : Part.regs ∈ T) (pshadow : Part.shadow ∈ T) (pout : Part.out ∈ T) (pcrown : Part.crown ∈ T) (pstg : Part.stg ∈ T) (pq91 : Part.q91 ∈ T) (ppwm : Part.pwm ∈ T) (ploop : Part.loop ∈ T) (ptrack : Part.track ∈ T) (pprot : Part.prot ∈ T) (phost : Part.host ∈ T) (prk : Part.rk ∈ T) (pscan : Part.scan ∈ T) (pimp : Part.imp ∈ T) (pest : Part.est ∈ T) (ptmx : Part.tmx ∈ T) (pdisp : Part.disp ∈ T) (peng : Part.eng ∈ T) (pringSt : Part.ringSt ∈ T) (pharv : Part.harv ∈ T) (pbal : Part.bal ∈ T) (ptele : Part.tele ∈ T) (pnvm : Part.nvm ∈ T) (ppair : Part.pair ∈ T) (h0' : Within T s0 s) : Within T s0 (State.dispAct s v seq kind value p) := by
  unfold State.dispAct
  split
  · rename_i x1
    extract_lets s2
    clear_value s2
    refine State.dispDone_within pregs pout pq91 prk pscan pdisp peng ?_
    refine within_ite ?_ ?_
    · refine State.takeSetPoint_within pregs pq91 prk pscan pdisp ?_
      exact h0'
    · exact h0'
  · rename_i x3
    extract_lets s4
    clear_value s4
    refine State.dispDone_within pregs pout pq91 prk pscan pdisp peng ?_
    refine within_ite ?_ ?_
    · refine State.takeSetPoint_within pregs pq91 prk pscan pdisp ?_
      exact h0'
    · exact h0'
  · rename_i x5
    extract_lets s6
    clear_value s6
    refine State.dispDone_within pregs pout pq91 prk pscan pdisp peng ?_
    refine within_ite ?_ ?_
    · refine State.takeSetPoint_within pregs pq91 prk pscan pdisp ?_
      exact h0'
    · exact h0'
  · rename_i x7
    extract_lets s8 s9
    clear_value s8 s9
    refine State.dispDone_within pregs pout pq91 prk pscan pdisp peng ?_
    refine State.modeReqWrite_within pregs pshadow pout pcrown pstg pq91 ppwm ploop ptrack pprot phost prk pscan pimp pest ptmx pringSt pharv pbal ptele pnvm ppair ?_
    exact h0'
  · rename_i x10
    exact within_upd h0' (imp := .inl pimp) (disp := .inl pdisp)
  · rename_i x11
    refine State.dispDone_within pregs pout pq91 prk pscan pdisp peng ?_
    refine State.abortRun_within pregs pout pq91 ppwm ploop prk pscan pimp pringSt pbal ppair ?_
    exact h0'
  · rename_i x12 e13 e14 e15 e16 e17 e18
    refine State.dispDone_within pregs pout pq91 prk pscan pdisp peng ?_
    exact h0'

theorem State.dispSeq_within {s : State} {v : Via} {seq : ℕ} (pregs : Part.regs ∈ T) (pdisp : Part.disp ∈ T) (h0' : Within T s0 s) : Within T s0 (State.dispSeq s v seq) := by
  unfold State.dispSeq
  extract_lets s1
  rename_i s2
  have h3 : Within T s0 s2 := by
    unfold s2
    exact within_upd h0' (disp := .inl pdisp)
  clear_value s1 s2
  refine State.showLastSeq_within pregs ?_
  exact h3

theorem State.dispMessage_within {s : State} {v : Via} {kind : ℕ} {m : List Byte} {p : Partners} (pregs : Part.regs ∈ T) (pshadow : Part.shadow ∈ T) (pout : Part.out ∈ T) (pcrown : Part.crown ∈ T) (pstg : Part.stg ∈ T) (pq91 : Part.q91 ∈ T) (ppwm : Part.pwm ∈ T) (ploop : Part.loop ∈ T) (ptrack : Part.track ∈ T) (pprot : Part.prot ∈ T) (phost : Part.host ∈ T) (prk : Part.rk ∈ T) (pscan : Part.scan ∈ T) (pimp : Part.imp ∈ T) (pest : Part.est ∈ T) (ptmx : Part.tmx ∈ T) (pdisp : Part.disp ∈ T) (peng : Part.eng ∈ T) (pringSt : Part.ringSt ∈ T) (pharv : Part.harv ∈ T) (pbal : Part.bal ∈ T) (ptele : Part.tele ∈ T) (pnvm : Part.nvm ∈ T) (ppair : Part.pair ∈ T) (h0' : Within T s0 s) : Within T s0 (State.dispMessage s v kind m p) := by
  unfold State.dispMessage
  extract_lets s1
  rename_i x2 x3 s4 x5 x6 x7
  have h8 : Within T s0 s4 := by
    unfold s4
    exact within_upd h0' (disp := .inl pdisp)
  clear_value s1 x2 x3 s4 x5 x6 x7
  refine within_ite ?_ ?_
  · exact h0'
  · refine within_ite ?_ ?_
    · refine State.bump_within pregs ?_
      exact h0'
    · refine within_ite ?_ ?_
      · exact h0'
      · refine within_ite ?_ ?_
        · refine State.dispDone_within pregs pout pq91 prk pscan pdisp peng ?_
          exact h8
        · refine within_ite ?_ ?_
          · refine State.dispDone_within pregs pout pq91 prk pscan pdisp peng ?_
            exact h8
          · refine State.dispAct_within pregs pshadow pout pcrown pstg pq91 ppwm ploop ptrack pprot phost prk pscan pimp pest ptmx pdisp peng pringSt pharv pbal ptele pnvm ppair ?_
            refine within_ite ?_ ?_
            · refine State.dispSeq_within pregs pdisp ?_
              exact h8
            · exact h8

theorem State.horizonStep_within {s : State} {k : ℕ} {size : ℕ} {need : ℕ} {above : Bool} (pregs : Part.regs ∈ T) (pq91 : Part.q91 ∈ T) (prk : Part.rk ∈ T) (pscan : Part.scan ∈ T) (pdisp : Part.disp ∈ T) (h0' : Within T s0 s) : Within T s0 (State.horizonStep s k size need above) := by
  unfold State.horizonStep
  extract_lets s1 s2 s3 s4 s5 s6
  rename_i x7
  have h8 : Within T s0 s6 := by
    unfold s6
    exact within_upd h0' (disp := .inl pdisp)
  clear_value s1 s2 s3 s4 s5 s6 x7
  refine within_ite ?_ ?_
  · refine State.raise_within pregs pq91 prk pscan ?_
    refine State.wrBit_within pregs ?_
    exact h8
  · refine within_ite ?_ ?_
    · refine State.wrBit_within pregs ?_
      exact h8
    · exact h8

theorem State.horizons_within {s : State} (pregs : Part.regs ∈ T) (pq91 : Part.q91 ∈ T) (prk : Part.rk ∈ T) (pscan : Part.scan ∈ T) (pdisp : Part.disp ∈ T) (h0' : Within T s0 s) : Within T s0 (State.horizons s) := by
  unfold State.horizons
  extract_lets s1 s2 s3 s4 s5
  clear_value s2
  have h6 : Within T s0 s3 := by
    unfold s3
    refine State.horizonStep_within pregs pq91 prk pscan pdisp ?_
    exact h0'
  have h7 : Within T s0 s4 := by
    unfold s4
    refine State.horizonStep_within pregs pq91 prk pscan pdisp ?_
    exact h6
  have h8 : Within T s0 s5 := by
    unfold s5
    refine State.horizonStep_within pregs pq91 prk pscan pdisp ?_
    exact h7
  clear_value s1 s3 s4 s5
  refine State.horizonStep_within pregs pq91 prk pscan pdisp ?_
  exact h8

theorem State.impStartJudged_within {s : State} {code : ℕ} (pregs : Part.regs ∈ T) (pout : Part.out ∈ T) (pq91 : Part.q91 ∈ T) (prk : Part.rk ∈ T) (pscan : Part.scan ∈ T) (pdisp : Part.disp ∈ T) (peng : Part.eng ∈ T) (h0' : Within T s0 s) : Within T s0 (State.impStartJudged s code) := by
  unfold State.impStartJudged
  refine within_foldl ?_ ?_
  · exact within_upd h0' (disp := .inl pdisp)
  · intro s1 x2 h3
    extract_lets s4
    have h5 : Within T s0 s4 := by
      unfold s4
      split
      · rename_i x6 x7 x8
        refine within_ite ?_ ?_
        · refine State.dispSeq_within pregs pdisp ?_
          exact h3
        · exact h3
      · rename_i x9
        exact h3
    clear_value s4
    refine State.dispDone_within pregs pout pq91 prk pscan pdisp peng ?_
    exact h5

theorem State.limiters_within {s : State} (pregs : Part.regs ∈ T) (h0' : Within T s0 s) : Within T s0 (State.limiters s) := by
  unfold State.limiters
  extract_lets s1 s2 s3 s4 s5 s6
  clear_value s4
  clear_value s1 s2 s3 s5 s6
  refine State.wrI_within pregs ?_
  refine State.wrI_within pregs ?_
  exact h0'

theorem State.rampSetPoint_within {s : State} (pregs : Part.regs ∈ T) (h0' : Within T s0 s) : Within T s0 (State.rampSetPoint s) := by
  unfold State.rampSetPoint
  split
  · rename_i x1 e2
    exact h0'
  · rename_i x3 e4
    extract_lets s5 s6 s7
    clear_value s5 s6 s7
    refine within_ite ?_ ?_
    · exact h0'
    · refine within_ite ?_ ?_
      · refine State.wrI_within pregs ?_
        exact h0'
      · refine State.wrI_within pregs ?_
        exact h0'
  · rename_i x8 e9 e10
    refine State.wr_within pregs ?_
    exact h0'

/-! ## DispFam -/

theorem execCurrentMsg_within {v : Via} {m : List Byte} {s : State} (pregs : Part.regs ∈ T) (pshadow : Part.shadow ∈ T) (pout : Part.out ∈ T) (pcrown : Part.crown ∈ T) (pstg : Part.stg ∈ T) (pq91 : Part.q91 ∈ T) (ppwm : Part.pwm ∈ T) (ploop : Part.loop ∈ T) (ptrack : Part.track ∈ T) (pprot : Part.prot ∈ T) (phost : Part.host ∈ T) (prk : Part.rk ∈ T) (pscan : Part.scan ∈ T) (pimp : Part.imp ∈ T) (pest : Part.est ∈ T) (ptmx : Part.tmx ∈ T) (pdisp : Part.disp ∈ T) (peng : Part.eng ∈ T) (pringSt : Part.ringSt ∈ T) (pharv : Part.harv ∈ T) (pbal : Part.bal ∈ T) (ptele : Part.tele ∈ T) (pnvm : Part.nvm ∈ T) (ppair : Part.pair ∈ T) (h2' : Within T s0 s) : ∃ u', (execCurrentMsg v m s) = .next u' ∧ Within T s0 u' := by
  unfold execCurrentMsg
  refine ⟨_, rfl, ?_⟩
  refine State.dispMessage_within pregs pshadow pout pcrown pstg pq91 ppwm ploop ptrack pprot phost prk pscan pimp pest ptmx pdisp peng pringSt pharv pbal ptele pnvm ppair ?_
  exact h2'

theorem execImpStart_within {v : Via} {m : List Byte} {s : State} (pregs : Part.regs ∈ T) (pshadow : Part.shadow ∈ T) (pout : Part.out ∈ T) (pcrown : Part.crown ∈ T) (pstg : Part.stg ∈ T) (pq91 : Part.q91 ∈ T) (ppwm : Part.pwm ∈ T) (ploop : Part.loop ∈ T) (ptrack : Part.track ∈ T) (pprot : Part.prot ∈ T) (phost : Part.host ∈ T) (prk : Part.rk ∈ T) (pscan : Part.scan ∈ T) (pimp : Part.imp ∈ T) (pest : Part.est ∈ T) (ptmx : Part.tmx ∈ T) (pdisp : Part.disp ∈ T) (peng : Part.eng ∈ T) (pringSt : Part.ringSt ∈ T) (pharv : Part.harv ∈ T) (pbal : Part.bal ∈ T) (ptele : Part.tele ∈ T) (pnvm : Part.nvm ∈ T) (ppair : Part.pair ∈ T) (h2' : Within T s0 s) : ∃ u', (execImpStart v m s) = .next u' ∧ Within T s0 u' := by
  unfold execImpStart
  refine ⟨_, rfl, ?_⟩
  refine State.dispMessage_within pregs pshadow pout pcrown pstg pq91 ppwm ploop ptrack pprot phost prk pscan pimp pest ptmx pdisp peng pringSt pharv pbal ptele pnvm ppair ?_
  exact h2'

theorem execImpStop_within {v : Via} {m : List Byte} {s : State} (pregs : Part.regs ∈ T) (pshadow : Part.shadow ∈ T) (pout : Part.out ∈ T) (pcrown : Part.crown ∈ T) (pstg : Part.stg ∈ T) (pq91 : Part.q91 ∈ T) (ppwm : Part.pwm ∈ T) (ploop : Part.loop ∈ T) (ptrack : Part.track ∈ T) (pprot : Part.prot ∈ T) (phost : Part.host ∈ T) (prk : Part.rk ∈ T) (pscan : Part.scan ∈ T) (pimp : Part.imp ∈ T) (pest : Part.est ∈ T) (ptmx : Part.tmx ∈ T) (pdisp : Part.disp ∈ T) (peng : Part.eng ∈ T) (pringSt : Part.ringSt ∈ T) (pharv : Part.harv ∈ T) (pbal : Part.bal ∈ T) (ptele : Part.tele ∈ T) (pnvm : Part.nvm ∈ T) (ppair : Part.pair ∈ T) (h2' : Within T s0 s) : ∃ u', (execImpStop v m s) = .next u' ∧ Within T s0 u' := by
  unfold execImpStop
  refine ⟨_, rfl, ?_⟩
  refine State.dispMessage_within pregs pshadow pout pcrown pstg pq91 ppwm ploop ptrack pprot phost prk pscan pimp pest ptmx pdisp peng pringSt pharv pbal ptele pnvm ppair ?_
  exact h2'

theorem execLimiterChain_within {s : State} (pregs : Part.regs ∈ T) (pout : Part.out ∈ T) (pq91 : Part.q91 ∈ T) (prk : Part.rk ∈ T) (pscan : Part.scan ∈ T) (pdisp : Part.disp ∈ T) (ppair : Part.pair ∈ T) (h0' : Within T s0 s) : ∃ u', (execLimiterChain s) = .next u' ∧ Within T s0 u' := by
  unfold execLimiterChain
  refine out_ite ?_ ?_
  · refine ⟨_, rfl, ?_⟩
    exact h0'
  · extract_lets s1
    have h2 : Within T s0 s1 := by
      unfold s1
      refine State.rampSetPoint_within pregs ?_
      refine State.limiters_within pregs ?_
      refine State.horizons_within pregs pq91 prk pscan pdisp ?_
      exact h0'
    clear_value s1
    refine ⟨_, rfl, ?_⟩
    refine State.mirror_within pout ppair ?_
    exact h2

theorem execModeMsg_within {v : Via} {m : List Byte} {p : Partners} {s : State} (pregs : Part.regs ∈ T) (pshadow : Part.shadow ∈ T) (pout : Part.out ∈ T) (pcrown : Part.crown ∈ T) (pstg : Part.stg ∈ T) (pq91 : Part.q91 ∈ T) (ppwm : Part.pwm ∈ T) (ploop : Part.loop ∈ T) (ptrack : Part.track ∈ T) (pprot : Part.prot ∈ T) (phost : Part.host ∈ T) (prk : Part.rk ∈ T) (pscan : Part.scan ∈ T) (pimp : Part.imp ∈ T) (pest : Part.est ∈ T) (ptmx : Part.tmx ∈ T) (pdisp : Part.disp ∈ T) (peng : Part.eng ∈ T) (pringSt : Part.ringSt ∈ T) (pharv : Part.harv ∈ T) (pbal : Part.bal ∈ T) (ptele : Part.tele ∈ T) (pnvm : Part.nvm ∈ T) (ppair : Part.pair ∈ T) (h3' : Within T s0 s) : ∃ u', (execModeMsg v m p s) = .next u' ∧ Within T s0 u' := by
  unfold execModeMsg
  refine ⟨_, rfl, ?_⟩
  refine State.dispMessage_within pregs pshadow pout pcrown pstg pq91 ppwm ploop ptrack pprot phost prk pscan pimp pest ptmx pdisp peng pringSt pharv pbal ptele pnvm ppair ?_
  exact h3'

theorem execPowerMsg_within {v : Via} {m : List Byte} {s : State} (pregs : Part.regs ∈ T) (pshadow : Part.shadow ∈ T) (pout : Part.out ∈ T) (pcrown : Part.crown ∈ T) (pstg : Part.stg ∈ T) (pq91 : Part.q91 ∈ T) (ppwm : Part.pwm ∈ T) (ploop : Part.loop ∈ T) (ptrack : Part.track ∈ T) (pprot : Part.prot ∈ T) (phost : Part.host ∈ T) (prk : Part.rk ∈ T) (pscan : Part.scan ∈ T) (pimp : Part.imp ∈ T) (pest : Part.est ∈ T) (ptmx : Part.tmx ∈ T) (pdisp : Part.disp ∈ T) (peng : Part.eng ∈ T) (pringSt : Part.ringSt ∈ T) (pharv : Part.harv ∈ T) (pbal : Part.bal ∈ T) (ptele : Part.tele ∈ T) (pnvm : Part.nvm ∈ T) (ppair : Part.pair ∈ T) (h2' : Within T s0 s) : ∃ u', (execPowerMsg v m s) = .next u' ∧ Within T s0 u' := by
  unfold execPowerMsg
  refine ⟨_, rfl, ?_⟩
  refine State.dispMessage_within pregs pshadow pout pcrown pstg pq91 ppwm ploop ptrack pprot phost prk pscan pimp pest ptmx pdisp peng pringSt pharv pbal ptele pnvm ppair ?_
  exact h2'

theorem execStaleDrop_within {s : State} (pregs : Part.regs ∈ T) (pout : Part.out ∈ T) (pcrown : Part.crown ∈ T) (pq91 : Part.q91 ∈ T) (ppwm : Part.pwm ∈ T) (ploop : Part.loop ∈ T) (ptrack : Part.track ∈ T) (pprot : Part.prot ∈ T) (prk : Part.rk ∈ T) (pscan : Part.scan ∈ T) (pimp : Part.imp ∈ T) (pest : Part.est ∈ T) (pringSt : Part.ringSt ∈ T) (pbal : Part.bal ∈ T) (ptele : Part.tele ∈ T) (pnvm : Part.nvm ∈ T) (ppair : Part.pair ∈ T) (h0' : Within T s0 s) : ∃ u', (execStaleDrop s) = .next u' ∧ Within T s0 u' := by
  unfold execStaleDrop
  refine out_ite ?_ ?_
  · split
    · rename_i x1 e2
      refine ⟨_, rfl, ?_⟩
      refine State.restBegin_within pregs pout pcrown pq91 ppwm ploop prk pscan pimp pringSt pbal ppair ?_
      refine State.raise_within pregs pq91 prk pscan ?_
      exact h0'
    · rename_i x3 e4
      refine ⟨_, rfl, ?_⟩
      refine State.disconnectBegin_within pregs pout pcrown pq91 ppwm ploop ptrack pprot prk pscan pimp pest pringSt pbal ptele pnvm ppair ?_
      refine State.raise_within pregs pq91 prk pscan ?_
      exact h0'
    · rename_i x5 e6 e7
      refine ⟨_, rfl, ?_⟩
      exact h0'
  · refine ⟨_, rfl, ?_⟩
    exact h0'

theorem execStaleTimer_within {s : State} (pregs : Part.regs ∈ T) (pq91 : Part.q91 ∈ T) (prk : Part.rk ∈ T) (pscan : Part.scan ∈ T) (pdisp : Part.disp ∈ T) (h0' : Within T s0 s) : ∃ u', (execStaleTimer s) = .next u' ∧ Within T s0 u' := by
  unfold execStaleTimer
  refine out_ite ?_ ?_
  · extract_lets s1
    rename_i s2 x3
    have h4 : Within T s0 s1 := by
      unfold s1
      refine State.raise_within pregs pq91 prk pscan ?_
      refine State.bump_within pregs ?_
      refine State.wrB_within pregs ?_
      exact h0'
    have h5 : Within T s0 s2 := by
      unfold s2
      refine State.wr_within pregs ?_
      exact h4
    clear_value s1 s2 x3
    refine ⟨_, rfl, ?_⟩
    refine within_ite ?_ ?_
    · exact h4
    · exact within_upd h5 (disp := .inl pdisp)
  · refine ⟨_, rfl, ?_⟩
    exact h0'

theorem execStatusPeriod_within {s : State} (pregs : Part.regs ∈ T) (pout : Part.out ∈ T) (pq91 : Part.q91 ∈ T) (prk : Part.rk ∈ T) (pscan : Part.scan ∈ T) (pdisp : Part.disp ∈ T) (peng : Part.eng ∈ T) (h0' : Within T s0 s) : ∃ u', (execStatusPeriod s) = .next u' ∧ Within T s0 u' := by
  unfold execStatusPeriod
  split
  · rename_i x1 x2 x3 x4 x5 e6 e7
    refine ⟨_, rfl, ?_⟩
    refine State.sendStatus_within pregs pout pq91 prk pscan pdisp peng ?_
    exact h0'
  · rename_i x8 x9 e10
    refine ⟨_, rfl, ?_⟩
    refine State.sendStatus_within pregs pout pq91 prk pscan pdisp peng ?_
    exact h0'
  · rename_i x11 x12 e13 e14
    refine ⟨_, rfl, ?_⟩
    exact h0'

theorem State.dispTake_within {s : State} {p : Partners} (pregs : Part.regs ∈ T) (pshadow : Part.shadow ∈ T) (pout : Part.out ∈ T) (pcrown : Part.crown ∈ T) (pstg : Part.stg ∈ T) (pq91 : Part.q91 ∈ T) (ppwm : Part.pwm ∈ T) (ploop : Part.loop ∈ T) (ptrack : Part.track ∈ T) (pprot : Part.prot ∈ T) (phost : Part.host ∈ T) (prk : Part.rk ∈ T) (pscan : Part.scan ∈ T) (pimp : Part.imp ∈ T) (pest : Part.est ∈ T) (ptmx : Part.tmx ∈ T) (pdisp : Part.disp ∈ T) (peng : Part.eng ∈ T) (pringSt : Part.ringSt ∈ T) (pharv : Part.harv ∈ T) (pbal : Part.bal ∈ T) (ptele : Part.tele ∈ T) (pnvm : Part.nvm ∈ T) (ppair : Part.pair ∈ T) (h0' : Within T s0 s) : Within T s0 (State.dispTake s p) := by
  unfold State.dispTake
  extract_lets s1
  clear_value s1
  refine within_ite ?_ ?_
  · refine State.dispDone_within pregs pout pq91 prk pscan pdisp peng ?_
    exact h0'
  · refine State.dispAct_within pregs pshadow pout pcrown pstg pq91 ppwm ploop ptrack pprot phost prk pscan pimp pest ptmx pdisp peng pringSt pharv pbal ptele pnvm ppair ?_
    exact h0'

theorem execTakeCmd_within {who : Initiator} {p : Partners} {s : State} (pregs : Part.regs ∈ T) (pshadow : Part.shadow ∈ T) (pout : Part.out ∈ T) (paccErr : Part.accErr ∈ T) (pcrown : Part.crown ∈ T) (pstg : Part.stg ∈ T) (pq91 : Part.q91 ∈ T) (ppwm : Part.pwm ∈ T) (ploop : Part.loop ∈ T) (ptrack : Part.track ∈ T) (pprot : Part.prot ∈ T) (phost : Part.host ∈ T) (prk : Part.rk ∈ T) (pscan : Part.scan ∈ T) (pimp : Part.imp ∈ T) (pest : Part.est ∈ T) (ptmx : Part.tmx ∈ T) (pdisp : Part.disp ∈ T) (peng : Part.eng ∈ T) (pringSt : Part.ringSt ∈ T) (pharv : Part.harv ∈ T) (pbal : Part.bal ∈ T) (ptele : Part.tele ∈ T) (pnvm : Part.nvm ∈ T) (ppair : Part.pair ∈ T) (h2' : Within T s0 s) : ∃ u', (execTakeCmd who p s) = .next u' ∧ Within T s0 u' := by
  unfold execTakeCmd
  refine ⟨_, rfl, ?_⟩
  refine State.asWrite_within pregs paccErr pq91 phost ?_ ?_
  · exact h2'
  · intro s1 h2
    refine State.dispTake_within pregs pshadow pout pcrown pstg pq91 ppwm ploop ptrack pprot phost prk pscan pimp pest ptmx pdisp peng pringSt pharv pbal ptele pnvm ppair ?_
    exact h2

theorem execVoltageMsg_within {v : Via} {m : List Byte} {s : State} (pregs : Part.regs ∈ T) (pshadow : Part.shadow ∈ T) (pout : Part.out ∈ T) (pcrown : Part.crown ∈ T) (pstg : Part.stg ∈ T) (pq91 : Part.q91 ∈ T) (ppwm : Part.pwm ∈ T) (ploop : Part.loop ∈ T) (ptrack : Part.track ∈ T) (pprot : Part.prot ∈ T) (phost : Part.host ∈ T) (prk : Part.rk ∈ T) (pscan : Part.scan ∈ T) (pimp : Part.imp ∈ T) (pest : Part.est ∈ T) (ptmx : Part.tmx ∈ T) (pdisp : Part.disp ∈ T) (peng : Part.eng ∈ T) (pringSt : Part.ringSt ∈ T) (pharv : Part.harv ∈ T) (pbal : Part.bal ∈ T) (ptele : Part.tele ∈ T) (pnvm : Part.nvm ∈ T) (ppair : Part.pair ∈ T) (h2' : Within T s0 s) : ∃ u', (execVoltageMsg v m s) = .next u' ∧ Within T s0 u' := by
  unfold execVoltageMsg
  refine ⟨_, rfl, ?_⟩
  refine State.dispMessage_within pregs pshadow pout pcrown pstg pq91 ppwm ploop ptrack pprot phost prk pscan pimp pest ptmx pdisp peng pringSt pharv pbal ptele pnvm ppair ?_
  exact h2'

/-! ## Health -/

theorem State.setReady_within {s : State} {b : Bool} (pregs : Part.regs ∈ T) (pq91 : Part.q91 ∈ T) (prk : Part.rk ∈ T) (pscan : Part.scan ∈ T) (h0' : Within T s0 s) : Within T s0 (State.setReady s b) := by
  unfold State.setReady
  refine within_ite ?_ ?_
  · exact h0'
  · refine State.raise_within pregs pq91 prk pscan ?_
    refine State.wrB_within pregs ?_
    exact h0'

theorem State.refreshReady_within {s : State} (pregs : Part.regs ∈ T) (pq91 : Part.q91 ∈ T) (prk : Part.rk ∈ T) (pscan : Part.scan ∈ T) (h0' : Within T s0 s) : Within T s0 (State.refreshReady s) := by
  unfold State.refreshReady
  refine within_ite ?_ ?_
  · refine State.setReady_within pregs pq91 prk pscan ?_
    exact h0'
  · exact h0'

theorem State.healthJudge_within {s : State} {k : ℕ} {fails : Bool} (pregs : Part.regs ∈ T) (pq91 : Part.q91 ∈ T) (prk : Part.rk ∈ T) (pscan : Part.scan ∈ T) (ppair : Part.pair ∈ T) (h0' : Within T s0 s) : Within T s0 (State.healthJudge s k fails) := by
  unfold State.healthJudge
  extract_lets s1
  rename_i x2 s3
  have h4 : ∀ a0 a1, Within T s0 a0 → Within T s0 (s1 a0 a1) := by
    intro s5 x6 h7
    unfold s1
    beta_reduce
    exact within_upd h7 (pair := .inl ppair)
  clear_value s1
  have h8 : Within T s0 s3 := by
    unfold s3
    refine State.wrBit_within pregs ?_
    exact h0'
  clear_value x2 s3
  refine within_ite ?_ ?_
  · exact h0'
  · refine within_ite ?_ ?_
    · refine within_ite ?_ ?_
      · apply h4
        exact h0'
      · refine within_ite ?_ ?_
        · refine State.refreshReady_within pregs pq91 prk pscan ?_
          refine State.wrBit_within pregs ?_
          apply h4
          exact h0'
        · apply h4
          exact h0'
    · refine within_ite ?_ ?_
      · refine within_ite ?_ ?_
        · refine State.lastingW_within pregs pq91 ?_
          refine State.setReady_within pregs pq91 prk pscan ?_
          refine State.wrBit_within pregs ?_
          exact h8
        · refine State.retryPass_within pregs pq91 ?_
          exact h8
      · refine within_ite ?_ ?_
        · refine State.wrBit_within pregs ?_
          exact h0'
        · exact h0'

theorem State.voidHealth_within {s : State} (pregs : Part.regs ∈ T) (h0' : Within T s0 s) : Within T s0 (State.voidHealth s) := by
  unfold State.voidHealth
  extract_lets s1
  clear_value s1
  refine within_ite ?_ ?_
  · exact h0'
  · refine State.voidCheck_within pregs ?_
    refine State.wr_within pregs ?_
    exact h0'

/-! ## Engines -/

theorem State.judgeEngines_within {s : State} (pregs : Part.regs ∈ T) (pshadow : Part.shadow ∈ T) (pout : Part.out ∈ T) (pcrown : Part.crown ∈ T) (pstg : Part.stg ∈ T) (pq91 : Part.q91 ∈ T) (ppwm : Part.pwm ∈ T) (ploop : Part.loop ∈ T) (ptrack : Part.track ∈ T) (pprot : Part.prot ∈ T) (prk : Part.rk ∈ T) (pscan : Part.scan ∈ T) (pimp : Part.imp ∈ T) (pest : Part.est ∈ T) (ptmx : Part.tmx ∈ T) (pringSt : Part.ringSt ∈ T) (pbal : Part.bal ∈ T) (ptele : Part.tele ∈ T) (pnvm : Part.nvm ∈ T) (ppair : Part.pair ∈ T) (h0' : Within T s0 s) : Within T s0 (State.judgeEngines s) := by
  unfold State.judgeEngines
  refine within_ite ?_ ?_
  · refine within_ite ?_ ?_
    · exact h0'
    · extract_lets s1
      have h2 : Within T s0 s1 := by
        unfold s1
        refine State.addCond_within pregs pprot ?_
        refine State.lasting_within pregs ?_
        refine State.raise_within pregs pq91 prk pscan ?_
        exact h0'
      clear_value s1
      refine State.relinquishOr_within pregs pshadow pout pcrown pstg pq91 ppwm ploop ptrack pprot prk pscan pimp pringSt pbal ppair ?_ ?_
      · exact h2
      · intro s3 h4
        refine State.react_within pregs pshadow pout pcrown pstg pq91 ppwm ploop ptrack pprot prk pscan pimp pest ptmx pringSt pbal ptele pnvm ppair ?_
        exact h4
  · refine State.clearCond_within pregs pprot ?_
    exact h0'

theorem State.moveCrown_within {s : State} (pregs : Part.regs ∈ T) (h0' : Within T s0 s) : Within T s0 (State.moveCrown s) := by
  unfold State.moveCrown
  extract_lets s1
  clear_value s1
  refine within_ite ?_ ?_
  · exact h0'
  · split
    · rename_i x2 x3 e4
      refine State.wr_within pregs ?_
      refine State.bump_within pregs ?_
      exact h0'
    · rename_i x5 e6
      exact h0'

theorem State.countEngines_within {s : State} (pregs : Part.regs ∈ T) (h0' : Within T s0 s) : Within T s0 (State.countEngines s) := by
  unfold State.countEngines
  extract_lets s1 s2 s3
  clear_value s1 s2 s3
  refine State.wr_within pregs ?_
  refine State.wr_within pregs ?_
  refine State.wr_within pregs ?_
  exact h0'

theorem State.retire_within {s : State} {e : ℕ} {fail : ℕ} {atOnce : Bool} (pregs : Part.regs ∈ T) (pshadow : Part.shadow ∈ T) (pout : Part.out ∈ T) (pcrown : Part.crown ∈ T) (pstg : Part.stg ∈ T) (pq91 : Part.q91 ∈ T) (ppwm : Part.pwm ∈ T) (ploop : Part.loop ∈ T) (ptrack : Part.track ∈ T) (pprot : Part.prot ∈ T) (prk : Part.rk ∈ T) (pscan : Part.scan ∈ T) (pimp : Part.imp ∈ T) (pest : Part.est ∈ T) (ptmx : Part.tmx ∈ T) (peng : Part.eng ∈ T) (pringSt : Part.ringSt ∈ T) (pbal : Part.bal ∈ T) (ptele : Part.tele ∈ T) (pnvm : Part.nvm ∈ T) (ppair : Part.pair ∈ T) (h0' : Within T s0 s) : Within T s0 (State.retire s e fail atOnce) := by
  unfold State.retire
  extract_lets s1 s2 s3 s4 s5 s6 s7 s8 s9 s10
  rename_i s11
  have h12 : Within T s0 s4 := by
    unfold s4
    refine State.wr_within pregs ?_
    refine State.bump_within pregs ?_
    exact h0'
  have h13 : Within T s0 s6 := by
    unfold s6
    refine State.wr_within pregs ?_
    refine State.wrBit_within pregs ?_
    refine State.wrBit_within pregs ?_
    exact h12
  have h14 : Within T s0 s7 := by
    unfold s7
    refine within_ite ?_ ?_
    · refine State.wrBit_within pregs ?_
      exact h13
    · refine State.wrBit_within pregs ?_
      exact h13
  have h15 : Within T s0 s8 := by
    unfold s8
    refine State.raise_within pregs pq91 prk pscan ?_
    refine State.wr_within pregs ?_
    exact h14
  have h16 : Within T s0 s9 := by
    unfold s9
    refine State.lastingW_within pregs pq91 ?_
    exact h15
  have h17 : Within T s0 s11 := by
    unfold s11
    refine State.setSram_within peng ?_
    exact within_upd h16 (eng := .inl peng)
  clear_value s1 s2 s3 s4 s5 s6 s7 s8 s9 s10 s11
  refine State.judgeEngines_within pregs pshadow pout pcrown pstg pq91 ppwm ploop ptrack pprot prk pscan pimp pest ptmx pringSt pbal ptele pnvm ppair ?_
  refine State.wakeEngines_within pregs peng ?_
  refine State.moveCrown_within pregs ?_
  refine State.countEngines_within pregs ?_
  refine State.graftAway_within pregs peng ?_
  exact h17

theorem execEccError_within {place : Fin 3} {e : Fin 64} {addr : BitVec 32} {kind : Fin 3} {s : State} (pregs : Part.regs ∈ T) (pshadow : Part.shadow ∈ T) (pout : Part.out ∈ T) (pcrown : Part.crown ∈ T) (pstg : Part.stg ∈ T) (pq91 : Part.q91 ∈ T) (ppwm : Part.pwm ∈ T) (ploop : Part.loop ∈ T) (ptrack : Part.track ∈ T) (pprot : Part.prot ∈ T) (prk : Part.rk ∈ T) (pscan : Part.scan ∈ T) (pimp : Part.imp ∈ T) (pest : Part.est ∈ T) (ptmx : Part.tmx ∈ T) (peng : Part.eng ∈ T) (pringSt : Part.ringSt ∈ T) (pbal : Part.bal ∈ T) (ptele : Part.tele ∈ T) (pnvm : Part.nvm ∈ T) (ppair : Part.pair ∈ T) (h4' : Within T s0 s) : ∃ u', (execEccError place e addr kind s) = .next u' ∧ Within T s0 u' := by
  unfold execEccError
  extract_lets s1 s2
  rename_i x3 s4 s5 s6
  have h7 : Within T s0 s4 := by
    unfold s4
    split
    · rename_i x8 x9 x10 x11 e12
      refine State.refreshDeques_within pregs ?_
      refine State.takeItem_within pregs peng ?_
      exact within_upd h4' (eng := .inl peng)
    · rename_i x13 e14
      exact h4'
  have h15 : Within T s0 s5 := by
    unfold s5
    refine within_ite ?_ ?_
    · refine State.raise_within pregs pq91 prk pscan ?_
      refine State.bump_within pregs ?_
      exact h7
    · refine State.raise_within pregs pq91 prk pscan ?_
      refine State.bump_within pregs ?_
      exact h7
  have h16 : Within T s0 s6 := by
    unfold s6
    refine State.lasting_within pregs ?_
    exact h15
  clear_value s1 s2 x3 s4 s5 s6
  split
  · rename_i x17 e18
    refine out_ite ?_ ?_
    · refine ⟨_, rfl, ?_⟩
      refine State.bump_within pregs ?_
      exact h4'
    · refine ⟨_, rfl, ?_⟩
      refine State.raise_within pregs pq91 prk pscan ?_
      refine State.bump_within pregs ?_
      exact h4'
  · rename_i x19 e20
    refine ⟨_, rfl, ?_⟩
    refine State.retryPass_within pregs pq91 ?_
    exact h4'
  · rename_i x21 e22 e23
    refine out_ite ?_ ?_
    · refine ⟨_, rfl, ?_⟩
      refine within_ite ?_ ?_
      · refine State.retire_within pregs pshadow pout pcrown pstg pq91 ppwm ploop ptrack pprot prk pscan pimp pest ptmx peng pringSt pbal ptele pnvm ppair ?_
        exact h4'
      · exact h4'
    · refine out_ite ?_ ?_
      · refine ⟨_, rfl, ?_⟩
        refine State.relinquishOr_within pregs pshadow pout pcrown pstg pq91 ppwm ploop ptrack pprot prk pscan pimp pringSt pbal ppair ?_ ?_
        · refine State.record_within pq91 ?_
          exact h16
        · intro s24 h25
          refine State.startSrd_within pregs pshadow pout pcrown pstg pq91 ppwm ploop ptrack pprot prk pscan pimp pest ptmx pringSt pbal ptele pnvm ppair ?_
          refine State.noteSH_within pprot ?_
          exact h25
      · refine ⟨_, rfl, ?_⟩
        refine State.record_within pq91 ?_
        exact h16

theorem State.testEngine_within {s : State} {e : ℕ} {first : ℕ} {second : ℕ} (pregs : Part.regs ∈ T) (pshadow : Part.shadow ∈ T) (pout : Part.out ∈ T) (pcrown : Part.crown ∈ T) (pstg : Part.stg ∈ T) (pq91 : Part.q91 ∈ T) (ppwm : Part.pwm ∈ T) (ploop : Part.loop ∈ T) (ptrack : Part.track ∈ T) (pprot : Part.prot ∈ T) (prk : Part.rk ∈ T) (pscan : Part.scan ∈ T) (pimp : Part.imp ∈ T) (pest : Part.est ∈ T) (ptmx : Part.tmx ∈ T) (peng : Part.eng ∈ T) (pringSt : Part.ringSt ∈ T) (pbal : Part.bal ∈ T) (ptele : Part.tele ∈ T) (pnvm : Part.nvm ∈ T) (ppair : Part.pair ∈ T) (h0' : Within T s0 s) : Within T s0 (State.testEngine s e first second) := by
  unfold State.testEngine
  extract_lets s1
  clear_value s1
  refine within_ite ?_ ?_
  · refine State.bump_within pregs ?_
    exact h0'
  · refine within_ite ?_ ?_
    · refine State.retryPass_within pregs pq91 ?_
      refine State.bump_within pregs ?_
      exact h0'
    · refine State.retire_within pregs pshadow pout pcrown pstg pq91 ppwm ploop ptrack pprot prk pscan pimp pest ptmx peng pringSt pbal ptele pnvm ppair ?_
      exact h0'

theorem execItemTimeout_within {e : Fin 64} {first : Fin 6} {second : Fin 6} {s : State} (pregs : Part.regs ∈ T) (pshadow : Part.shadow ∈ T) (pout : Part.out ∈ T) (pcrown : Part.crown ∈ T) (pstg : Part.stg ∈ T) (pq91 : Part.q91 ∈ T) (ppwm : Part.pwm ∈ T) (ploop : Part.loop ∈ T) (ptrack : Part.track ∈ T) (pprot : Part.prot ∈ T) (prk : Part.rk ∈ T) (pscan : Part.scan ∈ T) (pimp : Part.imp ∈ T) (pest : Part.est ∈ T) (ptmx : Part.tmx ∈ T) (peng : Part.eng ∈ T) (pringSt : Part.ringSt ∈ T) (pbal : Part.bal ∈ T) (ptele : Part.tele ∈ T) (pnvm : Part.nvm ∈ T) (ppair : Part.pair ∈ T) (h3' : Within T s0 s) : ∃ u', (execItemTimeout e first second s) = .next u' ∧ Within T s0 u' := by
  unfold execItemTimeout
  split
  · rename_i x1 e2
    refine ⟨_, rfl, ?_⟩
    exact h3'
  · rename_i x3 x4 x5 x6 e7
    refine out_ite ?_ ?_
    · extract_lets s8 s9
      have h10 : Within T s0 s8 := by
        unfold s8
        refine State.graft_within pregs peng ?_
        exact h3'
      have h11 : Within T s0 s9 := by
        unfold s9
        refine State.raise_within pregs pq91 prk pscan ?_
        refine State.bump_within pregs ?_
        refine State.bump_within pregs ?_
        exact h10
      clear_value s8 s9
      refine ⟨_, rfl, ?_⟩
      refine State.testEngine_within pregs pshadow pout pcrown pstg pq91 ppwm ploop ptrack pprot prk pscan pimp pest ptmx peng pringSt pbal ptele pnvm ppair ?_
      refine State.wakeEngines_within pregs peng ?_
      exact h11
    · refine ⟨_, rfl, ?_⟩
      exact h3'

theorem State.markLaggard_within {s : State} {e : ℕ} (pregs : Part.regs ∈ T) (pq91 : Part.q91 ∈ T) (prk : Part.rk ∈ T) (pscan : Part.scan ∈ T) (peng : Part.eng ∈ T) (h0' : Within T s0 s) : Within T s0 (State.markLaggard s e) := by
  unfold State.markLaggard
  extract_lets s1 s2
  have h3 : Within T s0 s1 := by
    unfold s1
    refine State.raise_within pregs pq91 prk pscan ?_
    refine State.wr_within pregs ?_
    refine State.wrBit_within pregs ?_
    exact h0'
  clear_value s1 s2
  refine State.graftAway_within pregs peng ?_
  refine State.wr_within pregs ?_
  exact h3

theorem State.judgeRate_within {s : State} {median : ℕ} {x : ℕ × ℕ} (pregs : Part.regs ∈ T) (pq91 : Part.q91 ∈ T) (prk : Part.rk ∈ T) (pscan : Part.scan ∈ T) (peng : Part.eng ∈ T) (h0' : Within T s0 s) : Within T s0 (State.judgeRate s median x) := by
  unfold State.judgeRate
  split
  rename_i x1 x2 x3
  extract_lets s4
  clear_value s4
  refine within_ite ?_ ?_
  · refine within_ite ?_ ?_
    · refine within_ite ?_ ?_
      · refine State.raise_within pregs pq91 prk pscan ?_
        refine State.wr_within pregs ?_
        refine State.wr_within pregs ?_
        refine State.wrBit_within pregs ?_
        exact h0'
      · refine State.bump_within pregs ?_
        exact h0'
    · refine State.wr_within pregs ?_
      exact h0'
  · refine within_ite ?_ ?_
    · refine within_ite ?_ ?_
      · refine State.markLaggard_within pregs pq91 prk pscan peng ?_
        exact h0'
      · refine State.bump_within pregs ?_
        exact h0'
    · refine State.wr_within pregs ?_
      exact h0'

theorem execRateInterval_within {rates : List (ℕ × ℕ × ℕ)} {s : State} (pregs : Part.regs ∈ T) (pq91 : Part.q91 ∈ T) (prk : Part.rk ∈ T) (pscan : Part.scan ∈ T) (peng : Part.eng ∈ T) (h1' : Within T s0 s) : ∃ u', (execRateInterval rates s) = .next u' ∧ Within T s0 u' := by
  unfold execRateInterval
  extract_lets s1
  have h2 : Within T s0 s1 := by
    unfold s1
    refine within_foldl ?_ ?_
    · exact h1'
    · intro s3 x4 h5
      extract_lets s6 s7 s8
      rename_i x9 s10
      have h11 : Within T s0 s7 := by
        unfold s7
        refine within_foldl ?_ ?_
        · exact h5
        · intro s12 x13 h14
          split
          rename_i x15 x16 x17
          refine State.wr_within pregs ?_
          exact h14
      have h18 : Within T s0 s10 := by
        unfold s10
        refine State.wr_within pregs ?_
        exact h11
      clear_value s6 s7 s8 x9 s10
      refine within_ite ?_ ?_
      · exact h11
      · refine within_ite ?_ ?_
        · exact h18
        · refine within_foldl ?_ ?_
          · exact h18
          · intro s19 x20 h21
            refine State.judgeRate_within pregs pq91 prk pscan peng ?_
            exact h21
  clear_value s1
  refine ⟨_, rfl, ?_⟩
  refine State.wakeEngines_within pregs peng ?_
  refine State.countEngines_within pregs ?_
  exact h2

theorem State.enterService_within {s : State} {e : ℕ} (pregs : Part.regs ∈ T) (h0' : Within T s0 s) : Within T s0 (State.enterService s e) := by
  unfold State.enterService
  extract_lets s1
  have h2 : Within T s0 s1 := by
    unfold s1
    refine State.wrBit_within pregs ?_
    refine State.wrBit_within pregs ?_
    exact h0'
  clear_value s1
  refine State.wr_within pregs ?_
  refine State.wr_within pregs ?_
  exact h2

theorem execRejoinRetest_within {e : Fin 64} {pass : Bool} {s : State} (pregs : Part.regs ∈ T) (pshadow : Part.shadow ∈ T) (pout : Part.out ∈ T) (pcrown : Part.crown ∈ T) (pstg : Part.stg ∈ T) (pq91 : Part.q91 ∈ T) (ppwm : Part.pwm ∈ T) (ploop : Part.loop ∈ T) (ptrack : Part.track ∈ T) (pprot : Part.prot ∈ T) (prk : Part.rk ∈ T) (pscan : Part.scan ∈ T) (pimp : Part.imp ∈ T) (pest : Part.est ∈ T) (ptmx : Part.tmx ∈ T) (peng : Part.eng ∈ T) (pringSt : Part.ringSt ∈ T) (pbal : Part.bal ∈ T) (ptele : Part.tele ∈ T) (pnvm : Part.nvm ∈ T) (ppair : Part.pair ∈ T) (h2' : Within T s0 s) : ∃ u', (execRejoinRetest e pass s) = .next u' ∧ Within T s0 u' := by
  unfold execRejoinRetest
  refine out_ite ?_ ?_
  · extract_lets s1
    have h2 : Within T s0 s1 := by
      unfold s1
      refine State.raise_within pregs pq91 prk pscan ?_
      refine State.bump_within pregs ?_
      refine State.enterService_within pregs ?_
      exact h2'
    clear_value s1
    refine ⟨_, rfl, ?_⟩
    refine State.judgeEngines_within pregs pshadow pout pcrown pstg pq91 ppwm ploop ptrack pprot prk pscan pimp pest ptmx pringSt pbal ptele pnvm ppair ?_
    refine State.wakeEngines_within pregs peng ?_
    refine State.countEngines_within pregs ?_
    exact h2
  · refine ⟨_, rfl, ?_⟩
    exact h2'

theorem execRofsWrite_within {who : Initiator} {ofs : BitVec 16} {s : State} (pregs : Part.regs ∈ T) (paccErr : Part.accErr ∈ T) (pq91 : Part.q91 ∈ T) (phost : Part.host ∈ T) (h2' : Within T s0 s) : ∃ u', (execRofsWrite who ofs s) = .next u' ∧ Within T s0 u' := by
  unfold execRofsWrite
  refine ⟨_, rfl, ?_⟩
  refine State.asWrite_within pregs paccErr pq91 phost ?_ ?_
  · exact h2'
  · intro s1 h2
    refine State.wr_within pregs ?_
    exact h2

theorem execRpopWrite_within {who : Initiator} {s : State} (pregs : Part.regs ∈ T) (paccErr : Part.accErr ∈ T) (pq91 : Part.q91 ∈ T) (phost : Part.host ∈ T) (peng : Part.eng ∈ T) (h1' : Within T s0 s) : ∃ u', (execRpopWrite who s) = .next u' ∧ Within T s0 u' := by
  unfold execRpopWrite
  refine ⟨_, rfl, ?_⟩
  refine State.asWrite_within pregs paccErr pq91 phost ?_ ?_
  · exact h1'
  · intro s1 h2
    refine State.popEntry_within pregs peng ?_
    exact h2

theorem execRselWrite_within {who : Initiator} {ring : Fin 32} {s : State} (pregs : Part.regs ∈ T) (paccErr : Part.accErr ∈ T) (pq91 : Part.q91 ∈ T) (phost : Part.host ∈ T) (peng : Part.eng ∈ T) (h2' : Within T s0 s) : ∃ u', (execRselWrite who ring s) = .next u' ∧ Within T s0 u' := by
  unfold execRselWrite
  refine ⟨_, rfl, ?_⟩
  refine State.asWrite_within pregs paccErr pq91 phost ?_ ?_
  · exact h2'
  · intro s1 h2
    refine State.selectRing_within pregs peng ?_
    exact h2

theorem execTestRound_within {e : Fin 64} {first : Fin 6} {second : Fin 6} {s : State} (pregs : Part.regs ∈ T) (pshadow : Part.shadow ∈ T) (pout : Part.out ∈ T) (pcrown : Part.crown ∈ T) (pstg : Part.stg ∈ T) (pq91 : Part.q91 ∈ T) (ppwm : Part.pwm ∈ T) (ploop : Part.loop ∈ T) (ptrack : Part.track ∈ T) (pprot : Part.prot ∈ T) (prk : Part.rk ∈ T) (pscan : Part.scan ∈ T) (pimp : Part.imp ∈ T) (pest : Part.est ∈ T) (ptmx : Part.tmx ∈ T) (peng : Part.eng ∈ T) (pringSt : Part.ringSt ∈ T) (pbal : Part.bal ∈ T) (ptele : Part.tele ∈ T) (pnvm : Part.nvm ∈ T) (ppair : Part.pair ∈ T) (h3' : Within T s0 s) : ∃ u', (execTestRound e first second s) = .next u' ∧ Within T s0 u' := by
  unfold execTestRound
  extract_lets s1
  have h2 : Within T s0 s1 := by
    unfold s1
    refine within_ite ?_ ?_
    · refine State.testEngine_within pregs pshadow pout pcrown pstg pq91 ppwm ploop ptrack pprot prk pscan pimp pest ptmx peng pringSt pbal ptele pnvm ppair ?_
      exact h3'
    · exact h3'
  clear_value s1
  refine ⟨_, rfl, ?_⟩
  refine within_ite ?_ ?_
  · refine State.healthJudge_within pregs pq91 prk pscan ppair ?_
    exact h2
  · exact h2

theorem execWorkItemComplete_within {e : Fin 64} {s : State} (pregs : Part.regs ∈ T) (pq91 : Part.q91 ∈ T) (prk : Part.rk ∈ T) (pscan : Part.scan ∈ T) (peng : Part.eng ∈ T) (h1' : Within T s0 s) : ∃ u', (execWorkItemComplete e s) = .next u' ∧ Within T s0 u' := by
  unfold execWorkItemComplete
  split
  · rename_i x1 e2
    refine ⟨_, rfl, ?_⟩
    exact h1'
  · rename_i x3 x4 x5 x6 e7
    extract_lets s8 s9
    rename_i x10 s11
    have h12 : Within T s0 s9 := by
      unfold s9
      exact within_upd h1' (eng := .inl peng)
    have h13 : Within T s0 s11 := by
      unfold s11
      refine within_ite ?_ ?_
      · refine State.bump_within pregs ?_
        exact within_upd h12 (eng := .inl peng)
      · refine State.raise_within pregs pq91 prk pscan ?_
        refine State.bump_within pregs ?_
        exact h12
    clear_value s8 s9 x10 s11
    refine ⟨_, rfl, ?_⟩
    refine State.refreshDeques_within pregs ?_
    refine State.takeItem_within pregs peng ?_
    exact h13

/-! ## HarvestOps -/

theorem State.crcLasting_within {s : State} {node : ℕ} {ports : ℕ} (pregs : Part.regs ∈ T) (pq91 : Part.q91 ∈ T) (prk : Part.rk ∈ T) (pscan : Part.scan ∈ T) (h0' : Within T s0 s) : Within T s0 (State.crcLasting s node ports) := by
  unfold State.crcLasting
  refine State.lastingW_within pregs pq91 ?_
  refine State.raise_within pregs pq91 prk pscan ?_
  exact h0'

theorem State.digest_within {s : State} {c : Capture} (pout : Part.out ∈ T) (ppair : Part.pair ∈ T) (h0' : Within T s0 s) : Within T s0 (State.digest s c) := by
  unfold State.digest
  extract_lets s1 s2
  rename_i s3
  have h4 : Within T s0 s3 := by
    unfold s3
    exact within_upd h0' (pair := .inl ppair)
  clear_value s1 s2 s3
  refine State.mirror_within pout ppair ?_
  exact h4

theorem State.setCapture_within {s : State} {c : Capture} (pharv : Part.harv ∈ T) (h0' : Within T s0 s) : Within T s0 (State.setCapture s c) := by
  unfold State.setCapture
  exact within_upd h0' (harv := .inl pharv)

theorem State.frameFails_within {s : State} {c : Capture} {n : ℕ} {key : ℕ} {port : ℕ} (pregs : Part.regs ∈ T) (pq91 : Part.q91 ∈ T) (prk : Part.rk ∈ T) (pscan : Part.scan ∈ T) (pharv : Part.harv ∈ T) (h0' : Within T s0 s) : Within T s0 (State.frameFails s c n key port) := by
  unfold State.frameFails
  extract_lets s1
  clear_value s1
  refine within_ite ?_ ?_
  · refine State.crcLasting_within pregs pq91 prk pscan ?_
    refine State.setCapture_within pharv ?_
    exact h0'
  · refine State.setCapture_within pharv ?_
    exact h0'

theorem State.judgePeriod_within {s : State} (pregs : Part.regs ∈ T) (pq91 : Part.q91 ∈ T) (prk : Part.rk ∈ T) (pscan : Part.scan ∈ T) (pharv : Part.harv ∈ T) (h0' : Within T s0 s) : Within T s0 (State.judgePeriod s) := by
  unfold State.judgePeriod
  extract_lets s1 s2 s3
  rename_i s4 x5 x6 s7
  clear_value s3
  have h8 : Within T s0 s4 := by
    unfold s4
    refine within_ite ?_ ?_
    · exact h0'
    · refine State.raise_within pregs pq91 prk pscan ?_
      refine State.wrB_within pregs ?_
      exact h0'
  have h9 : Within T s0 s7 := by
    unfold s7
    refine State.wrB_within pregs ?_
    exact h0'
  clear_value s1 s2 s4 x5 x6 s7
  refine within_ite ?_ ?_
  · exact within_upd h8 (harv := .inl pharv)
  · refine within_ite ?_ ?_
    · refine within_ite ?_ ?_
      · exact within_upd h0' (harv := .inl pharv)
      · refine within_ite ?_ ?_
        · exact within_upd h9 (harv := .inl pharv)
        · exact within_upd h0' (harv := .inl pharv)
    · exact h0'

theorem State.judgeSuspension_within {s : State} {c : Capture} (pregs : Part.regs ∈ T) (pout : Part.out ∈ T) (pq91 : Part.q91 ∈ T) (prk : Part.rk ∈ T) (pscan : Part.scan ∈ T) (pringSt : Part.ringSt ∈ T) (pbal : Part.bal ∈ T) (h0' : Within T s0 s) : Within T s0 (State.judgeSuspension s c) := by
  unfold State.judgeSuspension
  refine within_foldl ?_ ?_
  · exact h0'
  · intro s1 x2 h3
    refine within_ite ?_ ?_
    · exact h3
    · extract_lets s4
      rename_i x5 s6
      have h7 : Within T s0 s6 := by
        unfold s6
        refine State.ringCmd_within pout pringSt ?_
        exact within_upd h3 (bal := .inl pbal)
      clear_value s4 x5 s6
      refine within_ite ?_ ?_
      · refine within_ite ?_ ?_
        · exact h3
        · refine within_ite ?_ ?_
          · refine State.lastingW_within pregs pq91 ?_
            refine State.raise_within pregs pq91 prk pscan ?_
            refine State.wrBit_within pregs ?_
            exact h7
          · exact within_upd h3 (bal := .inl pbal)
      · refine within_ite ?_ ?_
        · refine State.retryPass_within pregs pq91 ?_
          exact within_upd h3 (bal := .inl pbal)
        · exact h3

theorem State.keepRecord_within {s : State} {r : Record} (pharv : Part.harv ∈ T) (h0' : Within T s0 s) : Within T s0 (State.keepRecord s r) := by
  unfold State.keepRecord
  extract_lets s1 s2
  rename_i x3
  clear_value s1 s2 x3
  exact within_upd h0' (harv := .inl pharv)

theorem State.launchSync_within {s : State} {kind : ℕ} (pout : Part.out ∈ T) (pharv : Part.harv ∈ T) (h0' : Within T s0 s) : Within T s0 (State.launchSync s kind) := by
  unfold State.launchSync
  extract_lets s1 s2
  rename_i s3
  have h4 : Within T s0 s3 := by
    unfold s3
    exact within_upd h0' (harv := .inl pharv)
  clear_value s1 s2 s3
  refine within_ite ?_ ?_
  · exact h4
  · refine State.send_within pout ?_
    refine State.send_within pout ?_
    exact h4

theorem State.launchHarvest_within {s : State} {kind : ℕ} {lag : ℕ} {r : Readings} (pout : Part.out ∈ T) (pharv : Part.harv ∈ T) (h0' : Within T s0 s) : Within T s0 (State.launchHarvest s kind lag r) := by
  unfold State.launchHarvest
  extract_lets s1 s2 s3 s4
  rename_i x5
  have h6 : Within T s0 s1 := by
    unfold s1
    refine State.launchSync_within pout pharv ?_
    exact h0'
  clear_value s1 s2 s3 s4 x5
  exact within_upd h6 (harv := .inl pharv)

theorem State.launchT_within {s : State} {r : Readings} (pout : Part.out ∈ T) (pharv : Part.harv ∈ T) (h0' : Within T s0 s) : Within T s0 (State.launchT s r) := by
  unfold State.launchT
  refine within_ite ?_ ?_
  · refine State.launchHarvest_within pout pharv ?_
    exact within_upd h0' (harv := .inl pharv)
  · exact h0'

theorem State.missSlot_within {s : State} (pregs : Part.regs ∈ T) (pq91 : Part.q91 ∈ T) (prk : Part.rk ∈ T) (pscan : Part.scan ∈ T) (pimp : Part.imp ∈ T) (h0' : Within T s0 s) : Within T s0 (State.missSlot s) := by
  unfold State.missSlot
  extract_lets s1
  rename_i x2
  have h3 : Within T s0 s1 := by
    unfold s1
    refine State.raise_within pregs pq91 prk pscan ?_
    refine State.bump_within pregs ?_
    exact h0'
  clear_value s1 x2
  refine within_ite ?_ ?_
  · exact within_upd h3 (imp := .inl pimp)
  · exact h3

theorem State.showCells_within {s : State} {r : Record} {c : Capture} (pregs : Part.regs ∈ T) (pq91 : Part.q91 ∈ T) (prk : Part.rk ∈ T) (pscan : Part.scan ∈ T) (h0' : Within T s0 s) : Within T s0 (State.showCells s r c) := by
  unfold State.showCells
  refine within_ite ?_ ?_
  · exact h0'
  · extract_lets s1 s2 s3
    have h4 : Within T s0 s1 := by
      unfold s1
      refine within_foldl ?_ ?_
      · exact h0'
      · intro s5 x6 h7
        split
        rename_i x8 x9 x10
        refine State.wr_within pregs ?_
        exact h7
    have h11 : Within T s0 s2 := by
      unfold s2
      refine within_foldl ?_ ?_
      · exact h4
      · intro s12 x13 h14
        split
        rename_i x15 x16 x17
        refine State.wr_within pregs ?_
        exact h14
    have h18 : Within T s0 s3 := by
      unfold s3
      refine State.wr_within pregs ?_
      refine State.wrI_within pregs ?_
      refine State.wrI_within pregs ?_
      refine State.wrI_within pregs ?_
      exact h11
    clear_value s1 s2 s3
    refine State.raise_within pregs pq91 prk pscan ?_
    exact h18

theorem State.takeFrame_within {s : State} {c : Capture} {n : ℕ} {key : ℕ} {p : List Byte} (pregs : Part.regs ∈ T) (pq91 : Part.q91 ∈ T) (pharv : Part.harv ∈ T) (h0' : Within T s0 s) : Within T s0 (State.takeFrame s c n key p) := by
  unfold State.takeFrame
  extract_lets s1 s2 s3 s4
  have h5 : Within T s0 s2 := by
    unfold s2
    refine State.wrB_within pregs ?_
    refine State.wrB_within pregs ?_
    exact h0'
  have h6 : Within T s0 s4 := by
    unfold s4
    refine within_ite ?_ ?_
    · refine State.retryPass_within pregs pq91 ?_
      exact h5
    · exact h5
  clear_value s1 s2 s3 s4
  refine State.setCapture_within pharv ?_
  exact h6

theorem State.takeTemps_within {s : State} {c : Capture} (pregs : Part.regs ∈ T) (pout : Part.out ∈ T) (pq91 : Part.q91 ∈ T) (prk : Part.rk ∈ T) (pscan : Part.scan ∈ T) (pringSt : Part.ringSt ∈ T) (pharv : Part.harv ∈ T) (pbal : Part.bal ∈ T) (ppair : Part.pair ∈ T) (h0' : Within T s0 s) : Within T s0 (State.takeTemps s c) := by
  unfold State.takeTemps
  extract_lets s1 s2 s3 s4
  clear_value s1
  have h5 : Within T s0 s3 := by
    unfold s3
    refine within_foldl ?_ ?_
    · exact h0'
    · intro s6 x7 h8
      refine within_foldl ?_ ?_
      · exact h8
      · intro s9 x10 h11
        split
        rename_i x12 x13 x14
        refine State.wr_within pregs ?_
        exact h11
  have h15 : Within T s0 s4 := by
    unfold s4
    refine State.judgePeriod_within pregs pq91 prk pscan pharv ?_
    exact h5
  clear_value s2 s3 s4
  refine within_ite ?_ ?_
  · refine State.replan_within pregs pout pq91 prk pscan pringSt pbal ppair ?_
    exact h15
  · exact h15

/-! ## HarvestFam -/

theorem State.freezeCells_within {s : State} {b : Bool} (pregs : Part.regs ∈ T) (h0' : Within T s0 s) : Within T s0 (State.freezeCells s b) := by
  unfold State.freezeCells
  refine State.wrB_within pregs ?_
  exact h0'

theorem execFreezeCmd_within {who : Initiator} {b : Bool} {s : State} (pregs : Part.regs ∈ T) (paccErr : Part.accErr ∈ T) (pq91 : Part.q91 ∈ T) (phost : Part.host ∈ T) (h2' : Within T s0 s) : ∃ u', (execFreezeCmd who b s) = .next u' ∧ Within T s0 u' := by
  unfold execFreezeCmd
  refine ⟨_, rfl, ?_⟩
  refine State.asWrite_within pregs paccErr pq91 phost ?_ ?_
  · exact h2'
  · intro s1 h2
    refine State.freezeCells_within pregs ?_
    exact h2

theorem execFreezeExpiry_within {s : State} (pregs : Part.regs ∈ T) (h0' : Within T s0 s) : ∃ u', (execFreezeExpiry s) = .next u' ∧ Within T s0 u' := by
  unfold execFreezeExpiry
  refine ⟨_, rfl, ?_⟩
  refine State.freezeCells_within pregs ?_
  exact h0'

theorem execHarvestClose_within {tag : HarvestTag} {s : State} (pregs : Part.regs ∈ T) (pout : Part.out ∈ T) (pq91 : Part.q91 ∈ T) (prk : Part.rk ∈ T) (pscan : Part.scan ∈ T) (pimp : Part.imp ∈ T) (peng : Part.eng ∈ T) (pringSt : Part.ringSt ∈ T) (pharv : Part.harv ∈ T) (pbal : Part.bal ∈ T) (ppair : Part.pair ∈ T) (h1' : Within T s0 s) : ∃ u', (execHarvestClose tag s) = .next u' ∧ Within T s0 u' := by
  unfold execHarvestClose
  split
  · rename_i x1 e2
    refine ⟨_, rfl, ?_⟩
    exact h1'
  · rename_i x3 x4 e5
    extract_lets s6 s7 s8 s9 s10 s11
    rename_i s12 x13 x14 x15
    have h16 : Within T s0 s8 := by
      unfold s8
      refine within_foldl ?_ ?_
      · exact h1'
      · intro s17 x18 h19
        refine State.crcLasting_within pregs pq91 prk pscan ?_
        exact h19
    have h20 : Within T s0 s9 := by
      unfold s9
      refine within_foldl ?_ ?_
      · exact h16
      · intro s21 x22 h23
        refine State.wrB_within pregs ?_
        exact h23
    have h24 : Within T s0 s12 := by
      unfold s12
      exact within_upd h20 (harv := .inl pharv)
    clear_value s6 s7 s8 s9 s10 s11 s12 x13 x14 x15
    refine out_ite ?_ ?_
    · refine ⟨_, rfl, ?_⟩
      refine State.missSlot_within pregs pq91 prk pscan pimp ?_
      exact h24
    · split
      rename_i s25 s26 x27 e28
      have h29 : Within T s0 s26 := by
        refine within_of_fst e28 ?_
        refine State.push_within pregs pq91 prk pscan peng ?_
        refine State.digest_within pout ppair ?_
        exact h24
      extract_lets s30 s31 s32 s33 s34 s35 s36
      rename_i x37 s38 x39 s40 x41 s42
      have h43 : Within T s0 s30 := by
        unfold s30
        refine State.wr_within pregs ?_
        refine State.wrB_within pregs ?_
        refine State.wr_within pregs ?_
        exact h29
      have h44 : Within T s0 s31 := by
        unfold s31
        refine State.wr_within pregs ?_
        exact h43
      have h45 : Within T s0 s32 := by
        unfold s32
        refine within_ite ?_ ?_
        · refine within_ite ?_ ?_
          · refine State.bump_within pregs ?_
            exact h44
          · exact h44
        · refine State.raise_within pregs pq91 prk pscan ?_
          refine State.bump_within pregs ?_
          exact h44
      have h46 : Within T s0 s33 := by
        unfold s33
        refine within_ite ?_ ?_
        · refine State.raise_within pregs pq91 prk pscan ?_
          exact h45
        · exact h45
      have h47 : Within T s0 s34 := by
        unfold s34
        refine State.raise_within pregs pq91 prk pscan ?_
        exact h46
      have h48 : Within T s0 s36 := by
        unfold s36
        refine State.raise_within pregs pq91 prk pscan ?_
        refine State.bump_within pregs ?_
        exact h46
      have h49 : Within T s0 s38 := by
        unfold s38
        refine within_ite ?_ ?_
        · exact within_upd h47 (harv := .inl pharv)
        · exact within_upd h48 (imp := .inl pimp)
      have h50 : Within T s0 s40 := by
        unfold s40
        exact within_upd h49 (harv := .inl pharv)
      have h51 : Within T s0 s42 := by
        unfold s42
        refine within_ite ?_ ?_
        · exact within_upd h50 (imp := .inl pimp)
        · exact h50
      clear_value s30 s31 s32 s33 s34 s35 s36 x37 s38 x39 s40 x41 s42
      refine out_ite ?_ ?_
      · refine ⟨_, rfl, ?_⟩
        refine State.takeTemps_within pregs pout pq91 prk pscan pringSt pharv pbal ppair ?_
        exact h51
      · refine ⟨_, rfl, ?_⟩
        refine State.judgeSuspension_within pregs pout pq91 prk pscan pringSt pbal ?_
        refine State.showCells_within pregs pq91 prk pscan ?_
        exact h51

theorem execHarvestData_within {n : Fin 32} {cmd : BitVec 8} {seq : Fin 16} {port : Fin 2} {crcOk : Bool} {payload : List Byte} {s : State} (pregs : Part.regs ∈ T) (pq91 : Part.q91 ∈ T) (prk : Part.rk ∈ T) (pscan : Part.scan ∈ T) (pharv : Part.harv ∈ T) (h6' : Within T s0 s) : ∃ u', (execHarvestData n cmd seq port crcOk payload s) = .next u' ∧ Within T s0 u' := by
  unfold execHarvestData
  extract_lets s1
  rename_i x2
  have h3 : Within T s0 s1 := by
    unfold s1
    refine within_ite ?_ ?_
    · exact h6'
    · refine State.bump_within pregs ?_
      exact h6'
  clear_value s1 x2
  split
  · rename_i x4 e5
    refine ⟨_, rfl, ?_⟩
    exact h3
  · rename_i x6 x7 e8
    refine out_ite ?_ ?_
    · refine ⟨_, rfl, ?_⟩
      exact h3
    · refine out_ite ?_ ?_
      · refine ⟨_, rfl, ?_⟩
        refine State.frameFails_within pregs pq91 prk pscan pharv ?_
        exact h3
      · refine out_ite ?_ ?_
        · refine ⟨_, rfl, ?_⟩
          refine State.frameFails_within pregs pq91 prk pscan pharv ?_
          refine State.raise_within pregs pq91 prk pscan ?_
          refine State.wrB_within pregs ?_
          exact h3
        · refine ⟨_, rfl, ?_⟩
          refine State.takeFrame_within pregs pq91 pharv ?_
          exact h3

theorem execHarvestDataDeadline_within {tag : HarvestTag} {s : State} (pregs : Part.regs ∈ T) (pout : Part.out ∈ T) (pq91 : Part.q91 ∈ T) (prk : Part.rk ∈ T) (pscan : Part.scan ∈ T) (pringSt : Part.ringSt ∈ T) (pharv : Part.harv ∈ T) (h1' : Within T s0 s) : ∃ u', (execHarvestDataDeadline tag s) = .next u' ∧ Within T s0 u' := by
  unfold execHarvestDataDeadline
  split
  · rename_i x1 e2
    refine ⟨_, rfl, ?_⟩
    exact h1'
  · rename_i x3 x4 e5
    extract_lets s6
    rename_i s7 x8
    have h9 : Within T s0 s7 := by
      unfold s7
      refine State.setCapture_within pharv ?_
      exact h1'
    clear_value s6 s7 x8
    refine out_ite ?_ ?_
    · refine ⟨_, rfl, ?_⟩
      refine within_foldl ?_ ?_
      · exact h9
      · intro s10 x11 h12
        refine State.ringCmd_within pout pringSt ?_
        exact h12
    · refine ⟨_, rfl, ?_⟩
      refine within_foldl ?_ ?_
      · refine State.setCapture_within pharv ?_
        exact h1'
      · intro s13 x14 h15
        refine State.crcLasting_within pregs pq91 prk pscan ?_
        exact h15

theorem State.countSlot_within {s : State} (pharv : Part.harv ∈ T) (h0' : Within T s0 s) : Within T s0 (State.countSlot s) := by
  unfold State.countSlot
  extract_lets s1 s2
  rename_i x3
  clear_value s1 s2 x3
  exact within_upd h0' (harv := .inl pharv)

theorem execHarvestSlot_within {r : Readings} {lag : Fin 40} {moved : Bool} {s : State} (pregs : Part.regs ∈ T) (pout : Part.out ∈ T) (pq91 : Part.q91 ∈ T) (prk : Part.rk ∈ T) (pscan : Part.scan ∈ T) (pimp : Part.imp ∈ T) (pharv : Part.harv ∈ T) (h3' : Within T s0 s) : ∃ u', (execHarvestSlot r lag moved s) = .next u' ∧ Within T s0 u' := by
  unfold execHarvestSlot
  refine out_ite ?_ ?_
  · refine ⟨_, rfl, ?_⟩
    exact h3'
  · extract_lets s1
    rename_i s2 x3
    have h4 : Within T s0 s1 := by
      unfold s1
      refine State.wrB_within pregs ?_
      exact h3'
    have h5 : Within T s0 s2 := by
      unfold s2
      refine State.countSlot_within pharv ?_
      exact h4
    clear_value s1 s2 x3
    split
    · rename_i x6 e7
      refine ⟨_, rfl, ?_⟩
      refine State.countSlot_within pharv ?_
      exact h4
    · rename_i x8 x9 e10
      refine out_ite ?_ ?_
      · refine ⟨_, rfl, ?_⟩
        refine State.missSlot_within pregs pq91 prk pscan pimp ?_
        exact h5
      · refine ⟨_, rfl, ?_⟩
        refine State.launchHarvest_within pout pharv ?_
        exact within_upd h5 (harv := .inl pharv)

theorem execLoopClosed_within {ma : BitVec 8} {s : State} (pregs : Part.regs ∈ T) (pq91 : Part.q91 ∈ T) (pprot : Part.prot ∈ T) (prk : Part.rk ∈ T) (pscan : Part.scan ∈ T) (h1' : Within T s0 s) : ∃ u', (execLoopClosed ma s) = .next u' ∧ Within T s0 u' := by
  unfold execLoopClosed
  extract_lets s1
  have h2 : Within T s0 s1 := by
    unfold s1
    refine State.wr_within pregs ?_
    exact h1'
  clear_value s1
  refine out_ite ?_ ?_
  · refine ⟨_, rfl, ?_⟩
    exact h2
  · refine ⟨_, rfl, ?_⟩
    refine State.clearCond_within pregs pprot ?_
    refine State.raise_within pregs pq91 prk pscan ?_
    refine State.wrB_within pregs ?_
    exact h2

theorem execLoopOpen_within {ma : BitVec 8} {s : State} (pregs : Part.regs ∈ T) (pshadow : Part.shadow ∈ T) (pout : Part.out ∈ T) (pcrown : Part.crown ∈ T) (pstg : Part.stg ∈ T) (pq91 : Part.q91 ∈ T) (ppwm : Part.pwm ∈ T) (ploop : Part.loop ∈ T) (ptrack : Part.track ∈ T) (pprot : Part.prot ∈ T) (prk : Part.rk ∈ T) (pscan : Part.scan ∈ T) (pimp : Part.imp ∈ T) (pest : Part.est ∈ T) (ptmx : Part.tmx ∈ T) (pringSt : Part.ringSt ∈ T) (pbal : Part.bal ∈ T) (ptele : Part.tele ∈ T) (pnvm : Part.nvm ∈ T) (ppair : Part.pair ∈ T) (h1' : Within T s0 s) : ∃ u', (execLoopOpen ma s) = .next u' ∧ Within T s0 u' := by
  unfold execLoopOpen
  extract_lets s1
  rename_i s2 x3 s4
  have h5 : Within T s0 s1 := by
    unfold s1
    refine State.wr_within pregs ?_
    refine State.wrB_within pregs ?_
    exact h1'
  have h6 : Within T s0 s2 := by
    unfold s2
    refine State.react_within pregs pshadow pout pcrown pstg pq91 ppwm ploop ptrack pprot prk pscan pimp pest ptmx pringSt pbal ptele pnvm ppair ?_
    refine State.addCond_within pregs pprot ?_
    refine State.raise_within pregs pq91 prk pscan ?_
    exact h5
  have h7 : Within T s0 s4 := by
    unfold s4
    exact within_upd h6 (ringSt := .inl pringSt)
  clear_value s1 s2 x3 s4
  refine out_ite ?_ ?_
  · refine ⟨_, rfl, ?_⟩
    exact h5
  · refine ⟨_, rfl, ?_⟩
    refine within_foldl ?_ ?_
    · exact h7
    · intro s8 x9 h10
      refine State.ringCmd_within pout pringSt ?_
      exact h10

theorem State.oneshot_within {s : State} {bits : ℕ} {r : Readings} (pout : Part.out ∈ T) (pharv : Part.harv ∈ T) (h0' : Within T s0 s) : Within T s0 (State.oneshot s bits r) := by
  unfold State.oneshot
  refine within_ite ?_ ?_
  · exact h0'
  · extract_lets s1
    rename_i s2
    have h3 : Within T s0 s2 := by
      unfold s2
      exact within_upd h0' (harv := .inl pharv)
    clear_value s1 s2
    refine within_ite ?_ ?_
    · refine State.launchT_within pout pharv ?_
      exact h3
    · exact h3

theorem execOneshotC_within {who : Initiator} {s : State} (pregs : Part.regs ∈ T) (pout : Part.out ∈ T) (paccErr : Part.accErr ∈ T) (pq91 : Part.q91 ∈ T) (phost : Part.host ∈ T) (pharv : Part.harv ∈ T) (h1' : Within T s0 s) : ∃ u', (execOneshotC who s) = .next u' ∧ Within T s0 u' := by
  unfold execOneshotC
  refine ⟨_, rfl, ?_⟩
  refine State.asWrite_within pregs paccErr pq91 phost ?_ ?_
  · exact h1'
  · intro s1 h2
    refine State.oneshot_within pout pharv ?_
    exact h2

theorem execOneshotT_within {who : Initiator} {r : Readings} {s : State} (pregs : Part.regs ∈ T) (pout : Part.out ∈ T) (paccErr : Part.accErr ∈ T) (pq91 : Part.q91 ∈ T) (phost : Part.host ∈ T) (pharv : Part.harv ∈ T) (h2' : Within T s0 s) : ∃ u', (execOneshotT who r s) = .next u' ∧ Within T s0 u' := by
  unfold execOneshotT
  refine ⟨_, rfl, ?_⟩
  refine State.asWrite_within pregs paccErr pq91 phost ?_ ?_
  · exact h2'
  · intro s1 h2
    refine State.oneshot_within pout pharv ?_
    exact h2

theorem execOneshotV_within {who : Initiator} {s : State} (pregs : Part.regs ∈ T) (pout : Part.out ∈ T) (paccErr : Part.accErr ∈ T) (pq91 : Part.q91 ∈ T) (phost : Part.host ∈ T) (pharv : Part.harv ∈ T) (h1' : Within T s0 s) : ∃ u', (execOneshotV who s) = .next u' ∧ Within T s0 u' := by
  unfold execOneshotV
  refine ⟨_, rfl, ?_⟩
  refine State.asWrite_within pregs paccErr pq91 phost ?_ ?_
  · exact h1'
  · intro s1 h2
    refine State.oneshot_within pout pharv ?_
    exact h2

theorem execPauseLaunch_within {s : State} (pout : Part.out ∈ T) (pharv : Part.harv ∈ T) (h0' : Within T s0 s) : ∃ u', (execPauseLaunch s) = .next u' ∧ Within T s0 u' := by
  unfold execPauseLaunch
  refine out_ite ?_ ?_
  · refine ⟨_, rfl, ?_⟩
    refine State.launchSync_within pout pharv ?_
    exact h0'
  · refine ⟨_, rfl, ?_⟩
    exact h0'

theorem State.bypassCheck_within {s : State} {r : Record} (pregs : Part.regs ∈ T) (pshadow : Part.shadow ∈ T) (pout : Part.out ∈ T) (pcrown : Part.crown ∈ T) (pstg : Part.stg ∈ T) (pq91 : Part.q91 ∈ T) (ppwm : Part.pwm ∈ T) (ploop : Part.loop ∈ T) (ptrack : Part.track ∈ T) (pprot : Part.prot ∈ T) (prk : Part.rk ∈ T) (pscan : Part.scan ∈ T) (pimp : Part.imp ∈ T) (pest : Part.est ∈ T) (ptmx : Part.tmx ∈ T) (pringSt : Part.ringSt ∈ T) (pharv : Part.harv ∈ T) (pbal : Part.bal ∈ T) (ptele : Part.tele ∈ T) (pnvm : Part.nvm ∈ T) (ppair : Part.pair ∈ T) (h0' : Within T s0 s) : Within T s0 (State.bypassCheck s r) := by
  unfold State.bypassCheck
  extract_lets s1 s2 s3 s4
  rename_i s5 s6
  have h7 : Within T s0 s5 := by
    unfold s5
    exact within_upd h0' (harv := .inl pharv)
  have h8 : Within T s0 s6 := by
    unfold s6
    refine within_ite ?_ ?_
    · refine State.retryPass_within pregs pq91 ?_
      exact h7
    · exact h7
  clear_value s1 s2 s3 s4 s5 s6
  refine within_ite ?_ ?_
  · refine within_ite ?_ ?_
    · exact h7
    · refine State.react_within pregs pshadow pout pcrown pstg pq91 ppwm ploop ptrack pprot prk pscan pimp pest ptmx pringSt pbal ptele pnvm ppair ?_
      refine State.addCond_within pregs pprot ?_
      refine State.lasting_within pregs ?_
      refine State.raise_within pregs pq91 prk pscan ?_
      refine State.wrB_within pregs ?_
      exact h7
  · refine within_ite ?_ ?_
    · refine State.clearCond_within pregs pprot ?_
      refine State.wrB_within pregs ?_
      exact h8
    · exact h7

theorem State.plausReact_within {s : State} (pregs : Part.regs ∈ T) (pshadow : Part.shadow ∈ T) (pout : Part.out ∈ T) (pcrown : Part.crown ∈ T) (pstg : Part.stg ∈ T) (pq91 : Part.q91 ∈ T) (ppwm : Part.pwm ∈ T) (ploop : Part.loop ∈ T) (ptrack : Part.track ∈ T) (pprot : Part.prot ∈ T) (prk : Part.rk ∈ T) (pscan : Part.scan ∈ T) (pimp : Part.imp ∈ T) (pest : Part.est ∈ T) (ptmx : Part.tmx ∈ T) (pringSt : Part.ringSt ∈ T) (pharv : Part.harv ∈ T) (pbal : Part.bal ∈ T) (ptele : Part.tele ∈ T) (pnvm : Part.nvm ∈ T) (ppair : Part.pair ∈ T) (h0' : Within T s0 s) : Within T s0 (State.plausReact s) := by
  unfold State.plausReact
  extract_lets s1 s2
  rename_i x3
  clear_value s1 s2 x3
  beta_reduce
  refine within_foldl ?_ ?_
  · exact within_upd h0' (harv := .inl pharv)
  · intro s4 x5 h6
    extract_lets s7
    have h8 : ∀ a0, Within T s0 a0 → Within T s0 (s7 a0) := by
      intro s9 h10
      unfold s7
      beta_reduce
      refine State.react_within pregs pshadow pout pcrown pstg pq91 ppwm ploop ptrack pprot prk pscan pimp pest ptmx pringSt pbal ptele pnvm ppair ?_
      exact h10
    clear_value s7
    refine within_ite ?_ ?_
    · refine within_ite ?_ ?_
      · exact h6
      · refine State.relinquishOr_within pregs pshadow pout pcrown pstg pq91 ppwm ploop ptrack pprot prk pscan pimp pringSt pbal ppair ?_ ?_
        · exact h6
        · intro s11 h12
          apply h8
          exact h12
    · apply h8
      exact h6

theorem State.plausStatus_within {s : State} (pregs : Part.regs ∈ T) (h0' : Within T s0 s) : Within T s0 (State.plausStatus s) := by
  unfold State.plausStatus
  extract_lets s1 s2 s3 s4 s5
  clear_value s1
  have h6 : Within T s0 s2 := by
    unfold s2
    refine State.wr_within pregs ?_
    refine State.wr_within pregs ?_
    exact h0'
  clear_value s3
  clear_value s2 s4 s5
  refine State.wr_within pregs ?_
  exact h6

theorem State.setSuspect_within {s : State} {k : ℕ} {i : ℕ} {b : Bool} (pregs : Part.regs ∈ T) (h0' : Within T s0 s) : Within T s0 (State.setSuspect s k i b) := by
  unfold State.setSuspect
  split
  · rename_i x1
    refine setMaskBit_within pregs ?_
    exact h0'
  · rename_i x2
    refine State.wrBit_within pregs ?_
    exact h0'
  · rename_i x3 e4 e5
    exact h0'

theorem State.plausLasts_within {s : State} {k : ℕ} {i : ℕ} {d : ℤ} (pregs : Part.regs ∈ T) (pout : Part.out ∈ T) (pq91 : Part.q91 ∈ T) (pprot : Part.prot ∈ T) (prk : Part.rk ∈ T) (pscan : Part.scan ∈ T) (pringSt : Part.ringSt ∈ T) (pharv : Part.harv ∈ T) (pbal : Part.bal ∈ T) (ppair : Part.pair ∈ T) (h0' : Within T s0 s) : Within T s0 (State.plausLasts s k i d) := by
  unfold State.plausLasts
  extract_lets s1 s2 s3 s4
  rename_i s5
  have h6 : Within T s0 s3 := by
    unfold s3
    exact within_upd h0' (harv := .inl pharv)
  have h7 : Within T s0 s4 := by
    unfold s4
    refine State.lasting_within pregs ?_
    refine State.raise_within pregs pq91 prk pscan ?_
    refine State.setSuspect_within pregs ?_
    exact h6
  have h8 : Within T s0 s5 := by
    unfold s5
    refine State.addCond_within pregs pprot ?_
    exact h7
  clear_value s1 s2 s3 s4 s5
  refine within_ite ?_ ?_
  · refine State.replan_within pregs pout pq91 prk pscan pringSt pbal ppair ?_
    exact h8
  · exact h8

theorem State.plausJudge_within {s : State} {k : ℕ} {e : Eval} (pregs : Part.regs ∈ T) (pout : Part.out ∈ T) (pq91 : Part.q91 ∈ T) (pprot : Part.prot ∈ T) (prk : Part.rk ∈ T) (pscan : Part.scan ∈ T) (pringSt : Part.ringSt ∈ T) (pharv : Part.harv ∈ T) (pbal : Part.bal ∈ T) (ppair : Part.pair ∈ T) (h0' : Within T s0 s) : Within T s0 (State.plausJudge s k e) := by
  unfold State.plausJudge
  split
  rename_i x1 x2 x3 x4
  extract_lets s5 s6
  rename_i s7 x8 x9 x10 s11 s12 x13 s14 x15
  have h16 : Within T s0 s7 := by
    unfold s7
    refine within_ite ?_ ?_
    · refine State.raise_within pregs pq91 prk pscan ?_
      refine State.retryPass_within pregs pq91 ?_
      exact within_upd h0' (harv := .inl pharv)
    · exact h0'
  have h17 : Within T s0 s11 := by
    unfold s11
    exact within_upd h16 (harv := .inl pharv)
  have h18 : Within T s0 s12 := by
    unfold s12
    refine State.wrI_within pregs ?_
    refine State.wr_within pregs ?_
    refine State.wr_within pregs ?_
    exact h0'
  have h19 : Within T s0 s14 := by
    unfold s14
    exact within_upd h18 (harv := .inl pharv)
  clear_value s5 s6 s7 x8 x9 x10 s11 s12 x13 s14 x15
  refine within_ite ?_ ?_
  · refine within_ite ?_ ?_
    · refine within_ite ?_ ?_
      · refine State.raise_within pregs pq91 prk pscan ?_
        refine State.clearCond_within pregs pprot ?_
        refine State.setSuspect_within pregs ?_
        exact h17
      · exact within_upd h16 (harv := .inl pharv)
    · exact h16
  · refine within_ite ?_ ?_
    · exact h19
    · refine within_ite ?_ ?_
      · refine State.plausLasts_within pregs pout pq91 pprot prk pscan pringSt pharv pbal ppair ?_
        exact h19
      · exact within_upd h19 (harv := .inl pharv)

theorem State.plausCheck_within {s : State} {r : Record} {k : ℕ} (pregs : Part.regs ∈ T) (pout : Part.out ∈ T) (pq91 : Part.q91 ∈ T) (pprot : Part.prot ∈ T) (prk : Part.rk ∈ T) (pscan : Part.scan ∈ T) (pringSt : Part.ringSt ∈ T) (pharv : Part.harv ∈ T) (pbal : Part.bal ∈ T) (ppair : Part.pair ∈ T) (h0' : Within T s0 s) : Within T s0 (State.plausCheck s r k) := by
  unfold State.plausCheck
  extract_lets s1
  rename_i x2 s3
  have h4 : Within T s0 s3 := by
    unfold s3
    exact within_upd h0' (harv := .inl pharv)
  clear_value s1 x2 s3
  refine within_ite ?_ ?_
  · exact h0'
  · refine within_foldl ?_ ?_
    · exact h4
    · intro s5 x6 h7
      refine State.plausJudge_within pregs pout pq91 pprot prk pscan pringSt pharv pbal ppair ?_
      exact h7

theorem execPlausibilityCheck_within {s : State} (pregs : Part.regs ∈ T) (pshadow : Part.shadow ∈ T) (pout : Part.out ∈ T) (pcrown : Part.crown ∈ T) (pstg : Part.stg ∈ T) (pq91 : Part.q91 ∈ T) (ppwm : Part.pwm ∈ T) (ploop : Part.loop ∈ T) (ptrack : Part.track ∈ T) (pprot : Part.prot ∈ T) (prk : Part.rk ∈ T) (pscan : Part.scan ∈ T) (pimp : Part.imp ∈ T) (pest : Part.est ∈ T) (ptmx : Part.tmx ∈ T) (peng : Part.eng ∈ T) (pringSt : Part.ringSt ∈ T) (pharv : Part.harv ∈ T) (pbal : Part.bal ∈ T) (ptele : Part.tele ∈ T) (pnvm : Part.nvm ∈ T) (ppair : Part.pair ∈ T) (h0' : Within T s0 s) : ∃ u', (execPlausibilityCheck s) = .next u' ∧ Within T s0 u' := by
  unfold execPlausibilityCheck
  split
  · rename_i x1 e2
    refine ⟨_, rfl, ?_⟩
    exact h0'
  · rename_i x3 x4 x5 e6
    extract_lets s7 s8
    rename_i s9
    have h10 : Within T s0 s8 := by
      unfold s8
      exact within_upd h0' (harv := .inl pharv)
    have h11 : Within T s0 s9 := by
      unfold s9
      refine within_ite ?_ ?_
      · exact h10
      · refine State.consume_within pregs peng ?_
        exact h10
    clear_value s7 s8 s9
    refine out_ite ?_ ?_
    · refine ⟨_, rfl, ?_⟩
      refine State.bypassCheck_within pregs pshadow pout pcrown pstg pq91 ppwm ploop ptrack pprot prk pscan pimp pest ptmx pringSt pharv pbal ptele pnvm ppair ?_
      exact h11
    · refine ⟨_, rfl, ?_⟩
      refine State.bypassCheck_within pregs pshadow pout pcrown pstg pq91 ppwm ploop ptrack pprot prk pscan pimp pest ptmx pringSt pharv pbal ptele pnvm ppair ?_
      refine State.plausReact_within pregs pshadow pout pcrown pstg pq91 ppwm ploop ptrack pprot prk pscan pimp pest ptmx pringSt pharv pbal ptele pnvm ppair ?_
      refine State.plausStatus_within pregs ?_
      refine within_foldl ?_ ?_
      · exact h11
      · intro s12 x13 h14
        refine State.plausCheck_within pregs pout pq91 pprot prk pscan pringSt pharv pbal ppair ?_
        exact h14

theorem execTHarvestDue_within {s : State} (pharv : Part.harv ∈ T) (h0' : Within T s0 s) : ∃ u', (execTHarvestDue s) = .next u' ∧ Within T s0 u' := by
  unfold execTHarvestDue
  refine out_ite ?_ ?_
  · refine ⟨_, rfl, ?_⟩
    exact within_upd h0' (harv := .inl pharv)
  · refine ⟨_, rfl, ?_⟩
    exact h0'

theorem execTHarvestLaunch_within {r : Readings} {s : State} (pout : Part.out ∈ T) (pharv : Part.harv ∈ T) (h1' : Within T s0 s) : ∃ u', (execTHarvestLaunch r s) = .next u' ∧ Within T s0 u' := by
  unfold execTHarvestLaunch
  refine out_ite ?_ ?_
  · refine ⟨_, rfl, ?_⟩
    refine State.launchT_within pout pharv ?_
    exact h1'
  · refine ⟨_, rfl, ?_⟩
    exact h1'

end Sys2Proof.Machine
end

