-- ==== Sys2Proof/Laws/Within4.lean ====
section
/-!
SUPPORT. The parts of the state that each operation can change: EstOps, EstFam, Image, ThermFam, TelemFam, Power, LoopFam.
-/
set_option Elab.async false
set_option linter.unusedSimpArgs false
set_option linter.unusedVariables false
set_option linter.unusedTactic false
set_option linter.unreachableTactic false
namespace Sys2Proof.Machine
open Sys2Proof

variable {T : List Part} {s0 : State}

/-! ## EstOps -/

theorem State.learnCap_within {s : State} {c : ℕ} {soc : ℤ} (pregs : Part.regs ∈ T) (pq91 : Part.q91 ∈ T) (prk : Part.rk ∈ T) (pscan : Part.scan ∈ T) (pest : Part.est ∈ T) (h0' : Within T s0 s) : Within T s0 (State.learnCap s c soc) := by
  unfold State.learnCap
  extract_lets s1
  rename_i x2
  clear_value s1 x2
  split
  · rename_i x3 e4
    refine State.setCell_within pest ?_
    exact h0'
  · rename_i x5 x6 e7
    extract_lets s8
    rename_i x9 x10 s11 s12
    have h13 : Within T s0 s11 := by
      unfold s11
      refine State.wr_within pregs ?_
      exact h0'
    have h14 : Within T s0 s12 := by
      unfold s12
      refine State.setCell_within pest ?_
      exact h13
    clear_value s8 x9 x10 s11 s12
    refine within_ite ?_ ?_
    · exact h0'
    · refine State.journalBoth_within pregs pq91 prk pscan pest ?_
      refine State.raise_within pregs pq91 prk pscan ?_
      exact h14

theorem State.anchorCell_within {s : State} {c : ℕ} {quasi : Bool} {init : Bool} (pregs : Part.regs ∈ T) (pq91 : Part.q91 ∈ T) (prk : Part.rk ∈ T) (pscan : Part.scan ∈ T) (pest : Part.est ∈ T) (h0' : Within T s0 s) : ∀ u', (State.anchorCell s c quasi init) = some u' → Within T s0 u' := by
  unfold State.anchorCell
  extract_lets s1
  rename_i x2 x3
  clear_value s1 x2 x3
  refine opt_ite ?_ ?_
  · exact opt_none
  · split
    · rename_i x4 e5
      exact opt_none
    · rename_i x6 x7 x8 e9
      refine opt_ite ?_ ?_
      · exact opt_none
      · extract_lets s10 s11 s12 s13
        have h14 : Within T s0 s13 := by
          unfold s13
          refine State.setCell_within pest ?_
          exact h0'
        clear_value s10 s11 s12 s13
        refine opt_some ?_
        refine within_ite ?_ ?_
        · refine State.learnCap_within pregs pq91 prk pscan pest ?_
          exact h14
        · exact h14

theorem State.anchorAll_within {s : State} {quasi : Bool} (pregs : Part.regs ∈ T) (pq91 : Part.q91 ∈ T) (prk : Part.rk ∈ T) (pscan : Part.scan ∈ T) (pest : Part.est ∈ T) (h0' : Within T s0 s) : Within T s0 (State.anchorAll s quasi) := by
  unfold State.anchorAll
  split
  rename_i s1 s2 x3 e4
  have h5 : Within T s0 s2 := by
    refine within_of_fst e4 ?_
    refine within_foldl_fst ?_ ?_
    · dsimp only
      exact h0'
    · intro s6 x7 h8
      split
      · rename_i s9 s10 e11
        have h12 : Within T s0 s10 := by
          refine within_of_some e11 ?_
          refine State.anchorCell_within pregs pq91 prk pscan pest ?_
          exact h8
        dsimp only
        exact h12
      · rename_i s13 e14
        exact h8
  refine within_ite ?_ ?_
  · refine State.raise_within pregs pq91 prk pscan ?_
    refine State.bump_within pregs ?_
    exact h5
  · exact h5

theorem State.window_within {s : State} {ok : Fld} {ev : ℕ} {fresh : Bool} {hot : ℤ} {cold : ℤ} {lo : ℤ} {hi : ℤ} (pregs : Part.regs ∈ T) (pq91 : Part.q91 ∈ T) (prk : Part.rk ∈ T) (pscan : Part.scan ∈ T) (h0' : Within T s0 s) : Within T s0 (State.window s ok ev fresh hot cold lo hi).1 := by
  unfold State.window
  extract_lets s1 s2 s3 s4 s5 s6
  have h7 : Within T s0 s5 := by
    unfold s5
    refine within_ite ?_ ?_
    · refine State.raise_within pregs pq91 prk pscan ?_
      exact h0'
    · exact h0'
  clear_value s1 s2 s3 s4 s5 s6
  dsimp only
  refine State.wrB_within pregs ?_
  exact h7

theorem State.derate_within {s : State} (pregs : Part.regs ∈ T) (pq91 : Part.q91 ∈ T) (prk : Part.rk ∈ T) (pscan : Part.scan ∈ T) (h0' : Within T s0 s) : Within T s0 (State.derate s) := by
  unfold State.derate
  extract_lets s1
  rename_i s2 s3
  have h4 : Within T s0 s2 := by
    unfold s2
    refine within_ite ?_ ?_
    · exact h0'
    · refine State.raise_within pregs pq91 prk pscan ?_
      exact h0'
  have h5 : Within T s0 s3 := by
    unfold s3
    refine State.wrI_within pregs ?_
    refine State.wrB_within pregs ?_
    refine State.wrB_within pregs ?_
    refine State.wrB_within pregs ?_
    exact h4
  clear_value s1 s2 s3
  split
  · rename_i x6 e7
    refine State.wr_within pregs ?_
    refine State.wr_within pregs ?_
    refine State.wrI_within pregs ?_
    exact h5
  · rename_i x8 x9 x10 e11
    split
    rename_i s12 s13 x14 e15
    have h16 : Within T s0 s13 := by
      refine within_of_fst e15 ?_
      refine State.window_within pregs pq91 prk pscan ?_
      exact h0'
    split
    rename_i s17 s18 x19 e20
    have h21 : Within T s0 s18 := by
      refine within_of_fst e20 ?_
      refine State.window_within pregs pq91 prk pscan ?_
      exact h16
    extract_lets s22
    have h23 : Within T s0 s22 := by
      unfold s22
      refine State.wrI_within pregs ?_
      refine State.wrI_within pregs ?_
      refine State.wrB_within pregs ?_
      exact h21
    clear_value s22
    refine State.wr_within pregs ?_
    refine State.wr_within pregs ?_
    exact h23

theorem State.horizon_within {s : State} {rate : ℕ × ℕ} {blocked : Bool} {k : ℕ} {h' : ℕ} {hg : ℕ} (pregs : Part.regs ∈ T) (h0' : Within T s0 s) : Within T s0 (State.horizon s rate blocked k h' hg) := by
  unfold State.horizon
  extract_lets s1 s2 s3 s4 s5 s6 s7
  clear_value s3
  clear_value s7
  clear_value s1 s2 s4 s5 s6
  refine State.wr_within pregs ?_
  refine State.wr_within pregs ?_
  refine State.wr_within pregs ?_
  refine State.wr_within pregs ?_
  exact h0'

theorem State.judgeBlind_within {s : State} (pregs : Part.regs ∈ T) (pq91 : Part.q91 ∈ T) (prk : Part.rk ∈ T) (pscan : Part.scan ∈ T) (h0' : Within T s0 s) : Within T s0 (State.judgeBlind s) := by
  unfold State.judgeBlind
  extract_lets s1 s2
  have h3 : Within T s0 s2 := by
    unfold s2
    refine within_ite ?_ ?_
    · refine State.raise_within pregs pq91 prk pscan ?_
      exact h0'
    · exact h0'
  clear_value s1 s2
  refine State.wrB_within pregs ?_
  exact h3

theorem State.judgeOverdue_within {s : State} (pregs : Part.regs ∈ T) (pq91 : Part.q91 ∈ T) (prk : Part.rk ∈ T) (pscan : Part.scan ∈ T) (h0' : Within T s0 s) : Within T s0 (State.judgeOverdue s) := by
  unfold State.judgeOverdue
  extract_lets s1 s2
  have h3 : Within T s0 s2 := by
    unfold s2
    refine within_ite ?_ ?_
    · refine State.raise_within pregs pq91 prk pscan ?_
      refine State.raise_within pregs pq91 prk pscan ?_
      exact h0'
    · exact h0'
  clear_value s1 s2
  refine State.wrB_within pregs ?_
  refine State.wrB_within pregs ?_
  exact h3

theorem State.judgeValid_within {s : State} (pregs : Part.regs ∈ T) (pq91 : Part.q91 ∈ T) (prk : Part.rk ∈ T) (pscan : Part.scan ∈ T) (pest : Part.est ∈ T) (h0' : Within T s0 s) : Within T s0 (State.judgeValid s) := by
  unfold State.judgeValid
  refine within_foldl ?_ ?_
  · exact h0'
  · intro s1 x2 h3
    extract_lets s4 s5 s6 s7
    have h8 : Within T s0 s7 := by
      unfold s7
      refine within_ite ?_ ?_
      · refine State.raise_within pregs pq91 prk pscan ?_
        exact h3
      · exact h3
    clear_value s4 s5 s6 s7
    refine State.setCell_within pest ?_
    exact h8

theorem State.learnRf_within {s : State} {c : ℕ} {reZ : ℤ} (pregs : Part.regs ∈ T) (pq91 : Part.q91 ∈ T) (prk : Part.rk ∈ T) (pscan : Part.scan ∈ T) (pest : Part.est ∈ T) (h0' : Within T s0 s) : Within T s0 (State.learnRf s c reZ) := by
  unfold State.learnRf
  extract_lets s1 s2
  rename_i x3 x4
  clear_value s1 s2 x3 x4
  refine within_ite ?_ ?_
  · exact h0'
  · refine State.raise_within pregs pq91 prk pscan ?_
    refine State.setCell_within pest ?_
    exact h0'

theorem State.limits_within {s : State} {rate : ℕ × ℕ} {blocked : Bool} (pregs : Part.regs ∈ T) (h0' : Within T s0 s) : Within T s0 (State.limits s rate blocked) := by
  unfold State.limits
  refine State.horizon_within pregs ?_
  refine State.horizon_within pregs ?_
  refine State.horizon_within pregs ?_
  exact h0'

theorem State.publishSoc_within {s : State} (pregs : Part.regs ∈ T) (h0' : Within T s0 s) : Within T s0 (State.publishSoc s) := by
  unfold State.publishSoc
  extract_lets s1 s2 s3 s4 s5 s6 s7
  rename_i x8
  have h9 : Within T s0 s2 := by
    unfold s2
    refine within_foldl ?_ ?_
    · exact h0'
    · intro s10 x11 h12
      refine State.wr_within pregs ?_
      exact h12
  have h13 : Within T s0 s3 := by
    unfold s3
    refine State.wr_within pregs ?_
    exact h9
  have h14 : Within T s0 s4 := by
    unfold s4
    refine State.wr_within pregs ?_
    exact h13
  clear_value s5
  have h15 : Within T s0 s6 := by
    unfold s6
    refine State.wr_within pregs ?_
    exact h14
  clear_value s1 s2 s3 s4 s6 s7 x8
  split
  · rename_i x16
    refine State.wr_within pregs ?_
    refine State.wr_within pregs ?_
    refine State.wr_within pregs ?_
    refine State.wr_within pregs ?_
    refine State.wr_within pregs ?_
    exact h15
  · rename_i x17 x18 x19
    extract_lets s20 s21 s22 s23 s24
    have h25 : Within T s0 s24 := by
      unfold s24
      refine State.wr_within pregs ?_
      refine State.wr_within pregs ?_
      refine State.wr_within pregs ?_
      refine State.wr_within pregs ?_
      exact h15
    clear_value s20 s21 s22 s23 s24
    refine State.wr_within pregs ?_
    exact h25

/-! ## EstFam -/

theorem State.estOff_within {s : State} (pregs : Part.regs ∈ T) (pq91 : Part.q91 ∈ T) (prk : Part.rk ∈ T) (pscan : Part.scan ∈ T) (pest : Part.est ∈ T) (h0' : Within T s0 s) : Within T s0 (State.estOff s) := by
  unfold State.estOff
  extract_lets s1 s2
  rename_i s3
  have h4 : Within T s0 s1 := by
    unfold s1
    refine within_ite ?_ ?_
    · refine State.raise_within pregs pq91 prk pscan ?_
      exact h0'
    · exact h0'
  have h5 : Within T s0 s3 := by
    unfold s3
    exact within_upd h4 (est := .inl pest)
  clear_value s1 s2 s3
  refine State.limits_within pregs ?_
  refine State.publishSoc_within pregs ?_
  refine State.wrB_within pregs ?_
  exact h5

theorem State.anchorsDue_within {s : State} (pregs : Part.regs ∈ T) (pout : Part.out ∈ T) (pq91 : Part.q91 ∈ T) (prk : Part.rk ∈ T) (pscan : Part.scan ∈ T) (pest : Part.est ∈ T) (pharv : Part.harv ∈ T) (h0' : Within T s0 s) : Within T s0 (State.anchorsDue s) := by
  unfold State.anchorsDue
  extract_lets s1 s2 s3 s4
  rename_i x5 s6 x7
  have h8 : Within T s0 s3 := by
    unfold s3
    refine within_ite ?_ ?_
    · exact within_upd h0' (est := .inl pest)
    · refine within_ite ?_ ?_
      · exact within_upd h0' (est := .inl pest)
      · exact h0'
  have h9 : Within T s0 s6 := by
    unfold s6
    refine within_ite ?_ ?_
    · refine State.anchorAll_within pregs pq91 prk pscan pest ?_
      exact within_upd h8 (est := .inl pest)
    · exact h8
  clear_value s1 s2 s3 s4 x5 s6 x7
  refine within_ite ?_ ?_
  · exact h9
  · refine within_ite ?_ ?_
    · refine State.oneshot_within pout pharv ?_
      exact within_upd h9 (est := .inl pest)
    · refine State.anchorAll_within pregs pq91 prk pscan pest ?_
      exact h9

theorem State.timeCurrents_within {s : State} {dt : ℕ} {lo : ℤ} {hi : ℤ} (pregs : Part.regs ∈ T) (pest : Part.est ∈ T) (h0' : Within T s0 s) : Within T s0 (State.timeCurrents s dt lo hi) := by
  unfold State.timeCurrents
  extract_lets s1 s2 s3 s4 s5 s6 s7 s8 s9 s10 s11 s12
  have h13 : Within T s0 s11 := by
    unfold s11
    exact within_upd h0' (est := .inl pest)
  have h14 : Within T s0 s12 := by
    unfold s12
    refine State.wrB_within pregs ?_
    refine State.wrB_within pregs ?_
    exact h13
  clear_value s1 s2 s3 s4 s5 s6 s7 s8 s9 s10 s11 s12
  refine within_ite ?_ ?_
  · refine within_foldl ?_ ?_
    · exact h14
    · intro s15 x16 h17
      refine State.setCell_within pest ?_
      exact h17
  · refine within_ite ?_ ?_
    · refine within_foldl ?_ ?_
      · exact h14
      · intro s18 x19 h20
        refine State.setCell_within pest ?_
        exact h20
    · exact h14

theorem State.estMirror_within {s : State} (pout : Part.out ∈ T) (ppair : Part.pair ∈ T) (h0' : Within T s0 s) : Within T s0 (State.estMirror s) := by
  unfold State.estMirror
  refine State.mirror_within pout ppair ?_
  exact h0'

theorem execEstimatorStep_within {more : ℤ} {lo : ℤ} {hi : ℤ} {late : Bool} {s : State} (pregs : Part.regs ∈ T) (pout : Part.out ∈ T) (pq91 : Part.q91 ∈ T) (prk : Part.rk ∈ T) (pscan : Part.scan ∈ T) (pest : Part.est ∈ T) (pharv : Part.harv ∈ T) (ppair : Part.pair ∈ T) (h4' : Within T s0 s) : ∃ u', (execEstimatorStep more lo hi late s) = .next u' ∧ Within T s0 u' := by
  unfold execEstimatorStep
  refine out_ite ?_ ?_
  · refine ⟨_, rfl, ?_⟩
    refine within_ite ?_ ?_
    · refine State.wrB_within pregs ?_
      exact h4'
    · refine State.estOff_within pregs pq91 prk pscan pest ?_
      exact h4'
  · refine out_ite ?_ ?_
    · refine ⟨_, rfl, ?_⟩
      exact h4'
    · refine out_ite ?_ ?_
      · refine ⟨_, rfl, ?_⟩
        refine State.raise_within pregs pq91 prk pscan ?_
        exact h4'
      · extract_lets s1 s2 s3 s4 s5 s6 s7 s8 s9 s10 s11
        rename_i s12 x13
        have h14 : Within T s0 s1 := by
          unfold s1
          refine State.wrB_within pregs ?_
          exact h4'
        have h15 : Within T s0 s7 := by
          unfold s7
          exact within_upd h14 (est := .inl pest)
        have h16 : Within T s0 s8 := by
          unfold s8
          refine within_foldl ?_ ?_
          · exact h15
          · intro s17 x18 h19
            split
            rename_i x20 x21 x22 e23
            refine State.setCell_within pest ?_
            exact h19
        have h24 : Within T s0 s10 := by
          unfold s10
          exact within_upd h16 (est := .inl pest)
        have h25 : Within T s0 s11 := by
          unfold s11
          refine State.judgeValid_within pregs pq91 prk pscan pest ?_
          refine State.anchorsDue_within pregs pout pq91 prk pscan pest pharv ?_
          refine State.timeCurrents_within pregs pest ?_
          exact h24
        have h26 : Within T s0 s12 := by
          unfold s12
          refine State.judgeBlind_within pregs pq91 prk pscan ?_
          refine State.judgeOverdue_within pregs pq91 prk pscan ?_
          refine State.publishSoc_within pregs ?_
          exact h25
        clear_value s1 s2 s3 s4 s5 s6 s7 s8 s9 s10 s11 s12 x13
        refine ⟨_, rfl, ?_⟩
        refine State.estMirror_within pout ppair ?_
        refine State.derate_within pregs pq91 prk pscan ?_
        refine State.limits_within pregs ?_
        exact h26

theorem State.initCells_within {s : State} (pregs : Part.regs ∈ T) (pq91 : Part.q91 ∈ T) (prk : Part.rk ∈ T) (pscan : Part.scan ∈ T) (pest : Part.est ∈ T) (h0' : Within T s0 s) : Within T s0 (State.initCells s) := by
  unfold State.initCells
  refine within_ite ?_ h0'
  refine within_foldl h0' fun t x ht => ?_
  cases e : State.anchorCell t x false true with
  | none => exact ht
  | some u => exact State.anchorCell_within pregs pq91 prk pscan pest ht u e

theorem execInitCmd_within {who : Initiator} {s : State} (pregs : Part.regs ∈ T) (paccErr : Part.accErr ∈ T) (pq91 : Part.q91 ∈ T) (phost : Part.host ∈ T) (prk : Part.rk ∈ T) (pscan : Part.scan ∈ T) (pest : Part.est ∈ T) (h1' : Within T s0 s) : ∃ u', (execInitCmd who s) = .next u' ∧ Within T s0 u' := by
  unfold execInitCmd
  refine ⟨_, rfl, ?_⟩
  refine State.asWrite_within pregs paccErr pq91 phost ?_ ?_
  · exact h1'
  · intro s1 h2
    refine State.initCells_within pregs pq91 prk pscan pest ?_
    exact h2

theorem execJournalWriteComplete_within {verified : Bool} {s : State} (pregs : Part.regs ∈ T) (pq91 : Part.q91 ∈ T) (prk : Part.rk ∈ T) (pscan : Part.scan ∈ T) (pest : Part.est ∈ T) (h1' : Within T s0 s) : ∃ u', (execJournalWriteComplete verified s) = .next u' ∧ Within T s0 u' := by
  unfold execJournalWriteComplete
  split
  · rename_i x1 e2
    refine ⟨_, rfl, ?_⟩
    exact h1'
  · rename_i x3 x4 e5
    refine out_ite ?_ ?_
    · refine ⟨_, rfl, ?_⟩
      refine State.commitWrite_within pregs pq91 prk pscan pest ?_
      refine within_ite ?_ ?_
      · refine State.retryPass_within pregs pq91 ?_
        exact h1'
      · exact h1'
    · refine out_ite ?_ ?_
      · refine ⟨_, rfl, ?_⟩
        refine State.abandonWrite_within pregs pq91 prk pscan pest ?_
        refine State.lastingW_within pregs pq91 ?_
        exact h1'
      · refine ⟨_, rfl, ?_⟩
        exact within_upd h1' (est := .inl pest)

theorem execLearnedJournalInterval_within {s : State} (pregs : Part.regs ∈ T) (pq91 : Part.q91 ∈ T) (prk : Part.rk ∈ T) (pscan : Part.scan ∈ T) (pest : Part.est ∈ T) (h0' : Within T s0 s) : ∃ u', (execLearnedJournalInterval s) = .next u' ∧ Within T s0 u' := by
  unfold execLearnedJournalInterval
  refine ⟨_, rfl, ?_⟩
  refine State.journal_within pregs pq91 prk pscan pest ?_
  exact h0'

theorem State.resetCell_within {s : State} {who : Initiator} (pregs : Part.regs ∈ T) (pq91 : Part.q91 ∈ T) (prk : Part.rk ∈ T) (pscan : Part.scan ∈ T) (pest : Part.est ∈ T) (h0' : Within T s0 s) : Within T s0 (State.resetCell s who) := by
  unfold State.resetCell
  refine within_ite ?_ ?_
  · extract_lets s1 s2
    rename_i s3
    have h4 : Within T s0 s3 := by
      unfold s3
      refine State.setCell_within pest ?_
      refine State.wr_within pregs ?_
      exact h0'
    clear_value s1 s2 s3
    refine State.journal_within pregs pq91 prk pscan pest ?_
    refine State.record_within pq91 ?_
    exact h4
  · exact h0'

theorem execResetCell_within {who : Initiator} {s : State} (pregs : Part.regs ∈ T) (paccErr : Part.accErr ∈ T) (pq91 : Part.q91 ∈ T) (phost : Part.host ∈ T) (prk : Part.rk ∈ T) (pscan : Part.scan ∈ T) (pest : Part.est ∈ T) (h1' : Within T s0 s) : ∃ u', (execResetCell who s) = .next u' ∧ Within T s0 u' := by
  unfold execResetCell
  refine ⟨_, rfl, ?_⟩
  refine State.asWrite_within pregs paccErr pq91 phost ?_ ?_
  · exact h1'
  · intro s1 h2
    refine State.resetCell_within pregs pq91 prk pscan pest ?_
    exact h2

theorem execStateJournalInterval_within {s : State} (pregs : Part.regs ∈ T) (pq91 : Part.q91 ∈ T) (prk : Part.rk ∈ T) (pscan : Part.scan ∈ T) (pest : Part.est ∈ T) (h0' : Within T s0 s) : ∃ u', (execStateJournalInterval s) = .next u' ∧ Within T s0 u' := by
  unfold execStateJournalInterval
  refine ⟨_, rfl, ?_⟩
  refine State.journal_within pregs pq91 prk pscan pest ?_
  exact h0'

theorem execWriteNow_within {who : Initiator} {s : State} (pregs : Part.regs ∈ T) (paccErr : Part.accErr ∈ T) (pq91 : Part.q91 ∈ T) (phost : Part.host ∈ T) (prk : Part.rk ∈ T) (pscan : Part.scan ∈ T) (pest : Part.est ∈ T) (h1' : Within T s0 s) : ∃ u', (execWriteNow who s) = .next u' ∧ Within T s0 u' := by
  unfold execWriteNow
  refine ⟨_, rfl, ?_⟩
  refine State.asWrite_within pregs paccErr pq91 phost ?_ ?_
  · exact h1'
  · intro s1 h2
    refine State.journalBoth_within pregs pq91 prk pscan pest ?_
    exact h2

theorem State.deferredJournals_within {s : State} (pregs : Part.regs ∈ T) (pq91 : Part.q91 ∈ T) (prk : Part.rk ∈ T) (pscan : Part.scan ∈ T) (pest : Part.est ∈ T) (h0' : Within T s0 s) : Within T s0 (State.deferredJournals s) := by
  unfold State.deferredJournals
  extract_lets s1 s2
  rename_i s3
  have h4 : Within T s0 s3 := by
    unfold s3
    refine State.wrB_within pregs ?_
    exact within_upd h0' (est := .inl pest)
  clear_value s1 s2 s3
  refine within_foldl ?_ ?_
  · exact h4
  · intro s5 x6 h7
    refine State.journal_within pregs pq91 prk pscan pest ?_
    exact h7

/-! ## Image -/

theorem State.renewJournal_within {s : State} {j : ℕ} {slots : List (ℕ × JSlot)} {format : ℕ} (pest : Part.est ∈ T) (h0' : Within T s0 s) : Within T s0 (State.renewJournal s j slots format) := by
  unfold State.renewJournal
  extract_lets s1
  clear_value s1
  split
  · rename_i x2
    exact h0'
  · rename_i x3 x4
    refine State.setSlot_within pest ?_
    exact h0'

theorem State.renewItem_within {s : State} {b : Backup} {k : ℕ} {format : ℕ} (pest : Part.est ∈ T) (ptele : Part.tele ∈ T) (pnvm : Part.nvm ∈ T) (h0' : Within T s0 s) : Within T s0 (State.renewItem s b k format) := by
  unfold State.renewItem
  extract_lets s1
  rename_i s2 x3 x4
  have h5 : Within T s0 s2 := by
    unfold s2
    exact within_upd h0' (nvm := .inl pnvm)
  clear_value s1 s2 x3 x4
  split
  · rename_i x6
    refine State.renewJournal_within pest ?_
    exact h5
  · rename_i x7
    refine State.renewJournal_within pest ?_
    exact h5
  · rename_i x8
    exact within_upd h5 (tele := .inl ptele)
  · rename_i x9
    exact within_upd h5 (nvm := .inl pnvm)
  · rename_i x10
    exact within_upd h5 (nvm := .inl pnvm)
  · rename_i x11 e12 e13 e14 e15 e16
    exact h5

theorem State.migrateFram_within {s : State} (pregs : Part.regs ∈ T) (pq91 : Part.q91 ∈ T) (prk : Part.rk ∈ T) (pscan : Part.scan ∈ T) (pest : Part.est ∈ T) (ptele : Part.tele ∈ T) (pnvm : Part.nvm ∈ T) (h0' : Within T s0 s) : Within T s0 (State.migrateFram s) := by
  unfold State.migrateFram
  extract_lets s1
  rename_i x2 x3 s4 s5
  have h6 : Within T s0 s4 := by
    unfold s4
    exact within_upd h0' (nvm := .inl pnvm)
  have h7 : Within T s0 s5 := by
    unfold s5
    refine within_foldl ?_ ?_
    · exact h6
    · intro s8 x9 h10
      refine State.renewItem_within pest ptele pnvm ?_
      exact h10
  clear_value s1 x2 x3 s4 s5
  refine within_ite ?_ ?_
  · exact h0'
  · refine State.raise_within pregs pq91 prk pscan ?_
    refine State.wrB_within pregs ?_
    exact h7

theorem State.restoreBackup_within {s : State} (pest : Part.est ∈ T) (ptele : Part.tele ∈ T) (pnvm : Part.nvm ∈ T) (h0' : Within T s0 s) : Within T s0 (State.restoreBackup s) := by
  unfold State.restoreBackup
  split
  · rename_i x1 e2
    exact h0'
  · rename_i x3 x4 e5
    extract_lets s6
    rename_i x7
    have h8 : Within T s0 s6 := by
      unfold s6
      refine within_foldl ?_ ?_
      · exact h0'
      · intro s9 x10 h11
        refine State.renewItem_within pest ptele pnvm ?_
        exact h11
    clear_value s6 x7
    exact within_upd h8 (nvm := .inl pnvm)

theorem State.setImage_within {s : State} {k : ℕ} {x : ImageSlot} (pnvm : Part.nvm ∈ T) (h0' : Within T s0 s) : Within T s0 (State.setImage s k x) := by
  unfold State.setImage
  exact within_upd h0' (nvm := .inl pnvm)

theorem State.showEntry_within {s : State} {slot : ℕ} {seq : ℕ} (pregs : Part.regs ∈ T) (h0' : Within T s0 s) : Within T s0 (State.showEntry s slot seq) := by
  unfold State.showEntry
  refine State.wr_within pregs ?_
  refine State.wrB_within pregs ?_
  refine State.wr_within pregs ?_
  exact h0'

theorem State.showSlot_within {s : State} {k : ℕ} (pregs : Part.regs ∈ T) (h0' : Within T s0 s) : Within T s0 (State.showSlot s k) := by
  unfold State.showSlot
  extract_lets s1
  clear_value s1
  refine within_ite ?_ ?_
  · exact h0'
  · refine State.wr_within pregs ?_
    refine State.wr_within pregs ?_
    refine State.wr_within pregs ?_
    refine State.wr_within pregs ?_
    exact h0'

theorem State.storeEntry_within {s : State} {format : ℕ} (pregs : Part.regs ∈ T) (pnvm : Part.nvm ∈ T) (h0' : Within T s0 s) : Within T s0 (State.storeEntry s format) := by
  unfold State.storeEntry
  extract_lets s1 s2 s3 s4
  rename_i x5
  have h6 : Within T s0 s4 := by
    unfold s4
    refine within_foldl ?_ ?_
    · exact h0'
    · intro s7 x8 h9
      refine State.erase_within pregs pnvm ?_
      exact h9
  clear_value s1 s2 s3 s4 x5
  refine State.showEntry_within pregs ?_
  refine State.wr_within pregs ?_
  exact within_upd h6 (nvm := .inl pnvm)

theorem State.storeLregs_within {s : State} (pnvm : Part.nvm ∈ T) (h0' : Within T s0 s) : Within T s0 (State.storeLregs s) := by
  unfold State.storeLregs
  extract_lets s1 s2 s3
  rename_i x4
  clear_value s1 s2 s3 x4
  exact within_upd h0' (nvm := .inl pnvm)

theorem State.takeWords_within {s : State} {p : FieldDef → Bool} {l : List (ℕ × Word)} (pregs : Part.regs ∈ T) (h0' : Within T s0 s) : Within T s0 (State.takeWords s p l) := by
  unfold State.takeWords
  refine within_foldl ?_ ?_
  · exact h0'
  · intro s1 x2 h3
    split
    rename_i x4 x5 x6
    split
    · rename_i x7 e8
      exact h3
    · rename_i x9 x10 e11
      refine State.setWord_within pregs ?_
      exact h3

/-! ## ThermFam -/

theorem State.coolLasts_within {s : State} {k : ℕ} (pregs : Part.regs ∈ T) (pshadow : Part.shadow ∈ T) (pout : Part.out ∈ T) (pcrown : Part.crown ∈ T) (pstg : Part.stg ∈ T) (pq91 : Part.q91 ∈ T) (ppwm : Part.pwm ∈ T) (ploop : Part.loop ∈ T) (ptrack : Part.track ∈ T) (pprot : Part.prot ∈ T) (prk : Part.rk ∈ T) (pscan : Part.scan ∈ T) (pimp : Part.imp ∈ T) (pest : Part.est ∈ T) (ptmx : Part.tmx ∈ T) (pringSt : Part.ringSt ∈ T) (pbal : Part.bal ∈ T) (ptele : Part.tele ∈ T) (pnvm : Part.nvm ∈ T) (ppair : Part.pair ∈ T) (h0' : Within T s0 s) : Within T s0 (State.coolLasts s k) := by
  unfold State.coolLasts
  extract_lets s1 s2
  have h3 : Within T s0 s2 := by
    unfold s2
    refine State.lasting_within pregs ?_
    refine State.raise_within pregs pq91 prk pscan ?_
    refine State.wrBit_within pregs ?_
    exact h0'
  clear_value s1 s2
  refine State.react_within pregs pshadow pout pcrown pstg pq91 ppwm ploop ptrack pprot prk pscan pimp pest ptmx pringSt pbal ptele pnvm ppair ?_
  refine State.addCond_within pregs pprot ?_
  exact h3

theorem State.judgeFan_within {s : State} {k : ℕ} {pass : Bool} (pregs : Part.regs ∈ T) (pshadow : Part.shadow ∈ T) (pout : Part.out ∈ T) (pcrown : Part.crown ∈ T) (pstg : Part.stg ∈ T) (pq91 : Part.q91 ∈ T) (ppwm : Part.pwm ∈ T) (ploop : Part.loop ∈ T) (ptrack : Part.track ∈ T) (pprot : Part.prot ∈ T) (prk : Part.rk ∈ T) (pscan : Part.scan ∈ T) (pimp : Part.imp ∈ T) (pest : Part.est ∈ T) (ptmx : Part.tmx ∈ T) (pringSt : Part.ringSt ∈ T) (pbal : Part.bal ∈ T) (ptherm : Part.therm ∈ T) (ptele : Part.tele ∈ T) (pnvm : Part.nvm ∈ T) (ppair : Part.pair ∈ T) (h0' : Within T s0 s) : Within T s0 (State.judgeFan s k pass) := by
  unfold State.judgeFan
  extract_lets s1
  rename_i s2
  have h3 : Within T s0 s2 := by
    unfold s2
    refine State.setCool_within ptherm ?_
    exact h0'
  clear_value s1 s2
  refine within_ite ?_ ?_
  · refine within_ite ?_ ?_
    · refine State.clearCond_within pregs pprot ?_
      refine State.wrBit_within pregs ?_
      refine State.setCool_within ptherm ?_
      exact h0'
    · exact h0'
  · split
    · rename_i x4 e5
      refine within_ite ?_ ?_
      · exact h0'
      · refine State.setCool_within ptherm ?_
        exact h0'
    · rename_i x6 x7 e8
      refine within_ite ?_ ?_
      · exact h0'
      · refine within_ite ?_ ?_
        · refine State.retryPass_within pregs pq91 ?_
          exact h3
        · refine State.coolLasts_within pregs pshadow pout pcrown pstg pq91 ppwm ploop ptrack pprot prk pscan pimp pest ptmx pringSt pbal ptele pnvm ppair ?_
          exact h3

theorem execTachCheck_within {k : Fin 4} {pulses : ℕ} {s : State} (pregs : Part.regs ∈ T) (pshadow : Part.shadow ∈ T) (pout : Part.out ∈ T) (pcrown : Part.crown ∈ T) (pstg : Part.stg ∈ T) (pq91 : Part.q91 ∈ T) (ppwm : Part.pwm ∈ T) (ploop : Part.loop ∈ T) (ptrack : Part.track ∈ T) (pprot : Part.prot ∈ T) (prk : Part.rk ∈ T) (pscan : Part.scan ∈ T) (pimp : Part.imp ∈ T) (pest : Part.est ∈ T) (ptmx : Part.tmx ∈ T) (pringSt : Part.ringSt ∈ T) (pbal : Part.bal ∈ T) (ptherm : Part.therm ∈ T) (ptele : Part.tele ∈ T) (pnvm : Part.nvm ∈ T) (ppair : Part.pair ∈ T) (h2' : Within T s0 s) : ∃ u', (execTachCheck k pulses s) = .next u' ∧ Within T s0 u' := by
  unfold execTachCheck
  extract_lets s1 s2 s3 s4 s5
  have h6 : Within T s0 s3 := by
    unfold s3
    refine State.wr_within pregs ?_
    exact h2'
  clear_value s1 s2 s3 s4 s5
  refine out_ite ?_ ?_
  · refine ⟨_, rfl, ?_⟩
    exact h6
  · refine ⟨_, rfl, ?_⟩
    refine State.judgeFan_within pregs pshadow pout pcrown pstg pq91 ppwm ploop ptrack pprot prk pscan pimp pest ptmx pringSt pbal ptherm ptele pnvm ppair ?_
    exact h6

theorem State.clearCool_within {s : State} {mask : ℕ} (ptherm : Part.therm ∈ T) (h0' : Within T s0 s) : Within T s0 (State.clearCool s mask) := by
  unfold State.clearCool
  refine within_foldl ?_ ?_
  · exact h0'
  · intro s1 x2 h3
    refine within_ite ?_ ?_
    · refine State.setCool_within ptherm ?_
      exact h3
    · exact h3

theorem execThermClrFault_within {who : Initiator} {mask : BitVec 6} {s : State} (pregs : Part.regs ∈ T) (paccErr : Part.accErr ∈ T) (pq91 : Part.q91 ∈ T) (phost : Part.host ∈ T) (ptherm : Part.therm ∈ T) (h2' : Within T s0 s) : ∃ u', (execThermClrFault who mask s) = .next u' ∧ Within T s0 u' := by
  unfold execThermClrFault
  refine ⟨_, rfl, ?_⟩
  refine State.asWrite_within pregs paccErr pq91 phost ?_ ?_
  · exact h2'
  · intro s1 h2
    refine State.clearCool_within ptherm ?_
    exact h2

theorem State.takeNtc_within {s : State} {n : ℕ} {r : Option ℕ} (pregs : Part.regs ∈ T) (ptherm : Part.therm ∈ T) (h0' : Within T s0 s) : Within T s0 (State.takeNtc s n r) := by
  unfold State.takeNtc
  extract_lets s1 s2
  rename_i x3 x4 s5
  have h6 : Within T s0 s5 := by
    unfold s5
    exact within_upd h0' (therm := .inl ptherm)
  clear_value s1 s2 x3 x4 s5
  refine within_ite ?_ ?_
  · refine State.wrI_within pregs ?_
    exact h0'
  · split
    · rename_i x7 x8
      refine State.wrI_within pregs ?_
      exact within_upd h0' (therm := .inl ptherm)
    · rename_i x9
      refine within_ite ?_ ?_
      · refine State.wrI_within pregs ?_
        exact h6
      · exact h6

theorem State.norWindow_within {s : State} (pregs : Part.regs ∈ T) (pq91 : Part.q91 ∈ T) (prk : Part.rk ∈ T) (pscan : Part.scan ∈ T) (ptherm : Part.therm ∈ T) (h0' : Within T s0 s) : Within T s0 (State.norWindow s) := by
  unfold State.norWindow
  extract_lets s1 s2 s3 s4 s5
  rename_i s6 x7 x8 s9
  have h10 : Within T s0 s6 := by
    unfold s6
    exact within_upd h0' (therm := .inl ptherm)
  have h11 : Within T s0 s9 := by
    unfold s9
    refine within_ite ?_ ?_
    · exact within_upd h10 (therm := .inl ptherm)
    · exact h10
  clear_value s1 s2 s3 s4 s5 s6 x7 x8 s9
  refine within_ite ?_ ?_
  · refine within_ite ?_ ?_
    · exact h10
    · refine State.raise_within pregs pq91 prk pscan ?_
      refine State.wrB_within pregs ?_
      exact h10
  · refine within_ite ?_ ?_
    · refine State.raise_within pregs pq91 prk pscan ?_
      refine State.wrB_within pregs ?_
      exact h11
    · exact h11

theorem State.updateCool_within {s : State} {k : ℕ} (ptherm : Part.therm ∈ T) (h0' : Within T s0 s) : Within T s0 (State.updateCool s k) := by
  unfold State.updateCool
  extract_lets s1 s2 s3
  clear_value s1 s2 s3
  refine State.setCool_within ptherm ?_
  exact h0'

theorem execThermalUpdate_within {ntc : List (Option ℕ)} {board : List ℤ} {s : State} (pregs : Part.regs ∈ T) (pq91 : Part.q91 ∈ T) (prk : Part.rk ∈ T) (pscan : Part.scan ∈ T) (ptherm : Part.therm ∈ T) (h2' : Within T s0 s) : ∃ u', (execThermalUpdate ntc board s) = .next u' ∧ Within T s0 u' := by
  unfold execThermalUpdate
  refine out_ite ?_ ?_
  · refine ⟨_, rfl, ?_⟩
    exact h2'
  · extract_lets s1 s2 s3
    have h4 : Within T s0 s1 := by
      unfold s1
      refine within_foldl ?_ ?_
      · exact h2'
      · intro s5 x6 h7
        split
        rename_i x8 x9 x10
        refine State.takeNtc_within pregs ptherm ?_
        exact h7
    clear_value s2
    have h11 : Within T s0 s3 := by
      unfold s3
      refine State.wrI_within pregs ?_
      refine State.wrI_within pregs ?_
      refine State.wrI_within pregs ?_
      refine State.wrI_within pregs ?_
      exact h4
    clear_value s1 s3
    refine ⟨_, rfl, ?_⟩
    refine State.norWindow_within pregs pq91 prk pscan ptherm ?_
    refine State.driveCool_within pregs ?_
    refine within_foldl ?_ ?_
    · exact h11
    · intro s12 x13 h14
      refine State.updateCool_within ptherm ?_
      exact h14

theorem State.toStage_within {s : State} {n : ℕ} {t : ℤ} (pregs : Part.regs ∈ T) (pq91 : Part.q91 ∈ T) (prk : Part.rk ∈ T) (pscan : Part.scan ∈ T) (ptherm : Part.therm ∈ T) (h0' : Within T s0 s) : Within T s0 (State.toStage s n t) := by
  unfold State.toStage
  extract_lets s1 s2 s3 s4
  rename_i x5
  have h6 : Within T s0 s2 := by
    unfold s2
    refine within_ite ?_ ?_
    · exact h0'
    · refine State.raise_within pregs pq91 prk pscan ?_
      refine State.wrB_within pregs ?_
      exact h0'
  have h7 : Within T s0 s3 := by
    unfold s3
    refine State.wr_within pregs ?_
    exact h6
  have h8 : Within T s0 s4 := by
    unfold s4
    refine State.wr_within pregs ?_
    exact h7
  clear_value s1 s2 s3 s4 x5
  exact within_upd h8 (therm := .inl ptherm)

theorem execTjReading_within {t : ℤ} {sensorFault : Bool} {s : State} (pregs : Part.regs ∈ T) (pshadow : Part.shadow ∈ T) (pout : Part.out ∈ T) (pcrown : Part.crown ∈ T) (pstg : Part.stg ∈ T) (pq91 : Part.q91 ∈ T) (ppwm : Part.pwm ∈ T) (ploop : Part.loop ∈ T) (ptrack : Part.track ∈ T) (pprot : Part.prot ∈ T) (prk : Part.rk ∈ T) (pscan : Part.scan ∈ T) (pimp : Part.imp ∈ T) (pest : Part.est ∈ T) (ptmx : Part.tmx ∈ T) (pringSt : Part.ringSt ∈ T) (pbal : Part.bal ∈ T) (ptherm : Part.therm ∈ T) (ptele : Part.tele ∈ T) (pnvm : Part.nvm ∈ T) (ppair : Part.pair ∈ T) (h2' : Within T s0 s) : ∃ u', (execTjReading t sensorFault s) = .next u' ∧ Within T s0 u' := by
  unfold execTjReading
  refine out_ite ?_ ?_
  · refine ⟨_, rfl, ?_⟩
    exact h2'
  · extract_lets s1 s2 s3 s4 s5 s6 s7
    rename_i x8 s9 x10 x11 s12 s13
    have h14 : Within T s0 s3 := by
      unfold s3
      refine State.wrI_within pregs ?_
      exact h2'
    have h15 : Within T s0 s7 := by
      unfold s7
      exact within_upd h14 (therm := .inl ptherm)
    have h16 : Within T s0 s9 := by
      unfold s9
      refine State.raise_within pregs pq91 prk pscan ?_
      refine State.toStage_within pregs pq91 prk pscan ptherm ?_
      exact h15
    have h17 : Within T s0 s12 := by
      unfold s12
      exact within_upd h15 (therm := .inl ptherm)
    have h18 : Within T s0 s13 := by
      unfold s13
      refine State.raise_within pregs pq91 prk pscan ?_
      refine State.toStage_within pregs pq91 prk pscan ptherm ?_
      exact h17
    clear_value s1 s2 s3 s4 s5 s6 s7 x8 s9 x10 x11 s12 s13
    refine out_ite ?_ ?_
    · refine ⟨_, rfl, ?_⟩
      refine within_ite ?_ ?_
      · refine State.react_within pregs pshadow pout pcrown pstg pq91 ppwm ploop ptrack pprot prk pscan pimp pest ptmx pringSt pbal ptele pnvm ppair ?_
        refine State.addCond_within pregs pprot ?_
        exact h16
      · exact h16
    · split
      · rename_i x19 x20
        refine out_ite ?_ ?_
        · refine ⟨_, rfl, ?_⟩
          refine within_ite ?_ ?_
          · refine State.clearCond_within pregs pprot ?_
            exact h18
          · exact h18
        · refine ⟨_, rfl, ?_⟩
          exact h17
      · rename_i x21
        refine ⟨_, rfl, ?_⟩
        exact h17

/-! ## TelemFam -/

theorem State.showCounters_within {s : State} (pregs : Part.regs ∈ T) (h0' : Within T s0 s) : Within T s0 (State.showCounters s) := by
  unfold State.showCounters
  refine within_foldl ?_ ?_
  · exact h0'
  · intro s1 x2 h3
    split
    rename_i x4 x5 x6
    refine State.wr_within pregs ?_
    refine State.wr_within pregs ?_
    exact h3

theorem State.cntReset_within {s : State} {who : Initiator} (pregs : Part.regs ∈ T) (pq91 : Part.q91 ∈ T) (ptele : Part.tele ∈ T) (h0' : Within T s0 s) : Within T s0 (State.cntReset s who) := by
  unfold State.cntReset
  extract_lets s1 s2
  rename_i x3
  have h4 : Within T s0 s2 := by
    unfold s2
    refine State.record_within pq91 ?_
    exact h0'
  clear_value s1 s2 x3
  refine within_ite ?_ ?_
  · refine State.counterSlot_within ptele ?_
    refine State.showCounters_within pregs ?_
    exact within_upd h4 (tele := .inl ptele)
  · exact h4

theorem execCntReset_within {who : Initiator} {s : State} (pregs : Part.regs ∈ T) (paccErr : Part.accErr ∈ T) (pq91 : Part.q91 ∈ T) (phost : Part.host ∈ T) (ptele : Part.tele ∈ T) (h1' : Within T s0 s) : ∃ u', (execCntReset who s) = .next u' ∧ Within T s0 u' := by
  unfold execCntReset
  refine ⟨_, rfl, ?_⟩
  refine State.asWrite_within pregs paccErr pq91 phost ?_ ?_
  · exact h1'
  · intro s1 h2
    refine State.crossing_within phost ?_ ?_
    · exact h2
    · intro s3 h4
      refine State.cntReset_within pregs pq91 ptele ?_
      exact h4

theorem State.readCounterLo_within {s : State} {k : ℕ} (preadData : Part.readData ∈ T) (ptele : Part.tele ∈ T) (h0' : Within T s0 s) : Within T s0 (State.readCounterLo s k) := by
  unfold State.readCounterLo
  exact within_upd h0' (readData := .inl preadData) (tele := .inl ptele)

theorem execCounterLoRead_within {who : Initiator} {k : Fin 4} {s : State} (pregs : Part.regs ∈ T) (paccErr : Part.accErr ∈ T) (preadData : Part.readData ∈ T) (pq91 : Part.q91 ∈ T) (phost : Part.host ∈ T) (ptele : Part.tele ∈ T) (h2' : Within T s0 s) : ∃ u', (execCounterLoRead who k s) = .next u' ∧ Within T s0 u' := by
  unfold execCounterLoRead
  refine ⟨_, rfl, ?_⟩
  refine State.asRead_within pregs paccErr preadData pq91 phost ?_ ?_
  · exact h2'
  · intro s1 h2
    refine State.readCounterLo_within preadData ptele ?_
    exact h2

theorem execCounterSlotInterval_within {s : State} (ptele : Part.tele ∈ T) (h0' : Within T s0 s) : ∃ u', (execCounterSlotInterval s) = .next u' ∧ Within T s0 u' := by
  unfold execCounterSlotInterval
  refine ⟨_, rfl, ?_⟩
  refine State.counterSlot_within ptele ?_
  exact h0'

theorem execDeferredWrite_within {s : State} (pregs : Part.regs ∈ T) (pq91 : Part.q91 ∈ T) (prk : Part.rk ∈ T) (pscan : Part.scan ∈ T) (pest : Part.est ∈ T) (ptele : Part.tele ∈ T) (pnvm : Part.nvm ∈ T) (h0' : Within T s0 s) : ∃ u', (execDeferredWrite s) = .next u' ∧ Within T s0 u' := by
  unfold execDeferredWrite
  refine out_ite ?_ ?_
  · refine ⟨_, rfl, ?_⟩
    exact h0'
  · extract_lets s1 s2
    have h3 : Within T s0 s1 := by
      unfold s1
      refine State.deferredJournals_within pregs pq91 prk pscan pest ?_
      exact h0'
    have h4 : Within T s0 s2 := by
      unfold s2
      refine within_ite ?_ ?_
      · refine State.counterSlot_within ptele ?_
        exact h3
      · exact h3
    clear_value s1 s2
    refine ⟨_, rfl, ?_⟩
    refine within_ite ?_ ?_
    · refine State.retainSlot_within pscan pnvm ?_
      exact h4
    · exact h4

theorem State.clearPeaks_within {s : State} {mask : ℕ} (pregs : Part.regs ∈ T) (h0' : Within T s0 s) : Within T s0 (State.clearPeaks s mask) := by
  unfold State.clearPeaks
  refine within_foldl ?_ ?_
  · exact h0'
  · intro s1 x2 h3
    refine within_ite ?_ ?_
    · refine State.wr_within pregs ?_
      refine State.wr_within pregs ?_
      exact h3
    · exact h3

theorem execPkClr_within {who : Initiator} {mask : BitVec 6} {s : State} (pregs : Part.regs ∈ T) (paccErr : Part.accErr ∈ T) (pq91 : Part.q91 ∈ T) (phost : Part.host ∈ T) (h2' : Within T s0 s) : ∃ u', (execPkClr who mask s) = .next u' ∧ Within T s0 u' := by
  unfold execPkClr
  refine ⟨_, rfl, ?_⟩
  refine State.asWrite_within pregs paccErr pq91 phost ?_ ?_
  · exact h2'
  · intro s1 h2
    refine State.crossing_within phost ?_ ?_
    · exact h2
    · intro s3 h4
      refine State.clearPeaks_within pregs ?_
      exact h4

theorem State.reduce_within {s : State} {n : ℕ} {q : ℕ} {x : Reduced} (pregs : Part.regs ∈ T) (h0' : Within T s0 s) : Within T s0 (State.reduce s n q x) := by
  unfold State.reduce
  extract_lets s1 s2 s3
  have h4 : Within T s0 s1 := by
    unfold s1
    refine State.wrI_within pregs ?_
    exact h0'
  have h5 : Within T s0 s2 := by
    unfold s2
    refine State.wr_within pregs ?_
    exact h4
  have h6 : Within T s0 s3 := by
    unfold s3
    refine State.wrI_within pregs ?_
    refine State.wrI_within pregs ?_
    exact h5
  clear_value s1 s2 s3
  refine State.wrI_within pregs ?_
  refine State.wrI_within pregs ?_
  exact h6

theorem execTelemWindowEnd_within {n : ℕ} {sec : ℕ} {ns : ℕ} {frac : ℕ} {q : List Reduced} {charge : List ℕ} {clipped : Bool} {stepped : Bool} {s : State} (pregs : Part.regs ∈ T) (pq91 : Part.q91 ∈ T) (prk : Part.rk ∈ T) (pscan : Part.scan ∈ T) (peng : Part.eng ∈ T) (ptele : Part.tele ∈ T) (h8' : Within T s0 s) : ∃ u', (execTelemWindowEnd n sec ns frac q charge clipped stepped s) = .next u' ∧ Within T s0 u' := by
  unfold execTelemWindowEnd
  refine out_ite ?_ ?_
  · refine ⟨_, rfl, ?_⟩
    exact h8'
  · extract_lets s1 s2 s3 s4 s5 s6 s7 s8 s9 s10 s11
    rename_i x12
    clear_value s1
    have h13 : Within T s0 s4 := by
      unfold s4
      exact within_upd h8' (tele := .inl ptele)
    have h14 : Within T s0 s5 := by
      unfold s5
      refine within_foldl ?_ ?_
      · refine State.showCounters_within pregs ?_
        exact h13
      · intro s15 x16 h17
        split
        rename_i x18 x19 x20
        refine State.reduce_within pregs ?_
        exact h17
    have h21 : Within T s0 s6 := by
      unfold s6
      refine State.raise_within pregs pq91 prk pscan ?_
      refine State.wr_within pregs ?_
      refine State.wrB_within pregs ?_
      exact h14
    have h22 : Within T s0 s7 := by
      unfold s7
      refine within_ite ?_ ?_
      · refine State.raise_within pregs pq91 prk pscan ?_
        exact h21
      · exact h21
    have h23 : Within T s0 s8 := by
      unfold s8
      refine within_ite ?_ ?_
      · refine State.raise_within pregs pq91 prk pscan ?_
        exact h22
      · exact h22
    have h24 : Within T s0 s9 := by
      unfold s9
      refine within_ite ?_ ?_
      · split
        rename_i s25 s26 x27 e28
        have h29 : Within T s0 s26 := by
          refine within_of_fst e28 ?_
          refine State.push_within pregs pq91 prk pscan peng ?_
          exact h23
        refine within_ite ?_ ?_
        · exact h29
        · refine State.raise_within pregs pq91 prk pscan ?_
          refine State.bump_within pregs ?_
          exact h29
      · exact h23
    clear_value s2 s3 s4 s5 s6 s7 s8 s9 s10 s11 x12
    refine ⟨_, rfl, ?_⟩
    exact within_upd h24 (tele := .inl ptele)

theorem State.restoreCounters_within {s : State} (pregs : Part.regs ∈ T) (pq91 : Part.q91 ∈ T) (prk : Part.rk ∈ T) (pscan : Part.scan ∈ T) (ptele : Part.tele ∈ T) (h0' : Within T s0 s) : Within T s0 (State.restoreCounters s) := by
  unfold State.restoreCounters
  extract_lets s1 s2 s3 s4 s5
  rename_i s6
  clear_value s4
  have h7 : Within T s0 s6 := by
    unfold s6
    exact within_upd h0' (tele := .inl ptele)
  clear_value s1 s2 s3 s5 s6
  refine State.raise_within pregs pq91 prk pscan ?_
  refine State.wrB_within pregs ?_
  refine State.showCounters_within pregs ?_
  exact h7

/-! ## Power -/

theorem State.restartPhases_within {s : State} (ppwm : Part.pwm ∈ T) (h0' : Within T s0 s) : Within T s0 (State.restartPhases s) := by
  unfold State.restartPhases
  refine within_ite ?_ ?_
  · refine within_foldl ?_ ?_
    · exact h0'
    · intro s1 x2 h3
      refine State.setPhase_within ppwm ?_
      exact h3
  · exact h0'

theorem State.burstBegin_within {s : State} (pregs : Part.regs ∈ T) (ppwm : Part.pwm ∈ T) (h0' : Within T s0 s) : Within T s0 (State.burstBegin s) := by
  unfold State.burstBegin
  extract_lets s1 s2 s3 s4
  rename_i s5
  have h6 : Within T s0 s2 := by
    unfold s2
    refine State.wr_within pregs ?_
    refine State.restartPhases_within ppwm ?_
    exact h0'
  have h7 : Within T s0 s4 := by
    unfold s4
    exact within_upd h6 (pwm := .inl ppwm)
  have h8 : Within T s0 s5 := by
    unfold s5
    refine within_foldl ?_ ?_
    · exact h7
    · intro s9 x10 h11
      refine State.wrB_within pregs ?_
      exact h11
  clear_value s1 s2 s3 s4 s5
  refine State.wrB_within pregs ?_
  exact h8

theorem execBurstOffEnd_within {s : State} (pregs : Part.regs ∈ T) (ppwm : Part.pwm ∈ T) (h0' : Within T s0 s) : ∃ u', (execBurstOffEnd s) = .next u' ∧ Within T s0 u' := by
  unfold execBurstOffEnd
  refine out_ite ?_ ?_
  · refine ⟨_, rfl, ?_⟩
    refine State.burstBegin_within pregs ppwm ?_
    exact h0'
  · refine ⟨_, rfl, ?_⟩
    exact h0'

theorem execCbcTrip_within {n : Fin 16} {positive : Bool} {input : ComparatorInput} {s : State} (pregs : Part.regs ∈ T) (pq91 : Part.q91 ∈ T) (ppwm : Part.pwm ∈ T) (prk : Part.rk ∈ T) (pscan : Part.scan ∈ T) (pimp : Part.imp ∈ T) (h3' : Within T s0 s) : ∃ u', (execCbcTrip n positive input s) = .next u' ∧ Within T s0 u' := by
  unfold execCbcTrip
  extract_lets s1 s2
  rename_i x3 x4 x5 x6 s7 s8 s9 x10 s11
  have h12 : Within T s0 s7 := by
    unfold s7
    refine within_ite ?_ ?_
    · refine State.bump_within pregs ?_
      exact h3'
    · exact h3'
  have h13 : Within T s0 s8 := by
    unfold s8
    refine State.wrB_within pregs ?_
    exact h12
  have h14 : Within T s0 s9 := by
    unfold s9
    refine State.setPhase_within ppwm ?_
    exact h13
  have h15 : Within T s0 s11 := by
    unfold s11
    refine within_ite ?_ ?_
    · exact within_upd h14 (imp := .inl pimp)
    · exact h14
  clear_value s1 s2 x3 x4 x6 s7 s8 s9 x10 s11
  refine out_ite ?_ ?_
  · refine ⟨_, rfl, ?_⟩
    exact h3'
  · refine ⟨_, rfl, ?_⟩
    refine within_ite ?_ ?_
    · refine State.raise_within pregs pq91 prk pscan ?_
      refine State.raise_within pregs pq91 prk pscan ?_
      exact h15
    · exact h15

theorem execCentreTakeup_within {n : Fin 16} {s : State} (ppwm : Part.pwm ∈ T) (h1' : Within T s0 s) : ∃ u', (execCentreTakeup n s) = .next u' ∧ Within T s0 u' := by
  unfold execCentreTakeup
  extract_lets s1
  rename_i x2 x3 x4
  clear_value x4
  clear_value s1 x2 x3
  split
  · rename_i x5 e6
    refine ⟨_, rfl, ?_⟩
    exact h1'
  · rename_i x7 x8 e9
    refine out_ite ?_ ?_
    · refine ⟨_, rfl, ?_⟩
      refine State.setPhase_within ppwm ?_
      exact h1'
    · refine ⟨_, rfl, ?_⟩
      refine State.setPhase_within ppwm ?_
      exact h1'

theorem execFaultReturn_within {n : Fin 16} {fault : Bool} {s : State} (pregs : Part.regs ∈ T) (pshadow : Part.shadow ∈ T) (pout : Part.out ∈ T) (pcrown : Part.crown ∈ T) (pstg : Part.stg ∈ T) (pq91 : Part.q91 ∈ T) (ppwm : Part.pwm ∈ T) (ploop : Part.loop ∈ T) (ptrack : Part.track ∈ T) (pprot : Part.prot ∈ T) (prk : Part.rk ∈ T) (pscan : Part.scan ∈ T) (pimp : Part.imp ∈ T) (pest : Part.est ∈ T) (ptmx : Part.tmx ∈ T) (pringSt : Part.ringSt ∈ T) (pbal : Part.bal ∈ T) (ptele : Part.tele ∈ T) (pnvm : Part.nvm ∈ T) (ppair : Part.pair ∈ T) (h2' : Within T s0 s) : ∃ u', (execFaultReturn n fault s) = .next u' ∧ Within T s0 u' := by
  unfold execFaultReturn
  extract_lets s1
  rename_i x2 s3 s4 s5 s6 x7 s8 s9 s10 x11
  have h12 : Within T s0 s3 := by
    unfold s3
    refine State.setRunning_within pregs ?_
    refine State.wrBit_within pregs ?_
    refine State.wr_within pregs ?_
    refine State.wrB_within pregs ?_
    exact h2'
  have h13 : Within T s0 s4 := by
    unfold s4
    refine State.setPhase_within ppwm ?_
    refine State.wrB_within pregs ?_
    exact h12
  have h14 : Within T s0 s5 := by
    unfold s5
    refine within_ite ?_ ?_
    · refine State.wrB_within pregs ?_
      exact h13
    · exact h13
  have h15 : Within T s0 s6 := by
    unfold s6
    refine State.refreshLight_within pregs ?_
    exact h14
  have h16 : Within T s0 s8 := by
    unfold s8
    refine State.refreshGates_within pregs ?_
    exact within_upd h15 (loop := .inl ploop)
  have h17 : Within T s0 s9 := by
    unfold s9
    refine State.raise_within pregs pq91 prk pscan ?_
    refine State.raise_within pregs pq91 prk pscan ?_
    exact h16
  have h18 : Within T s0 s10 := by
    unfold s10
    refine within_ite ?_ ?_
    · refine State.endGateTest_within pregs pq91 ppwm ploop pprot prk pscan ptmx ?_
      exact h17
    · exact h17
  clear_value s1 x2 s3 s4 s5 s6 x7 s8 s9 s10 x11
  refine out_ite ?_ ?_
  · refine ⟨_, rfl, ?_⟩
    refine State.clearCond_within pregs pprot ?_
    refine State.wrB_within pregs ?_
    exact h2'
  · refine ⟨_, rfl, ?_⟩
    refine State.react_within pregs pshadow pout pcrown pstg pq91 ppwm ploop ptrack pprot prk pscan pimp pest ptmx pringSt pbal ptele pnvm ppair ?_
    refine State.lasting_within pregs ?_
    refine State.addCond_within pregs pprot ?_
    exact h18

theorem State.closePeriod_within {s : State} {n : ℕ} (pregs : Part.regs ∈ T) (ppwm : Part.pwm ∈ T) (h0' : Within T s0 s) : Within T s0 (State.closePeriod s n) := by
  unfold State.closePeriod
  extract_lets s1 s2
  have h3 : Within T s0 s2 := by
    unfold s2
    refine State.wrB_within pregs ?_
    refine State.wrB_within pregs ?_
    exact h0'
  clear_value s1 s2
  refine State.setPhase_within ppwm ?_
  exact h3

theorem State.accumulate_within {s : State} {n : ℕ} (ppwm : Part.pwm ∈ T) (ploop : Part.loop ∈ T) (h0' : Within T s0 s) : Within T s0 (State.accumulate s n) := by
  unfold State.accumulate
  extract_lets s1 s2 s3 s4 s5 s6 s7 s8 s9
  rename_i x10
  have h11 : Within T s0 s9 := by
    unfold s9
    refine State.setPhase_within ppwm ?_
    exact h0'
  clear_value s1 s2 s3 s4 s5 s6 s7 s8 s9 x10
  exact within_upd h11 (loop := .inl ploop)

theorem State.stopPhase_within {s : State} {n : ℕ} (pregs : Part.regs ∈ T) (ppwm : Part.pwm ∈ T) (ploop : Part.loop ∈ T) (h0' : Within T s0 s) : Within T s0 (State.stopPhase s n) := by
  unfold State.stopPhase
  extract_lets s1
  rename_i x2 x3
  have h4 : Within T s0 s1 := by
    unfold s1
    refine State.setPhase_within ppwm ?_
    refine State.setRunning_within pregs ?_
    refine State.wrB_within pregs ?_
    refine State.wr_within pregs ?_
    exact h0'
  clear_value s1 x2 x3
  refine State.refreshGates_within pregs ?_
  exact within_upd h4 (pwm := .inl ppwm) (loop := .inl ploop)

theorem State.shedStep_within {s : State} {n : ℕ} (pregs : Part.regs ∈ T) (pq91 : Part.q91 ∈ T) (ppwm : Part.pwm ∈ T) (ploop : Part.loop ∈ T) (prk : Part.rk ∈ T) (pscan : Part.scan ∈ T) (h0' : Within T s0 s) : Within T s0 (State.shedStep s n) := by
  unfold State.shedStep
  extract_lets s1
  rename_i x2
  clear_value s1 x2
  refine within_ite ?_ ?_
  · refine State.setPhase_within ppwm ?_
    refine State.wr_within pregs ?_
    exact h0'
  · refine within_ite ?_ ?_
    · refine within_ite ?_ ?_
      · refine State.raise_within pregs pq91 prk pscan ?_
        refine State.bump_within pregs ?_
        refine State.wrB_within pregs ?_
        refine State.stopPhase_within pregs ppwm ploop ?_
        exact h0'
      · refine State.setPhase_within ppwm ?_
        exact h0'
    · exact h0'

theorem State.beginPhase_within {s : State} {n : ℕ} (pregs : Part.regs ∈ T) (ppwm : Part.pwm ∈ T) (h0' : Within T s0 s) : Within T s0 (State.beginPhase s n) := by
  unfold State.beginPhase
  extract_lets s1
  rename_i x2 s3 x4
  have h5 : Within T s0 s3 := by
    unfold s3
    refine State.setPhase_within ppwm ?_
    refine State.setRunning_within pregs ?_
    refine State.wr_within pregs ?_
    exact h0'
  clear_value s1 x2 s3 x4
  refine within_ite ?_ ?_
  · refine within_ite ?_ ?_
    · refine State.refreshGates_within pregs ?_
      exact h5
    · refine State.refreshGates_within pregs ?_
      exact within_upd h5 (pwm := .inl ppwm)
  · exact h0'

theorem State.takeLight_within {s : State} {n : ℕ} (pregs : Part.regs ∈ T) (ppwm : Part.pwm ∈ T) (ploop : Part.loop ∈ T) (h0' : Within T s0 s) : Within T s0 (State.takeLight s n) := by
  unfold State.takeLight
  extract_lets s1
  clear_value s1
  refine within_ite ?_ ?_
  · refine within_ite ?_ ?_
    · refine State.refreshLight_within pregs ?_
      refine State.setInteg_within pregs ?_
      refine State.setPhase_within ppwm ?_
      refine State.wrB_within pregs ?_
      exact h0'
    · exact h0'
  · refine within_ite ?_ ?_
    · refine State.refreshLight_within pregs ?_
      refine State.presetTo_within ploop ?_
      refine State.setPhase_within ppwm ?_
      refine State.wrB_within pregs ?_
      exact h0'
    · exact h0'

theorem State.takeOffset_within {s : State} {n : ℕ} (pregs : Part.regs ∈ T) (ppwm : Part.pwm ∈ T) (h0' : Within T s0 s) : Within T s0 (State.takeOffset s n) := by
  unfold State.takeOffset
  extract_lets s1
  clear_value s1
  split
  · rename_i x2 e3
    refine State.setPhase_within ppwm ?_
    exact h0'
  · rename_i x4 x5 x6 e7
    extract_lets s8 s9
    clear_value s8 s9
    refine State.setPhase_within ppwm ?_
    refine State.wr_within pregs ?_
    exact h0'

theorem State.periodStart_within {s : State} {n : ℕ} (pregs : Part.regs ∈ T) (pq91 : Part.q91 ∈ T) (ppwm : Part.pwm ∈ T) (ploop : Part.loop ∈ T) (prk : Part.rk ∈ T) (pscan : Part.scan ∈ T) (h0' : Within T s0 s) : Within T s0 (State.periodStart s n) := by
  unfold State.periodStart
  refine within_ite ?_ ?_
  · exact h0'
  · refine within_ite ?_ ?_
    · extract_lets s1
      rename_i x2
      have h3 : Within T s0 s1 := by
        unfold s1
        refine State.closePeriod_within pregs ppwm ?_
        exact h0'
      clear_value s1 x2
      refine State.setPhase_within ppwm ?_
      exact h3
    · extract_lets s4 s5
      rename_i x6 s7
      have h8 : Within T s0 s4 := by
        unfold s4
        refine within_ite ?_ ?_
        · exact h0'
        · refine State.accumulate_within ppwm ploop ?_
          exact h0'
      have h9 : Within T s0 s5 := by
        unfold s5
        refine State.closePeriod_within pregs ppwm ?_
        refine State.shedStep_within pregs pq91 ppwm ploop prk pscan ?_
        refine State.beginPhase_within pregs ppwm ?_
        exact h8
      have h10 : Within T s0 s7 := by
        unfold s7
        refine State.setPhase_within ppwm ?_
        exact h9
      clear_value s4 s5 x6 s7
      refine within_ite ?_ ?_
      · exact h9
      · refine State.computeEdges_within pregs ppwm ?_
        refine State.takeLight_within pregs ppwm ploop ?_
        refine State.takeOffset_within pregs ppwm ?_
        exact h10

theorem execPeriodStart_within {n : Fin 16} {s : State} (pregs : Part.regs ∈ T) (pq91 : Part.q91 ∈ T) (ppwm : Part.pwm ∈ T) (ploop : Part.loop ∈ T) (prk : Part.rk ∈ T) (pscan : Part.scan ∈ T) (h1' : Within T s0 s) : ∃ u', (execPeriodStart n s) = .next u' ∧ Within T s0 u' := by
  unfold execPeriodStart
  refine ⟨_, rfl, ?_⟩
  refine State.periodStart_within pregs pq91 ppwm ploop prk pscan ?_
  exact h1'

theorem State.slotBoundary_within {s : State} (pregs : Part.regs ∈ T) (pout : Part.out ∈ T) (pimp : Part.imp ∈ T) (pharv : Part.harv ∈ T) (ppair : Part.pair ∈ T) (h0' : Within T s0 s) : Within T s0 (State.slotBoundary s) := by
  unfold State.slotBoundary
  extract_lets s1
  rename_i x2 s3 s4 x5 s6
  have h7 : Within T s0 s3 := by
    unfold s3
    exact within_upd h0' (harv := .inl pharv)
  have h8 : Within T s0 s4 := by
    unfold s4
    refine State.wr_within pregs ?_
    exact h7
  have h9 : Within T s0 s6 := by
    unfold s6
    exact within_upd h8 (imp := .inl pimp)
  clear_value s6
  clear_value x5
  clear_value s4
  clear_value x2
  clear_value s1
  refine within_ite ?_ ?_
  · exact within_upd h0' (harv := .inl pharv)
  · refine within_ite ?_ ?_
    · refine State.mirror_within pout ppair ?_
      exact h9
    · exact h7

theorem State.cancelShed_within {s : State} {lock : Bool} (pregs : Part.regs ∈ T) (pq91 : Part.q91 ∈ T) (ppwm : Part.pwm ∈ T) (prk : Part.rk ∈ T) (pscan : Part.scan ∈ T) (h0' : Within T s0 s) : Within T s0 (State.cancelShed s lock) := by
  unfold State.cancelShed
  split
  · rename_i x1 e2
    exact h0'
  · rename_i x3 x4 e5
    extract_lets s6 s7
    rename_i s8
    have h9 : Within T s0 s7 := by
      unfold s7
      refine State.wrB_within pregs ?_
      refine State.setPhase_within ppwm ?_
      exact h0'
    have h10 : Within T s0 s8 := by
      unfold s8
      refine State.raise_within pregs pq91 prk pscan ?_
      refine State.bump_within pregs ?_
      exact h9
    clear_value s6 s7 s8
    refine within_ite ?_ ?_
    · refine State.wrB_within pregs ?_
      exact h10
    · exact h10

theorem State.leaveBurst_within {s : State} (pregs : Part.regs ∈ T) (pq91 : Part.q91 ∈ T) (ppwm : Part.pwm ∈ T) (ploop : Part.loop ∈ T) (prk : Part.rk ∈ T) (pscan : Part.scan ∈ T) (h0' : Within T s0 s) : Within T s0 (State.leaveBurst s) := by
  unfold State.leaveBurst
  extract_lets s1 s2 s3 s4 s5
  rename_i s6 x7
  have h8 : Within T s0 s1 := by
    unfold s1
    refine State.raise_within pregs pq91 prk pscan ?_
    refine State.wr_within pregs ?_
    refine State.restartPhases_within ppwm ?_
    exact h0'
  have h9 : Within T s0 s3 := by
    unfold s3
    exact within_upd h8 (pwm := .inl ppwm)
  have h10 : Within T s0 s4 := by
    unfold s4
    refine State.wrB_within pregs ?_
    exact h9
  have h11 : Within T s0 s5 := by
    unfold s5
    refine within_foldl ?_ ?_
    · exact h10
    · intro s12 x13 h14
      refine State.wrB_within pregs ?_
      exact h14
  have h15 : Within T s0 s6 := by
    unfold s6
    refine State.presetTo_within ploop ?_
    exact h11
  clear_value s1 s2 s3 s4 s5 s6 x7
  exact within_upd h15 (loop := .inl ploop)

theorem State.takeInterlock_within {s : State} (pregs : Part.regs ∈ T) (pout : Part.out ∈ T) (pq91 : Part.q91 ∈ T) (ppwm : Part.pwm ∈ T) (ploop : Part.loop ∈ T) (prk : Part.rk ∈ T) (pscan : Part.scan ∈ T) (pimp : Part.imp ∈ T) (pringSt : Part.ringSt ∈ T) (pbal : Part.bal ∈ T) (h0' : Within T s0 s) : Within T s0 (State.takeInterlock s) := by
  unfold State.takeInterlock
  extract_lets s1 s2 s3
  rename_i x4 x5
  have h6 : Within T s0 s1 := by
    unfold s1
    refine State.cancelShed_within pregs pq91 ppwm prk pscan ?_
    refine State.wrB_within pregs ?_
    exact h0'
  have h7 : Within T s0 s2 := by
    unfold s2
    refine within_ite ?_ ?_
    · refine State.leaveBurst_within pregs pq91 ppwm ploop prk pscan ?_
      exact h6
    · exact h6
  have h8 : Within T s0 s3 := by
    unfold s3
    refine within_ite ?_ ?_
    · refine State.wrB_within pregs ?_
      refine State.balStop_within pregs pout pq91 prk pscan pringSt pbal ?_
      exact h7
    · exact h7
  clear_value s1 s2 s3 x4 x5
  exact within_upd h8 (pwm := .inl ppwm) (imp := .inl pimp)

theorem State.testBoundary_within {s : State} (pregs : Part.regs ∈ T) (ppwm : Part.pwm ∈ T) (ploop : Part.loop ∈ T) (pprot : Part.prot ∈ T) (ptmx : Part.tmx ∈ T) (h0' : Within T s0 s) : Within T s0 (State.testBoundary s) := by
  unfold State.testBoundary
  refine within_ite ?_ ?_
  · extract_lets s1
    rename_i x2
    have h3 : Within T s0 s1 := by
      unfold s1
      refine State.dropEnables_within pregs pprot ?_
      refine State.wrB_within pregs ?_
      refine State.gatesOff_within pregs ppwm ploop ?_
      exact h0'
    clear_value s1 x2
    exact within_upd h3 (tmx := .inl ptmx)
  · refine within_ite ?_ ?_
    · extract_lets s4 s5 s6
      rename_i x7
      have h8 : Within T s0 s6 := by
        unfold s6
        exact within_upd h0' (tmx := .inl ptmx)
      clear_value s4 s5 s6 x7
      refine State.refreshGates_within pregs ?_
      refine within_foldl ?_ ?_
      · exact h8
      · intro s9 x10 h11
        split
        rename_i x12 x13 x14
        refine State.setPhase_within ppwm ?_
        refine State.wr_within pregs ?_
        refine State.setRunning_within pregs ?_
        refine State.wr_within pregs ?_
        exact h11
    · exact h0'

theorem State.burstRest_within {s : State} (pregs : Part.regs ∈ T) (ppwm : Part.pwm ∈ T) (ploop : Part.loop ∈ T) (h0' : Within T s0 s) : Within T s0 (State.burstRest s) := by
  unfold State.burstRest
  extract_lets s1 s2
  rename_i s3 s4
  have h5 : Within T s0 s1 := by
    unfold s1
    refine State.wr_within pregs ?_
    exact h0'
  have h6 : Within T s0 s3 := by
    unfold s3
    exact within_upd h5 (loop := .inl ploop)
  have h7 : Within T s0 s4 := by
    unfold s4
    refine within_foldl ?_ ?_
    · exact h6
    · intro s8 x9 h10
      refine State.setPhase_within ppwm ?_
      exact h10
  clear_value s1 s2 s3 s4
  refine within_foldl ?_ ?_
  · exact h7
  · intro s11 x12 h13
    refine State.wrB_within pregs ?_
    refine State.wrB_within pregs ?_
    exact h13

theorem State.burstBoundary_within {s : State} (pregs : Part.regs ∈ T) (pq91 : Part.q91 ∈ T) (ppwm : Part.pwm ∈ T) (ploop : Part.loop ∈ T) (prk : Part.rk ∈ T) (pscan : Part.scan ∈ T) (h0' : Within T s0 s) : Within T s0 (State.burstBoundary s) := by
  unfold State.burstBoundary
  refine within_ite ?_ ?_
  · refine State.leaveBurst_within pregs pq91 ppwm ploop prk pscan ?_
    exact h0'
  · refine within_ite ?_ ?_
    · refine State.burstBegin_within pregs ppwm ?_
      exact h0'
    · refine within_ite ?_ ?_
      · extract_lets s1 s2
        rename_i s3
        have h4 : Within T s0 s3 := by
          unfold s3
          exact within_upd h0' (pwm := .inl ppwm)
        clear_value s1
        refine within_ite ?_ ?_
        · refine within_ite ?_ ?_
          · refine State.burstBegin_within pregs ppwm ?_
            exact h4
          · refine State.burstRest_within pregs ppwm ploop ?_
            exact h4
        · exact h4
      · refine within_ite ?_ ?_
        · exact within_upd h0' (pwm := .inl ppwm)
        · exact h0'

theorem execPhase0Boundary_within {s : State} (pregs : Part.regs ∈ T) (pout : Part.out ∈ T) (pcrown : Part.crown ∈ T) (pstg : Part.stg ∈ T) (pq91 : Part.q91 ∈ T) (ppwm : Part.pwm ∈ T) (ploop : Part.loop ∈ T) (ptrack : Part.track ∈ T) (pprot : Part.prot ∈ T) (prk : Part.rk ∈ T) (pscan : Part.scan ∈ T) (pimp : Part.imp ∈ T) (pest : Part.est ∈ T) (ptmx : Part.tmx ∈ T) (pringSt : Part.ringSt ∈ T) (pharv : Part.harv ∈ T) (pbal : Part.bal ∈ T) (ptele : Part.tele ∈ T) (pnvm : Part.nvm ∈ T) (ppair : Part.pair ∈ T) (h0' : Within T s0 s) : ∃ u', (execPhase0Boundary s) = .next u' ∧ Within T s0 u' := by
  unfold execPhase0Boundary
  extract_lets s1 s2 s3 s4 s5 s6 s7
  rename_i s8 s9 x10 s11 s12
  have h13 : Within T s0 s5 := by
    unfold s5
    exact within_upd h0' (stg := .inl pstg) (pwm := .inl ppwm) (imp := .inl pimp)
  have h14 : Within T s0 s6 := by
    unfold s6
    refine State.slotBoundary_within pregs pout pimp pharv ppair ?_
    exact h13
  have h15 : Within T s0 s7 := by
    unfold s7
    refine within_ite ?_ ?_
    · refine State.afterGateStop_within pregs pout pcrown pq91 ppwm ploop ptrack pprot prk pscan pest pringSt pbal ptele pnvm ?_
      exact h14
    · exact h14
  have h16 : Within T s0 s8 := by
    unfold s8
    refine within_ite ?_ ?_
    · refine State.takeInterlock_within pregs pout pq91 ppwm ploop prk pscan pimp pringSt pbal ?_
      exact h15
    · exact h15
  have h17 : Within T s0 s9 := by
    unfold s9
    refine State.spread_within ppwm ?_
    exact h16
  have h18 : Within T s0 s11 := by
    unfold s11
    refine within_ite ?_ ?_
    · exact within_upd h17 (pwm := .inl ppwm)
    · exact h16
  have h19 : Within T s0 s12 := by
    unfold s12
    refine State.testBoundary_within pregs ppwm ploop pprot ptmx ?_
    refine State.burstBoundary_within pregs pq91 ppwm ploop prk pscan ?_
    exact h18
  clear_value s1 s2 s3 s4 s5 s6 s7 s8 s9 x10 s11 s12
  refine ⟨_, rfl, ?_⟩
  refine within_ite ?_ ?_
  · refine State.send_within pout ?_
    exact h19
  · exact h19

theorem State.phaseClear_within {s : State} {k : ℕ} (pregs : Part.regs ∈ T) (pprot : Part.prot ∈ T) (h0' : Within T s0 s) : Within T s0 (State.phaseClear s k) := by
  unfold State.phaseClear
  refine within_ite ?_ ?_
  · refine State.clearCond_within pregs pprot ?_
    refine State.wrBit_within pregs ?_
    refine State.wr_within pregs ?_
    exact h0'
  · exact h0'

theorem execPhaseClrFault_within {who : Initiator} {n : Fin 16} {s : State} (pregs : Part.regs ∈ T) (paccErr : Part.accErr ∈ T) (pq91 : Part.q91 ∈ T) (pprot : Part.prot ∈ T) (phost : Part.host ∈ T) (h2' : Within T s0 s) : ∃ u', (execPhaseClrFault who n s) = .next u' ∧ Within T s0 u' := by
  unfold execPhaseClrFault
  refine ⟨_, rfl, ?_⟩
  refine State.asWrite_within pregs paccErr pq91 phost ?_ ?_
  · exact h2'
  · intro s1 h2
    refine State.crossing_within phost ?_ ?_
    · exact h2
    · intro s3 h4
      refine State.phaseClear_within pregs pprot ?_
      exact h4

theorem execShedHoldExpiry_within {s : State} (pregs : Part.regs ∈ T) (h0' : Within T s0 s) : ∃ u', (execShedHoldExpiry s) = .next u' ∧ Within T s0 u' := by
  unfold execShedHoldExpiry
  refine ⟨_, rfl, ?_⟩
  refine State.wrB_within pregs ?_
  exact h0'

/-! ## LoopFam -/

theorem State.evalPhase_within {s : State} {n : ℕ} {y : ℤ} (pregs : Part.regs ∈ T) (ploop : Part.loop ∈ T) (h0' : Within T s0 s) : Within T s0 (State.evalPhase s n y).2 := by
  unfold State.evalPhase
  split
  · rename_i e1
    refine State.evalEnergising_within pregs ploop ?_
    exact h0'
  · rename_i e2
    refine State.evalInner_within pregs ploop ?_
    exact h0'

theorem execInnerSample_within {n : Fin 16} {atStart : Bool} {code : BitVec 16} {late : Bool} {s : State} (pregs : Part.regs ∈ T) (pshadow : Part.shadow ∈ T) (pout : Part.out ∈ T) (pcrown : Part.crown ∈ T) (pstg : Part.stg ∈ T) (pq91 : Part.q91 ∈ T) (ppwm : Part.pwm ∈ T) (ploop : Part.loop ∈ T) (ptrack : Part.track ∈ T) (pprot : Part.prot ∈ T) (prk : Part.rk ∈ T) (pscan : Part.scan ∈ T) (pimp : Part.imp ∈ T) (pest : Part.est ∈ T) (ptmx : Part.tmx ∈ T) (pringSt : Part.ringSt ∈ T) (pbal : Part.bal ∈ T) (ptele : Part.tele ∈ T) (pnvm : Part.nvm ∈ T) (ppair : Part.pair ∈ T) (h4' : Within T s0 s) : ∃ u', (execInnerSample n atStart code late s) = .next u' ∧ Within T s0 u' := by
  unfold execInnerSample
  extract_lets s1 s2 s3 s4 s5
  rename_i x6
  have h7 : Within T s0 s4 := by
    unfold s4
    refine within_ite ?_ ?_
    · refine State.setPhase_within ppwm ?_
      exact h4'
    · exact h4'
  clear_value s1 s2 s3 s4 s5 x6
  refine out_ite ?_ ?_
  · refine ⟨_, rfl, ?_⟩
    exact h7
  · split
    rename_i s8 x9 s10 e11
    have h12 : Within T s0 s10 := by
      refine within_of_snd e11 ?_
      refine State.evalPhase_within pregs ploop ?_
      exact h7
    extract_lets s13
    rename_i s14
    have h15 : Within T s0 s14 := by
      unfold s14
      refine State.setPhase_within ppwm ?_
      refine State.raise_within pregs pq91 prk pscan ?_
      refine State.bump_within pregs ?_
      exact h12
    clear_value s13 s14
    refine out_ite ?_ ?_
    · refine ⟨_, rfl, ?_⟩
      refine within_ite ?_ ?_
      · refine State.relinquishOr_within pregs pshadow pout pcrown pstg pq91 ppwm ploop ptrack pprot prk pscan pimp pringSt pbal ppair ?_ ?_
        · exact h15
        · intro s16 h17
          refine State.react_within pregs pshadow pout pcrown pstg pq91 ppwm ploop ptrack pprot prk pscan pimp pest ptmx pringSt pbal ptele pnvm ppair ?_
          exact h17
      · exact h15
    · refine out_ite ?_ ?_
      · refine ⟨_, rfl, ?_⟩
        refine State.setPhase_within ppwm ?_
        exact h12
      · refine ⟨_, rfl, ?_⟩
        refine State.setPhase_within ppwm ?_
        exact h12

theorem State.newWindow_within {s : State} (ppwm : Part.pwm ∈ T) (ploop : Part.loop ∈ T) (h0' : Within T s0 s) : Within T s0 (State.newWindow s) := by
  unfold State.newWindow
  extract_lets s1 s2
  rename_i x3
  have h4 : Within T s0 s2 := by
    unfold s2
    refine within_foldl ?_ ?_
    · exact h0'
    · intro s5 x6 h7
      extract_lets s8
      clear_value s8
      refine within_ite ?_ ?_
      · refine State.setPhase_within ppwm ?_
        exact h7
      · exact h7
  clear_value s1 s2 x3
  exact within_upd h4 (loop := .inl ploop)

theorem State.modelOutcome_within {s : State} {m : ℕ} {v : Option (Bool × ℕ × ℤ)} (pregs : Part.regs ∈ T) (pshadow : Part.shadow ∈ T) (pout : Part.out ∈ T) (pcrown : Part.crown ∈ T) (pstg : Part.stg ∈ T) (pq91 : Part.q91 ∈ T) (ppwm : Part.pwm ∈ T) (ploop : Part.loop ∈ T) (ptrack : Part.track ∈ T) (pprot : Part.prot ∈ T) (prk : Part.rk ∈ T) (pscan : Part.scan ∈ T) (pimp : Part.imp ∈ T) (pest : Part.est ∈ T) (ptmx : Part.tmx ∈ T) (pringSt : Part.ringSt ∈ T) (pbal : Part.bal ∈ T) (ptele : Part.tele ∈ T) (pnvm : Part.nvm ∈ T) (ppair : Part.pair ∈ T) (h0' : Within T s0 s) : Within T s0 (State.modelOutcome s m v) := by
  unfold State.modelOutcome
  split
  · rename_i x1
    exact h0'
  · rename_i x2 x3 x4 x5
    extract_lets s6 s7 s8 s9
    rename_i s10 x11 s12 s13 s14 x15
    have h16 : Within T s0 s10 := by
      unfold s10
      exact within_upd h0' (loop := .inl ploop)
    have h17 : Within T s0 s12 := by
      unfold s12
      refine State.wrBit_within pregs ?_
      refine State.wrBit_within pregs ?_
      exact h16
    have h18 : Within T s0 s13 := by
      unfold s13
      refine State.wrI_within pregs ?_
      refine State.wr_within pregs ?_
      refine State.wr_within pregs ?_
      exact h17
    have h19 : Within T s0 s14 := by
      unfold s14
      refine State.addCond_within pregs pprot ?_
      refine State.lasting_within pregs ?_
      refine State.raise_within pregs pq91 prk pscan ?_
      exact h18
    have h20 : ∀ a0, Within T s0 a0 → Within T s0 (x15 a0) := by
      intro s21 h22
      unfold x15
      beta_reduce
      refine State.react_within pregs pshadow pout pcrown pstg pq91 ppwm ploop ptrack pprot prk pscan pimp pest ptmx pringSt pbal ptele pnvm ppair ?_
      exact h22
    clear_value x15
    clear_value s6 s7 s8 s9 s10 x11 s12 s13 s14
    refine within_ite ?_ ?_
    · refine within_ite ?_ ?_
      · exact h16
      · refine within_ite ?_ ?_
        · refine State.clearCond_within pregs pprot ?_
          refine State.raise_within pregs pq91 prk pscan ?_
          refine State.wrBit_within pregs ?_
          exact h16
        · exact within_upd h0' (loop := .inl ploop)
    · refine within_ite ?_ ?_
      · refine within_ite ?_ ?_
        · refine State.relinquishOr_within pregs pshadow pout pcrown pstg pq91 ppwm ploop ptrack pprot prk pscan pimp pringSt pbal ppair ?_ ?_
          · exact h19
          · intro s23 h24
            apply h20
            exact h24
        · apply h20
          exact h19
      · refine within_ite ?_ ?_
        · refine State.wrBit_within pregs ?_
          exact h0'
        · refine within_ite ?_ ?_
          · refine State.raise_within pregs pq91 prk pscan ?_
            refine State.retryPass_within pregs pq91 ?_
            refine State.wrBit_within pregs ?_
            exact h0'
          · exact h0'

theorem execLoopPlausWindow_within {meanI : ℤ} {dV : ℤ} {s : State} (pregs : Part.regs ∈ T) (pshadow : Part.shadow ∈ T) (pout : Part.out ∈ T) (pcrown : Part.crown ∈ T) (pstg : Part.stg ∈ T) (pq91 : Part.q91 ∈ T) (ppwm : Part.pwm ∈ T) (ploop : Part.loop ∈ T) (ptrack : Part.track ∈ T) (pprot : Part.prot ∈ T) (prk : Part.rk ∈ T) (pscan : Part.scan ∈ T) (pimp : Part.imp ∈ T) (pest : Part.est ∈ T) (ptmx : Part.tmx ∈ T) (pringSt : Part.ringSt ∈ T) (pbal : Part.bal ∈ T) (ptele : Part.tele ∈ T) (pnvm : Part.nvm ∈ T) (ppair : Part.pair ∈ T) (h2' : Within T s0 s) : ∃ u', (execLoopPlausWindow meanI dV s) = .next u' ∧ Within T s0 u' := by
  unfold execLoopPlausWindow
  refine out_ite ?_ ?_
  · extract_lets s1
    clear_value s1
    refine ⟨_, rfl, ?_⟩
    refine State.newWindow_within ppwm ploop ?_
    refine within_foldl ?_ ?_
    · exact h2'
    · intro s2 x3 h4
      split
      rename_i x5 x6 x7
      refine State.modelOutcome_within pregs pshadow pout pcrown pstg pq91 ppwm ploop ptrack pprot prk pscan pimp pest ptmx pringSt pbal ptele pnvm ppair ?_
      exact h4
  · refine ⟨_, rfl, ?_⟩
    refine State.newWindow_within ppwm ploop ?_
    exact h2'

theorem State.takeTarget_within {s : State} (pregs : Part.regs ∈ T) (pdisp : Part.disp ∈ T) (h0' : Within T s0 s) : Within T s0 (State.takeTarget s) := by
  unfold State.takeTarget
  split
  · rename_i x1 x2 e3
    exact h0'
  · rename_i x4 x5 x6 e7 e8
    exact h0'
  · rename_i x9 x10 x11 e12 e13
    extract_lets s14
    rename_i x15 s16
    have h17 : Within T s0 s14 := by
      unfold s14
      refine State.wrI_within pregs ?_
      exact h0'
    have h18 : Within T s0 s16 := by
      unfold s16
      exact within_upd h17 (disp := .inl pdisp)
    clear_value s14 x15 s16
    refine within_ite ?_ ?_
    · refine State.wrI_within pregs ?_
      exact h18
    · exact h18

theorem State.takeReadings_within {s : State} {r : Readings} (pregs : Part.regs ∈ T) (pmeas : Part.meas ∈ T) (pq91 : Part.q91 ∈ T) (ploop : Part.loop ∈ T) (prk : Part.rk ∈ T) (pscan : Part.scan ∈ T) (h0' : Within T s0 s) : Within T s0 (State.takeReadings s r) := by
  unfold State.takeReadings
  extract_lets s1 s2 s3
  rename_i x4
  have h5 : Within T s0 s1 := by
    unfold s1
    exact within_upd h0' (meas := .inl pmeas)
  have h6 : Within T s0 s2 := by
    unfold s2
    refine State.takeVcoil_within pregs pq91 prk pscan ?_
    refine State.wrI_within pregs ?_
    refine State.wrI_within pregs ?_
    exact h5
  have h7 : Within T s0 s3 := by
    unfold s3
    refine State.wr_within pregs ?_
    refine State.wr_within pregs ?_
    exact h6
  clear_value s1 s2 s3 x4
  exact within_upd h7 (loop := .inl ploop)

theorem State.nearZero_within {s : State} (pregs : Part.regs ∈ T) (pout : Part.out ∈ T) (pcrown : Part.crown ∈ T) (pq91 : Part.q91 ∈ T) (ppwm : Part.pwm ∈ T) (ploop : Part.loop ∈ T) (ptrack : Part.track ∈ T) (pprot : Part.prot ∈ T) (prk : Part.rk ∈ T) (pscan : Part.scan ∈ T) (pest : Part.est ∈ T) (ptmx : Part.tmx ∈ T) (pringSt : Part.ringSt ∈ T) (pbal : Part.bal ∈ T) (ptele : Part.tele ∈ T) (pnvm : Part.nvm ∈ T) (h0' : Within T s0 s) : Within T s0 (State.nearZero s) := by
  unfold State.nearZero
  extract_lets s1 s2
  have h3 : Within T s0 s1 := by
    unfold s1
    refine within_ite ?_ ?_
    · refine State.disconnect3_within pregs pout pcrown pq91 ptrack pprot prk pscan pest pringSt pbal ptele pnvm ?_
      exact h0'
    · exact h0'
  have h4 : Within T s0 s2 := by
    unfold s2
    refine within_ite ?_ ?_
    · refine State.abortBus_within pregs pq91 ptrack pprot prk pscan pest ptele pnvm ?_
      exact h3
    · exact h3
  clear_value s1 s2
  refine within_ite ?_ ?_
  · refine State.srdRelease_within pregs pout pcrown pq91 ppwm ploop ptrack pprot prk pscan pest ptmx pringSt pbal ptele pnvm ?_
    exact h4
  · exact h4

theorem State.advance_within {s : State} (ploop : Part.loop ∈ T) (ptrack : Part.track ∈ T) (h0' : Within T s0 s) : Within T s0 (State.advance s) := by
  unfold State.advance
  extract_lets s1 s2
  rename_i x3 x4
  clear_value s1 s2 x3 x4
  exact within_upd h0' (loop := .inl ploop) (track := .inl ptrack)

theorem State.mirrorLoop_within {s : State} (pout : Part.out ∈ T) (ppair : Part.pair ∈ T) (h0' : Within T s0 s) : Within T s0 (State.mirrorLoop s) := by
  unfold State.mirrorLoop
  extract_lets s1
  clear_value s1
  refine State.mirror_within pout ppair ?_
  exact h0'

theorem State.rampEnds_within {s : State} (pregs : Part.regs ∈ T) (pout : Part.out ∈ T) (pcrown : Part.crown ∈ T) (pq91 : Part.q91 ∈ T) (ppwm : Part.pwm ∈ T) (ptrack : Part.track ∈ T) (pprot : Part.prot ∈ T) (prk : Part.rk ∈ T) (pscan : Part.scan ∈ T) (pest : Part.est ∈ T) (pringSt : Part.ringSt ∈ T) (pbal : Part.bal ∈ T) (ptele : Part.tele ∈ T) (pnvm : Part.nvm ∈ T) (h0' : Within T s0 s) : Within T s0 (State.rampEnds s) := by
  unfold State.rampEnds
  extract_lets s1 s2
  rename_i x3
  clear_value s1 s2 x3
  refine within_ite ?_ ?_
  · exact within_upd h0' (pwm := .inl ppwm)
  · refine within_ite ?_ ?_
    · refine State.disconnectRamp_within pregs pout pcrown pq91 ptrack pprot prk pscan pest pringSt pbal ptele pnvm ?_
      exact h0'
    · exact h0'

theorem State.bursting_within {s : State} (pregs : Part.regs ∈ T) (pq91 : Part.q91 ∈ T) (ppwm : Part.pwm ∈ T) (prk : Part.rk ∈ T) (pscan : Part.scan ∈ T) (h0' : Within T s0 s) : Within T s0 (State.bursting s) := by
  unfold State.bursting
  extract_lets s1 s2
  rename_i x3 x4
  clear_value s1 s2 x3 x4
  refine within_ite ?_ ?_
  · refine within_ite ?_ ?_
    · exact within_upd h0' (pwm := .inl ppwm)
    · exact h0'
  · refine within_ite ?_ ?_
    · refine State.raise_within pregs pq91 prk pscan ?_
      exact within_upd h0' (pwm := .inl ppwm)
    · exact within_upd h0' (pwm := .inl ppwm)

theorem State.addPhase_within {s : State} {n : ℕ} (pregs : Part.regs ∈ T) (pq91 : Part.q91 ∈ T) (ppwm : Part.pwm ∈ T) (ploop : Part.loop ∈ T) (prk : Part.rk ∈ T) (pscan : Part.scan ∈ T) (pimp : Part.imp ∈ T) (h0' : Within T s0 s) : Within T s0 (State.addPhase s n) := by
  unfold State.addPhase
  extract_lets s1 s2 s3 s4 s5
  rename_i x6 s7 s8 x9
  have h10 : Within T s0 s3 := by
    unfold s3
    refine State.setInteg_within pregs ?_
    exact h0'
  have h11 : Within T s0 s5 := by
    unfold s5
    refine State.raise_within pregs pq91 prk pscan ?_
    refine State.setPhase_within ppwm ?_
    exact h10
  have h12 : Within T s0 s7 := by
    unfold s7
    exact within_upd h11 (loop := .inl ploop)
  have h13 : Within T s0 s8 := by
    unfold s8
    refine State.releaseLock_within pregs ploop ?_
    exact h12
  clear_value s1 s2 s3 s4 s5 x6 s7 s8 x9
  refine within_ite ?_ ?_
  · exact within_upd h13 (imp := .inl pimp)
  · exact h12

theorem State.beginShed_within {s : State} (pregs : Part.regs ∈ T) (ppwm : Part.pwm ∈ T) (h0' : Within T s0 s) : Within T s0 (State.beginShed s) := by
  unfold State.beginShed
  split
  · rename_i x1 e2
    exact h0'
  · rename_i x3 x4 e5
    refine State.wrB_within pregs ?_
    refine State.setPhase_within ppwm ?_
    refine State.wr_within pregs ?_
    exact h0'

theorem State.shedding_within {s : State} (pregs : Part.regs ∈ T) (pq91 : Part.q91 ∈ T) (ppwm : Part.pwm ∈ T) (ploop : Part.loop ∈ T) (prk : Part.rk ∈ T) (pscan : Part.scan ∈ T) (pimp : Part.imp ∈ T) (h0' : Within T s0 s) : Within T s0 (State.shedding s) := by
  unfold State.shedding
  extract_lets s1 s2
  rename_i x3 x4 x5 x6
  have h7 : ∀ a0 a1, Within T s0 a0 → Within T s0 (s2 a0 a1) := by
    intro s8 x9 h10
    unfold s2
    beta_reduce
    exact within_upd h10 (pwm := .inl ppwm)
  clear_value s2
  clear_value s1 x3 x4 x5 x6
  refine within_ite ?_ ?_
  · apply h7
    exact h0'
  · refine within_ite ?_ ?_
    · refine within_ite ?_ ?_
      · refine State.cancelShed_within pregs pq91 ppwm prk pscan ?_
        exact h0'
      · exact h0'
    · split
      · rename_i x11 x12 e13
        apply h7
        refine State.addPhase_within pregs pq91 ppwm ploop prk pscan pimp ?_
        exact h0'
      · rename_i x14 e15
        refine within_ite ?_ ?_
        · apply h7
          refine State.beginShed_within pregs ppwm ?_
          exact h0'
        · apply h7
          exact h0'

theorem State.envelope_within {s : State} (pimp : Part.imp ∈ T) (h0' : Within T s0 s) : Within T s0 (State.envelope s) := by
  unfold State.envelope
  extract_lets s1 s2
  rename_i x3
  clear_value s1 s2 x3
  exact within_upd h0' (imp := .inl pimp)

theorem State.evalSource_within {s : State} (pregs : Part.regs ∈ T) (ploop : Part.loop ∈ T) (h0' : Within T s0 s) : Within T s0 (State.evalSource s).2 := by
  unfold State.evalSource
  extract_lets s1 s2
  rename_i x3 s4 x5
  have h6 : Within T s0 s4 := by
    unfold s4
    refine State.wrI_within pregs ?_
    exact h0'
  clear_value s1 s2 x3 s4 x5
  split
  · rename_i e7
    split
    · rename_i e8
      split
      rename_i s9 x10 s11 e12
      have h13 : Within T s0 s11 := by
        refine within_of_snd e12 ?_
        refine State.rampRef_within ploop ?_
        exact h6
      extract_lets s14
      have h15 : Within T s0 s14 := by
        unfold s14
        refine State.wrI_within pregs ?_
        exact h13
      clear_value s14
      refine State.evalPI_within pregs ploop ?_
      exact h15
    · rename_i e16
      dsimp only
      exact h6
  · rename_i e17
    split
    · rename_i e18
      split
      · rename_i e19
        split
        rename_i s20 x21 s22 e23
        have h24 : Within T s0 s22 := by
          refine within_of_snd e23 ?_
          refine State.rampRef_within ploop ?_
          exact h0'
        refine State.evalPI_within pregs ploop ?_
        exact h24
      · rename_i e25
        dsimp only
        exact h0'
    · rename_i e26
      dsimp only
      exact h0'

theorem State.setCurrent_within {s : State} {given : optParam (Option ℤ) none} (pregs : Part.regs ∈ T) (ploop : Part.loop ∈ T) (h0' : Within T s0 s) : Within T s0 (State.setCurrent s given).2 := by
  unfold State.setCurrent
  split
  rename_i s1 x2 s3 e4
  have h5 : Within T s0 s3 := by
    refine within_of_snd e4 ?_
    refine State.evalSource_within pregs ploop ?_
    exact h0'
  extract_lets s6 s7
  clear_value s6 s7
  dsimp only
  exact h5

theorem State.evalBound_within {s : State} {k : ℕ} {flip : Bool} {r : ℤ} {y : ℤ} {other : ℤ} (pregs : Part.regs ∈ T) (ploop : Part.loop ∈ T) (h0' : Within T s0 s) : Within T s0 (State.evalBound s k flip r y other).2 := by
  unfold State.evalBound
  split
  · rename_i e1
    refine State.evalPI_within pregs ploop ?_
    exact h0'
  · rename_i e2
    dsimp only
    exact h0'

theorem State.evalLimits_within {s : State} (pregs : Part.regs ∈ T) (pq91 : Part.q91 ∈ T) (ploop : Part.loop ∈ T) (prk : Part.rk ∈ T) (pscan : Part.scan ∈ T) (h0' : Within T s0 s) : Within T s0 (State.evalLimits s).2.2.2 := by
  unfold State.evalLimits
  extract_lets s1
  clear_value s1
  split
  rename_i s2 x3 s4 e5
  have h6 : Within T s0 s4 := by
    refine within_of_snd e5 ?_
    refine State.evalBound_within pregs ploop ?_
    exact h0'
  split
  rename_i s7 x8 s9 e10
  have h11 : Within T s0 s9 := by
    refine within_of_snd e10 ?_
    refine State.evalBound_within pregs ploop ?_
    exact h6
  split
  rename_i s12 x13 s14 e15
  have h16 : Within T s0 s14 := by
    refine within_of_snd e15 ?_
    refine State.evalBound_within pregs ploop ?_
    exact h11
  extract_lets s17 s18
  clear_value s17 s18
  split
  · rename_i e19
    dsimp only
    refine State.raise_within pregs pq91 prk pscan ?_
    exact h16
  · rename_i e20
    dsimp only
    exact h16

theorem State.evalTotal_within {s : State} {iCmd : ℤ} (pregs : Part.regs ∈ T) (ploop : Part.loop ∈ T) (h0' : Within T s0 s) : Within T s0 (State.evalTotal s iCmd).2 := by
  unfold State.evalTotal
  extract_lets s1
  clear_value s1
  split
  rename_i s2 x3 s4 e5
  have h6 : Within T s0 s4 := by
    refine within_of_snd e5 ?_
    split
    · rename_i e7
      refine State.rampRef_within ploop ?_
      exact h0'
    · rename_i e8
      dsimp only
      exact h0'
  extract_lets s9 s10 s11
  have h12 : ∀ a0 a1, Within T s0 a0 → Within T s0 (s11 a0 a1).2 := by
    intro s13 x14 h15
    unfold s11
    beta_reduce
    split
    · rename_i e16
      dsimp only
      exact h15
    · rename_i e17
      split
      · rename_i e18
        dsimp only
        refine State.wrB_within pregs ?_
        refine State.wrI_within pregs ?_
        exact h15
      · rename_i e19
        split
        · rename_i e20
          refine State.eval2P2Z_within pregs ploop ?_
          exact h15
        · rename_i e21
          refine State.evalPI_within pregs ploop ?_
          exact h15
  clear_value s11
  clear_value s9 s10
  split
  rename_i s22 x23 s24 e25
  have h26 : Within T s0 s24 := by
    refine within_of_snd e25 ?_
    apply h12
    exact h6
  split
  rename_i s27 x28 s29 e30
  have h31 : Within T s0 s29 := by
    refine within_of_snd e30 ?_
    apply h12
    exact h26
  extract_lets s32 s33
  clear_value s33
  clear_value s32
  split
  rename_i s34 x35 s36 e37
  have h38 : Within T s0 s36 := by
    refine within_of_snd e37 ?_
    split
    · rename_i e39
      refine State.evalPI_within pregs ploop ?_
      exact h31
    · rename_i e40
      dsimp only
      exact h31
  dsimp only
  exact within_upd h38 (loop := .inl ploop)

theorem State.noteRun_within {s : State} {clipped : Bool} {iSet : ℤ} (pregs : Part.regs ∈ T) (pimp : Part.imp ∈ T) (h0' : Within T s0 s) : Within T s0 (State.noteRun s clipped iSet) := by
  unfold State.noteRun
  extract_lets s1
  rename_i s2 x3
  have h4 : Within T s0 s2 := by
    unfold s2
    refine within_ite ?_ ?_
    · refine State.bump_within pregs ?_
      exact h0'
    · exact h0'
  clear_value s1 s2 x3
  refine within_ite ?_ ?_
  · exact within_upd h4 (imp := .inl pimp)
  · exact h0'

theorem State.settleActive_within {s : State} (pregs : Part.regs ∈ T) (h0' : Within T s0 s) : Within T s0 (State.settleActive s) := by
  unfold State.settleActive
  extract_lets s1 s2 s3
  clear_value s3
  clear_value s1 s2
  refine within_foldl ?_ ?_
  · exact h0'
  · intro s4 x5 h6
    refine within_ite ?_ ?_
    · exact h6
    · refine State.wrB_within pregs ?_
      exact h6

theorem State.refreshRamping_within {s : State} {refs : List (ℕ × ℤ)} (pregs : Part.regs ∈ T) (pq91 : Part.q91 ∈ T) (prk : Part.rk ∈ T) (pscan : Part.scan ∈ T) (h0' : Within T s0 s) : Within T s0 (State.refreshRamping s refs) := by
  unfold State.refreshRamping
  extract_lets s1 s2 s3
  have h4 : Within T s0 s3 := by
    unfold s3
    refine State.wrB_within pregs ?_
    exact h0'
  clear_value s1 s2 s3
  refine within_ite ?_ ?_
  · refine State.raise_within pregs pq91 prk pscan ?_
    exact h4
  · exact h4

theorem State.chain_within {s : State} {given : optParam (Option ℤ) none} (pregs : Part.regs ∈ T) (pq91 : Part.q91 ∈ T) (ppwm : Part.pwm ∈ T) (ploop : Part.loop ∈ T) (prk : Part.rk ∈ T) (pscan : Part.scan ∈ T) (pimp : Part.imp ∈ T) (h0' : Within T s0 s) : Within T s0 (State.chain s given) := by
  unfold State.chain
  extract_lets s1 s2
  have h3 : Within T s0 s1 := by
    unfold s1
    refine State.envelope_within pimp ?_
    exact h0'
  clear_value s1 s2
  split
  rename_i s4 x5 s6 e7
  have h8 : Within T s0 s6 := by
    refine within_of_snd e7 ?_
    refine State.setCurrent_within pregs ploop ?_
    exact h3
  split
  rename_i s9 x10 x11 x12 s13 e14
  have h15 : Within T s0 s13 := by
    refine within_of_snd3 e14 ?_
    refine State.evalLimits_within pregs pq91 ploop prk pscan ?_
    exact h8
  extract_lets s16 s17
  rename_i x18 x19
  clear_value s16 s17 x18 x19
  split
  rename_i s20 x21 s22 e23
  have h24 : Within T s0 s22 := by
    refine within_of_snd e23 ?_
    refine State.evalTotal_within pregs ploop ?_
    exact h15
  extract_lets s25 s26 s27 s28 s29 s30 s31 s32 s33
  rename_i x34 s35
  have h36 : Within T s0 s28 := by
    unfold s28
    refine State.wrI_within pregs ?_
    refine State.wrI_within pregs ?_
    refine State.wrI_within pregs ?_
    refine State.wrI_within pregs ?_
    refine State.wrI_within pregs ?_
    exact h24
  have h37 : Within T s0 s29 := by
    unfold s29
    refine State.wrB_within pregs ?_
    refine State.wrB_within pregs ?_
    exact h36
  have h38 : Within T s0 s30 := by
    unfold s30
    refine within_ite ?_ ?_
    · refine State.raise_within pregs pq91 prk pscan ?_
      exact h37
    · exact h37
  have h39 : Within T s0 s31 := by
    unfold s31
    refine within_ite ?_ ?_
    · refine State.raise_within pregs pq91 prk pscan ?_
      exact h38
    · exact h38
  have h40 : Within T s0 s32 := by
    unfold s32
    refine State.noteRun_within pregs pimp ?_
    exact h39
  have h41 : Within T s0 s35 := by
    unfold s35
    exact within_upd h40 (pwm := .inl ppwm) (loop := .inl ploop)
  clear_value s25 s27 s28 s29 s30 s31 s32 s33 x34 s35
  refine State.settleActive_within pregs ?_
  refine State.refreshRamping_within pregs pq91 prk pscan ?_
  exact h41

theorem State.srdStep_within {s : State} (pregs : Part.regs ∈ T) (h0' : Within T s0 s) : Within T s0 (State.srdStep s) := by
  unfold State.srdStep
  refine within_ite ?_ ?_
  · refine State.wr_within pregs ?_
    exact h0'
  · exact h0'

theorem execOuterSample_within {r : Readings} {s : State} (pregs : Part.regs ∈ T) (pout : Part.out ∈ T) (pmeas : Part.meas ∈ T) (pcrown : Part.crown ∈ T) (pq91 : Part.q91 ∈ T) (ppwm : Part.pwm ∈ T) (ploop : Part.loop ∈ T) (ptrack : Part.track ∈ T) (pprot : Part.prot ∈ T) (prk : Part.rk ∈ T) (pscan : Part.scan ∈ T) (pimp : Part.imp ∈ T) (pest : Part.est ∈ T) (ptmx : Part.tmx ∈ T) (pdisp : Part.disp ∈ T) (pringSt : Part.ringSt ∈ T) (pbal : Part.bal ∈ T) (ptele : Part.tele ∈ T) (pnvm : Part.nvm ∈ T) (ppair : Part.pair ∈ T) (h1' : Within T s0 s) : ∃ u', (execOuterSample r s) = .next u' ∧ Within T s0 u' := by
  unfold execOuterSample
  extract_lets s1 s2 s3
  rename_i s4
  have h5 : Within T s0 s2 := by
    unfold s2
    refine State.takeTarget_within pregs pdisp ?_
    refine State.watchTest_within pregs pq91 ppwm ploop pprot prk pscan ptmx ?_
    refine State.takeReadings_within pregs pmeas pq91 ploop prk pscan ?_
    exact within_upd h1' (pwm := .inl ppwm)
  have h6 : Within T s0 s3 := by
    unfold s3
    refine State.nearZero_within pregs pout pcrown pq91 ppwm ploop ptrack pprot prk pscan pest ptmx pringSt pbal ptele pnvm ?_
    refine State.advance_within ploop ptrack ?_
    exact h5
  have h7 : Within T s0 s4 := by
    unfold s4
    refine State.wrB_within pregs ?_
    exact h6
  clear_value s1 s2 s3 s4
  refine out_ite ?_ ?_
  · refine ⟨_, rfl, ?_⟩
    refine State.mirrorLoop_within pout ppair ?_
    refine State.rampEnds_within pregs pout pcrown pq91 ppwm ptrack pprot prk pscan pest pringSt pbal ptele pnvm ?_
    refine State.bursting_within pregs pq91 ppwm prk pscan ?_
    refine State.shedding_within pregs pq91 ppwm ploop prk pscan pimp ?_
    refine State.chain_within pregs pq91 ppwm ploop prk pscan pimp ?_
    refine State.srdStep_within pregs ?_
    exact h7
  · refine ⟨_, rfl, ?_⟩
    refine State.mirrorLoop_within pout ppair ?_
    exact h7

theorem execStartSample_within {n : Fin 16} {code : BitVec 16} {s : State} (pregs : Part.regs ∈ T) (ppwm : Part.pwm ∈ T) (ploop : Part.loop ∈ T) (h2' : Within T s0 s) : ∃ u', (execStartSample n code s) = .next u' ∧ Within T s0 u' := by
  unfold execStartSample
  extract_lets s1
  rename_i x2
  clear_value s1 x2
  refine out_ite ?_ ?_
  · refine ⟨_, rfl, ?_⟩
    exact h2'
  · split
    rename_i s3 x4 s5 e6
    have h7 : Within T s0 s5 := by
      refine within_of_snd e6 ?_
      refine State.evalInner_within pregs ploop ?_
      refine State.wrBit_within pregs ?_
      exact h2'
    extract_lets s8
    rename_i x9
    have h10 : Within T s0 s8 := by
      unfold s8
      refine State.wr_within pregs ?_
      exact h7
    clear_value s8 x9
    refine ⟨_, rfl, ?_⟩
    refine State.setPhase_within ppwm ?_
    exact h10

end Sys2Proof.Machine
end

