-- ==== Sys2Proof/Laws/Within5.lean ====
section
/-!
SUPPORT. The parts of the state that each operation can change: ImpedOps, PairOps, Boot, UpdateOps, PtpOps.
-/
set_option Elab.async false
set_option linter.unusedSimpArgs false
set_option linter.unusedVariables false
set_option linter.unusedTactic false
set_option linter.unreachableTactic false
namespace Sys2Proof.Machine
open Sys2Proof

variable {T : List Part} {s0 : State}

/-! ## ImpedOps -/

theorem State.accAdd_within {s : State} {key : ℕ} {n : ℕ} {v : ℤ} (pimp : Part.imp ∈ T) (h0' : Within T s0 s) : Within T s0 (State.accAdd s key n v) := by
  unfold State.accAdd
  extract_lets s1 s2 s3
  rename_i x4
  clear_value s1 s2 s3 x4
  exact within_upd h0' (imp := .inl pimp)

theorem State.closeSet_within {s : State} {wins : List ℕ} {disc : ℕ} {last : Bool} (pregs : Part.regs ∈ T) (pout : Part.out ∈ T) (pfree : Part.free ∈ T) (pq91 : Part.q91 ∈ T) (prk : Part.rk ∈ T) (pscan : Part.scan ∈ T) (pimp : Part.imp ∈ T) (pest : Part.est ∈ T) (peng : Part.eng ∈ T) (ppair : Part.pair ∈ T) (h0' : Within T s0 s) : Within T s0 (State.closeSet s wins disc last) := by
  unfold State.closeSet
  extract_lets s1 s2 s3 s4 s5 s6 s7 s8 s9 s10
  rename_i x11 x12 x13
  clear_value s9
  clear_value x12
  clear_value s1 s2 s3 s4 s5 s6 s7 s8 s10 x11 x13
  split
  rename_i x14 x15 x16 x17 e18
  extract_lets s19 s20 s21 s22 s23 s24 s25 s26 s27 s28
  rename_i s29 s30
  clear_value s19
  have h31 : Within T s0 s21 := by
    unfold s21
    refine within_foldl ?_ ?_
    · exact h0'
    · intro s32 x33 h34
      split
      rename_i s35 s36 x37 e38
      have h39 : Within T s0 s36 := by
        refine within_of_fst e38 ?_
        refine State.push_within pregs pq91 prk pscan peng ?_
        exact h34
      refine within_ite ?_ ?_
      · exact h39
      · refine State.wrB_within pregs ?_
        exact h39
  have h40 : Within T s0 s22 := by
    unfold s22
    refine within_foldl ?_ ?_
    · exact h31
    · intro s41 x42 h43
      refine State.wrI_within pregs ?_
      exact h43
  have h44 : Within T s0 s23 := by
    unfold s23
    refine within_ite ?_ ?_
    · refine State.raise_within pregs pq91 prk pscan ?_
      exact h40
    · exact h40
  have h45 : Within T s0 s26 := by
    unfold s26
    exact within_upd h44 (free := .inl pfree) (imp := .inl pimp) (est := .inl pest)
  have h46 : Within T s0 s27 := by
    unfold s27
    refine State.bump_within pregs ?_
    refine State.wr_within pregs ?_
    refine State.wr_within pregs ?_
    exact h45
  have h47 : Within T s0 s29 := by
    unfold s29
    refine within_foldl ?_ ?_
    · exact h46
    · intro s48 x49 h50
      split
      rename_i x51 x52 x53
      split
      · rename_i x54 x55 e56
        refine within_ite ?_ ?_
        · refine State.learnRf_within pregs pq91 prk pscan pest ?_
          exact h50
        · exact h50
      · rename_i x57 e58
        exact h50
  have h59 : Within T s0 s30 := by
    unfold s30
    refine within_ite ?_ ?_
    · refine State.journalBoth_within pregs pq91 prk pscan pest ?_
      exact h47
    · exact h47
  clear_value s20 s21 s22 s23 s24 s25 s26 s27 s28 s29 s30
  refine State.mirror_within pout ppair ?_
  refine State.raise_within pregs pq91 prk pscan ?_
  exact h59

theorem State.closeWaiting_within {s : State} (pregs : Part.regs ∈ T) (pout : Part.out ∈ T) (pfree : Part.free ∈ T) (pq91 : Part.q91 ∈ T) (prk : Part.rk ∈ T) (pscan : Part.scan ∈ T) (pimp : Part.imp ∈ T) (pest : Part.est ∈ T) (peng : Part.eng ∈ T) (ppair : Part.pair ∈ T) (h0' : Within T s0 s) : Within T s0 (State.closeWaiting s) := by
  unfold State.closeWaiting
  split
  · rename_i x1 x2 x3 x4 e5
    refine State.closeSet_within pregs pout pfree pq91 prk pscan pimp pest peng ppair ?_
    exact h0'
  · rename_i x6 e7
    refine within_ite ?_ ?_
    · extract_lets s8
      rename_i s9
      have h10 : Within T s0 s9 := by
        unfold s9
        exact within_upd h0' (imp := .inl pimp)
      clear_value s8 s9
      refine within_ite ?_ ?_
      · exact h10
      · refine State.closeSet_within pregs pout pfree pq91 prk pscan pimp pest peng ppair ?_
        exact h10
    · exact h0'

theorem State.clearRun_within {s : State} (pregs : Part.regs ∈ T) (pout : Part.out ∈ T) (pfree : Part.free ∈ T) (pq91 : Part.q91 ∈ T) (prk : Part.rk ∈ T) (pscan : Part.scan ∈ T) (pimp : Part.imp ∈ T) (pest : Part.est ∈ T) (peng : Part.eng ∈ T) (ppair : Part.pair ∈ T) (h0' : Within T s0 s) : Within T s0 (State.clearRun s) := by
  unfold State.clearRun
  extract_lets s1 s2 s3
  rename_i s4
  have h5 : Within T s0 s1 := by
    unfold s1
    refine State.closeWaiting_within pregs pout pfree pq91 prk pscan pimp pest peng ppair ?_
    refine State.closeWaiting_within pregs pout pfree pq91 prk pscan pimp pest peng ppair ?_
    exact h0'
  have h6 : Within T s0 s4 := by
    unfold s4
    exact within_upd h5 (imp := .inl pimp)
  clear_value s1 s2 s3 s4
  refine within_foldl ?_ ?_
  · exact h6
  · intro s7 x8 h9
    refine within_ite ?_ ?_
    · exact h9
    · refine State.consume_within pregs peng ?_
      exact h9

theorem State.correlate_within {s : State} {x : RunRecord} {n : ℕ} (pimp : Part.imp ∈ T) (h0' : Within T s0 s) : Within T s0 (State.correlate s x n) := by
  unfold State.correlate
  extract_lets s1 s2
  rename_i s3
  have h4 : Within T s0 s3 := by
    unfold s3
    refine within_ite ?_ ?_
    · refine State.accAdd_within pimp ?_
      exact h0'
    · exact h0'
  clear_value s1 s2 s3
  refine within_ite ?_ ?_
  · exact h0'
  · refine within_ite ?_ ?_
    · exact h4
    · refine within_foldl ?_ ?_
      · exact h4
      · intro s5 x6 h7
        extract_lets s8 s9
        clear_value s8 s9
        refine within_ite ?_ ?_
        · refine State.accAdd_within pimp ?_
          exact h7
        · exact h7

theorem State.recordDone_within {s : State} {x : RunRecord} (pregs : Part.regs ∈ T) (pimp : Part.imp ∈ T) (peng : Part.eng ∈ T) (h0' : Within T s0 s) : Within T s0 (State.recordDone s x) := by
  unfold State.recordDone
  extract_lets s1 s2
  rename_i s3
  have h4 : Within T s0 s3 := by
    unfold s3
    exact within_upd h0' (imp := .inl pimp)
  clear_value s1 s2 s3
  refine within_ite ?_ ?_
  · exact h4
  · refine State.consume_within pregs peng ?_
    exact h4

theorem State.showFreqs_within {s : State} (pregs : Part.regs ∈ T) (h0' : Within T s0 s) : Within T s0 (State.showFreqs s) := by
  unfold State.showFreqs
  refine within_foldl ?_ ?_
  · exact h0'
  · intro s1 x2 h3
    refine State.wr_within pregs ?_
    exact h3

/-! ## PairOps -/

theorem State.adoptSrd_within {s : State} (pregs : Part.regs ∈ T) (pshadow : Part.shadow ∈ T) (pout : Part.out ∈ T) (pcrown : Part.crown ∈ T) (pstg : Part.stg ∈ T) (pq91 : Part.q91 ∈ T) (ppwm : Part.pwm ∈ T) (ploop : Part.loop ∈ T) (ptrack : Part.track ∈ T) (pprot : Part.prot ∈ T) (prk : Part.rk ∈ T) (pscan : Part.scan ∈ T) (pimp : Part.imp ∈ T) (pest : Part.est ∈ T) (ptmx : Part.tmx ∈ T) (pringSt : Part.ringSt ∈ T) (pbal : Part.bal ∈ T) (ptele : Part.tele ∈ T) (pnvm : Part.nvm ∈ T) (ppair : Part.pair ∈ T) (h0' : Within T s0 s) : Within T s0 (State.adoptSrd s) := by
  unfold State.adoptSrd
  split
  · rename_i x1 x2 x3 e4 e5
    extract_lets s6 s7 s8 s9
    rename_i x10 s11
    have h12 : Within T s0 s7 := by
      unfold s7
      refine State.endForStop_within pregs pshadow pout pcrown pstg pq91 ppwm ploop ptrack prk pscan pimp pringSt pbal ppair ?_
      exact h0'
    have h13 : Within T s0 s8 := by
      unfold s8
      refine State.wrI_within pregs ?_
      refine State.wr_within pregs ?_
      refine State.wr_within pregs ?_
      refine State.wrB_within pregs ?_
      exact h12
    have h14 : Within T s0 s11 := by
      unfold s11
      exact within_upd h13 (loop := .inl ploop) (prot := .inl pprot)
    clear_value s6 s7 s8 s9 x10 s11
    refine within_ite ?_ ?_
    · refine State.srdRampEnd_within pregs pout pcrown pq91 ppwm ploop ptrack pprot prk pscan pest ptmx pringSt pbal ptele pnvm ?_
      exact h14
    · exact h14
  · rename_i x15 x16 e17
    exact h0'

theorem State.followCoil_within {s : State} {k : ℕ} {driven : Bool} (pregs : Part.regs ∈ T) (ptrack : Part.track ∈ T) (h0' : Within T s0 s) : Within T s0 (State.followCoil s k driven) := by
  unfold State.followCoil
  refine within_ite ?_ ?_
  · exact h0'
  · refine State.setCoil_within ptrack ?_
    refine State.wrBit_within pregs ?_
    exact h0'

theorem State.followMode_within {s : State} {m : Mode} (pregs : Part.regs ∈ T) (ploop : Part.loop ∈ T) (h0' : Within T s0 s) : Within T s0 (State.followMode s m) := by
  unfold State.followMode
  refine within_ite ?_ ?_
  · exact h0'
  · extract_lets s1 s2
    have h3 : Within T s0 s2 := by
      unfold s2
      refine State.setMode_within pregs ?_
      exact h0'
    clear_value s1 s2
    refine within_ite ?_ ?_
    · exact h3
    · refine within_ite ?_ ?_
      · refine State.wr_within pregs ?_
        refine State.presetEntry_within pregs ploop ?_
        exact h3
      · refine within_ite ?_ ?_
        · refine State.wr_within pregs ?_
          refine State.clearHistories_within ploop ?_
          exact h3
        · refine State.loopOff_within pregs ?_
          exact h3

theorem State.loadCell_within {s : State} {c : ℕ} {v : List ℤ} (pregs : Part.regs ∈ T) (pest : Part.est ∈ T) (h0' : Within T s0 s) : Within T s0 (State.loadCell s c v) := by
  unfold State.loadCell
  extract_lets s1
  rename_i x2
  clear_value s1
  clear_value x2
  refine State.wr_within pregs ?_
  refine State.setCell_within pest ?_
  exact h0'

theorem State.gotCells_within {s : State} {cells : List (List ℤ)} (pregs : Part.regs ∈ T) (pq91 : Part.q91 ∈ T) (prk : Part.rk ∈ T) (pscan : Part.scan ∈ T) (pest : Part.est ∈ T) (ppair : Part.pair ∈ T) (h0' : Within T s0 s) : Within T s0 (State.gotCells s cells) := by
  unfold State.gotCells
  extract_lets s1 s2 s3
  rename_i x4
  have h5 : Within T s0 s2 := by
    unfold s2
    refine within_ite ?_ ?_
    · refine State.healthJudge_within pregs pq91 prk pscan ppair ?_
      exact h0'
    · exact h0'
  have h6 : Within T s0 s3 := by
    unfold s3
    refine within_foldl ?_ ?_
    · exact h5
    · intro s7 x8 h9
      split
      rename_i x10 x11 x12
      refine State.loadCell_within pregs pest ?_
      exact h9
  clear_value s1 s2 s3 x4
  exact within_upd h6 (pair := .inl ppair)

theorem State.gotFormats_within {s : State} {mir : ℕ} {low : ℕ} (pregs : Part.regs ∈ T) (pq91 : Part.q91 ∈ T) (prk : Part.rk ∈ T) (pscan : Part.scan ∈ T) (ppair : Part.pair ∈ T) (h0' : Within T s0 s) : Within T s0 (State.gotFormats s mir low) := by
  unfold State.gotFormats
  extract_lets s1 s2
  rename_i s3
  have h4 : Within T s0 s3 := by
    unfold s3
    exact within_upd h0' (pair := .inl ppair)
  clear_value s1 s2 s3
  refine State.refreshReady_within pregs pq91 prk pscan ?_
  refine within_ite ?_ ?_
  · refine State.raise_within pregs pq91 prk pscan ?_
    exact h4
  · exact h4

theorem State.loadLoop_within {s : State} {x : LoopSnap} (pregs : Part.regs ∈ T) (ploop : Part.loop ∈ T) (h0' : Within T s0 s) : Within T s0 (State.loadLoop s x) := by
  unfold State.loadLoop
  extract_lets s1 s2 s3
  rename_i x4
  have h5 : Within T s0 s1 := by
    unfold s1
    refine within_foldl ?_ ?_
    · exact h0'
    · intro s6 x7 h8
      split
      rename_i x9 x10 x11
      refine State.setInteg_within pregs ?_
      exact h8
  clear_value s2
  have h12 : Within T s0 s3 := by
    unfold s3
    refine State.wrI_within pregs ?_
    refine State.wrI_within pregs ?_
    exact h5
  clear_value s1 s3 x4
  exact within_upd h12 (loop := .inl ploop)

theorem State.gotLoop_within {s : State} {x : LoopSnap} (pregs : Part.regs ∈ T) (pq91 : Part.q91 ∈ T) (ploop : Part.loop ∈ T) (ptrack : Part.track ∈ T) (prk : Part.rk ∈ T) (pscan : Part.scan ∈ T) (ppair : Part.pair ∈ T) (h0' : Within T s0 s) : Within T s0 (State.gotLoop s x) := by
  unfold State.gotLoop
  extract_lets s1 s2 s3 s4 s5 s6
  rename_i x7
  have h8 : Within T s0 s2 := by
    unfold s2
    split
    · rename_i x9 x10 e11
      refine within_ite ?_ ?_
      · refine State.healthJudge_within pregs pq91 prk pscan ppair ?_
        exact h0'
      · exact h0'
    · rename_i x12 e13
      exact h0'
  clear_value s3
  have h14 : Within T s0 s4 := by
    unfold s4
    refine within_ite ?_ ?_
    · refine State.healthJudge_within pregs pq91 prk pscan ppair ?_
      refine State.healthJudge_within pregs pq91 prk pscan ppair ?_
      exact h8
    · exact h8
  have h15 : Within T s0 s5 := by
    unfold s5
    refine State.followMode_within pregs ploop ?_
    exact h14
  have h16 : Within T s0 s6 := by
    unfold s6
    refine within_foldl ?_ ?_
    · exact h15
    · intro s17 x18 h19
      refine State.followCoil_within pregs ptrack ?_
      exact h19
  clear_value s1 s2 s4 s5 s6 x7
  refine State.refreshReady_within pregs pq91 prk pscan ?_
  exact within_upd h16 (pair := .inl ppair)

theorem State.takeNumber_within {s : State} {h' : ℕ} (pregs : Part.regs ∈ T) (pharv : Part.harv ∈ T) (ppair : Part.pair ∈ T) (h0' : Within T s0 s) : Within T s0 (State.takeNumber s h') := by
  unfold State.takeNumber
  refine within_ite ?_ ?_
  · exact h0'
  · extract_lets s1 s2 s3
    rename_i x4 x5
    clear_value s2
    have h6 : Within T s0 s3 := by
      unfold s3
      refine State.wr_within pregs ?_
      exact h0'
    clear_value s1 s3 x4 x5
    exact within_upd h6 (harv := .inl pharv) (pair := .inl ppair)

theorem State.gotMirror_within {s : State} {a : Mirror} (pregs : Part.regs ∈ T) (pout : Part.out ∈ T) (pfree : Part.free ∈ T) (pq91 : Part.q91 ∈ T) (ploop : Part.loop ∈ T) (ptrack : Part.track ∈ T) (prk : Part.rk ∈ T) (pscan : Part.scan ∈ T) (pimp : Part.imp ∈ T) (pest : Part.est ∈ T) (pdisp : Part.disp ∈ T) (peng : Part.eng ∈ T) (pharv : Part.harv ∈ T) (pbal : Part.bal ∈ T) (ppair : Part.pair ∈ T) (h0' : Within T s0 s) : Within T s0 (State.gotMirror s a) := by
  unfold State.gotMirror
  split
  · rename_i x1 x2
    refine State.gotLoop_within pregs pq91 ploop ptrack prk pscan ppair ?_
    exact h0'
  · rename_i x3 x4
    refine State.gotCells_within pregs pq91 prk pscan pest ppair ?_
    exact h0'
  · rename_i x5 x6 x7
    extract_lets s8
    have h9 : Within T s0 s8 := by
      unfold s8
      refine State.takeNumber_within pregs pharv ppair ?_
      exact h0'
    clear_value s8
    split
    · rename_i x10 x11 x12 e13
      refine within_ite ?_ ?_
      · refine State.healthJudge_within pregs pq91 prk pscan ppair ?_
        exact h9
      · exact h9
    · rename_i x14 e15
      exact h9
  · rename_i x16 x17 x18 x19
    extract_lets s20
    rename_i x21
    have h22 : Within T s0 s20 := by
      unfold s20
      refine State.wrB_within pregs ?_
      refine State.wrI_within pregs ?_
      refine State.wrI_within pregs ?_
      exact h0'
    clear_value s20 x21
    exact within_upd h22 (disp := .inl pdisp)
  · rename_i x23 x24 x25
    exact within_upd h0' (pair := .inl ppair)
  · rename_i x26 x27
    exact within_upd h0' (bal := .inl pbal)
  · rename_i x28 x29
    exact within_upd h0' (bal := .inl pbal)
  · rename_i x30 x31 x32 x33
    extract_lets s34
    rename_i x35
    have h36 : Within T s0 s34 := by
      unfold s34
      refine State.wr_within pregs ?_
      refine State.clearRun_within pregs pout pfree pq91 prk pscan pimp pest peng ppair ?_
      exact h0'
    clear_value s34 x35
    refine State.showFreqs_within pregs ?_
    exact within_upd h36 (imp := .inl pimp)
  · rename_i x37 x38
    refine within_ite ?_ ?_
    · refine State.healthJudge_within pregs pq91 prk pscan ppair ?_
      exact h0'
    · exact h0'
  · rename_i x39 x40
    exact within_upd h0' (pair := .inl ppair)
  · rename_i x41 x42 x43
    refine State.gotFormats_within pregs pq91 prk pscan ppair ?_
    exact h0'

theorem State.mirrored_within {s : State} {q : ℕ} {m : Mirror} (pregs : Part.regs ∈ T) (pout : Part.out ∈ T) (pfree : Part.free ∈ T) (pq91 : Part.q91 ∈ T) (ploop : Part.loop ∈ T) (ptrack : Part.track ∈ T) (prk : Part.rk ∈ T) (pscan : Part.scan ∈ T) (pimp : Part.imp ∈ T) (pest : Part.est ∈ T) (pdisp : Part.disp ∈ T) (peng : Part.eng ∈ T) (pharv : Part.harv ∈ T) (pbal : Part.bal ∈ T) (ppair : Part.pair ∈ T) (h0' : Within T s0 s) : Within T s0 (State.mirrored s q m) := by
  unfold State.mirrored
  extract_lets s1 s2 s3 s4 s5
  rename_i s6 s7
  have h8 : Within T s0 s4 := by
    unfold s4
    exact within_upd h0' (pair := .inl ppair)
  have h9 : Within T s0 s6 := by
    unfold s6
    refine within_ite ?_ ?_
    · exact within_upd h8 (pair := .inl ppair)
    · exact h8
  have h10 : Within T s0 s7 := by
    unfold s7
    refine within_ite ?_ ?_
    · exact h9
    · refine within_ite ?_ ?_
      · refine State.retryPass_within pregs pq91 ?_
        refine State.bump_within pregs ?_
        exact h9
      · refine State.lastingW_within pregs pq91 ?_
        refine State.raise_within pregs pq91 prk pscan ?_
        refine State.bump_within pregs ?_
        exact h9
  clear_value s1 s2 s3 s4 s5 s6 s7
  refine State.gotMirror_within pregs pout pfree pq91 ploop ptrack prk pscan pimp pest pdisp peng pharv pbal ppair ?_
  exact h10

theorem State.originate_within {s : State} (pregs : Part.regs ∈ T) (pout : Part.out ∈ T) (pcrown : Part.crown ∈ T) (pq91 : Part.q91 ∈ T) (prk : Part.rk ∈ T) (pscan : Part.scan ∈ T) (pringSt : Part.ringSt ∈ T) (pbal : Part.bal ∈ T) (ppair : Part.pair ∈ T) (h0' : Within T s0 s) : Within T s0 (State.originate s) := by
  unfold State.originate
  refine within_ite ?_ ?_
  · exact h0'
  · extract_lets s1
    clear_value s1
    refine State.measure_within pregs pout pcrown pq91 prk pscan pringSt pbal ppair ?_
    refine State.modRing_within pringSt ?_
    refine State.wr_within pregs ?_
    exact h0'

theorem State.pairCmd_within {s : State} {data : ℕ} (pregs : Part.regs ∈ T) (pshadow : Part.shadow ∈ T) (pout : Part.out ∈ T) (pcrown : Part.crown ∈ T) (pstg : Part.stg ∈ T) (pq91 : Part.q91 ∈ T) (ppwm : Part.pwm ∈ T) (ploop : Part.loop ∈ T) (ptrack : Part.track ∈ T) (pprot : Part.prot ∈ T) (prk : Part.rk ∈ T) (pscan : Part.scan ∈ T) (pimp : Part.imp ∈ T) (pringSt : Part.ringSt ∈ T) (pbal : Part.bal ∈ T) (ppair : Part.pair ∈ T) (h0' : Within T s0 s) : Within T s0 (State.pairCmd s data) := by
  unfold State.pairCmd
  refine within_ite ?_ ?_
  · exact h0'
  · extract_lets s1 s2
    have h3 : Within T s0 s2 := by
      unfold s2
      refine State.wr_within pregs ?_
      exact h0'
    clear_value s1 s2
    refine within_ite ?_ ?_
    · refine State.relinquishOr_within pregs pshadow pout pcrown pstg pq91 ppwm ploop ptrack pprot prk pscan pimp pringSt pbal ppair ?_ ?_
      · exact h3
      · intro s4 h5
        dsimp only [id]
        exact h5
    · refine State.raise_within pregs pq91 prk pscan ?_
      exact h3

theorem State.pairConflict_within {s : State} (pregs : Part.regs ∈ T) (pq91 : Part.q91 ∈ T) (prk : Part.rk ∈ T) (pscan : Part.scan ∈ T) (ptmx : Part.tmx ∈ T) (h0' : Within T s0 s) : Within T s0 (State.pairConflict s) := by
  unfold State.pairConflict
  extract_lets s1
  rename_i s2
  have h3 : Within T s0 s1 := by
    unfold s1
    refine State.record_within pq91 ?_
    exact h0'
  have h4 : Within T s0 s2 := by
    unfold s2
    refine State.setLatch_within pregs pq91 prk pscan ptmx ?_
    exact h3
  clear_value s1 s2
  refine within_ite ?_ ?_
  · exact h3
  · refine within_ite ?_ ?_
    · refine State.setMode_within pregs ?_
      exact h4
    · exact h4

theorem State.takeClaim_within {s : State} (pregs : Part.regs ∈ T) (pq91 : Part.q91 ∈ T) (prk : Part.rk ∈ T) (pscan : Part.scan ∈ T) (h0' : Within T s0 s) : Within T s0 (State.takeClaim s).1 := by
  unfold State.takeClaim
  extract_lets s1
  rename_i s2
  have h3 : Within T s0 s2 := by
    unfold s2
    refine within_ite ?_ ?_
    · refine State.raise_within pregs pq91 prk pscan ?_
      exact h0'
    · exact h0'
  clear_value s1 s2
  split
  · rename_i e4
    dsimp only
    exact h0'
  · rename_i e5
    split
    · rename_i e6
      dsimp only
      refine State.setReady_within pregs pq91 prk pscan ?_
      refine State.raise_within pregs pq91 prk pscan ?_
      exact h0'
    · rename_i e7
      dsimp only
      refine State.wr_within pregs ?_
      refine State.wr_within pregs ?_
      exact h3

theorem State.startStandby_within {s : State} (pregs : Part.regs ∈ T) (pest : Part.est ∈ T) (h0' : Within T s0 s) : Within T s0 (State.startStandby s) := by
  unfold State.startStandby
  extract_lets s1
  rename_i x2
  have h3 : Within T s0 s1 := by
    unfold s1
    refine State.wr_within pregs ?_
    exact h0'
  clear_value s1 x2
  exact within_upd h3 (est := .inl pest)

theorem State.pairStart_within {s : State} (pregs : Part.regs ∈ T) (pq91 : Part.q91 ∈ T) (prk : Part.rk ∈ T) (pscan : Part.scan ∈ T) (pest : Part.est ∈ T) (ptmx : Part.tmx ∈ T) (ppair : Part.pair ∈ T) (h0' : Within T s0 s) : Within T s0 (State.pairStart s) := by
  unfold State.pairStart
  refine within_ite ?_ ?_
  · refine State.takeClaim_within pregs pq91 prk pscan ?_
    refine State.wr_within pregs ?_
    exact h0'
  · refine within_ite ?_ ?_
    · refine State.pairConflict_within pregs pq91 prk pscan ptmx ?_
      refine State.startStandby_within pregs pest ?_
      exact h0'
    · refine within_ite ?_ ?_
      · refine State.startStandby_within pregs pest ?_
        exact h0'
      · refine within_ite ?_ ?_
        · split
          rename_i s1 s2 x3 e4
          have h5 : Within T s0 s2 := by
            refine within_of_fst e4 ?_
            refine State.takeClaim_within pregs pq91 prk pscan ?_
            exact h0'
          refine State.wr_within pregs ?_
          exact h5
        · extract_lets s6
          rename_i x7
          have h8 : Within T s0 s6 := by
            unfold s6
            refine State.wr_within pregs ?_
            exact h0'
          clear_value s6 x7
          exact within_upd h8 (pair := .inl ppair)

theorem State.resumeGates_within {s : State} (pregs : Part.regs ∈ T) (pshadow : Part.shadow ∈ T) (pout : Part.out ∈ T) (pcrown : Part.crown ∈ T) (pstg : Part.stg ∈ T) (pq91 : Part.q91 ∈ T) (ppwm : Part.pwm ∈ T) (ploop : Part.loop ∈ T) (ptrack : Part.track ∈ T) (pprot : Part.prot ∈ T) (prk : Part.rk ∈ T) (pscan : Part.scan ∈ T) (pimp : Part.imp ∈ T) (pest : Part.est ∈ T) (ptmx : Part.tmx ∈ T) (pringSt : Part.ringSt ∈ T) (pbal : Part.bal ∈ T) (ptele : Part.tele ∈ T) (pnvm : Part.nvm ∈ T) (ppair : Part.pair ∈ T) (h0' : Within T s0 s) : Within T s0 (State.resumeGates s) := by
  unfold State.resumeGates
  refine within_ite ?_ ?_
  · exact h0'
  · extract_lets s1 s2 s3
    rename_i s4 s5 s6 x7 s8
    have h9 : Within T s0 s1 := by
      unfold s1
      refine State.wr_within pregs ?_
      refine State.wrB_within pregs ?_
      exact h0'
    have h10 : Within T s0 s3 := by
      unfold s3
      exact within_upd h9 (pair := .inl ppair)
    have h11 : Within T s0 s4 := by
      unfold s4
      refine within_ite ?_ ?_
      · refine State.replanIfDue_within pregs pout pq91 prk pscan pringSt pbal ppair ?_
        refine State.setMode_within pregs ?_
        exact h10
      · exact h10
    have h12 : Within T s0 s5 := by
      unfold s5
      refine State.adoptSrd_within pregs pshadow pout pcrown pstg pq91 ppwm ploop ptrack pprot prk pscan pimp pest ptmx pringSt pbal ptele pnvm ppair ?_
      exact h11
    have h13 : Within T s0 s6 := by
      unfold s6
      refine State.wrB_within pregs ?_
      refine State.freezeAll_within pregs ?_
      exact h12
    have h14 : Within T s0 s8 := by
      unfold s8
      exact within_upd h13 (loop := .inl ploop)
    clear_value s1 s2 s3 s4 s5 s6 x7 s8
    refine within_ite ?_ ?_
    · refine within_ite ?_ ?_
      · exact h14
      · refine State.startSome_within pregs ppwm ?_
        refine State.askEnables_within pregs pprot ?_
        exact h14
    · exact h12

theorem State.takeRing_within {s : State} (pregs : Part.regs ∈ T) (pout : Part.out ∈ T) (pcrown : Part.crown ∈ T) (pq91 : Part.q91 ∈ T) (prk : Part.rk ∈ T) (pscan : Part.scan ∈ T) (pringSt : Part.ringSt ∈ T) (pbal : Part.bal ∈ T) (ppair : Part.pair ∈ T) (h0' : Within T s0 s) : Within T s0 (State.takeRing s) := by
  unfold State.takeRing
  refine within_ite ?_ ?_
  · refine State.originate_within pregs pout pcrown pq91 prk pscan pringSt pbal ppair ?_
    exact h0'
  · refine State.startRing_within pregs pout pringSt ?_
    exact h0'

theorem State.takePaired_within {s : State} (pregs : Part.regs ∈ T) (pshadow : Part.shadow ∈ T) (pout : Part.out ∈ T) (pcrown : Part.crown ∈ T) (pstg : Part.stg ∈ T) (pq91 : Part.q91 ∈ T) (ppwm : Part.pwm ∈ T) (ploop : Part.loop ∈ T) (ptrack : Part.track ∈ T) (pprot : Part.prot ∈ T) (prk : Part.rk ∈ T) (pscan : Part.scan ∈ T) (pimp : Part.imp ∈ T) (ptmx : Part.tmx ∈ T) (pringSt : Part.ringSt ∈ T) (pbal : Part.bal ∈ T) (ppair : Part.pair ∈ T) (h0' : Within T s0 s) : Within T s0 (State.takePaired s) := by
  unfold State.takePaired
  refine within_ite ?_ ?_
  · exact h0'
  · refine within_ite ?_ ?_
    · extract_lets s1
      have h2 : Within T s0 s1 := by
        unfold s1
        refine State.wr_within pregs ?_
        exact h0'
      clear_value s1
      refine within_ite ?_ ?_
      · exact h2
      · refine State.takeRing_within pregs pout pcrown pq91 prk pscan pringSt pbal ppair ?_
        refine State.takeClaim_within pregs pq91 prk pscan ?_
        exact h2
    · refine within_ite ?_ ?_
      · refine State.pairConflict_within pregs pq91 prk pscan ptmx ?_
        refine State.wr_within pregs ?_
        refine State.giveUpClaim_within pregs pshadow pout pcrown pstg pq91 ppwm ploop ptrack pprot prk pscan pimp pringSt pbal ppair ?_
        exact h0'
      · refine within_ite ?_ ?_
        · refine State.wr_within pregs ?_
          refine State.wr_within pregs ?_
          exact h0'
        · refine State.wr_within pregs ?_
          exact h0'

theorem State.takeoverUnready_within {s : State} (pregs : Part.regs ∈ T) (pout : Part.out ∈ T) (pcrown : Part.crown ∈ T) (pq91 : Part.q91 ∈ T) (ppwm : Part.pwm ∈ T) (ploop : Part.loop ∈ T) (ptrack : Part.track ∈ T) (pprot : Part.prot ∈ T) (prk : Part.rk ∈ T) (pscan : Part.scan ∈ T) (pest : Part.est ∈ T) (ptmx : Part.tmx ∈ T) (pringSt : Part.ringSt ∈ T) (pbal : Part.bal ∈ T) (ptele : Part.tele ∈ T) (pnvm : Part.nvm ∈ T) (h0' : Within T s0 s) : Within T s0 (State.takeoverUnready s) := by
  unfold State.takeoverUnready
  extract_lets s1
  rename_i x2
  have h3 : Within T s0 s1 := by
    unfold s1
    refine State.wr_within pregs ?_
    refine State.wrB_within pregs ?_
    refine State.loopOff_within pregs ?_
    refine State.gatesOff_within pregs ppwm ploop ?_
    exact h0'
  clear_value s1 x2
  refine State.srdRelease_within pregs pout pcrown pq91 ppwm ploop ptrack pprot prk pscan pest ptmx pringSt pbal ptele pnvm ?_
  exact within_upd h3 (prot := .inl pprot)

theorem State.takeoverConnect_within {s : State} (pregs : Part.regs ∈ T) (pout : Part.out ∈ T) (pcrown : Part.crown ∈ T) (pq91 : Part.q91 ∈ T) (ppwm : Part.pwm ∈ T) (ploop : Part.loop ∈ T) (ptrack : Part.track ∈ T) (pprot : Part.prot ∈ T) (prk : Part.rk ∈ T) (pscan : Part.scan ∈ T) (pest : Part.est ∈ T) (pringSt : Part.ringSt ∈ T) (pbal : Part.bal ∈ T) (ptele : Part.tele ∈ T) (pnvm : Part.nvm ∈ T) (h0' : Within T s0 s) : Within T s0 (State.takeoverConnect s) := by
  unfold State.takeoverConnect
  extract_lets s1
  rename_i x2 x3
  have h4 : Within T s0 s1 := by
    unfold s1
    refine State.wr_within pregs ?_
    refine State.loopOff_within pregs ?_
    refine State.dropEnables_within pregs pprot ?_
    refine State.gatesOff_within pregs ppwm ploop ?_
    exact h0'
  clear_value s1 x2 x3
  refine State.disconnect3_within pregs pout pcrown pq91 ptrack pprot prk pscan pest pringSt pbal ptele pnvm ?_
  exact within_upd h4 (crown := .inl pcrown) (track := .inl ptrack)

theorem State.takeover_within {s : State} {absence : Bool} (pregs : Part.regs ∈ T) (pshadow : Part.shadow ∈ T) (pout : Part.out ∈ T) (pcrown : Part.crown ∈ T) (pstg : Part.stg ∈ T) (pq91 : Part.q91 ∈ T) (ppwm : Part.pwm ∈ T) (ploop : Part.loop ∈ T) (ptrack : Part.track ∈ T) (pprot : Part.prot ∈ T) (prk : Part.rk ∈ T) (pscan : Part.scan ∈ T) (pimp : Part.imp ∈ T) (pest : Part.est ∈ T) (ptmx : Part.tmx ∈ T) (pringSt : Part.ringSt ∈ T) (pbal : Part.bal ∈ T) (ptele : Part.tele ∈ T) (pnvm : Part.nvm ∈ T) (pcan : Part.can ∈ T) (ppair : Part.pair ∈ T) (h0' : Within T s0 s) : Within T s0 (State.takeover s absence) := by
  unfold State.takeover
  refine within_ite ?_ ?_
  · exact h0'
  · extract_lets s1
    clear_value s1
    split
    rename_i s2 s3 x4 e5
    have h6 : Within T s0 s3 := by
      refine within_of_fst e5 ?_
      refine State.takeClaim_within pregs pq91 prk pscan ?_
      exact h0'
    refine within_ite ?_ ?_
    · exact h6
    · extract_lets s7 s8 s9 s10 s11 s12 s13 s14 s15 s16
      rename_i s17 s18 s19 x20 s21
      have h22 : Within T s0 s8 := by
        unfold s8
        refine State.bump_within pregs ?_
        refine State.wr_within pregs ?_
        refine State.wrB_within pregs ?_
        refine State.wr_within pregs ?_
        refine State.voidHealth_within pregs ?_
        exact h6
      have h23 : Within T s0 s9 := by
        unfold s9
        refine State.record_within pq91 ?_
        refine State.raise_within pregs pq91 prk pscan ?_
        exact h22
      have h24 : Within T s0 s11 := by
        unfold s11
        exact within_upd h23 (pair := .inl ppair)
      have h25 : Within T s0 s12 := by
        unfold s12
        refine State.abortRun_within pregs pout pq91 ppwm ploop prk pscan pimp pringSt pbal ppair ?_
        exact h24
      have h26 : Within T s0 s13 := by
        unfold s13
        refine within_ite ?_ ?_
        · refine State.wr_within pregs ?_
          exact h25
        · exact h25
      have h27 : Within T s0 s14 := by
        unfold s14
        refine within_ite ?_ ?_
        · refine State.cancelApply_within pregs pshadow pstg ?_
          exact h26
        · exact h26
      have h28 : Within T s0 s15 := by
        unfold s15
        refine within_foldl ?_ ?_
        · refine State.originate_within pregs pout pcrown pq91 prk pscan pringSt pbal ppair ?_
          exact h27
        · intro s29 x30 h31
          refine within_ite ?_ ?_
          · exact h31
          · refine State.canIntegrate_within pregs pcan ?_
            exact h31
      have h32 : Within T s0 s16 := by
        unfold s16
        refine State.driveCool_within pregs ?_
        refine State.wr_within pregs ?_
        exact h28
      have h33 : Within T s0 s17 := by
        unfold s17
        refine within_foldl ?_ ?_
        · exact h32
        · intro s34 x35 h36
          refine State.setTask_within pscan ?_
          exact h36
      have h37 : Within T s0 s18 := by
        unfold s18
        split
        · rename_i x38 x39 e40
          refine State.loadLoop_within pregs ploop ?_
          exact h33
        · rename_i x41 e42
          exact h33
      have h43 : Within T s0 s19 := by
        unfold s19
        refine State.freezeAll_within pregs ?_
        refine State.wrB_within pregs ?_
        exact h37
      have h44 : Within T s0 s21 := by
        unfold s21
        refine State.replan_within pregs pout pq91 prk pscan pringSt pbal ppair ?_
        exact within_upd h43 (pair := .inl ppair)
      clear_value s7 s8 s9 s10 s11 s12 s13 s14 s15 s16 s17 s18 s19 x20 s21
      refine within_ite ?_ ?_
      · refine State.takeoverUnready_within pregs pout pcrown pq91 ppwm ploop ptrack pprot prk pscan pest ptmx pringSt pbal ptele pnvm ?_
        exact h33
      · split
        · rename_i x45 e46
          refine State.takeoverConnect_within pregs pout pcrown pq91 ppwm ploop ptrack pprot prk pscan pest pringSt pbal ptele pnvm ?_
          exact h37
        · rename_i x47 e48
          refine within_ite ?_ ?_
          · refine State.modBal_within pbal ?_
            exact h44
          · exact h44
        · rename_i x49 e50
          refine within_ite ?_ ?_
          · refine State.modBal_within pbal ?_
            exact h44
          · exact h44
        · rename_i x51 e52
          refine within_ite ?_ ?_
          · refine State.modBal_within pbal ?_
            exact h44
          · exact h44
        · rename_i x53 e54 e55 e56 e57
          exact h37

/-! ## Boot -/

theorem State.bootNew_within {s : State} {k : ℕ} {entry : Option (ℕ × ℕ)} (pregs : Part.regs ∈ T) (pq91 : Part.q91 ∈ T) (pnvm : Part.nvm ∈ T) (h0' : Within T s0 s) : Within T s0 (State.bootNew s k entry) := by
  unfold State.bootNew
  extract_lets s1 s2 s3 s4
  rename_i x5
  clear_value s2
  have h6 : Within T s0 s3 := by
    unfold s3
    refine State.wr_within pregs ?_
    refine State.record_within pq91 ?_
    exact h0'
  clear_value s1 s3 s4 x5
  exact within_upd h6 (nvm := .inl pnvm)

theorem State.bootSelect_within {s : State} {bad : Fin 4} {noRecord : Bool} (pregs : Part.regs ∈ T) (pcrown : Part.crown ∈ T) (pq91 : Part.q91 ∈ T) (pnvm : Part.nvm ∈ T) (h0' : Within T s0 s) : Within T s0 (State.bootSelect s bad noRecord) := by
  unfold State.bootSelect
  extract_lets s1
  rename_i x2 x3 s4 s5 x6 x7
  have h8 : Within T s0 s4 := by
    unfold s4
    refine State.wr_within pregs ?_
    refine State.record_within pq91 ?_
    exact h0'
  have h9 : Within T s0 s5 := by
    unfold s5
    refine State.wr_within pregs ?_
    exact h8
  clear_value s1 x2 x3 s4 s5 x6 x7
  refine within_ite ?_ ?_
  · split
    · rename_i x10 x11 e12
      exact within_upd h0' (nvm := .inl pnvm)
    · rename_i x13 e14
      exact within_upd h0' (crown := .inl pcrown)
  · refine within_ite ?_ ?_
    · exact h0'
    · refine within_ite ?_ ?_
      · exact within_upd h9 (nvm := .inl pnvm)
      · exact within_upd h0' (crown := .inl pcrown)

theorem State.degradeLost_within {s : State} (pq91 : Part.q91 ∈ T) (h0' : Within T s0 s) : Within T s0 (State.degradeLost s) := by
  unfold State.degradeLost
  refine within_ite ?_ ?_
  · refine State.record_within pq91 ?_
    exact h0'
  · exact h0'

theorem State.fallbackStore_within {s : State} (pregs : Part.regs ∈ T) (pq91 : Part.q91 ∈ T) (pest : Part.est ∈ T) (ptele : Part.tele ∈ T) (pnvm : Part.nvm ∈ T) (h0' : Within T s0 s) : Within T s0 (State.fallbackStore s) := by
  unfold State.fallbackStore
  extract_lets s1 s2 s3
  rename_i x4
  have h5 : Within T s0 s2 := by
    unfold s2
    refine State.restoreBackup_within pest ptele pnvm ?_
    refine State.record_within pq91 ?_
    exact h0'
  have h6 : Within T s0 s3 := by
    unfold s3
    refine State.wr_within pregs ?_
    exact h5
  clear_value s1 s2 s3 x4
  exact within_upd h6 (nvm := .inl pnvm)

theorem State.loadConfig_within {s : State} (pregs : Part.regs ∈ T) (pq91 : Part.q91 ∈ T) (prk : Part.rk ∈ T) (pscan : Part.scan ∈ T) (pnvm : Part.nvm ∈ T) (h0' : Within T s0 s) : Within T s0 (State.loadConfig s) := by
  unfold State.loadConfig
  extract_lets s1
  rename_i s2 x3
  have h4 : Within T s0 s1 := by
    unfold s1
    refine State.wrB_within pregs ?_
    refine State.wrB_within pregs ?_
    refine State.wrB_within pregs ?_
    exact h0'
  have h5 : Within T s0 s2 := by
    unfold s2
    refine State.raise_within pregs pq91 prk pscan ?_
    refine State.wrB_within pregs ?_
    exact h4
  clear_value s1 s2 x3
  split
  · rename_i x6 e7
    exact within_upd h5 (nvm := .inl pnvm)
  · rename_i x8 x9 x10 e11
    extract_lets s12 s13 s14
    rename_i x15
    have h16 : Within T s0 s12 := by
      unfold s12
      refine State.wrB_within pregs ?_
      refine State.takeWords_within pregs ?_
      exact h4
    have h17 : Within T s0 s14 := by
      unfold s14
      refine within_ite ?_ ?_
      · refine State.raise_within pregs pq91 prk pscan ?_
        refine State.wrB_within pregs ?_
        exact h16
      · exact h16
    clear_value s12 s13 s14 x15
    refine State.showEntry_within pregs ?_
    exact within_upd h17 (nvm := .inl pnvm)

theorem State.showFormats_within {s : State} (pregs : Part.regs ∈ T) (h0' : Within T s0 s) : Within T s0 (State.showFormats s) := by
  unfold State.showFormats
  extract_lets s1
  have h2 : Within T s0 s1 := by
    unfold s1
    refine State.wr_within pregs ?_
    refine State.wr_within pregs ?_
    refine State.wr_within pregs ?_
    exact h0'
  clear_value s1
  refine State.wr_within pregs ?_
  refine State.wr_within pregs ?_
  refine State.wr_within pregs ?_
  exact h2

theorem State.loadStores_within {s : State} (pregs : Part.regs ∈ T) (pq91 : Part.q91 ∈ T) (prk : Part.rk ∈ T) (pscan : Part.scan ∈ T) (pest : Part.est ∈ T) (ptele : Part.tele ∈ T) (pnvm : Part.nvm ∈ T) (h0' : Within T s0 s) : Within T s0 (State.loadStores s) := by
  unfold State.loadStores
  extract_lets s1 s2 s3 s4 s5 s6 s7
  rename_i s8
  have h9 : Within T s0 s1 := by
    unfold s1
    refine within_ite ?_ ?_
    · refine State.migrateFram_within pregs pq91 prk pscan pest ptele pnvm ?_
      exact h0'
    · exact h0'
  have h10 : Within T s0 s3 := by
    unfold s3
    refine within_ite ?_ ?_
    · exact within_upd h9 (nvm := .inl pnvm)
    · exact h9
  have h11 : Within T s0 s4 := by
    unfold s4
    refine State.showFormats_within pregs ?_
    exact h10
  have h12 : Within T s0 s5 := by
    unfold s5
    refine within_ite ?_ ?_
    · refine State.takeWords_within pregs ?_
      exact h11
    · exact h11
  have h13 : Within T s0 s6 := by
    unfold s6
    refine within_ite ?_ ?_
    · refine State.restoreLearned_within pregs pq91 prk pscan pest ?_
      exact h12
    · exact h12
  have h14 : Within T s0 s7 := by
    unfold s7
    refine within_ite ?_ ?_
    · refine State.restoreState_within pregs pq91 prk pscan pest ?_
      exact h13
    · exact h13
  have h15 : Within T s0 s8 := by
    unfold s8
    refine within_ite ?_ ?_
    · refine State.restoreCounters_within pregs pq91 prk pscan ptele ?_
      exact h14
    · exact h14
  clear_value s1 s2 s3 s4 s5 s6 s7 s8
  refine within_ite ?_ ?_
  · refine State.restoreRetain_within pscan ?_
    exact h15
  · exact h15

theorem State.startMonitor_within {s : State} {old : State} (pregs : Part.regs ∈ T) (h0' : Within T s0 s) : Within T s0 (State.startMonitor s old) := by
  unfold State.startMonitor
  refine State.wr_within pregs ?_
  refine State.wrB_within pregs ?_
  exact h0'

theorem State.startStrap_within {s : State} {old : State} {warm : Bool} {i : Start} (pregs : Part.regs ∈ T) (ppair : Part.pair ∈ T) (h0' : Within T s0 s) : Within T s0 (State.startStrap s old warm i) := by
  unfold State.startStrap
  refine within_ite ?_ ?_
  · extract_lets s1
    rename_i x2
    have h3 : Within T s0 s1 := by
      unfold s1
      refine State.wr_within pregs ?_
      exact h0'
    clear_value s1 x2
    exact within_upd h3 (pair := .inl ppair)
  · split
    · rename_i x4 x5 e6
      refine State.wr_within pregs ?_
      exact h0'
    · rename_i x7 e8
      exact within_upd h0' (pair := .inl ppair)

theorem State.startSupply_within {s : State} {old : State} {cold : Bool} {i : Start} (pregs : Part.regs ∈ T) (pcrown : Part.crown ∈ T) (h0' : Within T s0 s) : Within T s0 (State.startSupply s old cold i) := by
  unfold State.startSupply
  refine within_ite ?_ ?_
  · extract_lets s1
    rename_i x2
    have h3 : Within T s0 s1 := by
      unfold s1
      refine State.wrB_within pregs ?_
      refine State.wrB_within pregs ?_
      exact h0'
    clear_value s1 x2
    exact within_upd h3 (crown := .inl pcrown)
  · extract_lets s4 s5
    rename_i x6
    have h7 : Within T s0 s4 := by
      unfold s4
      refine State.wrB_within pregs ?_
      refine State.wrB_within pregs ?_
      refine State.wrB_within pregs ?_
      exact h0'
    have h8 : Within T s0 s5 := by
      unfold s5
      refine State.wrB_within pregs ?_
      exact h7
    clear_value s4 s5 x6
    exact within_upd h8 (crown := .inl pcrown)

theorem State.startCause_within {s : State} {old : State} {kind : ResetKind} (pregs : Part.regs ∈ T) (h0' : Within T s0 s) : Within T s0 (State.startCause s old kind) := by
  unfold State.startCause
  extract_lets s1 s2
  have h3 : Within T s0 s1 := by
    unfold s1
    refine State.wrB_within pregs ?_
    refine State.wr_within pregs ?_
    exact h0'
  have h4 : Within T s0 s2 := by
    unfold s2
    refine State.wrB_within pregs ?_
    exact h3
  clear_value s1 s2
  refine within_ite ?_ ?_
  · refine State.bump_within pregs ?_
    exact h4
  · exact h4

theorem classWords_entry {a : Nat} {w : Word} {b : Nat × Word} {pg : Nat → Bool} {p : FieldDef → Bool}
    (h : (if pg (pageOf a) then match regAt a with
      | none => none
      | some r => let w' := mergeFields p r.fields (resetWord a) w
        if w' = resetWord a then none else some (a, w')
    else none) = some b) : b.1 = a ∧ b.2 ≠ resetWord a := by
  split at h
  · split at h
    · cases h
    · dsimp only at h
      split at h
      · cases h
      case isFalse hne =>
        cases h
        exact ⟨rfl, hne⟩
  · cases h

theorem classWords_canonical {s : State} {pg : Nat → Bool} {p : FieldDef → Bool} (h : regsCanonical s.regs) : regsCanonical (s.classWords pg p) := by
  unfold State.classWords
  refine ⟨?_, fun e he => ?_⟩
  · rw [mrising_iff]
    refine List.Pairwise.filterMap _ ?_ ((mrising_iff _).1 h.1)
    rintro ⟨a, w⟩ ⟨a', w'⟩ hlt b hb b' hb'
    have h1 := (classWords_entry hb).1
    have h2 := (classWords_entry hb').1
    show b.1 < b'.1
    rw [h1, h2]
    exact hlt
  · obtain ⟨⟨a, w⟩, _, hb⟩ := List.mem_filterMap.1 he
    have h1 := classWords_entry hb
    rw [h1.1]
    exact h1.2

theorem State.survive_within {s : State} {kind : ResetKind} (pregs : Part.regs ∈ T) (pstaged : Part.staged ∈ T) (pshadow : Part.shadow ∈ T) (paccErr : Part.accErr ∈ T) (preadData : Part.readData ∈ T) (ptb : Part.tb ∈ T) (pcrown : Part.crown ∈ T) (pstg : Part.stg ∈ T) (ppwm : Part.pwm ∈ T) (ploop : Part.loop ∈ T) (ptrack : Part.track ∈ T) (pprot : Part.prot ∈ T) (phost : Part.host ∈ T) (prk : Part.rk ∈ T) (pscan : Part.scan ∈ T) (pimp : Part.imp ∈ T) (pest : Part.est ∈ T) (ptmx : Part.tmx ∈ T) (pdisp : Part.disp ∈ T) (peng : Part.eng ∈ T) (pringSt : Part.ringSt ∈ T) (pharv : Part.harv ∈ T) (pbal : Part.bal ∈ T) (ptherm : Part.therm ∈ T) (ptele : Part.tele ∈ T) (pnvm : Part.nvm ∈ T) (ptime : Part.time ∈ T) (pcan : Part.can ∈ T) (ppair : Part.pair ∈ T) (h0' : Within T s0 s) : Within T s0 (State.survive s kind) := by
  unfold State.survive
  extract_lets warm regs own seqs keepTask n nvm t
  have h1 : Within T s0 t := by
    unfold t
    exact
    { pending := h0'.pending
      canon := fun c => by
        show regsCanonical regs
        unfold regs
        exact classWords_canonical (h0'.canon c)
      regs := fun n => absurd pregs n
      staged := fun n => absurd pstaged n
      shadow := fun n => absurd pshadow n
      out := h0'.out
      free := h0'.free
      accErr := fun n => absurd paccErr n
      readData := fun n => absurd preadData n
      meas := h0'.meas
      tb := fun n => absurd ptb n
      crown := fun n => absurd pcrown n
      stg := fun n => absurd pstg n
      q91 := h0'.q91
      pwm := fun n => absurd ppwm n
      loop := fun n => absurd ploop n
      track := fun n => absurd ptrack n
      prot := fun n => absurd pprot n
      host := fun n => absurd phost n
      rk := fun n => absurd prk n
      scan := fun n => absurd pscan n
      imp := fun n => absurd pimp n
      est := fun n => absurd pest n
      tmx := fun n => absurd ptmx n
      disp := fun n => absurd pdisp n
      eng := fun n => absurd peng n
      ringSt := fun n => absurd pringSt n
      harv := fun n => absurd pharv n
      bal := fun n => absurd pbal n
      therm := fun n => absurd ptherm n
      tele := fun n => absurd ptele n
      nvm := fun n => absurd pnvm n
      time := fun n => absurd ptime n
      can := fun n => absurd pcan n
      pair := fun n => absurd ppair n
      alm := h0'.alm }
  clear_value t
  exact State.takeWords_within pregs (State.takeWords_within pregs h1)

theorem State.resetTo_within {s : State} {kind : ResetKind} {i : Start} (pregs : Part.regs ∈ T) (pstaged : Part.staged ∈ T) (pshadow : Part.shadow ∈ T) (paccErr : Part.accErr ∈ T) (preadData : Part.readData ∈ T) (ptb : Part.tb ∈ T) (pcrown : Part.crown ∈ T) (pstg : Part.stg ∈ T) (pq91 : Part.q91 ∈ T) (ppwm : Part.pwm ∈ T) (ploop : Part.loop ∈ T) (ptrack : Part.track ∈ T) (pprot : Part.prot ∈ T) (phost : Part.host ∈ T) (prk : Part.rk ∈ T) (pscan : Part.scan ∈ T) (pimp : Part.imp ∈ T) (pest : Part.est ∈ T) (ptmx : Part.tmx ∈ T) (pdisp : Part.disp ∈ T) (peng : Part.eng ∈ T) (pringSt : Part.ringSt ∈ T) (pharv : Part.harv ∈ T) (pbal : Part.bal ∈ T) (ptherm : Part.therm ∈ T) (ptele : Part.tele ∈ T) (pnvm : Part.nvm ∈ T) (ptime : Part.time ∈ T) (pcan : Part.can ∈ T) (ppair : Part.pair ∈ T) (palm : Part.alm ∈ T) (h0' : Within T s0 s) : Within T s0 (State.resetTo s kind i) := by
  unfold State.resetTo
  extract_lets s1 s2 s3
  have h4 : Within T s0 s1 := by
    unfold s1
    refine State.almRecover_within pregs pq91 prk pscan palm ?_
    refine State.startMonitor_within pregs ?_
    refine State.startStrap_within pregs ppair ?_
    refine State.startSupply_within pregs pcrown ?_
    refine State.startCause_within pregs ?_
    refine State.survive_within pregs pstaged pshadow paccErr preadData ptb pcrown pstg ppwm ploop ptrack pprot phost prk pscan pimp pest ptmx pdisp peng pringSt pharv pbal ptherm ptele pnvm ptime pcan ppair ?_
    exact h0'
  have h5 : Within T s0 s3 := by
    unfold s3
    refine within_ite ?_ ?_
    · refine State.wr_within pregs ?_
      exact h4
    · exact h4
  clear_value s1 s2 s3
  split
  · rename_i x6 x7 e8
    refine State.bootNew_within pregs pq91 pnvm ?_
    exact h5
  · rename_i x9 e10
    exact h5

theorem State.showBoot_within {s : State} (pregs : Part.regs ∈ T) (pq91 : Part.q91 ∈ T) (prk : Part.rk ∈ T) (pscan : Part.scan ∈ T) (pnvm : Part.nvm ∈ T) (h0' : Within T s0 s) : Within T s0 (State.showBoot s) := by
  unfold State.showBoot
  extract_lets s1 s2 s3 s4 s5 s6
  rename_i x7
  have h8 : Within T s0 s3 := by
    unfold s3
    refine within_ite ?_ ?_
    · exact h0'
    · refine State.wr_within pregs ?_
      exact h0'
  have h9 : Within T s0 s4 := by
    unfold s4
    refine within_ite ?_ ?_
    · refine State.wr_within pregs ?_
      exact h8
    · exact h8
  have h10 : Within T s0 s5 := by
    unfold s5
    refine State.wrB_within pregs ?_
    refine State.wrB_within pregs ?_
    refine State.wrB_within pregs ?_
    exact h9
  have h11 : Within T s0 s6 := by
    unfold s6
    refine within_ite ?_ ?_
    · refine State.raise_within pregs pq91 prk pscan ?_
      exact h10
    · exact h10
  clear_value s1 s2 s3 s4 s5 s6 x7
  exact within_upd h11 (nvm := .inl pnvm)

theorem State.showConfig_within {s : State} (pregs : Part.regs ∈ T) (h0' : Within T s0 s) : Within T s0 (State.showConfig s) := by
  unfold State.showConfig
  extract_lets s1 s2
  have h3 : Within T s0 s1 := by
    unfold s1
    refine State.showProgram_within pregs ?_
    refine State.wr_within pregs ?_
    exact h0'
  clear_value s1 s2
  refine State.wr_within pregs ?_
  exact h3

theorem State.startEngines_within {s : State} {failing : List ℕ} (pregs : Part.regs ∈ T) (pcrown : Part.crown ∈ T) (h0' : Within T s0 s) : Within T s0 (State.startEngines s failing) := by
  unfold State.startEngines
  extract_lets s1 s2
  rename_i x3
  have h4 : Within T s0 s1 := by
    unfold s1
    refine within_foldl ?_ ?_
    · exact h0'
    · intro s5 x6 h7
      refine within_ite ?_ ?_
      · refine State.wr_within pregs ?_
        exact h7
      · refine within_ite ?_ ?_
        · refine State.wr_within pregs ?_
          refine State.wrBit_within pregs ?_
          refine State.bump_within pregs ?_
          exact h7
        · refine State.enterService_within pregs ?_
          exact h7
  have h8 : Within T s0 s2 := by
    unfold s2
    refine State.moveCrown_within pregs ?_
    refine State.countEngines_within pregs ?_
    exact h4
  clear_value s1 s2 x3
  exact within_upd h8 (crown := .inl pcrown)

theorem State.showSds_within {s : State} (pregs : Part.regs ∈ T) (h0' : Within T s0 s) : Within T s0 (State.showSds s) := by
  unfold State.showSds
  refine State.wrB_within pregs ?_
  exact h0'

theorem State.startUp_within {s : State} {i : Start} (pregs : Part.regs ∈ T) (pout : Part.out ∈ T) (pcrown : Part.crown ∈ T) (pq91 : Part.q91 ∈ T) (prk : Part.rk ∈ T) (pscan : Part.scan ∈ T) (pest : Part.est ∈ T) (pringSt : Part.ringSt ∈ T) (ptele : Part.tele ∈ T) (pnvm : Part.nvm ∈ T) (h0' : Within T s0 s) : Within T s0 (State.startUp s i) := by
  unfold State.startUp
  extract_lets s1
  rename_i s2 s3 s4 s5 x6
  have h7 : Within T s0 s1 := by
    unfold s1
    refine State.bootSelect_within pregs pcrown pq91 pnvm ?_
    exact h0'
  have h8 : Within T s0 s2 := by
    unfold s2
    refine State.showBoot_within pregs pq91 prk pscan pnvm ?_
    exact h7
  have h9 : Within T s0 s3 := by
    unfold s3
    refine State.loadStores_within pregs pq91 prk pscan pest ptele pnvm ?_
    refine State.showConfig_within pregs ?_
    refine State.loadConfig_within pregs pq91 prk pscan pnvm ?_
    refine State.startEngines_within pregs pcrown ?_
    exact h8
  have h10 : Within T s0 s4 := by
    unfold s4
    refine within_ite ?_ ?_
    · refine State.wr_within pregs ?_
      exact h9
    · exact h9
  have h11 : Within T s0 s5 := by
    unfold s5
    refine within_ite ?_ ?_
    · refine State.showSds_within pregs ?_
      exact h10
    · refine State.startRing_within pregs pout pringSt ?_
      refine State.showSds_within pregs ?_
      exact h10
  clear_value s1 s2 s3 s4 s5 x6
  refine within_ite ?_ ?_
  · exact h7
  · exact within_upd h11 (crown := .inl pcrown)

theorem State.restart_within {s : State} {kind : ResetKind} {i : Start} (pregs : Part.regs ∈ T) (pstaged : Part.staged ∈ T) (pshadow : Part.shadow ∈ T) (pout : Part.out ∈ T) (paccErr : Part.accErr ∈ T) (preadData : Part.readData ∈ T) (ptb : Part.tb ∈ T) (pcrown : Part.crown ∈ T) (pstg : Part.stg ∈ T) (pq91 : Part.q91 ∈ T) (ppwm : Part.pwm ∈ T) (ploop : Part.loop ∈ T) (ptrack : Part.track ∈ T) (pprot : Part.prot ∈ T) (phost : Part.host ∈ T) (prk : Part.rk ∈ T) (pscan : Part.scan ∈ T) (pimp : Part.imp ∈ T) (pest : Part.est ∈ T) (ptmx : Part.tmx ∈ T) (pdisp : Part.disp ∈ T) (peng : Part.eng ∈ T) (pringSt : Part.ringSt ∈ T) (pharv : Part.harv ∈ T) (pbal : Part.bal ∈ T) (ptherm : Part.therm ∈ T) (ptele : Part.tele ∈ T) (pnvm : Part.nvm ∈ T) (ptime : Part.time ∈ T) (pcan : Part.can ∈ T) (ppair : Part.pair ∈ T) (palm : Part.alm ∈ T) (h0' : Within T s0 s) : Within T s0 (State.restart s kind i) := by
  unfold State.restart
  extract_lets s1 s2
  have h3 : Within T s0 s1 := by
    unfold s1
    refine State.degradeLost_within pq91 ?_
    exact h0'
  have h4 : Within T s0 s2 := by
    unfold s2
    refine State.resetTo_within pregs pstaged pshadow paccErr preadData ptb pcrown pstg pq91 ppwm ploop ptrack pprot phost prk pscan pimp pest ptmx pdisp peng pringSt pharv pbal ptherm ptele pnvm ptime pcan ppair palm ?_
    exact h3
  clear_value s1 s2
  refine State.startUp_within pregs pout pcrown pq91 prk pscan pest pringSt ptele pnvm ?_
  refine within_ite ?_ ?_
  · refine State.resetTo_within pregs pstaged pshadow paccErr preadData ptb pcrown pstg pq91 ppwm ploop ptrack pprot phost prk pscan pimp pest ptmx pdisp peng pringSt pharv pbal ptherm ptele pnvm ptime pcan ppair palm ?_
    refine State.almDrain_within pregs pout pq91 prk pscan ppair palm ?_
    refine State.fallbackStore_within pregs pq91 pest ptele pnvm ?_
    exact h4
  · exact h4

theorem State.resetOr_within {s : State} {kind : ResetKind} {i : Start} (pregs : Part.regs ∈ T) (pstaged : Part.staged ∈ T) (pshadow : Part.shadow ∈ T) (pout : Part.out ∈ T) (paccErr : Part.accErr ∈ T) (preadData : Part.readData ∈ T) (ptb : Part.tb ∈ T) (pcrown : Part.crown ∈ T) (pstg : Part.stg ∈ T) (pq91 : Part.q91 ∈ T) (ppwm : Part.pwm ∈ T) (ploop : Part.loop ∈ T) (ptrack : Part.track ∈ T) (pprot : Part.prot ∈ T) (phost : Part.host ∈ T) (prk : Part.rk ∈ T) (pscan : Part.scan ∈ T) (pimp : Part.imp ∈ T) (pest : Part.est ∈ T) (ptmx : Part.tmx ∈ T) (pdisp : Part.disp ∈ T) (peng : Part.eng ∈ T) (pringSt : Part.ringSt ∈ T) (pharv : Part.harv ∈ T) (pbal : Part.bal ∈ T) (ptherm : Part.therm ∈ T) (ptele : Part.tele ∈ T) (pnvm : Part.nvm ∈ T) (ptime : Part.time ∈ T) (pcan : Part.can ∈ T) (ppair : Part.pair ∈ T) (palm : Part.alm ∈ T) (h0' : Within T s0 s) : Within T s0 (State.resetOr s kind i) := by
  unfold State.resetOr
  refine within_ite ?_ ?_
  · exact within_upd h0' (crown := .inl pcrown)
  · refine State.restart_within pregs pstaged pshadow pout paccErr preadData ptb pcrown pstg pq91 ppwm ploop ptrack pprot phost prk pscan pimp pest ptmx pdisp peng pringSt pharv pbal ptherm ptele pnvm ptime pcan ppair palm ?_
    exact h0'

theorem State.updateReset_within {s : State} (pregs : Part.regs ∈ T) (pstaged : Part.staged ∈ T) (pshadow : Part.shadow ∈ T) (pout : Part.out ∈ T) (paccErr : Part.accErr ∈ T) (preadData : Part.readData ∈ T) (ptb : Part.tb ∈ T) (pcrown : Part.crown ∈ T) (pstg : Part.stg ∈ T) (pq91 : Part.q91 ∈ T) (ppwm : Part.pwm ∈ T) (ploop : Part.loop ∈ T) (ptrack : Part.track ∈ T) (pprot : Part.prot ∈ T) (phost : Part.host ∈ T) (prk : Part.rk ∈ T) (pscan : Part.scan ∈ T) (pimp : Part.imp ∈ T) (pest : Part.est ∈ T) (ptmx : Part.tmx ∈ T) (pdisp : Part.disp ∈ T) (peng : Part.eng ∈ T) (pringSt : Part.ringSt ∈ T) (pharv : Part.harv ∈ T) (pbal : Part.bal ∈ T) (ptherm : Part.therm ∈ T) (ptele : Part.tele ∈ T) (pnvm : Part.nvm ∈ T) (ptime : Part.time ∈ T) (pcan : Part.can ∈ T) (ppair : Part.pair ∈ T) (palm : Part.alm ∈ T) (h0' : Within T s0 s) : Within T s0 (State.updateReset s) := by
  unfold State.updateReset
  refine State.resetOr_within pregs pstaged pshadow pout paccErr preadData ptb pcrown pstg pq91 ppwm ploop ptrack pprot phost prk pscan pimp pest ptmx pdisp peng pringSt pharv pbal ptherm ptele pnvm ptime pcan ppair palm ?_
  refine State.almDrain_within pregs pout pq91 prk pscan ppair palm ?_
  exact h0'

/-! ## UpdateOps -/

theorem State.updResult_within {s : State} {code : ℕ} (pregs : Part.regs ∈ T) (pq91 : Part.q91 ∈ T) (prk : Part.rk ∈ T) (pscan : Part.scan ∈ T) (h0' : Within T s0 s) : Within T s0 (State.updResult s code) := by
  unfold State.updResult
  extract_lets s1
  have h2 : Within T s0 s1 := by
    unfold s1
    refine State.wr_within pregs ?_
    exact h0'
  clear_value s1
  refine within_ite ?_ ?_
  · exact h2
  · refine State.raise_within pregs pq91 prk pscan ?_
    exact h2

theorem State.flushJournals_within {s : State} {reason : ℕ} (pregs : Part.regs ∈ T) (pq91 : Part.q91 ∈ T) (prk : Part.rk ∈ T) (pscan : Part.scan ∈ T) (pest : Part.est ∈ T) (h0' : Within T s0 s) : Within T s0 (State.flushJournals s reason) := by
  unfold State.flushJournals
  extract_lets s1
  have h2 : Within T s0 s1 := by
    unfold s1
    refine State.commitWrite_within pregs pq91 prk pscan pest ?_
    refine State.commitWrite_within pregs pq91 prk pscan pest ?_
    refine State.commitWrite_within pregs pq91 prk pscan pest ?_
    exact h0'
  clear_value s1
  refine State.commitWrite_within pregs pq91 prk pscan pest ?_
  refine State.journal_within pregs pq91 prk pscan pest ?_
  refine State.commitWrite_within pregs pq91 prk pscan pest ?_
  refine State.journal_within pregs pq91 prk pscan pest ?_
  exact h2

theorem State.storeAll_within {s : State} (pregs : Part.regs ∈ T) (pq91 : Part.q91 ∈ T) (prk : Part.rk ∈ T) (pscan : Part.scan ∈ T) (pest : Part.est ∈ T) (ptele : Part.tele ∈ T) (pnvm : Part.nvm ∈ T) (h0' : Within T s0 s) : Within T s0 (State.storeAll s) := by
  unfold State.storeAll
  refine State.storeLregs_within pnvm ?_
  refine State.retainSlot_within pscan pnvm ?_
  refine State.counterSlot_within ptele ?_
  refine State.flushJournals_within pregs pq91 prk pscan pest ?_
  exact h0'

theorem State.activateNow_within {s : State} (pregs : Part.regs ∈ T) (pstaged : Part.staged ∈ T) (pshadow : Part.shadow ∈ T) (pout : Part.out ∈ T) (paccErr : Part.accErr ∈ T) (preadData : Part.readData ∈ T) (ptb : Part.tb ∈ T) (pcrown : Part.crown ∈ T) (pstg : Part.stg ∈ T) (pq91 : Part.q91 ∈ T) (ppwm : Part.pwm ∈ T) (ploop : Part.loop ∈ T) (ptrack : Part.track ∈ T) (pprot : Part.prot ∈ T) (phost : Part.host ∈ T) (prk : Part.rk ∈ T) (pscan : Part.scan ∈ T) (pimp : Part.imp ∈ T) (pest : Part.est ∈ T) (ptmx : Part.tmx ∈ T) (pdisp : Part.disp ∈ T) (peng : Part.eng ∈ T) (pringSt : Part.ringSt ∈ T) (pharv : Part.harv ∈ T) (pbal : Part.bal ∈ T) (ptherm : Part.therm ∈ T) (ptele : Part.tele ∈ T) (pnvm : Part.nvm ∈ T) (ptime : Part.time ∈ T) (pcan : Part.can ∈ T) (ppair : Part.pair ∈ T) (palm : Part.alm ∈ T) (h0' : Within T s0 s) : Within T s0 (State.activateNow s) := by
  unfold State.activateNow
  extract_lets s1
  have h2 : Within T s0 s1 := by
    unfold s1
    refine within_ite ?_ ?_
    · exact h0'
    · refine State.storeAll_within pregs pq91 prk pscan pest ptele pnvm ?_
      exact h0'
  clear_value s1
  refine State.updateReset_within pregs pstaged pshadow pout paccErr preadData ptb pcrown pstg pq91 ppwm ploop ptrack pprot phost prk pscan pimp pest ptmx pdisp peng pringSt pharv pbal ptherm ptele pnvm ptime pcan ppair palm ?_
  refine State.bootNew_within pregs pq91 pnvm ?_
  exact h2

theorem State.activateStart_within {s : State} (pregs : Part.regs ∈ T) (pstaged : Part.staged ∈ T) (pshadow : Part.shadow ∈ T) (pout : Part.out ∈ T) (paccErr : Part.accErr ∈ T) (preadData : Part.readData ∈ T) (ptb : Part.tb ∈ T) (pcrown : Part.crown ∈ T) (pstg : Part.stg ∈ T) (pq91 : Part.q91 ∈ T) (ppwm : Part.pwm ∈ T) (ploop : Part.loop ∈ T) (ptrack : Part.track ∈ T) (pprot : Part.prot ∈ T) (phost : Part.host ∈ T) (prk : Part.rk ∈ T) (pscan : Part.scan ∈ T) (pimp : Part.imp ∈ T) (pest : Part.est ∈ T) (ptmx : Part.tmx ∈ T) (pdisp : Part.disp ∈ T) (peng : Part.eng ∈ T) (pringSt : Part.ringSt ∈ T) (pharv : Part.harv ∈ T) (pbal : Part.bal ∈ T) (ptherm : Part.therm ∈ T) (ptele : Part.tele ∈ T) (pnvm : Part.nvm ∈ T) (ptime : Part.time ∈ T) (pcan : Part.can ∈ T) (ppair : Part.pair ∈ T) (palm : Part.alm ∈ T) (h0' : Within T s0 s) : Within T s0 (State.activateStart s) := by
  unfold State.activateStart
  extract_lets s1
  rename_i x2 x3 x4
  clear_value x2 x3 x4
  refine within_ite ?_ ?_
  · exact within_upd h0' (nvm := .inl pnvm)
  · refine within_ite ?_ ?_
    · refine within_ite ?_ ?_
      · exact within_upd h0' (nvm := .inl pnvm)
      · refine State.disconnect3_within pregs pout pcrown pq91 ptrack pprot prk pscan pest pringSt pbal ptele pnvm ?_
        exact within_upd h0' (crown := .inl pcrown) (track := .inl ptrack) (nvm := .inl pnvm)
    · refine State.activateNow_within pregs pstaged pshadow pout paccErr preadData ptb pcrown pstg pq91 ppwm ploop ptrack pprot phost prk pscan pimp pest ptmx pdisp peng pringSt pharv pbal ptherm ptele pnvm ptime pcan ppair palm ?_
      exact within_upd h0' (nvm := .inl pnvm)

theorem State.activate_within {s : State} {act : ℕ} (pregs : Part.regs ∈ T) (pstaged : Part.staged ∈ T) (pshadow : Part.shadow ∈ T) (pout : Part.out ∈ T) (paccErr : Part.accErr ∈ T) (preadData : Part.readData ∈ T) (ptb : Part.tb ∈ T) (pcrown : Part.crown ∈ T) (pstg : Part.stg ∈ T) (pq91 : Part.q91 ∈ T) (ppwm : Part.pwm ∈ T) (ploop : Part.loop ∈ T) (ptrack : Part.track ∈ T) (pprot : Part.prot ∈ T) (phost : Part.host ∈ T) (prk : Part.rk ∈ T) (pscan : Part.scan ∈ T) (pimp : Part.imp ∈ T) (pest : Part.est ∈ T) (ptmx : Part.tmx ∈ T) (pdisp : Part.disp ∈ T) (peng : Part.eng ∈ T) (pringSt : Part.ringSt ∈ T) (pharv : Part.harv ∈ T) (pbal : Part.bal ∈ T) (ptherm : Part.therm ∈ T) (ptele : Part.tele ∈ T) (pnvm : Part.nvm ∈ T) (ptime : Part.time ∈ T) (pcan : Part.can ∈ T) (ppair : Part.pair ∈ T) (palm : Part.alm ∈ T) (h0' : Within T s0 s) : Within T s0 (State.activate s act) := by
  unfold State.activate
  refine within_ite ?_ ?_
  · refine State.updResult_within pregs pq91 prk pscan ?_
    exact h0'
  · split
    · rename_i x1
      refine within_ite ?_ ?_
      · refine State.activateStart_within pregs pstaged pshadow pout paccErr preadData ptb pcrown pstg pq91 ppwm ploop ptrack pprot phost prk pscan pimp pest ptmx pdisp peng pringSt pharv pbal ptherm ptele pnvm ptime pcan ppair palm ?_
        refine State.updResult_within pregs pq91 prk pscan ?_
        exact h0'
      · refine State.updResult_within pregs pq91 prk pscan ?_
        exact h0'
    · rename_i x2
      refine within_ite ?_ ?_
      · extract_lets s3
        rename_i x4 x5
        have h6 : Within T s0 s3 := by
          unfold s3
          refine State.wr_within pregs ?_
          refine State.updResult_within pregs pq91 prk pscan ?_
          exact h0'
        clear_value s3 x4 x5
        exact within_upd h6 (nvm := .inl pnvm)
      · refine State.updResult_within pregs pq91 prk pscan ?_
        exact h0'
    · rename_i x7
      refine within_ite ?_ ?_
      · extract_lets s8
        rename_i x9
        have h10 : Within T s0 s8 := by
          unfold s8
          refine State.wr_within pregs ?_
          refine State.updResult_within pregs pq91 prk pscan ?_
          exact h0'
        clear_value s8 x9
        exact within_upd h10 (nvm := .inl pnvm)
      · refine State.updResult_within pregs pq91 prk pscan ?_
        exact h0'
    · rename_i x11 e12 e13 e14
      refine State.updResult_within pregs pq91 prk pscan ?_
      exact h0'

theorem State.confirm_within {s : State} (pregs : Part.regs ∈ T) (pq91 : Part.q91 ∈ T) (prk : Part.rk ∈ T) (pscan : Part.scan ∈ T) (pnvm : Part.nvm ∈ T) (h0' : Within T s0 s) : Within T s0 (State.confirm s) := by
  unfold State.confirm
  extract_lets s1 s2 s3 s4 s5 s6 s7 s8
  rename_i s9 s10
  have h11 : Within T s0 s3 := by
    unfold s3
    refine State.wr_within pregs ?_
    exact h0'
  have h12 : Within T s0 s6 := by
    unfold s6
    exact within_upd h11 (nvm := .inl pnvm)
  have h13 : Within T s0 s7 := by
    unfold s7
    refine State.wrB_within pregs ?_
    refine State.wr_within pregs ?_
    refine State.wrB_within pregs ?_
    exact h12
  have h14 : Within T s0 s8 := by
    unfold s8
    refine within_ite ?_ ?_
    · refine State.wr_within pregs ?_
      exact h13
    · exact h13
  have h15 : Within T s0 s9 := by
    unfold s9
    refine State.wr_within pregs ?_
    exact h14
  have h16 : Within T s0 s10 := by
    unfold s10
    refine State.raise_within pregs pq91 prk pscan ?_
    refine State.record_within pq91 ?_
    exact h15
  clear_value s1 s2 s3 s4 s5 s6 s7 s8 s9 s10
  refine State.wr_within pregs ?_
  exact h16

theorem State.endTransfer_within {s : State} (pregs : Part.regs ∈ T) (pnvm : Part.nvm ∈ T) (h0' : Within T s0 s) : Within T s0 (State.endTransfer s) := by
  unfold State.endTransfer
  extract_lets s1 s2
  rename_i x3
  have h4 : Within T s0 s1 := by
    unfold s1
    refine State.wr_within pregs ?_
    refine State.wr_within pregs ?_
    refine State.wr_within pregs ?_
    refine State.wr_within pregs ?_
    exact h0'
  have h5 : Within T s0 s2 := by
    unfold s2
    refine State.wr_within pregs ?_
    exact h4
  clear_value s1 s2 x3
  exact within_upd h5 (nvm := .inl pnvm)

theorem State.jubilee_within {s : State} {late : Bool} (pregs : Part.regs ∈ T) (pstaged : Part.staged ∈ T) (pshadow : Part.shadow ∈ T) (pout : Part.out ∈ T) (paccErr : Part.accErr ∈ T) (preadData : Part.readData ∈ T) (ptb : Part.tb ∈ T) (pcrown : Part.crown ∈ T) (pstg : Part.stg ∈ T) (pq91 : Part.q91 ∈ T) (ppwm : Part.pwm ∈ T) (ploop : Part.loop ∈ T) (ptrack : Part.track ∈ T) (pprot : Part.prot ∈ T) (phost : Part.host ∈ T) (prk : Part.rk ∈ T) (pscan : Part.scan ∈ T) (pimp : Part.imp ∈ T) (pest : Part.est ∈ T) (ptmx : Part.tmx ∈ T) (pdisp : Part.disp ∈ T) (peng : Part.eng ∈ T) (pringSt : Part.ringSt ∈ T) (pharv : Part.harv ∈ T) (pbal : Part.bal ∈ T) (ptherm : Part.therm ∈ T) (ptele : Part.tele ∈ T) (pnvm : Part.nvm ∈ T) (ptime : Part.time ∈ T) (pcan : Part.can ∈ T) (ppair : Part.pair ∈ T) (palm : Part.alm ∈ T) (h0' : Within T s0 s) : Within T s0 (State.jubilee s late) := by
  unfold State.jubilee
  refine within_ite ?_ ?_
  · exact h0'
  · refine within_ite ?_ ?_
    · exact within_upd h0' (nvm := .inl pnvm)
    · refine within_ite ?_ ?_
      · extract_lets s1
        rename_i x2 s3
        have h4 : Within T s0 s3 := by
          unfold s3
          exact within_upd h0' (nvm := .inl pnvm)
        clear_value s1 x2 s3
        refine State.activateStart_within pregs pstaged pshadow pout paccErr preadData ptb pcrown pstg pq91 ppwm ploop ptrack pprot phost prk pscan pimp pest ptmx pdisp peng pringSt pharv pbal ptherm ptele pnvm ptime pcan ppair palm ?_
        refine State.wrB_within pregs ?_
        exact h4
      · refine State.record_within pq91 ?_
        refine State.raise_within pregs pq91 prk pscan ?_
        refine State.wrB_within pregs ?_
        refine State.disarm_within pregs pnvm ?_
        exact h0'

theorem State.storeKey_within {s : State} {slot : ℕ} {key : List Byte} (pregs : Part.regs ∈ T) (pq91 : Part.q91 ∈ T) (prk : Part.rk ∈ T) (pscan : Part.scan ∈ T) (pnvm : Part.nvm ∈ T) (h0' : Within T s0 s) : Within T s0 (State.storeKey s slot key) := by
  unfold State.storeKey
  extract_lets s1
  rename_i x2
  have h3 : Within T s0 s1 := by
    unfold s1
    refine State.raise_within pregs pq91 prk pscan ?_
    refine State.record_within pq91 ?_
    exact h0'
  clear_value s1 x2
  exact within_upd h3 (nvm := .inl pnvm)

theorem State.keySel_within {s : State} {data : ℕ} (pregs : Part.regs ∈ T) (pq91 : Part.q91 ∈ T) (prk : Part.rk ∈ T) (pscan : Part.scan ∈ T) (pnvm : Part.nvm ∈ T) (h0' : Within T s0 s) : Within T s0 (State.keySel s data) := by
  unfold State.keySel
  extract_lets s1
  rename_i x2 x3 x4
  have h5 : Within T s0 s1 := by
    unfold s1
    refine State.wr_within pregs ?_
    exact h0'
  clear_value s1 x2 x3 x4
  refine within_ite ?_ ?_
  · exact h5
  · refine within_ite ?_ ?_
    · exact within_upd h5 (nvm := .inl pnvm)
    · refine State.storeKey_within pregs pq91 prk pscan pnvm ?_
      exact h5

theorem State.opAbort_within {s : State} {who : Initiator} (pregs : Part.regs ∈ T) (pq91 : Part.q91 ∈ T) (prk : Part.rk ∈ T) (pscan : Part.scan ∈ T) (pnvm : Part.nvm ∈ T) (h0' : Within T s0 s) : Within T s0 (State.opAbort s who) := by
  unfold State.opAbort
  refine within_ite ?_ ?_
  · refine State.updResult_within pregs pq91 prk pscan ?_
    exact h0'
  · refine within_ite ?_ ?_
    · refine State.updResult_within pregs pq91 prk pscan ?_
      exact h0'
    · refine State.updResult_within pregs pq91 prk pscan ?_
      refine State.endTransfer_within pregs pnvm ?_
      exact h0'

theorem State.ownerActs_within {s : State} (pnvm : Part.nvm ∈ T) (h0' : Within T s0 s) : Within T s0 (State.ownerActs s) := by
  unfold State.ownerActs
  exact within_upd h0' (nvm := .inl pnvm)

theorem State.programBlock_within {s : State} {k : ℕ} {b : List Byte} {fails : Fin 3} (pregs : Part.regs ∈ T) (pq91 : Part.q91 ∈ T) (prk : Part.rk ∈ T) (pscan : Part.scan ∈ T) (pnvm : Part.nvm ∈ T) (h0' : Within T s0 s) : Within T s0 (State.programBlock s k b fails) := by
  unfold State.programBlock
  extract_lets s1 s2 s3 s4
  rename_i s5 s6 x7 s8 x9 s10
  have h11 : Within T s0 s4 := by
    unfold s4
    refine within_ite ?_ ?_
    · refine State.erase_within pregs pnvm ?_
      exact h0'
    · exact h0'
  have h12 : Within T s0 s5 := by
    unfold s5
    refine State.record_within pq91 ?_
    refine State.lasting_within pregs ?_
    exact h11
  have h13 : Within T s0 s6 := by
    unfold s6
    refine within_ite ?_ ?_
    · refine State.retryPass_within pregs pq91 ?_
      exact h11
    · exact h11
  have h14 : Within T s0 s8 := by
    unfold s8
    refine State.setImage_within pnvm ?_
    exact h13
  have h15 : Within T s0 s10 := by
    unfold s10
    exact within_upd h14 (nvm := .inl pnvm)
  clear_value s1 s2 s3 s4 s5 s6 x7 s8 x9 s10
  refine within_ite ?_ ?_
  · refine State.updResult_within pregs pq91 prk pscan ?_
    refine State.endTransfer_within pregs pnvm ?_
    refine State.raise_within pregs pq91 prk pscan ?_
    exact h12
  · refine State.updResult_within pregs pq91 prk pscan ?_
    refine State.wr_within pregs ?_
    exact h15

theorem State.opBlock_within {s : State} {who : Initiator} {fails : Fin 3} (pregs : Part.regs ∈ T) (pq91 : Part.q91 ∈ T) (prk : Part.rk ∈ T) (pscan : Part.scan ∈ T) (pnvm : Part.nvm ∈ T) (h0' : Within T s0 s) : Within T s0 (State.opBlock s who fails) := by
  unfold State.opBlock
  extract_lets s1
  rename_i s2 x3 x4 x5 x6 x7 s8 x9 s10 x11 x12 s13
  have h14 : Within T s0 s2 := by
    unfold s2
    refine State.ownerActs_within pnvm ?_
    exact h0'
  have h15 : Within T s0 s8 := by
    unfold s8
    refine State.wr_within pregs ?_
    exact h14
  have h16 : Within T s0 s10 := by
    unfold s10
    exact within_upd h15 (nvm := .inl pnvm)
  have h17 : Within T s0 s13 := by
    unfold s13
    exact within_upd h16 (nvm := .inl pnvm)
  clear_value s1 s2 x3 x4 x5 x6 x7 s8 x9 s10 x11 x12 s13
  refine within_ite ?_ ?_
  · refine State.updResult_within pregs pq91 prk pscan ?_
    exact h0'
  · refine within_ite ?_ ?_
    · refine State.updResult_within pregs pq91 prk pscan ?_
      exact h0'
    · refine within_ite ?_ ?_
      · refine State.updResult_within pregs pq91 prk pscan ?_
        refine State.ownerActs_within pnvm ?_
        exact h0'
      · refine within_ite ?_ ?_
        · refine State.updResult_within pregs pq91 prk pscan ?_
          exact h14
        · refine within_ite ?_ ?_
          · refine State.updResult_within pregs pq91 prk pscan ?_
            exact h16
          · refine within_ite ?_ ?_
            · refine State.updResult_within pregs pq91 prk pscan ?_
              exact h16
            · refine within_ite ?_ ?_
              · refine State.updResult_within pregs pq91 prk pscan ?_
                exact h17
              · refine within_ite ?_ ?_
                · refine State.updResult_within pregs pq91 prk pscan ?_
                  exact h17
                · refine State.programBlock_within pregs pq91 prk pscan pnvm ?_
                  exact h17

theorem State.opFinish_within {s : State} {who : Initiator} (pregs : Part.regs ∈ T) (pq91 : Part.q91 ∈ T) (prk : Part.rk ∈ T) (pscan : Part.scan ∈ T) (pnvm : Part.nvm ∈ T) (h0' : Within T s0 s) : Within T s0 (State.opFinish s who) := by
  unfold State.opFinish
  extract_lets s1 s2
  rename_i s3 s4
  have h5 : Within T s0 s3 := by
    unfold s3
    refine State.ownerActs_within pnvm ?_
    exact h0'
  have h6 : Within T s0 s4 := by
    unfold s4
    refine State.wr_within pregs ?_
    refine State.showSlot_within pregs ?_
    refine State.wr_within pregs ?_
    exact h5
  clear_value s1 s2 s3 s4
  refine within_ite ?_ ?_
  · refine State.updResult_within pregs pq91 prk pscan ?_
    exact h0'
  · refine within_ite ?_ ?_
    · refine State.updResult_within pregs pq91 prk pscan ?_
      exact h0'
    · refine within_ite ?_ ?_
      · refine State.updResult_within pregs pq91 prk pscan ?_
        exact h5
      · refine State.raise_within pregs pq91 prk pscan ?_
        refine State.updResult_within pregs pq91 prk pscan ?_
        refine State.wr_within pregs ?_
        exact h6

theorem State.opHeader_within {s : State} {who : Initiator} (pregs : Part.regs ∈ T) (pq91 : Part.q91 ∈ T) (prk : Part.rk ∈ T) (pscan : Part.scan ∈ T) (pnvm : Part.nvm ∈ T) (h0' : Within T s0 s) : Within T s0 (State.opHeader s who) := by
  unfold State.opHeader
  refine within_ite ?_ ?_
  · refine State.updResult_within pregs pq91 prk pscan ?_
    exact h0'
  · refine within_ite ?_ ?_
    · refine State.updResult_within pregs pq91 prk pscan ?_
      exact h0'
    · extract_lets s1 s2 s3
      rename_i x4 s5 s6
      have h7 : Within T s0 s2 := by
        unfold s2
        refine State.ownerActs_within pnvm ?_
        exact h0'
      have h8 : Within T s0 s5 := by
        unfold s5
        refine State.erase_within pregs pnvm ?_
        refine State.setImage_within pnvm ?_
        refine State.endTransfer_within pregs pnvm ?_
        exact h7
      have h9 : Within T s0 s6 := by
        unfold s6
        refine State.wr_within pregs ?_
        refine State.wr_within pregs ?_
        refine State.wr_within pregs ?_
        exact h8
      clear_value s1 s2 s3 x4 s5 s6
      refine within_ite ?_ ?_
      · refine State.updResult_within pregs pq91 prk pscan ?_
        exact h7
      · refine State.raise_within pregs pq91 prk pscan ?_
        refine State.updResult_within pregs pq91 prk pscan ?_
        exact h9

theorem State.opTable_within {s : State} {who : Initiator} (pregs : Part.regs ∈ T) (pq91 : Part.q91 ∈ T) (prk : Part.rk ∈ T) (pscan : Part.scan ∈ T) (pnvm : Part.nvm ∈ T) (h0' : Within T s0 s) : Within T s0 (State.opTable s who) := by
  unfold State.opTable
  refine within_ite ?_ ?_
  · refine State.updResult_within pregs pq91 prk pscan ?_
    exact h0'
  · refine within_ite ?_ ?_
    · refine State.updResult_within pregs pq91 prk pscan ?_
      exact h0'
    · extract_lets s1 s2 s3 s4 s5 s6
      rename_i x7 x8 x9 x10 x11 s12 x13 s14 x15
      have h16 : Within T s0 s1 := by
        unfold s1
        refine State.ownerActs_within pnvm ?_
        exact h0'
      have h17 : Within T s0 s12 := by
        unfold s12
        refine State.setImage_within pnvm ?_
        exact h16
      have h18 : Within T s0 s14 := by
        unfold s14
        exact within_upd h17 (nvm := .inl pnvm)
      clear_value s1 s2 s3 s4 s5 s6 x7 x8 x9 x10 x11 s12 x13 s14 x15
      refine within_ite ?_ ?_
      · refine State.updResult_within pregs pq91 prk pscan ?_
        exact h16
      · refine within_ite ?_ ?_
        · refine State.updResult_within pregs pq91 prk pscan ?_
          exact h18
        · refine within_ite ?_ ?_
          · refine State.updResult_within pregs pq91 prk pscan ?_
            refine State.wr_within pregs ?_
            exact h18
          · refine State.updResult_within pregs pq91 prk pscan ?_
            exact within_upd h18 (nvm := .inl pnvm)

theorem State.showWindow_within {s : State} (pregs : Part.regs ∈ T) (h0' : Within T s0 s) : Within T s0 (State.showWindow s) := by
  unfold State.showWindow
  refine State.wr_within pregs ?_
  exact h0'

theorem State.updFallback_within {s : State} (pregs : Part.regs ∈ T) (pstaged : Part.staged ∈ T) (pshadow : Part.shadow ∈ T) (pout : Part.out ∈ T) (paccErr : Part.accErr ∈ T) (preadData : Part.readData ∈ T) (ptb : Part.tb ∈ T) (pcrown : Part.crown ∈ T) (pstg : Part.stg ∈ T) (pq91 : Part.q91 ∈ T) (ppwm : Part.pwm ∈ T) (ploop : Part.loop ∈ T) (ptrack : Part.track ∈ T) (pprot : Part.prot ∈ T) (phost : Part.host ∈ T) (prk : Part.rk ∈ T) (pscan : Part.scan ∈ T) (pimp : Part.imp ∈ T) (pest : Part.est ∈ T) (ptmx : Part.tmx ∈ T) (pdisp : Part.disp ∈ T) (peng : Part.eng ∈ T) (pringSt : Part.ringSt ∈ T) (pharv : Part.harv ∈ T) (pbal : Part.bal ∈ T) (ptherm : Part.therm ∈ T) (ptele : Part.tele ∈ T) (pnvm : Part.nvm ∈ T) (ptime : Part.time ∈ T) (pcan : Part.can ∈ T) (ppair : Part.pair ∈ T) (palm : Part.alm ∈ T) (h0' : Within T s0 s) : Within T s0 (State.updFallback s) := by
  unfold State.updFallback
  refine within_ite ?_ ?_
  · exact h0'
  · refine within_ite ?_ ?_
    · exact within_upd h0' (nvm := .inl pnvm)
    · refine State.updateReset_within pregs pstaged pshadow pout paccErr preadData ptb pcrown pstg pq91 ppwm ploop ptrack pprot phost prk pscan pimp pest ptmx pdisp peng pringSt pharv pbal ptherm ptele pnvm ptime pcan ppair palm ?_
      refine State.fallbackStore_within pregs pq91 pest ptele pnvm ?_
      exact h0'

theorem State.updateCmd_within {s : State} {who : Initiator} {data : ℕ} {fails : Fin 3} (pregs : Part.regs ∈ T) (pstaged : Part.staged ∈ T) (pshadow : Part.shadow ∈ T) (pout : Part.out ∈ T) (paccErr : Part.accErr ∈ T) (preadData : Part.readData ∈ T) (ptb : Part.tb ∈ T) (pcrown : Part.crown ∈ T) (pstg : Part.stg ∈ T) (pq91 : Part.q91 ∈ T) (ppwm : Part.pwm ∈ T) (ploop : Part.loop ∈ T) (ptrack : Part.track ∈ T) (pprot : Part.prot ∈ T) (phost : Part.host ∈ T) (prk : Part.rk ∈ T) (pscan : Part.scan ∈ T) (pimp : Part.imp ∈ T) (pest : Part.est ∈ T) (ptmx : Part.tmx ∈ T) (pdisp : Part.disp ∈ T) (peng : Part.eng ∈ T) (pringSt : Part.ringSt ∈ T) (pharv : Part.harv ∈ T) (pbal : Part.bal ∈ T) (ptherm : Part.therm ∈ T) (ptele : Part.tele ∈ T) (pnvm : Part.nvm ∈ T) (ptime : Part.time ∈ T) (pcan : Part.can ∈ T) (ppair : Part.pair ∈ T) (palm : Part.alm ∈ T) (h0' : Within T s0 s) : Within T s0 (State.updateCmd s who data fails) := by
  unfold State.updateCmd
  split
  · rename_i x1 e2
    refine State.opHeader_within pregs pq91 prk pscan pnvm ?_
    exact h0'
  · rename_i x3 e4
    refine State.opTable_within pregs pq91 prk pscan pnvm ?_
    exact h0'
  · rename_i x5 e6
    refine State.opBlock_within pregs pq91 prk pscan pnvm ?_
    exact h0'
  · rename_i x7 e8
    refine State.opFinish_within pregs pq91 prk pscan pnvm ?_
    exact h0'
  · rename_i x9 e10
    refine State.opAbort_within pregs pq91 prk pscan pnvm ?_
    exact h0'
  · rename_i x11 e12 e13 e14 e15 e16
    extract_lets s17
    rename_i s18 x19
    have h20 : Within T s0 s18 := by
      unfold s18
      refine State.updResult_within pregs pq91 prk pscan ?_
      exact h0'
    clear_value s17 s18 x19
    refine within_ite ?_ ?_
    · refine within_ite ?_ ?_
      · refine State.activate_within pregs pstaged pshadow pout paccErr preadData ptb pcrown pstg pq91 ppwm ploop ptrack pprot phost prk pscan pimp pest ptmx pdisp peng pringSt pharv pbal ptherm ptele pnvm ptime pcan ppair palm ?_
        exact h0'
      · exact h0'
    · refine within_ite ?_ ?_
      · refine within_ite ?_ ?_
        · refine State.updResult_within pregs pq91 prk pscan ?_
          refine State.disarm_within pregs pnvm ?_
          exact h0'
        · refine State.updResult_within pregs pq91 prk pscan ?_
          exact h0'
      · refine within_ite ?_ ?_
        · refine within_ite ?_ ?_
          · exact h0'
          · refine within_ite ?_ ?_
            · exact within_upd h20 (nvm := .inl pnvm)
            · refine State.updResult_within pregs pq91 prk pscan ?_
              exact h0'
        · exact h0'

/-! ## PtpOps -/

theorem State.abandon_within {s : State} {i : ℕ} (pregs : Part.regs ∈ T) (ptime : Part.time ∈ T) (h0' : Within T s0 s) : Within T s0 (State.abandon s i) := by
  unfold State.abandon
  refine State.bump_within pregs ?_
  refine State.setPtp_within ptime ?_
  exact h0'

theorem State.syncAccepted_within {s : State} {i : ℕ} {t2 : ℤ} (pregs : Part.regs ∈ T) (ptime : Part.time ∈ T) (h0' : Within T s0 s) : Within T s0 (State.syncAccepted s i t2) := by
  unfold State.syncAccepted
  extract_lets s1
  rename_i s2
  have h3 : Within T s0 s2 := by
    unfold s2
    refine State.setPtp_within ptime ?_
    refine State.bump_within pregs ?_
    exact h0'
  clear_value s1 s2
  refine within_ite ?_ ?_
  · refine State.wrB_within pregs ?_
    exact h3
  · exact h3

theorem State.setRate_within {s : State} {i : ℕ} {r : ℤ} (pregs : Part.regs ∈ T) (h0' : Within T s0 s) : Within T s0 (State.setRate s i r) := by
  unfold State.setRate
  extract_lets s1
  clear_value s1
  refine State.wrI_within pregs ?_
  refine State.wrI_within pregs ?_
  exact h0'

theorem State.acquire_within {s : State} {i : ℕ} {t1 : ℤ} {t2 : ℤ} (pregs : Part.regs ∈ T) (ptime : Part.time ∈ T) (h0' : Within T s0 s) : Within T s0 (State.acquire s i t1 t2) := by
  unfold State.acquire
  extract_lets s1 s2 s3
  rename_i x4 x5
  have h6 : Within T s0 s3 := by
    unfold s3
    refine State.syncAccepted_within pregs ptime ?_
    exact h0'
  clear_value s1 s2 s3 x4 x5
  split
  · rename_i x7 x8 x9 x10 e11
    refine within_ite ?_ ?_
    · extract_lets s12 s13
      clear_value s12 s13
      refine State.setRate_within pregs ?_
      refine State.setPtp_within ptime ?_
      exact h6
    · refine State.setPtp_within ptime ?_
      exact h6
  · rename_i x14 e15
    refine State.setPtp_within ptime ?_
    exact h6

theorem State.selectMaster_within {s : State} {i : ℕ} {f : Foreign} (pregs : Part.regs ∈ T) (ptime : Part.time ∈ T) (h0' : Within T s0 s) : Within T s0 (State.selectMaster s i f) := by
  unfold State.selectMaster
  extract_lets s1 s2 s3 s4 s5 s6
  rename_i x7
  clear_value s2
  have h8 : Within T s0 s3 := by
    unfold s3
    refine State.wr_within pregs ?_
    refine State.wr_within pregs ?_
    refine State.wr_within pregs ?_
    exact h0'
  have h9 : Within T s0 s4 := by
    unfold s4
    refine State.wr_within pregs ?_
    exact h8
  have h10 : Within T s0 s6 := by
    unfold s6
    refine within_ite ?_ ?_
    · exact h9
    · refine State.setPtp_within ptime ?_
      exact h9
  clear_value s1 s3 s4 s5 s6 x7
  split
  · rename_i x11 e12
    refine State.setPtp_within ptime ?_
    refine State.wr_within pregs ?_
    refine State.wr_within pregs ?_
    exact h10
  · rename_i x13 e14
    refine within_ite ?_ ?_
    · exact h10
    · refine State.setPtp_within ptime ?_
      refine State.wr_within pregs ?_
      refine State.wr_within pregs ?_
      exact h10
  · rename_i x15 e16 e17
    exact h10

theorem State.announced_within {s : State} {i : ℕ} {m : List Byte} (pregs : Part.regs ∈ T) (ptime : Part.time ∈ T) (h0' : Within T s0 s) : Within T s0 (State.announced s i m) := by
  unfold State.announced
  extract_lets s1 s2
  rename_i x3 x4 s5
  have h6 : Within T s0 s5 := by
    unfold s5
    refine State.setPtp_within ptime ?_
    exact h0'
  clear_value s1 s2 x3 x4 s5
  refine within_ite ?_ ?_
  · exact h0'
  · split
    · rename_i x7 x8 e9
      refine State.selectMaster_within pregs ptime ?_
      exact h6
    · rename_i x10 e11
      exact h6

theorem State.lockCount_within {s : State} {i : ℕ} {theta : ℤ} (pregs : Part.regs ∈ T) (pq91 : Part.q91 ∈ T) (prk : Part.rk ∈ T) (pscan : Part.scan ∈ T) (ptime : Part.time ∈ T) (h0' : Within T s0 s) : Within T s0 (State.lockCount s i theta) := by
  unfold State.lockCount
  extract_lets s1 s2 s3
  have h4 : Within T s0 s3 := by
    unfold s3
    refine State.setPtp_within ptime ?_
    exact h0'
  clear_value s1 s2 s3
  refine within_ite ?_ ?_
  · refine State.setSynced_within pregs pq91 prk pscan ?_
    refine State.setPtp_within ptime ?_
    refine State.raise_within pregs pq91 prk pscan ?_
    refine State.wr_within pregs ?_
    refine State.wr_within pregs ?_
    exact h4
  · exact h4

theorem State.servoTake_within {s : State} {i : ℕ} {theta : ℤ} {ts : ℤ} (pregs : Part.regs ∈ T) (pshadow : Part.shadow ∈ T) (ptb : Part.tb ∈ T) (pstg : Part.stg ∈ T) (pq91 : Part.q91 ∈ T) (prk : Part.rk ∈ T) (pscan : Part.scan ∈ T) (pest : Part.est ∈ T) (ptime : Part.time ∈ T) (pcan : Part.can ∈ T) (h0' : Within T s0 s) : Within T s0 (State.servoTake s i theta ts) := by
  unfold State.servoTake
  extract_lets s1 s2
  rename_i s3 x4 x5 x6 x7 x8 x9 x10 x11
  have h12 : Within T s0 s3 := by
    unfold s3
    refine State.raise_within pregs pq91 prk pscan ?_
    refine State.stepBase_within pregs pshadow ptb pstg pq91 prk pscan pest ptime pcan ?_
    exact h0'
  clear_value s1 s2 s3 x4 x5 x6 x7 x8 x9 x10 x11
  refine within_ite ?_ ?_
  · refine State.setRate_within pregs ?_
    refine State.setPtp_within ptime ?_
    exact h12
  · refine within_ite ?_ ?_
    · exact h0'
    · refine State.lockCount_within pregs pq91 prk pscan ptime ?_
      refine State.setRate_within pregs ?_
      refine State.setPtp_within ptime ?_
      exact h0'

theorem State.fallback_within {s : State} {ts : ℤ} (pregs : Part.regs ∈ T) (pshadow : Part.shadow ∈ T) (ptb : Part.tb ∈ T) (pstg : Part.stg ∈ T) (pq91 : Part.q91 ∈ T) (prk : Part.rk ∈ T) (pscan : Part.scan ∈ T) (pest : Part.est ∈ T) (ptime : Part.time ∈ T) (pcan : Part.can ∈ T) (h0' : Within T s0 s) : Within T s0 (State.fallback s ts) := by
  unfold State.fallback
  refine within_ite ?_ ?_
  · extract_lets s1 s2
    have h3 : Within T s0 s1 := by
      unfold s1
      refine within_ite ?_ ?_
      · exact h0'
      · refine State.raise_within pregs pq91 prk pscan ?_
        refine State.wrB_within pregs ?_
        exact h0'
    clear_value s1 s2
    refine State.servoTake_within pregs pshadow ptb pstg pq91 prk pscan pest ptime pcan ?_
    refine State.wrI_within pregs ?_
    exact h3
  · exact h0'

theorem State.offset_within {s : State} {i : ℕ} {theta : ℤ} {t2 : ℤ} (pregs : Part.regs ∈ T) (pshadow : Part.shadow ∈ T) (ptb : Part.tb ∈ T) (pstg : Part.stg ∈ T) (pq91 : Part.q91 ∈ T) (prk : Part.rk ∈ T) (pscan : Part.scan ∈ T) (pest : Part.est ∈ T) (ptime : Part.time ∈ T) (pcan : Part.can ∈ T) (h0' : Within T s0 s) : Within T s0 (State.offset s i theta t2) := by
  unfold State.offset
  extract_lets s1 s2 s3 s4 s5
  rename_i s6
  have h7 : Within T s0 s3 := by
    unfold s3
    refine State.wrI_within pregs ?_
    exact h0'
  have h8 : ∀ a0, Within T s0 a0 → Within T s0 (s5 a0) := by
    intro s9 h10
    unfold s5
    beta_reduce
    extract_lets s11
    have h12 : Within T s0 s11 := by
      unfold s11
      refine State.servoTake_within pregs pshadow ptb pstg pq91 prk pscan pest ptime pcan ?_
      refine State.syncAccepted_within pregs ptime ?_
      exact h10
    clear_value s11
    refine within_ite ?_ ?_
    · refine State.fallback_within pregs pshadow ptb pstg pq91 prk pscan pest ptime pcan ?_
      exact h12
    · exact h12
  clear_value s5
  have h13 : Within T s0 s6 := by
    unfold s6
    refine State.raise_within pregs pq91 prk pscan ?_
    refine State.bump_within pregs ?_
    refine State.wr_within pregs ?_
    refine State.wr_within pregs ?_
    refine State.setPtp_within ptime ?_
    exact h7
  clear_value s1 s2 s3 s4 s6
  refine within_ite ?_ ?_
  · refine State.setPtp_within ptime ?_
    exact h7
  · refine within_ite ?_ ?_
    · apply h8
      refine State.lastingW_within pregs pq91 ?_
      exact h13
    · refine within_ite ?_ ?_
      · apply h8
        refine State.bump_within pregs ?_
        refine State.retryPass_within pregs pq91 ?_
        refine State.setPtp_within ptime ?_
        exact h7
      · apply h8
        exact h7

theorem State.offsetOfLast_within {s : State} {i : ℕ} (pregs : Part.regs ∈ T) (pshadow : Part.shadow ∈ T) (ptb : Part.tb ∈ T) (pstg : Part.stg ∈ T) (pq91 : Part.q91 ∈ T) (prk : Part.rk ∈ T) (pscan : Part.scan ∈ T) (pest : Part.est ∈ T) (ptime : Part.time ∈ T) (pcan : Part.can ∈ T) (h0' : Within T s0 s) : Within T s0 (State.offsetOfLast s i) := by
  unfold State.offsetOfLast
  extract_lets s1
  clear_value s1
  split
  · rename_i x2 x3 x4 x5 x6 x7 x8 e9 e10
    refine State.offset_within pregs pshadow ptb pstg pq91 prk pscan pest ptime pcan ?_
    refine State.setPtp_within ptime ?_
    exact h0'
  · rename_i x11 x12 e13
    refine State.setPtp_within ptime ?_
    exact h0'

theorem State.delayDone_within {s : State} {i : ℕ} {d : ℤ} (pregs : Part.regs ∈ T) (pshadow : Part.shadow ∈ T) (ptb : Part.tb ∈ T) (pstg : Part.stg ∈ T) (pq91 : Part.q91 ∈ T) (prk : Part.rk ∈ T) (pscan : Part.scan ∈ T) (pest : Part.est ∈ T) (ptime : Part.time ∈ T) (pcan : Part.can ∈ T) (h0' : Within T s0 s) : Within T s0 (State.delayDone s i d) := by
  unfold State.delayDone
  refine within_ite ?_ ?_
  · exact h0'
  · extract_lets s1 s2 s3
    have h4 : Within T s0 s3 := by
      unfold s3
      refine State.wr_within pregs ?_
      refine State.setPtp_within ptime ?_
      exact h0'
    clear_value s1 s2 s3
    refine within_ite ?_ ?_
    · refine State.offsetOfLast_within pregs pshadow ptb pstg pq91 prk pscan pest ptime pcan ?_
      exact h4
    · exact h4

theorem State.e2eDone_within {s : State} {i : ℕ} (pregs : Part.regs ∈ T) (pshadow : Part.shadow ∈ T) (ptb : Part.tb ∈ T) (pstg : Part.stg ∈ T) (pq91 : Part.q91 ∈ T) (prk : Part.rk ∈ T) (pscan : Part.scan ∈ T) (pest : Part.est ∈ T) (ptime : Part.time ∈ T) (pcan : Part.can ∈ T) (h0' : Within T s0 s) : Within T s0 (State.e2eDone s i) := by
  unfold State.e2eDone
  extract_lets s1
  clear_value s1
  split
  · rename_i x2 x3 x4 x5 x6 x7 x8 x9 x10 x11 x12 e13 e14 e15
    refine within_ite ?_ ?_
    · refine State.delayDone_within pregs pshadow ptb pstg pq91 prk pscan pest ptime pcan ?_
      refine State.setPtp_within ptime ?_
      exact h0'
    · refine State.abandon_within pregs ptime ?_
      exact h0'
  · rename_i x16 x17 x18 e19
    exact h0'

theorem State.holdover_within {s : State} {i : ℕ} (pregs : Part.regs ∈ T) (pq91 : Part.q91 ∈ T) (prk : Part.rk ∈ T) (pscan : Part.scan ∈ T) (ptime : Part.time ∈ T) (h0' : Within T s0 s) : Within T s0 (State.holdover s i) := by
  unfold State.holdover
  extract_lets s1
  rename_i s2 s3 s4 s5
  have h6 : Within T s0 s2 := by
    unfold s2
    refine within_ite ?_ ?_
    · refine State.raise_within pregs pq91 prk pscan ?_
      exact h0'
    · exact h0'
  have h7 : Within T s0 s3 := by
    unfold s3
    refine State.raise_within pregs pq91 prk pscan ?_
    refine State.wr_within pregs ?_
    exact h6
  have h8 : Within T s0 s4 := by
    unfold s4
    refine within_ite ?_ ?_
    · refine State.voidCheck_within pregs ?_
      exact h7
    · exact h7
  have h9 : Within T s0 s5 := by
    unfold s5
    refine State.setPtp_within ptime ?_
    exact h8
  clear_value s1 s2 s3 s4 s5
  refine within_ite ?_ ?_
  · refine within_ite ?_ ?_
    · refine State.setRate_within pregs ?_
      exact h9
    · exact h9
  · exact h0'

theorem State.peerDone_within {s : State} {i : ℕ} {t4p : ℤ} {n4 : ℕ} {turn : ℤ} {cp : ℤ} (pregs : Part.regs ∈ T) (pshadow : Part.shadow ∈ T) (ptb : Part.tb ∈ T) (pstg : Part.stg ∈ T) (pq91 : Part.q91 ∈ T) (prk : Part.rk ∈ T) (pscan : Part.scan ∈ T) (pest : Part.est ∈ T) (ptime : Part.time ∈ T) (pcan : Part.can ∈ T) (h0' : Within T s0 s) : Within T s0 (State.peerDone s i t4p n4 turn cp) := by
  unfold State.peerDone
  extract_lets s1
  clear_value s1
  split
  · rename_i x2 x3 x4 e5
    refine within_ite ?_ ?_
    · refine State.delayDone_within pregs pshadow ptb pstg pq91 prk pscan pest ptime pcan ?_
      refine State.setPtp_within ptime ?_
      exact h0'
    · refine State.abandon_within pregs ptime ?_
      exact h0'
  · rename_i x6 e7
    exact h0'

theorem State.ptpEnable_within {s : State} {i : ℕ} {en : Bool} (pregs : Part.regs ∈ T) (ptime : Part.time ∈ T) (h0' : Within T s0 s) : Within T s0 (State.ptpEnable s i en) := by
  unfold State.ptpEnable
  extract_lets s1
  have h2 : Within T s0 s1 := by
    unfold s1
    refine within_ite ?_ ?_
    · refine State.voidCheck_within pregs ?_
      exact h0'
    · exact h0'
  clear_value s1
  refine State.wrB_within pregs ?_
  refine State.wr_within pregs ?_
  refine State.wr_within pregs ?_
  refine State.setPtp_within ptime ?_
  exact h2

theorem State.showStamp_within {s : State} {p : ℕ} {e : TxStamp} (pregs : Part.regs ∈ T) (h0' : Within T s0 s) : Within T s0 (State.showStamp s p e) := by
  unfold State.showStamp
  extract_lets s1
  clear_value s1
  refine State.wr_within pregs ?_
  refine State.wr_within pregs ?_
  refine State.wr_within pregs ?_
  refine State.wr_within pregs ?_
  exact h0'

theorem State.setTxq_within {s : State} {p : ℕ} {l : List TxStamp} (pregs : Part.regs ∈ T) (ptime : Part.time ∈ T) (h0' : Within T s0 s) : Within T s0 (State.setTxq s p l) := by
  unfold State.setTxq
  extract_lets s1 s2
  rename_i s3
  have h4 : Within T s0 s2 := by
    unfold s2
    exact within_upd h0' (time := .inl ptime)
  have h5 : Within T s0 s3 := by
    unfold s3
    refine State.wr_within pregs ?_
    exact h4
  clear_value s1 s2 s3
  refine within_ite ?_ ?_
  · refine State.wr_within pregs ?_
    exact h5
  · exact h5

theorem State.takeStamp_within {s : State} {port : ℕ} {e : TxStamp} (pregs : Part.regs ∈ T) (pshadow : Part.shadow ∈ T) (pout : Part.out ∈ T) (ptb : Part.tb ∈ T) (pstg : Part.stg ∈ T) (pq91 : Part.q91 ∈ T) (prk : Part.rk ∈ T) (pscan : Part.scan ∈ T) (pest : Part.est ∈ T) (ptime : Part.time ∈ T) (pcan : Part.can ∈ T) (h0' : Within T s0 s) : Within T s0 (State.takeStamp s port e) := by
  unfold State.takeStamp
  extract_lets s1 s2
  rename_i x3
  clear_value s1 s2 x3
  split
  · rename_i x4 e5
    refine State.e2eDone_within pregs pshadow ptb pstg pq91 prk pscan pest ptime pcan ?_
    refine State.setPtp_within ptime ?_
    exact h0'
  · rename_i x6 e7
    refine State.setPtp_within ptime ?_
    exact h0'
  · rename_i x8 e9 e10
    split
    · rename_i x11 x12 x13 x14 x15 e16
      extract_lets s17
      clear_value s17
      refine State.send_within pout ?_
      refine State.setPtp_within ptime ?_
      exact h0'
    · rename_i x18 e19
      exact h0'

theorem State.pushStamp_within {s : State} {port : ℕ} {e : TxStamp} (pregs : Part.regs ∈ T) (pshadow : Part.shadow ∈ T) (pout : Part.out ∈ T) (ptb : Part.tb ∈ T) (pstg : Part.stg ∈ T) (pq91 : Part.q91 ∈ T) (prk : Part.rk ∈ T) (pscan : Part.scan ∈ T) (pest : Part.est ∈ T) (ptime : Part.time ∈ T) (pcan : Part.can ∈ T) (h0' : Within T s0 s) : Within T s0 (State.pushStamp s port e) := by
  unfold State.pushStamp
  extract_lets s1
  rename_i s2 x3 s4
  have h5 : Within T s0 s2 := by
    unfold s2
    refine State.raise_within pregs pq91 prk pscan ?_
    refine State.bump_within pregs ?_
    exact h0'
  have h6 : Within T s0 s4 := by
    unfold s4
    refine State.showStamp_within pregs ?_
    refine State.setTxq_within pregs ptime ?_
    exact h0'
  clear_value s1 s2 x3 s4
  refine within_ite ?_ ?_
  · refine within_ite ?_ ?_
    · refine within_ite ?_ ?_
      · refine State.setPtp_within ptime ?_
        exact h5
      · refine State.abandon_within pregs ptime ?_
        exact h5
    · exact h5
  · refine within_ite ?_ ?_
    · refine State.takeStamp_within pregs pshadow pout ptb pstg pq91 prk pscan pest ptime pcan ?_
      refine State.setTxq_within pregs ptime ?_
      exact h6
    · exact h6

theorem State.syncDone_within {s : State} {i : ℕ} {t1 : ℤ} {t2 : ℤ} {cs : ℤ} (pregs : Part.regs ∈ T) (pshadow : Part.shadow ∈ T) (ptb : Part.tb ∈ T) (pstg : Part.stg ∈ T) (pq91 : Part.q91 ∈ T) (prk : Part.rk ∈ T) (pscan : Part.scan ∈ T) (pest : Part.est ∈ T) (ptime : Part.time ∈ T) (pcan : Part.can ∈ T) (h0' : Within T s0 s) : Within T s0 (State.syncDone s i t1 t2 cs) := by
  unfold State.syncDone
  extract_lets s1 s2 s3
  rename_i s4
  have h5 : Within T s0 s2 := by
    unfold s2
    refine within_ite ?_ ?_
    · refine State.setPtp_within ptime ?_
      refine State.wr_within pregs ?_
      refine State.wr_within pregs ?_
      exact h0'
    · exact h0'
  have h6 : Within T s0 s4 := by
    unfold s4
    refine State.setPtp_within ptime ?_
    exact h5
  clear_value s1 s2 s3 s4
  refine within_ite ?_ ?_
  · exact h6
  · refine within_ite ?_ ?_
    · refine State.offsetOfLast_within pregs pshadow ptb pstg pq91 prk pscan pest ptime pcan ?_
      exact h6
    · refine State.acquire_within pregs ptime ?_
      exact h6

end Sys2Proof.Machine
end

