-- ==== Sys2Proof/Laws/Within6.lean ====
section
/-!
SUPPORT. The parts of the state that each operation can change: TrackFam, SupplyFam, ProtFam.
-/
set_option Elab.async false
set_option linter.unusedSimpArgs false
set_option linter.unusedVariables false
set_option linter.unusedTactic false
set_option linter.unreachableTactic false
namespace Sys2Proof.Machine
open Sys2Proof

variable {T : List Part} {s0 : State}

/-! ## TrackFam -/

theorem State.clearWeld_within {s : State} (pregs : Part.regs ∈ T) (pprot : Part.prot ∈ T) (h0' : Within T s0 s) : Within T s0 (State.clearWeld s) := by
  unfold State.clearWeld
  refine within_ite ?_ ?_
  · refine within_foldl ?_ ?_
    · exact h0'
    · intro s1 x2 h3
      refine within_ite ?_ ?_
      · refine State.clearCond_within pregs pprot ?_
        refine State.wrBit_within pregs ?_
        exact h3
      · exact h3
  · exact h0'

theorem execClrWeld_within {who : Initiator} {s : State} (pregs : Part.regs ∈ T) (paccErr : Part.accErr ∈ T) (pq91 : Part.q91 ∈ T) (pprot : Part.prot ∈ T) (phost : Part.host ∈ T) (h1' : Within T s0 s) : ∃ u', (execClrWeld who s) = .next u' ∧ Within T s0 u' := by
  unfold execClrWeld
  refine ⟨_, rfl, ?_⟩
  refine State.asWrite_within pregs paccErr pq91 phost ?_ ?_
  · exact h1'
  · intro s1 h2
    refine State.clearWeld_within pregs pprot ?_
    exact h2

theorem execCoilOvercurrent_within {k : Fin 6} {s : State} (pregs : Part.regs ∈ T) (pout : Part.out ∈ T) (pq91 : Part.q91 ∈ T) (ppwm : Part.pwm ∈ T) (ploop : Part.loop ∈ T) (ptrack : Part.track ∈ T) (prk : Part.rk ∈ T) (pscan : Part.scan ∈ T) (pimp : Part.imp ∈ T) (pringSt : Part.ringSt ∈ T) (pbal : Part.bal ∈ T) (ppair : Part.pair ∈ T) (h1' : Within T s0 s) : ∃ u', (execCoilOvercurrent k s) = .next u' ∧ Within T s0 u' := by
  unfold execCoilOvercurrent
  extract_lets s1 s2
  clear_value s1 s2
  refine out_ite ?_ ?_
  · refine ⟨_, rfl, ?_⟩
    refine State.watchBus_within pregs pout pq91 ppwm ploop prk pscan pimp pringSt pbal ppair ?_
    refine State.setCoil_within ptrack ?_
    refine State.wrBit_within pregs ?_
    refine State.countLoaded_within pregs pq91 prk pscan ?_
    exact h1'
  · refine ⟨_, rfl, ?_⟩
    exact h1'

theorem State.advanceStart_within {s : State} (pregs : Part.regs ∈ T) (pout : Part.out ∈ T) (pcrown : Part.crown ∈ T) (pq91 : Part.q91 ∈ T) (ppwm : Part.pwm ∈ T) (ploop : Part.loop ∈ T) (ptrack : Part.track ∈ T) (pprot : Part.prot ∈ T) (prk : Part.rk ∈ T) (pscan : Part.scan ∈ T) (pimp : Part.imp ∈ T) (pest : Part.est ∈ T) (pringSt : Part.ringSt ∈ T) (pbal : Part.bal ∈ T) (ptele : Part.tele ∈ T) (pnvm : Part.nvm ∈ T) (ppair : Part.pair ∈ T) (h0' : Within T s0 s) : Within T s0 (State.advanceStart s) := by
  unfold State.advanceStart
  refine within_ite ?_ ?_
  · exact h0'
  · split
    · rename_i x1 e2
      refine within_ite ?_ ?_
      · extract_lets s3
        rename_i x4
        have h5 : Within T s0 s3 := by
          unfold s3
          refine State.toStep_within pregs ptrack ?_
          exact h0'
        clear_value s3 x4
        exact within_upd h5 (track := .inl ptrack)
      · exact h0'
    · rename_i x6 e7
      refine within_ite ?_ ?_
      · refine State.toStep_within pregs ptrack ?_
        refine State.energise_within pregs ptrack ?_
        refine State.energise_within pregs ptrack ?_
        exact h0'
      · exact h0'
    · rename_i x8 e9
      refine within_ite ?_ ?_
      · refine State.toStep_within pregs ptrack ?_
        refine State.release_within pregs pq91 ptrack prk pscan ?_
        exact h0'
      · exact h0'
    · rename_i x10 e11
      refine within_ite ?_ ?_
      · exact h0'
      · refine State.step7_within pregs pq91 ppwm ploop ptrack pprot prk pscan pest ptele pnvm ?_
        exact h0'
    · rename_i x12 e13
      refine within_ite ?_ ?_
      · refine State.toStep_within pregs ptrack ?_
        refine State.energise_within pregs ptrack ?_
        refine State.energise_within pregs ptrack ?_
        exact h0'
      · exact h0'
    · rename_i x14 e15
      refine within_ite ?_ ?_
      · refine State.busClosed_within pregs pout pcrown pq91 ppwm ploop ptrack pprot prk pscan pimp pest pringSt pbal ptele pnvm ppair ?_
        exact h0'
      · exact h0'
    · rename_i x16 e17
      refine within_ite ?_ ?_
      · refine State.toRun_within pregs pout pcrown pq91 ppwm ploop ptrack prk pscan pimp pringSt pbal ppair ?_
        refine State.toStep_within pregs ptrack ?_
        exact h0'
      · exact h0'
    · rename_i x18 e19 e20 e21 e22 e23 e24 e25
      exact h0'

theorem State.advanceOpen_within {s : State} (pregs : Part.regs ∈ T) (pout : Part.out ∈ T) (pcrown : Part.crown ∈ T) (pq91 : Part.q91 ∈ T) (ppwm : Part.pwm ∈ T) (ploop : Part.loop ∈ T) (ptrack : Part.track ∈ T) (pprot : Part.prot ∈ T) (prk : Part.rk ∈ T) (pscan : Part.scan ∈ T) (pest : Part.est ∈ T) (ptmx : Part.tmx ∈ T) (pringSt : Part.ringSt ∈ T) (pbal : Part.bal ∈ T) (ptele : Part.tele ∈ T) (pnvm : Part.nvm ∈ T) (h0' : Within T s0 s) : Within T s0 (State.advanceOpen s) := by
  unfold State.advanceOpen
  split
  · rename_i x1 x2 e3
    refine within_ite ?_ ?_
    · refine State.enterSafe_within pregs pout pcrown pq91 ppwm ploop ptrack pprot prk pscan pest ptmx pringSt pbal ptele pnvm ?_
      exact h0'
    · exact h0'
  · rename_i x4 e5
    refine within_ite ?_ ?_
    · exact h0'
    · refine within_ite ?_ ?_
      · refine State.abortEnds_within pregs pq91 ptrack pprot prk pscan pest ptele pnvm ?_
        exact h0'
      · refine within_ite ?_ ?_
        · refine State.abortFinish_within pregs pq91 ptrack pprot prk pscan pest ptele pnvm ?_
          exact h0'
        · refine within_ite ?_ ?_
          · refine State.disconnect4_within pregs pout pcrown pq91 ptrack pprot prk pscan pest pringSt pbal ptele pnvm ?_
            exact h0'
          · refine within_ite ?_ ?_
            · refine State.disconnectEnd_within pregs pout pcrown pq91 ptrack pprot prk pscan pest pringSt pbal ptele pnvm ?_
              exact h0'
            · exact h0'

theorem State.feedback_within {s : State} {n : ℕ} {closed : Bool} (pregs : Part.regs ∈ T) (pout : Part.out ∈ T) (pcrown : Part.crown ∈ T) (pq91 : Part.q91 ∈ T) (ppwm : Part.pwm ∈ T) (ploop : Part.loop ∈ T) (ptrack : Part.track ∈ T) (pprot : Part.prot ∈ T) (prk : Part.rk ∈ T) (pscan : Part.scan ∈ T) (pimp : Part.imp ∈ T) (pest : Part.est ∈ T) (ptmx : Part.tmx ∈ T) (pringSt : Part.ringSt ∈ T) (pbal : Part.bal ∈ T) (ptele : Part.tele ∈ T) (pnvm : Part.nvm ∈ T) (ppair : Part.pair ∈ T) (h0' : Within T s0 s) : Within T s0 (State.feedback s n closed) := by
  unfold State.feedback
  refine within_ite ?_ ?_
  · exact h0'
  · extract_lets s1 s2
    rename_i s3 s4 s5 s6 x7
    have h8 : Within T s0 s2 := by
      unfold s2
      refine State.wrBit_within pregs ?_
      exact h0'
    have h9 : Within T s0 s3 := by
      unfold s3
      refine State.wrBit_within pregs ?_
      refine State.raise_within pregs pq91 prk pscan ?_
      refine State.bump_within pregs ?_
      exact h8
    have h10 : Within T s0 s4 := by
      unfold s4
      refine within_ite ?_ ?_
      · refine State.retryPass_within pregs pq91 ?_
        exact h9
      · exact h9
    have h11 : Within T s0 s5 := by
      unfold s5
      refine State.raise_within pregs pq91 prk pscan ?_
      exact h8
    have h12 : Within T s0 s6 := by
      unfold s6
      refine within_ite ?_ ?_
      · refine State.retryPass_within pregs pq91 ?_
        exact h11
      · exact h11
    clear_value s1 s2 s3 s4 s5 s6 x7
    refine within_ite ?_ ?_
    · refine within_ite ?_ ?_
      · refine State.watchTest_within pregs pq91 ppwm ploop pprot prk pscan ptmx ?_
        refine State.advanceStart_within pregs pout pcrown pq91 ppwm ploop ptrack pprot prk pscan pimp pest pringSt pbal ptele pnvm ppair ?_
        refine State.setCoil_within ptrack ?_
        exact h10
      · refine State.watchTest_within pregs pq91 ppwm ploop pprot prk pscan ptmx ?_
        refine State.setCoil_within ptrack ?_
        refine State.raise_within pregs pq91 prk pscan ?_
        exact h8
    · refine State.advanceOpen_within pregs pout pcrown pq91 ppwm ploop ptrack pprot prk pscan pest ptmx pringSt pbal ptele pnvm ?_
      refine State.advanceStart_within pregs pout pcrown pq91 ppwm ploop ptrack pprot prk pscan pimp pest pringSt pbal ptele pnvm ppair ?_
      refine State.watchBus_within pregs pout pq91 ppwm ploop prk pscan pimp pringSt pbal ppair ?_
      refine State.setCoil_within ptrack ?_
      exact h12

theorem execContactorFeedback_within {k : Fin 6} {level : Bool} {s : State} (pregs : Part.regs ∈ T) (pout : Part.out ∈ T) (pcrown : Part.crown ∈ T) (pq91 : Part.q91 ∈ T) (ppwm : Part.pwm ∈ T) (ploop : Part.loop ∈ T) (ptrack : Part.track ∈ T) (pprot : Part.prot ∈ T) (prk : Part.rk ∈ T) (pscan : Part.scan ∈ T) (pimp : Part.imp ∈ T) (pest : Part.est ∈ T) (ptmx : Part.tmx ∈ T) (pringSt : Part.ringSt ∈ T) (pbal : Part.bal ∈ T) (ptele : Part.tele ∈ T) (pnvm : Part.nvm ∈ T) (ppair : Part.pair ∈ T) (h2' : Within T s0 s) : ∃ u', (execContactorFeedback k level s) = .next u' ∧ Within T s0 u' := by
  unfold execContactorFeedback
  extract_lets s1 s2
  rename_i s3
  have h4 : Within T s0 s3 := by
    unfold s3
    exact within_upd h2' (track := .inl ptrack)
  clear_value s1 s2 s3
  refine ⟨_, rfl, ?_⟩
  refine State.feedback_within pregs pout pcrown pq91 ppwm ploop ptrack pprot prk pscan pimp pest ptmx pringSt pbal ptele pnvm ppair ?_
  exact h4

theorem State.waitOver_within {s : State} (pregs : Part.regs ∈ T) (pout : Part.out ∈ T) (pcrown : Part.crown ∈ T) (pq91 : Part.q91 ∈ T) (ptrack : Part.track ∈ T) (pprot : Part.prot ∈ T) (prk : Part.rk ∈ T) (pscan : Part.scan ∈ T) (pest : Part.est ∈ T) (pringSt : Part.ringSt ∈ T) (pbal : Part.bal ∈ T) (ptele : Part.tele ∈ T) (pnvm : Part.nvm ∈ T) (h0' : Within T s0 s) : Within T s0 (State.waitOver s) := by
  unfold State.waitOver
  refine within_ite ?_ ?_
  · exact h0'
  · refine within_ite ?_ ?_
    · exact within_upd h0' (track := .inl ptrack)
    · refine within_ite ?_ ?_
      · refine State.abortBus_within pregs pq91 ptrack pprot prk pscan pest ptele pnvm ?_
        exact h0'
      · refine State.disconnect3_within pregs pout pcrown pq91 ptrack pprot prk pscan pest pringSt pbal ptele pnvm ?_
        exact h0'

theorem execDisconnectWaitExpiry_within {s : State} (pregs : Part.regs ∈ T) (pout : Part.out ∈ T) (pcrown : Part.crown ∈ T) (pq91 : Part.q91 ∈ T) (ptrack : Part.track ∈ T) (pprot : Part.prot ∈ T) (prk : Part.rk ∈ T) (pscan : Part.scan ∈ T) (pest : Part.est ∈ T) (pringSt : Part.ringSt ∈ T) (pbal : Part.bal ∈ T) (ptele : Part.tele ∈ T) (pnvm : Part.nvm ∈ T) (h0' : Within T s0 s) : ∃ u', (execDisconnectWaitExpiry s) = .next u' ∧ Within T s0 u' := by
  unfold execDisconnectWaitExpiry
  refine ⟨_, rfl, ?_⟩
  refine State.waitOver_within pregs pout pcrown pq91 ptrack pprot prk pscan pest pringSt pbal ptele pnvm ?_
  exact h0'

theorem State.closeFailed_within {s : State} {n : ℕ} (pregs : Part.regs ∈ T) (pq91 : Part.q91 ∈ T) (ppwm : Part.pwm ∈ T) (ptrack : Part.track ∈ T) (pprot : Part.prot ∈ T) (prk : Part.rk ∈ T) (pscan : Part.scan ∈ T) (pest : Part.est ∈ T) (ptele : Part.tele ∈ T) (pnvm : Part.nvm ∈ T) (h0' : Within T s0 s) : Within T s0 (State.closeFailed s n) := by
  unfold State.closeFailed
  extract_lets s1 s2 s3
  have h4 : Within T s0 s1 := by
    unfold s1
    refine State.record_within pq91 ?_
    refine State.lasting_within pregs ?_
    refine State.raise_within pregs pq91 prk pscan ?_
    refine State.wrBit_within pregs ?_
    exact h0'
  have h5 : Within T s0 s2 := by
    unfold s2
    refine State.setCoil_within ptrack ?_
    refine State.wrBit_within pregs ?_
    exact h4
  clear_value s1 s2 s3
  refine within_ite ?_ ?_
  · refine State.abortStart_within pregs pq91 ppwm ptrack pprot prk pscan pest ptele pnvm ?_
    exact h5
  · exact h5

theorem execFbCloseTimeout_within {k : Fin 6} {s : State} (pregs : Part.regs ∈ T) (pq91 : Part.q91 ∈ T) (ppwm : Part.pwm ∈ T) (ptrack : Part.track ∈ T) (pprot : Part.prot ∈ T) (prk : Part.rk ∈ T) (pscan : Part.scan ∈ T) (pest : Part.est ∈ T) (ptele : Part.tele ∈ T) (pnvm : Part.nvm ∈ T) (h1' : Within T s0 s) : ∃ u', (execFbCloseTimeout k s) = .next u' ∧ Within T s0 u' := by
  unfold execFbCloseTimeout
  extract_lets s1 s2
  clear_value s1 s2
  refine out_ite ?_ ?_
  · refine ⟨_, rfl, ?_⟩
    exact h1'
  · refine out_ite ?_ ?_
    · refine ⟨_, rfl, ?_⟩
      refine State.setCoil_within ptrack ?_
      refine State.wrBit_within pregs ?_
      exact h1'
    · refine ⟨_, rfl, ?_⟩
      refine State.closeFailed_within pregs pq91 ppwm ptrack pprot prk pscan pest ptele pnvm ?_
      exact h1'

theorem execFbOpenTimeout_within {k : Fin 6} {s : State} (pregs : Part.regs ∈ T) (pshadow : Part.shadow ∈ T) (pout : Part.out ∈ T) (pcrown : Part.crown ∈ T) (pstg : Part.stg ∈ T) (pq91 : Part.q91 ∈ T) (ppwm : Part.pwm ∈ T) (ploop : Part.loop ∈ T) (ptrack : Part.track ∈ T) (pprot : Part.prot ∈ T) (prk : Part.rk ∈ T) (pscan : Part.scan ∈ T) (pimp : Part.imp ∈ T) (pest : Part.est ∈ T) (ptmx : Part.tmx ∈ T) (pringSt : Part.ringSt ∈ T) (pbal : Part.bal ∈ T) (ptele : Part.tele ∈ T) (pnvm : Part.nvm ∈ T) (ppair : Part.pair ∈ T) (h1' : Within T s0 s) : ∃ u', (execFbOpenTimeout k s) = .next u' ∧ Within T s0 u' := by
  unfold execFbOpenTimeout
  extract_lets s1 s2
  clear_value s1 s2
  refine out_ite ?_ ?_
  · refine ⟨_, rfl, ?_⟩
    exact h1'
  · refine out_ite ?_ ?_
    · refine ⟨_, rfl, ?_⟩
      refine State.setCoil_within ptrack ?_
      exact h1'
    · refine ⟨_, rfl, ?_⟩
      refine State.advanceOpen_within pregs pout pcrown pq91 ppwm ploop ptrack pprot prk pscan pest ptmx pringSt pbal ptele pnvm ?_
      refine State.weldFound_within pregs pshadow pout pcrown pstg pq91 ppwm ploop ptrack pprot prk pscan pimp pest ptmx pringSt pbal ptele pnvm ppair ?_
      refine State.setCoil_within ptrack ?_
      exact h1'

theorem execFbRepull_within {k : Fin 6} {s : State} (pregs : Part.regs ∈ T) (ptrack : Part.track ∈ T) (h1' : Within T s0 s) : ∃ u', (execFbRepull k s) = .next u' ∧ Within T s0 u' := by
  unfold execFbRepull
  extract_lets s1
  clear_value s1
  refine out_ite ?_ ?_
  · refine ⟨_, rfl, ?_⟩
    exact h1'
  · refine out_ite ?_ ?_
    · refine ⟨_, rfl, ?_⟩
      refine State.setCoil_within ptrack ?_
      exact h1'
    · refine ⟨_, rfl, ?_⟩
      refine State.energise_within pregs ptrack ?_
      exact h1'

theorem execFormAt_within {s : State} (pregs : Part.regs ∈ T) (ploop : Part.loop ∈ T) (ptrack : Part.track ∈ T) (h0' : Within T s0 s) : ∃ u', (execFormAt s) = .next u' ∧ Within T s0 u' := by
  unfold execFormAt
  refine out_ite ?_ ?_
  · refine ⟨_, rfl, ?_⟩
    exact within_upd h0' (track := .inl ptrack)
  · refine out_ite ?_ ?_
    · extract_lets s1
      rename_i x2 s3 s4 x5
      have h6 : Within T s0 s1 := by
        unfold s1
        refine State.wrB_within pregs ?_
        exact h0'
      have h7 : Within T s0 s3 := by
        unfold s3
        exact within_upd h6 (track := .inl ptrack)
      have h8 : Within T s0 s4 := by
        unfold s4
        refine State.presetTo_within ploop ?_
        exact h7
      clear_value x5
      clear_value s4
      clear_value x2
      refine ⟨_, rfl, ?_⟩
      refine within_ite ?_ ?_
      · exact h7
      · exact within_upd h8 (loop := .inl ploop)
    · refine ⟨_, rfl, ?_⟩
      exact h0'

theorem execFormedHeld_within {s : State} (pregs : Part.regs ∈ T) (pout : Part.out ∈ T) (pcrown : Part.crown ∈ T) (pq91 : Part.q91 ∈ T) (ppwm : Part.pwm ∈ T) (ploop : Part.loop ∈ T) (ptrack : Part.track ∈ T) (pprot : Part.prot ∈ T) (prk : Part.rk ∈ T) (pscan : Part.scan ∈ T) (pimp : Part.imp ∈ T) (pest : Part.est ∈ T) (pringSt : Part.ringSt ∈ T) (pbal : Part.bal ∈ T) (ptele : Part.tele ∈ T) (pnvm : Part.nvm ∈ T) (ppair : Part.pair ∈ T) (h0' : Within T s0 s) : ∃ u', (execFormedHeld s) = .next u' ∧ Within T s0 u' := by
  unfold execFormedHeld
  refine out_ite ?_ ?_
  · refine ⟨_, rfl, ?_⟩
    refine State.advanceStart_within pregs pout pcrown pq91 ppwm ploop ptrack pprot prk pscan pimp pest pringSt pbal ptele pnvm ppair ?_
    extract_lets s1
    rename_i x2
    have h3 : Within T s0 s1 := by
      unfold s1
      refine State.raise_within pregs pq91 prk pscan ?_
      exact h0'
    clear_value s1 x2
    exact within_upd h3 (track := .inl ptrack)
  · refine ⟨_, rfl, ?_⟩
    exact h0'

theorem State.k6Switch_within {s : State} {on : Bool} (pregs : Part.regs ∈ T) (pq91 : Part.q91 ∈ T) (ptrack : Part.track ∈ T) (prk : Part.rk ∈ T) (pscan : Part.scan ∈ T) (h0' : Within T s0 s) : Within T s0 (State.k6Switch s on) := by
  unfold State.k6Switch
  refine within_ite ?_ ?_
  · refine within_ite ?_ ?_
    · refine State.energise_within pregs ptrack ?_
      exact h0'
    · refine State.release_within pregs pq91 ptrack prk pscan ?_
      exact h0'
  · exact h0'

theorem execK6Off_within {who : Initiator} {s : State} (pregs : Part.regs ∈ T) (paccErr : Part.accErr ∈ T) (pq91 : Part.q91 ∈ T) (ptrack : Part.track ∈ T) (phost : Part.host ∈ T) (prk : Part.rk ∈ T) (pscan : Part.scan ∈ T) (h1' : Within T s0 s) : ∃ u', (execK6Off who s) = .next u' ∧ Within T s0 u' := by
  unfold execK6Off
  refine ⟨_, rfl, ?_⟩
  refine State.asWrite_within pregs paccErr pq91 phost ?_ ?_
  · exact h1'
  · intro s1 h2
    refine State.k6Switch_within pregs pq91 ptrack prk pscan ?_
    exact h2

theorem execK6On_within {who : Initiator} {s : State} (pregs : Part.regs ∈ T) (paccErr : Part.accErr ∈ T) (pq91 : Part.q91 ∈ T) (ptrack : Part.track ∈ T) (phost : Part.host ∈ T) (prk : Part.rk ∈ T) (pscan : Part.scan ∈ T) (h1' : Within T s0 s) : ∃ u', (execK6On who s) = .next u' ∧ Within T s0 u' := by
  unfold execK6On
  refine ⟨_, rfl, ?_⟩
  refine State.asWrite_within pregs paccErr pq91 phost ?_ ?_
  · exact h1'
  · intro s1 h2
    refine State.k6Switch_within pregs pq91 ptrack prk pscan ?_
    exact h2

theorem execMeetHeld_within {s : State} (pregs : Part.regs ∈ T) (pout : Part.out ∈ T) (pcrown : Part.crown ∈ T) (pq91 : Part.q91 ∈ T) (ppwm : Part.pwm ∈ T) (ploop : Part.loop ∈ T) (ptrack : Part.track ∈ T) (pprot : Part.prot ∈ T) (prk : Part.rk ∈ T) (pscan : Part.scan ∈ T) (pimp : Part.imp ∈ T) (pest : Part.est ∈ T) (pringSt : Part.ringSt ∈ T) (pbal : Part.bal ∈ T) (ptele : Part.tele ∈ T) (pnvm : Part.nvm ∈ T) (ppair : Part.pair ∈ T) (h0' : Within T s0 s) : ∃ u', (execMeetHeld s) = .next u' ∧ Within T s0 u' := by
  unfold execMeetHeld
  refine out_ite ?_ ?_
  · refine ⟨_, rfl, ?_⟩
    refine State.advanceStart_within pregs pout pcrown pq91 ppwm ploop ptrack pprot prk pscan pimp pest pringSt pbal ptele pnvm ppair ?_
    extract_lets s1
    rename_i x2
    have h3 : Within T s0 s1 := by
      unfold s1
      refine State.raise_within pregs pq91 prk pscan ?_
      exact h0'
    clear_value s1 x2
    exact within_upd h3 (track := .inl ptrack)
  · refine ⟨_, rfl, ?_⟩
    exact h0'

theorem execMeetTimeout_within {s : State} (pregs : Part.regs ∈ T) (pq91 : Part.q91 ∈ T) (ppwm : Part.pwm ∈ T) (ptrack : Part.track ∈ T) (pprot : Part.prot ∈ T) (prk : Part.rk ∈ T) (pscan : Part.scan ∈ T) (pest : Part.est ∈ T) (ptele : Part.tele ∈ T) (pnvm : Part.nvm ∈ T) (h0' : Within T s0 s) : ∃ u', (execMeetTimeout s) = .next u' ∧ Within T s0 u' := by
  unfold execMeetTimeout
  refine out_ite ?_ ?_
  · refine ⟨_, rfl, ?_⟩
    refine State.abortStart_within pregs pq91 ppwm ptrack pprot prk pscan pest ptele pnvm ?_
    exact h0'
  · refine ⟨_, rfl, ?_⟩
    exact h0'

theorem execPreCheckReread_within {r : Readings} {s : State} (pregs : Part.regs ∈ T) (pshadow : Part.shadow ∈ T) (pout : Part.out ∈ T) (pmeas : Part.meas ∈ T) (pcrown : Part.crown ∈ T) (pstg : Part.stg ∈ T) (pq91 : Part.q91 ∈ T) (ppwm : Part.pwm ∈ T) (ploop : Part.loop ∈ T) (ptrack : Part.track ∈ T) (pprot : Part.prot ∈ T) (prk : Part.rk ∈ T) (pscan : Part.scan ∈ T) (pimp : Part.imp ∈ T) (pest : Part.est ∈ T) (ptmx : Part.tmx ∈ T) (pringSt : Part.ringSt ∈ T) (pbal : Part.bal ∈ T) (ptele : Part.tele ∈ T) (pnvm : Part.nvm ∈ T) (ppair : Part.pair ∈ T) (h1' : Within T s0 s) : ∃ u', (execPreCheckReread r s) = .next u' ∧ Within T s0 u' := by
  unfold execPreCheckReread
  refine out_ite ?_ ?_
  · refine ⟨_, rfl, ?_⟩
    exact h1'
  · refine out_ite ?_ ?_
    · refine ⟨_, rfl, ?_⟩
      exact within_upd h1' (meas := .inl pmeas) (track := .inl ptrack)
    · refine ⟨_, rfl, ?_⟩
      refine State.preCheckStep_within pregs pshadow pout pcrown pstg pq91 ppwm ploop ptrack pprot prk pscan pimp pest ptmx pringSt pbal ptele pnvm ppair ?_
      exact within_upd h1' (meas := .inl pmeas)

theorem execPrechargeEnd_within {ms : ℕ} {s : State} (pregs : Part.regs ∈ T) (pout : Part.out ∈ T) (pcrown : Part.crown ∈ T) (pq91 : Part.q91 ∈ T) (ppwm : Part.pwm ∈ T) (ploop : Part.loop ∈ T) (ptrack : Part.track ∈ T) (pprot : Part.prot ∈ T) (prk : Part.rk ∈ T) (pscan : Part.scan ∈ T) (pimp : Part.imp ∈ T) (pest : Part.est ∈ T) (pringSt : Part.ringSt ∈ T) (pbal : Part.bal ∈ T) (ptele : Part.tele ∈ T) (pnvm : Part.nvm ∈ T) (ppair : Part.pair ∈ T) (h1' : Within T s0 s) : ∃ u', (execPrechargeEnd ms s) = .next u' ∧ Within T s0 u' := by
  unfold execPrechargeEnd
  refine out_ite ?_ ?_
  · extract_lets s1
    rename_i x2
    have h3 : Within T s0 s1 := by
      unfold s1
      refine State.raise_within pregs pq91 prk pscan ?_
      refine State.wr_within pregs ?_
      exact h1'
    clear_value s1 x2
    refine ⟨_, rfl, ?_⟩
    refine State.advanceStart_within pregs pout pcrown pq91 ppwm ploop ptrack pprot prk pscan pimp pest pringSt pbal ptele pnvm ppair ?_
    exact within_upd h3 (track := .inl ptrack)
  · refine ⟨_, rfl, ?_⟩
    exact h1'

theorem execPrechargePeakWindow_within {peak : ℕ} {s : State} (pregs : Part.regs ∈ T) (pq91 : Part.q91 ∈ T) (ppwm : Part.pwm ∈ T) (ptrack : Part.track ∈ T) (pprot : Part.prot ∈ T) (prk : Part.rk ∈ T) (pscan : Part.scan ∈ T) (pest : Part.est ∈ T) (ptele : Part.tele ∈ T) (pnvm : Part.nvm ∈ T) (h1' : Within T s0 s) : ∃ u', (execPrechargePeakWindow peak s) = .next u' ∧ Within T s0 u' := by
  unfold execPrechargePeakWindow
  refine out_ite ?_ ?_
  · extract_lets s1 s2
    rename_i x3
    have h4 : Within T s0 s1 := by
      unfold s1
      refine State.wr_within pregs ?_
      exact h1'
    clear_value s1 s2 x3
    refine out_ite ?_ ?_
    · refine ⟨_, rfl, ?_⟩
      exact h4
    · refine out_ite ?_ ?_
      · refine ⟨_, rfl, ?_⟩
        exact within_upd h4 (track := .inl ptrack)
      · refine ⟨_, rfl, ?_⟩
        refine State.abortStart_within pregs pq91 ppwm ptrack pprot prk pscan pest ptele pnvm ?_
        exact h4
  · refine ⟨_, rfl, ?_⟩
    exact h1'

theorem execPrechargeTimeout_within {s : State} (pregs : Part.regs ∈ T) (pq91 : Part.q91 ∈ T) (ppwm : Part.pwm ∈ T) (ptrack : Part.track ∈ T) (pprot : Part.prot ∈ T) (prk : Part.rk ∈ T) (pscan : Part.scan ∈ T) (pest : Part.est ∈ T) (ptele : Part.tele ∈ T) (pnvm : Part.nvm ∈ T) (h0' : Within T s0 s) : ∃ u', (execPrechargeTimeout s) = .next u' ∧ Within T s0 u' := by
  unfold execPrechargeTimeout
  refine out_ite ?_ ?_
  · refine ⟨_, rfl, ?_⟩
    refine State.abortStart_within pregs pq91 ppwm ptrack pprot prk pscan pest ptele pnvm ?_
    exact h0'
  · refine ⟨_, rfl, ?_⟩
    exact h0'

theorem execPullInEnd_within {k : Fin 6} {s : State} (ptrack : Part.track ∈ T) (h1' : Within T s0 s) : ∃ u', (execPullInEnd k s) = .next u' ∧ Within T s0 u' := by
  unfold execPullInEnd
  extract_lets s1 s2
  clear_value s1 s2
  refine out_ite ?_ ?_
  · refine ⟨_, rfl, ?_⟩
    refine State.setCoil_within ptrack ?_
    exact h1'
  · refine ⟨_, rfl, ?_⟩
    exact h1'

theorem State.startAgain_within {s : State} (pregs : Part.regs ∈ T) (pshadow : Part.shadow ∈ T) (pout : Part.out ∈ T) (pcrown : Part.crown ∈ T) (pstg : Part.stg ∈ T) (pq91 : Part.q91 ∈ T) (ppwm : Part.pwm ∈ T) (ploop : Part.loop ∈ T) (ptrack : Part.track ∈ T) (pprot : Part.prot ∈ T) (prk : Part.rk ∈ T) (pscan : Part.scan ∈ T) (pimp : Part.imp ∈ T) (pest : Part.est ∈ T) (ptmx : Part.tmx ∈ T) (pringSt : Part.ringSt ∈ T) (pbal : Part.bal ∈ T) (ptele : Part.tele ∈ T) (pnvm : Part.nvm ∈ T) (ppair : Part.pair ∈ T) (h0' : Within T s0 s) : Within T s0 (State.startAgain s) := by
  unfold State.startAgain
  extract_lets s1 s2
  rename_i s3
  have h4 : Within T s0 s1 := by
    unfold s1
    refine State.raise_within pregs pq91 prk pscan ?_
    refine State.wrB_within pregs ?_
    exact h0'
  have h5 : Within T s0 s3 := by
    unfold s3
    exact within_upd h4 (track := .inl ptrack)
  clear_value s1 s2 s3
  refine State.preCheckStep_within pregs pshadow pout pcrown pstg pq91 ppwm ploop ptrack pprot prk pscan pimp pest ptmx pringSt pbal ptele pnvm ppair ?_
  refine State.toStep_within pregs ptrack ?_
  refine State.freezeAll_within pregs ?_
  refine State.presetEntry_within pregs ploop ?_
  exact h5

theorem execRetryWaitExpiry_within {s : State} (pregs : Part.regs ∈ T) (pshadow : Part.shadow ∈ T) (pout : Part.out ∈ T) (pcrown : Part.crown ∈ T) (pstg : Part.stg ∈ T) (pq91 : Part.q91 ∈ T) (ppwm : Part.pwm ∈ T) (ploop : Part.loop ∈ T) (ptrack : Part.track ∈ T) (pprot : Part.prot ∈ T) (prk : Part.rk ∈ T) (pscan : Part.scan ∈ T) (pimp : Part.imp ∈ T) (pest : Part.est ∈ T) (ptmx : Part.tmx ∈ T) (pringSt : Part.ringSt ∈ T) (pbal : Part.bal ∈ T) (ptele : Part.tele ∈ T) (pnvm : Part.nvm ∈ T) (ppair : Part.pair ∈ T) (h0' : Within T s0 s) : ∃ u', (execRetryWaitExpiry s) = .next u' ∧ Within T s0 u' := by
  unfold execRetryWaitExpiry
  refine out_ite ?_ ?_
  · refine ⟨_, rfl, ?_⟩
    exact h0'
  · refine out_ite ?_ ?_
    · refine ⟨_, rfl, ?_⟩
      exact within_upd h0' (track := .inl ptrack)
    · refine ⟨_, rfl, ?_⟩
      refine State.startAgain_within pregs pshadow pout pcrown pstg pq91 ppwm ploop ptrack pprot prk pscan pimp pest ptmx pringSt pbal ptele pnvm ppair ?_
      exact h0'

theorem execStartAt_within {s : State} (pregs : Part.regs ∈ T) (ppwm : Part.pwm ∈ T) (ploop : Part.loop ∈ T) (ptrack : Part.track ∈ T) (pprot : Part.prot ∈ T) (h0' : Within T s0 s) : ∃ u', (execStartAt s) = .next u' ∧ Within T s0 u' := by
  unfold execStartAt
  refine out_ite ?_ ?_
  · refine ⟨_, rfl, ?_⟩
    refine State.startTracking_within pregs ppwm ploop ptrack pprot ?_
    exact h0'
  · refine ⟨_, rfl, ?_⟩
    exact h0'

theorem execTrackingError_within {s : State} (pregs : Part.regs ∈ T) (pq91 : Part.q91 ∈ T) (ppwm : Part.pwm ∈ T) (ptrack : Part.track ∈ T) (pprot : Part.prot ∈ T) (prk : Part.rk ∈ T) (pscan : Part.scan ∈ T) (pest : Part.est ∈ T) (ptele : Part.tele ∈ T) (pnvm : Part.nvm ∈ T) (h0' : Within T s0 s) : ∃ u', (execTrackingError s) = .next u' ∧ Within T s0 u' := by
  unfold execTrackingError
  refine out_ite ?_ ?_
  · refine ⟨_, rfl, ?_⟩
    refine State.abortStart_within pregs pq91 ppwm ptrack pprot prk pscan pest ptele pnvm ?_
    exact h0'
  · refine ⟨_, rfl, ?_⟩
    exact h0'

theorem execVcoilLow_within {vCoil : BitVec 16} {s : State} (pregs : Part.regs ∈ T) (pq91 : Part.q91 ∈ T) (ptrack : Part.track ∈ T) (prk : Part.rk ∈ T) (pscan : Part.scan ∈ T) (h1' : Within T s0 s) : ∃ u', (execVcoilLow vCoil s) = .next u' ∧ Within T s0 u' := by
  unfold execVcoilLow
  extract_lets s1 s2
  have h3 : Within T s0 s1 := by
    unfold s1
    refine State.takeVcoil_within pregs pq91 prk pscan ?_
    exact h1'
  clear_value s1 s2
  refine ⟨_, rfl, ?_⟩
  refine within_foldl ?_ ?_
  · exact h3
  · intro s4 x5 h6
    extract_lets s7
    clear_value s7
    refine within_ite ?_ ?_
    · refine State.setCoil_within ptrack ?_
      exact h6
    · refine within_ite ?_ ?_
      · refine State.energise_within pregs ptrack ?_
        exact h6
      · exact h6

theorem State.readPins_within {s : State} (pregs : Part.regs ∈ T) (pout : Part.out ∈ T) (pcrown : Part.crown ∈ T) (pq91 : Part.q91 ∈ T) (ppwm : Part.pwm ∈ T) (ploop : Part.loop ∈ T) (ptrack : Part.track ∈ T) (pprot : Part.prot ∈ T) (prk : Part.rk ∈ T) (pscan : Part.scan ∈ T) (pimp : Part.imp ∈ T) (pest : Part.est ∈ T) (ptmx : Part.tmx ∈ T) (pringSt : Part.ringSt ∈ T) (pbal : Part.bal ∈ T) (ptele : Part.tele ∈ T) (pnvm : Part.nvm ∈ T) (ppair : Part.pair ∈ T) (h0' : Within T s0 s) : Within T s0 (State.readPins s) := by
  unfold State.readPins
  refine within_foldl ?_ ?_
  · exact h0'
  · intro s1 x2 h3
    refine State.feedback_within pregs pout pcrown pq91 ppwm ploop ptrack pprot prk pscan pimp pest ptmx pringSt pbal ptele pnvm ppair ?_
    exact h3

theorem State.resumeSequence_within {s : State} (pregs : Part.regs ∈ T) (pshadow : Part.shadow ∈ T) (pout : Part.out ∈ T) (pcrown : Part.crown ∈ T) (pstg : Part.stg ∈ T) (pq91 : Part.q91 ∈ T) (ppwm : Part.pwm ∈ T) (ploop : Part.loop ∈ T) (ptrack : Part.track ∈ T) (pprot : Part.prot ∈ T) (prk : Part.rk ∈ T) (pscan : Part.scan ∈ T) (pimp : Part.imp ∈ T) (pest : Part.est ∈ T) (ptmx : Part.tmx ∈ T) (pringSt : Part.ringSt ∈ T) (pbal : Part.bal ∈ T) (ptele : Part.tele ∈ T) (pnvm : Part.nvm ∈ T) (ppair : Part.pair ∈ T) (h0' : Within T s0 s) : Within T s0 (State.resumeSequence s) := by
  unfold State.resumeSequence
  extract_lets s1 s2 s3 s4
  rename_i s5 s6 s7
  have h8 : Within T s0 s2 := by
    unfold s2
    refine within_ite ?_ ?_
    · refine State.abortStart_within pregs pq91 ppwm ptrack pprot prk pscan pest ptele pnvm ?_
      exact within_upd h0' (track := .inl ptrack)
    · exact h0'
  have h9 : Within T s0 s3 := by
    unfold s3
    refine within_ite ?_ ?_
    · refine State.gatesStopped_within pregs pout pcrown pq91 ptrack pprot prk pscan pest pringSt pbal ptele pnvm ?_
      exact h8
    · exact h8
  have h10 : Within T s0 s5 := by
    unfold s5
    exact within_upd h9 (track := .inl ptrack)
  have h11 : Within T s0 s6 := by
    unfold s6
    refine within_ite ?_ ?_
    · exact h9
    · refine within_ite ?_ ?_
      · refine State.startAgain_within pregs pshadow pout pcrown pstg pq91 ppwm ploop ptrack pprot prk pscan pimp pest ptmx pringSt pbal ptele pnvm ppair ?_
        exact h10
      · refine within_ite ?_ ?_
        · refine State.preCheckStep_within pregs pshadow pout pcrown pstg pq91 ppwm ploop ptrack pprot prk pscan pimp pest ptmx pringSt pbal ptele pnvm ppair ?_
          exact h10
        · refine State.waitOver_within pregs pout pcrown pq91 ptrack pprot prk pscan pest pringSt pbal ptele pnvm ?_
          exact h10
  have h12 : Within T s0 s7 := by
    unfold s7
    refine State.advanceOpen_within pregs pout pcrown pq91 ppwm ploop ptrack pprot prk pscan pest ptmx pringSt pbal ptele pnvm ?_
    refine State.advanceStart_within pregs pout pcrown pq91 ppwm ploop ptrack pprot prk pscan pimp pest pringSt pbal ptele pnvm ppair ?_
    exact h11
  clear_value s1 s2 s3 s4 s5 s6 s7
  refine within_ite ?_ ?_
  · refine State.toRun_within pregs pout pcrown pq91 ppwm ploop ptrack prk pscan pimp pringSt pbal ppair ?_
    exact h12
  · exact h12

/-! ## SupplyFam -/

theorem execBankOk_within {s : State} (pregs : Part.regs ∈ T) (h0' : Within T s0 s) : ∃ u', (execBankOk s) = .next u' ∧ Within T s0 u' := by
  unfold execBankOk
  refine ⟨_, rfl, ?_⟩
  refine State.wrB_within pregs ?_
  refine State.wrB_within pregs ?_
  exact h0'

theorem execBankOkLoss_within {s : State} (pregs : Part.regs ∈ T) (h0' : Within T s0 s) : ∃ u', (execBankOkLoss s) = .next u' ∧ Within T s0 u' := by
  unfold execBankOkLoss
  refine ⟨_, rfl, ?_⟩
  refine State.wrB_within pregs ?_
  exact h0'

theorem State.holdEnds_within {s : State} (pregs : Part.regs ∈ T) (pshadow : Part.shadow ∈ T) (pout : Part.out ∈ T) (pcrown : Part.crown ∈ T) (pstg : Part.stg ∈ T) (pq91 : Part.q91 ∈ T) (ppwm : Part.pwm ∈ T) (ploop : Part.loop ∈ T) (ptrack : Part.track ∈ T) (pprot : Part.prot ∈ T) (prk : Part.rk ∈ T) (pscan : Part.scan ∈ T) (pimp : Part.imp ∈ T) (pest : Part.est ∈ T) (ptmx : Part.tmx ∈ T) (pringSt : Part.ringSt ∈ T) (pbal : Part.bal ∈ T) (ptele : Part.tele ∈ T) (pnvm : Part.nvm ∈ T) (ppair : Part.pair ∈ T) (h0' : Within T s0 s) : Within T s0 (State.holdEnds s) := by
  unfold State.holdEnds
  refine within_ite ?_ ?_
  · refine State.startSrd_within pregs pshadow pout pcrown pstg pq91 ppwm ploop ptrack pprot prk pscan pimp pest ptmx pringSt pbal ptele pnvm ppair ?_
    exact h0'
  · exact h0'

theorem execBankReserve_within {s : State} (pregs : Part.regs ∈ T) (pshadow : Part.shadow ∈ T) (pout : Part.out ∈ T) (pcrown : Part.crown ∈ T) (pstg : Part.stg ∈ T) (pq91 : Part.q91 ∈ T) (ppwm : Part.pwm ∈ T) (ploop : Part.loop ∈ T) (ptrack : Part.track ∈ T) (pprot : Part.prot ∈ T) (prk : Part.rk ∈ T) (pscan : Part.scan ∈ T) (pimp : Part.imp ∈ T) (pest : Part.est ∈ T) (ptmx : Part.tmx ∈ T) (pringSt : Part.ringSt ∈ T) (pbal : Part.bal ∈ T) (ptele : Part.tele ∈ T) (pnvm : Part.nvm ∈ T) (ppair : Part.pair ∈ T) (h0' : Within T s0 s) : ∃ u', (execBankReserve s) = .next u' ∧ Within T s0 u' := by
  unfold execBankReserve
  refine ⟨_, rfl, ?_⟩
  refine State.holdEnds_within pregs pshadow pout pcrown pstg pq91 ppwm ploop ptrack pprot prk pscan pimp pest ptmx pringSt pbal ptele pnvm ppair ?_
  refine State.wrB_within pregs ?_
  refine State.wrB_within pregs ?_
  exact h0'

theorem execExternalResetPin_within {i : Start} {s : State} (pregs : Part.regs ∈ T) (pstaged : Part.staged ∈ T) (pshadow : Part.shadow ∈ T) (pout : Part.out ∈ T) (paccErr : Part.accErr ∈ T) (preadData : Part.readData ∈ T) (ptb : Part.tb ∈ T) (pcrown : Part.crown ∈ T) (pstg : Part.stg ∈ T) (pq91 : Part.q91 ∈ T) (ppwm : Part.pwm ∈ T) (ploop : Part.loop ∈ T) (ptrack : Part.track ∈ T) (pprot : Part.prot ∈ T) (phost : Part.host ∈ T) (prk : Part.rk ∈ T) (pscan : Part.scan ∈ T) (pimp : Part.imp ∈ T) (pest : Part.est ∈ T) (ptmx : Part.tmx ∈ T) (pdisp : Part.disp ∈ T) (peng : Part.eng ∈ T) (pringSt : Part.ringSt ∈ T) (pharv : Part.harv ∈ T) (pbal : Part.bal ∈ T) (ptherm : Part.therm ∈ T) (ptele : Part.tele ∈ T) (pnvm : Part.nvm ∈ T) (ptime : Part.time ∈ T) (pcan : Part.can ∈ T) (ppair : Part.pair ∈ T) (palm : Part.alm ∈ T) (h1' : Within T s0 s) : ∃ u', (execExternalResetPin i s) = .next u' ∧ Within T s0 u' := by
  unfold execExternalResetPin
  refine ⟨_, rfl, ?_⟩
  refine State.resetOr_within pregs pstaged pshadow pout paccErr preadData ptb pcrown pstg pq91 ppwm ploop ptrack pprot phost prk pscan pimp pest ptmx pdisp peng pringSt pharv pbal ptherm ptele pnvm ptime pcan ppair palm ?_
  exact h1'

theorem execHoldMaxExpiry_within {s : State} (pregs : Part.regs ∈ T) (pshadow : Part.shadow ∈ T) (pout : Part.out ∈ T) (pcrown : Part.crown ∈ T) (pstg : Part.stg ∈ T) (pq91 : Part.q91 ∈ T) (ppwm : Part.pwm ∈ T) (ploop : Part.loop ∈ T) (ptrack : Part.track ∈ T) (pprot : Part.prot ∈ T) (prk : Part.rk ∈ T) (pscan : Part.scan ∈ T) (pimp : Part.imp ∈ T) (pest : Part.est ∈ T) (ptmx : Part.tmx ∈ T) (pringSt : Part.ringSt ∈ T) (pbal : Part.bal ∈ T) (ptele : Part.tele ∈ T) (pnvm : Part.nvm ∈ T) (ppair : Part.pair ∈ T) (h0' : Within T s0 s) : ∃ u', (execHoldMaxExpiry s) = .next u' ∧ Within T s0 u' := by
  unfold execHoldMaxExpiry
  refine ⟨_, rfl, ?_⟩
  refine State.holdEnds_within pregs pshadow pout pcrown pstg pq91 ppwm ploop ptrack pprot prk pscan pimp pest ptmx pringSt pbal ptele pnvm ppair ?_
  exact h0'

theorem execPairForcedReset_within {i : Start} {s : State} (pregs : Part.regs ∈ T) (pstaged : Part.staged ∈ T) (pshadow : Part.shadow ∈ T) (pout : Part.out ∈ T) (paccErr : Part.accErr ∈ T) (preadData : Part.readData ∈ T) (ptb : Part.tb ∈ T) (pcrown : Part.crown ∈ T) (pstg : Part.stg ∈ T) (pq91 : Part.q91 ∈ T) (ppwm : Part.pwm ∈ T) (ploop : Part.loop ∈ T) (ptrack : Part.track ∈ T) (pprot : Part.prot ∈ T) (phost : Part.host ∈ T) (prk : Part.rk ∈ T) (pscan : Part.scan ∈ T) (pimp : Part.imp ∈ T) (pest : Part.est ∈ T) (ptmx : Part.tmx ∈ T) (pdisp : Part.disp ∈ T) (peng : Part.eng ∈ T) (pringSt : Part.ringSt ∈ T) (pharv : Part.harv ∈ T) (pbal : Part.bal ∈ T) (ptherm : Part.therm ∈ T) (ptele : Part.tele ∈ T) (pnvm : Part.nvm ∈ T) (ptime : Part.time ∈ T) (pcan : Part.can ∈ T) (ppair : Part.pair ∈ T) (palm : Part.alm ∈ T) (h1' : Within T s0 s) : ∃ u', (execPairForcedReset i s) = .next u' ∧ Within T s0 u' := by
  unfold execPairForcedReset
  refine ⟨_, rfl, ?_⟩
  refine within_ite ?_ ?_
  · refine State.resetOr_within pregs pstaged pshadow pout paccErr preadData ptb pcrown pstg pq91 ppwm ploop ptrack pprot phost prk pscan pimp pest ptmx pdisp peng pringSt pharv pbal ptherm ptele pnvm ptime pcan ppair palm ?_
    exact h1'
  · exact h1'

theorem execPowerOnReset_within {i : Start} {s : State} (pregs : Part.regs ∈ T) (pstaged : Part.staged ∈ T) (pshadow : Part.shadow ∈ T) (pout : Part.out ∈ T) (paccErr : Part.accErr ∈ T) (preadData : Part.readData ∈ T) (ptb : Part.tb ∈ T) (pcrown : Part.crown ∈ T) (pstg : Part.stg ∈ T) (pq91 : Part.q91 ∈ T) (ppwm : Part.pwm ∈ T) (ploop : Part.loop ∈ T) (ptrack : Part.track ∈ T) (pprot : Part.prot ∈ T) (phost : Part.host ∈ T) (prk : Part.rk ∈ T) (pscan : Part.scan ∈ T) (pimp : Part.imp ∈ T) (pest : Part.est ∈ T) (ptmx : Part.tmx ∈ T) (pdisp : Part.disp ∈ T) (peng : Part.eng ∈ T) (pringSt : Part.ringSt ∈ T) (pharv : Part.harv ∈ T) (pbal : Part.bal ∈ T) (ptherm : Part.therm ∈ T) (ptele : Part.tele ∈ T) (pnvm : Part.nvm ∈ T) (ptime : Part.time ∈ T) (pcan : Part.can ∈ T) (ppair : Part.pair ∈ T) (palm : Part.alm ∈ T) (h1' : Within T s0 s) : ∃ u', (execPowerOnReset i s) = .next u' ∧ Within T s0 u' := by
  unfold execPowerOnReset
  refine ⟨_, rfl, ?_⟩
  refine State.restart_within pregs pstaged pshadow pout paccErr preadData ptb pcrown pstg pq91 ppwm ploop ptrack pprot phost prk pscan pimp pest ptmx pdisp peng pringSt pharv pbal ptherm ptele pnvm ptime pcan ppair palm ?_
  exact h1'

theorem execSdsAvail_within {available : Bool} {s : State} (pregs : Part.regs ∈ T) (pcrown : Part.crown ∈ T) (h1' : Within T s0 s) : ∃ u', (execSdsAvail available s) = .next u' ∧ Within T s0 u' := by
  unfold execSdsAvail
  extract_lets s1 s2
  rename_i s3
  have h4 : Within T s0 s2 := by
    unfold s2
    refine State.showSds_within pregs ?_
    exact within_upd h1' (crown := .inl pcrown)
  have h5 : Within T s0 s3 := by
    unfold s3
    refine within_ite ?_ ?_
    · refine State.wrB_within pregs ?_
      exact h4
    · exact h4
  clear_value s1 s2 s3
  refine ⟨_, rfl, ?_⟩
  refine within_ite ?_ ?_
  · exact h5
  · refine State.wrB_within pregs ?_
    exact h5

theorem State.resetCmd_within {s : State} {data : ℕ} (pregs : Part.regs ∈ T) (pstaged : Part.staged ∈ T) (pshadow : Part.shadow ∈ T) (pout : Part.out ∈ T) (paccErr : Part.accErr ∈ T) (preadData : Part.readData ∈ T) (ptb : Part.tb ∈ T) (pcrown : Part.crown ∈ T) (pstg : Part.stg ∈ T) (pq91 : Part.q91 ∈ T) (ppwm : Part.pwm ∈ T) (ploop : Part.loop ∈ T) (ptrack : Part.track ∈ T) (pprot : Part.prot ∈ T) (phost : Part.host ∈ T) (prk : Part.rk ∈ T) (pscan : Part.scan ∈ T) (pimp : Part.imp ∈ T) (pest : Part.est ∈ T) (ptmx : Part.tmx ∈ T) (pdisp : Part.disp ∈ T) (peng : Part.eng ∈ T) (pringSt : Part.ringSt ∈ T) (pharv : Part.harv ∈ T) (pbal : Part.bal ∈ T) (ptherm : Part.therm ∈ T) (ptele : Part.tele ∈ T) (pnvm : Part.nvm ∈ T) (ptime : Part.time ∈ T) (pcan : Part.can ∈ T) (ppair : Part.pair ∈ T) (palm : Part.alm ∈ T) (h0' : Within T s0 s) : Within T s0 (State.resetCmd s data) := by
  unfold State.resetCmd
  refine within_ite ?_ ?_
  · exact h0'
  · refine within_ite ?_ ?_
    · refine State.wrB_within pregs ?_
      exact h0'
    · refine State.resetOr_within pregs pstaged pshadow pout paccErr preadData ptb pcrown pstg pq91 ppwm ploop ptrack pprot phost prk pscan pimp pest ptmx pdisp peng pringSt pharv pbal ptherm ptele pnvm ptime pcan ppair palm ?_
      exact h0'

theorem execSoftwareWarmReset_within {who : Initiator} {key : Fin 65536} {action : Fin 4} {s : State} (pregs : Part.regs ∈ T) (pstaged : Part.staged ∈ T) (pshadow : Part.shadow ∈ T) (pout : Part.out ∈ T) (paccErr : Part.accErr ∈ T) (preadData : Part.readData ∈ T) (ptb : Part.tb ∈ T) (pcrown : Part.crown ∈ T) (pstg : Part.stg ∈ T) (pq91 : Part.q91 ∈ T) (ppwm : Part.pwm ∈ T) (ploop : Part.loop ∈ T) (ptrack : Part.track ∈ T) (pprot : Part.prot ∈ T) (phost : Part.host ∈ T) (prk : Part.rk ∈ T) (pscan : Part.scan ∈ T) (pimp : Part.imp ∈ T) (pest : Part.est ∈ T) (ptmx : Part.tmx ∈ T) (pdisp : Part.disp ∈ T) (peng : Part.eng ∈ T) (pringSt : Part.ringSt ∈ T) (pharv : Part.harv ∈ T) (pbal : Part.bal ∈ T) (ptherm : Part.therm ∈ T) (ptele : Part.tele ∈ T) (pnvm : Part.nvm ∈ T) (ptime : Part.time ∈ T) (pcan : Part.can ∈ T) (ppair : Part.pair ∈ T) (palm : Part.alm ∈ T) (h3' : Within T s0 s) : ∃ u', (execSoftwareWarmReset who key action s) = .next u' ∧ Within T s0 u' := by
  unfold execSoftwareWarmReset
  refine ⟨_, rfl, ?_⟩
  refine State.asWrite_within pregs paccErr pq91 phost ?_ ?_
  · exact h3'
  · intro s1 h2
    refine State.resetCmd_within pregs pstaged pshadow pout paccErr preadData ptb pcrown pstg pq91 ppwm ploop ptrack pprot phost prk pscan pimp pest ptmx pdisp peng pringSt pharv pbal ptherm ptele pnvm ptime pcan ppair palm ?_
    exact h2

theorem State.startFails_within {s : State} (pregs : Part.regs ∈ T) (pstaged : Part.staged ∈ T) (pshadow : Part.shadow ∈ T) (pout : Part.out ∈ T) (paccErr : Part.accErr ∈ T) (preadData : Part.readData ∈ T) (ptb : Part.tb ∈ T) (pcrown : Part.crown ∈ T) (pstg : Part.stg ∈ T) (pq91 : Part.q91 ∈ T) (ppwm : Part.pwm ∈ T) (ploop : Part.loop ∈ T) (ptrack : Part.track ∈ T) (pprot : Part.prot ∈ T) (phost : Part.host ∈ T) (prk : Part.rk ∈ T) (pscan : Part.scan ∈ T) (pimp : Part.imp ∈ T) (pest : Part.est ∈ T) (ptmx : Part.tmx ∈ T) (pdisp : Part.disp ∈ T) (peng : Part.eng ∈ T) (pringSt : Part.ringSt ∈ T) (pharv : Part.harv ∈ T) (pbal : Part.bal ∈ T) (ptherm : Part.therm ∈ T) (ptele : Part.tele ∈ T) (pnvm : Part.nvm ∈ T) (ptime : Part.time ∈ T) (pcan : Part.can ∈ T) (ppair : Part.pair ∈ T) (palm : Part.alm ∈ T) (h0' : Within T s0 s) : Within T s0 (State.startFails s) := by
  unfold State.startFails
  extract_lets s1 s2 s3 s4
  rename_i s5
  have h6 : Within T s0 s1 := by
    unfold s1
    refine State.record_within pq91 ?_
    refine State.lasting_within pregs ?_
    exact h0'
  have h7 : Within T s0 s2 := by
    unfold s2
    refine State.setLatch_within pregs pq91 prk pscan ptmx ?_
    exact h6
  have h8 : Within T s0 s4 := by
    unfold s4
    exact within_upd h7 (crown := .inl pcrown)
  have h9 : Within T s0 s5 := by
    unfold s5
    refine State.entryStore_within pregs pq91 prk pscan pest ptele pnvm ?_
    refine State.pairStart_within pregs pq91 prk pscan pest ptmx ppair ?_
    refine State.wr_within pregs ?_
    refine State.startRecord_within pq91 ?_
    exact h8
  clear_value s1 s2 s3 s4 s5
  refine within_ite ?_ ?_
  · refine State.updFallback_within pregs pstaged pshadow pout paccErr preadData ptb pcrown pstg pq91 ppwm ploop ptrack pprot phost prk pscan pimp pest ptmx pdisp peng pringSt pharv pbal ptherm ptele pnvm ptime pcan ppair palm ?_
    exact h9
  · exact h9

theorem State.startUnits_within {s : State} (pregs : Part.regs ∈ T) (ptime : Part.time ∈ T) (pcan : Part.can ∈ T) (h0' : Within T s0 s) : Within T s0 (State.startUnits s) := by
  unfold State.startUnits
  extract_lets s1
  have h2 : Within T s0 s1 := by
    unfold s1
    refine within_foldl ?_ ?_
    · exact h0'
    · intro s3 x4 h5
      refine within_ite ?_ ?_
      · refine State.canEnable_within pregs pcan ?_
        exact h5
      · exact h5
  clear_value s1
  refine within_foldl ?_ ?_
  · exact h2
  · intro s6 x7 h8
    refine within_ite ?_ ?_
    · refine State.ptpEnable_within pregs ptime ?_
      exact h8
    · exact h8

theorem State.startEnds_within {s : State} (pregs : Part.regs ∈ T) (pout : Part.out ∈ T) (pcrown : Part.crown ∈ T) (pq91 : Part.q91 ∈ T) (prk : Part.rk ∈ T) (pscan : Part.scan ∈ T) (pest : Part.est ∈ T) (ptmx : Part.tmx ∈ T) (pringSt : Part.ringSt ∈ T) (pharv : Part.harv ∈ T) (ptele : Part.tele ∈ T) (pnvm : Part.nvm ∈ T) (ptime : Part.time ∈ T) (pcan : Part.can ∈ T) (ppair : Part.pair ∈ T) (h0' : Within T s0 s) : Within T s0 (State.startEnds s) := by
  unfold State.startEnds
  extract_lets s1 s2 s3 s4 s5 s6 s7
  rename_i s8 s9 x10 x11
  have h12 : Within T s0 s2 := by
    unfold s2
    exact within_upd h0' (crown := .inl pcrown)
  have h13 : Within T s0 s3 := by
    unfold s3
    refine State.startUnits_within pregs ptime pcan ?_
    refine State.startRecord_within pq91 ?_
    exact h12
  have h14 : Within T s0 s4 := by
    unfold s4
    refine within_ite ?_ ?_
    · refine State.wr_within pregs ?_
      exact h13
    · refine State.wr_within pregs ?_
      exact h13
  have h15 : Within T s0 s5 := by
    unfold s5
    refine State.entryStore_within pregs pq91 prk pscan pest ptele pnvm ?_
    refine State.closeFeed_within pregs ?_
    refine State.pairStart_within pregs pq91 prk pscan pest ptmx ppair ?_
    exact h14
  have h16 : Within T s0 s6 := by
    unfold s6
    refine within_ite ?_ ?_
    · refine State.stopRing_within pregs pringSt ?_
      exact h15
    · exact h15
  have h17 : Within T s0 s7 := by
    unfold s7
    refine State.writeThresholds_within pout pringSt ?_
    exact h16
  have h18 : Within T s0 s8 := by
    unfold s8
    refine within_ite ?_ ?_
    · refine State.launchT_within pout pharv ?_
      exact h17
    · exact h17
  have h19 : Within T s0 s9 := by
    unfold s9
    refine State.raise_within pregs pq91 prk pscan ?_
    exact h18
  clear_value s1 s2 s3 s4 s5 s6 s7 s8 s9 x10 x11
  refine within_ite ?_ ?_
  · refine State.showWindow_within pregs ?_
    exact within_upd h19 (nvm := .inl pnvm)
  · refine State.showWindow_within pregs ?_
    exact h18

theorem execStartComplete_within {outcome : Fin 3} {s : State} (pregs : Part.regs ∈ T) (pstaged : Part.staged ∈ T) (pshadow : Part.shadow ∈ T) (pout : Part.out ∈ T) (paccErr : Part.accErr ∈ T) (preadData : Part.readData ∈ T) (ptb : Part.tb ∈ T) (pcrown : Part.crown ∈ T) (pstg : Part.stg ∈ T) (pq91 : Part.q91 ∈ T) (ppwm : Part.pwm ∈ T) (ploop : Part.loop ∈ T) (ptrack : Part.track ∈ T) (pprot : Part.prot ∈ T) (phost : Part.host ∈ T) (prk : Part.rk ∈ T) (pscan : Part.scan ∈ T) (pimp : Part.imp ∈ T) (pest : Part.est ∈ T) (ptmx : Part.tmx ∈ T) (pdisp : Part.disp ∈ T) (peng : Part.eng ∈ T) (pringSt : Part.ringSt ∈ T) (pharv : Part.harv ∈ T) (pbal : Part.bal ∈ T) (ptherm : Part.therm ∈ T) (ptele : Part.tele ∈ T) (pnvm : Part.nvm ∈ T) (ptime : Part.time ∈ T) (pcan : Part.can ∈ T) (ppair : Part.pair ∈ T) (palm : Part.alm ∈ T) (h1' : Within T s0 s) : ∃ u', (execStartComplete outcome s) = .next u' ∧ Within T s0 u' := by
  unfold execStartComplete
  extract_lets s1
  rename_i s2
  have h3 : Within T s0 s1 := by
    unfold s1
    refine within_ite ?_ ?_
    · refine State.startUp_within pregs pout pcrown pq91 prk pscan pest pringSt ptele pnvm ?_
      exact h1'
    · exact h1'
  have h4 : Within T s0 s2 := by
    unfold s2
    refine within_ite ?_ ?_
    · refine State.startRing_within pregs pout pringSt ?_
      exact h3
    · exact h3
  clear_value s1 s2
  refine ⟨_, rfl, ?_⟩
  refine within_ite ?_ ?_
  · exact h3
  · refine within_ite ?_ ?_
    · refine State.startFails_within pregs pstaged pshadow pout paccErr preadData ptb pcrown pstg pq91 ppwm ploop ptrack pprot phost prk pscan pimp pest ptmx pdisp peng pringSt pharv pbal ptherm ptele pnvm ptime pcan ppair palm ?_
      exact h3
    · refine within_ite ?_ ?_
      · refine State.startEnds_within pregs pout pcrown pq91 prk pscan pest ptmx pringSt pharv ptele pnvm ptime pcan ppair ?_
        refine within_ite ?_ ?_
        · refine State.retryPass_within pregs pq91 ?_
          exact h4
        · exact h4
      · exact h4

theorem execSupplyReset_within {i : Start} {s : State} (pregs : Part.regs ∈ T) (pstaged : Part.staged ∈ T) (pshadow : Part.shadow ∈ T) (pout : Part.out ∈ T) (paccErr : Part.accErr ∈ T) (preadData : Part.readData ∈ T) (ptb : Part.tb ∈ T) (pcrown : Part.crown ∈ T) (pstg : Part.stg ∈ T) (pq91 : Part.q91 ∈ T) (ppwm : Part.pwm ∈ T) (ploop : Part.loop ∈ T) (ptrack : Part.track ∈ T) (pprot : Part.prot ∈ T) (phost : Part.host ∈ T) (prk : Part.rk ∈ T) (pscan : Part.scan ∈ T) (pimp : Part.imp ∈ T) (pest : Part.est ∈ T) (ptmx : Part.tmx ∈ T) (pdisp : Part.disp ∈ T) (peng : Part.eng ∈ T) (pringSt : Part.ringSt ∈ T) (pharv : Part.harv ∈ T) (pbal : Part.bal ∈ T) (ptherm : Part.therm ∈ T) (ptele : Part.tele ∈ T) (pnvm : Part.nvm ∈ T) (ptime : Part.time ∈ T) (pcan : Part.can ∈ T) (ppair : Part.pair ∈ T) (palm : Part.alm ∈ T) (h1' : Within T s0 s) : ∃ u', (execSupplyReset i s) = .next u' ∧ Within T s0 u' := by
  unfold execSupplyReset
  refine ⟨_, rfl, ?_⟩
  refine State.restart_within pregs pstaged pshadow pout paccErr preadData ptb pcrown pstg pq91 ppwm ploop ptrack pprot phost prk pscan pimp pest ptmx pdisp peng pringSt pharv pbal ptherm ptele pnvm ptime pcan ppair palm ?_
  exact h1'

theorem execTransportVauxArm_within {s : State} (pcrown : Part.crown ∈ T) (h0' : Within T s0 s) : ∃ u', (execTransportVauxArm s) = .next u' ∧ Within T s0 u' := by
  unfold execTransportVauxArm
  refine ⟨_, rfl, ?_⟩
  refine within_ite ?_ ?_
  · exact within_upd h0' (crown := .inl pcrown)
  · exact h0'

theorem execTransportWake_within {bus : Bool} {i : Start} {s : State} (pregs : Part.regs ∈ T) (pstaged : Part.staged ∈ T) (pshadow : Part.shadow ∈ T) (pout : Part.out ∈ T) (paccErr : Part.accErr ∈ T) (preadData : Part.readData ∈ T) (ptb : Part.tb ∈ T) (pcrown : Part.crown ∈ T) (pstg : Part.stg ∈ T) (pq91 : Part.q91 ∈ T) (ppwm : Part.pwm ∈ T) (ploop : Part.loop ∈ T) (ptrack : Part.track ∈ T) (pprot : Part.prot ∈ T) (phost : Part.host ∈ T) (prk : Part.rk ∈ T) (pscan : Part.scan ∈ T) (pimp : Part.imp ∈ T) (pest : Part.est ∈ T) (ptmx : Part.tmx ∈ T) (pdisp : Part.disp ∈ T) (peng : Part.eng ∈ T) (pringSt : Part.ringSt ∈ T) (pharv : Part.harv ∈ T) (pbal : Part.bal ∈ T) (ptherm : Part.therm ∈ T) (ptele : Part.tele ∈ T) (pnvm : Part.nvm ∈ T) (ptime : Part.time ∈ T) (pcan : Part.can ∈ T) (ppair : Part.pair ∈ T) (palm : Part.alm ∈ T) (h2' : Within T s0 s) : ∃ u', (execTransportWake bus i s) = .next u' ∧ Within T s0 u' := by
  unfold execTransportWake
  refine ⟨_, rfl, ?_⟩
  refine within_ite ?_ ?_
  · refine State.restart_within pregs pstaged pshadow pout paccErr preadData ptb pcrown pstg pq91 ppwm ploop ptrack pprot phost prk pscan pimp pest ptmx pdisp peng pringSt pharv pbal ptherm ptele pnvm ptime pcan ppair palm ?_
    exact h2'
  · exact h2'

theorem State.lowReset_within {s : State} (pregs : Part.regs ∈ T) (pstaged : Part.staged ∈ T) (pshadow : Part.shadow ∈ T) (pout : Part.out ∈ T) (paccErr : Part.accErr ∈ T) (preadData : Part.readData ∈ T) (ptb : Part.tb ∈ T) (pcrown : Part.crown ∈ T) (pstg : Part.stg ∈ T) (pq91 : Part.q91 ∈ T) (ppwm : Part.pwm ∈ T) (ploop : Part.loop ∈ T) (ptrack : Part.track ∈ T) (pprot : Part.prot ∈ T) (phost : Part.host ∈ T) (prk : Part.rk ∈ T) (pscan : Part.scan ∈ T) (pimp : Part.imp ∈ T) (pest : Part.est ∈ T) (ptmx : Part.tmx ∈ T) (pdisp : Part.disp ∈ T) (peng : Part.eng ∈ T) (pringSt : Part.ringSt ∈ T) (pharv : Part.harv ∈ T) (pbal : Part.bal ∈ T) (ptherm : Part.therm ∈ T) (ptele : Part.tele ∈ T) (pnvm : Part.nvm ∈ T) (ptime : Part.time ∈ T) (pcan : Part.can ∈ T) (ppair : Part.pair ∈ T) (palm : Part.alm ∈ T) (h0' : Within T s0 s) : Within T s0 (State.lowReset s) := by
  unfold State.lowReset
  refine within_ite ?_ ?_
  · refine State.restart_within pregs pstaged pshadow pout paccErr preadData ptb pcrown pstg pq91 ppwm ploop ptrack pprot phost prk pscan pimp pest ptmx pdisp peng pringSt pharv pbal ptherm ptele pnvm ptime pcan ppair palm ?_
    refine State.almDrain_within pregs pout pq91 prk pscan ppair palm ?_
    exact h0'
  · exact h0'

theorem execVauxReset_within {s : State} (pregs : Part.regs ∈ T) (pstaged : Part.staged ∈ T) (pshadow : Part.shadow ∈ T) (pout : Part.out ∈ T) (paccErr : Part.accErr ∈ T) (preadData : Part.readData ∈ T) (ptb : Part.tb ∈ T) (pcrown : Part.crown ∈ T) (pstg : Part.stg ∈ T) (pq91 : Part.q91 ∈ T) (ppwm : Part.pwm ∈ T) (ploop : Part.loop ∈ T) (ptrack : Part.track ∈ T) (pprot : Part.prot ∈ T) (phost : Part.host ∈ T) (prk : Part.rk ∈ T) (pscan : Part.scan ∈ T) (pimp : Part.imp ∈ T) (pest : Part.est ∈ T) (ptmx : Part.tmx ∈ T) (pdisp : Part.disp ∈ T) (peng : Part.eng ∈ T) (pringSt : Part.ringSt ∈ T) (pharv : Part.harv ∈ T) (pbal : Part.bal ∈ T) (ptherm : Part.therm ∈ T) (ptele : Part.tele ∈ T) (pnvm : Part.nvm ∈ T) (ptime : Part.time ∈ T) (pcan : Part.can ∈ T) (ppair : Part.pair ∈ T) (palm : Part.alm ∈ T) (h0' : Within T s0 s) : ∃ u', (execVauxReset s) = .next u' ∧ Within T s0 u' := by
  unfold execVauxReset
  refine ⟨_, rfl, ?_⟩
  refine State.lowReset_within pregs pstaged pshadow pout paccErr preadData ptb pcrown pstg pq91 ppwm ploop ptrack pprot phost prk pscan pimp pest ptmx pdisp peng pringSt pharv pbal ptherm ptele pnvm ptime pcan ppair palm ?_
  exact within_upd h0' (crown := .inl pcrown)

theorem State.enterHold_within {s : State} (pregs : Part.regs ∈ T) (pshadow : Part.shadow ∈ T) (pout : Part.out ∈ T) (pcrown : Part.crown ∈ T) (pstg : Part.stg ∈ T) (pq91 : Part.q91 ∈ T) (ppwm : Part.pwm ∈ T) (ploop : Part.loop ∈ T) (prk : Part.rk ∈ T) (pscan : Part.scan ∈ T) (pimp : Part.imp ∈ T) (pringSt : Part.ringSt ∈ T) (pbal : Part.bal ∈ T) (ptele : Part.tele ∈ T) (ppair : Part.pair ∈ T) (h0' : Within T s0 s) : Within T s0 (State.enterHold s) := by
  unfold State.enterHold
  extract_lets s1 s2
  rename_i x3 x4 x5 x6
  have h7 : Within T s0 s1 := by
    unfold s1
    refine State.holdRun_within pregs pout pq91 ppwm ploop prk pscan pimp pringSt pbal ppair ?_
    refine State.setMode_within pregs ?_
    refine State.cancelApply_within pregs pshadow pstg ?_
    exact h0'
  have h8 : Within T s0 s2 := by
    unfold s2
    refine State.wrB_within pregs ?_
    exact h7
  clear_value s1 s2 x3 x4 x5 x6
  exact within_upd h8 (crown := .inl pcrown) (loop := .inl ploop) (bal := .inl pbal) (tele := .inl ptele)

theorem execVauxWarning_within {s : State} (pregs : Part.regs ∈ T) (pshadow : Part.shadow ∈ T) (pout : Part.out ∈ T) (pcrown : Part.crown ∈ T) (pstg : Part.stg ∈ T) (pq91 : Part.q91 ∈ T) (ppwm : Part.pwm ∈ T) (ploop : Part.loop ∈ T) (prk : Part.rk ∈ T) (pscan : Part.scan ∈ T) (pimp : Part.imp ∈ T) (pest : Part.est ∈ T) (pringSt : Part.ringSt ∈ T) (pbal : Part.bal ∈ T) (ptele : Part.tele ∈ T) (ppair : Part.pair ∈ T) (h0' : Within T s0 s) : ∃ u', (execVauxWarning s) = .next u' ∧ Within T s0 u' := by
  unfold execVauxWarning
  extract_lets s1 s2
  rename_i s3
  have h4 : Within T s0 s1 := by
    unfold s1
    refine State.dipInWrite_within pregs pq91 prk pscan pest ?_
    refine State.wrB_within pregs ?_
    exact h0'
  have h5 : Within T s0 s3 := by
    unfold s3
    refine within_ite ?_ ?_
    · refine State.record_within pq91 ?_
      refine State.wrB_within pregs ?_
      exact h4
    · exact h4
  clear_value s1 s2 s3
  refine ⟨_, rfl, ?_⟩
  refine within_ite ?_ ?_
  · exact h4
  · refine within_ite ?_ ?_
    · refine State.record_within pq91 ?_
      exact h5
    · refine within_ite ?_ ?_
      · refine State.record_within pq91 ?_
        exact h5
      · refine within_ite ?_ ?_
        · exact h5
        · split
          · rename_i x6 e7
            refine State.record_within pq91 ?_
            exact h5
          · rename_i x8 e9
            refine State.record_within pq91 ?_
            exact h5
          · rename_i x10 e11
            exact h5
          · rename_i x12 e13
            exact h5
          · rename_i x14 e15
            refine within_ite ?_ ?_
            · exact h5
            · refine State.enterHold_within pregs pshadow pout pcrown pstg pq91 ppwm ploop prk pscan pimp pringSt pbal ptele ppair ?_
              exact h5
          · rename_i x16 e17
            refine within_ite ?_ ?_
            · exact h5
            · refine State.enterHold_within pregs pshadow pout pcrown pstg pq91 ppwm ploop prk pscan pimp pringSt pbal ptele ppair ?_
              exact h5
          · rename_i x18 e19
            refine within_ite ?_ ?_
            · exact h5
            · refine State.enterHold_within pregs pshadow pout pcrown pstg pq91 ppwm ploop prk pscan pimp pringSt pbal ptele ppair ?_
              exact h5
          · rename_i x20 e21
            refine within_ite ?_ ?_
            · exact h5
            · refine State.enterHold_within pregs pshadow pout pcrown pstg pq91 ppwm ploop prk pscan pimp pringSt pbal ptele ppair ?_
              exact h5

theorem State.recover_within {old : State} (pregs : Part.regs ∈ T) (pshadow : Part.shadow ∈ T) (pout : Part.out ∈ T) (pcrown : Part.crown ∈ T) (pstg : Part.stg ∈ T) (pq91 : Part.q91 ∈ T) (ppwm : Part.pwm ∈ T) (ploop : Part.loop ∈ T) (ptrack : Part.track ∈ T) (pprot : Part.prot ∈ T) (prk : Part.rk ∈ T) (pscan : Part.scan ∈ T) (pimp : Part.imp ∈ T) (pest : Part.est ∈ T) (ptmx : Part.tmx ∈ T) (pringSt : Part.ringSt ∈ T) (pbal : Part.bal ∈ T) (ptele : Part.tele ∈ T) (pnvm : Part.nvm ∈ T) (ppair : Part.pair ∈ T) (h0' : Within T s0 old) : Within T s0 (State.recover old) := by
  unfold State.recover
  extract_lets s1
  have h2 : Within T s0 s1 := by
    unfold s1
    refine State.replanIfDue_within pregs pout pq91 prk pscan pringSt pbal ppair ?_
    exact h0'
  clear_value s1
  refine within_ite ?_ ?_
  · refine State.resumeSequence_within pregs pshadow pout pcrown pstg pq91 ppwm ploop ptrack pprot prk pscan pimp pest ptmx pringSt pbal ptele pnvm ppair ?_
    exact h2
  · exact h2

theorem State.afterDip_within {s : State} (pregs : Part.regs ∈ T) (pstaged : Part.staged ∈ T) (pshadow : Part.shadow ∈ T) (pout : Part.out ∈ T) (paccErr : Part.accErr ∈ T) (preadData : Part.readData ∈ T) (ptb : Part.tb ∈ T) (pcrown : Part.crown ∈ T) (pstg : Part.stg ∈ T) (pq91 : Part.q91 ∈ T) (ppwm : Part.pwm ∈ T) (ploop : Part.loop ∈ T) (ptrack : Part.track ∈ T) (pprot : Part.prot ∈ T) (phost : Part.host ∈ T) (prk : Part.rk ∈ T) (pscan : Part.scan ∈ T) (pimp : Part.imp ∈ T) (pest : Part.est ∈ T) (ptmx : Part.tmx ∈ T) (pdisp : Part.disp ∈ T) (peng : Part.eng ∈ T) (pringSt : Part.ringSt ∈ T) (pharv : Part.harv ∈ T) (pbal : Part.bal ∈ T) (ptherm : Part.therm ∈ T) (ptele : Part.tele ∈ T) (pnvm : Part.nvm ∈ T) (ptime : Part.time ∈ T) (pcan : Part.can ∈ T) (ppair : Part.pair ∈ T) (palm : Part.alm ∈ T) (h0' : Within T s0 s) : Within T s0 (State.afterDip s) := by
  unfold State.afterDip
  extract_lets s1 s2 s3
  have h4 : Within T s0 s1 := by
    unfold s1
    refine State.deferredJournals_within pregs pq91 prk pscan pest ?_
    exact h0'
  have h5 : Within T s0 s2 := by
    unfold s2
    refine within_ite ?_ ?_
    · refine State.counterSlot_within ptele ?_
      exact h4
    · exact h4
  have h6 : Within T s0 s3 := by
    unfold s3
    refine within_ite ?_ ?_
    · refine State.retainSlot_within pscan pnvm ?_
      exact h5
    · exact h5
  clear_value s1 s2 s3
  refine within_ite ?_ ?_
  · refine State.jubilee_within pregs pstaged pshadow pout paccErr preadData ptb pcrown pstg pq91 ppwm ploop ptrack pprot phost prk pscan pimp pest ptmx pdisp peng pringSt pharv pbal ptherm ptele pnvm ptime pcan ppair palm ?_
    exact h6
  · exact h6

theorem execVauxWarningRelease_within {s : State} (pregs : Part.regs ∈ T) (pstaged : Part.staged ∈ T) (pshadow : Part.shadow ∈ T) (pout : Part.out ∈ T) (paccErr : Part.accErr ∈ T) (preadData : Part.readData ∈ T) (ptb : Part.tb ∈ T) (pcrown : Part.crown ∈ T) (pstg : Part.stg ∈ T) (pq91 : Part.q91 ∈ T) (ppwm : Part.pwm ∈ T) (ploop : Part.loop ∈ T) (ptrack : Part.track ∈ T) (pprot : Part.prot ∈ T) (phost : Part.host ∈ T) (prk : Part.rk ∈ T) (pscan : Part.scan ∈ T) (pimp : Part.imp ∈ T) (pest : Part.est ∈ T) (ptmx : Part.tmx ∈ T) (pdisp : Part.disp ∈ T) (peng : Part.eng ∈ T) (pringSt : Part.ringSt ∈ T) (pharv : Part.harv ∈ T) (pbal : Part.bal ∈ T) (ptherm : Part.therm ∈ T) (ptele : Part.tele ∈ T) (pnvm : Part.nvm ∈ T) (ptime : Part.time ∈ T) (pcan : Part.can ∈ T) (ppair : Part.pair ∈ T) (palm : Part.alm ∈ T) (h0' : Within T s0 s) : ∃ u', (execVauxWarningRelease s) = .next u' ∧ Within T s0 u' := by
  unfold execVauxWarningRelease
  extract_lets s1 s2 s3
  rename_i s4 s5
  have h6 : Within T s0 s1 := by
    unfold s1
    refine State.wrB_within pregs ?_
    refine State.wrB_within pregs ?_
    exact h0'
  have h7 : Within T s0 s3 := by
    unfold s3
    exact within_upd h6 (crown := .inl pcrown)
  have h8 : Within T s0 s4 := by
    unfold s4
    refine State.wrB_within pregs ?_
    refine State.setMode_within pregs ?_
    exact h7
  have h9 : Within T s0 s5 := by
    unfold s5
    refine within_ite ?_ ?_
    · refine State.recover_within pregs pshadow pout pcrown pstg pq91 ppwm ploop ptrack pprot prk pscan pimp pest ptmx pringSt pbal ptele pnvm ppair ?_
      refine State.record_within pq91 ?_
      exact h8
    · exact h7
  clear_value s1 s2 s3 s4 s5
  refine ⟨_, rfl, ?_⟩
  refine within_ite ?_ ?_
  · exact h9
  · refine State.afterDip_within pregs pstaged pshadow pout paccErr preadData ptb pcrown pstg pq91 ppwm ploop ptrack pprot phost prk pscan pimp pest ptmx pdisp peng pringSt pharv pbal ptherm ptele pnvm ptime pcan ppair palm ?_
    exact h9

theorem execWatchdogReset_within {i : Start} {s : State} (pregs : Part.regs ∈ T) (pstaged : Part.staged ∈ T) (pshadow : Part.shadow ∈ T) (pout : Part.out ∈ T) (paccErr : Part.accErr ∈ T) (preadData : Part.readData ∈ T) (ptb : Part.tb ∈ T) (pcrown : Part.crown ∈ T) (pstg : Part.stg ∈ T) (pq91 : Part.q91 ∈ T) (ppwm : Part.pwm ∈ T) (ploop : Part.loop ∈ T) (ptrack : Part.track ∈ T) (pprot : Part.prot ∈ T) (phost : Part.host ∈ T) (prk : Part.rk ∈ T) (pscan : Part.scan ∈ T) (pimp : Part.imp ∈ T) (pest : Part.est ∈ T) (ptmx : Part.tmx ∈ T) (pdisp : Part.disp ∈ T) (peng : Part.eng ∈ T) (pringSt : Part.ringSt ∈ T) (pharv : Part.harv ∈ T) (pbal : Part.bal ∈ T) (ptherm : Part.therm ∈ T) (ptele : Part.tele ∈ T) (pnvm : Part.nvm ∈ T) (ptime : Part.time ∈ T) (pcan : Part.can ∈ T) (ppair : Part.pair ∈ T) (palm : Part.alm ∈ T) (h1' : Within T s0 s) : ∃ u', (execWatchdogReset i s) = .next u' ∧ Within T s0 u' := by
  unfold execWatchdogReset
  refine ⟨_, rfl, ?_⟩
  refine State.resetOr_within pregs pstaged pshadow pout paccErr preadData ptb pcrown pstg pq91 ppwm ploop ptrack pprot phost prk pscan pimp pest ptmx pdisp peng pringSt pharv pbal ptherm ptele pnvm ptime pcan ppair palm ?_
  exact h1'

/-! ## ProtFam -/

theorem State.endDegrade_within {s : State} (pregs : Part.regs ∈ T) (pq91 : Part.q91 ∈ T) (pprot : Part.prot ∈ T) (prk : Part.rk ∈ T) (pscan : Part.scan ∈ T) (h0' : Within T s0 s) : Within T s0 (State.endDegrade s) := by
  unfold State.endDegrade
  refine within_ite ?_ ?_
  · extract_lets s1
    rename_i x2
    have h3 : Within T s0 s1 := by
      unfold s1
      refine State.record_within pq91 ?_
      refine State.raise_within pregs pq91 prk pscan ?_
      refine State.wr_within pregs ?_
      refine State.wrB_within pregs ?_
      exact h0'
    clear_value s1 x2
    exact within_upd h3 (prot := .inl pprot)
  · exact h0'

theorem execDegradeExpiry_within {s : State} (pregs : Part.regs ∈ T) (pq91 : Part.q91 ∈ T) (pprot : Part.prot ∈ T) (prk : Part.rk ∈ T) (pscan : Part.scan ∈ T) (h0' : Within T s0 s) : ∃ u', (execDegradeExpiry s) = .next u' ∧ Within T s0 u' := by
  unfold execDegradeExpiry
  refine ⟨_, rfl, ?_⟩
  refine State.endDegrade_within pregs pq91 pprot prk pscan ?_
  exact h0'

theorem State.writeDegrade_within {s : State} {sec : ℕ} (pregs : Part.regs ∈ T) (pq91 : Part.q91 ∈ T) (pprot : Part.prot ∈ T) (prk : Part.rk ∈ T) (pscan : Part.scan ∈ T) (h0' : Within T s0 s) : Within T s0 (State.writeDegrade s sec) := by
  unfold State.writeDegrade
  refine within_ite ?_ ?_
  · exact h0'
  · extract_lets s1
    rename_i s2 x3
    have h4 : Within T s0 s1 := by
      unfold s1
      refine State.wr_within pregs ?_
      exact h0'
    have h5 : Within T s0 s2 := by
      unfold s2
      refine State.record_within pq91 ?_
      refine State.raise_within pregs pq91 prk pscan ?_
      refine State.wr_within pregs ?_
      refine State.wrB_within pregs ?_
      exact h4
    clear_value s1 s2 x3
    refine within_ite ?_ ?_
    · refine State.endDegrade_within pregs pq91 pprot prk pscan ?_
      exact h4
    · exact within_upd h5 (prot := .inl pprot)

theorem execDegradeGrant_within {who : Initiator} {sec : BitVec 12} {s : State} (pregs : Part.regs ∈ T) (paccErr : Part.accErr ∈ T) (pq91 : Part.q91 ∈ T) (pprot : Part.prot ∈ T) (phost : Part.host ∈ T) (prk : Part.rk ∈ T) (pscan : Part.scan ∈ T) (h2' : Within T s0 s) : ∃ u', (execDegradeGrant who sec s) = .next u' ∧ Within T s0 u' := by
  unfold execDegradeGrant
  refine ⟨_, rfl, ?_⟩
  refine State.asWrite_within pregs paccErr pq91 phost ?_ ?_
  · exact h2'
  · intro s1 h2
    refine State.writeDegrade_within pregs pq91 pprot prk pscan ?_
    exact h2

theorem State.protPend_within {s : State} {k : ℕ × ℤ} {b : Bool} (pprot : Part.prot ∈ T) (h0' : Within T s0 s) : Within T s0 (State.protPend s k b) := by
  unfold State.protPend
  exact within_upd h0' (prot := .inl pprot)

theorem execHallDetectOpen_within {s : State} (pregs : Part.regs ∈ T) (pprot : Part.prot ∈ T) (h0' : Within T s0 s) : ∃ u', (execHallDetectOpen s) = .next u' ∧ Within T s0 u' := by
  unfold execHallDetectOpen
  extract_lets s1
  rename_i s2
  have h3 : Within T s0 s2 := by
    unfold s2
    exact within_upd h0' (prot := .inl pprot)
  clear_value s1 s2
  refine ⟨_, rfl, ?_⟩
  refine within_ite ?_ ?_
  · exact h3
  · refine State.voidCheck_within pregs ?_
    refine State.protPend_within pprot ?_
    exact h3

theorem State.protLasting_within {s : State} {bit : ℕ} {data : List ℤ} (pregs : Part.regs ∈ T) (pshadow : Part.shadow ∈ T) (pout : Part.out ∈ T) (pcrown : Part.crown ∈ T) (pstg : Part.stg ∈ T) (pq91 : Part.q91 ∈ T) (ppwm : Part.pwm ∈ T) (ploop : Part.loop ∈ T) (ptrack : Part.track ∈ T) (pprot : Part.prot ∈ T) (prk : Part.rk ∈ T) (pscan : Part.scan ∈ T) (pimp : Part.imp ∈ T) (pest : Part.est ∈ T) (ptmx : Part.tmx ∈ T) (pringSt : Part.ringSt ∈ T) (pbal : Part.bal ∈ T) (ptele : Part.tele ∈ T) (pnvm : Part.nvm ∈ T) (ppair : Part.pair ∈ T) (h0' : Within T s0 s) : Within T s0 (State.protLasting s bit data) := by
  unfold State.protLasting
  extract_lets s1 s2
  have h3 : Within T s0 s2 := by
    unfold s2
    refine State.lasting_within pregs ?_
    refine State.raise_within pregs pq91 prk pscan ?_
    refine State.wrBit_within pregs ?_
    exact h0'
  clear_value s1 s2
  refine State.react_within pregs pshadow pout pcrown pstg pq91 ppwm ploop ptrack pprot prk pscan pimp pest ptmx pringSt pbal ptele pnvm ppair ?_
  refine State.addCond_within pregs pprot ?_
  exact h3

theorem State.protClear_within {s : State} {bit : ℕ} (pregs : Part.regs ∈ T) (pq91 : Part.q91 ∈ T) (pprot : Part.prot ∈ T) (prk : Part.rk ∈ T) (pscan : Part.scan ∈ T) (h0' : Within T s0 s) : Within T s0 (State.protClear s bit) := by
  unfold State.protClear
  refine State.clearCond_within pregs pprot ?_
  refine State.raise_within pregs pq91 prk pscan ?_
  refine State.wrBit_within pregs ?_
  exact h0'

theorem State.insulJudge_within {s : State} {rIso : ℕ} (pregs : Part.regs ∈ T) (pshadow : Part.shadow ∈ T) (pout : Part.out ∈ T) (pcrown : Part.crown ∈ T) (pstg : Part.stg ∈ T) (pq91 : Part.q91 ∈ T) (ppwm : Part.pwm ∈ T) (ploop : Part.loop ∈ T) (ptrack : Part.track ∈ T) (pprot : Part.prot ∈ T) (prk : Part.rk ∈ T) (pscan : Part.scan ∈ T) (pimp : Part.imp ∈ T) (pest : Part.est ∈ T) (ptmx : Part.tmx ∈ T) (pringSt : Part.ringSt ∈ T) (pbal : Part.bal ∈ T) (ptele : Part.tele ∈ T) (pnvm : Part.nvm ∈ T) (ppair : Part.pair ∈ T) (h0' : Within T s0 s) : Within T s0 (State.insulJudge s rIso) := by
  unfold State.insulJudge
  extract_lets s1 s2 s3 s4 s5 s6 s7
  rename_i x8 s9 s10 s11
  have h12 : Within T s0 s2 := by
    unfold s2
    refine within_ite ?_ ?_
    · refine State.raise_within pregs pq91 prk pscan ?_
      exact h0'
    · exact h0'
  have h13 : Within T s0 s3 := by
    unfold s3
    refine State.wrB_within pregs ?_
    exact h12
  have h14 : Within T s0 s7 := by
    unfold s7
    exact within_upd h13 (prot := .inl pprot)
  have h15 : ∀ a0 a1, Within T s0 a0 → Within T s0 (x8 a0 a1) := by
    intro s16 x17 h18
    unfold x8
    beta_reduce
    exact within_upd h18 (prot := .inl pprot)
  clear_value x8
  have h19 : Within T s0 s9 := by
    unfold s9
    apply h15
    exact h14
  have h20 : Within T s0 s10 := by
    unfold s10
    apply h15
    refine State.raise_within pregs pq91 prk pscan ?_
    refine State.wrB_within pregs ?_
    exact h14
  have h21 : Within T s0 s11 := by
    unfold s11
    refine State.raise_within pregs pq91 prk pscan ?_
    refine State.wrB_within pregs ?_
    exact h14
  clear_value s1 s2 s3 s4 s5 s6 s7 s9 s10 s11
  refine within_ite ?_ ?_
  · refine within_ite ?_ ?_
    · refine within_ite ?_ ?_
      · refine State.protLasting_within pregs pshadow pout pcrown pstg pq91 ppwm ploop ptrack pprot prk pscan pimp pest ptmx pringSt pbal ptele pnvm ppair ?_
        exact h19
      · exact h19
    · refine within_ite ?_ ?_
      · apply h15
        exact h14
      · refine within_ite ?_ ?_
        · refine State.protClear_within pregs pq91 pprot prk pscan ?_
          exact h20
        · exact h20
  · refine within_ite ?_ ?_
    · refine within_ite ?_ ?_
      · refine State.protLasting_within pregs pshadow pout pcrown pstg pq91 ppwm ploop ptrack pprot prk pscan pimp pest ptmx pringSt pbal ptele pnvm ppair ?_
        exact h21
      · exact h21
    · refine within_ite ?_ ?_
      · refine State.retryPass_within pregs pq91 ?_
        exact h14
      · exact h14

theorem State.insulCycle_within {s : State} {pB : ℤ} {nB : ℤ} (pregs : Part.regs ∈ T) (pshadow : Part.shadow ∈ T) (pout : Part.out ∈ T) (pcrown : Part.crown ∈ T) (pstg : Part.stg ∈ T) (pq91 : Part.q91 ∈ T) (ppwm : Part.pwm ∈ T) (ploop : Part.loop ∈ T) (ptrack : Part.track ∈ T) (pprot : Part.prot ∈ T) (prk : Part.rk ∈ T) (pscan : Part.scan ∈ T) (pimp : Part.imp ∈ T) (pest : Part.est ∈ T) (ptmx : Part.tmx ∈ T) (pringSt : Part.ringSt ∈ T) (pbal : Part.bal ∈ T) (ptele : Part.tele ∈ T) (pnvm : Part.nvm ∈ T) (ppair : Part.pair ∈ T) (h0' : Within T s0 s) : Within T s0 (State.insulCycle s pB nB) := by
  unfold State.insulCycle
  extract_lets s1 s2 s3 s4 s5 s6 s7 s8 s9 s10
  clear_value s5
  have h11 : Within T s0 s9 := by
    unfold s9
    refine State.wr_within pregs ?_
    refine State.wr_within pregs ?_
    refine State.wr_within pregs ?_
    exact h0'
  have h12 : Within T s0 s10 := by
    unfold s10
    refine State.raise_within pregs pq91 prk pscan ?_
    refine State.wrB_within pregs ?_
    refine State.bump_within pregs ?_
    exact h11
  clear_value s1 s2 s3 s4 s6 s7 s8 s9 s10
  refine State.insulJudge_within pregs pshadow pout pcrown pstg pq91 ppwm ploop ptrack pprot prk pscan pimp pest ptmx pringSt pbal ptele pnvm ppair ?_
  exact h12

theorem State.insulOff_within {s : State} (pregs : Part.regs ∈ T) (h0' : Within T s0 s) : Within T s0 (State.insulOff s) := by
  unfold State.insulOff
  refine State.wrB_within pregs ?_
  refine State.wrB_within pregs ?_
  refine State.wrB_within pregs ?_
  exact h0'

theorem execInsulStateEnd_within {vp : ℤ} {vn : ℤ} {s : State} (pregs : Part.regs ∈ T) (pshadow : Part.shadow ∈ T) (pout : Part.out ∈ T) (pcrown : Part.crown ∈ T) (pstg : Part.stg ∈ T) (pq91 : Part.q91 ∈ T) (ppwm : Part.pwm ∈ T) (ploop : Part.loop ∈ T) (ptrack : Part.track ∈ T) (pprot : Part.prot ∈ T) (prk : Part.rk ∈ T) (pscan : Part.scan ∈ T) (pimp : Part.imp ∈ T) (pest : Part.est ∈ T) (ptmx : Part.tmx ∈ T) (pringSt : Part.ringSt ∈ T) (pbal : Part.bal ∈ T) (ptele : Part.tele ∈ T) (pnvm : Part.nvm ∈ T) (ppair : Part.pair ∈ T) (h2' : Within T s0 s) : ∃ u', (execInsulStateEnd vp vn s) = .next u' ∧ Within T s0 u' := by
  unfold execInsulStateEnd
  refine out_ite ?_ ?_
  · extract_lets s1
    rename_i s2 x3
    have h4 : Within T s0 s1 := by
      unfold s1
      refine State.wrB_within pregs ?_
      refine State.wrB_within pregs ?_
      exact h2'
    have h5 : Within T s0 s2 := by
      unfold s2
      refine State.wrB_within pregs ?_
      exact h4
    clear_value s1 s2 x3
    refine out_ite ?_ ?_
    · refine ⟨_, rfl, ?_⟩
      refine State.insulCycle_within pregs pshadow pout pcrown pstg pq91 ppwm ploop ptrack pprot prk pscan pimp pest ptmx pringSt pbal ptele pnvm ppair ?_
      refine State.wrB_within pregs ?_
      exact h4
    · refine ⟨_, rfl, ?_⟩
      exact within_upd h5 (prot := .inl pprot)
  · refine ⟨_, rfl, ?_⟩
    refine State.insulOff_within pregs ?_
    exact h2'

theorem State.readEnables_within {s : State} {en0 : Bool} {en1 : Bool} (pregs : Part.regs ∈ T) (h0' : Within T s0 s) : Within T s0 (State.readEnables s en0 en1) := by
  unfold State.readEnables
  refine within_ite ?_ ?_
  · exact h0'
  · refine State.refreshGates_within pregs ?_
    refine State.wrB_within pregs ?_
    refine State.wrB_within pregs ?_
    exact h0'

theorem State.islandJudge_within {s : State} {c : Cond} {fails : Bool} {cls : RClass} {lasting : State → State} (pregs : Part.regs ∈ T) (pq91 : Part.q91 ∈ T) (pprot : Part.prot ∈ T) (h0' : Within T s0 s) (h4' : ∀ a0, Within T s0 a0 → Within T s0 (lasting a0)) : Within T s0 (State.islandJudge s c fails cls lasting) := by
  unfold State.islandJudge
  extract_lets s1
  have h2 : ∀ a0 a1, Within T s0 a0 → Within T s0 (s1 a0 a1) := by
    intro s3 x4 h5
    unfold s1
    beta_reduce
    exact within_upd h5 (prot := .inl pprot)
  clear_value s1
  refine within_ite ?_ ?_
  · refine within_ite ?_ ?_
    · exact h0'
    · refine State.clearCond_within pregs pprot ?_
      exact h0'
  · refine within_ite ?_ ?_
    · refine within_ite ?_ ?_
      · apply h4'
        refine State.addCond_within pregs pprot ?_
        apply h2
        exact h0'
      · refine State.retryPass_within pregs pq91 ?_
        apply h2
        exact h0'
    · refine within_ite ?_ ?_
      · apply h2
        exact h0'
      · exact h0'

theorem State.envelopeCheck_within {s : State} {i : ℤ} (pregs : Part.regs ∈ T) (pshadow : Part.shadow ∈ T) (pout : Part.out ∈ T) (pcrown : Part.crown ∈ T) (pstg : Part.stg ∈ T) (pq91 : Part.q91 ∈ T) (ppwm : Part.pwm ∈ T) (ploop : Part.loop ∈ T) (ptrack : Part.track ∈ T) (pprot : Part.prot ∈ T) (prk : Part.rk ∈ T) (pscan : Part.scan ∈ T) (pimp : Part.imp ∈ T) (pest : Part.est ∈ T) (ptmx : Part.tmx ∈ T) (pringSt : Part.ringSt ∈ T) (pbal : Part.bal ∈ T) (ptele : Part.tele ∈ T) (pnvm : Part.nvm ∈ T) (ppair : Part.pair ∈ T) (h0' : Within T s0 s) : Within T s0 (State.envelopeCheck s i) := by
  unfold State.envelopeCheck
  split
  · rename_i x1 x2 e3
    refine within_ite ?_ ?_
    · extract_lets s4 s5
      rename_i x6 s7
      have h8 : ∀ a0, Within T s0 (x6 a0) := by
        intro x9
        unfold x6
        beta_reduce
        exact within_upd h0' (prot := .inl pprot)
      clear_value x6
      have h10 : Within T s0 s7 := by
        unfold s7
        refine State.lasting_within pregs ?_
        refine State.raise_within pregs pq91 prk pscan ?_
        apply h8
      clear_value s4 s5 s7
      refine within_ite ?_ ?_
      · refine State.react_within pregs pshadow pout pcrown pstg pq91 ppwm ploop ptrack pprot prk pscan pimp pest ptmx pringSt pbal ptele pnvm ppair ?_
        exact h10
      · refine within_ite ?_ ?_
        · refine State.retryPass_within pregs pq91 ?_
          apply h8
        · apply h8
    · exact h0'
  · rename_i x11 e12
    exact h0'

theorem execIslandSample_within {iShunt : ℤ} {iHall : ℤ} {vString : ℤ} {en0 : Bool} {en1 : Bool} {s : State} (pregs : Part.regs ∈ T) (pshadow : Part.shadow ∈ T) (pout : Part.out ∈ T) (pcrown : Part.crown ∈ T) (pstg : Part.stg ∈ T) (pq91 : Part.q91 ∈ T) (ppwm : Part.pwm ∈ T) (ploop : Part.loop ∈ T) (ptrack : Part.track ∈ T) (pprot : Part.prot ∈ T) (prk : Part.rk ∈ T) (pscan : Part.scan ∈ T) (pimp : Part.imp ∈ T) (pest : Part.est ∈ T) (ptmx : Part.tmx ∈ T) (pringSt : Part.ringSt ∈ T) (pbal : Part.bal ∈ T) (ptele : Part.tele ∈ T) (pnvm : Part.nvm ∈ T) (ppair : Part.pair ∈ T) (h5' : Within T s0 s) : ∃ u', (execIslandSample iShunt iHall vString en0 en1 s) = .next u' ∧ Within T s0 u' := by
  unfold execIslandSample
  refine out_ite ?_ ?_
  · refine ⟨_, rfl, ?_⟩
    exact h5'
  · extract_lets s1 s2 s3 s4 s5 s6 s7
    have h8 : Within T s0 s1 := by
      unfold s1
      refine State.readEnables_within pregs ?_
      exact h5'
    have h9 : ∀ a0 a1 a2 a3 a4, Within T s0 a4 → Within T s0 (s4 a0 a1 a2 a3 a4) := by
      intro x10 x11 x12 x13 s14 h15
      unfold s4
      beta_reduce
      refine State.react_within pregs pshadow pout pcrown pstg pq91 ppwm ploop ptrack pprot prk pscan pimp pest ptmx pringSt pbal ptele pnvm ppair ?_
      refine State.lasting_within pregs ?_
      exact h15
    clear_value s4
    have h16 : Within T s0 s5 := by
      unfold s5
      refine State.islandJudge_within pregs pq91 pprot ?_ ?_
      · exact h8
      · intro s17 h18
        apply h9
        exact h18
    have h19 : Within T s0 s6 := by
      unfold s6
      refine State.islandJudge_within pregs pq91 pprot ?_ ?_
      · exact h16
      · intro s20 h21
        apply h9
        exact h21
    have h22 : Within T s0 s7 := by
      unfold s7
      refine State.islandJudge_within pregs pq91 pprot ?_ ?_
      · exact h19
      · intro s23 h24
        apply h9
        exact h24
    clear_value s1 s2 s3 s5 s6 s7
    refine ⟨_, rfl, ?_⟩
    refine State.envelopeCheck_within pregs pshadow pout pcrown pstg pq91 ppwm ploop ptrack pprot prk pscan pimp pest ptmx pringSt pbal ptele pnvm ppair ?_
    exact h22

theorem State.protHold_within {s : State} {k : ℕ × ℤ} {n : Option ℕ} (pprot : Part.prot ∈ T) (h0' : Within T s0 s) : Within T s0 (State.protHold s k n) := by
  unfold State.protHold
  extract_lets s1
  rename_i x2
  clear_value s1 x2
  exact within_upd h0' (prot := .inl pprot)

theorem State.protJudge_within {s : State} {bit : ℕ} {k : ℕ × ℤ} {fails : Bool} {data : List ℤ} (pregs : Part.regs ∈ T) (pshadow : Part.shadow ∈ T) (pout : Part.out ∈ T) (pcrown : Part.crown ∈ T) (pstg : Part.stg ∈ T) (pq91 : Part.q91 ∈ T) (ppwm : Part.pwm ∈ T) (ploop : Part.loop ∈ T) (ptrack : Part.track ∈ T) (pprot : Part.prot ∈ T) (prk : Part.rk ∈ T) (pscan : Part.scan ∈ T) (pimp : Part.imp ∈ T) (pest : Part.est ∈ T) (ptmx : Part.tmx ∈ T) (pringSt : Part.ringSt ∈ T) (pbal : Part.bal ∈ T) (ptele : Part.tele ∈ T) (pnvm : Part.nvm ∈ T) (ppair : Part.pair ∈ T) (h0' : Within T s0 s) : Within T s0 (State.protJudge s bit k fails data) := by
  unfold State.protJudge
  split
  · rename_i x1 x2 e3
    refine within_ite ?_ ?_
    · refine State.protHold_within pprot ?_
      exact h0'
    · refine within_ite ?_ ?_
      · refine State.protHold_within pprot ?_
        exact h0'
      · extract_lets s4
        have h5 : Within T s0 s4 := by
          unfold s4
          refine State.protHold_within pprot ?_
          exact h0'
        clear_value s4
        refine within_ite ?_ ?_
        · exact h5
        · refine State.protClear_within pregs pq91 pprot prk pscan ?_
          exact h5
  · rename_i x6 e7
    refine within_ite ?_ ?_
    · refine within_ite ?_ ?_
      · refine State.protLasting_within pregs pshadow pout pcrown pstg pq91 ppwm ploop ptrack pprot prk pscan pimp pest ptmx pringSt pbal ptele pnvm ppair ?_
        refine State.protHold_within pprot ?_
        refine State.protPend_within pprot ?_
        exact h0'
      · refine State.retryPass_within pregs pq91 ?_
        refine State.protPend_within pprot ?_
        exact h0'
    · refine within_ite ?_ ?_
      · refine State.protPend_within pprot ?_
        exact h0'
      · exact h0'

theorem execProtEvaluation_within {bit : Fin 8} {v : ℤ} {wher : ℤ} {s : State} (pregs : Part.regs ∈ T) (pshadow : Part.shadow ∈ T) (pout : Part.out ∈ T) (pcrown : Part.crown ∈ T) (pstg : Part.stg ∈ T) (pq91 : Part.q91 ∈ T) (ppwm : Part.pwm ∈ T) (ploop : Part.loop ∈ T) (ptrack : Part.track ∈ T) (pprot : Part.prot ∈ T) (prk : Part.rk ∈ T) (pscan : Part.scan ∈ T) (pimp : Part.imp ∈ T) (pest : Part.est ∈ T) (ptmx : Part.tmx ∈ T) (pringSt : Part.ringSt ∈ T) (pbal : Part.bal ∈ T) (ptele : Part.tele ∈ T) (pnvm : Part.nvm ∈ T) (ppair : Part.pair ∈ T) (h3' : Within T s0 s) : ∃ u', (execProtEvaluation bit v wher s) = .next u' ∧ Within T s0 u' := by
  unfold execProtEvaluation
  extract_lets s1
  clear_value s1
  refine out_ite ?_ ?_
  · refine ⟨_, rfl, ?_⟩
    exact h3'
  · refine ⟨_, rfl, ?_⟩
    refine State.protJudge_within pregs pshadow pout pcrown pstg pq91 ppwm ploop ptrack pprot prk pscan pimp pest ptmx pringSt pbal ptele pnvm ppair ?_
    exact h3'

theorem State.cmdSrd_within {s : State} (pregs : Part.regs ∈ T) (pshadow : Part.shadow ∈ T) (pout : Part.out ∈ T) (pcrown : Part.crown ∈ T) (pstg : Part.stg ∈ T) (pq91 : Part.q91 ∈ T) (ppwm : Part.pwm ∈ T) (ploop : Part.loop ∈ T) (ptrack : Part.track ∈ T) (pprot : Part.prot ∈ T) (prk : Part.rk ∈ T) (pscan : Part.scan ∈ T) (pimp : Part.imp ∈ T) (pest : Part.est ∈ T) (ptmx : Part.tmx ∈ T) (pringSt : Part.ringSt ∈ T) (pbal : Part.bal ∈ T) (ptele : Part.tele ∈ T) (pnvm : Part.nvm ∈ T) (ppair : Part.pair ∈ T) (h0' : Within T s0 s) : Within T s0 (State.cmdSrd s) := by
  unfold State.cmdSrd
  refine State.requestSrd_within pregs pshadow pout pcrown pstg pq91 ppwm ploop ptrack pprot prk pscan pimp pest ptmx pringSt pbal ptele pnvm ppair ?_
  exact h0'

theorem execSafeCmdSrd_within {who : Initiator} {s : State} (pregs : Part.regs ∈ T) (pshadow : Part.shadow ∈ T) (pout : Part.out ∈ T) (paccErr : Part.accErr ∈ T) (pcrown : Part.crown ∈ T) (pstg : Part.stg ∈ T) (pq91 : Part.q91 ∈ T) (ppwm : Part.pwm ∈ T) (ploop : Part.loop ∈ T) (ptrack : Part.track ∈ T) (pprot : Part.prot ∈ T) (phost : Part.host ∈ T) (prk : Part.rk ∈ T) (pscan : Part.scan ∈ T) (pimp : Part.imp ∈ T) (pest : Part.est ∈ T) (ptmx : Part.tmx ∈ T) (pringSt : Part.ringSt ∈ T) (pbal : Part.bal ∈ T) (ptele : Part.tele ∈ T) (pnvm : Part.nvm ∈ T) (ppair : Part.pair ∈ T) (h1' : Within T s0 s) : ∃ u', (execSafeCmdSrd who s) = .next u' ∧ Within T s0 u' := by
  unfold execSafeCmdSrd
  refine ⟨_, rfl, ?_⟩
  refine State.asWrite_within pregs paccErr pq91 phost ?_ ?_
  · exact h1'
  · intro s1 h2
    refine State.cmdSrd_within pregs pshadow pout pcrown pstg pq91 ppwm ploop ptrack pprot prk pscan pimp pest ptmx pringSt pbal ptele pnvm ppair ?_
    exact h2

theorem State.cmdTrip_within {s : State} (pregs : Part.regs ∈ T) (pshadow : Part.shadow ∈ T) (pout : Part.out ∈ T) (pcrown : Part.crown ∈ T) (pstg : Part.stg ∈ T) (pq91 : Part.q91 ∈ T) (ppwm : Part.pwm ∈ T) (ploop : Part.loop ∈ T) (ptrack : Part.track ∈ T) (pprot : Part.prot ∈ T) (prk : Part.rk ∈ T) (pscan : Part.scan ∈ T) (pimp : Part.imp ∈ T) (pest : Part.est ∈ T) (ptmx : Part.tmx ∈ T) (pringSt : Part.ringSt ∈ T) (pbal : Part.bal ∈ T) (ptele : Part.tele ∈ T) (pnvm : Part.nvm ∈ T) (ppair : Part.pair ∈ T) (h0' : Within T s0 s) : Within T s0 (State.cmdTrip s) := by
  unfold State.cmdTrip
  refine State.hardTrip_within pregs pshadow pout pcrown pstg pq91 ppwm ploop ptrack pprot prk pscan pimp pest ptmx pringSt pbal ptele pnvm ppair ?_
  refine State.noteSH_within pprot ?_
  refine State.record_within pq91 ?_
  exact h0'

theorem execSafeCmdTrip_within {who : Initiator} {s : State} (pregs : Part.regs ∈ T) (pshadow : Part.shadow ∈ T) (pout : Part.out ∈ T) (paccErr : Part.accErr ∈ T) (pcrown : Part.crown ∈ T) (pstg : Part.stg ∈ T) (pq91 : Part.q91 ∈ T) (ppwm : Part.pwm ∈ T) (ploop : Part.loop ∈ T) (ptrack : Part.track ∈ T) (pprot : Part.prot ∈ T) (phost : Part.host ∈ T) (prk : Part.rk ∈ T) (pscan : Part.scan ∈ T) (pimp : Part.imp ∈ T) (pest : Part.est ∈ T) (ptmx : Part.tmx ∈ T) (pringSt : Part.ringSt ∈ T) (pbal : Part.bal ∈ T) (ptele : Part.tele ∈ T) (pnvm : Part.nvm ∈ T) (ppair : Part.pair ∈ T) (h1' : Within T s0 s) : ∃ u', (execSafeCmdTrip who s) = .next u' ∧ Within T s0 u' := by
  unfold execSafeCmdTrip
  refine ⟨_, rfl, ?_⟩
  refine State.asWrite_within pregs paccErr pq91 phost ?_ ?_
  · exact h1'
  · intro s1 h2
    refine State.cmdTrip_within pregs pshadow pout pcrown pstg pq91 ppwm ploop ptrack pprot prk pscan pimp pest ptmx pringSt pbal ptele pnvm ppair ?_
    exact h2

theorem execSafeclkStop_within {s : State} (pregs : Part.regs ∈ T) (pshadow : Part.shadow ∈ T) (pout : Part.out ∈ T) (pcrown : Part.crown ∈ T) (pstg : Part.stg ∈ T) (pq91 : Part.q91 ∈ T) (ppwm : Part.pwm ∈ T) (ploop : Part.loop ∈ T) (ptrack : Part.track ∈ T) (pprot : Part.prot ∈ T) (prk : Part.rk ∈ T) (pscan : Part.scan ∈ T) (pimp : Part.imp ∈ T) (pest : Part.est ∈ T) (ptmx : Part.tmx ∈ T) (pringSt : Part.ringSt ∈ T) (pbal : Part.bal ∈ T) (ptele : Part.tele ∈ T) (pnvm : Part.nvm ∈ T) (ppair : Part.pair ∈ T) (h0' : Within T s0 s) : ∃ u', (execSafeclkStop s) = .next u' ∧ Within T s0 u' := by
  unfold execSafeclkStop
  extract_lets s1
  rename_i s2
  have h3 : Within T s0 s2 := by
    unfold s2
    refine State.raise_within pregs pq91 prk pscan ?_
    refine State.dropEnables_within pregs pprot ?_
    exact within_upd h0' (prot := .inl pprot)
  clear_value s1 s2
  refine ⟨_, rfl, ?_⟩
  refine State.react_within pregs pshadow pout pcrown pstg pq91 ppwm ploop ptrack pprot prk pscan pimp pest ptmx pringSt pbal ptele pnvm ppair ?_
  refine State.addCond_within pregs pprot ?_
  exact h3

theorem execSafetyWatchdog_within {n : Fin 8} {s : State} (pregs : Part.regs ∈ T) (pshadow : Part.shadow ∈ T) (pout : Part.out ∈ T) (pcrown : Part.crown ∈ T) (pstg : Part.stg ∈ T) (pq91 : Part.q91 ∈ T) (ppwm : Part.pwm ∈ T) (ploop : Part.loop ∈ T) (ptrack : Part.track ∈ T) (pprot : Part.prot ∈ T) (prk : Part.rk ∈ T) (pscan : Part.scan ∈ T) (pimp : Part.imp ∈ T) (pest : Part.est ∈ T) (ptmx : Part.tmx ∈ T) (pringSt : Part.ringSt ∈ T) (pbal : Part.bal ∈ T) (ptele : Part.tele ∈ T) (pnvm : Part.nvm ∈ T) (ppair : Part.pair ∈ T) (h1' : Within T s0 s) : ∃ u', (execSafetyWatchdog n s) = .next u' ∧ Within T s0 u' := by
  unfold execSafetyWatchdog
  refine out_ite ?_ ?_
  · extract_lets s1
    have h2 : Within T s0 s1 := by
      unfold s1
      refine State.raise_within pregs pq91 prk pscan ?_
      refine State.wrBit_within pregs ?_
      exact h1'
    clear_value s1
    refine ⟨_, rfl, ?_⟩
    refine State.requestSrd_within pregs pshadow pout pcrown pstg pq91 ppwm ploop ptrack pprot prk pscan pimp pest ptmx pringSt pbal ptele pnvm ppair ?_
    refine State.addCond_within pregs pprot ?_
    exact h2
  · refine ⟨_, rfl, ?_⟩
    exact h1'

theorem execSnetStateTx_within {s : State} (pout : Part.out ∈ T) (pprot : Part.prot ∈ T) (h0' : Within T s0 s) : ∃ u', (execSnetStateTx s) = .next u' ∧ Within T s0 u' := by
  unfold execSnetStateTx
  extract_lets s1 s2 s3 s4
  rename_i x5
  have h6 : Within T s0 s2 := by
    unfold s2
    exact within_upd h0' (prot := .inl pprot)
  have h7 : ∀ a0 a1 a2, Within T s0 a0 → Within T s0 (x5 a0 a1 a2) := by
    intro s8 x9 x10 h11
    unfold x5
    beta_reduce
    refine within_ite ?_ ?_
    · exact h11
    · refine State.send_within pout ?_
      exact h11
  clear_value x5
  clear_value s1 s2 s3 s4
  refine ⟨_, rfl, ?_⟩
  apply h7
  apply h7
  exact h6

theorem execSrdCoilTimeout_within {s : State} (pregs : Part.regs ∈ T) (pout : Part.out ∈ T) (pcrown : Part.crown ∈ T) (pq91 : Part.q91 ∈ T) (ppwm : Part.pwm ∈ T) (ploop : Part.loop ∈ T) (ptrack : Part.track ∈ T) (pprot : Part.prot ∈ T) (prk : Part.rk ∈ T) (pscan : Part.scan ∈ T) (pest : Part.est ∈ T) (ptmx : Part.tmx ∈ T) (pringSt : Part.ringSt ∈ T) (pbal : Part.bal ∈ T) (ptele : Part.tele ∈ T) (pnvm : Part.nvm ∈ T) (h0' : Within T s0 s) : ∃ u', (execSrdCoilTimeout s) = .next u' ∧ Within T s0 u' := by
  unfold execSrdCoilTimeout
  refine out_ite ?_ ?_
  · refine ⟨_, rfl, ?_⟩
    refine State.advanceOpen_within pregs pout pcrown pq91 ppwm ploop ptrack pprot prk pscan pest ptmx pringSt pbal ptele pnvm ?_
    refine State.cutFeed_within pregs pq91 ptrack prk pscan ?_
    exact h0'
  · refine ⟨_, rfl, ?_⟩
    exact h0'

theorem State.srdBothOn_within {s : State} (pregs : Part.regs ∈ T) (pq91 : Part.q91 ∈ T) (pprot : Part.prot ∈ T) (prk : Part.rk ∈ T) (pscan : Part.scan ∈ T) (h0' : Within T s0 s) : Within T s0 (State.srdBothOn s) := by
  unfold State.srdBothOn
  extract_lets s1
  rename_i x2 s3
  have h4 : Within T s0 s3 := by
    unfold s3
    exact within_upd h0' (prot := .inl pprot)
  clear_value s1 x2 s3
  refine within_ite ?_ ?_
  · exact h0'
  · refine within_ite ?_ ?_
    · refine State.clearCond_within pregs pprot ?_
      refine State.clearCond_within pregs pprot ?_
      exact h0'
    · refine within_ite ?_ ?_
      · exact h4
      · refine State.addCond_within pregs pprot ?_
        refine State.record_within pq91 ?_
        refine State.lasting_within pregs ?_
        refine State.raise_within pregs pq91 prk pscan ?_
        exact h4

theorem State.srdRequested_within {s : State} (pregs : Part.regs ∈ T) (pshadow : Part.shadow ∈ T) (pout : Part.out ∈ T) (pcrown : Part.crown ∈ T) (pstg : Part.stg ∈ T) (pq91 : Part.q91 ∈ T) (ppwm : Part.pwm ∈ T) (ploop : Part.loop ∈ T) (ptrack : Part.track ∈ T) (pprot : Part.prot ∈ T) (prk : Part.rk ∈ T) (pscan : Part.scan ∈ T) (pimp : Part.imp ∈ T) (pest : Part.est ∈ T) (ptmx : Part.tmx ∈ T) (pringSt : Part.ringSt ∈ T) (pbal : Part.bal ∈ T) (ptele : Part.tele ∈ T) (pnvm : Part.nvm ∈ T) (ppair : Part.pair ∈ T) (h0' : Within T s0 s) : Within T s0 (State.srdRequested s) := by
  unfold State.srdRequested
  refine State.requestSrd_within pregs pshadow pout pcrown pstg pq91 ppwm ploop ptrack pprot prk pscan pimp pest ptmx pringSt pbal ptele pnvm ppair ?_
  refine State.addCond_within pregs pprot ?_
  exact h0'

theorem execSrdInput_within {ch : Fin 2} {energised : Bool} {s : State} (pregs : Part.regs ∈ T) (pshadow : Part.shadow ∈ T) (pout : Part.out ∈ T) (pcrown : Part.crown ∈ T) (pstg : Part.stg ∈ T) (pq91 : Part.q91 ∈ T) (ppwm : Part.pwm ∈ T) (ploop : Part.loop ∈ T) (ptrack : Part.track ∈ T) (pprot : Part.prot ∈ T) (prk : Part.rk ∈ T) (pscan : Part.scan ∈ T) (pimp : Part.imp ∈ T) (pest : Part.est ∈ T) (ptmx : Part.tmx ∈ T) (pringSt : Part.ringSt ∈ T) (pbal : Part.bal ∈ T) (ptele : Part.tele ∈ T) (pnvm : Part.nvm ∈ T) (ppair : Part.pair ∈ T) (h2' : Within T s0 s) : ∃ u', (execSrdInput ch energised s) = .next u' ∧ Within T s0 u' := by
  unfold execSrdInput
  refine out_ite ?_ ?_
  · refine ⟨_, rfl, ?_⟩
    exact h2'
  · extract_lets s1 s2 s3
    rename_i x4 s5 s6
    have h7 : Within T s0 s3 := by
      unfold s3
      refine State.wrB_within pregs ?_
      exact h2'
    have h8 : Within T s0 s5 := by
      unfold s5
      refine within_ite ?_ ?_
      · exact h7
      · refine within_ite ?_ ?_
        · exact within_upd h7 (prot := .inl pprot)
        · exact within_upd h7 (prot := .inl pprot)
    have h9 : Within T s0 s6 := by
      unfold s6
      refine within_ite ?_ ?_
      · exact h7
      · exact within_upd h7 (prot := .inl pprot)
    clear_value s1 s2 s3 x4 s5 s6
    refine out_ite ?_ ?_
    · refine out_ite ?_ ?_
      · refine ⟨_, rfl, ?_⟩
        refine State.srdBothOn_within pregs pq91 pprot prk pscan ?_
        exact h8
      · refine ⟨_, rfl, ?_⟩
        exact h8
    · refine ⟨_, rfl, ?_⟩
      refine State.srdRequested_within pregs pshadow pout pcrown pstg pq91 ppwm ploop ptrack pprot prk pscan pimp pest ptmx pringSt pbal ptele pnvm ppair ?_
      exact h9

theorem execSrdRampEnd_within {s : State} (pregs : Part.regs ∈ T) (pout : Part.out ∈ T) (pcrown : Part.crown ∈ T) (pq91 : Part.q91 ∈ T) (ppwm : Part.pwm ∈ T) (ploop : Part.loop ∈ T) (ptrack : Part.track ∈ T) (pprot : Part.prot ∈ T) (prk : Part.rk ∈ T) (pscan : Part.scan ∈ T) (pest : Part.est ∈ T) (ptmx : Part.tmx ∈ T) (pringSt : Part.ringSt ∈ T) (pbal : Part.bal ∈ T) (ptele : Part.tele ∈ T) (pnvm : Part.nvm ∈ T) (h0' : Within T s0 s) : ∃ u', (execSrdRampEnd s) = .next u' ∧ Within T s0 u' := by
  unfold execSrdRampEnd
  extract_lets s1
  clear_value s1
  refine out_ite ?_ ?_
  · refine ⟨_, rfl, ?_⟩
    refine State.srdRampEnd_within pregs pout pcrown pq91 ppwm ploop ptrack pprot prk pscan pest ptmx pringSt pbal ptele pnvm ?_
    exact h0'
  · refine ⟨_, rfl, ?_⟩
    exact h0'

theorem State.setSource_within {s : State} {n : ℕ} {x : Source} (pprot : Part.prot ∈ T) (h0' : Within T s0 s) : Within T s0 (State.setSource s n x) := by
  unfold State.setSource
  exact within_upd h0' (prot := .inl pprot)

theorem State.validPair_within {s : State} {n : ℕ} {m : List Byte} (pregs : Part.regs ∈ T) (pshadow : Part.shadow ∈ T) (pout : Part.out ∈ T) (pcrown : Part.crown ∈ T) (pstg : Part.stg ∈ T) (pq91 : Part.q91 ∈ T) (ppwm : Part.pwm ∈ T) (ploop : Part.loop ∈ T) (ptrack : Part.track ∈ T) (pprot : Part.prot ∈ T) (prk : Part.rk ∈ T) (pscan : Part.scan ∈ T) (pimp : Part.imp ∈ T) (pest : Part.est ∈ T) (ptmx : Part.tmx ∈ T) (pringSt : Part.ringSt ∈ T) (pbal : Part.bal ∈ T) (ptele : Part.tele ∈ T) (pnvm : Part.nvm ∈ T) (ppair : Part.pair ∈ T) (h0' : Within T s0 s) : Within T s0 (State.validPair s n m) := by
  unfold State.validPair
  extract_lets s1 s2 s3 s4 s5
  have h6 : Within T s0 s2 := by
    unfold s2
    refine within_ite ?_ ?_
    · refine State.retryPass_within pregs pq91 ?_
      exact h0'
    · exact h0'
  have h7 : Within T s0 s3 := by
    unfold s3
    refine State.wrBit_within pregs ?_
    refine State.setSource_within pprot ?_
    exact h6
  have h8 : Within T s0 s4 := by
    unfold s4
    refine State.clearCond_within pregs pprot ?_
    exact h7
  clear_value s1 s2 s3 s4 s5
  refine within_ite ?_ ?_
  · refine State.hardTrip_within pregs pshadow pout pcrown pstg pq91 ppwm ploop ptrack pprot prk pscan pimp pest ptmx pringSt pbal ptele pnvm ppair ?_
    refine State.noteSH_within pprot ?_
    refine State.record_within pq91 ?_
    refine State.raise_within pregs pq91 prk pscan ?_
    exact h8
  · refine within_ite ?_ ?_
    · refine State.requestSrd_within pregs pshadow pout pcrown pstg pq91 ppwm ploop ptrack pprot prk pscan pimp pest ptmx pringSt pbal ptele pnvm ppair ?_
      refine State.raise_within pregs pq91 prk pscan ?_
      exact h8
    · exact h8

theorem State.twinsDiffer_within {s : State} {n : ℕ} {m : List Byte} (pregs : Part.regs ∈ T) (pq91 : Part.q91 ∈ T) (pprot : Part.prot ∈ T) (prk : Part.rk ∈ T) (pscan : Part.scan ∈ T) (h0' : Within T s0 s) : Within T s0 (State.twinsDiffer s n m) := by
  unfold State.twinsDiffer
  extract_lets s1 s2 s3 s4
  have h5 : Within T s0 s4 := by
    unfold s4
    refine State.setSource_within pprot ?_
    exact h0'
  clear_value s1 s2 s3 s4
  refine within_ite ?_ ?_
  · refine State.record_within pq91 ?_
    refine State.lasting_within pregs ?_
    refine State.raise_within pregs pq91 prk pscan ?_
    refine State.bump_within pregs ?_
    exact h5
  · exact h5

theorem execTwinnedSafetyMessage_within {port : Fin 2} {m : SafetyDatagram} {s : State} (pregs : Part.regs ∈ T) (pshadow : Part.shadow ∈ T) (pout : Part.out ∈ T) (pcrown : Part.crown ∈ T) (pstg : Part.stg ∈ T) (pq91 : Part.q91 ∈ T) (ppwm : Part.pwm ∈ T) (ploop : Part.loop ∈ T) (ptrack : Part.track ∈ T) (pprot : Part.prot ∈ T) (prk : Part.rk ∈ T) (pscan : Part.scan ∈ T) (pimp : Part.imp ∈ T) (pest : Part.est ∈ T) (ptmx : Part.tmx ∈ T) (pringSt : Part.ringSt ∈ T) (pbal : Part.bal ∈ T) (ptele : Part.tele ∈ T) (pnvm : Part.nvm ∈ T) (ppair : Part.pair ∈ T) (h2' : Within T s0 s) : ∃ u', (execTwinnedSafetyMessage port m s) = .next u' ∧ Within T s0 u' := by
  unfold execTwinnedSafetyMessage
  split
  · rename_i x1 e2
    refine ⟨_, rfl, ?_⟩
    exact h2'
  · rename_i x3 x4 e5
    extract_lets s6 s7 s8
    rename_i s9
    have h10 : ∀ a0, Within T s0 a0 → Within T s0 (s8 a0) := by
      intro s11 h12
      unfold s8
      beta_reduce
      refine State.setSource_within pprot ?_
      exact h12
    clear_value s8
    have h13 : Within T s0 s9 := by
      unfold s9
      refine State.bump_within pregs ?_
      exact h2'
    clear_value s6 s7 s9
    split
    · rename_i x14 x15 e16
      refine out_ite ?_ ?_
      · refine out_ite ?_ ?_
        · refine ⟨_, rfl, ?_⟩
          refine State.validPair_within pregs pshadow pout pcrown pstg pq91 ppwm ploop ptrack pprot prk pscan pimp pest ptmx pringSt pbal ptele pnvm ppair ?_
          exact h2'
        · refine ⟨_, rfl, ?_⟩
          refine State.twinsDiffer_within pregs pq91 pprot prk pscan ?_
          exact h2'
      · refine ⟨_, rfl, ?_⟩
        refine within_ite ?_ ?_
        · refine State.validPair_within pregs pshadow pout pcrown pstg pq91 ppwm ploop ptrack pprot prk pscan pimp pest ptmx pringSt pbal ptele pnvm ppair ?_
          exact h13
        · apply h10
          exact h13
    · rename_i x17 e18
      refine out_ite ?_ ?_
      · refine ⟨_, rfl, ?_⟩
        refine State.validPair_within pregs pshadow pout pcrown pstg pq91 ppwm ploop ptrack pprot prk pscan pimp pest ptmx pringSt pbal ptele pnvm ppair ?_
        exact h2'
      · refine ⟨_, rfl, ?_⟩
        apply h10
        exact h2'

theorem State.dropSingles_within {s : State} (pregs : Part.regs ∈ T) (pprot : Part.prot ∈ T) (h0' : Within T s0 s) : Within T s0 (State.dropSingles s) := by
  unfold State.dropSingles
  refine within_foldl ?_ ?_
  · exact h0'
  · intro s1 x2 h3
    extract_lets s4
    clear_value s4
    refine within_ite ?_ ?_
    · refine State.bump_within pregs ?_
      refine State.setSource_within pprot ?_
      exact h3
    · exact h3

theorem State.snetReset_within {s : State} {n : ℕ} (pregs : Part.regs ∈ T) (pprot : Part.prot ∈ T) (h0' : Within T s0 s) : Within T s0 (State.snetReset s n) := by
  unfold State.snetReset
  extract_lets s1
  have h2 : Within T s0 s1 := by
    unfold s1
    refine State.wrBit_within pregs ?_
    refine State.setSource_within pprot ?_
    exact h0'
  clear_value s1
  refine within_ite ?_ ?_
  · exact h2
  · refine State.clearCond_within pregs pprot ?_
    exact h2

end Sys2Proof.Machine
end

