-- ==== Sys2Proof/Laws/Within7.lean ====
section
/-!
SUPPORT. The parts of the state that each operation can change: Staging, StageFam, ImpedFam, ModeFam, PairFam.
-/
set_option Elab.async false
set_option linter.unusedSimpArgs false
set_option linter.unusedVariables false
set_option linter.unusedTactic false
set_option linter.unreachableTactic false
namespace Sys2Proof.Machine
open Sys2Proof

variable {T : List Part} {s0 : State}

/-! ## Staging -/

theorem State.afterTakeUp_within {s : State} (pregs : Part.regs ∈ T) (pstaged : Part.staged ∈ T) (pshadow : Part.shadow ∈ T) (pout : Part.out ∈ T) (paccErr : Part.accErr ∈ T) (preadData : Part.readData ∈ T) (ptb : Part.tb ∈ T) (pcrown : Part.crown ∈ T) (pstg : Part.stg ∈ T) (pq91 : Part.q91 ∈ T) (ppwm : Part.pwm ∈ T) (ploop : Part.loop ∈ T) (ptrack : Part.track ∈ T) (pprot : Part.prot ∈ T) (phost : Part.host ∈ T) (prk : Part.rk ∈ T) (pscan : Part.scan ∈ T) (pimp : Part.imp ∈ T) (pest : Part.est ∈ T) (ptmx : Part.tmx ∈ T) (pdisp : Part.disp ∈ T) (peng : Part.eng ∈ T) (pringSt : Part.ringSt ∈ T) (pharv : Part.harv ∈ T) (pbal : Part.bal ∈ T) (ptherm : Part.therm ∈ T) (ptele : Part.tele ∈ T) (pnvm : Part.nvm ∈ T) (ptime : Part.time ∈ T) (pcan : Part.can ∈ T) (ppair : Part.pair ∈ T) (palm : Part.alm ∈ T) (h0' : Within T s0 s) : Within T s0 (State.afterTakeUp s) := by
  unfold State.afterTakeUp
  extract_lets s1
  rename_i s2 x3
  have h4 : Within T s0 s2 := by
    unfold s2
    refine within_ite ?_ ?_
    · refine State.toRun_within pregs pout pcrown pq91 ppwm ploop ptrack prk pscan pimp pringSt pbal ppair ?_
      exact within_upd h0' (crown := .inl pcrown)
    · exact h0'
  clear_value s1 s2 x3
  split
  · rename_i x5 x6 x7 e8
    refine State.restart_within pregs pstaged pshadow pout paccErr preadData ptb pcrown pstg pq91 ppwm ploop ptrack pprot phost prk pscan pimp pest ptmx pdisp peng pringSt pharv pbal ptherm ptele pnvm ptime pcan ppair palm ?_
    exact within_upd h4 (crown := .inl pcrown)
  · rename_i x9 e10
    exact h4

theorem State.arm_within {s : State} {kind : ℕ} {task : ℕ} {lead : ℕ} (pregs : Part.regs ∈ T) (pstg : Part.stg ∈ T) (h0' : Within T s0 s) : Within T s0 (State.arm s kind task lead) := by
  unfold State.arm
  extract_lets s1
  rename_i x2
  have h3 : Within T s0 s1 := by
    unfold s1
    refine State.wr_within pregs ?_
    exact h0'
  clear_value s1 x2
  exact within_upd h3 (stg := .inl pstg)

theorem State.stageErr_within {s : State} {page : ℕ} {rule : ℕ} {cause : ℕ} (pregs : Part.regs ∈ T) (h0' : Within T s0 s) : Within T s0 (State.stageErr s page rule cause) := by
  unfold State.stageErr
  refine State.wr_within pregs ?_
  refine State.wr_within pregs ?_
  refine State.wr_within pregs ?_
  exact h0'

theorem State.apply_within {s : State} {kind : ℕ} {task : ℕ} {lead : ℕ} (pregs : Part.regs ∈ T) (pstg : Part.stg ∈ T) (h0' : Within T s0 s) : Within T s0 (State.apply s kind task lead) := by
  unfold State.apply
  extract_lets s1
  clear_value s1
  refine within_ite ?_ ?_
  · refine State.arm_within pregs pstg ?_
    exact h0'
  · refine State.stageErr_within pregs ?_
    exact h0'

theorem State.report_within {s : State} {l : List (ℕ × ℕ × ℕ × ℕ)} (pregs : Part.regs ∈ T) (h0' : Within T s0 s) : Within T s0 (State.report s l) := by
  unfold State.report
  extract_lets s1 s2
  have h3 : Within T s0 s1 := by
    unfold s1
    refine within_foldl ?_ ?_
    · exact h0'
    · intro s4 x5 h6
      refine within_ite ?_ ?_
      · exact h6
      · refine State.setWord_within pregs ?_
        exact h6
  have h7 : Within T s0 s2 := by
    unfold s2
    refine within_foldl ?_ ?_
    · exact h3
    · intro s8 x9 h10
      refine within_ite ?_ ?_
      · exact h10
      · refine State.wr_within pregs ?_
        refine State.wr_within pregs ?_
        refine State.wr_within pregs ?_
        exact h10
  clear_value s1 s2
  split
  · rename_i x11
    refine State.stageErr_within pregs ?_
    exact h7
  · rename_i x12 x13 x14 x15 x16 x17
    refine State.stageErr_within pregs ?_
    exact h7

theorem State.own_within {s : State} {who : Initiator} (pregs : Part.regs ∈ T) (h0' : Within T s0 s) : Within T s0 (State.own s who) := by
  unfold State.own
  refine State.wrB_within pregs ?_
  refine State.wr_within pregs ?_
  exact h0'

theorem State.startCheck_within {s : State} (pregs : Part.regs ∈ T) (pstg : Part.stg ∈ T) (h0' : Within T s0 s) : Within T s0 (State.startCheck s) := by
  unfold State.startCheck
  extract_lets s1
  rename_i x2
  have h3 : Within T s0 s1 := by
    unfold s1
    refine State.wr_within pregs ?_
    exact h0'
  clear_value s1 x2
  exact within_upd h3 (stg := .inl pstg)

theorem State.check_within {s : State} {who : Initiator} (pregs : Part.regs ∈ T) (pstg : Part.stg ∈ T) (h0' : Within T s0 s) : Within T s0 (State.check s who) := by
  unfold State.check
  split
  · rename_i x1 e2
    refine State.wr_within pregs ?_
    refine State.report_within pregs ?_
    refine State.own_within pregs ?_
    exact h0'
  · rename_i x3 e4
    refine State.startCheck_within pregs pstg ?_
    exact h0'
  · rename_i x5 e6
    refine State.startCheck_within pregs pstg ?_
    exact h0'
  · rename_i x7 e8
    refine State.startCheck_within pregs pstg ?_
    exact h0'
  · rename_i x9 e10 e11 e12 e13
    exact h0'

theorem State.commitRefused_within {s : State} (pregs : Part.regs ∈ T) (pstg : Part.stg ∈ T) (h0' : Within T s0 s) : Within T s0 (State.commitRefused s) := by
  unfold State.commitRefused
  refine State.wr_within pregs ?_
  exact within_upd h0' (stg := .inl pstg)

theorem State.reportProgram_within {s : State} (pregs : Part.regs ∈ T) (h0' : Within T s0 s) : Within T s0 (State.reportProgram s) := by
  unfold State.reportProgram
  extract_lets s1
  clear_value s1
  refine State.wr_within pregs ?_
  refine State.wr_within pregs ?_
  refine State.wr_within pregs ?_
  exact h0'

theorem State.commitApply_within {s : State} (pregs : Part.regs ∈ T) (pstg : Part.stg ∈ T) (h0' : Within T s0 s) : Within T s0 (State.commitApply s) := by
  unfold State.commitApply
  refine within_ite ?_ ?_
  · extract_lets s1
    rename_i x2
    have h3 : Within T s0 s1 := by
      unfold s1
      refine State.arm_within pregs pstg ?_
      exact h0'
    clear_value s1 x2
    exact within_upd h3 (stg := .inl pstg)
  · refine State.commitRefused_within pregs pstg ?_
    exact h0'

theorem State.checkDone_within {s : State} (pregs : Part.regs ∈ T) (pstg : Part.stg ∈ T) (h0' : Within T s0 s) : Within T s0 (State.checkDone s) := by
  unfold State.checkDone
  refine within_ite ?_ ?_
  · refine within_ite ?_ ?_
    · refine State.commitRefused_within pregs pstg ?_
      exact h0'
    · exact h0'
  · extract_lets s1
    have h2 : Within T s0 s1 := by
      unfold s1
      refine State.wr_within pregs ?_
      refine State.report_within pregs ?_
      refine State.reportProgram_within pregs ?_
      exact h0'
    clear_value s1
    refine within_ite ?_ ?_
    · refine within_ite ?_ ?_
      · refine State.commitApply_within pregs pstg ?_
        exact h2
      · refine State.commitRefused_within pregs pstg ?_
        exact h2
    · exact h2

theorem State.commitGo_within {s : State} (pregs : Part.regs ∈ T) (pstg : Part.stg ∈ T) (h0' : Within T s0 s) : Within T s0 (State.commitGo s) := by
  unfold State.commitGo
  refine within_ite ?_ ?_
  · refine State.commitApply_within pregs pstg ?_
    exact h0'
  · exact h0'

theorem State.commitStored_within {s : State} {outcome : ℕ} (pregs : Part.regs ∈ T) (pstg : Part.stg ∈ T) (pq91 : Part.q91 ∈ T) (pnvm : Part.nvm ∈ T) (h0' : Within T s0 s) : Within T s0 (State.commitStored s outcome) := by
  unfold State.commitStored
  refine within_ite ?_ ?_
  · exact h0'
  · extract_lets s1
    rename_i s2
    have h3 : Within T s0 s2 := by
      unfold s2
      exact within_upd h0' (stg := .inl pstg)
    clear_value s1 s2
    split
    · rename_i x4
      refine State.wr_within pregs ?_
      refine State.bump_within pregs ?_
      refine State.wrB_within pregs ?_
      refine State.storeEntry_within pregs pnvm ?_
      exact h3
    · rename_i x5
      refine State.wr_within pregs ?_
      refine State.lastingW_within pregs pq91 ?_
      exact h3
    · rename_i x6 e7 e8
      refine State.wr_within pregs ?_
      exact h3

theorem State.commitWrite89_within {s : State} {who : Initiator} {data : ℕ} (pregs : Part.regs ∈ T) (pstg : Part.stg ∈ T) (h0' : Within T s0 s) : Within T s0 (State.commitWrite89 s who data) := by
  unfold State.commitWrite89
  refine within_ite ?_ ?_
  · exact h0'
  · refine within_ite ?_ ?_
    · refine State.wr_within pregs ?_
      exact h0'
    · extract_lets s1
      rename_i x2 s3
      have h4 : Within T s0 s1 := by
        unfold s1
        refine State.wr_within pregs ?_
        exact h0'
      have h5 : Within T s0 s3 := by
        unfold s3
        exact within_upd h4 (stg := .inl pstg)
      clear_value s1 x2 s3
      refine State.commitGo_within pregs pstg ?_
      refine within_ite ?_ ?_
      · refine State.startCheck_within pregs pstg ?_
        exact h5
      · refine State.check_within pregs pstg ?_
        exact h5

theorem State.discardPage_within {s : State} {page : ℕ} (pstaged : Part.staged ∈ T) (pscan : Part.scan ∈ T) (h0' : Within T s0 s) : Within T s0 (State.discardPage s page) := by
  unfold State.discardPage
  exact within_upd h0' (staged := .inl pstaged) (scan := .inl pscan)

theorem State.discardWrite_within {s : State} {who : Initiator} {page : ℕ} {data : ℕ} (pregs : Part.regs ∈ T) (pstaged : Part.staged ∈ T) (paccErr : Part.accErr ∈ T) (pq91 : Part.q91 ∈ T) (phost : Part.host ∈ T) (pscan : Part.scan ∈ T) (h0' : Within T s0 s) : Within T s0 (State.discardWrite s who page data) := by
  unfold State.discardWrite
  refine within_ite ?_ ?_
  · extract_lets s1
    clear_value s1
    refine within_ite ?_ ?_
    · refine State.refuseAccess_within pregs paccErr pq91 phost ?_
      exact h0'
    · refine State.discardPage_within pstaged pscan ?_
      exact h0'
  · exact h0'

theorem State.endOwnership_within {s : State} (pregs : Part.regs ∈ T) (pstaged : Part.staged ∈ T) (pshadow : Part.shadow ∈ T) (pstg : Part.stg ∈ T) (pscan : Part.scan ∈ T) (h0' : Within T s0 s) : Within T s0 (State.endOwnership s) := by
  unfold State.endOwnership
  extract_lets s1
  rename_i x2 x3
  have h4 : Within T s0 s1 := by
    unfold s1
    refine State.wr_within pregs ?_
    refine State.wrB_within pregs ?_
    refine State.wr_within pregs ?_
    exact h0'
  clear_value s1 x2 x3
  exact within_upd h4 (staged := .inl pstaged) (shadow := .inl pshadow) (stg := .inl pstg) (scan := .inl pscan)

theorem State.dropStaging_within {s : State} (pregs : Part.regs ∈ T) (pstaged : Part.staged ∈ T) (pshadow : Part.shadow ∈ T) (pstg : Part.stg ∈ T) (pscan : Part.scan ∈ T) (h0' : Within T s0 s) : Within T s0 (State.dropStaging s) := by
  unfold State.dropStaging
  extract_lets s1 s2
  have h3 : Within T s0 s2 := by
    unfold s2
    refine State.endOwnership_within pregs pstaged pshadow pstg pscan ?_
    exact h0'
  clear_value s1 s2
  refine within_ite ?_ ?_
  · refine State.commitRefused_within pregs pstg ?_
    exact h3
  · exact h3

theorem State.dropTarget_within {s : State} (pregs : Part.regs ∈ T) (pdisp : Part.disp ∈ T) (h0' : Within T s0 s) : Within T s0 (State.dropTarget s) := by
  unfold State.dropTarget
  extract_lets s1 s2
  rename_i x3
  have h4 : Within T s0 s2 := by
    unfold s2
    refine State.wrI_within pregs ?_
    refine State.wrI_within pregs ?_
    exact h0'
  clear_value s1 s2 x3
  exact within_upd h4 (disp := .inl pdisp)

theorem State.takeUpPolicy_within {s : State} {old : State} (pregs : Part.regs ∈ T) (pq91 : Part.q91 ∈ T) (h0' : Within T s0 s) : Within T s0 (State.takeUpPolicy s old) := by
  unfold State.takeUpPolicy
  refine within_ite ?_ ?_
  · refine State.wr_within pregs ?_
    refine State.record_within pq91 ?_
    exact h0'
  · exact h0'

theorem State.takeUpEvents_within {s : State} {old : State} (pq91 : Part.q91 ∈ T) (prk : Part.rk ∈ T) (pscan : Part.scan ∈ T) (h0' : Within T s0 s) : Within T s0 (State.takeUpEvents s old) := by
  unfold State.takeUpEvents
  refine within_foldl ?_ ?_
  · exact h0'
  · intro s1 x2 h3
    refine within_foldl ?_ ?_
    · exact h3
    · intro s4 x5 h6
      extract_lets s7
      clear_value s7
      refine within_foldl ?_ ?_
      · exact h6
      · intro s8 x9 h10
        refine within_ite ?_ ?_
        · refine State.notify_within pq91 prk pscan ?_
          exact h10
        · exact h10

theorem State.takeUpLinks_within {s : State} {old : State} (pregs : Part.regs ∈ T) (pout : Part.out ∈ T) (pcrown : Part.crown ∈ T) (pq91 : Part.q91 ∈ T) (ppwm : Part.pwm ∈ T) (ploop : Part.loop ∈ T) (ptrack : Part.track ∈ T) (pprot : Part.prot ∈ T) (prk : Part.rk ∈ T) (pscan : Part.scan ∈ T) (pimp : Part.imp ∈ T) (pest : Part.est ∈ T) (ptmx : Part.tmx ∈ T) (pringSt : Part.ringSt ∈ T) (pbal : Part.bal ∈ T) (ptele : Part.tele ∈ T) (pnvm : Part.nvm ∈ T) (ptime : Part.time ∈ T) (pcan : Part.can ∈ T) (ppair : Part.pair ∈ T) (h0' : Within T s0 s) : Within T s0 (State.takeUpLinks s old) := by
  unfold State.takeUpLinks
  extract_lets s1 s2 s3 s4 s5 s6 s7 s8
  clear_value s1
  have h9 : Within T s0 s2 := by
    unfold s2
    refine within_foldl ?_ ?_
    · exact h0'
    · intro s10 x11 h12
      refine within_ite ?_ ?_
      · refine State.refill_within pregs ?_
        exact h12
      · exact h12
  have h13 : Within T s0 s3 := by
    unfold s3
    refine within_foldl ?_ ?_
    · exact h9
    · intro s14 x15 h16
      refine within_ite ?_ ?_
      · refine State.canEnable_within pregs pcan ?_
        exact h16
      · refine within_ite ?_ ?_
        · refine State.canIntegrate_within pregs pcan ?_
          exact h16
        · exact h16
  have h17 : Within T s0 s4 := by
    unfold s4
    refine within_foldl ?_ ?_
    · exact h13
    · intro s18 x19 h20
      refine within_ite ?_ ?_
      · refine State.ptpEnable_within pregs ptime ?_
        exact h20
      · exact h20
  have h21 : Within T s0 s5 := by
    unfold s5
    refine within_ite ?_ ?_
    · exact h17
    · refine State.wrB_within pregs ?_
      exact h17
  have h22 : Within T s0 s6 := by
    unfold s6
    refine within_ite ?_ ?_
    · refine State.release_within pregs pq91 ptrack prk pscan ?_
      exact h21
    · exact h21
  have h23 : Within T s0 s7 := by
    unfold s7
    refine within_ite ?_ ?_
    · refine State.readPins_within pregs pout pcrown pq91 ppwm ploop ptrack pprot prk pscan pimp pest ptmx pringSt pbal ptele pnvm ppair ?_
      exact h22
    · exact h22
  have h24 : Within T s0 s8 := by
    unfold s8
    refine within_ite ?_ ?_
    · refine State.showSds_within pregs ?_
      exact h23
    · exact h23
  clear_value s2 s3 s4 s5 s6 s7 s8
  refine within_ite ?_ ?_
  · refine State.showWindow_within pregs ?_
    exact h24
  · exact h24

theorem State.takeUpSources_within {s : State} {old : State} (pregs : Part.regs ∈ T) (pshadow : Part.shadow ∈ T) (pout : Part.out ∈ T) (pcrown : Part.crown ∈ T) (pstg : Part.stg ∈ T) (pq91 : Part.q91 ∈ T) (ppwm : Part.pwm ∈ T) (ploop : Part.loop ∈ T) (ptrack : Part.track ∈ T) (pprot : Part.prot ∈ T) (prk : Part.rk ∈ T) (pscan : Part.scan ∈ T) (pimp : Part.imp ∈ T) (ptmx : Part.tmx ∈ T) (pdisp : Part.disp ∈ T) (pringSt : Part.ringSt ∈ T) (pbal : Part.bal ∈ T) (ppair : Part.pair ∈ T) (h0' : Within T s0 s) : Within T s0 (State.takeUpSources s old) := by
  unfold State.takeUpSources
  extract_lets s1 s2 s3 s4 s5 s6 s7 s8
  rename_i s9 s10 x11 s12
  clear_value s1
  have h13 : Within T s0 s2 := by
    unfold s2
    refine within_ite ?_ ?_
    · refine State.dropTarget_within pregs pdisp ?_
      exact h0'
    · exact h0'
  have h14 : Within T s0 s3 := by
    unfold s3
    refine within_ite ?_ ?_
    · refine State.showLastSeq_within pregs ?_
      exact h13
    · exact h13
  have h15 : Within T s0 s4 := by
    unfold s4
    refine within_ite ?_ ?_
    · refine State.takePaired_within pregs pshadow pout pcrown pstg pq91 ppwm ploop ptrack pprot prk pscan pimp ptmx pringSt pbal ppair ?_
      exact h14
    · exact h14
  have h16 : Within T s0 s5 := by
    unfold s5
    refine within_ite ?_ ?_
    · refine State.insulOff_within pregs ?_
      exact h15
    · exact h15
  have h17 : Within T s0 s6 := by
    unfold s6
    refine within_foldl ?_ ?_
    · exact h16
    · intro s18 x19 h20
      refine within_ite ?_ ?_
      · refine State.snetReset_within pregs pprot ?_
        exact h20
      · exact h20
  have h21 : Within T s0 s7 := by
    unfold s7
    refine within_foldl ?_ ?_
    · exact h17
    · intro s22 x23 h24
      refine within_ite ?_ ?_
      · refine State.presetTo_within ploop ?_
        exact h24
      · exact h24
  have h25 : Within T s0 s9 := by
    unfold s9
    refine State.wr_within pregs ?_
    exact h21
  have h26 : Within T s0 s10 := by
    unfold s10
    refine State.presetTo_within ploop ?_
    exact h25
  have h27 : Within T s0 s12 := by
    unfold s12
    refine within_ite ?_ ?_
    · refine within_ite ?_ ?_
      · exact h25
      · exact within_upd h26 (loop := .inl ploop)
    · exact h21
  clear_value s2 s3 s4 s5 s6 s7 s8 s9 s10 x11 s12
  exact h27

theorem State.protOff_within {s : State} (pregs : Part.regs ∈ T) (pq91 : Part.q91 ∈ T) (pprot : Part.prot ∈ T) (prk : Part.rk ∈ T) (pscan : Part.scan ∈ T) (h0' : Within T s0 s) : Within T s0 (State.protOff s) := by
  unfold State.protOff
  extract_lets s1
  rename_i x2 s3
  have h4 : Within T s0 s1 := by
    unfold s1
    refine State.voidCheck_within pregs ?_
    exact h0'
  have h5 : Within T s0 s3 := by
    unfold s3
    exact within_upd h4 (prot := .inl pprot)
  clear_value s1 x2 s3
  refine within_foldl ?_ ?_
  · exact h5
  · intro s6 x7 h8
    refine within_ite ?_ ?_
    · refine State.record_within pq91 ?_
      refine State.protClear_within pregs pq91 pprot prk pscan ?_
      exact h8
    · exact h8

theorem State.takeUpStage_within {s : State} {old : State} (pregs : Part.regs ∈ T) (pout : Part.out ∈ T) (pq91 : Part.q91 ∈ T) (ppwm : Part.pwm ∈ T) (pprot : Part.prot ∈ T) (prk : Part.rk ∈ T) (pscan : Part.scan ∈ T) (pringSt : Part.ringSt ∈ T) (pharv : Part.harv ∈ T) (pbal : Part.bal ∈ T) (h0' : Within T s0 s) : Within T s0 (State.takeUpStage s old) := by
  unfold State.takeUpStage
  extract_lets s1 s2 s3 s4 s5 s6 s7
  rename_i s8 s9
  clear_value s1
  have h10 : Within T s0 s3 := by
    unfold s3
    refine within_ite ?_ ?_
    · exact within_upd h0' (harv := .inl pharv)
    · exact h0'
  have h11 : Within T s0 s5 := by
    unfold s5
    refine within_ite ?_ ?_
    · exact within_upd h10 (pwm := .inl ppwm)
    · exact h10
  have h12 : Within T s0 s6 := by
    unfold s6
    refine within_ite ?_ ?_
    · refine within_ite ?_ ?_
      · refine State.wr_within pregs ?_
        refine State.modRing_within pringSt ?_
        exact h11
      · refine State.cmdEnumerate_within pregs pout pq91 prk pscan pringSt pharv ?_
        exact h11
    · exact h11
  have h13 : Within T s0 s7 := by
    unfold s7
    refine within_ite ?_ ?_
    · refine State.writeThresholds_within pout pringSt ?_
      refine State.modRing_within pringSt ?_
      exact h12
    · exact h12
  have h14 : Within T s0 s8 := by
    unfold s8
    refine within_ite ?_ ?_
    · refine State.balStop_within pregs pout pq91 prk pscan pringSt pbal ?_
      exact h13
    · exact h13
  have h15 : Within T s0 s9 := by
    unfold s9
    refine within_ite ?_ ?_
    · refine State.protOff_within pregs pq91 pprot prk pscan ?_
      exact h14
    · exact h14
  clear_value s2 s3 s4 s5 s6 s7 s8 s9
  exact h15

theorem State.takeUpUnits_within {s : State} {old : State} (pregs : Part.regs ∈ T) (pshadow : Part.shadow ∈ T) (pout : Part.out ∈ T) (pcrown : Part.crown ∈ T) (pstg : Part.stg ∈ T) (pq91 : Part.q91 ∈ T) (ppwm : Part.pwm ∈ T) (ploop : Part.loop ∈ T) (ptrack : Part.track ∈ T) (pprot : Part.prot ∈ T) (prk : Part.rk ∈ T) (pscan : Part.scan ∈ T) (pimp : Part.imp ∈ T) (pest : Part.est ∈ T) (ptmx : Part.tmx ∈ T) (pdisp : Part.disp ∈ T) (pringSt : Part.ringSt ∈ T) (pharv : Part.harv ∈ T) (pbal : Part.bal ∈ T) (ptele : Part.tele ∈ T) (pnvm : Part.nvm ∈ T) (ptime : Part.time ∈ T) (pcan : Part.can ∈ T) (ppair : Part.pair ∈ T) (h0' : Within T s0 s) : Within T s0 (State.takeUpUnits s old) := by
  unfold State.takeUpUnits
  refine State.takeUpLinks_within pregs pout pcrown pq91 ppwm ploop ptrack pprot prk pscan pimp pest ptmx pringSt pbal ptele pnvm ptime pcan ppair ?_
  refine State.takeUpSources_within pregs pshadow pout pcrown pstg pq91 ppwm ploop ptrack pprot prk pscan pimp ptmx pdisp pringSt pbal ppair ?_
  refine State.takeUpStage_within pregs pout pq91 ppwm pprot prk pscan pringSt pharv pbal ?_
  exact h0'

theorem State.holdStations_within {s : State} {old : State} (pscan : Part.scan ∈ T) (h0' : Within T s0 s) : Within T s0 (State.holdStations s old) := by
  unfold State.holdStations
  refine within_foldl ?_ ?_
  · exact h0'
  · intro s1 x2 h3
    extract_lets s4
    rename_i x5
    clear_value s4 x5
    refine within_ite ?_ ?_
    · exact h3
    · exact within_upd h3 (scan := .inl pscan)

theorem State.takeUpProgram_within {s : State} (pregs : Part.regs ∈ T) (pq91 : Part.q91 ∈ T) (prk : Part.rk ∈ T) (pscan : Part.scan ∈ T) (pnvm : Part.nvm ∈ T) (h0' : Within T s0 s) : Within T s0 (State.takeUpProgram s) := by
  unfold State.takeUpProgram
  split
  · rename_i x1 x2 e3
    extract_lets s4
    rename_i x5 s6
    have h7 : Within T s0 s6 := by
      unfold s6
      exact within_upd h0' (scan := .inl pscan) (nvm := .inl pnvm)
    clear_value s4 x5 s6
    refine State.raise_within pregs pq91 prk pscan ?_
    refine State.showProgram_within pregs ?_
    exact h7
  · rename_i x8 e9
    exact h0'

theorem State.edge_within {s : State} (pregs : Part.regs ∈ T) (pshadow : Part.shadow ∈ T) (pout : Part.out ∈ T) (pcrown : Part.crown ∈ T) (pstg : Part.stg ∈ T) (pq91 : Part.q91 ∈ T) (ppwm : Part.pwm ∈ T) (ploop : Part.loop ∈ T) (ptrack : Part.track ∈ T) (pprot : Part.prot ∈ T) (prk : Part.rk ∈ T) (pscan : Part.scan ∈ T) (pimp : Part.imp ∈ T) (pest : Part.est ∈ T) (ptmx : Part.tmx ∈ T) (pdisp : Part.disp ∈ T) (pringSt : Part.ringSt ∈ T) (pharv : Part.harv ∈ T) (pbal : Part.bal ∈ T) (ptele : Part.tele ∈ T) (pnvm : Part.nvm ∈ T) (ptime : Part.time ∈ T) (pcan : Part.can ∈ T) (ppair : Part.pair ∈ T) (h0' : Within T s0 s) : Within T s0 (State.edge s) := by
  unfold State.edge
  extract_lets s1 s2 s3 s4 s5
  rename_i s6
  have h7 : Within T s0 s2 := by
    unfold s2
    refine State.wr_within pregs ?_
    refine State.wr_within pregs ?_
    refine State.wr_within pregs ?_
    exact h0'
  have h8 : Within T s0 s3 := by
    unfold s3
    exact h7
  have h9 : Within T s0 s4 := by
    unfold s4
    refine within_foldl ?_ ?_
    · exact h7
    · intro s10 x11 h12
      refine State.setWord_within pregs ?_
      exact h12
  have h13 : Within T s0 s6 := by
    unfold s6
    exact within_upd h9 (shadow := .inl pshadow) (stg := .inl pstg)
  clear_value s1 s2 s3 s4 s5 s6
  refine State.takeUpPolicy_within pregs pq91 ?_
  refine State.takeUpEvents_within pq91 prk pscan ?_
  refine State.takeUpUnits_within pregs pshadow pout pcrown pstg pq91 ppwm ploop ptrack pprot prk pscan pimp pest ptmx pdisp pringSt pharv pbal ptele pnvm ptime pcan ppair ?_
  refine State.holdStations_within pscan ?_
  refine State.takeUpProgram_within pregs pq91 prk pscan pnvm ?_
  exact h13

theorem State.launch_within {s : State} (pregs : Part.regs ∈ T) (pshadow : Part.shadow ∈ T) (pstg : Part.stg ∈ T) (pscan : Part.scan ∈ T) (h0' : Within T s0 s) : Within T s0 (State.launch s) := by
  unfold State.launch
  refine within_ite ?_ ?_
  · exact h0'
  · refine within_ite ?_ ?_
    · refine State.cancelApply_within pregs pshadow pstg ?_
      exact h0'
    · split
      · rename_i x1 e2
        extract_lets s3
        rename_i x4 x5
        have h6 : Within T s0 s3 := by
          unfold s3
          refine State.wr_within pregs ?_
          exact h0'
        clear_value s3 x4 x5
        exact within_upd h6 (shadow := .inl pshadow) (stg := .inl pstg) (scan := .inl pscan)
      · rename_i x7 e8
        refine State.report_within pregs ?_
        refine State.cancelApply_within pregs pshadow pstg ?_
        exact h0'

theorem State.ownerGone_within {s : State} {session : ℕ} (pregs : Part.regs ∈ T) (pstaged : Part.staged ∈ T) (pshadow : Part.shadow ∈ T) (pstg : Part.stg ∈ T) (pscan : Part.scan ∈ T) (h0' : Within T s0 s) : Within T s0 (State.ownerGone s session) := by
  unfold State.ownerGone
  refine within_ite ?_ ?_
  · refine State.dropStaging_within pregs pstaged pshadow pstg pscan ?_
    exact h0'
  · exact h0'

theorem State.stagedNow_within {s : State} {who : Initiator} (pregs : Part.regs ∈ T) (pstg : Part.stg ∈ T) (h0' : Within T s0 s) : Within T s0 (State.stagedNow s who) := by
  unfold State.stagedNow
  extract_lets s1 s2
  rename_i s3
  have h4 : Within T s0 s1 := by
    unfold s1
    refine within_ite ?_ ?_
    · refine State.own_within pregs ?_
      exact h0'
    · exact h0'
  have h5 : Within T s0 s3 := by
    unfold s3
    refine within_ite ?_ ?_
    · exact within_upd h4 (stg := .inl pstg)
    · exact h4
  clear_value s1 s2 s3
  refine State.wr_within pregs ?_
  exact h5

theorem State.progWord_within {s : State} {who : Initiator} {data : ℕ} (pregs : Part.regs ∈ T) (pstg : Part.stg ∈ T) (pscan : Part.scan ∈ T) (h0' : Within T s0 s) : Within T s0 (State.progWord s who data) := by
  unfold State.progWord
  extract_lets s1 s2
  rename_i x3
  have h4 : Within T s0 s2 := by
    unfold s2
    refine State.stagedNow_within pregs pstg ?_
    exact h0'
  clear_value s1 s2 x3
  refine State.wr_within pregs ?_
  exact within_upd h4 (scan := .inl pscan)

theorem State.stageCtrl_within {s : State} {who : Initiator} {data : ℕ} (pregs : Part.regs ∈ T) (pstaged : Part.staged ∈ T) (pshadow : Part.shadow ∈ T) (paccErr : Part.accErr ∈ T) (pstg : Part.stg ∈ T) (pq91 : Part.q91 ∈ T) (phost : Part.host ∈ T) (pscan : Part.scan ∈ T) (h0' : Within T s0 s) : Within T s0 (State.stageCtrl s who data) := by
  unfold State.stageCtrl
  extract_lets s1
  rename_i x2 x3 x4 s5
  have h6 : Within T s0 s5 := by
    unfold s5
    refine State.wr_within pregs ?_
    refine State.wr_within pregs ?_
    refine State.wr_within pregs ?_
    exact h0'
  clear_value s1 x2 x3 x4 s5
  refine within_ite ?_ ?_
  · refine State.refuseAccess_within pregs paccErr pq91 phost ?_
    exact h0'
  · refine within_ite ?_ ?_
    · refine State.dropStaging_within pregs pstaged pshadow pstg pscan ?_
      exact h6
    · refine within_ite ?_ ?_
      · refine within_ite ?_ ?_
        · refine State.cancelApply_within pregs pshadow pstg ?_
          exact h6
        · exact h6
      · refine within_ite ?_ ?_
        · refine State.apply_within pregs pstg ?_
          exact h6
        · refine within_ite ?_ ?_
          · refine State.check_within pregs pstg ?_
            exact h6
          · exact h6

theorem State.stageWord_within {s : State} {who : Initiator} {addr : ℕ} {data : ℕ} (pregs : Part.regs ∈ T) (pstaged : Part.staged ∈ T) (pstg : Part.stg ∈ T) (h0' : Within T s0 s) : Within T s0 (State.stageWord s who addr data) := by
  unfold State.stageWord
  extract_lets s1
  rename_i s2
  have h3 : Within T s0 s2 := by
    unfold s2
    refine State.stagedNow_within pregs pstg ?_
    exact h0'
  clear_value s1 s2
  refine within_ite ?_ ?_
  · exact within_upd h3 (staged := .inl pstaged)
  · exact h0'

theorem State.takeUpDone_within {s : State} (pregs : Part.regs ∈ T) (pstaged : Part.staged ∈ T) (pshadow : Part.shadow ∈ T) (pout : Part.out ∈ T) (paccErr : Part.accErr ∈ T) (preadData : Part.readData ∈ T) (ptb : Part.tb ∈ T) (pcrown : Part.crown ∈ T) (pstg : Part.stg ∈ T) (pq91 : Part.q91 ∈ T) (ppwm : Part.pwm ∈ T) (ploop : Part.loop ∈ T) (ptrack : Part.track ∈ T) (pprot : Part.prot ∈ T) (phost : Part.host ∈ T) (prk : Part.rk ∈ T) (pscan : Part.scan ∈ T) (pimp : Part.imp ∈ T) (pest : Part.est ∈ T) (ptmx : Part.tmx ∈ T) (pdisp : Part.disp ∈ T) (peng : Part.eng ∈ T) (pringSt : Part.ringSt ∈ T) (pharv : Part.harv ∈ T) (pbal : Part.bal ∈ T) (ptherm : Part.therm ∈ T) (ptele : Part.tele ∈ T) (pnvm : Part.nvm ∈ T) (ptime : Part.time ∈ T) (pcan : Part.can ∈ T) (ppair : Part.pair ∈ T) (palm : Part.alm ∈ T) (h0' : Within T s0 s) : Within T s0 (State.takeUpDone s) := by
  unfold State.takeUpDone
  extract_lets s1 s2 s3 s4
  rename_i s5
  have h6 : Within T s0 s1 := by
    unfold s1
    refine State.record_within pq91 ?_
    exact h0'
  have h7 : Within T s0 s3 := by
    unfold s3
    refine State.endOwnership_within pregs pstaged pshadow pstg pscan ?_
    exact h6
  have h8 : Within T s0 s5 := by
    unfold s5
    refine within_ite ?_ ?_
    · exact within_upd h7 (stg := .inl pstg)
    · exact h7
  clear_value s1 s2 s3 s4 s5
  refine State.afterTakeUp_within pregs pstaged pshadow pout paccErr preadData ptb pcrown pstg pq91 ppwm ploop ptrack pprot phost prk pscan pimp pest ptmx pdisp peng pringSt pharv pbal ptherm ptele pnvm ptime pcan ppair palm ?_
  exact h8

/-! ## StageFam -/

theorem execAbortCmd_within {who : Initiator} {kind : Fin 4} {task : Fin 4} {lead : Fin 65536} {s : State} (pregs : Part.regs ∈ T) (pstaged : Part.staged ∈ T) (pshadow : Part.shadow ∈ T) (paccErr : Part.accErr ∈ T) (pstg : Part.stg ∈ T) (pq91 : Part.q91 ∈ T) (phost : Part.host ∈ T) (pscan : Part.scan ∈ T) (h4' : Within T s0 s) : ∃ u', (execAbortCmd who kind task lead s) = .next u' ∧ Within T s0 u' := by
  unfold execAbortCmd
  refine ⟨_, rfl, ?_⟩
  refine State.asWrite_within pregs paccErr pq91 phost ?_ ?_
  · exact h4'
  · intro s1 h2
    refine State.stageCtrl_within pregs pstaged pshadow paccErr pstg pq91 phost pscan ?_
    exact h2

theorem execApplyCmd_within {who : Initiator} {kind : Fin 4} {task : Fin 4} {lead : Fin 65536} {s : State} (pregs : Part.regs ∈ T) (pstaged : Part.staged ∈ T) (pshadow : Part.shadow ∈ T) (paccErr : Part.accErr ∈ T) (pstg : Part.stg ∈ T) (pq91 : Part.q91 ∈ T) (phost : Part.host ∈ T) (pscan : Part.scan ∈ T) (h4' : Within T s0 s) : ∃ u', (execApplyCmd who kind task lead s) = .next u' ∧ Within T s0 u' := by
  unfold execApplyCmd
  refine ⟨_, rfl, ?_⟩
  refine State.asWrite_within pregs paccErr pq91 phost ?_ ?_
  · exact h4'
  · intro s1 h2
    refine State.stageCtrl_within pregs pstaged pshadow paccErr pstg pq91 phost pscan ?_
    exact h2

theorem execApplyEdge_within {s : State} (pregs : Part.regs ∈ T) (pshadow : Part.shadow ∈ T) (pout : Part.out ∈ T) (pcrown : Part.crown ∈ T) (pstg : Part.stg ∈ T) (pq91 : Part.q91 ∈ T) (ppwm : Part.pwm ∈ T) (ploop : Part.loop ∈ T) (ptrack : Part.track ∈ T) (pprot : Part.prot ∈ T) (prk : Part.rk ∈ T) (pscan : Part.scan ∈ T) (pimp : Part.imp ∈ T) (pest : Part.est ∈ T) (ptmx : Part.tmx ∈ T) (pdisp : Part.disp ∈ T) (pringSt : Part.ringSt ∈ T) (pharv : Part.harv ∈ T) (pbal : Part.bal ∈ T) (ptele : Part.tele ∈ T) (pnvm : Part.nvm ∈ T) (ptime : Part.time ∈ T) (pcan : Part.can ∈ T) (ppair : Part.pair ∈ T) (h0' : Within T s0 s) : ∃ u', (execApplyEdge s) = .next u' ∧ Within T s0 u' := by
  unfold execApplyEdge
  refine ⟨_, rfl, ?_⟩
  refine within_ite ?_ ?_
  · refine State.edge_within pregs pshadow pout pcrown pstg pq91 ppwm ploop ptrack pprot prk pscan pimp pest ptmx pdisp pringSt pharv pbal ptele pnvm ptime pcan ppair ?_
    exact h0'
  · exact h0'

theorem execApplyLaunch_within {s : State} (pregs : Part.regs ∈ T) (pshadow : Part.shadow ∈ T) (pstg : Part.stg ∈ T) (pscan : Part.scan ∈ T) (h0' : Within T s0 s) : ∃ u', (execApplyLaunch s) = .next u' ∧ Within T s0 u' := by
  unfold execApplyLaunch
  refine ⟨_, rfl, ?_⟩
  refine State.launch_within pregs pshadow pstg pscan ?_
  exact h0'

theorem State.releaseRun_within {s : State} (pregs : Part.regs ∈ T) (pout : Part.out ∈ T) (pcrown : Part.crown ∈ T) (pq91 : Part.q91 ∈ T) (ppwm : Part.pwm ∈ T) (ploop : Part.loop ∈ T) (ptrack : Part.track ∈ T) (prk : Part.rk ∈ T) (pscan : Part.scan ∈ T) (pimp : Part.imp ∈ T) (pringSt : Part.ringSt ∈ T) (pbal : Part.bal ∈ T) (ppair : Part.pair ∈ T) (h0' : Within T s0 s) : Within T s0 (State.releaseRun s) := by
  unfold State.releaseRun
  refine within_ite ?_ ?_
  · refine State.toRun_within pregs pout pcrown pq91 ppwm ploop ptrack prk pscan pimp pringSt pbal ppair ?_
    exact h0'
  · exact h0'

theorem execApplyLoadDeadline_within {unloaded : List ℕ} {s : State} (pregs : Part.regs ∈ T) (pshadow : Part.shadow ∈ T) (pout : Part.out ∈ T) (pcrown : Part.crown ∈ T) (pstg : Part.stg ∈ T) (pq91 : Part.q91 ∈ T) (ppwm : Part.pwm ∈ T) (ploop : Part.loop ∈ T) (ptrack : Part.track ∈ T) (prk : Part.rk ∈ T) (pscan : Part.scan ∈ T) (pimp : Part.imp ∈ T) (pringSt : Part.ringSt ∈ T) (pbal : Part.bal ∈ T) (ppair : Part.pair ∈ T) (h1' : Within T s0 s) : ∃ u', (execApplyLoadDeadline unloaded s) = .next u' ∧ Within T s0 u' := by
  unfold execApplyLoadDeadline
  refine ⟨_, rfl, ?_⟩
  refine within_ite ?_ ?_
  · refine State.releaseRun_within pregs pout pcrown pq91 ppwm ploop ptrack prk pscan pimp pringSt pbal ppair ?_
    refine State.cancelApply_within pregs pshadow pstg ?_
    exact within_upd h1' (stg := .inl pstg)
  · exact h1'

theorem execApplyTakeupComplete_within {s : State} (pregs : Part.regs ∈ T) (pstaged : Part.staged ∈ T) (pshadow : Part.shadow ∈ T) (pout : Part.out ∈ T) (paccErr : Part.accErr ∈ T) (preadData : Part.readData ∈ T) (ptb : Part.tb ∈ T) (pcrown : Part.crown ∈ T) (pstg : Part.stg ∈ T) (pq91 : Part.q91 ∈ T) (ppwm : Part.pwm ∈ T) (ploop : Part.loop ∈ T) (ptrack : Part.track ∈ T) (pprot : Part.prot ∈ T) (phost : Part.host ∈ T) (prk : Part.rk ∈ T) (pscan : Part.scan ∈ T) (pimp : Part.imp ∈ T) (pest : Part.est ∈ T) (ptmx : Part.tmx ∈ T) (pdisp : Part.disp ∈ T) (peng : Part.eng ∈ T) (pringSt : Part.ringSt ∈ T) (pharv : Part.harv ∈ T) (pbal : Part.bal ∈ T) (ptherm : Part.therm ∈ T) (ptele : Part.tele ∈ T) (pnvm : Part.nvm ∈ T) (ptime : Part.time ∈ T) (pcan : Part.can ∈ T) (ppair : Part.pair ∈ T) (palm : Part.alm ∈ T) (h0' : Within T s0 s) : ∃ u', (execApplyTakeupComplete s) = .next u' ∧ Within T s0 u' := by
  unfold execApplyTakeupComplete
  refine ⟨_, rfl, ?_⟩
  refine within_ite ?_ ?_
  · refine State.takeUpDone_within pregs pstaged pshadow pout paccErr preadData ptb pcrown pstg pq91 ppwm ploop ptrack pprot phost prk pscan pimp pest ptmx pdisp peng pringSt pharv pbal ptherm ptele pnvm ptime pcan ppair palm ?_
    exact h0'
  · exact h0'

theorem execCheckCmd_within {who : Initiator} {kind : Fin 4} {task : Fin 4} {lead : Fin 65536} {s : State} (pregs : Part.regs ∈ T) (pstaged : Part.staged ∈ T) (pshadow : Part.shadow ∈ T) (paccErr : Part.accErr ∈ T) (pstg : Part.stg ∈ T) (pq91 : Part.q91 ∈ T) (phost : Part.host ∈ T) (pscan : Part.scan ∈ T) (h4' : Within T s0 s) : ∃ u', (execCheckCmd who kind task lead s) = .next u' ∧ Within T s0 u' := by
  unfold execCheckCmd
  refine ⟨_, rfl, ?_⟩
  refine State.asWrite_within pregs paccErr pq91 phost ?_ ?_
  · exact h4'
  · intro s1 h2
    refine State.stageCtrl_within pregs pstaged pshadow paccErr pstg pq91 phost pscan ?_
    exact h2

theorem execCheckComplete_within {s : State} (pregs : Part.regs ∈ T) (pstg : Part.stg ∈ T) (h0' : Within T s0 s) : ∃ u', (execCheckComplete s) = .next u' ∧ Within T s0 u' := by
  unfold execCheckComplete
  refine ⟨_, rfl, ?_⟩
  refine State.checkDone_within pregs pstg ?_
  exact h0'

theorem execCommitStoreComplete_within {outcome : Fin 3} {s : State} (pregs : Part.regs ∈ T) (pstg : Part.stg ∈ T) (pq91 : Part.q91 ∈ T) (pnvm : Part.nvm ∈ T) (h1' : Within T s0 s) : ∃ u', (execCommitStoreComplete outcome s) = .next u' ∧ Within T s0 u' := by
  unfold execCommitStoreComplete
  refine ⟨_, rfl, ?_⟩
  refine State.commitStored_within pregs pstg pq91 pnvm ?_
  exact h1'

theorem execDiscardAll_within {who : Initiator} {kind : Fin 4} {task : Fin 4} {lead : Fin 65536} {s : State} (pregs : Part.regs ∈ T) (pstaged : Part.staged ∈ T) (pshadow : Part.shadow ∈ T) (paccErr : Part.accErr ∈ T) (pstg : Part.stg ∈ T) (pq91 : Part.q91 ∈ T) (phost : Part.host ∈ T) (pscan : Part.scan ∈ T) (h4' : Within T s0 s) : ∃ u', (execDiscardAll who kind task lead s) = .next u' ∧ Within T s0 u' := by
  unfold execDiscardAll
  refine ⟨_, rfl, ?_⟩
  refine State.asWrite_within pregs paccErr pq91 phost ?_ ?_
  · exact h4'
  · intro s1 h2
    refine State.stageCtrl_within pregs pstaged pshadow paccErr pstg pq91 phost pscan ?_
    exact h2

theorem execDiscardCmd_within {who : Initiator} {page : Fin 256} {s : State} (pregs : Part.regs ∈ T) (pstaged : Part.staged ∈ T) (paccErr : Part.accErr ∈ T) (pq91 : Part.q91 ∈ T) (phost : Part.host ∈ T) (pscan : Part.scan ∈ T) (h2' : Within T s0 s) : ∃ u', (execDiscardCmd who page s) = .next u' ∧ Within T s0 u' := by
  unfold execDiscardCmd
  refine ⟨_, rfl, ?_⟩
  refine State.asWrite_within pregs paccErr pq91 phost ?_ ?_
  · exact h2'
  · intro s1 h2
    refine within_ite ?_ ?_
    · exact h2
    · refine State.discardWrite_within pregs pstaged paccErr pq91 phost pscan ?_
      exact h2

theorem execEvtStatusClear_within {who : Initiator} {page : Fin 256} {mask : BitVec 32} {s : State} (pregs : Part.regs ∈ T) (paccErr : Part.accErr ∈ T) (pq91 : Part.q91 ∈ T) (phost : Part.host ∈ T) (h3' : Within T s0 s) : ∃ u', (execEvtStatusClear who page mask s) = .next u' ∧ Within T s0 u' := by
  unfold execEvtStatusClear
  extract_lets s1
  clear_value s1
  refine ⟨_, rfl, ?_⟩
  refine State.asWrite_within pregs paccErr pq91 phost ?_ ?_
  · exact h3'
  · intro s2 h3
    refine State.crossing_within phost ?_ ?_
    · exact h3
    · intro s4 h5
      refine State.setWord_within pregs ?_
      exact h5

theorem State.lastingWrite_within {s : State} {page : ℕ} {data : ℕ} (pregs : Part.regs ∈ T) (h0' : Within T s0 s) : Within T s0 (State.lastingWrite s page data) := by
  unfold State.lastingWrite
  refine within_ite ?_ ?_
  · refine State.wr_within pregs ?_
    refine State.wr_within pregs ?_
    exact h0'
  · exact h0'

theorem execLastingClear_within {who : Initiator} {page : Fin 256} {s : State} (pregs : Part.regs ∈ T) (paccErr : Part.accErr ∈ T) (pq91 : Part.q91 ∈ T) (phost : Part.host ∈ T) (h2' : Within T s0 s) : ∃ u', (execLastingClear who page s) = .next u' ∧ Within T s0 u' := by
  unfold execLastingClear
  refine ⟨_, rfl, ?_⟩
  refine State.asWrite_within pregs paccErr pq91 phost ?_ ?_
  · exact h2'
  · intro s1 h2
    refine State.lastingWrite_within pregs ?_
    exact h2

theorem State.retryCntWrite_within {s : State} {page : ℕ} {data : ℕ} (pregs : Part.regs ∈ T) (h0' : Within T s0 s) : Within T s0 (State.retryCntWrite s page data) := by
  unfold State.retryCntWrite
  refine within_ite ?_ ?_
  · refine State.wr_within pregs ?_
    exact h0'
  · exact h0'

theorem execRetryCntClear_within {who : Initiator} {page : Fin 256} {s : State} (pregs : Part.regs ∈ T) (paccErr : Part.accErr ∈ T) (pq91 : Part.q91 ∈ T) (phost : Part.host ∈ T) (h2' : Within T s0 s) : ∃ u', (execRetryCntClear who page s) = .next u' ∧ Within T s0 u' := by
  unfold execRetryCntClear
  refine ⟨_, rfl, ?_⟩
  refine State.asWrite_within pregs paccErr pq91 phost ?_ ?_
  · exact h2'
  · intro s1 h2
    refine State.retryCntWrite_within pregs ?_
    exact h2

theorem execSecureCommit_within {who : Initiator} {key : Fin 65536} {s : State} (pregs : Part.regs ∈ T) (paccErr : Part.accErr ∈ T) (pstg : Part.stg ∈ T) (pq91 : Part.q91 ∈ T) (phost : Part.host ∈ T) (h2' : Within T s0 s) : ∃ u', (execSecureCommit who key s) = .next u' ∧ Within T s0 u' := by
  unfold execSecureCommit
  refine ⟨_, rfl, ?_⟩
  refine State.asWrite_within pregs paccErr pq91 phost ?_ ?_
  · exact h2'
  · intro s1 h2
    refine State.commitWrite89_within pregs pstg ?_
    exact h2

theorem State.stagedWrite_within {s : State} {who : Initiator} {a : ℕ} {data : ℕ} (pregs : Part.regs ∈ T) (pstaged : Part.staged ∈ T) (paccErr : Part.accErr ∈ T) (pstg : Part.stg ∈ T) (pq91 : Part.q91 ∈ T) (phost : Part.host ∈ T) (h0' : Within T s0 s) : Within T s0 (State.stagedWrite s who a data) := by
  unfold State.stagedWrite
  extract_lets s1
  clear_value s1
  refine within_ite ?_ ?_
  · refine State.refuseAccess_within pregs paccErr pq91 phost ?_
    exact h0'
  · refine State.stageWord_within pregs pstaged pstg ?_
    exact h0'

theorem execStagedWrite_within {who : Initiator} {page : Fin 256} {reg : Fin 512} {data : BitVec 32} {s : State} (pregs : Part.regs ∈ T) (pstaged : Part.staged ∈ T) (paccErr : Part.accErr ∈ T) (pstg : Part.stg ∈ T) (pq91 : Part.q91 ∈ T) (phost : Part.host ∈ T) (h4' : Within T s0 s) : ∃ u', (execStagedWrite who page reg data s) = .next u' ∧ Within T s0 u' := by
  unfold execStagedWrite
  refine ⟨_, rfl, ?_⟩
  refine State.asWrite_within pregs paccErr pq91 phost ?_ ?_
  · exact h4'
  · intro s1 h2
    refine State.stagedWrite_within pregs pstaged paccErr pstg pq91 phost ?_
    exact h2

theorem execStagingTimeout_within {s : State} (pregs : Part.regs ∈ T) (pstaged : Part.staged ∈ T) (pshadow : Part.shadow ∈ T) (pstg : Part.stg ∈ T) (pscan : Part.scan ∈ T) (h0' : Within T s0 s) : ∃ u', (execStagingTimeout s) = .next u' ∧ Within T s0 u' := by
  unfold execStagingTimeout
  refine ⟨_, rfl, ?_⟩
  refine within_ite ?_ ?_
  · refine State.dropStaging_within pregs pstaged pshadow pstg pscan ?_
    exact h0'
  · exact h0'

/-! ## ImpedFam -/

theorem execImpedCorrelation_within {n : Fin 32} {s : State} (pregs : Part.regs ∈ T) (pimp : Part.imp ∈ T) (peng : Part.eng ∈ T) (h1' : Within T s0 s) : ∃ u', (execImpedCorrelation n s) = .next u' ∧ Within T s0 u' := by
  unfold execImpedCorrelation
  split
  · rename_i x1 e2
    refine ⟨_, rfl, ?_⟩
    exact h1'
  · rename_i x3 x4 e5
    refine out_ite ?_ ?_
    · refine ⟨_, rfl, ?_⟩
      exact h1'
    · extract_lets s6 s7
      rename_i x8
      have h9 : Within T s0 s6 := by
        unfold s6
        refine State.correlate_within pimp ?_
        exact h1'
      clear_value s6 s7 x8
      refine out_ite ?_ ?_
      · refine ⟨_, rfl, ?_⟩
        refine State.recordDone_within pregs pimp peng ?_
        exact h9
      · refine ⟨_, rfl, ?_⟩
        exact within_upd h9 (imp := .inl pimp)

theorem execImpedRampEnd_within {s : State} (pregs : Part.regs ∈ T) (pout : Part.out ∈ T) (pq91 : Part.q91 ∈ T) (ppwm : Part.pwm ∈ T) (ploop : Part.loop ∈ T) (prk : Part.rk ∈ T) (pscan : Part.scan ∈ T) (pimp : Part.imp ∈ T) (pringSt : Part.ringSt ∈ T) (pbal : Part.bal ∈ T) (ppair : Part.pair ∈ T) (h0' : Within T s0 s) : ∃ u', (execImpedRampEnd s) = .next u' ∧ Within T s0 u' := by
  unfold execImpedRampEnd
  refine out_ite ?_ ?_
  · refine ⟨_, rfl, ?_⟩
    refine State.raise_within pregs pq91 prk pscan ?_
    refine State.endStimulus_within pregs pout pq91 ppwm ploop prk pscan pimp pringSt pbal ppair ?_
    exact h0'
  · refine ⟨_, rfl, ?_⟩
    exact h0'

theorem execImpedSetClose_within {s : State} (pregs : Part.regs ∈ T) (pout : Part.out ∈ T) (pfree : Part.free ∈ T) (pq91 : Part.q91 ∈ T) (prk : Part.rk ∈ T) (pscan : Part.scan ∈ T) (pimp : Part.imp ∈ T) (pest : Part.est ∈ T) (peng : Part.eng ∈ T) (ppair : Part.pair ∈ T) (h0' : Within T s0 s) : ∃ u', (execImpedSetClose s) = .next u' ∧ Within T s0 u' := by
  unfold execImpedSetClose
  refine ⟨_, rfl, ?_⟩
  refine State.closeWaiting_within pregs pout pfree pq91 prk pscan pimp pest peng ppair ?_
  exact h0'

theorem State.impedStart_within {s : State} (pimp : Part.imp ∈ T) (h0' : Within T s0 s) : Within T s0 (State.impedStart s) := by
  unfold State.impedStart
  exact within_upd h0' (imp := .inl pimp)

theorem execImpedStart_within {who : Initiator} {s : State} (pregs : Part.regs ∈ T) (paccErr : Part.accErr ∈ T) (pq91 : Part.q91 ∈ T) (phost : Part.host ∈ T) (pimp : Part.imp ∈ T) (h1' : Within T s0 s) : ∃ u', (execImpedStart who s) = .next u' ∧ Within T s0 u' := by
  unfold execImpedStart
  refine ⟨_, rfl, ?_⟩
  refine State.asWrite_within pregs paccErr pq91 phost ?_ ?_
  · exact h1'
  · intro s1 h2
    refine State.impedStart_within pimp ?_
    exact h2

theorem State.captureRun_within {s : State} (pregs : Part.regs ∈ T) (pimp : Part.imp ∈ T) (h0' : Within T s0 s) : Within T s0 (State.captureRun s) := by
  unfold State.captureRun
  extract_lets s1
  rename_i x2
  clear_value s1 x2
  refine State.showFreqs_within pregs ?_
  exact within_upd h0' (imp := .inl pimp)

theorem execImpedStartEval_within {s : State} (pregs : Part.regs ∈ T) (pout : Part.out ∈ T) (pfree : Part.free ∈ T) (pq91 : Part.q91 ∈ T) (ppwm : Part.pwm ∈ T) (prk : Part.rk ∈ T) (pscan : Part.scan ∈ T) (pimp : Part.imp ∈ T) (pest : Part.est ∈ T) (pdisp : Part.disp ∈ T) (peng : Part.eng ∈ T) (ppair : Part.pair ∈ T) (h0' : Within T s0 s) : ∃ u', (execImpedStartEval s) = .next u' ∧ Within T s0 u' := by
  unfold execImpedStartEval
  refine out_ite ?_ ?_
  · refine ⟨_, rfl, ?_⟩
    exact h0'
  · extract_lets s1 s2 s3 s4
    rename_i s5 s6 s7 x8 x9
    have h10 : Within T s0 s2 := by
      unfold s2
      exact within_upd h0' (imp := .inl pimp)
    have h11 : Within T s0 s4 := by
      unfold s4
      refine State.wr_within pregs ?_
      exact h10
    have h12 : Within T s0 s5 := by
      unfold s5
      refine State.impStartJudged_within pregs pout pq91 prk pscan pdisp peng ?_
      exact h11
    have h13 : Within T s0 s6 := by
      unfold s6
      refine State.captureRun_within pregs pimp ?_
      refine State.clearRun_within pregs pout pfree pq91 prk pscan pimp pest peng ppair ?_
      exact h12
    have h14 : Within T s0 s7 := by
      unfold s7
      refine State.wr_within pregs ?_
      refine State.raise_within pregs pq91 prk pscan ?_
      refine State.bump_within pregs ?_
      exact h13
    clear_value s1 s2 s3 s4 s5 s6 s7 x8 x9
    refine out_ite ?_ ?_
    · refine ⟨_, rfl, ?_⟩
      refine State.raise_within pregs pq91 prk pscan ?_
      exact h12
    · refine ⟨_, rfl, ?_⟩
      exact within_upd h14 (pwm := .inl ppwm) (imp := .inl pimp)

theorem execImpedStop_within {who : Initiator} {s : State} (pregs : Part.regs ∈ T) (pout : Part.out ∈ T) (paccErr : Part.accErr ∈ T) (pq91 : Part.q91 ∈ T) (ppwm : Part.pwm ∈ T) (ploop : Part.loop ∈ T) (phost : Part.host ∈ T) (prk : Part.rk ∈ T) (pscan : Part.scan ∈ T) (pimp : Part.imp ∈ T) (pringSt : Part.ringSt ∈ T) (pbal : Part.bal ∈ T) (ppair : Part.pair ∈ T) (h1' : Within T s0 s) : ∃ u', (execImpedStop who s) = .next u' ∧ Within T s0 u' := by
  unfold execImpedStop
  refine ⟨_, rfl, ?_⟩
  refine State.asWrite_within pregs paccErr pq91 phost ?_ ?_
  · exact h1'
  · intro s1 h2
    refine State.abortRun_within pregs pout pq91 ppwm ploop prk pscan pimp pringSt pbal ppair ?_
    exact h2

theorem State.readBleeding_within {s : State} {start : Bool} {close : Bool} (pout : Part.out ∈ T) (pimp : Part.imp ∈ T) (pringSt : Part.ringSt ∈ T) (h0' : Within T s0 s) : Within T s0 (State.readBleeding s start close) := by
  unfold State.readBleeding
  refine within_ite ?_ ?_
  · exact h0'
  · extract_lets s1 s2
    rename_i x3
    have h4 : Within T s0 s2 := by
      unfold s2
      refine within_foldl ?_ ?_
      · exact h0'
      · intro s5 x6 h7
        refine State.ringCmd_within pout pringSt ?_
        exact h7
    clear_value s1 s2 x3
    exact within_upd h4 (imp := .inl pimp)

theorem State.bledAtStart_within {s : State} (pout : Part.out ∈ T) (pimp : Part.imp ∈ T) (pringSt : Part.ringSt ∈ T) (h0' : Within T s0 s) : Within T s0 (State.bledAtStart s) := by
  unfold State.bledAtStart
  refine within_ite ?_ ?_
  · exact within_upd h0' (imp := .inl pimp)
  · refine State.readBleeding_within pout pimp pringSt ?_
    exact h0'

theorem State.windowDiscarded_within {s : State} (pregs : Part.regs ∈ T) (pout : Part.out ∈ T) (pq91 : Part.q91 ∈ T) (ppwm : Part.pwm ∈ T) (ploop : Part.loop ∈ T) (prk : Part.rk ∈ T) (pscan : Part.scan ∈ T) (pimp : Part.imp ∈ T) (pringSt : Part.ringSt ∈ T) (pbal : Part.bal ∈ T) (ppair : Part.pair ∈ T) (h0' : Within T s0 s) : Within T s0 (State.windowDiscarded s) := by
  unfold State.windowDiscarded
  extract_lets s1
  have h2 : Within T s0 s1 := by
    unfold s1
    refine State.discardWindow_within pregs pq91 prk pscan pimp ?_
    exact h0'
  clear_value s1
  refine within_ite ?_ ?_
  · refine State.abortRun_within pregs pout pq91 ppwm ploop prk pscan pimp pringSt pbal ppair ?_
    exact h2
  · exact h2

theorem State.windowGood_within {s : State} (pregs : Part.regs ∈ T) (pout : Part.out ∈ T) (pimp : Part.imp ∈ T) (pringSt : Part.ringSt ∈ T) (h0' : Within T s0 s) : Within T s0 (State.windowGood s) := by
  unfold State.windowGood
  extract_lets s1
  rename_i x2 x3 x4 s5
  have h6 : Within T s0 s1 := by
    unfold s1
    refine State.wr_within pregs ?_
    refine State.wrB_within pregs ?_
    exact h0'
  have h7 : Within T s0 s5 := by
    unfold s5
    refine State.readBleeding_within pout pimp pringSt ?_
    exact within_upd h6 (imp := .inl pimp)
  clear_value s1 x2 x3 x4 s5
  refine within_ite ?_ ?_
  · exact h6
  · refine within_ite ?_ ?_
    · exact within_upd h6 (imp := .inl pimp)
    · refine within_ite ?_ ?_
      · exact h7
      · split
        · rename_i x8 e9
          refine State.wr_within pregs ?_
          exact h7
        · rename_i x10 e11
          refine State.wr_within pregs ?_
          exact h7
        · rename_i x12 e13 e14
          exact h7

theorem execImpedWindowEnd_within {s : State} (pregs : Part.regs ∈ T) (pout : Part.out ∈ T) (pq91 : Part.q91 ∈ T) (ppwm : Part.pwm ∈ T) (ploop : Part.loop ∈ T) (prk : Part.rk ∈ T) (pscan : Part.scan ∈ T) (pimp : Part.imp ∈ T) (pringSt : Part.ringSt ∈ T) (pbal : Part.bal ∈ T) (ppair : Part.pair ∈ T) (h0' : Within T s0 s) : ∃ u', (execImpedWindowEnd s) = .next u' ∧ Within T s0 u' := by
  unfold execImpedWindowEnd
  extract_lets s1
  rename_i x2 s3 s4 s5 x6
  have h7 : Within T s0 s3 := by
    unfold s3
    refine within_ite ?_ ?_
    · refine State.wr_within pregs ?_
      exact h0'
    · exact h0'
  have h8 : Within T s0 s4 := by
    unfold s4
    refine within_ite ?_ ?_
    · refine State.bledAtStart_within pout pimp pringSt ?_
      exact h7
    · exact h7
  have h9 : Within T s0 s5 := by
    unfold s5
    refine within_ite ?_ ?_
    · refine State.windowDiscarded_within pregs pout pq91 ppwm ploop prk pscan pimp pringSt pbal ppair ?_
      exact h8
    · refine State.windowGood_within pregs pout pimp pringSt ?_
      exact h8
  clear_value s1 x2 s3 s4 s5 x6
  refine out_ite ?_ ?_
  · refine ⟨_, rfl, ?_⟩
    exact within_upd h9 (imp := .inl pimp)
  · refine ⟨_, rfl, ?_⟩
    exact h0'

/-! ## ModeFam -/

theorem execAonTimerWake_within {s : State} (pregs : Part.regs ∈ T) (pout : Part.out ∈ T) (pq91 : Part.q91 ∈ T) (prk : Part.rk ∈ T) (pscan : Part.scan ∈ T) (pringSt : Part.ringSt ∈ T) (pcan : Part.can ∈ T) (h0' : Within T s0 s) : ∃ u', (execAonTimerWake s) = .next u' ∧ Within T s0 u' := by
  unfold execAonTimerWake
  refine out_ite ?_ ?_
  · refine ⟨_, rfl, ?_⟩
    refine State.wakeDormant_within pregs pout pq91 prk pscan pringSt pcan ?_
    exact h0'
  · refine ⟨_, rfl, ?_⟩
    exact h0'

theorem execDormantWake_within {w : Wake} {s : State} (pregs : Part.regs ∈ T) (pout : Part.out ∈ T) (pq91 : Part.q91 ∈ T) (prk : Part.rk ∈ T) (pscan : Part.scan ∈ T) (pringSt : Part.ringSt ∈ T) (pcan : Part.can ∈ T) (h1' : Within T s0 s) : ∃ u', (execDormantWake w s) = .next u' ∧ Within T s0 u' := by
  unfold execDormantWake
  split
  · rename_i x1 x2
    refine out_ite ?_ ?_
    · refine ⟨_, rfl, ?_⟩
      refine State.wakeDormant_within pregs pout pq91 prk pscan pringSt pcan ?_
      refine State.raise_within pregs pq91 prk pscan ?_
      exact h1'
    · refine ⟨_, rfl, ?_⟩
      exact h1'
  · rename_i x3 e4
    refine ⟨_, rfl, ?_⟩
    refine State.wakeDormant_within pregs pout pq91 prk pscan pringSt pcan ?_
    exact h1'

theorem execModeReqConnect_within {who : Initiator} {p : Partners} {s : State} (pregs : Part.regs ∈ T) (pshadow : Part.shadow ∈ T) (pout : Part.out ∈ T) (paccErr : Part.accErr ∈ T) (pcrown : Part.crown ∈ T) (pstg : Part.stg ∈ T) (pq91 : Part.q91 ∈ T) (ppwm : Part.pwm ∈ T) (ploop : Part.loop ∈ T) (ptrack : Part.track ∈ T) (pprot : Part.prot ∈ T) (phost : Part.host ∈ T) (prk : Part.rk ∈ T) (pscan : Part.scan ∈ T) (pimp : Part.imp ∈ T) (pest : Part.est ∈ T) (ptmx : Part.tmx ∈ T) (pringSt : Part.ringSt ∈ T) (pharv : Part.harv ∈ T) (pbal : Part.bal ∈ T) (ptele : Part.tele ∈ T) (pnvm : Part.nvm ∈ T) (ppair : Part.pair ∈ T) (h2' : Within T s0 s) : ∃ u', (execModeReqConnect who p s) = .next u' ∧ Within T s0 u' := by
  unfold execModeReqConnect
  refine ⟨_, rfl, ?_⟩
  refine State.asWrite_within pregs paccErr pq91 phost ?_ ?_
  · exact h2'
  · intro s1 h2
    refine State.modeRequest_within pregs pshadow pout pcrown pstg pq91 ppwm ploop ptrack pprot phost prk pscan pimp pest ptmx pringSt pharv pbal ptele pnvm ppair ?_
    exact h2

theorem execModeReqDormant_within {who : Initiator} {s : State} (pregs : Part.regs ∈ T) (pshadow : Part.shadow ∈ T) (pout : Part.out ∈ T) (paccErr : Part.accErr ∈ T) (pcrown : Part.crown ∈ T) (pstg : Part.stg ∈ T) (pq91 : Part.q91 ∈ T) (ppwm : Part.pwm ∈ T) (ploop : Part.loop ∈ T) (ptrack : Part.track ∈ T) (pprot : Part.prot ∈ T) (phost : Part.host ∈ T) (prk : Part.rk ∈ T) (pscan : Part.scan ∈ T) (pimp : Part.imp ∈ T) (pest : Part.est ∈ T) (ptmx : Part.tmx ∈ T) (pringSt : Part.ringSt ∈ T) (pharv : Part.harv ∈ T) (pbal : Part.bal ∈ T) (ptele : Part.tele ∈ T) (pnvm : Part.nvm ∈ T) (ppair : Part.pair ∈ T) (h1' : Within T s0 s) : ∃ u', (execModeReqDormant who s) = .next u' ∧ Within T s0 u' := by
  unfold execModeReqDormant
  refine ⟨_, rfl, ?_⟩
  refine State.asWrite_within pregs paccErr pq91 phost ?_ ?_
  · exact h1'
  · intro s1 h2
    refine State.modeRequest_within pregs pshadow pout pcrown pstg pq91 ppwm ploop ptrack pprot phost prk pscan pimp pest ptmx pringSt pharv pbal ptele pnvm ppair ?_
    exact h2

theorem execModeReqRest_within {who : Initiator} {s : State} (pregs : Part.regs ∈ T) (pshadow : Part.shadow ∈ T) (pout : Part.out ∈ T) (paccErr : Part.accErr ∈ T) (pcrown : Part.crown ∈ T) (pstg : Part.stg ∈ T) (pq91 : Part.q91 ∈ T) (ppwm : Part.pwm ∈ T) (ploop : Part.loop ∈ T) (ptrack : Part.track ∈ T) (pprot : Part.prot ∈ T) (phost : Part.host ∈ T) (prk : Part.rk ∈ T) (pscan : Part.scan ∈ T) (pimp : Part.imp ∈ T) (pest : Part.est ∈ T) (ptmx : Part.tmx ∈ T) (pringSt : Part.ringSt ∈ T) (pharv : Part.harv ∈ T) (pbal : Part.bal ∈ T) (ptele : Part.tele ∈ T) (pnvm : Part.nvm ∈ T) (ppair : Part.pair ∈ T) (h1' : Within T s0 s) : ∃ u', (execModeReqRest who s) = .next u' ∧ Within T s0 u' := by
  unfold execModeReqRest
  refine ⟨_, rfl, ?_⟩
  refine State.asWrite_within pregs paccErr pq91 phost ?_ ?_
  · exact h1'
  · intro s1 h2
    refine State.modeRequest_within pregs pshadow pout pcrown pstg pq91 ppwm ploop ptrack pprot phost prk pscan pimp pest ptmx pringSt pharv pbal ptele pnvm ppair ?_
    exact h2

theorem execModeReqRun_within {who : Initiator} {p : Partners} {s : State} (pregs : Part.regs ∈ T) (pshadow : Part.shadow ∈ T) (pout : Part.out ∈ T) (paccErr : Part.accErr ∈ T) (pcrown : Part.crown ∈ T) (pstg : Part.stg ∈ T) (pq91 : Part.q91 ∈ T) (ppwm : Part.pwm ∈ T) (ploop : Part.loop ∈ T) (ptrack : Part.track ∈ T) (pprot : Part.prot ∈ T) (phost : Part.host ∈ T) (prk : Part.rk ∈ T) (pscan : Part.scan ∈ T) (pimp : Part.imp ∈ T) (pest : Part.est ∈ T) (ptmx : Part.tmx ∈ T) (pringSt : Part.ringSt ∈ T) (pharv : Part.harv ∈ T) (pbal : Part.bal ∈ T) (ptele : Part.tele ∈ T) (pnvm : Part.nvm ∈ T) (ppair : Part.pair ∈ T) (h2' : Within T s0 s) : ∃ u', (execModeReqRun who p s) = .next u' ∧ Within T s0 u' := by
  unfold execModeReqRun
  refine ⟨_, rfl, ?_⟩
  refine State.asWrite_within pregs paccErr pq91 phost ?_ ?_
  · exact h2'
  · intro s1 h2
    refine State.modeRequest_within pregs pshadow pout pcrown pstg pq91 ppwm ploop ptrack pprot phost prk pscan pimp pest ptmx pringSt pharv pbal ptele pnvm ppair ?_
    exact h2

theorem execModeReqSafeAcknowledge_within {who : Initiator} {s : State} (pregs : Part.regs ∈ T) (pshadow : Part.shadow ∈ T) (pout : Part.out ∈ T) (paccErr : Part.accErr ∈ T) (pcrown : Part.crown ∈ T) (pstg : Part.stg ∈ T) (pq91 : Part.q91 ∈ T) (ppwm : Part.pwm ∈ T) (ploop : Part.loop ∈ T) (ptrack : Part.track ∈ T) (pprot : Part.prot ∈ T) (phost : Part.host ∈ T) (prk : Part.rk ∈ T) (pscan : Part.scan ∈ T) (pimp : Part.imp ∈ T) (pest : Part.est ∈ T) (ptmx : Part.tmx ∈ T) (pringSt : Part.ringSt ∈ T) (pharv : Part.harv ∈ T) (pbal : Part.bal ∈ T) (ptele : Part.tele ∈ T) (pnvm : Part.nvm ∈ T) (ppair : Part.pair ∈ T) (h1' : Within T s0 s) : ∃ u', (execModeReqSafeAcknowledge who s) = .next u' ∧ Within T s0 u' := by
  unfold execModeReqSafeAcknowledge
  refine ⟨_, rfl, ?_⟩
  refine State.asWrite_within pregs paccErr pq91 phost ?_ ?_
  · exact h1'
  · intro s1 h2
    refine State.modeReqWrite_within pregs pshadow pout pcrown pstg pq91 ppwm ploop ptrack pprot phost prk pscan pimp pest ptmx pringSt pharv pbal ptele pnvm ppair ?_
    exact h2

theorem execModeReqService_within {who : Initiator} {s : State} (pregs : Part.regs ∈ T) (pshadow : Part.shadow ∈ T) (pout : Part.out ∈ T) (paccErr : Part.accErr ∈ T) (pcrown : Part.crown ∈ T) (pstg : Part.stg ∈ T) (pq91 : Part.q91 ∈ T) (ppwm : Part.pwm ∈ T) (ploop : Part.loop ∈ T) (ptrack : Part.track ∈ T) (pprot : Part.prot ∈ T) (phost : Part.host ∈ T) (prk : Part.rk ∈ T) (pscan : Part.scan ∈ T) (pimp : Part.imp ∈ T) (pest : Part.est ∈ T) (ptmx : Part.tmx ∈ T) (pringSt : Part.ringSt ∈ T) (pharv : Part.harv ∈ T) (pbal : Part.bal ∈ T) (ptele : Part.tele ∈ T) (pnvm : Part.nvm ∈ T) (ppair : Part.pair ∈ T) (h1' : Within T s0 s) : ∃ u', (execModeReqService who s) = .next u' ∧ Within T s0 u' := by
  unfold execModeReqService
  refine ⟨_, rfl, ?_⟩
  refine State.asWrite_within pregs paccErr pq91 phost ?_ ?_
  · exact h1'
  · intro s1 h2
    refine State.modeRequest_within pregs pshadow pout pcrown pstg pq91 ppwm ploop ptrack pprot phost prk pscan pimp pest ptmx pringSt pharv pbal ptele pnvm ppair ?_
    exact h2

theorem execModeReqStandby_within {who : Initiator} {s : State} (pregs : Part.regs ∈ T) (pshadow : Part.shadow ∈ T) (pout : Part.out ∈ T) (paccErr : Part.accErr ∈ T) (pcrown : Part.crown ∈ T) (pstg : Part.stg ∈ T) (pq91 : Part.q91 ∈ T) (ppwm : Part.pwm ∈ T) (ploop : Part.loop ∈ T) (ptrack : Part.track ∈ T) (pprot : Part.prot ∈ T) (phost : Part.host ∈ T) (prk : Part.rk ∈ T) (pscan : Part.scan ∈ T) (pimp : Part.imp ∈ T) (pest : Part.est ∈ T) (ptmx : Part.tmx ∈ T) (pringSt : Part.ringSt ∈ T) (pharv : Part.harv ∈ T) (pbal : Part.bal ∈ T) (ptele : Part.tele ∈ T) (pnvm : Part.nvm ∈ T) (ppair : Part.pair ∈ T) (h1' : Within T s0 s) : ∃ u', (execModeReqStandby who s) = .next u' ∧ Within T s0 u' := by
  unfold execModeReqStandby
  refine ⟨_, rfl, ?_⟩
  refine State.asWrite_within pregs paccErr pq91 phost ?_ ?_
  · exact h1'
  · intro s1 h2
    refine State.modeRequest_within pregs pshadow pout pcrown pstg pq91 ppwm ploop ptrack pprot phost prk pscan pimp pest ptmx pringSt pharv pbal ptele pnvm ppair ?_
    exact h2

theorem execModeReqTransport_within {who : Initiator} {s : State} (pregs : Part.regs ∈ T) (pshadow : Part.shadow ∈ T) (pout : Part.out ∈ T) (paccErr : Part.accErr ∈ T) (pcrown : Part.crown ∈ T) (pstg : Part.stg ∈ T) (pq91 : Part.q91 ∈ T) (ppwm : Part.pwm ∈ T) (ploop : Part.loop ∈ T) (ptrack : Part.track ∈ T) (pprot : Part.prot ∈ T) (phost : Part.host ∈ T) (prk : Part.rk ∈ T) (pscan : Part.scan ∈ T) (pimp : Part.imp ∈ T) (pest : Part.est ∈ T) (ptmx : Part.tmx ∈ T) (pringSt : Part.ringSt ∈ T) (pharv : Part.harv ∈ T) (pbal : Part.bal ∈ T) (ptele : Part.tele ∈ T) (pnvm : Part.nvm ∈ T) (ppair : Part.pair ∈ T) (h1' : Within T s0 s) : ∃ u', (execModeReqTransport who s) = .next u' ∧ Within T s0 u' := by
  unfold execModeReqTransport
  refine ⟨_, rfl, ?_⟩
  refine State.asWrite_within pregs paccErr pq91 phost ?_ ?_
  · exact h1'
  · intro s1 h2
    refine State.modeRequest_within pregs pshadow pout pcrown pstg pq91 ppwm ploop ptrack pprot phost prk pscan pimp pest ptmx pringSt pharv pbal ptele pnvm ppair ?_
    exact h2

theorem execSafeExitJudgement_within {s : State} (pregs : Part.regs ∈ T) (pcrown : Part.crown ∈ T) (pq91 : Part.q91 ∈ T) (prk : Part.rk ∈ T) (pscan : Part.scan ∈ T) (pest : Part.est ∈ T) (ptele : Part.tele ∈ T) (pnvm : Part.nvm ∈ T) (h0' : Within T s0 s) : ∃ u', (execSafeExitJudgement s) = .next u' ∧ Within T s0 u' := by
  unfold execSafeExitJudgement
  refine out_ite ?_ ?_
  · refine ⟨_, rfl, ?_⟩
    refine State.judgeSafeExit_within pregs pcrown pq91 prk pscan pest ptele pnvm ?_
    exact h0'
  · refine ⟨_, rfl, ?_⟩
    exact h0'

/-! ## PairFam -/

theorem execClaimEchoRx_within {claim : BitVec 16} {s : State} (ppair : Part.pair ∈ T) (h1' : Within T s0 s) : ∃ u', (execClaimEchoRx claim s) = .next u' ∧ Within T s0 u' := by
  unfold execClaimEchoRx
  refine ⟨_, rfl, ?_⟩
  exact within_upd h1' (pair := .inl ppair)

theorem execClaimEchoSilence_within {s : State} (pregs : Part.regs ∈ T) (pshadow : Part.shadow ∈ T) (pout : Part.out ∈ T) (pcrown : Part.crown ∈ T) (pstg : Part.stg ∈ T) (pq91 : Part.q91 ∈ T) (ppwm : Part.pwm ∈ T) (ploop : Part.loop ∈ T) (ptrack : Part.track ∈ T) (pprot : Part.prot ∈ T) (prk : Part.rk ∈ T) (pscan : Part.scan ∈ T) (pimp : Part.imp ∈ T) (pest : Part.est ∈ T) (ptmx : Part.tmx ∈ T) (pringSt : Part.ringSt ∈ T) (pbal : Part.bal ∈ T) (ptele : Part.tele ∈ T) (pnvm : Part.nvm ∈ T) (pcan : Part.can ∈ T) (ppair : Part.pair ∈ T) (h0' : Within T s0 s) : ∃ u', (execClaimEchoSilence s) = .next u' ∧ Within T s0 u' := by
  unfold execClaimEchoSilence
  extract_lets s1
  rename_i s2
  have h3 : Within T s0 s2 := by
    unfold s2
    exact within_upd h0' (pair := .inl ppair)
  clear_value s1 s2
  refine out_ite ?_ ?_
  · refine ⟨_, rfl, ?_⟩
    exact h3
  · refine ⟨_, rfl, ?_⟩
    refine State.takeover_within pregs pshadow pout pcrown pstg pq91 ppwm ploop ptrack pprot prk pscan pimp pest ptmx pringSt pbal ptele pnvm pcan ppair ?_
    exact h3

theorem State.partnerClaim_within {s : State} {claim : ℕ} (pregs : Part.regs ∈ T) (pshadow : Part.shadow ∈ T) (pout : Part.out ∈ T) (pcrown : Part.crown ∈ T) (pstg : Part.stg ∈ T) (pq91 : Part.q91 ∈ T) (ppwm : Part.pwm ∈ T) (ploop : Part.loop ∈ T) (ptrack : Part.track ∈ T) (pprot : Part.prot ∈ T) (prk : Part.rk ∈ T) (pscan : Part.scan ∈ T) (pimp : Part.imp ∈ T) (pest : Part.est ∈ T) (ptmx : Part.tmx ∈ T) (pringSt : Part.ringSt ∈ T) (pbal : Part.bal ∈ T) (ptele : Part.tele ∈ T) (pnvm : Part.nvm ∈ T) (pcan : Part.can ∈ T) (ppair : Part.pair ∈ T) (h0' : Within T s0 s) : Within T s0 (State.partnerClaim s claim) := by
  unfold State.partnerClaim
  extract_lets s1 s2 s3
  rename_i s4 x5 s6
  have h7 : Within T s0 s2 := by
    unfold s2
    refine State.wr_within pregs ?_
    exact h0'
  have h8 : Within T s0 s4 := by
    unfold s4
    exact within_upd h7 (pair := .inl ppair)
  have h9 : Within T s0 s6 := by
    unfold s6
    exact within_upd h8 (pair := .inl ppair)
  clear_value s1 s2 s3 s4 x5 s6
  refine within_ite ?_ ?_
  · refine within_ite ?_ ?_
    · refine State.refreshReady_within pregs pq91 prk pscan ?_
      refine State.giveUpClaim_within pregs pshadow pout pcrown pstg pq91 ppwm ploop ptrack pprot prk pscan pimp pringSt pbal ppair ?_
      exact h9
    · refine State.refreshReady_within pregs pq91 prk pscan ?_
      exact h9
  · refine within_ite ?_ ?_
    · refine State.takeover_within pregs pshadow pout pcrown pstg pq91 ppwm ploop ptrack pprot prk pscan pimp pest ptmx pringSt pbal ptele pnvm pcan ppair ?_
      exact h8
    · refine State.refreshReady_within pregs pq91 prk pscan ?_
      exact h8

theorem execClaimFrameRx_within {claim : BitVec 16} {hb : BitVec 8} {line : ClaimLine} {s : State} (pregs : Part.regs ∈ T) (pshadow : Part.shadow ∈ T) (pout : Part.out ∈ T) (pcrown : Part.crown ∈ T) (pstg : Part.stg ∈ T) (pq91 : Part.q91 ∈ T) (ppwm : Part.pwm ∈ T) (ploop : Part.loop ∈ T) (ptrack : Part.track ∈ T) (pprot : Part.prot ∈ T) (prk : Part.rk ∈ T) (pscan : Part.scan ∈ T) (pimp : Part.imp ∈ T) (pest : Part.est ∈ T) (ptmx : Part.tmx ∈ T) (pringSt : Part.ringSt ∈ T) (pbal : Part.bal ∈ T) (ptele : Part.tele ∈ T) (pnvm : Part.nvm ∈ T) (pcan : Part.can ∈ T) (ppair : Part.pair ∈ T) (h3' : Within T s0 s) : ∃ u', (execClaimFrameRx claim hb line s) = .next u' ∧ Within T s0 u' := by
  unfold execClaimFrameRx
  extract_lets s1
  rename_i s2 s3 x4 s5
  have h6 : Within T s0 s2 := by
    unfold s2
    refine within_ite ?_ ?_
    · exact h3'
    · refine State.raise_within pregs pq91 prk pscan ?_
      refine State.wrB_within pregs ?_
      exact h3'
  have h7 : Within T s0 s3 := by
    unfold s3
    refine State.wr_within pregs ?_
    exact h6
  have h8 : Within T s0 s5 := by
    unfold s5
    exact within_upd h7 (pair := .inl ppair)
  clear_value s1 s2 s3 x4 s5
  refine out_ite ?_ ?_
  · refine ⟨_, rfl, ?_⟩
    exact h3'
  · refine out_ite ?_ ?_
    · refine ⟨_, rfl, ?_⟩
      refine State.bump_within pregs ?_
      exact h3'
    · refine out_ite ?_ ?_
      · refine ⟨_, rfl, ?_⟩
        exact h3'
      · refine out_ite ?_ ?_
        · refine ⟨_, rfl, ?_⟩
          refine State.bump_within pregs ?_
          exact h3'
        · refine ⟨_, rfl, ?_⟩
          refine State.partnerClaim_within pregs pshadow pout pcrown pstg pq91 ppwm ploop ptrack pprot prk pscan pimp pest ptmx pringSt pbal ptele pnvm pcan ppair ?_
          exact h8

theorem State.genCheck_within {s : State} (pregs : Part.regs ∈ T) (pshadow : Part.shadow ∈ T) (pout : Part.out ∈ T) (pcrown : Part.crown ∈ T) (pstg : Part.stg ∈ T) (pq91 : Part.q91 ∈ T) (ppwm : Part.pwm ∈ T) (ploop : Part.loop ∈ T) (ptrack : Part.track ∈ T) (pprot : Part.prot ∈ T) (prk : Part.rk ∈ T) (pscan : Part.scan ∈ T) (pimp : Part.imp ∈ T) (pest : Part.est ∈ T) (ptmx : Part.tmx ∈ T) (pringSt : Part.ringSt ∈ T) (pbal : Part.bal ∈ T) (ptele : Part.tele ∈ T) (pnvm : Part.nvm ∈ T) (ppair : Part.pair ∈ T) (h0' : Within T s0 s) : Within T s0 (State.genCheck s) := by
  unfold State.genCheck
  refine within_ite ?_ ?_
  · exact h0'
  · refine State.relinquishOr_within pregs pshadow pout pcrown pstg pq91 ppwm ploop ptrack pprot prk pscan pimp pringSt pbal ppair ?_ ?_
    · refine State.raise_within pregs pq91 prk pscan ?_
      exact within_upd h0' (pair := .inl ppair)
    · intro s1 h2
      refine State.react_within pregs pshadow pout pcrown pstg pq91 ppwm ploop ptrack pprot prk pscan pimp pest ptmx pringSt pbal ptele pnvm ppair ?_
      exact h2

theorem execClaimFrameTx_within {ok : Bool} {s : State} (pregs : Part.regs ∈ T) (pshadow : Part.shadow ∈ T) (pout : Part.out ∈ T) (pcrown : Part.crown ∈ T) (pstg : Part.stg ∈ T) (pq91 : Part.q91 ∈ T) (ppwm : Part.pwm ∈ T) (ploop : Part.loop ∈ T) (ptrack : Part.track ∈ T) (pprot : Part.prot ∈ T) (prk : Part.rk ∈ T) (pscan : Part.scan ∈ T) (pimp : Part.imp ∈ T) (pest : Part.est ∈ T) (ptmx : Part.tmx ∈ T) (pringSt : Part.ringSt ∈ T) (pbal : Part.bal ∈ T) (ptele : Part.tele ∈ T) (pnvm : Part.nvm ∈ T) (ppair : Part.pair ∈ T) (h1' : Within T s0 s) : ∃ u', (execClaimFrameTx ok s) = .next u' ∧ Within T s0 u' := by
  unfold execClaimFrameTx
  refine out_ite ?_ ?_
  · refine ⟨_, rfl, ?_⟩
    exact h1'
  · extract_lets s1 s2 s3
    rename_i x4 x5 s6
    have h7 : Within T s0 s3 := by
      unfold s3
      refine State.genCheck_within pregs pshadow pout pcrown pstg pq91 ppwm ploop ptrack pprot prk pscan pimp pest ptmx pringSt pbal ptele pnvm ppair ?_
      refine State.send_within pout ?_
      refine State.send_within pout ?_
      exact within_upd h1' (pair := .inl ppair)
    have h8 : ∀ a0, Within T s0 (x5 a0) := by
      intro x9
      unfold x5
      beta_reduce
      exact within_upd h7 (pair := .inl ppair)
    clear_value x5
    have h10 : Within T s0 s6 := by
      unfold s6
      refine State.refreshReady_within pregs pq91 prk pscan ?_
      refine State.lasting_within pregs ?_
      refine State.raise_within pregs pq91 prk pscan ?_
      refine State.wrB_within pregs ?_
      apply h8
    clear_value s1 s2 s3 x4 s6
    refine out_ite ?_ ?_
    · refine ⟨_, rfl, ?_⟩
      exact h7
    · refine out_ite ?_ ?_
      · refine ⟨_, rfl, ?_⟩
        refine within_ite ?_ ?_
        · refine State.retryPass_within pregs pq91 ?_
          refine State.bump_within pregs ?_
          apply h8
        · exact h7
      · refine out_ite ?_ ?_
        · refine ⟨_, rfl, ?_⟩
          apply h8
        · refine out_ite ?_ ?_
          · refine ⟨_, rfl, ?_⟩
            refine State.relinquishOr_within pregs pshadow pout pcrown pstg pq91 ppwm ploop ptrack pprot prk pscan pimp pringSt pbal ppair ?_ ?_
            · exact h10
            · intro s11 h12
              refine State.react_within pregs pshadow pout pcrown pstg pq91 ppwm ploop ptrack pprot prk pscan pimp pest ptmx pringSt pbal ptele pnvm ppair ?_
              exact h12
          · refine ⟨_, rfl, ?_⟩
            refine State.record_within pq91 ?_
            exact h10

theorem execClaimMonitorSilence_within {s : State} (pregs : Part.regs ∈ T) (pshadow : Part.shadow ∈ T) (pout : Part.out ∈ T) (pcrown : Part.crown ∈ T) (pstg : Part.stg ∈ T) (pq91 : Part.q91 ∈ T) (ppwm : Part.pwm ∈ T) (ploop : Part.loop ∈ T) (ptrack : Part.track ∈ T) (pprot : Part.prot ∈ T) (prk : Part.rk ∈ T) (pscan : Part.scan ∈ T) (pimp : Part.imp ∈ T) (pest : Part.est ∈ T) (ptmx : Part.tmx ∈ T) (pringSt : Part.ringSt ∈ T) (pbal : Part.bal ∈ T) (ptele : Part.tele ∈ T) (pnvm : Part.nvm ∈ T) (pcan : Part.can ∈ T) (ppair : Part.pair ∈ T) (h0' : Within T s0 s) : ∃ u', (execClaimMonitorSilence s) = .next u' ∧ Within T s0 u' := by
  unfold execClaimMonitorSilence
  refine out_ite ?_ ?_
  · refine ⟨_, rfl, ?_⟩
    exact h0'
  · extract_lets s1
    rename_i x2 s3
    have h4 : Within T s0 s1 := by
      unfold s1
      refine State.raise_within pregs pq91 prk pscan ?_
      refine State.wrB_within pregs ?_
      exact h0'
    have h5 : Within T s0 s3 := by
      unfold s3
      exact within_upd h4 (pair := .inl ppair)
    clear_value s1 x2 s3
    refine out_ite ?_ ?_
    · refine ⟨_, rfl, ?_⟩
      exact h5
    · refine out_ite ?_ ?_
      · refine ⟨_, rfl, ?_⟩
        refine State.takeover_within pregs pshadow pout pcrown pstg pq91 ppwm ploop ptrack pprot prk pscan pimp pest ptmx pringSt pbal ptele pnvm pcan ppair ?_
        exact h5
      · refine out_ite ?_ ?_
        · refine ⟨_, rfl, ?_⟩
          refine State.setReady_within pregs pq91 prk pscan ?_
          refine State.raise_within pregs pq91 prk pscan ?_
          exact h5
        · refine ⟨_, rfl, ?_⟩
          refine State.refreshReady_within pregs pq91 prk pscan ?_
          exact h5

theorem execForcedResetSend_within {s : State} (pout : Part.out ∈ T) (ppair : Part.pair ∈ T) (h0' : Within T s0 s) : ∃ u', (execForcedResetSend s) = .next u' ∧ Within T s0 u' := by
  unfold execForcedResetSend
  refine out_ite ?_ ?_
  · refine ⟨_, rfl, ?_⟩
    refine State.send_within pout ?_
    exact within_upd h0' (pair := .inl ppair)
  · refine ⟨_, rfl, ?_⟩
    exact h0'

theorem execHeartbeatRx_within {ready : Bool} {other : Option (Fin 2)} {s : State} (pregs : Part.regs ∈ T) (pout : Part.out ∈ T) (pq91 : Part.q91 ∈ T) (prk : Part.rk ∈ T) (pscan : Part.scan ∈ T) (ptmx : Part.tmx ∈ T) (ppair : Part.pair ∈ T) (h2' : Within T s0 s) : ∃ u', (execHeartbeatRx ready other s) = .next u' ∧ Within T s0 u' := by
  unfold execHeartbeatRx
  refine out_ite ?_ ?_
  · refine ⟨_, rfl, ?_⟩
    exact h2'
  · extract_lets s1 s2 s3 s4 s5 s6
    rename_i s7 s8
    have h9 : Within T s0 s4 := by
      unfold s4
      refine State.wrB_within pregs ?_
      refine State.wrB_within pregs ?_
      exact h2'
    have h10 : Within T s0 s6 := by
      unfold s6
      exact within_upd h9 (pair := .inl ppair)
    have h11 : Within T s0 s7 := by
      unfold s7
      refine within_ite ?_ ?_
      · exact h10
      · refine State.mirror_within pout ppair ?_
        exact h10
    have h12 : Within T s0 s8 := by
      unfold s8
      refine State.refreshReady_within pregs pq91 prk pscan ?_
      exact h11
    clear_value s1 s2 s3 s4 s5 s6 s7 s8
    refine out_ite ?_ ?_
    · refine ⟨_, rfl, ?_⟩
      refine State.pairConflict_within pregs pq91 prk pscan ptmx ?_
      exact h12
    · refine ⟨_, rfl, ?_⟩
      exact h12

theorem execHeartbeatTx_within {s : State} (pregs : Part.regs ∈ T) (pout : Part.out ∈ T) (pq91 : Part.q91 ∈ T) (prk : Part.rk ∈ T) (pscan : Part.scan ∈ T) (h0' : Within T s0 s) : ∃ u', (execHeartbeatTx s) = .next u' ∧ Within T s0 u' := by
  unfold execHeartbeatTx
  refine out_ite ?_ ?_
  · refine ⟨_, rfl, ?_⟩
    exact h0'
  · extract_lets s1
    have h2 : Within T s0 s1 := by
      unfold s1
      refine State.refreshReady_within pregs pq91 prk pscan ?_
      exact h0'
    clear_value s1
    refine ⟨_, rfl, ?_⟩
    refine State.send_within pout ?_
    exact h2

theorem execIslandSelfTest_within {pass : Bool} {s : State} (pregs : Part.regs ∈ T) (pshadow : Part.shadow ∈ T) (pout : Part.out ∈ T) (pcrown : Part.crown ∈ T) (pstg : Part.stg ∈ T) (pq91 : Part.q91 ∈ T) (ppwm : Part.pwm ∈ T) (ploop : Part.loop ∈ T) (ptrack : Part.track ∈ T) (pprot : Part.prot ∈ T) (prk : Part.rk ∈ T) (pscan : Part.scan ∈ T) (pimp : Part.imp ∈ T) (pest : Part.est ∈ T) (ptmx : Part.tmx ∈ T) (pringSt : Part.ringSt ∈ T) (pbal : Part.bal ∈ T) (ptele : Part.tele ∈ T) (pnvm : Part.nvm ∈ T) (ppair : Part.pair ∈ T) (h1' : Within T s0 s) : ∃ u', (execIslandSelfTest pass s) = .next u' ∧ Within T s0 u' := by
  unfold execIslandSelfTest
  refine out_ite ?_ ?_
  · refine ⟨_, rfl, ?_⟩
    exact h1'
  · refine out_ite ?_ ?_
    · refine ⟨_, rfl, ?_⟩
      refine State.healthJudge_within pregs pq91 prk pscan ppair ?_
      exact h1'
    · refine ⟨_, rfl, ?_⟩
      refine State.islandJudge_within pregs pq91 pprot ?_ ?_
      · exact h1'
      · intro s1 h2
        refine State.relinquishOr_within pregs pshadow pout pcrown pstg pq91 ppwm ploop ptrack pprot prk pscan pimp pringSt pbal ppair ?_ ?_
        · refine State.lasting_within pregs ?_
          exact h2
        · intro s3 h4
          refine State.react_within pregs pshadow pout pcrown pstg pq91 ppwm ploop ptrack pprot prk pscan pimp pest ptmx pringSt pbal ptele pnvm ppair ?_
          exact h4

theorem execMirrorSnapshot_within {seq : BitVec 32} {m : Mirror} {s : State} (pregs : Part.regs ∈ T) (pout : Part.out ∈ T) (pfree : Part.free ∈ T) (pq91 : Part.q91 ∈ T) (ploop : Part.loop ∈ T) (ptrack : Part.track ∈ T) (prk : Part.rk ∈ T) (pscan : Part.scan ∈ T) (pimp : Part.imp ∈ T) (pest : Part.est ∈ T) (pdisp : Part.disp ∈ T) (peng : Part.eng ∈ T) (pharv : Part.harv ∈ T) (pbal : Part.bal ∈ T) (ppair : Part.pair ∈ T) (h2' : Within T s0 s) : ∃ u', (execMirrorSnapshot seq m s) = .next u' ∧ Within T s0 u' := by
  unfold execMirrorSnapshot
  refine out_ite ?_ ?_
  · refine ⟨_, rfl, ?_⟩
    refine State.mirrored_within pregs pout pfree pq91 ploop ptrack prk pscan pimp pest pdisp peng pharv pbal ppair ?_
    exact h2'
  · refine ⟨_, rfl, ?_⟩
    exact h2'

theorem execPairIdChange_within {level : Fin 3} {s : State} (pq91 : Part.q91 ∈ T) (h1' : Within T s0 s) : ∃ u', (execPairIdChange level s) = .next u' ∧ Within T s0 u' := by
  unfold execPairIdChange
  refine ⟨_, rfl, ?_⟩
  refine State.record_within pq91 ?_
  exact h1'

theorem execPairLinkLost_within {s : State} (pregs : Part.regs ∈ T) (pq91 : Part.q91 ∈ T) (prk : Part.rk ∈ T) (pscan : Part.scan ∈ T) (h0' : Within T s0 s) : ∃ u', (execPairLinkLost s) = .next u' ∧ Within T s0 u' := by
  unfold execPairLinkLost
  refine out_ite ?_ ?_
  · refine ⟨_, rfl, ?_⟩
    refine State.refreshReady_within pregs pq91 prk pscan ?_
    refine State.raise_within pregs pq91 prk pscan ?_
    refine State.wrB_within pregs ?_
    refine State.wrB_within pregs ?_
    exact h0'
  · refine ⟨_, rfl, ?_⟩
    exact h0'

theorem execPhase0BoundaryMessage_within {sec : BitVec 48} {ns : BitVec 32} {dev : ℤ} {s : State} (pregs : Part.regs ∈ T) (h3' : Within T s0 s) : ∃ u', (execPhase0BoundaryMessage sec ns dev s) = .next u' ∧ Within T s0 u' := by
  unfold execPhase0BoundaryMessage
  refine out_ite ?_ ?_
  · refine ⟨_, rfl, ?_⟩
    refine State.wrI_within pregs ?_
    exact h3'
  · refine ⟨_, rfl, ?_⟩
    exact h3'

theorem execRelinquishNotice_within {cause : BitVec 8} {s : State} (pregs : Part.regs ∈ T) (pshadow : Part.shadow ∈ T) (pout : Part.out ∈ T) (pcrown : Part.crown ∈ T) (pstg : Part.stg ∈ T) (pq91 : Part.q91 ∈ T) (ppwm : Part.pwm ∈ T) (ploop : Part.loop ∈ T) (ptrack : Part.track ∈ T) (pprot : Part.prot ∈ T) (prk : Part.rk ∈ T) (pscan : Part.scan ∈ T) (pimp : Part.imp ∈ T) (pest : Part.est ∈ T) (ptmx : Part.tmx ∈ T) (pringSt : Part.ringSt ∈ T) (pbal : Part.bal ∈ T) (ptele : Part.tele ∈ T) (pnvm : Part.nvm ∈ T) (pcan : Part.can ∈ T) (ppair : Part.pair ∈ T) (h1' : Within T s0 s) : ∃ u', (execRelinquishNotice cause s) = .next u' ∧ Within T s0 u' := by
  unfold execRelinquishNotice
  extract_lets s1
  rename_i s2
  have h3 : Within T s0 s2 := by
    unfold s2
    exact within_upd h1' (pair := .inl ppair)
  clear_value s1 s2
  refine out_ite ?_ ?_
  · refine ⟨_, rfl, ?_⟩
    exact h3
  · refine ⟨_, rfl, ?_⟩
    refine State.takeover_within pregs pshadow pout pcrown pstg pq91 ppwm ploop ptrack pprot prk pscan pimp pest ptmx pringSt pbal ptele pnvm pcan ppair ?_
    exact h3

theorem execSwitchCmd_within {who : Initiator} {key : BitVec 16} {s : State} (pregs : Part.regs ∈ T) (pshadow : Part.shadow ∈ T) (pout : Part.out ∈ T) (paccErr : Part.accErr ∈ T) (pcrown : Part.crown ∈ T) (pstg : Part.stg ∈ T) (pq91 : Part.q91 ∈ T) (ppwm : Part.pwm ∈ T) (ploop : Part.loop ∈ T) (ptrack : Part.track ∈ T) (pprot : Part.prot ∈ T) (phost : Part.host ∈ T) (prk : Part.rk ∈ T) (pscan : Part.scan ∈ T) (pimp : Part.imp ∈ T) (pringSt : Part.ringSt ∈ T) (pbal : Part.bal ∈ T) (ppair : Part.pair ∈ T) (h2' : Within T s0 s) : ∃ u', (execSwitchCmd who key s) = .next u' ∧ Within T s0 u' := by
  unfold execSwitchCmd
  refine ⟨_, rfl, ?_⟩
  refine State.asWrite_within pregs paccErr pq91 phost ?_ ?_
  · exact h2'
  · intro s1 h2
    refine State.pairCmd_within pregs pshadow pout pcrown pstg pq91 ppwm ploop ptrack pprot prk pscan pimp pringSt pbal ppair ?_
    exact h2

theorem State.ownSupply_within {s : State} (pregs : Part.regs ∈ T) (pshadow : Part.shadow ∈ T) (pout : Part.out ∈ T) (pcrown : Part.crown ∈ T) (pstg : Part.stg ∈ T) (pq91 : Part.q91 ∈ T) (ppwm : Part.pwm ∈ T) (ploop : Part.loop ∈ T) (prk : Part.rk ∈ T) (pscan : Part.scan ∈ T) (pimp : Part.imp ∈ T) (pringSt : Part.ringSt ∈ T) (pbal : Part.bal ∈ T) (ptele : Part.tele ∈ T) (ppair : Part.pair ∈ T) (h0' : Within T s0 s) : Within T s0 (State.ownSupply s) := by
  unfold State.ownSupply
  split
  · rename_i x1 e2
    refine within_ite ?_ ?_
    · exact h0'
    · refine State.enterHold_within pregs pshadow pout pcrown pstg pq91 ppwm ploop prk pscan pimp pringSt pbal ptele ppair ?_
      exact h0'
  · rename_i x3 e4
    refine within_ite ?_ ?_
    · exact h0'
    · refine State.enterHold_within pregs pshadow pout pcrown pstg pq91 ppwm ploop prk pscan pimp pringSt pbal ptele ppair ?_
      exact h0'
  · rename_i x5 e6
    extract_lets s7
    rename_i x8
    have h9 : Within T s0 s7 := by
      unfold s7
      refine State.wrB_within pregs ?_
      exact h0'
    clear_value s7 x8
    exact within_upd h9 (crown := .inl pcrown)
  · rename_i x10 e11 e12 e13
    exact h0'

theorem execSwitchoverResume_within {s : State} (pregs : Part.regs ∈ T) (pshadow : Part.shadow ∈ T) (pout : Part.out ∈ T) (pcrown : Part.crown ∈ T) (pstg : Part.stg ∈ T) (pq91 : Part.q91 ∈ T) (ppwm : Part.pwm ∈ T) (ploop : Part.loop ∈ T) (ptrack : Part.track ∈ T) (pprot : Part.prot ∈ T) (prk : Part.rk ∈ T) (pscan : Part.scan ∈ T) (pimp : Part.imp ∈ T) (pest : Part.est ∈ T) (ptmx : Part.tmx ∈ T) (pringSt : Part.ringSt ∈ T) (pbal : Part.bal ∈ T) (ptele : Part.tele ∈ T) (pnvm : Part.nvm ∈ T) (ppair : Part.pair ∈ T) (h0' : Within T s0 s) : ∃ u', (execSwitchoverResume s) = .next u' ∧ Within T s0 u' := by
  unfold execSwitchoverResume
  refine ⟨_, rfl, ?_⟩
  refine within_ite ?_ ?_
  · refine State.ownSupply_within pregs pshadow pout pcrown pstg pq91 ppwm ploop prk pscan pimp pringSt pbal ptele ppair ?_
    refine State.resumeGates_within pregs pshadow pout pcrown pstg pq91 ppwm ploop ptrack pprot prk pscan pimp pest ptmx pringSt pbal ptele pnvm ppair ?_
    exact h0'
  · exact h0'

theorem execUnitBClaimWait_within {s : State} (pregs : Part.regs ∈ T) (pout : Part.out ∈ T) (pcrown : Part.crown ∈ T) (pq91 : Part.q91 ∈ T) (prk : Part.rk ∈ T) (pscan : Part.scan ∈ T) (pringSt : Part.ringSt ∈ T) (pbal : Part.bal ∈ T) (ppair : Part.pair ∈ T) (h0' : Within T s0 s) : ∃ u', (execUnitBClaimWait s) = .next u' ∧ Within T s0 u' := by
  unfold execUnitBClaimWait
  refine out_ite ?_ ?_
  · extract_lets s1
    rename_i s2
    have h3 : Within T s0 s2 := by
      unfold s2
      exact within_upd h0' (pair := .inl ppair)
    clear_value s1 s2
    split
    rename_i s4 s5 x6 e7
    have h8 : Within T s0 s5 := by
      refine within_of_fst e7 ?_
      refine State.takeClaim_within pregs pq91 prk pscan ?_
      exact h3
    refine ⟨_, rfl, ?_⟩
    refine within_ite ?_ ?_
    · refine State.takeRing_within pregs pout pcrown pq91 prk pscan pringSt pbal ppair ?_
      refine State.wr_within pregs ?_
      exact h8
    · exact h8
  · refine ⟨_, rfl, ?_⟩
    exact h0'

end Sys2Proof.Machine
end

