-- ==== Sys2Proof/Laws/Within8.lean ====
section
/-!
SUPPORT. The parts of the state that each operation can change: TestFam, TimeFam, UpdateFam, Router, HostFam.
-/
set_option Elab.async false
set_option linter.unusedSimpArgs false
set_option linter.unusedVariables false
set_option linter.unusedTactic false
set_option linter.unreachableTactic false
namespace Sys2Proof.Machine
open Sys2Proof

variable {T : List Part} {s0 : State}

/-! ## TestFam -/

theorem execGstopCmd_within {who : Initiator} {s : State} (pregs : Part.regs ∈ T) (paccErr : Part.accErr ∈ T) (pq91 : Part.q91 ∈ T) (ppwm : Part.pwm ∈ T) (ploop : Part.loop ∈ T) (pprot : Part.prot ∈ T) (phost : Part.host ∈ T) (prk : Part.rk ∈ T) (pscan : Part.scan ∈ T) (ptmx : Part.tmx ∈ T) (h1' : Within T s0 s) : ∃ u', (execGstopCmd who s) = .next u' ∧ Within T s0 u' := by
  unfold execGstopCmd
  refine ⟨_, rfl, ?_⟩
  refine State.asWrite_within pregs paccErr pq91 phost ?_ ?_
  · exact h1'
  · intro s1 h2
    refine State.endGateTest_within pregs pq91 ppwm ploop pprot prk pscan ptmx ?_
    exact h2

theorem execGtestEnd_within {s : State} (pregs : Part.regs ∈ T) (pq91 : Part.q91 ∈ T) (ppwm : Part.pwm ∈ T) (ploop : Part.loop ∈ T) (pprot : Part.prot ∈ T) (prk : Part.rk ∈ T) (pscan : Part.scan ∈ T) (ptmx : Part.tmx ∈ T) (h0' : Within T s0 s) : ∃ u', (execGtestEnd s) = .next u' ∧ Within T s0 u' := by
  unfold execGtestEnd
  refine ⟨_, rfl, ?_⟩
  refine State.endGateTest_within pregs pq91 ppwm ploop pprot prk pscan ptmx ?_
  exact h0'

theorem State.testGo_within {s : State} (pregs : Part.regs ∈ T) (pprot : Part.prot ∈ T) (ptmx : Part.tmx ∈ T) (h0' : Within T s0 s) : Within T s0 (State.testGo s) := by
  unfold State.testGo
  refine within_ite ?_ ?_
  · exact h0'
  · extract_lets s1 s2
    rename_i s3 x4
    have h5 : Within T s0 s2 := by
      unfold s2
      refine State.wr_within pregs ?_
      exact h0'
    have h6 : Within T s0 s3 := by
      unfold s3
      refine State.askEnables_within pregs pprot ?_
      refine State.wrB_within pregs ?_
      exact h5
    clear_value s1 s2 s3 x4
    refine within_ite ?_ ?_
    · exact h5
    · exact within_upd h6 (tmx := .inl ptmx)

theorem State.gtestWrite_within {s : State} {data : ℕ} (pregs : Part.regs ∈ T) (pq91 : Part.q91 ∈ T) (ppwm : Part.pwm ∈ T) (ploop : Part.loop ∈ T) (pprot : Part.prot ∈ T) (prk : Part.rk ∈ T) (pscan : Part.scan ∈ T) (ptmx : Part.tmx ∈ T) (h0' : Within T s0 s) : Within T s0 (State.gtestWrite s data) := by
  unfold State.gtestWrite
  extract_lets s1 s2
  have h3 : Within T s0 s1 := by
    unfold s1
    refine within_ite ?_ ?_
    · exact h0'
    · refine State.wr_within pregs ?_
      exact h0'
  have h4 : Within T s0 s2 := by
    unfold s2
    refine within_ite ?_ ?_
    · refine State.endGateTest_within pregs pq91 ppwm ploop pprot prk pscan ptmx ?_
      exact h3
    · exact h3
  clear_value s1 s2
  refine within_ite ?_ ?_
  · refine State.testGo_within pregs pprot ptmx ?_
    exact h4
  · exact h4

theorem execGtestGo_within {who : Initiator} {phases : Fin 65536} {s : State} (pregs : Part.regs ∈ T) (paccErr : Part.accErr ∈ T) (pq91 : Part.q91 ∈ T) (ppwm : Part.pwm ∈ T) (ploop : Part.loop ∈ T) (pprot : Part.prot ∈ T) (phost : Part.host ∈ T) (prk : Part.rk ∈ T) (pscan : Part.scan ∈ T) (ptmx : Part.tmx ∈ T) (h2' : Within T s0 s) : ∃ u', (execGtestGo who phases s) = .next u' ∧ Within T s0 u' := by
  unfold execGtestGo
  refine ⟨_, rfl, ?_⟩
  refine State.asWrite_within pregs paccErr pq91 phost ?_ ?_
  · exact h2'
  · intro s1 h2
    refine State.gtestWrite_within pregs pq91 ppwm ploop pprot prk pscan ptmx ?_
    exact h2

theorem State.jtagWrite_within {s : State} {data : ℕ} (pregs : Part.regs ∈ T) (pq91 : Part.q91 ∈ T) (prk : Part.rk ∈ T) (pscan : Part.scan ∈ T) (ptmx : Part.tmx ∈ T) (h0' : Within T s0 s) : Within T s0 (State.jtagWrite s data) := by
  unfold State.jtagWrite
  refine within_ite ?_ ?_
  · refine State.lockPort_within pregs pq91 prk pscan ptmx ?_
    exact h0'
  · refine within_ite ?_ ?_
    · refine State.record_within pq91 ?_
      refine State.raise_within pregs pq91 prk pscan ?_
      refine State.wrB_within pregs ?_
      exact h0'
    · exact h0'

theorem execRelockCmd_within {who : Initiator} {s : State} (pregs : Part.regs ∈ T) (paccErr : Part.accErr ∈ T) (pq91 : Part.q91 ∈ T) (phost : Part.host ∈ T) (prk : Part.rk ∈ T) (pscan : Part.scan ∈ T) (ptmx : Part.tmx ∈ T) (h1' : Within T s0 s) : ∃ u', (execRelockCmd who s) = .next u' ∧ Within T s0 u' := by
  unfold execRelockCmd
  refine ⟨_, rfl, ?_⟩
  refine State.asWrite_within pregs paccErr pq91 phost ?_ ?_
  · exact h1'
  · intro s1 h2
    refine State.jtagWrite_within pregs pq91 prk pscan ptmx ?_
    exact h2

theorem execSvcTimeout_within {s : State} (pregs : Part.regs ∈ T) (pstaged : Part.staged ∈ T) (pshadow : Part.shadow ∈ T) (pout : Part.out ∈ T) (paccErr : Part.accErr ∈ T) (preadData : Part.readData ∈ T) (ptb : Part.tb ∈ T) (pcrown : Part.crown ∈ T) (pstg : Part.stg ∈ T) (pq91 : Part.q91 ∈ T) (ppwm : Part.pwm ∈ T) (ploop : Part.loop ∈ T) (ptrack : Part.track ∈ T) (pprot : Part.prot ∈ T) (phost : Part.host ∈ T) (prk : Part.rk ∈ T) (pscan : Part.scan ∈ T) (pimp : Part.imp ∈ T) (pest : Part.est ∈ T) (ptmx : Part.tmx ∈ T) (pdisp : Part.disp ∈ T) (peng : Part.eng ∈ T) (pringSt : Part.ringSt ∈ T) (pharv : Part.harv ∈ T) (pbal : Part.bal ∈ T) (ptherm : Part.therm ∈ T) (ptele : Part.tele ∈ T) (pnvm : Part.nvm ∈ T) (ptime : Part.time ∈ T) (pcan : Part.can ∈ T) (ppair : Part.pair ∈ T) (palm : Part.alm ∈ T) (h0' : Within T s0 s) : ∃ u', (execSvcTimeout s) = .next u' ∧ Within T s0 u' := by
  unfold execSvcTimeout
  refine ⟨_, rfl, ?_⟩
  refine within_ite ?_ ?_
  · refine State.resetOr_within pregs pstaged pshadow pout paccErr preadData ptb pcrown pstg pq91 ppwm ploop ptrack pprot phost prk pscan pimp pest ptmx pdisp peng pringSt pharv pbal ptherm ptele pnvm ptime pcan ppair palm ?_
    refine State.almDrain_within pregs pout pq91 prk pscan ppair palm ?_
    refine State.raise_within pregs pq91 prk pscan ?_
    refine State.record_within pq91 ?_
    exact h0'
  · exact h0'

theorem State.tap_within {s : State} {i : TapOp} (pfree : Part.free ∈ T) (ptmx : Part.tmx ∈ T) (h0' : Within T s0 s) : Within T s0 (State.tap s i) := by
  unfold State.tap
  extract_lets s1
  have h2 : ∀ a0 a1 a2 a3, Within T s0 a3 → Within T s0 (s1 a0 a1 a2 a3) := by
    intro x3 x4 x5 s6 h7
    unfold s1
    beta_reduce
    exact within_upd h7 (tmx := .inl ptmx)
  clear_value s1
  split
  · rename_i x8
    apply h2
    exact h0'
  · rename_i x9
    refine within_ite ?_ ?_
    · split
      rename_i s10 x11 s12 e13
      have h14 : Within T s0 s12 := by
        refine within_of_snd e13 ?_
        refine State.drawFree_within pfree ?_
        exact h0'
      apply h2
      exact h14
    · apply h2
      exact h0'
  · rename_i x15 x16
    refine within_ite ?_ ?_
    · split
      rename_i s17 x18 s19 e20
      have h21 : Within T s0 s19 := by
        refine within_of_snd e20 ?_
        refine State.drawFree_within pfree ?_
        exact h0'
      apply h2
      exact h21
    · apply h2
      exact h0'
  · rename_i x22
    apply h2
    exact h0'
  · rename_i x23
    apply h2
    exact h0'

theorem execTapInstruction_within {i : TapOp} {s : State} (pfree : Part.free ∈ T) (ptmx : Part.tmx ∈ T) (h1' : Within T s0 s) : ∃ u', (execTapInstruction i s) = .next u' ∧ Within T s0 u' := by
  unfold execTapInstruction
  refine ⟨_, rfl, ?_⟩
  refine State.tap_within pfree ptmx ?_
  exact h1'

theorem execTmxSelect_within {who : Initiator} {k : Fin 4} {sel : Byte} {s : State} (pregs : Part.regs ∈ T) (paccErr : Part.accErr ∈ T) (pq91 : Part.q91 ∈ T) (phost : Part.host ∈ T) (h3' : Within T s0 s) : ∃ u', (execTmxSelect who k sel s) = .next u' ∧ Within T s0 u' := by
  unfold execTmxSelect
  refine ⟨_, rfl, ?_⟩
  refine State.asWrite_within pregs paccErr pq91 phost ?_ ?_
  · exact h3'
  · intro s1 h2
    refine State.wr_within pregs ?_
    exact h2

theorem execUnlockCmd_within {who : Initiator} {key : Fin 65536} {s : State} (pregs : Part.regs ∈ T) (paccErr : Part.accErr ∈ T) (pq91 : Part.q91 ∈ T) (phost : Part.host ∈ T) (prk : Part.rk ∈ T) (pscan : Part.scan ∈ T) (ptmx : Part.tmx ∈ T) (h2' : Within T s0 s) : ∃ u', (execUnlockCmd who key s) = .next u' ∧ Within T s0 u' := by
  unfold execUnlockCmd
  refine ⟨_, rfl, ?_⟩
  refine State.asWrite_within pregs paccErr pq91 phost ?_ ?_
  · exact h2'
  · intro s1 h2
    refine State.jtagWrite_within pregs pq91 prk pscan ptmx ?_
    exact h2

theorem execUnlockExpiry_within {s : State} (pregs : Part.regs ∈ T) (pq91 : Part.q91 ∈ T) (prk : Part.rk ∈ T) (pscan : Part.scan ∈ T) (ptmx : Part.tmx ∈ T) (h0' : Within T s0 s) : ∃ u', (execUnlockExpiry s) = .next u' ∧ Within T s0 u' := by
  unfold execUnlockExpiry
  refine ⟨_, rfl, ?_⟩
  refine State.lockPort_within pregs pq91 prk pscan ptmx ?_
  exact h0'

/-! ## TimeFam -/

theorem execArmTrigger_within {who : Initiator} {k : Fin 8} {s : State} (pregs : Part.regs ∈ T) (paccErr : Part.accErr ∈ T) (pq91 : Part.q91 ∈ T) (phost : Part.host ∈ T) (prk : Part.rk ∈ T) (pscan : Part.scan ∈ T) (ptime : Part.time ∈ T) (h2' : Within T s0 s) : ∃ u', (execArmTrigger who k s) = .next u' ∧ Within T s0 u' := by
  unfold execArmTrigger
  refine ⟨_, rfl, ?_⟩
  refine State.asWrite_within pregs paccErr pq91 phost ?_ ?_
  · exact h2'
  · intro s1 h2
    refine State.trigCtl_within pregs pq91 prk pscan ptime ?_
    exact h2

theorem execCaptureEdge_within {k : Fin 8} {rise : Bool} {held : ℕ} {dev : ℤ} {s : State} (pregs : Part.regs ∈ T) (pq91 : Part.q91 ∈ T) (prk : Part.rk ∈ T) (pscan : Part.scan ∈ T) (ptime : Part.time ∈ T) (h4' : Within T s0 s) : ∃ u', (execCaptureEdge k rise held dev s) = .next u' ∧ Within T s0 u' := by
  unfold execCaptureEdge
  extract_lets s1
  rename_i x2
  clear_value s1 x2
  refine out_ite ?_ ?_
  · refine ⟨_, rfl, ?_⟩
    refine State.captureEdge_within pregs pq91 prk pscan ptime ?_
    exact h4'
  · refine ⟨_, rfl, ?_⟩
    exact h4'

theorem State.crossCheck_within {s : State} {f : ℕ} (pregs : Part.regs ∈ T) (pshadow : Part.shadow ∈ T) (pout : Part.out ∈ T) (pcrown : Part.crown ∈ T) (pstg : Part.stg ∈ T) (pq91 : Part.q91 ∈ T) (ppwm : Part.pwm ∈ T) (ploop : Part.loop ∈ T) (ptrack : Part.track ∈ T) (pprot : Part.prot ∈ T) (prk : Part.rk ∈ T) (pscan : Part.scan ∈ T) (pimp : Part.imp ∈ T) (pest : Part.est ∈ T) (ptmx : Part.tmx ∈ T) (pringSt : Part.ringSt ∈ T) (pbal : Part.bal ∈ T) (ptele : Part.tele ∈ T) (pnvm : Part.nvm ∈ T) (ppair : Part.pair ∈ T) (h0' : Within T s0 s) : Within T s0 (State.crossCheck s f) := by
  unfold State.crossCheck
  extract_lets s1
  clear_value s1
  refine within_ite ?_ ?_
  · exact h0'
  · refine State.islandJudge_within pregs pq91 pprot ?_ ?_
    · exact h0'
    · intro s2 h3
      refine State.relinquishOr_within pregs pshadow pout pcrown pstg pq91 ppwm ploop ptrack pprot prk pscan pimp pringSt pbal ppair ?_ ?_
      · refine State.raise_within pregs pq91 prk pscan ?_
        refine State.lasting_within pregs ?_
        exact h3
      · intro s4 h5
        refine State.react_within pregs pshadow pout pcrown pstg pq91 ppwm ploop ptrack pprot prk pscan pimp pest ptmx pringSt pbal ptele pnvm ppair ?_
        exact h5

theorem State.judgeClock_within {s : State} {hz : List ℕ} {locked : ℕ} {d : ℕ} (pregs : Part.regs ∈ T) (pshadow : Part.shadow ∈ T) (pout : Part.out ∈ T) (pcrown : Part.crown ∈ T) (pstg : Part.stg ∈ T) (pq91 : Part.q91 ∈ T) (ppwm : Part.pwm ∈ T) (ploop : Part.loop ∈ T) (ptrack : Part.track ∈ T) (pprot : Part.prot ∈ T) (prk : Part.rk ∈ T) (pscan : Part.scan ∈ T) (pimp : Part.imp ∈ T) (pest : Part.est ∈ T) (ptmx : Part.tmx ∈ T) (pringSt : Part.ringSt ∈ T) (pbal : Part.bal ∈ T) (ptele : Part.tele ∈ T) (pnvm : Part.nvm ∈ T) (ptime : Part.time ∈ T) (ppair : Part.pair ∈ T) (h0' : Within T s0 s) : Within T s0 (State.judgeClock s hz locked d) := by
  unfold State.judgeClock
  extract_lets s1 s2 s3 s4 s5
  rename_i s6 s7 s8
  have h9 : ∀ a0 a1, Within T s0 a0 → Within T s0 (s5 a0 a1) := by
    intro s10 x11 h12
    unfold s5
    beta_reduce
    exact within_upd h12 (time := .inl ptime)
  clear_value s5
  have h13 : Within T s0 s6 := by
    unfold s6
    refine State.wrBit_within pregs ?_
    exact h0'
  have h14 : Within T s0 s7 := by
    unfold s7
    refine State.raise_within pregs pq91 prk pscan ?_
    refine State.wrBit_within pregs ?_
    apply h9
    exact h0'
  have h15 : Within T s0 s8 := by
    unfold s8
    refine State.raise_within pregs pq91 prk pscan ?_
    refine State.lasting_within pregs ?_
    exact h14
  clear_value s1 s2 s3 s4 s6 s7 s8
  refine within_ite ?_ ?_
  · refine within_ite ?_ ?_
    · refine State.voidCheck_within pregs ?_
      apply h9
      exact h0'
    · exact h0'
  · refine within_ite ?_ ?_
    · refine within_ite ?_ ?_
      · exact h0'
      · refine within_ite ?_ ?_
        · exact h13
        · refine State.clearCond_within pregs pprot ?_
          exact h13
    · refine within_ite ?_ ?_
      · refine within_ite ?_ ?_
        · refine State.retryPass_within pregs pq91 ?_
          apply h9
          exact h0'
        · exact h0'
      · refine within_ite ?_ ?_
        · apply h9
          exact h0'
        · refine within_ite ?_ ?_
          · refine State.lastingW_within pregs pq91 ?_
            exact h14
          · refine State.relinquishOr_within pregs pshadow pout pcrown pstg pq91 ppwm ploop ptrack pprot prk pscan pimp pringSt pbal ppair ?_ ?_
            · exact h15
            · intro s16 h17
              refine State.react_within pregs pshadow pout pcrown pstg pq91 ppwm ploop ptrack pprot prk pscan pimp pest ptmx pringSt pbal ptele pnvm ppair ?_
              refine State.addCond_within pregs pprot ?_
              exact h17

theorem execClockMonitorWindow_within {hz : List ℕ} {locked : Fin 8} {s : State} (pregs : Part.regs ∈ T) (pshadow : Part.shadow ∈ T) (pout : Part.out ∈ T) (pcrown : Part.crown ∈ T) (pstg : Part.stg ∈ T) (pq91 : Part.q91 ∈ T) (ppwm : Part.pwm ∈ T) (ploop : Part.loop ∈ T) (ptrack : Part.track ∈ T) (pprot : Part.prot ∈ T) (prk : Part.rk ∈ T) (pscan : Part.scan ∈ T) (pimp : Part.imp ∈ T) (pest : Part.est ∈ T) (ptmx : Part.tmx ∈ T) (pringSt : Part.ringSt ∈ T) (pbal : Part.bal ∈ T) (ptele : Part.tele ∈ T) (pnvm : Part.nvm ∈ T) (ptime : Part.time ∈ T) (ppair : Part.pair ∈ T) (h2' : Within T s0 s) : ∃ u', (execClockMonitorWindow hz locked s) = .next u' ∧ Within T s0 u' := by
  unfold execClockMonitorWindow
  extract_lets s1 s2
  have h3 : Within T s0 s1 := by
    unfold s1
    refine within_foldl ?_ ?_
    · exact h2'
    · intro s4 x5 h6
      refine State.wr_within pregs ?_
      exact h6
  have h7 : Within T s0 s2 := by
    unfold s2
    refine State.wr_within pregs ?_
    exact h3
  clear_value s1 s2
  refine ⟨_, rfl, ?_⟩
  refine State.crossCheck_within pregs pshadow pout pcrown pstg pq91 ppwm ploop ptrack pprot prk pscan pimp pest ptmx pringSt pbal ptele pnvm ppair ?_
  refine within_foldl ?_ ?_
  · exact h7
  · intro s8 x9 h10
    refine State.judgeClock_within pregs pshadow pout pcrown pstg pq91 ppwm ploop ptrack pprot prk pscan pimp pest ptmx pringSt pbal ptele pnvm ptime ppair ?_
    exact h10

theorem execDisarmTrigger_within {who : Initiator} {k : Fin 8} {s : State} (pregs : Part.regs ∈ T) (paccErr : Part.accErr ∈ T) (pq91 : Part.q91 ∈ T) (phost : Part.host ∈ T) (prk : Part.rk ∈ T) (pscan : Part.scan ∈ T) (ptime : Part.time ∈ T) (h2' : Within T s0 s) : ∃ u', (execDisarmTrigger who k s) = .next u' ∧ Within T s0 u' := by
  unfold execDisarmTrigger
  refine ⟨_, rfl, ?_⟩
  refine State.asWrite_within pregs paccErr pq91 phost ?_ ?_
  · exact h2'
  · intro s1 h2
    refine State.trigCtl_within pregs pq91 prk pscan ptime ?_
    exact h2

theorem execLeadingEdge_within {k : Fin 8} {s : State} (pregs : Part.regs ∈ T) (ptime : Part.time ∈ T) (h1' : Within T s0 s) : ∃ u', (execLeadingEdge k s) = .next u' ∧ Within T s0 u' := by
  unfold execLeadingEdge
  extract_lets s1
  clear_value s1
  refine out_ite ?_ ?_
  · refine ⟨_, rfl, ?_⟩
    refine State.leadingEdge_within pregs ptime ?_
    exact h1'
  · refine ⟨_, rfl, ?_⟩
    exact h1'

theorem execNsRead_within {who : Initiator} {n : Fin 4} {s : State} (pregs : Part.regs ∈ T) (paccErr : Part.accErr ∈ T) (preadData : Part.readData ∈ T) (pq91 : Part.q91 ∈ T) (phost : Part.host ∈ T) (h2' : Within T s0 s) : ∃ u', (execNsRead who n s) = .next u' ∧ Within T s0 u' := by
  unfold execNsRead
  refine ⟨_, rfl, ?_⟩
  refine State.asRead_within pregs paccErr preadData pq91 phost ?_ ?_
  · exact h2'
  · intro s1 h2
    refine State.nsRead_within pregs preadData ?_
    exact h2

theorem State.popStamp_within {s : State} {k : ℕ} (pregs : Part.regs ∈ T) (ptime : Part.time ∈ T) (h0' : Within T s0 s) : Within T s0 (State.popStamp s k) := by
  unfold State.popStamp
  refine State.setStamps_within pregs ptime ?_
  exact h0'

theorem execPopCapture_within {who : Initiator} {k : Fin 8} {s : State} (pregs : Part.regs ∈ T) (paccErr : Part.accErr ∈ T) (pq91 : Part.q91 ∈ T) (phost : Part.host ∈ T) (ptime : Part.time ∈ T) (h2' : Within T s0 s) : ∃ u', (execPopCapture who k s) = .next u' ∧ Within T s0 u' := by
  unfold execPopCapture
  refine ⟨_, rfl, ?_⟩
  refine State.asWrite_within pregs paccErr pq91 phost ?_ ?_
  · exact h2'
  · intro s1 h2
    refine State.popStamp_within pregs ptime ?_
    exact h2

theorem execSetCmd_within {who : Initiator} {n : Fin 4} {s : State} (pregs : Part.regs ∈ T) (pshadow : Part.shadow ∈ T) (paccErr : Part.accErr ∈ T) (ptb : Part.tb ∈ T) (pstg : Part.stg ∈ T) (pq91 : Part.q91 ∈ T) (phost : Part.host ∈ T) (prk : Part.rk ∈ T) (pscan : Part.scan ∈ T) (pest : Part.est ∈ T) (ptime : Part.time ∈ T) (pcan : Part.can ∈ T) (h2' : Within T s0 s) : ∃ u', (execSetCmd who n s) = .next u' ∧ Within T s0 u' := by
  unfold execSetCmd
  refine ⟨_, rfl, ?_⟩
  refine State.asWrite_within pregs paccErr pq91 phost ?_ ?_
  · exact h2'
  · intro s1 h2
    refine State.timeCmd_within pregs pshadow paccErr ptb pstg pq91 phost prk pscan pest ptime pcan ?_
    exact h2

theorem execShiftCmd_within {who : Initiator} {n : Fin 4} {s : State} (pregs : Part.regs ∈ T) (pshadow : Part.shadow ∈ T) (paccErr : Part.accErr ∈ T) (ptb : Part.tb ∈ T) (pstg : Part.stg ∈ T) (pq91 : Part.q91 ∈ T) (phost : Part.host ∈ T) (prk : Part.rk ∈ T) (pscan : Part.scan ∈ T) (pest : Part.est ∈ T) (ptime : Part.time ∈ T) (pcan : Part.can ∈ T) (h2' : Within T s0 s) : ∃ u', (execShiftCmd who n s) = .next u' ∧ Within T s0 u' := by
  unfold execShiftCmd
  refine ⟨_, rfl, ?_⟩
  refine State.asWrite_within pregs paccErr pq91 phost ?_ ?_
  · exact h2'
  · intro s1 h2
    refine State.timeCmd_within pregs pshadow paccErr ptb pstg pq91 phost prk pscan pest ptime pcan ?_
    exact h2

theorem execSnapCmd_within {who : Initiator} {s : State} (pregs : Part.regs ∈ T) (paccErr : Part.accErr ∈ T) (pq91 : Part.q91 ∈ T) (phost : Part.host ∈ T) (h1' : Within T s0 s) : ∃ u', (execSnapCmd who s) = .next u' ∧ Within T s0 u' := by
  unfold execSnapCmd
  refine ⟨_, rfl, ?_⟩
  refine State.asWrite_within pregs paccErr pq91 phost ?_ ?_
  · exact h1'
  · intro s1 h2
    refine State.snap_within pregs ?_
    exact h2

theorem State.writeRate2_within {s : State} {data : ℕ} (pregs : Part.regs ∈ T) (h0' : Within T s0 s) : Within T s0 (State.writeRate2 s data) := by
  unfold State.writeRate2
  refine State.wrI_within pregs ?_
  exact h0'

theorem execTb2RateWrite_within {who : Initiator} {rate : BitVec 32} {s : State} (pregs : Part.regs ∈ T) (paccErr : Part.accErr ∈ T) (pq91 : Part.q91 ∈ T) (phost : Part.host ∈ T) (h2' : Within T s0 s) : ∃ u', (execTb2RateWrite who rate s) = .next u' ∧ Within T s0 u' := by
  unfold execTb2RateWrite
  refine ⟨_, rfl, ?_⟩
  refine State.asWrite_within pregs paccErr pq91 phost ?_ ?_
  · exact h2'
  · intro s1 h2
    refine State.writeRate2_within pregs ?_
    exact h2

theorem execTrailingEdge_within {k : Fin 8} {s : State} (pregs : Part.regs ∈ T) (pq91 : Part.q91 ∈ T) (prk : Part.rk ∈ T) (pscan : Part.scan ∈ T) (ptime : Part.time ∈ T) (h1' : Within T s0 s) : ∃ u', (execTrailingEdge k s) = .next u' ∧ Within T s0 u' := by
  unfold execTrailingEdge
  extract_lets s1
  clear_value s1
  refine out_ite ?_ ?_
  · refine out_ite ?_ ?_
    · refine ⟨_, rfl, ?_⟩
      refine State.trigDone_within pregs pq91 prk pscan ptime ?_
      exact h1'
    · refine ⟨_, rfl, ?_⟩
      refine State.setTrig_within ptime ?_
      exact h1'
  · refine ⟨_, rfl, ?_⟩
    exact h1'

theorem State.clearXstat_within {s : State} (pregs : Part.regs ∈ T) (h0' : Within T s0 s) : Within T s0 (State.clearXstat s) := by
  unfold State.clearXstat
  refine State.wr_within pregs ?_
  refine State.wr_within pregs ?_
  exact h0'

theorem execXstatClear_within {who : Initiator} {s : State} (pregs : Part.regs ∈ T) (paccErr : Part.accErr ∈ T) (pq91 : Part.q91 ∈ T) (phost : Part.host ∈ T) (h1' : Within T s0 s) : ∃ u', (execXstatClear who s) = .next u' ∧ Within T s0 u' := by
  unfold execXstatClear
  refine ⟨_, rfl, ?_⟩
  refine State.asWrite_within pregs paccErr pq91 phost ?_ ?_
  · exact h1'
  · intro s1 h2
    refine State.clearXstat_within pregs ?_
    exact h2

/-! ## UpdateFam -/

theorem execActivateCmd_within {who : Initiator} {act : Fin 4} {key : Fin 65536} {s : State} (pregs : Part.regs ∈ T) (pstaged : Part.staged ∈ T) (pshadow : Part.shadow ∈ T) (pout : Part.out ∈ T) (paccErr : Part.accErr ∈ T) (preadData : Part.readData ∈ T) (ptb : Part.tb ∈ T) (pcrown : Part.crown ∈ T) (pstg : Part.stg ∈ T) (pq91 : Part.q91 ∈ T) (ppwm : Part.pwm ∈ T) (ploop : Part.loop ∈ T) (ptrack : Part.track ∈ T) (pprot : Part.prot ∈ T) (phost : Part.host ∈ T) (prk : Part.rk ∈ T) (pscan : Part.scan ∈ T) (pimp : Part.imp ∈ T) (pest : Part.est ∈ T) (ptmx : Part.tmx ∈ T) (pdisp : Part.disp ∈ T) (peng : Part.eng ∈ T) (pringSt : Part.ringSt ∈ T) (pharv : Part.harv ∈ T) (pbal : Part.bal ∈ T) (ptherm : Part.therm ∈ T) (ptele : Part.tele ∈ T) (pnvm : Part.nvm ∈ T) (ptime : Part.time ∈ T) (pcan : Part.can ∈ T) (ppair : Part.pair ∈ T) (palm : Part.alm ∈ T) (h3' : Within T s0 s) : ∃ u', (execActivateCmd who act key s) = .next u' ∧ Within T s0 u' := by
  unfold execActivateCmd
  refine ⟨_, rfl, ?_⟩
  refine State.asWrite_within pregs paccErr pq91 phost ?_ ?_
  · exact h3'
  · intro s1 h2
    refine State.updateCmd_within pregs pstaged pshadow pout paccErr preadData ptb pcrown pstg pq91 ppwm ploop ptrack pprot phost prk pscan pimp pest ptmx pdisp peng pringSt pharv pbal ptherm ptele pnvm ptime pcan ppair palm ?_
    exact h2

theorem execBlockOp_within {who : Initiator} {fails : Fin 3} {s : State} (pregs : Part.regs ∈ T) (pstaged : Part.staged ∈ T) (pshadow : Part.shadow ∈ T) (pout : Part.out ∈ T) (paccErr : Part.accErr ∈ T) (preadData : Part.readData ∈ T) (ptb : Part.tb ∈ T) (pcrown : Part.crown ∈ T) (pstg : Part.stg ∈ T) (pq91 : Part.q91 ∈ T) (ppwm : Part.pwm ∈ T) (ploop : Part.loop ∈ T) (ptrack : Part.track ∈ T) (pprot : Part.prot ∈ T) (phost : Part.host ∈ T) (prk : Part.rk ∈ T) (pscan : Part.scan ∈ T) (pimp : Part.imp ∈ T) (pest : Part.est ∈ T) (ptmx : Part.tmx ∈ T) (pdisp : Part.disp ∈ T) (peng : Part.eng ∈ T) (pringSt : Part.ringSt ∈ T) (pharv : Part.harv ∈ T) (pbal : Part.bal ∈ T) (ptherm : Part.therm ∈ T) (ptele : Part.tele ∈ T) (pnvm : Part.nvm ∈ T) (ptime : Part.time ∈ T) (pcan : Part.can ∈ T) (ppair : Part.pair ∈ T) (palm : Part.alm ∈ T) (h2' : Within T s0 s) : ∃ u', (execBlockOp who fails s) = .next u' ∧ Within T s0 u' := by
  unfold execBlockOp
  refine ⟨_, rfl, ?_⟩
  refine State.asWrite_within pregs paccErr pq91 phost ?_ ?_
  · exact h2'
  · intro s1 h2
    refine State.updateCmd_within pregs pstaged pshadow pout paccErr preadData ptb pcrown pstg pq91 ppwm ploop ptrack pprot phost prk pscan pimp pest ptmx pdisp peng pringSt pharv pbal ptherm ptele pnvm ptime pcan ppair palm ?_
    exact h2

theorem execClassLStoreWrite_within {s : State} (pnvm : Part.nvm ∈ T) (h0' : Within T s0 s) : ∃ u', (execClassLStoreWrite s) = .next u' ∧ Within T s0 u' := by
  unfold execClassLStoreWrite
  refine ⟨_, rfl, ?_⟩
  refine State.storeLregs_within pnvm ?_
  exact h0'

theorem execConfirmCmd_within {who : Initiator} {key : Fin 65536} {s : State} (pregs : Part.regs ∈ T) (pstaged : Part.staged ∈ T) (pshadow : Part.shadow ∈ T) (pout : Part.out ∈ T) (paccErr : Part.accErr ∈ T) (preadData : Part.readData ∈ T) (ptb : Part.tb ∈ T) (pcrown : Part.crown ∈ T) (pstg : Part.stg ∈ T) (pq91 : Part.q91 ∈ T) (ppwm : Part.pwm ∈ T) (ploop : Part.loop ∈ T) (ptrack : Part.track ∈ T) (pprot : Part.prot ∈ T) (phost : Part.host ∈ T) (prk : Part.rk ∈ T) (pscan : Part.scan ∈ T) (pimp : Part.imp ∈ T) (pest : Part.est ∈ T) (ptmx : Part.tmx ∈ T) (pdisp : Part.disp ∈ T) (peng : Part.eng ∈ T) (pringSt : Part.ringSt ∈ T) (pharv : Part.harv ∈ T) (pbal : Part.bal ∈ T) (ptherm : Part.therm ∈ T) (ptele : Part.tele ∈ T) (pnvm : Part.nvm ∈ T) (ptime : Part.time ∈ T) (pcan : Part.can ∈ T) (ppair : Part.pair ∈ T) (palm : Part.alm ∈ T) (h2' : Within T s0 s) : ∃ u', (execConfirmCmd who key s) = .next u' ∧ Within T s0 u' := by
  unfold execConfirmCmd
  refine ⟨_, rfl, ?_⟩
  refine State.asWrite_within pregs paccErr pq91 phost ?_ ?_
  · exact h2'
  · intro s1 h2
    refine State.updateCmd_within pregs pstaged pshadow pout paccErr preadData ptb pcrown pstg pq91 ppwm ploop ptrack pprot phost prk pscan pimp pest ptmx pdisp peng pringSt pharv pbal ptherm ptele pnvm ptime pcan ppair palm ?_
    exact h2

theorem execConfirmWindowExpiry_within {s : State} (pregs : Part.regs ∈ T) (pstaged : Part.staged ∈ T) (pshadow : Part.shadow ∈ T) (pout : Part.out ∈ T) (paccErr : Part.accErr ∈ T) (preadData : Part.readData ∈ T) (ptb : Part.tb ∈ T) (pcrown : Part.crown ∈ T) (pstg : Part.stg ∈ T) (pq91 : Part.q91 ∈ T) (ppwm : Part.pwm ∈ T) (ploop : Part.loop ∈ T) (ptrack : Part.track ∈ T) (pprot : Part.prot ∈ T) (phost : Part.host ∈ T) (prk : Part.rk ∈ T) (pscan : Part.scan ∈ T) (pimp : Part.imp ∈ T) (pest : Part.est ∈ T) (ptmx : Part.tmx ∈ T) (pdisp : Part.disp ∈ T) (peng : Part.eng ∈ T) (pringSt : Part.ringSt ∈ T) (pharv : Part.harv ∈ T) (pbal : Part.bal ∈ T) (ptherm : Part.therm ∈ T) (ptele : Part.tele ∈ T) (pnvm : Part.nvm ∈ T) (ptime : Part.time ∈ T) (pcan : Part.can ∈ T) (ppair : Part.pair ∈ T) (palm : Part.alm ∈ T) (h0' : Within T s0 s) : ∃ u', (execConfirmWindowExpiry s) = .next u' ∧ Within T s0 u' := by
  unfold execConfirmWindowExpiry
  refine ⟨_, rfl, ?_⟩
  refine State.updFallback_within pregs pstaged pshadow pout paccErr preadData ptb pcrown pstg pq91 ppwm ploop ptrack pprot phost prk pscan pimp pest ptmx pdisp peng pringSt pharv pbal ptherm ptele pnvm ptime pcan ppair palm ?_
  exact h0'

theorem execConfirmWindowSave_within {s : State} (pregs : Part.regs ∈ T) (pnvm : Part.nvm ∈ T) (h0' : Within T s0 s) : ∃ u', (execConfirmWindowSave s) = .next u' ∧ Within T s0 u' := by
  unfold execConfirmWindowSave
  refine ⟨_, rfl, ?_⟩
  refine within_ite ?_ ?_
  · refine State.showWindow_within pregs ?_
    exact within_upd h0' (nvm := .inl pnvm)
  · exact h0'

theorem execConfirmation_within {s : State} (pregs : Part.regs ∈ T) (pq91 : Part.q91 ∈ T) (prk : Part.rk ∈ T) (pscan : Part.scan ∈ T) (pnvm : Part.nvm ∈ T) (h0' : Within T s0 s) : ∃ u', (execConfirmation s) = .next u' ∧ Within T s0 u' := by
  unfold execConfirmation
  refine ⟨_, rfl, ?_⟩
  refine within_ite ?_ ?_
  · refine State.confirm_within pregs pq91 prk pscan pnvm ?_
    exact h0'
  · exact h0'

theorem execDisarmCmd_within {who : Initiator} {s : State} (pregs : Part.regs ∈ T) (pstaged : Part.staged ∈ T) (pshadow : Part.shadow ∈ T) (pout : Part.out ∈ T) (paccErr : Part.accErr ∈ T) (preadData : Part.readData ∈ T) (ptb : Part.tb ∈ T) (pcrown : Part.crown ∈ T) (pstg : Part.stg ∈ T) (pq91 : Part.q91 ∈ T) (ppwm : Part.pwm ∈ T) (ploop : Part.loop ∈ T) (ptrack : Part.track ∈ T) (pprot : Part.prot ∈ T) (phost : Part.host ∈ T) (prk : Part.rk ∈ T) (pscan : Part.scan ∈ T) (pimp : Part.imp ∈ T) (pest : Part.est ∈ T) (ptmx : Part.tmx ∈ T) (pdisp : Part.disp ∈ T) (peng : Part.eng ∈ T) (pringSt : Part.ringSt ∈ T) (pharv : Part.harv ∈ T) (pbal : Part.bal ∈ T) (ptherm : Part.therm ∈ T) (ptele : Part.tele ∈ T) (pnvm : Part.nvm ∈ T) (ptime : Part.time ∈ T) (pcan : Part.can ∈ T) (ppair : Part.pair ∈ T) (palm : Part.alm ∈ T) (h1' : Within T s0 s) : ∃ u', (execDisarmCmd who s) = .next u' ∧ Within T s0 u' := by
  unfold execDisarmCmd
  refine ⟨_, rfl, ?_⟩
  refine State.asWrite_within pregs paccErr pq91 phost ?_ ?_
  · exact h1'
  · intro s1 h2
    refine State.updateCmd_within pregs pstaged pshadow pout paccErr preadData ptb pcrown pstg pq91 ppwm ploop ptrack pprot phost prk pscan pimp pest ptmx pdisp peng pringSt pharv pbal ptherm ptele pnvm ptime pcan ppair palm ?_
    exact h2

theorem execFinishOp_within {who : Initiator} {s : State} (pregs : Part.regs ∈ T) (pstaged : Part.staged ∈ T) (pshadow : Part.shadow ∈ T) (pout : Part.out ∈ T) (paccErr : Part.accErr ∈ T) (preadData : Part.readData ∈ T) (ptb : Part.tb ∈ T) (pcrown : Part.crown ∈ T) (pstg : Part.stg ∈ T) (pq91 : Part.q91 ∈ T) (ppwm : Part.pwm ∈ T) (ploop : Part.loop ∈ T) (ptrack : Part.track ∈ T) (pprot : Part.prot ∈ T) (phost : Part.host ∈ T) (prk : Part.rk ∈ T) (pscan : Part.scan ∈ T) (pimp : Part.imp ∈ T) (pest : Part.est ∈ T) (ptmx : Part.tmx ∈ T) (pdisp : Part.disp ∈ T) (peng : Part.eng ∈ T) (pringSt : Part.ringSt ∈ T) (pharv : Part.harv ∈ T) (pbal : Part.bal ∈ T) (ptherm : Part.therm ∈ T) (ptele : Part.tele ∈ T) (pnvm : Part.nvm ∈ T) (ptime : Part.time ∈ T) (pcan : Part.can ∈ T) (ppair : Part.pair ∈ T) (palm : Part.alm ∈ T) (h1' : Within T s0 s) : ∃ u', (execFinishOp who s) = .next u' ∧ Within T s0 u' := by
  unfold execFinishOp
  refine ⟨_, rfl, ?_⟩
  refine State.asWrite_within pregs paccErr pq91 phost ?_ ?_
  · exact h1'
  · intro s1 h2
    refine State.updateCmd_within pregs pstaged pshadow pout paccErr preadData ptb pcrown pstg pq91 ppwm ploop ptrack pprot phost prk pscan pimp pest ptmx pdisp peng pringSt pharv pbal ptherm ptele pnvm ptime pcan ppair palm ?_
    exact h2

theorem execHeaderOp_within {who : Initiator} {s : State} (pregs : Part.regs ∈ T) (pstaged : Part.staged ∈ T) (pshadow : Part.shadow ∈ T) (pout : Part.out ∈ T) (paccErr : Part.accErr ∈ T) (preadData : Part.readData ∈ T) (ptb : Part.tb ∈ T) (pcrown : Part.crown ∈ T) (pstg : Part.stg ∈ T) (pq91 : Part.q91 ∈ T) (ppwm : Part.pwm ∈ T) (ploop : Part.loop ∈ T) (ptrack : Part.track ∈ T) (pprot : Part.prot ∈ T) (phost : Part.host ∈ T) (prk : Part.rk ∈ T) (pscan : Part.scan ∈ T) (pimp : Part.imp ∈ T) (pest : Part.est ∈ T) (ptmx : Part.tmx ∈ T) (pdisp : Part.disp ∈ T) (peng : Part.eng ∈ T) (pringSt : Part.ringSt ∈ T) (pharv : Part.harv ∈ T) (pbal : Part.bal ∈ T) (ptherm : Part.therm ∈ T) (ptele : Part.tele ∈ T) (pnvm : Part.nvm ∈ T) (ptime : Part.time ∈ T) (pcan : Part.can ∈ T) (ppair : Part.pair ∈ T) (palm : Part.alm ∈ T) (h1' : Within T s0 s) : ∃ u', (execHeaderOp who s) = .next u' ∧ Within T s0 u' := by
  unfold execHeaderOp
  refine ⟨_, rfl, ?_⟩
  refine State.asWrite_within pregs paccErr pq91 phost ?_ ?_
  · exact h1'
  · intro s1 h2
    refine State.updateCmd_within pregs pstaged pshadow pout paccErr preadData ptb pcrown pstg pq91 ppwm ploop ptrack pprot phost prk pscan pimp pest ptmx pdisp peng pringSt pharv pbal ptherm ptele pnvm ptime pcan ppair palm ?_
    exact h2

theorem execJubileePoint_within {late : Bool} {s : State} (pregs : Part.regs ∈ T) (pstaged : Part.staged ∈ T) (pshadow : Part.shadow ∈ T) (pout : Part.out ∈ T) (paccErr : Part.accErr ∈ T) (preadData : Part.readData ∈ T) (ptb : Part.tb ∈ T) (pcrown : Part.crown ∈ T) (pstg : Part.stg ∈ T) (pq91 : Part.q91 ∈ T) (ppwm : Part.pwm ∈ T) (ploop : Part.loop ∈ T) (ptrack : Part.track ∈ T) (pprot : Part.prot ∈ T) (phost : Part.host ∈ T) (prk : Part.rk ∈ T) (pscan : Part.scan ∈ T) (pimp : Part.imp ∈ T) (pest : Part.est ∈ T) (ptmx : Part.tmx ∈ T) (pdisp : Part.disp ∈ T) (peng : Part.eng ∈ T) (pringSt : Part.ringSt ∈ T) (pharv : Part.harv ∈ T) (pbal : Part.bal ∈ T) (ptherm : Part.therm ∈ T) (ptele : Part.tele ∈ T) (pnvm : Part.nvm ∈ T) (ptime : Part.time ∈ T) (pcan : Part.can ∈ T) (ppair : Part.pair ∈ T) (palm : Part.alm ∈ T) (h1' : Within T s0 s) : ∃ u', (execJubileePoint late s) = .next u' ∧ Within T s0 u' := by
  unfold execJubileePoint
  refine ⟨_, rfl, ?_⟩
  refine State.jubilee_within pregs pstaged pshadow pout paccErr preadData ptb pcrown pstg pq91 ppwm ploop ptrack pprot phost prk pscan pimp pest ptmx pdisp peng pringSt pharv pbal ptherm ptele pnvm ptime pcan ppair palm ?_
  exact h1'

theorem execJubileePrepare_within {s : State} (pregs : Part.regs ∈ T) (pq91 : Part.q91 ∈ T) (prk : Part.rk ∈ T) (pscan : Part.scan ∈ T) (pest : Part.est ∈ T) (ptele : Part.tele ∈ T) (pnvm : Part.nvm ∈ T) (h0' : Within T s0 s) : ∃ u', (execJubileePrepare s) = .next u' ∧ Within T s0 u' := by
  unfold execJubileePrepare
  refine ⟨_, rfl, ?_⟩
  refine within_ite ?_ ?_
  · extract_lets s1
    rename_i x2
    have h3 : Within T s0 s1 := by
      unfold s1
      refine State.storeAll_within pregs pq91 prk pscan pest ptele pnvm ?_
      exact h0'
    clear_value s1 x2
    exact within_upd h3 (nvm := .inl pnvm)
  · exact h0'

theorem execKeyWrite_within {who : Initiator} {slot : Fin 4} {s : State} (pregs : Part.regs ∈ T) (paccErr : Part.accErr ∈ T) (pq91 : Part.q91 ∈ T) (phost : Part.host ∈ T) (prk : Part.rk ∈ T) (pscan : Part.scan ∈ T) (pnvm : Part.nvm ∈ T) (h2' : Within T s0 s) : ∃ u', (execKeyWrite who slot s) = .next u' ∧ Within T s0 u' := by
  unfold execKeyWrite
  refine ⟨_, rfl, ?_⟩
  refine State.asWrite_within pregs paccErr pq91 phost ?_ ?_
  · exact h2'
  · intro s1 h2
    refine State.keySel_within pregs pq91 prk pscan pnvm ?_
    exact h2

theorem execTableOp_within {who : Initiator} {s : State} (pregs : Part.regs ∈ T) (pstaged : Part.staged ∈ T) (pshadow : Part.shadow ∈ T) (pout : Part.out ∈ T) (paccErr : Part.accErr ∈ T) (preadData : Part.readData ∈ T) (ptb : Part.tb ∈ T) (pcrown : Part.crown ∈ T) (pstg : Part.stg ∈ T) (pq91 : Part.q91 ∈ T) (ppwm : Part.pwm ∈ T) (ploop : Part.loop ∈ T) (ptrack : Part.track ∈ T) (pprot : Part.prot ∈ T) (phost : Part.host ∈ T) (prk : Part.rk ∈ T) (pscan : Part.scan ∈ T) (pimp : Part.imp ∈ T) (pest : Part.est ∈ T) (ptmx : Part.tmx ∈ T) (pdisp : Part.disp ∈ T) (peng : Part.eng ∈ T) (pringSt : Part.ringSt ∈ T) (pharv : Part.harv ∈ T) (pbal : Part.bal ∈ T) (ptherm : Part.therm ∈ T) (ptele : Part.tele ∈ T) (pnvm : Part.nvm ∈ T) (ptime : Part.time ∈ T) (pcan : Part.can ∈ T) (ppair : Part.pair ∈ T) (palm : Part.alm ∈ T) (h1' : Within T s0 s) : ∃ u', (execTableOp who s) = .next u' ∧ Within T s0 u' := by
  unfold execTableOp
  refine ⟨_, rfl, ?_⟩
  refine State.asWrite_within pregs paccErr pq91 phost ?_ ?_
  · exact h1'
  · intro s1 h2
    refine State.updateCmd_within pregs pstaged pshadow pout paccErr preadData ptb pcrown pstg pq91 ppwm ploop ptrack pprot phost prk pscan pimp pest ptmx pdisp peng pringSt pharv pbal ptherm ptele pnvm ptime pcan ppair palm ?_
    exact h2

theorem execUpdateAbort_within {who : Initiator} {s : State} (pregs : Part.regs ∈ T) (pstaged : Part.staged ∈ T) (pshadow : Part.shadow ∈ T) (pout : Part.out ∈ T) (paccErr : Part.accErr ∈ T) (preadData : Part.readData ∈ T) (ptb : Part.tb ∈ T) (pcrown : Part.crown ∈ T) (pstg : Part.stg ∈ T) (pq91 : Part.q91 ∈ T) (ppwm : Part.pwm ∈ T) (ploop : Part.loop ∈ T) (ptrack : Part.track ∈ T) (pprot : Part.prot ∈ T) (phost : Part.host ∈ T) (prk : Part.rk ∈ T) (pscan : Part.scan ∈ T) (pimp : Part.imp ∈ T) (pest : Part.est ∈ T) (ptmx : Part.tmx ∈ T) (pdisp : Part.disp ∈ T) (peng : Part.eng ∈ T) (pringSt : Part.ringSt ∈ T) (pharv : Part.harv ∈ T) (pbal : Part.bal ∈ T) (ptherm : Part.therm ∈ T) (ptele : Part.tele ∈ T) (pnvm : Part.nvm ∈ T) (ptime : Part.time ∈ T) (pcan : Part.can ∈ T) (ppair : Part.pair ∈ T) (palm : Part.alm ∈ T) (h1' : Within T s0 s) : ∃ u', (execUpdateAbort who s) = .next u' ∧ Within T s0 u' := by
  unfold execUpdateAbort
  refine ⟨_, rfl, ?_⟩
  refine State.asWrite_within pregs paccErr pq91 phost ?_ ?_
  · exact h1'
  · intro s1 h2
    refine State.updateCmd_within pregs pstaged pshadow pout paccErr preadData ptb pcrown pstg pq91 ppwm ploop ptrack pprot phost prk pscan pimp pest ptmx pdisp peng pringSt pharv pbal ptherm ptele pnvm ptime pcan ppair palm ?_
    exact h2

theorem execUpdateTransferTimeout_within {s : State} (pregs : Part.regs ∈ T) (pnvm : Part.nvm ∈ T) (h0' : Within T s0 s) : ∃ u', (execUpdateTransferTimeout s) = .next u' ∧ Within T s0 u' := by
  unfold execUpdateTransferTimeout
  refine ⟨_, rfl, ?_⟩
  refine within_ite ?_ ?_
  · refine State.endTransfer_within pregs pnvm ?_
    exact h0'
  · exact h0'

/-! ## Router -/

theorem cmdBit_within {data : ℕ} {k : ℕ} {f : State → State} {s : State} (h2' : ∀ a0, Within T s0 a0 → Within T s0 (f a0)) (h3' : Within T s0 s) : Within T s0 (cmdBit data k f s) := by
  unfold cmdBit
  refine within_ite ?_ ?_
  · apply h2'
    exact h3'
  · exact h3'

theorem State.writeCore_within {s : State} {who : Initiator} {a : ℕ} {data : ℕ} (pregs : Part.regs ∈ T) (pstaged : Part.staged ∈ T) (pshadow : Part.shadow ∈ T) (pout : Part.out ∈ T) (paccErr : Part.accErr ∈ T) (preadData : Part.readData ∈ T) (ptb : Part.tb ∈ T) (pcrown : Part.crown ∈ T) (pstg : Part.stg ∈ T) (pq91 : Part.q91 ∈ T) (ppwm : Part.pwm ∈ T) (ploop : Part.loop ∈ T) (ptrack : Part.track ∈ T) (pprot : Part.prot ∈ T) (phost : Part.host ∈ T) (prk : Part.rk ∈ T) (pscan : Part.scan ∈ T) (pimp : Part.imp ∈ T) (pest : Part.est ∈ T) (ptmx : Part.tmx ∈ T) (pdisp : Part.disp ∈ T) (peng : Part.eng ∈ T) (pringSt : Part.ringSt ∈ T) (pharv : Part.harv ∈ T) (pbal : Part.bal ∈ T) (ptherm : Part.therm ∈ T) (ptele : Part.tele ∈ T) (pnvm : Part.nvm ∈ T) (ptime : Part.time ∈ T) (pcan : Part.can ∈ T) (ppair : Part.pair ∈ T) (palm : Part.alm ∈ T) (h0' : Within T s0 s) : Within T s0 (State.writeCore s who a data) := by
  unfold State.writeCore
  refine within_ite ?_ ?_
  · refine State.stageCtrl_within pregs pstaged pshadow paccErr pstg pq91 phost pscan ?_
    exact h0'
  · refine within_ite ?_ ?_
    · refine State.modeReqWrite_within pregs pshadow pout pcrown pstg pq91 ppwm ploop ptrack pprot phost prk pscan pimp pest ptmx pringSt pharv pbal ptele pnvm ppair ?_
      exact h0'
    · refine within_ite ?_ ?_
      · refine State.resetCmd_within pregs pstaged pshadow pout paccErr preadData ptb pcrown pstg pq91 ppwm ploop ptrack pprot phost prk pscan pimp pest ptmx pdisp peng pringSt pharv pbal ptherm ptele pnvm ptime pcan ppair palm ?_
        exact h0'
      · refine within_ite ?_ ?_
        · refine State.commitWrite89_within pregs pstg ?_
          exact h0'
        · refine within_ite ?_ ?_
          · refine State.clearXstat_within pregs ?_
            exact h0'
          · refine within_ite ?_ ?_
            · refine State.selectRing_within pregs peng ?_
              exact h0'
            · refine within_ite ?_ ?_
              · refine cmdBit_within ?_ ?_
                · intro s1 h2
                  refine State.popEntry_within pregs peng ?_
                  exact h2
                · exact h0'
              · refine within_ite ?_ ?_
                · refine cmdBit_within ?_ ?_
                  · intro s3 h4
                    refine State.snap_within pregs ?_
                    exact h4
                  · exact h0'
                · refine within_ite ?_ ?_
                  · refine State.writeRate2_within pregs ?_
                    exact h0'
                  · refine within_ite ?_ ?_
                    · refine State.evrecCmd_within pregs ?_
                      exact h0'
                    · refine within_ite ?_ ?_
                      · refine State.almSelect_within pregs palm ?_
                        exact h0'
                      · refine within_ite ?_ ?_
                        · refine State.updateCmd_within pregs pstaged pshadow pout paccErr preadData ptb pcrown pstg pq91 ppwm ploop ptrack pprot phost prk pscan pimp pest ptmx pdisp peng pringSt pharv pbal ptherm ptele pnvm ptime pcan ppair palm ?_
                          exact h0'
                        · refine within_ite ?_ ?_
                          · refine State.keySel_within pregs pq91 prk pscan pnvm ?_
                            exact h0'
                          · refine within_ite ?_ ?_
                            · refine State.gtestWrite_within pregs pq91 ppwm ploop pprot prk pscan ptmx ?_
                              exact h0'
                            · refine within_ite ?_ ?_
                              · refine State.jtagWrite_within pregs pq91 prk pscan ptmx ?_
                                exact h0'
                              · refine within_ite ?_ ?_
                                · refine State.trigSchedule_within pregs ?_
                                  exact h0'
                                · split
                                  · rename_i x5 x6 x7 x8 x9 e10
                                    refine State.timeCmd_within pregs pshadow paccErr ptb pstg pq91 phost prk pscan pest ptime pcan ?_
                                    exact h0'
                                  · rename_i x11 x12 x13 x14 x15 e16 e17
                                    refine State.trigCtl_within pregs pq91 prk pscan ptime ?_
                                    exact h0'
                                  · rename_i x18 x19 x20 x21 x22 e23 e24 e25
                                    refine cmdBit_within ?_ ?_
                                    · intro s26 h27
                                      refine State.popStamp_within pregs ptime ?_
                                      exact h27
                                    · refine State.writeFields_within pregs ?_
                                      exact h0'
                                  · rename_i x28 x29 x30 x31 x32 e33 e34 e35 e36
                                    refine State.canCmd_within pregs pq91 prk pscan peng pcan ?_
                                    exact h0'
                                  · rename_i x37 x38 x39 x40 e41 e42 e43 e44
                                    refine State.writeFields_within pregs ?_
                                    exact h0'

theorem State.restartTasks_within {s : State} {mask : ℕ} (pregs : Part.regs ∈ T) (pprot : Part.prot ∈ T) (pscan : Part.scan ∈ T) (h0' : Within T s0 s) : Within T s0 (State.restartTasks s mask) := by
  unfold State.restartTasks
  refine within_foldl ?_ ?_
  · exact h0'
  · intro s1 x2 h3
    refine within_ite ?_ ?_
    · refine State.clearCond_within pregs pprot ?_
      refine State.setTask_within pscan ?_
      refine State.wrBit_within pregs ?_
      exact h3
    · exact h3

theorem State.writeWork_within {s : State} {who : Initiator} {a : ℕ} {data : ℕ} (pregs : Part.regs ∈ T) (pshadow : Part.shadow ∈ T) (pout : Part.out ∈ T) (pcrown : Part.crown ∈ T) (pstg : Part.stg ∈ T) (pq91 : Part.q91 ∈ T) (ppwm : Part.pwm ∈ T) (ploop : Part.loop ∈ T) (ptrack : Part.track ∈ T) (pprot : Part.prot ∈ T) (phost : Part.host ∈ T) (prk : Part.rk ∈ T) (pscan : Part.scan ∈ T) (pimp : Part.imp ∈ T) (pest : Part.est ∈ T) (ptmx : Part.tmx ∈ T) (pdisp : Part.disp ∈ T) (peng : Part.eng ∈ T) (pringSt : Part.ringSt ∈ T) (pharv : Part.harv ∈ T) (pbal : Part.bal ∈ T) (ptherm : Part.therm ∈ T) (ptele : Part.tele ∈ T) (pnvm : Part.nvm ∈ T) (ppair : Part.pair ∈ T) (h0' : Within T s0 s) : Within T s0 (State.writeWork s who a data) := by
  unfold State.writeWork
  refine within_ite ?_ ?_
  · refine cmdBit_within ?_ ?_
    · intro s1 h2
      refine State.ringClear_within pregs ?_
      exact h2
    · refine cmdBit_within ?_ ?_
      · intro s3 h4
        refine State.measure_within pregs pout pcrown pq91 prk pscan pringSt pbal ppair ?_
        exact h4
      · refine cmdBit_within ?_ ?_
        · intro s5 h6
          refine State.cmdEnumerate_within pregs pout pq91 prk pscan pringSt pharv ?_
          exact h6
        · exact h0'
  · refine within_ite ?_ ?_
    · refine State.oneshot_within pout pharv ?_
      exact h0'
    · refine within_ite ?_ ?_
      · refine State.freezeCells_within pregs ?_
        exact h0'
      · refine within_ite ?_ ?_
        · refine cmdBit_within ?_ ?_
          · intro s7 h8
            refine State.clearNfault_within pregs ?_
            exact h8
          · refine cmdBit_within ?_ ?_
            · intro s9 h10
              refine State.balStop_within pregs pout pq91 prk pscan pringSt pbal ?_
              exact h10
            · refine cmdBit_within ?_ ?_
              · intro s11 h12
                refine State.planNow_within pregs pout pq91 prk pscan pringSt pbal ppair ?_
                exact h12
              · exact h0'
        · refine within_ite ?_ ?_
          · refine cmdBit_within ?_ ?_
            · intro s13 h14
              refine State.clearWeld_within pregs pprot ?_
              exact h14
            · refine cmdBit_within ?_ ?_
              · intro s15 h16
                refine State.k6Switch_within pregs pq91 ptrack prk pscan ?_
                exact h16
              · refine cmdBit_within ?_ ?_
                · intro s17 h18
                  refine State.k6Switch_within pregs pq91 ptrack prk pscan ?_
                  exact h18
                · exact h0'
          · refine within_ite ?_ ?_
            · refine cmdBit_within ?_ ?_
              · intro s19 h20
                refine State.abortRun_within pregs pout pq91 ppwm ploop prk pscan pimp pringSt pbal ppair ?_
                exact h20
              · refine cmdBit_within ?_ ?_
                · intro s21 h22
                  refine State.impedStart_within pimp ?_
                  exact h22
                · exact h0'
            · refine within_ite ?_ ?_
              · refine cmdBit_within ?_ ?_
                · intro s23 h24
                  refine State.initCells_within pregs pq91 prk pscan pest ?_
                  exact h24
                · exact h0'
              · refine within_ite ?_ ?_
                · refine cmdBit_within ?_ ?_
                  · intro s25 h26
                    refine State.resetCell_within pregs pq91 prk pscan pest ?_
                    exact h26
                  · refine cmdBit_within ?_ ?_
                    · intro s27 h28
                      refine State.journalBoth_within pregs pq91 prk pscan pest ?_
                      exact h28
                    · exact h0'
                · refine within_ite ?_ ?_
                  · refine State.clearCool_within ptherm ?_
                    exact h0'
                  · refine within_ite ?_ ?_
                    · refine cmdBit_within ?_ ?_
                      · intro s29 h30
                        refine State.cntReset_within pregs pq91 ptele ?_
                        exact h30
                      · refine within_ite ?_ ?_
                        · exact h0'
                        · refine State.clearPeaks_within pregs ?_
                          exact h0'
                    · refine within_ite ?_ ?_
                      · refine cmdBit_within ?_ ?_
                        · intro s31 h32
                          refine State.dispTake_within pregs pshadow pout pcrown pstg pq91 ppwm ploop ptrack pprot phost prk pscan pimp pest ptmx pdisp peng pringSt pharv pbal ptele pnvm ppair ?_
                          exact h32
                        · exact h0'
                      · refine within_ite ?_ ?_
                        · refine cmdBit_within ?_ ?_
                          · intro s33 h34
                            refine State.cmdTrip_within pregs pshadow pout pcrown pstg pq91 ppwm ploop ptrack pprot prk pscan pimp pest ptmx pringSt pbal ptele pnvm ppair ?_
                            exact h34
                          · refine cmdBit_within ?_ ?_
                            · intro s35 h36
                              refine State.cmdSrd_within pregs pshadow pout pcrown pstg pq91 ppwm ploop ptrack pprot prk pscan pimp pest ptmx pringSt pbal ptele pnvm ppair ?_
                              exact h36
                            · exact h0'
                        · refine within_ite ?_ ?_
                          · refine State.writeDegrade_within pregs pq91 pprot prk pscan ?_
                            exact h0'
                          · refine within_ite ?_ ?_
                            · refine State.pairCmd_within pregs pshadow pout pcrown pstg pq91 ppwm ploop ptrack pprot prk pscan pimp pringSt pbal ppair ?_
                              exact h0'
                            · refine within_ite ?_ ?_
                              · refine State.restartTasks_within pregs pprot pscan ?_
                                exact h0'
                              · refine within_ite ?_ ?_
                                · refine State.progWord_within pregs pstg pscan ?_
                                  exact h0'
                                · split
                                  · rename_i x37 x38 e39
                                    refine cmdBit_within ?_ ?_
                                    · intro s40 h41
                                      refine State.phaseClear_within pregs pprot ?_
                                      exact h41
                                    · exact h0'
                                  · rename_i x42 e43
                                    refine State.writeFields_within pregs ?_
                                    exact h0'

theorem State.writeEffect_within {s : State} {who : Initiator} {a : ℕ} {data : ℕ} (pregs : Part.regs ∈ T) (pstaged : Part.staged ∈ T) (pshadow : Part.shadow ∈ T) (pout : Part.out ∈ T) (paccErr : Part.accErr ∈ T) (preadData : Part.readData ∈ T) (ptb : Part.tb ∈ T) (pcrown : Part.crown ∈ T) (pstg : Part.stg ∈ T) (pq91 : Part.q91 ∈ T) (ppwm : Part.pwm ∈ T) (ploop : Part.loop ∈ T) (ptrack : Part.track ∈ T) (pprot : Part.prot ∈ T) (phost : Part.host ∈ T) (prk : Part.rk ∈ T) (pscan : Part.scan ∈ T) (pimp : Part.imp ∈ T) (pest : Part.est ∈ T) (ptmx : Part.tmx ∈ T) (pdisp : Part.disp ∈ T) (peng : Part.eng ∈ T) (pringSt : Part.ringSt ∈ T) (pharv : Part.harv ∈ T) (pbal : Part.bal ∈ T) (ptherm : Part.therm ∈ T) (ptele : Part.tele ∈ T) (pnvm : Part.nvm ∈ T) (ptime : Part.time ∈ T) (pcan : Part.can ∈ T) (ppair : Part.pair ∈ T) (palm : Part.alm ∈ T) (h0' : Within T s0 s) : Within T s0 (State.writeEffect s who a data) := by
  unfold State.writeEffect
  refine within_ite ?_ ?_
  · refine State.stageWord_within pregs pstaged pstg ?_
    exact h0'
  · refine within_ite ?_ ?_
    · refine State.retryCntWrite_within pregs ?_
      exact h0'
    · refine within_ite ?_ ?_
      · refine State.lastingWrite_within pregs ?_
        exact h0'
      · refine within_ite ?_ ?_
        · refine within_ite ?_ ?_
          · refine State.discardPage_within pstaged pscan ?_
            exact h0'
          · exact h0'
        · refine within_ite ?_ ?_
          · split
            · rename_i x1 x2 e3
              refine State.setWord_within pregs ?_
              exact h0'
            · rename_i x4 e5
              exact h0'
          · refine within_ite ?_ ?_
            · refine State.writeCore_within pregs pstaged pshadow pout paccErr preadData ptb pcrown pstg pq91 ppwm ploop ptrack pprot phost prk pscan pimp pest ptmx pdisp peng pringSt pharv pbal ptherm ptele pnvm ptime pcan ppair palm ?_
              exact h0'
            · refine State.writeWork_within pregs pshadow pout pcrown pstg pq91 ppwm ploop ptrack pprot phost prk pscan pimp pest ptmx pdisp peng pringSt pharv pbal ptherm ptele pnvm ppair ?_
              exact h0'

theorem State.writeReg_within {s : State} {who : Initiator} {a : ℕ} {data : ℕ} (pregs : Part.regs ∈ T) (pstaged : Part.staged ∈ T) (pshadow : Part.shadow ∈ T) (pout : Part.out ∈ T) (paccErr : Part.accErr ∈ T) (preadData : Part.readData ∈ T) (ptb : Part.tb ∈ T) (pcrown : Part.crown ∈ T) (pstg : Part.stg ∈ T) (pq91 : Part.q91 ∈ T) (ppwm : Part.pwm ∈ T) (ploop : Part.loop ∈ T) (ptrack : Part.track ∈ T) (pprot : Part.prot ∈ T) (phost : Part.host ∈ T) (prk : Part.rk ∈ T) (pscan : Part.scan ∈ T) (pimp : Part.imp ∈ T) (pest : Part.est ∈ T) (ptmx : Part.tmx ∈ T) (pdisp : Part.disp ∈ T) (peng : Part.eng ∈ T) (pringSt : Part.ringSt ∈ T) (pharv : Part.harv ∈ T) (pbal : Part.bal ∈ T) (ptherm : Part.therm ∈ T) (ptele : Part.tele ∈ T) (pnvm : Part.nvm ∈ T) (ptime : Part.time ∈ T) (pcan : Part.can ∈ T) (ppair : Part.pair ∈ T) (palm : Part.alm ∈ T) (h0' : Within T s0 s) : Within T s0 (State.writeReg s who a data) := by
  unfold State.writeReg
  extract_lets s1
  clear_value s1
  refine within_ite ?_ ?_
  · refine State.refuseAccess_within pregs paccErr pq91 phost ?_
    exact h0'
  · refine State.crossing_within phost ?_ ?_
    · refine State.result_within pregs paccErr phost ?_
      exact h0'
    · intro s2 h3
      refine State.writeEffect_within pregs pstaged pshadow pout paccErr preadData ptb pcrown pstg pq91 ppwm ploop ptrack pprot phost prk pscan pimp pest ptmx pdisp peng pringSt pharv pbal ptherm ptele pnvm ptime pcan ppair palm ?_
      exact h3

theorem execRegisterWrite_within {who : Initiator} {addr : BitVec 20} {data : BitVec 32} {s : State} (pregs : Part.regs ∈ T) (pstaged : Part.staged ∈ T) (pshadow : Part.shadow ∈ T) (pout : Part.out ∈ T) (paccErr : Part.accErr ∈ T) (preadData : Part.readData ∈ T) (ptb : Part.tb ∈ T) (pcrown : Part.crown ∈ T) (pstg : Part.stg ∈ T) (pq91 : Part.q91 ∈ T) (ppwm : Part.pwm ∈ T) (ploop : Part.loop ∈ T) (ptrack : Part.track ∈ T) (pprot : Part.prot ∈ T) (phost : Part.host ∈ T) (prk : Part.rk ∈ T) (pscan : Part.scan ∈ T) (pimp : Part.imp ∈ T) (pest : Part.est ∈ T) (ptmx : Part.tmx ∈ T) (pdisp : Part.disp ∈ T) (peng : Part.eng ∈ T) (pringSt : Part.ringSt ∈ T) (pharv : Part.harv ∈ T) (pbal : Part.bal ∈ T) (ptherm : Part.therm ∈ T) (ptele : Part.tele ∈ T) (pnvm : Part.nvm ∈ T) (ptime : Part.time ∈ T) (pcan : Part.can ∈ T) (ppair : Part.pair ∈ T) (palm : Part.alm ∈ T) (h3' : Within T s0 s) : ∃ u', (execRegisterWrite who addr data s) = .next u' ∧ Within T s0 u' := by
  unfold execRegisterWrite
  refine ⟨_, rfl, ?_⟩
  refine State.writeReg_within pregs pstaged pshadow pout paccErr preadData ptb pcrown pstg pq91 ppwm ploop ptrack pprot phost prk pscan pimp pest ptmx pdisp peng pringSt pharv pbal ptherm ptele pnvm ptime pcan ppair palm ?_
  exact h3'

theorem State.readEffect_within {s : State} {a : ℕ} (pregs : Part.regs ∈ T) (preadData : Part.readData ∈ T) (ptele : Part.tele ∈ T) (h0' : Within T s0 s) : Within T s0 (State.readEffect s a) := by
  unfold State.readEffect
  split
  · rename_i x1 x2 x3 e4
    refine State.nsRead_within pregs preadData ?_
    exact h0'
  · rename_i x5 x6 x7 e8 e9
    refine State.readCounterLo_within preadData ptele ?_
    exact h0'
  · rename_i x10 x11 e12 e13
    refine within_ite ?_ ?_
    · refine State.wr_within pregs ?_
      exact h0'
    · exact h0'

theorem State.readReg_within {s : State} {who : Initiator} {a : ℕ} (pregs : Part.regs ∈ T) (paccErr : Part.accErr ∈ T) (preadData : Part.readData ∈ T) (pq91 : Part.q91 ∈ T) (phost : Part.host ∈ T) (ptele : Part.tele ∈ T) (h0' : Within T s0 s) : Within T s0 (State.readReg s who a) := by
  unfold State.readReg
  extract_lets s1
  rename_i s2 s3 s4
  have h5 : Within T s0 s2 := by
    unfold s2
    refine State.refuseAccess_within pregs paccErr pq91 phost ?_
    exact h0'
  have h6 : Within T s0 s3 := by
    unfold s3
    refine State.result_within pregs paccErr phost ?_
    exact h0'
  have h7 : Within T s0 s4 := by
    unfold s4
    refine State.readEffect_within pregs preadData ptele ?_
    exact h6
  clear_value s1 s2 s3 s4
  refine within_ite ?_ ?_
  · exact within_upd h5 (readData := .inl preadData)
  · exact within_upd h7 (readData := .inl preadData)

/-! ## HostFam -/

theorem execArpRequest_within {p : Fin 2} {ip : BitVec 32} {target : BitVec 32} {s : State} (pout : Part.out ∈ T) (h3' : Within T s0 s) : ∃ u', (execArpRequest p ip target s) = .next u' ∧ Within T s0 u' := by
  unfold execArpRequest
  refine ⟨_, rfl, ?_⟩
  refine within_ite ?_ ?_
  · refine State.send_within pout ?_
    exact h3'
  · exact h3'

theorem State.hostBegin_within {s : State} (preadData : Part.readData ∈ T) (phost : Part.host ∈ T) (h0' : Within T s0 s) : Within T s0 (State.hostBegin s) := by
  unfold State.hostBegin
  exact within_upd h0' (readData := .inl preadData) (host := .inl phost)

theorem State.hostEnd_within {s : State} {addr : ℕ} {code : ℕ} (pregs : Part.regs ∈ T) (paccErr : Part.accErr ∈ T) (phost : Part.host ∈ T) (h0' : Within T s0 s) : Within T s0 (State.hostEnd s addr code) := by
  unfold State.hostEnd
  refine State.result_within pregs paccErr phost ?_
  exact h0'

theorem State.hostAuthFail_within {s : State} {addr : ℕ} (pregs : Part.regs ∈ T) (paccErr : Part.accErr ∈ T) (pq91 : Part.q91 ∈ T) (phost : Part.host ∈ T) (h0' : Within T s0 s) : Within T s0 (State.hostAuthFail s addr) := by
  unfold State.hostAuthFail
  refine State.authFailed_within pq91 phost ?_
  refine State.hostEnd_within pregs paccErr phost ?_
  exact h0'

theorem State.hostSessionEnd_within {s : State} (pregs : Part.regs ∈ T) (phost : Part.host ∈ T) (h0' : Within T s0 s) : Within T s0 (State.hostSessionEnd s) := by
  unfold State.hostSessionEnd
  extract_lets s1
  rename_i x2
  have h3 : Within T s0 s1 := by
    unfold s1
    refine State.wr_within pregs ?_
    refine State.wrB_within pregs ?_
    exact h0'
  clear_value s1 x2
  exact within_upd h3 (host := .inl phost)

theorem execHostClose_within {addr : BitVec 24} {bytes : List Byte} {s : State} (pregs : Part.regs ∈ T) (paccErr : Part.accErr ∈ T) (preadData : Part.readData ∈ T) (pq91 : Part.q91 ∈ T) (phost : Part.host ∈ T) (h2' : Within T s0 s) : ∃ u', (execHostClose addr bytes s) = .next u' ∧ Within T s0 u' := by
  unfold execHostClose
  extract_lets s1 s2
  have h3 : Within T s0 s1 := by
    unfold s1
    refine State.hostBegin_within preadData phost ?_
    exact h2'
  clear_value s1 s2
  refine out_ite ?_ ?_
  · refine ⟨_, rfl, ?_⟩
    refine State.hostEnd_within pregs paccErr phost ?_
    exact h3
  · refine out_ite ?_ ?_
    · refine ⟨_, rfl, ?_⟩
      refine State.hostEnd_within pregs paccErr phost ?_
      exact h3
    · refine out_ite ?_ ?_
      · refine ⟨_, rfl, ?_⟩
        refine State.hostEnd_within pregs paccErr phost ?_
        exact h3
      · refine out_ite ?_ ?_
        · refine ⟨_, rfl, ?_⟩
          refine State.hostAuthFail_within pregs paccErr pq91 phost ?_
          exact h3
        · refine ⟨_, rfl, ?_⟩
          refine State.hostEnd_within pregs paccErr phost ?_
          refine State.hostSessionEnd_within pregs phost ?_
          exact h3

theorem State.freshNonce_within {s : State} (pfree : Part.free ∈ T) (h0' : Within T s0 s) : Within T s0 (State.freshNonce s).2 := by
  unfold State.freshNonce
  dsimp only
  exact within_upd h0' (free := .inl pfree)

theorem execHostNonce_within {x : NonceRead} {s : State} (pregs : Part.regs ∈ T) (pfree : Part.free ∈ T) (paccErr : Part.accErr ∈ T) (preadData : Part.readData ∈ T) (phost : Part.host ∈ T) (h1' : Within T s0 s) : ∃ u', (execHostNonce x s) = .next u' ∧ Within T s0 u' := by
  unfold execHostNonce
  extract_lets s1
  have h2 : Within T s0 s1 := by
    unfold s1
    refine State.hostBegin_within preadData phost ?_
    exact h1'
  clear_value s1
  refine out_ite ?_ ?_
  · refine ⟨_, rfl, ?_⟩
    refine State.hostEnd_within pregs paccErr phost ?_
    exact h2
  · refine out_ite ?_ ?_
    · refine ⟨_, rfl, ?_⟩
      refine State.hostEnd_within pregs paccErr phost ?_
      exact h2
    · split
      rename_i s3 x4 s5 e6
      have h7 : Within T s0 s5 := by
        refine within_of_snd e6 ?_
        refine State.freshNonce_within pfree ?_
        exact h2
      refine ⟨_, rfl, ?_⟩
      extract_lets s8
      rename_i x9
      have h10 : Within T s0 s8 := by
        unfold s8
        refine State.hostEnd_within pregs paccErr phost ?_
        exact h7
      clear_value s8 x9
      exact within_upd h10 (readData := .inl preadData) (host := .inl phost)

theorem execHostOpen_within {addr : BitVec 24} {bytes : List Byte} {s : State} (pregs : Part.regs ∈ T) (paccErr : Part.accErr ∈ T) (preadData : Part.readData ∈ T) (pq91 : Part.q91 ∈ T) (phost : Part.host ∈ T) (h2' : Within T s0 s) : ∃ u', (execHostOpen addr bytes s) = .next u' ∧ Within T s0 u' := by
  unfold execHostOpen
  extract_lets s1 s2
  rename_i x3 x4 x5 x6 s7 x8
  have h9 : Within T s0 s1 := by
    unfold s1
    refine State.hostBegin_within preadData phost ?_
    exact h2'
  have h10 : Within T s0 s7 := by
    unfold s7
    exact within_upd h9 (host := .inl phost)
  clear_value s1 s2 x3 x4 x5 x6 s7 x8
  refine out_ite ?_ ?_
  · refine ⟨_, rfl, ?_⟩
    refine State.hostEnd_within pregs paccErr phost ?_
    exact h9
  · refine out_ite ?_ ?_
    · refine ⟨_, rfl, ?_⟩
      refine State.hostEnd_within pregs paccErr phost ?_
      exact h9
    · split
      · rename_i x11
        refine ⟨_, rfl, ?_⟩
        refine State.hostAuthFail_within pregs paccErr pq91 phost ?_
        exact h10
      · rename_i x12 x13
        refine out_ite ?_ ?_
        · extract_lets s14
          have h15 : Within T s0 s14 := by
            unfold s14
            exact within_upd h10 (host := .inl phost)
          clear_value s14
          refine ⟨_, rfl, ?_⟩
          refine State.hostEnd_within pregs paccErr phost ?_
          refine State.wr_within pregs ?_
          refine State.wrB_within pregs ?_
          exact h15
        · refine ⟨_, rfl, ?_⟩
          refine State.hostAuthFail_within pregs paccErr pq91 phost ?_
          exact h10

theorem State.readWords_within {who : Initiator} {start : ℕ} {n : ℕ} {k : ℕ} {s : State} (pregs : Part.regs ∈ T) (paccErr : Part.accErr ∈ T) (preadData : Part.readData ∈ T) (pq91 : Part.q91 ∈ T) (phost : Part.host ∈ T) (ptele : Part.tele ∈ T) (h0' : Within T s0 s) : Within T s0 (State.readWords who start n k s).1 := by
  induction n generalizing k s with
  | zero => exact h0'
  | succ n ih =>
    simp only [State.readWords]
    split
    · exact ih h0'
    · exact ih (State.readReg_within pregs paccErr preadData pq91 phost ptele h0')

theorem execHostRead_within {addr : BitVec 24} {n : ℕ} {s : State} (pregs : Part.regs ∈ T) (paccErr : Part.accErr ∈ T) (preadData : Part.readData ∈ T) (pq91 : Part.q91 ∈ T) (phost : Part.host ∈ T) (ptele : Part.tele ∈ T) (h2' : Within T s0 s) : ∃ u', (execHostRead addr n s) = .next u' ∧ Within T s0 u' := by
  unfold execHostRead
  extract_lets s1 s2
  have h3 : Within T s0 s1 := by
    unfold s1
    refine State.hostBegin_within preadData phost ?_
    exact h2'
  clear_value s1 s2
  refine out_ite ?_ ?_
  · refine ⟨_, rfl, ?_⟩
    refine State.hostEnd_within pregs paccErr phost ?_
    exact h3
  · refine out_ite ?_ ?_
    · refine ⟨_, rfl, ?_⟩
      refine State.hostEnd_within pregs paccErr phost ?_
      exact h3
    · split
      rename_i s4 s5 x6 x7 e8
      have h9 : Within T s0 s5 := by
        refine within_of_fst e8 ?_
        refine State.readWords_within pregs paccErr preadData pq91 phost ptele ?_
        exact h3
      refine ⟨_, rfl, ?_⟩
      extract_lets s10
      have h11 : Within T s0 s10 := by
        unfold s10
        refine State.hostEnd_within pregs paccErr phost ?_
        exact h9
      clear_value s10
      exact within_upd h11 (readData := .inl preadData)

theorem execHostSessionTimeout_within {s : State} (pregs : Part.regs ∈ T) (phost : Part.host ∈ T) (h0' : Within T s0 s) : ∃ u', (execHostSessionTimeout s) = .next u' ∧ Within T s0 u' := by
  unfold execHostSessionTimeout
  refine ⟨_, rfl, ?_⟩
  refine within_ite ?_ ?_
  · refine State.hostSessionEnd_within pregs phost ?_
    exact h0'
  · exact h0'

theorem State.writeWords_within {who : Initiator} {start : ℕ} {l : List ℕ} {k : ℕ} {s : State} (pregs : Part.regs ∈ T) (pstaged : Part.staged ∈ T) (pshadow : Part.shadow ∈ T) (pout : Part.out ∈ T) (paccErr : Part.accErr ∈ T) (preadData : Part.readData ∈ T) (ptb : Part.tb ∈ T) (pcrown : Part.crown ∈ T) (pstg : Part.stg ∈ T) (pq91 : Part.q91 ∈ T) (ppwm : Part.pwm ∈ T) (ploop : Part.loop ∈ T) (ptrack : Part.track ∈ T) (pprot : Part.prot ∈ T) (phost : Part.host ∈ T) (prk : Part.rk ∈ T) (pscan : Part.scan ∈ T) (pimp : Part.imp ∈ T) (pest : Part.est ∈ T) (ptmx : Part.tmx ∈ T) (pdisp : Part.disp ∈ T) (peng : Part.eng ∈ T) (pringSt : Part.ringSt ∈ T) (pharv : Part.harv ∈ T) (pbal : Part.bal ∈ T) (ptherm : Part.therm ∈ T) (ptele : Part.tele ∈ T) (pnvm : Part.nvm ∈ T) (ptime : Part.time ∈ T) (pcan : Part.can ∈ T) (ppair : Part.pair ∈ T) (palm : Part.alm ∈ T) (h0' : Within T s0 s) : Within T s0 (State.writeWords who start l k s).1 := by
  induction l generalizing k s with
  | nil => exact h0'
  | cons d t ih =>
    simp only [State.writeWords]
    exact ih (State.crossing_within phost (State.result_within pregs paccErr phost h0') fun u hu => State.writeEffect_within pregs pstaged pshadow pout paccErr preadData ptb pcrown pstg pq91 ppwm ploop ptrack pprot phost prk pscan pimp pest ptmx pdisp peng pringSt pharv pbal ptherm ptele pnvm ptime pcan ppair palm hu)

theorem State.writeAll_within {s : State} {who : Initiator} {start : ℕ} {data : List ℕ} (pregs : Part.regs ∈ T) (pstaged : Part.staged ∈ T) (pshadow : Part.shadow ∈ T) (pout : Part.out ∈ T) (paccErr : Part.accErr ∈ T) (preadData : Part.readData ∈ T) (ptb : Part.tb ∈ T) (pcrown : Part.crown ∈ T) (pstg : Part.stg ∈ T) (pq91 : Part.q91 ∈ T) (ppwm : Part.pwm ∈ T) (ploop : Part.loop ∈ T) (ptrack : Part.track ∈ T) (pprot : Part.prot ∈ T) (phost : Part.host ∈ T) (prk : Part.rk ∈ T) (pscan : Part.scan ∈ T) (pimp : Part.imp ∈ T) (pest : Part.est ∈ T) (ptmx : Part.tmx ∈ T) (pdisp : Part.disp ∈ T) (peng : Part.eng ∈ T) (pringSt : Part.ringSt ∈ T) (pharv : Part.harv ∈ T) (pbal : Part.bal ∈ T) (ptherm : Part.therm ∈ T) (ptele : Part.tele ∈ T) (pnvm : Part.nvm ∈ T) (ptime : Part.time ∈ T) (pcan : Part.can ∈ T) (ppair : Part.pair ∈ T) (palm : Part.alm ∈ T) (h0' : Within T s0 s) : Within T s0 (State.writeAll s who start data).1 := by
  unfold State.writeAll
  split
  · rename_i x1 x2 x3 e4
    dsimp only
    refine State.refuseAccess_within pregs paccErr pq91 phost ?_
    exact h0'
  · rename_i x5 e6
    refine State.writeWords_within pregs pstaged pshadow pout paccErr preadData ptb pcrown pstg pq91 ppwm ploop ptrack pprot phost prk pscan pimp pest ptmx pdisp peng pringSt pharv pbal ptherm ptele pnvm ptime pcan ppair palm ?_
    exact h0'

theorem State.hostWrite_within {s : State} {a : ℕ} {bytes : List Byte} (pregs : Part.regs ∈ T) (pstaged : Part.staged ∈ T) (pshadow : Part.shadow ∈ T) (pout : Part.out ∈ T) (paccErr : Part.accErr ∈ T) (preadData : Part.readData ∈ T) (ptb : Part.tb ∈ T) (pcrown : Part.crown ∈ T) (pstg : Part.stg ∈ T) (pq91 : Part.q91 ∈ T) (ppwm : Part.pwm ∈ T) (ploop : Part.loop ∈ T) (ptrack : Part.track ∈ T) (pprot : Part.prot ∈ T) (phost : Part.host ∈ T) (prk : Part.rk ∈ T) (pscan : Part.scan ∈ T) (pimp : Part.imp ∈ T) (pest : Part.est ∈ T) (ptmx : Part.tmx ∈ T) (pdisp : Part.disp ∈ T) (peng : Part.eng ∈ T) (pringSt : Part.ringSt ∈ T) (pharv : Part.harv ∈ T) (pbal : Part.bal ∈ T) (ptherm : Part.therm ∈ T) (ptele : Part.tele ∈ T) (pnvm : Part.nvm ∈ T) (ptime : Part.time ∈ T) (pcan : Part.can ∈ T) (ppair : Part.pair ∈ T) (palm : Part.alm ∈ T) (h0' : Within T s0 s) : Within T s0 (State.hostWrite s a bytes) := by
  unfold State.hostWrite
  extract_lets s1 s2
  rename_i s3
  have h4 : Within T s0 s3 := by
    unfold s3
    refine within_ite ?_ ?_
    · refine State.wr_within pregs ?_
      exact h0'
    · exact h0'
  clear_value s1 s2 s3
  refine within_ite ?_ ?_
  · refine State.hostEnd_within pregs paccErr phost ?_
    exact h0'
  · refine within_ite ?_ ?_
    · refine State.hostEnd_within pregs paccErr phost ?_
      exact h0'
    · refine within_ite ?_ ?_
      · refine State.hostAuthFail_within pregs paccErr pq91 phost ?_
        exact h0'
      · split
        rename_i s5 s6 x7 e8
        have h9 : Within T s0 s6 := by
          refine within_of_fst e8 ?_
          refine State.writeAll_within pregs pstaged pshadow pout paccErr preadData ptb pcrown pstg pq91 ppwm ploop ptrack pprot phost prk pscan pimp pest ptmx pdisp peng pringSt pharv pbal ptherm ptele pnvm ptime pcan ppair palm ?_
          exact h4
        refine State.hostEnd_within pregs paccErr phost ?_
        exact h9

theorem execHostWrite_within {head : TxHead} {bytes : List Byte} {s : State} (pregs : Part.regs ∈ T) (pstaged : Part.staged ∈ T) (pshadow : Part.shadow ∈ T) (pout : Part.out ∈ T) (paccErr : Part.accErr ∈ T) (preadData : Part.readData ∈ T) (ptb : Part.tb ∈ T) (pcrown : Part.crown ∈ T) (pstg : Part.stg ∈ T) (pq91 : Part.q91 ∈ T) (ppwm : Part.pwm ∈ T) (ploop : Part.loop ∈ T) (ptrack : Part.track ∈ T) (pprot : Part.prot ∈ T) (phost : Part.host ∈ T) (prk : Part.rk ∈ T) (pscan : Part.scan ∈ T) (pimp : Part.imp ∈ T) (pest : Part.est ∈ T) (ptmx : Part.tmx ∈ T) (pdisp : Part.disp ∈ T) (peng : Part.eng ∈ T) (pringSt : Part.ringSt ∈ T) (pharv : Part.harv ∈ T) (pbal : Part.bal ∈ T) (ptherm : Part.therm ∈ T) (ptele : Part.tele ∈ T) (pnvm : Part.nvm ∈ T) (ptime : Part.time ∈ T) (pcan : Part.can ∈ T) (ppair : Part.pair ∈ T) (palm : Part.alm ∈ T) (h2' : Within T s0 s) : ∃ u', (execHostWrite head bytes s) = .next u' ∧ Within T s0 u' := by
  unfold execHostWrite
  extract_lets s1
  have h2 : Within T s0 s1 := by
    unfold s1
    refine State.hostBegin_within preadData phost ?_
    exact h2'
  clear_value s1
  split
  · rename_i x3 x4
    refine ⟨_, rfl, ?_⟩
    refine State.hostEnd_within pregs paccErr phost ?_
    exact h2
  · rename_i x5 x6 x7
    refine ⟨_, rfl, ?_⟩
    refine within_ite ?_ ?_
    · refine State.hostEnd_within pregs paccErr phost ?_
      exact h2
    · refine State.hostWrite_within pregs pstaged pshadow pout paccErr preadData ptb pcrown pstg pq91 ppwm ploop ptrack pprot phost prk pscan pimp pest ptmx pdisp peng pringSt pharv pbal ptherm ptele pnvm ptime pcan ppair palm ?_
      exact h2

theorem execIcmpEcho_within {p : Fin 2} {ip : BitVec 32} {bytes : List Byte} {s : State} (pout : Part.out ∈ T) (h3' : Within T s0 s) : ∃ u', (execIcmpEcho p ip bytes s) = .next u' ∧ Within T s0 u' := by
  unfold execIcmpEcho
  refine ⟨_, rfl, ?_⟩
  refine within_ite ?_ ?_
  · refine State.send_within pout ?_
    exact h3'
  · exact h3'

theorem execLinkUp_within {p : Fin 2} {up : Bool} {speed : Fin 3} {full : Bool} {s : State} (pregs : Part.regs ∈ T) (h4' : Within T s0 s) : ∃ u', (execLinkUp p up speed full s) = .next u' ∧ Within T s0 u' := by
  unfold execLinkUp
  refine out_ite ?_ ?_
  · refine ⟨_, rfl, ?_⟩
    refine State.wrB_within pregs ?_
    refine State.wr_within pregs ?_
    refine State.wrB_within pregs ?_
    exact h4'
  · refine ⟨_, rfl, ?_⟩
    exact h4'

theorem State.setRk_within {s : State} {i : ℕ} {x : RkSession} (prk : Part.rk ∈ T) (h0' : Within T s0 s) : Within T s0 (State.setRk s i x) := by
  unfold State.setRk
  exact within_upd h0' (rk := .inl prk)

theorem State.rkSend_within {s : State} {i : ℕ} {typ : ℕ} {req : ℕ} {payload : List Byte} (pout : Part.out ∈ T) (prk : Part.rk ∈ T) (h0' : Within T s0 s) : Within T s0 (State.rkSend s i typ req payload) := by
  unfold State.rkSend
  extract_lets s1 s2 s3
  clear_value s1 s2 s3
  refine State.send_within pout ?_
  refine State.setRk_within prk ?_
  exact h0'

theorem execNotifyRetry_within {i : Fin 8} {s : State} (pregs : Part.regs ∈ T) (pout : Part.out ∈ T) (prk : Part.rk ∈ T) (h1' : Within T s0 s) : ∃ u', (execNotifyRetry i s) = .next u' ∧ Within T s0 u' := by
  unfold execNotifyRetry
  extract_lets s1
  clear_value s1
  split
  · rename_i x2 e3
    refine ⟨_, rfl, ?_⟩
    exact h1'
  · rename_i x4 x5 e6
    refine out_ite ?_ ?_
    · refine ⟨_, rfl, ?_⟩
      refine State.rkSend_within pout prk ?_
      refine State.setRk_within prk ?_
      exact h1'
    · refine ⟨_, rfl, ?_⟩
      refine State.wrB_within pregs ?_
      refine State.setRk_within prk ?_
      exact h1'

theorem execRalkiulChallengeLapse_within {i : Fin 8} {s : State} (prk : Part.rk ∈ T) (h1' : Within T s0 s) : ∃ u', (execRalkiulChallengeLapse i s) = .next u' ∧ Within T s0 u' := by
  unfold execRalkiulChallengeLapse
  refine ⟨_, rfl, ?_⟩
  refine within_ite ?_ ?_
  · refine State.setRk_within prk ?_
    exact h1'
  · exact h1'

theorem State.rkDrop_within {s : State} {p : ℕ} (pregs : Part.regs ∈ T) (h0' : Within T s0 s) : Within T s0 (State.rkDrop s p) := by
  unfold State.rkDrop
  refine State.bump_within pregs ?_
  exact h0'

theorem State.rkReceive_within {s : State} {p : ℕ} {typ : ℕ} {dst : ℕ} {b : List Byte} {k : State → State} (pregs : Part.regs ∈ T) (h0' : Within T s0 s) (h5' : ∀ a0, Within T s0 a0 → Within T s0 (k a0)) : Within T s0 (State.rkReceive s p typ dst b k) := by
  unfold State.rkReceive
  refine within_ite ?_ ?_
  · exact h0'
  · refine within_ite ?_ ?_
    · refine State.rkDrop_within pregs ?_
      exact h0'
    · refine within_ite ?_ ?_
      · refine within_ite ?_ ?_
        · exact h0'
        · refine State.rkDrop_within pregs ?_
          exact h0'
      · apply h5'
        exact h0'

theorem State.rkInSession_within {s : State} {p : ℕ} {typ : ℕ} {ip : ℕ} {port : ℕ} {dst : ℕ} {b : List Byte} {k : Fin 8 → State → State} (pregs : Part.regs ∈ T) (prk : Part.rk ∈ T) (h0' : Within T s0 s) (h7' : ∀ a0 a1, Within T s0 a1 → Within T s0 (k a0 a1)) : Within T s0 (State.rkInSession s p typ ip port dst b k) := by
  unfold State.rkInSession
  refine State.rkReceive_within pregs ?_ ?_
  · exact h0'
  · intro s1 h2
    extract_lets s3 s4
    clear_value s3 s4
    split
    · rename_i e5
      refine within_ite ?_ ?_
      · refine State.rkDrop_within pregs ?_
        exact h2
      · refine within_ite ?_ ?_
        · exact h2
        · apply h7'
          refine State.setRk_within prk ?_
          exact h2
    · rename_i e6
      refine State.rkDrop_within pregs ?_
      exact h2

theorem State.showRk_within {s : State} (pregs : Part.regs ∈ T) (h0' : Within T s0 s) : Within T s0 (State.showRk s) := by
  unfold State.showRk
  extract_lets s1
  clear_value s1
  refine State.wr_within pregs ?_
  refine State.wr_within pregs ?_
  exact h0'

theorem State.rkClose_within {s : State} {i : ℕ} (pregs : Part.regs ∈ T) (pstaged : Part.staged ∈ T) (pshadow : Part.shadow ∈ T) (pstg : Part.stg ∈ T) (prk : Part.rk ∈ T) (pscan : Part.scan ∈ T) (h0' : Within T s0 s) : Within T s0 (State.rkClose s i) := by
  unfold State.rkClose
  refine State.ownerGone_within pregs pstaged pshadow pstg pscan ?_
  refine State.showRk_within pregs ?_
  refine State.setRk_within prk ?_
  exact h0'

theorem execRalkiulClose_within {p : Fin 2} {ip : BitVec 32} {udp : UdpPorts} {b : List Byte} {s : State} (pregs : Part.regs ∈ T) (pstaged : Part.staged ∈ T) (pshadow : Part.shadow ∈ T) (pstg : Part.stg ∈ T) (prk : Part.rk ∈ T) (pscan : Part.scan ∈ T) (h4' : Within T s0 s) : ∃ u', (execRalkiulClose p ip udp b s) = .next u' ∧ Within T s0 u' := by
  unfold execRalkiulClose
  refine ⟨_, rfl, ?_⟩
  refine State.rkInSession_within pregs prk ?_ ?_
  · exact h4'
  · intro x1 s2 h3
    refine State.rkClose_within pregs pstaged pshadow pstg prk pscan ?_
    exact h3

theorem execRalkiulKeepalive_within {p : Fin 2} {ip : BitVec 32} {udp : UdpPorts} {b : List Byte} {s : State} (pregs : Part.regs ∈ T) (prk : Part.rk ∈ T) (h4' : Within T s0 s) : ∃ u', (execRalkiulKeepalive p ip udp b s) = .next u' ∧ Within T s0 u' := by
  unfold execRalkiulKeepalive
  refine ⟨_, rfl, ?_⟩
  refine State.rkInSession_within pregs prk ?_ ?_
  · exact h4'
  · intro x1 s2 h3
    exact h3

theorem execRalkiulNotifyAck_within {p : Fin 2} {ip : BitVec 32} {udp : UdpPorts} {b : List Byte} {s : State} (pregs : Part.regs ∈ T) (prk : Part.rk ∈ T) (h4' : Within T s0 s) : ∃ u', (execRalkiulNotifyAck p ip udp b s) = .next u' ∧ Within T s0 u' := by
  unfold execRalkiulNotifyAck
  refine ⟨_, rfl, ?_⟩
  refine State.rkInSession_within pregs prk ?_ ?_
  · exact h4'
  · intro x1 s2 h3
    refine State.setRk_within prk ?_
    exact h3

theorem execRalkiulOpen_within {p : Fin 2} {ip : BitVec 32} {udp : UdpPorts} {b : List Byte} {s : State} (pregs : Part.regs ∈ T) (pout : Part.out ∈ T) (pfree : Part.free ∈ T) (prk : Part.rk ∈ T) (h4' : Within T s0 s) : ∃ u', (execRalkiulOpen p ip udp b s) = .next u' ∧ Within T s0 u' := by
  unfold execRalkiulOpen
  refine ⟨_, rfl, ?_⟩
  refine State.rkReceive_within pregs ?_ ?_
  · exact h4'
  · intro s1 h2
    extract_lets s3
    have h4 : ∀ a0 a1, Within T s0 a1 → Within T s0 (s3 a0 a1) := by
      intro x5 s6 h7
      unfold s3
      beta_reduce
      refine State.send_within pout ?_
      exact h7
    clear_value s3
    refine within_ite ?_ ?_
    · refine State.rkDrop_within pregs ?_
      exact h2
    · refine within_ite ?_ ?_
      · apply h4
        exact h2
      · split
        · rename_i x8 e9
          apply h4
          exact h2
        · rename_i x10 x11 e12
          split
          rename_i s13 x14 s15 e16
          have h17 : Within T s0 s15 := by
            refine within_of_snd e16 ?_
            refine State.freshNonce_within pfree ?_
            exact h2
          refine State.rkSend_within pout prk ?_
          refine State.setRk_within prk ?_
          exact h17

theorem execRalkiulProof_within {p : Fin 2} {ip : BitVec 32} {udp : UdpPorts} {b : List Byte} {s : State} (pregs : Part.regs ∈ T) (pout : Part.out ∈ T) (prk : Part.rk ∈ T) (h4' : Within T s0 s) : ∃ u', (execRalkiulProof p ip udp b s) = .next u' ∧ Within T s0 u' := by
  unfold execRalkiulProof
  refine ⟨_, rfl, ?_⟩
  refine State.rkReceive_within pregs ?_ ?_
  · exact h4'
  · intro s1 h2
    extract_lets s3 s4 s5
    rename_i x6
    clear_value s3 s4 s5 x6
    refine within_ite ?_ ?_
    · refine State.rkDrop_within pregs ?_
      exact h2
    · refine within_ite ?_ ?_
      · refine State.rkDrop_within pregs ?_
        exact h2
      · refine State.showRk_within pregs ?_
        refine State.rkSend_within pout prk ?_
        refine State.setRk_within prk ?_
        exact h2

theorem State.rkOnce_within {s : State} {i : Fin 8} {req : ℕ} {k : State → State} (pout : Part.out ∈ T) (prk : Part.rk ∈ T) (h0' : Within T s0 s) (h3' : ∀ a0, Within T s0 a0 → Within T s0 (k a0)) : Within T s0 (State.rkOnce s i req k) := by
  unfold State.rkOnce
  split
  · rename_i x1 x2 x3 x4 e5
    refine State.rkSend_within pout prk ?_
    exact h0'
  · rename_i x6 e7
    refine within_ite ?_ ?_
    · exact h0'
    · apply h3'
      exact h0'

theorem State.rkRespond_within {s : State} {i : ℕ} {typ : ℕ} {req : ℕ} {payload : List Byte} (pout : Part.out ∈ T) (prk : Part.rk ∈ T) (h0' : Within T s0 s) : Within T s0 (State.rkRespond s i typ req payload) := by
  unfold State.rkRespond
  extract_lets s1
  clear_value s1
  refine State.rkSend_within pout prk ?_
  refine State.setRk_within prk ?_
  exact h0'

theorem execRalkiulRead_within {p : Fin 2} {ip : BitVec 32} {udp : UdpPorts} {b : List Byte} {s : State} (pregs : Part.regs ∈ T) (pout : Part.out ∈ T) (paccErr : Part.accErr ∈ T) (preadData : Part.readData ∈ T) (pq91 : Part.q91 ∈ T) (phost : Part.host ∈ T) (prk : Part.rk ∈ T) (ptele : Part.tele ∈ T) (h4' : Within T s0 s) : ∃ u', (execRalkiulRead p ip udp b s) = .next u' ∧ Within T s0 u' := by
  unfold execRalkiulRead
  refine ⟨_, rfl, ?_⟩
  refine State.rkInSession_within pregs prk ?_ ?_
  · exact h4'
  · intro x1 s2 h3
    extract_lets s4 s5
    clear_value s4 s5
    refine State.rkOnce_within pout prk ?_ ?_
    · exact h3
    · intro s6 h7
      refine within_ite ?_ ?_
      · refine State.rkRespond_within pout prk ?_
        exact h7
      · refine within_ite ?_ ?_
        · refine State.rkRespond_within pout prk ?_
          exact h7
        · split
          rename_i s8 s9 x10 x11 e12
          have h13 : Within T s0 s9 := by
            refine within_of_fst e12 ?_
            refine State.readWords_within pregs paccErr preadData pq91 phost ptele ?_
            exact h7
          refine State.rkRespond_within pout prk ?_
          exact h13

theorem execRalkiulSessionTimeout_within {i : Fin 8} {s : State} (pregs : Part.regs ∈ T) (pstaged : Part.staged ∈ T) (pshadow : Part.shadow ∈ T) (pstg : Part.stg ∈ T) (prk : Part.rk ∈ T) (pscan : Part.scan ∈ T) (h1' : Within T s0 s) : ∃ u', (execRalkiulSessionTimeout i s) = .next u' ∧ Within T s0 u' := by
  unfold execRalkiulSessionTimeout
  refine ⟨_, rfl, ?_⟩
  refine within_ite ?_ ?_
  · refine State.rkClose_within pregs pstaged pshadow pstg prk pscan ?_
    exact h1'
  · exact h1'

theorem State.answerLater_within {s : State} {i : ℕ} {req : ℕ} {n : ℕ} (phost : Part.host ∈ T) (h0' : Within T s0 s) : Within T s0 (State.answerLater s i req n) := by
  unfold State.answerLater
  exact within_upd h0' (host := .inl phost)

theorem execRalkiulWrite_within {p : Fin 2} {ip : BitVec 32} {udp : UdpPorts} {b : List Byte} {s : State} (pregs : Part.regs ∈ T) (pstaged : Part.staged ∈ T) (pshadow : Part.shadow ∈ T) (pout : Part.out ∈ T) (paccErr : Part.accErr ∈ T) (preadData : Part.readData ∈ T) (ptb : Part.tb ∈ T) (pcrown : Part.crown ∈ T) (pstg : Part.stg ∈ T) (pq91 : Part.q91 ∈ T) (ppwm : Part.pwm ∈ T) (ploop : Part.loop ∈ T) (ptrack : Part.track ∈ T) (pprot : Part.prot ∈ T) (phost : Part.host ∈ T) (prk : Part.rk ∈ T) (pscan : Part.scan ∈ T) (pimp : Part.imp ∈ T) (pest : Part.est ∈ T) (ptmx : Part.tmx ∈ T) (pdisp : Part.disp ∈ T) (peng : Part.eng ∈ T) (pringSt : Part.ringSt ∈ T) (pharv : Part.harv ∈ T) (pbal : Part.bal ∈ T) (ptherm : Part.therm ∈ T) (ptele : Part.tele ∈ T) (pnvm : Part.nvm ∈ T) (ptime : Part.time ∈ T) (pcan : Part.can ∈ T) (ppair : Part.pair ∈ T) (palm : Part.alm ∈ T) (h4' : Within T s0 s) : ∃ u', (execRalkiulWrite p ip udp b s) = .next u' ∧ Within T s0 u' := by
  unfold execRalkiulWrite
  refine ⟨_, rfl, ?_⟩
  refine State.rkInSession_within pregs prk ?_ ?_
  · exact h4'
  · intro x1 s2 h3
    extract_lets s4 s5
    clear_value s4 s5
    refine State.rkOnce_within pout prk ?_ ?_
    · exact h3
    · intro s6 h7
      refine within_ite ?_ ?_
      · refine State.rkRespond_within pout prk ?_
        exact h7
      · refine within_ite ?_ ?_
        · refine State.rkRespond_within pout prk ?_
          exact h7
        · extract_lets s8
          clear_value s8
          split
          rename_i s9 s10 x11 e12
          have h13 : Within T s0 s10 := by
            refine within_of_fst e12 ?_
            refine State.writeAll_within pregs pstaged pshadow pout paccErr preadData ptb pcrown pstg pq91 ppwm ploop ptrack pprot phost prk pscan pimp pest ptmx pdisp peng pringSt pharv pbal ptherm ptele pnvm ptime pcan ppair palm ?_
            exact h7
          refine within_ite ?_ ?_
          · refine State.answerLater_within phost ?_
            exact h13
          · refine within_ite ?_ ?_
            · exact h13
            · refine State.rkRespond_within pout prk ?_
              exact h13

theorem State.notifySend_within {s : State} {i : ℕ} (pout : Part.out ∈ T) (prk : Part.rk ∈ T) (h0' : Within T s0 s) : Within T s0 (State.notifySend s i) := by
  unfold State.notifySend
  extract_lets s1
  rename_i x2
  clear_value s1 x2
  refine within_ite ?_ ?_
  · refine State.rkSend_within pout prk ?_
    refine State.setRk_within prk ?_
    exact h0'
  · exact h0'

theorem State.takeHeld_within {s : State} (pregs : Part.regs ∈ T) (pstaged : Part.staged ∈ T) (pshadow : Part.shadow ∈ T) (pout : Part.out ∈ T) (paccErr : Part.accErr ∈ T) (preadData : Part.readData ∈ T) (ptb : Part.tb ∈ T) (pcrown : Part.crown ∈ T) (pstg : Part.stg ∈ T) (pq91 : Part.q91 ∈ T) (ppwm : Part.pwm ∈ T) (ploop : Part.loop ∈ T) (ptrack : Part.track ∈ T) (pprot : Part.prot ∈ T) (phost : Part.host ∈ T) (prk : Part.rk ∈ T) (pscan : Part.scan ∈ T) (pimp : Part.imp ∈ T) (pest : Part.est ∈ T) (ptmx : Part.tmx ∈ T) (pdisp : Part.disp ∈ T) (peng : Part.eng ∈ T) (pringSt : Part.ringSt ∈ T) (pharv : Part.harv ∈ T) (pbal : Part.bal ∈ T) (ptherm : Part.therm ∈ T) (ptele : Part.tele ∈ T) (pnvm : Part.nvm ∈ T) (ptime : Part.time ∈ T) (pcan : Part.can ∈ T) (ppair : Part.pair ∈ T) (palm : Part.alm ∈ T) (h0' : Within T s0 s) : Within T s0 (State.takeHeld s) := by
  unfold State.takeHeld
  refine within_ite ?_ ?_
  · exact h0'
  · refine within_foldl ?_ ?_
    · exact within_upd h0' (host := .inl phost)
    · intro s1 x2 h3
      extract_lets s4
      have h5 : Within T s0 s4 := by
        unfold s4
        refine State.writeEffect_within pregs pstaged pshadow pout paccErr preadData ptb pcrown pstg pq91 ppwm ploop ptrack pprot phost prk pscan pimp pest ptmx pdisp peng pringSt pharv pbal ptherm ptele pnvm ptime pcan ppair palm ?_
        exact h3
      clear_value s4
      split
      · rename_i x6 x7 x8 x9 e10
        refine within_ite ?_ ?_
        · refine State.rkRespond_within pout prk ?_
          exact h5
        · exact h5
      · rename_i x11 e12
        exact h5

end Sys2Proof.Machine
end

