-- ==== Sys2Proof/Laws/Within9.lean ====
section
/-!
SUPPORT. The parts of the state that each operation can change: PtpFam, ScanOps, ScanFam, Ticks.
-/
set_option Elab.async false
set_option linter.unusedSimpArgs false
set_option linter.unusedVariables false
set_option linter.unusedTactic false
set_option linter.unreachableTactic false
namespace Sys2Proof.Machine
open Sys2Proof

variable {T : List Part} {s0 : State}

/-! ## PtpFam -/

theorem State.eachTaker_within {s : State} {port : ℕ} {l2 : Bool} {ty : ℕ} {len : ℕ} {m : List Byte} {f : State → ℕ → State} (h0' : Within T s0 s) (h6' : ∀ a0 a1, Within T s0 a0 → Within T s0 (f a0 a1)) : Within T s0 (State.eachTaker s port l2 ty len m f) := by
  unfold State.eachTaker
  refine within_foldl ?_ ?_
  · exact h0'
  · intro s1 x2 h3
    refine within_ite ?_ ?_
    · apply h6'
      exact h3
    · exact h3

theorem execAnnounceMsg_within {port : Fin 2} {l2 : Bool} {m : List Byte} {s : State} (pregs : Part.regs ∈ T) (ptime : Part.time ∈ T) (h3' : Within T s0 s) : ∃ u', (execAnnounceMsg port l2 m s) = .next u' ∧ Within T s0 u' := by
  unfold execAnnounceMsg
  refine ⟨_, rfl, ?_⟩
  refine State.eachTaker_within ?_ ?_
  · exact h3'
  · intro s1 x2 h3
    refine State.announced_within pregs ptime ?_
    exact h3

theorem execAnnounceReceiptTimeout_within {i : Fin 2} {sync : Bool} {s : State} (pregs : Part.regs ∈ T) (pq91 : Part.q91 ∈ T) (prk : Part.rk ∈ T) (pscan : Part.scan ∈ T) (ptime : Part.time ∈ T) (h2' : Within T s0 s) : ∃ u', (execAnnounceReceiptTimeout i sync s) = .next u' ∧ Within T s0 u' := by
  unfold execAnnounceReceiptTimeout
  refine out_ite ?_ ?_
  · refine ⟨_, rfl, ?_⟩
    exact h2'
  · extract_lets s1
    rename_i x2
    have h3 : Within T s0 s1 := by
      unfold s1
      refine State.holdover_within pregs pq91 prk pscan ptime ?_
      exact h2'
    clear_value s1 x2
    refine out_ite ?_ ?_
    · refine ⟨_, rfl, ?_⟩
      exact h3
    · refine ⟨_, rfl, ?_⟩
      refine State.wr_within pregs ?_
      refine State.setPtp_within ptime ?_
      exact h3

theorem State.sendDelayReq_within {s : State} {i : ℕ} (pout : Part.out ∈ T) (ptime : Part.time ∈ T) (h0' : Within T s0 s) : Within T s0 (State.sendDelayReq s i) := by
  unfold State.sendDelayReq
  extract_lets s1 s2 s3
  rename_i x4
  clear_value s1 s2 s3 x4
  refine within_ite ?_ ?_
  · exact h0'
  · refine State.send_within pout ?_
    refine State.setPtp_within ptime ?_
    exact h0'

theorem execDelayReqInterval_within {i : Fin 2} {s : State} (pout : Part.out ∈ T) (ptime : Part.time ∈ T) (h1' : Within T s0 s) : ∃ u', (execDelayReqInterval i s) = .next u' ∧ Within T s0 u' := by
  unfold execDelayReqInterval
  refine ⟨_, rfl, ?_⟩
  refine State.sendDelayReq_within pout ptime ?_
  exact h1'

theorem State.ptpDelayResp_within {s : State} {port : ℕ} {m : List Byte} {i : ℕ} (pregs : Part.regs ∈ T) (pshadow : Part.shadow ∈ T) (ptb : Part.tb ∈ T) (pstg : Part.stg ∈ T) (pq91 : Part.q91 ∈ T) (prk : Part.rk ∈ T) (pscan : Part.scan ∈ T) (pest : Part.est ∈ T) (ptime : Part.time ∈ T) (pcan : Part.can ∈ T) (h0' : Within T s0 s) : Within T s0 (State.ptpDelayResp s port m i) := by
  unfold State.ptpDelayResp
  extract_lets s1
  clear_value s1
  refine within_ite ?_ ?_
  · refine State.e2eDone_within pregs pshadow ptb pstg pq91 prk pscan pest ptime pcan ?_
    refine State.setPtp_within ptime ?_
    exact h0'
  · exact h0'

theorem execDelayResp_within {port : Fin 2} {l2 : Bool} {m : List Byte} {s : State} (pregs : Part.regs ∈ T) (pshadow : Part.shadow ∈ T) (ptb : Part.tb ∈ T) (pstg : Part.stg ∈ T) (pq91 : Part.q91 ∈ T) (prk : Part.rk ∈ T) (pscan : Part.scan ∈ T) (pest : Part.est ∈ T) (ptime : Part.time ∈ T) (pcan : Part.can ∈ T) (h3' : Within T s0 s) : ∃ u', (execDelayResp port l2 m s) = .next u' ∧ Within T s0 u' := by
  unfold execDelayResp
  refine ⟨_, rfl, ?_⟩
  refine State.eachTaker_within ?_ ?_
  · exact h3'
  · intro s1 x2 h3
    refine State.ptpDelayResp_within pregs pshadow ptb pstg pq91 prk pscan pest ptime pcan ?_
    exact h3

theorem State.ptpFollow_within {s : State} {m : List Byte} {i : ℕ} (pregs : Part.regs ∈ T) (pshadow : Part.shadow ∈ T) (ptb : Part.tb ∈ T) (pstg : Part.stg ∈ T) (pq91 : Part.q91 ∈ T) (prk : Part.rk ∈ T) (pscan : Part.scan ∈ T) (pest : Part.est ∈ T) (ptime : Part.time ∈ T) (pcan : Part.can ∈ T) (h0' : Within T s0 s) : Within T s0 (State.ptpFollow s m i) := by
  unfold State.ptpFollow
  extract_lets s1
  clear_value s1
  split
  · rename_i x2 x3 x4 x5 e6
    refine within_ite ?_ ?_
    · refine State.syncDone_within pregs pshadow ptb pstg pq91 prk pscan pest ptime pcan ?_
      exact h0'
    · exact h0'
  · rename_i x7 e8
    exact h0'

theorem execFollowUp_within {port : Fin 2} {l2 : Bool} {m : List Byte} {s : State} (pregs : Part.regs ∈ T) (pshadow : Part.shadow ∈ T) (ptb : Part.tb ∈ T) (pstg : Part.stg ∈ T) (pq91 : Part.q91 ∈ T) (prk : Part.rk ∈ T) (pscan : Part.scan ∈ T) (pest : Part.est ∈ T) (ptime : Part.time ∈ T) (pcan : Part.can ∈ T) (h3' : Within T s0 s) : ∃ u', (execFollowUp port l2 m s) = .next u' ∧ Within T s0 u' := by
  unfold execFollowUp
  refine ⟨_, rfl, ?_⟩
  refine State.eachTaker_within ?_ ?_
  · exact h3'
  · intro s1 x2 h3
    refine State.ptpFollow_within pregs pshadow ptb pstg pq91 prk pscan pest ptime pcan ?_
    exact h3

theorem State.ptpPdelayReq_within {s : State} {port : ℕ} {l2 : Bool} {dev : ℤ} {m : List Byte} {i : ℕ} (pout : Part.out ∈ T) (ptime : Part.time ∈ T) (h0' : Within T s0 s) : Within T s0 (State.ptpPdelayReq s port l2 dev m i) := by
  unfold State.ptpPdelayReq
  extract_lets s1
  rename_i x2
  clear_value s1 x2
  refine within_ite ?_ ?_
  · exact h0'
  · refine State.send_within pout ?_
    refine State.setPtp_within ptime ?_
    exact h0'

theorem execPdelayReq_within {port : Fin 2} {l2 : Bool} {dev : ℤ} {m : List Byte} {s : State} (pout : Part.out ∈ T) (ptime : Part.time ∈ T) (h4' : Within T s0 s) : ∃ u', (execPdelayReq port l2 dev m s) = .next u' ∧ Within T s0 u' := by
  unfold execPdelayReq
  refine ⟨_, rfl, ?_⟩
  refine State.eachTaker_within ?_ ?_
  · exact h4'
  · intro s1 x2 h3
    refine State.ptpPdelayReq_within pout ptime ?_
    exact h3

theorem State.ptpPdelayResp_within {s : State} {port : ℕ} {dev : ℤ} {m : List Byte} {i : ℕ} (pregs : Part.regs ∈ T) (pshadow : Part.shadow ∈ T) (ptb : Part.tb ∈ T) (pstg : Part.stg ∈ T) (pq91 : Part.q91 ∈ T) (prk : Part.rk ∈ T) (pscan : Part.scan ∈ T) (pest : Part.est ∈ T) (ptime : Part.time ∈ T) (pcan : Part.can ∈ T) (h0' : Within T s0 s) : Within T s0 (State.ptpPdelayResp s port dev m i) := by
  unfold State.ptpPdelayResp
  extract_lets s1 s2
  clear_value s1 s2
  refine within_ite ?_ ?_
  · exact h0'
  · refine within_ite ?_ ?_
    · refine State.setPtp_within ptime ?_
      exact h0'
    · refine State.peerDone_within pregs pshadow ptb pstg pq91 prk pscan pest ptime pcan ?_
      exact h0'

theorem execPdelayResp_within {port : Fin 2} {l2 : Bool} {dev : ℤ} {m : List Byte} {s : State} (pregs : Part.regs ∈ T) (pshadow : Part.shadow ∈ T) (ptb : Part.tb ∈ T) (pstg : Part.stg ∈ T) (pq91 : Part.q91 ∈ T) (prk : Part.rk ∈ T) (pscan : Part.scan ∈ T) (pest : Part.est ∈ T) (ptime : Part.time ∈ T) (pcan : Part.can ∈ T) (h4' : Within T s0 s) : ∃ u', (execPdelayResp port l2 dev m s) = .next u' ∧ Within T s0 u' := by
  unfold execPdelayResp
  refine ⟨_, rfl, ?_⟩
  refine State.eachTaker_within ?_ ?_
  · exact h4'
  · intro s1 x2 h3
    refine State.ptpPdelayResp_within pregs pshadow ptb pstg pq91 prk pscan pest ptime pcan ?_
    exact h3

theorem State.ptpPdelayFollow_within {s : State} {port : ℕ} {m : List Byte} {i : ℕ} (pregs : Part.regs ∈ T) (pshadow : Part.shadow ∈ T) (ptb : Part.tb ∈ T) (pstg : Part.stg ∈ T) (pq91 : Part.q91 ∈ T) (prk : Part.rk ∈ T) (pscan : Part.scan ∈ T) (pest : Part.est ∈ T) (ptime : Part.time ∈ T) (pcan : Part.can ∈ T) (h0' : Within T s0 s) : Within T s0 (State.ptpPdelayFollow s port m i) := by
  unfold State.ptpPdelayFollow
  extract_lets s1
  clear_value s1
  split
  · rename_i x2 x3 x4 x5 x6 e7
    refine within_ite ?_ ?_
    · refine State.peerDone_within pregs pshadow ptb pstg pq91 prk pscan pest ptime pcan ?_
      exact h0'
    · exact h0'
  · rename_i x8 e9
    exact h0'

theorem execPdelayRespFollowUp_within {port : Fin 2} {l2 : Bool} {m : List Byte} {s : State} (pregs : Part.regs ∈ T) (pshadow : Part.shadow ∈ T) (ptb : Part.tb ∈ T) (pstg : Part.stg ∈ T) (pq91 : Part.q91 ∈ T) (prk : Part.rk ∈ T) (pscan : Part.scan ∈ T) (pest : Part.est ∈ T) (ptime : Part.time ∈ T) (pcan : Part.can ∈ T) (h3' : Within T s0 s) : ∃ u', (execPdelayRespFollowUp port l2 m s) = .next u' ∧ Within T s0 u' := by
  unfold execPdelayRespFollowUp
  refine ⟨_, rfl, ?_⟩
  refine State.eachTaker_within ?_ ?_
  · exact h3'
  · intro s1 x2 h3
    refine State.ptpPdelayFollow_within pregs pshadow ptb pstg pq91 prk pscan pest ptime pcan ?_
    exact h3

theorem State.ptpSync_within {s : State} {dev : ℤ} {m : List Byte} {i : ℕ} (pregs : Part.regs ∈ T) (pshadow : Part.shadow ∈ T) (ptb : Part.tb ∈ T) (pstg : Part.stg ∈ T) (pq91 : Part.q91 ∈ T) (prk : Part.rk ∈ T) (pscan : Part.scan ∈ T) (pest : Part.est ∈ T) (ptime : Part.time ∈ T) (pcan : Part.can ∈ T) (h0' : Within T s0 s) : Within T s0 (State.ptpSync s dev m i) := by
  unfold State.ptpSync
  extract_lets s1 s2
  clear_value s1 s2
  refine within_ite ?_ ?_
  · exact h0'
  · refine within_ite ?_ ?_
    · refine State.setPtp_within ptime ?_
      exact h0'
    · refine State.syncDone_within pregs pshadow ptb pstg pq91 prk pscan pest ptime pcan ?_
      exact h0'

theorem execSyncMsg_within {port : Fin 2} {l2 : Bool} {dev : ℤ} {m : List Byte} {s : State} (pregs : Part.regs ∈ T) (pshadow : Part.shadow ∈ T) (ptb : Part.tb ∈ T) (pstg : Part.stg ∈ T) (pq91 : Part.q91 ∈ T) (prk : Part.rk ∈ T) (pscan : Part.scan ∈ T) (pest : Part.est ∈ T) (ptime : Part.time ∈ T) (pcan : Part.can ∈ T) (h4' : Within T s0 s) : ∃ u', (execSyncMsg port l2 dev m s) = .next u' ∧ Within T s0 u' := by
  unfold execSyncMsg
  refine ⟨_, rfl, ?_⟩
  refine State.eachTaker_within ?_ ?_
  · exact h4'
  · intro s1 x2 h3
    refine State.ptpSync_within pregs pshadow ptb pstg pq91 prk pscan pest ptime pcan ?_
    exact h3

theorem execTimestampEntry_within {port : Fin 2} {kind : Fin 4} {i : Fin 2} {id : BitVec 16} {dev : ℤ} {s : State} (pregs : Part.regs ∈ T) (pshadow : Part.shadow ∈ T) (pout : Part.out ∈ T) (ptb : Part.tb ∈ T) (pstg : Part.stg ∈ T) (pq91 : Part.q91 ∈ T) (prk : Part.rk ∈ T) (pscan : Part.scan ∈ T) (pest : Part.est ∈ T) (ptime : Part.time ∈ T) (pcan : Part.can ∈ T) (h5' : Within T s0 s) : ∃ u', (execTimestampEntry port kind i id dev s) = .next u' ∧ Within T s0 u' := by
  unfold execTimestampEntry
  extract_lets s1 s2
  rename_i x3
  clear_value s1 s2 x3
  refine out_ite ?_ ?_
  · refine ⟨_, rfl, ?_⟩
    exact h5'
  · refine ⟨_, rfl, ?_⟩
    refine State.pushStamp_within pregs pshadow pout ptb pstg pq91 prk pscan pest ptime pcan ?_
    exact h5'

theorem execTimestampEntryStale_within {port : Fin 2} {s : State} (pregs : Part.regs ∈ T) (ptime : Part.time ∈ T) (h1' : Within T s0 s) : ∃ u', (execTimestampEntryStale port s) = .next u' ∧ Within T s0 u' := by
  unfold execTimestampEntryStale
  split
  · rename_i x1 e2
    refine ⟨_, rfl, ?_⟩
    exact h1'
  · rename_i x3 x4 x5 e6
    refine ⟨_, rfl, ?_⟩
    refine State.bump_within pregs ?_
    refine State.setTxq_within pregs ptime ?_
    exact h1'

/-! ## ScanOps -/

theorem ScanEval.put_within {e : ScanEval} {area : ℕ} {i : ℕ} {mask : ℕ} {v : ℕ} (h0' : Within T s0 e.st) : Within T s0 (ScanEval.put e area i mask v).st := by
  unfold ScanEval.put
  split
  · rename_i e1
    dsimp only
    exact h0'
  · rename_i e2
    extract_lets s3
    clear_value s3
    split
    rename_i x4 x5 x6 e7
    extract_lets s8
    clear_value s8
    dsimp only
    exact h0'

theorem ScanEval.putBool_within {e : ScanEval} {l : ScanLatch} {w : ℕ} {b : Bool} (h0' : Within T s0 e.st) : Within T s0 (ScanEval.putBool e l w b).st := by
  unfold ScanEval.putBool
  extract_lets s1 s2
  rename_i x3 x4
  clear_value s1 s2 x3 x4
  split
  · rename_i e5
    refine ScanEval.put_within ?_
    exact h0'
  · rename_i e6
    refine ScanEval.put_within ?_
    exact h0'

theorem ScanEval.keep_within {e : ScanEval} {b : Block} {bytes : List Byte} (h0' : Within T s0 e.st) : Within T s0 (ScanEval.keep e b bytes).st := by
  unfold ScanEval.keep
  dsimp only
  exact h0'

theorem ScanEval.putNum_within {e : ScanEval} {w : ℕ} {v : ℕ} (h0' : Within T s0 e.st) : Within T s0 (ScanEval.putNum e w v).st := by
  unfold ScanEval.putNum
  refine ScanEval.put_within ?_
  exact h0'

theorem ScanEval.putInt_within {e : ScanEval} {w : ℕ} {v : ℤ} (h0' : Within T s0 e.st) : Within T s0 (ScanEval.putInt e w v).st := by
  unfold ScanEval.putInt
  refine ScanEval.putNum_within ?_
  exact h0'

theorem ScanEval.move_within {e : ScanEval} {l : ScanLatch} {b : Block} {src : ℕ} {dst : ℕ} (h0' : Within T s0 e.st) : Within T s0 (ScanEval.move e l b src dst).st := by
  unfold ScanEval.move
  split
  · rename_i e1
    split
    · rename_i e2
      refine ScanEval.putBool_within ?_
      exact h0'
    · rename_i e3
      refine ScanEval.putNum_within ?_
      exact h0'
  · rename_i e4
    extract_lets s5
    clear_value s5
    split
    · rename_i e6
      refine ScanEval.putNum_within ?_
      exact h0'
    · rename_i e7
      refine ScanEval.putInt_within ?_
      exact h0'

theorem ScanEval.register_within {e : ScanEval} {l : ScanLatch} {b : Block} {ins : List ℕ} {outs : List ℕ} (pregs : Part.regs ∈ T) (pstaged : Part.staged ∈ T) (pshadow : Part.shadow ∈ T) (pout : Part.out ∈ T) (paccErr : Part.accErr ∈ T) (preadData : Part.readData ∈ T) (ptb : Part.tb ∈ T) (pcrown : Part.crown ∈ T) (pstg : Part.stg ∈ T) (pq91 : Part.q91 ∈ T) (ppwm : Part.pwm ∈ T) (ploop : Part.loop ∈ T) (ptrack : Part.track ∈ T) (pprot : Part.prot ∈ T) (phost : Part.host ∈ T) (prk : Part.rk ∈ T) (pscan : Part.scan ∈ T) (pimp : Part.imp ∈ T) (pest : Part.est ∈ T) (ptmx : Part.tmx ∈ T) (pdisp : Part.disp ∈ T) (peng : Part.eng ∈ T) (pringSt : Part.ringSt ∈ T) (pharv : Part.harv ∈ T) (pbal : Part.bal ∈ T) (ptherm : Part.therm ∈ T) (ptele : Part.tele ∈ T) (pnvm : Part.nvm ∈ T) (ptime : Part.time ∈ T) (pcan : Part.can ∈ T) (ppair : Part.pair ∈ T) (palm : Part.alm ∈ T) (h0' : Within T s0 e.st) : Within T s0 (ScanEval.register e l b ins outs).st := by
  unfold ScanEval.register
  extract_lets s1 s2 s3
  rename_i s4 s5 s6 x7 x8 s9 x10 s11
  clear_value s2
  have h12 : Within T s0 s4 := by
    unfold s4
    exact h0'
  have h13 : Within T s0 s5 := by
    unfold s5
    refine within_ite ?_ ?_
    · refine State.readReg_within pregs paccErr preadData pq91 phost ptele ?_
      exact h0'
    · exact within_upd h12 (accErr := .inl paccErr) (readData := .inl preadData)
  have h14 : Within T s0 s6.st := by
    unfold s6
    refine ScanEval.keep_within ?_
    dsimp only
    exact h13
  have h15 : Within T s0 s9 := by
    unfold s9
    refine within_ite ?_ ?_
    · refine within_ite ?_ ?_
      · refine State.writeReg_within pregs pstaged pshadow pout paccErr preadData ptb pcrown pstg pq91 ppwm ploop ptrack pprot phost prk pscan pimp pest ptmx pdisp peng pringSt pharv pbal ptherm ptele pnvm ptime pcan ppair palm ?_
        exact h0'
      · exact within_upd h12 (accErr := .inl paccErr)
    · exact h0'
  have h16 : Within T s0 s11.st := by
    unfold s11
    refine ScanEval.keep_within ?_
    dsimp only
    exact h15
  clear_value s1 s3 s4 s5 s6 x7 x8 s9 x10 s11
  split
  · rename_i e17
    refine ScanEval.putNum_within ?_
    refine ScanEval.putNum_within ?_
    exact h14
  · rename_i e18
    refine ScanEval.putNum_within ?_
    exact h16

theorem ScanEval.station_within {e : ScanEval} {l : ScanLatch} {n : ℕ} {outs : List ℕ} (pfree : Part.free ∈ T) (h0' : Within T s0 e.st) : Within T s0 (ScanEval.station e l n outs).st := by
  unfold ScanEval.station
  extract_lets s1
  clear_value s1
  split
  · rename_i e2
    refine ScanEval.putNum_within ?_
    refine ScanEval.putBool_within ?_
    refine ScanEval.putBool_within ?_
    exact h0'
  · rename_i e3
    split
    rename_i s4 x5 s6 e7
    have h8 : Within T s0 s6 := by
      refine within_of_snd e7 ?_
      refine State.drawFree_within pfree ?_
      exact h0'
    refine ScanEval.putNum_within ?_
    refine ScanEval.putBool_within ?_
    refine ScanEval.putBool_within ?_
    dsimp only
    exact h8

theorem ScanEval.block_within {l : ScanLatch} {e : ScanEval} {b : Block} (pregs : Part.regs ∈ T) (pstaged : Part.staged ∈ T) (pshadow : Part.shadow ∈ T) (pout : Part.out ∈ T) (pfree : Part.free ∈ T) (paccErr : Part.accErr ∈ T) (preadData : Part.readData ∈ T) (ptb : Part.tb ∈ T) (pcrown : Part.crown ∈ T) (pstg : Part.stg ∈ T) (pq91 : Part.q91 ∈ T) (ppwm : Part.pwm ∈ T) (ploop : Part.loop ∈ T) (ptrack : Part.track ∈ T) (pprot : Part.prot ∈ T) (phost : Part.host ∈ T) (prk : Part.rk ∈ T) (pscan : Part.scan ∈ T) (pimp : Part.imp ∈ T) (pest : Part.est ∈ T) (ptmx : Part.tmx ∈ T) (pdisp : Part.disp ∈ T) (peng : Part.eng ∈ T) (pringSt : Part.ringSt ∈ T) (pharv : Part.harv ∈ T) (pbal : Part.bal ∈ T) (ptherm : Part.therm ∈ T) (ptele : Part.tele ∈ T) (pnvm : Part.nvm ∈ T) (ptime : Part.time ∈ T) (pcan : Part.can ∈ T) (ppair : Part.pair ∈ T) (palm : Part.alm ∈ T) (h1' : Within T s0 e.st) : Within T s0 (ScanEval.block l e b).st := by
  unfold ScanEval.block
  extract_lets s1 s2 s3 s4 s5
  rename_i x6 x7 x8 x9 x10 x11 x12 x13
  clear_value s2
  clear_value s3
  clear_value s1 s4 s5 x6 x7 x8 x9 x10 x11 x12 x13
  split
  · rename_i e14
    exact h1'
  · rename_i e15
    split
    · rename_i x16 e17
      refine ScanEval.putBool_within ?_
      exact h1'
    · rename_i x18 e19
      refine ScanEval.putBool_within ?_
      exact h1'
    · rename_i x20 e21
      refine ScanEval.putBool_within ?_
      exact h1'
    · rename_i x22 e23
      refine ScanEval.putBool_within ?_
      exact h1'
    · rename_i x24 e25
      refine ScanEval.putBool_within ?_
      refine ScanEval.keep_within ?_
      exact h1'
    · rename_i x26 e27
      refine ScanEval.putBool_within ?_
      refine ScanEval.keep_within ?_
      exact h1'
    · rename_i x28 e29
      refine ScanEval.putBool_within ?_
      refine ScanEval.keep_within ?_
      exact h1'
    · rename_i x30 e31
      refine ScanEval.putBool_within ?_
      refine ScanEval.keep_within ?_
      exact h1'
    · rename_i x32 e33
      refine ScanEval.move_within ?_
      exact h1'
    · rename_i x34 e35
      refine ScanEval.move_within ?_
      exact h1'
    · rename_i x36 e37
      refine ScanEval.putNum_within ?_
      exact h1'
    · rename_i x38 e39
      refine ScanEval.putNum_within ?_
      exact h1'
    · rename_i x40 e41
      refine ScanEval.putNum_within ?_
      exact h1'
    · rename_i x42 e43
      refine ScanEval.putNum_within ?_
      exact h1'
    · rename_i x44 e45
      refine ScanEval.putNum_within ?_
      exact h1'
    · rename_i x46 e47
      refine ScanEval.putNum_within ?_
      exact h1'
    · rename_i x48 e49
      refine ScanEval.putBool_within ?_
      refine ScanEval.putBool_within ?_
      refine ScanEval.putBool_within ?_
      exact h1'
    · rename_i x50 e51
      refine ScanEval.putInt_within ?_
      refine ScanEval.putBool_within ?_
      refine ScanEval.keep_within ?_
      exact h1'
    · rename_i x52 e53
      refine ScanEval.putInt_within ?_
      refine ScanEval.putBool_within ?_
      refine ScanEval.keep_within ?_
      exact h1'
    · rename_i x54 e55
      refine ScanEval.putInt_within ?_
      refine ScanEval.putBool_within ?_
      refine ScanEval.keep_within ?_
      exact h1'
    · rename_i x56 e57
      refine ScanEval.putInt_within ?_
      refine ScanEval.putBool_within ?_
      refine ScanEval.keep_within ?_
      exact h1'
    · rename_i x58 e59
      refine ScanEval.putInt_within ?_
      refine ScanEval.putBool_within ?_
      refine ScanEval.keep_within ?_
      exact h1'
    · rename_i x60 e61
      refine ScanEval.putInt_within ?_
      refine ScanEval.putBool_within ?_
      refine ScanEval.putBool_within ?_
      refine ScanEval.keep_within ?_
      exact h1'
    · rename_i x62 e63
      refine ScanEval.register_within pregs pstaged pshadow pout paccErr preadData ptb pcrown pstg pq91 ppwm ploop ptrack pprot phost prk pscan pimp pest ptmx pdisp peng pringSt pharv pbal ptherm ptele pnvm ptime pcan ppair palm ?_
      exact h1'
    · rename_i x64 e65
      refine ScanEval.register_within pregs pstaged pshadow pout paccErr preadData ptb pcrown pstg pq91 ppwm ploop ptrack pprot phost prk pscan pimp pest ptmx pdisp peng pringSt pharv pbal ptherm ptele pnvm ptime pcan ppair palm ?_
      exact h1'
    · rename_i x66 e67
      refine ScanEval.putNum_within ?_
      refine ScanEval.putBool_within ?_
      exact h1'
    · rename_i x68 e69
      refine ScanEval.station_within pfree ?_
      exact h1'
    · rename_i x70 e71 e72 e73 e74 e75 e76 e77 e78 e79 e80 e81 e82 e83 e84 e85 e86 e87 e88 e89 e90 e91 e92 e93 e94 e95 e96 e97
      exact h1'

theorem State.driveOutputs_within {s : State} (pregs : Part.regs ∈ T) (h0' : Within T s0 s) : Within T s0 (State.driveOutputs s) := by
  unfold State.driveOutputs
  refine within_ite ?_ ?_
  · refine State.wr_within pregs ?_
    exact h0'
  · exact h0'

theorem State.dropStation_within {s : State} {n : ℕ} (pregs : Part.regs ∈ T) (pq91 : Part.q91 ∈ T) (prk : Part.rk ∈ T) (pscan : Part.scan ∈ T) (h0' : Within T s0 s) : Within T s0 (State.dropStation s n) := by
  unfold State.dropStation
  extract_lets s1 s2 s3
  rename_i s4
  have h5 : Within T s0 s3 := by
    unfold s3
    exact within_upd h0' (scan := .inl pscan)
  have h6 : Within T s0 s4 := by
    unfold s4
    refine State.wr_within pregs ?_
    refine State.wrB_within pregs ?_
    refine State.wrB_within pregs ?_
    exact h5
  clear_value s1 s2 s3 s4
  refine within_ite ?_ ?_
  · refine State.raise_within pregs pq91 prk pscan ?_
    refine State.bump_within pregs ?_
    exact h6
  · exact h6

theorem State.latchStation_within {s : State} {n : ℕ} (pregs : Part.regs ∈ T) (pq91 : Part.q91 ∈ T) (prk : Part.rk ∈ T) (pscan : Part.scan ∈ T) (h0' : Within T s0 s) : Within T s0 (State.latchStation s n) := by
  unfold State.latchStation
  extract_lets s1 s2 s3 s4 s5 s6 s7
  rename_i s8
  have h9 : Within T s0 s6 := by
    unfold s6
    exact within_upd h0' (scan := .inl pscan)
  have h10 : Within T s0 s8 := by
    unfold s8
    refine State.wr_within pregs ?_
    refine State.wrB_within pregs ?_
    exact h9
  clear_value s1 s2 s3 s4 s5 s6 s7 s8
  refine within_ite ?_ ?_
  · refine State.raise_within pregs pq91 prk pscan ?_
    refine State.bump_within pregs ?_
    exact h10
  · refine within_ite ?_ ?_
    · refine State.raise_within pregs pq91 prk pscan ?_
      exact h10
    · exact h10

theorem State.setMarker_within {s : State} {i : ℕ} {v : ℕ} (pregs : Part.regs ∈ T) (pscan : Part.scan ∈ T) (h0' : Within T s0 s) : Within T s0 (State.setMarker s i v) := by
  unfold State.setMarker
  refine within_ite ?_ ?_
  · refine State.wr_within pregs ?_
    exact h0'
  · exact within_upd h0' (scan := .inl pscan)

theorem State.publishWrites_within {s : State} {l : List (ℕ × ℕ × ℕ)} (pregs : Part.regs ∈ T) (pscan : Part.scan ∈ T) (h0' : Within T s0 s) : Within T s0 (State.publishWrites s l) := by
  unfold State.publishWrites
  refine within_foldl ?_ ?_
  · exact h0'
  · intro s1 x2 h3
    extract_lets s4 s5 s6
    rename_i x7
    clear_value s6
    clear_value s4 s5 x7
    refine within_ite ?_ ?_
    · exact within_upd h3 (scan := .inl pscan)
    · refine State.setMarker_within pregs pscan ?_
      exact h3

theorem State.renewStations_within {s : State} {t : ℕ} (pregs : Part.regs ∈ T) (pq91 : Part.q91 ∈ T) (prk : Part.rk ∈ T) (pscan : Part.scan ∈ T) (h0' : Within T s0 s) : Within T s0 (State.renewStations s t) := by
  unfold State.renewStations
  extract_lets s1 s2
  rename_i s3
  have h4 : Within T s0 s3 := by
    unfold s3
    exact within_upd h0' (scan := .inl pscan)
  clear_value s1 s2 s3
  refine within_foldl ?_ ?_
  · exact h4
  · intro s5 x6 h7
    refine within_ite ?_ ?_
    · exact h7
    · refine State.dropStation_within pregs pq91 prk pscan ?_
      exact h7

theorem State.showDelivery_within {s : State} {n : ℕ} (pregs : Part.regs ∈ T) (h0' : Within T s0 s) : Within T s0 (State.showDelivery s n) := by
  unfold State.showDelivery
  extract_lets s1
  clear_value s1
  refine State.wrB_within pregs ?_
  exact h0'

theorem State.sendStation_within {s : State} {n : ℕ} (pregs : Part.regs ∈ T) (pout : Part.out ∈ T) (pq91 : Part.q91 ∈ T) (prk : Part.rk ∈ T) (pscan : Part.scan ∈ T) (peng : Part.eng ∈ T) (h0' : Within T s0 s) : Within T s0 (State.sendStation s n) := by
  unfold State.sendStation
  extract_lets s1 s2 s3 s4 s5 s6 s7
  rename_i s8
  have h9 : Within T s0 s6 := by
    unfold s6
    exact within_upd h0' (scan := .inl pscan)
  have h10 : Within T s0 s8 := by
    unfold s8
    split
    · rename_i x11 e12
      refine State.canService_within pregs pq91 prk pscan peng ?_
      exact h9
    · rename_i x13 e14
      refine within_ite ?_ ?_
      · refine State.send_within pout ?_
        exact h9
      · exact h9
  clear_value s1 s2 s3 s4 s5 s6 s7 s8
  refine State.showDelivery_within pregs ?_
  exact h10

theorem State.publishScan_within {s : State} {t : ℕ} (pregs : Part.regs ∈ T) (pout : Part.out ∈ T) (pq91 : Part.q91 ∈ T) (prk : Part.rk ∈ T) (pscan : Part.scan ∈ T) (peng : Part.eng ∈ T) (ppair : Part.pair ∈ T) (h0' : Within T s0 s) : Within T s0 (State.publishScan s t) := by
  unfold State.publishScan
  extract_lets s1 s2 s3 s4 s5 s6 s7
  have h8 : Within T s0 s3 := by
    unfold s3
    refine State.setTask_within pscan ?_
    exact h0'
  have h9 : Within T s0 s4 := by
    unfold s4
    refine State.driveOutputs_within pregs ?_
    refine State.publishWrites_within pregs pscan ?_
    exact h8
  have h10 : Within T s0 s5 := by
    unfold s5
    refine State.wr_within pregs ?_
    exact h9
  have h11 : Within T s0 s6 := by
    unfold s6
    refine within_ite ?_ ?_
    · refine State.wr_within pregs ?_
      exact h10
    · exact h10
  have h12 : Within T s0 s7 := by
    unfold s7
    refine State.renewStations_within pregs pq91 prk pscan ?_
    refine State.mirror_within pout ppair ?_
    exact h11
  clear_value s1 s2 s3 s4 s5 s6 s7
  refine within_ite ?_ ?_
  · refine State.taskOff_within pregs pscan ?_
    exact h12
  · refine within_ite ?_ ?_
    · refine within_foldl ?_ ?_
      · exact h12
      · intro s13 x14 h15
        refine State.sendStation_within pregs pout pq91 prk pscan peng ?_
        exact h15
    · exact h12

theorem State.takeNetwork_within {s : State} {t : ℕ} (pscan : Part.scan ∈ T) (h0' : Within T s0 s) : Within T s0 (State.takeNetwork s t) := by
  unfold State.takeNetwork
  extract_lets s1 s2
  rename_i x3
  clear_value s1 s2 x3
  refine within_ite ?_ ?_
  · exact h0'
  · refine State.setTask_within pscan ?_
    exact h0'

theorem State.runScan_within {s : State} {t : ℕ} (pregs : Part.regs ∈ T) (pstaged : Part.staged ∈ T) (pshadow : Part.shadow ∈ T) (pout : Part.out ∈ T) (pfree : Part.free ∈ T) (paccErr : Part.accErr ∈ T) (preadData : Part.readData ∈ T) (ptb : Part.tb ∈ T) (pcrown : Part.crown ∈ T) (pstg : Part.stg ∈ T) (pq91 : Part.q91 ∈ T) (ppwm : Part.pwm ∈ T) (ploop : Part.loop ∈ T) (ptrack : Part.track ∈ T) (pprot : Part.prot ∈ T) (phost : Part.host ∈ T) (prk : Part.rk ∈ T) (pscan : Part.scan ∈ T) (pimp : Part.imp ∈ T) (pest : Part.est ∈ T) (ptmx : Part.tmx ∈ T) (pdisp : Part.disp ∈ T) (peng : Part.eng ∈ T) (pringSt : Part.ringSt ∈ T) (pharv : Part.harv ∈ T) (pbal : Part.bal ∈ T) (ptherm : Part.therm ∈ T) (ptele : Part.tele ∈ T) (pnvm : Part.nvm ∈ T) (ptime : Part.time ∈ T) (pcan : Part.can ∈ T) (ppair : Part.pair ∈ T) (palm : Part.alm ∈ T) (h0' : Within T s0 s) : Within T s0 (State.runScan s t) := by
  unfold State.runScan
  extract_lets s1 s2 s3 s4 s5 s6 s7 s8
  rename_i s9 x10
  have h11 : Within T s0 s1 := by
    unfold s1
    refine State.takeNetwork_within pscan ?_
    exact h0'
  have h12 : Within T s0 s2 := by
    unfold s2
    refine within_foldl ?_ ?_
    · exact h11
    · intro s13 x14 h15
      refine State.latchStation_within pregs pq91 prk pscan ?_
      exact h15
  have h16 : Within T s0 s5 := by
    unfold s5
    exact within_upd h12 (scan := .inl pscan)
  have h17 : Within T s0 s7 := by
    unfold s7
    refine State.setTask_within pscan ?_
    exact h16
  have h18 : Within T s0 s9.st := by
    unfold s9
    refine within_foldl_st ?_ ?_
    · dsimp only
      exact h17
    · intro s19 x20 h21
      refine ScanEval.block_within pregs pstaged pshadow pout pfree paccErr preadData ptb pcrown pstg pq91 ppwm ploop ptrack pprot phost prk pscan pimp pest ptmx pdisp peng pringSt pharv pbal ptherm ptele pnvm ptime pcan ppair palm ?_
      exact h21
  clear_value s1 s2 s3 s4 s5 s6 s7 s8 s9 x10
  refine within_ite ?_ ?_
  · refine State.setTask_within pscan ?_
    exact h18
  · exact h18

theorem State.taskWatchdog_within {s : State} {t : ℕ} (pregs : Part.regs ∈ T) (pshadow : Part.shadow ∈ T) (pout : Part.out ∈ T) (pcrown : Part.crown ∈ T) (pstg : Part.stg ∈ T) (pq91 : Part.q91 ∈ T) (ppwm : Part.pwm ∈ T) (ploop : Part.loop ∈ T) (ptrack : Part.track ∈ T) (pprot : Part.prot ∈ T) (prk : Part.rk ∈ T) (pscan : Part.scan ∈ T) (pimp : Part.imp ∈ T) (pest : Part.est ∈ T) (ptmx : Part.tmx ∈ T) (pringSt : Part.ringSt ∈ T) (pbal : Part.bal ∈ T) (ptele : Part.tele ∈ T) (pnvm : Part.nvm ∈ T) (ppair : Part.pair ∈ T) (h0' : Within T s0 s) : Within T s0 (State.taskWatchdog s t) := by
  unfold State.taskWatchdog
  extract_lets s1 s2
  rename_i s3
  have h4 : Within T s0 s2 := by
    unfold s2
    refine State.wrBit_within pregs ?_
    refine State.setTask_within pscan ?_
    exact h0'
  have h5 : Within T s0 s3 := by
    unfold s3
    refine State.raise_within pregs pq91 prk pscan ?_
    refine State.taskOff_within pregs pscan ?_
    exact h4
  clear_value s1 s2 s3
  refine within_ite ?_ ?_
  · refine State.react_within pregs pshadow pout pcrown pstg pq91 ppwm ploop ptrack pprot prk pscan pimp pest ptmx pringSt pbal ptele pnvm ppair ?_
    refine State.lasting_within pregs ?_
    refine State.addCond_within pregs pprot ?_
    exact h5
  · refine State.lastingW_within pregs pq91 ?_
    exact h5

theorem State.skipStart_within {s : State} {t : ℕ} (pregs : Part.regs ∈ T) (pshadow : Part.shadow ∈ T) (pout : Part.out ∈ T) (pcrown : Part.crown ∈ T) (pstg : Part.stg ∈ T) (pq91 : Part.q91 ∈ T) (ppwm : Part.pwm ∈ T) (ploop : Part.loop ∈ T) (ptrack : Part.track ∈ T) (pprot : Part.prot ∈ T) (prk : Part.rk ∈ T) (pscan : Part.scan ∈ T) (pimp : Part.imp ∈ T) (pest : Part.est ∈ T) (ptmx : Part.tmx ∈ T) (pringSt : Part.ringSt ∈ T) (pbal : Part.bal ∈ T) (ptele : Part.tele ∈ T) (pnvm : Part.nvm ∈ T) (ppair : Part.pair ∈ T) (h0' : Within T s0 s) : Within T s0 (State.skipStart s t) := by
  unfold State.skipStart
  extract_lets s1 s2 s3 s4
  rename_i s5
  have h6 : Within T s0 s1 := by
    unfold s1
    refine State.raise_within pregs pq91 prk pscan ?_
    refine State.bump_within pregs ?_
    refine State.bump_within pregs ?_
    exact h0'
  have h7 : Within T s0 s2 := by
    unfold s2
    refine within_ite ?_ ?_
    · refine State.cancelApply_within pregs pshadow pstg ?_
      exact h6
    · exact h6
  have h8 : Within T s0 s5 := by
    unfold s5
    refine State.setTask_within pscan ?_
    exact h7
  clear_value s1 s2 s3 s4 s5
  refine within_ite ?_ ?_
  · refine State.taskWatchdog_within pregs pshadow pout pcrown pstg pq91 ppwm ploop ptrack pprot prk pscan pimp pest ptmx pringSt pbal ptele pnvm ppair ?_
    exact h8
  · exact h8

theorem State.takeStation_within {s : State} {n : ℕ} {f : List Byte} (pregs : Part.regs ∈ T) (pq91 : Part.q91 ∈ T) (prk : Part.rk ∈ T) (pscan : Part.scan ∈ T) (h0' : Within T s0 s) : Within T s0 (State.takeStation s n f) := by
  unfold State.takeStation
  refine within_ite ?_ ?_
  · extract_lets s1 s2 s3 s4 s5
    rename_i x6
    clear_value s1 s2 s3 s4 s5 x6
    refine State.showDelivery_within pregs ?_
    refine State.bump_within pregs ?_
    exact within_upd h0' (scan := .inl pscan)
  · refine State.raise_within pregs pq91 prk pscan ?_
    refine State.bump_within pregs ?_
    exact h0'

/-! ## ScanFam -/

theorem execDiChange_within {di : BitVec 16} {s : State} (pregs : Part.regs ∈ T) (pq91 : Part.q91 ∈ T) (prk : Part.rk ∈ T) (pscan : Part.scan ∈ T) (h1' : Within T s0 s) : ∃ u', (execDiChange di s) = .next u' ∧ Within T s0 u' := by
  unfold execDiChange
  refine ⟨_, rfl, ?_⟩
  refine within_ite ?_ ?_
  · exact h1'
  · refine State.raise_within pregs pq91 prk pscan ?_
    refine State.wr_within pregs ?_
    exact h1'

theorem execMarkerWrite_within {who : Initiator} {k : Fin 256} {v : BitVec 32} {s : State} (pregs : Part.regs ∈ T) (paccErr : Part.accErr ∈ T) (pq91 : Part.q91 ∈ T) (phost : Part.host ∈ T) (h3' : Within T s0 s) : ∃ u', (execMarkerWrite who k v s) = .next u' ∧ Within T s0 u' := by
  unfold execMarkerWrite
  refine ⟨_, rfl, ?_⟩
  refine State.asWrite_within pregs paccErr pq91 phost ?_ ?_
  · exact h3'
  · intro s1 h2
    refine State.wr_within pregs ?_
    exact h2

theorem execProgData_within {who : Initiator} {data : BitVec 32} {s : State} (pregs : Part.regs ∈ T) (pstaged : Part.staged ∈ T) (pshadow : Part.shadow ∈ T) (pout : Part.out ∈ T) (paccErr : Part.accErr ∈ T) (preadData : Part.readData ∈ T) (ptb : Part.tb ∈ T) (pcrown : Part.crown ∈ T) (pstg : Part.stg ∈ T) (pq91 : Part.q91 ∈ T) (ppwm : Part.pwm ∈ T) (ploop : Part.loop ∈ T) (ptrack : Part.track ∈ T) (pprot : Part.prot ∈ T) (phost : Part.host ∈ T) (prk : Part.rk ∈ T) (pscan : Part.scan ∈ T) (pimp : Part.imp ∈ T) (pest : Part.est ∈ T) (ptmx : Part.tmx ∈ T) (pdisp : Part.disp ∈ T) (peng : Part.eng ∈ T) (pringSt : Part.ringSt ∈ T) (pharv : Part.harv ∈ T) (pbal : Part.bal ∈ T) (ptherm : Part.therm ∈ T) (ptele : Part.tele ∈ T) (pnvm : Part.nvm ∈ T) (ptime : Part.time ∈ T) (pcan : Part.can ∈ T) (ppair : Part.pair ∈ T) (palm : Part.alm ∈ T) (h2' : Within T s0 s) : ∃ u', (execProgData who data s) = .next u' ∧ Within T s0 u' := by
  unfold execProgData
  refine ⟨_, rfl, ?_⟩
  refine State.writeReg_within pregs pstaged pshadow pout paccErr preadData ptb pcrown pstg pq91 ppwm ploop ptrack pprot phost prk pscan pimp pest ptmx pdisp peng pringSt pharv pbal ptherm ptele pnvm ptime pcan ppair palm ?_
  exact h2'

theorem execProgLive_within {who : Initiator} {s : State} (pregs : Part.regs ∈ T) (paccErr : Part.accErr ∈ T) (preadData : Part.readData ∈ T) (pq91 : Part.q91 ∈ T) (phost : Part.host ∈ T) (ptele : Part.tele ∈ T) (h1' : Within T s0 s) : ∃ u', (execProgLive who s) = .next u' ∧ Within T s0 u' := by
  unfold execProgLive
  refine ⟨_, rfl, ?_⟩
  refine State.readReg_within pregs paccErr preadData pq91 phost ptele ?_
  exact h1'

theorem execRetainInterval_within {s : State} (pscan : Part.scan ∈ T) (pnvm : Part.nvm ∈ T) (h0' : Within T s0 s) : ∃ u', (execRetainInterval s) = .next u' ∧ Within T s0 u' := by
  unfold execRetainInterval
  refine ⟨_, rfl, ?_⟩
  refine within_ite ?_ ?_
  · exact h0'
  · refine State.retainSlot_within pscan pnvm ?_
    exact h0'

theorem execScanPublish_within {t : Fin 4} {s : State} (pregs : Part.regs ∈ T) (pout : Part.out ∈ T) (pq91 : Part.q91 ∈ T) (prk : Part.rk ∈ T) (pscan : Part.scan ∈ T) (peng : Part.eng ∈ T) (ppair : Part.pair ∈ T) (h1' : Within T s0 s) : ∃ u', (execScanPublish t s) = .next u' ∧ Within T s0 u' := by
  unfold execScanPublish
  refine ⟨_, rfl, ?_⟩
  refine within_ite ?_ ?_
  · refine State.publishScan_within pregs pout pq91 prk pscan peng ppair ?_
    exact h1'
  · exact h1'

theorem execScanStart_within {t : Fin 4} {s : State} (pregs : Part.regs ∈ T) (pstaged : Part.staged ∈ T) (pshadow : Part.shadow ∈ T) (pout : Part.out ∈ T) (pfree : Part.free ∈ T) (paccErr : Part.accErr ∈ T) (preadData : Part.readData ∈ T) (ptb : Part.tb ∈ T) (pcrown : Part.crown ∈ T) (pstg : Part.stg ∈ T) (pq91 : Part.q91 ∈ T) (ppwm : Part.pwm ∈ T) (ploop : Part.loop ∈ T) (ptrack : Part.track ∈ T) (pprot : Part.prot ∈ T) (phost : Part.host ∈ T) (prk : Part.rk ∈ T) (pscan : Part.scan ∈ T) (pimp : Part.imp ∈ T) (pest : Part.est ∈ T) (ptmx : Part.tmx ∈ T) (pdisp : Part.disp ∈ T) (peng : Part.eng ∈ T) (pringSt : Part.ringSt ∈ T) (pharv : Part.harv ∈ T) (pbal : Part.bal ∈ T) (ptherm : Part.therm ∈ T) (ptele : Part.tele ∈ T) (pnvm : Part.nvm ∈ T) (ptime : Part.time ∈ T) (pcan : Part.can ∈ T) (ppair : Part.pair ∈ T) (palm : Part.alm ∈ T) (h1' : Within T s0 s) : ∃ u', (execScanStart t s) = .next u' ∧ Within T s0 u' := by
  unfold execScanStart
  refine ⟨_, rfl, ?_⟩
  refine within_ite ?_ ?_
  · exact h1'
  · refine within_ite ?_ ?_
    · refine State.skipStart_within pregs pshadow pout pcrown pstg pq91 ppwm ploop ptrack pprot prk pscan pimp pest ptmx pringSt pbal ptele pnvm ppair ?_
      exact h1'
    · refine State.runScan_within pregs pstaged pshadow pout pfree paccErr preadData ptb pcrown pstg pq91 ppwm ploop ptrack pprot phost prk pscan pimp pest ptmx pdisp peng pringSt pharv pbal ptherm ptele pnvm ptime pcan ppair palm ?_
      exact h1'

theorem State.stationFrameIn_within {s : State} {via : Via} {n : ℕ} {frame : List Byte} (pregs : Part.regs ∈ T) (pq91 : Part.q91 ∈ T) (prk : Part.rk ∈ T) (pscan : Part.scan ∈ T) (peng : Part.eng ∈ T) (h0' : Within T s0 s) : Within T s0 (State.stationFrameIn s via n frame) := by
  unfold State.stationFrameIn
  split
  · rename_i x1 x2 x3
    refine State.takeStation_within pregs pq91 prk pscan ?_
    exact h0'
  · rename_i x4 x5 x6 x7 x8
    split
    rename_i s9 s10 x11 e12
    have h13 : Within T s0 s10 := by
      refine within_of_fst e12 ?_
      refine State.push_within pregs pq91 prk pscan peng ?_
      exact h0'
    refine within_ite ?_ ?_
    · refine State.takeStation_within pregs pq91 prk pscan ?_
      exact h13
    · exact h13

theorem execStationInFrame_within {via : Via} {frame : List Byte} {s : State} (pregs : Part.regs ∈ T) (pq91 : Part.q91 ∈ T) (prk : Part.rk ∈ T) (pscan : Part.scan ∈ T) (peng : Part.eng ∈ T) (h2' : Within T s0 s) : ∃ u', (execStationInFrame via frame s) = .next u' ∧ Within T s0 u' := by
  unfold execStationInFrame
  refine ⟨_, rfl, ?_⟩
  refine within_ite ?_ ?_
  · exact h2'
  · split
    · rename_i x1 x2 e3
      refine State.stationFrameIn_within pregs pq91 prk pscan peng ?_
      exact h2'
    · rename_i x4 e5
      exact h2'

theorem execTaskRestart_within {who : Initiator} {mask : BitVec 4} {s : State} (pregs : Part.regs ∈ T) (paccErr : Part.accErr ∈ T) (pq91 : Part.q91 ∈ T) (pprot : Part.prot ∈ T) (phost : Part.host ∈ T) (pscan : Part.scan ∈ T) (h2' : Within T s0 s) : ∃ u', (execTaskRestart who mask s) = .next u' ∧ Within T s0 u' := by
  unfold execTaskRestart
  refine ⟨_, rfl, ?_⟩
  refine State.asWrite_within pregs paccErr pq91 phost ?_ ?_
  · exact h2'
  · intro s1 h2
    refine State.restartTasks_within pregs pprot pscan ?_
    exact h2

/-! ## Ticks -/

theorem State.settleActivation_within {s : State} (pregs : Part.regs ∈ T) (pstaged : Part.staged ∈ T) (pshadow : Part.shadow ∈ T) (pout : Part.out ∈ T) (paccErr : Part.accErr ∈ T) (preadData : Part.readData ∈ T) (ptb : Part.tb ∈ T) (pcrown : Part.crown ∈ T) (pstg : Part.stg ∈ T) (pq91 : Part.q91 ∈ T) (ppwm : Part.pwm ∈ T) (ploop : Part.loop ∈ T) (ptrack : Part.track ∈ T) (pprot : Part.prot ∈ T) (phost : Part.host ∈ T) (prk : Part.rk ∈ T) (pscan : Part.scan ∈ T) (pimp : Part.imp ∈ T) (pest : Part.est ∈ T) (ptmx : Part.tmx ∈ T) (pdisp : Part.disp ∈ T) (peng : Part.eng ∈ T) (pringSt : Part.ringSt ∈ T) (pharv : Part.harv ∈ T) (pbal : Part.bal ∈ T) (ptherm : Part.therm ∈ T) (ptele : Part.tele ∈ T) (pnvm : Part.nvm ∈ T) (ptime : Part.time ∈ T) (pcan : Part.can ∈ T) (ppair : Part.pair ∈ T) (palm : Part.alm ∈ T) (h0' : Within T s0 s) : Within T s0 (State.settleActivation s) := by
  unfold State.settleActivation
  refine within_ite ?_ ?_
  · refine State.activateStart_within pregs pstaged pshadow pout paccErr preadData ptb pcrown pstg pq91 ppwm ploop ptrack pprot phost prk pscan pimp pest ptmx pdisp peng pringSt pharv pbal ptherm ptele pnvm ptime pcan ppair palm ?_
    exact h0'
  · exact h0'

theorem State.settleFallback_within {s : State} (pregs : Part.regs ∈ T) (pstaged : Part.staged ∈ T) (pshadow : Part.shadow ∈ T) (pout : Part.out ∈ T) (paccErr : Part.accErr ∈ T) (preadData : Part.readData ∈ T) (ptb : Part.tb ∈ T) (pcrown : Part.crown ∈ T) (pstg : Part.stg ∈ T) (pq91 : Part.q91 ∈ T) (ppwm : Part.pwm ∈ T) (ploop : Part.loop ∈ T) (ptrack : Part.track ∈ T) (pprot : Part.prot ∈ T) (phost : Part.host ∈ T) (prk : Part.rk ∈ T) (pscan : Part.scan ∈ T) (pimp : Part.imp ∈ T) (pest : Part.est ∈ T) (ptmx : Part.tmx ∈ T) (pdisp : Part.disp ∈ T) (peng : Part.eng ∈ T) (pringSt : Part.ringSt ∈ T) (pharv : Part.harv ∈ T) (pbal : Part.bal ∈ T) (ptherm : Part.therm ∈ T) (ptele : Part.tele ∈ T) (pnvm : Part.nvm ∈ T) (ptime : Part.time ∈ T) (pcan : Part.can ∈ T) (ppair : Part.pair ∈ T) (palm : Part.alm ∈ T) (h0' : Within T s0 s) : Within T s0 (State.settleFallback s) := by
  unfold State.settleFallback
  refine within_ite ?_ ?_
  · refine State.updFallback_within pregs pstaged pshadow pout paccErr preadData ptb pcrown pstg pq91 ppwm ploop ptrack pprot phost prk pscan pimp pest ptmx pdisp peng pringSt pharv pbal ptherm ptele pnvm ptime pcan ppair palm ?_
    exact h0'
  · exact h0'

theorem State.settleNotify_within {s : State} (pout : Part.out ∈ T) (prk : Part.rk ∈ T) (h0' : Within T s0 s) : Within T s0 (State.settleNotify s) := by
  unfold State.settleNotify
  refine within_foldl ?_ ?_
  · exact h0'
  · intro s1 x2 h3
    refine State.notifySend_within pout prk ?_
    exact h3

theorem State.settleRing_within {s : State} (pregs : Part.regs ∈ T) (pout : Part.out ∈ T) (pq91 : Part.q91 ∈ T) (prk : Part.rk ∈ T) (pscan : Part.scan ∈ T) (pringSt : Part.ringSt ∈ T) (pharv : Part.harv ∈ T) (h0' : Within T s0 s) : Within T s0 (State.settleRing s) := by
  unfold State.settleRing
  refine within_ite ?_ ?_
  · refine State.cmdEnumerate_within pregs pout pq91 prk pscan pringSt pharv ?_
    exact h0'
  · exact h0'

theorem State.settleStores_within {s : State} (pregs : Part.regs ∈ T) (pq91 : Part.q91 ∈ T) (prk : Part.rk ∈ T) (pscan : Part.scan ∈ T) (pnvm : Part.nvm ∈ T) (h0' : Within T s0 s) : Within T s0 (State.settleStores s) := by
  unfold State.settleStores
  refine within_ite ?_ ?_
  · exact h0'
  · extract_lets s1
    rename_i s2 x3
    have h4 : Within T s0 s1 := by
      unfold s1
      split
      · rename_i x5 x6 x7 e8
        refine State.storeKey_within pregs pq91 prk pscan pnvm ?_
        exact h0'
      · rename_i x9 e10
        exact h0'
    have h11 : Within T s0 s2 := by
      unfold s2
      refine State.storeEntry_within pregs pnvm ?_
      exact h4
    clear_value s1 s2 x3
    refine within_ite ?_ ?_
    · exact within_upd h11 (nvm := .inl pnvm)
    · exact h4

theorem State.settleTransport_within {s : State} (pregs : Part.regs ∈ T) (pout : Part.out ∈ T) (pcrown : Part.crown ∈ T) (pringSt : Part.ringSt ∈ T) (h0' : Within T s0 s) : Within T s0 (State.settleTransport s) := by
  unfold State.settleTransport
  refine within_ite ?_ ?_
  · refine State.enterTransport_within pregs pout pcrown pringSt ?_
    exact h0'
  · exact h0'

theorem State.tickCan_within {s : State} (pregs : Part.regs ∈ T) (pcan : Part.can ∈ T) (h0' : Within T s0 s) : Within T s0 (State.tickCan s) := by
  unfold State.tickCan
  extract_lets s1
  rename_i s2
  have h3 : Within T s0 s2 := by
    unfold s2
    exact within_upd h0' (can := .inl pcan)
  clear_value s1 s2
  refine within_foldl ?_ ?_
  · exact h3
  · intro s4 x5 h6
    refine State.canIntegrated_within pregs pcan ?_
    exact h6

theorem State.tick_within {s : State} (pregs : Part.regs ∈ T) (pstaged : Part.staged ∈ T) (pshadow : Part.shadow ∈ T) (pout : Part.out ∈ T) (paccErr : Part.accErr ∈ T) (preadData : Part.readData ∈ T) (ptb : Part.tb ∈ T) (pcrown : Part.crown ∈ T) (pstg : Part.stg ∈ T) (pq91 : Part.q91 ∈ T) (ppwm : Part.pwm ∈ T) (ploop : Part.loop ∈ T) (ptrack : Part.track ∈ T) (pprot : Part.prot ∈ T) (phost : Part.host ∈ T) (prk : Part.rk ∈ T) (pscan : Part.scan ∈ T) (pimp : Part.imp ∈ T) (pest : Part.est ∈ T) (ptmx : Part.tmx ∈ T) (pdisp : Part.disp ∈ T) (peng : Part.eng ∈ T) (pringSt : Part.ringSt ∈ T) (pharv : Part.harv ∈ T) (pbal : Part.bal ∈ T) (ptherm : Part.therm ∈ T) (ptele : Part.tele ∈ T) (pnvm : Part.nvm ∈ T) (ptime : Part.time ∈ T) (pcan : Part.can ∈ T) (ppair : Part.pair ∈ T) (palm : Part.alm ∈ T) (h0' : Within T s0 s) : Within T s0 (State.tick s) := by
  unfold State.tick
  refine within_ite ?_ ?_
  · extract_lets s1
    have h2 : Within T s0 s1 := by
      unfold s1
      refine State.tickCan_within pregs pcan ?_
      refine within_foldl ?_ ?_
      · exact h0'
      · intro s3 x4 h5
        refine State.tickBase_within ptb ?_
        exact h5
    clear_value s1
    refine State.settleNotify_within pout prk ?_
    refine State.settleRing_within pregs pout pq91 prk pscan pringSt pharv ?_
    refine State.settleStores_within pregs pq91 prk pscan pnvm ?_
    refine State.settleFallback_within pregs pstaged pshadow pout paccErr preadData ptb pcrown pstg pq91 ppwm ploop ptrack pprot phost prk pscan pimp pest ptmx pdisp peng pringSt pharv pbal ptherm ptele pnvm ptime pcan ppair palm ?_
    refine State.settleActivation_within pregs pstaged pshadow pout paccErr preadData ptb pcrown pstg pq91 ppwm ploop ptrack pprot phost prk pscan pimp pest ptmx pdisp peng pringSt pharv pbal ptherm ptele pnvm ptime pcan ppair palm ?_
    refine State.lowReset_within pregs pstaged pshadow pout paccErr preadData ptb pcrown pstg pq91 ppwm ploop ptrack pprot phost prk pscan pimp pest ptmx pdisp peng pringSt pharv pbal ptherm ptele pnvm ptime pcan ppair palm ?_
    refine State.settleTransport_within pregs pout pcrown pringSt ?_
    refine State.takeHeld_within pregs pstaged pshadow pout paccErr preadData ptb pcrown pstg pq91 ppwm ploop ptrack pprot phost prk pscan pimp pest ptmx pdisp peng pringSt pharv pbal ptherm ptele pnvm ptime pcan ppair palm ?_
    refine State.dropSingles_within pregs pprot ?_
    exact h2
  · exact h0'

end Sys2Proof.Machine
end

