-- ==== Sys2Proof/Laws/React.lean ====
section
/-!
SUPPORT. What a reaction of class S or H leads to: a stop under way, or SAFE.
-/
set_option Elab.async false
set_option linter.unusedSimpArgs false
set_option linter.unusedVariables false
set_option linter.unusedTactic false
set_option linter.unreachableTactic false
namespace Sys2Proof.Machine

theorem State.mode_of_rd {s t : State} (h : t.rd F.CROWN_MODE_MODE = s.rd F.CROWN_MODE_MODE) : t.mode = s.mode := congrArg Mode.ofCode h

/-- The mode after a write of its field. -/
theorem State.mode_wr (s : State) (n : Nat) : (s.wr F.CROWN_MODE_MODE n).mode = Mode.ofCode (n % 16) :=
  congrArg Mode.ofCode (State.rd_wr s F.CROWN_MODE_MODE n (by decide))

/-- What leaves the mode field leaves the mode. -/
theorem State.mode_of_rdIs {s t : State} (h : RdIs F.CROWN_MODE_MODE (s.rd F.CROWN_MODE_MODE) t) : t.mode = s.mode := State.mode_of_rd h

theorem State.mode_upd {s t : State} (h : t.regs = s.regs) : t.mode = s.mode := by
  simp only [State.mode, State.rd, State.word, h]

@[simp] theorem State.dropEnables_srd (s : State) : s.dropEnables.prot.srd = s.prot.srd := by
  unfold State.dropEnables
  dsimp only
  rw [(State.refreshGates_within (T := [.regs]) (by decide) Within.rfl).prot (by decide)]
  rfl

/-- SAFE entry ends in SAFE. -/
theorem State.enterSafe_is_safe (s : State) (l : Bool) (src : Nat) (ev : Ev) : (s.enterSafe l src ev).mode = .safe := by
  unfold State.enterSafe
  extract_lets s1 s2 s3 fast s4 c s5 s6
  have h1 : s1.mode = .safe := State.mode_setMode _ _
  have k : ∀ {x y : State}, RdIs F.CROWN_MODE_MODE (x.rd F.CROWN_MODE_MODE) y → x.mode = .safe → y.mode = .safe := fun h e => (State.mode_of_rdIs h).trans e
  have h2 : s2.mode = .safe := by
    refine k ?_ h1
    exact State.raise_mode (State.wr_rdIs (by decide) (State.wrB_rdIs (by decide) rfl))
  have h3 : s3.mode = .safe := k (State.wrB_rdIs (by decide) rfl) h2
  have h4 : s4.mode = .safe := by
    refine k ?_ h3
    unfold s4
    split
    · exact State.record_mode rfl
    · rfl
  have h5 : s5.mode = .safe := h4
  have h6 : s6.mode = .safe := by
    refine k ?_ h5
    unfold s6
    split
    · exact State.setLatch_mode rfl
    · rfl
  exact k (State.entryStore_mode rfl) h6

theorem State.srdRelease_stopping (s : State) (h : s.prot.srd.isSome = true) : Stopping s.srdRelease := by
  unfold State.srdRelease
  split
  · rename_i e; rw [e] at h; cases h
  · rename_i d e
    extract_lets s1 s2
    split
    · exact .inr (State.enterSafe_is_safe _ _ _ _)
    · left
      have hw : Within [.regs, .track, .q91, .rk, .scan] s s2 := by
        unfold s2 s1
        refine within_ite (State.wr_within (by decide) Within.rfl) ?_
        exact State.releaseAll_within (by decide) (by decide) (by decide) (by decide) (by decide) (State.wr_within (by decide) Within.rfl)
      rw [hw.prot (by decide)]
      exact h

theorem State.srdRampEnd_stopping (s : State) (h : s.prot.srd.isSome = true) : Stopping s.srdRampEnd := by
  unfold State.srdRampEnd
  split
  · rename_i e; rw [e] at h; cases h
  · refine State.srdRelease_stopping _ ?_
    have h1 : Within [.regs] (s.gatesOff.dropEnables) (((s.gatesOff.dropEnables.freezeAll true).loopOff).wr F.SAFE_STATUS_SRD_STEP 4) := by
      refine State.wr_within (by decide) ?_
      refine State.loopOff_within (by decide) ?_
      exact State.freezeAll_within (by decide) Within.rfl
    rw [h1.prot (by decide), State.dropEnables_srd, (State.gatesOff_within (T := [.regs, .pwm, .loop]) (by decide) (by decide) (by decide) Within.rfl).prot (by decide)]
    exact h

theorem State.canStop_mode {s : State} (h : s.canStop = true) : s.mode.canStop = true := by
  unfold State.canStop at h
  simp only [Bool.and_eq_true] at h
  exact h.1

theorem State.canStop_shadows {s : State} (h : s.canStop = true) : s.shadows = false := by
  unfold State.canStop at h
  simpa using (Bool.and_eq_true_iff.mp h).2

theorem State.canStop_of {s t : State} (hm : t.mode = s.mode) (hr : t.rd F.PAIR_STATUS_ROLE = s.rd F.PAIR_STATUS_ROLE) : t.canStop = s.canStop := by
  unfold State.canStop State.shadows
  rw [hm, hr]

/-- A safe ramp-down begun where the unit can be stopped, or one already under way, is under way or has ended in SAFE. -/
theorem State.startSrd_stopping (s : State) (cause : Nat) (latch : Bool) (src : Nat) (ev : Ev) (fast : Bool)
    (h : s.canStop = true) : Stopping (s.startSrd cause latch src ev fast) := by
  have hc := State.canStop_mode h
  unfold State.startSrd
  split
  · rename_i e; rw [e] at hc; cases hc
  · rename_i e; rw [e] at hc; cases hc
  · rename_i e; rw [e] at hc; cases hc
  · rename_i e
    right
    split
    · exact (State.mode_of_rdIs (State.setLatch_mode rfl)).trans e
    · exact e
  · rw [if_neg (by rw [State.canStop_shadows h]; decide)]
    split
    · rename_i e
      left
      rw [State.record_prot]
      cases hs : s.prot.srd with
      | none => rw [hs] at e; cases e
      | some d => rfl
    · split
      · rename_i e; exact .inl e
      · extract_lets eff s1 s2 s3 l1 l2 s4
        have e4 : s4.prot.srd.isSome = true := rfl
        split
        · exact State.srdRampEnd_stopping _ e4
        · exact .inl e4

theorem State.release_within_list {T : List Part} {s0 s : State} (ks : List Nat) (pr : Part.regs ∈ T) (pq : Part.q91 ∈ T) (pt : Part.track ∈ T) (pk : Part.rk ∈ T) (pc : Part.scan ∈ T)
    (h : Within T s0 s) : Within T s0 (s.releaseAll ks) := State.releaseAll_within pr pq pt pk pc h

/-- A hard trip where the unit can be stopped is under way or has ended in SAFE. -/
theorem State.tripMode_stopping (s : State) (src : Nat) (ev : Ev) (h : s.canStop = true) :
    Stopping (s.tripMode src ev) := by
  have hc := State.canStop_mode h
  unfold State.tripMode
  split
  · rename_i e; rw [e] at hc; cases hc
  · rename_i e; rw [e] at hc; cases hc
  · rename_i e
    exact .inr ((State.mode_of_rdIs (State.setLatch_mode rfl)).trans e)
  · rw [if_neg (by rw [State.canStop_shadows h]; decide)]
    extract_lets s1 s2 p s3
    split
    · exact .inr (State.enterSafe_is_safe _ _ _ _)
    · exact .inl rfl

theorem State.hardTrip_stopping (s : State) (src : Nat) (ev : Ev) (h : s.canStop = true) :
    Stopping (s.hardTrip src ev) := by
  unfold State.hardTrip
  split
  · rename_i e; have hc := State.canStop_mode h; rw [e] at hc; cases hc
  · extract_lets s1 s2
    apply State.tripMode_stopping
    have role : ((s2.cutFeed).cancelApply 9).rd F.PAIR_STATUS_ROLE = s.rd F.PAIR_STATUS_ROLE := by
      refine State.cancelApply_role (State.cutFeed_role ?_)
      refine State.raise_role (State.bump_rdIs (by decide) (State.wr_rdIs (by decide) ?_))
      exact State.freezeAll_role (State.dropEnables_role (State.gatesOff_role (State.endGateTest_role rfl)))
    have : ((s2.cutFeed).cancelApply 9).mode = s.mode := by
      apply State.mode_of_rdIs
      refine State.cancelApply_mode (State.cutFeed_mode ?_)
      refine State.raise_mode (State.bump_rdIs (by decide) (State.wr_rdIs (by decide) ?_))
      exact State.freezeAll_mode (State.dropEnables_mode (State.gatesOff_mode (State.endGateTest_mode rfl)))
    exact (State.canStop_of this role).trans h

theorem State.noteSH_mode' (s : State) (n : Nat) (ev : Ev) : (s.noteSH n ev).mode = s.mode := rfl

theorem State.record_mode' (s : State) (a b : Nat) (ev : Ev) (l : List Int) (x : Bool) : (s.record a b ev l x).mode = s.mode := rfl

theorem State.requestSrd_stopping (s : State) (cause : Nat) (ev : Ev) (data : List Int)
    (h : s.canStop = true) : Stopping (s.requestSrd cause ev data) :=
  State.startSrd_stopping _ _ _ _ _ _ h

/-- A reaction of class S or H where the unit can be stopped stops the converter. -/
theorem State.react_stopping (s : State) (r : RClass) (src : Nat) (ev : Ev) (data : List Int) (cause : Nat) (same : Bool) (hr : r = .S ∨ r = .H)
    (h : s.canStop = true) : Stopping (s.react r src ev data cause same) := by
  rcases hr with rfl | rfl
  · exact State.startSrd_stopping _ _ _ _ _ _ h
  · exact State.hardTrip_stopping _ _ _ h

end Sys2Proof.Machine
end

