-- ==== Sys2Proof/Laws/Restart.lean ====
section
/-!
SUPPORT. What a reset leaves of the state.
-/
set_option Elab.async false
set_option linter.unusedSimpArgs false
set_option linter.unusedVariables false
set_option linter.unusedTactic false
set_option linter.unreachableTactic false
namespace Sys2Proof.Machine
open Sys2Proof

/-- The parts of State that a start may write after the reset itself. -/
abbrev startParts : List Part := [.regs, .out, .crown, .q91, .pwm, .rk, .scan, .est, .ringSt, .tele, .nvm, .alm, .pair]

/-- A reset writes no other part than these on top of what survives it. -/
theorem State.resetTo_parts (s : State) (k : ResetKind) (i : Start) : Within startParts (s.survive k) (s.resetTo k i) := by
  unfold State.resetTo
  extract_lets t st t1
  have h1 : Within startParts (s.survive k) t := by
    unfold t
    refine State.almRecover_within (by decide) (by decide) (by decide) (by decide) (by decide) ?_
    refine State.startMonitor_within (by decide) ?_
    refine State.startStrap_within (by decide) (by decide) ?_
    refine State.startSupply_within (by decide) (by decide) ?_
    exact State.startCause_within (by decide) Within.rfl
  have h2 : Within startParts (s.survive k) t1 := by
    unfold t1
    exact within_ite (State.wr_within (by decide) h1) h1
  clear_value t t1
  split
  · exact State.bootNew_within (by decide) (by decide) (by decide) h2
  · exact h2

/-- What no store keeps, as a reset clears it: every part but those a start writes. -/
structure Survived (t : State) : Prop where
  staged : t.staged = []
  shadow : t.shadow = []
  stg : t.stg = {}
  loop : t.loop = {}
  track : t.track = { pins := t.track.pins }
  host : t.host = {}
  imp : t.imp = {}
  tmx : t.tmx = {}
  disp : t.disp = {}
  eng : t.eng = {}
  harv : t.harv = { hseq := t.harv.hseq }
  bal : t.bal = {}
  therm : t.therm = {}
  time : t.time = {}
  can : t.can = {}
  conds : t.prot.conds = []

/-- What a start writes leaves the cleared parts cleared. -/
theorem Survived.within {a b : State} (h : Survived a) (w : Within startParts a b) : Survived b where
  staged := (w.staged (by decide)).trans h.staged
  shadow := (w.shadow (by decide)).trans h.shadow
  stg := (w.stg (by decide)).trans h.stg
  loop := (w.loop (by decide)).trans h.loop
  track := by rw [w.track (by decide)]; exact h.track
  host := (w.host (by decide)).trans h.host
  imp := (w.imp (by decide)).trans h.imp
  tmx := (w.tmx (by decide)).trans h.tmx
  disp := (w.disp (by decide)).trans h.disp
  eng := (w.eng (by decide)).trans h.eng
  harv := by rw [w.harv (by decide)]; exact h.harv
  bal := (w.bal (by decide)).trans h.bal
  therm := (w.therm (by decide)).trans h.therm
  time := (w.time (by decide)).trans h.time
  can := (w.can (by decide)).trans h.can
  conds := by rw [w.prot (by decide)]; exact h.conds

/-- What survives a reset of a kind: the cleared parts are cleared, the time bases run on for a warm kind only (Table 2-6). -/
theorem State.survive_parts (s : State) (k : ResetKind) : Survived (s.survive k) ∧ (s.survive k).tb = if k.warm then s.tb else [] := by
  have h : ∃ x, Within startParts x (s.survive k) ∧ Survived x ∧ x.tb = if k.warm then s.tb else [] := by
    unfold State.survive
    exact ⟨_, State.takeWords_within (by decide) (State.takeWords_within (by decide) Within.rfl),
      ⟨rfl, rfl, rfl, rfl, rfl, rfl, rfl, rfl, rfl, rfl, rfl, rfl, rfl, rfl, rfl, rfl⟩, rfl⟩
  obtain ⟨x, hx, h1, h2⟩ := h
  exact ⟨h1.within hx, (hx.tb (by decide)).trans h2⟩

/-- A start runs to step 8 of Table 2-5, or ends in the boot loader. -/
theorem State.startUp_booted (s : State) (i : Start) : (s.startUp i).crown.booted = true ∨ (s.startUp i).crown.phase = .bootLoader := by
  unfold State.startUp
  dsimp only
  split
  · rename_i h; exact .inr h
  · exact .inl rfl

/-- What a reset leaves: nothing that no store keeps, the start run to step 8 of Table 2-5, the time bases kept where the reset keeps them. -/
theorem State.restart_parts (s : State) (k : ResetKind) (i : Start) : Restarted (s.restart k i) ∧ (s.restart k i).tb = if s.keepsTime k i then s.tb else [] := by
  have hu : ∀ (a : State), Survived a → Survived (a.startUp i) ∧ (a.startUp i).tb = a.tb := fun a h => by
    have w : Within startParts a (a.startUp i) := State.startUp_within (by decide) (by decide) (by decide) (by decide) (by decide) (by decide) (by decide) (by decide)
      (by decide) (by decide) Within.rfl
    exact ⟨h.within w, w.tb (by decide)⟩
  have hr : ∀ (a : State) (j : ResetKind), Survived (a.resetTo j i) ∧ (a.resetTo j i).tb = if j.warm then a.tb else [] := fun a j =>
    ⟨(a.survive_parts j).1.within (a.resetTo_parts j i), ((a.resetTo_parts j i).tb (by decide)).trans (a.survive_parts j).2⟩
  have key : ∃ a : State, s.restart k i = a.startUp i ∧ Survived a ∧ a.tb = if s.keepsTime k i then s.tb else [] := by
    unfold State.restart State.keepsTime
    have e : s.degradeLost.tb = s.tb := by unfold State.degradeLost; split <;> rfl
    dsimp only
    cases h : s.degradeLost.trialEnds (s.degradeLost.resetTo k i) k i
    · exact ⟨_, congrArg (State.startUp · i) (if_neg (by decide)), (hr s.degradeLost k).1, by simpa [e] using (hr s.degradeLost k).2⟩
    · refine ⟨_, congrArg (State.startUp · i) (if_pos rfl), (hr _ _).1, ?_⟩
      rw [(hr _ _).2]
      simp [ResetKind.warm]
  obtain ⟨a, e, h1, h2⟩ := key
  have h3 := hu a h1
  rw [e]
  exact ⟨⟨h3.1.staged, h3.1.shadow, h3.1.stg, h3.1.loop, h3.1.track, h3.1.host, h3.1.imp, h3.1.tmx, h3.1.disp, h3.1.eng, h3.1.harv, h3.1.bal, h3.1.therm,
    h3.1.time, h3.1.can, h3.1.conds, a.startUp_booted i⟩, h3.2.trans h2⟩

end Sys2Proof.Machine
end

