-- ==== Sys2Proof/WellFormed.lean ====
section
/-!
DEFINITION. Well-formed commands: what a link, a table or a counter of the spec can carry in an operand. A command's meaning is total
and does not rest on it.
-/
namespace Sys2Proof

/-- The payload of a UDP datagram in a frame of at most 1,522 bytes (R100): 1,522 less 18 of the frame, 4 of a tag, 20 of IPv4, 8 of UDP. -/
def datagram (b : List Byte) : Bool := decide (b.length ≤ 1472)

/-- The engines named are distinct (R407). -/
def Start.wf (i : Start) : Bool := decide (i.engines.eraseDups.length = i.engines.length)

/-- The head of a transaction that HOST_WRITE carries: WRITE, an opcode that Table 4-3 does not define, or fewer than four bytes (R94). -/
def TxHead.wf : TxHead → Bool
  | .whole op _ => !([0x0B, 0x3F, 0x31, 0x32] : List Byte).contains op
  | .cut b => decide (b.length < 4)

/-- A CAN frame (R448): an identifier of its length, at most 64 data bytes, 8 in a classic frame. -/
def CanFrame.wf (f : CanFrame) : Bool :=
  decide (f.id < if f.ide then 2 ^ 29 else 2 ^ 11) && decide (f.data.length ≤ if f.fdf then 64 else 8)

/-- A message as its link carries it (R316): a datagram, or at most 64 bytes under a CAN identifier. -/
def Via.wf : Via → List Byte → Bool
  | .eth _ ip udp dst, b => decide (ip < 2 ^ 32) && decide (udp < 2 ^ 16) && decide (dst < 2 ^ 16) && datagram b
  | .can _ id, b => decide (id < 2 ^ 29) && decide (b.length ≤ 64)

/-- A mirrored item (Table 17-3). -/
def Mirror.wf : Mirror → Bool
  | .loop x => decide (x.mode < 8)
  | .estimator _ => true
  | .digest h c => decide (h < 2 ^ 32) && decide (c < 2 ^ 32)
  | .dispatch .. => true
  | .scan t _ => decide (t < 4)
  | .onTime _ => true
  | .plan _ => true
  | .impedRun .. => true
  | .impedSet _ => true
  | .almanac _ => true
  | .formats m n => decide (m < 2 ^ 32) && decide (n < 2 ^ 32)

/-- A test access instruction (R546): EXTEST drives each pin once. -/
def TapOp.wf : TapOp → Bool
  | .extest pins => decide ((pins.map (·.1)).eraseDups.length = pins.length)
  | .bypass => true
  | .idcode => true
  | .samplePreload => true
  | .other => true

/-- A command is well formed. -/
def Instr.wf : Instr → Bool
  | .powerOnReset i => i.wf
  | .supplyReset i => i.wf
  | .externalResetPin i => i.wf
  | .watchdogReset i => i.wf
  | .softwareWarmReset _ _ _ => true
  | .pairForcedReset i => i.wf
  | .startComplete _ => true
  | .bankOk => true
  | .vauxWarning => true
  | .vauxWarningRelease => true
  | .holdMaxExpiry => true
  | .bankReserve => true
  | .vauxReset => true
  | .modeReqTransport _ => true
  | .modeReqStandby _ => true
  | .safeExitJudgement => true
  | .modeReqConnect _ _ => true
  | .modeReqRun _ _ => true
  | .modeReqRest _ => true
  | .modeReqSafeAcknowledge _ => true
  | .modeReqService _ => true
  | .modeReqDormant _ => true
  | .dormantWake _ => true
  | .aonTimerWake => true
  | .transportVauxArm => true
  | .transportWake _ i => i.wf
  | .registerWrite _ _ _ => true
  | .stagedWrite _ _ _ _ => true
  | .checkCmd _ _ _ _ => true
  | .checkComplete => true
  | .applyCmd _ _ _ _ => true
  | .abortCmd _ _ _ _ => true
  | .discardAll _ _ _ _ => true
  | .discardCmd _ _ => true
  | .stagingTimeout => true
  | .applyLaunch => true
  | .applyLoadDeadline l => l.all (· < 256)
  | .applyEdge => true
  | .applyTakeupComplete => true
  | .secureCommit _ _ => true
  | .commitStoreComplete _ => true
  | .evtStatusClear _ _ _ => true
  | .retryCntClear _ _ => true
  | .lastingClear _ _ => true
  | .hostRead _ n => decide (0 < n)
  | .hostWrite h b => h.wf && decide (b.length ≤ 277)
  | .hostNonce _ => true
  | .hostOpen _ _ => true
  | .hostClose _ _ => true
  | .hostSessionTimeout => true
  | .ralkiulOpen _ _ _ b => datagram b
  | .ralkiulProof _ _ _ b => datagram b
  | .ralkiulRead _ _ _ b => datagram b
  | .ralkiulWrite _ _ _ b => datagram b
  | .ralkiulNotifyAck _ _ _ b => datagram b
  | .ralkiulKeepalive _ _ _ b => datagram b
  | .ralkiulClose _ _ _ b => datagram b
  | .ralkiulChallengeLapse _ => true
  | .ralkiulSessionTimeout _ => true
  | .notifyRetry _ => true
  | .ringPortLinkDown _ _ => true
  | .ringPortSynchronised _ => true
  | .ringReply _ _ _ _ d => decide (d.payload.length ≤ 255)
  | .ringReplyTimeout _ _ _ _ _ => true
  | .ringSeqRelease => true
  | .linkReport _ => true
  | .keepalive => true
  | .keepaliveReturn _ _ _ => true
  | .keepaliveFail _ _ => true
  | .enumReturn _ => true
  | .enumTimeout => true
  | .echoReturn _ _ _ => true
  | .delayPeriod => true
  | .wakeSequenceReturn => true
  | .wakeSequenceTimeout => true
  | .enumerateCmd _ => true
  | .measureCmd _ => true
  | .ringClrErr _ => true
  | .harvestSlot _ _ _ => true
  | .pauseLaunch => true
  | .harvestData _ _ _ _ _ p => decide (p.length ≤ 255)
  | .harvestDataDeadline _ => true
  | .harvestClose _ => true
  | .tHarvestDue => true
  | .tHarvestLaunch _ => true
  | .oneshotV _ => true
  | .oneshotC _ => true
  | .oneshotT _ _ => true
  | .plausibilityCheck => true
  | .freezeCmd _ _ => true
  | .freezeExpiry => true
  | .loopOpen _ => true
  | .loopClosed _ => true
  | .planInterval => true
  | .planNow _ => true
  | .balStop _ => true
  | .stopConfirmTimeout _ => true
  | .clrNfault _ => true
  | .phase0Boundary => true
  | .periodStart _ => true
  | .centreTakeup _ => true
  | .cbcTrip _ _ _ => true
  | .faultReturn _ _ => true
  | .phaseClrFault _ _ => true
  | .shedHoldExpiry => true
  | .burstOffEnd => true
  | .innerSample _ _ _ _ => true
  | .outerSample _ => true
  | .startSample _ _ => true
  | .loopPlausWindow _ _ => true
  | .contactorFeedback _ _ => true
  | .fbCloseTimeout _ => true
  | .fbRepull _ => true
  | .fbOpenTimeout _ => true
  | .pullInEnd _ => true
  | .coilOvercurrent _ => true
  | .prechargePeakWindow _ => true
  | .prechargeEnd _ => true
  | .prechargeTimeout => true
  | .startAt => true
  | .meetHeld => true
  | .meetTimeout => true
  | .trackingError => true
  | .formAt => true
  | .formedHeld => true
  | .retryWaitExpiry => true
  | .disconnectWaitExpiry => true
  | .k6On _ => true
  | .k6Off _ => true
  | .clrWeld _ => true
  | .impedStart _ => true
  | .impedStartEval => true
  | .impedStop _ => true
  | .impedWindowEnd => true
  | .impedCorrelation _ => true
  | .impedSetClose => true
  | .impedRampEnd => true
  | .estimatorStep _ _ _ _ => true
  | .initCmd _ => true
  | .writeNow _ => true
  | .resetCell _ => true
  | .learnedJournalInterval => true
  | .stateJournalInterval => true
  | .journalWriteComplete _ => true
  | .deferredWrite => true
  | .thermalUpdate n b => decide (n.length ≤ 16) && decide (b.length ≤ 4)
  | .tjReading _ _ => true
  | .tachCheck _ _ => true
  | .thermClrFault _ _ => true
  | .telemWindowEnd _ sec ns _ q c _ _ => decide (sec < 2 ^ 48) && decide (ns < 1000000000) && decide (q.length ≤ 6) && decide (c.length ≤ 4)
  | .pkClr _ _ => true
  | .cntReset _ => true
  | .counterSlotInterval => true
  | .counterLoRead _ _ => true
  | .currentMsg v m => v.wf m
  | .powerMsg v m => v.wf m
  | .voltageMsg v m => v.wf m
  | .modeMsg v m _ => v.wf m
  | .impStart v m => v.wf m
  | .impStop v m => v.wf m
  | .takeCmd _ _ => true
  | .limiterChain => true
  | .statusPeriod => true
  | .staleTimer => true
  | .staleDrop => true
  | .protEvaluation _ _ _ => true
  | .islandSample _ _ _ _ _ => true
  | .srdInput _ _ => true
  | .safeCmdSrd _ => true
  | .safeCmdTrip _ => true
  | .srdRampEnd => true
  | .srdCoilTimeout => true
  | .safeclkStop => true
  | .twinnedSafetyMessage _ m => datagram m.bytes
  | .safetyWatchdog _ => true
  | .snetStateTx => true
  | .degradeGrant _ _ => true
  | .degradeExpiry => true
  | .insulStateEnd _ _ => true
  | .hallDetectOpen => true
  | .claimFrameTx _ => true
  | .claimFrameRx _ _ _ => true
  | .claimMonitorSilence => true
  | .heartbeatTx => true
  | .heartbeatRx _ _ => true
  | .pairLinkLost => true
  | .claimEchoRx _ => true
  | .claimEchoSilence => true
  | .relinquishNotice _ => true
  | .mirrorSnapshot _ m => m.wf
  | .phase0BoundaryMessage _ ns _ => decide (ns.toNat < 1000000000)
  | .islandSelfTest _ => true
  | .switchoverResume => true
  | .forcedResetSend => true
  | .switchCmd _ _ => true
  | .unitBClaimWait => true
  | .pairIdChange _ => true
  | .scanStart _ => true
  | .scanPublish _ => true
  | .taskRestart _ _ => true
  | .progData _ _ => true
  | .progLive _ => true
  | .stationInFrame v b => v.wf b
  | .retainInterval => true
  | .markerWrite _ _ _ => true
  | .workItemComplete _ => true
  | .itemTimeout _ _ _ => true
  | .rateInterval r => r.all fun x => decide (x.1 < 64)
  | .testRound _ _ _ => true
  | .rejoinRetest _ _ => true
  | .eccError _ _ _ _ => true
  | .rselWrite _ _ => true
  | .rofsWrite _ _ => true
  | .rpopWrite _ => true
  | .clockMonitorWindow hz _ => decide (hz.length ≤ 14)
  | .xstatClear _ => true
  | .setCmd _ _ => true
  | .shiftCmd _ _ => true
  | .snapCmd _ => true
  | .nsRead _ _ => true
  | .tb2RateWrite _ _ => true
  | .syncMsg _ _ _ m => datagram m
  | .followUp _ _ m => datagram m
  | .delayResp _ _ m => datagram m
  | .pdelayReq _ _ _ m => datagram m
  | .pdelayResp _ _ _ m => datagram m
  | .pdelayRespFollowUp _ _ m => datagram m
  | .announceMsg _ _ m => datagram m
  | .delayReqInterval _ => true
  | .announceReceiptTimeout _ _ => true
  | .timestampEntry _ _ _ _ _ => true
  | .timestampEntryStale _ => true
  | .armTrigger _ _ => true
  | .disarmTrigger _ _ => true
  | .leadingEdge _ => true
  | .trailingEdge _ => true
  | .captureEdge _ _ _ _ => true
  | .popCapture _ _ => true
  | .canFrameRx _ f _ => f.wf
  | .sendCmd _ _ => true
  | .txAbort _ _ => true
  | .recoverCmd _ _ => true
  | .canTxComplete _ _ => true
  | .canTxTimeout _ _ => true
  | .busOff _ => true
  | .busOffRecovered _ => true
  | .canLatch => true
  | .almanacSubmission => true
  | .almanacMigration _ => true
  | .compactionComplete => true
  | .latchCmd _ => true
  | .rseqSelect _ _ => true
  | .headerOp _ => true
  | .tableOp _ => true
  | .blockOp _ _ => true
  | .finishOp _ => true
  | .updateAbort _ => true
  | .updateTransferTimeout => true
  | .activateCmd _ _ _ => true
  | .disarmCmd _ => true
  | .confirmCmd _ _ => true
  | .keyWrite _ _ => true
  | .jubileePrepare => true
  | .jubileePoint _ => true
  | .confirmation => true
  | .confirmWindowSave => true
  | .confirmWindowExpiry => true
  | .classLStoreWrite => true
  | .gtestGo _ _ => true
  | .gstopCmd _ => true
  | .gtestEnd => true
  | .unlockCmd _ _ => true
  | .relockCmd _ => true
  | .unlockExpiry => true
  | .svcTimeout => true
  | .tmxSelect _ _ _ => true
  | .tapInstruction i => i.wf
  | .preCheckReread _ => true
  | .vcoilLow _ => true
  | .diChange _ => true
  | .errorFrame _ _ _ _ _ => true
  | .linkUp _ _ _ _ => true
  | .sdsAvail _ => true
  | .bankOkLoss => true
  | .arpRequest _ _ _ => true
  | .icmpEcho _ _ b => datagram b

end Sys2Proof
end

