-- ==== Sys2Proof/Tests/Slice0.lean ====
section
/-!
SUPPORT. Small tests of the model, and for each statement with hypotheses states and operands that meet them together.
-/
open Sys2Proof Sys2Proof.Machine

section Slice0Tests
set_option Elab.async false

/-! ## Commands that are not well formed -/

theorem test_wf_engines_distinct : (Instr.powerOnReset { engines := [3, 3] }).wf = false ∧ (Instr.powerOnReset { engines := [3, 4] }).wf = true := by decide
theorem test_wf_wake_engines : (Instr.transportWake true { engines := [9, 9] }).wf = false := by decide
theorem test_wf_units : (Instr.applyLoadDeadline [256]).wf = false ∧ (Instr.applyLoadDeadline [255]).wf = true := by decide
theorem test_wf_host_read : (Instr.hostRead 0 0).wf = false := by decide
theorem test_wf_host_write : (Instr.hostWrite (.whole 2 0) (List.replicate 278 0)).wf = false := by decide +kernel
theorem test_wf_datagram : (Instr.twinnedSafetyMessage 0 { dst := 0, bytes := List.replicate 1473 0 }).wf = false := by decide +kernel
theorem test_wf_ring_payload : (Instr.ringReply 0 0 0 0 { payload := List.replicate 256 0 }).wf = false := by decide +kernel
theorem test_wf_boards : (Instr.thermalUpdate [] [0, 0, 0, 0, 0]).wf = false := by decide
theorem test_wf_message_ip : (Instr.currentMsg (.eth 0 (2 ^ 32) 0 0) []).wf = false := by decide +kernel
theorem test_wf_message_can : (Instr.currentMsg (.can 0 (2 ^ 29)) []).wf = false := by decide +kernel
theorem test_wf_mirror : (Instr.mirrorSnapshot 0 (.digest (2 ^ 32) 0)).wf = false := by decide +kernel
theorem test_wf_boundary_ns : (Instr.phase0BoundaryMessage 0 1000000000 0).wf = false := by decide +kernel
theorem test_wf_rate_engine : (Instr.rateInterval [(64, 0)]).wf = false := by decide
theorem test_wf_domains : (Instr.clockMonitorWindow (List.replicate 15 0) 0).wf = false := by decide
theorem test_wf_can_frame : (Instr.canFrameRx 0 { id := 2 ^ 11 } 0).wf = false ∧ (Instr.canFrameRx 0 { id := 2 ^ 11, ide := true } 0).wf = true := by decide +kernel
theorem test_wf_can_classic : (Instr.canFrameRx 0 { id := 1, data := List.replicate 9 0 } 0).wf = false := by decide
theorem test_wf_extest : (Instr.tapInstruction (.extest [(1, true), (1, false)])).wf = false := by decide

/-! ## Words -/

theorem test_no_word_decodes : decodeTableWord 32 0 = none := rfl
theorem test_front_runs : step { pending := [.bankOk, .bankOkLoss] } = execBankOk { pending := [.bankOkLoss] } := rfl

/-! ## Worked examples of the spec -/

/-- Chapter 4: CROWN.MODE in RUN after CONNECT reads 0x00000023. -/
theorem test_host_reads_mode : ((((({} : State).wr F.CROWN_MODE_MODE 3).wr F.CROWN_MODE_PREV 2).wr F.CROWN_MODE_REQ_RESULT 0).readReg .service 0x64).readData = [0x23] := by decide +kernel

/-- Chapter 5: the largest delay 2,872 ns gives C = 3,280 ns, of which N5 has 685 and 235 units. -/
theorem test_ring_offsets :
    offsetUnits 3280 (8 * 540) = 685 ∧ offsetUnits 3280 (8 * 2342) = 235 ∧
    ((({ ringSt := { delay := [(0, 8 * 10), (1, 8 * 2872)] } } : State).wr (F.RING_DELAY_D_DOWN 0) 5).wr (F.RING_DELAY_D_UP 0) 5).commonDelay = 3280 := by decide +kernel

/-- Chapter 13: T_hot 52.5 °C and channel 3 at 96.0 °C give F_CHG 0x4CCC and F_DIS 0x9999, with a fan at half 0x2666 and 0x4CCC. -/
theorem test_current_factors :
    factorOf (25, 50) (9, 15) 65536 = 0x4CCC ∧ factorOf (1, 1) (9, 15) 65536 = 0x9999 ∧ factorOf (25, 50) (9, 15) 0x8000 = 0x2666 ∧ factorOf (1, 1) (9, 15) 0x8000 = 0x4CCC := by decide +kernel

/-- Chapter 22: a frame stamped 0x00002E00 after the pair 0xFFFFF000 at 1,002 s and 100,000 ns, at −81.875 ppb, gives 298,391 ns and a fraction of 64,471. -/
theorem test_can_stamp :
    let t := ((({ can := { pairs := [(0xFFFFF000, { sec := 1002, ns := 100000 }, none)] } } : State).wrI (F.TIME_RATE_RATE 0) (-335360)).canTime 0x2E00).1
    t.sec = 1002 ∧ t.ns = 298391 ∧ t.frac / 2 ^ 32 = 64471 := by decide +kernel

/-- FIPS 180-4: the digest of "abc" begins BA7816BF and ends F20015AD. -/
theorem test_sha256 : beAt (sha256 [0x61, 0x62, 0x63]) 0 4 = 0xBA7816BF ∧ beAt (sha256 [0x61, 0x62, 0x63]) 28 4 = 0xF20015AD := by decide +kernel

/-- R12: the check value of CRC-32C over the digits 1 to 9. -/
theorem test_crc32c : crc32c [0x31, 0x32, 0x33, 0x34, 0x35, 0x36, 0x37, 0x38, 0x39] = 0xE3069283 := by decide +kernel

/-! ## Lemmas for the witnesses -/

theorem ownPort_lt (p : Nat) : ownPort p < 2 ^ 80 := by
  unfold ownPort
  generalize Config.factoryMac p = m
  dsimp only
  omega

theorem ne_ownPort (n p : Nat) (h : n < 100) : n ≠ ownPort p := by
  unfold ownPort
  dsimp only
  omega

theorem byte_toNat (n : Nat) : (byte n).toNat = n % 256 := by
  simp [byte]

theorem foldl_be (n : Nat) : ∀ a x : Nat, (be n x).foldl (fun a b => a * 256 + b.toNat) a = a * 256 ^ n + x % 256 ^ n := by
  induction n with
  | zero => intro a x; simp [be, Nat.mod_one]
  | succ n ih =>
    intro a x
    rw [be, List.foldl_cons, ih, byte_toNat, Nat.pow_succ, Nat.mod_mul, Nat.add_mul, Nat.mul_comm (x / 256 ^ n % 256), Nat.mul_assoc, Nat.mul_comm 256]
    omega

theorem beAt_ownPort (l : List Byte) (p : Nat) (h : l.length = 34) : beAt (l ++ (be 10 0 ++ be 10 (ownPort p))) 44 10 = ownPort p := by
  have hx := ownPort_lt p
  generalize ownPort p = x at hx
  have e : ∀ i, (l ++ (be 10 0 ++ be 10 x))[44 + i]? = (be 10 x)[i]? := by
    intro i
    rw [List.getElem?_append_right (by omega), List.getElem?_append_right (by simp [be, h]; omega)]
    congr 1
    simp [be, h]; omega
  have e2 : ((List.range 10).map fun i => ((be 10 x)[i]?).getD 0) = be 10 x := rfl
  simp only [beAt, e, e2, ofBe, foldl_be]
  rw [Nat.mod_eq_of_lt (hx.trans_le (by decide))]
  omega

theorem overLimit_high (s : State) (n : Nat) (h : s.rd (F.PHASE_ILIM_POS n) ≤ 1023) : s.overLimit n true 3000000 = true := by
  unfold State.overLimit
  generalize Config.ilimError n true = e
  simp only [if_true, decide_eq_true_eq]
  omega

/-- A state whose time bases show some time. -/
def withTime (s : State) : State :=
  { s with tb := [(0, { sec := 500, ns := 600 }), (1, { sec := 7, ns := 8 }), (2, { sec := 9, ns := 10, frac := 5 }), (3, { sec := 2, ns := 1 })] }

/-! ## Witnesses -/

theorem witness_IdleStepAndWords : ∃ s : State, s.pending = [] := ⟨{}, rfl⟩

theorem witness_CanonicalKept : ∃ s t : State, s.canonical ∧ step s = .next t := ⟨{}, _, ⟨rfl, by decide⟩, rfl⟩

theorem witness_ModeKept : ∃ (c : Instr) (s t : State), keepsMode c = true ∧ exec c s = .next t := ⟨.bankOkLoss, {}, _, rfl, rfl⟩

theorem witness_ResetState : ∃ p : Fin 256, assigned p.val = true := ⟨0, by decide +kernel⟩

theorem witness_ResetsClear :
    (∃ (s : State), s.stg.takeUp = false) ∧
    (∃ (s : State), s.stg.takeUp = false) ∧
    (∃ (who : Initiator) (s : State), s.barred who A.RESET_CMD true = 0 ∧ s.stg.takeUp = false ∧ (2 ≤ s.rd F.PAIR_STATUS_ROLE ∨ (s.mode ≠ .connect ∧
      s.mode ≠ .run ∧ s.mode ≠ .hold))) ∧
    (∃ (s : State), s.on F.PAIR_CFG_PAIRED = true ∧ s.stg.takeUp = false) ∧
    (∃ (s : State), s.mode = .transport ∧ s.crown.vauxArmed = true) ∧
    (∃ (s : State), s.mode = .transport ∧ s.crown.busArmed = true) ∧
    (∃ (s : State), (s.mode = .safe ∨ s.mode = .service) ∧ s.crown.phase = .complete ∧ s.on F.SUPPLY_STATUS_SDS_ACTIVE = false) ∧
    (∃ (s : State), s.stg.takeUp = true) ∧
    (∃ (s : State), s.stg.takeUp = true) ∧
    (∃ (who : Initiator) (s : State), s.barred who A.RESET_CMD true = 0 ∧ s.rd F.PAIR_STATUS_ROLE < 2 ∧
      (s.mode = .connect ∨ s.mode = .run ∨ s.mode = .hold)) :=
  ⟨⟨(let s : State := {}; (fun s : State => ({ s with stg := { s.stg with takeUp := false } } : State)) (s) : State), by decide +kernel⟩,
   ⟨(let s : State := {}; (fun s : State => ({ s with stg := { s.stg with takeUp := false } } : State)) (s) : State), by decide +kernel⟩,
   ⟨(.service : Initiator), (let s : State := {}; (
     (fun s : State => ({ s with stg := { s.stg with takeUp := false } } : State)) s).wr F.CROWN_MODE_MODE (1) : State), by decide +kernel⟩,
   ⟨(let s : State := {}; ((fun s : State => ({ s with stg := { s.stg with takeUp := false } } : State)) s).wr F.PAIR_CFG_PAIRED (1) : State),
     by decide +kernel⟩,
   ⟨(let s : State := {}; (fun s : State => ({ s with crown := { s.crown with vauxArmed := true } } : State)) (s.wr F.CROWN_MODE_MODE (0)) : State),
     by decide +kernel⟩,
   ⟨(let s : State := {}; (fun s : State => ({ s with crown := { s.crown with busArmed := true } } : State)) (s.wr F.CROWN_MODE_MODE (0)) : State),
     by decide +kernel⟩,
   ⟨(let s : State := {}; (
     (fun s : State =>
     ({ s with crown := { s.crown with phase := .complete } } : State)) (s.wr F.CROWN_MODE_MODE (6))).wr F.SUPPLY_STATUS_SDS_ACTIVE (0) : State),
     by decide +kernel⟩,
   ⟨(let s : State := {}; (fun s : State => ({ s with stg := { s.stg with takeUp := true } } : State)) (s) : State), by decide +kernel⟩,
   ⟨(let s : State := {}; (fun s : State => ({ s with stg := { s.stg with takeUp := true } } : State)) (s) : State), by decide +kernel⟩,
   ⟨(.service : Initiator), (let s : State := {}; (s.wr F.PAIR_STATUS_ROLE (1)).wr F.CROWN_MODE_MODE (3) : State), by decide +kernel⟩⟩

theorem witness_HoldAndSupplies :
    (∃ (s : State), s.mode = .transport) ∧
    (∃ (s : State), s.mode ≠ .safe ∧ s.mode ≠ .service) ∧
    (∃ (s : State), s.crown.phase = .complete ∧ (s.on F.SUPPLY_HOLD_CFG_SDS_EN && s.on F.SUPPLY_STATUS_SDS_AVAIL) = false ∧ s.prot.srd = none ∧
      s.rd F.PAIR_STATUS_ROLE < 2 ∧ (s.mode = .standby ∨ s.mode = .connect ∨ s.mode = .run ∨ s.mode = .rest)) ∧
    (∃ (s : State), s.crown.phase = .complete ∧ s.mode ≠ .transport ∧ s.on F.SUPPLY_HOLD_CFG_SDS_EN = true ∧ s.on F.SUPPLY_STATUS_SDS_AVAIL = true) ∧
    (∃ (s : State), s.mode = .hold ∧ s.prot.srd = none ∧ s.nvm.delayed = false ∧ s.crown.trans = .none ∧ s.track.disc = 0 ∧
      s.rd F.CROWN_MODE_PREV ≠ 2) ∧
    (∃ (s : State), s.mode = .hold ∧ s.prot.srd = none ∧ s.nvm.delayed = false ∧ s.rd F.CROWN_MODE_PREV ≠ 5) ∧
    (∃ (s : State), s.mode = .hold ∧ s.shadows = false ∧ s.prot.srd = none) ∧
    (∃ (s : State), s.mode = .hold ∧ s.shadows = false ∧ s.prot.srd = none) ∧
    (∃ (s : State), s.mode ≠ .hold) :=
  ⟨⟨(let s : State := {}; s.wr F.CROWN_MODE_MODE (0) : State), by decide +kernel⟩,
   ⟨(let s : State := {}; s.wr F.CROWN_MODE_MODE (1) : State), by decide +kernel⟩,
   ⟨(let s : State := {}; (((fun s : State => ({ s with prot := { s.prot with srd := none } } : State)) ((
     (fun s : State =>
     ({ s with crown := { s.crown with phase := .complete } } : State)) s).wr F.SUPPLY_HOLD_CFG_SDS_EN (0))).wr F.PAIR_STATUS_ROLE (0)).wr F.CROWN_MODE_MODE (3) : State), by decide +kernel⟩,
   ⟨(let s : State := {}; (((
     (fun s : State =>
     ({ s with crown := { s.crown with phase := .complete } } : State)) s).wr F.SUPPLY_HOLD_CFG_SDS_EN (1)).wr F.SUPPLY_STATUS_SDS_AVAIL (1)).wr F.CROWN_MODE_MODE (3) : State), by decide +kernel⟩,
   ⟨(let s : State := {}; (fun s : State => ({ s with track := { s.track with disc := 0 } } : State)) (
     (fun s : State => ({ s with crown := { s.crown with trans := .none } } : State)) (
     (fun s : State => ({ s with nvm := { s.nvm with delayed := false } } : State)) (
     (fun s : State => ({ s with prot := { s.prot with srd := none } } : State)) ((fun (s : State) =>
     s.wr F.CROWN_MODE_PREV (s.meas.vCoil % 8)) (s.wr F.CROWN_MODE_MODE (5)))))) : State), by decide +kernel⟩,
   ⟨(let s : State := {}; (fun s : State => ({ s with nvm := { s.nvm with delayed := false } } : State)) (
     (fun s : State => ({ s with prot := { s.prot with srd := none } } : State)) ((fun (s : State) =>
     s.wr F.CROWN_MODE_PREV (s.meas.vCoil % 8)) (s.wr F.CROWN_MODE_MODE (5)))) : State), by decide +kernel⟩,
   ⟨(let s : State := {}; (fun s : State =>
     ({ s with prot := { s.prot with srd := none } } : State)) ((s.wr F.CROWN_MODE_MODE (5)).wr F.PAIR_STATUS_ROLE (0)) : State), by decide +kernel⟩,
   ⟨(let s : State := {}; (fun s : State =>
     ({ s with prot := { s.prot with srd := none } } : State)) ((s.wr F.CROWN_MODE_MODE (5)).wr F.PAIR_STATUS_ROLE (0)) : State), by decide +kernel⟩,
   ⟨(let s : State := {}; s.wr F.CROWN_MODE_MODE (1) : State), by decide +kernel⟩⟩

theorem witness_StartEnds :
    (∃ (s : State), s.crown.phase = .starting ∧ s.crown.booted = true ∧ s.crown.startFailed = false ∧ s.startReady = true ∧ s.claimBarred = false) ∧
    (∃ (s : State), s.crown.phase = .starting ∧ s.crown.booted = true ∧ s.crown.startFailed = false ∧ s.startReady = true ∧ s.claimBarred = false) ∧
    (∃ (s : State), s.crown.phase = .starting ∧ s.crown.booted = true ∧ s.nvm.boot.first = false) :=
  ⟨⟨(let s : State := {}; ((fun s : State => ({ s with ringSt := { s.ringSt with stage := 0 } } : State)) (
     (fun s : State => ({ s with crown := { s.crown with ringStarted := true } } : State)) (
     (fun s : State => ({ s with crown := { s.crown with startFailed := false } } : State)) (
     (fun s : State => ({ s with crown := { s.crown with booted := true } } : State)) (
     (fun s : State => ({ s with crown := { s.crown with phase := .starting } } : State)) s))))).wr F.SUPPLY_STATUS_BANK_OK (1) : State),
     by decide +kernel⟩,
   ⟨(let s : State := {}; ((fun s : State => ({ s with ringSt := { s.ringSt with stage := 0 } } : State)) (
     (fun s : State => ({ s with crown := { s.crown with ringStarted := true } } : State)) (
     (fun s : State => ({ s with crown := { s.crown with startFailed := false } } : State)) (
     (fun s : State => ({ s with crown := { s.crown with booted := true } } : State)) (
     (fun s : State => ({ s with crown := { s.crown with phase := .starting } } : State)) s))))).wr F.SUPPLY_STATUS_BANK_OK (1) : State),
     by decide +kernel⟩,
   ⟨(let s : State := {}; (fun s => { s with nvm := { s.nvm with boot := { s.nvm.boot with first := false } } }) (
     (fun s : State => ({ s with crown := { s.crown with booted := true } } : State)) (
     (fun s : State => ({ s with crown := { s.crown with phase := .starting } } : State)) s)) : State), by decide +kernel⟩⟩

theorem witness_ModeRequests :
    (∃ (who : Initiator) (s : State), s.barred who A.CROWN_MODE_REQ true = 0 ∧ s.secureOf who = true ∧ s.mode = .standby ∧ s.underWay = false ∧
      s.inControl = true ∧ s.allOpen = true ∧ s.fbClosed 6 = false ∧ s.meas.vPlant < 50000 ∧ s.est.writing = none ∧ s.est.waiting = [] ∧
      s.est.deferred = [] ∧ s.tele.deferred = false) ∧
    (∃ (who : Initiator) (s : State), s.barred who A.CROWN_MODE_REQ true = 0 ∧ s.mode = .run ∧ s.underWay = false ∧ s.inControl = true ∧ s.nOn ≠ 0) ∧
    (∃ (who : Initiator) (s : State), s.barred who A.CROWN_MODE_REQ true = 0 ∧ s.mode = .safe ∧ s.underWay = false ∧ s.inControl = true ∧
      s.noSHButLoop = true) ∧
    (∃ (who : Initiator) (p : Partners) (s : State), s.barred who A.CROWN_MODE_REQ true = 0 ∧ s.mode = .standby ∧ s.underWay = false ∧
      s.inControl = true ∧ s.missingPartners p = [] ∧ s.startAllowed = true ∧ s.nvm.armed ≠ 1 ∧ s.rd F.CONTACT_STATUS_WELD = 0) ∧
    (∃ (who : Initiator) (p : Partners) (s : State), s.barred who A.CROWN_MODE_REQ true = 0 ∧ s.mode = .rest ∧ s.underWay = false ∧
      s.inControl = true ∧ s.missingPartners p = [] ∧ s.startAllowed = true ∧ s.busHeld = true ∧ s.fbClosed 1 = true ∧ s.fbClosed 2 = true) ∧
    (∃ (who : Initiator) (s : State), s.barred who A.CROWN_MODE_REQ true = 0 ∧ s.mode = .run ∧ s.underWay = false ∧ s.inControl = true) ∧
    (∃ (who : Initiator) (s : State), s.barred who A.CROWN_MODE_REQ true = 0) ∧
    (∃ (who : Initiator) (s : State), s.barred who A.CROWN_MODE_REQ true = 0 ∧ s.secureOf who = true ∧ (s.mode = .standby ∨ s.mode = .safe) ∧
      s.underWay = false ∧ s.inControl = true ∧ s.allOpen = true) ∧
    (∃ (who : Initiator) (s : State), s.barred who A.CROWN_MODE_REQ true = 0 ∧ s.mode = .standby ∧ s.underWay = false ∧ s.inControl = true ∧
      s.on F.PAIR_CFG_PAIRED = false) ∧
    (∃ (who : Initiator) (s : State), s.barred who A.CROWN_MODE_REQ true = 0 ∧ s.secureOf who = false) ∧
    (∃ (who : Initiator) (s : State), s.barred who A.CROWN_MODE_REQ true = 0 ∧ s.mode = .hold) ∧
    (∃ (who : Initiator) (s : State), s.barred who A.CROWN_MODE_REQ true = 0 ∧ s.mode ≠ .hold ∧ s.underWay = true) :=
  ⟨⟨(.service : Initiator), (let s : State := {}; (fun s : State => ({ s with tele := { s.tele with deferred := false } } : State)) (
     (fun s : State => ({ s with est := { s.est with deferred := [] } } : State)) (
     (fun s : State => ({ s with est := { s.est with waiting := [] } } : State)) (
     (fun s : State => ({ s with est := { s.est with writing := none } } : State)) (
     (fun s : State => ({ s with meas := { s.meas with vPlant := 100 } } : State)) ((((
     (fun s : State => ({ s with crown := { s.crown with phase := .complete } } : State)) (
     (fun s : State => ({ s with prot := { s.prot with srd := none } } : State)) ((
     (fun s : State => ({ s with track := { s.track with aborting := 0 } } : State)) (
     (fun s : State => ({ s with track := { s.track with disc := 0 } } : State)) (
     (fun s : State =>
     ({ s with crown := { s.crown with trans := .none } } : State)) s))).wr F.CROWN_STAGE_CTRL_STATE (0)))).wr F.PAIR_STATUS_ROLE (0)).wr F.CROWN_MODE_MODE (1)).wr F.CONTACT_STATUS_FB (0)))))) : State), by decide +kernel⟩,
   ⟨(.service : Initiator), (let s : State := {}; (((
     (fun s : State => ({ s with crown := { s.crown with phase := .complete } } : State)) (
     (fun s : State => ({ s with prot := { s.prot with srd := none } } : State)) ((
     (fun s : State => ({ s with track := { s.track with aborting := 0 } } : State)) (
     (fun s : State => ({ s with track := { s.track with disc := 0 } } : State)) (
     (fun s : State =>
     ({ s with crown := { s.crown with trans := .none } } : State)) s))).wr F.CROWN_STAGE_CTRL_STATE (0)))).wr F.PAIR_STATUS_ROLE (0)).wr F.CROWN_MODE_MODE (3)).wr F.PSTAGE_RUNMASK_RUN (3) : State), by decide +kernel⟩,
   ⟨(.service : Initiator), (let s : State := {}; ((
     (fun s : State => ({ s with crown := { s.crown with phase := .complete } } : State)) (
     (fun s : State => ({ s with prot := { s.prot with srd := none } } : State)) ((
     (fun s : State => ({ s with track := { s.track with aborting := 0 } } : State)) (
     (fun s : State => ({ s with track := { s.track with disc := 0 } } : State)) (
     (fun s : State =>
     ({ s with crown := { s.crown with trans := .none } } : State)) s))).wr F.CROWN_STAGE_CTRL_STATE (0)))).wr F.PAIR_STATUS_ROLE (0)).wr F.CROWN_MODE_MODE (6) : State), by decide +kernel⟩,
   ⟨(.service : Initiator), ({} : Partners), (let s : State := {}; (((((
     (fun s : State => ({ s with nvm := { s.nvm with armed := 0 } } : State)) (
     (fun s : State => ({ s with ringSt := { s.ringSt with thrBad := 0 } } : State)) (
     (fun s : State => ({ s with prot := { s.prot with conds := [] } } : State)) ((((((((
     (fun s : State => ({ s with crown := { s.crown with phase := .complete } } : State)) (
     (fun s : State => ({ s with prot := { s.prot with srd := none } } : State)) ((
     (fun s : State => ({ s with track := { s.track with aborting := 0 } } : State)) (
     (fun s : State => ({ s with track := { s.track with disc := 0 } } : State)) (
     (fun s : State => ({ s with crown := { s.crown with trans := .none } } : State)) ((((((((((
     (fun s : State =>
     ({ s with regs := [] } : State)) s).wr F.PSTAGE_PHEN_EN (1)).wr F.PSTAGE_RATING_RATING_KW (10)).wr (F.PHASE_ILIM_POS 0) (100)).wr (F.PHASE_ILIM_NEG 0) (100)).wr (F.PHASE_ISCALE_SCALE 0) (1)).wr F.LOOP_CFG_PLAUS_EN (0)).wr F.LOOP_VBUS_V_BUS_MAX (10000)).wr F.TRACK_PRE_R_PRE (1)).wr F.TRACK_PRE_C_STR (1))))).wr F.CROWN_STAGE_CTRL_STATE (0)))).wr F.PAIR_STATUS_ROLE (0)).wr F.RING_CFG_NODE_COUNT (0)).wr F.RING_STATUS_FOUND (0)).wr F.RING_STATUS_CONFLICT (0)).wr F.PSTAGE_RUNMASK_FAULTMASK (0)).wr F.SUPPLY_STATUS_VAUX_OK (1)).wr F.UPDATE_STATUS_TRIAL (0))))).wr F.SUPPLY_STATUS_BANK_OK (1)).wr F.CONTACT_STATUS_WELD (0)).wr F.UPDATE_STATUS_TRIAL (0)).wr F.CROWN_MODE_MODE (1)).wr F.PROT_CFG_EN (0) : State), by decide +kernel⟩,
   ⟨(.service : Initiator), ({} : Partners), (let s : State := {}; ((((((
     (fun s : State => ({ s with nvm := { s.nvm with armed := 0 } } : State)) (
     (fun s : State => ({ s with ringSt := { s.ringSt with thrBad := 0 } } : State)) (
     (fun s : State => ({ s with prot := { s.prot with conds := [] } } : State)) ((((((((
     (fun s : State => ({ s with crown := { s.crown with phase := .complete } } : State)) (
     (fun s : State => ({ s with prot := { s.prot with srd := none } } : State)) ((
     (fun s : State => ({ s with track := { s.track with aborting := 0 } } : State)) (
     (fun s : State => ({ s with track := { s.track with disc := 0 } } : State)) (
     (fun s : State => ({ s with crown := { s.crown with trans := .none } } : State)) ((((((((((
     (fun s : State =>
     ({ s with regs := [] } : State)) s).wr F.PSTAGE_PHEN_EN (1)).wr F.PSTAGE_RATING_RATING_KW (10)).wr (F.PHASE_ILIM_POS 0) (100)).wr (F.PHASE_ILIM_NEG 0) (100)).wr (F.PHASE_ISCALE_SCALE 0) (1)).wr F.LOOP_CFG_PLAUS_EN (0)).wr F.LOOP_VBUS_V_BUS_MAX (10000)).wr F.TRACK_PRE_R_PRE (1)).wr F.TRACK_PRE_C_STR (1))))).wr F.CROWN_STAGE_CTRL_STATE (0)))).wr F.PAIR_STATUS_ROLE (0)).wr F.RING_CFG_NODE_COUNT (0)).wr F.RING_STATUS_FOUND (0)).wr F.RING_STATUS_CONFLICT (0)).wr F.PSTAGE_RUNMASK_FAULTMASK (0)).wr F.SUPPLY_STATUS_VAUX_OK (1)).wr F.UPDATE_STATUS_TRIAL (0))))).wr F.SUPPLY_STATUS_BANK_OK (1)).wr F.CONTACT_STATUS_WELD (0)).wr F.UPDATE_STATUS_TRIAL (0)).wr F.CROWN_MODE_MODE (4)).wr F.CONTACT_STATUS_FB (0x3F)).wr F.CONTACT_STATUS_DRIVE (0x1F) : State), by decide +kernel⟩,
   ⟨(.service : Initiator), (let s : State := {}; ((
     (fun s : State => ({ s with crown := { s.crown with phase := .complete } } : State)) (
     (fun s : State => ({ s with prot := { s.prot with srd := none } } : State)) ((
     (fun s : State => ({ s with track := { s.track with aborting := 0 } } : State)) (
     (fun s : State => ({ s with track := { s.track with disc := 0 } } : State)) (
     (fun s : State =>
     ({ s with crown := { s.crown with trans := .none } } : State)) s))).wr F.CROWN_STAGE_CTRL_STATE (0)))).wr F.PAIR_STATUS_ROLE (0)).wr F.CROWN_MODE_MODE (3) : State), by decide +kernel⟩,
   ⟨(.service : Initiator), (let s : State := {}; s : State), by decide +kernel⟩,
   ⟨(.service : Initiator), (let s : State := {}; (((
     (fun s : State => ({ s with crown := { s.crown with phase := .complete } } : State)) (
     (fun s : State => ({ s with prot := { s.prot with srd := none } } : State)) ((
     (fun s : State => ({ s with track := { s.track with aborting := 0 } } : State)) (
     (fun s : State => ({ s with track := { s.track with disc := 0 } } : State)) (
     (fun s : State =>
     ({ s with crown := { s.crown with trans := .none } } : State)) s))).wr F.CROWN_STAGE_CTRL_STATE (0)))).wr F.PAIR_STATUS_ROLE (0)).wr F.CROWN_MODE_MODE (1)).wr F.CONTACT_STATUS_FB (0) : State), by decide +kernel⟩,
   ⟨(.service : Initiator), (let s : State := {}; (((
     (fun s : State => ({ s with crown := { s.crown with phase := .complete } } : State)) (
     (fun s : State => ({ s with prot := { s.prot with srd := none } } : State)) ((
     (fun s : State => ({ s with track := { s.track with aborting := 0 } } : State)) (
     (fun s : State => ({ s with track := { s.track with disc := 0 } } : State)) (
     (fun s : State =>
     ({ s with crown := { s.crown with trans := .none } } : State)) s))).wr F.CROWN_STAGE_CTRL_STATE (0)))).wr F.PAIR_STATUS_ROLE (0)).wr F.CROWN_MODE_MODE (1)).wr F.PAIR_CFG_PAIRED (0) : State), by decide +kernel⟩,
   ⟨(.host : Initiator), (let s : State := {}; ((s.wr F.HOST_SESS_SECURE (0)).wr F.HOST_CFG_NS_OPEN (1)).wr F.PAIR_CFG_PAIRED (0) : State),
     by decide +kernel⟩,
   ⟨(.service : Initiator), (let s : State := {}; s.wr F.CROWN_MODE_MODE (5) : State), by decide +kernel⟩,
   ⟨(.service : Initiator), (let s : State := {}; (fun s : State =>
     ({ s with crown := { s.crown with trans := .disconnect } } : State)) (s.wr F.CROWN_MODE_MODE (3)) : State), by decide +kernel⟩⟩

theorem witness_SafeExitAndWake :
    (∃ (s : State), s.crown.trans = .safeExit ∧ s.crown.clearAwait = [] ∧ s.on F.NODE_STATUS_LOOP_CLOSED = true ∧ s.noSH = true ∧ s.mode = .safe) ∧
    (∃ (s : State), s.crown.trans = .safeExit ∧ s.crown.clearAwait = [] ∧ s.on F.NODE_STATUS_LOOP_CLOSED = false) ∧
    (∃ (w : Wake) (s : State), s.on F.CROWN_MODE_DORMANT = true ∧ (∀ ch, w ≠ .can ch)) ∧
    (∃ (ch : Fin 4) (s : State), s.on F.CROWN_MODE_DORMANT = true ∧ s.on (F.CAN_CFG_EN ch.val) = true ∧ s.on (F.CAN_CFG_SLEEP_EN ch.val) = true) ∧
    (∃ (s : State), s.on F.CROWN_MODE_DORMANT = true ∧ s.rd F.CLOCK_CFG_AON_WAKE_S ≠ 0 ∧ s.bit F.CLOCK_MONFAIL_DOMAINS 11 = false) :=
  ⟨⟨(let s : State := {}; ((fun s : State => ({ s with prot := { s.prot with conds := [] } } : State)) ((
     (fun s : State => ({ s with crown := { s.crown with clearAwait := [] } } : State)) (
     (fun s : State =>
     ({ s with crown := { s.crown with trans := .safeExit } } : State)) s)).wr F.NODE_STATUS_LOOP_CLOSED (1))).wr F.CROWN_MODE_MODE (6) : State),
     by decide +kernel⟩,
   ⟨(let s : State := {}; ((fun s : State => ({ s with crown := { s.crown with clearAwait := [] } } : State)) (
     (fun s : State => ({ s with crown := { s.crown with trans := .safeExit } } : State)) s)).wr F.NODE_STATUS_LOOP_CLOSED (0) : State),
     by decide +kernel⟩,
   ⟨(.host : Wake), (let s : State := {}; s.wr F.CROWN_MODE_DORMANT (1) : State), by decide +kernel⟩,
   ⟨(0 : Fin 4),
     (let ch : Fin 4 := 0; let s : State := {}; ((s.wr F.CROWN_MODE_DORMANT (1)).wr (F.CAN_CFG_EN ch.val) (1)).wr (F.CAN_CFG_SLEEP_EN ch.val) (1) : State), by decide +kernel⟩,
   ⟨(let s : State := {}; ((s.wr F.CROWN_MODE_DORMANT (1)).wr F.CLOCK_CFG_AON_WAKE_S (10)).wr F.CLOCK_MONFAIL_DOMAINS (0) : State), by decide +kernel⟩⟩

theorem witness_StagedWrites :
    (∃ (who : Initiator) (page : Fin 256) (reg : Fin 512) (s : State), s.barred who (page.val * 4096 + 0x800 + 4 * reg.val) true = 0 ∧ s.stage < 5 ∧
      who.id ≠ 0 ∧ (s.rd F.CROWN_STAGE_OWNER_SESSION = 0 ∨ s.rd F.CROWN_STAGE_OWNER_SESSION = who.id) ∧ rwsReg (page.val * 4096 + 4 * reg.val) = true) ∧
    (∃ (who : Initiator) (page : Fin 256) (reg : Fin 512) (s : State), s.barred who (page.val * 4096 + 0x800 + 4 * reg.val) true = 0 ∧ s.stage < 5 ∧
      (who.id = 0 ∨ (s.rd F.CROWN_STAGE_OWNER_SESSION ≠ 0 ∧ s.rd F.CROWN_STAGE_OWNER_SESSION ≠ who.id))) ∧
    (∃ (who : Initiator) (page : Fin 256) (reg : Fin 512) (s : State), s.barred who (page.val * 4096 + 0x800 + 4 * reg.val) true = 0 ∧ 5 ≤ s.stage) ∧
    (∃ (who : Initiator) (page : Fin 256) (s : State), s.barred who (page.val * 4096 + 0x020) true = 0 ∧ page.val ≠ 0 ∧ s.stage < 5 ∧ who.id ≠ 0 ∧
      (s.rd F.CROWN_STAGE_OWNER_SESSION = 0 ∨ s.rd F.CROWN_STAGE_OWNER_SESSION = who.id)) :=
  ⟨⟨(.host : Initiator), (0x20 : Fin 256), (18 : Fin 512), (let s : State := {}; (fun s : State =>
     ({ s with rk := [(3, { openState := 2, secure := true })] } : State)) ((((s.wr F.HOST_CFG_NS_OPEN (1)).wr F.HOST_SESS_SECURE (1)).wr F.CROWN_STAGE_OWNER_SESSION (1)).wr F.CROWN_STAGE_CTRL_STATE (1)) : State), by decide +kernel⟩,
   ⟨(.host : Initiator), (0x20 : Fin 256), (18 : Fin 512),
     (let s : State := {}; ((((s.wr F.HOST_CFG_NS_OPEN (1)).wr F.HOST_SESS_SECURE (1)).wr F.CROWN_STAGE_OWNER_SESSION (1)).wr F.CROWN_STAGE_CTRL_STATE (1)).wr F.CROWN_STAGE_OWNER_SESSION (18) : State), by decide +kernel⟩,
   ⟨(.host : Initiator), (0x20 : Fin 256), (18 : Fin 512),
     (let s : State := {}; (((s.wr F.HOST_CFG_NS_OPEN (1)).wr F.HOST_SESS_SECURE (1)).wr F.CROWN_STAGE_OWNER_SESSION (1)).wr F.CROWN_STAGE_CTRL_STATE (5) : State), by decide +kernel⟩,
   ⟨(.host : Initiator), (0x20 : Fin 256),
     (let s : State := {}; (((s.wr F.HOST_CFG_NS_OPEN (1)).wr F.HOST_SESS_SECURE (1)).wr F.CROWN_STAGE_OWNER_SESSION (1)).wr F.CROWN_STAGE_CTRL_STATE (1) : State), by decide +kernel⟩⟩

theorem witness_StagingCommands :
    (∃ (who : Initiator) (s : State), s.barred who A.CROWN_STAGE_CTRL true = 0 ∧ who.id ≠ 0 ∧
      (s.rd F.CROWN_STAGE_OWNER_SESSION = 0 ∨ s.rd F.CROWN_STAGE_OWNER_SESSION = who.id) ∧ s.stage = 1) ∧
    (∃ (who : Initiator) (s : State), s.barred who A.CROWN_STAGE_CTRL true = 0 ∧ who.id ≠ 0 ∧
      (s.rd F.CROWN_STAGE_OWNER_SESSION = 0 ∨ s.rd F.CROWN_STAGE_OWNER_SESSION = who.id) ∧ s.stage = 0) ∧
    (∃ (s : State), s.stage = 2 ∧ s.stg.commitStep = 0) ∧
    (∃ (who : Initiator) (lead : Fin 65536) (s : State), s.barred who A.CROWN_STAGE_CTRL true = 0 ∧ who.id ≠ 0 ∧
      (s.rd F.CROWN_STAGE_OWNER_SESSION = 0 ∨ s.rd F.CROWN_STAGE_OWNER_SESSION = who.id) ∧ s.stage = 3 ∧ s.mode ≠ .hold ∧ s.cd0Stopped = false ∧
      3 ≤ lead.val) ∧
    (∃ (who : Initiator) (s : State), s.barred who A.CROWN_STAGE_CTRL true = 0 ∧ who.id ≠ 0 ∧
      (s.rd F.CROWN_STAGE_OWNER_SESSION = 0 ∨ s.rd F.CROWN_STAGE_OWNER_SESSION = who.id) ∧ s.stage ≠ 3) ∧
    (∃ (who : Initiator) (s : State), s.barred who A.CROWN_STAGE_CTRL true = 0 ∧ who.id ≠ 0 ∧
      (s.rd F.CROWN_STAGE_OWNER_SESSION = 0 ∨ s.rd F.CROWN_STAGE_OWNER_SESSION = who.id) ∧ s.stage = 5 ∧ s.stg.takeUp = false) ∧
    (∃ (who : Initiator) (s : State), s.barred who A.CROWN_STAGE_CTRL true = 0 ∧
      (s.rd F.CROWN_STAGE_OWNER_SESSION = 0 ∨ s.rd F.CROWN_STAGE_OWNER_SESSION = who.id) ∧ s.stage < 5) ∧
    (∃ (s : State), s.rd F.CROWN_STAGE_OWNER_SESSION ≠ 0 ∧ s.stg.suspended = false) :=
  ⟨⟨(.host : Initiator),
     (let s : State := {}; (((s.wr F.HOST_CFG_NS_OPEN (1)).wr F.HOST_SESS_SECURE (1)).wr F.CROWN_STAGE_OWNER_SESSION (1)).wr F.CROWN_STAGE_CTRL_STATE (1) : State), by decide +kernel⟩,
   ⟨(.host : Initiator),
     (let s : State := {}; (((s.wr F.HOST_CFG_NS_OPEN (1)).wr F.HOST_SESS_SECURE (1)).wr F.CROWN_STAGE_OWNER_SESSION (1)).wr F.CROWN_STAGE_CTRL_STATE (0) : State), by decide +kernel⟩,
   ⟨(let s : State := {}; (fun s : State => ({ s with stg := { s.stg with commitStep := 0 } } : State)) (s.wr F.CROWN_STAGE_CTRL_STATE (2)) : State),
     by decide +kernel⟩,
   ⟨(.host : Initiator), (5 : Fin 65536),
     (let s : State := {}; (((((s.wr F.HOST_CFG_NS_OPEN (1)).wr F.HOST_SESS_SECURE (1)).wr F.CROWN_STAGE_OWNER_SESSION (1)).wr F.CROWN_STAGE_CTRL_STATE (3)).wr F.CROWN_MODE_MODE (3)).wr F.CROWN_MODE_DORMANT (0) : State), by decide +kernel⟩,
   ⟨(.host : Initiator),
     (let s : State := {}; (((s.wr F.HOST_CFG_NS_OPEN (1)).wr F.HOST_SESS_SECURE (1)).wr F.CROWN_STAGE_OWNER_SESSION (1)).wr F.CROWN_STAGE_CTRL_STATE (1) : State), by decide +kernel⟩,
   ⟨(.host : Initiator), (let s : State := {}; (fun s : State =>
     ({ s with stg := { s.stg with takeUp := false } } : State)) ((((s.wr F.HOST_CFG_NS_OPEN (1)).wr F.HOST_SESS_SECURE (1)).wr F.CROWN_STAGE_OWNER_SESSION (1)).wr F.CROWN_STAGE_CTRL_STATE (5)) : State), by decide +kernel⟩,
   ⟨(.host : Initiator),
     (let s : State := {}; (((s.wr F.HOST_CFG_NS_OPEN (1)).wr F.HOST_SESS_SECURE (1)).wr F.CROWN_STAGE_OWNER_SESSION (1)).wr F.CROWN_STAGE_CTRL_STATE (1) : State), by decide +kernel⟩,
   ⟨(let s : State := {}; (fun s : State =>
     ({ s with stg := { s.stg with suspended := false } } : State)) (s.wr F.CROWN_STAGE_OWNER_SESSION (1)) : State), by decide +kernel⟩⟩

theorem witness_ApplySequence :
    (∃ (s : State), s.stage = 5 ∧ s.prot.srd = none ∧ s.launchFailures = []) ∧
    (∃ (s : State), s.stage = 5 ∧ s.prot.srd ≠ none ∧ s.stg.takeUp = false) ∧
    (∃ (unloaded : List Nat) (s : State), s.stage = 6 ∧ s.stg.takeUp = false ∧ unloaded ≠ []) ∧
    (∃ (s : State), s.stage = 6 ∧ s.stg.takeUp = false) ∧
    (∃ (s : State), s.stg.takeUp = true ∧ s.crown.heldReset = none ∧ s.crown.runDue = false) :=
  ⟨⟨(let s : State := {}; (fun s : State => ({ s with staged := [] } : State)) (
     (fun s : State => ({ s with prot := { s.prot with srd := none } } : State)) (s.wr F.CROWN_STAGE_CTRL_STATE (5))) : State), by decide +kernel⟩,
   ⟨(let s : State := {}; (fun s : State => ({ s with stg := { s.stg with takeUp := false } } : State)) (
     (fun s : State => ({ s with prot := { s.prot with srd := some {} } } : State)) (s.wr F.CROWN_STAGE_CTRL_STATE (5))) : State), by decide +kernel⟩,
   ⟨([0x20] : List Nat), (let s : State := {}; (fun s : State =>
     ({ s with stg := { s.stg with takeUp := false } } : State)) (s.wr F.CROWN_STAGE_CTRL_STATE (6)) : State), by decide +kernel⟩,
   ⟨(let s : State := {}; (fun s : State => ({ s with stg := { s.stg with takeUp := false } } : State)) (s.wr F.CROWN_STAGE_CTRL_STATE (6)) : State),
     by decide +kernel⟩,
   ⟨(let s : State := {}; (fun s : State => ({ s with crown := { s.crown with runDue := false } } : State)) (
     (fun s : State => ({ s with crown := { s.crown with heldReset := none } } : State)) (
     (fun s : State => ({ s with stg := { s.stg with takeUp := true } } : State)) s)) : State), by decide +kernel⟩⟩

theorem witness_AppliedValueInForce :
    ∃ (a : Nat) (x : Word) (s : State), s.stage = 6 ∧ s.stg.takeUp = false ∧ s.shadow = [(a, x)] ∧ rwsReg a = true :=
  ⟨(0x22040 : Nat), (5 : Word), (let a : Nat := 0x22040; let x : Word := 5; let s : State := {}; (fun s : State =>
    ({ s with shadow := [(a, x)] } : State)) (
    (fun s : State => ({ s with stg := { s.stg with takeUp := false } } : State)) (s.wr F.CROWN_STAGE_CTRL_STATE (6))) : State), by decide +kernel⟩

theorem witness_SecureCommit :
    (∃ (who : Initiator) (s : State), s.barred who A.WORLD_COMMIT true = 0 ∧ who.id ≠ 0 ∧ s.stg.commitStep = 0 ∧ s.commitBarred who = false ∧
      s.stage = 1) ∧
    (∃ (who : Initiator) (s : State), s.barred who A.WORLD_COMMIT true = 0 ∧ s.stg.commitStep = 0 ∧ s.commitBarred who = true) ∧
    (∃ (s : State), s.stg.commitStep = 3) ∧
    (∃ (s : State), s.stg.commitStep = 3) ∧
    (∃ (s : State), s.stg.commitStep = 3) :=
  ⟨⟨(.host : Initiator), (let s : State := {}; (((
     (fun s : State =>
     ({ s with stg := { s.stg with commitStep := 0 } } : State)) ((((s.wr F.HOST_CFG_NS_OPEN (1)).wr F.HOST_SESS_SECURE (1)).wr F.CROWN_STAGE_OWNER_SESSION (1)).wr F.CROWN_STAGE_CTRL_STATE (1))).wr F.THERM_STATUS_NOR_OK (1)).wr F.CROWN_MODE_MODE (3)).wr F.CROWN_MODE_DORMANT (0) : State), by decide +kernel⟩,
   ⟨(.host : Initiator), (let s : State := {}; (fun s : State =>
     ({ s with stg := { s.stg with commitStep := 0 } } : State)) ((((s.wr F.HOST_CFG_NS_OPEN (1)).wr F.HOST_SESS_SECURE (1)).wr F.CROWN_STAGE_OWNER_SESSION (1)).wr F.CROWN_STAGE_CTRL_STATE (5)) : State), by decide +kernel⟩,
   ⟨(let s : State := {}; (fun s : State => ({ s with stg := { s.stg with commitStep := 3 } } : State)) (s) : State), by decide +kernel⟩,
   ⟨(let s : State := {}; (fun s : State => ({ s with stg := { s.stg with commitStep := 3 } } : State)) (s) : State), by decide +kernel⟩,
   ⟨(let s : State := {}; (fun s : State => ({ s with stg := { s.stg with commitStep := 3 } } : State)) (s) : State), by decide +kernel⟩⟩

theorem witness_RegisterWrites :
    (∃ (who : Initiator) (d : BitVec 32) (s : State), s.writeCode who A.ESTIM_VIEW d.toNat = 0 ∧ ((s.host.held.any fun h =>
      pageOf h.addr == 0x28) = false)) ∧
    (∃ (who : Initiator) (d : BitVec 32) (s : State), s.writeCode who A.IMPED_VIEW d.toNat = 0 ∧ ((s.host.held.any fun h =>
      pageOf h.addr == 0x26) = false)) ∧
    (∃ (who : Initiator) (d : BitVec 32) (s : State), s.writeCode who 0x28010 d.toNat = 0 ∧ ((s.host.held.any fun h =>
      pageOf h.addr == 0x28) = false)) ∧
    (∃ (who : Initiator) (d : BitVec 32) (s : State), s.writeCode who A.HOST_CFG d.toNat = 0 ∧ who ≠ .host ∧ ((s.host.held.any fun h =>
      pageOf h.addr == 0x05) = false)) ∧
    (∃ (who : Initiator) (addr : BitVec 20), assigned (pageOf addr.toNat) = false ∧ who ≠ .host) ∧
    (∃ (who : Initiator) (addr : BitVec 20) (s : State), s.barred who addr.toNat true = 0x02 ∧ who ≠ .host) ∧
    (∃ (who : Initiator) (page : Fin 256) (s : State), s.barred who (page.val * 4096 + 0x010) true = 0 ∧ page.val ≠ 0x12 ∧
      s.crossingStopped (page.val * 4096 + 0x010) = false ∧ ((s.host.held.any fun h => pageOf h.addr == page.val) = false)) ∧
    (∃ (who : Initiator) (page : Fin 256) (s : State), s.barred who (page.val * 4096 + 0x028) true = 0) ∧
    (∃ (who : Initiator) (page : Fin 256) (s : State), s.barred who (page.val * 4096 + 0x02C) true = 0) :=
  ⟨⟨(.service : Initiator), (0 : BitVec 32), (let s : State := {}; s : State), by decide +kernel⟩,
   ⟨(.service : Initiator), (0 : BitVec 32), (let s : State := {}; s : State), by decide +kernel⟩,
   ⟨(.service : Initiator), (0 : BitVec 32), (let s : State := {}; s : State), by decide +kernel⟩,
   ⟨(.service : Initiator), (0 : BitVec 32), (let s : State := {}; s : State), by decide +kernel⟩,
   ⟨(.service : Initiator), (0xF0000 : BitVec 20), by decide +kernel⟩,
   ⟨(.scanProgram : Initiator), (0x01040 : BitVec 20), (let s : State := {}; s : State), by decide +kernel⟩,
   ⟨(.service : Initiator), (0x20 : Fin 256), (let s : State := {}; s : State), by decide +kernel⟩,
   ⟨(.service : Initiator), (0x20 : Fin 256), (let s : State := {}; s : State), by decide +kernel⟩,
   ⟨(.service : Initiator), (0x20 : Fin 256), (let s : State := {}; s : State), by decide +kernel⟩⟩

theorem witness_HostPort :
    (∃ (addr : BitVec 24) (s : State), addrCode addr.toNat = 0 ∧ s.barred .host addr.toNat false = 0 ∧ addr.toNat % 4096 < 0x800 ∧
      addr.toNat ≠ A.SCAN_PROG_LIVE) ∧
    (∃ (addr : BitVec 24) (s : State), addrCode addr.toNat = 0 ∧ s.barred .host addr.toNat false ≠ 0) ∧
    (∃ (addr : BitVec 24) (n : Nat), addrCode addr.toNat = 0 ∧ n ≠ 0) ∧
    (∃ (addr : BitVec 24), addrCode addr.toNat ≠ 0) ∧
    (∃ (b3 b2 b1 b0 : Byte) (s : State), s.on F.HOST_SESS_SECURE = false ∧ s.writeCode .host A.ESTIM_VIEW (beAt [b3, b2, b1, b0] 0 4) = 0 ∧
      ((s.host.held.any fun h => pageOf h.addr == 0x28) = false)) ∧
    (∃ (b3 b2 b1 b0 c3 c2 c1 c0 : Byte) (s : State), s.on F.HOST_SESS_SECURE = false ∧
      s.writesCode .host A.CROWN_APPLY_AT_NS [beAt [b3, b2, b1, b0] 0 4, beAt [c3, c2, c1, c0] 0 4] = none ∧ ((s.host.held.any fun h =>
      pageOf h.addr == 0x00) = false)) ∧
    (∃ (b3 b2 b1 b0 : Byte) (tg : List Byte) (s : State), s.on F.HOST_SESS_SECURE = true ∧ tg.length = 16 ∧
      s.hostTagOk 0x02 0x280C0 [1, b3, b2, b1, b0] tg = true ∧ s.writeCode .host A.ESTIM_VIEW (beAt [b3, b2, b1, b0] 0 4) = 0 ∧
      ((s.host.held.any fun h => pageOf h.addr == 0x28) = false)) ∧
    (∃ (addr : BitVec 24) (bytes : List Byte) (c : Nat × Nat) (s : State), addrCode addr.toNat = 0 ∧ 1 ≤ leAt bytes 0 1 ∧ leAt bytes 0 1 ≤ 64 ∧
      bytes.length = 1 + 4 * leAt bytes 0 1 ∧ s.on F.HOST_SESS_SECURE = false ∧
      s.writesCode .host addr.toNat (beWords (leAt bytes 0 1) (bytes.drop 1)) = some c) ∧
    (∃ (addr : BitVec 24) (b3 b2 b1 b0 : Byte) (s : State), addrCode addr.toNat = 0 ∧ s.on F.HOST_SESS_SECURE = false ∧
      s.writesCode .host addr.toNat [beAt [b3, b2, b1, b0] 0 4] = none ∧ s.crossingStopped addr.toNat = true) ∧
    (∃ (addr : BitVec 24) (bytes : List Byte) (s : State), addrCode addr.toNat = 0 ∧
      (leAt bytes 0 1 = 0 ∨ 64 < leAt bytes 0 1 ∨ bytes.length ≠ 1 + 4 * leAt bytes 0 1 + (if s.on F.HOST_SESS_SECURE then 16 else 0))) ∧
    (∃ (op : Byte), op ≠ 0x02) ∧
    (∃ (addr : BitVec 24), addrCode addr.toNat ≠ 0) ∧
    (∃ (addr : BitVec 24) (bytes : List Byte) (s : State), addrCode addr.toNat = 0 ∧ s.on F.HOST_SESS_SECURE = true ∧ 1 ≤ leAt bytes 0 1 ∧
      leAt bytes 0 1 ≤ 64 ∧ bytes.length = 17 + 4 * leAt bytes 0 1 ∧
      s.hostTagOk 2 addr.toNat (bytes.take (1 + 4 * leAt bytes 0 1)) (bytes.drop (1 + 4 * leAt bytes 0 1)) = false) :=
  ⟨⟨(0x280C0 : BitVec 24), (let s : State := {}; s.wr F.HOST_CFG_NS_OPEN (1) : State), by decide +kernel⟩,
   ⟨(0x280C0 : BitVec 24), (let s : State := {}; s.wr F.HOST_CFG_NS_OPEN (0) : State), by decide +kernel⟩,
   ⟨(0x280C0 : BitVec 24), (3 : Nat), by decide +kernel⟩,
   ⟨(0x280C1 : BitVec 24), by decide +kernel⟩,
   ⟨(0 : Byte), (0 : Byte), (0 : Byte), (0 : Byte), (let s : State := {}; (fun s : State =>
     ({ s with crown := { s.crown with phase := .complete } } : State)) ((fun (s : State) => s.wr ⟨0x01040 + 4 * 2, 16,
     2⟩ 0) ((s.wr F.HOST_CFG_NS_OPEN (1)).wr F.HOST_SESS_SECURE (0))) : State), by decide +kernel⟩,
   ⟨(0 : Byte), (0 : Byte), (0 : Byte), (0 : Byte), (0 : Byte), (0 : Byte), (0 : Byte), (0 : Byte), (let s : State := {}; (fun s : State =>
     ({ s with crown := { s.crown with phase := .complete } } : State)) ((s.wr F.HOST_CFG_NS_OPEN (1)).wr F.HOST_SESS_SECURE (0)) : State),
     by decide +kernel⟩,
   ⟨(0 : Byte), (0 : Byte), (0 : Byte), (0 : Byte), (tag 16 [] (be 4 0 ++ [byte 0x02] ++ be 3 0x280C0 ++ [1, 0, 0, 0, 0]) : List Byte),
     (let s : State := {}; (fun s : State =>
     ({ s with crown := { s.crown with phase := .complete } } : State)) (s.wr F.HOST_SESS_SECURE (1)) : State), by decide +kernel⟩,
   ⟨(0xF0000 : BitVec 24), ([1, 0, 0, 0, 0] : List Byte), ((0xF0000, 1) : Nat × Nat),
     (let s : State := {}; (s.wr F.HOST_CFG_NS_OPEN (1)).wr F.HOST_SESS_SECURE (0) : State), by decide +kernel⟩,
   ⟨(0x25040 : BitVec 24), (0 : Byte), (0 : Byte), (0 : Byte), (0 : Byte), (let s : State := {}; (fun (s : State) => s.wr ⟨0x01048, 0,
     32⟩ 0) ((((s.wr F.HOST_CFG_NS_OPEN (1)).wr F.HOST_SESS_SECURE (0)).wr F.CROWN_MODE_DORMANT (1)).wr F.CROWN_MODE_MODE (1)) : State),
     by decide +kernel⟩,
   ⟨(0x280C0 : BitVec 24), ([] : List Byte), (let s : State := {}; s : State), by decide +kernel⟩,
   ⟨(0x44 : Byte), by decide +kernel⟩,
   ⟨(0x280C1 : BitVec 24), by decide +kernel⟩,
   ⟨(0x280C0 : BitVec 24), (1 :: List.replicate 20 0 : List Byte), (let s : State := {}; s.wr F.HOST_SESS_SECURE (1) : State), by decide +kernel⟩⟩

theorem witness_HostSessions :
    (∃ (bytes : List Byte) (s : State), bytes.length = 32 ∧ s.host.nonce ≠ none ∧ s.mono ≤ s.host.nonceAt + 10000000000 ∧
      s.tagOk 1 16 (ascii "XSWH" ++ s.host.nonce.getD [] ++ bytes.take 16) (bytes.drop 16) = true) ∧
    (∃ (bytes : List Byte) (s : State), bytes.length = 32 ∧ s.host.nonce = none) ∧
    (∃ (bytes : List Byte) (s : State), bytes.length = 16 ∧ s.on F.HOST_SESS_SECURE = true ∧ s.hostTagOk 0x32 0 [] bytes = true) ∧
    (∃ (s : State), s.on F.HOST_SESS_SECURE = true) :=
  ⟨⟨(List.replicate 16 0 ++ tag 16 [1,2,3] (ascii "XSWH" ++ [1,2,3] ++ List.replicate 16 0) : List Byte), (let s : State := {}; (fun s =>
     { s with nvm := { s.nvm with keys := [(1, [1,2,3])] } }) ((fun s : State => ({ s with tb := [] } : State)) (
     (fun s : State => ({ s with host := { s.host with nonceAt := 0 } } : State)) (
     (fun s : State => ({ s with host := { s.host with nonce := some [1,2,3] } } : State)) s))) : State), by decide +kernel⟩,
   ⟨(List.replicate 32 0 : List Byte), (let s : State := {}; (fun s : State => ({ s with host := { s.host with nonce := none } } : State)) (s) : State),
     by decide +kernel⟩,
   ⟨(tag 16 [] (be 4 0 ++ [byte 0x32] ++ be 3 0 ++ []) : List Byte), (let s : State := {}; s.wr F.HOST_SESS_SECURE (1) : State), by decide +kernel⟩,
   ⟨(let s : State := {}; s.wr F.HOST_SESS_SECURE (1) : State), by decide +kernel⟩⟩

theorem witness_EthernetPorts :
    (∃ (s : State), s.portsLive = true) ∧
    (∃ (s : State), s.portsLive = true) ∧
    (∃ (s : State), s.portsLive = true) ∧
    (∃ (p : Fin 2) (target : BitVec 32) (s : State), s.ipUp p.val = true ∧ s.rd (F.ETH_IPV4_ADDR p.val) = target.toNat) ∧
    (∃ (p : Fin 2) (s : State), s.ipUp p.val = true) :=
  ⟨⟨(let s : State := {}; (fun s : State => ({ s with crown := { s.crown with phase := .complete } } : State)) (s.wr F.CROWN_MODE_MODE (3)) : State),
     by decide +kernel⟩,
   ⟨(let s : State := {}; (fun s : State => ({ s with crown := { s.crown with phase := .complete } } : State)) (s.wr F.CROWN_MODE_MODE (3)) : State),
     by decide +kernel⟩,
   ⟨(let s : State := {}; (fun s : State => ({ s with crown := { s.crown with phase := .complete } } : State)) (s.wr F.CROWN_MODE_MODE (3)) : State),
     by decide +kernel⟩,
   ⟨(0 : Fin 2), (7 : BitVec 32), (let p : Fin 2 := 0; let s : State := {}; ((
     (fun s : State =>
     ({ s with crown := { s.crown with phase := .complete } } : State)) (s.wr F.CROWN_MODE_MODE (3))).wr (F.ETH_LINK_UP p.val) (1)).wr (F.ETH_IPV4_ADDR p.val) (7) : State), by decide +kernel⟩,
   ⟨(0 : Fin 2), (let p : Fin 2 := 0; let s : State := {}; ((
     (fun s : State =>
     ({ s with crown := { s.crown with phase := .complete } } : State)) (s.wr F.CROWN_MODE_MODE (3))).wr (F.ETH_LINK_UP p.val) (1)).wr (F.ETH_IPV4_ADDR p.val) (7) : State), by decide +kernel⟩⟩

theorem witness_RalkiulSessions :
    (∃ (p : Fin 2) (udp : UdpPorts) (b : List Byte) (i : Fin 8) (s : State), s.ipUp p.val = true ∧ s.on (F.ETH_RK_CFG_RK_EN p.val) = true ∧
      s.rd (F.ETH_RK_CFG_UDP_PORT p.val) = udp.dst.toNat ∧ rkSound b = true ∧ beAt b 3 1 = 0x01 ∧ beAt b 4 1 = 0 ∧ (rkTag b).any (· != 0) = false ∧
      (rkPayload b).length = 16 ∧ (((List.range 8).find? fun i => (s.rkSession i).openState == 0) = some i.val)) ∧
    (∃ (p : Fin 2) (udp : UdpPorts) (b : List Byte) (i : Fin 8) (s : State), s.ipUp p.val = true ∧ s.on (F.ETH_RK_CFG_RK_EN p.val) = true ∧
      s.rd (F.ETH_RK_CFG_UDP_PORT p.val) = udp.dst.toNat ∧ rkSound b = true ∧ beAt b 3 1 = 0x03 ∧ beAt b 4 1 = 0x10 + i.val ∧
      (s.rkSession i.val).openState = 1 ∧ beAt b 16 1 ≤ 1 ∧
      (rkPayload b).drop 1 = (s.rkSession i.val).clientNonce ++ (s.rkSession i.val).moduleNonce ∧
      s.tagOk (beAt b 16 1) 16 (rkBody b) (rkTag b) = true) ∧
    (∃ (p : Fin 2) (ip : BitVec 32) (udp : UdpPorts) (b : List Byte) (i : Fin 8) (s : State), s.ipUp p.val = true ∧
      s.on (F.ETH_RK_CFG_RK_EN p.val) = true ∧ s.rd (F.ETH_RK_CFG_UDP_PORT p.val) = udp.dst.toNat ∧ rkSound b = true ∧ beAt b 3 1 = 0x21 ∧
      beAt b 4 1 = 0x10 + i.val ∧ (s.rkSession i.val).openState = 2 ∧ rkTag b = tag 16 (s.rkSession i.val).key (rkBody b) ∧
      (s.rkSession i.val).address = ip.toNat ∧ (s.rkSession i.val).udpPort = udp.src.toNat ∧ (s.rkSession i.val).lastSeq < beAt b 8 4) ∧
    (∃ (p : Fin 2) (ip : BitVec 32) (udp : UdpPorts) (b : List Byte) (i : Fin 8) (s : State), s.ipUp p.val = true ∧
      s.on (F.ETH_RK_CFG_RK_EN p.val) = true ∧ s.rd (F.ETH_RK_CFG_UDP_PORT p.val) = udp.dst.toNat ∧ rkSound b = true ∧ beAt b 3 1 = 0x30 ∧
      beAt b 4 1 = 0x10 + i.val ∧ (s.rkSession i.val).openState = 2 ∧ rkTag b = tag 16 (s.rkSession i.val).key (rkBody b) ∧
      (s.rkSession i.val).address = ip.toNat ∧ (s.rkSession i.val).udpPort = udp.src.toNat ∧ (s.rkSession i.val).lastSeq < beAt b 8 4) ∧
    (∃ (p : Fin 2) (ip : BitVec 32) (udp : UdpPorts) (b : List Byte) (i : Fin 8) (s : State), s.ipUp p.val = true ∧
      s.on (F.ETH_RK_CFG_RK_EN p.val) = true ∧ s.rd (F.ETH_RK_CFG_UDP_PORT p.val) = udp.dst.toNat ∧ rkSound b = true ∧ beAt b 3 1 = 0x31 ∧
      beAt b 4 1 = 0x10 + i.val ∧ (s.rkSession i.val).openState = 2 ∧ rkTag b = tag 16 (s.rkSession i.val).key (rkBody b) ∧
      (s.rkSession i.val).address = ip.toNat ∧ (s.rkSession i.val).udpPort = udp.src.toNat ∧ (s.rkSession i.val).lastSeq < beAt b 8 4) ∧
    (∃ (i : Fin 8) (s : State), (s.rkSession i.val).openState = 1) ∧
    (∃ (i : Fin 8) (s : State), (s.rkSession i.val).openState = 2) ∧
    (∃ (i : Fin 8) (s : State), (s.rkSession i.val).outstanding ≠ none ∧ (s.rkSession i.val).notifyTries < 3) ∧
    (∃ (i : Fin 8) (s : State), (s.rkSession i.val).outstanding ≠ none ∧ 3 ≤ (s.rkSession i.val).notifyTries) :=
  ⟨⟨(0 : Fin 2), ({ src := 0, dst := 0 } : UdpPorts), ((rkMessage 0x01 (0) 0 77 9 (List.replicate 16 5) ++ List.replicate 16 0) : List Byte),
     (0 : Fin 8), (let p : Fin 2 := 0; let udp : UdpPorts := { src := 0, dst := 0 }; let s : State := {}; (fun s : State =>
     ({ s with rk := [] } : State)) (((((
     (fun s : State =>
     ({ s with crown := { s.crown with phase := .complete } } : State)) (s.wr F.CROWN_MODE_MODE (3))).wr (F.ETH_LINK_UP p.val) (1)).wr (F.ETH_IPV4_ADDR p.val) (7)).wr (F.ETH_RK_CFG_RK_EN p.val) (1)).wr (F.ETH_RK_CFG_UDP_PORT p.val) (udp.dst.toNat)) : State), by decide +kernel⟩,
   ⟨(0 : Fin 2), ({ src := 0, dst := 0 } : UdpPorts),
     ((let m := rkMessage 0x03 (0x10) 0 (77) 9 (0 :: List.replicate 16 5 ++ List.replicate 16 6); m ++ tag 16 [1,2,3] m) : List Byte), (0 : Fin 8),
     (let p : Fin 2 := 0; let udp : UdpPorts := { src := 0, dst := 0 }; let i : Fin 8 := 0; let s : State := {}; (fun s =>
     { s with nvm := { s.nvm with keys := [(0, [1,2,3]), (1, [4,5,6])] } }) (
     (fun s : State =>
     ({ s with rk := [(i.val, { openState := 1, clientNonce := List.replicate 16 5, moduleNonce := List.replicate 16 6 })] } : State)) ((((((fun s : State => ({ s with crown := { s.crown with phase := .complete } } : State)) (s.wr F.CROWN_MODE_MODE (3))).wr (F.ETH_LINK_UP p.val) (1)).wr (F.ETH_IPV4_ADDR p.val) (7)).wr (F.ETH_RK_CFG_RK_EN p.val) (1)).wr (F.ETH_RK_CFG_UDP_PORT p.val) (udp.dst.toNat))) : State), by decide +kernel⟩,
   ⟨(0 : Fin 2), (0 : BitVec 32), ({ src := 0, dst := 0 } : UdpPorts),
     ((let m := rkMessage 0x21 (0x10) 0 (77) 9 ([]); m ++ tag 16 [1,2,3] m) : List Byte), (0 : Fin 8),
     (let p : Fin 2 := 0; let ip : BitVec 32 := 0; let udp : UdpPorts := { src := 0, dst := 0 }; let i : Fin 8 := 0; let s : State := {}; (fun s : State => ({ s with rk := [(i.val, { openState := 2, secure := true, key := [1,2,3], lastSeq := 5, address := ip.toNat, udpPort := udp.src.toNat, eth := 0, outstanding := some [], notifyPages := [3], notifyTries := 2 })] } : State)) ((((((fun s : State => ({ s with crown := { s.crown with phase := .complete } } : State)) (s.wr F.CROWN_MODE_MODE (3))).wr (F.ETH_LINK_UP p.val) (1)).wr (F.ETH_IPV4_ADDR p.val) (7)).wr (F.ETH_RK_CFG_RK_EN p.val) (1)).wr (F.ETH_RK_CFG_UDP_PORT p.val) (udp.dst.toNat)) : State), by decide +kernel⟩,
   ⟨(0 : Fin 2), (0 : BitVec 32), ({ src := 0, dst := 0 } : UdpPorts),
     ((let m := rkMessage 0x30 (0x10) 0 (77) 9 ([]); m ++ tag 16 [1,2,3] m) : List Byte), (0 : Fin 8),
     (let p : Fin 2 := 0; let ip : BitVec 32 := 0; let udp : UdpPorts := { src := 0, dst := 0 }; let i : Fin 8 := 0; let s : State := {}; (fun s : State => ({ s with rk := [(i.val, { openState := 2, secure := true, key := [1,2,3], lastSeq := 5, address := ip.toNat, udpPort := udp.src.toNat, eth := 0, outstanding := some [], notifyPages := [3], notifyTries := 2 })] } : State)) ((((((fun s : State => ({ s with crown := { s.crown with phase := .complete } } : State)) (s.wr F.CROWN_MODE_MODE (3))).wr (F.ETH_LINK_UP p.val) (1)).wr (F.ETH_IPV4_ADDR p.val) (7)).wr (F.ETH_RK_CFG_RK_EN p.val) (1)).wr (F.ETH_RK_CFG_UDP_PORT p.val) (udp.dst.toNat)) : State), by decide +kernel⟩,
   ⟨(0 : Fin 2), (0 : BitVec 32), ({ src := 0, dst := 0 } : UdpPorts),
     ((let m := rkMessage 0x31 (0x10) 0 (77) 9 ([]); m ++ tag 16 [1,2,3] m) : List Byte), (0 : Fin 8),
     (let p : Fin 2 := 0; let ip : BitVec 32 := 0; let udp : UdpPorts := { src := 0, dst := 0 }; let i : Fin 8 := 0; let s : State := {}; (fun s : State => ({ s with rk := [(i.val, { openState := 2, secure := true, key := [1,2,3], lastSeq := 5, address := ip.toNat, udpPort := udp.src.toNat, eth := 0, outstanding := some [], notifyPages := [3], notifyTries := 2 })] } : State)) ((((((fun s : State => ({ s with crown := { s.crown with phase := .complete } } : State)) (s.wr F.CROWN_MODE_MODE (3))).wr (F.ETH_LINK_UP p.val) (1)).wr (F.ETH_IPV4_ADDR p.val) (7)).wr (F.ETH_RK_CFG_RK_EN p.val) (1)).wr (F.ETH_RK_CFG_UDP_PORT p.val) (udp.dst.toNat)) : State), by decide +kernel⟩,
   ⟨(0 : Fin 8), (let i : Fin 8 := 0; let s : State := {}; (fun s : State => ({ s with rk := [(i.val, { openState := 1 })] } : State)) (s) : State),
     by decide +kernel⟩,
   ⟨(0 : Fin 8), (let i : Fin 8 := 0; let s : State := {}; (fun s : State => ({ s with rk := [(i.val, { openState := 2 })] } : State)) (s) : State),
     by decide +kernel⟩,
   ⟨(0 : Fin 8), (let i : Fin 8 := 0; let s : State := {}; (fun s : State =>
     ({ s with rk := [(i.val, { openState := 2, outstanding := some [(4, 5)], notifyTries := 1 })] } : State)) (s) : State), by decide +kernel⟩,
   ⟨(0 : Fin 8), (let i : Fin 8 := 0; let s : State := {}; (fun s : State =>
     ({ s with rk := [(i.val, { openState := 2, outstanding := some [(4, 5)], notifyTries := 3, eth := 1 })] } : State)) (s) : State),
     by decide +kernel⟩⟩

theorem witness_RalkiulTransactions :
    (∃ (p : Fin 2) (ip : BitVec 32) (udp : UdpPorts) (b : List Byte) (i : Fin 8) (s : State), s.ipUp p.val = true ∧
      s.on (F.ETH_RK_CFG_RK_EN p.val) = true ∧ s.rd (F.ETH_RK_CFG_UDP_PORT p.val) = udp.dst.toNat ∧ rkSound b = true ∧ beAt b 3 1 = 0x10 ∧
      beAt b 4 1 = 0x10 + i.val ∧ (s.rkSession i.val).openState = 2 ∧ rkTag b = tag 16 (s.rkSession i.val).key (rkBody b) ∧
      (s.rkSession i.val).address = ip.toNat ∧ (s.rkSession i.val).udpPort = udp.src.toNat ∧ (s.rkSession i.val).lastSeq < beAt b 8 4 ∧
      (((s.rkSession i.val).stored.find? fun x => x.1 == beAt b 12 4) = none) ∧ (rkPayload b).length = 6 ∧ beAt b 20 2 = 1 ∧ beAt b 16 4 < 2 ^ 20 ∧
      s.barred (.ralkiul i) (beAt b 16 4) false = 0 ∧ beAt b 16 4 % 4096 < 0x800 ∧ beAt b 16 4 ≠ A.SCAN_PROG_LIVE) ∧
    (∃ (p : Fin 2) (ip : BitVec 32) (udp : UdpPorts) (b : List Byte) (i : Fin 8) (s : State), s.ipUp p.val = true ∧
      s.on (F.ETH_RK_CFG_RK_EN p.val) = true ∧ s.rd (F.ETH_RK_CFG_UDP_PORT p.val) = udp.dst.toNat ∧ rkSound b = true ∧ beAt b 3 1 = 0x10 ∧
      beAt b 4 1 = 0x10 + i.val ∧ (s.rkSession i.val).openState = 2 ∧ rkTag b = tag 16 (s.rkSession i.val).key (rkBody b) ∧
      (s.rkSession i.val).address = ip.toNat ∧ (s.rkSession i.val).udpPort = udp.src.toNat ∧ (s.rkSession i.val).lastSeq < beAt b 8 4 ∧
      (((s.rkSession i.val).stored.find? fun x => x.1 == beAt b 12 4) = none) ∧ (rkPayload b).length = 6 ∧ beAt b 20 2 = 1 ∧ beAt b 16 4 < 2 ^ 20 ∧
      beAt b 16 4 % 4 = 0 ∧ s.barred (.ralkiul i) (beAt b 16 4) false ≠ 0) ∧
    (∃ (p : Fin 2) (ip : BitVec 32) (udp : UdpPorts) (b : List Byte) (i : Fin 8) (s : State), s.ipUp p.val = true ∧
      s.on (F.ETH_RK_CFG_RK_EN p.val) = true ∧ s.rd (F.ETH_RK_CFG_UDP_PORT p.val) = udp.dst.toNat ∧ rkSound b = true ∧ beAt b 3 1 = 0x12 ∧
      beAt b 4 1 = 0x10 + i.val ∧ (s.rkSession i.val).openState = 2 ∧ rkTag b = tag 16 (s.rkSession i.val).key (rkBody b) ∧
      (s.rkSession i.val).address = ip.toNat ∧ (s.rkSession i.val).udpPort = udp.src.toNat ∧ (s.rkSession i.val).lastSeq < beAt b 8 4 ∧
      (((s.rkSession i.val).stored.find? fun x => x.1 == beAt b 12 4) = none) ∧ (rkPayload b).length = 10 ∧ beAt b 20 2 = 1 ∧
      beAt b 16 4 = A.ESTIM_VIEW ∧ s.writeCode (.ralkiul i) (beAt b 16 4) (beAt b 22 4) = 0 ∧ ((s.host.held.any fun h =>
      pageOf h.addr == 0x28) = false)) ∧
    (∃ (p : Fin 2) (ip : BitVec 32) (udp : UdpPorts) (b : List Byte) (i : Fin 8) (s : State), s.ipUp p.val = true ∧
      s.on (F.ETH_RK_CFG_RK_EN p.val) = true ∧ s.rd (F.ETH_RK_CFG_UDP_PORT p.val) = udp.dst.toNat ∧ rkSound b = true ∧ beAt b 3 1 = 0x12 ∧
      beAt b 4 1 = 0x10 + i.val ∧ (s.rkSession i.val).openState = 2 ∧ rkTag b = tag 16 (s.rkSession i.val).key (rkBody b) ∧
      (s.rkSession i.val).address = ip.toNat ∧ (s.rkSession i.val).udpPort = udp.src.toNat ∧ (s.rkSession i.val).lastSeq < beAt b 8 4 ∧
      (((s.rkSession i.val).stored.find? fun x => x.1 == beAt b 12 4) = none) ∧ (rkPayload b).length = 10 ∧ beAt b 20 2 = 1 ∧ beAt b 16 4 < 2 ^ 20 ∧
      beAt b 16 4 % 4 = 0 ∧ s.writeCode (.ralkiul i) (beAt b 16 4) (beAt b 22 4) ≠ 0) ∧
    (∃ (p : Fin 2) (ip : BitVec 32) (udp : UdpPorts) (b : List Byte) (i : Fin 8) (s : State), s.ipUp p.val = true ∧
      s.on (F.ETH_RK_CFG_RK_EN p.val) = true ∧ s.rd (F.ETH_RK_CFG_UDP_PORT p.val) = udp.dst.toNat ∧ rkSound b = true ∧ beAt b 3 1 = 0x12 ∧
      beAt b 4 1 = 0x10 + i.val ∧ (s.rkSession i.val).openState = 2 ∧ rkTag b = tag 16 (s.rkSession i.val).key (rkBody b) ∧
      (s.rkSession i.val).address = ip.toNat ∧ (s.rkSession i.val).udpPort = udp.src.toNat ∧ (s.rkSession i.val).lastSeq < beAt b 8 4 ∧
      (((s.rkSession i.val).stored.find? fun x => x.1 == beAt b 12 4) = some (beAt b 12 4, [0x13, 0]))) :=
  ⟨⟨(0 : Fin 2), (0 : BitVec 32), ({ src := 0, dst := 0 } : UdpPorts),
     ((let m := rkMessage 0x10 (0x10) 0 (77) 9 (be 4 0x280C0 ++ be 2 1); m ++ tag 16 [1,2,3] m) : List Byte), (0 : Fin 8),
     (let p : Fin 2 := 0; let ip : BitVec 32 := 0; let udp : UdpPorts := { src := 0, dst := 0 }; let i : Fin 8 := 0; let s : State := {}; (fun s : State => ({ s with rk := [(i.val, { openState := 2, secure := true, key := [1,2,3], lastSeq := 5, address := ip.toNat, udpPort := udp.src.toNat, eth := 0, outstanding := some [], notifyPages := [3], notifyTries := 2 })] } : State)) ((((((fun s : State => ({ s with crown := { s.crown with phase := .complete } } : State)) (s.wr F.CROWN_MODE_MODE (3))).wr (F.ETH_LINK_UP p.val) (1)).wr (F.ETH_IPV4_ADDR p.val) (7)).wr (F.ETH_RK_CFG_RK_EN p.val) (1)).wr (F.ETH_RK_CFG_UDP_PORT p.val) (udp.dst.toNat)) : State), by decide +kernel⟩,
   ⟨(0 : Fin 2), (0 : BitVec 32), ({ src := 0, dst := 0 } : UdpPorts),
     ((let m := rkMessage 0x10 (0x10) 0 (77) 9 (be 4 0xF0000 ++ be 2 1); m ++ tag 16 [1,2,3] m) : List Byte), (0 : Fin 8),
     (let p : Fin 2 := 0; let ip : BitVec 32 := 0; let udp : UdpPorts := { src := 0, dst := 0 }; let i : Fin 8 := 0; let s : State := {}; (fun s : State => ({ s with rk := [(i.val, { openState := 2, secure := true, key := [1,2,3], lastSeq := 5, address := ip.toNat, udpPort := udp.src.toNat, eth := 0, outstanding := some [], notifyPages := [3], notifyTries := 2 })] } : State)) ((((((fun s : State => ({ s with crown := { s.crown with phase := .complete } } : State)) (s.wr F.CROWN_MODE_MODE (3))).wr (F.ETH_LINK_UP p.val) (1)).wr (F.ETH_IPV4_ADDR p.val) (7)).wr (F.ETH_RK_CFG_RK_EN p.val) (1)).wr (F.ETH_RK_CFG_UDP_PORT p.val) (udp.dst.toNat)) : State), by decide +kernel⟩,
   ⟨(0 : Fin 2), (0 : BitVec 32), ({ src := 0, dst := 0 } : UdpPorts),
     ((let m := rkMessage 0x12 (0x10) 0 (77) 9 (be 4 0x280C0 ++ be 2 1 ++ be 4 0x123); m ++ tag 16 [1,2,3] m) : List Byte), (0 : Fin 8),
     (let p : Fin 2 := 0; let ip : BitVec 32 := 0; let udp : UdpPorts := { src := 0, dst := 0 }; let i : Fin 8 := 0; let s : State := {}; (fun s : State => ({ s with rk := [(i.val, { openState := 2, secure := true, key := [1,2,3], lastSeq := 5, address := ip.toNat, udpPort := udp.src.toNat, eth := 0, outstanding := some [], notifyPages := [3], notifyTries := 2 })] } : State)) ((((((fun s : State => ({ s with crown := { s.crown with phase := .complete } } : State)) (s.wr F.CROWN_MODE_MODE (3))).wr (F.ETH_LINK_UP p.val) (1)).wr (F.ETH_IPV4_ADDR p.val) (7)).wr (F.ETH_RK_CFG_RK_EN p.val) (1)).wr (F.ETH_RK_CFG_UDP_PORT p.val) (udp.dst.toNat)) : State), by decide +kernel⟩,
   ⟨(0 : Fin 2), (0 : BitVec 32), ({ src := 0, dst := 0 } : UdpPorts),
     ((let m := rkMessage 0x12 (0x10) 0 (77) 9 (be 4 0xF0000 ++ be 2 1 ++ be 4 0x123); m ++ tag 16 [1,2,3] m) : List Byte), (0 : Fin 8),
     (let p : Fin 2 := 0; let ip : BitVec 32 := 0; let udp : UdpPorts := { src := 0, dst := 0 }; let i : Fin 8 := 0; let s : State := {}; (fun s : State => ({ s with rk := [(i.val, { openState := 2, secure := true, key := [1,2,3], lastSeq := 5, address := ip.toNat, udpPort := udp.src.toNat, eth := 0, outstanding := some [], notifyPages := [3], notifyTries := 2 })] } : State)) ((((((fun s : State => ({ s with crown := { s.crown with phase := .complete } } : State)) (s.wr F.CROWN_MODE_MODE (3))).wr (F.ETH_LINK_UP p.val) (1)).wr (F.ETH_IPV4_ADDR p.val) (7)).wr (F.ETH_RK_CFG_RK_EN p.val) (1)).wr (F.ETH_RK_CFG_UDP_PORT p.val) (udp.dst.toNat)) : State), by decide +kernel⟩,
   ⟨(0 : Fin 2), (0 : BitVec 32), ({ src := 0, dst := 0 } : UdpPorts),
     ((let m := rkMessage 0x12 (0x10) 0 (77) 9 (be 4 0x280C0 ++ be 2 1 ++ be 4 0x123); m ++ tag 16 [1,2,3] m) : List Byte), (0 : Fin 8),
     (let p : Fin 2 := 0; let ip : BitVec 32 := 0; let udp : UdpPorts := { src := 0, dst := 0 }; let i : Fin 8 := 0; let s : State := {}; (fun s : State => ({ s with rk := [(i.val, { openState := 2, secure := true, key := [1,2,3], lastSeq := 5, address := ip.toNat, udpPort := udp.src.toNat, stored := [(9, [0x13, 0])] })] } : State)) ((fun s : State => ({ s with rk := [(i.val, { openState := 2, secure := true, key := [1,2,3], lastSeq := 5, address := ip.toNat, udpPort := udp.src.toNat, eth := 0, outstanding := some [], notifyPages := [3], notifyTries := 2 })] } : State)) ((((((fun s : State => ({ s with crown := { s.crown with phase := .complete } } : State)) (s.wr F.CROWN_MODE_MODE (3))).wr (F.ETH_LINK_UP p.val) (1)).wr (F.ETH_IPV4_ADDR p.val) (7)).wr (F.ETH_RK_CFG_RK_EN p.val) (1)).wr (F.ETH_RK_CFG_UDP_PORT p.val) (udp.dst.toNat))) : State), by decide +kernel⟩⟩

theorem witness_RingBreaks :
    (∃ (s : State), s.rd F.RING_STATUS_STATE = 3) ∧
    (∃ (s : State), s.rd F.RING_STATUS_STATE < 2) ∧
    (∃ (n : Fin 32) (s : State), s.rd F.RING_STATUS_STATE = 3 ∧ n.val ∈ s.nodes) ∧
    (∃ (answers : NopAnswers) (s : State), s.ringSt.nopOut = true ∧ s.rd F.RING_STATUS_STATE = 3 ∧ 1 ≤ s.ringSt.failRun ∧
      s.rd F.RING_CFG_NODE_COUNT ≠ 0 ∧ answers.down.toNat.testBit 0 = true) :=
  ⟨⟨(let s : State := {}; s.wr F.RING_STATUS_STATE (3) : State), by decide +kernel⟩,
   ⟨(let s : State := {}; s.wr F.RING_STATUS_STATE (1) : State), by decide +kernel⟩,
   ⟨(3 : Fin 32), (let s : State := {}; (s.wr F.RING_STATUS_STATE (3)).wr F.RING_CFG_NODE_COUNT (20) : State), by decide +kernel⟩,
   ⟨({ down := 1, up := 0 } : NopAnswers), (let s : State := {}; (
     (fun s : State => ({ s with ringSt := { s.ringSt with failRun := 1 } } : State)) (
     (fun s : State =>
     ({ s with ringSt := { s.ringSt with nopOut := true } } : State)) (s.wr F.RING_STATUS_STATE (3)))).wr F.RING_CFG_NODE_COUNT (20) : State),
     by decide +kernel⟩⟩

theorem witness_RingExchanges :
    (∃ (n : Fin 32) (seq : BitVec 8) (c : RingCmd) (s : State), (s.ringSt.wait.find? (fun c =>
      c.node == n.val && c.cmd == 2 && c.seq == seq.toNat) = some c) ∧ c.second = false ∧ s.ringSt.stage ≠ 3) ∧
    (∃ (n : Fin 32) (seq : BitVec 8) (status : BitVec 4) (c : RingCmd) (s : State), (s.ringSt.wait.find? (fun c =>
      c.node == n.val && c.cmd == 0x31 && c.seq == seq.toNat) = some c) ∧ c.second = false ∧ (status = 0 ∨ status = 3)) ∧
    (∃ (n : Fin 32) (seq : BitVec 8) (s : State), s.originates = true ∧ (s.ringSt.wait.find? (fun c =>
      c.node == n.val && c.cmd == 0x02 && c.seq == seq.toNat) = none)) ∧
    (∃ (n : Fin 32) (cmd seq : BitVec 8) (c : RingCmd) (s : State), (s.ringSt.wait.find? (fun c =>
      c.node == n.val && c.cmd == cmd.toNat && c.seq == seq.toNat) = some c) ∧ c.second = false ∧ c.replies = true ∧ s.originates = true ∧
      s.ringSt.held = [] ∧ s.seqFree = true) ∧
    (∃ (n : Fin 32) (seq : BitVec 8) (c : RingCmd) (s : State), (s.ringSt.wait.find? (fun c =>
      c.node == n.val && c.cmd == 0x02 && c.seq == seq.toNat) = some c) ∧ c.second = true ∧ s.ringSt.stage ≠ 3) ∧
    (∃ (s : State), s.ringSt.held ≠ [] ∧ s.seqFree = true) ∧
    (∃ (s : State), 2 ≤ s.rd F.RING_STATUS_STATE) ∧
    (∃ (answers : NopAnswers) (s : State), s.ringSt.nopOut = true ∧ s.rd F.RING_STATUS_STATE = 3 ∧ s.nodes ≠ [] ∧ (∀ n ∈ s.nodes,
      answers.down.toNat.testBit n = true ∧ answers.up.toNat.testBit n = true)) :=
  ⟨⟨(0 : Fin 32), (0 : BitVec 8), (let seq : BitVec 8 := 0; { node := 0, cmd := 2, seq := 0 } : RingCmd),
     (let n : Fin 32 := 0; let seq : BitVec 8 := 0; let s : State := {}; (fun s : State =>
     ({ s with ringSt := { s.ringSt with stage := 0 } } : State)) (
     (fun s : State =>
     ({ s with ringSt := { s.ringSt with wait := [{ node := n.val, cmd := 2, seq := seq.toNat, second := false }] } } : State)) s) : State),
     by decide +kernel⟩,
   ⟨(0 : Fin 32), (0 : BitVec 8), (0 : BitVec 4), (let seq : BitVec 8 := 0; { node := 0, cmd := 0x31, seq := 0 } : RingCmd),
     (let n : Fin 32 := 0; let seq : BitVec 8 := 0; let s : State := {}; (fun s : State =>
     ({ s with crown := { s.crown with clearAwait := [1,2,n.val] } } : State)) (
     (fun s : State => ({ s with ringSt := { s.ringSt with stage := 0 } } : State)) (
     (fun s : State =>
     ({ s with ringSt := { s.ringSt with wait := [{ node := n.val, cmd := 0x31, seq := seq.toNat, second := false }] } } : State)) s)) : State),
     by decide +kernel⟩,
   ⟨(0 : Fin 32), (0 : BitVec 8), (let s : State := {}; (fun s : State =>
     ({ s with ringSt := { s.ringSt with wait := [] } } : State)) (s.wr F.RING_STATUS_STATE (3)) : State), by decide +kernel⟩,
   ⟨(0 : Fin 32), (2 : BitVec 8), (0 : BitVec 8), (let cmd : BitVec 8 := 2; let seq : BitVec 8 := 0; { node := 0, cmd := 2, seq := 0 } : RingCmd),
     (let n : Fin 32 := 0; let cmd : BitVec 8 := 2; let seq : BitVec 8 := 0; let s : State := {}; (fun s : State =>
     ({ s with ringSt := { s.ringSt with seqAt := [] } } : State)) (
     (fun s : State => ({ s with ringSt := { s.ringSt with held := [] } } : State)) (
     (fun s : State =>
     ({ s with ringSt := { s.ringSt with wait := [{ node := n.val, cmd := cmd.toNat, seq := seq.toNat, second := false }] } } : State)) (s.wr F.RING_STATUS_STATE (3)))) : State), by decide +kernel⟩,
   ⟨(0 : Fin 32), (0 : BitVec 8), (let seq : BitVec 8 := 0; { node := 0, cmd := 2, seq := 0, second := true } : RingCmd),
     (let n : Fin 32 := 0; let seq : BitVec 8 := 0; let s : State := {}; (fun s : State =>
     ({ s with ringSt := { s.ringSt with stage := 0 } } : State)) (
     (fun s : State =>
     ({ s with ringSt := { s.ringSt with wait := [{ node := n.val, cmd := 0x02, seq := seq.toNat, second := true }] } } : State)) s) : State),
     by decide +kernel⟩,
   ⟨(let s : State := {}; (fun s : State => ({ s with ringSt := { s.ringSt with held := [{ node := 1, cmd := 2 }] } } : State)) (
     (fun s : State => ({ s with ringSt := { s.ringSt with seqAt := [] } } : State)) s) : State), by decide +kernel⟩,
   ⟨(let s : State := {}; s.wr F.RING_STATUS_STATE (3) : State), by decide +kernel⟩,
   ⟨({ down := 0x1F, up := 0xFF } : NopAnswers), (let s : State := {}; (fun s : State =>
     ({ s with ringSt := { s.ringSt with nopOut := true } } : State)) ((s.wr F.RING_STATUS_STATE (3)).wr F.RING_CFG_NODE_COUNT (5)) : State),
     by decide +kernel⟩⟩

theorem witness_RingEnumeration :
    (∃ (s : State), s.rd F.RING_STATUS_STATE = 1 ∧ s.on F.RING_STATUS_LINK_A = true ∧ s.on F.RING_STATUS_LINK_B = true) ∧
    (∃ (s : State), s.rd F.RING_STATUS_STATE = 1 ∧ s.on F.RING_STATUS_LINK_A = false) ∧
    (∃ (who : Initiator) (s : State), s.barred who A.RING_CMD true = 0 ∧ s.mode ≠ .connect ∧ s.mode ≠ .run ∧ s.mode ≠ .hold ∧ s.originates = true) ∧
    (∃ (who : Initiator) (s : State), s.barred who A.RING_CMD true = 0 ∧ who ≠ .host ∧ (s.mode = .connect ∨ s.mode = .run ∨ s.mode = .hold)) ∧
    (∃ (s : State), s.ringSt.stage = 1) ∧
    (∃ (s : State), s.ringSt.stage = 1 ∧ s.rd F.RING_STATUS_STATE = 2) ∧
    (∃ (n : Fin 32) (side : Fin 2) (c : RingCmd) (s : State), (s.ringSt.wait.find? (fun c =>
      c.node == n.val && c.cmd == 0x03 && c.port == some side.val) = some c) ∧ c.second = false ∧ (mget (0,
      0) s.ringSt.echo (2 * n.val + side.val)).1 < 15) ∧
    (∃ (s : State), s.rd F.RING_STATUS_STATE = 3 ∧ s.ringSt.stage = 0 ∧ s.rd F.RING_CFG_NODE_COUNT ≠ 0 ∧ s.ringSt.down.testBit 0 = true) ∧
    (∃ (who : Initiator) (s : State), s.barred who A.RING_CMD true = 0 ∧ s.rd F.RING_STATUS_STATE = 3 ∧ s.ringSt.stage = 0 ∧
      s.rd F.RING_CFG_NODE_COUNT ≠ 0 ∧ s.ringSt.down.testBit 0 = true) ∧
    (∃ (who : Initiator) (s : State), s.barred who A.RING_CMD true = 0) :=
  ⟨⟨(let s : State := {}; ((s.wr F.RING_STATUS_STATE (1)).wr F.RING_STATUS_LINK_A (1)).wr F.RING_STATUS_LINK_B (1) : State), by decide +kernel⟩,
   ⟨(let s : State := {}; (s.wr F.RING_STATUS_STATE (1)).wr F.RING_STATUS_LINK_A (0) : State), by decide +kernel⟩,
   ⟨(.service : Initiator), (let s : State := {}; (s.wr F.RING_STATUS_STATE (3)).wr F.CROWN_MODE_MODE (1) : State), by decide +kernel⟩,
   ⟨(.service : Initiator), (let s : State := {}; s.wr F.CROWN_MODE_MODE (3) : State), by decide +kernel⟩,
   ⟨(let s : State := {}; (fun s : State => ({ s with ringSt := { s.ringSt with stage := 1 } } : State)) (s.wr F.RING_STATUS_STATE (3)) : State),
     by decide +kernel⟩,
   ⟨(let s : State := {}; (fun s : State => ({ s with ringSt := { s.ringSt with stage := 1 } } : State)) (s.wr F.RING_STATUS_STATE (2)) : State),
     by decide +kernel⟩,
   ⟨(0 : Fin 32), (0 : Fin 2), ({ node := 0, cmd := 3, seq := 7, port := some 0 } : RingCmd),
     (let n : Fin 32 := 0; let side : Fin 2 := 0; let s : State := {}; (fun s : State =>
     ({ s with ringSt := { s.ringSt with echo := [] } } : State)) (
     (fun s : State =>
     ({ s with ringSt := { s.ringSt with wait := [{ node := n.val, cmd := 3, seq := 7, port := some side.val }] } } : State)) s) : State),
     by decide +kernel⟩,
   ⟨(let s : State := {}; (fun s : State => ({ s with ringSt := { s.ringSt with full := false } } : State)) (
     (fun s : State => ({ s with ringSt := { s.ringSt with down := 15 } } : State)) ((
     (fun s : State =>
     ({ s with ringSt := { s.ringSt with stage := 0 } } : State)) (s.wr F.RING_STATUS_STATE (3))).wr F.RING_CFG_NODE_COUNT (4))) : State),
     by decide +kernel⟩,
   ⟨(.service : Initiator), (let s : State := {}; (fun s : State => ({ s with ringSt := { s.ringSt with full := false } } : State)) (
     (fun s : State => ({ s with ringSt := { s.ringSt with down := 15 } } : State)) ((
     (fun s : State =>
     ({ s with ringSt := { s.ringSt with stage := 0 } } : State)) (s.wr F.RING_STATUS_STATE (3))).wr F.RING_CFG_NODE_COUNT (4))) : State),
     by decide +kernel⟩,
   ⟨(.service : Initiator), (let s : State := {}; s : State), by decide +kernel⟩⟩

theorem witness_HarvestSlots :
    (∃ (s : State), s.slotsRun = true ∧ s.slotKind = none) ∧
    (∃ (k : Nat) (s : State), s.slotsRun = true ∧ s.slotKind = some k ∧ s.ringUsable = true ∧ s.rd F.PAIR_STATUS_ROLE ≠ 2) ∧
    (∃ (k : Nat) (s : State), s.slotsRun = true ∧ s.slotKind = some k ∧ s.rd F.PAIR_STATUS_ROLE = 2) ∧
    (∃ (moved : Bool) (k : Nat) (s : State), s.slotsRun = true ∧ s.slotKind = some k ∧ (s.ringUsable = false ∨ moved = true)) ∧
    (∃ (s : State), s.slotKind.isSome = true ∧ s.ringUsable = true ∧ s.rd F.PAIR_STATUS_ROLE ≠ 2) ∧
    (∃ (s : State), s.slotsRun = true ∧ s.mode ≠ .service) ∧
    (∃ (s : State), (s.harv.tDue = true ∨ s.harv.oneT = true) ∧ s.slotsRun = true ∧ s.ringUsable = true) :=
  ⟨⟨(let s : State := {}; (fun s : State => ({ s with harv := { s.harv with oneC := false } } : State)) (
     (fun s : State => ({ s with harv := { s.harv with oneV := false } } : State)) (((((
     (fun s : State =>
     ({ s with crown := { s.crown with phase := .complete } } : State)) s).wr F.CROWN_MODE_MODE (3)).wr F.CROWN_MODE_DORMANT (0)).wr F.HARVEST_CFG_V_EN (0)).wr F.HARVEST_CFG_C_EN (0))) : State), by decide +kernel⟩,
   ⟨(0 : Nat), (let s : State := {}; (((fun s : State => ({ s with harv := { s.harv with early := false } } : State)) (
     (fun s : State => ({ s with harv := { s.harv with oneC := false } } : State)) (
     (fun s : State => ({ s with harv := { s.harv with oneV := false } } : State)) (
     (fun s : State => ({ s with harv := { s.harv with since := 0 } } : State)) ((((((
     (fun s : State =>
     ({ s with crown := { s.crown with phase := .complete } } : State)) s).wr F.CROWN_MODE_MODE (3)).wr F.CROWN_MODE_DORMANT (0)).wr F.HARVEST_CFG_V_EN (1)).wr F.HARVEST_CFG_C_EN (1)).wr F.HARVEST_CFG_C_EVERY (4)))))).wr F.RING_STATUS_STATE (3)).wr F.PAIR_STATUS_ROLE (0) : State), by decide +kernel⟩,
   ⟨(0 : Nat), (let s : State := {}; ((fun s : State => ({ s with harv := { s.harv with early := false } } : State)) (
     (fun s : State => ({ s with harv := { s.harv with oneC := false } } : State)) (
     (fun s : State => ({ s with harv := { s.harv with oneV := false } } : State)) (
     (fun s : State => ({ s with harv := { s.harv with since := 0 } } : State)) ((((((
     (fun s : State =>
     ({ s with crown := { s.crown with phase := .complete } } : State)) s).wr F.CROWN_MODE_MODE (3)).wr F.CROWN_MODE_DORMANT (0)).wr F.HARVEST_CFG_V_EN (1)).wr F.HARVEST_CFG_C_EN (1)).wr F.HARVEST_CFG_C_EVERY (4)))))).wr F.PAIR_STATUS_ROLE (2) : State), by decide +kernel⟩,
   ⟨(true : Bool), (0 : Nat), (let s : State := {}; ((fun s : State => ({ s with harv := { s.harv with early := false } } : State)) (
     (fun s : State => ({ s with harv := { s.harv with oneC := false } } : State)) (
     (fun s : State => ({ s with harv := { s.harv with oneV := false } } : State)) (
     (fun s : State => ({ s with harv := { s.harv with since := 0 } } : State)) ((((((
     (fun s : State =>
     ({ s with crown := { s.crown with phase := .complete } } : State)) s).wr F.CROWN_MODE_MODE (3)).wr F.CROWN_MODE_DORMANT (0)).wr F.HARVEST_CFG_V_EN (1)).wr F.HARVEST_CFG_C_EN (1)).wr F.HARVEST_CFG_C_EVERY (4)))))).wr F.RING_STATUS_STATE (3) : State), by decide +kernel⟩,
   ⟨(let s : State := {}; (((fun s : State => ({ s with harv := { s.harv with early := false } } : State)) (
     (fun s : State => ({ s with harv := { s.harv with oneC := false } } : State)) (
     (fun s : State => ({ s with harv := { s.harv with oneV := false } } : State)) (
     (fun s : State => ({ s with harv := { s.harv with since := 0 } } : State)) ((((((
     (fun s : State =>
     ({ s with crown := { s.crown with phase := .complete } } : State)) s).wr F.CROWN_MODE_MODE (3)).wr F.CROWN_MODE_DORMANT (0)).wr F.HARVEST_CFG_V_EN (1)).wr F.HARVEST_CFG_C_EN (1)).wr F.HARVEST_CFG_C_EVERY (4)))))).wr F.RING_STATUS_STATE (3)).wr F.PAIR_STATUS_ROLE (0) : State), by decide +kernel⟩,
   ⟨(let s : State := {}; ((
     (fun s : State =>
     ({ s with crown := { s.crown with phase := .complete } } : State)) s).wr F.CROWN_MODE_MODE (3)).wr F.CROWN_MODE_DORMANT (0) : State),
     by decide +kernel⟩,
   ⟨(let s : State := {}; (fun s : State => ({ s with harv := { s.harv with tDue := true } } : State)) ((((
     (fun s : State =>
     ({ s with crown := { s.crown with phase := .complete } } : State)) s).wr F.CROWN_MODE_MODE (3)).wr F.CROWN_MODE_DORMANT (0)).wr F.RING_STATUS_STATE (3)) : State), by decide +kernel⟩⟩

theorem witness_HarvestRequests :
    (∃ (who : Initiator) (s : State), s.barred who A.HARVEST_CMD true = 0 ∧ s.mode ≠ .transport) ∧
    (∃ (who : Initiator) (s : State), s.barred who A.HARVEST_CMD true = 0 ∧ s.mode ≠ .transport) ∧
    (∃ (who : Initiator) (s : State), s.barred who A.HARVEST_CMD true = 0 ∧ s.slotsRun = true ∧ s.ringUsable = true) ∧
    (∃ (who : Initiator) (s : State), s.barred who A.HARVEST_CMD true = 0 ∧ s.slotsRun = false ∧ s.mode ≠ .transport) ∧
    (∃ (who : Initiator) (s : State), s.barred who A.CELLV_SNAP true = 0) :=
  ⟨⟨(.service : Initiator), (let s : State := {}; s.wr F.CROWN_MODE_MODE (3) : State), by decide +kernel⟩,
   ⟨(.service : Initiator), (let s : State := {}; s.wr F.CROWN_MODE_MODE (3) : State), by decide +kernel⟩,
   ⟨(.service : Initiator), (let s : State := {}; (((
     (fun s : State =>
     ({ s with crown := { s.crown with phase := .complete } } : State)) s).wr F.CROWN_MODE_MODE (3)).wr F.CROWN_MODE_DORMANT (0)).wr F.RING_STATUS_STATE (3) : State), by decide +kernel⟩,
   ⟨(.service : Initiator), (let s : State := {}; (fun s : State =>
     ({ s with crown := { s.crown with phase := .starting } } : State)) (s.wr F.CROWN_MODE_MODE (3)) : State), by decide +kernel⟩,
   ⟨(.service : Initiator), (let s : State := {}; s : State), by decide +kernel⟩⟩

theorem witness_HarvestFrames :
    (∃ (n : Fin 32) (cmd : BitVec 8) (seq : Fin 16) (payload : List Byte) (c : Capture) (s : State),
      s.captureOf cmd.toNat seq.val (some (beAt payload 0 1)) = some c ∧ n.val ∈ s.nodes ∧ s.ringSt.foreign.testBit n.val = false ∧
      ((c.got.any fun x => x.1 == (2 * n.val + if cmd = 0x81 then 1 else 0)) = false) ∧ beAt payload 2 1 = s.wantCount c.kind n.val) ∧
    (∃ (n : Fin 32) (cmd : BitVec 8) (seq : Fin 16) (c : Capture) (s : State), s.captureOf cmd.toNat seq.val none = some c ∧ n.val ∈ s.nodes ∧
      s.ringSt.foreign.testBit n.val = false ∧ ((c.got.any fun x => x.1 == (2 * n.val + if cmd = 0x81 then 1 else 0)) = false) ∧
      ((c.failed.any fun x => x.1 == (2 * n.val + if cmd = 0x81 then 1 else 0)) = false) ∧ c.asked.contains n.val = false) ∧
    (∃ (tag : HarvestTag) (c : Capture) (s : State), s.capture tag.kind.val tag.seq.val = some c ∧ c.at3 + dataDeadline c.kind + 30000 ≤ s.closeAt c) ∧
    (∃ (tag : HarvestTag) (c : Capture) (s : State), s.capture tag.kind.val tag.seq.val = some c ∧ c.got ≠ []) ∧
    (∃ (tag : HarvestTag) (c : Capture) (s : State), s.capture tag.kind.val tag.seq.val = some c ∧ c.got = []) :=
  ⟨⟨(0 : Fin 32), (0x80 : BitVec 8), (0 : Fin 16), ([0,2,12,0] : List Byte),
     (let seq : Fin 16 := 0; { hseq := 7, seq := 0, kind := 0, sec := 1, ns := 2, frac := 0, at3 := 0, target := 0, period := 100, vStr := 0, vBus := 0, iStr := 0, broken := false, imped := false } : Capture), (let n : Fin 32 := 0; let seq : Fin 16 := 0; let s : State := {}; (fun s : State => ({ s with harv := { s.harv with captures := [{ hseq := 7, seq := seq.val, kind := 0, sec := 1, ns := 2, frac := 0, at3 := 0, target := 0, period := 100, vStr := 0, vBus := 0, iStr := 0, broken := false, imped := false }] } } : State)) ((fun s : State => ({ s with ringSt := { s.ringSt with foreign := 0 } } : State)) ((s.wr F.RING_CFG_NODE_COUNT (20)).wr (F.NODE_NCFG_CELLS n.val) (12))) : State), by decide +kernel⟩,
   ⟨(0 : Fin 32), (0x80 : BitVec 8), (0 : Fin 16),
     (let seq : Fin 16 := 0; { hseq := 7, seq := 0, kind := 0, sec := 1, ns := 2, frac := 0, at3 := 0, target := 0, period := 100, vStr := 0, vBus := 0, iStr := 0, broken := false, imped := false } : Capture), (let n : Fin 32 := 0; let seq : Fin 16 := 0; let s : State := {}; (fun s : State => ({ s with harv := { s.harv with captures := [{ hseq := 7, seq := seq.val, kind := 0, sec := 1, ns := 2, frac := 0, at3 := 0, target := 0, period := 100, vStr := 0, vBus := 0, iStr := 0, broken := false, imped := false }] } } : State)) ((fun s : State => ({ s with ringSt := { s.ringSt with foreign := 0 } } : State)) ((s.wr F.RING_CFG_NODE_COUNT (20)).wr (F.NODE_NCFG_CELLS n.val) (12))) : State), by decide +kernel⟩,
   ⟨({ kind := 2, seq := 0 } : HarvestTag),
     ({ hseq := 7, seq := 0, kind := 2, sec := 1, ns := 2, frac := 0, at3 := 0, target := 0, period := 100, vStr := 0, vBus := 0, iStr := 0, broken := false, imped := false } : Capture), (let tag : HarvestTag := { kind := 2, seq := 0 }; let s : State := {}; ((fun s : State => ({ s with harv := { s.harv with captures := [{ hseq := 7, seq := tag.seq.val, kind := 2, sec := 1, ns := 2, frac := 0, at3 := 0, target := 0, period := 100, vStr := 0, vBus := 0, iStr := 0, broken := false, imped := false }] } } : State)) s).wr F.RING_CFG_NODE_COUNT (4) : State), by decide +kernel⟩,
   ⟨({ kind := 3, seq := 0 } : HarvestTag),
     ({ hseq := 7, seq := 0, kind := 3, sec := 1, ns := 2, frac := 0, at3 := 0, target := 0, period := 100, vStr := 0, vBus := 0, iStr := 0, broken := false, imped := false, got := [(0, [0,0,2,0,1,2,3,4])] } : Capture), (let tag : HarvestTag := { kind := 3, seq := 0 }; let s : State := {}; ((fun s : State => ({ s with harv := { s.harv with captures := [{ hseq := 7, seq := tag.seq.val, kind := 3, sec := 1, ns := 2, frac := 0, at3 := 0, target := 0, period := 100, vStr := 0, vBus := 0, iStr := 0, broken := false, imped := false, got := [(0, [0,0,2,0,1,2,3,4])] }] } } : State)) s).wr F.RING_CFG_NODE_COUNT (4) : State), by decide +kernel⟩,
   ⟨({ kind := 2, seq := 0 } : HarvestTag),
     ({ hseq := 7, seq := 0, kind := 2, sec := 1, ns := 2, frac := 0, at3 := 0, target := 0, period := 100, vStr := 0, vBus := 0, iStr := 0, broken := false, imped := false } : Capture), (let tag : HarvestTag := { kind := 2, seq := 0 }; let s : State := {}; ((fun s : State => ({ s with harv := { s.harv with captures := [{ hseq := 7, seq := tag.seq.val, kind := 2, sec := 1, ns := 2, frac := 0, at3 := 0, target := 0, period := 100, vStr := 0, vBus := 0, iStr := 0, broken := false, imped := false }] } } : State)) s).wr F.RING_CFG_NODE_COUNT (4) : State), by decide +kernel⟩⟩

theorem witness_PlausibilityAndLoop :
    (∃ (s : State), s.harv.checks ≠ []) ∧
    (∃ (s : State) (k i : Nat), s.harv.bad.contains (1000 * k + i) = false ∧ s.harv.pend.contains (1000 * k + i) = false) ∧
    (∃ (s : State) (k i : Nat), s.harv.bad.contains (1000 * k + i) = false ∧ s.harv.pend.contains (1000 * k + i) = true) ∧
    (∃ (s : State), s.hasCond .loopOpen = false ∧ s.canStop = true) ∧
    (∃ (s : State), s.mode = .transport) ∧
    (∃ (s : State), s.on F.NODE_STATUS_LOOP_CLOSED = false) :=
  ⟨⟨(let s : State := {}; (fun s : State =>
     ({ s with harv := { s.harv with checks := [{ ring := 96, eseq := 0, hseq := 0, kind := 0, vp := [], vc := [], vs := [], missing := 0, period := 0, sec := 0, ns := 0, frac := 0, broken := false, ms := 0, at3 := 0, vStr := 0, iStr := 0 }] } } : State)) (s) : State), by decide +kernel⟩,
   ⟨{}, 3, 5, by decide +kernel⟩,
   ⟨{ harv := { pend := [3005] } }, 3, 5, by decide +kernel⟩,
   ⟨(let s : State := {}; ((fun s : State => ({ s with prot := { s.prot with conds := [] } } : State)) s).wr F.CROWN_MODE_MODE (3) : State),
     by decide +kernel⟩,
   ⟨(let s : State := {}; s.wr F.CROWN_MODE_MODE (0) : State), by decide +kernel⟩,
   ⟨(let s : State := {}; s.wr F.NODE_STATUS_LOOP_CLOSED (0) : State), by decide +kernel⟩⟩

theorem witness_Balancing :
    (∃ (s : State), s.planAllowed = true ∧ s.balNodes ≠ []) ∧
    (∃ (s : State), s.planAllowed = true ∧ s.balNodes = []) ∧
    (∃ (who : Initiator) (s : State), s.barred who A.BAL_CMD true = 0 ∧ s.planAllowed = true ∧ s.balNodes ≠ []) ∧
    (∃ (who : Initiator) (s : State), s.barred who A.BAL_CMD true = 0 ∧ s.mode = .service ∧ s.on F.BAL_CFG_EN = true ∧ s.secureOf who = true ∧
      s.originates = true ∧ s.balNodes ≠ []) ∧
    (∃ (who : Initiator) (s : State), s.barred who A.BAL_CMD true = 0 ∧ s.mode = .service ∧ s.secureOf who = false) ∧
    (∃ (who : Initiator) (s : State), s.barred who A.BAL_CMD true = 0 ∧ s.mode = .standby) ∧
    (∃ (who : Initiator) (s : State), s.barred who A.BAL_CMD true = 0 ∧ s.originates = true ∧ s.crown.phase = .complete) ∧
    (∃ (n : Fin 32) (s : State), s.bal.stopWait.contains n.val = true ∧ s.bal.stopAgain.contains n.val = false) ∧
    (∃ (n : Fin 32) (s : State), s.bal.stopWait.contains n.val = true ∧ s.bal.stopAgain.contains n.val = true) ∧
    (∃ (who : Initiator) (s : State), s.barred who A.BAL_CMD true = 0 ∧ s.mode ≠ .run) ∧
    (∃ (who : Initiator) (s : State), s.barred who A.BAL_CMD true = 0 ∧ s.mode = .run ∧ who ≠ .host) :=
  ⟨⟨(let s : State := {}; (fun s : State => ({ s with ringSt := { s.ringSt with foreign := 0 } } : State)) ((
     (fun s : State => ({ s with ringSt := { s.ringSt with up := 3 } } : State)) (
     (fun s : State =>
     ({ s with ringSt := { s.ringSt with down := 3 } } : State)) ((((s.wr F.BAL_CFG_EN (1)).wr F.CROWN_MODE_MODE (4)).wr F.BAL_STATUS_YIELDED (0)).wr F.RING_STATUS_STATE (3)))).wr F.RING_CFG_NODE_COUNT (4)) : State), by decide +kernel⟩,
   ⟨(let s : State := {}; (fun s : State => ({ s with ringSt := { s.ringSt with up := 0 } } : State)) (
     (fun s : State =>
     ({ s with ringSt := { s.ringSt with down := 0 } } : State)) ((((s.wr F.BAL_CFG_EN (1)).wr F.CROWN_MODE_MODE (4)).wr F.BAL_STATUS_YIELDED (0)).wr F.RING_STATUS_STATE (3))) : State), by decide +kernel⟩,
   ⟨(.service : Initiator), (let s : State := {}; (fun s : State => ({ s with ringSt := { s.ringSt with foreign := 0 } } : State)) ((
     (fun s : State => ({ s with ringSt := { s.ringSt with up := 3 } } : State)) (
     (fun s : State =>
     ({ s with ringSt := { s.ringSt with down := 3 } } : State)) ((((s.wr F.BAL_CFG_EN (1)).wr F.CROWN_MODE_MODE (4)).wr F.BAL_STATUS_YIELDED (0)).wr F.RING_STATUS_STATE (3)))).wr F.RING_CFG_NODE_COUNT (4)) : State), by decide +kernel⟩,
   ⟨(.service : Initiator), (let s : State := {}; ((fun s : State => ({ s with ringSt := { s.ringSt with foreign := 0 } } : State)) ((
     (fun s : State => ({ s with ringSt := { s.ringSt with up := 3 } } : State)) (
     (fun s : State =>
     ({ s with ringSt := { s.ringSt with down := 3 } } : State)) ((((s.wr F.BAL_CFG_EN (1)).wr F.CROWN_MODE_MODE (4)).wr F.BAL_STATUS_YIELDED (0)).wr F.RING_STATUS_STATE (3)))).wr F.RING_CFG_NODE_COUNT (4))).wr F.CROWN_MODE_MODE (7) : State), by decide +kernel⟩,
   ⟨(.host : Initiator), (let s : State := {}; (fun (s : State) => s.wr ⟨0x01044, 0,
     32⟩ 0) (((s.wr F.CROWN_MODE_MODE (7)).wr F.HOST_SESS_SECURE (0)).wr F.HOST_CFG_NS_OPEN (1)) : State), by decide +kernel⟩,
   ⟨(.service : Initiator), (let s : State := {}; s.wr F.CROWN_MODE_MODE (1) : State), by decide +kernel⟩,
   ⟨(.service : Initiator), (let s : State := {}; (fun s : State =>
     ({ s with crown := { s.crown with phase := .complete } } : State)) (((
     (fun s : State => ({ s with ringSt := { s.ringSt with up := 3 } } : State)) (
     (fun s : State =>
     ({ s with ringSt := { s.ringSt with down := 3 } } : State)) s)).wr F.RING_CFG_NODE_COUNT (4)).wr F.RING_STATUS_STATE (3)) : State),
     by decide +kernel⟩,
   ⟨(0 : Fin 32), (let n : Fin 32 := 0; let s : State := {}; (fun s : State =>
     ({ s with bal := { s.bal with stopAgain := [] } } : State)) (
     (fun s : State => ({ s with bal := { s.bal with stopWait := [n.val] } } : State)) s) : State), by decide +kernel⟩,
   ⟨(0 : Fin 32), (let n : Fin 32 := 0; let s : State := {}; (fun s : State =>
     ({ s with bal := { s.bal with stopAgain := [n.val] } } : State)) (
     (fun s : State => ({ s with bal := { s.bal with stopWait := [n.val] } } : State)) s) : State), by decide +kernel⟩,
   ⟨(.service : Initiator), (let s : State := {}; (s.wr F.CROWN_MODE_MODE (4)).wr F.BAL_NFAULT_NODES (5) : State), by decide +kernel⟩,
   ⟨(.service : Initiator), (let s : State := {}; (s.wr F.CROWN_MODE_MODE (3)).wr F.BAL_NFAULT_NODES (5) : State), by decide +kernel⟩⟩

theorem witness_PowerStage :
    (∃ (n : Fin 16) (s : State), s.bit F.PSTAGE_RUNMASK_RUN n.val = true ∧ s.rd F.PSTAGE_STATUS_LIGHT ≠ 3 ∧ s.rd (F.PHASE_STAT_STATE n.val) ≠ 2 ∧
      (s.phase n.val).shedBack = false) ∧
    (∃ (n : Fin 16) (s : State), s.bit F.PSTAGE_RUNMASK_RUN n.val = true ∧ s.rd F.PSTAGE_STATUS_LIGHT = 3) ∧
    (∃ (n : Fin 16) (s : State), s.bit F.PSTAGE_RUNMASK_RUN n.val = false ∧ (s.phase n.val).starting = false) ∧
    (∃ (n : Fin 16) (u : Nat) (s : State), (s.phase n.val).uCentre = some u ∧ (s.phase n.val).cbc = 0 ∧ s.bit F.PSTAGE_RUNMASK_RUN n.val = true ∧
      s.on (F.PHASE_STAT_SKIPPING n.val) = false) ∧
    (∃ (n : Fin 16) (u : Nat) (s : State), (s.phase n.val).uCentre = some u ∧ (s.phase n.val).cbc ≠ 0) ∧
    (∃ (n : Fin 16) (positive : Bool) (input : ComparatorInput) (s : State), s.bit F.PSTAGE_RUNMASK_RUN n.val = true ∧
      s.blanked n.val input.t = false ∧ s.overLimit n.val positive input.uv = true) ∧
    (∃ (n : Fin 16) (positive : Bool) (input : ComparatorInput) (s : State),
      (s.bit F.PSTAGE_RUNMASK_RUN n.val = false ∨ s.blanked n.val input.t = true ∨ s.overLimit n.val positive input.uv = false)) ∧
    (∃ (who : Initiator) (n : Fin 16) (s : State), s.barred who (A.PHASE_CMD n.val) true = 0 ∧ s.crossingStopped (A.PHASE_CMD n.val) = false ∧
      ((s.host.held.any fun h => pageOf h.addr == pageOf (A.PHASE_CMD n.val)) = false) ∧ (s.mode = .standby ∨ s.mode = .safe ∨ s.mode = .service) ∧
      s.on (F.PHASE_STAT_FLT_OK n.val) = true ∧ s.rd (F.PHASE_STAT_STATE n.val) = 3) ∧
    (∃ (s : State), s.rd F.PSTAGE_STATUS_LIGHT = 3 ∧ s.pwm.burstOff = 0) :=
  ⟨⟨(0 : Fin 16), (let n : Fin 16 := 0; let s : State := {}; (fun (s : State) =>
     s.setPhase n.val { s.phase n.val with shedBack := false, uStart := some 77, cbc := 1 }) (((s.wr F.PSTAGE_RUNMASK_RUN (65535)).wr F.PSTAGE_STATUS_LIGHT (0)).wr (F.PHASE_STAT_STATE n.val) (1)) : State), by decide +kernel⟩,
   ⟨(0 : Fin 16), (let s : State := {}; (s.wr F.PSTAGE_RUNMASK_RUN (65535)).wr F.PSTAGE_STATUS_LIGHT (3) : State), by decide +kernel⟩,
   ⟨(0 : Fin 16), (let n : Fin 16 := 0; let s : State := {}; (fun (s : State) => s.setPhase n.val {}) (s.wr F.PSTAGE_RUNMASK_RUN (0)) : State),
     by decide +kernel⟩,
   ⟨(0 : Fin 16), (0 : Nat), (let n : Fin 16 := 0; let u : Nat := 0; let s : State := {}; (fun (s : State) =>
     s.setPhase n.val { s.phase n.val with uCentre := some u, cbc := 0 }) ((s.wr F.PSTAGE_RUNMASK_RUN (65535)).wr (F.PHASE_STAT_SKIPPING n.val) (0)) : State), by decide +kernel⟩,
   ⟨(0 : Fin 16), (0 : Nat), (let n : Fin 16 := 0; let u : Nat := 0; let s : State := {}; (fun (s : State) =>
     s.setPhase n.val { s.phase n.val with uCentre := some u, cbc := 1 }) (s) : State), by decide +kernel⟩,
   ⟨(0 : Fin 16), (true : Bool), ({ t := 5, uv := 3000000 } : ComparatorInput), (let n : Fin 16 := 0; let s : State := {}; (fun (s : State) =>
     s.setPhase n.val { s.phase n.val with tC := 100000 }) (s.wr F.PSTAGE_RUNMASK_RUN (65535)) : State), ⟨by decide +kernel, by decide +kernel,
     overLimit_high _ _ (by decide +kernel)⟩⟩,
   ⟨(0 : Fin 16), (true : Bool), ({ t := 0, uv := 0 } : ComparatorInput), (let s : State := {}; s.wr F.PSTAGE_RUNMASK_RUN (0) : State),
     by decide +kernel⟩,
   ⟨(.service : Initiator), (0 : Fin 16),
     (let n : Fin 16 := 0; let s : State := {}; (((s.wr F.CROWN_MODE_MODE (1)).wr F.CROWN_MODE_DORMANT (0)).wr (F.PHASE_STAT_FLT_OK n.val) (1)).wr (F.PHASE_STAT_STATE n.val) (3) : State), by decide +kernel⟩,
   ⟨(let s : State := {}; (
     (fun s : State => ({ s with pwm := { s.pwm with burstOff := 0 } } : State)) (s.wr F.PSTAGE_STATUS_LIGHT (3))).wr F.PSTAGE_BURST_ON (9) : State),
     by decide +kernel⟩⟩

theorem witness_LoopSamples :
    (∃ (s : State), s.on F.LOOP_STATUS_EVAL = false) ∧
    (∃ (s : State), s.on F.LOOP_STATUS_EVAL = true ∧ s.prot.srd = none ∧ s.track.disc ≠ 3 ∧ s.track.aborting ≠ 2) ∧
    (∃ (n : Fin 16) (s : State), s.evaluates n.val = true ∧ s.on (F.PHASE_STAT_SKIPPING n.val) = false ∧ s.on F.LOOP_CFG_INNER_2X = true) ∧
    (∃ (n : Fin 16) (s : State), s.evaluates n.val = true ∧ s.on (F.PHASE_STAT_SKIPPING n.val) = false) ∧
    (∃ (n : Fin 16) (s : State), s.evaluates n.val = true ∧ s.on (F.PHASE_STAT_SKIPPING n.val) = true) ∧
    (∃ (n : Fin 16) (s : State), s.evaluates n.val = true ∧ s.on (F.PHASE_STAT_SKIPPING n.val) = false ∧ (s.phase n.val).lateRun ≠ 1) ∧
    (∃ (n : Fin 16) (s : State), s.on F.LOOP_STATUS_EVAL = true ∧ ((s.phase n.val).starting = true ∨ (s.rd F.PSTAGE_STATUS_LIGHT = 3 ∧
      s.bit F.PSTAGE_RUNMASK_RUN n.val = true))) :=
  ⟨⟨(let s : State := {}; s.wr F.LOOP_STATUS_EVAL (0) : State), by decide +kernel⟩,
   ⟨(let s : State := {}; ((fun s : State => ({ s with track := { s.track with aborting := 0 } } : State)) (
     (fun s : State => ({ s with track := { s.track with disc := 0 } } : State)) (
     (fun s : State =>
     ({ s with prot := { s.prot with srd := none } } : State)) ((s.wr F.LOOP_STATUS_EVAL (1)).wr F.PSTAGE_STATUS_LIGHT (0))))).wr F.LOOP_ILIM_I_TOT_MAX (1000) : State), by decide +kernel⟩,
   ⟨(0 : Fin 16),
     (let n : Fin 16 := 0; let s : State := {}; ((((s.wr F.LOOP_STATUS_EVAL (1)).wr F.PSTAGE_STATUS_LIGHT (0)).wr F.PSTAGE_RUNMASK_RUN (65535)).wr (F.PHASE_STAT_SKIPPING n.val) (0)).wr F.LOOP_CFG_INNER_2X (1) : State), by decide +kernel⟩,
   ⟨(0 : Fin 16),
     (let n : Fin 16 := 0; let s : State := {}; (((s.wr F.LOOP_STATUS_EVAL (1)).wr F.PSTAGE_STATUS_LIGHT (0)).wr F.PSTAGE_RUNMASK_RUN (65535)).wr (F.PHASE_STAT_SKIPPING n.val) (0) : State), by decide +kernel⟩,
   ⟨(0 : Fin 16),
     (let n : Fin 16 := 0; let s : State := {}; (((s.wr F.LOOP_STATUS_EVAL (1)).wr F.PSTAGE_STATUS_LIGHT (0)).wr F.PSTAGE_RUNMASK_RUN (65535)).wr (F.PHASE_STAT_SKIPPING n.val) (1) : State), by decide +kernel⟩,
   ⟨(0 : Fin 16), (let n : Fin 16 := 0; let s : State := {}; (fun (s : State) =>
     s.setPhase n.val { s.phase n.val with lateRun := 0 }) ((((s.wr F.LOOP_STATUS_EVAL (1)).wr F.PSTAGE_STATUS_LIGHT (0)).wr F.PSTAGE_RUNMASK_RUN (65535)).wr (F.PHASE_STAT_SKIPPING n.val) (0)) : State), by decide +kernel⟩,
   ⟨(0 : Fin 16), (let n : Fin 16 := 0; let s : State := {}; (fun (s : State) =>
     s.setPhase n.val { s.phase n.val with starting := true }) ((s.wr F.LOOP_STATUS_EVAL (1)).wr F.PSTAGE_STATUS_LIGHT (0)) : State),
     by decide +kernel⟩⟩

theorem witness_Contactors :
    (∃ (k : Fin 6) (level : Bool) (s : State), s.fbClosed (k.val + 1) = false ∧ s.driven (k.val + 1) = true ∧ s.mode ≠ .connect ∧
      (level != s.bit F.CONTACT_CFG_FB_INV k.val) = true) ∧
    (∃ (k : Fin 6) (s : State), s.mode ≠ .hold ∧ s.fbClosed (k.val + 1) = false ∧ (s.coil (k.val + 1)).attempt = 1 ∧
      ((s.coil (k.val + 1)).phase = 1 ∨ (s.coil (k.val + 1)).phase = 2)) ∧
    (∃ (k : Fin 6) (s : State), s.mode ≠ .hold ∧ s.fbClosed (k.val + 1) = false ∧ (s.coil (k.val + 1)).attempt = 2 ∧
      ((s.coil (k.val + 1)).phase = 1 ∨ (s.coil (k.val + 1)).phase = 2)) ∧
    (∃ (k : Fin 6) (s : State), (s.coil (k.val + 1)).phase = 3 ∧ s.mode ≠ .hold ∧ s.rd F.CONTACT_CFG_VCOIL_MIN ≤ s.rd F.CONTACT_VCOIL_VCOIL) ∧
    (∃ (k : Fin 6) (s : State), (s.coil (k.val + 1)).phase = 3 ∧ s.mode ≠ .hold ∧ ¬ (s.rd F.CONTACT_CFG_VCOIL_MIN ≤ s.rd F.CONTACT_VCOIL_VCOIL)) ∧
    (∃ (k : Fin 6) (s : State), (s.coil (k.val + 1)).opening = true ∧ (s.coil (k.val + 1)).reread = false ∧ s.driven (k.val + 1) = false ∧
      s.fbClosed (k.val + 1) = true) ∧
    (∃ (k : Fin 6) (s : State), (s.coil (k.val + 1)).opening = true ∧ (s.coil (k.val + 1)).reread = true ∧ s.driven (k.val + 1) = false ∧
      s.fbClosed (k.val + 1) = true ∧ s.canStop = true) ∧
    (∃ (k : Fin 6) (s : State), (s.coil (k.val + 1)).phase = 1) ∧
    (∃ (k : Fin 6) (s : State), s.driven (k.val + 1) = true) ∧
    (∃ (who : Initiator) (s : State), s.barred who A.CONTACT_CMD true = 0 ∧ s.crown.phase = .complete ∧ s.mode ≠ .transport ∧
      s.bit F.CONTACT_CFG_FITTED 5 = true ∧ s.rd F.CONTACT_CFG_VCOIL_MIN ≤ s.rd F.CONTACT_VCOIL_VCOIL) ∧
    (∃ (who : Initiator) (s : State), s.barred who A.CONTACT_CMD true = 0 ∧
      (s.crown.phase ≠ .complete ∨ s.mode = .transport ∨ s.bit F.CONTACT_CFG_FITTED 5 = false)) ∧
    (∃ (who : Initiator) (s : State), s.barred who A.CONTACT_CMD true = 0 ∧ s.crown.phase = .complete ∧ s.mode ≠ .transport ∧
      s.bit F.CONTACT_CFG_FITTED 5 = true ∧ s.driven 6 = true) ∧
    (∃ (who : Initiator) (s : State), s.barred who A.CONTACT_CMD true = 0 ∧ (s.mode = .standby ∨ s.mode = .safe ∨ s.mode = .service) ∧
      s.rd F.CONTACT_STATUS_FB = 0) :=
  ⟨⟨(0 : Fin 6), (true : Bool), (let s : State := {}; ((s.wr F.CONTACT_STATUS_FB (0)).wr F.CONTACT_STATUS_DRIVE (63)).wr F.CROWN_MODE_MODE (3) : State),
     by decide +kernel⟩,
   ⟨(0 : Fin 6), (let k : Fin 6 := 0; let s : State := {}; (fun (s : State) =>
     s.setCoil (k.val + 1) { phase := 1, attempt := 1 }) ((s.wr F.CROWN_MODE_MODE (2)).wr F.CONTACT_STATUS_FB (0)) : State), by decide +kernel⟩,
   ⟨(0 : Fin 6), (let k : Fin 6 := 0; let s : State := {}; (fun (s : State) =>
     s.setCoil (k.val + 1) { phase := 1, attempt := 2 }) ((s.wr F.CROWN_MODE_MODE (2)).wr F.CONTACT_STATUS_FB (0)) : State), by decide +kernel⟩,
   ⟨(0 : Fin 6), (let k : Fin 6 := 0; let s : State := {}; (fun (s : State) =>
     s.setCoil (k.val + 1) { phase := 3, attempt := 1 }) (((s.wr F.CONTACT_VCOIL_VCOIL (2400)).wr F.CONTACT_CFG_VCOIL_MIN (2000)).wr F.CROWN_MODE_MODE (2)) : State), by decide +kernel⟩,
   ⟨(0 : Fin 6), (let k : Fin 6 := 0; let s : State := {}; (fun (s : State) =>
     s.setCoil (k.val + 1) { phase := 3, attempt := 1 }) (((s.wr F.CROWN_MODE_MODE (2)).wr F.CONTACT_VCOIL_VCOIL (100)).wr F.CONTACT_CFG_VCOIL_MIN (2000)) : State), by decide +kernel⟩,
   ⟨(0 : Fin 6), (let k : Fin 6 := 0; let s : State := {}; (fun (s : State) => s.setCoil (k.val + 1) { opening := true }) ((fun (s : State) =>
     s.wrBit F.CONTACT_STATUS_FB k.val true) ((fun (s : State) => s.wrBit F.CONTACT_STATUS_DRIVE k.val false) s)) : State), by decide +kernel⟩,
   ⟨(0 : Fin 6), (let k : Fin 6 := 0; let s : State := {}; ((fun (s : State) =>
     s.setCoil (k.val + 1) { opening := true, reread := true }) ((fun (s : State) => s.wrBit F.CONTACT_STATUS_FB k.val true) ((fun (s : State) =>
     s.wrBit F.CONTACT_STATUS_DRIVE k.val false) s))).wr F.CROWN_MODE_MODE (3) : State), by decide +kernel⟩,
   ⟨(0 : Fin 6), (let k : Fin 6 := 0; let s : State := {}; (fun (s : State) => s.setCoil (k.val + 1) { phase := 1 }) (s) : State), by decide +kernel⟩,
   ⟨(0 : Fin 6), (let k : Fin 6 := 0; let s : State := {}; (fun (s : State) => s.wrBit F.CONTACT_STATUS_DRIVE k.val true) (s) : State),
     by decide +kernel⟩,
   ⟨(.service : Initiator), (let s : State := {}; ((
     (fun s : State =>
     ({ s with crown := { s.crown with phase := .complete } } : State)) ((s.wr F.CROWN_MODE_MODE (1)).wr F.CONTACT_CFG_FITTED (63))).wr F.CONTACT_VCOIL_VCOIL (2400)).wr F.CONTACT_CFG_VCOIL_MIN (2000) : State), by decide +kernel⟩,
   ⟨(.service : Initiator), (let s : State := {}; s.wr F.CONTACT_CFG_FITTED (31) : State), by decide +kernel⟩,
   ⟨(.service : Initiator), (let s : State := {}; (
     (fun s : State =>
     ({ s with crown := { s.crown with phase := .complete } } : State)) ((s.wr F.CROWN_MODE_MODE (1)).wr F.CONTACT_CFG_FITTED (63))).wr F.CONTACT_STATUS_DRIVE (63) : State), by decide +kernel⟩,
   ⟨(.service : Initiator), (let s : State := {}; ((s.wr F.CROWN_MODE_MODE (1)).wr F.CONTACT_STATUS_FB (0)).wr F.CONTACT_STATUS_WELD (5) : State),
     by decide +kernel⟩⟩

theorem witness_StartSteps :
    (∃ (r : Readings) (s : State), s.mode = .connect ∧ s.startStep = 2 ∧ s.track.preReread = true ∧ s.rd F.CONTACT_STATUS_WELD = 0 ∧
      ({ s with meas := r } : State).preChecks = true) ∧
    (∃ (r : Readings) (s : State), s.mode = .connect ∧ s.startStep = 2 ∧ s.track.preReread = true ∧ s.rd F.CONTACT_STATUS_WELD = 0 ∧
      ({ s with meas := r } : State).preChecks = false ∧ s.track.aborting = 0) ∧
    (∃ (peak : Nat) (s : State), s.mode = .connect ∧ s.startStep = 4 ∧ 5 * s.meas.vString ≤ peak * s.rd F.TRACK_PRE_R_PRE ∧
      (peak * s.rd F.TRACK_PRE_R_PRE : Int) ≤ 15 * s.meas.vString) ∧
    (∃ (peak : Nat) (s : State), s.mode = .connect ∧ s.startStep = 4 ∧ s.track.aborting = 0 ∧
      ((peak * s.rd F.TRACK_PRE_R_PRE : Int) < 5 * s.meas.vString ∨ 15 * s.meas.vString < peak * s.rd F.TRACK_PRE_R_PRE)) ∧
    (∃ (s : State), s.mode = .connect ∧ s.startStep = 4 ∧ s.track.aborting = 0 ∧ s.rd F.CONTACT_CFG_VCOIL_MIN ≤ s.rd F.CONTACT_VCOIL_VCOIL) ∧
    (∃ (s : State), s.mode = .connect ∧ s.startStep = 4 ∧ s.track.aborting = 0) ∧
    (∃ (s : State), s.effMode = .connect ∧ s.startStep = 7 ∧ s.track.awaitStart = true ∧ s.track.aborting = 0) ∧
    (∃ (s : State), s.mode = .connect ∧ s.startStep = 8 ∧ s.track.aborting = 0 ∧ s.rd F.CONTACT_CFG_VCOIL_MIN ≤ s.rd F.CONTACT_VCOIL_VCOIL) ∧
    (∃ (s : State), s.mode = .connect ∧ (s.startStep = 8 ∨ s.startStep = 10) ∧ s.track.aborting = 0) ∧
    (∃ (s : State), s.mode = .connect ∧ (s.startStep = 8 ∨ s.startStep = 10) ∧ s.track.aborting = 0) ∧
    (∃ (s : State), s.effMode = .connect ∧ s.startStep = 10 ∧ s.track.aborting = 0) ∧
    (∃ (s : State), s.mode = .run ∧ s.track.disc = 6) ∧
    (∃ (s : State), s.mode = .connect ∧ s.startStep = 10 ∧ s.track.forming = true ∧ s.track.aborting = 0 ∧ s.rd F.CROWN_STAGE_CTRL_STATE ≠ 6) ∧
    (∃ (s : State), s.mode = .connect ∧ s.track.waiting = true ∧ s.rd F.CONTACT_STATUS_WELD = 0) ∧
    (∃ (s : State), s.track.disc = 3 ∧ s.mode ≠ .hold) :=
  ⟨⟨({ vString := 200000 } : Readings), (let s : State := {}; (((((
     (fun s : State => ({ s with track := { s.track with preReread := true } } : State)) (
     (fun s : State => ({ s with prot := { s.prot with srd := none } } : State)) (
     (fun s : State => ({ s with track := { s.track with disc := 0 } } : State)) (
     (fun s : State =>
     ({ s with track := { s.track with aborting := 0 } } : State)) ((s.wr F.TRACK_STATUS_STEP (2)).wr F.CROWN_MODE_MODE (2)))))).wr F.CONTACT_STATUS_FB (0)).wr F.CONTACT_STATUS_WELD (0)).wr F.CONTACT_OPEN_I_OPEN (60000)).wr F.CONTACT_VCOIL_VCOIL (2400)).wr F.CONTACT_CFG_VCOIL_MIN (2000) : State), by decide +kernel⟩,
   ⟨({} : Readings), (let s : State := {}; ((fun s : State => ({ s with track := { s.track with preReread := true } } : State)) (
     (fun s : State => ({ s with prot := { s.prot with srd := none } } : State)) (
     (fun s : State => ({ s with track := { s.track with disc := 0 } } : State)) (
     (fun s : State =>
     ({ s with track := { s.track with aborting := 0 } } : State)) ((s.wr F.TRACK_STATUS_STEP (2)).wr F.CROWN_MODE_MODE (2)))))).wr F.CONTACT_STATUS_WELD (0) : State), by decide +kernel⟩,
   ⟨(500 : Nat), (let s : State := {}; ((fun s : State => ({ s with meas := { s.meas with vString := 0 } } : State)) (
     (fun s : State => ({ s with prot := { s.prot with srd := none } } : State)) (
     (fun s : State => ({ s with track := { s.track with disc := 0 } } : State)) (
     (fun s : State =>
     ({ s with track := { s.track with aborting := 0 } } : State)) ((s.wr F.TRACK_STATUS_STEP (4)).wr F.CROWN_MODE_MODE (2)))))).wr F.TRACK_PRE_R_PRE (0) : State), by decide +kernel⟩,
   ⟨(500 : Nat), (let s : State := {}; ((fun s : State => ({ s with meas := { s.meas with vString := 0 } } : State)) (
     (fun s : State => ({ s with prot := { s.prot with srd := none } } : State)) (
     (fun s : State => ({ s with track := { s.track with disc := 0 } } : State)) (
     (fun s : State =>
     ({ s with track := { s.track with aborting := 0 } } : State)) ((s.wr F.TRACK_STATUS_STEP (4)).wr F.CROWN_MODE_MODE (2)))))).wr F.TRACK_PRE_R_PRE (1000) : State), by decide +kernel⟩,
   ⟨(let s : State := {}; (((fun s : State => ({ s with prot := { s.prot with srd := none } } : State)) (
     (fun s : State => ({ s with track := { s.track with disc := 0 } } : State)) (
     (fun s : State =>
     ({ s with track := { s.track with aborting := 0 } } : State)) ((s.wr F.TRACK_STATUS_STEP (4)).wr F.CROWN_MODE_MODE (2))))).wr F.CONTACT_VCOIL_VCOIL (2400)).wr F.CONTACT_CFG_VCOIL_MIN (2000) : State), by decide +kernel⟩,
   ⟨(let s : State := {}; (fun s : State => ({ s with prot := { s.prot with srd := none } } : State)) (
     (fun s : State => ({ s with track := { s.track with disc := 0 } } : State)) (
     (fun s : State =>
     ({ s with track := { s.track with aborting := 0 } } : State)) ((s.wr F.TRACK_STATUS_STEP (4)).wr F.CROWN_MODE_MODE (2)))) : State),
     by decide +kernel⟩,
   ⟨(let s : State := {}; (fun s : State => ({ s with track := { s.track with awaitStart := true } } : State)) (
     (fun s : State => ({ s with prot := { s.prot with srd := none } } : State)) (
     (fun s : State => ({ s with track := { s.track with disc := 0 } } : State)) (
     (fun s : State =>
     ({ s with track := { s.track with aborting := 0 } } : State)) ((s.wr F.TRACK_STATUS_STEP (7)).wr F.CROWN_MODE_MODE (2))))) : State),
     by decide +kernel⟩,
   ⟨(let s : State := {}; (((fun s : State => ({ s with prot := { s.prot with srd := none } } : State)) (
     (fun s : State => ({ s with track := { s.track with disc := 0 } } : State)) (
     (fun s : State =>
     ({ s with track := { s.track with aborting := 0 } } : State)) ((s.wr F.TRACK_STATUS_STEP (8)).wr F.CROWN_MODE_MODE (2))))).wr F.CONTACT_VCOIL_VCOIL (2400)).wr F.CONTACT_CFG_VCOIL_MIN (2000) : State), by decide +kernel⟩,
   ⟨(let s : State := {}; (fun s : State => ({ s with prot := { s.prot with srd := none } } : State)) (
     (fun s : State => ({ s with track := { s.track with disc := 0 } } : State)) (
     (fun s : State =>
     ({ s with track := { s.track with aborting := 0 } } : State)) ((s.wr F.TRACK_STATUS_STEP (8)).wr F.CROWN_MODE_MODE (2)))) : State),
     by decide +kernel⟩,
   ⟨(let s : State := {}; (fun s : State => ({ s with prot := { s.prot with srd := none } } : State)) (
     (fun s : State => ({ s with track := { s.track with disc := 0 } } : State)) (
     (fun s : State =>
     ({ s with track := { s.track with aborting := 0 } } : State)) ((s.wr F.TRACK_STATUS_STEP (10)).wr F.CROWN_MODE_MODE (2)))) : State),
     by decide +kernel⟩,
   ⟨(let s : State := {}; (fun s : State => ({ s with prot := { s.prot with srd := none } } : State)) (
     (fun s : State => ({ s with track := { s.track with disc := 0 } } : State)) (
     (fun s : State =>
     ({ s with track := { s.track with aborting := 0 } } : State)) ((s.wr F.TRACK_STATUS_STEP (10)).wr F.CROWN_MODE_MODE (2)))) : State),
     by decide +kernel⟩,
   ⟨(let s : State := {}; (fun s : State => ({ s with track := { s.track with disc := 6 } } : State)) (s.wr F.CROWN_MODE_MODE (3)) : State),
     by decide +kernel⟩,
   ⟨(let s : State := {}; ((fun s : State => ({ s with track := { s.track with forming := true } } : State)) (
     (fun s : State => ({ s with prot := { s.prot with srd := none } } : State)) (
     (fun s : State => ({ s with track := { s.track with disc := 0 } } : State)) (
     (fun s : State =>
     ({ s with track := { s.track with aborting := 0 } } : State)) ((s.wr F.TRACK_STATUS_STEP (10)).wr F.CROWN_MODE_MODE (2)))))).wr F.CROWN_STAGE_CTRL_STATE (0) : State), by decide +kernel⟩,
   ⟨(let s : State := {}; ((fun s : State => ({ s with track := { s.track with waiting := true } } : State)) (
     (fun s : State => ({ s with prot := { s.prot with srd := none } } : State)) (
     (fun s : State => ({ s with track := { s.track with disc := 0 } } : State)) (
     (fun s : State =>
     ({ s with track := { s.track with aborting := 0 } } : State)) ((s.wr F.TRACK_STATUS_STEP (0)).wr F.CROWN_MODE_MODE (2)))))).wr F.CONTACT_STATUS_WELD (0) : State), by decide +kernel⟩,
   ⟨(let s : State := {}; (fun s : State => ({ s with track := { s.track with disc := 3 } } : State)) (s.wr F.CROWN_MODE_MODE (3)) : State),
     by decide +kernel⟩⟩

theorem witness_ImpedanceRuns :
    (∃ (who : Initiator) (s : State), s.barred who A.IMPED_CMD true = 0) ∧
    (∃ (s : State), s.imp.startPending = true ∧ s.impedRefusal ≠ 0) ∧
    (∃ (s : State), s.imp.startPending = true ∧ s.impedRefusal = 0) ∧
    (∃ (who : Initiator) (s : State), s.barred who A.IMPED_CMD true = 0 ∧ (s.rd F.IMPED_STATUS_STATE = 1 ∨ s.rd F.IMPED_STATUS_STATE = 2) ∧
      s.imp.startStep = 0 ∧ s.imp.aborted = false) ∧
    (∃ (s : State), (s.rd F.IMPED_STATUS_STATE = 1 ∨ s.rd F.IMPED_STATUS_STATE = 2 ∨ s.rd F.IMPED_STATUS_STATE = 4)) ∧
    (∃ (n : Fin 32) (x : RunRecord) (s : State), ((s.imp.recs.find? fun y => !y.done.contains n.val) = some x) ∧ n.val ∈ s.nodes ∧
      s.nodes.all (x.done ++ [n.val]).contains = false) ∧
    (∃ (n : Fin 32) (x : RunRecord) (s : State), ((s.imp.recs.find? fun y => !y.done.contains n.val) = some x) ∧ n.val ∈ s.nodes ∧
      s.nodes.all (x.done ++ [n.val]).contains = true) ∧
    (∃ (s : State), s.imp.closing ≠ none) ∧
    (∃ (s : State), s.rd F.IMPED_STATUS_STATE = 3 ∧ s.imp.env = 0) :=
  ⟨⟨(.service : Initiator), (let s : State := {}; s : State), by decide +kernel⟩,
   ⟨(let s : State := {}; (fun s : State => ({ s with imp := { s.imp with startPending := true } } : State)) (s.wr F.CROWN_MODE_MODE (1)) : State),
     by decide +kernel⟩,
   ⟨(let s : State := {}; (fun s : State => ({ s with imp := { s.imp with startPending := true } } : State)) (
     (fun s : State => ({ s with prot := { s.prot with srd := none } } : State)) (
     (fun s : State => ({ s with loop := { s.loop with conflict := false } } : State)) (
     (fun s : State => ({ s with loop := { s.loop with iCmd := 0 } } : State)) ((((((((
     (fun s : State =>
     ({ s with imp := { s.imp with startStep := 0 } } : State)) ((((s.wr F.CROWN_MODE_MODE (3)).wr F.PAIR_STATUS_ROLE (0)).wr F.IMPED_CFG_EN (1)).wr F.IMPED_STATUS_STATE (0))).wr F.HARVEST_CFG_V_EN (1)).wr F.RING_STATUS_STATE (3)).wr F.CROWN_STAGE_CTRL_STATE (0)).wr F.LOOP_STATUS_SOURCE (0)).wr F.IMPED_CFG_K (0)).wr F.LOOP_IHI_I_HI (1000)).wr F.LOOP_ILO_I_LO (0))))) : State), by decide +kernel⟩,
   ⟨(.service : Initiator), (let s : State := {}; (fun s : State => ({ s with imp := { s.imp with aborted := false } } : State)) (
     (fun s : State => ({ s with imp := { s.imp with startStep := 0 } } : State)) (s.wr F.IMPED_STATUS_STATE (2))) : State), by decide +kernel⟩,
   ⟨(let s : State := {}; s.wr F.IMPED_STATUS_STATE (2) : State), by decide +kernel⟩,
   ⟨(0 : Fin 32),
     ({ r := { ring := 96, eseq := 0, hseq := 0, kind := 0, vp := [], vc := [], vs := [], missing := 0, period := 0, sec := 0, ns := 0, frac := 0, broken := false, ms := 0, at3 := 0, vStr := 0, iStr := 0 }, unsusp := [], done := [] } : RunRecord), (let s : State := {}; ((fun s : State => ({ s with imp := { s.imp with recs := [{ r := { ring := 96, eseq := 0, hseq := 0, kind := 0, vp := [], vc := [], vs := [], missing := 0, period := 0, sec := 0, ns := 0, frac := 0, broken := false, ms := 0, at3 := 0, vStr := 0, iStr := 0 }, unsusp := [], done := [] }] } } : State)) s).wr F.RING_CFG_NODE_COUNT (5) : State), by decide +kernel⟩,
   ⟨(0 : Fin 32),
     ({ r := { ring := 96, eseq := 0, hseq := 0, kind := 0, vp := [], vc := [], vs := [], missing := 0, period := 0, sec := 0, ns := 0, frac := 0, broken := false, ms := 0, at3 := 0, vStr := 0, iStr := 0 }, unsusp := [], done := [] } : RunRecord), (let s : State := {}; ((fun s : State => ({ s with imp := { s.imp with recs := [{ r := { ring := 96, eseq := 0, hseq := 0, kind := 0, vp := [], vc := [], vs := [], missing := 0, period := 0, sec := 0, ns := 0, frac := 0, broken := false, ms := 0, at3 := 0, vStr := 0, iStr := 0 }, unsusp := [], done := [] }] } } : State)) s).wr F.RING_CFG_NODE_COUNT (1) : State), by decide +kernel⟩,
   ⟨(let s : State := {}; (fun s : State => ({ s with imp := { s.imp with closing := some ([1,2], 0, false) } } : State)) (s) : State),
     by decide +kernel⟩,
   ⟨(let s : State := {}; (fun s : State => ({ s with imp := { s.imp with env := 0 } } : State)) (s.wr F.IMPED_STATUS_STATE (3)) : State),
     by decide +kernel⟩⟩

theorem witness_EstimatorAndJournals :
    (∃ (s : State), s.stepsRun = false ∧ s.on F.ESTIM_CFG_EN = false) ∧
    (∃ (s : State), s.stepsRun = true ∧ s.est.back = false) ∧
    (∃ (s : State), s.stepsRun = true ∧ s.est.back = false) ∧
    (∃ (who : Initiator) (s : State), s.barred who A.ESTIM_CMD true = 0 ∧ (s.mode = .standby ∨ s.mode = .rest ∨ s.mode = .safe) ∧
      s.meas.iString.natAbs ≤ 10 * s.rd F.ESTIM_REST_I_REST) ∧
    (∃ (who : Initiator) (s : State), s.barred who A.ESTIM_CMD true = 0 ∧ s.mode = .run) ∧
    (∃ (who : Initiator) (s : State), s.barred who A.LEARN_CMD true = 0 ∧ s.journalHeld = false ∧ s.est.writing = none) ∧
    (∃ (who : Initiator) (s : State), s.barred who A.LEARN_CMD true = 0 ∧ s.secureOf who = true ∧ (s.mode = .standby ∨ s.mode = .service)) ∧
    (∃ (who : Initiator) (s : State), s.barred who A.LEARN_CMD true = 0 ∧ s.secureOf who = false) ∧
    (∃ (s : State), s.journalHeld = false ∧ s.est.writing = none) ∧
    (∃ (s : State), s.journalHeld = false ∧ s.est.writing = none) ∧
    (∃ (s : State), s.journalHeld = true) ∧
    (∃ (s : State), s.est.writing ≠ none ∧ s.est.waiting = []) ∧
    (∃ (s : State), s.est.writing ≠ none ∧ s.est.verifyFailed = false) ∧
    (∃ (s : State), s.est.writing ≠ none ∧ s.est.waiting = [] ∧ s.est.verifyFailed = true) ∧
    (∃ (s : State), s.journalHeld = false) :=
  ⟨⟨(let s : State := {}; s.wr F.ESTIM_CFG_EN (0) : State), by decide +kernel⟩,
   ⟨(let s : State := {}; (fun s : State => ({ s with est := { s.est with back := false } } : State)) (
     (fun s : State =>
     ({ s with crown := { s.crown with phase := .complete } } : State)) (((s.wr F.ESTIM_CFG_EN (1)).wr F.CROWN_MODE_MODE (3)).wr F.CROWN_MODE_DORMANT (0))) : State), by decide +kernel⟩,
   ⟨(let s : State := {}; (fun s : State => ({ s with est := { s.est with back := false } } : State)) (
     (fun s : State =>
     ({ s with crown := { s.crown with phase := .complete } } : State)) (((s.wr F.ESTIM_CFG_EN (1)).wr F.CROWN_MODE_MODE (3)).wr F.CROWN_MODE_DORMANT (0))) : State), by decide +kernel⟩,
   ⟨(.service : Initiator), (let s : State := {}; (fun s : State =>
     ({ s with meas := { s.meas with iString := 0 } } : State)) (s.wr F.CROWN_MODE_MODE (4)) : State), by decide +kernel⟩,
   ⟨(.service : Initiator), (let s : State := {}; s.wr F.CROWN_MODE_MODE (3) : State), by decide +kernel⟩,
   ⟨(.service : Initiator), (let s : State := {}; (fun s : State =>
     ({ s with est := { s.est with writing := none } } : State)) ((s.wr F.SUPPLY_STATUS_VAUX_OK (1)).wr F.CROWN_MODE_MODE (4)) : State),
     by decide +kernel⟩,
   ⟨(.service : Initiator), (let s : State := {}; (s.wr F.CROWN_MODE_MODE (1)).wr F.LEARN_VIEW_CELL (7) : State), by decide +kernel⟩,
   ⟨(.dispatch : Initiator), (let s : State := {}; (fun s => s.wr ⟨0x01040 + 4 * 2, 20, 2⟩ 0) (s.wr F.CROWN_MODE_MODE (1)) : State), by decide +kernel⟩,
   ⟨(let s : State := {}; (fun s : State =>
     ({ s with est := { s.est with writing := none } } : State)) ((s.wr F.SUPPLY_STATUS_VAUX_OK (1)).wr F.CROWN_MODE_MODE (4)) : State),
     by decide +kernel⟩,
   ⟨(let s : State := {}; (fun s : State =>
     ({ s with est := { s.est with writing := none } } : State)) ((s.wr F.SUPPLY_STATUS_VAUX_OK (1)).wr F.CROWN_MODE_MODE (4)) : State),
     by decide +kernel⟩,
   ⟨(let s : State := {}; s.wr F.SUPPLY_STATUS_VAUX_OK (0) : State), by decide +kernel⟩,
   ⟨(let s : State := {}; (fun s : State => ({ s with est := { s.est with waiting := [] } } : State)) (
     (fun s : State => ({ s with est := { s.est with writing := some (0, 1, 0) } } : State)) s) : State), by decide +kernel⟩,
   ⟨(let s : State := {}; (fun s : State => ({ s with est := { s.est with verifyFailed := false } } : State)) (
     (fun s : State => ({ s with est := { s.est with writing := some (0, 1, 0) } } : State)) s) : State), by decide +kernel⟩,
   ⟨(let s : State := {}; (fun s : State => ({ s with est := { s.est with verifyFailed := true } } : State)) (
     (fun s : State => ({ s with est := { s.est with waiting := [] } } : State)) (
     (fun s : State => ({ s with est := { s.est with writing := some (0, 1, 0) } } : State)) s)) : State), by decide +kernel⟩,
   ⟨(let s : State := {}; (s.wr F.SUPPLY_STATUS_VAUX_OK (1)).wr F.CROWN_MODE_MODE (4) : State), by decide +kernel⟩⟩

theorem witness_Thermal :
    (∃ (s : State), s.mode ≠ .transport) ∧
    (∃ (tj : Int) (s : State), s.mode ≠ .transport ∧ 1200 ≤ tj ∧ tj < 1300 ∧ s.rd F.THERM_STATUS_STAGE < 2) ∧
    (∃ (tj : Int) (s : State), s.canStop = true ∧ 1300 ≤ tj ∧ s.therm.hot3 = true ∧ s.rd F.THERM_STATUS_STAGE < 3) ∧
    (∃ (tj : Int) (s : State), s.mode ≠ .transport ∧ tj < 1000 ∧ s.rd F.THERM_STATUS_STAGE = 0) ∧
    (∃ (who : Initiator) (s : State), s.barred who A.THERM_CMD true = 0) :=
  ⟨⟨(let s : State := {}; (s.wr F.CROWN_MODE_MODE (3)).wr F.THERM_STATUS_COOL_FAULT (5) : State), by decide +kernel⟩,
   ⟨(1250 : Int), (let s : State := {}; (s.wr F.CROWN_MODE_MODE (3)).wr F.THERM_STATUS_STAGE (1) : State), by decide +kernel⟩,
   ⟨(1310 : Int), (let s : State := {}; (fun s : State =>
     ({ s with therm := { s.therm with hot3 := true } } : State)) ((s.wr F.CROWN_MODE_MODE (3)).wr F.THERM_STATUS_STAGE (2)) : State),
     by decide +kernel⟩,
   ⟨(0 : Int), (let s : State := {}; (s.wr F.CROWN_MODE_MODE (3)).wr F.THERM_STATUS_STAGE (0) : State), by decide +kernel⟩,
   ⟨(.service : Initiator), (let s : State := {}; s.wr F.THERM_STATUS_COOL_FAULT (5) : State), by decide +kernel⟩⟩

theorem witness_Telemetry :
    (∃ (n : Nat) (s : State), s.mode ≠ .transport ∧ s.on F.CROWN_MODE_DORMANT = false ∧ n ≠ 0) ∧
    (∃ (who : Initiator) (s : State), s.barred who A.TELEM_CMD true = 0 ∧ s.crossingStopped A.TELEM_CMD = false ∧ ((s.host.held.any fun h =>
      pageOf h.addr == pageOf A.TELEM_CMD) = false)) ∧
    (∃ (who : Initiator) (s : State), s.barred who A.TELEM_CMD true = 0 ∧ s.crossingStopped A.TELEM_CMD = false ∧ ((s.host.held.any fun h =>
      pageOf h.addr == pageOf A.TELEM_CMD) = false) ∧ s.secureOf who = true ∧ (s.mode = .standby ∨ s.mode = .service)) ∧
    (∃ (who : Initiator) (s : State), s.barred who A.TELEM_CMD true = 0 ∧ s.crossingStopped A.TELEM_CMD = true) ∧
    (∃ (who : Initiator) (s : State), s.barred who A.TELEM_CMD true = 0 ∧ s.crossingStopped A.TELEM_CMD = false ∧ ((s.host.held.any fun h =>
      pageOf h.addr == pageOf A.TELEM_CMD) = false) ∧ s.secureOf who = false) ∧
    (∃ (s : State), s.journalHeld = false) ∧
    (∃ (s : State), s.journalHeld = true) ∧
    (∃ (who : Initiator) (k : Fin 4) (s : State), s.barred who (A.TELEM_QIN_LO + 8 * k.val) false = 0) :=
  ⟨⟨(5 : Nat), (let s : State := {}; (s.wr F.CROWN_MODE_MODE (3)).wr F.CROWN_MODE_DORMANT (0) : State), by decide +kernel⟩,
   ⟨(.service : Initiator), (let s : State := {}; s : State), by decide +kernel⟩,
   ⟨(.service : Initiator), (let s : State := {}; s.wr F.CROWN_MODE_MODE (1) : State), by decide +kernel⟩,
   ⟨(.service : Initiator), (let s : State := {}; s.wr F.CROWN_MODE_DORMANT (1) : State), by decide +kernel⟩,
   ⟨(.dispatch : Initiator), (let s : State := {}; (fun s => s.wr ⟨0x01040 + 4 * 2, 10, 2⟩ 0) (s) : State), by decide +kernel⟩,
   ⟨(let s : State := {}; (s.wr F.SUPPLY_STATUS_VAUX_OK (1)).wr F.CROWN_MODE_MODE (4) : State), by decide +kernel⟩,
   ⟨(let s : State := {}; s.wr F.SUPPLY_STATUS_VAUX_OK (0) : State), by decide +kernel⟩,
   ⟨(.service : Initiator), (0 : Fin 4), (let s : State := {}; s : State), by decide +kernel⟩⟩

theorem witness_DispatchMessages :
    (∃ (v : Via) (m : List Byte) (s : State), s.dispReaches v m = true ∧ beAt m 3 1 = 0x01 ∧ s.dispDiscards v m = false ∧ s.tooOld m = false ∧
      s.rd F.DISP_CFG_SRC = viaSource v ∧ s.setPointResult 1 (beIAt m 24 4) = 0) ∧
    (∃ (v : Via) (m : List Byte) (s : State), s.dispReaches v m = true ∧ beAt m 3 1 = 0x02 ∧ s.dispDiscards v m = false ∧ s.tooOld m = false ∧
      s.rd F.DISP_CFG_SRC = viaSource v ∧ s.setPointResult 2 (beIAt m 24 4) = 0) ∧
    (∃ (v : Via) (m : List Byte) (s : State), s.dispReaches v m = true ∧ beAt m 3 1 = 0x03 ∧ s.dispDiscards v m = false ∧ s.tooOld m = false ∧
      s.rd F.DISP_CFG_SRC = viaSource v ∧ s.setPointResult 3 (beIAt m 24 4) = 0) ∧
    (∃ (v : Via) (m : List Byte) (s : State), s.dispReaches v m = true ∧ beAt m 3 1 = 0x01 ∧ s.dispDiscards v m = false ∧ s.tooOld m = false ∧
      s.rd F.DISP_CFG_SRC = viaSource v ∧ s.setPointResult 1 (beIAt m 24 4) ≠ 0) ∧
    (∃ (v : Via) (m : List Byte) (s : State), s.dispReaches v m = true ∧ beAt m 3 1 = 1 ∧ s.dispDiscards v m = true) ∧
    (∃ (v : Via) (m : List Byte) (p : Partners) (s : State), s.dispReaches v m = true ∧ beAt m 3 1 = 0x10 ∧ s.dispDiscards v m = false ∧
      s.tooOld m = false ∧ beIAt m 24 4 % 16 = 4 ∧ s.modeCode 4 p = 0 ∧ s.mode = .run ∧ s.nOn = 0) ∧
    (∃ (v : Via) (m : List Byte) (s : State), s.dispReaches v m = true ∧ beAt m 3 1 = 0x11 ∧ s.dispDiscards v m = false ∧ s.tooOld m = false) ∧
    (∃ (v : Via) (m : List Byte) (s : State), s.dispReaches v m = true ∧ beAt m 3 1 = 0x12 ∧ s.dispDiscards v m = false ∧ s.tooOld m = false ∧
      s.rd F.IMPED_STATUS_STATE = 2 ∧ s.imp.startStep = 0 ∧ s.imp.aborted = false) ∧
    (∃ (who : Initiator) (s : State), s.barred who A.DISP_CMD true = 0 ∧ s.rd F.DISP_SP_KIND_KIND = 1 ∧ s.rd F.DISP_CFG_SRC = 0 ∧
      s.setPointResult 1 (s.rdI F.DISP_SP_VALUE_VALUE) = 0) :=
  ⟨⟨(.can 1 5 : Via),
     ((let m := be 2 0x4450 ++ [1, 0x01] ++ be 2 0xFFFF ++ [1, 0] ++ be 4 9 ++ List.replicate 12 0 ++ be 4 (100000) ++ List.replicate 16 0; m ++ be 4 (crc32c m) ++ List.replicate 16 0) : List Byte), (let s : State := {}; (((fun s : State => ({ s with disp := { s.disp with lastSeq := [] } } : State)) (((((((fun s : State => ({ s with crown := { s.crown with phase := .complete } } : State)) (((((s.wr (F.CAN_CFG_EN 1) (1)).wr (F.CAN_CFG_FD_EN 1) (1)).wr (F.CAN_STATUS_STATE 1) (0)).wr F.CROWN_MODE_DORMANT (0)).wr F.CROWN_MODE_MODE (3))).wr F.DISP_CAN_CH (1)).wr F.DISP_CANRX_ID_RX (5)).wr F.DISP_CFG_AUTH (0)).wr F.DISP_AGE_AGE_MS (0)).wr F.DISP_CFG_SRC (2))).wr F.LOOP_CFG_SOURCE (0)).wr F.LOOP_VBUS_V_BUS_MAX (9000) : State), by decide +kernel⟩,
   ⟨(.can 1 5 : Via),
     ((let m := be 2 0x4450 ++ [1, 0x02] ++ be 2 0xFFFF ++ [1, 0] ++ be 4 9 ++ List.replicate 12 0 ++ be 4 (100000) ++ List.replicate 16 0; m ++ be 4 (crc32c m) ++ List.replicate 16 0) : List Byte), (let s : State := {}; (((fun s : State => ({ s with disp := { s.disp with lastSeq := [] } } : State)) (((((((fun s : State => ({ s with crown := { s.crown with phase := .complete } } : State)) (((((s.wr (F.CAN_CFG_EN 1) (1)).wr (F.CAN_CFG_FD_EN 1) (1)).wr (F.CAN_STATUS_STATE 1) (0)).wr F.CROWN_MODE_DORMANT (0)).wr F.CROWN_MODE_MODE (3))).wr F.DISP_CAN_CH (1)).wr F.DISP_CANRX_ID_RX (5)).wr F.DISP_CFG_AUTH (0)).wr F.DISP_AGE_AGE_MS (0)).wr F.DISP_CFG_SRC (2))).wr F.LOOP_CFG_SOURCE (1)).wr F.LOOP_VBUS_V_BUS_MAX (9000) : State), by decide +kernel⟩,
   ⟨(.can 1 5 : Via),
     ((let m := be 2 0x4450 ++ [1, 0x03] ++ be 2 0xFFFF ++ [1, 0] ++ be 4 9 ++ List.replicate 12 0 ++ be 4 (500000) ++ List.replicate 16 0; m ++ be 4 (crc32c m) ++ List.replicate 16 0) : List Byte), (let s : State := {}; (((fun s : State => ({ s with disp := { s.disp with lastSeq := [] } } : State)) (((((((fun s : State => ({ s with crown := { s.crown with phase := .complete } } : State)) (((((s.wr (F.CAN_CFG_EN 1) (1)).wr (F.CAN_CFG_FD_EN 1) (1)).wr (F.CAN_STATUS_STATE 1) (0)).wr F.CROWN_MODE_DORMANT (0)).wr F.CROWN_MODE_MODE (3))).wr F.DISP_CAN_CH (1)).wr F.DISP_CANRX_ID_RX (5)).wr F.DISP_CFG_AUTH (0)).wr F.DISP_AGE_AGE_MS (0)).wr F.DISP_CFG_SRC (2))).wr F.LOOP_CFG_SOURCE (2)).wr F.LOOP_VBUS_V_BUS_MAX (9000) : State), by decide +kernel⟩,
   ⟨(.can 1 5 : Via),
     ((let m := be 2 0x4450 ++ [1, 1] ++ be 2 0xFFFF ++ [1, 0] ++ be 4 9 ++ List.replicate 12 0 ++ be 4 (100000) ++ List.replicate 16 0; m ++ be 4 (crc32c m) ++ List.replicate 16 0) : List Byte), (let s : State := {}; ((fun s : State => ({ s with disp := { s.disp with lastSeq := [] } } : State)) (((((((fun s : State => ({ s with crown := { s.crown with phase := .complete } } : State)) (((((s.wr (F.CAN_CFG_EN 1) (1)).wr (F.CAN_CFG_FD_EN 1) (1)).wr (F.CAN_STATUS_STATE 1) (0)).wr F.CROWN_MODE_DORMANT (0)).wr F.CROWN_MODE_MODE (3))).wr F.DISP_CAN_CH (1)).wr F.DISP_CANRX_ID_RX (5)).wr F.DISP_CFG_AUTH (0)).wr F.DISP_AGE_AGE_MS (0)).wr F.DISP_CFG_SRC (2))).wr F.LOOP_CFG_SOURCE (1) : State), by decide +kernel⟩,
   ⟨(.can 1 5 : Via),
     ((let m := be 2 0x4450 ++ [1, 1] ++ be 2 0xFFFF ++ [1, 0] ++ be 4 9 ++ List.replicate 12 0 ++ be 4 (100000) ++ List.replicate 16 0; m ++ be 4 (crc32c m) ++ List.replicate 16 0) : List Byte), (let s : State := {}; ((fun s : State => ({ s with disp := { s.disp with lastSeq := [] } } : State)) (((((((fun s : State => ({ s with crown := { s.crown with phase := .complete } } : State)) (((((s.wr (F.CAN_CFG_EN 1) (1)).wr (F.CAN_CFG_FD_EN 1) (1)).wr (F.CAN_STATUS_STATE 1) (0)).wr F.CROWN_MODE_DORMANT (0)).wr F.CROWN_MODE_MODE (3))).wr F.DISP_CAN_CH (1)).wr F.DISP_CANRX_ID_RX (5)).wr F.DISP_CFG_AUTH (0)).wr F.DISP_AGE_AGE_MS (0)).wr F.DISP_CFG_SRC (2))).wr F.DISP_CFG_AUTH (1) : State), by decide +kernel⟩,
   ⟨(.can 1 5 : Via),
     ((let m := be 2 0x4450 ++ [1, 0x10] ++ be 2 0xFFFF ++ [1, 0] ++ be 4 9 ++ List.replicate 12 0 ++ be 4 (4) ++ List.replicate 16 0; m ++ be 4 (crc32c m) ++ List.replicate 16 0) : List Byte), ({} : Partners), (let s : State := {}; ((fun s : State => ({ s with crown := { s.crown with phase := .complete } } : State)) ((fun s : State => ({ s with prot := { s.prot with srd := none } } : State)) (((fun s : State => ({ s with track := { s.track with aborting := 0 } } : State)) ((fun s : State => ({ s with track := { s.track with disc := 0 } } : State)) ((fun s : State => ({ s with crown := { s.crown with trans := .none } } : State)) ((((fun s : State => ({ s with disp := { s.disp with lastSeq := [] } } : State)) (((((((fun s : State => ({ s with crown := { s.crown with phase := .complete } } : State)) (((((s.wr (F.CAN_CFG_EN 1) (1)).wr (F.CAN_CFG_FD_EN 1) (1)).wr (F.CAN_STATUS_STATE 1) (0)).wr F.CROWN_MODE_DORMANT (0)).wr F.CROWN_MODE_MODE (3))).wr F.DISP_CAN_CH (1)).wr F.DISP_CANRX_ID_RX (5)).wr F.DISP_CFG_AUTH (0)).wr F.DISP_AGE_AGE_MS (0)).wr F.DISP_CFG_SRC (2))).wr F.CROWN_MODE_MODE (3)).wr F.PSTAGE_RUNMASK_RUN (0))))).wr F.CROWN_STAGE_CTRL_STATE (0)))).wr F.PAIR_STATUS_ROLE (0) : State), by decide +kernel⟩,
   ⟨(.can 1 5 : Via),
     ((let m := be 2 0x4450 ++ [1, 0x11] ++ be 2 0xFFFF ++ [1, 0] ++ be 4 9 ++ List.replicate 12 0 ++ be 4 (100000) ++ List.replicate 16 0; m ++ be 4 (crc32c m) ++ List.replicate 16 0) : List Byte), (let s : State := {}; (fun s : State => ({ s with disp := { s.disp with lastSeq := [] } } : State)) (((((((fun s : State => ({ s with crown := { s.crown with phase := .complete } } : State)) (((((s.wr (F.CAN_CFG_EN 1) (1)).wr (F.CAN_CFG_FD_EN 1) (1)).wr (F.CAN_STATUS_STATE 1) (0)).wr F.CROWN_MODE_DORMANT (0)).wr F.CROWN_MODE_MODE (3))).wr F.DISP_CAN_CH (1)).wr F.DISP_CANRX_ID_RX (5)).wr F.DISP_CFG_AUTH (0)).wr F.DISP_AGE_AGE_MS (0)).wr F.DISP_CFG_SRC (2)) : State), by decide +kernel⟩,
   ⟨(.can 1 5 : Via),
     ((let m := be 2 0x4450 ++ [1, 0x12] ++ be 2 0xFFFF ++ [1, 0] ++ be 4 9 ++ List.replicate 12 0 ++ be 4 (100000) ++ List.replicate 16 0; m ++ be 4 (crc32c m) ++ List.replicate 16 0) : List Byte), (let s : State := {}; (fun s : State => ({ s with imp := { s.imp with aborted := false } } : State)) ((fun s : State => ({ s with imp := { s.imp with startStep := 0 } } : State)) (((fun s : State => ({ s with disp := { s.disp with lastSeq := [] } } : State)) (((((((fun s : State => ({ s with crown := { s.crown with phase := .complete } } : State)) (((((s.wr (F.CAN_CFG_EN 1) (1)).wr (F.CAN_CFG_FD_EN 1) (1)).wr (F.CAN_STATUS_STATE 1) (0)).wr F.CROWN_MODE_DORMANT (0)).wr F.CROWN_MODE_MODE (3))).wr F.DISP_CAN_CH (1)).wr F.DISP_CANRX_ID_RX (5)).wr F.DISP_CFG_AUTH (0)).wr F.DISP_AGE_AGE_MS (0)).wr F.DISP_CFG_SRC (2))).wr F.IMPED_STATUS_STATE (2))) : State), by decide +kernel⟩,
   ⟨(.service : Initiator),
     (let s : State := {}; (((s.wr F.DISP_SP_KIND_KIND (1)).wr F.DISP_CFG_SRC (0)).wr F.LOOP_CFG_SOURCE (0)).wr F.DISP_SP_VALUE_VALUE (1000) : State), by decide +kernel⟩⟩

theorem witness_DispatchCourse :
    (∃ (s : State), s.mode = .run ∧ s.rd F.LOOP_STATUS_SOURCE = 0) ∧
    (∃ (s : State), s.mode ≠ .run ∧ s.mode ≠ .hold ∧ s.mode ≠ .transport) ∧
    (∃ (s : State), s.mode = .hold) ∧
    (∃ (s : State), s.rd F.DISP_CFG_SRC = 2 ∧ s.rd F.PAIR_STATUS_ROLE < 2) ∧
    (∃ (s : State), s.mode = .run ∧ s.rd F.DISP_STALE_T_STALE ≠ 0 ∧ s.on F.DISP_STATUS_STALE = false) ∧
    (∃ (s : State), s.mode = .run ∧ s.on F.DISP_STATUS_STALE = true ∧ s.underWay = false ∧ s.rd F.DISP_CFG_STALE_ACT = 1) :=
  ⟨⟨(let s : State := {}; (s.wr F.CROWN_MODE_MODE (3)).wr F.LOOP_STATUS_SOURCE (0) : State), by decide +kernel⟩,
   ⟨(let s : State := {}; s.wr F.CROWN_MODE_MODE (4) : State), by decide +kernel⟩,
   ⟨(let s : State := {}; s.wr F.CROWN_MODE_MODE (5) : State), by decide +kernel⟩,
   ⟨(let s : State := {}; (s.wr F.DISP_CFG_SRC (2)).wr F.PAIR_STATUS_ROLE (0) : State), by decide +kernel⟩,
   ⟨(let s : State := {}; ((s.wr F.CROWN_MODE_MODE (3)).wr F.DISP_STALE_T_STALE (5)).wr F.DISP_STATUS_STALE (0) : State), by decide +kernel⟩,
   ⟨(let s : State := {}; ((fun s : State => ({ s with crown := { s.crown with phase := .complete } } : State)) (
     (fun s : State => ({ s with prot := { s.prot with srd := none } } : State)) ((
     (fun s : State => ({ s with track := { s.track with aborting := 0 } } : State)) (
     (fun s : State => ({ s with track := { s.track with disc := 0 } } : State)) (
     (fun s : State =>
     ({ s with crown := { s.crown with trans := .none } } : State)) (((s.wr F.CROWN_MODE_MODE (3)).wr F.DISP_STATUS_STALE (1)).wr F.DISP_CFG_STALE_ACT (1))))).wr F.CROWN_STAGE_CTRL_STATE (0)))).wr F.PAIR_STATUS_ROLE (0) : State), by decide +kernel⟩⟩

theorem witness_EngineProtections :
    (∃ (bit : Fin 8) (v w : Int) (s : State), s.on F.PROT_CFG_EN = true ∧ s.mode ≠ .transport ∧ bit.val ≠ 6 ∧
      s.protPasses (protPlace bit.val w) = none ∧ s.prot.pending.contains (protPlace bit.val w) = false ∧ s.protFails bit.val v = true) ∧
    (∃ (bit : Fin 8) (v w : Int) (s : State), s.on F.PROT_CFG_EN = true ∧ s.mode ≠ .transport ∧ bit.val ≠ 6 ∧
      s.protPasses (protPlace bit.val w) = none ∧ s.prot.pending.contains (protPlace bit.val w) = true ∧ s.protFails bit.val v = true) ∧
    (∃ (bit : Fin 8) (v w : Int) (s : State), s.on F.PROT_CFG_EN = true ∧ s.canStop = true ∧ bit.val ≠ 6 ∧
      s.protPasses (protPlace bit.val w) = none ∧ s.prot.pending.contains (protPlace bit.val w) = true ∧ s.protFails bit.val v = true ∧
      s.protClass bit.val = .S) ∧
    (∃ (bit : Fin 8) (v w : Int) (n : Nat) (s : State), s.on F.PROT_CFG_EN = true ∧ s.mode ≠ .transport ∧ bit.val ≠ 6 ∧
      s.protPasses (protPlace bit.val w) = some n ∧ 1 ≤ n ∧ (s.prot.held.filter (·.1 != protPlace bit.val w)).any (·.1.1 == bit.val) = false ∧
      s.protFails bit.val v = false) ∧
    (∃ (s : State), s.prot.pending.contains (6, 0) = false) :=
  ⟨⟨(0 : Fin 8), (5000 : Int), (0 : Int), (let s : State := {}; (
     (fun s : State => ({ s with prot := { s.prot with held := [] } } : State)) (
     (fun s : State =>
     ({ s with prot := { s.prot with pending := [] } } : State)) (((s.wr F.PROT_CFG_EN (1)).wr F.CROWN_MODE_MODE (3)).wr F.PROT_ACTIVE_BITS (0)))).wr F.PROT_CELLV_CELL_OV_MV (4000) : State), by decide +kernel⟩,
   ⟨(0 : Fin 8), (5000 : Int), (0 : Int), (let bit : Fin 8 := 0; let w : Int := 0; let s : State := {}; (
     (fun s : State => ({ s with prot := { s.prot with pending := [protPlace bit.val w] } } : State)) (
     (fun s : State =>
     ({ s with prot := { s.prot with held := [] } } : State)) (((s.wr F.PROT_CFG_EN (1)).wr F.CROWN_MODE_MODE (3)).wr F.PROT_ACTIVE_BITS (0)))).wr F.PROT_CELLV_CELL_OV_MV (4000) : State), by decide +kernel⟩,
   ⟨(0 : Fin 8), (5000 : Int), (0 : Int), (let bit : Fin 8 := 0; let w : Int := 0; let s : State := {}; (
     (fun s : State => ({ s with prot := { s.prot with pending := [protPlace bit.val w] } } : State)) (
     (fun s : State =>
     ({ s with prot := { s.prot with held := [] } } : State)) (((s.wr F.PROT_CFG_EN (1)).wr F.CROWN_MODE_MODE (3)).wr F.PROT_ACTIVE_BITS (0)))).wr F.PROT_CELLV_CELL_OV_MV (4000) : State), by decide +kernel⟩,
   ⟨(0 : Fin 8), (0 : Int), (0 : Int), (1 : Nat), (let bit : Fin 8 := 0; let w : Int := 0; let n : Nat := 1; let s : State := {}; (
     (fun s : State =>
     ({ s with prot := { s.prot with held := [(protPlace bit.val w, n)] } } : State)) (((s.wr F.PROT_CFG_EN (1)).wr F.CROWN_MODE_MODE (3)).wr F.PROT_ACTIVE_BITS (255))).wr F.PROT_CELLV_CELL_OV_MV (4000) : State), by decide +kernel⟩,
   ⟨(let s : State := {}; (fun s : State => ({ s with prot := { s.prot with pending := [] } } : State)) (s) : State), by decide +kernel⟩⟩

theorem witness_SafetyIsland :
    (∃ (a : Int) (s : State), s.mode ≠ .transport ∧ s.hasCond .overCurrent = false ∧ s.prot.islandPending.contains .overCurrent = false ∧
      s.rd F.SAFE_OC_OC_TRIP * 100 < a.natAbs) ∧
    (∃ (a : Int) (s : State), s.canStop = true ∧ s.hasCond .overCurrent = false ∧ s.prot.islandPending.contains .overCurrent = true ∧
      s.rd F.SAFE_OC_OC_TRIP * 100 < a.natAbs) ∧
    (∃ (a : Int) (e0 : Bool) (s : State), s.canStop = true ∧ s.hasCond .gateReadback = false ∧ s.prot.islandPending = [.gateReadback] ∧
      a.natAbs ≤ s.rd F.SAFE_OC_OC_TRIP * 100 ∧ s.on F.SAFE_CFG_DIVERSE = false ∧ s.hasCond .overCurrent = false ∧ (e0 != s.prot.enableCmd) = true) ∧
    (∃ (s : State), s.canStop = true) ∧
    (∃ (ch : Fin 2) (s : State), s.mode ≠ .transport ∧ ((s.on (if ch = 0 then F.SAFE_STATUS_IN1 else F.SAFE_STATUS_IN0)) = false)) ∧
    (∃ (s : State), s.mode ≠ .transport ∧ s.prot.bothOff = true ∧ s.on F.SAFE_STATUS_IN0 = true ∧ s.on F.SAFE_STATUS_IN1 = true ∧
      s.prot.inChange0 = s.prot.inChange1) ∧
    (∃ (who : Initiator) (s : State), s.barred who A.SAFE_CMD true = 0 ∧ s.canStop = true) ∧
    (∃ (who : Initiator) (s : State), s.barred who A.SAFE_CMD true = 0 ∧ s.canStop = true) ∧
    (∃ (s : State), ((s.prot.srd.any fun d => !d.trip) = true) ∧ (s.rd F.SAFE_STATUS_SRD_STEP = 2 ∨ s.rd F.SAFE_STATUS_SRD_STEP = 3)) ∧
    (∃ (s : State), s.prot.srd.isSome = true ∧ s.rd F.SAFE_STATUS_SRD_STEP = 5 ∧ [1, 2, 3, 4, 5].any s.driven = true) ∧
    (∃ (s : State), s.canStop = true) :=
  ⟨⟨(900000 : Int), (let s : State := {}; ((fun s : State => ({ s with prot := { s.prot with islandPending := [] } } : State)) (
     (fun s : State => ({ s with prot := { s.prot with conds := [] } } : State)) (s.wr F.CROWN_MODE_MODE (3)))).wr F.SAFE_OC_OC_TRIP (5000) : State),
     by decide +kernel⟩,
   ⟨(900000 : Int), (let s : State := {}; (
     (fun s : State => ({ s with prot := { s.prot with islandPending := [.overCurrent] } } : State)) (
     (fun s : State => ({ s with prot := { s.prot with conds := [] } } : State)) (s.wr F.CROWN_MODE_MODE (3)))).wr F.SAFE_OC_OC_TRIP (5000) : State),
     by decide +kernel⟩,
   ⟨(0 : Int), (true : Bool), (let s : State := {}; (fun s : State =>
     ({ s with prot := { s.prot with enableCmd := false } } : State)) (((
     (fun s : State => ({ s with prot := { s.prot with islandPending := [.gateReadback] } } : State)) (
     (fun s : State =>
     ({ s with prot := { s.prot with conds := [] } } : State)) (s.wr F.CROWN_MODE_MODE (3)))).wr F.SAFE_OC_OC_TRIP (5000)).wr F.SAFE_CFG_DIVERSE (0)) : State), by decide +kernel⟩,
   ⟨(let s : State := {}; s.wr F.CROWN_MODE_MODE (3) : State), by decide +kernel⟩,
   ⟨(0 : Fin 2), (let s : State := {}; ((s.wr F.CROWN_MODE_MODE (3)).wr F.SAFE_STATUS_IN0 (0)).wr F.SAFE_STATUS_IN1 (0) : State), by decide +kernel⟩,
   ⟨(let s : State := {}; (fun s : State => ({ s with prot := { s.prot with inChange1 := 5 } } : State)) (
     (fun s : State => ({ s with prot := { s.prot with inChange0 := 5 } } : State)) (
     (fun s : State =>
     ({ s with prot := { s.prot with bothOff := true } } : State)) (((s.wr F.SAFE_STATUS_IN0 (1)).wr F.SAFE_STATUS_IN1 (1)).wr F.CROWN_MODE_MODE (3)))) : State), by decide +kernel⟩,
   ⟨(.service : Initiator), (let s : State := {}; s.wr F.CROWN_MODE_MODE (3) : State), by decide +kernel⟩,
   ⟨(.service : Initiator), (let s : State := {}; s.wr F.CROWN_MODE_MODE (3) : State), by decide +kernel⟩,
   ⟨(let s : State := {}; ((fun s : State => ({ s with prot := { s.prot with srd := some {} } } : State)) s).wr F.SAFE_STATUS_SRD_STEP (3) : State),
     by decide +kernel⟩,
   ⟨(let s : State := {}; ((
     (fun s : State =>
     ({ s with prot := { s.prot with srd := some {} } } : State)) s).wr F.SAFE_STATUS_SRD_STEP (5)).wr F.CONTACT_STATUS_DRIVE (31) : State),
     by decide +kernel⟩,
   ⟨(let s : State := {}; s.wr F.CROWN_MODE_MODE (3) : State), by decide +kernel⟩⟩

theorem witness_SafetyNetwork :
    (∃ (p : Fin 2) (m : SafetyDatagram) (k : Nat) (s : State), m.dst.toNat = s.rd F.SNET_PORT_UDP_PORT ∧ s.ipUp p.val = true ∧
      s.copyValid m.bytes = some k ∧ (mget {} s.prot.sources k).copy = none ∧ s.on F.SNET_STATUS_DEGRADED = false) ∧
    (∃ (p : Fin 2) (m : SafetyDatagram) (k : Nat) (c : SafetyCopy) (s : State), m.dst.toNat = s.rd F.SNET_PORT_UDP_PORT ∧ s.ipUp p.val = true ∧
      s.copyValid m.bytes = some k ∧ (mget {} s.prot.sources k).copy = some c ∧ c.port ≠ p.val ∧ c.bytes = m.bytes ∧
      s.mono ≤ c.arrived + s.rd F.SNET_CFG_SKEW_MS * 1000000 ∧ beAt m.bytes 24 1 = 0) ∧
    (∃ (p : Fin 2) (m : SafetyDatagram) (k : Nat) (c : SafetyCopy) (s : State), m.dst.toNat = s.rd F.SNET_PORT_UDP_PORT ∧ s.ipUp p.val = true ∧
      s.copyValid m.bytes = some k ∧ (mget {} s.prot.sources k).copy = some c ∧ c.port ≠ p.val ∧ c.bytes = m.bytes ∧
      s.mono ≤ c.arrived + s.rd F.SNET_CFG_SKEW_MS * 1000000 ∧ (beAt m.bytes 24 1).testBit 0 = true ∧ (beAt m.bytes 24 1).testBit 1 = false ∧
      s.on (F.SNET_SRC_0_ACT_SRD k) = true ∧ s.canStop = true) ∧
    (∃ (p : Fin 2) (m : SafetyDatagram) (s : State), (m.dst.toNat ≠ s.rd F.SNET_PORT_UDP_PORT ∨ s.ipUp p.val = false ∨ s.copyValid m.bytes = none)) ∧
    (∃ (n : Fin 8) (s : State), s.on (F.SNET_SRC_0_EN n.val) = true ∧ s.hasCond (.snetLoss n.val) = false ∧ s.canStop = true) ∧
    (∃ (who : Initiator) (sec : BitVec 12) (s : State), s.barred who A.SNET_DEGRADE true = 0 ∧ 1 ≤ sec.toNat ∧ sec.toNat ≤ 3600) ∧
    (∃ (s : State), s.on F.SNET_STATUS_DEGRADED = true) :=
  ⟨⟨(0 : Fin 2),
     (({ dst := 0x534D, bytes := (let m := be 2 0x534D ++ [1, 1] ++ be 2 9 ++ be 2 0xFFFF ++ be 4 7 ++ List.replicate 12 0 ++ [0, 0, 0, 0]; m ++ be 4 (crc32c m)) } : SafetyDatagram) : SafetyDatagram), (2 : Nat), (let p : Fin 2 := 0; let s : State := {}; (fun s : State => ({ s with prot := { s.prot with sources := [] } } : State)) ((fun s : State => ({ s with crown := { s.crown with phase := .complete } } : State)) (((((((((((((((s.wr (F.SNET_SRC_0_EN 2) (1)).wr (F.SNET_SRC_0_ID 2) (9)).wr (F.SNET_SRC_0_EN 0) (0)).wr (F.SNET_SRC_0_EN 1) (0)).wr (F.SNET_SRC_0_EN 3) (0)).wr (F.SNET_SRC_0_EN 4) (0)).wr (F.SNET_SRC_0_EN 5) (0)).wr (F.SNET_SRC_0_EN 6) (0)).wr (F.SNET_SRC_0_EN 7) (0)).wr F.SNET_CFG_AGE_CHK (0)).wr F.SNET_STATUS_DEGRADED (0)).wr F.SNET_PORT_UDP_PORT (0x534D)).wr (F.ETH_LINK_UP p.val) (1)).wr (F.ETH_IPV4_ADDR p.val) (7)).wr F.CROWN_MODE_MODE (3))) : State), by decide +kernel⟩,
   ⟨(0 : Fin 2),
     (({ dst := 0x534D, bytes := (let m := be 2 0x534D ++ [1, 1] ++ be 2 9 ++ be 2 0xFFFF ++ be 4 7 ++ List.replicate 12 0 ++ [0, 0, 0, 0]; m ++ be 4 (crc32c m)) } : SafetyDatagram) : SafetyDatagram), (2 : Nat), (let m : SafetyDatagram := ({ dst := 0x534D, bytes := (let m := be 2 0x534D ++ [1, 1] ++ be 2 9 ++ be 2 0xFFFF ++ be 4 7 ++ List.replicate 12 0 ++ [0, 0, 0, 0]; m ++ be 4 (crc32c m)) } : SafetyDatagram); { port := 1, bytes := (let m := be 2 0x534D ++ [1, 1] ++ be 2 9 ++ be 2 0xFFFF ++ be 4 7 ++ List.replicate 12 0 ++ [0, 0, 0, 0]; m ++ be 4 (crc32c m)), arrived := 0 } : SafetyCopy), (let p : Fin 2 := 0; let m : SafetyDatagram := ({ dst := 0x534D, bytes := (let m := be 2 0x534D ++ [1, 1] ++ be 2 9 ++ be 2 0xFFFF ++ be 4 7 ++ List.replicate 12 0 ++ [0, 0, 0, 0]; m ++ be 4 (crc32c m)) } : SafetyDatagram); let s : State := {}; (fun s : State => ({ s with prot := { s.prot with sources := [(2, { copy := some { port := 1 - p.val, bytes := m.bytes, arrived := s.mono } })] } } : State)) (((fun s : State => ({ s with crown := { s.crown with phase := .complete } } : State)) (((((((((((((((s.wr (F.SNET_SRC_0_EN 2) (1)).wr (F.SNET_SRC_0_ID 2) (9)).wr (F.SNET_SRC_0_EN 0) (0)).wr (F.SNET_SRC_0_EN 1) (0)).wr (F.SNET_SRC_0_EN 3) (0)).wr (F.SNET_SRC_0_EN 4) (0)).wr (F.SNET_SRC_0_EN 5) (0)).wr (F.SNET_SRC_0_EN 6) (0)).wr (F.SNET_SRC_0_EN 7) (0)).wr F.SNET_CFG_AGE_CHK (0)).wr F.SNET_STATUS_DEGRADED (0)).wr F.SNET_PORT_UDP_PORT (0x534D)).wr (F.ETH_LINK_UP p.val) (1)).wr (F.ETH_IPV4_ADDR p.val) (7)).wr F.CROWN_MODE_MODE (3))).wr F.SNET_CFG_SKEW_MS (5)) : State), by decide +kernel⟩,
   ⟨(0 : Fin 2),
     (({ dst := 0x534D, bytes := (let m := be 2 0x534D ++ [1, 1] ++ be 2 9 ++ be 2 0xFFFF ++ be 4 7 ++ List.replicate 12 0 ++ [1, 0, 0, 0]; m ++ be 4 (crc32c m)) } : SafetyDatagram) : SafetyDatagram), (2 : Nat), (let m : SafetyDatagram := ({ dst := 0x534D, bytes := (let m := be 2 0x534D ++ [1, 1] ++ be 2 9 ++ be 2 0xFFFF ++ be 4 7 ++ List.replicate 12 0 ++ [1, 0, 0, 0]; m ++ be 4 (crc32c m)) } : SafetyDatagram); { port := 1, bytes := (let m := be 2 0x534D ++ [1, 1] ++ be 2 9 ++ be 2 0xFFFF ++ be 4 7 ++ List.replicate 12 0 ++ [1, 0, 0, 0]; m ++ be 4 (crc32c m)), arrived := 0 } : SafetyCopy), (let p : Fin 2 := 0; let m : SafetyDatagram := ({ dst := 0x534D, bytes := (let m := be 2 0x534D ++ [1, 1] ++ be 2 9 ++ be 2 0xFFFF ++ be 4 7 ++ List.replicate 12 0 ++ [1, 0, 0, 0]; m ++ be 4 (crc32c m)) } : SafetyDatagram); let s : State := {}; (fun s : State => ({ s with prot := { s.prot with sources := [(2, { copy := some { port := 1 - p.val, bytes := m.bytes, arrived := s.mono } })] } } : State)) (((((fun s : State => ({ s with crown := { s.crown with phase := .complete } } : State)) (((((((((((((((s.wr (F.SNET_SRC_0_EN 2) (1)).wr (F.SNET_SRC_0_ID 2) (9)).wr (F.SNET_SRC_0_EN 0) (0)).wr (F.SNET_SRC_0_EN 1) (0)).wr (F.SNET_SRC_0_EN 3) (0)).wr (F.SNET_SRC_0_EN 4) (0)).wr (F.SNET_SRC_0_EN 5) (0)).wr (F.SNET_SRC_0_EN 6) (0)).wr (F.SNET_SRC_0_EN 7) (0)).wr F.SNET_CFG_AGE_CHK (0)).wr F.SNET_STATUS_DEGRADED (0)).wr F.SNET_PORT_UDP_PORT (0x534D)).wr (F.ETH_LINK_UP p.val) (1)).wr (F.ETH_IPV4_ADDR p.val) (7)).wr F.CROWN_MODE_MODE (3))).wr F.CROWN_MODE_MODE (3)).wr F.SNET_CFG_SKEW_MS (5)).wr (F.SNET_SRC_0_ACT_SRD 2) (1)) : State), by decide +kernel⟩,
   ⟨(0 : Fin 2),
     (({ dst := 0x534D, bytes := (let m := be 2 0x534D ++ [1, 1] ++ be 2 9 ++ be 2 0xFFFF ++ be 4 7 ++ List.replicate 12 0 ++ [0, 0, 0, 0]; m ++ be 4 (crc32c m)) } : SafetyDatagram) : SafetyDatagram), (let s : State := {}; s.wr F.SNET_PORT_UDP_PORT (1) : State), by decide +kernel⟩,
   ⟨(0 : Fin 8), (let n : Fin 8 := 0; let s : State := {}; (fun s : State =>
     ({ s with prot := { s.prot with conds := [] } } : State)) ((s.wr F.CROWN_MODE_MODE (3)).wr (F.SNET_SRC_0_EN n.val) (1)) : State),
     by decide +kernel⟩,
   ⟨(.service : Initiator), (60 : BitVec 12), (let s : State := {}; s : State), by decide +kernel⟩,
   ⟨(let s : State := {}; s.wr F.SNET_STATUS_DEGRADED (1) : State), by decide +kernel⟩⟩

theorem witness_InsulationMonitor :
    (∃ (s : State), s.insulAllowed = true ∧ s.on F.INSUL_STATUS_STATE_B = false) ∧
    (∃ (s : State), s.insulAllowed = true ∧ s.on F.INSUL_STATUS_STATE_B = true) ∧
    (∃ (s : State), s.insulAllowed = false) :=
  ⟨⟨(let s : State := {}; ((((
     (fun s : State =>
     ({ s with meas := { s.meas with vString := 600000 } } : State)) (s.wr F.INSUL_CFG_EN (1))).wr F.INSUL_CFG_BUS_MODE (1)).wr F.PAIR_CFG_PAIRED (0)).wr F.PAIR_STATUS_ROLE (0)).wr F.INSUL_STATUS_STATE_B (0) : State), by decide +kernel⟩,
   ⟨(let s : State := {}; ((((
     (fun s : State =>
     ({ s with meas := { s.meas with vString := 600000 } } : State)) (s.wr F.INSUL_CFG_EN (1))).wr F.INSUL_CFG_BUS_MODE (1)).wr F.PAIR_CFG_PAIRED (0)).wr F.PAIR_STATUS_ROLE (0)).wr F.INSUL_STATUS_STATE_B (1) : State), by decide +kernel⟩,
   ⟨(let s : State := {}; s.wr F.INSUL_CFG_EN (0) : State), by decide +kernel⟩⟩

theorem witness_PairClaims :
    (∃ (s : State), s.crown.phase = .complete ∧ s.mode ≠ .transport ∧ s.rd F.CLAIM_GEN_G < 0x7FFF ∧ s.on F.CLAIM_MON_LINK_FAULT = false ∧
      s.pair.readback = false) ∧
    (∃ (s : State), s.crown.phase = .complete ∧ s.mode ≠ .transport ∧ s.rd F.CLAIM_GEN_G < 0x7FFF ∧ s.on F.CLAIM_MON_LINK_FAULT = false ∧
      s.pair.readback = false) ∧
    (∃ (s : State), s.crown.phase = .complete ∧ s.rd F.CLAIM_GEN_G < 0x7FFF ∧ s.on F.CLAIM_MON_LINK_FAULT = false ∧ s.pair.readback = true ∧
      s.rd F.PAIR_STATUS_ROLE = 1 ∧ (s.on F.PAIR_STATUS_PARTNER_READY && s.on F.PAIR_STATUS_LINK_UP) = false ∧ s.canStop = true) ∧
    (∃ (s : State), s.crown.phase = .complete ∧ s.mode ≠ .transport ∧ s.rd F.CLAIM_GEN_G < 0x7FFF ∧ s.on F.CLAIM_MON_LINK_FAULT = false ∧
      s.pair.readback = true ∧ s.rd F.PAIR_STATUS_ROLE = 1 ∧ s.on F.PAIR_STATUS_PARTNER_READY = true ∧ s.on F.PAIR_STATUS_LINK_UP = true) ∧
    (∃ (s : State), s.crown.phase = .complete ∧ s.mode ≠ .transport ∧ s.rd F.CLAIM_GEN_G = 0x7FFF ∧ s.pair.exhausted = false ∧
      s.rd F.PAIR_STATUS_ROLE = 1 ∧ s.on F.PAIR_STATUS_PARTNER_READY = true ∧ s.on F.PAIR_STATUS_LINK_UP = true) ∧
    (∃ (claim : BitVec 16) (hb : BitVec 8) (line : ClaimLine) (s : State), s.on F.PAIR_CFG_PAIRED = true ∧
      (line.symbols && line.crc.toNat == claimCrc claim.toNat hb.toNat) = false) ∧
    (∃ (hb : BitVec 8) (line : ClaimLine) (s : State), s.on F.PAIR_CFG_PAIRED = true ∧ line.symbols = true ∧ line.crc.toNat = claimCrc 0 hb.toNat ∧
      ((s.pair.rxHb.any fun p => (p + 1) % 256 != hb.toNat) = false) ∧ s.on F.CLAIM_MON_PRESENT = true ∧ s.rd F.CLAIM_STATUS_PARTNER = 0) ∧
    (∃ (claim : BitVec 16) (hb : BitVec 8) (line : ClaimLine) (s : State), s.on F.PAIR_CFG_PAIRED = true ∧ line.symbols = true ∧
      line.crc.toNat = claimCrc claim.toNat hb.toNat ∧ (s.pair.rxHb.any (fun p => (p + 1) % 256 != hb.toNat) = true) ∧ claim = 0) ∧
    (∃ (claim : BitVec 16) (hb : BitVec 8) (line : ClaimLine) (s : State), s.on F.PAIR_CFG_PAIRED = true ∧ line.symbols = true ∧
      line.crc.toNat = claimCrc claim.toNat hb.toNat ∧ ((s.pair.rxHb.any fun p => (p + 1) % 256 != hb.toNat) = false) ∧ s.rd F.PAIR_STATUS_ROLE = 1 ∧
      s.rd F.CLAIM_STATUS_OWN < claim.toNat ∧ claim.toNat % 2 ≠ s.unitBit) ∧
    (∃ (claim : BitVec 16) (hb : BitVec 8) (line : ClaimLine) (s : State), s.on F.PAIR_CFG_PAIRED = true ∧ line.symbols = true ∧
      line.crc.toNat = claimCrc claim.toNat hb.toNat ∧ claim.toNat ≠ 0 ∧ claim.toNat % 2 = s.unitBit) ∧
    (∃ (s : State), s.mode ≠ .transport ∧ s.on F.PAIR_CFG_PAIRED = true) ∧
    (∃ (s : State), s.on F.PAIR_CFG_PAIRED = true ∧ s.pair.sameUnit = false) ∧
    (∃ (s : State), s.on F.PAIR_STATUS_LINK_UP = true) ∧
    (∃ (s : State), s.on F.CLAIM_MON_PRESENT = true) :=
  ⟨⟨(let s : State := {}; (fun s : State => ({ s with pair := { s.pair with readback := false } } : State)) ((
     (fun s : State =>
     ({ s with crown := { s.crown with phase := .complete } } : State)) ((s.wr F.CROWN_MODE_MODE (3)).wr F.CLAIM_GEN_G (9))).wr F.CLAIM_MON_LINK_FAULT (0)) : State), by decide +kernel⟩,
   ⟨(let s : State := {}; (fun s : State => ({ s with pair := { s.pair with readback := false } } : State)) ((
     (fun s : State =>
     ({ s with crown := { s.crown with phase := .complete } } : State)) ((s.wr F.CROWN_MODE_MODE (3)).wr F.CLAIM_GEN_G (9))).wr F.CLAIM_MON_LINK_FAULT (0)) : State), by decide +kernel⟩,
   ⟨(let s : State := {}; ((((fun s : State => ({ s with pair := { s.pair with readback := true } } : State)) (((
     (fun s : State =>
     ({ s with crown := { s.crown with phase := .complete } } : State)) s).wr F.CLAIM_GEN_G (9)).wr F.CLAIM_MON_LINK_FAULT (0))).wr F.CROWN_MODE_MODE (3)).wr F.PAIR_STATUS_ROLE (1)).wr F.PAIR_STATUS_PARTNER_READY (0) : State), by decide +kernel⟩,
   ⟨(let s : State := {}; ((((fun s : State => ({ s with pair := { s.pair with readback := true } } : State)) ((((
     (fun s : State =>
     ({ s with crown := { s.crown with phase := .complete } } : State)) s).wr F.CROWN_MODE_MODE (3)).wr F.CLAIM_GEN_G (9)).wr F.CLAIM_MON_LINK_FAULT (0))).wr F.PAIR_STATUS_ROLE (1)).wr F.PAIR_STATUS_PARTNER_READY (1)).wr F.PAIR_STATUS_LINK_UP (1) : State), by decide +kernel⟩,
   ⟨(let s : State := {}; ((((fun s : State => ({ s with pair := { s.pair with exhausted := false } } : State)) (((
     (fun s : State =>
     ({ s with crown := { s.crown with phase := .complete } } : State)) s).wr F.CROWN_MODE_MODE (3)).wr F.CLAIM_GEN_G (0x7FFF))).wr F.PAIR_STATUS_ROLE (1)).wr F.PAIR_STATUS_PARTNER_READY (1)).wr F.PAIR_STATUS_LINK_UP (1) : State), by decide +kernel⟩,
   ⟨(0 : BitVec 16), (0 : BitVec 8), ({ crc := 1 } : ClaimLine), (let s : State := {}; s.wr F.PAIR_CFG_PAIRED (1) : State), by decide +kernel⟩,
   ⟨(0 : BitVec 8), ({ symbols := true, crc := BitVec.ofNat 8 (claimCrc (0) (0)) } : ClaimLine), (let s : State := {}; ((
     (fun s : State =>
     ({ s with pair := { s.pair with rxHb := none } } : State)) (s.wr F.PAIR_CFG_PAIRED (1))).wr F.CLAIM_MON_PRESENT (1)).wr F.CLAIM_STATUS_PARTNER (0) : State), by decide +kernel⟩,
   ⟨(0 : BitVec 16), (0 : BitVec 8), ({ symbols := true, crc := BitVec.ofNat 8 (claimCrc (0) (0)) } : ClaimLine),
     (let hb : BitVec 8 := 0; let s : State := {}; (fun s : State =>
     ({ s with pair := { s.pair with rxHb := some (hb.toNat + 7) } } : State)) (s.wr F.PAIR_CFG_PAIRED (1)) : State), by decide +kernel⟩,
   ⟨(7 : BitVec 16), (0 : BitVec 8), ({ symbols := true, crc := BitVec.ofNat 8 (claimCrc (7) (0)) } : ClaimLine),
     (let s : State := {}; ((
     (fun s : State =>
     ({ s with pair := { s.pair with rxHb := none } } : State)) ((s.wr F.PAIR_CFG_PAIRED (1)).wr F.PAIR_STATUS_UNIT (0))).wr F.PAIR_STATUS_ROLE (1)).wr F.CLAIM_STATUS_OWN (2) : State), by decide +kernel⟩,
   ⟨(7 : BitVec 16), (0 : BitVec 8), ({ symbols := true, crc := BitVec.ofNat 8 (claimCrc (7) (0)) } : ClaimLine),
     (let s : State := {}; (s.wr F.PAIR_CFG_PAIRED (1)).wr F.PAIR_STATUS_UNIT (1) : State), by decide +kernel⟩,
   ⟨(let s : State := {}; (s.wr F.CROWN_MODE_MODE (1)).wr F.PAIR_CFG_PAIRED (1) : State), by decide +kernel⟩,
   ⟨(let s : State := {}; (fun s : State => ({ s with pair := { s.pair with sameUnit := false } } : State)) (s.wr F.PAIR_CFG_PAIRED (1)) : State),
     by decide +kernel⟩,
   ⟨(let s : State := {}; s.wr F.PAIR_STATUS_LINK_UP (1) : State), by decide +kernel⟩,
   ⟨(let s : State := {}; s.wr F.CLAIM_MON_PRESENT (1) : State), by decide +kernel⟩⟩

theorem witness_PairSwitchOver :
    (∃ (s : State), s.on F.CLAIM_MON_PRESENT = true ∧ s.rd F.PAIR_STATUS_ROLE = 2 ∧ s.pair.echo = none ∧ s.pair.waiting = false ∧
      s.on F.PAIR_CFG_PAIRED = true ∧ s.claimBarred = false ∧ max (s.rd F.CLAIM_GEN_G) s.pair.partnerGen < 0x7FFE ∧ s.mode = .standby ∧
      s.on F.PAIR_STATUS_READY = true) ∧
    (∃ (s : State), s.on F.CLAIM_MON_PRESENT = true ∧ s.rd F.PAIR_STATUS_ROLE ≠ 2) ∧
    (∃ (s : State), s.on F.CLAIM_MON_PRESENT = true) ∧
    (∃ (s : State), s.on F.CLAIM_MON_PRESENT = false ∧ s.rd F.PAIR_STATUS_ROLE = 2 ∧ s.pair.waiting = false ∧ s.on F.PAIR_CFG_PAIRED = true ∧
      s.claimBarred = false ∧ max (s.rd F.CLAIM_GEN_G) s.pair.partnerGen < 0x7FFE ∧ s.mode = .standby ∧ s.on F.PAIR_STATUS_READY = true) ∧
    (∃ (s : State), s.on F.CLAIM_MON_PRESENT = false ∧ s.rd F.PAIR_STATUS_ROLE = 2 ∧ s.pair.waiting = false ∧ s.on F.PAIR_CFG_PAIRED = true ∧
      s.claimBarred = false ∧ max (s.rd F.CLAIM_GEN_G) s.pair.partnerGen < 0x7FFE ∧ s.mode = .standby ∧ s.on F.PAIR_STATUS_READY = true) ∧
    (∃ (s : State), s.pair.waiting = true ∧ s.crown.phase = .complete ∧ s.claimBarred = false ∧ max (s.rd F.CLAIM_GEN_G) s.pair.partnerGen < 0x7FFE) ∧
    (∃ (s : State), s.pair.waiting = true ∧ s.crown.phase = .complete ∧ s.claimBarred = true) ∧
    (∃ (s : State), s.pair.resume = true ∧ s.effMode ≠ .run ∧ s.mode ≠ .hold ∧ s.supplied = true ∧ (s.pair.loop.bind (·.srd)) = none) ∧
    (∃ (s : State), s.pair.resume = true ∧ s.mode = .run ∧ s.supplied = true ∧ (s.pair.loop.bind (·.srd)) = none) ∧
    (∃ (s : State), s.pair.freset = true ∧ s.on F.PAIR_CFG_FRESET_EN = true ∧ s.rd F.PAIR_STATUS_ROLE = 1 ∧ s.rd F.CLAIM_STATUS_OWN ≠ 0 ∧
      s.pair.resume = false ∧ s.mode ≠ .connect ∧ s.on F.CLAIM_MON_PRESENT = false) ∧
    (∃ (who : Initiator) (s : State), s.barred who A.PAIR_CMD true = 0 ∧ s.rd F.PAIR_STATUS_ROLE = 1 ∧ s.on F.PAIR_STATUS_PARTNER_READY = true ∧
      s.on F.PAIR_STATUS_LINK_UP = true ∧ s.mode ≠ .connect ∧ s.mode ≠ .hold ∧ s.prot.srd = none ∧ s.rd F.CROWN_STAGE_CTRL_STATE ≠ 6) ∧
    (∃ (who : Initiator) (s : State), s.barred who A.PAIR_CMD true = 0 ∧ s.rd F.PAIR_STATUS_ROLE ≠ 1) ∧
    (∃ (s : State), s.rd F.PAIR_STATUS_ROLE = 2 ∧ s.pair.rxSeq = []) ∧
    (∃ (s : State), s.rd F.PAIR_STATUS_ROLE = 2 ∧ s.pair.rxSeq = []) ∧
    (∃ (s : State), s.rd F.PAIR_STATUS_ROLE ≠ 2) ∧
    (∃ (s : State), s.rd F.PAIR_STATUS_ROLE = 2) ∧
    (∃ (s : State), s.mode ≠ .transport ∧ s.rd F.PAIR_STATUS_ROLE ≠ 2 ∧ s.hasCond .islandTest = false ∧
      s.prot.islandPending.contains .islandTest = false) ∧
    (∃ (s : State), s.canStop = true ∧ s.rd F.PAIR_STATUS_ROLE = 0 ∧ s.hasCond .islandTest = false ∧ s.prot.islandPending.contains .islandTest = true) :=
  ⟨⟨(let s : State := {}; ((fun s : State => ({ s with pair := { s.pair with partnerGen := 4 } } : State)) ((
     (fun s : State => ({ s with pair := { s.pair with sameUnit := false } } : State)) (
     (fun s : State => ({ s with pair := { s.pair with openStrap := false } } : State)) (
     (fun s : State => ({ s with pair := { s.pair with waiting := false } } : State)) (((
     (fun s : State =>
     ({ s with pair := { s.pair with echo := none } } : State)) (((s.wr F.CROWN_MODE_MODE (1)).wr F.CLAIM_MON_PRESENT (1)).wr F.PAIR_STATUS_READY (1))).wr F.PAIR_STATUS_ROLE (2)).wr F.PAIR_CFG_PAIRED (1))))).wr F.CLAIM_GEN_G (4))).wr F.PAIR_STATUS_UNIT (1) : State), by decide +kernel⟩,
   ⟨(let s : State := {}; (s.wr F.CLAIM_MON_PRESENT (1)).wr F.PAIR_STATUS_ROLE (1) : State), by decide +kernel⟩,
   ⟨(let s : State := {}; s.wr F.CLAIM_MON_PRESENT (1) : State), by decide +kernel⟩,
   ⟨(let s : State := {}; ((fun s : State => ({ s with pair := { s.pair with partnerGen := 4 } } : State)) ((
     (fun s : State => ({ s with pair := { s.pair with sameUnit := false } } : State)) (
     (fun s : State => ({ s with pair := { s.pair with openStrap := false } } : State)) (
     (fun s : State =>
     ({ s with pair := { s.pair with waiting := false } } : State)) (((((s.wr F.CROWN_MODE_MODE (1)).wr F.CLAIM_MON_PRESENT (0)).wr F.PAIR_STATUS_READY (1)).wr F.PAIR_STATUS_ROLE (2)).wr F.PAIR_CFG_PAIRED (1))))).wr F.CLAIM_GEN_G (4))).wr F.PAIR_STATUS_UNIT (1) : State), by decide +kernel⟩,
   ⟨(let s : State := {}; ((fun s : State => ({ s with pair := { s.pair with partnerGen := 4 } } : State)) ((
     (fun s : State => ({ s with pair := { s.pair with sameUnit := false } } : State)) (
     (fun s : State => ({ s with pair := { s.pair with openStrap := false } } : State)) (
     (fun s : State =>
     ({ s with pair := { s.pair with waiting := false } } : State)) (((((s.wr F.CROWN_MODE_MODE (1)).wr F.CLAIM_MON_PRESENT (0)).wr F.PAIR_STATUS_READY (1)).wr F.PAIR_STATUS_ROLE (2)).wr F.PAIR_CFG_PAIRED (1))))).wr F.CLAIM_GEN_G (4))).wr F.PAIR_STATUS_UNIT (1) : State), by decide +kernel⟩,
   ⟨(let s : State := {}; (fun s : State => ({ s with pair := { s.pair with waiting := true } } : State)) (
     (fun s : State => ({ s with crown := { s.crown with phase := .complete } } : State)) ((
     (fun s : State => ({ s with pair := { s.pair with partnerGen := 4 } } : State)) ((
     (fun s : State => ({ s with pair := { s.pair with sameUnit := false } } : State)) (
     (fun s : State => ({ s with pair := { s.pair with openStrap := false } } : State)) (
     (fun s : State =>
     ({ s with pair := { s.pair with waiting := false } } : State)) ((s.wr F.PAIR_STATUS_ROLE (2)).wr F.PAIR_CFG_PAIRED (1))))).wr F.CLAIM_GEN_G (4))).wr F.PAIR_STATUS_UNIT (1))) : State), by decide +kernel⟩,
   ⟨(let s : State := {}; (fun s : State => ({ s with pair := { s.pair with sameUnit := true } } : State)) (
     (fun s : State => ({ s with pair := { s.pair with waiting := true } } : State)) (
     (fun s : State => ({ s with crown := { s.crown with phase := .complete } } : State)) ((
     (fun s : State => ({ s with pair := { s.pair with partnerGen := 4 } } : State)) ((
     (fun s : State => ({ s with pair := { s.pair with sameUnit := false } } : State)) (
     (fun s : State => ({ s with pair := { s.pair with openStrap := false } } : State)) (
     (fun s : State =>
     ({ s with pair := { s.pair with waiting := false } } : State)) ((s.wr F.PAIR_STATUS_ROLE (2)).wr F.PAIR_CFG_PAIRED (1))))).wr F.CLAIM_GEN_G (4))).wr F.PAIR_STATUS_UNIT (1)))) : State), by decide +kernel⟩,
   ⟨(let s : State := {}; (fun s : State => ({ s with pair := { s.pair with loop := none } } : State)) (((
     (fun s : State =>
     ({ s with pair := { s.pair with resume := true } } : State)) s).wr F.CROWN_MODE_MODE (4)).wr F.SUPPLY_STATUS_VAUX_OK (1)) : State),
     by decide +kernel⟩,
   ⟨(let s : State := {}; (fun s : State => ({ s with pair := { s.pair with loop := none } } : State)) (((
     (fun s : State =>
     ({ s with pair := { s.pair with resume := true } } : State)) s).wr F.CROWN_MODE_MODE (3)).wr F.SUPPLY_STATUS_VAUX_OK (1)) : State),
     by decide +kernel⟩,
   ⟨(let s : State := {}; (((fun s : State => ({ s with pair := { s.pair with resume := false } } : State)) ((((
     (fun s : State =>
     ({ s with pair := { s.pair with freset := true } } : State)) s).wr F.PAIR_CFG_FRESET_EN (1)).wr F.PAIR_STATUS_ROLE (1)).wr F.CLAIM_STATUS_OWN (5))).wr F.CROWN_MODE_MODE (3)).wr F.CLAIM_MON_PRESENT (0) : State), by decide +kernel⟩,
   ⟨(.service : Initiator), (let s : State := {}; (
     (fun s : State =>
     ({ s with prot := { s.prot with srd := none } } : State)) ((((s.wr F.PAIR_STATUS_ROLE (1)).wr F.PAIR_STATUS_PARTNER_READY (1)).wr F.PAIR_STATUS_LINK_UP (1)).wr F.CROWN_MODE_MODE (3))).wr F.CROWN_STAGE_CTRL_STATE (0) : State), by decide +kernel⟩,
   ⟨(.service : Initiator), (let s : State := {}; s.wr F.PAIR_STATUS_ROLE (2) : State), by decide +kernel⟩,
   ⟨(let s : State := {}; (fun s : State => ({ s with pair := { s.pair with rxSeq := [] } } : State)) (s.wr F.PAIR_STATUS_ROLE (2)) : State),
     by decide +kernel⟩,
   ⟨(let s : State := {}; (fun s : State => ({ s with pair := { s.pair with rxSeq := [] } } : State)) (s.wr F.PAIR_STATUS_ROLE (2)) : State),
     by decide +kernel⟩,
   ⟨(let s : State := {}; s.wr F.PAIR_STATUS_ROLE (1) : State), by decide +kernel⟩,
   ⟨(let s : State := {}; s.wr F.PAIR_STATUS_ROLE (2) : State), by decide +kernel⟩,
   ⟨(let s : State := {}; (fun s : State => ({ s with prot := { s.prot with islandPending := [] } } : State)) (
     (fun s : State => ({ s with prot := { s.prot with conds := [] } } : State)) ((s.wr F.CROWN_MODE_MODE (3)).wr F.PAIR_STATUS_ROLE (0))) : State),
     by decide +kernel⟩,
   ⟨(let s : State := {}; (fun s : State => ({ s with prot := { s.prot with islandPending := [.islandTest] } } : State)) (
     (fun s : State => ({ s with prot := { s.prot with conds := [] } } : State)) ((s.wr F.CROWN_MODE_MODE (3)).wr F.PAIR_STATUS_ROLE (0))) : State),
     by decide +kernel⟩⟩

theorem witness_ScanTasks :
    (∃ (n : Fin 4) (s : State), s.taskRuns n.val = true ∧ (s.task n.val).busy = true ∧
      (s.task n.val).skips + 1 < (F.SCAN_TCFG_WD_N n.val).get (s.task n.val).tcfg ∧ s.stage < 5) ∧
    (∃ (n : Fin 4) (s : State), s.taskRuns n.val = true ∧ (s.task n.val).busy = false ∧
      (((sectOf (sectBytes s.nvm.program n.val)).blocks.all fun b => b.typ != 0x50 && b.typ != 0x51) = true)) ∧
    (∃ (n : Fin 4) (s : State), (s.task n.val).busy = true ∧ (s.task n.val).stopping = false) ∧
    (∃ (who : Initiator) (s : State), s.barred who A.SCAN_CMD true = 0) ∧
    (∃ (who : Initiator) (data : BitVec 32) (s : State), s.writeCode who A.SCAN_PROG_DATA data.toNat = 0 ∧ who ≠ .host) ∧
    (∃ (who : Initiator) (s : State), s.readCode who A.SCAN_PROG_LIVE = 0) ∧
    (∃ (ch : Fin 4) (id : Nat) (frame : List Byte) (n : Nat) (s : State), s.mode ≠ .transport ∧ s.stationAt (.can ch id) = some n ∧
      s.stationValid n frame = false) ∧
    (∃ (ch : Fin 4) (id : Nat) (frame : List Byte) (n : Nat) (s : State), s.mode ≠ .transport ∧ s.stationAt (.can ch id) = some n ∧
      s.stationValid n frame = true) ∧
    (∃ (port : Fin 2) (ip udp dst : Nat) (frame : List Byte) (n : Nat) (s : State), s.mode ≠ .transport ∧
      s.stationAt (.eth port ip udp dst) = some n ∧ (s.push 109 frame true).2 = true ∧ s.stationValid n frame = false) ∧
    (∃ (port : Fin 2) (ip udp dst : Nat) (frame : List Byte) (n : Nat) (s : State), s.mode ≠ .transport ∧
      s.stationAt (.eth port ip udp dst) = some n ∧ (s.push 109 frame true).2 = false) ∧
    (∃ (s : State), s.mode ≠ .transport ∧ s.journalHeld = false) ∧
    (∃ (s : State), s.mode ≠ .transport ∧ s.journalHeld = true) ∧
    (∃ (who : Initiator) (k : Fin 256) (s : State), s.barred who (A.IMAGE_M k.val) true = 0) ∧
    (∃ (di : BitVec 16) (s : State), s.mode ≠ .transport ∧ s.rd F.IMAGE_DI_DI ≠ di.toNat) :=
  ⟨⟨(0 : Fin 4), (let n : Fin 4 := 0; let s : State := {}; (fun (s : State) =>
     s.setTask n.val { busy := true, tcfg := (0xFFFFFFFF : Word) }) (((((((((
     (fun s : State =>
     ({ s with crown := { s.crown with phase := .complete } } : State)) s).wr F.CROWN_MODE_MODE (3)).wr F.CROWN_MODE_DORMANT (0)).wr F.SCAN_CFG_EN (1)).wr (F.SCAN_TCFG_EN n.val) (1)).wr F.SCAN_STATUS_STOPPED (0)).wr F.SCAN_STATUS_SUSPENDED (0)).wr (F.SCAN_TCFG_WD_N n.val) (5)).wr F.CROWN_STAGE_CTRL_STATE (0)) : State), by decide +kernel⟩,
   ⟨(0 : Fin 4), (let n : Fin 4 := 0; let s : State := {}; (fun (s : State) => s.setTask n.val {}) (((((((
     (fun s : State =>
     ({ s with crown := { s.crown with phase := .complete } } : State)) s).wr F.CROWN_MODE_MODE (3)).wr F.CROWN_MODE_DORMANT (0)).wr F.SCAN_CFG_EN (1)).wr (F.SCAN_TCFG_EN n.val) (1)).wr F.SCAN_STATUS_STOPPED (0)).wr F.SCAN_STATUS_SUSPENDED (0)) : State), by decide +kernel⟩,
   ⟨(0 : Fin 4), (let n : Fin 4 := 0; let s : State := {}; (fun (s : State) => s.setTask n.val { busy := true }) (s) : State), by decide +kernel⟩,
   ⟨(.service : Initiator), (let s : State := {}; s.wr F.SCAN_STATUS_STOPPED (15) : State), by decide +kernel⟩,
   ⟨(.ralkiul 0 : Initiator), (0 : BitVec 32), (let s : State := {}; (fun s : State =>
     ({ s with rk := [(0, { openState := 2, secure := true })] } : State)) ((s.wr F.CROWN_STAGE_CTRL_STATE (0)).wr F.CROWN_STAGE_OWNER_SESSION (0)) : State), by decide +kernel⟩,
   ⟨(.service : Initiator), (let s : State := {}; (fun s : State =>
     ({ s with nvm := { s.nvm with program := [1, 2, 3, 4, 5, 6, 7, 8] } } : State)) (s) : State), by decide +kernel⟩,
   ⟨(0 : Fin 4), (1 : Nat), ([] : List Byte), (0 : Nat), (let s : State := {}; ((((
     (fun s : State => ({ s with scan := { s.scan with inUse := [] } } : State)) ((((
     (fun s : State =>
     ({ s with crown := { s.crown with phase := .complete } } : State)) ((s.wr F.CROWN_MODE_MODE (3)).wr F.CROWN_MODE_DORMANT (0))).wr (F.CAN_CFG_EN 0) (1)).wr (F.CAN_CFG_FD_EN 0) (1)).wr (F.CAN_STATUS_STATE 0) (0))).wr (F.STATION_SCFG_EN 0) (1)).wr (F.STATION_SCFG_LINK 0) (0)).wr (F.STATION_SCFG_CH 0) (0)).wr (F.STATION_SADDR_ADDR 0) (0) : State), by decide +kernel⟩,
   ⟨(0 : Fin 4), (1 : Nat),
     ((let h : List Byte := be 2 0x5354 ++ [1, 2] ++ List.replicate 44 0; h ++ be 4 (crc32c h) ++ List.replicate 12 0) : List Byte), (0 : Nat),
     (let s : State := {}; ((((((fun s : State => ({ s with scan := { s.scan with inUse := [] } } : State)) ((((
     (fun s : State =>
     ({ s with crown := { s.crown with phase := .complete } } : State)) ((s.wr F.CROWN_MODE_MODE (3)).wr F.CROWN_MODE_DORMANT (0))).wr (F.CAN_CFG_EN 0) (1)).wr (F.CAN_CFG_FD_EN 0) (1)).wr (F.CAN_STATUS_STATE 0) (0))).wr (F.STATION_SCFG_EN 0) (1)).wr (F.STATION_SCFG_LINK 0) (0)).wr (F.STATION_SCFG_CH 0) (0)).wr (F.STATION_SADDR_ADDR 0) (0)).wr (F.STATION_SCFG_AUTH 0) (0) : State), by decide +kernel⟩,
   ⟨(0 : Fin 2), (99 : Nat), (5 : Nat), (2000 : Nat), ([] : List Byte), (0 : Nat), (let s : State := {}; (((((((
     (fun s : State => ({ s with scan := { s.scan with inUse := [] } } : State)) (
     (fun s : State =>
     ({ s with crown := { s.crown with phase := .complete } } : State)) ((s.wr F.CROWN_MODE_MODE (3)).wr F.CROWN_MODE_DORMANT (0)))).wr (F.STATION_SCFG_EN 0) (1)).wr (F.STATION_SCFG_LINK 0) (1)).wr (F.ETH_LINK_UP 0) (1)).wr (F.ETH_IPV4_ADDR 0) (7)).wr (F.STATION_SADDR_ADDR 0) (99)).wr F.STATION_CFG_UDP_PORT (2000)).wr (F.QUEUE_QCFG_SIZE_KIB 13) (64) : State), by decide +kernel⟩,
   ⟨(0 : Fin 2), (99 : Nat), (5 : Nat), (2000 : Nat), ([] : List Byte), (0 : Nat), (let s : State := {}; (((((((
     (fun s : State => ({ s with scan := { s.scan with inUse := [] } } : State)) (
     (fun s : State =>
     ({ s with crown := { s.crown with phase := .complete } } : State)) ((s.wr F.CROWN_MODE_MODE (3)).wr F.CROWN_MODE_DORMANT (0)))).wr (F.STATION_SCFG_EN 0) (1)).wr (F.STATION_SCFG_LINK 0) (1)).wr (F.ETH_LINK_UP 0) (1)).wr (F.ETH_IPV4_ADDR 0) (7)).wr (F.STATION_SADDR_ADDR 0) (99)).wr F.STATION_CFG_UDP_PORT (2000)).wr (F.QUEUE_QCFG_SIZE_KIB 13) (0) : State), by decide +kernel⟩,
   ⟨(let s : State := {}; (s.wr F.SUPPLY_STATUS_VAUX_OK (1)).wr F.CROWN_MODE_MODE (4) : State), by decide +kernel⟩,
   ⟨(let s : State := {}; (s.wr F.SUPPLY_STATUS_VAUX_OK (0)).wr F.CROWN_MODE_MODE (4) : State), by decide +kernel⟩,
   ⟨(.service : Initiator), (0 : Fin 256), (let s : State := {}; s : State), by decide +kernel⟩,
   ⟨(3 : BitVec 16), (let s : State := {}; s.wr F.CROWN_MODE_MODE (3) : State), by decide +kernel⟩⟩

theorem witness_BranchEngines :
    (∃ (e : Fin 64) (x : Nat × (Nat × Nat)) (s : State), (s.eng.run.find? (·.1 == e.val)) = some x ∧ ((s.eng.items.any fun i =>
      i.id == x.2.1 && i.epoch == x.2.2) = true)) ∧
    (∃ (e : Fin 64) (x : Nat × (Nat × Nat)) (s : State), (s.eng.run.find? (·.1 == e.val)) = some x ∧ ((s.eng.items.any fun i =>
      i.id == x.2.1 && i.epoch == x.2.2) = false)) ∧
    (∃ (e : Fin 64) (x : Nat × (Nat × Nat)) (s : State), (s.eng.run.find? (·.1 == e.val)) = some x ∧ ((s.eng.items.any fun i =>
      i.id == x.2.1 && i.epoch == x.2.2) = true)) ∧
    (∃ (e : Fin 64) (s : State), e.val ≠ 63 ∧ s.inService e.val = true) ∧
    (∃ (e : Fin 64) (first second : Fin 6) (s : State), s.inService e.val = true ∧ first.val ≠ 0 ∧ second.val ≠ 0) ∧
    (∃ (e : Fin 64) (s : State), s.engState e.val = 2) ∧
    (∃ (place : Fin 3), place.val ≠ 2) ∧
    (∃ (e : Fin 64) (s : State), s.inService e.val = true) ∧
    (∃ (s : State), s.canStop = true ∧ s.rd F.PAIR_STATUS_ROLE = 0 ∧ s.eng.run = [] ∧ 1 ≤ s.rd F.SCHED_CROWN_ECC_UE) ∧
    (∃ (who : Initiator) (s : State), s.barred who A.QREAD_RSEL true = 0) ∧
    (∃ (who : Initiator) (s : State), s.barred who A.QREAD_ROFS true = 0 ∧ who ≠ .host) ∧
    (∃ (who : Initiator) (x : Entry) (s : State), s.barred who A.QREAD_RPOP true = 0 ∧ s.atCursor who.id = some x) :=
  ⟨⟨(5 : Fin 64), ((5, (3, 2)) : Nat × (Nat × Nat)), (let s : State := {}; (fun s : State =>
     ({ s with eng := { s.eng with run := [(5, (3, 2))] } } : State)) (
     (fun s : State =>
     ({ s with eng := { s.eng with items := [{ id := 3, lane := 0, owner := 5, runner := some 5, epoch := 2, pinned := false, ops := 9, secure := false, task := none }] } } : State)) ((((((((s.wr (F.BOUGH_STATUS_IN_SERVICE 0) (255)).wr (F.BOUGH_STATUS_IN_SERVICE 1) (255)).wr (F.BOUGH_STATUS_IN_SERVICE 2) (255)).wr (F.BOUGH_STATUS_IN_SERVICE 3) (255)).wr (F.BOUGH_STATUS_IN_SERVICE 4) (255)).wr (F.BOUGH_STATUS_IN_SERVICE 5) (255)).wr (F.BOUGH_STATUS_IN_SERVICE 6) (255)).wr (F.BOUGH_STATUS_IN_SERVICE 7) (255))) : State), by decide +kernel⟩,
   ⟨(5 : Fin 64), ((5, (3, 2)) : Nat × (Nat × Nat)), (let s : State := {}; (fun s : State =>
     ({ s with eng := { s.eng with run := [(5, (3, 2))] } } : State)) (
     (fun s : State =>
     ({ s with eng := { s.eng with items := [] } } : State)) ((((((((s.wr (F.BOUGH_STATUS_IN_SERVICE 0) (255)).wr (F.BOUGH_STATUS_IN_SERVICE 1) (255)).wr (F.BOUGH_STATUS_IN_SERVICE 2) (255)).wr (F.BOUGH_STATUS_IN_SERVICE 3) (255)).wr (F.BOUGH_STATUS_IN_SERVICE 4) (255)).wr (F.BOUGH_STATUS_IN_SERVICE 5) (255)).wr (F.BOUGH_STATUS_IN_SERVICE 6) (255)).wr (F.BOUGH_STATUS_IN_SERVICE 7) (255))) : State), by decide +kernel⟩,
   ⟨(5 : Fin 64), ((5, (3, 2)) : Nat × (Nat × Nat)), (let s : State := {}; (fun s : State =>
     ({ s with eng := { s.eng with run := [(5, (3, 2))] } } : State)) (
     (fun s : State =>
     ({ s with eng := { s.eng with items := [{ id := 3, lane := 0, owner := 5, runner := some 5, epoch := 2, pinned := false, ops := 9, secure := false, task := none }] } } : State)) ((((((((s.wr (F.BOUGH_STATUS_IN_SERVICE 0) (255)).wr (F.BOUGH_STATUS_IN_SERVICE 1) (255)).wr (F.BOUGH_STATUS_IN_SERVICE 2) (255)).wr (F.BOUGH_STATUS_IN_SERVICE 3) (255)).wr (F.BOUGH_STATUS_IN_SERVICE 4) (255)).wr (F.BOUGH_STATUS_IN_SERVICE 5) (255)).wr (F.BOUGH_STATUS_IN_SERVICE 6) (255)).wr (F.BOUGH_STATUS_IN_SERVICE 7) (255))) : State), by decide +kernel⟩,
   ⟨(0 : Fin 64),
     (let s : State := {}; (((((((s.wr (F.BOUGH_STATUS_IN_SERVICE 0) (255)).wr (F.BOUGH_STATUS_IN_SERVICE 1) (255)).wr (F.BOUGH_STATUS_IN_SERVICE 2) (255)).wr (F.BOUGH_STATUS_IN_SERVICE 3) (255)).wr (F.BOUGH_STATUS_IN_SERVICE 4) (255)).wr (F.BOUGH_STATUS_IN_SERVICE 5) (255)).wr (F.BOUGH_STATUS_IN_SERVICE 6) (255)).wr (F.BOUGH_STATUS_IN_SERVICE 7) (255) : State), by decide +kernel⟩,
   ⟨(0 : Fin 64), (1 : Fin 6), (2 : Fin 6),
     (let s : State := {}; (((((((s.wr (F.BOUGH_STATUS_IN_SERVICE 0) (255)).wr (F.BOUGH_STATUS_IN_SERVICE 1) (255)).wr (F.BOUGH_STATUS_IN_SERVICE 2) (255)).wr (F.BOUGH_STATUS_IN_SERVICE 3) (255)).wr (F.BOUGH_STATUS_IN_SERVICE 4) (255)).wr (F.BOUGH_STATUS_IN_SERVICE 5) (255)).wr (F.BOUGH_STATUS_IN_SERVICE 6) (255)).wr (F.BOUGH_STATUS_IN_SERVICE 7) (255) : State), by decide +kernel⟩,
   ⟨(0 : Fin 64), (let e : Fin 64 := 0; let s : State := {}; (fun (s : State) =>
     s.wr (F.BOUGH_ENG_0_STATE (e.val / 8) (e.val % 8)) 2) ((((((((s.wr (F.BOUGH_STATUS_IN_SERVICE 0) (255)).wr (F.BOUGH_STATUS_IN_SERVICE 1) (255)).wr (F.BOUGH_STATUS_IN_SERVICE 2) (255)).wr (F.BOUGH_STATUS_IN_SERVICE 3) (255)).wr (F.BOUGH_STATUS_IN_SERVICE 4) (255)).wr (F.BOUGH_STATUS_IN_SERVICE 5) (255)).wr (F.BOUGH_STATUS_IN_SERVICE 6) (255)).wr (F.BOUGH_STATUS_IN_SERVICE 7) (255)) : State), by decide +kernel⟩,
   ⟨(0 : Fin 3), by decide +kernel⟩,
   ⟨(0 : Fin 64),
     (let s : State := {}; (((((((s.wr (F.BOUGH_STATUS_IN_SERVICE 0) (255)).wr (F.BOUGH_STATUS_IN_SERVICE 1) (255)).wr (F.BOUGH_STATUS_IN_SERVICE 2) (255)).wr (F.BOUGH_STATUS_IN_SERVICE 3) (255)).wr (F.BOUGH_STATUS_IN_SERVICE 4) (255)).wr (F.BOUGH_STATUS_IN_SERVICE 5) (255)).wr (F.BOUGH_STATUS_IN_SERVICE 6) (255)).wr (F.BOUGH_STATUS_IN_SERVICE 7) (255) : State), by decide +kernel⟩,
   ⟨(let s : State := {}; (
     (fun s : State =>
     ({ s with eng := { s.eng with run := [] } } : State)) ((s.wr F.CROWN_MODE_MODE (3)).wr F.PAIR_STATUS_ROLE (0))).wr F.SCHED_CROWN_ECC_UE (1) : State), by decide +kernel⟩,
   ⟨(.service : Initiator), (let s : State := {}; (fun s : State =>
     ({ s with eng := { s.eng with rings := [(96, { entries := [{ eseq := 7, bytes := [1], used := false, popped := false }], next := 8 })] } } : State)) (s) : State), by decide +kernel⟩,
   ⟨(.service : Initiator), (let s : State := {}; s : State), by decide +kernel⟩,
   ⟨(.service : Initiator), ({ eseq := 7, bytes := [1], used := false, popped := false } : Entry),
     (let who : Initiator := .service; let s : State := {}; (fun s : State =>
     ({ s with eng := { s.eng with rings := [(96, { entries := [{ eseq := 7, bytes := [1], used := false, popped := false }], next := 8 })] } } : State)) ((fun s : State => ({ s with eng := { s.eng with cursor := [(who.id, 7)] } } : State)) ((fun (s : State) => s.wr (F.QREAD_RSEL_RING.bank who.id) 0) s)) : State), by decide +kernel⟩⟩

theorem witness_ClocksAndTimeBases :
    (∃ (hz : List Nat) (s : State), s.time.clkPend = 0 ∧ s.rd F.CLOCK_MONFAIL_DOMAINS = 0 ∧ hz.getD 7 0 = 250000000 ∧ s.hasCond .clockCross = false ∧
      s.prot.islandPending.contains .clockCross = false) ∧
    (∃ (hz : List Nat) (s : State), s.time.clkPend = 2 ^ 11 ∧ s.clockRuns 11 = true ∧ s.rd F.CLOCK_MONFAIL_DOMAINS = 0 ∧ hz.getD 7 0 = 250000000 ∧
      s.hasCond .clockCross = false ∧ s.prot.islandPending.contains .clockCross = false ∧ s.rd F.CLOCK_CFG_MON_PCT < 100 ∧ hz.getD 11 0 = 0) ∧
    (∃ (hz : List Nat) (s : State), s.time.clkPend = 2 ^ 4 ∧ s.clockRuns 4 = true ∧ s.bit F.CLOCK_MONFAIL_DOMAINS 4 = false ∧
      s.rd F.CLOCK_CFG_MON_PCT < 100 ∧ hz.getD 4 0 = 0 ∧ s.canStop = true ∧ s.rd F.PAIR_STATUS_ROLE = 0) ∧
    (∃ (who : Initiator) (s : State), s.barred who A.CLOCK_XSTAT true = 0 ∧ who ≠ .host) ∧
    (∃ (who : Initiator) (n : Fin 4) (s : State), s.barred who (A.TIME_CMD n.val) true = 0 ∧ n.val ≠ 3 ∧ (n.val = 0 → s.secureOf who = true) ∧
      (n.val < 2 → s.on (F.PTP_CFG_EN n.val) = false)) ∧
    (∃ (who : Initiator) (n : Fin 4) (s : State), s.barred who (A.TIME_CMD n.val) true = 0 ∧ (n.val = 3 ∨ n.val = 1 ∧ s.on (F.PTP_CFG_EN 1) = true)) ∧
    (∃ (who : Initiator) (n : Fin 4) (s : State), s.barred who (A.TIME_CMD n.val) true = 0 ∧ n.val ≠ 3 ∧ (n.val = 0 → s.secureOf who = true) ∧
      (n.val < 2 → s.on (F.PTP_CFG_EN n.val) = false)) ∧
    (∃ (who : Initiator) (s : State), s.barred who A.TIME_CMD_SNAP true = 0) ∧
    (∃ (who : Initiator) (n : Fin 4) (s : State), s.barred who (A.TIME_NS n.val) false = 0) ∧
    (∃ (who : Initiator) (s : State), s.barred who (A.TIME_RATE 2) true = 0 ∧ who ≠ .host) :=
  ⟨⟨([400000000, 100000000, 25000000, 25000000, 125000000, 125000000, 312500000, 250000000, 80000000, 5, 133333333, 32768, 0, 7] : List Nat),
     (let s : State := {}; (fun s : State => ({ s with prot := { s.prot with islandPending := [] } } : State)) (
     (fun s : State => ({ s with prot := { s.prot with conds := [] } } : State)) ((
     (fun s : State => ({ s with time := { s.time with clkPend := 0 } } : State)) s).wr F.CLOCK_MONFAIL_DOMAINS (0))) : State), by decide +kernel⟩,
   ⟨([400000000, 100000000, 25000000, 25000000, 125000000, 125000000, 312500000, 250000000, 80000000, 5, 133333333, 0, 0, 7] : List Nat),
     (let s : State := {}; ((fun s : State => ({ s with time := { s.time with clkPend := 2 ^ 11 } } : State)) (
     (fun s : State => ({ s with prot := { s.prot with islandPending := [] } } : State)) (
     (fun s : State => ({ s with prot := { s.prot with conds := [] } } : State)) (((
     (fun s : State =>
     ({ s with crown := { s.crown with phase := .complete } } : State)) s).wr F.CROWN_MODE_MODE (1)).wr F.CLOCK_MONFAIL_DOMAINS (0))))).wr F.CLOCK_CFG_MON_PCT (5) : State), by decide +kernel⟩,
   ⟨([] : List Nat), (let s : State := {}; ((fun s : State => ({ s with time := { s.time with clkPend := 2 ^ 4 } } : State)) ((((
     (fun s : State =>
     ({ s with crown := { s.crown with phase := .complete } } : State)) s).wr F.CROWN_MODE_MODE (3)).wr F.PAIR_STATUS_ROLE (0)).wr F.CLOCK_MONFAIL_DOMAINS (0))).wr F.CLOCK_CFG_MON_PCT (5) : State), by decide +kernel⟩,
   ⟨(.service : Initiator), (let s : State := {}; s : State), by decide +kernel⟩,
   ⟨(.service : Initiator), (0 : Fin 4),
     (let n : Fin 4 := 0; let s : State := {}; (withTime ((s.wr (F.PTP_CFG_EN 0) (0)).wr (F.PTP_CFG_EN 1) (0))).wr (F.TIME_SETSL_SET_SLO n.val) (77) : State), by decide +kernel⟩,
   ⟨(.service : Initiator), (3 : Fin 4), (let s : State := {}; withTime (s.wr (F.PTP_CFG_EN 1) (1)) : State), by decide +kernel⟩,
   ⟨(.service : Initiator), (0 : Fin 4),
     (let n : Fin 4 := 0; let s : State := {}; (withTime ((s.wr (F.PTP_CFG_EN 0) (0)).wr (F.PTP_CFG_EN 1) (0))).wr (F.TIME_SETNS_SET_NS n.val) (77) : State), by decide +kernel⟩,
   ⟨(.service : Initiator), (let s : State := {}; withTime (s) : State), by decide +kernel⟩,
   ⟨(.service : Initiator), (0 : Fin 4), (let s : State := {}; withTime (s) : State), by decide +kernel⟩,
   ⟨(.service : Initiator), (let s : State := {}; s : State), by decide +kernel⟩⟩

theorem witness_TriggersAndCaptures :
    (∃ (who : Initiator) (k : Fin 8) (s : State), s.barred who (A.TRIG_TCTL k.val) true = 0 ∧ s.armed k.val = false ∧
      s.on (F.TRIG_TCFG_PERIODIC k.val) = true ∧ 1000 ≤ s.rd (F.TRIG_TPER_PERIOD_NS k.val) ∧ 8 ≤ s.rd (F.TRIG_TWID_WIDTH_NS k.val) ∧
      s.rd (F.TRIG_TWID_WIDTH_NS k.val) + 8 ≤ s.rd (F.TRIG_TPER_PERIOD_NS k.val)) ∧
    (∃ (who : Initiator) (k : Fin 8) (s : State), s.barred who (A.TRIG_TCTL k.val) true = 0 ∧ s.armed k.val = false ∧
      s.rd (F.TRIG_TWID_WIDTH_NS k.val) < 8) ∧
    (∃ (who : Initiator) (k : Fin 8) (s : State), s.barred who (A.TRIG_TCTL k.val) true = 0 ∧ s.armed k.val = false ∧
      s.on (F.TRIG_TCFG_PERIODIC k.val) = false ∧ 8 ≤ s.rd (F.TRIG_TWID_WIDTH_NS k.val) ∧
      s.trigStart k.val ≤ (s.timeBase (s.rd (F.TRIG_TCFG_TB k.val))).nanos) ∧
    (∃ (who : Initiator) (k : Fin 8) (s : State), s.barred who (A.TRIG_TCTL k.val) true = 0 ∧ s.armed k.val = true ∧
      s.on (F.TRIG_TCFG_PERIODIC k.val) = true ∧ (s.trig k.val).high = false) ∧
    (∃ (who : Initiator) (k : Fin 8) (s : State), s.barred who (A.TRIG_TCTL k.val) true = 0 ∧ s.armed k.val = true ∧
      s.on (F.TRIG_TCFG_PERIODIC k.val) = true ∧ (s.trig k.val).high = true) ∧
    (∃ (k : Fin 8) (s : State), s.armed k.val = true ∧ (s.trig k.val).high = false ∧ (s.trig k.val).ending = false ∧
      (s.on (F.TRIG_TCFG_PERIODIC k.val) = true ∨ (s.trig k.val).j = 0)) ∧
    (∃ (k : Fin 8) (s : State), s.armed k.val = true ∧ (s.trig k.val).high = true ∧
      (s.on (F.TRIG_TCFG_PERIODIC k.val) = false ∨ (s.trig k.val).ending = true)) ∧
    (∃ (k : Fin 8) (s : State), s.armed k.val = true ∧ (s.trig k.val).high = true ∧ s.on (F.TRIG_TCFG_PERIODIC k.val) = true ∧
      (s.trig k.val).ending = false) ∧
    (∃ (k : Fin 8) (held : Nat) (s : State), (s.rd (F.TRIG_CCFG_EDGE k.val)).testBit 0 = true ∧ 4 * s.rd (F.TRIG_CCFG_DEGLITCH k.val) ≤ held ∧
      (s.stamps k.val).length < 8) ∧
    (∃ (k : Fin 8) (held : Nat) (s : State), (s.rd (F.TRIG_CCFG_EDGE k.val)).testBit 1 = true ∧ 4 * s.rd (F.TRIG_CCFG_DEGLITCH k.val) ≤ held ∧
      8 ≤ (s.stamps k.val).length) ∧
    (∃ (k : Fin 8) (held : Nat) (s : State), held < 4 * s.rd (F.TRIG_CCFG_DEGLITCH k.val)) ∧
    (∃ (who : Initiator) (k : Fin 8) (s : State), s.barred who (A.TRIG_CSTAT k.val) true = 0) :=
  ⟨⟨(.service : Initiator), (0 : Fin 8), (let k : Fin 8 := 0; let s : State := {}; withTime ((fun (s : State) =>
     s.wr (F.TRIG_TCFG_CLAIM_ONLY k.val) 0) ((fun (s : State) => s.wr (F.TRIG_TSTART_SEC_HI_SEC_HI k.val) 0) ((fun (s : State) =>
     s.wr (F.TRIG_TSTART_SEC_LO_SEC_LO k.val) 900) ((fun (s : State) => s.wr (F.TRIG_TSTART_NS_NS k.val) 0) ((fun (s : State) =>
     s.wr (F.TRIG_TCFG_TB k.val) 0) ((fun (s : State) => s.wr (F.TRIG_TWID_WIDTH_NS k.val) 100) ((fun (s : State) =>
     s.wr (F.TRIG_TPER_PERIOD_NS k.val) 2000) ((fun (s : State) => s.wr (F.TRIG_TCFG_PERIODIC k.val) 1) ((fun (s : State) =>
     s.wr (F.TRIG_TCTL_STAT k.val) 0) s))))))))) : State), by decide +kernel⟩,
   ⟨(.service : Initiator), (0 : Fin 8), (let k : Fin 8 := 0; let s : State := {}; withTime ((fun (s : State) =>
     s.wr (F.TRIG_TCFG_CLAIM_ONLY k.val) 0) ((fun (s : State) => s.wr (F.TRIG_TSTART_SEC_HI_SEC_HI k.val) 0) ((fun (s : State) =>
     s.wr (F.TRIG_TSTART_SEC_LO_SEC_LO k.val) 900) ((fun (s : State) => s.wr (F.TRIG_TSTART_NS_NS k.val) 0) ((fun (s : State) =>
     s.wr (F.TRIG_TCFG_TB k.val) 0) ((fun (s : State) => s.wr (F.TRIG_TWID_WIDTH_NS k.val) 7) ((fun (s : State) =>
     s.wr (F.TRIG_TPER_PERIOD_NS k.val) 2000) ((fun (s : State) => s.wr (F.TRIG_TCFG_PERIODIC k.val) 1) ((fun (s : State) =>
     s.wr (F.TRIG_TCTL_STAT k.val) 0) s))))))))) : State), by decide +kernel⟩,
   ⟨(.service : Initiator), (0 : Fin 8), (let k : Fin 8 := 0; let s : State := {}; withTime ((fun (s : State) =>
     s.wr (F.TRIG_TCFG_CLAIM_ONLY k.val) 0) ((fun (s : State) => s.wr (F.TRIG_TSTART_SEC_HI_SEC_HI k.val) 0) ((fun (s : State) =>
     s.wr (F.TRIG_TSTART_SEC_LO_SEC_LO k.val) 1) ((fun (s : State) => s.wr (F.TRIG_TSTART_NS_NS k.val) 0) ((fun (s : State) =>
     s.wr (F.TRIG_TCFG_TB k.val) 0) ((fun (s : State) => s.wr (F.TRIG_TWID_WIDTH_NS k.val) 100) ((fun (s : State) =>
     s.wr (F.TRIG_TPER_PERIOD_NS k.val) 2000) ((fun (s : State) => s.wr (F.TRIG_TCFG_PERIODIC k.val) 0) ((fun (s : State) =>
     s.wr (F.TRIG_TCTL_STAT k.val) 0) s))))))))) : State), by decide +kernel⟩,
   ⟨(.service : Initiator), (0 : Fin 8), (let k : Fin 8 := 0; let s : State := {}; (fun s : State =>
     ({ s with time := { s.time with trigs := [] } } : State)) (withTime ((fun (s : State) =>
     s.wr (F.TRIG_TCFG_CLAIM_ONLY k.val) 0) ((fun (s : State) => s.wr (F.TRIG_TSTART_SEC_HI_SEC_HI k.val) 0) ((fun (s : State) =>
     s.wr (F.TRIG_TSTART_SEC_LO_SEC_LO k.val) 900) ((fun (s : State) => s.wr (F.TRIG_TSTART_NS_NS k.val) 0) ((fun (s : State) =>
     s.wr (F.TRIG_TCFG_TB k.val) 0) ((fun (s : State) => s.wr (F.TRIG_TWID_WIDTH_NS k.val) 100) ((fun (s : State) =>
     s.wr (F.TRIG_TPER_PERIOD_NS k.val) 2000) ((fun (s : State) => s.wr (F.TRIG_TCFG_PERIODIC k.val) 1) ((fun (s : State) =>
     s.wr (F.TRIG_TCTL_STAT k.val) 1) s)))))))))) : State), by decide +kernel⟩,
   ⟨(.service : Initiator), (0 : Fin 8), (let k : Fin 8 := 0; let s : State := {}; (fun s : State =>
     ({ s with time := { s.time with trigs := [(k.val, { high := true })] } } : State)) (withTime ((fun (s : State) =>
     s.wr (F.TRIG_TCFG_CLAIM_ONLY k.val) 0) ((fun (s : State) => s.wr (F.TRIG_TSTART_SEC_HI_SEC_HI k.val) 0) ((fun (s : State) =>
     s.wr (F.TRIG_TSTART_SEC_LO_SEC_LO k.val) 900) ((fun (s : State) => s.wr (F.TRIG_TSTART_NS_NS k.val) 0) ((fun (s : State) =>
     s.wr (F.TRIG_TCFG_TB k.val) 0) ((fun (s : State) => s.wr (F.TRIG_TWID_WIDTH_NS k.val) 100) ((fun (s : State) =>
     s.wr (F.TRIG_TPER_PERIOD_NS k.val) 2000) ((fun (s : State) => s.wr (F.TRIG_TCFG_PERIODIC k.val) 1) ((fun (s : State) =>
     s.wr (F.TRIG_TCTL_STAT k.val) 1) s)))))))))) : State), by decide +kernel⟩,
   ⟨(0 : Fin 8), (let k : Fin 8 := 0; let s : State := {}; (fun s : State =>
     ({ s with time := { s.time with trigs := [] } } : State)) (withTime ((fun (s : State) =>
     s.wr (F.TRIG_TCFG_CLAIM_ONLY k.val) 0) ((fun (s : State) => s.wr (F.TRIG_TSTART_SEC_HI_SEC_HI k.val) 0) ((fun (s : State) =>
     s.wr (F.TRIG_TSTART_SEC_LO_SEC_LO k.val) 900) ((fun (s : State) => s.wr (F.TRIG_TSTART_NS_NS k.val) 0) ((fun (s : State) =>
     s.wr (F.TRIG_TCFG_TB k.val) 0) ((fun (s : State) => s.wr (F.TRIG_TWID_WIDTH_NS k.val) 100) ((fun (s : State) =>
     s.wr (F.TRIG_TPER_PERIOD_NS k.val) 2000) ((fun (s : State) => s.wr (F.TRIG_TCFG_PERIODIC k.val) 1) ((fun (s : State) =>
     s.wr (F.TRIG_TCTL_STAT k.val) 1) s)))))))))) : State), by decide +kernel⟩,
   ⟨(0 : Fin 8), (let k : Fin 8 := 0; let s : State := {}; (fun s : State =>
     ({ s with time := { s.time with trigs := [(k.val, { high := true })] } } : State)) (withTime ((fun (s : State) =>
     s.wr (F.TRIG_TCFG_CLAIM_ONLY k.val) 0) ((fun (s : State) => s.wr (F.TRIG_TSTART_SEC_HI_SEC_HI k.val) 0) ((fun (s : State) =>
     s.wr (F.TRIG_TSTART_SEC_LO_SEC_LO k.val) 900) ((fun (s : State) => s.wr (F.TRIG_TSTART_NS_NS k.val) 0) ((fun (s : State) =>
     s.wr (F.TRIG_TCFG_TB k.val) 0) ((fun (s : State) => s.wr (F.TRIG_TWID_WIDTH_NS k.val) 100) ((fun (s : State) =>
     s.wr (F.TRIG_TPER_PERIOD_NS k.val) 2000) ((fun (s : State) => s.wr (F.TRIG_TCFG_PERIODIC k.val) 0) ((fun (s : State) =>
     s.wr (F.TRIG_TCTL_STAT k.val) 1) s)))))))))) : State), by decide +kernel⟩,
   ⟨(0 : Fin 8), (let k : Fin 8 := 0; let s : State := {}; (fun s : State =>
     ({ s with time := { s.time with trigs := [(k.val, { high := true, j := 4 })] } } : State)) (withTime ((fun (s : State) =>
     s.wr (F.TRIG_TCFG_CLAIM_ONLY k.val) 0) ((fun (s : State) => s.wr (F.TRIG_TSTART_SEC_HI_SEC_HI k.val) 0) ((fun (s : State) =>
     s.wr (F.TRIG_TSTART_SEC_LO_SEC_LO k.val) 900) ((fun (s : State) => s.wr (F.TRIG_TSTART_NS_NS k.val) 0) ((fun (s : State) =>
     s.wr (F.TRIG_TCFG_TB k.val) 0) ((fun (s : State) => s.wr (F.TRIG_TWID_WIDTH_NS k.val) 100) ((fun (s : State) =>
     s.wr (F.TRIG_TPER_PERIOD_NS k.val) 2000) ((fun (s : State) => s.wr (F.TRIG_TCFG_PERIODIC k.val) 1) ((fun (s : State) =>
     s.wr (F.TRIG_TCTL_STAT k.val) 1) s)))))))))) : State), by decide +kernel⟩,
   ⟨(0 : Fin 8), (5000 : Nat), (let k : Fin 8 := 0; let s : State := {}; (fun (s : State) =>
     s.wr (F.TRIG_CCFG_EDGE k.val) 1) (withTime ((fun s : State => ({ s with time := { s.time with caps := [] } } : State)) s)) : State),
     by decide +kernel⟩,
   ⟨(0 : Fin 8), (5000 : Nat), (let k : Fin 8 := 0; let s : State := {}; (fun (s : State) =>
     s.wr (F.TRIG_CCFG_EDGE k.val) 3) (withTime (
     (fun s : State => ({ s with time := { s.time with caps := [(k.val, List.replicate 8 (true, {}))] } } : State)) s)) : State), by decide +kernel⟩,
   ⟨(0 : Fin 8), (0 : Nat), (let k : Fin 8 := 0; let s : State := {}; (fun (s : State) => s.wr (F.TRIG_CCFG_DEGLITCH k.val) 9) (s) : State),
     by decide +kernel⟩,
   ⟨(.service : Initiator), (0 : Fin 8), (let k : Fin 8 := 0; let s : State := {}; (fun s : State =>
     ({ s with time := { s.time with caps := [(k.val, [(true, { sec := 4 }), (false, {})])] } } : State)) (s) : State), by decide +kernel⟩⟩

theorem witness_PtpExchanges :
    (∃ (port : Fin 2) (l2 : Bool) (m : List Byte) (i : Nat) (s : State), i < 2 ∧ s.ptpTakes i port.val l2 0 44 m = true ∧
      s.ptpTakes (1 - i) port.val l2 0 44 m = false ∧ (s.ptp i).master = some (ptpSrc m) ∧ -7 ≤ ptpLog m ∧ ptpLog m ≤ 1 ∧
      (beAt m 6 1).testBit 1 = true) ∧
    (∃ (port : Fin 2) (l2 : Bool) (m : List Byte) (i : Nat) (s : State), i < 2 ∧ s.ptpTakes i port.val l2 0 44 m = true ∧
      s.ptpTakes (1 - i) port.val l2 0 44 m = false ∧ (s.ptp i).master = some (ptpSrc m) ∧ -7 ≤ ptpLog m ∧ ptpLog m ≤ 1 ∧
      (beAt m 6 1).testBit 1 = false ∧ s.servo i = 1 ∧ (s.ptp i).acquired = false ∧ (s.ptp i).acq = none) ∧
    (∃ (port : Fin 2) (l2 : Bool) (m : List Byte) (i : Nat) (q : Nat × Int × Int) (s : State), i < 2 ∧ s.ptpTakes i port.val l2 8 44 m = true ∧
      s.ptpTakes (1 - i) port.val l2 8 44 m = false ∧ (s.ptp i).master = some (ptpSrc m) ∧ (s.ptp i).sync = some q ∧ q.1 = ptpSeq m ∧ s.servo i = 0) ∧
    (∃ (port : Fin 2) (l2 : Bool) (m : List Byte) (i : Nat) (q : Nat × Int × Int) (d : Int) (s : State), i < 2 ∧
      s.ptpTakes i port.val l2 8 44 m = true ∧ s.ptpTakes (1 - i) port.val l2 8 44 m = false ∧ (s.ptp i).master = some (ptpSrc m) ∧
      (s.ptp i).sync = some q ∧ q.1 = ptpSeq m ∧ s.servo i = 1 ∧ (s.ptp i).acquired = true ∧ (s.ptp i).outlier = false ∧ (s.ptp i).delay = some d) ∧
    (∃ (port : Fin 2) (l2 : Bool) (m : List Byte) (i : Nat) (a : Int × Nat) (b : Int × Int × Int × Nat) (s : State), i < 2 ∧
      s.ptpTakes i port.val l2 9 54 m = true ∧ s.ptpTakes (1 - i) port.val l2 9 54 m = false ∧ (s.ptp i).master = some (ptpSrc m) ∧
      (s.ptp i).req = some (ptpSeq m) ∧ beAt m 44 10 = ownPort port.val ∧ (s.ptp i).gone = some a ∧ (s.ptp i).last = some b ∧ b.2.2.2 = a.2 ∧
      (s.ptp i).delay = none ∧ (s.ptp i).due = false ∧ 0 ≤ roundAway ((b.2.1 - b.1 - b.2.2.1) + (ptpTime m 34 - a.1 - ptpCorr m)) 2) ∧
    (∃ (port : Fin 2) (l2 : Bool) (m : List Byte) (i : Nat) (a : Int × Nat) (b : Int × Int × Int × Nat) (s : State), i < 2 ∧
      s.ptpTakes i port.val l2 9 54 m = true ∧ s.ptpTakes (1 - i) port.val l2 9 54 m = false ∧ (s.ptp i).master = some (ptpSrc m) ∧
      (s.ptp i).req = some (ptpSeq m) ∧ beAt m 44 10 = ownPort port.val ∧ (s.ptp i).gone = some a ∧ (s.ptp i).last = some b ∧ b.2.2.2 = a.2 ∧
      roundAway ((b.2.1 - b.1 - b.2.2.1) + (ptpTime m 34 - a.1 - ptpCorr m)) 2 < 0) ∧
    (∃ (port : Fin 2) (l2 : Bool) (m : List Byte) (i : Nat) (a : Int × Nat) (b : Int × Int × Int × Nat) (s : State), i < 2 ∧
      s.ptpTakes i port.val l2 9 54 m = true ∧ s.ptpTakes (1 - i) port.val l2 9 54 m = false ∧ (s.ptp i).master = some (ptpSrc m) ∧
      (s.ptp i).req = some (ptpSeq m) ∧ beAt m 44 10 = ownPort port.val ∧ (s.ptp i).gone = some a ∧ (s.ptp i).last = some b ∧ b.2.2.2 ≠ a.2) ∧
    (∃ (port : Fin 2) (m : List Byte) (i : Nat) (s : State), i < 2 ∧ s.ptpTakes i port.val true 2 54 m = true ∧
      s.ptpTakes (1 - i) port.val true 2 54 m = false) ∧
    (∃ (port : Fin 2) (l2 : Bool) (m : List Byte) (i : Nat) (s : State), i < 2 ∧ s.ptpTakes i port.val l2 3 54 m = true ∧
      s.ptpTakes (1 - i) port.val l2 3 54 m = false ∧ (s.ptp i).req = some (ptpSeq m) ∧ beAt m 44 10 = ownPort port.val ∧
      (beAt m 6 1).testBit 1 = true) ∧
    (∃ (port : Fin 2) (l2 : Bool) (m : List Byte) (i : Nat) (x : Int × Nat × Int × Int) (a : Int × Nat) (s : State), i < 2 ∧
      s.ptpTakes i port.val l2 10 54 m = true ∧ s.ptpTakes (1 - i) port.val l2 10 54 m = false ∧ (s.ptp i).req = some (ptpSeq m) ∧
      beAt m 44 10 = ownPort port.val ∧ (s.ptp i).presp = some x ∧ (s.ptp i).gone = some a ∧ a.2 = x.2.1 ∧ (s.ptp i).delay = none ∧
      (s.ptp i).due = false ∧ 0 ≤ roundAway (x.1 - a.1 - (ptpTime m 34 - x.2.2.1) - (x.2.2.2 + ptpCorr m)) 2) :=
  ⟨⟨(0 : Fin 2), (true : Bool),
     (([0, 2, 0, 64, 0, 0, 2, 0] ++ List.replicate 8 0 ++ List.replicate 4 0 ++ be 10 9 ++ be 2 5 ++ [0, 0] ++ List.replicate 30 0) : List Byte),
     (0 : Nat), (let port : Fin 2 := 0; let l2 : Bool := true; let i : Nat := 0; let s : State := {}; (fun (s : State) =>
     s.setPtp i { master := some 9 }) (withTime ((fun (s : State) => s.wr (F.PTP_CFG_EN (1 - i)) (0)) ((fun (s : State) =>
     s.wr (F.PTP_CFG_PROFILE i) (if l2 then 1 else 0)) ((fun (s : State) => s.wr (F.PTP_CFG_DOMAIN i) (0)) ((fun (s : State) =>
     s.wr (F.PTP_CFG_PORT i) (port.val)) ((fun (s : State) => s.wr (F.PTP_CFG_EN i) (1)) (((((((
     (fun s : State =>
     ({ s with crown := { s.crown with phase := .complete } } : State)) s).wr F.CROWN_MODE_MODE (3)).wr F.CROWN_MODE_DORMANT (0)).wr (F.ETH_LINK_UP 0) (1)).wr (F.ETH_LINK_UP 1) (1)).wr (F.ETH_IPV4_ADDR 0) (7)).wr (F.ETH_IPV4_ADDR 1) (8)))))))) : State), by decide +kernel⟩,
   ⟨(0 : Fin 2), (true : Bool),
     (([0, 2, 0, 64, 0, 0, 0, 0] ++ List.replicate 8 0 ++ List.replicate 4 0 ++ be 10 9 ++ be 2 5 ++ [0, 0] ++ List.replicate 30 0) : List Byte),
     (0 : Nat), (let port : Fin 2 := 0; let l2 : Bool := true; let i : Nat := 0; let s : State := {}; (fun (s : State) =>
     s.wr (F.PTP_STATE_SERVO i) (1)) ((fun (s : State) => s.setPtp i { master := some 9 }) (withTime ((fun (s : State) =>
     s.wr (F.PTP_CFG_EN (1 - i)) (0)) ((fun (s : State) => s.wr (F.PTP_CFG_PROFILE i) (if l2 then 1 else 0)) ((fun (s : State) =>
     s.wr (F.PTP_CFG_DOMAIN i) (0)) ((fun (s : State) => s.wr (F.PTP_CFG_PORT i) (port.val)) ((fun (s : State) =>
     s.wr (F.PTP_CFG_EN i) (1)) (((((((
     (fun s : State =>
     ({ s with crown := { s.crown with phase := .complete } } : State)) s).wr F.CROWN_MODE_MODE (3)).wr F.CROWN_MODE_DORMANT (0)).wr (F.ETH_LINK_UP 0) (1)).wr (F.ETH_LINK_UP 1) (1)).wr (F.ETH_IPV4_ADDR 0) (7)).wr (F.ETH_IPV4_ADDR 1) (8))))))))) : State), by decide +kernel⟩,
   ⟨(0 : Fin 2), (true : Bool),
     (([8, 2, 0, 64, 0, 0, 0, 0] ++ List.replicate 8 0 ++ List.replicate 4 0 ++ be 10 9 ++ be 2 5 ++ [0, 0] ++ List.replicate 30 0) : List Byte),
     (0 : Nat), ((5, 100, 3) : Nat × Int × Int),
     (let port : Fin 2 := 0; let l2 : Bool := true; let i : Nat := 0; let s : State := {}; (fun (s : State) =>
     s.wr (F.PTP_STATE_SERVO i) (0)) ((fun (s : State) => s.setPtp i { master := some 9, sync := some (5, 100, 3) }) (withTime ((fun (s : State) =>
     s.wr (F.PTP_CFG_EN (1 - i)) (0)) ((fun (s : State) => s.wr (F.PTP_CFG_PROFILE i) (if l2 then 1 else 0)) ((fun (s : State) =>
     s.wr (F.PTP_CFG_DOMAIN i) (0)) ((fun (s : State) => s.wr (F.PTP_CFG_PORT i) (port.val)) ((fun (s : State) =>
     s.wr (F.PTP_CFG_EN i) (1)) (((((((
     (fun s : State =>
     ({ s with crown := { s.crown with phase := .complete } } : State)) s).wr F.CROWN_MODE_MODE (3)).wr F.CROWN_MODE_DORMANT (0)).wr (F.ETH_LINK_UP 0) (1)).wr (F.ETH_LINK_UP 1) (1)).wr (F.ETH_IPV4_ADDR 0) (7)).wr (F.ETH_IPV4_ADDR 1) (8))))))))) : State), by decide +kernel⟩,
   ⟨(0 : Fin 2), (true : Bool),
     (([8, 2, 0, 64, 0, 0, 0, 0] ++ List.replicate 8 0 ++ List.replicate 4 0 ++ be 10 9 ++ be 2 5 ++ [0, 0] ++ List.replicate 30 0) : List Byte),
     (0 : Nat), ((5, 100, 3) : Nat × Int × Int), (1000 : Int),
     (let port : Fin 2 := 0; let l2 : Bool := true; let i : Nat := 0; let s : State := {}; (fun (s : State) =>
     s.wr (F.PTP_STATE_SERVO i) (1)) ((fun (s : State) =>
     s.setPtp i { master := some 9, sync := some (5, 100, 3), acquired := true, delay := some 1000 }) (withTime ((fun (s : State) =>
     s.wr (F.PTP_CFG_EN (1 - i)) (0)) ((fun (s : State) => s.wr (F.PTP_CFG_PROFILE i) (if l2 then 1 else 0)) ((fun (s : State) =>
     s.wr (F.PTP_CFG_DOMAIN i) (0)) ((fun (s : State) => s.wr (F.PTP_CFG_PORT i) (port.val)) ((fun (s : State) =>
     s.wr (F.PTP_CFG_EN i) (1)) (((((((
     (fun s : State =>
     ({ s with crown := { s.crown with phase := .complete } } : State)) s).wr F.CROWN_MODE_MODE (3)).wr F.CROWN_MODE_DORMANT (0)).wr (F.ETH_LINK_UP 0) (1)).wr (F.ETH_LINK_UP 1) (1)).wr (F.ETH_IPV4_ADDR 0) (7)).wr (F.ETH_IPV4_ADDR 1) (8))))))))) : State), by decide +kernel⟩,
   ⟨(0 : Fin 2), (true : Bool),
     (let port : Fin 2 := 0; ([9, 2, 0, 64, 0, 0, 0, 0] ++ List.replicate 8 0 ++ List.replicate 4 0 ++ be 10 9 ++ be 2 5 ++ [0, 0] ++ (be 10 0 ++ be 10 (ownPort port.val))) : List Byte), (0 : Nat), ((1000, 0) : Int × Nat), ((0, 5000, 0, 0) : Int × Int × Int × Nat), (let port : Fin 2 := 0; let l2 : Bool := true; let i : Nat := 0; let s : State := {}; (fun (s : State) => s.setPtp i { master := some 9, req := some 5, gone := some (1000, 0), last := some (0, 5000, 0, 0) }) (withTime ((fun (s : State) => s.wr (F.PTP_CFG_EN (1 - i)) (0)) ((fun (s : State) => s.wr (F.PTP_CFG_PROFILE i) (if l2 then 1 else 0)) ((fun (s : State) => s.wr (F.PTP_CFG_DOMAIN i) (0)) ((fun (s : State) => s.wr (F.PTP_CFG_PORT i) (port.val)) ((fun (s : State) => s.wr (F.PTP_CFG_EN i) (1)) ((((((((fun s : State => ({ s with crown := { s.crown with phase := .complete } } : State)) s).wr F.CROWN_MODE_MODE (3)).wr F.CROWN_MODE_DORMANT (0)).wr (F.ETH_LINK_UP 0) (1)).wr (F.ETH_LINK_UP 1) (1)).wr (F.ETH_IPV4_ADDR 0) (7)).wr (F.ETH_IPV4_ADDR 1) (8)))))))) : State), ⟨by decide +kernel, by decide +kernel, by decide +kernel, by decide +kernel, by decide +kernel, beAt_ownPort _ _ rfl, by decide +kernel, by decide +kernel, by decide +kernel, by decide +kernel, by decide +kernel, by decide +kernel⟩⟩,
   ⟨(0 : Fin 2), (true : Bool),
     (let port : Fin 2 := 0; ([9, 2, 0, 64, 0, 0, 0, 0] ++ List.replicate 8 0 ++ List.replicate 4 0 ++ be 10 9 ++ be 2 5 ++ [0, 0] ++ (be 10 0 ++ be 10 (ownPort port.val))) : List Byte), (0 : Nat), ((4000000000000000000000000000, 0) : Int × Nat), ((0, -5000, 0, 0) : Int × Int × Int × Nat), (let port : Fin 2 := 0; let l2 : Bool := true; let i : Nat := 0; let s : State := {}; (fun (s : State) => s.setPtp i { master := some 9, req := some 5, gone := some (4000000000000000000000000000, 0), last := some (0, -5000, 0, 0) }) (withTime ((fun (s : State) => s.wr (F.PTP_CFG_EN (1 - i)) (0)) ((fun (s : State) => s.wr (F.PTP_CFG_PROFILE i) (if l2 then 1 else 0)) ((fun (s : State) => s.wr (F.PTP_CFG_DOMAIN i) (0)) ((fun (s : State) => s.wr (F.PTP_CFG_PORT i) (port.val)) ((fun (s : State) => s.wr (F.PTP_CFG_EN i) (1)) ((((((((fun s : State => ({ s with crown := { s.crown with phase := .complete } } : State)) s).wr F.CROWN_MODE_MODE (3)).wr F.CROWN_MODE_DORMANT (0)).wr (F.ETH_LINK_UP 0) (1)).wr (F.ETH_LINK_UP 1) (1)).wr (F.ETH_IPV4_ADDR 0) (7)).wr (F.ETH_IPV4_ADDR 1) (8)))))))) : State), ⟨by decide +kernel, by decide +kernel, by decide +kernel, by decide +kernel, by decide +kernel, beAt_ownPort _ _ rfl, by decide +kernel, by decide +kernel, by decide +kernel, by decide +kernel⟩⟩,
   ⟨(0 : Fin 2), (true : Bool),
     (let port : Fin 2 := 0; ([9, 2, 0, 64, 0, 0, 0, 0] ++ List.replicate 8 0 ++ List.replicate 4 0 ++ be 10 9 ++ be 2 5 ++ [0, 0] ++ (be 10 0 ++ be 10 (ownPort port.val))) : List Byte), (0 : Nat), ((1000, 3) : Int × Nat), ((0, 5000, 0, 0) : Int × Int × Int × Nat), (let port : Fin 2 := 0; let l2 : Bool := true; let i : Nat := 0; let s : State := {}; (fun (s : State) => s.setPtp i { master := some 9, req := some 5, gone := some (1000, 3), last := some (0, 5000, 0, 0) }) (withTime ((fun (s : State) => s.wr (F.PTP_CFG_EN (1 - i)) (0)) ((fun (s : State) => s.wr (F.PTP_CFG_PROFILE i) (if l2 then 1 else 0)) ((fun (s : State) => s.wr (F.PTP_CFG_DOMAIN i) (0)) ((fun (s : State) => s.wr (F.PTP_CFG_PORT i) (port.val)) ((fun (s : State) => s.wr (F.PTP_CFG_EN i) (1)) ((((((((fun s : State => ({ s with crown := { s.crown with phase := .complete } } : State)) s).wr F.CROWN_MODE_MODE (3)).wr F.CROWN_MODE_DORMANT (0)).wr (F.ETH_LINK_UP 0) (1)).wr (F.ETH_LINK_UP 1) (1)).wr (F.ETH_IPV4_ADDR 0) (7)).wr (F.ETH_IPV4_ADDR 1) (8)))))))) : State), ⟨by decide +kernel, by decide +kernel, by decide +kernel, by decide +kernel, by decide +kernel, beAt_ownPort _ _ rfl, by decide +kernel, by decide +kernel, by decide +kernel⟩⟩,
   ⟨(0 : Fin 2),
     (([2, 2, 0, 64, 0, 0, 0, 0] ++ List.replicate 8 0 ++ List.replicate 4 0 ++ be 10 9 ++ be 2 5 ++ [0, 0] ++ List.replicate 30 0) : List Byte),
     (0 : Nat), (let port : Fin 2 := 0; let i : Nat := 0; let s : State := {}; (fun (s : State) =>
     s.wr (F.PTP_CFG_PROFILE i) 1) (withTime ((fun (s : State) => s.wr (F.PTP_CFG_EN (1 - i)) (0)) ((fun (s : State) =>
     s.wr (F.PTP_CFG_DOMAIN i) (0)) ((fun (s : State) => s.wr (F.PTP_CFG_PORT i) (port.val)) ((fun (s : State) =>
     s.wr (F.PTP_CFG_EN i) (1)) (((((((
     (fun s : State =>
     ({ s with crown := { s.crown with phase := .complete } } : State)) s).wr F.CROWN_MODE_MODE (3)).wr F.CROWN_MODE_DORMANT (0)).wr (F.ETH_LINK_UP 0) (1)).wr (F.ETH_LINK_UP 1) (1)).wr (F.ETH_IPV4_ADDR 0) (7)).wr (F.ETH_IPV4_ADDR 1) (8))))))) : State), by decide +kernel⟩,
   ⟨(0 : Fin 2), (true : Bool),
     (let port : Fin 2 := 0; ([3, 2, 0, 64, 0, 0, 2, 0] ++ List.replicate 8 0 ++ List.replicate 4 0 ++ be 10 9 ++ be 2 5 ++ [0, 0] ++ (be 10 0 ++ be 10 (ownPort port.val))) : List Byte), (0 : Nat), (let port : Fin 2 := 0; let l2 : Bool := true; let i : Nat := 0; let s : State := {}; (fun (s : State) => s.setPtp i { req := some 5 }) (withTime ((fun (s : State) => s.wr (F.PTP_CFG_EN (1 - i)) (0)) ((fun (s : State) => s.wr (F.PTP_CFG_PROFILE i) (if l2 then 1 else 0)) ((fun (s : State) => s.wr (F.PTP_CFG_DOMAIN i) (0)) ((fun (s : State) => s.wr (F.PTP_CFG_PORT i) (port.val)) ((fun (s : State) => s.wr (F.PTP_CFG_EN i) (1)) ((((((((fun s : State => ({ s with crown := { s.crown with phase := .complete } } : State)) s).wr F.CROWN_MODE_MODE (3)).wr F.CROWN_MODE_DORMANT (0)).wr (F.ETH_LINK_UP 0) (1)).wr (F.ETH_LINK_UP 1) (1)).wr (F.ETH_IPV4_ADDR 0) (7)).wr (F.ETH_IPV4_ADDR 1) (8)))))))) : State), ⟨by decide +kernel, by decide +kernel, by decide +kernel, by decide +kernel, beAt_ownPort _ _ rfl, by decide +kernel⟩⟩,
   ⟨(0 : Fin 2), (true : Bool),
     (let port : Fin 2 := 0; ([10, 2, 0, 64, 0, 0, 0, 0] ++ List.replicate 8 0 ++ List.replicate 4 0 ++ be 10 9 ++ be 2 5 ++ [0, 0] ++ (be 10 0 ++ be 10 (ownPort port.val))) : List Byte), (0 : Nat), ((9000, 0, 0, 0) : Int × Nat × Int × Int), ((1000, 0) : Int × Nat), (let port : Fin 2 := 0; let l2 : Bool := true; let i : Nat := 0; let s : State := {}; (fun (s : State) => s.setPtp i { req := some 5, presp := some (9000, 0, 0, 0), gone := some (1000, 0) }) (withTime ((fun (s : State) => s.wr (F.PTP_CFG_EN (1 - i)) (0)) ((fun (s : State) => s.wr (F.PTP_CFG_PROFILE i) (if l2 then 1 else 0)) ((fun (s : State) => s.wr (F.PTP_CFG_DOMAIN i) (0)) ((fun (s : State) => s.wr (F.PTP_CFG_PORT i) (port.val)) ((fun (s : State) => s.wr (F.PTP_CFG_EN i) (1)) ((((((((fun s : State => ({ s with crown := { s.crown with phase := .complete } } : State)) s).wr F.CROWN_MODE_MODE (3)).wr F.CROWN_MODE_DORMANT (0)).wr (F.ETH_LINK_UP 0) (1)).wr (F.ETH_LINK_UP 1) (1)).wr (F.ETH_IPV4_ADDR 0) (7)).wr (F.ETH_IPV4_ADDR 1) (8)))))))) : State), ⟨by decide +kernel, by decide +kernel, by decide +kernel, by decide +kernel, beAt_ownPort _ _ rfl, by decide +kernel, by decide +kernel, by decide +kernel, by decide +kernel, by decide +kernel, by decide +kernel⟩⟩⟩

theorem witness_PtpCourse :
    (∃ (port : Fin 2) (l2 : Bool) (m : List Byte) (i : Nat) (s : State), i < 2 ∧ s.ptpTakes i port.val l2 11 64 m = true ∧
      s.ptpTakes (1 - i) port.val l2 11 64 m = false ∧ beAt m 61 2 < 255 ∧ ptpSrc m ≠ ownPort (s.rd (F.PTP_CFG_PORT i)) ∧
      s.acceptable i (ptpSrc m) = true ∧ (s.ptp i).foreign = []) ∧
    (∃ (port : Fin 2) (l2 : Bool) (m : List Byte) (i : Nat) (f : Foreign) (s : State), i < 2 ∧ s.ptpTakes i port.val l2 11 64 m = true ∧
      s.ptpTakes (1 - i) port.val l2 11 64 m = false ∧ beAt m 61 2 < 255 ∧ ptpSrc m ≠ ownPort (s.rd (F.PTP_CFG_PORT i)) ∧
      s.acceptable i (ptpSrc m) = true ∧ (s.ptp i).foreign = [f] ∧ f.src = ptpSrc m ∧ (foreignOf m s.mono (some f.last)).qualified = true ∧
      s.servo i = 0) ∧
    (∃ (i : Fin 2) (s : State), s.on (F.PTP_CFG_EN i.val) = true ∧ s.on (F.PTP_CFG_PROFILE i.val) = false ∧
      s.ptpUp (s.rd (F.PTP_CFG_PORT i.val)) false = true ∧ (s.ptp i.val).master ≠ none) ∧
    (∃ (i : Fin 2) (s : State), s.on (F.PTP_CFG_EN i.val) = true ∧ s.on (F.PTP_CFG_PROFILE i.val) = true ∧
      s.ptpUp (s.rd (F.PTP_CFG_PORT i.val)) true = true) ∧
    (∃ (i : Fin 2) (s : State), s.on (F.PTP_CFG_EN i.val) = true) ∧
    (∃ (i : Fin 2) (s : State), s.on (F.PTP_CFG_EN i.val) = true ∧ s.servo i.val = 2) ∧
    (∃ (port i : Fin 2) (id : BitVec 16) (s : State), s.ptpUp port.val true = true ∧ (s.txq port.val).length < 16 ∧
      (s.ptp i.val).req = some id.toNat ∧ (s.ptp i.val).gone = none ∧ (s.ptp i.val).resp = none ∧ s.on (F.PTP_CFG_PROFILE i.val) = false) ∧
    (∃ (port i : Fin 2) (s : State), s.ptpUp port.val true = true ∧ (s.txq port.val).length < 16 ∧ (s.ptp i.val).req = none) ∧
    (∃ (port i : Fin 2) (s : State), s.ptpUp port.val true = true ∧ 16 ≤ (s.txq port.val).length ∧ (s.ptp i.val).req = none) ∧
    (∃ (port : Fin 2) (x : TxStamp) (l : List TxStamp) (s : State), s.txq port.val = x :: l ∧ l.length < 32) :=
  ⟨⟨(0 : Fin 2), (true : Bool),
     (([11, 2, 0, 64, 0, 0, 0, 0] ++ List.replicate 8 0 ++ List.replicate 4 0 ++ be 10 9 ++ be 2 5 ++ [0, 0] ++ (List.replicate 13 0 ++ [128, 6, 33] ++ be 2 7 ++ [128] ++ be 8 99 ++ be 2 1 ++ [0x20])) : List Byte), (0 : Nat), (let port : Fin 2 := 0; let l2 : Bool := true; let i : Nat := 0; let s : State := {}; (fun (s : State) => s.wr (F.PTP_CFG_AMT_EN i) (0)) ((fun (s : State) => s.setPtp i {  }) (withTime ((fun (s : State) => s.wr (F.PTP_CFG_EN (1 - i)) (0)) ((fun (s : State) => s.wr (F.PTP_CFG_PROFILE i) (if l2 then 1 else 0)) ((fun (s : State) => s.wr (F.PTP_CFG_DOMAIN i) (0)) ((fun (s : State) => s.wr (F.PTP_CFG_PORT i) (port.val)) ((fun (s : State) => s.wr (F.PTP_CFG_EN i) (1)) ((((((((fun s : State => ({ s with crown := { s.crown with phase := .complete } } : State)) s).wr F.CROWN_MODE_MODE (3)).wr F.CROWN_MODE_DORMANT (0)).wr (F.ETH_LINK_UP 0) (1)).wr (F.ETH_LINK_UP 1) (1)).wr (F.ETH_IPV4_ADDR 0) (7)).wr (F.ETH_IPV4_ADDR 1) (8))))))))) : State), ⟨by decide +kernel, by decide +kernel, by decide +kernel, by decide +kernel, ne_ownPort _ _ (by decide +kernel), by decide +kernel, by decide +kernel⟩⟩,
   ⟨(0 : Fin 2), (true : Bool),
     (([11, 2, 0, 64, 0, 0, 0, 0] ++ List.replicate 8 0 ++ List.replicate 4 0 ++ be 10 9 ++ be 2 5 ++ [0, 0] ++ (List.replicate 13 0 ++ [128, 6, 33] ++ be 2 7 ++ [128] ++ be 8 99 ++ be 2 1 ++ [0x20])) : List Byte), (0 : Nat), ({ src := 9, set := [128, 6, 33, 7, 128, 99], steps := 1, interval := 0, last := 1999999000, before := none, utc := 37, flags := 0 } : Foreign), (let port : Fin 2 := 0; let l2 : Bool := true; let i : Nat := 0; let s : State := {}; (fun (s : State) => s.wr (F.PTP_STATE_SERVO i) (0)) ((fun (s : State) => s.wr (F.PTP_CFG_AMT_EN i) (0)) ((fun (s : State) => s.setPtp i { foreign := [{ src := 9, set := [128, 6, 33, 7, 128, 99], steps := 1, interval := 0, last := 1999999000, before := none, utc := 37, flags := 0 }] }) (withTime ((fun (s : State) => s.wr (F.PTP_CFG_EN (1 - i)) (0)) ((fun (s : State) => s.wr (F.PTP_CFG_PROFILE i) (if l2 then 1 else 0)) ((fun (s : State) => s.wr (F.PTP_CFG_DOMAIN i) (0)) ((fun (s : State) => s.wr (F.PTP_CFG_PORT i) (port.val)) ((fun (s : State) => s.wr (F.PTP_CFG_EN i) (1)) ((((((((fun s : State => ({ s with crown := { s.crown with phase := .complete } } : State)) s).wr F.CROWN_MODE_MODE (3)).wr F.CROWN_MODE_DORMANT (0)).wr (F.ETH_LINK_UP 0) (1)).wr (F.ETH_LINK_UP 1) (1)).wr (F.ETH_IPV4_ADDR 0) (7)).wr (F.ETH_IPV4_ADDR 1) (8)))))))))) : State), ⟨by decide +kernel, by decide +kernel, by decide +kernel, by decide +kernel, ne_ownPort _ _ (by decide +kernel), by decide +kernel, by decide +kernel, by decide +kernel, by decide +kernel, by decide +kernel⟩⟩,
   ⟨(0 : Fin 2), (let i : Fin 2 := 0; let s : State := {}; (fun (s : State) => s.setPtp i.val { master := some 9 }) ((fun (s : State) =>
     (s.wr (F.PTP_CFG_EN i.val) 1).wr (F.PTP_CFG_PROFILE i.val) 0) (((((((
     (fun s : State =>
     ({ s with crown := { s.crown with phase := .complete } } : State)) s).wr F.CROWN_MODE_MODE (3)).wr F.CROWN_MODE_DORMANT (0)).wr (F.ETH_LINK_UP 0) (1)).wr (F.ETH_LINK_UP 1) (1)).wr (F.ETH_IPV4_ADDR 0) (7)).wr (F.ETH_IPV4_ADDR 1) (8))) : State), by decide +kernel⟩,
   ⟨(0 : Fin 2), (let i : Fin 2 := 0; let s : State := {}; (fun (s : State) =>
     (s.wr (F.PTP_CFG_EN i.val) 1).wr (F.PTP_CFG_PROFILE i.val) 1) (((((((
     (fun s : State =>
     ({ s with crown := { s.crown with phase := .complete } } : State)) s).wr F.CROWN_MODE_MODE (3)).wr F.CROWN_MODE_DORMANT (0)).wr (F.ETH_LINK_UP 0) (1)).wr (F.ETH_LINK_UP 1) (1)).wr (F.ETH_IPV4_ADDR 0) (7)).wr (F.ETH_IPV4_ADDR 1) (8)) : State), by decide +kernel⟩,
   ⟨(0 : Fin 2), (let i : Fin 2 := 0; let s : State := {}; (fun (s : State) =>
     (s.wr (F.PTP_CFG_EN i.val) 1).wr (F.PTP_STATE_SERVO i.val) 2) (s) : State), by decide +kernel⟩,
   ⟨(0 : Fin 2), (let i : Fin 2 := 0; let s : State := {}; (fun (s : State) =>
     (s.wr (F.PTP_CFG_EN i.val) 1).wr (F.PTP_STATE_SERVO i.val) 2) (s) : State), by decide +kernel⟩,
   ⟨(0 : Fin 2), (0 : Fin 2), (0 : BitVec 16), (let i : Fin 2 := 0; let id : BitVec 16 := 0; let s : State := {}; (fun (s : State) =>
     (s.wr (F.PTP_CFG_PROFILE i.val) 0).setPtp i.val { req := some id.toNat }) (withTime (
     (fun s : State => ({ s with time := { s.time with txq := [] } } : State)) (((((((
     (fun s : State =>
     ({ s with crown := { s.crown with phase := .complete } } : State)) s).wr F.CROWN_MODE_MODE (3)).wr F.CROWN_MODE_DORMANT (0)).wr (F.ETH_LINK_UP 0) (1)).wr (F.ETH_LINK_UP 1) (1)).wr (F.ETH_IPV4_ADDR 0) (7)).wr (F.ETH_IPV4_ADDR 1) (8)))) : State), by decide +kernel⟩,
   ⟨(0 : Fin 2), (0 : Fin 2), (let i : Fin 2 := 0; let s : State := {}; (fun (s : State) => s.setPtp i.val {}) (withTime (
     (fun s : State => ({ s with time := { s.time with txq := [] } } : State)) (((((((
     (fun s : State =>
     ({ s with crown := { s.crown with phase := .complete } } : State)) s).wr F.CROWN_MODE_MODE (3)).wr F.CROWN_MODE_DORMANT (0)).wr (F.ETH_LINK_UP 0) (1)).wr (F.ETH_LINK_UP 1) (1)).wr (F.ETH_IPV4_ADDR 0) (7)).wr (F.ETH_IPV4_ADDR 1) (8)))) : State), by decide +kernel⟩,
   ⟨(0 : Fin 2), (0 : Fin 2), (let port : Fin 2 := 0; let i : Fin 2 := 0; let id : BitVec 16 := 0; let s : State := {}; (fun (s : State) =>
     s.setPtp i.val {}) (
     (fun s : State =>
     ({ s with time := { s.time with txq := [(port.val, List.replicate 16 { kind := 1, inst := 0, id := 3, time := {} })] } } : State)) ((((((((fun s : State => ({ s with crown := { s.crown with phase := .complete } } : State)) s).wr F.CROWN_MODE_MODE (3)).wr F.CROWN_MODE_DORMANT (0)).wr (F.ETH_LINK_UP 0) (1)).wr (F.ETH_LINK_UP 1) (1)).wr (F.ETH_IPV4_ADDR 0) (7)).wr (F.ETH_IPV4_ADDR 1) (8))) : State), by decide +kernel⟩,
   ⟨(0 : Fin 2), ({ kind := 1, inst := 0, id := 3, time := {} } : TxStamp), ([] : List TxStamp),
     (let port : Fin 2 := 0; let s : State := {}; (fun s : State =>
     ({ s with time := { s.time with txq := [(port.val, [{ kind := 1, inst := 0, id := 3, time := {} }])] } } : State)) (s) : State),
     by decide +kernel⟩⟩

theorem witness_CanChannels :
    (∃ (ch : Fin 4) (f : CanFrame) (s : State), s.canListens ch.val = true ∧ s.canFilter ch.val f = none) ∧
    (∃ (ch : Fin 4) (f : CanFrame) (k : Nat) (s : State), s.canListens ch.val = true ∧ (f.fdf = true → s.on (F.CAN_CFG_FD_EN ch.val) = true) ∧
      s.canFilter ch.val f = some k ∧ (s.ring (rxRing ch.val)).entries = [] ∧ 1 ≤ s.rd (F.QUEUE_QCFG_SIZE_KIB (4 + ch.val))) ∧
    (∃ (ch : Fin 4) (f : CanFrame) (k : Nat) (s : State), s.canListens ch.val = true ∧ (f.fdf = true → s.on (F.CAN_CFG_FD_EN ch.val) = true) ∧
      s.canFilter ch.val f = some k ∧
      (s.rd (F.QUEUE_QCFG_SIZE_KIB (4 + ch.val)) * 1024 < entryBytes ((s.ring (rxRing ch.val)).entries.dropWhile fun x =>
      s.released (rxRing ch.val) x))) ∧
    (∃ (who : Initiator) (ch : Fin 4) (s : State), s.barred who (A.CAN_CMD ch.val) true = 0 ∧ s.canSends ch.val = true ∧
      s.rd (F.CAN_TXCTL_LEN ch.val) ≤ 8 ∧ s.on (F.CAN_TXCTL_FDF ch.val) = false ∧ s.on (F.CAN_TXCTL_BRS ch.val) = false ∧
      (s.ring (txRing ch.val)).entries = [] ∧ 1 ≤ s.rd (F.QUEUE_QCFG_SIZE_KIB (8 + ch.val))) ∧
    (∃ (who : Initiator) (ch : Fin 4) (s : State), s.barred who (A.CAN_CMD ch.val) true = 0 ∧
      (lenDlc (s.on (F.CAN_TXCTL_FDF ch.val)) (s.rd (F.CAN_TXCTL_LEN ch.val)) = none ∨ s.canSends ch.val = false)) ∧
    (∃ (who : Initiator) (ch : Fin 4) (s : State), s.barred who (A.CAN_CMD ch.val) true = 0) ∧
    (∃ (ch : Fin 4) (x : Entry) (s : State), s.canListens ch.val = true ∧ s.canSends ch.val = true ∧ (s.ring (txRing ch.val)).entries = [x] ∧
      x.used = false ∧ (beAt x.bytes 4 1).testBit 7 = false) ∧
    (∃ (ch k : Fin 4) (x : Entry) (s : State), s.portsLive = true ∧ (s.canArb ch.val)[k.val]? = some x ∧ s.rd (F.CAN_CFG_TX_TMO ch.val) ≠ 0) ∧
    (∃ (ch : Fin 4) (s : State), s.canListens ch.val = true) ∧
    (∃ (ch : Fin 4) (s : State), s.canListens ch.val = true ∧ s.canRestricted ch.val = false ∧ (s.canCh ch.val).failed = false) ∧
    (∃ (ch : Fin 4) (s : State), s.canListens ch.val = true ∧ s.canRestricted ch.val = false ∧ (s.canCh ch.val).failed = true) ∧
    (∃ (who : Initiator) (ch : Fin 4) (s : State), s.barred who (A.CAN_CMD ch.val) true = 0 ∧ s.rd (F.CAN_STATUS_STATE ch.val) = 2) ∧
    (∃ (ch : Fin 4) (s : State), s.rd (F.CAN_STATUS_STATE ch.val) = 2 ∧ (s.canCh ch.val).recovering = true) ∧
    (∃ (s : State), s.portsLive = true) :=
  ⟨⟨(0 : Fin 4), ({ id := 1 } : CanFrame), (let ch : Fin 4 := 0; let s : State := {}; ((fun (s : State) => (List.range 16).foldl (fun s k =>
     s.wr (F.CAN_FLT_0_EN ch.val k) 0) s) ((((fun (s : State) => s.wr (F.CAN_STATUS_STATE ch.val) (0)) ((fun (s : State) =>
     s.wr (F.CAN_CFG_SLEEP_EN ch.val) (0)) ((fun (s : State) => s.wr (F.CAN_CFG_ROM ch.val) (0)) ((fun (s : State) =>
     s.wr (F.CAN_CFG_EN ch.val) (1)) s)))).wr F.CROWN_MODE_MODE (3)).wr F.PAIR_STATUS_ROLE (0))).wr F.DISP_CAN_CH (0) : State), by decide +kernel⟩,
   ⟨(0 : Fin 4), ({ id := 1 } : CanFrame), (0 : Nat), (let ch : Fin 4 := 0; let s : State := {}; (fun (s : State) =>
     ((s.wr (F.CAN_FLT_0_EN ch.val 0) 1).wr (F.CAN_FLT_0_IDE ch.val 0) 0).wr (F.CAN_FLT_4_MASK ch.val 0) 0) (
     (fun s : State => ({ s with eng := { s.eng with rings := [] } } : State)) ((fun (s : State) =>
     (s.wr (F.QUEUE_QCFG_SIZE_KIB (4 + ch.val)) 4).wr (F.QUEUE_QCFG_SIZE_KIB (8 + ch.val)) 4) ((((fun (s : State) =>
     s.wr (F.CAN_STATUS_STATE ch.val) (0)) ((fun (s : State) => s.wr (F.CAN_CFG_SLEEP_EN ch.val) (0)) ((fun (s : State) =>
     s.wr (F.CAN_CFG_ROM ch.val) (0)) ((fun (s : State) =>
     s.wr (F.CAN_CFG_EN ch.val) (1)) s)))).wr F.CROWN_MODE_MODE (3)).wr F.PAIR_STATUS_ROLE (0)))) : State), by decide +kernel⟩,
   ⟨(0 : Fin 4), ({ id := 1 } : CanFrame), (0 : Nat), (let ch : Fin 4 := 0; let s : State := {}; (fun (s : State) =>
     ((s.wr (F.CAN_FLT_0_EN ch.val 0) 1).wr (F.CAN_FLT_0_IDE ch.val 0) 0).wr (F.CAN_FLT_4_MASK ch.val 0) 0) ((fun (s : State) =>
     s.setRing (rxRing ch.val) { entries := [{ eseq := 3, bytes := txEntry 5 false false false false 1 [7], used := false, popped := false }], next := 4 }) ((fun (s : State) => s.wr (F.QUEUE_QCFG_SIZE_KIB (4 + ch.val)) 0) ((((fun (s : State) => s.wr (F.CAN_STATUS_STATE ch.val) (0)) ((fun (s : State) => s.wr (F.CAN_CFG_SLEEP_EN ch.val) (0)) ((fun (s : State) => s.wr (F.CAN_CFG_ROM ch.val) (0)) ((fun (s : State) => s.wr (F.CAN_CFG_EN ch.val) (1)) s)))).wr F.CROWN_MODE_MODE (3)).wr F.PAIR_STATUS_ROLE (0)))) : State), by decide +kernel⟩,
   ⟨(.service : Initiator), (0 : Fin 4), (let ch : Fin 4 := 0; let s : State := {}; (fun s : State =>
     ({ s with eng := { s.eng with rings := [] } } : State)) ((fun (s : State) => s.wr (F.CAN_TXCTL_BRS ch.val) (0)) ((fun (s : State) =>
     s.wr (F.CAN_TXCTL_FDF ch.val) (0)) ((fun (s : State) => s.wr (F.CAN_TXCTL_LEN ch.val) (5)) ((fun (s : State) =>
     (s.wr (F.QUEUE_QCFG_SIZE_KIB (4 + ch.val)) 4).wr (F.QUEUE_QCFG_SIZE_KIB (8 + ch.val)) 4) ((((fun (s : State) =>
     s.wr (F.CAN_STATUS_STATE ch.val) (0)) ((fun (s : State) => s.wr (F.CAN_CFG_SLEEP_EN ch.val) (0)) ((fun (s : State) =>
     s.wr (F.CAN_CFG_ROM ch.val) (0)) ((fun (s : State) =>
     s.wr (F.CAN_CFG_EN ch.val) (1)) s)))).wr F.CROWN_MODE_MODE (3)).wr F.PAIR_STATUS_ROLE (0)))))) : State), by decide +kernel⟩,
   ⟨(.service : Initiator), (0 : Fin 4), (let ch : Fin 4 := 0; let s : State := {}; (fun (s : State) => s.wr (F.CAN_TXCTL_LEN ch.val) (9)) (s) : State),
     by decide +kernel⟩,
   ⟨(.service : Initiator), (0 : Fin 4), (let ch : Fin 4 := 0; let s : State := {}; (fun (s : State) =>
     s.setRing (txRing ch.val) { entries := [{ eseq := 3, bytes := txEntry 5 false false false false 1 [7], used := false, popped := false }], next := 4 }) (s) : State), by decide +kernel⟩,
   ⟨(0 : Fin 4), ({ eseq := 3, bytes := txEntry 5 false false false false 1 [7], used := false, popped := false } : Entry),
     (let ch : Fin 4 := 0; let s : State := {}; (fun (s : State) =>
     s.setRing (txRing ch.val) { entries := [{ eseq := 3, bytes := txEntry 5 false false false false 1 [7], used := false, popped := false }], next := 4 }) ((((fun (s : State) => s.wr (F.CAN_STATUS_STATE ch.val) (0)) ((fun (s : State) => s.wr (F.CAN_CFG_SLEEP_EN ch.val) (0)) ((fun (s : State) => s.wr (F.CAN_CFG_ROM ch.val) (0)) ((fun (s : State) => s.wr (F.CAN_CFG_EN ch.val) (1)) s)))).wr F.CROWN_MODE_MODE (3)).wr F.PAIR_STATUS_ROLE (0)) : State), by decide +kernel⟩,
   ⟨(0 : Fin 4), (0 : Fin 4), ({ eseq := 3, bytes := txEntry 5 false false false false 1 [7], used := false, popped := false } : Entry),
     (let ch : Fin 4 := 0; let s : State := {}; (fun (s : State) => s.wr (F.CAN_CFG_TX_TMO ch.val) (7)) ((fun (s : State) =>
     s.setRing (txRing ch.val) { entries := [{ eseq := 3, bytes := txEntry 5 false false false false 1 [7], used := false, popped := false }], next := 4 }) ((((fun s : State => ({ s with crown := { s.crown with phase := .complete } } : State)) s).wr F.CROWN_MODE_MODE (3)).wr F.CROWN_MODE_DORMANT (0))) : State), by decide +kernel⟩,
   ⟨(0 : Fin 4), (let ch : Fin 4 := 0; let s : State := {}; (((fun (s : State) => s.wr (F.CAN_STATUS_STATE ch.val) (0)) ((fun (s : State) =>
     s.wr (F.CAN_CFG_SLEEP_EN ch.val) (0)) ((fun (s : State) => s.wr (F.CAN_CFG_ROM ch.val) (0)) ((fun (s : State) =>
     s.wr (F.CAN_CFG_EN ch.val) (1)) s)))).wr F.CROWN_MODE_MODE (3)).wr F.PAIR_STATUS_ROLE (0) : State), by decide +kernel⟩,
   ⟨(0 : Fin 4), (let ch : Fin 4 := 0; let s : State := {}; (fun s : State =>
     ({ s with can := { s.can with ch := [] } } : State)) ((((fun (s : State) => s.wr (F.CAN_STATUS_STATE ch.val) (0)) ((fun (s : State) =>
     s.wr (F.CAN_CFG_SLEEP_EN ch.val) (0)) ((fun (s : State) => s.wr (F.CAN_CFG_ROM ch.val) (0)) ((fun (s : State) =>
     s.wr (F.CAN_CFG_EN ch.val) (1)) s)))).wr F.CROWN_MODE_MODE (3)).wr F.PAIR_STATUS_ROLE (0)) : State), by decide +kernel⟩,
   ⟨(0 : Fin 4), (let ch : Fin 4 := 0; let s : State := {}; (fun s : State =>
     ({ s with can := { s.can with ch := [(ch.val, { failed := true })] } } : State)) ((((fun (s : State) =>
     s.wr (F.CAN_STATUS_STATE ch.val) (0)) ((fun (s : State) => s.wr (F.CAN_CFG_SLEEP_EN ch.val) (0)) ((fun (s : State) =>
     s.wr (F.CAN_CFG_ROM ch.val) (0)) ((fun (s : State) =>
     s.wr (F.CAN_CFG_EN ch.val) (1)) s)))).wr F.CROWN_MODE_MODE (3)).wr F.PAIR_STATUS_ROLE (0)) : State), by decide +kernel⟩,
   ⟨(.service : Initiator), (0 : Fin 4), (let ch : Fin 4 := 0; let s : State := {}; (fun (s : State) =>
     s.wr (F.CAN_STATUS_STATE ch.val) (2)) (s) : State), by decide +kernel⟩,
   ⟨(0 : Fin 4), (let ch : Fin 4 := 0; let s : State := {}; (fun s : State =>
     ({ s with can := { s.can with ch := [(ch.val, { recovering := true })] } } : State)) ((fun (s : State) =>
     s.wr (F.CAN_STATUS_STATE ch.val) (2)) s) : State), by decide +kernel⟩,
   ⟨(let s : State := {}; withTime (((
     (fun s : State =>
     ({ s with crown := { s.crown with phase := .complete } } : State)) s).wr F.CROWN_MODE_MODE (3)).wr F.CROWN_MODE_DORMANT (0)) : State),
     by decide +kernel⟩⟩

theorem witness_Almanac :
    (∃ (x : Sub) (l : List Sub) (s : State), s.q91 = x :: l ∧ s.makeRoom x = some []) ∧
    (∃ (x : Sub) (l : List Sub) (s : State), s.q91 = x :: l ∧ s.makeRoom x = none ∧ x.sev < 8) ∧
    (∃ (r : AlmRec) (l : List AlmRec) (s : State), s.toMigrate = r :: l ∧ s.almPaused = false ∧ s.alm.written + r.bytes.length ≤ 16646144) ∧
    (∃ (r : AlmRec) (l : List AlmRec) (s : State), s.toMigrate = r :: l ∧ s.almPaused = false ∧ s.alm.written + r.bytes.length ≤ 16646144 ∧
      r.fails = 0) ∧
    (∃ (r : AlmRec) (l : List AlmRec) (s : State), s.toMigrate = r :: l ∧ s.almPaused = false ∧ s.alm.written + r.bytes.length ≤ 16646144 ∧
      r.fails = 1) ∧
    (∃ (x : AlmSector) (s : State), ((s.alm.sectors.find? fun y => decide (y.dead > 0) && !y.retired) = some x) ∧ s.almPaused = false) ∧
    (∃ (who : Initiator) (s : State), s.barred who A.EVREC_CMD true = 0) ∧
    (∃ (who : Initiator) (hi : Word) (r : AlmRec) (s : State), s.barred who A.EVREC_RSEQ_HI true = 0 ∧
      (s.alm.recs.find? (·.seq == s.rd (F.EVREC_RSEQ_LO_SEQ.bank who.id) + 2 ^ 32 * hi.toNat)) = some r) ∧
    (∃ (who : Initiator) (s : State), s.barred who A.EVREC_RSEQ_HI true = 0 ∧ s.alm.recs = []) :=
  ⟨⟨({ sev := 3, source := 0x10, ev := .policyChange, secure := true, shadow := false, nosync := true, sameEngine := false, sec := 5, ns := 6, data := [] } : Sub), ([] : List Sub), (let s : State := {}; (fun s : State => ({ s with q91 := [{ sev := 3, source := 0x10, ev := .policyChange, secure := true, shadow := false, nosync := true, sameEngine := false, sec := 5, ns := 6, data := [] }] } : State)) (s) : State), by decide +kernel⟩,
   ⟨({ sev := 3, source := 0x10, ev := .eccUe, secure := true, shadow := false, nosync := true, sameEngine := false, sec := 5, ns := 6, data := [] } : Sub), ([] : List Sub), (let s : State := {}; (fun s : State => ({ s with alm := { s.alm with sectors := List.replicate 254 { id := 0, retired := true } } } : State)) ((fun s : State => ({ s with alm := { s.alm with recs := [] } } : State)) ((fun s : State => ({ s with q91 := [{ sev := 3, source := 0x10, ev := .eccUe, secure := true, shadow := false, nosync := true, sameEngine := false, sec := 5, ns := 6, data := [] }] } : State)) s)) : State), by decide +kernel⟩,
   ⟨({ seq := 4, bytes := List.replicate 44 0, sev := 3 } : AlmRec), ([] : List AlmRec), (let s : State := {}; (fun s : State =>
     ({ s with alm := { s.alm with recs := [{ seq := 4, bytes := List.replicate 44 0, sev := 3 }] } } : State)) (((s.wr F.SUPPLY_STATUS_VAUX_OK (1)).wr F.THERM_STATUS_NOR_OK (1)).wr F.CROWN_MODE_MODE (1)) : State), by decide +kernel⟩,
   ⟨({ seq := 4, bytes := List.replicate 44 0, sev := 3 } : AlmRec), ([] : List AlmRec), (let s : State := {}; (fun s : State =>
     ({ s with alm := { s.alm with recs := [{ seq := 4, bytes := List.replicate 44 0, sev := 3 }] } } : State)) (((s.wr F.SUPPLY_STATUS_VAUX_OK (1)).wr F.THERM_STATUS_NOR_OK (1)).wr F.CROWN_MODE_MODE (1)) : State), by decide +kernel⟩,
   ⟨({ seq := 4, bytes := List.replicate 44 0, sev := 3, fails := 1 } : AlmRec), ([] : List AlmRec), (let s : State := {}; (fun (s : State) =>
     (s.wr (pageFld 0x60 0x018 0 4) 0).wr (pageFld 0x61 0x018 0 4) 0) (
     (fun s : State =>
     ({ s with alm := { s.alm with recs := [{ seq := 4, bytes := List.replicate 44 0, sev := 3, fails := 1 }] } } : State)) (((s.wr F.SUPPLY_STATUS_VAUX_OK (1)).wr F.THERM_STATUS_NOR_OK (1)).wr F.CROWN_MODE_MODE (1))) : State), by decide +kernel⟩,
   ⟨({ id := 0, written := 500, dead := 88 } : AlmSector), (let s : State := {}; (fun s : State =>
     ({ s with alm := { s.alm with sectors := [{ id := 0, written := 500, dead := 88 }] } } : State)) (((s.wr F.SUPPLY_STATUS_VAUX_OK (1)).wr F.THERM_STATUS_NOR_OK (1)).wr F.CROWN_MODE_MODE (1)) : State), by decide +kernel⟩,
   ⟨(.service : Initiator), (let s : State := {}; (fun s : State =>
     ({ s with alm := { s.alm with recs := [{ seq := 4, bytes := List.replicate 44 0, sev := 3 }] } } : State)) (s) : State), by decide +kernel⟩,
   ⟨(.service : Initiator), (0 : Word), ({ seq := 4, bytes := List.replicate 44 0, sev := 3 } : AlmRec),
     (let who : Initiator := .service; let s : State := {}; (fun (s : State) => s.wr (F.EVREC_RSEQ_LO_SEQ.bank who.id) 4) (
     (fun s : State => ({ s with alm := { s.alm with recs := [{ seq := 4, bytes := List.replicate 44 0, sev := 3 }] } } : State)) s) : State),
     by decide +kernel⟩,
   ⟨(.service : Initiator), (let s : State := {}; (fun s : State => ({ s with alm := { s.alm with recs := [] } } : State)) (s) : State),
     by decide +kernel⟩⟩

theorem witness_UpdateTransfer :
    (∃ (who : Initiator) (s : State), s.barred who A.UPDATE_CMD true = 0 ∧ s.notOwner who = false ∧ s.rd F.UPDATE_STATUS_TRIAL = 0 ∧
      s.nvm.armed = 0 ∧ s.nvm.actWait = false ∧ s.nvm.boot.pendingSlot = none ∧ s.transferMode = true) ∧
    (∃ (who : Initiator) (s : State), s.barred who A.UPDATE_CMD true = 0 ∧ s.notOwner who = false ∧ s.rd F.UPDATE_STATUS_STATE = 1 ∧
      s.transferMode = true ∧ s.rd F.UPDATE_ADDR_INDEX = 0 ∧ 1 ≤ hdrBlocks (s.image s.otherSlot).header ∧
      hdrBlocks (s.image s.otherSlot).header ≤ 256 ∧ (s.image s.otherSlot).table = [] ∧ s.nvm.chunks = []) ∧
    (∃ (who : Initiator) (s : State), s.barred who A.UPDATE_CMD true = 0 ∧ s.notOwner who = false ∧ s.rd F.UPDATE_STATUS_STATE = 1 ∧
      s.transferMode = true ∧ s.rd F.UPDATE_ADDR_INDEX = 0 ∧ 257 ≤ hdrBlocks (s.image s.otherSlot).header ∧ s.nvm.chunks = []) ∧
    (∃ (who : Initiator) (s : State), s.barred who A.UPDATE_CMD true = 0 ∧ s.notOwner who = false ∧
      (s.rd F.UPDATE_STATUS_STATE = 2 ∨ s.rd F.UPDATE_STATUS_STATE = 3) ∧ s.transferMode = true ∧ s.norPaused = false ∧
      (s.rd F.UPDATE_ADDR_INDEX) < hdrBlocks (s.image s.otherSlot).header ∧ (s.rd F.UPDATE_ADDR_QUARTER) < 3) ∧
    (∃ (who : Initiator) (s : State), s.barred who A.UPDATE_CMD true = 0 ∧ s.notOwner who = false ∧ s.rd F.UPDATE_STATUS_STATE = 3 ∧
      s.transferMode = true ∧ s.norPaused = false ∧ (s.rd F.UPDATE_ADDR_INDEX) < hdrBlocks (s.image s.otherSlot).header ∧
      (s.rd F.UPDATE_ADDR_QUARTER) = 3 ∧ s.nvm.partBlock = (s.rd F.UPDATE_ADDR_INDEX) ∧
      (mins (mdel s.nvm.part (s.rd F.UPDATE_ADDR_QUARTER)) (s.rd F.UPDATE_ADDR_QUARTER) (s.updWindow 1024)).length = 4 ∧
      s.nvm.blocks.contains (s.rd F.UPDATE_ADDR_INDEX) = false) ∧
    (∃ (who : Initiator) (s : State), s.barred who A.UPDATE_CMD true = 0 ∧ s.notOwner who = false ∧ s.rd F.UPDATE_STATUS_STATE = 3 ∧
      s.transferMode = true ∧ hdrBlocks (s.image s.otherSlot).header ≤ s.nvm.blocks.length) ∧
    (∃ (who : Initiator) (s : State), s.barred who A.UPDATE_CMD true = 0 ∧ s.notOwner who = false ∧ s.transferring = true) ∧
    (∃ (who : Initiator) (s : State), s.barred who A.UPDATE_CMD true = 0 ∧ s.notOwner who = true) ∧
    (∃ (s : State), s.transferring = true) :=
  ⟨⟨(.service : Initiator), (let who : Initiator := .service; let s : State := {}; (fun (s : State) =>
     { s with nvm := { s.nvm with boot := {} } }) (((fun s : State => ({ s with nvm := { s.nvm with armed := 0 } } : State)) ((((fun (s : State) =>
     s.wr F.UPDATE_STATUS_OWNER who.id) ((
     (fun s : State =>
     ({ s with nvm := { s.nvm with actWait := false } } : State)) s).wr F.UPDATE_STATUS_TRIAL (0))).wr F.CROWN_MODE_MODE (1)).wr F.CROWN_MODE_DORMANT (0))).wr F.UPDATE_STATUS_STATE (0)) : State), by decide +kernel⟩,
   ⟨(.service : Initiator), (let who : Initiator := .service; let s : State := {}; (fun (s : State) =>
     s.setImage s.otherSlot { header := List.replicate 36 0 ++ [2, 0, 0, 0] ++ List.replicate 216 0 }) (
     (fun s : State => ({ s with nvm := { s.nvm with chunks := [] } } : State)) (((
     (fun s : State => ({ s with nvm := { s.nvm with armed := 0 } } : State)) ((((fun (s : State) =>
     s.wr F.UPDATE_STATUS_OWNER who.id) ((
     (fun s : State =>
     ({ s with nvm := { s.nvm with actWait := false } } : State)) s).wr F.UPDATE_STATUS_TRIAL (0))).wr F.CROWN_MODE_MODE (1)).wr F.CROWN_MODE_DORMANT (0))).wr F.UPDATE_STATUS_STATE (1)).wr F.UPDATE_ADDR_INDEX (0))) : State), by decide +kernel⟩,
   ⟨(.service : Initiator), (let who : Initiator := .service; let s : State := {}; (fun (s : State) =>
     s.setImage s.otherSlot { header := List.replicate 36 0 ++ [0, 2, 0, 0] ++ List.replicate 216 0 }) (
     (fun s : State => ({ s with nvm := { s.nvm with chunks := [] } } : State)) (((
     (fun s : State => ({ s with nvm := { s.nvm with armed := 0 } } : State)) ((((fun (s : State) =>
     s.wr F.UPDATE_STATUS_OWNER who.id) ((
     (fun s : State =>
     ({ s with nvm := { s.nvm with actWait := false } } : State)) s).wr F.UPDATE_STATUS_TRIAL (0))).wr F.CROWN_MODE_MODE (1)).wr F.CROWN_MODE_DORMANT (0))).wr F.UPDATE_STATUS_STATE (1)).wr F.UPDATE_ADDR_INDEX (0))) : State), by decide +kernel⟩,
   ⟨(.service : Initiator), (let who : Initiator := .service; let s : State := {}; (fun (s : State) =>
     s.setImage s.otherSlot { header := List.replicate 36 0 ++ [2, 0, 0, 0] ++ List.replicate 216 0 }) (((((((
     (fun s : State => ({ s with nvm := { s.nvm with armed := 0 } } : State)) ((((fun (s : State) =>
     s.wr F.UPDATE_STATUS_OWNER who.id) ((
     (fun s : State =>
     ({ s with nvm := { s.nvm with actWait := false } } : State)) s).wr F.UPDATE_STATUS_TRIAL (0))).wr F.CROWN_MODE_MODE (1)).wr F.CROWN_MODE_DORMANT (0))).wr F.SUPPLY_STATUS_VAUX_OK (1)).wr F.THERM_STATUS_NOR_OK (1)).wr F.CROWN_MODE_MODE (1)).wr F.UPDATE_STATUS_STATE (2)).wr F.UPDATE_ADDR_INDEX (0)).wr F.UPDATE_ADDR_QUARTER (1)) : State), by decide +kernel⟩,
   ⟨(.service : Initiator), (let who : Initiator := .service; let s : State := {}; (fun (s : State) =>
     { s with nvm := { s.nvm with part := [(0, []), (1, []), (2, [])], partBlock := 0, blocks := [] } }) ((fun (s : State) =>
     s.setImage s.otherSlot { header := List.replicate 36 0 ++ [2, 0, 0, 0] ++ List.replicate 216 0 }) (((((((
     (fun s : State => ({ s with nvm := { s.nvm with armed := 0 } } : State)) ((((fun (s : State) =>
     s.wr F.UPDATE_STATUS_OWNER who.id) ((
     (fun s : State =>
     ({ s with nvm := { s.nvm with actWait := false } } : State)) s).wr F.UPDATE_STATUS_TRIAL (0))).wr F.CROWN_MODE_MODE (1)).wr F.CROWN_MODE_DORMANT (0))).wr F.SUPPLY_STATUS_VAUX_OK (1)).wr F.THERM_STATUS_NOR_OK (1)).wr F.CROWN_MODE_MODE (1)).wr F.UPDATE_STATUS_STATE (3)).wr F.UPDATE_ADDR_INDEX (0)).wr F.UPDATE_ADDR_QUARTER (3))) : State), by decide +kernel⟩,
   ⟨(.service : Initiator), (let who : Initiator := .service; let s : State := {}; (fun (s : State) =>
     s.setImage s.otherSlot { header := List.replicate 36 0 ++ [0, 0, 0, 0] ++ List.replicate 216 0 }) ((
     (fun s : State => ({ s with nvm := { s.nvm with armed := 0 } } : State)) ((((fun (s : State) =>
     s.wr F.UPDATE_STATUS_OWNER who.id) ((
     (fun s : State =>
     ({ s with nvm := { s.nvm with actWait := false } } : State)) s).wr F.UPDATE_STATUS_TRIAL (0))).wr F.CROWN_MODE_MODE (1)).wr F.CROWN_MODE_DORMANT (0))).wr F.UPDATE_STATUS_STATE (3)) : State), by decide +kernel⟩,
   ⟨(.service : Initiator), (let who : Initiator := .service; let s : State := {}; (
     (fun s : State => ({ s with nvm := { s.nvm with armed := 0 } } : State)) ((((fun (s : State) =>
     s.wr F.UPDATE_STATUS_OWNER who.id) ((
     (fun s : State =>
     ({ s with nvm := { s.nvm with actWait := false } } : State)) s).wr F.UPDATE_STATUS_TRIAL (0))).wr F.CROWN_MODE_MODE (1)).wr F.CROWN_MODE_DORMANT (0))).wr F.UPDATE_STATUS_STATE (3) : State), by decide +kernel⟩,
   ⟨(.service : Initiator), (let who : Initiator := .service; let s : State := {}; ((
     (fun s : State => ({ s with nvm := { s.nvm with armed := 0 } } : State)) ((((fun (s : State) =>
     s.wr F.UPDATE_STATUS_OWNER who.id) ((
     (fun s : State =>
     ({ s with nvm := { s.nvm with actWait := false } } : State)) s).wr F.UPDATE_STATUS_TRIAL (0))).wr F.CROWN_MODE_MODE (1)).wr F.CROWN_MODE_DORMANT (0))).wr F.UPDATE_STATUS_STATE (3)).wr F.UPDATE_STATUS_OWNER (0x15) : State), by decide +kernel⟩,
   ⟨(let s : State := {}; s.wr F.UPDATE_STATUS_STATE (3) : State), by decide +kernel⟩⟩

theorem witness_UpdateActivation :
    (∃ (who : Initiator) (s : State), s.barred who A.UPDATE_CMD true = 0 ∧ s.rd (F.UPDATE_SLOT_STATE s.otherSlot) = 2 ∧ s.transferring = false ∧
      s.nvm.armed = 0 ∧ s.nvm.actWait = false ∧ s.rd F.CROWN_STAGE_CTRL_STATE ≠ 6 ∧ s.stg.takeUp = false ∧ s.stg.commitStep = 0 ∧
      (s.mode = .standby ∨ s.mode = .safe ∨ s.mode = .service)) ∧
    (∃ (who : Initiator) (s : State), s.barred who A.UPDATE_CMD true = 0 ∧ s.rd (F.UPDATE_SLOT_STATE s.otherSlot) = 2 ∧ s.transferring = false ∧
      s.nvm.armed = 0 ∧ s.nvm.actWait = false ∧ s.mayActivate = false) ∧
    (∃ (who : Initiator) (s : State), s.barred who A.UPDATE_CMD true = 0 ∧ s.rd (F.UPDATE_SLOT_STATE s.otherSlot) = 2 ∧ s.transferring = false ∧
      s.nvm.armed = 0 ∧ s.nvm.actWait = false ∧ (2 ≤ s.rd F.PAIR_STATUS_ROLE ∨ s.mode = .standby ∨ s.mode = .safe ∨ s.mode = .service)) ∧
    (∃ (who : Initiator) (s : State), s.barred who A.UPDATE_CMD true = 0 ∧ s.rd (F.UPDATE_SLOT_STATE s.otherSlot) = 2 ∧ s.transferring = false ∧
      s.nvm.armed = 0 ∧ s.nvm.actWait = false ∧ s.on (F.TIME_CMD_SYNCED 0) = true ∧ s.tb0 + 10000000000 ≤ s.jub ∧ s.jub ≤ s.tb0 + 2592000000000000) ∧
    (∃ (who : Initiator) (key : Fin 65536) (s : State), s.barred who A.UPDATE_CMD true = 0 ∧ key.val ≠ 0x3CA5) ∧
    (∃ (who : Initiator) (s : State), s.barred who A.UPDATE_CMD true = 0 ∧ s.nvm.armed ≠ 0) ∧
    (∃ (who : Initiator) (s : State), s.barred who A.UPDATE_CMD true = 0 ∧ s.nvm.armed = 0) ∧
    (∃ (who : Initiator) (s : State), s.barred who A.UPDATE_CMD true = 0 ∧ s.confirmable = true) ∧
    (∃ (who : Initiator) (s : State), s.barred who A.UPDATE_KEYSEL true = 0 ∧ s.norPaused = false) ∧
    (∃ (who : Initiator) (s : State), s.barred who A.UPDATE_KEYSEL true = 0 ∧ s.norPaused = true) ∧
    (∃ (s : State), s.nvm.armed = 2 ∧ s.nvm.prepared = false) ∧
    (∃ (s : State), s.nvm.armed = 2 ∧ s.mode = .hold) ∧
    (∃ (s : State), s.nvm.armed = 2 ∧ s.mode ≠ .hold ∧ s.mayActivate = false) ∧
    (∃ (s : State), s.nvm.armed = 2 ∧ (s.mode = .standby ∨ s.mode = .safe ∨ s.mode = .service) ∧ s.rd F.CROWN_STAGE_CTRL_STATE ≠ 6 ∧
      s.stg.takeUp = false ∧ s.stg.commitStep = 0) ∧
    (∃ (s : State), s.confirmable = true ∧ s.on F.UPDATE_CFG_HOST_CONFIRM = false) ∧
    (∃ (s : State), s.nvm.boot.trial = true) ∧
    (∃ (s : State), s.nvm.boot.trial = true ∧ (s.stg.takeUp = true ∨ s.rd F.PAIR_STATUS_ROLE < 2 ∧
      (s.mode = .connect ∨ s.mode = .run ∨ s.mode = .hold))) ∧
    (∃ (s : State), s.nvm.boot.trial = true ∧ (s.mode = .standby ∨ s.mode = .safe ∨ s.mode = .rest) ∧ s.stg.takeUp = false) :=
  ⟨⟨(.service : Initiator), (let s : State := {}; (fun s : State => ({ s with stg := { s.stg with commitStep := 0 } } : State)) (
     (fun s : State => ({ s with stg := { s.stg with takeUp := false } } : State)) ((((((fun (s : State) =>
     s.wr (F.UPDATE_SLOT_STATE s.otherSlot) 2) ((fun (s : State) =>
     { s with nvm := { s.nvm with boot := {}, armed := 0, actWait := false } }) s)).wr F.UPDATE_STATUS_STATE (5)).wr F.CROWN_MODE_MODE (1)).wr F.PAIR_STATUS_ROLE (0)).wr F.CROWN_STAGE_CTRL_STATE (0))) : State), by decide +kernel⟩,
   ⟨(.service : Initiator), (let s : State := {}; ((fun s : State => ({ s with stg := { s.stg with commitStep := 0 } } : State)) (
     (fun s : State => ({ s with stg := { s.stg with takeUp := false } } : State)) ((((((fun (s : State) =>
     s.wr (F.UPDATE_SLOT_STATE s.otherSlot) 2) ((fun (s : State) =>
     { s with nvm := { s.nvm with boot := {}, armed := 0, actWait := false } }) s)).wr F.UPDATE_STATUS_STATE (5)).wr F.CROWN_MODE_MODE (1)).wr F.PAIR_STATUS_ROLE (0)).wr F.CROWN_STAGE_CTRL_STATE (0)))).wr F.CROWN_MODE_MODE (3) : State), by decide +kernel⟩,
   ⟨(.service : Initiator), (let s : State := {}; (fun s : State => ({ s with stg := { s.stg with commitStep := 0 } } : State)) (
     (fun s : State => ({ s with stg := { s.stg with takeUp := false } } : State)) ((((((fun (s : State) =>
     s.wr (F.UPDATE_SLOT_STATE s.otherSlot) 2) ((fun (s : State) =>
     { s with nvm := { s.nvm with boot := {}, armed := 0, actWait := false } }) s)).wr F.UPDATE_STATUS_STATE (5)).wr F.CROWN_MODE_MODE (1)).wr F.PAIR_STATUS_ROLE (0)).wr F.CROWN_STAGE_CTRL_STATE (0))) : State), by decide +kernel⟩,
   ⟨(.service : Initiator), (let s : State := {}; ((((fun s : State => ({ s with tb := [] } : State)) ((
     (fun s : State => ({ s with stg := { s.stg with commitStep := 0 } } : State)) (
     (fun s : State => ({ s with stg := { s.stg with takeUp := false } } : State)) ((((((fun (s : State) =>
     s.wr (F.UPDATE_SLOT_STATE s.otherSlot) 2) ((fun (s : State) =>
     { s with nvm := { s.nvm with boot := {}, armed := 0, actWait := false } }) s)).wr F.UPDATE_STATUS_STATE (5)).wr F.CROWN_MODE_MODE (1)).wr F.PAIR_STATUS_ROLE (0)).wr F.CROWN_STAGE_CTRL_STATE (0)))).wr (F.TIME_CMD_SYNCED 0) (1))).wr F.UPDATE_JUB_SEC_LO_SEC_LO (100)).wr F.UPDATE_JUB_SEC_HI_SEC_HI (0)).wr F.UPDATE_JUB_NS_NS (0) : State), by decide +kernel⟩,
   ⟨(.service : Initiator), (0 : Fin 65536), (let s : State := {}; s : State), by decide +kernel⟩,
   ⟨(.service : Initiator), (let s : State := {}; (fun s : State => ({ s with nvm := { s.nvm with armed := 1 } } : State)) (s) : State),
     by decide +kernel⟩,
   ⟨(.service : Initiator), (let s : State := {}; (fun s : State => ({ s with nvm := { s.nvm with armed := 0 } } : State)) (s) : State),
     by decide +kernel⟩,
   ⟨(.service : Initiator), (let s : State := {}; (fun (s : State) =>
     { s with est := { s.est with l := [(0, { commit := (let h := le 4 7 ++ List.replicate 8 0; h ++ le 4 (crc32c h)) })], st := [(0, { commit := (let h := le 4 7 ++ List.replicate 8 0; h ++ le 4 (crc32c h)) })] } }) ((fun (s : State) => { s with nvm := { s.nvm with boot := { s.nvm.boot with trial := true, slot := 0 }, startOk := true, convert := false, lBase := 0, sBase := 0 } }) s) : State), by decide +kernel⟩,
   ⟨(.service : Initiator), (let s : State := {}; ((s.wr F.SUPPLY_STATUS_VAUX_OK (1)).wr F.THERM_STATUS_NOR_OK (1)).wr F.CROWN_MODE_MODE (1) : State),
     by decide +kernel⟩,
   ⟨(.service : Initiator),
     (let s : State := {}; (((s.wr F.SUPPLY_STATUS_VAUX_OK (1)).wr F.THERM_STATUS_NOR_OK (1)).wr F.CROWN_MODE_MODE (1)).wr F.THERM_STATUS_NOR_OK (0) : State), by decide +kernel⟩,
   ⟨(let s : State := {}; (fun s : State => ({ s with nvm := { s.nvm with prepared := false } } : State)) (
     (fun s : State => ({ s with nvm := { s.nvm with armed := 2 } } : State)) s) : State), by decide +kernel⟩,
   ⟨(let s : State := {}; ((fun s : State => ({ s with nvm := { s.nvm with armed := 2 } } : State)) s).wr F.CROWN_MODE_MODE (5) : State),
     by decide +kernel⟩,
   ⟨(let s : State := {}; ((
     (fun s : State => ({ s with nvm := { s.nvm with armed := 2 } } : State)) s).wr F.CROWN_MODE_MODE (3)).wr F.PAIR_STATUS_ROLE (0) : State),
     by decide +kernel⟩,
   ⟨(let s : State := {}; (fun s : State => ({ s with nvm := { s.nvm with armed := 2 } } : State)) (
     (fun s : State => ({ s with stg := { s.stg with commitStep := 0 } } : State)) (
     (fun s : State => ({ s with stg := { s.stg with takeUp := false } } : State)) ((((((fun (s : State) =>
     s.wr (F.UPDATE_SLOT_STATE s.otherSlot) 2) ((fun (s : State) =>
     { s with nvm := { s.nvm with boot := {}, armed := 0, actWait := false } }) s)).wr F.UPDATE_STATUS_STATE (5)).wr F.CROWN_MODE_MODE (1)).wr F.PAIR_STATUS_ROLE (0)).wr F.CROWN_STAGE_CTRL_STATE (0)))) : State), by decide +kernel⟩,
   ⟨(let s : State := {}; ((fun (s : State) =>
     { s with est := { s.est with l := [(0, { commit := (let h := le 4 7 ++ List.replicate 8 0; h ++ le 4 (crc32c h)) })], st := [(0, { commit := (let h := le 4 7 ++ List.replicate 8 0; h ++ le 4 (crc32c h)) })] } }) ((fun (s : State) => { s with nvm := { s.nvm with boot := { s.nvm.boot with trial := true, slot := 0 }, startOk := true, convert := false, lBase := 0, sBase := 0 } }) s)).wr F.UPDATE_CFG_HOST_CONFIRM (0) : State), by decide +kernel⟩,
   ⟨(let s : State := {}; (fun (s : State) =>
     { s with est := { s.est with l := [(0, { commit := (let h := le 4 7 ++ List.replicate 8 0; h ++ le 4 (crc32c h)) })], st := [(0, { commit := (let h := le 4 7 ++ List.replicate 8 0; h ++ le 4 (crc32c h)) })] } }) ((fun (s : State) => { s with nvm := { s.nvm with boot := { s.nvm.boot with trial := true, slot := 0 }, startOk := true, convert := false, lBase := 0, sBase := 0 } }) s) : State), by decide +kernel⟩,
   ⟨(let s : State := {}; (((fun (s : State) =>
     { s with est := { s.est with l := [(0, { commit := (let h := le 4 7 ++ List.replicate 8 0; h ++ le 4 (crc32c h)) })], st := [(0, { commit := (let h := le 4 7 ++ List.replicate 8 0; h ++ le 4 (crc32c h)) })] } }) ((fun (s : State) => { s with nvm := { s.nvm with boot := { s.nvm.boot with trial := true, slot := 0 }, startOk := true, convert := false, lBase := 0, sBase := 0 } }) s)).wr F.PAIR_STATUS_ROLE (1)).wr F.CROWN_MODE_MODE (3) : State), by decide +kernel⟩,
   ⟨(let s : State := {}; (fun s : State => ({ s with stg := { s.stg with takeUp := false } } : State)) (((fun (s : State) =>
     { s with est := { s.est with l := [(0, { commit := (let h := le 4 7 ++ List.replicate 8 0; h ++ le 4 (crc32c h)) })], st := [(0, { commit := (let h := le 4 7 ++ List.replicate 8 0; h ++ le 4 (crc32c h)) })] } }) ((fun (s : State) => { s with nvm := { s.nvm with boot := { s.nvm.boot with trial := true, slot := 0 }, startOk := true, convert := false, lBase := 0, sBase := 0 } }) s)).wr F.CROWN_MODE_MODE (1)) : State), by decide +kernel⟩⟩

theorem witness_TestAccess :
    (∃ (who : Initiator) (phases : Fin 65536) (s : State), s.barred who A.TESTMUX_GTEST true = 0 ∧ s.on F.TESTMUX_STATUS_GTEST = false ∧
      (s.wr F.TESTMUX_GTEST_PHASES phases.val).testRefusal = 0) ∧
    (∃ (who : Initiator) (phases : Fin 65536) (s : State), s.barred who A.TESTMUX_GTEST true = 0 ∧ s.on F.TESTMUX_STATUS_GTEST = false ∧
      (s.wr F.TESTMUX_GTEST_PHASES phases.val).testRefusal ≠ 0) ∧
    (∃ (who : Initiator) (s : State), s.barred who A.TESTMUX_GTEST true = 0 ∧ s.on F.TESTMUX_STATUS_GTEST = true ∧ s.tmx.stopNext = false) ∧
    (∃ (s : State), s.on F.TESTMUX_STATUS_GTEST = true ∧ s.tmx.stopNext = false) ∧
    (∃ (who : Initiator) (s : State), s.barred who A.TESTMUX_JTAG true = 0 ∧ s.mode = .service) ∧
    (∃ (who : Initiator) (key : Fin 65536) (s : State), s.barred who A.TESTMUX_JTAG true = 0 ∧ (key.val ≠ 0xC35A ∨ s.mode ≠ .service)) ∧
    (∃ (who : Initiator) (s : State), s.barred who A.TESTMUX_JTAG true = 0 ∧ s.on F.TESTMUX_STATUS_JTAG_OPEN = true) ∧
    (∃ (s : State), s.on F.TESTMUX_STATUS_JTAG_OPEN = true) ∧
    (∃ (s : State), s.mode = .service ∧ s.stg.takeUp = false) ∧
    (∃ (s : State), s.mode = .service ∧ s.stg.takeUp = true) ∧
    (∃ (who : Initiator) (k : Fin 4) (s : State), s.barred who (A.TESTMUX_SEL k.val) true = 0) ∧
    (∃ (i : TapOp) (s : State), s.on F.TESTMUX_STATUS_JTAG_OPEN = false ∧ i ≠ .idcode) ∧
    (∃ (s : State), s.on F.TESTMUX_STATUS_JTAG_OPEN = true) :=
  ⟨⟨(.service : Initiator), (0 : Fin 65536), (let s : State := {}; (fun s : State =>
     ({ s with prot := { s.prot with conds := [] } } : State)) (((
     (fun s : State =>
     ({ s with meas := { s.meas with vLink := 0 } } : State)) ((((s.wr F.CROWN_MODE_MODE (7)).wr F.TESTMUX_STATUS_GTEST (0)).wr F.CONTACT_STATUS_FB (0)).wr F.CONTACT_CFG_FB_INV (0))).wr F.TESTMUX_GTEST2_DUTY (100)).wr F.TESTMUX_GTEST2_DUR_MS (100)) : State), by decide +kernel⟩,
   ⟨(.service : Initiator), (0 : Fin 65536), (let s : State := {}; (s.wr F.CROWN_MODE_MODE (1)).wr F.TESTMUX_STATUS_GTEST (0) : State),
     by decide +kernel⟩,
   ⟨(.service : Initiator), (let s : State := {}; (fun s : State =>
     ({ s with tmx := { s.tmx with stopNext := false } } : State)) (s.wr F.TESTMUX_STATUS_GTEST (1)) : State), by decide +kernel⟩,
   ⟨(let s : State := {}; (fun s : State => ({ s with tmx := { s.tmx with stopNext := false } } : State)) (s.wr F.TESTMUX_STATUS_GTEST (1)) : State),
     by decide +kernel⟩,
   ⟨(.service : Initiator), (let s : State := {}; (s.wr F.CROWN_MODE_MODE (7)).wr F.CROWN_MODE_SAFE_LATCH (0) : State), by decide +kernel⟩,
   ⟨(.service : Initiator), (0 : Fin 65536), (let s : State := {}; s.wr F.CROWN_MODE_MODE (7) : State), by decide +kernel⟩,
   ⟨(.service : Initiator), (let s : State := {}; s.wr F.TESTMUX_STATUS_JTAG_OPEN (1) : State), by decide +kernel⟩,
   ⟨(let s : State := {}; s.wr F.TESTMUX_STATUS_JTAG_OPEN (1) : State), by decide +kernel⟩,
   ⟨(let s : State := {}; (fun s : State => ({ s with stg := { s.stg with takeUp := false } } : State)) (s.wr F.CROWN_MODE_MODE (7)) : State),
     by decide +kernel⟩,
   ⟨(let s : State := {}; (fun s : State => ({ s with stg := { s.stg with takeUp := true } } : State)) (s.wr F.CROWN_MODE_MODE (7)) : State),
     by decide +kernel⟩,
   ⟨(.service : Initiator), (0 : Fin 4), (let s : State := {}; s : State), by decide +kernel⟩,
   ⟨(.samplePreload : TapOp), (let s : State := {}; s.wr F.TESTMUX_STATUS_JTAG_OPEN (0) : State), by decide +kernel⟩,
   ⟨(let s : State := {}; s.wr F.TESTMUX_STATUS_JTAG_OPEN (1) : State), by decide +kernel⟩⟩

theorem witness_ReservedPagesReadZero :
    (∃ (addr : BitVec 20), assigned (pageOf addr.toNat) = false) ∧
    (∃ (page : Fin 256), assigned page.val = false) ∧
    (∃ (addr : BitVec 24), assigned (pageOf addr.toNat) = false ∧ addr.toNat < 2 ^ 20 ∧ addr.toNat % 4 = 0) ∧
    (∃ a : Nat, assigned (pageOf a) = false) :=
  ⟨⟨(0xF0040 : BitVec 20), by decide +kernel⟩,
   ⟨(0xF0 : Fin 256), by decide +kernel⟩,
   ⟨(0xF0040 : BitVec 24), by decide +kernel⟩,
   ⟨0xFF000, by decide +kernel⟩⟩

theorem witness_StagedWriteVoidsCheck :
    ∃ (who : Initiator) (page : Fin 256) (reg : Fin 512) (s : State), s.barred who (page.val * 4096 + 0x800 + 4 * reg.val) true = 0 ∧
      (s.stage = 2 ∨ s.stage = 3 ∨ s.stage = 4) ∧ who.id ≠ 0 ∧ (s.rd F.CROWN_STAGE_OWNER_SESSION = 0 ∨ s.rd F.CROWN_STAGE_OWNER_SESSION = who.id) ∧
      rwsReg (page.val * 4096 + 4 * reg.val) = true :=
  ⟨(.host : Initiator), (0x20 : Fin 256), (18 : Fin 512),
    (let s : State := {}; (((s.wr F.HOST_CFG_NS_OPEN (1)).wr F.HOST_SESS_SECURE (1)).wr F.CROWN_STAGE_OWNER_SESSION (1)).wr F.CROWN_STAGE_CTRL_STATE (2) : State), by decide +kernel⟩

theorem witness_ForeignWorldRequests :
    (∃ (who : Initiator) (s : State), s.barred who A.CROWN_MODE_REQ true = 0 ∧ s.secureOf who = false ∧
      (match s.host.xwSec.find? (·.1 == who.id) with | some e => decide (e.2 + 1000000000 ≤ s.mono) | none => true) = true) ∧
    (∃ (who : Initiator) (s : State), s.barred who A.CROWN_MODE_REQ true = 0 ∧ s.secureOf who = false ∧
      (match s.host.xwSec.find? (·.1 == who.id) with | some e => decide (e.2 + 1000000000 ≤ s.mono) | none => true) = true) ∧
    (∃ (who : Initiator) (s : State), s.barred who A.CROWN_MODE_REQ true = 0 ∧ s.secureOf who = false ∧
      (match s.host.xwSec.find? (·.1 == who.id) with | some e => decide (e.2 + 1000000000 ≤ s.mono) | none => true) = false) ∧
    (∃ (who : Initiator) (s : State), s.barred who A.CROWN_MODE_REQ true = 0 ∧ s.secureOf who = false ∧
      (match s.host.xwSec.find? (·.1 == who.id) with | some e => decide (e.2 + 1000000000 ≤ s.mono) | none => true) = false) :=
  ⟨⟨(.host : Initiator), (let s : State := {}; (fun (s : State) =>
     { s with host := { s.host with xwSec := [] } }) ((s.wr F.HOST_CFG_NS_OPEN (1)).wr F.HOST_SESS_SECURE (0)) : State), by decide +kernel⟩,
   ⟨(.host : Initiator), (let s : State := {}; (fun (s : State) =>
     { s with host := { s.host with xwSec := [] } }) ((s.wr F.HOST_CFG_NS_OPEN (1)).wr F.HOST_SESS_SECURE (0)) : State), by decide +kernel⟩,
   ⟨(.host : Initiator), (let who : Initiator := .host; let s : State := {}; (fun (s : State) =>
     { s with host := { s.host with xwSec := [(who.id, s.mono)] } }) ((s.wr F.HOST_CFG_NS_OPEN (1)).wr F.HOST_SESS_SECURE (0)) : State),
     by decide +kernel⟩,
   ⟨(.host : Initiator), (let who : Initiator := .host; let s : State := {}; (fun (s : State) =>
     { s with host := { s.host with xwSec := [(who.id, s.mono)] } }) ((s.wr F.HOST_CFG_NS_OPEN (1)).wr F.HOST_SESS_SECURE (0)) : State),
     by decide +kernel⟩⟩

end Slice0Tests
end

section
/-!
O60: a TRANSPORT or SERVICE request from the non-secure world (R43), accounted for as a cross-world attempt (R91).
-/
namespace Sys2Proof.Machine
open Sys2Proof

/-! ## A record at the end of Q91 -/

@[simp] theorem State.dropLast_q91_record (s : State) (sev src : Nat) (ev : Ev) (l : List Int) (b : Bool) :
    (s.record sev src ev l b).q91.dropLast = s.q91 := by
  simp [State.record]

@[simp] theorem State.getLast_q91_record (s : State) (sev src : Nat) (ev : Ev) (l : List Int) (b : Bool) :
    ((s.record sev src ev l b).q91.getLast?.map fun r => (r.sev, r.source, r.ev)) = some (sev, src, ev) := by
  simp [State.record]

/-! ## A cross-world access -/

/-- The session's next cross-world access is recorded: it has no record, or its last one lies at least 1 s back (R91). -/
def State.xwDue (s : State) (who : Initiator) : Bool :=
  match s.host.xwSec.find? (·.1 == who.id) with
  | some e => decide (e.2 + 1000000000 ≤ s.mono)
  | none => true

/-- The registers that count and show a cross-world access (R90). -/
def State.xwShown (s : State) (who : Initiator) (addr : Nat) (write : Bool) : State :=
  (((s.bump F.WORLD_XW_COUNT_COUNT).wr F.WORLD_XW_LAST_ADDR addr).wrB F.WORLD_XW_LAST_WRITE write).wr F.WORLD_XW_LAST_SESSION who.id

section Shown
variable (s : State) (who : Initiator) (addr : Nat) (write : Bool)

@[simp] theorem State.xwShown_q91 : (s.xwShown who addr write).q91 = s.q91 := by
  rw [State.xwShown, State.wr_q91, State.wrB_q91, State.wr_q91, State.bump_q91]

@[simp] theorem State.xwShown_host : (s.xwShown who addr write).host = s.host := by
  rw [State.xwShown, State.wr_host, State.wrB_host, State.wr_host, State.bump_host]

@[simp] theorem State.xwShown_tb : (s.xwShown who addr write).tb = s.tb := by
  rw [State.xwShown, State.wr_tb, State.wrB_tb, State.wr_tb, State.bump_tb]

@[simp] theorem State.xwShown_mono : (s.xwShown who addr write).mono = s.mono := by
  simp only [State.mono, State.timeBase, State.xwShown_tb]

theorem Initiator.id_lt : who.id < 256 := by
  cases who <;> simp only [Initiator.id] <;> omega

theorem State.xwShown_addr : (s.xwShown who addr write).rd F.WORLD_XW_LAST_ADDR = addr % 2 ^ 20 := by
  rw [State.xwShown, State.rd_wr_apart _ _ _ _ (by decide) (by decide), State.rd_wrB_apart _ _ _ _ (by decide) (by decide),
    State.rd_wr _ _ _ (by decide)]

theorem State.xwShown_write : (s.xwShown who addr write).rd F.WORLD_XW_LAST_WRITE = if write then 1 else 0 := by
  rw [State.xwShown, State.rd_wr_apart _ _ _ _ (by decide) (by decide), State.rd_wrB _ _ _ (by decide) (by decide)]

theorem State.xwShown_session : (s.xwShown who addr write).rd F.WORLD_XW_LAST_SESSION = who.id := by
  rw [State.xwShown, State.rd_wr _ _ _ (by decide)]
  exact Nat.mod_eq_of_lt (Initiator.id_lt who)

/-- Recorded or only counted, a cross-world access changes the registers alike. -/
@[simp] theorem State.rd_crossWorld (f : Fld) : (s.crossWorld who addr write).rd f = (s.xwShown who addr write).rd f := by
  refine State.rd_regs ?_ f
  simp only [State.crossWorld]
  split
  · split <;> rfl
  · rfl

end Shown

/-- A due cross-world access leaves its record last in Q91, with the accesses not recorded since the session's last one. -/
theorem State.crossWorld_q91_of_due {s : State} {who : Initiator} (addr : Nat) (write : Bool) (h : s.xwDue who = true) :
    (s.crossWorld who addr write).q91 = ((s.xwShown who addr write).record 5 0x01 .crossWorld
      [who.id, addr, if write then 1 else 0, (mget 0 s.host.xwSkipped who.id : Nat)]).q91 := by
  simp only [State.crossWorld]
  rw [← State.xwShown, State.xwShown_host, State.xwShown_mono]
  simp only [State.xwDue] at h
  cases hf : s.host.xwSec.find? (·.1 == who.id) with
  | none => rfl
  | some e =>
    rw [hf] at h
    have hold : ¬ s.mono < e.2 + 1000000000 := Nat.not_lt.2 (of_decide_eq_true h)
    simp only [if_neg hold]

/-- A cross-world access that is not due is counted towards the session's next record. -/
theorem State.crossWorld_of_not_due {s : State} {who : Initiator} (addr : Nat) (write : Bool) (h : s.xwDue who = false) :
    s.crossWorld who addr write = { s.xwShown who addr write with
      host := { s.host with xwSkipped := mset 0 s.host.xwSkipped who.id (mget 0 s.host.xwSkipped who.id + 1) } } := by
  simp only [State.crossWorld]
  rw [← State.xwShown, State.xwShown_host, State.xwShown_mono]
  simp only [State.xwDue] at h
  cases hf : s.host.xwSec.find? (·.1 == who.id) with
  | none => simp [hf] at h
  | some e =>
    rw [hf] at h
    have hnew : s.mono < e.2 + 1000000000 := Nat.not_le.1 (of_decide_eq_false h)
    simp only [if_pos hnew]

/-! ## The request -/

section Request
variable {s : State} {who : Initiator} {dst : Mode} {dormant : Bool} {p : Partners}

theorem State.requestResult_foreign (hd : dst = .transport ∨ dst = .service) (hw : s.secureOf who = false) :
    s.requestResult who dst dormant p = 4 := by
  rcases hd with rfl | rfl <;> simp [State.requestResult, hw]

/-- A request for the non-secure world's forbidden targets does nothing but account for the attempt and answer code 4, in any mode (R43). -/
theorem State.modeRequest_foreign (hd : dst = .transport ∨ dst = .service) (hw : s.secureOf who = false) :
    s.modeRequest who dst dormant p = (s.crossWorld who A.CROWN_MODE_REQ true).wr F.CROWN_MODE_REQ_RESULT 4 := by
  have hc := State.requestResult_foreign (dormant := dormant) (p := p) hd hw
  rcases hd with rfl | rfl <;> simp [State.modeRequest, hc]

@[simp] theorem State.secureOf_result (addr : Nat) (w : Initiator) : (s.result who addr 0).secureOf w = s.secureOf w := by
  cases w <;> simp [State.secureOf, State.on]

@[simp] theorem State.mono_result (addr : Nat) : (s.result who addr 0).mono = s.mono := by
  simp [State.mono, State.timeBase]

@[simp] theorem State.xwSec_result (addr : Nat) : (s.result who addr 0).host.xwSec = s.host.xwSec := by
  rw [State.result_ok]
  split <;> rfl

@[simp] theorem State.xwSkipped_result (addr : Nat) : (s.result who addr 0).host.xwSkipped = s.host.xwSkipped := by
  rw [State.result_ok]
  split <;> rfl

@[simp] theorem State.xwDue_result (addr : Nat) (w : Initiator) : (s.result who addr 0).xwDue w = s.xwDue w := by
  rw [State.xwDue, State.xwDue, State.xwSec_result, State.mono_result]

/-- What a request for TRANSPORT or SERVICE from the non-secure world leaves. -/
def State.foreignRefusal (s : State) (who : Initiator) : State :=
  ((s.result who A.CROWN_MODE_REQ 0).crossWorld who A.CROWN_MODE_REQ true).wr F.CROWN_MODE_REQ_RESULT 4

theorem exec_modeReqTransport_foreign (hb : s.barred who A.CROWN_MODE_REQ true = 0) (hw : s.secureOf who = false) :
    exec (.modeReqTransport who) s = .next (s.foreignRefusal who) := by
  change execModeReqTransport who s = _
  rw [execModeReqTransport, State.asWrite_ok _ _ _ _ hb, State.modeRequest_foreign (.inl rfl) (by simpa using hw), State.foreignRefusal]

theorem exec_modeReqService_foreign (hb : s.barred who A.CROWN_MODE_REQ true = 0) (hw : s.secureOf who = false) :
    exec (.modeReqService who) s = .next (s.foreignRefusal who) := by
  change execModeReqService who s = _
  rw [execModeReqService, State.asWrite_ok _ _ _ _ hb, State.modeRequest_foreign (.inr rfl) (by simpa using hw), State.foreignRefusal]

/-! ## What the refusal leaves -/

theorem State.foreignRefusal_result : (s.foreignRefusal who).rd F.CROWN_MODE_REQ_RESULT = 4 :=
  State.rd_wr _ _ _ (by decide)

theorem State.foreignRefusal_mode : (s.foreignRefusal who).mode = s.mode := by
  refine State.mode_of_rdIs ?_
  exact State.wr_rdIs (by decide) (State.crossWorld_mode (State.result_mode rfl))

/-- The XW registers show the request (R90). -/
theorem State.foreignRefusal_shown : (s.foreignRefusal who).rd F.WORLD_XW_LAST_ADDR = A.CROWN_MODE_REQ ∧
    (s.foreignRefusal who).rd F.WORLD_XW_LAST_WRITE = 1 ∧ (s.foreignRefusal who).rd F.WORLD_XW_LAST_SESSION = who.id := by
  refine ⟨?_, ?_, ?_⟩ <;> rw [State.foreignRefusal, State.rd_wr_apart _ _ _ _ (by decide) (by decide), State.rd_crossWorld]
  · exact State.xwShown_addr ..
  · exact State.xwShown_write ..
  · exact State.xwShown_session ..

/-- A due attempt is the one new record of Q91, at severity 5 (R91). -/
theorem State.foreignRefusal_recorded (h : s.xwDue who = true) : (s.foreignRefusal who).q91.dropLast = s.q91 ∧
    ((s.foreignRefusal who).q91.getLast?.map fun r => (r.sev, r.source, r.ev)) = some (5, 0x01, .crossWorld) := by
  rw [State.foreignRefusal, State.wr_q91, State.crossWorld_q91_of_due _ _ (by simpa using h)]
  simp

/-- An attempt that is not due is counted and not recorded (R91). -/
theorem State.foreignRefusal_counted (h : s.xwDue who = false) : (s.foreignRefusal who).q91 = s.q91 ∧
    mget 0 (s.foreignRefusal who).host.xwSkipped who.id = mget 0 s.host.xwSkipped who.id + 1 := by
  rw [State.foreignRefusal, State.wr_q91, State.wr_host, State.crossWorld_of_not_due _ _ (by simpa using h), State.mk_q91, State.mk_host,
    State.xwShown_q91, State.result_q91, State.xwSkipped_result, mget_mset, if_pos rfl]
  exact ⟨rfl, rfl⟩

end Request

/-- Settles O60: both requests end in foreignRefusal, whatever the mode; R91's limit of one record per second decides between a record and a count. -/
theorem foreignWorldRequests : Obligations.ForeignWorldRequests := by
  refine ⟨fun who s hb hw hx => ?_, fun who s hb hw hx => ?_, fun who s hb hw hx => ?_, fun who s hb hw hx => ?_⟩
  · obtain ⟨hq, hr⟩ := State.foreignRefusal_recorded hx
    exact ⟨_, exec_modeReqTransport_foreign hb hw, State.foreignRefusal_result, State.foreignRefusal_mode, hq, hr, State.foreignRefusal_shown⟩
  · obtain ⟨hq, hr⟩ := State.foreignRefusal_recorded hx
    exact ⟨_, exec_modeReqService_foreign hb hw, State.foreignRefusal_result, State.foreignRefusal_mode, hq, hr, State.foreignRefusal_shown⟩
  · obtain ⟨hq, hn⟩ := State.foreignRefusal_counted hx
    exact ⟨_, exec_modeReqTransport_foreign hb hw, State.foreignRefusal_result, State.foreignRefusal_mode, hq, hn, State.foreignRefusal_shown⟩
  · obtain ⟨hq, hn⟩ := State.foreignRefusal_counted hx
    exact ⟨_, exec_modeReqService_foreign hb hw, State.foreignRefusal_result, State.foreignRefusal_mode, hq, hn, State.foreignRefusal_shown⟩

end Sys2Proof.Machine
end

section
/-!
O58: an access to a reserved page reads as 0 and writes nothing (R65).
-/
namespace Sys2Proof.Machine
open Sys2Proof

/-! ## The fields that a result may write -/

theorem OnlyFields.trans {l : List Fld} {s t u : State} (h : OnlyFields l s t) (h' : OnlyFields l t u) : OnlyFields l s u :=
  fun g hg => (h' g hg).trans (h g hg)

theorem State.onlyFields_wr {l : List Fld} (s : State) {f : Fld} (n : Nat) (hf : f.fits) (hl : f ∈ l) : OnlyFields l s (s.wr f n) :=
  fun g hg => State.rd_wr_apart s f g n hf (hg f hl)

/-- A result is shown in HOST.LAST_ERR and in no other register (R108). -/
theorem State.onlyFields_result (s : State) (who : Initiator) (addr code : Nat) :
    OnlyFields [F.HOST_LAST_ERR_CODE, F.HOST_LAST_ERR_ADDR] s (s.result who addr code) := by
  have same : ∀ t : State, t.regs = s.regs → OnlyFields [F.HOST_LAST_ERR_CODE, F.HOST_LAST_ERR_ADDR] s t :=
    fun _ h g _ => State.rd_regs h g
  cases who with
  | host =>
    simp only [State.result]
    split
    · exact same _ rfl
    · refine .trans ?_ (State.onlyFields_wr _ addr (by decide) (by simp))
      refine .trans ?_ (State.onlyFields_wr _ code (by decide) (by simp))
      exact same _ rfl
  | ralkiul | service | scanProgram | dispatch | pairLink => exact same _ rfl

@[simp] theorem State.result_host_err (s : State) (addr code : Nat) : (s.result .host addr code).host.err = code := by
  simp only [State.result]
  split <;> rfl

/-! ## An access without effect -/

/-- From s to t an access of the initiator left the no-such-page error 0x01 where the initiator reads it, and nothing else
  that R65 would call a write: no other register, nothing staged or stored, nothing handed to the Almanac. -/
structure NoSuchPage (who : Initiator) (s t : State) : Prop where
  accErr : t.accErr = 0x01
  hostErr : who = .host → t.host.err = 0x01
  fields : OnlyFields [F.HOST_LAST_ERR_CODE, F.HOST_LAST_ERR_ADDR] s t
  staged : t.staged = s.staged
  scan : t.scan = s.scan
  nvm : t.nvm = s.nvm
  q91 : t.q91 = s.q91

theorem State.noSuchPage_result (s : State) (who : Initiator) (addr : Nat) : NoSuchPage who s (s.result who addr 0x01) := by
  have w : Within [.regs, .accErr, .host] s (s.result who addr 0x01) :=
    State.result_within (by decide) (by decide) (by decide) .rfl
  exact {
    accErr := State.result_accErr ..
    hostErr := by rintro rfl; exact State.result_host_err ..
    fields := State.onlyFields_result s who addr _
    staged := w.staged (by decide)
    scan := w.scan (by decide)
    nvm := w.nvm (by decide)
    q91 := w.q91 (by decide) }

theorem NoSuchPage.trans {who : Initiator} {s t u : State} (h : NoSuchPage who s t) (h' : NoSuchPage who t u) : NoSuchPage who s u where
  accErr := h'.accErr
  hostErr := h'.hostErr
  fields := h.fields.trans h'.fields
  staged := h'.staged.trans h.staged
  scan := h'.scan.trans h.scan
  nvm := h'.nvm.trans h.nvm
  q91 := h'.q91.trans h.q91

/-- The value that a read answers with is no part of what it leaves. -/
theorem NoSuchPage.upd_readData {who : Initiator} {s t : State} (h : NoSuchPage who s t) (l : List Word) :
    NoSuchPage who s { t with readData := l } :=
  ⟨h.accErr, h.hostErr, h.fields, h.staged, h.scan, h.nvm, h.q91⟩

/-- The begin of a host transaction shifts the status word out and changes nothing that a refusal keeps (R94). -/
theorem NoSuchPage.of_hostBegin {who : Initiator} {s t : State} (h : NoSuchPage who s.hostBegin t) : NoSuchPage who s t :=
  ⟨h.accErr, h.hostErr, h.fields, h.staged, h.scan, h.nvm, h.q91⟩

/-- The page is judged before world, session and alignment. -/
theorem State.barred_reserved (s : State) (who : Initiator) {addr : Nat} (write : Bool) (h : assigned (pageOf addr) = false) :
    s.barred who addr write = 0x01 := by
  simp [State.barred, h]

/-- Only a refusal by the world is accounted for beside its result. -/
theorem State.refuseAccess_of_ne (s : State) (who : Initiator) (addr : Nat) (write : Bool) {code : Nat} (h : code ≠ 0x02) :
    s.refuseAccess who addr write code = s.result who addr code := by
  simp [State.refuseAccess, h]

section Reserved
variable (s : State) (who : Initiator) {a : Nat} (h : assigned (pageOf a) = false)
include h

theorem State.writeReg_reserved (data : Nat) : s.writeReg who a data = s.result who a 0x01 := by
  simp [State.writeReg, State.writeCode, State.barred_reserved _ _ _ h, State.refuseAccess_of_ne]

theorem State.asWrite_reserved (k : State → State) : s.asWrite who a k = s.result who a 0x01 := by
  simp [State.asWrite, State.barred_reserved _ _ _ h, State.refuseAccess_of_ne]

theorem State.readReg_reserved : s.readReg who a = { s.result who a 0x01 with readData := [0] } := by
  simp [State.readReg, State.readCode, State.barred_reserved _ _ _ h, State.refuseAccess_of_ne]

end Reserved

/-! ## One word read over the host port -/

theorem addrCode_eq_zero {a : Nat} (hlt : a < 2 ^ 20) (h4 : a % 4 = 0) : addrCode a = 0 := by
  rw [addrCode, if_neg (Nat.not_le.2 hlt), if_neg (not_not.2 h4)]

/-- One word read from consecutive registers is a read of its register. -/
theorem State.readWords_one (s : State) (who : Initiator) (a : Nat) :
    State.readWords who a 1 0 s = (s.readReg who a, [(s.readReg who a).readData.headD 0], (s.readReg who a).accErr) := by
  have hoff : ¬ offOf a ≥ 4096 := Nat.not_le.2 (Nat.mod_lt _ (by decide))
  by_cases hc : (s.readReg who a).accErr = 0 <;> simp [State.readWords, hoff, hc]

/-- A host read of one word is a read of its register between the transaction's begin and its end (R95). -/
theorem exec_hostRead_one {addr : BitVec 24} (s : State) (ha : addrCode addr.toNat = 0) :
    exec (.hostRead addr 1) s = .next { (s.hostBegin.readReg .host addr.toNat).hostEnd addr.toNat (s.hostBegin.readReg .host addr.toNat).accErr with
      readData := [(s.hostBegin.readReg .host addr.toNat).readData.headD 0] } := by
  change execHostRead addr 1 s = _
  simp only [execHostRead, ha, State.readWords_one, ne_eq, not_true_eq_false, one_ne_zero, if_false]

/-! ## The three commands on a reserved page -/

theorem pageOf_stagedOffset (page : Fin 256) (reg : Fin 512) : pageOf (page.val * 4096 + 0x800 + 4 * reg.val) = page.val := by
  simp only [pageOf]
  omega

theorem exec_registerWrite_reserved {addr : BitVec 20} (who : Initiator) (data : BitVec 32) (s : State)
    (h : assigned (pageOf addr.toNat) = false) : exec (.registerWrite who addr data) s = .next (s.result who addr.toNat 0x01) :=
  congrArg Host.Outcome.next (State.writeReg_reserved s who h data.toNat)

theorem exec_stagedWrite_reserved {page : Fin 256} (who : Initiator) (reg : Fin 512) (data : BitVec 32) (s : State)
    (h : assigned page.val = false) :
    exec (.stagedWrite who page reg data) s = .next (s.result who (page.val * 4096 + 0x800 + 4 * reg.val) 0x01) :=
  congrArg Host.Outcome.next (State.asWrite_reserved s who ((pageOf_stagedOffset page reg).symm ▸ h) _)

theorem exec_hostRead_reserved {addr : BitVec 24} (s : State) (ha : addrCode addr.toNat = 0) (h : assigned (pageOf addr.toNat) = false) :
    ∃ t, exec (.hostRead addr 1) s = .next t ∧ t.readData = [0] ∧ NoSuchPage .host s t := by
  refine ⟨_, exec_hostRead_one s ha, ?_, ?_⟩ <;> rw [State.readReg_reserved s.hostBegin .host h]
  · rfl
  · have hread : NoSuchPage .host s { s.hostBegin.result .host addr.toNat 0x01 with readData := [0] } :=
      (State.noSuchPage_result ..).of_hostBegin.upd_readData _
    simp only [State.hostEnd, State.result_accErr]
    exact (hread.trans (State.noSuchPage_result ..)).upd_readData _

/-- Settles O58: on a reserved page every access is barred by the page's code before world, session or offset is looked at,
  and that refusal only leaves its result. -/
theorem reservedPagesReadZero : Obligations.ReservedPagesReadZero := by
  refine ⟨fun who addr data s h => ?_, fun who page reg data s h => ?_, fun addr s h hlt h4 => ?_, fun who a s h => ?_⟩
  · obtain ⟨he, hh, hf, hs, hc, hn, hq⟩ := s.noSuchPage_result who addr.toNat
    exact ⟨_, exec_registerWrite_reserved who data s h, he, hh, hf, hs, hc, hn, hq⟩
  · obtain ⟨he, hh, hf, hs, hc, hn, hq⟩ := s.noSuchPage_result who (page.val * 4096 + 0x800 + 4 * reg.val)
    exact ⟨_, exec_stagedWrite_reserved who reg data s h, he, hh, hf, hs, hc, hn, hq⟩
  · obtain ⟨t, ht, hr, -, hh, hf, hs, hc, hn, hq⟩ := exec_hostRead_reserved s (addrCode_eq_zero hlt h4) h
    exact ⟨t, ht, hr, hh rfl, hf, hs, hc, hn, hq⟩
  · obtain ⟨he, -, hf, -, -, -, hq⟩ := s.noSuchPage_result who a
    rw [State.readReg_reserved s who h]
    exact ⟨rfl, he, hf, hq⟩

end Sys2Proof.Machine
end

section
/-!
O59: a staged write accepted in STATE CHECKING, PASSED or FAILED voids the check (R74).
-/
namespace Sys2Proof.Machine
open Sys2Proof

/-! ## A register and its banked copies -/

@[simp] theorem pageOf_bankAddr (who : Initiator) (a : Nat) : pageOf (bankAddr who a) = pageOf a := by
  simp only [bankAddr]
  split
  · simp only [pageOf]
    omega
  · rfl

@[simp] theorem offOf_bankAddr (who : Initiator) (a : Nat) : offOf (bankAddr who a) = offOf a := by
  simp only [bankAddr]
  split
  · simp only [offOf]
    omega
  · rfl

@[simp] theorem regAt_bankAddr (who : Initiator) (a : Nat) : regAt (bankAddr who a) = regAt a := by
  simp only [regAt, pageOf_bankAddr, offOf_bankAddr]

@[simp] theorem rwsReg_bankAddr (who : Initiator) (a : Nat) : rwsReg (bankAddr who a) = rwsReg a := by
  simp only [rwsReg, regAt_bankAddr]

/-! ## STATE after a staged write and after the end of a check -/

@[simp] theorem State.stagedNow_stage (s : State) (who : Initiator) : (s.stagedNow who).stage = 1 :=
  State.rd_wr _ _ _ (by decide)

/-- A word staged for a register that has configuration fields leaves STATE STAGING. -/
theorem State.stageWord_stage (s : State) (who : Initiator) {a : Nat} (data : Nat) (h : rwsReg a = true) :
    (s.stageWord who a data).stage = 1 := by
  simp only [State.stageWord, rwsReg_bankAddr, h, if_true]
  exact State.stagedNow_stage s who

@[simp] theorem State.stageWord_accErr (s : State) (who : Initiator) (a data : Nat) : (s.stageWord who a data).accErr = s.accErr := by
  have w : Within [.regs, .staged, .stg] s (s.stageWord who a data) :=
    State.stageWord_within (by decide) (by decide) (by decide) .rfl
  exact w.accErr (by decide)

/-- A staged write of a session is taken before ARMED while no other session owns staging (R70, R77). -/
theorem State.stageCode_eq_zero {s : State} {who : Initiator} (hs : s.stage < 5) (hid : who.id ≠ 0)
    (ho : s.rd F.CROWN_STAGE_OWNER_SESSION = 0 ∨ s.rd F.CROWN_STAGE_OWNER_SESSION = who.id) : s.stageCode who = 0 := by
  rcases ho with ho | ho <;> simp [State.stageCode, Nat.not_le.2 hs, hid, ho]

@[simp] theorem State.result_stageCode (s : State) (who w : Initiator) (addr : Nat) : (s.result who addr 0).stageCode w = s.stageCode w := by
  rw [State.result_ok]
  rfl

theorem State.commitRefused_stage (s : State) : s.commitRefused.stage = s.stage :=
  State.rd_wr_apart _ _ _ _ (by decide) (by decide)

/-- The end of a check leaves STATE where no check runs, also where a secure commit ends with it. -/
theorem State.checkDone_stage {s : State} (h : s.stage ≠ 2) : s.checkDone.stage = s.stage := by
  simp only [State.checkDone, if_pos h]
  split
  · exact State.commitRefused_stage s
  · rfl

/-! ## The accepted write -/

theorem exec_stagedWrite_accepted {who : Initiator} {page : Fin 256} {reg : Fin 512} {s : State} (data : BitVec 32)
    (hb : s.barred who (page.val * 4096 + 0x800 + 4 * reg.val) true = 0) (hc : s.stageCode who = 0) :
    exec (.stagedWrite who page reg data) s = .next ((s.result who (page.val * 4096 + 0x800 + 4 * reg.val) 0).stageWord who
      (page.val * 4096 + 4 * reg.val) data.toNat) := by
  change execStagedWrite who page reg data s = _
  rw [execStagedWrite, State.asWrite_ok _ _ _ _ hb, State.stagedWrite]
  simp only [State.result_stageCode, hc, ne_eq, not_true_eq_false, if_false]

/-- Settles O59: the write leaves STATE STAGING, from where the end of the running check does not move it. -/
theorem stagedWriteVoidsCheck : Obligations.StagedWriteVoidsCheck := by
  intro who page reg data s hb hs hid ho hr
  have hc : s.stageCode who = 0 := State.stageCode_eq_zero (by omega) hid ho
  have h1 := State.stageWord_stage (s.result who (page.val * 4096 + 0x800 + 4 * reg.val) 0) who data.toNat hr
  refine ⟨_, exec_stagedWrite_accepted data hb hc, by simp, h1, _, rfl, ?_⟩
  exact (State.checkDone_stage (by omega)).trans h1

end Sys2Proof.Machine
end

section
/-!
The statements about every command and every step: O5 (the frame of every command), O4 (the canonical form of the register file), O6 (the mode),
and the plain facts of the step and of the state after reset (O1, O2, O3).
-/
set_option Elab.async false
namespace Sys2Proof.Machine
open Sys2Proof

/-! ## Every command -/

/-- Settles O5, by cases on the command: for each the frame lemma of its meaning, with the parts that touches lists. -/
theorem everyCommandFramed : Obligations.EveryCommandFramed := by
  intro c s
  cases c
  all_goals dsimp only [Gives, touches]
  case powerOnReset => apply execPowerOnReset_within (h1' := .rfl) <;> decide
  case supplyReset => apply execSupplyReset_within (h1' := .rfl) <;> decide
  case externalResetPin => apply execExternalResetPin_within (h1' := .rfl) <;> decide
  case watchdogReset => apply execWatchdogReset_within (h1' := .rfl) <;> decide
  case softwareWarmReset => apply execSoftwareWarmReset_within (h3' := .rfl) <;> decide
  case pairForcedReset => apply execPairForcedReset_within (h1' := .rfl) <;> decide
  case startComplete => apply execStartComplete_within (h1' := .rfl) <;> decide
  case bankOk => exact execBankOk_within (by decide) .rfl
  case vauxWarning => apply execVauxWarning_within (h0' := .rfl) <;> decide
  case vauxWarningRelease => apply execVauxWarningRelease_within (h0' := .rfl) <;> decide
  case holdMaxExpiry => apply execHoldMaxExpiry_within (h0' := .rfl) <;> decide
  case bankReserve => apply execBankReserve_within (h0' := .rfl) <;> decide
  case vauxReset => apply execVauxReset_within (h0' := .rfl) <;> decide
  case modeReqTransport => apply execModeReqTransport_within (h1' := .rfl) <;> decide
  case modeReqStandby => apply execModeReqStandby_within (h1' := .rfl) <;> decide
  case safeExitJudgement => apply execSafeExitJudgement_within (h0' := .rfl) <;> decide
  case modeReqConnect => apply execModeReqConnect_within (h2' := .rfl) <;> decide
  case modeReqRun => apply execModeReqRun_within (h2' := .rfl) <;> decide
  case modeReqRest => apply execModeReqRest_within (h1' := .rfl) <;> decide
  case modeReqSafeAcknowledge => apply execModeReqSafeAcknowledge_within (h1' := .rfl) <;> decide
  case modeReqService => apply execModeReqService_within (h1' := .rfl) <;> decide
  case modeReqDormant => apply execModeReqDormant_within (h1' := .rfl) <;> decide
  case dormantWake => apply execDormantWake_within (h1' := .rfl) <;> decide
  case aonTimerWake => apply execAonTimerWake_within (h0' := .rfl) <;> decide
  case transportVauxArm => exact execTransportVauxArm_within (by decide) .rfl
  case transportWake => apply execTransportWake_within (h2' := .rfl) <;> decide
  case registerWrite => apply execRegisterWrite_within (h3' := .rfl) <;> decide
  case stagedWrite => apply execStagedWrite_within (h4' := .rfl) <;> decide
  case checkCmd => apply execCheckCmd_within (h4' := .rfl) <;> decide
  case checkComplete => exact execCheckComplete_within (by decide) (by decide) .rfl
  case applyCmd => apply execApplyCmd_within (h4' := .rfl) <;> decide
  case abortCmd => apply execAbortCmd_within (h4' := .rfl) <;> decide
  case discardAll => apply execDiscardAll_within (h4' := .rfl) <;> decide
  case discardCmd => apply execDiscardCmd_within (h2' := .rfl) <;> decide
  case stagingTimeout => apply execStagingTimeout_within (h0' := .rfl) <;> decide
  case applyLaunch => apply execApplyLaunch_within (h0' := .rfl) <;> decide
  case applyLoadDeadline => apply execApplyLoadDeadline_within (h1' := .rfl) <;> decide
  case applyEdge => apply execApplyEdge_within (h0' := .rfl) <;> decide
  case applyTakeupComplete => apply execApplyTakeupComplete_within (h0' := .rfl) <;> decide
  case secureCommit => apply execSecureCommit_within (h2' := .rfl) <;> decide
  case commitStoreComplete => apply execCommitStoreComplete_within (h1' := .rfl) <;> decide
  case evtStatusClear => apply execEvtStatusClear_within (h3' := .rfl) <;> decide
  case retryCntClear => apply execRetryCntClear_within (h2' := .rfl) <;> decide
  case lastingClear => apply execLastingClear_within (h2' := .rfl) <;> decide
  case hostRead => apply execHostRead_within (h2' := .rfl) <;> decide
  case hostWrite => apply execHostWrite_within (h2' := .rfl) <;> decide
  case hostNonce => apply execHostNonce_within (h1' := .rfl) <;> decide
  case hostOpen => apply execHostOpen_within (h2' := .rfl) <;> decide
  case hostClose => apply execHostClose_within (h2' := .rfl) <;> decide
  case hostSessionTimeout => exact execHostSessionTimeout_within (by decide) (by decide) .rfl
  case ralkiulOpen => apply execRalkiulOpen_within (h4' := .rfl) <;> decide
  case ralkiulProof => exact execRalkiulProof_within (by decide) (by decide) (by decide) .rfl
  case ralkiulRead => apply execRalkiulRead_within (h4' := .rfl) <;> decide
  case ralkiulWrite => apply execRalkiulWrite_within (h4' := .rfl) <;> decide
  case ralkiulNotifyAck => exact execRalkiulNotifyAck_within (by decide) (by decide) .rfl
  case ralkiulKeepalive => exact execRalkiulKeepalive_within (by decide) (by decide) .rfl
  case ralkiulClose => apply execRalkiulClose_within (h4' := .rfl) <;> decide
  case ralkiulChallengeLapse => exact execRalkiulChallengeLapse_within (by decide) .rfl
  case ralkiulSessionTimeout => apply execRalkiulSessionTimeout_within (h1' := .rfl) <;> decide
  case notifyRetry => exact execNotifyRetry_within (by decide) (by decide) (by decide) .rfl
  case ringPortLinkDown => apply execRingPortLinkDown_within (h2' := .rfl) <;> decide
  case ringPortSynchronised => exact execRingPortSynchronised_within (by decide) .rfl
  case ringReply => apply execRingReply_within (h5' := .rfl) <;> decide
  case ringReplyTimeout => apply execRingReplyTimeout_within (h5' := .rfl) <;> decide
  case ringSeqRelease => exact execRingSeqRelease_within (by decide) (by decide) .rfl
  case linkReport => apply execLinkReport_within (h1' := .rfl) <;> decide
  case keepalive => exact execKeepalive_within (by decide) (by decide) .rfl
  case keepaliveReturn => apply execKeepaliveReturn_within (h3' := .rfl) <;> decide
  case keepaliveFail => apply execKeepaliveFail_within (h2' := .rfl) <;> decide
  case enumReturn => apply execEnumReturn_within (h1' := .rfl) <;> decide
  case enumTimeout => apply execEnumTimeout_within (h0' := .rfl) <;> decide
  case echoReturn => apply execEchoReturn_within (h3' := .rfl) <;> decide
  case delayPeriod => apply execDelayPeriod_within (h0' := .rfl) <;> decide
  case wakeSequenceReturn => apply execWakeSequenceReturn_within (h0' := .rfl) <;> decide
  case wakeSequenceTimeout => apply execWakeSequenceTimeout_within (h0' := .rfl) <;> decide
  case enumerateCmd => apply execEnumerateCmd_within (h1' := .rfl) <;> decide
  case measureCmd => apply execMeasureCmd_within (h1' := .rfl) <;> decide
  case ringClrErr => apply execRingClrErr_within (h1' := .rfl) <;> decide
  case harvestSlot => apply execHarvestSlot_within (h3' := .rfl) <;> decide
  case pauseLaunch => exact execPauseLaunch_within (by decide) (by decide) .rfl
  case harvestData => apply execHarvestData_within (h6' := .rfl) <;> decide
  case harvestDataDeadline => apply execHarvestDataDeadline_within (h1' := .rfl) <;> decide
  case harvestClose => apply execHarvestClose_within (h1' := .rfl) <;> decide
  case tHarvestDue => exact execTHarvestDue_within (by decide) .rfl
  case tHarvestLaunch => exact execTHarvestLaunch_within (by decide) (by decide) .rfl
  case oneshotV => apply execOneshotV_within (h1' := .rfl) <;> decide
  case oneshotC => apply execOneshotC_within (h1' := .rfl) <;> decide
  case oneshotT => apply execOneshotT_within (h2' := .rfl) <;> decide
  case plausibilityCheck => apply execPlausibilityCheck_within (h0' := .rfl) <;> decide
  case freezeCmd => apply execFreezeCmd_within (h2' := .rfl) <;> decide
  case freezeExpiry => exact execFreezeExpiry_within (by decide) .rfl
  case loopOpen => apply execLoopOpen_within (h1' := .rfl) <;> decide
  case loopClosed => apply execLoopClosed_within (h1' := .rfl) <;> decide
  case planInterval => apply execPlanInterval_within (h0' := .rfl) <;> decide
  case planNow => apply execPlanNow_within (h1' := .rfl) <;> decide
  case balStop => apply execBalStop_within (h1' := .rfl) <;> decide
  case stopConfirmTimeout => apply execStopConfirmTimeout_within (h1' := .rfl) <;> decide
  case clrNfault => apply execClrNfault_within (h1' := .rfl) <;> decide
  case phase0Boundary => apply execPhase0Boundary_within (h0' := .rfl) <;> decide
  case periodStart => apply execPeriodStart_within (h1' := .rfl) <;> decide
  case centreTakeup => exact execCentreTakeup_within (by decide) .rfl
  case cbcTrip => apply execCbcTrip_within (h3' := .rfl) <;> decide
  case faultReturn => apply execFaultReturn_within (h2' := .rfl) <;> decide
  case phaseClrFault => apply execPhaseClrFault_within (h2' := .rfl) <;> decide
  case shedHoldExpiry => exact execShedHoldExpiry_within (by decide) .rfl
  case burstOffEnd => exact execBurstOffEnd_within (by decide) (by decide) .rfl
  case innerSample => apply execInnerSample_within (h4' := .rfl) <;> decide
  case outerSample => apply execOuterSample_within (h1' := .rfl) <;> decide
  case startSample => exact execStartSample_within (by decide) (by decide) (by decide) .rfl
  case loopPlausWindow => apply execLoopPlausWindow_within (h2' := .rfl) <;> decide
  case contactorFeedback => apply execContactorFeedback_within (h2' := .rfl) <;> decide
  case fbCloseTimeout => apply execFbCloseTimeout_within (h1' := .rfl) <;> decide
  case fbRepull => exact execFbRepull_within (by decide) (by decide) .rfl
  case fbOpenTimeout => apply execFbOpenTimeout_within (h1' := .rfl) <;> decide
  case pullInEnd => exact execPullInEnd_within (by decide) .rfl
  case coilOvercurrent => apply execCoilOvercurrent_within (h1' := .rfl) <;> decide
  case prechargePeakWindow => apply execPrechargePeakWindow_within (h1' := .rfl) <;> decide
  case prechargeEnd => apply execPrechargeEnd_within (h1' := .rfl) <;> decide
  case prechargeTimeout => apply execPrechargeTimeout_within (h0' := .rfl) <;> decide
  case startAt => apply execStartAt_within (h0' := .rfl) <;> decide
  case meetHeld => apply execMeetHeld_within (h0' := .rfl) <;> decide
  case meetTimeout => apply execMeetTimeout_within (h0' := .rfl) <;> decide
  case trackingError => apply execTrackingError_within (h0' := .rfl) <;> decide
  case formAt => exact execFormAt_within (by decide) (by decide) (by decide) .rfl
  case formedHeld => apply execFormedHeld_within (h0' := .rfl) <;> decide
  case retryWaitExpiry => apply execRetryWaitExpiry_within (h0' := .rfl) <;> decide
  case disconnectWaitExpiry => apply execDisconnectWaitExpiry_within (h0' := .rfl) <;> decide
  case k6On => apply execK6On_within (h1' := .rfl) <;> decide
  case k6Off => apply execK6Off_within (h1' := .rfl) <;> decide
  case clrWeld => apply execClrWeld_within (h1' := .rfl) <;> decide
  case impedStart => apply execImpedStart_within (h1' := .rfl) <;> decide
  case impedStartEval => apply execImpedStartEval_within (h0' := .rfl) <;> decide
  case impedStop => apply execImpedStop_within (h1' := .rfl) <;> decide
  case impedWindowEnd => apply execImpedWindowEnd_within (h0' := .rfl) <;> decide
  case impedCorrelation => exact execImpedCorrelation_within (by decide) (by decide) (by decide) .rfl
  case impedSetClose => apply execImpedSetClose_within (h0' := .rfl) <;> decide
  case impedRampEnd => apply execImpedRampEnd_within (h0' := .rfl) <;> decide
  case estimatorStep => apply execEstimatorStep_within (h4' := .rfl) <;> decide
  case initCmd => apply execInitCmd_within (h1' := .rfl) <;> decide
  case writeNow => apply execWriteNow_within (h1' := .rfl) <;> decide
  case resetCell => apply execResetCell_within (h1' := .rfl) <;> decide
  case learnedJournalInterval => apply execLearnedJournalInterval_within (h0' := .rfl) <;> decide
  case stateJournalInterval => apply execStateJournalInterval_within (h0' := .rfl) <;> decide
  case journalWriteComplete => apply execJournalWriteComplete_within (h1' := .rfl) <;> decide
  case deferredWrite => apply execDeferredWrite_within (h0' := .rfl) <;> decide
  case thermalUpdate => apply execThermalUpdate_within (h2' := .rfl) <;> decide
  case tjReading => apply execTjReading_within (h2' := .rfl) <;> decide
  case tachCheck => apply execTachCheck_within (h2' := .rfl) <;> decide
  case thermClrFault => apply execThermClrFault_within (h2' := .rfl) <;> decide
  case telemWindowEnd => apply execTelemWindowEnd_within (h8' := .rfl) <;> decide
  case pkClr => apply execPkClr_within (h2' := .rfl) <;> decide
  case cntReset => apply execCntReset_within (h1' := .rfl) <;> decide
  case counterSlotInterval => exact execCounterSlotInterval_within (by decide) .rfl
  case counterLoRead => apply execCounterLoRead_within (h2' := .rfl) <;> decide
  case currentMsg => apply execCurrentMsg_within (h2' := .rfl) <;> decide
  case powerMsg => apply execPowerMsg_within (h2' := .rfl) <;> decide
  case voltageMsg => apply execVoltageMsg_within (h2' := .rfl) <;> decide
  case modeMsg => apply execModeMsg_within (h3' := .rfl) <;> decide
  case impStart => apply execImpStart_within (h2' := .rfl) <;> decide
  case impStop => apply execImpStop_within (h2' := .rfl) <;> decide
  case takeCmd => apply execTakeCmd_within (h2' := .rfl) <;> decide
  case limiterChain => apply execLimiterChain_within (h0' := .rfl) <;> decide
  case statusPeriod => apply execStatusPeriod_within (h0' := .rfl) <;> decide
  case staleTimer => apply execStaleTimer_within (h0' := .rfl) <;> decide
  case staleDrop => apply execStaleDrop_within (h0' := .rfl) <;> decide
  case protEvaluation => apply execProtEvaluation_within (h3' := .rfl) <;> decide
  case islandSample => apply execIslandSample_within (h5' := .rfl) <;> decide
  case srdInput => apply execSrdInput_within (h2' := .rfl) <;> decide
  case safeCmdSrd => apply execSafeCmdSrd_within (h1' := .rfl) <;> decide
  case safeCmdTrip => apply execSafeCmdTrip_within (h1' := .rfl) <;> decide
  case srdRampEnd => apply execSrdRampEnd_within (h0' := .rfl) <;> decide
  case srdCoilTimeout => apply execSrdCoilTimeout_within (h0' := .rfl) <;> decide
  case safeclkStop => apply execSafeclkStop_within (h0' := .rfl) <;> decide
  case twinnedSafetyMessage => apply execTwinnedSafetyMessage_within (h2' := .rfl) <;> decide
  case safetyWatchdog => apply execSafetyWatchdog_within (h1' := .rfl) <;> decide
  case snetStateTx => exact execSnetStateTx_within (by decide) (by decide) .rfl
  case degradeGrant => apply execDegradeGrant_within (h2' := .rfl) <;> decide
  case degradeExpiry => apply execDegradeExpiry_within (h0' := .rfl) <;> decide
  case insulStateEnd => apply execInsulStateEnd_within (h2' := .rfl) <;> decide
  case hallDetectOpen => exact execHallDetectOpen_within (by decide) (by decide) .rfl
  case claimFrameTx => apply execClaimFrameTx_within (h1' := .rfl) <;> decide
  case claimFrameRx => apply execClaimFrameRx_within (h3' := .rfl) <;> decide
  case claimMonitorSilence => apply execClaimMonitorSilence_within (h0' := .rfl) <;> decide
  case heartbeatTx => apply execHeartbeatTx_within (h0' := .rfl) <;> decide
  case heartbeatRx => apply execHeartbeatRx_within (h2' := .rfl) <;> decide
  case pairLinkLost => apply execPairLinkLost_within (h0' := .rfl) <;> decide
  case claimEchoRx => exact execClaimEchoRx_within (by decide) .rfl
  case claimEchoSilence => apply execClaimEchoSilence_within (h0' := .rfl) <;> decide
  case relinquishNotice => apply execRelinquishNotice_within (h1' := .rfl) <;> decide
  case mirrorSnapshot => apply execMirrorSnapshot_within (h2' := .rfl) <;> decide
  case phase0BoundaryMessage => exact execPhase0BoundaryMessage_within (by decide) .rfl
  case islandSelfTest => apply execIslandSelfTest_within (h1' := .rfl) <;> decide
  case switchoverResume => apply execSwitchoverResume_within (h0' := .rfl) <;> decide
  case forcedResetSend => exact execForcedResetSend_within (by decide) (by decide) .rfl
  case switchCmd => apply execSwitchCmd_within (h2' := .rfl) <;> decide
  case unitBClaimWait => apply execUnitBClaimWait_within (h0' := .rfl) <;> decide
  case pairIdChange => exact execPairIdChange_within (by decide) .rfl
  case scanStart => apply execScanStart_within (h1' := .rfl) <;> decide
  case scanPublish => apply execScanPublish_within (h1' := .rfl) <;> decide
  case taskRestart => apply execTaskRestart_within (h2' := .rfl) <;> decide
  case progData => apply execProgData_within (h2' := .rfl) <;> decide
  case progLive => apply execProgLive_within (h1' := .rfl) <;> decide
  case stationInFrame => apply execStationInFrame_within (h2' := .rfl) <;> decide
  case retainInterval => exact execRetainInterval_within (by decide) (by decide) .rfl
  case markerWrite => apply execMarkerWrite_within (h3' := .rfl) <;> decide
  case workItemComplete => apply execWorkItemComplete_within (h1' := .rfl) <;> decide
  case itemTimeout => apply execItemTimeout_within (h3' := .rfl) <;> decide
  case rateInterval => apply execRateInterval_within (h1' := .rfl) <;> decide
  case testRound => apply execTestRound_within (h3' := .rfl) <;> decide
  case rejoinRetest => apply execRejoinRetest_within (h2' := .rfl) <;> decide
  case eccError => apply execEccError_within (h4' := .rfl) <;> decide
  case rselWrite => apply execRselWrite_within (h2' := .rfl) <;> decide
  case rofsWrite => apply execRofsWrite_within (h2' := .rfl) <;> decide
  case rpopWrite => apply execRpopWrite_within (h1' := .rfl) <;> decide
  case clockMonitorWindow => apply execClockMonitorWindow_within (h2' := .rfl) <;> decide
  case xstatClear => apply execXstatClear_within (h1' := .rfl) <;> decide
  case setCmd => apply execSetCmd_within (h2' := .rfl) <;> decide
  case shiftCmd => apply execShiftCmd_within (h2' := .rfl) <;> decide
  case snapCmd => apply execSnapCmd_within (h1' := .rfl) <;> decide
  case nsRead => apply execNsRead_within (h2' := .rfl) <;> decide
  case tb2RateWrite => apply execTb2RateWrite_within (h2' := .rfl) <;> decide
  case syncMsg => apply execSyncMsg_within (h4' := .rfl) <;> decide
  case followUp => apply execFollowUp_within (h3' := .rfl) <;> decide
  case delayResp => apply execDelayResp_within (h3' := .rfl) <;> decide
  case pdelayReq => exact execPdelayReq_within (by decide) (by decide) .rfl
  case pdelayResp => apply execPdelayResp_within (h4' := .rfl) <;> decide
  case pdelayRespFollowUp => apply execPdelayRespFollowUp_within (h3' := .rfl) <;> decide
  case announceMsg => exact execAnnounceMsg_within (by decide) (by decide) .rfl
  case delayReqInterval => exact execDelayReqInterval_within (by decide) (by decide) .rfl
  case announceReceiptTimeout => apply execAnnounceReceiptTimeout_within (h2' := .rfl) <;> decide
  case timestampEntry => apply execTimestampEntry_within (h5' := .rfl) <;> decide
  case timestampEntryStale => exact execTimestampEntryStale_within (by decide) (by decide) .rfl
  case armTrigger => apply execArmTrigger_within (h2' := .rfl) <;> decide
  case disarmTrigger => apply execDisarmTrigger_within (h2' := .rfl) <;> decide
  case leadingEdge => exact execLeadingEdge_within (by decide) (by decide) .rfl
  case trailingEdge => apply execTrailingEdge_within (h1' := .rfl) <;> decide
  case captureEdge => apply execCaptureEdge_within (h4' := .rfl) <;> decide
  case popCapture => apply execPopCapture_within (h2' := .rfl) <;> decide
  case canFrameRx => apply execCanFrameRx_within (h3' := .rfl) <;> decide
  case sendCmd => apply execSendCmd_within (h2' := .rfl) <;> decide
  case txAbort => apply execTxAbort_within (h2' := .rfl) <;> decide
  case recoverCmd => apply execRecoverCmd_within (h2' := .rfl) <;> decide
  case canTxComplete => apply execCanTxComplete_within (h2' := .rfl) <;> decide
  case canTxTimeout => apply execCanTxTimeout_within (h2' := .rfl) <;> decide
  case busOff => apply execBusOff_within (h1' := .rfl) <;> decide
  case busOffRecovered => apply execBusOffRecovered_within (h1' := .rfl) <;> decide
  case canLatch => exact execCanLatch_within (by decide) (by decide) .rfl
  case almanacSubmission => apply execAlmanacSubmission_within (h0' := .rfl) <;> decide
  case almanacMigration => apply execAlmanacMigration_within (h1' := .rfl) <;> decide
  case compactionComplete => apply execCompactionComplete_within (h0' := .rfl) <;> decide
  case latchCmd => apply execLatchCmd_within (h1' := .rfl) <;> decide
  case rseqSelect => apply execRseqSelect_within (h2' := .rfl) <;> decide
  case headerOp => apply execHeaderOp_within (h1' := .rfl) <;> decide
  case tableOp => apply execTableOp_within (h1' := .rfl) <;> decide
  case blockOp => apply execBlockOp_within (h2' := .rfl) <;> decide
  case finishOp => apply execFinishOp_within (h1' := .rfl) <;> decide
  case updateAbort => apply execUpdateAbort_within (h1' := .rfl) <;> decide
  case updateTransferTimeout => exact execUpdateTransferTimeout_within (by decide) (by decide) .rfl
  case activateCmd => apply execActivateCmd_within (h3' := .rfl) <;> decide
  case disarmCmd => apply execDisarmCmd_within (h1' := .rfl) <;> decide
  case confirmCmd => apply execConfirmCmd_within (h2' := .rfl) <;> decide
  case keyWrite => apply execKeyWrite_within (h2' := .rfl) <;> decide
  case jubileePrepare => apply execJubileePrepare_within (h0' := .rfl) <;> decide
  case jubileePoint => apply execJubileePoint_within (h1' := .rfl) <;> decide
  case confirmation => apply execConfirmation_within (h0' := .rfl) <;> decide
  case confirmWindowSave => exact execConfirmWindowSave_within (by decide) (by decide) .rfl
  case confirmWindowExpiry => apply execConfirmWindowExpiry_within (h0' := .rfl) <;> decide
  case classLStoreWrite => exact execClassLStoreWrite_within (by decide) .rfl
  case gtestGo => apply execGtestGo_within (h2' := .rfl) <;> decide
  case gstopCmd => apply execGstopCmd_within (h1' := .rfl) <;> decide
  case gtestEnd => apply execGtestEnd_within (h0' := .rfl) <;> decide
  case unlockCmd => apply execUnlockCmd_within (h2' := .rfl) <;> decide
  case relockCmd => apply execRelockCmd_within (h1' := .rfl) <;> decide
  case unlockExpiry => apply execUnlockExpiry_within (h0' := .rfl) <;> decide
  case svcTimeout => apply execSvcTimeout_within (h0' := .rfl) <;> decide
  case tmxSelect => apply execTmxSelect_within (h3' := .rfl) <;> decide
  case tapInstruction => exact execTapInstruction_within (by decide) (by decide) .rfl
  case preCheckReread => apply execPreCheckReread_within (h1' := .rfl) <;> decide
  case vcoilLow => apply execVcoilLow_within (h1' := .rfl) <;> decide
  case diChange => apply execDiChange_within (h1' := .rfl) <;> decide
  case errorFrame => apply execErrorFrame_within (h5' := .rfl) <;> decide
  case linkUp => exact execLinkUp_within (by decide) .rfl
  case sdsAvail => exact execSdsAvail_within (by decide) (by decide) .rfl
  case bankOkLoss => exact execBankOkLoss_within (by decide) .rfl
  case arpRequest => exact execArpRequest_within (by decide) .rfl
  case icmpEcho => exact execIcmpEcho_within (by decide) .rfl

theorem State.canonical_of_within {T : List Part} {s t : State} (h : Within T s t) (hs : s.canonical) : t.canonical :=
  h.canon hs

/-- The parts of the state that a clock of the block by itself may change. -/
def tickParts : List Part := [.regs, .staged, .shadow, .out, .accErr, .readData, .tb, .crown, .stg, .q91, .pwm, .loop, .track, .prot, .host, .rk, .scan, .imp, .est, .tmx, .disp, .eng, .ringSt, .harv, .bal, .therm, .tele, .nvm, .time, .can, .pair, .alm]

theorem State.tick_canonical {s : State} (hs : s.canonical) : s.tick.canonical := by
  refine State.canonical_of_within (T := tickParts) ?_ hs
  apply State.tick_within (h0' := .rfl) <;> decide

/-- Settles O4: the idle clock and, by everyCommandFramed, every command write the register file through setWord alone. -/
theorem canonicalKept : Obligations.CanonicalKept := by
  intro s t hs ht
  cases hp : s.pending with
  | nil =>
    simp only [step, hp, Host.Outcome.next.injEq] at ht
    exact ht ▸ State.tick_canonical hs
  | cons c rest =>
    simp only [step, hp] at ht
    obtain ⟨u, hu, hw⟩ := everyCommandFramed c { s with pending := rest }
    obtain rfl : u = t := by simpa [hu] using ht
    exact State.canonical_of_within hw hs

/-! ## The mode -/
/-- A meaning that leaves the mode field leaves the mode. -/
theorem mode_of_next {o : Host.Outcome State Fault Refusal} {s t : State}
    (h : ∃ u, o = .next u ∧ RdIs F.CROWN_MODE_MODE (s.rd F.CROWN_MODE_MODE) u) (ht : o = .next t) : t.mode = s.mode := by
  obtain ⟨u, rfl, hu⟩ := h
  obtain rfl : u = t := by simpa using ht
  exact State.mode_of_rdIs hu

/-- Settles O6, by cases on the command: for each that keepsMode lists the lemma that its meaning leaves CROWN.MODE.MODE. -/
theorem modeKept : Obligations.ModeKept := by
  intro c s t hk ht
  cases c with
  | bankOk => exact mode_of_next (execBankOk_mode rfl) ht
  | dormantWake => exact mode_of_next (execDormantWake_mode rfl) ht
  | aonTimerWake => exact mode_of_next (execAonTimerWake_mode rfl) ht
  | transportVauxArm => exact mode_of_next (execTransportVauxArm_mode rfl) ht
  | stagedWrite => exact mode_of_next (execStagedWrite_mode rfl) ht
  | discardCmd => exact mode_of_next (execDiscardCmd_mode rfl) ht
  | stagingTimeout => exact mode_of_next (execStagingTimeout_mode rfl) ht
  | commitStoreComplete => exact mode_of_next (execCommitStoreComplete_mode rfl) ht
  | retryCntClear => exact mode_of_next (execRetryCntClear_mode rfl) ht
  | lastingClear => exact mode_of_next (execLastingClear_mode rfl) ht
  | hostNonce => exact mode_of_next (execHostNonce_mode rfl) ht
  | hostOpen => exact mode_of_next (execHostOpen_mode rfl) ht
  | hostClose => exact mode_of_next (execHostClose_mode rfl) ht
  | hostSessionTimeout => exact mode_of_next (execHostSessionTimeout_mode rfl) ht
  | ralkiulOpen => exact mode_of_next (execRalkiulOpen_mode rfl) ht
  | ralkiulProof => exact mode_of_next (execRalkiulProof_mode rfl) ht
  | ralkiulNotifyAck => exact mode_of_next (execRalkiulNotifyAck_mode rfl) ht
  | ralkiulKeepalive => exact mode_of_next (execRalkiulKeepalive_mode rfl) ht
  | ralkiulClose => exact mode_of_next (execRalkiulClose_mode rfl) ht
  | ralkiulChallengeLapse => exact mode_of_next (execRalkiulChallengeLapse_mode rfl) ht
  | ralkiulSessionTimeout => exact mode_of_next (execRalkiulSessionTimeout_mode rfl) ht
  | notifyRetry => exact mode_of_next (execNotifyRetry_mode rfl) ht
  | ringPortLinkDown => exact mode_of_next (execRingPortLinkDown_mode rfl) ht
  | ringPortSynchronised => exact mode_of_next (execRingPortSynchronised_mode rfl) ht
  | ringReply => exact mode_of_next (execRingReply_mode rfl) ht
  | ringReplyTimeout => exact mode_of_next (execRingReplyTimeout_mode rfl) ht
  | ringSeqRelease => exact mode_of_next (execRingSeqRelease_mode rfl) ht
  | linkReport => exact mode_of_next (execLinkReport_mode rfl) ht
  | keepalive => exact mode_of_next (execKeepalive_mode rfl) ht
  | keepaliveReturn => exact mode_of_next (execKeepaliveReturn_mode rfl) ht
  | keepaliveFail => exact mode_of_next (execKeepaliveFail_mode rfl) ht
  | enumReturn => exact mode_of_next (execEnumReturn_mode rfl) ht
  | enumTimeout => exact mode_of_next (execEnumTimeout_mode rfl) ht
  | echoReturn => exact mode_of_next (execEchoReturn_mode rfl) ht
  | delayPeriod => exact mode_of_next (execDelayPeriod_mode rfl) ht
  | wakeSequenceReturn => exact mode_of_next (execWakeSequenceReturn_mode rfl) ht
  | wakeSequenceTimeout => exact mode_of_next (execWakeSequenceTimeout_mode rfl) ht
  | enumerateCmd => exact mode_of_next (execEnumerateCmd_mode rfl) ht
  | measureCmd => exact mode_of_next (execMeasureCmd_mode rfl) ht
  | harvestSlot => exact mode_of_next (execHarvestSlot_mode rfl) ht
  | pauseLaunch => exact mode_of_next (execPauseLaunch_mode rfl) ht
  | harvestData => exact mode_of_next (execHarvestData_mode rfl) ht
  | harvestDataDeadline => exact mode_of_next (execHarvestDataDeadline_mode rfl) ht
  | harvestClose => exact mode_of_next (execHarvestClose_mode rfl) ht
  | tHarvestDue => exact mode_of_next (execTHarvestDue_mode rfl) ht
  | tHarvestLaunch => exact mode_of_next (execTHarvestLaunch_mode rfl) ht
  | oneshotV => exact mode_of_next (execOneshotV_mode rfl) ht
  | oneshotC => exact mode_of_next (execOneshotC_mode rfl) ht
  | oneshotT => exact mode_of_next (execOneshotT_mode rfl) ht
  | freezeCmd => exact mode_of_next (execFreezeCmd_mode rfl) ht
  | freezeExpiry => exact mode_of_next (execFreezeExpiry_mode rfl) ht
  | loopClosed => exact mode_of_next (execLoopClosed_mode rfl) ht
  | planInterval => exact mode_of_next (execPlanInterval_mode rfl) ht
  | planNow => exact mode_of_next (execPlanNow_mode rfl) ht
  | balStop => exact mode_of_next (execBalStop_mode rfl) ht
  | stopConfirmTimeout => exact mode_of_next (execStopConfirmTimeout_mode rfl) ht
  | clrNfault => exact mode_of_next (execClrNfault_mode rfl) ht
  | periodStart => exact mode_of_next (execPeriodStart_mode rfl) ht
  | centreTakeup => exact mode_of_next (execCentreTakeup_mode rfl) ht
  | cbcTrip => exact mode_of_next (execCbcTrip_mode rfl) ht
  | phaseClrFault => exact mode_of_next (execPhaseClrFault_mode rfl) ht
  | shedHoldExpiry => exact mode_of_next (execShedHoldExpiry_mode rfl) ht
  | burstOffEnd => exact mode_of_next (execBurstOffEnd_mode rfl) ht
  | startSample => exact mode_of_next (execStartSample_mode rfl) ht
  | fbRepull => exact mode_of_next (execFbRepull_mode rfl) ht
  | pullInEnd => exact mode_of_next (execPullInEnd_mode rfl) ht
  | coilOvercurrent => exact mode_of_next (execCoilOvercurrent_mode rfl) ht
  | startAt => exact mode_of_next (execStartAt_mode rfl) ht
  | formAt => exact mode_of_next (execFormAt_mode rfl) ht
  | k6On => exact mode_of_next (execK6On_mode rfl) ht
  | k6Off => exact mode_of_next (execK6Off_mode rfl) ht
  | clrWeld => exact mode_of_next (execClrWeld_mode rfl) ht
  | impedStart => exact mode_of_next (execImpedStart_mode rfl) ht
  | impedStartEval => exact mode_of_next (execImpedStartEval_mode rfl) ht
  | impedStop => exact mode_of_next (execImpedStop_mode rfl) ht
  | impedWindowEnd => exact mode_of_next (execImpedWindowEnd_mode rfl) ht
  | impedCorrelation => exact mode_of_next (execImpedCorrelation_mode rfl) ht
  | impedSetClose => exact mode_of_next (execImpedSetClose_mode rfl) ht
  | impedRampEnd => exact mode_of_next (execImpedRampEnd_mode rfl) ht
  | writeNow => exact mode_of_next (execWriteNow_mode rfl) ht
  | learnedJournalInterval => exact mode_of_next (execLearnedJournalInterval_mode rfl) ht
  | stateJournalInterval => exact mode_of_next (execStateJournalInterval_mode rfl) ht
  | journalWriteComplete => exact mode_of_next (execJournalWriteComplete_mode rfl) ht
  | deferredWrite => exact mode_of_next (execDeferredWrite_mode rfl) ht
  | thermClrFault => exact mode_of_next (execThermClrFault_mode rfl) ht
  | telemWindowEnd => exact mode_of_next (execTelemWindowEnd_mode rfl) ht
  | pkClr => exact mode_of_next (execPkClr_mode rfl) ht
  | cntReset => exact mode_of_next (execCntReset_mode rfl) ht
  | counterSlotInterval => exact mode_of_next (execCounterSlotInterval_mode rfl) ht
  | counterLoRead => exact mode_of_next (execCounterLoRead_mode rfl) ht
  | limiterChain => exact mode_of_next (execLimiterChain_mode rfl) ht
  | statusPeriod => exact mode_of_next (execStatusPeriod_mode rfl) ht
  | staleTimer => exact mode_of_next (execStaleTimer_mode rfl) ht
  | snetStateTx => exact mode_of_next (execSnetStateTx_mode rfl) ht
  | degradeGrant => exact mode_of_next (execDegradeGrant_mode rfl) ht
  | degradeExpiry => exact mode_of_next (execDegradeExpiry_mode rfl) ht
  | hallDetectOpen => exact mode_of_next (execHallDetectOpen_mode rfl) ht
  | heartbeatTx => exact mode_of_next (execHeartbeatTx_mode rfl) ht
  | pairLinkLost => exact mode_of_next (execPairLinkLost_mode rfl) ht
  | claimEchoRx => exact mode_of_next (execClaimEchoRx_mode rfl) ht
  | phase0BoundaryMessage => exact mode_of_next (execPhase0BoundaryMessage_mode rfl) ht
  | forcedResetSend => exact mode_of_next (execForcedResetSend_mode rfl) ht
  | switchCmd => exact mode_of_next (execSwitchCmd_mode rfl) ht
  | unitBClaimWait => exact mode_of_next (execUnitBClaimWait_mode rfl) ht
  | pairIdChange => exact mode_of_next (execPairIdChange_mode rfl) ht
  | scanPublish => exact mode_of_next (execScanPublish_mode rfl) ht
  | taskRestart => exact mode_of_next (execTaskRestart_mode rfl) ht
  | progLive => exact mode_of_next (execProgLive_mode rfl) ht
  | stationInFrame => exact mode_of_next (execStationInFrame_mode rfl) ht
  | retainInterval => exact mode_of_next (execRetainInterval_mode rfl) ht
  | markerWrite => exact mode_of_next (execMarkerWrite_mode rfl) ht
  | workItemComplete => exact mode_of_next (execWorkItemComplete_mode rfl) ht
  | rselWrite => exact mode_of_next (execRselWrite_mode rfl) ht
  | rofsWrite => exact mode_of_next (execRofsWrite_mode rfl) ht
  | rpopWrite => exact mode_of_next (execRpopWrite_mode rfl) ht
  | xstatClear => exact mode_of_next (execXstatClear_mode rfl) ht
  | setCmd => exact mode_of_next (execSetCmd_mode rfl) ht
  | shiftCmd => exact mode_of_next (execShiftCmd_mode rfl) ht
  | snapCmd => exact mode_of_next (execSnapCmd_mode rfl) ht
  | nsRead => exact mode_of_next (execNsRead_mode rfl) ht
  | tb2RateWrite => exact mode_of_next (execTb2RateWrite_mode rfl) ht
  | syncMsg => exact mode_of_next (execSyncMsg_mode rfl) ht
  | followUp => exact mode_of_next (execFollowUp_mode rfl) ht
  | delayResp => exact mode_of_next (execDelayResp_mode rfl) ht
  | pdelayReq => exact mode_of_next (execPdelayReq_mode rfl) ht
  | pdelayResp => exact mode_of_next (execPdelayResp_mode rfl) ht
  | pdelayRespFollowUp => exact mode_of_next (execPdelayRespFollowUp_mode rfl) ht
  | announceMsg => exact mode_of_next (execAnnounceMsg_mode rfl) ht
  | delayReqInterval => exact mode_of_next (execDelayReqInterval_mode rfl) ht
  | announceReceiptTimeout => exact mode_of_next (execAnnounceReceiptTimeout_mode rfl) ht
  | timestampEntry => exact mode_of_next (execTimestampEntry_mode rfl) ht
  | timestampEntryStale => exact mode_of_next (execTimestampEntryStale_mode rfl) ht
  | armTrigger => exact mode_of_next (execArmTrigger_mode rfl) ht
  | disarmTrigger => exact mode_of_next (execDisarmTrigger_mode rfl) ht
  | leadingEdge => exact mode_of_next (execLeadingEdge_mode rfl) ht
  | trailingEdge => exact mode_of_next (execTrailingEdge_mode rfl) ht
  | captureEdge => exact mode_of_next (execCaptureEdge_mode rfl) ht
  | popCapture => exact mode_of_next (execPopCapture_mode rfl) ht
  | canFrameRx => exact mode_of_next (execCanFrameRx_mode rfl) ht
  | sendCmd => exact mode_of_next (execSendCmd_mode rfl) ht
  | txAbort => exact mode_of_next (execTxAbort_mode rfl) ht
  | recoverCmd => exact mode_of_next (execRecoverCmd_mode rfl) ht
  | canTxComplete => exact mode_of_next (execCanTxComplete_mode rfl) ht
  | canTxTimeout => exact mode_of_next (execCanTxTimeout_mode rfl) ht
  | busOff => exact mode_of_next (execBusOff_mode rfl) ht
  | busOffRecovered => exact mode_of_next (execBusOffRecovered_mode rfl) ht
  | canLatch => exact mode_of_next (execCanLatch_mode rfl) ht
  | almanacSubmission => exact mode_of_next (execAlmanacSubmission_mode rfl) ht
  | almanacMigration => exact mode_of_next (execAlmanacMigration_mode rfl) ht
  | compactionComplete => exact mode_of_next (execCompactionComplete_mode rfl) ht
  | latchCmd => exact mode_of_next (execLatchCmd_mode rfl) ht
  | rseqSelect => exact mode_of_next (execRseqSelect_mode rfl) ht
  | updateTransferTimeout => exact mode_of_next (execUpdateTransferTimeout_mode rfl) ht
  | keyWrite => exact mode_of_next (execKeyWrite_mode rfl) ht
  | jubileePrepare => exact mode_of_next (execJubileePrepare_mode rfl) ht
  | confirmation => exact mode_of_next (execConfirmation_mode rfl) ht
  | confirmWindowSave => exact mode_of_next (execConfirmWindowSave_mode rfl) ht
  | classLStoreWrite => exact mode_of_next (execClassLStoreWrite_mode rfl) ht
  | gtestGo => exact mode_of_next (execGtestGo_mode rfl) ht
  | gstopCmd => exact mode_of_next (execGstopCmd_mode rfl) ht
  | gtestEnd => exact mode_of_next (execGtestEnd_mode rfl) ht
  | unlockCmd => exact mode_of_next (execUnlockCmd_mode rfl) ht
  | relockCmd => exact mode_of_next (execRelockCmd_mode rfl) ht
  | unlockExpiry => exact mode_of_next (execUnlockExpiry_mode rfl) ht
  | tmxSelect => exact mode_of_next (execTmxSelect_mode rfl) ht
  | tapInstruction => exact mode_of_next (execTapInstruction_mode rfl) ht
  | vcoilLow => exact mode_of_next (execVcoilLow_mode rfl) ht
  | diChange => exact mode_of_next (execDiChange_mode rfl) ht
  | errorFrame => exact mode_of_next (execErrorFrame_mode rfl) ht
  | linkUp => exact mode_of_next (execLinkUp_mode rfl) ht
  | sdsAvail => exact mode_of_next (execSdsAvail_mode rfl) ht
  | bankOkLoss => exact mode_of_next (execBankOkLoss_mode rfl) ht
  | arpRequest => exact mode_of_next (execArpRequest_mode rfl) ht
  | icmpEcho => exact mode_of_next (execIcmpEcho_mode rfl) ht
  | _ => cases hk

/-! ## The step and the state after reset -/

/-- Settles O1: the step reads the front of the queue. -/
theorem stepRunsFront : Obligations.StepRunsFront := fun _ _ _ => rfl

/-- Settles O2: the idle step is tick by definition, and the opcode table gives no row bits. -/
theorem idleStepAndWords : Obligations.IdleStepAndWords :=
  ⟨fun s hp => by rw [step, hp], fun _ _ _ => ⟨rfl, rfl⟩⟩

theorem State.reset_word (a : Nat) : State.reset.word a = resetWord a := rfl

theorem State.reset_mode : State.reset.mode = .standby := by
  rw [State.mode, State.rd, State.reset_word]
  decide

/-- The header of each assigned page holds its layout version, 1.0 (R64). -/
theorem resetWord_version : ∀ p ∈ RegTable.assignedPages, (resetWord (p * 4096 + 0x004)).toNat = 0x100 := by
  simp only [RegTable.assignedPages, List.forall_mem_cons]
  decide

/-- Settles O3: with no register listed every register reads its reset word. -/
theorem resetState : Obligations.ResetState := by
  refine ⟨⟨rfl, fun e he => absurd he List.not_mem_nil⟩, rfl, rfl, rfl, rfl, State.reset_mode, State.reset_word, fun p hp => ?_⟩
  have hv := resetWord_version p.val (by simpa [assigned] using hp)
  simp only [State.rd, State.reset_word, pageFld, Fld.get, hv]
  decide

end Sys2Proof.Machine
end

section
/-!
Which register fields differ after the plain operations of the register file, and what an access that nothing bars leaves.
-/
set_option Elab.async false
namespace Sys2Proof.Machine
open Sys2Proof

/-! ## The fields that an operation may change -/

section Fields
variable {l : List Fld} {s t : State}

theorem OnlyFields.of_regs (h : t.regs = s.regs) : OnlyFields l s t := fun g _ => State.rd_regs h g

theorem OnlyFields.refl : OnlyFields l s s := .of_regs rfl

theorem OnlyFields.upd {u : State} (h : OnlyFields l s t) (hr : u.regs = t.regs) : OnlyFields l s u := h.trans (.of_regs hr)

theorem OnlyFields.wr (h : OnlyFields l s t) {f : Fld} (n : Nat) (hf : f.fits) (hl : f ∈ l) : OnlyFields l s (t.wr f n) :=
  h.trans (t.onlyFields_wr n hf hl)

theorem OnlyFields.wrB (h : OnlyFields l s t) {f : Fld} (b : Bool) (hf : f.fits) (hl : f ∈ l) : OnlyFields l s (t.wrB f b) :=
  h.wr _ hf hl

theorem OnlyFields.wrI (h : OnlyFields l s t) {f : Fld} (i : Int) (hf : f.fits) (hl : f ∈ l) : OnlyFields l s (t.wrI f i) :=
  h.wr _ hf hl

theorem OnlyFields.bump (h : OnlyFields l s t) {f : Fld} (n : Nat) (hf : f.fits) (hl : f ∈ l) : OnlyFields l s (t.bump f n) :=
  h.wr _ hf hl

theorem OnlyFields.wrBit (h : OnlyFields l s t) {f : Fld} (k : Nat) (b : Bool) (hf : f.fits) (hl : f ∈ l) : OnlyFields l s (t.wrBit f k b) :=
  h.wr _ hf hl

theorem OnlyFields.raise (h : OnlyFields l s t) {page : Nat} (bit : Nat) (hl : evtStatus page ∈ l) : OnlyFields l s (t.raise page bit) :=
  h.trans fun g hg => t.rd_raise g page bit (hg _ hl)

theorem OnlyFields.ite {c : Prop} [Decidable c] {a b : State} (ha : OnlyFields l s a) (hb : OnlyFields l s b) :
    OnlyFields l s (if c then a else b) := by
  split <;> assumption

theorem OnlyFields.mono {m : List Fld} (h : OnlyFields l s t) (hm : ∀ f ∈ l, f ∈ m) : OnlyFields m s t :=
  fun g hg => h g fun f hf => hg f (hm f hf)

/-- A field apart from all that may change reads as before. -/
theorem OnlyFields.rd (h : OnlyFields l s t) {g : Fld} (hg : ∀ f ∈ l, f.apart g) : t.rd g = s.rd g := h g hg

end Fields

/-! ## Completion -/

/-- A command completes with the state that its meaning equals. -/
theorem Gives.of_eq {c : Instr} {s t u : State} {P : State → Prop} (hx : exec c s = .next u) (he : u = t) (hp : P t) : Gives c s P :=
  ⟨t, he ▸ hx, hp⟩

/-! ## Reads that name no field -/

@[simp] theorem State.mode_result (s : State) (who : Initiator) (a : Nat) : (s.result who a 0).mode = s.mode := by
  simp [State.mode]

@[simp] theorem State.on_result (s : State) (who : Initiator) (a : Nat) (f : Fld) : (s.result who a 0).on f = s.on f := by
  simp [State.on]

@[simp] theorem State.bit_result (s : State) (who : Initiator) (a k : Nat) (f : Fld) : (s.result who a 0).bit f k = s.bit f k := by
  simp [State.bit]

theorem State.on_eq_true {s : State} {f : Fld} : s.on f = true ↔ s.rd f ≠ 0 := by
  simp [State.on]

theorem State.on_eq_false {s : State} {f : Fld} : s.on f = false ↔ s.rd f = 0 := by
  simp [State.on]

end Sys2Proof.Machine
end

section
/-!
O7: what resets clear and what they keep, and which wait or are refused (R47 to R50, R56, R82, R430).
-/
set_option Elab.async false
namespace Sys2Proof.Machine
open Sys2Proof

/-! ## The time bases over a reset -/

/-- Only the kinds that restart from step 5 keep the time bases (Table 2-6). -/
theorem State.keepsTime_of_not_warm {s : State} {k : ResetKind} {i : Start} (hk : k.warm = false) : s.keepsTime k i = false := by
  simp [State.keepsTime, hk]

/-- A reset of a kind that is not warm leaves the time bases at reset. -/
theorem State.restart_cold (s : State) {k : ResetKind} (i : Start) (hk : k.warm = false) : Restarted (s.restart k i) ∧ (s.restart k i).tb = [] := by
  obtain ⟨hr, ht⟩ := s.restart_parts k i
  exact ⟨hr, by simpa [State.keepsTime_of_not_warm hk] using ht⟩

/-- The access by which a reset is asked for leaves nothing that the reset keeps. -/
theorem State.restart_result (s : State) (who : Initiator) (a : Nat) (k : ResetKind) (i : Start) :
    (s.result who a 0).keepsTime k i = s.keepsTime k i := by
  rw [State.result_ok]
  simp only [State.keepsTime, State.degradeLost]
  by_cases h : s.on F.SNET_STATUS_DEGRADED = true
  · have h' : State.on { s with accErr := 0, host := if who = .host then { s.host with err := 0 } else s.host } F.SNET_STATUS_DEGRADED = true := h
    rw [if_pos h, if_pos h']
    rfl
  · have h' : ¬ State.on { s with accErr := 0, host := if who = .host then { s.host with err := 0 } else s.host } F.SNET_STATUS_DEGRADED = true := h
    rw [if_neg h, if_neg h']
    rfl

/-! ## A reset and a take-up under way -/

theorem State.resetOr_takeUp {s : State} (k : ResetKind) (i : Start) (h : s.stg.takeUp = true) :
    s.resetOr k i = { s with crown := { s.crown with heldReset := some (k, i) } } := if_pos h

theorem State.resetOr_now {s : State} (k : ResetKind) (i : Start) (h : s.stg.takeUp = false) : s.resetOr k i = s.restart k i :=
  if_neg (by simp [h])

/-! ## The software warm reset -/

section
variable {s : State} {who : Initiator} (hb : s.barred who A.RESET_CMD true = 0)
include hb

theorem exec_softwareWarmReset_key : exec (.softwareWarmReset who 0xA5C3 1) s = .next ((s.result who A.RESET_CMD 0).resetCmd 0x1A5C3) := by
  change execSoftwareWarmReset who 0xA5C3 1 s = _
  rw [execSoftwareWarmReset, State.asWrite_ok _ _ _ _ hb]
  rfl

/-- Outside CONNECT, RUN and HOLD, and in a unit that is not in control, the key resets the module (R49). -/
theorem exec_softwareWarmReset_taken (ht : s.stg.takeUp = false)
    (hm : 2 ≤ s.rd F.PAIR_STATUS_ROLE ∨ (s.mode ≠ .connect ∧ s.mode ≠ .run ∧ s.mode ≠ .hold)) :
    exec (.softwareWarmReset who 0xA5C3 1) s =
      .next ((s.result who A.RESET_CMD 0).restart .softwareWarm (s.result who A.RESET_CMD 0).startNow) := by
  have hc : ¬ (s.rd F.PAIR_STATUS_ROLE < 2 && (s.mode == .connect || s.mode == .run || s.mode == .hold)) = true := by
    rcases hm with hr | ⟨h1, h2, h3⟩
    · simp [Nat.not_lt.2 hr]
    · simp [h1, h2, h3]
  rw [exec_softwareWarmReset_key hb, State.resetCmd, if_neg (by decide), State.mode_result, State.rd_result, if_neg hc,
    State.resetOr_now _ _ (by simpa using ht)]

/-- In CONNECT, RUN and HOLD a unit in control refuses it (R49). -/
theorem exec_softwareWarmReset_refused (hr : s.rd F.PAIR_STATUS_ROLE < 2) (hm : s.mode = .connect ∨ s.mode = .run ∨ s.mode = .hold) :
    exec (.softwareWarmReset who 0xA5C3 1) s = .next ((s.result who A.RESET_CMD 0).wrB F.RESET_CAUSE_REFUSED true) := by
  have hc : (s.rd F.PAIR_STATUS_ROLE < 2 && (s.mode == .connect || s.mode == .run || s.mode == .hold)) = true := by
    rcases hm with h | h | h <;> simp [hr, h]
  rw [exec_softwareWarmReset_key hb, State.resetCmd, if_neg (by decide), State.mode_result, State.rd_result, if_pos hc]

end

/-- The start of a reset that the module takes itself does not see the access that asked for it. -/
@[simp] theorem State.startNow_result (s : State) (who : Initiator) (a : Nat) : (s.result who a 0).startNow = s.startNow := by
  simp [State.startNow]

/-- VAUX below its reset level resets the module in SAFE and SERVICE while no other source feeds it (R556). -/
theorem State.lowReset_taken {s : State} (hv : s.crown.vauxLow = true) (hm : s.mode = .safe ∨ s.mode = .service)
    (hp : s.crown.phase = .complete) (hs : s.on F.SUPPLY_STATUS_SDS_ACTIVE = false) :
    s.lowReset = s.almDrain.restart .supply { s.startNow with vaux := false } := by
  rcases hm with hm | hm <;> simp [State.lowReset, hv, hm, hp, hs]

/-- Settles O7: each reset is State.restart, of which restart_parts says what it clears, or waits for the take-up, or is refused. -/
theorem resetsClear : Obligations.ResetsClear := by
  refine ⟨fun i s => ?_, fun i s => ?_, fun i s ht => ?_, fun i s ht => ?_, fun who s hb ht hm => ?_, fun i s hp ht => ?_, fun i s hm ha => ?_,
    fun i s hm ha => ?_, fun s hm hp hs => ?_, fun i s ht => ?_, fun i s ht => ?_, fun who s hb hr hm => ?_⟩
  · exact ⟨_, rfl, s.restart_cold i rfl⟩
  · exact ⟨_, rfl, s.restart_cold i rfl⟩
  · exact .of_eq rfl (State.resetOr_now _ i ht) (s.restart_cold i rfl)
  · exact .of_eq rfl (State.resetOr_now _ i ht) (s.restart_parts .watchdog i)
  · refine ⟨_, exec_softwareWarmReset_taken hb ht hm, ?_⟩
    have h := (s.result who A.RESET_CMD 0).restart_parts .softwareWarm s.startNow
    rw [State.restart_result, State.result_tb] at h
    rwa [State.startNow_result]
  · exact .of_eq rfl ((if_pos hp).trans (State.resetOr_now _ i ht)) (s.restart_parts .pairForced i)
  · exact .of_eq rfl (if_pos (by simp [hm, ha])) (s.restart_cold i rfl)
  · exact .of_eq rfl (if_pos (by simp [hm, ha])) (s.restart_cold i rfl)
  · exact .of_eq rfl (State.lowReset_taken rfl hm hp hs) (State.restart_cold _ _ rfl)
  · exact .of_eq rfl (State.resetOr_takeUp _ i ht) ⟨rfl, rfl⟩
  · exact .of_eq rfl (State.resetOr_takeUp _ i ht) ⟨rfl, rfl⟩
  · refine ⟨_, exec_softwareWarmReset_refused hb hr hm, State.rd_wrB _ _ _ (by decide) (by decide), ?_⟩
    exact (OnlyFields.of_regs (State.result_regs ..)).wrB _ (by decide) (by simp)

end Sys2Proof.Machine
end

section
/-!
O12 fails: a staged write to a banked register (R92, R416) goes to the writer's copy, 2^20 × session above the register's own address.
-/
set_option Elab.async false
namespace Sys2Proof.Machine
open Sys2Proof

/-- A staged write of a banked register leaves the staged word at the register's own address. -/
theorem State.stagedWord_stageWord_banked {s : State} {who : Initiator} {a : Nat} (data : Nat) (hw : rwsReg a = true)
    (hb : bankAddr who a ≠ a) : (s.stageWord who a data).stagedWord a = mget ((s.stagedNow who).word a) s.staged a := by
  simp only [State.stageWord, rwsReg_bankAddr, hw, if_true, State.stagedWord]
  rw [mget_mins_other _ _ _ _ _ hb, mget_mdel, if_neg hb]
  rfl

/-- The state after reset with the host's session open in the secure world. -/
def secureHost : State := State.reset.wr F.HOST_SESS_SECURE 1

/-- Refutes O12: of the event enables of the QREAD page the host's copy is staged, and the register's own address keeps its word. -/
theorem not_stagedWrites : ¬ Obligations.StagedWrites := by
  rintro ⟨h, -⟩
  have hb : secureHost.barred .host (0x12 * 4096 + 0x800 + 4 * 5) true = 0 := by decide
  have howner : secureHost.rd F.CROWN_STAGE_OWNER_SESSION = 0 := by decide
  have hstage : secureHost.stage < 5 := by decide
  obtain ⟨t, ht, hw, -⟩ := h .host 0x12 5 1 secureHost hb hstage (by decide) (.inl howner) (by decide)
  have he := exec_stagedWrite_accepted (page := 0x12) (reg := 5) 1 hb (State.stageCode_eq_zero hstage (by decide) (.inl howner))
  obtain rfl : _ = t := by simpa only [Host.Outcome.next.injEq] using he.symm.trans ht
  have hk := State.stagedWord_stageWord_banked (s := secureHost.result .host (0x12 * 4096 + 0x800 + 4 * 5) 0) (who := .host)
    (a := 0x12 * 4096 + 4 * 5) 1 (by decide) (by decide)
  replace hw := hk.symm.trans hw
  revert hw
  decide

end Sys2Proof.Machine
end

section
/-!
O13, O14, O22 and O25 fail, each at a state that its clause does not shut out: a locked module (R89), a time base past its field, a write
that is held for a stopped clock domain and answers the same REQ_ID, an enumeration flag left from an earlier full enumeration.
-/
set_option Elab.async false
namespace Sys2Proof.Machine
open Sys2Proof

/-- The state a command leads to, the state itself where it answers none. -/
def State.after (s : State) (c : Instr) : State :=
  match exec c s with
  | .next t => t
  | _ => s

/-- What a clause promises of a command holds of the state the command answers. -/
theorem Gives.after {c : Instr} {s : State} {P : State → Prop} (h : Gives c s P) : P (s.after c) := by
  obtain ⟨t, ht, hP⟩ := h
  simpa only [State.after, ht] using hP

/-! ## O13: the lock of WORLD bars an apply of a security register -/

/-- A locked unit in STATE PASSED with a staged word of the WORLD page, in a secure host session. -/
def lockedPassed : State :=
  { (secureHost.wr F.CROWN_STAGE_CTRL_STATE 3).wr F.WORLD_COMMIT_STAT_LOCKED 1 with staged := [(0x01080, 1)] }

/-- Refutes O13: an apply in STATE PASSED of a locked unit with a word of the WORLD page staged is refused with CAUSE 5 (R89). -/
theorem not_stagingCommands : ¬ Obligations.StagingCommands := by
  rintro ⟨-, -, -, happly, -⟩
  obtain ⟨hstage, -⟩ := (happly .host 0 3 lockedPassed (by decide) (by decide) (by decide) (by decide) (by decide) (by decide)
    (by decide)).after
  revert hstage
  decide +kernel

/-! ## O14: APPLY_AT holds 32 bits of nanoseconds -/

/-- A launched apply with a time base whose nanoseconds do not fit a word. -/
def launchedLateNs : State := { State.reset.wr F.CROWN_STAGE_CTRL_STATE 6 with tb := [(0, { ns := 2 ^ 32 })] }

/-- Refutes O14: APPLY_AT_NS takes the nanoseconds of TB0 modulo 2^32, and no hypothesis bounds them. -/
theorem not_applySequence : ¬ Obligations.ApplySequence := by
  rintro ⟨-, -, -, hedge, -⟩
  obtain ⟨-, -, hns, -⟩ := (hedge launchedLateNs (by decide) (by decide)).after
  revert hns
  decide +kernel

/-! ## O25: the delay measurement begins before the flag of a full enumeration is cleared -/

/-- An idle INTACT ring of one node with the flag of a full enumeration still set. -/
def idleAfterFull : State := { State.reset.wr F.RING_STATUS_STATE 3 with ringSt := { full := true, down := 1 } }

/-- Refutes O25: with the flag set, the stage of the measurement addresses no node and ends at once, so stage 6 is left for 0. -/
theorem not_ringEnumeration : ¬ Obligations.RingEnumeration := by
  rintro ⟨-, -, -, -, -, -, -, hdelay, -⟩
  obtain ⟨hstage, -⟩ := (hdelay idleAfterFull (by decide) (by decide) (by decide) (by decide)).after
  revert hstage
  decide

/-! ## O22: a read under the REQ_ID of a write that is held for its clock domain -/

/-- A READ of one word of ESTIM.VIEW in session 0, with REQ_ID 9 and SEQ 77, under a key. -/
def estimRead (key : List Byte) : List Byte :=
  let m := rkMessage 0x10 0x10 0 77 9 (be 4 0x280C0 ++ be 2 1)
  m ++ tag 16 key m

/-- An open session 0 on port 0, and a held write that is to be answered in it under REQ_ID 9. -/
def heldForRequest : State :=
  let s := (((State.reset.wr (F.ETH_LINK_UP 0) 1).wr (F.ETH_IPV4_ADDR 0) 7).wr (F.ETH_RK_CFG_RK_EN 0) 1).wr (F.ETH_RK_CFG_UDP_PORT 0) 0
  { s with rk := [(0, { openState := 2, secure := true, key := [1, 2, 3] })],
           host := { s.host with held := [{ who := .host, addr := 0, data := 0, answer := some (0, 9, 1) }] } }

/-- Refutes O22: a message under the REQ_ID that a held write is to answer is not made, so no response is kept. -/
theorem not_ralkiulTransactions : ¬ Obligations.RalkiulTransactions := by
  rintro ⟨hread, -⟩
  have hkept := (hread 0 0 { src := 0, dst := 0 } (estimRead [1, 2, 3]) 0 heldForRequest (by decide +kernel) (by decide +kernel) (by decide +kernel)
    (by decide +kernel) (by decide +kernel) (by decide +kernel) (by decide +kernel) (by decide +kernel) (by decide +kernel) (by decide +kernel)
    (by decide +kernel) (by decide +kernel) (by decide +kernel) (by decide +kernel) (by decide +kernel) (by decide +kernel) (by decide +kernel)
    (by decide +kernel)).after
  revert hkept
  decide +kernel

end Sys2Proof.Machine
end

section
/-!
O33 and O35 fail: the opening bound that HOLD suspends (R243) has no hypothesis in its clause, and the clause on an accepted impedance start
does not say that the records left of the run before belong to a stream ring of Table 19-4.
-/
set_option Elab.async false
namespace Sys2Proof.Machine
open Sys2Proof

/-! ## O33: in HOLD the opening bound of step 6 is suspended -/

/-- HOLD in step 6 of a start, with K3 commanded open and still reported closed. -/
def holdInStep6 : State :=
  let s := ((State.reset.wr F.CROWN_MODE_MODE Mode.hold.code).wr F.TRACK_STATUS_STEP 6).wr F.CONTACT_STATUS_FB 4
  { s with track := { s.track with coils := [(3, { opening := true })] } }

/-- Refutes O33: K3, which has not opened, is not read again while HOLD suspends step 6 of the start (R243). -/
theorem not_contactors : ¬ Obligations.Contactors := by
  rintro ⟨-, -, -, -, -, -, hreread, -⟩
  obtain ⟨hcoil, -⟩ := (hreread 2 holdInStep6 (by decide) (by decide) (by decide) (by decide)).after
  revert hcoil
  decide

/-! ## O35: a record of no stream ring is released at the fill register its number leads to -/

/-- A record of a ring number whose fill register would lie at IMPED.RUNS. -/
def strayRecord : Record :=
  { ring := 21504, eseq := 0, hseq := 0, kind := 0, vp := [], vc := [], vs := [], missing := 0, period := 0, sec := 0, ns := 0, frac := 0,
    broken := false, ms := 0, at3 := 0, vStr := 0, iStr := 0 }

/-- A start asked for in RUN where five runs have been started, with the stray record left of the run before. -/
def startWithStrayRecord : State :=
  let s := (((State.reset.wr F.CROWN_MODE_MODE Mode.run.code).wr F.IMPED_CFG_EN 1).wr F.RING_STATUS_STATE 3).wr F.IMPED_RUNS_STARTED 5
  { s with imp := { s.imp with startPending := true, recs := [{ r := strayRecord, unsusp := [], done := [] }] } }

/-- Refutes O35: the accepted start releases the record and with it writes 0 over RUNS.STARTED before it counts. -/
theorem not_impedanceRuns : ¬ Obligations.ImpedanceRuns := by
  rintro ⟨-, -, haccept, -⟩
  obtain ⟨-, -, -, -, -, hstarted⟩ := (haccept startWithStrayRecord (by decide) (by decide)).after
  revert hstarted
  decide +kernel

end Sys2Proof.Machine
end

section
/-!
O40, O46, O47 and O48 fail: a standby's drop, a notice beyond its field, a route of events to the scan programs, and the last entry number
of a ring.
-/
set_option Elab.async false
namespace Sys2Proof.Machine
open Sys2Proof

/-! ## O40: STALE_DROP acts in the unit in control alone -/

/-- A standby in RUN that shows STALE, with STALE_ACT 1 and nothing under way. -/
def staleStandby : State :=
  let s := ((State.reset.wr F.CROWN_MODE_MODE Mode.run.code).wr F.DISP_STATUS_STALE 1).wr F.DISP_CFG_STALE_ACT 1
  { s.wr F.PAIR_STATUS_ROLE 2 with crown := { s.crown with phase := .complete } }

/-- Refutes O40: the drop raises no event in a standby unit, and the clause does not ask for control. -/
theorem not_dispatchCourse : ¬ Obligations.DispatchCourse := by
  rintro ⟨-, -, -, -, -, hdrop⟩
  obtain ⟨hevent, -⟩ := (hdrop staleStandby (by decide) (by decide) (by decide) (by decide)).after
  revert hevent
  decide

/-! ## O46: LASTSW.CAUSE holds eight bits -/

/-- A READY standby in STANDBY that holds a notice whose cause does not fit its field. -/
def standbyWithNotice : State :=
  let s := (((State.reset.wr F.CLAIM_MON_PRESENT 1).wr F.PAIR_STATUS_ROLE 2).wr F.PAIR_CFG_PAIRED 1).wr F.PAIR_STATUS_READY 1
  { s with pair := { s.pair with notice := some 256 } }

/-- Refutes O46: the cause shown is that of the notice modulo 2^8, and the notice held is any number. -/
theorem not_pairSwitchOver : ¬ Obligations.PairSwitchOver := by
  rintro ⟨hsilence, -⟩
  obtain ⟨-, -, -, -, hcause⟩ := (hsilence standbyWithNotice (by decide) (by decide) (by decide) (by decide) (by decide) (by decide)
    (by decide) (by decide) (by decide)).after
  revert hcause
  decide +kernel

/-! ## O47: the event of a dropped frame may be routed to the scan programs -/

/-- A station over Ethernet whose ring has no room, with the drop's event enabled and routed to the scan programs. -/
def stationWithoutRoom : State :=
  let s := ((State.reset.wr (F.STATION_SCFG_EN 0) 1).wr (F.STATION_SCFG_LINK 0) 1).wr (F.ETH_LINK_UP 0) 1
  let s := ((s.wr (F.ETH_IPV4_ADDR 0) 7).wr (F.QUEUE_QCFG_SIZE_KIB 13) 0).wr (pageFld 0x11 0x014 0 32) 1
  { s.wr (pageFld 0x11 0x018 0 4) 4 with crown := { s.crown with phase := .complete } }

/-- Refutes O47: the frame dropped raises an event, which here is queued for the four tasks. -/
theorem not_scanTasks : ¬ Obligations.ScanTasks := by
  rintro ⟨-, -, -, -, -, -, -, -, -, hdropped, -⟩
  obtain ⟨-, -, -, hscan⟩ := (hdropped 0 (stationWithoutRoom.rdStation 0 (F.STATION_SADDR_ADDR 0)) 0
    (stationWithoutRoom.rdStation 0 F.STATION_CFG_UDP_PORT) [] 0 stationWithoutRoom (by decide) (by decide +kernel) (by decide +kernel)).after
  revert hscan
  decide +kernel

/-! ## O48: entry numbers count modulo 2^32 -/

/-- The last entry before the numbers of a ring start again at 0. -/
def lastEntry : Entry := { eseq := 2 ^ 32 - 1, bytes := [], used := true, popped := false }

/-- The service access stands at the last entry of the ring it selects. -/
def atLastEntry : State :=
  { State.reset with eng := { State.reset.eng with cursor := [(Initiator.service.id, 2 ^ 32 - 1)], rings := [(96, { entries := [lastEntry] })] } }

/-- Refutes O48: after the entry 2^32 - 1 the cursor stands at 0. -/
theorem not_branchEngines : ¬ Obligations.BranchEngines := by
  rintro ⟨-, -, -, -, -, -, -, -, -, -, -, -, -, -, hpop⟩
  obtain ⟨-, hcursor⟩ := (hpop .service lastEntry atLastEntry (by decide) (by decide)).after
  revert hcursor
  decide +kernel

end Sys2Proof.Machine
end

section
/-!
Frames by register page: what leaves every register outside some pages, and how such steps combine.
-/
set_option Elab.async false
namespace Sys2Proof.Machine
open Sys2Proof

/-! ## Field arithmetic -/

theorem Fld.fits_mk {a l w : Nat} : (Fld.mk a l w).fits ↔ l + w ≤ 32 := Iff.rfl
theorem Fld.apart_mk {a l w b m v : Nat} : (Fld.mk a l w).apart (Fld.mk b m v) ↔ a ≠ b ∨ l + w ≤ m ∨ m + v ≤ l := Iff.rfl
theorem Fld.width_mk {a l w : Nat} : (Fld.mk a l w).width = w := rfl
theorem Fld.addr_mk {a l w : Nat} : (Fld.mk a l w).addr = a := rfl
theorem evtStatus_mk (page : Nat) : evtStatus page = ⟨page * 4096 + 0x010, 0, 32⟩ := rfl

/-! ## Steps that leave the registers outside some pages -/

/-- Every register outside the pages of P reads the same in both states. -/
def OnlyPages (P : List Nat) (s t : State) : Prop := ∀ a, pageOf a ∉ P → t.word a = s.word a

section Pages
variable {P Q : List Nat} {s t u : State}

theorem OnlyPages.of_regs (h : t.regs = s.regs) : OnlyPages P s t := fun a _ => by simp only [State.word, h]

theorem OnlyPages.refl : OnlyPages P s s := .of_regs rfl

theorem OnlyPages.trans (h : OnlyPages P s t) (h' : OnlyPages P t u) : OnlyPages P s u := fun a ha => (h' a ha).trans (h a ha)

theorem OnlyPages.mono (h : OnlyPages Q s t) (hQ : ∀ p ∈ Q, p ∈ P) : OnlyPages P s t := fun a ha => h a fun hq => ha (hQ _ hq)

theorem OnlyPages.andThen (h : OnlyPages P s t) (h' : OnlyPages Q t u) (hQ : ∀ p ∈ Q, p ∈ P) : OnlyPages P s u := h.trans (h'.mono hQ)

theorem OnlyPages.upd (h : OnlyPages P s t) (hr : u.regs = t.regs) : OnlyPages P s u := h.trans (.of_regs hr)

theorem OnlyPages.wr (h : OnlyPages P s t) {f : Fld} {n : Nat} (hf : pageOf f.addr ∈ P) : OnlyPages P s (t.wr f n) := fun a ha =>
  (State.word_wr_ne t f n a fun e => ha (e ▸ hf)).trans (h a ha)

theorem OnlyPages.wrB (h : OnlyPages P s t) {f : Fld} {b : Bool} (hf : pageOf f.addr ∈ P) : OnlyPages P s (t.wrB f b) := h.wr hf

theorem OnlyPages.wrI (h : OnlyPages P s t) {f : Fld} {i : Int} (hf : pageOf f.addr ∈ P) : OnlyPages P s (t.wrI f i) := h.wr hf

theorem OnlyPages.bump (h : OnlyPages P s t) {f : Fld} {n : Nat} (hf : pageOf f.addr ∈ P) : OnlyPages P s (t.bump f n) := h.wr hf

theorem OnlyPages.wrBit (h : OnlyPages P s t) {f : Fld} {k : Nat} {b : Bool} (hf : pageOf f.addr ∈ P) : OnlyPages P s (t.wrBit f k b) := h.wr hf

theorem OnlyPages.raise (h : OnlyPages P s t) {page bit : Nat} (hp : pageOf (evtStatus page).addr ∈ P) : OnlyPages P s (t.raise page bit) := by
  refine h.trans ?_
  unfold State.raise
  split
  · exact .refl
  · dsimp only
    split
    · exact (OnlyPages.refl.wrBit hp).upd (State.notify_regs ..)
    · exact OnlyPages.refl.wrBit hp

theorem OnlyPages.ite {c : Prop} [Decidable c] {a b : State} (ha : OnlyPages P s a) (hb : OnlyPages P s b) :
    OnlyPages P s (if c then a else b) := by
  split <;> assumption

theorem OnlyPages.foldl {α : Type} {f : State → α → State} (h : OnlyPages P s t) {l : List α}
    (hf : ∀ u, ∀ x ∈ l, OnlyPages P u (f u x)) : OnlyPages P s (l.foldl f t) := by
  induction l generalizing t with
  | nil => exact h
  | cons a l ih => exact ih (h.trans (hf t a (List.mem_cons_self ..))) fun u x hx => hf u x (List.mem_cons_of_mem _ hx)

/-- A field outside the pages reads as before. -/
theorem OnlyPages.rd (h : OnlyPages P s t) {f : Fld} (hf : pageOf f.addr ∉ P) : t.rd f = s.rd f := congrArg f.get (h _ hf)

theorem OnlyPages.mode (h : OnlyPages P s t) (hP : 0 ∉ P) : t.mode = s.mode := by rw [State.mode, State.mode, h.rd (f := F.CROWN_MODE_MODE) hP]

end Pages

theorem State.mode_wr_apart (s : State) {f : Fld} (n : Nat) (hf : f.fits) (h : f.apart F.CROWN_MODE_MODE) : (s.wr f n).mode = s.mode := by
  rw [State.mode, State.mode, State.rd_wr_apart _ _ _ _ hf h]

theorem State.mode_raise (s : State) {page : Nat} (bit : Nat) (h : (evtStatus page).apart F.CROWN_MODE_MODE) : (s.raise page bit).mode = s.mode := by
  rw [State.mode, State.mode, State.rd_raise _ _ _ _ h]

/-! ## Events -/

theorem State.bit_raise (s : State) {page k : Nat} (hk : k < 32) : (s.raise page k).bit (evtStatus page) k = true := by
  unfold State.raise
  split
  · assumption
  · have h : (s.wrBit (evtStatus page) k true).bit (evtStatus page) k = true := State.bit_wrBit _ _ _ _ (Nat.le_refl 32) hk
    dsimp only
    split
    · rw [State.bit, State.rd_notify]
      exact h
    · exact h

theorem State.bit_rd {s t : State} {f : Fld} (h : t.rd f = s.rd f) (k : Nat) : t.bit f k = s.bit f k := by rw [State.bit, State.bit, h]

/-! ## Stores and latches -/

variable (s : State)

theorem State.lockPort_pages : OnlyPages [0x70] s s.lockPort := by
  unfold State.lockPort
  exact .ite (((OnlyPages.refl.wrB (by decide)).raise (by decide)).upd rfl) .refl

theorem State.setLatch_pages (source : Nat) (ev : Ev) : OnlyPages [0, 0x70] s (s.setLatch source ev) :=
  ((OnlyPages.refl.wrB (by decide)).wr (by decide)).andThen (State.lockPort_pages _) (by decide)

theorem State.closeFeed_pages : OnlyPages [0x31] s s.closeFeed := by
  unfold State.closeFeed
  exact .ite (OnlyPages.refl.wrB (by decide)) .refl

theorem State.setSlot_regs (j k : Nat) (x : JSlot) : (s.setSlot j k x).regs = s.regs := by
  unfold State.setSlot
  split <;> rfl

theorem State.beginWrite_pages (j reason : Nat) : OnlyPages [0x2A] s (s.beginWrite j reason) :=
  ((OnlyPages.of_regs (State.setSlot_regs ..)).wrB (by decide)).upd rfl

theorem State.journal_pages (j reason : Nat) : OnlyPages [0x2A] s (s.journal j reason) := by
  unfold State.journal
  exact .ite (((OnlyPages.refl.wrB (by decide)).raise (by decide)).upd rfl) (.ite (.of_regs rfl) (State.beginWrite_pages s j reason))

theorem State.counterSlot_regs : s.counterSlot.regs = s.regs := by
  unfold State.counterSlot
  split <;> rfl

theorem State.retainSlot_regs : s.retainSlot.regs = s.regs := by
  unfold State.retainSlot
  split <;> rfl

theorem State.entryStore_pages (reason : Nat) : OnlyPages [0x2A] s (s.entryStore reason) := by
  have h : OnlyPages [0x2A] s (s.journalBoth reason).counterSlot :=
    ((State.journal_pages s 0 reason).trans (State.journal_pages _ 1 reason)).upd (State.counterSlot_regs _)
  unfold State.entryStore
  exact .ite (h.upd (State.retainSlot_regs _)) h

theorem State.setMode_pages (m : Mode) : OnlyPages [0] s (s.setMode m) := (OnlyPages.refl.wr (by decide)).wr (by decide)

end Sys2Proof.Machine
end

section
/-!
O11 (the exit from SAFE and the wakes of dormant STANDBY), O19 (the secure host session) and O20 (the Ethernet ports).
-/
set_option Elab.async false
namespace Sys2Proof.Machine
open Sys2Proof

/-! ## O20: the Ethernet ports -/

/-- Settles O20: LINK_UP writes the three fields of LINK, the two replies only send. -/
theorem ethernetPorts : Obligations.EthernetPorts := by
  refine ⟨fun p full s h => ⟨_, if_pos h, ?_⟩, fun p full s h => ⟨_, if_pos h, ?_⟩, fun p speed full s h => ⟨_, if_pos h, ?_⟩,
    fun p ip target s h ha => .of_eq rfl (if_pos (by simp [h, ha])) ⟨rfl, rfl⟩, fun p ip bytes s h => .of_eq rfl (if_pos h) ⟨rfl, rfl⟩⟩
  · simp (disch := (simp only [Fld.apart_mk, Fld.fits_mk, Fld.width_mk]; omega)) only [State.rd_wrB, State.rd_wr, State.rd_wrB_apart, State.rd_wr_apart]
    exact ⟨rfl, rfl, by simp, ((OnlyFields.refl.wrB _ (Nat.le_of_ble_eq_true rfl) (by simp)).wr _ (Nat.le_of_ble_eq_true rfl) (by simp)).wrB _
      (Nat.le_of_ble_eq_true rfl) (by simp)⟩
  · simp (disch := (simp only [Fld.apart_mk, Fld.fits_mk, Fld.width_mk]; omega)) only [State.rd_wrB, State.rd_wr, State.rd_wrB_apart, State.rd_wr_apart]
    exact ⟨rfl, rfl, by simp⟩
  · simp (disch := (simp only [Fld.apart_mk, Fld.fits_mk, Fld.width_mk]; omega)) only [State.rd_wrB, State.rd_wr, State.rd_wrB_apart, State.rd_wr_apart]
    exact ⟨rfl, rfl, by simp⟩

/-! ## O19: the secure host session -/

theorem State.rd_authFailed (s : State) (session : Nat) (f : Fld) : (s.authFailed session).rd f = s.rd f := by
  apply State.rd_regs
  unfold State.authFailed
  dsimp only
  split
  · split <;> rfl
  · rfl

theorem State.authFailed_err (s : State) (session : Nat) : (s.authFailed session).host.err = s.host.err := by
  unfold State.authFailed
  dsimp only
  split
  · split <;> rfl
  · rfl

/-- The end of a session writes the two fields that show it and drops the key. -/
theorem State.hostSessionEnd_spec (s : State) : s.hostSessionEnd.rd F.HOST_SESS_SECURE = 0 ∧ s.hostSessionEnd.rd F.HOST_SEQ_SEQ = 0 ∧
    s.hostSessionEnd.host.key = [] ∧ OnlyFields [F.HOST_SESS_SECURE, F.HOST_SEQ_SEQ] s s.hostSessionEnd := by
  refine ⟨?_, ?_, rfl, ((OnlyFields.refl.wrB _ (by decide) (by simp)).wr _ (by decide) (by simp)).upd rfl⟩
  · exact (State.rd_wr_apart _ _ _ _ (by decide) (by decide)).trans (State.rd_wrB _ _ _ (by decide) (by decide))
  · exact State.rd_wr _ _ _ (by decide)

/-- Settles O19. -/
theorem hostSessions : Obligations.HostSessions := by
  refine ⟨fun s => ⟨_, rfl, rfl, rfl, rfl, rfl, rfl⟩, fun bytes s hl hn ht hp => ?_, fun bytes s hl hn => ?_, fun bytes s hl hs ht => ?_, fun s hs => ?_⟩
  · obtain ⟨mn, hmn⟩ := Option.ne_none_iff_exists'.1 hn
    rw [hmn] at hp
    change ∃ t, execHostOpen 0 bytes s = .next t ∧ _
    unfold execHostOpen
    extract_lets s1 a hn old fresh hp1 s2 hp2
    have hold : old = some mn := hmn
    rw [if_neg (by decide), if_neg (not_not.2 hl), hold]
    dsimp only
    have hok : (fresh && s2.tagOk 1 16 (ascii "XSWH" ++ mn ++ hn) (bytes.drop 16)) = true := Bool.and_eq_true_iff.2 ⟨decide_eq_true ht, hp⟩
    rw [if_pos hok, hmn]
    refine ⟨_, rfl, ?_⟩
    simp only [State.hostEnd, State.rd_result]
    refine ⟨?_, State.rd_wr _ _ _ (by decide), rfl, rfl, rfl, ?_⟩
    · exact (State.rd_wr_apart _ _ _ _ (by decide) (by decide)).trans (State.rd_wrB _ _ _ (by decide) (by decide))
    · exact ((OnlyFields.of_regs rfl).wrB _ (by decide) (by simp)).wr _ (by decide) (by simp)
  · change ∃ t, execHostOpen 0 bytes s = .next t ∧ _
    unfold execHostOpen
    extract_lets s1 a hn' old fresh hp1 s2 hp2
    have hold : old = none := hn
    rw [if_neg (by decide), if_neg (not_not.2 hl), hold]
    refine ⟨_, rfl, State.authFailed_err .., (State.rd_authFailed ..).trans ?_⟩
    exact (State.rd_wr_apart _ _ _ _ (by decide) (by decide)).trans (State.rd_wr_apart _ _ _ _ (by decide) (by decide))
  · change ∃ t, execHostClose 0 bytes s = .next t ∧ _
    unfold execHostClose
    extract_lets s1 a
    have hs1 : s1.on F.HOST_SESS_SECURE = true := hs
    have ht1 : s1.hostTagOk 0x32 a [] bytes = true := ht
    rw [if_neg (by decide), if_neg (not_not.2 hl), if_neg (by simp [hs1]), if_neg (by simp [ht1])]
    obtain ⟨hsec, hseq, hkey, hl⟩ := s1.hostSessionEnd_spec
    exact ⟨_, rfl, hsec, hseq, hkey, rfl, hl⟩
  · exact .of_eq rfl (if_pos hs) (State.hostSessionEnd_spec s)

/-! ## O11: the exit from SAFE and the wakes -/

/-- The start of the ring shows WAKING. -/
theorem State.startRing_pages (s : State) : OnlyPages [0x18] s s.startRing := (OnlyPages.refl.wr (by decide)).upd rfl

theorem State.rd_startRing (s : State) : s.startRing.rd F.RING_STATUS_STATE = 1 := State.rd_wr _ _ _ (by decide)

/-- A wake of dormant STANDBY clears DORMANT, shows its cause and puts the ring into WAKING. -/
theorem State.wakeDormant_spec {s : State} {cause : Nat} (hd : s.on F.CROWN_MODE_DORMANT = true) (hc : cause < 16) :
    (s.wakeDormant cause).rd F.CROWN_MODE_DORMANT = 0 ∧ (s.wakeDormant cause).rd F.CLOCK_WAKE_CAUSE = cause ∧
      (s.wakeDormant cause).rd F.RING_STATUS_STATE = 1 := by
  unfold State.wakeDormant
  rw [if_pos hd]
  refine ⟨?_, ?_, State.rd_startRing _⟩
  all_goals
    rw [(State.startRing_pages _).rd (by decide), State.rd_raise _ _ _ _ (by decide)]
    simp (disch := decide) only [State.rd_bump_apart, State.rd_wr_apart, State.rd_wr, State.rd_wrB]
  · rfl
  · exact Nat.mod_eq_of_lt hc

/-- The exit from SAFE ends in STANDBY where the loop is closed, no condition of class S or H stands and the mode is still SAFE. -/
theorem State.judgeSafeExit_ok {s : State} (h : (s.on F.NODE_STATUS_LOOP_CLOSED && s.noSH && s.mode == .safe) = true) :
    s.judgeSafeExit.mode = .standby ∧ s.judgeSafeExit.rd F.CROWN_MODE_SAFE_LATCH = 0 ∧ s.judgeSafeExit.crown.trans = .none := by
  unfold State.judgeSafeExit
  extract_lets ok who c s1 s2
  rw [if_pos h]
  refine ⟨?_, ?_, ?_⟩
  · rw [(State.entryStore_pages _ 3).mode (by decide), (State.closeFeed_pages _).mode (by decide),
      State.mode_wr_apart _ _ (by decide) (by decide), State.mode_setMode]
  · rw [(State.entryStore_pages _ 3).rd (by decide), (State.closeFeed_pages _).rd (by decide), State.setMode]
    simp (disch := decide) only [State.rd_wr_apart, State.rd_wrB]
    rfl
  · have hw : Within [.regs, .q91, .rk, .scan, .est, .tele, .nvm] s1
        ((((s2.wrB F.CROWN_MODE_SAFE_LATCH false).setMode .standby).wr F.CROWN_MODE_REQ_RESULT 0).closeFeed.entryStore 3) := by
      refine State.entryStore_within (by decide) (by decide) (by decide) (by decide) (by decide) (by decide) (by decide) ?_
      refine State.closeFeed_within (by decide) (State.wr_within (by decide) (State.setMode_within (by decide) (State.wrB_within (by decide) ?_)))
      exact within_ite (State.record_within (by decide) .rfl) .rfl
    rw [hw.crown (by decide)]

/-- Settles O11. -/
theorem safeExitAndWake : Obligations.SafeExitAndWake := by
  refine ⟨fun s ht ha hl hn hm => ?_, fun s ht ha hl => ?_, fun w s hd hw => ?_, fun ch s hd he hs => ?_, fun s hd hs hb => ?_⟩
  · exact ⟨_, if_pos (by simp [ht, ha]), State.judgeSafeExit_ok (by simp [hl, hn, hm])⟩
  · refine ⟨_, if_pos (by simp [ht, ha]), ?_⟩
    unfold State.judgeSafeExit
    extract_lets ok who c s1 s2
    rw [if_neg (by simp [ok, hl])]
    refine ⟨?_, State.rd_wr _ _ _ (by decide), rfl⟩
    rw [State.mode, State.rd_wr_apart _ _ _ _ (by decide) (by decide)]
    rfl
  · cases w with
    | can ch => exact absurd rfl (hw ch)
    | host => exact ⟨_, rfl, State.wakeDormant_spec hd (by decide)⟩
    | ralkiul => exact ⟨_, rfl, State.wakeDormant_spec hd (by decide)⟩
    | input => exact ⟨_, rfl, State.wakeDormant_spec hd (by decide)⟩
    | loop => exact ⟨_, rfl, State.wakeDormant_spec hd (by decide)⟩
  · refine ⟨_, if_pos (by simp [hd, he, hs]), State.wakeDormant_spec ?_ (by decide)⟩
    rwa [State.on, State.rd_raise]
    exact .inl (by simp only [evtStatus_mk]; omega)
  · exact ⟨_, if_pos (by simp [hs, hb]), State.wakeDormant_spec hd (by decide)⟩
end Sys2Proof.Machine
end

section
/-!
O26 (harvest slots) and O27 (what asks for harvests, and FREEZE).
-/
set_option Elab.async false
namespace Sys2Proof.Machine
open Sys2Proof

variable {s : State}

/-! ## The slots -/

/-- HARVEST.STATUS.RUNNING does not enter into the kind of a slot. -/
theorem State.slotKind_running (s : State) (b : Bool) : (s.wrB F.HARVEST_STATUS_RUNNING b).slotKind = s.slotKind := by
  simp (disch := decide) [State.slotKind, State.kindAfter, State.earlySlot, State.slotClocks, State.effMode, State.slotsRun, State.mode, State.on,
    State.rd_wrB_apart]
  rfl

/-- A slot that carries no harvest is not an early one. -/
theorem State.earlySlot_of_none (hr : s.slotsRun = true) (hk : s.slotKind = none) : s.earlySlot s.harv.since = false := by
  unfold State.slotKind State.kindAfter at hk
  extract_lets m early v c at hk
  rw [if_neg (by simp [hr])] at hk
  cases he : s.earlySlot s.harv.since with
  | false => rfl
  | true =>
    have hv : v = true := by simp [v, early, he]
    have hc : c = true := by simp [c, early, he]
    simp [hv, hc] at hk

/-- The two SYNCs of a harvest go out under the next sequence number, and none from a standby. -/
theorem State.launchSync_eq (s : State) (kind : Nat) : s.launchSync kind =
    { s with harv := { s.harv with seq := (s.harv.seq + 1) % 16 },
             out := if s.rd F.PAIR_STATUS_ROLE = 2 then s.out else s.out ++ [.sync s.downPort (syncTag 0 kind ((s.harv.seq + 1) % 16)),
               .sync (1 - s.downPort) (syncTag 1 kind ((s.harv.seq + 1) % 16))] } := by
  unfold State.launchSync
  extract_lets q h s1
  have hrd : s1.rd F.PAIR_STATUS_ROLE = s.rd F.PAIR_STATUS_ROLE := rfl
  by_cases hr : s.rd F.PAIR_STATUS_ROLE = 2
  · rw [if_pos (by simp [hrd, hr]), if_pos hr]
  · rw [if_neg (by simp [hrd, hr]), if_neg hr]
    simp only [State.send, List.append_assoc]
    rfl

/-- The capture that a harvest opens bears its numbers and kind. -/
theorem State.launchHarvest_spec (s : State) (kind lag : Nat) (r : Readings) :
    ∃ cap : Capture, (cap.hseq, cap.seq, cap.kind) = (s.harv.hseq, (s.harv.seq + 1) % 16, kind) ∧
      (s.launchHarvest kind lag r).harv =
        { s.harv with seq := (s.harv.seq + 1) % 16, hseq := (s.harv.hseq + 1) % 2 ^ 32, captures := s.harv.captures ++ [cap] } ∧
      (s.launchHarvest kind lag r).regs = s.regs ∧ (s.launchHarvest kind lag r).out = (s.launchSync kind).out := by
  unfold State.launchHarvest
  extract_lets s1 c t cap h
  have h1 : s1 = _ := s.launchSync_eq kind
  have hh : s1.harv = { s.harv with seq := (s.harv.seq + 1) % 16 } := by rw [h1]
  refine ⟨cap, ?_, ?_, ?_, rfl⟩
  · simp only [cap, hh]
  · simp only [h, hh]
    rfl
  · exact (congrArg State.regs h1 :)

/-- A slot missed counts, with its event. -/
theorem State.missSlot_spec (s : State) : s.missSlot.rd F.HARVEST_STAT_MISSED = satCount F.HARVEST_STAT_MISSED.width (s.rd F.HARVEST_STAT_MISSED + 1) ∧
    s.missSlot.bit (evtStatus 0x19) 2 = true ∧ s.missSlot.harv = s.harv ∧ OnlyFields [F.HARVEST_STAT_MISSED, evtStatus 0x19] s s.missSlot := by
  have hr : s.missSlot.regs = ((s.bump F.HARVEST_STAT_MISSED).raise 0x19 2).regs := by
    unfold State.missSlot
    dsimp only
    split <;> rfl
  have hh : s.missSlot.harv = ((s.bump F.HARVEST_STAT_MISSED).raise 0x19 2).harv := by
    unfold State.missSlot
    dsimp only
    split <;> rfl
  refine ⟨?_, ?_, ?_, ?_⟩
  · rw [State.rd_regs hr, State.rd_raise _ _ _ _ (by decide), State.rd_bump _ _ _ (by decide)]
  · rw [State.bit_rd (State.rd_regs hr _), State.bit_raise _ (by decide)]
  · rw [hh, State.raise_harv]
    rfl
  · exact (OnlyFields.refl.bump _ (by decide) (by simp)).raise _ (by simp) |>.upd hr

/-! ## O26 -/

/-- HARVEST.STATUS.RUNNING does not enter into what makes the ring usable. -/
theorem State.ringUsable_running (s : State) (b : Bool) : (s.wrB F.HARVEST_STATUS_RUNNING b).ringUsable = s.ringUsable := by
  simp (disch := decide) [State.ringUsable, State.rd_wrB_apart]

/-- A slot without a harvest counts towards the next coarse one. -/
theorem exec_harvestSlot_none (hr : s.slotsRun = true) (hk : s.slotKind = none) (r : Readings) (lag : Fin 40) (moved : Bool) :
    exec (.harvestSlot r lag moved) s = .next (s.wrB F.HARVEST_STATUS_RUNNING true).countSlot := by
  change execHarvestSlot r lag moved s = _
  unfold execHarvestSlot
  extract_lets s1
  have hk1 : s1.slotKind = none := (s.slotKind_running true).trans hk
  rw [if_neg (by simp [hr]), hk1]

/-- A slot with a harvest launches it, or counts as missed where the ring is not usable or the delay has moved. -/
theorem exec_harvestSlot_some {k : Nat} (hr : s.slotsRun = true) (hk : s.slotKind = some k) (r : Readings) (lag : Fin 40) (moved : Bool) :
    exec (.harvestSlot r lag moved) s = .next (if !s.ringUsable || moved then (s.wrB F.HARVEST_STATUS_RUNNING true).countSlot.missSlot
      else { (s.wrB F.HARVEST_STATUS_RUNNING true).countSlot with
        harv := { (s.wrB F.HARVEST_STATUS_RUNNING true).countSlot.harv with oneV := false, oneC := false } }.launchHarvest k lag.val r) := by
  change execHarvestSlot r lag moved s = _
  unfold execHarvestSlot
  extract_lets s1 s2 h
  have hk1 : s1.slotKind = some k := (s.slotKind_running true).trans hk
  have hu : s2.ringUsable = s.ringUsable := s.ringUsable_running true
  rw [if_neg (by simp [hr]), hk1, hu, apply_ite Host.Outcome.next]

theorem State.earlySlot_running (s : State) (b : Bool) (n : Nat) : (s.wrB F.HARVEST_STATUS_RUNNING b).earlySlot n = s.earlySlot n := by
  simp (disch := decide) [State.earlySlot, State.slotClocks, State.rd_wrB_apart]

/-- A slot that is not an early one counts, and every C_EVERY slots from 0 again. -/
theorem State.countSlot_harv (he : s.earlySlot s.harv.since = false) :
    s.countSlot.harv = { s.harv with since := if s.harv.since + 1 ≥ s.rd F.HARVEST_CFG_C_EVERY then 0 else s.harv.since + 1 } := by
  simp [State.countSlot, he]

/-- Settles O26. -/
theorem harvestSlots : Obligations.HarvestSlots := by
  have hrun : ∀ s : State, OnlyFields [F.HARVEST_STATUS_RUNNING] s (s.wrB F.HARVEST_STATUS_RUNNING true).countSlot :=
    fun s => OnlyFields.refl.wrB _ (by decide) (by simp)
  have hrole : ∀ s : State, (s.wrB F.HARVEST_STATUS_RUNNING true).rd F.PAIR_STATUS_ROLE = s.rd F.PAIR_STATUS_ROLE :=
    fun s => State.rd_wrB_apart _ _ _ _ (by decide) (by decide)
  have hdown : ∀ s : State, (s.wrB F.HARVEST_STATUS_RUNNING true).downPort = s.downPort :=
    fun s => by simp (disch := decide) [State.downPort, State.on, State.rd_wrB_apart]
  refine ⟨fun r lag moved s hr hk => ?_, fun r lag k s hr hk hu hp => ?_, fun r lag k s hr hk hp => ?_, fun r lag moved k s hr hk hm => ?_,
    fun s hk hu hp => ?_, fun s hr hm => ⟨_, if_pos (by simp [hr, hm]), rfl, rfl⟩, fun r s ht hr hu => ?_⟩
  · refine ⟨_, exec_harvestSlot_none hr hk r lag moved, ?_, State.rd_wrB _ _ _ (by decide) (by decide), rfl, hrun s⟩
    have he : (s.wrB F.HARVEST_STATUS_RUNNING true).earlySlot s.harv.since = false := (s.earlySlot_running _ _).trans (State.earlySlot_of_none hr hk)
    rw [State.countSlot_harv he, State.rd_wrB_apart _ _ _ _ (by decide) (by decide)]
    rfl
  · refine ⟨_, exec_harvestSlot_some hr hk r lag false, ?_⟩
    rw [if_neg (by simp [hu])]
    obtain ⟨cap, hcap, hh, hregs, hout⟩ := State.launchHarvest_spec { (s.wrB F.HARVEST_STATUS_RUNNING true).countSlot with
      harv := { (s.wrB F.HARVEST_STATUS_RUNNING true).countSlot.harv with oneV := false, oneC := false } } k lag.val r
    rw [hh, hout, State.launchSync_eq]
    refine ⟨rfl, rfl, by simp; rfl, ?_, ?_, rfl, rfl, (hrun s).upd hregs⟩
    · simp only [List.getLast?_concat, Option.map_some, hcap]
      rfl
    · refine (if_neg fun e => hp ((hrole s).symm.trans e)).trans ?_
      change s.out ++ [Out.sync (s.wrB F.HARVEST_STATUS_RUNNING true).downPort _, .sync (1 - (s.wrB F.HARVEST_STATUS_RUNNING true).downPort) _] = _
      rw [hdown]
      rfl
  · have hu : s.ringUsable = true := by simp [State.ringUsable, hp]
    refine ⟨_, exec_harvestSlot_some hr hk r lag false, ?_⟩
    rw [if_neg (by simp [hu])]
    obtain ⟨cap, hcap, hh, hregs, hout⟩ := State.launchHarvest_spec { (s.wrB F.HARVEST_STATUS_RUNNING true).countSlot with
      harv := { (s.wrB F.HARVEST_STATUS_RUNNING true).countSlot.harv with oneV := false, oneC := false } } k lag.val r
    rw [hh, hout, State.launchSync_eq]
    refine ⟨rfl, ?_, if_pos ((hrole s).trans hp), (hrun s).upd hregs⟩
    simp only [List.getLast?_concat, Option.map_some, hcap]
    rfl
  · refine ⟨_, exec_harvestSlot_some hr hk r lag moved, ?_⟩
    rw [if_pos (by rcases hm with hm | hm <;> simp [hm])]
    obtain ⟨hmiss, hev, hh, hf⟩ := (s.wrB F.HARVEST_STATUS_RUNNING true).countSlot.missSlot_spec
    refine ⟨hmiss.trans ?_, hev, by rw [hh]; rfl, ((hrun s).mono (by simp)).trans (hf.mono (by simp))⟩
    exact congrArg (fun n => satCount F.HARVEST_STAT_MISSED.width (n + 1)) (State.rd_wrB_apart _ _ _ _ (by decide) (by decide))
  · refine ⟨_, if_pos (by simp [hk, hu]), ?_⟩
    rw [State.launchSync_eq]
    exact ⟨rfl, if_neg hp, rfl⟩
  · refine ⟨_, if_pos (by simpa using ht), ?_⟩
    unfold State.launchT
    rw [if_pos (by simp [hr, hu])]
    obtain ⟨cap, hcap, hh, hregs, -⟩ := State.launchHarvest_spec { s with harv := { s.harv with tDue := false, oneT := false } } 2 0 r
    rw [hh]
    refine ⟨rfl, rfl, rfl, rfl, ?_, hregs⟩
    simp only [List.getLast?_concat, Option.map_some, hcap]
/-! ## O27 -/

/-- The marks that ONESHOT leaves: for the next slot, and a next slot for the harvests before their aperture. -/
def State.markOneshot (s : State) (bits : Nat) : State :=
  { s with harv := { s.harv with oneV := s.harv.oneV || bits.testBit 0, oneC := s.harv.oneC || bits.testBit 1, oneT := s.harv.oneT || bits.testBit 2,
                                 captures := if bits % 4 = 0 then s.harv.captures
                                   else s.harv.captures.map fun c => if c.at3 > s.mono then { c with noNext := false } else c } }

/-- ONESHOT outside TRANSPORT marks, and T launches. -/
theorem State.oneshot_of_mode (hm : s.mode ≠ .transport) (bits : Nat) (r : Readings) :
    s.oneshot bits r = if bits.testBit 2 then (s.markOneshot bits).launchT r else s.markOneshot bits := if_neg (by simpa using hm)

/-- Where slots run on a usable ring ONESHOT T is a launch. -/
theorem State.launchT_ok (hr : s.slotsRun = true) (hu : s.ringUsable = true) (r : Readings) :
    ∃ cap : Capture, (cap.hseq, cap.seq, cap.kind) = (s.harv.hseq, (s.harv.seq + 1) % 16, 2) ∧ (s.launchT r).harv =
      { s.harv with seq := (s.harv.seq + 1) % 16, hseq := (s.harv.hseq + 1) % 2 ^ 32, tDue := false, oneT := false, captures := s.harv.captures ++ [cap] } ∧
      (s.launchT r).regs = s.regs := by
  unfold State.launchT
  rw [if_pos (by simp [hr, hu])]
  obtain ⟨cap, hcap, hh, hregs, -⟩ := State.launchHarvest_spec { s with harv := { s.harv with tDue := false, oneT := false } } 2 0 r
  exact ⟨cap, hcap, hh, hregs⟩

theorem State.mode_of_slotsRun (hr : s.slotsRun = true) : s.mode ≠ .transport := by
  simp only [State.slotsRun, Bool.and_eq_true, bne_iff_ne] at hr
  exact hr.1.2

/-- What ONESHOT V marks. -/
theorem State.markOneshot_v (s : State) : (s.markOneshot 1).harv =
    { s.harv with oneV := true, captures := s.harv.captures.map fun c => if c.at3 > s.mono then { c with noNext := false } else c } := by
  simp [State.markOneshot, show Nat.testBit 1 1 = false from rfl, show Nat.testBit 1 2 = false from rfl]

/-- What ONESHOT C marks. -/
theorem State.markOneshot_c (s : State) : (s.markOneshot 2).harv =
    { s.harv with oneC := true, captures := s.harv.captures.map fun c => if c.at3 > s.mono then { c with noNext := false } else c } := by
  simp [State.markOneshot, show Nat.testBit 2 1 = true from rfl, show Nat.testBit 2 2 = false from rfl]

/-- What ONESHOT T marks. -/
theorem State.markOneshot_t (s : State) : (s.markOneshot 4).harv = { s.harv with oneT := true } := by
  simp [State.markOneshot, show Nat.testBit 4 1 = false from rfl, show Nat.testBit 4 2 = true from rfl]

@[simp] theorem State.slotsRun_result (s : State) (who : Initiator) (a : Nat) : (s.result who a 0).slotsRun = s.slotsRun := by
  rw [State.result_ok]
  rfl

@[simp] theorem State.ringUsable_result (s : State) (who : Initiator) (a : Nat) : (s.result who a 0).ringUsable = s.ringUsable := by
  rw [State.result_ok]
  rfl

/-- A ONESHOT that nothing bars. -/
theorem State.asWrite_oneshot {who : Initiator} (hb : s.barred who A.HARVEST_CMD true = 0) (hm : s.mode ≠ .transport) (bits : Nat) (f : State → Readings) :
    (s.asWrite who A.HARVEST_CMD fun s => s.oneshot bits (f s)) =
      if bits.testBit 2 then ((s.result who A.HARVEST_CMD 0).markOneshot bits).launchT (f (s.result who A.HARVEST_CMD 0))
      else (s.result who A.HARVEST_CMD 0).markOneshot bits :=
  (State.asWrite_ok _ _ _ _ hb).trans (State.oneshot_of_mode (by simpa using hm) bits _)

/-- Settles O27. -/
theorem harvestRequests : Obligations.HarvestRequests := by
  refine ⟨fun who s hb hm => ?_, fun who s hb hm => ?_, fun who r s hb hr hu => ?_, fun who r s hb hr hm => ?_, fun who b s hb => ?_,
    fun s => ⟨_, rfl, State.rd_wrB _ _ _ (by decide) (by decide), OnlyFields.refl.wrB _ (by decide) (by simp)⟩⟩
  · refine .of_eq rfl ((State.asWrite_oneshot hb hm 1 State.meas).trans (if_neg (by decide))) ⟨?_, .of_regs (State.result_regs ..)⟩
    simp only [State.markOneshot_v, State.result_harv, State.mono_result]
  · refine .of_eq rfl ((State.asWrite_oneshot hb hm 2 State.meas).trans (if_neg (by decide))) ⟨?_, .of_regs (State.result_regs ..)⟩
    simp only [State.markOneshot_c, State.result_harv, State.mono_result]
  · refine .of_eq rfl ((State.asWrite_oneshot hb (State.mode_of_slotsRun hr) 4 fun _ => r).trans (if_pos (by decide))) ?_
    have hr1 : ((s.result who A.HARVEST_CMD 0).markOneshot 4).slotsRun = true := (State.slotsRun_result ..).trans hr
    have hu1 : ((s.result who A.HARVEST_CMD 0).markOneshot 4).ringUsable = true := (State.ringUsable_result ..).trans hu
    obtain ⟨cap, hcap, hh, hregs⟩ := State.launchT_ok hr1 hu1 r
    rw [State.markOneshot_t, State.result_harv] at hh hcap
    rw [hh]
    refine ⟨rfl, rfl, ?_, .of_regs (hregs.trans (State.result_regs ..))⟩
    simp only [List.getLast?_concat, Option.map_some, hcap]
  · have hr1 : ((s.result who A.HARVEST_CMD 0).markOneshot 4).slotsRun = false := (State.slotsRun_result ..).trans hr
    refine .of_eq rfl (((State.asWrite_oneshot hb hm 4 fun _ => r).trans (if_pos (by decide))).trans (if_neg (by simp [hr1])))
      ⟨?_, .of_regs (State.result_regs ..)⟩
    rw [State.markOneshot_t, State.result_harv]
  · refine .of_eq rfl (State.asWrite_ok _ _ _ _ hb) ⟨State.rd_wrB _ _ _ (by decide) (by decide), ?_⟩
    exact (OnlyFields.of_regs (State.result_regs ..)).wrB _ (by decide) (by simp)

end Sys2Proof.Machine
end

section
/-!
O30: balancing.
-/
set_option Elab.async false
namespace Sys2Proof.Machine
open Sys2Proof

variable {s : State}

/-! ## Writes that nothing bars -/

/-- A command that is a write which nothing bars: its effect acts on the state with the result of the access in it. -/
theorem Gives.of_asWrite {c : Instr} {who : Initiator} {a : Nat} {k : State → State} {P : State → Prop} (hx : exec c s = .next (s.asWrite who a k))
    (hb : s.barred who a true = 0) (hp : P (k (s.result who a 0))) : Gives c s P :=
  ⟨_, hx, by rwa [State.asWrite_ok _ _ _ _ hb]⟩

/-! ## Lasting faults -/

/-- A lasting fault shows its code in LASTING. -/
theorem State.rd_lastingW (s : State) (page : Nat) (ev : Ev) (data : List Int) (same : Bool) :
    (s.lastingW page ev data same).rd (pageFld page 0x02C 0 16) = evCode page ev := by
  have ha : (pageFld page 0x02C 16 8).apart (pageFld page 0x02C 0 16) := .inr (.inr (Nat.le_refl 16))
  have hb : ∀ t : State, (t.bump (pageFld page 0x02C 16 8)).rd (pageFld page 0x02C 0 16) = t.rd (pageFld page 0x02C 0 16) :=
    fun t => State.rd_bump_apart _ _ _ _ (Nat.le_of_ble_eq_true rfl) ha
  refine (hb _).trans ((State.rd_wr _ _ _ (Nat.le_of_ble_eq_true rfl)).trans ?_)
  exact Nat.mod_eq_of_lt (Nat.mod_lt _ (by decide))

theorem OnlyFields.lastingW {l : List Fld} {t : State} (h : OnlyFields l s t) {page : Nat} {ev : Ev} {data : List Int} {same : Bool}
    (hc : pageFld page 0x02C 0 16 ∈ l) (hn : pageFld page 0x02C 16 8 ∈ l) : OnlyFields l s (t.lastingW page ev data same) :=
  ((h.wr _ (Nat.le_of_ble_eq_true rfl) hc).bump _ (Nat.le_of_ble_eq_true rfl) hn).upd rfl

theorem OnlyPages.lastingW {P : List Nat} {t : State} (h : OnlyPages P s t) {page : Nat} {ev : Ev} {data : List Int} {same : Bool}
    (hp : pageOf (pageFld page 0x02C 0 16).addr ∈ P) : OnlyPages P s (t.lastingW page ev data same) :=
  ((h.wr hp).bump (f := pageFld page 0x02C 16 8) hp).upd rfl

/-! ## Ring commands -/

/-- A ring command goes out or is held: it changes the ring's state and what is sent, no more. -/
theorem State.ringCmd_ring (s : State) (n cmd : Nat) (p : List Byte) : Within [.out, .ringSt] s (s.ringCmd n cmd p) :=
  State.ringCmd_within (by decide) (by decide) .rfl

/-- The same command to each node of a list. -/
theorem State.ringCmds_ring (s : State) (l : List Nat) (cmd : Nat) : Within [.out, .ringSt] s (l.foldl (fun s n => s.ringCmd n cmd) s) :=
  within_foldl .rfl fun _ _ h => State.ringCmd_within (by decide) (by decide) h

/-! ## The planner -/

/-- A plan asked of nodes that answer waits for their BAL_STAT. -/
theorem State.planBegin_asks (hl : s.balNodes ≠ []) : Within [.out, .ringSt, .bal] s s.planBegin ∧
    s.planBegin.bal = { s.bal with planWait := some s.balNodes, replanDue := false } := by
  have h : s.planBegin = s.balNodes.foldl (fun s n => s.ringCmd n 0x11) { s with bal := { s.bal with planWait := some s.balNodes, replanDue := false } } := by
    unfold State.planBegin
    extract_lets l b s1 s2
    exact if_neg (by simpa [l] using hl)
  rw [h]
  refine ⟨within_foldl (within_upd .rfl (bal := .inl (by decide))) fun _ _ h => State.ringCmd_within (by decide) (by decide) h, ?_⟩
  exact (State.ringCmds_ring _ _ _).bal (by decide)

theorem State.mirror_pair (s : State) (m : Mirror) : Within [.out, .pair] s (s.mirror m) := State.mirror_within (by decide) (by decide) .rfl

/-- The message of a plan counts, and waits for no node. -/
theorem State.sendPlan_spec (s : State) : s.sendPlan.bal.planWait = s.bal.planWait ∧
    s.sendPlan.rd F.BAL_PLANS_COUNT = satCount F.BAL_PLANS_COUNT.width (s.rd F.BAL_PLANS_COUNT + 1) := by
  unfold State.sendPlan
  extract_lets cells ref plans excl newly s1 s2 s3 b s4
  have h1 : Within [.regs] s s1 := within_foldl .rfl fun _ _ h => setMaskBit_within (by decide) h
  have hc1 : s1.rd F.BAL_PLANS_COUNT = s.rd F.BAL_PLANS_COUNT :=
    rdIs_foldl (v0 := s.rd F.BAL_PLANS_COUNT) rfl fun _ _ h => State.wrBit_rdIs (.inl (by simp only; omega)) h
  have h2 : Within [.regs, .q91, .rk, .scan] s1 s2 := within_ite (State.raise_within (by decide) (by decide) (by decide) (by decide) .rfl) .rfl
  have hc2 : s2.rd F.BAL_PLANS_COUNT = s1.rd F.BAL_PLANS_COUNT := by
    unfold s2
    split
    · exact State.rd_raise _ _ _ _ (by decide)
    · rfl
  have h3 : Within [.out, .ringSt] s2 s3 := within_foldl .rfl fun _ _ h => State.ringCmd_within (by decide) (by decide) h
  constructor
  · rw [(State.mirror_pair _ _).bal (by decide), State.raise_bal]
    change s3.bal.planWait = _
    rw [h3.bal (by decide), h2.bal (by decide), h1.bal (by decide)]
  · rw [State.rd_regs ((State.mirror_pair _ _).regs (by decide)), State.rd_raise _ _ _ _ (by decide), State.rd_bump _ _ _ (by decide)]
    have hc3 : s4.rd F.BAL_PLANS_COUNT = s2.rd F.BAL_PLANS_COUNT := State.rd_regs (h3.regs (by decide)) _
    rw [hc3, hc2, hc1]

/-- A plan that finds no node to ask is sent at once. -/
theorem State.planBegin_empty (hl : s.balNodes = []) : s.planBegin.bal.planWait = none ∧
    s.planBegin.rd F.BAL_PLANS_COUNT = satCount F.BAL_PLANS_COUNT.width (s.rd F.BAL_PLANS_COUNT + 1) := by
  have h : s.planBegin = State.sendPlan { s with bal := { s.bal with planWait := none, replanDue := false } } := by
    unfold State.planBegin
    rw [hl]
    rfl
  rw [h]
  exact State.sendPlan_spec _

/-! ## The stop -/

/-- A command to the ring leaves which nodes answer. -/
theorem State.ringCmd_balNodes (s : State) (n cmd : Nat) (p : List Byte) : (s.ringCmd n cmd p).balNodes = s.balNodes := by
  have hn : (s.ringCmd n cmd p).nodes = s.nodes := by rw [State.nodes, State.nodes, State.rd_regs ((s.ringCmd_ring n cmd p).regs (by decide))]
  have hr : (s.ringCmd n cmd p).ringSt.down = s.ringSt.down ∧ (s.ringCmd n cmd p).ringSt.up = s.ringSt.up ∧
      (s.ringCmd n cmd p).ringSt.foreign = s.ringSt.foreign := by
    unfold State.ringCmd State.sendCmd
    split
    · exact ⟨rfl, rfl, rfl⟩
    · split <;> exact ⟨rfl, rfl, rfl⟩
  obtain ⟨hd, hu, hf⟩ := hr
  simp only [State.balNodes, State.answering, hn, hd, hu, hf]

/-- BAL_STOP of a unit that originates, from the end of the start on, awaits the confirmation of each node that answers. -/
theorem State.balStop_spec (ho : s.originates = true) (hp : s.crown.phase = .complete) :
    s.balStop.bal = { s.bal with stopWait := s.balNodes, stopAgain := [], stopLost := false, running0 := s.nodes, planWait := none, replanDue := false } ∧
      OnlyFields [evtStatus 0x1D] s s.balStop := by
  unfold State.balStop
  rw [if_neg (by simp [ho, hp])]
  extract_lets s1 l s2 b s3
  have hl : l = s.balNodes := State.ringCmd_balNodes ..
  have h2 : Within [.out, .ringSt] s s2 := within_foldl (State.ringCmd_ring ..) fun _ _ h => State.ringCmd_within (by decide) (by decide) h
  have h3 : s3.bal = { s.bal with stopWait := s.balNodes, stopAgain := [], stopLost := false, running0 := s.nodes, planWait := none, replanDue := false } := by
    have hb : b = s.bal := h2.bal (by decide)
    have hn : s2.nodes = s.nodes := by rw [State.nodes, State.nodes, State.rd_regs (h2.regs (by decide))]
    unfold s3
    simp only [hb, hl, hn]
  have hr3 : OnlyFields [evtStatus 0x1D] s s3 := .of_regs (h2.regs (by decide))
  split
  · exact ⟨(State.raise_bal ..).trans h3, hr3.raise _ (by simp)⟩
  · exact ⟨h3, hr3⟩

/-! ## O30 -/

@[simp] theorem State.planAllowed_result (s : State) (who : Initiator) (a : Nat) : (s.result who a 0).planAllowed = s.planAllowed := by
  rw [State.result_ok]
  rfl

@[simp] theorem State.balNodes_result (s : State) (who : Initiator) (a : Nat) : (s.result who a 0).balNodes = s.balNodes := by
  rw [State.result_ok]
  rfl

@[simp] theorem State.nodes_result (s : State) (who : Initiator) (a : Nat) : (s.result who a 0).nodes = s.nodes := by
  rw [State.result_ok]
  rfl

@[simp] theorem State.originates_result (s : State) (who : Initiator) (a : Nat) : (s.result who a 0).originates = s.originates := by
  rw [State.result_ok]
  rfl

/-- A plan asked for by a write, where the planner may run or a secure session asks in SERVICE. -/
theorem State.planNow_asks {who : Initiator} {a : Nat}
    (ha : (s.planAllowed || (s.mode == .service && s.on F.BAL_CFG_EN && s.secureOf who && s.originates)) = true) (hl : s.balNodes ≠ []) :
    ((s.result who a 0).planNow who).bal = { s.bal with planWait := some s.balNodes, replanDue := false } ∧
      OnlyFields [] s ((s.result who a 0).planNow who) := by
  obtain ⟨hw, hbal⟩ := State.planBegin_asks (s := s.result who a 0) (by simpa using hl)
  unfold State.planNow
  rw [if_pos (by simpa using ha), hbal]
  exact ⟨by simp, .of_regs ((hw.regs (by decide)).trans (State.result_regs ..))⟩

/-- Where neither holds PLAN_NOW has no effect. -/
theorem State.planNow_none {who : Initiator} {a : Nat} (hm : s.mode ≠ .rest ∧ s.mode ≠ .run) (hs : s.mode ≠ .service ∨ s.secureOf who = false) :
    (s.result who a 0).planNow who = s.result who a 0 := by
  obtain ⟨hrest, hrun⟩ := hm
  refine if_neg ?_
  rcases hs with hs | hs <;> simp [State.planAllowed, hrest, hrun, hs]

/-- Settles O30. -/
theorem balancing : Obligations.Balancing := by
  refine ⟨fun s ha hl => ?_, fun s ha hl => ?_, fun who s hb ha hl => ?_, fun who s hb hm he hs ho hl => ?_, fun who s hb hm hs => ?_, fun who s hb hm => ?_,
    fun who s hb ho hp => ?_, fun n s hw ha => ?_, fun n s hw ha => ?_, fun who s hb hm => ?_, fun who s hb hm hw => ?_⟩
  · obtain ⟨hw, hbal⟩ := State.planBegin_asks hl
    exact .of_eq rfl (if_pos ha) ⟨hbal, hw.regs (by decide)⟩
  · exact .of_eq rfl (if_pos ha) (State.planBegin_empty hl)
  · exact .of_asWrite rfl hb (State.planNow_asks (by simp [ha]) hl)
  · exact .of_asWrite rfl hb (State.planNow_asks (by simp [hm, he, hs, ho]) hl)
  · refine .of_asWrite rfl hb ?_
    rw [State.planNow_none (by simp [hm]) (.inr hs)]
    exact ⟨by simp, .of_regs (by simp), by simp⟩
  · refine .of_asWrite rfl hb ?_
    rw [State.planNow_none (by simp [hm]) (.inl (by simp [hm]))]
    exact ⟨by simp, .of_regs (by simp), by simp⟩
  · refine .of_asWrite rfl hb ?_
    obtain ⟨hbal, hf⟩ := State.balStop_spec (s := s.result who A.BAL_CMD 0) (by simpa using ho) (by simpa using hp)
    exact ⟨by simpa using hbal, (OnlyFields.of_regs (by simp)).trans hf⟩
  · refine ⟨_, (if_neg (by rw [hw]; decide)).trans (if_neg (by rw [ha]; decide)), ?_⟩
    have hr := (State.ringCmd_ring { s with bal := { s.bal with stopAgain := s.bal.stopAgain ++ [n.val] } } n.val 0x10 (s.balHeader true))
    have hr2 := State.ringCmd_within (node := n.val) (cmd := 0x11) (payload := []) (by decide) (by decide) hr
    exact ⟨hr2.bal (by decide), hr2.regs (by decide)⟩
  · refine ⟨_, (if_neg (by rw [hw]; decide)).trans (if_pos ha), rfl, State.rd_lastingW .., ?_⟩
    exact (OnlyFields.of_regs rfl).lastingW (by simp) (by simp)
  · refine .of_asWrite rfl hb ?_
    rw [State.clearNfault, if_neg (by simpa using hm)]
    exact ⟨State.rd_wr _ _ _ (by decide), (OnlyFields.of_regs (by simp)).wr _ (by decide) (by simp)⟩
  · refine .of_asWrite rfl hb ?_
    rw [State.clearNfault, if_pos (by simpa using hm)]
    exact State.result_regs ..

end Sys2Proof.Machine
end

section
/-!
Stream rings as frames, and O38: telemetry.
-/
set_option Elab.async false
namespace Sys2Proof.Machine
open Sys2Proof

variable {s : State}

/-! ## Stream rings -/

/-- The copy of a register for a session lies on the page of the register. -/
theorem pageOf_bank (f : Fld) (i : Nat) : pageOf (f.bank i).addr = pageOf f.addr := by
  simp only [Fld.bank, pageOf]
  omega

theorem OnlyPages.raiseBank {P : List Nat} {t : State} (h : OnlyPages P s t) {i page bit : Nat} (hp : pageOf (evtStatus page).addr ∈ P) :
    OnlyPages P s (t.raiseBank i page bit) := by
  have hb : pageOf ((evtStatus page).bank i).addr ∈ P := by rwa [pageOf_bank]
  refine h.trans ?_
  unfold State.raiseBank
  split
  · exact .refl
  · dsimp only
    split
    · exact (OnlyPages.refl.wrBit hb).upd ((State.notify_within (T := [.q91, .rk, .scan]) (by decide) (by decide) (by decide) .rfl).regs (by decide))
    · exact OnlyPages.refl.wrBit hb

theorem State.overrun_pages (s : State) (q i : Nat) : OnlyPages [0x12] s (s.overrun q i) := by
  have hb : ∀ f : Fld, pageOf f.addr = 0x12 → pageOf (f.bank i).addr ∈ [0x12] := fun f hf => by rw [pageOf_bank, hf]; simp
  unfold State.overrun
  extract_lets c
  split
  · exact .refl
  · refine .ite .refl ?_
    extract_lets s1 s2
    have h1 : OnlyPages [0x12] s s1 := ((OnlyPages.refl.wrB (hb _ rfl)).wrB (hb _ rfl)).bump (hb _ rfl)
    have h2 : OnlyPages [0x12] s s2 := h1.raiseBank (by decide)
    exact h2.upd (State.mk_regs ..)

theorem State.refill_pages (s : State) {q : Nat} (hq : q < 128) : OnlyPages [0x11] s (s.refill q) := by
  have hp : pageOf (F.QUEUE_QSTAT_FILL q).addr ∈ [0x11] := by
    simp only [pageOf, List.mem_singleton]
    omega
  unfold State.refill State.setFill
  exact .ite ((OnlyPages.refl.wr hp).wr hp) (OnlyPages.refl.wr hp)

/-- An entry put into a ring changes the pages of the rings and of their readers. -/
theorem State.push_pages (s : State) {q : Nat} (bytes : List Byte) (used : Bool) (hq : q < 128) : OnlyPages [0x11, 0x12] s (s.push q bytes used).1 := by
  have hp : pageOf (F.QUEUE_DROP_DROPPED (q - 96)).addr ∈ [0x11, 0x12] := by
    simp only [pageOf, List.mem_cons]
    omega
  unfold State.push
  extract_lets r size e held s1
  split
  · exact (OnlyPages.refl.bump hp).raise (by decide)
  · have h1 : OnlyPages [0x11, 0x12] s s1 := .of_regs rfl
    exact (h1.foldl fun u i _ => (State.overrun_pages u q i).mono (by decide)).andThen (State.refill_pages _ hq) (by decide)

/-! ## Peak pairs and counters -/

/-- What one step of a fold establishes and every step keeps holds at its end. -/
theorem foldl_establishes {α β : Type} {P : β → Prop} {f : β → α → β} {l : List α} {x : α} (hx : x ∈ l) (hP : ∀ t, P (f t x)) (hk : ∀ t y, P t → P (f t y))
    (b : β) : P (l.foldl f b) := by
  have keeps : ∀ (l : List α) (t : β), P t → P (l.foldl f t) := fun l => by
    induction l with
    | nil => exact fun t h => h
    | cons a l ih => exact fun t h => ih _ (hk t a h)
  induction l generalizing b with
  | nil => exact absurd hx (List.not_mem_nil)
  | cons a l ih =>
    rcases List.mem_cons.1 hx with rfl | hx
    · exact keeps l _ (hP b)
    · exact ih hx _

/-- PK_CLR puts the pairs it names to their empty values. -/
theorem State.clearPeaks_spec (s : State) (m : Nat) {k : Nat} (hk : k < 6) (hm : m.testBit k = true) :
    (s.clearPeaks m).rd (F.TELEM_PKMAX_PK_MAX k) = 0x80000000 ∧ (s.clearPeaks m).rd (F.TELEM_PKMIN_PK_MIN k) = 0x7FFFFFFF := by
  have hset : ∀ (t : State) (j : Nat), ((t.wr (F.TELEM_PKMAX_PK_MAX j) 0x80000000).wr (F.TELEM_PKMIN_PK_MIN j) 0x7FFFFFFF).rd (F.TELEM_PKMAX_PK_MAX j) = 0x80000000 ∧
      ((t.wr (F.TELEM_PKMAX_PK_MAX j) 0x80000000).wr (F.TELEM_PKMIN_PK_MIN j) 0x7FFFFFFF).rd (F.TELEM_PKMIN_PK_MIN j) = 0x7FFFFFFF := fun t j => by
    simp (disch := (simp only [Fld.fits_mk, Fld.apart_mk]; omega)) only [State.rd_wr, State.rd_wr_apart]
    exact ⟨rfl, rfl⟩
  unfold State.clearPeaks
  refine foldl_establishes (P := fun t : State => t.rd (F.TELEM_PKMAX_PK_MAX k) = 0x80000000 ∧ t.rd (F.TELEM_PKMIN_PK_MIN k) = 0x7FFFFFFF)
    (List.mem_range.2 hk) (fun t => ?_) (fun t j h => ?_) s
  · rw [if_pos hm]
    exact hset t k
  · split
    · by_cases hj : j = k
      · exact hj ▸ hset t j
      · simp (disch := (simp only [Fld.fits_mk, Fld.apart_mk]; omega)) only [State.rd_wr_apart]
        exact h
    · exact h

/-- A slot write leaves the counters as they are. -/
theorem State.counterSlot_tele (s : State) : ∃ d sl, s.counterSlot.tele = { s.tele with deferred := d, slots := sl } := by
  unfold State.counterSlot
  split
  · exact ⟨_, _, rfl⟩
  · exact ⟨_, _, rfl⟩

/-- CNT_RESET is recorded; by a secure session in STANDBY or SERVICE it zeroes the counters. -/
theorem State.cntReset_ok {who : Initiator} (hs : s.secureOf who = true) (hm : s.mode = .standby ∨ s.mode = .service) :
    (s.cntReset who).tele.qIn = 0 ∧ (s.cntReset who).tele.qOut = 0 ∧ (s.cntReset who).tele.eIn = 0 ∧ (s.cntReset who).tele.eOut = 0 ∧
      (s.cntReset who).q91.length = s.q91.length + 1 := by
  unfold State.cntReset
  extract_lets ok s1 te
  have hok : ok = true := by rcases hm with hm | hm <;> simp [ok, hs, hm]
  rw [if_pos hok]
  have hw : Within [.regs] { s1 with tele := { te with qIn := 0, qOut := 0, eIn := 0, eOut := 0 } } _ := State.showCounters_within (by decide) .rfl
  obtain ⟨d, sl, ht⟩ := (State.showCounters { s1 with tele := { te with qIn := 0, qOut := 0, eIn := 0, eOut := 0 } }).counterSlot_tele
  have hq : Within [.tele] _ (State.showCounters { s1 with tele := { te with qIn := 0, qOut := 0, eIn := 0, eOut := 0 } }).counterSlot :=
    State.counterSlot_within (by decide) .rfl
  rw [ht, hw.tele (by decide), hq.q91 (by decide), hw.q91 (by decide)]
  exact ⟨rfl, rfl, rfl, rfl, by simp [s1, State.record]⟩

/-- A write for a clock domain that runs, with none waiting, is made. -/
theorem State.crossing_now {who : Initiator} {a d : Nat} {k : State → State} (hc : s.crossingStopped a = false)
    (hh : (s.host.held.any fun h => pageOf h.addr == pageOf a) = false) : s.crossing who a d k = k s :=
  if_neg (by simp only [hc, hh]; decide)

@[simp] theorem State.crossingStopped_result (s : State) (who : Initiator) (b a : Nat) : (s.result who b 0).crossingStopped a = s.crossingStopped a := by
  rw [State.result_ok]
  rfl

@[simp] theorem State.held_result (s : State) (who : Initiator) (b : Nat) : (s.result who b 0).host.held = s.host.held := by
  rw [State.result_ok]
  by_cases h : who = .host <;> simp [h]

/-- Settles O38. -/
theorem telemetry : Obligations.Telemetry := by
  refine ⟨fun n sec ns frac q ch clipped stepped s hm hd hn => ?_, fun who m s hb hc hh => ?_, fun who s hb hc hh hs hm => ?_, fun who m s hb hc => ?_,
    fun who s hb hc hh hs => ?_, fun s hj => ?_, fun s hj => ⟨_, rfl, congrArg State.tele (if_pos hj)⟩, fun who k s hb => ?_⟩
  · change ∃ t, execTelemWindowEnd n sec ns frac q ch clipped stepped s = .next t ∧ _
    unfold execTelemWindowEnd
    rw [if_neg (by simp [hm, hd, hn])]
    extract_lets add te len s1 s2 s3 s4 s5 s6 new len1 te1
    have hw2 : Within [.regs, .q91, .rk, .scan, .eng] s1 s2 :=
      within_foldl (State.showCounters_within (by decide) .rfl) fun _ _ h => State.reduce_within (by decide) h
    have hw3 : Within [.regs, .q91, .rk, .scan, .eng] s1 s3 :=
      State.raise_within (by decide) (by decide) (by decide) (by decide) (State.wr_within (by decide) (State.wrB_within (by decide) hw2))
    have hw4 : Within [.regs, .q91, .rk, .scan, .eng] s1 s4 := within_ite (State.raise_within (by decide) (by decide) (by decide) (by decide) hw3) hw3
    have hw5 : Within [.regs, .q91, .rk, .scan, .eng] s1 s5 := within_ite (State.raise_within (by decide) (by decide) (by decide) (by decide) hw4) hw4
    have hw6 : Within [.regs, .q91, .rk, .scan, .eng] s1 s6 := by
      refine within_ite ?_ hw5
      have hp := State.push_within (q := 98) (bytes := s5.teleRecord n sec ns frac len stepped clipped (te.hold || s5.mode == Mode.hold)) (used := true)
        (by decide) (by decide) (by decide) (by decide) (by decide) hw5
      exact within_ite hp (State.raise_within (by decide) (by decide) (by decide) (by decide) (State.bump_within (by decide) hp))
    have hrd : ∀ g : Fld, pageOf g.addr = 0x25 → (evtStatus 0x25).apart g → F.TELEM_STAT_DROPPED.apart g → s6.rd g = s3.rd g := fun g hg he hd => by
      have h5 : s5.rd g = s3.rd g := by
        have h4 : s4.rd g = s3.rd g := by
          unfold s4
          split
          · exact State.rd_raise _ _ _ _ he
          · rfl
        unfold s5
        split
        · rw [State.rd_raise _ _ _ _ he, h4]
        · exact h4
      have hp := (s5.push_pages (q := 98) (s5.teleRecord n sec ns frac len stepped clipped (te.hold || s5.mode == Mode.hold)) true (by decide)).rd
        (f := g) (by rw [hg]; decide)
      unfold s6
      split
      · dsimp only
        split
        · rw [hp, h5]
        · rw [State.rd_raise _ _ _ _ he, State.rd_bump_apart _ _ _ _ (by decide) hd, hp, h5]
      · exact h5
    refine ⟨_, rfl, rfl, ?_, ?_, ?_, ?_, ?_, ?_⟩
    · exact congrArg Tele.qIn (hw6.tele (by decide))
    · exact congrArg Tele.qOut (hw6.tele (by decide))
    · exact congrArg Tele.eIn (hw6.tele (by decide))
    · exact congrArg Tele.eOut (hw6.tele (by decide))
    · refine (hrd _ (by decide) (by decide) (by decide)).trans ((State.rd_raise _ _ _ _ (by decide)).trans (State.rd_wr _ _ _ (by decide)))
    · refine (hrd _ (by decide) (by decide) (by decide)).trans ((State.rd_raise _ _ _ _ (by decide)).trans ?_)
      exact (State.rd_wr_apart _ _ _ _ (by decide) (by decide)).trans (State.rd_wrB _ _ _ (by decide) (by decide))
  · refine .of_asWrite rfl hb ?_
    rw [State.crossing_now (by simpa using hc) (by simpa using hh)]
    have hw : Within [.regs] _ ((s.result who A.TELEM_CMD 0).clearPeaks m.toNat) := State.clearPeaks_within (by decide) .rfl
    exact ⟨fun k hk => State.clearPeaks_spec _ _ k.isLt hk, (hw.tele (by decide)).trans (State.result_tele ..)⟩
  · refine .of_asWrite rfl hb ?_
    rw [State.crossing_now (by simpa using hc) (by simpa using hh)]
    obtain ⟨h1, h2, h3, h4, h5⟩ := State.cntReset_ok (s := s.result who A.TELEM_CMD 0) (who := who) (by simpa using hs) (by simpa using hm)
    exact ⟨h1, h2, h3, h4, by simpa using h5⟩
  · refine .of_asWrite rfl hb ?_
    rw [State.crossing, if_pos (by simp [hc])]
    exact ⟨by simp, by simp, .of_regs (by simp)⟩
  · refine .of_asWrite rfl hb ?_
    rw [State.crossing_now (by simpa using hc) (by simpa using hh)]
    unfold State.cntReset
    extract_lets ok s1 te
    rw [if_neg (by simp [ok, hs])]
    exact ⟨by simp [s1, State.record], by simp [s1, State.record], .of_regs (by simp [s1, State.record])⟩
  · refine .of_eq rfl (if_neg (by rw [hj]; decide)) ⟨rfl, ?_⟩
    dsimp only
    rw [mget_mset, if_pos rfl]
    exact List.take_left' (by simp [State.counters, le])
  · refine ⟨_, congrArg Host.Outcome.next (State.asRead_ok _ _ _ _ hb), ?_⟩
    unfold State.readCounterLo
    exact ⟨by simp [State.word], by simp, .of_regs (by simp)⟩

end Sys2Proof.Machine
end

section
/-!
O16: the secure commit.
-/
set_option Elab.async false
namespace Sys2Proof.Machine
open Sys2Proof

variable {s : State}

theorem State.erase_pages (s : State) (sector : Nat) : OnlyPages [0x60] s (s.erase sector) := by
  unfold State.erase
  extract_lets n nv s1
  have h1 : OnlyPages [0x60] s s1 := .of_regs rfl
  exact .ite (h1.wr (by decide)) h1

/-- An entry of the store is written within the registers of NVM. -/
theorem State.storeEntry_pages (s : State) (format : Nat) : OnlyPages [0x60] s (s.storeEntry format) := by
  unfold State.storeEntry State.showEntry
  extract_lets k e len s1
  have h1 : OnlyPages [0x60] s s1 := OnlyPages.refl.foldl fun u _ _ => State.erase_pages u _
  exact ((((h1.upd (State.mk_regs ..)).wr (by decide)).wr (by decide)).wrB (by decide)).wr (by decide)

/-- A check of staged registers begins. -/
theorem State.startCheck_stage (s : State) : s.startCheck.stage = 2 := State.rd_wr _ _ _ (by decide)

/-- Step 1 of a commit (Table 3-9): its check runs. -/
theorem State.commitWrite89_begins {who : Initiator} (hw : who.id ≠ 0) (hc : s.stg.commitStep = 0) (hb : s.commitBarred who = false) (hs : s.stage = 1) :
    (s.commitWrite89 who 0x15C3A).stg.commitStep = 1 ∧ (s.commitWrite89 who 0x15C3A).stg.commitBy = who ∧
      (s.commitWrite89 who 0x15C3A).rd F.WORLD_COMMIT_STAT_STATE = 1 ∧ (s.commitWrite89 who 0x15C3A).stage = 2 := by
  unfold State.commitWrite89
  rw [if_neg (by rw [hc]; decide), if_neg (by simp [hw, hb])]
  extract_lets g st s1
  have h1 : s1.stage = 1 := (State.rd_wr_apart _ _ _ _ (by decide) (by decide)).trans hs
  have hcheck : s1.check who = s1.startCheck := by
    unfold State.check
    rw [h1]
    rfl
  rw [if_neg (by omega), hcheck, State.commitGo, if_neg (by rw [State.startCheck_stage]; decide)]
  refine ⟨rfl, rfl, ?_, State.startCheck_stage _⟩
  exact (State.rd_wr_apart _ _ _ _ (by decide) (by decide)).trans (State.rd_wr _ _ _ (by decide))

@[simp] theorem State.commitBarred_result (s : State) (who : Initiator) (a : Nat) (w : Initiator) : (s.result who a 0).commitBarred w = s.commitBarred w := by
  rw [State.result_ok]
  rfl

@[simp] theorem State.stage_result (s : State) (who : Initiator) (a : Nat) : (s.result who a 0).stage = s.stage := State.rd_result ..

/-- Step 4 of a commit: LOCKED, one commit more, STATE 2. -/
theorem State.commitEnds_spec (v : State) :
    (((v.wrB F.WORLD_COMMIT_STAT_LOCKED true).bump F.WORLD_COMMIT_STAT_COUNT).wr F.WORLD_COMMIT_STAT_STATE 2).rd F.WORLD_COMMIT_STAT_STATE = 2 ∧
      (((v.wrB F.WORLD_COMMIT_STAT_LOCKED true).bump F.WORLD_COMMIT_STAT_COUNT).wr F.WORLD_COMMIT_STAT_STATE 2).rd F.WORLD_COMMIT_STAT_LOCKED = 1 ∧
      (((v.wrB F.WORLD_COMMIT_STAT_LOCKED true).bump F.WORLD_COMMIT_STAT_COUNT).wr F.WORLD_COMMIT_STAT_STATE 2).rd F.WORLD_COMMIT_STAT_COUNT =
        satCount F.WORLD_COMMIT_STAT_COUNT.width (v.rd F.WORLD_COMMIT_STAT_COUNT + 1) := by
  simp (disch := decide) only [State.rd_wr, State.rd_wr_apart, State.rd_bump, State.rd_bump_apart, State.rd_wrB, State.rd_wrB_apart]
  exact ⟨rfl, rfl, trivial⟩

theorem State.commitStored_zero (hc : s.stg.commitStep = 3) : s.commitStored 0 =
    (((State.storeEntry { s with stg := { s.stg with commitStep := 0 } } (s.imgFormat 0)).wrB F.WORLD_COMMIT_STAT_LOCKED true).bump
      F.WORLD_COMMIT_STAT_COUNT).wr F.WORLD_COMMIT_STAT_STATE 2 := if_neg (not_not.2 hc)

/-- Settles O16. -/
theorem secureCommit : Obligations.SecureCommit := by
  refine ⟨fun who s hb hw hc hbar hs => ?_, fun who s hb hc hbar => ?_, fun s hc => ?_, fun s hc => ?_, fun s hc => ?_⟩
  · exact .of_asWrite rfl hb (State.commitWrite89_begins hw (by simpa using hc) (by simpa using hbar) (by simpa using hs))
  · refine .of_asWrite rfl hb ?_
    rw [State.commitWrite89, if_neg (by rw [State.result_stg, hc]; decide), if_pos (by simp [hbar])]
    exact ⟨State.rd_wr _ _ _ (by decide), (OnlyFields.of_regs (by simp)).wr _ (by decide) (by simp), by simp⟩
  · refine .of_eq rfl (State.commitStored_zero hc) ?_
    obtain ⟨hstate, hlocked, hcount⟩ := State.commitEnds_spec (State.storeEntry { s with stg := { s.stg with commitStep := 0 } } (s.imgFormat 0))
    have hw : Within [.regs, .nvm] { s with stg := { s.stg with commitStep := 0 } } _ := State.wr_within (f := F.WORLD_COMMIT_STAT_STATE) (n := 2) (by decide)
      (State.bump_within (f := F.WORLD_COMMIT_STAT_COUNT) (n := 1) (by decide) (State.wrB_within (f := F.WORLD_COMMIT_STAT_LOCKED) (b := true) (by decide)
        (State.storeEntry_within (format := s.imgFormat 0) (by decide) (by decide) .rfl)))
    have hn := (State.storeEntry_pages { s with stg := { s.stg with commitStep := 0 } } (s.imgFormat 0)).rd (f := F.WORLD_COMMIT_STAT_COUNT) (by decide)
    exact ⟨congrArg Staging.commitStep (hw.stg (by decide)), hstate, hlocked, hcount.trans (congrArg (fun n => satCount _ (n + 1)) hn)⟩
  · exact .of_eq rfl (if_neg (not_not.2 hc)) ⟨rfl, State.rd_wr _ _ _ (by decide)⟩
  · exact .of_eq rfl (if_neg (not_not.2 hc)) ⟨rfl, State.rd_wr _ _ _ (by decide), (OnlyFields.of_regs rfl).wr _ (by decide) (by simp)⟩

end Sys2Proof.Machine
end

section
/-!
O17: plain register writes and the clears of the header registers.
-/
set_option Elab.async false
namespace Sys2Proof.Machine
open Sys2Proof

/-! ## A register's word from its fields -/

section Words
variable {s : State} {who : Initiator} {a d : Nat}

theorem Fld.put_get (f : Fld) (w : Word) : f.put w (f.get w) = w := by
  have hle : f.get w * 2 ^ f.lo ≤ w.toNat := (Nat.mul_le_mul_right _ (Nat.mod_le ..)).trans (Nat.div_mul_le_self ..)
  have hlt : f.get w < 2 ^ f.width := Nat.mod_lt _ (Nat.two_pow_pos _)
  rw [Fld.put, Nat.mod_eq_of_lt hlt, Nat.sub_add_cancel hle]
  simp [Word.ofNat]

theorem State.rd_setWord_same (w : Word) (lo width : Nat) : (s.setWord a w).rd ⟨a, lo, width⟩ = (⟨a, lo, width⟩ : Fld).get w :=
  congrArg _ (State.word_setWord_same s a w)

theorem State.onlyFields_setWord {l : List Fld} {w : Word}
    (h : ∀ g : Fld, g.addr = a → (∀ f ∈ l, f.apart g) → g.get w = g.get (s.word a)) : OnlyFields l s (s.setWord a w) := by
  intro g hg
  by_cases hga : g.addr = a
  · rw [State.rd, State.rd, hga, State.word_setWord_same]
    exact h g hga hg
  · rw [State.rd, State.rd, State.word_setWord_ne _ _ (Ne.symm hga)]

/-- A word that is replaced whole is the register's field of all 32 bits written. -/
theorem State.setWord_evtStatus (page : Nat) (w : Word) : s.setWord (page * 4096 + 0x010) w = s.wr (evtStatus page) w.toNat := by
  have hall : ∀ v : Word, (⟨page * 4096 + 0x010, 0, 32⟩ : Fld).get v = v.toNat := fun v => by
    simp only [Fld.get, pow_zero, Nat.div_one]
    exact Nat.mod_eq_of_lt v.isLt
  rw [State.wr, evtStatus_mk, Fld.put, hall, pow_zero, Nat.mul_one, Nat.mul_one, Nat.sub_self, Nat.zero_add, Nat.mod_eq_of_lt w.isLt]
  simp [Word.ofNat]

/-- Where no field of the register is live, a write leaves its word. -/
theorem regWrite_kept {fs : List FieldDef} {old : Word} (h : ∀ f ∈ fs, f.acc = .rws) (v : Word) (hv : v = old) :
    fs.foldl (fun w f => (⟨0, f.lo, f.width⟩ : Fld).put w (fieldWrite f old d)) v = old := by
  induction fs generalizing v with
  | nil => exact hv
  | cons f fs ih =>
    have hf : fieldWrite f old d = (⟨0, f.lo, f.width⟩ : Fld).get old := by simp only [fieldWrite, h f (List.mem_cons_self ..)]
    refine ih (fun g hg => h g (List.mem_cons_of_mem _ hg)) _ ?_
    simp only [hf, hv, Fld.put_get]

end Words

/-! ## A register without an effect of its own -/

/-- A write of the register puts its fields and does nothing else: no case of the write's effect names its address. -/
def plainReg (a : Nat) : Prop :=
  offOf a < 0x800 ∧ offOf a ∉ [0x020, 0x028, 0x02C] ∧
  pageOf a ∉ [0x00, 0x01, 0x03, 0x04, 0x12, 0x48, 0x4A, 0x50, 0x51, 0x52, 0x53, 0x61, 0x62, 0x70] ∧
  a ∉ [A.RING_CMD, A.HARVEST_CMD, A.CELLV_SNAP, A.BAL_CMD, A.CONTACT_CMD, A.IMPED_CMD, A.ESTIM_CMD, A.LEARN_CMD, A.THERM_CMD, A.TELEM_CMD,
    A.DISP_CMD, A.SAFE_CMD, A.SNET_DEGRADE, A.PAIR_CMD, A.SCAN_CMD, A.SCAN_PROG_DATA] ∧
  groupIdx a (A.PHASE_CMD 0) 0x20 16 = none

theorem bankAddr_of_ne {who : Initiator} {a : Nat} (h12 : pageOf a ≠ 0x12) (h61 : pageOf a ≠ 0x61) : bankAddr who a = a := by
  simp [bankAddr, h12, h61]

theorem pageOf_offset {page off : Nat} (hp : page < 256) (ho : off < 4096) : pageOf (page * 4096 + off) = page := by
  simp only [pageOf]
  omega

/-- The event registers of a page other than Q12 stand once (Table 3-2). -/
theorem bankAddr_evtStatus {who : Initiator} {page : Nat} (hp : page < 256) (h : page ≠ 0x12) :
    bankAddr who (page * 4096 + 0x010) = page * 4096 + 0x010 := by
  have ho : offOf (page * 4096 + 0x010) = 0x010 := by
    simp only [offOf]
    omega
  simp [bankAddr, pageOf_offset hp, ho, h]

theorem State.writeWork_plain {s : State} {who : Initiator} {a d : Nat} (h : plainReg a) : s.writeWork who a d = s.writeFields a d := by
  obtain ⟨-, -, -, ha, hg⟩ := h
  simp only [List.mem_cons, not_or, List.not_mem_nil, not_false_eq_true, and_true] at ha
  obtain ⟨h1, h2, h3, h4, h5, h6, h7, h8, h9, h10, h11, h12, h13, h14, h15, h16⟩ := ha
  simp only [State.writeWork, h1, h2, h3, h4, h5, h6, h7, h8, h9, h10, h11, h12, h13, h14, h15, h16, hg, if_false]

theorem State.writeEffect_plain {s : State} {who : Initiator} {a d : Nat} (h : plainReg a) : s.writeEffect who a d = s.writeFields a d := by
  have hw := State.writeWork_plain (s := s) (who := who) (d := d) h
  obtain ⟨ho, hh, hp, -, -⟩ := h
  have hb : bankAddr who a = a := bankAddr_of_ne (fun e => hp (by simp [e])) fun e => hp (by simp [e])
  simp only [List.mem_cons, not_or, List.not_mem_nil, not_false_eq_true, and_true] at hh
  obtain ⟨h20, h28, h2c⟩ := hh
  rw [State.writeEffect, if_neg (Nat.not_le.2 ho), if_neg h28, if_neg h2c, if_neg (by simp [h20]), if_neg (by simp [hb]),
    if_neg (by simpa using hp), hw]

theorem State.writeFields_some {s : State} {a d : Nat} {r : RegDef} (h : regAt a = some r) :
    s.writeFields a d = s.setWord a (regWrite r.fields (s.word a) d) := by
  simp only [State.writeFields, h]

/-- An accepted write that waits for no other one has its effect. -/
theorem State.writeReg_ok {s : State} {who : Initiator} {a d : Nat} (hc : s.writeCode who a d = 0) (hx : s.crossingStopped a = false)
    (hh : (s.host.held.any fun h => pageOf h.addr == pageOf a) = false) : s.writeReg who a d = (s.result who a 0).writeEffect who a d := by
  have h1 : ((s.result who a 0).host.held.any fun h => pageOf h.addr == pageOf a) = false := by rw [State.held_result]; exact hh
  rw [State.writeReg]
  simp only [hc, ne_eq, not_true_eq_false, if_false]
  exact State.crossing_now (by simpa using hx) h1

theorem State.crossingStopped_page {s : State} {a : Nat} (h : [0x20, 0x21, 0x22, 0x25].contains (pageOf a) = false) :
    s.crossingStopped a = false := by
  rw [State.crossingStopped, h, Bool.and_false, Bool.false_and]

theorem State.writeReg_refused {s : State} {who : Initiator} {a d c : Nat} (hc : s.writeCode who a d = c) (h0 : c ≠ 0) :
    s.writeReg who a d = s.refuseAccess who a true c := by
  rw [State.writeReg]
  simp only [hc, ne_eq, h0, not_false_eq_true, if_true]

theorem State.writeCode_barred {s : State} {who : Initiator} {a d c : Nat} (hb : s.barred who a true = c) (h0 : c ≠ 0) :
    s.writeCode who a d = c := by
  simp only [State.writeCode, hb, ne_eq, h0, not_false_eq_true, if_true]

/-! ## A write refused -/

section Refused
variable {s : State} {who : Initiator} {a : Nat}

theorem State.result_other (code : Nat) (h : who ≠ .host) : s.result who a code = { s with accErr := code } := by
  cases who with
  | host => exact absurd rfl h
  | ralkiul | service | scanProgram | dispatch | pairLink => rfl

theorem State.onlyFields_xwShown (write : Bool) : OnlyFields
    [F.WORLD_XW_COUNT_COUNT, F.WORLD_XW_LAST_ADDR, F.WORLD_XW_LAST_WRITE, F.WORLD_XW_LAST_SESSION] s (s.xwShown who a write) :=
  (((OnlyFields.refl.bump 1 (by decide) (by simp)).wr a (by decide) (by simp)).wrB write (by decide) (by simp)).wr who.id (by decide) (by simp)

end Refused

/-! ## The writes named -/

section Named
variable {s : State} {who : Initiator} {d : Nat}

theorem w1c_six (o : Nat) (ho : o < 64) (d : Nat) : o - (o &&& d % 64) = o &&& (63 - d % 64) := by
  have h : ∀ o < 64, ∀ d < 64, o - (o &&& d) = o &&& (63 - d) := by decide +kernel
  exact h o ho _ (Nat.mod_lt _ (by decide))

theorem State.writeEffect_estimView : s.writeEffect who A.ESTIM_VIEW d = s.wr F.ESTIM_VIEW_CELL (d % 512) := by
  rw [State.writeEffect_plain (by unfold plainReg; decide), State.writeFields_some (r := ⟨"VIEW", 0xC0, 1, 4, [⟨"CELL", 0, 9, .rw, .V, 0⟩]⟩) (by rfl)]
  simp [regWrite, fieldWrite]
  rfl

/-- A cell viewed and its tone share a word. -/
theorem State.writeEffect_impedView : (s.writeEffect who A.IMPED_VIEW d).rd F.IMPED_VIEW_CELL = d % 512 ∧
    (s.writeEffect who A.IMPED_VIEW d).rd F.IMPED_VIEW_TONE = d / 65536 % 8 ∧
    OnlyFields [F.IMPED_VIEW_CELL, F.IMPED_VIEW_TONE] s (s.writeEffect who A.IMPED_VIEW d) := by
  have hw : s.writeEffect who A.IMPED_VIEW d =
      s.setWord A.IMPED_VIEW (F.IMPED_VIEW_TONE.put (F.IMPED_VIEW_CELL.put (s.word A.IMPED_VIEW) (d % 512)) (d / 65536 % 8)) := by
    rw [State.writeEffect_plain (by unfold plainReg; decide),
      State.writeFields_some (r := ⟨"VIEW", 0xC0, 1, 4, [⟨"CELL", 0, 9, .rw, .V, 0⟩, ⟨"TONE", 16, 3, .rw, .V, 0⟩]⟩) (by rfl)]
    simp [regWrite, fieldWrite]
    rfl
  rw [hw]
  refine ⟨?_, ?_, State.onlyFields_setWord fun g hga hg => ?_⟩
  · rw [State.rd_setWord_same, Fld.get_put_apart F.IMPED_VIEW_TONE F.IMPED_VIEW_CELL _ _ (by decide) (by decide), Fld.get_put _ _ _ (by decide)]
    exact Nat.mod_mod ..
  · rw [State.rd_setWord_same, Fld.get_put _ _ _ (by decide)]
    exact Nat.mod_mod ..
  · have ht := (hg F.IMPED_VIEW_TONE (by simp)).resolve_left fun n => n hga.symm
    have hc := (hg F.IMPED_VIEW_CELL (by simp)).resolve_left fun n => n hga.symm
    rw [Fld.get_put_apart F.IMPED_VIEW_TONE g _ _ (by decide) ht, Fld.get_put_apart F.IMPED_VIEW_CELL g _ _ (by decide) hc]

theorem State.writeEffect_estimEvents : s.writeEffect who 0x28010 d = s.wr (pageFld 0x28 0x010 0 6)
    (s.rd (pageFld 0x28 0x010 0 6) &&& (63 - d % 64)) := by
  have hlt : s.rd (pageFld 0x28 0x010 0 6) < 64 := Nat.mod_lt _ (by decide)
  rw [State.writeEffect_plain (by unfold plainReg; decide),
    State.writeFields_some (r := ⟨"EVT_STATUS", 0x10, 1, 4, [⟨"EVENTS", 0, 6, .w1c, .V, 0⟩]⟩) (by rfl), ← w1c_six _ hlt]
  simp [regWrite, fieldWrite]
  rfl

theorem State.writeEffect_hostCfg {r : RegDef} (hr : regAt A.HOST_CFG = some r) (h : ∀ f ∈ r.fields, f.acc = .rws) :
    s.writeEffect who A.HOST_CFG d = s.setWord A.HOST_CFG (s.word A.HOST_CFG) := by
  rw [State.writeEffect_plain (by unfold plainReg; decide), State.writeFields_some hr]
  exact congrArg _ (regWrite_kept h _ rfl)

end Named

/-- A write of a register that waits for no other one leaves what its effect leaves of the state with the result 0. -/
theorem exec_registerWrite_ok {s : State} {who : Initiator} {addr : BitVec 20} {data : BitVec 32} (a : Nat) {P : State → Prop} (ha : addr.toNat = a)
    (hc : s.writeCode who a data.toNat = 0) (hx : [0x20, 0x21, 0x22, 0x25].contains (pageOf a) = false)
    (hh : (s.host.held.any fun h => pageOf h.addr == pageOf a) = false) (h : P ((s.result who a 0).writeEffect who a data.toNat)) :
    Gives (.registerWrite who addr data) s P := by
  subst ha
  exact .of_eq rfl (State.writeReg_ok hc (State.crossingStopped_page hx) hh) h

/-- Settles O17: writes without an effect of their own put the register's fields, and a barred write only shows its code. -/
theorem registerWrites : Obligations.RegisterWrites := by
  refine ⟨fun who d s hc hh => ?_, fun who d s hc hh => ?_, fun who d s hc hh => ?_, fun who d s hc hw hh => ?_, fun who addr d s ha hw => ?_,
    fun who addr d s hb hw => ?_, fun who page mask s hb hp hx hh => ?_, fun who page s hb => ?_, fun who page s hb => ?_⟩
  · refine exec_registerWrite_ok A.ESTIM_VIEW rfl hc rfl hh ?_
    rw [State.writeEffect_estimView]
    exact ⟨(State.rd_wr _ _ _ (by decide)).trans (Nat.mod_mod ..), (OnlyFields.of_regs (State.result_regs ..)).wr _ (by decide) (by simp)⟩
  · refine exec_registerWrite_ok A.IMPED_VIEW rfl hc rfl hh ?_
    obtain ⟨hcell, htone, ho⟩ := (s.result who A.IMPED_VIEW 0).writeEffect_impedView (who := who) (d := d.toNat)
    exact ⟨hcell, htone, (OnlyFields.of_regs (State.result_regs ..)).trans ho⟩
  · refine exec_registerWrite_ok 0x28010 rfl hc rfl hh ?_
    rw [State.writeEffect_estimEvents]
    refine ⟨?_, (OnlyFields.of_regs (State.result_regs ..)).wr _ (by decide) (by simp)⟩
    rw [State.rd_wr _ _ _ (by decide), State.rd_result]
    exact Nat.mod_eq_of_lt (Nat.lt_of_le_of_lt Nat.and_le_left (Nat.mod_lt _ (by decide)))
  · refine exec_registerWrite_ok A.HOST_CFG rfl hc rfl hh ?_
    rw [State.writeEffect_hostCfg (r := ⟨"CFG", 0x040, 1, 4, [⟨"NS_OPEN", 0, 1, .rws, .S, 1⟩, ⟨"IRQ_EN", 1, 1, .rws, .S, 0⟩]⟩) (by rfl) (by decide)]
    exact ⟨(OnlyFields.of_regs (State.result_regs ..)).trans (State.onlyFields_setWord fun _ _ _ => rfl), State.result_staged ..⟩
  · refine ⟨_, exec_registerWrite_reserved who d s ha, ?_⟩
    rw [State.result_other _ hw]
    exact ⟨rfl, rfl, rfl, rfl⟩
  · have hx : s.writeReg who addr.toNat d.toNat = ({ s with accErr := 2 } : State).crossWorld who addr.toNat true := by
      rw [State.writeReg_refused (State.writeCode_barred hb (by decide)) (by decide), State.refuseAccess, if_pos rfl, State.result_other _ hw]
    have hin : Within [.regs, .q91, .host] ({ s with accErr := 2 } : State) _ :=
      State.crossWorld_within (who := who) (addr := addr.toNat) (write := true) (by decide) (by decide) (by decide) .rfl
    refine .of_eq rfl hx ⟨hin.accErr (by decide), ?_, ?_, ?_, fun g hg => ?_, hin.staged (by decide)⟩
    · exact (State.rd_crossWorld ..).trans ((State.xwShown_addr ..).trans (Nat.mod_eq_of_lt addr.isLt))
    · exact (State.rd_crossWorld ..).trans (State.xwShown_write ..)
    · exact (State.rd_crossWorld ..).trans (State.xwShown_session ..)
    · exact (State.rd_crossWorld ..).trans (State.onlyFields_xwShown true g hg)
  · refine .of_asWrite rfl hb ?_
    rw [State.crossing_now (by simpa using hx) (by rw [State.held_result, pageOf_offset page.isLt (by decide)]; exact hh),
      bankAddr_evtStatus page.isLt hp]
    refine ⟨?_, ?_⟩
    · rw [State.word_setWord_same, State.word, State.word, State.result_regs]
    · rw [State.setWord_evtStatus]
      exact (OnlyFields.of_regs (State.result_regs ..)).wr _ (Nat.le_refl 32) (by simp)
  · refine .of_asWrite rfl hb ?_
    rw [State.retryCntWrite, if_pos (by decide)]
    exact ⟨State.rd_wr _ _ _ (Nat.le_of_ble_eq_true rfl),
      (OnlyFields.of_regs (State.result_regs ..)).wr _ (Nat.le_of_ble_eq_true rfl) (by simp)⟩
  · refine .of_asWrite rfl hb ?_
    rw [State.lastingWrite, if_pos (by decide)]
    refine ⟨?_, State.rd_wr _ _ _ (Nat.le_of_ble_eq_true rfl), ?_⟩
    · exact (State.rd_wr_apart _ (pageFld page.val 0x02C 16 8) (pageFld page.val 0x02C 0 16) _ (Nat.le_of_ble_eq_true rfl) (.inr (.inr (Nat.le_refl 16)))).trans
        (State.rd_wr _ _ _ (Nat.le_of_ble_eq_true rfl))
    · exact ((OnlyFields.of_regs (State.result_regs ..)).wr _ (Nat.le_of_ble_eq_true rfl) (by simp)).wr _ (Nat.le_of_ble_eq_true rfl) (by simp)

end Sys2Proof.Machine
end

section
/-!
Words that an operation may change, and numbers in two's complement.
-/
set_option Elab.async false
namespace Sys2Proof.Machine
open Sys2Proof

/-! ## Fields read and written as signed numbers -/

theorem signedOf_encodeSigned {w : Nat} {x : Int} (hw : 0 < w) (hlo : -(2 ^ (w - 1)) ≤ x) (hhi : x < 2 ^ (w - 1)) :
    signedOf w (encodeSigned w x) = x := by
  obtain ⟨k, rfl⟩ : ∃ k, w = k + 1 := ⟨w - 1, by omega⟩
  have hp : (2 : Int) ^ (k + 1) = 2 * 2 ^ k := by rw [pow_succ, mul_comm]
  have hn : (2 : Nat) ^ k = ((2 ^ k : Int)).toNat := by rw [← Int.toNat_natCast (2 ^ k)]; simp
  simp only [signedOf, encodeSigned, Nat.add_sub_cancel] at *
  rw [hp, hn]
  generalize (2 : Int) ^ k = p at *
  rcases Int.lt_or_le x 0 with hx | hx
  · have : x % (2 * p) = x + 2 * p := by rw [← Int.add_emod_right, Int.emod_eq_of_lt (by omega) (by omega)]
    rw [this]
    omega
  · rw [Int.emod_eq_of_lt (by omega) (by omega)]
    omega

theorem satSigned_bounds (w : Nat) (x : Int) : -(2 ^ (w - 1)) ≤ satSigned w x ∧ satSigned w x < 2 ^ (w - 1) := by
  have : (0 : Int) < 2 ^ (w - 1) := by positivity
  simp only [satSigned]
  generalize (2 : Int) ^ (w - 1) = p at *
  split
  · omega
  · split <;> omega

theorem encodeSigned_lt (w : Nat) (x : Int) : encodeSigned w x < 2 ^ w := by
  have h0 : (0 : Int) < 2 ^ w := by positivity
  have hn : (2 : Nat) ^ w = ((2 ^ w : Int)).toNat := by rw [← Int.toNat_natCast (2 ^ w)]; simp
  rw [encodeSigned, hn]
  have h1 := Int.emod_lt_of_pos x h0
  have h2 := Int.emod_nonneg x (Int.ne_of_gt h0)
  omega

theorem satUnsigned_lt (w : Nat) (x : Int) : satUnsigned w x < 2 ^ w := by
  have : 0 < 2 ^ w := Nat.two_pow_pos w
  simp only [satUnsigned]
  split
  · omega
  · split <;> omega

/-- A number written to a field of a signed value reads limited to the field's range. -/
theorem State.rdI_wrI (s : State) {f : Fld} (x : Int) (hf : f.fits) (hw : 0 < f.width) : (s.wrI f x).rdI f = satSigned f.width x := by
  obtain ⟨hlo, hhi⟩ := satSigned_bounds f.width x
  rw [State.rdI, State.wrI, State.rd_wr _ _ _ hf, Nat.mod_eq_of_lt (encodeSigned_lt ..), signedOf_encodeSigned hw hlo hhi]

/-! ## Words outside a set -/

/-- From s to t only words at the addresses W changed. -/
def OnlyWhere (W : Nat → Prop) (s t : State) : Prop := ∀ a, ¬ W a → t.word a = s.word a

section Where
variable {W V : Nat → Prop} {s t u : State}

theorem OnlyWhere.of_regs (h : t.regs = s.regs) : OnlyWhere W s t := fun a _ => by simp only [State.word, h]

theorem OnlyWhere.refl : OnlyWhere W s s := .of_regs rfl

theorem OnlyWhere.trans (h : OnlyWhere W s t) (h' : OnlyWhere W t u) : OnlyWhere W s u := fun a ha => (h' a ha).trans (h a ha)

theorem OnlyWhere.mono (h : OnlyWhere V s t) (hV : ∀ a, V a → W a) : OnlyWhere W s t := fun a ha => h a fun hv => ha (hV a hv)

theorem OnlyWhere.andThen (h : OnlyWhere W s t) (h' : OnlyWhere V t u) (hV : ∀ a, V a → W a) : OnlyWhere W s u := h.trans (h'.mono hV)

theorem OnlyWhere.upd (h : OnlyWhere W s t) (hr : u.regs = t.regs) : OnlyWhere W s u := h.trans (.of_regs hr)

theorem OnlyWhere.wr (h : OnlyWhere W s t) {f : Fld} {n : Nat} (hf : W f.addr) : OnlyWhere W s (t.wr f n) := fun a ha =>
  (State.word_setWord_ne t _ fun e : f.addr = a => ha (e ▸ hf)).trans (h a ha)

theorem OnlyWhere.wrB (h : OnlyWhere W s t) {f : Fld} {b : Bool} (hf : W f.addr) : OnlyWhere W s (t.wrB f b) := h.wr hf

theorem OnlyWhere.wrI (h : OnlyWhere W s t) {f : Fld} {i : Int} (hf : W f.addr) : OnlyWhere W s (t.wrI f i) := h.wr hf

theorem OnlyWhere.bump (h : OnlyWhere W s t) {f : Fld} {n : Nat} (hf : W f.addr) : OnlyWhere W s (t.bump f n) := h.wr hf

theorem OnlyWhere.wrBit (h : OnlyWhere W s t) {f : Fld} {k : Nat} {b : Bool} (hf : W f.addr) : OnlyWhere W s (t.wrBit f k b) := h.wr hf

theorem OnlyWhere.ite {c : Prop} [Decidable c] {a b : State} (ha : OnlyWhere W s a) (hb : OnlyWhere W s b) :
    OnlyWhere W s (if c then a else b) := by
  split <;> assumption

theorem OnlyWhere.raise (h : OnlyWhere W s t) {page bit : Nat} (hp : W (evtStatus page).addr) : OnlyWhere W s (t.raise page bit) := by
  unfold State.raise
  refine .ite h ?_
  dsimp only
  refine .ite ?_ (h.wrBit hp)
  exact (h.wrBit hp).upd (State.notify_regs ..)

theorem OnlyWhere.foldl {α : Type} {f : State → α → State} (h : OnlyWhere W s t) {l : List α}
    (hf : ∀ u, ∀ x ∈ l, OnlyWhere W u (f u x)) : OnlyWhere W s (l.foldl f t) := by
  induction l generalizing t with
  | nil => exact h
  | cons a l ih => exact ih (h.trans (hf t a (List.mem_cons_self ..))) fun u x hx => hf u x (List.mem_cons_of_mem _ hx)

/-- A field of another word reads as before. -/
theorem OnlyWhere.rd (h : OnlyWhere W s t) {f : Fld} (hf : ¬ W f.addr) : t.rd f = s.rd f := congrArg f.get (h _ hf)

theorem OnlyWhere.rdI (h : OnlyWhere W s t) {f : Fld} (hf : ¬ W f.addr) : t.rdI f = s.rdI f := by rw [State.rdI, State.rdI, h.rd hf]

theorem OnlyWhere.mode (h : OnlyWhere W s t) (hW : ¬ W F.CROWN_MODE_MODE.addr) : t.mode = s.mode := by
  rw [State.mode, State.mode, h.rd (f := F.CROWN_MODE_MODE) hW]

theorem OnlyWhere.of_pages {P : List Nat} (h : OnlyPages P s t) (hP : ∀ a, pageOf a ∈ P → W a) : OnlyWhere W s t :=
  fun a ha => h a fun hp => ha (hP a hp)

theorem OnlyWhere.of_fields {l : List Fld} (h : OnlyFields l s t) (hl : ∀ f ∈ l, W f.addr) : OnlyWhere W s t := by
  intro a ha
  have hg : (⟨a, 0, 32⟩ : Fld).get (t.word a) = (⟨a, 0, 32⟩ : Fld).get (s.word a) :=
    h ⟨a, 0, 32⟩ fun f hf => .inl fun e : f.addr = a => ha (e ▸ hl f hf)
  simp only [Fld.get, pow_zero, Nat.div_one, Nat.mod_eq_of_lt (BitVec.isLt _)] at hg
  exact BitVec.eq_of_toNat_eq hg

end Where

end Sys2Proof.Machine
end

section
/-!
O51 and O52: the messages and the course of PTP.
-/
set_option Elab.async false
namespace Sys2Proof.Machine
open Sys2Proof

/-! ## Instances, steps and takers -/

section Instances
variable {s t : State} {i : Nat}

@[simp] theorem State.ptp_setPtp (s : State) (i : Nat) (p : Ptp) : (s.setPtp i p).ptp i = p :=
  (mget_mset ..).trans (if_pos rfl)

@[simp] theorem State.crown_setPtp (s : State) (i : Nat) (p : Ptp) : (s.setPtp i p).crown = s.crown := rfl

@[simp] theorem State.regs_setPtp (s : State) (i : Nat) (p : Ptp) : (s.setPtp i p).regs = s.regs := rfl

theorem OnlyWhere.setPtp {W : Nat → Prop} (h : OnlyWhere W s t) (p : Ptp) : OnlyWhere W s (t.setPtp i p) := h.upd (State.regs_setPtp ..)

@[simp] theorem State.stepsOf_setPtp (s : State) (i j : Nat) (p : Ptp) : (s.setPtp i p).stepsOf j = s.stepsOf j := rfl

theorem State.ptp_of_time (h : t.time = s.time) (i : Nat) : t.ptp i = s.ptp i := by rw [State.ptp, State.ptp, h]

theorem State.servo_of_regs (h : t.regs = s.regs) (i : Nat) : t.servo i = s.servo i := State.rd_regs h _

/-- Which PTP instances take a message depends on their configuration, their ports' links and addresses, and the mode. -/
theorem OnlyWhere.ptpTakes {W : Nat → Prop} (h : OnlyWhere W s t) (hc : t.crown = s.crown) {port ty len : Nat} {l2 : Bool} {m : List Byte}
    (hm : ¬ W F.CROWN_MODE_MODE.addr) (hl : ¬ W (F.ETH_LINK_UP port).addr) (hi : ¬ W (F.ETH_IPV4_ADDR port).addr)
    (hp : ¬ W (F.PTP_CFG_EN i).addr) : t.ptpTakes i port l2 ty len m = s.ptpTakes i port l2 ty len m := by
  have hlive : t.portsLive = s.portsLive := by rw [State.portsLive, State.portsLive, h.mode hm, hc]
  have hup : t.ptpUp port l2 = s.ptpUp port l2 := by
    rw [State.ptpUp, State.ptpUp, hlive, State.on, State.on, h.rd (f := F.ETH_LINK_UP port) hl, h.rd (f := F.ETH_IPV4_ADDR port) hi]
  simp only [State.ptpTakes, hup, State.on, h.rd (f := F.PTP_CFG_EN i) hp, h.rd (f := F.PTP_CFG_PORT i) hp, h.rd (f := F.PTP_CFG_PROFILE i) hp,
    h.rd (f := F.PTP_CFG_DOMAIN i) hp]

/-- A message that one of the instances alone takes acts on that one. -/
theorem State.eachTaker_one {port ty len : Nat} {l2 : Bool} {m : List Byte} {f : State → Nat → State} (hi : i < 2)
    (hy : s.ptpTakes i port l2 ty len m = true) (hn : s.ptpTakes (1 - i) port l2 ty len m = false)
    (hk : (f s i).ptpTakes (1 - i) port l2 ty len m = s.ptpTakes (1 - i) port l2 ty len m) : s.eachTaker port l2 ty len m f = f s i := by
  have hcase : i = 0 ∨ i = 1 := by omega
  rcases hcase with rfl | rfl
  · simp only [State.eachTaker, List.foldl_cons, List.foldl_nil, hy, if_true]
    rw [hk, if_neg (by simpa using hn)]
  · simp only [State.eachTaker, List.foldl_cons, List.foldl_nil]
    rw [if_neg (c := s.ptpTakes 0 port l2 ty len m = true) (by simpa using hn), if_pos hy]

/-- The addresses of the words that a PTP message may change beside those of a step of a time base: states, offsets, delays, rates,
  grandmasters, counts and events, but no configuration. -/
abbrev PtpWords (a : Nat) : Prop :=
  pageOf a = 0x48 ∨ pageOf a = 0x4A ∨ a ∈ [0x00020, 0x00024, 0x01104, 0x10050, 0x49010, 0x49028] ∨
  0x49080 ≤ a ∧ a < 0x490C0 ∨ 0x49100 ≤ a ∧ a < 0x49140

theorem OnlyWhere.ptpTakes_other (h : OnlyWhere PtpWords s t) (hc : t.crown = s.crown) {port ty len : Nat} {l2 : Bool} {m : List Byte}
    (hi : i < 2) (hp : port < 2) : t.ptpTakes (1 - i) port l2 ty len m = s.ptpTakes (1 - i) port l2 ty len m := by
  have hcase : i = 0 ∨ i = 1 := by omega
  have hport : port = 0 ∨ port = 1 := by omega
  rcases hcase with rfl | rfl <;> rcases hport with rfl | rfl <;> exact h.ptpTakes hc (by decide) (by decide) (by decide) (by decide)

theorem Gives.of_eachTaker {c : Instr} {port ty len : Nat} {l2 : Bool} {m : List Byte} {f : State → Nat → State} {P : State → Prop}
    (hx : exec c s = .next (s.eachTaker port l2 ty len m f)) (hi : i < 2) (hp : port < 2) (hy : s.ptpTakes i port l2 ty len m = true)
    (hn : s.ptpTakes (1 - i) port l2 ty len m = false) {u : State} (hu : f s i = u) (hw : OnlyWhere PtpWords s u) (hc : u.crown = s.crown) (h : P u) :
    Gives c s P := by
  subst hu
  exact .of_eq hx (State.eachTaker_one hi hy hn (hw.ptpTakes_other hc hi hp)) h

end Instances

/-! ## A completed exchange -/

section Exchange
variable {s : State} {i : Nat} {t1 t2 cs : Int}

theorem ptpWords_of {off : Nat} (hlo : 0x49080 ≤ off) (hhi : off < 0x490C0) (hi : i < 2) : PtpWords (off + 0x80 * i) := by
  have hcase : i = 0 ∨ i = 1 := by omega
  rcases hcase with rfl | rfl
  · exact .inr (.inr (.inr (.inl ⟨hlo, hhi⟩)))
  · exact .inr (.inr (.inr (.inr ⟨by omega, by omega⟩)))

theorem State.syncDone_idle (h : s.servo i = 0) :
    s.syncDone i t1 t2 cs = s.setPtp i { s.ptp i with sync := none, last := some (t1, t2, cs, s.stepsOf i) } := by
  have h' : ∀ p, (s.setPtp i p).servo i = 0 := fun _ => h
  simp only [State.syncDone, h, h', beq_iff_eq, OfNat.zero_ne_ofNat, if_false, if_true]

theorem State.syncDone_acquired (h : s.servo i = 1) (ha : (s.ptp i).acquired = true) :
    s.syncDone i t1 t2 cs = (s.setPtp i { s.ptp i with sync := none, last := some (t1, t2, cs, s.stepsOf i) }).offsetOfLast i := by
  have h' : ∀ p, (s.setPtp i p).servo i = 1 := fun _ => h
  simp [State.syncDone, h, h', ha]

theorem State.syncDone_acquires (h : s.servo i = 1) (ha : (s.ptp i).acquired = false) :
    s.syncDone i t1 t2 cs = (s.setPtp i { s.ptp i with sync := none, last := some (t1, t2, cs, s.stepsOf i) }).acquire i t1 t2 := by
  have h' : ∀ p, (s.setPtp i p).servo i = 1 := fun _ => h
  simp [State.syncDone, h, h', ha]

/-- An accepted Sync counts and is the base of the next interval. -/
theorem State.syncAccepted_spec (hi : i < 2) : (s.syncAccepted i t2).ptp i = { s.ptp i with prevT2 := some t2 } ∧
    (s.syncAccepted i t2).rd (F.PTP_CNT_SYNC_RX i) = satCount (F.PTP_CNT_SYNC_RX i).width (s.rd (F.PTP_CNT_SYNC_RX i) + 1) ∧
    OnlyWhere (fun a => a = (F.PTP_CNT_SYNC_RX i).addr ∨ a = 0x49080) s (s.syncAccepted i t2) ∧ (s.syncAccepted i t2).crown = s.crown := by
  have hb : (s.bump (F.PTP_CNT_SYNC_RX i)).rd (F.PTP_CNT_SYNC_RX i) = satCount (F.PTP_CNT_SYNC_RX i).width (s.rd (F.PTP_CNT_SYNC_RX i) + 1) :=
    State.rd_bump _ _ _ (Nat.le_of_ble_eq_true rfl)
  have ho : OnlyWhere (fun a => a = (F.PTP_CNT_SYNC_RX i).addr ∨ a = 0x49080) s (s.bump (F.PTP_CNT_SYNC_RX i)) := OnlyWhere.refl.bump (.inl rfl)
  have hp : ((s.bump (F.PTP_CNT_SYNC_RX i)).setPtp i { (s.bump (F.PTP_CNT_SYNC_RX i)).ptp i with prevT2 := some t2 }).ptp i =
      { s.ptp i with prevT2 := some t2 } := by
    rw [State.ptp_setPtp, State.ptp_of_time (State.bump_time ..)]
  unfold State.syncAccepted
  split
  · next h0 =>
    subst h0
    refine ⟨?_, ?_, (ho.setPtp _).wrB (.inr rfl), ?_⟩
    · exact (State.ptp_of_time (State.wrB_time ..) 0).trans hp
    · rw [State.rd_wrB_apart _ _ _ _ (by decide) (by decide)]
      exact hb
    · rw [State.wrB_crown, State.crown_setPtp, State.bump_crown]
  · refine ⟨hp, hb, ho.upd (State.regs_setPtp ..), ?_⟩
    rw [State.crown_setPtp, State.bump_crown]

theorem ptpWords_accepted (hi : i < 2) {a : Nat} (h : a = (F.PTP_CNT_SYNC_RX i).addr ∨ a = 0x49080) : PtpWords a := by
  rcases h with rfl | rfl
  · exact ptpWords_of (by decide) (by decide) hi
  · decide

/-- The first Sync of an acquisition is kept with its time and the steps of its time base. -/
theorem State.acquire_first (hi : i < 2) (ha : (s.ptp i).acq = none) :
    (s.acquire i t1 t2).ptp i = { s.ptp i with prevT2 := some t2, acq := some (t1, t2, s.stepsOf i) } ∧
    (s.acquire i t1 t2).rd (F.PTP_CNT_SYNC_RX i) = satCount (F.PTP_CNT_SYNC_RX i).width (s.rd (F.PTP_CNT_SYNC_RX i) + 1) ∧
    OnlyWhere PtpWords s (s.acquire i t1 t2) ∧ (s.acquire i t1 t2).crown = s.crown := by
  obtain ⟨hp, hr, ho, hc⟩ := State.syncAccepted_spec (s := s) (t2 := t2) hi
  have he : s.acquire i t1 t2 = (s.syncAccepted i t2).setPtp i { (s.syncAccepted i t2).ptp i with acq := some (t1, t2, s.stepsOf i) } := by
    simp only [State.acquire, ha]
  rw [he]
  refine ⟨?_, hr, (ho.mono fun _ h => ptpWords_accepted hi h).setPtp _, hc⟩
  rw [State.ptp_setPtp, hp]

/-! ## A step of a time base and the servo -/

/-- The addresses of the words that a step of a time base may change: the time bases, the triggers, and of CROWN and WORLD what an apply shows. -/
abbrev StepWords (a : Nat) : Prop := pageOf a = 0x48 ∨ pageOf a = 0x4A ∨ a ∈ [0x00020, 0x00024, 0x01104]

theorem State.cancelApply_where (s : State) (cause : Nat) : OnlyWhere StepWords s (s.cancelApply cause) := by
  unfold State.cancelApply
  refine .ite (.upd ?_ (State.mk_regs ..)) .refl
  have h : OnlyWhere StepWords s (((s.wr F.CROWN_STAGE_CTRL_STATE (if cause == 4 then 4 else 3)).wr F.CROWN_STAGE_ERR_CAUSE cause).wr
      F.CROWN_STAGE_ERR_PAGE (if (s.wr F.CROWN_STAGE_CTRL_STATE (if cause == 4 then 4 else 3)).staged.isEmpty &&
        (s.wr F.CROWN_STAGE_CTRL_STATE (if cause == 4 then 4 else 3)).scan.staged.isEmpty then 0
        else (s.wr F.CROWN_STAGE_CTRL_STATE (if cause == 4 then 4 else 3)).lowestDirty)) :=
    ((OnlyWhere.refl.wr (by decide)).wr (by decide)).wr (by decide)
  exact .ite (((h.wr (by decide)).upd (State.mk_regs ..)).wr (by decide)) (h.wr (by decide))

theorem State.applyStepped_where (s : State) (old new : Int) : OnlyWhere StepWords s (s.applyStepped old new) :=
  .ite (s.cancelApply_where 7) .refl

theorem State.leadingEdge_where (s : State) {k : Nat} (hk : k < 8) : OnlyWhere StepWords s (s.leadingEdge k) := by
  unfold State.leadingEdge
  refine .ite (OnlyWhere.bump (.of_regs rfl) (.inr (.inl ?_))) (.of_regs rfl)
  simp only [pageOf]
  omega

theorem State.trigStepped_where (s : State) (n : Nat) (now : Int) {k : Nat} (hk : k < 8) : OnlyWhere StepWords s (s.trigStepped n now k) := by
  have hpage : ∀ off < 0x800, pageOf (0x4A000 + off + 0x20 * k) = 0x4A := fun off ho => by
    simp only [pageOf]
    omega
  unfold State.trigStepped
  refine .ite .refl (.ite (.bump (.of_regs rfl) (.inr (.inl (hpage 0x5C (by decide))))) (.ite ?_ .refl))
  exact (OnlyWhere.raise (.wrBit .refl (.inr (.inl (hpage 0x44 (by decide))))) (by decide)).trans (State.leadingEdge_where _ hk)

theorem State.stepBase_where (s : State) {n : Nat} (t : TimeBase) (hn : n < 2) : OnlyWhere StepWords s (s.stepBase n t) := by
  have hpage : pageOf (F.TIME_CMD_STEPS n).addr = 0x48 := by
    simp only [pageOf]
    omega
  unfold State.stepBase
  extract_lets old d s1 p src s2 s3 src4 s4 src5 src6 s5
  have h0 : OnlyWhere StepWords s ((s.setTimeBase n t).bump (F.TIME_CMD_STEPS n)) := .bump (.of_regs rfl) (.inl hpage)
  have h1 : OnlyWhere StepWords s s1 := (h0.raise (page := 0x48) (by decide)).upd rfl
  have h2 : OnlyWhere StepWords s s2 := h1.upd rfl
  have h3 : OnlyWhere StepWords s s3 := .ite (h2.upd rfl) h2
  have h4 : OnlyWhere StepWords s s4 := .ite (h3.upd rfl) h3
  have h5 : OnlyWhere StepWords s s5 := .ite (.upd (h4.trans (State.applyStepped_where _ _ _)) rfl) h4
  exact .ite (h5.foldl fun u k hk => State.trigStepped_where u n _ (List.mem_range.1 hk)) h5

/-- The addresses of the words that the servos may change: beside a step's, the states and rates of both instances. -/
abbrev ServoWords (a : Nat) : Prop := StepWords a ∨ a ∈ [0x49010, 0x49080, 0x49100, 0x4908C, 0x4910C]

theorem State.setRate_where (s : State) (r : Int) (hi : i < 2) : OnlyWhere ServoWords s (s.setRate i r) := by
  have hcase : i = 0 ∨ i = 1 := by omega
  rcases hcase with rfl | rfl <;> exact (OnlyWhere.refl.wrI (by decide)).wrI (by decide)

theorem State.setSynced_where (s : State) (hi : i < 2) : OnlyWhere ServoWords s (s.setSynced i) := by
  have hcase : i = 0 ∨ i = 1 := by omega
  unfold State.setSynced
  rcases hcase with rfl | rfl <;> exact .ite .refl ((OnlyWhere.refl.wrB (by decide)).raise (page := 0x48) (by decide))

theorem State.lockCount_where (s : State) (theta : Int) (hi : i < 2) : OnlyWhere ServoWords s (s.lockCount i theta) := by
  have hst : ServoWords (F.PTP_STATE_SERVO i).addr := by
    have hcase : i = 0 ∨ i = 1 := by omega
    rcases hcase with rfl | rfl <;> decide
  unfold State.lockCount
  extract_lets p run s1
  have h1 : OnlyWhere ServoWords s s1 := OnlyWhere.refl.setPtp _
  exact .ite (((((h1.wr (f := F.PTP_STATE_SERVO i) hst).wr (f := F.PTP_STATE_PORT_STATE i) hst).raise (page := 0x49) (by decide)).setPtp _).trans (State.setSynced_where _ hi)) h1

theorem State.servoTake_where (s : State) (theta ts : Int) (hi : i < 2) : OnlyWhere ServoWords s (s.servoTake i theta ts) := by
  unfold State.servoTake
  extract_lets p mode s1 m di dp ik raw r keep
  have h1 : OnlyWhere ServoWords s s1 := ((State.stepBase_where s _ hi).mono fun _ h => .inl h).raise (page := 0x49) (by decide)
  refine .ite ((h1.setPtp _).trans (State.setRate_where _ _ hi)) (.ite .refl ?_)
  exact ((OnlyWhere.refl.setPtp _).trans (State.setRate_where _ _ hi)).trans (State.lockCount_where _ _ hi)

/-- A fallback of TB0 on TB1 shows its own offset. -/
theorem State.fallback_where (s : State) (ts : Int) : OnlyWhere (fun a => ServoWords a ∨ a = 0x49084) s (s.fallback ts) := by
  unfold State.fallback
  refine .ite ?_ .refl
  extract_lets s1 theta
  have h1 : OnlyWhere (fun a => ServoWords a ∨ a = 0x49084) s s1 := .ite .refl ((OnlyWhere.refl.wrB (by decide)).raise (page := 0x49) (by decide))
  exact (h1.wrI (.inr rfl)).andThen (State.servoTake_where _ _ _ (by decide)) fun _ h => .inl h

theorem ServoWords.ptp {a : Nat} (h : ServoWords a) : PtpWords a := by
  simp only [ServoWords, StepWords, PtpWords, List.mem_cons, List.not_mem_nil, or_false] at *
  omega

/-- The words that instances show a Sync by are no words of a servo. -/
theorem not_servoWords (hi : i < 2) : ¬ ServoWords (F.PTP_OFFS_OFFSET i).addr ∧ ¬ ServoWords (F.PTP_CNT_SYNC_RX i).addr := by
  have hcase : i = 0 ∨ i = 1 := by omega
  rcases hcase with rfl | rfl <;> decide

/-- An offset that is no outlier is shown, its Sync accepted and the servo moved, that of the first one with it in a fallback. -/
theorem State.offset_taken {theta : Int} (hs : s.servo i = 1) (ho : (s.ptp i).outlier = false) : ∃ ts, s.offset i theta t2 =
    if i = 1 then ((((s.wrI (F.PTP_OFFS_OFFSET i) (roundAway theta 65536)).syncAccepted i t2).servoTake i theta ts).fallback ts)
    else ((s.wrI (F.PTP_OFFS_OFFSET i) (roundAway theta 65536)).syncAccepted i t2).servoTake i theta ts := by
  refine ⟨t2 - (s.ptp i).prevT2.getD t2, ?_⟩
  have h1 : (s.wrI (F.PTP_OFFS_OFFSET i) (roundAway theta 65536)).servo i = 1 :=
    (State.rd_wrI_apart s (F.PTP_OFFS_OFFSET i) (F.PTP_STATE_SERVO i) _ (Nat.le_of_ble_eq_true rfl) (.inl (by simp only; omega))).trans hs
  unfold State.offset
  extract_lets p ts s1 out take
  have hout : out = false := by simp [out, s1, h1]
  have hout' : p.outlier = false := ho
  rw [if_neg (by simp [hout]), if_neg (by simp [hout]), if_neg (by simp [hout'])]

theorem State.offset_shown {theta : Int} (hi : i < 2) (hs : s.servo i = 1) (ho : (s.ptp i).outlier = false) :
    (s.offset i theta t2).rdI (F.PTP_OFFS_OFFSET i) = satSigned 32 (roundAway theta 65536) ∧
    (s.offset i theta t2).rd (F.PTP_CNT_SYNC_RX i) = satCount (F.PTP_CNT_SYNC_RX i).width (s.rd (F.PTP_CNT_SYNC_RX i) + 1) ∧
    OnlyWhere PtpWords s (s.offset i theta t2) ∧ (s.offset i theta t2).crown = s.crown := by
  have hcrown : (s.offset i theta t2).crown = s.crown := (State.offset_within (T := [.regs, .shadow, .tb, .stg, .q91, .rk, .scan, .est, .time, .can])
    (by decide) (by decide) (by decide) (by decide) (by decide) (by decide) (by decide) (by decide) (by decide) (by decide) .rfl).crown (by decide)
  have hoffs : PtpWords (F.PTP_OFFS_OFFSET i).addr := ptpWords_of (by decide) (by decide) hi
  obtain ⟨hno, hnc⟩ := not_servoWords hi
  obtain ⟨ts, he⟩ := State.offset_taken (t2 := t2) (theta := theta) hs ho
  set u := (s.wrI (F.PTP_OFFS_OFFSET i) (roundAway theta 65536)) with hu
  obtain ⟨-, hr, hw, -⟩ := State.syncAccepted_spec (s := u) (t2 := t2) hi
  have huo : u.rdI (F.PTP_OFFS_OFFSET i) = satSigned 32 (roundAway theta 65536) := State.rdI_wrI _ _ (Nat.le_refl 32) (Nat.lt_of_lt_of_eq (by decide : 0 < 32) rfl)
  have huc : u.rd (F.PTP_CNT_SYNC_RX i) = s.rd (F.PTP_CNT_SYNC_RX i) :=
    State.rd_wrI_apart s (F.PTP_OFFS_OFFSET i) (F.PTP_CNT_SYNC_RX i) _ (Nat.le_refl 32) (.inl (by simp only; omega))
  have hao : ¬ ((F.PTP_OFFS_OFFSET i).addr = (F.PTP_CNT_SYNC_RX i).addr ∨ (F.PTP_OFFS_OFFSET i).addr = 0x49080) := by
    simp only
    omega
  have huw : OnlyWhere PtpWords s (u.syncAccepted i t2) :=
    (OnlyWhere.refl.wrI hoffs).andThen hw fun _ h => ptpWords_accepted hi h
  have hv : OnlyWhere ServoWords (u.syncAccepted i t2) ((u.syncAccepted i t2).servoTake i theta ts) := State.servoTake_where _ _ _ hi
  have hf := State.fallback_where ((u.syncAccepted i t2).servoTake i theta ts) ts
  have hvo : ((u.syncAccepted i t2).servoTake i theta ts).rdI (F.PTP_OFFS_OFFSET i) = satSigned 32 (roundAway theta 65536) := by
    rw [hv.rdI hno, hw.rdI hao, huo]
  have hvc := (hv.rd hnc).trans (hr.trans (by rw [huc]))
  have hvw : OnlyWhere PtpWords s ((u.syncAccepted i t2).servoTake i theta ts) := huw.andThen hv fun _ h => h.ptp
  rw [he] at hcrown ⊢
  split
  · next h1 =>
    subst h1
    refine ⟨(hf.rdI (by decide)).trans hvo, (hf.rd (by decide)).trans hvc, hvw.andThen hf ?_, ?_⟩
    · rintro a (h | rfl)
      · exact h.ptp
      · decide
    · rwa [if_pos rfl] at hcrown
  · next h1 =>
    rw [if_neg h1] at hcrown
    exact ⟨hvo, hvc, hvw, hcrown⟩

/-! ## Delays -/

theorem State.delayDone_negative {d : Int} (h : d < 0) : s.delayDone i d = s := if_pos h

theorem State.delayDone_first {d : Int} (h : 0 ≤ d) (hd : (s.ptp i).delay = none) (hu : (s.ptp i).due = false) :
    s.delayDone i d = (s.setPtp i { s.ptp i with delay := some d }).wr (F.PTP_MPD_DELAY i) (satUnsigned 32 (roundAway d 65536)) := by
  rw [State.delayDone, if_neg (Int.not_lt.2 h)]
  simp only [hd]
  rw [if_neg (by simp [hu])]

/-- The first delay shown: what is kept of the exchange, MPD, and the words left. -/
theorem State.delayDone_spec {d : Int} (hi : i < 2) (h : 0 ≤ d) (hd : (s.ptp i).delay = none) (hu : (s.ptp i).due = false) :
    (s.delayDone i d).ptp i = { s.ptp i with delay := some d } ∧
    (s.delayDone i d).rd (F.PTP_MPD_DELAY i) = satUnsigned 32 (roundAway d 65536) ∧
    OnlyWhere PtpWords s (s.delayDone i d) ∧ (s.delayDone i d).crown = s.crown := by
  rw [State.delayDone_first h hd hu]
  refine ⟨?_, ?_, (OnlyWhere.refl.setPtp _).wr (ptpWords_of (by decide) (by decide) hi), ?_⟩
  · rw [State.ptp_of_time (State.wr_time ..), State.ptp_setPtp]
  · exact (State.rd_wr _ (F.PTP_MPD_DELAY i) _ (Nat.le_refl 32)).trans (Nat.mod_eq_of_lt (satUnsigned_lt ..))
  · rw [State.wr_crown, State.crown_setPtp]

theorem State.e2eDone_complete {p : Ptp} {a : Int × Nat} {r : Int × Int} {b : Int × Int × Int × Nat} (hg : p.gone = some a) (hr : p.resp = some r)
    (hl : p.last = some b) (hn : b.2.2.2 = a.2) : (s.setPtp i p).e2eDone i =
    ((s.setPtp i p).setPtp i { p with req := none, gone := none, resp := none }).delayDone i
      (roundAway ((b.2.1 - b.1 - b.2.2.1) + (r.1 - a.1 - r.2)) 2) := by
  obtain ⟨b1, b2, b3, b4⟩ := b
  simp only [State.e2eDone, State.ptp_setPtp, hg, hr, hl]
  exact if_pos hn

theorem State.e2eDone_stepped {p : Ptp} {a : Int × Nat} {r : Int × Int} {b : Int × Int × Int × Nat} (hg : p.gone = some a) (hr : p.resp = some r)
    (hl : p.last = some b) (hn : b.2.2.2 ≠ a.2) : (s.setPtp i p).e2eDone i = (s.setPtp i p).abandon i := by
  obtain ⟨b1, b2, b3, b4⟩ := b
  simp only [State.e2eDone, State.ptp_setPtp, hg, hr, hl]
  exact if_neg hn

theorem State.abandon_spec (s : State) (i : Nat) : (s.abandon i).ptp i = { s.ptp i with req := none, gone := none, resp := none, presp := none } ∧
    (s.abandon i).time = (s.setPtp i { s.ptp i with req := none, gone := none, resp := none, presp := none }).time ∧
    (s.abandon i).rd (F.PTP_CNT2_ABANDONED i) = satCount (F.PTP_CNT2_ABANDONED i).width (s.rd (F.PTP_CNT2_ABANDONED i) + 1) ∧
    OnlyFields [F.PTP_CNT2_ABANDONED i] s (s.abandon i) ∧ (s.abandon i).crown = s.crown := by
  have ht : (s.abandon i).time = (s.setPtp i { s.ptp i with req := none, gone := none, resp := none, presp := none }).time := State.bump_time ..
  refine ⟨(State.ptp_of_time ht i).trans (State.ptp_setPtp ..), ht, State.rd_bump _ (F.PTP_CNT2_ABANDONED i) _ (Nat.le_of_ble_eq_true rfl),
    (OnlyFields.of_regs (State.regs_setPtp ..)).bump 1 (Nat.le_of_ble_eq_true rfl) (by simp), State.bump_crown ..⟩

theorem State.peerDone_complete {a : Int × Nat} {t4 turn cp : Int} {n4 : Nat} (hg : (s.ptp i).gone = some a) (hn : a.2 = n4) :
    s.peerDone i t4 n4 turn cp =
    (s.setPtp i { s.ptp i with req := none, gone := none, presp := none }).delayDone i (roundAway ((t4 - a.1) - turn - cp) 2) := by
  simp only [State.peerDone, hg]
  exact if_pos hn

/-! ## Messages taken -/

variable {m : List Byte} {q1 : Nat} {q2 q3 : Int}

theorem State.ptpFollow_taken (hm : (s.ptp i).master = some (ptpSrc m)) (hq : (s.ptp i).sync = some (q1, q2, q3)) (h1 : q1 = ptpSeq m) :
    s.ptpFollow m i = s.syncDone i (ptpTime m 34) q2 (q3 + ptpCorr m) := by
  simp [State.ptpFollow, hq, h1, hm]

theorem State.ptpDelayResp_taken {port : Nat} (hm : (s.ptp i).master = some (ptpSrc m)) (hr : (s.ptp i).req = some (ptpSeq m))
    (h44 : beAt m 44 10 = ownPort port) :
    s.ptpDelayResp port m i = (s.setPtp i { s.ptp i with resp := some (ptpTime m 34, ptpCorr m) }).e2eDone i := by
  simp [State.ptpDelayResp, hr, h44, hm]

theorem State.offsetOfLast_setPtp {p : Ptp} {d : Int} (hl : p.last = some (t1, t2, cs, n)) (hd : p.delay = some d) : (s.setPtp i p).offsetOfLast i =
    ((s.setPtp i p).setPtp i { p with due := false }).offset i (t2 - t1 - cs - d - s.rdI (F.PTP_OUT_ASYM_NS i) * 65536) t2 := by
  simp only [State.offsetOfLast, State.ptp_setPtp, hl, hd]
  rfl

/-- A Sync completed while the servo acquires from a first estimate shows its offset and counts. -/
theorem State.syncDone_offset {d : Int} (hi : i < 2) (hs : s.servo i = 1) (ha : (s.ptp i).acquired = true) (ho : (s.ptp i).outlier = false)
    (hd : (s.ptp i).delay = some d) :
    (s.syncDone i t1 t2 cs).rdI (F.PTP_OFFS_OFFSET i) =
      satSigned 32 (roundAway (t2 - t1 - cs - d - s.rdI (F.PTP_OUT_ASYM_NS i) * 65536) 65536) ∧
    (s.syncDone i t1 t2 cs).rd (F.PTP_CNT_SYNC_RX i) = satCount (F.PTP_CNT_SYNC_RX i).width (s.rd (F.PTP_CNT_SYNC_RX i) + 1) ∧
    OnlyWhere PtpWords s (s.syncDone i t1 t2 cs) ∧ (s.syncDone i t1 t2 cs).crown = s.crown := by
  rw [State.syncDone_acquired hs ha]
  generalize hp : ({ s.ptp i with sync := none, last := some (t1, t2, cs, s.stepsOf i) } : Ptp) = p
  have hl : p.last = some (t1, t2, cs, s.stepsOf i) := by rw [← hp]
  have hpd : p.delay = some d := by rw [← hp]; exact hd
  have hpo : p.outlier = false := by rw [← hp]; exact ho
  rw [State.offsetOfLast_setPtp hl hpd]
  obtain ⟨h1, h2, h3, h4⟩ := State.offset_shown (s := (s.setPtp i p).setPtp i { p with due := false }) (t2 := t2)
    (theta := t2 - t1 - cs - d - s.rdI (F.PTP_OUT_ASYM_NS i) * 65536) hi hs (by rw [State.ptp_setPtp]; exact hpo)
  exact ⟨h1, h2, ((OnlyWhere.refl.setPtp _).setPtp _).trans h3, h4⟩

end Exchange

/-- Settles O51: a message that one of the instances takes acts on that one alone, and what it changes reaches no configuration that the other reads. -/
theorem ptpExchanges : Obligations.PtpExchanges := by
  refine ⟨fun port l2 dev m i s hi hy hn hm hlo hhi h2 => ?_, fun port l2 dev m i s hi hy hn hm hlo hhi h1 hs ha hq => ?_,
    fun port l2 m i q s hi hy hn hm hq hq1 hs => ?_, fun port l2 m i q d s hi hy hn hm hq hq1 hs ha ho hd => ?_,
    fun port l2 m i a b s hi hy hn hm hr h44 hg hl hab hd hu h0 => ?_, fun port l2 m i a b s hi hy hn hm hr h44 hg hl hab h0 => ?_,
    fun port l2 m i a b s hi hy hn hm hr h44 hg hl hab => ?_, fun port dev m i s hi hy hn => ?_, fun port l2 dev m i s hi hy hn hr h44 h2 => ?_,
    fun port l2 m i x a s hi hy hn hr h44 hx hg hax hd hu h0 => ?_⟩
  · refine .of_eachTaker rfl hi port.isLt hy hn (u := s.setPtp i { s.ptp i with sync := some (ptpSeq m, s.stampAt i dev, ptpCorr m) }) ?_
      (OnlyWhere.refl.setPtp _) rfl ⟨State.ptp_setPtp .., rfl⟩
    simp only [State.ptpSync, hm]
    rw [if_neg (by simp; omega), if_pos h2]
  · refine .of_eachTaker rfl hi port.isLt hy hn (u := s.syncDone i (ptpTime m 34) (s.stampAt i dev) (ptpCorr m)) ?_ ?_ ?_ ?_
    · simp only [State.ptpSync, hm]
      rw [if_neg (by simp; omega), if_neg (by simp [h1])]
    all_goals
      rw [State.syncDone_acquires hs ha]
      obtain ⟨hp, hc, hw, hcr⟩ := State.acquire_first (t1 := ptpTime m 34) (t2 := s.stampAt i dev) hi
        (s := s.setPtp i { s.ptp i with sync := none, last := some (ptpTime m 34, s.stampAt i dev, ptpCorr m, s.stepsOf i) })
        (by rw [State.ptp_setPtp]; exact hq)
    · exact (OnlyWhere.refl.setPtp _).trans hw
    · exact hcr
    · rw [hp, State.ptp_setPtp]
      exact ⟨rfl, rfl, hc⟩
  · obtain ⟨q1, q2, q3⟩ := q
    refine .of_eachTaker rfl hi port.isLt hy hn
      (u := s.setPtp i { s.ptp i with sync := none, last := some (ptpTime m 34, q2, q3 + ptpCorr m, s.stepsOf i) }) ?_
      (OnlyWhere.refl.setPtp _) rfl ⟨State.ptp_setPtp .., rfl⟩
    rw [State.ptpFollow_taken hm hq hq1, State.syncDone_idle hs]
  · obtain ⟨q1, q2, q3⟩ := q
    obtain ⟨h1, h2, h3, h4⟩ := State.syncDone_offset (t1 := ptpTime m 34) (t2 := q2) (cs := q3 + ptpCorr m) hi hs ha ho hd
    exact .of_eachTaker rfl hi port.isLt hy hn (State.ptpFollow_taken hm hq hq1) h3 h4 ⟨h1, h2⟩
  · have hx : s.ptpDelayResp port.val m i = _ := State.ptpDelayResp_taken hm hr h44
    rw [State.e2eDone_complete (p := { s.ptp i with resp := some (ptpTime m 34, ptpCorr m) }) hg rfl hl hab] at hx
    obtain ⟨h1, h2, h3, h4⟩ := State.delayDone_spec (s := (s.setPtp i { s.ptp i with resp := some (ptpTime m 34, ptpCorr m) }).setPtp i
      { s.ptp i with resp := none, req := none, gone := none }) hi h0 (by rw [State.ptp_setPtp]; exact hd) (by rw [State.ptp_setPtp]; exact hu)
    refine .of_eachTaker rfl hi port.isLt hy hn hx (((OnlyWhere.refl.setPtp _).setPtp _).trans h3) h4 ?_
    rw [h1, State.ptp_setPtp]
    exact ⟨rfl, h2, rfl, rfl⟩
  · have hx : s.ptpDelayResp port.val m i = _ := State.ptpDelayResp_taken hm hr h44
    rw [State.e2eDone_complete (p := { s.ptp i with resp := some (ptpTime m 34, ptpCorr m) }) hg rfl hl hab, State.delayDone_negative h0] at hx
    exact .of_eachTaker rfl hi port.isLt hy hn hx ((OnlyWhere.refl.setPtp _).setPtp _) rfl ⟨State.ptp_setPtp .., rfl⟩
  · have hx : s.ptpDelayResp port.val m i = _ := State.ptpDelayResp_taken hm hr h44
    rw [State.e2eDone_stepped (p := { s.ptp i with resp := some (ptpTime m 34, ptpCorr m) }) hg rfl hl hab] at hx
    have hw : PtpWords (F.PTP_CNT2_ABANDONED i).addr := ptpWords_of (by decide) (by decide) hi
    obtain ⟨h1, h2, h3, h4, h5⟩ := State.abandon_spec (s.setPtp i { s.ptp i with resp := some (ptpTime m 34, ptpCorr m) }) i
    refine .of_eachTaker rfl hi port.isLt hy hn hx (.of_fields ((OnlyFields.of_regs rfl).trans h4) (by simpa using hw)) h5 ?_
    rw [h1, State.ptp_setPtp]
    exact ⟨rfl, rfl, h3, (OnlyFields.of_regs rfl).trans h4⟩
  · exact .of_eachTaker rfl hi port.isLt hy hn (u := (s.setPtp i { s.ptp i with answer := some (ptpSeq m, ptpSrc m, s.stampAt i dev, ptpCorr m) }).send
      (.ptp port.val true (ptpMessage 3 (s.rd (F.PTP_CFG_DOMAIN i)) 2 0 (ownPort port.val) (ptpSeq m) (stampBytes (s.stampAt i dev) ++ be 10 (ptpSrc m)))))
      rfl (.of_regs rfl) rfl ⟨State.ptp_setPtp .., rfl, rfl⟩
  · refine .of_eachTaker rfl hi port.isLt hy hn
      (u := s.setPtp i { s.ptp i with presp := some (s.stampAt i dev, s.stepsOf i, ptpTime m 34, ptpCorr m) }) ?_
      (OnlyWhere.refl.setPtp _) rfl ⟨State.ptp_setPtp .., rfl⟩
    simp [State.ptpPdelayResp, hr, h44, h2]
  · obtain ⟨x1, x2, x3, x4⟩ := x
    have hx' : s.ptpPdelayFollow port.val m i = s.peerDone i x1 x2 (ptpTime m 34 - x3) (x4 + ptpCorr m) := by
      simp [State.ptpPdelayFollow, hx, hr, h44]
    rw [State.peerDone_complete hg hax] at hx'
    obtain ⟨h1, h2, h3, h4⟩ := State.delayDone_spec (s := s.setPtp i { s.ptp i with req := none, gone := none, presp := none }) hi h0
      (by rw [State.ptp_setPtp]; exact hd) (by rw [State.ptp_setPtp]; exact hu)
    refine .of_eachTaker rfl hi port.isLt hy hn hx' ((OnlyWhere.refl.setPtp _).trans h3) h4 ?_
    rw [h1, State.ptp_setPtp]
    exact ⟨rfl, rfl, h2⟩

end Sys2Proof.Machine
end

section
/-!
O52: masters, requests, timeouts and transmit timestamps of PTP.
-/
set_option Elab.async false
namespace Sys2Proof.Machine
open Sys2Proof

/-! ## Announces -/

section Announce
variable {s : State} {i : Nat} {m : List Byte}

theorem beAt_lt (l : List Byte) (off n : Nat) : beAt l off n < 256 ^ n := by
  have h : ∀ (bs : List Byte) (a : Nat), bs.foldl (fun a b => a * 256 + b.toNat) a < (a + 1) * 256 ^ bs.length := by
    intro bs
    induction bs with
    | nil => intro a; simp
    | cons b bs ih =>
      intro a
      have hb := b.isLt
      calc (b :: bs).foldl (fun a b => a * 256 + b.toNat) a < (a * 256 + b.toNat + 1) * 256 ^ bs.length := ih _
        _ ≤ ((a + 1) * 256) * 256 ^ bs.length := Nat.mul_le_mul_right _ (by omega)
        _ = (a + 1) * 256 ^ (bs.length + 1) := by rw [pow_succ]; ring
  have := h ((List.range n).map fun i => (l[off + i]?).getD 0) 0
  simpa [beAt, ofBe] using this

/-- An Announce that counts is kept as the newest of its clock, and the best qualified master selected. -/
theorem State.announced_taken (h255 : beAt m 61 2 < 255) (hown : ptpSrc m ≠ ownPort (s.rd (F.PTP_CFG_PORT i))) (ha : s.acceptable i (ptpSrc m) = true) :
    s.announced i m =
      match bestForeign (((s.ptp i).foreign.filter (·.src != ptpSrc m) ++
        [foreignOf m s.mono (((s.ptp i).foreign.find? (·.src == ptpSrc m)).map (·.last))]).filter fun f => s.acceptable i f.src) with
      | some f => (s.setPtp i { s.ptp i with foreign := (s.ptp i).foreign.filter (·.src != ptpSrc m) ++
          [foreignOf m s.mono (((s.ptp i).foreign.find? (·.src == ptpSrc m)).map (·.last))] }).selectMaster i f
      | none => s.setPtp i { s.ptp i with foreign := (s.ptp i).foreign.filter (·.src != ptpSrc m) ++
          [foreignOf m s.mono (((s.ptp i).foreign.find? (·.src == ptpSrc m)).map (·.last))] } := by
  unfold State.announced
  extract_lets p src old l s1
  rw [if_neg (by simp [src, hown, ha]; omega)]
  rfl

theorem bestForeign_one (f : Foreign) : bestForeign [f] = if f.qualified then some f else none := by
  simp only [bestForeign]
  cases h : f.qualified <;> simp [h]

/-- The registers that show a master. -/
def State.masterShown (s : State) (i : Nat) (f : Foreign) : State :=
  (((s.wr (F.PTP_GM_LO_GM_LO i) (f.set.getLast?.getD 0)).wr (F.PTP_GM_HI_GM_HI i) (f.set.getLast?.getD 0 / 2 ^ 32)).wr (F.PTP_STATE_UTC_OFFSET i) f.utc).wr
    (F.PTP_STATE_TFLAGS i) ((if f.flags.testBit 3 then 2 ^ 0 else 0) + (if f.flags.testBit 2 then 2 ^ 1 else 0) +
      (if f.flags.testBit 0 then 2 ^ 2 else 0) + (if f.flags.testBit 1 then 2 ^ 3 else 0))

theorem State.masterShown_spec (s : State) (f : Foreign) (hi : i < 2) : (s.masterShown i f).servo i = s.servo i ∧
    (s.masterShown i f).rd (F.PTP_GM_LO_GM_LO i) = f.set.getLast?.getD 0 % 2 ^ 32 ∧
    (s.masterShown i f).rd (F.PTP_STATE_UTC_OFFSET i) = f.utc % 2 ^ 16 ∧
    OnlyWhere PtpWords s (s.masterShown i f) ∧ Within [.regs] s (s.masterShown i f) := by
  have hw : ∀ off, 0x49080 ≤ off → off < 0x490C0 → PtpWords (off + 0x80 * i) := fun _ h h' => ptpWords_of h h' hi
  refine ⟨?_, ?_, ?_, ?_, ?_⟩ <;> unfold State.masterShown
  · unfold State.servo
    simp (disch := (simp only [Fld.apart_mk, Fld.fits_mk, Fld.width_mk]; omega)) only [State.rd_wr_apart]
  · simp (disch := (simp only [Fld.apart_mk, Fld.fits_mk, Fld.width_mk]; omega)) only [State.rd_wr_apart, State.rd_wr]
  · simp (disch := (simp only [Fld.apart_mk, Fld.fits_mk, Fld.width_mk]; omega)) only [State.rd_wr_apart, State.rd_wr]
  · exact (((OnlyWhere.refl.wr (hw _ (by decide) (by decide))).wr (hw _ (by decide) (by decide))).wr (hw _ (by decide) (by decide))).wr
      (hw _ (by decide) (by decide))
  · exact State.wr_within (by decide) (State.wr_within (by decide) (State.wr_within (by decide) (State.wr_within (by decide) .rfl)))

/-- A master selected while the servo is idle: the servo acquires. -/
theorem State.selectMaster_idle (s : State) (f : Foreign) (hi : i < 2) (hs : s.servo i = 0) :
    ((s.selectMaster i f).ptp i).master = some f.src ∧ (s.selectMaster i f).servo i = 1 ∧
    (s.selectMaster i f).rd (F.PTP_STATE_PORT_STATE i) = 8 ∧
    (s.selectMaster i f).rd (F.PTP_GM_LO_GM_LO i) = f.set.getLast?.getD 0 % 2 ^ 32 ∧
    (s.selectMaster i f).rd (F.PTP_STATE_UTC_OFFSET i) = f.utc % 2 ^ 16 ∧
    OnlyWhere PtpWords s (s.selectMaster i f) ∧ (s.selectMaster i f).crown = s.crown := by
  obtain ⟨hv, hg, hu, hw, hin⟩ := State.masterShown_spec s f hi
  set u := s.masterShown i f with hudef
  obtain ⟨v, hvm, hvr, hvc, he⟩ : ∃ v : State, (v.ptp i).master = some f.src ∧ v.regs = u.regs ∧ v.crown = u.crown ∧
      s.selectMaster i f = (((v.wr (F.PTP_STATE_SERVO i) 1).wr (F.PTP_STATE_PORT_STATE i) 8).setPtp i
        { v.ptp i with acq := none, acquired := false, run := 0 }) := by
    unfold State.selectMaster
    extract_lets gm bit s1 s2 p s3
    have h2 : s2 = u := by simp only [hudef, State.masterShown, s2, s1, gm, bit]
    have h3 : (s3.ptp i).master = some f.src ∧ s3.regs = u.regs ∧ s3.crown = u.crown := by
      rw [← h2]
      by_cases hm : (p.master == some f.src) = true
      · rw [show s3 = s2 from if_pos hm]
        exact ⟨eq_of_beq hm, rfl, rfl⟩
      · rw [show s3 = s2.setPtp i { p with master := some f.src, sync := none } from if_neg hm, State.ptp_setPtp]
        exact ⟨rfl, State.regs_setPtp .., State.crown_setPtp ..⟩
    obtain ⟨hm, hr, hc⟩ := h3
    have h0 : s3.servo i = 0 := (State.servo_of_regs hr i).trans (hv.trans hs)
    refine ⟨s3, hm, hr, hc, ?_⟩
    rw [h0]
    rfl
  have hst : ∀ off, 0x49080 ≤ off → off < 0x490C0 → PtpWords (off + 0x80 * i) := fun _ h h' => ptpWords_of h h' hi
  rw [he]
  refine ⟨?_, ?_, ?_, ?_, ?_, ?_, ?_⟩
  · rw [State.ptp_setPtp]
    exact hvm
  · rw [State.servo_of_regs (State.regs_setPtp ..), State.servo]
    simp (disch := (simp only [Fld.apart_mk, Fld.fits_mk, Fld.width_mk]; omega)) only [State.rd_wr_apart, State.rd_wr]
    rfl
  · rw [State.rd_regs (State.regs_setPtp ..)]
    simp (disch := (simp only [Fld.apart_mk, Fld.fits_mk, Fld.width_mk]; omega)) only [State.rd_wr]
    rfl
  · rw [State.rd_regs (State.regs_setPtp ..)]
    simp (disch := (simp only [Fld.apart_mk, Fld.fits_mk, Fld.width_mk]; omega)) only [State.rd_wr_apart]
    rw [State.rd_regs hvr, hg]
  · rw [State.rd_regs (State.regs_setPtp ..)]
    simp (disch := (simp only [Fld.apart_mk, Fld.fits_mk, Fld.width_mk]; omega)) only [State.rd_wr_apart]
    rw [State.rd_regs hvr, hu]
  · exact (((hw.upd hvr).wr (hst _ (by decide) (by decide))).wr (hst _ (by decide) (by decide))).setPtp _
  · rw [State.crown_setPtp, State.wr_crown, State.wr_crown, hvc]
    exact hin.crown (by decide)

end Announce

/-! ## The loss of a master -/

section Loss
variable {s : State} {i : Nat}

theorem State.setRate_time (s : State) (i : Nat) (r : Int) : (s.setRate i r).time = s.time := by
  unfold State.setRate State.wrI
  rw [State.wr_time, State.wr_time]

/-- The addresses other than those of the instances' servos and of the events. -/
def HoldWords (i a : Nat) : Prop := a ≠ 0x49010 ∧ a ≠ (F.PTP_STATE_SERVO i).addr

/-- A synchronised servo goes to holdover with its event; the masters stay. -/
theorem State.holdover_spec (s : State) (hi : i < 2) (hs : s.servo i = 2) : (s.holdover i).servo i = 3 ∧
    (s.holdover i).ptp i = { s.ptp i with run := 0, outlier := false, acquired := true, acq := none } ∧
    (s.holdover i).bit (evtStatus 0x49) (4 * i + 2) = true := by
  unfold State.holdover
  extract_lets p s1 s2 s3 s4
  rw [if_pos (by simp [hs])]
  have h2 : s2.servo i = 3 ∧ s2.bit (evtStatus 0x49) (4 * i + 2) = true := by
    refine ⟨?_, State.bit_raise _ (by omega)⟩
    simp (disch := (simp only [Fld.apart_mk, Fld.fits_mk, Fld.width_mk, evtStatus_mk]; omega)) only [s2, State.servo, State.rd_raise, State.rd_wr]
    rfl
  have h3 : OnlyWhere (HoldWords i) s2 s3 := .ite (OnlyWhere.refl.bump ⟨by decide, by simp only; omega⟩) .refl
  have h4 : OnlyWhere (HoldWords i) s2 s4 := h3.setPtp _
  have h4p : s4.ptp i = { s.ptp i with run := 0, outlier := false, acquired := true, acq := none } := by
    rw [State.ptp_setPtp]
  have h5 : OnlyWhere (HoldWords i) s2 (if p.acquired then s4.setRate i (-p.integ) else s4) := by
    refine .ite ((h4.wrI ⟨?_, ?_⟩).wrI ⟨?_, ?_⟩) h4 <;> simp only <;> omega
  refine ⟨(h5.rd (f := F.PTP_STATE_SERVO i) fun h => h.2 rfl).trans h2.1, ?_, (State.bit_rd (h5.rd (f := evtStatus 0x49) fun h => h.1 rfl) _).trans h2.2⟩
  split
  · exact (State.ptp_of_time (State.setRate_time ..) i).trans h4p
  · exact h4p

end Loss

/-! ## Transmit timestamps -/

section Queue
variable {s t : State} {p : Nat} {l : List TxStamp}

theorem State.txq_of_time (h : t.time = s.time) (p : Nat) : t.txq p = s.txq p := by rw [State.txq, State.txq, h]

/-- A queue replaced is shown in FILL, and nothing of the instances changes. -/
theorem State.setTxq_spec (s : State) (hl : l.length < 32) : (s.setTxq p l).txq p = l ∧
    (s.setTxq p l).rd (F.PTP_TXQ_0_FILL p) = l.length ∧ OnlyWhere (fun a => a = (F.PTP_TXQ_0_FILL p).addr) s (s.setTxq p l) ∧
    (s.setTxq p l).time.ptp = s.time.ptp ∧ (s.setTxq p l).time.steps = s.time.steps := by
  unfold State.setTxq
  extract_lets src s1 s2
  have h1 : s1.txq p = l := (mget_mset ..).trans (if_pos rfl)
  have ht : s2.time = s1.time := State.wr_time ..
  have hfill : s2.rd (F.PTP_TXQ_0_FILL p) = l.length :=
    (State.rd_wr _ (F.PTP_TXQ_0_FILL p) _ (Nat.le_of_ble_eq_true rfl)).trans (Nat.mod_eq_of_lt hl)
  have hw : OnlyWhere (fun a => a = (F.PTP_TXQ_0_FILL p).addr) s s2 := OnlyWhere.wr (.of_regs (State.mk_regs ..)) rfl
  split
  · have ht3 : ∀ n, (s2.wr (F.PTP_TXQ_0_PEAK p) n).time = s1.time := fun n => (State.wr_time ..).trans ht
    refine ⟨(State.txq_of_time (ht3 _) p).trans h1, ?_, hw.wr rfl, by rw [ht3], by rw [ht3]⟩
    exact (State.rd_wr_apart _ _ (F.PTP_TXQ_0_FILL p) _ (Nat.le_of_ble_eq_true rfl) (.inr (.inr (Nat.le_of_ble_eq_true rfl)))).trans hfill
  · exact ⟨(State.txq_of_time ht p).trans h1, hfill, hw, by rw [ht], by rw [ht]⟩

theorem State.showStamp_where (s : State) (e : TxStamp) : OnlyWhere (fun a => (F.PTP_LAST0_ENTRY p).addr ≤ a ∧ a ≤ (F.PTP_LAST3_ENTRY p).addr) s (s.showStamp p e) := by
  unfold State.showStamp
  refine (((OnlyWhere.refl.wr ?_).wr ?_).wr ?_).wr ?_ <;> simp only <;> omega

theorem State.showStamp_time (s : State) (e : TxStamp) : (s.showStamp p e).time = s.time := by
  unfold State.showStamp
  simp only [State.wr_time]

/-- Without a request outstanding no entry of a Delay_Req is awaited. -/
theorem State.awaits_none {e : TxStamp} (hk : e.kind = 1) (hr : (s.ptp e.inst).req = none) : s.awaits e = false := by
  simp [State.awaits, hk, hr]

section Kept

/-- The entry of a Delay_Req that went out at a port. -/
def State.reqStamp (s : State) (port i id : Nat) (dev : Int) : TxStamp :=
  { kind := 1, inst := i, id := id, time := TimeBase.ofTotal ((s.timeBase i).total + s.stampDev port dev * 2 ^ 48) }

variable {port i : Nat} {e : TxStamp}

theorem State.pushStamp_awaited (hl : (s.txq port).length < 16)
    (ha : ((s.setTxq port (s.txq port ++ [e])).showStamp port e).awaits e = true) : s.pushStamp port e =
    (((s.setTxq port (s.txq port ++ [e])).showStamp port e).setTxq port (s.txq port)).takeStamp port e := by
  rw [State.pushStamp]
  exact (if_neg (Nat.not_le.2 hl)).trans (if_pos ha)

theorem State.pushStamp_kept (hl : (s.txq port).length < 16)
    (ha : ((s.setTxq port (s.txq port ++ [e])).showStamp port e).awaits e = false) : s.pushStamp port e =
    (s.setTxq port (s.txq port ++ [e])).showStamp port e := by
  rw [State.pushStamp]
  exact (if_neg (Nat.not_le.2 hl)).trans (if_neg (by simp [ha]))

theorem State.pushStamp_dropped (hl : 16 ≤ (s.txq port).length)
    (ha : ((s.bump (F.PTP_TXQ_0_DROPS port)).raise 0x49 8).awaits e = false) : s.pushStamp port e =
    (s.bump (F.PTP_TXQ_0_DROPS port)).raise 0x49 8 := by
  rw [State.pushStamp]
  exact (if_pos hl).trans (if_neg (by simp [ha]))

/-- An entry pushed onto a queue with room: the queue, FILL, and what it leaves of the instances. -/
theorem State.pushed_spec (hl : (s.txq port).length < 16) :
    let u := (s.setTxq port (s.txq port ++ [e])).showStamp port e
    u.txq port = s.txq port ++ [e] ∧ u.rd (F.PTP_TXQ_0_FILL port) = (s.txq port).length + 1 ∧ u.time.ptp = s.time.ptp ∧
    u.time.steps = s.time.steps ∧ OnlyWhere (fun a => 0x49140 ≤ a) s u := by
  have hlen : (s.txq port ++ [e]).length = (s.txq port).length + 1 := by simp
  obtain ⟨h1, h2, h3, h4, h5⟩ := State.setTxq_spec (p := port) (l := s.txq port ++ [e]) s (by omega)
  have hs := State.showStamp_where (p := port) (s.setTxq port (s.txq port ++ [e])) e
  have ht := State.showStamp_time (p := port) (s.setTxq port (s.txq port ++ [e])) e
  refine ⟨(State.txq_of_time ht _).trans h1, ?_, by rw [ht, h4], by rw [ht, h5], (h3.mono ?_).andThen hs ?_⟩
  · rw [hs.rd (f := F.PTP_TXQ_0_FILL port) (by simp only; omega), h2, hlen]
  · rintro a rfl
    simp only
    omega
  · rintro a ⟨h, -⟩
    simp only at h
    omega

end Kept

end Queue

/-- Settles O52: an Announce, a timeout and an entry of a transmit queue each act on the one of the instances or queues they are of. -/
theorem ptpCourse : Obligations.PtpCourse := by
  refine ⟨fun port l2 m i s hi hy hn h255 hown ha hf => ?_, fun port l2 m i f s hi hy hn h255 hown ha hf hsrc hq hs => ?_,
    fun i s he hp hup hm => ?_, fun i s he hp hup => ?_, fun i s he => ?_, fun i s he hs => ?_, fun port i id dev s hup hl hr hg hrs hp => ?_,
    fun port i id dev s hup hl hr => ?_, fun port i id dev s hup hl hr => ?_, fun port x l s hq hl => ?_⟩
  · refine .of_eachTaker rfl hi port.isLt hy hn (u := s.setPtp i { s.ptp i with foreign := [foreignOf m s.mono none] }) ?_
      (OnlyWhere.refl.setPtp _) rfl ⟨State.ptp_setPtp .., rfl⟩
    have hsrc : (foreignOf m s.mono none).src = ptpSrc m := rfl
    have hno : (foreignOf m s.mono none).qualified = false := rfl
    rw [State.announced_taken h255 hown ha, hf]
    simp [hsrc, ha, bestForeign_one, hno]
  · have hx : s.announced i m = (s.setPtp i { s.ptp i with foreign := [foreignOf m s.mono (some f.last)] }).selectMaster i
        (foreignOf m s.mono (some f.last)) := by
      have hg : (foreignOf m s.mono (some f.last)).src = ptpSrc m := rfl
      rw [State.announced_taken h255 hown ha, hf]
      simp [hsrc, hg, ha, bestForeign_one, hq]
    have hutc : beAt m 44 2 % 2 ^ 16 = beAt m 44 2 := Nat.mod_eq_of_lt (Nat.lt_of_lt_of_eq (beAt_lt m 44 2) (by decide))
    obtain ⟨h1, h2, h3, h4, h5, h6, h7⟩ := State.selectMaster_idle (s.setPtp i { s.ptp i with foreign := [foreignOf m s.mono (some f.last)] })
      (foreignOf m s.mono (some f.last)) hi hs
    have hgm : (foreignOf m s.mono (some f.last)).set.getLast?.getD 0 = beAt m 53 8 := by simp [foreignOf]
    have hu : (foreignOf m s.mono (some f.last)).utc = beAt m 44 2 := rfl
    rw [hgm] at h4
    rw [hu, hutc] at h5
    have hw : OnlyWhere PtpWords s (s.setPtp i { s.ptp i with foreign := [foreignOf m s.mono (some f.last)] }) := .of_regs (State.regs_setPtp ..)
    exact .of_eachTaker rfl hi port.isLt hy hn hx (hw.trans h6) (h7.trans (State.crown_setPtp ..))
      ⟨h1, h2, h3, h4, h5⟩
  · have hm' : ((s.ptp i.val).master).isNone = false := by
      cases h : (s.ptp i.val).master with
      | none => exact absurd h hm
      | some => rfl
    refine .of_eq rfl (if_neg (by simp [he, hp, hup, hm'])) ?_
    refine ⟨State.ptp_setPtp .., ?_, rfl⟩
    simp [State.send, State.setPtp]
  · refine .of_eq rfl (if_neg (by simp [he, hp, hup])) ?_
    rw [hp]
    exact ⟨State.ptp_setPtp .., rfl, rfl⟩
  · refine ⟨_, (if_neg (by simp [he])).trans (if_neg (by decide)), ?_, ?_, State.rd_wr _ (F.PTP_STATE_PORT_STATE i.val) 4 (Nat.le_of_ble_eq_true rfl), fun h2 => ?_⟩
    · rw [State.ptp_of_time (State.wr_time ..), State.ptp_setPtp]
    · rw [State.ptp_of_time (State.wr_time ..), State.ptp_setPtp]
    · obtain ⟨h3, -, -⟩ := State.holdover_spec s i.isLt h2
      exact (State.rd_wr_apart _ (F.PTP_STATE_PORT_STATE i.val) (F.PTP_STATE_SERVO i.val) _ (Nat.le_of_ble_eq_true rfl)
        (.inr (.inl (Nat.le_of_ble_eq_true rfl)))).trans h3
  · obtain ⟨h3, hp, hb⟩ := State.holdover_spec s i.isLt hs
    refine ⟨_, (if_neg (by simp [he])).trans (if_pos rfl), h3, ?_, hb⟩
    rw [hp]
  · set e := s.reqStamp port.val i.val id.toNat dev with hedef
    obtain ⟨hu1, hu2, hu3, hu4, hu5⟩ := State.pushed_spec (s := s) (port := port.val) (e := e) hl
    set u := (s.setTxq port.val (s.txq port.val ++ [e])).showStamp port.val e with hudef
    obtain ⟨hv1, hv2, hv3, hv4, hv5⟩ := State.setTxq_spec (p := port.val) (l := s.txq port.val) u (by omega)
    have hup' : u.ptp i.val = s.ptp i.val := by rw [State.ptp, State.ptp, hu3]
    have hvp : (u.setTxq port.val (s.txq port.val)).ptp i.val = s.ptp i.val := by rw [State.ptp, hv4, ← State.ptp, hup']
    have hprof : u.on (F.PTP_CFG_PROFILE i.val) = false := by
      rw [State.on, hu5.rd (f := F.PTP_CFG_PROFILE i.val) (by simp only; omega)]
      exact hp
    have haw : u.awaits e = true := by simp [State.awaits, hedef, State.reqStamp, hup', hr, hg, hprof]
    have htake : (u.setTxq port.val (s.txq port.val)).takeStamp port.val e = (u.setTxq port.val (s.txq port.val)).setPtp i.val
        { s.ptp i.val with gone := some (e.time.stamp, s.stepsOf i.val) } := by
      have hsteps : (u.setTxq port.val (s.txq port.val)).stepsOf i.val = s.stepsOf i.val := by
        rw [State.stepsOf, hv5, hu4, ← State.stepsOf]
      simp only [State.takeStamp, hedef, State.reqStamp, hvp, hsteps, State.e2eDone, State.ptp_setPtp, hrs]
    refine .of_eq (u := s.pushStamp port.val e) ?_ ((State.pushStamp_awaited hl haw).trans htake) ⟨?_, ?_, ?_⟩
    · exact if_neg (by simp [hup, stampKind])
    · rw [State.ptp_setPtp]
      rfl
    · exact hv1
    · exact hv2
  · set e := s.reqStamp port.val i.val id.toNat dev with hedef
    obtain ⟨hu1, hu2, hu3, -, -⟩ := State.pushed_spec (s := s) (port := port.val) (e := e) hl
    have hup' : ((s.setTxq port.val (s.txq port.val ++ [e])).showStamp port.val e).ptp i.val = s.ptp i.val := by rw [State.ptp, State.ptp, hu3]
    refine .of_eq (u := s.pushStamp port.val e) ?_ (State.pushStamp_kept hl (State.awaits_none rfl ((congrArg Ptp.req hup').trans hr))) ⟨?_, hu2, hup'⟩
    · exact if_neg (by simp [hup, stampKind])
    · rw [hu1]
      simp
  · set e := s.reqStamp port.val i.val id.toNat dev with hedef
    have ht : ((s.bump (F.PTP_TXQ_0_DROPS port.val)).raise 0x49 8).time = s.time := by rw [State.raise_time, State.bump_time]
    refine .of_eq (u := s.pushStamp port.val e) ?_ (State.pushStamp_dropped hl (State.awaits_none rfl (by rw [State.ptp_of_time ht]; exact hr)))
      ⟨ht, ?_, State.bit_raise _ (by decide)⟩
    · exact if_neg (by simp [hup, stampKind])
    · rw [State.rd_raise _ _ _ _ (.inl (by simp only [evtStatus_mk]; omega))]
      exact State.rd_bump _ (F.PTP_TXQ_0_DROPS port.val) _ (Nat.le_of_ble_eq_true rfl)
  · obtain ⟨h1, h2, h3, -, -⟩ := State.setTxq_spec (p := port.val) (l := l) s (by omega)
    have hx : exec (.timestampEntryStale port) s = .next ((s.setTxq port.val l).bump (F.PTP_TXQ_4_STALE port.val)) := by
      change execTimestampEntryStale port s = _
      rw [execTimestampEntryStale, hq]
    refine ⟨_, hx, (State.txq_of_time (State.bump_time ..) _).trans h1, ?_, ?_⟩
    · exact (State.rd_bump_apart _ (F.PTP_TXQ_4_STALE port.val) (F.PTP_TXQ_0_FILL port.val) _ (Nat.le_of_ble_eq_true rfl) (.inl (by simp only; omega))).trans h2
    · rw [State.rd_bump _ (F.PTP_TXQ_4_STALE port.val) _ (Nat.le_of_ble_eq_true rfl), h3.rd (f := F.PTP_TXQ_4_STALE port.val) (by simp only; omega)]

end Sys2Proof.Machine
end

section
/-!
O55: the transfer of an update.
-/
set_option Elab.async false
namespace Sys2Proof.Machine
open Sys2Proof

/-! ## What a command of UPDATE reads, and its result -/

section Reads
variable (s : State) (who : Initiator) (a : Nat)

@[simp] theorem State.notOwner_result (w : Initiator) : (s.result who a 0).notOwner w = s.notOwner w := by
  simp only [State.notOwner, State.transferring, State.rd_result]

@[simp] theorem State.transferring_result : (s.result who a 0).transferring = s.transferring := by simp only [State.transferring, State.rd_result]

@[simp] theorem State.transferMode_result : (s.result who a 0).transferMode = s.transferMode := by
  simp only [State.transferMode, State.mode_result, State.on_result]

@[simp] theorem State.norPaused_result : (s.result who a 0).norPaused = s.norPaused := by
  simp only [State.norPaused, State.almPaused, State.mode_result, State.on_result]

@[simp] theorem State.otherSlot_result : (s.result who a 0).otherSlot = s.otherSlot := by simp only [State.otherSlot, State.result_nvm]

@[simp] theorem State.image_result (k : Nat) : (s.result who a 0).image k = s.image k := by simp only [State.image, State.result_nvm]

@[simp] theorem State.updWindow_result (n : Nat) : (s.result who a 0).updWindow n = s.updWindow n := by
  simp only [State.updWindow, State.word, State.result_regs]

/-- The checks of a header read the registers and the formats stored. -/
theorem State.headerCheck_congr {s t : State} (hr : t.regs = s.regs) (hn : t.nvm.stored = s.nvm.stored) (h : List Byte) :
    t.headerCheck h = s.headerCheck h := by
  have h1 : t.rd = s.rd := funext fun f => State.rd_regs hr f
  have h2 : t.storedFormat = s.storedFormat := funext fun k => by rw [State.storedFormat, State.storedFormat, hn]
  have h3 : t.bit = s.bit := funext fun f => funext fun k => State.bit_rd (State.rd_regs hr f) k
  unfold State.headerCheck
  rw [h1, h2, h3]

theorem State.slotCheck_congr {s t : State} (hr : t.regs = s.regs) (hn : t.nvm.stored = s.nvm.stored) (x : ImageSlot) :
    t.slotCheck x = s.slotCheck x := by
  simp only [State.slotCheck, State.headerCheck_congr hr hn]

@[simp] theorem State.headerCheck_result (h : List Byte) : (s.result who a 0).headerCheck h = s.headerCheck h :=
  State.headerCheck_congr (State.result_regs ..) (by rw [State.result_nvm]) h

@[simp] theorem State.slotCheck_result (x : ImageSlot) : (s.result who a 0).slotCheck x = s.slotCheck x := by
  simp only [State.slotCheck, State.headerCheck_result]

theorem State.otherSlot_lt : s.otherSlot < 2 := by
  simp only [State.otherSlot]
  omega

/-- A result shows its code and, where it refuses, its event. -/
theorem State.updResult_spec (c : Nat) : (s.updResult c).rd F.UPDATE_STATUS_RESULT = c % 16 ∧
    OnlyFields [F.UPDATE_STATUS_RESULT, evtStatus 0x62] s (s.updResult c) ∧ (s.updResult c).nvm = s.nvm := by
  have hw : OnlyFields [F.UPDATE_STATUS_RESULT, evtStatus 0x62] s (s.wr F.UPDATE_STATUS_RESULT c) := OnlyFields.refl.wr c (by decide) (by simp)
  have hr : (s.wr F.UPDATE_STATUS_RESULT c).rd F.UPDATE_STATUS_RESULT = c % 16 := State.rd_wr _ _ _ (by decide)
  unfold State.updResult
  dsimp only
  split
  · exact ⟨hr, hw, State.wr_nvm ..⟩
  · refine ⟨?_, hw.raise 2 (by simp), ?_⟩
    · rw [State.rd_raise _ _ _ _ (by decide)]
      exact hr
    · rw [State.raise_nvm, State.wr_nvm]

theorem State.updResult_event {c : Nat} (hc : c ≠ 0) : (s.updResult c).bit (evtStatus 0x62) 2 = true := by
  unfold State.updResult
  rw [if_neg hc]
  exact State.bit_raise _ (by decide)

/-- A field that no result shows reads as before one. -/
theorem State.rd_updResult (c : Nat) {f : Fld} (hr : F.UPDATE_STATUS_RESULT.apart f) (he : (evtStatus 0x62).apart f) :
    (s.updResult c).rd f = s.rd f :=
  (s.updResult_spec c).2.1.rd (by simpa using ⟨hr, he⟩)

/-- The end of a transfer. -/
theorem State.endTransfer_spec : s.endTransfer.rd F.UPDATE_STATUS_STATE = 0 ∧ s.endTransfer.rd F.UPDATE_STATUS_OWNER = 0 ∧
    s.endTransfer.rd (F.UPDATE_SLOT_STATE s.otherSlot) = 1 ∧ s.endTransfer.rd F.UPDATE_BLOCKS_RECEIVED = 0 ∧
    s.endTransfer.nvm = { s.nvm with chunks := [], blocks := [], part := [], partBlock := 0 } := by
  have hk : s.otherSlot = 0 ∨ s.otherSlot = 1 := by
    have := s.otherSlot_lt
    omega
  unfold State.endTransfer
  extract_lets u
  have hr : ∀ f : Fld, F.UPDATE_BLOCKS_EXPECTED.apart f →
      ({ u.wr F.UPDATE_BLOCKS_EXPECTED 0 with nvm := { u.nvm with chunks := [], blocks := [], part := [], partBlock := 0 } } : State).rd f = u.rd f :=
    fun f hf => (State.rd_regs (State.mk_regs ..) f).trans (State.rd_wr_apart u _ _ 0 (by decide) hf)
  have hn : u.nvm = s.nvm := by simp only [u, State.wr_nvm]
  refine ⟨(hr _ (by decide)).trans ?_, (hr _ (by decide)).trans ?_, (hr _ ?_).trans ?_, (hr _ (by decide)).trans ?_, ?_⟩
  · rcases hk with hk | hk <;> simp (disch := decide) only [u, hk, State.rd_wr_apart, State.rd_wr]
    all_goals rfl
  · rcases hk with hk | hk <;> simp (disch := decide) only [u, hk, State.rd_wr_apart, State.rd_wr]
    all_goals rfl
  · rcases hk with hk | hk <;> rw [hk] <;> decide
  · rcases hk with hk | hk <;> simp (disch := decide) only [u, hk, State.rd_wr_apart, State.rd_wr]
    all_goals rfl
  · exact State.rd_wr _ _ _ (by decide)
  · change ({ u.nvm with chunks := [], blocks := [], part := [], partBlock := 0 } : Nvm) = _
    rw [hn]

end Reads

/-! ## HEADER -/

section Header
variable {s : State} {who : Initiator}

theorem State.erase_images (s : State) (n : Nat) : (s.erase n).nvm.images = s.nvm.images := by
  unfold State.erase
  dsimp only
  split
  · rw [State.wr_nvm]
  · rfl

theorem State.image_setImage (s : State) (k : Nat) (x : ImageSlot) : (s.setImage k x).image k = x := (mget_mset ..).trans (if_pos rfl)

/-- A header that passes its checks: the other slot takes it, erased, and the transfer is the session's. -/
def State.headerTaken (s : State) (who : Initiator) (h : List Byte) : State :=
  ((((((s.endTransfer.setImage s.otherSlot { header := h }).erase (1024 * s.otherSlot)).wr F.UPDATE_STATUS_STATE 1).wr F.UPDATE_STATUS_OWNER who.id).wr
    F.UPDATE_BLOCKS_EXPECTED (hdrBlocks h)).updResult 0).raise 0x62 0

theorem State.opHeader_judged (hn : s.notOwner who = false) (ht : s.rd F.UPDATE_STATUS_TRIAL = 0) (ha : s.nvm.armed = 0) (hw : s.nvm.actWait = false)
    (hp : s.nvm.boot.pendingSlot = none) (hm : s.transferMode = true) : s.opHeader who =
    if s.headerCheck (s.updWindow 256) ≠ 0 then s.ownerActs.updResult (s.headerCheck (s.updWindow 256))
    else s.ownerActs.headerTaken who (s.updWindow 256) := by
  have hc : s.ownerActs.headerCheck (s.updWindow 256) = s.headerCheck (s.updWindow 256) := State.headerCheck_congr rfl rfl _
  rw [← hc, State.opHeader, if_neg (by rw [hn]; decide), if_neg (by simp [State.on, ht, ha, hw, hp, hm])]
  rfl

theorem State.headerTaken_spec (s : State) (who : Initiator) (h : List Byte) : (s.headerTaken who h).rd F.UPDATE_STATUS_RESULT = 0 ∧
    (s.headerTaken who h).rd F.UPDATE_STATUS_STATE = 1 ∧ (s.headerTaken who h).image s.otherSlot = { header := h } ∧
    (s.headerTaken who h).rd F.UPDATE_STATUS_OWNER = who.id := by
  have hid : who.id % 2 ^ 8 = who.id := Nat.mod_eq_of_lt (Initiator.id_lt who)
  unfold State.headerTaken
  set u := (s.endTransfer.setImage s.otherSlot { header := h }).erase (1024 * s.otherSlot) with hu
  have himg : u.image s.otherSlot = { header := h } := by
    rw [State.image, hu, State.erase_images]
    exact State.image_setImage ..
  set v := ((u.wr F.UPDATE_STATUS_STATE 1).wr F.UPDATE_STATUS_OWNER who.id).wr F.UPDATE_BLOCKS_EXPECTED (hdrBlocks h) with hv
  obtain ⟨hres, -, hnvm⟩ := v.updResult_spec 0
  refine ⟨?_, ?_, ?_, ?_⟩
  · rw [State.rd_raise _ _ _ _ (by decide), hres]
  · rw [State.rd_raise _ _ _ _ (by decide), State.rd_updResult _ _ (by decide) (by decide), hv]
    simp (disch := decide) only [State.rd_wr_apart, State.rd_wr]
    rfl
  · rw [State.image, State.raise_nvm, hnvm, hv, State.wr_nvm, State.wr_nvm, State.wr_nvm, ← State.image, himg]
  · rw [State.rd_raise _ _ _ _ (by decide), State.rd_updResult _ _ (by decide) (by decide), hv]
    simp (disch := decide) only [State.rd_wr_apart, State.rd_wr]
    exact hid

theorem State.opHeader_spec (hn : s.notOwner who = false) (ht : s.rd F.UPDATE_STATUS_TRIAL = 0) (ha : s.nvm.armed = 0) (hw : s.nvm.actWait = false)
    (hp : s.nvm.boot.pendingSlot = none) (hm : s.transferMode = true) :
    (s.opHeader who).rd F.UPDATE_STATUS_RESULT = s.headerCheck (s.updWindow 256) % 16 ∧
    (s.opHeader who).rd F.UPDATE_STATUS_STATE = (if s.headerCheck (s.updWindow 256) = 0 then 1 else s.rd F.UPDATE_STATUS_STATE) ∧
    (s.opHeader who).image s.otherSlot = (if s.headerCheck (s.updWindow 256) = 0 then { header := s.updWindow 256 } else s.image s.otherSlot) ∧
    (s.opHeader who).rd F.UPDATE_STATUS_OWNER = (if s.headerCheck (s.updWindow 256) = 0 then who.id else s.rd F.UPDATE_STATUS_OWNER) := by
  rw [State.opHeader_judged hn ht ha hw hp hm]
  by_cases hc : s.headerCheck (s.updWindow 256) = 0
  · rw [if_neg (by simpa using hc), if_pos hc, if_pos hc, if_pos hc, hc]
    exact s.ownerActs.headerTaken_spec who _
  · obtain ⟨hr, -, hnv⟩ := s.ownerActs.updResult_spec (s.headerCheck (s.updWindow 256))
    rw [if_pos hc, if_neg hc, if_neg hc, if_neg hc]
    refine ⟨hr, State.rd_updResult _ _ (by decide) (by decide), ?_, State.rd_updResult _ _ (by decide) (by decide)⟩
    rw [State.image, hnv]
    rfl

end Header

/-! ## TABLE -/

section Table
variable {s : State} {who : Initiator}

/-- The state in which a chunk of the table is kept. -/
def State.chunkKept (s : State) (x : ImageSlot) (chunks : List Nat) : State :=
  { s.setImage s.otherSlot x with nvm := { (s.setImage s.otherSlot x).nvm with chunks := chunks } }

theorem le_length (n v : Nat) : (le n v).length = n := by
  induction n generalizing v with
  | zero => rfl
  | succ n ih => rw [le, List.length_cons, ih]

theorem State.updWindow_length (s : State) (n : Nat) : (s.updWindow n).length = (n + 3) / 4 * 4 := by
  simp [State.updWindow, List.length_flatMap, le_length]

/-- The table of a slot with its first chunk in it. -/
def firstChunk (table : List Byte) (n : Nat) (w : List Byte) : List Byte :=
  w.take (min 1024 (4 * n)) ++ (table ++ List.replicate (4 * n - table.length) 0).drop (w.take (min 1024 (4 * n))).length

theorem firstChunk_whole {n : Nat} {w : List Byte} (hn : n ≤ 256) (hw : w.length = 1024) : firstChunk [] n w = w.take (4 * n) := by
  have hmin : min 1024 (4 * n) = 4 * n := by omega
  rw [firstChunk, hmin, List.length_take, hw, List.drop_of_length_le, List.append_nil]
  simp
  omega

theorem State.opTable_first (hn : s.notOwner who = false) (hs : s.rd F.UPDATE_STATUS_STATE = 1) (hm : s.transferMode = true)
    (hi : s.rd F.UPDATE_ADDR_INDEX = 0) (h1 : 1 ≤ hdrBlocks (s.image s.otherSlot).header) (hc : s.nvm.chunks = []) {x : ImageSlot}
    (hx : x = { s.image s.otherSlot with table := firstChunk (s.image s.otherSlot).table (hdrBlocks (s.image s.otherSlot).header) (s.updWindow 1024) }) :
    s.opTable who =
      if 1 < (hdrBlocks (s.image s.otherSlot).header + 255) / 256 then (s.ownerActs.chunkKept x [0]).updResult 0
      else if sha256 x.table == (x.header.drop 40).take 32 then ((s.ownerActs.chunkKept x [0]).wr F.UPDATE_STATUS_STATE 2).updResult 0
      else (s.ownerActs.chunkKept x []).updResult 9 := by
  rw [State.opTable, if_neg (by rw [hn]; decide), if_neg (by simp [hs, hm])]
  extract_lets s1 k y n c total size t part z chunks src src2 s2
  have hc0 : c = 0 := hi
  have hz : z = x := by
    rw [hx]
    simp only [z, part, hc0, Nat.mul_zero, Nat.sub_zero, List.take_zero, List.nil_append, Nat.zero_add]
    rfl
  have hch : chunks = [0] := by
    have : s1.nvm.chunks = [] := hc
    simp [chunks, this, hc0]
  have h2 : s2 = s.ownerActs.chunkKept x [0] := by
    simp only [s2, src, src2, hz, hch]
    rfl
  have hlen : chunks.length = 1 := by rw [hch]; rfl
  have hn1 : 1 ≤ n := h1
  have htot : total = (hdrBlocks (s.image s.otherSlot).header + 255) / 256 := rfl
  have h3 : ({ s2 with nvm := { s2.nvm with chunks := [] } } : State) = s.ownerActs.chunkKept x [] := by
    rw [h2]
    rfl
  rw [if_neg (by rw [hc0, htot]; omega), hlen, h3, h2, hz, htot]

/-- A table of one chunk is kept and takes STATE to 2 where its hash agrees. -/
theorem State.opTable_one (hn : s.notOwner who = false) (hs : s.rd F.UPDATE_STATUS_STATE = 1) (hm : s.transferMode = true)
    (hi : s.rd F.UPDATE_ADDR_INDEX = 0) (h1 : 1 ≤ hdrBlocks (s.image s.otherSlot).header) (h256 : hdrBlocks (s.image s.otherSlot).header ≤ 256)
    (ht : (s.image s.otherSlot).table = []) (hc : s.nvm.chunks = []) :
    (s.opTable who).rd F.UPDATE_STATUS_STATE = (if sha256 ((s.updWindow 1024).take (4 * hdrBlocks (s.image s.otherSlot).header)) ==
      ((s.image s.otherSlot).header.drop 40).take 32 then 2 else 1) ∧
    ((s.opTable who).image s.otherSlot).table = (s.updWindow 1024).take (4 * hdrBlocks (s.image s.otherSlot).header) ∧
    ((s.opTable who).rd F.UPDATE_STATUS_RESULT = 0 ↔ (s.opTable who).rd F.UPDATE_STATUS_STATE = 2) := by
  have hx := State.opTable_first hn hs hm hi h1 hc rfl
  rw [ht, firstChunk_whole h256 (by rw [State.updWindow_length]), if_neg (by omega)] at hx
  generalize hxd : ({ s.image s.otherSlot with table := (s.updWindow 1024).take (4 * hdrBlocks (s.image s.otherSlot).header) } : ImageSlot) = x at hx
  have hxt : x.table = (s.updWindow 1024).take (4 * hdrBlocks (s.image s.otherSlot).header) := by rw [← hxd]
  have hxh : x.header = (s.image s.otherSlot).header := by rw [← hxd]
  have himg : ∀ l, (s.ownerActs.chunkKept x l).image s.otherSlot = x := fun l => State.image_setImage s s.otherSlot x
  have hst : ∀ l, (s.ownerActs.chunkKept x l).rd F.UPDATE_STATUS_STATE = 1 := fun l => hs
  rw [hx, ← hxt, ← hxh]
  by_cases hok : (sha256 x.table == (x.header.drop 40).take 32) = true
  · rw [if_pos hok, if_pos hok]
    obtain ⟨hr, -, hnv⟩ := ((s.ownerActs.chunkKept x [0]).wr F.UPDATE_STATUS_STATE 2).updResult_spec 0
    have hs2 : (((s.ownerActs.chunkKept x [0]).wr F.UPDATE_STATUS_STATE 2).updResult 0).rd F.UPDATE_STATUS_STATE = 2 := by
      rw [State.rd_updResult _ _ (by decide) (by decide)]
      exact State.rd_wr _ _ _ (by decide)
    refine ⟨hs2, ?_, by rw [hr, hs2]; decide⟩
    rw [State.image, hnv, State.wr_nvm, ← State.image, himg]
  · rw [if_neg hok, if_neg hok]
    obtain ⟨hr, -, hnv⟩ := (s.ownerActs.chunkKept x []).updResult_spec 9
    have hs1 : ((s.ownerActs.chunkKept x []).updResult 9).rd F.UPDATE_STATUS_STATE = 1 := by
      rw [State.rd_updResult _ _ (by decide) (by decide), hst]
    refine ⟨hs1, ?_, by rw [hr, hs1]; decide⟩
    rw [State.image, hnv, ← State.image, himg]

/-- The first of several chunks is kept. -/
theorem State.opTable_several (hn : s.notOwner who = false) (hs : s.rd F.UPDATE_STATUS_STATE = 1) (hm : s.transferMode = true)
    (hi : s.rd F.UPDATE_ADDR_INDEX = 0) (h1 : 257 ≤ hdrBlocks (s.image s.otherSlot).header) (hc : s.nvm.chunks = []) :
    (s.opTable who).rd F.UPDATE_STATUS_RESULT = 0 ∧ (s.opTable who).nvm.chunks = [0] ∧ (s.opTable who).rd F.UPDATE_STATUS_STATE = 1 := by
  have hx := State.opTable_first hn hs hm hi (by omega) hc rfl
  rw [if_pos (by omega)] at hx
  rw [hx]
  obtain ⟨hr, -, hnv⟩ := State.updResult_spec (s.ownerActs.chunkKept _ [0]) 0
  refine ⟨hr, by rw [hnv]; rfl, ?_⟩
  rw [State.rd_updResult _ _ (by decide) (by decide)]
  exact hs

end Table

/-! ## BLOCK -/

section Block
variable {s : State} {who : Initiator} {fails : Fin 3}

theorem State.erase_nvm (s : State) (n : Nat) : ∃ e, (s.erase n).nvm = { s.nvm with erases := e } := by
  unfold State.erase
  dsimp only
  split
  · exact ⟨_, State.wr_nvm ..⟩
  · exact ⟨_, rfl⟩

/-- A block programmed and verified is among the blocks, and only its sector was erased. -/
theorem State.programBlock_ok (s : State) (k : Nat) (b : List Byte) : (s.programBlock k b 0).rd F.UPDATE_STATUS_RESULT = 0 ∧
    (s.programBlock k b 0).nvm.part = s.nvm.part ∧ (s.programBlock k b 0).nvm.blocks = k :: s.nvm.blocks := by
  unfold State.programBlock
  extract_lets slot sector fresh s1 s2 s3 x s4 src s5
  rw [if_neg (by decide)]
  have h1 : s1.nvm.part = s.nvm.part ∧ s1.nvm.blocks = s.nvm.blocks := by
    by_cases hf : fresh = true
    · obtain ⟨e, he⟩ := s.erase_nvm (1024 * slot + sector)
      rw [show s1 = _ from if_pos hf, he]
      exact ⟨rfl, rfl⟩
    · rw [show s1 = s from if_neg hf]
      exact ⟨rfl, rfl⟩
  have h3 : s3 = s1 := if_neg (by decide)
  obtain ⟨hr, -, hn⟩ := (s5.wr F.UPDATE_BLOCKS_RECEIVED s5.nvm.blocks.length).updResult_spec 0
  rw [hn, State.wr_nvm]
  refine ⟨hr, ?_, ?_⟩
  · exact (congrArg (·.nvm.part) h3).trans h1.1
  · exact congrArg (k :: ·) ((congrArg (·.nvm.blocks) h3).trans h1.2)

/-- The quarters of a block in transfer, with one that has come. -/
def State.partNow (s : State) : List (Nat × List Byte) :=
  mins (mdel (if s.nvm.partBlock = s.rd F.UPDATE_ADDR_INDEX then s.nvm.part else []) (s.rd F.UPDATE_ADDR_QUARTER)) (s.rd F.UPDATE_ADDR_QUARTER)
    (s.updWindow 1024)

/-- The state in which a quarter is kept. -/
def State.quarterKept (s : State) : State :=
  { s.ownerActs.wr F.UPDATE_STATUS_STATE 3 with nvm := { s.ownerActs.nvm with part := s.partNow, partBlock := s.rd F.UPDATE_ADDR_INDEX } }

/-- A block that is complete gives its quarters up. -/
def State.quartersUsed (s : State) : State := { s with nvm := { s.nvm with part := [] } }

theorem State.quarterKept_stage (s : State) : s.quarterKept.rd F.UPDATE_STATUS_STATE = 3 :=
  (State.rd_regs (State.mk_regs ..) _).trans (State.rd_wr _ _ _ (by decide))

theorem find?_mins {α : Type} {m : List (Nat × α)} {k : Nat} {v : α} (h : ∀ e ∈ m, e.1 ≠ k) : (mins m k v).find? (·.1 == k) = some (k, v) := by
  induction m with
  | nil => simp [mins]
  | cons e m ih =>
    have he : e.1 ≠ k := h e (List.mem_cons_self ..)
    rw [mins]
    split
    · simp
    · rw [List.find?_cons_of_neg (by simpa using he)]
      exact ih fun x hx => h x (List.mem_cons_of_mem _ hx)

theorem State.opBlock_quarter (hn : s.notOwner who = false) (hs : s.rd F.UPDATE_STATUS_STATE = 2 ∨ s.rd F.UPDATE_STATUS_STATE = 3)
    (hm : s.transferMode = true) (hp : s.norPaused = false) (hk : s.rd F.UPDATE_ADDR_INDEX < hdrBlocks (s.image s.otherSlot).header) :
    s.opBlock who fails = if s.rd F.UPDATE_ADDR_QUARTER < 3 then s.quarterKept.updResult 0
      else if s.partNow.length < 4 then s.quarterKept.updResult 10
      else if !blockOk (s.image s.otherSlot) (s.rd F.UPDATE_ADDR_INDEX) (s.partNow.flatMap Prod.snd) then
        s.quarterKept.quartersUsed.updResult 8
      else if s.nvm.blocks.contains (s.rd F.UPDATE_ADDR_INDEX) then s.quarterKept.quartersUsed.updResult 0
      else s.quarterKept.quartersUsed.programBlock (s.rd F.UPDATE_ADDR_INDEX)
        (blockPadded (s.image s.otherSlot).header (s.rd F.UPDATE_ADDR_INDEX) (s.partNow.flatMap Prod.snd)) fails := by
  unfold State.opBlock
  extract_lets st s1 x k q old part src src2 s2 b src3 s3
  rw [if_neg (by rw [hn]; decide), if_neg (by rcases hs with h | h <;> simp [st, h, hm]), if_neg (by rw [hp]; decide)]
  have hk' : ¬ k ≥ hdrBlocks x.header := Nat.not_le.2 hk
  rw [if_neg hk']
  have h2 : s2 = s.quarterKept := rfl
  have h3 : s3 = s.quarterKept.quartersUsed := rfl
  have hb : s3.nvm.blocks = s.nvm.blocks := rfl
  rw [hb, h3, h2]
  rfl

/-- A quarter other than the last is kept. -/
theorem State.opBlock_part (hn : s.notOwner who = false) (hs : s.rd F.UPDATE_STATUS_STATE = 2 ∨ s.rd F.UPDATE_STATUS_STATE = 3)
    (hm : s.transferMode = true) (hp : s.norPaused = false) (hk : s.rd F.UPDATE_ADDR_INDEX < hdrBlocks (s.image s.otherSlot).header)
    (hq : s.rd F.UPDATE_ADDR_QUARTER < 3) :
    (s.opBlock who fails).rd F.UPDATE_STATUS_RESULT = 0 ∧ (s.opBlock who fails).rd F.UPDATE_STATUS_STATE = 3 ∧
    (s.opBlock who fails).nvm.partBlock = s.rd F.UPDATE_ADDR_INDEX ∧
    (s.opBlock who fails).nvm.part.find? (·.1 == s.rd F.UPDATE_ADDR_QUARTER) = some (s.rd F.UPDATE_ADDR_QUARTER, s.updWindow 1024) := by
  obtain ⟨hr, -, hnv⟩ := s.quarterKept.updResult_spec 0
  rw [State.opBlock_quarter hn hs hm hp hk, if_pos hq, hnv]
  exact ⟨hr, (State.rd_updResult _ _ (by decide) (by decide)).trans s.quarterKept_stage, rfl, find?_mins (mdel_ne _ _)⟩

/-- The last quarter of a block that is not there: RESULT tells whether the block agrees with its entry. -/
theorem State.opBlock_last (hn : s.notOwner who = false) (hs : s.rd F.UPDATE_STATUS_STATE = 3) (hm : s.transferMode = true)
    (hp : s.norPaused = false) (hk : s.rd F.UPDATE_ADDR_INDEX < hdrBlocks (s.image s.otherSlot).header) (hq : s.rd F.UPDATE_ADDR_QUARTER = 3)
    (hpb : s.nvm.partBlock = s.rd F.UPDATE_ADDR_INDEX)
    (hlen : (mins (mdel s.nvm.part (s.rd F.UPDATE_ADDR_QUARTER)) (s.rd F.UPDATE_ADDR_QUARTER) (s.updWindow 1024)).length = 4)
    (hnb : s.nvm.blocks.contains (s.rd F.UPDATE_ADDR_INDEX) = false) :
    (s.opBlock who 0).rd F.UPDATE_STATUS_RESULT = (if blockOk (s.image s.otherSlot) (s.rd F.UPDATE_ADDR_INDEX)
      ((mins (mdel s.nvm.part (s.rd F.UPDATE_ADDR_QUARTER)) (s.rd F.UPDATE_ADDR_QUARTER) (s.updWindow 1024)).flatMap (·.2)) then 0 else 8) ∧
    (s.opBlock who 0).nvm.part = [] ∧
    (s.opBlock who 0).nvm.blocks = (if blockOk (s.image s.otherSlot) (s.rd F.UPDATE_ADDR_INDEX)
      ((mins (mdel s.nvm.part (s.rd F.UPDATE_ADDR_QUARTER)) (s.rd F.UPDATE_ADDR_QUARTER) (s.updWindow 1024)).flatMap (·.2))
      then s.rd F.UPDATE_ADDR_INDEX :: s.nvm.blocks else s.nvm.blocks) := by
  have hpn : s.partNow = mins (mdel s.nvm.part (s.rd F.UPDATE_ADDR_QUARTER)) (s.rd F.UPDATE_ADDR_QUARTER) (s.updWindow 1024) := by
    rw [State.partNow, if_pos hpb]
  rw [← hpn] at hlen ⊢
  rw [State.opBlock_quarter hn (.inr hs) hm hp hk, if_neg (by rw [hq]; decide), if_neg (by rw [hlen]; decide)]
  by_cases hok : blockOk (s.image s.otherSlot) (s.rd F.UPDATE_ADDR_INDEX) (s.partNow.flatMap (·.2)) = true
  · rw [if_pos hok, if_pos hok, if_neg (by simp [hok]), if_neg (by rw [hnb]; decide)]
    exact State.programBlock_ok ..
  · obtain ⟨hr, -, hnv⟩ := s.quarterKept.quartersUsed.updResult_spec 8
    rw [if_neg hok, if_neg hok, if_pos (by simpa using hok), hnv]
    exact ⟨hr, rfl, rfl⟩

end Block

/-! ## FINISH and ABORT -/

section Finish
variable {s : State} {who : Initiator}

theorem State.showSlot_state (s : State) (k : Nat) : (s.showSlot k).rd (F.UPDATE_SLOT_STATE k) = s.rd (F.UPDATE_SLOT_STATE k) := by
  unfold State.showSlot
  dsimp only
  split
  · rfl
  · simp (disch := (simp only [Fld.apart_mk, Fld.fits_mk, Fld.width_mk]; omega)) only [State.rd_wr_apart]

/-- A slot whose check holds is VERIFIED and the transfer over. -/
def State.slotVerified (s : State) : State :=
  (((((s.wr (F.UPDATE_SLOT_STATE s.otherSlot) 2).showSlot s.otherSlot).wr F.UPDATE_STATUS_STATE 5).wr F.UPDATE_STATUS_OWNER 0).updResult 0).raise 0x62 1

theorem State.opFinish_judged (hn : s.notOwner who = false) (hs : s.rd F.UPDATE_STATUS_STATE = 3) (hm : s.transferMode = true)
    (hb : hdrBlocks (s.image s.otherSlot).header ≤ s.nvm.blocks.length) :
    s.opFinish who = if s.slotCheck (s.image s.otherSlot) then s.ownerActs.slotVerified else s.ownerActs.updResult 9 := by
  have hc : s.ownerActs.slotCheck (s.image s.otherSlot) = s.slotCheck (s.image s.otherSlot) := State.slotCheck_congr rfl rfl _
  unfold State.opFinish
  extract_lets k x
  rw [if_neg (by rw [hn]; decide), if_neg (by simp [hs, hm, x, k]; omega)]
  dsimp only [x, k]
  rw [hc]
  cases s.slotCheck (s.image s.otherSlot)
  · exact (if_pos rfl).trans (if_neg (by decide)).symm
  · exact (if_neg (by decide)).trans (if_pos rfl).symm

theorem State.slotVerified_spec (s : State) : s.slotVerified.rd F.UPDATE_STATUS_STATE = 5 ∧ s.slotVerified.rd F.UPDATE_STATUS_RESULT = 0 ∧
    s.slotVerified.rd (F.UPDATE_SLOT_STATE s.otherSlot) = 2 := by
  have hk := s.otherSlot_lt
  have he : (evtStatus 0x62).apart (F.UPDATE_SLOT_STATE s.otherSlot) := .inl (by simp only [evtStatus_mk]; omega)
  have hr : F.UPDATE_STATUS_RESULT.apart (F.UPDATE_SLOT_STATE s.otherSlot) := .inl (by simp only; omega)
  unfold State.slotVerified
  refine ⟨?_, ?_, ?_⟩
  · rw [State.rd_raise _ _ _ _ (by decide), State.rd_updResult _ _ (by decide) (by decide), State.rd_wr_apart _ _ _ _ (by decide) (by decide)]
    exact State.rd_wr _ _ _ (by decide)
  · rw [State.rd_raise _ _ _ _ (by decide)]
    exact (State.updResult_spec _ 0).1
  · rw [State.rd_raise _ _ _ _ he, State.rd_updResult _ _ hr he]
    simp (disch := (simp only [Fld.apart_mk, Fld.fits_mk, Fld.width_mk]; omega)) only [State.rd_wr_apart]
    rw [State.showSlot_state, State.rd_wr _ (F.UPDATE_SLOT_STATE s.otherSlot) _ (Nat.le_of_ble_eq_true rfl)]
    rfl

theorem State.opFinish_spec (hn : s.notOwner who = false) (hs : s.rd F.UPDATE_STATUS_STATE = 3) (hm : s.transferMode = true)
    (hb : hdrBlocks (s.image s.otherSlot).header ≤ s.nvm.blocks.length) :
    (s.opFinish who).rd F.UPDATE_STATUS_STATE = (if s.slotCheck (s.image s.otherSlot) then 5 else 3) ∧
    (s.opFinish who).rd F.UPDATE_STATUS_RESULT = (if s.slotCheck (s.image s.otherSlot) then 0 else 9) ∧
    (s.opFinish who).rd (F.UPDATE_SLOT_STATE s.otherSlot) =
      (if s.slotCheck (s.image s.otherSlot) then 2 else s.rd (F.UPDATE_SLOT_STATE s.otherSlot)) := by
  have hk := s.otherSlot_lt
  rw [State.opFinish_judged hn hs hm hb]
  by_cases hc : s.slotCheck (s.image s.otherSlot) = true
  · rw [if_pos hc, if_pos hc, if_pos hc, if_pos hc]
    exact s.ownerActs.slotVerified_spec
  · rw [if_neg hc, if_neg hc, if_neg hc, if_neg hc]
    refine ⟨(State.rd_updResult _ _ (by decide) (by decide)).trans hs, (State.updResult_spec _ 9).1, State.rd_updResult s.ownerActs 9 ?_ ?_⟩
    · exact .inl (by simp only; omega)
    · exact .inl (by simp only [evtStatus_mk]; omega)

end Finish

/-- Settles O55: each operation of a transfer by its owner is judged and then shown in RESULT and STATE. -/
theorem updateTransfer : Obligations.UpdateTransfer := by
  refine ⟨fun who s hb hn ht ha hw hp hm => ?_, fun who s hb hn hs hm hi h1 h256 htab hc => ?_, fun who s hb hn hs hm hi h1 hc => ?_,
    fun who fails s hb hn hs hm hp hk hq => ?_, fun who s hb hn hs hm hp hk hq hpb hlen hnb => ?_, fun who s hb hn hs hm hbl => ?_,
    fun who s hb hn ht => ?_, fun who fails s hb hn => ?_, fun s ht => ?_⟩
  · refine .of_asWrite rfl hb ?_
    have h := State.opHeader_spec (s := s.result who A.UPDATE_CMD 0) (who := who) (by simpa using hn) (by simpa using ht) (by simpa using ha)
      (by simpa using hw) (by simpa using hp) (by simpa using hm)
    simp only [State.headerCheck_result, State.updWindow_result, State.otherSlot_result, State.image_result, State.rd_result] at h
    exact h
  · refine .of_asWrite rfl hb ?_
    have h := State.opTable_one (s := s.result who A.UPDATE_CMD 0) (who := who) (by simpa using hn) (by simpa using hs) (by simpa using hm)
      (by simpa using hi) (by simpa using h1) (by simpa using h256) (by simpa using htab) (by simpa using hc)
    simp only [State.updWindow_result, State.otherSlot_result, State.image_result] at h
    exact h
  · refine .of_asWrite rfl hb ?_
    exact State.opTable_several (s := s.result who A.UPDATE_CMD 0) (who := who) (by simpa using hn) (by simpa using hs) (by simpa using hm)
      (by simpa using hi) (by simpa using h1) (by simpa using hc)
  · refine .of_asWrite rfl hb ?_
    have h := State.opBlock_part (s := s.result who A.UPDATE_CMD 0) (who := who) (fails := fails) (by simpa using hn) (by simpa using hs)
      (by simpa using hm) (by simpa using hp) (by simpa using hk) (by simpa using hq)
    simp only [State.updWindow_result, State.rd_result] at h
    exact h
  · refine .of_asWrite rfl hb ?_
    have h := State.opBlock_last (s := s.result who A.UPDATE_CMD 0) (who := who) (by simpa using hn) (by simpa using hs)
      (by simpa using hm) (by simpa using hp) (by simpa using hk) (by simpa using hq) (by simpa using hpb) (by simpa using hlen) (by simpa using hnb)
    simp only [State.updWindow_result, State.rd_result, State.otherSlot_result, State.image_result, State.result_nvm] at h
    exact h
  · refine .of_asWrite rfl hb ?_
    have h := State.opFinish_spec (s := s.result who A.UPDATE_CMD 0) (who := who) (by simpa using hn) (by simpa using hs)
      (by simpa using hm) (by simpa using hbl)
    simp only [State.slotCheck_result, State.rd_result, State.otherSlot_result, State.image_result] at h
    exact h
  · obtain ⟨h1, h2, h3, h4, -⟩ := (s.result who A.UPDATE_CMD 0).endTransfer_spec
    have hx : (s.result who A.UPDATE_CMD 0).opAbort who = (s.result who A.UPDATE_CMD 0).endTransfer.updResult 0 := by
      rw [State.opAbort, if_neg (by simp [hn]), if_neg (by simp [ht])]
    have hk := s.otherSlot_lt
    rw [State.otherSlot_result] at h3
    refine .of_eq rfl ((State.asWrite_ok _ _ _ _ hb).trans hx) ⟨?_, ?_, ?_, (State.updResult_spec _ 0).1, ?_⟩
    · exact (State.rd_updResult _ _ (by decide) (by decide)).trans h1
    · exact (State.rd_updResult _ _ (by decide) (by decide)).trans h2
    · exact (State.rd_updResult _ _ (.inl (by simp only; omega)) (.inl (by simp only [evtStatus_mk]; omega))).trans h3
    · exact (State.rd_updResult _ _ (by decide) (by decide)).trans h4
  · refine .of_asWrite rfl hb ?_
    have hx : (s.result who A.UPDATE_CMD 0).opBlock who fails = (s.result who A.UPDATE_CMD 0).updResult 1 := by
      rw [State.opBlock, if_pos (by simp [hn])]
    obtain ⟨h1, -, h3⟩ := (s.result who A.UPDATE_CMD 0).updResult_spec 1
    change ((s.result who A.UPDATE_CMD 0).opBlock who fails).rd _ = _ ∧ ((s.result who A.UPDATE_CMD 0).opBlock who fails).bit _ _ = _ ∧
      ((s.result who A.UPDATE_CMD 0).opBlock who fails).nvm = _
    rw [hx, h3]
    exact ⟨h1, State.updResult_event _ (by decide), State.result_nvm ..⟩
  · obtain ⟨h1, h2, h3, -, h5⟩ := s.endTransfer_spec
    refine .of_eq rfl (if_pos ht) ⟨h1, h2, h3, ?_, ?_⟩ <;> rw [h5]

end Sys2Proof.Machine
end

section
/-!
O57: gate tests and test access.
-/
set_option Elab.async false
namespace Sys2Proof.Machine
open Sys2Proof

/-! ## Gate tests -/

section Gate
variable {s t : State} {who : Initiator}

theorem testBit_go {n : Nat} (h : n < 65536) : (65536 + n).testBit 16 = true ∧ (65536 + n).testBit 17 = false := by
  have h16 : n.testBit 16 = false := Nat.testBit_lt_two_pow h
  refine ⟨?_, Nat.testBit_lt_two_pow (by omega)⟩
  rw [show 65536 + n = 2 ^ 16 + n from rfl, Nat.testBit_two_pow_add_eq, h16]
  rfl

/-- What a field does not hold of a number is not written. -/
theorem State.wr_mod (s : State) (f : Fld) (n : Nat) : s.wr f (n % 2 ^ f.width) = s.wr f n := by
  rw [State.wr, State.wr, Fld.put, Fld.put, Nat.mod_mod]

theorem State.testRefusal_congr (hr : t.regs = s.regs) (hm : t.meas = s.meas) (hp : t.prot = s.prot) : t.testRefusal = s.testRefusal := by
  have h1 : t.rd = s.rd := funext fun f => State.rd_regs hr f
  have h2 : t.bit = s.bit := funext fun f => funext fun k => State.bit_rd (State.rd_regs hr f) k
  have h3 : t.mode = s.mode := by rw [State.mode, State.mode, h1]
  have h4 : t.fbClosed = s.fbClosed := by
    funext k
    rw [State.fbClosed, State.fbClosed, h2]
  have h5 : t.testable = s.testable := by
    funext n
    simp only [State.testable, h1, h2]
  have h6 : t.noSH = s.noSH := by rw [State.noSH, State.noSH, hp]
  unfold State.testRefusal
  rw [h1, h2, h3, h4, h5, h6, hm]

theorem State.wr_regs_congr (h : t.regs = s.regs) (f : Fld) (n : Nat) : (t.wr f n).regs = (s.wr f n).regs := by
  simp only [State.wr, State.setWord, State.word, h]

/-- The access by which a test is asked for decides nothing of its refusal. -/
theorem State.testRefusal_phases (s : State) (who : Initiator) (a n : Nat) :
    ((s.result who a 0).wr F.TESTMUX_GTEST_PHASES n).testRefusal = (s.wr F.TESTMUX_GTEST_PHASES n).testRefusal :=
  State.testRefusal_congr (State.wr_regs_congr (State.result_regs ..) _ _) (by rw [State.wr_meas, State.wr_meas, State.result_meas])
    (by rw [State.wr_prot, State.wr_prot, State.result_prot])

/-- A GO with no test running writes the phases and asks for the test. -/
theorem State.gtestWrite_go {n : Nat} (hn : n < 65536) (h : s.on F.TESTMUX_STATUS_GTEST = false) :
    s.gtestWrite (65536 + n) = (s.wr F.TESTMUX_GTEST_PHASES n).testGo := by
  obtain ⟨h16, h17⟩ := testBit_go hn
  have hw : s.wr F.TESTMUX_GTEST_PHASES (65536 + n) = s.wr F.TESTMUX_GTEST_PHASES n := by
    rw [← State.wr_mod s _ (65536 + n), ← State.wr_mod s _ n]
    have hmod : (65536 + n) % 2 ^ F.TESTMUX_GTEST_PHASES.width = n % 2 ^ F.TESTMUX_GTEST_PHASES.width := Nat.add_mod_left ..
    rw [hmod]
  simp only [State.gtestWrite, h, h16, h17, hw, if_true, if_false, Bool.false_eq_true]

theorem State.testGo_starts (h : s.on F.TESTMUX_STATUS_GTEST = false) (hr : s.testRefusal = 0) : s.testGo =
    { ((s.wr F.TESTMUX_STATUS_GRESULT 0).wrB F.TESTMUX_STATUS_GTEST true).askEnables with tmx := { s.tmx with startNext := true, stopNext := false } } := by
  rw [State.testGo, if_neg (by rw [h]; decide)]
  dsimp only
  rw [hr, if_neg (by decide), State.wr_tmx]

theorem State.testGo_refused (h : s.on F.TESTMUX_STATUS_GTEST = false) (hr : s.testRefusal ≠ 0) :
    s.testGo = s.wr F.TESTMUX_STATUS_GRESULT s.testRefusal := by
  rw [State.testGo, if_neg (by rw [h]; decide)]
  exact if_pos hr

theorem State.refreshGates_pages (s : State) : OnlyPages [0x20] s s.refreshGates := OnlyPages.refl.wrB (by decide)

theorem State.askEnables_pages (s : State) : OnlyPages [0x20, 0x31] s s.askEnables := by
  unfold State.askEnables
  exact (((OnlyPages.of_regs (State.mk_regs ..)).wrB (by decide)).wrB (by decide)).andThen (State.refreshGates_pages _) (by decide)

theorem State.testRefusal_lt (s : State) : s.testRefusal < 16 := by
  unfold State.testRefusal
  dsimp only
  split_ifs <;> decide

/-- The end of a test that does not come at once: its result, its event, and the next boundary to stop at. -/
theorem State.endGateTest_next {r : Nat} (h : s.on F.TESTMUX_STATUS_GTEST = true) (hs : s.tmx.stopNext = false) (hr : r < 16) :
    (s.endGateTest r false).tmx = { s.tmx with stopNext := true } ∧ (s.endGateTest r false).rd F.TESTMUX_STATUS_GRESULT = r ∧
    (s.endGateTest r false).bit (evtStatus 0x70) (if r == 0 then 2 else 3) = true := by
  have he : s.endGateTest r false = { (s.wr F.TESTMUX_STATUS_GRESULT r).raise 0x70 (if r == 0 then 2 else 3) with
      tmx := { s.tmx with stopNext := true } } := by
    have ht : ((s.wr F.TESTMUX_STATUS_GRESULT r).raise 0x70 (if r == 0 then 2 else 3)).tmx = s.tmx := by rw [State.raise_tmx, State.wr_tmx]
    rw [State.endGateTest, if_pos (by simp [h, hs])]
    dsimp only
    rw [if_neg (by decide), ht]
  rw [he]
  refine ⟨rfl, ?_, State.bit_raise _ (by split <;> decide)⟩
  refine (State.rd_regs (State.mk_regs ..) _).trans ?_
  rw [State.rd_raise _ _ _ _ (by decide), State.rd_wr _ _ _ (by decide)]
  exact Nat.mod_eq_of_lt hr

end Gate

/-! ## The port and its lock -/

section Port
variable {s : State}

theorem State.lockPort_closes (h : s.on F.TESTMUX_STATUS_JTAG_OPEN = true) : s.lockPort.rd F.TESTMUX_STATUS_JTAG_OPEN = 0 ∧
    s.lockPort.tmx = { s.tmx with instr := .bypass, forced := [] } ∧ s.lockPort.bit (evtStatus 0x70) 1 = true := by
  have he : s.lockPort = { (s.wrB F.TESTMUX_STATUS_JTAG_OPEN false).raise 0x70 1 with tmx := { s.tmx with instr := .bypass, forced := [] } } := by
    rw [State.lockPort, if_pos h]
  rw [he]
  refine ⟨(State.rd_regs (State.mk_regs ..) _).trans ?_, rfl, State.bit_raise _ (by decide)⟩
  rw [State.rd_raise _ _ _ _ (by decide)]
  exact State.rd_wrB _ _ _ (by decide) (by decide)

theorem State.length_q91_record (s : State) (sev src : Nat) (ev : Ev) (l : List Int) (b : Bool) :
    (s.record sev src ev l b).q91.length = s.q91.length + 1 := by simp [State.record]

/-- An event that is notified takes no submission to the Almanac back. -/
theorem State.q91_notify_le (s : State) (page bit : Nat) (n : Option Nat) : s.q91.length ≤ (s.notify page bit n).q91.length := by
  unfold State.notify
  extract_lets route s1 src2 s2
  have h1 : s1.q91 = s.q91 := by
    simp only [s1]
    split <;> rfl
  have h2 : s2.q91 = s.q91 := by
    simp only [s2]
    split
    · exact h1
    · exact h1
  split
  · rw [State.length_q91_record, h2]
    omega
  · rw [h2]

theorem State.q91_raise_le (s : State) (page bit : Nat) : s.q91.length ≤ (s.raise page bit).q91.length := by
  unfold State.raise
  split
  · exact Nat.le_refl _
  · dsimp only
    have h : (s.wrBit (evtStatus page) bit true).q91 = s.q91 := by rw [State.wrBit, State.wr_q91]
    split
    · rw [← h]
      exact State.q91_notify_le ..
    · rw [h]

/-- The key opens the port in SERVICE, with its event and a record. -/
theorem State.jtagWrite_unlock (h : s.mode = .service) : (s.jtagWrite (65536 + 0xC35A)).rd F.TESTMUX_STATUS_JTAG_OPEN = 1 ∧
    (s.jtagWrite (65536 + 0xC35A)).bit (evtStatus 0x70) 0 = true ∧ s.q91.length < (s.jtagWrite (65536 + 0xC35A)).q91.length := by
  have he : s.jtagWrite (65536 + 0xC35A) = ((s.wrB F.TESTMUX_STATUS_JTAG_OPEN true).raise 0x70 0).record 5 0x70 .jtagUnlocked := by
    rw [State.jtagWrite, if_neg (by decide), if_pos (by simp [h]; decide)]
  rw [he]
  refine ⟨(State.rd_raise _ _ _ _ (by decide)).trans (State.rd_wrB _ _ _ (by decide) (by decide)), State.bit_raise _ (by decide), ?_⟩
  rw [State.length_q91_record]
  have hq := State.q91_raise_le (s.wrB F.TESTMUX_STATUS_JTAG_OPEN true) 0x70 0
  rw [State.wrB_q91] at hq
  omega

/-- Another key, or another mode, opens nothing. -/
theorem State.jtagWrite_refused {n : Nat} (hn : n < 65536) (h : n ≠ 0xC35A ∨ s.mode ≠ .service) : s.jtagWrite (65536 + n) = s := by
  obtain ⟨h16, h17⟩ := testBit_go hn
  have hmod : (65536 + n) % 2 ^ 16 = n := by omega
  rw [State.jtagWrite, if_neg (by rw [h17]; decide), if_neg]
  rw [hmod]
  rcases h with h | h <;> simp [h]

end Port

/-! ## The service timeout -/

section Timeout
variable {s : State}

/-- A start of a reset keeps what the boot records hold, where no image waits to be started. -/
theorem State.resetTo_boot (k : ResetKind) (i : Start) (h : s.nvm.boot.pendingSlot = none) : (s.resetTo k i).nvm.boot = s.nvm.boot := by
  have h0 : (s.survive k).nvm.boot = s.nvm.boot := by
    unfold State.survive
    extract_lets warm regs own seqs keepTask n nvm t
    have hw : Within [.regs] t ((t.takeWords (ofClass .L) own).takeWords (ofClass .L) seqs) :=
      State.takeWords_within (by decide) (State.takeWords_within (by decide) .rfl)
    rw [hw.nvm (by decide)]
  unfold State.resetTo
  extract_lets t st t1
  have h1 : Within [.regs, .q91, .alm, .pair, .crown, .rk, .scan] (s.survive k) t := by
    refine State.almRecover_within (by decide) (by decide) (by decide) (by decide) (by decide) ?_
    refine State.startMonitor_within (by decide) (State.startStrap_within (by decide) (by decide) ?_)
    exact State.startSupply_within (by decide) (by decide) (State.startCause_within (by decide) .rfl)
  have h2 : Within [.regs, .q91, .alm, .pair, .crown, .rk, .scan] (s.survive k) t1 := within_ite (State.wr_within (by decide) h1) h1
  rw [h]
  exact (congrArg Nvm.boot (h2.nvm (by decide))).trans h0

/-- A software warm reset keeps the time bases where no image is on trial and none waits. -/
theorem State.keepsTime_warm (i : Start) (ht : s.nvm.boot.trial = false) (hp : s.nvm.boot.pendingSlot = none) :
    s.keepsTime .softwareWarm i = true := by
  have hd := (State.degradeLost_within (T := [.q91]) (by decide) (.rfl (s := s))).nvm (by decide)
  have hb := State.resetTo_boot (s := s.degradeLost) .softwareWarm i (by rw [hd]; exact hp)
  rw [State.keepsTime, State.trialEnds, hb, hd, ht]
  rfl

/-- The state in which the service timeout resets the module. -/
def State.timedOut (s : State) : State := ((s.record 5 0x70 .svcTimeout).raise 0x70 4).almDrain

theorem State.timedOut_within (s : State) : Within [.regs, .out, .q91, .rk, .scan, .pair, .alm] s s.timedOut :=
  State.almDrain_within (by decide) (by decide) (by decide) (by decide) (by decide) (by decide) (by decide)
    (State.raise_within (by decide) (by decide) (by decide) (by decide) (State.record_within (by decide) .rfl))

theorem State.timedOut_mode (s : State) : s.timedOut.mode = s.mode := by
  refine State.mode_of_rdIs (rdIs_foldl (State.raise_mode (State.record_mode rfl)) fun u _ hu => State.almTake_mode hu)

end Timeout

/-- Settles O57. -/
theorem testAccess : Obligations.TestAccess := by
  refine ⟨fun who phases s hb hg hr => ?_, fun who phases s hb hg hr => ?_, fun who s hb hg hs => ?_, fun s hg hs => ?_, fun who s hb hm => ?_,
    fun who key s hb hk => ?_, fun who s hb ho => ?_, fun s ho => ?_, fun s hm ht => ?_, fun s hm ht => ?_, fun who k sel s hb => ?_,
    fun s => ?_, fun i s ho hi => ?_, fun pins s ho => ?_⟩
  · have hg' : ((s.result who A.TESTMUX_GTEST 0).wr F.TESTMUX_GTEST_PHASES phases.val).on F.TESTMUX_STATUS_GTEST = false := by
      rw [State.on, State.rd_wr_apart _ _ _ _ (by decide) (by decide), State.rd_result]
      exact hg
    rw [← State.testRefusal_phases s who A.TESTMUX_GTEST] at hr
    refine .of_eq rfl ((State.asWrite_ok _ _ _ _ hb).trans ((State.gtestWrite_go phases.isLt (by simpa using hg)).trans (State.testGo_starts hg' hr))) ?_
    have hp := State.askEnables_pages ((((s.result who A.TESTMUX_GTEST 0).wr F.TESTMUX_GTEST_PHASES phases.val).wr F.TESTMUX_STATUS_GRESULT 0).wrB
      F.TESTMUX_STATUS_GTEST true)
    refine ⟨?_, ?_, ?_, rfl, rfl, ?_⟩
    · refine (State.rd_regs (State.mk_regs ..) _).trans ((hp.rd (by decide)).trans ?_)
      exact State.rd_wrB _ _ _ (by decide) (by decide)
    · refine (State.rd_regs (State.mk_regs ..) _).trans ((hp.rd (by decide)).trans ?_)
      simp (disch := decide) only [State.rd_wrB_apart, State.rd_wr]
      rfl
    · refine (State.rd_regs (State.mk_regs ..) _).trans ((hp.rd (by decide)).trans ?_)
      simp (disch := decide) only [State.rd_wrB_apart, State.rd_wr_apart, State.rd_wr]
      exact Nat.mod_eq_of_lt phases.isLt
    · refine State.mode_of_rd ((State.rd_regs (State.mk_regs ..) _).trans ((hp.rd (by decide)).trans ?_))
      simp (disch := decide) only [State.rd_wrB_apart, State.rd_wr_apart, State.rd_result]
  · have hg' : ((s.result who A.TESTMUX_GTEST 0).wr F.TESTMUX_GTEST_PHASES phases.val).on F.TESTMUX_STATUS_GTEST = false := by
      rw [State.on, State.rd_wr_apart _ _ _ _ (by decide) (by decide), State.rd_result]
      exact hg
    rw [← State.testRefusal_phases s who A.TESTMUX_GTEST] at hr ⊢
    refine .of_eq rfl ((State.asWrite_ok _ _ _ _ hb).trans ((State.gtestWrite_go phases.isLt (by simpa using hg)).trans (State.testGo_refused hg' hr)))
      ⟨?_, ?_, ?_, ?_⟩
    · rw [State.rd_wr_apart _ _ _ _ (by decide) (by decide)]
      exact State.on_eq_false.1 hg'
    · rw [State.rd_wr _ _ _ (by decide)]
      exact Nat.mod_eq_of_lt (State.testRefusal_lt _)
    · rw [State.wr_tmx, State.wr_tmx, State.result_tmx]
    · rw [State.wr_pwm, State.wr_pwm, State.result_pwm]
  · refine .of_asWrite rfl hb ?_
    have h := State.endGateTest_next (s := s.result who A.TESTMUX_GTEST 0) (r := 7) (by simpa using hg) (by simpa using hs) (by decide)
    rw [State.result_tmx] at h
    exact h
  · exact ⟨_, rfl, State.endGateTest_next hg hs (by decide)⟩
  · refine .of_asWrite rfl hb ?_
    have h := State.jtagWrite_unlock (s := s.result who A.TESTMUX_JTAG 0) (by simpa using hm)
    rw [State.result_q91] at h
    exact h
  · refine .of_eq rfl ((State.asWrite_ok _ _ _ _ hb).trans (State.jtagWrite_refused key.isLt (by simpa using hk))) ?_
    exact ⟨State.rd_result .., State.result_tmx .., State.result_q91 ..⟩
  · refine .of_asWrite rfl hb ?_
    have h := State.lockPort_closes (s := s.result who A.TESTMUX_JTAG 0) (by simpa using ho)
    rw [State.result_tmx] at h
    exact h
  · obtain ⟨h1, h2, -⟩ := State.lockPort_closes ho
    exact ⟨_, rfl, h1, h2⟩
  · have hw := s.timedOut_within
    have hst : s.timedOut.stg.takeUp = false := by rw [hw.stg (by decide)]; exact ht
    refine .of_eq rfl ((if_pos hm).trans (State.resetOr_now _ _ hst)) ?_
    obtain ⟨h1, h2⟩ := s.timedOut.restart_parts .softwareWarm s.startNow
    refine ⟨h1, fun htr hp => ?_⟩
    have hn := hw.nvm (by decide)
    rw [State.keepsTime_warm _ (by rw [hn]; exact htr) (by rw [hn]; exact hp), if_pos rfl, hw.tb (by decide)] at h2
    exact h2
  · have hw := s.timedOut_within
    have hst : s.timedOut.stg.takeUp = true := by rw [hw.stg (by decide)]; exact ht
    refine .of_eq rfl ((if_pos hm).trans (State.resetOr_takeUp _ _ hst)) ⟨rfl, ?_⟩
    exact s.timedOut_mode.trans hm
  · refine .of_asWrite rfl hb ⟨?_, (OnlyFields.of_regs (State.result_regs ..)).wr _ (Nat.le_of_ble_eq_true rfl) (by simp)⟩
    exact (State.rd_wr _ (F.TESTMUX_SEL_SEL k.val) _ (Nat.le_of_ble_eq_true rfl)).trans (Nat.mod_eq_of_lt sel.isLt)
  · exact ⟨_, rfl, rfl, rfl⟩
  · cases i with
    | idcode => exact absurd rfl hi
    | samplePreload | extest pins => exact .of_eq rfl (if_neg (by rw [ho]; decide)) ⟨rfl, rfl, rfl⟩
    | bypass | other => exact ⟨_, rfl, rfl, rfl, rfl⟩
  · exact .of_eq rfl (if_pos ho) ⟨rfl, rfl⟩

end Sys2Proof.Machine
end

section
/-!
O56: activation, confirmation and fallback of an update, the key area and the class L store.
-/
set_option Elab.async false
namespace Sys2Proof.Machine
open Sys2Proof

/-! ## Activation -/

section Activation
variable {s : State} {who : Initiator}

/-- The reset of an activation or a fallback clears the module and its time bases. -/
theorem State.updateReset_restarts (h : s.stg.takeUp = false) : Restarted s.updateReset ∧ s.updateReset.tb = [] := by
  have hst : s.almDrain.stg.takeUp = false := by
    have hw : Within [.regs, .out, .q91, .rk, .scan, .pair, .alm] s s.almDrain :=
      State.almDrain_within (by decide) (by decide) (by decide) (by decide) (by decide) (by decide) (by decide) .rfl
    rw [hw.stg (by decide)]
    exact h
  rw [State.updateReset, State.resetOr_now _ _ hst]
  exact State.restart_cold _ _ rfl

theorem State.activateNow_restarts (h : s.stg.takeUp = false) : Restarted s.activateNow ∧ s.activateNow.tb = [] := by
  refine State.updateReset_restarts ?_
  have hw : Within [.regs, .q91, .rk, .scan, .est, .tele, .nvm] s
      ((if s.nvm.prepared then s else s.storeAll).bootNew (if s.nvm.prepared then s else s.storeAll).otherSlot
        (if s.nvm.prepared then s else s.storeAll).entryInForce) :=
    State.bootNew_within (by decide) (by decide) (by decide)
      (within_ite .rfl (State.storeAll_within (by decide) (by decide) (by decide) (by decide) (by decide) (by decide) (by decide) .rfl))
  exact (congrArg Staging.takeUp (hw.stg (by decide))).trans h

/-- With no apply launched, no commit under way and outside REST an activation is carried out at once. -/
theorem State.activateStart_restarts (h6 : s.rd F.CROWN_STAGE_CTRL_STATE ≠ 6) (ht : s.stg.takeUp = false) (hc : s.stg.commitStep = 0)
    (hm : s.mode = .standby ∨ s.mode = .safe ∨ s.mode = .service) : Restarted s.activateStart ∧ s.activateStart.tb = [] := by
  have hr : (s.mode == .rest) = false := by rcases hm with h | h | h <;> rw [h] <;> rfl
  have he : s.activateStart = ({ s with nvm := { s.nvm with actWait := false } } : State).activateNow := by
    rw [State.activateStart, if_neg (by simp [h6, ht, hc]), if_neg (by rw [hr, Bool.and_false]; decide)]
  rw [he]
  exact State.activateNow_restarts ht

theorem State.mayActivate_of_mode (hm : s.mode = .standby ∨ s.mode = .safe ∨ s.mode = .service) : s.mayActivate = true := by
  rcases hm with h | h | h <;> simp [State.mayActivate, h]

section Ready
variable (hs : s.rd (F.UPDATE_SLOT_STATE s.otherSlot) = 2) (ht : s.transferring = false) (ha : s.nvm.armed = 0) (hw : s.nvm.actWait = false)
include hs ht ha hw

theorem State.activate_atOnce : s.activate 0 = if s.mayActivate then (s.updResult 0).activateStart else s.updResult 14 := by
  rw [State.activate, if_neg (by simp [hs, ht, ha, hw])]

theorem State.activate_nextReset (hm : 2 ≤ s.rd F.PAIR_STATUS_ROLE ∨ s.mode = .standby ∨ s.mode = .safe ∨ s.mode = .service) : s.activate 1 =
    { (s.updResult 0).wr F.UPDATE_STATUS_STATE 6 with
      nvm := { s.nvm with armed := 1, boot := { s.nvm.boot with pendingSlot := some s.otherSlot } } } := by
  rw [State.activate, if_neg (by simp [hs, ht, ha, hw])]
  exact if_pos (by rcases hm with h | h | h | h <;> simp [h])

theorem State.activate_jubilee (hy : s.on (F.TIME_CMD_SYNCED 0) = true) (hlo : s.tb0 + 10000000000 ≤ s.jub)
    (hhi : s.jub ≤ s.tb0 + 2592000000000000) : s.activate 2 =
    { (s.updResult 0).wr F.UPDATE_STATUS_STATE 6 with nvm := { s.nvm with armed := 2, prepared := false, delayed := false } } := by
  rw [State.activate, if_neg (by simp [hs, ht, ha, hw])]
  exact if_pos (by simp [hy, hlo, hhi])

end Ready

theorem State.mode_updResult (s : State) (c : Nat) : (s.updResult c).mode = s.mode :=
  State.mode_of_rd (State.rd_updResult _ _ (by decide) (by decide))

/-- A write of ACTIVATE does nothing without its key. -/
theorem State.updateCmd_activate (s : State) (who : Initiator) (act : Fin 4) (key : Nat) (h : key < 65536) :
    s.updateCmd who (0x10 + 256 * act.val + 65536 * key) 0 = if key = 0x3CA5 then s.activate act.val else s := by
  have h8 : (0x10 + 256 * act.val + 65536 * key) % 8 = 0 := by omega
  have hk : (0x10 + 256 * act.val + 65536 * key) / 2 ^ 16 % 2 ^ 16 = key := by omega
  have ha : (0x10 + 256 * act.val + 65536 * key) / 256 % 4 = act.val := by omega
  have hb : (0x10 + 256 * act.val + 65536 * key).testBit 4 = true := by
    rw [Nat.testBit_eq_decide_div_mod_eq]
    simp only [decide_eq_true_eq]
    omega
  unfold State.updateCmd
  rw [h8, hk, ha]
  refine (if_pos hb).trans ?_
  by_cases hc : key = 0x3CA5 <;> simp [hc]

/-- Words armed: RESULT 0 and STATE 6 in the mode as it was. -/
theorem State.armed_spec (s : State) : ((s.updResult 0).wr F.UPDATE_STATUS_STATE 6).rd F.UPDATE_STATUS_RESULT = 0 ∧
    ((s.updResult 0).wr F.UPDATE_STATUS_STATE 6).rd F.UPDATE_STATUS_STATE = 6 ∧ ((s.updResult 0).wr F.UPDATE_STATUS_STATE 6).mode = s.mode := by
  refine ⟨?_, State.rd_wr _ _ _ (by decide), ?_⟩
  · rw [State.rd_wr_apart _ _ _ _ (by decide) (by decide)]
    exact (State.updResult_spec s 0).1
  · rw [State.mode_wr_apart _ _ (by decide) (by decide), State.mode_updResult]

theorem State.disarm_spec (h : s.nvm.armed ≠ 0) : s.disarm.rd F.UPDATE_STATUS_STATE = 5 ∧
    s.disarm.nvm = { s.nvm with armed := 0, prepared := false, delayed := false, boot := { s.nvm.boot with pendingSlot := none } } := by
  have he : s.disarm = { s.wr F.UPDATE_STATUS_STATE 5 with
      nvm := { s.nvm with armed := 0, prepared := false, delayed := false, boot := { s.nvm.boot with pendingSlot := none } } } := by
    rw [State.disarm, if_pos (by simpa using h), State.wr_nvm]
  rw [he]
  exact ⟨(State.rd_regs (State.mk_regs ..) _).trans (State.rd_wr _ _ _ (by decide)), rfl⟩

@[simp] theorem State.mayActivate_result (s : State) (who : Initiator) (a : Nat) : (s.result who a 0).mayActivate = s.mayActivate := by
  simp only [State.mayActivate, State.rd_result, State.mode_result]

@[simp] theorem State.tb0_result (s : State) (who : Initiator) (a : Nat) : (s.result who a 0).tb0 = s.tb0 := by
  simp only [State.tb0, State.timeBase, State.result_tb]

@[simp] theorem State.jub_result (s : State) (who : Initiator) (a : Nat) : (s.result who a 0).jub = s.jub := by
  simp only [State.jub, State.rd_result]

@[simp] theorem State.confirmable_result (s : State) (who : Initiator) (a : Nat) : (s.result who a 0).confirmable = s.confirmable := by
  have h : ∀ j, (s.result who a 0).newestSeq j = s.newestSeq j := fun j => by rw [State.newestSeq, State.newestSeq, State.slots, State.slots, State.result_est]
  simp only [State.confirmable, h, State.result_nvm]

end Activation

theorem State.updResult_stg (s : State) (c : Nat) : (s.updResult c).stg = s.stg :=
  (State.updResult_within (T := [.regs, .q91, .rk, .scan]) (by decide) (by decide) (by decide) (by decide) .rfl).stg (by decide)

/-- What an activation stores before it leaves the activation armed. -/
theorem State.storeAll_armed (s : State) : s.storeAll.nvm.armed = s.nvm.armed := by
  have hf : Within [.regs, .q91, .rk, .scan, .est, .tele] s (s.flushJournals 5).counterSlot :=
    State.counterSlot_within (by decide) (State.flushJournals_within (by decide) (by decide) (by decide) (by decide) (by decide) .rfl)
  have hr : ∀ u : State, u.retainSlot.nvm.armed = u.nvm.armed := fun u => by
    unfold State.retainSlot
    split <;> rfl
  exact (hr _).trans (congrArg Nvm.armed (hf.nvm (by decide)))

/-! ## Confirmation and keys -/

section Confirm
variable {s : State}

/-- A confirmed image: its slot CURRENT, its trial over, no backup kept. -/
theorem State.confirm_spec (s : State) : s.confirm.nvm.boot.trial = false ∧ s.confirm.nvm.backup = none ∧
    s.confirm.nvm.boot.slot = s.nvm.boot.slot ∧ s.confirm.rd F.UPDATE_STATUS_TRIAL = 0 ∧
    s.confirm.rd (F.UPDATE_SLOT_STATE (s.nvm.boot.slot % 2)) = 4 ∧ s.confirm.bit (evtStatus 0x62) 4 = true := by
  unfold State.confirm
  extract_lets k h s1 n1 b1 s2 s3 s4 s5 s6
  have hk : k < 2 := Nat.mod_lt _ (by decide)
  have h1 : s2.rd (F.UPDATE_SLOT_STATE k) = 4 :=
    (State.rd_regs (State.mk_regs ..) _).trans (State.rd_wr _ (F.UPDATE_SLOT_STATE k) 4 (Nat.le_of_ble_eq_true rfl))
  have hn3 : s3.nvm = s2.nvm := by simp only [s3, State.wrB_nvm, State.wr_nvm]
  have ht3 : s3.rd F.UPDATE_STATUS_TRIAL = 0 := by
    simp (disch := decide) only [s3, State.rd_wrB_apart, State.rd_wr_apart, State.rd_wrB]
    rfl
  have hs3 : s3.rd (F.UPDATE_SLOT_STATE k) = 4 := by
    simp (disch := (simp only [Fld.apart_mk, Fld.fits_mk, Fld.width_mk]; omega)) only [s3, State.rd_wrB_apart, State.rd_wr_apart]
    exact h1
  have hw : OnlyWhere (fun a => a = 0x62074 ∨ a = 0x62010) s3 s6 := by
    have h4 : OnlyWhere (fun a => a = 0x62074 ∨ a = 0x62010) s3 s4 := .ite (OnlyWhere.refl.wr (.inl rfl)) .refl
    exact ((h4.wr (.inl rfl)).upd (u := s5.record 5 0x62 .confirmed [(k : Int)]) (State.record_regs ..)).raise (page := 0x62) (.inr rfl)
  have hn6 : s6.nvm = s2.nvm := by
    have hin : Within [.regs, .q91, .rk, .scan] s3 s6 := by
      refine State.raise_within (by decide) (by decide) (by decide) (by decide) (State.record_within (by decide) (State.wr_within (by decide) ?_))
      exact within_ite (State.wr_within (by decide) .rfl) .rfl
    exact (hin.nvm (by decide)).trans hn3
  have hb6 : s6.bit (evtStatus 0x62) 4 = true := State.bit_raise _ (by decide)
  rw [State.wr_nvm, hn6]
  refine ⟨rfl, rfl, rfl, ?_, ?_, ?_⟩
  · exact (State.rd_wr_apart _ (F.UPDATE_SLOT_STATE (1 - k)) F.UPDATE_STATUS_TRIAL _ (Nat.le_of_ble_eq_true rfl) (.inl (by simp only; omega))).trans
      ((hw.rd (by decide)).trans ht3)
  · exact (State.rd_wr_apart _ (F.UPDATE_SLOT_STATE (1 - k)) (F.UPDATE_SLOT_STATE k) _ (Nat.le_of_ble_eq_true rfl) (.inl (by simp only; omega))).trans
      ((hw.rd (f := F.UPDATE_SLOT_STATE k) (by simp only; omega)).trans hs3)
  · refine (State.bit_rd ?_ _).trans hb6
    exact State.rd_wr_apart _ (F.UPDATE_SLOT_STATE (1 - k)) (evtStatus 0x62) _ (Nat.le_of_ble_eq_true rfl) (.inl (by simp only [evtStatus_mk]; omega))

/-- The key that KEYDATA holds. -/
def State.keyData (s : State) : List Byte := (List.range 8).flatMap fun j => le 4 (s.word (A.UPDATE_KEYDATA j)).toNat

/-- A write of KEYSEL with WRITE: the key waits for the NOR window or is stored. -/
theorem State.keySel_write (s : State) (slot : Fin 4) : s.keySel (0x100 + slot.val) =
    if s.norPaused then { s.wr F.UPDATE_KEYSEL_SLOT slot.val with nvm := { s.nvm with keyWait := some (slot.val, s.keyData) } }
    else (s.wr F.UPDATE_KEYSEL_SLOT slot.val).storeKey slot.val s.keyData := by
  have hb : (0x100 + slot.val).testBit 8 = true := by
    rw [Nat.testBit_eq_decide_div_mod_eq]
    simp only [decide_eq_true_eq]
    omega
  have hm : (0x100 + slot.val) % 4 = slot.val := by omega
  have hw : s.wr F.UPDATE_KEYSEL_SLOT (0x100 + slot.val) = s.wr F.UPDATE_KEYSEL_SLOT slot.val := by
    rw [← State.wr_mod s _ (0x100 + slot.val), ← State.wr_mod s _ slot.val]
    exact congrArg _ (by simp only; omega)
  have hk : (s.wr F.UPDATE_KEYSEL_SLOT slot.val).keyData = s.keyData := by
    unfold State.keyData State.wr
    refine List.flatMap_congr fun j hj => ?_
    have hj' := List.mem_range.1 hj
    have hne : F.UPDATE_KEYSEL_SLOT.addr ≠ A.UPDATE_KEYDATA j := by
      change 0x6207C ≠ 0x62080 + 0x4 * j
      omega
    rw [State.word_setWord_ne _ _ hne]
  have hp : (s.wr F.UPDATE_KEYSEL_SLOT slot.val).norPaused = s.norPaused := by
    simp only [State.norPaused, State.almPaused, State.on]
    rw [State.mode_wr_apart _ _ (by decide) (by decide), State.rd_wr_apart _ _ _ _ (by decide) (by decide),
      State.rd_wr_apart _ _ _ _ (by decide) (by decide)]
  unfold State.keySel
  rw [hw, hm, if_neg (by simp [hb])]
  dsimp only
  rw [hp, ← State.keyData, hk, State.wr_nvm]

theorem State.storeKey_spec (s : State) {slot : Nat} (key : List Byte) : (s.storeKey slot key).nvm.keys.find? (·.1 == slot) = some (slot, key) ∧
    (s.storeKey slot key).nvm.keyWait = none ∧ (s.storeKey slot key).rd F.UPDATE_KEYSEL_SLOT = s.rd F.UPDATE_KEYSEL_SLOT ∧
    (s.storeKey slot key).bit (evtStatus 0x62) 7 = true := by
  refine ⟨find?_mins (mdel_ne _ _), rfl, ?_, State.bit_raise (s.record 5 0x62 .keyWritten [(slot : Int)]) (by decide)⟩
  exact (State.rd_regs (State.mk_regs ..) _).trans (State.rd_raise _ _ _ _ (by decide))

end Confirm

/-- Settles O56. -/
theorem updateActivation : Obligations.UpdateActivation := by
  refine ⟨fun who s hb hs ht ha hw h6 hu hc hm => ?_, fun who s hb hs ht ha hw hm => ?_, fun who s hb hs ht ha hw hm => ?_,
    fun who s hb hs ht ha hw hy hlo hhi => ?_, fun who act key s hb hk => ?_, fun who s hb ha => ?_, fun who s hb ha => ?_,
    fun who s hb hc => ?_, fun who slot s hb hp => ?_, fun who slot s hb hp => ?_, fun s ha hp => ?_, fun late s ha hm => ?_,
    fun late s ha hm hn => ?_, fun late s ha hm h6 ht hc => ?_, fun s hc hh => ?_, fun s ht => ?_, fun s ht hd => ?_, fun s ht hm hu => ?_,
    fun s => ⟨_, rfl, rfl⟩⟩
  · refine .of_eq rfl ((State.asWrite_ok _ _ _ _ hb).trans ((State.updateCmd_activate _ who 0 0x3CA5 (by decide)).trans
      ((State.activate_atOnce (by simpa using hs) (by simpa using ht) (by simpa using ha) (by simpa using hw)).trans
        (if_pos (State.mayActivate_of_mode (by simpa using hm)))))) ?_
    refine State.activateStart_restarts ?_ ?_ ?_ ?_
    · rw [State.rd_updResult _ _ (by decide) (by decide), State.rd_result]
      exact h6
    · rw [State.updResult_stg, State.result_stg]
      exact hu
    · rw [State.updResult_stg, State.result_stg]
      exact hc
    · rw [State.mode_updResult, State.mode_result]
      exact hm
  · refine .of_eq rfl ((State.asWrite_ok _ _ _ _ hb).trans ((State.updateCmd_activate _ who 0 0x3CA5 (by decide)).trans
      ((State.activate_atOnce (by simpa using hs) (by simpa using ht) (by simpa using ha) (by simpa using hw)).trans (if_neg (by simpa using hm))))) ?_
    obtain ⟨hr, -, hn⟩ := (s.result who A.UPDATE_CMD 0).updResult_spec 14
    exact ⟨hr, hn.trans (State.result_nvm ..), (State.mode_updResult ..).trans (State.mode_result ..)⟩
  · refine .of_eq rfl ((State.asWrite_ok _ _ _ _ hb).trans ((State.updateCmd_activate _ who 1 0x3CA5 (by decide)).trans
      (State.activate_nextReset (by simpa using hs) (by simpa using ht) (by simpa using ha) (by simpa using hw) (by simpa using hm)))) ?_
    obtain ⟨h1, h2, h3⟩ := (s.result who A.UPDATE_CMD 0).armed_spec
    exact ⟨h1, h2, rfl, congrArg some (State.otherSlot_result ..), h3.trans (State.mode_result ..)⟩
  · refine .of_eq rfl ((State.asWrite_ok _ _ _ _ hb).trans ((State.updateCmd_activate _ who 2 0x3CA5 (by decide)).trans
      (State.activate_jubilee (by simpa using hs) (by simpa using ht) (by simpa using ha) (by simpa using hw) (by simpa using hy)
        (by simpa using hlo) (by simpa using hhi)))) ?_
    obtain ⟨h1, h2, -⟩ := (s.result who A.UPDATE_CMD 0).armed_spec
    exact ⟨h1, h2, rfl, rfl⟩
  · refine .of_eq rfl ((State.asWrite_ok _ _ _ _ hb).trans ((State.updateCmd_activate _ who act key.val key.isLt).trans (if_neg hk))) ?_
    exact ⟨State.result_nvm .., State.onlyFields_result _ _ _ _⟩
  · have hd := State.disarm_spec (s := s.result who A.UPDATE_CMD 0) (by simpa using ha)
    obtain ⟨hr, -, hn⟩ := (s.result who A.UPDATE_CMD 0).disarm.updResult_spec 0
    refine .of_eq rfl ((State.asWrite_ok _ _ _ _ hb).trans (if_pos (by simpa using ha))) ⟨?_, ?_, ?_, ?_, hr⟩
    · rw [hn, hd.2]
    · rw [hn, hd.2]
    · rw [hn, hd.2]
    · exact (State.rd_updResult _ _ (by decide) (by decide)).trans hd.1
  · obtain ⟨hr, -, hn⟩ := (s.result who A.UPDATE_CMD 0).updResult_spec 11
    exact .of_eq rfl ((State.asWrite_ok _ _ _ _ hb).trans (if_neg (by simpa using ha))) ⟨hn.trans (State.result_nvm ..), hr⟩
  · obtain ⟨hr, -, hn⟩ := (s.result who A.UPDATE_CMD 0).updResult_spec 0
    have hx : (s.result who A.UPDATE_CMD 0).updateCmd who (0x40 + 65536 * 0x3CA5) 0 = { (s.result who A.UPDATE_CMD 0).updResult 0 with
        nvm := { ((s.result who A.UPDATE_CMD 0).updResult 0).nvm with hostOk := true } } := by
      rw [hn]
      exact if_pos (by simpa using hc)
    refine .of_eq rfl ((State.asWrite_ok _ _ _ _ hb).trans hx) ⟨?_, hr⟩
    change { ((s.result who A.UPDATE_CMD 0).updResult 0).nvm with hostOk := true } = _
    rw [hn, State.result_nvm]
  · have hx := State.keySel_write (s.result who A.UPDATE_KEYSEL 0) slot
    rw [if_neg (by simpa using hp)] at hx
    obtain ⟨h1, h2, h3, h4⟩ := ((s.result who A.UPDATE_KEYSEL 0).wr F.UPDATE_KEYSEL_SLOT slot.val).storeKey_spec (slot := slot.val)
      (s.result who A.UPDATE_KEYSEL 0).keyData
    have hk : (s.result who A.UPDATE_KEYSEL 0).keyData = s.keyData := by simp only [State.keyData, State.word, State.result_regs]
    refine .of_eq rfl ((State.asWrite_ok _ _ _ _ hb).trans hx) ⟨h1.trans (by rw [hk, State.keyData]), h2, h3.trans ?_, h4⟩
    exact (State.rd_wr _ _ _ (by decide)).trans (Nat.mod_eq_of_lt slot.isLt)
  · have hx := State.keySel_write (s.result who A.UPDATE_KEYSEL 0) slot
    have hk : (s.result who A.UPDATE_KEYSEL 0).keyData = s.keyData := by simp only [State.keyData, State.word, State.result_regs]
    rw [if_pos (by simpa using hp), hk] at hx
    refine .of_eq rfl ((State.asWrite_ok _ _ _ _ hb).trans hx) ?_
    change { (s.result who A.UPDATE_KEYSEL 0).nvm with keyWait := some (slot.val, s.keyData) } = _
    rw [State.result_nvm, State.keyData]
  · refine .of_eq rfl (if_pos (by simp [ha, hp])) ⟨rfl, ?_, ?_⟩
    · exact (State.storeAll_armed s).trans ha
    · exact State.mode_of_rdIs (State.storeAll_mode rfl)
  · exact .of_eq rfl ((if_neg (by simp [ha])).trans (if_pos hm)) ⟨rfl, rfl⟩
  · have hd := State.disarm_spec (s := s) (by simp [ha])
    have hx : s.jubilee late = ((s.disarm.wrB F.UPDATE_STATUS_MISSED true).raise 0x62 6).record 5 0x62 .jubileeMissed := by
      rw [State.jubilee, if_neg (by simp [ha]), if_neg hm, if_neg (by simp [hn])]
    refine .of_eq rfl hx ⟨?_, ?_, ?_, State.bit_raise _ (by decide)⟩
    · rw [State.record_nvm, State.raise_nvm, State.wrB_nvm, hd.2]
    · exact (State.rd_raise _ _ _ _ (by decide)).trans (State.rd_wrB _ _ _ (by decide) (by decide))
    · refine (State.rd_raise _ _ _ _ (by decide)).trans ?_
      rw [State.rd_wrB_apart _ _ _ _ (by decide) (by decide)]
      exact hd.1
  · have hh : s.mode ≠ .hold := by rcases hm with h | h | h <;> rw [h] <;> decide
    refine .of_eq rfl ((if_neg (by simp [ha])).trans ((if_neg hh).trans (if_pos (State.mayActivate_of_mode hm)))) ?_
    refine State.activateStart_restarts ?_ ?_ ?_ ?_
    · rw [State.rd_wrB_apart _ _ _ _ (by decide) (by decide)]
      exact h6
    · rw [State.wrB_stg]
      exact ht
    · rw [State.wrB_stg]
      exact hc
    · rw [State.mode_of_rd (State.rd_wrB_apart _ _ _ _ (by decide) (by decide))]
      exact hm
  · exact .of_eq rfl (if_pos (by simp [hc, hh])) s.confirm_spec
  · refine .of_eq rfl (if_pos ht) ⟨congrArg Nvm.boot (State.wr_nvm ..), (State.rd_wr _ F.UPDATE_WINDOW_LEFT _ (by decide)).trans ?_⟩
    exact congrArg (· % 2 ^ F.UPDATE_WINDOW_LEFT.width) (if_pos ht)
  · refine .of_eq rfl ((if_neg (by simp [ht])).trans (if_pos ?_)) ⟨rfl, rfl⟩
    rcases hd with h | ⟨h1, h2⟩
    · simp [h]
    · rcases h2 with h | h | h <;> simp [h1, h]
  · have hn : ¬ (s.stg.takeUp || (decide (s.rd F.PAIR_STATUS_ROLE < 2) && (s.mode == .connect || s.mode == .run || s.mode == .hold))) = true := by
      rcases hm with h | h | h <;> simp [hu, h]
    refine .of_eq rfl ((if_neg (by simp [ht])).trans (if_neg hn)) (State.updateReset_restarts ?_)
    have hw : Within [.regs, .q91, .est, .tele, .nvm] s s.fallbackStore :=
      State.fallbackStore_within (by decide) (by decide) (by decide) (by decide) (by decide) .rfl
    exact (congrArg Staging.takeUp (hw.stg (by decide))).trans hu

end Sys2Proof.Machine
end

section
/-!
O50: the schedules of the triggers and the queues of the captures.
-/
set_option Elab.async false
namespace Sys2Proof.Machine
open Sys2Proof

/-! ## Triggers -/

section Schedules
variable {s t : State} {k : Nat}

theorem State.bit_wrBit_set_ne (s : State) (f : Fld) {j i : Nat} (hf : f.fits) (hi : i < f.width) (h : j ≠ i) :
    (s.wrBit f j true).bit f i = s.bit f i := by
  simp only [State.bit, State.wrBit, if_true]
  rw [State.rd_wr _ _ _ hf, Nat.testBit_mod_two_pow, Nat.testBit_or, Nat.testBit_two_pow_of_ne h]
  simp [hi]

theorem State.trig_setTrig (s : State) (k : Nat) (x : Trig) : (s.setTrig k x).trig k = x := (mget_mset ..).trans (if_pos rfl)

theorem State.rd_setTrig (s : State) (k : Nat) (x : Trig) (f : Fld) : (s.setTrig k x).rd f = s.rd f := rfl

theorem State.trig_of_time (h : t.time = s.time) (k : Nat) : t.trig k = s.trig k := by rw [State.trig, State.trig, h]

/-- What the schedule of a trigger is read from does not change with its control register. -/
theorem State.trigStart_of_where (h : OnlyWhere (fun a => a = A.TRIG_TCTL k) s t) : t.trigStart k = s.trigStart k := by
  unfold State.trigStart
  rw [h.rd (f := F.TRIG_TSTART_SEC_LO_SEC_LO k) (by simp only [A.TRIG_TCTL]; omega), h.rd (f := F.TRIG_TSTART_SEC_HI_SEC_HI k) (by simp only [A.TRIG_TCTL]; omega),
    h.rd (f := F.TRIG_TSTART_NS_NS k) (by simp only [A.TRIG_TCTL]; omega)]

theorem State.edgesBy_of_where (h : OnlyWhere (fun a => a = A.TRIG_TCTL k) s t) (j : Nat) (now : Int) : t.edgesBy k j now = s.edgesBy k j now := by
  unfold State.edgesBy State.edgeAt
  rw [State.trigStart_of_where h, h.rd (f := F.TRIG_TPER_PERIOD_NS k) (by simp only [A.TRIG_TCTL]; omega)]

theorem State.armed_wrArm (s : State) (n : Nat) : (s.wr (F.TRIG_TCTL_ARM k) n).armed k = s.armed k :=
  State.bit_rd (State.rd_wr_apart _ (F.TRIG_TCTL_ARM k) _ _ (Nat.le_of_ble_eq_true rfl) (.inr (.inl (Nat.le_of_ble_eq_true rfl)))) 0

theorem State.armed_of_rd (h : t.rd (F.TRIG_TCTL_STAT k) = s.rd (F.TRIG_TCTL_STAT k)) : t.armed k = s.armed k := State.bit_rd h 0

theorem State.rd_statArm (s : State) (n : Nat) : (s.wr (F.TRIG_TCTL_STAT k) n).rd (F.TRIG_TCTL_ARM k) = s.rd (F.TRIG_TCTL_ARM k) :=
  State.rd_wr_apart _ (F.TRIG_TCTL_STAT k) _ _ (Nat.le_of_ble_eq_true rfl) (.inr (.inr (Nat.le_of_ble_eq_true rfl)))

theorem State.rd_stat (s : State) {n : Nat} (hn : n < 16) : (s.wr (F.TRIG_TCTL_STAT k) n).rd (F.TRIG_TCTL_STAT k) = n :=
  (State.rd_wr _ (F.TRIG_TCTL_STAT k) _ (Nat.le_of_ble_eq_true rfl)).trans (Nat.mod_eq_of_lt hn)

/-- The words of triggers and captures lie above the events of their page. -/
theorem State.rd_trigEvents (s : State) {f : Fld} (hf : 0x4A010 < f.addr) (bit : Nat) : (s.raise 0x4A bit).rd f = s.rd f :=
  s.rd_raise f _ _ (.inl (Nat.ne_of_lt hf))

/-- An idle train within the limits arms at the first edge to come. -/
theorem State.armTrigger_train (h0 : s.armed k = false) (hp : s.on (F.TRIG_TCFG_PERIODIC k) = true) (h1 : 1000 ≤ s.rd (F.TRIG_TPER_PERIOD_NS k))
    (h2 : 8 ≤ s.rd (F.TRIG_TWID_WIDTH_NS k)) (h3 : s.rd (F.TRIG_TWID_WIDTH_NS k) + 8 ≤ s.rd (F.TRIG_TPER_PERIOD_NS k)) :
    s.armTrigger k = ((s.wr (F.TRIG_TCTL_STAT k) 1).setTrig k {}).setTrig k
      { j := s.edgesBy k 0 (s.timeBase (s.rd (F.TRIG_TCFG_TB k))).nanos } := by
  unfold State.armTrigger
  extract_lets per wid train now u
  rw [if_neg (by simp [h0]), if_neg (by simp [per, wid]; omega), if_pos hp]
  have hu : OnlyWhere (fun a => a = A.TRIG_TCTL k) s u := (OnlyWhere.refl.wr (W := fun a => a = A.TRIG_TCTL k) (f := F.TRIG_TCTL_STAT k) (n := 1) rfl).upd rfl
  rw [State.edgesBy_of_where hu]

/-- A pulse that is too narrow is refused with WRERR. -/
theorem State.armTrigger_narrow (h0 : s.armed k = false) (h : s.rd (F.TRIG_TWID_WIDTH_NS k) < 8) :
    s.armTrigger k = s.wrBit (F.TRIG_TCTL_STAT k) 3 true := by
  unfold State.armTrigger
  rw [if_neg (by simp [h0])]
  exact if_pos (by simp [h])

/-- A single pulse whose time has passed shows PAST. -/
theorem State.armTrigger_past (h0 : s.armed k = false) (hp : s.on (F.TRIG_TCFG_PERIODIC k) = false) (h2 : 8 ≤ s.rd (F.TRIG_TWID_WIDTH_NS k))
    (h3 : s.trigStart k ≤ (s.timeBase (s.rd (F.TRIG_TCFG_TB k))).nanos) :
    s.armTrigger k = (((s.wr (F.TRIG_TCTL_STAT k) 1).setTrig k {}).wr (F.TRIG_TCTL_STAT k) 4).raise 0x4A (24 + k) := by
  unfold State.armTrigger
  extract_lets per wid train now u
  have hu : OnlyWhere (fun a => a = A.TRIG_TCTL k) s u := (OnlyWhere.refl.wr (W := fun a => a = A.TRIG_TCTL k) (f := F.TRIG_TCTL_STAT k) (n := 1) rfl).upd rfl
  have ht : train = false := hp
  rw [if_neg (by simp [h0]), if_neg (by simp [wid, ht]; omega), if_neg (by simp [ht]), State.trigStart_of_where hu, if_pos h3]

theorem State.trigDone_spec (s : State) (hk : k < 8) : (s.trigDone k).armed k = false ∧ (s.trigDone k).trig k = {} ∧
    (s.trigDone k).bit (evtStatus 0x4A) k = true := by
  unfold State.trigDone
  refine ⟨?_, (State.trig_of_time (State.raise_time ..) k).trans (State.trig_setTrig ..), State.bit_raise _ (by omega)⟩
  rw [State.armed_of_rd (State.rd_trigEvents _ (by simp only; omega) k)]
  exact State.bit_wrBit _ (F.TRIG_TCTL_STAT k) 0 false (Nat.le_of_ble_eq_true rfl) (by decide : 0 < 4)

/-- A leading edge begins the pulse of the next index, counted where the output is driven. -/
theorem State.leadingEdge_spec (s : State) (k : Nat) : (s.leadingEdge k).trig k = { s.trig k with j := (s.trig k).j + 1, high := true } ∧
    (s.leadingEdge k).rd (F.TRIG_TCNT_EDGES k) = (if s.trigDrives k then satCount (F.TRIG_TCNT_EDGES k).width (s.rd (F.TRIG_TCNT_EDGES k) + 1)
      else s.rd (F.TRIG_TCNT_EDGES k)) ∧ OnlyFields [F.TRIG_TCNT_EDGES k] s (s.leadingEdge k) := by
  unfold State.leadingEdge
  extract_lets x u
  have hu : u.trig k = { s.trig k with j := (s.trig k).j + 1, high := true } := State.trig_setTrig ..
  have hd : u.trigDrives k = s.trigDrives k := rfl
  rw [hd]
  split
  · exact ⟨(State.trig_of_time (State.bump_time ..) k).trans hu, State.rd_bump _ (F.TRIG_TCNT_EDGES k) _ (Nat.le_of_ble_eq_true rfl),
      (OnlyFields.of_regs (State.mk_regs ..)).bump _ (Nat.le_of_ble_eq_true rfl) (List.mem_singleton_self _)⟩
  · exact ⟨hu, rfl, .of_regs rfl⟩

end Schedules

/-! ## Captures -/

section Captures
variable {s t : State} {k : Nat}

theorem State.stamps_of_time (h : t.time = s.time) (k : Nat) : t.stamps k = s.stamps k := by rw [State.stamps, State.stamps, h]

/-- The queue of a capture input holds the list, FILL its length; the counters stay. -/
theorem State.setStamps_spec (s : State) (k : Nat) (l : List (Bool × TimeBase)) : (s.setStamps k l).stamps k = l ∧
    (s.setStamps k l).rd (F.TRIG_CSTAT_FILL k) = l.length % 16 ∧
    (s.setStamps k l).rd (F.TRIG_CCNT_CAPTURED k) = s.rd (F.TRIG_CCNT_CAPTURED k) := by
  unfold State.setStamps
  extract_lets src u
  have hu : u.stamps k = l := (mget_mset ..).trans (if_pos rfl)
  have hx : ∀ (rise : Bool) (b : TimeBase), OnlyWhere (fun a => (F.TRIG_CSTAT_FILL k).addr ≤ a ∧ a ≤ (F.TRIG_CHEADk_SEC_HI_SEC_HI k).addr) s
      ((((((u.wr (F.TRIG_CSTAT_FILL k) l.length).wrB (F.TRIG_CSTAT_HEAD_RISE k) rise).wr (F.TRIG_CHEADk_NS_NS k) b.ns).wr
        (F.TRIG_CHEADk_SEC_LO_SEC_LO k) b.sec).wr (F.TRIG_CHEADk_SEC_HI_SEC_HI k) (b.sec / 2 ^ 32))) := fun rise b => by
    have h0 : OnlyWhere (fun a => (F.TRIG_CSTAT_FILL k).addr ≤ a ∧ a ≤ (F.TRIG_CHEADk_SEC_HI_SEC_HI k).addr) s u := .of_regs (State.mk_regs ..)
    refine ((((h0.wr ?_).wrB ?_).wr ?_).wr ?_).wr ?_ <;> simp only <;> omega
  obtain ⟨rise, b⟩ := l.headD (false, {})
  refine ⟨?_, ?_, (hx rise b).rd (by simp only; omega)⟩
  · refine (State.stamps_of_time ?_ k).trans hu
    simp only [State.wr_time, State.wrB_time]
  · have hf : ∀ v : State, (((v.wr (F.TRIG_CHEADk_NS_NS k) b.ns).wr (F.TRIG_CHEADk_SEC_LO_SEC_LO k) b.sec).wr (F.TRIG_CHEADk_SEC_HI_SEC_HI k)
        (b.sec / 2 ^ 32)).rd (F.TRIG_CSTAT_FILL k) = v.rd (F.TRIG_CSTAT_FILL k) := fun v => by
      have h : OnlyWhere (fun a => (F.TRIG_CSTAT_FILL k).addr < a) v (((v.wr (F.TRIG_CHEADk_NS_NS k) b.ns).wr (F.TRIG_CHEADk_SEC_LO_SEC_LO k) b.sec).wr
          (F.TRIG_CHEADk_SEC_HI_SEC_HI k) (b.sec / 2 ^ 32)) := by
        refine ((OnlyWhere.refl.wr ?_).wr ?_).wr ?_ <;> simp only <;> omega
      exact h.rd (by simp only; omega)
    refine (hf _).trans ((State.rd_wrB_apart _ (F.TRIG_CSTAT_HEAD_RISE k) (F.TRIG_CSTAT_FILL k) _ (Nat.le_of_ble_eq_true rfl)
      (.inr (.inr (Nat.le_of_ble_eq_true rfl)))).trans ?_)
    exact State.rd_wr _ (F.TRIG_CSTAT_FILL k) _ (Nat.le_of_ble_eq_true rfl)

/-- An edge with room in the queue is queued and counted. -/
theorem State.captureEdge_room (rise : Bool) (b : TimeBase) (hk : k < 8) (h : (s.stamps k).length < 8) :
    (s.captureEdge k rise b).stamps k = s.stamps k ++ [(rise, b)] ∧ (s.captureEdge k rise b).rd (F.TRIG_CSTAT_FILL k) = (s.stamps k).length + 1 ∧
    (s.captureEdge k rise b).rd (F.TRIG_CCNT_CAPTURED k) = satCount (F.TRIG_CCNT_CAPTURED k).width (s.rd (F.TRIG_CCNT_CAPTURED k) + 1) ∧
    (s.captureEdge k rise b).bit (evtStatus 0x4A) (8 + k) = true := by
  obtain ⟨h1, h2, h3⟩ := State.setStamps_spec s k (s.stamps k ++ [(rise, b)])
  unfold State.captureEdge
  extract_lets l
  rw [if_neg (by simp only [l]; omega)]
  refine ⟨?_, ?_, ?_, State.bit_raise _ (by omega)⟩
  · exact (State.stamps_of_time ((State.raise_time ..).trans (State.bump_time ..)) k).trans h1
  · rw [State.rd_trigEvents _ (by simp only; omega), State.rd_bump_apart _ (F.TRIG_CCNT_CAPTURED k) (F.TRIG_CSTAT_FILL k) _ (Nat.le_of_ble_eq_true rfl)
      (.inl (by simp only; omega)), h2, List.length_append, List.length_singleton]
    exact Nat.mod_eq_of_lt (Nat.lt_of_lt_of_le (Nat.succ_lt_succ h) (by decide))
  · rw [State.rd_trigEvents _ (by simp only; omega), State.rd_bump _ (F.TRIG_CCNT_CAPTURED k) _ (Nat.le_of_ble_eq_true rfl), h3]

/-- An edge that finds the queue full is dropped and counted, with OVF. -/
theorem State.captureEdge_full (rise : Bool) (b : TimeBase) (hk : k < 8) (h : 8 ≤ (s.stamps k).length) :
    (s.captureEdge k rise b).time = s.time ∧ (s.captureEdge k rise b).rd (F.TRIG_CSTAT_OVF k) = 1 ∧
    (s.captureEdge k rise b).rd (F.TRIG_CCNT_DROPPED k) = satCount (F.TRIG_CCNT_DROPPED k).width (s.rd (F.TRIG_CCNT_DROPPED k) + 1) ∧
    (s.captureEdge k rise b).bit (evtStatus 0x4A) (16 + k) = true := by
  unfold State.captureEdge
  extract_lets l
  rw [if_pos h]
  refine ⟨by simp only [State.raise_time, State.wrB_time, State.bump_time], ?_, ?_, State.bit_raise _ (by omega)⟩
  · rw [State.rd_trigEvents _ (by simp only; omega)]
    exact State.rd_wrB _ (F.TRIG_CSTAT_OVF k) true (Nat.le_of_ble_eq_true rfl) (by decide : (1 : Nat) ≠ 0)
  · rw [State.rd_trigEvents _ (by simp only; omega), State.rd_wrB_apart _ (F.TRIG_CSTAT_OVF k) (F.TRIG_CCNT_DROPPED k) _ (Nat.le_of_ble_eq_true rfl)
      (.inl (by simp only; omega)), State.rd_bump _ (F.TRIG_CCNT_DROPPED k) _ (Nat.le_of_ble_eq_true rfl)]

end Captures

section Control
variable {s : State} {who : Initiator} {k : Nat}

/-- The state on which a write of TCTL that nothing bars acts: its ARM bit is written. -/
def State.armWritten (s : State) (who : Initiator) (k n : Nat) : State := (s.result who (A.TRIG_TCTL k) 0).wr (F.TRIG_TCTL_ARM k) n

theorem State.trigCtl_arm (s : State) (who : Initiator) (k : Nat) :
    (s.result who (A.TRIG_TCTL k) 0).trigCtl k 1 = (s.armWritten who k 1).armTrigger k := by
  unfold State.trigCtl
  rw [if_pos rfl]
  rfl

theorem State.trigCtl_disarm (s : State) (who : Initiator) (k : Nat) :
    (s.result who (A.TRIG_TCTL k) 0).trigCtl k 0 = (s.armWritten who k 0).disarmTrigger k := by
  unfold State.trigCtl
  rw [if_neg (by decide)]
  rfl

theorem State.armWritten_where (n : Nat) : OnlyWhere (fun a => a = A.TRIG_TCTL k) s (s.armWritten who k n) :=
  OnlyWhere.wr (.of_regs (State.result_regs ..)) rfl

theorem State.armWritten_armed (n : Nat) : (s.armWritten who k n).armed k = s.armed k :=
  (State.armed_wrArm _ n).trans (State.bit_result ..)

theorem State.armWritten_time (n : Nat) : (s.armWritten who k n).time = s.time := (State.wr_time ..).trans (State.result_time ..)

theorem State.armWritten_periodic (n : Nat) : (s.armWritten who k n).on (F.TRIG_TCFG_PERIODIC k) = s.on (F.TRIG_TCFG_PERIODIC k) := by
  rw [State.on, State.on, (State.armWritten_where n).rd (f := F.TRIG_TCFG_PERIODIC k) (by simp only [A.TRIG_TCTL]; omega)]

theorem State.armWritten_width (n : Nat) : (s.armWritten who k n).rd (F.TRIG_TWID_WIDTH_NS k) = s.rd (F.TRIG_TWID_WIDTH_NS k) :=
  (State.armWritten_where n).rd (by simp only [A.TRIG_TCTL]; omega)

theorem State.armWritten_period (n : Nat) : (s.armWritten who k n).rd (F.TRIG_TPER_PERIOD_NS k) = s.rd (F.TRIG_TPER_PERIOD_NS k) :=
  (State.armWritten_where n).rd (by simp only [A.TRIG_TCTL]; omega)

theorem State.armWritten_now (n : Nat) : (s.armWritten who k n).timeBase ((s.armWritten who k n).rd (F.TRIG_TCFG_TB k)) =
    s.timeBase (s.rd (F.TRIG_TCFG_TB k)) := by
  rw [(State.armWritten_where n).rd (f := F.TRIG_TCFG_TB k) (by simp only [A.TRIG_TCTL]; omega), State.timeBase, State.timeBase, State.armWritten,
    State.wr_tb, State.result_tb]

/-- DISARM of an armed train ends it between pulses and lets a pulse end. -/
theorem State.disarmTrigger_train (h0 : s.armed k = true) (hp : s.on (F.TRIG_TCFG_PERIODIC k) = true) :
    s.disarmTrigger k = if (s.trig k).high then s.setTrig k { s.trig k with ending := true } else s.trigDone k :=
  if_pos (by rw [h0, hp]; rfl)

end Control

/-- Settles O50: a write, an edge or a captured edge acts on one trigger or one queue, and its registers show it. -/
theorem triggersAndCaptures : Obligations.TriggersAndCaptures := by
  refine ⟨fun who k s hb h0 hp h1 h2 h3 => ?_, fun who k s hb h0 h => ?_, fun who k s hb h0 hp h2 h3 => ?_, fun who k s hb h0 hp hh => ?_,
    fun who k s hb h0 hp hh => ?_, fun k s h0 hh he hp => ?_, fun k s h0 hh h => ?_, fun k s h0 hh hp he => ?_, fun k held dev s hs hh hl => ?_,
    fun k held dev s hs hh hl => ?_, fun k held rise dev s hh => ?_, fun who k s hb => ?_⟩
  · refine .of_asWrite rfl hb ?_
    rw [State.trigCtl_arm, State.armTrigger_train (by rwa [State.armWritten_armed]) (by rwa [State.armWritten_periodic])
      (by rwa [State.armWritten_period]) (by rwa [State.armWritten_width]) (by rwa [State.armWritten_width, State.armWritten_period]),
      State.armWritten_now, State.edgesBy_of_where (State.armWritten_where 1)]
    rw [State.rd_setTrig, State.rd_setTrig, State.rd_stat _ (by decide), State.rd_setTrig, State.rd_setTrig, State.rd_statArm]
    refine ⟨rfl, ?_, State.trig_setTrig ..⟩
    exact State.rd_wr _ (F.TRIG_TCTL_ARM k.val) 1 (Nat.le_of_ble_eq_true rfl)
  · refine .of_asWrite rfl hb ?_
    rw [State.trigCtl_arm, State.armTrigger_narrow (by rwa [State.armWritten_armed]) (by rwa [State.armWritten_width])]
    refine ⟨State.bit_wrBit _ (F.TRIG_TCTL_STAT k.val) 3 true (Nat.le_of_ble_eq_true rfl) (by decide : 3 < 4), ?_,
      (State.wr_time ..).trans (State.armWritten_time 1)⟩
    refine (State.bit_wrBit_set_ne _ (F.TRIG_TCTL_STAT k.val) (Nat.le_of_ble_eq_true rfl) (by decide : 0 < 4) (by decide : 3 ≠ 0)).trans ?_
    exact (State.armWritten_armed 1).trans h0
  · refine .of_asWrite rfl hb ?_
    rw [State.trigCtl_arm, State.armTrigger_past (by rwa [State.armWritten_armed]) (by rwa [State.armWritten_periodic]) (by rwa [State.armWritten_width])
      (by rwa [State.armWritten_now, State.trigStart_of_where (State.armWritten_where 1)])]
    refine ⟨?_, State.bit_raise _ (by omega)⟩
    rw [State.rd_trigEvents _ (by simp only; omega), State.rd_stat _ (by decide)]
  · refine .of_asWrite rfl hb ?_
    rw [State.trigCtl_disarm, State.disarmTrigger_train (by rwa [State.armWritten_armed]) (by rwa [State.armWritten_periodic]),
      State.trig_of_time (State.armWritten_time 0), if_neg (by simp [hh])]
    exact State.trigDone_spec _ k.isLt
  · refine .of_asWrite rfl hb ?_
    rw [State.trigCtl_disarm, State.disarmTrigger_train (by rwa [State.armWritten_armed]) (by rwa [State.armWritten_periodic]),
      State.trig_of_time (State.armWritten_time 0), if_pos hh]
    exact ⟨State.trig_setTrig .., (State.armWritten_armed 0).trans h0⟩
  · have hx : exec (.leadingEdge k) s = .next (s.leadingEdge k.val) := if_pos (by
      obtain hp | hp := hp <;> simp [h0, hh, he, hp])
    exact .of_eq hx rfl (State.leadingEdge_spec s k.val)
  · have hx : exec (.trailingEdge k) s = .next (s.trigDone k.val) := by
      refine (if_pos (by rw [h0, hh]; rfl)).trans (if_pos ?_)
      obtain h | h := h <;> simp [h]
    exact .of_eq hx rfl (State.trigDone_spec s k.isLt)
  · have hx : exec (.trailingEdge k) s = .next (s.setTrig k.val { s.trig k.val with high := false }) :=
      (if_pos (by rw [h0, hh]; rfl)).trans (if_neg (by simp [hp, he]))
    exact .of_eq hx rfl ⟨State.trig_setTrig .., rfl⟩
  · have hx : exec (.captureEdge k true held dev) s = .next (s.captureEdge k.val true (TimeBase.ofTotal
        ((s.timeBase (s.rd (F.TRIG_CCFG_TB k.val))).total + clampI dev (-5) 5 * 2 ^ 48))) := if_pos (by simp [hs, hh])
    exact .of_eq hx rfl (State.captureEdge_room true _ k.isLt hl)
  · have hx : exec (.captureEdge k false held dev) s = .next (s.captureEdge k.val false (TimeBase.ofTotal
        ((s.timeBase (s.rd (F.TRIG_CCFG_TB k.val))).total + clampI dev (-5) 5 * 2 ^ 48))) := if_pos (by simp [hs, hh])
    exact .of_eq hx rfl (State.captureEdge_full false _ k.isLt hl)
  · have hx : exec (.captureEdge k rise held dev) s = .next s := if_neg (by simp [Nat.not_le.mpr hh])
    exact .of_eq hx rfl rfl
  · refine .of_asWrite rfl hb ?_
    obtain ⟨h1, h2, -⟩ := State.setStamps_spec (s.result who (A.TRIG_CSTAT k.val) 0) k.val (s.stamps k.val).tail
    unfold State.popStamp
    rw [State.stamps_of_time (State.result_time s who _)]
    exact ⟨h1, h2⟩

end Sys2Proof.Machine
end

section
/-!
O21: the sessions of Ralkiul.
-/
set_option Elab.async false
namespace Sys2Proof.Machine
open Sys2Proof

section Sessions
variable {s t : State} {i : Nat}

theorem State.rkSession_setRk (s : State) (i : Nat) (x : RkSession) : (s.setRk i x).rkSession i = x := (mget_mset ..).trans (if_pos rfl)

theorem State.rkSession_of_rk (h : t.rk = s.rk) (i : Nat) : t.rkSession i = s.rkSession i := by rw [State.rkSession, State.rkSession, h]

theorem State.regs_setRk (s : State) (i : Nat) (x : RkSession) : (s.setRk i x).regs = s.regs := rfl

/-- A message sent in a session takes its next SEQ and changes no more of it. -/
theorem State.rkSend_spec (s : State) (i typ req : Nat) (payload : List Byte) :
    (s.rkSend i typ req payload).rkSession i = { s.rkSession i with txSeq := ((s.rkSession i).txSeq + 1) % 2 ^ 32 } ∧
    (s.rkSend i typ req payload).out.length = s.out.length + 1 ∧ (s.rkSend i typ req payload).regs = s.regs ∧
    (s.rkSend i typ req payload).free = s.free := by
  unfold State.rkSend
  extract_lets x m t
  refine ⟨(State.rkSession_of_rk (State.send_rk ..) i).trans (State.rkSession_setRk ..), ?_, rfl, rfl⟩
  exact List.length_append.trans rfl

theorem State.showRk_fields (s : State) : OnlyFields [F.ETH_RK_STAT_OPEN 0, F.ETH_RK_STAT_OPEN 1] s s.showRk :=
  (OnlyFields.refl.wr _ (by decide) (by decide)).wr _ (by decide) (by decide)

theorem State.showRk_rk (s : State) : s.showRk.rk = s.rk := by
  unfold State.showRk
  simp only [State.wr_rk]

/-- A sound message of its TYPE on a port that runs Ralkiul is handled. -/
theorem State.rkReceive_sound {p typ dst : Nat} {b : List Byte} {k : State → State} (hup : s.ipUp p = true) (hen : s.on (F.ETH_RK_CFG_RK_EN p) = true)
    (hudp : s.rd (F.ETH_RK_CFG_UDP_PORT p) = dst) (hb : rkSound b = true) (ht : beAt b 3 1 = typ) : s.rkReceive p typ dst b k = k s := by
  unfold State.rkReceive
  rw [if_neg (by simp [hup, hen, hudp]), if_neg (by simp [hb]), if_neg (by simp [ht])]

/-- A tagged message from the session's address with a higher SEQ is handled, with its SEQ kept. -/
theorem State.rkInSession_sound {p typ ip port dst : Nat} {b : List Byte} {i : Fin 8} {k : Fin 8 → State → State} (hup : s.ipUp p = true)
    (hen : s.on (F.ETH_RK_CFG_RK_EN p) = true) (hudp : s.rd (F.ETH_RK_CFG_UDP_PORT p) = dst) (hb : rkSound b = true) (ht : beAt b 3 1 = typ)
    (hi : beAt b 4 1 = 0x10 + i.val) (ho : (s.rkSession i.val).openState = 2) (htag : rkTag b = tag 16 (s.rkSession i.val).key (rkBody b))
    (hip : (s.rkSession i.val).address = ip) (hport : (s.rkSession i.val).udpPort = port) (hseq : (s.rkSession i.val).lastSeq < beAt b 8 4) :
    s.rkInSession p typ ip port dst b k = k i (s.setRk i.val { s.rkSession i.val with lastSeq := beAt b 8 4 }) := by
  have hlt := i.isLt
  have hsub : beAt b 4 1 - 0x10 = i.val := by omega
  have hknown : s.rkKnown b = true := by
    unfold State.rkKnown
    simp only [hsub, ho, htag]
    simp
    omega
  unfold State.rkInSession
  rw [State.rkReceive_sound hup hen hudp hb ht]
  simp only [hsub]
  rw [dif_pos hlt, if_neg (by simp [hknown]), if_neg (by simp [hip, hport, hseq])]

/-- A session that closes is free; where it owns no staging only the counts of open sessions change. -/
theorem State.rkClose_spec (s : State) (i : Nat) : (s.rkClose i).rkSession i = {} ∧ (s.rd F.CROWN_STAGE_OWNER_SESSION ≠ 0x10 + i →
    OnlyFields [F.ETH_RK_STAT_OPEN 0, F.ETH_RK_STAT_OPEN 1] s (s.rkClose i)) := by
  have hf : OnlyFields [F.ETH_RK_STAT_OPEN 0, F.ETH_RK_STAT_OPEN 1] s (s.setRk i {}).showRk :=
    (OnlyFields.of_regs (s.regs_setRk i {})).trans (State.showRk_fields _)
  refine ⟨?_, fun h => ?_⟩
  · have hw : Within [.regs, .staged, .shadow, .stg, .scan] (s.setRk i {}).showRk (s.rkClose i) :=
      State.ownerGone_within (by decide) (by decide) (by decide) (by decide) (by decide) .rfl
    rw [State.rkSession_of_rk ((hw.rk (by decide)).trans (State.showRk_rk _))]
    exact State.rkSession_setRk ..
  · have ho : (s.setRk i {}).showRk.rd F.CROWN_STAGE_OWNER_SESSION ≠ 0x10 + i := by
      rw [hf.rd (by decide)]
      exact h
    have hc : s.rkClose i = (s.setRk i {}).showRk := if_neg (by simp [ho])
    rw [hc]
    exact hf

end Sessions

/-- The session that an OPEN takes, with the nonce of its challenge. -/
def challenged (p : Fin 2) (ip : BitVec 32) (udp : UdpPorts) (b mn : List Byte) : RkSession :=
  { openState := 1, clientNonce := rkPayload b, moduleNonce := mn, address := ip.toNat, udpPort := udp.src.toNat, eth := p.val }

/-- The session that a PROOF opens, from its challenged session x. -/
def State.proved (s : State) (p : Fin 2) (ip : BitVec 32) (udp : UdpPorts) (b : List Byte) (x : RkSession) : RkSession :=
  { openState := 2, secure := beAt b 16 1 == 1, key := hmac (s.key (beAt b 16 1)) (x.clientNonce ++ x.moduleNonce), lastSeq := beAt b 8 4,
    txSeq := x.txSeq, address := ip.toNat, udpPort := udp.src.toNat, eth := p.val, subscribed := (beAt b 5 1).testBit 0 }

/-- Settles O21: a sound message acts on the one session it names, whose record the answer keeps. -/
theorem ralkiulSessions : Obligations.RalkiulSessions := by
  refine ⟨fun p ip udp b i s hup hen hudp hb ht h0 htag hlen hfree => ?_, fun p ip udp b i s hup hen hudp hb ht hi ho hw hn htag => ?_,
    fun p ip udp b i s hup hen hudp hb ht hi ho htag hip hport hseq => ?_, fun p ip udp b i s hup hen hudp hb ht hi ho htag hip hport hseq => ?_,
    fun p ip udp b i s hup hen hudp hb ht hi ho htag hip hport hseq => ?_, fun i s ho => ?_, fun i s ho => ?_, fun i s ho hn => ?_,
    fun i s ho hn => ?_⟩
  · obtain ⟨h1, h2, h3, h4⟩ := State.rkSend_spec (s.freshNonce.2.setRk i.val (challenged p ip udp b s.freshNonce.1)) i.val 0x02 (beAt b 12 4)
      s.freshNonce.1
    rw [State.rkSession_setRk] at h1
    refine .of_eq rfl ((State.rkReceive_sound hup hen hudp hb ht).trans ?_) ⟨?_, ?_, h4.trans rfl, h2, h3⟩
    · rw [if_neg (by simp only [h0, htag]; decide), if_neg (by simp [hlen]), hfree]
      rfl
    · rw [h1]
      rfl
    · rw [h1]
      rfl
  · have hlt := i.isLt
    have hsub : beAt b 4 1 - 0x10 = i.val := by omega
    obtain ⟨h1, -, h3, -⟩ := State.rkSend_spec (s.setRk i.val (s.proved p ip udp b (s.rkSession i.val))) i.val 0x04 (beAt b 12 4) []
    rw [State.rkSession_setRk] at h1
    refine .of_eq rfl ((State.rkReceive_sound hup hen hudp hb ht).trans ?_) ?_
      (t := ((s.setRk i.val (s.proved p ip udp b (s.rkSession i.val))).rkSend i.val 0x04 (beAt b 12 4) []).showRk)
    · simp only [hsub]
      rw [if_neg (by simp [ho]; omega), if_neg (by simp [hn, htag]; omega)]
      rfl
    · rw [State.rkSession_of_rk (State.showRk_rk _), h1]
      exact ⟨rfl, rfl, rfl, rfl, (OnlyFields.of_regs h3).trans (State.showRk_fields _)⟩
  · refine .of_eq rfl (State.rkInSession_sound hup hen hudp hb ht hi ho htag hip hport hseq) ?_
    rw [State.rkSession_setRk, State.rkSession_setRk]
    exact ⟨rfl, rfl, rfl, rfl⟩
  · exact .of_eq rfl (State.rkInSession_sound hup hen hudp hb ht hi ho htag hip hport hseq) ⟨State.rkSession_setRk .., rfl⟩
  · refine .of_eq rfl (State.rkInSession_sound hup hen hudp hb ht hi ho htag hip hport hseq) ?_
    obtain ⟨h1, h2⟩ := State.rkClose_spec (s.setRk i.val { s.rkSession i.val with lastSeq := beAt b 8 4 }) i.val
    exact ⟨h1, fun h => (OnlyFields.of_regs (State.regs_setRk ..)).trans (h2 h)⟩
  · exact .of_eq rfl (if_pos ho) ⟨State.rkSession_setRk .., rfl⟩
  · exact .of_eq rfl (if_pos ho) (State.rkClose_spec s i.val)
  · obtain ⟨l, hl⟩ := Option.ne_none_iff_exists'.mp ho
    obtain ⟨h1, h2, h3, -⟩ := State.rkSend_spec (s.setRk i.val { s.rkSession i.val with notifyTries := (s.rkSession i.val).notifyTries + 1 }) i.val 0x20 0
      (notifyBytes l)
    have hx : exec (.notifyRetry i) s = .next ((s.setRk i.val { s.rkSession i.val with notifyTries := (s.rkSession i.val).notifyTries + 1 }).rkSend
        i.val 0x20 0 (notifyBytes l)) := by
      change execNotifyRetry i s = _
      unfold execNotifyRetry
      simp only [hl]
      exact if_pos hn
    refine .of_eq hx rfl ⟨?_, h2, h3⟩
    rw [h1, State.rkSession_setRk]
  · obtain ⟨l, hl⟩ := Option.ne_none_iff_exists'.mp ho
    have hx : exec (.notifyRetry i) s = .next ((s.setRk i.val { s.rkSession i.val with outstanding := none, notifyTries := 4 }).wrB
        (F.ETH_RK_STAT_NOTIFY_LOST (s.rkSession i.val).eth) true) := by
      change execNotifyRetry i s = _
      unfold execNotifyRetry
      simp only [hl]
      exact if_neg (Nat.not_lt.mpr hn)
    refine .of_eq hx rfl ⟨?_, State.rd_wrB _ _ _ (Nat.le_of_ble_eq_true rfl) (by decide : (1 : Nat) ≠ 0), ?_⟩
    · rw [State.rkSession_of_rk (State.wrB_rk ..), State.rkSession_setRk]
    · exact (OnlyFields.of_regs (State.regs_setRk ..)).wrB _ (Nat.le_of_ble_eq_true rfl) (List.mem_singleton_self _)

end Sys2Proof.Machine
end

section
/-!
O18: the register transactions of the host port.
-/
set_option Elab.async false
namespace Sys2Proof.Machine
open Sys2Proof

/-! ## Results and refusals -/

section Results
variable (s : State) (who : Initiator) (a c : Nat)

theorem State.result_status : (s.result who a c).host.status = s.host.status := by
  cases who with
  | host =>
    simp only [State.result]
    split <;> rfl
  | ralkiul | service | scanProgram | dispatch | pairLink => rfl

theorem State.result_held : (s.result who a c).host.held = s.host.held := by
  cases who with
  | host =>
    simp only [State.result]
    split <;> rfl
  | ralkiul | service | scanProgram | dispatch | pairLink => rfl

/-- A cross-world access changes only when the host port's record last noted one. -/
theorem State.crossWorld_host (w : Bool) : ∃ x y, (s.crossWorld who a w).host = { s.host with xwSec := x, xwSkipped := y } := by
  cases hd : s.xwDue who with
  | false => exact ⟨_, _, by rw [State.crossWorld_of_not_due a w hd, State.mk_host]⟩
  | true =>
    simp only [State.crossWorld]
    rw [← State.xwShown, State.xwShown_host, State.xwShown_mono]
    simp only [State.xwDue] at hd
    cases hf : s.host.xwSec.find? (·.1 == who.id) with
    | none => exact ⟨_, _, State.mk_host ..⟩
    | some e =>
      rw [hf] at hd
      have hold : ¬ s.mono < e.2 + 1000000000 := Nat.not_lt.2 (of_decide_eq_true hd)
      simp only [if_neg hold]
      exact ⟨_, _, rfl⟩

theorem State.crossWorld_status (w : Bool) : (s.crossWorld who a w).host.status = s.host.status := by
  obtain ⟨x, y, h⟩ := State.crossWorld_host s who a w
  rw [h]

theorem State.crossWorld_held (w : Bool) : (s.crossWorld who a w).host.held = s.host.held := by
  obtain ⟨x, y, h⟩ := State.crossWorld_host s who a w
  rw [h]

theorem State.refuseAccess_status (w : Bool) : (s.refuseAccess who a w c).host.status = s.host.status := by
  unfold State.refuseAccess
  extract_lets t
  split
  · exact (State.crossWorld_status ..).trans (State.result_status ..)
  · exact State.result_status ..

theorem State.refuseAccess_held (w : Bool) : (s.refuseAccess who a w c).host.held = s.host.held := by
  unfold State.refuseAccess
  extract_lets t
  split
  · exact (State.crossWorld_held ..).trans (State.result_held ..)
  · exact State.result_held ..

/-- The fields that show a refused access (R90, R108). -/
def refusalFields : List Fld := [F.HOST_LAST_ERR_CODE, F.HOST_LAST_ERR_ADDR, F.WORLD_XW_COUNT_COUNT, F.WORLD_XW_LAST_ADDR, F.WORLD_XW_LAST_WRITE,
  F.WORLD_XW_LAST_SESSION]

theorem State.refuseAccess_fields (w : Bool) : OnlyFields refusalFields s (s.refuseAccess who a w c) := by
  have hr : OnlyFields refusalFields s (s.result who a c) := (State.onlyFields_result s who a c).mono (by decide)
  unfold State.refuseAccess
  extract_lets t
  refine .ite (hr.trans fun g hg => (State.rd_crossWorld ..).trans ?_) hr
  exact State.onlyFields_xwShown w g fun f hf => hg f (List.mem_append_right [F.HOST_LAST_ERR_CODE, F.HOST_LAST_ERR_ADDR] hf)

theorem State.refuseAccess_accErr (w : Bool) : (s.refuseAccess who a w c).accErr = c := by
  have hw : Within [.regs, .q91, .host] (s.result who a c) ((s.result who a c).crossWorld who a w) :=
    State.crossWorld_within (by decide) (by decide) (by decide) .rfl
  unfold State.refuseAccess
  extract_lets t
  split
  · exact (hw.accErr (by decide)).trans (State.result_accErr ..)
  · exact State.result_accErr ..

end Results

/-! ## Reads -/

section Reads
variable {s : State} {who : Initiator} {a : Nat}

/-- What a register reads as does not depend on the result shown, nor on what was read before. -/
theorem State.readValue_shown (s : State) (who : Initiator) (a : Nat) (l : List Word) (e c : Nat) :
    ({ s with accErr := e, host := { s.host with err := c }, readData := l } : State).readValue who a = s.readValue who a := rfl

theorem State.readReg_refused (h : s.barred who a false ≠ 0) :
    s.readReg who a = { s.refuseAccess who a false (s.barred who a false) with readData := [0] } := by
  have hc : s.readCode who a = s.barred who a false := if_pos h
  unfold State.readReg
  simp only [hc]
  exact if_pos h

/-- A read of a live register that nothing bars answers the value that it reads as. -/
theorem State.readReg_live (h : s.barred who a false = 0) (ho : a % 4096 < 0x800) (hp : a ≠ A.SCAN_PROG_LIVE) :
    s.readReg who a = { (s.result who a 0).readEffect a with readData := [((s.result who a 0).readEffect a).readValue who a] } := by
  have hc : s.readCode who a = 0 := by
    have ho' : ¬ offOf a ≥ 0x800 := Nat.not_le.2 ho
    simp [State.readCode, h, ho']
  unfold State.readReg
  extract_lets c t u
  rw [if_neg (not_not.2 hc), if_neg hp]

theorem State.readReg_status (s : State) (who : Initiator) (a : Nat) : (s.readReg who a).host.status = s.host.status := by
  have hw : Within [.regs, .readData, .tele] (s.result who a 0) ((s.result who a 0).readEffect a) :=
    State.readEffect_within (by decide) (by decide) (by decide) .rfl
  unfold State.readReg
  extract_lets c t u
  split
  · exact State.refuseAccess_status ..
  · exact (congrArg HostPort.status (hw.host (by decide))).trans (State.result_status ..)

theorem State.readWords_spec (who : Initiator) (a n k : Nat) (s : State) : (State.readWords who a n k s).2.1.length = n ∧
    (State.readWords who a n k s).1.host.status = s.host.status := by
  induction n generalizing k s with
  | zero => exact ⟨rfl, rfl⟩
  | succ n ih =>
    rw [State.readWords]
    split
    rename_i u w c hu
    have hs : u.host.status = s.host.status := by
      split at hu
      · cases hu
        rfl
      · cases hu
        exact State.readReg_status ..
    obtain ⟨h1, h2⟩ := ih (k + 1) u
    exact ⟨congrArg (· + 1) h1, h2.trans hs⟩

/-- What a host read of one word leaves (R95). -/
def State.hostWord (s : State) (a : Nat) : State :=
  { (s.hostBegin.readReg .host a).hostEnd a (s.hostBegin.readReg .host a).accErr with readData := [(s.hostBegin.readReg .host a).readData.headD 0] }

theorem State.hostWord_status (s : State) (a : Nat) : (s.hostWord a).host.status = s.statusWord :=
  (State.result_status ..).trans (State.readReg_status ..)

theorem State.hostWord_live (h : s.barred .host a false = 0) (ho : a % 4096 < 0x800) (hp : a ≠ A.SCAN_PROG_LIVE) :
    (s.hostWord a).readData = [(s.hostWord a).readValue .host a] ∧ (s.hostWord a).host.err = 0 := by
  have hw : Within [.regs, .readData, .tele] (s.hostBegin.result .host a 0) ((s.hostBegin.result .host a 0).readEffect a) :=
    State.readEffect_within (by decide) (by decide) (by decide) .rfl
  have hcode : ((s.hostBegin.result .host a 0).readEffect a).accErr = 0 := (hw.accErr (by decide)).trans (State.result_accErr ..)
  have hv := ((s.hostBegin.result .host a 0).readEffect a).readValue_shown .host a
    [((s.hostBegin.result .host a 0).readEffect a).readValue .host a] 0 0
  unfold State.hostWord
  rw [State.readReg_live (s := s.hostBegin) (who := .host) (a := a) h ho hp]
  dsimp only
  rw [hcode]
  exact ⟨congrArg (fun v => [v]) hv.symm, rfl⟩

theorem State.hostWord_barred (h : s.barred .host a false ≠ 0) :
    (s.hostWord a).readData = [0] ∧ (s.hostWord a).host.err = s.barred .host a false := by
  have hb : s.hostBegin.barred .host a false = s.barred .host a false := rfl
  unfold State.hostWord
  rw [State.readReg_refused (s := s.hostBegin) (who := .host) (a := a) (hb ▸ h), hb]
  dsimp only
  rw [State.refuseAccess_accErr]
  exact ⟨rfl, State.result_host_err ..⟩

end Reads

/-! ## Writes -/

section Writes
variable {s : State} {who : Initiator} {a : Nat}

/-- The two registers of the time that an apply is armed for have no effect of their own. -/
theorem State.writeEffect_applyAtNs (d : Nat) : s.writeEffect who A.CROWN_APPLY_AT_NS d = s.wr F.CROWN_APPLY_AT_NS_NS (d % 2 ^ 32) := by
  have h : s.writeEffect who A.CROWN_APPLY_AT_NS d = s.writeFields A.CROWN_APPLY_AT_NS d := rfl
  rw [h, State.writeFields_some (r := ⟨"APPLY_AT_NS", 0x06C, 1, 4, [⟨"NS", 0, 32, .rw, .V, 0⟩]⟩) (by rfl)]
  simp [regWrite, fieldWrite]
  rfl

theorem State.writeEffect_applyAtSl (d : Nat) : s.writeEffect who A.CROWN_APPLY_AT_SL d = s.wr F.CROWN_APPLY_AT_SL_SEC_LO (d % 2 ^ 32) := by
  have h : s.writeEffect who A.CROWN_APPLY_AT_SL d = s.writeFields A.CROWN_APPLY_AT_SL d := rfl
  rw [h, State.writeFields_some (r := ⟨"APPLY_AT_SL", 0x070, 1, 4, [⟨"SEC_LO", 0, 32, .rw, .V, 0⟩]⟩) (by rfl)]
  simp [regWrite, fieldWrite]
  rfl

/-- A word towards a clock domain that runs, with no other one kept for its page, is taken up at once. -/
theorem State.writeWords_cons {d : Nat} (l : List Nat) (k : Nat) (hx : s.crossingStopped (a + 4 * k) = false)
    (hh : (s.host.held.any fun h => pageOf h.addr == pageOf (a + 4 * k)) = false)
    (he : ((s.result who (a + 4 * k) 0).writeEffect who (a + 4 * k) d).accErr = 0) :
    State.writeWords who a (d :: l) k s = State.writeWords who a l (k + 1) ((s.result who (a + 4 * k) 0).writeEffect who (a + 4 * k) d) := by
  rw [State.writeWords]
  dsimp only
  rw [State.crossing_now (by rwa [State.crossingStopped_result]) (by rwa [State.held_result]), he]
  simp

theorem State.writeAll_ok {l : List Nat} (h : s.writesCode who a l = none) : s.writeAll who a l = State.writeWords who a l 0 s := by
  rw [State.writeAll, h]

theorem State.writeAll_refused {l : List Nat} {c : Nat × Nat} (h : s.writesCode who a l = some c) :
    s.writeAll who a l = (s.refuseAccess who c.1 true c.2, c.2) := by
  rw [State.writeAll, h]

theorem State.writesCode_one {d : Nat} (h : s.writeCode who a d = 0) : s.writesCode who a [d] = none := by
  have ho : ¬ offOf a ≥ 4096 := Nat.not_le.2 (Nat.mod_lt _ (by decide))
  simp [State.writesCode, ho, h]

/-- A sound WRITE, in a secure session with a verified tag, writes its words and shows their result. -/
theorem State.hostWrite_sound {bytes : List Byte} {n : Nat} (ha : addrCode a = 0) (hn : leAt bytes 0 1 = n) (h1 : 1 ≤ n) (h64 : n ≤ 64)
    (hlen : bytes.length = 1 + 4 * n + if s.on F.HOST_SESS_SECURE then 16 else 0)
    (ht : s.on F.HOST_SESS_SECURE = true → s.hostTagOk 0x02 a (bytes.take (1 + 4 * n)) (bytes.drop (1 + 4 * n)) = true) :
    s.hostWrite a bytes = (((if s.on F.HOST_SESS_SECURE then s.wr F.HOST_SEQ_SEQ (s.rd F.HOST_SEQ_SEQ + 1) else s).writeAll .host a
      (beWords n (bytes.drop 1))).1.hostEnd a ((if s.on F.HOST_SESS_SECURE then s.wr F.HOST_SEQ_SEQ (s.rd F.HOST_SEQ_SEQ + 1) else s).writeAll .host a
      (beWords n (bytes.drop 1))).2) := by
  subst hn
  unfold State.hostWrite
  extract_lets n secure u
  rw [if_neg (not_not.2 ha), if_neg (by simp only [n, secure]; omega), if_neg]
  · simp only [secure, n, Bool.and_eq_true, Bool.not_eq_true', not_and, Bool.not_eq_false]
    exact ht

theorem State.hostWrite_malformed {bytes : List Byte} (ha : addrCode a = 0)
    (h : leAt bytes 0 1 = 0 ∨ 64 < leAt bytes 0 1 ∨ bytes.length ≠ 1 + 4 * leAt bytes 0 1 + (if s.on F.HOST_SESS_SECURE then 16 else 0)) :
    s.hostWrite a bytes = s.hostEnd a 0x08 := by
  unfold State.hostWrite
  extract_lets n secure u
  rw [if_neg (not_not.2 ha)]
  exact if_pos h

theorem State.writeAll_estimView {d : Nat} (h : s.writesCode .host A.ESTIM_VIEW [d] = none)
    (hh : (s.host.held.any fun h => pageOf h.addr == 0x28) = false) :
    s.writeAll .host A.ESTIM_VIEW [d] = ((s.result .host A.ESTIM_VIEW 0).wr F.ESTIM_VIEW_CELL (d % 512), 0) := by
  have he : (s.result .host A.ESTIM_VIEW 0).writeEffect .host A.ESTIM_VIEW d = (s.result .host A.ESTIM_VIEW 0).wr F.ESTIM_VIEW_CELL (d % 512) :=
    State.writeEffect_estimView
  have hw := State.writeWords_cons (s := s) (who := .host) (a := A.ESTIM_VIEW) (d := d) [] 0 (State.crossingStopped_page rfl) hh
    ((congrArg State.accErr he).trans (State.result_accErr ..))
  rw [State.writeAll_ok h, hw]
  exact congrArg (fun u => (u, 0)) he

/-- What the first of the two words of a time leaves. -/
def State.applyAtNs (s : State) (d : Nat) : State := (s.result .host A.CROWN_APPLY_AT_NS 0).wr F.CROWN_APPLY_AT_NS_NS (d % 2 ^ 32)

theorem State.writeAll_applyAt {d e : Nat} (h : s.writesCode .host A.CROWN_APPLY_AT_NS [d, e] = none)
    (hh : (s.host.held.any fun h => pageOf h.addr == 0x00) = false) :
    s.writeAll .host A.CROWN_APPLY_AT_NS [d, e] =
      (((s.applyAtNs d).result .host A.CROWN_APPLY_AT_SL 0).wr F.CROWN_APPLY_AT_SL_SEC_LO (e % 2 ^ 32), 0) := by
  have he : (s.result .host (A.CROWN_APPLY_AT_NS + 4 * 0) 0).writeEffect .host (A.CROWN_APPLY_AT_NS + 4 * 0) d = s.applyAtNs d :=
    State.writeEffect_applyAtNs d
  have he' : ((s.applyAtNs d).result .host (A.CROWN_APPLY_AT_NS + 4 * 1) 0).writeEffect .host (A.CROWN_APPLY_AT_NS + 4 * 1) e =
      ((s.applyAtNs d).result .host A.CROWN_APPLY_AT_SL 0).wr F.CROWN_APPLY_AT_SL_SEC_LO (e % 2 ^ 32) := State.writeEffect_applyAtSl e
  have hheld : (s.applyAtNs d).host.held = s.host.held := by rw [State.applyAtNs, State.wr_host, State.held_result]
  have ha : (s.applyAtNs d).accErr = 0 := (State.wr_accErr ..).trans (State.result_accErr ..)
  have ha' : (((s.applyAtNs d).result .host A.CROWN_APPLY_AT_SL 0).wr F.CROWN_APPLY_AT_SL_SEC_LO (e % 2 ^ 32)).accErr = 0 :=
    (State.wr_accErr ..).trans (State.result_accErr ..)
  rw [State.writeAll_ok h, State.writeWords_cons [e] 0 (State.crossingStopped_page rfl) hh (by rw [he, ha]), he, Nat.zero_add,
    State.writeWords_cons [] 1 (State.crossingStopped_page rfl) (by rw [hheld]; exact hh) (by rw [he', ha']), he']
  rfl

/-- What bars a word to a page of both worlds' is read from neither SEQ nor the status shifted out. -/
theorem State.writeCode_seq (n : Nat) (d : Nat) : (s.wr F.HOST_SEQ_SEQ n).writeCode .host A.ESTIM_VIEW d = s.writeCode .host A.ESTIM_VIEW d := by
  have hon : ∀ f : Fld, F.HOST_SEQ_SEQ.apart f → (s.wr F.HOST_SEQ_SEQ n).rd f = s.rd f := fun f h => State.rd_wr_apart _ _ _ _ (by decide) h
  have h1 : (s.wr F.HOST_SEQ_SEQ n).secureOf .host = s.secureOf .host := congrArg (· != 0) (hon F.HOST_SESS_SECURE (by decide))
  have h2 : (s.wr F.HOST_SEQ_SEQ n).on F.HOST_CFG_NS_OPEN = s.on F.HOST_CFG_NS_OPEN := congrArg (· != 0) (hon F.HOST_CFG_NS_OPEN (by decide))
  have h3 : (s.wr F.HOST_SEQ_SEQ n).attr (pageOf A.ESTIM_VIEW) = s.attr (pageOf A.ESTIM_VIEW) := hon _ (by decide)
  have hb : (s.wr F.HOST_SEQ_SEQ n).barred .host A.ESTIM_VIEW true = s.barred .host A.ESTIM_VIEW true := by
    simp only [State.barred, State.bootBars, State.worldPermits, h1, h2, h3, State.wr_crown]
    rfl
  simp only [State.writeCode, hb]
  rfl

theorem beWords_one (l : List Byte) : beWords 1 l = [beAt l 0 4] := rfl

theorem beWords_two (b3 b2 b1 b0 c3 c2 c1 c0 : Byte) : beWords 2 [b3, b2, b1, b0, c3, c2, c1, c0] =
    [beAt [b3, b2, b1, b0] 0 4, beAt [c3, c2, c1, c0] 0 4] := rfl

/-- A word towards a clock domain that is stopped is kept until it runs. -/
def State.keepWord (s : State) (who : Initiator) (a d : Nat) : State :=
  { s with host := { s.host with held := s.host.held ++ [{ who := who, addr := a, data := d }] } }

theorem State.writeWords_kept {d : Nat} (hx : s.crossingStopped a = true) :
    State.writeWords .host a [d] 0 s = ((s.result .host a 0).keepWord .host a d, 0) := by
  have hc : ∀ k, (s.result .host a 0).crossing .host a d k = (s.result .host a 0).keepWord .host a d := fun k =>
    if_pos (by rw [State.crossingStopped_result, hx]; rfl)
  have ha : ((s.result .host a 0).keepWord .host a d).accErr = 0 := State.result_accErr ..
  rw [State.writeWords]
  simp only [Nat.mul_zero, Nat.add_zero, hc, ha]
  rfl

theorem leAt_head (b : Byte) (l : List Byte) : leAt (b :: l) 0 1 = b.toNat := by simp [leAt, ofLe]

/-- What a transaction that only shows its code leaves. -/
theorem State.hostEnd_shown (s : State) (a c : Nat) : (s.hostBegin.hostEnd a c).host.err = c ∧
    OnlyFields [F.HOST_LAST_ERR_CODE, F.HOST_LAST_ERR_ADDR] s (s.hostBegin.hostEnd a c) ∧ (s.hostBegin.hostEnd a c).staged = s.staged ∧
    (s.hostBegin.hostEnd a c).host.held = s.host.held := by
  have hw : Within [.regs, .accErr, .host] s.hostBegin (s.hostBegin.hostEnd a c) := State.result_within (by decide) (by decide) (by decide) .rfl
  exact ⟨State.result_host_err .., (OnlyFields.of_regs rfl).trans (State.onlyFields_result _ _ _ _), hw.staged (by decide), State.result_held ..⟩

end Writes

/-- Settles O18: a transaction answers its words or writes them through their registers' rules, and its result stands in ERR. -/
theorem hostPort : Obligations.HostPort := by
  refine ⟨fun addr s ha hb ho hp => ?_, fun addr s ha hb => ?_, fun addr n s ha hn => ?_, fun addr n s ha => ?_, fun b3 b2 b1 b0 s hs hc hh => ?_,
    fun b3 b2 b1 b0 c3 c2 c1 c0 s hs hc hh => ?_, fun b3 b2 b1 b0 tg s hs hl ht hc hh => ?_, fun addr bytes c s ha h1 h64 hl hs hc => ?_,
    fun addr b3 b2 b1 b0 s ha hs hc hx => ?_, fun addr bytes s ha h => ?_, fun op addr bytes s hop => ?_, fun h bytes s => ?_,
    fun addr bytes s ha => ?_, fun addr bytes s ha hs h1 h64 hl ht => ?_⟩
  · obtain ⟨h1, h2⟩ := State.hostWord_live hb ho hp
    exact .of_eq (exec_hostRead_one s ha) rfl ⟨h1, h2, State.hostWord_status ..⟩
  · obtain ⟨h1, h2⟩ := State.hostWord_barred hb
    exact .of_eq (exec_hostRead_one s ha) rfl ⟨h1, h2, State.hostWord_status ..⟩
  · obtain ⟨h1, h2⟩ := State.readWords_spec .host addr.toNat n 0 s.hostBegin
    have hx : exec (.hostRead addr n) s = .next { (State.readWords .host addr.toNat n 0 s.hostBegin).1.hostEnd addr.toNat
        (State.readWords .host addr.toNat n 0 s.hostBegin).2.2 with readData := (State.readWords .host addr.toNat n 0 s.hostBegin).2.1 } :=
      (if_neg (not_not.2 ha)).trans (if_neg hn)
    exact .of_eq hx rfl ⟨h1, (State.result_status ..).trans h2⟩
  · have hx : exec (.hostRead addr n) s = .next (s.hostBegin.hostEnd addr.toNat (addrCode addr.toNat)) := if_pos ha
    obtain ⟨h1, h2, -, -⟩ := s.hostEnd_shown addr.toNat (addrCode addr.toNat)
    have hw : Within [.regs, .accErr, .host] s.hostBegin (s.hostBegin.hostEnd addr.toNat (addrCode addr.toNat)) :=
      State.result_within (by decide) (by decide) (by decide) .rfl
    exact .of_eq hx rfl ⟨(hw.readData (by decide)).trans rfl, h1, (State.result_status ..).trans rfl, h2⟩
  · have hu : s.hostBegin.on F.HOST_SESS_SECURE = false := hs
    have hw := State.hostWrite_sound (s := s.hostBegin) (a := A.ESTIM_VIEW) (bytes := [1, b3, b2, b1, b0]) (n := 1) (by decide) (leAt_head 1 _) (by decide)
      (by decide) (by simp [hu]) (by simp [hu])
    have hone := State.writeAll_estimView (s := s.hostBegin) (d := beAt [b3, b2, b1, b0] 0 4) (State.writesCode_one hc) hh
    rw [hu, if_neg (by decide), beWords_one, List.drop_one, List.tail_cons, hone] at hw
    refine .of_eq (congrArg Host.Outcome.next ((if_neg (not_not.2 rfl)).trans hw)) rfl ⟨?_, State.result_host_err .., ?_, ?_⟩
    · rw [State.hostEnd, State.rd_result, State.rd_wr _ _ _ (by decide)]
      exact Nat.mod_mod ..
    · rw [State.hostEnd, State.result_status, State.wr_host, State.result_status]
      rfl
    · exact ((OnlyFields.of_regs (State.result_regs s.hostBegin .host _)).wr _ (by decide) (by simp)).upd (State.result_regs ..)
  · have hu : s.hostBegin.on F.HOST_SESS_SECURE = false := hs
    have hw := State.hostWrite_sound (s := s.hostBegin) (a := A.CROWN_APPLY_AT_NS) (bytes := [2, b3, b2, b1, b0, c3, c2, c1, c0]) (n := 2) (by decide)
      (leAt_head 2 _) (by decide) (by decide) (by simp [hu]) (by simp [hu])
    have hc' : s.hostBegin.writesCode .host A.CROWN_APPLY_AT_NS [beAt [b3, b2, b1, b0] 0 4, beAt [c3, c2, c1, c0] 0 4] = none := hc
    rw [hu, if_neg (by decide), List.drop_one, List.tail_cons, beWords_two, State.writeAll_applyAt hc' hh] at hw
    refine .of_eq (congrArg Host.Outcome.next ((if_neg (not_not.2 rfl)).trans hw)) rfl ⟨?_, ?_, State.result_host_err .., ?_⟩
    · rw [State.hostEnd, State.rd_result, State.rd_wr_apart _ _ _ _ (by decide) (by decide), State.rd_result, State.applyAtNs, State.rd_wr _ _ _ (by decide)]
      exact (Nat.mod_mod ..).trans (Nat.mod_eq_of_lt (beAt_lt ..))
    · rw [State.hostEnd, State.rd_result, State.rd_wr _ _ _ (by decide)]
      exact (Nat.mod_mod ..).trans (Nat.mod_eq_of_lt (beAt_lt ..))
    · have h1 : OnlyFields [F.CROWN_APPLY_AT_NS_NS, F.CROWN_APPLY_AT_SL_SEC_LO] s (s.hostBegin.applyAtNs (beAt [b3, b2, b1, b0] 0 4)) :=
        (OnlyFields.of_regs (State.result_regs s.hostBegin .host _)).wr _ (by decide) (by simp)
      exact ((h1.upd (State.result_regs ..)).wr _ (by decide) (by simp)).upd (State.result_regs ..)
  · have hu : s.hostBegin.on F.HOST_SESS_SECURE = true := hs
    have hw := State.hostWrite_sound (s := s.hostBegin) (a := A.ESTIM_VIEW) (bytes := 1 :: b3 :: b2 :: b1 :: b0 :: tg) (n := 1) (by decide) (leAt_head 1 _)
      (by decide) (by decide) (by simp [hu, hl]) fun _ => ht
    rw [hu, if_pos rfl, beWords_one, List.drop_one, List.tail_cons] at hw
    have hc' : (s.hostBegin.wr F.HOST_SEQ_SEQ (s.hostBegin.rd F.HOST_SEQ_SEQ + 1)).writeCode .host A.ESTIM_VIEW (beAt [b3, b2, b1, b0] 0 4) = 0 :=
      (State.writeCode_seq _ _).trans hc
    have hone := State.writeAll_estimView (s := s.hostBegin.wr F.HOST_SEQ_SEQ (s.hostBegin.rd F.HOST_SEQ_SEQ + 1)) (d := beAt [b3, b2, b1, b0] 0 4)
      (State.writesCode_one hc') (by rw [State.wr_host]; exact hh)
    rw [show beAt (b3 :: b2 :: b1 :: b0 :: tg) 0 4 = beAt [b3, b2, b1, b0] 0 4 from rfl, hone] at hw
    refine .of_eq (congrArg Host.Outcome.next ((if_neg (not_not.2 rfl)).trans hw)) rfl ⟨?_, ?_, State.result_host_err .., ?_⟩
    · rw [State.hostEnd, State.rd_result, State.rd_wr _ _ _ (by decide)]
      exact Nat.mod_mod ..
    · rw [State.hostEnd, State.rd_result, State.rd_wr_apart _ _ _ _ (by decide) (by decide), State.rd_result, State.rd_wr _ _ _ (by decide)]
      rfl
    · have h1 : OnlyFields [F.ESTIM_VIEW_CELL, F.HOST_SEQ_SEQ] s (s.hostBegin.wr F.HOST_SEQ_SEQ (s.hostBegin.rd F.HOST_SEQ_SEQ + 1)) :=
        (OnlyFields.of_regs rfl).wr _ (by decide) (by simp)
      exact ((h1.upd (State.result_regs ..)).wr _ (by decide) (by simp)).upd (State.result_regs ..)
  · have hu : s.hostBegin.on F.HOST_SESS_SECURE = false := hs
    have hw := State.hostWrite_sound (s := s.hostBegin) (a := addr.toNat) (bytes := bytes) ha rfl h1 h64 (by simp [hu, hl]) (by simp [hu])
    have hc' : s.hostBegin.writesCode .host addr.toNat (beWords (leAt bytes 0 1) (bytes.drop 1)) = some c := hc
    rw [hu, if_neg (by decide), State.writeAll_refused hc'] at hw
    have hin : Within [.regs, .accErr, .host, .q91] s.hostBegin (s.hostBegin.refuseAccess .host c.1 true c.2) :=
      State.refuseAccess_within (by decide) (by decide) (by decide) (by decide) .rfl
    have hin' : Within [.regs, .accErr, .host, .q91] s.hostBegin ((s.hostBegin.refuseAccess .host c.1 true c.2).hostEnd addr.toNat c.2) :=
      State.result_within (by decide) (by decide) (by decide) hin
    refine .of_eq (congrArg Host.Outcome.next ((if_neg (not_not.2 rfl)).trans hw)) rfl
      ⟨State.result_host_err .., hin'.staged (by decide), hin'.nvm (by decide), hin'.scan (by decide), ?_, ?_⟩
    · exact (State.result_held ..).trans (State.refuseAccess_held ..)
    · exact ((OnlyFields.of_regs rfl).trans (State.refuseAccess_fields s.hostBegin .host c.1 c.2 true)).trans
        ((State.onlyFields_result _ _ _ _).mono (by decide))
  · have hu : s.hostBegin.on F.HOST_SESS_SECURE = false := hs
    have hw := State.hostWrite_sound (s := s.hostBegin) (a := addr.toNat) (bytes := [1, b3, b2, b1, b0]) (n := 1) ha (leAt_head 1 _) (by decide)
      (by decide) (by simp [hu]) (by simp [hu])
    have hc' : s.hostBegin.writesCode .host addr.toNat [beAt [b3, b2, b1, b0] 0 4] = none := hc
    rw [hu, if_neg (by decide), beWords_one, List.drop_one, List.tail_cons, State.writeAll_ok hc', State.writeWords_kept (s := s.hostBegin) hx] at hw
    have hheld : (((s.hostBegin.result .host addr.toNat 0).keepWord .host addr.toNat (beAt [b3, b2, b1, b0] 0 4)).hostEnd addr.toNat 0).host.held =
        s.host.held ++ [{ who := .host, addr := addr.toNat, data := beAt [b3, b2, b1, b0] 0 4 }] :=
      (State.result_held ..).trans (congrArg (· ++ _) (State.result_held ..))
    refine .of_eq (congrArg Host.Outcome.next ((if_neg (not_not.2 rfl)).trans hw)) rfl ⟨?_, ?_, State.result_host_err .., State.result_staged .., ?_⟩
    · exact hheld
    · rw [State.hostPend, hheld]
      simp
    · exact .of_regs (State.result_regs ..)
  · have hx : exec (.hostWrite (.whole 0x02 addr) bytes) s = .next (s.hostBegin.hostEnd addr.toNat 0x08) :=
      congrArg Host.Outcome.next ((if_neg (not_not.2 rfl)).trans (State.hostWrite_malformed ha h))
    exact .of_eq hx rfl (s.hostEnd_shown addr.toNat 0x08)
  · have hx : exec (.hostWrite (.whole op addr) bytes) s = .next (s.hostBegin.hostEnd addr.toNat 0x08) := congrArg Host.Outcome.next (if_pos hop)
    exact .of_eq hx rfl (s.hostEnd_shown addr.toNat 0x08)
  · exact .of_eq rfl rfl (s.hostEnd_shown 0 0x08)
  · have hx : exec (.hostWrite (.whole 0x02 addr) bytes) s = .next (s.hostBegin.hostEnd addr.toNat (addrCode addr.toNat)) :=
      congrArg Host.Outcome.next ((if_neg (not_not.2 rfl)).trans (if_pos ha))
    exact .of_eq hx rfl (s.hostEnd_shown addr.toNat _)
  · have hu : s.hostBegin.on F.HOST_SESS_SECURE = true := hs
    have hx : s.hostBegin.hostWrite addr.toNat bytes = s.hostBegin.hostAuthFail addr.toNat := by
      unfold State.hostWrite
      extract_lets n secure u
      have hn : n = leAt bytes 0 1 := rfl
      have hsec : secure = true := hu
      have ht' : s.hostBegin.hostTagOk 2 addr.toNat (bytes.take (1 + 4 * n)) (bytes.drop (1 + 4 * n)) = false := ht
      rw [if_neg (not_not.2 ha), if_neg (by rw [hsec, if_pos rfl]; omega), if_pos (by rw [hsec, ht']; rfl)]
    obtain ⟨h2, h3, h4, -⟩ := s.hostEnd_shown addr.toNat 0x06
    refine .of_eq (congrArg Host.Outcome.next ((if_neg (not_not.2 rfl)).trans hx)) rfl ⟨(State.authFailed_err ..).trans h2, ?_, ?_, ?_⟩
    · exact h3.trans fun g _ => State.rd_authFailed ..
    · have hin : Within [.q91, .host] (s.hostBegin.hostEnd addr.toNat 0x06) (s.hostBegin.hostAuthFail addr.toNat) :=
        State.authFailed_within (by decide) (by decide) .rfl
      exact (hin.staged (by decide)).trans h4
    · exact (State.rd_authFailed ..).trans (h3.rd (by decide))

end Sys2Proof.Machine
end

section
/-!
The words that a stop may write: an SRD, a hard trip and what they end.
-/
set_option Elab.async false
namespace Sys2Proof.Machine
open Sys2Proof

/-- The words of a stop: whole pages of what it ends, and of the safety page STATUS, its events, I0 and COUNTS. -/
def StopWords (a : Nat) : Prop :=
  pageOf a ∈ [0x00, 0x01, 0x02, 0x10, 0x1D, 0x20, 0x21, 0x22, 0x23, 0x24, 0x26, 0x2A, 0x70] ∨ a ∈ [0x3100C, 0x31010, 0x31060, 0x31064]

/-- The words of the entry into SAFE: those of a stop without the contactors', the apply's and the run's. -/
def EnterWords (a : Nat) : Prop :=
  pageOf a ∈ [0x00, 0x02, 0x10, 0x1D, 0x20, 0x21, 0x22, 0x23, 0x2A, 0x70] ∨ a ∈ [0x3100C, 0x31010]

theorem EnterWords.stop {a : Nat} (h : EnterWords a) : StopWords a := by
  rcases h with h | h
  · refine .inl ?_
    simp only [List.mem_cons, List.not_mem_nil, or_false] at h ⊢
    omega
  · refine .inr ?_
    simp only [List.mem_cons, List.not_mem_nil, or_false] at h ⊢
    omega

section Parts
variable {s t : State}

theorem OnlyWhere.stopPages {P : List Nat} (h : OnlyPages P s t) (hP : ∀ p ∈ P, p ∈ [0x00, 0x01, 0x02, 0x10, 0x1D, 0x20, 0x21, 0x22, 0x23, 0x24, 0x26, 0x2A, 0x70]) :
    OnlyWhere StopWords s t := .of_pages h fun _ ha => .inl (hP _ ha)

theorem OnlyWhere.enterPages {P : List Nat} (h : OnlyPages P s t) (hP : ∀ p ∈ P, p ∈ [0x00, 0x02, 0x10, 0x1D, 0x20, 0x21, 0x22, 0x23, 0x2A, 0x70]) :
    OnlyWhere EnterWords s t := .of_pages h fun _ ha => .inl (hP _ ha)

theorem OnlyWhere.ofWithin {W : Nat → Prop} {T : List Part} (h : Within T s t) (hT : Part.regs ∉ T) : OnlyWhere W s t := .of_regs (h.regs hT)

variable (s : State)

/-! ## The power stage and the loop -/

theorem State.gatesOff_enter : OnlyWhere EnterWords s s.gatesOff := by
  unfold State.gatesOff
  extract_lets s1 s2 s3
  have h1 : OnlyWhere EnterWords s s1 := .foldl .refl fun u n hn => by
    have hp : pageOf (F.PHASE_STAT_STATE n).addr = 0x21 := by
      have := List.mem_range.1 hn
      simp only [pageOf]
      omega
    have hw : EnterWords (F.PHASE_STAT_STATE n).addr := .inl (by rw [hp]; decide)
    dsimp only
    exact (OnlyWhere.wrB (f := F.PHASE_STAT_SKIPPING n) (.ite .refl (OnlyWhere.refl.wr hw)) hw).upd rfl
  exact (((((h1.wr (.inl (by decide))).wr (.inl (by decide))).wrB (.inl (by decide))).wr (.inl (by decide))).wrB (.inl (by decide))).upd (State.mk_regs ..)

theorem State.gatesOff_where : OnlyWhere StopWords s s.gatesOff := (s.gatesOff_enter).mono fun _ => EnterWords.stop

theorem State.dropEnables_enter : OnlyWhere EnterWords s s.dropEnables := by
  unfold State.dropEnables State.refreshGates
  exact (((OnlyWhere.of_regs (s := s) (State.mk_regs ..)).wrB (.inr (by decide))).wrB (.inr (by decide))).wrB (.inl (by decide))

theorem State.dropEnables_where : OnlyWhere StopWords s s.dropEnables := (s.dropEnables_enter).mono fun _ => EnterWords.stop

theorem State.instances_enter (f : Nat → Fld) (hf : ∀ k < 24, pageOf (f k).addr = 0x22) (b : Bool) :
    OnlyWhere EnterWords s (instances.foldl (fun s k => s.wrB (f k) b) s) :=
  .foldl .refl fun _ _ hk => OnlyWhere.refl.wrB (.inl (by rw [hf _ (List.mem_range.1 hk)]; decide))

theorem pageOf_instance {k off : Nat} (hk : k < 24) (ho : off < 0x800) : pageOf (0x22000 + off + 0x40 * k) = 0x22 := by
  simp only [pageOf]
  omega

theorem State.freezeAll_enter (b : Bool) : OnlyWhere EnterWords s (s.freezeAll b) :=
  s.instances_enter _ (fun _ hk => pageOf_instance (off := 0x13C) hk (by decide)) b

theorem State.freezeAll_where (b : Bool) : OnlyWhere StopWords s (s.freezeAll b) := (s.freezeAll_enter b).mono fun _ => EnterWords.stop

theorem State.loopOff_enter : OnlyWhere EnterWords s s.loopOff := by
  unfold State.loopOff
  extract_lets pend t
  have ht : OnlyWhere EnterWords s t := .ite .refl ((OnlyWhere.refl.wr (.inl (by decide))).bump (.inl (by decide)))
  exact ((ht.wrB (.inl (by decide))).wrB (.inl (by decide))).trans
    (State.instances_enter _ _ (fun _ hk => pageOf_instance (off := 0x13C) hk (by decide)) false)

theorem State.loopOff_where : OnlyWhere StopWords s s.loopOff := (s.loopOff_enter).mono fun _ => EnterWords.stop

/-! ## Balancing -/

theorem State.cellCount_le : s.cellCount ≤ 992 := by
  have h : ∀ (l : List Nat) (a : Nat), l.foldl (fun a k => a + s.cellsOf k) a ≤ a + 31 * l.length := by
    intro l
    induction l with
    | nil => intro a; simp
    | cons k l ih =>
      intro a
      have hk : s.cellsOf k < 32 := Nat.mod_lt _ (Nat.two_pow_pos 5)
      have := ih (a + s.cellsOf k)
      simp only [List.foldl_cons, List.length_cons]
      omega
  have := h (List.range (min (s.rd F.RING_CFG_NODE_COUNT) 32)) 0
  simp only [List.length_range] at this
  simp only [State.cellCount, State.cellBase]
  omega

theorem State.mirror_where {W : Nat → Prop} (m : Mirror) : OnlyWhere W s (s.mirror m) := .ofWithin (s.mirror_pair m) (by decide)

theorem State.sendPlan_pages : OnlyPages [0x1D] s s.sendPlan := by
  unfold State.sendPlan
  extract_lets cells ref plans excl newly s1 s2 s3 b s4
  have h1 : OnlyPages [0x1D] s s1 := .foldl .refl fun u x hx => by
    obtain ⟨c, hc, rfl⟩ := List.mem_map.1 hx
    have hlt := List.mem_range.1 hc
    have := s.cellCount_le
    refine OnlyPages.refl.wrBit ?_
    have hp : pageOf (0x1D0C0 + 0x4 * (c / 32)) = 0x1D := by
      simp only [pageOf]
      omega
    rw [hp]
    decide
  have h2 : OnlyPages [0x1D] s s2 := .ite (h1.raise (by decide)) h1
  have h3 : OnlyPages [0x1D] s s3 := .foldl h2 fun u x _ => .of_regs ((u.ringCmd_ring _ _ _).regs (by decide))
  have h4 : OnlyPages [0x1D] s s4 := h3.upd (State.mk_regs ..)
  exact ((h4.bump (by decide)).raise (by decide)).upd ((State.mirror_pair _ _).regs (by decide))

theorem State.planBegin_pages : OnlyPages [0x1D] s s.planBegin := by
  unfold State.planBegin
  extract_lets l b s1 b1 s2 b2
  have h1 : OnlyPages [0x1D] s s1 := .of_regs (State.mk_regs ..)
  have h2 : OnlyPages [0x1D] s s2 := .foldl (h1.upd (State.mk_regs ..)) fun u x _ => .of_regs ((u.ringCmd_ring _ _ _).regs (by decide))
  exact .ite ((h2.upd (State.mk_regs ..)).trans (State.sendPlan_pages _)) h2

theorem State.replan_pages : OnlyPages [0x1D] s s.replan := .ite s.planBegin_pages .refl

theorem State.balStop_pages : OnlyPages [0x1D] s s.balStop := by
  unfold State.balStop
  refine .ite .refl ?_
  extract_lets s1 l s2 b s3
  have h1 : OnlyPages [0x1D] s s1 := .of_regs ((s.ringCmd_ring _ _ _).regs (by decide))
  have h2 : OnlyPages [0x1D] s s2 := .foldl h1 fun u x _ => .of_regs ((u.ringCmd_ring _ _ _).regs (by decide))
  have h3 : OnlyPages [0x1D] s s3 := h2.upd (State.mk_regs ..)
  exact .ite (h3.raise (by decide)) h3

theorem State.leaveBal_pages : OnlyPages [0x1D] s s.leaveBal := .ite s.balStop_pages .refl

/-! ## Runs, applies, starts and tests that a stop ends -/

/-- The words of an impedance run that ends. -/
def RunWords (a : Nat) : Prop := pageOf a ∈ [0x1D, 0x26] ∨ a ∈ [0x2000C, 0x22090]

theorem State.endStimulus_run : OnlyWhere RunWords s s.endStimulus := by
  unfold State.endStimulus
  extract_lets s1 y s2 i p s3
  have hl : OnlyWhere RunWords (s.wr F.IMPED_STATUS_STATE 0) (s.wr F.IMPED_STATUS_STATE 0).releaseLock :=
    (OnlyWhere.refl.wrB (.inr (by decide))).upd rfl
  have h1 : OnlyWhere RunWords s s1 := ((OnlyWhere.refl.wr (.inl (by decide))).trans hl).wr (.inr (by decide))
  have h3 : OnlyWhere RunWords s s3 := (h1.wrB (.inl (by decide))).upd (State.mk_regs ..)
  exact .ite (h3.trans (.of_pages (State.replan_pages _) fun a ha => .inl (by rw [List.mem_singleton.1 ha]; decide))) h3

theorem State.abortRun_run (code : Nat) : OnlyWhere RunWords s (s.abortRun code) := by
  unfold State.abortRun
  extract_lets st s1 i s2
  have h1 : OnlyWhere RunWords s s1 :=
    .ite .refl (((OnlyWhere.refl.wr (.inl (by decide))).raise (page := 0x26) (.inl (by decide))).bump (.inl (by decide)))
  have h2 : OnlyWhere RunWords s s2 := h1.upd (State.mk_regs ..)
  exact .ite (.ite (h2.trans (State.endStimulus_run _)) (h2.wr (.inl (by decide)))) .refl

theorem State.abortRun_where (code : Nat) : OnlyWhere StopWords s (s.abortRun code) := (s.abortRun_run code).mono fun a ha => by
  rcases ha with ha | ha
  · rcases List.mem_cons.1 ha with h | h
    · exact .inl (by rw [h]; decide)
    · exact .inl (by rw [List.mem_singleton.1 h]; decide)
  · rcases List.mem_cons.1 ha with rfl | h
    · exact .inl (by decide)
    · rw [List.mem_singleton.1 h]
      exact .inl (by decide)

theorem State.endSequence_enter : OnlyWhere EnterWords s s.endSequence := by
  unfold State.endSequence
  extract_lets s1 a b
  exact (((OnlyWhere.refl.wr (.inl (by decide))).wrB (.inl (by decide))).wrB (.inl (by decide))).upd (State.mk_regs ..)

theorem State.endSequence_where : OnlyWhere StopWords s s.endSequence := (s.endSequence_enter).mono fun _ => EnterWords.stop

theorem State.notePre_enter : OnlyWhere EnterWords s s.notePre := .ite (OnlyWhere.refl.wr (.inl (by decide))) .refl

theorem State.dropStart_enter (code : Nat) : OnlyWhere EnterWords s (s.dropStart code) := by
  unfold State.dropStart
  extract_lets s1
  have h1 : OnlyWhere EnterWords s s1 := .ite (((s.notePre_enter.wr (.inl (by decide))).bump (.inl (by decide))).raise (page := 0x23) (.inl (by decide))) .refl
  exact h1.trans (State.endSequence_enter _)

theorem State.dropStart_where (code : Nat) : OnlyWhere StopWords s (s.dropStart code) := (s.dropStart_enter code).mono fun _ => EnterWords.stop

theorem State.cancelApply_stop (cause : Nat) : OnlyWhere StopWords s (s.cancelApply cause) := by
  unfold State.cancelApply
  extract_lets st s1 s2 g s3 g2
  have h2 : OnlyWhere StopWords s s2 :=
    (((OnlyWhere.refl.wr (.inl (by decide))).wr (.inl (by decide))).wr (.inl (by decide))).wr (.inl (by decide))
  have h3 : OnlyWhere StopWords s s3 := .ite ((h2.upd (State.mk_regs ..)).wr (.inl (by decide))) h2
  exact .ite (h3.upd (State.mk_regs ..)) .refl

theorem State.endGateTest_where (result : Nat) (atOnce : Bool) : OnlyWhere StopWords s (s.endGateTest result atOnce) := by
  unfold State.endGateTest
  extract_lets s1 x y
  have h1 : OnlyWhere StopWords s s1 := (OnlyWhere.refl.wr (.inl (by decide))).raise (page := 0x70) (.inl (by decide))
  refine .ite (.ite ?_ (h1.upd (State.mk_regs ..))) .refl
  exact (((h1.trans (State.gatesOff_where _)).wrB (.inl (by decide))).trans (State.dropEnables_where _)).upd (State.mk_regs ..)

theorem State.endForStop_where : OnlyWhere StopWords s s.endForStop := by
  unfold State.endForStop
  extract_lets s1 s2
  have h2 : OnlyWhere StopWords s s2 := (s.cancelApply_stop 9).trans (State.abortRun_where _ _)
  exact .ite (h2.trans (State.dropStart_where _ _)) h2

/-! ## Contactors and SAFE -/

theorem State.countLoaded_where {k : Nat} (hk : k < 7) : OnlyWhere StopWords s (s.countLoaded k) := by
  have hp : pageOf (F.CONTACT_OPS_LOADED_OPENS (k - 1)).addr = 0x24 := by
    simp only [pageOf]
    omega
  exact .ite ((OnlyWhere.refl.bump (.inl (by rw [hp]; decide))).raise (page := 0x24) (.inl (by decide))) .refl

theorem State.release_where {k : Nat} (hk : k < 7) : OnlyWhere StopWords s (s.release k) :=
  .ite (((s.countLoaded_where hk).wrBit (.inl (by decide))).upd (State.mk_regs ..)) (.of_regs rfl)

theorem State.releaseAll_where {ks : List Nat} (h : ∀ k ∈ ks, k < 7) : OnlyWhere StopWords s (s.releaseAll ks) :=
  .foldl .refl fun _ k hk => State.release_where _ (h k hk)

theorem State.setLatch_enter (src : Nat) (ev : Ev) : OnlyWhere EnterWords s (s.setLatch src ev) := .enterPages (s.setLatch_pages src ev) (by decide)

theorem State.setLatch_where (src : Nat) (ev : Ev) : OnlyWhere StopWords s (s.setLatch src ev) := (s.setLatch_enter src ev).mono fun _ => EnterWords.stop

theorem State.closeFeed_where : OnlyWhere StopWords s s.closeFeed := .ite (OnlyWhere.refl.wrB (.inr (by decide))) .refl

theorem State.enterSafe_enter (latch : Bool) (src : Nat) (ev : Ev) : OnlyWhere EnterWords s (s.enterSafe latch src ev) := by
  unfold State.enterSafe
  extract_lets s1 s2 s3 fast s4 c s5 s6 p l
  have h1 : OnlyWhere EnterWords s s1 := by
    refine .trans ?_ (.enterPages (State.setMode_pages _ _) (by decide))
    refine .trans ?_ (State.dropStart_enter _ _)
    exact (((OnlyWhere.enterPages s.leaveBal_pages (by decide)).trans (State.gatesOff_enter _)).trans (State.dropEnables_enter _)).trans
      (State.loopOff_enter _)
  have h2 : OnlyWhere EnterWords s s2 := ((h1.wrB (.inr (by decide))).wr (.inr (by decide))).raise (page := 0x31) (.inr (by decide))
  have h3 : OnlyWhere EnterWords s s3 := h2.wrB (.inl (by decide))
  have h4 : OnlyWhere EnterWords s s4 := .ite (h3.upd (State.record_regs ..)) h3
  have h5 : OnlyWhere EnterWords s s5 := h4.upd (State.mk_regs ..)
  have h6 : OnlyWhere EnterWords s s6 := .ite (h5.trans (State.setLatch_enter _ _ _)) h5
  exact (h6.upd (State.mk_regs ..)).trans (.enterPages (State.entryStore_pages _ _) (by decide))

theorem State.enterSafe_where (latch : Bool) (src : Nat) (ev : Ev) : OnlyWhere StopWords s (s.enterSafe latch src ev) := (s.enterSafe_enter latch src ev).mono fun _ => EnterWords.stop

/-! ## The stops -/

theorem State.srdRelease_where : OnlyWhere StopWords s s.srdRelease := by
  unfold State.srdRelease
  split
  · exact .refl
  · extract_lets s1 s2
    have h1 : OnlyWhere StopWords s s1 := OnlyWhere.refl.wr (.inr (by decide))
    have h2 : OnlyWhere StopWords s s2 := .ite h1 (h1.trans (State.releaseAll_where _ (by decide)))
    exact .ite (h2.trans (State.enterSafe_where _ _ _ _)) h2

theorem State.srdRampEnd_where : OnlyWhere StopWords s s.srdRampEnd := by
  unfold State.srdRampEnd
  split
  · exact .refl
  · extract_lets s1
    have h1 : OnlyWhere StopWords s s1 :=
      ((((s.gatesOff_where.trans (State.dropEnables_where _)).trans (State.freezeAll_where _ _)).trans (State.loopOff_where _)).wr (.inr (by decide)))
    exact h1.trans (State.srdRelease_where _)

theorem State.startSrd_where (cause : Nat) (latch : Bool) (src : Nat) (ev : Ev) (fast : Bool) :
    OnlyWhere StopWords s (s.startSrd cause latch src ev fast) := by
  unfold State.startSrd
  extract_lets eff s1 s2 s3 p l s4
  have h2 : OnlyWhere StopWords s s2 :=
    (((s.endForStop_where.wrB (.inr (by decide))).wr (.inr (by decide))).wr (.inr (by decide))).wrI (.inr (by decide))
  have h3 : OnlyWhere StopWords s s3 := (h2.bump (.inr (by decide))).raise (page := 0x31) (.inr (by decide))
  have h4 : OnlyWhere StopWords s s4 := h3.upd (State.mk_regs ..)
  split
  · exact .refl
  · exact .refl
  · exact s.endGateTest_where 8 false
  · exact .ite (s.setLatch_where src ev) .refl
  · exact .ite .refl (.ite (.of_regs (State.record_regs ..)) (.ite .refl (.ite (h4.trans (State.srdRampEnd_where _)) (h4.wr (.inr (by decide))))))

theorem State.tripMode_where (src : Nat) (ev : Ev) : OnlyWhere StopWords s (s.tripMode src ev) := by
  unfold State.tripMode
  extract_lets s1 s2 d p s3
  have h2 : OnlyWhere StopWords s s2 := ((s.endForStop_where.trans (State.loopOff_where _)).wrB (.inr (by decide))).wr (.inr (by decide))
  have h3 : OnlyWhere StopWords s s3 := h2.upd (State.mk_regs ..)
  split
  · exact s.closeFeed_where
  · exact s.closeFeed_where
  · exact s.setLatch_where src ev
  · exact .ite s.closeFeed_where (.ite (h3.trans (State.enterSafe_where _ _ _ _)) h3)

theorem State.hardTrip_where (src : Nat) (ev : Ev) : OnlyWhere StopWords s (s.hardTrip src ev) := by
  unfold State.hardTrip
  extract_lets s1 s2
  have h1 : OnlyWhere StopWords s s1 :=
    (((s.endGateTest_where 8 true).trans (State.gatesOff_where _)).trans (State.dropEnables_where _)).trans (State.freezeAll_where _ _)
  have h2 : OnlyWhere StopWords s s2 := ((h1.wr (.inr (by decide))).bump (.inr (by decide))).raise (page := 0x31) (.inr (by decide))
  have h3 : OnlyWhere StopWords s s2.cutFeed := (h2.wrB (.inr (by decide))).trans (State.releaseAll_where _ (by decide))
  exact .ite .refl ((h3.trans (State.cancelApply_stop _ _)).trans (State.tripMode_where _ _ _))

theorem State.react_where (r : RClass) (source : Nat) (ev : Ev) (data : List Int) (cause : Nat) (same : Bool) :
    OnlyWhere StopWords s (s.react r source ev data cause same) := by
  cases r with
  | W => exact .of_regs (State.record_regs ..)
  | L => exact .of_regs (State.record_regs ..)
  | S => exact (OnlyWhere.of_regs ((State.mk_regs ..).trans (State.record_regs ..))).trans (State.startSrd_where _ _ _ _ _ _)
  | H => exact (OnlyWhere.of_regs ((State.mk_regs ..).trans (State.record_regs ..))).trans (State.hardTrip_where _ _ _)

end Parts

/-! ## The part of the protection that a stop changes -/

/-- From s to t the protection changed in nothing but what a stop notes: the last S or H event, the enable command and the SRD. -/
def StopProt (s t : State) : Prop := ∃ l e d, t.prot = { s.prot with lastSH := l, enableCmd := e, srd := d }

section Protection
variable {s t u : State}

theorem StopProt.of_eq (h : t.prot = s.prot) : StopProt s t := ⟨s.prot.lastSH, s.prot.enableCmd, s.prot.srd, h⟩

theorem StopProt.refl : StopProt s s := .of_eq rfl

theorem StopProt.trans (h : StopProt s t) (h' : StopProt t u) : StopProt s u := by
  obtain ⟨l, e, d, ht⟩ := h
  obtain ⟨l', e', d', hu⟩ := h'
  exact ⟨l', e', d', by rw [hu, ht]⟩

theorem StopProt.upd (h : StopProt s t) (h' : u.prot = t.prot) : StopProt s u := h.trans (.of_eq h')

theorem StopProt.ite {c : Prop} [Decidable c] {a b : State} (ha : StopProt s a) (hb : StopProt s b) : StopProt s (if c then a else b) := by
  split <;> assumption

theorem StopProt.conds (h : StopProt s t) : t.prot.conds = s.prot.conds := by
  obtain ⟨l, e, d, ht⟩ := h
  rw [ht]

theorem StopProt.pending (h : StopProt s t) : t.prot.pending = s.prot.pending := by
  obtain ⟨l, e, d, ht⟩ := h
  rw [ht]

theorem StopProt.held (h : StopProt s t) : t.prot.held = s.prot.held := by
  obtain ⟨l, e, d, ht⟩ := h
  rw [ht]

theorem StopProt.islandPending (h : StopProt s t) : t.prot.islandPending = s.prot.islandPending := by
  obtain ⟨l, e, d, ht⟩ := h
  rw [ht]

theorem StopProt.sources (h : StopProt s t) : t.prot.sources = s.prot.sources := by
  obtain ⟨l, e, d, ht⟩ := h
  rw [ht]

variable (s)

theorem State.gatesOff_prot : (s.gatesOff).prot = s.prot :=
  (State.gatesOff_within (T := [.regs, .pwm, .loop]) (by decide) (by decide) (by decide) .rfl).prot (by decide)

theorem State.loopOff_prot : (s.loopOff).prot = s.prot :=
  (State.loopOff_within (T := [.regs]) (by decide) .rfl).prot (by decide)

theorem State.freezeAll_prot (b : Bool) : (s.freezeAll b).prot = s.prot :=
  (State.freezeAll_within (T := [.regs]) (by decide) .rfl).prot (by decide)

theorem State.dropStart_prot (code : Nat) : (s.dropStart code).prot = s.prot :=
  (State.dropStart_within (T := [.regs, .crown, .q91, .track, .rk, .scan]) (by decide) (by decide) (by decide) (by decide) (by decide) (by decide) .rfl).prot (by decide)

theorem State.setLatch_prot (src : Nat) (ev : Ev) : (s.setLatch src ev).prot = s.prot :=
  (State.setLatch_within (T := [.regs, .q91, .rk, .scan, .tmx]) (by decide) (by decide) (by decide) (by decide) (by decide) .rfl).prot (by decide)

theorem State.closeFeed_prot : (s.closeFeed).prot = s.prot :=
  (State.closeFeed_within (T := [.regs]) (by decide) .rfl).prot (by decide)

theorem State.cancelApply_prot (cause : Nat) : (s.cancelApply cause).prot = s.prot :=
  (State.cancelApply_within (T := [.regs, .shadow, .stg]) (by decide) (by decide) (by decide) .rfl).prot (by decide)

theorem State.leaveBal_prot : (s.leaveBal).prot = s.prot :=
  (State.leaveBal_within (T := [.regs, .out, .q91, .rk, .scan, .ringSt, .bal]) (by decide) (by decide) (by decide) (by decide) (by decide) (by decide) (by decide) .rfl).prot (by decide)

theorem State.entryStore_prot (reason : Nat) : (s.entryStore reason).prot = s.prot :=
  (State.entryStore_within (T := [.regs, .q91, .rk, .scan, .est, .tele, .nvm]) (by decide) (by decide) (by decide) (by decide) (by decide) (by decide) (by decide) .rfl).prot (by decide)

theorem State.releaseAll_prot (ks : List Nat) : (s.releaseAll ks).prot = s.prot :=
  (State.releaseAll_within (T := [.regs, .q91, .track, .rk, .scan]) (by decide) (by decide) (by decide) (by decide) (by decide) .rfl).prot (by decide)

theorem State.endForStop_prot : (s.endForStop).prot = s.prot :=
  (State.endForStop_within (T := [.regs, .shadow, .out, .crown, .stg, .q91, .pwm, .loop, .track, .rk, .scan, .imp, .ringSt, .bal, .pair]) (by decide) (by decide) (by decide) (by decide) (by decide) (by decide) (by decide) (by decide) (by decide) (by decide) (by decide) (by decide) (by decide) (by decide) (by decide) .rfl).prot (by decide)

theorem State.cutFeed_prot : (s.cutFeed).prot = s.prot :=
  (State.cutFeed_within (T := [.regs, .q91, .track, .rk, .scan]) (by decide) (by decide) (by decide) (by decide) (by decide) .rfl).prot (by decide)

theorem State.dropEnables_prot : StopProt s s.dropEnables := by
  unfold State.dropEnables State.refreshGates
  refine ⟨s.prot.lastSH, false, s.prot.srd, ?_⟩
  rw [State.wrB_prot, State.wrB_prot, State.wrB_prot]

theorem State.endGateTest_prot (result : Nat) (atOnce : Bool) : StopProt s (s.endGateTest result atOnce) := by
  unfold State.endGateTest
  extract_lets s1 x y
  have h1 : s1.prot = s.prot := (State.raise_prot ..).trans (State.wr_prot ..)
  have h2 : (s1.gatesOff.wrB F.TESTMUX_STATUS_GTEST false).prot = s1.prot := (State.wrB_prot ..).trans (State.gatesOff_prot ..)
  exact .ite (.ite (((StopProt.of_eq (h2.trans h1)).trans (State.dropEnables_prot _)).upd (State.mk_prot ..)) ((StopProt.of_eq h1).upd (State.mk_prot ..))) .refl

theorem State.enterSafe_prot (latch : Bool) (src : Nat) (ev : Ev) : StopProt s (s.enterSafe latch src ev) := by
  unfold State.enterSafe
  extract_lets s1 s2 s3 fast s4 c s5 s6 l p
  have h0 : StopProt s s.leaveBal.gatesOff.dropEnables :=
    (StopProt.of_eq ((State.gatesOff_prot _).trans s.leaveBal_prot)).trans (State.dropEnables_prot _)
  have h1 : StopProt s s1 := h0.upd ((State.setMode_prot ..).trans ((State.dropStart_prot ..).trans (State.loopOff_prot _)))
  have h2 : StopProt s s2 := h1.upd ((State.raise_prot ..).trans ((State.wr_prot ..).trans (State.wrB_prot ..)))
  have h3 : StopProt s s3 := h2.upd (State.wrB_prot ..)
  have h4 : StopProt s s4 := .ite (h3.upd (State.record_prot ..)) h3
  have h5 : StopProt s s5 := h4.upd (State.mk_prot ..)
  have h6 : StopProt s s6 := .ite (h5.upd (State.setLatch_prot ..)) h5
  have h7 : StopProt s s6 → ∀ u : State, u.prot = { s6.prot with srd := none } → StopProt s u := fun h u hu => h.trans ⟨_, _, none, hu⟩
  exact h7 h6 _ ((State.entryStore_prot ..).trans (State.mk_prot ..))

theorem State.srdRelease_prot : StopProt s s.srdRelease := by
  unfold State.srdRelease
  split
  · exact .refl
  · extract_lets s1 s2
    have h1 : StopProt s s1 := .of_eq (State.wr_prot ..)
    have h2 : StopProt s s2 := .ite h1 (h1.upd (State.releaseAll_prot ..))
    exact .ite (h2.trans (State.enterSafe_prot _ _ _ _)) h2

theorem State.srdRampEnd_prot : StopProt s s.srdRampEnd := by
  unfold State.srdRampEnd
  split
  · exact .refl
  · extract_lets s1
    have h0 : StopProt s s.gatesOff.dropEnables := (StopProt.of_eq s.gatesOff_prot).trans (State.dropEnables_prot _)
    have h1 : StopProt s s1 := h0.upd ((State.wr_prot ..).trans ((State.loopOff_prot _).trans (State.freezeAll_prot ..)))
    exact h1.trans (State.srdRelease_prot _)

theorem State.startSrd_prot (cause : Nat) (latch : Bool) (src : Nat) (ev : Ev) (fast : Bool) : StopProt s (s.startSrd cause latch src ev fast) := by
  unfold State.startSrd
  extract_lets eff s1 s2 s3 l p s4
  have h2 : StopProt s s2 := (StopProt.of_eq s.endForStop_prot).upd
    ((State.wr_prot ..).trans ((State.wr_prot ..).trans ((State.wr_prot ..).trans (State.wrB_prot ..))))
  have h3 : StopProt s s3 := h2.upd ((State.raise_prot ..).trans (State.bump_prot ..))
  have h4 : StopProt s s4 := h3.trans ⟨s3.prot.lastSH, s3.prot.enableCmd, _, State.mk_prot ..⟩
  split
  · exact .refl
  · exact .refl
  · exact s.endGateTest_prot 8 false
  · exact .ite (.of_eq (s.setLatch_prot src ev)) .refl
  · exact .ite .refl (.ite (.of_eq (State.record_prot ..)) (.ite .refl (.ite (h4.trans (State.srdRampEnd_prot _)) (h4.upd (State.wr_prot ..)))))

theorem State.tripMode_prot (src : Nat) (ev : Ev) : StopProt s (s.tripMode src ev) := by
  unfold State.tripMode
  extract_lets s1 s2 d p s3
  have h2 : StopProt s s2 := .of_eq ((State.wr_prot ..).trans ((State.wrB_prot ..).trans ((State.loopOff_prot _).trans s.endForStop_prot)))
  have h3 : StopProt s s3 := h2.trans ⟨s2.prot.lastSH, s2.prot.enableCmd, _, State.mk_prot ..⟩
  split
  · exact .of_eq s.closeFeed_prot
  · exact .of_eq s.closeFeed_prot
  · exact .of_eq (s.setLatch_prot src ev)
  · exact .ite (.of_eq s.closeFeed_prot) (.ite (h3.trans (State.enterSafe_prot _ _ _ _)) h3)

/-- A trip shown and counted changes nothing of the protection. -/
theorem State.tripCounted_prot : (((s.wr F.SAFE_STATUS_SRD_CAUSE 9).bump F.SAFE_COUNTS_TRIPS).raise 0x31 2).prot = s.prot := by
  rw [State.raise_prot, State.bump_prot, State.wr_prot]

theorem State.hardTrip_prot (src : Nat) (ev : Ev) : StopProt s (s.hardTrip src ev) := by
  unfold State.hardTrip
  refine .ite .refl ?_
  have h1 : StopProt s (((s.endGateTest 8 true).gatesOff.dropEnables).freezeAll true) :=
    (((s.endGateTest_prot 8 true).upd (State.gatesOff_prot _)).trans (State.dropEnables_prot _)).upd (State.freezeAll_prot _ _)
  generalize ((s.endGateTest 8 true).gatesOff.dropEnables).freezeAll true = s1 at h1 ⊢
  have h2 : StopProt s _ := h1.upd s1.tripCounted_prot
  exact ((h2.upd (State.cutFeed_prot _)).upd (State.cancelApply_prot _ _)).trans (State.tripMode_prot _ _ _)

theorem State.react_prot (r : RClass) (source : Nat) (ev : Ev) (data : List Int) (cause : Nat) (same : Bool) :
    StopProt s (s.react r source ev data cause same) := by
  have hn : ∀ u : State, StopProt u (u.noteSH source ev) := fun u => ⟨_, _, _, rfl⟩
  cases r with
  | W => exact .of_eq (State.record_prot ..)
  | L => exact .of_eq (State.record_prot ..)
  | S => exact ((StopProt.of_eq (State.record_prot ..)).trans (hn _)).trans (State.startSrd_prot _ _ _ _ _ _)
  | H => exact ((StopProt.of_eq (State.record_prot ..)).trans (hn _)).trans (State.hardTrip_prot _ _ _)

end Protection

end Sys2Proof.Machine
end

section
/-!
O39: the messages of dispatch and TAKE.
-/
set_option Elab.async false
namespace Sys2Proof.Machine
open Sys2Proof

/-! ## Mode requests -/

section Requests
variable {s t : State} {who : Initiator} {dst : Mode} {p : Partners}

/-- A request that is admitted, other than one for CONNECT or RUN, is taken with result 0. -/
theorem State.modeRequest_admitted {dormant : Bool} (hc : s.requestResult who dst dormant p = 0) (h1 : dst ≠ .connect) (h2 : dst ≠ .run)
    (h3 : s.mode ≠ .safe ∨ dst ≠ .standby) :
    s.modeRequest who dst dormant p = (s.wr F.CROWN_MODE_REQ_RESULT 0).takeRequest who dst dormant := by
  have e1 : (dst == Mode.connect) = false := beq_eq_false_iff_ne.2 h1
  have e2 : (dst == Mode.run) = false := beq_eq_false_iff_ne.2 h2
  have e3 : (s.mode == .safe && dst == .standby) = false := by
    rcases h3 with h | h <;> simp [beq_eq_false_iff_ne.2 h]
  simp [State.modeRequest, hc, e1, e2, e3]

theorem State.mode_reqResult (s : State) (n : Nat) : (s.wr F.CROWN_MODE_REQ_RESULT n).mode = s.mode := State.mode_wr_apart _ _ (by decide) (by decide)

/-- REST from RUN is barred only by a transition and by a partner in control. -/
theorem State.requestResult_rest (hm : s.mode = .run) : s.requestResult who .rest false p = if s.underWay then 1 else if !s.inControl then 3 else 0 := by
  have h1 : (Mode.rest == Mode.transport || Mode.rest == Mode.service) = false := rfl
  have h2 : (Mode.run == Mode.hold) = false := rfl
  have h3 : requestable .run .rest = true := rfl
  simp [State.requestResult, hm, h1, h2, h3]

theorem State.nOn_of_rd (h : t.rd F.PSTAGE_RUNMASK_RUN = s.rd F.PSTAGE_RUNMASK_RUN) : t.nOn = s.nOn := by
  simp only [State.nOn, State.running, State.bit, h]

/-- REST with no phase running is entered at once. -/
theorem State.restBegin_entered (hn : s.nOn = 0) : s.restBegin = (s.abortRun 2).loopOff.setMode .rest := by
  have h : (s.abortRun 2).nOn = s.nOn := State.nOn_of_rd ((s.abortRun_run 2).rd (by unfold RunWords; decide))
  unfold State.restBegin
  extract_lets u
  exact if_pos (by rw [h, hn]; rfl)

theorem State.takeRequest_rest (hm : s.mode = .run) (hn : s.nOn = 0) : s.takeRequest who .rest false = (s.abortRun 2).loopOff.setMode .rest := by
  rw [← State.restBegin_entered hn]
  unfold State.takeRequest
  rw [hm]

theorem State.underWay_congr (h1 : t.crown = s.crown) (h2 : t.track = s.track) (h3 : t.prot = s.prot)
    (h4 : t.rd F.CROWN_STAGE_CTRL_STATE = s.rd F.CROWN_STAGE_CTRL_STATE) : t.underWay = s.underWay := by
  simp only [State.underWay, State.moving, h1, h2, h3, h4]

theorem State.inControl_of_rd (h : t.rd F.PAIR_STATUS_ROLE = s.rd F.PAIR_STATUS_ROLE) : t.inControl = s.inControl := by
  simp only [State.inControl, h]

/-- MODE_REQ with the target REST, admitted in RUN with no phase running. -/
theorem State.modeReqWrite_rest (hc : s.requestResult who .rest false p = 0) (hm : s.mode = .run) (hn : s.nOn = 0) :
    s.modeReqWrite who 4 false p = ((s.wr F.CROWN_MODE_REQ_RESULT 0).abortRun 2).loopOff.setMode .rest := by
  have he : s.modeReqWrite who 4 false p = s.modeRequest who .rest false p := rfl
  rw [he, State.modeRequest_admitted hc (by decide) (by decide) (.inl (by rw [hm]; decide)), State.takeRequest_rest ((s.mode_reqResult 0).trans hm)
    ((State.nOn_of_rd (State.rd_wr_apart _ _ _ _ (by decide) (by decide))).trans hn)]

theorem State.restEntered_where (s : State) : OnlyWhere StopWords s ((s.abortRun 2).loopOff.setMode .rest) :=
  ((s.abortRun_where 2).trans (State.loopOff_where _)).trans (.stopPages (State.setMode_pages _ _) (by decide))

/-- STOP of a run in RUN: its envelope ramps down with ABORT 1. -/
theorem State.abortRun_stop (h2 : s.rd F.IMPED_STATUS_STATE = 2) (hs : s.imp.startStep = 0) (ha : s.imp.aborted = false) :
    (s.abortRun 1).rd F.IMPED_STATUS_STATE = 3 ∧ (s.abortRun 1).rd F.IMPED_STATUS_ABORT = 1 := by
  unfold State.abortRun
  extract_lets st s1 i s2
  have hst : st = 2 := h2
  have h1 : s1 = ((s.wr F.IMPED_STATUS_ABORT 1).raise 0x26 3).bump F.IMPED_RUNS_ABORTED := if_neg (by simp [ha])
  have hi : s2.imp.startStep = 0 := by
    change s1.imp.startStep = 0
    rw [h1, State.bump_imp, State.raise_imp, State.wr_imp]
    exact hs
  rw [if_pos (by simp [hst]), if_neg (by simp [hi])]
  refine ⟨State.rd_wr _ _ _ (by decide), ?_⟩
  have h2 : s2.rd F.IMPED_STATUS_ABORT = s1.rd F.IMPED_STATUS_ABORT := State.rd_regs (State.mk_regs ..) _
  rw [State.rd_wr_apart _ _ _ _ (by decide) (by decide), h2, h1, State.rd_bump_apart _ _ _ _ (by decide) (by decide), State.rd_raise _ _ _ _ (by decide),
    State.rd_wr _ _ _ (by decide)]
  rfl

end Requests

/-! ## Answers -/

section Answers
variable {s t : State} {v : Option Via} {r d : Nat}

theorem State.canService_pages (s : State) {ch : Nat} (hc : ch < 4) (id : Nat) (data : List Byte) : OnlyPages [0x11, 0x12] s (s.canService ch id data) := by
  unfold State.canService
  extract_lets e
  exact .ite (State.push_pages _ _ _ (by simp only [txRing]; omega)) .refl

theorem State.sendStatus_pages (s : State) (v : Via) : OnlyPages [0x11, 0x12] s (s.sendStatus v) := by
  unfold State.sendStatus
  extract_lets m x u
  have hu : OnlyPages [0x11, 0x12] s u := .of_regs (State.mk_regs ..)
  refine .ite ?_ .refl
  split
  · exact hu.upd rfl
  · exact hu.trans (State.canService_pages _ (Fin.isLt _) _ _)

theorem State.sendStatus_disp (s : State) (v : Via) : ∃ q, (s.sendStatus v).disp = { s.disp with txSeq := q } := by
  unfold State.sendStatus
  extract_lets m x u
  split
  · split
    · exact ⟨_, rfl⟩
    · have hw (id : Nat) (ch : Nat) (l : List Byte) : Within [.regs, .q91, .rk, .scan, .eng] u (u.canService ch id l) :=
        State.canService_within (by decide) (by decide) (by decide) (by decide) (by decide) .rfl
      exact ⟨_, (hw ..).disp (by decide)⟩
  · exact ⟨s.disp.txSeq, rfl⟩

/-- The state of a message processed before it is answered. -/
def State.dispShown (s : State) (r d : Nat) : State := s.dispDone none r d

theorem State.dispDone_eq (s : State) (v : Option Via) (r d : Nat) :
    s.dispDone v r d = match v with | some v => (s.dispShown r d).sendStatus v | none => s.dispShown r d := by
  cases v <;> rfl

/-- The state that shows a message's result, before it is counted. -/
def State.dispDetail (s : State) (r d : Nat) : State := { s.wr F.DISP_STATUS_RESULT r with disp := { s.disp with detail := d } }

theorem State.dispShown_accepted (s : State) (d : Nat) : s.dispShown 0 d = ((s.dispDetail 0 d).bump F.DISP_COUNTS_ACCEPTED).raise 0x34 0 := rfl

theorem State.dispShown_refused (s : State) (d : Nat) (h : r ≠ 0) :
    s.dispShown r d = ((s.dispDetail r d).bump F.DISP_COUNTS_REFUSED).raise 0x34 1 := if_neg h

theorem State.rd_dispDetail (s : State) (r d : Nat) (f : Fld) : (s.dispDetail r d).rd f = (s.wr F.DISP_STATUS_RESULT r).rd f :=
  State.rd_regs (State.mk_regs ..) f

/-- A message accepted shows result 0 and counts; what it leaves of the other fields is as it was. -/
theorem State.dispShown_zero (s : State) (d : Nat) : (s.dispShown 0 d).rd F.DISP_STATUS_RESULT = 0 ∧
    (s.dispShown 0 d).rd F.DISP_COUNTS_ACCEPTED = satCount F.DISP_COUNTS_ACCEPTED.width (s.rd F.DISP_COUNTS_ACCEPTED + 1) ∧
    OnlyFields [F.DISP_STATUS_RESULT, F.DISP_COUNTS_ACCEPTED, evtStatus 0x34] s (s.dispShown 0 d) ∧
    (s.dispShown 0 d).disp = { s.disp with detail := d } := by
  rw [State.dispShown_accepted]
  refine ⟨?_, ?_, ?_, ?_⟩
  · rw [State.rd_raise _ _ _ _ (by decide), State.rd_bump_apart _ _ _ _ (by decide) (by decide), State.rd_dispDetail, State.rd_wr _ _ _ (by decide)]
    rfl
  · rw [State.rd_raise _ _ _ _ (by decide), State.rd_bump _ _ _ (by decide), State.rd_dispDetail, State.rd_wr_apart _ _ _ _ (by decide) (by decide)]
  · exact (((OnlyFields.refl.wr _ (by decide) (by simp)).upd (State.mk_regs ..)).bump _ (by decide) (by simp)).raise _ (by simp)
  · rw [State.raise_disp, State.bump_disp]
    rfl

/-- A message refused shows its result and counts. -/
theorem State.dispShown_ne (s : State) (d : Nat) (h : r ≠ 0) (hr : r < 256) : (s.dispShown r d).rd F.DISP_STATUS_RESULT = r ∧
    (s.dispShown r d).rd F.DISP_COUNTS_REFUSED = satCount F.DISP_COUNTS_REFUSED.width (s.rd F.DISP_COUNTS_REFUSED + 1) ∧
    (s.dispShown r d).disp = { s.disp with detail := d } := by
  rw [State.dispShown_refused s d h]
  refine ⟨?_, ?_, ?_⟩
  · rw [State.rd_raise _ _ _ _ (by decide), State.rd_bump_apart _ _ _ _ (by decide) (by decide), State.rd_dispDetail, State.rd_wr _ _ _ (by decide)]
    exact Nat.mod_eq_of_lt hr
  · rw [State.rd_raise _ _ _ _ (by decide), State.rd_bump _ _ _ (by decide), State.rd_dispDetail, State.rd_wr_apart _ _ _ _ (by decide) (by decide)]
  · rw [State.raise_disp, State.bump_disp]
    rfl

/-- The answer to a message leaves the fields outside the queues as its processing left them. -/
theorem State.rd_dispDone (s : State) (v : Option Via) (r d : Nat) {f : Fld} (hf : pageOf f.addr ∉ [0x11, 0x12]) :
    (s.dispDone v r d).rd f = (s.dispShown r d).rd f := by
  rw [State.dispDone_eq]
  cases v with
  | none => rfl
  | some v => exact (State.sendStatus_pages _ v).rd hf

theorem State.dispDone_newTarget (s : State) (v : Option Via) (r d : Nat) : (s.dispDone v r d).disp.newTarget = (s.dispShown r d).disp.newTarget := by
  rw [State.dispDone_eq]
  cases v with
  | none => rfl
  | some v =>
    obtain ⟨q, hq⟩ := (s.dispShown r d).sendStatus_disp v
    dsimp only
    rw [hq]

end Answers

/-! ## What a message does -/

section Acts
variable {s t : State} {v : Via} {m : List Byte} {p : Partners} {kind : Nat}

/-- A message received: its SEQ is the one to be acknowledged. -/
def State.dispNoted (s : State) (m : List Byte) : State := { s with disp := { s.disp with ackSeq := beAt m 8 4 % 65536 } }

/-- A message accepted: its SEQ is the last one of its source. -/
def State.dispTaken (s : State) (v : Via) (m : List Byte) : State := (s.dispNoted m).dispSeq v (beAt m 8 4)

theorem State.dispTaken_fields (s : State) (v : Via) (m : List Byte) : OnlyFields [F.DISP_LASTSEQ_SEQ] s (s.dispTaken v m) := by
  unfold State.dispTaken State.dispSeq State.showLastSeq
  exact (OnlyFields.of_regs (State.mk_regs ..)).wr _ (by decide) (by simp)

theorem State.dispMessage_noted (hr : s.dispReaches v m = true) (hk : beAt m 3 1 = kind) (hd : s.dispDiscards v m = false) (ho : s.tooOld m = false) :
    s.dispMessage v kind m p =
      if (kind == 1 || kind == 2 || kind == 3) && s.rd F.DISP_CFG_SRC != viaSource v then (s.dispNoted m).dispDone (some v) 5 0
      else (if (if (kind == 1 || kind == 2 || kind == 3) = true then s.setPointResult kind (beIAt m 24 4) == 0 else
          if (kind == 0x10) = true then s.modeCode (beIAt m 24 4 % 16).toNat p == 0 else kind == 0x12) = true then s.dispTaken v m
        else s.dispNoted m).dispAct (some v) (beAt m 8 4) kind (beIAt m 24 4) p := by
  subst hk
  unfold State.dispMessage
  extract_lets k seq x u value setPoint ok
  rw [if_neg (by simp [hr]), if_neg (by simp [hd]), if_neg (by simp [k])]
  have ho' : u.tooOld m = false := ho
  rw [if_neg (by simp [ho'])]
  rfl

theorem State.setPointResult_congr (h1 : t.rd F.LOOP_CFG_SOURCE = s.rd F.LOOP_CFG_SOURCE) (h2 : t.rd F.LOOP_VBUS_V_BUS_MAX = s.rd F.LOOP_VBUS_V_BUS_MAX)
    (k : Nat) (x : Int) : t.setPointResult k x = s.setPointResult k x := by
  have hi : t.inRange k x = s.inRange k x := by
    unfold State.inRange
    rw [h2]
  unfold State.setPointResult
  rw [h1, hi]

theorem State.setPointResult_lt (s : State) (k : Nat) (x : Int) : s.setPointResult k x < 256 := by
  unfold State.setPointResult
  split
  · decide
  · split <;> decide

/-- A set-point taken is the next target and ends STALE. -/
theorem State.takeSetPoint_spec (s : State) (x : Int) : (s.takeSetPoint x).disp.newTarget = some x ∧ (s.takeSetPoint x).rd F.DISP_STATUS_STALE = 0 ∧
    OnlyFields [F.DISP_STATUS_STALE, evtStatus 0x34] s (s.takeSetPoint x) := by
  unfold State.takeSetPoint
  extract_lets d u
  have hu : OnlyFields [F.DISP_STATUS_STALE, evtStatus 0x34] s u := .of_regs (State.mk_regs ..)
  cases hs : u.on F.DISP_STATUS_STALE with
  | true =>
    rw [if_pos rfl, State.raise_disp, State.wrB_disp, State.rd_raise _ _ _ _ (by decide)]
    exact ⟨rfl, State.rd_wrB _ _ _ (by decide) (by decide), (hu.wrB _ (by decide) (by simp)).raise _ (by simp)⟩
  | false =>
    rw [if_neg (by decide)]
    exact ⟨rfl, State.on_eq_false.1 hs, hu⟩

/-- A set-point accepted. -/
theorem State.dispAct_accepted {v : Option Via} {seq : Nat} {x : Int} (hk : kind = 1 ∨ kind = 2 ∨ kind = 3) (h : s.setPointResult kind x = 0) :
    (s.dispAct v seq kind x p).disp.newTarget = some x ∧ (s.dispAct v seq kind x p).rd F.DISP_STATUS_RESULT = 0 ∧
    (s.dispAct v seq kind x p).rd F.DISP_STATUS_STALE = 0 ∧
    (s.dispAct v seq kind x p).rd F.DISP_COUNTS_ACCEPTED = satCount F.DISP_COUNTS_ACCEPTED.width (s.rd F.DISP_COUNTS_ACCEPTED + 1) := by
  have he : s.dispAct v seq kind x p = (s.takeSetPoint x).dispDone v 0 0 := by
    rcases hk with rfl | rfl | rfl <;> simp [State.dispAct, h]
  obtain ⟨t1, t2, t3⟩ := s.takeSetPoint_spec x
  obtain ⟨d1, d2, d3, d4⟩ := (s.takeSetPoint x).dispShown_zero 0
  rw [he, State.dispDone_newTarget, State.rd_dispDone _ _ _ _ (by decide), State.rd_dispDone _ _ _ _ (by decide), State.rd_dispDone _ _ _ _ (by decide), d1,
    d4, d2, t3.rd (g := F.DISP_COUNTS_ACCEPTED) (by decide)]
  exact ⟨t1, rfl, (d3.rd (by decide)).trans t2, rfl⟩

/-- A set-point refused. -/
theorem State.dispAct_refused {v : Option Via} {seq : Nat} {x : Int} (hk : kind = 1 ∨ kind = 2 ∨ kind = 3) (h : s.setPointResult kind x ≠ 0) :
    (s.dispAct v seq kind x p).disp.newTarget = s.disp.newTarget ∧ (s.dispAct v seq kind x p).rd F.DISP_STATUS_RESULT = s.setPointResult kind x ∧
    (s.dispAct v seq kind x p).rd F.DISP_COUNTS_REFUSED = satCount F.DISP_COUNTS_REFUSED.width (s.rd F.DISP_COUNTS_REFUSED + 1) := by
  have he : s.dispAct v seq kind x p = s.dispDone v (s.setPointResult kind x) 0 := by
    rcases hk with rfl | rfl | rfl <;> simp [State.dispAct, h]
  obtain ⟨d1, d2, d3⟩ := s.dispShown_ne 0 h (s.setPointResult_lt kind x)
  rw [he, State.dispDone_newTarget, State.rd_dispDone _ _ _ _ (by decide), State.rd_dispDone _ _ _ _ (by decide), d1, d2, d3]
  exact ⟨rfl, rfl, rfl⟩

theorem State.setPointResult_taken (s : State) (v : Via) (m : List Byte) (k : Nat) (x : Int) :
    (s.dispTaken v m).setPointResult k x = s.setPointResult k x :=
  State.setPointResult_congr ((s.dispTaken_fields v m).rd (by decide)) ((s.dispTaken_fields v m).rd (by decide)) k x

/-- A set-point message that is sound, not too old and from the source in force is judged by its value. -/
theorem State.dispMessage_setPoint (hr : s.dispReaches v m = true) (hk : beAt m 3 1 = kind) (hd : s.dispDiscards v m = false) (ho : s.tooOld m = false)
    (hs : s.rd F.DISP_CFG_SRC = viaSource v) (h3 : kind = 1 ∨ kind = 2 ∨ kind = 3) :
    s.dispMessage v kind m p = (if s.setPointResult kind (beIAt m 24 4) = 0 then s.dispTaken v m else s.dispNoted m).dispAct (some v) (beAt m 8 4) kind
      (beIAt m 24 4) p := by
  have h1 : (kind == 1 || kind == 2 || kind == 3) = true := by rcases h3 with rfl | rfl | rfl <;> rfl
  rw [State.dispMessage_noted hr hk hd ho, if_neg (by simp [hs]), if_pos h1]
  simp only [beq_iff_eq]

/-- What an accepted set-point message leaves. -/
theorem State.dispMessage_accepted (hr : s.dispReaches v m = true) (hk : beAt m 3 1 = kind) (hd : s.dispDiscards v m = false) (ho : s.tooOld m = false)
    (hs : s.rd F.DISP_CFG_SRC = viaSource v) (h3 : kind = 1 ∨ kind = 2 ∨ kind = 3) (h0 : s.setPointResult kind (beIAt m 24 4) = 0) :
    (s.dispMessage v kind m p).disp.newTarget = some (beIAt m 24 4) ∧ (s.dispMessage v kind m p).rd F.DISP_STATUS_RESULT = 0 ∧
    (s.dispMessage v kind m p).rd F.DISP_STATUS_STALE = 0 ∧
    (s.dispMessage v kind m p).rd F.DISP_COUNTS_ACCEPTED = satCount F.DISP_COUNTS_ACCEPTED.width (s.rd F.DISP_COUNTS_ACCEPTED + 1) := by
  obtain ⟨a1, a2, a3, a4⟩ := State.dispAct_accepted (s := s.dispTaken v m) (v := some v) (seq := beAt m 8 4) (p := p) h3
    ((s.setPointResult_taken v m kind _).trans h0)
  rw [State.dispMessage_setPoint hr hk hd ho hs h3, if_pos h0]
  exact ⟨a1, a2, a3, a4.trans (by rw [(s.dispTaken_fields v m).rd (by decide)])⟩

end Acts

/-- Settles O39: a message that is judged acts by its kind, and its result is shown and counted. -/
theorem dispatchMessages : Obligations.DispatchMessages := by
  refine ⟨fun v m s hr hk hd ho hs h0 => ?_, fun v m s hr hk hd ho hs h0 => ?_, fun v m s hr hk hd ho hs h0 => ?_, fun v m s hr hk hd ho hs h0 => ?_,
    fun v m s hr hk hd => ?_, fun v m p s hr hk hd ho ht hc hm hn => ?_, fun v m s hr hk hd ho => ?_, fun v m s hr hk hd ho h2 hs ha => ?_,
    fun who p s hb hk hs h0 => ?_⟩
  · exact .of_eq rfl rfl (State.dispMessage_accepted hr hk hd ho hs (.inl rfl) h0)
  · exact .of_eq rfl rfl (State.dispMessage_accepted hr hk hd ho hs (.inr (.inl rfl)) h0)
  · exact .of_eq rfl rfl (State.dispMessage_accepted hr hk hd ho hs (.inr (.inr rfl)) h0)
  · refine .of_eq rfl (State.dispMessage_setPoint hr hk hd ho hs (.inl rfl)) ?_
    rw [if_neg h0]
    exact State.dispAct_refused (s := s.dispNoted m) (.inl rfl) h0
  · refine .of_eq rfl ((if_neg (by simp [hr])).trans (if_pos hd)) ⟨State.rd_bump _ _ _ (by decide), OnlyFields.refl.bump _ (by decide) (by simp),
      State.bump_disp ..⟩
  · have hu := s.dispTaken_fields v m
    have hm' : (s.dispTaken v m).mode = .run := (State.mode_of_rd (hu.rd (by decide))).trans hm
    have hn' : (s.dispTaken v m).nOn = 0 := (State.nOn_of_rd (hu.rd (by decide))).trans hn
    have hin : Within [.regs, .disp] s (s.dispTaken v m) := State.dispSeq_within (by decide) (by decide) (within_upd .rfl (disp := .inl (by decide)))
    have hrest : s.requestResult .dispatch .rest false p = 0 := hc
    have hreq : (s.dispTaken v m).requestResult .dispatch .rest false p = 0 := by
      rw [State.requestResult_rest hm', State.underWay_congr (hin.crown (by decide)) (hin.track (by decide)) (hin.prot (by decide)) (hu.rd (by decide)),
        State.inControl_of_rd (hu.rd (by decide)), ← State.requestResult_rest (who := .dispatch) (p := p) hm, hrest]
    have hcode : (s.dispTaken v m).modeCode 4 p = 0 := hreq
    have hx := State.dispMessage_noted (p := p) hr hk hd ho
    have hok : s.modeCode (4 : Int).toNat p = 0 := hc
    rw [if_neg (by simp), if_pos (by rw [ht, hok]; rfl)] at hx
    have hact : (s.dispTaken v m).dispAct (some v) (beAt m 8 4) 0x10 (beIAt m 24 4) p =
        ((((s.dispTaken v m).wr F.CROWN_MODE_REQ_RESULT 0).abortRun 2).loopOff.setMode .rest).dispDone (some v) 0 0 := by
      rw [← State.modeReqWrite_rest (p := p) hreq hm' hn']
      simp only [State.dispAct, ht]
      rw [show (4 : Int).toNat = 4 from rfl, hcode]
      rfl
    rw [hact] at hx
    obtain ⟨d1, d2, d3, -⟩ := State.dispShown_zero ((((s.dispTaken v m).wr F.CROWN_MODE_REQ_RESULT 0).abortRun 2).loopOff.setMode .rest) 0
    refine .of_eq rfl hx ⟨?_, ?_, ?_⟩
    · rw [State.mode, State.rd_dispDone _ _ _ _ (by decide), d3.rd (by decide)]
      exact State.mode_setMode ..
    · rw [State.rd_dispDone _ _ _ _ (by decide), d1]
    · rw [State.rd_dispDone _ _ _ _ (by decide), d2, (State.restEntered_where _).rd (by unfold StopWords; decide),
        State.rd_wr_apart _ _ _ _ (by decide) (by decide), hu.rd (by decide)]
  · have hx := State.dispMessage_noted (p := {}) hr hk hd ho
    rw [if_neg (by simp), if_neg (by simp)] at hx
    exact .of_eq rfl hx ⟨rfl, rfl⟩
  · have hu := s.dispTaken_fields v m
    have hx := State.dispMessage_noted (p := {}) hr hk hd ho
    rw [if_neg (by simp), if_pos (by rfl)] at hx
    have hin : Within [.regs, .disp] s (s.dispTaken v m) := State.dispSeq_within (by decide) (by decide) (within_upd .rfl (disp := .inl (by decide)))
    have himp : (s.dispTaken v m).imp = s.imp := hin.imp (by decide)
    obtain ⟨a1, a2⟩ := State.abortRun_stop (s := s.dispTaken v m) ((hu.rd (by decide)).trans h2) (by rw [himp]; exact hs) (by rw [himp]; exact ha)
    obtain ⟨d1, -, d3, -⟩ := ((s.dispTaken v m).abortRun 1).dispShown_zero 0
    have hact : (s.dispTaken v m).dispAct (some v) (beAt m 8 4) 0x12 (beIAt m 24 4) {} = ((s.dispTaken v m).abortRun 1).dispDone (some v) 0 0 := rfl
    rw [hact] at hx
    refine .of_eq rfl hx ⟨?_, ?_, ?_⟩
    · rw [State.rd_dispDone _ _ _ _ (by decide), d3.rd (by decide), a1]
    · rw [State.rd_dispDone _ _ _ _ (by decide), d3.rd (by decide), a2]
    · rw [State.rd_dispDone _ _ _ _ (by decide), d1]
  · refine .of_asWrite rfl hb ?_
    have hx : (s.result who A.DISP_CMD 0).dispTake p = (s.result who A.DISP_CMD 0).dispAct none 0 1 (s.rdI F.DISP_SP_VALUE_VALUE) p := by
      unfold State.dispTake
      extract_lets kind
      have hkind : kind = 1 := (State.rd_result ..).trans hk
      rw [hkind, if_neg (by simp [hs]), State.rdI, State.rd_result]
      rfl
    have h0' : (s.result who A.DISP_CMD 0).setPointResult 1 (s.rdI F.DISP_SP_VALUE_VALUE) = 0 :=
      (State.setPointResult_congr (State.rd_result ..) (State.rd_result ..) _ _).trans h0
    obtain ⟨a1, a2, -, -⟩ := State.dispAct_accepted (v := none) (seq := 0) (p := p) (.inl rfl) h0'
    rw [hx]
    exact ⟨a1, a2⟩

end Sys2Proof.Machine
end

section
/-!
Conditions, and O29: the plausibility checks and the fault loop.
-/
set_option Elab.async false
namespace Sys2Proof.Machine
open Sys2Proof

/-! ## Conditions -/

section Conditions
variable (s : State) (c : Cond) (r : RClass)

theorem State.refreshActive_pages : OnlyPages [0x30] s s.refreshActive := by
  unfold State.refreshActive
  exact ((OnlyPages.refl.wrB (by decide)).wrB (by decide)).wrB (by decide)

theorem State.refreshActive_prot : s.refreshActive.prot = s.prot := by
  unfold State.refreshActive
  simp only [State.wrB_prot]

/-- The active conditions with one added. -/
def condsWith (l : List (Cond × RClass)) (c : Cond) (r : RClass) : List (Cond × RClass) := (l.filter fun x => x.1 != c) ++ [(c, r)]

theorem State.addCond_prot : (s.addCond c r).prot = { s.prot with conds := condsWith s.prot.conds c r } := State.refreshActive_prot _

theorem State.addCond_pages : OnlyPages [0x30] s (s.addCond c r) := (OnlyPages.of_regs (State.mk_regs ..)).trans (State.refreshActive_pages _)

/-- The word of PROT.STATUS. -/
def ActiveWord (a : Nat) : Prop := a = 0x3000C

theorem State.refreshActive_where : OnlyWhere ActiveWord s s.refreshActive := by
  have h : ActiveWord 0x3000C := rfl
  unfold State.refreshActive
  exact ((OnlyWhere.refl.wrB (f := F.PROT_STATUS_L_ACTIVE) h).wrB (f := F.PROT_STATUS_S_ACTIVE) h).wrB (f := F.PROT_STATUS_H_ACTIVE) h

theorem State.addCond_where : OnlyWhere ActiveWord s (s.addCond c r) := (OnlyWhere.of_regs (State.mk_regs ..)).trans (State.refreshActive_where _)

/-- The words of PROT.STATUS and SAFE.STATUS. -/
def ClearWords (a : Nat) : Prop := a = 0x3000C ∨ a = 0x3100C

theorem State.closeFeed_clear : OnlyWhere ClearWords s s.closeFeed := by
  unfold State.closeFeed
  exact .ite (OnlyWhere.refl.wrB (f := F.SAFE_STATUS_COIL_FEED) (.inr rfl)) .refl

theorem State.clearCond_where : OnlyWhere ClearWords s (s.clearCond c) := by
  unfold State.clearCond
  refine .ite ?_ .refl
  exact ((OnlyWhere.of_regs (State.mk_regs ..)).andThen (State.refreshActive_where _) fun _ h => .inl h).trans (State.closeFeed_clear _)

theorem State.hasCond_of_prot {s t : State} (h : t.prot.conds = s.prot.conds) (c : Cond) : t.hasCond c = s.hasCond c := by
  rw [State.hasCond, State.hasCond, h]

theorem State.hasCond_addCond : (s.addCond c r).hasCond c = true := by
  rw [State.hasCond, State.addCond_prot, condsWith, List.any_append]
  simp

theorem State.clearCond_pages : OnlyPages [0x30, 0x31] s (s.clearCond c) := by
  unfold State.clearCond
  refine .ite ?_ .refl
  exact ((OnlyPages.of_regs (State.mk_regs ..)).andThen (State.refreshActive_pages _) (by decide)).andThen (State.closeFeed_pages _) (by decide)

theorem State.hasCond_clearCond : (s.clearCond c).hasCond c = false := by
  unfold State.clearCond
  split
  · rw [State.hasCond, State.closeFeed_prot, State.refreshActive_prot, State.mk_prot, List.any_eq_false]
    intro x hx
    simpa using (List.mem_filter.1 hx).2
  · rename_i h
    exact Bool.eq_false_iff.2 h

theorem State.clearCond_prot : ∃ l, (s.clearCond c).prot = { s.prot with conds := l } := by
  unfold State.clearCond
  split
  · exact ⟨_, (State.closeFeed_prot _).trans (State.refreshActive_prot _)⟩
  · exact ⟨s.prot.conds, rfl⟩

theorem OnlyWhere.lasting {W : Nat → Prop} {s t : State} (h : OnlyWhere W s t) {page code : Nat} (hp : W (pageFld page 0x02C 0 16).addr) :
    OnlyWhere W s (t.lasting page code) := (h.wr hp).bump (f := pageFld page 0x02C 16 8) hp

theorem OnlyPages.lasting {P : List Nat} {s t : State} (h : OnlyPages P s t) {page code : Nat} (hp : pageOf (pageFld page 0x02C 0 16).addr ∈ P) :
    OnlyPages P s (t.lasting page code) := (h.wr hp).bump (f := pageFld page 0x02C 16 8) hp

theorem State.rd_lasting (page : Nat) (ev : Ev) : (s.lasting page (evCode page ev)).rd (pageFld page 0x02C 0 16) = evCode page ev :=
  s.rd_lastingW page ev [] false

end Conditions

/-! ## Plausibility checks -/

section Plausibility
variable (s : State)

theorem State.react_harv (r : RClass) (source : Nat) (ev : Ev) (data : List Int) (cause : Nat) (same : Bool) : (s.react r source ev data cause same).harv = s.harv :=
  (State.react_within (T := [.regs, .shadow, .out, .crown, .stg, .q91, .pwm, .loop, .track, .prot, .rk, .scan, .imp, .est, .tmx, .ringSt, .bal, .tele, .nvm, .pair]) (by decide) (by decide) (by decide) (by decide) (by decide) (by decide) (by decide) (by decide) (by decide) (by decide) (by decide) (by decide) (by decide) (by decide) (by decide) (by decide) (by decide) (by decide) (by decide) (by decide) .rfl).harv (by decide)

theorem State.replan_harv : (s.replan).harv = s.harv :=
  (State.replan_within (T := [.regs, .out, .q91, .rk, .scan, .ringSt, .bal, .pair]) (by decide) (by decide) (by decide) (by decide) (by decide) (by decide) (by decide) (by decide) .rfl).harv (by decide)

theorem State.consume_harv (q eseq : Nat) : (s.consume q eseq).harv = s.harv :=
  (State.consume_within (T := [.regs, .eng]) (by decide) (by decide) .rfl).harv (by decide)

theorem State.plausStatus_harv : (s.plausStatus).harv = s.harv :=
  (State.plausStatus_within (T := [.regs]) (by decide) .rfl).harv (by decide)

theorem State.retryPass_harv (page : Nat) : (s.retryPass page).harv = s.harv :=
  (State.retryPass_within (T := [.regs, .q91]) (by decide) (by decide) .rfl).harv (by decide)

theorem State.clearCond_harv (c : Cond) : (s.clearCond c).harv = s.harv :=
  (State.clearCond_within (T := [.regs, .prot]) (by decide) (by decide) .rfl).harv (by decide)

theorem State.addCond_harv (c : Cond) (r : RClass) : (s.addCond c r).harv = s.harv :=
  (State.addCond_within (T := [.regs, .prot]) (by decide) (by decide) .rfl).harv (by decide)

theorem State.setSuspect_harv (k i : Nat) (b : Bool) : (s.setSuspect k i b).harv = s.harv :=
  (State.setSuspect_within (T := [.regs]) (by decide) .rfl).harv (by decide)

theorem State.relinquishOr_harv (cause : Nat) (f : State → State) (hf : ∀ u : State, (f u).harv = u.harv) : (s.relinquishOr cause f).harv = s.harv := by
  have h : Within [.regs, .shadow, .out, .crown, .stg, .q91, .pwm, .loop, .track, .prot, .rk, .scan, .imp, .ringSt, .bal, .pair] s
      (s.relinquishOr cause fun u => u) :=
    State.relinquishOr_within (by decide) (by decide) (by decide) (by decide) (by decide) (by decide) (by decide) (by decide) (by decide) (by decide)
      (by decide) (by decide) (by decide) (by decide) (by decide) (by decide) .rfl fun _ h => h
  have hh := h.harv (by decide)
  unfold State.relinquishOr at hh ⊢
  split
  · rename_i hc
    rwa [if_pos hc] at hh
  · exact hf s

/-- PLAUS.LAST shows the check that failed last. -/
def State.plausShown (s : State) (k i : Nat) (d : Int) : State := ((s.wr F.PLAUS_LAST_INDEX i).wr F.PLAUS_LAST_CHECK k).wrI F.PLAUS_LAST_DIFF d

/-- A check judged failing is noted for the whole check and for the next slot. -/
def State.plausNoted (s : State) (k i : Nat) : State :=
  { s with harv := { s.harv with failNow := s.harv.failNow ||| 2 ^ (k - 1), passes := mset 0 s.harv.passes (1000 * k + i) 0,
                                 early := s.harv.early || (decide (k ≤ 2) && s.on F.HARVEST_CFG_C_EN) } }

/-- An item that fails and was neither pending nor bad. -/
def State.plausPends (s : State) (k i : Nat) : State := { s with harv := { s.harv with pend := s.harv.pend ++ [1000 * k + i] } }

theorem State.plausShown_harv (k i : Nat) (d : Int) : (s.plausShown k i d).harv = s.harv := (State.wr_harv ..).trans ((State.wr_harv ..).trans (State.wr_harv ..))

theorem State.plausLasts_harv (k i : Nat) (d : Int) : (s.plausLasts k i d).harv =
    { s.harv with pend := s.harv.pend.filter (· != (1000 * k + i)), bad := s.harv.bad ++ [1000 * k + i],
                  verdicts := s.harv.verdicts ++ [(k, i, d)] } := by
  unfold State.plausLasts
  extract_lets id h s1 s2 s3
  have h3 : s3.harv = s1.harv := by
    rw [State.addCond_harv]
    exact ((State.bump_harv ..).trans (State.wr_harv ..)).trans ((State.raise_harv ..).trans (State.setSuspect_harv ..))
  split
  · rw [State.replan_harv, h3]
  · exact h3

/-- A check that passes ends the pending state of its item. -/
def State.plausPassed (s : State) (k i : Nat) : State :=
  if s.harv.pend.contains (1000 * k + i) then
    ({ s with harv := { s.harv with pend := s.harv.pend.filter (· != (1000 * k + i)) } }.retryPass 0x1C).raise 0x1C 0
  else s

/-- The state after the passing check that ends a lasting verdict. -/
def State.plausCleared (s : State) (k i : Nat) : State :=
  { s with harv := { s.harv with bad := s.harv.bad.filter (· != (1000 * k + i)), passes := mset 0 s.harv.passes (1000 * k + i) 0 } }

/-- A passing check of an item with a lasting verdict counts towards its end. -/
def State.plausStreak (s : State) (k i : Nat) : State :=
  let n := mget 0 s.harv.passes (1000 * k + i) + 1
  let cls := RClass.ofCode (s.rd F.PLAUS_REACT_C / 4 ^ (k - 1) % 4)
  if n ≥ 16 && (cls == .W || cls == .L) then (((s.plausCleared k i).setSuspect k i false).clearCond (.plaus (1000 * k + i))).raise 0x1C 2
  else { s with harv := { s.harv with passes := mset 0 s.harv.passes (1000 * k + i) (min n 16) } }

theorem State.plausJudge_pass (k i : Nat) (d : Int) : s.plausJudge k (i, true, d) =
    if (s.plausPassed k i).harv.bad.contains (1000 * k + i) then (s.plausPassed k i).plausStreak k i else s.plausPassed k i := rfl

theorem State.plausJudge_fail (k i : Nat) (d : Int) : s.plausJudge k (i, false, d) =
    if ((s.plausShown k i d).plausNoted k i).harv.bad.contains (1000 * k + i) then (s.plausShown k i d).plausNoted k i
    else if ((s.plausShown k i d).plausNoted k i).harv.pend.contains (1000 * k + i) then ((s.plausShown k i d).plausNoted k i).plausLasts k i d
    else ((s.plausShown k i d).plausNoted k i).plausPends k i := rfl

theorem State.plausPassed_checks (k i : Nat) : (s.plausPassed k i).harv.checks = s.harv.checks := by
  unfold State.plausPassed
  split
  · rw [State.raise_harv, State.retryPass_harv]
  · rfl

theorem State.plausStreak_checks (k i : Nat) : (s.plausStreak k i).harv.checks = s.harv.checks := by
  unfold State.plausStreak
  extract_lets n cls
  split
  · rw [State.raise_harv, State.clearCond_harv, State.setSuspect_harv]
    rfl
  · rfl

/-- A check judged leaves the records that wait for theirs. -/
theorem State.plausJudge_checks (k : Nat) (e : Eval) : (s.plausJudge k e).harv.checks = s.harv.checks := by
  obtain ⟨i, pass, d⟩ := e
  cases pass with
  | true =>
    rw [State.plausJudge_pass]
    split
    · exact (State.plausStreak_checks _ k i).trans (s.plausPassed_checks k i)
    · exact s.plausPassed_checks k i
  | false =>
    have h0 : ((s.plausShown k i d).plausNoted k i).harv.checks = s.harv.checks := by
      change (s.plausShown k i d).harv.checks = s.harv.checks
      rw [State.plausShown_harv]
    rw [State.plausJudge_fail]
    split
    · exact h0
    · split
      · rw [State.plausLasts_harv]
        exact h0
      · exact h0

theorem State.plausCheck_checks (r : Record) (k : Nat) : (s.plausCheck r k).harv.checks = s.harv.checks := by
  unfold State.plausCheck
  extract_lets l h u
  have hu : u.harv.checks = s.harv.checks := rfl
  have hf : ∀ (l : List Eval) (v : State), (l.foldl (fun s e => s.plausJudge k e) v).harv.checks = v.harv.checks := by
    intro l
    induction l with
    | nil => exact fun _ => rfl
    | cons e l ih => exact fun v => (ih _).trans (v.plausJudge_checks k e)
  split
  · rfl
  · exact (hf l u).trans hu

theorem foldl_harv {α : Type} {f : State → α → State} (hf : ∀ u x, (f u x).harv = u.harv) (l : List α) (u : State) : (l.foldl f u).harv = u.harv := by
  induction l generalizing u with
  | nil => rfl
  | cons x l ih => exact (ih _).trans (hf u x)

/-- The reaction to one verdict. -/
def plausReactOne (active : Bool) (s : State) (x : Nat × Nat × Int) : State :=
  let react (s : State) : State := s.react (RClass.ofCode (s.rd F.PLAUS_REACT_C / 4 ^ (x.1 - 1) % 4)) 0x1C .plausibility [(x.1 : Int), (x.2.1 : Int), x.2.2] 7 s.sameEngine
  if x.1 ≥ 3 && active && s.rd F.PLAUS_STATUS_SUSPECT_PATH == 2 then (if s.rd F.PAIR_STATUS_ROLE == 3 then s else s.relinquishOr 5 react)
  else react s

theorem State.plausReact_eq : s.plausReact =
    s.harv.verdicts.foldl (plausReactOne (s.rd F.PAIR_STATUS_ROLE == 1)) { s with harv := { s.harv with verdicts := [] } } := rfl

theorem plausReactOne_harv (active : Bool) (u : State) (x : Nat × Nat × Int) : (plausReactOne active u x).harv = u.harv := by
  unfold plausReactOne
  extract_lets react
  split
  · split
    · rfl
    · exact State.relinquishOr_harv _ _ _ fun v => State.react_harv ..
  · exact State.react_harv ..

theorem State.plausReact_checks : s.plausReact.harv.checks = s.harv.checks := by
  rw [State.plausReact_eq, foldl_harv (plausReactOne_harv _)]

theorem State.bypassCheck_checks (r : Record) : (s.bypassCheck r).harv.checks = s.harv.checks := by
  unfold State.bypassCheck
  extract_lets now twice was h u v
  have hu : u.harv.checks = s.harv.checks := rfl
  split
  · split
    · exact hu
    · refine (congrArg Harvest.checks ((State.react_harv ..).trans ((State.addCond_harv ..).trans ?_))).trans hu
      exact ((State.bump_harv ..).trans (State.wr_harv ..)).trans ((State.raise_harv ..).trans (State.wrB_harv ..))
  · split
    · refine (congrArg Harvest.checks ((State.clearCond_harv ..).trans ((State.wrB_harv ..).trans ?_))).trans hu
      unfold v
      split
      · exact State.retryPass_harv ..
      · rfl
    · exact hu

theorem State.rd_plausLasts (k i : Nat) (d : Int) : (s.plausLasts k i d).rd (pageFld 0x1C 0x02C 0 16) = evCode 0x1C .plausibility := by
  unfold State.plausLasts
  extract_lets id h s1 s2 s3
  have h3 : s3.rd (pageFld 0x1C 0x02C 0 16) = evCode 0x1C .plausibility :=
    ((State.addCond_pages _ _ _).rd (by decide)).trans (State.rd_lasting ..)
  split
  · exact ((State.replan_pages s3).rd (by decide)).trans h3
  · exact h3

/-! ## The fault loop -/

/-- The loop shown open with its current. -/
def State.loopShown (s : State) (ma : BitVec 8) : State := (s.wrB F.NODE_STATUS_LOOP_CLOSED false).wr F.NODE_STATUS_LOOP_MA ma.toNat

/-- The condition and the trip of an open loop. -/
def State.loopTrip (s : State) (ma : BitVec 8) : State :=
  (((s.loopShown ma).raise 0x1B 0).addCond .loopOpen .H).react .H 0x1B .loopOpened [ma.toNat]

/-- Nothing of a stop's words is one of the page of the nodes. -/
theorem not_stopWords_node : ¬ StopWords F.NODE_STATUS_LOOP_CLOSED.addr := by
  unfold StopWords
  decide

theorem State.loopTrip_spec (ma : BitVec 8) (hs : s.canStop = true) : Stopping (s.loopTrip ma) ∧ (s.loopTrip ma).rd F.NODE_STATUS_LOOP_CLOSED = 0 ∧
    (s.loopTrip ma).rd F.NODE_STATUS_LOOP_MA = ma.toNat := by
  have hp := State.addCond_pages ((s.loopShown ma).raise 0x1B 0) .loopOpen .H
  have hw := State.react_where (((s.loopShown ma).raise 0x1B 0).addCond .loopOpen .H) .H 0x1B .loopOpened [ma.toNat] 7 false
  refine ⟨State.react_stopping _ _ _ _ _ _ _ (.inr rfl) ?_, ?_, ?_⟩
  · refine (State.canStop_of (hp.mode (by decide) |>.trans ?_) ((hp.rd (by decide)).trans ?_)).trans hs
    · rw [State.mode_raise _ _ (by decide), State.loopShown, State.mode_wr_apart _ _ (by decide) (by decide)]
      exact State.mode_wr_apart _ _ (by decide) (by decide)
    · rw [State.rd_raise _ _ _ _ (by decide), State.loopShown, State.rd_wr_apart _ _ _ _ (by decide) (by decide)]
      exact State.rd_wrB_apart _ _ _ _ (by decide) (by decide)
  · refine (hw.rd not_stopWords_node).trans ((hp.rd (by decide)).trans ((State.rd_raise _ _ _ _ (by decide)).trans ?_))
    exact (State.rd_wr_apart _ _ _ _ (by decide) (by decide)).trans (State.rd_wrB _ _ _ (by decide) (by decide))
  · refine (hw.rd (f := F.NODE_STATUS_LOOP_MA) not_stopWords_node).trans ((hp.rd (by decide)).trans ((State.rd_raise _ _ _ _ (by decide)).trans ?_))
    exact (State.rd_wr _ _ _ (by decide)).trans (Nat.mod_eq_of_lt ma.isLt)

theorem Stopping.of_kept {s t : State} (h : Stopping s) (hp : t.prot = s.prot) (hm : t.mode = s.mode) : Stopping t := by
  rcases h with h | h
  · exact .inl (hp ▸ h)
  · exact .inr (hm.trans h)

end Plausibility

/-- Settles O29: a check judges its items one by one, and the loop's opening is a hard trip's condition. -/
theorem plausibilityAndLoop : Obligations.PlausibilityAndLoop := by
  refine ⟨fun s hc => ?_, fun s k i d hb hp => ?_, fun s k i d hb hp => ?_, fun ma s hc hs => ?_, fun ma s hm => ?_, fun ma s hl => ?_⟩
  · change ∃ t, execPlausibilityCheck s = .next t ∧ _
    unfold execPlausibilityCheck
    split
    · rename_i hl
      exact absurd hl hc
    rename_i r l hl
    rw [hl, List.tail_cons]
    extract_lets h s1 s2
    have h2 : s2.harv.checks = l := by
      unfold s2
      split
      · rfl
      · rw [State.consume_harv]
    have hf : ∀ u : State, ([1, 2, 3, 4].foldl (fun s k => s.plausCheck r k) u).harv.checks = u.harv.checks := fun u => by
      simp only [List.foldl_cons, List.foldl_nil, State.plausCheck_checks]
    split
    · exact ⟨_, rfl, (State.bypassCheck_checks _ r).trans h2⟩
    · refine ⟨_, rfl, (State.bypassCheck_checks _ r).trans ((State.plausReact_checks _).trans ?_)⟩
      rw [State.plausStatus_harv, hf, h2]
  · have hh := (s.plausShown_harv k i d)
    have he : s.plausJudge k (i, false, d) = ((s.plausShown k i d).plausNoted k i).plausPends k i := by
      rw [State.plausJudge_fail, if_neg, if_neg]
      · change ¬ (s.plausShown k i d).harv.pend.contains (1000 * k + i) = true
        rw [hh, hp]
        decide
      · change ¬ (s.plausShown k i d).harv.bad.contains (1000 * k + i) = true
        rw [hh, hb]
        decide
    rw [he]
    refine ⟨?_, ?_⟩
    · change (s.plausShown k i d).harv.pend ++ _ = _
      rw [hh]
    · refine (State.rd_regs (s := s.plausShown k i d) rfl _).trans ?_
      exact (State.rd_wrI_apart _ _ _ _ (by decide) (by decide)).trans (State.rd_wr _ _ _ (by decide))
  · have hh := (s.plausShown_harv k i d)
    have he : s.plausJudge k (i, false, d) = ((s.plausShown k i d).plausNoted k i).plausLasts k i d := by
      rw [State.plausJudge_fail, if_neg, if_pos]
      · change (s.plausShown k i d).harv.pend.contains (1000 * k + i) = true
        rw [hh, hp]
      · change ¬ (s.plausShown k i d).harv.bad.contains (1000 * k + i) = true
        rw [hh, hb]
        decide
    rw [he]
    refine ⟨?_, State.rd_plausLasts ..⟩
    rw [State.plausLasts_harv]
    change (s.plausShown k i d).harv.bad ++ _ = _
    rw [hh]
  · have hm : s.mode ≠ .transport := fun h => by
      have := State.canStop_mode hs
      rw [h] at this
      exact absurd this (by decide)
    change ∃ t, execLoopOpen ma s = .next t ∧ _
    unfold execLoopOpen
    extract_lets s1 s2 r s3
    have hc1 : s1.hasCond .loopOpen = false := (State.hasCond_of_prot (congrArg Prot.conds ((State.wr_prot ..).trans (State.wrB_prot ..))) _).trans hc
    have hm1 : s1.mode = s.mode := (State.mode_wr_apart _ _ (by decide) (by decide)).trans (State.mode_wr_apart _ _ (by decide) (by decide))
    have hb : (s1.mode == Mode.transport) = false := by
      rw [hm1]
      exact beq_eq_false_iff_ne.2 hm
    rw [if_neg (by rw [hc1, hb]; decide)]
    obtain ⟨h1, h2, h3⟩ := s.loopTrip_spec ma hs
    have hin : Within [.out, .ringSt] s2 (s3.nodes.foldl (fun s n => s.ringCmd n 0x30) s3) :=
      within_foldl (within_upd .rfl (ringSt := .inl (by decide))) fun _ _ h => State.ringCmd_within (by decide) (by decide) h
    have hr := hin.regs (by decide)
    exact ⟨_, rfl, Stopping.of_kept h1 (hin.prot (by decide)) (State.mode_of_rd (State.rd_regs hr _)), (State.rd_regs hr _).trans h2,
      (State.rd_regs hr _).trans h3⟩
  · have hx : exec (.loopOpen ma) s = .next ((s.wrB F.NODE_STATUS_LOOP_CLOSED false).wr F.NODE_STATUS_LOOP_MA ma.toNat) := by
      refine if_pos ?_
      have hm' : ((s.wrB F.NODE_STATUS_LOOP_CLOSED false).wr F.NODE_STATUS_LOOP_MA ma.toNat).mode = .transport := by
        rw [State.mode_wr_apart _ _ (by decide) (by decide)]
        exact (State.mode_wr_apart _ _ (by decide) (by decide)).trans hm
      rw [hm']
      exact Bool.or_true _
    refine .of_eq hx rfl ⟨?_, ?_, ?_, ?_⟩
    · exact (State.rd_wr_apart _ _ _ _ (by decide) (by decide)).trans (State.rd_wrB _ _ _ (by decide) (by decide))
    · exact (State.rd_wr _ _ _ (by decide)).trans (Nat.mod_eq_of_lt ma.isLt)
    · exact (OnlyFields.refl.wrB _ (by decide) (by simp)).wr _ (by decide) (by simp)
    · exact (State.wr_prot ..).trans (State.wrB_prot ..)
  · have hl' : (s.wr F.NODE_STATUS_LOOP_MA ma.toNat).on F.NODE_STATUS_LOOP_CLOSED = false :=
      (congrArg (· != 0) (State.rd_wr_apart _ _ _ _ (by decide) (by decide))).trans hl
    have hx : exec (.loopClosed ma) s = .next ((((s.wr F.NODE_STATUS_LOOP_MA ma.toNat).wrB F.NODE_STATUS_LOOP_CLOSED true).raise 0x1B 1).clearCond .loopOpen) :=
      if_neg (by simp [hl'])
    have hp := State.clearCond_pages (((s.wr F.NODE_STATUS_LOOP_MA ma.toNat).wrB F.NODE_STATUS_LOOP_CLOSED true).raise 0x1B 1) .loopOpen
    refine .of_eq hx rfl ⟨?_, ?_, ?_, State.hasCond_clearCond ..⟩
    · rw [hp.rd (by decide), State.rd_raise _ _ _ _ (by decide)]
      exact State.rd_wrB _ _ _ (by decide) (by decide)
    · rw [hp.rd (by decide), State.rd_raise _ _ _ _ (by decide), State.rd_wrB_apart _ _ _ _ (by decide) (by decide), State.rd_wr _ _ _ (by decide)]
      exact Nat.mod_eq_of_lt ma.isLt
    · exact (State.bit_rd (hp.rd (by decide)) 1).trans (State.bit_raise _ (by decide))

end Sys2Proof.Machine
end

section
/-!
O41: the protections of the engine.
-/
set_option Elab.async false
namespace Sys2Proof.Machine
open Sys2Proof

section Protections
variable {s : State} {bit : Nat} {k : Nat × Int} {fails : Bool} {data : List Int}

theorem exec_protEvaluation {b : Fin 8} {v w : Int} (he : s.on F.PROT_CFG_EN = true) (hm : s.mode ≠ .transport) (h6 : b.val ≠ 6) :
    exec (.protEvaluation b v w) s = .next (s.protJudge b.val (protPlace b.val w) (s.protFails b.val v) [w, v]) := by
  have hm' : (s.mode == Mode.transport) = false := beq_eq_false_iff_ne.2 hm
  have h6' : (b.val == 6) = false := beq_eq_false_iff_ne.2 h6
  exact if_neg (by rw [he, hm', h6']; simp)

theorem State.protJudge_pends (hn : s.protPasses k = none) (hp : s.prot.pending.contains k = false) :
    s.protJudge bit k true data = s.protPend k true := by
  unfold State.protJudge
  rw [hn]
  dsimp only
  rw [hp]
  rfl

theorem State.protJudge_lasts (hn : s.protPasses k = none) (hp : s.prot.pending.contains k = true) :
    s.protJudge bit k true data = ((s.protPend k false).protHold k (some 0)).protLasting bit data := by
  unfold State.protJudge
  rw [hn]
  dsimp only
  rw [hp]
  rfl

theorem State.protJudge_ends {n : Nat} (hn : s.protPasses k = some n) (h1 : 1 ≤ n) :
    s.protJudge bit k false data = if (s.protHold k none).prot.held.any (·.1.1 == bit) then s.protHold k none else (s.protHold k none).protClear bit := by
  unfold State.protJudge
  rw [hn]
  dsimp only
  rw [if_neg (by decide), if_neg (by omega)]

/-- A lasting verdict sets the bit and its condition, with PROT's lasting fault, and reacts by its class. -/
theorem State.protLasting_spec (s : State) {bit : Nat} (hb : bit < 9) (data : List Int) : (s.protLasting bit data).bit F.PROT_ACTIVE_BITS bit = true ∧
    (s.protLasting bit data).hasCond (.prot bit) = true ∧ (s.protLasting bit data).rd (pageFld 0x30 0x02C 0 16) = evCode 0x30 .protection := by
  unfold State.protLasting
  extract_lets c u
  have hw := State.react_where (u.addCond (.prot bit) c) c 0x30 .protection ((bit : Int) :: data) 7 u.sameEngine
  have hp := State.addCond_where u (.prot bit) c
  have hl : OnlyWhere (fun a => a = 0x3002C) ((s.wrBit F.PROT_ACTIVE_BITS bit true).raise 0x30 bit) u :=
    OnlyWhere.lasting (W := fun a => a = 0x3002C) .refl rfl
  refine ⟨?_, ?_, ?_⟩
  · refine (State.bit_rd (hw.rd (by unfold StopWords; decide)) bit).trans ((State.bit_rd (hp.rd (by unfold ActiveWord; decide)) bit).trans ?_)
    refine (State.bit_rd (hl.rd (by decide)) bit).trans ((State.bit_rd (State.rd_raise _ _ _ _ (by decide)) bit).trans ?_)
    exact State.bit_wrBit _ _ _ _ (by decide) hb
  · exact (State.hasCond_of_prot (State.react_prot ..).conds _).trans (State.hasCond_addCond ..)
  · exact (hw.rd (by unfold StopWords; decide)).trans ((hp.rd (by unfold ActiveWord; decide)).trans (State.rd_lasting ..))

theorem State.protLasting_stopping (s : State) {bit : Nat} (data : List Int) (hc : s.protClass bit = .S) (hs : s.canStop = true) :
    Stopping (s.protLasting bit data) := by
  unfold State.protLasting
  extract_lets c u
  have hp := State.addCond_where u (.prot bit) c
  have hl : OnlyPages [0x30] s u := ((OnlyPages.refl.wrBit (by decide)).raise (by decide)).lasting (by decide)
  refine State.react_stopping _ _ _ _ _ _ _ (.inl hc) ?_
  refine (State.canStop_of ((hp.mode (by unfold ActiveWord; decide)).trans (hl.mode (by decide))) ?_).trans hs
  exact (hp.rd (by unfold ActiveWord; decide)).trans (hl.rd (by decide))

end Protections

/-- Settles O41: a place's check goes from pending to lasting, with the bit's condition and reaction, and back after two passes. -/
theorem engineProtections : Obligations.EngineProtections := by
  refine ⟨fun b v w s he hm h6 hn hp hf => ?_, fun b v w s he hm h6 hn hp hf => ?_, fun b v w s he hs h6 hn hp hf hc => ?_,
    fun b v w n s he hm h6 hn h1 hh hf => ?_, fun s hp => ?_⟩
  · refine .of_eq (exec_protEvaluation he hm h6) ?_ (t := s.protPend (protPlace b.val w) true) ⟨rfl, rfl⟩
    rw [hf]
    exact State.protJudge_pends hn hp
  · refine .of_eq (exec_protEvaluation he hm h6) ?_ (State.protLasting_spec ((s.protPend (protPlace b.val w) false).protHold (protPlace b.val w) (some 0))
      (bit := b.val) (by omega) [w, v])
    rw [hf]
    exact State.protJudge_lasts hn hp
  · have hm : s.mode ≠ .transport := fun h => by
      have := State.canStop_mode hs
      rw [h] at this
      exact absurd this (by decide)
    refine .of_eq (exec_protEvaluation he hm h6) ?_ (t := ((s.protPend (protPlace b.val w) false).protHold (protPlace b.val w) (some 0)).protLasting b.val [w, v]) ?_
    · rw [hf]
      exact State.protJudge_lasts hn hp
    · exact State.protLasting_stopping _ [w, v] hc hs
  · have hx : s.protJudge b.val (protPlace b.val w) (s.protFails b.val v) [w, v] = (s.protHold (protPlace b.val w) none).protClear b.val := by
      rw [hf, State.protJudge_ends hn h1]
      exact if_neg (by rw [show (s.protHold (protPlace b.val w) none).prot.held = s.prot.held.filter (·.1 != protPlace b.val w) from rfl, hh]; decide)
    have hw := State.clearCond_where (((s.protHold (protPlace b.val w) none).wrBit F.PROT_ACTIVE_BITS b.val false).raise 0x30 (16 + b.val)) (.prot b.val)
    refine .of_eq (exec_protEvaluation he hm h6) hx ⟨?_, ?_, State.hasCond_clearCond ..⟩
    · refine (State.bit_rd (hw.rd (by unfold ClearWords; decide)) _).trans ((State.bit_rd (State.rd_raise _ _ _ _ (by decide)) _).trans ?_)
      exact State.bit_wrBit _ _ _ _ (by decide) (Nat.lt_succ_of_lt b.isLt)
    · exact (State.bit_rd (hw.rd (by unfold ClearWords; decide)) _).trans (State.bit_raise _ (by omega))
  · refine .of_eq rfl (if_pos ?_) (t := { s with prot := { s.prot with hall := false } }) ⟨rfl, rfl⟩
    rw [show ({ s with prot := { s.prot with hall := false } } : State).prot.pending = s.prot.pending from rfl, hp]
    exact Bool.or_true _

end Sys2Proof.Machine
end

section
/-!
O42: the safety island. A stop under way stays one through what the island does after it.
-/
set_option Elab.async false
namespace Sys2Proof.Machine
open Sys2Proof

section Stays
variable {s t : State}

theorem Stopping.of_srd (h : Stopping s) (hp : t.prot.srd = s.prot.srd) (hm : t.mode = s.mode) : Stopping t := by
  rcases h with h | h
  · exact .inl (hp ▸ h)
  · exact .inr (hm.trans h)

theorem Stopping.ite {c : Prop} [Decidable c] {a b : State} (ha : Stopping a) (hb : Stopping b) : Stopping (if c then a else b) := by
  split
  · exact ha
  · exact hb

variable (s)

theorem State.gatesOff_srd : s.gatesOff.prot.srd = s.prot.srd := congrArg Prot.srd s.gatesOff_prot

theorem State.endGateTest_srd (result : Nat) (atOnce : Bool) : (s.endGateTest result atOnce).prot.srd = s.prot.srd := by
  unfold State.endGateTest
  extract_lets s1 x y
  have h1 : s1.prot = s.prot := (State.raise_prot ..).trans (State.wr_prot ..)
  split
  · split
    · rw [State.mk_prot .., State.dropEnables_srd, State.wrB_prot, State.gatesOff_srd, h1]
    · rw [State.mk_prot .., h1]
  · rfl

variable {s}

theorem Stopping.endGateTest (h : Stopping s) (result : Nat) (atOnce : Bool) : Stopping (s.endGateTest result atOnce) :=
  h.of_srd (s.endGateTest_srd _ _) (State.mode_of_rdIs (State.endGateTest_mode rfl))

theorem Stopping.setLatch (h : Stopping s) (src : Nat) (ev : Ev) : Stopping (s.setLatch src ev) :=
  h.of_kept (s.setLatch_prot src ev) (State.mode_of_rdIs (State.setLatch_mode rfl))

theorem Stopping.closeFeed (h : Stopping s) : Stopping s.closeFeed := h.of_kept s.closeFeed_prot (State.mode_of_rdIs (State.closeFeed_mode rfl))

theorem Stopping.record (h : Stopping s) (sev src : Nat) (ev : Ev) (data : List Int) (same : Bool) : Stopping (s.record sev src ev data same) :=
  h.of_kept (State.record_prot ..) (State.record_mode' ..)

theorem Stopping.noteSH (h : Stopping s) (n : Nat) (ev : Ev) : Stopping (s.noteSH n ev) := h.of_srd rfl rfl

theorem Stopping.startSrd (h : Stopping s) (cause : Nat) (latch : Bool) (src : Nat) (ev : Ev) (fast : Bool) :
    Stopping (s.startSrd cause latch src ev fast) := by
  unfold State.startSrd
  extract_lets eff s1 s2 s3 p l s4
  have e4 : s4.prot.srd.isSome = true := rfl
  split
  · exact h
  · exact h
  · exact h.endGateTest _ _
  · exact .ite (h.setLatch _ _) h
  · refine .ite h (.ite (h.record _ _ _ _ _) (.ite h (.ite (State.srdRampEnd_stopping _ e4) (.inl ?_))))
    rw [State.wr_prot]
    rfl

theorem Stopping.tripMode (h : Stopping s) (src : Nat) (ev : Ev) : Stopping (s.tripMode src ev) := by
  unfold State.tripMode
  extract_lets s1 s2 d p s3
  split
  · exact h.closeFeed
  · exact h.closeFeed
  · exact h.setLatch _ _
  · exact .ite h.closeFeed (.ite (.inr (State.enterSafe_is_safe _ _ _ _)) (.inl rfl))

/-- The stages off and the loop frozen, as a hard trip begins. -/
theorem Stopping.tripBegun (h : Stopping s) : Stopping (((s.endGateTest 8 true).gatesOff.dropEnables).freezeAll true) := by
  have h1 := h.endGateTest 8 true
  generalize s.endGateTest 8 true = u at h1 ⊢
  have hm : ((u.gatesOff.dropEnables).freezeAll true).mode = u.mode :=
    State.mode_of_rdIs (State.freezeAll_mode (State.dropEnables_mode (State.gatesOff_mode rfl)))
  have hp : ((u.gatesOff.dropEnables).freezeAll true).prot.srd = u.prot.srd := by
    rw [State.freezeAll_prot, State.dropEnables_srd, State.gatesOff_srd]
  exact h1.of_srd hp hm

theorem Stopping.tripCounted (h : Stopping s) : Stopping (((s.wr F.SAFE_STATUS_SRD_CAUSE 9).bump F.SAFE_COUNTS_TRIPS).raise 0x31 2) :=
  h.of_kept s.tripCounted_prot (State.mode_of_rdIs (State.raise_mode (State.bump_rdIs (by decide) (State.wr_rdIs (by decide) rfl))))

theorem Stopping.hardTrip (h : Stopping s) (src : Nat) (ev : Ev) : Stopping (s.hardTrip src ev) := by
  unfold State.hardTrip
  extract_lets s1 s2
  have h1 : Stopping s1 := h.tripBegun
  have h2 : Stopping s2 := h1.tripCounted
  clear_value s2
  have hm : ((s2.cutFeed).cancelApply 9).mode = s2.mode := State.mode_of_rdIs (State.cancelApply_mode (State.cutFeed_mode rfl))
  have hp : ((s2.cutFeed).cancelApply 9).prot = s2.prot := by rw [State.cancelApply_prot, State.cutFeed_prot]
  exact .ite h ((h2.of_kept hp hm).tripMode src ev)

theorem Stopping.react (h : Stopping s) (r : RClass) (src : Nat) (ev : Ev) (data : List Int) (cause : Nat) (same : Bool) :
    Stopping (s.react r src ev data cause same) := by
  cases r with
  | W => exact h.record _ _ _ _ _
  | L => exact h.record _ _ _ _ _
  | S => exact ((h.record _ _ _ _ _).noteSH _ _).startSrd _ _ _ _ _
  | H => exact ((h.record _ _ _ _ _).noteSH _ _).hardTrip _ _

theorem State.lasting_prot (page code : Nat) : (s.lasting page code).prot = s.prot := (State.bump_prot ..).trans (State.wr_prot ..)

theorem State.lasting_canStop {page code : Nat} (hp : pageOf (pageFld page 0x02C 0 16).addr ≠ 0x38) (hm : pageOf (pageFld page 0x02C 0 16).addr ≠ 0) :
    (s.lasting page code).canStop = s.canStop := by
  have hl := OnlyPages.refl.lasting (s := s) (P := [pageOf (pageFld page 0x02C 0 16).addr]) (page := page) (code := code) (List.mem_singleton.2 rfl)
  exact State.canStop_of (hl.mode fun h => hm (List.mem_singleton.1 h).symm) (hl.rd fun h => hp (List.mem_singleton.1 h).symm)

theorem State.addCond_canStop (c : Cond) (r : RClass) : (s.addCond c r).canStop = s.canStop :=
  State.canStop_of ((s.addCond_pages c r).mode (by decide)) ((s.addCond_pages c r).rd (by decide))

theorem Stopping.clearCond (h : Stopping s) (c : Cond) : Stopping (s.clearCond c) := by
  obtain ⟨l, hl⟩ := s.clearCond_prot c
  exact h.of_srd (by rw [hl]) ((s.clearCond_pages c).mode (by decide))

theorem Stopping.addCond (h : Stopping s) (c : Cond) (r : RClass) : Stopping (s.addCond c r) :=
  h.of_srd (by rw [State.addCond_prot]) ((s.addCond_pages c r).mode (by decide))

theorem Stopping.lasting (h : Stopping s) (code : Nat) : Stopping (s.lasting 0x31 code) :=
  h.of_kept (State.lasting_prot ..) ((OnlyPages.refl.lasting (P := [0x31]) (by decide)).mode (by decide))

theorem State.retryPass_prot (page : Nat) : (s.retryPass page).prot = s.prot := (State.record_prot ..).trans (State.bump_prot ..)

theorem Stopping.retryPass (h : Stopping s) : Stopping (s.retryPass 0x31) :=
  h.of_kept (s.retryPass_prot 0x31) (OnlyPages.mode (P := [0x31]) ((OnlyPages.refl.bump (by decide)).upd (State.record_regs ..)) (by decide))

theorem State.hasCond_clearCond_ne {c d : Cond} (h : d ≠ c) : (s.clearCond c).hasCond d = s.hasCond d := by
  unfold State.clearCond
  split
  · rw [State.hasCond, State.closeFeed_prot, State.refreshActive_prot, State.mk_prot, State.hasCond, List.any_filter]
    exact congrArg (List.any _) (funext fun x => by by_cases hx : x.1 = d <;> simp [hx, h])
  · rfl

theorem State.hasCond_addCond_ne {c d : Cond} (h : d ≠ c) (r : RClass) : (s.addCond c r).hasCond d = s.hasCond d := by
  rw [State.hasCond, State.addCond_prot, condsWith, State.hasCond, List.any_append, List.any_filter]
  have hc : (c == d) = false := beq_eq_false_iff_ne.2 h.symm
  rw [List.any_cons, List.any_nil, hc, Bool.or_false, Bool.or_false]
  exact congrArg (List.any _) (funext fun x => by by_cases hx : x.1 = d <;> simp [hx, h])

/-- The island's note that a check awaits its second sample, set or dropped. -/
def State.islandPend (s : State) (c : Cond) (b : Bool) : State :=
  { s with prot := { s.prot with islandPending := (s.prot.islandPending.filter (· != c)) ++ (if b then [c] else []) } }

theorem State.islandJudge_eq (c : Cond) (fails : Bool) (cls : RClass) (lasting : State → State) : s.islandJudge c fails cls lasting =
    if s.hasCond c then (if fails then s else s.clearCond c)
    else if s.prot.islandPending.contains c then
      if fails then lasting ((s.islandPend c false).addCond c cls) else (s.islandPend c false).retryPass 0x31
    else if fails then s.islandPend c true else s := rfl

/-- What a judgement of the island keeps: what each of its parts keeps. -/
theorem State.islandJudge_keeps {P : State → Prop} {c : Cond} {fails : Bool} {cls : RClass} {lasting : State → State} (h : P s)
    (hp : ∀ u b, P u → P (u.islandPend c b)) (hc : ∀ u, P u → P (u.clearCond c)) (ha : ∀ u, P u → P (u.addCond c cls))
    (hr : ∀ u, P u → P (u.retryPass 0x31)) (hl : ∀ u, P u → P (lasting u)) : P (s.islandJudge c fails cls lasting) := by
  rw [State.islandJudge_eq]
  split
  · split
    · exact h
    · exact hc _ h
  · split
    · split
      · exact hl _ (ha _ (hp _ _ h))
      · exact hr _ (hp _ _ h)
    · split
      · exact hp _ _ h
      · exact h

/-- The island's lasting failure: its code, then the reaction. -/
def State.islandReact (s : State) (cls : RClass) (ev : Ev) (data : List Int) (cause : Nat) : State :=
  (s.lasting 0x31 (evCode 0x31 ev)).react cls 0x31 ev data cause

theorem Stopping.islandReact (h : Stopping s) (cls : RClass) (ev : Ev) (data : List Int) (cause : Nat) : Stopping (s.islandReact cls ev data cause) :=
  (h.lasting _).react _ _ _ _ _ _

theorem State.islandReact_stopping {cls : RClass} (ev : Ev) (data : List Int) (cause : Nat) (hr : cls = .S ∨ cls = .H) (h : s.canStop = true) :
    Stopping (s.islandReact cls ev data cause) :=
  State.react_stopping _ _ _ _ _ _ _ hr ((State.lasting_canStop (by decide) (by decide)).trans h)

theorem State.islandReact_prot (cls : RClass) (ev : Ev) (data : List Int) (cause : Nat) : StopProt s (s.islandReact cls ev data cause) :=
  (StopProt.of_eq (State.lasting_prot ..)).trans (State.react_prot _ _ _ _ _ _ _)

theorem Stopping.islandJudge (h : Stopping s) (c : Cond) (fails : Bool) (cls r : RClass) (ev : Ev) (data : List Int) (cause : Nat) :
    Stopping (s.islandJudge c fails cls fun u => u.islandReact r ev data cause) :=
  State.islandJudge_keeps h (fun _ _ hu => hu.of_srd rfl rfl) (fun _ hu => hu.clearCond c) (fun _ hu => hu.addCond c cls) (fun _ hu => hu.retryPass)
    fun _ hu => hu.islandReact _ _ _ _

theorem State.islandJudge_hasCond {c d : Cond} (hd : d ≠ c) (h : s.hasCond d = true) (fails : Bool) (cls r : RClass) (ev : Ev) (data : List Int) (cause : Nat) :
    (s.islandJudge c fails cls fun u => u.islandReact r ev data cause).hasCond d = true :=
  State.islandJudge_keeps (P := fun u => u.hasCond d = true) h (fun _ _ hu => hu) (fun _ hu => (State.hasCond_clearCond_ne hd).trans hu)
    (fun _ hu => (State.hasCond_addCond_ne hd cls).trans hu) (fun u hu => (State.hasCond_of_prot (congrArg Prot.conds (u.retryPass_prot 0x31)) d).trans hu)
    fun u hu => (State.hasCond_of_prot (u.islandReact_prot r ev data cause).conds d).trans hu

theorem State.islandJudge_pending {c d : Cond} (hd : d ≠ c) (h : s.prot.islandPending.contains d = true) (fails : Bool) (cls r : RClass) (ev : Ev)
    (data : List Int) (cause : Nat) :
    (s.islandJudge c fails cls fun u => u.islandReact r ev data cause).prot.islandPending.contains d = true := by
  refine State.islandJudge_keeps (P := fun u => u.prot.islandPending.contains d = true) h (fun u b hu => ?_) (fun u hu => ?_) (fun u hu => ?_)
    (fun u hu => ?_) fun u hu => ?_
  · have : d ∈ u.prot.islandPending := by simpa using hu
    exact List.contains_iff_mem.2 (List.mem_append_left _ (List.mem_filter.2 ⟨this, by simpa using hd⟩))
  · obtain ⟨l, hl⟩ := u.clearCond_prot c
    rw [hl]
    exact hu
  · rw [State.addCond_prot]
    exact hu
  · rw [State.retryPass_prot]
    exact hu
  · rw [(u.islandReact_prot r ev data cause).islandPending]
    exact hu

/-- What the envelope check keeps: the noted SRD's samples apart, it only counts, records and reacts. -/
theorem State.envelopeCheck_keeps {P : State → Prop} (h : P s) (i : Int)
    (hp : ∀ d, P { s with prot := { s.prot with srd := some d } })
    (hw : ∀ u, P u → P (u.raise 0x31 3)) (hr : ∀ u, P u → P (u.retryPass 0x31)) (hl : ∀ u, P u → P (u.islandReact .H .envelope [i] 7)) :
    P (s.envelopeCheck i) := by
  unfold State.envelopeCheck
  split
  · split
    · extract_lets out put t
      split
      · exact hl _ (hw _ (hp _))
      · split
        · exact hr _ (hp _)
        · exact hp _
    · exact h
  · exact h

theorem Stopping.envelopeCheck (h : Stopping s) (i : Int) : Stopping (s.envelopeCheck i) :=
  State.envelopeCheck_keeps h i (fun _ => .inl rfl)
    (fun _ hu => hu.of_kept (State.raise_prot ..) (State.mode_raise _ _ (by decide))) (fun _ hu => hu.retryPass) fun _ hu => hu.islandReact _ _ _ _

theorem State.envelopeCheck_hasCond {d : Cond} (h : s.hasCond d = true) (i : Int) : (s.envelopeCheck i).hasCond d = true :=
  State.envelopeCheck_keeps (P := fun u => u.hasCond d = true) h i (fun _ => h)
    (fun _ hu => (State.hasCond_of_prot (congrArg Prot.conds (State.raise_prot ..)) d).trans hu)
    (fun u hu => (State.hasCond_of_prot (congrArg Prot.conds (u.retryPass_prot 0x31)) d).trans hu)
    fun u hu => (State.hasCond_of_prot (u.islandReact_prot _ _ _ _).conds d).trans hu

theorem State.envelopeCheck_pending {d : Cond} (h : s.prot.islandPending.contains d = true) (i : Int) :
    (s.envelopeCheck i).prot.islandPending.contains d = true :=
  State.envelopeCheck_keeps (P := fun u => u.prot.islandPending.contains d = true) h i (fun _ => h)
    (fun _ hu => (congrArg (·.islandPending.contains d) (State.raise_prot ..)).trans hu)
    (fun u hu => (congrArg (·.islandPending.contains d) (u.retryPass_prot 0x31)).trans hu)
    fun u hu => (congrArg (·.contains d) (u.islandReact_prot _ _ _ _).islandPending).trans hu

/-! ## A sample -/

variable (s)

theorem State.readEnables_prot (e0 e1 : Bool) : (s.readEnables e0 e1).prot = s.prot := by
  unfold State.readEnables State.refreshGates
  split
  · rfl
  · rw [State.wrB_prot, State.wrB_prot, State.wrB_prot]

theorem State.readEnables_fields (e0 e1 : Bool) :
    OnlyFields [F.SAFE_STATUS_EN0, F.SAFE_STATUS_EN1, F.PSTAGE_STATUS_GATES_LIVE] s (s.readEnables e0 e1) := by
  unfold State.readEnables State.refreshGates
  exact .ite .refl (((OnlyFields.refl.wrB _ (by decide) (by decide)).wrB _ (by decide) (by decide)).wrB _ (by decide) (by decide))

theorem State.readEnables_canStop (e0 e1 : Bool) : (s.readEnables e0 e1).canStop = s.canStop :=
  State.canStop_of (congrArg Mode.ofCode ((s.readEnables_fields e0 e1).rd (by decide))) ((s.readEnables_fields e0 e1).rd (by decide))

/-- Whether a sample's currents lie beyond the trip. -/
def State.ocFails (s : State) (iShunt iHall : Int) : Bool :=
  decide (iShunt.natAbs > s.rd F.SAFE_OC_OC_TRIP * 100) || (s.on F.SAFE_CFG_DIVERSE && s.prot.hall && decide (iHall.natAbs > s.rd F.SAFE_OC_OC_TRIP * 100))

/-- The parts of a sample's judgement: the currents, the readbacks of the enables, the string's voltage with the envelope. -/
def State.sampleOc (s : State) (iShunt iHall : Int) : State :=
  s.islandJudge .overCurrent (s.ocFails iShunt iHall) .H fun u => u.islandReact .H .islandOc [iShunt, iHall] 9

def State.sampleEnables (s : State) (e0 e1 : Bool) : State :=
  s.islandJudge .gateReadback (e0 != s.prot.enableCmd || e1 != s.prot.enableCmd) .H fun u => u.islandReact .H .gateReadback [] 9

def State.sampleVolt (s : State) (iShunt vString : Int) : State :=
  (s.islandJudge .overVoltage (decide (vString > 100 * (s.rd F.SAFE_OV_STR_OV : Int))) .S
    fun u => u.islandReact .S .islandOv [vString] 5).envelopeCheck iShunt

variable {s}

theorem exec_islandSample (a b v : Int) (e0 e1 : Bool) (hm : s.mode ≠ .transport) : exec (.islandSample a b v e0 e1) s =
    .next ((((s.readEnables e0 e1).sampleOc a b).sampleEnables e0 e1).sampleVolt a v) := if_neg hm

theorem Stopping.sampleEnables (h : Stopping s) (e0 e1 : Bool) : Stopping (s.sampleEnables e0 e1) := h.islandJudge _ _ _ _ _ _ _

theorem Stopping.sampleVolt (h : Stopping s) (a v : Int) : Stopping (s.sampleVolt a v) := (h.islandJudge _ _ _ _ _ _ _).envelopeCheck _

theorem State.sampleVolt_hasCond {d : Cond} (hd : d ≠ .overVoltage) (h : s.hasCond d = true) (a v : Int) : (s.sampleVolt a v).hasCond d = true :=
  State.envelopeCheck_hasCond (State.islandJudge_hasCond hd h _ _ _ _ _ _) _

theorem State.islandJudge_pends {c : Cond} (hc : s.hasCond c = false) (hp : s.prot.islandPending.contains c = false) (cls : RClass) (f : State → State) :
    s.islandJudge c true cls f = s.islandPend c true := by
  rw [State.islandJudge_eq, if_neg (by rw [hc]; decide), if_neg (by rw [hp]; decide), if_pos rfl]

theorem State.islandJudge_lasts {c : Cond} (hc : s.hasCond c = false) (hp : s.prot.islandPending.contains c = true) (cls : RClass) (f : State → State) :
    s.islandJudge c true cls f = f ((s.islandPend c false).addCond c cls) := by
  rw [State.islandJudge_eq, if_neg (by rw [hc]; decide), if_pos hp, if_pos rfl]

theorem State.islandJudge_passes {c : Cond} (hc : s.hasCond c = false) (hp : s.prot.islandPending.contains c = false) (cls : RClass) (f : State → State) :
    s.islandJudge c false cls f = s := by
  rw [State.islandJudge_eq, if_neg (by rw [hc]; decide), if_neg (by rw [hp]; decide), if_neg (by decide)]

/-- A check's second failing sample stops the converter and leaves its condition. -/
theorem State.islandJudge_stops {c : Cond} (hc : s.hasCond c = false) (hp : s.prot.islandPending.contains c = true) (hs : s.canStop = true)
    (ev : Ev) (data : List Int) (cause : Nat) :
    Stopping (s.islandJudge c true .H fun u => u.islandReact .H ev data cause) ∧
      (s.islandJudge c true .H fun u => u.islandReact .H ev data cause).hasCond c = true := by
  rw [State.islandJudge_lasts hc hp]
  refine ⟨State.islandReact_stopping _ _ _ (.inr rfl) ((State.addCond_canStop _ _).trans hs), ?_⟩
  exact (State.hasCond_of_prot (State.islandReact_prot _ _ _ _).conds c).trans (State.hasCond_addCond ..)

theorem State.not_transport_of_canStop (h : s.canStop = true) : s.mode ≠ .transport := fun hm => by
  have := State.canStop_mode h
  rw [hm] at this
  exact absurd this (by decide)

theorem State.ocFails_readEnables (a b : Int) (e0 e1 : Bool) : (s.readEnables e0 e1).ocFails a b = s.ocFails a b := by
  rw [State.ocFails, State.ocFails, State.readEnables_prot, State.on, State.on, (s.readEnables_fields e0 e1).rd (by decide),
    (s.readEnables_fields e0 e1).rd (by decide)]

theorem State.ocFails_shunt {a : Int} (b : Int) (h : s.rd F.SAFE_OC_OC_TRIP * 100 < a.natAbs) : s.ocFails a b = true :=
  Bool.or_eq_true_iff.2 (.inl (decide_eq_true h))

theorem State.ocFails_none {a : Int} (b : Int) (h : a.natAbs ≤ s.rd F.SAFE_OC_OC_TRIP * 100) (hd : s.on F.SAFE_CFG_DIVERSE = false) :
    s.ocFails a b = false := by
  rw [State.ocFails, hd, decide_eq_false (by omega)]
  rfl

theorem islandSample_pends (a b v : Int) (e0 e1 : Bool) (hm : s.mode ≠ .transport) (hc : s.hasCond .overCurrent = false)
    (hp : s.prot.islandPending.contains .overCurrent = false) (ha : s.rd F.SAFE_OC_OC_TRIP * 100 < a.natAbs) :
    Gives (.islandSample a b v e0 e1) s fun t => t.prot.islandPending.contains .overCurrent = true := by
  refine .of_eq (exec_islandSample a b v e0 e1 hm) rfl ?_
  refine State.envelopeCheck_pending (State.islandJudge_pending (by decide) (State.islandJudge_pending (by decide) ?_ _ _ _ _ _ _) _ _ _ _ _ _) _
  rw [State.sampleOc, State.ocFails_readEnables, State.ocFails_shunt b ha, State.islandJudge_pends ((State.hasCond_of_prot ?_ _).trans hc) ?_]
  · simp [State.islandPend]
  · rw [State.readEnables_prot]
  · rw [State.readEnables_prot, hp]

theorem islandSample_overCurrent (a b v : Int) (e0 e1 : Bool) (hs : s.canStop = true) (hc : s.hasCond .overCurrent = false)
    (hp : s.prot.islandPending.contains .overCurrent = true) (ha : s.rd F.SAFE_OC_OC_TRIP * 100 < a.natAbs) :
    Gives (.islandSample a b v e0 e1) s fun t => Stopping t ∧ t.hasCond .overCurrent = true := by
  have hj := State.islandJudge_stops (s := s.readEnables e0 e1) ((State.hasCond_of_prot (by rw [State.readEnables_prot]) .overCurrent).trans hc)
    (by rw [State.readEnables_prot, hp]) ((s.readEnables_canStop e0 e1).trans hs) .islandOc [a, b] 9
  have hf : (s.readEnables e0 e1).ocFails a b = true := State.ocFails_readEnables a b e0 e1 |>.trans (State.ocFails_shunt b ha)
  refine .of_eq (exec_islandSample a b v e0 e1 (State.not_transport_of_canStop hs)) rfl ?_
  rw [State.sampleOc, hf]
  exact ⟨(hj.1.sampleEnables _ _).sampleVolt _ _, State.sampleVolt_hasCond (by decide) (State.islandJudge_hasCond (by decide) hj.2 _ _ _ _ _ _) _ _⟩

theorem islandSample_readback (a b v : Int) (e0 e1 : Bool) (hs : s.canStop = true) (hc : s.hasCond .gateReadback = false)
    (hp : s.prot.islandPending = [.gateReadback]) (ha : a.natAbs ≤ s.rd F.SAFE_OC_OC_TRIP * 100) (hd : s.on F.SAFE_CFG_DIVERSE = false)
    (ho : s.hasCond .overCurrent = false) (he : (e0 != s.prot.enableCmd) = true) :
    Gives (.islandSample a b v e0 e1) s fun t => Stopping t ∧ t.hasCond .gateReadback = true := by
  have hr := s.readEnables_prot e0 e1
  have hf : (s.readEnables e0 e1).ocFails a b = false := State.ocFails_readEnables a b e0 e1 |>.trans (State.ocFails_none b ha hd)
  have hj := State.islandJudge_stops (s := s.readEnables e0 e1) ((State.hasCond_of_prot (by rw [hr]) .gateReadback).trans hc)
    (by rw [hr, hp]; decide) ((s.readEnables_canStop e0 e1).trans hs) .gateReadback [] 9
  refine .of_eq (exec_islandSample a b v e0 e1 (State.not_transport_of_canStop hs)) rfl ?_
  rw [State.sampleOc, hf, State.islandJudge_passes ((State.hasCond_of_prot (by rw [hr]) .overCurrent).trans ho) (by rw [hr, hp]; decide), State.sampleEnables,
    hr, he, Bool.true_or]
  exact ⟨hj.1.sampleVolt _ _, State.sampleVolt_hasCond (by decide) hj.2 _ _⟩

end Stays

/-! ## Words of a stop, page by page -/

section Pages
variable (s : State)

theorem testBit_clear_ne (k : Nat) : ∀ {i : Nat} (n : Nat), i ≠ k → (n - (if n.testBit k then 2 ^ k else 0)).testBit i = n.testBit i := by
  induction k with
  | zero =>
    intro i n h
    obtain ⟨i, rfl⟩ := Nat.exists_eq_succ_of_ne_zero h
    split
    · rename_i hn
      have : n % 2 = 1 := by simpa using hn
      rw [Nat.testBit_succ, Nat.testBit_succ, show (n - 2 ^ 0) / 2 = n / 2 by omega]
    · rfl
  | succ k ih =>
    intro i n h
    rw [Nat.testBit_succ, Nat.pow_succ]
    cases i with
    | zero =>
      rw [Nat.testBit_zero, Nat.testBit_zero]
      split
      · rename_i hn
        have := Nat.ge_two_pow_of_testBit hn
        rw [show (n - 2 ^ k * 2) % 2 = n % 2 by omega]
      · rfl
    | succ i =>
      have hi := ih (n / 2) (i := i) (by omega)
      rw [Nat.testBit_succ, Nat.testBit_succ, ← hi]
      split
      · rw [show (n - 2 ^ k * 2) / 2 = n / 2 - 2 ^ k by omega]
      · rfl

theorem State.instances_pages (f : Nat → Fld) (hf : ∀ k < 24, pageOf (f k).addr = 0x22) (b : Bool) :
    OnlyPages [0x22] s (instances.foldl (fun s k => s.wrB (f k) b) s) :=
  .foldl .refl fun _ _ hk => OnlyPages.refl.wrB (List.mem_singleton.2 (hf _ (List.mem_range.1 hk)))

theorem State.freezeAll_pages (b : Bool) : OnlyPages [0x22] s (s.freezeAll b) :=
  s.instances_pages _ (fun _ hk => pageOf_instance (off := 0x13C) hk (by decide)) b

theorem State.loopOff_pages : OnlyPages [0x10, 0x22] s s.loopOff := by
  unfold State.loopOff
  extract_lets pend t
  have ht : OnlyPages [0x10, 0x22] s t := .ite .refl ((OnlyPages.refl.wr (by decide)).bump (by decide))
  exact ((ht.wrB (by decide)).wrB (by decide)).andThen
    (State.instances_pages _ _ (fun _ hk => pageOf_instance (off := 0x13C) hk (by decide)) false) (by decide)

theorem State.rd_loopOff_eval : s.loopOff.rd F.LOOP_STATUS_EVAL = 0 := by
  unfold State.loopOff
  extract_lets pend t
  refine rdIs_foldl ?_ fun u k hu => (State.rd_wrB_apart _ (F.LOOP_ISTAT_ACTIVE k) _ _ (Nat.le_of_ble_eq_true rfl) (.inl ?_)).trans hu
  · exact (State.rd_wrB_apart _ _ _ _ (by decide) (by decide)).trans (State.rd_wrB _ _ _ (by decide) (by decide))
  · simp only [ne_eq]
    omega

theorem State.dropStart_pages (code : Nat) : OnlyPages [0x23] s (s.dropStart code) := by
  unfold State.dropStart State.endSequence State.notePre
  extract_lets s1 s2 a b
  have hn : OnlyPages [0x23] s s1 := .ite (((OnlyPages.ite (OnlyPages.refl.wr (by decide)) .refl).wr (by decide)).bump (by decide) |>.raise (by decide)) .refl
  exact (((hn.wr (by decide)).wrB (by decide)).wrB (by decide)).upd (State.mk_regs ..)

/-- The SRD of the safety page as the entry into SAFE leaves it. -/
def State.srdShownOver (s : State) : State := ((s.wrB F.SAFE_STATUS_SRD_ACTIVE false).wr F.SAFE_STATUS_SRD_STEP 0).raise 0x31 1

/-- The stages off, as the entry into SAFE leaves them before it notes the mode. -/
def State.safeStages (s : State) : State := s.leaveBal.gatesOff.dropEnables

theorem State.enterSafe_after (latch : Bool) (src : Nat) (ev : Ev) :
    OnlyPages [0x00, 0x02, 0x2A, 0x70] ((s.safeStages.loopOff.dropStart 10).setMode .safe).srdShownOver (s.enterSafe latch src ev) := by
  unfold State.enterSafe
  extract_lets s1 s2 s3 fast s4 c s5 s6 p l
  have h3 : OnlyPages [0x00, 0x02, 0x2A, 0x70] s2 s3 := OnlyPages.refl.wrB (by decide)
  have h4 : OnlyPages [0x00, 0x02, 0x2A, 0x70] s2 s4 := .ite (h3.upd (State.record_regs ..)) h3
  have h5 : OnlyPages [0x00, 0x02, 0x2A, 0x70] s2 s5 := h4.upd (State.mk_regs ..)
  have h6 : OnlyPages [0x00, 0x02, 0x2A, 0x70] s2 s6 := .ite (h5.andThen (State.setLatch_pages _ _ _) (by decide)) h5
  exact (h6.upd (State.mk_regs ..)).andThen (State.entryStore_pages _ _) (by decide)

/-- A field of SAFE.STATUS other than the SRD's is after the entry into SAFE as the stages off leave it. -/
theorem State.rd_enterSafe_status (latch : Bool) (src : Nat) (ev : Ev) {f : Fld} (ha : f.addr = 0x3100C) (h1 : F.SAFE_STATUS_SRD_ACTIVE.apart f)
    (h2 : F.SAFE_STATUS_SRD_STEP.apart f) : (s.enterSafe latch src ev).rd f = s.safeStages.rd f := by
  have hb : (((s.safeStages.loopOff.dropStart 10).setMode .safe).srdShownOver).rd f = ((s.safeStages.loopOff.dropStart 10).setMode .safe).rd f :=
    (State.rd_raise _ _ _ _ (.inl (by rw [ha]; decide))).trans ((State.rd_wr_apart _ _ _ _ (by decide) h2).trans (State.rd_wrB_apart _ _ _ _ (by decide) h1))
  refine ((s.enterSafe_after latch src ev).rd (by rw [ha]; decide)).trans (hb.trans ?_)
  refine ((State.setMode_pages _ _).rd (by rw [ha]; decide)).trans ?_
  exact ((State.dropStart_pages _ _).rd (by rw [ha]; decide)).trans ((State.loopOff_pages _).rd (by rw [ha]; decide))

theorem State.rd_enterSafe_eval (latch : Bool) (src : Nat) (ev : Ev) : (s.enterSafe latch src ev).rd F.LOOP_STATUS_EVAL = 0 := by
  have hb : OnlyPages [0x00, 0x23, 0x31] s.safeStages.loopOff (((s.safeStages.loopOff.dropStart 10).setMode .safe).srdShownOver) :=
    ((((State.dropStart_pages _ 10).mono (by decide)).andThen (State.setMode_pages _ _) (by decide)).wrB (by decide)).wr (by decide) |>.raise (by decide)
  exact ((s.enterSafe_after latch src ev).rd (by decide)).trans ((hb.rd (by decide)).trans (State.rd_loopOff_eval _))

theorem State.rd_dropEnables_en : s.dropEnables.rd F.SAFE_STATUS_EN0 = 0 ∧ s.dropEnables.rd F.SAFE_STATUS_EN1 = 0 := by
  unfold State.dropEnables State.refreshGates
  extract_lets u
  refine ⟨?_, ?_⟩
  · refine (State.rd_wrB_apart _ _ _ _ (by decide) (by decide)).trans ((State.rd_wrB_apart _ _ _ _ (by decide) (by decide)).trans ?_)
    exact State.rd_wrB _ _ _ (by decide) (by decide)
  · exact (State.rd_wrB_apart _ _ _ _ (by decide) (by decide)).trans (State.rd_wrB _ _ _ (by decide) (by decide))

theorem State.gatesOff_pages : OnlyPages [0x20, 0x21] s s.gatesOff := by
  unfold State.gatesOff
  extract_lets s1 s2 s3
  have h1 : OnlyPages [0x20, 0x21] s s1 := .foldl .refl fun u n hn => by
    have hp : pageOf (F.PHASE_STAT_STATE n).addr ∈ [0x20, 0x21] := by
      have := List.mem_range.1 hn
      have : pageOf (F.PHASE_STAT_STATE n).addr = 0x21 := by
        simp only [pageOf]
        omega
      rw [this]
      decide
    dsimp only
    exact (OnlyPages.wrB (f := F.PHASE_STAT_SKIPPING n) (.ite .refl (OnlyPages.refl.wr hp)) hp).upd rfl
  exact (((((h1.wr (by decide)).wr (by decide)).wrB (by decide)).wr (by decide)).wrB (by decide)).upd (State.mk_regs ..)

theorem State.rd_safeStages_feed : s.safeStages.rd F.SAFE_STATUS_COIL_FEED = s.rd F.SAFE_STATUS_COIL_FEED := by
  have hd : ∀ u : State, u.dropEnables.rd F.SAFE_STATUS_COIL_FEED = u.rd F.SAFE_STATUS_COIL_FEED := fun u => by
    unfold State.dropEnables State.refreshGates
    extract_lets v
    refine (State.rd_wrB_apart _ _ _ _ (by decide) (by decide)).trans ((State.rd_wrB_apart _ _ _ _ (by decide) (by decide)).trans ?_)
    exact State.rd_wrB_apart _ _ _ _ (by decide) (by decide)
  exact (hd _).trans (((State.gatesOff_pages _).rd (by decide)).trans (s.leaveBal_pages.rd (by decide)))

/-- Both enables off and the loop not evaluating. -/
def State.StageOff (s : State) : Prop := s.rd F.SAFE_STATUS_EN0 = 0 ∧ s.rd F.SAFE_STATUS_EN1 = 0 ∧ s.rd F.LOOP_STATUS_EVAL = 0

theorem State.enterSafe_stageOff (latch : Bool) (src : Nat) (ev : Ev) : (s.enterSafe latch src ev).StageOff :=
  ⟨(s.rd_enterSafe_status latch src ev rfl (by decide) (by decide)).trans (State.rd_dropEnables_en _).1,
    (s.rd_enterSafe_status latch src ev rfl (by decide) (by decide)).trans (State.rd_dropEnables_en _).2, s.rd_enterSafe_eval latch src ev⟩

variable {s}

theorem State.StageOff.of_pages {t : State} (h : s.StageOff) {P : List Nat} (hp : OnlyPages P s t) (h1 : 0x31 ∉ P) (h2 : 0x22 ∉ P) : t.StageOff :=
  ⟨(hp.rd (f := F.SAFE_STATUS_EN0) h1).trans h.1, (hp.rd (f := F.SAFE_STATUS_EN1) h1).trans h.2.1, (hp.rd (f := F.LOOP_STATUS_EVAL) h2).trans h.2.2⟩

theorem State.StageOff.wrStep (h : s.StageOff) (n : Nat) : (s.wr F.SAFE_STATUS_SRD_STEP n).StageOff :=
  ⟨(State.rd_wr_apart _ _ _ _ (by decide) (by decide)).trans h.1, (State.rd_wr_apart _ _ _ _ (by decide) (by decide)).trans h.2.1,
    (State.rd_wr_apart _ _ _ _ (by decide) (by decide)).trans h.2.2⟩

variable (s)

theorem State.release_pages {k : Nat} (hk : k < 7) : OnlyPages [0x24] s (s.release k) := by
  have hp : pageOf (F.CONTACT_OPS_LOADED_OPENS (k - 1)).addr = 0x24 := by
    simp only [pageOf]
    omega
  have hc : OnlyPages [0x24] s (s.countLoaded k) := .ite ((OnlyPages.refl.bump (List.mem_singleton.2 hp)).raise (by decide)) .refl
  exact .ite ((hc.wrBit (by decide)).upd (State.mk_regs ..)) (.of_regs rfl)

theorem State.releaseAll_pages {ks : List Nat} (h : ∀ k ∈ ks, k < 7) : OnlyPages [0x24] s (s.releaseAll ks) :=
  .foldl .refl fun _ k hk => State.release_pages _ (h k hk)

variable {s}

theorem State.StageOff.srdRelease (h : s.StageOff) : s.srdRelease.StageOff := by
  unfold State.srdRelease
  split
  · exact h
  · extract_lets s1 s2
    have h2 : s2.StageOff := by
      unfold s2 s1
      split
      · exact h.wrStep 5
      · exact (h.wrStep 5).of_pages (State.releaseAll_pages _ (by decide)) (by decide) (by decide)
    split
    · exact State.enterSafe_stageOff _ _ _ _
    · exact h2

theorem State.srdRampEnd_stageOff (h : s.prot.srd.isSome = true) : s.srdRampEnd.StageOff := by
  unfold State.srdRampEnd
  split
  · rename_i e
    rw [e] at h
    cases h
  · refine State.StageOff.srdRelease (State.StageOff.wrStep ?_ 4)
    have hp : OnlyPages [0x10, 0x22] s.gatesOff.dropEnables ((s.gatesOff.dropEnables.freezeAll true).loopOff) :=
      ((State.freezeAll_pages _ true).mono (by decide)).trans (State.loopOff_pages _)
    exact ⟨(hp.rd (by decide)).trans (State.rd_dropEnables_en _).1, (hp.rd (by decide)).trans (State.rd_dropEnables_en _).2, State.rd_loopOff_eval _⟩

/-! ## The coil feed -/

theorem State.driven_of_rd {t : State} (h : t.rd F.CONTACT_STATUS_DRIVE = s.rd F.CONTACT_STATUS_DRIVE) (k : Nat) : t.driven k = s.driven k :=
  State.bit_rd h (k - 1)

theorem State.bit_wrBit_clear (f : Fld) {i j : Nat} (hf : f.fits) (h : s.bit f i = false) : (s.wrBit f j false).bit f i = false := by
  simp only [State.bit, State.wrBit] at h ⊢
  rw [State.rd_wr _ _ _ hf, Nat.testBit_mod_two_pow, if_neg (by decide)]
  by_cases hij : i = j
  · subst hij
    rw [h, if_neg (by decide), Nat.sub_zero, h, Bool.and_false]
  · rw [testBit_clear_ne j _ hij, h, Bool.and_false]

theorem State.countLoaded_drive (k : Nat) : (s.countLoaded k).rd F.CONTACT_STATUS_DRIVE = s.rd F.CONTACT_STATUS_DRIVE := by
  unfold State.countLoaded
  split
  · refine (State.rd_raise _ _ _ _ (by decide)).trans (State.rd_bump_apart _ (F.CONTACT_OPS_LOADED_OPENS (k - 1)) _ _ (Nat.le_of_ble_eq_true rfl) (.inl ?_))
    simp only [ne_eq]
    omega
  · rfl

theorem State.driven_release_same {k : Nat} (hk : k < 7) : (s.release k).driven k = false := by
  unfold State.release
  split
  · exact State.bit_wrBit (s.countLoaded k) F.CONTACT_STATUS_DRIVE (k - 1) false (by decide) (by simp only; omega)
  · rename_i h
    exact Bool.eq_false_iff.2 h

theorem State.driven_release {j k : Nat} (h : s.driven k = false) : (s.release j).driven k = false := by
  unfold State.release
  split
  · exact State.bit_wrBit_clear F.CONTACT_STATUS_DRIVE (by decide) ((State.driven_of_rd (State.countLoaded_drive j) k).trans h)
  · exact h

theorem State.driven_cutFeed : [1, 2, 3, 4, 5].any s.cutFeed.driven = false := by
  refine List.any_eq_false.2 fun k hk => ?_
  have hk7 : k < 7 := by
    simp only [List.mem_cons, List.not_mem_nil, or_false] at hk
    omega
  have h : ∀ u : State, (u.releaseAll [1, 2, 3, 4, 5]).driven k = false := fun u =>
    foldl_establishes (P := fun u : State => u.driven k = false) (f := State.release) hk (fun _ => State.driven_release_same hk7)
      (fun _ _ h => State.driven_release h) u
  rw [Bool.not_eq_true]
  exact h _

theorem State.cutFeed_feed : s.cutFeed.rd F.SAFE_STATUS_COIL_FEED = 0 :=
  ((State.releaseAll_pages _ (by decide)).rd (by decide)).trans (State.rd_wrB _ _ _ (by decide) (by decide))

/-- The coil feed off, with none of K1 to K5 driven. -/
def State.FeedOff (s : State) : Prop := s.rd F.SAFE_STATUS_COIL_FEED = 0 ∧ [1, 2, 3, 4, 5].any s.driven = false

theorem not_enterWords_drive : ¬ EnterWords F.CONTACT_STATUS_DRIVE.addr := by
  unfold EnterWords
  decide

theorem State.FeedOff.enterSafe (h : s.FeedOff) (latch : Bool) (src : Nat) (ev : Ev) : (s.enterSafe latch src ev).FeedOff := by
  refine ⟨(s.rd_enterSafe_status latch src ev rfl (by decide) (by decide)).trans (s.rd_safeStages_feed.trans h.1), ?_⟩
  exact (congrArg (List.any [1, 2, 3, 4, 5]) (funext (State.driven_of_rd ((s.enterSafe_enter latch src ev).rd not_enterWords_drive)))).trans h.2

theorem State.FeedOff.advanceOpen (h : s.FeedOff) {d : Srd} (hd : s.prot.srd = some d) : s.advanceOpen.FeedOff ∧ Stopping s.advanceOpen := by
  unfold State.advanceOpen
  rw [hd]
  dsimp only
  split
  · exact ⟨h.enterSafe _ _ _, .inr (State.enterSafe_is_safe _ _ _ _)⟩
  · exact ⟨h, .inl (by rw [hd]; rfl)⟩

end Pages

section Inputs
variable {s : State}

theorem State.requestSrd_prot (cause : Nat) (ev : Ev) (data : List Int) : StopProt s (s.requestSrd cause ev data) := by
  have hn : StopProt s ((s.record 6 0x31 ev data).noteSH 0x31 ev) := ⟨_, _, _, rfl⟩
  exact hn.trans (State.startSrd_prot _ _ _ _ _ _)

theorem State.srdRequested_spec (hs : s.canStop = true) : Stopping s.srdRequested ∧ s.srdRequested.hasCond .srdInput = true :=
  ⟨State.requestSrd_stopping _ _ _ _ ((State.addCond_canStop _ _).trans hs),
    (State.hasCond_of_prot (State.requestSrd_prot _ _ _).conds _).trans (State.hasCond_addCond ..)⟩

/-- The bit of an SRD input. -/
def srdIn (ch : Fin 2) : Fld := if ch = 0 then F.SAFE_STATUS_IN0 else F.SAFE_STATUS_IN1

theorem srdIn_cases (ch : Fin 2) : srdIn ch = F.SAFE_STATUS_IN0 ∨ srdIn ch = F.SAFE_STATUS_IN1 := by
  unfold srdIn
  split
  · exact .inl rfl
  · exact .inr rfl

theorem State.wrIn_canStop (ch : Fin 2) (b : Bool) : (s.wrB (srdIn ch) b).canStop = s.canStop := by
  have hp : OnlyPages [0x31] s (s.wrB (srdIn ch) b) := OnlyPages.refl.wrB (by rcases srdIn_cases ch with h | h <;> rw [h] <;> decide)
  exact State.canStop_of (hp.mode (by decide)) (hp.rd (by decide))

/-- The note that neither input is energised. -/
def State.bothOffNoted (s : State) : State :=
  if s.on F.SAFE_STATUS_IN0 || s.on F.SAFE_STATUS_IN1 then s else { s with prot := { s.prot with bothOff := true } }

theorem State.bothOffNoted_canStop : s.bothOffNoted.canStop = s.canStop := by
  unfold State.bothOffNoted
  split
  · rfl
  · rfl

theorem srdInput_off (ch : Fin 2) (hs : s.canStop = true) :
    Gives (.srdInput ch false) s fun t => Stopping t ∧ t.hasCond .srdInput = true :=
  .of_eq (if_neg (State.not_transport_of_canStop hs)) (t := (s.wrB (srdIn ch) false).bothOffNoted.srdRequested) rfl
    (State.srdRequested_spec (State.bothOffNoted_canStop.trans ((State.wrIn_canStop ch false).trans hs)))

/-- The time of an input's change, where it was not energised before. -/
def State.inChanged (s : State) (ch : Fin 2) (was : Bool) : State :=
  if was then s else if ch = 0 then { s with prot := { s.prot with inChange0 := s.mono } } else { s with prot := { s.prot with inChange1 := s.mono } }

theorem State.inChanged_regs (ch : Fin 2) (was : Bool) : (s.inChanged ch was).regs = s.regs := by
  unfold State.inChanged
  split
  · rfl
  · split <;> rfl

/-- An energised input as it is shown, with the time of its change. -/
def State.inOn (s : State) (ch : Fin 2) : State := (s.wrB (srdIn ch) true).inChanged ch (s.on (srdIn ch))

theorem exec_srdInput_on (ch : Fin 2) (hm : s.mode ≠ .transport) : exec (.srdInput ch true) s =
    .next (if (s.inOn ch).on F.SAFE_STATUS_IN0 && (s.inOn ch).on F.SAFE_STATUS_IN1 then (s.inOn ch).srdBothOn else s.inOn ch) :=
  (if_neg hm).trans (apply_ite Host.Outcome.next _ _ _).symm

theorem State.inChanged_rd (ch : Fin 2) (was : Bool) (f : Fld) : (s.inChanged ch was).rd f = s.rd f := State.rd_regs (s.inChanged_regs ch was) f

theorem State.on_of_rd {t : State} {f : Fld} (h : t.rd f = s.rd f) : t.on f = s.on f := by rw [State.on, State.on, h]

/-- One input energised alone shows its own bit and no more. -/
theorem srdInput_alone (ch : Fin 2) (hm : s.mode ≠ .transport) (ho : (s.on (if ch = 0 then F.SAFE_STATUS_IN1 else F.SAFE_STATUS_IN0)) = false) :
    Gives (.srdInput ch true) s fun t => t.rd (srdIn ch) = 1 ∧ OnlyFields [srdIn ch] s t := by
  have hf : (srdIn ch).fits ∧ (srdIn ch).width = 1 := by rcases srdIn_cases ch with h | h <;> rw [h] <;> decide
  have hr : ∀ f, (s.inOn ch).rd f = (s.wrB (srdIn ch) true).rd f := fun f => State.inChanged_rd ..
  refine .of_eq (exec_srdInput_on ch hm) (if_neg ?_) (t := s.inOn ch) ⟨(hr _).trans (State.rd_wrB _ _ _ hf.1 (by rw [hf.2]; decide)), (OnlyFields.refl.wrB _ hf.1 (by simp)).upd (State.inChanged_regs ..)⟩
  rw [State.on_of_rd (hr _), State.on_of_rd (hr _), Bool.and_eq_true_iff, not_and_or, Bool.not_eq_true, Bool.not_eq_true]
  by_cases hc : ch = 0
  · rw [if_pos hc] at ho
    refine .inr ((State.on_of_rd (State.rd_wrB_apart _ _ _ _ hf.1 ?_)).trans ho)
    rw [srdIn, if_pos hc]
    decide
  · rw [if_neg hc] at ho
    refine .inl ((State.on_of_rd (State.rd_wrB_apart _ _ _ _ hf.1 ?_)).trans ho)
    rw [srdIn, if_neg hc]
    decide

/-- Both inputs energised at one instant, after both were off, end the conditions of the inputs. -/
theorem srdInput_both (hm : s.mode ≠ .transport) (hb : s.prot.bothOff = true) (h0 : s.on F.SAFE_STATUS_IN0 = true) (h1 : s.on F.SAFE_STATUS_IN1 = true)
    (hc : s.prot.inChange0 = s.prot.inChange1) : Gives (.srdInput 0 true) s fun t => t.hasCond .srdInput = false ∧ t.hasCond .srdDisc = false := by
  have hi : s.inOn 0 = s.wrB F.SAFE_STATUS_IN0 true := if_pos h0
  have hon : (s.wrB F.SAFE_STATUS_IN0 true).on F.SAFE_STATUS_IN0 = true ∧ (s.wrB F.SAFE_STATUS_IN0 true).on F.SAFE_STATUS_IN1 = true :=
    ⟨State.on_eq_true.2 (by rw [State.rd_wrB _ _ _ (by decide) (by decide)]; decide), (State.on_of_rd (State.rd_wrB_apart _ _ _ _ (by decide) (by decide))).trans h1⟩
  have hp : (s.wrB F.SAFE_STATUS_IN0 true).prot = s.prot := State.wrB_prot ..
  refine .of_eq (t := ((s.wrB F.SAFE_STATUS_IN0 true).clearCond .srdDisc).clearCond .srdInput) (exec_srdInput_on 0 hm) ?_
    ⟨State.hasCond_clearCond .., (State.hasCond_clearCond_ne (by decide)).trans (State.hasCond_clearCond ..)⟩
  rw [hi, if_pos (by rw [hon.1, hon.2]; rfl)]
  unfold State.srdBothOn
  extract_lets d
  have hd : d = 0 := by
    unfold d
    rw [hp, hc, Nat.sub_self]
  rw [if_neg (by rw [hp, hb]; simp), if_pos (by rw [hd]; exact Nat.zero_le _)]

theorem State.result_canStop (who : Initiator) (a : Nat) (hs : s.canStop = true) : (s.result who a 0).canStop = true :=
  (State.canStop_of (State.mode_result ..) ((State.onlyFields_result _ _ _ _).rd (by decide))).trans hs

/-- The safety clock shown as stopped, with the enables off and the condition set. -/
def State.clockLost (s : State) : State :=
  ((({ s with prot := { s.prot with safeClk := false } } : State).dropEnables).raise 0x31 5).addCond .safeClk .H

theorem State.clockLost_canStop : s.clockLost.canStop = s.canStop := by
  refine (State.addCond_canStop _ _).trans (State.canStop_of ?_ ?_)
  · exact (State.mode_raise _ _ (by decide)).trans (State.mode_of_rdIs (State.dropEnables_mode rfl))
  · exact (State.rd_raise _ _ _ _ (by decide)).trans (State.dropEnables_role rfl)

theorem State.clockLost_safeClk : s.clockLost.prot.safeClk = false := by
  obtain ⟨l, e, d, h⟩ := State.dropEnables_prot ({ s with prot := { s.prot with safeClk := false } } : State)
  rw [State.clockLost, State.addCond_prot, State.raise_prot, h]

end Inputs

/-- Settles O42: a check's second failing sample, an input and the commands stop the converter, and the ramp's end and the coils' bound take the stages and the feed off. -/
theorem safetyIsland : Obligations.SafetyIsland := by
  refine ⟨fun a b v e0 e1 s => islandSample_pends a b v e0 e1, fun a b v e0 e1 s => islandSample_overCurrent a b v e0 e1,
    fun a b v e0 e1 s => islandSample_readback a b v e0 e1, fun ch s => srdInput_off ch, fun ch s => srdInput_alone ch,
    fun s => srdInput_both, fun who s hb hs => ?_, fun who s hb hs => ?_, fun s hd hstep => ?_, fun s hd hstep hdr => ?_, fun s hs => ?_⟩
  · exact .of_asWrite rfl hb (State.requestSrd_stopping _ _ _ _ (State.result_canStop _ _ hs))
  · exact .of_asWrite rfl hb (State.hardTrip_stopping _ _ _ (State.result_canStop _ _ hs))
  · have hsome : s.prot.srd.isSome = true := by
      cases h : s.prot.srd with
      | none => rw [h] at hd; exact absurd hd (by decide)
      | some d => rfl
    exact .of_eq (if_pos ⟨hd, hstep⟩) rfl ⟨State.srdRampEnd_stopping s hsome, State.srdRampEnd_stageOff hsome⟩
  · obtain ⟨d, he⟩ := Option.isSome_iff_exists.1 hd
    have h := State.FeedOff.advanceOpen (s := s.cutFeed) ⟨s.cutFeed_feed, s.driven_cutFeed⟩ (d := d) (by rw [State.cutFeed_prot, he])
    exact .of_eq (if_pos ⟨hd, hstep, hdr⟩) rfl ⟨h.1.1, h.1.2, h.2⟩
  · have hr := State.react_prot s.clockLost .H 0x31 .clockFault [] 7 false
    refine .of_eq rfl rfl ⟨State.react_stopping s.clockLost .H 0x31 .clockFault [] 7 false (.inr rfl) (State.clockLost_canStop.trans hs), ?_,
      (State.hasCond_of_prot hr.conds _).trans (State.hasCond_addCond ..)⟩
    obtain ⟨l, e, d, h⟩ := hr
    exact (congrArg Prot.safeClk h).trans State.clockLost_safeClk

end Sys2Proof.Machine
end

section
/-!
O43: the safety network. A pair of twinned messages, the watchdog of a source, the messages of the module and the degraded permission.
-/
set_option Elab.async false
namespace Sys2Proof.Machine
open Sys2Proof

section Network
variable {s : State} {k : Nat} {m : List Byte}

theorem State.snetSource_lt {id : Nat} (h : s.snetSource id = some k) : k < 8 := List.mem_range.1 (List.mem_of_find?_eq_some h)

theorem State.copyValid_lt (h : s.copyValid m = some k) : k < 8 := by
  unfold State.copyValid at h
  split at h
  · split at h
    · cases h
    · rename_i n hn
      exact Option.some.inj (Option.ite_none_right_eq_some.1 h).2 ▸ State.snetSource_lt hn
  · cases h

variable (s k m)

/-- A pair taken: the source's number, its mismatch ended and its loss over. -/
def State.pairTaken (s : State) (k : Nat) (m : List Byte) : State :=
  (((if (mget {} s.prot.sources k).mismatch.isSome then s.retryPass 0x32 else s).setSource k { lastSeq := some (beAt m 8 4) }).wrBit
    F.SNET_STATUS_PAIR_OK k true).clearCond (.snetLoss k)

theorem State.validPair_eq : s.validPair k m =
    if (beAt m 24 1).testBit 1 && (s.pairTaken k m).on (F.SNET_SRC_0_ACT_TRIP k) then
      ((((s.pairTaken k m).raise 0x32 4).record 7 0x32 .snetRequest [k]).noteSH 0x32 .snetRequest).hardTrip 0x32 .snetRequest
    else if (beAt m 24 1).testBit 0 && (s.pairTaken k m).on (F.SNET_SRC_0_ACT_SRD k) then ((s.pairTaken k m).raise 0x32 4).requestSrd 4 .snetRequest [k]
    else s.pairTaken k m := rfl

/-- The words that a pair taken writes: STATUS of the network and RETRY_CNT, and those of an ended condition. -/
def PairWords (a : Nat) : Prop := ClearWords a ∨ a = 0x3200C ∨ a = 0x32028

theorem State.pairTaken_where : OnlyWhere PairWords s (s.pairTaken k m) := by
  unfold State.pairTaken
  have hr : OnlyWhere PairWords s (if (mget {} s.prot.sources k).mismatch.isSome then s.retryPass 0x32 else s) :=
    .ite ((OnlyWhere.refl.bump (f := pageFld 0x32 0x028 0 16) (.inr (.inr rfl))).upd (State.record_regs ..)) .refl
  exact ((hr.upd (State.mk_regs ..)).wrBit (f := F.SNET_STATUS_PAIR_OK) (.inr (.inl rfl))).andThen (State.clearCond_where _ _) fun _ h => .inl h

variable {s k m}

theorem State.pairTaken_spec (hk : k < 8) : mget {} (s.pairTaken k m).prot.sources k = { lastSeq := some (beAt m 8 4) } ∧
    (s.pairTaken k m).bit F.SNET_STATUS_PAIR_OK k = true ∧ (s.pairTaken k m).hasCond (.snetLoss k) = false := by
  unfold State.pairTaken
  generalize (if (mget {} s.prot.sources k).mismatch.isSome then s.retryPass 0x32 else s) = u
  refine ⟨?_, ?_, State.hasCond_clearCond ..⟩
  · obtain ⟨l, hl⟩ := State.clearCond_prot ((u.setSource k { lastSeq := some (beAt m 8 4) }).wrBit F.SNET_STATUS_PAIR_OK k true) (.snetLoss k)
    refine (congrArg (fun x : Prot => mget {} x.sources k) hl).trans ?_
    exact (mget_mset ({} : Source) u.prot.sources k { lastSeq := some (beAt m 8 4) } k).trans (if_pos rfl)
  · refine (State.bit_rd ((State.clearCond_where _ _).rd ?_) k).trans (State.bit_wrBit _ _ _ _ (by decide) hk)
    unfold ClearWords
    decide

theorem State.pairTaken_canStop (hs : s.canStop = true) : (s.pairTaken k m).canStop = true :=
  (State.canStop_of ((s.pairTaken_where k m).mode (by unfold PairWords ClearWords; decide)) ((s.pairTaken_where k m).rd (by unfold PairWords ClearWords; decide))).trans hs

theorem State.pairTaken_act : (s.pairTaken k m).on (F.SNET_SRC_0_ACT_SRD k) = s.on (F.SNET_SRC_0_ACT_SRD k) :=
  State.on_of_rd ((s.pairTaken_where k m).rd (by simp only [PairWords, ClearWords]; omega))

theorem State.validPair_quiet (h : beAt m 24 1 = 0) : s.validPair k m = s.pairTaken k m := by
  rw [State.validPair_eq, h, Nat.zero_testBit, Nat.zero_testBit, Bool.false_and, Bool.false_and, if_neg (by decide), if_neg (by decide)]

theorem State.validPair_srd (h0 : (beAt m 24 1).testBit 0 = true) (h1 : (beAt m 24 1).testBit 1 = false) (ha : s.on (F.SNET_SRC_0_ACT_SRD k) = true)
    (hs : s.canStop = true) : Stopping (s.validPair k m) := by
  rw [State.validPair_eq, h1, Bool.false_and, if_neg (by decide), h0, State.pairTaken_act, ha, Bool.and_self, if_pos rfl]
  refine State.requestSrd_stopping _ _ _ _ ((State.canStop_of (State.mode_raise _ _ (by decide)) (State.rd_raise _ _ _ _ (by decide))).trans ?_)
  exact State.pairTaken_canStop hs

/-! ## The messages -/

variable {p : Fin 2} {d : SafetyDatagram}

theorem exec_twinned (hd : d.dst.toNat = s.rd F.SNET_PORT_UDP_PORT) (hu : s.ipUp p.val = true) :
    (if s.ipUp p.val && d.dst.toNat == s.rd F.SNET_PORT_UDP_PORT then s.copyValid d.bytes else none) = s.copyValid d.bytes :=
  if_pos (by rw [hu, hd]; simp)

/-- An equal twin within the skew on the other port makes a valid pair. -/
theorem exec_twinned_pair {c : SafetyCopy} (hd : d.dst.toNat = s.rd F.SNET_PORT_UDP_PORT) (hu : s.ipUp p.val = true) (hv : s.copyValid d.bytes = some k)
    (hc : (mget {} s.prot.sources k).copy = some c) (hp : c.port ≠ p.val) (hb : c.bytes = d.bytes)
    (ht : s.mono ≤ c.arrived + s.rd F.SNET_CFG_SKEW_MS * 1000000) : exec (.twinnedSafetyMessage p d) s = .next (s.validPair k d.bytes) := by
  change execTwinnedSafetyMessage p d s = _
  unfold execTwinnedSafetyMessage
  rw [exec_twinned hd hu, hv]
  dsimp only
  rw [hc]
  dsimp only
  rw [if_pos ⟨hp, by rw [hb], ht⟩, if_pos hb]

/-- The watchdog's loss of a source, before its SRD. -/
def State.sourceLost (s : State) (k : Nat) : State := ((s.wrBit F.SNET_STATUS_PAIR_OK k false).raise 0x32 0).addCond (.snetLoss k) .S

theorem State.sourceLost_spec (hk : k < 8) (hs : s.canStop = true) : (s.sourceLost k).canStop = true ∧
    (s.sourceLost k).bit F.SNET_STATUS_PAIR_OK k = false ∧ (s.sourceLost k).hasCond (.snetLoss k) = true := by
  have hp : OnlyPages [0x30, 0x32] s (s.sourceLost k) :=
    ((OnlyPages.refl.wrBit (by decide)).raise (by decide)).andThen (State.addCond_pages _ _ _) (by decide)
  refine ⟨(State.canStop_of (hp.mode (by decide)) (hp.rd (by decide))).trans hs, ?_, State.hasCond_addCond ..⟩
  refine (State.bit_rd ((State.addCond_pages _ _ _).rd (by decide)) k).trans ((State.bit_rd (State.rd_raise _ _ _ _ (by decide)) k).trans ?_)
  exact State.bit_wrBit _ _ _ _ (by decide) hk

/-- A STATE message sent on a port towards the address in f, where both are there. -/
def State.stateSent (s : State) (eth : Nat) (f : Fld) (u : State) : State :=
  if s.rd f == 0 || !s.ipUp eth then s else s.send (.udp eth (s.rd f) (u.rd F.SNET_PORT_UDP_PORT) u.stateMessage)

theorem State.stateSent_prot (eth : Nat) (f : Fld) (u : State) : (s.stateSent eth f u).prot = s.prot := by
  unfold State.stateSent
  split <;> rfl

theorem State.stateSent_regs (eth : Nat) (f : Fld) (u : State) : (s.stateSent eth f u).regs = s.regs := by
  unfold State.stateSent
  split <;> rfl

/-- STATUS, DEGLEFT and the events as the permission's end leaves them. -/
def State.degradeOver (s : State) : State := (((s.wrB F.SNET_STATUS_DEGRADED false).wr F.SNET_DEGLEFT_LEFT 0).raise 0x32 3).record 5 0x32 .degrade [0]

theorem State.degradeOver_spec : s.degradeOver.rd F.SNET_STATUS_DEGRADED = 0 ∧ s.degradeOver.rd F.SNET_DEGLEFT_LEFT = 0 ∧
    s.degradeOver.bit (evtStatus 0x32) 3 = true := by
  have hr : ∀ f, s.degradeOver.rd f = (((s.wrB F.SNET_STATUS_DEGRADED false).wr F.SNET_DEGLEFT_LEFT 0).raise 0x32 3).rd f :=
    State.rd_regs (State.record_regs ..)
  refine ⟨(hr _).trans ?_, (hr _).trans ?_, (State.bit_rd (hr _) _).trans (State.bit_raise _ (by decide))⟩
  · refine (State.rd_raise _ _ _ _ (by decide)).trans ((State.rd_wr_apart _ _ _ _ (by decide) (by decide)).trans ?_)
    exact State.rd_wrB _ _ _ (by decide) (by decide)
  · exact (State.rd_raise _ _ _ _ (by decide)).trans (State.rd_wr _ _ _ (by decide))

/-- DEGRADE, STATUS, DEGLEFT and the events as the permission's begin leaves them. -/
def State.degradeBegun (s : State) (sec : Nat) : State :=
  ((((s.wr F.SNET_DEGRADE_DEG_S sec).wrB F.SNET_STATUS_DEGRADED true).wr F.SNET_DEGLEFT_LEFT sec).raise 0x32 2).record 5 0x32 .degrade [sec]

theorem State.degradeBegun_spec {sec : Nat} (hs : sec ≤ 3600) : (s.degradeBegun sec).rd F.SNET_STATUS_DEGRADED = 1 ∧
    (s.degradeBegun sec).rd F.SNET_DEGRADE_DEG_S = sec ∧ (s.degradeBegun sec).bit (evtStatus 0x32) 2 = true := by
  have hr : ∀ f, (s.degradeBegun sec).rd f =
      ((((s.wr F.SNET_DEGRADE_DEG_S sec).wrB F.SNET_STATUS_DEGRADED true).wr F.SNET_DEGLEFT_LEFT sec).raise 0x32 2).rd f :=
    State.rd_regs (State.record_regs ..)
  refine ⟨(hr _).trans ?_, (hr _).trans ?_, (State.bit_rd (hr _) _).trans (State.bit_raise _ (by decide))⟩
  · refine (State.rd_raise _ _ _ _ (by decide)).trans ((State.rd_wr_apart _ _ _ _ (by decide) (by decide)).trans ?_)
    exact State.rd_wrB _ _ _ (by decide) (by decide)
  · refine (State.rd_raise _ _ _ _ (by decide)).trans ((State.rd_wr_apart _ _ _ _ (by decide) (by decide)).trans ?_)
    refine (State.rd_wrB_apart _ _ _ _ (by decide) (by decide)).trans ((State.rd_wr _ _ _ (by decide)).trans (Nat.mod_eq_of_lt ?_))
    exact Nat.lt_of_le_of_lt hs (by decide)

theorem State.mono_of_tb {t : State} (h : t.tb = s.tb) : t.mono = s.mono := by
  rw [State.mono, State.mono, State.timeBase, State.timeBase, h]

theorem State.degradeBegun_mono (sec : Nat) : (s.degradeBegun sec).mono = s.mono :=
  State.mono_of_tb ((State.record_tb ..).trans ((State.raise_tb ..).trans ((State.wr_tb ..).trans ((State.wrB_tb ..).trans (State.wr_tb ..)))))

theorem State.writeDegrade_begins {sec : Nat} (h1 : 1 ≤ sec) (h2 : sec ≤ 3600) : s.writeDegrade sec =
    { s.degradeBegun sec with
      prot := { (s.degradeBegun sec).prot with degradeEnd := (s.degradeBegun sec).mono + sec * 1000000000 } } := by
  unfold State.writeDegrade
  rw [if_neg (by omega), if_neg (by omega)]
  rfl

end Network

theorem not_stopWords_snet : ¬ StopWords F.SNET_STATUS_PAIR_OK.addr := by
  unfold StopWords
  decide

theorem State.requestSrd_where (s : State) (cause : Nat) (ev : Ev) (data : List Int) : OnlyWhere StopWords s (s.requestSrd cause ev data) :=
  (OnlyWhere.of_regs ((State.mk_regs ..).trans (State.record_regs ..))).trans (State.startSrd_where _ _ _ _ _ _)

/-- A first copy waits for its twin. -/
theorem exec_twinned_first {s : State} {p : Fin 2} {m : SafetyDatagram} {k : Nat} (hd : m.dst.toNat = s.rd F.SNET_PORT_UDP_PORT) (hu : s.ipUp p.val = true)
    (hv : s.copyValid m.bytes = some k) (hc : (mget {} s.prot.sources k).copy = none) (hg : s.on F.SNET_STATUS_DEGRADED = false) :
    exec (.twinnedSafetyMessage p m) s =
      .next (s.setSource k { mget {} s.prot.sources k with copy := some { port := p.val, bytes := m.bytes, arrived := s.mono } }) := by
  change execTwinnedSafetyMessage p m s = _
  unfold execTwinnedSafetyMessage
  rw [exec_twinned hd hu, hv]
  dsimp only
  rw [hc]
  exact if_neg (by rw [hg]; decide)

/-- A datagram to another port, on a port without its network, or an invalid one is dropped. -/
theorem exec_twinned_dropped {s : State} {p : Fin 2} {m : SafetyDatagram}
    (h : m.dst.toNat ≠ s.rd F.SNET_PORT_UDP_PORT ∨ s.ipUp p.val = false ∨ s.copyValid m.bytes = none) : exec (.twinnedSafetyMessage p m) s = .next s := by
  change execTwinnedSafetyMessage p m s = _
  unfold execTwinnedSafetyMessage
  have hn : (if s.ipUp p.val && m.dst.toNat == s.rd F.SNET_PORT_UDP_PORT then s.copyValid m.bytes else none) = none := by
    split
    · rename_i hc
      obtain ⟨hu, hd⟩ := Bool.and_eq_true_iff.1 hc
      rcases h with h | h | h
      · exact absurd (eq_of_beq hd) h
      · rw [h] at hu
        cases hu
      · exact h
    · rfl
  rw [hn]

theorem exec_safetyWatchdog {s : State} {n : Fin 8} (he : s.on (F.SNET_SRC_0_EN n.val) = true) (hc : s.hasCond (.snetLoss n.val) = false)
    (hm : s.mode ≠ .transport) : exec (.safetyWatchdog n) s = .next ((s.sourceLost n.val).requestSrd 3 .snetLoss [n.val]) :=
  if_pos (by rw [he, bne_iff_ne.2 hm, hc]; rfl)

/-- The state with the next number of the STATE messages. -/
def State.txNext (s : State) : State := { s with prot := { s.prot with txSeq := (s.prot.txSeq + 1) % 2 ^ 32 } }

theorem exec_snetStateTx (s : State) :
    exec .snetStateTx s = .next ((s.txNext.stateSent 0 F.SNET_DST0_IP s.txNext).stateSent 1 F.SNET_DST1_IP s.txNext) := rfl

theorem State.endDegrade_on {s : State} (h : s.on F.SNET_STATUS_DEGRADED = true) :
    s.endDegrade = { s.degradeOver with prot := { s.prot with degradeEnd := 0 } } := if_pos h

theorem State.writeDegrade_spec {s : State} {sec : Nat} (h1 : 1 ≤ sec) (h2 : sec ≤ 3600) : (s.writeDegrade sec).rd F.SNET_STATUS_DEGRADED = 1 ∧
    (s.writeDegrade sec).rd F.SNET_DEGRADE_DEG_S = sec ∧ (s.writeDegrade sec).prot.degradeEnd = s.mono + sec * 1000000000 ∧
    (s.writeDegrade sec).bit (evtStatus 0x32) 2 = true := by
  obtain ⟨hg, hd, hev⟩ := State.degradeBegun_spec (s := s) h2
  rw [State.writeDegrade_begins h1 h2, ← s.degradeBegun_mono sec]
  refine ⟨(State.rd_regs (State.mk_regs ..) _).trans hg, (State.rd_regs (State.mk_regs ..) _).trans hd, congrArg Prot.degradeEnd (State.mk_prot ..),
    (State.bit_rd (State.rd_regs (State.mk_regs ..) _) _).trans hev⟩

theorem degradeGrant_begins {s : State} {who : Initiator} {sec : BitVec 12} (hb : s.barred who A.SNET_DEGRADE true = 0) (h1 : 1 ≤ sec.toNat)
    (h2 : sec.toNat ≤ 3600) : Gives (.degradeGrant who sec) s fun t => t.rd F.SNET_STATUS_DEGRADED = 1 ∧ t.rd F.SNET_DEGRADE_DEG_S = sec.toNat ∧
      t.prot.degradeEnd = s.mono + sec.toNat * 1000000000 ∧ t.bit (evtStatus 0x32) 2 = true := by
  obtain ⟨hg, hd, he, hev⟩ := State.writeDegrade_spec (s := s.result who A.SNET_DEGRADE 0) h1 h2
  rw [State.mono_result] at he
  exact .of_asWrite rfl hb ⟨hg, hd, he, hev⟩

/-- Settles O43: twins pair or wait, the watchdog and the pair's flag stop the converter, and the degraded permission begins and ends. -/
theorem safetyNetwork : Obligations.SafetyNetwork := by
  refine ⟨fun p m k s hd hu hv hc hg => ?_, fun p m k c s hd hu hv hc hp hb ht hz => ?_, fun p m k c s hd hu hv hc hp hb ht h0 h1 ha hs => ?_,
    fun p m s h => .of_eq (exec_twinned_dropped h) rfl rfl, fun n s he hc hs => ?_, fun s => ?_, fun who sec s => degradeGrant_begins, fun s hg => ?_⟩
  · exact .of_eq (exec_twinned_first hd hu hv hc hg) rfl ⟨congrArg Source.copy ((mget_mset ..).trans (if_pos rfl)), rfl, rfl⟩
  · exact .of_eq (exec_twinned_pair hd hu hv hc hp hb ht) (State.validPair_quiet hz) (State.pairTaken_spec (State.copyValid_lt hv))
  · exact .of_eq (exec_twinned_pair hd hu hv hc hp hb ht) rfl (State.validPair_srd h0 h1 ha hs)
  · obtain ⟨hl, hb, hh⟩ := State.sourceLost_spec (k := n.val) n.isLt hs
    refine .of_eq (exec_safetyWatchdog he hc (State.not_transport_of_canStop hs)) rfl ⟨State.requestSrd_stopping _ _ _ _ hl, ?_, ?_⟩
    · exact (State.bit_rd ((State.requestSrd_where _ 3 .snetLoss [n.val]).rd not_stopWords_snet) _).trans hb
    · exact (State.hasCond_of_prot (State.requestSrd_prot ..).conds _).trans hh
  · refine .of_eq (exec_snetStateTx s) rfl ⟨?_, ?_⟩
    · rw [State.stateSent_prot, State.stateSent_prot]
      rfl
    · rw [State.stateSent_regs, State.stateSent_regs]
      rfl
  · obtain ⟨h0, hl, hev⟩ := s.degradeOver_spec
    exact .of_eq rfl (State.endDegrade_on hg) ⟨h0, hl, rfl, hev⟩

end Sys2Proof.Machine
end

section
/-!
O44: the insulation monitor. What the end of state B shows stays through its judgement.
-/
set_option Elab.async false
namespace Sys2Proof.Machine
open Sys2Proof

section Insulation
variable {s t : State} {c : Nat}

theorem State.bit_raise_ne {page j k : Nat} (hj : j < 32) (h : k ≠ j) : (s.raise page k).bit (evtStatus page) j = s.bit (evtStatus page) j := by
  unfold State.raise
  split
  · rfl
  · have hb : (s.wrBit (evtStatus page) k true).bit (evtStatus page) j = s.bit (evtStatus page) j :=
      State.bit_wrBit_set_ne _ _ (Nat.le_refl 32) hj h
    dsimp only
    split
    · rw [State.bit, State.rd_notify]
      exact hb
    · exact hb

/-- What the end of a cycle shows: state A again, results valid, the cycles counted and event 0. -/
structure InsulShown (c : Nat) (s : State) : Prop where
  stateA : s.rd F.INSUL_STATUS_STATE_B = 0
  valid : s.rd F.INSUL_STATUS_VALID = 1
  cycles : s.rd F.INSUL_CYCLES_COUNT = c
  event : s.bit (evtStatus 0x33) 0 = true

theorem InsulShown.where {W : Nat → Prop} (h : InsulShown c s) (hw : OnlyWhere W s t) (h1 : ¬ W 0x3300C) (h2 : ¬ W 0x33088) (h3 : ¬ W 0x33010) :
    InsulShown c t :=
  ⟨(hw.rd (f := F.INSUL_STATUS_STATE_B) h1).trans h.stateA, (hw.rd (f := F.INSUL_STATUS_VALID) h1).trans h.valid,
    (hw.rd (f := F.INSUL_CYCLES_COUNT) h2).trans h.cycles, (State.bit_rd (hw.rd (f := evtStatus 0x33) h3) 0).trans h.event⟩

theorem InsulShown.of_regs (h : InsulShown c s) (hr : t.regs = s.regs) : InsulShown c t :=
  h.where (OnlyWhere.of_regs (W := fun _ => False) hr) id id id

theorem InsulShown.ite {p : Prop} [Decidable p] {a b : State} (ha : InsulShown c a) (hb : InsulShown c b) : InsulShown c (if p then a else b) := by
  split
  · exact ha
  · exact hb

theorem InsulShown.wrB (h : InsulShown c s) {f : Fld} (b : Bool) (hf : f.fits) (h1 : f.apart F.INSUL_STATUS_STATE_B) (h2 : f.apart F.INSUL_STATUS_VALID)
    (h3 : f.apart F.INSUL_CYCLES_COUNT) (h4 : f.apart (evtStatus 0x33)) : InsulShown c (s.wrB f b) :=
  ⟨(State.rd_wrB_apart _ _ _ _ hf h1).trans h.stateA, (State.rd_wrB_apart _ _ _ _ hf h2).trans h.valid,
    (State.rd_wrB_apart _ _ _ _ hf h3).trans h.cycles, (State.bit_rd (State.rd_wrB_apart _ _ _ _ hf h4) 0).trans h.event⟩

theorem InsulShown.warn (h : InsulShown c s) (b : Bool) : InsulShown c (s.wrB F.INSUL_STATUS_WARN b) :=
  h.wrB b (by decide) (by decide) (by decide) (by decide) (by decide)

theorem InsulShown.fault (h : InsulShown c s) (b : Bool) : InsulShown c (s.wrB F.INSUL_STATUS_FAULT b) :=
  h.wrB b (by decide) (by decide) (by decide) (by decide) (by decide)

theorem InsulShown.raise (h : InsulShown c s) {k : Nat} (hk : k ≠ 0) : InsulShown c (s.raise 0x33 k) :=
  ⟨(State.rd_raise _ _ _ _ (by decide)).trans h.stateA, (State.rd_raise _ _ _ _ (by decide)).trans h.valid,
    (State.rd_raise _ _ _ _ (by decide)).trans h.cycles, (State.bit_raise_ne (by decide) hk).trans h.event⟩

/-- The words of a lasting verdict of the protections and of its end: page 0x30, and those of a stop. -/
def VerdictWords (a : Nat) : Prop := StopWords a ∨ pageOf a = 0x30

theorem State.protLasting_where (bit : Nat) (data : List Int) : OnlyWhere VerdictWords s (s.protLasting bit data) := by
  unfold State.protLasting
  extract_lets k u
  have hu : OnlyPages [0x30] s u := ((OnlyPages.refl.wrBit (by decide)).raise (by decide)).lasting (by decide)
  have ha : OnlyWhere VerdictWords s (u.addCond (.prot bit) k) := .of_pages (hu.trans (State.addCond_pages _ _ _)) fun a h => .inr (List.mem_singleton.1 h)
  exact ha.andThen (State.react_where _ _ _ _ _ _ _) fun _ => .inl

theorem State.protClear_pages (bit : Nat) : OnlyPages [0x30, 0x31] s (s.protClear bit) :=
  ((OnlyPages.refl.wrBit (f := F.PROT_ACTIVE_BITS) (by decide)).raise (page := 0x30) (by decide)).trans (State.clearCond_pages _ _)

theorem InsulShown.protLasting (h : InsulShown c s) (bit : Nat) (data : List Int) : InsulShown c (s.protLasting bit data) :=
  h.where (State.protLasting_where bit data) (by unfold VerdictWords StopWords; decide) (by unfold VerdictWords StopWords; decide)
    (by unfold VerdictWords StopWords; decide)

theorem InsulShown.protClear (h : InsulShown c s) (bit : Nat) : InsulShown c (s.protClear bit) :=
  h.where (W := fun a => pageOf a ∈ [0x30, 0x31]) (.of_pages (State.protClear_pages bit) fun _ h => h) (by decide) (by decide) (by decide)

theorem InsulShown.retryPass (h : InsulShown c s) : InsulShown c (s.retryPass 0x33) :=
  h.where (W := fun a => a = 0x33028) ((OnlyWhere.refl.bump (W := fun a => a = 0x33028) (f := pageFld 0x33 0x028 0 16) rfl).upd (State.record_regs ..)) (by decide) (by decide) (by decide)

theorem InsulShown.insulJudge (h : InsulShown c s) (r : Nat) : InsulShown c (s.insulJudge r) := by
  unfold State.insulJudge
  extract_lets warn s1 s2 low first pr s3 passes s4 s5 s6
  have h2 : InsulShown c s2 := (InsulShown.ite (h.raise (by decide)) h).warn _
  have h3 : InsulShown c s3 := h2.of_regs (State.mk_regs ..)
  have hp : ∀ u n, InsulShown c u → InsulShown c (passes u n) := fun u n hu => hu.of_regs (State.mk_regs ..)
  refine .ite (.ite (.ite ((hp _ _ h3).protLasting _ _) (hp _ _ h3)) (.ite (hp _ _ h3) ?_)) (.ite ?_ (.ite h3.retryPass h3))
  · have h5 : InsulShown c s5 := hp _ _ ((h3.fault _).raise (by decide))
    exact .ite (h5.protClear _) h5
  · have h6 : InsulShown c s6 := (h3.fault _).raise (by decide)
    exact .ite (h6.protLasting _ _) h6

/-- The end of state B in a state that shows state A again. -/
theorem State.insulCycle_shown (h : s.rd F.INSUL_STATUS_STATE_B = 0) (p n : Int) :
    InsulShown (satCount F.INSUL_CYCLES_COUNT.width (s.rd F.INSUL_CYCLES_COUNT + 1)) (s.insulCycle p n) := by
  unfold State.insulCycle
  extract_lets pA nA d units res gp gn r s1 s2
  have h1 : OnlyFields [F.INSUL_RES_R_P, F.INSUL_RES_R_N, F.INSUL_RISO_R_ISO] s s1 :=
    ((OnlyFields.refl.wr _ (by decide) (by decide)).wr _ (by decide) (by decide)).wr _ (by decide) (by decide)
  refine InsulShown.insulJudge ⟨?_, ?_, ?_, State.bit_raise _ (by decide)⟩ r
  · refine (State.rd_raise _ _ _ _ (by decide)).trans ((State.rd_wrB_apart _ _ _ _ (by decide) (by decide)).trans ?_)
    exact (State.rd_bump_apart _ _ _ _ (by decide) (by decide)).trans ((h1.rd (by decide)).trans h)
  · exact (State.rd_raise _ _ _ _ (by decide)).trans (State.rd_wrB _ _ _ (by decide) (by decide))
  · refine (State.rd_raise _ _ _ _ (by decide)).trans ((State.rd_wrB_apart _ _ _ _ (by decide) (by decide)).trans ?_)
    exact (State.rd_bump _ _ _ (by decide)).trans (congrArg (fun x => satCount _ (x + 1)) (h1.rd (by decide)))

/-- STATUS as a state end begins: measuring, with the injection on. -/
def State.insulMeasures (s : State) : State := (s.wrB F.INSUL_STATUS_NO_MEAS false).wrB F.INSUL_STATUS_INJECTING true

theorem State.insulMeasures_fields : OnlyFields [F.INSUL_STATUS_INJECTING, F.INSUL_STATUS_NO_MEAS] s s.insulMeasures :=
  (OnlyFields.refl.wrB _ (by decide) (by decide)).wrB _ (by decide) (by decide)

theorem State.insulMeasures_spec : s.insulMeasures.rd F.INSUL_STATUS_INJECTING = 1 ∧ s.insulMeasures.rd F.INSUL_STATUS_NO_MEAS = 0 :=
  ⟨State.rd_wrB _ _ _ (by decide) (by decide), (State.rd_wrB_apart _ _ _ _ (by decide) (by decide)).trans (State.rd_wrB _ _ _ (by decide) (by decide))⟩

theorem exec_insulStateEnd_a {p n : Int} (ha : s.insulAllowed = true) (hb : s.on F.INSUL_STATUS_STATE_B = false) : exec (.insulStateEnd p n) s =
    .next { s.insulMeasures.wrB F.INSUL_STATUS_STATE_B true with prot := { s.prot with insVpA := p, insVnA := n.natAbs } } := by
  have hb' : s.insulMeasures.on F.INSUL_STATUS_STATE_B = false := (State.on_of_rd (State.insulMeasures_fields.rd (by decide))).trans hb
  exact (if_pos ha).trans (if_neg (by rw [Bool.not_eq_true]; exact hb'))

theorem exec_insulStateEnd_b {p n : Int} (ha : s.insulAllowed = true) (hb : s.on F.INSUL_STATUS_STATE_B = true) : exec (.insulStateEnd p n) s =
    .next ((s.insulMeasures.wrB F.INSUL_STATUS_STATE_B false).insulCycle p n.natAbs) := by
  have hb' : s.insulMeasures.on F.INSUL_STATUS_STATE_B = true := (State.on_of_rd (State.insulMeasures_fields.rd (by decide))).trans hb
  exact (if_pos ha).trans (if_pos hb')

end Insulation

/-- Settles O44: state A's end keeps the pole voltages, state B's shows the results, and where measuring is barred NO_MEAS shows. -/
theorem insulationMonitor : Obligations.InsulationMonitor := by
  refine ⟨fun p n s ha hb => ?_, fun p n s ha hb => ?_, fun p n s ha => ?_⟩
  · obtain ⟨hi, hn⟩ := s.insulMeasures_spec
    have hf : OnlyFields [F.INSUL_STATUS_STATE_B, F.INSUL_STATUS_INJECTING, F.INSUL_STATUS_NO_MEAS] s (s.insulMeasures.wrB F.INSUL_STATUS_STATE_B true) :=
      (State.insulMeasures_fields.mono (by decide)).wrB _ (by decide) (by decide)
    refine .of_eq (exec_insulStateEnd_a ha hb) rfl ⟨State.mk_prot ..,
      (State.rd_regs (State.mk_regs ..) _).trans (State.rd_wrB _ _ _ (by decide) (by decide)), (State.rd_regs (State.mk_regs ..) _).trans ?_,
      (State.rd_regs (State.mk_regs ..) _).trans ?_,
      hf.upd (State.mk_regs ..)⟩
    · exact (State.rd_wrB_apart _ _ _ _ (by decide) (by decide)).trans hi
    · exact (State.rd_wrB_apart _ _ _ _ (by decide) (by decide)).trans hn
  · have hc : OnlyFields [F.INSUL_STATUS_STATE_B, F.INSUL_STATUS_INJECTING, F.INSUL_STATUS_NO_MEAS] s (s.insulMeasures.wrB F.INSUL_STATUS_STATE_B false) :=
      (State.insulMeasures_fields.mono (by decide)).wrB _ (by decide) (by decide)
    have h := State.insulCycle_shown (s := s.insulMeasures.wrB F.INSUL_STATUS_STATE_B false) (State.rd_wrB _ _ _ (by decide) (by decide)) p n.natAbs
    rw [hc.rd (by decide)] at h
    exact .of_eq (exec_insulStateEnd_b ha hb) rfl ⟨h.stateA, h.valid, h.cycles, h.event⟩
  · refine .of_eq (if_neg (by rw [ha]; decide)) (t := s.insulOff) rfl ⟨?_, ?_, State.rd_wrB _ _ _ (by decide) (by decide), ?_⟩
    · refine (State.rd_wrB_apart _ _ _ _ (by decide) (by decide)).trans ((State.rd_wrB_apart _ _ _ _ (by decide) (by decide)).trans ?_)
      exact State.rd_wrB _ _ _ (by decide) (by decide)
    · exact (State.rd_wrB_apart _ _ _ _ (by decide) (by decide)).trans (State.rd_wrB _ _ _ (by decide) (by decide))
    · exact ((OnlyFields.refl.wrB _ (by decide) (by decide)).wrB _ (by decide) (by decide)).wrB _ (by decide) (by decide)

end Sys2Proof.Machine
end

section
/-!
O37: the thermal management. Readings, the outputs of the cooling, the stages of Tj and the tachometers.
-/
set_option Elab.async false
namespace Sys2Proof.Machine
open Sys2Proof

section Thermal
variable {s t : State} {k : Nat}

/-! ## An update -/

/-- The words of the NTC temperatures. -/
def NtcWords (a : Nat) : Prop := ∃ j, j < 8 ∧ a = 0x2C0C4 + 4 * j

theorem State.takeNtc_where (r : Option Nat) {n : Nat} (hn : n < 16) : OnlyWhere NtcWords s (s.takeNtc n r) := by
  unfold State.takeNtc
  extract_lets f b u i v
  have hf : NtcWords f.addr := by
    refine ⟨n / 2, by omega, ?_⟩
    unfold f
    split <;> rfl
  split
  · exact OnlyWhere.refl.wrI hf
  · split
    · exact (OnlyWhere.of_regs (State.mk_regs ..)).wrI hf
    · have hv : OnlyWhere NtcWords s v := .of_regs (State.mk_regs ..)
      exact .ite (hv.wrI hf) hv

/-- The NTC readings of an update, taken. -/
def State.ntcTaken (s : State) (ntc : List (Option Nat)) : State := (ntc.take 16).zipIdx.foldl (fun s (r, n) => s.takeNtc n r) s

theorem State.ntcTaken_where (ntc : List (Option Nat)) : OnlyWhere NtcWords s (s.ntcTaken ntc) :=
  .foldl .refl fun _ x hx => State.takeNtc_where x.1 (by
    have h := List.snd_lt_of_mem_zipIdx hx
    rw [List.length_take] at h
    omega)

theorem State.ntcTaken_crown (ntc : List (Option Nat)) : (s.ntcTaken ntc).crown = s.crown := by
  have h : Within [.regs, .therm] s (s.ntcTaken ntc) := within_foldl Within.rfl fun _ _ hu => State.takeNtc_within (by decide) (by decide) hu
  exact h.crown (by decide)

/-- The board's temperatures, shown. -/
def State.boardsShown (s : State) (b : Nat → Int) : State :=
  (((s.wrI F.THERM_BOARD_BT0 (b 0)).wrI F.THERM_BOARD_BT1 (b 1)).wrI F.THERM_BOARD2_BT2 (b 2)).wrI F.THERM_BOARD2_BT3 (b 3)

theorem State.boardsShown_fields (b : Nat → Int) :
    OnlyFields [F.THERM_BOARD_BT0, F.THERM_BOARD_BT1, F.THERM_BOARD2_BT2, F.THERM_BOARD2_BT3] s (s.boardsShown b) :=
  (((OnlyFields.refl.wrI _ (by decide) (by decide)).wrI _ (by decide) (by decide)).wrI _ (by decide) (by decide)).wrI _ (by decide) (by decide)

theorem State.boardsShown_first (b : Nat → Int) : (s.boardsShown b).rdI F.THERM_BOARD_BT0 = satSigned 16 (b 0) := by
  have h : (s.boardsShown b).rd F.THERM_BOARD_BT0 = (s.wrI F.THERM_BOARD_BT0 (b 0)).rd F.THERM_BOARD_BT0 :=
    (State.rd_wrI_apart _ _ _ _ (by decide) (by decide)).trans ((State.rd_wrI_apart _ _ _ _ (by decide) (by decide)).trans
      (State.rd_wrI_apart _ _ _ _ (by decide) (by decide)))
  rw [State.rdI, h]
  exact State.rdI_wrI s (f := F.THERM_BOARD_BT0) (b 0) (by decide) (by decide)

/-! ## The cooling -/

theorem State.cool_setCool (s : State) (j k : Nat) (c : Cool) : (s.setCool j c).cool k = if j = k then c else s.cool k := mget_mset ..

theorem State.updateCool_other {j : Nat} (h : j ≠ k) : (s.updateCool j).cool k = s.cool k := (State.cool_setCool ..).trans (if_neg h)

theorem State.updateCool_faulted (h : s.bit F.THERM_STATUS_COOL_FAULT k = true) : ((s.updateCool k).cool k).out = 100 := by
  rw [State.updateCool, State.cool_setCool, if_pos rfl, if_pos h]

theorem State.coolFold_regs : ((List.range 6).foldl (fun s j => s.updateCool j) s).regs = s.regs :=
  (within_foldl (T := [.therm]) (s0 := s) Within.rfl fun _ _ hu => State.updateCool_within (by decide) hu).regs (by decide)

/-- Every output with a fault is computed to 100 % by an update. -/
theorem State.coolUpdated_faulted (hk : k < 6) (h : s.bit F.THERM_STATUS_COOL_FAULT k = true) :
    (((List.range 6).foldl (fun s j => s.updateCool j) s).cool k).out = 100 := by
  refine foldl_establishes (P := fun u : State => u.bit F.THERM_STATUS_COOL_FAULT k = true → (u.cool k).out = 100) (List.mem_range.2 hk)
    (fun u hu => State.updateCool_faulted hu) (fun u j hu hb => ?_) s ((State.bit_rd (State.rd_regs State.coolFold_regs _) k).trans h)
  by_cases hj : j = k
  · subst hj
    exact State.updateCool_faulted hb
  · rw [State.updateCool_other hj]
    exact hu hb

/-- Whether the outputs of the cooling are driven. -/
def State.coolDriven (s : State) : Bool :=
  s.crown.phase == .complete && s.mode != .transport && (s.rd F.PAIR_STATUS_ROLE == 0 || s.rd F.PAIR_STATUS_ROLE == 1)

/-- One output's duty shown. -/
def State.dutyShown (s : State) (on : Bool) (j : Nat) : State := s.wr (F.THERM_COOL_C_DUTY j) (if on then (s.cool j).out else 0)

theorem State.driveCool_eq : s.driveCool = (List.range 6).foldl (fun u j => u.dutyShown s.coolDriven j) s := rfl

/-- The words of the cooling's duties. -/
def DutyWords (a : Nat) : Prop := ∃ j, a = 0x2C10C + 16 * j

theorem State.driveCool_where : OnlyWhere DutyWords s s.driveCool :=
  .foldl .refl fun _ j _ => OnlyWhere.refl.wr ⟨j, rfl⟩

theorem State.driveCool_therm : s.driveCool.therm = s.therm :=
  (within_foldl (T := [.regs]) (s0 := s) Within.rfl fun _ _ hu => State.wr_within (by decide) hu).therm (by decide)

theorem State.driveCool_full (hk : k < 6) (h : (s.cool k).out = 100) : s.driveCool.rd (F.THERM_COOL_C_DUTY k) = if s.coolDriven then 100 else 0 := by
  have hf : ∀ j, (F.THERM_COOL_C_DUTY j).fits := fun j => Nat.le_of_ble_eq_true rfl
  have same : ∀ u : State, (u.cool k).out = 100 → (u.dutyShown s.coolDriven k).rd (F.THERM_COOL_C_DUTY k) = if s.coolDriven then 100 else 0 := fun u hu => by
    rw [State.dutyShown, State.rd_wr _ _ _ (hf k), hu]
    cases s.coolDriven <;> rfl
  rw [State.driveCool_eq]
  refine foldl_establishes (P := fun u : State => (u.cool k).out = 100 → u.rd (F.THERM_COOL_C_DUTY k) = if s.coolDriven then 100 else 0)
    (List.mem_range.2 hk) same (fun u j hu hc => ?_) s ?_
  · by_cases hj : j = k
    · subst hj
      exact same u hc
    · refine (State.rd_wr_apart _ (F.THERM_COOL_C_DUTY j) _ _ (hf j) (.inl ?_)).trans (hu hc)
      simp only [ne_eq]
      omega
  · have hc : s.driveCool.cool k = s.cool k := by rw [State.cool, State.driveCool_therm, State.cool]
    exact (congrArg Cool.out hc).trans h

theorem State.norWindow_fields : OnlyFields [F.THERM_STATUS_NOR_OK, evtStatus 0x2C] s s.norWindow := by
  unfold State.norWindow
  extract_lets t valid inside near a s1 opens b s2
  have h1 : OnlyFields [F.THERM_STATUS_NOR_OK, evtStatus 0x2C] s s1 := .of_regs (State.mk_regs ..)
  have h2 : OnlyFields [F.THERM_STATUS_NOR_OK, evtStatus 0x2C] s s2 := .ite (h1.upd (State.mk_regs ..)) h1
  exact .ite (.ite h1 ((h1.wrB _ (by decide) (by decide)).raise _ (by decide))) (.ite ((h2.wrB _ (by decide) (by decide)).raise _ (by decide)) h2)

theorem State.norWindow_cool (j : Nat) : s.norWindow.cool j = s.cool j := by
  unfold State.norWindow
  extract_lets t valid inside near a s1 opens b s2
  have h2 : s2.cool j = s.cool j := by
    unfold s2
    split <;> rfl
  split
  · split
    · rfl
    · rw [State.cool, State.raise_therm, State.wrB_therm]
      rfl
  · split
    · rw [State.cool, State.raise_therm, State.wrB_therm]
      exact h2
    · exact h2

/-- An update as a whole: the readings taken and shown, the outputs computed. -/
def State.coolUpdated (s : State) (ntc : List (Option Nat)) (board : List Int) : State :=
  (List.range 6).foldl (fun s j => s.updateCool j) ((s.ntcTaken ntc).boardsShown fun i => (board[i]?).getD noData)

theorem exec_thermalUpdate (ntc : List (Option Nat)) (board : List Int) (hm : s.mode ≠ .transport) :
    exec (.thermalUpdate ntc board) s = .next (s.coolUpdated ntc board).driveCool.norWindow :=
  if_neg (by rw [beq_eq_false_iff_ne.2 hm]; decide)

theorem State.coolUpdated_rd (ntc : List (Option Nat)) (board : List Int) {f : Fld} (h1 : ¬ NtcWords f.addr)
    (h2 : ∀ g ∈ [F.THERM_BOARD_BT0, F.THERM_BOARD_BT1, F.THERM_BOARD2_BT2, F.THERM_BOARD2_BT3], g.apart f) :
    (s.coolUpdated ntc board).rd f = s.rd f := by
  have hr := State.coolFold_regs (s := (s.ntcTaken ntc).boardsShown fun i => (board[i]?).getD noData)
  exact (State.rd_regs hr _).trans ((State.boardsShown_fields _ f h2).trans ((State.ntcTaken_where ntc).rd h1))

theorem State.coolUpdated_driven (ntc : List (Option Nat)) (board : List Int) : (s.coolUpdated ntc board).coolDriven = s.coolDriven := by
  have hf : ∀ u : State, ((List.range 6).foldl (fun s j => s.updateCool j) u).crown = u.crown := fun u =>
    (within_foldl (T := [.therm]) (s0 := u) Within.rfl fun _ _ hu => State.updateCool_within (by decide) hu).crown (by decide)
  have hb : ∀ (u : State) (b : Nat → Int), (u.boardsShown b).crown = u.crown := fun _ _ =>
    (State.wr_crown ..).trans ((State.wr_crown ..).trans ((State.wr_crown ..).trans (State.wr_crown ..)))
  have hc : (s.coolUpdated ntc board).crown = s.crown := by rw [State.coolUpdated, hf, hb, State.ntcTaken_crown]
  have hn : ∀ a, ¬ (0x2C0C4 ≤ a ∧ a < 0x2C0E4) → ¬ NtcWords a := fun a h ⟨j, hj, e⟩ => h (by omega)
  rw [State.coolDriven, State.coolDriven, State.mode, State.mode, hc, State.coolUpdated_rd ntc board (hn _ (by decide)) (by decide),
    State.coolUpdated_rd ntc board (hn _ (by decide)) (by decide)]

/-- Where the update's outputs are driven: the start complete, in a unit in control. -/
theorem State.coolDriven_eq (hm : s.mode ≠ .transport) : s.coolDriven = decide (s.crown.phase = .complete ∧ s.rd F.PAIR_STATUS_ROLE < 2) := by
  have hr : (s.rd F.PAIR_STATUS_ROLE == 0 || s.rd F.PAIR_STATUS_ROLE == 1) = decide (s.rd F.PAIR_STATUS_ROLE < 2) := by
    rw [Bool.eq_iff_iff, Bool.or_eq_true, beq_iff_eq, beq_iff_eq, decide_eq_true_iff]
    omega
  rw [State.coolDriven, hr, bne_iff_ne.2 hm, Bool.and_true, Bool.decide_and]
  rfl

theorem thermalUpdate_shown (ntc : List (Option Nat)) (board : List Int) (hm : s.mode ≠ .transport) :
    Gives (.thermalUpdate ntc board) s fun t => t.rdI F.THERM_BOARD_BT0 = satSigned 16 ((board[0]?).getD noData) ∧
      (∀ k : Fin 6, s.bit F.THERM_STATUS_COOL_FAULT k.val = true → (t.cool k.val).out = 100 ∧
        t.rd (F.THERM_COOL_C_DUTY k.val) = if s.crown.phase = .complete ∧ s.rd F.PAIR_STATUS_ROLE < 2 then 100 else 0) := by
  have hb0 : (s.coolUpdated ntc board).rdI F.THERM_BOARD_BT0 = satSigned 16 ((board[0]?).getD noData) := by
    rw [State.rdI, State.coolUpdated, State.rd_regs State.coolFold_regs]
    exact State.boardsShown_first fun i => (board[i]?).getD noData
  have hd : ∀ {f : Fld}, ¬ DutyWords f.addr → (∀ g ∈ [F.THERM_STATUS_NOR_OK, evtStatus 0x2C], g.apart f) →
      (s.coolUpdated ntc board).driveCool.norWindow.rd f = (s.coolUpdated ntc board).rd f := fun h1 h2 =>
    (State.norWindow_fields _ h2).trans (State.driveCool_where.rd h1)
  refine .of_eq (exec_thermalUpdate ntc board hm) rfl ⟨?_, fun k hb => ?_⟩
  · rw [State.rdI, hd (fun ⟨j, h⟩ => by simp only at h; omega) (by decide)]
    exact hb0
  · have hb' : ((s.ntcTaken ntc).boardsShown fun i => (board[i]?).getD noData).bit F.THERM_STATUS_COOL_FAULT k.val = true := by
      refine (State.bit_rd ((State.boardsShown_fields _ _ (by decide)).trans ((State.ntcTaken_where ntc).rd fun ⟨j, hj, e⟩ => ?_)) k.val).trans hb
      simp only at e
      omega
    have hc : ((s.coolUpdated ntc board).cool k.val).out = 100 := State.coolUpdated_faulted k.isLt hb'
    refine ⟨?_, ?_⟩
    · rw [State.norWindow_cool, State.cool, State.driveCool_therm]
      exact hc
    · refine (State.norWindow_fields (F.THERM_COOL_C_DUTY k.val) ?_).trans ((State.driveCool_full k.isLt hc).trans ?_)
      · exact List.forall_mem_cons.2 ⟨.inl (by simp only [ne_eq]; omega), List.forall_mem_cons.2 ⟨.inl (by simp only [evtStatus_mk, ne_eq]; omega), by simp⟩⟩
      · rw [State.coolUpdated_driven, State.coolDriven_eq hm]
        simp only [decide_eq_true_eq]

/-! ## The stages of Tj -/

/-- The stage that a reading asks for. -/
def tjLevel (before : Bool) (tj : Int) : Nat := if decide (tj ≥ 1300) && before then 3 else if tj ≥ 1200 then 2 else if tj ≥ 1100 then 1 else 0

/-- A reading shown and noted. -/
def State.tjTaken (s : State) (tj : Int) : State :=
  { s.wrI F.THERM_TJ_TJ tj with therm := { s.therm with hot3 := decide (tj ≥ 1300) } }

theorem exec_tjReading_up {tj : Int} (hm : s.mode ≠ .transport) (h : s.rd F.THERM_STATUS_STAGE < tjLevel s.therm.hot3 tj) :
    exec (.tjReading tj false) s = .next (
      if tjLevel s.therm.hot3 tj = 3 then
        ((((s.tjTaken tj).toStage (tjLevel s.therm.hot3 tj) tj).raise 0x2C 0).addCond .tjStage3 .S).react .S 0x2C .tj [tj]
      else ((s.tjTaken tj).toStage (tjLevel s.therm.hot3 tj) tj).raise 0x2C 0) :=
  (if_neg (by rw [beq_eq_false_iff_ne.2 hm]; decide)).trans (if_pos h)

/-- CD10 divided or not, as a stage asks. -/
def State.cd10Shown (s : State) (div : Bool) : State :=
  if s.on F.CLOCK_STATUS_CD10_DIV2 == div then s else (s.wrB F.CLOCK_STATUS_CD10_DIV2 div).raise 0x04 3

theorem State.cd10Shown_fields (div : Bool) : OnlyFields [F.CLOCK_STATUS_CD10_DIV2, evtStatus 0x04] s (s.cd10Shown div) :=
  .ite .refl ((OnlyFields.refl.wrB _ (by decide) (by decide)).raise _ (by decide))

theorem State.cd10Shown_therm (div : Bool) : (s.cd10Shown div).therm = s.therm := by
  unfold State.cd10Shown
  split
  · rfl
  · rw [State.raise_therm, State.wrB_therm]

theorem State.rd_cd10Shown (div : Bool) : (s.cd10Shown div).rd F.CLOCK_STATUS_CD10_DIV2 = if div then 1 else 0 := by
  unfold State.cd10Shown
  split
  · rename_i h
    have hl : s.rd F.CLOCK_STATUS_CD10_DIV2 < 2 := s.rd_lt _
    cases div with
    | true =>
      have := State.on_eq_true.1 (eq_of_beq h)
      rw [if_pos rfl]
      omega
    | false => exact State.on_eq_false.1 (eq_of_beq h)
  · exact (State.rd_raise _ _ _ _ (by decide)).trans (State.rd_wrB _ _ _ (by decide) (by decide))

/-- A stage shown. -/
def State.stageShown (s : State) (n : Nat) : State :=
  ((s.cd10Shown (decide (n ≥ 2))).wr F.SCAN_STATUS_SUSPENDED (if decide (n ≥ 2) then 0xC else 0)).wr F.THERM_STATUS_STAGE n

theorem State.toStage_regs (n : Nat) (tj : Int) : (s.toStage n tj).regs = (s.stageShown n).regs := State.mk_regs ..

theorem State.toStage_hot3 (n : Nat) (tj : Int) : (s.toStage n tj).therm.hot3 = s.therm.hot3 := by
  have h : (s.toStage n tj).therm.hot3 = ((s.cd10Shown (decide (n ≥ 2))).wr F.SCAN_STATUS_SUSPENDED (if decide (n ≥ 2) then 0xC else 0)).therm.hot3 := rfl
  rw [h, State.wr_therm, State.cd10Shown_therm]

theorem State.stageShown_fields (n : Nat) :
    OnlyFields [F.CLOCK_STATUS_CD10_DIV2, evtStatus 0x04, F.SCAN_STATUS_SUSPENDED, F.THERM_STATUS_STAGE] s (s.stageShown n) :=
  (((State.cd10Shown_fields _).mono (by decide)).wr _ (by decide) (by decide)).wr _ (by decide) (by decide)

/-- A stage taken: its clock and task effects, shown. -/
theorem State.toStage_shown {n : Nat} (hn : n < 4) (tj : Int) : (s.toStage n tj).rd F.THERM_STATUS_STAGE = n ∧
    (s.toStage n tj).rd F.CLOCK_STATUS_CD10_DIV2 = (if n ≥ 2 then 1 else 0) ∧ (s.toStage n tj).rd F.SCAN_STATUS_SUSPENDED = (if n ≥ 2 then 0xC else 0) := by
  have hr : ∀ f, (s.toStage n tj).rd f = (s.stageShown n).rd f := State.rd_regs (State.toStage_regs n tj)
  refine ⟨(hr _).trans ((State.rd_wr _ _ _ (by decide)).trans (Nat.mod_eq_of_lt hn)), (hr _).trans ?_, (hr _).trans ?_⟩
  · refine (State.rd_wr_apart _ _ _ _ (by decide) (by decide)).trans ((State.rd_wr_apart _ _ _ _ (by decide) (by decide)).trans ?_)
    rw [State.rd_cd10Shown]
    simp only [decide_eq_true_eq]
  · refine (State.rd_wr_apart _ _ _ _ (by decide) (by decide)).trans ((State.rd_wr _ _ _ (by decide)).trans ?_)
    simp only [decide_eq_true_eq]
    split <;> rfl

theorem satSigned_of_small {x : Int} (h1 : -32768 ≤ x) (h2 : x < 32768) : satSigned 16 x = x := by
  simp only [satSigned]
  omega

theorem tjReading_stage2 {tj : Int} (hm : s.mode ≠ .transport) (h1 : 1200 ≤ tj) (h2 : tj < 1300) (hs : s.rd F.THERM_STATUS_STAGE < 2) :
    Gives (.tjReading tj false) s fun t => t.rd F.THERM_STATUS_STAGE = 2 ∧ t.rd F.CLOCK_STATUS_CD10_DIV2 = 1 ∧ t.rd F.SCAN_STATUS_SUSPENDED = 0xC ∧
      t.rdI F.THERM_TJ_TJ = tj ∧ t.therm.hot3 = false := by
  have hl : tjLevel s.therm.hot3 tj = 2 := by
    rw [tjLevel, decide_eq_false (by omega), Bool.false_and, if_neg (by decide), if_pos h1]
  have hx := exec_tjReading_up (s := s) hm (tj := tj) (by rw [hl]; exact hs)
  rw [hl, if_neg (by decide)] at hx
  obtain ⟨hst, hcd, hsc⟩ := (s.tjTaken tj).toStage_shown (n := 2) (by decide) tj
  refine .of_eq hx rfl ⟨(State.rd_raise _ _ _ _ (by decide)).trans hst, (State.rd_raise _ _ _ _ (by decide)).trans hcd,
    (State.rd_raise _ _ _ _ (by decide)).trans hsc, ?_, ?_⟩
  · have hr : (((s.tjTaken tj).toStage 2 tj).raise 0x2C 0).rd F.THERM_TJ_TJ = (s.wrI F.THERM_TJ_TJ tj).rd F.THERM_TJ_TJ :=
      (State.rd_raise _ _ _ _ (by decide)).trans ((State.rd_regs (State.toStage_regs 2 tj) _).trans ((State.stageShown_fields 2 _ (by decide)).trans
        (State.rd_regs (State.mk_regs ..) _)))
    rw [State.rdI, hr]
    exact (State.rdI_wrI s (f := F.THERM_TJ_TJ) tj (by decide) (by decide)).trans (satSigned_of_small (by omega) (by omega))
  · rw [State.raise_therm, State.toStage_hot3]
    exact decide_eq_false (by omega)

theorem tjReading_stage3 {tj : Int} (hs : s.canStop = true) (h1 : 1300 ≤ tj) (hh : s.therm.hot3 = true) (h3 : s.rd F.THERM_STATUS_STAGE < 3) :
    Gives (.tjReading tj false) s fun t => Stopping t ∧ t.rd F.THERM_STATUS_STAGE = 3 ∧ t.hasCond .tjStage3 = true := by
  have hl : tjLevel s.therm.hot3 tj = 3 := by
    rw [tjLevel, decide_eq_true h1, hh, Bool.true_and, if_pos rfl]
  have hx := exec_tjReading_up (s := s) (State.not_transport_of_canStop hs) (tj := tj) (by rw [hl]; exact h3)
  rw [hl, if_pos rfl] at hx
  obtain ⟨hst, -, -⟩ := (s.tjTaken tj).toStage_shown (n := 3) (by decide) tj
  have hf : OnlyFields [F.CLOCK_STATUS_CD10_DIV2, evtStatus 0x04, F.SCAN_STATUS_SUSPENDED, F.THERM_STATUS_STAGE, F.THERM_TJ_TJ, evtStatus 0x2C] s
      (((s.tjTaken tj).toStage 3 tj).raise 0x2C 0) := by
    have h1 : OnlyFields [F.CLOCK_STATUS_CD10_DIV2, evtStatus 0x04, F.SCAN_STATUS_SUSPENDED, F.THERM_STATUS_STAGE, F.THERM_TJ_TJ, evtStatus 0x2C] s
        (s.tjTaken tj) := (OnlyFields.refl.wrI _ (by decide) (by decide)).upd (State.mk_regs ..)
    exact ((h1.trans ((State.stageShown_fields 3).mono (by decide))).upd (State.toStage_regs 3 tj)).raise _ (by decide)
  have hk : (((s.tjTaken tj).toStage 3 tj).raise 0x2C 0).canStop = true :=
    (State.canStop_of (congrArg Mode.ofCode (hf.rd (by decide))) (hf.rd (by decide))).trans hs
  have ha := State.addCond_where (((s.tjTaken tj).toStage 3 tj).raise 0x2C 0) .tjStage3 .S
  have hw := State.react_where ((((s.tjTaken tj).toStage 3 tj).raise 0x2C 0).addCond .tjStage3 .S) .S 0x2C .tj [tj] 7 false
  refine .of_eq hx rfl ⟨State.react_stopping _ _ _ _ _ _ _ (.inl rfl) ((State.addCond_canStop _ _).trans hk), ?_, ?_⟩
  · refine (hw.rd (by unfold StopWords; decide)).trans ((ha.rd (by unfold ActiveWord; decide)).trans ?_)
    exact (State.rd_raise _ _ _ _ (by decide)).trans hst
  · exact (State.hasCond_of_prot (State.react_prot ..).conds _).trans (State.hasCond_addCond ..)

/-- A reading that asks for no higher stage, in stage 0, is noted and shown and no more. -/
theorem exec_tjReading_low {tj : Int} (hm : s.mode ≠ .transport) (h0 : s.rd F.THERM_STATUS_STAGE = 0) (hl : tjLevel s.therm.hot3 tj = 0) :
    ∃ b, exec (.tjReading tj false) s = .next { s.tjTaken tj with therm := { (s.tjTaken tj).therm with below := b } } := by
  change ∃ b, execTjReading tj false s = _
  unfold execTjReading
  rw [if_neg (by rw [beq_eq_false_iff_ne.2 hm]; decide)]
  extract_lets t st u hot twice p v up w below q x y
  have hst : st = 0 := h0
  rw [if_neg (show ¬ up > st by rw [hst, show up = 0 from hl]; decide)]
  refine ⟨below, ?_⟩
  clear_value below
  cases below with
  | none => rfl
  | some b =>
    dsimp only
    rw [if_neg (by rw [hst]; simp)]
    rfl

theorem tjReading_cool {tj : Int} (hm : s.mode ≠ .transport) (h1 : tj < 1000) (h0 : s.rd F.THERM_STATUS_STAGE = 0) :
    Gives (.tjReading tj false) s fun t => t.rd F.THERM_STATUS_STAGE = 0 ∧ t.rdI F.THERM_TJ_TJ = satSigned 16 tj ∧ OnlyFields [F.THERM_TJ_TJ] s t := by
  have hl : tjLevel s.therm.hot3 tj = 0 := by
    rw [tjLevel, decide_eq_false (by omega), Bool.false_and, if_neg (by decide), if_neg (by omega), if_neg (by omega)]
  obtain ⟨b, hx⟩ := exec_tjReading_low hm h0 hl
  have hf : OnlyFields [F.THERM_TJ_TJ] s { s.tjTaken tj with therm := { (s.tjTaken tj).therm with below := b } } :=
    (OnlyFields.refl.wrI tj (by decide) (by decide)).upd ((State.mk_regs ..).trans (State.mk_regs ..))
  refine .of_eq hx rfl ⟨(hf.rd (by decide)).trans h0, ?_, hf⟩
  exact State.rdI_wrI s (f := F.THERM_TJ_TJ) tj (by decide) (by decide)

/-! ## The tachometers -/

/-- The words of a fan's judgement: those of a stop, of a condition, and of the page STATUS, its events and its fault registers. -/
def FanWords (a : Nat) : Prop := StopWords a ∨ a ∈ [0x2C00C, 0x2C010, 0x2C028, 0x2C02C, 0x3000C, 0x3100C]

theorem FanWords.active {a : Nat} (h : ActiveWord a) : FanWords a := .inr (by rw [show a = 0x3000C from h]; decide)

theorem FanWords.clear {a : Nat} (h : ClearWords a) : FanWords a := h.elim FanWords.active fun h => .inr (by rw [h]; decide)

theorem State.coolLasts_where (k : Nat) : OnlyWhere FanWords s (s.coolLasts k) := by
  unfold State.coolLasts
  extract_lets cls u
  have hu : OnlyWhere FanWords s u := ((OnlyWhere.refl.wrBit (.inr (by decide))).raise (page := 0x2C) (.inr (by decide))).lasting (.inr (by decide))
  exact (hu.andThen (State.addCond_where _ _ _) fun _ => FanWords.active).andThen (State.react_where _ _ _ _ _ _ _) fun _ => .inl

theorem State.judgeFan_where (k : Nat) (pass : Bool) : OnlyWhere FanWords s (s.judgeFan k pass) := by
  unfold State.judgeFan
  extract_lets c
  have hc : ∀ c, OnlyWhere FanWords s (s.setCool k c) := fun c => .of_regs rfl
  split
  · exact .ite (((hc _).wrBit (.inr (by decide))).andThen (State.clearCond_where _ _) fun _ => FanWords.clear) .refl
  · split
    · exact .ite .refl (hc _)
    · refine .ite .refl (.ite (((hc _).bump (.inr (by decide))).upd (State.record_regs ..)) ((hc _).trans (State.coolLasts_where k)))

theorem tachCheck_shown (k : Fin 4) (n : Nat) : Gives (.tachCheck k n) s fun t =>
    t.rd (F.THERM_COOL_C_RPM k.val) = min (n * 60 / max (s.rd (F.THERM_COOL_8_PPR k.val)) 1) 0xFFFF := by
  have hf : (F.THERM_COOL_C_RPM k.val).fits := Nat.le_refl 32
  have hw : ¬ FanWords (F.THERM_COOL_C_RPM k.val).addr := by
    have := k.isLt
    simp only [FanWords, StopWords, pageOf, List.mem_cons, List.not_mem_nil, or_false]
    omega
  have hr : ∀ v, v ≤ 0xFFFF → (s.wr (F.THERM_COOL_C_RPM k.val) v).rd (F.THERM_COOL_C_RPM k.val) = v := fun v hv =>
    (State.rd_wr _ _ _ hf).trans (Nat.mod_eq_of_lt (Nat.lt_succ_of_le hv))
  unfold Gives
  change ∃ t, execTachCheck k n s = .next t ∧ _
  unfold execTachCheck
  extract_lets ppr rpm u full d
  split
  · exact ⟨_, rfl, hr _ (Nat.min_le_right ..)⟩
  · exact ⟨_, rfl, ((State.judgeFan_where _ _).rd hw).trans (hr _ (Nat.min_le_right ..))⟩

/-- One output's fault marked as clearing, where it is named and faulted. -/
def State.clearOne (mask : Nat) (s : State) (k : Nat) : State :=
  if mask.testBit k && s.bit F.THERM_STATUS_COOL_FAULT k then s.setCool k { s.cool k with clearing := true } else s

theorem State.clearOne_regs (mask k : Nat) : (State.clearOne mask s k).regs = s.regs := by
  unfold State.clearOne
  split <;> rfl

theorem State.clearOne_keeps {mask j : Nat} (h : (s.cool k).clearing = true) : ((State.clearOne mask s j).cool k).clearing = true := by
  unfold State.clearOne
  split
  · rw [State.cool_setCool]
    split
    · rfl
    · exact h
  · exact h

theorem State.clearCool_regs (mask : Nat) : (s.clearCool mask).regs = s.regs := (State.clearCool_within (T := [.therm]) (by decide) Within.rfl).regs (by decide)

theorem State.clearCool_clears {mask : Nat} (hk : k < 6) (hm : mask.testBit k = true) (hb : s.bit F.THERM_STATUS_COOL_FAULT k = true) :
    ((s.clearCool mask).cool k).clearing = true := by
  refine foldl_establishes (P := fun u : State => u.bit F.THERM_STATUS_COOL_FAULT k = true → (u.cool k).clearing = true) (f := State.clearOne mask)
    (List.mem_range.2 hk) (fun u hu => ?_) (fun u j hu hc => ?_) s ((State.bit_rd (State.rd_regs (State.clearCool_regs mask) _) k).trans hb)
  · have hu' : u.bit F.THERM_STATUS_COOL_FAULT k = true := (State.bit_rd (State.rd_regs (State.clearOne_regs mask k) _) k).symm.trans hu
    rw [State.clearOne, hm, hu', Bool.and_self, if_pos rfl, State.cool_setCool, if_pos rfl]
  · exact State.clearOne_keeps (hu ((State.bit_rd (State.rd_regs (State.clearOne_regs mask j) _) k).symm.trans hc))

end Thermal

/-- Settles O37: readings, stages, speeds and duties show, and the second hot reading stops the converter. -/
theorem thermal : Obligations.Thermal := by
  refine ⟨fun ntc board s => thermalUpdate_shown ntc board, fun tj s => tjReading_stage2, fun tj s => tjReading_stage3, fun tj s => tjReading_cool,
    fun k n s => tachCheck_shown k n, fun who m s hb => .of_asWrite rfl hb ⟨fun k hm hf => ?_, ?_⟩⟩
  · exact State.clearCool_clears k.isLt hm ((State.bit_result ..).trans hf)
  · exact fun g _ => (State.rd_regs (State.clearCool_regs _) g).trans (State.rd_result ..)

end Sys2Proof.Machine
end

section
/-!
O31: the power stage. The beat of the phase-0 counter, the start and the centre of a period, trips, faults and bursts.
-/
set_option Elab.async false
namespace Sys2Proof.Machine
open Sys2Proof

section Beat
variable {s t u : State}

/-- The phase-0 counter, its time, the outer count and the staging's notes stay. -/
def BeatKept (s t : State) : Prop := t.pwm.p0 = s.pwm.p0 ∧ t.pwm.p0At = s.pwm.p0At ∧ t.pwm.outerCnt = s.pwm.outerCnt ∧ t.stg = s.stg

theorem BeatKept.of_pwm (h : t.pwm = s.pwm) (hs : t.stg = s.stg) : BeatKept s t := by rw [BeatKept, h]; exact ⟨rfl, rfl, rfl, hs⟩

theorem BeatKept.refl : BeatKept s s := .of_pwm rfl rfl

theorem BeatKept.trans (h : BeatKept s t) (h' : BeatKept t u) : BeatKept s u := by
  obtain ⟨a, b, c, d⟩ := h
  obtain ⟨a', b', c', d'⟩ := h'
  exact ⟨a'.trans a, b'.trans b, c'.trans c, d'.trans d⟩

theorem BeatKept.ite {p : Prop} [Decidable p] {a b : State} (ha : BeatKept s a) (hb : BeatKept s b) : BeatKept s (if p then a else b) := by
  split
  · exact ha
  · exact hb

theorem BeatKept.foldl {α : Type} {f : State → α → State} (hf : ∀ u x, BeatKept u (f u x)) (l : List α) : ∀ s : State, BeatKept s (l.foldl f s) := by
  induction l with
  | nil => exact fun _ => .refl
  | cons a l ih => exact fun s => (hf s a).trans (ih _)

/-- A part other than the power stage's was written. -/
theorem BeatKept.within {T : List Part} (h : Within T s t) (hT : Part.pwm ∉ T) (hs : Part.stg ∉ T) : BeatKept s t := .of_pwm (h.pwm hT) (h.stg hs)

theorem BeatKept.setPhase (n : Nat) (p : Phase) : BeatKept s (s.setPhase n p) := ⟨rfl, rfl, rfl, rfl⟩

theorem BeatKept.wr (h : BeatKept s t) {f : Fld} {n : Nat} : BeatKept s (t.wr f n) := h.trans (.of_pwm (State.wr_pwm ..) (State.wr_stg ..))

theorem BeatKept.wrB (h : BeatKept s t) {f : Fld} {b : Bool} : BeatKept s (t.wrB f b) := h.wr

theorem BeatKept.bump (h : BeatKept s t) {f : Fld} {n : Nat} : BeatKept s (t.bump f n) := h.wr

theorem BeatKept.wrBit (h : BeatKept s t) {f : Fld} {k : Nat} {b : Bool} : BeatKept s (t.wrBit f k b) := h.wr

theorem BeatKept.raise (h : BeatKept s t) {page bit : Nat} : BeatKept s (t.raise page bit) := h.trans (.of_pwm (State.raise_pwm ..) (State.raise_stg ..))

variable (s)

theorem State.gatesOff_beat : BeatKept s s.gatesOff := by
  unfold State.gatesOff
  extract_lets s1 s2 s3
  have h1 : BeatKept s s1 := BeatKept.foldl (fun u n => by
    have hu : BeatKept u (if u.rd (F.PHASE_STAT_STATE n) = 3 then u else u.wr (F.PHASE_STAT_STATE n) 0) := .ite .refl (BeatKept.refl.wr)
    generalize (if u.rd (F.PHASE_STAT_STATE n) = 3 then u else u.wr (F.PHASE_STAT_STATE n) 0) = v at hu ⊢
    exact hu.wrB.trans (.setPhase n {})) _ s
  have h3 : BeatKept s s3 := h1.wr.wr.wrB.wr.wrB
  clear_value s3
  exact h3.trans ⟨rfl, rfl, rfl, rfl⟩

theorem State.afterGateStop_beat : BeatKept s s.afterGateStop := by
  refine (s.gatesOff_beat).trans (.within (State.gatesStopped_within (T := [.regs, .out, .crown, .q91, .track, .prot, .rk, .scan, .est, .ringSt, .bal, .tele, .nvm])
    (by decide) (by decide) (by decide) (by decide) (by decide) (by decide) (by decide) (by decide) (by decide) (by decide) (by decide) (by decide) (by decide)
    Within.rfl) (by decide) (by decide))

theorem State.restartPhases_beat : BeatKept s s.restartPhases := .ite (.foldl (fun _ _ => .setPhase _ _) _ _) .refl

theorem State.cancelShed_beat (b : Bool) : BeatKept s (s.cancelShed b) := by
  unfold State.cancelShed
  split
  · exact .refl
  · rename_i n _
    extract_lets ph s2 s3
    have h2 : BeatKept s s2 := (BeatKept.setPhase n _).wrB
    have h3 : BeatKept s s3 := h2.bump.raise
    exact .ite h3.wrB h3

theorem State.frozen_beat (l : List Nat) (b : Bool) : BeatKept s (l.foldl (fun s k => s.wrB (F.LOOP_ISTAT_FROZEN k) b) s) :=
  .foldl (fun _ _ => BeatKept.refl.wrB) _ _

/-- The burst ended: no burst counted, entered or left. -/
def State.burstCleared (s : State) : State :=
  { s with pwm := { s.pwm with burstLeft := 0, burstOff := 0, burstExit := false, burstStart := false } }

/-- The demand's loop preset, to ramp from there. -/
def State.demandPreset (s : State) : State :=
  { s.presetTo 16 s.loop.iCmd with loop := { (s.presetTo 16 s.loop.iCmd).loop with rampFrom := s.loop.rampFrom ++ [16] } }

/-- The phases' instances frozen or not. -/
def State.freezePhases (s : State) (b : Bool) : State := (List.range 16).foldl (fun s k => s.wrB (F.LOOP_ISTAT_FROZEN k) b) s

theorem State.leaveBurst_eq : s.leaveBurst =
    ((((s.restartPhases.wr F.PSTAGE_STATUS_LIGHT 0).raise 0x20 4).burstCleared.wrB (F.LOOP_ISTAT_FROZEN 16) false).freezePhases false).demandPreset := rfl

theorem State.leaveBurst_beat : BeatKept s s.leaveBurst := by
  have hc : ∀ u : State, BeatKept u u.burstCleared := fun _ => ⟨rfl, rfl, rfl, rfl⟩
  have hd : ∀ u : State, BeatKept u u.demandPreset := fun _ => ⟨rfl, rfl, rfl, rfl⟩
  have hf : ∀ u : State, BeatKept u (u.freezePhases false) := fun u => u.frozen_beat _ _
  rw [State.leaveBurst_eq]
  exact (((s.restartPhases_beat.wr.raise.trans (hc _)).wrB).trans (hf _)).trans (hd _)

theorem State.takeInterlock_beat : BeatKept s s.takeInterlock := by
  unfold State.takeInterlock
  extract_lets s1 s2 s3 p i
  have h1 : BeatKept s s1 := BeatKept.refl.wrB.trans (State.cancelShed_beat _ _)
  have h2 : BeatKept s s2 := .ite (h1.trans (State.leaveBurst_beat _)) h1
  have h3 : BeatKept s s3 := .ite (h2.trans ((BeatKept.within (State.balStop_within (T := [.regs, .out, .q91, .rk, .scan, .ringSt, .bal]) (by decide) (by decide)
    (by decide) (by decide) (by decide) (by decide) (by decide) Within.rfl) (by decide) (by decide)).wrB)) h2
  exact h3.trans ⟨rfl, rfl, rfl, rfl⟩

theorem State.burstBegin_beat : BeatKept s s.burstBegin := by
  unfold State.burstBegin
  extract_lets i s1 p s2 s3
  have h1 : BeatKept s s1 := s.restartPhases_beat.wr
  have h2 : BeatKept s s2 := h1.trans ⟨rfl, rfl, rfl, rfl⟩
  exact (h2.trans (State.frozen_beat _ _ _)).wrB

theorem State.burstRest_beat : BeatKept s s.burstRest := by
  unfold State.burstRest
  extract_lets l s1 s2
  have h1 : BeatKept s s2 := (BeatKept.refl.wr (f := F.PSTAGE_STATUS_LIGHT) (n := 3)).trans ⟨rfl, rfl, rfl, rfl⟩
  exact (h1.trans (.foldl (fun _ _ => .setPhase _ _) _ _)).trans (.foldl (fun _ _ => BeatKept.refl.wrB.wrB) _ _)

theorem State.burstBoundary_beat : BeatKept s s.burstBoundary := by
  unfold State.burstBoundary
  extract_lets left p s1
  have h1 : BeatKept s s1 := ⟨rfl, rfl, rfl, rfl⟩
  exact .ite s.leaveBurst_beat (.ite s.burstBegin_beat (.ite (.ite (.ite (h1.trans (State.burstBegin_beat _)) (h1.trans (State.burstRest_beat _))) h1)
    (.ite ⟨rfl, rfl, rfl, rfl⟩ .refl)))

theorem State.setRunning_beat (n : Nat) (b : Bool) : BeatKept s (s.setRunning n b) := BeatKept.refl.wrBit.wr

/-- A gate test ended at a boundary. -/
def State.testEnded (s : State) : State :=
  { (s.gatesOff.wrB F.TESTMUX_STATUS_GTEST false).dropEnables with tmx := { s.tmx with stopNext := false, startNext := false } }

theorem State.testEnded_beat : BeatKept s s.testEnded := by
  have hd : ∀ u : State, BeatKept u u.dropEnables := fun u =>
    .within (State.dropEnables_within (T := [.regs, .prot]) (by decide) (by decide) Within.rfl) (by decide) (by decide)
  exact (s.gatesOff_beat.wrB.trans (hd _)).trans (.of_pwm (State.mk_pwm ..) (State.mk_stg ..))

/-- A phase of a gate test started. -/
def State.testPhase (per len : Nat) (s : State) (x : Nat × Nat) : State :=
  (((s.wr (F.PHASE_STAT_STATE x.1) 1).setRunning x.1 true).wr (F.PHASE_STAT_OFFSET x.1) (interleave x.2 per len)).setPhase x.1
    { per := per, u := s.rd F.TESTMUX_GTEST2_DUTY * 128 }

/-- The phases that a gate test names. -/
def State.testNamed (s : State) : List Nat := phases.filter fun n => s.bit F.TESTMUX_GTEST_PHASES n

theorem State.testBoundary_eq : s.testBoundary = if s.tmx.stopNext then s.testEnded else if s.tmx.startNext then
    ((s.testNamed.zip (List.range s.testNamed.length)).foldl (State.testPhase (s.rd F.PSTAGE_PERIOD_PER) s.testNamed.length)
      { s with tmx := { s.tmx with startNext := false } }).refreshGates else s := rfl

theorem State.testBoundary_beat : BeatKept s s.testBoundary := by
  rw [State.testBoundary_eq]
  have hp : ∀ (per len : Nat) (u : State) (x : Nat × Nat), BeatKept u (State.testPhase per len u x) := fun _ _ u x =>
    (((BeatKept.refl.wr).trans (State.setRunning_beat _ _ _)).wr).trans (.setPhase _ _)
  refine .ite s.testEnded_beat (.ite (BeatKept.trans ?_ (BeatKept.refl.wrB)) .refl)
  exact BeatKept.trans (.of_pwm (State.mk_pwm ..) (State.mk_stg ..)) (.foldl (hp _ _) _ _)

theorem State.spread_beat : BeatKept s s.spread := .foldl (fun _ _ => .setPhase _ _) _ _

theorem State.slotBoundary_beat : BeatKept s s.slotBoundary :=
  .within (State.slotBoundary_within (T := [.regs, .out, .imp, .harv, .pair]) (by decide) (by decide) (by decide) (by decide) (by decide) Within.rfl)
    (by decide) (by decide)

/-- The counts of a boundary. -/
def State.p0Counted (s : State) : State :=
  let st := s.rd F.IMPED_STATUS_STATE
  { s with stg := { s.stg with lead := s.stg.lead - 1 }, pwm := { s.pwm with outerCnt := s.pwm.outerCnt + 1, p0 := (s.pwm.p0 + 1) % 2 ^ 32, p0At := s.mono },
           imp := { s.imp with p := if st == 1 || st == 2 || st == 3 then s.imp.p + 1 else s.imp.p } }

/-- A boundary's dues: the gates' stop, the interlock and the new spread of the phases. -/
def State.gatesDue (s : State) : State := if s.pwm.stopNext then s.afterGateStop else s

def State.lockDue (s : State) : State := if s.pwm.lockNext then s.takeInterlock else s

def State.spreadDue (s : State) : State := if s.pwm.respread then { s.spread with pwm := { s.spread.pwm with respread := false } } else s

/-- The boundary told to the partner, where there is one to tell. -/
def State.boundarySent (s : State) : State :=
  if s.rd F.PAIR_STATUS_ROLE == 1 && s.on F.PAIR_STATUS_LINK_UP then s.send (.boundary (s.timeBase 0)) else s

theorem exec_phase0Boundary :
    exec .phase0Boundary s = .next s.p0Counted.slotBoundary.gatesDue.lockDue.spreadDue.burstBoundary.testBoundary.boundarySent := rfl

theorem State.spreadDue_beat : BeatKept s s.spreadDue := .ite (s.spread_beat.trans ⟨rfl, rfl, rfl, rfl⟩) .refl

theorem State.boundary_beat : BeatKept s.p0Counted s.p0Counted.slotBoundary.gatesDue.lockDue.spreadDue.burstBoundary.testBoundary.boundarySent := by
  have hg : ∀ u : State, BeatKept u u.gatesDue := fun u => .ite u.afterGateStop_beat .refl
  have hl : ∀ u : State, BeatKept u u.lockDue := fun u => .ite u.takeInterlock_beat .refl
  have hs : ∀ u : State, BeatKept u u.boundarySent := fun u => .ite ⟨rfl, rfl, rfl, rfl⟩ .refl
  exact ((((((State.slotBoundary_beat _).trans (hg _)).trans (hl _)).trans (State.spreadDue_beat _)).trans (State.burstBoundary_beat _)).trans
    (State.testBoundary_beat _)).trans (hs _)

theorem phase0Boundary_counts : Gives .phase0Boundary s fun t => t.pwm.p0 = (s.pwm.p0 + 1) % 2 ^ 32 ∧ t.pwm.p0At = s.mono ∧
    t.pwm.outerCnt = s.pwm.outerCnt + 1 ∧ t.stg.lead = s.stg.lead - 1 := by
  obtain ⟨h0, h1, h2, h3⟩ := s.boundary_beat
  exact .of_eq (exec_phase0Boundary s) rfl ⟨h0, h1, h2, congrArg _ h3⟩

end Beat

/-! ## The start of a period -/

section Periods
variable {s t : State} {n : Nat}

theorem State.phase_setPhase (s : State) (n k : Nat) (p : Phase) : (s.setPhase n p).phase k = if n = k then p else s.phase k := mget_mset ..

theorem State.phase_same (s : State) (n : Nat) (p : Phase) : (s.setPhase n p).phase n = p := (s.phase_setPhase n n p).trans (if_pos rfl)

theorem State.phase_of_pwm (h : t.pwm = s.pwm) (n : Nat) : t.phase n = s.phase n := by rw [State.phase, State.phase, h]

theorem State.rd_setPhase (s : State) (n : Nat) (p : Phase) (f : Fld) : (s.setPhase n p).rd f = s.rd f := rfl

/-- What a period's start leaves of phase n: the command and the trips of the period before, shown. -/
structure PeriodShown (n u pos neg : Nat) (s : State) : Prop where
  inForce : (s.phase n).u = u
  noStart : (s.phase n).uStart = none
  noCentre : (s.phase n).uCentre = none
  noTrip : (s.phase n).cbc = 0
  positive : s.rd (F.PHASE_STAT_CBC_POS n) = pos
  negative : s.rd (F.PHASE_STAT_CBC_NEG n) = neg

variable {u pos neg : Nat}

/-- A phase of the same command, deliveries and trips. -/
theorem PeriodShown.setPhase (h : PeriodShown n u pos neg s) (p : Phase) (hu : p.u = (s.phase n).u) (hs : p.uStart = (s.phase n).uStart)
    (hc : p.uCentre = (s.phase n).uCentre) (ht : p.cbc = (s.phase n).cbc) : PeriodShown n u pos neg (s.setPhase n p) := by
  obtain ⟨h1, h2, h3, h4, h5, h6⟩ := h
  have hp := s.phase_same n p
  exact ⟨by rw [hp, hu, h1], by rw [hp, hs, h2], by rw [hp, hc, h3], by rw [hp, ht, h4], h5, h6⟩

theorem PeriodShown.of_rd (h : PeriodShown n u pos neg s) (hp : t.pwm = s.pwm) (h1 : t.rd (F.PHASE_STAT_CBC_POS n) = s.rd (F.PHASE_STAT_CBC_POS n))
    (h2 : t.rd (F.PHASE_STAT_CBC_NEG n) = s.rd (F.PHASE_STAT_CBC_NEG n)) : PeriodShown n u pos neg t := by
  obtain ⟨a, b, c, d, e, f⟩ := h
  have hq := State.phase_of_pwm hp n
  exact ⟨by rw [hq, a], by rw [hq, b], by rw [hq, c], by rw [hq, d], h1.trans e, h2.trans f⟩

theorem PeriodShown.wr (h : PeriodShown n u pos neg s) {f : Fld} {v : Nat} (hf : f.fits) (h1 : f.apart (F.PHASE_STAT_CBC_POS n))
    (h2 : f.apart (F.PHASE_STAT_CBC_NEG n)) : PeriodShown n u pos neg (s.wr f v) :=
  h.of_rd (State.wr_pwm ..) (State.rd_wr_apart _ _ _ _ hf h1) (State.rd_wr_apart _ _ _ _ hf h2)

theorem PeriodShown.ite {p : Prop} [Decidable p] {a b : State} (ha : PeriodShown n u pos neg a) (hb : PeriodShown n u pos neg b) :
    PeriodShown n u pos neg (if p then a else b) := by
  split
  · exact ha
  · exact hb

theorem PeriodShown.takeOffset (h : PeriodShown n u pos neg s) : PeriodShown n u pos neg (s.takeOffset n) := by
  unfold State.takeOffset
  extract_lets ph
  split
  · exact h.setPhase _ rfl rfl rfl rfl
  · extract_lets d1 d2
    exact (h.wr (f := F.PHASE_STAT_OFFSET n) (Nat.le_refl 32) (.inr (.inr (by decide : 3 + 1 ≤ 16))) (.inr (.inr (by decide : 4 + 1 ≤ 16)))).setPhase _
      rfl rfl rfl rfl

theorem PeriodShown.refreshLight (h : PeriodShown n u pos neg s) : PeriodShown n u pos neg s.refreshLight :=
  .ite (h.wr (by decide) (.inl (by simp only [ne_eq]; omega)) (.inl (by simp only [ne_eq]; omega))) h

theorem PeriodShown.wrSkipping (h : PeriodShown n u pos neg s) (b : Bool) : PeriodShown n u pos neg (s.wrB (F.PHASE_STAT_SKIPPING n) b) :=
  h.wr (f := F.PHASE_STAT_SKIPPING n) (Nat.le_of_ble_eq_true rfl) (.inr (.inl (by decide : 2 + 1 ≤ 3))) (.inr (.inl (by decide : 2 + 1 ≤ 4)))

theorem PeriodShown.setInteg (h : PeriodShown n u pos neg s) (x : Int) : PeriodShown n u pos neg (s.setInteg n x) :=
  (h.wr (f := F.LOOP_ISLO_IS_LO n) (Nat.le_refl 32) (.inl (by simp only [ne_eq]; omega)) (.inl (by simp only [ne_eq]; omega))).wr
    (f := F.LOOP_ISHI_IS_HI n) (Nat.le_of_ble_eq_true rfl) (.inl (by simp only [ne_eq]; omega)) (.inl (by simp only [ne_eq]; omega))

theorem PeriodShown.takeLight (h : PeriodShown n u pos neg s) : PeriodShown n u pos neg (s.takeLight n) := by
  unfold State.takeLight
  extract_lets ph
  have hs : ∀ b, PeriodShown n u pos neg ((s.wrB (F.PHASE_STAT_SKIPPING n) b).setPhase n { ph with residual := 0, excluded := true }) := fun b =>
    (h.wrSkipping b).setPhase _ rfl rfl rfl rfl
  have hp : ∀ (v : State) (x : Int), PeriodShown n u pos neg v → PeriodShown n u pos neg (v.presetTo n x) := fun v x hv => hv.of_rd rfl rfl rfl
  exact .ite (.ite ((hs false).setInteg 0).refreshLight h) (.ite (hp _ _ (hs true)).refreshLight h)

theorem PeriodShown.bumpSkip (h : PeriodShown n u pos neg s) : PeriodShown n u pos neg (s.bump (F.PHASE_COUNT_SKIP n)) :=
  h.wr (f := F.PHASE_COUNT_SKIP n) (Nat.le_of_ble_eq_true rfl) (.inl (by simp only [ne_eq]; omega)) (.inl (by simp only [ne_eq]; omega))

theorem PeriodShown.computeEdges (h : PeriodShown n u pos neg s) : PeriodShown n u pos neg (s.computeEdges n) := by
  unfold State.computeEdges
  extract_lets
  rename_i v
  have hp : v.pwm = s.pwm := by
    unfold v
    split
    · exact State.bump_pwm ..
    · rfl
  have hv : v.phase n = s.phase n := State.phase_of_pwm hp n
  have h2 : PeriodShown n u pos neg v := .ite h.bumpSkip h
  exact h2.setPhase _ (by rw [hv]) (by rw [hv]) (by rw [hv]) (by rw [hv])

/-- What a period's start finds of phase n: a phase that runs and does not shed. -/
structure PeriodReady (n : Nat) (p : Phase) (s : State) : Prop where
  inForce : (s.phase n).u = p.u
  start : (s.phase n).uStart = p.uStart
  trips : (s.phase n).cbc = p.cbc
  noBack : (s.phase n).shedBack = false
  noShed : s.rd (F.PHASE_STAT_STATE n) ≠ 2
  running : s.bit F.PSTAGE_RUNMASK_RUN n = true

variable {p : Phase}

theorem PeriodReady.of_phase (h : PeriodReady n p s) (hp : t.phase n = s.phase n) (h5 : t.rd (F.PHASE_STAT_STATE n) ≠ 2)
    (h6 : t.bit F.PSTAGE_RUNMASK_RUN n = true) : PeriodReady n p t := by
  obtain ⟨a, b, c, d, -, -⟩ := h
  exact ⟨by rw [hp, a], by rw [hp, b], by rw [hp, c], by rw [hp, d], h5, h6⟩

theorem PeriodReady.of_regs (h : PeriodReady n p s) (hp : t.phase n = s.phase n) (hr : t.regs = s.regs) : PeriodReady n p t :=
  h.of_phase hp (by rw [State.rd_regs hr]; exact h.noShed) ((State.bit_rd (State.rd_regs hr _) n).trans h.running)

theorem PeriodReady.setPhase (h : PeriodReady n p s) (q : Phase) (hu : q.u = (s.phase n).u) (hs : q.uStart = (s.phase n).uStart)
    (ht : q.cbc = (s.phase n).cbc) (hb : q.shedBack = (s.phase n).shedBack) : PeriodReady n p (s.setPhase n q) := by
  obtain ⟨h1, h2, h3, h4, h5, h6⟩ := h
  have hp := s.phase_same n q
  exact ⟨by rw [hp, hu, h1], by rw [hp, hs, h2], by rw [hp, ht, h3], by rw [hp, hb, h4], h5, h6⟩

theorem PeriodReady.accumulate (h : PeriodReady n p s) : PeriodReady n p (s.accumulate n) := by
  unfold State.accumulate
  extract_lets ph q bb onA onB vt qBus qStr s1
  have h1 : PeriodReady n p s1 := h.setPhase _ rfl rfl rfl rfl
  clear_value s1
  exact h1.of_regs rfl rfl

theorem PeriodReady.refreshGates (h : PeriodReady n p s) : PeriodReady n p s.refreshGates :=
  h.of_phase (State.phase_of_pwm (State.wrB_pwm ..) n)
    (by rw [State.refreshGates, State.rd_wrB_apart _ _ (F.PHASE_STAT_STATE n) _ (by decide) (.inl (by simp only [ne_eq]; omega))]; exact h.noShed)
    ((State.bit_rd (State.rd_wrB_apart _ _ _ _ (by decide) (by decide)) n).trans h.running)

/-- A phase shown as running. -/
theorem PeriodReady.run (hn : n < 16) (h : PeriodReady n p s) : PeriodReady n p ((s.wr (F.PHASE_STAT_STATE n) 1).setRunning n true) := by
  have hs : ((s.wr (F.PHASE_STAT_STATE n) 1).setRunning n true).rd (F.PHASE_STAT_STATE n) = 1 := by
    refine (State.rd_wr_apart _ _ _ _ (by decide) (.inl (by simp only [ne_eq]; omega))).trans ?_
    refine (State.rd_wrBit_apart _ _ _ _ _ (by decide) (.inl (by simp only [ne_eq]; omega))).trans ?_
    exact State.rd_wr _ (F.PHASE_STAT_STATE n) _ (Nat.le_of_ble_eq_true rfl)
  have hr : ((s.wr (F.PHASE_STAT_STATE n) 1).setRunning n true).bit F.PSTAGE_RUNMASK_RUN n = true :=
    (State.bit_rd (State.rd_wr_apart _ _ _ _ (by decide) (by decide)) n).trans (State.bit_wrBit _ _ _ _ (by decide) hn)
  exact h.of_phase (State.phase_of_pwm ((State.wr_pwm ..).trans ((State.wr_pwm ..).trans (State.wr_pwm ..))) n) (by rw [hs]; decide) hr

theorem PeriodReady.beginPhase (hn : n < 16) (h : PeriodReady n p s) : PeriodReady n p (s.beginPhase n) := by
  unfold State.beginPhase
  extract_lets ph already s1 q
  have h1 : PeriodReady n p s1 := by
    have hq : ((s.wr (F.PHASE_STAT_STATE n) 1).setRunning n true).phase n = ph :=
      State.phase_of_pwm ((State.wr_pwm ..).trans ((State.wr_pwm ..).trans (State.wr_pwm ..))) n
    exact (h.run hn).setPhase _ (by rw [hq]) (by rw [hq]) (by rw [hq]) (by rw [hq])
  clear_value s1
  split
  · split
    · exact h1.refreshGates
    · exact PeriodReady.refreshGates (h1.of_regs rfl rfl)
  · exact h

/-- Neither a shed nor its return is under way. -/
theorem PeriodReady.shedStep (h : PeriodReady n p s) : s.shedStep n = s := by
  unfold State.shedStep
  extract_lets ph m
  exact (if_neg (by rw [show ph.shedBack = false from h.noBack]; decide)).trans (if_neg (by simpa using h.noShed))

/-- A running phase at its start, with what the period before leaves and what a start of the phase begins. -/
def State.periodBegun (s : State) (n : Nat) : State := (if (s.phase n).starting then s else s.accumulate n).beginPhase n

theorem PeriodReady.periodBegun (hn : n < 16) (h : PeriodReady n p s) : PeriodReady n p (s.periodBegun n) := by
  refine PeriodReady.beginPhase hn ?_
  split
  · exact h
  · exact h.accumulate

/-- The delivered command taken. -/
def State.commandTaken (s : State) (n : Nat) : State :=
  s.setPhase n { s.phase n with u := (s.phase n).uStart.getD (s.phase n).u, uStart := none, uCentre := none }

theorem State.closePeriod_regs (s : State) (n : Nat) : (s.closePeriod n).regs =
    ((s.wrB (F.PHASE_STAT_CBC_POS n) ((s.phase n).cbc.testBit 0)).wrB (F.PHASE_STAT_CBC_NEG n) ((s.phase n).cbc.testBit 1)).regs := rfl

theorem State.closePeriod_phase (s : State) (n : Nat) : (s.closePeriod n).phase n =
    { s.phase n with cbc := 0, tripRun := if (s.phase n).cbc = 0 then 0 else (s.phase n).tripRun, freeze := (s.phase n).freeze - 1 } := State.phase_same ..

theorem State.rd_closePeriod (s : State) (n : Nat) : (s.closePeriod n).rd (F.PHASE_STAT_CBC_POS n) = (if (s.phase n).cbc.testBit 0 then 1 else 0) ∧
    (s.closePeriod n).rd (F.PHASE_STAT_CBC_NEG n) = if (s.phase n).cbc.testBit 1 then 1 else 0 := by
  have hf : (F.PHASE_STAT_CBC_POS n).fits ∧ (F.PHASE_STAT_CBC_NEG n).fits := ⟨Nat.le_of_ble_eq_true rfl, Nat.le_of_ble_eq_true rfl⟩
  refine ⟨(State.rd_regs (s.closePeriod_regs n) _).trans ?_, (State.rd_regs (s.closePeriod_regs n) _).trans ?_⟩
  · refine (State.rd_wrB_apart _ _ _ _ hf.2 (.inr (.inr (by decide : 3 + 1 ≤ 4)))).trans ?_
    exact State.rd_wrB _ _ _ hf.1 (by decide : 1 ≠ 0)
  · exact State.rd_wrB _ _ _ hf.2 (by decide : 1 ≠ 0)

/-- A running phase's start. -/
theorem PeriodReady.shown (h : PeriodReady n p s) : PeriodShown n (p.uStart.getD p.u) (if p.cbc.testBit 0 then 1 else 0) (if p.cbc.testBit 1 then 1 else 0)
    (((((s.closePeriod n).commandTaken n).takeOffset n).takeLight n).computeEdges n) := by
  refine PeriodShown.computeEdges (PeriodShown.takeLight (PeriodShown.takeOffset ?_))
  have hp := s.closePeriod_phase n
  obtain ⟨hpos, hneg⟩ := s.rd_closePeriod n
  have ht : ((s.closePeriod n).commandTaken n).phase n = { (s.closePeriod n).phase n with
      u := ((s.closePeriod n).phase n).uStart.getD ((s.closePeriod n).phase n).u, uStart := none, uCentre := none } := State.phase_same ..
  refine ⟨?_, by rw [ht], by rw [ht], by rw [ht, hp], ?_, ?_⟩
  · rw [ht, hp]
    exact congrArg₂ Option.getD h.start h.inForce
  · rw [← h.trips]
    exact hpos
  · rw [← h.trips]
    exact hneg

theorem State.periodStart_eq (s : State) (n : Nat) : s.periodStart n =
    if !s.bit F.PSTAGE_RUNMASK_RUN n && !(s.phase n).starting then s
    else if s.rd F.PSTAGE_STATUS_LIGHT == 3 then (s.closePeriod n).setPhase n { (s.closePeriod n).phase n with legA := {}, legB := {} }
    else if !(((s.periodBegun n).shedStep n).closePeriod n).bit F.PSTAGE_RUNMASK_RUN n then ((s.periodBegun n).shedStep n).closePeriod n
    else ((((((s.periodBegun n).shedStep n).closePeriod n).commandTaken n).takeOffset n).takeLight n).computeEdges n := rfl

theorem PeriodReady.closePeriod_running (h : PeriodReady n p s) : (s.closePeriod n).bit F.PSTAGE_RUNMASK_RUN n = true := by
  have hf : (F.PHASE_STAT_CBC_POS n).fits ∧ (F.PHASE_STAT_CBC_NEG n).fits := ⟨Nat.le_of_ble_eq_true rfl, Nat.le_of_ble_eq_true rfl⟩
  refine (State.bit_rd ((State.rd_regs (s.closePeriod_regs n) _).trans ?_) n).trans h.running
  exact (State.rd_wrB_apart _ _ _ _ hf.2 (.inl (by simp only [ne_eq]; omega))).trans (State.rd_wrB_apart _ _ _ _ hf.1 (.inl (by simp only [ne_eq]; omega)))

theorem State.periodStart_runs (hn : n < 16) (hr : s.bit F.PSTAGE_RUNMASK_RUN n = true) (hl : s.rd F.PSTAGE_STATUS_LIGHT ≠ 3)
    (h2 : s.rd (F.PHASE_STAT_STATE n) ≠ 2) (hb : (s.phase n).shedBack = false) :
    PeriodShown n ((s.phase n).uStart.getD (s.phase n).u) (if (s.phase n).cbc.testBit 0 then 1 else 0) (if (s.phase n).cbc.testBit 1 then 1 else 0)
      (s.periodStart n) := by
  have h0 : PeriodReady n (s.phase n) s := ⟨rfl, rfl, rfl, hb, h2, hr⟩
  have h1 := h0.periodBegun hn
  have he : s.periodStart n = (((((s.periodBegun n).closePeriod n).commandTaken n).takeOffset n).takeLight n).computeEdges n := by
    rw [State.periodStart_eq, if_neg (by rw [hr]; simp), if_neg (by simpa using hl), h1.shedStep, if_neg (by rw [h1.closePeriod_running]; decide)]
  rw [he]
  exact h1.shown

theorem State.periodStart_off (hr : s.bit F.PSTAGE_RUNMASK_RUN n = true) (hl : s.rd F.PSTAGE_STATUS_LIGHT = 3) :
    ((s.periodStart n).phase n).legA = {} ∧ ((s.periodStart n).phase n).legB = {} ∧ ((s.periodStart n).phase n).u = (s.phase n).u := by
  have he : s.periodStart n = (s.closePeriod n).setPhase n { (s.closePeriod n).phase n with legA := {}, legB := {} } := by
    rw [State.periodStart_eq, if_neg (by rw [hr]; simp), if_pos (by rw [hl]; decide)]
  rw [he, State.phase_same, State.closePeriod_phase]
  exact ⟨rfl, rfl, rfl⟩

theorem State.periodStart_stopped (hr : s.bit F.PSTAGE_RUNMASK_RUN n = false) (hs : (s.phase n).starting = false) : s.periodStart n = s := by
  rw [State.periodStart_eq, if_pos (by rw [hr, hs]; rfl)]

/-! ## The centre of a period -/

theorem centreTakeup_takes {n : Fin 16} {u : Nat} (hu : (s.phase n.val).uCentre = some u) (hc : (s.phase n.val).cbc = 0)
    (hr : s.bit F.PSTAGE_RUNMASK_RUN n.val = true) (hk : s.on (F.PHASE_STAT_SKIPPING n.val) = false) :
    Gives (.centreTakeup n) s fun t => (t.phase n.val).u = u ∧ (t.phase n.val).uCentre = none ∧ t.regs = s.regs := by
  change ∃ t, execCentreTakeup n s = .next t ∧ _
  unfold execCentreTakeup
  extract_lets ph
  rw [show ph.uCentre = some u from hu]
  dsimp only
  rw [if_neg (by rw [show ph.cbc = 0 from hc, hr, hk]; simp)]
  exact ⟨_, rfl, congrArg Phase.u (State.phase_same ..), congrArg Phase.uCentre (State.phase_same ..), rfl⟩

theorem centreTakeup_lapses {n : Fin 16} {u : Nat} (hu : (s.phase n.val).uCentre = some u) (hc : (s.phase n.val).cbc ≠ 0) :
    Gives (.centreTakeup n) s fun t => t.phase n.val = { s.phase n.val with uCentre := none } ∧ t.regs = s.regs := by
  change ∃ t, execCentreTakeup n s = .next t ∧ _
  unfold execCentreTakeup
  extract_lets ph
  rw [show ph.uCentre = some u from hu]
  dsimp only
  rw [if_pos (by simp [ph, hc])]
  exact ⟨_, rfl, State.phase_same .., rfl⟩

/-! ## Trips -/

/-- The phase after a trip of its period. -/
structure Tripped (n : Nat) (positive : Bool) (s t : State) : Prop where
  trips : (t.phase n).cbc = (s.phase n).cbc ||| (if positive then 1 else 2)
  noCentre : (t.phase n).uCentre = none
  frozen : (t.phase n).freeze = 2
  noResidual : (t.phase n).residual = 0
  shown : t.rd (if positive then F.PHASE_STAT_CBC_POS n else F.PHASE_STAT_CBC_NEG n) = 1
  counted : (s.phase n).cbc = 0 → (t.phase n).tripRun = (s.phase n).tripRun + 1 ∧
    t.rd (F.PHASE_COUNT_CBC n) = satCount (F.PHASE_COUNT_CBC n).width (s.rd (F.PHASE_COUNT_CBC n) + 1)

theorem Tripped.of_rd {positive : Bool} {v : State} (h : Tripped n positive s t) (hp : v.phase n = t.phase n)
    (h1 : v.rd (if positive then F.PHASE_STAT_CBC_POS n else F.PHASE_STAT_CBC_NEG n) = t.rd (if positive then F.PHASE_STAT_CBC_POS n else F.PHASE_STAT_CBC_NEG n))
    (h2 : v.rd (F.PHASE_COUNT_CBC n) = t.rd (F.PHASE_COUNT_CBC n)) : Tripped n positive s v := by
  obtain ⟨a, b, c, d, e, f⟩ := h
  exact ⟨by rw [hp, a], by rw [hp, b], by rw [hp, c], by rw [hp, d], h1.trans e, fun h0 => ⟨by rw [hp, (f h0).1], h2.trans (f h0).2⟩⟩

/-- The trip counted, where it is the first of its period, and shown. -/
def State.tripShown (s : State) (n : Nat) (positive : Bool) : State :=
  (if (s.phase n).cbc = 0 then s.bump (F.PHASE_COUNT_CBC n) else s).wrB (if positive then F.PHASE_STAT_CBC_POS n else F.PHASE_STAT_CBC_NEG n) true

theorem State.tripShown_setPhase {positive : Bool} {q : Phase} (hc : q.cbc = (s.phase n).cbc ||| (if positive then 1 else 2)) (hu : q.uCentre = none)
    (hf : q.freeze = 2) (hr : q.residual = 0) (ht : (s.phase n).cbc = 0 → q.tripRun = (s.phase n).tripRun + 1) :
    Tripped n positive s ((s.tripShown n positive).setPhase n q) := by
  have hq := (s.tripShown n positive).phase_same n q
  have hfit : (if positive then F.PHASE_STAT_CBC_POS n else F.PHASE_STAT_CBC_NEG n).fits := by
    cases positive
    · exact Nat.le_of_ble_eq_true rfl
    · exact Nat.le_of_ble_eq_true rfl
  have hne : (if positive then F.PHASE_STAT_CBC_POS n else F.PHASE_STAT_CBC_NEG n).addr ≠ (F.PHASE_COUNT_CBC n).addr := by
    cases positive
    · simp only [ne_eq, Bool.false_eq_true, if_false]
      omega
    · simp only [ne_eq, if_true]
      omega
  refine ⟨by rw [hq, hc], by rw [hq, hu], by rw [hq, hf], by rw [hq, hr], ?_, fun h0 => ⟨by rw [hq, ht h0], ?_⟩⟩
  · refine State.rd_wrB _ _ _ hfit ?_
    cases positive
    · exact (by decide : 1 ≠ 0)
    · exact (by decide : 1 ≠ 0)
  · refine (State.rd_wrB_apart _ _ _ _ hfit (.inl hne)).trans ?_
    rw [if_pos h0]
    exact State.rd_bump _ (F.PHASE_COUNT_CBC n) _ (Nat.le_of_ble_eq_true rfl)

theorem Tripped.raise {positive : Bool} (h : Tripped n positive s t) {page : Nat} (k : Nat) (hp : (evtStatus page).addr < 0x21054) :
    Tripped n positive s (t.raise page k) := by
  have hne : (evtStatus page).addr ≠ 0x21054 + 0x20 * n ∧ (evtStatus page).addr ≠ 0x21058 + 0x20 * n := by omega
  refine h.of_rd (State.phase_of_pwm (State.raise_pwm ..) n) (State.rd_raise _ _ _ _ (.inl ?_)) (State.rd_raise _ _ _ _ (.inl hne.2))
  cases positive
  · exact hne.1
  · exact hne.1

theorem cbcTrip_trips {n : Fin 16} {positive : Bool} {input : ComparatorInput} (hr : s.bit F.PSTAGE_RUNMASK_RUN n.val = true)
    (hb : s.blanked n.val input.t = false) (ho : s.overLimit n.val positive input.uv = true) :
    Gives (.cbcTrip n positive input) s (Tripped n.val positive s) := by
  change ∃ t, execCbcTrip n positive input s = .next t ∧ _
  unfold execCbcTrip
  extract_lets k ph x bb first run s1 s2 s3 s4 s5
  rw [if_neg (by rw [show s.bit F.PSTAGE_RUNMASK_RUN k = true from hr, show s.blanked k input.t = false from hb,
    show s.overLimit k positive input.uv = true from ho]; decide)]
  refine ⟨_, rfl, ?_⟩
  have h3 : Tripped n.val positive s s3 := by
    refine State.tripShown_setPhase rfl rfl rfl rfl fun h0 => ?_
    exact if_pos h0
  clear_value s3
  have h5 : Tripped n.val positive s s5 := by
    unfold s5
    split
    · exact h3.of_rd rfl rfl rfl
    · exact h3
  clear_value s5
  split
  · exact (h5.raise 6 (by decide)).raise _ (by decide)
  · exact h5

theorem cbcTrip_none {n : Fin 16} {positive : Bool} {input : ComparatorInput}
    (h : s.bit F.PSTAGE_RUNMASK_RUN n.val = false ∨ s.blanked n.val input.t = true ∨ s.overLimit n.val positive input.uv = false) :
    exec (.cbcTrip n positive input) s = .next s := by
  refine if_pos ?_
  rcases h with h | h | h
  · rw [h]
    rfl
  · rw [h, Bool.or_true, Bool.true_or]
  · rw [h]
    exact Bool.or_true _

end Periods

/-! ## Faults

A stop's writes of the power stage's pages, field by field. -/

section Faults
variable {s t : State} {g : Fld}

/-- A field of the power stage's pages that a stop leaves: none of those it writes. -/
structure StageStays (g : Fld) : Prop where
  page : pageOf g.addr = 0x20 ∨ pageOf g.addr = 0x21
  status : g.addr ≠ 0x2000C
  run : F.PSTAGE_RUNMASK_RUN.apart g
  state : ∀ n, (F.PHASE_STAT_STATE n).apart g ∧ (F.PHASE_STAT_SKIPPING n).apart g

theorem StageStays.other (h : StageStays g) {P : List Nat} (hp : OnlyPages P s t) (hP : 0x20 ∉ P ∧ 0x21 ∉ P) : t.rd g = s.rd g := by
  refine hp.rd ?_
  rcases h.page with e | e
  · rw [e]
    exact hP.1
  · rw [e]
    exact hP.2

/-- A write of a field of another page. -/
theorem StageStays.wr (h : StageStays g) {f : Fld} {v : Nat} (hf : pageOf f.addr ≠ 0x20 ∧ pageOf f.addr ≠ 0x21) : (t.wr f v).rd g = t.rd g :=
  h.other (P := [pageOf f.addr]) (OnlyPages.refl.wr (List.mem_singleton.2 rfl)) ⟨fun e => hf.1 (List.mem_singleton.1 e).symm, fun e => hf.2 (List.mem_singleton.1 e).symm⟩

theorem StageStays.raise (h : StageStays g) {page bit : Nat} (hf : pageOf (evtStatus page).addr ≠ 0x20 ∧ pageOf (evtStatus page).addr ≠ 0x21) :
    (t.raise page bit).rd g = t.rd g :=
  h.other (P := [pageOf (evtStatus page).addr]) (OnlyPages.refl.raise (List.mem_singleton.2 rfl))
    ⟨fun e => hf.1 (List.mem_singleton.1 e).symm, fun e => hf.2 (List.mem_singleton.1 e).symm⟩

/-- A write of the stage's STATUS. -/
theorem StageStays.wrStatus (h : StageStays g) {f : Fld} {v : Nat} (hf : f.addr = 0x2000C) : (t.wr f v).rd g = t.rd g :=
  OnlyWhere.rd (W := fun a => a = 0x2000C) (OnlyWhere.refl.wr hf) h.status

theorem State.gatesOff_regs_eq (s : State) : s.gatesOff.regs = (((((phases.foldl (fun s n =>
    ((if s.rd (F.PHASE_STAT_STATE n) = 3 then s else s.wr (F.PHASE_STAT_STATE n) 0).wrB (F.PHASE_STAT_SKIPPING n) false).setPhase n {}) s).wr
      F.PSTAGE_RUNMASK_RUN 0).wr F.PSTAGE_STATUS_N_ON 0).wrB F.PSTAGE_STATUS_SHEDDING false).wr F.PSTAGE_STATUS_LIGHT 0 |>.wrB
      F.PSTAGE_STATUS_GATES_LIVE false).regs := State.mk_regs ..

theorem StageStays.gatesOff (h : StageStays g) : s.gatesOff.rd g = s.rd g := by
  refine (State.rd_regs s.gatesOff_regs_eq g).trans ?_
  refine (h.wrStatus rfl).trans ((h.wrStatus rfl).trans ((h.wrStatus rfl).trans ((h.wrStatus rfl).trans ((State.rd_wr_apart _ _ _ _ (by decide) h.run).trans ?_))))
  refine rdIs_foldl (G := g) rfl fun u n hu => ?_
  have hs : (if u.rd (F.PHASE_STAT_STATE n) = 3 then u else u.wr (F.PHASE_STAT_STATE n) 0).rd g = s.rd g := by
    split
    · exact hu
    · exact (State.rd_wr_apart _ (F.PHASE_STAT_STATE n) _ _ (Nat.le_of_ble_eq_true rfl) (h.state n).1).trans hu
  exact (State.rd_wrB_apart _ (F.PHASE_STAT_SKIPPING n) _ _ (Nat.le_of_ble_eq_true rfl) (h.state n).2).trans hs

theorem StageStays.dropEnables (h : StageStays g) : s.dropEnables.rd g = s.rd g := by
  unfold State.dropEnables State.refreshGates
  extract_lets u
  exact (h.wrStatus rfl).trans ((h.wr (by decide)).trans ((h.wr (by decide)).trans (State.rd_regs (State.mk_regs ..) g)))

theorem State.cancelApply_pages (s : State) (cause : Nat) : OnlyPages [0x00, 0x01] s (s.cancelApply cause) := by
  unfold State.cancelApply
  extract_lets st s1 s2 g s3 g2
  have h2 : OnlyPages [0x00, 0x01] s s2 := (((OnlyPages.refl.wr (by decide)).wr (by decide)).wr (by decide)).wr (by decide)
  have h3 : OnlyPages [0x00, 0x01] s s3 := .ite ((h2.upd (State.mk_regs ..)).wr (by decide)) h2
  exact .ite (h3.upd (State.mk_regs ..)) .refl

theorem StageStays.abortRun (h : StageStays g) (code : Nat) : (s.abortRun code).rd g = s.rd g := by
  refine (State.abortRun_run s code).rd fun hw => ?_
  rcases hw with hw | hw
  · rcases h.page with e | e
    · rw [e] at hw
      exact absurd hw (by decide)
    · rw [e] at hw
      exact absurd hw (by decide)
  · rcases List.mem_cons.1 hw with e | e
    · exact h.status e
    · have hp := h.page
      rw [List.mem_singleton.1 e] at hp
      exact absurd hp (by decide)

theorem StageStays.endForStop (h : StageStays g) : s.endForStop.rd g = s.rd g := by
  unfold State.endForStop
  extract_lets s1 s2
  have h2 : s2.rd g = s.rd g := (h.abortRun 2).trans (h.other (s.cancelApply_pages 9) (by decide))
  split
  · exact (h.other (State.dropStart_pages _ _) (by decide)).trans h2
  · exact h2

theorem StageStays.endGateTest (h : StageStays g) (r : Nat) (b : Bool) : (s.endGateTest r b).rd g = s.rd g := by
  unfold State.endGateTest
  extract_lets s1 x y
  have h1 : s1.rd g = s.rd g := (h.raise (by decide)).trans (h.wr (by decide))
  split
  · split
    · refine (State.rd_regs (State.mk_regs ..) g).trans (h.dropEnables.trans ((h.wr (by decide)).trans (h.gatesOff.trans h1)))
    · exact (State.rd_regs (State.mk_regs ..) g).trans h1
  · rfl

theorem StageStays.enterSafe (h : StageStays g) (latch : Bool) (src : Nat) (ev : Ev) : (s.enterSafe latch src ev).rd g = s.rd g := by
  refine (h.other (s.enterSafe_after latch src ev) (by decide)).trans ?_
  refine (h.raise (by decide)).trans ((h.wr (by decide)).trans ((h.wr (by decide)).trans ((h.other (State.setMode_pages _ _) (by decide)).trans ?_)))
  refine (h.other (State.dropStart_pages _ _) (by decide)).trans ((h.other (State.loopOff_pages _) (by decide)).trans ?_)
  exact h.dropEnables.trans (h.gatesOff.trans (h.other s.leaveBal_pages (by decide)))

theorem StageStays.srdRelease (h : StageStays g) : s.srdRelease.rd g = s.rd g := by
  unfold State.srdRelease
  split
  · rfl
  · extract_lets s1 s2
    have h2 : s2.rd g = s.rd g := by
      unfold s2
      split
      · exact h.wr (by decide)
      · exact (h.other (State.releaseAll_pages _ (by decide)) (by decide)).trans (h.wr (by decide))
    split
    · exact (h.enterSafe _ _ _).trans h2
    · exact h2

theorem StageStays.srdRampEnd (h : StageStays g) : s.srdRampEnd.rd g = s.rd g := by
  unfold State.srdRampEnd
  split
  · rfl
  · refine h.srdRelease.trans ((h.wr (by decide)).trans ((h.other (State.loopOff_pages _) (by decide)).trans ?_))
    exact (h.other (State.freezeAll_pages _ _) (by decide)).trans (h.dropEnables.trans h.gatesOff)

theorem StageStays.startSrd (h : StageStays g) (cause : Nat) (latch : Bool) (src : Nat) (ev : Ev) (fast : Bool) :
    (s.startSrd cause latch src ev fast).rd g = s.rd g := by
  unfold State.startSrd
  extract_lets eff s1 s2 s3 p l s4
  have h2 : s2.rd g = s.rd g := (h.wr (by decide)).trans ((h.wr (by decide)).trans ((h.wr (by decide)).trans ((h.wr (by decide)).trans h.endForStop)))
  have h4 : s4.rd g = s.rd g := (State.rd_regs (State.mk_regs ..) g).trans ((h.raise (by decide)).trans ((h.wr (by decide)).trans h2))
  clear_value s4
  split
  · rfl
  · rfl
  · exact h.endGateTest _ _
  · split
    · exact h.other (State.setLatch_pages _ _ _) (by decide)
    · rfl
  · split
    · rfl
    · split
      · exact State.rd_regs (State.record_regs ..) g
      · split
        · rfl
        · split
          · exact h.srdRampEnd.trans h4
          · exact (h.wr (by decide)).trans h4

theorem StageStays.tripMode (h : StageStays g) (src : Nat) (ev : Ev) : (s.tripMode src ev).rd g = s.rd g := by
  unfold State.tripMode
  extract_lets s1 s2 d p s3
  have h3 : s3.rd g = s.rd g := (State.rd_regs (State.mk_regs ..) g).trans ((h.wr (by decide)).trans ((h.wr (by decide)).trans
    ((h.other (State.loopOff_pages _) (by decide)).trans h.endForStop)))
  clear_value s3
  split
  · exact h.other s.closeFeed_pages (by decide)
  · exact h.other s.closeFeed_pages (by decide)
  · exact h.other (State.setLatch_pages _ _ _) (by decide)
  · split
    · exact h.other s.closeFeed_pages (by decide)
    · split
      · exact (h.enterSafe _ _ _).trans h3
      · exact h3

theorem StageStays.hardTrip (h : StageStays g) (src : Nat) (ev : Ev) : (s.hardTrip src ev).rd g = s.rd g := by
  unfold State.hardTrip
  extract_lets s1 s2
  have h1 : s1.rd g = s.rd g := (h.other (State.freezeAll_pages _ _) (by decide)).trans (h.dropEnables.trans (h.gatesOff.trans (h.endGateTest _ _)))
  have h2 : s2.rd g = s.rd g := (h.raise (by decide)).trans ((h.wr (by decide)).trans ((h.wr (by decide)).trans h1))
  clear_value s2
  split
  · rfl
  · refine (h.tripMode _ _).trans ((h.other (State.cancelApply_pages _ _) (by decide)).trans ?_)
    exact (h.other (State.releaseAll_pages _ (by decide)) (by decide)).trans ((h.wr (by decide)).trans h2)

theorem StageStays.react (h : StageStays g) (r : RClass) (src : Nat) (ev : Ev) (data : List Int) (cause : Nat) (same : Bool) :
    (s.react r src ev data cause same).rd g = s.rd g := by
  have hr : ((s.record 6 src ev data same).noteSH src ev).rd g = s.rd g := State.rd_regs ((State.mk_regs ..).trans (State.record_regs ..)) g
  have hr' : ((s.record 7 src ev data same).noteSH src ev).rd g = s.rd g := State.rd_regs ((State.mk_regs ..).trans (State.record_regs ..)) g
  cases r with
  | W => exact State.rd_regs (State.record_regs ..) g
  | L => exact State.rd_regs (State.record_regs ..) g
  | S => exact (h.startSrd _ _ _ _ _).trans hr
  | H => exact (h.hardTrip _ _).trans hr'

variable {n : Nat}

theorem stageStays_fltOk (hn : n < 16) : StageStays (F.PHASE_STAT_FLT_OK n) where
  page := .inr (by simp only [pageOf]; omega)
  status := by simp only [ne_eq]; omega
  run := .inl (by simp only [ne_eq]; omega)
  state m := ⟨.inr (.inl (by decide : 0 + 2 ≤ 5)), .inr (.inl (by decide : 2 + 1 ≤ 5))⟩

theorem stageStays_faultMask : StageStays F.PSTAGE_RUNMASK_FAULTMASK where
  page := .inl rfl
  status := by decide
  run := by decide
  state m := ⟨.inl (by simp only [ne_eq]; omega), .inl (by simp only [ne_eq]; omega)⟩

theorem stageStays_lasting : StageStays (pageFld 0x20 0x02C 0 16) where
  page := .inl rfl
  status := by decide
  run := by decide
  state m := ⟨.inl (by simp only [pageFld, ne_eq]; omega), .inl (by simp only [pageFld, ne_eq]; omega)⟩

/-- A phase's fault shown. -/
def State.faultNoted (s : State) (k : Nat) : State :=
  ((s.wrB (F.PHASE_STAT_FLT_OK k) false).wr (F.PHASE_STAT_STATE k) 3).wrBit F.PSTAGE_RUNMASK_FAULTMASK k true

/-- A phase shown as faulted and stopped. -/
def State.faultLatched (s : State) (k : Nat) : State := (((s.faultNoted k).setRunning k false).wrB (F.PHASE_STAT_SKIPPING k) false).setPhase k {}

/-- The shed ended with the phase that shed. -/
def State.shedEnded (s : State) (shed : Bool) : State := if shed then s.wrB F.PSTAGE_STATUS_SHEDDING false else s

/-- The light load judged anew, with the window excluded. -/
def State.lightJudged (s : State) : State := { s.refreshLight with loop := { s.loop with excluded := true } }

/-- A gate test ended at once, where one runs. -/
def State.testStopped (s : State) : State := if s.on F.TESTMUX_STATUS_GTEST then s.endGateTest 8 true else s

/-- A faulted phase with what its stop takes along. -/
def State.faultTaken (s : State) (k : Nat) : State :=
  ((((s.faultLatched k).shedEnded (s.rd (F.PHASE_STAT_STATE k) == 2)).lightJudged.refreshGates.raise 0x20 5).raise 0x21 k).testStopped

/-- The class of a phase's fault. -/
def State.faultClass (s : State) (k : Nat) : RClass := RClass.ofCode ((s.faultTaken k).rd F.PSTAGE_CBC_DESAT_REACT)

theorem exec_faultReturn (n : Fin 16) : exec (.faultReturn n true) s =
    .next ((((s.faultTaken n.val).addCond (.phaseFault n.val) (s.faultClass n.val)).lasting 0x20 (evCode 0x20 .desat)).react (s.faultClass n.val) 0x20 .desat
      [n.val]) := rfl

theorem State.faultNoted_spec (hn : n < 16) : (s.faultNoted n).rd (F.PHASE_STAT_FLT_OK n) = 0 ∧
    (s.faultNoted n).bit F.PSTAGE_RUNMASK_FAULTMASK n = true := by
  have hk : (F.PHASE_STAT_STATE n).fits ∧ (F.PHASE_STAT_FLT_OK n).fits := ⟨Nat.le_of_ble_eq_true rfl, Nat.le_of_ble_eq_true rfl⟩
  refine ⟨?_, State.bit_wrBit _ _ _ _ (by decide) hn⟩
  refine (State.rd_wrBit_apart _ _ _ _ _ (by decide) (.inl (by simp only [ne_eq]; omega))).trans ?_
  exact (State.rd_wr_apart _ _ _ _ hk.1 (.inr (.inl (by decide : 0 + 2 ≤ 5)))).trans (State.rd_wrB _ _ _ hk.2 (by decide : 1 ≠ 0))

theorem StageStays.setRunning (h : StageStays g) (k : Nat) (b : Bool) : (s.setRunning k b).rd g = s.rd g := by
  unfold State.setRunning
  extract_lets u
  exact (h.wrStatus rfl).trans (State.rd_wrBit_apart _ _ _ _ _ (by decide) h.run)

theorem StageStays.faultLatched (h : StageStays g) (k : Nat) : (s.faultLatched k).rd g = (s.faultNoted k).rd g :=
  (State.rd_setPhase _ _ _ _).trans ((State.rd_wrB_apart _ (F.PHASE_STAT_SKIPPING k) _ _ (Nat.le_of_ble_eq_true rfl) (h.state k).2).trans (h.setRunning k false))

theorem StageStays.refreshLight (h : StageStays g) : s.refreshLight.rd g = s.rd g := by
  unfold State.refreshLight
  split
  · exact h.wrStatus rfl
  · rfl

theorem StageStays.shedEnded (h : StageStays g) (b : Bool) : (s.shedEnded b).rd g = s.rd g := by
  unfold State.shedEnded
  split
  · exact h.wrStatus rfl
  · rfl

theorem StageStays.lightJudged (h : StageStays g) : s.lightJudged.rd g = s.rd g := (State.rd_regs (State.mk_regs ..) g).trans h.refreshLight

theorem StageStays.testStopped (h : StageStays g) : s.testStopped.rd g = s.rd g := by
  unfold State.testStopped
  split
  · exact h.endGateTest _ _
  · rfl

theorem StageStays.faultTaken (h : StageStays g) (h0 : g.addr ≠ 0x20010) (h1 : g.addr ≠ 0x21010) : (s.faultTaken n).rd g = (s.faultNoted n).rd g := by
  have hr : ∀ (u : State) (page k : Nat), (evtStatus page).addr ≠ g.addr → (u.raise page k).rd g = u.rd g := fun u page k hp => State.rd_raise _ _ _ _ (.inl hp)
  unfold State.faultTaken
  rw [h.testStopped, hr _ 0x21 _ h1.symm, hr _ 0x20 _ h0.symm]
  exact (h.wrStatus rfl).trans (h.lightJudged.trans ((h.shedEnded _).trans (h.faultLatched n)))

theorem faultReturn_latches (n : Fin 16) : Gives (.faultReturn n true) s fun t => t.rd (F.PHASE_STAT_FLT_OK n.val) = 0 ∧
    t.bit F.PSTAGE_RUNMASK_FAULTMASK n.val = true ∧ t.hasCond (.phaseFault n.val) = true ∧ t.rd (pageFld 0x20 0x02C 0 16) = evCode 0x20 .desat := by
  obtain ⟨hf, hm⟩ := State.faultNoted_spec (s := s) n.isLt
  have ha := State.addCond_pages (s.faultTaken n.val) (.phaseFault n.val) (s.faultClass n.val)
  have hs := stageStays_fltOk n.isLt
  have hl : OnlyWhere (fun a => a = 0x2002C) ((s.faultTaken n.val).addCond (.phaseFault n.val) (s.faultClass n.val))
      (((s.faultTaken n.val).addCond (.phaseFault n.val) (s.faultClass n.val)).lasting 0x20 (evCode 0x20 .desat)) :=
    OnlyWhere.lasting (W := fun a => a = 0x2002C) .refl rfl
  refine .of_eq (exec_faultReturn n) rfl ⟨?_, ?_, ?_, ?_⟩
  · refine (hs.react _ _ _ _ _ _).trans ((hl.rd (by simp only; omega)).trans ((hs.other ha (by decide)).trans ((hs.faultTaken ?_ ?_).trans hf)))
    · simp only [ne_eq]
      omega
    · simp only [ne_eq]
      omega
  · refine (State.bit_rd ?_ n.val).trans hm
    exact (stageStays_faultMask.react _ _ _ _ _ _).trans ((hl.rd (by decide)).trans ((stageStays_faultMask.other ha (by decide)).trans
      (stageStays_faultMask.faultTaken (by decide) (by decide))))
  · have hc : (((s.faultTaken n.val).addCond (.phaseFault n.val) (s.faultClass n.val)).lasting 0x20 (evCode 0x20 .desat)).hasCond (.phaseFault n.val) = true :=
      (State.hasCond_of_prot (congrArg Prot.conds (State.lasting_prot ..)) _).trans (State.hasCond_addCond ..)
    exact (State.hasCond_of_prot (State.react_prot ..).conds _).trans hc
  · exact (stageStays_lasting.react _ _ _ _ _ _).trans (State.rd_lasting ..)

/-- The end of a fault shows, and clears its condition. -/
theorem faultReturn_ends (n : Fin 16) : Gives (.faultReturn n false) s fun t => t.rd (F.PHASE_STAT_FLT_OK n.val) = 1 ∧ t.hasCond (.phaseFault n.val) = false ∧
    (s.hasCond (.phaseFault n.val) = false → OnlyFields [F.PHASE_STAT_FLT_OK n.val] s t) := by
  have hf : (F.PHASE_STAT_FLT_OK n.val).fits := Nat.le_of_ble_eq_true rfl
  refine .of_eq (t := (s.wrB (F.PHASE_STAT_FLT_OK n.val) true).clearCond (.phaseFault n.val)) rfl rfl ⟨?_, State.hasCond_clearCond .., fun h => ?_⟩
  · refine ((State.clearCond_pages _ _).rd ?_).trans (State.rd_wrB _ _ _ hf (by decide : 1 ≠ 0))
    simp only [pageOf, List.mem_cons, List.not_mem_nil, or_false]
    omega
  · have hn : (s.wrB (F.PHASE_STAT_FLT_OK n.val) true).clearCond (.phaseFault n.val) = s.wrB (F.PHASE_STAT_FLT_OK n.val) true := by
      refine if_neg ?_
      rw [Bool.not_eq_true]
      exact h
    rw [hn]
    exact OnlyFields.refl.wrB _ hf (List.mem_singleton.2 rfl)

theorem State.phaseClear_clears (hn : n < 16) (hm : s.mode = .standby ∨ s.mode = .safe ∨ s.mode = .service) (ho : s.on (F.PHASE_STAT_FLT_OK n) = true)
    (h3 : s.rd (F.PHASE_STAT_STATE n) = 3) : (s.phaseClear n).rd (F.PHASE_STAT_STATE n) = 0 ∧ (s.phaseClear n).bit F.PSTAGE_RUNMASK_FAULTMASK n = false ∧
      (s.phaseClear n).hasCond (.phaseFault n) = false := by
  have he : s.phaseClear n = ((s.wr (F.PHASE_STAT_STATE n) 0).wrBit F.PSTAGE_RUNMASK_FAULTMASK n false).clearCond (.phaseFault n) := if_pos ⟨hm, ho, h3⟩
  have hp := State.clearCond_pages ((s.wr (F.PHASE_STAT_STATE n) 0).wrBit F.PSTAGE_RUNMASK_FAULTMASK n false) (.phaseFault n)
  rw [he]
  refine ⟨?_, ?_, State.hasCond_clearCond ..⟩
  · refine (hp.rd ?_).trans ((State.rd_wrBit_apart _ _ _ _ _ (by decide) (.inl (by simp only [ne_eq]; omega))).trans ?_)
    · simp only [pageOf, List.mem_cons, List.not_mem_nil, or_false]
      omega
    · exact State.rd_wr _ (F.PHASE_STAT_STATE n) _ (Nat.le_of_ble_eq_true rfl)
  · exact (State.bit_rd (hp.rd (by decide)) n).trans (State.bit_wrBit _ _ _ _ (by decide) hn)

theorem State.restartPhases_regs (s : State) : s.restartPhases.regs = s.regs := (State.restartPhases_within (T := [.pwm]) (by decide) Within.rfl).regs (by decide)

/-- The burst's counts begun. -/
def State.burstCounted (s : State) (i : Int) : State :=
  { s with pwm := { s.pwm with burstStart := false, burstLeft := s.rd F.PSTAGE_BURST_ON,
                                burstOff := burstOffLength (s.rd F.PSTAGE_BURST_ON) i s.pwm.iDem } }

theorem State.burstBegin_eq (s : State) : s.burstBegin =
    (((s.restartPhases.wr F.PSTAGE_STATUS_LIGHT 2).burstCounted (tenthToQ (s.rd F.PSTAGE_BURST_I))).freezePhases false).wrB (F.LOOP_ISTAT_FROZEN 16) true := rfl

theorem State.freezePhases_within (s : State) (b : Bool) : Within [.regs] s (s.freezePhases b) :=
  within_foldl Within.rfl fun _ _ hu => State.wrB_within (by decide) hu

theorem State.freezePhases_pages (s : State) (b : Bool) : OnlyPages [0x22] s (s.freezePhases b) :=
  .foldl .refl fun _ _ hk => OnlyPages.refl.wrB (List.mem_singleton.2 (pageOf_instance (off := 0x13C) (Nat.lt_trans (List.mem_range.1 hk) (by decide)) (by decide)))

theorem State.burstBegin_spec (s : State) : s.burstBegin.rd F.PSTAGE_STATUS_LIGHT = 2 ∧ s.burstBegin.pwm.burstLeft = s.rd F.PSTAGE_BURST_ON ∧
    s.burstBegin.pwm.burstStart = false := by
  have hp : s.burstBegin.pwm = ((s.restartPhases.wr F.PSTAGE_STATUS_LIGHT 2).burstCounted (tenthToQ (s.rd F.PSTAGE_BURST_I))).pwm := by
    rw [State.burstBegin_eq, State.wrB_pwm, (State.freezePhases_within _ _).pwm (by decide)]
  refine ⟨?_, ?_, by rw [hp]; rfl⟩
  · rw [State.burstBegin_eq]
    refine (State.rd_wrB_apart _ _ _ _ (by decide) (by decide)).trans (((State.freezePhases_pages _ _).rd (by decide)).trans ?_)
    exact (State.rd_regs (State.mk_regs ..) _).trans (State.rd_wr _ _ _ (by decide))
  · rw [hp]
    exact (State.rd_wr_apart _ _ _ _ (by decide) (by decide)).trans (State.rd_regs s.restartPhases_regs _)

end Faults

/-- Settles O31: the beat counts, periods take their commands, trips and faults latch and show, and bursts and the lockout end. -/
theorem powerStage : Obligations.PowerStage := by
  refine ⟨fun s => phase0Boundary_counts s, fun n s hr hl h2 hb => ?_, fun n s hr hl => .of_eq rfl rfl (State.periodStart_off hr hl), fun n s hr hs => ?_,
    fun n u s => centreTakeup_takes, fun n u s => centreTakeup_lapses, fun n p i s hr hb ho => ?_, fun n p i s h => .of_eq (cbcTrip_none h) rfl rfl,
    fun n s => faultReturn_ends n, fun n s => faultReturn_latches n, fun who n s hb hc hh hm ho h3 => ?_, fun s => ?_, fun s hl hb => ?_⟩
  · obtain ⟨h1, h2, h3, h4, h5, h6⟩ := State.periodStart_runs n.isLt hr hl h2 hb
    exact .of_eq rfl rfl ⟨h1, h2, h3, h4, h5, h6⟩
  · exact .of_eq rfl (State.periodStart_stopped hr hs) ⟨rfl, rfl⟩
  · obtain ⟨t, hx, h1, h2, h3, h4, h5, h6⟩ := cbcTrip_trips hr hb ho
    exact ⟨t, hx, h1, h2, h3, h4, h5, h6⟩
  · have hx : s.asWrite who (A.PHASE_CMD n.val) (fun u => u.crossing who (A.PHASE_CMD n.val) 1 fun u => u.phaseClear n.val) =
        (s.result who (A.PHASE_CMD n.val) 0).phaseClear n.val := by
      rw [State.asWrite_ok _ _ _ _ hb]
      exact State.crossing_now (by simpa using hc) (by simpa using hh)
    exact .of_eq rfl hx (State.phaseClear_clears n.isLt (by simpa using hm) (by simpa using ho) (by simpa using h3))
  · exact .of_eq rfl rfl ⟨State.rd_wrB _ _ _ (by decide) (by decide), OnlyFields.refl.wrB _ (by decide) (by decide)⟩
  · exact .of_eq (if_pos ⟨hl, hb⟩) rfl s.burstBegin_spec

end Sys2Proof.Machine
end

section
/-!
O36: the estimator and its journals. Writes of the journals, the reset and the anchors of cells, and an estimator step.
-/
set_option Elab.async false
namespace Sys2Proof.Machine
open Sys2Proof

section Journals
variable {s t u : State}

/-! ## The journals -/

theorem State.setSlot_est (j k : Nat) (x : JSlot) : (s.setSlot j k x).est.waiting = s.est.waiting ∧ (s.setSlot j k x).est.deferred = s.est.deferred := by
  unfold State.setSlot
  split <;> exact ⟨rfl, rfl⟩

theorem State.beginWrite_est (j reason : Nat) : (s.beginWrite j reason).est.writing = some (j, s.slotToWrite j, reason) ∧
    (s.beginWrite j reason).est.waiting = s.est.waiting ∧ (s.beginWrite j reason).est.deferred = s.est.deferred := by
  have h := State.setSlot_est (s := s) j (s.slotToWrite j) { bytes := s.slotBytes j reason, commit := [] }
  exact ⟨rfl, h.1, h.2⟩

theorem State.beginWrite_fields (j reason : Nat) : OnlyFields [F.LEARN_STATUS_JBUSY] s (s.beginWrite j reason) :=
  ((OnlyFields.of_regs (State.setSlot_regs ..)).wrB _ (by decide) (by decide)).upd (State.mk_regs ..)

theorem State.beginWrite_busy (j reason : Nat) : (s.beginWrite j reason).rd F.LEARN_STATUS_JBUSY = 1 :=
  (State.rd_regs (State.mk_regs ..) _).trans (State.rd_wrB _ _ true (by decide) (by decide))

theorem State.journal_begins (hh : s.journalHeld = false) (hw : s.est.writing = none) (j reason : Nat) : s.journal j reason = s.beginWrite j reason := by
  rw [State.journal, if_neg (ne_true_of_eq_false hh), if_neg (by simp [hw])]

theorem State.journal_waits (hh : s.journalHeld = false) (hw : s.est.writing.isSome = true) (j reason : Nat) :
    s.journal j reason = { s with est := { s.est with waiting := s.est.waiting.filter (·.1 != j) ++ [(j, reason)] } } := by
  rw [State.journal, if_neg (ne_true_of_eq_false hh), if_pos hw]

theorem State.journal_cells (j reason : Nat) : (s.journal j reason).est.cells = s.est.cells := by
  unfold State.journal
  split
  · rfl
  · split
    · rfl
    · change (s.setSlot ..).est.cells = _
      unfold State.setSlot
      split <;> rfl

/-- The words of the journals' progress: STATUS and EVT_STATUS of LEARN. -/
def JournalWords (a : Nat) : Prop := a ∈ [0x2A00C, 0x2A010]

theorem State.journal_where (j reason : Nat) : OnlyWhere JournalWords s (s.journal j reason) := by
  unfold State.journal
  split
  · exact ((OnlyWhere.refl.wrB (by unfold JournalWords; decide)).raise (by unfold JournalWords; decide)).upd (State.mk_regs ..)
  · refine .ite (.of_regs rfl) ?_
    exact (OnlyWhere.of_fields (State.beginWrite_fields j reason) (by unfold JournalWords; decide))

theorem State.journalHeld_congr (hv : t.rd F.SUPPLY_STATUS_VAUX_OK = s.rd F.SUPPLY_STATUS_VAUX_OK) (hm : t.mode = s.mode) : t.journalHeld = s.journalHeld := by
  rw [State.journalHeld, State.journalHeld, State.on_of_rd hv, hm]

@[simp] theorem State.journalHeld_result (s : State) (who : Initiator) (a : Nat) : (s.result who a 0).journalHeld = s.journalHeld := by
  rw [State.journalHeld, State.journalHeld, State.on_result, State.mode_result]

theorem State.journalHeld_where {W : Nat → Prop} (h : OnlyWhere W s t) (hv : ¬ W F.SUPPLY_STATUS_VAUX_OK.addr) (hm : ¬ W F.CROWN_MODE_MODE.addr) :
    t.journalHeld = s.journalHeld := State.journalHeld_congr (h.rd hv) (h.mode hm)

/-- Both journals asked for with none in progress: the learned one begins, the state one waits. -/
theorem State.journalBoth_begins (hh : s.journalHeld = false) (hw : s.est.writing = none) (reason : Nat) :
    s.journalBoth reason = { s.beginWrite 0 reason with
      est := { (s.beginWrite 0 reason).est with waiting := s.est.waiting.filter (·.1 != 1) ++ [(1, reason)] } } := by
  obtain ⟨h1, h2, _⟩ := State.beginWrite_est (s := s) (0 : Nat) reason
  have hp : (s.beginWrite 0 reason).journalHeld = false :=
    (State.journalHeld_where (OnlyWhere.of_pages (State.beginWrite_pages s 0 reason) (W := fun a => pageOf a ∈ [0x2A]) fun _ h => h)
      (by decide) (by decide)).trans hh
  rw [State.journalBoth, State.journal_begins hh hw, State.journal_waits hp (by rw [h1]; rfl), h2]

theorem State.endWrite_idle (hw : s.est.waiting = []) : s.endWrite = { s with est := { s.est with writing := none } }.wrB F.LEARN_STATUS_JBUSY false := by
  unfold State.endWrite
  simp only [State.wrB_est, hw]

theorem State.endWrite_spec (hw : s.est.waiting = []) : s.endWrite.est.writing = none ∧ s.endWrite.rd F.LEARN_STATUS_JBUSY = 0 ∧
    OnlyFields [F.LEARN_STATUS_JBUSY] s s.endWrite := by
  rw [State.endWrite_idle hw]
  exact ⟨rfl, State.rd_wrB _ _ false (by decide) (by decide), (OnlyFields.of_regs (State.mk_regs ..)).wrB _ (by decide) (by decide)⟩

/-- A verified write counts and, with none waiting, ends. -/
theorem State.commitWrite_spec (hn : s.est.writing ≠ none) (hw : s.est.waiting = []) : s.commitWrite.est.writing = none ∧
    s.commitWrite.rd F.LEARN_STATUS_JBUSY = 0 ∧
    s.commitWrite.rd F.LEARN_JSTAT_WRITES = satCount F.LEARN_JSTAT_WRITES.width (s.rd F.LEARN_JSTAT_WRITES + 1) := by
  unfold State.commitWrite
  split
  · rename_i h
    exact absurd h hn
  · rename_i j k r _
    extract_lets b c u v e w
    have hu : u.regs = s.regs := State.setSlot_regs ..
    have hv : v.est.waiting = [] := (State.setSlot_est ..).1.trans hw
    have hf : (if j = 0 then F.LEARN_SEQ_L_SEQ else F.LEARN_SEQ_S_SEQ).fits ∧
        (if j = 0 then F.LEARN_SEQ_L_SEQ else F.LEARN_SEQ_S_SEQ).apart F.LEARN_JSTAT_WRITES := by
      split <;> decide
    have hwv : w.est.waiting = v.est.waiting ∧ w.regs = v.regs := by
      unfold w
      split
      · exact ⟨rfl, rfl⟩
      · exact ⟨rfl, rfl⟩
    have hwr : w.rd F.LEARN_JSTAT_WRITES = s.rd F.LEARN_JSTAT_WRITES := (State.rd_regs hwv.2 _).trans
      ((State.rd_wr_apart _ _ _ _ hf.1 hf.2).trans (State.rd_regs hu _))
    clear_value w
    have hx : ((w.bump F.LEARN_JSTAT_WRITES).raise 0x2A 2).est.waiting = [] := by
      rw [State.raise_est]
      exact hwv.1.trans hv
    obtain ⟨h1, h2, h3⟩ := State.endWrite_spec hx
    refine ⟨h1, h2, (h3.rd (by decide)).trans ?_⟩
    rw [State.rd_raise _ _ _ _ (by decide), State.rd_bump _ _ _ (by decide), hwr]

/-- An abandoned write counts and, with none waiting, ends. -/
theorem State.abandonWrite_spec (hw : s.est.waiting = []) : s.abandonWrite.est.writing = none ∧ s.abandonWrite.rd F.LEARN_STATUS_JBUSY = 0 ∧
    s.abandonWrite.rd F.LEARN_JSTAT_ABANDONS = satCount F.LEARN_JSTAT_ABANDONS.width (s.rd F.LEARN_JSTAT_ABANDONS + 1) := by
  have hx : ((s.bump F.LEARN_JSTAT_ABANDONS).raise 0x2A 3).est.waiting = [] := by
    rw [State.raise_est]
    exact hw
  obtain ⟨h1, h2, h3⟩ := State.endWrite_spec hx
  rw [State.abandonWrite]
  refine ⟨h1, h2, (h3.rd (by decide)).trans ?_⟩
  rw [State.rd_raise _ _ _ _ (by decide), State.rd_bump _ _ _ (by decide)]

/-- Nothing is deferred, and writes are not held. -/
def NoneDeferred (s : State) : Prop := s.est.deferred = [] ∧ s.rd F.LEARN_STATUS_DEFERRED = 0 ∧ s.journalHeld = false

theorem State.journal_noneDeferred (h : NoneDeferred s) (j reason : Nat) : NoneDeferred (s.journal j reason) := by
  obtain ⟨hd, hr, hh⟩ := h
  have hh' := (State.journalHeld_where (State.journal_where (s := s) j reason) (by unfold JournalWords; decide) (by unfold JournalWords; decide)).trans hh
  cases hw : s.est.writing with
  | none =>
    refine ⟨?_, ?_, hh'⟩
    · rw [State.journal_begins hh hw, (State.beginWrite_est j reason).2.2, hd]
    · rw [State.journal_begins hh hw, (State.beginWrite_fields j reason).rd (by decide), hr]
  | some w =>
    have hs : s.est.writing.isSome = true := by rw [hw]; rfl
    refine ⟨?_, ?_, hh'⟩
    · rw [State.journal_waits hh hs]
      exact hd
    · rw [State.journal_waits hh hs]
      exact (State.rd_regs (State.mk_regs ..) _).trans hr

theorem State.deferredJournals_none (hh : s.journalHeld = false) : NoneDeferred s.deferredJournals := by
  have h0 : NoneDeferred ({ s with est := { s.est with deferred := [] } }.wrB F.LEARN_STATUS_DEFERRED false) := by
    refine ⟨rfl, State.rd_wrB _ _ false (by decide) (by decide), ?_⟩
    refine (State.journalHeld_where (W := fun a => a = 0x2A00C) ((OnlyWhere.of_regs (State.mk_regs ..)).wrB rfl) (by decide) (by decide)).trans hh
  unfold State.deferredJournals
  extract_lets l e u
  have hu : NoneDeferred u := h0
  clear_value u l
  induction l generalizing u with
  | nil => exact hu
  | cons x l ih => exact ih _ (State.journal_noneDeferred hu _ _)

theorem State.counterSlot_kept (hh : s.journalHeld = false) : s.counterSlot.tele.deferred = false ∧ s.counterSlot.regs = s.regs ∧
    s.counterSlot.est = s.est := by
  rw [State.counterSlot, if_neg (ne_true_of_eq_false hh)]
  exact ⟨rfl, rfl, rfl⟩

theorem State.retainSlot_kept : s.retainSlot.tele = s.tele ∧ s.retainSlot.regs = s.regs ∧ s.retainSlot.est = s.est := by
  rw [State.retainSlot]
  split <;> exact ⟨rfl, rfl, rfl⟩

end Journals

section Step
variable {s t u : State}

/-! ## A step's base

What a step takes as its base (the charge, the time and the bleed) and RUNNING, which the rest of the step keeps.
-/

/-- The base of an estimator step and RUNNING stay. -/
def BaseKept (s t : State) : Prop :=
  t.est.lastQ = s.est.lastQ ∧ t.est.lastAt = s.est.lastAt ∧ t.est.bleed = s.est.bleed ∧ t.rd F.ESTIM_STATUS_RUNNING = s.rd F.ESTIM_STATUS_RUNNING

theorem BaseKept.refl : BaseKept s s := ⟨rfl, rfl, rfl, rfl⟩

theorem BaseKept.trans (h : BaseKept s t) (h' : BaseKept t u) : BaseKept s u := by
  obtain ⟨a, b, c, d⟩ := h
  obtain ⟨a', b', c', d'⟩ := h'
  exact ⟨a'.trans a, b'.trans b, c'.trans c, d'.trans d⟩

theorem BaseKept.of_est (h : t.est = s.est) (hr : t.rd F.ESTIM_STATUS_RUNNING = s.rd F.ESTIM_STATUS_RUNNING) : BaseKept s t := by
  rw [BaseKept, h]
  exact ⟨rfl, rfl, rfl, hr⟩

/-- Neither the registers nor the estimator's part was written. -/
theorem BaseKept.within {T : List Part} (h : Within T s t) (he : Part.est ∉ T) (hr : Part.regs ∉ T) : BaseKept s t :=
  .of_est (h.est he) (State.rd_regs (h.regs hr) _)

theorem BaseKept.wr (h : BaseKept s t) {f : Fld} {n : Nat} (hf : f.fits) (ha : f.apart F.ESTIM_STATUS_RUNNING) : BaseKept s (t.wr f n) :=
  h.trans (.of_est rfl (State.rd_wr_apart _ _ _ _ hf ha))

theorem BaseKept.wrB (h : BaseKept s t) {f : Fld} {b : Bool} (hf : f.fits) (ha : f.apart F.ESTIM_STATUS_RUNNING) : BaseKept s (t.wrB f b) := h.wr hf ha

theorem BaseKept.wrI (h : BaseKept s t) {f : Fld} {i : Int} (hf : f.fits) (ha : f.apart F.ESTIM_STATUS_RUNNING) : BaseKept s (t.wrI f i) := h.wr hf ha

theorem BaseKept.bump (h : BaseKept s t) {f : Fld} {n : Nat} (hf : f.fits) (ha : f.apart F.ESTIM_STATUS_RUNNING) : BaseKept s (t.bump f n) := h.wr hf ha

theorem BaseKept.raise (h : BaseKept s t) {page bit : Nat} (ha : (evtStatus page).apart F.ESTIM_STATUS_RUNNING) : BaseKept s (t.raise page bit) :=
  h.trans (.of_est (State.raise_est ..) (State.rd_raise _ _ _ _ ha))

theorem BaseKept.ite {p : Prop} [Decidable p] {a b : State} (ha : BaseKept s a) (hb : BaseKept s b) : BaseKept s (if p then a else b) := by
  split
  · exact ha
  · exact hb

theorem BaseKept.foldl {α : Type} {f : State → α → State} (h : BaseKept s t) (l : List α) (hf : ∀ u x, x ∈ l → BaseKept u (f u x)) :
    BaseKept s (l.foldl f t) := by
  induction l generalizing t with
  | nil => exact h
  | cons a l ih => exact ih (h.trans (hf _ _ List.mem_cons_self)) fun u x hx => hf u x (List.mem_cons_of_mem _ hx)

theorem BaseKept.foldl_fst {α : Type} {f : State × Bool → α → State × Bool} {r : State × Bool} (h : BaseKept s r.1) (l : List α)
    (hf : ∀ r x, BaseKept r.1 (f r x).1) : BaseKept s (l.foldl f r).1 := by
  induction l generalizing r with
  | nil => exact h
  | cons a l ih => exact ih (h.trans (hf _ _))

theorem BaseKept.setCell (h : BaseKept s t) {c : Nat} {x : Cell} : BaseKept s (t.setCell c x) := h.trans ⟨rfl, rfl, rfl, State.rd_regs rfl _⟩

theorem capFld_fits (c : Nat) : (capFld c).fits := by
  unfold capFld pairFld
  split <;> exact Nat.le_of_ble_eq_true rfl

theorem capFld_addr (c : Nat) : (capFld c).addr = 0x2A400 + 4 * (c / 2) := by
  unfold capFld pairFld
  split <;> rfl

theorem capFld_apart (c : Nat) : (capFld c).apart F.ESTIM_STATUS_RUNNING := by
  refine .inl ?_
  rw [capFld_addr]
  simp only [ne_eq]
  omega

variable (s)

theorem State.journal_base (j reason : Nat) : BaseKept s (s.journal j reason) := by
  unfold State.journal
  split
  · refine (((BaseKept.refl.wrB (by decide) (by decide)).raise (by decide)).trans ⟨?_, ?_, ?_, State.rd_regs (State.mk_regs ..) _⟩)
    · rw [State.raise_est]; rfl
    · rw [State.raise_est]; rfl
    · rw [State.raise_est]; rfl
  · refine .ite ⟨rfl, rfl, rfl, State.rd_regs (State.mk_regs ..) _⟩ ?_
    have h : BaseKept s (s.setSlot j (s.slotToWrite j) { bytes := s.slotBytes j reason, commit := [] }) := by
      unfold State.setSlot
      split <;> exact ⟨rfl, rfl, rfl, State.rd_regs (State.mk_regs ..) _⟩
    exact (h.wrB (by decide) (by decide)).trans ⟨rfl, rfl, rfl, State.rd_regs (State.mk_regs ..) _⟩

theorem State.journalBoth_base (reason : Nat) : BaseKept s (s.journalBoth reason) := (s.journal_base 0 reason).trans (State.journal_base _ 1 reason)

theorem State.learnCap_base (c : Nat) (soc : Int) : BaseKept s (s.learnCap c soc) := by
  unfold State.learnCap
  extract_lets x
  split
  · exact BaseKept.refl.setCell
  · extract_lets ds meas new v w
    refine .ite .refl ?_
    
    have hw : BaseKept s w := (BaseKept.refl.wr (capFld_fits c) (capFld_apart c)).setCell
    clear_value w
    exact (hw.raise (by decide)).trans (State.journalBoth_base _ 1)

theorem State.anchorCell_base (c : Nat) (quasi init : Bool) : ∀ t ∈ s.anchorCell c quasi init, BaseKept s t := by
  intro t ht
  unfold State.anchorCell at ht
  extract_lets x u whole at ht
  split at ht
  · cases ht
  · split at ht
    · cases ht
    · split at ht
      · cases ht
      · extract_lets den new uA v at ht
        have hv : BaseKept s v := BaseKept.refl.setCell
        clear_value v
        obtain rfl := Option.some.inj ht
        exact .ite (hv.trans (v.learnCap_base c _)) hv

theorem State.anchorAll_base (quasi : Bool) : BaseKept s (s.anchorAll quasi) := by
  unfold State.anchorAll
  split
  rename_i v any hv
  have hb : BaseKept s v := by
    refine (congrArg (fun r : State × Bool => BaseKept s r.1) hv).mp (BaseKept.foldl_fst .refl _ fun r c => ?_)
    split
    · rename_i w hw
      exact State.anchorCell_base _ c quasi false w hw
    · exact .refl
  refine .ite ((hb.bump ?_ ?_).raise (by decide)) hb <;> (split <;> decide)

theorem State.oneshot_base (bits : Nat) (r : Readings) : BaseKept s (s.oneshot bits r) :=
  .within (State.oneshot_within (T := [.out, .harv]) (by decide) (by decide) .rfl) (by decide) (by decide)

theorem State.anchorsDue_base : BaseKept s s.anchorsDue := by
  unfold State.anchorsDue
  extract_lets k e v asked e' w
  have hv : BaseKept s v := .ite ⟨rfl, rfl, rfl, State.rd_regs (State.mk_regs ..) _⟩ (.ite ⟨rfl, rfl, rfl, State.rd_regs (State.mk_regs ..) _⟩ .refl)
  have hw : BaseKept s w := by
    refine .ite ((hv.trans ?_).trans (State.anchorAll_base _ _)) hv
    exact ⟨rfl, rfl, rfl, State.rd_regs (State.mk_regs ..) _⟩
  clear_value w
  refine .ite hw (.ite ((hw.trans ?_).trans (State.oneshot_base _ _ _)) (hw.trans (State.anchorAll_base _ _)))
  exact ⟨rfl, rfl, rfl, State.rd_regs (State.mk_regs ..) _⟩

theorem State.timeCurrents_base (dt : Nat) (lo hi : Int) : BaseKept s (s.timeCurrents dt lo hi) := by
  unfold State.timeCurrents
  extract_lets iRest iq rest quasi e restFor full qFor chg dis v w
  have hw : BaseKept s w := by
    refine BaseKept.wrB (BaseKept.wrB ?_ (by decide) (by decide)) (by decide) (by decide)
    exact ⟨rfl, rfl, rfl, State.rd_regs (State.mk_regs ..) _⟩
  clear_value w
  refine .ite (hw.foldl _ fun u c _ => BaseKept.refl.setCell) (.ite (hw.foldl _ fun u c _ => BaseKept.refl.setCell) hw)

theorem State.judgeValid_base : BaseKept s s.judgeValid :=
  BaseKept.refl.foldl _ fun _ _ _ => (BaseKept.ite (BaseKept.refl.raise (by decide)) .refl).setCell

theorem State.judgeOverdue_base : BaseKept s s.judgeOverdue := by
  refine BaseKept.wrB (BaseKept.wrB (.ite ?_ .refl) (by decide) (by decide)) (by decide) (by decide)
  exact (BaseKept.refl.raise (by decide)).raise (by decide)

theorem State.judgeBlind_base : BaseKept s s.judgeBlind :=
  BaseKept.wrB (.ite (BaseKept.refl.raise (by decide)) .refl) (by decide) (by decide)

/-- The words of the shown state of charge and health, and of the limits. -/
def ShownWords (a : Nat) : Prop := 0x28080 ≤ a ∧ a ≤ 0x28090 ∨ (∃ k, k < 6 ∧ a = 0x280A0 + 4 * k) ∨ ∃ k, a = 0x28400 + 4 * k

theorem State.horizon_where (rate : Nat × Nat) (b : Bool) {k : Nat} (hk : k < 3) (h hg : Nat) : OnlyWhere ShownWords s (s.horizon rate b k h hg) := by
  have h1 : ShownWords (0x280A0 + 4 * k) := .inr (.inl ⟨k, by omega, rfl⟩)
  have h2 : ShownWords (0x280AC + 4 * k) := .inr (.inl ⟨k + 3, by omega, by omega⟩)
  unfold State.horizon
  extract_lets cells l sumV sumR pDis pChg p
  exact (((OnlyWhere.refl.wr h1).wr h1).wr h2).wr h2

theorem State.limits_where (rate : Nat × Nat) (b : Bool) : OnlyWhere ShownWords s (s.limits rate b) :=
  ((s.horizon_where rate b (by decide) _ _).trans (State.horizon_where _ rate b (by decide) _ _)).trans (State.horizon_where _ rate b (by decide) _ _)

theorem State.limits_est (rate : Nat × Nat) (b : Bool) : (s.limits rate b).est = s.est :=
  (State.limits_within (T := [.regs]) (by decide) .rfl).est (by decide)

theorem State.limits_base (rate : Nat × Nat) (b : Bool) : BaseKept s (s.limits rate b) :=
  .of_est (s.limits_est rate b) ((s.limits_where rate b).rd (by unfold ShownWords; simp only []; omega))

theorem pairFld_soc (c : Nat) : (pairFld F.ESTIM_SOC_CELL_LO F.ESTIM_SOC_CELL_HI c).fits ∧
    (pairFld F.ESTIM_SOC_CELL_LO F.ESTIM_SOC_CELL_HI c).addr = 0x28400 + 4 * (c / 2) := by
  unfold pairFld
  split <;> exact ⟨Nat.le_of_ble_eq_true rfl, rfl⟩

/-- The state of charge of each cell, shown. -/
def State.socCells (s : State) : State := s.cellList.foldl (fun s c => s.wr (pairFld F.ESTIM_SOC_CELL_LO F.ESTIM_SOC_CELL_HI c)
  (if (s.cell c).valid then socShown (s.cell c).soc else 0xFFFF)) s

theorem State.socCells_where : OnlyWhere ShownWords s s.socCells :=
  .foldl .refl fun _ c _ => OnlyWhere.refl.wr (.inr (.inr ⟨c / 2, (pairFld_soc c).2⟩))

/-- What publishSoc shows after the cells, at first VALID_CNT. -/
theorem State.publishSoc_where : ∃ u : State, u = s.socCells.wr F.ESTIM_STATUS_VALID_CNT (s.cellList.filter fun c => (s.cell c).valid).length ∧
    OnlyWhere ShownWords u s.publishSoc := by
  refine ⟨_, rfl, ?_⟩
  unfold State.publishSoc
  extract_lets valid a b c age d socs
  have hd : OnlyWhere ShownWords b d := (OnlyWhere.refl.wr (by unfold ShownWords; simp)).wr (by unfold ShownWords; simp)
  change OnlyWhere ShownWords b _
  clear_value d socs
  split
  · refine ((((hd.wr ?_).wr ?_).wr ?_).wr ?_).wr ?_ <;> (unfold ShownWords; simp)
  · refine ((((hd.wr ?_).wr ?_).wr ?_).wr ?_).wr ?_ <;> (unfold ShownWords; simp)

theorem not_shownWords_status : ¬ ShownWords F.ESTIM_STATUS_RUNNING.addr := by
  unfold ShownWords
  simp only []
  omega

theorem State.publishSoc_base : BaseKept s s.publishSoc := by
  obtain ⟨u, hu, hw⟩ := s.publishSoc_where
  refine .of_est ((State.publishSoc_within (T := [.regs]) (by decide) .rfl).est (by decide)) ((hw.rd not_shownWords_status).trans ?_)
  rw [hu, State.rd_wr_apart _ _ _ _ (by decide) (by decide)]
  exact s.socCells_where.rd not_shownWords_status

theorem State.publishSoc_count : s.publishSoc.rd F.ESTIM_STATUS_VALID_CNT = (s.cellList.filter fun c => (s.cell c).valid).length % 2 ^ 10 := by
  obtain ⟨u, hu, hw⟩ := s.publishSoc_where
  rw [hw.rd (f := F.ESTIM_STATUS_VALID_CNT) not_shownWords_status, hu, State.rd_wr _ _ _ (by decide)]

theorem State.window_base {ok : Fld} {ev : Nat} {fresh : Bool} {hot cold lo hi : Int} (hf : ok.fits) (ha : ok.apart F.ESTIM_STATUS_RUNNING) :
    BaseKept s (s.window ok ev fresh hot cold lo hi).1 :=
  BaseKept.wrB (.ite (BaseKept.refl.raise (by decide)) .refl) hf ha

theorem State.derate_base : BaseKept s s.derate := by
  unfold State.derate
  extract_lets fresh u v
  split
  · have hu : BaseKept s u := .ite .refl (BaseKept.refl.raise (by decide))
    have hv : BaseKept s v := (((hu.wrB (by decide) (by decide)).wrB (by decide) (by decide)).wrB (by decide) (by decide)).wrI (by decide) (by decide)
    exact ((hv.wrI (by decide) (by decide)).wr (by decide) (by decide)).wr (by decide) (by decide)
  · rename_i hot cold _
    split
    rename_i a chg ha
    have h1 : BaseKept s a := (congrArg (fun r : State × _ => BaseKept s r.1) ha).mp (s.window_base (by decide) (by decide))
    split
    rename_i b dis hb
    have h2 : BaseKept a b := (congrArg (fun r : State × _ => BaseKept a r.1) hb).mp (a.window_base (by decide) (by decide))
    exact ((((h1.trans h2).wrB (by decide) (by decide)).wrI (by decide) (by decide)).wrI (by decide) (by decide)).wr (by decide) (by decide)
      |>.wr (by decide) (by decide)

theorem State.estMirror_base : BaseKept s s.estMirror := .within (T := [.out, .pair]) (s.mirror_pair _) (by decide) (by decide)

/-! ## The stages of a step -/

/-- A step's base, taken. -/
def State.stepBased (s : State) (q : Int) (d : Nat) : State :=
  { s with est := { s.est with lastQ := some q, lastAt := s.mono, back := false, theta := s.est.theta + d } }

/-- Every cell counted with the charge and the rate, the bleed used up. -/
def State.stepCounted (s : State) (dq : Int) (rate : Nat × Nat) : State :=
  let t := s.cellList.foldl (fun s c =>
    let (t, imp) := s.cellTemp c
    s.setCell c (s.countCell c dq rate { s.cell c with temp := t, tempImp := imp })) s
  { t with est := { t.est with bleed := [] } }

/-- The verdicts and what is shown after the cells are counted. -/
def State.stepShown (s : State) (dt : Nat) (lo hi : Int) (rate : Nat × Nat) : State :=
  let u := ((((s.timeCurrents dt lo hi).anchorsDue).judgeValid).publishSoc.judgeOverdue).judgeBlind
  ((u.limits rate (u.on F.ESTIM_STATUS_BLIND || u.cellList.any fun c => !(u.cell c).valid)).derate).estMirror

theorem State.stepCounted_base (dq : Int) (rate : Nat × Nat) : (s.stepCounted dq rate).est.lastQ = s.est.lastQ ∧
    (s.stepCounted dq rate).est.lastAt = s.est.lastAt ∧ (s.stepCounted dq rate).est.bleed = [] ∧
    (s.stepCounted dq rate).rd F.ESTIM_STATUS_RUNNING = s.rd F.ESTIM_STATUS_RUNNING := by
  unfold State.stepCounted
  extract_lets t
  obtain ⟨h1, h2, _, h4⟩ : BaseKept s t := BaseKept.refl.foldl _ fun _ _ _ => BaseKept.refl.setCell
  clear_value t
  exact ⟨h1, h2, rfl, (State.rd_regs (State.mk_regs ..) _).trans h4⟩

theorem State.stepShown_base (dt : Nat) (lo hi : Int) (rate : Nat × Nat) : BaseKept s (s.stepShown dt lo hi rate) := by
  unfold State.stepShown
  extract_lets u
  have hu : BaseKept s u := (((((s.timeCurrents_base dt lo hi).trans (State.anchorsDue_base _)).trans (State.judgeValid_base _)).trans
    (State.publishSoc_base _)).trans (State.judgeOverdue_base _)).trans (State.judgeBlind_base _)
  clear_value u
  exact ((hu.trans (u.limits_base _ _)).trans (State.derate_base _)).trans (State.estMirror_base _)

/-- The charge since the last step. -/
def State.stepCharge (s : State) (q : Int) : Int := match s.est.lastQ with
  | some p => q - p
  | none => 0

/-- The time since the last step. -/
def State.stepTime (s : State) : Nat := if s.est.lastQ.isSome then s.mono - s.est.lastAt else 0

/-- The place of the step's rate in the table of rates. -/
def State.stepRate (s : State) (q : Int) : Nat × Nat :=
  if s.stepTime * s.rd F.ESTIM_CFG_Q_NOM = 0 then (0, 0)
  else lookup s.ratePoints ((s.stepCharge q).natAbs * 10000) (s.stepTime * s.rd F.ESTIM_CFG_Q_NOM)

/-- A whole step with the charge counted up to now. -/
def State.stepped (s : State) (q lo hi : Int) : State :=
  ((s.stepBased q (s.stepCharge q).natAbs).stepCounted (s.stepCharge q) (s.stepRate q)).stepShown s.stepTime lo hi (s.stepRate q)

variable {s}

/-- A step where steps run and TB0 has not stepped back. -/
theorem exec_estimatorStep_full (hr : s.stepsRun = true) (hb : s.est.back = false) (more lo hi : Int) :
    exec (.estimatorStep more lo hi false) s = .next ((s.wrB F.ESTIM_STATUS_RUNNING true).stepped (s.tele.net + more) lo hi) := by
  change execEstimatorStep more lo hi false s = _
  unfold execEstimatorStep
  rw [if_neg (by simp [hr]), if_neg (by simp [hb]), if_neg (by decide)]
  rfl

theorem exec_estimatorStep_late (hr : s.stepsRun = true) (hb : s.est.back = false) (more lo hi : Int) :
    exec (.estimatorStep more lo hi true) s = .next (s.raise 0x28 5) := by
  change execEstimatorStep more lo hi true s = _
  unfold execEstimatorStep
  rw [if_neg (by simp [hr]), if_neg (by simp [hb]), if_pos rfl]

theorem exec_estimatorStep_off (hr : s.stepsRun = false) (he : s.on F.ESTIM_CFG_EN = false) (more lo hi : Int) (late : Bool) :
    exec (.estimatorStep more lo hi late) s = .next s.estOff := by
  change execEstimatorStep more lo hi late s = _
  unfold execEstimatorStep
  rw [if_pos (by simp [hr]), if_neg (by simp [he])]

theorem State.stepped_base (q lo hi : Int) : (s.stepped q lo hi).est.lastQ = some q ∧ (s.stepped q lo hi).est.lastAt = s.mono ∧
    (s.stepped q lo hi).est.bleed = [] ∧ (s.stepped q lo hi).rd F.ESTIM_STATUS_RUNNING = s.rd F.ESTIM_STATUS_RUNNING := by
  obtain ⟨a, b, c, d⟩ := State.stepCounted_base (s.stepBased q (s.stepCharge q).natAbs) (s.stepCharge q) (s.stepRate q)
  obtain ⟨a', b', c', d'⟩ := State.stepShown_base ((s.stepBased q (s.stepCharge q).natAbs).stepCounted (s.stepCharge q) (s.stepRate q))
    s.stepTime lo hi (s.stepRate q)
  exact ⟨a'.trans a, b'.trans b, c'.trans c, d'.trans (d.trans (State.rd_regs (State.mk_regs ..) _))⟩

/-! ## The estimator off -/

theorem mget_map {α : Type} (d : α) (f : α → α) (hf : f d = d) (m : List (Nat × α)) (k : Nat) :
    mget d (m.map fun x => (x.1, f x.2)) k = f (mget d m k) := by
  induction m with
  | nil => exact hf.symm
  | cons x m ih =>
    simp only [List.map_cons, mget]
    split
    · rfl
    · exact ih

theorem State.estOff_spec (s : State) : s.estOff.rd F.ESTIM_STATUS_RUNNING = 0 ∧ s.estOff.est.lastQ = s.est.lastQ ∧
    s.estOff.rd F.ESTIM_STATUS_VALID_CNT = 0 := by
  unfold State.estOff
  extract_lets u e v
  have hu : u.est = s.est := by
    unfold u
    split
    · exact State.raise_est ..
    · rfl
  have hc : ∀ c, ((v.wrB F.ESTIM_STATUS_RUNNING false).cell c).valid = false := fun c => by
    change (mget ({} : Cell) (u.est.cells.map fun x : Nat × Cell => (x.1, { x.2 with valid := false })) c).valid = false
    rw [mget_map {} (fun x : Cell => { x with valid := false }) rfl]
  have hl : v.est.lastQ = s.est.lastQ := (show v.est.lastQ = u.est.lastQ from rfl).trans (congrArg Est.lastQ hu)
  clear_value v
  generalize hw : v.wrB F.ESTIM_STATUS_RUNNING false = w at hc ⊢
  obtain ⟨h1, _, _, h4⟩ := w.publishSoc_base.trans (State.limits_base w.publishSoc (0, 0) true)
  refine ⟨h4.trans ?_, h1.trans ?_, ?_⟩
  · rw [← hw]
    exact State.rd_wrB _ _ false (by decide) (by decide)
  · rw [← hw]
    exact hl
  · rw [(State.limits_where w.publishSoc (0, 0) true).rd (f := F.ESTIM_STATUS_VALID_CNT) not_shownWords_status, State.publishSoc_count]
    simp [hc]

/-! ## INIT and RESET_CELL -/

/-- What the acceptance of a write leaves: its result shown, nothing of the estimator changed. -/
def State.noted (s : State) (e : Nat) (h : HostPort) : State := { s with accErr := e, host := h }

/-- The estimate that an INIT puts a cell to. -/
def State.initCell (s : State) (c : Nat) (soc : Int) (uo : Nat) : State :=
  s.setCell c { s.cell c with init := true, soc := soc, socA := soc, uA := uo, tA := s.mono, thA := s.est.theta, bleedQ := 0 }

theorem State.anchorCell_init (c : Nat) : s.anchorCell c false true = (s.ocvOf c false).map fun r => s.initCell c r.1 r.2 := by
  unfold State.anchorCell
  rw [if_neg (by simp)]
  cases s.ocvOf c false <;> rfl

theorem State.ocvOf_noted (s : State) (e : Nat) (h : HostPort) (c : Nat) : (s.noted e h).ocvOf c false = s.ocvOf c false := rfl

/-- Every cell anchored to the table, whatever its state. -/
def State.initAll (s : State) : State := s.cellList.foldl (fun u c => (u.anchorCell c false true).getD u) s

theorem State.initFold_noted (e : Nat) (h : HostPort) (l : List Nat) : ∀ s : State,
    l.foldl (fun u c => (u.anchorCell c false true).getD u) (s.noted e h) = (l.foldl (fun u c => (u.anchorCell c false true).getD u) s).noted e h := by
  induction l with
  | nil => exact fun _ => rfl
  | cons c l ih =>
    intro s
    have hc : ((s.noted e h).anchorCell c false true).getD (s.noted e h) = ((s.anchorCell c false true).getD s).noted e h := by
      rw [State.anchorCell_init, State.anchorCell_init, State.ocvOf_noted]
      cases s.ocvOf c false <;> rfl
    rw [List.foldl_cons, List.foldl_cons, hc]
    exact ih _

theorem State.initAll_noted (e : Nat) (h : HostPort) : (s.noted e h).initAll = s.initAll.noted e h := State.initFold_noted e h s.cellList s

theorem State.initAll_regs : s.initAll.regs = s.regs := by
  unfold State.initAll
  generalize s.cellList = l
  induction l generalizing s with
  | nil => rfl
  | cons c l ih =>
    refine ih.trans ?_
    dsimp only
    rw [State.anchorCell_init]
    cases s.ocvOf c false <;> rfl

theorem State.initCells_eq (hm : s.mode = .standby ∨ s.mode = .rest ∨ s.mode = .safe) (hi : s.meas.iString.natAbs ≤ 10 * s.rd F.ESTIM_REST_I_REST) :
    s.initCells = s.initAll := by
  unfold State.initCells
  rw [if_pos]
  · rfl
  · rcases hm with hm | hm | hm <;> simp [hm, hi]

theorem State.initCells_run (hm : s.mode = .run) : s.initCells = s := by
  unfold State.initCells
  rw [if_neg (by simp [hm])]

theorem State.initAll_result (who : Initiator) (a : Nat) : (s.result who a 0).initAll.est = s.initAll.est ∧ (s.result who a 0).initAll.regs = s.regs := by
  refine ⟨?_, State.initAll_regs.trans (State.result_regs ..)⟩
  have hn : s.result who a 0 = s.noted 0 (if who = .host then { s.host with err := 0 } else s.host) := s.result_ok who a
  have h := State.initAll_noted (s := s) 0 (if who = .host then { s.host with err := 0 } else s.host)
  rw [hn]
  exact (congrArg State.est h).trans rfl

/-- RESET_CELL by a secure session in STANDBY or SERVICE. -/
theorem State.resetCell_spec {who : Initiator} (hs : s.secureOf who = true) (hm : s.mode = .standby ∨ s.mode = .service) :
    ((s.resetCell who).cell (s.rd F.LEARN_VIEW_CELL)).rf = 0x1000 ∧ (s.resetCell who).rd (capFld (s.rd F.LEARN_VIEW_CELL)) = 0 := by
  unfold State.resetCell
  rw [if_pos (by rcases hm with hm | hm <;> simp [hs, hm])]
  extract_lets c e u
  have hc : (u.cell c).rf = 0x1000 := congrArg Cell.rf ((mget_mset ..).trans (if_pos rfl))
  have hr : u.rd (capFld c) = 0 := (State.rd_regs rfl _).trans ((State.rd_wr _ _ _ (capFld_fits c)).trans (Nat.zero_mod _))
  clear_value u
  constructor
  · rw [State.cell, State.journal_cells]
    exact hc
  · refine ((State.journal_where 0 6).rd ?_).trans hr
    rw [capFld_addr]
    unfold JournalWords
    simp only [List.mem_cons, List.not_mem_nil, or_false]
    omega

theorem State.slotToWrite_congr {s t : State} (h : t.est = s.est) (j : Nat) : t.slotToWrite j = s.slotToWrite j := by
  unfold State.slotToWrite State.slots
  rw [h]

theorem exec_journalWriteComplete_verified {s : State} (hn : s.est.writing ≠ none) :
    exec (.journalWriteComplete true) s = .next (if s.est.verifyFailed then s.retryPass 0x2A else s).commitWrite := by
  change execJournalWriteComplete true s = _
  unfold execJournalWriteComplete
  split
  · rename_i h
    exact absurd h hn
  · rfl

theorem exec_journalWriteComplete_first {s : State} (hn : s.est.writing ≠ none) (hf : s.est.verifyFailed = false) :
    exec (.journalWriteComplete false) s = .next { s with est := { s.est with verifyFailed := true } } := by
  change execJournalWriteComplete false s = _
  unfold execJournalWriteComplete
  split
  · rename_i h
    exact absurd h hn
  · rw [if_neg (by decide), if_neg (by simp [hf])]

theorem exec_journalWriteComplete_second {s : State} (hn : s.est.writing ≠ none) (hf : s.est.verifyFailed = true) :
    exec (.journalWriteComplete false) s = .next (s.lastingW 0x2A .journalVerify).abandonWrite := by
  change execJournalWriteComplete false s = _
  unfold execJournalWriteComplete
  split
  · rename_i h
    exact absurd h hn
  · rw [if_neg (by decide), if_pos hf]

theorem exec_deferredWrite {s : State} (hh : s.journalHeld = false) : exec .deferredWrite s = .next
    (if (if s.deferredJournals.tele.deferred then s.deferredJournals.counterSlot else s.deferredJournals).scan.retainLate
      then (if s.deferredJournals.tele.deferred then s.deferredJournals.counterSlot else s.deferredJournals).retainSlot
      else (if s.deferredJournals.tele.deferred then s.deferredJournals.counterSlot else s.deferredJournals)) := by
  change execDeferredWrite s = _
  unfold execDeferredWrite
  rw [if_neg (ne_true_of_eq_false hh)]

end Step

/-- Settles O36: each clause by the equation of its operation; a step by what it takes as its base, which the rest of the step keeps; INIT by the
fold over the cells, which an accepted write's result does not touch. -/
theorem estimatorAndJournals : Obligations.EstimatorAndJournals := by
  unfold Obligations.EstimatorAndJournals
  refine ⟨?_, ?_, ?_, ?_, ?_, ?_, ?_, ?_, ?_, ?_, ?_, ?_, ?_, ?_, ?_⟩
  · intro more lo hi late s hr he
    exact .of_eq (exec_estimatorStep_off hr he more lo hi late) rfl s.estOff_spec
  · intro more lo hi s hr hb
    exact .of_eq (exec_estimatorStep_late hr hb more lo hi) rfl ⟨State.raise_est .., State.bit_raise _ (by decide), OnlyFields.refl.raise _ (by decide)⟩
  · intro more lo hi s hr hb
    obtain ⟨h1, h2, h3, h4⟩ := State.stepped_base (s := s.wrB F.ESTIM_STATUS_RUNNING true) (s.tele.net + more) lo hi
    exact .of_eq (exec_estimatorStep_full hr hb more lo hi) rfl ⟨h1, h2, h3, h4.trans (State.rd_wrB _ _ true (by decide) (by decide))⟩
  · intro who s hb hm hi
    refine Gives.of_asWrite rfl hb ?_
    rw [State.initCells_eq (by simpa using hm) (by simpa using hi)]
    obtain ⟨h1, h2⟩ := State.initAll_result (s := s) who A.ESTIM_CMD
    exact ⟨congrArg Est.cells h1, .of_regs h2⟩
  · intro who s hb hm
    refine Gives.of_asWrite rfl hb ?_
    rw [State.initCells_run (by simpa using hm)]
    exact ⟨State.result_est .., .of_regs (State.result_regs ..)⟩
  · intro who s hb hh hw
    refine Gives.of_asWrite rfl hb ?_
    rw [State.journalBoth_begins (by simpa using hh) (by simpa using hw)]
    refine ⟨?_, (State.rd_regs (State.mk_regs ..) _).trans (State.beginWrite_busy 0 6), ?_⟩
    · refine (State.beginWrite_est 0 6).1.trans ?_
      rw [State.slotToWrite_congr (State.result_est ..)]
    · simp
  · intro who s hb hs hm
    refine Gives.of_asWrite rfl hb ?_
    have h := State.resetCell_spec (s := s.result who A.LEARN_CMD 0) (who := who) (by simpa using hs) (by simpa using hm)
    rw [State.rd_result] at h
    exact h
  · intro who s hb hs
    refine Gives.of_asWrite rfl hb ?_
    rw [State.resetCell, if_neg (by simp [hs])]
    exact ⟨State.result_est .., .of_regs (State.result_regs ..)⟩
  · intro s hh hw
    exact .of_eq rfl (State.journal_begins hh hw 0 0) ⟨(State.beginWrite_est 0 0).1, State.beginWrite_busy 0 0, State.beginWrite_fields 0 0⟩
  · intro s hh hw
    exact .of_eq rfl (State.journal_begins hh hw 1 0) ⟨(State.beginWrite_est 1 0).1, State.beginWrite_busy 1 0, State.beginWrite_fields 1 0⟩
  · intro s hh
    refine .of_eq rfl (t := { (s.wrB F.LEARN_STATUS_DEFERRED true).raise 0x2A 4 with
      est := { s.est with deferred := s.est.deferred.filter (·.1 != 1) ++ [(1, 7)] } }) (if_pos hh) ⟨rfl, ?_⟩
    refine (State.rd_regs (State.mk_regs ..) _).trans ?_
    rw [State.rd_raise _ _ _ _ (by decide)]
    exact State.rd_wrB _ _ true (by decide) (by decide)
  · intro s hn hw
    have hx := exec_journalWriteComplete_verified hn
    obtain ⟨h1, h2, h3⟩ := State.commitWrite_spec (s := if s.est.verifyFailed then s.retryPass 0x2A else s) (by split <;> exact hn) (by split <;> exact hw)
    refine .of_eq hx rfl ⟨h1, h2, h3.trans ?_⟩
    split
    · rw [State.retryPass, State.rd_regs (State.record_regs ..), State.rd_bump_apart _ _ _ _ (by decide) (by decide)]
    · rfl
  · intro s hn hf
    exact .of_eq (exec_journalWriteComplete_first hn hf) rfl ⟨rfl, State.mk_regs ..⟩
  · intro s hn hw hf
    have hx := exec_journalWriteComplete_second hn hf
    have he : (s.lastingW 0x2A .journalVerify).est = s.est := rfl
    obtain ⟨h1, h2, h3⟩ := State.abandonWrite_spec (s := s.lastingW 0x2A .journalVerify) (by rw [he, hw])
    refine .of_eq hx rfl ⟨h1, h2, h3.trans ?_⟩
    rw [(OnlyFields.refl.lastingW (l := [pageFld 0x2A 0x02C 0 16, pageFld 0x2A 0x02C 16 8]) (by decide) (by decide)).rd (g := F.LEARN_JSTAT_ABANDONS) (by decide)]
  · intro s hh
    obtain ⟨h1, h2, h3⟩ := State.deferredJournals_none hh
    refine .of_eq (exec_deferredWrite hh) rfl ?_
    have hc : (if s.deferredJournals.tele.deferred then s.deferredJournals.counterSlot else s.deferredJournals).tele.deferred = false ∧
        (if s.deferredJournals.tele.deferred then s.deferredJournals.counterSlot else s.deferredJournals).regs = s.deferredJournals.regs ∧
        (if s.deferredJournals.tele.deferred then s.deferredJournals.counterSlot else s.deferredJournals).est = s.deferredJournals.est := by
      split
      · exact State.counterSlot_kept h3
      · rename_i h
        exact ⟨eq_false_of_ne_true h, rfl, rfl⟩
    obtain ⟨c1, c2, c3⟩ := hc
    generalize (if s.deferredJournals.tele.deferred then s.deferredJournals.counterSlot else s.deferredJournals) = u at c1 c2 c3 ⊢
    obtain ⟨r1, r2, r3⟩ := State.retainSlot_kept (s := u)
    have hd : u.est.deferred = [] := by rw [c3, h1]
    have hr : u.rd F.LEARN_STATUS_DEFERRED = 0 := (State.rd_regs c2 _).trans h2
    split
    · exact ⟨by rw [r3, hd], by rw [r1, c1], (State.rd_regs r2 _).trans hr⟩
    · exact ⟨hd, c1, hr⟩

end Sys2Proof.Machine
end

section
/-!
O23 and O24: the ring of the originating unit. Its breaks, its exchanges and its keepalives.
-/
set_option Elab.async false
namespace Sys2Proof.Machine
open Sys2Proof

/-! ## What an operation leaves the same

A part of the state and some fields, the same in both states.
-/

/-- The part p of the state and the fields of l are the same. -/
def Same {α : Type} (l : List Fld) (p : State → α) (s t : State) : Prop := p t = p s ∧ ∀ g ∈ l, t.rd g = s.rd g

section Same
variable {α : Type} {l : List Fld} {p : State → α} {s t u : State}

theorem Same.refl : Same l p s s := ⟨rfl, fun _ _ => rfl⟩

theorem Same.trans (h : Same l p s t) (h' : Same l p t u) : Same l p s u :=
  ⟨h'.1.trans h.1, fun g hg => (h'.2 g hg).trans (h.2 g hg)⟩

theorem Same.of_regs (hp : p t = p s) (hr : t.regs = s.regs) : Same l p s t := ⟨hp, fun g _ => State.rd_regs hr g⟩

theorem Same.upd (h : Same l p s t) (hp : p u = p t) (hr : u.regs = t.regs) : Same l p s u := h.trans (.of_regs hp hr)

theorem Same.of_pages {P : List Nat} (h : OnlyPages P s t) (hp : p t = p s) (hl : ∀ g ∈ l, pageOf g.addr ∉ P) : Same l p s t :=
  ⟨hp, fun g hg => h.rd (hl g hg)⟩

theorem Same.of_fields {m : List Fld} (h : OnlyFields m s t) (hp : p t = p s) (hl : ∀ g ∈ l, ∀ f ∈ m, f.apart g) : Same l p s t :=
  ⟨hp, fun g hg => h.rd (hl g hg)⟩

theorem Same.wr (h : Same l p s t) {f : Fld} {n : Nat} (hf : f.fits) (ha : ∀ g ∈ l, f.apart g) (hp : p (t.wr f n) = p t) :
    Same l p s (t.wr f n) := h.trans ⟨hp, fun g hg => State.rd_wr_apart _ _ _ _ hf (ha g hg)⟩

theorem Same.wrB (h : Same l p s t) {f : Fld} {b : Bool} (hf : f.fits) (ha : ∀ g ∈ l, f.apart g) (hp : p (t.wrB f b) = p t) :
    Same l p s (t.wrB f b) := h.wr hf ha hp

theorem Same.bump (h : Same l p s t) {f : Fld} {n : Nat} (hf : f.fits) (ha : ∀ g ∈ l, f.apart g) (hp : p (t.bump f n) = p t) :
    Same l p s (t.bump f n) := h.wr hf ha hp

theorem Same.raise (h : Same l p s t) {page bit : Nat} (ha : ∀ g ∈ l, (evtStatus page).apart g) (hp : p (t.raise page bit) = p t) :
    Same l p s (t.raise page bit) := h.trans ⟨hp, fun g hg => State.rd_raise _ _ _ _ (ha g hg)⟩

theorem Same.ite {c : Prop} [Decidable c] {a b : State} (ha : Same l p s a) (hb : Same l p s b) : Same l p s (if c then a else b) := by
  split
  · exact ha
  · exact hb

theorem Same.foldl {β : Type} {f : State → β → State} (h : Same l p s t) (xs : List β) (hf : ∀ u x, x ∈ xs → Same l p u (f u x)) :
    Same l p s (xs.foldl f t) := by
  induction xs generalizing t with
  | nil => exact h
  | cons a xs ih => exact ih (h.trans (hf _ _ List.mem_cons_self)) fun u x hx => hf u x (List.mem_cons_of_mem _ hx)

theorem Same.rd (h : Same l p s t) {g : Fld} (hg : g ∈ l) : t.rd g = s.rd g := h.2 g hg

end Same

/-- A field of a word lies apart from what lies apart from the whole word. -/
theorem Fld.apart_of_word {a lo w : Nat} {g : Fld} (hw : lo + w ≤ 32) (h : (Fld.mk a 0 32).apart g) : (Fld.mk a lo w).apart g := by
  obtain ⟨b, m, v⟩ := g
  rw [Fld.apart_mk] at h ⊢
  omega

/-- A field of a listed word, counted up. -/
theorem OnlyFields.bumpIn {l : List Fld} {s t : State} (h : OnlyFields l s t) {a lo w : Nat} (n : Nat) (hw : lo + w ≤ 32) (hl : (Fld.mk a 0 32) ∈ l) :
    OnlyFields l s (t.bump ⟨a, lo, w⟩ n) :=
  h.trans fun _ hg => State.rd_bump_apart _ _ _ _ (Fld.fits_mk.2 hw) (Fld.apart_of_word hw (hg _ hl))

section Ring
variable {s t u : State}

/-! ## Ports and exchanges -/

theorem State.countErrs_fields (e : PortErrs) : OnlyFields [⟨A.RING_ERRA, 0, 32⟩, ⟨A.RING_ERRB, 0, 32⟩] s (s.countErrs e) :=
  (((OnlyFields.refl.bumpIn _ (by decide) (by decide)).bumpIn _ (by decide) (by decide)).bumpIn _ (by decide) (by decide)).bumpIn _ (by decide) (by decide)

theorem State.countErrs_ringSt (e : PortErrs) : (s.countErrs e).ringSt = s.ringSt := by
  unfold State.countErrs
  rw [State.bump_ringSt, State.bump_ringSt, State.bump_ringSt, State.bump_ringSt]

theorem State.countErrs_rd (e : PortErrs) {g : Fld} (hg : ∀ f ∈ [⟨A.RING_ERRA, 0, 32⟩, ⟨A.RING_ERRB, 0, 32⟩], Fld.apart f g) :
    (s.countErrs e).rd g = s.rd g := (State.countErrs_fields e).rd hg

theorem State.originates_rd (h : t.rd F.RING_STATUS_STATE = s.rd F.RING_STATUS_STATE) : t.originates = s.originates := by
  rw [State.originates, State.originates, h]

theorem State.nodes_rd (h : t.rd F.RING_CFG_NODE_COUNT = s.rd F.RING_CFG_NODE_COUNT) : t.nodes = s.nodes := by rw [State.nodes, State.nodes, h]

theorem State.seqFree_congr (h : t.ringSt.seqAt = s.ringSt.seqAt) (hq : t.ringSt.seq = s.ringSt.seq) (hm : t.mono = s.mono) : t.seqFree = s.seqFree := by
  rw [State.seqFree, State.seqFree, h, hq, hm]

/-- A command launched takes the next SEQ and waits where it expects a reply. -/
theorem State.launchCmd_spec (c : RingCmd) : (s.launchCmd c).regs = s.regs ∧ (s.launchCmd c).ringSt.seq = (s.ringSt.seq + 1) % 256 ∧
    (s.launchCmd c).ringSt.held = s.ringSt.held ∧
    (s.launchCmd c).ringSt.wait = if c.replies then s.ringSt.wait ++ [{ c with seq := (s.ringSt.seq + 1) % 256 }] else s.ringSt.wait := by
  have hw : ∀ c, Within [.out] s (s.emitCmd c) := fun c => State.emitCmd_within (by decide) .rfl
  unfold State.launchCmd
  extract_lets q d v e
  have hr : v.ringSt = s.ringSt := (hw d).ringSt (by decide)
  have hg : v.regs = s.regs := (hw d).regs (by decide)
  clear_value v
  refine ⟨hg, rfl, (show e.held = v.ringSt.held from rfl).trans (congrArg Ring.held hr), ?_⟩
  change (if d.replies then v.ringSt.wait ++ [d] else v.ringSt.wait) = _
  rw [hr]
  rfl

theorem State.sendCmd_launches (ho : s.originates = true) (hh : s.ringSt.held = []) (hf : s.seqFree = true) (c : RingCmd) : s.sendCmd c = s.launchCmd c := by
  rw [State.sendCmd, if_neg (by simp [ho]), if_pos (by simp [hh, hf])]

/-! ## What the ring's own operations leave of a keepalive -/

/-- The last keepalive's answers and whether one is out. -/
def State.nopView (s : State) : Bool × Nat × Nat × Nat := (s.ringSt.nopOut, s.ringSt.down, s.ringSt.up, s.ringSt.failRun)

/-- The state of the ring, its time and the number of its nodes. -/
def ringFlds : List Fld := [F.RING_STATUS_STATE, F.RING_TIME_LOOP_NS, F.RING_CFG_NODE_COUNT]

theorem nopView_within {T : List Part} (h : Within T s t) (hT : Part.ringSt ∉ T) : t.nopView = s.nopView := by
  rw [State.nopView, State.nopView, h.ringSt hT]

theorem State.nopView_raise (page bit : Nat) : (s.raise page bit).nopView = s.nopView := by rw [State.nopView, State.raise_ringSt, State.nopView]

theorem Same.nopWr (h : Same ringFlds State.nopView s t) {f : Fld} {n : Nat} (hf : f.fits) (ha : ∀ g ∈ ringFlds, f.apart g) :
    Same ringFlds State.nopView s (t.wr f n) := h.wr hf ha rfl

theorem Same.nopRaise (h : Same ringFlds State.nopView s t) {page bit : Nat} (ha : ∀ g ∈ ringFlds, (evtStatus page).apart g) :
    Same ringFlds State.nopView s (t.raise page bit) := h.raise ha (State.nopView_raise ..)

theorem Same.nopMod (h : Same ringFlds State.nopView s t) {f : Ring → Ring}
    (hf : ∀ r, (f r).nopOut = r.nopOut ∧ (f r).down = r.down ∧ (f r).up = r.up ∧ (f r).failRun = r.failRun) :
    Same ringFlds State.nopView s (t.modRing f) := by
  refine h.upd ?_ (State.mk_regs ..)
  obtain ⟨h1, h2, h3, h4⟩ := hf t.ringSt
  change ((f t.ringSt).nopOut, (f t.ringSt).down, (f t.ringSt).up, (f t.ringSt).failRun) = _
  rw [h1, h2, h3, h4, State.nopView]

/-- The parts outside the registers and the ring's own state. -/
theorem sameNop_within {T : List Part} (h : Within T s t) (hT : Part.ringSt ∉ T) (hr : Part.regs ∉ T) : Same ringFlds State.nopView s t :=
  .of_regs (nopView_within h hT) (h.regs hr)

variable (s)

theorem State.launchCmd_same (c : RingCmd) : Same ringFlds State.nopView s (s.launchCmd c) := by
  have hw : ∀ c, Within [.out] s (s.emitCmd c) := fun c => State.emitCmd_within (by decide) .rfl
  unfold State.launchCmd
  extract_lets q d v e
  have hv : Same ringFlds State.nopView s v := sameNop_within (hw d) (by decide) (by decide)
  clear_value v
  exact hv.trans (.of_regs rfl rfl)

theorem State.sendCmd_same (c : RingCmd) : Same ringFlds State.nopView s (s.sendCmd c) :=
  .ite .refl (.ite (s.launchCmd_same c) (.of_regs rfl (State.mk_regs ..)))

theorem State.ringCmd_same (n cmd : Nat) (q : List Byte) : Same ringFlds State.nopView s (s.ringCmd n cmd q) := s.sendCmd_same _

theorem State.sendPlan_same : Same ringFlds State.nopView s s.sendPlan := by
  refine .of_pages s.sendPlan_pages ?_ (by decide)
  unfold State.sendPlan
  extract_lets cells ref plans excl newly s1 s2 s3 b s4
  have h1 : Within [.regs] s s1 := within_foldl .rfl fun u x hu => State.wrBit_within (by decide) hu
  have h2 : s2.nopView = s.nopView := by
    unfold s2
    split
    · exact (State.nopView_raise ..).trans (nopView_within h1 (by decide))
    · exact nopView_within h1 (by decide)
  have h3 : s3.nopView = s2.nopView := (Same.foldl (l := ringFlds) (p := State.nopView) .refl plans fun u x _ => u.ringCmd_same ..).1
  have h4 : s4.nopView = s.nopView := (show s4.nopView = s3.nopView from rfl).trans (h3.trans h2)
  clear_value s4
  exact (nopView_within (State.mirror_pair _ _) (by decide)).trans ((State.nopView_raise ..).trans h4)

theorem State.planBegin_same : Same ringFlds State.nopView s s.planBegin := by
  unfold State.planBegin
  extract_lets l b s1 b1 s2 b2
  have h1 : Same ringFlds State.nopView s s1 := .of_regs rfl (State.mk_regs ..)
  have hb : ∀ b : Bal, Same ringFlds State.nopView s { s1 with bal := b } := fun b => h1.upd rfl rfl
  have h2 : Same ringFlds State.nopView s s2 := (hb _).foldl l fun u x _ => u.ringCmd_same x 0x11 []
  clear_value s2
  have hc : ∀ b : Bal, Same ringFlds State.nopView s { s2 with bal := b } := fun b => h2.upd rfl rfl
  exact .ite ((hc _).trans (State.sendPlan_same _)) h2

theorem State.replan_same : Same ringFlds State.nopView s s.replan := .ite s.planBegin_same .refl

theorem State.replanIfDue_same : Same ringFlds State.nopView s s.replanIfDue :=
  .ite (.trans (t := s.modBal fun b => { b with replanDue := false }) (.of_regs rfl (State.mk_regs ..)) (State.replan_same _)) .refl

theorem State.writeThresholds_same : Same ringFlds State.nopView s s.writeThresholds :=
  .ite (Same.foldl .refl _ fun u _ _ => (u.ringCmd_same ..).trans (State.ringCmd_same ..)) .refl

theorem State.sequenceDone_same : Same ringFlds State.nopView s s.sequenceDone := by
  unfold State.sequenceDone
  extract_lets full v w c b x
  have hv : Same ringFlds State.nopView s v := Same.refl.nopMod fun _ => ⟨rfl, rfl, rfl, rfl⟩
  clear_value v
  have hx : Same ringFlds State.nopView s x := (hv.nopRaise (by decide)).upd rfl (State.mk_regs ..)
  clear_value x
  exact .ite ((Same.ite (hx.trans x.writeThresholds_same) hx).trans (State.replan_same _)) (hv.trans (State.replanIfDue_same _))

theorem delayFld_apart (side n : Nat) : (delayFld side n).fits ∧ ∀ g ∈ ringFlds, (delayFld side n).apart g := by
  unfold delayFld
  split
  all_goals
    refine ⟨Nat.le_of_ble_eq_true rfl, fun g hg => .inl ?_⟩
    simp only [ringFlds, List.mem_cons, List.not_mem_nil, or_false] at hg
    rcases hg with rfl | rfl | rfl <;> simp only [ne_eq] <;> omega

theorem State.takeDelay_same (side n : Nat) : Same ringFlds State.nopView s (s.takeDelay side n) := by
  obtain ⟨hf, ha⟩ := delayFld_apart side n
  unfold State.takeDelay
  extract_lets k
  split
  extract_lets d
  refine .ite (Same.refl.nopWr hf ha) ?_
  split
  · refine .nopWr (.nopMod .refl ?_) hf ha
    exact fun _ => ⟨rfl, rfl, rfl, rfl⟩
  · refine .ite ?_ (Same.refl.nopWr hf ha)
    refine .nopWr (.nopRaise (.nopMod .refl ?_) (by decide)) hf ha
    exact fun _ => ⟨rfl, rfl, rfl, rfl⟩

theorem State.setOffsets_same : Same ringFlds State.nopView s s.setOffsets := by
  unfold State.setOffsets
  extract_lets c l ofs v
  have hv : Same ringFlds State.nopView s v :=
    (Same.refl.nopWr (f := F.RING_TIME_APERTURE_C) (n := c) (by decide) (by decide)).nopMod fun _ => ⟨rfl, rfl, rfl, rfl⟩
  clear_value v
  exact hv.nopMod fun _ => ⟨rfl, rfl, rfl, rfl⟩

theorem State.advanceSeq_same (fuel : Nat) : ∀ s : State, Same ringFlds State.nopView s (State.advanceSeq fuel s) := by
  induction fuel with
  | zero => exact fun s => .refl
  | succ fuel ih =>
    intro s
    unfold State.advanceSeq
    split
    · exact (Same.refl.nopMod fun _ => ⟨rfl, rfl, rfl, rfl⟩).trans (State.sendCmd_same _ _)
    · extract_lets busy u v
      refine .ite .refl ?_
      split
      · have hu : Same ringFlds State.nopView s u := Same.refl.nopWr (by decide) (by decide)
        clear_value u
        exact (hu.nopMod fun _ => ⟨rfl, rfl, rfl, rfl⟩).trans (ih _)
      · exact (Same.refl.nopMod fun _ => ⟨rfl, rfl, rfl, rfl⟩).trans (ih _)
      · exact .ite (Same.refl.nopMod fun _ => ⟨rfl, rfl, rfl, rfl⟩) ((Same.refl.nopMod fun _ => ⟨rfl, rfl, rfl, rfl⟩).trans (ih _))
      · have hv : Same ringFlds State.nopView s v := Same.foldl .refl _ fun u n _ => (u.takeDelay_same 0 n).trans (State.takeDelay_same _ 1 n)
        clear_value v
        exact .ite ((hv.trans v.setOffsets_same).trans (ih _)) (hv.trans v.sequenceDone_same)
      · exact s.sequenceDone_same
      · exact .refl

theorem State.goOn_same : Same ringFlds State.nopView s s.goOn := .ite (State.advanceSeq_same 8 s) .refl

theorem State.measure_same : Same ringFlds State.nopView s s.measure :=
  .ite .refl (.ite (Same.refl.nopMod fun _ => ⟨rfl, rfl, rfl, rfl⟩) ((Same.refl.nopMod fun _ => ⟨rfl, rfl, rfl, rfl⟩).trans (State.goOn_same _)))

theorem State.voidNode_same (n : Nat) : Same ringFlds State.nopView s (s.voidNode n) := by
  unfold State.voidNode
  extract_lets gone un k left
  refine .ite .refl (.trans (t := { s with harv := { s.harv with pend := left }, bal := { s.bal with unsusp := if un then s.bal.unsusp - 2 ^ n else s.bal.unsusp } })
    (.of_regs rfl (State.mk_regs ..)) ?_)
  exact (Same.refl.nopWr (by decide) (by decide)).nopWr (by decide) (by decide)

theorem State.locate_same : Same ringFlds State.nopView s s.locate := (Same.refl.nopWr (by decide) (by decide)).nopWr (by decide) (by decide)

theorem State.afterKeepalive_same : Same ringFlds State.nopView s s.afterKeepalive := by
  unfold State.afterKeepalive
  extract_lets v
  have hv : Same ringFlds State.nopView s v := .ite s.locate_same .refl
  clear_value v
  exact .ite ((hv.nopMod fun _ => ⟨rfl, rfl, rfl, rfl⟩).trans (State.goOn_same _)) (.ite (hv.trans v.measure_same) hv)

/-- The answers of a keepalive noted. -/
def State.answered (s : State) (down up : Nat) : State := s.modRing fun r => { r with nopOut := false, down := down, up := up, heard := true }

variable {s} {down up : Nat}

theorem State.answered_answering : (s.answered down up).answering = s.nodes.filter fun n => down.testBit n || up.testBit n := rfl

/-- In INTACT, with a node that answers, what the answers lead to leaves the ring's state and the answers. -/
theorem State.takeAnswers_same (h3 : s.rd F.RING_STATUS_STATE = 3) {n : Nat} (hn : n ∈ s.nodes) (ha : (down.testBit n || up.testBit n) = true) :
    Same ringFlds State.nopView (s.answered down up) (s.takeAnswers down up) := by
  have hne : (s.answered down up).answering.isEmpty = false := by
    rw [State.answered_answering, List.isEmpty_eq_false_iff]
    exact List.ne_nil_of_mem (List.mem_filter.2 ⟨hn, ha⟩)
  unfold State.takeAnswers
  extract_lets before v none' w st settled x x' y z back
  have hv : v = s.answered down up := rfl
  have hn' : none' = false := hne
  have hw : Same ringFlds State.nopView v w := Same.refl.nopMod fun _ => ⟨rfl, rfl, rfl, rfl⟩
  have hst : st = 3 := (State.rd_regs (State.mk_regs ..) _).trans ((State.rd_regs (State.mk_regs ..) _).trans h3)
  have hx : x' = w := by
    unfold x'
    rw [if_neg (by simp [hn']), if_neg (by simp [hst])]
  have hwx : Same ringFlds State.nopView v x' := by rw [hx]; exact hw
  have hy : Same ringFlds State.nopView v y := .ite (hwx.nopRaise (by decide)) hwx
  clear_value y
  have hz : Same ringFlds State.nopView v z := hy.foldl _ fun u n _ => u.voidNode_same n
  clear_value z
  rw [← hv]
  exact .ite hz (.ite (hz.trans z.replan_same) (hz.upd rfl rfl))

/-! ## A break -/

theorem State.enterBroken_stays (h : s.rd F.RING_STATUS_STATE = 4 ∨ s.rd F.RING_STATUS_STATE < 2) : s.enterBroken = s := by
  rw [State.enterBroken, if_pos (by simpa using h)]

theorem State.enterBroken_spec (h3 : s.rd F.RING_STATUS_STATE = 3) : s.enterBroken.rd F.RING_STATUS_STATE = 4 ∧ s.enterBroken.rd F.RING_TIME_LOOP_NS = 0 ∧
    s.enterBroken.ringSt.measureDue = true ∧ s.enterBroken.nopView = s.nopView ∧
    OnlyFields [F.RING_STATUS_STATE, F.RING_TIME_LOOP_NS, evtStatus 0x18] s s.enterBroken := by
  unfold State.enterBroken
  rw [if_neg (by simp [h3])]
  extract_lets v e w
  have hv : v.rd F.RING_STATUS_STATE = 4 ∧ v.rd F.RING_TIME_LOOP_NS = 0 ∧ v.nopView = s.nopView := by
    refine ⟨?_, ?_, ?_⟩
    · rw [State.rd_raise _ _ _ _ (by decide), State.rd_wr_apart _ _ _ _ (by decide) (by decide), State.rd_wr _ _ _ (by decide)]
      rfl
    · rw [State.rd_raise _ _ _ _ (by decide), State.rd_wr _ _ _ (by decide)]
      rfl
    · exact State.nopView_raise ..
  have hf : OnlyFields [F.RING_STATUS_STATE, F.RING_TIME_LOOP_NS, evtStatus 0x18] s v :=
    ((OnlyFields.refl.wr _ (by decide) (by decide)).wr _ (by decide) (by decide)).raise _ (by decide)
  clear_value v
  obtain ⟨h1, h2, h4⟩ := hv
  exact ⟨(State.rd_regs rfl _).trans h1, (State.rd_regs rfl _).trans h2, rfl, (show _ = v.nopView from rfl).trans h4, hf.upd rfl⟩

/-- A port's link bit. -/
def linkFld (p : Fin 2) : Fld := if p.val = 0 then F.RING_STATUS_LINK_A else F.RING_STATUS_LINK_B

theorem linkFld_fits (p : Fin 2) : (linkFld p).fits ∧ (linkFld p).width ≠ 0 ∧ ∀ g ∈ [F.RING_STATUS_STATE, F.RING_TIME_LOOP_NS, evtStatus 0x18], (linkFld p).apart g := by
  unfold linkFld
  split <;> decide

/-- A port's link lost: the bit and the errors that were counted on the way. -/
def State.linkLost (s : State) (p : Fin 2) (errs : Nat) : State :=
  (s.wrB (linkFld p) false).bump (if p.val = 0 then F.RING_ERRA_CODE_ERR else ⟨A.RING_ERRB, 16, 16⟩) errs

theorem State.linkLost_spec (p : Fin 2) (errs : Nat) : (s.linkLost p errs).rd (linkFld p) = 0 ∧ (s.linkLost p errs).ringSt = s.ringSt ∧
    (s.linkLost p errs).rd F.RING_STATUS_STATE = s.rd F.RING_STATUS_STATE := by
  obtain ⟨hf, hw, ha⟩ := linkFld_fits p
  have he : (if p.val = 0 then F.RING_ERRA_CODE_ERR else ⟨A.RING_ERRB, 16, 16⟩ : Fld).fits ∧
      (if p.val = 0 then F.RING_ERRA_CODE_ERR else ⟨A.RING_ERRB, 16, 16⟩ : Fld).apart (linkFld p) ∧
      (if p.val = 0 then F.RING_ERRA_CODE_ERR else ⟨A.RING_ERRB, 16, 16⟩ : Fld).apart F.RING_STATUS_STATE := by
    unfold linkFld
    split <;> decide
  obtain ⟨ef, e1, e2⟩ := he
  exact ⟨(State.rd_bump_apart _ _ _ _ ef e1).trans (State.rd_wrB _ _ false hf hw), rfl,
    (State.rd_bump_apart _ _ _ _ ef e2).trans (State.rd_wrB_apart _ _ _ _ hf (ha _ (by decide)))⟩

theorem exec_ringPortLinkDown (p : Fin 2) (errs : BitVec 16) : exec (.ringPortLinkDown p errs) s =
    .next (if (s.linkLost p errs.toNat).rd F.RING_STATUS_STATE == 5 then s.linkLost p errs.toNat else (s.linkLost p errs.toNat).enterBroken) := rfl

theorem State.last_node_lt {l : List Nat} (h : ∀ n ∈ l, n < 63) : l.getLast?.getD 0x3F < 64 := by
  cases hl : l.getLast? with
  | none => decide
  | some n => exact Nat.lt_succ_of_lt (h n (List.mem_of_getLast? hl))

theorem State.first_node_lt {l : List Nat} {q : Nat → Bool} (h : ∀ n ∈ l, n < 63) : (l.find? q).getD 0x3F < 64 := by
  cases hl : l.find? q with
  | none => decide
  | some n => exact Nat.lt_succ_of_lt (h n (List.mem_of_find?_eq_some hl))

theorem State.nodes_lt : ∀ n ∈ s.nodes, n < 63 := fun n hn => by
  have := List.mem_range.1 hn
  omega

theorem State.locate_spec : s.locate.rd F.RING_STATUS_BREAK_LO = (s.nodes.filter s.ringSt.down.testBit).getLast?.getD 0x3F ∧
    s.locate.rd F.RING_STATUS_BREAK_HI = (s.nodes.find? s.ringSt.up.testBit).getD 0x3F := by
  unfold State.locate
  extract_lets lo hi
  constructor
  · rw [State.rd_wr_apart _ _ _ _ (by decide) (by decide), State.rd_wr _ _ _ (by decide)]
    exact Nat.mod_eq_of_lt (State.last_node_lt fun n hn => State.nodes_lt n (List.mem_of_mem_filter hn))
  · rw [State.rd_wr _ _ _ (by decide)]
    exact Nat.mod_eq_of_lt (State.first_node_lt State.nodes_lt)

theorem State.locate_ringSt : s.locate.ringSt = s.ringSt := by
  unfold State.locate
  extract_lets lo hi
  rw [State.wr_ringSt, State.wr_ringSt]

theorem exec_linkReport {n : Fin 32} (h3 : s.rd F.RING_STATUS_STATE = 3) (hn : n.val ∈ s.nodes) : exec (.linkReport n) s = .next s.enterBroken.locate := by
  change execLinkReport n s = _
  unfold execLinkReport
  rw [if_pos (by simp [State.originates, h3, hn]), if_neg (by simp [h3])]
  extract_lets v
  rw [if_pos (beq_iff_eq.2 (show v.rd F.RING_STATUS_STATE = 4 from (State.enterBroken_spec h3).1))]

/-- A keepalive out in INTACT that fails for the second time in a row: the answers taken and the runs counted. -/
def State.failCounted (s : State) : State := s.modRing fun r => { r with goodRun := 0, silentRun := 0, failRun := min 2 (r.failRun + 1) }

/-- What a keepalive that failed leaves before the ring's state is judged. -/
def State.keepaliveMissed (s : State) (answers : NopAnswers) (errs : PortErrs) : State :=
  ((s.countErrs errs).takeAnswers answers.down.toNat answers.up.toNat).failCounted

theorem exec_keepaliveFail {answers : NopAnswers} {errs : PortErrs} (ho : s.ringSt.nopOut = true)
    (hr : (s.keepaliveMissed answers errs).ringSt.failRun = 2) (h3 : (s.keepaliveMissed answers errs).rd F.RING_STATUS_STATE = 3) :
    exec (.keepaliveFail answers errs) s = .next (s.keepaliveMissed answers errs).enterBroken.afterKeepalive := by
  change execKeepaliveFail answers errs s = _
  unfold execKeepaliveFail
  rw [if_neg (by simp [State.countErrs_ringSt, ho])]
  extract_lets v w st x
  have hx : x = (s.keepaliveMissed answers errs).enterBroken := by
    have hw : w = s.keepaliveMissed answers errs := rfl
    unfold x
    rw [if_pos (by simp [st, hw, hr, h3]), hw]
  rw [hx]

theorem State.nopView_eq (h : t.nopView = s.nopView) : t.ringSt.nopOut = s.ringSt.nopOut ∧ t.ringSt.down = s.ringSt.down ∧
    t.ringSt.up = s.ringSt.up ∧ t.ringSt.failRun = s.ringSt.failRun := by simpa [State.nopView] using h

/-- The answers taken in INTACT: they stand, the run of failures and the ring's state are as before. -/
theorem State.takeAnswers_spec (h3 : s.rd F.RING_STATUS_STATE = 3) {n : Nat} (hn : n ∈ s.nodes) (ha : (down.testBit n || up.testBit n) = true) :
    (s.takeAnswers down up).ringSt.nopOut = false ∧ (s.takeAnswers down up).ringSt.down = down ∧ (s.takeAnswers down up).ringSt.up = up ∧
    (s.takeAnswers down up).ringSt.failRun = s.ringSt.failRun ∧ (s.takeAnswers down up).rd F.RING_STATUS_STATE = 3 ∧
    (s.takeAnswers down up).nodes = s.nodes := by
  have h := State.takeAnswers_same h3 hn ha
  obtain ⟨h1, h2, h4, h5⟩ := State.nopView_eq h.1
  exact ⟨h1, h2, h4, h5, (h.rd (by decide)).trans ((State.rd_regs (State.mk_regs ..) _).trans h3),
    State.nodes_rd ((h.rd (by decide)).trans (State.rd_regs (State.mk_regs ..) _))⟩

theorem State.zero_node (hc : s.rd F.RING_CFG_NODE_COUNT ≠ 0) : 0 ∈ s.nodes := List.mem_range.2 (by omega)

theorem State.failCounted_spec : s.failCounted.ringSt.failRun = min 2 (s.ringSt.failRun + 1) ∧
    s.failCounted.rd F.RING_STATUS_STATE = s.rd F.RING_STATUS_STATE ∧ s.failCounted.ringSt.nopOut = s.ringSt.nopOut ∧
    s.failCounted.ringSt.down = s.ringSt.down ∧ s.failCounted.ringSt.up = s.ringSt.up :=
  ⟨rfl, State.rd_regs (State.mk_regs ..) _, rfl, rfl, rfl⟩

theorem State.keepaliveMissed_spec {answers : NopAnswers} {errs : PortErrs} (h3 : s.rd F.RING_STATUS_STATE = 3) (hr : 1 ≤ s.ringSt.failRun)
    (hc : s.rd F.RING_CFG_NODE_COUNT ≠ 0) (hd : answers.down.toNat.testBit 0 = true) :
    (s.keepaliveMissed answers errs).ringSt.failRun = 2 ∧ (s.keepaliveMissed answers errs).rd F.RING_STATUS_STATE = 3 ∧
    (s.keepaliveMissed answers errs).ringSt.nopOut = false ∧ (s.keepaliveMissed answers errs).ringSt.down = answers.down.toNat ∧
    (s.keepaliveMissed answers errs).ringSt.up = answers.up.toNat := by
  have c3 : (s.countErrs errs).rd F.RING_STATUS_STATE = 3 := (State.countErrs_rd errs (by decide)).trans h3
  have cn : (s.countErrs errs).nodes = s.nodes := State.nodes_rd (State.countErrs_rd errs (by decide))
  obtain ⟨h1, h2, h4, h5, h6, _⟩ := State.takeAnswers_spec c3 (down := answers.down.toNat) (up := answers.up.toNat) (n := 0)
    (by rw [cn]; exact State.zero_node hc) (by rw [hd]; rfl)
  obtain ⟨f1, f2, f3, f4, f5⟩ := State.failCounted_spec (s := (s.countErrs errs).takeAnswers answers.down.toNat answers.up.toNat)
  rw [State.keepaliveMissed]
  refine ⟨f1.trans ?_, f2.trans h6, f3.trans h1, f4.trans h2, f5.trans h4⟩
  rw [h5, State.countErrs_ringSt]
  omega

theorem exec_ringPortSynchronised (p : Fin 2) : exec (.ringPortSynchronised p) s = .next (s.wrB (linkFld p) true) := rfl

end Ring

/-- Settles O23: a break shows STATE 4, and what follows a keepalive leaves the ring's state and the answers as they are. -/
theorem ringBreaks : Obligations.RingBreaks := by
  unfold Obligations.RingBreaks
  refine ⟨?_, ?_, ?_, ?_, ?_⟩
  · intro p errs s h3
    obtain ⟨h1, _, h2⟩ := State.linkLost_spec (s := s) p errs.toNat
    obtain ⟨b1, b2, b3, _, b5⟩ := State.enterBroken_spec (h2.trans h3)
    refine .of_eq (exec_ringPortLinkDown p errs) (if_neg (by simp [h2, h3])) ⟨b1, ?_, b2, b3⟩
    refine (b5.rd (g := linkFld p) ?_).trans h1
    unfold linkFld
    split <;> decide
  · intro p errs s hlt
    obtain ⟨h1, hr, h2⟩ := State.linkLost_spec (s := s) p errs.toNat
    have hs : (s.linkLost p errs.toNat).enterBroken = s.linkLost p errs.toNat := State.enterBroken_stays (.inr (by rw [h2]; exact hlt))
    refine .of_eq (exec_ringPortLinkDown p errs) (by rw [hs, ite_self]) ⟨h2, h1, hr⟩
  · intro p s
    obtain ⟨hf, hw, _⟩ := linkFld_fits p
    exact .of_eq (exec_ringPortSynchronised p) rfl ⟨State.rd_wrB _ (linkFld p) true hf hw, OnlyFields.refl.wrB (f := linkFld p) _ hf (List.mem_singleton_self _)⟩
  · intro n s h3 hn
    obtain ⟨b1, _, b3, b4, b5⟩ := State.enterBroken_spec h3
    obtain ⟨l1, l2⟩ := State.locate_spec (s := s.enterBroken)
    have hnodes : s.enterBroken.nodes = s.nodes := State.nodes_rd (b5.rd (by decide))
    obtain ⟨_, hd, hu, _⟩ := State.nopView_eq b4
    rw [hnodes, hd] at l1
    rw [hnodes, hu] at l2
    exact .of_eq (exec_linkReport h3 hn) rfl ⟨((State.locate_same s.enterBroken).rd (by decide)).trans b1, (congrArg Ring.measureDue State.locate_ringSt).trans b3, l1, l2⟩
  · intro answers errs s ho h3 hrun hc hd
    obtain ⟨m1, m2, m3, m4, m5⟩ := State.keepaliveMissed_spec (errs := errs) h3 hrun hc hd
    obtain ⟨b1, _, _, b4, _⟩ := State.enterBroken_spec m2
    have ha := State.afterKeepalive_same (s.keepaliveMissed answers errs).enterBroken
    obtain ⟨a1, a2, a3, _⟩ := State.nopView_eq (ha.1.trans b4)
    exact .of_eq (exec_keepaliveFail ho m1 m2) rfl ⟨(ha.rd (by decide)).trans b1, a1.trans m3, a2.trans m4, a3.trans m5⟩

end Sys2Proof.Machine
end

section
/-!
O24: exchanges on the ring. Replies, their timeouts, held commands and keepalives that return.
-/
set_option Elab.async false
namespace Sys2Proof.Machine
open Sys2Proof

section Exchange
variable {s t u : State}

/-! ## An exchange found and ended -/

/-- The command of an exchange taken out of those that wait. -/
def State.unwaited (s : State) (c : RingCmd) : State :=
  s.modRing fun r => { r with wait := r.wait.filter fun x => !(x.node == c.node && x.cmd == c.cmd && x.seq == c.seq) }

theorem exec_ringReply_found {n : Fin 32} {cmd seq : BitVec 8} {status : BitVec 4} {data : ReplyData} {c : RingCmd}
    (hf : s.ringSt.wait.find? (fun c => c.node == n.val && c.cmd == cmd.toNat && c.seq == seq.toNat) = some c) (h2 : c.second = false) :
    exec (.ringReply n cmd seq status data) s =
      .next ((((s.countErrs data.errs).unwaited c).actReply c status.toNat data.payload).afterExchange c) := by
  change execRingReply n cmd seq status data s = _
  unfold execRingReply
  simp only [State.countErrs_ringSt, hf, h2]
  rfl

theorem exec_ringReply_none {n : Fin 32} {seq : BitVec 8} {data : ReplyData} (ho : s.originates = true)
    (hf : s.ringSt.wait.find? (fun c => c.node == n.val && c.cmd == 0x02 && c.seq == seq.toNat) = none) :
    exec (.ringReply n 0x02 seq 3 data) s = .next (s.countErrs data.errs).conflict := by
  have hc : (s.countErrs data.errs).originates = true := (State.originates_rd (State.countErrs_rd _ (by decide))).trans ho
  change execRingReply n 0x02 seq 3 data s = _
  unfold execRingReply
  simp only [State.countErrs_ringSt]
  have h' : s.ringSt.wait.find? (fun c => c.node == n.val && c.cmd == (0x02 : BitVec 8).toNat && c.seq == seq.toNat) = none := hf
  rw [h']
  simp [hc]

theorem exec_ringReplyTimeout_first {n : Fin 32} {cmd seq : BitVec 8} {ea eb : PortErr} {c : RingCmd}
    (hf : s.ringSt.wait.find? (fun c => c.node == n.val && c.cmd == cmd.toNat && c.seq == seq.toNat) = some c) (h2 : c.second = false) :
    exec (.ringReplyTimeout n cmd seq ea eb) s = .next (((s.countErrs ⟨ea, eb⟩).unwaited c).sendCmd { c with second := true }) := by
  change execRingReplyTimeout n cmd seq ea eb s = _
  unfold execRingReplyTimeout
  simp only [State.countErrs_ringSt, hf, h2]
  rfl

theorem exec_ringReplyTimeout_second {n : Fin 32} {cmd seq : BitVec 8} {ea eb : PortErr} {c : RingCmd}
    (hf : s.ringSt.wait.find? (fun c => c.node == n.val && c.cmd == cmd.toNat && c.seq == seq.toNat) = some c) (h2 : c.second = true) :
    exec (.ringReplyTimeout n cmd seq ea eb) s =
      .next (((((s.countErrs ⟨ea, eb⟩).unwaited c).crcFault c ⟨ea, eb⟩).noAnswer c).afterExchange c) := by
  change execRingReplyTimeout n cmd seq ea eb s = _
  unfold execRingReplyTimeout
  simp only [State.countErrs_ringSt, hf, h2]
  rfl

/-- The command found is the one asked for. -/
theorem found_cmd {n cmd seq : Nat} {l : List RingCmd} {c : RingCmd} (hf : l.find? (fun c => c.node == n && c.cmd == cmd && c.seq == seq) = some c) :
    c.node = n ∧ c.cmd = cmd := by
  have := List.find?_some hf
  simp only [Bool.and_eq_true, beq_iff_eq] at this
  exact this.1

theorem State.unwaited_regs (c : RingCmd) : (s.unwaited c).regs = s.regs := rfl

theorem State.unwaited_wait (c : RingCmd) :
    (s.unwaited c).ringSt.wait = s.ringSt.wait.filter fun x => !(x.node == c.node && x.cmd == c.cmd && x.seq == c.seq) := rfl

theorem State.unwaited_stage (c : RingCmd) : (s.unwaited c).ringSt.stage = s.ringSt.stage := rfl

theorem State.unwaited_seq (c : RingCmd) : (s.unwaited c).ringSt.seq = s.ringSt.seq ∧ (s.unwaited c).ringSt.held = s.ringSt.held ∧
    (s.unwaited c).ringSt.seqAt = s.ringSt.seqAt ∧ (s.unwaited c).mono = s.mono := ⟨rfl, rfl, rfl, rfl⟩

theorem State.unwaited_crown (c : RingCmd) : (s.unwaited c).crown = s.crown := rfl

theorem State.countErrs_crown (e : PortErrs) : (s.countErrs e).crown = s.crown :=
  Within.crown (T := [.regs]) (State.countErrs_within (by decide) .rfl) (by decide)

theorem State.countErrs_mono (e : PortErrs) : (s.countErrs e).mono = s.mono :=
  mono_of_tb (Within.tb (T := [.regs]) (State.countErrs_within (by decide) .rfl) (by decide))

/-- A command of no step of a sequence, or of another one than that under way, has no step after it. -/
theorem State.afterExchange_other {c : RingCmd} (h : c.cmd ≠ Machine.stageCode s.ringSt.stage) : s.afterExchange c = s := if_neg h

theorem stageCode_ident {k : Nat} (hk : k ≠ 3) : 2 ≠ stageCode k := by
  unfold stageCode
  split
  · exact absurd rfl hk
  all_goals decide

theorem stageCode_clear (k : Nat) : 0x31 ≠ stageCode k := by
  unfold stageCode
  split <;> decide

/-! ## IDENT -/

theorem State.actReply_ident {c : RingCmd} (h : c.cmd = 2) (p : List Byte) : s.actReply c (0 : BitVec 4).toNat p = s.takeIdent c.node p := by
  unfold State.actReply
  rw [h]
  rfl

theorem identFld_apart (n lo w : Nat) : ∀ f ∈ [F.RING_STATUS_FOREIGN, evtStatus 0x18], f.apart ⟨0x18100 + 0x4 * n, lo, w⟩ := by
  intro f hf
  simp only [List.mem_cons, List.not_mem_nil, or_false] at hf
  rcases hf with rfl | rfl
  · exact .inl (by simp only [ne_eq]; omega)
  · exact .inl (by simp only [evtStatus_mk, ne_eq]; omega)

/-! ## FAULT_CLEAR -/

theorem State.actReply_clear {c : RingCmd} (h : c.cmd = 0x31) {k : Nat} (hk : k = 0 ∨ k = 3) (p : List Byte) :
    s.actReply c k p = (s.wr (F.NODE_NSTAT_CAUSE c.node) (beAt p 0 1 % 8)).clearGot c.node := by
  unfold State.actReply
  rw [h]
  exact if_pos hk

/-- The reply to a FAULT_CLEAR shows the node's CAUSE, and the SAFE exit no longer waits for it. -/
theorem State.clearReply_spec (n : Nat) (v : Nat) : ((s.wr (F.NODE_NSTAT_CAUSE n) (v % 8)).clearGot n).rd (F.NODE_NSTAT_CAUSE n) = v % 8 ∧
    ((s.wr (F.NODE_NSTAT_CAUSE n) (v % 8)).clearGot n).crown.clearAwait = s.crown.clearAwait.filter (· != n) ∧
    ((s.wr (F.NODE_NSTAT_CAUSE n) (v % 8)).clearGot n).ringSt = s.ringSt ∧
    OnlyFields [F.NODE_NSTAT_CAUSE n] s ((s.wr (F.NODE_NSTAT_CAUSE n) (v % 8)).clearGot n) := by
  have hf : (F.NODE_NSTAT_CAUSE n).fits := Nat.le_of_ble_eq_true rfl
  exact ⟨(State.rd_regs (State.mk_regs ..) _).trans ((State.rd_wr _ _ _ hf).trans (Nat.mod_mod ..)), rfl, rfl,
    (OnlyFields.refl.wr _ hf (List.mem_singleton_self _)).upd (State.mk_regs ..)⟩

/-- What an IDENT reply shows of its node. -/
def State.identShown (s : State) (n : Nat) (p : List Byte) : State :=
  ((s.wr (F.RING_NODEID_TYPE n) (beAt p 0 1)).wr (F.RING_NODEID_CELLS n) (beAt p 1 1)).wr (F.RING_NODEID_FW_VER n) (beAt p 2 2)

theorem State.identShown_spec {n : Nat} {p : List Byte} : (s.identShown n p).rd (F.RING_NODEID_TYPE n) = beAt p 0 1 ∧
    (s.identShown n p).rd (F.RING_NODEID_CELLS n) = beAt p 1 1 % 2 ^ (F.RING_NODEID_CELLS n).width ∧
    (s.identShown n p).rd (F.RING_NODEID_FW_VER n) = beAt p 2 2 := by
  have f1 : (F.RING_NODEID_TYPE n).fits := Nat.le_of_ble_eq_true rfl
  have f2 : (F.RING_NODEID_CELLS n).fits := Nat.le_of_ble_eq_true rfl
  have f3 : (F.RING_NODEID_FW_VER n).fits := Nat.le_of_ble_eq_true rfl
  refine ⟨?_, ?_, ?_⟩
  · refine (State.rd_wr_apart _ _ _ _ f3 (.inr (.inr (by decide : 0 + 8 ≤ 16)))).trans ((State.rd_wr_apart _ _ _ _ f2
      (.inr (.inr (by decide : 0 + 8 ≤ 8)))).trans ((State.rd_wr _ _ _ f1).trans ?_))
    exact Nat.mod_eq_of_lt (beAt_lt p 0 1)
  · exact (State.rd_wr_apart _ _ _ _ f3 (.inr (.inr (by decide : 8 + 5 ≤ 16)))).trans (State.rd_wr _ _ _ f2)
  · exact (State.rd_wr _ _ _ f3).trans (Nat.mod_eq_of_lt (beAt_lt p 2 2))

/-- A node noted as answering, or as foreign with its event. -/
def State.identNoted (s : State) (n : Nat) (n16 : Bool) : State :=
  let s := s.modRing fun r => { r with ident := putBit r.ident n true, found := putBit r.found n n16, foreign := putBit r.foreign n (!n16) }
  if n16 then s else (s.wrB F.RING_STATUS_FOREIGN true).raise 0x18 4

theorem State.takeIdent_eq (n : Nat) (p : List Byte) : s.takeIdent n p = (s.identShown n p).identNoted n (beAt p 0 1 == 0x16) := rfl

theorem State.identNoted_spec (n : Nat) (b : Bool) : (s.identNoted n b).ringSt.wait = s.ringSt.wait ∧ (s.identNoted n b).ringSt.stage = s.ringSt.stage ∧
    OnlyFields [F.RING_STATUS_FOREIGN, evtStatus 0x18] s (s.identNoted n b) := by
  unfold State.identNoted
  extract_lets v
  have hv : v.ringSt.wait = s.ringSt.wait ∧ v.ringSt.stage = s.ringSt.stage := ⟨rfl, rfl⟩
  have hf : OnlyFields [F.RING_STATUS_FOREIGN, evtStatus 0x18] s v := .of_regs rfl
  clear_value v
  split
  · exact ⟨hv.1, hv.2, hf⟩
  · refine ⟨?_, ?_, (hf.wrB _ (by decide) (by decide)).raise _ (by decide)⟩
    · rw [State.raise_ringSt]
      exact hv.1
    · rw [State.raise_ringSt]
      exact hv.2

/-! ## Timeouts -/

/-- A command asked a second time takes the next SEQ and waits again. -/
theorem State.asksAgain {c : RingCmd} {e : PortErrs} (hr : c.replies = true) (ho : s.originates = true) (hh : s.ringSt.held = []) (hq : s.seqFree = true) :
    (((s.countErrs e).unwaited c).sendCmd { c with second := true }).ringSt.wait =
      (s.ringSt.wait.filter fun x => !(x.node == c.node && x.cmd == c.cmd && x.seq == c.seq)) ++ [{ c with second := true, seq := (s.ringSt.seq + 1) % 256 }] ∧
    (((s.countErrs e).unwaited c).sendCmd { c with second := true }).ringSt.seq = (s.ringSt.seq + 1) % 256 := by
  have ho' : ((s.countErrs e).unwaited c).originates = true :=
    (State.originates_rd ((State.rd_regs (State.unwaited_regs c) _).trans (State.countErrs_rd _ (by decide)))).trans ho
  obtain ⟨w1, w2, w3, w4⟩ := State.unwaited_seq (s := s.countErrs e) c
  have ww := State.unwaited_wait (s := s.countErrs e) c
  rw [State.countErrs_ringSt] at w1 w2 w3 ww
  have hq' : ((s.countErrs e).unwaited c).seqFree = true := (State.seqFree_congr w3 w1 (w4.trans (State.countErrs_mono _))).trans hq
  rw [State.sendCmd_launches ho' (w2.trans hh) hq']
  generalize (s.countErrs e).unwaited c = u at w1 ww ⊢
  obtain ⟨_, l2, _, l4⟩ := State.launchCmd_spec (s := u) { c with second := true }
  have hr' : ({ c with second := true } : RingCmd).replies = true := hr
  rw [if_pos hr', w1, ww] at l4
  exact ⟨l4, l2.trans (by rw [w1])⟩

theorem State.crcFault_spec (c : RingCmd) (e : PortErrs) : (s.crcFault c e).rd (pageFld 0x18 0x02C 0 16) = evCode 0x18 .ringCrc ∧
    (s.crcFault c e).bit (evtStatus 0x18) 6 = true ∧ (s.crcFault c e).ringSt = s.ringSt := by
  unfold State.crcFault
  refine ⟨State.rd_lastingW .., ?_, ?_⟩
  · have h : OnlyFields [pageFld 0x18 0x02C 0 16, pageFld 0x18 0x02C 16 8] (s.raise 0x18 6) ((s.raise 0x18 6).lastingW 0x18 .ringCrc [c.node, s.faultPorts c e]) :=
      OnlyFields.refl.lastingW (by decide) (by decide)
    exact (State.bit_rd (h.rd (by decide)) 6).trans (s.bit_raise (page := 0x18) (by decide))
  · exact (show _ = (s.raise 0x18 6).ringSt from rfl).trans (State.raise_ringSt ..)

theorem State.noAnswer_ident {c : RingCmd} (h : c.cmd = 2) (s : State) : s.noAnswer c = s := by
  unfold State.noAnswer
  rw [h]
  rfl

/-! ## A keepalive that returns -/

/-- The runs of keepalives after one that returned from every node. -/
def State.returnCounted (s : State) : State :=
  let both := s.nodes.all fun n => s.ringSt.down.testBit n && s.ringSt.up.testBit n
  let silent := s.nodes.any fun n => !s.answering.contains n
  s.modRing fun r => { r with failRun := 0, goodRun := if both then min 3 (r.goodRun + 1) else 0, silentRun := if silent then r.silentRun + 1 else 0 }

/-- What a keepalive that returned leaves before the ring's state is judged. -/
def State.keepaliveBack (s : State) (answers : NopAnswers) (errs : PortErrs) : State :=
  ((s.countErrs errs).takeAnswers answers.down.toNat answers.up.toNat).returnCounted

theorem State.returnCounted_spec : s.returnCounted.ringSt.failRun = 0 ∧ s.returnCounted.rd F.RING_STATUS_STATE = s.rd F.RING_STATUS_STATE ∧
    s.returnCounted.ringSt.nopOut = s.ringSt.nopOut ∧ s.returnCounted.ringSt.down = s.ringSt.down ∧ s.returnCounted.ringSt.up = s.ringSt.up :=
  ⟨rfl, State.rd_regs (State.mk_regs ..) _, rfl, rfl, rfl⟩

/-- No node is silent where every one answers. -/
theorem State.returnCounted_silent (h : ∀ n ∈ s.nodes, (s.ringSt.down.testBit n || s.ringSt.up.testBit n) = true) : s.returnCounted.ringSt.silentRun = 0 := by
  have hs : (s.nodes.any fun n => !s.answering.contains n) = false := by
    rw [List.any_eq_false]
    intro n hn
    have : n ∈ s.answering := List.mem_filter.2 ⟨hn, h n hn⟩
    simp [this]
  change (if (s.nodes.any fun n => !s.answering.contains n) = true then s.ringSt.silentRun + 1 else 0) = 0
  rw [hs]
  rfl

theorem State.keepaliveBack_spec {answers : NopAnswers} {errs : PortErrs} (h3 : s.rd F.RING_STATUS_STATE = 3) (hn : s.nodes ≠ [])
    (ha : ∀ n ∈ s.nodes, answers.down.toNat.testBit n = true ∧ answers.up.toNat.testBit n = true) :
    (s.keepaliveBack answers errs).ringSt.failRun = 0 ∧ (s.keepaliveBack answers errs).rd F.RING_STATUS_STATE = 3 ∧
    (s.keepaliveBack answers errs).ringSt.nopOut = false ∧ (s.keepaliveBack answers errs).ringSt.down = answers.down.toNat ∧
    (s.keepaliveBack answers errs).ringSt.up = answers.up.toNat ∧ (s.keepaliveBack answers errs).ringSt.silentRun = 0 := by
  have c3 : (s.countErrs errs).rd F.RING_STATUS_STATE = 3 := (State.countErrs_rd errs (by decide)).trans h3
  have cn : (s.countErrs errs).nodes = s.nodes := State.nodes_rd (State.countErrs_rd errs (by decide))
  obtain ⟨n, hmem⟩ := List.exists_mem_of_ne_nil _ hn
  obtain ⟨h1, h2, h4, _, h6, h7⟩ := State.takeAnswers_spec c3 (down := answers.down.toNat) (up := answers.up.toNat) (n := n)
    (by rw [cn]; exact hmem) (by rw [(ha n hmem).1]; rfl)
  obtain ⟨f1, f2, f3, f4, f5⟩ := State.returnCounted_spec (s := (s.countErrs errs).takeAnswers answers.down.toNat answers.up.toNat)
  have f6 := State.returnCounted_silent (s := (s.countErrs errs).takeAnswers answers.down.toNat answers.up.toNat) fun m hm => by
    rw [h7, cn] at hm
    rw [h2, (ha m hm).1]
    rfl
  rw [State.keepaliveBack]
  exact ⟨f1, f2.trans h6, f3.trans h1, f4.trans h2, f5.trans h4, f6⟩

theorem exec_keepaliveReturn {answers : NopAnswers} {ns : BitVec 16} {errs : PortErrs} (ho : s.ringSt.nopOut = true)
    (h3 : (s.keepaliveBack answers errs).rd F.RING_STATUS_STATE = 3) (hs : (s.keepaliveBack answers errs).ringSt.silentRun = 0) :
    exec (.keepaliveReturn answers ns errs) s = .next ((s.keepaliveBack answers errs).wr F.RING_TIME_LOOP_NS ns.toNat).afterKeepalive := by
  change execKeepaliveReturn answers ns errs s = _
  unfold execKeepaliveReturn
  rw [if_neg (by simp [State.countErrs_ringSt, ho])]
  extract_lets v both silent w st x y z
  have hw : w = s.keepaliveBack answers errs := rfl
  have hx : x = w := by
    unfold x
    rw [if_neg (by simp [st, hw, h3])]
  have hy : y = w.wr F.RING_TIME_LOOP_NS ns.toNat := by
    unfold y
    rw [hx, if_pos (by simp [hw, h3])]
  have hz : z = y := by
    unfold z
    rw [if_neg (by rw [hy, State.wr_ringSt, hw, hs]; simp)]
  rw [hz, hy, hw]

theorem exec_ringSeqRelease {c : RingCmd} {l : List RingCmd} (hh : s.ringSt.held = c :: l) (hf : s.seqFree = true) :
    exec .ringSeqRelease s = .next ((s.modRing fun r => { r with held := l }).launchCmd c) := by
  change execRingSeqRelease s = _
  unfold execRingSeqRelease
  simp only [hh, hf]
  rfl

theorem exec_keepalive (h2 : 2 ≤ s.rd F.RING_STATUS_STATE) : exec .keepalive s = .next ((s.ringCmd broadcast 0x50).modRing fun r => { r with nopOut := true }) :=
  if_pos h2

end Exchange

/-- Settles O24: a reply or a timeout finds its command and takes it out of those that wait; what each command does is said once. -/
theorem ringExchanges : Obligations.RingExchanges := by
  unfold Obligations.RingExchanges
  refine ⟨?_, ?_, ?_, ?_, ?_, ?_, ?_, ?_⟩
  · intro n seq data c s hf h2 h3
    obtain ⟨cn, cc⟩ := found_cmd hf
    refine .of_eq (exec_ringReply_found hf h2) rfl ?_
    generalize hu : (s.countErrs data.errs).unwaited c = u
    have hw : u.ringSt.wait = s.ringSt.wait.filter fun x => !(x.node == c.node && x.cmd == c.cmd && x.seq == c.seq) := by
      rw [← hu, State.unwaited_wait, State.countErrs_ringSt]
    have hs : u.ringSt.stage = s.ringSt.stage := by
      rw [← hu, State.unwaited_stage, State.countErrs_ringSt]
    have he : u.actReply c (0 : BitVec 4).toNat data.payload = (u.identShown n.val data.payload).identNoted n.val (beAt data.payload 0 1 == 0x16) := by
      rw [State.actReply_ident cc, cn, State.takeIdent_eq]
    obtain ⟨i1, i2, i3⟩ := State.identNoted_spec (s := u.identShown n.val data.payload) n.val (beAt data.payload 0 1 == 0x16)
    obtain ⟨d1, d2, d3⟩ := State.identShown_spec (s := u) (n := n.val) (p := data.payload)
    have hst : ((u.identShown n.val data.payload).identNoted n.val (beAt data.payload 0 1 == 0x16)).ringSt.stage = s.ringSt.stage := i2.trans hs
    rw [he, State.afterExchange_other (by rw [hst, cc]; exact stageCode_ident h3)]
    exact ⟨(i3.rd (identFld_apart n.val 0 8)).trans d1, (i3.rd (identFld_apart n.val 8 5)).trans d2, (i3.rd (identFld_apart n.val 16 16)).trans d3, i1.trans hw⟩
  · intro n seq status data c s hf h2 hst
    obtain ⟨cn, cc⟩ := found_cmd hf
    refine .of_eq (exec_ringReply_found hf h2) rfl ?_
    have hc : OnlyFields [F.NODE_NSTAT_CAUSE n.val, ⟨A.RING_ERRA, 0, 32⟩, ⟨A.RING_ERRB, 0, 32⟩] s ((s.countErrs data.errs).unwaited c) :=
      ((State.countErrs_fields data.errs).mono fun f hm => List.mem_cons_of_mem _ hm).upd (State.unwaited_regs c)
    have hcr : ((s.countErrs data.errs).unwaited c).crown = s.crown := by rw [State.unwaited_crown, State.countErrs_crown]
    generalize hu : (s.countErrs data.errs).unwaited c = u at hc hcr
    have hw : u.ringSt.wait = s.ringSt.wait.filter fun x => !(x.node == c.node && x.cmd == c.cmd && x.seq == c.seq) := by
      rw [← hu, State.unwaited_wait, State.countErrs_ringSt]
    have hk : status.toNat = 0 ∨ status.toNat = 3 := hst.imp (congrArg BitVec.toNat) (congrArg BitVec.toNat)
    rw [State.actReply_clear cc hk, cn, State.afterExchange_other (by rw [cc]; exact stageCode_clear _)]
    obtain ⟨c1, c2, c3, c4⟩ := State.clearReply_spec (s := u) n.val (beAt data.payload 0 1)
    exact ⟨c1, by rw [c2, hcr], by rw [c3, hw, cn], hc.trans (c4.mono fun f hm => by rw [List.mem_singleton.1 hm]; exact List.mem_cons_self)⟩
  · intro n seq data s ho hf
    refine .of_eq (exec_ringReply_none ho hf) rfl ?_
    have hc : OnlyFields [F.RING_STATUS_CONFLICT, evtStatus 0x18, ⟨A.RING_ERRA, 0, 32⟩, ⟨A.RING_ERRB, 0, 32⟩] s (s.countErrs data.errs) :=
      (State.countErrs_fields data.errs).mono (by decide)
    generalize s.countErrs data.errs = u at hc
    refine ⟨?_, State.bit_raise _ (by decide), (hc.wrB _ (by decide) (by decide)).raise _ (by decide)⟩
    rw [State.conflict, State.rd_raise _ _ _ _ (by decide), State.rd_wrB _ _ _ (by decide) (by decide)]
    rfl
  · intro n cmd seq ea eb c s hf h2 hr ho hh hq
    obtain ⟨h1, h3⟩ := State.asksAgain hr ho hh hq (e := ⟨ea, eb⟩) (c := c)
    exact .of_eq (exec_ringReplyTimeout_first hf h2) rfl ⟨h1, h3⟩
  · intro n seq ea eb c s hf h2 h3
    obtain ⟨_, cc⟩ := found_cmd hf
    refine .of_eq (exec_ringReplyTimeout_second hf h2) rfl ?_
    generalize hu : (s.countErrs ⟨ea, eb⟩).unwaited c = u
    have hw : u.ringSt.wait = s.ringSt.wait.filter fun x => !(x.node == c.node && x.cmd == c.cmd && x.seq == c.seq) := by
      rw [← hu, State.unwaited_wait, State.countErrs_ringSt]
    have hs : u.ringSt.stage = s.ringSt.stage := by
      rw [← hu, State.unwaited_stage, State.countErrs_ringSt]
    obtain ⟨f1, f2, f3⟩ := State.crcFault_spec (s := u) c ⟨ea, eb⟩
    rw [State.noAnswer_ident cc, State.afterExchange_other (by rw [f3, hs, cc]; exact stageCode_ident h3)]
    exact ⟨f1, f2, by rw [f3, hw]⟩
  · intro s hh hq
    obtain ⟨c, l, hl⟩ := List.exists_cons_of_ne_nil hh
    obtain ⟨l1, l2, l3, _⟩ := State.launchCmd_spec (s := s.modRing fun r => { r with held := l }) c
    refine .of_eq (exec_ringSeqRelease hl hq) rfl ⟨l3.trans ?_, l2, l1⟩
    rw [hl]
    rfl
  · intro s h2
    exact .of_eq (exec_keepalive h2) rfl ⟨rfl, (s.ringCmd_ring broadcast 0x50 []).regs (by decide)⟩
  · intro answers ns errs s ho h3 hn ha
    obtain ⟨m1, m2, m3, m4, m5, m6⟩ := State.keepaliveBack_spec (errs := errs) h3 hn ha
    have hk := State.afterKeepalive_same ((s.keepaliveBack answers errs).wr F.RING_TIME_LOOP_NS ns.toNat)
    obtain ⟨a1, a2, a3, a4⟩ := State.nopView_eq hk.1
    rw [State.wr_ringSt] at a1 a2 a3 a4
    refine .of_eq (exec_keepaliveReturn ho m2 m6) rfl ⟨(hk.rd (by decide)).trans ?_, (hk.rd (by decide)).trans ?_, a1.trans m3, a2.trans m4, a3.trans m5, a4.trans m1⟩
    · rw [State.rd_wr_apart _ _ _ _ (by decide) (by decide), m2]
    · rw [State.rd_wr _ _ _ (by decide)]
      exact Nat.mod_eq_of_lt ns.isLt

end Sys2Proof.Machine
end

section
/-!
O28: the frames of a harvest. Frames taken in, copies that fail, nodes asked again, and the close.
-/
set_option Elab.async false
namespace Sys2Proof.Machine
open Sys2Proof

section Frames
variable {s t u : State}

/-! ## What the operations of a close leave

The harvests in progress, and what the close shows of its record.
-/

/-- The harvests in progress. -/
def State.opened (s : State) : List Capture := s.harv.captures

/-- The record's number, kind and completeness, and the count of missed harvests. -/
def closeFlds : List Fld := [F.HARVEST_SEQ_HSEQ, F.HARVEST_STATUS_LAST_KIND, F.HARVEST_STATUS_PARTIAL, F.HARVEST_STAT_MISSED]

theorem closeFlds_addr : ∀ g ∈ closeFlds, g.addr = 0x19050 ∨ g.addr = 0x1900C ∨ g.addr = 0x19060 := by decide

/-- A field of a word that shows nothing of a close. -/
theorem apart_close {f : Fld} (h : f.addr ≠ 0x19050 ∧ f.addr ≠ 0x1900C ∧ f.addr ≠ 0x19060) : ∀ g ∈ closeFlds, f.apart g := fun g hg => by
  obtain ⟨h1, h2, h3⟩ := h
  refine .inl fun he => ?_
  rw [he] at h1 h2 h3
  rcases closeFlds_addr g hg with h | h | h
  · exact h1 h
  · exact h2 h
  · exact h3 h

theorem opened_within {T : List Part} (h : Within T s t) (hT : Part.harv ∉ T) : t.opened = s.opened := by rw [State.opened, State.opened, h.harv hT]

theorem Same.closeWr (h : Same closeFlds State.opened s t) {f : Fld} {n : Nat} (hf : f.fits) (ha : ∀ g ∈ closeFlds, f.apart g) :
    Same closeFlds State.opened s (t.wr f n) := h.wr hf ha rfl

theorem Same.closeRaise (h : Same closeFlds State.opened s t) {page bit : Nat} (ha : ∀ g ∈ closeFlds, (evtStatus page).apart g) :
    Same closeFlds State.opened s (t.raise page bit) := h.raise ha (by rw [State.opened, State.raise_harv, State.opened])

theorem Same.closeLastingW (h : Same closeFlds State.opened s t) {page : Nat} {ev : Ev} {data : List Int} {same : Bool}
    (h1 : ∀ g ∈ closeFlds, (pageFld page 0x02C 0 16).apart g) (h2 : ∀ g ∈ closeFlds, (pageFld page 0x02C 16 8).apart g) :
    Same closeFlds State.opened s (t.lastingW page ev data same) :=
  have hw : Same closeFlds State.opened s (t.lasting page (evCode page ev)) := (h.closeWr (Nat.le_of_ble_eq_true rfl) h1).closeWr (Nat.le_of_ble_eq_true rfl) h2
  hw.upd (by rw [State.lastingW, State.opened, State.record_harv, State.opened]) (State.record_regs ..)

theorem sameClose_within {T : List Part} (h : Within T s t) (hT : Part.harv ∉ T) (hr : Part.regs ∉ T) : Same closeFlds State.opened s t :=
  .of_regs (opened_within h hT) (h.regs hr)

variable (s)

theorem State.crcLasting_close (n ports : Nat) : Same closeFlds State.opened s (s.crcLasting n ports) :=
  (Same.refl.closeRaise (by decide)).closeLastingW (by decide) (by decide)

theorem State.push_close {q : Nat} (bytes : List Byte) (used : Bool) (hq : q < 128) : Same closeFlds State.opened s (s.push q bytes used).1 :=
  .of_pages (s.push_pages bytes used hq) (opened_within (State.push_within (T := [.regs, .q91, .rk, .scan, .eng]) (by decide) (by decide) (by decide)
    (by decide) (by decide) .rfl) (by decide)) (by decide)

theorem State.replan_close : Same closeFlds State.opened s s.replan :=
  .of_pages s.replan_pages (by rw [State.opened, State.replan_harv, State.opened]) (by decide)

theorem State.ringCmd_close (n cmd : Nat) (p : List Byte) : Same closeFlds State.opened s (s.ringCmd n cmd p) :=
  .of_regs (opened_within (s.ringCmd_ring n cmd p) (by decide)) ((s.ringCmd_ring n cmd p).regs (by decide))

theorem State.judgePeriod_close : Same closeFlds State.opened s s.judgePeriod := by
  unfold State.judgePeriod
  extract_lets near all within u h
  refine .ite ?_ (.ite (.ite ?_ (.ite ?_ ?_)) .refl)
  · have hu : Same closeFlds State.opened s u := .ite .refl ((Same.refl.closeWr (by decide) (by decide)).closeRaise (by decide))
    clear_value u
    exact hu.trans (.of_regs rfl rfl)
  · exact .of_regs rfl rfl
  · exact (Same.refl.closeWr (f := F.HARVEST_STATUS_FAST_T) (n := 0) (by decide) (by decide)).trans (.of_regs rfl rfl)
  · exact .of_regs rfl rfl

theorem tempFld_apart (i : Nat) : (pairFld F.NODE_TEMP_ENTRY_LO F.NODE_TEMP_ENTRY_HI i).fits ∧
    ∀ g ∈ closeFlds, (pairFld F.NODE_TEMP_ENTRY_LO F.NODE_TEMP_ENTRY_HI i).apart g := by
  unfold pairFld
  split
  all_goals exact ⟨Nat.le_of_ble_eq_true rfl, apart_close ⟨by simp only [ne_eq]; omega, by simp only [ne_eq]; omega, by simp only [ne_eq]; omega⟩⟩

theorem cellvFld_apart (lo hi : Nat → Fld) (b i : Nat) (hb : 0x1A000 ≤ b) (hl : ∀ n, (lo n).fits ∧ (lo n).addr = b + 4 * n)
    (hh : ∀ n, (hi n).fits ∧ (hi n).addr = b + 4 * n) : (pairFld lo hi i).fits ∧ ∀ g ∈ closeFlds, (pairFld lo hi i).apart g := by
  have h : (pairFld lo hi i).fits ∧ (pairFld lo hi i).addr = b + 4 * (i / 2) := by
    unfold pairFld
    split
    · exact hl _
    · exact hh _
  exact ⟨h.1, apart_close (by rw [h.2]; omega)⟩

theorem State.takeTemps_close (c : Capture) : Same closeFlds State.opened s (s.takeTemps c) := by
  unfold State.takeTemps
  extract_lets hot before v w
  have hv : Same closeFlds State.opened s v := Same.refl.foldl _ fun u n _ => Same.refl.foldl _ fun x y _ =>
    Same.refl.closeWr (tempFld_apart _).1 (tempFld_apart _).2
  have hw : Same closeFlds State.opened s w := hv.trans v.judgePeriod_close
  clear_value w
  exact .ite (hw.trans w.replan_close) hw

theorem State.showCells_close (r : Record) (c : Capture) : Same closeFlds State.opened s (s.showCells r c) := by
  have hv := fun i => cellvFld_apart F.CELLV_V_CELL_LO F.CELLV_V_CELL_HI 0x1A080 i (by decide) (fun _ => ⟨Nat.le_of_ble_eq_true rfl, rfl⟩)
    (fun _ => ⟨Nat.le_of_ble_eq_true rfl, rfl⟩)
  have hs := fun i => cellvFld_apart F.CELLV_STACK_NODE_LO F.CELLV_STACK_NODE_HI 0x1A480 i (by decide) (fun _ => ⟨Nat.le_of_ble_eq_true rfl, rfl⟩)
    (fun _ => ⟨Nat.le_of_ble_eq_true rfl, rfl⟩)
  unfold State.showCells
  refine .ite .refl ?_
  extract_lets v w x
  have h1 : Same closeFlds State.opened s v := Same.refl.foldl _ fun u y _ => Same.refl.closeWr (hv _).1 (hv _).2
  have h2 : Same closeFlds State.opened s w := h1.foldl _ fun u y _ => Same.refl.closeWr (hs _).1 (hs _).2
  clear_value w
  have h3 : Same closeFlds State.opened s x := (((h2.closeWr (by decide) (by decide)).closeWr (by decide) (by decide)).closeWr (by decide) (by decide)).closeWr
    (by decide) (by decide)
  clear_value x
  exact h3.closeRaise (by decide)

theorem State.judgeSuspension_close (c : Capture) : Same closeFlds State.opened s (s.judgeSuspension c) := by
  refine Same.refl.foldl _ fun u n _ => .ite .refl ?_
  extract_lets first b v
  refine .ite (.ite .refl (.ite ?_ (.of_regs rfl rfl))) (.ite ?_ .refl)
  · have hv : Same closeFlds State.opened u v := .trans (.of_regs rfl rfl) (State.ringCmd_close _ n 0x10 _)
    clear_value v
    exact ((hv.closeWr (by decide) (by decide)).closeRaise (by decide)).closeLastingW (by decide) (by decide)
  · have hb : ∀ b : Bal, Same closeFlds State.opened u { u with bal := b } := fun b => .of_regs rfl rfl
    exact ((hb _).closeWr (by decide) (by decide)).upd rfl (State.record_regs ..)

/-! ## The stages of a close -/

/-- The nodes that are lost shown, and which nodes are missing. -/
def State.lossShown (s : State) (c : Capture) : State :=
  let u := ((s.missing c).filter fun n => c.asked.contains n || c.failed.any (·.1 / 2 == n)).foldl (fun u n => u.crcLasting n (failedPorts c.failed n)) s
  u.nodes.foldl (fun u n => u.wrB (F.NODE_NSTAT_MISSING n) ((s.missing c).contains n)) u

/-- The capture taken out of those in progress. -/
def State.captureOut (s : State) (c : Capture) : State :=
  { s with harv := { s.harv with captures := s.harv.captures.filter fun x => !(x.kind == c.kind && x.seq == c.seq) } }

theorem nstatFld_apart (n lo w : Nat) : ∀ g ∈ closeFlds, (⟨0x1B400 + 0x4 * n, lo, w⟩ : Fld).apart g :=
  apart_close ⟨by simp only [ne_eq]; omega, by simp only [ne_eq]; omega, by simp only [ne_eq]; omega⟩

theorem State.lossShown_close (c : Capture) : Same closeFlds State.opened s (s.lossShown c) :=
  (Same.refl.foldl _ fun u n _ => u.crcLasting_close n _).foldl _ fun _ n _ =>
    Same.refl.closeWr (f := F.NODE_NSTAT_MISSING n) (Nat.le_of_ble_eq_true rfl) (nstatFld_apart n 10 1)

variable {s}

/-- The record of a close shown. -/
def State.recordShown (s : State) (c : Capture) (whole : Bool) : State :=
  ((s.wr F.HARVEST_STATUS_LAST_KIND c.kind).wrB F.HARVEST_STATUS_PARTIAL (!whole)).wr F.HARVEST_SEQ_HSEQ c.hseq

theorem State.recordShown_spec (c : Capture) (whole : Bool) : (s.recordShown c whole).opened = s.opened ∧
    (s.recordShown c whole).rd F.HARVEST_SEQ_HSEQ = c.hseq % 2 ^ 32 ∧
    (s.recordShown c whole).rd F.HARVEST_STATUS_LAST_KIND = c.kind % 2 ^ F.HARVEST_STATUS_LAST_KIND.width ∧
    (s.recordShown c whole).rd F.HARVEST_STATUS_PARTIAL = if whole then 0 else 1 := by
  refine ⟨rfl, State.rd_wr _ _ _ (by decide), ?_, ?_⟩
  · refine (State.rd_wr_apart _ _ _ _ (by decide) (by decide)).trans ((State.rd_wrB_apart _ _ _ _ (by decide) (by decide)).trans ?_)
    exact State.rd_wr _ _ _ (by decide)
  · refine (State.rd_wr_apart _ _ _ _ (by decide) (by decide)).trans ((State.rd_wrB _ _ _ (by decide) (by decide)).trans ?_)
    cases whole <;> rfl

/-- What a close keeps of its record once it is shown: the counts, its check, and an impedance run's record. -/
def State.recordKept (s : State) (c : Capture) (r : Record) (whole taken : Bool) : State :=
  let s := s.wr F.HARVEST_APER_NS c.ns
  let s := if whole then (if c.resent then s.bump F.HARVEST_STAT2_RESENT else s) else (s.bump F.HARVEST_STAT_PARTIAL_CNT).raise 0x19 1
  let s := if s.nodes.any fun n => c.flags n / 2 % 2 == 1 then s.raise 0x19 4 else s
  let s := if taken then { s.raise 0x19 0 with harv := { s.harv with checks := s.harv.checks ++ [r] } }
    else { (s.bump F.HARVEST_STAT2_DROPPED).raise 0x19 5 with imp := { s.imp with bad := s.imp.bad || (c.imped && c.kind != 2) } }
  let s := { s with harv := { (s.keepRecord r).harv with checks := s.harv.checks } }
  if taken && c.imped && (c.kind == 0 || c.kind == 3) then { s with imp := { s.imp with recs := s.imp.recs ++ [{ r := r, unsusp := s.nodes.filter fun n => c.flags n / 2 % 2 == 1, done := [] }] } } else s

theorem State.recordKept_close (c : Capture) (r : Record) (whole taken : Bool) : Same closeFlds State.opened s (s.recordKept c r whole taken) := by
  have same : ∀ v : State, ∀ h : Harvest, ∀ i : Imped, h.captures = v.harv.captures → Same closeFlds State.opened v { v with harv := h, imp := i } :=
    fun v h i hh => .of_regs hh rfl
  unfold State.recordKept
  extract_lets x2 x3 x4 y k z i x5 h6 x6
  have h2 : Same closeFlds State.opened s x2 := Same.refl.closeWr (by decide) (by decide)
  clear_value x2
  have h3 : Same closeFlds State.opened s x3 := .ite (.ite (h2.closeWr (by decide) (by decide)) h2) ((h2.closeWr (by decide) (by decide)).closeRaise (by decide))
  clear_value x3
  have h4 : Same closeFlds State.opened s x4 := .ite (h3.closeRaise (by decide)) h3
  clear_value x4
  have hy : Same closeFlds State.opened s y := h4.closeRaise (by decide)
  have hz : Same closeFlds State.opened s z := (h4.closeWr (by decide) (by decide)).closeRaise (by decide)
  have hyk : y.opened = k.captures := (show y.opened = y.harv.captures from rfl).trans (congrArg Harvest.captures (State.raise_harv ..))
  clear_value y z
  have h5 : Same closeFlds State.opened s x5 := .ite (hy.trans (same _ _ _ hyk.symm)) (hz.trans (same _ _ _ rfl))
  clear_value x5
  have h6' : Same closeFlds State.opened s x6 := h5.trans (same _ _ _ rfl)
  clear_value x6
  exact .ite (h6'.trans (same _ _ _ rfl)) h6'

/-- What a close does with its record at last: the temperatures taken, or the cells shown and judged. -/
def State.recordUsed (s : State) (c : Capture) (r : Record) : State := if c.kind = 2 then s.takeTemps c else (s.showCells r c).judgeSuspension c

theorem State.recordUsed_close (c : Capture) (r : Record) : Same closeFlds State.opened s (s.recordUsed c r) :=
  .ite (State.takeTemps_close _ c) ((State.showCells_close _ r c).trans (State.judgeSuspension_close _ c))

theorem exec_harvestClose {tag : HarvestTag} {c : Capture} (h : s.capture tag.kind.val tag.seq.val = some c) (hg : c.got ≠ []) :
    ∃ u t : State, u.opened = ((s.lossShown c).captureOut c).opened ∧ exec (.harvestClose tag) s = .next t ∧
      Same closeFlds State.opened (u.recordShown c (s.missing c).isEmpty) t := by
  have hpush : ∀ (d : State) (b : List Byte), ∀ q < 128, Same closeFlds State.opened d ((d.digest c).push q b false).1 := fun d b q hq =>
    .trans (sameClose_within (State.digest_within (T := [.out, .pair]) (by decide) (by decide) .rfl) (by decide) (by decide)) (State.push_close _ _ _ hq)
  have hx : ∃ (q : Nat) (b : List Byte) (r : Record), q < 128 ∧ exec (.harvestClose tag) s = .next
      ((((((((s.lossShown c).captureOut c).digest c).push q b false).1.recordShown c (s.missing c).isEmpty).recordKept c r (s.missing c).isEmpty
        ((((s.lossShown c).captureOut c).digest c).push q b false).2)).recordUsed c r) := by
    change ∃ _ _ _, _ ∧ execHarvestClose tag s = _
    unfold execHarvestClose
    split
    · rename_i hn
      cases hn.symm.trans h
    rename_i c' hc
    obtain rfl := Option.some.inj (hc.symm.trans h)
    rw [if_neg (by simp [hg])]
    refine ⟨_, _, _, ?_, apply_ite Host.Outcome.next .. |>.symm⟩
    split <;> decide
  obtain ⟨q, b, r, hq, hx⟩ := hx
  refine ⟨_, _, (hpush _ b q hq).1, hx, Same.trans ?_ (State.recordUsed_close c r)⟩
  exact State.recordKept_close ..

theorem exec_harvestClose_empty {tag : HarvestTag} {c : Capture} (h : s.capture tag.kind.val tag.seq.val = some c) (hg : c.got = []) :
    exec (.harvestClose tag) s = .next ((s.lossShown c).captureOut c).missSlot := by
  change execHarvestClose tag s = _
  unfold execHarvestClose
  split
  · rename_i hn
    rw [hn] at h
    cases h
  · rename_i c' hc
    obtain rfl := Option.some.inj (hc.symm.trans h)
    extract_lets miss lost a b bytes e d q eseq r
    exact if_pos (by simp [hg])

theorem State.captureOut_opened (c : Capture) : (s.captureOut c).opened = s.opened.filter fun x => !(x.kind == c.kind && x.seq == c.seq) := rfl

/-! ## Frames and the deadline -/

theorem State.setCapture_captures (c : Capture) : (s.setCapture c).harv.captures = s.harv.captures.map fun x => if x.kind = c.kind ∧ x.seq = c.seq then c else x := rfl

/-- The flag of a frame shown, its count error cleared. -/
def State.frameShown (s : State) (n : Nat) (b : Bool) : State := (s.wrB (F.NODE_NSTAT_UNSUSPENDED n) b).wrB (F.NODE_NSTAT_COUNT_ERR n) false

theorem State.frameShown_spec (n : Nat) (b : Bool) : (s.frameShown n b).rd (F.NODE_NSTAT_UNSUSPENDED n) = (if b then 1 else 0) ∧
    (s.frameShown n b).rd (F.NODE_NSTAT_COUNT_ERR n) = 0 ∧ (s.frameShown n b).harv = s.harv := by
  have h1 : (F.NODE_NSTAT_UNSUSPENDED n).fits := Nat.le_of_ble_eq_true rfl
  have h2 : (F.NODE_NSTAT_COUNT_ERR n).fits := Nat.le_of_ble_eq_true rfl
  refine ⟨?_, State.rd_wrB _ _ false h2 Nat.one_ne_zero, by rw [State.frameShown, State.wrB_harv, State.wrB_harv]⟩
  exact (State.rd_wrB_apart _ _ _ _ h2 (.inr (.inr (by decide : 9 + 1 ≤ 11)))).trans (State.rd_wrB _ _ b h1 Nat.one_ne_zero)

/-- A frame taken in: its capture has it, and its flags show. -/
theorem State.takeFrame_spec (c : Capture) (n key : Nat) (p : List Byte) : (s.takeFrame c n key p).harv.captures =
      (s.harv.captures.map fun x => if x.kind = c.kind ∧ x.seq = c.seq then
        { c with got := c.got ++ [(key, p)], failed := c.failed.filter (·.1 != key), resent := c.resent || c.asked.contains n } else x) ∧
    (s.takeFrame c n key p).rd (F.NODE_NSTAT_UNSUSPENDED n) = beAt p 1 1 / 2 % 2 ∧ (s.takeFrame c n key p).rd (F.NODE_NSTAT_COUNT_ERR n) = 0 := by
  obtain ⟨h1, h2, h3⟩ := State.frameShown_spec (s := s) n (beAt p 1 1 / 2 % 2 == 1)
  unfold State.takeFrame
  extract_lets fl u retry v
  have hu : u = s.frameShown n (beAt p 1 1 / 2 % 2 == 1) := rfl
  have hv : OnlyFields [pageFld 0x18 0x028 0 16] u v := .ite ((OnlyFields.refl.bump _ (by decide) (by decide)).upd (State.record_regs ..)) .refl
  have hh : v.harv = u.harv := by
    unfold v
    split
    · exact State.retryPass_harv ..
    · rfl
  have hp : ∀ lo w, (v.setCapture { c with got := c.got ++ [(key, p)], failed := c.failed.filter (·.1 != key), resent := c.resent || c.asked.contains n }).rd
      ⟨0x1B400 + 0x4 * n, lo, w⟩ = u.rd ⟨0x1B400 + 0x4 * n, lo, w⟩ := fun lo w => (State.rd_regs (State.mk_regs ..) _).trans (hv.rd (by
    intro f hf
    rw [List.mem_singleton.1 hf]
    exact .inl (by simp only [pageFld, ne_eq]; omega)))
  rw [← hu] at h1 h2 h3
  clear_value v u
  refine ⟨?_, (hp _ _).trans (h1.trans ?_), (hp _ _).trans h2⟩
  · rw [State.setCapture_captures, hh, h3]
  · rcases Nat.mod_two_eq_zero_or_one (beAt p 1 1 / 2) with h | h <;> rw [h] <;> rfl

end Frames

/-- The key of a node's frame: its V or its C half. -/
def dataKey (n : Nat) (cmd : BitVec 8) : Nat := 2 * n + if cmd = 0x81 then 1 else 0

section Frames
variable {s : State}

theorem exec_harvestData_ok {n : Fin 32} {cmd : BitVec 8} {seq : Fin 16} {port : Fin 2} {payload : List Byte} {c : Capture}
    (h : s.captureOf cmd.toNat seq.val (some (beAt payload 0 1)) = some c) (hn : n.val ∈ s.nodes) (hf : s.ringSt.foreign.testBit n.val = false)
    (hg : (c.got.any fun x => x.1 == dataKey n.val cmd) = false) (hw : beAt payload 2 1 = s.wantCount c.kind n.val) :
    exec (.harvestData n cmd seq port true payload) s = .next (s.takeFrame c n.val (dataKey n.val cmd) payload) := by
  change execHarvestData n cmd seq port true payload s = _
  unfold execHarvestData
  extract_lets u key
  split
  · rename_i hc
    cases hc.symm.trans h
  · rename_i c' hc
    obtain rfl := Option.some.inj (hc.symm.trans h)
    have hk : key = dataKey n.val cmd := rfl
    rw [if_neg (by simp [u, hn, hf, hk, hg]), if_neg (by decide), if_neg (by simp [u, hw]), hk]
    rfl

theorem exec_harvestData_fails {n : Fin 32} {cmd : BitVec 8} {seq : Fin 16} {port : Fin 2} {payload : List Byte} {c : Capture}
    (h : s.captureOf cmd.toNat seq.val none = some c) (hn : n.val ∈ s.nodes) (hf : s.ringSt.foreign.testBit n.val = false)
    (hg : (c.got.any fun x => x.1 == dataKey n.val cmd) = false) : ∃ u, OnlyFields [F.RING_ERRA_CRC_ERR, ⟨A.RING_ERRB, 0, 16⟩] s u ∧ u.harv = s.harv ∧
    exec (.harvestData n cmd seq port false payload) s = .next (u.frameFails c n.val (dataKey n.val cmd) port.val) := by
  have hu : ∀ u, u = s.bump (if port.val = 0 then F.RING_ERRA_CRC_ERR else ⟨A.RING_ERRB, 0, 16⟩) →
      OnlyFields [F.RING_ERRA_CRC_ERR, ⟨A.RING_ERRB, 0, 16⟩] s u ∧ u.harv = s.harv ∧ u.ringSt = s.ringSt := by
    rintro u rfl
    refine ⟨OnlyFields.refl.bump _ ?_ ?_, rfl, rfl⟩ <;> (split <;> decide)
  change ∃ u, _ ∧ _ ∧ execHarvestData n cmd seq port false payload s = _
  unfold execHarvestData
  extract_lets u key
  obtain ⟨h1, h2, h3⟩ := hu u rfl
  clear_value u
  have hnodes : u.nodes = s.nodes := State.nodes_rd (h1.rd (by decide))
  have hcap : u.captureOf cmd.toNat seq.val none = some c := by rw [State.captureOf, h2]; exact h
  split
  · rename_i hc
    cases hc.symm.trans hcap
  · rename_i c' hc
    obtain rfl := Option.some.inj (hc.symm.trans hcap)
    have hk : key = dataKey n.val cmd := rfl
    refine ⟨u, h1, h2, ?_⟩
    rw [if_neg (by simp [hnodes, hn, h3, hf, hk, hg]), if_pos (by decide)]
    rfl

theorem exec_harvestDataDeadline {tag : HarvestTag} {c : Capture} (h : s.capture tag.kind.val tag.seq.val = some c)
    (hd : c.at3 + dataDeadline c.kind + 30000 ≤ s.closeAt c) : exec (.harvestDataDeadline tag) s =
    .next ((((s.missing c).filter fun n => !s.ringSt.foreign.testBit n).filter fun n => !c.asked.contains n).foldl (fun s n => s.ringCmd n 0x06 [byte c.seq])
      (s.setCapture { c with asked := c.asked ++ ((s.missing c).filter fun n => !s.ringSt.foreign.testBit n).filter fun n => !c.asked.contains n })) := by
  change execHarvestDataDeadline tag s = _
  unfold execHarvestDataDeadline
  split
  · rename_i hc
    cases hc.symm.trans h
  · rename_i c' hc
    obtain rfl := Option.some.inj (hc.symm.trans h)
    exact if_pos hd

end Frames

/-- Settles O28: what a close does after it has shown its record keeps the captures and what it showed. -/
theorem harvestFrames : Obligations.HarvestFrames := by
  unfold Obligations.HarvestFrames
  refine ⟨?_, ?_, ?_, ?_, ?_⟩
  · intro n cmd seq port payload c s h hn hf hg hw
    exact .of_eq (exec_harvestData_ok h hn hf hg hw) rfl (State.takeFrame_spec c n.val (dataKey n.val cmd) payload)
  · intro n cmd seq port payload c s h hn hf hg hfail hask
    obtain ⟨u, h1, h2, hx⟩ := exec_harvestData_fails (port := port) (payload := payload) h hn hf hg
    refine .of_eq hx (if_neg (by rw [dataKey, hfail, hask]; decide)) ⟨?_, h1.upd (State.mk_regs ..)⟩
    rw [State.setCapture_captures, h2]
    rfl
  · intro tag c s h hd
    have hw : ∀ v : State, ∀ l : List Nat, Within [.out, .ringSt] v (l.foldl (fun s n => s.ringCmd n 0x06 [byte c.seq]) v) := fun v l =>
      within_foldl .rfl fun _ _ h => State.ringCmd_within (by decide) (by decide) h
    exact .of_eq (exec_harvestDataDeadline h hd) rfl ⟨congrArg Harvest.captures ((hw _ _).harv (by decide)), (hw _ _).regs (by decide)⟩
  · intro tag c s h hg
    obtain ⟨u, t, hu, hx, hs⟩ := exec_harvestClose h hg
    obtain ⟨r1, r2, r3, r4⟩ := State.recordShown_spec (s := u) c (s.missing c).isEmpty
    refine ⟨t, hx, ?_, (hs.rd (by decide)).trans r2, (hs.rd (by decide)).trans r3, (hs.rd (by decide)).trans r4⟩
    exact hs.1.trans (r1.trans (hu.trans (by rw [State.captureOut_opened, (s.lossShown_close c).1]; rfl)))
  · intro tag c s h hg
    obtain ⟨m1, _, m3, m4⟩ := State.missSlot_spec ((s.lossShown c).captureOut c)
    have hl := s.lossShown_close c
    have hr : ∀ g ∈ closeFlds, ((s.lossShown c).captureOut c).rd g = s.rd g := fun g hg => (State.rd_regs (State.mk_regs ..) _).trans (hl.rd hg)
    refine .of_eq (exec_harvestClose_empty h hg) rfl ⟨?_, ?_, ?_⟩
    · rw [m3]
      exact (State.captureOut_opened c).trans (by rw [hl.1]; rfl)
    · rw [m1, hr _ (by decide)]
    · rw [m4.rd (by decide), hr _ (by decide)]

end Sys2Proof.Machine
end

section
/-!
O10: the mode requests. What admits a request, and what each admitted one begins.
-/
set_option Elab.async false
namespace Sys2Proof.Machine
open Sys2Proof

section Requests
variable {s t u : State} {who : Initiator} {p : Partners}

/-! ## What admits a request -/

@[simp] theorem State.requestResult_result (s : State) (who w : Initiator) (a : Nat) (dst : Mode) (d : Bool) (p : Partners) :
    (s.result who a 0).requestResult w dst d p = s.requestResult w dst d p := by
  rw [State.result_ok]
  cases w <;> rfl

theorem State.requestResult_transport (hs : s.secureOf who = true) (hm : s.mode = .standby) (hu : s.underWay = false) (hc : s.inControl = true)
    (ho : s.allOpen = true) (h6 : s.fbClosed 6 = false) (hv : s.meas.vPlant < 50000) (hj : s.journalsDone = true) :
    s.requestResult who .transport false p = 0 := by
  have h1 : requestable .standby .transport = true := rfl
  simp [State.requestResult, hs, hm, hu, hc, ho, h6, hv, hj, h1]

theorem State.requestResult_standby (hm : s.mode = .run ∨ s.mode = .safe ∧ s.noSHButLoop = true) (hu : s.underWay = false) (hc : s.inControl = true) :
    s.requestResult who .standby false p = 0 := by
  have h1 : requestable .run .standby = true := rfl
  have h2 : requestable .safe .standby = true := rfl
  rcases hm with hm | ⟨hm, hl⟩
  · simp [State.requestResult, hm, hu, hc, h1]
  · simp [State.requestResult, hm, hu, hc, h2, hl]

theorem State.requestResult_connect (hm : s.mode = .standby) (hu : s.underWay = false) (hc : s.inControl = true) (hp : s.missingPartners p = [])
    (ha : s.startAllowed = true) : s.requestResult who .connect false p = 0 := by
  have h1 : requestable .standby .connect = true := rfl
  simp [State.requestResult, hm, hu, hc, hp, ha, h1]

theorem State.requestResult_run (hm : s.mode = .rest) (hu : s.underWay = false) (hc : s.inControl = true) (hp : s.missingPartners p = [])
    (ha : s.startAllowed = true) (hb : s.busHeld = true) (h1 : s.fbClosed 1 = true) (h2 : s.fbClosed 2 = true) :
    s.requestResult who .run false p = 0 := by
  have hr : requestable .rest .run = true := rfl
  simp [State.requestResult, hm, hu, hc, hp, ha, hb, h1, h2, hr]

theorem State.requestResult_service (hs : s.secureOf who = true) (hm : s.mode = .standby ∨ s.mode = .safe) (hu : s.underWay = false)
    (hc : s.inControl = true) (ho : s.allOpen = true) : s.requestResult who .service false p = 0 := by
  have h1 : requestable .standby .service = true := rfl
  have h2 : requestable .safe .service = true := rfl
  rcases hm with hm | hm
  · simp [State.requestResult, hs, hm, hu, hc, ho, h1]
  · simp [State.requestResult, hs, hm, hu, hc, ho, h2]

theorem State.requestResult_dormant (hm : s.mode = .standby) (hu : s.underWay = false) (hc : s.inControl = true) (hp : s.on F.PAIR_CFG_PAIRED = false) :
    s.requestResult who .standby true p = 0 := by
  simp [State.requestResult, hm, hu, hc, hp]

theorem State.requestResult_nonsecure (hs : s.secureOf who = false) : s.requestResult who .service false p = 4 := by
  simp [State.requestResult, hs]

theorem State.requestResult_hold (hm : s.mode = .hold) : s.requestResult who .rest false p = 5 := by
  have h1 : (Mode.rest == Mode.transport || Mode.rest == Mode.service) = false := rfl
  simp [State.requestResult, hm, h1]

theorem State.requestResult_busy (hm : s.mode ≠ .hold) (hu : s.underWay = true) : s.requestResult who .rest false p = 1 := by
  have h1 : (Mode.rest == Mode.transport || Mode.rest == Mode.service) = false := rfl
  simp [State.requestResult, hm, hu, h1]

/-! ## A request taken -/

/-- A request of CONNECT or RUN that is admitted, with no image armed for a reset. -/
theorem State.modeRequest_start {dst : Mode} (hc : s.requestResult who dst false p = 0) (hd : dst = .connect ∨ dst = .run) (ha : s.nvm.armed ≠ 1) :
    ∃ m, s.modeRequest who dst false p = ((s.wr F.CROWN_STATUS_MISSING m).wr F.CROWN_MODE_REQ_RESULT 0).takeRequest who dst false := by
  refine ⟨(s.missingPartners p).foldl (fun m k => m ||| 2 ^ (k - 1)) 0, ?_⟩
  have e1 : (Mode.connect == Mode.standby) = false := rfl
  have e2 : (Mode.run == Mode.standby) = false := rfl
  have e3 : (Mode.run == Mode.connect) = false := rfl
  rcases hd with rfl | rfl
  · simp [State.modeRequest, hc, ha, e1]
  · simp [State.modeRequest, hc, e2, e3]

/-- The exit from SAFE is begun with the result still open. -/
theorem State.modeRequest_safeExit (hc : s.requestResult who .standby false p = 0) (hm : s.mode = .safe) :
    s.modeRequest who .standby false p = s.safeExitBegin who := by
  have h1 : (Mode.standby == Mode.connect) = false := rfl
  have h2 : (Mode.standby == Mode.run) = false := rfl
  have h3 : s.takeRequest who .standby false = s.safeExitBegin who := by
    unfold State.takeRequest
    rw [hm]
  simp [State.modeRequest, hc, hm, h1, h2, h3]

theorem State.takeRequest_transport (hm : s.mode = .standby) :
    s.takeRequest who .transport false = if s.transportBegin.journalsDone then s.transportBegin.enterTransport else s.transportBegin := by
  unfold State.takeRequest
  rw [hm]

theorem State.takeRequest_disconnect (hm : s.mode = .run) : s.takeRequest who .standby false = s.disconnectBegin := by
  unfold State.takeRequest
  rw [hm]

theorem State.takeRequest_connect (hm : s.mode = .standby) : s.takeRequest who .connect false = s.startBegin := by
  unfold State.takeRequest
  rw [hm]

theorem State.takeRequest_run (hm : s.mode = .rest) : s.takeRequest who .run false = s.restToRun := by
  unfold State.takeRequest
  rw [hm]

theorem State.takeRequest_restBegin (hm : s.mode = .run) : s.takeRequest who .rest false = s.restBegin := by
  unfold State.takeRequest
  rw [hm]

theorem State.takeRequest_service (hm : s.mode = .standby ∨ s.mode = .safe) : s.takeRequest who .service false = (s.leaveBal.setMode .service).haltTasks := by
  unfold State.takeRequest
  rcases hm with hm | hm <;> rw [hm]

theorem State.takeRequest_dormant (hm : s.mode = .standby) : s.takeRequest who .standby true = s.enterDormant := by
  unfold State.takeRequest
  rw [hm]
  exact if_pos rfl

/-- A request refused shows its code, and the mode stays. -/
theorem State.modeRequest_refused {dst : Mode} {d : Bool} {c : Nat} (hc : s.requestResult who dst d p = c) (h0 : c ≠ 0) (hl : c < 16)
    (hd : dst ≠ .connect ∧ dst ≠ .run) : (s.modeRequest who dst d p).rd F.CROWN_MODE_REQ_RESULT = c ∧ (s.modeRequest who dst d p).mode = s.mode := by
  obtain ⟨h1, h2⟩ := hd
  have e1 : (dst == Mode.connect) = false := beq_eq_false_iff_ne.2 h1
  have e2 : (dst == Mode.run) = false := beq_eq_false_iff_ne.2 h2
  unfold State.modeRequest
  extract_lets code v w x y
  have hx : x = w := by
    unfold x
    rw [if_neg (by simp [e1, e2])]
  have hv : v.mode = s.mode := by
    unfold v
    split
    · exact State.mode_of_rdIs (State.crossWorld_mode rfl)
    · rfl
  have hw : w.mode = s.mode := by
    unfold w
    split
    · exact hv
    · exact hv
  rw [hx, if_pos (by simp [code, hc, h0])]
  refine ⟨(State.rd_wr _ _ _ (by decide)).trans ?_, (State.mode_reqResult _ _).trans hw⟩
  rw [show code = c from hc]
  exact Nat.mod_eq_of_lt hl

/-! ## What the requests begin -/

variable (s)

theorem State.haltTasks_fields : OnlyFields [F.IMAGE_DO_DO] s s.haltTasks := by
  unfold State.haltTasks
  generalize List.range 4 = l
  suffices h : ∀ u, OnlyFields [F.IMAGE_DO_DO] s u → OnlyFields [F.IMAGE_DO_DO] s (l.foldl (fun (s : State) t =>
      if (s.task t).busy then s.setTask t { s.task t with stopping := true } else s.taskOff t) u) from h s .refl
  induction l with
  | nil => exact fun _ h => h
  | cons n l ih =>
    intro u hu
    refine ih _ (.ite (hu.upd rfl) ?_)
    unfold State.taskOff
    extract_lets m w e v
    have hv : OnlyFields [F.IMAGE_DO_DO] s v := hu.upd rfl
    clear_value v
    exact hv.wr _ (by decide) (by decide)

theorem State.haltTasks_kept : Within [.regs, .scan] s s.haltTasks := State.haltTasks_within (by decide) (by decide) .rfl

variable {s}

/-- A journal asked for leaves one in progress, waiting or deferred. -/
theorem State.journal_notDone (j reason : Nat) : (s.journal j reason).est.writing ≠ none ∨ (s.journal j reason).est.deferred ≠ [] := by
  by_cases hh : s.journalHeld = true
  · exact .inr (by rw [State.journal, if_pos hh]; simp)
  · have hh' := eq_false_of_ne_true hh
    cases hw : s.est.writing with
    | none =>
      refine .inl ?_
      rw [State.journal_begins hh' hw, (State.beginWrite_est j reason).1]
      exact Option.some_ne_none _
    | some w =>
      refine .inl ?_
      rw [State.journal_waits hh' (by rw [hw]; rfl)]
      exact fun h => Option.some_ne_none w (hw.symm.trans h)

theorem State.transportBegin_spec : s.transportBegin.journalsDone = false ∧ s.transportBegin.crown = { s.crown with trans := .transport } ∧
    s.transportBegin.mode = s.mode := by
  have he : (((s.entryStore 4).record 4 0x00 .transportEntry []).haltTasks).est = (s.journalBoth 4).est := by
    have h1 := (State.haltTasks_kept ((s.entryStore 4).record 4 0x00 .transportEntry [])).est (by decide)
    have h2 : (s.entryStore 4).est = (s.journalBoth 4).est := (Within.est (T := [.tele]) (State.counterSlot_within (by decide) .rfl) (by decide))
    exact h1.trans (h2 ▸ rfl)
  have hc : (((s.entryStore 4).record 4 0x00 .transportEntry []).haltTasks).crown = s.crown := by
    have h1 := (State.haltTasks_kept ((s.entryStore 4).record 4 0x00 .transportEntry [])).crown (by decide)
    have h2 : (s.entryStore 4).crown = s.crown := Within.crown (T := [.regs, .q91, .rk, .scan, .est, .tele, .nvm])
      (State.entryStore_within (by decide) (by decide) (by decide) (by decide) (by decide) (by decide) (by decide) .rfl) (by decide)
    exact h1.trans h2
  have hm : (((s.entryStore 4).record 4 0x00 .transportEntry []).haltTasks).mode = s.mode := by
    have h1 := (State.haltTasks_fields ((s.entryStore 4).record 4 0x00 .transportEntry [])).rd (g := F.CROWN_MODE_MODE) (by decide)
    exact (State.mode_of_rd h1).trans ((State.entryStore_pages s 4).mode (by decide))
  unfold State.transportBegin
  extract_lets u e
  have he' : u.est = _ := he
  refine ⟨?_, congrArg (fun c : Crown => { c with trans := .transport }) hc, (State.mode_of_rd (State.rd_regs (State.mk_regs ..) _)).trans hm⟩
  clear_value u
  unfold State.journalsDone
  change (u.est.writing.isNone && u.est.waiting.isEmpty && u.est.deferred.isEmpty && !u.tele.deferred) = false
  rw [he']
  rcases (s.journal 0 4).journal_notDone 1 4 with h | h
  · have : (s.journalBoth 4).est.writing.isNone = false := Option.isNone_eq_false_iff.2 (Option.isSome_iff_ne_none.2 h)
    simp [this]
  · have : (s.journalBoth 4).est.deferred.isEmpty = false := List.isEmpty_eq_false_iff.2 h
    simp [this]

/-- What holds of both branches holds of the choice. -/
theorem ite_holds {c : Prop} [Decidable c] {P : State → Prop} {a b : State} (ha : P a) (hb : P b) : P (if c then a else b) := by
  split
  · exact ha
  · exact hb

/-- The ramp of a disconnect with phases that run. -/
theorem State.disconnectRamp_spec (hn : s.nOn ≠ 0) : s.disconnectRamp.crown.trans = .disconnect ∧ s.disconnectRamp.track.disc = 2 ∧
    OnlyFields [F.TRACK_STATUS_FORMING] s s.disconnectRamp := by
  unfold State.disconnectRamp
  extract_lets e1 e2 y e3
  have hy : OnlyFields [F.TRACK_STATUS_FORMING] s y := (OnlyFields.of_regs (State.mk_regs ..)).wrB _ (by decide) (by decide)
  have hyn : y.nOn = s.nOn := State.nOn_of_rd (hy.rd (by decide))
  rw [if_neg (by simp [hyn, hn])]
  exact ⟨rfl, rfl, hy⟩

/-- A disconnect noted, its run of impedance ended. -/
def State.disconnectNoted (s : State) : State := { s.abortRun 2 with crown := { (s.abortRun 2).crown with trans := .disconnect } }

/-- A disconnect that waits for its common time. -/
def State.disconnectWaits (s : State) : State := { s with track := { s.track with disc := 6 } }

theorem State.disconnectBegin_eq (s : State) : s.disconnectBegin =
    if s.disconnectNoted.on F.TRACK_CFG_SHUT_EN && decide (s.disconnectNoted.formAt > s.disconnectNoted.tb0) && s.disconnectNoted.mode == .run
    then s.disconnectNoted.disconnectWaits else s.disconnectNoted.disconnectRamp := rfl

/-- The disconnect of a unit with phases that run begins with its wait or its ramp. -/
theorem State.disconnectBegin_spec (hn : s.nOn ≠ 0) : s.disconnectBegin.crown.trans = .disconnect ∧ s.disconnectBegin.track.disc ≠ 0 ∧
    s.disconnectBegin.mode = s.mode ∧ s.disconnectBegin.rd F.CROWN_MODE_REQ_RESULT = s.rd F.CROWN_MODE_REQ_RESULT := by
  have hw : OnlyWhere RunWords s s.disconnectNoted := (s.abortRun_run 2).upd (State.mk_regs ..)
  have hm := hw.mode (by unfold RunWords; decide)
  have hr := hw.rd (f := F.CROWN_MODE_REQ_RESULT) (by unfold RunWords; decide)
  have hwn : s.disconnectNoted.nOn ≠ 0 := by rwa [State.nOn_of_rd (hw.rd (by unfold RunWords; decide))]
  have ht : s.disconnectNoted.crown.trans = .disconnect := rfl
  rw [State.disconnectBegin_eq]
  generalize s.disconnectNoted = w at hm hr hwn ht
  obtain ⟨r1, r2, r3⟩ := State.disconnectRamp_spec hwn
  refine ite_holds (P := fun t : State => t.crown.trans = .disconnect ∧ t.track.disc ≠ 0 ∧ t.mode = s.mode ∧
    t.rd F.CROWN_MODE_REQ_RESULT = s.rd F.CROWN_MODE_REQ_RESULT) ?_ ?_
  · exact ⟨ht, (by decide : (6 : Nat) ≠ 0), (State.mode_of_rd (State.rd_regs (State.mk_regs ..) _)).trans hm, (State.rd_regs (State.mk_regs ..) _).trans hr⟩
  · exact ⟨r1, by rw [r2]; decide, (State.mode_of_rd (r3.rd (by decide))).trans hm, (r3.rd (by decide)).trans hr⟩

/-- The exit from SAFE asks every node that answers for its FAULT_CLEAR. -/
theorem State.safeExitBegin_spec : (s.safeExitBegin who).crown.trans = .safeExit ∧ (s.safeExitBegin who).crown.transWho = who ∧
    (s.safeExitBegin who).crown.clearAwait = s.answering ∧ (s.safeExitBegin who).mode = s.mode := by
  unfold State.safeExitBegin
  extract_lets l e v
  have hw : Within [.out, .ringSt] v (l.foldl (fun s n => s.ringCmd n 0x31) v) := v.ringCmds_ring l 0x31
  have hv : v.crown.trans = .safeExit ∧ v.crown.transWho = who ∧ v.crown.clearAwait = s.answering := ⟨rfl, rfl, rfl⟩
  have hm : v.mode = s.mode := rfl
  clear_value v
  have hc := hw.crown (by decide)
  exact ⟨(congrArg Crown.trans hc).trans hv.1, (congrArg Crown.transWho hc).trans hv.2.1, (congrArg Crown.clearAwait hc).trans hv.2.2,
    (State.mode_of_rd (State.rd_regs (hw.regs (by decide)) _)).trans hm⟩

theorem State.clearHistories_regs (s : State) : s.clearHistories.regs = s.regs := rfl

theorem State.presetEntry_pages (s : State) : OnlyPages [0x10, 0x22] s s.presetEntry := by
  unfold State.presetEntry
  extract_lets v e w
  have hv : OnlyPages [0x10, 0x22] s v := by
    refine .upd (t := instances.foldl (fun s k => s.setInteg k 0) s) (.foldl .refl fun u k hk => ?_) (State.clearHistories_regs _)
    have hp : pageOf (F.LOOP_ISLO_IS_LO k).addr ∈ [0x10, 0x22] ∧ pageOf (F.LOOP_ISHI_IS_HI k).addr ∈ [0x10, 0x22] := by
      revert k
      decide
    unfold State.setInteg
    extract_lets x
    exact (OnlyPages.refl.wr hp.1).wr hp.2
  clear_value v
  have hw : OnlyPages [0x10, 0x22] s w := hv.upd rfl
  clear_value w
  exact (hw.andThen (w.freezeAll_pages false) (by decide)).wrB (by decide)

/-- What the start of a connection leaves before its pre-checks. -/
def State.startPrepared (s : State) : State :=
  let s := ((s.setMode .connect).presetEntry).freezeAll true
  let s := (((s.toStep 1).bump F.TRACK_STARTS_STARTS).raise 0x23 0).wrB F.TRACK_STATUS_RETRY false
  let s := { s with track := { s.track with retried := false, preReread := false, disc := 0, clocks := 0 } }
  s.toStep 2

theorem State.startBegin_eq (s : State) : s.startBegin = s.startPrepared.preCheckStep := rfl

theorem State.toStep_pages (s : State) (n : Nat) : OnlyPages [0x23] s (s.toStep n) := (OnlyPages.refl.wr (by decide)).upd (State.mk_regs ..)

theorem State.mode_setMode_connect (s : State) : (s.setMode .connect).mode = .connect := State.mode_setMode s .connect

theorem State.startPrepared_spec (s : State) : s.startPrepared.mode = .connect ∧ s.startPrepared.rd F.CONTACT_STATUS_WELD = s.rd F.CONTACT_STATUS_WELD ∧
    s.startPrepared.track.preReread = false := by
  unfold State.startPrepared
  extract_lets v w e x
  have hv : OnlyPages [0x10, 0x22] (s.setMode .connect) v :=
    (State.presetEntry_pages _).andThen (State.freezeAll_pages _ true) (by decide)
  clear_value v
  have hw : OnlyPages [0x10, 0x22, 0x23] (s.setMode .connect) w :=
    ((((hv.mono (by decide)).andThen (v.toStep_pages 1) (by decide)).bump (by decide)).raise (by decide)).wrB (by decide)
  clear_value w
  have hx : OnlyPages [0x10, 0x22, 0x23] (s.setMode .connect) (x.toStep 2) := (hw.upd (State.mk_regs ..)).andThen (x.toStep_pages 2) (by decide)
  exact ⟨(hx.mode (by decide)).trans (State.mode_setMode_connect s), (hx.rd (by decide)).trans ((s.setMode_pages .connect).rd (by decide)), rfl⟩

theorem State.energise_pages (s : State) (k a : Nat) : OnlyPages [0x24] s (s.energise k a) :=
  .ite (.of_regs rfl) ((OnlyPages.refl.wrBit (by decide)).upd rfl)

/-- The pre-checks of a start lead to step 3, or are to be read again. -/
theorem State.preCheckStep_spec (hw : s.rd F.CONTACT_STATUS_WELD = 0) (hr : s.track.preReread = false) :
    s.preCheckStep.mode = s.mode ∧ (s.preCheckStep.rd F.TRACK_STATUS_STEP = 3 ∨ s.preCheckStep.track.preReread = true) := by
  unfold State.preCheckStep
  rw [if_neg (by simp [hw])]
  split
  · have h1 : OnlyPages [0x23, 0x24] s (({ s with track := { s.track with preReread := false } }.toStep 3).energise 3) :=
      ((OnlyPages.of_regs (State.mk_regs ..)).andThen (State.toStep_pages _ 3) (by decide)).andThen (State.energise_pages _ 3 1) (by decide)
    refine ⟨h1.mode (by decide), .inl (((State.energise_pages _ 3 1).rd (by decide)).trans ?_)⟩
    exact (State.rd_regs (State.mk_regs ..) _).trans (State.rd_wr _ _ _ (by decide))
  · rw [if_neg (by simp [hr])]
    exact ⟨State.mode_of_rd (State.rd_regs (State.mk_regs ..) _), .inr rfl⟩

theorem State.startBegin_spec (hw : s.rd F.CONTACT_STATUS_WELD = 0) : s.startBegin.mode = .connect ∧
    (s.startBegin.rd F.TRACK_STATUS_STEP = 3 ∨ s.startBegin.track.preReread = true) := by
  obtain ⟨h1, h2, h3⟩ := s.startPrepared_spec
  obtain ⟨c1, c2⟩ := State.preCheckStep_spec (h2.trans hw) h3
  rw [State.startBegin_eq]
  exact ⟨c1.trans h1, c2⟩

theorem State.enterRun_mode (s : State) : s.enterRun.mode = .run := by
  unfold State.enterRun
  extract_lets src v w x
  have hw : w.mode = .run := (State.mode_wr_apart _ _ (by decide) (by decide)).trans (State.mode_setMode v .run)
  clear_value w
  have hx : x.mode = .run := by
    unfold x
    split
    · exact (w.balStop_pages.mode (by decide)).trans hw
    · exact hw
  exact (State.mode_wr_apart _ _ (by decide) (by decide)).trans hx

/-- REST from RUN: at once with no phase that runs, else by its ramp. -/
theorem State.restBegin_spec (hm : s.mode = .run) : if s.nOn = 0 then s.restBegin.mode = .rest else s.restBegin.crown.trans = .restRamp ∧ s.restBegin.mode = .run := by
  split
  · rename_i hn
    rw [State.restBegin_entered hn]
    exact State.mode_setMode _ .rest
  · rename_i hn
    have hv := s.abortRun_run 2
    have hvn : (s.abortRun 2).nOn = s.nOn := State.nOn_of_rd (hv.rd (by unfold RunWords; decide))
    unfold State.restBegin
    extract_lets v e
    rw [if_neg (by simp [v, hvn, hn])]
    exact ⟨rfl, (State.mode_of_rd (State.rd_regs (State.mk_regs ..) _)).trans ((hv.mode (by unfold RunWords; decide)).trans hm)⟩

theorem State.serviceEntered_spec (s : State) : ((s.leaveBal.setMode .service).haltTasks).mode = .service ∧
    ((s.leaveBal.setMode .service).haltTasks).rd F.CROWN_MODE_REQ_RESULT = s.rd F.CROWN_MODE_REQ_RESULT := by
  have hh := State.haltTasks_fields (s.leaveBal.setMode .service)
  refine ⟨(State.mode_of_rd (hh.rd (by decide))).trans (State.mode_setMode _ .service), (hh.rd (by decide)).trans ?_⟩
  refine (State.rd_wr_apart _ _ _ _ (by decide) (by decide)).trans ((State.rd_wr_apart _ _ _ _ (by decide) (by decide)).trans ?_)
  exact s.leaveBal_pages.rd (by decide)

theorem State.enterDormant_spec (s : State) : s.enterDormant.rd F.CROWN_MODE_DORMANT = 1 ∧ s.enterDormant.mode = s.mode ∧
    s.enterDormant.harv.captures = [] ∧ s.enterDormant.ringSt.wait = [] := by
  unfold State.enterDormant
  extract_lets v e
  have hv : v.rd F.CROWN_MODE_DORMANT = 1 := by
    refine (State.rd_wrB_apart _ _ _ _ (by decide) (by decide)).trans ((State.rd_wrB _ _ _ (by decide) (by decide)).trans ?_)
    rfl
  have hm : v.mode = s.mode := (State.mode_wr_apart _ _ (by decide) (by decide)).trans ((State.mode_wr_apart _ _ (by decide) (by decide)).trans
    ((State.mode_of_rd (State.rd_regs (State.mk_regs ..) _)).trans ((State.mode_wr_apart _ _ (by decide) (by decide)).trans
      (State.mode_wr_apart _ _ (by decide) (by decide)))))
  have hr : v.ringSt.wait = [] := rfl
  clear_value v
  exact ⟨(State.rd_regs (State.mk_regs ..) _).trans hv, (State.mode_of_rd (State.rd_regs (State.mk_regs ..) _)).trans hm, rfl, hr⟩

/-! ## Each request, admitted -/

/-- TRANSPORT, admitted: its entry is begun, and waits for the journals. -/
theorem State.modeReqTransport_spec (hc : s.requestResult who .transport false p = 0) (hm : s.mode = .standby) :
    (s.modeRequest who .transport false p).crown.trans = .transport ∧ (s.modeRequest who .transport false p).mode = .standby ∧
    (s.modeRequest who .transport false p).crown.inputOpen = s.crown.inputOpen := by
  have hm' := (s.mode_reqResult 0).trans hm
  obtain ⟨h1, h2, h3⟩ := State.transportBegin_spec (s := s.wr F.CROWN_MODE_REQ_RESULT 0)
  rw [State.modeRequest_admitted hc (by decide) (by decide) (.inr (by decide)), State.takeRequest_transport hm', if_neg (by simp [h1]), h2]
  exact ⟨rfl, h3.trans hm', rfl⟩

/-- STANDBY from RUN, admitted. -/
theorem State.modeReqStandby_run (hc : s.requestResult who .standby false p = 0) (hm : s.mode = .run) (hn : s.nOn ≠ 0) :
    (s.modeRequest who .standby false p).crown.trans = .disconnect ∧ (s.modeRequest who .standby false p).track.disc ≠ 0 ∧
    (s.modeRequest who .standby false p).mode = .run ∧ (s.modeRequest who .standby false p).rd F.CROWN_MODE_REQ_RESULT = 0 := by
  have hm' := (s.mode_reqResult 0).trans hm
  have hn' : (s.wr F.CROWN_MODE_REQ_RESULT 0).nOn ≠ 0 := by rwa [State.nOn_of_rd (State.rd_wr_apart _ _ _ _ (by decide) (by decide))]
  obtain ⟨h1, h2, h3, h4⟩ := State.disconnectBegin_spec hn'
  rw [State.modeRequest_admitted hc (by decide) (by decide) (.inl (by rw [hm]; decide)), State.takeRequest_disconnect hm']
  exact ⟨h1, h2, h3.trans hm', h4.trans (State.rd_wr _ _ _ (by decide))⟩

/-- CONNECT, admitted. -/
theorem State.modeReqConnect_spec (hc : s.requestResult who .connect false p = 0) (hm : s.mode = .standby) (ha : s.nvm.armed ≠ 1)
    (hw : s.rd F.CONTACT_STATUS_WELD = 0) : (s.modeRequest who .connect false p).mode = .connect ∧
    ((s.modeRequest who .connect false p).rd F.TRACK_STATUS_STEP = 3 ∨ (s.modeRequest who .connect false p).track.preReread = true) := by
  obtain ⟨m, he⟩ := State.modeRequest_start hc (.inl rfl) ha
  have hm' := (State.mode_reqResult (s.wr F.CROWN_STATUS_MISSING m) 0).trans ((State.mode_wr_apart _ _ (by decide) (by decide)).trans hm)
  rw [he, State.takeRequest_connect hm']
  refine State.startBegin_spec ?_
  rw [State.rd_wr_apart _ _ _ _ (by decide) (by decide), State.rd_wr_apart _ _ _ _ (by decide) (by decide), hw]

/-- RUN from REST, admitted. -/
theorem State.modeReqRun_spec (hc : s.requestResult who .run false p = 0) (hm : s.mode = .rest) : (s.modeRequest who .run false p).mode = .run := by
  have h1 : (Mode.run == Mode.connect) = false := rfl
  have h2 : (Mode.run == Mode.standby) = false := rfl
  have he : s.modeRequest who .run false p = ((s.wr F.CROWN_STATUS_MISSING ((s.missingPartners p).foldl (fun m k => m ||| 2 ^ (k - 1)) 0)).wr
      F.CROWN_MODE_REQ_RESULT 0).takeRequest who .run false := by
    simp [State.modeRequest, hc, h1, h2]
  have hm' : ∀ m, ((s.wr F.CROWN_STATUS_MISSING m).wr F.CROWN_MODE_REQ_RESULT 0).mode = .rest := fun m =>
    (State.mode_reqResult (s.wr F.CROWN_STATUS_MISSING m) 0).trans ((State.mode_wr_apart _ _ (by decide) (by decide)).trans hm)
  rw [he, State.takeRequest_run (hm' _)]
  exact State.enterRun_mode _

/-- REST from RUN, admitted. -/
theorem State.modeReqRest_spec (hc : s.requestResult who .rest false p = 0) (hm : s.mode = .run) :
    if s.nOn = 0 then (s.modeRequest who .rest false p).mode = .rest
    else (s.modeRequest who .rest false p).crown.trans = .restRamp ∧ (s.modeRequest who .rest false p).mode = .run := by
  have hm' := (s.mode_reqResult 0).trans hm
  have hn : (s.wr F.CROWN_MODE_REQ_RESULT 0).nOn = s.nOn := State.nOn_of_rd (State.rd_wr_apart _ _ _ _ (by decide) (by decide))
  have h := State.restBegin_spec hm'
  rw [hn] at h
  rw [State.modeRequest_admitted hc (by decide) (by decide) (.inr (by decide)), State.takeRequest_restBegin hm']
  exact h

/-- SERVICE, admitted. -/
theorem State.modeReqService_spec (hc : s.requestResult who .service false p = 0) (hm : s.mode = .standby ∨ s.mode = .safe) :
    (s.modeRequest who .service false p).mode = .service ∧ (s.modeRequest who .service false p).rd F.CROWN_MODE_REQ_RESULT = 0 := by
  have hm' : (s.wr F.CROWN_MODE_REQ_RESULT 0).mode = .standby ∨ (s.wr F.CROWN_MODE_REQ_RESULT 0).mode = .safe := by rwa [State.mode_reqResult]
  obtain ⟨h1, h2⟩ := State.serviceEntered_spec (s.wr F.CROWN_MODE_REQ_RESULT 0)
  rw [State.modeRequest_admitted hc (by decide) (by decide) (.inr (by decide)), State.takeRequest_service hm']
  exact ⟨h1, h2.trans (State.rd_wr _ _ _ (by decide))⟩

/-- Dormant STANDBY, admitted. -/
theorem State.modeReqDormant_spec (hc : s.requestResult who .standby true p = 0) (hm : s.mode = .standby) :
    (s.modeRequest who .standby true p).rd F.CROWN_MODE_DORMANT = 1 ∧ (s.modeRequest who .standby true p).mode = .standby ∧
    (s.modeRequest who .standby true p).harv.captures = [] ∧ (s.modeRequest who .standby true p).ringSt.wait = [] := by
  have hm' := (s.mode_reqResult 0).trans hm
  obtain ⟨h1, h2, h3, h4⟩ := State.enterDormant_spec (s.wr F.CROWN_MODE_REQ_RESULT 0)
  rw [State.modeRequest_admitted hc (by decide) (by decide) (.inl (by rw [hm]; decide)), State.takeRequest_dormant hm']
  exact ⟨h1, h2.trans hm', h3, h4⟩

@[simp] theorem State.nOn_result (s : State) (w : Initiator) (a : Nat) : (s.result w a 0).nOn = s.nOn := State.nOn_of_rd (State.rd_result ..)

@[simp] theorem State.answering_result (s : State) (w : Initiator) (a : Nat) : (s.result w a 0).answering = s.answering := by
  rw [State.answering, State.answering, State.nodes_result, State.result_ringSt]

end Requests

/-- Settles O10: an admitted request begins its transition (for TRANSPORT the journals asked for at its entry are never done at once); a refused one
shows its code. -/
theorem modeRequests : Obligations.ModeRequests := by
  unfold Obligations.ModeRequests
  refine ⟨?_, ?_, ?_, ?_, ?_, ?_, ?_, ?_, ?_, ?_, ?_, ?_⟩
  · intro who s hb hs hm hu hc ho h6 hv hw hq hd ht
    have hj : s.journalsDone = true := by simp [State.journalsDone, hw, hq, hd, ht]
    refine Gives.of_asWrite rfl hb ?_
    rw [if_neg (by simp [State.transportBegin_spec.1])]
    have h := State.modeReqTransport_spec (s := s.result who A.CROWN_MODE_REQ 0) (who := who) (p := {})
      ((State.requestResult_result ..).trans (State.requestResult_transport hs hm hu hc ho h6 hv hj)) ((State.mode_result ..).trans hm)
    rw [State.result_crown] at h
    exact h
  · intro who s hb hm hu hc hn
    refine Gives.of_asWrite rfl hb ?_
    exact State.modeReqStandby_run ((State.requestResult_result ..).trans (State.requestResult_standby (.inl hm) hu hc)) ((State.mode_result ..).trans hm)
      (by rwa [State.nOn_result])
  · intro who s hb hm hu hc hl
    refine Gives.of_asWrite rfl hb ?_
    obtain ⟨h1, h2, h3, h4⟩ := State.safeExitBegin_spec (s := s.result who A.CROWN_MODE_REQ 0) (who := who)
    rw [State.modeRequest_safeExit ((State.requestResult_result ..).trans (State.requestResult_standby (.inr ⟨hm, hl⟩) hu hc)) ((State.mode_result ..).trans hm)]
    exact ⟨h1, h2, h3.trans (State.answering_result ..), h4.trans ((State.mode_result ..).trans hm)⟩
  · intro who p s hb hm hu hc hp ha hv hw
    refine Gives.of_asWrite rfl hb ?_
    exact State.modeReqConnect_spec ((State.requestResult_result ..).trans (State.requestResult_connect hm hu hc hp ha)) ((State.mode_result ..).trans hm)
      (by rwa [State.result_nvm]) (by rwa [State.rd_result])
  · intro who p s hb hm hu hc hp ha hbus h1 h2
    refine Gives.of_asWrite rfl hb ?_
    exact State.modeReqRun_spec ((State.requestResult_result ..).trans (State.requestResult_run hm hu hc hp ha hbus h1 h2)) ((State.mode_result ..).trans hm)
  · intro who s hb hm hu hc
    refine Gives.of_asWrite rfl hb ?_
    have h0 : s.requestResult who .rest false {} = 0 := by rw [State.requestResult_rest hm, hu, hc]; rfl
    have h := State.modeReqRest_spec (s := s.result who A.CROWN_MODE_REQ 0) (who := who) (p := {}) ((State.requestResult_result ..).trans h0)
      ((State.mode_result ..).trans hm)
    rw [State.nOn_result] at h
    exact h
  · intro who s hb
    refine Gives.of_asWrite rfl hb ?_
    have he : (s.result who A.CROWN_MODE_REQ 0).modeReqWrite who 6 false {} = (s.result who A.CROWN_MODE_REQ 0).wr F.CROWN_MODE_REQ_RESULT 0 := if_pos rfl
    rw [he]
    exact ⟨State.rd_wr _ _ _ (by decide), (OnlyFields.of_regs (State.result_regs ..)).wr _ (by decide) (by decide)⟩
  · intro who s hb hs hm hu hc ho
    refine Gives.of_asWrite rfl hb ?_
    exact State.modeReqService_spec ((State.requestResult_result ..).trans (State.requestResult_service hs hm hu hc ho)) (by rwa [State.mode_result])
  · intro who s hb hm hu hc hp
    refine Gives.of_asWrite rfl hb ?_
    exact State.modeReqDormant_spec ((State.requestResult_result ..).trans (State.requestResult_dormant hm hu hc hp)) ((State.mode_result ..).trans hm)
  · intro who s hb hs
    refine Gives.of_asWrite rfl hb ?_
    obtain ⟨h1, h2⟩ := State.modeRequest_refused (s := s.result who A.CROWN_MODE_REQ 0) (who := who) (p := {}) (dst := .service) (d := false)
      ((State.requestResult_result ..).trans (State.requestResult_nonsecure hs)) (by decide) (by decide) (by decide)
    exact ⟨h1, h2.trans (State.mode_result ..)⟩
  · intro who s hb hm
    refine Gives.of_asWrite rfl hb ?_
    obtain ⟨h1, h2⟩ := State.modeRequest_refused (s := s.result who A.CROWN_MODE_REQ 0) (who := who) (p := {}) (dst := .rest) (d := false)
      ((State.requestResult_result ..).trans (State.requestResult_hold hm)) (by decide) (by decide) (by decide)
    exact ⟨h1, h2.trans ((State.mode_result ..).trans hm)⟩
  · intro who s hb hm hu
    refine Gives.of_asWrite rfl hb ?_
    obtain ⟨h1, h2⟩ := State.modeRequest_refused (s := s.result who A.CROWN_MODE_REQ 0) (who := who) (p := {}) (dst := .rest) (d := false)
      ((State.requestResult_result ..).trans (State.requestResult_busy hm hu)) (by decide) (by decide) (by decide)
    exact ⟨h1, h2.trans (State.mode_result ..)⟩

end Sys2Proof.Machine
end

section
/-!
O9: the end of a start. The mode it leaves, and what of a start comes after the mode is set.
-/
set_option Elab.async false
namespace Sys2Proof.Machine
open Sys2Proof

section StartEnd
variable {s t u : State}

/-! ## What comes before and after the mode

Neither the word of the mode nor the count of retries of page 0 is written.
-/

/-- A word that is neither the mode's nor that of CROWN's count of retries. -/
def OffMode (a : Nat) : Prop := a ≠ 0x64 ∧ a ≠ 0x28

theorem OnlyWhere.offMode {P : List Nat} (h : OnlyPages P s t) (h0 : 0 ∉ P) : OnlyWhere OffMode s t := .of_pages h fun a ha => by
  refine ⟨fun he => h0 ?_, fun he => h0 ?_⟩
  · subst he
    exact ha
  · subst he
    exact ha

theorem OnlyWhere.offMode_rd (h : OnlyWhere OffMode s t) {f : Fld} (hf : f.addr = 0x64 ∨ f.addr = 0x28) : t.rd f = s.rd f := h.rd (by
  rw [OffMode]
  omega)

theorem OnlyWhere.offMode_mode (h : OnlyWhere OffMode s t) : t.mode = s.mode := State.mode_of_rd (h.offMode_rd (.inl rfl))

theorem OnlyWhere.offMode_latch (h : OnlyWhere OffMode s t) : t.on F.CROWN_MODE_SAFE_LATCH = s.on F.CROWN_MODE_SAFE_LATCH :=
  State.on_of_rd (h.offMode_rd (.inl rfl))

variable (s)

/-- The words of the CAN channels and of PTP, and of the count of voided checks. -/
def UnitWords (a : Nat) : Prop := a = F.SCHED_TMO_SA_VOID.addr ∨ 0x49080 ≤ a

theorem UnitWords.offMode {a : Nat} (h : UnitWords a) : OffMode a := by
  simp only [UnitWords, OffMode, ne_eq] at h ⊢
  omega

theorem State.canEnable_where (c : Nat) : OnlyWhere UnitWords s (s.canEnable c) := by
  have h1 : UnitWords (0x5000C + 0x1000 * c) := .inr (by omega)
  have h2 : UnitWords (0x50054 + 0x1000 * c) := .inr (by omega)
  have hi : ∀ v : State, OnlyWhere UnitWords v (v.canIntegrate c) := fun v => .ite ((OnlyWhere.refl.wr (f := F.CAN_STATUS_STATE c) h1).upd rfl) .refl
  unfold State.canEnable
  extract_lets e u
  have hu : OnlyWhere UnitWords s u := .ite (.bump (.of_regs rfl) (.inl rfl)) .refl
  clear_value u
  have hv := ((hu.wr (f := F.CAN_STATUS_STATE c) (n := 3) h1).wr (f := F.CAN_ERRCNT_TEC c) (n := 0) h2).wr (f := F.CAN_ERRCNT_REC c) (n := 0) h2
  generalize ((u.wr (F.CAN_STATUS_STATE c) 3).wr (F.CAN_ERRCNT_TEC c) 0).wr (F.CAN_ERRCNT_REC c) 0 = v at hv ⊢
  exact (hv.upd (State.mk_regs ..)).trans (hi _)

theorem State.ptpEnable_where (i : Nat) (en : Bool) : OnlyWhere UnitWords s (s.ptpEnable i en) := by
  have h1 : UnitWords (0x49080 + 0x80 * i) := .inr (by omega)
  unfold State.ptpEnable
  extract_lets u
  have hu : OnlyWhere UnitWords s u := .ite (OnlyWhere.refl.bump (.inl rfl)) .refl
  clear_value u
  have hv : OnlyWhere UnitWords s (u.setPtp i {}) := hu.upd rfl
  exact ((hv.wr (f := F.PTP_STATE_PORT_STATE i) h1).wr (f := F.PTP_STATE_SERVO i) h1).wrB (f := F.PTP_STATE_FB_ACTIVE i) h1

theorem State.startUnits_where : OnlyWhere UnitWords s s.startUnits := by
  unfold State.startUnits
  extract_lets u
  have hu : OnlyWhere UnitWords s u := .foldl .refl fun v c _ => .ite (v.canEnable_where c) .refl
  exact .foldl hu fun v i _ => .ite (v.ptpEnable_where i true) .refl

theorem State.setReady_pages (b : Bool) : OnlyPages [0x38] s (s.setReady b) := .ite .refl ((OnlyPages.refl.wrB (by decide)).raise (by decide))

theorem State.takeClaim_pages : OnlyPages [0x38, 0x39] s s.takeClaim.1 := by
  unfold State.takeClaim
  extract_lets g u
  split
  · exact .refl
  · split
    · exact (OnlyPages.refl.raise (by decide)).andThen (State.setReady_pages _ false) (by decide)
    · have hv : OnlyPages [0x38, 0x39] s u := .ite (OnlyPages.refl.raise (by decide)) .refl
      exact (hv.wr (by decide)).wr (by decide)

theorem State.startStandby_pages : OnlyPages [0x38, 0x39] s s.startStandby := (OnlyPages.refl.wr (by decide)).upd (State.mk_regs ..)

/-- The role of a start without a conflict of claims is taken in the pages of the pair. -/
theorem State.pairStart_pages (hc : s.claimBarred = false) : OnlyPages [0x38, 0x39] s s.pairStart := by
  have hr : OnlyPages [0x38, 0x39] s (s.wr F.PAIR_STATUS_ROLE 0) := OnlyPages.refl.wr (by decide)
  unfold State.pairStart
  rw [if_neg (c := s.claimBarred = true) (by simp [hc])]
  refine .ite (hr.trans (State.takeClaim_pages _)) (.ite s.startStandby_pages (.ite ?_ ((OnlyPages.refl.wr (by decide)).upd (State.mk_regs ..))))
  split
  rename_i v ok hv
  have h : OnlyPages [0x38, 0x39] s v := (congrArg (fun r : State × Bool => OnlyPages [0x38, 0x39] s r.1) hv).mp s.takeClaim_pages
  exact h.wr (by decide)

theorem State.writeThresholds_regs : s.writeThresholds.regs = s.regs :=
  (State.writeThresholds_within (T := [.out, .ringSt]) (by decide) (by decide) .rfl).regs (by decide)

theorem State.launchT_regs (r : Readings) : (s.launchT r).regs = s.regs :=
  (State.launchT_within (T := [.out, .harv]) (by decide) (by decide) .rfl).regs (by decide)

theorem State.stopRing_pages : OnlyPages [0x18] s s.stopRing := ((OnlyPages.refl.wr (by decide)).wr (by decide)).upd (State.mk_regs ..)

/-! ## The end of a start -/

/-- The end of a start up to its mode. -/
def State.startNoted (s : State) : State := ({ s with crown := { s.crown with phase := .complete } }.startRecord).startUnits

/-- The role, the feed and the stores at the end of a start. -/
def State.startStored (s : State) : State := s.pairStart.closeFeed.entryStore 3

/-- The ring, the thresholds and the temperatures at the end of a start. -/
def State.startServed (s : State) : State :=
  let s := if s.rd F.PAIR_STATUS_ROLE == 2 then s.stopRing else s
  let s := s.writeThresholds
  if s.harv.oneT then s.launchT s.meas else s

/-- The window of a trial shown, and the first start noted. -/
def State.startShown (s : State) : State :=
  if s.nvm.boot.first then
    ({ s.raise 0x62 3 with nvm := { s.nvm with startOk := true, boot := { s.nvm.boot with first := false } } }.showWindow)
  else s.showWindow

theorem State.startEnds_eq : s.startEnds = ((if s.startNoted.on F.CROWN_MODE_SAFE_LATCH then s.startNoted.wr F.CROWN_MODE_MODE 6
    else s.startNoted.wr F.CROWN_MODE_MODE 1).startStored.startServed).startShown := rfl

variable {s} in
theorem State.claimBarred_congr (hp : t.rd F.PAIR_CFG_PAIRED = s.rd F.PAIR_CFG_PAIRED) (h : t.pair = s.pair) : t.claimBarred = s.claimBarred := by
  rw [State.claimBarred, State.claimBarred, State.on_of_rd hp, h]

theorem State.startNoted_spec : OnlyWhere OffMode s s.startNoted ∧ s.startNoted.crown.phase = .complete ∧ s.startNoted.claimBarred = s.claimBarred := by
  have hr : ∀ W, OnlyWhere W s { s with crown := { s.crown with phase := .complete } }.startRecord := fun W => .of_regs rfl
  have hw : ∀ v : State, Within [.regs, .time, .can] v v.startUnits := fun v => State.startUnits_within (by decide) (by decide) (by decide) .rfl
  have hu := (hr UnitWords).trans (State.startUnits_where _)
  exact ⟨hu.mono fun _ => UnitWords.offMode, congrArg Crown.phase ((hw _).crown (by decide)),
    State.claimBarred_congr (hu.rd (by unfold UnitWords; decide)) ((hw _).pair (by decide))⟩

theorem State.startStored_spec (hc : s.claimBarred = false) : OnlyWhere OffMode s s.startStored ∧ s.startStored.crown = s.crown := by
  have h1 : OnlyPages [0x38, 0x39] s s.pairStart := s.pairStart_pages hc
  have h2 : OnlyPages [0x38, 0x39, 0x31, 0x2A] s s.startStored :=
    ((h1.mono (by decide)).andThen s.pairStart.closeFeed_pages (by decide)).andThen (State.entryStore_pages _ 3) (by decide)
  refine ⟨.offMode h2 (by decide), ?_⟩
  have hw : Within [.regs, .q91, .rk, .scan, .est, .tmx, .pair, .tele, .nvm] s s.startStored :=
    State.entryStore_within (by decide) (by decide) (by decide) (by decide) (by decide) (by decide) (by decide)
      (State.closeFeed_within (by decide) (State.pairStart_within (by decide) (by decide) (by decide) (by decide) (by decide) (by decide) (by decide) .rfl))
  exact hw.crown (by decide)

theorem State.startServed_spec : OnlyWhere OffMode s s.startServed ∧ s.startServed.crown = s.crown := by
  unfold State.startServed
  extract_lets u v
  have hu : OnlyWhere OffMode s u := .ite (.offMode s.stopRing_pages (by decide)) .refl
  have hcu : u.crown = s.crown := by
    unfold u
    split <;> rfl
  clear_value u
  have hv : OnlyWhere OffMode s v := hu.upd u.writeThresholds_regs
  have hcv : v.crown = s.crown := ((State.writeThresholds_within (T := [.out, .ringSt]) (by decide) (by decide) .rfl).crown (by decide)).trans hcu
  clear_value v
  refine ⟨.ite (hv.upd (v.launchT_regs _)) hv, ?_⟩
  split
  · exact ((State.launchT_within (T := [.out, .harv]) (by decide) (by decide) .rfl).crown (by decide)).trans hcv
  · exact hcv

theorem State.startShown_spec : OnlyWhere OffMode s s.startShown ∧ s.startShown.crown = s.crown := by
  have hw : ∀ v : State, OnlyWhere OffMode v v.showWindow := fun v => OnlyWhere.refl.wr (by simp [OffMode])
  unfold State.startShown
  split
  · refine ⟨.trans (.upd (OnlyWhere.refl.raise (t := s) (page := 0x62) (bit := 3) (by rw [evtStatus_mk]; simp [OffMode])) (State.mk_regs ..)) (hw _), ?_⟩
    exact (show _ = (s.raise 0x62 3).crown from rfl).trans (State.raise_crown ..)
  · exact ⟨hw s, rfl⟩

variable {s}

theorem State.mode_wrMode (v : State) (n : Nat) : (v.wr F.CROWN_MODE_MODE n).mode = Mode.ofCode (n % 16) := by
  rw [State.mode, State.rd_wr _ _ _ (by decide)]
  rfl

/-- The end of a start leaves the phase complete and the mode that the latch calls for. -/
theorem State.startEnds_spec (hc : s.claimBarred = false) : s.startEnds.crown.phase = .complete ∧
    s.startEnds.mode = (if s.on F.CROWN_MODE_SAFE_LATCH then .safe else .standby) ∧
    s.startEnds.rd (pageFld 0 0x028 0 16) = s.rd (pageFld 0 0x028 0 16) := by
  obtain ⟨n1, n2, n3⟩ := s.startNoted_spec
  have hl := n1.offMode_latch
  have hr := n1.offMode_rd (f := pageFld 0 0x028 0 16) (.inr rfl)
  rw [State.startEnds_eq, hl]
  generalize s.startNoted = v at n2 n3 hr
  have key : ∀ n, (((v.wr F.CROWN_MODE_MODE n).startStored.startServed).startShown).crown.phase = .complete ∧
      (((v.wr F.CROWN_MODE_MODE n).startStored.startServed).startShown).mode = (v.wr F.CROWN_MODE_MODE n).mode ∧
      (((v.wr F.CROWN_MODE_MODE n).startStored.startServed).startShown).rd (pageFld 0 0x028 0 16) = v.rd (pageFld 0 0x028 0 16) := fun n => by
    have hb : (v.wr F.CROWN_MODE_MODE n).claimBarred = false :=
      (State.claimBarred_congr (State.rd_wr_apart _ _ _ _ (by decide) (by decide)) rfl).trans (n3.trans hc)
    obtain ⟨a1, a2⟩ := State.startStored_spec _ hb
    obtain ⟨b1, b2⟩ := State.startServed_spec (v.wr F.CROWN_MODE_MODE n).startStored
    obtain ⟨c1, c2⟩ := State.startShown_spec (v.wr F.CROWN_MODE_MODE n).startStored.startServed
    have hw := (a1.trans b1).trans c1
    refine ⟨congrArg Crown.phase (c2.trans (b2.trans a2)) |>.trans n2, hw.offMode_mode, (hw.offMode_rd (.inr rfl)).trans ?_⟩
    exact State.rd_wr_apart _ _ _ _ (by decide) (by decide)
  split
  · obtain ⟨k1, k2, k3⟩ := key 6
    exact ⟨k1, k2.trans (State.mode_wrMode v 6), k3.trans hr⟩
  · obtain ⟨k1, k2, k3⟩ := key 1
    exact ⟨k1, k2.trans (State.mode_wrMode v 1), k3.trans hr⟩

/-! ## A step that failed twice -/

/-- SAFE with the latch set. -/
def Latched (s : State) : Prop := s.mode = .safe ∧ s.on F.CROWN_MODE_SAFE_LATCH = true

theorem Latched.offMode (h : Latched s) (hw : OnlyWhere OffMode s t) : Latched t := ⟨hw.offMode_mode.trans h.1, hw.offMode_latch.trans h.2⟩

theorem State.setLatch_on (s : State) (source : Nat) (ev : Ev) : (s.setLatch source ev).on F.CROWN_MODE_SAFE_LATCH = true := by
  unfold State.setLatch
  refine (State.on_of_rd ((State.lockPort_pages _).rd (by decide))).trans ?_
  refine State.on_eq_true.2 ?_
  rw [State.rd_wr_apart _ _ _ _ (by decide) (by decide), State.rd_wrB _ _ _ (by decide) (by decide)]
  decide

theorem State.mode_setLatch (s : State) (source : Nat) (ev : Ev) : (s.setLatch source ev).mode = s.mode := by
  unfold State.setLatch
  refine ((State.lockPort_pages _).mode (by decide)).trans ?_
  exact (State.mode_wr_apart _ _ (by decide) (by decide)).trans (State.mode_wr_apart _ _ (by decide) (by decide))

theorem Latched.pairConflict (h : Latched s) : Latched s.pairConflict := by
  unfold State.pairConflict
  extract_lets v w
  have hv : Latched v := h.offMode (.of_regs rfl)
  clear_value v
  split
  · exact hv
  · have hw : Latched w := ⟨(State.mode_setLatch ..).trans hv.1, State.setLatch_on ..⟩
    clear_value w
    rw [if_neg (by rw [hw.1]; decide)]
    exact hw

theorem Latched.pairStart (h : Latched s) : Latched s.pairStart := by
  by_cases hc : s.claimBarred = true
  · unfold State.pairStart
    split
    · exact h.offMode (.offMode (((OnlyPages.refl (P := [0x38, 0x39])).wr (by decide)).trans (State.takeClaim_pages _)) (by decide))
    · exact (h.offMode (.offMode s.startStandby_pages (by decide))).pairConflict
  · exact h.offMode (.offMode (s.pairStart_pages (eq_false_of_ne_true hc)) (by decide))

theorem State.entryStore_boot (s : State) (n : Nat) : (s.entryStore n).nvm.boot = s.nvm.boot := by
  have hj : (s.journalBoth n).counterSlot.nvm = s.nvm := Within.nvm (T := [.regs, .q91, .rk, .scan, .est, .tele])
    (State.counterSlot_within (by decide) (State.journalBoth_within (by decide) (by decide) (by decide) (by decide) (by decide) .rfl)) (by decide)
  unfold State.entryStore
  extract_lets v
  have hv : v.nvm.boot = s.nvm.boot := congrArg Nvm.boot hj
  clear_value v
  split
  · refine Eq.trans ?_ hv
    unfold State.retainSlot
    split <;> rfl
  · exact hv

/-- A failed start noted, with its lasting fault and the latch. -/
def State.startLatched (s : State) : State :=
  ((s.lasting 0x00 (evCode 0x00 .startLasting)).record 6 0x00 .startLasting [(s.rd F.RESET_CAUSE_KIND : Int)]).setLatch 0x00 .startLasting

/-- A start over in SAFE after a failure. -/
def State.endedSafe (s : State) : State :=
  ({ s with crown := { s.crown with phase := .complete, startFailed := true } }.startRecord).wr F.CROWN_MODE_MODE 6

/-- A failed start, over in SAFE with the latch. -/
def State.startLost (s : State) : State := s.startLatched.endedSafe

theorem State.startFails_eq (s : State) : s.startFails = if (s.startLost.pairStart.entryStore 3).nvm.boot.first then
    (s.startLost.pairStart.entryStore 3).updFallback else s.startLost.pairStart.entryStore 3 := rfl

theorem State.startLatched_spec (s : State) : s.startLatched.on F.CROWN_MODE_SAFE_LATCH = true ∧ s.startLatched.nvm = s.nvm := by
  unfold State.startLatched
  refine ⟨State.setLatch_on .., ?_⟩
  refine Within.nvm (T := [.regs, .q91, .rk, .scan, .tmx]) ?_ (by decide)
  exact State.setLatch_within (by decide) (by decide) (by decide) (by decide) (by decide)
    (State.record_within (by decide) (State.lasting_within (by decide) .rfl))

theorem State.endedSafe_spec (s : State) : s.endedSafe.mode = .safe ∧ s.endedSafe.on F.CROWN_MODE_SAFE_LATCH = s.on F.CROWN_MODE_SAFE_LATCH ∧
    s.endedSafe.crown = { s.crown with phase := .complete, startFailed := true } ∧ s.endedSafe.nvm = s.nvm := by
  unfold State.endedSafe State.startRecord
  refine ⟨State.mode_wrMode _ 6, State.on_of_rd ?_, ?_, ?_⟩
  · rw [State.rd_wr_apart _ _ _ _ (by decide) (by decide)]
    exact State.rd_regs ((State.record_regs ..).trans (State.mk_regs ..)) _
  · rw [State.wr_crown, State.record_crown, State.mk_crown]
  · rw [State.wr_nvm, State.record_nvm, State.mk_nvm]

theorem State.startLost_spec (s : State) : Latched s.startLost ∧ s.startLost.crown.phase = .complete ∧ s.startLost.crown.startFailed = true ∧
    s.startLost.nvm = s.nvm := by
  obtain ⟨hl, hn⟩ := s.startLatched_spec
  obtain ⟨hm, hs, hc, hv⟩ := s.startLatched.endedSafe_spec
  exact ⟨⟨hm, hs.trans hl⟩, congrArg Crown.phase hc, congrArg Crown.startFailed hc, hv.trans hn⟩

theorem State.startFails_spec (hf : s.nvm.boot.first = false) : s.startFails.crown.phase = .complete ∧ s.startFails.crown.startFailed = true ∧
    Latched s.startFails := by
  obtain ⟨l1, l2, l3, l4⟩ := s.startLost_spec
  have hp : Within [.regs, .q91, .rk, .scan, .est, .tmx, .pair] s.startLost s.startLost.pairStart :=
    State.pairStart_within (by decide) (by decide) (by decide) (by decide) (by decide) (by decide) (by decide) .rfl
  have he : Within [.regs, .q91, .rk, .scan, .est, .tele, .nvm] s.startLost.pairStart (s.startLost.pairStart.entryStore 3) :=
    State.entryStore_within (by decide) (by decide) (by decide) (by decide) (by decide) (by decide) (by decide) .rfl
  have hfirst : (s.startLost.pairStart.entryStore 3).nvm.boot.first = false := by
    rw [State.entryStore_boot, hp.nvm (by decide), l4, hf]
  have hcr : (s.startLost.pairStart.entryStore 3).crown = s.startLost.crown := (he.crown (by decide)).trans (hp.crown (by decide))
  rw [State.startFails_eq, if_neg (by simp [hfirst])]
  refine ⟨(congrArg Crown.phase hcr).trans l2, (congrArg Crown.startFailed hcr).trans l3, l1.pairStart.offMode (.offMode (State.entryStore_pages _ 3) (by decide))⟩

/-! ## START_COMPLETE -/

/-- The ring need not be started by a start that is ready: it runs, or the partner has it. -/
theorem State.startReady_ring (h : s.startReady = true) : (s.crown.booted && !s.crown.ringStarted && !s.partnerClaims) = false := by
  unfold State.startReady at h
  cases hr : s.crown.ringStarted
  · rw [hr] at h
    simp only [Bool.and_eq_true] at h
    have hp : s.partnerClaims = true := h.1.2
    simp [hp]
  · simp

theorem exec_startComplete_ready {n : Fin 3} (hp : s.crown.phase = .starting) (hb : s.crown.booted = true) (hf : s.crown.startFailed = false)
    (hr : s.startReady = true) (hn : n ≠ 2) : exec (.startComplete n) s = .next (if n = 1 then s.retryPass 0x00 else s).startEnds := by
  change execStartComplete n s = _
  unfold execStartComplete
  extract_lets u v
  have hu : u = s := if_neg (by simp [hb])
  have hv : v = s := by
    unfold v
    rw [hu, if_neg (by simp [State.startReady_ring hr])]
  rw [hu, hv, if_neg (by simp [hp]), if_neg (by simp [hn, hf]), if_pos hr]

theorem exec_startComplete_failed (hp : s.crown.phase = .starting) (hb : s.crown.booted = true) : exec (.startComplete 2) s = .next s.startFails := by
  change execStartComplete 2 s = _
  unfold execStartComplete
  extract_lets u v
  have hu : u = s := if_neg (by simp [hb])
  rw [hu, if_neg (by simp [hp]), if_pos (by simp)]

theorem State.retryPass_rd (s : State) (f : Fld) (hf : (pageFld 0x00 0x028 0 16).fits) (h : (pageFld 0x00 0x028 0 16).apart f) :
    (s.retryPass 0x00).rd f = s.rd f := (State.rd_regs (State.record_regs ..) _).trans (State.rd_bump_apart _ _ _ _ hf h)

theorem State.retryPass_pair (s : State) : (s.retryPass 0x00).pair = s.pair := by
  rw [State.retryPass, State.record_pair, State.bump_pair]

end StartEnd

/-- Settles O9: what comes after the mode at the end of a start writes neither the mode's word nor the count of retries. -/
theorem startEnds : Obligations.StartEnds := by
  unfold Obligations.StartEnds
  refine ⟨?_, ?_, ?_⟩
  · intro s hp hb hf hr hc
    obtain ⟨h1, h2, _⟩ := State.startEnds_spec hc
    exact .of_eq (exec_startComplete_ready hp hb hf hr (by decide)) rfl ⟨h1, h2⟩
  · intro s hp hb hf hr hc
    have hc' : (s.retryPass 0x00).claimBarred = false := (State.claimBarred_congr (s.retryPass_rd _ (by decide) (by decide)) s.retryPass_pair).trans hc
    obtain ⟨h1, h2, h3⟩ := State.startEnds_spec hc'
    have hl : (s.retryPass 0x00).on F.CROWN_MODE_SAFE_LATCH = s.on F.CROWN_MODE_SAFE_LATCH :=
      State.on_of_rd (s.retryPass_rd _ (by decide) (by decide))
    rw [hl] at h2
    refine .of_eq (exec_startComplete_ready hp hb hf hr (by decide)) (by rw [if_pos rfl]) ⟨h1, h2, h3.trans ?_⟩
    exact (State.rd_regs (State.record_regs ..) _).trans (State.rd_bump _ _ _ (by decide))
  · intro s hp hb hf
    obtain ⟨h1, h2, h3⟩ := State.startFails_spec hf
    exact .of_eq (exec_startComplete_failed hp hb) rfl ⟨h1, h2, h3.1, h3.2⟩

end Sys2Proof.Machine
end

section
/-!
O45: claims, heartbeats, echoes and notices of a pair. What a handed-over claim leaves, and what a change of READY keeps.
-/
set_option Elab.async false
namespace Sys2Proof.Machine
open Sys2Proof

section Claims
variable {s t u : State}

/-! ## A claim given up -/

theorem not_stopWords_pair {a : Nat} (h : pageOf a ∈ [0x38, 0x39, 0x41]) : ¬ StopWords a := by
  simp only [pageOf, List.mem_cons, List.not_mem_nil, or_false, StopWords] at h ⊢
  omega

variable (s)

/-- The claim given up, before the words of the role: gates, enables, the run and a launched apply. -/
def State.claimDown : State :=
  let s := ((s.gatesOff.freezeAll true).dropEnables).abortRun 3
  (if s.rd F.CROWN_STAGE_CTRL_STATE == 5 then s.cancelApply 0xB else s).endSequence

/-- The words of a unit without a claim. -/
def State.unclaimed (role : Nat) : State := ((s.wr F.CLAIM_STATUS_OWN 0).wr F.PAIR_STATUS_ROLE role).wr F.IMAGE_DO_DO 0

theorem State.giveUpClaim_eq (role : Nat) : s.giveUpClaim role = ((s.claimDown.unclaimed role).stopRing).driveCool := rfl

theorem State.claimDown_where : OnlyWhere StopWords s s.claimDown := by
  unfold State.claimDown
  extract_lets u
  have hu : OnlyWhere StopWords s u :=
    (((s.gatesOff_where).trans (State.freezeAll_where _ _)).trans (State.dropEnables_where _)).trans (State.abortRun_where _ _)
  clear_value u
  exact (hu.trans (.ite (State.cancelApply_stop _ _) .refl)).trans (State.endSequence_where _)

theorem State.unclaimed_spec {role : Nat} (hr : role < 4) : (s.unclaimed role).rd F.CLAIM_STATUS_OWN = 0 ∧
    (s.unclaimed role).rd F.PAIR_STATUS_ROLE = role ∧ (s.unclaimed role).rd F.IMAGE_DO_DO = 0 ∧
    OnlyFields [F.CLAIM_STATUS_OWN, F.PAIR_STATUS_ROLE, F.IMAGE_DO_DO] s (s.unclaimed role) := by
  unfold State.unclaimed
  refine ⟨?_, ?_, ?_, ((OnlyFields.refl.wr _ (by decide) (by decide)).wr _ (by decide) (by decide)).wr _ (by decide) (by decide)⟩
  · rw [State.rd_wr_apart _ _ _ _ (by decide) (by decide), State.rd_wr_apart _ _ _ _ (by decide) (by decide), State.rd_wr _ _ _ (by decide)]
    rfl
  · rw [State.rd_wr_apart _ _ _ _ (by decide) (by decide), State.rd_wr _ _ _ (by decide)]
    exact Nat.mod_eq_of_lt hr
  · rw [State.rd_wr _ _ _ (by decide)]
    rfl

theorem State.driveCool_pages : OnlyPages [0x2C] s s.driveCool :=
  .foldl .refl fun _ j hj => OnlyPages.refl.wr (by
    have hj := List.mem_range.1 hj
    simp only [pageOf, List.mem_singleton]
    omega)

/-- The ring stopped and the cooling held write neither the words of the claim nor those of the role and the outputs. -/
theorem State.claimOff_rd {f : Fld} (h : pageOf f.addr ∈ [0x38, 0x39, 0x41]) : (s.stopRing.driveCool).rd f = s.rd f := by
  simp only [List.mem_cons, List.not_mem_nil, or_false] at h
  refine (s.stopRing.driveCool_pages.rd ?_).trans (s.stopRing_pages.rd ?_)
  · rw [List.mem_singleton]
    omega
  · rw [List.mem_singleton]
    omega

theorem State.giveUpClaim_spec {role : Nat} (hr : role < 4) : (s.giveUpClaim role).rd F.CLAIM_STATUS_OWN = 0 ∧
    (s.giveUpClaim role).rd F.PAIR_STATUS_ROLE = role ∧ (s.giveUpClaim role).rd F.IMAGE_DO_DO = 0 := by
  obtain ⟨ho, hl, hd, _⟩ := s.claimDown.unclaimed_spec hr
  rw [State.giveUpClaim_eq]
  exact ⟨(State.claimOff_rd _ (by decide)).trans ho, (State.claimOff_rd _ (by decide)).trans hl, (State.claimOff_rd _ (by decide)).trans hd⟩

/-- A field of the claim's page that is not the own claim is kept. -/
theorem State.giveUpClaim_rd {role : Nat} (hr : role < 4) {f : Fld} (hp : pageOf f.addr = 0x39) (hf : F.CLAIM_STATUS_OWN.apart f) :
    (s.giveUpClaim role).rd f = s.rd f := by
  obtain ⟨_, _, _, hu⟩ := s.claimDown.unclaimed_spec hr
  rw [State.giveUpClaim_eq, State.claimOff_rd _ (by rw [hp]; decide)]
  have hn : ∀ g : Fld, pageOf g.addr ≠ 0x39 → g.addr ≠ f.addr := fun g hg he => hg ((congrArg pageOf he).trans hp)
  refine (hu.rd fun g hg => ?_).trans (s.claimDown_where.rd (not_stopWords_pair (by rw [hp]; decide)))
  simp only [List.mem_cons, List.not_mem_nil, or_false] at hg
  rcases hg with rfl | rfl | rfl
  · exact hf
  · exact .inl (hn _ (by decide))
  · exact .inl (hn _ (by decide))

/-! ## Relinquishing to a READY partner -/

/-- What follows the claim given up to the partner. -/
def State.handedOver (cause : Nat) : State :=
  let s := ((s.wr F.PAIR_LASTSW_CAUSE cause).bump F.PAIR_SWITCHES_RELINQS).raise 0x38 1
  let s := s.wrB F.PAIR_STATUS_READY false
  let s := { s with pair := { s.pair with t0 := s.mono, freset := false } }.send (.relinquish cause)
  s.record 6 0x38 .relinquished (cause :: s.pair.almSeqs.map fun (n : Nat) => (n : Int))

theorem State.relinquishOr_ready {cause : Nat} {f : State → State} (h1 : s.rd F.PAIR_STATUS_ROLE = 1) (h2 : s.on F.PAIR_STATUS_PARTNER_READY = true)
    (h3 : s.on F.PAIR_STATUS_LINK_UP = true) : s.relinquishOr cause f = (s.giveUpClaim 3).handedOver cause :=
  if_pos (by rw [h1, h2, h3]; decide)

theorem State.relinquishOr_alone {cause : Nat} {f : State → State} (h : (s.on F.PAIR_STATUS_PARTNER_READY && s.on F.PAIR_STATUS_LINK_UP) = false) :
    s.relinquishOr cause f = f s :=
  if_neg (by rw [Bool.and_assoc, h, Bool.and_false]; decide)

/-- The fields that a claim handed over writes. -/
def handFlds : List Fld := [F.PAIR_LASTSW_CAUSE, F.PAIR_SWITCHES_RELINQS, evtStatus 0x38, F.PAIR_STATUS_READY]

theorem State.handedOver_spec (cause : Nat) : (s.handedOver cause).rd F.PAIR_LASTSW_CAUSE = cause % 256 ∧ OnlyFields handFlds s (s.handedOver cause) := by
  unfold State.handedOver
  extract_lets v w x
  have hv : v.rd F.PAIR_LASTSW_CAUSE = cause % 256 := by
    unfold v
    rw [State.rd_raise _ _ _ _ (by decide), State.rd_bump_apart _ _ _ _ (by decide) (by decide), State.rd_wr _ _ _ (by decide)]
    rfl
  have hf : OnlyFields handFlds s v := ((OnlyFields.refl.wr _ (by decide) (by decide)).bump _ (by decide) (by decide)).raise _ (by decide)
  clear_value v
  have hw : w.rd F.PAIR_LASTSW_CAUSE = cause % 256 := (State.rd_wrB_apart _ _ _ _ (by decide) (by decide)).trans hv
  have hg : OnlyFields handFlds s w := hf.wrB _ (by decide) (by decide)
  clear_value w
  exact ⟨(State.rd_regs (State.record_regs ..) _).trans hw, hg.upd (State.record_regs ..)⟩

/-- An active unit that relinquishes is without a claim, in role 3, with its cause shown. -/
theorem State.relinquished_spec (cause : Nat) : ((s.giveUpClaim 3).handedOver cause).rd F.PAIR_STATUS_ROLE = 3 ∧
    ((s.giveUpClaim 3).handedOver cause).rd F.CLAIM_STATUS_OWN = 0 ∧ ((s.giveUpClaim 3).handedOver cause).rd F.PAIR_LASTSW_CAUSE = cause % 256 ∧
    ((s.giveUpClaim 3).handedOver cause).rd F.CLAIM_MON_LINK_FAULT = s.rd F.CLAIM_MON_LINK_FAULT := by
  obtain ⟨ho, hl, _⟩ := s.giveUpClaim_spec (role := 3) (by decide)
  have hm := s.giveUpClaim_rd (role := 3) (by decide) (f := F.CLAIM_MON_LINK_FAULT) (by decide) (by decide)
  generalize s.giveUpClaim 3 = u at ho hl hm ⊢
  obtain ⟨hc, hf⟩ := u.handedOver_spec cause
  exact ⟨(hf.rd (by decide)).trans hl, (hf.rd (by decide)).trans ho, hc, (hf.rd (by decide)).trans hm⟩

/-! ## READY -/

theorem State.refreshReady_other (h : s.rd F.PAIR_STATUS_ROLE ≠ 2) : s.refreshReady = s := if_neg (by simpa using h)

theorem State.refreshReady_fields : OnlyFields [F.PAIR_STATUS_READY, evtStatus 0x38] s s.refreshReady :=
  .ite (.ite .refl ((OnlyFields.refl.wrB _ (by decide) (by decide)).raise _ (by decide))) .refl

theorem State.refreshReady_pair : s.refreshReady.pair = s.pair := by
  unfold State.refreshReady State.setReady
  split
  · split
    · rfl
    · rw [State.raise_pair, State.wrB_pair]
  · rfl

theorem State.refreshReady_out : s.refreshReady.out = s.out := by
  unfold State.refreshReady State.setReady
  split
  · split
    · rfl
    · rw [State.raise_out, State.wrB_out]
  · rfl

theorem State.refreshReady_bit {j : Nat} (hj : j < 32) (h2 : 2 ≠ j) (h3 : 3 ≠ j) : s.refreshReady.bit (evtStatus 0x38) j = s.bit (evtStatus 0x38) j := by
  unfold State.refreshReady State.setReady
  split
  · split
    · rfl
    · rw [State.bit_raise_ne hj (by split <;> assumption)]
      exact State.bit_rd (State.rd_wrB_apart _ _ _ _ (by decide) (by decide)) _
  · rfl

/-! ## The frame that goes out -/

/-- The next claim frame and its echo are out. -/
def State.claimOut : State :=
  ({ s with pair := { s.pair with hb := (s.pair.hb + 1) % 256 } }.send (.claim (claimFrame (s.rd F.CLAIM_STATUS_OWN) s.pair.hb))).send
    (.echo (s.rd F.CLAIM_STATUS_OWN) s.pair.hb)

theorem State.claimOut_regs : s.claimOut.regs = s.regs := by
  rw [State.claimOut, State.send_regs, State.send_regs]

theorem State.claimOut_rd (f : Fld) : s.claimOut.rd f = s.rd f := State.rd_regs s.claimOut_regs f

theorem State.claimOut_pair : s.claimOut.pair = { s.pair with hb := (s.pair.hb + 1) % 256 } := by
  rw [State.claimOut, State.send_pair, State.send_pair]

theorem State.claimOut_out : s.claimOut.out = s.out ++ [.claim (claimFrame (s.rd F.CLAIM_STATUS_OWN) s.pair.hb), .echo (s.rd F.CLAIM_STATUS_OWN) s.pair.hb] := by
  simp only [State.claimOut, State.send, List.append_assoc, List.cons_append, List.nil_append]

/-- The readback of the last frame noted. -/
def State.readbackNoted (b : Bool) : State := { s with pair := { s.pair with readback := b } }

/-- A link fault shown with its event, and as lasting. -/
def State.linkFaulty : State := (((s.readbackNoted false).wrB F.CLAIM_MON_LINK_FAULT true).raise 0x39 2).lasting 0x39 (evCode 0x39 .linkFault)

/-- What a readback does after the frame went out. -/
def State.readBack (ok : Bool) : State :=
  if s.on F.CLAIM_MON_LINK_FAULT then s
  else if ok then (if s.pair.readback then ((s.readbackNoted false).bump F.CLAIM_READBACK_MISMATCH).retryPass 0x39 else s)
  else if !s.pair.readback then s.readbackNoted true
  else if s.linkFaulty.refreshReady.rd F.PAIR_STATUS_ROLE == 1 then s.linkFaulty.refreshReady.relinquishOr 4 fun s => s.react .H 0x39 .linkFault [] 9
    else s.linkFaulty.refreshReady.record 3 0x39 .linkFault

theorem exec_claimFrameTx (ok : Bool) (hp : s.crown.phase = .complete) (hm : s.mode ≠ .transport) :
    exec (.claimFrameTx ok) s = .next (s.claimOut.genCheck.readBack ok) := by
  change execClaimFrameTx ok s = _
  unfold execClaimFrameTx
  rw [if_neg (by simp [hp, hm])]
  extract_lets n x u f v
  have hu : u = s.claimOut.genCheck := rfl
  rw [← hu]
  clear_value u
  unfold State.readBack
  split
  · rfl
  · split
    · rfl
    · split
      · rfl
      · rw [apply_ite Host.Outcome.next]
        rfl

theorem State.genCheck_below (h : s.rd F.CLAIM_GEN_G < 0x7FFF) : s.genCheck = s := if_pos (by simp [h])

theorem State.linkFaulty_spec : s.linkFaulty.rd F.CLAIM_MON_LINK_FAULT = 1 ∧ OnlyPages [0x39] s s.linkFaulty := by
  unfold State.linkFaulty State.lasting
  refine ⟨?_, ?_⟩
  · rw [State.rd_bump_apart _ _ _ _ (by decide) (by decide), State.rd_wr_apart _ _ _ _ (by decide) (by decide), State.rd_raise _ _ _ _ (by decide),
      State.rd_wrB _ _ _ (by decide) (by decide)]
    rfl
  · exact ((((OnlyPages.of_regs (State.mk_regs ..)).wrB (by decide)).raise (by decide)).wr (by decide)).bump (by decide)

/-- The second failing readback shows the link fault; what an active unit does then comes after it. -/
theorem State.readBack_fails (hl : s.on F.CLAIM_MON_LINK_FAULT = false) (hb : s.pair.readback = true) (h1 : s.rd F.PAIR_STATUS_ROLE = 1) :
    s.readBack false = s.linkFaulty.relinquishOr 4 fun s => s.react .H 0x39 .linkFault [] 9 := by
  have hr : s.linkFaulty.rd F.PAIR_STATUS_ROLE = 1 := (s.linkFaulty_spec.2.rd (by decide)).trans h1
  unfold State.readBack
  rw [if_neg (by simp [hl]), if_neg (by simp), if_neg (by simp [hb]), State.refreshReady_other _ (by rw [hr]; decide), if_pos (by simp [hr])]

/-- The end of the generations noted. -/
def State.genEnded : State := { s with pair := { s.pair with exhausted := true } }.raise 0x39 4

/-- A generation that is used up has an active unit relinquish. -/
theorem State.genCheck_exhausted (hg : s.rd F.CLAIM_GEN_G = 0x7FFF) (he : s.pair.exhausted = false) (h1 : s.rd F.PAIR_STATUS_ROLE = 1)
    (h2 : s.on F.PAIR_STATUS_PARTNER_READY = true) (h3 : s.on F.PAIR_STATUS_LINK_UP = true) :
    s.genCheck = (s.genEnded.giveUpClaim 3).handedOver 8 := by
  have hw : OnlyPages [0x39] s s.genEnded := (OnlyPages.of_regs (State.mk_regs ..)).raise (by decide)
  have hg : s.genCheck = s.genEnded.relinquishOr 8 fun s => s.react .W 0x39 .genExhausted := if_neg (by simp [hg, he, h1])
  rw [hg]
  exact State.relinquishOr_ready _ ((hw.rd (by decide)).trans h1) ((State.on_of_rd (hw.rd (by decide))).trans h2)
    ((State.on_of_rd (hw.rd (by decide))).trans h3)

/-- What a readback does shows no other role and claim in a unit that has relinquished. -/
theorem State.readBack_fields (ok : Bool) (h : s.rd F.PAIR_STATUS_ROLE = 3) :
    (s.readBack ok).rd F.PAIR_STATUS_ROLE = 3 ∧ (s.readBack ok).rd F.CLAIM_STATUS_OWN = s.rd F.CLAIM_STATUS_OWN ∧
    (ok = true → (s.readBack ok).rd F.PAIR_LASTSW_CAUSE = s.rd F.PAIR_LASTSW_CAUSE) := by
  have hk : OnlyWhere (fun a => pageOf a = 0x39 ∧ a ≠ 0x3900C) s (s.readBack ok) := by
    have hf : OnlyWhere (fun a => pageOf a = 0x39 ∧ a ≠ 0x3900C) s s.linkFaulty := by
      unfold State.linkFaulty State.lasting
      exact ((((OnlyWhere.of_regs (State.mk_regs ..)).wrB (by decide)).raise (by decide)).wr (by decide)).bump (by decide)
    have hr : s.linkFaulty.rd F.PAIR_STATUS_ROLE = 3 := (hf.rd (by decide)).trans h
    unfold State.readBack
    rw [State.refreshReady_other _ (by rw [hr]; decide), if_neg (c := (s.linkFaulty.rd F.PAIR_STATUS_ROLE == 1) = true) (by rw [hr]; decide)]
    refine .ite .refl (.ite (.ite ?_ .refl) (.ite (.of_regs (State.mk_regs ..)) (hf.upd (State.record_regs ..))))
    exact (((OnlyWhere.of_regs (State.mk_regs ..)).bump (by decide)).bump (by decide)).upd (State.record_regs ..)
  exact ⟨(hk.rd (by decide)).trans h, hk.rd (by decide), fun _ => hk.rd (by decide)⟩

/-! ## A frame that comes in -/

/-- The partner's frame seen: its presence and its heartbeat. -/
def State.frameSeen (hb : Nat) : State :=
  let s := if s.on F.CLAIM_MON_PRESENT then s else (s.wrB F.CLAIM_MON_PRESENT true).raise 0x39 1
  { s.wr F.CLAIM_MON_HB hb with pair := { s.pair with rxHb := some hb } }

variable {claim : BitVec 16} {hb : BitVec 8} {line : ClaimLine}

theorem exec_claimFrameRx (hp : s.on F.PAIR_CFG_PAIRED = true) (hs : line.symbols = true) (hc : line.crc.toNat = claimCrc claim.toNat hb.toNat)
    (hu : (claim.toNat != 0 && claim.toNat % 2 == s.unitBit) = false) (hh : (s.pair.rxHb.any fun p => (p + 1) % 256 != hb.toNat) = false) :
    exec (.claimFrameRx claim hb line) s = .next ((s.frameSeen hb.toNat).partnerClaim claim.toNat) := by
  change execClaimFrameRx claim hb line s = _
  unfold execClaimFrameRx
  extract_lets n
  rw [if_neg (by simp [hp]), if_neg (by simp [hs, hc, n]), if_neg (by simp only [n, hu]; decide), if_neg (by simp only [hh]; decide)]
  rfl

theorem State.frameSeen_spec : (s.frameSeen hb.toNat).rd F.CLAIM_MON_HB = hb.toNat ∧ (s.frameSeen hb.toNat).pair.rxHb = some hb.toNat ∧
    OnlyWhere (fun a => pageOf a = 0x39 ∧ a ≠ 0x3900C) s (s.frameSeen hb.toNat) := by
  unfold State.frameSeen
  extract_lets v
  have hv : OnlyWhere (fun a => pageOf a = 0x39 ∧ a ≠ 0x3900C) s v := .ite .refl ((OnlyWhere.refl.wrB (by decide)).raise (by decide))
  clear_value v
  refine ⟨?_, rfl, (hv.wr (by decide)).upd (State.mk_regs ..)⟩
  rw [State.rd_regs (State.mk_regs ..), State.rd_wr _ _ _ (by decide)]
  exact Nat.mod_eq_of_lt hb.isLt

/-- The partner's claim shown. -/
def State.claimShown (n : Nat) : State :=
  let s := s.wr F.CLAIM_STATUS_PARTNER n
  { s with pair := { s.pair with partnerGen := if n = 0 then s.pair.partnerGen else n / 2 } }

theorem State.claimShown_spec (h : s.pair.rxHb = some hb.toNat) : (s.claimShown claim.toNat).rd F.CLAIM_STATUS_PARTNER = claim.toNat ∧
    (s.claimShown claim.toNat).pair.rxHb = some hb.toNat ∧ OnlyFields [F.CLAIM_STATUS_PARTNER] s (s.claimShown claim.toNat) := by
  unfold State.claimShown
  refine ⟨?_, h, (OnlyFields.refl.wr _ (by decide) (by decide)).upd (State.mk_regs ..)⟩
  rw [State.rd_regs (State.mk_regs ..), State.rd_wr _ _ _ (by decide)]
  exact Nat.mod_eq_of_lt claim.isLt

theorem State.partnerClaim_none (h : s.rd F.CLAIM_STATUS_PARTNER = 0) : s.partnerClaim 0 = (s.claimShown 0).refreshReady := by
  unfold State.partnerClaim
  extract_lets before
  rw [if_neg (by decide), if_neg (by simp [before, h])]
  rfl

/-- Unit B's wait for a claim over. -/
def State.waitEnded : State := { s with pair := { s.pair with waiting := false } }

/-- Of a claim above an active unit's own the unit becomes the standby. -/
theorem State.partnerClaim_higher {n : Nat} (h1 : s.rd F.PAIR_STATUS_ROLE = 1) (h : s.rd F.CLAIM_STATUS_OWN < n) :
    s.partnerClaim n = ((s.claimShown n).waitEnded.giveUpClaim 2).refreshReady := by
  have hf : OnlyFields [F.CLAIM_STATUS_PARTNER] s (s.claimShown n).waitEnded :=
    ((OnlyFields.refl.wr _ (by decide) (by decide)).upd (State.mk_regs ..)).upd (State.mk_regs ..)
  have h1' := (hf.rd (g := F.PAIR_STATUS_ROLE) (by decide)).trans h1
  have ho := hf.rd (g := F.CLAIM_STATUS_OWN) (by decide)
  unfold State.partnerClaim
  extract_lets before v x w y z
  have hz : z = (s.claimShown n).waitEnded := rfl
  rw [← hz] at h1' ho ⊢
  clear_value z
  rw [if_pos (by simp; omega), if_pos (by simp [h1', ho, h])]

/-! ## Heartbeats -/

theorem exec_heartbeatTx (hm : s.mode ≠ .transport) (hp : s.on F.PAIR_CFG_PAIRED = true) : exec .heartbeatTx s = .next (s.refreshReady.send
    (.heartbeat (s.refreshReady.on F.PAIR_STATUS_READY) (if s.refreshReady.pair.openStrap then none else some (s.refreshReady.rd F.PAIR_STATUS_UNIT)))) := by
  change execHeartbeatTx s = _
  unfold execHeartbeatTx
  rw [if_neg (by simp [hm, hp])]

/-- The link and READY of the partner shown, of a heartbeat that names no unit. -/
def State.partnerShown (ready : Bool) : State :=
  { (s.wrB F.PAIR_STATUS_LINK_UP true).wrB F.PAIR_STATUS_PARTNER_READY ready with pair := { s.pair with sameUnit := s.pair.sameUnit || false } }

/-- A heartbeat taken, before READY is judged again. -/
def State.beatTaken (ready : Bool) : State :=
  if s.on F.PAIR_STATUS_LINK_UP then s.partnerShown ready
  else (s.partnerShown ready).mirror (.formats ((s.partnerShown ready).runImage.format 6) (s.partnerShown ready).runImage.mirMin)

theorem State.mirror_sameUnit (m : Mirror) : (s.mirror m).pair.sameUnit = s.pair.sameUnit := by
  unfold State.mirror
  split <;> rfl

theorem State.partnerShown_spec (ready : Bool) : (s.partnerShown ready).rd F.PAIR_STATUS_LINK_UP = 1 ∧
    (s.partnerShown ready).rd F.PAIR_STATUS_PARTNER_READY = (if ready then 1 else 0) ∧ (s.partnerShown ready).pair = s.pair := by
  unfold State.partnerShown
  refine ⟨(State.rd_regs (State.mk_regs ..) _).trans ?_, (State.rd_regs (State.mk_regs ..) _).trans ?_, ?_⟩
  · rw [State.rd_wrB_apart _ _ _ _ (by decide) (by decide), State.rd_wrB _ _ _ (by decide) (by decide)]
    rfl
  · rw [State.rd_wrB _ _ _ (by decide) (by decide)]
  · exact congrArg (fun b => { s.pair with sameUnit := b }) (Bool.or_false _)

theorem State.beatTaken_spec (ready : Bool) : (s.beatTaken ready).rd F.PAIR_STATUS_LINK_UP = 1 ∧
    (s.beatTaken ready).rd F.PAIR_STATUS_PARTNER_READY = (if ready then 1 else 0) ∧ (s.beatTaken ready).pair.sameUnit = s.pair.sameUnit ∧
    (s.on F.PAIR_STATUS_LINK_UP = true → (s.beatTaken ready).pair = s.pair) := by
  obtain ⟨hl, hr, hp⟩ := s.partnerShown_spec ready
  have hu := fun m => State.rd_regs (((s.partnerShown ready).mirror_pair m).regs (by decide))
  unfold State.beatTaken
  split
  · exact ⟨hl, hr, congrArg Pair.sameUnit hp, fun _ => hp⟩
  next h => exact ⟨(hu _ _).trans hl, (hu _ _).trans hr, (State.mirror_sameUnit ..).trans (congrArg Pair.sameUnit hp), fun h' => absurd h' h⟩

theorem exec_heartbeatRx (ready : Bool) (hp : s.on F.PAIR_CFG_PAIRED = true) :
    exec (.heartbeatRx ready none) s = .next (s.beatTaken ready).refreshReady := by
  change execHeartbeatRx ready none s = _
  unfold execHeartbeatRx
  extract_lets same newly up x v w y z
  have hn : newly = false := by simp [newly, same]
  have hz : z = (s.beatTaken ready).refreshReady := rfl
  rw [if_neg (by simp [hp]), if_neg (by simp [hn]), hz]

/-- The link to the partner lost, with its event. -/
def State.linkGone : State := ((s.wrB F.PAIR_STATUS_LINK_UP false).wrB F.PAIR_STATUS_PARTNER_READY false).raise 0x38 4

theorem State.linkGone_spec : s.linkGone.rd F.PAIR_STATUS_LINK_UP = 0 ∧ s.linkGone.rd F.PAIR_STATUS_PARTNER_READY = 0 ∧
    s.linkGone.bit (evtStatus 0x38) 4 = true ∧ s.linkGone.pair = s.pair := by
  unfold State.linkGone
  refine ⟨?_, ?_, State.bit_raise _ (by decide), by rw [State.raise_pair, State.wrB_pair, State.wrB_pair]⟩
  · rw [State.rd_raise _ _ _ _ (by decide), State.rd_wrB_apart _ _ _ _ (by decide) (by decide), State.rd_wrB _ _ _ (by decide) (by decide)]
    rfl
  · rw [State.rd_raise _ _ _ _ (by decide), State.rd_wrB _ _ _ (by decide) (by decide)]
    rfl

end Claims

/-- Settles O45: a claim given up leaves the unit's words as its last writes, and what follows is off those words. -/
theorem pairClaims : Obligations.PairClaims := by
  unfold Obligations.PairClaims
  refine ⟨?_, ?_, ?_, ?_, ?_, ?_, ?_, ?_, ?_, ?_, ?_, ?_, ?_, ?_, ?_, ?_⟩
  · intro s hp hm hg hl hb
    refine .of_eq (exec_claimFrameTx s true hp hm) rfl ?_
    have hb' : s.claimOut.pair.readback = false := (congrArg Pair.readback s.claimOut_pair).trans hb
    have hl' : s.claimOut.on F.CLAIM_MON_LINK_FAULT = false := (State.on_of_rd (s.claimOut_rd _)).trans hl
    rw [State.genCheck_below _ (by rwa [State.claimOut_rd]), State.readBack, if_neg (by simp [hl']), if_pos rfl, if_neg (by simp [hb'])]
    exact ⟨congrArg Pair.hb s.claimOut_pair, s.claimOut_out, s.claimOut_regs⟩
  · intro s hp hm hg hl hb
    refine .of_eq (exec_claimFrameTx s false hp hm) rfl ?_
    have hb' : s.claimOut.pair.readback = false := (congrArg Pair.readback s.claimOut_pair).trans hb
    have hl' : s.claimOut.on F.CLAIM_MON_LINK_FAULT = false := (State.on_of_rd (s.claimOut_rd _)).trans hl
    rw [State.genCheck_below _ (by rwa [State.claimOut_rd]), State.readBack, if_neg (by simp [hl']), if_neg (by decide), if_pos (by simp [hb'])]
    exact ⟨rfl, s.claimOut_regs⟩
  · intro s hp hg hl hb h1 hr hs
    refine .of_eq (exec_claimFrameTx s false hp (State.not_transport_of_canStop hs)) rfl ?_
    have hu := s.claimOut.readBack_fails ((State.on_of_rd (s.claimOut_rd _)).trans hl) ((congrArg Pair.readback s.claimOut_pair).trans hb) ((s.claimOut_rd _).trans h1)
    obtain ⟨hf, hw⟩ := s.claimOut.linkFaulty_spec
    have hw := (OnlyPages.of_regs s.claimOut_regs).trans hw
    rw [State.genCheck_below _ (by rwa [State.claimOut_rd]), hu, State.relinquishOr_alone _ ?_]
    · refine ⟨((State.react_where _ _ _ _ _ _ _).rd (not_stopWords_pair (by decide))).trans hf, State.react_stopping _ _ _ _ _ _ _ (.inr rfl) ?_⟩
      exact (State.canStop_of (hw.mode (by decide)) (hw.rd (by decide))).trans hs
    · rw [State.on_of_rd (hw.rd (by decide)), State.on_of_rd (hw.rd (f := F.PAIR_STATUS_LINK_UP) (by decide)), hr]
  · intro s hp hm hg hl hb h1 hr hu
    refine .of_eq (exec_claimFrameTx s false hp hm) rfl ?_
    have hk := s.claimOut.readBack_fails ((State.on_of_rd (s.claimOut_rd _)).trans hl) ((congrArg Pair.readback s.claimOut_pair).trans hb) ((s.claimOut_rd _).trans h1)
    obtain ⟨hf, hw⟩ := s.claimOut.linkFaulty_spec
    have hw := (OnlyPages.of_regs s.claimOut_regs).trans hw
    rw [State.genCheck_below _ (by rwa [State.claimOut_rd]), hk, State.relinquishOr_ready _ ((hw.rd (by decide)).trans h1)
      ((State.on_of_rd (hw.rd (by decide))).trans hr) ((State.on_of_rd (hw.rd (by decide))).trans hu)]
    obtain ⟨ht, ho, hc, hm⟩ := s.claimOut.linkFaulty.relinquished_spec 4
    exact ⟨hm.trans hf, ht, ho, hc⟩
  · intro ok s hp hm hg he h1 hr hu
    refine .of_eq (exec_claimFrameTx s ok hp hm) rfl ?_
    have hv := s.claimOut.genCheck_exhausted
      ((s.claimOut_rd _).trans hg) ((congrArg Pair.exhausted s.claimOut_pair).trans he) ((s.claimOut_rd _).trans h1)
      ((State.on_of_rd (s.claimOut_rd _)).trans hr) ((State.on_of_rd (s.claimOut_rd _)).trans hu)
    obtain ⟨ht, ho, hc, _⟩ := s.claimOut.genEnded.relinquished_spec 8
    rw [hv]
    obtain ⟨h3, h4, h5⟩ := State.readBack_fields ((s.claimOut.genEnded.giveUpClaim 3).handedOver 8) ok ht
    exact ⟨h3, h4.trans ho, fun hk => (h5 hk).trans hc⟩
  · intro claim hb line s hp hx
    refine .of_eq (u := s.bump F.CLAIM_ERRS_CRC_ERR) ?_ rfl ⟨State.rd_bump _ _ _ (by decide), OnlyFields.refl.bump _ (by decide) (by decide)⟩
    change execClaimFrameRx claim hb line s = _
    unfold execClaimFrameRx
    rw [if_neg (by simp [hp]), if_pos (by rw [hx]; rfl)]
  · intro hb line s hp hs hc hh hm hz
    obtain ⟨h1, h2, h3⟩ := s.frameSeen_spec (hb := hb)
    refine .of_eq (exec_claimFrameRx s (claim := 0) hp hs hc rfl hh) (State.partnerClaim_none _ ((h3.rd (by decide)).trans hz)) ?_
    obtain ⟨c1, c2, c3⟩ := (s.frameSeen hb.toNat).claimShown_spec (claim := 0) h2
    have hr := State.refreshReady_fields ((s.frameSeen hb.toNat).claimShown 0)
    refine ⟨?_, (hr.rd (by decide)).trans c1, (congrArg Pair.rxHb (State.refreshReady_pair _)).trans c2, ?_⟩
    · exact ((hr.rd (by decide)).trans (c3.rd (by decide))).trans h1
    · exact ((hr.rd (by decide)).trans (c3.rd (by decide))).trans (h3.rd (by decide))
  · intro claim hb line s hp hs hc hh hz
    refine .of_eq (u := s.bump F.CLAIM_ERRS_HB_ERR) ?_ rfl ⟨State.rd_bump _ _ _ (by decide), OnlyFields.refl.bump _ (by decide) (by decide)⟩
    change execClaimFrameRx claim hb line s = _
    unfold execClaimFrameRx
    rw [if_neg (by simp [hp]), if_neg (by simp [hs, hc]), if_neg (by simp [hz]), if_pos hh]
  · intro claim hb line s hp hs hc hh h1 hlt hu
    obtain ⟨_, h2, h3⟩ := s.frameSeen_spec (hb := hb)
    have ho : (s.frameSeen hb.toNat).rd F.CLAIM_STATUS_OWN < claim.toNat := by rwa [h3.rd (by decide)]
    refine .of_eq (exec_claimFrameRx s hp hs hc (by simp [hu]) hh) (State.partnerClaim_higher _ ((h3.rd (by decide)).trans h1) ho) ?_
    obtain ⟨c1, _, _⟩ := (s.frameSeen hb.toNat).claimShown_spec (claim := claim) h2
    have hv : ((s.frameSeen hb.toNat).claimShown claim.toNat).waitEnded.rd F.CLAIM_STATUS_PARTNER = claim.toNat := (State.rd_regs (State.mk_regs ..) _).trans c1
    generalize ((s.frameSeen hb.toNat).claimShown claim.toNat).waitEnded = u at hv ⊢
    obtain ⟨g1, g2, g3⟩ := u.giveUpClaim_spec (role := 2) (by decide)
    have g4 := (u.giveUpClaim_rd (role := 2) (by decide) (f := F.CLAIM_STATUS_PARTNER) (by decide) (by decide)).trans hv
    have hr := (u.giveUpClaim 2).refreshReady_fields
    exact ⟨(hr.rd (by decide)).trans g4, (hr.rd (by decide)).trans g2, (hr.rd (by decide)).trans g1, (hr.rd (by decide)).trans g3⟩
  · intro claim hb line s hp hs hc hz hu
    refine .of_eq (u := s) ?_ rfl rfl
    change execClaimFrameRx claim hb line s = _
    unfold execClaimFrameRx
    rw [if_neg (by simp [hp]), if_neg (by simp [hs, hc]), if_pos (by simp [hz, hu])]
  · intro s hm hp
    refine .of_eq (exec_heartbeatTx s hm hp) rfl ⟨?_, s.refreshReady_pair⟩
    rw [State.send, s.refreshReady_out, s.refreshReady_pair, s.refreshReady_fields.rd (g := F.PAIR_STATUS_UNIT) (by decide)]
    rfl
  · intro ready s hp hs
    obtain ⟨b1, b2, b3, b4⟩ := s.beatTaken_spec ready
    have hr := (s.beatTaken ready).refreshReady_fields
    have hq := (s.beatTaken ready).refreshReady_pair
    exact .of_eq (exec_heartbeatRx s ready hp) rfl ⟨(hr.rd (by decide)).trans b1, (hr.rd (by decide)).trans b2,
      ((congrArg Pair.sameUnit hq).trans b3).trans hs, fun hu => hq.trans (b4 hu)⟩
  · intro s hu
    refine .of_eq (u := s.linkGone.refreshReady) ?_ rfl ?_
    · exact if_pos hu
    · obtain ⟨l1, l2, l3, l4⟩ := s.linkGone_spec
      have hr := s.linkGone.refreshReady_fields
      exact ⟨(hr.rd (by decide)).trans l1, (hr.rd (by decide)).trans l2, (State.refreshReady_bit _ (by decide) (by decide) (by decide)).trans l3,
        (State.refreshReady_pair _).trans l4⟩
  · intro claim s
    exact .of_eq (u := { s with pair := { s.pair with echo := some claim.toNat } }) rfl rfl ⟨rfl, State.mk_regs ..⟩
  · intro cause s hm
    exact .of_eq (u := { s with pair := { s.pair with notice := some cause.toNat } }) (if_pos hm) rfl ⟨rfl, State.mk_regs ..⟩
  · intro level s
    refine .of_eq (u := s.record 5 0x38 .pairIdChange [level.val]) rfl rfl ⟨State.length_q91_record .., State.record_regs .., State.record_pair ..⟩

end Sys2Proof.Machine
end

section
/-!
O34: a precharge peak read while the start is being aborted is not shown.
-/
set_option Elab.async false
namespace Sys2Proof.Machine
open Sys2Proof

/-- A start in step 4 whose abort is under way, with a peak of 500 mA shown from before. -/
def peakWhileAborting : State :=
  let s := ((State.reset.wr F.CROWN_MODE_MODE 2).wr F.TRACK_STATUS_STEP 4).wr F.TRACK_PRECHG_I_PEAK 5
  { s with track := { s.track with aborting := 1 } }

/-- Refutes O34: with an abort under way the peak of 0, within its bounds, leaves the one shown before. -/
theorem not_startSteps : ¬ Obligations.StartSteps := by
  rintro ⟨-, -, hpeak, -⟩
  obtain ⟨hshown, -⟩ := (hpeak 0 peakWhileAborting (by decide +kernel) (by decide +kernel) (by decide +kernel) (by decide +kernel)).after
  revert hshown
  decide +kernel

end Sys2Proof.Machine
end

section
/-!
O8: HOLD and the supplies. What the parts of a return from HOLD keep: the supply as it is shown, and that the unit is not in HOLD again.
-/
set_option Elab.async false
namespace Sys2Proof.Machine
open Sys2Proof

section Dip
variable {s t u : State} {W : Nat → Prop} {P : List Nat}

/-! ## What the parts of a return from HOLD keep -/

/-- What a dip leaves for its end: VAUX below its reset level, and an update that waits. -/
def State.dipPart (s : State) : Bool × Bool := (s.crown.vauxLow, s.nvm.delayed)

/-- From s to t the unit does not come into HOLD, and neither VAUX nor what a dip leaves for its end changes. -/
def DipKept (s t : State) : Prop := (s.mode ≠ .hold → t.mode ≠ .hold) ∧ t.rd F.SUPPLY_STATUS_VAUX_OK = s.rd F.SUPPLY_STATUS_VAUX_OK ∧ t.dipPart = s.dipPart

theorem State.dipPart_delayed (h : t.dipPart = s.dipPart) : s.nvm.delayed = t.nvm.delayed := (congrArg Prod.snd h).symm

theorem DipKept.refl : DipKept s s := ⟨id, rfl, rfl⟩

theorem DipKept.trans (h : DipKept s t) (h' : DipKept t u) : DipKept s u :=
  ⟨fun hm => h'.1 (h.1 hm), h'.2.1.trans h.2.1, h'.2.2.trans h.2.2⟩

theorem DipKept.after (h' : DipKept t u) (h : DipKept s t) : DipKept s u := h.trans h'

/-- A word that is neither the mode's nor that of SUPPLY.STATUS. -/
abbrev OffDip (a : Nat) : Prop := a ≠ 0x64 ∧ a ≠ 0x200C

theorem DipKept.of_where (h : OnlyWhere OffDip s t) (hp : t.dipPart = s.dipPart) : DipKept s t := by
  have hm : t.mode = s.mode := h.mode (by decide)
  exact ⟨fun hh => hm ▸ hh, h.rd (by decide), hp⟩

theorem OffDip.of_page {a : Nat} (h : pageOf a ∈ P) (h0 : 0 ∉ P) (h2 : 2 ∉ P) : OffDip a := by
  refine ⟨fun he => h0 ?_, fun he => h2 ?_⟩
  · subst he
    exact h
  · subst he
    exact h

theorem DipKept.of_pages (h : OnlyPages P s t) (h0 : 0 ∉ P) (h2 : 2 ∉ P) (hp : t.dipPart = s.dipPart) : DipKept s t :=
  .of_where (.of_pages h fun _ ha => .of_page ha h0 h2) hp

theorem State.dipPart_within {T : List Part} (h : Within T s t) (hc : Part.crown ∉ T) (hn : Part.nvm ∉ T) : t.dipPart = s.dipPart := by
  rw [State.dipPart, h.crown hc, h.nvm hn, State.dipPart]

theorem DipKept.upd (h : DipKept s t) (hr : u.regs = t.regs) (hp : u.dipPart = t.dipPart) : DipKept s u := h.trans (.of_where (.of_regs hr) hp)

/-- A transition noted over: the crown is that of before, with VAUX as it was. -/
theorem DipKept.updCrown (h : DipKept s t) (hr : u.regs = t.regs) (hc : u.crown.vauxLow = s.crown.vauxLow) (hn : u.nvm = t.nvm) : DipKept s u := by
  obtain ⟨hm, hv, hp⟩ := h
  refine ⟨fun hs => ?_, (State.rd_regs hr _).trans hv, ?_⟩
  · rw [State.mode_of_rd (State.rd_regs hr _)]
    exact hm hs
  · rw [State.dipPart, hc, hn, ← State.dipPart_delayed hp, State.dipPart]

theorem DipKept.wr (h : DipKept s t) {f : Fld} {n : Nat} (hf : OffDip f.addr) : DipKept s (t.wr f n) :=
  h.trans (.of_where (OnlyWhere.refl.wr hf) (by rw [State.dipPart, State.wr_crown, State.wr_nvm, State.dipPart]))

theorem DipKept.wrB (h : DipKept s t) {f : Fld} {b : Bool} (hf : OffDip f.addr) : DipKept s (t.wrB f b) := h.wr hf

theorem DipKept.wrI (h : DipKept s t) {f : Fld} {i : Int} (hf : OffDip f.addr) : DipKept s (t.wrI f i) := h.wr hf

theorem DipKept.bump (h : DipKept s t) {f : Fld} {n : Nat} (hf : OffDip f.addr) : DipKept s (t.bump f n) := h.wr hf

theorem DipKept.raise (h : DipKept s t) {page bit : Nat} (hp : OffDip (evtStatus page).addr) : DipKept s (t.raise page bit) :=
  h.trans (.of_where (OnlyWhere.refl.raise hp) (by rw [State.dipPart, State.raise_crown, State.raise_nvm, State.dipPart]))

theorem DipKept.record (h : DipKept s t) (sev src : Nat) (ev : Ev) (data : List Int) (same : Bool) : DipKept s (t.record sev src ev data same) :=
  h.upd (State.record_regs ..) (by rw [State.dipPart, State.record_crown, State.record_nvm, State.dipPart])

theorem DipKept.ite {c : Prop} [Decidable c] {a b : State} (ha : DipKept s a) (hb : DipKept s b) : DipKept s (if c then a else b) := ite_holds ha hb

/-- A change of mode to another than HOLD. -/
theorem DipKept.setMode (h : DipKept s t) {m : Mode} (hm : m ≠ .hold) : DipKept s (t.setMode m) := by
  refine h.trans ⟨fun _ => ?_, (t.setMode_pages m).rd (by decide), by rw [State.dipPart, State.setMode, State.wr_crown, State.wr_crown, State.wr_nvm, State.wr_nvm, State.dipPart]⟩
  rw [State.mode_setMode]
  exact hm

/-! ## The converter off -/

section Parts
variable (s)

theorem State.gatesOff_dip : DipKept s s.gatesOff :=
  .of_pages s.gatesOff_pages (by decide) (by decide)
    (State.dipPart_within (T := [.regs, .pwm, .loop]) (State.gatesOff_within (by decide) (by decide) (by decide) .rfl) (by decide) (by decide))

theorem State.freezeAll_dip (b : Bool) : DipKept s (s.freezeAll b) :=
  .of_pages (s.freezeAll_pages b) (by decide) (by decide)
    (State.dipPart_within (T := [.regs]) (State.freezeAll_within (by decide) .rfl) (by decide) (by decide))

theorem State.loopOff_dip : DipKept s s.loopOff :=
  .of_pages s.loopOff_pages (by decide) (by decide)
    (State.dipPart_within (T := [.regs]) (State.loopOff_within (by decide) .rfl) (by decide) (by decide))

theorem State.dropEnables_dip : DipKept s s.dropEnables := by
  have h : OnlyPages [0x20, 0x31] s s.dropEnables := by
    unfold State.dropEnables
    exact (((OnlyPages.of_regs (State.mk_regs ..)).wrB (by decide)).wrB (by decide)).andThen (State.refreshGates_pages _) (by decide)
  exact .of_pages h (by decide) (by decide)
    (State.dipPart_within (T := [.regs, .prot]) (State.dropEnables_within (by decide) (by decide) .rfl) (by decide) (by decide))

theorem State.leaveBal_dip : DipKept s s.leaveBal :=
  .of_pages s.leaveBal_pages (by decide) (by decide) (State.dipPart_within (T := [.regs, .out, .q91, .rk, .scan, .ringSt, .bal])
    (State.leaveBal_within (by decide) (by decide) (by decide) (by decide) (by decide) (by decide) (by decide) .rfl) (by decide) (by decide))

theorem RunWords.offDip {a : Nat} (h : RunWords a) : OffDip a := by
  rcases h with h | h
  · exact .of_page h (by decide) (by decide)
  · simp only [List.mem_cons, List.not_mem_nil, or_false, OffDip] at h ⊢
    omega

theorem State.abortRun_dip (code : Nat) : DipKept s (s.abortRun code) :=
  .of_where ((s.abortRun_run code).mono fun _ => RunWords.offDip)
    (State.dipPart_within (T := [.regs, .out, .q91, .pwm, .loop, .rk, .scan, .imp, .ringSt, .bal, .pair])
      (State.abortRun_within (by decide) (by decide) (by decide) (by decide) (by decide) (by decide) (by decide) (by decide) (by decide) (by decide)
        (by decide) .rfl) (by decide) (by decide))

theorem State.cancelApply_dip (cause : Nat) : DipKept s (s.cancelApply cause) :=
  .of_where ((s.cancelApply_where cause).mono fun a ha => by
      simp only [StepWords, pageOf, List.mem_cons, List.not_mem_nil, or_false, OffDip] at ha ⊢
      omega)
    (State.dipPart_within (T := [.regs, .shadow, .stg]) (State.cancelApply_within (by decide) (by decide) (by decide) .rfl) (by decide) (by decide))

theorem State.endSequence_dip : DipKept s s.endSequence := by
  unfold State.endSequence
  exact (((DipKept.refl.wr (by decide)).wrB (by decide)).wrB (by decide)).upd (State.mk_regs ..) rfl

theorem State.notePre_dip : DipKept s s.notePre := .ite (DipKept.refl.wr (by decide)) .refl

theorem State.dropStart_dip (code : Nat) : DipKept s (s.dropStart code) := by
  unfold State.dropStart
  extract_lets v
  have hv : DipKept s v := .ite (((s.notePre_dip.wr (by decide)).bump (by decide)).raise (by decide)) .refl
  exact hv.trans (State.endSequence_dip _)

theorem State.setLatch_dip (src : Nat) (ev : Ev) : DipKept s (s.setLatch src ev) := by
  have hm : (s.setLatch src ev).mode = s.mode := State.mode_setLatch ..
  exact ⟨fun h => hm ▸ h, (s.setLatch_pages src ev).rd (by decide), State.dipPart_within (T := [.regs, .q91, .rk, .scan, .tmx])
    (State.setLatch_within (by decide) (by decide) (by decide) (by decide) (by decide) .rfl) (by decide) (by decide)⟩

theorem State.retainSlot_delayed : s.retainSlot.nvm.delayed = s.nvm.delayed := by
  unfold State.retainSlot
  split <;> rfl

theorem State.entryStore_dip (n : Nat) : DipKept s (s.entryStore n) := by
  have hj : Within [.regs, .q91, .rk, .scan, .est, .tele] s (s.journalBoth n).counterSlot :=
    State.counterSlot_within (by decide) (State.journalBoth_within (by decide) (by decide) (by decide) (by decide) (by decide) .rfl)
  refine .of_pages (s.entryStore_pages n) (by decide) (by decide) ?_
  unfold State.entryStore
  extract_lets v
  have hv : v.dipPart = s.dipPart := State.dipPart_within hj (by decide) (by decide)
  clear_value v
  split
  · refine Eq.trans ?_ hv
    rw [State.dipPart, v.retainSlot_delayed, State.dipPart, (State.retainSlot_within (T := [.scan, .nvm]) (by decide) (by decide) .rfl).crown (by decide)]
  · exact hv

theorem State.releaseAll_dip {ks : List Nat} (hk : ∀ k ∈ ks, k < 7) : DipKept s (s.releaseAll ks) := by
  have h : OnlyPages [0x24] s (s.releaseAll ks) := .foldl .refl fun u k hh => State.release_pages _ (hk k hh)
  exact .of_pages h (by decide) (by decide) (State.dipPart_within (T := [.regs, .q91, .track, .rk, .scan])
    (State.releaseAll_within (by decide) (by decide) (by decide) (by decide) (by decide) .rfl) (by decide) (by decide))

theorem State.endGateTest_dip (result : Nat) (b : Bool) : DipKept s (s.endGateTest result b) := by
  unfold State.endGateTest
  extract_lets v x y
  have hv : DipKept s v := (DipKept.refl.wr (by decide)).raise (by decide)
  clear_value v
  have hx : DipKept s x := ((hv.trans v.gatesOff_dip).wrB (by decide)).trans (State.dropEnables_dip _)
  clear_value x
  exact .ite (.ite (hx.upd (State.mk_regs ..) rfl) (hv.upd (State.mk_regs ..) rfl)) .refl

/-! ## SAFE and the safe ramp-down -/

theorem State.holdActive_dip (b : Bool) : DipKept s (s.wrB F.SUPPLY_STATUS_HOLD_ACTIVE b) := by
  have hm : (s.wrB F.SUPPLY_STATUS_HOLD_ACTIVE b).mode = s.mode := State.mode_wr_apart _ _ (by decide) (by decide)
  exact ⟨fun h => hm ▸ h, State.rd_wrB_apart _ _ _ _ (by decide) (by decide), by rw [State.dipPart, State.wrB_crown, State.wrB_nvm, State.dipPart]⟩

theorem State.enterSafe_dip (latch : Bool) (src : Nat) (ev : Ev) : DipKept s (s.enterSafe latch src ev) := by
  unfold State.enterSafe
  extract_lets v w x fast y c z q p l
  have hv : DipKept s v := by
    refine DipKept.setMode ?_ (by decide)
    refine DipKept.trans ?_ (State.dropStart_dip _ 10)
    exact ((s.leaveBal_dip.trans (State.gatesOff_dip _)).trans (State.dropEnables_dip _)).trans (State.loopOff_dip _)
  clear_value v
  have hx : DipKept s x := (((hv.wrB (by decide)).wr (by decide)).raise (by decide)).trans (State.holdActive_dip _ false)
  clear_value x
  have hy : DipKept s y := .ite (hx.record ..) hx
  clear_value y
  have hz : DipKept s z := hy.upd (State.mk_regs ..) rfl
  clear_value z
  have hq : DipKept s q := .ite (hz.trans (z.setLatch_dip src ev)) hz
  clear_value q
  exact (State.entryStore_dip _ 3).after (hq.upd (State.mk_regs ..) rfl)

theorem State.srdRelease_dip : DipKept s s.srdRelease := by
  unfold State.srdRelease
  split
  · exact .refl
  · extract_lets v w
    have hv : DipKept s v := DipKept.refl.wr (by decide)
    clear_value v
    have hw : DipKept s w := .ite hv (hv.trans (State.releaseAll_dip _ (by decide)))
    clear_value w
    exact .ite (hw.trans (State.enterSafe_dip ..)) hw

theorem State.srdRampEnd_dip : DipKept s s.srdRampEnd := by
  unfold State.srdRampEnd
  split
  · exact .refl
  · extract_lets v
    have hv : DipKept s v :=
      (((s.gatesOff_dip.trans (State.dropEnables_dip _)).trans (State.freezeAll_dip _ true)).trans (State.loopOff_dip _)).wr (by decide)
    exact hv.trans (State.srdRelease_dip _)

theorem State.endForStop_dip : DipKept s s.endForStop := by
  unfold State.endForStop
  extract_lets v w
  have hw : DipKept s w := (s.cancelApply_dip 9).trans (State.abortRun_dip _ 2)
  clear_value w
  exact .ite (hw.trans (State.dropStart_dip _ 10)) hw

theorem State.startSrd_dip (cause : Nat) (latch : Bool) (src : Nat) (ev : Ev) (fast : Bool) : DipKept s (s.startSrd cause latch src ev fast) := by
  unfold State.startSrd
  extract_lets eff v w x p l y
  have hx : DipKept s x := ((((s.endForStop_dip.wrB (by decide)).wr (by decide)).wr (by decide)).wrI (by decide)).bump (by decide) |>.raise (by decide)
  clear_value x
  have hy : DipKept s y := hx.upd (State.mk_regs ..) rfl
  clear_value y
  split
  · exact .refl
  · exact .refl
  · exact s.endGateTest_dip 8 false
  · exact .ite (s.setLatch_dip src ev) .refl
  · exact .ite .refl (.ite (DipKept.refl.record ..) (.ite .refl (.ite (hy.trans y.srdRampEnd_dip) (hy.wr (by decide)))))

/-- A reaction of class S. -/
theorem State.reactS_dip (source : Nat) (ev : Ev) : DipKept s (s.react .S source ev []) := by
  refine DipKept.trans (t := (s.record 6 source ev []).noteSH source ev) ?_ (State.startSrd_dip ..)
  exact (DipKept.refl.record ..).upd (State.mk_regs ..) rfl

/-! ## An abort of a start -/

theorem State.startOver_dip : DipKept s s.startOver := by
  unfold State.startOver
  extract_lets v
  have hv : DipKept s v := ((DipKept.of_pages (s.toStep_pages 0) (by decide) (by decide) rfl).wrB (by decide)).wrB (by decide)
  clear_value v
  exact hv.upd (State.mk_regs ..) rfl

/-- A start's retry forgotten. -/
def State.retryForgotten : State := { s with track := { s.track with retried := false } }

theorem State.retryForgotten_dip : DipKept s s.retryForgotten := DipKept.refl.upd (State.mk_regs ..) rfl

/-- The converter off after a start, in STANDBY. -/
def State.startDown : State := ((s.startOver.dropEnables.loopOff).wrB F.TRACK_STATUS_RETRY false).setMode .standby

theorem State.startDown_dip : DipKept s s.startDown :=
  DipKept.setMode (DipKept.wrB ((s.startOver_dip.trans (State.dropEnables_dip _)).trans (State.loopOff_dip _)) (by decide)) (by decide)

theorem State.startToStandby_dip : DipKept s s.startToStandby := by
  unfold State.startToStandby
  extract_lets v x
  have hv : DipKept s v := s.startDown_dip
  clear_value v
  exact (State.entryStore_dip _ 3).after (hv.trans v.retryForgotten_dip)

/-- A start that failed twice noted. -/
def State.startLasting (code : Nat) : State := ((s.lasting 0x23 code).raise 0x23 6).record 3 0x23 .startLasting [code]

theorem State.startLasting_dip (code : Nat) : DipKept s (s.startLasting code) :=
  (((DipKept.refl.wr (by decide)).bump (by decide)).raise (by decide)).record ..

/-- The abort's code shown and counted. -/
def State.abortShown (code : Nat) : State := ((s.wr F.TRACK_STATUS_ABORT code).bump F.TRACK_STARTS_ABORTS).raise 0x23 4

theorem State.abortShown_dip (code : Nat) : DipKept s (s.abortShown code) :=
  ((DipKept.refl.wr (by decide)).bump (by decide)).raise (by decide)

/-- The wait for the second attempt. -/
def State.retryAwaited : State := { s with track := { s.track with retried := true, waiting := true } }

theorem State.retryAwaited_dip : DipKept s s.retryAwaited := DipKept.refl.upd (State.mk_regs ..) rfl

theorem State.abortEnds_eq : s.abortEnds = match (s.abortShown s.track.abortCode).track.abortEnd with
    | .standby => (s.abortShown s.track.abortCode).startToStandby
    | .retry => if (s.abortShown s.track.abortCode).track.retried then ((s.abortShown s.track.abortCode).startLasting s.track.abortCode).startToStandby
      else (s.abortShown s.track.abortCode).startOver.retryAwaited := rfl

theorem State.abortEnds_dip : DipKept s s.abortEnds := by
  have hv := s.abortShown_dip s.track.abortCode
  rw [State.abortEnds_eq]
  generalize s.abortShown s.track.abortCode = v at hv ⊢
  split
  · exact hv.trans v.startToStandby_dip
  · exact .ite ((hv.trans (v.startLasting_dip _)).trans (State.startToStandby_dip _)) ((hv.trans v.startOver_dip).trans (State.retryAwaited_dip _))

theorem State.abortFinish_dip : DipKept s s.abortFinish := by
  unfold State.abortFinish
  extract_lets v e w
  have hv : DipKept s v := s.releaseAll_dip (by decide)
  clear_value v
  have hw : DipKept s w := hv.upd (State.mk_regs ..) rfl
  clear_value w
  exact .ite hw (hw.trans w.abortEnds_dip)

theorem State.abortBus_dip (always : Bool) : DipKept s (s.abortBus always) := by
  unfold State.abortBus
  extract_lets v
  have hv : DipKept s v := s.releaseAll_dip (by decide)
  clear_value v
  exact .ite .refl (.ite hv (hv.trans v.abortFinish_dip))

theorem State.abortOpen_dip : DipKept s s.abortOpen := by
  unfold State.abortOpen
  extract_lets v x
  have hv : DipKept s v := s.dropEnables_dip
  clear_value v
  exact (State.abortBus_dip _ false).after (hv.upd (State.mk_regs ..) rfl)

theorem State.abortStart_dip (code : Nat) (e : AbortEnd) : DipKept s (s.abortStart code e) := by
  unfold State.abortStart
  extract_lets v d w x y
  have hv : DipKept s v := s.notePre_dip
  clear_value v
  have hw : DipKept s w := hv.upd (State.mk_regs ..) rfl
  clear_value w
  have hr : DipKept w (w.releaseAll [3]) := w.releaseAll_dip (by decide)
  have hx : DipKept s x := .ite (hw.trans hr) hw
  clear_value x
  exact .ite (.ite (hx.upd (State.mk_regs ..) rfl) (hx.trans x.abortOpen_dip)) .refl

/-! ## The steps of a start -/

theorem State.toStep_dip (n : Nat) : DipKept s (s.toStep n) := .of_pages (s.toStep_pages n) (by decide) (by decide) rfl

theorem State.energise_dip (k a : Nat) : DipKept s (s.energise k a) :=
  .of_pages (s.energise_pages k a) (by decide) (by decide)
    (State.dipPart_within (T := [.regs, .track]) (State.energise_within (by decide) (by decide) .rfl) (by decide) (by decide))

theorem State.preCheckStep_dip : DipKept s s.preCheckStep := by
  unfold State.preCheckStep
  extract_lets x
  refine .ite ((State.reactS_dip _ _ _).after (s.dropStart_dip 2)) (.ite ?_ (.ite ?_ ?_))
  · exact (State.energise_dip _ 3 1).after ((State.toStep_dip _ 3).after (DipKept.refl.upd (State.mk_regs ..) rfl))
  · exact (State.abortStart_dip ..).after (DipKept.refl.upd (State.mk_regs ..) rfl)
  · exact DipKept.refl.upd (State.mk_regs ..) rfl

theorem State.presetEntry_dip : DipKept s s.presetEntry :=
  .of_pages s.presetEntry_pages (by decide) (by decide)
    (State.dipPart_within (T := [.regs, .loop]) (State.presetEntry_within (by decide) (by decide) .rfl) (by decide) (by decide))

theorem State.startAgain_dip : DipKept s s.startAgain := by
  unfold State.startAgain
  extract_lets v e w
  have hv : DipKept s v := (DipKept.refl.wrB (by decide)).raise (by decide)
  clear_value v
  have hw : DipKept s w := hv.upd (State.mk_regs ..) rfl
  clear_value w
  exact (((hw.trans w.presetEntry_dip).trans (State.freezeAll_dip _ true)).trans (State.toStep_dip _ 2)).trans (State.preCheckStep_dip _)

theorem State.setRunning_off (n : Nat) (b : Bool) : OnlyWhere OffDip s (s.setRunning n b) := (OnlyWhere.refl.wrBit (by decide)).wr (by decide)

theorem State.startPhases_off : OnlyWhere OffDip s s.startPhases := by
  have ha : ∀ n, OffDip (0x21054 + 0x20 * n) := fun n => by
    simp only [OffDip, ne_eq]
    omega
  unfold State.startPhases State.startSome
  extract_lets per v y w run
  have hv : OnlyWhere OffDip s v := .foldl .refl fun u n _ => .ite
    (((OnlyWhere.refl.wr (f := F.PHASE_STAT_STATE n) (ha n)).trans (State.setRunning_off _ n true)).upd (State.mk_regs ..)) .refl
  clear_value v
  have hw : OnlyWhere OffDip s w := hv.upd (State.mk_regs ..)
  clear_value w
  refine OnlyWhere.wrB (.foldl hw fun u x _ => OnlyWhere.refl.wr (f := F.PHASE_STAT_OFFSET x.1) (ha x.1)) (by decide)

theorem State.startTracking_dip : DipKept s s.startTracking := by
  refine .of_where ?_ (State.dipPart_within (T := [.regs, .pwm, .loop, .track, .prot])
    (State.startTracking_within (by decide) (by decide) (by decide) (by decide) (by decide) .rfl) (by decide) (by decide))
  unfold State.startTracking
  extract_lets v x y w
  have hv : OnlyWhere OffDip s v :=
    ((OnlyWhere.of_pages s.askEnables_pages fun _ h => .of_page h (by decide) (by decide)).trans (State.startPhases_off _)).trans
      (.of_pages (State.freezeAll_pages _ false) fun _ h => .of_page h (by decide) (by decide))
  clear_value v
  exact (hv.upd (State.mk_regs ..)).trans (.of_pages (State.toStep_pages _ 8) fun _ h => .of_page h (by decide) (by decide))

theorem State.step7_dip : DipKept s s.step7 := by
  unfold State.step7
  extract_lets v x
  have hv : DipKept s v := s.toStep_dip 7
  clear_value v
  exact .ite (.ite (hv.upd (State.mk_regs ..) rfl) (hv.trans (v.abortStart_dip ..))) (hv.trans v.startTracking_dip)

theorem State.enterRun_dip : DipKept s s.enterRun := by
  unfold State.enterRun
  extract_lets src v w x
  have hv : DipKept s v := .ite .refl (DipKept.refl.wrI (by decide))
  clear_value v
  have hw : DipKept s w := (hv.setMode (by decide)).wr (by decide)
  clear_value w
  have hb : DipKept w w.balStop := .of_pages w.balStop_pages (by decide) (by decide)
    (State.dipPart_within (T := [.regs, .out, .q91, .rk, .scan, .ringSt, .bal])
      (State.balStop_within (by decide) (by decide) (by decide) (by decide) (by decide) (by decide) (by decide) .rfl) (by decide) (by decide))
  have hx : DipKept s x := .ite (hw.trans hb) hw
  clear_value x
  exact hx.wrI (by decide)

theorem State.watchBus_dip : DipKept s s.watchBus :=
  .ite ((s.gatesOff_dip.trans (State.freezeAll_dip _ true)).trans (State.abortRun_dip _ 3)) .refl

theorem State.retryPass_dip : DipKept s (s.retryPass 0x23) := (DipKept.refl.bump (by decide)).record ..

theorem State.toRun_dip : DipKept s s.toRun := by
  unfold State.toRun
  split
  · exact DipKept.of_pages ((s.toStep_pages 11).upd (State.mk_regs ..)) (by decide) (by decide) rfl
  · extract_lets src o v w x c tr y z
    have hv : DipKept s v := .ite s.retryPass_dip .refl
    clear_value v
    have hw : DipKept s w := ((hv.trans v.startOver_dip).wrB (by decide)).trans (State.enterRun_dip _)
    clear_value w
    have ht : DipKept s tr := hw.upd (State.mk_regs ..) rfl
    clear_value tr
    have hy : DipKept s y := ht.upd (State.mk_regs ..) rfl
    clear_value y
    exact (State.watchBus_dip _).after (.ite (hy.upd (State.mk_regs ..) rfl) ht)

theorem State.busClosed_dip : DipKept s s.busClosed := by
  unfold State.busClosed
  extract_lets v x w
  have hv : DipKept s v := DipKept.refl.raise (by decide)
  clear_value v
  have hw : DipKept s w := hv.upd (State.mk_regs ..) rfl
  clear_value w
  exact .ite (.ite ((hw.trans (w.toStep_dip 10)).wrB (by decide)) (hw.trans (w.abortStart_dip ..)))
    ((hw.trans (w.toStep_dip 11)).trans (State.toRun_dip _))

theorem State.advanceStart_dip : DipKept s s.advanceStart := by
  unfold State.advanceStart
  split
  · exact .refl
  · split
    · exact .ite ((s.toStep_dip 4).upd (State.mk_regs ..) rfl) .refl
    · exact .ite (((s.energise_dip 1 1).trans (State.energise_dip _ 2 1)).trans (State.toStep_dip _ 5)) .refl
    · have hr : DipKept s (s.releaseAll [3]) := s.releaseAll_dip (by decide)
      exact .ite ((State.toStep_dip _ 6).after hr) .refl
    · exact .ite .refl s.step7_dip
    · exact .ite (((s.energise_dip 4 1).trans (State.energise_dip _ 5 1)).trans (State.toStep_dip _ 9)) .refl
    · exact .ite s.busClosed_dip .refl
    · exact .ite ((s.toStep_dip 11).trans (State.toRun_dip _)) .refl
    · exact .refl

/-! ## A disconnect and the resumption -/

theorem State.disconnectEnd_dip : DipKept s s.disconnectEnd := by
  unfold State.disconnectEnd
  extract_lets v x y
  have hv : DipKept s v :=
    (DipKept.setMode ((s.leaveBal_dip.trans (State.dropEnables_dip _)).trans (State.loopOff_dip _)) (by decide)).raise (by decide)
  clear_value v
  exact (State.entryStore_dip _ 3).after (hv.upd (State.mk_regs ..) rfl)

theorem State.disconnect4_dip : DipKept s s.disconnect4 := by
  unfold State.disconnect4
  extract_lets v e w
  have hv : DipKept s v := s.releaseAll_dip (by decide)
  clear_value v
  have hw : DipKept s w := hv.upd (State.mk_regs ..) rfl
  clear_value w
  exact .ite hw (hw.trans w.disconnectEnd_dip)

theorem State.disconnect3_dip (always : Bool) : DipKept s (s.disconnect3 always) := by
  unfold State.disconnect3
  extract_lets v
  have hv : DipKept s v := s.releaseAll_dip (by decide)
  clear_value v
  exact .ite .refl (.ite hv (hv.trans v.disconnect4_dip))

theorem State.waitOver_dip : DipKept s s.waitOver :=
  .ite .refl (.ite (DipKept.refl.upd (State.mk_regs ..) rfl) (.ite (s.abortBus_dip true) (s.disconnect3_dip true)))

theorem State.advanceOpen_dip : DipKept s s.advanceOpen := by
  unfold State.advanceOpen
  split
  · exact .ite (s.enterSafe_dip ..) .refl
  · exact .ite .refl (.ite s.abortEnds_dip (.ite s.abortFinish_dip (.ite s.disconnect4_dip (.ite s.disconnectEnd_dip .refl))))

/-- REST reached, with the crown as given. -/
def State.restReached (c : Crown) : State := { (s.setMode .rest) with crown := c }

theorem State.restReached_dip (c : Crown) (h : c.vauxLow = s.crown.vauxLow) : DipKept s (s.restReached c) :=
  (DipKept.refl.setMode (by decide)).updCrown (State.mk_regs ..) h (State.mk_nvm ..)

/-- The state with the start and disconnect as given. -/
def State.trackSet (x : Track) : State := { s with track := x }

theorem State.trackSet_dip (x : Track) : DipKept s (s.trackSet x) := DipKept.refl.upd (State.mk_regs ..) rfl

theorem State.gatesStopped_eq : s.gatesStopped = if s.mode = .hold then s else if s.track.aborting == 1 then s.loopOff.abortOpen
    else match s.crown.trans with
    | .restRamp => s.loopOff.restReached { s.crown with trans := .none }
    | .disconnect => if s.track.disc == 2 then (s.loopOff.trackSet { s.track with disc := 3 }).disconnect3 false else s
    | _ => s := rfl

theorem State.gatesStopped_dip : DipKept s s.gatesStopped := by
  have hc : s.crown.vauxLow = s.loopOff.crown.vauxLow :=
    congrArg Crown.vauxLow ((State.loopOff_within (T := [.regs]) (by decide) .rfl).crown (by decide)).symm
  rw [State.gatesStopped_eq]
  refine .ite .refl (.ite (s.loopOff_dip.trans (State.abortOpen_dip _)) ?_)
  split
  · exact s.loopOff_dip.trans (State.restReached_dip _ _ hc)
  · exact .ite ((s.loopOff_dip.trans (State.trackSet_dip _ _)).trans (State.disconnect3_dip _ false)) .refl
  · exact .refl

theorem State.resumeSequence_dip : DipKept s s.resumeSequence := by
  unfold State.resumeSequence
  extract_lets x v w y z r q
  have hv : DipKept s v := .ite ((State.abortStart_dip ..).after (DipKept.refl.upd (State.mk_regs ..) rfl)) .refl
  clear_value v
  have hw : DipKept s w := .ite (hv.trans v.gatesStopped_dip) hv
  clear_value w
  have hz : DipKept s z := hw.upd (State.mk_regs ..) rfl
  clear_value z
  have hr : DipKept s r := .ite hw (.ite (hz.trans z.startAgain_dip) (.ite (hz.trans z.preCheckStep_dip) (hz.trans z.waitOver_dip)))
  clear_value r
  have hq : DipKept s q := (hr.trans r.advanceStart_dip).trans (State.advanceOpen_dip _)
  clear_value q
  exact .ite (hq.trans q.toRun_dip) hq

/-! ## The end of a dip -/

theorem State.replanIfDue_pages : OnlyPages [0x1D] s s.replanIfDue := by
  unfold State.replanIfDue
  exact .ite (.trans (.of_regs (State.mk_regs ..)) (State.replan_pages _)) .refl

theorem State.replanIfDue_parts : Within [.regs, .out, .q91, .rk, .scan, .ringSt, .bal, .pair] s s.replanIfDue :=
  State.replanIfDue_within (by decide) (by decide) (by decide) (by decide) (by decide) (by decide) (by decide) (by decide) .rfl

theorem State.replanIfDue_dip : DipKept s s.replanIfDue :=
  .of_pages s.replanIfDue_pages (by decide) (by decide) (State.dipPart_within s.replanIfDue_parts (by decide) (by decide))

theorem State.recover_dip : DipKept s s.recover := by
  unfold State.recover
  extract_lets v
  have hv : DipKept s v := s.replanIfDue_dip
  clear_value v
  exact .ite (hv.trans v.resumeSequence_dip) hv

theorem State.deferredJournals_pages : OnlyPages [0x2A] s s.deferredJournals := by
  unfold State.deferredJournals
  extract_lets l x v
  have hv : OnlyPages [0x2A] s v := (OnlyPages.of_regs (State.mk_regs ..)).wrB (by decide)
  exact .foldl hv fun u y _ => u.journal_pages y.1 y.2

/-- With no update that waits the end of a dip writes journals and slots. -/
theorem State.afterDip_pages (h : s.nvm.delayed = false) : OnlyPages [0x2A] s s.afterDip ∧ s.afterDip.crown = s.crown := by
  unfold State.afterDip
  extract_lets v w x
  have hv : OnlyPages [0x2A] s v := s.deferredJournals_pages
  have hp : Within [.regs, .q91, .rk, .scan, .est] s v := State.deferredJournals_within (by decide) (by decide) (by decide) (by decide) (by decide) .rfl
  have hn : v.nvm = s.nvm := hp.nvm (by decide)
  have hvc : v.crown = s.crown := hp.crown (by decide)
  clear_value v
  have hw : OnlyPages [0x2A] s w ∧ w.crown = s.crown ∧ w.nvm = s.nvm := by
    unfold w
    split
    · have hc : Within [.tele] v v.counterSlot := State.counterSlot_within (by decide) .rfl
      exact ⟨hv.upd (hc.regs (by decide)), (hc.crown (by decide)).trans hvc, (hc.nvm (by decide)).trans hn⟩
    · exact ⟨hv, hvc, hn⟩
  obtain ⟨hw, hwc, hwn⟩ := hw
  clear_value w
  have hx : OnlyPages [0x2A] s x ∧ x.crown = s.crown ∧ x.nvm.delayed = false := by
    unfold x
    split
    · have hc : Within [.scan, .nvm] w w.retainSlot := State.retainSlot_within (by decide) (by decide) .rfl
      refine ⟨hw.upd (hc.regs (by decide)), (hc.crown (by decide)).trans hwc, ?_⟩
      rw [w.retainSlot_delayed, hwn, h]
    · exact ⟨hw, hwc, (congrArg Nvm.delayed hwn).trans h⟩
  obtain ⟨hx, hxc, hxd⟩ := hx
  clear_value x
  rw [if_neg (by simp [hxd])]
  exact ⟨hx, hxc⟩

end Parts

/-! ## A dip -/

/-- VAUX back, as SUPPLY.STATUS shows it. -/
def State.vauxBack (s : State) : State :=
  { (s.wrB F.SUPPLY_STATUS_VAUX_OK true).wrB F.SUPPLY_STATUS_SDS_ACTIVE false with
    crown := { ((s.wrB F.SUPPLY_STATUS_VAUX_OK true).wrB F.SUPPLY_STATUS_SDS_ACTIVE false).crown with vauxLow := false } }

theorem State.vauxBack_spec (s : State) : s.vauxBack.rd F.SUPPLY_STATUS_VAUX_OK = 1 ∧ s.vauxBack.crown.vauxLow = false ∧
    s.vauxBack.crown.trans = s.crown.trans ∧ s.vauxBack.track = s.track ∧ s.vauxBack.nvm = s.nvm ∧ s.vauxBack.prot = s.prot ∧
    OnlyFields [F.SUPPLY_STATUS_VAUX_OK, F.SUPPLY_STATUS_SDS_ACTIVE] s s.vauxBack := by
  refine ⟨?_, rfl, rfl, rfl, rfl, rfl, ((OnlyFields.refl.wrB _ (by decide) (by decide)).wrB _ (by decide) (by decide)).upd (State.mk_regs ..)⟩
  refine (State.rd_regs (State.mk_regs ..) _).trans ?_
  rw [State.rd_wrB_apart _ _ _ _ (by decide) (by decide), State.rd_wrB _ _ _ (by decide) (by decide)]
  rfl

theorem Mode.code_lt (m : Mode) : m.code < 16 := by cases m <;> decide

/-- The mode in PREV entered. -/
def State.holdExited (s : State) : State := (s.setMode (Mode.ofCode (s.rd F.CROWN_MODE_PREV))).wrB F.SUPPLY_STATUS_HOLD_ACTIVE false

/-- The recovery noted with the time that HOLD took. -/
def State.recoveryNoted (s : State) : State := s.record 4 0x02 .holdRecovery [(s.mono / 1000000 : Int) - s.crown.holdStart]

/-- HOLD left by the return of VAUX, before what waited goes on. -/
def State.holdLeft (s : State) : State := s.vauxBack.holdExited.recoveryNoted

theorem State.holdExited_spec (s : State) : s.holdExited.mode = Mode.ofCode (s.rd F.CROWN_MODE_PREV) ∧ s.holdExited.rd F.CROWN_MODE_PREV = s.mode.code ∧
    s.holdExited.rd F.SUPPLY_STATUS_HOLD_ACTIVE = 0 ∧ s.holdExited.rd F.SUPPLY_STATUS_VAUX_OK = s.rd F.SUPPLY_STATUS_VAUX_OK := by
  unfold State.holdExited
  have hc := s.mode.code_lt
  refine ⟨(State.mode_wr_apart _ _ (by decide) (by decide)).trans (State.mode_setMode ..), ?_, ?_, ?_⟩
  · rw [State.rd_wrB_apart _ _ _ _ (by decide) (by decide), State.setMode, State.rd_wr_apart _ _ _ _ (by decide) (by decide), State.rd_wr _ _ _ (by decide)]
    exact Nat.mod_eq_of_lt hc
  · rw [State.rd_wrB _ _ _ (by decide) (by decide)]
    rfl
  · rw [State.rd_wrB_apart _ _ _ _ (by decide) (by decide), (s.setMode_pages _).rd (by decide)]

theorem State.recoveryNoted_regs (s : State) : s.recoveryNoted.regs = s.regs := State.record_regs ..

theorem State.holdExited_parts (s : State) : Within [.regs, .q91] s s.holdExited.recoveryNoted :=
  State.record_within (by decide) (State.wrB_within (by decide) (State.setMode_within (by decide) .rfl))

/-- What HOLD left shows, of a unit that was in HOLD. -/
theorem State.holdLeft_spec (hm : s.mode = .hold) : s.holdLeft.mode = Mode.ofCode (s.rd F.CROWN_MODE_PREV) ∧ s.holdLeft.rd F.CROWN_MODE_PREV = 5 ∧
    s.holdLeft.rd F.SUPPLY_STATUS_HOLD_ACTIVE = 0 ∧ s.holdLeft.rd F.SUPPLY_STATUS_VAUX_OK = 1 ∧ s.holdLeft.crown.vauxLow = false ∧
    s.holdLeft.crown.trans = s.crown.trans ∧ s.holdLeft.track = s.track ∧ s.holdLeft.nvm = s.nvm := by
  obtain ⟨v1, v2, v3, v4, v5, _, v6⟩ := s.vauxBack_spec
  obtain ⟨x1, x2, x3, x4⟩ := s.vauxBack.holdExited_spec
  have hp := s.vauxBack.holdExited_parts
  have hr := s.vauxBack.holdExited.recoveryNoted_regs
  have hc := hp.crown (by decide)
  have hmode : s.vauxBack.mode = .hold := (State.mode_of_rd (v6.rd (by decide))).trans hm
  refine ⟨?_, ?_, (State.rd_regs hr _).trans x3, ((State.rd_regs hr _).trans x4).trans v1, (congrArg Crown.vauxLow hc).trans v2,
    (congrArg Crown.trans hc).trans v3, (hp.track (by decide)).trans v4, (hp.nvm (by decide)).trans v5⟩
  · rw [← v6.rd (g := F.CROWN_MODE_PREV) (by decide)]
    exact (State.mode_of_rd (State.rd_regs hr _)).trans x1
  · rw [hmode] at x2
    exact (State.rd_regs hr _).trans x2

/-- What follows the recovery. -/
def State.dipOver (s : State) : State := if s.mode = .hold || s.mode = .transport then s else s.afterDip

theorem exec_vauxWarningRelease (hm : s.mode = .hold) (hs : s.prot.srd = none) : exec .vauxWarningRelease s = .next s.holdLeft.recover.dipOver := by
  obtain ⟨_, _, _, _, _, hv, hf⟩ := s.vauxBack_spec
  have hmode : s.vauxBack.mode = .hold := (State.mode_of_rd (hf.rd (by decide))).trans hm
  have hsrd : s.vauxBack.prot.srd = none := (congrArg Prot.srd hv).trans hs
  change execVauxWarningRelease s = _
  unfold execVauxWarningRelease
  extract_lets v x w y z
  have hw : w = s.vauxBack := rfl
  clear_value w
  subst hw
  have hz : z = s.holdLeft.recover := if_pos (by simp [hmode, hsrd])
  rw [hz]
  rfl

theorem State.dipOver_spec (h : s.nvm.delayed = false) : OnlyPages [0x2A] s s.dipOver ∧ s.dipOver.crown = s.crown := by
  unfold State.dipOver
  split
  · exact ⟨.refl, rfl⟩
  · exact s.afterDip_pages h

/-! ## The entry into HOLD -/

theorem State.holdRun_where (s : State) : OnlyWhere RunWords s s.holdRun := by
  have hd : OnlyWhere RunWords s s.discardWindow := by
    unfold State.discardWindow
    extract_lets v x
    have hv : OnlyWhere RunWords s v :=
      (((OnlyWhere.refl.bump (.inl (by decide))).wrB (.inl (by decide))).raise (.inl (by decide))).bump (.inl (by decide))
    clear_value v
    exact hv.upd (State.mk_regs ..)
  exact (OnlyWhere.ite hd .refl).trans (State.abortRun_run _ 2)

/-- The rest of an entry into HOLD. -/
def State.holdShown (s : State) : State :=
  { s.wrB F.SUPPLY_STATUS_HOLD_ACTIVE true with
    crown := { s.crown with holdStart := (s.mono / 1000000) }, bal := { s.bal with planWait := none },
    loop := { s.loop with held := s.rdI F.LOOP_ISET_I_SET }, tele := { s.tele with hold := true } }

theorem State.enterHold_eq (s : State) : s.enterHold = ((s.cancelApply 8).setMode .hold).holdRun.holdShown := rfl

theorem State.holdShown_spec (s : State) : s.holdShown.mode = s.mode ∧ s.holdShown.rd F.CROWN_MODE_PREV = s.rd F.CROWN_MODE_PREV ∧
    s.holdShown.rd F.SUPPLY_STATUS_HOLD_ACTIVE = 1 ∧ s.holdShown.tele.hold = true := by
  refine ⟨(State.mode_of_rd (State.rd_regs (State.mk_regs ..) _)).trans (State.mode_wr_apart _ _ (by decide) (by decide)),
    (State.rd_regs (State.mk_regs ..) _).trans (State.rd_wrB_apart _ _ _ _ (by decide) (by decide)),
    (State.rd_regs (State.mk_regs ..) _).trans (State.rd_wrB _ _ _ (by decide) (by decide)), rfl⟩

theorem State.enterHold_spec (s : State) : s.enterHold.mode = .hold ∧ s.enterHold.rd F.CROWN_MODE_PREV = s.mode.code ∧
    s.enterHold.rd F.SUPPLY_STATUS_HOLD_ACTIVE = 1 ∧ s.enterHold.tele.hold = true := by
  have hc : (s.cancelApply 8).mode = s.mode := (s.cancelApply_where 8).mode (by decide)
  obtain ⟨h1, h2, h3, h4⟩ := ((s.cancelApply 8).setMode .hold).holdRun.holdShown_spec
  have hr := State.holdRun_where ((s.cancelApply 8).setMode .hold)
  rw [State.enterHold_eq]
  refine ⟨h1.trans ((hr.mode (by unfold RunWords; decide)).trans (State.mode_setMode ..)), h2.trans ((hr.rd (by unfold RunWords; decide)).trans ?_), h3, h4⟩
  rw [State.setMode, State.rd_wr_apart _ _ _ _ (by decide) (by decide), State.rd_wr _ _ _ (by decide), hc]
  exact Nat.mod_eq_of_lt (Mode.code_lt _)

theorem OnlyPages.after (h' : OnlyPages P t u) (h : OnlyPages P s t) : OnlyPages P s u := h.trans h'

theorem State.endWrite_pages (s : State) : OnlyPages [0x2A] s s.endWrite := by
  unfold State.endWrite
  extract_lets x v y
  have hv : OnlyPages [0x2A] s v := (OnlyPages.of_regs (State.mk_regs ..)).wrB (by decide)
  clear_value v
  split
  · exact hv
  · exact (State.journal_pages _ _ _).after (hv.upd (State.mk_regs ..))

theorem State.abandonWrite_pages (s : State) : OnlyPages [0x2A] s s.abandonWrite :=
  ((OnlyPages.refl.bump (by decide)).raise (by decide)).trans (State.endWrite_pages _)

theorem State.dipInWrite_pages (s : State) : OnlyPages [0x2A] s s.dipInWrite := by
  unfold State.dipInWrite
  exact .ite ((State.abandonWrite_pages _).after (.of_regs (State.mk_regs ..))) .refl

/-- A dip noted in VAUX_OK and for a write under way. -/
def State.dipNoted (s : State) : State := (s.wrB F.SUPPLY_STATUS_VAUX_OK false).dipInWrite

theorem State.dipNoted_spec (s : State) : OnlyWhere (fun a => pageOf a = 0x2A ∨ a = 0x200C) s s.dipNoted ∧ s.dipNoted.prot = s.prot ∧
    s.dipNoted.crown = s.crown ∧ s.dipNoted.on F.SUPPLY_STATUS_SDS_AVAIL = s.on F.SUPPLY_STATUS_SDS_AVAIL := by
  have hw : Within [.regs, .q91, .rk, .scan, .est] s s.dipNoted :=
    State.dipInWrite_within (by decide) (by decide) (by decide) (by decide) (by decide) (State.wrB_within (by decide) .rfl)
  refine ⟨?_, hw.prot (by decide), hw.crown (by decide), State.on_of_rd (((State.dipInWrite_pages _).rd (by decide)).trans (State.rd_wrB_apart _ _ _ _ (by decide) (by decide)))⟩
  exact (OnlyWhere.refl.wrB (.inr rfl)).trans (.of_pages (State.dipInWrite_pages _) fun a ha => .inl (List.mem_singleton.1 ha))

theorem State.canStop_hold (hm : s.mode = .hold) (hs : s.shadows = false) : s.canStop = true := by
  rw [State.canStop, hm, hs]
  rfl

theorem State.holdEnds_stopping (hm : s.mode = .hold) (hs : s.shadows = false) : Stopping s.holdEnds := by
  rw [State.holdEnds, if_pos hm]
  exact State.startSrd_stopping _ _ _ _ _ _ (State.canStop_hold hm hs)

/-- The reserve of the bank shown. -/
def State.reserveShown (s : State) : State := (s.wrB F.SUPPLY_STATUS_BANK_RESERVE true).wrB F.SUPPLY_STATUS_BANK_OK false

theorem State.reserveShown_spec (s : State) : s.reserveShown.rd F.SUPPLY_STATUS_BANK_RESERVE = 1 ∧ s.reserveShown.rd F.SUPPLY_STATUS_BANK_OK = 0 ∧
    OnlyFields [F.SUPPLY_STATUS_BANK_OK, F.SUPPLY_STATUS_BANK_RESERVE] s s.reserveShown := by
  unfold State.reserveShown
  refine ⟨?_, ?_, (OnlyFields.refl.wrB _ (by decide) (by decide)).wrB _ (by decide) (by decide)⟩
  · rw [State.rd_wrB_apart _ _ _ _ (by decide) (by decide), State.rd_wrB _ _ _ (by decide) (by decide)]
    rfl
  · rw [State.rd_wrB _ _ _ (by decide) (by decide)]
    rfl

/-- The string-derived supply's input noted and shown. -/
def State.sdsShown (s : State) (b : Bool) : State := State.showSds { s with crown := { s.crown with sdsIn := b } }

theorem State.sdsShown_spec (s : State) (b : Bool) : (s.sdsShown b).rd F.SUPPLY_STATUS_SDS_AVAIL = (if b && s.on F.SUPPLY_HOLD_CFG_SDS_EN then 1 else 0) ∧
    (s.sdsShown b).crown.sdsIn = b ∧ OnlyFields [F.SUPPLY_STATUS_SDS_AVAIL, F.SUPPLY_STATUS_SDS_ACTIVE] s (s.sdsShown b) := by
  unfold State.sdsShown State.showSds
  refine ⟨?_, rfl, (OnlyFields.of_regs (State.mk_regs ..)).wrB _ (by decide) (by decide)⟩
  rw [State.rd_wrB _ _ _ (by decide) (by decide), State.on_of_rd (State.rd_regs (State.mk_regs ..) _)]

/-- SDS_ACTIVE follows the availability. -/
theorem State.sdsActive_spec {n : Nat} (h1 : s.rd F.SUPPLY_STATUS_SDS_AVAIL = n) (a : Bool) : (s.wrB F.SUPPLY_STATUS_SDS_ACTIVE a).rd F.SUPPLY_STATUS_SDS_AVAIL = n ∧
    (s.wrB F.SUPPLY_STATUS_SDS_ACTIVE a).crown = s.crown ∧ (a = false → (s.wrB F.SUPPLY_STATUS_SDS_ACTIVE a).rd F.SUPPLY_STATUS_SDS_ACTIVE = 0) ∧
    OnlyFields [F.SUPPLY_STATUS_SDS_AVAIL, F.SUPPLY_STATUS_SDS_ACTIVE] s (s.wrB F.SUPPLY_STATUS_SDS_ACTIVE a) := by
  refine ⟨(State.rd_wrB_apart _ _ _ _ (by decide) (by decide)).trans h1, State.wrB_crown .., fun h => ?_, OnlyFields.refl.wrB _ (by decide) (by decide)⟩
  rw [h, State.rd_wrB _ _ _ (by decide) (by decide)]
  rfl

/-- VAUX below its reset level. -/
def State.vauxLowNoted (s : State) : State := { s with crown := { s.crown with vauxLow := true } }

theorem State.lowReset_off (h1 : s.mode ≠ .safe) (h2 : s.mode ≠ .service) : s.lowReset = s := if_neg (by simp [h1, h2])

theorem Mode.ofCode_hold {n : Nat} (h : Mode.ofCode n = .hold) : n = 5 := by
  unfold Mode.ofCode at h
  split at h <;> cases h
  rfl

theorem Mode.ofCode_connect {n : Nat} (h : Mode.ofCode n = .connect) : n = 2 := by
  unfold Mode.ofCode at h
  split at h <;> cases h
  rfl

/-- With no transition and no disconnect under way, and no start governed, a recovery only plans again. -/
theorem State.recover_plain (he : s.replanIfDue.effMode ≠ .connect) (ht : s.crown.trans = .none) (hd : s.track.disc = 0) : s.recover = s.replanIfDue := by
  have hc : s.replanIfDue.crown.trans = .none := (congrArg Crown.trans (s.replanIfDue_parts.crown (by decide))).trans ht
  have hk : s.replanIfDue.track.disc = 0 := (congrArg Track.disc (s.replanIfDue_parts.track (by decide))).trans hd
  exact if_neg (by simp [he, hc, hk])

/-- What governs the converter after HOLD was left is no start where PREV was none. -/
theorem State.effMode_left {n : Nat} (hm : s.mode = Mode.ofCode n) (hp : s.rd F.CROWN_MODE_PREV = 5) (hn : n ≠ 2) : s.effMode ≠ .connect := by
  unfold State.effMode
  split
  · rw [hp]
    decide
  · rw [hm]
    exact fun h => hn (Mode.ofCode_connect h)

/-- The string-derived supply takes over. -/
def State.sdsTaken (s : State) : State := (s.wrB F.SUPPLY_STATUS_SDS_ACTIVE true).record 3 0x02 .sdsMove

theorem State.sdsTaken_spec (s : State) : s.sdsTaken.rd F.SUPPLY_STATUS_SDS_ACTIVE = 1 ∧ s.sdsTaken.mode = s.mode :=
  ⟨(State.rd_regs (State.record_regs ..) _).trans (State.rd_wrB _ _ _ (by decide) (by decide)),
    (State.mode_of_rd (State.rd_regs (State.record_regs ..) _)).trans (State.mode_wr_apart _ _ (by decide) (by decide))⟩

theorem State.dipNoted_mode (s : State) : s.dipNoted.mode = s.mode := s.dipNoted_spec.1.mode (by decide)

theorem State.dipNoted_sds (s : State) : (s.dipNoted.on F.SUPPLY_HOLD_CFG_SDS_EN && s.dipNoted.on F.SUPPLY_STATUS_SDS_AVAIL) =
    (s.on F.SUPPLY_HOLD_CFG_SDS_EN && s.on F.SUPPLY_STATUS_SDS_AVAIL) := by
  obtain ⟨d1, _, _, d4⟩ := s.dipNoted_spec
  rw [d4, State.on_of_rd (d1.rd (f := F.SUPPLY_HOLD_CFG_SDS_EN) (by decide))]

/-- A dip without another supply leads into HOLD. -/
theorem exec_vauxWarning_hold (hp : s.crown.phase = .complete) (hs : (s.on F.SUPPLY_HOLD_CFG_SDS_EN && s.on F.SUPPLY_STATUS_SDS_AVAIL) = false)
    (hd : s.prot.srd = none) (hr : s.rd F.PAIR_STATUS_ROLE < 2) (hm : s.mode = .standby ∨ s.mode = .connect ∨ s.mode = .run ∨ s.mode = .rest) :
    exec .vauxWarning s = .next s.dipNoted.enterHold := by
  obtain ⟨d1, d2, d3, _⟩ := s.dipNoted_spec
  have hs' := s.dipNoted_sds.trans hs
  have hd' : s.dipNoted.prot.srd = none := (congrArg Prot.srd d2).trans hd
  have hp' : s.dipNoted.crown.phase = .complete := (congrArg Crown.phase d3).trans hp
  have hr' : ¬ 2 ≤ s.dipNoted.rd F.PAIR_STATUS_ROLE := by
    rw [d1.rd (by decide)]
    omega
  have hm' := s.dipNoted_mode
  change execVauxWarning s = _
  unfold execVauxWarning
  extract_lets v sds w
  have hv : v = s.dipNoted := rfl
  clear_value v
  subst hv
  have hsds : sds = false := hs'
  have hw : w = s.dipNoted := if_neg (by simp [hsds])
  rw [hw, hd', hsds, hm', hp', if_neg (c := (_ || _) = true) (by rcases hm with h | h | h | h <;> simp [h]), if_neg (by simp), if_neg (by simp), if_neg (by simp)]
  rcases hm with h | h | h | h <;> rw [h] <;> exact congrArg _ (if_neg hr')

/-- A dip with the string-derived supply has that supply take over. -/
theorem exec_vauxWarning_sds (hp : s.crown.phase = .complete) (hm : s.mode ≠ .transport)
    (hs : (s.on F.SUPPLY_HOLD_CFG_SDS_EN && s.on F.SUPPLY_STATUS_SDS_AVAIL) = true) :
    exec .vauxWarning s = .next (if s.dipNoted.sdsTaken.prot.srd.any (·.trip) then s.dipNoted.sdsTaken.record 3 0x02 .triggerRefused
      else if s.dipNoted.sdsTaken.prot.srd.isSome then s.dipNoted.sdsTaken.record 4 0x02 .dipDuringSrd else s.dipNoted.sdsTaken) := by
  have hs' := s.dipNoted_sds.trans hs
  have hp' : s.dipNoted.crown.phase = .complete := (congrArg Crown.phase s.dipNoted_spec.2.2.1).trans hp
  have hm' := s.dipNoted_mode
  change execVauxWarning s = _
  unfold execVauxWarning
  extract_lets v sds w
  have hv : v = s.dipNoted := rfl
  clear_value v
  subst hv
  have hsds : sds = true := hs'
  have hw : w = s.dipNoted.sdsTaken := if_pos hsds
  rw [if_neg (by simp [hm', hm, hp']), hw]
  simp only [hsds, if_true]

end Dip

/-- Settles O8: nothing that a return from HOLD resumes leads back into HOLD or changes the supply shown. -/
theorem holdAndSupplies : Obligations.HoldAndSupplies := by
  unfold Obligations.HoldAndSupplies
  refine ⟨?_, ?_, ?_, ?_, ?_, ?_, ?_, ?_, ?_, ?_, ?_, ?_⟩
  · intro s
    refine .of_eq (u := (s.wrB F.SUPPLY_STATUS_BANK_OK true).wrB F.SUPPLY_STATUS_BANK_RESERVE false) rfl rfl
      ⟨?_, ?_, (OnlyFields.refl.wrB _ (by decide) (by decide)).wrB _ (by decide) (by decide)⟩
    · rw [State.rd_wrB_apart _ _ _ _ (by decide) (by decide), State.rd_wrB _ _ _ (by decide) (by decide)]
      rfl
    · rw [State.rd_wrB _ _ _ (by decide) (by decide)]
      rfl
  · intro s
    exact .of_eq (u := s.wrB F.SUPPLY_STATUS_BANK_OK false) rfl rfl
      ⟨State.rd_wrB _ _ _ (by decide) (by decide), OnlyFields.refl.wrB _ (by decide) (by decide)⟩
  · intro b s
    obtain ⟨s1, s2, s3⟩ := s.sdsShown_spec b
    change ∃ t, execSdsAvail b s = .next t ∧ _
    unfold execSdsAvail
    extract_lets x v w
    have hv : v = s.sdsShown b := rfl
    clear_value v
    subst hv
    have hw : w.rd F.SUPPLY_STATUS_SDS_AVAIL = (if b && s.on F.SUPPLY_HOLD_CFG_SDS_EN then 1 else 0) ∧ w.crown.sdsIn = b ∧
        OnlyFields [F.SUPPLY_STATUS_SDS_AVAIL, F.SUPPLY_STATUS_SDS_ACTIVE] s w := by
      obtain ⟨a1, a2, _, a4⟩ := State.sdsActive_spec s1 b
      unfold w
      split
      · exact ⟨a1, (congrArg Crown.sdsIn a2).trans s2, s3.trans a4⟩
      · exact ⟨s1, s2, s3⟩
    obtain ⟨w1, w2, w3⟩ := hw
    clear_value w
    refine ⟨_, rfl, ?_⟩
    cases b
    · obtain ⟨a1, a2, a3, a4⟩ := State.sdsActive_spec w1 false
      exact ⟨a1, (congrArg Crown.sdsIn a2).trans w2, fun _ => a3 rfl, w3.trans a4⟩
    · exact ⟨w1, w2, fun h => absurd h (by decide), w3⟩
  · intro s hm
    exact .of_eq (u := { s with crown := { s.crown with vauxArmed := true } }) (congrArg _ (if_pos hm)) rfl ⟨rfl, State.mk_regs ..⟩
  · intro s hm hn
    have hmode : s.vauxLowNoted.mode = s.mode := State.mode_of_rd (State.rd_regs (State.mk_regs ..) _)
    exact .of_eq (u := s.vauxLowNoted.lowReset) rfl (State.lowReset_off (hmode ▸ hm) (hmode ▸ hn)) ⟨rfl, State.mk_regs ..⟩
  · intro s hp hs hd hr hm
    obtain ⟨e1, e2, e3, e4⟩ := s.dipNoted.enterHold_spec
    exact .of_eq (exec_vauxWarning_hold hp hs hd hr hm) rfl ⟨e1, e2.trans (congrArg Mode.code s.dipNoted_mode), e3, e4⟩
  · intro s hp hm he ha
    obtain ⟨t1, t2⟩ := s.dipNoted.sdsTaken_spec
    have t2 := t2.trans s.dipNoted_mode
    refine .of_eq (exec_vauxWarning_sds hp hm (by rw [he, ha]; rfl)) rfl ?_
    have hk : ∀ sev ev, (s.dipNoted.sdsTaken.record sev 0x02 ev).rd F.SUPPLY_STATUS_SDS_ACTIVE = 1 ∧
        (s.dipNoted.sdsTaken.record sev 0x02 ev).mode = s.mode := fun sev ev =>
      ⟨(State.rd_regs (State.record_regs ..) _).trans t1, (State.mode_of_rd (State.rd_regs (State.record_regs ..) _)).trans t2⟩
    exact ite_holds (P := fun t : State => t.rd F.SUPPLY_STATUS_SDS_ACTIVE = 1 ∧ t.mode = s.mode) (hk 3 .triggerRefused)
      (ite_holds (P := fun t : State => t.rd F.SUPPLY_STATUS_SDS_ACTIVE = 1 ∧ t.mode = s.mode) (hk 4 .dipDuringSrd) ⟨t1, t2⟩)
  · intro s hm hs hd ht hdc hc
    obtain ⟨l1, l2, l3, l4, l5, l6, l7, l8⟩ := State.holdLeft_spec hm
    have hp := s.holdLeft.replanIfDue_pages
    have hw := s.holdLeft.replanIfDue_parts
    have hrec : s.holdLeft.recover = s.holdLeft.replanIfDue := State.recover_plain
      (State.effMode_left ((hp.mode (by decide)).trans l1) ((hp.rd (by decide)).trans l2) hc) (l6.trans ht) ((congrArg Track.disc l7).trans hdc)
    have hdel : s.holdLeft.replanIfDue.nvm.delayed = false := (congrArg Nvm.delayed ((hw.nvm (by decide)).trans l8)).trans hd
    obtain ⟨o1, o2⟩ := s.holdLeft.replanIfDue.dipOver_spec hdel
    refine .of_eq (exec_vauxWarningRelease hm hs) (by rw [hrec]) ⟨(o1.mode (by decide)).trans ((hp.mode (by decide)).trans l1), ?_, ?_, ?_⟩
    · exact (o1.rd (by decide)).trans ((hp.rd (by decide)).trans l3)
    · exact (o1.rd (by decide)).trans ((hp.rd (by decide)).trans l4)
    · exact (congrArg Crown.vauxLow (o2.trans (hw.crown (by decide)))).trans l5
  · intro s hm hs hd hc
    obtain ⟨l1, l2, l3, l4, l5, l6, l7, l8⟩ := State.holdLeft_spec hm
    obtain ⟨r1, r2, r3⟩ := s.holdLeft.recover_dip
    have hdel : s.holdLeft.recover.nvm.delayed = false := (congrArg Prod.snd r3).trans ((congrArg Nvm.delayed l8).trans hd)
    obtain ⟨o1, o2⟩ := s.holdLeft.recover.dipOver_spec hdel
    refine .of_eq (exec_vauxWarningRelease hm hs) rfl ⟨?_, (o1.rd (by decide)).trans (r2.trans l4), (congrArg Crown.vauxLow o2).trans ((congrArg Prod.fst r3).trans l5)⟩
    rw [o1.mode (by decide)]
    refine r1 ?_
    rw [l1]
    exact fun h => hc (Mode.ofCode_hold h)
  · intro s hm hs hd
    exact .of_eq (u := s.holdEnds) rfl rfl (State.holdEnds_stopping hm hs)
  · intro s hm hs hd
    obtain ⟨_, _, hf⟩ := s.reserveShown_spec
    refine .of_eq (u := s.reserveShown.holdEnds) rfl rfl (State.holdEnds_stopping ((State.mode_of_rd (hf.rd (by decide))).trans hm) ?_)
    rw [State.shadows, hf.rd (by decide)]
    exact hs
  · intro s hm
    have hf := s.reserveShown_spec
    refine .of_eq (u := s.reserveShown.holdEnds) rfl (if_neg ?_) hf
    rw [State.mode_of_rd (hf.2.2.rd (by decide))]
    exact hm

end Sys2Proof.Machine
end

section
/-!
The words that the operations of the unit write by themselves: none holds an RWS field, and none is the total current reference. What an apply takes
up by its shadows stays therefore, and the sample that computes the reference keeps it.
-/
set_option Elab.async false
namespace Sys2Proof.Machine
open Sys2Proof

section Bare
variable {s t u : State} {W : Nat → Prop}

/-- A word without an RWS field, and not that of the total current reference. -/
abbrev Bare (a : Nat) : Prop := rwsReg a = false ∧ a ≠ F.LOOP_ITOT_I_TOT.addr

theorem OnlyWhere.after (h' : OnlyWhere W t u) (h : OnlyWhere W s t) : OnlyWhere W s u := h.trans h'

theorem bare_phase : ∀ n < 16, Bare (0x21054 + 0x20 * n) := by decide +kernel

theorem bare_instance : ∀ k < 24, Bare (F.LOOP_ISTAT_FROZEN k).addr := by decide +kernel

theorem bare_excluded : ∀ k < 31, Bare (F.BAL_EXCL_CELLS k).addr := by decide +kernel

theorem bare_opens : ∀ k < 6, Bare (F.CONTACT_OPS_LOADED_OPENS k).addr := by decide +kernel

theorem bare_event : ∀ p < 256, Bare (evtStatus p).addr := by decide +kernel

variable (s)

/-! ## The port, the latch, the coil feed -/

theorem State.lockPort_bare : OnlyWhere Bare s s.lockPort := by
  unfold State.lockPort
  exact .ite (((OnlyWhere.refl.wrB (by decide +kernel)).raise (bare_event _ (by decide))).upd (State.mk_regs ..)) .refl

theorem State.setLatch_bare (src : Nat) (ev : Ev) : OnlyWhere Bare s (s.setLatch src ev) :=
  ((OnlyWhere.refl.wrB (by decide +kernel)).wr (by decide +kernel)).trans (State.lockPort_bare _)

theorem State.closeFeed_bare : OnlyWhere Bare s s.closeFeed := .ite (OnlyWhere.refl.wrB (by decide +kernel)) .refl

theorem State.setMode_bare (m : Mode) : OnlyWhere Bare s (s.setMode m) := (OnlyWhere.refl.wr (by decide +kernel)).wr (by decide +kernel)

/-! ## The power stage and the loop -/

theorem State.refreshGates_bare : OnlyWhere Bare s s.refreshGates := OnlyWhere.refl.wrB (by decide +kernel)

theorem State.gatesOff_bare : OnlyWhere Bare s s.gatesOff := by
  unfold State.gatesOff
  extract_lets v w x
  have hv : OnlyWhere Bare s v := .foldl .refl fun u n hn => by
    have hw : Bare (F.PHASE_STAT_STATE n).addr := bare_phase n (List.mem_range.1 hn)
    dsimp only
    exact (OnlyWhere.wrB (f := F.PHASE_STAT_SKIPPING n) (.ite .refl (OnlyWhere.refl.wr hw)) hw).upd rfl
  clear_value v
  exact (((((hv.wr (by decide +kernel)).wr (by decide +kernel)).wrB (by decide +kernel)).wr (by decide +kernel)).wrB (by decide +kernel)).upd (State.mk_regs ..)

theorem State.dropEnables_bare : OnlyWhere Bare s s.dropEnables := by
  unfold State.dropEnables
  exact (((OnlyWhere.of_regs (State.mk_regs ..)).wrB (by decide +kernel)).wrB (by decide +kernel)).trans (State.refreshGates_bare _)

theorem State.freezeAll_bare (b : Bool) : OnlyWhere Bare s (s.freezeAll b) :=
  .foldl .refl fun _ k hk => OnlyWhere.refl.wrB (bare_instance k (List.mem_range.1 hk))

theorem State.loopOff_bare : OnlyWhere Bare s s.loopOff := by
  unfold State.loopOff
  extract_lets pend v
  have hv : OnlyWhere Bare s v := .ite .refl ((OnlyWhere.refl.wr (by decide +kernel)).bump (by decide +kernel))
  clear_value v
  exact .foldl ((hv.wrB (by decide +kernel)).wrB (by decide +kernel)) fun _ k hk => OnlyWhere.refl.wrB (bare_instance k (List.mem_range.1 hk))

/-! ## Balancing, runs and applies -/

theorem State.ringCmd_bare (node cmd : Nat) (payload : List Byte) : OnlyWhere Bare s (s.ringCmd node cmd payload) :=
  .of_regs ((s.ringCmd_ring _ _ _).regs (by decide))

theorem State.sendPlan_bare : OnlyWhere Bare s s.sendPlan := by
  unfold State.sendPlan
  extract_lets cells ref plans excl newly v w x b y
  have hv : OnlyWhere Bare s v := .foldl .refl fun u x hx => by
    obtain ⟨c, hc, rfl⟩ := List.mem_map.1 hx
    have hlt := List.mem_range.1 hc
    have := s.cellCount_le
    exact OnlyWhere.refl.wrBit (bare_excluded (c / 32) (by omega))
  have hw : OnlyWhere Bare s w := .ite (hv.raise (bare_event _ (by decide))) hv
  have hx : OnlyWhere Bare s x := .foldl hw fun u x _ => u.ringCmd_bare _ _ _
  have hy : OnlyWhere Bare s y := hx.upd (State.mk_regs ..)
  exact ((hy.bump (by decide +kernel)).raise (bare_event _ (by decide))).trans (State.mirror_where _ _)

theorem State.planBegin_bare : OnlyWhere Bare s s.planBegin := by
  unfold State.planBegin
  extract_lets l b v x w y
  have hv : OnlyWhere Bare s v := .of_regs (State.mk_regs ..)
  have hw : OnlyWhere Bare s w := .foldl (hv.upd (State.mk_regs ..)) fun u x _ => u.ringCmd_bare _ _ _
  exact .ite ((State.sendPlan_bare _).after (hw.upd (State.mk_regs ..))) hw

theorem State.replan_bare : OnlyWhere Bare s s.replan := .ite s.planBegin_bare .refl

theorem State.balStop_bare : OnlyWhere Bare s s.balStop := by
  unfold State.balStop
  extract_lets v l w b x
  have hv : OnlyWhere Bare s v := s.ringCmd_bare _ _ _
  have hw : OnlyWhere Bare s w := .foldl hv fun u x _ => u.ringCmd_bare _ _ _
  have hx : OnlyWhere Bare s x := hw.upd (State.mk_regs ..)
  exact .ite .refl (.ite (hx.raise (bare_event _ (by decide))) hx)

theorem State.leaveBal_bare : OnlyWhere Bare s s.leaveBal := .ite s.balStop_bare .refl

theorem State.releaseLock_bare : OnlyWhere Bare s s.releaseLock := (OnlyWhere.refl.wrB (by decide +kernel)).upd (State.clearHistories_regs _)

theorem State.endStimulus_bare : OnlyWhere Bare s s.endStimulus := by
  unfold State.endStimulus
  extract_lets v y w i p x
  have hv : OnlyWhere Bare s v := ((OnlyWhere.refl.wr (by decide +kernel)).trans (State.releaseLock_bare _)).wr (by decide +kernel)
  have hx : OnlyWhere Bare s x := (hv.wrB (by decide +kernel)).upd (State.mk_regs ..)
  exact .ite (hx.trans (State.replan_bare _)) hx

theorem State.abortRun_bare (code : Nat) : OnlyWhere Bare s (s.abortRun code) := by
  unfold State.abortRun
  extract_lets st v i w
  have hv : OnlyWhere Bare s v := .ite .refl (((OnlyWhere.refl.wr (by decide +kernel)).raise (bare_event _ (by decide))).bump (by decide +kernel))
  have hw : OnlyWhere Bare s w := hv.upd (State.mk_regs ..)
  exact .ite (.ite (hw.trans (State.endStimulus_bare _)) (hw.wr (by decide +kernel))) .refl

theorem State.cancelApply_bare (cause : Nat) : OnlyWhere Bare s (s.cancelApply cause) := by
  unfold State.cancelApply
  extract_lets st v w g x h
  have hw : OnlyWhere Bare s w :=
    (((OnlyWhere.refl.wr (by decide +kernel)).wr (by decide +kernel)).wr (by decide +kernel)).wr (by decide +kernel)
  have hx : OnlyWhere Bare s x := .ite ((hw.upd (State.mk_regs ..)).wr (by decide +kernel)) hw
  exact .ite (hx.upd (State.mk_regs ..)) .refl

theorem State.endSequence_bare : OnlyWhere Bare s s.endSequence := by
  unfold State.endSequence
  exact (((OnlyWhere.refl.wr (by decide +kernel)).wrB (by decide +kernel)).wrB (by decide +kernel)).upd (State.mk_regs ..)

theorem State.notePre_bare : OnlyWhere Bare s s.notePre := .ite (OnlyWhere.refl.wr (by decide +kernel)) .refl

theorem State.dropStart_bare (code : Nat) : OnlyWhere Bare s (s.dropStart code) := by
  unfold State.dropStart
  extract_lets v
  have hv : OnlyWhere Bare s v :=
    .ite (((s.notePre_bare.wr (by decide +kernel)).bump (by decide +kernel)).raise (bare_event _ (by decide))) .refl
  exact hv.trans (State.endSequence_bare _)

/-! ## Journals and slots -/

theorem State.beginWrite_bare (j reason : Nat) : OnlyWhere Bare s (s.beginWrite j reason) := by
  unfold State.beginWrite
  extract_lets k b v x
  have hv : OnlyWhere Bare s v := .of_regs (State.setSlot_regs ..)
  clear_value v
  exact (hv.wrB (by decide +kernel)).upd (State.mk_regs ..)

theorem State.journal_bare (j reason : Nat) : OnlyWhere Bare s (s.journal j reason) := by
  unfold State.journal
  exact .ite (((OnlyWhere.refl.wrB (by decide +kernel)).raise (bare_event _ (by decide))).upd (State.mk_regs ..))
    (.ite (.of_regs (State.mk_regs ..)) (s.beginWrite_bare j reason))

theorem State.entryStore_bare (n : Nat) : OnlyWhere Bare s (s.entryStore n) := by
  unfold State.entryStore State.journalBoth
  extract_lets v
  have hv : OnlyWhere Bare s v := ((s.journal_bare 0 n).trans (State.journal_bare _ 1 n)).upd (State.counterSlot_regs _)
  clear_value v
  exact .ite (hv.upd (State.retainSlot_regs _)) hv

/-! ## Contactors and gate tests -/

theorem State.release_bare {k : Nat} (hk : k < 7) : OnlyWhere Bare s (s.release k) := by
  have hc : OnlyWhere Bare s (s.countLoaded k) := .ite ((OnlyWhere.refl.bump (bare_opens (k - 1) (by omega))).raise (bare_event _ (by decide))) .refl
  exact .ite ((hc.wrBit (by decide +kernel)).upd (State.mk_regs ..)) (.of_regs rfl)

theorem State.releaseAll_bare {ks : List Nat} (hk : ∀ k ∈ ks, k < 7) : OnlyWhere Bare s (s.releaseAll ks) :=
  .foldl .refl fun u k h => u.release_bare (hk k h)

theorem State.endGateTest_bare (result : Nat) (b : Bool) : OnlyWhere Bare s (s.endGateTest result b) := by
  unfold State.endGateTest
  extract_lets v x y
  have hv : OnlyWhere Bare s v := (OnlyWhere.refl.wr (by decide +kernel)).raise (bare_event _ (by decide))
  clear_value v
  have hx : OnlyWhere Bare s x := ((hv.trans v.gatesOff_bare).wrB (by decide +kernel)).trans (State.dropEnables_bare _)
  clear_value x
  exact .ite (.ite (hx.upd (State.mk_regs ..)) (hv.upd (State.mk_regs ..))) .refl

theorem State.watchTest_bare : OnlyWhere Bare s s.watchTest :=
  .ite .refl (.ite (s.endGateTest_bare 9 false) (.ite (s.endGateTest_bare 10 false) .refl))

end Bare

end Sys2Proof.Machine
end

section
/-!
The words written by SAFE, an abort, the steps of a start and a disconnect, the ring, the pair and the units that an apply starts or stops: none holds
an RWS field.
-/
set_option Elab.async false
namespace Sys2Proof.Machine
open Sys2Proof

section Bare
variable (s : State)

/-! ## SAFE and the safe ramp-down -/

theorem State.enterSafe_bare (latch : Bool) (src : Nat) (ev : Ev) : OnlyWhere Bare s (s.enterSafe latch src ev) := by
  unfold State.enterSafe
  extract_lets v w x fast y c z q p l
  have hv : OnlyWhere Bare s v := by
    refine OnlyWhere.trans ?_ (State.setMode_bare _ _)
    refine OnlyWhere.trans ?_ (State.dropStart_bare _ 10)
    exact ((s.leaveBal_bare.trans (State.gatesOff_bare _)).trans (State.dropEnables_bare _)).trans (State.loopOff_bare _)
  clear_value v
  have hx : OnlyWhere Bare s x :=
    (((hv.wrB (by decide +kernel)).wr (by decide +kernel)).raise (bare_event _ (by decide))).wrB (by decide +kernel)
  clear_value x
  have hy : OnlyWhere Bare s y := .ite (hx.upd (State.record_regs ..)) hx
  clear_value y
  have hz : OnlyWhere Bare s z := hy.upd (State.mk_regs ..)
  clear_value z
  have hq : OnlyWhere Bare s q := .ite (hz.trans (z.setLatch_bare src ev)) hz
  clear_value q
  exact (State.entryStore_bare _ 3).after (hq.upd (State.mk_regs ..))

/-! ## An abort of a start -/

theorem State.toStep_bare (n : Nat) : OnlyWhere Bare s (s.toStep n) := (OnlyWhere.refl.wr (by decide +kernel)).upd (State.mk_regs ..)

theorem State.startOver_bare : OnlyWhere Bare s s.startOver := by
  unfold State.startOver
  extract_lets v
  have hv : OnlyWhere Bare s v := ((s.toStep_bare 0).wrB (by decide +kernel)).wrB (by decide +kernel)
  clear_value v
  exact hv.upd (State.mk_regs ..)

theorem State.startToStandby_bare : OnlyWhere Bare s s.startToStandby := by
  unfold State.startToStandby
  extract_lets v x
  have hv : OnlyWhere Bare s v :=
    (((s.startOver_bare.trans (State.dropEnables_bare _)).trans (State.loopOff_bare _)).wrB (by decide +kernel)).trans (State.setMode_bare _ _)
  clear_value v
  exact (State.entryStore_bare _ 3).after (hv.upd (State.mk_regs ..))

theorem State.startLasting_bare (code : Nat) : OnlyWhere Bare s (s.startLasting code) :=
  (((OnlyWhere.refl.wr (by decide +kernel)).bump (by decide +kernel)).raise (bare_event _ (by decide))).upd (State.record_regs ..)

theorem State.abortShown_bare (code : Nat) : OnlyWhere Bare s (s.abortShown code) :=
  ((OnlyWhere.refl.wr (by decide +kernel)).bump (by decide +kernel)).raise (bare_event _ (by decide))

theorem State.abortEnds_bare : OnlyWhere Bare s s.abortEnds := by
  have hv := s.abortShown_bare s.track.abortCode
  rw [State.abortEnds_eq]
  generalize s.abortShown s.track.abortCode = v at hv ⊢
  split
  · exact hv.trans v.startToStandby_bare
  · exact .ite ((hv.trans (v.startLasting_bare _)).trans (State.startToStandby_bare _)) ((hv.trans v.startOver_bare).upd (State.mk_regs ..))

theorem State.abortFinish_bare : OnlyWhere Bare s s.abortFinish := by
  unfold State.abortFinish
  extract_lets v e w
  have hv : OnlyWhere Bare s v := s.releaseAll_bare (by decide)
  clear_value v
  have hw : OnlyWhere Bare s w := hv.upd (State.mk_regs ..)
  clear_value w
  exact .ite hw (hw.trans w.abortEnds_bare)

theorem State.abortBus_bare (always : Bool) : OnlyWhere Bare s (s.abortBus always) := by
  unfold State.abortBus
  extract_lets v
  have hv : OnlyWhere Bare s v := s.releaseAll_bare (by decide)
  clear_value v
  exact .ite .refl (.ite hv (hv.trans v.abortFinish_bare))

theorem State.abortOpen_bare : OnlyWhere Bare s s.abortOpen := by
  unfold State.abortOpen
  extract_lets v x
  have hv : OnlyWhere Bare s v := s.dropEnables_bare
  clear_value v
  exact (State.abortBus_bare _ false).after (hv.upd (State.mk_regs ..))

theorem State.abortStart_bare (code : Nat) (e : AbortEnd) : OnlyWhere Bare s (s.abortStart code e) := by
  unfold State.abortStart
  extract_lets v d w x y
  have hv : OnlyWhere Bare s v := s.notePre_bare
  clear_value v
  have hw : OnlyWhere Bare s w := hv.upd (State.mk_regs ..)
  clear_value w
  have hx : OnlyWhere Bare s x := .ite (hw.trans (State.release_bare _ (k := 3) (by decide))) hw
  clear_value x
  exact .ite (.ite (hx.upd (State.mk_regs ..)) (hx.trans x.abortOpen_bare)) .refl

/-! ## The steps of a start -/

theorem State.energise_bare (k a : Nat) : OnlyWhere Bare s (s.energise k a) :=
  .ite (.of_regs rfl) ((OnlyWhere.refl.wrBit (by decide +kernel)).upd rfl)

theorem State.askEnables_bare : OnlyWhere Bare s s.askEnables := by
  unfold State.askEnables
  extract_lets ok p v
  have hv : OnlyWhere Bare s v := .of_regs (State.mk_regs ..)
  clear_value v
  exact ((hv.wrB (by decide +kernel)).wrB (by decide +kernel)).trans (State.refreshGates_bare _)

theorem State.setRunning_bare (n : Nat) (b : Bool) : OnlyWhere Bare s (s.setRunning n b) :=
  (OnlyWhere.refl.wrBit (by decide +kernel)).wr (by decide +kernel)

theorem State.running_lt {n : Nat} (h : n ∈ s.running) : n < 16 := List.mem_range.1 (List.mem_filter.1 h).1

theorem State.startPhases_bare : OnlyWhere Bare s s.startPhases := by
  unfold State.startPhases State.startSome
  extract_lets per v y w run
  have hv : OnlyWhere Bare s v := .foldl .refl fun u n hn => .ite
    (((OnlyWhere.refl.wr (f := F.PHASE_STAT_STATE n) (bare_phase n (List.mem_range.1 hn))).trans (State.setRunning_bare _ n true)).upd (State.mk_regs ..)) .refl
  clear_value v
  have hw : OnlyWhere Bare s w := hv.upd (State.mk_regs ..)
  clear_value w
  exact OnlyWhere.trans (.foldl hw fun u x hx =>
    OnlyWhere.refl.wr (f := F.PHASE_STAT_OFFSET x.1) (bare_phase x.1 (w.running_lt (List.of_mem_zip hx).1))) (State.refreshGates_bare _)

theorem State.startTracking_bare : OnlyWhere Bare s s.startTracking := by
  unfold State.startTracking
  extract_lets v x y w
  have hv : OnlyWhere Bare s v := (s.askEnables_bare.trans (State.startPhases_bare _)).trans (State.freezeAll_bare _ false)
  clear_value v
  exact (hv.upd (State.mk_regs ..)).trans (State.toStep_bare _ 8)

theorem State.step7_bare : OnlyWhere Bare s s.step7 := by
  unfold State.step7
  extract_lets v x
  have hv : OnlyWhere Bare s v := s.toStep_bare 7
  clear_value v
  exact .ite (.ite (hv.upd (State.mk_regs ..)) (hv.trans (v.abortStart_bare _ _))) (hv.trans v.startTracking_bare)

theorem State.enterRun_bare : OnlyWhere Bare s s.enterRun := by
  unfold State.enterRun
  extract_lets src v w x
  have hv : OnlyWhere Bare s v := .ite .refl (OnlyWhere.refl.wrI (by decide +kernel))
  clear_value v
  have hw : OnlyWhere Bare s w := (hv.trans (State.setMode_bare _ _)).wr (by decide +kernel)
  clear_value w
  have hx : OnlyWhere Bare s x := .ite (hw.trans w.balStop_bare) hw
  clear_value x
  exact hx.wrI (by decide +kernel)

theorem State.watchBus_bare : OnlyWhere Bare s s.watchBus :=
  .ite ((s.gatesOff_bare.trans (State.freezeAll_bare _ true)).trans (State.abortRun_bare _ 3)) .refl

theorem bare_retry : Bare (pageFld 0x23 0x028 0 16).addr ∧ Bare (pageFld 0x24 0x028 0 16).addr := by decide +kernel

theorem State.retryPass_bare {page : Nat} (h : Bare (pageFld page 0x028 0 16).addr) : OnlyWhere Bare s (s.retryPass page) :=
  (OnlyWhere.refl.bump h).upd (State.record_regs ..)

theorem State.toRun_bare : OnlyWhere Bare s s.toRun := by
  unfold State.toRun
  split
  · exact (s.toStep_bare 11).upd (State.mk_regs ..)
  · extract_lets src o v w x c tr y z
    have hv : OnlyWhere Bare s v := .ite (s.retryPass_bare bare_retry.1) .refl
    clear_value v
    have hw : OnlyWhere Bare s w := ((hv.trans v.startOver_bare).wrB (by decide +kernel)).trans (State.enterRun_bare _)
    clear_value w
    have ht : OnlyWhere Bare s tr := hw.upd (State.mk_regs ..)
    clear_value tr
    have hy : OnlyWhere Bare s y := ht.upd (State.mk_regs ..)
    clear_value y
    exact (State.watchBus_bare _).after (.ite (hy.upd (State.mk_regs ..)) ht)

theorem State.busClosed_bare : OnlyWhere Bare s s.busClosed := by
  unfold State.busClosed
  extract_lets v x w
  have hv : OnlyWhere Bare s v := OnlyWhere.refl.raise (bare_event _ (by decide))
  clear_value v
  have hw : OnlyWhere Bare s w := hv.upd (State.mk_regs ..)
  clear_value w
  exact .ite (.ite ((hw.trans (w.toStep_bare 10)).wrB (by decide +kernel)) (hw.trans (w.abortStart_bare _ _)))
    ((hw.trans (w.toStep_bare 11)).trans (State.toRun_bare _))

theorem State.advanceStart_bare : OnlyWhere Bare s s.advanceStart := by
  unfold State.advanceStart
  split
  · exact .refl
  · split
    · exact .ite ((s.toStep_bare 4).upd (State.mk_regs ..)) .refl
    · exact .ite (((s.energise_bare 1 1).trans (State.energise_bare _ 2 1)).trans (State.toStep_bare _ 5)) .refl
    · exact .ite ((State.toStep_bare _ 6).after (s.release_bare (k := 3) (by decide))) .refl
    · exact .ite .refl s.step7_bare
    · exact .ite (((s.energise_bare 4 1).trans (State.energise_bare _ 5 1)).trans (State.toStep_bare _ 9)) .refl
    · exact .ite s.busClosed_bare .refl
    · exact .ite ((s.toStep_bare 11).trans (State.toRun_bare _)) .refl
    · exact .refl

/-! ## A disconnect -/

theorem State.disconnectEnd_bare : OnlyWhere Bare s s.disconnectEnd := by
  unfold State.disconnectEnd
  extract_lets v x y
  have hv : OnlyWhere Bare s v :=
    (((s.leaveBal_bare.trans (State.dropEnables_bare _)).trans (State.loopOff_bare _)).trans (State.setMode_bare _ _)).raise (bare_event _ (by decide))
  clear_value v
  exact (State.entryStore_bare _ 3).after (hv.upd (State.mk_regs ..))

theorem State.disconnect4_bare : OnlyWhere Bare s s.disconnect4 := by
  unfold State.disconnect4
  extract_lets v e w
  have hv : OnlyWhere Bare s v := s.releaseAll_bare (by decide)
  clear_value v
  have hw : OnlyWhere Bare s w := hv.upd (State.mk_regs ..)
  clear_value w
  exact .ite hw (hw.trans w.disconnectEnd_bare)

theorem State.disconnect3_bare (always : Bool) : OnlyWhere Bare s (s.disconnect3 always) := by
  unfold State.disconnect3
  extract_lets v
  have hv : OnlyWhere Bare s v := s.releaseAll_bare (by decide)
  clear_value v
  exact .ite .refl (.ite hv (hv.trans v.disconnect4_bare))

theorem State.advanceOpen_bare : OnlyWhere Bare s s.advanceOpen := by
  unfold State.advanceOpen
  split
  · exact .ite (s.enterSafe_bare _ _ _) .refl
  · exact .ite .refl (.ite s.abortEnds_bare (.ite s.abortFinish_bare (.ite s.disconnect4_bare (.ite s.disconnectEnd_bare .refl))))

end Bare

end Sys2Proof.Machine
end

section
/-!
O15: the words written by an apply's take-up. The live word of a register whose word alone stands in the shadows is what the edge made it.
-/
set_option Elab.async false
namespace Sys2Proof.Machine
open Sys2Proof

section Bare
variable (s : State)

/-! ## The contactors' feedbacks -/

theorem bare_closes : ∀ k < 6, Bare (F.CONTACT_OPS_CLOSES k).addr := by decide +kernel

theorem State.feedback_bare {n : Nat} (hn : n < 7) (closed : Bool) : OnlyWhere Bare s (s.feedback n closed) := by
  unfold State.feedback
  extract_lets c v w x y e
  have hv : OnlyWhere Bare s v := OnlyWhere.refl.wrBit (by decide +kernel)
  clear_value v
  have hw : OnlyWhere Bare s w :=
    ((hv.bump (bare_closes (n - 1) (by omega))).raise (bare_event _ (by decide))).wrBit (by decide +kernel)
  clear_value w
  have hx : OnlyWhere Bare s x := .ite (hw.trans (w.retryPass_bare bare_retry.2)) hw
  clear_value x
  have hy : OnlyWhere Bare s y := hv.raise (bare_event _ (by decide))
  clear_value y
  have he : OnlyWhere Bare s e := .ite (hy.trans (y.retryPass_bare bare_retry.2)) hy
  clear_value e
  refine .ite .refl (.ite (.ite ?_ ?_) ?_)
  · exact (State.watchTest_bare _).after ((State.advanceStart_bare _).after (hx.upd rfl))
  · exact (State.watchTest_bare _).after ((hv.raise (bare_event _ (by decide))).upd rfl)
  · exact (State.advanceOpen_bare _).after ((State.advanceStart_bare _).after ((State.watchBus_bare _).after (he.upd rfl)))

theorem State.readPins_bare : OnlyWhere Bare s s.readPins :=
  .foldl .refl fun u n hn => u.feedback_bare ((by decide : ∀ n ∈ [1, 2, 3, 4, 5, 6], n < 7) n hn) _

/-! ## The ring -/

theorem State.sendCmd_bare (c : RingCmd) : OnlyWhere Bare s (s.sendCmd c) :=
  .of_regs ((State.sendCmd_within (T := [.out, .ringSt]) (by decide) (by decide) .rfl).regs (by decide))

theorem State.enterBroken_bare : OnlyWhere Bare s s.enterBroken := by
  unfold State.enterBroken
  extract_lets v h w
  have hv : OnlyWhere Bare s v := ((OnlyWhere.refl.wr (by decide +kernel)).wr (by decide +kernel)).raise (bare_event _ (by decide))
  clear_value v
  exact .ite .refl (hv.upd (State.mk_regs ..))

theorem State.enumerate_bare : OnlyWhere Bare s s.enumerate := by
  unfold State.enumerate
  extract_lets v w x
  have hv : OnlyWhere Bare s v := (OnlyWhere.refl.wrB (by decide +kernel)).wrB (by decide +kernel)
  clear_value v
  have hw : OnlyWhere Bare s w := hv.upd (State.mk_regs ..)
  clear_value w
  have hx : OnlyWhere Bare s x := hw.trans (w.sendCmd_bare _)
  exact .ite .refl (.ite (hx.trans x.enterBroken_bare) hx)

theorem State.cmdEnumerate_bare : OnlyWhere Bare s s.cmdEnumerate := .ite .refl s.enumerate_bare

theorem bare_delay : ∀ side < 2, ∀ n < 32, Bare (delayFld side n).addr := by decide +kernel

theorem State.takeDelay_bare {side n : Nat} (hs : side < 2) (hn : n < 32) : OnlyWhere Bare s (s.takeDelay side n) := by
  have ha := bare_delay side hs n hn
  unfold State.takeDelay
  extract_lets k
  split
  extract_lets d
  refine .ite (OnlyWhere.refl.wr ha) ?_
  split
  · exact OnlyWhere.wr (.of_regs (State.mk_regs ..)) ha
  · exact .ite (OnlyWhere.wr (OnlyWhere.raise (.of_regs (State.mk_regs ..)) (bare_event _ (by decide))) ha) (OnlyWhere.refl.wr ha)

theorem State.setOffsets_bare : OnlyWhere Bare s s.setOffsets := by
  unfold State.setOffsets
  extract_lets c l ofs v
  have hv : OnlyWhere Bare s v := (OnlyWhere.refl.wr (by decide +kernel)).upd (State.mk_regs ..)
  clear_value v
  exact hv.upd (State.mk_regs ..)

theorem State.replanIfDue_bare : OnlyWhere Bare s s.replanIfDue := .ite ((State.replan_bare _).after (.of_regs (State.mk_regs ..))) .refl

theorem State.sequenceDone_bare : OnlyWhere Bare s s.sequenceDone := by
  unfold State.sequenceDone
  extract_lets full v w c b x
  have hv : OnlyWhere Bare s v := .of_regs (State.mk_regs ..)
  clear_value v
  have hx : OnlyWhere Bare s x := (hv.raise (bare_event _ (by decide))).upd (State.mk_regs ..)
  clear_value x
  exact .ite ((OnlyWhere.ite (hx.upd x.writeThresholds_regs) hx).trans (State.replan_bare _)) (hv.trans (State.replanIfDue_bare _))

theorem State.advanceSeq_bare (fuel : Nat) : ∀ s : State, OnlyWhere Bare s (State.advanceSeq fuel s) := by
  induction fuel with
  | zero => exact fun s => .refl
  | succ fuel ih =>
    intro s
    have hm : ∀ f, OnlyWhere Bare s (s.modRing f) := fun f => .of_regs (State.mk_regs ..)
    unfold State.advanceSeq
    split
    · exact (hm _).trans (State.sendCmd_bare _ _)
    · extract_lets busy u v
      refine .ite .refl ?_
      split
      · have hu : OnlyWhere Bare s u := OnlyWhere.refl.wr (by decide +kernel)
        clear_value u
        exact (ih _).after (hu.upd (State.mk_regs ..))
      · exact (hm _).trans (ih _)
      · exact .ite (hm _) ((hm _).trans (ih _))
      · have hv : OnlyWhere Bare s v := .foldl .refl fun u n hn => by
          have hlt : n < 32 := Nat.lt_of_lt_of_le (List.mem_range.1 hn) (Nat.min_le_right ..)
          exact (u.takeDelay_bare (by decide) hlt).trans (State.takeDelay_bare _ (by decide) hlt)
        clear_value v
        exact .ite ((hv.trans v.setOffsets_bare).trans (ih _)) (hv.trans v.sequenceDone_bare)
      · exact s.sequenceDone_bare
      · exact .refl

theorem State.goOn_bare : OnlyWhere Bare s s.goOn := .ite (State.advanceSeq_bare 8 s) .refl

theorem State.measure_bare : OnlyWhere Bare s s.measure :=
  .ite .refl (.ite (.of_regs (State.mk_regs ..)) ((State.goOn_bare _).after (.of_regs (State.mk_regs ..))))

theorem State.originate_bare : OnlyWhere Bare s s.originate := by
  unfold State.originate
  extract_lets all
  exact .ite .refl ((State.measure_bare _).after ((OnlyWhere.refl.wr (by decide +kernel)).upd (State.mk_regs ..)))

theorem State.startRing_bare : OnlyWhere Bare s s.startRing := (OnlyWhere.refl.wr (by decide +kernel)).upd rfl

theorem State.takeRing_bare : OnlyWhere Bare s s.takeRing := .ite s.originate_bare s.startRing_bare

theorem State.stopRing_bare : OnlyWhere Bare s s.stopRing := ((OnlyWhere.refl.wr (by decide +kernel)).wr (by decide +kernel)).upd (State.mk_regs ..)

/-! ## The pair -/

theorem bare_duty : ∀ k < 6, Bare (F.THERM_COOL_C_DUTY k).addr := by decide +kernel

theorem State.driveCool_bare : OnlyWhere Bare s s.driveCool := by
  unfold State.driveCool
  extract_lets on
  exact .foldl .refl fun u k hk => OnlyWhere.refl.wr (bare_duty k (List.mem_range.1 hk))

theorem State.giveUpClaim_bare (role : Nat) : OnlyWhere Bare s (s.giveUpClaim role) := by
  unfold State.giveUpClaim
  extract_lets v w x
  have hv : OnlyWhere Bare s v := ((s.gatesOff_bare.trans (State.freezeAll_bare _ true)).trans (State.dropEnables_bare _)).trans (State.abortRun_bare _ 3)
  clear_value v
  have hw : OnlyWhere Bare s w := .ite (hv.trans (v.cancelApply_bare 0xB)) hv
  clear_value w
  have hx : OnlyWhere Bare s x :=
    (((hw.trans w.endSequence_bare).wr (by decide +kernel)).wr (by decide +kernel)).wr (by decide +kernel)
  exact (hx.trans x.stopRing_bare).trans (State.driveCool_bare _)

theorem State.setReady_bare (b : Bool) : OnlyWhere Bare s (s.setReady b) :=
  .ite .refl ((OnlyWhere.refl.wrB (by decide +kernel)).raise (bare_event _ (by decide)))

theorem State.takeClaim_bare : OnlyWhere Bare s s.takeClaim.1 := by
  unfold State.takeClaim
  extract_lets g u
  split
  · exact .refl
  · split
    · exact (OnlyWhere.refl.raise (bare_event _ (by decide))).trans (State.setReady_bare _ false)
    · have hu : OnlyWhere Bare s u := .ite (OnlyWhere.refl.raise (bare_event _ (by decide))) .refl
      exact (hu.wr (by decide +kernel)).wr (by decide +kernel)

theorem State.pairConflict_bare : OnlyWhere Bare s s.pairConflict := by
  unfold State.pairConflict
  extract_lets v w
  have hv : OnlyWhere Bare s v := .of_regs (State.record_regs ..)
  clear_value v
  have hw : OnlyWhere Bare s w := hv.trans (v.setLatch_bare _ _)
  clear_value w
  exact .ite hv (.ite (hw.trans (w.setMode_bare _)) hw)

theorem State.takePaired_bare : OnlyWhere Bare s s.takePaired := by
  unfold State.takePaired
  extract_lets v
  have hr : ∀ {t : State} {n : Nat}, OnlyWhere Bare s t → OnlyWhere Bare s (t.wr F.PAIR_STATUS_ROLE n) := fun h => h.wr (by decide +kernel)
  have hv : OnlyWhere Bare s v := hr .refl
  clear_value v
  refine .ite .refl (.ite (.ite hv ((hv.trans v.takeClaim_bare).trans (State.takeRing_bare _))) (.ite ?_ (.ite ?_ ?_)))
  · exact (hr (s.giveUpClaim_bare 2)).trans (State.pairConflict_bare _)
  · exact (hr .refl).wr (by decide +kernel)
  · exact hr .refl

/-! ## Protections, sources and links -/

theorem State.voidCheck_bare (n : Nat) : OnlyWhere Bare s (s.voidCheck n) := OnlyWhere.refl.bump (by decide +kernel)

theorem State.refreshActive_bare : OnlyWhere Bare s s.refreshActive := by
  unfold State.refreshActive
  extract_lets h
  exact ((OnlyWhere.refl.wrB (by decide +kernel)).wrB (by decide +kernel)).wrB (by decide +kernel)

theorem State.clearCond_bare (c : Cond) : OnlyWhere Bare s (s.clearCond c) := by
  unfold State.clearCond
  exact .ite ((State.closeFeed_bare _).after ((State.refreshActive_bare _).after (.of_regs (State.mk_regs ..)))) .refl

theorem State.protClear_bare (bit : Nat) : OnlyWhere Bare s (s.protClear bit) :=
  ((OnlyWhere.refl.wrBit (by decide +kernel)).raise (bare_event _ (by decide))).trans (State.clearCond_bare _ _)

theorem State.protOff_bare : OnlyWhere Bare s s.protOff := by
  unfold State.protOff
  extract_lets v p w
  have hw : OnlyWhere Bare s w := (s.voidCheck_bare _).upd (State.mk_regs ..)
  clear_value w
  exact .foldl hw fun u b _ => .ite ((u.protClear_bare b).upd (State.record_regs ..)) .refl

theorem State.snetReset_bare (n : Nat) : OnlyWhere Bare s (s.snetReset n) := by
  unfold State.snetReset
  extract_lets v
  have hv : OnlyWhere Bare s v := OnlyWhere.wrBit (.of_regs rfl) (by decide +kernel)
  clear_value v
  exact .ite hv (hv.trans (v.clearCond_bare _))

theorem State.insulOff_bare : OnlyWhere Bare s s.insulOff :=
  ((OnlyWhere.refl.wrB (by decide +kernel)).wrB (by decide +kernel)).wrB (by decide +kernel)

theorem State.dropTarget_bare : OnlyWhere Bare s s.dropTarget := by
  unfold State.dropTarget
  extract_lets v x
  exact ((OnlyWhere.refl.wrI (by decide +kernel)).wrI (by decide +kernel)).upd (State.mk_regs ..)

theorem State.showLastSeq_bare : OnlyWhere Bare s s.showLastSeq := OnlyWhere.refl.wr (by decide +kernel)

theorem State.showSds_bare : OnlyWhere Bare s s.showSds := OnlyWhere.refl.wrB (by decide +kernel)

theorem State.showWindow_bare : OnlyWhere Bare s s.showWindow := OnlyWhere.refl.wr (by decide +kernel)

theorem bare_queue : ∀ q < 128, Bare (F.QUEUE_QSTAT_FILL q).addr := by decide +kernel

theorem State.refill_bare {q : Nat} (hq : q < 128) : OnlyWhere Bare s (s.refill q) := by
  unfold State.refill State.setFill
  extract_lets u
  have hu : OnlyWhere Bare s u := OnlyWhere.refl.wr (bare_queue q hq)
  clear_value u
  exact .ite (hu.wr (f := F.QUEUE_QSTAT_PEAK q) (bare_queue q hq)) hu

theorem bare_can : ∀ c < 4, Bare (F.CAN_STATUS_STATE c).addr ∧ Bare (F.CAN_ERRCNT_TEC c).addr := by decide +kernel

theorem State.canIntegrate_bare {c : Nat} (hc : c < 4) : OnlyWhere Bare s (s.canIntegrate c) := by
  unfold State.canIntegrate
  exact .ite ((OnlyWhere.refl.wr (bare_can c hc).1).upd rfl) .refl

theorem State.canEnable_bare {c : Nat} (hc : c < 4) : OnlyWhere Bare s (s.canEnable c) := by
  unfold State.canEnable
  extract_lets e u
  have hu : OnlyWhere Bare s u := .ite ((State.voidCheck_bare _ _).after (.of_regs rfl)) .refl
  clear_value u
  have hv := ((hu.wr (f := F.CAN_STATUS_STATE c) (n := 3) (bare_can c hc).1).wr (f := F.CAN_ERRCNT_TEC c) (n := 0) (bare_can c hc).2).wr
    (f := F.CAN_ERRCNT_REC c) (n := 0) (bare_can c hc).2
  generalize ((u.wr (F.CAN_STATUS_STATE c) 3).wr (F.CAN_ERRCNT_TEC c) 0).wr (F.CAN_ERRCNT_REC c) 0 = v at hv ⊢
  exact (State.canIntegrate_bare _ hc).after (hv.upd (State.mk_regs ..))

theorem bare_ptp : ∀ i < 2, Bare (F.PTP_STATE_PORT_STATE i).addr := by decide +kernel

theorem State.ptpEnable_bare {i : Nat} (hi : i < 2) (en : Bool) : OnlyWhere Bare s (s.ptpEnable i en) := by
  have h1 := bare_ptp i hi
  unfold State.ptpEnable
  extract_lets u
  have hu : OnlyWhere Bare s u := .ite (s.voidCheck_bare _) .refl
  clear_value u
  have hv : OnlyWhere Bare s (u.setPtp i {}) := hu.upd rfl
  exact ((hv.wr (f := F.PTP_STATE_PORT_STATE i) h1).wr (f := F.PTP_STATE_SERVO i) h1).wrB (f := F.PTP_STATE_FB_ACTIVE i) h1

/-! ## The take-up -/

theorem bare_cost : ∀ k < 4, Bare (F.SCAN_COST_COST k).addr := by decide +kernel

theorem State.showProgram_bare : OnlyWhere Bare s s.showProgram := by
  unfold State.showProgram
  extract_lets xs v
  have hv : OnlyWhere Bare s v := .foldl .refl fun u x hx =>
    OnlyWhere.refl.wr (bare_cost x.2 (List.mem_range.1 (List.of_mem_zip (a := x.1) (b := x.2) hx).2))
  clear_value v
  exact (hv.wr (by decide +kernel)).wr (by decide +kernel)

theorem State.takeUpProgram_bare : OnlyWhere Bare s s.takeUpProgram := by
  unfold State.takeUpProgram
  split
  · extract_lets n c v
    have hv : OnlyWhere Bare s v := .of_regs (State.mk_regs ..)
    clear_value v
    exact (hv.trans v.showProgram_bare).raise (bare_event _ (by decide))
  · exact .refl

theorem State.holdStations_bare (old : State) : OnlyWhere Bare s (s.holdStations old) := by
  unfold State.holdStations
  refine .foldl .refl fun u n _ => ?_
  extract_lets l
  exact .ite .refl (.of_regs (State.mk_regs ..))

theorem State.takeUpStage_bare (old : State) : OnlyWhere Bare s (s.takeUpStage old) := by
  unfold State.takeUpStage
  extract_lets moved x a y b c d e f
  have ha : OnlyWhere Bare s a := .ite (.of_regs (State.mk_regs ..)) .refl
  clear_value a
  have hb : OnlyWhere Bare s b := .ite (ha.upd (State.mk_regs ..)) ha
  clear_value b
  have hc : OnlyWhere Bare s c := .ite (.ite (OnlyWhere.wr (hb.upd (State.mk_regs ..)) (by decide +kernel)) (hb.trans b.cmdEnumerate_bare)) hb
  clear_value c
  have hd : OnlyWhere Bare s d := .ite ((hc.upd (State.mk_regs ..)).upd (State.writeThresholds_regs _)) hc
  clear_value d
  have he : OnlyWhere Bare s e := .ite (hd.trans d.balStop_bare) hd
  clear_value e
  exact .ite (he.trans e.protOff_bare) he

theorem State.takeUpSources_bare (old : State) : OnlyWhere Bare s (s.takeUpSources old) := by
  unfold State.takeUpSources
  extract_lets moved a b c d e f src g h
  have ha : OnlyWhere Bare s a := .ite s.dropTarget_bare .refl
  clear_value a
  have hb : OnlyWhere Bare s b := .ite (ha.trans a.showLastSeq_bare) ha
  clear_value b
  have hc : OnlyWhere Bare s c := .ite (hb.trans b.takePaired_bare) hb
  clear_value c
  have hd : OnlyWhere Bare s d := .ite (hc.trans c.insulOff_bare) hc
  clear_value d
  have he : OnlyWhere Bare s e := .foldl hd fun u n _ => .ite (u.snetReset_bare n) .refl
  clear_value e
  have hf : OnlyWhere Bare s f := .foldl he fun u k _ => .ite (.of_regs rfl) .refl
  clear_value f
  have hg : OnlyWhere Bare s g := hf.wr (by decide +kernel)
  clear_value g
  exact .ite (.ite hg (hg.upd (State.mk_regs ..))) hf

theorem State.takeUpLinks_bare (old : State) : OnlyWhere Bare s (s.takeUpLinks old) := by
  unfold State.takeUpLinks
  extract_lets moved a b c d e f g
  have ha : OnlyWhere Bare s a := .foldl .refl fun u r hr => .ite (u.refill_bare (by have := List.mem_range.1 hr; omega)) .refl
  clear_value a
  have hb : OnlyWhere Bare s b := .foldl ha fun u n hn =>
    .ite (u.canEnable_bare (List.mem_range.1 hn)) (.ite (u.canIntegrate_bare (List.mem_range.1 hn)) .refl)
  clear_value b
  have hc : OnlyWhere Bare s c := .foldl hb fun u i hi => .ite (u.ptpEnable_bare (List.mem_range.1 hi) _) .refl
  clear_value c
  have hd : OnlyWhere Bare s d := .ite hc (hc.wrB (by decide +kernel))
  clear_value d
  have he : OnlyWhere Bare s e := .ite (hd.trans (d.release_bare (k := 6) (by decide))) hd
  clear_value e
  have hf : OnlyWhere Bare s f := .ite (he.trans e.readPins_bare) he
  clear_value f
  have hg : OnlyWhere Bare s g := .ite (hf.trans f.showSds_bare) hf
  clear_value g
  exact .ite (hg.trans g.showWindow_bare) hg

theorem State.takeUpEvents_bare (old : State) : OnlyWhere Bare s (s.takeUpEvents old) := by
  unfold State.takeUpEvents
  refine .foldl .refl fun u p _ => .foldl .refl fun u i _ => ?_
  extract_lets en
  refine .foldl .refl fun u b _ => .ite (.of_regs ?_) .refl
  exact (State.notify_within (T := [.q91, .rk, .scan]) (by decide) (by decide) (by decide) .rfl).regs (by decide)

theorem State.takeUpPolicy_bare (old : State) : OnlyWhere Bare s (s.takeUpPolicy old) := by
  unfold State.takeUpPolicy
  exact .ite (OnlyWhere.wr (.of_regs (State.record_regs ..)) (by decide +kernel)) .refl

end Bare

/-- The time of an edge shown in the APPLY_AT registers. -/
def State.edgeStamped (s : State) : State :=
  let t := s.timeBase 0
  ((s.wr F.CROWN_APPLY_AT_NS_NS t.ns).wr F.CROWN_APPLY_AT_SL_SEC_LO t.sec).wr F.CROWN_APPLY_AT_SH_SEC_HI (t.sec / 2 ^ 32)

/-- The shadows taken into force, the take-up begun. -/
def State.shadowsTaken (s : State) : State :=
  let u := s.shadow.foldl (fun (s : State) (x : Nat × Word) => s.setWord x.1 (rwsMerge x.1 (s.word x.1) x.2)) s
  { u with shadow := [], stg := { u.stg with takeUp := true } }

theorem State.edgeStamped_bare (s : State) : OnlyWhere Bare s s.edgeStamped :=
  ((OnlyWhere.refl.wr (by decide +kernel)).wr (by decide +kernel)).wr (by decide +kernel)

theorem State.edge_eq (s : State) : s.edge =
    ((((s.edgeStamped.shadowsTaken.takeUpProgram.holdStations s.edgeStamped).takeUpUnits s.edgeStamped).takeUpEvents s.edgeStamped).takeUpPolicy s.edgeStamped) := rfl

/-- What an edge does after it has taken the shadows writes no RWS word. -/
theorem State.edge_bare (s : State) : OnlyWhere Bare s.edgeStamped.shadowsTaken s.edge := by
  rw [State.edge_eq]
  generalize s.edgeStamped = old
  have hp := (State.takeUpProgram_bare old.shadowsTaken).trans (State.holdStations_bare _ old)
  have hu := ((hp.trans (State.takeUpStage_bare _ old)).trans (State.takeUpSources_bare _ old)).trans (State.takeUpLinks_bare _ old)
  exact (hu.trans (State.takeUpEvents_bare _ old)).trans (State.takeUpPolicy_bare _ old)

theorem State.shadowsTaken_word {s : State} {a : Nat} {x : Word} (h : s.shadow = [(a, x)]) : s.shadowsTaken.word a = rwsMerge a (s.word a) x := by
  unfold State.shadowsTaken
  rw [h]
  exact State.word_setWord_same ..

/-- Settles O15: the words that the take-up writes by itself hold no RWS field. -/
theorem appliedValueInForce : Obligations.AppliedValueInForce := by
  unfold Obligations.AppliedValueInForce
  intro a x s h6 ht hs hr
  have hb : ¬ Bare a := fun h => by simp [h.1] at hr
  have hd : s.edgeStamped.shadow = [(a, x)] := by
    rw [State.edgeStamped, State.wr_shadow, State.wr_shadow, State.wr_shadow, hs]
  refine .of_eq (u := s.edge) (congrArg _ (if_pos (by simp [h6, ht]))) rfl ?_
  calc s.edge.word a = s.edgeStamped.shadowsTaken.word a := s.edge_bare a hb
    _ = rwsMerge a (s.edgeStamped.word a) x := State.shadowsTaken_word hd
    _ = rwsMerge a (s.word a) x := by rw [s.edgeStamped_bare a hb]

end Sys2Proof.Machine
end

section
/-!
O32: the samples of the loop. The instances' evaluations write their own words alone; a phase's command goes to its phase.
-/
set_option Elab.async false
namespace Sys2Proof.Machine
open Sys2Proof

section Samples
variable (s : State)

/-! ## The instances' words -/

/-- The words in which the instances show their integrators, outputs and states. -/
def InstanceWords (a : Nat) : Prop := ∃ k < 24, ∃ j < 4, a = 0x22130 + 4 * j + 0x40 * k

theorem InstanceWords.of {k j a : Nat} (hk : k < 24) (hj : j < 4) (h : a = 0x22130 + 4 * j + 0x40 * k) : InstanceWords a := ⟨k, hk, j, hj, h⟩

theorem InstanceWords.bare {a : Nat} (h : InstanceWords a) : Bare a := by
  obtain ⟨k, hk, j, hj, rfl⟩ := h
  exact (by decide +kernel : ∀ k < 24, ∀ j < 4, Bare (0x22130 + 4 * j + 0x40 * k)) k hk j hj

theorem InstanceWords.not_below {a : Nat} (h : a < 0x22130) : ¬ InstanceWords a := by
  rintro ⟨k, hk, j, hj, rfl⟩
  omega

theorem State.setInteg_words {k : Nat} (hk : k < 24) (x : Int) : OnlyWhere InstanceWords s (s.setInteg k x) := by
  unfold State.setInteg
  extract_lets w
  exact (OnlyWhere.refl.wr (f := F.LOOP_ISLO_IS_LO k) (.of hk (j := 0) (by decide) rfl)).wr (f := F.LOOP_ISHI_IS_HI k) (.of hk (j := 1) (by decide) rfl)

theorem OnlyWhere.wrOut {s t : State} {k : Nat} (h : OnlyWhere InstanceWords s t) (hk : k < 24) (x : Int) :
    OnlyWhere InstanceWords s (t.wrI (F.LOOP_OUT_OUT k) x) := h.wrI (.of hk (j := 2) (by decide) rfl)

theorem State.istat_words {k : Nat} (hk : k < 24) : InstanceWords (F.LOOP_ISTAT_SAT k).addr := .of hk (j := 3) (by decide) rfl

theorem State.evalPI_words {k : Nat} (hk : k < 24) (flip : Bool) (r y : Int) (conv : Int → Int) (freeze : Bool) :
    OnlyWhere InstanceWords s (s.evalPI k flip r y conv freeze).2 := by
  unfold State.evalPI
  extract_lets e p di f lo hi isIn preset v o sat1 c sat frozen isOut w x y
  have hw : OnlyWhere InstanceWords s w := (s.setInteg_words hk isOut).wrOut hk o
  clear_value w
  have hx : OnlyWhere InstanceWords s x := (hw.wr (State.istat_words hk)).wrB (f := F.LOOP_ISTAT_ACTIVE k) (State.istat_words hk)
  clear_value x
  have hy : OnlyWhere InstanceWords s y := .ite (hx.bump (f := F.LOOP_ISTAT_SATCNT k) (State.istat_words hk)) hx
  clear_value y
  exact hy.upd (State.mk_regs ..)

theorem State.eval2P2Z_words {k : Nat} (hk : k < 24) (e : Int) : OnlyWhere InstanceWords s (s.eval2P2Z k e).2 := by
  unfold State.eval2P2Z
  extract_lets l t o v
  have hv : OnlyWhere InstanceWords s v := .of_regs (State.mk_regs ..)
  clear_value v
  exact (hv.wrOut hk o).wrB (f := F.LOOP_ISTAT_ACTIVE k) (State.istat_words hk)

theorem State.evalInner_words {n : Nat} (hn : n < 16) (y : Int) : OnlyWhere InstanceWords s (s.evalInner n y).2 := by
  unfold State.evalInner
  extract_lets bb uff
  split
  · split
    rename_i h
    exact (congrArg (fun p : Int × State => OnlyWhere InstanceWords s p.2) h).mp (s.evalPI_words (by omega) _ _ _ _ _)
  · exact .refl

theorem State.evalEnergising_words {n : Nat} (hn : n < 16) (y : Int) : OnlyWhere InstanceWords s (s.evalEnergising n y).2 := by
  unfold State.evalEnergising
  extract_lets r neg us
  split
  · split
    rename_i h
    exact (congrArg (fun p : Int × State => OnlyWhere InstanceWords s p.2) h).mp (s.evalPI_words (by omega) _ _ _ _ _)
  · exact .refl

theorem State.evalPhase_words {n : Nat} (hn : n < 16) (y : Int) : OnlyWhere InstanceWords s (s.evalPhase n y).2 := by
  unfold State.evalPhase
  split
  · exact s.evalEnergising_words hn y
  · exact s.evalInner_words hn y

/-! ## Inner samples -/

theorem State.evalPhase_phase (n k : Nat) (y : Int) : (s.evalPhase n y).2.phase k = s.phase k :=
  State.phase_of_pwm ((State.evalPhase_within (T := [.regs, .loop]) (by decide) (by decide) .rfl).pwm (by decide)) k

/-- The current of a phase sampled at its start. -/
def State.startCurrent (k : Nat) (y : Int) : State := s.setPhase k { s.phase k with iStart := y, iLast := y, iFirst := some ((s.phase k).iFirst.getD y) }

theorem State.startCurrent_iStart (k : Nat) (y : Int) : ((s.startCurrent k y).phase k).iStart = y := by rw [State.startCurrent, State.phase_same]

theorem State.startCurrent_evaluates (k : Nat) (y : Int) : (s.startCurrent k y).evaluates k = s.evaluates k := by
  have h1 : ((s.startCurrent k y).phase k).starting = (s.phase k).starting := by rw [State.startCurrent, State.phase_same]
  unfold State.evaluates
  rw [h1]
  by_cases hr : s.rd F.PAIR_STATUS_ROLE == 2
  · have hs : (s.startCurrent k y).share k = s.share k := by
      unfold State.share
      exact (if_pos hr).trans (if_pos hr).symm
    rw [hs]
    rfl
  · have hr' : ((s.startCurrent k y).rd F.PAIR_STATUS_ROLE == 2) = false := (Bool.not_eq_true _).mp hr
    rw [hr', (Bool.not_eq_true _).mp hr]
    rfl

/-- The current that an inner sample brings. -/
def State.sampled (n : Fin 16) (code : BitVec 16) : Int := phaseCurrent code.toInt (s.rd (F.PHASE_ISCALE_SCALE n.val))

/-- The state that an inner sample evaluates. -/
def State.innerTaken (n : Fin 16) (atStart : Bool) (code : BitVec 16) : State := if atStart then s.startCurrent n.val (s.sampled n code) else s

theorem State.innerTaken_regs (n : Fin 16) (atStart : Bool) (code : BitVec 16) : (s.innerTaken n atStart code).regs = s.regs :=
  ite_holds (P := fun t : State => t.regs = s.regs) rfl rfl

theorem State.innerTaken_evaluates (n : Fin 16) (atStart : Bool) (code : BitVec 16) : (s.innerTaken n atStart code).evaluates n.val = s.evaluates n.val :=
  ite_holds (P := fun t : State => t.evaluates n.val = s.evaluates n.val) (s.startCurrent_evaluates ..) rfl

/-- A late command noted. -/
def State.lateNoted (n : Fin 16) : State :=
  ((s.bump F.LOOP_LATE_COUNT).raise 0x22 7).setPhase n.val { s.phase n.val with lateRun := (s.phase n.val).lateRun + 1 }

/-- What an inner sample makes of the command u that its evaluation gave, in the state after it. -/
def State.innerGives (n : Fin 16) (atStart late skip : Bool) (u : Nat) : State :=
  if late then
    if (s.phase n.val).lateRun = 1 && (s.lateNoted n).rd F.PAIR_STATUS_ROLE == 1 then (s.lateNoted n).relinquishOr 6 fun s => s.react .S 0x22 .lateCommand [n.val]
    else s.lateNoted n
  else if skip || !atStart then s.setPhase n.val { s.phase n.val with uStart := some u, lateRun := 0 }
  else s.setPhase n.val { s.phase n.val with uCentre := some u, lateRun := 0 }

/-- An inner sample that the loop evaluates. -/
theorem exec_innerSample {n : Fin 16} {atStart late : Bool} {code : BitVec 16} (he : s.evaluates n.val = true)
    (hw : (if s.on (F.PHASE_STAT_SKIPPING n.val) then atStart else !atStart || s.on F.LOOP_CFG_INNER_2X) = true) :
    exec (.innerSample n atStart code late) s = .next (((s.innerTaken n atStart code).evalPhase n.val (s.sampled n code)).2.innerGives n atStart late
      (s.on (F.PHASE_STAT_SKIPPING n.val)) ((s.innerTaken n atStart code).evalPhase n.val (s.sampled n code)).1) := by
  have hs := State.on_of_rd (State.rd_regs (s.innerTaken_regs n atStart code) (F.PHASE_STAT_SKIPPING n.val))
  have hi := State.on_of_rd (State.rd_regs (s.innerTaken_regs n atStart code) F.LOOP_CFG_INNER_2X)
  change execInnerSample n atStart code late s = _
  unfold execInnerSample
  extract_lets k y ph v skip wanted
  have hv : v = s.innerTaken n atStart code := rfl
  clear_value v
  subst hv
  have hk : skip = s.on (F.PHASE_STAT_SKIPPING n.val) := hs
  have hwt : wanted = true := by
    unfold wanted
    rw [hi, hk]
    exact hw
  clear_value wanted skip
  subst hk hwt
  have hy : y = s.sampled n code := rfl
  clear_value y
  subst hy
  clear ph
  have hn : k = n.val := rfl
  clear_value k
  subst hn
  rw [if_neg (by rw [s.innerTaken_evaluates, he]; simp)]
  generalize (s.innerTaken n atStart code).evalPhase n.val (s.sampled n code) = p
  obtain ⟨u, v⟩ := p
  unfold State.innerGives
  cases late
  · exact (apply_ite Host.Outcome.next (P := (s.on (F.PHASE_STAT_SKIPPING n.val) || !atStart) = true) _ _).symm
  · rfl

/-- A command in time is delivered for the next period start, or for the centre. -/
theorem State.innerGives_start (n : Fin 16) (atStart skip : Bool) (u : Nat) (h : (skip || !atStart) = true) :
    ((s.innerGives n atStart false skip u).phase n.val).uStart = some u ∧ ((s.innerGives n atStart false skip u).phase n.val).lateRun = 0 ∧
    ((s.innerGives n atStart false skip u).phase n.val).iStart = (s.phase n.val).iStart := by
  have he : s.innerGives n atStart false skip u = s.setPhase n.val { s.phase n.val with uStart := some u, lateRun := 0 } := if_pos h
  rw [he, State.phase_same]
  exact ⟨rfl, rfl, rfl⟩

theorem State.innerGives_centre (n : Fin 16) (u : Nat) :
    ((s.innerGives n true false false u).phase n.val).uCentre = some u ∧ ((s.innerGives n true false false u).phase n.val).lateRun = 0 ∧
    ((s.innerGives n true false false u).phase n.val).iStart = (s.phase n.val).iStart := by
  have he : s.innerGives n true false false u = s.setPhase n.val { s.phase n.val with uCentre := some u, lateRun := 0 } := rfl
  rw [he, State.phase_same]
  exact ⟨rfl, rfl, rfl⟩

/-- A late command is dropped, counted and raised. -/
theorem State.innerGives_late (n : Fin 16) (atStart skip : Bool) (u : Nat) (h : (s.phase n.val).lateRun ≠ 1) :
    ((s.innerGives n atStart true skip u).phase n.val).uStart = (s.phase n.val).uStart ∧
    ((s.innerGives n atStart true skip u).phase n.val).lateRun = (s.phase n.val).lateRun + 1 ∧
    (s.innerGives n atStart true skip u).rd F.LOOP_LATE_COUNT = satCount F.LOOP_LATE_COUNT.width (s.rd F.LOOP_LATE_COUNT + 1) ∧
    (s.innerGives n atStart true skip u).bit (evtStatus 0x22) 7 = true := by
  have he : s.innerGives n atStart true skip u = s.lateNoted n := (if_pos rfl).trans (if_neg (by simp [h]))
  rw [he, State.lateNoted, State.phase_same, State.rd_setPhase]
  refine ⟨rfl, rfl, ?_, State.bit_raise _ (by decide)⟩
  rw [State.rd_raise _ _ _ _ (by decide), State.rd_bump _ _ _ (by decide)]

/-! ## Start samples -/

/-- The start sample of a phase that the loop evaluates. -/
theorem exec_startSample {n : Fin 16} {code : BitVec 16} (he : s.on F.LOOP_STATUS_EVAL = true)
    (hs : (s.phase n.val).starting = true ∨ (s.rd F.PSTAGE_STATUS_LIGHT = 3 ∧ s.bit F.PSTAGE_RUNMASK_RUN n.val = true)) :
    exec (.startSample n code) s = .next (
      let p := (s.wrBit F.PSTAGE_RUNMASK_RUN n.val true).evalInner n.val (s.sampled n code)
      let t := p.2.wr F.PSTAGE_RUNMASK_RUN (s.rd F.PSTAGE_RUNMASK_RUN)
      t.setPhase n.val { t.phase n.val with uStart := some p.1 }) := by
  refine (if_neg ?_).trans rfl
  rcases hs with h | ⟨h, h'⟩
  · simp [he, h]
  · simp [he, h, h']

end Samples

theorem State.newWindow_sums (s : State) : s.newWindow.loop.sumBus = 0 ∧ s.newWindow.loop.sumStr = 0 := ⟨rfl, rfl⟩

/-- The inner samples deliver or drop their commands. -/
theorem innerSamples (n : Fin 16) (code : BitVec 16) (s : State) (he : s.evaluates n.val = true) :
    (s.on (F.PHASE_STAT_SKIPPING n.val) = false → s.on F.LOOP_CFG_INNER_2X = true → Gives (.innerSample n true code false) s fun t =>
      (t.phase n.val).iStart = s.sampled n code ∧ (t.phase n.val).uCentre.isSome = true ∧ (t.phase n.val).lateRun = 0) ∧
    (s.on (F.PHASE_STAT_SKIPPING n.val) = false → Gives (.innerSample n false code false) s fun t =>
      (t.phase n.val).uStart.isSome = true ∧ (t.phase n.val).lateRun = 0) ∧
    (s.on (F.PHASE_STAT_SKIPPING n.val) = true → Gives (.innerSample n true code false) s fun t =>
      (t.phase n.val).iStart = s.sampled n code ∧ (t.phase n.val).uStart.isSome = true ∧ (t.phase n.val).lateRun = 0) := by
  have hi : (((s.innerTaken n true code).evalPhase n.val (s.sampled n code)).2.phase n.val).iStart = s.sampled n code := by
    rw [State.evalPhase_phase]
    exact s.startCurrent_iStart ..
  refine ⟨fun hk h2 => ?_, fun hk => ?_, fun hk => ?_⟩
  · have hx := exec_innerSample s (n := n) (atStart := true) (late := false) (code := code) he (by rw [hk, h2]; rfl)
    rw [hk] at hx
    obtain ⟨g1, g2, g3⟩ := State.innerGives_centre ((s.innerTaken n true code).evalPhase n.val (s.sampled n code)).2 n
      ((s.innerTaken n true code).evalPhase n.val (s.sampled n code)).1
    exact .of_eq hx rfl ⟨g3.trans hi, by rw [g1]; rfl, g2⟩
  · have hx := exec_innerSample s (n := n) (atStart := false) (late := false) (code := code) he (by rw [hk]; rfl)
    obtain ⟨g1, g2, _⟩ := State.innerGives_start ((s.innerTaken n false code).evalPhase n.val (s.sampled n code)).2 n false
      (s.on (F.PHASE_STAT_SKIPPING n.val)) ((s.innerTaken n false code).evalPhase n.val (s.sampled n code)).1 (by simp)
    exact .of_eq hx rfl ⟨by rw [g1]; rfl, g2⟩
  · have hx := exec_innerSample s (n := n) (atStart := true) (late := false) (code := code) he (by rw [hk]; rfl)
    obtain ⟨g1, g2, g3⟩ := State.innerGives_start ((s.innerTaken n true code).evalPhase n.val (s.sampled n code)).2 n true
      (s.on (F.PHASE_STAT_SKIPPING n.val)) ((s.innerTaken n true code).evalPhase n.val (s.sampled n code)).1 (by simp [hk])
    exact .of_eq hx rfl ⟨g3.trans hi, by rw [g1]; rfl, g2⟩

/-- A late inner sample. -/
theorem lateSample (n : Fin 16) (code : BitVec 16) (s : State) (he : s.evaluates n.val = true) (hk : s.on (F.PHASE_STAT_SKIPPING n.val) = false)
    (hl : (s.phase n.val).lateRun ≠ 1) : Gives (.innerSample n false code true) s fun t => (t.phase n.val).uStart = (s.phase n.val).uStart ∧
    (t.phase n.val).lateRun = (s.phase n.val).lateRun + 1 ∧ t.rd F.LOOP_LATE_COUNT = satCount F.LOOP_LATE_COUNT.width (s.rd F.LOOP_LATE_COUNT + 1) ∧
    t.bit (evtStatus 0x22) 7 = true := by
  have hx := exec_innerSample s (n := n) (atStart := false) (late := true) (code := code) he (by rw [hk]; rfl)
  have hp : (s.evalPhase n.val (s.sampled n code)).2.phase n.val = s.phase n.val := State.evalPhase_phase ..
  have hr := (s.evalPhase_words n.isLt (s.sampled n code)).rd (f := F.LOOP_LATE_COUNT) (InstanceWords.not_below (by decide))
  obtain ⟨g1, g2, g3, g4⟩ := State.innerGives_late (s.evalPhase n.val (s.sampled n code)).2 n false (s.on (F.PHASE_STAT_SKIPPING n.val))
    (s.evalPhase n.val (s.sampled n code)).1 (hp ▸ hl)
  exact .of_eq hx rfl ⟨g1.trans (congrArg Phase.uStart hp), g2.trans (congrArg (fun p : Phase => p.lateRun + 1) hp), g3.trans (by rw [hr]), g4⟩

/-- The start sample of a phase about to start. -/
theorem startSample (n : Fin 16) (code : BitVec 16) (s : State) (he : s.on F.LOOP_STATUS_EVAL = true)
    (hs : (s.phase n.val).starting = true ∨ (s.rd F.PSTAGE_STATUS_LIGHT = 3 ∧ s.bit F.PSTAGE_RUNMASK_RUN n.val = true)) :
    Gives (.startSample n code) s fun t => (t.phase n.val).uStart.isSome = true ∧ t.rd F.PSTAGE_RUNMASK_RUN = s.rd F.PSTAGE_RUNMASK_RUN := by
  refine .of_eq (exec_startSample s he hs) rfl ?_
  extract_lets p t
  refine ⟨by rw [State.phase_same]; rfl, ?_⟩
  rw [State.rd_setPhase, State.rd_wr _ _ _ (by decide)]
  exact Nat.mod_eq_of_lt (State.rd_lt ..)

end Sys2Proof.Machine
end

section
/-!
O32: the outer sample. The chain's total current reference lies within its clamp, and what comes after the chain keeps it.
-/
set_option Elab.async false
namespace Sys2Proof.Machine
open Sys2Proof

section Outer
variable {s t u : State}

/-! ## The frames of the chain -/

theorem InstanceWords.frame (h : OnlyWhere InstanceWords s t) : OnlyWhere Bare s t := h.mono fun _ => InstanceWords.bare

variable (s)

theorem State.rampRef_regs (k : Nat) (r y : Int) : (s.rampRef k r y).2.regs = s.regs :=
  (State.rampRef_within (T := [.loop]) (by decide) .rfl).regs (by decide)

theorem State.evalPI_bare {k : Nat} (hk : k < 24) (flip : Bool) (r y : Int) (conv : Int → Int) (freeze : Bool) :
    OnlyWhere Bare s (s.evalPI k flip r y conv freeze).2 := InstanceWords.frame (s.evalPI_words hk flip r y conv freeze)

theorem State.evalBound_bare {k : Nat} (hk : k < 24) (flip : Bool) (r y other : Int) : OnlyWhere Bare s (s.evalBound k flip r y other).2 := by
  unfold State.evalBound
  split
  · exact s.evalPI_bare hk _ _ _ _ _
  · exact .refl

theorem State.evalSource_bare : OnlyWhere Bare s s.evalSource.2 := by
  unfold State.evalSource
  extract_lets src i r v y
  have hv : OnlyWhere Bare s v := OnlyWhere.refl.wrI (by decide +kernel)
  clear_value v
  split
  · split
    · split
      rename_i re w h
      have hw : OnlyWhere Bare s w := (congrArg (fun p : Int × State => OnlyWhere Bare s p.2) h).mp (hv.upd (State.rampRef_regs ..))
      extract_lets x
      have hx : OnlyWhere Bare s x := hw.wrI (by decide +kernel)
      exact hx.trans (x.evalPI_bare (by decide) _ _ _ _ _)
    · exact hv
  · split
    · split
      · split
        rename_i re w h
        have hw : OnlyWhere Bare s w := (congrArg (fun p : Int × State => OnlyWhere Bare s p.2) h).mp (.of_regs (State.rampRef_regs ..))
        exact hw.trans (w.evalPI_bare (by decide) _ _ _ _ _)
      · exact .refl
    · exact .refl

theorem State.setCurrent_bare (given : Option Int) : OnlyWhere Bare s (s.setCurrent given).2 := by
  unfold State.setCurrent
  split
  rename_i x v h
  exact (congrArg (fun p : Int × State => OnlyWhere Bare s p.2) h).mp s.evalSource_bare

theorem State.evalLimits_bare : OnlyWhere Bare s s.evalLimits.2.2.2 := by
  unfold State.evalLimits
  extract_lets big
  split
  rename_i o19 v h
  have hv : OnlyWhere Bare s v := (congrArg (fun p : Int × State => OnlyWhere Bare s p.2) h).mp (s.evalBound_bare (by decide) _ _ _ _)
  split
  rename_i o20 w h
  have hw : OnlyWhere Bare s w := (congrArg (fun p : Int × State => OnlyWhere Bare s p.2) h).mp (hv.trans (v.evalBound_bare (by decide) _ _ _ _))
  split
  rename_i o21 x h
  have hx : OnlyWhere Bare s x := (congrArg (fun p : Int × State => OnlyWhere Bare s p.2) h).mp (hw.trans (w.evalBound_bare (by decide) _ _ _ _))
  extract_lets hi lo
  split
  · exact hx.raise (bare_event _ (by decide))
  · exact hx

/-- The addend of the sum that controller k evaluates. -/
def State.auxiliary (s : State) (e : Int) (lock : Bool) (k : Nat) : Int × State :=
  if !s.instOn k then (0, s)
  else if lock then (0, (s.wrI (F.LOOP_OUT_OUT k) 0).wrB (F.LOOP_ISTAT_ACTIVE k) true)
  else if s.rd (F.LOOP_ICFG_TYPE k) == 1 then s.eval2P2Z k e
  else s.evalPI k false e 0

theorem State.auxiliary_bare {k : Nat} (hk : k < 24) (e : Int) (lock : Bool) : OnlyWhere Bare s (s.auxiliary e lock k).2 := by
  unfold State.auxiliary
  split
  · exact .refl
  · split
    · exact InstanceWords.frame ((OnlyWhere.refl.wrOut hk 0).wrB (f := F.LOOP_ISTAT_ACTIVE k) (State.istat_words hk))
    · split
      · exact InstanceWords.frame (s.eval2P2Z_words hk e)
      · exact s.evalPI_bare hk _ _ _ _ _

theorem State.evalTotal_bare (iCmd : Int) : OnlyWhere Bare s (s.evalTotal iCmd).2 := by
  unfold State.evalTotal
  extract_lets y
  split
  rename_i re v h
  have hv : OnlyWhere Bare s v := by
    refine (congrArg (fun p : Int × State => OnlyWhere Bare s p.2) h).mp ?_
    split
    · exact .of_regs (State.rampRef_regs ..)
    · exact .refl
  extract_lets e lock aux
  split
  rename_i o22 w h
  have hw : OnlyWhere Bare s w := (congrArg (fun p : Int × State => OnlyWhere Bare s p.2) h).mp (hv.trans (v.auxiliary_bare (k := 22) (by decide) e lock))
  split
  rename_i o23 x h
  have hx : OnlyWhere Bare s x := (congrArg (fun p : Int × State => OnlyWhere Bare s p.2) h).mp (hw.trans (w.auxiliary_bare (k := 23) (by decide) e lock))
  extract_lets m conv
  split
  rename_i o16 z h
  have hz : OnlyWhere Bare s z := by
    refine (congrArg (fun p : Int × State => OnlyWhere Bare s p.2) h).mp ?_
    split
    · exact hx.trans (x.evalPI_bare (by decide) _ _ _ _ _)
    · exact hx
  exact hz.upd (State.mk_regs ..)

theorem State.noteRun_bare (clipped : Bool) (iSet : Int) : OnlyWhere Bare s (s.noteRun clipped iSet) := by
  unfold State.noteRun
  extract_lets st v
  have hv : OnlyWhere Bare s v := .ite (OnlyWhere.refl.bump (by decide +kernel)) .refl
  clear_value v
  exact .ite (hv.upd (State.mk_regs ..)) .refl

theorem State.refreshRamping_bare (refs : List (Nat × Int)) : OnlyWhere Bare s (s.refreshRamping refs) := by
  unfold State.refreshRamping
  extract_lets now was v
  have hv : OnlyWhere Bare s v := OnlyWhere.refl.wrB (by decide +kernel)
  clear_value v
  exact .ite (hv.raise (bare_event _ (by decide))) hv

theorem State.settleActive_bare : OnlyWhere Bare s s.settleActive := by
  unfold State.settleActive
  extract_lets src bus on
  exact .foldl .refl fun u k hk => .ite .refl (OnlyWhere.refl.wrB (f := F.LOOP_ISTAT_ACTIVE k) (bare_instance k (List.mem_range.1 hk)))

/-! ## After the chain -/

theorem State.cancelShed_bare (lock : Bool) : OnlyWhere Bare s (s.cancelShed lock) := by
  unfold State.cancelShed
  split
  · exact .refl
  · extract_lets p v w
    have hv : OnlyWhere Bare s v := OnlyWhere.wrB (.of_regs (State.mk_regs ..)) (by decide +kernel)
    clear_value v
    have hw : OnlyWhere Bare s w := (hv.bump (by decide +kernel)).raise (bare_event _ (by decide))
    clear_value w
    exact .ite (hw.wrB (by decide +kernel)) hw

theorem State.addPhase_bare {n : Nat} (hn : n < 16) : OnlyWhere Bare s (s.addPhase n) := by
  unfold State.addPhase
  extract_lets run sum v p w l x
  have hv : OnlyWhere Bare s v := InstanceWords.frame (s.setInteg_words (by omega) _)
  clear_value v
  have hw : OnlyWhere Bare s w := OnlyWhere.raise (hv.upd (State.mk_regs ..)) (bare_event _ (by decide))
  clear_value w
  have hx : OnlyWhere Bare s x := hw.upd (State.mk_regs ..)
  clear_value x
  exact .ite ((hx.trans x.releaseLock_bare).upd (State.mk_regs ..)) hx

theorem State.beginShed_bare : OnlyWhere Bare s s.beginShed := by
  unfold State.beginShed
  split
  · exact .refl
  · rename_i n hn
    have h16 : n < 16 := s.running_lt (List.mem_of_getLast? hn)
    exact OnlyWhere.wrB ((OnlyWhere.refl.wr (f := F.PHASE_STAT_STATE n) (bare_phase n h16)).upd (State.mk_regs ..)) (by decide +kernel)

theorem State.addCandidate_lt {n : Nat} (h : s.addCandidate = some n) : n < 16 := List.mem_range.1 (List.mem_of_find?_eq_some h)

theorem State.shedding_bare : OnlyWhere Bare s s.shedding := by
  unfold State.shedding
  extract_lets n keep iAdd iShed d low
  have hk : ∀ {t : State} {x : Option Nat}, OnlyWhere Bare s t → OnlyWhere Bare s (keep t x) := fun h => h.upd (State.mk_regs ..)
  refine .ite (hk .refl) (.ite (.ite (s.cancelShed_bare true) .refl) ?_)
  split
  · rename_i k h
    refine hk (s.addPhase_bare (s.addCandidate_lt ?_))
    split at h
    · exact h
    · cases h
  · exact .ite (hk s.beginShed_bare) (hk .refl)

theorem State.bursting_bare : OnlyWhere Bare s s.bursting := by
  unfold State.bursting
  extract_lets d two p low
  exact .ite (.ite (.of_regs (State.mk_regs ..)) .refl) (.ite (OnlyWhere.raise (.of_regs (State.mk_regs ..)) (bare_event _ (by decide))) (.of_regs (State.mk_regs ..)))

theorem State.disconnectRamp_bare : OnlyWhere Bare s s.disconnectRamp := by
  unfold State.disconnectRamp
  extract_lets c k v
  have hv : OnlyWhere Bare s v := OnlyWhere.wrB (.of_regs (State.mk_regs ..)) (by decide +kernel)
  clear_value v
  exact .ite ((State.disconnect3_bare _ _).after (hv.upd (State.mk_regs ..))) hv

theorem State.rampEnds_bare : OnlyWhere Bare s s.rampEnds := by
  unfold State.rampEnds
  extract_lets ramping at0
  exact .ite (.of_regs (State.mk_regs ..)) (.ite s.disconnectRamp_bare .refl)

/-! ## The total current reference -/

theorem clampI_bounds {lo hi : Int} (h : lo ≤ hi) (x : Int) : lo ≤ clampI x lo hi ∧ clampI x lo hi ≤ hi := by
  unfold clampI
  split
  · omega
  · split <;> omega

/-- The clamp of the total current reference is that of a 32-bit number. -/
theorem State.iTotMax_bounds : 0 ≤ s.iTotMax ∧ s.iTotMax < 2 ^ 31 := by
  unfold State.iTotMax tenthToQ
  refine ⟨?_, (satSigned_bounds 32 _).2⟩
  have h : 0 ≤ roundDiv ((s.rd F.LOOP_ILIM_I_TOT_MAX : Int) * 65536) 10 := by
    unfold roundDiv
    omega
  unfold satSigned
  split
  · omega
  · split <;> omega

theorem OnlyWhere.iTotMax {s t : State} (h : OnlyWhere Bare s t) : t.iTotMax = s.iTotMax := by
  unfold State.iTotMax
  rw [h.rd (by decide +kernel)]

/-- The total current reference of s lies within m on both sides. -/
def State.Clamped (s : State) (m : Int) : Prop := -m ≤ s.rdI F.LOOP_ITOT_I_TOT ∧ s.rdI F.LOOP_ITOT_I_TOT ≤ m

theorem State.Clamped.keep {s t : State} {m : Int} (h : s.Clamped m) (hk : OnlyWhere Bare s t) : t.Clamped m := by
  unfold State.Clamped
  rw [hk.rdI (by decide +kernel)]
  exact h

/-- A total current reference written within its clamp. -/
theorem State.clamped_wrI {m x : Int} (hm : 0 ≤ m ∧ m < 2 ^ 31) (hx : -m ≤ x ∧ x ≤ m) : (s.wrI F.LOOP_ITOT_I_TOT x).Clamped m := by
  have h : (s.wrI F.LOOP_ITOT_I_TOT x).rdI F.LOOP_ITOT_I_TOT = x := by
    rw [State.rdI_wrI _ _ (by decide) (by decide)]
    unfold satSigned
    rw [if_neg (by simp only []; omega), if_neg (by simp only []; omega)]
  unfold State.Clamped
  rw [h]
  exact hx

/-- What the chain shows of its results: the limits, the references and their saturation. -/
def State.chainShown (s : State) (iSet hi lo : Int) (conflict : Bool) (stim i1 iCmd sum : Int) : State :=
  let m := s.iTotMax
  let burst := s.rd F.PSTAGE_STATUS_LIGHT ≥ 2
  let tot := if burst then clampI ((if iCmd < 0 then -1 else 1) * tenthToQ (s.rd F.PSTAGE_BURST_I)) (-m) m else clampI sum (-m) m
  let s := ((((s.wrI F.LOOP_ISET_I_SET iSet).wrI F.LOOP_IHI_I_HI hi).wrI F.LOOP_ILO_I_LO lo).wrI F.LOOP_ITOT_I_TOT tot).wrI F.LOOP_STIM_STIM stim
  let atHi := iCmd == hi && hi < iSet + stim
  let atLo := iCmd == lo && lo > iSet + stim
  let s := (s.wrB F.LOOP_STATUS_AT_HI atHi).wrB F.LOOP_STATUS_AT_LO atLo
  let s := if atHi then s.raise 0x22 0 else s
  let s := if atLo then s.raise 0x22 1 else s
  let s := s.noteRun (iCmd != i1 + stim || (!burst && tot != sum)) iSet
  let s := { s with loop := { s.loop with iCmd := iCmd, conflict := conflict },
                    pwm := { s.pwm with iDem := if burst then iCmd.natAbs else tot.natAbs } }
  (s.refreshRamping (s.rampRefs iCmd)).settleActive

theorem State.chainShown_clamped (iSet hi lo : Int) (conflict : Bool) (stim i1 iCmd sum : Int) :
    (s.chainShown iSet hi lo conflict stim i1 iCmd sum).Clamped s.iTotMax := by
  have hm := s.iTotMax_bounds
  have hmm : -s.iTotMax ≤ s.iTotMax := by omega
  unfold State.chainShown
  extract_lets m burst tot v atHi atLo w x y z l p q
  have ht : -m ≤ tot ∧ tot ≤ m := by
    unfold tot
    split
    · exact clampI_bounds hmm _
    · exact clampI_bounds hmm _
  have hv : v.Clamped m := (State.clamped_wrI _ hm ht).keep (OnlyWhere.refl.wrI (by decide +kernel))
  clear_value v
  have hw : OnlyWhere Bare v w := (OnlyWhere.refl.wrB (by decide +kernel)).wrB (by decide +kernel)
  clear_value w
  have hx : OnlyWhere Bare v x := .ite (hw.raise (bare_event _ (by decide))) hw
  clear_value x
  have hy : OnlyWhere Bare v y := .ite (hx.raise (bare_event _ (by decide))) hx
  clear_value y
  have hz : OnlyWhere Bare v z := hy.trans (y.noteRun_bare _ _)
  clear_value z
  have hq : OnlyWhere Bare v q := hz.upd (State.mk_regs ..)
  clear_value q
  exact hv.keep ((hq.trans (q.refreshRamping_bare _)).trans (State.settleActive_bare _))

theorem State.chain_clamped : s.chain.Clamped s.iTotMax := by
  unfold State.chain
  extract_lets e stim
  have he : OnlyWhere Bare s e := .of_regs (State.mk_regs ..)
  clear_value e
  split
  rename_i iSet v h
  have hv : OnlyWhere Bare s v := (congrArg (fun p : Int × State => OnlyWhere Bare s p.2) h).mp (he.trans (e.setCurrent_bare none))
  split
  rename_i hi lo conflict w h
  have hw : OnlyWhere Bare s w := (congrArg (fun p : Int × Int × Bool × State => OnlyWhere Bare s p.2.2.2) h).mp (hv.trans v.evalLimits_bare)
  extract_lets i1 iCmd
  split
  rename_i sum x h
  have hx : OnlyWhere Bare s x := (congrArg (fun p : Int × State => OnlyWhere Bare s p.2) h).mp (hw.trans (w.evalTotal_bare iCmd))
  rw [← hx.iTotMax]
  exact x.chainShown_clamped iSet hi lo conflict stim i1 iCmd sum

end Outer

end Sys2Proof.Machine
end

section
/-!
O32: what the transitions that may end in an outer sample keep of it, and the statement.
-/
set_option Elab.async false
namespace Sys2Proof.Machine
open Sys2Proof

section OuterSample
variable {s t u : State}

/-! ## No transition has the loop evaluate again -/

/-- From s to t the loop does not begin to evaluate. -/
def EvalOff (s t : State) : Prop := s.rd F.LOOP_STATUS_EVAL = 0 → t.rd F.LOOP_STATUS_EVAL = 0

theorem EvalOff.refl : EvalOff s s := id

theorem EvalOff.trans (h : EvalOff s t) (h' : EvalOff t u) : EvalOff s u := fun he => h' (h he)

theorem EvalOff.after (h' : EvalOff t u) (h : EvalOff s t) : EvalOff s u := h.trans h'

theorem EvalOff.of_pages {P : List Nat} (h : OnlyPages P s t) (hp : 0x22 ∉ P) : EvalOff s t := fun he => (h.rd (f := F.LOOP_STATUS_EVAL) hp).trans he

theorem EvalOff.upd (h : EvalOff s t) (hr : u.regs = t.regs) : EvalOff s u := fun he => (State.rd_regs hr _).trans (h he)

theorem EvalOff.ite {c : Prop} [Decidable c] {a b : State} (ha : EvalOff s a) (hb : EvalOff s b) : EvalOff s (if c then a else b) := ite_holds ha hb

theorem EvalOff.wr (h : EvalOff s t) {f : Fld} {n : Nat} (hf : pageOf f.addr ≠ 0x22) : EvalOff s (t.wr f n) :=
  h.trans (.of_pages (P := [pageOf f.addr]) (OnlyPages.refl.wr (List.mem_singleton.2 rfl)) fun hp => hf (List.mem_singleton.1 hp).symm)

theorem EvalOff.wrB (h : EvalOff s t) {f : Fld} {b : Bool} (hf : pageOf f.addr ≠ 0x22) : EvalOff s (t.wrB f b) := h.wr hf

theorem EvalOff.bump (h : EvalOff s t) {f : Fld} {n : Nat} (hf : pageOf f.addr ≠ 0x22) : EvalOff s (t.bump f n) := h.wr hf

theorem EvalOff.raise (h : EvalOff s t) {page bit : Nat} (hp : pageOf (evtStatus page).addr ≠ 0x22) : EvalOff s (t.raise page bit) :=
  h.trans (.of_pages (P := [pageOf (evtStatus page).addr]) (OnlyPages.refl.raise (List.mem_singleton.2 rfl)) fun h => hp (List.mem_singleton.1 h).symm)

section Ends
variable (s)

theorem State.entryStore_evalOff (n : Nat) : EvalOff s (s.entryStore n) := .of_pages (s.entryStore_pages n) (by decide)

theorem State.setMode_evalOff (m : Mode) : EvalOff s (s.setMode m) := .of_pages (s.setMode_pages m) (by decide)

theorem State.releaseAll_evalOff {ks : List Nat} (h : ∀ k ∈ ks, k < 7) : EvalOff s (s.releaseAll ks) := .of_pages (s.releaseAll_pages h) (by decide)

theorem State.startToStandby_evalOff : EvalOff s s.startToStandby := by
  unfold State.startToStandby
  extract_lets v x
  have hv : EvalOff s v := fun _ =>
    (State.setMode_evalOff _ _) ((EvalOff.refl (s := s.startOver.dropEnables.loopOff)).wrB (by decide) (State.rd_loopOff_eval _))
  clear_value v
  exact (State.entryStore_evalOff _ 3).after (hv.upd (State.mk_regs ..))

theorem State.startOver_evalOff : EvalOff s s.startOver := by
  unfold State.startOver
  extract_lets v
  have hv : EvalOff s v := ((EvalOff.of_pages (s.toStep_pages 0) (by decide)).wrB (by decide)).wrB (by decide)
  clear_value v
  exact hv.upd (State.mk_regs ..)

theorem State.abortEnds_evalOff : EvalOff s s.abortEnds := by
  have hv : EvalOff s (s.abortShown s.track.abortCode) := ((EvalOff.refl.wr (by decide)).bump (by decide)).raise (by decide)
  have hl : ∀ v : State, EvalOff v (v.startLasting s.track.abortCode) := fun v =>
    (((EvalOff.refl.wr (by decide)).bump (by decide)).raise (by decide)).upd (State.record_regs ..)
  rw [State.abortEnds_eq]
  generalize s.abortShown s.track.abortCode = v at hv ⊢
  split
  · exact hv.trans v.startToStandby_evalOff
  · exact .ite ((hv.trans (hl v)).trans (State.startToStandby_evalOff _)) ((hv.trans v.startOver_evalOff).upd (State.mk_regs ..))

theorem State.abortFinish_evalOff : EvalOff s s.abortFinish := by
  unfold State.abortFinish
  extract_lets v e w
  have hv : EvalOff s v := s.releaseAll_evalOff (by decide)
  clear_value v
  have hw : EvalOff s w := hv.upd (State.mk_regs ..)
  clear_value w
  exact .ite hw (hw.trans w.abortEnds_evalOff)

theorem State.abortBus_evalOff (always : Bool) : EvalOff s (s.abortBus always) := by
  unfold State.abortBus
  extract_lets v
  have hv : EvalOff s v := s.releaseAll_evalOff (by decide)
  clear_value v
  exact .ite .refl (.ite hv (hv.trans v.abortFinish_evalOff))

theorem State.disconnectEnd_evalOff : EvalOff s s.disconnectEnd := by
  unfold State.disconnectEnd
  extract_lets v x y
  have hv : EvalOff s v := fun _ =>
    (((State.setMode_evalOff _ .standby).raise (by decide)) : EvalOff s.leaveBal.dropEnables.loopOff _) (State.rd_loopOff_eval _)
  clear_value v
  exact (State.entryStore_evalOff _ 3).after (hv.upd (State.mk_regs ..))

theorem State.disconnect4_evalOff : EvalOff s s.disconnect4 := by
  unfold State.disconnect4
  extract_lets v e w
  have hv : EvalOff s v := s.releaseAll_evalOff (by decide)
  clear_value v
  have hw : EvalOff s w := hv.upd (State.mk_regs ..)
  clear_value w
  exact .ite hw (hw.trans w.disconnectEnd_evalOff)

theorem State.disconnect3_evalOff (always : Bool) : EvalOff s (s.disconnect3 always) := by
  unfold State.disconnect3
  extract_lets v
  have hv : EvalOff s v := s.releaseAll_evalOff (by decide)
  clear_value v
  exact .ite .refl (.ite hv (hv.trans v.disconnect4_evalOff))

theorem State.srdRelease_evalOff : EvalOff s s.srdRelease := by
  unfold State.srdRelease
  split
  · exact .refl
  · extract_lets v w
    have hv : EvalOff s v := EvalOff.refl.wr (by decide)
    clear_value v
    have hw : EvalOff s w := .ite hv (hv.trans (State.releaseAll_evalOff _ (by decide)))
    clear_value w
    exact .ite (fun _ => State.rd_enterSafe_eval ..) hw

theorem State.nearZero_evalOff : EvalOff s s.nearZero := by
  unfold State.nearZero
  extract_lets v w
  have hv : EvalOff s v := .ite (s.disconnect3_evalOff false) .refl
  clear_value v
  have hw : EvalOff s w := .ite (hv.trans (v.abortBus_evalOff false)) hv
  clear_value w
  exact .ite (hw.trans w.srdRelease_evalOff) hw

end Ends

/-! ## The sample stays -/

/-- What an outer sample takes: the readings, the string's voltage and its count. -/
def State.sample (s : State) : Readings × Int × Nat := (s.meas, s.loop.vStr, s.pwm.outerCnt)

theorem State.sample_within {T : List Part} (h : Within T s t) (hm : Part.meas ∉ T) (hl : Part.loop ∉ T) (hp : Part.pwm ∉ T) : t.sample = s.sample := by
  rw [State.sample, h.meas hm, h.loop hl, h.pwm hp, State.sample]

section Stays
variable (s)

theorem State.gatesOff_sample : s.gatesOff.sample = s.sample := by
  have hm : s.gatesOff.meas = s.meas := (State.gatesOff_within (T := [.regs, .pwm, .loop]) (by decide) (by decide) (by decide) .rfl).meas (by decide)
  obtain ⟨_, _, hc, _⟩ := s.gatesOff_beat
  have hl : s.gatesOff.loop.vStr = s.loop.vStr := by
    unfold State.gatesOff
    extract_lets v w x
    have hv : Within [.regs, .pwm] s v := within_foldl .rfl fun u n hu => by
      dsimp only
      exact State.setPhase_within (by decide) (State.wrB_within (by decide) (within_ite hu (State.wr_within (by decide) hu)))
    have hx : Within [.regs, .pwm] s x := State.wrB_within (by decide) (State.wr_within (by decide) (State.wrB_within (by decide)
      (State.wr_within (by decide) (State.wr_within (by decide) hv))))
    clear_value x
    have hs : x.loop = s.loop := hx.loop (by decide)
    exact (show _ = x.loop.vStr from rfl).trans (congrArg Loop.vStr hs)
  rw [State.sample, hm, hl, hc, State.sample]

theorem State.enterSafe_sample (latch : Bool) (src : Nat) (ev : Ev) : (s.enterSafe latch src ev).sample = s.sample := by
  unfold State.enterSafe
  extract_lets v w x fast y c z q p l
  have hv : v.sample = s.sample := by
    have h1 : s.leaveBal.sample = s.sample := State.sample_within (T := [.regs, .out, .q91, .rk, .scan, .ringSt, .bal])
      (State.leaveBal_within (by decide) (by decide) (by decide) (by decide) (by decide) (by decide) (by decide) .rfl) (by decide) (by decide) (by decide)
    have h2 : v.sample = s.leaveBal.gatesOff.sample := State.sample_within (T := [.regs, .crown, .q91, .track, .prot, .rk, .scan])
      (State.setMode_within (by decide) (State.dropStart_within (by decide) (by decide) (by decide) (by decide) (by decide) (by decide)
        (State.loopOff_within (by decide) (State.dropEnables_within (by decide) (by decide) .rfl)))) (by decide) (by decide) (by decide)
    exact h2.trans ((State.gatesOff_sample _).trans h1)
  clear_value v
  have hx : x.sample = s.sample := (State.sample_within (T := [.regs, .q91, .rk, .scan]) (State.wrB_within (by decide)
    (State.raise_within (by decide) (by decide) (by decide) (by decide) (State.wr_within (by decide) (State.wrB_within (by decide) .rfl))))
    (by decide) (by decide) (by decide)).trans hv
  clear_value x
  have hy : y.sample = s.sample := ite_holds (P := fun u : State => u.sample = s.sample) hx hx
  clear_value y
  have hz : z.sample = s.sample := hy
  clear_value z
  have hq : q.sample = s.sample := ite_holds (P := fun u : State => u.sample = s.sample) ((State.sample_within (T := [.regs, .q91, .rk, .scan, .tmx])
    (State.setLatch_within (by decide) (by decide) (by decide) (by decide) (by decide) .rfl) (by decide) (by decide) (by decide)).trans hz) hz
  clear_value q
  exact (State.sample_within (T := [.regs, .q91, .rk, .scan, .est, .tele, .nvm]) (State.entryStore_within (by decide) (by decide) (by decide) (by decide)
    (by decide) (by decide) (by decide) .rfl) (by decide) (by decide) (by decide)).trans hq

theorem State.disconnect3_sample (always : Bool) : (s.disconnect3 always).sample = s.sample :=
  State.sample_within (T := [.regs, .out, .crown, .q91, .track, .prot, .rk, .scan, .est, .ringSt, .bal, .tele, .nvm])
    (State.disconnect3_within (by decide) (by decide) (by decide) (by decide) (by decide) (by decide) (by decide) (by decide) (by decide) (by decide)
      (by decide) (by decide) (by decide) .rfl) (by decide) (by decide) (by decide)

theorem State.abortBus_sample (always : Bool) : (s.abortBus always).sample = s.sample :=
  State.sample_within (T := [.regs, .q91, .track, .prot, .rk, .scan, .est, .tele, .nvm])
    (State.abortBus_within (by decide) (by decide) (by decide) (by decide) (by decide) (by decide) (by decide) (by decide) (by decide) .rfl)
    (by decide) (by decide) (by decide)

theorem State.srdRelease_sample : s.srdRelease.sample = s.sample := by
  unfold State.srdRelease
  split
  · rfl
  · extract_lets v w
    have hv : Within [.regs, .q91, .track, .rk, .scan] s v := State.wr_within (by decide) .rfl
    clear_value v
    have hw : Within [.regs, .q91, .track, .rk, .scan] s w :=
      within_ite hv (State.releaseAll_within (by decide) (by decide) (by decide) (by decide) (by decide) hv)
    have hs : w.sample = s.sample := State.sample_within hw (by decide) (by decide) (by decide)
    exact ite_holds (P := fun u : State => u.sample = s.sample) ((w.enterSafe_sample ..).trans hs) hs

theorem State.nearZero_sample : s.nearZero.sample = s.sample := by
  have hi : ∀ {c : Prop} [Decidable c] {a b : State}, a.sample = s.sample → b.sample = s.sample → (if c then a else b).sample = s.sample := fun h h' =>
    ite_holds (P := fun u : State => u.sample = s.sample) h h'
  unfold State.nearZero
  extract_lets v w
  have hv : v.sample = s.sample := hi (s.disconnect3_sample false) rfl
  clear_value v
  have hw : w.sample = s.sample := hi ((v.abortBus_sample false).trans hv) hv
  clear_value w
  exact hi (w.srdRelease_sample.trans hw) hw

end Stays

end OuterSample

end Sys2Proof.Machine
end

section
/-!
O32: the outer sample itself.
-/
set_option Elab.async false
namespace Sys2Proof.Machine
open Sys2Proof

section OuterSample
variable (s : State)

/-! ## What is read at the start of an outer sample -/

/-- A gate test that stops at the next boundary. -/
theorem State.endGateTest_parts {s : State} (result : Nat) : Within [.regs, .q91, .rk, .scan, .tmx] s (s.endGateTest result false) ∧
    OnlyPages [0x70] s (s.endGateTest result false) := by
  unfold State.endGateTest
  extract_lets v x y
  have hw : Within [.regs, .q91, .rk, .scan, .tmx] s v :=
    State.raise_within (by decide) (by decide) (by decide) (by decide) (State.wr_within (by decide) .rfl)
  have hp : OnlyPages [0x70] s v := (OnlyPages.refl.wr (by decide)).raise (by decide)
  clear_value v
  rw [if_neg (c := false = true) (by decide)]
  exact ⟨within_ite (within_upd hw (tmx := .inl (by decide))) .rfl, .ite (hp.upd (State.mk_regs ..)) .refl⟩

theorem State.watchTest_parts : Within [.regs, .q91, .rk, .scan, .tmx] s s.watchTest ∧ OnlyPages [0x70] s s.watchTest := by
  obtain ⟨w9, p9⟩ := State.endGateTest_parts (s := s) 9
  obtain ⟨w10, p10⟩ := State.endGateTest_parts (s := s) 10
  exact ⟨within_ite .rfl (within_ite w9 (within_ite w10 .rfl)), .ite .refl (.ite p9 (.ite p10 .refl))⟩

theorem State.takeVcoil_pages (v : Nat) : OnlyPages [0x24] s (s.takeVcoil v) := by
  unfold State.takeVcoil
  extract_lets low was u
  have hu : OnlyPages [0x24] s u := (OnlyPages.refl.wr (by decide)).wrB (by decide)
  clear_value u
  exact .ite (hu.raise (by decide)) hu

theorem State.takeVcoil_bare (v : Nat) : OnlyWhere Bare s (s.takeVcoil v) := by
  unfold State.takeVcoil
  extract_lets low was u
  have hu : OnlyWhere Bare s u := (OnlyWhere.refl.wr (by decide +kernel)).wrB (by decide +kernel)
  clear_value u
  exact .ite (hu.raise (bare_event _ (by decide))) hu

/-- The readings of an outer sample shown. -/
def State.readingsShown (s : State) (r : Readings) : State :=
  let t := ((s.wrI F.TRACK_VLINK_V_LINK r.vLink).wrI F.TRACK_VPLANT_V_PLANT r.vPlant).takeVcoil (satCount 16 r.vCoil)
  (t.wr F.SUPPLY_VOLTS_VAUX (satCount 16 r.vAux)).wr F.SUPPLY_VOLTS_BANK (satCount 16 r.bank)

theorem State.readingsShown_spec (r : Readings) : Within [.regs, .q91, .rk, .scan] s (s.readingsShown r) ∧
    OnlyPages [0x02, 0x23, 0x24] s (s.readingsShown r) ∧ OnlyWhere Bare s (s.readingsShown r) := by
  unfold State.readingsShown
  extract_lets t
  have hb : OnlyWhere Bare s t := ((OnlyWhere.refl.wrI (by decide +kernel)).wrI (by decide +kernel)).trans (State.takeVcoil_bare _ _)
  refine ⟨?_, ?_, (hb.wr (by decide +kernel)).wr (by decide +kernel)⟩
  · exact State.wr_within (by decide) (State.wr_within (by decide) (State.takeVcoil_within (by decide) (by decide) (by decide) (by decide)
      (State.wrI_within (by decide) (State.wrI_within (by decide) .rfl))))
  · have ht : OnlyPages [0x02, 0x23, 0x24] s t := ((OnlyPages.refl.wrI (by decide)).wrI (by decide)).andThen (State.takeVcoil_pages _ _) (by decide)
    exact (ht.wr (by decide)).wr (by decide)

/-- The state with the readings taken and no outer period counted. -/
def State.counted (s : State) (r : Readings) : State := { s with meas := r, pwm := { s.pwm with outerCnt := 0 } }

theorem State.takeReadings_eq (r : Readings) : State.takeReadings { s with pwm := { s.pwm with outerCnt := 0 } } r =
    { (s.counted r).readingsShown r with loop := { ((s.counted r).readingsShown r).loop with
        vStr := toQ r.vString, vBus := toQ (if ((s.counted r).readingsShown r).busOpen then r.vLink else r.vPlant) } } := rfl

/-- What an outer sample keeps of a state before its evaluation. -/
def Sampling (s t : State) : Prop := t.prot = s.prot ∧ t.track.disc = s.track.disc ∧ t.track.aborting = s.track.aborting ∧
  t.rd F.LOOP_STATUS_EVAL = s.rd F.LOOP_STATUS_EVAL ∧ OnlyWhere Bare s t

theorem Sampling.trans {s t u : State} (h : Sampling s t) (h' : Sampling t u) : Sampling s u := by
  obtain ⟨a, b, c, d, e⟩ := h
  obtain ⟨a', b', c', d', e'⟩ := h'
  exact ⟨a'.trans a, b'.trans b, c'.trans c, d'.trans d, e.trans e'⟩

theorem Sampling.of {s t : State} {T : List Part} {P : List Nat} (hw : Within T s t) (hp : OnlyPages P s t) (hb : OnlyWhere Bare s t) (h1 : Part.prot ∉ T)
    (h2 : Part.track ∉ T) (h3 : 0x22 ∉ P) : Sampling s t :=
  ⟨hw.prot h1, congrArg Track.disc (hw.track h2), congrArg Track.aborting (hw.track h2), hp.rd (f := F.LOOP_STATUS_EVAL) h3, hb⟩

/-- The state in which an outer sample looks at its transitions. -/
def State.outerTaken (s : State) (r : Readings) : State :=
  (State.takeReadings { s with pwm := { s.pwm with outerCnt := 0 } } r).watchTest.takeTarget.advance

theorem State.takeReadings_sampling (r : Readings) :
    Sampling s (State.takeReadings { s with pwm := { s.pwm with outerCnt := 0 } } r) ∧
    (State.takeReadings { s with pwm := { s.pwm with outerCnt := 0 } } r).sample = (r, toQ r.vString, 0) := by
  obtain ⟨hw, hp, hb⟩ := (s.counted r).readingsShown_spec r
  have hm : ((s.counted r).readingsShown r).meas = r := hw.meas (by decide)
  have hc : ((s.counted r).readingsShown r).pwm.outerCnt = 0 := congrArg Pwm.outerCnt (hw.pwm (by decide))
  have h0 : Sampling s (s.counted r) := ⟨rfl, rfl, rfl, State.rd_regs (State.mk_regs ..) _, .of_regs (State.mk_regs ..)⟩
  have h1 : Sampling s ((s.counted r).readingsShown r) := h0.trans (.of hw hp hb (by decide) (by decide) (by decide))
  rw [State.takeReadings_eq]
  generalize (s.counted r).readingsShown r = u at *
  refine ⟨h1.trans ⟨rfl, rfl, rfl, State.rd_regs (State.mk_regs ..) _, .of_regs (State.mk_regs ..)⟩, ?_⟩
  rw [State.sample, ← hc]
  exact congrArg (fun m => (m, toQ r.vString, u.pwm.outerCnt)) hm

theorem State.watchTest_sampling : Sampling s s.watchTest ∧ s.watchTest.sample = s.sample := by
  obtain ⟨hw, hp⟩ := s.watchTest_parts
  exact ⟨.of hw hp s.watchTest_bare (by decide) (by decide) (by decide), State.sample_within hw (by decide) (by decide) (by decide)⟩

theorem State.takeTarget_spec : OnlyPages [0x34] s s.takeTarget ∧ OnlyWhere Bare s s.takeTarget := by
  unfold State.takeTarget
  split
  · exact ⟨.refl, .refl⟩
  · exact ⟨.refl, .refl⟩
  · extract_lets v d
    have hp : OnlyPages [0x34] s v := (OnlyPages.refl.wrI (by decide)).upd (State.mk_regs ..)
    have hb : OnlyWhere Bare s v := (OnlyWhere.refl.wrI (by decide +kernel)).upd (State.mk_regs ..)
    clear_value v
    exact ⟨.ite (hp.wrI (by decide)) hp, .ite (hb.wrI (by decide +kernel)) hb⟩

theorem State.takeTarget_sampling : Sampling s s.takeTarget ∧ s.takeTarget.sample = s.sample := by
  have hw : Within [.regs, .disp] s s.takeTarget := State.takeTarget_within (by decide) (by decide) .rfl
  obtain ⟨hp, hb⟩ := s.takeTarget_spec
  exact ⟨.of hw hp hb (by decide) (by decide) (by decide), State.sample_within hw (by decide) (by decide) (by decide)⟩

theorem State.advance_sampling : Sampling s s.advance ∧ s.advance.sample = s.sample :=
  ⟨⟨rfl, rfl, rfl, State.rd_regs (State.mk_regs ..) _, .of_regs (State.mk_regs ..)⟩, rfl⟩

theorem State.outerTaken_spec (r : Readings) : Sampling s (s.outerTaken r) ∧ (s.outerTaken r).sample = (r, toQ r.vString, 0) := by
  obtain ⟨h1, e1⟩ := s.takeReadings_sampling r
  unfold State.outerTaken
  generalize State.takeReadings { s with pwm := { s.pwm with outerCnt := 0 } } r = u at *
  obtain ⟨h2, e2⟩ := u.watchTest_sampling
  obtain ⟨h3, e3⟩ := u.watchTest.takeTarget_sampling
  generalize u.watchTest.takeTarget = v at *
  obtain ⟨h4, e4⟩ := v.advance_sampling
  exact ⟨((h1.trans h2).trans h3).trans h4, e4.trans (e3.trans (e2.trans e1))⟩

/-! ## What comes after the chain -/

theorem State.chainShown_beat (iSet hi lo : Int) (conflict : Bool) (stim i1 iCmd sum : Int) :
    BeatKept s (s.chainShown iSet hi lo conflict stim i1 iCmd sum) := by
  unfold State.chainShown
  extract_lets m burst tot v atHi atLo w x y z l p q
  have hw : BeatKept s w := (BeatKept.of_pwm rfl rfl : BeatKept s v).wrB.wrB
  clear_value w
  have hx : BeatKept s x := .ite hw.raise hw
  clear_value x
  have hy : BeatKept s y := .ite hx.raise hx
  clear_value y
  have hz : BeatKept s z := hy.trans (.within (State.noteRun_within (T := [.regs, .imp]) (by decide) (by decide) .rfl) (by decide) (by decide))
  clear_value z
  have hq : BeatKept s q := hz.trans ⟨rfl, rfl, rfl, rfl⟩
  clear_value q
  exact hq.trans (.within (State.settleActive_within (T := [.regs, .q91, .rk, .scan]) (by decide)
    (State.refreshRamping_within (by decide) (by decide) (by decide) (by decide) .rfl)) (by decide) (by decide))

theorem State.chain_beat : BeatKept s s.chain := by
  unfold State.chain
  extract_lets e stim
  have he : BeatKept s e := ⟨rfl, rfl, rfl, rfl⟩
  clear_value e
  split
  rename_i iSet v h
  have hv : BeatKept e v := (congrArg (fun p : Int × State => BeatKept e p.2) h).mp
    (.within (State.setCurrent_within (T := [.regs, .loop]) (by decide) (by decide) .rfl) (by decide) (by decide))
  split
  rename_i hi lo conflict w h
  have hw : BeatKept v w := (congrArg (fun p : Int × Int × Bool × State => BeatKept v p.2.2.2) h).mp
    (.within (State.evalLimits_within (T := [.regs, .q91, .loop, .rk, .scan]) (by decide) (by decide) (by decide) (by decide) (by decide) .rfl)
      (by decide) (by decide))
  extract_lets i1 iCmd
  split
  rename_i sum x h
  have hx : BeatKept w x := (congrArg (fun p : Int × State => BeatKept w p.2) h).mp
    (.within (State.evalTotal_within (T := [.regs, .loop]) (by decide) (by decide) .rfl) (by decide) (by decide))
  exact (((he.trans hv).trans hw).trans hx).trans (x.chainShown_beat iSet hi lo conflict stim i1 iCmd sum)

theorem State.addPhase_beat (n : Nat) : BeatKept s (s.addPhase n) := by
  unfold State.addPhase
  extract_lets run sum v p w l x
  have hv : BeatKept s v := .within (State.setInteg_within (T := [.regs]) (by decide) .rfl) (by decide) (by decide)
  clear_value v
  have hw : BeatKept s w := BeatKept.raise (hv.trans (.setPhase n _))
  clear_value w
  have hx : BeatKept s x := hw.trans ⟨rfl, rfl, rfl, rfl⟩
  clear_value x
  exact .ite (hx.trans (⟨rfl, rfl, rfl, rfl⟩)) hx

theorem State.beginShed_beat : BeatKept s s.beginShed := by
  unfold State.beginShed
  split
  · exact .refl
  · exact ((BeatKept.refl.wr).trans (.setPhase _ _)).wrB

theorem State.shedding_beat : BeatKept s s.shedding := by
  unfold State.shedding
  extract_lets n keep iAdd iShed d low
  have hk : ∀ {t : State} {x : Option Nat}, BeatKept s t → BeatKept s (keep t x) := fun h => h.trans ⟨rfl, rfl, rfl, rfl⟩
  refine .ite (hk .refl) (.ite (.ite (s.cancelShed_beat true) .refl) ?_)
  split
  · exact hk (s.addPhase_beat _)
  · exact .ite (hk s.beginShed_beat) (hk .refl)

theorem State.bursting_beat : BeatKept s s.bursting := by
  unfold State.bursting
  extract_lets d two p low
  have hb : ∀ t : State, BeatKept s t → BeatKept s (t.raise 0x20 3) := fun t h => h.raise
  exact .ite (.ite ⟨rfl, rfl, rfl, rfl⟩ .refl) (.ite (hb _ ⟨rfl, rfl, rfl, rfl⟩) ⟨rfl, rfl, rfl, rfl⟩)

theorem State.disconnect3_beat (always : Bool) : BeatKept s (s.disconnect3 always) :=
  .within (T := [.regs, .out, .crown, .q91, .track, .prot, .rk, .scan, .est, .ringSt, .bal, .tele, .nvm])
    (State.disconnect3_within (by decide) (by decide) (by decide) (by decide) (by decide) (by decide) (by decide) (by decide) (by decide) (by decide)
      (by decide) (by decide) (by decide) .rfl) (by decide) (by decide)

theorem State.rampEnds_beat : BeatKept s s.rampEnds := by
  have hd : BeatKept s s.disconnectRamp := by
    unfold State.disconnectRamp
    extract_lets c k v
    have hv : BeatKept s v := BeatKept.wrB ⟨rfl, rfl, rfl, rfl⟩
    clear_value v
    exact .ite (BeatKept.trans (hv.trans ⟨rfl, rfl, rfl, rfl⟩) (State.disconnect3_beat _ _)) hv
  unfold State.rampEnds
  extract_lets ramping at0
  exact .ite ⟨rfl, rfl, rfl, rfl⟩ (.ite hd .refl)

/-- What an evaluated outer sample does after the chain. -/
def State.afterChain (s : State) : State := s.shedding.bursting.rampEnds.mirrorLoop

theorem State.mirrorLoop_parts : Within [.out, .pair] s s.mirrorLoop := State.mirrorLoop_within (by decide) (by decide) .rfl

theorem State.afterChain_spec : OnlyWhere Bare s s.afterChain ∧ s.afterChain.pwm.outerCnt = s.pwm.outerCnt ∧ s.afterChain.meas = s.meas := by
  have hm := State.mirrorLoop_parts s.shedding.bursting.rampEnds
  have hb : BeatKept s s.afterChain := ((s.shedding_beat.trans (State.bursting_beat _)).trans (State.rampEnds_beat _)).trans
    (.within hm (by decide) (by decide))
  refine ⟨((s.shedding_bare.trans (State.bursting_bare _)).trans (State.rampEnds_bare _)).trans (.of_regs (hm.regs (by decide))), hb.2.2.1, ?_⟩
  exact (State.mirrorLoop_within (T := [.regs, .out, .crown, .q91, .pwm, .loop, .track, .prot, .rk, .scan, .imp, .est, .ringSt, .bal, .tele, .nvm, .pair])
    (by decide) (by decide) (State.rampEnds_within (by decide) (by decide) (by decide) (by decide) (by decide) (by decide) (by decide) (by decide)
      (by decide) (by decide) (by decide) (by decide) (by decide) (by decide) (State.bursting_within (by decide) (by decide) (by decide) (by decide)
        (by decide) (State.shedding_within (by decide) (by decide) (by decide) (by decide) (by decide) (by decide) (by decide) .rfl)))).meas (by decide)

/-! ## The outer sample -/

/-- MATCHED follows the step and the voltages. -/
def State.matchShown (s : State) : State := s.wrB F.TRACK_STATUS_MATCHED (s.track.tracking && s.rd F.TRACK_STATUS_STEP == 8 && s.matchNow)

theorem State.matchShown_spec : s.matchShown.sample = s.sample ∧ s.matchShown.rd F.LOOP_STATUS_EVAL = s.rd F.LOOP_STATUS_EVAL ∧ OnlyWhere Bare s s.matchShown :=
  ⟨State.sample_within (T := [.regs]) (State.wrB_within (by decide) .rfl) (by decide) (by decide) (by decide),
    State.rd_wrB_apart _ _ _ _ (by decide) (by decide), OnlyWhere.refl.wrB (by decide +kernel)⟩

theorem exec_outerSample (r : Readings) : exec (.outerSample r) s = if (s.outerTaken r).nearZero.matchShown.on F.LOOP_STATUS_EVAL
    then .next (s.outerTaken r).nearZero.matchShown.srdStep.chain.afterChain else .next (s.outerTaken r).nearZero.matchShown.mirrorLoop := rfl

/-- With no transition near its zero nothing ends. -/
theorem State.nearZero_same {s : State} (hs : s.prot.srd = none) (hd : s.track.disc ≠ 3) (ha : s.track.aborting ≠ 2) : s.nearZero = s := by
  have hv : (if (s.track.disc == 3 && s.mode != .hold) = true then s.disconnect3 false else s) = s := if_neg (by simp [hd])
  have hw : (if (s.track.aborting == 2 && s.mode != .hold) = true then s.abortBus false else s) = s := if_neg (by simp [ha])
  unfold State.nearZero
  extract_lets v w
  have hv : v = s := hv
  clear_value v
  subst hv
  have hw : w = v := hw
  clear_value w
  subst hw
  rw [hs]
  exact if_neg (by simp)

end OuterSample

theorem State.sample_iff {s : State} {r : Readings} {v : Int} {n : Nat} : s.sample = (r, v, n) ↔ s.meas = r ∧ s.loop.vStr = v ∧ s.pwm.outerCnt = n := by
  rw [State.sample, Prod.mk.injEq, Prod.mk.injEq]

/-- An outer sample while the loop does not evaluate. -/
theorem outerSample_off (r : Readings) (s : State) (he : s.on F.LOOP_STATUS_EVAL = false) :
    Gives (.outerSample r) s fun t => t.meas = r ∧ t.loop.vStr = toQ r.vString ∧ t.pwm.outerCnt = 0 := by
  obtain ⟨⟨_, _, _, h4, _⟩, hs⟩ := s.outerTaken_spec r
  obtain ⟨m1, m2, _⟩ := (s.outerTaken r).nearZero.matchShown_spec
  have h0 : s.rd F.LOOP_STATUS_EVAL = 0 := by simpa [State.on] using he
  have hz : (s.outerTaken r).nearZero.matchShown.on F.LOOP_STATUS_EVAL = false := by
    rw [State.on, m2, (s.outerTaken r).nearZero_evalOff (h4.trans h0)]
    rfl
  have hx := exec_outerSample s r
  have hu : (s.outerTaken r).nearZero.matchShown.sample = (r, toQ r.vString, 0) := m1.trans ((State.nearZero_sample _).trans hs)
  generalize (s.outerTaken r).nearZero.matchShown = u at hx hz hu
  rw [if_neg (by simp [hz])] at hx
  have hsm : u.mirrorLoop.sample = (r, toQ r.vString, 0) :=
    (State.sample_within u.mirrorLoop_parts (by decide) (by decide) (by decide)).trans hu
  exact .of_eq hx rfl (State.sample_iff.1 hsm)

/-- An outer sample that the loop evaluates, with no transition near its zero. -/
theorem outerSample_on (r : Readings) (s : State) (he : s.on F.LOOP_STATUS_EVAL = true) (hs : s.prot.srd = none) (hd : s.track.disc ≠ 3)
    (ha : s.track.aborting ≠ 2) : Gives (.outerSample r) s fun t => t.meas = r ∧ t.pwm.outerCnt = 0 ∧ -s.iTotMax ≤ t.rdI F.LOOP_ITOT_I_TOT ∧
    t.rdI F.LOOP_ITOT_I_TOT ≤ s.iTotMax := by
  obtain ⟨⟨h1, h2, h3, h4, h5⟩, hsm⟩ := s.outerTaken_spec r
  have hx := exec_outerSample s r
  rw [State.nearZero_same (by rw [h1]; exact hs) (by rw [h2]; exact hd) (by rw [h3]; exact ha)] at hx
  obtain ⟨m1, m2, m3⟩ := (s.outerTaken r).matchShown_spec
  have hz : (s.outerTaken r).matchShown.on F.LOOP_STATUS_EVAL = true := by
    rw [State.on, m2, h4]
    exact he
  have hu : (s.outerTaken r).matchShown.sample = (r, toQ r.vString, 0) := m1.trans hsm
  have hb : OnlyWhere Bare s (s.outerTaken r).matchShown := h5.trans m3
  rw [if_pos hz] at hx
  generalize (s.outerTaken r).matchShown = u at *
  have hw : Within [.regs] u u.srdStep := State.srdStep_within (by decide) .rfl
  have hi : u.srdStep.iTotMax = s.iTotMax := (hb.trans (.ite (OnlyWhere.refl.wr (by decide +kernel)) .refl)).iTotMax
  have hm : u.srdStep.chain.meas = u.meas := (State.chain_within (T := [.regs, .q91, .pwm, .loop, .rk, .scan, .imp]) (by decide) (by decide) (by decide)
    (by decide) (by decide) (by decide) (by decide) (State.srdStep_within (by decide) .rfl)).meas (by decide)
  have hc : u.srdStep.chain.pwm.outerCnt = u.pwm.outerCnt := (State.chain_beat _).2.2.1.trans (congrArg Pwm.outerCnt (hw.pwm (by decide)))
  have hk := hi ▸ u.srdStep.chain_clamped
  generalize u.srdStep.chain = v at *
  obtain ⟨a1, a2, a3⟩ := v.afterChain_spec
  obtain ⟨u1, _, u3⟩ := State.sample_iff.1 hu
  exact .of_eq hx rfl ⟨a3.trans (hm.trans u1), a2.trans (hc.trans u3), hk.keep a1⟩

/-- Settles O32: the clamp of the total current reference is not passed after the chain, and an evaluation touches no phase. -/
theorem loopSamples : Obligations.LoopSamples := by
  unfold Obligations.LoopSamples
  refine ⟨outerSample_off, outerSample_on, fun n code s he => (innerSamples n code s he).1, fun n code s he => (innerSamples n code s he).2.1,
    fun n code s he => (innerSamples n code s he).2.2, lateSample, startSample, fun i v s => ?_⟩
  have hx : exec (.loopPlausWindow i v) s = execLoopPlausWindow i v s := rfl
  unfold execLoopPlausWindow at hx
  split at hx
  · exact .of_eq hx rfl (State.newWindow_sums _)
  · exact .of_eq hx rfl (State.newWindow_sums _)

end Sys2Proof.Machine
end
